-- ==== Sys2Proof/Word.lean ====
section
/-! DEFINITION. The word types of the part and their plainest arithmetic: the 32-bit native register (spec/00_scope.md
R8), the byte of the windows and of Marrow, and signed reading of a field. -/

namespace Sys2Proof

/-- A native register (R8). -/
abbrev Word := BitVec 32

/-- A byte of a byte window or of Marrow. -/
abbrev Byte := BitVec 8

/-- The two's-complement value of the low w bits of n. -/
def signedOf (w n : Nat) : Int :=
  if n % 2 ^ w < 2 ^ (w - 1) then (n % 2 ^ w : Nat) else (n % 2 ^ w : Nat) - (2 ^ w : Nat)

/-- The low w bits that carry the signed value i. -/
def unsignedOf (w : Nat) (i : Int) : Nat := (i % (2 ^ w : Nat)).toNat

/-- i limited to the range lo to hi. -/
def clampInt (lo hi i : Int) : Int := max lo (min hi i)

end Sys2Proof
end

