-- ==== Sys2Proof/Data.lean ====
section
/-! DEFINITION. The records that commands carry from outside and that State holds: readings, file headers, verdicts of
signature checks, measured metrics.  Each names the rule of spec/ that lays it out. -/

namespace Sys2Proof

/-- Who issues a register write (spec/22 R566, INFO [7:4]): the host bus, PCIe, Casrum control, core k, or the KT-440
personality on SQ0, whose writes to what it owns are not native writes (R22). -/
inductive Master where
  | hostBus
  | pcie
  | casrum
  | core (k : Nat)
  | personality
  deriving DecidableEq, Repr

/-- The strap balls as they stand when the internal reset ends (R48). -/
structure Straps where
  hbMode : Bool
  bootSrc : Nat
  cfgSel : Nat
  deriving DecidableEq, Repr

/-- A set of sensor readings in quarter degrees (R58, R60): TS0 to TS7 and the board diode where one is detected. -/
structure Temps where
  ts : List Int
  text : Option Int
  deriving DecidableEq, Repr

/-- The fields of a signature block (R536), whether its key has the types of R533, and the outcome of the two
cryptographic computations on a signed object (R533, R537): SHA-256 of its PUBKEY and the HSS verification. -/
structure SigBlock where
  formatOk : Bool
  keySel : Nat
  pubKey : Nat
  typesOk : Bool
  pubHash : Nat
  verifies : Bool
  deriving DecidableEq, Repr

/-- One record of a MAP frame (R160): kind, instance, logical pod. -/
structure MapRec where
  kind : Nat
  inst : Nat
  lpod : Nat
  deriving DecidableEq, Repr

/-- One record of a PACE frame (R160): logical pod, its critical pea, its downstream budget in ticks (R142, R144). -/
structure PaceRec where
  lpod : Nat
  pea : Nat
  budget : Nat
  deriving DecidableEq, Repr

/-- The header of a bitstream file (R158), with what the rest of the file says (R159 to R161): whether MAGIC, the zero
bytes and HCRC hold, whether the sizes and the frames keep their rules, the pods the frames name, and the MAP and PACE
records. -/
structure BsHdr where
  magicOk : Bool := true
  format : Nat := 1
  kind : Nat := 0
  family : Nat := 0
  version : Nat := 0
  baseVersion : Nat := 0
  secver : Nat := 0
  stepMin : Nat := 0
  stepMax : Nat := 0
  lpods : Nat := 0
  length : Nat := 0
  offer : Nat := 0
  paths : Nat := 0
  ens : Nat := 0
  dec : Nat := 0
  progs : Nat := 0
  xl : Nat := 0
  slch : Nat := 0
  vminMv : Nat := 0
  tjMin : Int := 0
  tjMax : Int := 0
  margin : Nat := 0
  podMask : Nat := 0
  rspool : Nat := 0
  iqs : Nat := 0
  aestx : Nat := 0
  aesrx : Nat := 0
  zerosOk : Bool := true
  hcrcOk : Bool := true
  sizesOk : Bool := true
  framesOk : Bool := true
  framePods : List Nat := []
  map : List MapRec := []
  pace : List PaceRec := []
  /-- The parts of the replay store of R286: pod, byte offset in the firmware region, size. -/
  replay : List (Nat × Nat × Nat) := []
  hash : Nat := 0
  deriving DecidableEq, Repr

/-- One of the eight code sections of a firmware image (R538). -/
structure FwSection where
  len : Nat
  entry : Nat
  deriving DecidableEq, Repr

/-- The header of a firmware image (R538); code holds each section's bytes. -/
structure FwHdr where
  formatOk : Bool
  sigOff : Nat := 0
  secver : Nat
  stepMin : Nat
  stepMax : Nat
  families : List Nat
  sections : List FwSection
  code : List (List Byte)
  hash : Nat
  deriving DecidableEq, Repr

/-- A frame of a bitstream file: its 16-byte header and its payload (R159). -/
structure FrameRec where
  head : List Byte
  payload : List Byte
  deriving DecidableEq, Repr

/-- The bytes of a bitstream file, cut where R158 and R159 cut them: the 256-byte header, the frames, and the rest, which
is the signature block. -/
structure BsFile where
  head : List Byte
  frames : List FrameRec
  sig : List Byte
  deriving DecidableEq, Repr

/-- The outcome of the cryptographic computations on a signed object (R533, R537): SHA-256 of its PUBKEY, and whether
the signature verifies. -/
structure SigVerdict where
  pubHash : Nat
  verifies : Bool
  deriving DecidableEq, Repr

/-- An image copy the boot ROM has read: the bytes of a firmware image or a bitstream file, the verdicts on its signature
block, and its SHA-256. -/
inductive Image where
  | firmware (bytes : List Byte) (v : SigVerdict) (hash : Nat)
  | bitstream (file : BsFile) (v : SigVerdict) (hash : Nat)
  deriving DecidableEq, Repr

/-- A record that Casrum packets and PCIe STREAM queues carry (R344, R355): type, timestamp, flags, instance (path, slot,
decoder, programme, port or event) and the record's bytes. -/
structure Rec where
  type : Nat
  ts : Nat
  flags : Nat
  inst : Nat
  bytes : List Nat
  deriving DecidableEq, Repr

/-- What the service link's detector measured at a preamble (R499, R500): the normalised correlation of consecutive
symbols in per cent with their timings in chips, the correlation energy of each aerial over 2 symbols, the gain step then
frozen, the power in 0.1 dBm and the carrier offset in 10 Hz. -/
structure SlDetect where
  corr : List (Nat × Int)
  energyA : Nat
  energyB : Nat
  gain : Nat
  rssi : Int
  foff : Int
  deriving DecidableEq, Repr

/-- What a calibration run measured (R521), as deviations from nominal: LNA gain in 0.01 dB from 16 dB; attenuator codes
in 0.01 dB; sub-ADC offsets in codes, gains in 0.001 %, skews in fs; for IL the changes of gain and skew from the
corrections in force; for LOOP the gain in 0.01 dB and the delay in ps. -/
structure CalMeas where
  lna : Int
  att : List Int
  offs : List Int
  gains : List Int
  skews : List Int
  dgains : List Int
  dskews : List Int
  loop : Int
  delay : Int
  trims : List Byte
  deriving DecidableEq, Repr

/-- A 64-sample block (R13, R15): its timestamp, its flag field and its samples. -/
structure Block where
  ts : Nat
  flags : Nat
  samples : List Int
  deriving DecidableEq, Repr

/-- A complex sample of a chain in units of 2^-23 (R186). -/
structure Cx where
  re : Int
  im : Int
  deriving DecidableEq, Repr

/-- What the estimators of a path measured over a metric window (R214, R215): the OR of the flags, whether a sample was
present, for each side its mean level in 0.01 dB re 1.0 with the LNA and ATT of its blocks, and the values in the
units of R214. -/
structure Meas where
  flags : Nat
  present : Bool
  sides : List (Int × Nat × Nat)
  cnr : Int
  cnrA : Int
  cnrB : Int
  mpath : Nat
  usn : Int
  foff : Int
  peak : Nat
  pilot : Nat
  amLock : Bool
  deriving DecidableEq, Repr

/-- An RDS block as classified (R220): the number of its first bit in the bit stream, its class, its offset word
(0 A, 1 B, 2 C, 3 C', 4 D), its 16 information bits and the instant of its first bit. -/
structure RdsBlock where
  bit : Nat
  cls : Nat
  off : Nat
  data : Nat
  t : Nat
  deriving DecidableEq, Repr

/-- A sub-channel of an ensemble's organisation as FIG 0/1 and 0/2 give it (R238, R244): SubChId, ASCTy, whether R229
lists it as supported, its size in capacity units and its bit rate in kbit/s. -/
structure SubCh where
  id : Nat
  ascTy : Nat
  supported : Bool
  size : Nat
  rate : Nat
  deriving DecidableEq, Repr

/-- A transmission frame as received (R235, R236): the null-symbol start, the measured offset in hertz, the bit error
ratio of the FIC in 10^-5, the 32 bytes of each FIB, and the organisation that FIGs 0/1 and 0/2 have given by then. -/
structure Frame where
  ts : Nat
  foff : Int
  ficBer : Nat
  fibs : List (List Nat)
  org : Option (List SubCh)
  deriving DecidableEq, Repr

/-- An audio service of an ensemble as FIGs 0/1, 0/2 and 0/8 give it (R244): its SId, SubChId, ASCTy, bit rate in kbit/s,
and protection as FIG 0/1 codes it. -/
structure DabService where
  sid : Nat
  sub : Nat
  ascTy : Nat := 0
  rate : Nat := 0
  prot : Nat := 0
  deriving DecidableEq, Repr

/-- A linkage set of FIG 0/6 (R244): LSN, LA, whether it is hard, ILS, its DAB SIds and its RDS PIs. -/
structure Linkage where
  lsn : Nat := 0
  la : Bool := true
  hard : Bool
  ils : Bool := false
  sids : List Nat
  pis : List Nat
  deriving DecidableEq, Repr

/-- What firmware has passed to Fennel from a slot (R244). -/
structure DabInfo where
  services : List DabService := []
  links : List Linkage := []
  /-- FM frequencies of FIG 0/21: PI and Hz. -/
  fm : List (Nat × Nat) := []
  /-- DAB ensembles of FIG 0/21: EId, K and FREQ. -/
  ens : List (Nat × Nat × Int) := []
  /-- Services carried in other ensembles (FIG 0/24): SId and EId. -/
  other : List (Nat × Nat) := []
  ecc : Nat := 0
  lto : Int := 0
  deriving DecidableEq, Repr

/-- A Marrow request (R282): the requester's number, the class of a pod's request, read or write, the address, the
length in bytes and, of a write, the bytes. -/
structure MReq where
  who : Nat
  cls : Nat
  write : Bool
  addr : Nat
  len : Nat
  data : List Byte
  deriving DecidableEq, Repr

/-- What the ECC found on a line (R294): an error corrected within one device, or an uncorrectable one. -/
inductive Ecc where
  | corrected (device : Nat)
  | uncorrectable
  deriving DecidableEq, Repr

/-- A frame start on a serial audio port (R303 to R305, R323): the direction it belongs to in AES3 format (0 output,
1 input; other formats drive both), its SYSCNT stamp, the BCLK edges counted since the frame start before, a preamble or
biphase violation, whether channel 1 carries preamble Z, and of the input the 32 bits of each slot, first-received bit at
bit 31 (in AES3 [31:8] audio, [7:4] V, U, C, P). -/
structure SapFrame where
  dir : Nat
  stamp : Nat
  edges : Nat
  violation : Bool
  z : Bool
  words : List Nat
  deriving DecidableEq, Repr

/-- A PTP event or response message (spec/13 R331 to R333): the sender's port identity, domain and sequence number, the
two-step flag, the timestamp it carries in nanoseconds, the correction field in units of 2^-16 ns, SYSCNT at its
ingress, and the interval of such messages in ticks. -/
structure PtpMsg where
  src : Nat
  domain : Nat
  seq : Nat
  twoStep : Bool
  time : Nat
  corr : Int
  stamp : Nat
  interval : Nat
  deriving DecidableEq, Repr

/-- An Announce message (spec/13 R331, R332): the sender's port identity, domain, the dataset in the order the best
master clock algorithm of IEEE 1588-2019 compares (priority 1, class, accuracy, variance, priority 2, identity), the
steps removed, the announce interval in ticks, currentUtcOffset, and SYSCNT at its ingress. -/
structure PtpAnn where
  src : Nat
  domain : Nat
  prio1 : Nat
  cls : Nat
  acc : Nat
  var : Nat
  prio2 : Nat
  ident : Nat
  steps : Nat
  interval : Nat
  utcOffset : Nat
  stamp : Nat
  deriving DecidableEq, Repr

/-- A received Ethernet frame (spec/13 R329, R330): its length, destination MAC and IPv4 addresses, VLAN tag (0
untagged), whether the datagram is a fragment, and its protocol: 0 ARP request for an address, 1 ICMP echo request,
2 IGMP query, 3 UDP, 4 a PTP peer-delay message, 5 PTP management or signalling; others are not supported. -/
structure EthFrame where
  len : Nat
  mac : Nat
  ip : Nat
  vlan : Nat
  frag : Bool
  proto : Nat
  deriving DecidableEq, Repr

/-- A received RTP packet (spec/13 R336, R340): its addresses and port, its RTP version and payload type, its SSRC, sequence
number and timestamp, and its frames, each with one value per channel. -/
structure RtpPacket where
  dst : Nat
  src : Nat
  port : Nat
  version : Nat
  pt : Nat
  ssrc : Nat
  seq : Nat
  ts : Nat
  frames : List (List Int)
  deriving DecidableEq, Repr

/-- A Casrum control request record (spec/13 R346). -/
structure CasReq where
  op : Nat
  tag : Nat
  addr : Nat
  data : Word
  mask : Word
  deriving DecidableEq, Repr

/-- A Casrum packet as received (spec/13 R343, R346, R347): port, source address and UDP port, MAGIC, VERSION, TYPE, LEN and
SEQ of its header, the bytes of its datagram, and its control records. -/
structure CasPacket where
  port : Nat
  src : Nat
  udp : Nat
  magic : Nat
  version : Nat
  type : Nat
  len : Nat
  seq : Nat
  size : Nat
  reqs : List CasReq
  deriving DecidableEq, Repr

/-! ## Izham-24 instructions (spec/17) -/

/-- A prefix (R441): REP #n, REP gR (register 0 is the reserved byte 0xD0), SEGO SDk, XIMM X, SAT. -/
inductive IzPre where
  | repN (n : BitVec 8)
  | repG (r : BitVec 4)
  | sego (k : BitVec 4)
  | ximm (x : BitVec 16)
  | sat
  deriving DecidableEq, Repr

/-- Opcodes of format F0. -/
inductive IzF0 where
  | nop | sync | ret | rti | lexit | ei | di
  deriving DecidableEq, Repr

/-- Opcodes of format FRR. -/
inductive IzFrr where
  | add | sub | and | or | xor | shl | shr | sra | mul | mulh | min | max | div | divu | rem
  deriving DecidableEq, Repr

/-- Opcodes of format FRI. -/
inductive IzFri where
  | addi | andi | ori | xori | shli | shri | srai | muli | movi
  deriving DecidableEq, Repr

/-- Opcodes of format FR. -/
inductive IzFr where
  | mov | neg | abs | not | clz | sext8 | sext16 | mfsw | mtsw | mfsp | mtsp | push | pop | pusha | popa
  | jmpr | callr | mfp | setsd | getsd
  deriving DecidableEq, Repr

/-- The conditions of Bcc and BccI. -/
inductive IzCc where
  | eq | ne | lt | ge | ltu | geu
  deriving DecidableEq, Repr

/-- Opcodes of format FM, and LDP and ADDP, which share its bytes. -/
inductive IzFm where
  | ld | st | ldx | stx | ldc | stc | ldp | addp
  deriving DecidableEq, Repr

/-- Opcodes of format FA. -/
inductive IzFa where
  | mpy | mac | msu | clra | ext | mova | adda | sha | macp | cmac | cmacj
  deriving DecidableEq, Repr

/-- Opcodes of map 1, format FX. -/
inductive IzFx where
  | mfls | mtls | mfle | mtle | mflc | mtlc | mfa | mta | mfpb | core
  deriving DecidableEq, Repr

/-- A base instruction with the fields of its format (R444), reserved fields included: z, z0 and z1 are fields marked 0. -/
inductive IzOp where
  | f0 (o : IzF0)
  | fr (o : IzFr) (x y : BitVec 4)
  | frr (o : IzFrr) (d a b z : BitVec 4)
  | fri (o : IzFri) (d a : BitVec 4) (imm : BitVec 8)
  | fb (c : IzCc) (a b : BitVec 4) (disp : BitVec 16)
  | br (z0 z1 : BitVec 4) (disp : BitVec 16)
  | fbi (c : IzCc) (a z : BitVec 4) (imm : BitVec 8) (disp : BitVec 16)
  | fj (link : Bool) (dest : BitVec 24)
  | fm (o : IzFm) (g : BitVec 4) (m : BitVec 1) (n : BitVec 3) (x : BitVec 8)
  | fa (o : IzFa) (b1 : BitVec 8) (k : BitVec 2) (x : BitVec 6)
  | loop (count disp : BitVec 16)
  | loopr (c z : BitVec 4) (disp : BitVec 16)
  | fx (o : IzFx) (d x : BitVec 4)
  deriving DecidableEq, Repr

/-- Who issues an Izham instruction and how: the logical core, its prefixes in order, and the replies Marrow gives its
requests in order (R298; an unlisted reply is OK). -/
structure IzHead where
  core : Nat
  pre : List IzPre
  replies : List Nat
  deriving DecidableEq, Repr

end Sys2Proof
end

