-- ==== Sys2Proof/Syntax.lean ====
section
/-! DEFINITION. The commands of the block: one constructor per row of spec/opcode_table.json, with the operands the
row's rule gives it.  A command is a register write, an operation, or an event the part detects or is shown; a command
that happens at an instant the spec fixes carries that instant, and one that follows a measurement carries it. -/

namespace Sys2Proof

/-- The commands of spec/opcode_table.json. -/
inductive Instr where
  /-- RESET_N_ASSERT (R66): A low pulse on RESET_N that takes effect returns the part to RESET from any state. -/
  | resetNAssert (ns : Nat) (took : Bool)
  /-- POWER_ON_TIMING_DONE (R54): 2 ms after every rail passes its brownout threshold with the HK oscillator running, power-on timing completes. -/
  | powerOnTimingDone
  /-- INTERNAL_RESET_END (R54): The internal reset ends at the later of RESET_N rising and power-on timing, and the boot ROM starts. -/
  | internalResetEnd (straps : Straps) (early : Bool) (temps : Temps) (licVerifies : Bool)
  /-- BROWNOUT (R55): A rail below its brownout threshold for 1 us mutes the DAC, releases the PA balls, idles SerDes and enters reset. -/
  | brownout (rails : Nat) (nvLost : Bool)
  /-- THERM_WARN (R59): A sensor reading at or above WARN_C sets SYS_THERM.WARN and raises THERM_WARN, and a reading 2 C below clears it. -/
  | thermWarn (temps : Temps)
  /-- THERMAL_TRIP (R59): A sensor reading of 127.50 C mutes the DAC, releases the PA balls, idles SerDes and enters reset. -/
  | thermalTrip (temps : Temps)
  /-- HK_STOP (R89): The monitor detects the HK crystal stopped for 1 us and mutes the DAC, releases the PA balls and clears HK_OK. -/
  | hkStop
  /-- HK_RESTORE (R89): HK_OK returns to 1 once the crystal has run for 10 ms. -/
  | hkRestore
  /-- PERST_ASSERT (R359): PERST_N assertion resets the PCIe interface, clears queue enables and discards pending records. -/
  | perstAssert
  /-- PERST_RELEASE (R68): A rise of PERST_N starts the 100 ms before the endpoint answers configuration requests. -/
  | perstRelease
  /-- PCIE_LINK_CHANGE (R359): The PCIe link comes up or goes down, with loss of link handled as PERST_N. -/
  | pcieLinkChange (up : Bool) (gen lanes : Nat)
  /-- MARROW_INIT_DONE (R281): Marrow training and zeroing completes and INIT_DONE is set. -/
  | marrowInitDone (trained : Nat)
  /-- REF_MEASURE_DONE (R70): The 1 ms measurement of REF_IN completes and the ROM programs the SPLL for the reference found, or leaves it free. -/
  | refMeasureDone (hz : Nat)
  /-- DIRECTORY_READ (R69): A flash directory copy is read and checked, falling back to copy 1 or recovery. -/
  | directoryRead (copy : Nat) (bytes : List Byte)
  /-- DIRECTORY_READ_TIMEOUT (R72): A directory read not complete within 10 ms counts as FLASH. -/
  | directoryReadTimeout (copy : Nat)
  /-- IMAGE_VERIFY (R71): A read image copy is checked for format, key, signature, rollback, stepping and pairing, with the alternate copy tried on failure. -/
  | imageVerify (img : Image)
  /-- FABRIC_CONFIGURED (R155): Fabric configuration completes and all pods enter ACTIVE at the next release instant, entering LOADED. -/
  | fabricConfigured (t : Nat)
  /-- FIRMWARE_READY (R65): Firmware reports ready and the part enters NEGOTIATE with FEAT_OFFER valid. -/
  | firmwareReady
  /-- LOAD (R74): SYS_BOOT_CMD.LOAD checks and loads the images named in SYS_BOOT_IMG during a PCIe boot. -/
  | bootLoad (m : Master)
  /-- FEAT_ACCEPT_WRITE (R82): A write to FEAT_ACCEPT takes effect except for clearing active bits, which is refused with LOCKED. -/
  | featAcceptWrite (m : Master) (w : Nat) (v : Word)
  /-- LOCK (R81): A write of FEAT_LOCK.LOCK takes the accepted features and starts a lock. -/
  | featLock (m : Master)
  /-- LOCK_COMPLETE (R81): The lock completes, applies R28, writes FEAT_REJECT and FEAT_ACTIVE, and the first one enters RUN. -/
  | lockComplete
  /-- KT440_AUTO_LOCK (R84): In KT-440 mode firmware sets bit 17 and locks, repeating after a BUSY refusal. -/
  | kt440AutoLock
  /-- PERSONALITY_READY (R387): The KT-440 personality becomes ready, resets its registers, clears BUSY and sets TDONE and READY. -/
  | personalityReady
  /-- COMMIT (R98): SPLL_CMD.COMMIT checks the shadow divider values and sets PEND. -/
  | spllCommit (m : Master)
  /-- DIV_COMMIT (R98): At the next phase-detector comparison the committed values become active, the LFSR reloads and DIV_COMMIT is raised. -/
  | divCommit
  /-- CLK_SRC_CHANGE (R93): A change of CLK_CTL.SRC while locked is handled as a loss of lock followed by a return on the new source. -/
  | clkSrcChange (m : Master) (src : Nat)
  /-- REF_WINDOW (R91): Each 1 ms window measures REF_IN and decides presence or loss by frequency. -/
  | refWindow (mhz : Nat)
  /-- REF_QUALIFY (R107): A reference present continuously for REF_QUAL_MS qualifies, Delta is measured and applied by the RETURN mode. -/
  | refQualify (delta : Int)
  /-- SPLL_LOCK (R100): The phase error stays within 250 ps for 4,096 comparisons and the SPLL declares lock. -/
  | spllLock
  /-- SPLL_FAIL (R101): Lock not declared within 5 ms raises SPLL_FAIL and enters FREE. -/
  | spllFail
  /-- SPLL_LOSS (R103): A loss condition is completed and the SPLL enters HOLDOVER or FREE, with the DAC muted and blocks flagged CLK_SUSPECT. -/
  | spllLoss (tf : Nat)
  /-- HOLD_SECOND (R106): Each whole second in HOLDOVER or FREE increments HOLD_S. -/
  | holdSecond
  /-- SLEW_DONE (R107): A slew closes Delta and the state goes from SLEWING to LOCKED. -/
  | slewDone
  /-- PROGRAMME_CLOCK_FADE (R104): When the bridge ends without lock the programme output fades to zero over 20 ms. -/
  | programmeClockFade (p : Nat)
  /-- SYSCNT_READ (R111): A read of CLK_SYSCNT_LO returns SYSCNT and latches the high half. -/
  | syscntRead
  /-- PTP_SYNC (R333): An accepted Sync updates the mapping and the servo, and may enter SLAVE. -/
  | ptpSync (p : PtpMsg)
  /-- PTP_FOLLOW_UP (R332): A Follow_Up completes a two-step Sync. -/
  | ptpFollowUp (p : PtpMsg)
  /-- PTP_DELAY_RESP (R333): A Delay_Resp gives a path delay measurement. -/
  | ptpDelayResp (p : PtpMsg)
  /-- PTP_ANNOUNCE (R332): An Announce is received and the best master clock algorithm may select another parent. -/
  | ptpAnnounce (p : PtpAnn)
  /-- PTP_ANNOUNCE_TIMEOUT (R332): ANN_TO announce intervals without an Announce from the parent make the port leave SLAVE. -/
  | ptpAnnounceTimeout (t : Nat)
  /-- PTP_SYNC_TIMEOUT (R332): 4 Sync intervals without an accepted Sync make the port leave SLAVE. -/
  | ptpSyncTimeout (t : Nat)
  /-- PTP_MASTER_SEND (R334): As master the port sends Announce and two-step Sync at its intervals. -/
  | ptpMasterSend (kind t : Nat)
  /-- PPS_PULSE (R335): PPS_OUT rises at each whole PTP second. -/
  | ppsPulse (t : Nat)
  /-- PPS_END (R335): PPS_OUT falls 10 ms after it rose. -/
  | ppsEnd (t : Nat)
  /-- GAIN_APPLY (R120): RFE_CMD.APPLY for an input chooses the next ADC block boundary and sets PEND. -/
  | gainApply (m : Master) (inA inB : Bool)
  /-- GAIN_APPLIED (R120): At the boundary the shadow gain becomes active, GCHG is recorded and GAIN_APPLIED is raised. -/
  | gainApplied (a t : Nat)
  /-- OVL_WINDOW_END (R124): At the end of each 1 ms window clips are counted, clip and peak windows judged and RFEa_POWER written. -/
  | ovlWindowEnd (a t clipped : Nat) (peak avg : Int)
  /-- LNA_PROTECT (R125): The LNA protection detector trips, sets PROT, and bypasses the LNA when PROT_EN is 1. -/
  | lnaProtect (a : Nat)
  /-- ADC_BLOCK_ARRIVAL (R133): An ADC block arrives at the input elastic buffer, discarding the oldest when full. -/
  | adcBlockArrival (a ts : Nat) (samples : List Nat) (leekReads : Nat) (snapRefused : Bool)
  /-- BLOCK_RELEASE (R23): At a block's release instant the output hands it over, or drops it if not complete and marks DROP on the next. -/
  | blockRelease (kind inst t : Nat) (audio : Option (List (Int × Int)))
  /-- BLOCK_DROP (R142): A pod that has not finished a block by its deadline abandons it and counts it. -/
  | blockDrop (p kind inst rel : Nat)
  /-- VOID_TOKEN (R143): A stage receiving a VOID token processes 64 zero samples on schedule. -/
  | voidToken (kind inst ts period : Nat)
  /-- GUARD_ABSORB (R151): A guard acknowledges and discards a data token offered to a drained or isolated pod. -/
  | guardAbsorb (p : Nat)
  /-- GUARD_VOID_SUPPLY (R151): A guard supplies a VOID token for each block due on an output channel of a pod not ACTIVE. -/
  | guardVoidSupply (p kind inst ts period : Nat)
  /-- PACE_WINDOW_END (R144): At the end of each 1 ms window each pod computes its margin. -/
  | paceWindowEnd (t : Nat) (busy : List (Nat × Nat × Nat))
  /-- ISOLATE (R171): FAB_CMD ISOLATE drains and isolates a pod. -/
  | fabIsolate (m : Master) (p : Nat)
  /-- RESTORE (R171): FAB_CMD RESTORE reloads an isolated pod from its reload image and releases it. -/
  | fabRestore (m : Master) (p : Nat)
  /-- POD_DRAIN_END (R150): A draining pod becomes ISOLATED when all outputs are delivered or 2 us pass, discarding tokens still owed. -/
  | podDrainEnd (p late t : Nat)
  /-- POD_LOAD_DONE (R150): A loading pod has every frame written and checked and awaits its release instant. -/
  | podLoadDone (p t : Nat) (replayed : Bool)
  /-- RELOAD_ERR (R163): A reload frame failing its PCRC returns the pod to ISOLATED and raises RELOAD_ERR. -/
  | reloadErr (p t : Nat)
  /-- POD_RELEASE (R156): At the release instant after loading, the loaded pods enter ACTIVE together. -/
  | podRelease (t : Nat)
  /-- MARROW_COMPLETION_DISCARD (R153): A Marrow completion addressed to a pod not ACTIVE is discarded at egress and counted. -/
  | marrowCompletionDiscard (id : Nat)
  /-- LOAD_PORT_WRITE (R164): A 32-bit write into the bitstream load port appends four bytes to the staging area. -/
  | loadPortWrite (m : Master) (a : Nat) (v : Word)
  /-- RESET_PORT (R164): FAB_PR_CMD.RESET_PORT empties the staging area. -/
  | prResetPort (m : Master)
  /-- START (R165): FAB_PR_CMD.START begins a partial reconfiguration in VERIFY. -/
  | prStart (m : Master)
  /-- PR_VERIFY_DONE (R165): Verification and the pod checks complete, and the pods of POD_MASK enter DRAINING, or the reconfiguration fails. -/
  | prVerifyDone (v : SigVerdict) (hash t : Nat)
  /-- BANK_DATA_WRITE (R191): A write of FAB_BANK_DATA stores a coefficient and increments INDEX. -/
  | bankDataWrite (m : Master) (v : Word)
  /-- OPEN (R192): FAB_BANK_CMD.OPEN unseals the selected bank. -/
  | bankOpen (m : Master)
  /-- SEAL (R192): FAB_BANK_CMD.SEAL checks and seals the selected bank. -/
  | bankSeal (m : Master)
  /-- PATH_START (R194): PTHn_CMD START checks the configuration and puts the path in PENDING. -/
  | pathStart (m : Master) (n : Nat)
  /-- PATH_STOP (R194): PTHn_CMD STOP cancels a pending start, schedules a stop, or defers it during a cross-fade. -/
  | pathStop (m : Master) (n : Nat)
  /-- PATH_SYNC (R194): PTHn_CMD SYNC schedules a synchronising reset at the next change instant. -/
  | pathSync (m : Master) (n : Nat)
  /-- PATH_CHANGE_INSTANT (R194): At a change instant a pending path starts, a stopping path stops, or a synchronising reset zeroes histories. -/
  | pathChangeInstant (n t : Nat)
  /-- PATH_DEFERRED_STOP (R275): When the cross-fade ends a DEFERRED path or decoder proceeds to its stop. -/
  | pathDeferredStop (dec : Bool) (n : Nat)
  /-- SHIFT_WRITE (R187): A write to PTHn_SHIFT takes effect at the next bin-block boundary. -/
  | shiftWrite (m : Master) (n : Nat) (v : Word)
  /-- PATH_OUTPUT_BLOCK (R198): A chain stage produces an output block, dropping blocks whose windows include missing samples. -/
  | pathOutputBlock (n : Nat)
  /-- METRIC_WINDOW (R214): At the end of each 4 ms metric window the path computes its quality metrics and updates pilot, blend, soft mute and loss states. -/
  | metricWindow (n start : Nat)
  /-- METRIC_PUBLISH (R217): A window's metrics are written to the DEM registers and passed to Fennel. -/
  | metricPublish (n : Nat)
  /-- DEM_CONFIG_WRITE (R224): A write to DEM configuration takes effect at the next metric-window boundary. -/
  | demConfigWrite (m : Master) (n r : Nat) (v : Word)
  /-- RDS_BLOCK (R220): An RDS block is received, classified and used for synchronisation. -/
  | rdsBlock (n bit word t : Nat)
  /-- PI_TIMEOUT (R223): RDS_SYNC at 0 for 2 s clears PI_CONF and raises PI_CHG. -/
  | piTimeout (n t : Nat)
  /-- ENS_START (R231): ENSs_CMD START puts a slot in PENDING. -/
  | ensStart (m : Master) (n : Nat)
  /-- ENS_STOP (R231): ENSs_CMD STOP stops or defers a slot. -/
  | ensStop (m : Master) (n : Nat)
  /-- RESYNC (R231): ENSs_CMD RESYNC returns the slot to SEARCH at the next release instant. -/
  | ensResync (m : Master) (n : Nat)
  /-- SLOT_RELEASE_INSTANT (R231): At a release instant a pending slot enters SEARCH or a stopping slot stops. -/
  | slotReleaseInstant (n t : Nat)
  /-- ENS_LOCK (R232): Null symbols, PRS and frequency conditions met, the slot declares LOCKED. -/
  | ensLock (n : Nat) (nulls : List Nat) (prs : Bool) (foff : Int) (err : Nat)
  /-- ENS_LOST (R232): 8 frames without PRS or a frame period out of range returns the slot to SEARCH. -/
  | ensLost (n t period : Nat)
  /-- ENS_FRAME (R235): A transmission frame received in LOCKED publishes its metrics. -/
  | ensFrame (n : Nat) (f : Frame)
  /-- SUBCH_RECORD (R237): Each CIF delivers a logical-frame record for each enabled SubChId. -/
  | subchRecord (n sub cif : Nat) (bytes : List Nat)
  /-- DEC_START (R238): DECd_CMD START puts the decoder in WAITING. -/
  | decStart (m : Master) (d : Nat)
  /-- DEC_STOP (R238): DECd_CMD STOP stops or defers the decoder at the next output block boundary. -/
  | decStop (m : Master) (d : Nat)
  /-- DEC_RUN (R238): A waiting decoder releases its first block and enters RUNNING. -/
  | decRun (d cif : Nat) (stereo sbr ps : Bool) (core : Nat)
  /-- DEC_WAIT (R238): A running decoder returns to WAITING with a reason. -/
  | decWait (d : Nat)
  /-- DEC_CONCEAL (R242): A failed frame, access unit or superframe is concealed by fading. -/
  | decConceal (d : Nat) (superframe : Bool) (cif au good rs : Nat)
  /-- MULTIPLEX_RECONFIG (R243): A reconfiguration takes effect at its CIF and changes each decoder's state. -/
  | multiplexReconfig (n : Nat) (org : List SubCh)
  /-- FENNEL_INFO_UPDATE (R244): Firmware passes FIG-derived service information to Fennel. -/
  | fennelInfoUpdate (n : Nat) (v : DabInfo)
  /-- FOL_START (R253): FOL_CMD START checks the programme and puts it in PENDING. -/
  | folStart (m : Master) (p : Nat)
  /-- FOL_STOP (R254): FOL_CMD STOP ramps the output to zero over 15 blocks. -/
  | folStop (m : Master) (p : Nat)
  /-- ABORT_XFADE (R274): FOL_CMD ABORT_XFADE completes the running fade towards the survivor over one block. -/
  | abortXfade (m : Master) (p : Nat)
  /-- SWITCH (R274): FOL_CMD SWITCH makes a discretionary switch to the named entry. -/
  | folSwitch (m : Master) (p idx : Nat)
  /-- REALIGN (R267): FOL_CMD REALIGN returns every non-active candidate to NEW. -/
  | folRealign (m : Master) (p : Nat)
  /-- PROG_SEARCH_START (R253): At t_s the programme enters SEARCH and programme time starts. -/
  | progSearchStart (p t : Nat)
  /-- PROG_ORIGIN (R253): The first usable candidate becomes the origin and the programme enters RUNNING. -/
  | progOrigin (p idx tu : Nat)
  /-- PROG_STOPPED (R254): After the stop ramp the programme releases no more blocks and is STOPPED. -/
  | progStopped (p : Nat)
  /-- POOL_IDLE_STOP (R254): Pool paths and decoders no running programme needs are stopped 10 s after a programme stop. -/
  | poolIdleStop (t : Nat)
  /-- PROG_BLOCK_FORM (R251): Fennel forms a programme block in the last 1 ms before its release. -/
  | progBlockForm (p : Nat) (complete : Bool)
  /-- CANDIDATE_ADD (R256): A qualifying source is added to the candidate set. -/
  | candidateAdd (p origin kind num idx : Nat)
  /-- CANDIDATE_REMOVE (R256): A candidate whose identity stopped matching is removed 10 s later. -/
  | candidateRemove (p idx t : Nat)
  /-- CANDIDATE_UNUSABLE (R260): A condition makes a candidate unusable. -/
  | candidateUnusable (p idx : Nat)
  /-- CANDIDATE_USABLE (R260): A candidate free of conditions for 5 windows or 10 frames becomes usable again. -/
  | candidateUsable (p idx : Nat)
  /-- FOL_INELIG (R250): A candidate that fails eligibility enters INELIG. -/
  | folInelig (p idx : Nat)
  /-- POOL_PATH_START (R257): Fennel starts a pool path on an AF or FIG 0/21 frequency. -/
  | poolPathStart (p hz : Nat) (fig : Bool)
  /-- POOL_PATH_TIMEOUT (R257): A pool path whose PI does not confirm within 3 s is stopped. -/
  | poolPathTimeout (n t : Nat)
  /-- FENNEL_DECODER_START (R258): Fennel starts a decoder for a DAB candidate. -/
  | fennelDecoderStart (p idx : Nat)
  /-- FENNEL_DECODER_STOP (R258): A decoder no programme has needed for 10 s is stopped. -/
  | fennelDecoderStop (d t : Nat)
  /-- SCORE_UPDATE (R261): A window or frame yields Q and updates the effective score. -/
  | scoreUpdate (p idx : Nat)
  /-- DISCRETIONARY_SWITCH (R262): A candidate that has beaten the active source for HOLD starts a discretionary cross-fade. -/
  | discretionarySwitch (p : Nat)
  /-- FORCED_SWITCH (R263): An unusable or ineligible active source forces a cross-fade to the best aligned candidate. -/
  | forcedSwitch (p : Nat)
  /-- HARD_SWITCH (R264): With no aligned candidate the programme hard-switches behind a 20 ms ramp. -/
  | hardSwitch (p : Nat)
  /-- XFADE_END (R269): The block holding a fade's last sample is formed and the fade ends. -/
  | xfadeEnd (p : Nat)
  /-- ALIGN_MEASURE (R265): A 2 s correlation window measures a candidate's offset and updates its alignment. -/
  | alignMeasure (p idx u : Nat)
  /-- LOUDNESS_UPDATE (R268): Every 10 s the loudness difference of each aligned candidate updates its gain. -/
  | loudnessUpdate (p idx t : Nat)
  /-- CLIST_WRITE (R279): A write to FOL_CLIST adds, replaces or removes a host entry within 10 ms. -/
  | clistWrite (m : Master) (v : Word)
  /-- APPLY (R283): MRW_REG_CMD.APPLY checks and applies the region shadows. -/
  | mrwApply (m : Master)
  /-- MARROW_REQUEST (R297): A Marrow request arrives and is admitted, queued or refused by class. -/
  | marrowRequest (q : MReq) (t : Nat)
  /-- MARROW_REPLY (R298): A request completes and its reply code is returned. -/
  | marrowReply (id : Nat) (e : List (Nat × Ecc))
  /-- MARROW_WAIT_TIMEOUT (R297): A queued request that waits W1 or W2 is removed and answered REFUSED_CAPACITY. -/
  | marrowWaitTimeout (id t : Nat)
  /-- SCRUB_STEP (R295): The patrol reads and corrects lines as class 2 requests. -/
  | scrubStep (progress : Nat) (fixes : List (Nat × Nat)) (dead : List Nat)
  /-- RING_RECORD_WRITE (R290): A ring record is written in three steps at its timestamp slot. -/
  | ringRecordWrite (kind num ts : Nat) (accepted : Bool)
  /-- AUDIO_CHANNEL_ASSIGN (R288): Firmware assigns an audio ring channel to a source or programme, or counts a wait. -/
  | audioChannelAssign (kind num : Nat)
  /-- TIMESHIFT_WRITE (R288): A write to MRW_TSH sets or clears time-shift channels, refused whole when too few are free. -/
  | timeshiftWrite (m : Master) (win : Nat) (v : Word)
  /-- ARM (R292): MRW_SNP_CMD ARM starts snapshot writing at the next block boundary. -/
  | snpArm (m : Master)
  /-- TRIG (R292): MRW_SNP_CMD TRIG triggers an armed snapshot, or counts EXTRA. -/
  | snpTrig (m : Master)
  /-- SNAP_STOP (R292): MRW_SNP_CMD STOP ends writing or returns DONE to IDLE. -/
  | snapStop (m : Master)
  /-- SNAP_MATCH_TRIGGER (R292): An armed MATCH trigger fires at the first block at or after MRW_SNP_MATCH. -/
  | snapMatchTrigger (ts : Nat)
  /-- SNAP_DONE (R292): Writing reaches T_end and the snapshot enters DONE. -/
  | snapDone (t : Nat)
  /-- SAP_CTL_WRITE (R324): A write to SAPk_CTL enables, disables or reconfigures a port. -/
  | sapCtlWrite (m : Master) (k : Nat) (v : Word)
  /-- SAP_FRAME (R304): A frame start is checked, its data captured or sent, and the direction may enter RUN. -/
  | sapFrame (k : Nat) (f : SapFrame)
  /-- SAP_CLOCK_STOP (R309): No frame start for 4 frame periods puts the direction in HOLD. -/
  | sapClockStop (k dir t : Nat)
  /-- SAP_BLOCK_HANDOFF (R311): The scheduler hands a block to the port, with slips or overrun discard. -/
  | sapBlockHandoff (k pair h : Nat)
  /-- SAP_MAP_WRITE (R310): A MAP write changes a slot pair's source with a 64-sample cross-fade. -/
  | sapMapWrite (m : Master) (k pair : Nat) (v : Word)
  /-- MUTE (R315): SAPk_OCTL.MUTE ramps the output to zero or back. -/
  | sapMute (m : Master) (k : Nat) (on : Bool)
  /-- SAP_TAP_BLOCK (R317): The interior tap delivers a 48 kS/s block on the SYSCNT grid. -/
  | sapTapBlock (k ts : Nat)
  /-- MASK_COMMIT (R320): SAPk_ICAP.COMMIT checks the mask shadow and sets MASK_PEND. -/
  | maskCommit (m : Master) (k : Nat)
  /-- TCS_APPLY (R322): SAPk_TCS_CTL.APPLY applies the transmit channel status at the next block start. -/
  | tcsApply (m : Master) (k : Nat)
  /-- AES3_CS_BLOCK (R323): A received channel-status block is checked and replaces the standing one. -/
  | aes3CsBlock (k : Nat)
  /-- ETH_LINK_CHANGE (R329): A port link comes up or goes down and raises LINK. -/
  | ethLinkChange (port : Nat) (up block : Bool)
  /-- ETH_FRAME_RX (R330): A received frame is accepted, answered or discarded. -/
  | ethFrameRx (port : Nat) (f : EthFrame) (t : Nat)
  /-- AES67_SENDER_ENABLE (R339): A write setting NET_TXs_CTL.EN is checked and admits the stream. -/
  | aes67SenderEnable (m : Master) (k : Nat) (v : Word)
  /-- AES67_PACKET_TX (R337): A sender forms and sends an RTP packet, slipping if needed. -/
  | aes67PacketTx (k t : Nat)
  /-- AES67_PACKET_RX (R340): A receiver accepts an RTP packet into its stream. -/
  | aes67PacketRx (port r : Nat) (p : RtpPacket) (t : Nat)
  /-- AES67_RECEIVER_BLOCK (R340): A receiver delivers a 48 kS/s block on the SYSCNT grid with slips and underruns. -/
  | aes67ReceiverBlock (r ts : Nat)
  /-- VITA_PACKET_TX (R341): An IQ stream sends a VITA 49.2 signal data packet. -/
  | vitaPacketTx (k t : Nat)
  /-- VITA_CONTEXT_TX (R342): A context packet is sent at enable, every 1 s and after changes. -/
  | vitaContextTx (k t : Nat)
  /-- CASRUM_SIDE_SEND (R345): A side-data packet is sent when full or 2 ms after its first record. -/
  | casrumSideSend (type t : Nat)
  /-- CASRUM_CONTROL_RX (R346): A control packet is authorised, executed by SQ2 and answered. -/
  | casrumControlRx (p : CasPacket) (t : Nat)
  /-- EGRESS_TIMEOUT (R350): A class-1 or class-2 packet that has waited W1 or W2 is discarded. -/
  | egressTimeout (port cls t : Nat)
  /-- BAR0_ACCESS (R352): A PCIe BAR0 access reaches one or two registers, or is discarded. -/
  | bar0Access (write : Bool) (o size : Nat) (data : List Word)
  /-- BAR2_ACCESS (R353): A PCIe BAR2 access reaches Marrow as requester 264. -/
  | bar2Access (write : Bool) (o : Nat) (data : List (Option Byte)) (code t : Nat)
  /-- BAR2_RETRY (R353): A refused BAR2 line is re-issued every 10 us up to 20 ms. -/
  | bar2Retry (code t : Nat)
  /-- DMA_STREAM_RECORD (R354): A record is written to a STREAM queue ring, or discarded when it does not fit. -/
  | dmaStreamRecord (q t : Nat)
  /-- DMA_COPY_DESCRIPTOR (R356): A posted COPY descriptor is executed and its status written. -/
  | dmaCopyDescriptor (q : Nat) (desc : List Byte) (host : List Byte) (codes : List Nat) (t : Nat)
  /-- MSIX_SIGNAL (R358): A queue signals its vector on threshold or timer. -/
  | msixSignal (q t : Nat)
  /-- HB_READ (R365): A host-bus read cycle is answered from the mirror. -/
  | hbRead (a be : Nat)
  /-- HB_WRITE_LOW (R369): A low-half write is held in the hold register. -/
  | hbWriteLow (a be d : Nat)
  /-- HB_WRITE_HIGH (R369): A high-half write commits 32 bits to the posted-write queue. -/
  | hbWriteHigh (a be d : Nat)
  /-- HB_BAD_CYCLE (R363): A cycle with both strobes low performs nothing and is counted. -/
  | hbBadCycle
  /-- HB_PAGE_WRITE (R371): A write to the page alias sets the host-bus page. -/
  | hbPageWrite (d : Nat)
  /-- HB_QUEUE_DELIVER (R367): The posted-write queue delivers an entry to its block. -/
  | hbQueueDeliver
  /-- REGISTER_WRITE (R20): A write to a register with no row of its own reaches its block's serialisation point. -/
  | registerWrite (m : Master) (a : Nat) (v : Word)
  /-- RC_REGISTER_READ (R366): A read of a register with RC fields clears the values returned. -/
  | rcRegisterRead (m : Master) (a : Nat)
  /-- EVENT_RAISE (R374): An event source is raised, stamped, merged and recorded. -/
  | eventRaise (e inst : Nat)
  /-- EVENT_COALESCE_RELEASE (R378): A pending group is released on a route by count or HOLD_US. -/
  | eventCoalesceRelease (g route : Nat) (t : Nat)
  /-- EVT_CLEAR_WRITE (R377): A write to STAT or a bitmap that leaves the group pending restarts MSI-X coalescing. -/
  | evtClearWrite (m : Master) (a : Nat) (v : Word)
  /-- KT_INDEX_WRITE (R383): A KT-440 write to the INDEX port sets the index. -/
  | ktIndexWrite (v : Nat)
  /-- KT_DATA_READ (R385): A DATA or DATAI read returns the register at INDEX, with FIFO and clear side effects. -/
  | ktDataRead (port : Nat)
  /-- KT_DATA_WRITE (R385): A DATA or DATAI write enters the posted-write queue for the personality. -/
  | ktDataWrite (auto : Bool) (v : Nat)
  /-- KT_STAT_WRITE (R383): A write to the STAT port clears INTSTAT bits. -/
  | ktStatWrite (v : Nat)
  /-- TUNE (R394): KT-440 TUNE restarts the tuner's path on the new frequency. -/
  | ktTune (tn : Nat)
  /-- SEEK_UP (R396): KT-440 SEEK_UP seeks upward through the band. -/
  | ktSeekUp (tn : Nat)
  /-- SEEK_DOWN (R396): KT-440 SEEK_DOWN seeks downward through the band. -/
  | ktSeekDown (tn : Nat)
  /-- CANCEL (R394): KT-440 CANCEL ends a running seek at its current step. -/
  | ktCancel (tn : Nat)
  /-- POWER_DOWN (R394): KT-440 POWER_DOWN stops the tuner's path. -/
  | ktPowerDown (tn : Nat)
  /-- POWER_UP (R394): KT-440 POWER_UP tunes with the registers as they stand. -/
  | ktPowerUp (tn : Nat)
  /-- KT_SEEK_STEP (R396): A seek moves to the next raster point and judges it. -/
  | ktSeekStep (tn t : Nat)
  /-- KT_BUSY_FALL (R395): BUSY of a tuner falls at its command time and TDONE is set. -/
  | ktBusyFall (tn t : Nat)
  /-- FLUSH (R399): RDSCTL.FLUSH empties a tuner's RDS FIFO. -/
  | ktFlush (tn : Nat)
  /-- KT_AUDCFG_WRITE (R393): A change of AUDCFG re-enables the affected SAP port. -/
  | ktAudcfgWrite (v : Nat)
  /-- KT_AUDSEL_WRITE (R393): A change of AUDSEL changes the SAP slot sources with a cross-fade. -/
  | ktAudselWrite (v : Nat)
  /-- KT_CAPTURE_ENABLE (R400): A rising EN of CAPCTL resets the capture buffer pointers. -/
  | ktCaptureEnable (v : Nat)
  /-- PAIR_FAULT (R407): A lockstep disagreement stops the pair and moves the logical core to pair 8 or fails it. -/
  | pairFault (j t : Nat)
  /-- PAIR_REMAP (R560): Pair 8 issues its first instruction and PAIR_REMAP is raised. -/
  | pairRemap (t : Nat)
  /-- INTERRUPT_ENTRY (R434): A core takes a pending group interrupt at an allowed boundary. -/
  | interruptEntry (k : Nat) (replies : List Nat)
  /-- HALT (R437): SEQk_CTL.HALT stops or resumes the core. -/
  | coreHalt (m : Master) (k : Nat) (on : Bool)
  /-- CORE_STEP (R437): SEQk_CTL.STEP issues one instruction or iteration on a halted core. -/
  | coreStep (m : Master) (k : Nat) (replies : List Nat)
  /-- KICK (R437): SEQk_WDOG.KICK restarts the watchdog period. -/
  | coreKick (m : Master) (k : Nat)
  /-- WDOG (R437): The watchdog period passes without a KICK and halts the core. -/
  | coreWdog (k t : Nat)
  /-- WC_LINE_FLUSH (R420): A write-combining line is written to Marrow 1 us after its first store or on displacement. -/
  | wcLineFlush (k line code t : Nat)
  /-- NOP (R448): Does nothing. -/
  | izNop (h : IzHead)
  /-- SYNC (R420): Holds issue until every earlier store is answered. -/
  | izSync (h : IzHead)
  /-- RET (R422): Pops the return address and transfers after the delay slot. -/
  | izRet (h : IzHead)
  /-- RTI (R422): Pops SW and PC and resumes the interrupted code. -/
  | izRti (h : IzHead)
  /-- LEXIT (R454): Ends the innermost loop early. -/
  | izLexit (h : IzHead)
  /-- EI (R448): Sets SW.IE. -/
  | izEi (h : IzHead)
  /-- DI (R448): Clears SW.IE. -/
  | izDi (h : IzHead)
  /-- ADD (R448): Adds two registers. -/
  | izAdd (h : IzHead) (d a b z : BitVec 4)
  /-- SUB (R448): Subtracts two registers. -/
  | izSub (h : IzHead) (d a b z : BitVec 4)
  /-- AND (R448): Bitwise AND of two registers. -/
  | izAnd (h : IzHead) (d a b z : BitVec 4)
  /-- OR (R448): Bitwise OR of two registers. -/
  | izOr (h : IzHead) (d a b z : BitVec 4)
  /-- XOR (R448): Bitwise XOR of two registers. -/
  | izXor (h : IzHead) (d a b z : BitVec 4)
  /-- SHL (R448): Shifts left by a register. -/
  | izShl (h : IzHead) (d a b z : BitVec 4)
  /-- SHR (R448): Logical right shift by a register. -/
  | izShr (h : IzHead) (d a b z : BitVec 4)
  /-- SRA (R448): Arithmetic right shift by a register. -/
  | izSra (h : IzHead) (d a b z : BitVec 4)
  /-- MUL (R448): Integer multiply, low 24 bits. -/
  | izMul (h : IzHead) (d a b z : BitVec 4)
  /-- MULH (R448): Fractional multiply, rounded. -/
  | izMulh (h : IzHead) (d a b z : BitVec 4)
  /-- MIN (R448): Signed minimum. -/
  | izMin (h : IzHead) (d a b z : BitVec 4)
  /-- MAX (R448): Signed maximum. -/
  | izMax (h : IzHead) (d a b z : BitVec 4)
  /-- DIV (R448): Signed divide. -/
  | izDiv (h : IzHead) (d a b z : BitVec 4)
  /-- DIVU (R448): Unsigned divide. -/
  | izDivu (h : IzHead) (d a b z : BitVec 4)
  /-- REM (R448): Signed remainder. -/
  | izRem (h : IzHead) (d a b z : BitVec 4)
  /-- ADDI (R448): Adds an immediate. -/
  | izAddi (h : IzHead) (d a : BitVec 4) (imm : BitVec 8)
  /-- ANDI (R448): ANDs an unsigned immediate. -/
  | izAndi (h : IzHead) (d a : BitVec 4) (imm : BitVec 8)
  /-- ORI (R448): ORs an unsigned immediate. -/
  | izOri (h : IzHead) (d a : BitVec 4) (imm : BitVec 8)
  /-- XORI (R448): XORs an unsigned immediate. -/
  | izXori (h : IzHead) (d a : BitVec 4) (imm : BitVec 8)
  /-- SHLI (R448): Shifts left by an immediate. -/
  | izShli (h : IzHead) (d a : BitVec 4) (imm : BitVec 8)
  /-- SHRI (R448): Logical right shift by an immediate. -/
  | izShri (h : IzHead) (d a : BitVec 4) (imm : BitVec 8)
  /-- SRAI (R448): Arithmetic right shift by an immediate. -/
  | izSrai (h : IzHead) (d a : BitVec 4) (imm : BitVec 8)
  /-- MULI (R448): Multiplies by an immediate. -/
  | izMuli (h : IzHead) (d a : BitVec 4) (imm : BitVec 8)
  /-- MOVI (R448): Loads an immediate. -/
  | izMovi (h : IzHead) (d a : BitVec 4) (imm : BitVec 8)
  /-- MOV (R448): Copies a register. -/
  | izMov (h : IzHead) (x y : BitVec 4)
  /-- NEG (R448): Negates a register. -/
  | izNeg (h : IzHead) (x y : BitVec 4)
  /-- ABS (R448): Absolute value of a register. -/
  | izAbs (h : IzHead) (x y : BitVec 4)
  /-- NOT (R448): Bitwise complement of a register. -/
  | izNot (h : IzHead) (x y : BitVec 4)
  /-- CLZ (R448): Counts leading zeros. -/
  | izClz (h : IzHead) (x y : BitVec 4)
  /-- SEXT8 (R448): Sign-extends the low byte. -/
  | izSext8 (h : IzHead) (x y : BitVec 4)
  /-- SEXT16 (R448): Sign-extends the low 16 bits. -/
  | izSext16 (h : IzHead) (x y : BitVec 4)
  /-- MFSW (R448): Reads SW. -/
  | izMfsw (h : IzHead) (x y : BitVec 4)
  /-- MTSW (R449): Writes SW, trapping on reserved values. -/
  | izMtsw (h : IzHead) (x y : BitVec 4)
  /-- MFSP (R448): Reads sp. -/
  | izMfsp (h : IzHead) (x y : BitVec 4)
  /-- MTSP (R448): Writes sp. -/
  | izMtsp (h : IzHead) (x y : BitVec 4)
  /-- BEQ (R450): Branches if two registers are equal. -/
  | izBeq (h : IzHead) (a b : BitVec 4) (disp : BitVec 16)
  /-- BNE (R450): Branches if two registers differ. -/
  | izBne (h : IzHead) (a b : BitVec 4) (disp : BitVec 16)
  /-- BLT (R450): Branches if signed less than. -/
  | izBlt (h : IzHead) (a b : BitVec 4) (disp : BitVec 16)
  /-- BGE (R450): Branches if signed greater or equal. -/
  | izBge (h : IzHead) (a b : BitVec 4) (disp : BitVec 16)
  /-- BLTU (R450): Branches if unsigned less than. -/
  | izBltu (h : IzHead) (a b : BitVec 4) (disp : BitVec 16)
  /-- BGEU (R450): Branches if unsigned greater or equal. -/
  | izBgeu (h : IzHead) (a b : BitVec 4) (disp : BitVec 16)
  /-- BR (R450): Branches always. -/
  | izBr (h : IzHead) (z0 z1 : BitVec 4) (disp : BitVec 16)
  /-- BEQI (R450): Branches if a register equals an immediate. -/
  | izBeqi (h : IzHead) (a z : BitVec 4) (imm : BitVec 8) (disp : BitVec 16)
  /-- BNEI (R450): Branches if a register differs from an immediate. -/
  | izBnei (h : IzHead) (a z : BitVec 4) (imm : BitVec 8) (disp : BitVec 16)
  /-- BLTI (R450): Branches if signed less than an immediate. -/
  | izBlti (h : IzHead) (a z : BitVec 4) (imm : BitVec 8) (disp : BitVec 16)
  /-- BGEI (R450): Branches if signed greater or equal to an immediate. -/
  | izBgei (h : IzHead) (a z : BitVec 4) (imm : BitVec 8) (disp : BitVec 16)
  /-- BLTUI (R450): Branches if unsigned less than an immediate. -/
  | izBltui (h : IzHead) (a z : BitVec 4) (imm : BitVec 8) (disp : BitVec 16)
  /-- BGEUI (R450): Branches if unsigned greater or equal to an immediate. -/
  | izBgeui (h : IzHead) (a z : BitVec 4) (imm : BitVec 8) (disp : BitVec 16)
  /-- JMP (R450): Jumps to an absolute address. -/
  | izJmp (h : IzHead) (dest : BitVec 24)
  /-- CALL (R422): Pushes the return address and calls an absolute address. -/
  | izCall (h : IzHead) (dest : BitVec 24)
  /-- JMPR (R450): Jumps to a register address. -/
  | izJmpr (h : IzHead) (x y : BitVec 4)
  /-- CALLR (R422): Calls a register address. -/
  | izCallr (h : IzHead) (x y : BitVec 4)
  /-- PUSH (R421): Pushes a register. -/
  | izPush (h : IzHead) (x y : BitVec 4)
  /-- POP (R421): Pops a register. -/
  | izPop (h : IzHead) (x y : BitVec 4)
  /-- PUSHA (R450): Pushes an accumulator as three words. -/
  | izPusha (h : IzHead) (x y : BitVec 4)
  /-- POPA (R450): Pops an accumulator from three words. -/
  | izPopa (h : IzHead) (x y : BitVec 4)
  /-- LD (R416): Loads a word through a segment. -/
  | izLd (h : IzHead) (g : BitVec 4) (m : BitVec 1) (n : BitVec 3) (x : BitVec 8)
  /-- ST (R416): Stores a word through a segment. -/
  | izSt (h : IzHead) (g : BitVec 4) (m : BitVec 1) (n : BitVec 3) (x : BitVec 8)
  /-- LDX (R416): Loads a word indexed by a register. -/
  | izLdx (h : IzHead) (g : BitVec 4) (m : BitVec 1) (n : BitVec 3) (x : BitVec 8)
  /-- STX (R416): Stores a word indexed by a register. -/
  | izStx (h : IzHead) (g : BitVec 4) (m : BitVec 1) (n : BitVec 3) (x : BitVec 8)
  /-- LDC (R416): Loads two words. -/
  | izLdc (h : IzHead) (g : BitVec 4) (m : BitVec 1) (n : BitVec 3) (x : BitVec 8)
  /-- STC (R416): Stores two words. -/
  | izStc (h : IzHead) (g : BitVec 4) (m : BitVec 1) (n : BitVec 3) (x : BitVec 8)
  /-- LDP (R416): Loads a pointer and binds it to a descriptor. -/
  | izLdp (h : IzHead) (g : BitVec 4) (m : BitVec 1) (n : BitVec 3) (x : BitVec 8)
  /-- ADDP (R448): Adds an immediate to a pointer. -/
  | izAddp (h : IzHead) (g : BitVec 4) (m : BitVec 1) (n : BitVec 3) (x : BitVec 8)
  /-- MFP (R448): Reads a pointer's offset. -/
  | izMfp (h : IzHead) (x y : BitVec 4)
  /-- SETSD (R415): Writes a segment descriptor, checked against the windows. -/
  | izSetsd (h : IzHead) (x y : BitVec 4)
  /-- GETSD (R448): Reads a segment descriptor. -/
  | izGetsd (h : IzHead) (x y : BitVec 4)
  /-- MPY (R448): Sets an accumulator to a product. -/
  | izMpy (h : IzHead) (b1 : BitVec 8) (k : BitVec 2) (x : BitVec 6)
  /-- MAC (R428): Adds a product to an accumulator. -/
  | izMac (h : IzHead) (b1 : BitVec 8) (k : BitVec 2) (x : BitVec 6)
  /-- MSU (R448): Subtracts a product from an accumulator. -/
  | izMsu (h : IzHead) (b1 : BitVec 8) (k : BitVec 2) (x : BitVec 6)
  /-- CLRA (R448): Clears an accumulator. -/
  | izClra (h : IzHead) (b1 : BitVec 8) (k : BitVec 2) (x : BitVec 6)
  /-- EXT (R409): Extracts a scaled accumulator into a register. -/
  | izExt (h : IzHead) (b1 : BitVec 8) (k : BitVec 2) (x : BitVec 6)
  /-- MOVA (R448): Moves a register into an accumulator. -/
  | izMova (h : IzHead) (b1 : BitVec 8) (k : BitVec 2) (x : BitVec 6)
  /-- ADDA (R448): Adds two accumulators. -/
  | izAdda (h : IzHead) (b1 : BitVec 8) (k : BitVec 2) (x : BitVec 6)
  /-- SHA (R448): Shifts an accumulator. -/
  | izSha (h : IzHead) (b1 : BitVec 8) (k : BitVec 2) (x : BitVec 6)
  /-- MACP (R453): Accumulates the product of two pointed words and steps the pointers. -/
  | izMacp (h : IzHead) (b1 : BitVec 8) (k : BitVec 2) (x : BitVec 6)
  /-- CMAC (R453): Accumulates a complex product and steps the pointers. -/
  | izCmac (h : IzHead) (b1 : BitVec 8) (k : BitVec 2) (x : BitVec 6)
  /-- CMACJ (R453): Accumulates a conjugate complex product and steps the pointers. -/
  | izCmacj (h : IzHead) (b1 : BitVec 8) (k : BitVec 2) (x : BitVec 6)
  /-- LOOP (R423): Sets up a zero-overhead loop with an immediate count. -/
  | izLoop (h : IzHead) (count disp : BitVec 16)
  /-- LOOPR (R423): Sets up a zero-overhead loop with a register count. -/
  | izLoopr (h : IzHead) (c z : BitVec 4) (disp : BitVec 16)
  /-- MFLS (R448): Reads a loop start register. -/
  | izMfls (h : IzHead) (d x : BitVec 4)
  /-- MTLS (R448): Writes a loop start register. -/
  | izMtls (h : IzHead) (d x : BitVec 4)
  /-- MFLE (R448): Reads a loop end register. -/
  | izMfle (h : IzHead) (d x : BitVec 4)
  /-- MTLE (R448): Writes a loop end register. -/
  | izMtle (h : IzHead) (d x : BitVec 4)
  /-- MFLC (R448): Reads a loop count register. -/
  | izMflc (h : IzHead) (d x : BitVec 4)
  /-- MTLC (R448): Writes a loop count register. -/
  | izMtlc (h : IzHead) (d x : BitVec 4)
  /-- MFA (R448): Reads a part of an accumulator. -/
  | izMfa (h : IzHead) (d x : BitVec 4)
  /-- MTA (R448): Writes a part of an accumulator. -/
  | izMta (h : IzHead) (d x : BitVec 4)
  /-- MFPB (R448): Reads the descriptor bound to a pointer. -/
  | izMfpb (h : IzHead) (d x : BitVec 4)
  /-- CORE (R448): Reads the logical core number. -/
  | izCore (h : IzHead) (d x : BitVec 4)
  /-- KEY (R467): EXC_CMD.KEY starts the PA key-up sequence. -/
  | excKey (m : Master)
  /-- UNKEY (R468): EXC_CMD.UNKEY ramps down and sequences the PA off. -/
  | excUnkey (m : Master)
  /-- CLEAR (R469): EXC_CMD.CLEAR leaves FAULT and clears lane mutes. -/
  | excClear (m : Master)
  /-- DPD_RESET (R484): EXC_CMD.DPD_RESET returns the model to identity. -/
  | dpdReset (m : Master)
  /-- EXC_SEQUENCE_TIMER (R467): A VDD_MS or BIAS_MS period expires and the next PA ball changes. -/
  | excSequenceTimer (t : Nat)
  /-- EXC_RAMP_END (R467): A RAMP_MS ramp completes and the exciter enters ON or continues its ramp-down. -/
  | excRampEnd (k t : Nat)
  /-- PA_FAULT (R469): PA_FAULT_N asserted drops PA_RF_EN, mutes the DAC and enters FAULT. -/
  | paFault (low : Bool) (ns : Nat) (took : Bool)
  /-- AUTOKEY (R471): An exciter HELD by SPLL loss keys itself after 1 s of lock. -/
  | autokey (t : Nat)
  /-- LANE_ENABLE_WRITE (R473): A write of XLi_CTL.EN ramps the lane up or down after the licence and load checks. -/
  | laneEnableWrite (m : Master) (k : Nat) (v : Word)
  /-- POWER_LOOP_UPDATE (R475): Every 100 ms the power loop moves each lane's gain towards its target. -/
  | powerLoopUpdate (k : Nat) (orx : Int)
  /-- OVERPOWER_CHECK (R476): A 1 ms window of forward power above MAXP plus 1 dB mutes the lane. -/
  | overpowerCheck (k : Nat) (orx : Int)
  /-- TEMPLATE_CHECK (R479): A 1 s window compares each lane's spectrum with its template. -/
  | templateCheck (k : Nat) (spectrum : List (Nat × Int)) (valid : Bool)
  /-- DPD_UPDATE (R483): An adaptation update applies new coefficients and judges convergence or divergence. -/
  | dpdUpdate (nmse : Int) (coefs : List (Int × Int))
  /-- DPD_SUSPEND (R484): A suspending condition suspends adaptation. -/
  | dpdSuspend (orxBad : Bool)
  /-- COUPLER_COMMIT (R481): EXC_CPL_CMD.COMMIT checks and validates the coupler table. -/
  | couplerCommit (m : Master)
  /-- EXC_RDS_GROUP_SEND (R462): Every 87.6 ms the lane sends the next or last RDS group. -/
  | excRdsGroupSend (k t : Nat)
  /-- EXC_DAB_FRAME (R463): A DAB group sends a regenerated frame for each received frame. -/
  | excDabFrame (g ts : Nat) (msc : List (Nat × List (List Nat)))
  /-- EXC_CONTENT_SEND (R464): A lane sends a content block at its sending instant, or its gap. -/
  | excContentSend (k ts : Nat)
  /-- SL_STANDBY (R494): SLK_CMD STANDBY locks on a channel and enters STANDBY. -/
  | slStandby (m : Master) (hop : Bool) (ch : Nat)
  /-- SL_RX (R494): SLK_CMD RX locks on a channel and enters LISTEN. -/
  | slRx (m : Master) (hop : Bool) (ch : Nat)
  /-- SL_TX (R504): SLK_CMD TX checks the transmission and enters TXWAIT or refuses it. -/
  | slTx (m : Master) (hop : Bool) (ch : Nat)
  /-- SL_OFF (R494): SLK_CMD OFF turns the link off, aborting any packet. -/
  | slOff (m : Master)
  /-- SL_CAL (R489): SLK_CMD CAL calibrates a channel entry and raises SL_CAL. -/
  | slCal (m : Master) (hop : Bool) (ch : Nat)
  /-- SL_ABORT (R494): SLK_CMD ABORT ramps down, abandons or withdraws the packet in flight. -/
  | slAbort (m : Master)
  /-- SL_LOCK (R489): The synthesiser locks on a channel, after calibration if needed. -/
  | slLock (t : Nat) (trims : List Byte) (ok : Bool)
  /-- SL_LOCK_LOSS (R490): The synthesiser phase error exceeds its bound for 200 ns and the link enters SETTLE. -/
  | slLockLoss (t : Nat)
  /-- SL_PREAMBLE_DETECT (R500): Four correlated symbols declare a preamble and the link enters RXPKT. -/
  | slPreambleDetect (chips : Nat) (db : Int) (p : SlDetect)
  /-- SL_CAPTURE (R501): A stronger preamble after sync abandons the current packet and restarts reception. -/
  | slCapture (db : Int) (p : SlDetect)
  /-- SL_SYNC_FOUND (R500): The sync word is found and the header follows. -/
  | slSyncFound (word rho ts : Nat) (foff : Int)
  /-- SL_SYNC_TIMEOUT (R502): No sync word within SYNC_TO symbols returns the link to LISTEN. -/
  | slSyncTimeout (t : Nat)
  /-- SL_HEADER (R502): The header is decoded and checked, or the link returns to LISTEN. -/
  | slHeader (raw : List Nat) (t : Nat)
  /-- SL_RX_DONE (R502): The payload ends and the packet is stored or discarded by its CRC. -/
  | slRxDone (raw : List Nat) (t : Nat)
  /-- SL_RX_FREE (R503): A write of SLK_RXPTR.RD frees received slots. -/
  | slRxFree (m : Master) (v : Word)
  /-- SL_LBT_END (R505): The listen-before-talk time ends and the transmission proceeds or is refused. -/
  | slLbtEnd (rssi : Int) (t : Nat)
  /-- SL_GRANT (R505): SL_GNT high for 200 ns starts the transmission. -/
  | slGrant (t : Nat)
  /-- SL_GRANT_TIMEOUT (R505): GNT_TO_US without a grant refuses the transmission with NOGRANT. -/
  | slGrantTimeout (t : Nat)
  /-- SL_TX_DONE (R508): The last chip is sent and the output ramps down. -/
  | slTxDone (t : Nat)
  /-- SL_GNT_LOST (R508): SL_GNT low for 50 ns aborts the transmission. -/
  | slGntLost (t : Nat)
  /-- SL_DUTY_BIN (R507): Each 1 s bin of airtime advances the duty history. -/
  | slDutyBin (t : Nat)
  /-- SL_BGCAL (R509): A background calibration of a stale or empty entry starts and completes. -/
  | slBgcal (ch t : Nat) (trims : List Byte) (ok : Bool)
  /-- CAL_RUN (R514): CAL_CMD RUN requests a calibration. -/
  | calRun (m : Master) (n : Nat)
  /-- CAL_CANCEL (R524): CAL_CMD CANCEL ends a waiting calibration request. -/
  | calCancel (m : Master) (n : Nat)
  /-- CAL_TEMP_CHECK (R514): Every 100 ms the reference sensor is compared with TEMP and requests are made. -/
  | calTempCheck (t : Nat)
  /-- CAL_COND_MET (R516): The conditions of a waiting request hold and it enters RUN. -/
  | calCondMet (n t : Nat)
  /-- CAL_WAIT (R516): A request whose conditions do not hold enters WAIT_COND and raises CAL_WAIT. -/
  | calWait (n t : Nat)
  /-- CAL_WAIT_TIMEOUT (R517): A request still waiting after CAL_CFG.WAIT is rejected with COND. -/
  | calWaitTimeout (n t : Nat)
  /-- CAL_MEASURE_DONE (R519): A run's measurements complete and are checked by R521. -/
  | calMeasureDone (n : Nat) (q : CalMeas) (t : Nat)
  /-- CAL_DONE (R519): At the next block boundary the accepted corrections take effect and CAL_DONE is raised. -/
  | calDone (n t : Nat)
  /-- CAL_ABANDON (R518): A LOOP run is abandoned when PA_RF_EN is about to rise or lock is lost. -/
  | calAbandon (t : Nat)
  /-- SAVE (R527): CAL_IMG_CMD.SAVE writes an image into copy 0. -/
  | calImgSave (m : Master)
  /-- CAL_IMG_RESTORE (R528): CAL_IMG_CMD.RESTORE checks both copies and applies the newer valid one. -/
  | calImgRestore (m : Master) (ok : List Bool)
  /-- ROLL_FW (R541): SEC_CMD ROLL_FW blows fuses to raise FW_MIN. -/
  | secRollFw (m : Master)
  /-- ROLL_BS (R541): SEC_CMD ROLL_BS blows fuses to raise BS_MIN. -/
  | secRollBs (m : Master)
  /-- TOKEN (R543): SEC_CMD TOKEN verifies and acts on an enrol, revoke or set-operator token. -/
  | secToken (m : Master) (v : SigVerdict) (nvOk : Bool)
  /-- NV_WRITE (R544): SEC_CMD NV_WRITE verifies and commits a licence or host record. -/
  | secNvWrite (m : Master) (id : Nat) (v : SigVerdict) (nvOk : Bool)
  /-- NV_READ (R553): SEC_CMD NV_READ copies the newer valid generation into the record buffer. -/
  | secNvRead (m : Master) (id : Nat)
  /-- ATTEST (R551): SEC_CMD ATTEST commits LEAF and writes a signed report, or refuses with LIMIT. -/
  | secAttest (m : Master) (sig : List Byte) (nvOk : Bool)
  /-- ATTEST_TOKEN_REFILL (R551): The attestation bucket gains one token every 2 s. -/
  | attestTokenRefill (t : Nat)
  /-- POD_FAULT (R555): A detector faults an ACTIVE pod, which drains and is remapped, reloaded or left isolated. -/
  | podFault (p cause t : Nat)
  /-- POD_WATCHDOG (R555): The handshake-progress watchdog expires after 5 us without progress. -/
  | podWatchdog (p t : Nat)
  /-- POD (R568): REL_INJECT POD injects a fault into a logical pod. -/
  | injectPod (m : Master) (p : Nat)
  /-- PAIR (R568): REL_INJECT PAIR injects a disagreement into a core pair. -/
  | injectPair (m : Master) (k : Nat)
  /-- CHECKPOINT_WRITE (R558): At each release instant pods write checkpoints and journal their inputs. -/
  | checkpointWrite (refused t : Nat)
  /-- WEAR_SECOND (R563): Each second adds equivalent seconds at 95 C to REL_WEAR. -/
  | wearSecond (t : Nat)
  /-- SNAP (R565): OBS_SNAP.SNAP latches every counter at one instant. -/
  | obsSnap (m : Master)
  /-- OBS_CLEAR (R565): OBS_SNAP.CLEAR zeroes every counter. -/
  | obsClear (m : Master)
  /-- RAILS_ABOVE_BROWNOUT_THRESHOLD (R54): Every rail has passed its brownout threshold with the HK oscillator running, which starts the 2 ms of power-on timing. -/
  | railsAboveBrownoutThreshold
  /-- REFCLK_PRESENCE_CHANGE (R90): PCIE_REFCLK or ETH_REFCLK starts or stops showing edges within 1 us, and CLK_DOM.PCI or CLK_DOM.ETH changes whatever the state of the links. -/
  | refclkPresenceChange (eth present : Bool)
  /-- PTP_DELAY_REQ_SEND (R333): In SLAVE or UNCALIBRATED, the PTP port sends a Delay_Req on its own schedule to obtain the path-delay measurements that Sync acceptance needs. -/
  | ptpDelayReqSend (t : Nat)
  /-- MARROW_ADMISSION_WINDOW (R297): Each 4,096-tick accounting window of a stack begins afresh, resetting the class shares so that queued class-1 and class-2 requests can be admitted. -/
  | marrowAdmissionWindow (k t : Nat)
  /-- DMA_CLASS1_WAIT_TIMEOUT (R357): A class-1 DMA record that has waited PCI_WAIT.W1 is discarded with REFUSED_CAPACITY and counted. -/
  | dmaClass1WaitTimeout (q t : Nat)
  /-- UNDEFINED_OPCODE (R445): A core issues an undefined map-0 or map-1 opcode, or fetches beyond code RAM, and traps ILLOP. -/
  | undefinedOpcode (h : IzHead) (op op1 : BitVec 8)
  deriving DecidableEq, Repr

end Sys2Proof
end

