-- ==== Sys2Proof/Decode.lean ====
section
/-! DEFINITION. The command a table word spells.  No row of the opcode table gives bits, so no word spells a command; the
bytes of Izham-24 instructions, which are the only encoded commands of the spec, are read and written in
Machine/IzCode.lean. -/

namespace Sys2Proof

/-- The command spelled by the low nbits of w, by the table's bits: none, since every row's bits are empty. -/
def decodeTableWord (_nbits _w : Nat) : Option Instr := none

end Sys2Proof
end

