-- ==== Sys2Proof/Config.lean ====
section
/-! DEFINITION. What an implementation fixes and what the spec leaves open.  Every constant without a body is a free
value: no proof can see a value of it, so a statement that holds, holds whatever it is (notes/assumptions/5.md). -/

namespace Sys2Proof.Config

/-- A value the spec leaves open, one for each number of State.freeCtr at which a command asks for it. -/
opaque freeNat : Nat → Nat

/-- The offsetScaledLogVariance the part compares in the best master clock algorithm: spec/13 gives no value. -/
opaque ptpVariance : Nat

/-- The clock identity of the part: spec/13 gives no value. -/
opaque ptpIdentity : Nat

/-! The filters and estimators of the receive chains whose coefficients and roundings the spec does not state
(notes/assumptions/104.md).  Offsets are in ticks, from the sample a filter is centred on to the sample it weighs. -/

/-- The prototype filter of the Leek (R173), in units of 2^-23: one half of its 92,160 taps, by twice the distance from the
centre.  Machine/Filters.lean says what the spec states of it and of the filters that follow. -/
opaque leekHalf : Nat → Int

/-- A filter of the table of R180, by the number Machine/Chain.lean gives it, in units of 2^-23: one half, by the distance
from the centre. -/
opaque stageHalf : Nat → Nat → Int

/-- Phase p, tap m of a resampler prototype (R188, R189), in units of 2^-23. -/
opaque rsTap : Nat → Nat → Nat → Int

/-- Whether a number that the spec defines and does not round is taken to the neighbour above it: by the stage that forms
it and the quotient's terms (Machine/Math.lean). -/
opaque roundsUp : Nat → Int → Nat → Bool

/-- A quotient by 0 as a stage forms it. -/
opaque byZero : Nat → Int → Int

/-- The argument of 0 as the discriminator and the tracker form it. -/
opaque argZero : Int

/-- The increment of the pilot PLL of R208 by its phase and a multiplex sample, in units of 2^-24 turns, before the pull
range bounds it. -/
opaque pilotStep : Nat → Int → Int

/-- The proportional and the integral gain of the carrier tracker of R212 in units of 2^-23, and its lock criterion: by the
lock before, the phase error and the sample. -/
opaque trackP : Int
opaque trackI : Int
opaque trackLock : Bool → Int → Cx → Bool

/-- The weights of the input before and of the output before in the de-emphasis of a code (R210), in units of 2^-23. -/
opaque deEmphIn : Nat → Int
opaque deEmphOut : Nat → Int

/-- The weights of the input before and of the output before in the pre-emphasis of a code (R461), in units of 2^-23. -/
opaque preEmphIn : Nat → Int
opaque preEmphOut : Nat → Int

/-- The 15 kHz filter of the rate change to 256 kS/s, and the interpolation by 1,920 (R461), in units of 2^-23. -/
opaque audioTap : Int → Int
opaque laneTap : Int → Int

/-- The phase of the stereo pilot of the lanes at SYSCNT 0, in units of 1 / 3,932,160 turns: R461 states none. -/
opaque pilotStart : Nat

/-- The RDS subcarrier of a group, this many ticks after the group began (R462), and a Transmission Mode I frame of its
FIBs and sub-channels, this many ticks after its null symbol began (R463): in units of 2^-23. -/
opaque rdsWave : List Nat → Nat → Int
opaque dabWave : List (List Nat) → List (SubCh × List (List Nat)) → Nat → Int × Int

/-- The composite interpolated by 16, at a DAC sample instant (R459). -/
opaque dacSample : (Nat → Int × Int) → Nat → Int × Int

/-- The samples of some audio after the 200 Hz to 3.4 kHz band-pass of R265, and after the loudness filter w of R268. -/
opaque bandPass : List Int → List Int
opaque loudWeight : List Int → List Int

/-- What the spec leaves open of the CNR of a window whose M2 equals the s of R214, or whose mean power is 0. -/
opaque cnrCorner : Nat → Nat → Int

/-- The parts of the replay store that the MAP records give the logical pods (R286): pod, byte offset in the firmware
region, size.  The spec gives no layout of the division. -/
opaque replayParts : List MapRec → List (Nat × Nat × Nat)

/-- The stepping of this part in the encoding of SYS_ID.STEP (R76): A1.  DESIGN CHOICE, notes/assumptions/6.md. -/
def step : Nat := 0x01

/-- Ticks of SYSCNT in one second (R7: f_S = 3.93216 GS/s). -/
def ticksPerSecond : Nat := 3932160000

/-- Ticks in one millisecond (spec/01, Time flow). -/
def ticksPerMs : Nat := 3932160

/-- Ticks in n microseconds, rounded up to a whole tick (1 µs is 3,932.16 ticks). -/
def ticksOfUs (n : Nat) : Nat := (n * 393216 + 99) / 100

/-- Ticks between two release instants, one 64-sample block at 2.048 MS/s (R156). -/
def releasePeriod : Nat := 122880

/-- Ticks in one 64-sample block at 48 kS/s. -/
def audioBlock : Nat := 5242880

end Sys2Proof.Config
end

