-- ==== Sys2Proof/Machine/Field.lean ====
section
/-! DEFINITION. How a register is described and how sparse data is held.  A field is a register address with its
highest and lowest bit; a register description gives every field its access type (R8), reset value and valid range
(R10).  A sparse table lists only the entries that differ from what an unlisted key reads as, in rising key order. -/

namespace Sys2Proof.Machine

/-- A register field: the register's native byte address and the field's highest and lowest bits. -/
structure Fld where
  reg : Nat
  hi : Nat
  lo : Nat
  deriving DecidableEq, Repr

/-- Access types of R8.  WL is RW until its commit; the commits are modelled where the chapters state them. -/
inductive Acc where
  | rw | ro | w1c | wo | rc
  deriving DecidableEq, Repr

/-- A field's reset value: a number, or the number of the register's outer copy (as FAB_LPp_MAP.PPOD). -/
inductive Rst where
  | lit (n : Nat)
  | inst
  deriving DecidableEq, Repr

/-- The range a written value must lie in, unsigned or signed; a value outside it is reserved (R10). -/
inductive Chk where
  | any
  | ur (lo hi : Nat)
  | sr (lo hi : Int)
  deriving DecidableEq, Repr

/-- One field of a register description. -/
structure FieldDesc where
  hi : Nat
  lo : Nat
  acc : Acc
  rst : Rst
  chk : Chk
  deriving DecidableEq, Repr

/-- A register family: count copies at a stride, each with icount inner copies at an inner stride. -/
structure RegDesc where
  base : Nat
  stride : Nat
  count : Nat
  istride : Nat
  icount : Nat
  fields : List FieldDesc
  deriving DecidableEq, Repr

/-! ## Sparse tables -/

/-- The value at key k, d k where the key is not listed. -/
def sget {α : Type} (d : Nat → α) : List (Nat × α) → Nat → α
  | [], k => d k
  | (j, v) :: t, k => if j = k then v else sget d t k

/-- List a value at key k, in front of the first greater key. -/
def sins {α : Type} (k : Nat) (v : α) : List (Nat × α) → List (Nat × α)
  | [] => [(k, v)]
  | (j, w) :: t => if k < j then (k, v) :: (j, w) :: t else (j, w) :: sins k v t

/-- Store v at key k, keeping the keys rising and listing nothing that equals what an unlisted key reads as. -/
def sset {α : Type} [DecidableEq α] (d : Nat → α) (k : Nat) (v : α) (l : List (Nat × α)) : List (Nat × α) :=
  let r := l.filter fun p => p.1 != k
  if v = d k then r else sins k v r

/-- The canonical form: keys strictly above a bound and rising, no listed value equal to the unlisted one. -/
def swfFrom {α : Type} [DecidableEq α] (d : Nat → α) : Nat → List (Nat × α) → Bool
  | _, [] => true
  | b, (j, v) :: t => decide (b ≤ j) && !decide (v = d j) && swfFrom d (j + 1) t

/-- The canonical form of a sparse table. -/
def swf {α : Type} [DecidableEq α] (d : Nat → α) (m : List (Nat × α)) : Bool := swfFrom d 0 m

/-! ## Reading descriptions -/

/-- Which copy of a register family an address names: the outer and the inner number. -/
def RegDesc.copy (r : RegDesc) (a : Nat) : Option (Nat × Nat) :=
  if a < r.base then none
  else
    let o := (a - r.base) / r.stride
    let q := (a - r.base) % r.stride
    if o < r.count && q % r.istride == 0 && q / r.istride < r.icount then some (o, q / r.istride) else none

/-- The first description of a list that names address a, with the copies it names. -/
def findReg : List RegDesc → Nat → Option (RegDesc × Nat × Nat)
  | [], _ => none
  | r :: t, a =>
    match r.copy a with
    | some (o, j) => some (r, o, j)
    | none => findReg t a

/-- The reset value of a field in outer copy o. -/
def Rst.val : Rst → Nat → Nat
  | .lit n, _ => n
  | .inst, o => o

/-- The reset word of a list of fields in outer copy o. -/
def fieldsReset : List FieldDesc → Nat → Nat
  | [], _ => 0
  | f :: t, o => (f.rst.val o <<< f.lo) + fieldsReset t o

/-- Bits [hi:lo] of a word's value. -/
def bitsOf (n hi lo : Nat) : Nat := (n >>> lo) % 2 ^ (hi + 1 - lo)

/-- n with bits [hi:lo] replaced by the low bits of v. -/
def putBits (n hi lo v : Nat) : Nat :=
  n - (bitsOf n hi lo <<< lo) + ((v % 2 ^ (hi + 1 - lo)) <<< lo)

/-- Whether a written value lies in the field's range. -/
def Chk.ok (c : Chk) (w v : Nat) : Bool :=
  match c with
  | .any => true
  | .ur lo hi => decide (lo ≤ v) && decide (v ≤ hi)
  | .sr lo hi => decide (lo ≤ signedOf w v) && decide (signedOf w v ≤ hi)

/-- Whether every writable field of the word lies in its range (R10: otherwise the write is refused whole). -/
def fieldsOk : List FieldDesc → Nat → Bool
  | [], _ => true
  | f :: t, w =>
    (match f.acc with
     | .rw | .wo => f.chk.ok (f.hi + 1 - f.lo) (bitsOf w f.hi f.lo)
     | _ => true) && fieldsOk t w

/-- The word that results from writing w over old: RW fields take the value, W1C bits clear, WO fields hold
nothing, RO and RC fields and unused bits ignore the write (R8, R9). -/
def fieldsWrite : List FieldDesc → Nat → Nat → Nat
  | [], old, _ => old
  | f :: t, old, w =>
    let old' := match f.acc with
      | .rw => putBits old f.hi f.lo (bitsOf w f.hi f.lo)
      | .w1c => putBits old f.hi f.lo
          (bitsOf old f.hi f.lo - (bitsOf old f.hi f.lo &&& bitsOf w f.hi f.lo))
      | _ => old
    fieldsWrite t old' w

/-- The word after a read has cleared its RC fields (R8). -/
def fieldsRead : List FieldDesc → Nat → Nat
  | [], old => old
  | f :: t, old =>
    fieldsRead t (match f.acc with | .rc => putBits old f.hi f.lo 0 | _ => old)

end Sys2Proof.Machine
end

