-- ==== Sys2Proof/Machine/RegMap.lean ====
section
/-! DEFINITION. The native register map (spec/23_register_map.md R570 to R575): one constant per register (its
native byte address, by its instances) and one constant per field (register, highest bit, lowest bit), under the
spec's own names, block by block.  The layout of each block is the table of the chapter named beside it. -/

namespace Sys2Proof.Machine

/-! ## SYS (spec chapter 02, 03, 14) -/

def SYS_ID : Nat := 0x0
def SYS_ID_PART : Fld := ⟨SYS_ID, 31, 16⟩
def SYS_ID_STEP : Fld := ⟨SYS_ID, 7, 0⟩
def SYS_STRAP : Nat := 0x10
def SYS_STRAP_EARLY : Fld := ⟨SYS_STRAP, 31, 31⟩
def SYS_STRAP_CFG_SEL : Fld := ⟨SYS_STRAP, 4, 3⟩
def SYS_STRAP_BOOT_SRC : Fld := ⟨SYS_STRAP, 2, 1⟩
def SYS_STRAP_HB_MODE : Fld := ⟨SYS_STRAP, 0, 0⟩
def SYS_RSTCAUSE : Nat := 0x14
def SYS_RSTCAUSE_PERST : Fld := ⟨SYS_RSTCAUSE, 11, 11⟩
def SYS_RSTCAUSE_PIN : Fld := ⟨SYS_RSTCAUSE, 10, 10⟩
def SYS_RSTCAUSE_THERM : Fld := ⟨SYS_RSTCAUSE, 9, 9⟩
def SYS_RSTCAUSE_POR : Fld := ⟨SYS_RSTCAUSE, 8, 8⟩
def SYS_RSTCAUSE_BOR_NV : Fld := ⟨SYS_RSTCAUSE, 7, 7⟩
def SYS_RSTCAUSE_BOR_IO : Fld := ⟨SYS_RSTCAUSE, 6, 6⟩
def SYS_RSTCAUSE_BOR_SERDES : Fld := ⟨SYS_RSTCAUSE, 5, 5⟩
def SYS_RSTCAUSE_BOR_A0V9 : Fld := ⟨SYS_RSTCAUSE, 4, 4⟩
def SYS_RSTCAUSE_BOR_A1V8 : Fld := ⟨SYS_RSTCAUSE, 3, 3⟩
def SYS_RSTCAUSE_BOR_M : Fld := ⟨SYS_RSTCAUSE, 2, 2⟩
def SYS_RSTCAUSE_BOR_SRAM : Fld := ⟨SYS_RSTCAUSE, 1, 1⟩
def SYS_RSTCAUSE_BOR_CORE : Fld := ⟨SYS_RSTCAUSE, 0, 0⟩
def SYS_THERM : Nat := 0x18
def SYS_THERM_TRIP : Fld := ⟨SYS_THERM, 31, 31⟩
def SYS_THERM_WARN : Fld := ⟨SYS_THERM, 30, 30⟩
def SYS_THERM_HOTTEST : Fld := ⟨SYS_THERM, 28, 26⟩
def SYS_THERM_TMAX : Fld := ⟨SYS_THERM, 25, 16⟩
def SYS_THERM_TEXT : Fld := ⟨SYS_THERM, 9, 0⟩
def SYS_THERM_CFG : Nat := 0x1c
def SYS_THERM_CFG_WARN_C : Fld := ⟨SYS_THERM_CFG, 7, 0⟩
def SYS_BOOT : Nat := 0x20
def SYS_BOOT_STATE : Fld := ⟨SYS_BOOT, 31, 29⟩
def SYS_BOOT_RECOVERY : Fld := ⟨SYS_BOOT, 28, 28⟩
def SYS_BOOT_WAIT_HOST : Fld := ⟨SYS_BOOT, 27, 27⟩
def SYS_BOOT_ENTRY : Fld := ⟨SYS_BOOT, 26, 25⟩
def SYS_BOOT_FW_ALT : Fld := ⟨SYS_BOOT, 24, 24⟩
def SYS_BOOT_BS_ALT : Fld := ⟨SYS_BOOT, 23, 23⟩
def SYS_BOOT_ERR : Fld := ⟨SYS_BOOT, 19, 16⟩
def SYS_BOOT_ERR_IMG : Fld := ⟨SYS_BOOT, 15, 14⟩
def SYS_BOOT_FAILS : Fld := ⟨SYS_BOOT, 7, 0⟩
def SYS_BOOT_CMD : Nat := 0x24
def SYS_BOOT_CMD_LOAD : Fld := ⟨SYS_BOOT_CMD, 0, 0⟩
def SYS_BOOT_IMG : Nat := 0x28
def SYS_BOOT_IMG_BS_OFF : Fld := ⟨SYS_BOOT_IMG, 30, 16⟩
def SYS_BOOT_IMG_FW_OFF : Fld := ⟨SYS_BOOT_IMG, 14, 0⟩
def SYS_REFUSE : Nat := 0x2c
def SYS_REFUSE_CODE : Fld := ⟨SYS_REFUSE, 31, 28⟩
def SYS_REFUSE_CNT : Fld := ⟨SYS_REFUSE, 15, 0⟩
def SYS_HB_PAGE : Nat := 0x30
def SYS_HB_PAGE_PAGE : Fld := ⟨SYS_HB_PAGE, 2, 0⟩
def SYS_HB_STAT : Nat := 0x34
def SYS_HB_STAT_QMAX : Fld := ⟨SYS_HB_STAT, 23, 16⟩
def SYS_HB_STAT_HELD : Fld := ⟨SYS_HB_STAT, 15, 15⟩
def SYS_HB_STAT_QFILL : Fld := ⟨SYS_HB_STAT, 6, 0⟩
def SYS_HB_CNT : Nat := 0x38
def SYS_HB_CNT_QOVF : Fld := ⟨SYS_HB_CNT, 31, 16⟩
def SYS_HB_CNT_SPLIT : Fld := ⟨SYS_HB_CNT, 15, 8⟩
def SYS_HB_CNT_BADCYC : Fld := ⟨SYS_HB_CNT, 7, 0⟩
def FEAT_OFFER (i : Nat) : Nat := 0x40 + 4 * i
def FEAT_OFFER_OFFER (i : Nat) : Fld := ⟨FEAT_OFFER i, 31, 0⟩
def FEAT_ACCEPT (i : Nat) : Nat := 0x50 + 4 * i
def FEAT_ACCEPT_ACCEPT (i : Nat) : Fld := ⟨FEAT_ACCEPT i, 31, 0⟩
def FEAT_ACTIVE (i : Nat) : Nat := 0x60 + 4 * i
def FEAT_ACTIVE_ACTIVE (i : Nat) : Fld := ⟨FEAT_ACTIVE i, 31, 0⟩
def FEAT_REJECT (i : Nat) : Nat := 0x70 + 4 * i
def FEAT_REJECT_REJECT (i : Nat) : Fld := ⟨FEAT_REJECT i, 31, 0⟩
def FEAT_LOCK : Nat := 0x80
def FEAT_LOCK_BUSY : Fld := ⟨FEAT_LOCK, 31, 31⟩
def FEAT_LOCK_DONE : Fld := ⟨FEAT_LOCK, 30, 30⟩
def FEAT_LOCK_ROUNDS : Fld := ⟨FEAT_LOCK, 29, 24⟩
def FEAT_LOCK_LOCK : Fld := ⟨FEAT_LOCK, 0, 0⟩

/-! ## EVT (spec chapter 14 (R380)) -/

def EVT_CTL : Nat := 0x1000
def EVT_CTL_IRQ_EN : Fld := ⟨EVT_CTL, 0, 0⟩
def EVT_PEND : Nat := 0x1004
def EVT_PEND_CORE : Fld := ⟨EVT_PEND, 23, 16⟩
def EVT_PEND_MSI : Fld := ⟨EVT_PEND, 15, 8⟩
def EVT_PEND_IRQ : Fld := ⟨EVT_PEND, 7, 0⟩
def EVT_REFUSE : Nat := 0x100c
def EVT_REFUSE_CODE : Fld := ⟨EVT_REFUSE, 31, 28⟩
def EVT_REFUSE_CNT : Fld := ⟨EVT_REFUSE, 15, 0⟩
def EVT_RECLOST : Nat := 0x1010
def EVT_RECLOST_CNT : Fld := ⟨EVT_RECLOST, 31, 0⟩
def EVT_Gg_STAT (g : Nat) : Nat := 0x1100 + 0x20 * g
def EVT_Gg_STAT_STAT (g : Nat) : Fld := ⟨EVT_Gg_STAT g, 31, 0⟩
def EVT_Gg_MASK_IRQ (g : Nat) : Nat := 0x1104 + 0x20 * g
def EVT_Gg_MASK_IRQ_MASK (g : Nat) : Fld := ⟨EVT_Gg_MASK_IRQ g, 31, 0⟩
def EVT_Gg_MASK_MSI (g : Nat) : Nat := 0x1108 + 0x20 * g
def EVT_Gg_MASK_MSI_MASK (g : Nat) : Fld := ⟨EVT_Gg_MASK_MSI g, 31, 0⟩
def EVT_Gg_MASK_CORE (g : Nat) : Nat := 0x110c + 0x20 * g
def EVT_Gg_MASK_CORE_MASK (g : Nat) : Fld := ⟨EVT_Gg_MASK_CORE g, 31, 0⟩
def EVT_Gg_MASK_REC (g : Nat) : Nat := 0x1110 + 0x20 * g
def EVT_Gg_MASK_REC_MASK (g : Nat) : Fld := ⟨EVT_Gg_MASK_REC g, 31, 0⟩
def EVT_Gg_ROUTE (g : Nat) : Nat := 0x1114 + 0x20 * g
def EVT_Gg_ROUTE_VEC (g : Nat) : Fld := ⟨EVT_Gg_ROUTE g, 29, 24⟩
def EVT_Gg_ROUTE_CORES (g : Nat) : Fld := ⟨EVT_Gg_ROUTE g, 7, 0⟩
def EVT_Gg_COAL (g : Nat) : Nat := 0x1118 + 0x20 * g
def EVT_Gg_COAL_HOLD_US (g : Nat) : Fld := ⟨EVT_Gg_COAL g, 25, 16⟩
def EVT_Gg_COAL_COUNT (g : Nat) : Fld := ⟨EVT_Gg_COAL g, 7, 0⟩
def EVT_Gg_MERGE (g : Nat) : Nat := 0x111c + 0x20 * g
def EVT_Gg_MERGE_CNT (g : Nat) : Fld := ⟨EVT_Gg_MERGE g, 31, 0⟩
def EVT_INST (w : Nat) : Nat := 0x1200 + 4 * w
def EVT_INST_INST1 (w : Nat) : Fld := ⟨EVT_INST w, 31, 16⟩
def EVT_INST_INST0 (w : Nat) : Fld := ⟨EVT_INST w, 15, 0⟩
def EVT_SUM (j : Nat) (w : Nat) : Nat := 0x1400 + 0x40 * j + 4 * w
def EVT_SUM_BITS (j : Nat) (w : Nat) : Fld := ⟨EVT_SUM j w, 31, 0⟩
def EVT_STAMP_LO (e : Nat) : Nat := 0x1800 + 8 * e
def EVT_STAMP_LO_TS (e : Nat) : Fld := ⟨EVT_STAMP_LO e, 31, 0⟩
def EVT_STAMP_HI (e : Nat) : Nat := 0x1804 + 8 * e
def EVT_STAMP_HI_TS (e : Nat) : Fld := ⟨EVT_STAMP_HI e, 31, 0⟩

/-! ## CLK (spec chapter 04) -/

def CLK_CTL : Nat := 0x2000
def CLK_CTL_SLEW_PPB : Fld := ⟨CLK_CTL, 31, 16⟩
def CLK_CTL_RETURN : Fld := ⟨CLK_CTL, 5, 4⟩
def CLK_CTL_REF_MHZ : Fld := ⟨CLK_CTL, 3, 2⟩
def CLK_CTL_SRC : Fld := ⟨CLK_CTL, 1, 0⟩
def CLK_STAT : Nat := 0x2004
def CLK_STAT_LOCK : Fld := ⟨CLK_STAT, 31, 31⟩
def CLK_STAT_SLEWING : Fld := ⟨CLK_STAT, 30, 30⟩
def CLK_STAT_REF_OK : Fld := ⟨CLK_STAT, 29, 29⟩
def CLK_STAT_PEND : Fld := ⟨CLK_STAT, 28, 28⟩
def CLK_STAT_HK_OK : Fld := ⟨CLK_STAT, 27, 27⟩
def CLK_STAT_STATE : Fld := ⟨CLK_STAT, 26, 24⟩
def CLK_STAT_BIGSTEP : Fld := ⟨CLK_STAT, 23, 23⟩
def CLK_STAT_REF_DET : Fld := ⟨CLK_STAT, 17, 16⟩
def CLK_STAT_HOLD_S : Fld := ⟨CLK_STAT, 15, 0⟩
def CLK_HOLD : Nat := 0x2008
def CLK_HOLD_BRIDGE_MS : Fld := ⟨CLK_HOLD, 31, 16⟩
def CLK_HOLD_REF_QUAL_MS : Fld := ⟨CLK_HOLD, 13, 0⟩
def CLK_REFUSE : Nat := 0x200c
def CLK_REFUSE_CODE : Fld := ⟨CLK_REFUSE, 31, 28⟩
def CLK_REFUSE_CNT : Fld := ⟨CLK_REFUSE, 15, 0⟩
def SPLL_N : Nat := 0x2010
def SPLL_N_INT : Fld := ⟨SPLL_N, 9, 0⟩
def SPLL_F : Nat := 0x2014
def SPLL_F_MOD : Fld := ⟨SPLL_F, 31, 16⟩
def SPLL_F_NUM : Fld := ⟨SPLL_F, 15, 0⟩
def SPLL_CMD : Nat := 0x2018
def SPLL_CMD_COMMIT : Fld := ⟨SPLL_CMD, 0, 0⟩
def SPLL_DSEED : Nat := 0x201c
def SPLL_DSEED_DITHER : Fld := ⟨SPLL_DSEED, 24, 24⟩
def SPLL_DSEED_SEED : Fld := ⟨SPLL_DSEED, 23, 0⟩
def SPLL_DCO : Nat := 0x2020
def SPLL_DCO_ADJ : Fld := ⟨SPLL_DCO, 31, 0⟩
def CLK_DOM : Nat := 0x2024
def CLK_DOM_HK : Fld := ⟨CLK_DOM, 7, 7⟩
def CLK_DOM_HBUS : Fld := ⟨CLK_DOM, 6, 6⟩
def CLK_DOM_PCI : Fld := ⟨CLK_DOM, 5, 5⟩
def CLK_DOM_ETH : Fld := ⟨CLK_DOM, 4, 4⟩
def CLK_DOM_AUD : Fld := ⟨CLK_DOM, 3, 3⟩
def CLK_DOM_SLK : Fld := ⟨CLK_DOM, 2, 2⟩
def CLK_DOM_DAC : Fld := ⟨CLK_DOM, 1, 1⟩
def CLK_DOM_SMP : Fld := ⟨CLK_DOM, 0, 0⟩
def CLK_PHASE : Nat := 0x2028
def CLK_PHASE_DELTA : Fld := ⟨CLK_PHASE, 31, 0⟩
def CLK_CNT : Nat := 0x202c
def CLK_CNT_RETURNS : Fld := ⟨CLK_CNT, 31, 16⟩
def CLK_CNT_LOSSES : Fld := ⟨CLK_CNT, 15, 0⟩
def CLK_SYSCNT_LO : Nat := 0x2030
def CLK_SYSCNT_LO_CNT : Fld := ⟨CLK_SYSCNT_LO, 31, 0⟩
def CLK_SYSCNT_HI : Nat := 0x2034
def CLK_SYSCNT_HI_CNT : Fld := ⟨CLK_SYSCNT_HI, 31, 0⟩
def CLK_MAP_GEN : Nat := 0x2040
def CLK_MAP_GEN_COUNT : Fld := ⟨CLK_MAP_GEN, 31, 1⟩
def CLK_MAP_GEN_VALID : Fld := ⟨CLK_MAP_GEN, 0, 0⟩
def CLK_MAP_CNT_LO : Nat := 0x2044
def CLK_MAP_CNT_LO_CNT : Fld := ⟨CLK_MAP_CNT_LO, 31, 0⟩
def CLK_MAP_CNT_HI : Nat := 0x2048
def CLK_MAP_CNT_HI_CNT : Fld := ⟨CLK_MAP_CNT_HI, 31, 0⟩
def CLK_MAP_SEC_LO : Nat := 0x204c
def CLK_MAP_SEC_LO_SEC : Fld := ⟨CLK_MAP_SEC_LO, 31, 0⟩
def CLK_MAP_SEC_HI : Nat := 0x2050
def CLK_MAP_SEC_HI_SEC : Fld := ⟨CLK_MAP_SEC_HI, 15, 0⟩
def CLK_MAP_NS : Nat := 0x2054
def CLK_MAP_NS_NS : Fld := ⟨CLK_MAP_NS, 29, 0⟩
def CLK_MAP_RATE : Nat := 0x2058
def CLK_MAP_RATE_RATE : Fld := ⟨CLK_MAP_RATE, 31, 0⟩

/-! ## RFE (spec chapter 05) -/

def RFE_CTL : Nat := 0x3000
def RFE_CTL_PROT_EN1 : Fld := ⟨RFE_CTL, 1, 1⟩
def RFE_CTL_PROT_EN0 : Fld := ⟨RFE_CTL, 0, 0⟩
def RFE_CMD : Nat := 0x3004
def RFE_CMD_APPLY1 : Fld := ⟨RFE_CMD, 1, 1⟩
def RFE_CMD_APPLY0 : Fld := ⟨RFE_CMD, 0, 0⟩
def RFE_REFUSE : Nat := 0x300c
def RFE_REFUSE_CODE : Fld := ⟨RFE_REFUSE, 31, 28⟩
def RFE_REFUSE_CNT : Fld := ⟨RFE_REFUSE, 15, 0⟩
def RFEa_GAIN (a : Nat) : Nat := 0x3100 + 0x100 * a
def RFEa_GAIN_LNA (a : Nat) : Fld := ⟨RFEa_GAIN a, 6, 6⟩
def RFEa_GAIN_ATT (a : Nat) : Fld := ⟨RFEa_GAIN a, 5, 0⟩
def RFEa_GSTAT (a : Nat) : Nat := 0x3104 + 0x100 * a
def RFEa_GSTAT_PEND (a : Nat) : Fld := ⟨RFEa_GSTAT a, 8, 8⟩
def RFEa_GSTAT_PROT (a : Nat) : Fld := ⟨RFEa_GSTAT a, 7, 7⟩
def RFEa_GSTAT_LNA_ACT (a : Nat) : Fld := ⟨RFEa_GSTAT a, 6, 6⟩
def RFEa_GSTAT_ATT_ACT (a : Nat) : Fld := ⟨RFEa_GSTAT a, 5, 0⟩
def RFEa_GCHG_LO (a : Nat) : Nat := 0x3108 + 0x100 * a
def RFEa_GCHG_LO_TS (a : Nat) : Fld := ⟨RFEa_GCHG_LO a, 31, 0⟩
def RFEa_GCHG_HI (a : Nat) : Nat := 0x310c + 0x100 * a
def RFEa_GCHG_HI_TS (a : Nat) : Fld := ⟨RFEa_GCHG_HI a, 31, 0⟩
def RFEa_OVL_CFG (a : Nat) : Nat := 0x3110 + 0x100 * a
def RFEa_OVL_CFG_CLIP_N (a : Nat) : Fld := ⟨RFEa_OVL_CFG a, 31, 16⟩
def RFEa_OVL_CFG_PEAK_TH (a : Nat) : Fld := ⟨RFEa_OVL_CFG a, 5, 0⟩
def RFEa_POWER (a : Nat) : Nat := 0x3114 + 0x100 * a
def RFEa_POWER_PEAK (a : Nat) : Fld := ⟨RFEa_POWER a, 31, 16⟩
def RFEa_POWER_AVG (a : Nat) : Fld := ⟨RFEa_POWER a, 15, 0⟩
def RFEa_CLIPCNT (a : Nat) : Nat := 0x3118 + 0x100 * a
def RFEa_CLIPCNT_CNT (a : Nat) : Fld := ⟨RFEa_CLIPCNT a, 31, 0⟩
def RFEa_EVCNT (a : Nat) : Nat := 0x311c + 0x100 * a
def RFEa_EVCNT_PROT (a : Nat) : Fld := ⟨RFEa_EVCNT a, 31, 24⟩
def RFEa_EVCNT_PEAK (a : Nat) : Fld := ⟨RFEa_EVCNT a, 23, 12⟩
def RFEa_EVCNT_CLIP (a : Nat) : Fld := ⟨RFEa_EVCNT a, 11, 0⟩
def RFEa_EBUF (a : Nat) : Nat := 0x3120 + 0x100 * a
def RFEa_EBUF_HWM (a : Nat) : Fld := ⟨RFEa_EBUF a, 26, 16⟩
def RFEa_EBUF_FILL (a : Nat) : Fld := ⟨RFEa_EBUF a, 10, 0⟩
def RFEa_EBUF_DROP (a : Nat) : Nat := 0x3124 + 0x100 * a
def RFEa_EBUF_DROP_CNT (a : Nat) : Fld := ⟨RFEa_EBUF_DROP a, 31, 0⟩

/-! ## FAB (spec chapter 06, 07) -/

def FAB_ID : Nat := 0x4000
def FAB_ID_FAMILY : Fld := ⟨FAB_ID, 31, 16⟩
def FAB_ID_VERSION : Fld := ⟨FAB_ID, 15, 0⟩
def FAB_STAT : Nat := 0x4004
def FAB_STAT_CONF : Fld := ⟨FAB_STAT, 31, 31⟩
def FAB_STAT_RELOAD_ERR : Fld := ⟨FAB_STAT, 23, 16⟩
def FAB_STAT_NOT_ACTIVE : Fld := ⟨FAB_STAT, 15, 8⟩
def FAB_STAT_SPARES : Fld := ⟨FAB_STAT, 3, 0⟩
def FAB_CMD : Nat := 0x4008
def FAB_CMD_OP : Fld := ⟨FAB_CMD, 25, 24⟩
def FAB_CMD_LPOD : Fld := ⟨FAB_CMD, 7, 0⟩
def FAB_REFUSE : Nat := 0x400c
def FAB_REFUSE_CODE : Fld := ⟨FAB_REFUSE, 31, 28⟩
def FAB_REFUSE_CNT : Fld := ⟨FAB_REFUSE, 15, 0⟩
def FAB_PACE_CFG : Nat := 0x4010
def FAB_PACE_CFG_WARN : Fld := ⟨FAB_PACE_CFG, 15, 0⟩
def FAB_PACE_MIN : Nat := 0x4014
def FAB_PACE_MIN_LPOD : Fld := ⟨FAB_PACE_MIN, 31, 24⟩
def FAB_PACE_MIN_MARGIN : Fld := ⟨FAB_PACE_MIN, 15, 0⟩
def FAB_AVS : Nat := 0x4018
def FAB_AVS_EN : Fld := ⟨FAB_AVS, 31, 31⟩
def FAB_AVS_CODE : Fld := ⟨FAB_AVS, 21, 16⟩
def FAB_AVS_TARGET : Fld := ⟨FAB_AVS, 15, 0⟩
def FAB_DROP : Nat := 0x401c
def FAB_DROP_CNT : Fld := ⟨FAB_DROP, 31, 0⟩
def FAB_PR_SRC : Nat := 0x4020
def FAB_PR_SRC_PORT : Fld := ⟨FAB_PR_SRC, 31, 31⟩
def FAB_PR_SRC_OFF : Fld := ⟨FAB_PR_SRC, 14, 0⟩
def FAB_PR_CMD : Nat := 0x4024
def FAB_PR_CMD_RESET_PORT : Fld := ⟨FAB_PR_CMD, 1, 1⟩
def FAB_PR_CMD_START : Fld := ⟨FAB_PR_CMD, 0, 0⟩
def FAB_PR_STAT : Nat := 0x4028
def FAB_PR_STAT_PHASE : Fld := ⟨FAB_PR_STAT, 31, 28⟩
def FAB_PR_STAT_RESULT : Fld := ⟨FAB_PR_STAT, 27, 24⟩
def FAB_PR_STAT_STAGED_KIB : Fld := ⟨FAB_PR_STAT, 16, 0⟩
def FAB_PR_CNT : Nat := 0x402c
def FAB_PR_CNT_OK : Fld := ⟨FAB_PR_CNT, 31, 16⟩
def FAB_PR_CNT_FAIL : Fld := ⟨FAB_PR_CNT, 15, 0⟩
def FAB_LPp_MAP (p : Nat) : Nat := 0x5000 + 0x10 * p
def FAB_LPp_MAP_STATE (p : Nat) : Fld := ⟨FAB_LPp_MAP p, 31, 30⟩
def FAB_LPp_MAP_CONF (p : Nat) : Fld := ⟨FAB_LPp_MAP p, 29, 29⟩
def FAB_LPp_MAP_FAULT (p : Nat) : Fld := ⟨FAB_LPp_MAP p, 28, 28⟩
def FAB_LPp_MAP_EXC (p : Nat) : Fld := ⟨FAB_LPp_MAP p, 27, 27⟩
def FAB_LPp_MAP_SLK (p : Nat) : Fld := ⟨FAB_LPp_MAP p, 26, 26⟩
def FAB_LPp_MAP_KTO (p : Nat) : Fld := ⟨FAB_LPp_MAP p, 25, 25⟩
def FAB_LPp_MAP_PPOD (p : Nat) : Fld := ⟨FAB_LPp_MAP p, 8, 0⟩
def FAB_LPp_PACE (p : Nat) : Nat := 0x5004 + 0x10 * p
def FAB_LPp_PACE_MIN (p : Nat) : Fld := ⟨FAB_LPp_PACE p, 31, 16⟩
def FAB_LPp_PACE_CUR (p : Nat) : Fld := ⟨FAB_LPp_PACE p, 15, 0⟩
def FAB_LPp_CNT0 (p : Nat) : Nat := 0x5008 + 0x10 * p
def FAB_LPp_CNT0_DROP (p : Nat) : Fld := ⟨FAB_LPp_CNT0 p, 31, 16⟩
def FAB_LPp_CNT0_VOID (p : Nat) : Fld := ⟨FAB_LPp_CNT0 p, 15, 0⟩
def FAB_LPp_CNT1 (p : Nat) : Nat := 0x500c + 0x10 * p
def FAB_LPp_CNT1_LATE (p : Nat) : Fld := ⟨FAB_LPp_CNT1 p, 31, 16⟩
def FAB_LPp_CNT1_MDISC (p : Nat) : Fld := ⟨FAB_LPp_CNT1 p, 15, 0⟩
def FAB_PPq_STAT (q : Nat) : Nat := 0x6000 + 0x4 * q
def FAB_PPq_STAT_USE (q : Nat) : Fld := ⟨FAB_PPq_STAT q, 31, 30⟩
def FAB_PPq_STAT_LPOD (q : Nat) : Fld := ⟨FAB_PPq_STAT q, 7, 0⟩
def FAB_LKa_STAT (a : Nat) : Nat := 0x7000 + 0x10 * a
def FAB_LKa_STAT_CONF (a : Nat) : Fld := ⟨FAB_LKa_STAT a, 31, 31⟩
def FAB_LKa_STAT_VOIDING (a : Nat) : Fld := ⟨FAB_LKa_STAT a, 30, 30⟩
def FAB_LKa_DROP (a : Nat) : Nat := 0x7004 + 0x10 * a
def FAB_LKa_DROP_CNT (a : Nat) : Fld := ⟨FAB_LKa_DROP a, 31, 0⟩
def FAB_BANK_SEL : Nat := 0x7100
def FAB_BANK_SEL_BANK : Fld := ⟨FAB_BANK_SEL, 28, 24⟩
def FAB_BANK_SEL_INDEX : Fld := ⟨FAB_BANK_SEL, 7, 0⟩
def FAB_BANK_DATA : Nat := 0x7104
def FAB_BANK_DATA_COEF : Fld := ⟨FAB_BANK_DATA, 23, 0⟩
def FAB_BANK_HDR : Nat := 0x7108
def FAB_BANK_HDR_CLASS : Fld := ⟨FAB_BANK_HDR, 31, 30⟩
def FAB_BANK_HDR_LEN : Fld := ⟨FAB_BANK_HDR, 7, 0⟩
def FAB_BANK_CMD : Nat := 0x710c
def FAB_BANK_CMD_OPEN : Fld := ⟨FAB_BANK_CMD, 1, 1⟩
def FAB_BANK_CMD_SEAL : Fld := ⟨FAB_BANK_CMD, 0, 0⟩
def FAB_BANK_STAT : Nat := 0x7110
def FAB_BANK_STAT_SEALED : Fld := ⟨FAB_BANK_STAT, 31, 31⟩
def FAB_BANK_STAT_USERS : Fld := ⟨FAB_BANK_STAT, 25, 16⟩

/-! ## PTH (spec chapter 07) -/

def PTHn_CTL (n : Nat) : Nat := 0x10000 + 0x40 * n
def PTHn_CTL_BANK (n : Nat) : Fld := ⟨PTHn_CTL n, 20, 16⟩
def PTHn_CTL_PRESET (n : Nat) : Fld := ⟨PTHn_CTL n, 15, 12⟩
def PTHn_CTL_INPUT (n : Nat) : Fld := ⟨PTHn_CTL n, 9, 8⟩
def PTHn_CTL_TYPE (n : Nat) : Fld := ⟨PTHn_CTL n, 1, 0⟩
def PTHn_BIN (n : Nat) : Nat := 0x10004 + 0x40 * n
def PTHn_BIN_BIN (n : Nat) : Fld := ⟨PTHn_BIN n, 10, 0⟩
def PTHn_NCO (n : Nat) : Nat := 0x10008 + 0x40 * n
def PTHn_NCO_FREQ (n : Nat) : Fld := ⟨PTHn_NCO n, 23, 0⟩
def PTHn_PHASE (n : Nat) : Nat := 0x1000c + 0x40 * n
def PTHn_PHASE_PHASE (n : Nat) : Fld := ⟨PTHn_PHASE n, 23, 0⟩
def PTHn_SHIFT (n : Nat) : Nat := 0x10010 + 0x40 * n
def PTHn_SHIFT_SH5 (n : Nat) : Fld := ⟨PTHn_SHIFT n, 29, 25⟩
def PTHn_SHIFT_SH4 (n : Nat) : Fld := ⟨PTHn_SHIFT n, 24, 20⟩
def PTHn_SHIFT_SH3 (n : Nat) : Fld := ⟨PTHn_SHIFT n, 19, 15⟩
def PTHn_SHIFT_SH2 (n : Nat) : Fld := ⟨PTHn_SHIFT n, 14, 10⟩
def PTHn_SHIFT_SH1 (n : Nat) : Fld := ⟨PTHn_SHIFT n, 9, 5⟩
def PTHn_SHIFT_SH0 (n : Nat) : Fld := ⟨PTHn_SHIFT n, 4, 0⟩
def PTHn_RS (n : Nat) : Nat := 0x10014 + 0x40 * n
def PTHn_RS_NUM (n : Nat) : Fld := ⟨PTHn_RS n, 31, 16⟩
def PTHn_RS_DEN (n : Nat) : Fld := ⟨PTHn_RS n, 15, 0⟩
def PTHn_CMD (n : Nat) : Nat := 0x10018 + 0x40 * n
def PTHn_CMD_SYNC (n : Nat) : Fld := ⟨PTHn_CMD n, 2, 2⟩
def PTHn_CMD_STOP (n : Nat) : Fld := ⟨PTHn_CMD n, 1, 1⟩
def PTHn_CMD_START (n : Nat) : Fld := ⟨PTHn_CMD n, 0, 0⟩
def PTHn_STAT (n : Nat) : Nat := 0x1001c + 0x40 * n
def PTHn_STAT_STATE (n : Nat) : Fld := ⟨PTHn_STAT n, 31, 29⟩
def PTHn_STAT_WARMUP (n : Nat) : Fld := ⟨PTHn_STAT n, 28, 28⟩
def PTHn_STAT_RS_ACT (n : Nat) : Fld := ⟨PTHn_STAT n, 27, 27⟩
def PTHn_STAT_CODE (n : Nat) : Fld := ⟨PTHn_STAT n, 19, 16⟩
def PTHn_STAT_REFCNT (n : Nat) : Fld := ⟨PTHn_STAT n, 15, 0⟩
def PTHn_START_LO (n : Nat) : Nat := 0x10020 + 0x40 * n
def PTHn_START_LO_TS (n : Nat) : Fld := ⟨PTHn_START_LO n, 31, 0⟩
def PTHn_START_HI (n : Nat) : Nat := 0x10024 + 0x40 * n
def PTHn_START_HI_TS (n : Nat) : Fld := ⟨PTHn_START_HI n, 31, 0⟩
def PTHn_TH (n : Nat) : Nat := 0x10028 + 0x40 * n
def PTHn_TH_EN (n : Nat) : Fld := ⟨PTHn_TH n, 31, 31⟩
def PTHn_TH_HYST (n : Nat) : Fld := ⟨PTHn_TH n, 27, 24⟩
def PTHn_TH_LEVEL (n : Nat) : Fld := ⟨PTHn_TH n, 8, 0⟩
def PTHn_LVL (n : Nat) : Nat := 0x1002c + 0x40 * n
def PTHn_LVL_ABOVE (n : Nat) : Fld := ⟨PTHn_LVL n, 16, 16⟩
def PTHn_LVL_LEVEL (n : Nat) : Fld := ⟨PTHn_LVL n, 15, 0⟩
def PTHn_SAT (n : Nat) : Nat := 0x10030 + 0x40 * n
def PTHn_SAT_SLOT (n : Nat) : Fld := ⟨PTHn_SAT n, 31, 29⟩
def PTHn_SAT_CNT (n : Nat) : Fld := ⟨PTHn_SAT n, 15, 0⟩
def PTHn_DROP (n : Nat) : Nat := 0x10034 + 0x40 * n
def PTHn_DROP_CNT (n : Nat) : Fld := ⟨PTHn_DROP n, 31, 0⟩
def PTHn_DLY (n : Nat) : Nat := 0x10038 + 0x40 * n
def PTHn_DLY_TICKS (n : Nat) : Fld := ⟨PTHn_DLY n, 31, 0⟩
def PTHn_DSMP (n : Nat) : Nat := 0x1003c + 0x40 * n
def PTHn_DSMP_SAMPLES (n : Nat) : Fld := ⟨PTHn_DSMP n, 15, 0⟩

/-! ## DEM (spec chapter 08) -/

def DEMn_CTL (n : Nat) : Nat := 0x18000 + 0x40 * n
def DEMn_CTL_SMUTE (n : Nat) : Fld := ⟨DEMn_CTL n, 13, 13⟩
def DEMn_CTL_RBDS (n : Nat) : Fld := ⟨DEMn_CTL n, 12, 12⟩
def DEMn_CTL_DELIV (n : Nat) : Fld := ⟨DEMn_CTL n, 11, 10⟩
def DEMn_CTL_RDS (n : Nat) : Fld := ⟨DEMn_CTL n, 9, 9⟩
def DEMn_CTL_DIV (n : Nat) : Fld := ⟨DEMn_CTL n, 7, 6⟩
def DEMn_CTL_AMDET (n : Nat) : Fld := ⟨DEMn_CTL n, 5, 4⟩
def DEMn_CTL_STEREO (n : Nat) : Fld := ⟨DEMn_CTL n, 3, 2⟩
def DEMn_CTL_DEEMPH (n : Nat) : Fld := ⟨DEMn_CTL n, 1, 0⟩
def DEMn_QCFG (n : Nat) : Nat := 0x18004 + 0x40 * n
def DEMn_QCFG_SM_DEPTH (n : Nat) : Fld := ⟨DEMn_QCFG n, 29, 24⟩
def DEMn_QCFG_SM_HI (n : Nat) : Fld := ⟨DEMn_QCFG n, 23, 16⟩
def DEMn_QCFG_SM_LO (n : Nat) : Fld := ⟨DEMn_QCFG n, 15, 8⟩
def DEMn_QCFG_LOS_DB (n : Nat) : Fld := ⟨DEMn_QCFG n, 7, 0⟩
def DEMn_BLEND (n : Nat) : Nat := 0x18008 + 0x40 * n
def DEMn_BLEND_HI (n : Nat) : Fld := ⟨DEMn_BLEND n, 15, 8⟩
def DEMn_BLEND_LO (n : Nat) : Fld := ⟨DEMn_BLEND n, 7, 0⟩
def DEMn_STAT (n : Nat) : Nat := 0x1800c + 0x40 * n
def DEMn_STAT_QVALID (n : Nat) : Fld := ⟨DEMn_STAT n, 31, 31⟩
def DEMn_STAT_WARMUP (n : Nat) : Fld := ⟨DEMn_STAT n, 30, 30⟩
def DEMn_STAT_LOST (n : Nat) : Fld := ⟨DEMn_STAT n, 29, 29⟩
def DEMn_STAT_PILOT (n : Nat) : Fld := ⟨DEMn_STAT n, 28, 28⟩
def DEMn_STAT_AMLOCK (n : Nat) : Fld := ⟨DEMn_STAT n, 27, 27⟩
def DEMn_STAT_RDS_SYNC (n : Nat) : Fld := ⟨DEMn_STAT n, 26, 26⟩
def DEMn_STAT_PI_CONF (n : Nat) : Fld := ⟨DEMn_STAT n, 25, 25⟩
def DEMn_STAT_SIDE (n : Nat) : Fld := ⟨DEMn_STAT n, 24, 24⟩
def DEMn_STAT_SEP (n : Nat) : Fld := ⟨DEMn_STAT n, 23, 16⟩
def DEMn_STAT_SMUTE_DB (n : Nat) : Fld := ⟨DEMn_STAT n, 15, 8⟩
def DEMn_LVL (n : Nat) : Nat := 0x18010 + 0x40 * n
def DEMn_LVL_CNR (n : Nat) : Fld := ⟨DEMn_LVL n, 31, 16⟩
def DEMn_LVL_RSSI (n : Nat) : Fld := ⟨DEMn_LVL n, 15, 0⟩
def DEMn_FM (n : Nat) : Nat := 0x18014 + 0x40 * n
def DEMn_FM_MPATH (n : Nat) : Fld := ⟨DEMn_FM n, 31, 22⟩
def DEMn_FM_USN (n : Nat) : Fld := ⟨DEMn_FM n, 15, 0⟩
def DEMn_FOFF (n : Nat) : Nat := 0x18018 + 0x40 * n
def DEMn_FOFF_FOFF (n : Nat) : Fld := ⟨DEMn_FOFF n, 23, 0⟩
def DEMn_MOD (n : Nat) : Nat := 0x1801c + 0x40 * n
def DEMn_MOD_PILOT (n : Nat) : Fld := ⟨DEMn_MOD n, 31, 16⟩
def DEMn_MOD_PEAK (n : Nat) : Fld := ⟨DEMn_MOD n, 15, 0⟩
def DEMn_DIVQ (n : Nat) : Nat := 0x18020 + 0x40 * n
def DEMn_DIVQ_CNR_B (n : Nat) : Fld := ⟨DEMn_DIVQ n, 31, 16⟩
def DEMn_DIVQ_CNR_A (n : Nat) : Fld := ⟨DEMn_DIVQ n, 15, 0⟩
def DEMn_QTS_LO (n : Nat) : Nat := 0x18024 + 0x40 * n
def DEMn_QTS_LO_TS (n : Nat) : Fld := ⟨DEMn_QTS_LO n, 31, 0⟩
def DEMn_QTS_HI (n : Nat) : Nat := 0x18028 + 0x40 * n
def DEMn_QTS_HI_TS (n : Nat) : Fld := ⟨DEMn_QTS_HI n, 31, 0⟩
def DEMn_PI (n : Nat) : Nat := 0x1802c + 0x40 * n
def DEMn_PI_CAND (n : Nat) : Fld := ⟨DEMn_PI n, 31, 16⟩
def DEMn_PI_PI (n : Nat) : Fld := ⟨DEMn_PI n, 15, 0⟩
def DEMn_RDSQ (n : Nat) : Nat := 0x18030 + 0x40 * n
def DEMn_RDSQ_BLER (n : Nat) : Fld := ⟨DEMn_RDSQ n, 23, 16⟩
def DEMn_RDSQ_RUN (n : Nat) : Fld := ⟨DEMn_RDSQ n, 2, 0⟩
def DEMn_RDSCNT (n : Nat) : Nat := 0x18034 + 0x40 * n
def DEMn_RDSCNT_GROUPS (n : Nat) : Fld := ⟨DEMn_RDSCNT n, 31, 16⟩
def DEMn_RDSCNT_SYNCLOSS (n : Nat) : Fld := ⟨DEMn_RDSCNT n, 15, 0⟩
def DEMn_RDSBLK (n : Nat) : Nat := 0x18038 + 0x40 * n
def DEMn_RDSBLK_BAD (n : Nat) : Fld := ⟨DEMn_RDSBLK n, 31, 16⟩
def DEMn_RDSBLK_CORR (n : Nat) : Fld := ⟨DEMn_RDSBLK n, 15, 0⟩
def DEMn_RDSCNT2 (n : Nat) : Nat := 0x1803c + 0x40 * n
def DEMn_RDSCNT2_OFFE (n : Nat) : Fld := ⟨DEMn_RDSCNT2 n, 31, 16⟩
def DEMn_RDSCNT2_DISC (n : Nat) : Fld := ⟨DEMn_RDSCNT2 n, 15, 0⟩

/-! ## DAB (spec chapter 09) -/

def ENSs_CTL (s : Nat) : Nat := 0x20000 + 0x40 * s
def ENSs_CTL_FICDELIV (s : Nat) : Fld := ⟨ENSs_CTL s, 11, 10⟩
def ENSs_CTL_INPUT (s : Nat) : Fld := ⟨ENSs_CTL s, 9, 8⟩
def ENSs_BIN (s : Nat) : Nat := 0x20004 + 0x40 * s
def ENSs_BIN_BIN (s : Nat) : Fld := ⟨ENSs_BIN s, 10, 0⟩
def ENSs_NCO (s : Nat) : Nat := 0x20008 + 0x40 * s
def ENSs_NCO_FREQ (s : Nat) : Fld := ⟨ENSs_NCO s, 23, 0⟩
def ENSs_CMD (s : Nat) : Nat := 0x2000c + 0x40 * s
def ENSs_CMD_RESYNC (s : Nat) : Fld := ⟨ENSs_CMD s, 2, 2⟩
def ENSs_CMD_STOP (s : Nat) : Fld := ⟨ENSs_CMD s, 1, 1⟩
def ENSs_CMD_START (s : Nat) : Fld := ⟨ENSs_CMD s, 0, 0⟩
def ENSs_STAT (s : Nat) : Nat := 0x20010 + 0x40 * s
def ENSs_STAT_STATE (s : Nat) : Fld := ⟨ENSs_STAT s, 31, 29⟩
def ENSs_STAT_FIC_OK (s : Nat) : Fld := ⟨ENSs_STAT s, 28, 28⟩
def ENSs_STAT_CODE (s : Nat) : Fld := ⟨ENSs_STAT s, 19, 16⟩
def ENSs_STAT_REFCNT (s : Nat) : Fld := ⟨ENSs_STAT s, 15, 0⟩
def ENSs_LVL (s : Nat) : Nat := 0x20014 + 0x40 * s
def ENSs_LVL_MER (s : Nat) : Fld := ⟨ENSs_LVL s, 31, 16⟩
def ENSs_LVL_RSSI (s : Nat) : Fld := ⟨ENSs_LVL s, 15, 0⟩
def ENSs_FOFF (s : Nat) : Nat := 0x20018 + 0x40 * s
def ENSs_FOFF_FOFF (s : Nat) : Fld := ⟨ENSs_FOFF s, 23, 0⟩
def ENSs_FIC (s : Nat) : Nat := 0x2001c + 0x40 * s
def ENSs_FIC_FICBER (s : Nat) : Fld := ⟨ENSs_FIC s, 31, 16⟩
def ENSs_FIC_FIBBAD (s : Nat) : Fld := ⟨ENSs_FIC s, 6, 0⟩
def ENSs_EID (s : Nat) : Nat := 0x20020 + 0x40 * s
def ENSs_EID_VALID (s : Nat) : Fld := ⟨ENSs_EID s, 31, 31⟩
def ENSs_EID_CIF (s : Nat) : Fld := ⟨ENSs_EID s, 28, 16⟩
def ENSs_EID_EID (s : Nat) : Fld := ⟨ENSs_EID s, 15, 0⟩
def ENSs_QTS_LO (s : Nat) : Nat := 0x20024 + 0x40 * s
def ENSs_QTS_LO_TS (s : Nat) : Fld := ⟨ENSs_QTS_LO s, 31, 0⟩
def ENSs_QTS_HI (s : Nat) : Nat := 0x20028 + 0x40 * s
def ENSs_QTS_HI_TS (s : Nat) : Fld := ⟨ENSs_QTS_HI s, 31, 0⟩
def ENSs_CNT (s : Nat) : Nat := 0x2002c + 0x40 * s
def ENSs_CNT_FIBS (s : Nat) : Fld := ⟨ENSs_CNT s, 31, 16⟩
def ENSs_CNT_SYNCLOSS (s : Nat) : Fld := ⟨ENSs_CNT s, 15, 0⟩
def ENSs_FIBCNT (s : Nat) : Nat := 0x20030 + 0x40 * s
def ENSs_FIBCNT_BAD (s : Nat) : Fld := ⟨ENSs_FIBCNT s, 31, 16⟩
def ENSs_FIBCNT_DISC (s : Nat) : Fld := ⟨ENSs_FIBCNT s, 15, 0⟩
def ENSs_SUBOUT_LO (s : Nat) : Nat := 0x20034 + 0x40 * s
def ENSs_SUBOUT_LO_MASK (s : Nat) : Fld := ⟨ENSs_SUBOUT_LO s, 31, 0⟩
def ENSs_SUBOUT_HI (s : Nat) : Nat := 0x20038 + 0x40 * s
def ENSs_SUBOUT_HI_MASK (s : Nat) : Fld := ⟨ENSs_SUBOUT_HI s, 31, 0⟩
def ENSs_ERASE (s : Nat) : Nat := 0x2003c + 0x40 * s
def ENSs_ERASE_CNT (s : Nat) : Fld := ⟨ENSs_ERASE s, 31, 0⟩
def DAB_REFUSE : Nat := 0x21000
def DAB_REFUSE_CODE : Fld := ⟨DAB_REFUSE, 31, 28⟩
def DAB_REFUSE_CNT : Fld := ⟨DAB_REFUSE, 15, 0⟩
def DAB_USE : Nat := 0x21004
def DAB_USE_DEC_RUN : Fld := ⟨DAB_USE, 23, 16⟩
def DAB_USE_ENS_LOCK : Fld := ⟨DAB_USE, 5, 0⟩
def DECd_CTL (d : Nat) : Nat := 0x22000 + 0x20 * d
def DECd_CTL_OWNER (d : Nat) : Fld := ⟨DECd_CTL d, 31, 31⟩
def DECd_CTL_SLOT (d : Nat) : Fld := ⟨DECd_CTL d, 21, 16⟩
def DECd_CTL_SUBCH (d : Nat) : Fld := ⟨DECd_CTL d, 13, 8⟩
def DECd_CTL_PAD (d : Nat) : Fld := ⟨DECd_CTL d, 4, 4⟩
def DECd_CTL_CODEC (d : Nat) : Fld := ⟨DECd_CTL d, 1, 0⟩
def DECd_CMD (d : Nat) : Nat := 0x22004 + 0x20 * d
def DECd_CMD_STOP (d : Nat) : Fld := ⟨DECd_CMD d, 1, 1⟩
def DECd_CMD_START (d : Nat) : Fld := ⟨DECd_CMD d, 0, 0⟩
def DECd_STAT (d : Nat) : Nat := 0x22008 + 0x20 * d
def DECd_STAT_STATE (d : Nat) : Fld := ⟨DECd_STAT d, 31, 29⟩
def DECd_STAT_WARMUP (d : Nat) : Fld := ⟨DECd_STAT d, 28, 28⟩
def DECd_STAT_WAIT (d : Nat) : Fld := ⟨DECd_STAT d, 27, 25⟩
def DECd_STAT_STEREO (d : Nat) : Fld := ⟨DECd_STAT d, 24, 24⟩
def DECd_STAT_CORE (d : Nat) : Fld := ⟨DECd_STAT d, 23, 22⟩
def DECd_STAT_SBR (d : Nat) : Fld := ⟨DECd_STAT d, 21, 21⟩
def DECd_STAT_PS (d : Nat) : Fld := ⟨DECd_STAT d, 20, 20⟩
def DECd_STAT_CODE (d : Nat) : Fld := ⟨DECd_STAT d, 19, 16⟩
def DECd_STAT_REFCNT (d : Nat) : Fld := ⟨DECd_STAT d, 15, 0⟩
def DECd_FMT (d : Nat) : Nat := 0x2200c + 0x20 * d
def DECd_FMT_CODEC_ACT (d : Nat) : Fld := ⟨DECd_FMT d, 31, 30⟩
def DECd_FMT_SIZE_CU (d : Nat) : Fld := ⟨DECd_FMT d, 25, 16⟩
def DECd_FMT_BITRATE (d : Nat) : Fld := ⟨DECd_FMT d, 15, 0⟩
def DECd_QUAL (d : Nat) : Nat := 0x22010 + 0x20 * d
def DECd_QUAL_ERR (d : Nat) : Fld := ⟨DECd_QUAL d, 31, 24⟩
def DECd_QUAL_SFFAIL (d : Nat) : Fld := ⟨DECd_QUAL d, 23, 16⟩
def DECd_CNT (d : Nat) : Nat := 0x22014 + 0x20 * d
def DECd_CNT_CONCEAL (d : Nat) : Fld := ⟨DECd_CNT d, 31, 16⟩
def DECd_CNT_RSCORR (d : Nat) : Fld := ⟨DECd_CNT d, 15, 0⟩
def DECd_LAT (d : Nat) : Nat := 0x22018 + 0x20 * d
def DECd_LAT_TICKS (d : Nat) : Fld := ⟨DECd_LAT d, 31, 0⟩
def DECd_RATE (d : Nat) : Nat := 0x2201c + 0x20 * d
def DECd_RATE_RATE (d : Nat) : Fld := ⟨DECd_RATE d, 31, 0⟩

/-! ## FOL (spec chapter 10) -/

def FOLp_CTL (p : Nat) : Nat := 0x28000 + 0x40 * p
def FOLp_CTL_XFADE_MS (p : Nat) : Fld := ⟨FOLp_CTL p, 31, 21⟩
def FOLp_CTL_FXF_MS (p : Nat) : Fld := ⟨FOLp_CTL p, 15, 8⟩
def FOLp_CTL_LOUD (p : Nat) : Fld := ⟨FOLp_CTL p, 6, 6⟩
def FOLp_CTL_SOFTLINK (p : Nat) : Fld := ⟨FOLp_CTL p, 5, 5⟩
def FOLp_CTL_REGIONAL (p : Nat) : Fld := ⟨FOLp_CTL p, 4, 4⟩
def FOLp_CTL_AM (p : Nat) : Fld := ⟨FOLp_CTL p, 3, 3⟩
def FOLp_CTL_DAB (p : Nat) : Fld := ⟨FOLp_CTL p, 2, 2⟩
def FOLp_CTL_KEY (p : Nat) : Fld := ⟨FOLp_CTL p, 1, 0⟩
def FOLp_ID (p : Nat) : Nat := 0x28004 + 0x40 * p
def FOLp_ID_SID (p : Nat) : Fld := ⟨FOLp_ID p, 31, 16⟩
def FOLp_ID_PI (p : Nat) : Fld := ⟨FOLp_ID p, 15, 0⟩
def FOLp_DELAY (p : Nat) : Nat := 0x28008 + 0x40 * p
def FOLp_DELAY_SMP (p : Nat) : Fld := ⟨FOLp_DELAY p, 19, 0⟩
def FOLp_POL0 (p : Nat) : Nat := 0x2800c + 0x40 * p
def FOLp_POL0_HYST (p : Nat) : Fld := ⟨FOLp_POL0 p, 31, 24⟩
def FOLp_POL0_HOLD (p : Nat) : Fld := ⟨FOLp_POL0 p, 23, 16⟩
def FOLp_POL0_MINDWELL (p : Nat) : Fld := ⟨FOLp_POL0 p, 15, 8⟩
def FOLp_POL0_SEARCH (p : Nat) : Fld := ⟨FOLp_POL0 p, 7, 0⟩
def FOLp_POL1 (p : Nat) : Nat := 0x28010 + 0x40 * p
def FOLp_POL1_DAB_BIAS (p : Nat) : Fld := ⟨FOLp_POL1 p, 31, 24⟩
def FOLp_POL1_AM_BIAS (p : Nat) : Fld := ⟨FOLp_POL1 p, 23, 16⟩
def FOLp_POL1_RHO_MIN (p : Nat) : Fld := ⟨FOLp_POL1 p, 15, 8⟩
def FOLp_POL1_TAU (p : Nat) : Fld := ⟨FOLp_POL1 p, 7, 0⟩
def FOLp_STAT (p : Nat) : Nat := 0x28014 + 0x40 * p
def FOLp_STAT_STATE (p : Nat) : Fld := ⟨FOLp_STAT p, 31, 29⟩
def FOLp_STAT_XFADE (p : Nat) : Fld := ⟨FOLp_STAT p, 28, 28⟩
def FOLp_STAT_ALLLOST (p : Nat) : Fld := ⟨FOLp_STAT p, 27, 27⟩
def FOLp_STAT_SILENT (p : Nat) : Fld := ⟨FOLp_STAT p, 26, 26⟩
def FOLp_STAT_DEFER (p : Nat) : Fld := ⟨FOLp_STAT p, 25, 25⟩
def FOLp_STAT_ACTIVE (p : Nat) : Fld := ⟨FOLp_STAT p, 23, 20⟩
def FOLp_STAT_CODE (p : Nat) : Fld := ⟨FOLp_STAT p, 19, 16⟩
def FOLp_STAT_REFCNT (p : Nat) : Fld := ⟨FOLp_STAT p, 15, 0⟩
def FOLp_SRC (p : Nat) : Nat := 0x28018 + 0x40 * p
def FOLp_SRC_IKIND (p : Nat) : Fld := ⟨FOLp_SRC p, 31, 30⟩
def FOLp_SRC_IIDX (p : Nat) : Fld := ⟨FOLp_SRC p, 29, 26⟩
def FOLp_SRC_INUM (p : Nat) : Fld := ⟨FOLp_SRC p, 25, 16⟩
def FOLp_SRC_AKIND (p : Nat) : Fld := ⟨FOLp_SRC p, 15, 14⟩
def FOLp_SRC_AIDX (p : Nat) : Fld := ⟨FOLp_SRC p, 13, 10⟩
def FOLp_SRC_ANUM (p : Nat) : Fld := ⟨FOLp_SRC p, 9, 0⟩
def FOLp_SCORE (p : Nat) : Nat := 0x2801c + 0x40 * p
def FOLp_SCORE_BEST (p : Nat) : Fld := ⟨FOLp_SCORE p, 31, 16⟩
def FOLp_SCORE_ACT (p : Nat) : Fld := ⟨FOLp_SCORE p, 15, 0⟩
def FOLp_OFFS (p : Nat) : Nat := 0x28020 + 0x40 * p
def FOLp_OFFS_A (p : Nat) : Fld := ⟨FOLp_OFFS p, 31, 0⟩
def FOLp_GAIN (p : Nat) : Nat := 0x28024 + 0x40 * p
def FOLp_GAIN_GIN (p : Nat) : Fld := ⟨FOLp_GAIN p, 31, 16⟩
def FOLp_GAIN_GACT (p : Nat) : Fld := ⟨FOLp_GAIN p, 15, 0⟩
def FOLp_XF (p : Nat) : Nat := 0x28028 + 0x40 * p
def FOLp_XF_KIND (p : Nat) : Fld := ⟨FOLp_XF p, 31, 30⟩
def FOLp_XF_REMAIN (p : Nat) : Fld := ⟨FOLp_XF p, 15, 0⟩
def FOLp_LASTSW_LO (p : Nat) : Nat := 0x2802c + 0x40 * p
def FOLp_LASTSW_LO_TS (p : Nat) : Fld := ⟨FOLp_LASTSW_LO p, 31, 0⟩
def FOLp_LASTSW_HI (p : Nat) : Nat := 0x28030 + 0x40 * p
def FOLp_LASTSW_HI_TS (p : Nat) : Fld := ⟨FOLp_LASTSW_HI p, 31, 0⟩
def FOLp_CNT0 (p : Nat) : Nat := 0x28034 + 0x40 * p
def FOLp_CNT0_DISC (p : Nat) : Fld := ⟨FOLp_CNT0 p, 31, 16⟩
def FOLp_CNT0_FORCED (p : Nat) : Fld := ⟨FOLp_CNT0 p, 15, 0⟩
def FOLp_CNT1 (p : Nat) : Nat := 0x28038 + 0x40 * p
def FOLp_CNT1_HARD (p : Nat) : Fld := ⟨FOLp_CNT1 p, 31, 16⟩
def FOLp_CNT1_PATCH (p : Nat) : Fld := ⟨FOLp_CNT1 p, 15, 0⟩
def FOLp_CNT2 (p : Nat) : Nat := 0x2803c + 0x40 * p
def FOLp_CNT2_DROP (p : Nat) : Fld := ⟨FOLp_CNT2 p, 31, 16⟩
def FOLp_CNT2_INELIG (p : Nat) : Fld := ⟨FOLp_CNT2 p, 15, 0⟩
def FOL_REFUSE : Nat := 0x2c000
def FOL_REFUSE_CODE : Fld := ⟨FOL_REFUSE, 31, 28⟩
def FOL_REFUSE_CNT : Fld := ⟨FOL_REFUSE, 15, 0⟩
def FOL_CMD : Nat := 0x2c004
def FOL_CMD_OP : Fld := ⟨FOL_CMD, 31, 28⟩
def FOL_CMD_INDEX : Fld := ⟨FOL_CMD, 19, 16⟩
def FOL_CMD_PROG : Fld := ⟨FOL_CMD, 7, 0⟩
def FOL_POOL : Nat := 0x2c008
def FOL_POOL_BASE : Fld := ⟨FOL_POOL, 24, 16⟩
def FOL_POOL_COUNT : Fld := ⟨FOL_POOL, 9, 0⟩
def FOL_DEC : Nat := 0x2c00c
def FOL_DEC_MAX : Fld := ⟨FOL_DEC, 7, 0⟩
def FOL_CSEL : Nat := 0x2c010
def FOL_CSEL_PROG : Fld := ⟨FOL_CSEL, 15, 8⟩
def FOL_CSEL_INDEX : Fld := ⟨FOL_CSEL, 3, 0⟩
def FOL_CINFO0 : Nat := 0x2c014
def FOL_CINFO0_STATE : Fld := ⟨FOL_CINFO0, 31, 28⟩
def FOL_CINFO0_KIND : Fld := ⟨FOL_CINFO0, 27, 26⟩
def FOL_CINFO0_ORIGIN : Fld := ⟨FOL_CINFO0, 25, 24⟩
def FOL_CINFO0_LCLAMP : Fld := ⟨FOL_CINFO0, 23, 23⟩
def FOL_CINFO0_NUM : Fld := ⟨FOL_CINFO0, 15, 0⟩
def FOL_CINFO1 : Nat := 0x2c018
def FOL_CINFO1_A : Fld := ⟨FOL_CINFO1, 31, 0⟩
def FOL_CINFO2 : Nat := 0x2c01c
def FOL_CINFO2_E : Fld := ⟨FOL_CINFO2, 31, 16⟩
def FOL_CINFO2_G : Fld := ⟨FOL_CINFO2, 15, 0⟩
def FOL_CINFO3 : Nat := 0x2c020
def FOL_CINFO3_RHO : Fld := ⟨FOL_CINFO3, 31, 24⟩
def FOL_CINFO3_LAT_US : Fld := ⟨FOL_CINFO3, 19, 0⟩
def FOL_CLIST : Nat := 0x2c024
def FOL_CLIST_VALID : Fld := ⟨FOL_CLIST, 31, 31⟩
def FOL_CLIST_KIND : Fld := ⟨FOL_CLIST, 30, 29⟩
def FOL_CLIST_BIAS : Fld := ⟨FOL_CLIST, 23, 16⟩
def FOL_CLIST_NUM : Fld := ⟨FOL_CLIST, 15, 0⟩
def FOL_USE : Nat := 0x2c028
def FOL_USE_POOL_USED : Fld := ⟨FOL_USE, 31, 22⟩
def FOL_USE_PROG_RUN : Fld := ⟨FOL_USE, 21, 13⟩
def FOL_USE_DEC_OWNED : Fld := ⟨FOL_USE, 7, 0⟩

/-! ## MRW (spec chapter 11) -/

def MRW_REFUSE : Nat := 0x30000
def MRW_REFUSE_CODE : Fld := ⟨MRW_REFUSE, 31, 28⟩
def MRW_REFUSE_CNT : Fld := ⟨MRW_REFUSE, 15, 0⟩
def MRW_STAT : Nat := 0x30004
def MRW_STAT_INIT_DONE : Fld := ⟨MRW_STAT, 31, 31⟩
def MRW_STAT_STACK_OK : Fld := ⟨MRW_STAT, 3, 0⟩
def MRW_REG_BASE (k : Nat) : Nat := 0x30010 + 8 * k
def MRW_REG_BASE_BASE (k : Nat) : Fld := ⟨MRW_REG_BASE k, 8, 0⟩
def MRW_REG_SIZE (k : Nat) : Nat := 0x30014 + 8 * k
def MRW_REG_SIZE_SIZE (k : Nat) : Fld := ⟨MRW_REG_SIZE k, 9, 0⟩
def MRW_AUD_CFG : Nat := 0x30038
def MRW_AUD_CFG_CHANS : Fld := ⟨MRW_AUD_CFG, 10, 0⟩
def MRW_REG_CMD : Nat := 0x30040
def MRW_REG_CMD_APPLY : Fld := ⟨MRW_REG_CMD, 0, 0⟩
def MRW_REG_STAT : Nat := 0x30044
def MRW_REG_STAT_FIXED : Fld := ⟨MRW_REG_STAT, 31, 31⟩
def MRW_REG_STAT_MATCH : Fld := ⟨MRW_REG_STAT, 30, 30⟩
def MRW_RING_T0_LO : Nat := 0x30048
def MRW_RING_T0_LO_TS : Fld := ⟨MRW_RING_T0_LO, 31, 0⟩
def MRW_RING_T0_HI : Nat := 0x3004c
def MRW_RING_T0_HI_TS : Fld := ⟨MRW_RING_T0_HI, 31, 0⟩
def MRW_BBR_STAT : Nat := 0x30050
def MRW_BBR_STAT_REC : Fld := ⟨MRW_BBR_STAT, 31, 31⟩
def MRW_BBR_STAT_DEPTH : Fld := ⟨MRW_BBR_STAT, 17, 0⟩
def MRW_AUD_STAT : Nat := 0x30054
def MRW_AUD_STAT_USED : Fld := ⟨MRW_AUD_STAT, 31, 21⟩
def MRW_AUD_STAT_DEPTH : Fld := ⟨MRW_AUD_STAT, 20, 0⟩
def MRW_RING_LOST : Nat := 0x30058
def MRW_RING_LOST_BB : Fld := ⟨MRW_RING_LOST, 31, 16⟩
def MRW_RING_LOST_AUD : Fld := ⟨MRW_RING_LOST, 15, 0⟩
def MRW_AUD_FULL : Nat := 0x3005c
def MRW_AUD_FULL_FULLCNT : Fld := ⟨MRW_AUD_FULL, 15, 0⟩
def MRW_TSH (i : Nat) : Nat := 0x30060 + 4 * i
def MRW_TSH_PROG (i : Nat) : Fld := ⟨MRW_TSH i, 31, 0⟩
def MRW_ECC (k : Nat) : Nat := 0x30080 + 4 * k
def MRW_ECC_CE (k : Nat) : Fld := ⟨MRW_ECC k, 31, 16⟩
def MRW_ECC_UE (k : Nat) : Fld := ⟨MRW_ECC k, 15, 8⟩
def MRW_ECC_SUSPECT (k : Nat) : Fld := ⟨MRW_ECC k, 7, 0⟩
def MRW_ECC_ADDR_LO : Nat := 0x30090
def MRW_ECC_ADDR_LO_ADDR : Fld := ⟨MRW_ECC_ADDR_LO, 31, 0⟩
def MRW_ECC_ADDR_HI : Nat := 0x30094
def MRW_ECC_ADDR_HI_ADDR : Fld := ⟨MRW_ECC_ADDR_HI, 31, 0⟩
def MRW_SCRUB : Nat := 0x30098
def MRW_SCRUB_EN : Fld := ⟨MRW_SCRUB, 31, 31⟩
def MRW_SCRUB_PROGRESS : Fld := ⟨MRW_SCRUB, 23, 16⟩
def MRW_SCRUB_HOURS : Fld := ⟨MRW_SCRUB, 7, 0⟩
def MRW_CLS : Nat := 0x300a0
def MRW_CLS_RES0 : Fld := ⟨MRW_CLS, 31, 24⟩
def MRW_CLS_RES2 : Fld := ⟨MRW_CLS, 23, 16⟩
def MRW_WAIT : Nat := 0x300a4
def MRW_WAIT_W2 : Fld := ⟨MRW_WAIT, 31, 16⟩
def MRW_WAIT_W1 : Fld := ⟨MRW_WAIT, 15, 0⟩
def MRW_SNP_CTL : Nat := 0x300c0
def MRW_SNP_CTL_EVT : Fld := ⟨MRW_SNP_CTL, 23, 16⟩
def MRW_SNP_CTL_TRIG : Fld := ⟨MRW_SNP_CTL, 9, 8⟩
def MRW_SNP_CTL_SRC : Fld := ⟨MRW_SNP_CTL, 1, 0⟩
def MRW_SNP_POST : Nat := 0x300c4
def MRW_SNP_POST_POST_US : Fld := ⟨MRW_SNP_POST, 23, 0⟩
def MRW_SNP_CMD : Nat := 0x300c8
def MRW_SNP_CMD_STOP : Fld := ⟨MRW_SNP_CMD, 2, 2⟩
def MRW_SNP_CMD_TRIG : Fld := ⟨MRW_SNP_CMD, 1, 1⟩
def MRW_SNP_CMD_ARM : Fld := ⟨MRW_SNP_CMD, 0, 0⟩
def MRW_SNP_STAT : Nat := 0x300cc
def MRW_SNP_STAT_STATE : Fld := ⟨MRW_SNP_STAT, 31, 29⟩
def MRW_SNP_STAT_FULL : Fld := ⟨MRW_SNP_STAT, 28, 28⟩
def MRW_SNP_STAT_EXTRA : Fld := ⟨MRW_SNP_STAT, 15, 0⟩
def MRW_SNP_MATCH_LO : Nat := 0x300d0
def MRW_SNP_MATCH_LO_TS : Fld := ⟨MRW_SNP_MATCH_LO, 31, 0⟩
def MRW_SNP_MATCH_HI : Nat := 0x300d4
def MRW_SNP_MATCH_HI_TS : Fld := ⟨MRW_SNP_MATCH_HI, 31, 0⟩
def MRW_SNP_TRIG_LO : Nat := 0x300d8
def MRW_SNP_TRIG_LO_TS : Fld := ⟨MRW_SNP_TRIG_LO, 31, 0⟩
def MRW_SNP_TRIG_HI : Nat := 0x300dc
def MRW_SNP_TRIG_HI_TS : Fld := ⟨MRW_SNP_TRIG_HI, 31, 0⟩
def MRW_SNP_FIRST_LO : Nat := 0x300e0
def MRW_SNP_FIRST_LO_TS : Fld := ⟨MRW_SNP_FIRST_LO, 31, 0⟩
def MRW_SNP_FIRST_HI : Nat := 0x300e4
def MRW_SNP_FIRST_HI_TS : Fld := ⟨MRW_SNP_FIRST_HI, 31, 0⟩
def MRW_SNP_OLDEST : Nat := 0x300e8
def MRW_SNP_OLDEST_SLOT : Fld := ⟨MRW_SNP_OLDEST, 27, 0⟩
def MRW_SNP_SLOTS : Nat := 0x300ec
def MRW_SNP_SLOTS_SLOTS : Fld := ⟨MRW_SNP_SLOTS, 27, 0⟩
def MRW_RQr_CFG (r : Nat) : Nat := 0x31000 + 0x10 * r
def MRW_RQr_CFG_ORDER (r : Nat) : Fld := ⟨MRW_RQr_CFG r, 31, 31⟩
def MRW_RQr_CFG_CLASS (r : Nat) : Fld := ⟨MRW_RQr_CFG r, 1, 0⟩
def MRW_RQr_CNT0 (r : Nat) : Nat := 0x31004 + 0x10 * r
def MRW_RQr_CNT0_DEFER (r : Nat) : Fld := ⟨MRW_RQr_CNT0 r, 31, 16⟩
def MRW_RQr_CNT0_REFCAP (r : Nat) : Fld := ⟨MRW_RQr_CNT0 r, 15, 0⟩
def MRW_RQr_CNT1 (r : Nat) : Nat := 0x31008 + 0x10 * r
def MRW_RQr_CNT1_REFCLS (r : Nat) : Fld := ⟨MRW_RQr_CNT1 r, 31, 16⟩
def MRW_RQr_CNT1_VOID (r : Nat) : Fld := ⟨MRW_RQr_CNT1 r, 15, 0⟩
def MRW_RQr_CNT2 (r : Nat) : Nat := 0x3100c + 0x10 * r
def MRW_RQr_CNT2_MDISC (r : Nat) : Fld := ⟨MRW_RQr_CNT2 r, 31, 16⟩
def MRW_RQr_CNT2_OUT (r : Nat) : Fld := ⟨MRW_RQr_CNT2 r, 10, 0⟩
def MRW_ACH (c : Nat) : Nat := 0x33000 + 4 * c
def MRW_ACH_VALID (c : Nat) : Fld := ⟨MRW_ACH c, 31, 31⟩
def MRW_ACH_KIND (c : Nat) : Fld := ⟨MRW_ACH c, 30, 29⟩
def MRW_ACH_NUM (c : Nat) : Fld := ⟨MRW_ACH c, 9, 0⟩

/-! ## SAP (spec chapter 12) -/

def SAP_REFUSE : Nat := 0x34000
def SAP_REFUSE_CODE : Fld := ⟨SAP_REFUSE, 31, 28⟩
def SAP_REFUSE_CNT : Fld := ⟨SAP_REFUSE, 15, 0⟩
def SAPk_CTL (k : Nat) : Nat := 0x34100 + 0x100 * k
def SAPk_CTL_EN (k : Nat) : Fld := ⟨SAPk_CTL k, 31, 31⟩
def SAPk_CTL_FS (k : Nat) : Fld := ⟨SAPk_CTL k, 27, 26⟩
def SAPk_CTL_CLKSRC (k : Nat) : Fld := ⟨SAPk_CTL k, 25, 24⟩
def SAPk_CTL_FORMAT (k : Nat) : Fld := ⟨SAPk_CTL k, 21, 20⟩
def SAPk_CTL_WLEN (k : Nat) : Fld := ⟨SAPk_CTL k, 19, 18⟩
def SAPk_CTL_SLOTS (k : Nat) : Fld := ⟨SAPk_CTL k, 17, 16⟩
def SAPk_CTL_TARGET (k : Nat) : Fld := ⟨SAPk_CTL k, 15, 8⟩
def SAPk_CTL_RAMP_MS (k : Nat) : Fld := ⟨SAPk_CTL k, 7, 0⟩
def SAPk_STAT (k : Nat) : Nat := 0x34104 + 0x100 * k
def SAPk_STAT_OSTATE (k : Nat) : Fld := ⟨SAPk_STAT k, 31, 30⟩
def SAPk_STAT_ISTATE (k : Nat) : Fld := ⟨SAPk_STAT k, 29, 28⟩
def SAPk_STAT_MUTED (k : Nat) : Fld := ⟨SAPk_STAT k, 27, 27⟩
def SAPk_STAT_MASK_PEND (k : Nat) : Fld := ⟨SAPk_STAT k, 26, 26⟩
def SAPk_STAT_RS_ACT (k : Nat) : Fld := ⟨SAPk_STAT k, 25, 25⟩
def SAPk_STAT_CODE (k : Nat) : Fld := ⟨SAPk_STAT k, 19, 16⟩
def SAPk_STAT_REFCNT (k : Nat) : Fld := ⟨SAPk_STAT k, 15, 0⟩
def SAPk_ORATE (k : Nat) : Nat := 0x34108 + 0x100 * k
def SAPk_ORATE_PPB (k : Nat) : Fld := ⟨SAPk_ORATE k, 31, 0⟩
def SAPk_IRATE (k : Nat) : Nat := 0x3410c + 0x100 * k
def SAPk_IRATE_PPB (k : Nat) : Fld := ⟨SAPk_IRATE k, 31, 0⟩
def SAPk_FLT (k : Nat) : Nat := 0x34110 + 0x100 * k
def SAPk_FLT_ISTOP (k : Nat) : Fld := ⟨SAPk_FLT k, 31, 24⟩
def SAPk_FLT_IRATE (k : Nat) : Fld := ⟨SAPk_FLT k, 23, 16⟩
def SAPk_FLT_OSTOP (k : Nat) : Fld := ⟨SAPk_FLT k, 15, 8⟩
def SAPk_FLT_ORATE (k : Nat) : Fld := ⟨SAPk_FLT k, 7, 0⟩
def SAPk_GLITCH (k : Nat) : Nat := 0x34114 + 0x100 * k
def SAPk_GLITCH_I (k : Nat) : Fld := ⟨SAPk_GLITCH k, 31, 16⟩
def SAPk_GLITCH_O (k : Nat) : Fld := ⟨SAPk_GLITCH k, 15, 0⟩
def SAPk_OSLIP (k : Nat) : Nat := 0x34118 + 0x100 * k
def SAPk_OSLIP_INS (k : Nat) : Fld := ⟨SAPk_OSLIP k, 31, 16⟩
def SAPk_OSLIP_DEL (k : Nat) : Fld := ⟨SAPk_OSLIP k, 15, 0⟩
def SAPk_ISLIP (k : Nat) : Nat := 0x3411c + 0x100 * k
def SAPk_ISLIP_INS (k : Nat) : Fld := ⟨SAPk_ISLIP k, 31, 16⟩
def SAPk_ISLIP_DEL (k : Nat) : Fld := ⟨SAPk_ISLIP k, 15, 0⟩
def SAPk_XRUN (k : Nat) : Nat := 0x34120 + 0x100 * k
def SAPk_XRUN_OUNDER (k : Nat) : Fld := ⟨SAPk_XRUN k, 31, 24⟩
def SAPk_XRUN_OOVER (k : Nat) : Fld := ⟨SAPk_XRUN k, 23, 16⟩
def SAPk_XRUN_IUNDER (k : Nat) : Fld := ⟨SAPk_XRUN k, 15, 8⟩
def SAPk_XRUN_IOVER (k : Nat) : Fld := ⟨SAPk_XRUN k, 7, 0⟩
def SAPk_ODROP (k : Nat) : Nat := 0x34124 + 0x100 * k
def SAPk_ODROP_DROP (k : Nat) : Fld := ⟨SAPk_ODROP k, 31, 16⟩
def SAPk_ODROP_DISC (k : Nat) : Fld := ⟨SAPk_ODROP k, 15, 0⟩
def SAPk_MAP (k : Nat) (i : Nat) : Nat := 0x34128 + 0x100 * k + 4 * i
def SAPk_MAP_KIND (k : Nat) (i : Nat) : Fld := ⟨SAPk_MAP k i, 31, 30⟩
def SAPk_MAP_NUM (k : Nat) (i : Nat) : Fld := ⟨SAPk_MAP k i, 9, 0⟩
def SAPk_OCTL (k : Nat) : Nat := 0x34148 + 0x100 * k
def SAPk_OCTL_MUTE (k : Nat) : Fld := ⟨SAPk_OCTL k, 31, 31⟩
def SAPk_IMASK (k : Nat) : Nat := 0x3414c + 0x100 * k
def SAPk_IMASK_MASK (k : Nat) : Fld := ⟨SAPk_IMASK k, 15, 0⟩
def SAPk_ICAP (k : Nat) : Nat := 0x34150 + 0x100 * k
def SAPk_ICAP_CAP_EN (k : Nat) : Fld := ⟨SAPk_ICAP k, 31, 31⟩
def SAPk_ICAP_COMMIT (k : Nat) : Fld := ⟨SAPk_ICAP k, 30, 30⟩
def SAPk_ICAP_QUEUE (k : Nat) : Fld := ⟨SAPk_ICAP k, 29, 24⟩
def SAPk_ICAP_PACK (k : Nat) : Fld := ⟨SAPk_ICAP k, 17, 16⟩
def SAPk_IMASK_ACT (k : Nat) : Nat := 0x34154 + 0x100 * k
def SAPk_IMASK_ACT_MASK (k : Nat) : Fld := ⟨SAPk_IMASK_ACT k, 15, 0⟩
def SAPk_TS_LO (k : Nat) : Nat := 0x34158 + 0x100 * k
def SAPk_TS_LO_TS (k : Nat) : Fld := ⟨SAPk_TS_LO k, 31, 0⟩
def SAPk_TS_HI (k : Nat) : Nat := 0x3415c + 0x100 * k
def SAPk_TS_HI_TS (k : Nat) : Fld := ⟨SAPk_TS_HI k, 31, 0⟩
def SAPk_LAT (k : Nat) : Nat := 0x34160 + 0x100 * k
def SAPk_LAT_TICKS (k : Nat) : Fld := ⟨SAPk_LAT k, 31, 0⟩
def SAPk_TCS (k : Nat) (i : Nat) : Nat := 0x34164 + 0x100 * k + 4 * i
def SAPk_TCS_BYTES (k : Nat) (i : Nat) : Fld := ⟨SAPk_TCS k i, 31, 0⟩
def SAPk_TCS_CTL (k : Nat) : Nat := 0x3417c + 0x100 * k
def SAPk_TCS_CTL_CRC (k : Nat) : Fld := ⟨SAPk_TCS_CTL k, 31, 31⟩
def SAPk_TCS_CTL_APPLY (k : Nat) : Fld := ⟨SAPk_TCS_CTL k, 0, 0⟩
def SAPk_RCS (k : Nat) (i : Nat) : Nat := 0x34180 + 0x100 * k + 4 * i
def SAPk_RCS_BYTES (k : Nat) (i : Nat) : Fld := ⟨SAPk_RCS k i, 31, 0⟩
def SAPk_AESCNT (k : Nat) : Nat := 0x34198 + 0x100 * k
def SAPk_AESCNT_PARITY (k : Nat) : Fld := ⟨SAPk_AESCNT k, 31, 16⟩
def SAPk_AESCNT_CRCC (k : Nat) : Fld := ⟨SAPk_AESCNT k, 15, 0⟩
def SAPk_AESST (k : Nat) : Nat := 0x3419c + 0x100 * k
def SAPk_AESST_V_SEEN (k : Nat) : Fld := ⟨SAPk_AESST k, 31, 31⟩

/-! ## NET (spec chapter 13 (R360)) -/

def NET_REFUSE : Nat := 0x38000
def NET_REFUSE_CODE : Fld := ⟨NET_REFUSE, 31, 28⟩
def NET_REFUSE_CNT : Fld := ⟨NET_REFUSE, 15, 0⟩
def NET_PTP_CTL : Nat := 0x38004
def NET_PTP_CTL_EN : Fld := ⟨NET_PTP_CTL, 31, 31⟩
def NET_PTP_CTL_PPS : Fld := ⟨NET_PTP_CTL, 30, 30⟩
def NET_PTP_CTL_ROLE : Fld := ⟨NET_PTP_CTL, 29, 29⟩
def NET_PTP_CTL_PORT : Fld := ⟨NET_PTP_CTL, 28, 28⟩
def NET_PTP_CTL_ANN_TO : Fld := ⟨NET_PTP_CTL, 27, 24⟩
def NET_PTP_CTL_DOMAIN : Fld := ⟨NET_PTP_CTL, 23, 16⟩
def NET_PTP_CTL_SYNC_LOG : Fld := ⟨NET_PTP_CTL, 7, 4⟩
def NET_PTP_CTL_ANN_LOG : Fld := ⟨NET_PTP_CTL, 3, 0⟩
def NET_PTP_STAT : Nat := 0x38008
def NET_PTP_STAT_STATE : Fld := ⟨NET_PTP_STAT, 31, 28⟩
def NET_PTP_STAT_EXITS : Fld := ⟨NET_PTP_STAT, 15, 8⟩
def NET_PTP_STAT_DISC : Fld := ⟨NET_PTP_STAT, 7, 0⟩
def NET_PTP_DS : Nat := 0x3800c
def NET_PTP_DS_PRIO1 : Fld := ⟨NET_PTP_DS, 31, 24⟩
def NET_PTP_DS_PRIO2 : Fld := ⟨NET_PTP_DS, 23, 16⟩
def NET_PTP_DS_CLASS : Fld := ⟨NET_PTP_DS, 15, 8⟩
def NET_PTP_DS_ACCURACY : Fld := ⟨NET_PTP_DS, 7, 0⟩
def NET_PTP_MPD : Nat := 0x38010
def NET_PTP_MPD_NS : Fld := ⟨NET_PTP_MPD, 31, 0⟩
def NET_CAS_CTL : Nat := 0x38014
def NET_CAS_CTL_SIDE : Fld := ⟨NET_CAS_CTL, 31, 31⟩
def NET_CAS_CTL_CTRL : Fld := ⟨NET_CAS_CTL, 30, 30⟩
def NET_CAS_CTL_PORT : Fld := ⟨NET_CAS_CTL, 29, 29⟩
def NET_CAS_CTL_TYPES : Fld := ⟨NET_CAS_CTL, 22, 16⟩
def NET_CAS_CTL_UDP : Fld := ⟨NET_CAS_CTL, 15, 0⟩
def NET_CAS_DST : Nat := 0x38018
def NET_CAS_DST_ADDR : Fld := ⟨NET_CAS_DST, 31, 0⟩
def NET_CAS_ALLOW (i : Nat) : Nat := 0x3801c + 4 * i
def NET_CAS_ALLOW_ADDR (i : Nat) : Fld := ⟨NET_CAS_ALLOW i, 31, 0⟩
def NET_CAS_CNT : Nat := 0x3802c
def NET_CAS_CNT_DENIED : Fld := ⟨NET_CAS_CNT, 31, 16⟩
def NET_CAS_CNT_BADPKT : Fld := ⟨NET_CAS_CNT, 15, 0⟩
def NET_EGR_CFG : Nat := 0x38030
def NET_EGR_CFG_RES0 : Fld := ⟨NET_EGR_CFG, 31, 24⟩
def NET_EGR_CFG_W1 : Fld := ⟨NET_EGR_CFG, 23, 16⟩
def NET_EGR_CFG_W2 : Fld := ⟨NET_EGR_CFG, 15, 0⟩
def NET_PORTm_CTL (m : Nat) : Nat := 0x38100 + 0x40 * m
def NET_PORTm_CTL_EN (m : Nat) : Fld := ⟨NET_PORTm_CTL m, 31, 31⟩
def NET_PORTm_CTL_SPEED (m : Nat) : Fld := ⟨NET_PORTm_CTL m, 30, 29⟩
def NET_PORTm_CTL_VLAN (m : Nat) : Fld := ⟨NET_PORTm_CTL m, 11, 0⟩
def NET_PORTm_STAT (m : Nat) : Nat := 0x38104 + 0x40 * m
def NET_PORTm_STAT_LINK (m : Nat) : Fld := ⟨NET_PORTm_STAT m, 31, 31⟩
def NET_PORTm_STAT_BLOCK_LOCK (m : Nat) : Fld := ⟨NET_PORTm_STAT m, 30, 30⟩
def NET_PORTm_IP (m : Nat) : Nat := 0x38108 + 0x40 * m
def NET_PORTm_IP_ADDR (m : Nat) : Fld := ⟨NET_PORTm_IP m, 31, 0⟩
def NET_PORTm_PFX (m : Nat) : Nat := 0x3810c + 0x40 * m
def NET_PORTm_PFX_LEN (m : Nat) : Fld := ⟨NET_PORTm_PFX m, 5, 0⟩
def NET_PORTm_GW (m : Nat) : Nat := 0x38110 + 0x40 * m
def NET_PORTm_GW_ADDR (m : Nat) : Fld := ⟨NET_PORTm_GW m, 31, 0⟩
def NET_PORTm_MACL (m : Nat) : Nat := 0x38114 + 0x40 * m
def NET_PORTm_MACL_MAC (m : Nat) : Fld := ⟨NET_PORTm_MACL m, 31, 0⟩
def NET_PORTm_MACH (m : Nat) : Nat := 0x38118 + 0x40 * m
def NET_PORTm_MACH_MAC (m : Nat) : Fld := ⟨NET_PORTm_MACH m, 15, 0⟩
def NET_PORTm_CLS (m : Nat) (k : Nat) : Nat := 0x38120 + 0x40 * m + 4 * k
def NET_PORTm_CLS_REFCAP (m : Nat) (k : Nat) : Fld := ⟨NET_PORTm_CLS m k, 31, 16⟩
def NET_PORTm_CLS_REFCLS (m : Nat) (k : Nat) : Fld := ⟨NET_PORTm_CLS m k, 15, 0⟩
def NET_PORTm_RXDROP (m : Nat) : Nat := 0x38130 + 0x40 * m
def NET_PORTm_RXDROP_CNT (m : Nat) : Fld := ⟨NET_PORTm_RXDROP m, 31, 0⟩
def NET_PORTm_RATE0 (m : Nat) : Nat := 0x38134 + 0x40 * m
def NET_PORTm_RATE0_KBPS (m : Nat) : Fld := ⟨NET_PORTm_RATE0 m, 31, 0⟩
def NET_TXs_CTL (s : Nat) : Nat := 0x39000 + 0x10 * s
def NET_TXs_CTL_EN (s : Nat) : Fld := ⟨NET_TXs_CTL s, 31, 31⟩
def NET_TXs_CTL_PORT (s : Nat) : Fld := ⟨NET_TXs_CTL s, 30, 30⟩
def NET_TXs_CTL_PTIME (s : Nat) : Fld := ⟨NET_TXs_CTL s, 29, 29⟩
def NET_TXs_CTL_ENC (s : Nat) : Fld := ⟨NET_TXs_CTL s, 28, 28⟩
def NET_TXs_CTL_EXT (s : Nat) : Fld := ⟨NET_TXs_CTL s, 27, 27⟩
def NET_TXs_CTL_EXTID (s : Nat) : Fld := ⟨NET_TXs_CTL s, 19, 16⟩
def NET_TXs_CTL_DSCP (s : Nat) : Fld := ⟨NET_TXs_CTL s, 13, 8⟩
def NET_TXs_CTL_PROG (s : Nat) : Fld := ⟨NET_TXs_CTL s, 7, 0⟩
def NET_TXs_DST (s : Nat) : Nat := 0x39004 + 0x10 * s
def NET_TXs_DST_ADDR (s : Nat) : Fld := ⟨NET_TXs_DST s, 31, 0⟩
def NET_TXs_UDP (s : Nat) : Nat := 0x39008 + 0x10 * s
def NET_TXs_UDP_DPORT (s : Nat) : Fld := ⟨NET_TXs_UDP s, 31, 16⟩
def NET_TXs_STAT (s : Nat) : Nat := 0x3900c + 0x10 * s
def NET_TXs_STAT_SLIP (s : Nat) : Fld := ⟨NET_TXs_STAT s, 31, 16⟩
def NET_TXs_STAT_HELD (s : Nat) : Fld := ⟨NET_TXs_STAT s, 15, 0⟩
def NET_RXr_CTL (r : Nat) : Nat := 0x3a000 + 0x20 * r
def NET_RXr_CTL_EN (r : Nat) : Fld := ⟨NET_RXr_CTL r, 31, 31⟩
def NET_RXr_CTL_PORT (r : Nat) : Fld := ⟨NET_RXr_CTL r, 30, 30⟩
def NET_RXr_CTL_PTIME (r : Nat) : Fld := ⟨NET_RXr_CTL r, 29, 29⟩
def NET_RXr_CTL_ENC (r : Nat) : Fld := ⟨NET_RXr_CTL r, 28, 28⟩
def NET_RXr_CTL_CHANS (r : Nat) : Fld := ⟨NET_RXr_CTL r, 23, 20⟩
def NET_RXr_CTL_CH0 (r : Nat) : Fld := ⟨NET_RXr_CTL r, 19, 16⟩
def NET_RXr_CTL_OFFSET (r : Nat) : Fld := ⟨NET_RXr_CTL r, 15, 0⟩
def NET_RXr_GRP (r : Nat) : Nat := 0x3a004 + 0x20 * r
def NET_RXr_GRP_ADDR (r : Nat) : Fld := ⟨NET_RXr_GRP r, 31, 0⟩
def NET_RXr_SRC (r : Nat) : Nat := 0x3a008 + 0x20 * r
def NET_RXr_SRC_ADDR (r : Nat) : Fld := ⟨NET_RXr_SRC r, 31, 0⟩
def NET_RXr_UDP (r : Nat) : Nat := 0x3a00c + 0x20 * r
def NET_RXr_UDP_DPORT (r : Nat) : Fld := ⟨NET_RXr_UDP r, 15, 0⟩
def NET_RXr_STAT (r : Nat) : Nat := 0x3a010 + 0x20 * r
def NET_RXr_STAT_STATE (r : Nat) : Fld := ⟨NET_RXr_STAT r, 31, 30⟩
def NET_RXr_CNT (r : Nat) : Nat := 0x3a014 + 0x20 * r
def NET_RXr_CNT_LOST (r : Nat) : Fld := ⟨NET_RXr_CNT r, 31, 16⟩
def NET_RXr_CNT_LATE (r : Nat) : Fld := ⟨NET_RXr_CNT r, 15, 0⟩
def NET_RXr_SLIP (r : Nat) : Nat := 0x3a018 + 0x20 * r
def NET_RXr_SLIP_INS (r : Nat) : Fld := ⟨NET_RXr_SLIP r, 31, 16⟩
def NET_RXr_SLIP_DEL (r : Nat) : Fld := ⟨NET_RXr_SLIP r, 15, 0⟩
def NET_IQi_CTL (i : Nat) : Nat := 0x3a400 + 0x10 * i
def NET_IQi_CTL_EN (i : Nat) : Fld := ⟨NET_IQi_CTL i, 31, 31⟩
def NET_IQi_CTL_PORT (i : Nat) : Fld := ⟨NET_IQi_CTL i, 30, 30⟩
def NET_IQi_CTL_TSI (i : Nat) : Fld := ⟨NET_IQi_CTL i, 29, 29⟩
def NET_IQi_CTL_PATH (i : Nat) : Fld := ⟨NET_IQi_CTL i, 8, 0⟩
def NET_IQi_DST (i : Nat) : Nat := 0x3a404 + 0x10 * i
def NET_IQi_DST_ADDR (i : Nat) : Fld := ⟨NET_IQi_DST i, 31, 0⟩
def NET_IQi_UDP (i : Nat) : Nat := 0x3a408 + 0x10 * i
def NET_IQi_UDP_DPORT (i : Nat) : Fld := ⟨NET_IQi_UDP i, 15, 0⟩
def NET_IQi_STAT (i : Nat) : Nat := 0x3a40c + 0x10 * i
def NET_IQi_STAT_CTX (i : Nat) : Fld := ⟨NET_IQi_STAT i, 31, 16⟩
def NET_IQi_STAT_HELD (i : Nat) : Fld := ⟨NET_IQi_STAT i, 15, 0⟩

/-! ## PCI (spec chapter 13 (R361)) -/

def PCI_REFUSE : Nat := 0x3c000
def PCI_REFUSE_CODE : Fld := ⟨PCI_REFUSE, 31, 28⟩
def PCI_REFUSE_CNT : Fld := ⟨PCI_REFUSE, 15, 0⟩
def PCI_STAT : Nat := 0x3c004
def PCI_STAT_UP : Fld := ⟨PCI_STAT, 31, 31⟩
def PCI_STAT_GEN : Fld := ⟨PCI_STAT, 30, 28⟩
def PCI_STAT_WIDTH : Fld := ⟨PCI_STAT, 27, 25⟩
def PCI_BAR2 : Nat := 0x3c008
def PCI_BAR2_PAGE : Fld := ⟨PCI_BAR2, 8, 0⟩
def PCI_CNT : Nat := 0x3c00c
def PCI_CNT_BADACC : Fld := ⟨PCI_CNT, 31, 16⟩
def PCI_CNT_TMO : Fld := ⟨PCI_CNT, 15, 0⟩
def PCI_WAIT : Nat := 0x3c010
def PCI_WAIT_W1 : Fld := ⟨PCI_WAIT, 15, 0⟩
def PCI_Qq_CTL (q : Nat) : Nat := 0x3d000 + 0x40 * q
def PCI_Qq_CTL_EN (q : Nat) : Fld := ⟨PCI_Qq_CTL q, 31, 31⟩
def PCI_Qq_CTL_KIND (q : Nat) : Fld := ⟨PCI_Qq_CTL q, 30, 29⟩
def PCI_Qq_CTL_CLASS (q : Nat) : Fld := ⟨PCI_Qq_CTL q, 28, 27⟩
def PCI_Qq_CTL_VEC (q : Nat) : Fld := ⟨PCI_Qq_CTL q, 26, 21⟩
def PCI_Qq_CTL_SIZE (q : Nat) : Fld := ⟨PCI_Qq_CTL q, 20, 16⟩
def PCI_Qq_BASE_LO (q : Nat) : Nat := 0x3d004 + 0x40 * q
def PCI_Qq_BASE_LO_ADDR (q : Nat) : Fld := ⟨PCI_Qq_BASE_LO q, 31, 0⟩
def PCI_Qq_BASE_HI (q : Nat) : Nat := 0x3d008 + 0x40 * q
def PCI_Qq_BASE_HI_ADDR (q : Nat) : Fld := ⟨PCI_Qq_BASE_HI q, 31, 0⟩
def PCI_Qq_WB_LO (q : Nat) : Nat := 0x3d00c + 0x40 * q
def PCI_Qq_WB_LO_ADDR (q : Nat) : Fld := ⟨PCI_Qq_WB_LO q, 31, 0⟩
def PCI_Qq_WB_HI (q : Nat) : Nat := 0x3d010 + 0x40 * q
def PCI_Qq_WB_HI_ADDR (q : Nat) : Fld := ⟨PCI_Qq_WB_HI q, 31, 0⟩
def PCI_Qq_DEV (q : Nat) : Nat := 0x3d014 + 0x40 * q
def PCI_Qq_DEV_PTR (q : Nat) : Fld := ⟨PCI_Qq_DEV q, 31, 0⟩
def PCI_Qq_HOST (q : Nat) : Nat := 0x3d018 + 0x40 * q
def PCI_Qq_HOST_PTR (q : Nat) : Fld := ⟨PCI_Qq_HOST q, 31, 0⟩
def PCI_Qq_SRC (q : Nat) : Nat := 0x3d01c + 0x40 * q
def PCI_Qq_SRC_SEL (q : Nat) : Fld := ⟨PCI_Qq_SRC q, 31, 28⟩
def PCI_Qq_SRC_FIRST (q : Nat) : Fld := ⟨PCI_Qq_SRC q, 25, 16⟩
def PCI_Qq_SRC_COUNT (q : Nat) : Fld := ⟨PCI_Qq_SRC q, 9, 0⟩
def PCI_Qq_COAL (q : Nat) : Nat := 0x3d020 + 0x40 * q
def PCI_Qq_COAL_THRESH (q : Nat) : Fld := ⟨PCI_Qq_COAL q, 31, 16⟩
def PCI_Qq_COAL_TIMER (q : Nat) : Fld := ⟨PCI_Qq_COAL q, 15, 0⟩
def PCI_Qq_CNT (q : Nat) : Nat := 0x3d024 + 0x40 * q
def PCI_Qq_CNT_DROP (q : Nat) : Fld := ⟨PCI_Qq_CNT q, 31, 16⟩
def PCI_Qq_CNT_REFCAP (q : Nat) : Fld := ⟨PCI_Qq_CNT q, 15, 0⟩
def PCI_MSIX (v : Nat) (w : Nat) : Nat := 0x3e000 + 0x10 * v + 4 * w
def PCI_MSIX_WORD (v : Nat) (w : Nat) : Fld := ⟨PCI_MSIX v w, 31, 0⟩
def PCI_PBA (w : Nat) : Nat := 0x3e400 + 4 * w
def PCI_PBA_BITS (w : Nat) : Fld := ⟨PCI_PBA w, 31, 0⟩

/-! ## SEQ (spec chapter 16) -/

def SEQ_REFUSE : Nat := 0x40000
def SEQ_REFUSE_CODE : Fld := ⟨SEQ_REFUSE, 31, 28⟩
def SEQ_REFUSE_CNT : Fld := ⟨SEQ_REFUSE, 15, 0⟩
def SEQ_PAIRS : Nat := 0x40004
def SEQ_PAIRS_FAILED : Fld := ⟨SEQ_PAIRS, 17, 9⟩
def SEQ_PAIRS_SPARE_FREE : Fld := ⟨SEQ_PAIRS, 8, 8⟩
def SEQ_PAIRS_SPARE_USER : Fld := ⟨SEQ_PAIRS, 3, 0⟩
def SEQ_PAIRCNT : Nat := 0x40008
def SEQ_PAIRCNT_FAULTS : Fld := ⟨SEQ_PAIRCNT, 15, 0⟩
def SEQk_CTL (k : Nat) : Nat := 0x40100 + 0x40 * k
def SEQk_CTL_HALT (k : Nat) : Fld := ⟨SEQk_CTL k, 31, 31⟩
def SEQk_CTL_STEP (k : Nat) : Fld := ⟨SEQk_CTL k, 30, 30⟩
def SEQk_CTL_VBASE (k : Nat) : Fld := ⟨SEQk_CTL k, 23, 8⟩
def SEQk_STAT (k : Nat) : Nat := 0x40104 + 0x40 * k
def SEQk_STAT_STATE (k : Nat) : Fld := ⟨SEQk_STAT k, 31, 29⟩
def SEQk_STAT_DBL (k : Nat) : Fld := ⟨SEQk_STAT k, 28, 28⟩
def SEQk_STAT_PAIR (k : Nat) : Fld := ⟨SEQk_STAT k, 27, 24⟩
def SEQk_STAT_LCAUSE (k : Nat) : Fld := ⟨SEQk_STAT k, 23, 21⟩
def SEQk_STAT_TVALID (k : Nat) : Fld := ⟨SEQk_STAT k, 20, 20⟩
def SEQk_STAT_CODE (k : Nat) : Fld := ⟨SEQk_STAT k, 19, 16⟩
def SEQk_STAT_REFCNT (k : Nat) : Fld := ⟨SEQk_STAT k, 15, 0⟩
def SEQk_PC (k : Nat) : Nat := 0x40108 + 0x40 * k
def SEQk_PC_PC (k : Nat) : Fld := ⟨SEQk_PC k, 23, 0⟩
def SEQk_SW (k : Nat) : Nat := 0x4010c + 0x40 * k
def SEQk_SW_SW (k : Nat) : Fld := ⟨SEQk_SW k, 23, 0⟩
def SEQk_FADDR (k : Nat) : Nat := 0x40110 + 0x40 * k
def SEQk_FADDR_SD (k : Nat) : Fld := ⟨SEQk_FADDR k, 31, 28⟩
def SEQk_FADDR_OFFSET (k : Nat) : Fld := ⟨SEQk_FADDR k, 23, 0⟩
def SEQk_TRAPCNT (k : Nat) : Nat := 0x40114 + 0x40 * k
def SEQk_TRAPCNT_TRAPS (k : Nat) : Fld := ⟨SEQk_TRAPCNT k, 31, 16⟩
def SEQk_TRAPCNT_INTS (k : Nat) : Fld := ⟨SEQk_TRAPCNT k, 15, 0⟩
def SEQk_WDOG (k : Nat) : Nat := 0x40118 + 0x40 * k
def SEQk_WDOG_EN (k : Nat) : Fld := ⟨SEQk_WDOG k, 31, 31⟩
def SEQk_WDOG_KICK (k : Nat) : Fld := ⟨SEQk_WDOG k, 30, 30⟩
def SEQk_WDOG_PERIOD_MS (k : Nat) : Fld := ⟨SEQk_WDOG k, 15, 0⟩

/-! ## EXC (spec chapter 18) -/

def EXC_CTL : Nat := 0x48000
def EXC_CTL_AUTOKEY : Fld := ⟨EXC_CTL, 31, 31⟩
def EXC_CTL_DPD_EN : Fld := ⟨EXC_CTL, 30, 30⟩
def EXC_CTL_DPD_FREEZE : Fld := ⟨EXC_CTL, 29, 29⟩
def EXC_CTL_MODEL : Fld := ⟨EXC_CTL, 28, 28⟩
def EXC_CMD : Nat := 0x48004
def EXC_CMD_DPD_RESET : Fld := ⟨EXC_CMD, 3, 3⟩
def EXC_CMD_CLEAR : Fld := ⟨EXC_CMD, 2, 2⟩
def EXC_CMD_UNKEY : Fld := ⟨EXC_CMD, 1, 1⟩
def EXC_CMD_KEY : Fld := ⟨EXC_CMD, 0, 0⟩
def EXC_STAT : Nat := 0x48008
def EXC_STAT_STATE : Fld := ⟨EXC_STAT, 31, 29⟩
def EXC_STAT_PAFLT : Fld := ⟨EXC_STAT, 28, 28⟩
def EXC_STAT_DPD : Fld := ⟨EXC_STAT, 27, 26⟩
def EXC_STAT_MCAUSE : Fld := ⟨EXC_STAT, 23, 20⟩
def EXC_STAT_CODE : Fld := ⟨EXC_STAT, 19, 16⟩
def EXC_STAT_REFCNT : Fld := ⟨EXC_STAT, 15, 0⟩
def EXC_SEQ : Nat := 0x4800c
def EXC_SEQ_VDD_MS : Fld := ⟨EXC_SEQ, 29, 20⟩
def EXC_SEQ_BIAS_MS : Fld := ⟨EXC_SEQ, 19, 10⟩
def EXC_SEQ_RAMP_MS : Fld := ⟨EXC_SEQ, 9, 0⟩
def EXC_CENTRE : Nat := 0x48010
def EXC_CENTRE_HZ : Fld := ⟨EXC_CENTRE, 31, 0⟩
def EXC_PAFLT_CNT : Nat := 0x48014
def EXC_PAFLT_CNT_CNT : Fld := ⟨EXC_PAFLT_CNT, 31, 0⟩
def EXC_CNT : Nat := 0x48018
def EXC_CNT_MUTES : Fld := ⟨EXC_CNT, 31, 16⟩
def EXC_CNT_REMAP : Fld := ⟨EXC_CNT, 15, 0⟩
def EXC_CLIP : Nat := 0x4801c
def EXC_CLIP_CNT : Fld := ⟨EXC_CLIP, 31, 0⟩
def EXC_LIC_STAT : Nat := 0x48020
def EXC_LIC_STAT_STATE : Fld := ⟨EXC_LIC_STAT, 31, 30⟩
def EXC_LIC_STAT_REASON : Fld := ⟨EXC_LIC_STAT, 27, 24⟩
def EXC_LIC_STAT_NENT : Fld := ⟨EXC_LIC_STAT, 3, 0⟩
def EXC_LIC_SEQ : Nat := 0x48024
def EXC_LIC_SEQ_RECSEQ : Fld := ⟨EXC_LIC_SEQ, 31, 0⟩
def EXC_DPD_STAT : Nat := 0x48028
def EXC_DPD_STAT_NMSE : Fld := ⟨EXC_DPD_STAT, 31, 16⟩
def EXC_DPD_STAT_REVERT : Fld := ⟨EXC_DPD_STAT, 15, 0⟩
def EXC_DPD_CFG : Nat := 0x4802c
def EXC_DPD_CFG_NMSE_TH : Fld := ⟨EXC_DPD_CFG, 31, 24⟩
def EXC_DPD_CFG_ADAPT_MS : Fld := ⟨EXC_DPD_CFG, 15, 0⟩
def EXC_DPD_CSEL : Nat := 0x48030
def EXC_DPD_CSEL_IM : Fld := ⟨EXC_DPD_CSEL, 31, 31⟩
def EXC_DPD_CSEL_INDEX : Fld := ⟨EXC_DPD_CSEL, 8, 0⟩
def EXC_DPD_CDATA : Nat := 0x48034
def EXC_DPD_CDATA_COEF : Fld := ⟨EXC_DPD_CDATA, 23, 0⟩
def EXC_ORX : Nat := 0x48038
def EXC_ORX_ATT : Fld := ⟨EXC_ORX, 5, 0⟩
def EXC_CPL (j : Nat) : Nat := 0x48040 + 4 * j
def EXC_CPL_MHZ (j : Nat) : Fld := ⟨EXC_CPL j, 26, 16⟩
def EXC_CPL_LOSS (j : Nat) : Fld := ⟨EXC_CPL j, 15, 0⟩
def EXC_CPL_CMD : Nat := 0x48060
def EXC_CPL_CMD_COMMIT : Fld := ⟨EXC_CPL_CMD, 0, 0⟩
def EXC_CPL_STAT : Nat := 0x48064
def EXC_CPL_STAT_VALID : Fld := ⟨EXC_CPL_STAT, 31, 31⟩
def EXC_GRPg_CTL (g : Nat) : Nat := 0x48080 + 0x10 * g
def EXC_GRPg_CTL_MODE (g : Nat) : Fld := ⟨EXC_GRPg_CTL g, 31, 31⟩
def EXC_GRPg_CTL_SLOT (g : Nat) : Fld := ⟨EXC_GRPg_CTL g, 21, 16⟩
def EXC_GRPg_CTL_DLY_MS (g : Nat) : Fld := ⟨EXC_GRPg_CTL g, 13, 0⟩
def XLi_CTL (i : Nat) : Nat := 0x48100 + 0x40 * i
def XLi_CTL_EN (i : Nat) : Fld := ⟨XLi_CTL i, 31, 31⟩
def XLi_CTL_KIND (i : Nat) : Fld := ⟨XLi_CTL i, 29, 28⟩
def XLi_CTL_NUM (i : Nat) : Fld := ⟨XLi_CTL i, 24, 16⟩
def XLi_CTL_PREEMPH (i : Nat) : Fld := ⟨XLi_CTL i, 13, 12⟩
def XLi_CTL_MONO (i : Nat) : Fld := ⟨XLi_CTL i, 11, 11⟩
def XLi_FREQ (i : Nat) : Nat := 0x48104 + 0x40 * i
def XLi_FREQ_HZ (i : Nat) : Fld := ⟨XLi_FREQ i, 31, 0⟩
def XLi_PWR (i : Nat) : Nat := 0x48108 + 0x40 * i
def XLi_PWR_TGT (i : Nat) : Fld := ⟨XLi_PWR i, 31, 16⟩
def XLi_PWR_GAIN (i : Nat) : Fld := ⟨XLi_PWR i, 15, 0⟩
def XLi_DEV (i : Nat) : Nat := 0x4810c + 0x40 * i
def XLi_DEV_AUD (i : Nat) : Fld := ⟨XLi_DEV i, 31, 20⟩
def XLi_DEV_PILOT (i : Nat) : Fld := ⟨XLi_DEV i, 19, 10⟩
def XLi_DEV_RDS (i : Nat) : Fld := ⟨XLi_DEV i, 9, 0⟩
def XLi_RDS (i : Nat) : Nat := 0x48110 + 0x40 * i
def XLi_RDS_EN (i : Nat) : Fld := ⟨XLi_RDS i, 31, 31⟩
def XLi_RDS_PATH (i : Nat) : Fld := ⟨XLi_RDS i, 8, 0⟩
def XLi_CDLY (i : Nat) : Nat := 0x48114 + 0x40 * i
def XLi_CDLY_MS (i : Nat) : Fld := ⟨XLi_CDLY i, 13, 0⟩
def XLi_STAT (i : Nat) : Nat := 0x48118 + 0x40 * i
def XLi_STAT_STATE (i : Nat) : Fld := ⟨XLi_STAT i, 31, 30⟩
def XLi_STAT_HELD10 (i : Nat) : Fld := ⟨XLi_STAT i, 29, 29⟩
def XLi_STAT_MCAUSE (i : Nat) : Fld := ⟨XLi_STAT i, 27, 24⟩
def XLi_STAT_PFWD (i : Nat) : Fld := ⟨XLi_STAT i, 15, 0⟩
def XLi_CNT (i : Nat) : Nat := 0x4811c + 0x40 * i
def XLi_CNT_DEVCLIP (i : Nat) : Fld := ⟨XLi_CNT i, 31, 16⟩
def XLi_CNT_MISSING (i : Nat) : Fld := ⟨XLi_CNT i, 15, 0⟩

/-! ## SLK (spec chapter 19) -/

def SLK_REFUSE : Nat := 0x4c000
def SLK_REFUSE_CODE : Fld := ⟨SLK_REFUSE, 31, 28⟩
def SLK_REFUSE_CNT : Fld := ⟨SLK_REFUSE, 15, 0⟩
def SLK_CTL : Nat := 0x4c004
def SLK_CTL_COEX_EN : Fld := ⟨SLK_CTL, 31, 31⟩
def SLK_CTL_PRI : Fld := ⟨SLK_CTL, 30, 30⟩
def SLK_CTL_BGCAL : Fld := ⟨SLK_CTL, 29, 28⟩
def SLK_CTL_GNT_TO_US : Fld := ⟨SLK_CTL, 9, 0⟩
def SLK_CMD : Nat := 0x4c008
def SLK_CMD_OP : Fld := ⟨SLK_CMD, 31, 28⟩
def SLK_CMD_HOP : Fld := ⟨SLK_CMD, 27, 27⟩
def SLK_CMD_CH : Fld := ⟨SLK_CMD, 6, 0⟩
def SLK_STAT : Nat := 0x4c00c
def SLK_STAT_STATE : Fld := ⟨SLK_STAT, 31, 28⟩
def SLK_STAT_LOCK : Fld := ⟨SLK_STAT, 27, 27⟩
def SLK_STAT_CH : Fld := ⟨SLK_STAT, 26, 20⟩
def SLK_STAT_CODE : Fld := ⟨SLK_STAT, 19, 16⟩
def SLK_STAT_REFCNT : Fld := ⟨SLK_STAT, 15, 0⟩
def SLK_PHY : Nat := 0x4c010
def SLK_PHY_MODP : Fld := ⟨SLK_PHY, 31, 31⟩
def SLK_PHY_SF : Fld := ⟨SLK_PHY, 29, 28⟩
def SLK_PHY_RATE : Fld := ⟨SLK_PHY, 27, 27⟩
def SLK_PHY_PRE_LEN : Fld := ⟨SLK_PHY, 23, 16⟩
def SLK_PHY_SYNC_TO : Fld := ⟨SLK_PHY, 15, 8⟩
def SLK_SYNC : Nat := 0x4c014
def SLK_SYNC_WORD : Fld := ⟨SLK_SYNC, 31, 0⟩
def SLK_RXCFG : Nat := 0x4c018
def SLK_RXCFG_CAPTURE : Fld := ⟨SLK_RXCFG, 31, 31⟩
def SLK_RXCFG_AFC : Fld := ⟨SLK_RXCFG, 30, 30⟩
def SLK_RXCFG_ANT : Fld := ⟨SLK_RXCFG, 29, 28⟩
def SLK_RXCFG_DELIV_BAD : Fld := ⟨SLK_RXCFG, 27, 27⟩
def SLK_RXCFG_RET_RX : Fld := ⟨SLK_RXCFG, 26, 25⟩
def SLK_RXCFG_RET_TX : Fld := ⟨SLK_RXCFG, 24, 23⟩
def SLK_RXCFG_HOME : Fld := ⟨SLK_RXCFG, 22, 16⟩
def SLK_RXCFG_CAPT_DB : Fld := ⟨SLK_RXCFG, 12, 8⟩
def SLK_RXCFG_PD_TH : Fld := ⟨SLK_RXCFG, 6, 0⟩
def SLK_TXCFG : Nat := 0x4c01c
def SLK_TXCFG_LEN : Fld := ⟨SLK_TXCFG, 31, 24⟩
def SLK_TXCFG_PWR : Fld := ⟨SLK_TXCFG, 23, 16⟩
def SLK_TXCFG_TXANT : Fld := ⟨SLK_TXCFG, 15, 14⟩
def SLK_TXCFG_QMAX_US : Fld := ⟨SLK_TXCFG, 13, 0⟩
def SLK_DSEED : Nat := 0x4c020
def SLK_DSEED_DITHER : Fld := ⟨SLK_DSEED, 24, 24⟩
def SLK_DSEED_SEED : Fld := ⟨SLK_DSEED, 23, 0⟩
def SLK_TXSTAT : Nat := 0x4c024
def SLK_TXSTAT_REASON : Fld := ⟨SLK_TXSTAT, 31, 28⟩
def SLK_TXSTAT_ACAUSE : Fld := ⟨SLK_TXSTAT, 27, 24⟩
def SLK_TXSTAT_AIR_US : Fld := ⟨SLK_TXSTAT, 23, 0⟩
def SLK_CNT0 : Nat := 0x4c030
def SLK_CNT0_RXOK : Fld := ⟨SLK_CNT0, 31, 16⟩
def SLK_CNT0_CRCERR : Fld := ⟨SLK_CNT0, 15, 0⟩
def SLK_CNT1 : Nat := 0x4c034
def SLK_CNT1_SYNCTO : Fld := ⟨SLK_CNT1, 31, 16⟩
def SLK_CNT1_HDRERR : Fld := ⟨SLK_CNT1, 15, 0⟩
def SLK_CNT2 : Nat := 0x4c038
def SLK_CNT2_CAPT : Fld := ⟨SLK_CNT2, 31, 16⟩
def SLK_CNT2_IGNORED : Fld := ⟨SLK_CNT2, 15, 0⟩
def SLK_CNT3 : Nat := 0x4c03c
def SLK_CNT3_FALSE : Fld := ⟨SLK_CNT3, 31, 16⟩
def SLK_CNT3_RXABORT : Fld := ⟨SLK_CNT3, 15, 0⟩
def SLK_CNT4 : Nat := 0x4c040
def SLK_CNT4_TXOK : Fld := ⟨SLK_CNT4, 31, 16⟩
def SLK_CNT4_TXABORT : Fld := ⟨SLK_CNT4, 15, 0⟩
def SLK_CNT5 : Nat := 0x4c044
def SLK_CNT5_REFUSED : Fld := ⟨SLK_CNT5, 31, 16⟩
def SLK_CNT5_GNTLOST : Fld := ⟨SLK_CNT5, 15, 0⟩
def SLK_LIC : Nat := 0x4c048
def SLK_LIC_STATE : Fld := ⟨SLK_LIC, 31, 30⟩
def SLK_LIC_NBAND : Fld := ⟨SLK_LIC, 3, 0⟩
def SLK_RXPTR : Nat := 0x4c04c
def SLK_RXPTR_OVF : Fld := ⟨SLK_RXPTR, 31, 24⟩
def SLK_RXPTR_UNREAD : Fld := ⟨SLK_RXPTR, 19, 16⟩
def SLK_RXPTR_WR : Fld := ⟨SLK_RXPTR, 10, 8⟩
def SLK_RXPTR_RD : Fld := ⟨SLK_RXPTR, 2, 0⟩
def SLK_HOPCTL : Nat := 0x4c050
def SLK_HOPCTL_LEN : Fld := ⟨SLK_HOPCTL, 22, 16⟩
def SLK_HOPCTL_IDX : Fld := ⟨SLK_HOPCTL, 5, 0⟩
def SLK_DUTY (b : Nat) : Nat := 0x4c060 + 4 * b
def SLK_DUTY_MS (b : Nat) : Fld := ⟨SLK_DUTY b, 31, 0⟩
def SLK_CH (c : Nat) : Nat := 0x4c100 + 4 * c
def SLK_CH_CAL (c : Nat) : Fld := ⟨SLK_CH c, 31, 31⟩
def SLK_CH_KHZ (c : Nat) : Fld := ⟨SLK_CH c, 19, 0⟩
def SLK_HOP (j : Nat) : Nat := 0x4c300 + 4 * j
def SLK_HOP_CH (j : Nat) : Fld := ⟨SLK_HOP j, 6, 0⟩
def SLK_TXD (j : Nat) : Nat := 0x4d000 + 4 * j
def SLK_TXD_BYTES (j : Nat) : Fld := ⟨SLK_TXD j, 31, 0⟩
def SLK_RX (i : Nat) (w : Nat) : Nat := 0x4e000 + 0x200 * i + 4 * w
def SLK_RX_DATA (i : Nat) (w : Nat) : Fld := ⟨SLK_RX i w, 31, 0⟩

/-! ## CAL (spec chapter 20) -/

def CAL_REFUSE : Nat := 0x50000
def CAL_REFUSE_CODE : Fld := ⟨CAL_REFUSE, 31, 28⟩
def CAL_REFUSE_CNT : Fld := ⟨CAL_REFUSE, 15, 0⟩
def CAL_CFG : Nat := 0x50004
def CAL_CFG_TDELTA : Fld := ⟨CAL_CFG, 20, 16⟩
def CAL_CFG_WAIT : Fld := ⟨CAL_CFG, 15, 0⟩
def CAL_AUTO : Nat := 0x50008
def CAL_AUTO_EN : Fld := ⟨CAL_AUTO, 4, 0⟩
def CAL_CMD : Nat := 0x5000c
def CAL_CMD_OP : Fld := ⟨CAL_CMD, 31, 28⟩
def CAL_CMD_N : Fld := ⟨CAL_CMD, 2, 0⟩
def CAL_IMG_CMD : Nat := 0x50010
def CAL_IMG_CMD_RESTORE : Fld := ⟨CAL_IMG_CMD, 1, 1⟩
def CAL_IMG_CMD_SAVE : Fld := ⟨CAL_IMG_CMD, 0, 0⟩
def CAL_IMG_STAT : Nat := 0x50014
def CAL_IMG_STAT_BUSY : Fld := ⟨CAL_IMG_STAT, 31, 31⟩
def CAL_IMG_STAT_RESULT : Fld := ⟨CAL_IMG_STAT, 30, 29⟩
def CAL_IMG_STAT_USED : Fld := ⟨CAL_IMG_STAT, 28, 28⟩
def CAL_IMG_STAT_BAD1 : Fld := ⟨CAL_IMG_STAT, 27, 24⟩
def CAL_IMG_STAT_BAD0 : Fld := ⟨CAL_IMG_STAT, 23, 20⟩
def CAL_IMG_STAT_SKIPPED : Fld := ⟨CAL_IMG_STAT, 13, 8⟩
def CAL_IMG_STAT_APPLIED : Fld := ⟨CAL_IMG_STAT, 5, 0⟩
def CAL_IMG_GEN : Nat := 0x50018
def CAL_IMG_GEN_GEN : Fld := ⟨CAL_IMG_GEN, 31, 0⟩
def CALn_STAT (n : Nat) : Nat := 0x50100 + 0x20 * n
def CALn_STAT_STATE (n : Nat) : Fld := ⟨CALn_STAT n, 31, 30⟩
def CALn_STAT_DUE (n : Nat) : Fld := ⟨CALn_STAT n, 29, 29⟩
def CALn_STAT_CURRENT (n : Nat) : Fld := ⟨CALn_STAT n, 28, 28⟩
def CALn_STAT_LASTRES (n : Nat) : Fld := ⟨CALn_STAT n, 27, 26⟩
def CALn_STAT_REASON (n : Nat) : Fld := ⟨CALn_STAT n, 25, 23⟩
def CALn_STAT_TEMP (n : Nat) : Fld := ⟨CALn_STAT n, 9, 0⟩
def CALn_CNT (n : Nat) : Nat := 0x50104 + 0x20 * n
def CALn_CNT_RUNS (n : Nat) : Fld := ⟨CALn_CNT n, 31, 16⟩
def CALn_CNT_REJECTS (n : Nat) : Fld := ⟨CALn_CNT n, 15, 0⟩
def CALn_TS_LO (n : Nat) : Nat := 0x50108 + 0x20 * n
def CALn_TS_LO_TS (n : Nat) : Fld := ⟨CALn_TS_LO n, 31, 0⟩
def CALn_TS_HI (n : Nat) : Nat := 0x5010c + 0x20 * n
def CALn_TS_HI_TS (n : Nat) : Fld := ⟨CALn_TS_HI n, 31, 0⟩

/-! ## SEC (spec chapter 21) -/

def SEC_REFUSE : Nat := 0x58000
def SEC_REFUSE_CODE : Fld := ⟨SEC_REFUSE, 31, 28⟩
def SEC_REFUSE_CNT : Fld := ⟨SEC_REFUSE, 15, 0⟩
def SEC_STAT : Nat := 0x58004
def SEC_STAT_OTP_OK : Fld := ⟨SEC_STAT, 31, 31⟩
def SEC_STAT_FW_KEY : Fld := ⟨SEC_STAT, 10, 8⟩
def SEC_STAT_BS_KEY : Fld := ⟨SEC_STAT, 2, 0⟩
def SEC_SV : Nat := 0x58008
def SEC_SV_FW_MIN : Fld := ⟨SEC_SV, 30, 24⟩
def SEC_SV_BS_MIN : Fld := ⟨SEC_SV, 22, 16⟩
def SEC_SV_FW_SV : Fld := ⟨SEC_SV, 14, 8⟩
def SEC_SV_BS_SV : Fld := ⟨SEC_SV, 6, 0⟩
def SEC_DEVID_LO : Nat := 0x5800c
def SEC_DEVID_LO_DEVID : Fld := ⟨SEC_DEVID_LO, 31, 0⟩
def SEC_DEVID_HI : Nat := 0x58010
def SEC_DEVID_HI_DEVID : Fld := ⟨SEC_DEVID_HI, 31, 0⟩
def SEC_SLOT : Nat := 0x58014
def SEC_SLOT_LKEY : Fld := ⟨SEC_SLOT, 31, 31⟩
def SEC_SLOT_STATE : Fld := ⟨SEC_SLOT, 7, 0⟩
def SEC_TSEQ : Nat := 0x58018
def SEC_TSEQ_TSEQ : Fld := ⟨SEC_TSEQ, 31, 0⟩
def SEC_CMD : Nat := 0x5801c
def SEC_CMD_OP : Fld := ⟨SEC_CMD, 31, 28⟩
def SEC_CMD_ID : Fld := ⟨SEC_CMD, 7, 0⟩
def SEC_RES : Nat := 0x58020
def SEC_RES_BUSY : Fld := ⟨SEC_RES, 31, 31⟩
def SEC_RES_LASTOP : Fld := ⟨SEC_RES, 30, 28⟩
def SEC_RES_RESULT : Fld := ⟨SEC_RES, 27, 24⟩
def SEC_NVLEN : Nat := 0x58024
def SEC_NVLEN_LEN : Fld := ⟨SEC_NVLEN, 16, 0⟩
def SEC_LEAF : Nat := 0x58028
def SEC_LEAF_NEXT : Fld := ⟨SEC_LEAF, 30, 0⟩
def SEC_ATT : Nat := 0x5802c
def SEC_ATT_LIMITED : Fld := ⟨SEC_ATT, 31, 16⟩
def SEC_ATT_TOKENS : Fld := ⟨SEC_ATT, 4, 0⟩
def SEC_NV : Nat := 0x58030
def SEC_NV_ERRS : Fld := ⟨SEC_NV, 31, 16⟩
def SEC_NV_WRITES : Fld := ⟨SEC_NV, 15, 0⟩

/-! ## REL (spec chapter 22) -/

def REL_REFUSE : Nat := 0x60000
def REL_REFUSE_CODE : Fld := ⟨REL_REFUSE, 31, 28⟩
def REL_REFUSE_CNT : Fld := ⟨REL_REFUSE, 15, 0⟩
def REL_STAT : Nat := 0x60004
def REL_STAT_BUSY : Fld := ⟨REL_STAT, 31, 31⟩
def REL_STAT_SPARES : Fld := ⟨REL_STAT, 19, 16⟩
def REL_STAT_ISOL : Fld := ⟨REL_STAT, 15, 8⟩
def REL_PODFLT : Nat := 0x60008
def REL_PODFLT_CAUSE : Fld := ⟨REL_PODFLT, 31, 29⟩
def REL_PODFLT_LPOD : Fld := ⟨REL_PODFLT, 19, 12⟩
def REL_PODFLT_PPOD : Fld := ⟨REL_PODFLT, 8, 0⟩
def REL_CNT0 : Nat := 0x6000c
def REL_CNT0_FAULTS : Fld := ⟨REL_CNT0, 31, 16⟩
def REL_CNT0_REMAPS : Fld := ⟨REL_CNT0, 15, 0⟩
def REL_CNT1 : Nat := 0x60010
def REL_CNT1_FAIL : Fld := ⟨REL_CNT1, 31, 16⟩
def REL_CNT1_RESTORED : Fld := ⟨REL_CNT1, 15, 0⟩
def REL_JRN : Nat := 0x60014
def REL_JRN_ON : Fld := ⟨REL_JRN, 31, 31⟩
def REL_JRN_LOST : Fld := ⟨REL_JRN, 15, 0⟩
def REL_REMAP_LO : Nat := 0x60018
def REL_REMAP_LO_TS : Fld := ⟨REL_REMAP_LO, 31, 0⟩
def REL_REMAP_HI : Nat := 0x6001c
def REL_REMAP_HI_TS : Fld := ⟨REL_REMAP_HI, 31, 0⟩
def REL_GAP : Nat := 0x60020
def REL_GAP_TICKS : Fld := ⟨REL_GAP, 31, 0⟩
def REL_WEAR_LO : Nat := 0x60024
def REL_WEAR_LO_SEC : Fld := ⟨REL_WEAR_LO, 31, 0⟩
def REL_WEAR_HI : Nat := 0x60028
def REL_WEAR_HI_SEC : Fld := ⟨REL_WEAR_HI, 31, 0⟩
def REL_INJECT : Nat := 0x6002c
def REL_INJECT_OP : Fld := ⟨REL_INJECT, 31, 30⟩
def REL_INJECT_TARGET : Fld := ⟨REL_INJECT, 7, 0⟩

/-! ## OBS (spec chapter 22) -/

def OBS_REFUSE : Nat := 0x68000
def OBS_REFUSE_CODE : Fld := ⟨OBS_REFUSE, 31, 28⟩
def OBS_REFUSE_CNT : Fld := ⟨OBS_REFUSE, 15, 0⟩
def OBS_CTL : Nat := 0x68004
def OBS_CTL_TRACE_EN : Fld := ⟨OBS_CTL, 31, 31⟩
def OBS_CTL_WRAP : Fld := ⟨OBS_CTL, 30, 30⟩
def OBS_CTL_SPILL : Fld := ⟨OBS_CTL, 29, 29⟩
def OBS_CTL_KINDS : Fld := ⟨OBS_CTL, 3, 0⟩
def OBS_TEVT (g : Nat) : Nat := 0x68010 + 4 * g
def OBS_TEVT_MASK (g : Nat) : Fld := ⟨OBS_TEVT g, 31, 0⟩
def OBS_TBLK : Nat := 0x68030
def OBS_TBLK_MASK : Fld := ⟨OBS_TBLK, 20, 0⟩
def OBS_TWP : Nat := 0x68034
def OBS_TWP_INDEX : Fld := ⟨OBS_TWP, 12, 0⟩
def OBS_TLOST : Nat := 0x68038
def OBS_TLOST_CNT : Fld := ⟨OBS_TLOST, 31, 0⟩
def OBS_SPILL : Nat := 0x6803c
def OBS_SPILL_SIZE : Fld := ⟨OBS_SPILL, 31, 16⟩
def OBS_SPILL_OFF : Fld := ⟨OBS_SPILL, 15, 0⟩
def OBS_SNAP : Nat := 0x68040
def OBS_SNAP_CLEAR : Fld := ⟨OBS_SNAP, 1, 1⟩
def OBS_SNAP_SNAP : Fld := ⟨OBS_SNAP, 0, 0⟩
def OBS_SNAP_TS_LO : Nat := 0x68044
def OBS_SNAP_TS_LO_TS : Fld := ⟨OBS_SNAP_TS_LO, 31, 0⟩
def OBS_SNAP_TS_HI : Nat := 0x68048
def OBS_SNAP_TS_HI_TS : Fld := ⟨OBS_SNAP_TS_HI, 31, 0⟩
def OBS_CCFG (c : Nat) : Nat := 0x69000 + 4 * c
def OBS_CCFG_MODE (c : Nat) : Fld := ⟨OBS_CCFG c, 31, 30⟩
def OBS_CCFG_FMASK (c : Nat) : Fld := ⟨OBS_CCFG c, 29, 22⟩
def OBS_CCFG_SKIND (c : Nat) : Fld := ⟨OBS_CCFG c, 21, 20⟩
def OBS_CCFG_SEL (c : Nat) : Fld := ⟨OBS_CCFG c, 9, 0⟩
def OBS_CNT_LO (c : Nat) : Nat := 0x6a000 + 8 * c
def OBS_CNT_LO_CNT (c : Nat) : Fld := ⟨OBS_CNT_LO c, 31, 0⟩
def OBS_CNT_HI (c : Nat) : Nat := 0x6a004 + 8 * c
def OBS_CNT_HI_CNT (c : Nat) : Fld := ⟨OBS_CNT_HI c, 31, 0⟩

/-! ## CMP (spec chapter 15) -/

def CMP_KT (r : Nat) : Nat := 0x70000 + 4 * r
def CMP_KT_VALUE (r : Nat) : Fld := ⟨CMP_KT r, 7, 0⟩
def CMP_CTL : Nat := 0x70400
def CMP_CTL_ACCEL : Fld := ⟨CMP_CTL, 0, 0⟩
def CMP_STAT : Nat := 0x70404
def CMP_STAT_READY : Fld := ⟨CMP_STAT, 31, 31⟩
def CMP_STAT_BUSY : Fld := ⟨CMP_STAT, 3, 0⟩
def CMP_REFUSE : Nat := 0x70408
def CMP_REFUSE_CODE : Fld := ⟨CMP_REFUSE, 31, 28⟩
def CMP_REFUSE_CNT : Fld := ⟨CMP_REFUSE, 15, 0⟩
def CMP_RDSOVF : Nat := 0x7040c
def CMP_RDSOVF_T3 : Fld := ⟨CMP_RDSOVF, 31, 24⟩
def CMP_RDSOVF_T2 : Fld := ⟨CMP_RDSOVF, 23, 16⟩
def CMP_RDSOVF_T1 : Fld := ⟨CMP_RDSOVF, 15, 8⟩
def CMP_RDSOVF_T0 : Fld := ⟨CMP_RDSOVF, 7, 0⟩
def CMP_CMDCNT : Nat := 0x70410
def CMP_CMDCNT_ACCEPTED : Fld := ⟨CMP_CMDCNT, 31, 16⟩
def CMP_CMDCNT_RESTART : Fld := ⟨CMP_CMDCNT, 15, 0⟩

end Sys2Proof.Machine
end

