-- ==== Sys2Proof/Machine/RegTable.lean ====
section
/-! DEFINITION. The field tables of every native register: for each register its bits, access type (R9 to R12),
reset value and the range a write must lie in (R10), block by block, from the register tables of spec/02 to spec/22.
A bit that no entry covers is unused: it reads 0 and a write to it is ignored (R9). -/

namespace Sys2Proof.Machine

/-- The registers of block SYS (spec chapter 02, 03, 14). -/
def regsSys : List RegDesc := [
  -- SYS_ID
  ⟨0x0, 0x1000000, 1, 4, 1, [⟨31, 16, .ro, .lit 34848, .any⟩, ⟨7, 0, .ro, .lit 1, .any⟩]⟩,
  -- SYS_STRAP
  ⟨0x10, 0x1000000, 1, 4, 1, [⟨31, 31, .ro, .lit 0, .any⟩, ⟨4, 3, .ro, .lit 0, .any⟩, ⟨2, 1, .ro, .lit 0, .any⟩, ⟨0, 0, .ro, .lit 0, .any⟩]⟩,
  -- SYS_RSTCAUSE
  ⟨0x14, 0x1000000, 1, 4, 1, [⟨11, 11, .w1c, .lit 0, .any⟩, ⟨10, 10, .w1c, .lit 0, .any⟩, ⟨9, 9, .w1c, .lit 0, .any⟩, ⟨8, 8, .w1c, .lit 1, .any⟩, ⟨7, 7, .w1c, .lit 0, .any⟩, ⟨6, 6, .w1c, .lit 0, .any⟩, ⟨5, 5, .w1c, .lit 0, .any⟩, ⟨4, 4, .w1c, .lit 0, .any⟩, ⟨3, 3, .w1c, .lit 0, .any⟩, ⟨2, 2, .w1c, .lit 0, .any⟩, ⟨1, 1, .w1c, .lit 0, .any⟩, ⟨0, 0, .w1c, .lit 0, .any⟩]⟩,
  -- SYS_THERM
  ⟨0x18, 0x1000000, 1, 4, 1, [⟨31, 31, .w1c, .lit 0, .any⟩, ⟨30, 30, .ro, .lit 0, .any⟩, ⟨28, 26, .ro, .lit 0, .any⟩, ⟨25, 16, .ro, .lit 0, .any⟩, ⟨9, 0, .ro, .lit 512, .any⟩]⟩,
  -- SYS_THERM_CFG
  ⟨0x1c, 0x1000000, 1, 4, 1, [⟨7, 0, .rw, .lit 110, .ur 85 120⟩]⟩,
  -- SYS_BOOT
  ⟨0x20, 0x1000000, 1, 4, 1, [⟨31, 29, .ro, .lit 1, .any⟩, ⟨28, 28, .ro, .lit 0, .any⟩, ⟨27, 27, .ro, .lit 0, .any⟩, ⟨26, 25, .ro, .lit 0, .any⟩, ⟨24, 24, .ro, .lit 0, .any⟩, ⟨23, 23, .ro, .lit 0, .any⟩, ⟨19, 16, .ro, .lit 0, .any⟩, ⟨15, 14, .ro, .lit 0, .any⟩, ⟨7, 0, .ro, .lit 0, .any⟩]⟩,
  -- SYS_BOOT_CMD
  ⟨0x24, 0x1000000, 1, 4, 1, [⟨0, 0, .wo, .lit 0, .any⟩]⟩,
  -- SYS_BOOT_IMG
  ⟨0x28, 0x1000000, 1, 4, 1, [⟨30, 16, .rw, .lit 0, .any⟩, ⟨14, 0, .rw, .lit 0, .any⟩]⟩,
  -- SYS_REFUSE
  ⟨0x2c, 0x1000000, 1, 4, 1, [⟨31, 28, .ro, .lit 0, .any⟩, ⟨15, 0, .rc, .lit 0, .any⟩]⟩,
  -- SYS_HB_PAGE
  ⟨0x30, 0x1000000, 1, 4, 1, [⟨2, 0, .rw, .lit 0, .any⟩]⟩,
  -- SYS_HB_STAT
  ⟨0x34, 0x1000000, 1, 4, 1, [⟨23, 16, .rc, .lit 0, .any⟩, ⟨15, 15, .ro, .lit 0, .any⟩, ⟨6, 0, .ro, .lit 0, .any⟩]⟩,
  -- SYS_HB_CNT
  ⟨0x38, 0x1000000, 1, 4, 1, [⟨31, 16, .rc, .lit 0, .any⟩, ⟨15, 8, .rc, .lit 0, .any⟩, ⟨7, 0, .rc, .lit 0, .any⟩]⟩,
  -- FEAT_OFFER
  ⟨0x40, 0x1000000, 1, 4, 4, [⟨31, 0, .ro, .lit 0, .any⟩]⟩,
  -- FEAT_ACCEPT
  ⟨0x50, 0x1000000, 1, 4, 4, [⟨31, 0, .rw, .lit 0, .any⟩]⟩,
  -- FEAT_ACTIVE
  ⟨0x60, 0x1000000, 1, 4, 4, [⟨31, 0, .ro, .lit 0, .any⟩]⟩,
  -- FEAT_REJECT
  ⟨0x70, 0x1000000, 1, 4, 4, [⟨31, 0, .ro, .lit 0, .any⟩]⟩,
  -- FEAT_LOCK
  ⟨0x80, 0x1000000, 1, 4, 1, [⟨31, 31, .ro, .lit 0, .any⟩, ⟨30, 30, .ro, .lit 0, .any⟩, ⟨29, 24, .ro, .lit 0, .any⟩, ⟨0, 0, .wo, .lit 0, .any⟩]⟩]

/-- The registers of block EVT (spec chapter 14 (R380)). -/
def regsEvt : List RegDesc := [
  -- EVT_CTL
  ⟨0x1000, 0x1000000, 1, 4, 1, [⟨0, 0, .rw, .lit 0, .any⟩]⟩,
  -- EVT_PEND
  ⟨0x1004, 0x1000000, 1, 4, 1, [⟨23, 16, .ro, .lit 0, .any⟩, ⟨15, 8, .ro, .lit 0, .any⟩, ⟨7, 0, .ro, .lit 0, .any⟩]⟩,
  -- EVT_REFUSE
  ⟨0x100c, 0x1000000, 1, 4, 1, [⟨31, 28, .ro, .lit 0, .any⟩, ⟨15, 0, .rc, .lit 0, .any⟩]⟩,
  -- EVT_RECLOST
  ⟨0x1010, 0x1000000, 1, 4, 1, [⟨31, 0, .rc, .lit 0, .any⟩]⟩,
  -- EVT_Gg_STAT
  ⟨0x1100, 0x1000000, 1, 4, 1, [⟨31, 0, .w1c, .lit 0, .any⟩]⟩,
  -- EVT_G1_STAT and EVT_G2_STAT, whose summary bits are RO (R376)
  ⟨0x1120, 0x1000000, 1, 4, 1, [⟨31, 12, .w1c, .lit 0, .any⟩, ⟨11, 0, .ro, .lit 0, .any⟩]⟩,
  ⟨0x1140, 0x1000000, 1, 4, 1, [⟨31, 4, .w1c, .lit 0, .any⟩, ⟨3, 0, .ro, .lit 0, .any⟩]⟩,
  ⟨0x1160, 0x20, 5, 4, 1, [⟨31, 0, .w1c, .lit 0, .any⟩]⟩,
  -- EVT_Gg_MASK_IRQ
  ⟨0x1104, 0x20, 8, 4, 1, [⟨31, 0, .rw, .lit 0, .any⟩]⟩,
  -- EVT_Gg_MASK_MSI
  ⟨0x1108, 0x20, 8, 4, 1, [⟨31, 0, .rw, .lit 0, .any⟩]⟩,
  -- EVT_Gg_MASK_CORE
  ⟨0x110c, 0x20, 8, 4, 1, [⟨31, 0, .rw, .lit 0, .any⟩]⟩,
  -- EVT_Gg_MASK_REC
  ⟨0x1110, 0x20, 8, 4, 1, [⟨31, 0, .rw, .lit 0, .any⟩]⟩,
  -- EVT_Gg_ROUTE
  ⟨0x1114, 0x20, 8, 4, 1, [⟨29, 24, .rw, .inst, .any⟩, ⟨7, 0, .rw, .lit 0, .any⟩]⟩,
  -- EVT_Gg_COAL
  ⟨0x1118, 0x20, 8, 4, 1, [⟨25, 16, .rw, .lit 0, .ur 0 1000⟩, ⟨7, 0, .rw, .lit 1, .ur 1 255⟩]⟩,
  -- EVT_Gg_MERGE
  ⟨0x111c, 0x20, 8, 4, 1, [⟨31, 0, .rc, .lit 0, .any⟩]⟩,
  -- EVT_INST
  ⟨0x1200, 0x1000000, 1, 4, 128, [⟨31, 16, .ro, .lit 65535, .any⟩, ⟨15, 0, .ro, .lit 65535, .any⟩]⟩,
  -- EVT_SUM
  ⟨0x1400, 0x40, 16, 4, 16, [⟨31, 0, .w1c, .lit 0, .any⟩]⟩,
  -- EVT_STAMP_LO
  ⟨0x1800, 0x1000000, 1, 8, 256, [⟨31, 0, .ro, .lit 0, .any⟩]⟩,
  -- EVT_STAMP_HI
  ⟨0x1804, 0x1000000, 1, 8, 256, [⟨31, 0, .ro, .lit 0, .any⟩]⟩]

/-- The registers of block CLK (spec chapter 04). -/
def regsClk : List RegDesc := [
  -- CLK_CTL
  ⟨0x2000, 0x1000000, 1, 4, 1, [⟨31, 16, .rw, .lit 1000, .ur 1 1000⟩, ⟨5, 4, .rw, .lit 1, .ur 0 2⟩, ⟨3, 2, .rw, .lit 0, .any⟩, ⟨1, 0, .rw, .lit 0, .ur 0 2⟩]⟩,
  -- CLK_STAT
  ⟨0x2004, 0x1000000, 1, 4, 1, [⟨31, 31, .ro, .lit 0, .any⟩, ⟨30, 30, .ro, .lit 0, .any⟩, ⟨29, 29, .ro, .lit 0, .any⟩, ⟨28, 28, .ro, .lit 0, .any⟩, ⟨27, 27, .ro, .lit 1, .any⟩, ⟨26, 24, .ro, .lit 0, .any⟩, ⟨23, 23, .ro, .lit 0, .any⟩, ⟨17, 16, .ro, .lit 0, .any⟩, ⟨15, 0, .ro, .lit 0, .any⟩]⟩,
  -- CLK_HOLD
  ⟨0x2008, 0x1000000, 1, 4, 1, [⟨31, 16, .rw, .lit 0, .ur 0 12000⟩, ⟨13, 0, .rw, .lit 1000, .ur 1 10000⟩]⟩,
  -- CLK_REFUSE
  ⟨0x200c, 0x1000000, 1, 4, 1, [⟨31, 28, .ro, .lit 0, .any⟩, ⟨15, 0, .rc, .lit 0, .any⟩]⟩,
  -- SPLL_N
  ⟨0x2010, 0x1000000, 1, 4, 1, [⟨9, 0, .rw, .lit 314, .ur 32 1000⟩]⟩,
  -- SPLL_F
  ⟨0x2014, 0x1000000, 1, 4, 1, [⟨31, 16, .rw, .lit 625, .ur 2 65535⟩, ⟨15, 0, .rw, .lit 358, .any⟩]⟩,
  -- SPLL_CMD
  ⟨0x2018, 0x1000000, 1, 4, 1, [⟨0, 0, .wo, .lit 0, .any⟩]⟩,
  -- SPLL_DSEED
  ⟨0x201c, 0x1000000, 1, 4, 1, [⟨24, 24, .rw, .lit 1, .any⟩, ⟨23, 0, .rw, .lit 10828950, .ur 1 16777215⟩]⟩,
  -- SPLL_DCO
  ⟨0x2020, 0x1000000, 1, 4, 1, [⟨31, 0, .rw, .lit 0, .sr (-200000000) (200000000)⟩]⟩,
  -- CLK_DOM
  ⟨0x2024, 0x1000000, 1, 4, 1, [⟨7, 7, .ro, .lit 1, .any⟩, ⟨6, 6, .ro, .lit 1, .any⟩, ⟨5, 5, .ro, .lit 0, .any⟩, ⟨4, 4, .ro, .lit 0, .any⟩, ⟨3, 3, .ro, .lit 0, .any⟩, ⟨2, 2, .ro, .lit 0, .any⟩, ⟨1, 1, .ro, .lit 0, .any⟩, ⟨0, 0, .ro, .lit 0, .any⟩]⟩,
  -- CLK_PHASE
  ⟨0x2028, 0x1000000, 1, 4, 1, [⟨31, 0, .ro, .lit 0, .any⟩]⟩,
  -- CLK_CNT
  ⟨0x202c, 0x1000000, 1, 4, 1, [⟨31, 16, .rc, .lit 0, .any⟩, ⟨15, 0, .rc, .lit 0, .any⟩]⟩,
  -- CLK_SYSCNT_LO
  ⟨0x2030, 0x1000000, 1, 4, 1, [⟨31, 0, .ro, .lit 0, .any⟩]⟩,
  -- CLK_SYSCNT_HI
  ⟨0x2034, 0x1000000, 1, 4, 1, [⟨31, 0, .ro, .lit 0, .any⟩]⟩,
  -- CLK_MAP_GEN
  ⟨0x2040, 0x1000000, 1, 4, 1, [⟨31, 1, .ro, .lit 0, .any⟩, ⟨0, 0, .ro, .lit 0, .any⟩]⟩,
  -- CLK_MAP_CNT_LO
  ⟨0x2044, 0x1000000, 1, 4, 1, [⟨31, 0, .ro, .lit 0, .any⟩]⟩,
  -- CLK_MAP_CNT_HI
  ⟨0x2048, 0x1000000, 1, 4, 1, [⟨31, 0, .ro, .lit 0, .any⟩]⟩,
  -- CLK_MAP_SEC_LO
  ⟨0x204c, 0x1000000, 1, 4, 1, [⟨31, 0, .ro, .lit 0, .any⟩]⟩,
  -- CLK_MAP_SEC_HI
  ⟨0x2050, 0x1000000, 1, 4, 1, [⟨15, 0, .ro, .lit 0, .any⟩]⟩,
  -- CLK_MAP_NS
  ⟨0x2054, 0x1000000, 1, 4, 1, [⟨29, 0, .ro, .lit 0, .any⟩]⟩,
  -- CLK_MAP_RATE
  ⟨0x2058, 0x1000000, 1, 4, 1, [⟨31, 0, .ro, .lit 0, .any⟩]⟩]

/-- The registers of block RFE (spec chapter 05). -/
def regsRfe : List RegDesc := [
  -- RFE_CTL
  ⟨0x3000, 0x1000000, 1, 4, 1, [⟨1, 1, .rw, .lit 1, .any⟩, ⟨0, 0, .rw, .lit 1, .any⟩]⟩,
  -- RFE_CMD
  ⟨0x3004, 0x1000000, 1, 4, 1, [⟨1, 1, .wo, .lit 0, .any⟩, ⟨0, 0, .wo, .lit 0, .any⟩]⟩,
  -- RFE_REFUSE
  ⟨0x300c, 0x1000000, 1, 4, 1, [⟨31, 28, .ro, .lit 0, .any⟩, ⟨15, 0, .rc, .lit 0, .any⟩]⟩,
  -- RFEa_GAIN
  ⟨0x3100, 0x100, 2, 4, 1, [⟨6, 6, .rw, .lit 1, .any⟩, ⟨5, 0, .rw, .lit 12, .any⟩]⟩,
  -- RFEa_GSTAT
  ⟨0x3104, 0x100, 2, 4, 1, [⟨8, 8, .ro, .lit 0, .any⟩, ⟨7, 7, .w1c, .lit 0, .any⟩, ⟨6, 6, .ro, .lit 1, .any⟩, ⟨5, 0, .ro, .lit 12, .any⟩]⟩,
  -- RFEa_GCHG_LO
  ⟨0x3108, 0x100, 2, 4, 1, [⟨31, 0, .ro, .lit 0, .any⟩]⟩,
  -- RFEa_GCHG_HI
  ⟨0x310c, 0x100, 2, 4, 1, [⟨31, 0, .ro, .lit 0, .any⟩]⟩,
  -- RFEa_OVL_CFG
  ⟨0x3110, 0x100, 2, 4, 1, [⟨31, 16, .rw, .lit 1, .ur 1 65535⟩, ⟨5, 0, .rw, .lit 6, .ur 0 60⟩]⟩,
  -- RFEa_POWER
  ⟨0x3114, 0x100, 2, 4, 1, [⟨31, 16, .ro, .lit 64536, .any⟩, ⟨15, 0, .ro, .lit 64536, .any⟩]⟩,
  -- RFEa_CLIPCNT
  ⟨0x3118, 0x100, 2, 4, 1, [⟨31, 0, .rc, .lit 0, .any⟩]⟩,
  -- RFEa_EVCNT
  ⟨0x311c, 0x100, 2, 4, 1, [⟨31, 24, .rc, .lit 0, .any⟩, ⟨23, 12, .rc, .lit 0, .any⟩, ⟨11, 0, .rc, .lit 0, .any⟩]⟩,
  -- RFEa_EBUF
  ⟨0x3120, 0x100, 2, 4, 1, [⟨26, 16, .rc, .lit 0, .any⟩, ⟨10, 0, .ro, .lit 0, .any⟩]⟩,
  -- RFEa_EBUF_DROP
  ⟨0x3124, 0x100, 2, 4, 1, [⟨31, 0, .rc, .lit 0, .any⟩]⟩]

/-- The registers of block FAB (spec chapter 06, 07). -/
def regsFab : List RegDesc := [
  -- FAB_ID
  ⟨0x4000, 0x1000000, 1, 4, 1, [⟨31, 16, .ro, .lit 0, .any⟩, ⟨15, 0, .ro, .lit 0, .any⟩]⟩,
  -- FAB_STAT
  ⟨0x4004, 0x1000000, 1, 4, 1, [⟨31, 31, .ro, .lit 0, .any⟩, ⟨23, 16, .rc, .lit 0, .any⟩, ⟨15, 8, .ro, .lit 0, .any⟩, ⟨3, 0, .ro, .lit 0, .any⟩]⟩,
  -- FAB_CMD
  ⟨0x4008, 0x1000000, 1, 4, 1, [⟨25, 24, .wo, .lit 0, .any⟩, ⟨7, 0, .wo, .lit 0, .any⟩]⟩,
  -- FAB_REFUSE
  ⟨0x400c, 0x1000000, 1, 4, 1, [⟨31, 28, .ro, .lit 0, .any⟩, ⟨15, 0, .rc, .lit 0, .any⟩]⟩,
  -- FAB_PACE_CFG
  ⟨0x4010, 0x1000000, 1, 4, 1, [⟨15, 0, .rw, .lit 288, .ur 256 512⟩]⟩,
  -- FAB_PACE_MIN
  ⟨0x4014, 0x1000000, 1, 4, 1, [⟨31, 24, .ro, .lit 0, .any⟩, ⟨15, 0, .ro, .lit 0, .any⟩]⟩,
  -- FAB_AVS
  ⟨0x4018, 0x1000000, 1, 4, 1, [⟨31, 31, .rw, .lit 0, .any⟩, ⟨21, 16, .ro, .lit 20, .any⟩, ⟨15, 0, .rw, .lit 336, .any⟩]⟩,
  -- FAB_DROP
  ⟨0x401c, 0x1000000, 1, 4, 1, [⟨31, 0, .rc, .lit 0, .any⟩]⟩,
  -- FAB_PR_SRC
  ⟨0x4020, 0x1000000, 1, 4, 1, [⟨31, 31, .rw, .lit 0, .any⟩, ⟨14, 0, .rw, .lit 0, .any⟩]⟩,
  -- FAB_PR_CMD
  ⟨0x4024, 0x1000000, 1, 4, 1, [⟨1, 1, .wo, .lit 0, .any⟩, ⟨0, 0, .wo, .lit 0, .any⟩]⟩,
  -- FAB_PR_STAT
  ⟨0x4028, 0x1000000, 1, 4, 1, [⟨31, 28, .ro, .lit 0, .any⟩, ⟨27, 24, .ro, .lit 0, .any⟩, ⟨16, 0, .ro, .lit 0, .any⟩]⟩,
  -- FAB_PR_CNT
  ⟨0x402c, 0x1000000, 1, 4, 1, [⟨31, 16, .rc, .lit 0, .any⟩, ⟨15, 0, .rc, .lit 0, .any⟩]⟩,
  -- FAB_LPp_MAP
  ⟨0x5000, 0x10, 256, 4, 1, [⟨31, 30, .ro, .lit 3, .any⟩, ⟨29, 29, .ro, .lit 0, .any⟩, ⟨28, 28, .ro, .lit 0, .any⟩, ⟨27, 27, .ro, .lit 0, .any⟩, ⟨26, 26, .ro, .lit 0, .any⟩, ⟨25, 25, .ro, .lit 0, .any⟩, ⟨8, 0, .ro, .inst, .any⟩]⟩,
  -- FAB_LPp_PACE
  ⟨0x5004, 0x10, 256, 4, 1, [⟨31, 16, .rc, .lit 0, .any⟩, ⟨15, 0, .ro, .lit 0, .any⟩]⟩,
  -- FAB_LPp_CNT0
  ⟨0x5008, 0x10, 256, 4, 1, [⟨31, 16, .rc, .lit 0, .any⟩, ⟨15, 0, .rc, .lit 0, .any⟩]⟩,
  -- FAB_LPp_CNT1
  ⟨0x500c, 0x10, 256, 4, 1, [⟨31, 16, .rc, .lit 0, .any⟩, ⟨15, 0, .rc, .lit 0, .any⟩]⟩,
  -- FAB_PPq_STAT
  ⟨0x6000, 0x4, 264, 4, 1, [⟨31, 30, .ro, .lit 3, .any⟩, ⟨7, 0, .ro, .lit 0, .any⟩]⟩,
  -- FAB_LKa_STAT
  ⟨0x7000, 0x10, 2, 4, 1, [⟨31, 31, .ro, .lit 0, .any⟩, ⟨30, 30, .ro, .lit 0, .any⟩]⟩,
  -- FAB_LKa_DROP
  ⟨0x7004, 0x10, 2, 4, 1, [⟨31, 0, .rc, .lit 0, .any⟩]⟩,
  -- FAB_BANK_SEL
  ⟨0x7100, 0x1000000, 1, 4, 1, [⟨28, 24, .rw, .lit 1, .ur 1 31⟩, ⟨7, 0, .rw, .lit 0, .ur 0 96⟩]⟩,
  -- FAB_BANK_DATA
  ⟨0x7104, 0x1000000, 1, 4, 1, [⟨23, 0, .rw, .lit 0, .any⟩]⟩,
  -- FAB_BANK_HDR
  ⟨0x7108, 0x1000000, 1, 4, 1, [⟨31, 30, .rw, .lit 0, .ur 0 2⟩, ⟨7, 0, .rw, .lit 3, .any⟩]⟩,
  -- FAB_BANK_CMD
  ⟨0x710c, 0x1000000, 1, 4, 1, [⟨1, 1, .wo, .lit 0, .any⟩, ⟨0, 0, .wo, .lit 0, .any⟩]⟩,
  -- FAB_BANK_STAT
  ⟨0x7110, 0x1000000, 1, 4, 1, [⟨31, 31, .ro, .lit 0, .any⟩, ⟨25, 16, .ro, .lit 0, .any⟩]⟩]

/-- The registers of block PTH (spec chapter 07). -/
def regsPth : List RegDesc := [
  -- PTHn_CTL
  ⟨0x10000, 0x40, 512, 4, 1, [⟨20, 16, .rw, .lit 0, .any⟩, ⟨15, 12, .rw, .lit 0, .any⟩, ⟨9, 8, .rw, .lit 0, .ur 0 2⟩, ⟨1, 0, .rw, .lit 2, .ur 0 2⟩]⟩,
  -- PTHn_BIN
  ⟨0x10004, 0x40, 512, 4, 1, [⟨10, 0, .rw, .lit 0, .ur 0 1464⟩]⟩,
  -- PTHn_NCO
  ⟨0x10008, 0x40, 512, 4, 1, [⟨23, 0, .rw, .lit 0, .sr (-4194304) (4194304)⟩]⟩,
  -- PTHn_PHASE
  ⟨0x1000c, 0x40, 512, 4, 1, [⟨23, 0, .rw, .lit 0, .any⟩]⟩,
  -- PTHn_SHIFT
  ⟨0x10010, 0x40, 512, 4, 1, [⟨29, 25, .rw, .lit 0, .any⟩, ⟨24, 20, .rw, .lit 0, .any⟩, ⟨19, 15, .rw, .lit 0, .any⟩, ⟨14, 10, .rw, .lit 0, .any⟩, ⟨9, 5, .rw, .lit 0, .any⟩, ⟨4, 0, .rw, .lit 0, .any⟩]⟩,
  -- PTHn_RS
  ⟨0x10014, 0x40, 512, 4, 1, [⟨31, 16, .rw, .lit 0, .any⟩, ⟨15, 0, .rw, .lit 0, .any⟩]⟩,
  -- PTHn_CMD
  ⟨0x10018, 0x40, 512, 4, 1, [⟨2, 2, .wo, .lit 0, .any⟩, ⟨1, 1, .wo, .lit 0, .any⟩, ⟨0, 0, .wo, .lit 0, .any⟩]⟩,
  -- PTHn_STAT
  ⟨0x1001c, 0x40, 512, 4, 1, [⟨31, 29, .ro, .lit 0, .any⟩, ⟨28, 28, .ro, .lit 0, .any⟩, ⟨27, 27, .ro, .lit 0, .any⟩, ⟨19, 16, .ro, .lit 0, .any⟩, ⟨15, 0, .rc, .lit 0, .any⟩]⟩,
  -- PTHn_START_LO
  ⟨0x10020, 0x40, 512, 4, 1, [⟨31, 0, .ro, .lit 0, .any⟩]⟩,
  -- PTHn_START_HI
  ⟨0x10024, 0x40, 512, 4, 1, [⟨31, 0, .ro, .lit 0, .any⟩]⟩,
  -- PTHn_TH
  ⟨0x10028, 0x40, 512, 4, 1, [⟨31, 31, .rw, .lit 0, .any⟩, ⟨27, 24, .rw, .lit 6, .any⟩, ⟨8, 0, .rw, .lit 160, .ur 0 300⟩]⟩,
  -- PTHn_LVL
  ⟨0x1002c, 0x40, 512, 4, 1, [⟨16, 16, .ro, .lit 0, .any⟩, ⟨15, 0, .ro, .lit 64036, .any⟩]⟩,
  -- PTHn_SAT
  ⟨0x10030, 0x40, 512, 4, 1, [⟨31, 29, .ro, .lit 0, .any⟩, ⟨15, 0, .rc, .lit 0, .any⟩]⟩,
  -- PTHn_DROP
  ⟨0x10034, 0x40, 512, 4, 1, [⟨31, 0, .rc, .lit 0, .any⟩]⟩,
  -- PTHn_DLY
  ⟨0x10038, 0x40, 512, 4, 1, [⟨31, 0, .ro, .lit 46080, .any⟩]⟩,
  -- PTHn_DSMP
  ⟨0x1003c, 0x40, 512, 4, 1, [⟨15, 0, .ro, .lit 24, .any⟩]⟩]

/-- The registers of block DEM (spec chapter 08). -/
def regsDem : List RegDesc := [
  -- DEMn_CTL
  ⟨0x18000, 0x40, 512, 4, 1, [⟨13, 13, .rw, .lit 1, .any⟩, ⟨12, 12, .rw, .lit 0, .any⟩, ⟨11, 10, .rw, .lit 0, .ur 0 2⟩, ⟨9, 9, .rw, .lit 0, .any⟩, ⟨7, 6, .rw, .lit 0, .ur 0 1⟩, ⟨5, 4, .rw, .lit 0, .ur 0 1⟩, ⟨3, 2, .rw, .lit 0, .ur 0 1⟩, ⟨1, 0, .rw, .lit 1, .ur 0 2⟩]⟩,
  -- DEMn_QCFG
  ⟨0x18004, 0x40, 512, 4, 1, [⟨29, 24, .rw, .lit 20, .ur 0 40⟩, ⟨23, 16, .rw, .lit 12, .ur 0 60⟩, ⟨15, 8, .rw, .lit 3, .ur 0 60⟩, ⟨7, 0, .rw, .lit 3, .ur 0 60⟩]⟩,
  -- DEMn_BLEND
  ⟨0x18008, 0x40, 512, 4, 1, [⟨15, 8, .rw, .lit 30, .ur 0 60⟩, ⟨7, 0, .rw, .lit 15, .ur 0 60⟩]⟩,
  -- DEMn_STAT
  ⟨0x1800c, 0x40, 512, 4, 1, [⟨31, 31, .ro, .lit 0, .any⟩, ⟨30, 30, .ro, .lit 0, .any⟩, ⟨29, 29, .ro, .lit 0, .any⟩, ⟨28, 28, .ro, .lit 0, .any⟩, ⟨27, 27, .ro, .lit 0, .any⟩, ⟨26, 26, .ro, .lit 0, .any⟩, ⟨25, 25, .ro, .lit 0, .any⟩, ⟨24, 24, .ro, .lit 0, .any⟩, ⟨23, 16, .ro, .lit 0, .any⟩, ⟨15, 8, .ro, .lit 0, .any⟩]⟩,
  -- DEMn_LVL
  ⟨0x18010, 0x40, 512, 4, 1, [⟨31, 16, .ro, .lit 65436, .any⟩, ⟨15, 0, .ro, .lit 64036, .any⟩]⟩,
  -- DEMn_FM
  ⟨0x18014, 0x40, 512, 4, 1, [⟨31, 22, .ro, .lit 0, .any⟩, ⟨15, 0, .ro, .lit 0, .any⟩]⟩,
  -- DEMn_FOFF
  ⟨0x18018, 0x40, 512, 4, 1, [⟨23, 0, .ro, .lit 0, .any⟩]⟩,
  -- DEMn_MOD
  ⟨0x1801c, 0x40, 512, 4, 1, [⟨31, 16, .ro, .lit 0, .any⟩, ⟨15, 0, .ro, .lit 0, .any⟩]⟩,
  -- DEMn_DIVQ
  ⟨0x18020, 0x40, 512, 4, 1, [⟨31, 16, .ro, .lit 0, .any⟩, ⟨15, 0, .ro, .lit 0, .any⟩]⟩,
  -- DEMn_QTS_LO
  ⟨0x18024, 0x40, 512, 4, 1, [⟨31, 0, .ro, .lit 0, .any⟩]⟩,
  -- DEMn_QTS_HI
  ⟨0x18028, 0x40, 512, 4, 1, [⟨31, 0, .ro, .lit 0, .any⟩]⟩,
  -- DEMn_PI
  ⟨0x1802c, 0x40, 512, 4, 1, [⟨31, 16, .ro, .lit 0, .any⟩, ⟨15, 0, .ro, .lit 0, .any⟩]⟩,
  -- DEMn_RDSQ
  ⟨0x18030, 0x40, 512, 4, 1, [⟨23, 16, .ro, .lit 0, .any⟩, ⟨2, 0, .ro, .lit 0, .any⟩]⟩,
  -- DEMn_RDSCNT
  ⟨0x18034, 0x40, 512, 4, 1, [⟨31, 16, .rc, .lit 0, .any⟩, ⟨15, 0, .rc, .lit 0, .any⟩]⟩,
  -- DEMn_RDSBLK
  ⟨0x18038, 0x40, 512, 4, 1, [⟨31, 16, .rc, .lit 0, .any⟩, ⟨15, 0, .rc, .lit 0, .any⟩]⟩,
  -- DEMn_RDSCNT2
  ⟨0x1803c, 0x40, 512, 4, 1, [⟨31, 16, .rc, .lit 0, .any⟩, ⟨15, 0, .rc, .lit 0, .any⟩]⟩]

/-- The registers of block DAB (spec chapter 09). -/
def regsDab : List RegDesc := [
  -- ENSs_CTL
  ⟨0x20000, 0x40, 48, 4, 1, [⟨11, 10, .rw, .lit 0, .ur 0 1⟩, ⟨9, 8, .rw, .lit 0, .ur 0 2⟩]⟩,
  -- ENSs_BIN
  ⟨0x20004, 0x40, 48, 4, 1, [⟨10, 0, .rw, .lit 0, .ur 0 1463⟩]⟩,
  -- ENSs_NCO
  ⟨0x20008, 0x40, 48, 4, 1, [⟨23, 0, .rw, .lit 0, .sr (-2097152) (2097152)⟩]⟩,
  -- ENSs_CMD
  ⟨0x2000c, 0x40, 48, 4, 1, [⟨2, 2, .wo, .lit 0, .any⟩, ⟨1, 1, .wo, .lit 0, .any⟩, ⟨0, 0, .wo, .lit 0, .any⟩]⟩,
  -- ENSs_STAT
  ⟨0x20010, 0x40, 48, 4, 1, [⟨31, 29, .ro, .lit 0, .any⟩, ⟨28, 28, .ro, .lit 0, .any⟩, ⟨19, 16, .ro, .lit 0, .any⟩, ⟨15, 0, .rc, .lit 0, .any⟩]⟩,
  -- ENSs_LVL
  ⟨0x20014, 0x40, 48, 4, 1, [⟨31, 16, .ro, .lit 65436, .any⟩, ⟨15, 0, .ro, .lit 64036, .any⟩]⟩,
  -- ENSs_FOFF
  ⟨0x20018, 0x40, 48, 4, 1, [⟨23, 0, .ro, .lit 0, .any⟩]⟩,
  -- ENSs_FIC
  ⟨0x2001c, 0x40, 48, 4, 1, [⟨31, 16, .ro, .lit 0, .any⟩, ⟨6, 0, .ro, .lit 0, .any⟩]⟩,
  -- ENSs_EID
  ⟨0x20020, 0x40, 48, 4, 1, [⟨31, 31, .ro, .lit 0, .any⟩, ⟨28, 16, .ro, .lit 0, .any⟩, ⟨15, 0, .ro, .lit 0, .any⟩]⟩,
  -- ENSs_QTS_LO
  ⟨0x20024, 0x40, 48, 4, 1, [⟨31, 0, .ro, .lit 0, .any⟩]⟩,
  -- ENSs_QTS_HI
  ⟨0x20028, 0x40, 48, 4, 1, [⟨31, 0, .ro, .lit 0, .any⟩]⟩,
  -- ENSs_CNT
  ⟨0x2002c, 0x40, 48, 4, 1, [⟨31, 16, .rc, .lit 0, .any⟩, ⟨15, 0, .rc, .lit 0, .any⟩]⟩,
  -- ENSs_FIBCNT
  ⟨0x20030, 0x40, 48, 4, 1, [⟨31, 16, .rc, .lit 0, .any⟩, ⟨15, 0, .rc, .lit 0, .any⟩]⟩,
  -- ENSs_SUBOUT_LO
  ⟨0x20034, 0x40, 48, 4, 1, [⟨31, 0, .rw, .lit 0, .any⟩]⟩,
  -- ENSs_SUBOUT_HI
  ⟨0x20038, 0x40, 48, 4, 1, [⟨31, 0, .rw, .lit 0, .any⟩]⟩,
  -- ENSs_ERASE
  ⟨0x2003c, 0x40, 48, 4, 1, [⟨31, 0, .rc, .lit 0, .any⟩]⟩,
  -- DAB_REFUSE
  ⟨0x21000, 0x1000000, 1, 4, 1, [⟨31, 28, .ro, .lit 0, .any⟩, ⟨15, 0, .rc, .lit 0, .any⟩]⟩,
  -- DAB_USE
  ⟨0x21004, 0x1000000, 1, 4, 1, [⟨23, 16, .ro, .lit 0, .any⟩, ⟨5, 0, .ro, .lit 0, .any⟩]⟩,
  -- DECd_CTL
  ⟨0x22000, 0x20, 128, 4, 1, [⟨31, 31, .ro, .lit 0, .any⟩, ⟨21, 16, .rw, .lit 0, .any⟩, ⟨13, 8, .rw, .lit 0, .any⟩, ⟨4, 4, .rw, .lit 1, .any⟩, ⟨1, 0, .rw, .lit 0, .ur 0 2⟩]⟩,
  -- DECd_CMD
  ⟨0x22004, 0x20, 128, 4, 1, [⟨1, 1, .wo, .lit 0, .any⟩, ⟨0, 0, .wo, .lit 0, .any⟩]⟩,
  -- DECd_STAT
  ⟨0x22008, 0x20, 128, 4, 1, [⟨31, 29, .ro, .lit 0, .any⟩, ⟨28, 28, .ro, .lit 0, .any⟩, ⟨27, 25, .ro, .lit 0, .any⟩, ⟨24, 24, .ro, .lit 0, .any⟩, ⟨23, 22, .ro, .lit 0, .any⟩, ⟨21, 21, .ro, .lit 0, .any⟩, ⟨20, 20, .ro, .lit 0, .any⟩, ⟨19, 16, .ro, .lit 0, .any⟩, ⟨15, 0, .rc, .lit 0, .any⟩]⟩,
  -- DECd_FMT
  ⟨0x2200c, 0x20, 128, 4, 1, [⟨31, 30, .ro, .lit 0, .any⟩, ⟨25, 16, .ro, .lit 0, .any⟩, ⟨15, 0, .ro, .lit 0, .any⟩]⟩,
  -- DECd_QUAL
  ⟨0x22010, 0x20, 128, 4, 1, [⟨31, 24, .ro, .lit 0, .any⟩, ⟨23, 16, .ro, .lit 0, .any⟩]⟩,
  -- DECd_CNT
  ⟨0x22014, 0x20, 128, 4, 1, [⟨31, 16, .rc, .lit 0, .any⟩, ⟨15, 0, .rc, .lit 0, .any⟩]⟩,
  -- DECd_LAT
  ⟨0x22018, 0x20, 128, 4, 1, [⟨31, 0, .ro, .lit 0, .any⟩]⟩,
  -- DECd_RATE
  ⟨0x2201c, 0x20, 128, 4, 1, [⟨31, 0, .ro, .lit 0, .any⟩]⟩]

/-- The registers of block FOL (spec chapter 10). -/
def regsFol : List RegDesc := [
  -- FOLp_CTL
  ⟨0x28000, 0x40, 256, 4, 1, [⟨31, 21, .rw, .lit 500, .ur 10 2000⟩, ⟨15, 8, .rw, .lit 40, .ur 10 200⟩, ⟨6, 6, .rw, .lit 1, .any⟩, ⟨5, 5, .rw, .lit 0, .any⟩, ⟨4, 4, .rw, .lit 0, .any⟩, ⟨3, 3, .rw, .lit 0, .any⟩, ⟨2, 2, .rw, .lit 1, .any⟩, ⟨1, 0, .rw, .lit 0, .any⟩]⟩,
  -- FOLp_ID
  ⟨0x28004, 0x40, 256, 4, 1, [⟨31, 16, .rw, .lit 0, .any⟩, ⟨15, 0, .rw, .lit 0, .any⟩]⟩,
  -- FOLp_DELAY
  ⟨0x28008, 0x40, 256, 4, 1, [⟨19, 0, .rw, .lit 12000, .ur 240 576000⟩]⟩,
  -- FOLp_POL0
  ⟨0x2800c, 0x40, 256, 4, 1, [⟨31, 24, .rw, .lit 60, .any⟩, ⟨23, 16, .rw, .lit 30, .ur 1 255⟩, ⟨15, 8, .rw, .lit 10, .any⟩, ⟨7, 0, .rw, .lit 40, .ur 1 120⟩]⟩,
  -- FOLp_POL1
  ⟨0x28010, 0x40, 256, 4, 1, [⟨31, 24, .rw, .lit 0, .any⟩, ⟨23, 16, .rw, .lit 0, .any⟩, ⟨15, 8, .rw, .lit 60, .ur 30 95⟩, ⟨7, 0, .rw, .lit 10, .ur 1 100⟩]⟩,
  -- FOLp_STAT
  ⟨0x28014, 0x40, 256, 4, 1, [⟨31, 29, .ro, .lit 0, .any⟩, ⟨28, 28, .ro, .lit 0, .any⟩, ⟨27, 27, .ro, .lit 0, .any⟩, ⟨26, 26, .ro, .lit 0, .any⟩, ⟨25, 25, .ro, .lit 0, .any⟩, ⟨23, 20, .ro, .lit 0, .any⟩, ⟨19, 16, .ro, .lit 0, .any⟩, ⟨15, 0, .rc, .lit 0, .any⟩]⟩,
  -- FOLp_SRC
  ⟨0x28018, 0x40, 256, 4, 1, [⟨31, 30, .ro, .lit 0, .any⟩, ⟨29, 26, .ro, .lit 0, .any⟩, ⟨25, 16, .ro, .lit 0, .any⟩, ⟨15, 14, .ro, .lit 0, .any⟩, ⟨13, 10, .ro, .lit 0, .any⟩, ⟨9, 0, .ro, .lit 0, .any⟩]⟩,
  -- FOLp_SCORE
  ⟨0x2801c, 0x40, 256, 4, 1, [⟨31, 16, .ro, .lit 0, .any⟩, ⟨15, 0, .ro, .lit 0, .any⟩]⟩,
  -- FOLp_OFFS
  ⟨0x28020, 0x40, 256, 4, 1, [⟨31, 0, .ro, .lit 0, .any⟩]⟩,
  -- FOLp_GAIN
  ⟨0x28024, 0x40, 256, 4, 1, [⟨31, 16, .ro, .lit 0, .any⟩, ⟨15, 0, .ro, .lit 0, .any⟩]⟩,
  -- FOLp_XF
  ⟨0x28028, 0x40, 256, 4, 1, [⟨31, 30, .ro, .lit 0, .any⟩, ⟨15, 0, .ro, .lit 0, .any⟩]⟩,
  -- FOLp_LASTSW_LO
  ⟨0x2802c, 0x40, 256, 4, 1, [⟨31, 0, .ro, .lit 0, .any⟩]⟩,
  -- FOLp_LASTSW_HI
  ⟨0x28030, 0x40, 256, 4, 1, [⟨31, 0, .ro, .lit 0, .any⟩]⟩,
  -- FOLp_CNT0
  ⟨0x28034, 0x40, 256, 4, 1, [⟨31, 16, .rc, .lit 0, .any⟩, ⟨15, 0, .rc, .lit 0, .any⟩]⟩,
  -- FOLp_CNT1
  ⟨0x28038, 0x40, 256, 4, 1, [⟨31, 16, .rc, .lit 0, .any⟩, ⟨15, 0, .rc, .lit 0, .any⟩]⟩,
  -- FOLp_CNT2
  ⟨0x2803c, 0x40, 256, 4, 1, [⟨31, 16, .rc, .lit 0, .any⟩, ⟨15, 0, .rc, .lit 0, .any⟩]⟩,
  -- FOL_REFUSE
  ⟨0x2c000, 0x1000000, 1, 4, 1, [⟨31, 28, .ro, .lit 0, .any⟩, ⟨15, 0, .rc, .lit 0, .any⟩]⟩,
  -- FOL_CMD
  ⟨0x2c004, 0x1000000, 1, 4, 1, [⟨31, 28, .wo, .lit 0, .any⟩, ⟨19, 16, .wo, .lit 0, .any⟩, ⟨7, 0, .wo, .lit 0, .any⟩]⟩,
  -- FOL_POOL
  ⟨0x2c008, 0x1000000, 1, 4, 1, [⟨24, 16, .rw, .lit 0, .any⟩, ⟨9, 0, .rw, .lit 0, .any⟩]⟩,
  -- FOL_DEC
  ⟨0x2c00c, 0x1000000, 1, 4, 1, [⟨7, 0, .rw, .lit 0, .any⟩]⟩,
  -- FOL_CSEL
  ⟨0x2c010, 0x1000000, 1, 4, 1, [⟨15, 8, .rw, .lit 0, .any⟩, ⟨3, 0, .rw, .lit 0, .any⟩]⟩,
  -- FOL_CINFO0
  ⟨0x2c014, 0x1000000, 1, 4, 1, [⟨31, 28, .ro, .lit 0, .any⟩, ⟨27, 26, .ro, .lit 0, .any⟩, ⟨25, 24, .ro, .lit 0, .any⟩, ⟨23, 23, .ro, .lit 0, .any⟩, ⟨15, 0, .ro, .lit 0, .any⟩]⟩,
  -- FOL_CINFO1
  ⟨0x2c018, 0x1000000, 1, 4, 1, [⟨31, 0, .ro, .lit 0, .any⟩]⟩,
  -- FOL_CINFO2
  ⟨0x2c01c, 0x1000000, 1, 4, 1, [⟨31, 16, .ro, .lit 0, .any⟩, ⟨15, 0, .ro, .lit 0, .any⟩]⟩,
  -- FOL_CINFO3
  ⟨0x2c020, 0x1000000, 1, 4, 1, [⟨31, 24, .ro, .lit 0, .any⟩, ⟨19, 0, .ro, .lit 0, .any⟩]⟩,
  -- FOL_CLIST
  ⟨0x2c024, 0x1000000, 1, 4, 1, [⟨31, 31, .rw, .lit 0, .any⟩, ⟨30, 29, .rw, .lit 0, .any⟩, ⟨23, 16, .rw, .lit 0, .any⟩, ⟨15, 0, .rw, .lit 0, .any⟩]⟩,
  -- FOL_USE
  ⟨0x2c028, 0x1000000, 1, 4, 1, [⟨31, 22, .ro, .lit 0, .any⟩, ⟨21, 13, .ro, .lit 0, .any⟩, ⟨7, 0, .ro, .lit 0, .any⟩]⟩]

/-- The registers of block MRW (spec chapter 11). -/
def regsMrw : List RegDesc := [
  -- MRW_REFUSE
  ⟨0x30000, 0x1000000, 1, 4, 1, [⟨31, 28, .ro, .lit 0, .any⟩, ⟨15, 0, .rc, .lit 0, .any⟩]⟩,
  -- MRW_STAT
  ⟨0x30004, 0x1000000, 1, 4, 1, [⟨31, 31, .ro, .lit 0, .any⟩, ⟨3, 0, .ro, .lit 0, .any⟩]⟩,
  -- MRW_REG_BASE
  ⟨0x30010, 0x1000000, 1, 8, 3, [⟨8, 0, .rw, .lit 0, .any⟩]⟩,
  ⟨0x30030, 0x1000000, 1, 8, 1, [⟨8, 0, .rw, .lit 0, .any⟩]⟩,
  -- MRW_REG_SIZE
  ⟨0x30014, 0x1000000, 1, 8, 3, [⟨9, 0, .rw, .lit 0, .ur 0 512⟩]⟩,
  ⟨0x30034, 0x1000000, 1, 8, 1, [⟨9, 0, .rw, .lit 0, .ur 0 512⟩]⟩,
  -- MRW_REG3_BASE, MRW_REG3_SIZE: the firmware region, fixed (R284)
  ⟨0x30028, 0x1000000, 1, 8, 1, [⟨8, 0, .ro, .lit 0, .any⟩]⟩,
  ⟨0x3002c, 0x1000000, 1, 8, 1, [⟨9, 0, .ro, .lit 0, .any⟩]⟩,
  -- MRW_AUD_CFG
  ⟨0x30038, 0x1000000, 1, 4, 1, [⟨10, 0, .rw, .lit 256, .any⟩]⟩,
  -- MRW_REG_CMD
  ⟨0x30040, 0x1000000, 1, 4, 1, [⟨0, 0, .wo, .lit 0, .any⟩]⟩,
  -- MRW_REG_STAT
  ⟨0x30044, 0x1000000, 1, 4, 1, [⟨31, 31, .ro, .lit 0, .any⟩, ⟨30, 30, .ro, .lit 1, .any⟩]⟩,
  -- MRW_RING_T0_LO
  ⟨0x30048, 0x1000000, 1, 4, 1, [⟨31, 0, .ro, .lit 0, .any⟩]⟩,
  -- MRW_RING_T0_HI
  ⟨0x3004c, 0x1000000, 1, 4, 1, [⟨31, 0, .ro, .lit 0, .any⟩]⟩,
  -- MRW_BBR_STAT
  ⟨0x30050, 0x1000000, 1, 4, 1, [⟨31, 31, .ro, .lit 0, .any⟩, ⟨17, 0, .ro, .lit 0, .any⟩]⟩,
  -- MRW_AUD_STAT
  ⟨0x30054, 0x1000000, 1, 4, 1, [⟨31, 21, .ro, .lit 0, .any⟩, ⟨20, 0, .ro, .lit 0, .any⟩]⟩,
  -- MRW_RING_LOST
  ⟨0x30058, 0x1000000, 1, 4, 1, [⟨31, 16, .rc, .lit 0, .any⟩, ⟨15, 0, .rc, .lit 0, .any⟩]⟩,
  -- MRW_AUD_FULL
  ⟨0x3005c, 0x1000000, 1, 4, 1, [⟨15, 0, .rc, .lit 0, .any⟩]⟩,
  -- MRW_TSH
  ⟨0x30060, 0x1000000, 1, 4, 8, [⟨31, 0, .rw, .lit 0, .any⟩]⟩,
  -- MRW_ECC
  ⟨0x30080, 0x1000000, 1, 4, 4, [⟨31, 16, .rc, .lit 0, .any⟩, ⟨15, 8, .rc, .lit 0, .any⟩, ⟨7, 0, .ro, .lit 255, .any⟩]⟩,
  -- MRW_ECC_ADDR_LO
  ⟨0x30090, 0x1000000, 1, 4, 1, [⟨31, 0, .ro, .lit 0, .any⟩]⟩,
  -- MRW_ECC_ADDR_HI
  ⟨0x30094, 0x1000000, 1, 4, 1, [⟨31, 0, .ro, .lit 0, .any⟩]⟩,
  -- MRW_SCRUB
  ⟨0x30098, 0x1000000, 1, 4, 1, [⟨31, 31, .rw, .lit 1, .any⟩, ⟨23, 16, .ro, .lit 0, .any⟩, ⟨7, 0, .rw, .lit 24, .ur 1 168⟩]⟩,
  -- MRW_CLS
  ⟨0x300a0, 0x1000000, 1, 4, 1, [⟨31, 24, .rw, .lit 40, .ur 10 60⟩, ⟨23, 16, .rw, .lit 10, .ur 0 30⟩]⟩,
  -- MRW_WAIT
  ⟨0x300a4, 0x1000000, 1, 4, 1, [⟨31, 16, .rw, .lit 200, .ur 1 10000⟩, ⟨15, 0, .rw, .lit 50, .ur 1 1000⟩]⟩,
  -- MRW_SNP_CTL
  ⟨0x300c0, 0x1000000, 1, 4, 1, [⟨23, 16, .rw, .lit 0, .any⟩, ⟨9, 8, .rw, .lit 0, .ur 0 2⟩, ⟨1, 0, .rw, .lit 2, .any⟩]⟩,
  -- MRW_SNP_POST
  ⟨0x300c4, 0x1000000, 1, 4, 1, [⟨23, 0, .rw, .lit 0, .any⟩]⟩,
  -- MRW_SNP_CMD
  ⟨0x300c8, 0x1000000, 1, 4, 1, [⟨2, 2, .wo, .lit 0, .any⟩, ⟨1, 1, .wo, .lit 0, .any⟩, ⟨0, 0, .wo, .lit 0, .any⟩]⟩,
  -- MRW_SNP_STAT
  ⟨0x300cc, 0x1000000, 1, 4, 1, [⟨31, 29, .ro, .lit 0, .any⟩, ⟨28, 28, .ro, .lit 0, .any⟩, ⟨15, 0, .rc, .lit 0, .any⟩]⟩,
  -- MRW_SNP_MATCH_LO
  ⟨0x300d0, 0x1000000, 1, 4, 1, [⟨31, 0, .rw, .lit 0, .any⟩]⟩,
  -- MRW_SNP_MATCH_HI
  ⟨0x300d4, 0x1000000, 1, 4, 1, [⟨31, 0, .rw, .lit 0, .any⟩]⟩,
  -- MRW_SNP_TRIG_LO
  ⟨0x300d8, 0x1000000, 1, 4, 1, [⟨31, 0, .ro, .lit 0, .any⟩]⟩,
  -- MRW_SNP_TRIG_HI
  ⟨0x300dc, 0x1000000, 1, 4, 1, [⟨31, 0, .ro, .lit 0, .any⟩]⟩,
  -- MRW_SNP_FIRST_LO
  ⟨0x300e0, 0x1000000, 1, 4, 1, [⟨31, 0, .ro, .lit 0, .any⟩]⟩,
  -- MRW_SNP_FIRST_HI
  ⟨0x300e4, 0x1000000, 1, 4, 1, [⟨31, 0, .ro, .lit 0, .any⟩]⟩,
  -- MRW_SNP_OLDEST
  ⟨0x300e8, 0x1000000, 1, 4, 1, [⟨27, 0, .ro, .lit 0, .any⟩]⟩,
  -- MRW_SNP_SLOTS
  ⟨0x300ec, 0x1000000, 1, 4, 1, [⟨27, 0, .ro, .lit 0, .any⟩]⟩,
  -- MRW_RQr_CFG
  ⟨0x31000, 0x10, 256, 4, 1, [⟨31, 31, .ro, .lit 0, .any⟩, ⟨1, 0, .ro, .lit 0, .any⟩]⟩,
  -- MRW_RQr_CFG of requesters 256 to 266, and of 267 to 269 (R299)
  ⟨0x32000, 0x10, 11, 4, 1, [⟨31, 31, .rw, .lit 0, .any⟩, ⟨1, 0, .rw, .lit 0, .any⟩]⟩,
  ⟨0x320b0, 0x10, 3, 4, 1, [⟨31, 31, .rw, .lit 0, .any⟩, ⟨1, 0, .ro, .lit 0, .any⟩]⟩,
  -- MRW_RQr_CNT0
  ⟨0x31004, 0x10, 270, 4, 1, [⟨31, 16, .rc, .lit 0, .any⟩, ⟨15, 0, .rc, .lit 0, .any⟩]⟩,
  -- MRW_RQr_CNT1
  ⟨0x31008, 0x10, 270, 4, 1, [⟨31, 16, .rc, .lit 0, .any⟩, ⟨15, 0, .rc, .lit 0, .any⟩]⟩,
  -- MRW_RQr_CNT2
  ⟨0x3100c, 0x10, 270, 4, 1, [⟨31, 16, .rc, .lit 0, .any⟩, ⟨10, 0, .ro, .lit 0, .any⟩]⟩,
  -- MRW_ACH
  ⟨0x33000, 0x1000000, 1, 4, 1024, [⟨31, 31, .ro, .lit 0, .any⟩, ⟨30, 29, .ro, .lit 0, .any⟩, ⟨9, 0, .ro, .lit 0, .any⟩]⟩]

/-- The registers of block SAP (spec chapter 12). -/
def regsSap : List RegDesc := [
  -- SAP_REFUSE
  ⟨0x34000, 0x1000000, 1, 4, 1, [⟨31, 28, .ro, .lit 0, .any⟩, ⟨15, 0, .rc, .lit 0, .any⟩]⟩,
  -- SAPk_CTL
  ⟨0x34100, 0x100, 8, 4, 1, [⟨31, 31, .rw, .lit 0, .any⟩, ⟨27, 26, .rw, .lit 0, .ur 0 1⟩, ⟨25, 24, .rw, .lit 0, .ur 0 2⟩, ⟨21, 20, .rw, .lit 0, .any⟩, ⟨19, 18, .rw, .lit 1, .ur 0 2⟩, ⟨17, 16, .rw, .lit 0, .any⟩, ⟨15, 8, .rw, .lit 16, .ur 8 128⟩, ⟨7, 0, .rw, .lit 10, .ur 1 100⟩]⟩,
  -- SAPk_STAT
  ⟨0x34104, 0x100, 8, 4, 1, [⟨31, 30, .ro, .lit 0, .any⟩, ⟨29, 28, .ro, .lit 0, .any⟩, ⟨27, 27, .ro, .lit 0, .any⟩, ⟨26, 26, .ro, .lit 0, .any⟩, ⟨25, 25, .ro, .lit 0, .any⟩, ⟨19, 16, .ro, .lit 0, .any⟩, ⟨15, 0, .rc, .lit 0, .any⟩]⟩,
  -- SAPk_ORATE
  ⟨0x34108, 0x100, 8, 4, 1, [⟨31, 0, .ro, .lit 0, .any⟩]⟩,
  -- SAPk_IRATE
  ⟨0x3410c, 0x100, 8, 4, 1, [⟨31, 0, .ro, .lit 0, .any⟩]⟩,
  -- SAPk_FLT
  ⟨0x34110, 0x100, 8, 4, 1, [⟨31, 24, .rc, .lit 0, .any⟩, ⟨23, 16, .rc, .lit 0, .any⟩, ⟨15, 8, .rc, .lit 0, .any⟩, ⟨7, 0, .rc, .lit 0, .any⟩]⟩,
  -- SAPk_GLITCH
  ⟨0x34114, 0x100, 8, 4, 1, [⟨31, 16, .rc, .lit 0, .any⟩, ⟨15, 0, .rc, .lit 0, .any⟩]⟩,
  -- SAPk_OSLIP
  ⟨0x34118, 0x100, 8, 4, 1, [⟨31, 16, .rc, .lit 0, .any⟩, ⟨15, 0, .rc, .lit 0, .any⟩]⟩,
  -- SAPk_ISLIP
  ⟨0x3411c, 0x100, 8, 4, 1, [⟨31, 16, .rc, .lit 0, .any⟩, ⟨15, 0, .rc, .lit 0, .any⟩]⟩,
  -- SAPk_XRUN
  ⟨0x34120, 0x100, 8, 4, 1, [⟨31, 24, .rc, .lit 0, .any⟩, ⟨23, 16, .rc, .lit 0, .any⟩, ⟨15, 8, .rc, .lit 0, .any⟩, ⟨7, 0, .rc, .lit 0, .any⟩]⟩,
  -- SAPk_ODROP
  ⟨0x34124, 0x100, 8, 4, 1, [⟨31, 16, .rc, .lit 0, .any⟩, ⟨15, 0, .rc, .lit 0, .any⟩]⟩,
  -- SAPk_MAP
  ⟨0x34128, 0x100, 8, 4, 8, [⟨31, 30, .rw, .lit 0, .any⟩, ⟨9, 0, .rw, .lit 0, .any⟩]⟩,
  -- SAPk_OCTL
  ⟨0x34148, 0x100, 8, 4, 1, [⟨31, 31, .rw, .lit 0, .any⟩]⟩,
  -- SAPk_IMASK
  ⟨0x3414c, 0x100, 8, 4, 1, [⟨15, 0, .rw, .lit 3, .any⟩]⟩,
  -- SAPk_ICAP
  ⟨0x34150, 0x100, 8, 4, 1, [⟨31, 31, .rw, .lit 0, .any⟩, ⟨30, 30, .wo, .lit 0, .any⟩, ⟨29, 24, .rw, .lit 0, .any⟩, ⟨17, 16, .rw, .lit 0, .ur 0 2⟩]⟩,
  -- SAPk_IMASK_ACT
  ⟨0x34154, 0x100, 8, 4, 1, [⟨15, 0, .ro, .lit 3, .any⟩]⟩,
  -- SAPk_TS_LO
  ⟨0x34158, 0x100, 8, 4, 1, [⟨31, 0, .ro, .lit 0, .any⟩]⟩,
  -- SAPk_TS_HI
  ⟨0x3415c, 0x100, 8, 4, 1, [⟨31, 0, .ro, .lit 0, .any⟩]⟩,
  -- SAPk_LAT
  ⟨0x34160, 0x100, 8, 4, 1, [⟨31, 0, .ro, .lit 0, .any⟩]⟩,
  -- SAPk_TCS
  ⟨0x34164, 0x100, 8, 4, 6, [⟨31, 0, .rw, .lit 0, .any⟩]⟩,
  -- SAPk_TCS_CTL
  ⟨0x3417c, 0x100, 8, 4, 1, [⟨31, 31, .rw, .lit 1, .any⟩, ⟨0, 0, .wo, .lit 0, .any⟩]⟩,
  -- SAPk_RCS
  ⟨0x34180, 0x100, 8, 4, 6, [⟨31, 0, .ro, .lit 0, .any⟩]⟩,
  -- SAPk_AESCNT
  ⟨0x34198, 0x100, 8, 4, 1, [⟨31, 16, .rc, .lit 0, .any⟩, ⟨15, 0, .rc, .lit 0, .any⟩]⟩,
  -- SAPk_AESST
  ⟨0x3419c, 0x100, 8, 4, 1, [⟨31, 31, .w1c, .lit 0, .any⟩]⟩]

/-- The registers of block NET (spec chapter 13 (R360)). -/
def regsNet : List RegDesc := [
  -- NET_REFUSE
  ⟨0x38000, 0x1000000, 1, 4, 1, [⟨31, 28, .ro, .lit 0, .any⟩, ⟨15, 0, .rc, .lit 0, .any⟩]⟩,
  -- NET_PTP_CTL
  ⟨0x38004, 0x1000000, 1, 4, 1, [⟨31, 31, .rw, .lit 0, .any⟩, ⟨30, 30, .rw, .lit 0, .any⟩, ⟨29, 29, .rw, .lit 0, .any⟩, ⟨28, 28, .rw, .lit 0, .any⟩, ⟨27, 24, .rw, .lit 3, .ur 2 10⟩, ⟨23, 16, .rw, .lit 0, .ur 0 127⟩, ⟨7, 4, .rw, .lit 14, .sr (-4) (1)⟩, ⟨3, 0, .rw, .lit 1, .sr (-3) (3)⟩]⟩,
  -- NET_PTP_STAT
  ⟨0x38008, 0x1000000, 1, 4, 1, [⟨31, 28, .ro, .lit 3, .any⟩, ⟨15, 8, .rc, .lit 0, .any⟩, ⟨7, 0, .rc, .lit 0, .any⟩]⟩,
  -- NET_PTP_DS
  ⟨0x3800c, 0x1000000, 1, 4, 1, [⟨31, 24, .rw, .lit 128, .any⟩, ⟨23, 16, .rw, .lit 128, .any⟩, ⟨15, 8, .rw, .lit 248, .any⟩, ⟨7, 0, .rw, .lit 254, .any⟩]⟩,
  -- NET_PTP_MPD
  ⟨0x38010, 0x1000000, 1, 4, 1, [⟨31, 0, .ro, .lit 0, .any⟩]⟩,
  -- NET_CAS_CTL
  ⟨0x38014, 0x1000000, 1, 4, 1, [⟨31, 31, .rw, .lit 0, .any⟩, ⟨30, 30, .rw, .lit 0, .any⟩, ⟨29, 29, .rw, .lit 0, .any⟩, ⟨22, 16, .rw, .lit 127, .any⟩, ⟨15, 0, .rw, .lit 47820, .ur 1 65535⟩]⟩,
  -- NET_CAS_DST
  ⟨0x38018, 0x1000000, 1, 4, 1, [⟨31, 0, .rw, .lit 0, .any⟩]⟩,
  -- NET_CAS_ALLOW
  ⟨0x3801c, 0x1000000, 1, 4, 4, [⟨31, 0, .rw, .lit 0, .any⟩]⟩,
  -- NET_CAS_CNT
  ⟨0x3802c, 0x1000000, 1, 4, 1, [⟨31, 16, .rc, .lit 0, .any⟩, ⟨15, 0, .rc, .lit 0, .any⟩]⟩,
  -- NET_EGR_CFG
  ⟨0x38030, 0x1000000, 1, 4, 1, [⟨31, 24, .rw, .lit 50, .ur 10 80⟩, ⟨23, 16, .rw, .lit 2, .ur 1 100⟩, ⟨15, 0, .rw, .lit 50, .ur 1 1000⟩]⟩,
  -- NET_PORTm_CTL
  ⟨0x38100, 0x40, 2, 4, 1, [⟨31, 31, .rw, .lit 0, .any⟩, ⟨30, 29, .rw, .lit 0, .ur 0 2⟩, ⟨11, 0, .rw, .lit 0, .ur 0 4094⟩]⟩,
  -- NET_PORTm_STAT
  ⟨0x38104, 0x40, 2, 4, 1, [⟨31, 31, .ro, .lit 0, .any⟩, ⟨30, 30, .ro, .lit 0, .any⟩]⟩,
  -- NET_PORTm_IP
  ⟨0x38108, 0x40, 2, 4, 1, [⟨31, 0, .rw, .lit 0, .any⟩]⟩,
  -- NET_PORTm_PFX
  ⟨0x3810c, 0x40, 2, 4, 1, [⟨5, 0, .rw, .lit 24, .ur 8 30⟩]⟩,
  -- NET_PORTm_GW
  ⟨0x38110, 0x40, 2, 4, 1, [⟨31, 0, .rw, .lit 0, .any⟩]⟩,
  -- NET_PORTm_MACL
  ⟨0x38114, 0x40, 2, 4, 1, [⟨31, 0, .ro, .lit 0, .any⟩]⟩,
  -- NET_PORTm_MACH
  ⟨0x38118, 0x40, 2, 4, 1, [⟨15, 0, .ro, .lit 0, .any⟩]⟩,
  -- NET_PORTm_CLS
  ⟨0x38120, 0x40, 2, 4, 4, [⟨31, 16, .rc, .lit 0, .any⟩, ⟨15, 0, .rc, .lit 0, .any⟩]⟩,
  -- NET_PORTm_RXDROP
  ⟨0x38130, 0x40, 2, 4, 1, [⟨31, 0, .rc, .lit 0, .any⟩]⟩,
  -- NET_PORTm_RATE0
  ⟨0x38134, 0x40, 2, 4, 1, [⟨31, 0, .ro, .lit 1000, .any⟩]⟩,
  -- NET_TXs_CTL
  ⟨0x39000, 0x10, 256, 4, 1, [⟨31, 31, .rw, .lit 0, .any⟩, ⟨30, 30, .rw, .lit 0, .any⟩, ⟨29, 29, .rw, .lit 0, .any⟩, ⟨28, 28, .rw, .lit 0, .any⟩, ⟨27, 27, .rw, .lit 0, .any⟩, ⟨19, 16, .rw, .lit 1, .ur 1 14⟩, ⟨13, 8, .rw, .lit 34, .any⟩, ⟨7, 0, .rw, .lit 0, .any⟩]⟩,
  -- NET_TXs_DST
  ⟨0x39004, 0x10, 256, 4, 1, [⟨31, 0, .rw, .lit 0, .any⟩]⟩,
  -- NET_TXs_UDP
  ⟨0x39008, 0x10, 256, 4, 1, [⟨31, 16, .rw, .lit 5004, .any⟩]⟩,
  -- NET_TXs_STAT
  ⟨0x3900c, 0x10, 256, 4, 1, [⟨31, 16, .rc, .lit 0, .any⟩, ⟨15, 0, .rc, .lit 0, .any⟩]⟩,
  -- NET_RXr_CTL
  ⟨0x3a000, 0x20, 16, 4, 1, [⟨31, 31, .rw, .lit 0, .any⟩, ⟨30, 30, .rw, .lit 0, .any⟩, ⟨29, 29, .rw, .lit 0, .any⟩, ⟨28, 28, .rw, .lit 0, .any⟩, ⟨23, 20, .rw, .lit 2, .ur 1 8⟩, ⟨19, 16, .rw, .lit 0, .any⟩, ⟨15, 0, .rw, .lit 96, .ur 48 4800⟩]⟩,
  -- NET_RXr_GRP
  ⟨0x3a004, 0x20, 16, 4, 1, [⟨31, 0, .rw, .lit 0, .any⟩]⟩,
  -- NET_RXr_SRC
  ⟨0x3a008, 0x20, 16, 4, 1, [⟨31, 0, .rw, .lit 0, .any⟩]⟩,
  -- NET_RXr_UDP
  ⟨0x3a00c, 0x20, 16, 4, 1, [⟨15, 0, .rw, .lit 5004, .any⟩]⟩,
  -- NET_RXr_STAT
  ⟨0x3a010, 0x20, 16, 4, 1, [⟨31, 30, .ro, .lit 0, .any⟩]⟩,
  -- NET_RXr_CNT
  ⟨0x3a014, 0x20, 16, 4, 1, [⟨31, 16, .rc, .lit 0, .any⟩, ⟨15, 0, .rc, .lit 0, .any⟩]⟩,
  -- NET_RXr_SLIP
  ⟨0x3a018, 0x20, 16, 4, 1, [⟨31, 16, .rc, .lit 0, .any⟩, ⟨15, 0, .rc, .lit 0, .any⟩]⟩,
  -- NET_IQi_CTL
  ⟨0x3a400, 0x10, 64, 4, 1, [⟨31, 31, .rw, .lit 0, .any⟩, ⟨30, 30, .rw, .lit 0, .any⟩, ⟨29, 29, .rw, .lit 0, .any⟩, ⟨8, 0, .rw, .lit 0, .any⟩]⟩,
  -- NET_IQi_DST
  ⟨0x3a404, 0x10, 64, 4, 1, [⟨31, 0, .rw, .lit 0, .any⟩]⟩,
  -- NET_IQi_UDP
  ⟨0x3a408, 0x10, 64, 4, 1, [⟨15, 0, .rw, .lit 4991, .any⟩]⟩,
  -- NET_IQi_STAT
  ⟨0x3a40c, 0x10, 64, 4, 1, [⟨31, 16, .rc, .lit 0, .any⟩, ⟨15, 0, .rc, .lit 0, .any⟩]⟩]

/-- The registers of block PCI (spec chapter 13 (R361)). -/
def regsPci : List RegDesc := [
  -- PCI_REFUSE
  ⟨0x3c000, 0x1000000, 1, 4, 1, [⟨31, 28, .ro, .lit 0, .any⟩, ⟨15, 0, .rc, .lit 0, .any⟩]⟩,
  -- PCI_STAT
  ⟨0x3c004, 0x1000000, 1, 4, 1, [⟨31, 31, .ro, .lit 0, .any⟩, ⟨30, 28, .ro, .lit 0, .any⟩, ⟨27, 25, .ro, .lit 0, .any⟩]⟩,
  -- PCI_BAR2
  ⟨0x3c008, 0x1000000, 1, 4, 1, [⟨8, 0, .rw, .lit 0, .ur 0 448⟩]⟩,
  -- PCI_CNT
  ⟨0x3c00c, 0x1000000, 1, 4, 1, [⟨31, 16, .rc, .lit 0, .any⟩, ⟨15, 0, .rc, .lit 0, .any⟩]⟩,
  -- PCI_WAIT
  ⟨0x3c010, 0x1000000, 1, 4, 1, [⟨15, 0, .rw, .lit 1000, .ur 10 65535⟩]⟩,
  -- PCI_Qq_CTL
  ⟨0x3d000, 0x40, 64, 4, 1, [⟨31, 31, .rw, .lit 0, .any⟩, ⟨30, 29, .rw, .lit 0, .ur 0 2⟩, ⟨28, 27, .rw, .lit 1, .any⟩, ⟨26, 21, .rw, .lit 0, .any⟩, ⟨20, 16, .rw, .lit 16, .ur 12 30⟩]⟩,
  -- PCI_Qq_BASE_LO
  ⟨0x3d004, 0x40, 64, 4, 1, [⟨31, 0, .rw, .lit 0, .any⟩]⟩,
  -- PCI_Qq_BASE_HI
  ⟨0x3d008, 0x40, 64, 4, 1, [⟨31, 0, .rw, .lit 0, .any⟩]⟩,
  -- PCI_Qq_WB_LO
  ⟨0x3d00c, 0x40, 64, 4, 1, [⟨31, 0, .rw, .lit 0, .any⟩]⟩,
  -- PCI_Qq_WB_HI
  ⟨0x3d010, 0x40, 64, 4, 1, [⟨31, 0, .rw, .lit 0, .any⟩]⟩,
  -- PCI_Qq_DEV
  ⟨0x3d014, 0x40, 64, 4, 1, [⟨31, 0, .ro, .lit 0, .any⟩]⟩,
  -- PCI_Qq_HOST
  ⟨0x3d018, 0x40, 64, 4, 1, [⟨31, 0, .rw, .lit 0, .any⟩]⟩,
  -- PCI_Qq_SRC
  ⟨0x3d01c, 0x40, 64, 4, 1, [⟨31, 28, .rw, .lit 0, .any⟩, ⟨25, 16, .rw, .lit 0, .any⟩, ⟨9, 0, .rw, .lit 0, .any⟩]⟩,
  -- PCI_Qq_COAL
  ⟨0x3d020, 0x40, 64, 4, 1, [⟨31, 16, .rw, .lit 16, .any⟩, ⟨15, 0, .rw, .lit 100, .ur 1 65535⟩]⟩,
  -- PCI_Qq_CNT
  ⟨0x3d024, 0x40, 64, 4, 1, [⟨31, 16, .rc, .lit 0, .any⟩, ⟨15, 0, .rc, .lit 0, .any⟩]⟩,
  -- PCI_MSIX
  ⟨0x3e000, 0x10, 64, 4, 4, [⟨31, 0, .rw, .lit 0, .any⟩]⟩,
  -- PCI_PBA
  ⟨0x3e400, 0x1000000, 1, 4, 2, [⟨31, 0, .ro, .lit 0, .any⟩]⟩]

/-- The registers of block SEQ (spec chapter 16). -/
def regsSeq : List RegDesc := [
  -- SEQ_REFUSE
  ⟨0x40000, 0x1000000, 1, 4, 1, [⟨31, 28, .ro, .lit 0, .any⟩, ⟨15, 0, .rc, .lit 0, .any⟩]⟩,
  -- SEQ_PAIRS
  ⟨0x40004, 0x1000000, 1, 4, 1, [⟨17, 9, .ro, .lit 0, .any⟩, ⟨8, 8, .ro, .lit 1, .any⟩, ⟨3, 0, .ro, .lit 15, .any⟩]⟩,
  -- SEQ_PAIRCNT
  ⟨0x40008, 0x1000000, 1, 4, 1, [⟨15, 0, .rc, .lit 0, .any⟩]⟩,
  -- SEQk_CTL
  ⟨0x40100, 0x40, 8, 4, 1, [⟨31, 31, .rw, .lit 0, .any⟩, ⟨30, 30, .wo, .lit 0, .any⟩, ⟨23, 8, .rw, .lit 0, .ur 0 2047⟩]⟩,
  -- SEQk_STAT
  ⟨0x40104, 0x40, 8, 4, 1, [⟨31, 29, .ro, .lit 1, .any⟩, ⟨28, 28, .ro, .lit 0, .any⟩, ⟨27, 24, .ro, .inst, .any⟩, ⟨23, 21, .ro, .lit 0, .any⟩, ⟨20, 20, .ro, .lit 0, .any⟩, ⟨19, 16, .ro, .lit 0, .any⟩, ⟨15, 0, .rc, .lit 0, .any⟩]⟩,
  -- SEQk_PC
  ⟨0x40108, 0x40, 8, 4, 1, [⟨23, 0, .ro, .lit 0, .any⟩]⟩,
  -- SEQk_SW
  ⟨0x4010c, 0x40, 8, 4, 1, [⟨23, 0, .ro, .lit 0, .any⟩]⟩,
  -- SEQk_FADDR
  ⟨0x40110, 0x40, 8, 4, 1, [⟨31, 28, .ro, .lit 0, .any⟩, ⟨23, 0, .ro, .lit 0, .any⟩]⟩,
  -- SEQk_TRAPCNT
  ⟨0x40114, 0x40, 8, 4, 1, [⟨31, 16, .rc, .lit 0, .any⟩, ⟨15, 0, .rc, .lit 0, .any⟩]⟩,
  -- SEQk_WDOG
  ⟨0x40118, 0x40, 8, 4, 1, [⟨31, 31, .rw, .lit 0, .any⟩, ⟨30, 30, .wo, .lit 0, .any⟩, ⟨15, 0, .rw, .lit 1000, .ur 1 60000⟩]⟩]

/-- The registers of block EXC (spec chapter 18). -/
def regsExc : List RegDesc := [
  -- EXC_CTL
  ⟨0x48000, 0x1000000, 1, 4, 1, [⟨31, 31, .rw, .lit 0, .any⟩, ⟨30, 30, .rw, .lit 1, .any⟩, ⟨29, 29, .rw, .lit 0, .any⟩, ⟨28, 28, .rw, .lit 0, .any⟩]⟩,
  -- EXC_CMD
  ⟨0x48004, 0x1000000, 1, 4, 1, [⟨3, 3, .wo, .lit 0, .any⟩, ⟨2, 2, .wo, .lit 0, .any⟩, ⟨1, 1, .wo, .lit 0, .any⟩, ⟨0, 0, .wo, .lit 0, .any⟩]⟩,
  -- EXC_STAT
  ⟨0x48008, 0x1000000, 1, 4, 1, [⟨31, 29, .ro, .lit 0, .any⟩, ⟨28, 28, .w1c, .lit 0, .any⟩, ⟨27, 26, .ro, .lit 0, .any⟩, ⟨23, 20, .ro, .lit 0, .any⟩, ⟨19, 16, .ro, .lit 0, .any⟩, ⟨15, 0, .rc, .lit 0, .any⟩]⟩,
  -- EXC_SEQ
  ⟨0x4800c, 0x1000000, 1, 4, 1, [⟨29, 20, .rw, .lit 50, .ur 1 1000⟩, ⟨19, 10, .rw, .lit 20, .ur 1 1000⟩, ⟨9, 0, .rw, .lit 100, .ur 1 1000⟩]⟩,
  -- EXC_CENTRE
  ⟨0x48010, 0x1000000, 1, 4, 1, [⟨31, 0, .rw, .lit 98000000, .any⟩]⟩,
  -- EXC_PAFLT_CNT
  ⟨0x48014, 0x1000000, 1, 4, 1, [⟨31, 0, .rc, .lit 0, .any⟩]⟩,
  -- EXC_CNT
  ⟨0x48018, 0x1000000, 1, 4, 1, [⟨31, 16, .rc, .lit 0, .any⟩, ⟨15, 0, .rc, .lit 0, .any⟩]⟩,
  -- EXC_CLIP
  ⟨0x4801c, 0x1000000, 1, 4, 1, [⟨31, 0, .rc, .lit 0, .any⟩]⟩,
  -- EXC_LIC_STAT
  ⟨0x48020, 0x1000000, 1, 4, 1, [⟨31, 30, .ro, .lit 0, .any⟩, ⟨27, 24, .ro, .lit 0, .any⟩, ⟨3, 0, .ro, .lit 0, .any⟩]⟩,
  -- EXC_LIC_SEQ
  ⟨0x48024, 0x1000000, 1, 4, 1, [⟨31, 0, .ro, .lit 0, .any⟩]⟩,
  -- EXC_DPD_STAT
  ⟨0x48028, 0x1000000, 1, 4, 1, [⟨31, 16, .ro, .lit 0, .any⟩, ⟨15, 0, .rc, .lit 0, .any⟩]⟩,
  -- EXC_DPD_CFG
  ⟨0x4802c, 0x1000000, 1, 4, 1, [⟨31, 24, .rw, .lit 30, .ur 20 50⟩, ⟨15, 0, .rw, .lit 100, .ur 10 10000⟩]⟩,
  -- EXC_DPD_CSEL
  ⟨0x48030, 0x1000000, 1, 4, 1, [⟨31, 31, .rw, .lit 0, .any⟩, ⟨8, 0, .rw, .lit 0, .any⟩]⟩,
  -- EXC_DPD_CDATA
  ⟨0x48034, 0x1000000, 1, 4, 1, [⟨23, 0, .ro, .lit 0, .any⟩]⟩,
  -- EXC_ORX
  ⟨0x48038, 0x1000000, 1, 4, 1, [⟨5, 0, .rw, .lit 0, .any⟩]⟩,
  -- EXC_CPL
  ⟨0x48040, 0x1000000, 1, 4, 8, [⟨26, 16, .rw, .lit 0, .ur 0 1600⟩, ⟨15, 0, .rw, .lit 0, .any⟩]⟩,
  -- EXC_CPL_CMD
  ⟨0x48060, 0x1000000, 1, 4, 1, [⟨0, 0, .wo, .lit 0, .any⟩]⟩,
  -- EXC_CPL_STAT
  ⟨0x48064, 0x1000000, 1, 4, 1, [⟨31, 31, .ro, .lit 0, .any⟩]⟩,
  -- EXC_GRPg_CTL
  ⟨0x48080, 0x10, 2, 4, 1, [⟨31, 31, .rw, .lit 0, .any⟩, ⟨21, 16, .rw, .lit 0, .any⟩, ⟨13, 0, .rw, .lit 1000, .any⟩]⟩,
  -- XLi_CTL
  ⟨0x48100, 0x40, 8, 4, 1, [⟨31, 31, .rw, .lit 0, .any⟩, ⟨29, 28, .rw, .lit 0, .any⟩, ⟨24, 16, .rw, .lit 0, .any⟩, ⟨13, 12, .rw, .lit 1, .ur 0 2⟩, ⟨11, 11, .rw, .lit 0, .any⟩]⟩,
  -- XLi_FREQ
  ⟨0x48104, 0x40, 8, 4, 1, [⟨31, 0, .rw, .lit 0, .any⟩]⟩,
  -- XLi_PWR
  ⟨0x48108, 0x40, 8, 4, 1, [⟨31, 16, .rw, .lit 0, .any⟩, ⟨15, 0, .ro, .lit 32768, .any⟩]⟩,
  -- XLi_DEV
  ⟨0x4810c, 0x40, 8, 4, 1, [⟨31, 20, .rw, .lit 660, .any⟩, ⟨19, 10, .rw, .lit 675, .any⟩, ⟨9, 0, .rw, .lit 200, .any⟩]⟩,
  -- XLi_RDS
  ⟨0x48110, 0x40, 8, 4, 1, [⟨31, 31, .rw, .lit 0, .any⟩, ⟨8, 0, .rw, .lit 0, .any⟩]⟩,
  -- XLi_CDLY
  ⟨0x48114, 0x40, 8, 4, 1, [⟨13, 0, .rw, .lit 0, .ur 0 12000⟩]⟩,
  -- XLi_STAT
  ⟨0x48118, 0x40, 8, 4, 1, [⟨31, 30, .ro, .lit 0, .any⟩, ⟨29, 29, .ro, .lit 0, .any⟩, ⟨27, 24, .ro, .lit 0, .any⟩, ⟨15, 0, .ro, .lit 0, .any⟩]⟩,
  -- XLi_CNT
  ⟨0x4811c, 0x40, 8, 4, 1, [⟨31, 16, .rc, .lit 0, .any⟩, ⟨15, 0, .rc, .lit 0, .any⟩]⟩]

/-- The registers of block SLK (spec chapter 19). -/
def regsSlk : List RegDesc := [
  -- SLK_REFUSE
  ⟨0x4c000, 0x1000000, 1, 4, 1, [⟨31, 28, .ro, .lit 0, .any⟩, ⟨15, 0, .rc, .lit 0, .any⟩]⟩,
  -- SLK_CTL
  ⟨0x4c004, 0x1000000, 1, 4, 1, [⟨31, 31, .rw, .lit 0, .any⟩, ⟨30, 30, .rw, .lit 0, .any⟩, ⟨29, 28, .rw, .lit 1, .ur 0 2⟩, ⟨9, 0, .rw, .lit 200, .ur 10 1000⟩]⟩,
  -- SLK_CMD
  ⟨0x4c008, 0x1000000, 1, 4, 1, [⟨31, 28, .wo, .lit 0, .any⟩, ⟨27, 27, .wo, .lit 0, .any⟩, ⟨6, 0, .wo, .lit 0, .any⟩]⟩,
  -- SLK_STAT
  ⟨0x4c00c, 0x1000000, 1, 4, 1, [⟨31, 28, .ro, .lit 0, .any⟩, ⟨27, 27, .ro, .lit 0, .any⟩, ⟨26, 20, .ro, .lit 0, .any⟩, ⟨19, 16, .ro, .lit 0, .any⟩, ⟨15, 0, .rc, .lit 0, .any⟩]⟩,
  -- SLK_PHY
  ⟨0x4c010, 0x1000000, 1, 4, 1, [⟨31, 31, .rw, .lit 0, .any⟩, ⟨29, 28, .rw, .lit 1, .ur 0 2⟩, ⟨27, 27, .rw, .lit 0, .any⟩, ⟨23, 16, .rw, .lit 16, .ur 8 64⟩, ⟨15, 8, .rw, .lit 32, .ur 8 255⟩]⟩,
  -- SLK_SYNC
  ⟨0x4c014, 0x1000000, 1, 4, 1, [⟨31, 0, .rw, .lit 2656713841, .any⟩]⟩,
  -- SLK_RXCFG
  ⟨0x4c018, 0x1000000, 1, 4, 1, [⟨31, 31, .rw, .lit 1, .any⟩, ⟨30, 30, .rw, .lit 1, .any⟩, ⟨29, 28, .rw, .lit 2, .ur 0 2⟩, ⟨27, 27, .rw, .lit 0, .any⟩, ⟨26, 25, .rw, .lit 1, .ur 0 2⟩, ⟨24, 23, .rw, .lit 1, .ur 0 2⟩, ⟨22, 16, .rw, .lit 0, .any⟩, ⟨12, 8, .rw, .lit 8, .ur 3 30⟩, ⟨6, 0, .rw, .lit 45, .ur 20 90⟩]⟩,
  -- SLK_TXCFG
  ⟨0x4c01c, 0x1000000, 1, 4, 1, [⟨31, 24, .rw, .lit 0, .any⟩, ⟨23, 16, .rw, .lit 0, .sr (-40) (28)⟩, ⟨15, 14, .rw, .lit 0, .ur 0 2⟩, ⟨13, 0, .rw, .lit 500, .ur 10 10000⟩]⟩,
  -- SLK_DSEED
  ⟨0x4c020, 0x1000000, 1, 4, 1, [⟨24, 24, .rw, .lit 1, .any⟩, ⟨23, 0, .rw, .lit 12802710, .ur 1 16777215⟩]⟩,
  -- SLK_TXSTAT
  ⟨0x4c024, 0x1000000, 1, 4, 1, [⟨31, 28, .ro, .lit 0, .any⟩, ⟨27, 24, .ro, .lit 0, .any⟩, ⟨23, 0, .ro, .lit 0, .any⟩]⟩,
  -- SLK_CNT0
  ⟨0x4c030, 0x1000000, 1, 4, 1, [⟨31, 16, .rc, .lit 0, .any⟩, ⟨15, 0, .rc, .lit 0, .any⟩]⟩,
  -- SLK_CNT1
  ⟨0x4c034, 0x1000000, 1, 4, 1, [⟨31, 16, .rc, .lit 0, .any⟩, ⟨15, 0, .rc, .lit 0, .any⟩]⟩,
  -- SLK_CNT2
  ⟨0x4c038, 0x1000000, 1, 4, 1, [⟨31, 16, .rc, .lit 0, .any⟩, ⟨15, 0, .rc, .lit 0, .any⟩]⟩,
  -- SLK_CNT3
  ⟨0x4c03c, 0x1000000, 1, 4, 1, [⟨31, 16, .rc, .lit 0, .any⟩, ⟨15, 0, .rc, .lit 0, .any⟩]⟩,
  -- SLK_CNT4
  ⟨0x4c040, 0x1000000, 1, 4, 1, [⟨31, 16, .rc, .lit 0, .any⟩, ⟨15, 0, .rc, .lit 0, .any⟩]⟩,
  -- SLK_CNT5
  ⟨0x4c044, 0x1000000, 1, 4, 1, [⟨31, 16, .rc, .lit 0, .any⟩, ⟨15, 0, .rc, .lit 0, .any⟩]⟩,
  -- SLK_LIC
  ⟨0x4c048, 0x1000000, 1, 4, 1, [⟨31, 30, .ro, .lit 0, .any⟩, ⟨3, 0, .ro, .lit 0, .any⟩]⟩,
  -- SLK_RXPTR
  ⟨0x4c04c, 0x1000000, 1, 4, 1, [⟨31, 24, .rc, .lit 0, .any⟩, ⟨19, 16, .ro, .lit 0, .any⟩, ⟨10, 8, .ro, .lit 0, .any⟩, ⟨2, 0, .rw, .lit 0, .any⟩]⟩,
  -- SLK_HOPCTL
  ⟨0x4c050, 0x1000000, 1, 4, 1, [⟨22, 16, .rw, .lit 1, .ur 1 64⟩, ⟨5, 0, .rw, .lit 0, .any⟩]⟩,
  -- SLK_DUTY
  ⟨0x4c060, 0x1000000, 1, 4, 8, [⟨31, 0, .ro, .lit 0, .any⟩]⟩,
  -- SLK_CH
  ⟨0x4c100, 0x1000000, 1, 4, 128, [⟨31, 31, .ro, .lit 0, .any⟩, ⟨19, 0, .rw, .lit 0, .any⟩]⟩,
  -- SLK_HOP
  ⟨0x4c300, 0x1000000, 1, 4, 64, [⟨6, 0, .rw, .lit 0, .any⟩]⟩,
  -- SLK_TXD
  ⟨0x4d000, 0x1000000, 1, 4, 64, [⟨31, 0, .rw, .lit 0, .any⟩]⟩,
  -- SLK_RX
  ⟨0x4e000, 0x200, 8, 4, 128, [⟨31, 0, .ro, .lit 0, .any⟩]⟩]

/-- The registers of block CAL (spec chapter 20). -/
def regsCal : List RegDesc := [
  -- CAL_REFUSE
  ⟨0x50000, 0x1000000, 1, 4, 1, [⟨31, 28, .ro, .lit 0, .any⟩, ⟨15, 0, .rc, .lit 0, .any⟩]⟩,
  -- CAL_CFG
  ⟨0x50004, 0x1000000, 1, 4, 1, [⟨20, 16, .rw, .lit 4, .ur 1 20⟩, ⟨15, 0, .rw, .lit 100, .ur 1 36000⟩]⟩,
  -- CAL_AUTO
  ⟨0x50008, 0x1000000, 1, 4, 1, [⟨4, 0, .rw, .lit 31, .any⟩]⟩,
  -- CAL_CMD
  ⟨0x5000c, 0x1000000, 1, 4, 1, [⟨31, 28, .wo, .lit 0, .any⟩, ⟨2, 0, .wo, .lit 0, .any⟩]⟩,
  -- CAL_IMG_CMD
  ⟨0x50010, 0x1000000, 1, 4, 1, [⟨1, 1, .wo, .lit 0, .any⟩, ⟨0, 0, .wo, .lit 0, .any⟩]⟩,
  -- CAL_IMG_STAT
  ⟨0x50014, 0x1000000, 1, 4, 1, [⟨31, 31, .ro, .lit 0, .any⟩, ⟨30, 29, .ro, .lit 0, .any⟩, ⟨28, 28, .ro, .lit 0, .any⟩, ⟨27, 24, .ro, .lit 0, .any⟩, ⟨23, 20, .ro, .lit 0, .any⟩, ⟨13, 8, .ro, .lit 0, .any⟩, ⟨5, 0, .ro, .lit 0, .any⟩]⟩,
  -- CAL_IMG_GEN
  ⟨0x50018, 0x1000000, 1, 4, 1, [⟨31, 0, .rw, .lit 0, .any⟩]⟩,
  -- CALn_STAT
  ⟨0x50100, 0x20, 6, 4, 1, [⟨31, 30, .ro, .lit 0, .any⟩, ⟨29, 29, .ro, .lit 0, .any⟩, ⟨28, 28, .ro, .lit 0, .any⟩, ⟨27, 26, .ro, .lit 0, .any⟩, ⟨25, 23, .ro, .lit 0, .any⟩, ⟨9, 0, .ro, .lit 512, .any⟩]⟩,
  -- CALn_CNT
  ⟨0x50104, 0x20, 6, 4, 1, [⟨31, 16, .rc, .lit 0, .any⟩, ⟨15, 0, .rc, .lit 0, .any⟩]⟩,
  -- CALn_TS_LO
  ⟨0x50108, 0x20, 6, 4, 1, [⟨31, 0, .ro, .lit 0, .any⟩]⟩,
  -- CALn_TS_HI
  ⟨0x5010c, 0x20, 6, 4, 1, [⟨31, 0, .ro, .lit 0, .any⟩]⟩]

/-- The registers of block SEC (spec chapter 21). -/
def regsSec : List RegDesc := [
  -- SEC_REFUSE
  ⟨0x58000, 0x1000000, 1, 4, 1, [⟨31, 28, .ro, .lit 0, .any⟩, ⟨15, 0, .rc, .lit 0, .any⟩]⟩,
  -- SEC_STAT
  ⟨0x58004, 0x1000000, 1, 4, 1, [⟨31, 31, .ro, .lit 0, .any⟩, ⟨10, 8, .ro, .lit 0, .any⟩, ⟨2, 0, .ro, .lit 0, .any⟩]⟩,
  -- SEC_SV
  ⟨0x58008, 0x1000000, 1, 4, 1, [⟨30, 24, .ro, .lit 0, .any⟩, ⟨22, 16, .ro, .lit 0, .any⟩, ⟨14, 8, .ro, .lit 0, .any⟩, ⟨6, 0, .ro, .lit 0, .any⟩]⟩,
  -- SEC_DEVID_LO
  ⟨0x5800c, 0x1000000, 1, 4, 1, [⟨31, 0, .ro, .lit 0, .any⟩]⟩,
  -- SEC_DEVID_HI
  ⟨0x58010, 0x1000000, 1, 4, 1, [⟨31, 0, .ro, .lit 0, .any⟩]⟩,
  -- SEC_SLOT
  ⟨0x58014, 0x1000000, 1, 4, 1, [⟨31, 31, .ro, .lit 0, .any⟩, ⟨7, 0, .ro, .lit 0, .any⟩]⟩,
  -- SEC_TSEQ
  ⟨0x58018, 0x1000000, 1, 4, 1, [⟨31, 0, .ro, .lit 0, .any⟩]⟩,
  -- SEC_CMD
  ⟨0x5801c, 0x1000000, 1, 4, 1, [⟨31, 28, .wo, .lit 0, .any⟩, ⟨7, 0, .wo, .lit 0, .any⟩]⟩,
  -- SEC_RES
  ⟨0x58020, 0x1000000, 1, 4, 1, [⟨31, 31, .ro, .lit 0, .any⟩, ⟨30, 28, .ro, .lit 0, .any⟩, ⟨27, 24, .ro, .lit 0, .any⟩]⟩,
  -- SEC_NVLEN
  ⟨0x58024, 0x1000000, 1, 4, 1, [⟨16, 0, .rw, .lit 0, .ur 0 65536⟩]⟩,
  -- SEC_LEAF
  ⟨0x58028, 0x1000000, 1, 4, 1, [⟨30, 0, .ro, .lit 0, .any⟩]⟩,
  -- SEC_ATT
  ⟨0x5802c, 0x1000000, 1, 4, 1, [⟨31, 16, .rc, .lit 0, .any⟩, ⟨4, 0, .ro, .lit 16, .any⟩]⟩,
  -- SEC_NV
  ⟨0x58030, 0x1000000, 1, 4, 1, [⟨31, 16, .rc, .lit 0, .any⟩, ⟨15, 0, .rc, .lit 0, .any⟩]⟩]

/-- The registers of block REL (spec chapter 22). -/
def regsRel : List RegDesc := [
  -- REL_REFUSE
  ⟨0x60000, 0x1000000, 1, 4, 1, [⟨31, 28, .ro, .lit 0, .any⟩, ⟨15, 0, .rc, .lit 0, .any⟩]⟩,
  -- REL_STAT
  ⟨0x60004, 0x1000000, 1, 4, 1, [⟨31, 31, .ro, .lit 0, .any⟩, ⟨19, 16, .ro, .lit 8, .any⟩, ⟨15, 8, .ro, .lit 0, .any⟩]⟩,
  -- REL_PODFLT
  ⟨0x60008, 0x1000000, 1, 4, 1, [⟨31, 29, .ro, .lit 0, .any⟩, ⟨19, 12, .ro, .lit 0, .any⟩, ⟨8, 0, .ro, .lit 0, .any⟩]⟩,
  -- REL_CNT0
  ⟨0x6000c, 0x1000000, 1, 4, 1, [⟨31, 16, .rc, .lit 0, .any⟩, ⟨15, 0, .rc, .lit 0, .any⟩]⟩,
  -- REL_CNT1
  ⟨0x60010, 0x1000000, 1, 4, 1, [⟨31, 16, .rc, .lit 0, .any⟩, ⟨15, 0, .rc, .lit 0, .any⟩]⟩,
  -- REL_JRN
  ⟨0x60014, 0x1000000, 1, 4, 1, [⟨31, 31, .ro, .lit 0, .any⟩, ⟨15, 0, .rc, .lit 0, .any⟩]⟩,
  -- REL_REMAP_LO
  ⟨0x60018, 0x1000000, 1, 4, 1, [⟨31, 0, .ro, .lit 0, .any⟩]⟩,
  -- REL_REMAP_HI
  ⟨0x6001c, 0x1000000, 1, 4, 1, [⟨31, 0, .ro, .lit 0, .any⟩]⟩,
  -- REL_GAP
  ⟨0x60020, 0x1000000, 1, 4, 1, [⟨31, 0, .ro, .lit 0, .any⟩]⟩,
  -- REL_WEAR_LO
  ⟨0x60024, 0x1000000, 1, 4, 1, [⟨31, 0, .ro, .lit 0, .any⟩]⟩,
  -- REL_WEAR_HI
  ⟨0x60028, 0x1000000, 1, 4, 1, [⟨31, 0, .ro, .lit 0, .any⟩]⟩,
  -- REL_INJECT
  ⟨0x6002c, 0x1000000, 1, 4, 1, [⟨31, 30, .wo, .lit 0, .any⟩, ⟨7, 0, .wo, .lit 0, .any⟩]⟩]

/-- The registers of block OBS (spec chapter 22). -/
def regsObs : List RegDesc := [
  -- OBS_REFUSE
  ⟨0x68000, 0x1000000, 1, 4, 1, [⟨31, 28, .ro, .lit 0, .any⟩, ⟨15, 0, .rc, .lit 0, .any⟩]⟩,
  -- OBS_CTL
  ⟨0x68004, 0x1000000, 1, 4, 1, [⟨31, 31, .rw, .lit 0, .any⟩, ⟨30, 30, .rw, .lit 1, .any⟩, ⟨29, 29, .rw, .lit 0, .any⟩, ⟨3, 0, .rw, .lit 0, .any⟩]⟩,
  -- OBS_TEVT
  ⟨0x68010, 0x1000000, 1, 4, 8, [⟨31, 0, .rw, .lit 0, .any⟩]⟩,
  -- OBS_TBLK
  ⟨0x68030, 0x1000000, 1, 4, 1, [⟨20, 0, .rw, .lit 0, .any⟩]⟩,
  -- OBS_TWP
  ⟨0x68034, 0x1000000, 1, 4, 1, [⟨12, 0, .ro, .lit 0, .any⟩]⟩,
  -- OBS_TLOST
  ⟨0x68038, 0x1000000, 1, 4, 1, [⟨31, 0, .rc, .lit 0, .any⟩]⟩,
  -- OBS_SPILL
  ⟨0x6803c, 0x1000000, 1, 4, 1, [⟨31, 16, .rw, .lit 0, .any⟩, ⟨15, 0, .rw, .lit 0, .any⟩]⟩,
  -- OBS_SNAP
  ⟨0x68040, 0x1000000, 1, 4, 1, [⟨1, 1, .wo, .lit 0, .any⟩, ⟨0, 0, .wo, .lit 0, .any⟩]⟩,
  -- OBS_SNAP_TS_LO
  ⟨0x68044, 0x1000000, 1, 4, 1, [⟨31, 0, .ro, .lit 0, .any⟩]⟩,
  -- OBS_SNAP_TS_HI
  ⟨0x68048, 0x1000000, 1, 4, 1, [⟨31, 0, .ro, .lit 0, .any⟩]⟩,
  -- OBS_CCFG
  ⟨0x69000, 0x1000000, 1, 4, 1024, [⟨31, 30, .rw, .lit 0, .any⟩, ⟨29, 22, .rw, .lit 0, .any⟩, ⟨21, 20, .rw, .lit 0, .any⟩, ⟨9, 0, .rw, .lit 0, .any⟩]⟩,
  -- OBS_CNT_LO
  ⟨0x6a000, 0x1000000, 1, 8, 1024, [⟨31, 0, .ro, .lit 0, .any⟩]⟩,
  -- OBS_CNT_HI
  ⟨0x6a004, 0x1000000, 1, 8, 1024, [⟨31, 0, .ro, .lit 0, .any⟩]⟩]

/-- The registers of block CMP (spec chapter 15). -/
def regsCmp : List RegDesc := [
  -- CMP_KT
  ⟨0x70000, 0x1000000, 1, 4, 256, [⟨7, 0, .ro, .lit 0, .any⟩]⟩,
  -- CMP_CTL
  ⟨0x70400, 0x1000000, 1, 4, 1, [⟨0, 0, .rw, .lit 0, .any⟩]⟩,
  -- CMP_STAT
  ⟨0x70404, 0x1000000, 1, 4, 1, [⟨31, 31, .ro, .lit 0, .any⟩, ⟨3, 0, .ro, .lit 15, .any⟩]⟩,
  -- CMP_REFUSE
  ⟨0x70408, 0x1000000, 1, 4, 1, [⟨31, 28, .ro, .lit 0, .any⟩, ⟨15, 0, .rc, .lit 0, .any⟩]⟩,
  -- CMP_RDSOVF
  ⟨0x7040c, 0x1000000, 1, 4, 1, [⟨31, 24, .rc, .lit 0, .any⟩, ⟨23, 16, .rc, .lit 0, .any⟩, ⟨15, 8, .rc, .lit 0, .any⟩, ⟨7, 0, .rc, .lit 0, .any⟩]⟩,
  -- CMP_CMDCNT
  ⟨0x70410, 0x1000000, 1, 4, 1, [⟨31, 16, .rc, .lit 0, .any⟩, ⟨15, 0, .rc, .lit 0, .any⟩]⟩]

/-- The table of the block that holds native address a (R570). -/
def blockRegs (a : Nat) : List RegDesc :=

  if a < 0x1000 then regsSys else
  if a < 0x2000 then regsEvt else
  if a < 0x3000 then regsClk else
  if a < 0x4000 then regsRfe else
  if a < 0x10000 then regsFab else
  if a < 0x18000 then regsPth else
  if a < 0x20000 then regsDem else
  if a < 0x28000 then regsDab else
  if a < 0x30000 then regsFol else
  if a < 0x34000 then regsMrw else
  if a < 0x38000 then regsSap else
  if a < 0x3c000 then regsNet else
  if a < 0x40000 then regsPci else
  if a < 0x48000 then regsSeq else
  if a < 0x4c000 then regsExc else
  if a < 0x50000 then regsSlk else
  if a < 0x58000 then regsCal else
  if a < 0x60000 then regsSec else
  if a < 0x68000 then regsRel else
  if a < 0x70000 then regsObs else
  if a < 0x80000 then regsCmp else []

end Sys2Proof.Machine
end

