-- ==== Sys2Proof/Machine/Parts.lean ====
section
/-! DEFINITION. The state of each block beside its registers: what the spec names or implies and no register holds.
Every field's default is its value in State.reset; where the spec gives none, the assumption log names the value. -/

namespace Sys2Proof.Machine

/-- The balls the part drives or samples between commands (R40, R44).  In reset every output is high-impedance or held
low and DAC_P/N is muted. -/
structure Pins where
  dacMuted : Bool := true
  paVdd : Bool := false
  paBias : Bool := false
  paRf : Bool := false
  irqLow : Bool := false
  ppsOut : Bool := false
  vid : Option Nat := none
  qspi : Bool := false
  slAsw : Bool := false
  slFemTx : Bool := false
  slFemRx : Bool := false
  slReq : Bool := false
  slPri : Bool := false
  /-- Level of PA_FAULT_N after the filter of R46: true is high, no fault. -/
  paFaultN : Bool := true
  /-- Level of SL_GNT. -/
  slGnt : Bool := false
  /-- Level of PERST_N. -/
  perstN : Bool := false
  deriving DecidableEq, Repr

/-- Supplies and reset (R51 to R59). -/
structure Power where
  /-- The internal reset is in force (state RESET of R65). -/
  inReset : Bool := true
  railsOk : Bool := false
  /-- Power-on timing has completed: 2 ms after every rail passed its threshold (R54). -/
  porDone : Bool := false
  /-- A thermal trip holds the part in reset (R59), until RESET_N has been pulsed low. -/
  tripHold : Bool := false
  /-- After a thermal trip, every sensor must read below 105 °C before the reset ends (R59). -/
  hot : Bool := false
  /-- The last readings of TS0 to TS7 in quarter degrees (R58). -/
  temps : List Int := []
  /-- The PCIe endpoint answers configuration requests (R68). -/
  pcieAnswers : Bool := false
  deriving DecidableEq, Repr

/-- Where the boot ROM and the negotiation stand (R65 to R85). -/
structure Boot where
  straps : Straps := ⟨false, 0, 0⟩
  /-- The next directory copy to read, 0 or 1; 2 once a directory is in use or both have failed. -/
  dirNext : Nat := 0
  dirBlank : Bool := false
  dirTimeout : Bool := false
  /-- Offsets of the entry in use: firmware primary and alternate, bitstream primary and alternate (R69). -/
  entry : List Nat := []
  /-- The firmware attempt: 0 primary, 1 alternate. -/
  fwTry : Nat := 0
  bsTry : Nat := 0
  /-- A PCIe load is running (R74). -/
  hostLoad : Bool := false
  fw : Option FwHdr := none
  fwKey : SigBlock := ⟨false, 0, 0, false, 0, false⟩
  /-- The bitstream that is being or has been configured. -/
  bs : Option BsHdr := none
  bsKey : SigBlock := ⟨false, 0, 0, false, 0, false⟩
  /-- The fabric is being configured (R70 step 6). -/
  configuring : Bool := false
  refDone : Bool := false
  /-- Byte offset in the firmware region of Marrow at which the verified bitstream lies (R70, R163). -/
  bsAt : Nat := 0
  /-- The accepted set taken by a lock in progress, with the ring conditions of R28 judged at its serialisation
  point: audio ring, baseband ring and snapshot region each of 1 GiB or more (R81). -/
  lock : Option (Nat × Bool × Bool × Bool) := none
  /-- FEAT_ACCEPT as the lock in progress found it. -/
  lockAsk : Nat := 0
  /-- Bit 17 has been rejected by a lock (R84). -/
  ktRejected : Bool := false
  deriving DecidableEq, Repr

/-- The host bus (R363 to R372). -/
structure HostBus where
  /-- The hold register: register address, and the bytes written of its low half, even byte first. -/
  hold : Option (Nat × Option Nat × Option Nat) := none
  /-- The read latch: register address and high half. -/
  latch : Option (Nat × Nat) := none
  /-- The posted-write queue, oldest first. -/
  queue : List (Nat × Word) := []
  /-- The halfword the last answered read cycle drove. -/
  rdata : Nat := 0
  deriving DecidableEq, Repr

/-- Coalescing of one group on one route (R378). -/
structure Coal where
  pending : Bool := false
  count : Nat := 0
  since : Nat := 0
  released : Bool := false
  deriving DecidableEq, Repr

/-- One trace record (R566). -/
structure TraceRec where
  ts : Nat
  kind : Nat
  info : Nat
  src : Nat
  data : Nat
  deriving DecidableEq, Repr

/-- Sprout (R564 to R567): live counters, the trace ring by record index, and its fill. -/
structure Obs where
  cnt : List (Nat × Nat) := []
  ring : List (Nat × TraceRec) := []
  fill : Nat := 0
  lost : Nat := 0
  spillWp : Nat := 0
  deriving DecidableEq, Repr

/-- The full-band snapshot writer beside its registers (R292, R293): the boundary at which writing starts, the block
boundary T_end at which it stops, and the number of the next interval to write. -/
structure Snapshot where
  start : Nat := 0
  tEnd : Nat := 0
  /-- t_g + POST, from which T_end is the next block boundary. -/
  endFrom : Nat := 0
  /-- Block intervals taken of the input, or of ANT_A; and of ANT_B where both are. -/
  next : Nat := 0
  nextB : Nat := 0
  src : Nat := 0
  deriving DecidableEq, Repr

/-- What the PA sequence does at its next timer (R467 to R469): nothing, raise the supply, the bias or the RF enable,
drop the bias or the supply on the way to OFF, or drop them in FAULT. -/
inductive ExcStep where
  | none | vddUp | biasUp | rfUp | biasDown | vddDown | faultBias | faultVdd
  deriving DecidableEq, Repr

/-- An entry of the licence record (R477): carrier in hertz, kind (1 FM, 2 DAB), MAXP in 0.1 dBm, MAXDEV in 0.1 kHz, and
the template points: offset in kHz and limit in dBc. -/
structure LicEntry where
  hz : Nat
  kind : Nat
  maxp : Int
  maxdev : Nat
  pts : List (Nat × Int)
  deriving DecidableEq, Repr

/-- The VALID licence record in force (R477, R478): its sequence number, its entries and the bytes of its service-link
section. -/
structure Licence where
  seq : Nat
  entries : List LicEntry
  sl : List Byte
  deriving DecidableEq, Repr

/-- A value that moves linearly over the metric window that begins at an instant (R209, R211). -/
structure Ramp where
  at_ : Nat
  from_ : Rat
  to_ : Rat
  deriving DecidableEq, Repr

/-- A transmission frame that an exciter group sends (R463): SYSCNT at the start of its null symbol, the FIBs as received,
and each sub-channel of the organisation in force with the decoded logical frames that the frame carries. -/
structure DabSend where
  at_ : Nat
  fibs : List (List Nat)
  subs : List (SubCh × List (List Nat))
  deriving DecidableEq, Repr

/-- A lane of the exciter beside its registers (R461 to R476). -/
structure Lane where
  /-- The gain the power loop last set, in 0.1 dB; none before the lane was first driven. -/
  gain : Option Int := none
  /-- A disable is ramping the lane down (R473). -/
  down : Bool := false
  /-- Consecutive valid windows with emission above the template (R479). -/
  tplRun : Nat := 0
  /-- RDS groups that wait, oldest first, and the last one sent (R462). -/
  rdsq : List (List Nat) := []
  rdsLast : Option (List Nat) := none
  /-- The last sample sent, whether a gap precedes the next block (R465), and the last block with its sending instant. -/
  lastL : Int := 0
  lastR : Int := 0
  gap : Bool := false
  sent : Option (Nat × List Int) := none
  /-- The blocks of the content source that wait to be sent, oldest first (R464). -/
  content : List Block := []
  /-- SYSCNT at which the last RDS group began (R462). -/
  rdsAt : Nat := 0
  /-- The last frame of the group in DAB mode (R463). -/
  dab : Option DabSend := none
  /-- The ramp the drive follows over RAMP_MS (R467, R468, R473). -/
  drive : Ramp := ⟨0, 0, 0⟩
  /-- The last input and output of the pre-emphasis, for each channel (R461). -/
  preL : Int × Int := (0, 0)
  preR : Int × Int := (0, 0)
  /-- The pre-emphasised samples of the last two blocks with their sending instants: left, right (R461). -/
  fed : List (Nat × Int × Int) := []
  /-- The phase of the FM signal at the 256 kS/s instants of the last two blocks, in units of 2^-23 / 256,000 turns
  (R461). -/
  wave : List (Nat × Nat) := []
  deriving DecidableEq, Repr

/-- The pre-distorter (R482 to R484): coefficient parts that are not those of the identity model, by 2 × index, plus 1
for the imaginary part; the last converged model, if any; consecutive updates below and above the thresholds; whether
it has converged since its last reset, whether it has been updated, and whether it is suspended. -/
structure Dpd where
  coefs : List (Nat × Nat) := []
  saved : Option (List (Nat × Nat)) := none
  good : Nat := 0
  bad : Nat := 0
  converged : Bool := false
  updated : Bool := false
  suspended : Bool := false
  deriving DecidableEq, Repr

/-- The exciter beside its registers (R466 to R484). -/
structure Exciter where
  step : ExcStep := .none
  /-- The earliest instant of the step. -/
  due : Nat := 0
  /-- An UNKEY is running the sequence down (R468). -/
  down : Bool := false
  /-- HELD was entered by SPLL loss, so AUTOKEY may key (R471). -/
  heldBySpll : Bool := false
  /-- The balls are low after a fault, and a CLEAR has been accepted meanwhile (R469). -/
  faultDone : Bool := false
  clearAsked : Bool := false
  lanes : List (Nat × Lane) := []
  lic : Option Licence := none
  dpd : Dpd := {}
  /-- SYSCNT up to which the composite has been checked against full scale (R460). -/
  clipTo : Nat := 0
  /-- The last ORX block carried STALE, CLK_SUSPECT or OVR, and SYSCNT after the last one that did (R479, R484). -/
  orxBad : Bool := false
  orxBadTo : Nat := 0
  deriving DecidableEq, Repr

/-- A calibration 0 to 4 beside its registers (R514 to R521). -/
structure Cal where
  /-- What made the request: 0 none, 1 start-up, 2 temperature or retry, 3 command; and when. -/
  src : Nat := 0
  asked : Nat := 0
  /-- A start-up or temperature request was rejected, so that a new one follows (R517). -/
  retry : Bool := false
  /-- The STALE span: it is open from spanFrom, or ran from there to spanTo (R520). -/
  spanOpen : Bool := false
  spanFrom : Nat := 0
  spanTo : Nat := 0
  /-- Qualifying windows of an IL run (R516). -/
  windows : Nat := 0
  /-- A result has passed R521 and takes effect at this boundary: its trims and, for LOOP, its delay in ps. -/
  ta : Option Nat := none
  new : List Byte := []
  newDelay : Int := 0
  /-- The trims in force, t_a of the first application since the internal reset, and LOOP's last delay. -/
  trims : List Byte := []
  firstAt : Option Nat := none
  delay : Option Int := none
  deriving DecidableEq, Repr

/-- A service-link channel entry (R489, R515): whether it is filled and stale, the channel's KHZ and TS1 in quarter
degrees when it was filled, and its trims. -/
structure SlEntry where
  filled : Bool := false
  stale : Bool := false
  khz : Nat := 0
  temp : Int := 0
  trims : List Byte := []
  deriving DecidableEq, Repr

/-- A band of the service-link section of the licence record (R506). -/
structure SlBand where
  flo : Nat
  fhi : Nat
  maxp : Int
  duty : Nat
  maxtx : Nat
  lbt : Int
  lbtT : Nat
  deriving DecidableEq, Repr

/-- A packet being received (R500 to R503): its channel, aerial, frozen gain step, power and offset, whether it was
captured; the sync word's instant, flags and correlation once found; and LEN and CFG once the header is decoded. -/
structure SlRx where
  ch : Nat
  aerial : Bool
  gain : Nat
  rssi : Int
  foff : Int
  captured : Bool
  /-- SYSCNT at the detection (R502). -/
  at_ : Nat := 0
  ts : Option Nat := none
  flags : Nat := 0
  rho : Nat := 0
  hdr : Option (Nat × Nat) := none
  deriving DecidableEq, Repr

/-- The service link beside its registers (R487 to R510). -/
structure Slk where
  /-- The state to enter once locked (0 OFF, 2 STANDBY, 3 LISTEN) and the bounds on powering up, locking and
  calibrating, as SYSCNT. -/
  goal : Nat := 0
  powerBy : Nat := 0
  lockBy : Nat := 0
  calBy : Nat := 0
  /-- The channel that SL_CAL or a background calibration is calibrating. -/
  cal : Option Nat := none
  /-- The synthesiser's N and F and the dither register, reloaded at each lock (R488). -/
  n : Nat := 0
  f : Nat := 0
  lfsr : Nat := 0
  /-- SYSCNT at the last lock. -/
  lockAt : Nat := 0
  entries : List (Nat × SlEntry) := []
  /-- Consecutive calibration failures, and their channel (R522). -/
  failCh : Nat := 0
  fails : Nat := 0
  /-- A STANDBY, RX or CAL command that waits for a background calibration: OP, channel, HOP (R509). -/
  waiting : Option (Nat × Nat × Bool) := none
  rx : Option SlRx := none
  /-- The reception and the transmission in progress were commanded with HOP = 1 (R510). -/
  rxHop : Bool := false
  txHop : Bool := false
  /-- Where a transmission in TXWAIT stands (R505): 0 none, 1 lock and reception, 2 listen-before-talk, 3 grant; its
  channel, band and airtime in half microseconds; the rise of SL_REQ; the first chip's instant. -/
  wait : Nat := 0
  txCh : Nat := 0
  txAir : Nat := 0
  reqAt : Nat := 0
  txAt : Nat := 0
  /-- SYSCNT at which listen-before-talk has listened for its time (R505). -/
  lbtBy : Nat := 0
  /-- The aerial of the last stored packet, and SYSCNT at the last packet end. -/
  lastAnt : Bool := false
  endAt : Option Nat := none
  /-- The bands in force, and for each the airtime of its 1 s bins in half microseconds, latest first (R506, R507). -/
  bands : List SlBand := []
  bins : List (List Nat) := []
  /-- The bytes last sent after the sync word, whitened (R497, R498). -/
  sent : List Nat := []
  /-- The phase of each symbol of the packet last sent, in quarter turns, preamble first (R495 to R497). -/
  symbols : List Nat := []
  deriving DecidableEq, Repr

/-- OTP (R535): the bytes of its 2,048 that are not 0, by offset.  At first a blank part whose FCRC is right
(notes/assumptions/7.md). -/
structure Otp where
  bytes : List (Nat × Byte) := [(2044, 0xCA), (2045, 0xC6), (2046, 0x88), (2047, 0x99)]
  deriving DecidableEq, Repr

/-- An area of an NV record (R547): blank, written but not valid, or valid; its generation and payload. -/
structure NvArea where
  written : Bool := false
  valid : Bool := false
  gen : Nat := 0
  data : List Byte := []
  deriving DecidableEq, Repr

/-- The two areas of an NV record (R546). -/
structure NvRec where
  a : NvArea := {}
  b : NvArea := {}
  deriving DecidableEq, Repr

/-- The security block beside its registers (R533 to R554).  OTP and the NV store keep their contents through resets. -/
structure Sec where
  otp : Otp := {}
  nv : List (Nat × NvRec) := []
  /-- The licence record's signature verifies under the key it carries (R545). -/
  licSig : Bool := false
  /-- SYSCNT at the last token that the attestation bucket gained (R551). -/
  refillAt : Nat := 0
  deriving DecidableEq, Repr

/-- A run of consecutive sample instants from lo to hi, both included, with the flags it carries. -/
structure Span where
  lo : Nat
  hi : Nat
  flags : Nat
  deriving DecidableEq, Repr

/-- A logical pod beside its registers (R149 to R157, R555 to R559). -/
structure Pod where
  /-- What moves it: 0 nothing, 1 FAB_CMD ISOLATE, 2 RESTORE, 3 remap onto a spare, 4 reload in place, 5 partial
  reconfiguration, 6 its rollback. -/
  why : Nat := 0
  /-- SYSCNT at its entry to ACTIVE, at its last fault, and when it was loaded. -/
  activeAt : Nat := 0
  faultAt : Nat := 0
  loadedAt : Option Nat := none
  /-- The replay of R558 supplied its history. -/
  replayed : Bool := true
  /-- The spare being loaded; SYSCNT at the return from a reload in place; left ISOLATED by R556; waiting for another
  remap to end (R561). -/
  spare : Option Nat := none
  backAt : Option Nat := none
  left : Bool := false
  wait : Bool := false
  /-- An abandonment has been seen in this pace window; a pace window has completed (R142, R144). -/
  dropSeen : Bool := false
  paced : Bool := false
  /-- SYSCNT at its entry to DRAINING (R152). -/
  drainAt : Nat := 0
  /-- Its reload image where a partial reconfiguration has replaced that of the full bitstream (R165), and whether a frame
  of the image has failed its PCRC (R163). -/
  image : Option (List FrameRec) := none
  badImage : Bool := false
  deriving DecidableEq, Repr

/-- A partial reconfiguration in progress (R165, R166): its header and the file as it was verified, its pods, the pods
that were ISOLATED at CHECK, and the pod of it that has faulted. -/
structure Partial where
  hdr : BsHdr
  file : BsFile
  pods : List Nat
  iso : List Nat
  faulted : Option Nat := none
  deriving DecidableEq, Repr

/-- The fabric beside its registers. -/
structure Fabric where
  pods : List (Nat × Pod) := []
  /-- The last pace window was below WARN; windows counted towards a step down of AVS (R147, R148). -/
  paceLow : Bool := false
  good : Nat := 0
  /-- The staging area of the load port (R164). -/
  stage : List Byte := []
  pr : Option Partial := none
  /-- The instants at which slots, decoders, programmes and lanes took VOID tokens, with MAP kind and instance (R143). -/
  voids : List (Nat × Nat × Span) := []
  /-- The blocks abandoned at their deadlines and still due: MAP kind, instance, release instant (R142). -/
  lost : List (Nat × Nat × Nat) := []
  /-- SYSCNT at the last checkpoint (R558), and equivalent seconds at 95 °C in units of 2^-32 s (R563). -/
  ckptAt : Nat := 0
  wear : Nat := 0
  deriving DecidableEq, Repr

/-- The sample PLL beside its registers (R95 to R110). -/
structure Clock where
  /-- The active copies of SPLL_N, SPLL_F and SPLL_DSEED (R97): INT, MOD, NUM, SEED. -/
  int : Nat := 314
  mod : Nat := 625
  num : Nat := 358
  seed : Nat := 0xA53C96
  /-- The 24-bit LFSR reloaded from SEED (R98, R99), and SYSCNT at the comparison that left it so. -/
  lfsr : Nat := 0xA53C96
  lfsrAt : Nat := 0
  /-- The active copy of DITHER (R97, R99). -/
  dither : Bool := true
  /-- What an accepted COMMIT checked and its comparison will activate: INT, NUM, MOD, SEED, DITHER (R98). -/
  commit : Option (Nat × Nat × Nat × Nat × Bool) := none
  /-- The nominal frequency last found on REF_IN: 0 none, 1 10 MHz, 2 25 MHz, 3 100 MHz (R91). -/
  refDet : Nat := 0
  /-- The SPLL follows the selected reference (REF_IN or PTP) rather than the HK crystal (R95). -/
  follows : Bool := false
  /-- SYSCNT at which LOCKED or SLEWING was last entered (R103). -/
  lockedAt : Nat := 0
  /-- The phase offset still to close by slewing, in ticks (R107). -/
  slew : Int := 0
  /-- The SYSCNT instants from which blocks carry CLK_SUSPECT while out of lock (R103). -/
  suspectFrom : Nat := 0
  /-- Programmes that have faded to zero since the loss of lock (R104). -/
  faded : List Nat := []
  /-- Counts the events after which an AES67 sender takes its timestamp anew: a STEP, a KEEP anchor move, the first
  setting of VALID (R337). -/
  epoch : Nat := 0
  /-- Milliseconds of REF_IN presence counted towards REF_QUAL_MS (R107). -/
  refMs : Nat := 0
  /-- The frequencies of REF_IN in millihertz against the HK crystal over the last 1,000 windows in which it was present,
  latest first (R91, R105). -/
  windows : List Nat := []
  /-- The values the servo gave SPLL_DCO.ADJ in the last second, each with its instant, latest first (R105). -/
  adjs : List (Nat × Int) := []
  /-- SYSCNT modulo 64 at the boundaries of the ADC blocks: 0 until a STEP moves the count under the running blocks
  (R128). -/
  blockPhase : Nat := 0
  deriving DecidableEq, Repr

/-- An ADC block (R127): its header fields and its 64 samples as 14-bit codes. -/
structure AdcBlock where
  ts : Nat
  flags : Nat
  src : Nat
  gain : Nat
  sub0 : Nat
  clips : Nat
  seq : Nat
  samples : List Nat
  deriving DecidableEq, Repr

/-- A gain state of an input: the LNA is in, and the attenuator code (R120). -/
structure Gain where
  lna : Bool
  att : Nat
  deriving DecidableEq, Repr

/-- What the detectors and the power meter of an input have taken of the window in progress (R124): its clipped samples,
the largest magnitude, the sum of the squares and the number of samples. -/
structure Overload where
  clips : Nat := 0
  peak : Nat := 0
  sum : Nat := 0
  count : Nat := 0
  deriving DecidableEq, Repr

/-- One aerial input beside its registers (R120 to R135). -/
structure Input where
  /-- The last window was a clip window, or a peak window (R124). -/
  clipPrev : Bool := false
  peakPrev : Bool := false
  /-- Windows since the last clip window, 10 or more where there has been none (R516); and whether a block of the window
  in progress carried GAIN_CHG or STALE. -/
  cleanWindows : Nat := 10
  winBad : Bool := false
  ovl : Overload := {}
  /-- The block boundary an APPLY waits for (R120). -/
  boundary : Nat := 0
  /-- The gain state before the changes listed, and the changes of the recent past with the instants at which they took
  effect, latest first (R127, R129).  ORX has no LNA. -/
  gain0 : Gain := ⟨true, 12⟩
  gains : List (Nat × Gain) := []
  /-- SYSCNT at the first sample of the next block (R128). -/
  next : Nat := 0
  /-- The next block sequence number and sub-ADC (R127). -/
  seq : Nat := 0
  sub : Nat := 0
  /-- The elastic buffer, oldest block first (R133). -/
  buf : List AdcBlock := []
  /-- A block has been read without a discard since the last EBUF_OVR (R133). -/
  cleanRead : Bool := false
  /-- The next block the Leek reads carries DROP (R133). -/
  dropNext : Bool := false
  /-- The blocks the Leek has read in the recent past, latest first, as far back as any chain reaches (R173). -/
  hist : List AdcBlock := []
  /-- The blocks kept for a Leek pod that is being remapped, oldest first (R558). -/
  journal : List AdcBlock := []
  /-- The steps of SYSCNT that the history reaches across, latest first: the count at the first sample after each, and by how
  much it stepped (R107, R178). -/
  steps : List (Nat × Int) := []
  /-- Runs of instants whose blocks the Leek did not get, or at which its outputs are VOID, latest first (R134, R135). -/
  spans : List Span := []
  /-- Runs of blocks with flags that the Leek has read, latest first, over the span of the audio de-interleavers (R233). -/
  marks : List Span := []
  deriving DecidableEq, Repr

/-- What one stack has admitted in its accounting window, in bytes (R297). -/
structure MWindow where
  used : Nat := 0
  used0 : Nat := 0
  used2 : Nat := 0
  deriving DecidableEq, Repr

/-- A Marrow request that waits in a queue or has been admitted and awaits its reply (R282, R297): its number in order
of arrival, its class, when it arrived, whether it was admitted late, and the bytes a read returns. -/
structure MPend where
  id : Nat
  req : MReq
  cls : Nat
  arrived : Nat
  late : Bool := false
  data : List Byte := []
  deriving DecidableEq, Repr

/-- Marrow beside its registers and its bytes (R281 to R301). -/
structure Marrow where
  /-- The active bases and sizes of regions 0 to 4 in units of 64 MiB, and the active CHANS (R283). -/
  act : List (Nat × Nat) := [(0, 128), (128, 128), (256, 192), (448, 32), (480, 32)]
  chans : Nat := 256
  /-- Accounting windows by stack, requests queued, oldest first, and requests admitted, oldest first. -/
  windows : List (Nat × MWindow) := []
  queue : List MPend := []
  out : List MPend := []
  nextId : Nat := 0
  /-- The last reply: request number, code and data (R298). -/
  reply : Option (Nat × Nat × List Byte) := none
  /-- Answers held back for the order of a requester's replies, oldest first: request number, requester, code, data (R282). -/
  held : List (Nat × Nat × Nat × List Byte) := []
  /-- The start of the patrol's pass in progress (R295). -/
  scrubAt : Nat := 0
  /-- Corrections of the last 24 h by 256 × stack + device: their instants, latest first (R294). -/
  fixes : List (Nat × List Nat) := []
  /-- Sources that wait for an audio channel: kind and number (R288). -/
  waiting : List (Nat × Nat) := []
  deriving DecidableEq, Repr

/-- A host coefficient bank (R191, R192): sealed or open, its class and length, and its coefficients by index. -/
structure Bank where
  isSealed : Bool := false
  cls : Nat := 0
  len : Nat := 3
  coefs : List (Nat × Nat) := []
  deriving DecidableEq, Repr

/-- What a path, slot or decoder does at its next change instant (R194, R231, R239). -/
inductive Change where
  | none | start | stop | sync
  deriving DecidableEq, Repr

/-- The records a stream has produced since its start, dropped ones included, and the timestamp of the last (R289). -/
structure Produced where
  n : Nat := 0
  last : Option Nat := none
  deriving DecidableEq, Repr

/-- The moments of a channel block (R214): the sums of |x|² and |x|⁴ over its 64 samples in units of 2^-46 and 2^-92; of
x × e^{-jθ} the sums of the real and of the imaginary parts, and of the squares of the latter; the shifts that the
samples have passed through; and the gain state of the input. -/
structure Moments where
  power : Nat := 0
  fourth : Nat := 0
  re : Int := 0
  im : Int := 0
  im2 : Nat := 0
  shifts : Int := 0
  gain : Gain := ⟨true, 0⟩
  deriving DecidableEq, Repr

/-- A 64-sample block of a path at the output of its channel filter, combined where the path has two sides (R203): its
timestamp, flags, whether a sample of it is missing (R198), its samples, their moments and those of the sides; and what the
demodulator makes of them: the multiplex of R206, the mono and difference lines into FMR, and the line d / C - 1 into
AMR (R212). -/
structure ChanBlock where
  ts : Nat
  flags : Nat
  missing : Bool
  samples : List Cx
  level : Moments := {}
  sides : List (Option Moments) := []
  mpx : List Int := []
  mono : List Int := []
  diff : List Int := []
  mod : List Int := []
  /-- Which of the samples are missing, where some are; all of them where the list is empty. -/
  gone : List Bool := []
  deriving DecidableEq, Repr

/-- A 64-sample block at the preset output, ahead of the resampler (R182). -/
structure PreBlock where
  ts : Nat
  flags : Nat
  missing : Bool
  samples : List Int
  deriving DecidableEq, Repr

/-- The combining state of a diversity path after its last block: α_A, φ in half turns × 2^-23, and whether SELECT changes
its side at the next block, which then begins with a cross-fade (R204). -/
structure Mixer where
  alpha : Option Rat := none
  phi : Int := 0
  fade : Bool := false
  deriving DecidableEq, Repr

/-- The carrier tracker of an AM path (R212): phase, frequency, C, and the gain state of the last sample (R213). -/
structure Carrier where
  theta : Int := 0
  freq : Int := 0
  amp : Int := 0
  gain : Option Gain := none
  deriving DecidableEq, Repr

/-- An ensemble slot beside its registers (R231 to R237). -/
structure Slot where
  change : Change := .none
  due : Nat := 0
  /-- The change that follows a resynchronisation at a later release instant, and its earliest instant (R231). -/
  later : Option (Change × Nat) := none
  /-- The slot was in LOCKED when its stop was deferred. -/
  lockedDefer : Bool := false
  /-- The next record carries DROP (R26). -/
  dropNext : Bool := false
  /-- FIBs received in LOCKED since the start, wrapping; and whether each of the last 96 failed its CRC (R235, R236). -/
  seq : Nat := 0
  last96 : List Bool := []
  /-- Null-symbol starts and CIF counts of the last frames, latest first (R239). -/
  frames : List (Nat × Nat) := []
  /-- The organisation of the multiplex, once read (R238). -/
  org : Option (List SubCh) := none
  /-- The FIBs of the last frame received, with its null-symbol start (R463). -/
  fic : Option (Nat × List (List Nat)) := none
  /-- The CIF of the last sub-channel record and the masks as they stood when it began (R237). -/
  cif : Nat := 5000
  mask : Nat := 0
  /-- The instant of the frame at which lock was last lost (R260). -/
  lostAt : Nat := 0
  /-- The instant up to which bin-block intervals have been judged for ENSs_ERASE; none before the first frame (R233). -/
  erasedTo : Option Nat := none
  deriving DecidableEq, Repr

/-- What Fennel is told of an audio frame of a running decoder (R244): concealed or not, superframes corrected by RS, and
the slot's latest MER and FIBBAD. -/
structure AudioReport where
  concealed : Bool := false
  rs : Nat := 0
  mer : Int := 0
  fibBad : Nat := 0
  deriving DecidableEq, Repr

/-- What a decoder holds of the programme-associated data of its sub-channel (R229): the logical frames of the DAB+
superframe in progress, the last F-PAD, the application type and the length with which X-PAD goes on, the data group and the
segments of the dynamic label in progress with its toggle bit, its last segment and CHARSET, the label, and the latest raw
data group of each other application type. -/
structure Pad where
  frames : List (List Nat) := []
  fpad : Nat × Nat := (0, 0)
  app : Nat := 0
  size : Nat := 0
  group : List Nat := []
  segs : List (Nat × List Nat) := []
  toggle : Nat := 0
  last : Option Nat := none
  charset : Nat := 0
  label : List Nat := []
  raw : List (Nat × List Nat) := []
  deriving DecidableEq, Repr

/-- An audio decoder beside its registers (R238 to R243). -/
structure Decoder where
  change : Change := .none
  due : Nat := 0
  /-- Warm-up samples still to be delivered (R241), and the next block carries DROP (R26). -/
  warmLeft : Nat := 0
  dropNext : Bool := false
  /-- Concealed frames among the last 100 frames and failed superframes among the last 100, latest first (R242). -/
  errs : List Bool := []
  sfs : List Bool := []
  /-- Good frames and superframes that have entered those windows by their release and not yet by a report of a failure;
  negative where a report has come first (notes/assumptions/152.md). -/
  errBal : Int := 0
  sfBal : Int := 0
  /-- What Fennel was last told of a frame (R244). -/
  report : AudioReport := {}
  pad : Pad := {}
  /-- Runs of instants whose decoded audio is concealed, latest first, both ends of a run as instants (R242); and the last
  good sample before the block in progress. -/
  fails : List (Nat × Nat) := []
  lastGood : Int × Int := (0, 0)
  /-- The audio instant of the frame that last brought ERR to 25 (R260). -/
  errFrom : Nat := 0
  /-- The timestamp of the first block since RUNNING was entered (R239, R241). -/
  runAt : Nat := 0
  aud : Produced := {}
  deriving DecidableEq, Repr

/-- A host entry of a candidate list (R279): kind, number, bias. -/
structure HostEntry where
  kind : Nat
  num : Nat
  bias : Int
  deriving DecidableEq, Repr

/-- One direction of a serial audio port (R308, R309): consecutive good frames in SEEK, the last frame start, whether
the BCLK count runs since it, and the 64-frame average: frames and ticks so far, and the ticks recorded at RUN. -/
structure SapDir where
  good : Nat := 0
  last : Option Nat := none
  counting : Bool := false
  frames : Nat := 0
  ticks : Nat := 0
  ticks0 : Nat := 0
  deriving DecidableEq, Repr

/-- A stereo sample queued for an output pair: the instant its latency is measured from, whether it opens a block, and
whether it is sent with V = 1. -/
structure OutSamp where
  due : Nat
  l : Int
  r : Int
  first : Bool := false
  v : Bool := false
  deriving DecidableEq, Repr

/-- One output slot pair (R310 to R314). -/
structure SapPair where
  /-- The source in effect: kind and number. -/
  kind : Nat := 0
  num : Nat := 0
  buf : List OutSamp := []
  /-- The first sample has been chosen, and L of its choice (R311). -/
  started : Bool := false
  l0 : Nat := 0
  /-- Frames of the output block in progress (R312). -/
  inBlock : Nat := 0
  last : OutSamp := ⟨0, 0, 0, false, false⟩
  /-- An underrun runs; a clean block has been sent since the last XRUN (R313). -/
  under : Bool := false
  clean : Bool := true
  /-- The next block delivered rises after a gap (R314), and warm-up samples already sent (R197). -/
  gap : Bool := false
  warm : Nat := 0
  /-- The release instant of the last block handed over. -/
  handed : Option Nat := none
  /-- The port resampler (R190): the last samples put into it, the number of the first of them, and the number of the
  next one it gives. -/
  rsIn : List OutSamp := []
  rsFrom : Nat := 0
  rsNext : Nat := 0
  deriving DecidableEq, Repr

/-- The last block that an output stream released (R23, R26): its release instant, and the block, none where one was due
that had been dropped. -/
structure Released where
  at_ : Option Nat := none
  blk : Option Block := none
  deriving DecidableEq, Repr

/-- A frame the interior tap holds (R317): its stamp, its slots as 24-bit values, and REPEAT. -/
structure TapFrame where
  stamp : Nat
  slots : List Int
  rep : Bool
  deriving DecidableEq, Repr

/-- An open capture record (R319). -/
structure CapRec where
  ts : Nat
  flags : Nat
  frames : Nat
  words : List Nat
  deriving DecidableEq, Repr

/-- A serial audio port beside its registers (R302 to R323). -/
structure Sap where
  out : SapDir := {}
  inp : SapDir := {}
  pairs : List (Nat × SapPair) := []
  /-- Frames of the mute ramp gone through, 0 silent (R315). -/
  ramp : Nat := 0
  /-- What SD_OUT sends: the 32 bits of each slot, in AES3 time slot n at bit n with the preamble by number (0 X, 1 Y,
  2 Z). -/
  sent : List Nat := []
  /-- Frame of the channel-status block, the bytes in force as six words, and an APPLY that waits (R322). -/
  csFrame : Nat := 0
  tcs : List Nat := [0, 0, 0, 0, 0, 0]
  tcsPend : Bool := false
  /-- The interior tap: its buffer, the last slots received and read, whether it runs, the rest of its ramp, and the
  last block it delivered (R317, R318). -/
  tapBuf : List TapFrame := []
  lastIn : List Int := []
  lastWords : List Nat := []
  tapLast : List Int := []
  tapRun : Bool := false
  tapRamp : Nat := 0
  tapL0 : Nat := 0
  tap : Option Block := none
  /-- The input's resampler (R190): the last frames put into it, the number of the first of them, and the number of the
  next one it gives. -/
  rsIn : List TapFrame := []
  rsFrom : Nat := 0
  rsNext : Nat := 0
  /-- The open capture record, and the frames stored for the KT-440 (R319, R321). -/
  cap : Option CapRec := none
  /-- The C bits of channel 1 since the last preamble Z, latest first, and the last block of 192 (R323). -/
  csIn : List Bool := []
  csBlock : Option (List Byte) := none
  deriving DecidableEq, Repr

/-- A candidate (R255 to R268). -/
structure Cand where
  /-- 1 path, 2 decoder, 3 (slot, SubChId) without a decoder. -/
  kind : Nat
  num : Nat
  origin : Nat
  bias : Int := 0
  /-- The (slot, SubChId) number of a DAB candidate that Fennel gave a decoder. -/
  sub : Nat := 0
  /-- The programme time of its unusable point while it is unusable, and SYSCNT when it became so (R260). -/
  bad : Option Nat := none
  badSince : Nat := 0
  /-- SYSCNT since which its identity no longer matches (R256). -/
  lost : Option Nat := none
  /-- The host has taken its entry away (R279). -/
  removed : Bool := false
  inelig : Bool := false
  /-- A measured offset stands; A_c is fixed by it (R249, R265). -/
  aligned : Bool := false
  a : Int := 0
  /-- The last valid measurement while unaligned, and consecutive failures (R265, R266). -/
  okLast : Option Int := none
  fails : Nat := 0
  rho : Nat := 0
  /-- The effective score, exactly as R261 averages it; none before its first value. -/
  e : Option Rat := none
  /-- SYSCNT since which E has been at least HYST above the active source's without a break (R262). -/
  above : Option Nat := none
  /-- Consecutive windows or frames free of every condition of R260. -/
  goodRun : Nat := 0
  /-- G in 0.1 dB, whether it was clamped, and whether a first value was formed (R268). -/
  g : Int := 0
  clamp : Bool := false
  gSet : Bool := false
  /-- The earliest start of its next alignment window, as a source instant, and of its next 10 s of loudness, in programme
  time (R265, R268). -/
  winAt : Nat := 0
  loudAt : Nat := 0
  deriving DecidableEq, Repr

/-- A cross-fade (R269): its kind (1 discretionary, 2 forced), start, the samples not yet formed, the incoming entry,
whether it has been turned back to the outgoing source, its length in samples, and the incoming weight from which it
moves linearly to its survivor over one block (R274). -/
structure Fade where
  kind : Nat
  tx : Nat
  left : Nat
  inc : Nat
  back : Bool := false
  n : Nat := left
  cut : Option Rat := none
  deriving DecidableEq, Repr

/-- A programme beside its registers (R248 to R276). -/
structure Prog where
  cands : List (Nat × Cand) := []
  host : List (Nat × HostEntry) := []
  /-- KIND, BIAS and NUM of entries written with VALID = 0, as FOL_CLIST shows them (R278). -/
  off : List (Nat × Nat) := []
  active : Option Nat := none
  fade : Option Fade := none
  /-- A hard switch decided: its switch point, the incoming entry, and the first block not formed then (R264). -/
  hard : Option (Nat × Nat × Nat) := none
  /-- The output falls to zero at this programme time, over what was not yet formed from the second one on (R276). -/
  mute : Option (Nat × Nat) := none
  /-- t_s of R253. -/
  startAt : Nat := 0
  /-- The timestamp of the next block to form. -/
  nextTs : Nat := 0
  /-- Blocks of the stop ramp still to form (R254). -/
  stopping : Option Nat := none
  /-- Samples of a 20 ms rise still to form, and where the rise begins. -/
  riseLeft : Nat := 0
  riseFrom : Nat := 0
  dropNext : Bool := false
  /-- The last switch point (R262). -/
  lastSw : Option Nat := none
  /-- Blocks not yet released, oldest first, each with its timestamp; none for one dropped (R23, R26). -/
  formed : List (Nat × Option Block) := []
  /-- The bridge of R104: SYSCNT at which it began, and samples of the fade to zero or of the ramp up. -/
  bridgeAt : Option Nat := none
  clkFade : Nat := 0
  clkRise : Nat := 0
  aud : Produced := {}
  deriving DecidableEq, Repr

/-- A pool path (R257): its frequency in Hz, the programmes it was started for, and SYSCNT since which no running
programme needs it. -/
structure PoolPath where
  hz : Nat
  progs : List Nat
  idle : Option Nat := none
  deriving DecidableEq, Repr

/-- Fennel beside its registers. -/
structure Fennel where
  progs : List (Nat × Prog) := []
  pool : List (Nat × PoolPath) := []
  /-- Frequencies not to be tried again: programme, Hz, until when (R257). -/
  retry : List (Nat × Nat × Nat) := []
  /-- Decoders with OWNER = 1 that no programme needs, and since when (R258). -/
  decIdle : List (Nat × Nat) := []
  info : List (Nat × DabInfo) := []
  deriving DecidableEq, Repr

/-- A run of a path from a t_r: the configuration it started with, t_r, the instant at which the run ends, and what its
stages hold (R194, R196). -/
structure Run where
  base : Nat
  stop : Option Nat := none
  /-- PTHn_CTL, BIN, FREQ, PHASE, NUM, DEN, DLY and DSMP as they stood at t_r. -/
  ctl : Nat := 0
  bin : Nat := 0
  freq : Int := 0
  phase : Nat := 0
  num : Nat := 0
  den : Nat := 0
  dly : Nat := 0
  dsmp : Nat := 0
  /-- The number of the next output block. -/
  out : Nat := 0
  /-- The channel blocks of the recent past, latest first, and the instant of the next (R203). -/
  chan : List ChanBlock := []
  chanNext : Nat := 0
  /-- Runs of channel samples with flags, latest first, over the span of an RDS group (R222). -/
  marks : List Span := []
  /-- The blocks at the preset output of the recent past, latest first, and the number of the next. -/
  pre : List PreBlock := []
  preNext : Nat := 0
  /-- The combiner, the side it draws from under SELECT, and for how many blocks the other has led by 3 dB (R204). -/
  mixer : Mixer := {}
  side : Bool := false
  sideRun : Nat := 0
  /-- The sides that the last combined blocks did not draw on, whose DROP the next block of both inherits (R132): bit 0
  ANT_A, bit 1 ANT_B. -/
  owed : Nat := 0
  /-- The host bank the run is bound to (R193). -/
  bank : Option Bank := none
  /-- The carrier tracker and its lock (R212). -/
  carrier : Carrier := {}
  lock : Bool := false
  /-- The phase of the pilot PLL, and the last input and output of the 5 Hz high-pass (R206, R208). -/
  pll : Nat := 0
  hpIn : Int := 0
  hpOut : Int := 0
  /-- The last inputs and outputs of the de-emphasis on the two channels (R210). -/
  deL : Int × Int := (0, 0)
  deR : Int × Int := (0, 0)
  deriving DecidableEq, Repr

/-- A path beside its registers (R194 to R200, R287). -/
structure Path where
  change : Change := .none
  /-- The earliest instant at which the change may take place. -/
  due : Nat := 0
  /-- The change that follows a synchronising reset at a later change instant, and its earliest instant (R194). -/
  later : Option (Change × Nat) := none
  /-- Warm-up samples still to be delivered (R196). -/
  warmLeft : Nat := 0
  /-- The runs whose blocks are not all formed yet, oldest first; the last one is that of the state shown (R194). -/
  runs : List Run := []
  /-- PTHn_SHIFT as the stages use it at first, and the bin-block boundaries from which written values hold, latest first
  (R187). -/
  shift : Nat := 0
  shifts : List (Nat × Nat) := []
  /-- Instants at which the chain took a VOID token (R143), and the wait for a restart after a load without replay, in
  which every block is VOID (R196). -/
  voids : List Span := []
  lost : Bool := false
  /-- Output blocks not yet released, oldest first, each with its release instant; none for one dropped (R23, R26). -/
  formed : List (Nat × Option Block) := []
  /-- Of those that hold warm-up samples, by release instant: the number of the first sample since t_r, and D (R197). -/
  ramps : List (Nat × Nat × Nat) := []
  /-- The next block delivered carries DROP (R198). -/
  dropNext : Bool := false
  /-- The values of the last sample output without STALE (R520). -/
  lastGood : List Int := []
  /-- The path was started by Fennel's pool (R257). -/
  pool : Bool := false
  /-- Ring records produced since the start: baseband and audio (R289). -/
  bb : Produced := {}
  aud : Produced := {}
  deriving DecidableEq, Repr

/-- What a KT-440 tuner's command in progress is (R394). -/
inductive KtCmd where
  | none | tune | seekUp | seekDown | powerDown
  deriving DecidableEq, Repr

/-- What a metric window gives a tuner: RSSI and CNR in tenths of a dB, FOFF in hertz, MPATH, and SEP (R389, R395). -/
structure KtMeas where
  rssi : Int
  cnr : Int
  foff : Int
  mpath : Nat
  sep : Nat
  deriving DecidableEq, Repr

/-- A KT-440 tuner beside its mirror registers (R391 to R399). -/
structure Tuner where
  /-- SEEKCFG in force (R391). -/
  seek : Nat := 0x46
  /-- RSSI, CNR, FOFF, MPATH and SEP of the window that the readings show (R395). -/
  meas : Option KtMeas := none
  cmd : KtCmd := .none
  /-- The instant and the timing column of the command in progress (R395). -/
  t0 : Nat := 0
  accel : Bool := false
  /-- The CMD writes committed at the bus that the personality has still to act on, oldest first: the instant of each and
  the column then (R394, R395). -/
  asked : List (Nat × Bool) := []
  /-- The settings in force (R391): MODE, and whether the tuner is powered. -/
  mode : Nat := 0
  powered : Bool := false
  /-- The frequency in force, in FREQ units, and whether the path awaits its STOP to start on it. -/
  freq : Nat := 0x222E
  retune : Bool := false
  /-- Where a seek started, the raster points it has moved to, and a CANCEL taken during it (R394, R396). -/
  seekFrom : Nat := 0
  steps : Nat := 0
  cancel : Bool := false
  /-- The RDS FIFO: the bytes of each entry still to be read, oldest entry first (R398, R399). -/
  fifo : List (List Nat) := []
  last : Nat := 0
  deriving DecidableEq, Repr

/-- A KT-440 capture buffer (R400). -/
structure Capture where
  wp : Nat := 0
  rp : Nat := 0
  pack4 : Bool := false
  buf : List (Nat × Byte) := []
  deriving DecidableEq, Repr

/-- The KT-440 personality beside its mirror registers (R383 to R403). -/
structure Kt where
  index : Nat := 0
  tuners : List (Nat × Tuner) := []
  caps : List (Nat × Capture) := []
  /-- The byte written to CAPRPL, and CAPWPH as latched by a read of CAPWPL (R388). -/
  rpLow : Nat := 0
  wpHigh : Nat := 0
  deriving DecidableEq, Repr

/-- The metrics of a window, as METRIC_PUBLISH will write them (R214, R217). -/
structure Metrics where
  start : Nat := 0
  flags : Nat := 0
  valid : Bool := false
  warm : Bool := false
  rssi : Int := 0
  cnr : Int := 0
  cnrA : Int := 0
  cnrB : Int := 0
  mpath : Nat := 0
  usn : Int := 0
  foff : Int := 0
  peak : Nat := 0
  pilot : Nat := 0
  deriving DecidableEq, Repr

/-- The demodulator of a path beside its registers (R203 to R225). -/
structure Dem where
  /-- DEMn_CTL as in force from the metric-window boundary ctlFrom on, and as before it (R224). -/
  ctl : Nat := 0
  ctlFrom : Nat := 0
  ctlPrev : Nat := 0
  /-- DEMn_CTL, DEMn_QCFG and DEMn_BLEND as they stood before each write of the recent past, with the write's instant,
  latest first (R224). -/
  before : List (Nat × Nat × Nat × Nat) := []
  /-- Consecutive valid windows towards the other pilot state and towards the other LOST state (R208, R218). -/
  pilotRun : Nat := 0
  lostRun : Nat := 0
  /-- Consecutive invalid windows, the start of the first of them, and that of the first of the windows that set LOST
  (R260). -/
  badRun : Nat := 0
  badFrom : Nat := 0
  lostFrom : Nat := 0
  /-- A window that is not warming up has ended since the start (R216). -/
  warmed : Bool := false
  /-- The earliest start of the next metric window, and the instant up to which earlier windows have counted samples
  (R228). -/
  window : Nat := 0
  counted : Nat := 0
  /-- Windows computed and not yet published, oldest first (R217). -/
  toPublish : List Metrics := []
  /-- Separation and soft mute in dB over the windows of the recent past, latest first (R209, R211). -/
  sep : List Ramp := []
  mute : List Ramp := []
  /-- Class 0 blocks seen out of synchronisation in the last 26 bits (R220). -/
  cand : List RdsBlock := []
  /-- The position the next block takes in its group, and the blocks of the group so far, oldest first. -/
  pos : Nat := 0
  group : List RdsBlock := []
  /-- Whether each of the last 50 and of the last 160 blocks was of class 3, latest first (R220, R221). -/
  last50 : List Bool := []
  last160 : List Bool := []
  /-- The frequencies in hertz of the AF lists received, and those of other networks with their PI (R86, R219). -/
  af : List Nat := []
  eon : List (Nat × Nat) := []
  /-- Groups received in synchronisation since the start (R222). -/
  seq : Nat := 0
  /-- SYSCNT since which RDS_SYNC has been 0 (R223). -/
  unsyncAt : Nat := 0
  /-- The number and the instant of the first bit of the last block received in synchronisation (R220). -/
  bitAt : Option (Nat × Nat) := none
  /-- The segments received of PS and of RT with their two or four characters, the A/B flag of RT, and the texts last handed
  on (R219, R344). -/
  psSeg : List (Nat × List Nat) := []
  rtSeg : List (Nat × List Nat) := []
  rtAb : Nat := 2
  psText : List Nat := []
  rtText : List Nat := []
  deriving DecidableEq, Repr

/-- The PTP port beside its registers (R331 to R335). -/
structure Ptp where
  /-- The parent, with its dataset, and SYSCNT at its last Announce. -/
  parent : Option PtpAnn := none
  /-- A two-step Sync that waits for its Follow_Up. -/
  sync : Option PtpMsg := none
  /-- The last complete Sync: origin timestamp with correction in units of 2^-16 ns, and its ingress stamp. -/
  last : Option (Int × Nat) := none
  /-- SYSCNT at the last accepted Sync, and the parent's Sync interval in ticks. -/
  accAt : Nat := 0
  syncIv : Nat := 0
  /-- The last 16 accepted Syncs, latest first: ingress stamp and time in units of 2^-16 ns. -/
  syncs : List (Nat × Int) := []
  /-- Consecutive accepted Syncs within 1 µs of the line, and consecutive ones off the mapping by more than 1 ms. -/
  run : Nat := 0
  off : Nat := 0
  /-- A Delay_Req on its way: sequence number and egress stamp; the last 8 delays in units of 2^-16 ns, latest first,
  and SYSCNT at the latest one. -/
  req : Option (Nat × Nat) := none
  delays : List Int := []
  delayAt : Nat := 0
  reqSeq : Nat := 0
  /-- As master: what was last sent: 0 Announce, 1 Sync, 2 Follow_Up; its time in ns and sequence number. -/
  sent : Option (Nat × Int × Nat) := none
  syncSeq : Nat := 0
  annSeq : Nat := 0
  /-- The values of the last Announce sent: PRIO1, CLASS, ACCURACY, PRIO2 and timeSource (R334). -/
  ann : List Nat := []
  /-- SYSCNT at the last Announce and the last Sync sent as master. -/
  annAt : Option Nat := none
  syncAt : Option Nat := none
  /-- SYSCNT at which PPS_OUT last rose. -/
  ppsAt : Nat := 0
  /-- SYSCNT at the last entry to SLAVE (R107). -/
  slaveAt : Nat := 0
  deriving DecidableEq, Repr

/-- A sample queued at an AES67 sender: its release instant, its values and the flags of its block. -/
structure NetSamp where
  h : Nat
  l : Int
  r : Int
  flags : Nat
  deriving DecidableEq, Repr

/-- An RTP packet as sent (R336 to R338): sequence number, timestamp, the header extension, the samples,
the SSRC, the destination and its port. -/
structure RtpOut where
  seq : Nat
  ts : Nat
  ext : Option (Nat × Nat)
  samples : List Int
  ssrc : Nat := 0
  dst : Nat := 0
  port : Nat := 0
  deriving DecidableEq, Repr

/-- An AES67 sender beside its registers (R337, R338). -/
structure NetTx where
  buf : List NetSamp := []
  /-- The RTP timestamp of the next sample, with the epoch it was taken in. -/
  rtp : Option (Nat × Nat) := none
  seq : Nat := 0
  /-- The values of the last sample sent, and whether a gap precedes the next block (R314, R338). -/
  lastL : Int := 0
  lastR : Int := 0
  gap : Bool := false
  sent : Option RtpOut := none
  deriving DecidableEq, Repr

/-- An AES67 receiver beside its registers (R340): the SSRC it has locked to, the next sequence number, consecutive
packets in order, and its buffer, run and ramp as the interior tap of R317. -/
structure NetRx where
  ssrc : Option Nat := none
  next : Nat := 0
  good : Nat := 0
  nextTs : Nat := 0
  tap : Sap := {}
  deriving DecidableEq, Repr

/-- What a context packet says of a stream (R342): bandwidth and reference frequency in hertz, the sample rate as a
fraction, the gain in half decibels, and its state: calibrated time, valid data, reference lock. -/
structure VitaCtx where
  bandwidth : Rat
  centre : Rat
  num : Nat
  den : Nat
  gain : Int
  timed : Bool
  valid : Bool
  locked : Bool
  overRange : Bool
  sampleLoss : Bool
  deriving DecidableEq, Repr

/-- An IQ stream beside its registers (R341, R342): the packet count, the words last sent, whether a gap precedes the
next packet, and SYSCNT at the last context packet. -/
structure NetIq where
  count : Nat := 0
  /-- The blocks of the path that wait to be sent, oldest first. -/
  buf : List Block := []
  sent : List Nat := []
  gap : Bool := false
  ctxAt : Option Nat := none
  ctx : Option VitaCtx := none
  deriving DecidableEq, Repr

/-- A packet that waits in an egress queue: its class, its bytes on the wire, when it arrived, its Casrum TYPE where it is
side data, else 0, and its DSCP (R330, R345, R350). -/
structure EgrPkt where
  cls : Nat
  bytes : Nat
  at_ : Nat
  type : Nat
  dscp : Nat := 0
  deriving DecidableEq, Repr

/-- The egress of one port: the packets that wait, oldest first, when the wire becomes free, and the packet last put on it
(R350). -/
structure Egress where
  queue : List EgrPkt := []
  free : Nat := 0
  sent : Option EgrPkt := none
  deriving DecidableEq, Repr

/-- The NET block beside its registers. -/
structure Net where
  ptp : Ptp := {}
  tx : List (Nat × NetTx) := []
  rx : List (Nat × NetRx) := []
  iq : List (Nat × NetIq) := []
  egr : List (Nat × Egress) := []
  /-- Casrum SEQ by destination and TYPE, types whose next packet carries DROP, and the last packet sent: TYPE, SEQ, TXTS, bytes. -/
  casSeq : List (Nat × Nat) := []
  casDrop : List Nat := []
  casSent : Option (Nat × Nat × Nat × List (List Nat)) := none
  /-- The last control reply: SEQ and its records as (STATUS, TAG, ADDR, DATA). -/
  casReply : Option (Nat × List (Nat × Nat × Nat × Nat)) := none
  deriving DecidableEq, Repr

/-- A DMA queue beside its registers (R354 to R358): bytes since the last signal, the instant of the first unsignalled
record, and whether the next record carries DROP. -/
structure Dma where
  since : Nat := 0
  first : Option Nat := none
  dropNext : Bool := false
  /-- SYSCNT at which the queue's oldest record began to wait. -/
  waitFrom : Option Nat := none
  deriving DecidableEq, Repr

/-- A BAR2 line that was refused and is re-issued (R353). -/
structure Bar2Line where
  addr : Nat
  write : Bool
  data : List (Option Byte)
  /-- The instant from which it may be re-issued next. -/
  again : Nat
  first : Nat
  deriving DecidableEq, Repr

/-- The PCIe endpoint beside its registers (R352 to R358): what the last completion returned, the lines refused, and
the bytes last written to the host as (host address, bytes), oldest first. -/
structure Pcie where
  rdata : List Nat := []
  lines : List Bar2Line := []
  toHost : List (Nat × List Nat) := []
  queues : List (Nat × Dma) := []
  deriving DecidableEq, Repr

/-- A segment descriptor (R413): BASE, LIMIT, MODE (0 W32, 1 W24, 2 BYTE, 3 REG) and WP. -/
structure SegDesc where
  base : Nat := 0
  limit : Nat := 0
  mode : Nat := 0
  wp : Bool := false
  deriving DecidableEq, Repr

/-- A register, or a part of one, that an instruction writes (R410, R411): a part 0 to 2 of an accumulator by MTA, a
pointer's offset and its binding, and the fields of SW. -/
inductive IzReg where
  | g (n : Nat) | a (k : Nat) | aPart (k part : Nat) | p (n : Nat) | pb (n : Nat) | sd (n : Nat) | sp
  | ls (k : Nat) | le (k : Nat) | lc (k : Nat) | ie | ldepth | mflt | aov (k : Nat)
  deriving DecidableEq, Repr

/-- A result in flight (R426, R427): its register and value, the issued instructions until it is readable, and whether
it is seen earlier where the spec says so: a MAC's by an accumulation (R428), IE of an EI, DI or MTSW by the interrupt
check (R449). -/
structure IzPend where
  reg : IzReg
  val : Nat
  left : Nat
  early : Bool
  deriving DecidableEq, Repr

/-- A line of a write-combining buffer (R420): its address, the bytes stored by offset, and SYSCNT at the first store. -/
structure WcLine where
  addr : Nat
  bytes : List (Nat × Byte)
  since : Nat
  deriving DecidableEq, Repr

/-- A logical core (R405 to R437) beside its registers: the architectural state of R410 and R411, by sparse tables that
list what is not zero, and what the core holds between instructions. -/
structure Core where
  code : List Byte := []
  ram : List (Nat × BitVec 24) := []
  g : List (Nat × BitVec 24) := []
  a : List (Nat × BitVec 56) := []
  p : List (Nat × BitVec 24) := []
  pb : List (Nat × Nat) := []
  sd : List (Nat × SegDesc) := []
  sp : BitVec 24 := 0
  ls : List (Nat × BitVec 24) := []
  le : List (Nat × BitVec 24) := []
  lc : List (Nat × BitVec 24) := []
  pc : BitVec 24 := 0
  ie : Bool := false
  ldepth : Nat := 0
  mflt : Nat := 0
  aov : List (Nat × Bool) := []
  /-- Results in flight, in issue order. -/
  pend : List IzPend := []
  /-- The next instruction is a delay slot: of a branch not taken, or of one taken to this target (R450). -/
  delay : Option (Option (BitVec 24)) := none
  /-- Iterations of a REP sequence still to issue (R429). -/
  rep : Option Nat := none
  /-- An instruction is being issued; a STEP waits to be carried out (R437); the core is moving to pair 8 (R407). -/
  issuing : Bool := false
  stepAsked : Bool := false
  moving : Bool := false
  /-- SYSCNT at the last restart of the watchdog period. -/
  wdogAt : Nat := 0
  wc : List WcLine := []
  /-- The hold register and the read latch for the register space (R420): register address and half. -/
  hold : Option (Nat × Nat) := none
  latch : Option (Nat × Nat) := none
  deriving DecidableEq, Repr

end Sys2Proof.Machine
end

