-- ==== Sys2Proof/Machine/State.lean ====
section
/-! DEFINITION. The state of the block, as plain data, with the reasons a step can stop and the state after reset.
Every native register lives in one sparse table, keyed by its native byte address (spec/23 R570): an address not
listed reads as the reset value of its field table.  What no register holds lives in the parts of Parts.lean. -/

namespace Sys2Proof.Machine

/-- Why a step stops with a fault.  No meaning of this model faults: the spec gives every command an effect, and a
command that does not apply where it arrives changes nothing (notes/assumptions/2.md). -/
inductive Fault where
  /-- Raised by nobody; it keeps the type inhabited for the host's interface.  Safe. -/
  | unreachable
  deriving DecidableEq, Repr

/-- Why a command has no meaning. -/
inductive Refusal where
  /-- Raised by an arm of exec whose command is not modelled yet, by its mnemonic.  Safe: the machine stops. -/
  | notModelled (mnemonic : String)
  deriving DecidableEq, Repr

/-- The state of the block. -/
structure State where
  /-- The commands that wait, first in, first out. -/
  pending : List Instr := []
  /-- Every native register that differs from its reset value, by native byte address. -/
  regs : List (Nat × Word) := []
  /-- The latched upper halves of 64-bit register pairs, by the address of the _HI register (R111, R370). -/
  hiLatch : List (Nat × Word) := []
  /-- SYSCNT (R7, R110): ticks of f_S, wrapping at 2^64. -/
  syscnt : BitVec 64 := 0
  /-- SYSCNT is counting (R110). -/
  counting : Bool := false
  /-- The model's own count of free values taken; no statement rests on it. -/
  freeCtr : Nat := 0
  pins : Pins := {}
  pwr : Power := {}
  boot : Boot := {}
  hb : HostBus := {}
  /-- Coalescing state of group g on the IRQ_N route at key 2 g and on the MSI-X route at key 2 g + 1 (R378). -/
  coal : List (Nat × Coal) := []
  /-- MSI-X vectors released and not yet sent, oldest first (R377, R358). -/
  msiQueue : List Nat := []
  /-- Records formed and not yet delivered, oldest first, each with its sink (0 the Casrum side data, 1 + q the
  PCIe queue q) and SYSCNT at its arrival (R344, R354, R357). -/
  recs : List (Nat × Nat × Rec) := []
  obs : Obs := {}
  /-- Marrow (R281): the bytes that differ from 0, by byte address, addresses rising. -/
  mem : List Host.Cell := []
  snp : Snapshot := {}
  exc : Exciter := {}
  cals : List (Nat × Cal) := []
  clk : Clock := {}
  /-- The inputs ANT_A, ANT_B and ORX at keys 0, 1, 2. -/
  inputs : List (Nat × Input) := []
  mrw : Marrow := {}
  banks : List (Nat × Bank) := []
  paths : List (Nat × Path) := []
  kt : Kt := {}
  dems : List (Nat × Dem) := []
  slots : List (Nat × Slot) := []
  decs : List (Nat × Decoder) := []
  fol : Fennel := {}
  saps : List (Nat × Sap) := []
  /-- The last release of each output stream, by 1024 × kind (1 programme, 2 path, 3 decoder) + number. -/
  rel : List (Nat × Released) := []
  /-- The blocks of the recent past of each audio stream, latest first, under the same keys (R249, R251, R288). -/
  streams : List (Nat × List Block) := []
  net : Net := {}
  pci : Pcie := {}
  slk : Slk := {}
  sec : Sec := {}
  fab : Fabric := {}
  /-- The logical cores SQ0 to SQ7. -/
  cores : List (Nat × Core) := []
  /-- The bytes of the calibration image window and of the record and report buffers that differ from 0, by native
  address (R526, R552). -/
  win : List (Nat × Byte) := []
  deriving DecidableEq, Repr

/-- The machine right after reset: cold, in the internal reset, every register at its reset value. -/
def State.reset : State := {}

end Sys2Proof.Machine
end

