-- ==== Sys2Proof/Machine/Ops.lean ====
section
/-! DEFINITION. The named operations over registers and time that every meaning is written with: reading and writing a
register or a field, 64-bit pairs, saturating counters, refusals (R10, R79), features, and SYSCNT. -/

namespace Sys2Proof.Machine

/-! ## Registers -/

/-- Reset values that depend on an inner copy and that the field tables do not carry: the Marrow regions of R31, and
the class of a Marrow requester (R296); and the power-on image of the KT-440 mirror (R387). -/
def regResetExtra (a : Nat) : Nat :=
  if a = MRW_REG_BASE 1 then 128 else if a = MRW_REG_BASE 2 then 256
  else if a = MRW_REG_BASE 3 then 448 else if a = MRW_REG_BASE 4 then 480
  else if a = MRW_REG_SIZE 0 then 128 else if a = MRW_REG_SIZE 1 then 128
  else if a = MRW_REG_SIZE 2 then 192 else if a = MRW_REG_SIZE 3 then 32 else if a = MRW_REG_SIZE 4 then 32
  else if MRW_RQr_CFG 256 ≤ a && a < MRW_RQr_CFG 264 && (a - MRW_RQr_CFG 256) % 16 = 0 then 1
  else if a = MRW_RQr_CFG 264 || a = MRW_RQr_CFG 265 || a = MRW_RQr_CFG 266 then 2
  else if a = MRW_RQr_CFG 268 then 3
  else if a = CMP_KT 0 then 0x44 else if a = CMP_KT 1 then 0x23
  else if a = CMP_KT 0x26 || a = CMP_KT 0x46 || a = CMP_KT 0x66 || a = CMP_KT 0x86 then 1
  else 0

/-- The reset value of the register at native address a; 0 where no register lies (R571). -/
def regReset (a : Nat) : Word :=
  match findReg (blockRegs a) a with
  | some (r, o, _) => BitVec.ofNat 32 (fieldsReset r.fields o + regResetExtra a)
  | none => 0

/-- The register at native address a, as it stands. -/
def State.rd (s : State) (a : Nat) : Word := sget regReset s.regs a

/-- Place w in the register at native address a. -/
def State.wr (s : State) (a : Nat) (w : Word) : State := { s with regs := sset regReset a w s.regs }

/-- A field's value. -/
def State.getF (s : State) (f : Fld) : Nat := bitsOf (s.rd f.reg).toNat f.hi f.lo

/-- A field's two's-complement value. -/
def State.getI (s : State) (f : Fld) : Int := signedOf (f.hi + 1 - f.lo) (s.getF f)

/-- A one-bit field as a truth value. -/
def State.flag (s : State) (f : Fld) : Bool := s.getF f != 0

/-- Place a value in a field. -/
def State.setF (f : Fld) (v : Nat) (s : State) : State :=
  s.wr f.reg (BitVec.ofNat 32 (putBits (s.rd f.reg).toNat f.hi f.lo v))

/-- Place a signed value in a field. -/
def State.setI (f : Fld) (i : Int) (s : State) : State := s.setF f (unsignedOf (f.hi + 1 - f.lo) i)

/-- Set or clear a one-bit field. -/
def State.setB (f : Fld) (b : Bool) (s : State) : State := s.setF f b.toNat

/-- Add n to a counting field, saturating at its highest value. -/
def State.bumpBy (f : Fld) (n : Nat) (s : State) : State :=
  s.setF f (min (s.getF f + n) (2 ^ (f.hi + 1 - f.lo) - 1))

/-- Add one to a counting field, saturating. -/
def State.bump (f : Fld) (s : State) : State := s.bumpBy f 1

/-- Write a 64-bit value to a pair of registers, given the _LO register's address and the _HI register's. -/
def State.set64 (lo hi v : Nat) (s : State) : State :=
  (s.wr lo (BitVec.ofNat 32 v)).wr hi (BitVec.ofNat 32 (v / 2 ^ 32))

/-- The 64-bit value of a pair of registers. -/
def State.get64 (s : State) (lo hi : Nat) : Nat := (s.rd lo).toNat + 2 ^ 32 * (s.rd hi).toNat

/-- Return the registers of an address range to their reset values. -/
def State.resetRange (lo hi : Nat) (s : State) : State :=
  { s with regs := s.regs.filter fun p => !(decide (lo ≤ p.1) && decide (p.1 < hi)) }

/-- Apply a change for every number of a list, in order. -/
def forEach (l : List Nat) (f : Nat → State → State) (s : State) : State := l.foldl (fun s n => f n s) s

/-! ## Refusals -/

/-- Refusal codes of R79. -/
def codeReserved : Nat := 1
def codeLocked : Nat := 2
def codeNotLocked : Nat := 3
def codeBusy : Nat := 4
def codeWrongState : Nat := 5
def codeOwned : Nat := 6

/-- Record a refusal in a register with the layout of SYS_REFUSE: CODE takes the code and CNT counts (R10, R79). -/
def refuse (reg code : Nat) (s : State) : State := (s.setF ⟨reg, 31, 28⟩ code).bump ⟨reg, 15, 0⟩

/-- Record a refusal in the status register of an instance: CODE [19:16] and REFCNT [15:0] (R83). -/
def refuseInst (reg code : Nat) (s : State) : State := (s.setF ⟨reg, 19, 16⟩ code).bump ⟨reg, 15, 0⟩

/-! ## Start-up state and features -/

/-- SYS_BOOT.STATE: 1 ROM, 2 LOADED, 3 NEGOTIATE, 4 RUN (R77). -/
def State.stage (s : State) : Nat := s.getF SYS_BOOT_STATE

/-- Bit n of FEAT_ACTIVE (R80): feature n is in effect. -/
def State.feat (s : State) (n : Nat) : Bool := (s.rd (FEAT_ACTIVE (n / 32))).toNat.testBit (n % 32)

/-- KT-440 mode as R22 counts it: bit 17 is active, so the personality owns its resources. -/
def State.ktOwned (s : State) : Bool := s.feat 17

/-- Core k runs its firmware tasks (R21): a halted core runs none of them (R437). -/
def State.firmwareOn (s : State) (k : Nat) : Bool := s.getF (SEQk_STAT_STATE k) == 1

/-- The header of the bitstream in use; an empty header where none is loaded. -/
def State.hdr (s : State) : BsHdr := s.boot.bs.getD {}

/-! ## Time -/

/-- SYSCNT as a number. -/
def State.now (s : State) : Nat := s.syscnt.toNat

/-- Time passes until SYSCNT reaches t, where it is counting and t lies ahead (notes/assumptions/4.md). -/
def State.advance (t : Nat) (s : State) : State :=
  if s.counting && s.now ≤ t then { s with syscnt := BitVec.ofNat 64 t } else s

/-- One tick of f_S passes while no command waits (notes/assumptions/3.md): SYSCNT counts, wrapping (R7, R110). -/
def State.clockTick (s : State) : State := if s.counting then { s with syscnt := s.syscnt + 1 } else s

/-- The first multiple of p at or after t. -/
def ceilTo (p t : Nat) : Nat := if p = 0 then t else (t + p - 1) / p * p

/-- The first ADC or ORX block boundary at or after t (R15, R128). -/
def State.blockAt (s : State) (t : Nat) : Nat := t + (64 + s.clk.blockPhase % 64 - t % 64) % 64

/-- The first release instant at or after t (R156). -/
def releaseAt (t : Nat) : Nat := ceilTo Config.releasePeriod t

/-! ## Free values -/

/-- A free value: a number nothing constrains (notes/assumptions/5.md), and the state that will not give it again. -/
def State.free (s : State) : Nat × State := (Config.freeNat s.freeCtr, { s with freeCtr := s.freeCtr + 1 })

end Sys2Proof.Machine
end

