-- ==== Sys2Proof/Machine/Memory.lean ====
section
/-! DEFINITION. Marrow as bytes (spec/11 R281): 32 GiB, written with zeros by its initialisation, held as the rising
list of the bytes that are not zero.  Wider accesses are little-endian runs of bytes, made here and nowhere else. -/

namespace Sys2Proof.Machine

/-- The size of Marrow in bytes (R281). -/
def marrowSize : Nat := 34359738368

/-- What a byte that is not listed reads as (R281: initialisation writes zeros). -/
def memDefault (_ : Nat) : Byte := 0

/-- The canonical form of Marrow: addresses rising, no listed byte zero. -/
def Memory.wf (m : List Host.Cell) : Bool := swf memDefault m

/-- The byte at an address. -/
def memGet (m : List Host.Cell) (a : Nat) : Byte := sget memDefault m a

/-- Store one byte. -/
def memSet (a : Nat) (b : Byte) (m : List Host.Cell) : List Host.Cell := sset memDefault a b m

/-- Store a run of bytes from an address upwards. -/
def memPut : Nat → List Byte → List Host.Cell → List Host.Cell
  | _, [], m => m
  | a, b :: t, m => memPut (a + 1) t (memSet a b m)

/-- n bytes from an address upwards. -/
def memTake (m : List Host.Cell) (a n : Nat) : List Byte := (List.range n).map fun i => memGet m (a + i)

/-- The n low bytes of a number, lowest first. -/
def bytesOf (n v : Nat) : List Byte := (List.range n).map fun i => BitVec.ofNat 8 (v >>> (8 * i))

/-- The number that a list of bytes spells, lowest first. -/
def natOf : List Byte → Nat
  | [] => 0
  | b :: t => b.toNat + 256 * natOf t

/-- The n low bytes of a number as numbers, lowest first. -/
def leNat (n v : Nat) : List Nat := (List.range n).map fun i => v / 2 ^ (8 * i) % 256

/-- Write bytes to Marrow. -/
def State.store (a : Nat) (l : List Byte) (s : State) : State := { s with mem := memPut a l s.mem }

/-- Base of the active Marrow region k in bytes: 0 baseband, 1 audio, 2 snapshot, 3 firmware, 4 host (R31, R283,
R284), in units of 64 MiB. -/
def State.regionBase (s : State) (k : Nat) : Nat := (s.mrw.act.getD k (0, 0)).1 * 67108864

/-- Size of the active Marrow region k in bytes. -/
def State.regionSize (s : State) (k : Nat) : Nat := (s.mrw.act.getD k (0, 0)).2 * 67108864

/-- The CRC-32 of R69 over a list of bytes: IEEE 802.3 polynomial, reflected, initial value and final XOR all ones. -/
def crcStep : Nat → Nat → Nat
  | 0, c => c
  | k + 1, c => crcStep k (if c % 2 = 1 then (c / 2) ^^^ 0xEDB88320 else c / 2)

/-- The CRC register after a list of bytes. -/
def crcRun : List Byte → Nat → Nat
  | [], c => c
  | b :: t, c => crcRun t (crcStep 8 (c ^^^ b.toNat))

/-- CRC-32 of a list of bytes (R69). -/
def crc32 (l : List Byte) : Nat := crcRun l 0xFFFFFFFF ^^^ 0xFFFFFFFF

/-- The little-endian number of n bytes at offset o of a list. -/
def leAt (l : List Byte) (o n : Nat) : Nat := natOf ((l.drop o).take n)

end Sys2Proof.Machine
end

