-- ==== Sys2Proof/Machine/Otp.lean ====
section
/-! DEFINITION. The fields of OTP and its fuses (spec/21 R535, R541). -/

namespace Sys2Proof.Machine

/-- An unprogrammed byte of OTP. -/
def otpNone (_ : Nat) : Byte := 0

/-- n bytes of OTP from an offset (R535). -/
def Otp.list (o : Otp) (a n : Nat) : List Byte := (List.range n).map fun k => sget otpNone o.bytes (a + k)

/-- Program bytes of OTP. -/
def Otp.put (a : Nat) (l : List Byte) (o : Otp) : Otp := { o with bytes := l.zipIdx.foldl (fun m p => sset otpNone (a + p.2) p.1 m) o.bytes }

/-- ROOT_HASH, as the number its bytes spell highest first (R535). -/
def Otp.rootHash (o : Otp) : Nat := natOf (o.list 0 32).reverse

/-- The device identifier and the MAC addresses, lowest byte first (R535; notes/assumptions/7.md). -/
def Otp.devId (o : Otp) : Nat := natOf (o.list 32 8)
def Otp.mac0 (o : Otp) : Nat := natOf (o.list 40 6)
def Otp.mac1 (o : Otp) : Nat := natOf (o.list 46 6)

/-- Blown fuses of 64. -/
def fuses (n : Nat) : Nat := (List.range 64).countP n.testBit

/-- FW_MIN, BS_MIN and REVOKE (R535). -/
def Otp.fwMin (o : Otp) : Nat := fuses (natOf (o.list 52 8))
def Otp.bsMin (o : Otp) : Nat := fuses (natOf (o.list 60 8))
def Otp.revoke (o : Otp) : Nat := (sget otpNone o.bytes 68).toNat % 16

/-- FCRC is right (R535). -/
def Otp.fcrcOk (o : Otp) : Bool := crc32 (o.list 0 52 ++ o.list 96 48) == natOf (o.list 2044 4)

/-- Blow fuses, lowest first, until v of 64 are blown (R541). -/
def blowTo (v n : Nat) : Nat := (List.range 64).foldl (fun x k => if fuses x < v && !x.testBit k then x + 2 ^ k else x) n

end Sys2Proof.Machine
end

