-- ==== Sys2Proof/Machine/Admit.lean ====
section
/-! DEFINITION. Admission to Marrow's stacks (spec/11 R281, R282, R297): windows, tags, and the classes that never wait. -/

namespace Sys2Proof.Machine

/-- The stack of an address (R281). -/
def stackOf (a : Nat) : Nat := a / 4096 % 4

/-- Tags of a class (R282). -/
def tagsOf (c : Nat) : Nat := if c = 0 then 384 else if c = 1 then 256 else if c = 2 then 320 else 64

/-- A tag of a class is free. -/
def State.tagFree (s : State) (c : Nat) : Bool :=
  decide ((s.mrw.out.filter fun p => p.cls == c).length < tagsOf c)

/-- Capacity of a stack in one window, in bytes (R297). -/
def windowBytes : Nat := 265625

/-- What an unlisted stack has admitted. -/
def winNone (_ : Nat) : MWindow := {}

/-- The accounting window of stack k. -/
def State.window (s : State) (k : Nat) : MWindow := sget winNone s.mrw.windows k

/-- The oldest request of a class that waits at stack k. -/
def State.headOf (s : State) (k c : Nat) : Option MPend :=
  s.mrw.queue.find? fun p => p.cls == c && stackOf p.req.addr == k

/-- A stack accounts for the bytes of a request of a class that it admits (R297). -/
def MWindow.account (c len : Nat) (w : MWindow) : MWindow :=
  { used := w.used + len
    used0 := if c = 0 then w.used0 + len else w.used0
    used2 := if c = 2 then w.used2 + len else w.used2 }

/-- Stack k accounts for a request. -/
def winAdmit (k c len : Nat) (s : State) : State :=
  { s with mrw := { s.mrw with windows := sset winNone k ((s.window k).account c len) s.mrw.windows } }

/-- What a request of a class that never waits is answered at once (R297): OK, REFUSED_CAPACITY or REFUSED_CLASS; none for
classes 1 and 2. -/
def State.atOnce (s : State) (k c len : Nat) : Option Nat :=
  if c = 0 then
    some (if s.getF MRW_CLS_RES0 * windowBytes < ((s.window k).used0 + len) * 100 then 3 else if s.tagFree 0 then 0 else 2)
  else if c = 3 then
    some (if (s.headOf k 1).isNone && (s.headOf k 2).isNone && decide ((s.window k).used + len ≤ windowBytes) && s.tagFree 3
      then 0 else 3)
  else none

/-- The code of an access that a command completes with the code given: what its class is answered at once, of an admitted one
VOID where the line is uncorrectable (R294, R297, R298). -/
def State.codeOf (s : State) (k c len code : Nat) : Nat :=
  match s.atOnce k c len with
  | some 0 => if code = 4 then 4 else 0
  | some x => x
  | none => code

end Sys2Proof.Machine
end

