-- ==== Sys2Proof/Machine/Events.lean ====
section
/-! DEFINITION. Raising an event and what follows from it (spec/14 R374 to R379), with the two taps that watch it: the
snapshot's EVENT trigger (spec/11 R292) and Sprout's counters and trace (spec/22 R565, R566). -/

namespace Sys2Proof.Machine

/-! ## Records -/

/-- Whether PCIe queue q takes records of this type and instance by its SRC (R355). -/
def queueTakes (r : Rec) (s : State) (q : Nat) : Bool :=
  let sel := s.getF (PCI_Qq_SRC_SEL q)
  let first := s.getF (PCI_Qq_SRC_FIRST q)
  let cnt := s.getF (PCI_Qq_SRC_COUNT q)
  let selOf : Nat → Nat := fun t =>
    if t = 1 then 1 else if t = 2 then 2 else if t = 5 then 3 else if t = 3 then 4 else if t = 4 then 5
    else if t = 6 then 6 else if t = 7 then 7 else 0
  s.flag (PCI_Qq_CTL_EN q) && s.getF (PCI_Qq_CTL_KIND q) == 1 && sel != 0 && selOf r.type == sel
    && decide (first ≤ r.inst) && decide (r.inst < first + cnt)

/-- The PCIe queues that any register write has touched, lowest first: only these can be enabled. -/
def State.touchedQueues (s : State) : List Nat :=
  (List.range 64).filter fun q => s.regs.any fun p => p.1 == PCI_Qq_CTL q

/-- Hand a record to every sink that takes it: the Casrum side data where SIDE and its TYPES bit are 1 and the source
contributes (R345), and each STREAM queue whose SRC selects it (R355). -/
def emitRecIf (casrum : Bool) (r : Rec) (s : State) : State :=
  let side := casrum && s.flag NET_CAS_CTL_SIDE && decide (1 ≤ r.type) && (s.getF NET_CAS_CTL_TYPES).testBit (r.type - 1)
  let qs := s.touchedQueues.filter (queueTakes r s)
  { s with recs := s.recs ++ (if side then [(0, s.now, r)] else []) ++ qs.map fun q => (1 + q, s.now, r) }

/-- Zeros that bring a length to a multiple of 8. -/
def pad8 (l : List Nat) : List Nat := l ++ List.replicate ((8 - l.length % 8) % 8) 0

/-- A text record (R344): KIND 0 PS, 1 RT, 2 DLS, 3 ensemble label, 4 service label. -/
def textRec (kind charset num sub ts flags : Nat) (text : List Nat) : Rec :=
  ⟨6, ts, flags, num, leNat 8 ts ++ leNat 2 flags ++ [kind, charset] ++ leNat 2 num ++ [sub, text.length] ++ pad8 text⟩

/-- Hand a record of a source that contributes to every sink. -/
def emitRec (r : Rec) (s : State) : State := emitRecIf true r s

/-! ## Sprout -/

/-- Number of records the trace ring holds (R567). -/
def traceDepth : Nat := 8191

/-- The sixteen bytes of a trace record (R566). -/
def TraceRec.bytes (r : TraceRec) : List Byte :=
  bytesOf 8 r.ts ++ bytesOf 1 r.kind ++ bytesOf 1 r.info ++ bytesOf 2 r.src ++ bytesOf 4 r.data

/-- What an unlisted slot of the trace ring reads as: zeros. -/
def traceNone (_ : Nat) : TraceRec := ⟨0, 0, 0, 0, 0⟩

/-- With SPILL a record goes to the spill ring in the host region too (R567): of a class-3 request that is refused the record
is lost from the spill ring and counted (R297, R298; notes/assumptions/155.md). -/
def spillWrite (r : TraceRec) (s : State) : State :=
  let size := s.getF OBS_SPILL_SIZE * 65536
  let a := s.regionBase 4 + s.getF OBS_SPILL_OFF * 65536 + s.obs.spillWp
  if !(s.flag OBS_CTL_SPILL && size != 0) then s
  else if s.atOnce (stackOf a) 3 16 = some 0 then
    { s.store a r.bytes with obs := { s.obs with spillWp := (s.obs.spillWp + 16) % size } }
  else s.bump OBS_TLOST_CNT

/-- Write one record to the trace ring, and with SPILL to the spill ring (R567). -/
def traceWrite (r : TraceRec) (s : State) : State :=
  let i := s.getF OBS_TWP_INDEX
  let s1 := { s with obs := { s.obs with
    ring := sset traceNone i r s.obs.ring, fill := min traceDepth (s.obs.fill + 1) } }
  spillWrite r (s1.setF OBS_TWP_INDEX ((i + 1) % traceDepth))

/-- Trace a record of an enabled kind: a full ring without WRAP loses it and counts it in OBS_TLOST, and the first
record after a loss is preceded by a LOST record (R566, R567). -/
def trace (kind info src data t : Nat) (s : State) : State :=
  if !(s.flag OBS_CTL_TRACE_EN && (s.getF OBS_CTL_KINDS).testBit kind) then s
  else if !s.flag OBS_CTL_WRAP && decide (traceDepth ≤ s.obs.fill) then
    let s1 := s.bump OBS_TLOST_CNT
    { s1 with obs := { s1.obs with lost := s1.obs.lost + 1 } }
  else
    let s1 :=
      if s.obs.lost != 0 && (s.getF OBS_CTL_KINDS).testBit 3 then
        let s0 := traceWrite ⟨t, 3, 0, 0, s.obs.lost⟩ s
        { s0 with obs := { s0.obs with lost := 0 } }
      else s
    traceWrite ⟨t, kind, info, src % 65536, data % 2 ^ 32⟩ s1

/-- What an unlisted Sprout counter holds. -/
def cntNone (_ : Nat) : Nat := 0

/-- The counters whose configuration differs from reset, as (counter, configuration word). -/
def State.obsConfigs (s : State) : List (Nat × Nat) :=
  s.regs.filterMap fun p =>
    if OBS_CCFG 0 ≤ p.1 && p.1 < OBS_CCFG 1024 then some ((p.1 - OBS_CCFG 0) / 4, p.2.toNat) else none

/-- Add one to Sprout counter c, saturating at 2^64 - 1. -/
def obsBump (c : Nat) (s : State) : State :=
  { s with obs := { s.obs with cnt := sset cntNone c (min (sget cntNone s.obs.cnt c + 1) (2 ^ 64 - 1)) s.obs.cnt } }

/-- Step every Sprout counter whose configuration word satisfies a test (R565). -/
def obsCount (test : Nat → Bool) (s : State) : State :=
  (s.obsConfigs.filter fun p => test p.2).foldl (fun s p => obsBump p.1 s) s

/-- Mode 1: raises of event e, merged raises included. -/
def obsEvent (e : Nat) : State → State :=
  obsCount fun w => bitsOf w 31 30 == 1 && bitsOf w 9 0 == e

/-- Mode 2: a block of stream kind k (0 path, 1 programme, 2 decoder, 3 slot), instance n, with its flags. -/
def obsBlock (k n flags : Nat) : State → State :=
  obsCount fun w => bitsOf w 31 30 == 2 && bitsOf w 21 20 == k && bitsOf w 9 0 == n
    && (bitsOf w 29 22 == 0 || (bitsOf w 29 22 &&& flags) != 0)

/-- Mode 3: a Marrow reply with this code to requester r. -/
def obsReply (r code : Nat) : State → State :=
  obsCount fun w => bitsOf w 31 30 == 3 && bitsOf w 9 0 == r && (bitsOf w 29 22).testBit code

/-! ## The snapshot's trigger -/

/-- A trigger with stamp t in ARMED: the stamp is recorded, the state is POST, and T_end is the first block boundary
at or after t + POST (R292). -/
def snapTrigger (t : Nat) (s : State) : State :=
  if s.getF MRW_SNP_STAT_STATE = 1 then
    let s1 := (s.set64 MRW_SNP_TRIG_LO MRW_SNP_TRIG_HI t).setF MRW_SNP_STAT_STATE 2
    let x := t + Config.ticksOfUs (s.getF MRW_SNP_POST_POST_US)
    { s1 with snp := { s1.snp with endFrom := x, tEnd := s.blockAt x } }
  else s

/-! ## Routes -/

/-- What an unlisted group and route hold. -/
def coalNone (_ : Nat) : Coal := {}

/-- The mask of group g on a route: 0 IRQ_N, 1 MSI-X. -/
def State.routeMask (s : State) (g route : Nat) : Nat :=
  if route = 0 then (s.rd (EVT_Gg_MASK_IRQ g)).toNat else (s.rd (EVT_Gg_MASK_MSI g)).toNat

/-- Group g is pending on a route: its STAT has a bit of the route's mask (R377). -/
def State.routePending (s : State) (g route : Nat) : Bool :=
  ((s.rd (EVT_Gg_STAT g)).toNat &&& s.routeMask g route) != 0

/-- Coalescing state of group g on a route. -/
def State.coalOf (s : State) (g route : Nat) : Coal := sget coalNone s.coal (2 * g + route)

/-- Replace the coalescing state of group g on a route. -/
def State.setCoal (g route : Nat) (c : Coal) (s : State) : State :=
  { s with coal := sset coalNone (2 * g + route) c s.coal }

/-- Release a group that is pending on a route: it stays released, and on the MSI-X route one message is queued
(R377, R378). -/
def release (g route : Nat) (s : State) : State :=
  let c := s.coalOf g route
  if c.pending && !c.released then
    let s1 := s.setCoal g route { c with released := true }
    if route = 1 then { s1 with msiQueue := s1.msiQueue ++ [s.getF (EVT_Gg_ROUTE_VEC g)] } else s1
  else s

/-- Release a pending group whose COUNT is reached or whose HOLD_US has passed at instant t (R378). -/
def releaseDue (g route t : Nat) (s : State) : State :=
  let c := s.coalOf g route
  if decide (s.getF (EVT_Gg_COAL_COUNT g) ≤ c.count)
      || decide (c.since + Config.ticksOfUs (s.getF (EVT_Gg_COAL_HOLD_US g)) ≤ t) then release g route s
  else s

/-- Bring the coalescing of group g on a route in line with STAT and the mask at instant t: a group that stops being
pending starts over, one that becomes pending counts the event that made it so as its first raise (R378). -/
def coalRefresh (g route t : Nat) (s : State) : State :=
  let c := s.coalOf g route
  if s.routePending g route then
    releaseDue g route t (if c.pending then s else s.setCoal g route ⟨true, 1, t, false⟩)
  else s.setCoal g route {}

/-- A raise of source bit b of group g: a route whose mask has the bit counts it (R378). -/
def coalRaise (g b route t : Nat) (s : State) : State :=
  if (s.routeMask g route).testBit b then
    let c := s.coalOf g route
    if c.pending then releaseDue g route t (s.setCoal g route { c with count := c.count + 1 })
    else coalRefresh g route t s
  else s

/-- The bits of a list of truth values, the first one lowest. -/
def packBits : List Bool → Nat
  | [] => 0
  | b :: t => b.toNat + 2 * packBits t

/-- Groups pending on MASK_CORE (R377). -/
def State.corePending (s : State) (g : Nat) : Bool :=
  ((s.rd (EVT_Gg_STAT g)).toNat &&& (s.rd (EVT_Gg_MASK_CORE g)).toNat) != 0

/-- The KT-440 interrupt image (R401): an INTSTAT bit that INTMASK enables, held in the personality's registers. -/
def State.ktIrq (s : State) : Bool :=
  s.flag CMP_STAT_READY && (bitsOf (s.rd (CMP_KT 2)).toNat 7 0 &&& bitsOf (s.rd (CMP_KT 3)).toNat 7 0) != 0

/-- EVT_PEND and the level of IRQ_N (R377, R379): in KT-440 mode the pin belongs to the personality. -/
def irqRefresh (s : State) : State :=
  let irq := packBits ((List.range 8).map fun g => (s.coalOf g 0).pending && (s.coalOf g 0).released)
  let msi := packBits ((List.range 8).map fun g => s.routePending g 1)
  let core := packBits ((List.range 8).map fun g => s.corePending g)
  let s1 := ((s.setF EVT_PEND_IRQ irq).setF EVT_PEND_MSI msi).setF EVT_PEND_CORE core
  let low := if s.ktOwned then s.ktIrq else s.flag EVT_CTL_IRQ_EN && irq != 0
  { s1 with pins := { s1.pins with irqLow := low } }

/-- Bring every group in line after a change of STAT, a bitmap or a mask at instant t. -/
def routesRefresh (t : Nat) (s : State) : State :=
  irqRefresh (forEach (List.range 8) (fun g s => coalRefresh g 1 t (coalRefresh g 0 t s)) s)

/-! ## Raising -/

/-- The summary number of source e: EVG1 bits 0 to 11 are summaries 0 to 11, EVG2 bits 0 to 3 summaries 12 to 15
(R376). -/
def summaryOf (e : Nat) : Option Nat :=
  if 32 ≤ e && e < 44 then some (e - 32) else if 64 ≤ e && e < 68 then some (e - 64 + 12) else none

/-- Event numbers of R375 (32 × group + bit). -/
def evBlockDrop : Nat := 0
def evPaceLow : Nat := 1
def evEbufOvr : Nat := 2
def evPodIsolated : Nat := 3
def evPodActive : Nat := 4
def evPrDone : Nat := 5
def evSat : Nat := 32
def evLevelUp : Nat := 33
def evLevelDown : Nat := 34
def evStereo : Nat := 35
def evSigLost : Nat := 36
def evSigFound : Nat := 37
def evRdsSync : Nat := 38
def evPiChg : Nat := 39
def evEnsLock : Nat := 40
def evEnsLost : Nat := 41
def evDecRun : Nat := 42
def evDecWait : Nat := 43
def evFolInelig : Nat := 64
def evFolSwitch : Nat := 65
def evFolDefer : Nat := 66
def evFolLost : Nat := 67
def evAchFull : Nat := 68
def evSapLock (k : Nat) : Nat := 96 + 4 * k
def evSapFault (k : Nat) : Nat := 97 + 4 * k
def evSapXrun (k : Nat) : Nat := 98 + 4 * k
def evSapAux (k : Nat) : Nat := 99 + 4 * k
def evLink : Nat := 128
def evPtpState : Nat := 129
def evSnapDone : Nat := 130
def evPcieLink : Nat := 131
def evRxState : Nat := 132
def evSpllLoss : Nat := 160
def evSpllFail : Nat := 161
def evDivCommit : Nat := 162
def evRefReturn : Nat := 163
def evSyscntStep : Nat := 164
def evSlewDone : Nat := 165
def evPhaseKept : Nat := 166
def evGainApplied : Nat := 167
def evClip : Nat := 168
def evPeak : Nat := 169
def evProtect : Nat := 170
def evCalDone : Nat := 171
def evCalReject : Nat := 172
def evCalWait : Nat := 173
def evPaFault : Nat := 192
def evExcMute : Nat := 193
def evLicence : Nat := 194
def evDpdConv : Nat := 195
def evDpdSuspend : Nat := 196
def evExcRemap : Nat := 197
def evSlRxDone : Nat := 208
def evSlTxDone : Nat := 209
def evSlAbort : Nat := 210
def evSlRefuse : Nat := 211
def evSlCapture : Nat := 212
def evSlGntLost : Nat := 213
def evSlCal : Nat := 214
def evThermWarn : Nat := 224
def evReloadErr : Nat := 225
def evEccUe : Nat := 226
def evDevSuspect : Nat := 227
def evPodFault : Nat := 228
def evRemapDone : Nat := 229
def evPairFault : Nat := 230
def evPairRemap : Nat := 231
def evWdog : Nat := 232
def evSigFail : Nat := 233
def evAttestLimit : Nat := 234
def evNvErr : Nat := 235
def evHbQovf : Nat := 236

/-- No instance (R375). -/
def noInst : Nat := 0xFFFF

/-- Set the bit of a raise and count it in MERGE where it was already 1; a summary source sets its instance's bit in
the bitmap and its STAT bit follows (R374, R376). -/
def raiseBit (e inst : Nat) (s : State) : State :=
  let g := e / 32
  let b := e % 32
  let stat : Fld := ⟨EVT_Gg_STAT g, b, b⟩
  match summaryOf e with
  | some j =>
    let f : Fld := ⟨EVT_SUM j (inst / 32), inst % 32, inst % 32⟩
    let s1 := if s.flag f then s.bump (EVT_Gg_MERGE_CNT g) else s
    (s1.setF f 1).setF stat 1
  | none =>
    let s1 := if s.flag stat then s.bump (EVT_Gg_MERGE_CNT g) else s
    s1.setF stat 1

/-- The stamp and the instance of a raise (R374, R380). -/
def raiseStamp (e inst t : Nat) (s : State) : State :=
  let s1 := s.set64 (EVT_STAMP_LO e) (EVT_STAMP_HI e) t
  if e % 2 = 0 then s1.setF (EVT_INST_INST0 (e / 2)) inst else s1.setF (EVT_INST_INST1 (e / 2)) inst

/-- The event record of a raise, while MASK_REC has the source's bit (R374, R344 type 7). -/
def raiseRec (e inst t : Nat) (s : State) : State :=
  if (s.rd (EVT_Gg_MASK_REC (e / 32))).toNat.testBit (e % 32) then
    emitRec ⟨7, t, 0, e, leNat 8 t ++ leNat 2 0 ++ [e, 0] ++ leNat 4 (if inst = noInst then 0xFFFFFFFF else inst)⟩ s
  else s

/-- The snapshot's EVENT trigger (R292). -/
def raiseSnap (e t : Nat) (s : State) : State :=
  if s.getF MRW_SNP_CTL_TRIG = 2 && s.getF MRW_SNP_CTL_EVT = e then snapTrigger t s else s

/-- The numbers that R375 gives a source. -/
def isSource (e : Nat) : Bool :=
  e ≤ 5 || (32 ≤ e && e ≤ 43) || (64 ≤ e && e ≤ 68) || (96 ≤ e && e ≤ 132) || (160 ≤ e && e ≤ 173) || (192 ≤ e && e ≤ 197)
    || (208 ≤ e && e ≤ 214) || (224 ≤ e && e ≤ 236)

/-- The instances of summary j in the loaded bitstream: paths, slots, decoders and programmes (R376). -/
def State.summaryCap (s : State) (j : Nat) : Nat :=
  if j < 8 then min 512 s.hdr.paths else if j < 10 then min 48 s.hdr.ens else if j < 12 then min 128 s.hdr.dec
  else min 256 s.hdr.progs

/-- Raise source e with an instance at instant t (R374): nothing happens before NEGOTIATE (R382), nor for a number that
names no source or an instance beyond the source's bitmap (R375, R376). -/
def raiseAt (e inst t : Nat) (s : State) : State :=
  if s.pwr.inReset || s.stage < 3 || !isSource e || (summaryOf e).any (fun j => decide (s.summaryCap j ≤ inst)) then s
  else
    let s1 := raiseRec e inst t (raiseStamp e inst t (raiseBit e inst s))
    let s2 := raiseSnap e t (obsEvent e s1)
    let s3 := if (s2.rd (OBS_TEVT (e / 32))).toNat.testBit (e % 32) then trace 0 0 e inst t s2 else s2
    irqRefresh (coalRaise (e / 32) (e % 32) 1 t (coalRaise (e / 32) (e % 32) 0 t s3))

/-- Raise source e now. -/
def raise (e inst : Nat) (s : State) : State := raiseAt e inst s.now s

/-! ## Commands of the event block -/

/-- EVENT_RAISE: the condition of source e occurs for an instance (R374). -/
def execEventRaise (e inst : Nat) (s : State) : Host.Outcome State Fault Refusal := .next (raise e inst s)

/-- EVENT_COALESCE_RELEASE: the group is released on the route once COUNT or HOLD_US is reached at t (R378). -/
def execEventCoalesceRelease (g route t : Nat) (s : State) : Host.Outcome State Fault Refusal :=
  let s1 := s.advance t
  .next (if g < 8 && route < 2 && (s1.coalOf g route).pending then irqRefresh (releaseDue g route s1.now s1) else s)

/-- A write of w to STAT of group g or to a word of summary bitmap (R8, R376): the written 1s clear, STAT bits of
summary sources follow their bitmaps, and a group left pending on MASK_MSI starts coalescing on that route afresh
(R377). -/
def summaryBits (g : Nat) : List (Nat × Nat) :=
  if g = 1 then (List.range 12).map fun j => (j, j) else if g = 2 then (List.range 4).map fun j => (j, 12 + j) else []

/-- Whether any bit of summary j is 1. -/
def State.summaryAny (s : State) (j : Nat) : Bool :=
  s.regs.any fun p => EVT_SUM j 0 ≤ p.1 && p.1 < EVT_SUM j 16 && p.2 != 0

/-- Bring the STAT bits of a group's summary sources in line with their bitmaps. -/
def summaryRefresh (g : Nat) (s : State) : State :=
  (summaryBits g).foldl (fun s p => s.setB ⟨EVT_Gg_STAT g, p.1, p.1⟩ (s.summaryAny p.2)) s

/-- After a clearing write to group g at instant t: routes follow, and MSI-X coalescing restarts (R377). -/
def afterClear (g t : Nat) (s : State) : State :=
  let s1 := summaryRefresh g s
  let s2 := if s1.routePending g 1 then s1.setCoal g 1 {} else s1
  routesRefresh t s2

/-- The write of w to the STAT of group g: bits of summary sources are RO (R376). -/
def clearStat (g w : Nat) (s : State) : State :=
  let ro := packBits ((List.range 32).map fun b => (summaryBits g).any fun p => p.1 == b)
  let old := (s.rd (EVT_Gg_STAT g)).toNat
  let clr := old &&& w
  let keep := old - clr + (clr &&& ro)
  afterClear g s.now (s.wr (EVT_Gg_STAT g) (BitVec.ofNat 32 keep))

/-- The write of w to word k of summary bitmap j. -/
def clearSum (j k w : Nat) (s : State) : State :=
  let old := (s.rd (EVT_SUM j k)).toNat
  afterClear (if j < 12 then 1 else 2) s.now (s.wr (EVT_SUM j k) (BitVec.ofNat 32 (old - (old &&& w))))

end Sys2Proof.Machine
end

