-- ==== Sys2Proof/Machine/Math.lean ====
section
/-! DEFINITION. The numbers that the spec defines and does not round: quotients, roots, the cosine, the argument of a
complex number, a gain in decibels.  Each is one of the two values next to the exact one; which, where the exact one is
not itself a value, is free (notes/assumptions/147.md). -/

namespace Sys2Proof.Config

/-- A quotient as stage id forms it, where the spec states no rounding: one of its two neighbours. -/
def quot (id : Nat) (n : Int) (d : Nat) : Int :=
  if d = 0 then byZero id n else n / d + (if n % d != 0 && roundsUp id n d then 1 else 0)

/-- A square root. -/
def root (n : Nat) : Nat :=
  let r := Nat.sqrt n
  if r * r = n then r else r + (roundsUp 100 n 1).toNat

/-- One in units of 2^-60. -/
def one60 : Int := 2 ^ 60

/-- π / 2 and π, log2 10 / 20 and ln 2 in units of 2^-60. -/
def halfPi60 : Int := 1811004864519280710
def pi60 : Int := 3622009729038561421
def log60 : Int := 191496116867664726
def ln60 : Int := 799144290325165978

/-- The sum of a series of 16 terms in units of 2^-60: each term is the one before times x over the product of the next
two numbers from k on, with the sign given. -/
def series (x sign : Int) : Nat → Nat → Int → Int
  | 0, _, _ => 0
  | n + 1, k, t => t + series x sign n (k + 2) (sign * (t * x / one60) / (k * (k + 1) : Nat))

/-- The cosine and the sine of an angle between 0 and π / 2, in units of 2^-60. -/
def cos60 (a : Int) : Int := series (a * a / one60) (-1) 16 1 one60
def sin60 (a : Int) : Int := series (a * a / one60) (-1) 16 2 a

/-- The cosine of 2π p / q in units of 2^-60. -/
def turn60 (p q : Nat) : Int :=
  let k := 4 * (p % q) / q
  let a := halfPi60 * (4 * (p % q) % q : Nat) / q
  if k = 0 then cos60 a else if k = 1 then -sin60 a else if k = 2 then -cos60 a else sin60 a

/-- The cosine of 2π p / q in units of 2^-23: exact at the quarters of a turn. -/
def cosine (p q : Nat) : Int :=
  let k := 4 * (p % q) / q
  if 4 * (p % q) % q = 0 then (if k = 0 then 2 ^ 23 else if k = 2 then -(2 ^ 23) else 0)
  else quot 101 (turn60 p q) (2 ^ 37)

/-- The sine of 2π p / q in units of 2^-23. -/
def sine (p q : Nat) : Int := cosine (4 * p + 3 * q) (4 * q)

/-- √(1 + x²) in units of 2^-60. -/
def hyp60 (x : Int) : Int := Nat.sqrt (2 ^ 120 + (x * x).toNat)

/-- Half the angle whose tangent is x, as a tangent. -/
def halfTan60 (x : Int) : Int := x * one60 / (one60 + hyp60 x)

/-- The sum x - x³/3 + x⁵/5 - … over n terms. -/
def atanSeries (x2 : Int) : Nat → Nat → Int → Int
  | 0, _, _ => 0
  | n + 1, k, t => t / k + atanSeries x2 n (k + 2) (-(t * x2 / one60))

/-- The angle between 0 and π / 4 whose tangent is b / a, in units of 2^-60. -/
def atan60 (a b : Int) : Int :=
  let x := halfTan60 (halfTan60 (b * one60 / a))
  4 * atanSeries (x * x / one60) 16 1 x

/-- The argument of a complex number in units of 2^-23 half turns, from -1 to 1: exact on the axes, free at 0. -/
def arg (z : Cx) : Int :=
  let a : Int := z.re.natAbs
  let b : Int := z.im.natAbs
  if a = 0 && b = 0 then argZero
  else if b = 0 then (if 0 < z.re then 0 else 2 ^ 23)
  else
    let first := if a = 0 then halfPi60 else if b ≤ a then atan60 a b else halfPi60 - atan60 b a
    let θ := if 0 < z.re || a = 0 then first else pi60 - first
    let θ' := if 0 < z.im then θ else -θ
    if a = 0 then (if 0 < z.im then 2 ^ 22 else -(2 ^ 22)) else quot 102 (θ' * 2 ^ 23) pi60.toNat

/-- The sum 1 + x + x²/2 + x³/6 + … over n terms, in units of 2^-60. -/
def expSeries (x : Int) : Nat → Nat → Int → Int
  | 0, _, _ => 0
  | n + 1, k, t => t + expSeries x n (k + 1) (t * x / one60 / k)

/-- The linear amplitude of a gain in decibels, 10^(g/20), in units of 2^-23. -/
def amplitude (g : Rat) : Nat :=
  let y := g.num * log60 / g.den
  let k := y / one60
  let e := expSeries (y % one60 * ln60 / one60) 24 1 one60
  if g = 0 then 2 ^ 23
  else (quot 103 (e * 2 ^ (23 + k).toNat) (2 ^ (60 + (-23 - k).toNat))).toNat

/-! ## Filters of linear phase -/

/-- The prototype filter of the Leek, whose 92,160 taps are symmetric about the point half a tick after its centre (R173). -/
def leekTap (d : Int) : Int := leekHalf (2 * d + 1).natAbs

/-- A filter of the table of R180: of odd length and symmetric. -/
def stageTap (id : Nat) (d : Int) : Int := stageHalf id d.natAbs

/-! ## First-order filters -/

/-- The pole of the 5 Hz high-pass at 256 kS/s, e^(-2π 5 / 256,000), and the weight 1 - e^(-1 / 3,200) of the 100 ms average
at 32 kS/s, in units of 2^-40 (R206, R212). -/
def highPole : Int := 1099376705678
def avgWeight : Int := 343543702

/-- The next output of the 5 Hz high-pass of R206, of the input, the input before and the output before. -/
def highPass (x prev out : Int) : Int := quot 104 (highPole * (out + x - prev)) (2 ^ 40)

/-- The next value of the 100 ms average of R212. -/
def averageC (c x : Int) : Int := c + quot 105 (avgWeight * (x - c)) (2 ^ 40)

/-- The next output of a first-order filter of unit gain at 0 Hz, of the weights of the input before and of the output before
in units of 2^-23, the input, the input before and the output before. -/
def firstOrder (place : Nat) (b a x prev out : Int) : Int := quot place ((2 ^ 23 - b - a) * x + b * prev + a * out) (2 ^ 23)

/-- The next output of the de-emphasis of R210 by its code. -/
def deEmphasis (code : Nat) : Int → Int → Int → Int := firstOrder 106 (deEmphIn code) (deEmphOut code)

/-- The next output of the pre-emphasis of R461 by its code, which mirrors R210. -/
def preEmphasis (code : Nat) : Int → Int → Int → Int := firstOrder 110 (preEmphIn code) (preEmphOut code)

/-! ## Loops and correlators -/

/-- An integer held within bounds. -/
def within (lo hi x : Int) : Int := max lo (min hi x)

/-- The next phase of the pilot PLL of R208 after a multiplex sample, in units of 2^-24 turns: 19 kHz at 256 kS/s, pulled by
at most 20 Hz. -/
def pilotPhase (θ : Nat) (x : Int) : Nat := (θ + (within 1243874 1246494 (pilotStep θ x)).toNat) % 16777216

/-- The next phase and frequency of the carrier tracker of R212 after a sample, and whether it is locked: a second-order
loop on the sample's phase against the tracked one, pulled by at most 2 kHz at 32 kS/s.  Phases are in units of 2^-23 half
turns. -/
def track (θ freq : Int) (lock : Bool) (x : Cx) : Int × Int × Bool :=
  let e := (arg x - θ + 2 ^ 23) % 2 ^ 24 - 2 ^ 23
  let f := within (-1048576) 1048576 (freq + quot 107 (trackI * e) (2 ^ 23))
  (θ + f + quot 108 (trackP * e) (2 ^ 23), f, trackLock lock e x)

/-- The sums of a multiplex against the cosine and the sine of 2π k n / d over its samples n, in units of 2^-46. -/
def correlate (k d : Nat) (l : List Int) : Int × Int :=
  l.zipIdx.foldl (fun a x => (a.1 + x.1 * cosine (k * x.2) d, a.2 + x.1 * sine (k * x.2) d)) (0, 0)

/-- The pilot deviation of a multiplex on the scale ±1.0 = ±128 kHz, by a 19 kHz correlator, in 0.1 kHz (R214). -/
def pilotOf (l : List Int) : Nat :=
  let c := correlate 19 256 l
  (quot 109 (2 * 1280 * (root (c.1 * c.1 + c.2 * c.2).toNat : Nat)) (l.length * 2 ^ 46)).toNat

/-- The power of a multiplex from 64 kHz to 96 kHz and that of a sine of ±75 kHz, as a ratio (R214): the sum of the squares
of its Fourier coefficients at those frequencies. -/
def noisePower (l : List Int) : Nat × Nat :=
  let n := l.length
  let ks := (List.range n).filter fun k => decide (n ≤ 4 * k) && decide (8 * k ≤ 3 * n)
  let sum := ks.foldl (fun a k => let c := correlate k n l; a + (c.1 * c.1 + c.2 * c.2).toNat) 0
  (4 * sum * 128 ^ 2, 75 ^ 2 * n ^ 2 * 2 ^ 92)

end Sys2Proof.Config
end

