-- ==== Sys2Proof/Machine/Filters.lean ====
section
/-! DEFINITION. What the spec states of the responses of the filters whose taps it leaves open: the Leek's prototype
(spec/07 R173), the stages of R180 with the stopbands of R183 and the join of R185, the resamplers' prototypes (R189), the
de-emphasis (spec/08 R210) and the pre-emphasis that mirrors it (spec/18 R461).  The taps are free values (notes/assumptions/104.md); a part is one whose taps are as FiltersMeet
says, and a claim about a response takes that as its premise. -/

namespace Sys2Proof.Config

/-- The response of taps at positions in ticks to the frequency p / q Hz, in units of 2^-60: its two quadratures. -/
def responseAt (ticks : Nat) (l : List (Nat × Int)) (p q : Nat) : Int × Int :=
  l.foldl (fun a x => (a.1 + x.2 * turn60 (p * x.1) (q * ticks), a.2 + x.2 * turn60 (4 * p * x.1 + 3 * (q * ticks)) (4 * (q * ticks)))) (0, 0)

/-- The power of a response. -/
def responsePower (x : Int × Int) : Nat := (x.1 * x.1 + x.2 * x.2).toNat

/-- A power x lies at least n / 10 dB below a power y. -/
def Below (n x y : Nat) : Prop := x ^ 100 * 10 ^ n ≤ y ^ 100

/-- A power x lies within n / 100 dB of a power y. -/
def Near (n x y : Nat) : Prop := x ^ 1000 ≤ y ^ 1000 * 10 ^ n ∧ y ^ 1000 ≤ x ^ 1000 * 10 ^ n

/-- Taps attenuate by n / 10 dB or more, against 0 Hz, from lo to hi hertz. -/
def StopBand (ticks : Nat) (l : List (Nat × Int)) (n lo hi : Nat) : Prop :=
  ∀ p q, 0 < q → lo * q ≤ p → p ≤ hi * q → Below n (responsePower (responseAt ticks l p q)) (responsePower (responseAt ticks l 0 1))

/-- Taps are flat within n / 100 dB of 0 Hz up to hi hertz. -/
def PassBand (ticks : Nat) (l : List (Nat × Int)) (n hi : Nat) : Prop :=
  ∀ p q, 0 < q → p ≤ hi * q → Near n (responsePower (responseAt ticks l p q)) (responsePower (responseAt ticks l 0 1))

/-- The taps of the Leek's prototype, first one first: 92,160, one a tick. -/
def leekTaps : List (Nat × Int) := (List.range 92160).map fun j => (j, leekTap ((j : Int) - 46080))

/-- The taps of a stage of R180 that reaches half samples of tin ticks to either side. -/
def stageTaps (id half tin : Nat) : List (Nat × Int) :=
  (List.range (2 * half + 1)).map fun j => (j * tin, stageTap id (((j : Int) - half) * tin))

/-- The taps of a resampler prototype at 256 times its input rate: phase p of tap m at 256 m + p (R188). -/
def rsTaps (proto : Nat) : List (Nat × Int) := (List.range 8192).map fun k => (k, rsTap proto (k % 256) (k / 256))

/-- The prototype of a Leek (R173): a component of amplitude a codes at the bin centre gives a / 16,384, the passband of
±768 kHz is flat within ±0.02 dB, from ±1,280 kHz the attenuation is 85 dB or more, and the absolute tap sum stays below 1.6. -/
structure LeekMeets : Prop where
  gain : (leekTaps.map (·.2)).sum = 2 ^ 23
  pass : PassBand ticksPerSecond leekTaps 2 768000
  stop : StopBand ticksPerSecond leekTaps 850 1280000 1966080000
  total : 10 * (leekTaps.map fun x => x.2.natAbs).sum < 16 * 2 ^ 23

/-- A stage of R180 has unit gain at 0 Hz and attenuates by 80 dB or more from lo hertz to half its rate; the interpolating
ones weigh one in `up` of their instants. -/
structure StageMeets (id half tin up lo : Nat) : Prop where
  gain : ((stageTaps id half tin).map (·.2)).sum = up * 2 ^ 23
  stop : StopBand ticksPerSecond (stageTaps id half tin) 800 lo (ticksPerSecond / tin / 2)

/-- A prototype of R189: flat within ±0.05 dB up to pass hundredths of the input rate, and 60 dB down from stop hundredths
on; phase 256 of a tap is phase 0 of the next. -/
structure RsMeets (proto pass stop : Nat) : Prop where
  gain : ((rsTaps proto).map (·.2)).sum = 256 * 2 ^ 23
  pass : ∀ p q, 0 < q → 100 * p ≤ pass * q →
    Near 5 (responsePower (responseAt 256 (rsTaps proto) p q)) (responsePower (responseAt 256 (rsTaps proto) 0 1))
  stop : ∀ p q, 0 < q → stop * q ≤ 100 * p → p ≤ 128 * q →
    Below 600 (responsePower (responseAt 256 (rsTaps proto) p q)) (responsePower (responseAt 256 (rsTaps proto) 0 1))
  wraps : ∀ m, rsTap proto 256 m = rsTap proto 0 (m + 1)

/-- The power response of a first-order filter at 48 kS/s at p / q Hz, as a quotient, by the weights of the input before and
of the output before. -/
def orderOne (b1 a1 : Int) (p q : Nat) : Int × Int :=
  let b0 : Int := 2 ^ 23 - b1 - a1
  let c := turn60 p (q * 48000)
  ((b0 * b0 + b1 * b1) * one60 + 2 * b0 * b1 * c, (2 ^ 46 + a1 * a1) * one60 - 2 ^ 24 * a1 * c)

/-- 1 + (2 π f tau)² at p / q Hz for a time constant of tau µs, as a quotient. -/
def emphasis (tau p q : Nat) : Int × Int :=
  let w := 2 * pi60 * (p * tau : Nat)
  let unit := one60 * (q * 1000000 : Nat)
  (unit * unit + w * w, unit * unit)

/-- The de-emphasis of a time constant of tau µs follows the analogue response within ±0.1 dB from 30 Hz to 15 kHz (R210):
|H|² (1 + (2 π f tau)²) against 1. -/
def DeEmphasisMeets (code tau : Nat) : Prop :=
  ∀ p q, 0 < q → 30 * q ≤ p → p ≤ 15000 * q →
    let h := orderOne (deEmphIn code) (deEmphOut code) p q
    let e := emphasis tau p q
    Near 10 (h.1 * e.1).toNat (h.2 * e.2).toNat

/-- The pre-emphasis of a time constant of tau µs mirrors it (R461): |H|² against 1 + (2 π f tau)². -/
def PreEmphasisMeets (code tau : Nat) : Prop :=
  ∀ p q, 0 < q → 30 * q ≤ p → p ≤ 15000 * q →
    let h := orderOne (preEmphIn code) (preEmphOut code) p q
    let e := emphasis tau p q
    Near 10 (h.1 * e.2).toNat (h.2 * e.1).toNat

/-- What the spec states of the filters of the receive chains and of the lanes. -/
structure FiltersMeet : Prop where
  leek : LeekMeets
  hb1 : StageMeets 1 27 1920 1 614400
  hb2 : StageMeets 2 27 3840 1 307200
  hb3 : StageMeets 3 27 7680 1 153600
  d2 : StageMeets 4 27 15360 1 76800
  q4 : StageMeets 5 59 15360 1 38400
  fmWide : StageMeets 6 64 15360 1 120000
  fmNarrow : StageMeets 7 96 15360 1 100000
  amWide : StageMeets 8 63 61440 1 10000
  amNarrow : StageMeets 9 95 61440 1 6000
  join : PassBand ticksPerSecond (stageTaps 10 23 960) 5 1280000
  joinGain : ((stageTaps 10 23 960).map (·.2)).sum = 2 * 2 ^ 23
  dec2 : StageMeets 11 23 960 1 1248000
  rsWide : RsMeets 0 40 50
  rsMiddle : RsMeets 1 30 40
  rsNarrow : RsMeets 2 20 30
  deEmphasis50 : DeEmphasisMeets 1 50
  deEmphasis75 : DeEmphasisMeets 2 75
  preEmphasis50 : PreEmphasisMeets 1 50
  preEmphasis75 : PreEmphasisMeets 2 75

end Sys2Proof.Config
end

