-- ==== Sys2Proof/Machine/Gate.lean ====
section
/-! DEFINITION. Which registers are live (spec/03 R67, R83, spec/23 R570) and where a refusal is recorded (R79, R83),
for a write of any master.  Every register write and every command that is one passes this gate first. -/

namespace Sys2Proof.Machine

/-- Where the refusals of a register are recorded: a register of the SYS_REFUSE layout, or an instance's status
register with CODE and REFCNT. -/
inductive RefTo where
  | blk (reg : Nat)
  | inst (reg : Nat)
  deriving DecidableEq, Repr

/-- The recording place of the block or instance of native address a, by its chapter. -/
def refTarget (a : Nat) : RefTo :=
  if a < 0x1000 then .blk SYS_REFUSE
  else if a < 0x2000 then .blk EVT_REFUSE
  else if a < 0x3000 then .blk CLK_REFUSE
  else if a < 0x4000 then .blk RFE_REFUSE
  else if a < 0x10000 then .blk FAB_REFUSE
  else if a < 0x18000 then .inst (PTHn_STAT ((a - 0x10000) / 0x40))
  else if a < 0x20000 then .inst (PTHn_STAT ((a - 0x18000) / 0x40))
  else if a < 0x21000 then .inst (ENSs_STAT ((a - 0x20000) / 0x40))
  else if a < 0x22000 then .blk DAB_REFUSE
  else if a < 0x28000 then .inst (DECd_STAT ((a - 0x22000) / 0x20))
  else if a < 0x2C000 then .inst (FOLp_STAT ((a - 0x28000) / 0x40))
  else if a < 0x30000 then .blk FOL_REFUSE
  else if a < 0x34000 then .blk MRW_REFUSE
  else if a < 0x34100 then .blk SAP_REFUSE
  else if a < 0x38000 then .inst (SAPk_STAT ((a - 0x34100) / 0x100))
  else if a < 0x3C000 then .blk NET_REFUSE
  else if a < 0x40000 then .blk PCI_REFUSE
  else if a < 0x40100 then .blk SEQ_REFUSE
  else if a < 0x48000 then .inst (SEQk_STAT ((a - 0x40100) / 0x40))
  else if a < 0x4C000 then .inst EXC_STAT
  else if a < 0x50000 then .inst SLK_STAT
  else if a < 0x58000 then .blk CAL_REFUSE
  else if a < 0x60000 then .blk SEC_REFUSE
  else if a < 0x68000 then .blk REL_REFUSE
  else if a < 0x70000 then .blk OBS_REFUSE
  else if a < 0x80000 then .blk CMP_REFUSE
  else if a < 0xA0000 then .blk CAL_REFUSE
  else if a < 0xC0000 then .blk FAB_REFUSE
  else if a < 0xE0000 then .blk SEC_REFUSE
  else .blk OBS_REFUSE

/-- Record a refusal in a given place. -/
def refuseIn (p : RefTo) (code : Nat) (s : State) : State :=
  match p with
  | .blk r => refuse r code s
  | .inst r => refuseInst r code s

/-- Record a refusal of a live register at native address a where its chapter says.  A refused write to a common
register of the SLK block is recorded in SLK_REFUSE as well as in SLK_STAT (R494, R511). -/
def refuseAt (a code : Nat) (s : State) : State :=
  let s1 := refuseIn (refTarget a) code s
  if 0x4C000 ≤ a && a < 0x4C060 then refuse SLK_REFUSE code s1 else s1

/-- The feature bits a register needs in RUN (R83, R570 and the chapters). -/
def featsFor (a : Nat) : List Nat :=
  if a < 0x3000 then []
  else if FAB_PR_SRC ≤ a && a ≤ FAB_PR_CNT then [0, 20]
  else if a < 0x20000 then [0]
  else if a < 0x22000 then [6]
  else if a < 0x28000 then [6, 7]
  else if a < 0x30000 then [8]
  else if a = MRW_STAT || (0x30010 ≤ a && a ≤ MRW_REG_STAT) then []
  else if a < 0x38000 then [0]
  else if a < 0x3C000 then [2]
  else if a < 0x40000 then [1]
  else if a < 0x48000 then [0]
  else if a < 0x4C000 then [9]
  else if SLK_HOPCTL = a || (SLK_HOP 0 ≤ a && a < SLK_HOP 64) then [10, 22]
  else if a < 0x50000 then [10]
  else if a < 0x58000 then [0]
  else if a = SEC_CMD || a = SEC_NVLEN then [0]
  else if a < 0x60000 then []
  else if a = REL_INJECT then [18]
  else if a < 0x68000 then []
  else if a = OBS_CTL || a = OBS_TBLK || a = OBS_SPILL || a = OBS_SNAP
      || (OBS_TEVT 0 ≤ a && a < OBS_TEVT 8) || (OBS_CCFG 0 ≤ a && a < OBS_CCFG 1024) then [0]
  else if a < 0x70000 then []
  else if a < 0x80000 then [17]
  else if a < 0xA0000 then [0]
  else if a < 0xC0000 then [0, 20]
  else if a < 0xE0000 then [0]
  else []

/-- The registers that answer reads in ROM and LOADED beside SYS: CLK, and the status registers of SEC, REL and OBS
with the OBS counters (R67). -/
def readsEarly (a : Nat) : Bool :=
  a < 0x1000 || (0x2000 ≤ a && a < 0x3000) || (0x58000 ≤ a && a < 0x70000 && (featsFor a).isEmpty)

/-- The mode registers, live from NEGOTIATE (R67, R83, R300). -/
def modeReg (a : Nat) : Bool :=
  a < 0x3000 || a = MRW_STAT || (0x30010 ≤ a && a ≤ MRW_REG_STAT)
    || (0x58000 ≤ a && a < 0x70000 && (featsFor a).isEmpty)

/-- The registers the personality reaches whatever other features are active (R83): the PTH and DEM registers of paths 0
to 3, the FOL registers that serve programmes 0 to 3, those that every programme shares among them, and the registers of
SAP0 and SAP1. -/
def ktResource (a : Nat) : Bool :=
  (0x10000 ≤ a && a < 0x10100) || (0x18000 ≤ a && a < 0x18100) || (0x28000 ≤ a && a < 0x28100)
    || a = FOL_CMD || a = FOL_CLIST || a = FOL_CSEL || (FOL_CINFO0 ≤ a && a ≤ FOL_CINFO3) || (0x34100 ≤ a && a < 0x34300)

/-- Whether the register at address a is live for a read or a write in RUN. -/
def State.liveRun (s : State) (a : Nat) : Bool := (featsFor a).all s.feat

/-- The host bus reaches no native register while KT-440 mode is strapped: it carries only the personality's mirror
(R22, R34). -/
def State.busBarred (s : State) (m : Master) : Bool := m == .hostBus && s.boot.straps.hbMode

/-- Whether a write by master m reaches the register at address a. -/
def State.liveWrite (s : State) (m : Master) (a : Nat) : Bool :=
  if s.pwr.inReset || s.busBarred m then false
  else if m = .personality && s.ktOwned && (ktResource a || 0x70000 ≤ a && a < 0x80000) then true
  else if s.stage < 3 then decide (a < 0x1000)
  else if s.stage = 3 then modeReg a
  else s.liveRun a

/-- Whether a read by master m is answered with the register's value rather than 0. -/
def State.liveRead (s : State) (m : Master) (a : Nat) : Bool :=
  if s.pwr.inReset || s.busBarred m then false
  else if m = .personality && s.ktOwned && (ktResource a || 0x70000 ≤ a && a < 0x80000) then true
  else if s.stage < 3 then readsEarly a
  else if s.stage = 3 then modeReg a
  else s.liveRun a

/-- Whether any register or writable window lies at address a: elsewhere a write is ignored, uncounted (R571). -/
def hasReg (a : Nat) : Bool :=
  (findReg (blockRegs a) a).isSome || (0x80000 ≤ a && a < 0xE0000)

/-- The register that records refusals for address a is live. -/
def State.refLive (s : State) (a : Nat) : Bool :=
  match refTarget a with
  | .blk r => s.liveRun r
  | .inst r => s.liveRun r

/-- Record a NOTLOCKED refusal of a register that is not live: in SYS_REFUSE before RUN, from RUN in the block's own
place where that is live and in SYS_REFUSE otherwise (R79, R83). -/
def refuseDead (a : Nat) (s : State) : State :=
  if s.stage = 4 && s.refLive a then refuseAt a codeNotLocked s else refuse SYS_REFUSE codeNotLocked s

/-- The TBLK bit of the block of native address a (R570); 21 for the windows. -/
def blockBit (a : Nat) : Nat :=
  if a < 0x4000 then a / 0x1000
  else if a < 0x10000 then 4
  else if a < 0x30000 then 5 + (a - 0x10000) / 0x8000
  else if a < 0x40000 then 9 + (a - 0x30000) / 0x4000
  else if a < 0x48000 then 13
  else if a < 0x50000 then 14 + (a - 0x48000) / 0x4000
  else if a < 0x70000 then 16 + (a - 0x50000) / 0x8000
  else if a < 0x80000 then 20 else 21

/-- INFO [7:4] of a register-write record (R566); the personality runs on SQ0. -/
def masterNumber (m : Master) : Nat :=
  match m with
  | .hostBus => 0
  | .pcie => 1
  | .casrum => 2
  | .core k => 3 + k
  | .personality => 3

/-- The REG_WRITE trace record of a write that reaches a block set in OBS_TBLK (R566). -/
def traceRegWrite (m : Master) (a w : Nat) (s : State) : State :=
  if blockBit a < 21 && (s.getF OBS_TBLK_MASK).testBit (blockBit a) then
    trace 2 (masterNumber m * 16 + a / 0x40000 % 4) (a / 4) w s.now s
  else s

/-- Run the effect of a write of w to address a by master m where the register is live; otherwise record the refusal.
In the internal reset nothing answers (R67), and a host bus strapped to KT-440 issues no native write (R34). -/
def gated (m : Master) (a w : Nat) (f : State → State) (s : State) : State :=
  if s.pwr.inReset || s.busBarred m || !hasReg a then s
  else if s.liveWrite m a then f (traceRegWrite m a w s)
  else refuseDead a (traceRegWrite m a w s)

/-- The fields of the register at address a. -/
def regFields (a : Nat) : List FieldDesc :=
  match findReg (blockRegs a) a with
  | some (r, _, _) => r.fields
  | none => []

/-- Every field of w lies in its range (R10). -/
def regOk (a : Nat) (w : Word) : Bool := fieldsOk (regFields a) w.toNat

/-- Place w in the register at address a as its access types say (R8, R9). -/
def regPut (a : Nat) (w : Word) (s : State) : State :=
  s.wr a (BitVec.ofNat 32 (fieldsWrite (regFields a) (s.rd a).toNat w.toNat))

/-- Write w to the register at address a: refused whole where a field's value is reserved (R10). -/
def plainWrite (a : Nat) (w : Word) (s : State) : State :=
  if regOk a w then regPut a w s else refuseAt a codeReserved s

/-- A write that leaves every field at its present value (R11): it is not refused on account of a field that may only
be written in certain states. -/
def keeps (a : Nat) (w : Word) (s : State) : Bool := regPut a w s == s

/-- A write that leaves every field but f at its present value, whatever it carries in unused bits (R9, R11). -/
def keepsBut (f : Fld) (w : Word) (s : State) : Bool :=
  keeps f.reg (BitVec.ofNat 32 (putBits w.toNat f.hi f.lo (s.getF f))) s

/-- EVT_CLEAR_WRITE: a write to a group's STAT or to a summary bitmap word (R376, R377). -/
def evtClear (a : Nat) (w : Word) (s : State) : State :=
  if a < EVT_SUM 0 0 then clearStat ((a - EVT_Gg_STAT 0) / 0x20) w.toNat s
  else clearSum ((a - EVT_SUM 0 0) / 0x40) ((a - EVT_SUM 0 0) % 0x40 / 4) w.toNat s

/-- Whether address a is a STAT register or a bitmap word of the EVT block. -/
def isEvtClear (a : Nat) : Bool :=
  (EVT_Gg_STAT 0 ≤ a && a < EVT_Gg_STAT 8 && (a - EVT_Gg_STAT 0) % 0x20 = 0)
    || (EVT_SUM 0 0 ≤ a && a < EVT_SUM 16 0 && a % 4 = 0)

/-- EVT_CLEAR_WRITE at the EVT block's serialisation point. -/
def execEvtClearWrite (m : Master) (a : Nat) (v : Word) (s : State) : Host.Outcome State Fault Refusal :=
  .next (if isEvtClear a then gated m a v.toNat (evtClear a v) s else s)

end Sys2Proof.Machine
end

