-- ==== Sys2Proof/Machine/ExcOps.lean ====
section
/-! DEFINITION. The mute paths of the exciter (spec/18 R466, R470), shared by the clock, supply, licence and fault
rules that trigger them. -/

namespace Sys2Proof.Machine

/-- Mute causes of EXC_STAT.MCAUSE (R470, R475). -/
def causeHost : Nat := 1
def causePaFault : Nat := 2
def causeSpll : Nat := 3
def causeHk : Nat := 4
def causeLicence : Nat := 5
def causeOverpower : Nat := 6
def causeTemplate : Nat := 7
def causeSource : Nat := 8

/-- EXC_STAT.STATE (R466). -/
def State.excState (s : State) : Nat := s.getF EXC_STAT_STATE

/-- Drive the PA balls and mute or release the DAC. -/
def paBalls (vdd bias rf mute : Bool) (s : State) : State :=
  { s with pins := { s.pins with paVdd := vdd, paBias := bias, paRf := rf, dacMuted := mute } }

/-- What an unlisted lane and an unlisted calibration hold. -/
def laneNone (_ : Nat) : Lane := {}
def calNone (_ : Nat) : Cal := {}

/-- Lane i beside its registers. -/
def State.lane (s : State) (i : Nat) : Lane := sget laneNone s.exc.lanes i

/-- Replace lane i. -/
def State.setLane (i : Nat) (v : Lane) (s : State) : State := { s with exc := { s.exc with lanes := sset laneNone i v s.exc.lanes } }

/-- Pair up a list of interleaved samples. -/
def pairUp : List Int → List (Int × Int)
  | l :: r :: t => (l, r) :: pairUp t
  | _ => []

/-- The stereo samples of an audio block; a mono one has each sample on both channels. -/
def stereo (l : List Int) : List (Int × Int) := if l.length ≤ 64 then l.map fun x => (x, x) else pairUp l

/-- A content block reaches every lane that draws on its source (R464): 1 programme, 2 SAP slot pair, 3 AES67
receiver. -/
def laneFeed (kind num : Nat) (b : Block) (s : State) : State :=
  forEach ((List.range 8).filter fun i =>
      s.flag (XLi_CTL_EN i) && s.getF (XLi_CTL_KIND i) == kind && s.getF (XLi_CTL_NUM i) == num)
    (fun i s => s.setLane i { s.lane i with content := (s.lane i).content ++ [b] }) s

/-- Calibration n beside its registers. -/
def State.cal (s : State) (n : Nat) : Cal := sget calNone s.cals n

/-- Replace calibration n. -/
def State.setCal (n : Nat) (v : Cal) (s : State) : State := { s with cals := sset calNone n v s.cals }

/-- A calibration is rejected with a reason: counted, raised, nothing applied; the STALE span ends at the next block
boundary, and a start-up or temperature request is made again later (R517, R520, R523). -/
def calReject (n reason : Nat) (s : State) : State :=
  let s1 := ((s.setF (CALn_STAT_STATE n) 0).setF (CALn_STAT_LASTRES n) 3).setF (CALn_STAT_REASON n) reason
  let c := s1.cal n
  let c1 := { c with src := 0, ta := none, retry := c.retry || c.src == 1 || c.src == 2, spanOpen := false,
                     spanTo := if c.spanOpen then s.blockAt s.now else c.spanTo }
  raise evCalReject n ((s1.setCal n c1).bump (CALn_CNT_REJECTS n))

/-- Milliseconds of EXC_SEQ in ticks. -/
def State.seqTicks (s : State) (f : Fld) : Nat := s.getF f * Config.ticksPerMs

/-- A ramp that lasts len ticks, at an instant. -/
def Ramp.over (r : Ramp) (len u : Nat) : Rat :=
  if r.at_ + len ≤ u then r.to_ else r.from_ + (r.to_ - r.from_) * (u - r.at_ : Nat) / len

/-- The drive of lane i at an instant, relative to its gain (R467, R468, R473). -/
def State.driveAt (s : State) (i u : Nat) : Rat := (s.lane i).drive.over (s.seqTicks EXC_SEQ_RAMP_MS) u

/-- The drive of lane i falls to zero over RAMP_MS from its present value (R468, R473). -/
def laneFall (i : Nat) (s : State) : State := s.setLane i { s.lane i with drive := ⟨s.now, s.driveAt i s.now, 0⟩ }

/-- A LOOP run ends before PA_RF_EN rises or with the loss of lock (R516, R518). -/
def calAbandon (s : State) : State := if s.getF (CALn_STAT_STATE 4) = 2 then calReject 4 3 s else s

/-- The gain of a lane that has never been driven: the spec states none (notes/assumptions/5.md). -/
def laneGain (i : Nat) (s : State) : Int × State :=
  match (s.lane i).gain with
  | some g => (g, s)
  | none =>
    let f := s.free
    let g := signedOf 15 f.1
    (g, f.2.setLane i { f.2.lane i with gain := some g })

/-- The hold of R475: DPD_EN with a model that has not converged since its last reset. -/
def State.hold10 (s : State) : Bool := s.flag EXC_CTL_DPD_EN && !s.exc.dpd.converged

/-- Lane i ramps up from zero, under the hold of R475 where it applies (R473). -/
def laneRise (i : Nat) (s : State) : State :=
  let g := laneGain i s
  ((g.2.setLane i { g.2.lane i with down := false, drive := ⟨s.now, 0, 1⟩ }).setF (XLi_STAT_STATE i) 1).setI (XLi_PWR_GAIN i) g.1
    |>.setB (XLi_STAT_HELD10 i) s.hold10

/-- Lane i is silent, in a given state. -/
def laneSilent (i st : Nat) (s : State) : State :=
  ((s.setLane i { s.lane i with down := false, drive := ⟨s.now, 0, 0⟩ }).setF (XLi_STAT_STATE i) st).setF (XLi_PWR_GAIN i) 0x8000

/-- The lanes follow the exciter's state (R467, R473): enabled lanes ramp with RAMPUP and are ON with ON; outside
RAMPUP, ON and RAMPDN, in which they fall, they are OFF, and a muted lane stays MUTED. -/
def lanesFollow (st : Nat) (s : State) : State :=
  forEach (List.range 8) (fun i s =>
    let ls := s.getF (XLi_STAT_STATE i)
    if ls = 3 then s
    else if st = 3 then (if s.flag (XLi_CTL_EN i) then laneRise i s else s)
    else if st = 4 then (if ls = 1 then s.setF (XLi_STAT_STATE i) 2 else s)
    else if ls = 0 then s
    else if st = 5 then laneFall i s
    else laneSilent i 0 s) s

/-- Enter an exciter state with the balls of R466; the DAC is released in RAMPUP, ON and RAMPDN only.  A LOOP
calibration is abandoned before PA_RF_EN rises (R518). -/
def excEnter (st : Nat) (s : State) : State :=
  let s0 := calAbandon s
  let s1 := if st = 3 then { s0 with exc := { s0.exc with clipTo := s.now } } else s
  lanesFollow st (paBalls (1 ≤ st && st ≤ 6) (2 ≤ st && st ≤ 6) (3 ≤ st && st ≤ 5) (!(3 ≤ st && st ≤ 5)) (s1.setF EXC_STAT_STATE st))

/-- Record a mute of the whole exciter: its cause, the count and EXC_MUTE with no instance (R470). -/
def excMuted (cause : Nat) (s : State) : State :=
  raise evExcMute noInst ((s.setF EXC_STAT_MCAUSE cause).bump EXC_CNT_MUTES)

/-- PA_RF_EN low, the DAC muted and the state HELD, from any keyed or keying state (R470).  A sequence that an UNKEY is
running down goes on from the balls that are high. -/
def excHold (cause : Nat) (s : State) : State :=
  if 1 ≤ s.excState && s.excState ≤ 5 then
    let s1 := excMuted cause (excEnter 6 s)
    { s1 with exc := { s1.exc with
        step := if s1.exc.down then .biasDown else .none, heldBySpll := decide (cause = causeSpll) } }
  else s

/-- All three balls released and the DAC muted, with the state OFF (R470, HK crystal stopped). -/
def excRelease (cause : Nat) (s : State) : State :=
  if s.excState = 0 then paBalls false false false true s
  else
    let s1 := excMuted cause (excEnter 0 s)
    { s1 with exc := { s1.exc with step := .none, down := false, heldBySpll := false } }

/-- An RDS group that path n delivers waits at every lane whose XLi_RDS names the path (R462). -/
def excRdsPush (n : Nat) (words : List Nat) (s : State) : State :=
  forEach (List.range 8) (fun i s =>
    if s.flag (XLi_RDS_EN i) && s.getF (XLi_RDS_PATH i) == n then s.setLane i { s.lane i with rdsq := (s.lane i).rdsq ++ [words] } else s) s

end Sys2Proof.Machine
end

