-- ==== Sys2Proof/Machine/Moves.lean ====
section
/-! DEFINITION. What a STEP of SYSCNT does to recorded instants and to the blocks that wait for release (spec/04 R107,
R108, R586). -/

namespace Sys2Proof.Machine

/-- Replace every value of a sparse table. -/
def mapTable {α : Type} [DecidableEq α] (dflt : Nat → α) (f : α → α) (m : List (Nat × α)) : List (Nat × α) :=
  m.foldl (fun r p => sset dflt p.1 (f p.2) r) []

/-- An instant whose count moves by d. -/
def moved (d : Int) (t : Nat) : Nat := ((t : Int) + d).toNat

/-- A pair whose first component is an instant. -/
def movedFst {α : Type} (d : Int) (p : Nat × α) : Nat × α := (moved d p.1, p.2)

/-- The recorded instants of the sample PLL, and the phase of the block boundaries (R128). -/
def Clock.move (d : Int) (c : Clock) : Clock :=
  { c with lfsrAt := moved d c.lfsrAt, lockedAt := moved d c.lockedAt, suspectFrom := moved d c.suspectFrom
           adjs := c.adjs.map (movedFst d), blockPhase := ((c.blockPhase + d) % 64).toNat }

/-- An ADC block taken before the step. -/
def AdcBlock.move (d : Int) (b : AdcBlock) : AdcBlock := { b with ts := moved d b.ts }

/-- A run of sample instants. -/
def Span.move (d : Int) (r : Span) : Span := { r with lo := moved d r.lo, hi := if r.hi = 2 ^ 70 then r.hi else moved d r.hi }

/-- The blocks of an input run on across the step (R120, R128, R129). -/
def Input.move (d : Int) (i : Input) : Input :=
  { i with boundary := moved d i.boundary, gains := i.gains.map (movedFst d), next := moved d i.next
           buf := i.buf.map (AdcBlock.move d), hist := i.hist.map (AdcBlock.move d), journal := i.journal.map (AdcBlock.move d), spans := i.spans.map (Span.move d)
           marks := i.marks.map (Span.move d), steps := (moved d i.next, d) :: i.steps.map (movedFst d) }

/-- What an unlisted input holds: ORX has no LNA and no attenuation in force. -/
def inputNone (a : Nat) : Input := if a = 2 then { gain0 := ⟨false, 0⟩ } else {}

/-- A calibration's instants (R514 to R520). -/
def Cal.move (d : Int) (c : Cal) : Cal :=
  { c with asked := moved d c.asked, spanFrom := moved d c.spanFrom, spanTo := moved d c.spanTo, ta := c.ta.map (moved d)
           firstAt := c.firstAt.map (moved d) }

/-- A pod's instants (R152, R154, R555 to R559).  A pod that is loaded enters ACTIVE at the first release instant that the
stepped count reaches from now on (R156, R172). -/
def Pod.move (d : Int) (now : Nat) (p : Pod) : Pod :=
  { p with activeAt := moved d p.activeAt, faultAt := moved d p.faultAt, loadedAt := p.loadedAt.map fun _ => now
           drainAt := moved d p.drainAt, backAt := p.backAt.map (moved d) }

/-- A candidate's instants, those in programme time apart (R256, R260, R262). -/
def Cand.move (d : Int) (c : Cand) : Cand :=
  { c with badSince := moved d c.badSince, lost := c.lost.map (moved d), above := c.above.map (moved d) }

/-- Fennel's instants (R104, R254, R257, R258). -/
def Fennel.move (d : Int) (f : Fennel) : Fennel :=
  { f with
    progs := mapTable (fun _ => ({} : Prog)) (fun v =>
      { v with cands := v.cands.map fun q => (q.1, q.2.move d), bridgeAt := v.bridgeAt.map (moved d) }) f.progs
    pool := f.pool.map fun q => (q.1, { q.2 with idle := q.2.idle.map (moved d) })
    retry := f.retry.map fun q => (q.1, q.2.1, moved d q.2.2)
    decIdle := f.decIdle.map fun q => (q.1, moved d q.2) }

/-- The output period of a preset in ticks (R183). -/
def presetTout (p : Nat) : Nat :=
  if p = 0 || p = 10 then 1920 else if p = 1 then 3840 else if p = 2 then 7680 else if p = 3 then 15360
  else if p = 4 then 30720 else if p = 5 then 61440 else 81920

/-- The sample period at the channel filter of a preset (R181). -/
def presetChan (p : Nat) : Nat := if p = 6 || p = 7 then 15360 else if p = 8 || p = 9 then 122880 else presetTout p

/-- A run's instants: its samples run on across the step, and its next blocks start on the grid of the stepped count (R174,
R182; notes/assumptions/148.md). -/
def Run.move (d : Int) (r : Run) : Run :=
  let p := bitsOf r.ctl 15 12
  let base := ceilTo (64 * presetTout p) (moved d r.base)
  let e : Int := base - r.base
  { r with base := base, stop := r.stop.map (moved e), chanNext := ceilTo (64 * presetChan p) (moved d r.chanNext)
           chan := r.chan.map fun b => { b with ts := moved d b.ts }
           marks := r.marks.map (Span.move d), pre := r.pre.map fun b => { b with ts := moved e b.ts } }

/-- A path's instants on the running stream: its runs, the changes of its shifts and its VOID tokens (R187, R196). -/
def Path.move (d : Int) (p : Path) : Path :=
  { p with runs := p.runs.map (Run.move d), shifts := p.shifts.map (movedFst d), voids := p.voids.map (Span.move d) }

/-- A demodulator's instants; the window in progress is the one that holds its first instant by the new count (R228). -/
def Dem.move (d : Int) (v : Dem) : Dem :=
  { v with counted := moved d v.window, unsyncAt := moved d v.unsyncAt, badFrom := moved d v.badFrom, lostFrom := moved d v.lostFrom, ctlFrom := moved d v.ctlFrom
           window := moved d v.window / 15728640 * 15728640
           before := v.before.map (movedFst d), bitAt := v.bitAt.map fun x => (x.1, moved d x.2)
           cand := v.cand.map fun b => { b with t := moved d b.t }
           group := v.group.map fun b => { b with t := moved d b.t }
           sep := v.sep.map fun r => { r with at_ := moved d r.at_ }
           mute := v.mute.map fun r => { r with at_ := moved d r.at_ } }

/-- A slot's measured frames, which go on by the new count (R247). -/
def Slot.move (d : Int) (v : Slot) : Slot := { v with frames := v.frames.map (movedFst d), lostAt := moved d v.lostAt, erasedTo := v.erasedTo.map (moved d) }

/-- A decoder's timeline goes on by the new count (R247). -/
def Decoder.move (d : Int) (v : Decoder) : Decoder :=
  { v with runAt := moved d v.runAt, errFrom := moved d v.errFrom, fails := v.fails.map fun r => (moved d r.1, moved d r.2) }

/-- The service link's instants (R487 to R510). -/
def Slk.move (d : Int) (k : Slk) : Slk :=
  { k with powerBy := moved d k.powerBy, lockBy := moved d k.lockBy, calBy := moved d k.calBy, reqAt := moved d k.reqAt
           txAt := moved d k.txAt, endAt := k.endAt.map (moved d), lockAt := moved d k.lockAt, lbtBy := moved d k.lbtBy
           rx := k.rx.map fun r => { r with at_ := moved d r.at_ } }

/-- The exciter's instants: its sequence, and what each lane has sent (R460 to R473). -/
def Exciter.move (d : Int) (e : Exciter) : Exciter :=
  { e with
    due := moved d e.due, clipTo := moved d e.clipTo, orxBadTo := moved d e.orxBadTo
    lanes := mapTable (fun _ => ({} : Lane)) (fun v =>
      { v with rdsAt := moved d v.rdsAt, drive := { v.drive with at_ := moved d v.drive.at_ }
               fed := v.fed.map (movedFst d), wave := v.wave.map (movedFst d) }) e.lanes }

/-- Marrow's instants (R294, R297). -/
def Marrow.move (d : Int) (m : Marrow) : Marrow :=
  let f := fun (q : MPend) => { q with arrived := moved d q.arrived }
  { m with queue := m.queue.map f, out := m.out.map f, scrubAt := moved d m.scrubAt, fixes := m.fixes.map fun q => (q.1, q.2.map (moved d)) }

/-- The PTP port's ingress and egress stamps (R331 to R335). -/
def Ptp.move (d : Int) (p : Ptp) : Ptp :=
  { p with
    parent := p.parent.map fun a => { a with stamp := moved d a.stamp }
    sync := p.sync.map fun m => { m with stamp := moved d m.stamp }
    last := p.last.map fun q => (q.1, moved d q.2)
    accAt := moved d p.accAt
    syncs := p.syncs.map (movedFst d)
    req := p.req.map fun q => (q.1, moved d q.2)
    delayAt := moved d p.delayAt
    annAt := p.annAt.map (moved d)
    syncAt := p.syncAt.map (moved d)
    ppsAt := moved d p.ppsAt
    slaveAt := moved d p.slaveAt }

/-- The NET block's instants. -/
def Net.move (d : Int) (n : Net) : Net :=
  { n with
    ptp := n.ptp.move d
    tx := mapTable (fun _ => ({} : NetTx)) (fun v => { v with buf := v.buf.map fun x => { x with h := moved d x.h } }) n.tx
    rx := mapTable (fun _ => ({} : NetRx)) (fun v =>
      { v with tap := { v.tap with tapBuf := v.tap.tapBuf.map fun f => { f with stamp := moved d f.stamp } } }) n.rx
    iq := mapTable (fun _ => ({} : NetIq)) (fun v => { v with ctxAt := v.ctxAt.map (moved d) }) n.iq
    egr := mapTable (fun _ => ({} : Egress)) (fun v =>
      { v with queue := v.queue.map fun q => { q with at_ := moved d q.at_ }, free := moved d v.free }) n.egr }

/-- The PCIe endpoint's instants (R353 to R358). -/
def Pcie.move (d : Int) (p : Pcie) : Pcie :=
  { p with
    lines := p.lines.map fun l => { l with first := moved d l.first, again := moved d l.again }
    queues := mapTable (fun _ => ({} : Dma)) (fun v =>
      { v with first := v.first.map (moved d), waitFrom := v.waitFrom.map (moved d) }) p.queues }

/-- A core's instants (R420, R437). -/
def Core.move (d : Int) (c : Core) : Core :=
  { c with wdogAt := moved d c.wdogAt, wc := c.wc.map fun l => { l with since := moved d l.since } }

/-- The frame starts that a serial port has seen (R309). -/
def Sap.move (d : Int) (v : Sap) : Sap :=
  { v with out := { v.out with last := v.out.last.map (moved d) }, inp := { v.inp with last := v.inp.last.map (moved d) }
           tapBuf := v.tapBuf.map fun f => { f with stamp := moved d f.stamp } }

/-- Every recorded instant of the past moves with the count, so that it goes on to denote the same instant. -/
def moveInstants (d : Int) (s : State) : State :=
  { s with
    clk := s.clk.move d
    inputs := [0, 1, 2].foldl (fun l a => sset inputNone a ((sget inputNone s.inputs a).move d) l) s.inputs
    snp := { s.snp with start := moved d s.snp.start
                        tEnd := s.snp.endFrom + (64 + ((s.clk.blockPhase + d) % 64).toNat - s.snp.endFrom % 64) % 64 }
    cals := mapTable (fun _ => ({} : Cal)) (Cal.move d) s.cals
    fab := { s.fab with pods := mapTable (fun _ => ({} : Pod)) (Pod.move d s.now) s.fab.pods
                        ckptAt := moved d s.fab.ckptAt
                        voids := s.fab.voids.map fun v => (v.1, v.2.1, v.2.2.move d) }
    paths := mapTable (fun _ => ({} : Path)) (Path.move d) s.paths
    dems := mapTable (fun _ => ({} : Dem)) (Dem.move d) s.dems
    slots := mapTable (fun _ => ({} : Slot)) (Slot.move d) s.slots
    decs := mapTable (fun _ => ({} : Decoder)) (Decoder.move d) s.decs
    fol := s.fol.move d
    slk := s.slk.move d
    exc := s.exc.move d
    mrw := s.mrw.move d
    sec := { s.sec with refillAt := moved d s.sec.refillAt }
    net := s.net.move d
    pci := s.pci.move d
    recs := s.recs.map fun q => (q.1, moved d q.2.1, q.2.2)
    rel := mapTable (fun _ => ({} : Released)) (fun r => { r with at_ := r.at_.map (moved d) }) s.rel
    coal := mapTable (fun _ => ({} : Coal)) (fun c => { c with since := moved d c.since }) s.coal
    cores := mapTable (fun _ => ({} : Core)) (Core.move d) s.cores
    kt := { s.kt with tuners := mapTable (fun _ => ({} : Tuner)) (fun u => { u with t0 := moved d u.t0, asked := u.asked.map (movedFst d) }) s.kt.tuners }
    saps := mapTable (fun _ => ({} : Sap)) (Sap.move d) s.saps }

/-- The first block among those waiting for release carries DROP from now on, and whether there is one (R26). -/
def markNext : List (Nat × Option Block) → List (Nat × Option Block) × Bool
  | [] => ([], false)
  | (t, some b) :: l => ((t, some { b with flags := b.flags ||| 128 }) :: l, true)
  | q :: l => let r := markNext l; (q :: r.1, r.2)

/-- The blocks of a queue that a test on their instants names are dropped, and the next one carries DROP (R26): the queue
then, whether the mark still waits for a block, and how many were dropped. -/
def dropWhere (gone : Nat → Bool) (l : List (Nat × Option Block)) : List (Nat × Option Block) × Bool × Nat :=
  let n := l.countP fun b => gone b.1 && b.2.isSome
  let r := l.map fun b => if gone b.1 then (b.1, none) else b
  if n = 0 then (r, false, 0) else let m := markNext r; (m.1, !m.2, n)

/-- The release instant t has been skipped: it lies at or after an instant and before the count. -/
def State.skipped (s : State) (old t : Nat) : Bool := decide (old ≤ t) && decide (t < s.now)

/-- The blocks of programme p whose release instants a forward step from an instant skipped are dropped, counted and
marked on the next block (R26, R108). -/
def progSkip (old p : Nat) (s : State) : State :=
  let v := sget (fun _ => ({} : Prog)) s.fol.progs p
  let r := dropWhere (fun t => s.skipped old (t + s.getF (FOLp_DELAY_SMP p) * 81920)) v.formed
  if r.2.2 = 0 then s
  else
    let s1 := s.bumpBy (FOLp_CNT2_DROP p) r.2.2
    let w : Prog := { v with formed := r.1, dropNext := v.dropNext || r.2.1 }
    { s1 with fol := { s1.fol with progs := sset (fun _ => ({} : Prog)) p w s1.fol.progs } }

/-- The blocks of path n whose release instants the step skipped. -/
def pathSkip (old n : Nat) (s : State) : State :=
  let v := sget (fun _ => ({} : Path)) s.paths n
  let r := dropWhere (s.skipped old) v.formed
  if r.2.2 = 0 then s
  else
    let s1 := s.bumpBy (PTHn_DROP_CNT n) r.2.2
    let w : Path := { v with formed := r.1, dropNext := v.dropNext || r.2.1 }
    { s1 with paths := sset (fun _ => ({} : Path)) n w s1.paths }

/-- Latency of a codec in ticks (R240). -/
def decLatency (codec : Nat) : Nat := if codec = 1 then 1572864000 else 2044723200

/-- The latency of the blocks of decoder d; 0 unless it runs (R240). -/
def State.decLat (s : State) (d : Nat) : Nat :=
  if s.getF (DECd_STAT_STATE d) = 2 || s.getF (DECd_STAT_STATE d) = 3 then decLatency (s.getF (DECd_FMT_CODEC_ACT d)) else 0

/-- A decoder whose blocks are due at instants of its latency's grid drops the one whose release instant the step
skipped: its next block carries DROP (R26, R108). -/
def decSkip (old d : Nat) (s : State) : State :=
  let v := sget (fun _ => ({} : Decoder)) s.decs d
  let lat := s.decLat d
  let due := ceilTo Config.audioBlock (max v.runAt (old - lat)) + lat
  let runs := s.getF (DECd_STAT_STATE d) == 2 || s.getF (DECd_STAT_STATE d) == 3
  if runs && s.skipped old due then
    { s with decs := sset (fun _ => ({} : Decoder)) d { v with dropNext := true } s.decs }
  else s

/-- Every block whose release instant a forward step of the count from an instant skipped is dropped. -/
def dropSkipped (old : Nat) (s : State) : State :=
  forEach (s.decs.map (·.1)) (decSkip old)
    (forEach (s.paths.map (·.1)) (pathSkip old) (forEach (s.fol.progs.map (·.1)) (progSkip old) s))

end Sys2Proof.Machine
end

