-- ==== Sys2Proof/Machine/Clock.lean ====
section
/-! DEFINITION. The sample PLL, its references and SYSCNT (spec/04 R89 to R116), without the PTP port. -/

namespace Sys2Proof.Machine

/-! ## The HK crystal -/

/-! ## Dividers -/

/-- The divider values INT, NUM, MOD of R96 for a nominal frequency: 1 10 MHz, 2 25 MHz, 3 100 MHz. -/
def stdDivider (n : Nat) : Nat × Nat × Nat :=
  if n = 1 then (786, 54, 125) else if n = 3 then (78, 402, 625) else (314, 358, 625)

/-- The nominal frequency in Hz that a code of REF_DET or REF_MHZ names. -/
def nominalHz (n : Nat) : Nat := if n = 1 then 10000000 else if n = 2 then 25000000 else if n = 3 then 100000000 else 0

/-- Whether a frequency lies within 200 ppm of a nominal one (R91). -/
def within200 (hz nom : Nat) : Bool :=
  nom != 0 && decide (1000000 * hz ≤ 1000200 * nom) && decide (999800 * nom ≤ 1000000 * hz)

/-- Which nominal frequency a measurement in units of 1 / u Hz lies within 200 ppm of; 0 none (R91). -/
def classifyBy (u f : Nat) : Nat :=
  if within200 f (10000000 * u) then 1 else if within200 f (25000000 * u) then 2 else if within200 f (100000000 * u) then 3
  else 0

/-- Which nominal frequency a measurement in hertz lies within 200 ppm of. -/
def classifyRef (hz : Nat) : Nat := classifyBy 1 hz

/-- Load the divider values of R96 for a nominal frequency into the shadows and the active copies. -/
def loadDivider (n : Nat) (s : State) : State :=
  let d := stdDivider n
  let s1 := ((s.setF SPLL_N_INT d.1).setF SPLL_F_NUM d.2.1).setF SPLL_F_MOD d.2.2
  { s1 with clk := { s1.clk with int := d.1, num := d.2.1, mod := d.2.2 } }

/-- The VCO frequency of the shadow values lies within 200 ppm of 7,864.32 MHz (R98 item 3):
f_ref (INT + NUM / MOD), compared without division. -/
def dividerInRange (hz int num mod : Nat) : Bool :=
  decide (hz * (int * mod + num) * 1000000 ≤ 7864320000 * mod * 1000200)
    && decide (7864320000 * mod * 999800 ≤ hz * (int * mod + num) * 1000000)

/-- The SPLL follows REF_IN, rather than the HK crystal (R95). -/
def State.followsRefIn (s : State) : Bool := s.clk.follows && s.getF CLK_CTL_SRC == 0

/-- INT, NUM and MOD in force (R95, R96): the active copies while the SPLL follows REF_IN, and the HK-crystal row of R96
whenever it follows the crystal. -/
def State.divider (s : State) : Nat × Nat × Nat :=
  if s.followsRefIn then (s.clk.int, s.clk.num, s.clk.mod) else stdDivider 2

/-- The VCO frequency in hertz for a reference frequency in hertz (R95). -/
def State.vcoHz (s : State) (fref : Rat) : Rat :=
  let d := s.divider
  fref * (d.1 + d.2.1 / d.2.2) * (1 + s.getI SPLL_DCO_ADJ / 1000000000000)

/-- One shift of the 24-bit Fibonacci LFSR of x^24 + x^23 + x^22 + x^17 + 1 (R99). -/
def lfsrStep (l : Nat) : Nat :=
  let b := fun (i : Nat) => (l.testBit i).toNat
  l % 2 ^ 23 * 2 + (b 23 + b 22 + b 21 + b 16) % 2

/-- Comparisons between two instants: one for every INT + NUM / MOD cycles of the VCO, of which two make a tick. -/
def State.comparisons (s : State) (t0 t1 : Nat) : Nat :=
  let d := s.divider
  2 * (t1 - t0) * d.2.2 / (d.1 * d.2.2 + d.2.1)

/-- The LFSR as it stands now: one shift per comparison, with its period of 2^24 - 1 (R99). -/
def State.lfsrNow (s : State) : Nat :=
  Nat.repeat lfsrStep (s.comparisons s.clk.lfsrAt s.now % (2 ^ 24 - 1)) s.clk.lfsr

/-- The LSBs that the dither generator adds at the modulator's input: bit 0 of the LFSR as +1 or -1, none while DITHER
is 0 (R99). -/
def State.ditherLsb (s : State) : Int :=
  if !s.clk.dither then 0 else if s.lfsrNow.testBit 0 then 1 else -1

/-- The LFSR is brought up to now, before the divider in force changes the rate of its comparisons. -/
def lfsrSettle (s : State) : State :=
  if s.counting then { s with clk := { s.clk with lfsr := s.lfsrNow, lfsrAt := s.now } } else s

/-- The SPLL starts to follow the selected reference, or the HK crystal (R95). -/
def spllFollow (b : Bool) (s : State) : State :=
  if s.clk.follows = b then s
  else
    let s1 := lfsrSettle s
    { s1 with clk := { s1.clk with follows := b } }

/-- A write of 1 to SPLL_CMD.COMMIT (R98): the checks in order, then PEND, with the values that were checked. -/
def commitWrite (s : State) : State :=
  let mhz := s.getF CLK_CTL_REF_MHZ
  let int := s.getF SPLL_N_INT
  let num := s.getF SPLL_F_NUM
  let mod := s.getF SPLL_F_MOD
  if mhz = 0 then refuse CLK_REFUSE codeWrongState s
  else if mod ≤ num then refuse CLK_REFUSE codeReserved s
  else if !dividerInRange (nominalHz mhz) int num mod then refuse CLK_REFUSE codeReserved s
  else
    let s1 := s.setF CLK_STAT_PEND 1
    { s1 with clk := { s1.clk with commit := some (int, num, mod, s.getF SPLL_DSEED_SEED, s.flag SPLL_DSEED_DITHER) } }

/-- COMMIT: a write of SPLL_CMD.COMMIT. -/
def execSpllCommit (m : Master) (s : State) : Host.Outcome State Fault Refusal := .next (gated m SPLL_CMD 1 commitWrite s)

/-! ## States -/

/-- CLK_STAT.STATE (R102): 0 OFF, 1 FREE, 2 ACQUIRE, 3 LOCKED, 4 SLEWING, 5 HOLDOVER. -/
def State.spll (s : State) : Nat := s.getF CLK_STAT_STATE

/-- In lock for the CLK_SUSPECT flag: LOCKED or SLEWING (R102). -/
def State.inLock (s : State) : Bool := s.spll = 3 || s.spll = 4

/-- Enter an SPLL state: STATE, LOCK and SLEWING follow, HOLD_S restarts on entry to FREE or HOLDOVER from another state
and reads 0 elsewhere (R106, R112); the VCO runs in every state but OFF (R87). -/
def spllEnter (st : Nat) (s : State) : State :=
  let s1 := (s.setF CLK_STAT_STATE st).setB CLK_STAT_LOCK (st = 3 || st = 4)
  let s2 := (s1.setB CLK_STAT_SLEWING (st = 4)).setF CLK_STAT_HOLD_S (if s.spll = st then s.getF CLK_STAT_HOLD_S else 0)
  (s2.setB CLK_DOM_SMP (st != 0)).setB CLK_DOM_DAC (st != 0)

/-- SYSCNT starts to count, where it is not counting yet (R110). -/
def startCount (s : State) : State := if s.counting then s else { s with counting := true }

/-- Input a: 0 ANT_A, 1 ANT_B, 2 ORX. -/
def State.input (s : State) (a : Nat) : Input := sget inputNone s.inputs a

/-- Replace input a. -/
def State.setInput (a : Nat) (i : Input) (s : State) : State := { s with inputs := sset inputNone a i s.inputs }

/-- A rational num / den to the nearest integer, halves upwards. -/
def nearest (num den : Int) : Int := (2 * num + den) / (2 * den)

/-- The ratio of REF_IN to the HK crystal as an offset of SPLL_DCO, from the windows of the last second: their mean
frequency times the divider and the offset in force, against 7,864.32 MHz (R95, R105). -/
def State.learnedRef (s : State) : Option Int :=
  let l := s.clk.windows
  let d := s.divider
  if l.isEmpty then none
  else
    let num : Int := (l.sum * (d.1 * d.2.2 + d.2.1) : Nat)
    let den : Int := (l.length * d.2.2 * 7864320000000 : Nat)
    some (nearest (num * (1000000000000 + s.getI SPLL_DCO_ADJ) - den * 1000000000000) den)

/-- Offset times ticks of the servo's values from an instant on, latest first, up to an instant. -/
def adjArea (from' : Nat) : Nat → List (Nat × Int) → Int × Nat
  | _, [] => (0, 0)
  | to', (t, x) :: l =>
    let lo := max from' t
    let rest := adjArea from' (min to' t) l
    (rest.1 + x * ((to' - lo : Nat) : Int), rest.2 + (to' - lo))

/-- The servo's offset averaged over the last second (R105). -/
def State.learnedPtp (s : State) : Option Int :=
  let a := adjArea (s.now - Config.ticksPerSecond) s.now s.clk.adjs
  if a.2 = 0 then none else some (nearest a.1 a.2)

/-- The offset that HOLDOVER freezes: the average over the last second of lock (R105), within the range of SPLL_DCO.ADJ.
Where that second holds no measurement of it, it is a free value (notes/assumptions/13.md). -/
def State.learned (s : State) : Int × State :=
  match if s.getF CLK_CTL_SRC = 1 then s.learnedPtp else s.learnedRef with
  | some x => (clampInt (-200000000) 200000000 x, s)
  | none => (clampInt (-200000000) 200000000 (signedOf 32 s.free.1), s.free.2)

/-- CLK_SUSPECT on every block that waits in an elastic buffer with a sample instant at or after tf (R103). -/
def bufSuspect (tf : Nat) (s : State) : State :=
  forEach [0, 1] (fun a s =>
    if (s.input a).buf.isEmpty then s
    else s.setInput a { s.input a with
      buf := (s.input a).buf.map fun b => if tf ≤ b.ts + 63 then { b with flags := b.flags ||| 4 } else b }) s

/-- The loss of lock at a decision instant whose first failing comparison is at tf (R103): HOLDOVER after at least 1 s
of lock with SPLL_DCO.ADJ frozen at the learned ratio (R105), otherwise FREE; the exciter is held. -/
def spllLose (tf : Nat) (s : State) : State :=
  if s.inLock then
    let long := decide (s.clk.lockedAt + Config.ticksPerSecond ≤ s.now)
    let l := s.learned
    let s0 := spllFollow false (if long then l.2.setI SPLL_DCO_ADJ l.1 else s)
    let s1 := spllEnter (if long then 5 else 1) s0
    let s3 := (s1.setF CLK_STAT_REF_OK 0).bump CLK_CNT_LOSSES
    let s4 := bufSuspect tf { s3 with clk := { s3.clk with slew := 0, suspectFrom := tf, windows := [], adjs := [] } }
    raise evSpllLoss noInst (calAbandon (excHold causeSpll s4))
  else s

/-- A loss of lock that no failing comparison comes with: tf is the decision instant (notes/assumptions/103.md). -/
def spllLoseNow (s : State) : State := spllLose s.now s

/-- SPLL_LOSS: a loss condition of R100 is completed. -/
def execSpllLoss (tf : Nat) (s : State) : Host.Outcome State Fault Refusal := .next (spllLose tf s)

/-- The ratio INT + NUM/MOD changes between two divider settings. -/
def ratioChanges (i n m i' n' m' : Nat) : Bool := (i * m + n) * m' != (i' * m' + n') * m

/-- The values of an accepted COMMIT become active together, and the LFSR reloads from SEED (R98). -/
def commitTake (v : Nat × Nat × Nat × Nat × Bool) (s : State) : State :=
  let s1 := { s with clk := { s.clk with
    int := v.1, num := v.2.1, mod := v.2.2.1, seed := v.2.2.2.1, dither := v.2.2.2.2, lfsr := v.2.2.2.1, lfsrAt := s.now
    commit := none } }
  raise evDivCommit noInst (s1.setF CLK_STAT_PEND 0)

/-- DIV_COMMIT: at the next comparison the committed values become active.  While the SPLL follows REF_IN, a change of
f_VCO is a loss of lock, at the ratio learned with the old values (R105), and a reacquisition follows (R98). -/
def execDivCommit (s : State) : Host.Outcome State Fault Refusal :=
  .next <|
    match s.clk.commit with
    | some v =>
      let c := s.clk
      let moved := s.followsRefIn && ratioChanges c.int c.num c.mod v.1 v.2.1 v.2.2.1
      if moved then spllFollow true (spllEnter 2 ((commitTake v (spllLoseNow s)).setF CLK_STAT_REF_OK 1)) else commitTake v s
    | none => s

/-- A write of CLK_CTL.SRC (R93): a change while LOCKED or SLEWING is a loss of lock, followed by a return on the new
source.  Selecting PTP while bit 3 is not active leaves the SPLL in FREE (R94).  That selecting FREE does so at once too,
and that a change in ACQUIRE gives the acquisition up, is notes/assumptions/102.md.  How long REF_IN has been present does not depend on SRC. -/
def srcWrite (src : Nat) (s : State) : State :=
  if 3 ≤ src then refuse CLK_REFUSE codeReserved s
  else if s.getF CLK_CTL_SRC = src then s
  else
    let s1 := spllLoseNow s
    let s3 := (((spllFollow false s1).setF CLK_CTL_SRC src).setF CLK_STAT_REF_OK 0)
    if (src = 2 || (src = 1 && !s.feat 3)) && s3.spll != 0 then spllEnter 1 s3
    else if s3.spll = 2 then spllEnter 1 s3 else s3

/-- CLK_SRC_CHANGE: a write of CLK_CTL with a new SRC. -/
def execClkSrcChange (m : Master) (src : Nat) (s : State) : Host.Outcome State Fault Refusal :=
  .next (gated m CLK_CTL (putBits (s.rd CLK_CTL).toNat 1 0 src) (srcWrite src) s)

/-- REF_WINDOW: a 1 ms window measures REF_IN against the HK crystal as this many millihertz (R91).  Presence is judged
against the nominal value in force; a reference lost by frequency while followed is a loss of lock (R100), and REF_DET
follows the new one. -/
def execRefWindow (freq : Nat) (s : State) : Host.Outcome State Fault Refusal :=
  .next <|
    if s.pwr.inReset then s
    else
      let n := classifyBy 1000 freq
      let same := n != 0 && n = s.clk.refDet
      let lost := s.clk.refDet != 0 && !same
      let s1 := if lost && s.getF CLK_CTL_SRC = 0 && s.clk.follows
        then spllLoseNow s else s
      let s2 := if lost && s.getF CLK_CTL_SRC = 0 then s1.setF CLK_STAT_REF_OK 0 else s1
      let s3 := { s2 with clk := { s2.clk with
        refDet := n, refMs := if same then s2.clk.refMs + 1 else 0
        windows := if same then (freq :: s2.clk.windows).take 1000 else if n = 0 then [] else [freq] } }
      s3.setF CLK_STAT_REF_DET n

/-- SYSCNT moves by delta ticks (R107, R108): what is held against the count keeps its value, release instants among it,
and every recorded instant of the past moves with the count, so that it denotes the instant it did (R586).  The blocks
run on without a break (R128).  A block formed whose release instant a forward step skips is dropped (R26). -/
def stepSyscnt (delta : Int) (s : State) : State :=
  let s1 := moveInstants delta { s with syscnt := s.syscnt + BitVec.ofInt 64 delta }
  raise evSyscntStep noInst (dropSkipped s.now { s1 with clk := { s1.clk with epoch := s1.clk.epoch + 1 } })

/-- The mapping anchor moves by a number of ticks converted to nanoseconds, the fraction floored, and its generation
advances (R107 KEEP; notes/assumptions/48.md). -/
def moveAnchor (delta : Int) (s : State) : State :=
  let ns : Int := (s.getF CLK_MAP_SEC_LO_SEC + 4294967296 * s.getF CLK_MAP_SEC_HI_SEC) * 1000000000
    + s.getF CLK_MAP_NS_NS + delta * 3125 / 12288
  let t := ns.toNat
  let sec := t / 1000000000
  let s1 := ((s.setF CLK_MAP_SEC_LO_SEC sec).setF CLK_MAP_SEC_HI_SEC (sec / 4294967296)).setF CLK_MAP_NS_NS (t % 1000000000)
  let s2 := s1.setF CLK_MAP_GEN_COUNT (s1.getF CLK_MAP_GEN_COUNT + 1)
  { s2 with clk := { s2.clk with epoch := s2.clk.epoch + 1 } }

/-- The largest magnitude CLK_PHASE holds (R109). -/
def phaseMax : Int := 2147483647

/-- The selected reference is there: REF_IN present, or PTP with bit 3 active and the port in SLAVE (R91, R94).  With
SRC = FREE there is none (R116). -/
def State.refPresent (s : State) : Bool :=
  let src := s.getF CLK_CTL_SRC
  (src = 0 && s.clk.refDet != 0) || (src = 1 && s.feat 3 && s.getF NET_PTP_STAT_STATE = 9)

/-- Whether the selected source may qualify: it has been there for REF_QUAL_MS without a break (R107). -/
def State.mayQualify (s : State) : Bool :=
  let ms := s.getF CLK_HOLD_REF_QUAL_MS
  s.refPresent && (if s.getF CLK_CTL_SRC = 0 then decide (ms ≤ s.clk.refMs)
    else decide (s.net.ptp.slaveAt + ms * Config.ticksPerMs ≤ s.now))

/-- A reference period in ten-thousandths of a tick, by REF_DET. -/
def refPeriod (det : Nat) : Nat := if det = 1 then 3932160 else if det = 2 then 1572864 else 393216

/-- A phase of REF_IN in ticks, wrapped to less than half a reference period and rounded to whole ticks (R107). -/
def wrapPhase (det : Nat) (delta : Int) : Int := nearest (Int.bmod (delta * 10000) (refPeriod det)) 10000

/-- REF_QUALIFY: the reference qualifies with the measured delta in ticks, which REF_IN gives within half of its period and
PTP as PTP time minus the time of SYSCNT through the frozen mapping (R107).  From FREE the SPLL acquires without
applying it; otherwise the return is recorded and applied by CLK_CTL.RETURN, as a STEP whatever RETURN says where its
magnitude is 2^31 or more (R109). -/
def execRefQualify (phase : Int) (s : State) : Host.Outcome State Fault Refusal :=
  .next <|
    let delta := if s.getF CLK_CTL_SRC = 0 then wrapPhase s.clk.refDet phase else phase
    if s.pwr.inReset || !(s.spll = 1 || s.spll = 5) || !s.mayQualify then s
    else
      let s0 := if s.getF CLK_CTL_SRC = 0 && s.getF CLK_CTL_REF_MHZ = 0 then loadDivider s.clk.refDet s else s
      let back := s0.spll = 5
      let s1 := spllFollow true (spllEnter 2 (s0.setF CLK_STAT_REF_OK 1))
      let s2 := { s1 with clk := { s1.clk with slew := 0 } }
      let s3 := raise evRefReturn noInst
        ((s2.setI CLK_PHASE_DELTA (clampInt (-phaseMax) phaseMax delta)).bump CLK_CNT_RETURNS)
      if !back then s3.setB CLK_STAT_BIGSTEP false
      else
        let big := decide (2147483648 ≤ delta.natAbs)
        let s4 := s3.setB CLK_STAT_BIGSTEP big
        let mode := if big then 0 else s4.getF CLK_CTL_RETURN
        if mode = 0 then stepSyscnt delta s4
        else if mode = 1 then { s4 with clk := { s4.clk with slew := delta } }
        else
          let s5 := raise evPhaseKept noInst s4
          if s5.getF CLK_CTL_SRC = 1 then moveAnchor delta s5 else s5

/-- SPLL_LOCK: lock is declared, with the reference present (R100): SLEWING while a slew remains, otherwise LOCKED.  The
first declaration starts SYSCNT (R110). -/
def execSpllLock (s : State) : Host.Outcome State Fault Refusal :=
  .next <|
    if s.spll = 2 && s.refPresent then
      let s1 := startCount (spllEnter (if s.clk.slew = 0 then 3 else 4) s)
      { s1 with clk := { s1.clk with lockedAt := s1.now, faded := [] } }
    else s

/-- SPLL_FAIL: lock not declared within 5 ms raises SPLL_FAIL and enters FREE (R101). -/
def execSpllFail (s : State) : Host.Outcome State Fault Refusal :=
  .next <|
    if s.spll = 2 then
      let s1 := spllFollow false (spllEnter 1 s)
      raise evSpllFail noInst { s1 with clk := { s1.clk with slew := 0 } }
    else s

/-- HOLD_SECOND: each whole second in HOLDOVER or FREE (R106). -/
def execHoldSecond (s : State) : Host.Outcome State Fault Refusal :=
  .next (if s.spll = 1 || s.spll = 5 then s.bump CLK_STAT_HOLD_S else s)

/-- SYSCNT at the end of a slew (R107): t_L + |delta| / SLEW_PPB by the time of f_S before it, over which the count gains
delta. -/
def State.slewEnd (s : State) : Nat :=
  ((s.clk.lockedAt + s.clk.slew.natAbs * 1000000000 / s.getF CLK_CTL_SLEW_PPB : Nat) + s.clk.slew : Int).toNat

/-- SLEW_DONE: the slew has closed delta, at the instant its rate gives, and SLEWING becomes LOCKED (R107). -/
def execSlewDone (s : State) : Host.Outcome State Fault Refusal :=
  .next <|
    if s.spll = 4 then
      let s1 := spllEnter 3 (s.advance s.slewEnd)
      raise evSlewDone noInst { s1 with clk := { s1.clk with slew := 0 } }
    else s

/-- The bridge of programme p, begun at the release of its first CLK_SUSPECT block, has lasted BRIDGE_MS (R104). -/
def State.bridgeOver (s : State) (p : Nat) : Bool :=
  match (sget (fun _ => ({} : Prog)) s.fol.progs p).bridgeAt with
  | some x => decide (x + s.getF CLK_HOLD_BRIDGE_MS * Config.ticksPerMs ≤ s.now)
  | none => false

/-- PROGRAMME_CLOCK_FADE: the bridge of programme p ends without lock, and its output fades to zero (R104). -/
def execProgrammeClockFade (p : Nat) (s : State) : Host.Outcome State Fault Refusal :=
  .next <|
    if !s.inLock && s.bridgeOver p && 2 ≤ s.getF (FOLp_STAT_STATE p) && !s.clk.faded.contains p
    then { s with clk := { s.clk with faded := s.clk.faded ++ [p] } } else s

/-- The flags that the instants from lo to hi take from the clock: CLK_SUSPECT where one lies at or after the first
failing comparison and before lock is declared (R103, R107). -/
def State.clockOver (s : State) (lo hi : Nat) : Nat :=
  if s.clk.suspectFrom ≤ hi && !(s.inLock && decide (s.clk.lockedAt ≤ lo)) then 4 else 0

/-- The flags an ADC block whose sample instants start at ts takes from the clock. -/
def State.clockFlags (s : State) (ts : Nat) : Nat := s.clockOver ts (ts + 63)

/-- Those of a block at 48 kS/s. -/
def State.clockAudio (s : State) (ts : Nat) : Nat := s.clockOver ts (ts + 5242879)

/-- SYSCNT_READ: a read of CLK_SYSCNT_LO returns bits [31:0] and latches bits [63:32] into CLK_SYSCNT_HI (R111). -/
def readSyscnt (s : State) : State :=
  (s.wr CLK_SYSCNT_LO (BitVec.ofNat 32 s.now)).wr CLK_SYSCNT_HI (BitVec.ofNat 32 (s.now / 4294967296))

/-- SYSCNT_READ, where the CLK block answers reads (R67). -/
def execSyscntRead (s : State) : Host.Outcome State Fault Refusal :=
  .next (if s.liveRead .pcie CLK_SYSCNT_LO then readSyscnt s else s)

/-- The PTP time of count c in nanoseconds, by the mapping (R115). -/
def State.ptpTime (s : State) (c : Int) : Int :=
  let anchor : Int := (s.getF CLK_MAP_SEC_LO_SEC + 4294967296 * s.getF CLK_MAP_SEC_HI_SEC : Nat) * 1000000000
    + (s.getF CLK_MAP_NS_NS : Nat)
  let ca : Int := (s.get64 CLK_MAP_CNT_LO CLK_MAP_CNT_HI : Nat)
  anchor + (c - ca) * 3125 * (1000000000000 + s.getI CLK_MAP_RATE_RATE) / (12288 * 1000000000000)

/-- The count at which the mapping gives a PTP time of n nanoseconds, rounded to the nearest (R115). -/
def State.ptpCount (s : State) (n : Int) : Int :=
  let anchor : Int := (s.getF CLK_MAP_SEC_LO_SEC + 4294967296 * s.getF CLK_MAP_SEC_HI_SEC : Nat) * 1000000000
    + (s.getF CLK_MAP_NS_NS : Nat)
  let ca : Int := (s.get64 CLK_MAP_CNT_LO CLK_MAP_CNT_HI : Nat)
  let den : Int := 3125 * (1000000000000 + s.getI CLK_MAP_RATE_RATE)
  ca + ((n - anchor) * 12288 * 1000000000000 * 2 + den) / (2 * den)

end Sys2Proof.Machine
end

