-- ==== Sys2Proof/Machine/Stream.lean ====
section
/-! DEFINITION. The sample streams that the receive chains share: rounding and levels (spec/07 R186, spec/08 R214), the
gain history and the blocks of an input, and what the Leek makes of missing and void blocks (spec/05 R127 to R135). -/

namespace Sys2Proof.Machine

/-! ## Numbers -/

/-- A rational num / den rounded to the nearest integer, ties to even. -/
def roundEven (num : Int) (den : Nat) : Int :=
  let q := num / den
  let r := num % den
  if 2 * r < den then q else if (den : Int) < 2 * r then q + 1 else if q % 2 = 0 then q else q + 1

/-- Saturation at ±(1 − 2^-23) (R186). -/
def satStream (x : Int) : Int := clampInt (-8388607) 8388607 x

/-- x / den × 2^k rounded to the nearest Q1.23 value, ties to even (R186). -/
def scaled (x : Int) (den : Nat) (k : Int) : Int :=
  if 0 ≤ k then roundEven (x * 2 ^ k.toNat) den else roundEven x (den * 2 ^ (-k).toNat)

/-- Whether 10 m × log10 (num / den) is at least k - 1/2: 10^(2 k - 1) ≤ (num / den)^(20 m). -/
def atLeastDb (m num den : Nat) (k : Int) : Bool :=
  let e := 2 * k - 1
  decide (10 ^ e.toNat * den ^ (20 * m) ≤ num ^ (20 * m) * 10 ^ (-e).toNat)

/-- The highest value from lo on that passes a test holding of lo and of no value above one it fails, over a span of
2^n values. -/
def highest (ok : Int → Bool) : Nat → Int → Int
  | 0, lo => lo
  | n + 1, lo => if ok (lo + 2 ^ n) then highest ok n (lo + 2 ^ n) else highest ok n lo

/-- 10 log10 (num / den) in units of 1/m dB, rounded to the nearest, from -150 dB up over a span of 2^n units; the floor
where it lies below that or num is 0 (notes/assumptions/108.md). -/
def dbUnits (m n num den : Nat) : Int :=
  let lo : Int := -150 * m
  if num = 0 || den = 0 || !atLeastDb m num den lo then lo else highest (atLeastDb m num den) n lo

/-- 10 log10 (num / den) in units of 0.1 dB. -/
def dbTenths (num den : Nat) : Int := dbUnits 10 12 num den

/-! ## The resampler -/

/-- The prototype of a ratio (R189): 0 RS_W, 1 RS_M, 2 RS_N. -/
def rsProto (num den : Nat) : Nat := if 9 * den ≤ 10 * num then 0 else if 7 * den ≤ 10 * num then 1 else 2

/-- The position of output sample j as an input sample and a 24-bit fraction (R188). -/
def rsPosition (num den j : Nat) : Nat × Nat := (j * den / num, j * den % num * 16777216 / num)

/-- Tap m of the filter at a fraction: the phase its top 8 bits name, moved towards the next by the other 16 (R188); in
units of 2^-39. -/
def rsWeight (proto frac m : Nat) : Int :=
  let p := frac / 65536
  let w : Int := (frac % 65536 : Nat)
  Config.rsTap proto p m * (65536 - w) + Config.rsTap proto (p + 1) m * w

/-- Output sample j of a resampler, of one line of input samples numbered from t_r (R188); samples before it are zero. -/
def rsSample (num den j : Nat) (x : Int → Int) : Int :=
  let q := rsPosition num den j
  let proto := rsProto num den
  satStream (roundEven ((List.range 32).foldl (fun acc (m : Nat) => acc + rsWeight proto q.2 m * x ((q.1 : Int) + 16 - m)) 0) (2 ^ 39))

/-- How many output samples a resampler has given once so many input samples have come: those whose 32 taps lie among
them (R188). -/
def rsGiven (num den count : Nat) : Nat := ((count - 16) * num + den - 1) / den

/-! ## Spans -/

/-- The flags of the runs that meet the instants from lo to hi. -/
def spanFlags (lo hi : Nat) (l : List Span) : Nat :=
  l.foldl (fun f r => if r.lo ≤ hi && lo ≤ r.hi then f ||| r.flags else f) 0

/-- A run of instants whose end is still to come. -/
def openEnd : Nat := 2 ^ 70

/-- Close a run that is open, at the instant before t. -/
def Span.close (t : Nat) (r : Span) : Span := if r.hi = openEnd then { r with hi := t - 1 } else r

/-- The flag by which a run of missing samples is told from one of VOID samples; no block carries it. -/
def flagMissing : Nat := 256

/-! ## Gain -/

/-- The gain state in force at an instant (R127, R129). -/
def Input.gainAt (i : Input) (t : Nat) : Gain :=
  match i.gains.find? fun c => decide (c.1 ≤ t) with
  | some c => c.2
  | none => i.gain0

/-- A gain change takes effect at t; the oldest of more than 64 is merged into what preceded them. -/
def Input.gainNote (t : Nat) (g : Gain) (i : Input) : Input :=
  let l := (t, g) :: i.gains
  if 64 < l.length then { i with gain0 := (l.getLastD (0, i.gain0)).2, gains := l.dropLast } else { i with gains := l }

/-- The gain of input a changes at t; before SYSCNT counts no block exists that could show the change (R122). -/
def gainSet (a t : Nat) (g : Gain) (s : State) : State :=
  if s.counting then s.setInput a ((s.input a).gainNote t g) else s.setInput a { s.input a with gain0 := g, gains := [] }

/-- The part GAIN_CHG covers: a block with a sample instant less than 200 ns after a change (R129). -/
def Input.gainChanged (i : Input) (ts : Nat) : Bool := i.gains.any fun c => decide (c.1 ≤ ts + 63) && decide (ts < c.1 + 787)

/-! ## Pods and the streams they carry -/

/-- What an unlisted pod holds. -/
def podNone (_ : Nat) : Pod := {}

/-- Logical pod p beside its registers. -/
def State.pod (s : State) (p : Nat) : Pod := sget podNone s.fab.pods p

/-- Replace logical pod p. -/
def State.setPod (p : Nat) (v : Pod) (s : State) : State := { s with fab := { s.fab with pods := sset podNone p v s.fab.pods } }

/-- The logical pods that carry an instance of a MAP kind (R160). -/
def State.podsOf (s : State) (kind inst : Nat) : List Nat :=
  (s.hdr.map.filter fun r => r.kind == kind && r.inst == inst).map fun r => r.lpod

/-- A pod that carries an instance of a MAP kind is not ACTIVE: what it should output is VOID (R151, R167). -/
def State.podsOut (s : State) (kind inst : Nat) : Bool :=
  (s.podsOf kind inst).any fun p => s.getF (FAB_LPp_MAP_STATE p) != 0

/-- Every such pod that is out is being remapped or reloaded, and will recompute what it misses (R556 to R559). -/
def State.recovering (s : State) (kind inst : Nat) : Bool :=
  s.feat 18 && s.podsOut kind inst && (s.podsOf kind inst).all fun p =>
    s.getF (FAB_LPp_MAP_STATE p) == 0 || (s.pod p).why == 3 || (s.pod p).why == 4

/-- The VOID tokens that an instance of a MAP kind took (R143). -/
def State.tokens (s : State) (kind inst : Nat) : List Span :=
  (s.fab.voids.filter fun v => v.1 == kind && v.2.1 == inst).map (·.2.2)

/-- A stream took a VOID token at one of the instants from lo to hi (R143). -/
def State.tokenOver (s : State) (kind inst lo hi : Nat) : Bool :=
  (s.tokens kind inst).any fun v => decide (v.lo ≤ hi) && decide (lo ≤ v.hi)

/-- A block as an engine of MAP kinds 5 to 8 takes it: of zeros with VOID where its token was a VOID one (R143). -/
def State.taken (s : State) (kind inst : Nat) (b : Block) : Block :=
  if s.tokenOver kind inst b.ts b.ts then { b with flags := b.flags ||| 8, samples := b.samples.map fun _ => 0 } else b

/-- A stream is VOID at the instants from lo to hi: a pod of it is out, or it took a VOID token there (R143, R151). -/
def State.voidOver (s : State) (kind inst lo hi : Nat) : Bool :=
  (s.podsOut kind inst && !s.recovering kind inst) || s.tokenOver kind inst lo hi

/-- A pod has abandoned the block of an instance of a MAP kind that is due at an instant (R142). -/
def State.abandoned (s : State) (kind inst rel : Nat) : Bool := s.fab.lost.contains (kind, inst, rel)

/-- A pod has abandoned a block of an instance that is due at one of the instants from lo to hi. -/
def State.abandonedIn (s : State) (kind inst lo hi : Nat) : Bool :=
  s.fab.lost.any fun x => x.1 == kind && x.2.1 == inst && decide (lo ≤ x.2.2) && decide (x.2.2 ≤ hi)

/-- The flags of a stream over some instants that its pods and tokens cause (R143, R151). -/
def State.voidFlag (s : State) (kind inst lo hi : Nat) : Nat := if s.voidOver kind inst lo hi then 8 else 0

/-! ## Releases -/

/-- What a stream that has released nothing holds. -/
def releasedNone (_ : Nat) : Released := {}

/-- The last release of a stream of kind 1 programme, 2 path or 3 decoder. -/
def State.released (s : State) (kind num : Nat) : Released := sget releasedNone s.rel (1024 * kind + num)

/-- A stream releases a block at t, or none where the one due was dropped (R23, R26). -/
def releaseNote (kind num t : Nat) (b : Option Block) (s : State) : State :=
  { s with rel := sset releasedNone (1024 * kind + num) ⟨some t, b⟩ s.rel }

/-- What a stream without a past holds. -/
def streamNone (_ : Nat) : List Block := []

/-- The recent blocks of a stream, latest first. -/
def State.stream (s : State) (kind num : Nat) : List Block := sget streamNone s.streams (1024 * kind + num)

/-- A stream has formed a block; those beyond the reach of the longest PG_DELAY are forgotten. -/
def streamNote (kind num : Nat) (b : Block) (s : State) : State :=
  let l := (b :: s.stream kind num).filter fun x => decide (b.ts ≤ x.ts + 2 ^ 36)
  { s with streams := sset streamNone (1024 * kind + num) l s.streams }

/-- A stream goes on with a block of this timestamp (R289). -/
def Produced.next (period ts : Nat) (p : Produced) : Produced :=
  { n := p.n + (match p.last with | some t => (ts - t) / (64 * period) | none => 1), last := some ts }

/-! ## The Leek's input -/

/-- How far back the Leek's history reaches: beyond the windows of the longest chain and a transmission frame of 96 ms with
its null symbol (R234). -/
def histTicks : Nat := 2 ^ 29

/-- How far back the flags of blocks are kept: beyond what an audio frame of R233 draws on. -/
def markTicks : Nat := 2 ^ 33

/-- A block with flags joins the run before it, or begins one. -/
def markPush (b : AdcBlock) (l : List Span) : List Span :=
  if b.flags = 0 then l
  else match l with
    | r :: t => if r.hi + 1 = b.ts && r.flags = b.flags then { r with hi := b.ts + 63 } :: t else ⟨b.ts, b.ts + 63, b.flags⟩ :: r :: t
    | [] => [⟨b.ts, b.ts + 63, b.flags⟩]

/-- The Leek takes blocks, oldest first, into its history; what lies beyond its reach is forgotten. -/
def Input.take (l : List AdcBlock) (i : Input) : Input :=
  let h := l.reverse ++ i.hist
  let top := (h.head?.map (·.ts)).getD 0
  let recent := fun (r : Span) => decide (top ≤ r.hi + markTicks)
  { i with hist := h.filter fun b => decide (top ≤ b.ts + histTicks)
           steps := i.steps.filter fun c => decide (top ≤ c.1 + histTicks)
           spans := i.spans.filter recent, marks := (l.foldl (fun m b => markPush b m) i.marks).filter recent }

/-- The flags that blocks and bins of an input carry over some instants, and flagMissing. -/
def Input.markOver (i : Input) (lo hi : Nat) : Nat := spanFlags lo hi i.marks ||| spanFlags lo hi i.spans

/-- Ticks of a bin block (R174). -/
def binBlock : Nat := 122880

/-- The bin blocks that a missing ADC block spoils: those with a sample, at a multiple of 1,920 ticks, whose window of 92,160
samples takes one of its instants (R134, R174). -/
def spoiled (ts : Nat) : Nat × Nat := ((ts - 46080 + 1919) / 1920 * 1920 / binBlock, (ts + 63 + 46079) / binBlock)

/-- Bins of Leek a that were VOID while its pod was out have been recomputed from the journal of its ADC blocks (R558,
R559). -/
def leekHeal (a : Nat) (s : State) : State :=
  let i := s.input a
  s.setInput a (({ i with spans := i.spans.filter (fun r => r.hi != openEnd), journal := [] }).take i.journal)

/-- Leek a starts from empty state (R154). -/
def leekEmpty (a : Nat) (s : State) : State := s.setInput a { s.input a with hist := [], journal := [] }

/-- Bin block k of an input is missing (R134). -/
def Input.binMissing (i : Input) (k : Nat) : Bool :=
  spanFlags (k * binBlock) (k * binBlock + binBlock - 1) (i.spans.filter fun r => r.flags == flagMissing) != 0

/-- A bin block follows a missing one: it carries DROP (R134). -/
def Input.binDrop (i : Input) (k : Nat) : Bool := decide (0 < k) && i.binMissing (k - 1) && !i.binMissing k

/-- A pod of Leek a has abandoned the bin block that is due at an instant: the block is missing, and the next one carries
DROP (R142). -/
def binLose (a rel : Nat) (s : State) : State :=
  let i := s.input a
  let k := rel / binBlock
  s.setInput a { i with spans := ⟨k * binBlock, k * binBlock + binBlock - 1, flagMissing⟩ :: i.spans }

/-- An ADC block of Leek a is missing: the bin blocks it spoils are missing too, each new one counted (R134, R177). -/
def leekMiss (a ts : Nat) (s : State) : State :=
  let i := s.input a
  let k := spoiled ts
  let new := ((List.range (k.2 + 1 - k.1)).filter fun j => !i.binMissing (k.1 + j)).length
  (s.bumpBy (FAB_LKa_DROP_CNT a) new).setInput a
    { i with spans := ⟨k.1 * binBlock, k.2 * binBlock + binBlock - 1, flagMissing⟩ :: i.spans }

/-- The bins of Leek a turn VOID from now on, or cease to be (R172, R177). -/
def leekVoid (a : Nat) (b : Bool) (s : State) : State :=
  let i := s.input a
  let isOpen := i.spans.any fun r => r.hi == openEnd
  if b && !isOpen then s.setInput a { i with spans := ⟨s.now, openEnd, 8⟩ :: i.spans }
  else if !b && isOpen then s.setInput a { i with spans := i.spans.map (Span.close s.now) }
  else s

/-- The count that SYSCNT showed at an instant, where a step lies between it and the present (R107, R178). -/
def Input.countAt (i : Input) (u : Nat) : Nat :=
  (i.steps.foldl (fun (c : Int) x => if u < x.1 then c - x.2 else c) (u : Int)).toNat

/-- The ADC code of input a at an instant, two's complement; 0 where the Leek holds no block of it (R127, R173). -/
def Input.codeAt (i : Input) (t : Nat) : Int :=
  match i.hist.find? fun b => decide (b.ts ≤ t) && decide (t < b.ts + 64) with
  | some b => signedOf 14 (b.samples.getD (t - b.ts) 0)
  | none => 0

/-- The flags of the bin samples of the instants from lo to hi: those of the ADC blocks within their windows, and those of
the bin blocks (R14, R134). -/
def Input.flagsOver (i : Input) (lo hi : Nat) : Nat :=
  let adc := i.hist.foldl (fun f b => if b.ts ≤ hi + 46079 && lo ≤ b.ts + 63 + 46080 then f ||| b.flags else f) 0
  let k0 := lo / binBlock
  let drop := (List.range (hi / binBlock + 1 - k0)).any fun j => i.binDrop (k0 + j)
  adc ||| (spanFlags lo hi i.spans &&& 255) ||| (if drop then 128 else 0)

/-- Some bin sample of the instants from lo to hi is missing (R134, R198). -/
def Input.missingOver (i : Input) (lo hi : Nat) : Bool := spanFlags lo hi i.spans &&& flagMissing != 0

/-- The Leek has read every ADC block up to an instant. -/
def Input.readTo (i : Input) (t : Nat) : Bool := decide (t < (i.buf.head?.map (·.ts)).getD i.next)

end Sys2Proof.Machine
end

