-- ==== Sys2Proof/Machine/Rfe.lean ====
section
/-! DEFINITION. The aerial inputs (spec/05 R120 to R135), with the snapshot writer's tap ahead of the elastic buffer
(spec/11 R292, R293). -/

namespace Sys2Proof.Machine

/-! ## Gain -/

/-- The front-end calibration of input a is running (R513, R520). -/
def State.feRunning (s : State) (a : Nat) : Bool := s.getF (CALn_STAT_STATE a) = 2

/-- The shadow gain becomes active with the boundary block's timestamp (R120); before SYSCNT starts, with 0, and
GAIN_APPLIED is raised with that stamp too (R122; notes/assumptions/150.md). -/
def gainTake (a t : Nat) (s : State) : State :=
  let s1 := ((s.setF (RFEa_GSTAT_LNA_ACT a) (s.getF (RFEa_GAIN_LNA a))).setF (RFEa_GSTAT_ATT_ACT a)
    (s.getF (RFEa_GAIN_ATT a))).setF (RFEa_GSTAT_PEND a) 0
  let s2 := s1.set64 (RFEa_GCHG_LO a) (RFEa_GCHG_HI a) t
  raiseAt evGainApplied a t (gainSet a t ⟨s.flag (RFEa_GAIN_LNA a), s.getF (RFEa_GAIN_ATT a)⟩ s2)

/-- An APPLY of one input (R120, R121): the refusals, then PEND and the boundary chosen.  Before SYSCNT counts, no block
exists and the gain takes effect with GCHG reading 0 (R122). -/
def gainApplyOne (a boundary : Nat) (s : State) : State :=
  if s.feRunning a then refuse RFE_REFUSE codeBusy s
  else if s.flag (RFEa_GSTAT_PROT a) && s.flag (RFEa_GAIN_LNA a) && !s.flag (RFEa_GSTAT_LNA_ACT a) then
    refuse RFE_REFUSE codeWrongState s
  else if !s.counting then gainTake a 0 s
  else if s.flag (RFEa_GSTAT_PEND a) then s
  else
    let s1 := s.setF (RFEa_GSTAT_PEND a) 1
    s1.setInput a { s1.input a with boundary := boundary }

/-- A write of RFE_CMD: each input is applied or refused by itself (R121), both at the first block boundary at or after
one t1, which lies up to 100 ns after the write: a free value within that bound (notes/assumptions/109.md). -/
def gainApply (inA inB : Bool) (s : State) : State :=
  let f := s.free
  let b := s.blockAt (s.now + f.1 % 394)
  let s1 := if inA then gainApplyOne 0 b f.2 else f.2
  if inB then gainApplyOne 1 b s1 else s1

/-- GAIN_APPLY: a write of 1 to RFE_CMD.APPLY0, APPLY1 or both. -/
def execGainApply (m : Master) (inA inB : Bool) (s : State) : Host.Outcome State Fault Refusal :=
  .next (gated m RFE_CMD (inA.toNat + 2 * inB.toNat) (gainApply inA inB) s)

/-- GAIN_APPLIED: at the boundary chosen, the block takes the shadow gain (R120). -/
def execGainApplied (a t : Nat) (s : State) : Host.Outcome State Fault Refusal :=
  .next (if a < 2 && s.flag (RFEa_GSTAT_PEND a) && t == (s.input a).boundary then gainTake a t (s.advance t) else s)

/-! ## Detectors -/

/-- A sample at code +8,191 or -8,192 is clipped (R119); codes are 14-bit two's complement. -/
def isClipped (c : Nat) : Bool := c = 8191 || c = 8192

/-- The magnitude of a 14-bit code. -/
def codeMag (c : Nat) : Nat := if 8192 ≤ c % 16384 then 16384 - c % 16384 else c % 16384

/-- The detectors take the samples of a block (R124). -/
def Overload.take (l : List Nat) (o : Overload) : Overload :=
  { clips := o.clips + l.countP isClipped, peak := l.foldl (fun m c => max m (codeMag c)) o.peak
    sum := o.sum + (l.map fun c => codeMag c ^ 2).sum, count := o.count + l.length }

/-- The largest magnitude of a window in 0.1 dB re 8,192, and its mean power in 0.1 dBFS, where a sine whose peaks reach
8,192 has 0 dBFS (R119, R124); -100.0 dB is the floor. -/
def Overload.peakDb (o : Overload) : Int := if o.peak = 0 then -1000 else max (-1000) (dbTenths (o.peak ^ 2) (2 ^ 26))
def Overload.avgDb (o : Overload) : Int :=
  if o.sum = 0 then -1000 else clampInt (-1000) 31 (dbTenths (2 * o.sum) (o.count * 2 ^ 26))

/-- A magnitude reaches the level of PEAK_TH, in steps of -0.5 dB re 8,192: 20 log10 (m / 8192) ≥ -TH / 2. -/
def reachesPeak (m th : Nat) : Bool := decide (8192 ^ 40 ≤ m ^ 40 * 10 ^ th)

/-- What the detectors report of the window is what its samples give (R124). -/
def Overload.meets (o : Overload) (clipped : Nat) (peak avg : Int) : Bool :=
  clipped == o.clips && peak == o.peakDb && avg == o.avgDb

/-- OVL_WINDOW_END: the 1 ms window that ends at t is judged by its samples (R124).  The detectors run from LOADED onwards
(R123). -/
def execOvlWindowEnd (a t clipped : Nat) (peak avg : Int) (s : State) : Host.Outcome State Fault Refusal :=
  .next <|
    if 2 ≤ a || s.pwr.inReset || s.stage < 2 || !s.counting || t % Config.ticksPerMs != 0
      || !(s.input a).ovl.meets clipped peak avg then s
    else
      let i := s.input a
      let isClip := decide (s.getF (RFEa_OVL_CFG_CLIP_N a) ≤ clipped)
      let isPeak := reachesPeak i.ovl.peak (s.getF (RFEa_OVL_CFG_PEAK_TH a))
      let s1 := (s.advance t).bumpBy (RFEa_CLIPCNT_CNT a) clipped
      let s2 := if isClip then s1.bump (RFEa_EVCNT_CLIP a) else s1
      let s3 := if isPeak then s2.bump (RFEa_EVCNT_PEAK a) else s2
      let s4 := (s3.setI (RFEa_POWER_PEAK a) peak).setI (RFEa_POWER_AVG a) avg
      let s5 := s4.setInput a { i with
        clipPrev := isClip, peakPrev := isPeak, cleanWindows := if isClip then 0 else i.cleanWindows + 1, winBad := false, ovl := {} }
      let s5 := if s.getF (CALn_STAT_STATE (2 + a)) = 2 && -450 ≤ avg && !isClip && !i.winBad
        then s5.setCal (2 + a) { s5.cal (2 + a) with windows := (s5.cal (2 + a)).windows + 1 } else s5
      let s6 := if isClip && !i.clipPrev then raiseAt evClip a t s5 else s5
      if isPeak && !i.peakPrev then raiseAt evPeak a t s6 else s6

/-- LNA_PROTECT: the protection detector trips while the LNA is in (R125).  GCHG, which R120 writes at an applied change,
stays as it is (notes/assumptions/15.md). -/
def execLnaProtect (a : Nat) (s : State) : Host.Outcome State Fault Refusal :=
  .next <|
    if 2 ≤ a || s.pwr.inReset || s.stage < 2 || !s.flag (RFEa_GSTAT_LNA_ACT a) then s
    else
      let s1 := raise evProtect a ((s.setF (RFEa_GSTAT_PROT a) 1).bump (RFEa_EVCNT_PROT a))
      let en := if a = 0 then s1.flag RFE_CTL_PROT_EN0 else s1.flag RFE_CTL_PROT_EN1
      if en then
        let s2 := (s1.setF (RFEa_GSTAT_LNA_ACT a) 0).setF (RFEa_GAIN_LNA a) 0
        gainSet a s2.now ⟨false, s2.getF (RFEa_GSTAT_ATT_ACT a)⟩ s2
      else s1

/-! ## Blocks -/

/-- The block of input a that starts at ts carries STALE: it comes before the first application of the input's FE
calibration, or a sample of it lies in the span of an FE run, for ORX of a LOOP run (R130, R520).  Before LOOP's first
completion ORX's blocks are not STALE (notes/assumptions/150.md). -/
def State.adcStale (s : State) (a ts : Nat) : Bool :=
  let c := s.cal (if a = 2 then 4 else a)
  let early := a < 2 && (match c.firstAt with | some f => decide (ts < f) | none => true)
  early || (c.spanFrom ≤ ts + 63 && (c.spanOpen || decide (ts < c.spanTo)))

/-- The 144 bytes of an ADC block (R127). -/
def AdcBlock.bytes (b : AdcBlock) : List Byte :=
  bytesOf 8 b.ts ++ bytesOf 2 b.flags ++ bytesOf 1 b.src ++ bytesOf 1 b.gain ++ bytesOf 1 b.sub0
    ++ bytesOf 1 b.clips ++ bytesOf 2 b.seq
    ++ (b.samples.map fun c => bytesOf 2 (4 * (c % 16384) + (isClipped c).toNat)).flatten

/-- Slots of the snapshot region: 144 bytes each, an even number when both aerials are taken (R291, R293). -/
def State.snapSlots (s : State) (src : Nat) : Nat :=
  let n := s.regionSize 2 / 144
  if src = 2 then n / 2 * 2 else n

/-- The snapshot writer takes a block while it is armed or in POST (R292, R293): slots follow block intervals from the
arm boundary, ANT_A before ANT_B with SRC = both, and the ring wraps at the slot count.  MATCH fires at the first block at or
after its instant.  Of a write that Marrow refuses, as class 0 or as the command tells, the slot holds TS and FLAGS = DROP;
FIRST is the TS that the oldest slot holds. -/
def snapTap (b : AdcBlock) (refused : Bool) (s : State) : State :=
  let st := s.getF MRW_SNP_STAT_STATE
  let src := s.snp.src
  let takes := (src = 0 && b.src = 0) || (src = 1 && b.src = 1) || (src = 2 && b.src < 2) || (src = 3 && b.src = 2)
  let s0 :=
    if st = 1 && takes && s.getF MRW_SNP_CTL_TRIG = 1 && decide (s.get64 MRW_SNP_MATCH_LO MRW_SNP_MATCH_HI ≤ b.ts)
    then snapTrigger b.ts s else s
  let st' := s0.getF MRW_SNP_STAT_STATE
  if takes && (st = 1 || st = 2) && decide (s0.snp.start ≤ b.ts) && (st' = 1 || decide (b.ts < s0.snp.tEnd)) then
    let slots := s0.snapSlots src
    if slots = 0 then s0
    else
      let isB := src = 2 && b.src = 1
      let k := if isB then s0.snp.nextB else s0.snp.next
      let per := if src = 2 then 2 else 1
      let n := per * k + isB.toNat
      let a := s0.regionBase 2 + n % slots * 144
      let code := (s0.atOnce (stackOf a) 0 144).getD 0
      let off := refused || code != 0
      let s1 := if off then (s0.bump (if code = 2 then MRW_RQr_CNT0_REFCAP 267 else MRW_RQr_CNT1_REFCLS 267)).store a (bytesOf 8 b.ts ++ bytesOf 2 128)
        else (winAdmit (stackOf a) 0 144 s0).store a b.bytes
      let taken := max (k + 1) (max s0.snp.next s0.snp.nextB)
      let full := decide (slots < per * taken)
      let oldest := if full then per * taken % slots else 0
      let s2 := s1.setF MRW_SNP_OLDEST_SLOT oldest
      let s3 := if full then s2.setF MRW_SNP_STAT_FULL 1 else s2
      let s4 := s3.set64 MRW_SNP_FIRST_LO MRW_SNP_FIRST_HI (natOf (memTake s3.mem (s0.regionBase 2 + oldest * 144) 8))
      { s4 with snp := { s4.snp with next := if isB then s4.snp.next else k + 1, nextB := if isB then k + 1 else s4.snp.nextB } }
  else s0

/-- Depth of the elastic buffer in blocks (R133). -/
def ebufDepth : Nat := 1966

/-- A Leek takes the blocks of input a: its bitstream configures it and none of its pods is LOADING or ISOLATED
(R135). -/
def State.leekTakes (s : State) (a : Nat) : Bool :=
  a < 2 && s.flag (FAB_LKa_STAT_CONF a) && s.hdr.map.all fun r =>
    r.kind != 0 || r.inst != a || s.getF (FAB_LPp_MAP_STATE r.lpod) < 2

/-- The Leek reads n blocks from the buffer: a read makes the next discard an EBUF_OVR, and the first block read after
a discard carries DROP (R133). -/
def ebufRead (a n : Nat) (s : State) : State :=
  let i := s.input a
  match i.buf.take n with
  | [] => s
  | b :: l =>
    let b1 := if i.dropNext then { b with flags := b.flags ||| 128 } else b
    s.setInput a (({ i with buf := i.buf.drop n, cleanRead := true, dropNext := false }).take (b1 :: l))

/-- A block enters the buffer; the oldest is discarded whole when it is full (R133, R134). -/
def ebufPush (a : Nat) (b : AdcBlock) (s : State) : State :=
  let i := s.input a
  let s1 :=
    match i.buf with
    | old :: rest =>
      if ebufDepth ≤ i.buf.length then
        let s0 := leekMiss a old.ts ((s.bump (RFEa_EBUF_DROP_CNT a)).setInput a
          { i with buf := rest ++ [b], cleanRead := false, dropNext := true })
        if i.cleanRead then raise evEbufOvr a s0 else s0
      else s.setInput a { i with buf := i.buf ++ [b] }
    | [] => s.setInput a { i with buf := [b] }
  let fill := (s1.input a).buf.length
  (s1.setF (RFEa_EBUF_FILL a) fill).setF (RFEa_EBUF_HWM a) (max (s1.getF (RFEa_EBUF_HWM a)) fill)

/-- While no Leek takes the blocks of an input, its buffer holds none, uncounted (R135); the journal keeps 4 ms of them
for a pod that is being remapped (R558). -/
def ebufClear (a : Nat) (new : List AdcBlock) (s : State) : State :=
  let i := s.input a
  let all := i.journal ++ i.buf ++ new
  let j := if s.recovering 0 a then all.drop (all.length - 245760) else []
  (s.setInput a { i with buf := [], journal := j }).setF (RFEa_EBUF_FILL a) 0

/-- The header the ADC gives a block of raw samples (R127 to R130): the gain state is the one in force after any change
within the block. -/
def adcHeader (a ts : Nat) (samples : List Nat) (s : State) : AdcBlock :=
  let i := s.input a
  let stale := s.adcStale a ts
  let clips := if stale then 0 else samples.countP isClipped
  let g := i.gainAt (ts + 63)
  { ts := ts, flags := s.clockFlags ts + (if stale then 1 else 0) + (if clips = 0 then 0 else 64),
    src := a, gain := (i.gainChanged ts).toNat * 128 + g.lna.toNat * 64 + g.att, sub0 := i.sub % 16, clips := clips
    seq := i.seq, samples := if stale then List.replicate 64 0 else samples }

/-- The exciter notes whether a block of ORX carries STALE, CLK_SUSPECT or OVR (R479, R484). -/
def orxNote (b : AdcBlock) (s : State) : State :=
  let bad := b.flags &&& 69 != 0
  { s with exc := { s.exc with orxBad := bad, orxBadTo := if bad then b.ts + 64 else s.exc.orxBadTo } }

/-- ADC_BLOCK_ARRIVAL: input a produces the next block of its stream, the 64 samples that start at ts, after the Leek has
read some blocks from the buffer (R127, R128, R133, R135). -/
def execAdcBlockArrival (a ts : Nat) (samples : List Nat) (leekReads : Nat) (snapRefused : Bool) (s : State) :
    Host.Outcome State Fault Refusal :=
  .next <|
    if 3 ≤ a || s.pwr.inReset || !s.counting || samples.length != 64 || ts != (s.input a).next then s
    else
      let s0 := s.advance (ts + 64)
      let b := adcHeader a ts samples s0
      let i := s0.input a
      let s1 := snapTap b snapRefused (s0.setInput a
        { i with seq := (i.seq + 1) % 65536, next := ts + 64, winBad := i.winBad || b.flags % 2 == 1 || 128 ≤ b.gain
                 ovl := i.ovl.take samples })
      if s1.leekTakes a then ebufPush a b (ebufRead a leekReads s1)
      else if a < 2 then ebufClear a [b] s1
      else orxNote b s1

end Sys2Proof.Machine
end

