-- ==== Sys2Proof/Machine/Slk.lean ====
section
/-! DEFINITION. The service link (spec/19 R487 to R512): synthesiser and entries, states, commands, receiving,
transmitting, duty and registers. -/

namespace Sys2Proof.Machine

/-! ## Channels and entries -/

/-- SLK_STAT.STATE (R491). -/
def State.slState (s : State) : Nat := s.getF SLK_STAT_STATE

/-- What an unlisted channel entry holds: an empty entry. -/
def slEntryNone (_ : Nat) : SlEntry := {}

/-- The entry of channel c. -/
def State.slEntry (s : State) (c : Nat) : SlEntry := sget slEntryNone s.slk.entries c

/-- Replace the entry of channel c. -/
def State.setSlEntry (c : Nat) (e : SlEntry) (s : State) : State :=
  { s with slk := { s.slk with entries := sset slEntryNone c e s.slk.entries } }

/-- Channel entries exist: the loaded bitstream's SLCH is 128 (R489). -/
def State.slTable (s : State) : Bool := s.hdr.slch == 128

/-- The entry of channel c exists, is filled and is not stale. -/
def State.slGood (s : State) (c : Nat) : Bool := s.slTable && (s.slEntry c).filled && !(s.slEntry c).stale

/-- The last reading of TS1 in quarter degrees. -/
def State.ts (s : State) (n : Nat) : Int := s.pwr.temps.getD n 0

/-- Channel c is used (R487). -/
def State.slUsed (s : State) (c : Nat) : Bool := decide (c < 128) && s.getF (SLK_CH_KHZ c) != 0

/-- DUE and CURRENT of calibration 5 (R515). -/
def cal5Refresh (s : State) : State :=
  let used := (List.range 128).filter s.slUsed
  let bad := used.any fun c => !s.slGood c
  (s.setB (CALn_STAT_DUE 5) (s.slTable && bad)).setB (CALn_STAT_CURRENT 5) !bad

/-- Channel c is calibrated with these trims (R489, R515): its entry, where entries exist, is filled and SL_CAL raised;
calibration 5 counts it. -/
def slFill (c : Nat) (trims : List Byte) (s : State) : State :=
  let s0 := { s with slk := { s.slk with fails := 0 } }
  let s1 := ((s0.bump (CALn_CNT_RUNS 5)).setI (CALn_STAT_TEMP 5) (s.ts 1)).setF (CALn_STAT_LASTRES 5) 1
  let s2 := s1.set64 (CALn_TS_LO 5) (CALn_TS_HI 5) s.now
  if s.slTable then
    let s3 := s2.setSlEntry c ⟨true, false, s.getF (SLK_CH_KHZ c), s.ts 1, trims⟩
    cal5Refresh (raise evSlCal c (s3.setF (SLK_CH_CAL c) 1))
  else s2

/-- Empty the entry of channel c (R489). -/
def slEmpty (c : Nat) (s : State) : State := cal5Refresh ((s.setSlEntry c {}).setF (SLK_CH_CAL c) 0)

/-- TS1 has been read: an entry filled more than TDELTA away from it becomes stale (R515). -/
def slStale (s : State) : State :=
  let far := fun (e : SlEntry) => e.filled && decide (4 * (s.getF CAL_CFG_TDELTA : Int) < (s.ts 1 - e.temp).natAbs)
  cal5Refresh { s with slk := { s.slk with
    entries := s.slk.entries.map fun p => if far p.2 then (p.1, { p.2 with stale := true }) else p } }

/-! ## The air interface -/

/-- Chips of a symbol (R495). -/
def State.slChips (s : State) : Nat := let f := s.getF SLK_PHY_SF; if f = 0 then 15 else if f = 1 then 31 else 63

/-- Half microseconds of a symbol. -/
def State.slSym (s : State) : Nat := s.slChips * (if s.flag SLK_PHY_RATE then 1 else 2)

/-- Symbols of payload and CRC (R498). -/
def slPaySyms (len : Nat) (dqpsk : Bool) : Nat := (8 * len + 16) / (if dqpsk then 2 else 1)

/-- The airtime of a packet of len bytes in half microseconds (R498). -/
def State.slAir (s : State) (len : Nat) : Nat :=
  s.slSym * (s.getF SLK_PHY_PRE_LEN + 32 + 24 + slPaySyms len (s.flag SLK_PHY_MODP))

/-- One step of the spreading generator of SF, which shifts as the whitening register does (R495, R498;
notes/assumptions/145.md): x^4 + x + 1, x^5 + x^2 + 1, x^6 + x + 1. -/
def spreadStep (sf r : Nat) : Nat :=
  r / 2 + (if sf = 0 then 8 else if sf = 1 then 16 else 32) * ((r + r / (if sf = 1 then 4 else 2)) % 2)

/-- The chips of a symbol from a register: its output bits (R495). -/
def spreadChips (sf : Nat) : Nat → Nat → List Bool
  | 0, _ => []
  | k + 1, r => r.testBit 0 :: spreadChips sf k (spreadStep sf r)

/-- The spreading sequence: one full period from all ones, whose number is that of its chips (R495). -/
def State.slSequence (s : State) : List Bool := spreadChips (s.getF SLK_PHY_SF) s.slChips s.slChips

/-- Bits of a list of bytes, least significant first (R496). -/
def bitsLow (l : List Nat) : List Bool := l.flatMap fun b => (List.range 8).map b.testBit

/-- The phase in quarter turns that a bit adds (DBPSK), and that a bit pair adds (DQPSK) (R496). -/
def dbpsk (b : Bool) : Nat := if b then 2 else 0
def dqpsk : List Bool → List Nat
  | a :: b :: l => (match a, b with | false, false => 0 | false, true => 1 | true, true => 2 | true, false => 3) :: dqpsk l
  | _ => []

/-- Phases of symbols, each against the one before (R496). -/
def phasesFrom : Nat → List Nat → List Nat
  | _, [] => []
  | p, d :: l => (p + d) % 4 :: phasesFrom ((p + d) % 4) l

/-- The symbols of a packet: preamble, sync word and header in DBPSK, payload and CRC as MODP says (R496, R497). -/
def State.slModulate (s : State) (bytes : List Nat) : List Nat :=
  let pay := bitsLow (bytes.drop 3)
  phasesFrom 0 (List.replicate (s.getF SLK_PHY_PRE_LEN) 0
    ++ ((List.range 32).map fun k => dbpsk ((s.getF SLK_SYNC_WORD).testBit k))
    ++ (bitsLow (bytes.take 3)).map dbpsk
    ++ (if s.flag SLK_PHY_MODP then dqpsk pay else pay.map dbpsk))

/-- Chip k of a symbol of this phase, in quarter turns (R495): 1 at the symbol's phase, 0 opposite. -/
def State.slChip (s : State) (phase k : Nat) : Nat := if s.slSequence.getD k false then phase else (phase + 2) % 4

/-- Half microseconds in ticks, rounded up. -/
def ticksOfHalfUs (h : Nat) : Nat := (h * 196608 + 99) / 100

/-- One step of the whitening register (R498). -/
def whiteStep (r : Nat) : Nat := r / 2 + 256 * ((r + r / 32) % 2)

/-- The next k whitening bits, the first lowest, and the register after them. -/
def whiteBits : Nat → Nat → Nat × Nat
  | 0, r => (0, r)
  | k + 1, r => let q := whiteBits k (whiteStep r); (r % 2 + 2 * q.1, q.2)

/-- XOR bytes with the whitening sequence from register r (R498). -/
def whiten : List Nat → Nat → List Nat
  | [], _ => []
  | b :: t, r => let q := whiteBits 8 r; (b % 256 ^^^ q.1) :: whiten t q.2

/-- The whitening register after n bytes. -/
def whiteAfter : Nat → Nat → Nat
  | 0, r => r
  | n + 1, r => whiteAfter n (whiteBits 8 r).2

/-- A CRC of width w that is not reflected: k shifts of the register c with polynomial p. -/
def crcShift (w p : Nat) : Nat → Nat → Nat
  | 0, c => c
  | k + 1, c => crcShift w p k (if c.testBit (w - 1) then (2 * c) % 2 ^ w ^^^ p else (2 * c) % 2 ^ w)

/-- The register after a list of bytes. -/
def crcBytes (w p : Nat) : List Nat → Nat → Nat
  | [], c => c
  | b :: t, c => crcBytes w p t (crcShift w p 8 (c ^^^ (b % 256) * 2 ^ (w - 8)))

/-- HCRC over LEN and CFG (R497). -/
def slHcrc (len cfg : Nat) : Nat := crcBytes 8 0x07 [len, cfg] 0

/-- CRC over header and payload (R497). -/
def slCrc (l : List Nat) : Nat := crcBytes 16 0x1021 l 0xFFFF

/-- A payload as sent: header, payload and CRC, whitened (R497, R498). -/
def slPacket (cfg : Nat) (pay : List Nat) : List Nat :=
  let h := [pay.length, cfg, slHcrc pay.length cfg] ++ pay
  whiten (h ++ [slCrc h / 256, slCrc h % 256]) 0x1FF

/-! ## Licence and duty -/

/-- A band of the section (R506). -/
def slBandOf (l : List Byte) : Option SlBand :=
  let flo := leAt l 0 4
  let fhi := leAt l 4 4
  let maxp := signedOf 16 (leAt l 8 2)
  let duty := leAt l 10 2
  let maxtx := leAt l 12 2
  let lbt := signedOf 8 (leAt l 14 1)
  let lbtT := leAt l 15 1
  if 779000 ≤ flo && fhi ≤ 960000 && flo < fhi && maxp ≤ 140 && 1 ≤ duty && duty ≤ 1000 && 1 ≤ maxtx
      && (lbt = -128 || 1 ≤ lbtT)
  then some ⟨flo, fhi, maxp, duty, maxtx, lbt, lbtT⟩ else none

/-- Two bands overlap. -/
def slOverlap (a b : SlBand) : Bool := decide (a.flo < b.fhi) && decide (b.flo < a.fhi)

/-- No two bands of a list overlap. -/
def slApart : List SlBand → Bool
  | [] => true
  | b :: t => t.all (fun c => !slOverlap b c) && slApart t

/-- The bands of a service-link section that keeps R506. -/
def slSection (l : List Byte) : Option (List SlBand) :=
  let n := leAt l 5 1
  if leAt l 0 4 = 0x534C5247 && leAt l 4 1 = 1 && 1 ≤ n && n ≤ 8 && leAt l 6 2 = 0 && l.length = 8 + 16 * n then
    let bs := (List.range n).filterMap fun b => slBandOf ((l.drop (8 + 16 * b)).take 16)
    if bs.length = n && slApart bs then some bs else none
  else none

/-- The band that contains the whole occupied band of channel c (R504), with its number. -/
def State.slBand (s : State) (c : Nat) : Option (SlBand × Nat) :=
  let w := if s.flag SLK_PHY_RATE then 2000 else 1000
  let k := s.getF (SLK_CH_KHZ c)
  (s.slk.bands.zipIdx).find? fun p => decide (p.1.flo + w ≤ k) && decide (k + w ≤ p.1.fhi)

/-- The airtime of band b in its window, in half microseconds (R507). -/
def State.slUsedAir (s : State) (b : Nat) : Nat := (s.slk.bins.getD b []).foldl (· + ·) 0

/-- Show the duty history (R507). -/
def slDutyShow (s : State) : State := forEach (List.range 8) (fun b s => s.setF (SLK_DUTY_MS b) (s.slUsedAir b / 2000)) s

/-- Add airtime to the history of the band of channel c (R507). -/
def slDutyAdd (c h : Nat) (s : State) : State :=
  match s.slBand c with
  | none => s
  | some (_, b) =>
    let l := s.slk.bins.getD b []
    let l' := match l with | [] => [h] | x :: t => (x + h) :: t
    slDutyShow { s with slk := { s.slk with bins := s.slk.bins.set b l' } }

/-- Reasons 3 to 8 of R504 for channel c and an airtime in half microseconds; 0 where none applies. -/
def State.slLicReason (s : State) (c air : Nat) : Nat :=
  if s.getF SLK_LIC_STATE != 2 then 3
  else match s.slBand c with
    | none => 4
    | some (b, n) =>
      if b.maxp < 5 * s.getI SLK_TXCFG_PWR then 5
      else if s.getF SLK_TXCFG_LEN = 0 then 6
      else if b.maxtx * 2000 < air then 7
      else if b.duty * 7200000 < s.slUsedAir n + air then 8
      else 0

/-! ## States -/

/-- Enter a state: the front-end balls follow it (R491). -/
def slEnter (st : Nat) (s : State) : State :=
  let s1 := s.setF SLK_STAT_STATE st
  { s1 with pins := { s1.pins with slFemRx := decide (st = 3 ∨ st = 4), slFemTx := decide (st = 6) } }

/-- The synthesiser is out of lock (R490). -/
def slUnlock (s : State) : State := (s.setF SLK_STAT_LOCK 0).setF CLK_DOM_SLK 0

/-- The bound on a lock of channel c in ticks: 40 µs, or 160 µs where it is calibrated first (R489). -/
def State.slLockTicks (s : State) (c : Nat) : Nat := Config.ticksOfUs (if s.slGood c || s.slk.cal = some c then 40 else 160)

/-- The synthesiser starts for channel c. -/
def slRetune (c : Nat) (s : State) : State :=
  let s1 := slUnlock (s.setF SLK_STAT_CH c)
  let from_ := max s.now (max s.slk.powerBy (if s.slk.cal.isSome then s.slk.calBy else 0))
  { s1 with slk := { s1.slk with lockBy := from_ + s.slLockTicks c } }

/-- The link makes for a state (2 STANDBY, 3 LISTEN) on channel c (R492): at once where it is locked there, through
SETTLE otherwise. -/
def slTune (goal c : Nat) (s : State) : State :=
  let s1 := { s with slk := { s.slk with goal := goal, rx := none } }
  if s.flag SLK_STAT_LOCK && s.getF SLK_STAT_CH = c then slEnter goal s1
  else if s.slState = 1 && s.getF SLK_STAT_CH = c then s1
  else
    let s2 := if s.slState = 0 then { s1 with slk := { s1.slk with powerBy := s.now + Config.ticksOfUs 100 } } else s1
    slEnter 1 (slRetune c s2)

/-- The automatic return state of R493 after a packet on channel c. -/
def slReturn (ret c : Nat) (s : State) : State :=
  if ret = 0 then slTune 2 c s else if ret = 1 then slTune 3 c s else slTune 3 (s.getF SLK_RXCFG_HOME) s

/-- The hop index moves on (R510). -/
def slHopNext (s : State) : State :=
  s.setF SLK_HOPCTL_IDX (let n := s.getF SLK_HOPCTL_LEN; if n = 0 then 0 else (s.getF SLK_HOPCTL_IDX + 1) % n)

/-- SL_REQ and SL_PRI fall (R505). -/
def slReqLow (s : State) : State := { s with pins := { s.pins with slReq := false, slPri := false } }

/-- A transmission ends, however it ends: SL_REQ falls, and the hop index of its command moves on (R505, R510). -/
def slTxOver (s : State) : State :=
  let s1 := if s.slk.txHop then slHopNext s else s
  slReqLow { s1 with slk := { s1.slk with wait := 0, txHop := false, rx := none, endAt := some s.now } }

/-- A transmission ends and the return state follows (R493). -/
def slTxEnd (s : State) : State := slReturn (s.getF SLK_RXCFG_RET_TX) s.slk.txCh (slTxOver s)

/-- Write the airtime of a transmission cut off now, and add it to the history (R507, R508). -/
def slCut (s : State) : State :=
  let h := (s.now - s.slk.txAt) * 100 / 196608
  slDutyAdd s.slk.txCh h (s.setF SLK_TXSTAT_AIR_US (h / 2))

/-- The evidence of an abort: in TX its airtime and SL_ABORT; in TXWAIT the withdrawal is counted (R494, R508). -/
def slTxAbort (cause : Nat) (s : State) : State :=
  let s1 := (s.setF SLK_TXSTAT_ACAUSE cause).bump SLK_CNT4_TXABORT
  if s.slState = 6 then raise evSlAbort s.slk.txCh (slCut s1) else s1

/-- A transmission is refused: reason, count and SL_REFUSE; reasons STATE and BUSY by R10 as well (R504). -/
def slTxRefuse (reason c : Nat) (s : State) : State :=
  let s1 := raise evSlRefuse c ((s.setF SLK_TXSTAT_REASON reason).bump SLK_CNT5_REFUSED)
  if reason = 1 then refuseAt SLK_CMD codeWrongState s1
  else if reason = 2 then refuseAt SLK_CMD codeBusy s1
  else s1

/-- OFF: synthesiser and RF off. -/
def slDown (s : State) : State :=
  let s1 := slReqLow (slEnter 0 (slUnlock s))
  { s1 with slk := { s1.slk with
      goal := 0, cal := none, waiting := none, rx := none, rxHop := false, txHop := false, wait := 0, powerBy := 0 } }

/-! ## Transmitting -/

/-- The payload bytes of the transmit buffer. -/
def State.slPayload (s : State) : List Nat :=
  (List.range (s.getF SLK_TXCFG_LEN)).map fun k => (s.rd (SLK_TXD (k / 4))).toNat / 2 ^ (8 * (k % 4)) % 256

/-- The waiting conditions have cleared: TX, from the aerial that TXANT names (R505 step 4). -/
def slSend (s : State) : State :=
  let a := s.getF SLK_TXCFG_TXANT
  let b := if a = 2 then s.slk.lastAnt else a == 1
  let s1 := slEnter 6 s
  { s1 with
    pins := { s1.pins with slAsw := b }
    slk :=
      let p := slPacket (if s.flag SLK_PHY_MODP then 0x80 else 0) s.slPayload
      { s1.slk with wait := 0, txAt := s.now, sent := p, symbols := s.slModulate p } }

/-- The grant step (R505 step 3). -/
def slAskGrant (s : State) : State :=
  if s.flag SLK_CTL_COEX_EN then
    { s with
      pins := { s.pins with slReq := true, slPri := s.flag SLK_CTL_PRI, slFemRx := false }
      slk := { s.slk with wait := 3, reqAt := if s.pins.slReq then s.slk.reqAt else s.now } }
  else slSend s

/-- Lock is there and no packet is being received: listen-before-talk where the band asks for it (R505 step 2). -/
def slProceed (s : State) : State :=
  match s.slBand s.slk.txCh with
  | some (b, _) =>
    if b.lbt = -128 then slAskGrant s
    else { s with pins := { s.pins with slFemRx := true }, slk := { s.slk with wait := 2, lbtBy := s.now + Config.ticksOfUs (100 * b.lbtT) } }
  | none => slAskGrant s

/-- A transmission in TXWAIT may use the synthesiser now (R505 step 1). -/
def slStartLock (s : State) : State :=
  if s.slk.rx.isSome || s.slk.cal.isSome then s
  else if s.flag SLK_STAT_LOCK && s.getF SLK_STAT_CH = s.slk.txCh then slProceed s
  else if !s.flag SLK_STAT_LOCK && s.getF SLK_STAT_CH = s.slk.txCh && decide (s.now ≤ s.slk.lockBy) then s
  else slRetune s.slk.txCh s

/-- The predicted wait for lock on channel c in ticks (R504 reason 9, R509). -/
def State.slLockWait (s : State) (c : Nat) : Nat :=
  if s.flag SLK_STAT_LOCK && s.getF SLK_STAT_CH = c then 0
  else if s.slState = 1 && s.slk.cal.isNone && s.getF SLK_STAT_CH = c then s.slk.lockBy - s.now
  else max (s.slk.powerBy - s.now) (if s.slk.cal.isSome then s.slk.calBy - s.now else 0) + s.slLockTicks c

/-- The predicted remainder in ticks of the packet being received; before the header is decoded it is taken as that of
LEN = 255 (R504 reason 10). -/
def State.slRxLeft (s : State) : Nat :=
  match s.slk.rx with
  | none => 0
  | some r =>
    let p := match r.hdr with
      | some (len, cfg) => slPaySyms len (cfg.testBit 7)
      | none => slPaySyms 255 (s.flag SLK_PHY_MODP)
    (r.ts.getD s.now) + ticksOfHalfUs (s.slSym * (32 + 24 + p)) - s.now

/-- The first condition of R504 that a transmission on channel c fails; 0 where it passes. -/
def State.slReason (s : State) (c : Nat) : Nat :=
  let q := Config.ticksOfUs (s.getF SLK_TXCFG_QMAX_US)
  if s.slState = 0 then 1
  else if s.slState = 5 || s.slState = 6 then 2
  else
    let l := s.slLicReason c (s.slAir (s.getF SLK_TXCFG_LEN))
    if l != 0 then l
    else if q < s.slLockWait c then 9
    else if s.slState = 4 && q < s.slRxLeft then 10
    else 0

/-- OP = TX on channel c (R504, R505, R510). -/
def slTxCmd (c : Nat) (hop : Bool) (s : State) : State :=
  let r := s.slReason c
  if r != 0 then (let s1 := slTxRefuse r c s; if hop then slHopNext s1 else s1)
  else
    let s1 := { s with slk := { s.slk with
      wait := 1, txCh := c, txHop := hop, waiting := none, txAir := s.slAir (s.getF SLK_TXCFG_LEN) } }
    slStartLock (slEnter 5 s1)

/-! ## Commands -/

/-- OP = CAL on channel c (R494): calibrate, then return to the state before. -/
def slCalCmd (c : Nat) (s : State) : State :=
  if s.slk.cal.isSome then { s with slk := { s.slk with waiting := some (5, c, false) } }
  else
    let st := s.slState
    let s1 := slEnter 1 (slUnlock s)
    let base := max s.now (if st = 0 then s.now + Config.ticksOfUs 100 else s.slk.powerBy)
    { s1 with slk := { s1.slk with
        cal := some c, goal := if st = 1 then s.slk.goal else st, calBy := base + Config.ticksOfUs 120 } }

/-- OP = STANDBY, RX or CAL once nothing keeps it waiting. -/
def slRun (op c : Nat) (hop : Bool) (s : State) : State :=
  if op = 5 then slCalCmd c s
  else slTune (if op = 1 then 2 else 3) c { s with slk := { s.slk with rxHop := hop && op == 2 } }

/-- OP = ABORT (R494). -/
def slAbortCmd (s : State) : State :=
  if s.slState = 6 || s.slState = 5 then slTxEnd (slTxAbort 1 s)
  else if s.slState = 4 then
    let c := s.getF SLK_STAT_CH
    let s1 := (s.setF SLK_TXSTAT_ACAUSE 1).bump SLK_CNT3_RXABORT
    let s2 := if s.slk.rxHop then slHopNext s1 else s1
    slReturn (s.getF SLK_RXCFG_RET_RX) c { s2 with slk := { s2.slk with rxHop := false, endAt := some s.now } }
  else s

/-- OP = OFF (R494). -/
def slOffCmd (s : State) : State :=
  if s.slState = 6 || s.slState = 5 then slDown (slTxOver (slTxAbort 1 s))
  else if s.slState = 4 then
    let s1 := (s.setF SLK_TXSTAT_ACAUSE 1).bump SLK_CNT3_RXABORT
    slDown (if s.slk.rxHop then slHopNext s1 else s1)
  else slDown s

/-- A write of SLK_CMD (R494, R510). -/
def slCommand (op : Nat) (hop : Bool) (ch : Nat) (s : State) : State :=
  if op = 4 then slOffCmd s
  else if op = 6 then slAbortCmd s
  else if op = 0 || 7 ≤ op then refuseAt SLK_CMD codeReserved s
  else if hop && !s.feat 22 then refuseAt SLK_CMD codeNotLocked s
  else
    let c := if hop then s.getF (SLK_HOP_CH (s.getF SLK_HOPCTL_IDX)) else ch
    let st := s.slState
    if op != 3 && 4 ≤ st && st ≤ 6 then refuseAt SLK_CMD codeBusy s
    else if !s.slUsed c || (op = 5 && !s.slTable) then refuseAt SLK_CMD codeReserved s
    else if op = 3 then slTxCmd c hop s
    else if st = 7 then { s with slk := { s.slk with waiting := some (op, c, hop) } }
    else slRun op c hop s

/-- SL_STANDBY. -/
def execSlStandby (m : Master) (hop : Bool) (ch : Nat) (s : State) : Host.Outcome State Fault Refusal :=
  .next (gated m SLK_CMD (0x10000000 + hop.toNat * 0x8000000 + ch % 128) (slCommand 1 hop (ch % 128)) s)

/-- SL_RX. -/
def execSlRx (m : Master) (hop : Bool) (ch : Nat) (s : State) : Host.Outcome State Fault Refusal :=
  .next (gated m SLK_CMD (0x20000000 + hop.toNat * 0x8000000 + ch % 128) (slCommand 2 hop (ch % 128)) s)

/-- SL_TX. -/
def execSlTx (m : Master) (hop : Bool) (ch : Nat) (s : State) : Host.Outcome State Fault Refusal :=
  .next (gated m SLK_CMD (0x30000000 + hop.toNat * 0x8000000 + ch % 128) (slCommand 3 hop (ch % 128)) s)

/-- SL_OFF. -/
def execSlOff (m : Master) (s : State) : Host.Outcome State Fault Refusal := .next (gated m SLK_CMD 0x40000000 (slCommand 4 false 0) s)

/-- SL_CAL. -/
def execSlCal (m : Master) (hop : Bool) (ch : Nat) (s : State) : Host.Outcome State Fault Refusal :=
  .next (gated m SLK_CMD (0x50000000 + hop.toNat * 0x8000000 + ch % 128) (slCommand 5 hop (ch % 128)) s)

/-- SL_ABORT. -/
def execSlAbort (m : Master) (s : State) : Host.Outcome State Fault Refusal := .next (gated m SLK_CMD 0x60000000 (slCommand 6 false 0) s)

/-! ## The synthesiser -/

/-- A calibration of channel c has failed R521 (R522): rejected and retried; the third failure in a row on one channel
turns the link off, and a transmission that waits is refused with SETTLE. -/
def slCalFail (c : Nat) (s : State) : State :=
  let n := if s.slk.failCh = c then s.slk.fails + 1 else 1
  let s1 := calReject 5 2 s
  let s2 := { s1 with slk := { s1.slk with failCh := c, fails := n } }
  if 3 ≤ n then
    let s3 := { s2 with slk := { s2.slk with fails := 0 } }
    slDown (if s.slState = 5 then slTxOver (slTxRefuse 9 s.slk.txCh s3) else s3)
  else { s2 with slk := { s2.slk with
      calBy := s.now + Config.ticksOfUs 120, lockBy := s.now + Config.ticksOfUs 160 } }

/-- The calibration that SL_CAL or R509 asked for completes: the link relocks and goes on where it stood, with the
command that waited. -/
def slCalEnd (c : Nat) (trims : List Byte) (ok : Bool) (s : State) : State :=
  if !ok then slCalFail c s
  else
    let s0 := slFill c trims s
    let s1 := { s0 with slk := { s0.slk with cal := none, waiting := none } }
    let s2 :=
      if s.slState = 5 then slStartLock s1
      else if s.slk.goal = 0 then slDown s1
      else slEnter 1 (slRetune (s.getF SLK_STAT_CH) s1)
    match s.slk.waiting with
    | some (op, ch, hop) => if s.slState = 5 then s2 else slRun op ch hop s2
    | none => s2

/-- Lock on the channel in use: the divider of R488, and the state the link was making for. -/
def slLocked (s : State) : State :=
  let k := 4 * s.getF (SLK_CH_KHZ (s.getF SLK_STAT_CH))
  let s1 := (s.setF SLK_STAT_LOCK 1).setF CLK_DOM_SLK 1
  let s2 := { s1 with slk := { s1.slk with
    n := k / 25000, f := (k % 25000 * 2097152 + 25000) / 50000, lfsr := s.getF SLK_DSEED_SEED, lockAt := s.now, powerBy := 0 } }
  if s.slState = 5 then slProceed s2 else slEnter s.slk.goal s2

/-- The dither register as it stands now: one shift per comparison at 25 MHz since the lock (R99, R488). -/
def State.slLfsr (s : State) : Nat := Nat.repeat lfsrStep ((s.now - s.slk.lockAt) * 25000 / 3932160 % (2 ^ 24 - 1)) s.slk.lfsr

/-- The LSBs that the dither adds at the modulator's input (R99, R488). -/
def State.slDither (s : State) : Int := if !s.flag SLK_DSEED_DITHER then 0 else if s.slLfsr.testBit 0 then 1 else -1

/-- The VCO frequency in hertz: 25 MHz × (N + F / 2^20), the dither in units of 2^-20 (R488). -/
def State.slVcoHz (s : State) : Rat := 25000000 * (s.slk.n + (s.slk.f + s.slDither) / 1048576)

/-- SL_LOCK: the synthesiser locks, after a calibration where one is needed, whose trims and verdict by R521 the
command carries (R488, R489, R521, R522). -/
def execSlLock (t : Nat) (trims : List Byte) (ok : Bool) (s : State) : Host.Outcome State Fault Refusal :=
  let s0 := s.advance t
  let c := s.getF SLK_STAT_CH
  .next <|
    if !s.flag CLK_STAT_HK_OK then s
    else match s.slk.cal with
      | some d => slCalEnd d trims ok s0
      | none =>
        if (s.slState = 1 || s.slState = 5 && s.slk.wait == 1 && s.slk.rx.isNone) && !s.flag SLK_STAT_LOCK && s.slUsed c then
          if s.slGood c then slLocked s0
          else if ok then slLocked (slFill c trims s0) else slCalFail c s0
        else s

/-- Lock is lost (R490): what becomes of a packet in flight (R502, R508), then SETTLE, or TXWAIT where a transmission
waits. -/
def slLoseLock (s : State) : State :=
  if !s.flag SLK_STAT_LOCK then s
  else
    let c := s.getF SLK_STAT_CH
    let lost := fun (s : State) => slRetune (s.getF SLK_STAT_CH) s
    let synced := match s.slk.rx with | some r => r.ts.isSome | none => false
    let rxGone := fun (s : State) =>
      if synced then
        let s1 := (s.setF SLK_TXSTAT_ACAUSE 3).bump SLK_CNT3_RXABORT
        let s2 := if s.slk.rxHop then slHopNext s1 else s1
        { s2 with slk := { s2.slk with rx := none, rxHop := false, endAt := some s.now } }
      else if s.slk.rx.isSome then
        let s1 := s.setF SLK_TXSTAT_ACAUSE 3
        { s1 with slk := { s1.slk with rx := none } }
      else s
    if s.slState = 6 then slTxEnd (lost (slTxAbort 3 s))
    else if s.slState = 4 then
      if synced then slReturn (s.getF SLK_RXCFG_RET_RX) c (slEnter 1 (lost (rxGone s)))
      else slEnter 1 (lost (rxGone { s with slk := { s.slk with goal := 3 } }))
    else if s.slState = 5 then
      let s1 := rxGone s
      slRetune s.slk.txCh { s1 with slk := { s1.slk with wait := 1 }, pins := { s1.pins with slFemRx := false } }
    else slEnter 1 (lost s)

/-- SL_LOCK_LOSS. -/
def execSlLockLoss (t : Nat) (s : State) : Host.Outcome State Fault Refusal := .next (slLoseLock (s.advance t))

/-- HK_STOP: the DAC is muted, the PA balls are released and HK_OK reads 0; nothing resets (R89, R470).  The
service link loses lock (R490, R512). -/
def execHkStop (s : State) : Host.Outcome State Fault Refusal :=
  .next (if s.pwr.inReset then s else
    slLoseLock (excRelease causeHk ((s.setF CLK_STAT_HK_OK 0).setF CLK_DOM_HK 0)))

/-- HK_RESTORE: HK_OK returns to 1 once the crystal has run for 10 ms (R89). -/
def execHkRestore (s : State) : Host.Outcome State Fault Refusal :=
  .next (if s.pwr.inReset then s else (s.setF CLK_STAT_HK_OK 1).setF CLK_DOM_HK 1)

/-! ## Receiving -/

/-- A preamble is declared: 4 consecutive symbols reach PD_TH at timings within 1 chip of one another (R500). -/
def State.slHeard (s : State) (p : SlDetect) : Bool :=
  let l := p.corr.take 4
  l.length == 4 && l.all (fun x => decide (s.getF SLK_RXCFG_PD_TH ≤ x.1) && l.all fun y => decide ((x.2 - y.2).natAbs ≤ 1))

/-- The start of a reception at step 1 of R500: the aerial of the higher correlation energy held, and the gain, 0 to 62 dB
in 2 dB steps, frozen (R499). -/
def slRxStart (captured : Bool) (p : SlDetect) (s : State) : State :=
  let a := s.getF SLK_RXCFG_ANT
  let b := if a = 2 then decide (p.energyA < p.energyB) else a == 1
  let f := if s.flag SLK_RXCFG_AFC then p.foff else 0
  let s1 := slEnter 4 s
  { s1 with
    pins := { s1.pins with slAsw := b }
    slk := { s1.slk with rx := some { ch := s.getF SLK_STAT_CH, aerial := b, gain := min p.gain 31, rssi := p.rssi, foff := f, captured := captured, at_ := s.now } } }

/-- SL_PREAMBLE_DETECT: in LISTEN a preamble is declared; before the sync word is found, a detection more than 2 chips
away and at least 3 dB stronger (0.1 dB) replaces the reception (R500, R501). -/
def execSlPreambleDetect (chips : Nat) (db : Int) (p : SlDetect) (s : State) : Host.Outcome State Fault Refusal :=
  .next <|
    if !s.slHeard p then s
    else if s.slState = 3 then slRxStart false p s
    else match s.slk.rx with
      | some r =>
        if s.slState = 4 && r.ts.isNone && 2 < chips && 30 ≤ db then slRxStart r.captured p (s.bump SLK_CNT3_FALSE) else s
      | none => s

/-- SL_CAPTURE: a new preamble db (0.1 dB) above the current one at the ball, once the sync word has been found
(R501). -/
def execSlCapture (db : Int) (p : SlDetect) (s : State) : Host.Outcome State Fault Refusal :=
  .next <|
    match s.slk.rx with
    | some r =>
      if s.slState != 4 || r.ts.isNone || !s.slHeard p then s
      else if s.flag SLK_RXCFG_CAPTURE && 10 * (s.getF SLK_RXCFG_CAPT_DB : Int) ≤ db then
        slRxStart true p (raise evSlCapture r.ch ((s.setF SLK_TXSTAT_ACAUSE 4).bump SLK_CNT2_CAPT))
      else s.bump SLK_CNT2_IGNORED
    | none => s

/-- A reception ends that is no packet end: LISTEN, or a transmission that waited goes on (R493, R505). -/
def slRxDrop (s : State) : State :=
  let s1 := { s with slk := { s.slk with rx := none } }
  if s.slState = 5 then slStartLock s1 else slEnter 3 s1

/-- A packet ends: the return state, or a transmission that waited goes on (R493, R505, R510). -/
def slRxEnd (s : State) : State :=
  let s1 := if s.slk.rxHop then slHopNext s else s
  let s2 := { s1 with slk := { s1.slk with rx := none, rxHop := false, endAt := some s.now } }
  if s.slState = 5 then slStartLock s2 else slReturn (s.getF SLK_RXCFG_RET_RX) (s.getF SLK_STAT_CH) s2

/-- Bit errors of a received word against the sync word (R500). -/
def State.slErrors (s : State) (word : Nat) : Nat := ((List.range 32).filter fun k => word.testBit k != (s.getF SLK_SYNC_WORD).testBit k).length

/-- SL_SYNC_FOUND: 32 bits received against the sync word, with 2 or fewer errors; TS is its first chip's instant, and
CLK_SUSPECT marks an SPLL out of lock at TS (R500, R503). -/
def execSlSyncFound (word rho ts : Nat) (foff : Int) (s : State) : Host.Outcome State Fault Refusal :=
  .next <|
    match s.slk.rx with
    | some r =>
      if r.ts.isSome || 2 < s.slErrors word then s
      else
        let f := if s.flag SLK_RXCFG_AFC then foff else 0
        { s with slk := { s.slk with rx := some { r with ts := some ts, flags := s.clockOver ts ts, rho := rho, foff := f } } }
    | none => s

/-- SL_SYNC_TIMEOUT: SYNC_TO symbols have passed since the detection (R502). -/
def execSlSyncTimeout (t : Nat) (s : State) : Host.Outcome State Fault Refusal :=
  .next <|
    match s.slk.rx with
    | some r => if r.ts.isNone && decide (r.at_ + ticksOfHalfUs (s.getF SLK_PHY_SYNC_TO * s.slSym) ≤ t) then slRxDrop ((s.advance t).bump SLK_CNT1_SYNCTO) else s
    | none => s

/-- SL_HEADER: the three header bytes as received, whitened (R497, R498, R502). -/
def execSlHeader (raw : List Nat) (t : Nat) (s : State) : Host.Outcome State Fault Refusal :=
  .next <|
    match s.slk.rx with
    | some r =>
      if r.ts.isNone || r.hdr.isSome then s
      else
        let s0 := s.advance t
        let h := whiten raw 0x1FF
        let len := h.getD 0 0
        let cfg := h.getD 1 0
        if slHcrc len cfg != h.getD 2 0 || len = 0 || cfg % 128 != 0 then slRxDrop (s0.bump SLK_CNT1_HDRERR)
        else { s0 with slk := { s0.slk with rx := some { r with hdr := some (len, cfg) } } }
    | none => s

/-- The bytes of a ring slot (R503); what lies beyond the payload in DATA the spec leaves open
(notes/assumptions/5.md). -/
def slSlotBytes (r : SlRx) (good : Bool) (pay : List Nat) (tail : Nat) : List Nat :=
  leNat 8 (r.ts.getD 0) ++ leNat 2 r.flags
    ++ [r.ch, good.toNat * 128 + r.captured.toNat * 64 + r.aerial.toNat * 32
          + (match r.hdr with | some (_, c) => c / 128 % 2 * 16 | none => 0), pay.length, r.gain]
    ++ leNat 2 (unsignedOf 16 r.rssi) ++ leNat 2 (unsignedOf 16 r.foff) ++ leNat 2 r.rho
    ++ List.replicate 12 0 ++ pay ++ leNat (255 - pay.length) tail

/-- Store a packet in the ring (R503): with 8 unread slots it is discarded and counted in OVF. -/
def slStore (r : SlRx) (good : Bool) (pay : List Nat) (s : State) : State :=
  if 8 ≤ s.getF SLK_RXPTR_UNREAD then s.bump SLK_RXPTR_OVF
  else
    let f := s.free
    let l := slSlotBytes r good pay f.1
    let i := s.getF SLK_RXPTR_WR
    let s1 := forEach (List.range 72) (fun w s =>
      s.wr (SLK_RX i w) (BitVec.ofNat 32 ((l.drop (4 * w)).take 4 |>.foldr (fun b a => b % 256 + 256 * a) 0))) f.2
    let s2 := (s1.setF SLK_RXPTR_WR ((i + 1) % 8)).setF SLK_RXPTR_UNREAD (s.getF SLK_RXPTR_UNREAD + 1)
    raise evSlRxDone r.ch { s2 with slk := { s2.slk with lastAnt := r.aerial } }

/-- SL_RX_DONE: payload and CRC as received, whitened (R502, R503). -/
def execSlRxDone (raw : List Nat) (t : Nat) (s : State) : Host.Outcome State Fault Refusal :=
  .next <|
    match s.slk.rx with
    | some r =>
      match r.hdr with
      | some (len, cfg) =>
        let s0 := s.advance t
        let d := whiten raw (whiteAfter 3 0x1FF)
        let pay := (List.range len).map fun k => d.getD k 0
        let good := slCrc ([len, cfg, slHcrc len cfg] ++ pay) == d.getD len 0 * 256 + d.getD (len + 1) 0
        if good then slRxEnd (slStore r true pay (s0.bump SLK_CNT0_RXOK))
        else
          let s1 := s0.bump SLK_CNT0_CRCERR
          slRxEnd (if s.flag SLK_RXCFG_DELIV_BAD then slStore r false pay s1 else s1)
      | none => s
    | none => s

/-- A write of SLK_RXPTR: every slot from the old RD up to the new one is freed (R503). -/
def slFree (w : Word) (s : State) : State :=
  let n := bitsOf w.toNat 2 0
  let k := (n + 8 - s.getF SLK_RXPTR_RD) % 8
  (s.setF SLK_RXPTR_RD n).setF SLK_RXPTR_UNREAD (s.getF SLK_RXPTR_UNREAD - k)

/-- SL_RX_FREE. -/
def execSlRxFree (m : Master) (v : Word) (s : State) : Host.Outcome State Fault Refusal := .next (gated m SLK_RXPTR v.toNat (slFree v) s)

/-! ## Ends of a wait and of a transmission -/

/-- SL_LBT_END: at its end, the mean RSSI over the listen-before-talk time in 0.1 dBm (R505). -/
def execSlLbtEnd (rssi : Int) (t : Nat) (s : State) : Host.Outcome State Fault Refusal :=
  .next <|
    if s.slState = 5 && s.slk.wait = 2 && decide (s.slk.lbtBy ≤ t) then
      let s0 := s.advance t
      match s.slBand s.slk.txCh with
      | some (b, _) => if 10 * b.lbt < rssi then slTxEnd (slTxRefuse 12 s.slk.txCh s0) else slAskGrant s0
      | none => slAskGrant s0
    else s

/-- SL_GRANT: SL_GNT has been high for 200 ns (R505). -/
def execSlGrant (t : Nat) (s : State) : Host.Outcome State Fault Refusal :=
  let s0 := { s.advance t with pins := { s.pins with slGnt := true } }
  .next (if s.slState = 5 && s.slk.wait = 3 then slSend s0 else s0)

/-- SL_GRANT_TIMEOUT: GNT_TO_US has passed from the rise of SL_REQ (R505). -/
def execSlGrantTimeout (t : Nat) (s : State) : Host.Outcome State Fault Refusal :=
  let s0 := s.advance t
  .next <|
    if s.slState = 5 && s.slk.wait = 3 && decide (s.slk.reqAt + Config.ticksOfUs (s.getF SLK_CTL_GNT_TO_US) ≤ s0.now)
    then slTxEnd (slTxRefuse 11 s.slk.txCh s0) else s

/-- SL_TX_DONE: the last chip is sent (R508). -/
def execSlTxDone (t : Nat) (s : State) : Host.Outcome State Fault Refusal :=
  .next <|
    if s.slState = 6 && decide (s.slk.txAt + ticksOfHalfUs s.slk.txAir ≤ t) then
      let s0 := s.advance t
      let s1 := slDutyAdd s.slk.txCh s.slk.txAir ((s0.setF SLK_TXSTAT_AIR_US (s.slk.txAir / 2)).bump SLK_CNT4_TXOK)
      slTxEnd (raise evSlTxDone s.slk.txCh s1)
    else s

/-- SL_GNT_LOST: SL_GNT has been low for 50 ns (R508); with COEX_EN = 0 it is ignored (R505). -/
def execSlGntLost (t : Nat) (s : State) : Host.Outcome State Fault Refusal :=
  let s0 := { s.advance t with pins := { s.pins with slGnt := false } }
  .next <|
    if s.slState = 6 && s.flag SLK_CTL_COEX_EN then
      slTxEnd (slTxAbort 2 (raise evSlGntLost s.slk.txCh (s0.bump SLK_CNT5_GNTLOST)))
    else s0

/-- SL_DUTY_BIN: a second passes, and airtime older than 3,600 s leaves the sums (R507). -/
def execSlDutyBin (t : Nat) (s : State) : Host.Outcome State Fault Refusal :=
  let s0 := s.advance t
  .next (slDutyShow { s0 with slk := { s0.slk with bins := s0.slk.bins.map fun l => (0 :: l).take 3600 } })

/-- The link may begin a background calibration of channel c (R509). -/
def State.slMayBg (s : State) (c : Nat) : Bool :=
  let mode := s.getF SLK_CTL_BGCAL
  s.slTable && s.slUsed c && !s.slGood c
    && (s.slState = 2 && (mode = 1 || mode = 2) || s.slState = 3 && mode = 2)
    && (match s.slk.endAt with | some e => decide (e + Config.ticksPerMs ≤ s.now) | none => true)

/-- SL_BGCAL: a background calibration of channel c starts, or the one that runs completes with its trims and its
verdict by R521 (R509). -/
def execSlBgcal (c t : Nat) (trims : List Byte) (ok : Bool) (s : State) : Host.Outcome State Fault Refusal :=
  let s0 := s.advance t
  .next <|
    if s.slState = 7 then (match s.slk.cal with | some d => slCalEnd d trims ok s0 | none => s)
    else if s0.slMayBg c then
      let s1 := slEnter 7 (slUnlock s0)
      { s1 with slk := { s1.slk with cal := some c, calBy := s0.now + Config.ticksOfUs 120 } }
    else s

/-! ## Hooks of other blocks -/

/-- A packet is being sent or received (R491, R165). -/
def State.slBusy (s : State) : Bool := s.slState = 6 || s.slState = 4

/-- A spare remap of the link's pod (R32 note q): a packet in flight is aborted and counted, and the return state
follows. -/
def slRemap (s : State) : State :=
  if s.slState = 6 then slTxEnd (slTxAbort 5 s)
  else if s.slState = 4 then slRxEnd ((s.setF SLK_TXSTAT_ACAUSE 5).bump SLK_CNT3_RXABORT)
  else s

/-- A licence record becomes VALID, or none is (R506, R507): the state of its section and its bands.  With a new section
a band keeps its history where its limits stay the same; without one the history stands.  A transmission no longer
permitted is aborted. -/
def slLicence (st : Nat) (bands : List SlBand) (s : State) : State :=
  let old := s.slk.bands.zip s.slk.bins
  let bins := bands.map fun b =>
    match old.find? fun p => p.1.flo == b.flo && p.1.fhi == b.fhi with | some p => p.2 | none => []
  let s1 := (s.setF SLK_LIC_STATE st).setF SLK_LIC_NBAND bands.length
  let s2 := if st = 2 then slDutyShow { s1 with slk := { s1.slk with bands := bands, bins := bins } } else s1
  if (s.slState = 6 || s.slState = 5) && s2.slLicReason s.slk.txCh s.slk.txAir != 0
  then slTxEnd (slTxAbort 6 s2) else s2

/-! ## Registers -/

/-- A write of an SLK register (R487, R511). -/
def slkRegWrite (a : Nat) (w : Word) (s : State) : State :=
  let st := s.slState
  if a = SLK_CMD then slCommand (bitsOf w.toNat 31 28) (w.toNat.testBit 27) (bitsOf w.toNat 6 0) s
  else if a = SLK_RXPTR then slFree w s
  else if (a = SLK_PHY || a = SLK_SYNC || a = SLK_RXCFG || a = SLK_DSEED) && st != 0 && st != 2 && !keeps a w s then
    refuseAt a codeWrongState s
  else if (a = SLK_TXCFG || (SLK_TXD 0 ≤ a && a < SLK_TXD 64)) && (st = 5 || st = 6) && !keeps a w s then refuseAt a codeBusy s
  else if a = SLK_HOPCTL && bitsOf w.toNat 22 16 ≤ bitsOf w.toNat 5 0 then refuseAt a codeReserved s
  else if SLK_CH 0 ≤ a && a < SLK_CH 128 then
    let c := (a - SLK_CH 0) / 4
    let k := bitsOf w.toNat 19 0
    if st != 0 && c = s.getF SLK_STAT_CH && !keeps a w s then refuseAt a codeWrongState s
    else if k != 0 && (k < 779000 || 960000 < k) then refuseAt a codeReserved s
    else slEmpty c (regPut a w s)
  else plainWrite a w s

end Sys2Proof.Machine
end

