-- ==== Sys2Proof/Machine/Cal.lean ====
section
/-! DEFINITION. Calibration (spec/20 R513 to R532): requests, conditions, runs, their limits, application and the
calibration image. -/

namespace Sys2Proof.Machine

/-- The reference sensor of calibration n (R513). -/
def calSensor (n : Nat) : Nat := if n = 0 || n = 2 then 0 else 1

/-- STATE of calibration n: 0 IDLE, 1 WAIT_COND, 2 RUN. -/
def State.calState (s : State) (n : Nat) : Nat := s.getF (CALn_STAT_STATE n)

/-- The conditions of R516 to enter RUN. -/
def State.calCond (s : State) (n : Nat) : Bool :=
  if n = 0 || n = 1 then
    s.counting && !s.flag (RFEa_GSTAT_PEND n) && decide (10 ≤ (s.input n).cleanWindows) && s.calState (1 - n) != 2
  else if n = 2 || n = 3 then (s.cal (n - 2)).firstAt.isSome && s.calState (n - 2) = 0
  else n = 4 && !s.pins.paRf && s.flag CLK_STAT_LOCK

/-- Calibration n enters RUN (R519, R520): an FE or LOOP run opens its STALE span at the first block boundary. -/
def calEnter (n : Nat) (s : State) : State :=
  let c := s.cal n
  let il := n = 2 || n = 3
  (s.setCal n { c with spanOpen := !il, spanFrom := if il then c.spanFrom else s.blockAt s.now, windows := 0, ta := none }).setF
    (CALn_STAT_STATE n) 2

/-- A request of calibration n (R514, R516): 1 start-up, 2 temperature or retry, 3 command. -/
def calRequest (n src : Nat) (s : State) : State :=
  let s1 := s.setCal n { s.cal n with src := src, asked := s.now, retry := false }
  let s2 := if src = 1 then s1.setF (CALn_STAT_DUE n) 1 else s1
  if s2.calCond n then calEnter n s2 else raise evCalWait n (s2.setF (CALn_STAT_STATE n) 1)

/-- The start-up requests at entry to LOADED, in order of n (R514, R524). -/
def calStartUp (s : State) : State := forEach (List.range 5) (fun n s => calRequest n 1 s) s

/-- The distance of the reference sensor from TEMP in quarter degrees. -/
def State.calMoved (s : State) (n : Nat) : Nat := (s.ts (calSensor n) - s.getI (CALn_STAT_TEMP n)).natAbs

/-- The temperature condition of R514 holds. -/
def State.calFar (s : State) (n : Nat) : Bool :=
  (s.cal n).firstAt.isSome && decide (4 * s.getF CAL_CFG_TDELTA < s.calMoved n)

/-- DUE and CURRENT follow the temperature (R514). -/
def calFollow (n : Nat) (s : State) : State :=
  let s1 := if s.calFar n then s.setF (CALn_STAT_DUE n) 1 else s
  s1.setB (CALn_STAT_CURRENT n) ((s.cal n).firstAt.isSome && decide (s.calMoved n ≤ 12 * s.getF CAL_CFG_TDELTA))

/-- A temperature request of calibration n is to be made: its bit of CAL_AUTO is 1, the condition holds, and neither a
request stands nor a rejected one waits for its conditions (R514, R517). -/
def State.calAsks (s : State) (n : Nat) : Bool :=
  s.calFar n && (s.getF CAL_AUTO_EN).testBit n && s.calState n = 0 && !(s.cal n).retry

/-- A write of CAL_CMD (R514, R524, R530). -/
def calCmdWrite (op n : Nat) (s : State) : State :=
  if !(op = 1 || op = 2) || 5 ≤ n then refuse CAL_REFUSE codeReserved s
  else if op = 1 then (if s.calState n != 0 then refuse CAL_REFUSE codeBusy s else calRequest n 3 s)
  else if s.calState n = 2 then refuse CAL_REFUSE codeBusy s
  else if s.calState n = 0 then refuse CAL_REFUSE codeWrongState s
  else calReject n 4 s

/-- CAL_RUN: CAL_CMD with OP = RUN. -/
def execCalRun (m : Master) (n : Nat) (s : State) : Host.Outcome State Fault Refusal :=
  .next (gated m CAL_CMD (0x10000000 + n % 8) (calCmdWrite 1 (n % 8)) s)

/-- CAL_CANCEL: CAL_CMD with OP = CANCEL. -/
def execCalCancel (m : Master) (n : Nat) (s : State) : Host.Outcome State Fault Refusal :=
  .next (gated m CAL_CMD (0x20000000 + n % 8) (calCmdWrite 2 (n % 8)) s)

/-- CAL_TEMP_CHECK: every 100 ms the sensors are compared with TEMP, and service-link entries grow stale (R514,
R515). -/
def execCalTempCheck (t : Nat) (s : State) : Host.Outcome State Fault Refusal :=
  .next <|
    if s.pwr.inReset || s.stage < 2 then s
    else
      let s1 := forEach (List.range 5) (fun n s => calFollow n s) (slStale (s.advance t))
      if !s.firmwareOn 4 then s1
      else forEach (List.range 5) (fun n s => if s.calAsks n then calRequest n 2 s else s) s1

/-- CAL_COND_MET: the conditions of a request in WAIT_COND hold, or hold again after a rejection that R517 retries. -/
def execCalCondMet (n t : Nat) (s : State) : Host.Outcome State Fault Refusal :=
  let s0 := s.advance t
  .next <|
    if 5 ≤ n || !s0.firmwareOn 4 || !s0.calCond n then s
    else if s0.calState n = 1 then calEnter n s0
    else if s0.calState n = 0 && (s0.cal n).retry && s0.flag (CALn_STAT_DUE n) && (s0.getF CAL_AUTO_EN).testBit n then
      calRequest n 2 s0
    else s

/-- CAL_WAIT: a temperature request is due whose conditions do not hold, and waits (R514, R516). -/
def execCalWait (n t : Nat) (s : State) : Host.Outcome State Fault Refusal :=
  let s0 := s.advance t
  .next (if n < 5 && s0.firmwareOn 4 && s0.calAsks n && !s0.calCond n then calRequest n 2 (calFollow n s0) else s)

/-- CAL_WAIT_TIMEOUT: a request that is not a start-up request still stands CAL_CFG.WAIT × 100 ms after it was made
(R517). -/
def execCalWaitTimeout (n t : Nat) (s : State) : Host.Outcome State Fault Refusal :=
  let s0 := s.advance t
  let c := s0.cal n
  .next <|
    if n < 5 && s0.calState n != 0 && c.src != 1 && c.ta.isNone
        && decide (c.asked + s0.getF CAL_CFG_WAIT * 100 * Config.ticksPerMs ≤ s0.now)
    then calReject n 1 s0 else s

/-- Every value of a list lies within ± b. -/
def allWithin (b : Int) (l : List Int) : Bool := l.all fun x => decide (-b ≤ x) && decide (x ≤ b)

/-- The limits of the FE calibrations (R521): 2 dB, 0.5 dB, 128 codes, 5 %, 20 ps. -/
def feOk (q : CalMeas) : Bool :=
  allWithin 200 [q.lna] && allWithin 50 q.att && allWithin 128 q.offs && allWithin 5000 q.gains && allWithin 20000 q.skews

/-- A result of calibration n is within the limits of R521. -/
def State.calOk (s : State) (n : Nat) (q : CalMeas) : Bool :=
  if n < 2 then feOk q
  else if n < 4 then
    if (s.cal n).src = 1 then allWithin 128 q.offs && allWithin 5000 q.gains && allWithin 20000 q.skews
    else allWithin 500 q.dgains && allWithin 2000 q.dskews
  else allWithin 300 [q.loop] && (match (s.cal 4).delay with | some d => allWithin 2000 [q.delay - d] | none => true)

/-- CAL_MEASURE_DONE: the measurements are complete; an accepted result takes effect at the first block boundary 10 µs
later (R519, R521).  An IL run needs 100 qualifying windows (R513). -/
def execCalMeasureDone (n : Nat) (q : CalMeas) (t : Nat) (s : State) : Host.Outcome State Fault Refusal :=
  let s0 := s.advance t
  let c := s0.cal n
  .next <|
    if 5 ≤ n || s0.calState n != 2 || c.ta.isSome || ((n = 2 || n = 3) && c.windows < 100) then s
    else if s0.calOk n q then
      s0.setCal n { c with ta := some (s0.blockAt (s0.now + Config.ticksOfUs 10)), new := q.trims, newDelay := q.delay }
    else calReject n 2 s0

/-- Corrections of calibration n take effect at ta with the sensor reading they belong to (R519, R528): 1 by a run, 2 by
a restore. -/
def calTake (n res ta : Nat) (temp : Int) (trims : List Byte) (s : State) : State :=
  let c := s.cal n
  let s1 := ((s.setF (CALn_STAT_LASTRES n) res).setF (CALn_STAT_REASON n) 0).setI (CALn_STAT_TEMP n) temp
  let s2 := (s1.set64 (CALn_TS_LO n) (CALn_TS_HI n) ta).bump (CALn_CNT_RUNS n)
  let s3 := s2.setCal n { c with trims := trims, retry := false, firstAt := match c.firstAt with | some f => some f | none => some ta }
  raiseAt evCalDone n ta ((s3.setF (CALn_STAT_DUE n) 0).setF (CALn_STAT_CURRENT n) 1)

/-- CAL_DONE: the boundary t_a has come, and every accepted correction takes effect at once (R519). -/
def execCalDone (n t : Nat) (s : State) : Host.Outcome State Fault Refusal :=
  let s0 := s.advance t
  let c := s0.cal n
  .next <|
    match c.ta with
    | some ta =>
      if n < 5 && s0.calState n = 2 && decide (ta ≤ s0.now) then
        let s1 := (s0.setF (CALn_STAT_STATE n) 0).setCal n { c with
          src := 0, ta := none, spanOpen := false, spanTo := if c.spanOpen then ta else c.spanTo,
          delay := if n = 4 then some c.newDelay else none }
        calTake n 1 ta (s0.ts (calSensor n)) c.new s1
      else s
    | none => s

/-- CAL_ABANDON: PA_RF_EN is about to rise, or lock is lost, during a LOOP run (R516, R518). -/
def execCalAbandon (t : Nat) (s : State) : Host.Outcome State Fault Refusal :=
  .next (if s.exc.step = .rfUp || s.pins.paRf || !s.flag CLK_STAT_LOCK then calAbandon (s.advance t) else s)

/-! ## The image -/

/-- What an unlisted window byte reads as: 0. -/
def winDefault (_ : Nat) : Byte := 0

/-- The byte at native address a of a byte window. -/
def State.winGet (s : State) (a : Nat) : Byte := sget winDefault s.win a

/-- n window bytes from native address a. -/
def State.winBytes (s : State) (a n : Nat) : List Byte := (List.range n).map fun i => s.winGet (a + i)

/-- Store bytes in a window. -/
def winPut (a : Nat) (l : List Byte) (s : State) : State :=
  { s with win := (l.zipIdx).foldl (fun m p => sset winDefault (a + p.2) p.1 m) s.win }

/-- The native address of copy i of the image (R526). -/
def calCopy (i : Nat) : Nat := 0x80000 + 0x10000 * i

/-- Data length of section n (R525). -/
def calLen (n : Nat) : Nat := if n = 2 || n = 3 then 1024 else if n = 5 then 2048 else 512

/-- Offset of section n (R525). -/
def calOff (n : Nat) : Nat :=
  if n = 0 then 64 else if n = 1 then 584 else if n = 2 then 1104 else if n = 3 then 2136 else if n = 4 then 3168 else 3688

/-- A list cut or padded with zeros to n bytes. -/
def fit (n : Nat) (l : List Byte) : List Byte := l.take n ++ List.replicate (n - l.length) 0

/-- Section 5: 128 entries of KHZ, TEMP and trims; an empty entry has KHZ = 0. -/
def State.slSectionBytes (s : State) : List Byte :=
  ((List.range 128).map fun c =>
    let e := s.slEntry c
    if e.filled then bytesOf 4 e.khz ++ bytesOf 2 (unsignedOf 16 e.temp) ++ fit 10 e.trims else List.replicate 16 0).flatten

/-- A section with its header (R525). -/
def State.calSection (s : State) (n : Nat) : List Byte :=
  let valid := if n = 5 then s.slk.entries.any (fun p => p.2.filled) else (s.cal n).firstAt.isSome
  [BitVec.ofNat 8 n, 1, if valid then 1 else 0, 0] ++ bytesOf 4 (calLen n)
    ++ (if !valid then List.replicate (calLen n) 0 else if n = 5 then s.slSectionBytes else fit (calLen n) (s.cal n).trims)

/-- The image of the corrections in force, with generation gen (R525). -/
def State.calImage (s : State) (gen : Nat) : List Byte :=
  let head := bytesOf 4 0x43414C49 ++ [1, 6] ++ bytesOf 2 8192 ++ bytesOf 4 gen ++ bytesOf 8 s.sec.otp.devId
    ++ bytesOf 1 Config.step ++ [0, 0, 0] ++ ((List.range 8).map fun k => bytesOf 2 (unsignedOf 16 (s.ts k))).flatten
  let body := fit 8188 (fit 64 head ++ ((List.range 6).map s.calSection).flatten)
  body ++ bytesOf 4 (crc32 body)

/-- A save (R527). -/
def calSave (s : State) : State :=
  let gen := (s.getF CAL_IMG_GEN_GEN + 1) % 2 ^ 32
  ((winPut (calCopy 0) (s.calImage gen) s).setF CAL_IMG_GEN_GEN gen).setF CAL_IMG_STAT_RESULT 1

/-- A section header is right (R525). -/
def secHeadOk (l : List Byte) (n : Nat) : Bool :=
  let o := calOff n
  leAt l o 1 = n && leAt l (o + 1) 1 = 1 && leAt l (o + 3) 1 = 0 && leAt l (o + 4) 4 = calLen n

/-- The BAD code of a copy (R528): 0 valid. -/
def State.calBad (s : State) (l : List Byte) : Nat :=
  if leAt l 0 4 != 0x43414C49 || leAt l 4 1 != 1 || leAt l 5 1 != 6 || leAt l 6 2 != 8192
      || !((List.range 6).all (secHeadOk l)) then 1
  else if crc32 (l.take 8188) != leAt l 8188 4 then 2
  else if leAt l 12 8 != s.sec.otp.devId then 3
  else if leAt l 20 1 != Config.step then 4
  else 0

/-- Generation i is newer than generation j (R528). -/
def newerGen (i j : Nat) : Bool :=
  let d := (i + 2 ^ 32 - j % 2 ^ 32) % 2 ^ 32
  decide (1 ≤ d) && decide (d ≤ 2147483647)

/-- The restored section n of 0 to 4 is skipped or applied (R528); ok: within the absolute limits of R521. -/
def calRestoreOne (l : List Byte) (n : Nat) (ok : Bool) (s : State) : State :=
  if s.calState n = 2 then s.setF ⟨CAL_IMG_STAT, 8 + n, 8 + n⟩ 1
  else if !ok then
    let s1 := (s.setF ⟨CAL_IMG_STAT, 8 + n, 8 + n⟩ 1).bump (CALn_CNT_REJECTS n)
    raise evCalReject n ((s1.setF (CALn_STAT_LASTRES n) 3).setF (CALn_STAT_REASON n) 2)
  else
    let temp := signedOf 16 (leAt l (24 + 2 * calSensor n) 2)
    let s1 := calTake n 2 (s.blockAt s.now) temp ((l.drop (calOff n + 8)).take (calLen n)) s
    let s2 := calFollow n (s1.setF ⟨CAL_IMG_STAT, n, n⟩ 1)
    if s2.calAsks n then calRequest n 2 s2 else s2

/-- The restored section 5: entries are filled where R528 lets them be. -/
def calRestoreSl (l : List Byte) (ok : Bool) (s : State) : State :=
  if !s.slTable then s.setF ⟨CAL_IMG_STAT, 13, 13⟩ 1
  else if !ok then raise evCalReject 5 ((s.setF ⟨CAL_IMG_STAT, 13, 13⟩ 1).bump (CALn_CNT_REJECTS 5))
  else
    let s1 := forEach (List.range 128) (fun c s =>
      let o := calOff 5 + 8 + 16 * c
      let k := leAt l o 4
      let tuning := s.slk.cal = some c || (s.slState = 1 && s.slk.cal.isNone && s.getF SLK_STAT_CH = c)
      if k != 0 && k = s.getF (SLK_CH_KHZ c) && !s.slGood c && !tuning then
        (s.setSlEntry c ⟨true, false, k, signedOf 16 (leAt l (o + 4) 2), (l.drop (o + 6)).take 10⟩).setF (SLK_CH_CAL c) 1
      else s) s
    slStale (s1.setF ⟨CAL_IMG_STAT, 5, 5⟩ 1)

/-- A restore (R528): ok gives the verdict of R521 on each section. -/
def calRestore (ok : List Bool) (s : State) : State :=
  let l0 := s.winBytes (calCopy 0) 8192
  let l1 := s.winBytes (calCopy 1) 8192
  let b0 := s.calBad l0
  let b1 := s.calBad l1
  let s1 := (((s.setF CAL_IMG_STAT_BAD0 b0).setF CAL_IMG_STAT_BAD1 b1).setF CAL_IMG_STAT_APPLIED 0).setF CAL_IMG_STAT_SKIPPED 0
  if b0 != 0 && b1 != 0 then s1.setF CAL_IMG_STAT_RESULT 2
  else
    let one := b0 != 0 || (b1 = 0 && newerGen (leAt l1 8 4) (leAt l0 8 4))
    let l := if one then l1 else l0
    let s2 := ((s1.setF CAL_IMG_STAT_RESULT 1).setB CAL_IMG_STAT_USED one).setF CAL_IMG_GEN_GEN (leAt l 8 4)
    forEach (List.range 6) (fun n s =>
      if leAt l (calOff n + 2) 1 = 1 then
        (if n = 5 then calRestoreSl l (ok.getD 5 false) s else calRestoreOne l n (ok.getD n false) s)
      else s) s2

/-- A write of CAL_IMG_CMD (R527, R528, R530). -/
def calImgWrite (w : Nat) (ok : List Bool) (s : State) : State :=
  if w.testBit 0 && w.testBit 1 then refuse CAL_REFUSE codeReserved s
  else if w % 4 != 0 && s.flag CAL_IMG_STAT_BUSY then refuse CAL_REFUSE codeBusy s
  else if w.testBit 0 then calSave s
  else if w.testBit 1 then calRestore ok s
  else s

/-- SAVE. -/
def execCalImgSave (m : Master) (s : State) : Host.Outcome State Fault Refusal := .next (gated m CAL_IMG_CMD 1 (calImgWrite 1 []) s)

/-- CAL_IMG_RESTORE. -/
def execCalImgRestore (m : Master) (ok : List Bool) (s : State) : Host.Outcome State Fault Refusal :=
  .next (gated m CAL_IMG_CMD 2 (calImgWrite 2 ok) s)

/-! ## Registers -/

/-- A write of a CAL register (R530).  What R521 finds of a restore that comes as a plain register write is a free value
(notes/assumptions/5.md). -/
def calRegWrite (a : Nat) (w : Word) (s : State) : State :=
  if a = CAL_CMD then calCmdWrite (bitsOf w.toNat 31 28) (bitsOf w.toNat 2 0) s
  else if a = CAL_IMG_CMD then (let f := s.free; calImgWrite w.toNat ((List.range 6).map fun n => f.1.testBit n) f.2)
  else if a = CAL_IMG_GEN && s.flag CAL_IMG_STAT_BUSY then refuse CAL_REFUSE codeBusy s
  else plainWrite a w s

/-- A 32-bit write into the image window (R526). -/
def calWinWrite (a : Nat) (w : Word) (s : State) : State :=
  if s.flag CAL_IMG_STAT_BUSY then refuse CAL_REFUSE codeBusy s
  else if (0x80000 ≤ a && a < 0x82000) || (0x90000 ≤ a && a < 0x92000) then winPut a (bytesOf 4 w.toNat) s
  else s

end Sys2Proof.Machine
end

