-- ==== Sys2Proof/Machine/Paths.lean ====
section
/-! DEFINITION. Coefficient banks, filter chains and the running of a path (spec/07 R178 to R201). -/

namespace Sys2Proof.Machine

/-! ## Coefficient banks -/

/-- What an unlisted bank holds. -/
def bankNone (_ : Nat) : Bank := {}

/-- Bank b of the store. -/
def State.bank (s : State) (b : Nat) : Bank := sget bankNone s.banks b

/-- Replace bank b. -/
def State.setBank (b : Nat) (v : Bank) (s : State) : State := { s with banks := sset bankNone b v s.banks }

/-- A coefficient that has not been written reads 0. -/
def coefNone (_ : Nat) : Nat := 0

/-- The copies of a register family that differ from reset, by number. -/
def State.touched (s : State) (base stride count : Nat) : List Nat :=
  s.regs.filterMap fun p =>
    if base ≤ p.1 && (p.1 - base) % stride = 0 && (p.1 - base) / stride < count then some ((p.1 - base) / stride) else none

/-- Paths that are not STOPPED. -/
def State.livePaths (s : State) : List Nat :=
  (s.touched (PTHn_STAT 0) 0x40 512).filter fun n => s.getF (PTHn_STAT_STATE n) != 0

/-- Paths not STOPPED that use bank b (R191). -/
def State.bankUsers (s : State) (b : Nat) : Nat :=
  (s.livePaths.filter fun n => s.getF (PTHn_CTL_BANK n) == b).length

/-- DATA, HDR and STAT show the bank and the coefficient that SEL names (R191). -/
def bankRefresh (s : State) : State :=
  let b := s.getF FAB_BANK_SEL_BANK
  let k := s.bank b
  let s1 := s.setF FAB_BANK_DATA_COEF (sget coefNone k.coefs (s.getF FAB_BANK_SEL_INDEX))
  let s2 := (s1.setF FAB_BANK_HDR_CLASS k.cls).setF FAB_BANK_HDR_LEN k.len
  (s2.setB FAB_BANK_STAT_SEALED k.isSealed).setF FAB_BANK_STAT_USERS (s.bankUsers b)

/-- A write of FAB_BANK_DATA (R191, R192): it stores the coefficient at INDEX and increments INDEX. -/
def bankDataWrite (w : Word) (s : State) : State :=
  let b := s.getF FAB_BANK_SEL_BANK
  let i := s.getF FAB_BANK_SEL_INDEX
  let k := s.bank b
  if k.isSealed then refuse FAB_REFUSE codeWrongState s
  else if k.len < 2 * i + 1 then refuse FAB_REFUSE codeReserved s
  else
    let s1 := s.setBank b { k with coefs := sset coefNone i (w.toNat % 16777216) k.coefs }
    bankRefresh (s1.setF FAB_BANK_SEL_INDEX (i + 1))

/-- The longest filter of a class: 0 FMCH, 1 AMCH, 2 IQCH (R192). -/
def bankMaxLen (cls : Nat) : Nat := if cls = 0 then 193 else if cls = 1 then 191 else 127

/-- OPEN (R192). -/
def bankOpen (s : State) : State :=
  let b := s.getF FAB_BANK_SEL_BANK
  if s.bankUsers b != 0 then refuse FAB_REFUSE codeBusy s
  else bankRefresh (s.setBank b { s.bank b with isSealed := false })

/-- SEAL (R192). -/
def bankSeal (s : State) : State :=
  let b := s.getF FAB_BANK_SEL_BANK
  let k := s.bank b
  if k.len % 2 = 1 && 3 ≤ k.len && k.len ≤ bankMaxLen k.cls then bankRefresh (s.setBank b { k with isSealed := true })
  else refuse FAB_REFUSE codeReserved s

/-- A write of FAB_BANK_CMD (R192). -/
def bankCmdWrite (w : Nat) (s : State) : State :=
  if bitsOf w 1 0 = 3 then refuse FAB_REFUSE codeReserved s
  else if w.testBit 1 then bankOpen s
  else if w.testBit 0 then bankSeal s
  else s

/-- BANK_DATA_WRITE. -/
def execBankDataWrite (m : Master) (v : Word) (s : State) : Host.Outcome State Fault Refusal :=
  .next (gated m FAB_BANK_DATA v.toNat (bankDataWrite v) s)

/-- OPEN. -/
def execBankOpen (m : Master) (s : State) : Host.Outcome State Fault Refusal := .next (gated m FAB_BANK_CMD 2 (bankCmdWrite 2) s)

/-- SEAL. -/
def execBankSeal (m : Master) (s : State) : Host.Outcome State Fault Refusal := .next (gated m FAB_BANK_CMD 1 (bankCmdWrite 1) s)

/-! ## Chains -/

/-- Path type of a preset: 0 AM, 1 FM, 2 IQ (R183). -/
def presetType (p : Nat) : Nat := if p ≤ 5 then 2 else if p ≤ 7 then 1 else 0

/-- Half the passband of a preset, and where its stopband begins, in hertz from the centre (R183); the Leek's own
stopband follows IQ_2048. -/
def presetPass (p : Nat) : Nat := [768000, 409600, 204800, 102400, 51200, 25600, 100000, 80000, 7500, 4500, 800000].getD p 0
def presetStop (p : Nat) : Nat := [0, 614400, 307200, 153600, 76800, 38400, 120000, 100000, 10000, 6000, 1248000].getD p 0

/-- Sum of the stage delays in ticks from the Leek to the output of preset p with a bank of length len, 0 for the
built-in filter (R180, R182, R183). -/
def chainDelay (p len : Nat) : Nat :=
  let hb := if p = 0 then 0 else if p = 10 then 44160 else if p = 1 then 51840 else if p = 2 then 155520 else 362880
  let half := (len - 1) / 2
  46080 + hb +
    (if p = 4 then 414720 else if p = 5 || p = 8 || p = 9 then 906240 else 0) +
    (if p = 6 || p = 7 then
      (if len != 0 then half * 15360 else if p = 6 then 983040 else 1474560) + 7680 + 737280
    else if p = 8 || p = 9 then
      (if len != 0 then half * 61440 else if p = 8 then 3870720 else 5836800) + 1925120
    else if len != 0 then half * presetTout p
    else 0)

/-- Delay of the preset output in output samples: the sum rounded up (R182). -/
def chainSamples (p len : Nat) : Nat := (chainDelay p len + presetTout p - 1) / presetTout p

/-- Output blocks of a preset that one missing bin block costs at most (R183, R198). -/
def lossBound (p : Nat) : Nat :=
  if p = 0 then 1 else (122880 + 2 * (chainDelay p 0 - 46080) + 64 * presetTout p - 1) / (64 * presetTout p) + 1

/-- Length of the bank a path names; 0 for the built-in filter. -/
def State.pathBankLen (s : State) (n : Nat) : Nat :=
  let b := s.getF (PTHn_CTL_BANK n)
  if b = 0 then 0 else (s.bank b).len

/-- PTHn_DLY and PTHn_DSMP for the configuration as written (R184): the resampler adds 16 input periods, and its
warm-up counts output samples at the resampled rate. -/
def pathRefresh (n : Nat) (s : State) : State :=
  let p := s.getF (PTHn_CTL_PRESET n)
  let d := chainSamples p (s.pathBankLen n)
  let num := s.getF (PTHn_RS_NUM n)
  let den := s.getF (PTHn_RS_DEN n)
  let base := d * presetTout p
  if num = 0 then (s.setF (PTHn_DLY_TICKS n) base).setF (PTHn_DSMP_SAMPLES n) d
  else
    let lat := base + 16 * presetTout p
    (s.setF (PTHn_DLY_TICKS n) lat).setF (PTHn_DSMP_SAMPLES n) ((lat * num + presetTout p * den - 1) / (presetTout p * den))

/-- A write of FAB_BANK_HDR (R192); the latency of a path that names the bank follows its length (R184). -/
def bankHdrWrite (w : Word) (s : State) : State :=
  let b := s.getF FAB_BANK_SEL_BANK
  let k := s.bank b
  if k.isSealed then refuse FAB_REFUSE codeWrongState s
  else if bitsOf w.toNat 31 30 = 3 then refuse FAB_REFUSE codeReserved s
  else
    let s1 := bankRefresh (s.setBank b { k with cls := bitsOf w.toNat 31 30, len := bitsOf w.toNat 7 0 })
    forEach ((s1.touched (PTHn_CTL 0) 0x40 512).filter fun n => s1.getF (PTHn_CTL_BANK n) == b) pathRefresh s1

/-- The grid of a path's change instants: release instants that are multiples of the output block period (R194); a
resampled path keeps the grid of its preset (notes/assumptions/12.md). -/
def State.pathGrid (s : State) (n : Nat) : Nat :=
  Nat.lcm Config.releasePeriod (64 * presetTout (s.getF (PTHn_CTL_PRESET n)))

/-! ## States -/

/-- What an unlisted path holds. -/
def pathNone (_ : Nat) : Path := {}

/-- Path n beside its registers. -/
def State.path (s : State) (n : Nat) : Path := sget pathNone s.paths n

/-- Replace path n. -/
def State.setPath (n : Nat) (p : Path) (s : State) : State := { s with paths := sset pathNone n p s.paths }

/-- Paths that hold a resampler of the pool (R190). -/
def State.poolUsed (s : State) : Nat :=
  ((s.touched (PTHn_STAT 0) 0x40 512).filter fun n => s.flag (PTHn_STAT_RS_ACT n)).length

/-- Programmes whose running cross-fade has source n of a kind (1 path, 2 decoder) on one of its sides. -/
def State.fadeProgs (s : State) (kind n : Nat) : List Nat :=
  (s.touched (FOLp_STAT 0) 0x40 256).filter fun p =>
    s.flag (FOLp_STAT_XFADE p) &&
      ((s.getF (FOLp_SRC_AKIND p) == kind && s.getF (FOLp_SRC_ANUM p) == n)
        || (s.getF (FOLp_SRC_IKIND p) == kind && s.getF (FOLp_SRC_INUM p) == n))

/-- Source n of a kind feeds a cross-fade that is running (R194, R275). -/
def State.inFade (s : State) (kind n : Nat) : Bool := !(s.fadeProgs kind n).isEmpty

/-- A stop of source n is deferred: DEFER and FOL_DEFER of each programme concerned (R275). -/
def deferMark (kind n : Nat) (s : State) : State :=
  forEach (s.fadeProgs kind n) (fun p s => raise evFolDefer p (s.setF (FOLp_STAT_DEFER p) 1)) s

/-- The earliest instant of a change commanded now: 1 µs later (R194). -/
def State.changeDue (s : State) : Nat := s.now + Config.ticksOfUs 1

/-- The bank a path names cannot be bound (R193). -/
def State.bankUnfit (s : State) (n : Nat) : Bool :=
  let b := s.getF (PTHn_CTL_BANK n)
  let t := s.getF (PTHn_CTL_TYPE n)
  let cls := if t = 1 then 0 else if t = 0 then 1 else 2
  b != 0 && (!(s.bank b).isSealed || (s.bank b).cls != cls || (t == 2 && decide (s.getF (PTHn_CTL_PRESET n) < 3)))

/-- START of path n (R193, R190, R194): refused unless STOPPED, with an unfit bank, with a preset that does not match
the type, or while the resampler pool is exhausted. -/
def pathStart (n : Nat) (s : State) : State :=
  let rs := s.getF (PTHn_RS_NUM n) != 0
  if s.getF (PTHn_STAT_STATE n) != 0 then refuseInst (PTHn_STAT n) codeWrongState s
  else if s.bankUnfit n then refuseInst (PTHn_STAT n) codeReserved s
  else if rs && decide (s.hdr.rspool ≤ s.poolUsed) then refuseInst (PTHn_STAT n) codeBusy s
  else
    let s1 := (s.setF (PTHn_STAT_STATE n) 1).setB (PTHn_STAT_RS_ACT n) rs
    bankRefresh (s1.setPath n { s1.path n with change := .start, due := s.changeDue })

/-- The runs of a path that go on end at t: their last block ends there (R194). -/
def Run.endAll (t : Nat) (l : List Run) : List Run := l.map fun r => if r.stop.isSome then r else { r with stop := some t }

/-- FOL_USE.POOL_USED: pool paths that run (R278). -/
def poolShow (s : State) : State :=
  s.setF FOL_USE_POOL_USED (s.paths.filter fun q => q.2.pool && s.getF (PTHn_STAT_STATE q.1) != 0).length

/-- The path is STOPPED: its run ends now, its resampler and its bank are free (R190, R193, R194); its blocks up to this
instant are still to be output. -/
def pathStopped (n : Nat) (s : State) : State :=
  let s1 := ((s.setF (PTHn_STAT_STATE n) 0).setF (PTHn_STAT_WARMUP n) 0).setF (PTHn_STAT_RS_ACT n) 0
  let p := s.path n
  bankRefresh (s1.setPath n { runs := Run.endAll s.now p.runs, shift := p.shift, shifts := p.shifts, voids := p.voids,
                              formed := p.formed, ramps := p.ramps, dropNext := p.dropNext, lastGood := p.lastGood })

/-- A stop or a synchronising reset of running path n is asked for (R194): at the first change instant from 1 µs on,
which may be later than that of a reset asked for before; a path that is to stop stays so. -/
def pathAsk (n : Nat) (c : Change) (s : State) : State :=
  let p := s.path n
  let d := s.changeDue
  let g := s.pathGrid n
  if p.change = .none then s.setPath n { p with change := c, due := d }
  else if p.change = .stop then s
  else if ceilTo g p.due = ceilTo g d then s.setPath n { p with change := c }
  else if (p.later.map (·.1)) = some .stop then s
  else s.setPath n { p with later := some (c, d) }

/-- STOP of path n (R194). -/
def pathStop (n : Nat) (s : State) : State :=
  let st := s.getF (PTHn_STAT_STATE n)
  if st = 1 then pathStopped n s
  else if st = 2 then
    if s.inFade 1 n then deferMark 1 n (s.setF (PTHn_STAT_STATE n) 3)
    else pathAsk n .stop s
  else s

/-- SYNC of path n (R194). -/
def pathSync (n : Nat) (s : State) : State :=
  if s.getF (PTHn_STAT_STATE n) = 2 then pathAsk n .sync s else refuseInst (PTHn_STAT n) codeWrongState s

/-- A path is a pool path: one within FOL_POOL, or one that Fennel started (R257; notes/assumptions/153.md). -/
def State.poolPath (s : State) (n : Nat) : Bool :=
  (s.path n).pool || (decide (s.getF FOL_POOL_BASE ≤ n) && decide (n < s.getF FOL_POOL_BASE + s.getF FOL_POOL_COUNT))

/-- Checks on a write to a register of path n by master m (R201, R257): a path beyond PATHS, a path the personality
owns, and a pool path, which only the Fennel policy firmware on SQ1 may write. -/
def pathGuard (m : Master) (n : Nat) (f : State → State) (s : State) : State :=
  if s.hdr.paths ≤ n then refuse FAB_REFUSE codeReserved s
  else if s.ktOwned && n < 4 && m != .personality then refuseInst (PTHn_STAT n) codeOwned s
  else if s.poolPath n && m != .core 1 then refuseInst (PTHn_STAT n) codeOwned s
  else f s

/-- A write of w to PTHn_CMD (R194). -/
def pathCmd (n w : Nat) (s : State) : State :=
  let c := bitsOf w 2 0
  if c = 0 then s
  else if c = 1 then pathStart n s
  else if c = 2 then pathStop n s
  else if c = 4 then pathSync n s
  else refuseInst (PTHn_STAT n) codeReserved s

/-- A write of PTHn_CMD by master m. -/
def pathCmdWrite (m : Master) (n w : Nat) (s : State) : State :=
  gated m (PTHn_CMD n) w (pathGuard m n (pathCmd n w)) s

/-- PATH_START. -/
def execPathStart (m : Master) (n : Nat) (s : State) : Host.Outcome State Fault Refusal :=
  .next (if n < 512 then pathCmdWrite m n 1 s else s)

/-- PATH_STOP. -/
def execPathStop (m : Master) (n : Nat) (s : State) : Host.Outcome State Fault Refusal :=
  .next (if n < 512 then pathCmdWrite m n 2 s else s)

/-- PATH_SYNC. -/
def execPathSync (m : Master) (n : Nat) (s : State) : Host.Outcome State Fault Refusal :=
  .next (if n < 512 then pathCmdWrite m n 4 s else s)

/-- BIN and FREQ of a frequency in Hz (R178): the nearest bin, and the offset in units of 2.048 MHz / 2^24. -/
def binOf (hz : Nat) : Nat := (2 * hz + 1024000) / 2048000

/-- FREQ of a frequency on a bin (R178). -/
def freqOf (hz bin : Nat) : Int := ((hz : Int) - (bin : Int) * 1024000) * 1024 / 125

/-- The slots a preset leaves empty hold a zero shift, and every shift lies in -4 to +12 (R186). -/
def shiftOk (p bank w : Nat) : Bool :=
  let top := if p ≤ 3 then p else if p ≤ 5 then 4 else 5
  (List.range 6).all fun k =>
    let v := signedOf 5 (bitsOf w (5 * k + 4) (5 * k))
    decide (-4 ≤ v) && decide (v ≤ 12) && (decide (k ≤ top) || (k == 5 && bank != 0) || v == 0)

/-- A write of PTHn_SHIFT (R186, R187): it takes effect at the first bin-block boundary after the write. -/
def shiftWrite (n w : Nat) (s : State) : State :=
  if shiftOk (s.getF (PTHn_CTL_PRESET n)) (s.getF (PTHn_CTL_BANK n)) w then
    let v := w % 1073741824
    let s1 := s.wr (PTHn_SHIFT n) (BitVec.ofNat 32 v)
    if s.getF (PTHn_STAT_STATE n) = 0 && (s.path n).runs.isEmpty then s1.setPath n { s1.path n with shift := v, shifts := [] }
    else
      let p := s1.path n
      let at_ := ceilTo Config.releasePeriod (s.now + 1)
      let old := p.shifts.filter fun c => decide (c.1 + histTicks < s.now)
      s1.setPath n { p with
        shift := (old.head?.map (·.2)).getD p.shift
        shifts := (at_, v) :: p.shifts.filter fun c => c.1 != at_ && decide (s.now ≤ c.1 + histTicks) }
  else refuseInst (PTHn_STAT n) codeReserved s

/-- SHIFT_WRITE. -/
def execShiftWrite (m : Master) (n : Nat) (v : Word) (s : State) : Host.Outcome State Fault Refusal :=
  .next (if n < 512 then gated m (PTHn_SHIFT n) v.toNat (pathGuard m n (shiftWrite n v.toNat)) s else s)

/-! ## Blocks -/

/-- Saturated samples of a block: counted, their slot recorded, and the SAT bit set at the first one after a read of
PTHn_SAT, which clears CNT (R186). -/
def satCount (n cnt slot : Nat) (s : State) : State :=
  if cnt = 0 then s
  else
    let first := s.getF (PTHn_SAT_CNT n) = 0
    let s1 := (s.bumpBy (PTHn_SAT_CNT n) cnt).setF (PTHn_SAT_SLOT n) slot
    if first then raise evSat n s1 else s1

/-- The level of a block in 0.1 dB re 1.0 is measured against the threshold (R200). -/
def levelMeasure (n flags : Nat) (level : Int) (s : State) : State :=
  if !s.flag (PTHn_TH_EN n) || (flags &&& 11) != 0 then s
  else
    let l := clampInt (-1500) 32767 level
    let s1 := s.setI (PTHn_LVL_LEVEL n) l
    let th : Int := -5 * (s.getF (PTHn_TH_LEVEL n) : Int)
    let hy : Int := 5 * (s.getF (PTHn_TH_HYST n) : Int)
    if !s.flag (PTHn_LVL_ABOVE n) && decide (th ≤ l) then raise evLevelUp n (s1.setF (PTHn_LVL_ABOVE n) 1)
    else if s.flag (PTHn_LVL_ABOVE n) && decide (l < th - hy) then raise evLevelDown n (s1.setF (PTHn_LVL_ABOVE n) 0)
    else s1

/-- What an unlisted demodulator holds. -/
def demNone (_ : Nat) : Dem := {}

/-- The demodulator of path n beside its registers. -/
def State.dem (s : State) (n : Nat) : Dem := sget demNone s.dems n

/-- Replace the demodulator of path n. -/
def State.setDem (n : Nat) (d : Dem) (s : State) : State := { s with dems := sset demNone n d s.dems }

end Sys2Proof.Machine
end

