-- ==== Sys2Proof/Machine/Chain.lean ====
section
/-! DEFINITION. What a path computes (spec/07 R173 to R189, spec/08 R203 to R214): bins, the oscillator, the filter
chain, diversity combining, demodulation and the resampler.  A filter is centred on the instant its output represents
(R174, R182), so the padding of a chain moves its release and not its samples. -/

namespace Sys2Proof.Machine

/-! ## Bins -/

/-- What one side of a path draws from: an input, a bin and the oscillator of R178. -/
structure Feed where
  input : Input
  bin : Nat
  freq : Int
  phase : Nat

/-- The sample of a bin at an instant (R173, R175): the aerial signal turned by the bin's centre frequency and weighed by
the prototype, whose 92,160 taps reach 46,080 ticks back; 16,384 codes are 1.0.  VOID bins are zero (R172). -/
def binSample (i : Input) (bin u : Nat) : Cx :=
  if spanFlags u u i.spans &&& 8 != 0 then ⟨0, 0⟩
  else
    let near := i.hist.filter fun b => decide (u ≤ b.ts + 63 + 46079) && decide (b.ts ≤ u + 46080)
    let part := fun (wave : Nat → Nat → Int) =>
      near.foldl (fun acc b => (List.range 64).foldl (fun acc j =>
        let d : Int := (u : Int) - (b.ts + j : Nat)
        if -46080 ≤ d && d < 46080
        then acc + Config.leekTap d * signedOf 14 (b.samples.getD j 0) * wave (bin * (b.ts + j) % 3840) 3840 else acc) acc) (0 : Int)
    ⟨Config.quot 0 (part Config.cosine) (2 ^ 37), Config.quot 0 (-part Config.sine) (2 ^ 37)⟩

/-- The phase of the oscillator for the bin sample of an instant, by the count that it had (R178). -/
def Feed.phaseAt (f : Feed) (u : Nat) : Nat := (((f.phase : Int) + f.freq * (f.input.countAt u / 1920 : Nat)) % 16777216).toNat

/-! ## Stages -/

/-- A filter of a chain (R180): the slot of PTHn_SHIFT it fills, its number in Config.stageTap or a host bank, the samples
it reaches on either side, and its sample periods. -/
structure Stage where
  slot : Nat
  id : Nat
  bank : Option Bank
  half : Nat
  tin : Nat
  tout : Nat

/-- Tap j of a filter, counting from its first; a bank holds the first half of a symmetric one (R191). -/
def Stage.tap (g : Stage) (j : Nat) : Int :=
  match g.bank with
  | some k => signedOf 24 (sget coefNone k.coefs (min j (2 * g.half - j)))
  | none => Config.stageTap g.id (((j : Int) - g.half) * g.tin)

/-- The delay of a filter in ticks (R180). -/
def Stage.delay (g : Stage) : Nat := g.half * g.tin

/-- A stage with the filter of a bank where one is named. -/
def banked (slot id : Nat) (k : Option Bank) (half t : Nat) : Stage :=
  ⟨slot, id, k, match k with | some b => (b.len - 1) / 2 | none => half, t, t⟩

/-- The filters of a preset after the oscillator, up to its channel filter, first one first (R181, R183). -/
def chainStages (p : Nat) (k : Option Bank) : List Stage :=
  let hb : List Stage := [⟨1, 1, none, 27, 1920, 3840⟩, ⟨2, 2, none, 27, 3840, 7680⟩, ⟨3, 3, none, 27, 7680, 15360⟩]
  let q4 : Stage := ⟨4, 5, none, 59, 15360, 61440⟩
  let iq : List Stage := if k.isSome then [banked 5 0 k 0 (presetTout p)] else []
  if p ≤ 2 then hb.take p
  else if p = 3 then hb ++ iq
  else if p = 4 then hb ++ [⟨4, 4, none, 27, 15360, 30720⟩] ++ iq
  else if p = 5 then hb ++ [q4] ++ iq
  else if p = 6 then hb ++ [banked 4 6 k 64 15360]
  else if p = 7 then hb ++ [banked 4 7 k 96 15360]
  else hb ++ [q4, { (if p = 8 then banked 5 8 k 63 61440 else banked 5 9 k 95 61440) with tout := 122880 }]

/-- The sum of the filter delays of a list of stages: how far their windows reach on either side. -/
def stagesDelay (l : List Stage) : Nat := (l.map Stage.delay).sum

/-- The sample period at the end of a list of stages. -/
def stagesTout (l : List Stage) : Nat := (l.getLast?.map Stage.tout).getD 1920

/-- The scale that slot k gives a sample of an instant (R186, R187). -/
def Path.shiftAt (p : Path) (k u : Nat) : Int :=
  let w := match p.shifts.find? fun c => decide (c.1 ≤ u) with | some c => c.2 | none => p.shift
  signedOf 5 (bitsOf w (5 * k + 4) (5 * k))

/-- Samples at the output of a stage, with the saturated ones among its last and among all of them, and the slot of the
latest (R186). -/
structure Samples where
  vals : List Cx
  fresh : Nat := 0
  all : Nat := 0
  slot : Nat := 0

/-- A sample at full accumulator width, as a fraction of 2^23, leaves slot k of a path (R186): its value, and whether it
saturated. -/
def leaveSlot (p : Path) (k u : Nat) (re im : Int) : Cx × Bool :=
  let s := p.shiftAt k u
  let a := scaled re (2 ^ 23) s
  let b := scaled im (2 ^ 23) s
  (⟨satStream a, satStream b⟩, a != satStream a || b != satStream b)

/-- A stage's outputs join what the stages before it gave; news of them are of instants the block before did not have. -/
def Samples.join (r : Samples) (slot news : Nat) (l : List (Cx × Bool)) : Samples :=
  let n := (l.drop (l.length - news)).countP (·.2)
  ⟨l.map (·.1), r.fresh + n, r.all + l.countP (·.2), if n = 0 then r.slot else slot⟩

/-- The samples at the output of a list of stages, last one first, at n instants a period apart (R180, R186): history
before t_r is zero (R196).  The block of which they are a part lasts span ticks. -/
def stagesRun (f : Feed) (p : Path) (base span : Nat) : List Stage → Int → Nat → Nat → Samples
  | [], from_, step, n =>
    Samples.join ⟨[], 0, 0, 0⟩ 0 (span / step) ((List.range n).map fun i =>
      let t : Int := from_ + (i * step : Nat)
      if t < (base : Int) || spanFlags t.toNat t.toNat p.voids != 0 then (⟨0, 0⟩, false)
      else
        let y := binSample f.input f.bin t.toNat
        let φ := f.phaseAt t.toNat
        let c := Config.cosine φ 16777216
        let s := Config.sine φ 16777216
        leaveSlot p 0 t.toNat (y.re * c + y.im * s) (y.im * c - y.re * s))
  | g :: rest, from_, step, n =>
    let prev := stagesRun f p base span rest (from_ - g.delay) g.tin ((n - 1) * (step / g.tin) + 2 * g.half + 1)
    prev.join g.slot (span / step) ((List.range n).map fun i =>
      let t : Int := from_ + (i * step : Nat)
      if t < (base : Int) then (⟨0, 0⟩, false)
      else
        let w := ((prev.vals.drop (i * (step / g.tin))).take (2 * g.half + 1)).zipIdx
        let sum := fun (part : Cx → Int) => w.foldl (fun acc x => acc + g.tap x.2 * part x.1) (0 : Int)
        leaveSlot p g.slot t.toNat (sum Cx.re) (sum Cx.im))

/-! ## Channel blocks -/

/-- The fields of the PTHn_CTL a run started with (R201): TYPE, INPUT, PRESET. -/
def Run.ty (r : Run) : Nat := bitsOf r.ctl 1 0
def Run.input (r : Run) : Nat := bitsOf r.ctl 9 8
def Run.preset (r : Run) : Nat := bitsOf r.ctl 15 12

/-- The filters of a run, with the bank as it stood when the run began (R193). -/
def Run.stages (r : Run) : List Stage := chainStages r.preset r.bank

/-- Sample period at the channel filter of a run. -/
def Run.chanTout (r : Run) : Nat := stagesTout r.stages

/-- One side of a path over a channel block: its samples, or none where the windows of all take in a missing one; which of
them are missing (R198); its flags (R14) and what it is weighed by. -/
structure Side where
  run : Option Samples
  gone : List Bool
  flags : Nat
  level : Moments

/-- A side delivers the whole block (R132). -/
def Side.whole (a : Side) : Bool := a.run.isSome && !a.gone.any id

/-- The sum of |x|² over a list of samples, in units of 2^-46. -/
def powerSum (l : List Cx) : Nat := l.foldl (fun a x => a + (x.re * x.re + x.im * x.im).toNat) 0

/-- The sum of |x|⁴. -/
def fourthSum (l : List Cx) : Nat := l.foldl (fun a x => a + (x.re * x.re + x.im * x.im).toNat ^ 2) 0

/-- x turned back by a phase in units of 2^-23 half turns. -/
def turn (x : Cx) (φ : Int) : Cx :=
  let p := (φ % 16777216).toNat
  let c := Config.cosine p 16777216
  let s := Config.sine p 16777216
  ⟨Config.quot 1 (x.re * c + x.im * s) (2 ^ 23), Config.quot 1 (x.im * c - x.re * s) (2 ^ 23)⟩

/-- The samples of a block turned by a carrier whose phase moves on by its frequency with every sample. -/
def turnAll (theta freq : Int) (l : List Cx) : List Cx := l.zipIdx.map fun x => turn x.1 (theta + freq * x.2)

/-- Total of the shifts a sample has passed through (R200, R214). -/
def shiftTotal (p : Path) (l : List Stage) (u : Nat) : Int := p.shiftAt 0 u + (l.map fun g => p.shiftAt g.slot u).sum

/-- The moments of a block of samples, and of the same turned by the tracked carrier. -/
def momentsOf (l turned : List Cx) (shifts : Int) (g : Gain) : Moments :=
  ⟨powerSum l, fourthSum l, (turned.map Cx.re).sum, (turned.map Cx.im).sum,
    ((turned.map fun (x : Cx) => x.im * x.im).sum).toNat, shifts, g⟩

/-- The moments of blocks taken together, with the shifts removed: in units of 2^-72 of a sample whose shifts are 0. -/
def momentsSum (l : List Moments) : Moments :=
  l.foldl (fun a m =>
    let k := (72 - m.shifts).toNat
    ⟨a.power + m.power * 4 ^ k, a.fourth + m.fourth * 16 ^ k, a.re + m.re * 2 ^ k, a.im + m.im * 2 ^ k,
      a.im2 + m.im2 * 4 ^ k, 72, m.gain⟩) {}

/-- The moments of a block of samples a period apart from ts on, each with the shifts of its own instant (R187, R200). -/
def momentsOver (p : Path) (st : List Stage) (ts tc : Nat) (l turned : List Cx) (g : Gain) : Moments :=
  let k := shiftTotal p st ts
  if (List.range l.length).all fun j => shiftTotal p st (ts + j * tc) == k then momentsOf l turned k g
  else momentsSum (l.zipIdx.map fun x =>
    momentsOf [x.1] ((turned[x.2]?).toList) (shiftTotal p st (ts + x.2 * tc)) g)

/-- The CNR of n samples as a ratio (R214).  FM: s / (M2 - s) with s = √max(2 M2² - M4, 0).  AM: the power of the mean
of x × e^{-jθ} over twice the mean power of its imaginary parts. -/
def cnrOf (ty n : Nat) (m : Moments) : Nat × Nat :=
  if ty = 1 then
    let r := Config.root (2 * m.power ^ 2 - n * m.fourth)
    if r < m.power then (r, m.power - r) else ((Config.cnrCorner m.power r).toNat, 1)
  else if ty = 0 then
    let num := (m.re * m.re + m.im * m.im).toNat
    if m.im2 = 0 then ((Config.cnrCorner num 0).toNat, 1) else (num, 2 * n * m.im2)
  else (0, 1)

/-- Side a of a run of path n over the channel block that starts at ts: a sample is missing where its window takes in a
missing bin sample (R198). -/
def State.pathSide (s : State) (n a ts : Nat) (r : Run) : Side :=
  let p := s.path n
  let i := s.input a
  let l := r.stages
  let tc := stagesTout l
  let d := stagesDelay l
  let lo := max r.base (ts - d)
  let hi := ts + 63 * tc + d
  let flags := i.flagsOver lo hi ||| (spanFlags lo hi p.voids &&& 255)
  let gone := (List.range 64).map fun j => i.missingOver (max r.base (ts + j * tc - d)) (ts + j * tc + d)
  if gone.all id then ⟨none, gone, flags, {}⟩
  else
    let x := stagesRun ⟨i, r.bin, r.freq, r.phase⟩ p r.base (if ts = r.base then 2 ^ 40 else 64 * tc) l.reverse ts tc 64
    let v := (x.vals.zip gone).map fun q => if q.2 then (⟨0, 0⟩ : Cx) else q.1
    let y := if r.ty = 0 then turnAll r.carrier.theta r.carrier.freq v else []
    ⟨some { x with vals := v }, gone, flags ||| (if x.all = 0 then 0 else 64), momentsOver p l ts tc v y (i.gainAt ts)⟩

/-- VOID or STALE stands among flags (R205). -/
def badFlags (f : Nat) : Bool := (f &&& 9) != 0

/-- The CNR of two sides over a block on a common scale (R204). -/
def cnrPair (ty : Nat) (a b : Side) : Nat × Nat :=
  let x := cnrOf ty 64 a.level
  let y := cnrOf ty 64 b.level
  (x.1 * y.2, y.1 * x.2)

/-- α_A of two sides: by their CNR, 1/2 on an IQ path, and 0 for a side of weight 0 (R204, R205). -/
def alphaOf (ty : Nat) (a b : Side) : Rat :=
  if badFlags a.flags then 0
  else if badFlags b.flags then 1
  else
    let c := cnrPair ty a b
    if ty = 2 || c.1 + c.2 = 0 then 1 / 2 else mkRat c.1 (c.1 + c.2)

/-- φ of two sides over a block, 0 where its sum is 0 (R204). -/
def phiOf (a b : List Cx) : Int :=
  let l := a.zip b
  let re := (l.map fun (x : Cx × Cx) => x.1.re * x.2.re + x.1.im * x.2.im).sum
  let im := (l.map fun (x : Cx × Cx) => x.1.im * x.2.re - x.1.re * x.2.im).sum
  if re = 0 && im = 0 then 0 else Config.arg ⟨re, im⟩

/-- A rational to the nearest integer, ties to even. -/
def ratRound (x : Rat) : Int := roundEven x.num x.den

/-- A linear move from x at the first of 64 samples to y at the last. -/
def across (x y : Rat) (j : Nat) : Rat := x + (y - x) * j / 63

/-- Maximum-ratio combining of two sides over a block (R204), given P_ref and the state left by the block before; where a
side has weight 0 it has it over the whole block (R205). -/
def mrc (m : Mixer) (fixed : Bool) (alpha : Rat) (pref : Nat) (a b : List Cx) : List Cx × Mixer :=
  let φ := phiOf a b
  let gain := fun p => if p = 0 then 0 else Config.root (pref * 2 ^ 46 / p)
  let ga : Int := gain (powerSum a)
  let gb : Int := gain (powerSum b)
  let a0 := if fixed then alpha else m.alpha.getD alpha
  let φ0 := if m.alpha.isSome then m.phi else φ
  ((a.zip b).zipIdx.map fun x =>
    let wa := across a0 alpha x.2
    let y := turn x.1.2 (-(ratRound (across φ0 φ x.2)))
    let mix := fun (u v : Int) => satStream (ratRound ((wa * (u * ga : Int) + (1 - wa) * (v * gb : Int)) / (2 ^ 23 : Int)))
    ⟨mix x.1.1.re y.re, mix x.1.1.im y.im⟩, ⟨some alpha, φ, m.fade⟩)

/-- The side of the higher CNR gives P_ref, ANT_A where they are equal; their mean where both are 0; never a side of weight
0 (R204, R205). -/
def prefOf (ty : Nat) (a b : Side) : Nat :=
  let c := cnrPair ty a b
  if badFlags a.flags then b.level.power
  else if badFlags b.flags then a.level.power
  else if ty = 2 || c.1 + c.2 = 0 then (a.level.power + b.level.power) / 2
  else if c.1 < c.2 then b.level.power else a.level.power

/-- The cross-fade over the first 16 samples after a change of side, the new one turned by φ (R204). -/
def sideFade (old new : List Cx) (φ : Int) : List Cx :=
  (old.zip new).zipIdx.map fun x =>
    if 16 ≤ x.2 then x.1.2
    else
      let y := turn x.1.2 φ
      let mix := fun (u v : Int) => roundEven (u * (16 - x.2 : Nat) + v * x.2) 16
      ⟨mix x.1.1.re y.re, mix x.1.1.im y.im⟩

/-- Two sides that both miss samples: each sample from a side that has it, ANT_A first (R132). -/
def patched (a b : Side) : List Cx :=
  let vals := fun (c : Side) => match c.run with | some r => r.vals | none => List.replicate 64 ⟨0, 0⟩
  ((vals a).zip ((vals b).zip a.gone)).map fun q => if q.2.2 then q.2.1 else q.1

/-- What a diversity path makes of a channel block (R132, R203 to R205): its samples, or none where both sides miss all, its
flags, the combining state after it, and the side then drawn from.  Where one side misses samples, the block is formed
from the other alone. -/
def combine (ty div : Nat) (m : Mixer) (sel : Bool) (a b : Side) : Option (List Cx) × Nat × Mixer × Bool :=
  match a.run, b.run with
  | none, none => (none, 0, {}, sel)
  | some r, none => (some r.vals, a.flags, {}, sel)
  | none, some r => (some r.vals, b.flags, {}, sel)
  | some x, some y =>
    let flags := a.flags ||| b.flags
    if a.whole && !b.whole then (some x.vals, a.flags, {}, sel)
    else if b.whole && !a.whole then (some y.vals, b.flags, {}, sel)
    else if !a.whole then (some (patched a b), flags, {}, sel)
    else if badFlags a.flags && badFlags b.flags then (some (List.replicate 64 ⟨0, 0⟩), flags, m, sel)
    else if ty != 2 && div = 1 then
      let bad := badFlags (if sel then b.flags else a.flags)
      let now := if bad then !sel else sel
      let vals := if now then y.vals else x.vals
      let old := if now then x.vals else y.vals
      let φ := if now then -(phiOf x.vals y.vals) else phiOf x.vals y.vals
      (some (if m.fade && !bad then sideFade old vals φ else vals), flags, { m with fade := false }, now)
    else
      let r := mrc m (badFlags a.flags || badFlags b.flags) (alphaOf ty a b) (prefOf ty a b) x.vals y.vals
      (some r.1, flags, r.2, sel)

/-- The CNR x is 3 dB or more above the CNR y of a pair on a common scale. -/
def leads (x y : Nat) : Bool := decide (0 < x) && decide (1000 * y ^ 10 ≤ x ^ 10)

/-! ## Demodulation -/

/-- The FM multiplex of a block (R206): phase differences between consecutive samples, on the scale ±1.0 = ±128 kHz. -/
def discriminate (last : Cx) : List Cx → List Int
  | [] => []
  | x :: l => Config.arg ⟨x.re * last.re + x.im * last.im, x.im * last.re - x.re * last.im⟩ :: discriminate x l

/-- The multiplex after the 5 Hz high-pass, with its last input and output (R206). -/
def highPassRun : Int → Int → List Int → List Int × Int × Int
  | i, o, [] => ([], i, o)
  | i, o, x :: l =>
    let y := Config.highPass x i o
    let r := highPassRun x y l
    (y :: r.1, r.2)

/-- The difference line of a multiplex, turned down by twice the phase of the pilot PLL, and that phase after it (R208). -/
def stereoRun : Nat → List Int → List Int × Nat
  | θ, [] => ([], θ)
  | θ, x :: l =>
    let p := Config.pilotPhase θ x
    let r := stereoRun p l
    (Config.quot 2 (2 * x * Config.cosine (2 * p % 16777216) 16777216) (2 ^ 23) :: r.1, r.2)

/-- A gain state in half decibels. -/
def Gain.halfDb (g : Gain) : Int := 32 * g.lna.toNat - g.att

/-- The carrier tracker over the samples of a block, each with the gain state it was drawn from (R212, R213): x × e^{-jθ}
and d / C - 1 of each, the tracker after them, and its lock.  C averages the part of a sample in phase with the tracked
carrier. -/
def carrierRun (sync : Bool) : Carrier → Bool → List (Cx × Gain) → List Cx × List Int × Carrier × Bool
  | c, lock, [] => ([], [], c, lock)
  | c, lock, (x, g) :: l =>
    let amp0 := match c.gain with
      | some g0 => if g0 = g then c.amp else Config.quot 3 (c.amp * (Config.amplitude (mkRat (g.halfDb - g0.halfDb) 2) : Nat)) (2 ^ 23)
      | none => c.amp
    let t := Config.track c.theta c.freq lock x
    let z := turn x t.1
    let mag := Config.root (x.re * x.re + x.im * x.im).toNat
    let avg := Config.averageC amp0 z.re
    let amp : Int := avg.natAbs
    let d : Int := if sync && t.2.2 then z.re else mag
    let r := carrierRun sync ⟨t.1, t.2.1, avg, some g⟩ t.2.2 l
    (z :: r.1, Config.quot 4 ((d - amp) * 2 ^ 23) amp.toNat :: r.2.1, r.2.2)

/-- An interpolating stage at an output instant (R180): the input samples of the instants within its reach. -/
def resampleAt (id reach u : Nat) (l : List (Nat × Int)) : Int :=
  l.foldl (fun acc x =>
    let d : Int := (u : Int) - x.1
    if d.natAbs ≤ reach then acc + Config.stageTap id d * x.2 else acc) 0

/-- The values of one line of the channel blocks, each with its instant. -/
def lineOf (tc off : Nat) (line : ChanBlock → List Int) (l : List ChanBlock) : List (Nat × Int) :=
  l.flatMap fun b => (line b).zipIdx.map fun x => (b.ts + x.2 * tc - off, x.1)

/-- The value of a ramp at an instant of the aerial: linear over the metric window that begins at its start (R209,
R211). -/
def rampAt (dflt : Rat) (u : Nat) (l : List Ramp) : Rat :=
  match l.find? fun r => decide (r.at_ ≤ u) with
  | some r => r.over 15728640 u
  | none => dflt

end Sys2Proof.Machine
end

