-- ==== Sys2Proof/Machine/DabChain.lean ====
section
/-! DEFINITION. What an ensemble slot computes (spec/07 R185, spec/09 R229 to R236): the joined bins, the DAB_2048 output,
the carriers of Transmission Mode I with diversity, the level and the MER of a frame; the FIB check and FIG 0/0.  The
layout of a frame, the FIB CRC and FIG 0/0 are those of ETSI EN 300 401 (PRESUMED, notes/assumptions/134.md). -/

namespace Sys2Proof.Machine

/-! ## The DAB_2048 output -/

/-- One side of a slot: an input, the lower of its two bins, FREQ (R230), and the VOID tokens the slot took (R143). -/
structure SlotFeed where
  input : Input
  bin : Nat
  freq : Int
  voids : List Span

/-- A complex number turned by n quarter turns. -/
def quarterTurn (x : Cx) (n : Nat) : Cx :=
  match n % 4 with
  | 0 => x
  | 1 => ⟨-x.im, x.re⟩
  | 2 => ⟨-x.re, -x.im⟩
  | _ => ⟨x.im, -x.re⟩

/-- A sum of samples weighed by filter number id over the instants a period apart within its reach, in units of
2^-46. -/
def weighted (id reach period : Nat) (t : Int) (x : Nat → Cx) : Int × Int :=
  let first := ((t - reach + (period - 1 : Nat)) / period).toNat
  (List.range (2 * reach / period + 1)).foldl (fun a j =>
    let u := (first + j) * period
    let d : Int := t - u
    if d.natAbs ≤ reach then (let y := x u; let k := Config.stageTap id d; (a.1 + k * y.re, a.2 + k * y.im)) else a) (0, 0)

/-- The 4.096 MS/s stream of JOIN at an instant (R185): each bin turned by its own NCO to a quarter of 2.048 MHz below or
above the centre of the join. -/
def joinSample (f : SlotFeed) (t : Nat) : Cx :=
  let x := weighted 10 22080 1920 t fun u =>
    let a := quarterTurn (binSample f.input f.bin u) (3 * (u / 1920))
    let b := quarterTurn (binSample f.input (f.bin + 1) u) (u / 1920)
    ⟨a.re + b.re, a.im + b.im⟩
  ⟨Config.quot 9 x.1 (2 ^ 23), Config.quot 9 x.2 (2 ^ 23)⟩

/-- The DAB_2048 output at an instant (R185): the joined stream turned by the second NCO, which follows SYSCNT, through
DEC2; a VOID token stands for zeros (R143). -/
def slotSample (f : SlotFeed) (t : Nat) : Cx :=
  let x := weighted 11 22080 960 t fun v =>
    let y := if f.voids.any fun r => decide (r.lo ≤ v) && decide (v ≤ r.hi) then ⟨0, 0⟩ else joinSample f v
    let φ := (f.freq * (f.input.countAt v / 960 : Nat) % 16777216).toNat
    let c := Config.cosine φ 16777216
    let s := Config.sine φ 16777216
    ⟨y.re * c + y.im * s, y.im * c - y.re * s⟩
  ⟨satStream (Config.quot 9 x.1 (2 ^ 46)), satStream (Config.quot 9 x.2 (2 ^ 46))⟩

/-! ## Carriers -/

/-- Ticks of a sample of the DAB_2048 output. -/
def dabTick : Nat := 1920

/-- The first sample of the useful part of symbol l of a frame: the null symbol is l = 0, the PRS l = 1. -/
def symbolStart (l : Nat) : Nat := if l = 0 then 304 else 2656 + (l - 1) * 2552 + 504

/-- Carrier k of the useful part of a symbol, of samples 1,920 ticks apart, corrected by the measured offset in hertz. -/
def carrier (f : SlotFeed) (foff : Int) (ts l : Nat) (k : Int) : Cx :=
  (List.range 2048).foldl (fun a j =>
    let u := ts + (symbolStart l + j) * dabTick
    let x := slotSample f u
    let φ := ((k * j * 1000 + foff * (u / dabTick : Nat)) % 2048000).toNat
    let c := Config.cosine φ 2048000
    let s := Config.sine φ 2048000
    ⟨a.re + x.re * c + x.im * s, a.im + x.im * c - x.re * s⟩) ⟨0, 0⟩

/-- The 1,536 active carriers. -/
def activeCarriers : List Int := (List.range 1536).map fun (i : Nat) => if i < 768 then (i : Int) - 768 else (i : Int) - 767

/-- The power of a complex number. -/
def cxPower (x : Cx) : Nat := (x.re * x.re + x.im * x.im).toNat

/-- The median of a list: the mean of its middle two where their number is even, doubled. -/
def twiceMedian (l : List Nat) : Nat :=
  let x := l.mergeSort
  x.getD ((x.length - 1) / 2) 0 + x.getD (x.length / 2) 0

/-- σ² of a side over the null symbol of a frame, doubled (R234). -/
def noiseOfNull (f : SlotFeed) (foff : Int) (ts : Nat) : Nat :=
  twiceMedian (activeCarriers.map fun k => cxPower (carrier f foff ts 0 k))

/-- One side of a slot over a frame: its samples, its σ², and the symbols at which it has weight 0 (R234). -/
structure SlotSide where
  feed : SlotFeed
  noise : Nat
  dead : Nat → Bool

/-- z of carrier k of symbol l of a frame, times the product of the σ² of both sides where there are two (R234). -/
def combineCarrier (sides : List SlotSide) (foff : Int) (ts l : Nat) (k : Int) : Cx :=
  let one := fun (a : SlotSide) (w : Nat) =>
    if a.dead l then (⟨0, 0⟩ : Cx)
    else
      let x := carrier a.feed foff ts l k
      let y := carrier a.feed foff ts (l - 1) k
      ⟨w * (x.re * y.re + x.im * y.im), w * (x.im * y.re - x.re * y.im)⟩
  match sides with
  | [a] => one a 1
  | [a, b] => (let x := one a b.noise; let y := one b a.noise; ⟨x.re + y.re, x.im + y.im⟩)
  | _ => ⟨0, 0⟩

/-- The power of z and of its distance from the nearest D-QPSK point of its magnitude, summed over the FIC and MSC symbols
(R235). -/
def errorSums (sides : List SlotSide) (foff : Int) (ts : Nat) : Nat × Nat :=
  (List.range 75).foldl (fun a l => activeCarriers.foldl (fun a k =>
    let z := combineCarrier sides foff ts (l + 2) k
    let p := cxPower z
    (a.1 + p, a.2 + (2 * p - Config.root (2 * p) * (z.re.natAbs + z.im.natAbs)))) a) (0, 0)

/-- MER in 0.1 dB (R235); where the sums are 0 the spec states no value. -/
def merOf (x : Nat × Nat) : Int := if x.2 = 0 then Config.cnrCorner x.1 0 else dbTenths x.1 x.2

/-- The level of a side over a frame with its gain state (R235): mean |x|² of 196,608 samples, by blocks of 64. -/
def slotLevel (f : SlotFeed) (ts : Nat) : List Moments :=
  (List.range 3072).map fun b =>
    let t := ts + b * 64 * dabTick
    { power := powerSum ((List.range 64).map fun j => slotSample f (t + j * dabTick)), gain := f.input.gainAt t }

/-! ## FIBs -/

/-- One bit-serial step of the CRC of a FIB: x^16 + x^12 + x^5 + 1, most significant bit first. -/
def crc16Step (c : Nat) (b : Nat) : Nat :=
  (List.range 8).foldl (fun c i =>
    let t := c.testBit 15 != b.testBit (7 - i)
    (c * 2 % 65536) ^^^ (if t then 0x1021 else 0)) c

/-- The 32 bytes of a FIB pass their CRC. -/
def fibOk (l : List Nat) : Bool :=
  l.length == 32 && ((l.take 30).foldl crc16Step 0xFFFF ^^^ 0xFFFF) == l.getD 30 0 * 256 + l.getD 31 0

/-- The FIGs of the data field of a FIB, as type and bytes, up to the end marker or padding. -/
def figsOf : Nat → List Nat → List (Nat × List Nat)
  | n + 1, h :: t =>
    if h = 0xFF || h % 32 = 0 then [] else (h / 32, t.take (h % 32)) :: figsOf n (t.drop (h % 32))
  | _, _ => []

/-- EId and CIF count of a FIG 0/0 among the FIGs of a FIB. -/
def fig00Of (l : List Nat) : Option (Nat × Nat) :=
  (figsOf 30 (l.take 30)).findSome? fun f =>
    match f with
    | (0, h :: a :: b :: c :: d :: _) => if h % 32 = 0 then some (a * 256 + b, (c % 32 * 250 + d) % 5000) else none
    | _ => none

/-- The labels of FIG 1 among the FIGs of a FIB: KIND of the text record, CHARSET, the identifier and the 16 characters
(extension 0 the ensemble, 1 and 5 a service). -/
def labelsOf (l : List Nat) : List (Nat × Nat × Nat × List Nat) :=
  (figsOf 30 (l.take 30)).filterMap fun f =>
    match f with
    | (1, h :: t) =>
      let n := if h % 8 = 5 then 4 else 2
      if (h % 8 = 0 || h % 8 = 1 || h % 8 = 5) && n + 16 ≤ t.length then
        some (if h % 8 = 0 then 3 else 4, h / 16, (t.take n).foldl (fun a b => a * 256 + b) 0, (t.drop n).take 16)
      else none
    | _ => none

end Sys2Proof.Machine
end

