-- ==== Sys2Proof/Machine/DabPad.lean ====
section
/-! DEFINITION. Programme-associated data of a decoder's sub-channel (spec/09 R229): F-PAD and X-PAD of Layer II frames and
of DAB+ access units, and the dynamic label assembled from them.  The formats are those of ETSI EN 300 401 and
TS 102 563 (PRESUMED, notes/assumptions/134.md). -/

namespace Sys2Proof.Machine

/-- The last two bytes of a list are the CRC of the others. -/
def crcEnds (l : List Nat) : Bool :=
  let n := l.length - 2
  2 ≤ l.length && ((l.take n).foldl crc16Step 0xFFFF ^^^ 0xFFFF) == l.getD n 0 * 256 + l.getD (n + 1) 0

/-- The PAD field of a Layer II frame: its X-PAD, last byte first, and its two F-PAD bytes; the scale-factor CRC between
them takes 4 bytes from 56 kbit/s a channel on. -/
def layer2Pad (rate : Nat) (l : List Nat) : List Nat × Nat × Nat :=
  let n := l.length
  let mono := l.getD 3 0 / 64 == 3
  let crc := if (if mono then 56 else 112) ≤ rate then 4 else 2
  ((l.take (n - 2 - crc)).reverse, l.getD (n - 2) 0, l.getD (n - 1) 0)

/-- Where the access units of a DAB+ superframe start, by their number; and the end of the last. -/
def auStarts (n : Nat) (l : List Nat) : List Nat :=
  let nib := fun (i : Nat) => if i % 2 = 0 then l.getD (3 + i / 2) 0 / 16 else l.getD (3 + i / 2) 0 % 16
  let first := 3 + (3 * (n - 1) + 1) / 2
  first :: (List.range (n - 1)).map (fun i => nib (3 * i) * 256 + nib (3 * i + 1) * 16 + nib (3 * i + 2)) ++ [l.length / 12 * 11]

/-- The PAD field of an access unit, in the data stream element that opens it: X-PAD, last byte first, and F-PAD. -/
def auPad (l : List Nat) : Option (List Nat × Nat × Nat) :=
  if l.getD 0 0 / 32 != 4 then none
  else
    let long := l.getD 1 0 == 255
    let n := l.getD 1 0 + (if long then l.getD 2 0 else 0)
    let x := (l.drop (if long then 3 else 2)).take n
    if x.length = n && 2 ≤ n then some ((x.take (n - 2)).reverse, x.getD (n - 2) 0, x.getD (n - 1) 0) else none

/-- The PAD fields of the access units of a superframe whose CRC is right. -/
def superPads (n : Nat) (l : List Nat) : List (List Nat × Nat × Nat) :=
  let st := auStarts n l
  (List.range n).filterMap fun i =>
    let au := (l.take (st.getD (i + 1) 0)).drop (st.getD i 0)
    if crcEnds au then auPad au else none

/-- The contents indicators of a variable-size X-PAD, at most four: application type and length of each sub-field; and how
many bytes they take. -/
def xpadList : Nat → List Nat → List (Nat × Nat) × Nat
  | k + 1, b :: t =>
    if b % 32 = 0 then ([], 1)
    else
      let r := xpadList k t
      ((b % 32, [4, 6, 8, 12, 16, 24, 32, 48].getD (b / 32) 4) :: r.1, r.2 + 1)
  | _, _ => ([], 0)

/-- Cut a list into sub-fields. -/
def xpadCut : List (Nat × Nat) → List Nat → List (Nat × List Nat)
  | [], _ => []
  | (a, n) :: t, l => (a, l.take n) :: xpadCut t (l.drop n)

/-- The application type that continues another. -/
def xpadNext (a : Nat) : Nat := if a % 2 = 0 then a + 1 else a

/-- The sub-fields of an X-PAD after F-PAD bytes a and b, and the pad with what continues next. -/
def xpadFields (p : Pad) (x : List Nat) (a b : Nat) : List (Nat × List Nat) × Pad :=
  let ci := b.testBit 1
  if a / 64 != 0 then ([], p)
  else if a / 16 % 4 = 1 then
    if ci then ([(x.getD 0 0 % 32, (x.take 4).drop 1)], { p with app := xpadNext (x.getD 0 0 % 32), size := 4 })
    else ([(p.app, x.take 4)], p)
  else if a / 16 % 4 = 2 then
    if ci then
      let r := xpadList 4 x
      let total := r.1.foldl (fun n q => n + q.2) r.2
      (xpadCut r.1 (x.drop r.2), { p with app := xpadNext ((r.1.getLastD (0, 0)).1), size := total })
    else ([(p.app, x.take p.size)], p)
  else ([], p)

/-- A data group of the dynamic label is whole: its length without and with its CRC. -/
def dlsLength (g : List Nat) : Nat := 2 + (if (g.getD 0 0).testBit 4 then 0 else g.getD 0 0 % 16 + 1) + 2

/-- The label once its segments from 0 to the last have come: CHARSET and characters. -/
def dlsWhole (segs : List (Nat × List Nat)) (last : Nat) : Option (List Nat) :=
  let l := (List.range (last + 1)).map fun k => (segs.find? fun q => q.1 == k).map (·.2)
  if l.all Option.isSome then some (l.flatMap fun x => x.getD []) else none

/-- A whole data group of the dynamic label. -/
def dlsGroup (g : List Nat) (p : Pad) : Pad :=
  let h := g.getD 0 0
  let k := g.getD 1 0
  if h.testBit 4 then (if h % 16 = 1 then { p with segs := [], label := [] } else p)
  else
    let seg := if h.testBit 6 then 0 else k / 16 % 8
    let old := if p.toggle = h / 128 then p.segs else []
    let segs := (seg, (g.drop 2).take (h % 16 + 1)) :: old.filter fun q => q.1 != seg
    let last := if h.testBit 5 then some seg else if p.toggle = h / 128 then p.last else none
    let p1 := { p with segs := segs, toggle := h / 128, last := last, charset := if h.testBit 6 then k / 16 else p.charset }
    match last.bind (dlsWhole segs) with
    | some x => { p1 with label := x }
    | none => p1

/-- A sub-field: types 2 and 3 carry the dynamic label, others are kept raw, the latest data group of each. -/
def padField (p : Pad) (f : Nat × List Nat) : Pad :=
  if f.1 = 2 || f.1 = 3 then
    let g := if f.1 = 2 then f.2 else p.group ++ f.2
    let n := dlsLength g
    if 2 ≤ g.length && n ≤ g.length then
      let p1 := { p with group := [] }
      if crcEnds (g.take n) then dlsGroup (g.take n) p1 else p1
    else { p with group := g }
  else if f.1 = 0 then p
  else
    let a := f.1 / 2 * 2
    let old := ((p.raw.find? fun q => q.1 == a).map (·.2)).getD []
    { p with raw := (a, if f.1 % 2 = 0 then f.2 else old ++ f.2) :: p.raw.filter fun q => q.1 != a }

/-- One PAD field. -/
def padTake (p : Pad) (x : List Nat × Nat × Nat) : Pad :=
  let r := xpadFields p x.1 x.2.1 x.2.2
  r.1.foldl padField { r.2 with fpad := (x.2.1, x.2.2) }

/-- A logical frame of a decoder of a codec, core and bit rate at a CIF: a Layer II frame carries its own PAD, and the five of
a DAB+ superframe that of its access units. -/
def padFrame (codec aus rate cif : Nat) (l : List Nat) (p : Pad) : Pad :=
  if codec = 1 then padTake p (layer2Pad rate l)
  else
    let fs := if cif % 5 = 0 then [l] else if p.frames.length = cif % 5 then p.frames ++ [l] else []
    if fs.length = 5 then (superPads aus fs.flatten).foldl padTake { p with frames := [] } else { p with frames := fs }

end Sys2Proof.Machine
end

