-- ==== Sys2Proof/Machine/KtOps.lean ====
section
/-! DEFINITION. The KT-440 mirror, its interrupt bits, RDS FIFOs and capture buffers (spec/15 R387 to R400), as the
demodulators, the audio ports and the bus act on them. -/

namespace Sys2Proof.Machine

/-- What an unlisted tuner holds. -/
def tunerNone (_ : Nat) : Tuner := {}

/-- Tuner t beside its mirror registers. -/
def State.tuner (s : State) (t : Nat) : Tuner := sget tunerNone s.kt.tuners t

/-- Replace tuner t. -/
def State.setTuner (t : Nat) (v : Tuner) (s : State) : State :=
  { s with kt := { s.kt with tuners := sset tunerNone t v s.kt.tuners } }

/-- The mirror value of KT-440 index i (R403). -/
def State.ktGet (s : State) (i : Nat) : Nat := s.getF (CMP_KT_VALUE i)

/-- Place a mirror value. -/
def State.ktSet (i v : Nat) (s : State) : State := s.setF (CMP_KT_VALUE i) v

/-- The index of tuner t's register at an offset (R389). -/
def ktIdx (t off : Nat) : Nat := 0x20 + 0x20 * t + off

/-- The personality is running: bit 17 is active and it has reported readiness (R85). -/
def State.ktReady (s : State) : Bool := s.ktOwned && s.flag CMP_STAT_READY

/-- The personality is ready and SQ0 runs it (R21). -/
def State.ktRuns (s : State) : Bool := s.ktReady && s.firmwareOn 0

/-- BUSY of tuner t (R389). -/
def State.ktBusy (s : State) (t : Nat) : Bool := (s.ktGet (ktIdx t 6)).testBit 0

/-- Set bits of INTSTAT, and follow with IRQ_N (R388). -/
def ktInt (bits : Nat) (s : State) : State := irqRefresh (s.ktSet 2 (s.ktGet 2 ||| bits))

/-- Replace bits [hi:lo] of a mirror register. -/
def State.ktBits (i hi lo v : Nat) (s : State) : State := s.ktSet i (putBits (s.ktGet i) hi lo v)

/-- Raise or lower BUSY of tuner t, in STATUS and in CMP_STAT. -/
def ktSetBusy (t : Nat) (b : Bool) (s : State) : State :=
  (s.ktBits (ktIdx t 6) 0 0 b.toNat).setB ⟨CMP_STAT, t, t⟩ b

/-- A tenths value rounded to the nearest whole number, halves upwards. -/
def round10 (x : Int) : Int := (x + 5) / 10

/-- FOFF as the KT-440 shows it: kHz on FM, hundreds of hertz on AM, saturating at 127 (R389). -/
def ktFoff (am : Bool) (hz : Int) : Int := clampInt (-127) 127 (if am then (hz + 50) / 100 else (hz + 500) / 1000)

/-- The readings of tuner t as R389 shows them: quality readings are 0 while BUSY (R395), everything from RSSI to BLER
is 0 on a tuner that is powered down (R394). -/
def ktMirror (t : Nat) (s : State) : State :=
  if !s.ktReady then s
  else
    let on := (s.tuner t).powered
    let shown := on && !s.ktBusy t
    let am := (s.tuner t).mode % 2 = 1
    let s1 := s.ktBits (ktIdx t 6) 6 5 (s.getF (DEMn_STAT_PI_CONF t) * 2 + s.getF (DEMn_STAT_LOST t))
    let s2 := s1.ktBits (ktIdx t 6) 2 1 (s.getF (DEMn_STAT_RDS_SYNC t) * 2 + s.getF (DEMn_STAT_PILOT t))
    let m := if shown then s.tuner t |>.meas else none
    let v : (KtMeas → Nat) → Nat := fun f => (m.map f).getD 0
    let u : Nat → Nat := fun x => if on then x else 0
    let s3 := ((s2.ktSet (ktIdx t 7) (v fun m => (clampInt 0 255 (round10 m.rssi + 110)).toNat)).ktSet
      (ktIdx t 8) (v fun m => (clampInt 0 127 (round10 m.cnr)).toNat)).ktSet
      (ktIdx t 9) (v fun m => (m.mpath + 2) / 4)
    let s4 := (s3.ktSet (ktIdx t 10) (v fun m => unsignedOf 8 (ktFoff am m.foff))).ktSet
      (ktIdx t 11) (v fun m => m.sep)
    ((s4.ktSet (ktIdx t 12) (u (s.getF (DEMn_PI_PI t) / 256))).ktSet
      (ktIdx t 13) (u (s.getF (DEMn_PI_PI t) % 256))).ktSet (ktIdx t 18) (u (s.getF (DEMn_RDSQ_BLER t)))

/-- RDSCNT and RDSDATA of tuner t: the entries whose first byte is unread, and the byte a read returns (R399). -/
def ktFifoRefresh (t : Nat) (s : State) : State :=
  let u := s.tuner t
  let n := (u.fifo.filter fun e => e.length == 10).length
  (s.ktSet (ktIdx t 14) n).ktSet (ktIdx t 16) (((u.fifo.headD []).head?).getD u.last)

/-- Empty the FIFO of tuner t, including an entry partly read (R399). -/
def ktFlush (t : Nat) (s : State) : State := ktFifoRefresh t (s.setTuner t { s.tuner t with fifo := [], last := 0 })

/-- The counter of discarded groups of tuner t. -/
def ktOvfFld (t : Nat) : Fld := ⟨CMP_RDSOVF, 8 * t + 7, 8 * t⟩

/-- A group that path t delivers becomes an entry of ten bytes, or is discarded where 32 are held (R398, R399). -/
def ktRdsEntry (t : Nat) (words : List Nat) (err : Nat) (cPrime piConf : Bool) (s : State) : State :=
  if !(s.ktReady && decide (t < 4)) then s
  else if !((s.ktGet (ktIdx t 0x11)).testBit 7 && (s.tuner t).mode % 2 == 0 && !s.ktBusy t) then s
  else
    let u := s.tuner t
    if 32 ≤ u.fifo.length then
      ktInt 0x80 ((s.ktSet (ktIdx t 15) 1).bump (ktOvfFld t))
    else
      let e := words.flatMap (fun w => [w / 256 % 256, w % 256]) ++ [err, cPrime.toNat * 128 + piConf.toNat * 64]
      let s1 := ktFifoRefresh t (s.setTuner t { u with fifo := u.fifo ++ [e] })
      if s1.ktGet (ktIdx t 14) = s1.ktGet 14 then ktInt 0x10 s1 else s1

/-- A read of RDSDATA (R399): the next byte of the oldest entry, or the byte last returned where none is held. -/
def ktRdsData (t : Nat) (s : State) : Nat × State :=
  let u := s.tuner t
  match u.fifo with
  | (b :: r) :: rest =>
    (b, ktFifoRefresh t (s.setTuner t { u with fifo := if r.isEmpty then rest else r :: rest, last := b }))
  | _ => (u.last, s)

/-! ## Capture buffers -/

/-- What an unlisted capture buffer holds. -/
def capNone (_ : Nat) : Capture := {}

/-- Capture buffer k. -/
def State.cap (s : State) (k : Nat) : Capture := sget capNone s.kt.caps k

/-- The size of a capture buffer in bytes (R400). -/
def capSize : Nat := 49152

/-- The mirror of the buffer SEL names: RP, WP and the byte at RP (R388, R400). -/
def ktCapRefresh (s : State) : State :=
  let c := s.cap (bitsOf (s.ktGet 6) 4 4)
  ((((s.ktSet 8 (c.rp % 256)).ktSet 9 (c.rp / 256)).ktSet 10 (c.wp % 256)).ktSet 11 (c.wp / 256)).ktSet
    12 (sget memDefault c.buf c.rp).toNat

/-- Replace capture buffer k. -/
def State.setCap (k : Nat) (c : Capture) (s : State) : State :=
  ktCapRefresh { s with kt := { s.kt with caps := sset capNone k c s.kt.caps } }

/-- Capture into buffer k is enabled: CAPCTL.ENk and AUDCFG.ENk (R400). -/
def State.ktCapturing (s : State) (k : Nat) : Bool :=
  s.ktReady && (s.ktGet 6).testBit k && (s.ktGet 4).testBit k

/-- A frame of input k < 2 in RUN is stored as packed bytes (R400): a one-shot capture ends at the top of the buffer,
a ring wraps there and marks its halves. -/
def ktCapStore (k : Nat) (bytes : List Byte) (s : State) : State :=
  if !(s.ktCapturing k && !bytes.isEmpty) then s
  else
    let c := s.cap k
    let wp := c.wp + bytes.length
    let c1 := { c with buf := memPut c.wp bytes c.buf, wp := wp }
    if (s.ktGet 6).testBit 2 then
      if wp = capSize then
        ktInt 0x40 ((s.setCap k { c1 with wp := 0 }).ktBits 7 (2 + k) (2 + k) 1)
      else if wp = capSize / 2 then ktInt 0x40 (s.setCap k c1)
      else s.setCap k c1
    else if capSize ≤ wp then
      ktInt 0x40 (((s.setCap k { c1 with wp := capSize }).ktBits 7 k k 1).ktBits 6 k k 0)
    else s.setCap k c1

/-- A rising EN of buffer k: WP and RP become 0, and PACK4 as written applies (R400). -/
def ktCapStart (k : Nat) (s : State) : State :=
  s.setCap k { s.cap k with wp := 0, rp := 0, pack4 := (s.ktGet 6).testBit 3 }

/-- A read of CAPDATA: the byte at RP, after which RP advances and wraps at 49,152 (R388, R400). -/
def ktCapData (s : State) : Nat × State :=
  let k := bitsOf (s.ktGet 6) 4 4
  let c := s.cap k
  ((sget memDefault c.buf c.rp).toNat, s.setCap k { c with rp := (c.rp + 1) % capSize })

end Sys2Proof.Machine
end

