-- ==== Sys2Proof/Machine/Dem.lean ====
section
/-! DEFINITION. AM and FM reception (spec/08 R203 to R218, R224 to R227): configuration, metric windows, pilot, blend,
soft mute and loss; and the change instants of a path, which restart its demodulator. -/

namespace Sys2Proof.Machine

/-- The metric window in ticks: 4 ms (R214). -/
def metricWindow : Nat := 15728640

/-- The warm-up of the metrics in ticks: 50 ms (R216). -/
def metricWarmup : Nat := 196608000

/-- The path is running: RUNNING or DEFERRED (R194). -/
def State.pathRunning (s : State) (n : Nat) : Bool := s.getF (PTHn_STAT_STATE n) == 2 || s.getF (PTHn_STAT_STATE n) == 3

/-- t_r of path n. -/
def State.pathOrigin (s : State) (n : Nat) : Nat := s.get64 (PTHn_START_LO n) (PTHn_START_HI n)

/-- The registers of path n that hold the state of its demodulator: all from DEMn_STAT to DEMn_RDSQ. -/
def demRegs (n : Nat) : List Nat := (List.range 10).map fun k => DEMn_STAT n + 4 * k

/-- Every state of the demodulator at its initial value (R225); the counters stay, and what blocks of before still
take. -/
def demClear (n : Nat) (s : State) : State :=
  let d := s.dem n
  (forEach (demRegs n) (fun a s => s.wr a (regReset a)) s).setDem n
    { ctl := (s.rd (DEMn_CTL n)).toNat, ctlFrom := s.now, ctlPrev := d.ctl, sep := d.sep, mute := d.mute, unsyncAt := s.now }

/-- Ramps kept: those of the recent past. -/
def rampPush (r : Ramp) (l : List Ramp) : List Ramp := (r :: l).take 8

/-- A start or a synchronising reset of the demodulator at t_r (R216, R225): metric warm-up begins, mono and with the
full soft mute on an AM or FM path. -/
def demRestart (n t : Nat) (s : State) : State :=
  let s1 := (demClear n s).setF (DEMn_STAT_WARMUP n) 1
  let g := s.getF (DEMn_QCFG_SM_DEPTH n)
  let d := s1.dem n
  let s2 := s1.setDem n { d with window := t, sep := rampPush ⟨t, 0, 0⟩ d.sep, mute := rampPush ⟨t, (g : Rat), (g : Rat)⟩ d.mute }
  if s.getF (PTHn_CTL_TYPE n) = 2 then s2 else s2.setF (DEMn_STAT_SMUTE_DB n) g

/-- DEMn_CTL as in force for a sample of an aerial instant (R224). -/
def Dem.ctlAt (d : Dem) (u : Nat) : Nat := if u < d.ctlFrom then d.ctlPrev else d.ctl

/-! ## Configuration -/

/-- Whether the fields of DEMn_CTL that may change only while STOPPED keep their values (R224). -/
def demCtlKeeps (old w : Nat) : Bool :=
  bitsOf old 5 4 == bitsOf w 5 4 && bitsOf old 9 9 == bitsOf w 9 9 && bitsOf old 12 12 == bitsOf w 12 12

/-- SM_LO below SM_HI in DEMn_QCFG; LO below HI in DEMn_BLEND (R226). -/
def demPairOk (r w : Nat) : Bool :=
  if r = 1 then decide (bitsOf w 15 8 < bitsOf w 23 16) else if r = 2 then decide (bitsOf w 7 0 < bitsOf w 15 8) else true

/-- The DEM configuration of path n is about to change: what stood until now is noted (R224). -/
def demNote (n : Nat) (s : State) : State :=
  let d := s.dem n
  let x := fun a => (s.rd a).toNat
  s.setDem n { d with before := (s.now, x (DEMn_CTL n), x (DEMn_QCFG n), x (DEMn_BLEND n))
                        :: d.before.filter fun e => decide (s.now ≤ e.1 + 2 ^ 34) }

/-- A register of the DEM configuration as in force from the metric-window boundary b on: a write at or after b does not
count yet (R224).  Register r is 0 DEMn_CTL, 1 DEMn_QCFG, 2 DEMn_BLEND. -/
def State.demWord (s : State) (n r b : Nat) : Nat :=
  match ((s.dem n).before.filter fun e => decide (b ≤ e.1)).getLast? with
  | some e => if r = 0 then e.2.1 else if r = 1 then e.2.2.1 else e.2.2.2
  | none => (s.rd (DEMn_CTL n + 4 * r)).toNat

/-- A field of it. -/
def State.demF (s : State) (n : Nat) (f : Fld) (b : Nat) : Nat := bitsOf (s.demWord n ((f.reg - DEMn_CTL n) / 4) b) f.hi f.lo

/-- A write to the DEM configuration of path n: register r is 0 DEMn_CTL, 1 DEMn_QCFG, 2 DEMn_BLEND (R224, R226). -/
def demWrite (n r : Nat) (w : Word) (s : State) : State :=
  let a := DEMn_CTL n + 4 * r
  if r = 0 && s.getF (PTHn_STAT_STATE n) != 0 && !demCtlKeeps (s.rd a).toNat w.toNat then
    refuseInst (PTHn_STAT n) codeWrongState s
  else if !regOk a w || !demPairOk r w.toNat then refuseInst (PTHn_STAT n) codeReserved s
  else
    let s1 := regPut a w (demNote n s)
    if s.getF (PTHn_STAT_STATE n) = 0 then s1.setDem n { s1.dem n with ctl := (s1.rd (DEMn_CTL n)).toNat, before := [] } else s1

/-- DEM_CONFIG_WRITE: it takes effect at the next metric-window boundary (R224). -/
def execDemConfigWrite (m : Master) (n r : Nat) (v : Word) (s : State) : Host.Outcome State Fault Refusal :=
  .next (if n < 512 && r < 3 then gated m (DEMn_CTL n + 4 * r) v.toNat (pathGuard m n (demWrite n r v)) s else s)

/-! ## Metric windows -/

/-- RSSI of one side in 0.1 dBm from its level in 0.01 dB re 1.0, LNA and ATT (R214), rounded to nearest, saturating. -/
def rssiOf (p : Int × Nat × Nat) : Int :=
  clampInt (-1500) 300 ((p.1 + 1204 - 1400 + 1600 * (1 - (p.2.1 : Int)) + 50 * (p.2.2 : Int) + 5) / 10)

/-- The higher RSSI of the sides of a path. -/
def rssiMax : List (Int × Nat × Nat) → Int
  | [] => -1500
  | p :: t => max (rssiOf p) (rssiMax t)

/-- The metrics of R214 from a measurement: IQ paths compute RSSI only. -/
def metricsOf (n start : Nat) (warm : Bool) (q : Meas) (s : State) : Metrics :=
  let ty := s.getF (PTHn_CTL_TYPE n)
  let base : Metrics := { start := start, flags := q.flags, valid := q.present && (q.flags &&& 9) == 0, warm := warm,
                          rssi := rssiMax q.sides }
  if ty = 2 then base
  else
    let two := s.getF (PTHn_CTL_INPUT n) = 2
    let fmx := if ty = 1 then 25000 else 2000
    { base with
      cnr := clampInt (-100) 500 q.cnr
      cnrA := if two then clampInt (-100) 500 q.cnrA else 0
      cnrB := if two then clampInt (-100) 500 q.cnrB else 0
      mpath := if ty = 1 then min 1000 q.mpath else 0
      usn := if ty = 1 then clampInt (-1500) 0 q.usn else 0
      foff := clampInt (-fmx) fmx q.foff
      peak := min 65535 q.peak
      pilot := if ty = 1 then min 65535 q.pilot else 0 }

/-- LOST after a valid window that is not warming up: five windows below LOS_DB set it, five at or above LOS_DB + 3 dB
clear it, each with its event (R218).  On a tuner of the personality a rise sets INTSTAT.SIGLOST (R388). -/
def lostStep (n start : Nat) (cnr : Int) (s : State) : State :=
  let los : Int := 10 * (s.demF n (DEMn_QCFG_LOS_DB n) (start + metricWindow) : Int)
  let lost := s.flag (DEMn_STAT_LOST n)
  let toward := if lost then decide (los + 30 ≤ cnr) else decide (cnr < los)
  let run := if toward then (s.dem n).lostRun + 1 else 0
  let from_ := if run = 1 && !lost then start else (s.dem n).lostFrom
  if run < 5 then s.setDem n { s.dem n with lostRun := run, lostFrom := from_ }
  else
    let s1 := (s.setB (DEMn_STAT_LOST n) (!lost)).setDem n { s.dem n with lostRun := 0, pilotRun := 0, lostFrom := from_ }
    if lost then raise evSigFound n s1
    else
      let s2 := raise evSigLost n s1
      if s2.ktReady && decide (n < 4) then ktInt 0x20 s2 else s2

/-- The pilot becomes present or absent, with STEREO (R208). -/
def pilotSet (n : Nat) (b : Bool) (s : State) : State :=
  if s.flag (DEMn_STAT_PILOT n) = b then s
  else raise evStereo n ((s.setB (DEMn_STAT_PILOT n) b).setDem n { s.dem n with pilotRun := 0 })

/-- PILOT after a valid window that is not warming up: five windows of 3.0 kHz or more set it, five below 2.0 kHz clear
it, and it is absent while LOST (R208). -/
def pilotStep (n pilot : Nat) (s : State) : State :=
  if s.flag (DEMn_STAT_LOST n) then pilotSet n false (s.setDem n { s.dem n with pilotRun := 0 })
  else
    let held := s.flag (DEMn_STAT_PILOT n)
    let toward := if held then decide (pilot < 20) else decide (30 ≤ pilot)
    let run := if toward then (s.dem n).pilotRun + 1 else 0
    if run < 5 then s.setDem n { s.dem n with pilotRun := run } else pilotSet n (!held) s

/-- num / den limited to 0 to 1 and multiplied by k, rounded to the nearest whole number. -/
def clampRatio (k num den : Int) : Nat :=
  if den ≤ 0 || num ≤ 0 then 0 else if den ≤ num then k.toNat else ((2 * k * num + den) / (2 * den)).toNat

/-- num / den limited to 0 to 1. -/
def clampRat (num den : Int) : Rat := if den ≤ 0 || num ≤ 0 then 0 else if den ≤ num then 1 else mkRat num den.toNat

/-- Numerator and denominator of the separation after a valid window that ends at b, before they are limited (R209). -/
def sepRatio (n : Nat) (cnr : Int) (b : Nat) (s : State) : Int × Int :=
  if !s.flag (DEMn_STAT_PILOT n) || s.demF n (DEMn_CTL_STEREO n) b = 1 || s.flag (DEMn_STAT_LOST n) then (0, 1)
  else
    let lo : Int := 10 * (s.demF n (DEMn_BLEND_LO n) b : Int)
    let hi : Int := 10 * (s.demF n (DEMn_BLEND_HI n) b : Int)
    (cnr - lo, hi - lo)

/-- Separation in per cent after a valid window (R209). -/
def sepOf (n : Nat) (cnr : Int) (b : Nat) (s : State) : Nat := clampRatio 100 (sepRatio n cnr b s).1 (sepRatio n cnr b s).2

/-- Numerator and denominator of the soft mute's share of SM_DEPTH, before they are limited (R211). -/
def smuteRatio (n : Nat) (cnr : Int) (b : Nat) (s : State) : Int × Int :=
  let lo : Int := 10 * (s.demF n (DEMn_QCFG_SM_LO n) b : Int)
  let hi : Int := 10 * (s.demF n (DEMn_QCFG_SM_HI n) b : Int)
  (hi - cnr, hi - lo)

/-- Soft-mute attenuation in whole dB after a valid window (R211). -/
def smuteOf (n : Nat) (cnr : Int) (b : Nat) (s : State) : Nat :=
  clampRatio (s.demF n (DEMn_QCFG_SM_DEPTH n) b) (smuteRatio n cnr b s).1 (smuteRatio n cnr b s).2

/-- The separation moves to a new value over the window that begins at an instant (R209). -/
def sepRamp (n at_ : Nat) (x : Rat) (s : State) : State :=
  let d := s.dem n
  s.setDem n { d with sep := rampPush ⟨at_, (d.sep.head?.map (·.to_)).getD 0, x⟩ d.sep }

/-- So does the soft mute, in dB (R211). -/
def muteRamp (n at_ : Nat) (x : Rat) (s : State) : State :=
  let d := s.dem n
  s.setDem n { d with mute := rampPush ⟨at_, (d.mute.head?.map (·.to_)).getD 0, x⟩ d.mute }

/-- Pilot, loss, blend and soft mute after a window of an AM or FM path; S and G move over the window that follows
(R208, R209, R211, R215, R216, R218).  STEREO = MONO makes S 0 whatever the window (R209). -/
def windowStates (n : Nat) (m : Metrics) (s : State) : State :=
  let next := m.start + metricWindow
  let depth := s.demF n (DEMn_QCFG_SM_DEPTH n) next
  if m.warm then
    (s.setDem n { s.dem n with mute := rampPush ⟨next, (depth : Rat), (depth : Rat)⟩ (s.dem n).mute }).setF
      (DEMn_STAT_SMUTE_DB n) depth
  else
    let s0 := s.setDem n { s.dem n with warmed := true }
    let s1 := if m.valid then
        let a := lostStep n m.start m.cnr s0
        let b := if s.getF (PTHn_CTL_TYPE n) = 1 then pilotStep n m.pilot a else a
        let r := sepRatio n m.cnr next b
        (sepRamp n next (clampRat r.1 r.2) b).setF (DEMn_STAT_SEP n) (sepOf n m.cnr next b)
      else if s0.demF n (DEMn_CTL_STEREO n) next = 1 then s0.setF (DEMn_STAT_SEP n) 0 else s0
    if s1.demF n (DEMn_CTL_SMUTE n) next = 0 then (muteRamp n next 0 s1).setF (DEMn_STAT_SMUTE_DB n) 0
    else if m.valid then
      let r := smuteRatio n m.cnr next s1
      (muteRamp n next (depth * clampRat r.1 r.2) s1).setF (DEMn_STAT_SMUTE_DB n) (smuteOf n m.cnr next s1)
    else s1

/-- The window that began at start ends (R214, R215): a valid window moves the states, every window waits to be
published, and configuration written since the last boundary takes effect (R224). -/
def metricEnd (n start : Nat) (q : Meas) (s : State) : State :=
  let warm := decide (start + metricWindow < s.pathOrigin n + metricWarmup)
  let m := metricsOf n start warm q s
  let d := s.dem n
  let s1 := s.setDem n { d with
    ctl := s.demWord n 0 (start + metricWindow), ctlFrom := start + metricWindow, ctlPrev := d.ctl, window := start + metricWindow,
    badRun := if m.valid then 0 else d.badRun + 1
    badFrom := if d.badRun = 0 && !m.valid then start else d.badFrom
    toPublish := d.toPublish ++ [m] }
  let s2 := s1.setB (DEMn_STAT_QVALID n) m.valid
  let s3 := if m.valid && s.getF (PTHn_CTL_TYPE n) = 0 then s2.setB (DEMn_STAT_AMLOCK n) q.amLock else s2
  if s.getF (PTHn_CTL_TYPE n) = 2 then s3 else windowStates n m s3

/-- The quality record of a path (R344 type 3). -/
def qualityRec (n : Nat) (m : Metrics) (s : State) : Rec :=
  let i16 : Int → List Nat := fun x => leNat 2 (unsignedOf 16 x)
  ⟨3, m.start, m.flags, n,
    leNat 8 m.start ++ leNat 2 m.flags ++ leNat 2 n
      ++ [m.valid.toNat * 128 + m.warm.toNat * 64 + s.getF ⟨DEMn_STAT n, 29, 24⟩, s.getF (DEMn_STAT_SEP n),
          s.getF (DEMn_STAT_SMUTE_DB n), 0]
      ++ i16 m.rssi ++ i16 m.cnr ++ i16 m.cnrA ++ i16 m.cnrB ++ leNat 2 m.mpath ++ i16 m.usn
      ++ leNat 4 (unsignedOf 32 m.foff) ++ leNat 2 m.peak ++ leNat 2 m.pilot⟩

/-- The metric fields of path n take the values of a valid window, with the stamp of its start (R217). -/
def metricFields (n : Nat) (m : Metrics) (s : State) : State :=
  let s1 := (s.setI (DEMn_LVL_RSSI n) m.rssi).setI (DEMn_LVL_CNR n) m.cnr
  let s2 := (s1.setF (DEMn_FM_MPATH n) m.mpath).setI (DEMn_FM_USN n) m.usn
  let s3 := ((s2.setI (DEMn_FOFF_FOFF n) m.foff).setF (DEMn_MOD_PEAK n) m.peak).setF (DEMn_MOD_PILOT n) m.pilot
  ((s3.setI (DEMn_DIVQ_CNR_A n) m.cnrA).setI (DEMn_DIVQ_CNR_B n) m.cnrB).set64 (DEMn_QTS_LO n) (DEMn_QTS_HI n) m.start

/-- A window of tuner t is published: while BUSY the first that is not warming up is kept, and otherwise the readings follow
every valid one (R395). -/
def ktMeasure (t : Nat) (valid warm : Bool) (s : State) : State :=
  let u := s.tuner t
  let settled := s.pathRunning t && !u.retune && u.meas.isNone && !warm
  if valid && (!s.ktBusy t || settled) then
    s.setTuner t { u with meas := some ⟨s.getI (DEMn_LVL_RSSI t), s.getI (DEMn_LVL_CNR t), s.getI (DEMn_FOFF_FOFF t),
      s.getF (DEMn_FM_MPATH t), s.getF (DEMn_STAT_SEP t)⟩ }
  else s

/-- METRIC_PUBLISH: the oldest window waiting is written to the registers where it is valid, WARMUP ends with the first
window that is not warming up, and the quality record goes out (R216, R217, R345). -/
def metricPublish (n : Nat) (s : State) : State :=
  match (s.dem n).toPublish with
  | [] => s
  | m :: rest =>
    let s1 := s.setDem n { s.dem n with toPublish := rest }
    let s2 := if m.valid then metricFields n m s1 else s1
    let s3 := if m.warm then s2 else s2.setF (DEMn_STAT_WARMUP n) 0
    let s4 := emitRecIf (s.getF (PTHn_STAT_STATE n) == 2) (qualityRec n m s3) s3
    if n < 4 && s4.ktOwned then ktMirror n (ktMeasure n m.valid m.warm s4) else s4

/-- METRIC_PUBLISH. -/
def execMetricPublish (n : Nat) (s : State) : Host.Outcome State Fault Refusal :=
  .next (if n < 512 then metricPublish n s else s)

/-! ## Change instants -/

/-- The path runs from zero history at t_r: its warm-up and its demodulator start (R194, R196, R225).  A DEFERRED path
stays so. -/
def pathRestart (n t : Nat) (s : State) : State :=
  let w := s.getF (PTHn_DSMP_SAMPLES n)
  let s1 := ((s.setF (PTHn_STAT_STATE n) (if s.getF (PTHn_STAT_STATE n) = 3 then 3 else 2)).set64 (PTHn_START_LO n) (PTHn_START_HI n) t).setB (PTHn_STAT_WARMUP n) (w != 0)
  let p := s1.path n
  let run : Run := { base := t, ctl := (s.rd (PTHn_CTL n)).toNat, bin := s.getF (PTHn_BIN_BIN n),
                     freq := s.getI (PTHn_NCO_FREQ n), phase := s.getF (PTHn_PHASE_PHASE n), num := s.getF (PTHn_RS_NUM n),
                     den := s.getF (PTHn_RS_DEN n), dly := s.getF (PTHn_DLY_TICKS n), dsmp := w, chanNext := t
                     bank := let k := s.getF (PTHn_CTL_BANK n); if k = 0 then none else some (s.bank k) }
  demRestart n t (s1.setPath n { p with
    change := .none, warmLeft := w, lost := false, runs := Run.endAll t p.runs ++ [run],
    shift := if p.runs.isEmpty then (s.rd (PTHn_SHIFT n)).toNat else p.shift, shifts := if p.runs.isEmpty then []
      else if (p.shifts.head?.map (·.2)).getD p.shift = (s.rd (PTHn_SHIFT n)).toNat then p.shifts
      else (t, (s.rd (PTHn_SHIFT n)).toNat) :: p.shifts })

/-- The frequency in hertz of a KT-440 frequency value: FM in 10 kHz units, AM in 1 kHz units (R389). -/
def ktHz (am : Bool) (f : Nat) : Nat := if am then 1000 * f else 10000 * f

/-- GAIN and RDSCTL.DELIV of tuner t, at their reset values until the personality is ready (R387, R389). -/
def State.ktGain (s : State) (t : Nat) : Nat := if s.flag CMP_STAT_READY then bitsOf (s.ktGet (ktIdx t 4)) 2 0 else 4
def State.ktDeliv (s : State) (t : Nat) : Nat := if s.flag CMP_STAT_READY then bitsOf (s.ktGet (ktIdx t 0x11)) 2 1 else 0

/-- PTHt_SHIFT of a gain code: SH4 on FM, SH5 on AM (R391). -/
def ktShift (am : Bool) (g : Nat) : Nat := unsignedOf 5 ((g : Int) - 4) * 2 ^ (if am then 25 else 20)

/-- Path t takes the settings of tuner t, and starts (R391). -/
def ktPathStart (t : Nat) (s : State) : State :=
  let u := s.tuner t
  let am := u.mode.testBit 0
  let preset := (if am then 8 else 6) + bitsOf u.mode 1 1
  let hz := ktHz am u.freq
  let deemph := bitsOf u.mode 5 4
  let s1 := s.wr (PTHn_CTL t) (BitVec.ofNat 32 (preset * 2 ^ 12 + bitsOf u.mode 2 2 * 2 ^ 8 + (if am then 0 else 1)))
  let s2 := ((s1.setF (PTHn_BIN_BIN t) (binOf hz)).setI (PTHn_NCO_FREQ t) (freqOf hz (binOf hz))).setF (PTHn_RS_NUM t) 0
  let s3 := s2.wr (PTHn_SHIFT t) (BitVec.ofNat 32 (ktShift am (s.ktGain t)))
  let s4 := (((s3.setF (DEMn_CTL_DEEMPH t) (if deemph = 2 then 0 else deemph + 1)).setF (DEMn_CTL_STEREO t)
    (bitsOf u.mode 3 3)).setF (DEMn_CTL_DELIV t) (s.ktDeliv t)).setF (DEMn_CTL_AMDET t) 0
  let s5 := if am then s4 else s4.setF (DEMn_CTL_RDS t) 1
  let s6 := s5.setDem t { s5.dem t with ctl := (s5.rd (DEMn_CTL t)).toNat }
  pathStart t (pathRefresh t (s6.setTuner t { s6.tuner t with retune := false }))

/-- Path t is stopped and started again on the settings of tuner t; a path that is STOPPED starts at once (R394). -/
def ktRetune (t : Nat) (s : State) : State :=
  let s1 := pathStop t (s.setTuner t { s.tuner t with meas := none })
  if s1.getF (PTHn_STAT_STATE t) = 0 then ktPathStart t s1
  else s1.setTuner t { s1.tuner t with retune := true }

/-- The change of path n that is due takes place at the change instant t (R194). -/
def pathInstant (n t : Nat) (s : State) : State :=
  let p := s.path n
  if t % s.pathGrid n != 0 || decide (t < p.due) then s
  else match p.change with
    | .none => s
    | .start => pathRestart n t s
    | .sync =>
      let s1 := pathRestart n t s
      (match p.later with
      | some (c, d) => s1.setPath n { s1.path n with change := c, due := d, later := none }
      | none => s1)
    | .stop =>
      let s1 := demClear n (pathStopped n s)
      if n < 4 && s1.ktOwned && (s1.tuner n).retune then ktPathStart n s1 else s1

/-- PATH_CHANGE_INSTANT. -/
def execPathChangeInstant (n t : Nat) (s : State) : Host.Outcome State Fault Refusal :=
  .next (if n < 512 && !s.pwr.inReset then pathInstant n t (s.advance t) else s)

/-- The pods of a running path have entered ACTIVE without replayed history: it restarts at its first change instant
from now on, and its blocks are VOID until then (R196); one that is to stop does not restart. -/
def pathHistoryLost (n : Nat) (s : State) : State :=
  let p := s.path n
  if !s.pathRunning n then s
  else if p.change = .stop then s.setPath n { p with lost := true }
  else s.setPath n { p with change := .sync, due := s.now, lost := true }

end Sys2Proof.Machine
end

