-- ==== Sys2Proof/Machine/PathOut.lean ====
section
/-! DEFINITION. The output of a path (spec/07 R182 to R200, spec/08 R203 to R216): its channel blocks, the blocks at the
preset output, the resampled ones, and the metrics of a window, all worked out from the ADC blocks the Leek has read. -/

namespace Sys2Proof.Machine

/-! ## Channel blocks -/

/-- The sides a combined block does not draw on: bit 0 ANT_A, bit 1 ANT_B (R132). -/
def unused (a b : Side) : Nat :=
  (if !a.whole && (b.whole || a.run.isNone) then 1 else 0) + (if !b.whole && (a.whole || b.run.isNone) then 2 else 0)

/-- What the combiner makes of the next channel block of a run: samples, flags, its state, the side, the sides.  The first
block that draws on a side again inherits its DROP (R132). -/
def chanVals (n : Nat) (r : Run) (s : State) : Option (List Cx) × Nat × Mixer × Bool × List Side :=
  if r.input = 2 then
    let a := s.pathSide n 0 r.chanNext r
    let b := s.pathSide n 1 r.chanNext r
    let c := combine r.ty (bitsOf ((s.dem n).ctlAt r.chanNext) 7 6) r.mixer r.side a b
    (c.1, if r.owed != r.owed &&& unused a b then c.2.1 ||| 128 else c.2.1, c.2.2.1, c.2.2.2, [a, b])
  else
    let a := s.pathSide n r.input r.chanNext r
    (a.run.map (·.vals), a.flags, r.mixer, r.side, [a])

/-- The samples that every side of a block misses (R132, R198). -/
def goneOf : List Side → List Bool
  | [a, b] => (a.gone.zip b.gone).map fun q => q.1 && q.2
  | [a] => a.gone
  | _ => []

/-- What the sides of a block leave owing to the next one (R132). -/
def owedAfter : List Side → Nat
  | [a, b] => unused a b
  | _ => 0

/-- SELECT after a block (R204): the other side takes over at the next boundary once it has led by 3 dB for two blocks. -/
def sideJudge (div : Nat) (r : Run) : List Side → Run
  | [a, b] =>
    if r.ty = 2 || div != 1 then r
    else
      let c := cnrPair r.ty a b
      let oth := if r.side then a else b
      let lead := a.whole && b.whole && !badFlags oth.flags && (if r.side then leads c.1 c.2 else leads c.2 c.1)
      if !lead then { r with sideRun := 0 }
      else if r.sideRun = 0 then { r with sideRun := 1 }
      else { r with sideRun := 0, side := !r.side, mixer := { r.mixer with fade := true } }
  | _ => r

/-- The input whose gain state a combined block has: that of P_ref under MRC, the one selected under SELECT
(notes/assumptions/112.md). -/
def gainSide (div : Nat) (r : Run) : List Side → Nat
  | [a, b] =>
    if !a.whole && (b.whole || a.run.isNone) then 1 else if !b.whole then 0
    else if badFlags a.flags != badFlags b.flags then (badFlags a.flags).toNat
    else if div = 1 then r.side.toNat
    else (let c := cnrPair r.ty a b; if c.1 < c.2 then 1 else 0)
  | _ => r.input

/-- The last sample before the next channel block; none is kept across a missing one. -/
def Run.lastSample (r : Run) : Cx :=
  match r.chan with
  | b :: _ => b.samples.getLastD ⟨0, 0⟩
  | [] => ⟨0, 0⟩

/-- The demodulator takes a channel block of these samples (R206 to R213). -/
def demodulate (p : Path) (sync : Bool) (gain : Nat → Gain) (tc : Nat) (b : ChanBlock) (r : Run) : ChanBlock × Run :=
  if r.ty = 1 then
    let m := discriminate r.lastSample b.samples
    let h := highPassRun r.hpIn r.hpOut m
    let d := stereoRun r.pll m
    ({ b with mpx := m, mono := h.1, diff := d.1 }, { r with hpIn := h.2.1, hpOut := h.2.2, pll := d.2 })
  else if r.ty = 0 then
    let c := carrierRun sync r.carrier r.lock (b.samples.zipIdx.map fun x => (x.1, gain (b.ts + x.2 * tc)))
    ({ b with mod := c.2.1, level := momentsOver p r.stages b.ts tc b.samples c.1 b.level.gain },
      { r with carrier := c.2.2.1, lock := c.2.2.2 })
  else (b, r)

/-- The level of a channel block in 0.1 dB re 1.0 with the shifts removed (R200). -/
def levelOf (m : Moments) : Int :=
  dbTenths (m.power * 4 ^ (-m.shifts).toNat) (64 * 2 ^ 46 * 4 ^ m.shifts.toNat)

/-- How far back the flags of channel samples are kept: beyond an RDS group of 88 ms. -/
def rdsMarkTicks : Nat := 2 ^ 30

/-- A run forgets what lies beyond every later window. -/
def Run.forget (r : Run) : Run :=
  { r with chan := r.chan.filter (fun b => decide (r.chanNext ≤ b.ts + histTicks)), pre := r.pre.take 8
           marks := r.marks.filter fun m => decide (r.chanNext ≤ m.hi + rdsMarkTicks) }

/-- A run notes the flags of a channel block. -/
def Run.mark (ts len flags : Nat) (r : Run) : Run :=
  if flags = 0 then r else { r with marks := ⟨ts, ts + len - 1, flags⟩ :: r.marks }

/-- The next channel block of a run of path n is formed: combined, demodulated, measured, its saturations counted (R186,
R198, R200, R203). -/
def chanStep (n : Nat) (x : Run × State) : Run × State :=
  let r := x.1
  let s := x.2
  let ts := r.chanNext
  let ctl := (s.dem n).ctlAt ts
  let tc := r.chanTout
  let c := chanVals n r s
  let sides := c.2.2.2.2
  let gone := goneOf sides
  let r1 := sideJudge (bitsOf ctl 7 6)
    { r with mixer := c.2.2.1, side := c.2.2.2.1, chanNext := ts + 64 * tc, owed := owedAfter sides } sides
  let fresh := (sides.filterMap fun a => a.run.map (·.fresh)).sum
  let slot := (sides.filterMap fun a => a.run.bind fun y => if y.fresh = 0 then none else some y.slot).getLastD 0
  let s1 := satCount n fresh slot s
  let warm := if ts < r.base + r.dly then 2 else 0
  match c.1 with
  | none => (({ r1 with chan := ⟨ts, c.2.1, true, [], {}, [], [], [], [], [], []⟩ :: r1.chan }.mark ts (64 * tc) (c.2.1 ||| 128)).forget, s1)
  | some l =>
    let g := gainSide (bitsOf ctl 7 6) r1 sides
    let b : ChanBlock := ⟨ts, c.2.1, gone.any id, l, momentsOver (s.path n) r.stages ts tc l [] ((s.input g).gainAt ts),
      sides.map fun a => a.run.map fun _ => a.level, [], [], [], [], gone⟩
    let d := demodulate (s.path n) (bitsOf ctl 5 4 == 1) (s.input g).gainAt tc b r1
    let s2 := levelMeasure n (c.2.1 ||| warm) (levelOf d.1.level) s1
    let s3 := if r.input = 2 && r.stop.isNone then s2.setB (DEMn_STAT_SIDE n) d.2.side else s2
    (({ d.2 with chan := d.1 :: d.2.chan }.mark ts (64 * tc) (c.2.1 ||| warm)).forget, s3)

/-- How many channel blocks are still to be formed for every sample up to an instant to exist. -/
def Run.chanCount (r : Run) (t : Nat) : Nat :=
  if t < r.chanNext then 0 else (t - r.chanNext) / (64 * r.chanTout) + 1

/-- The channel blocks with the samples up to an instant are formed. -/
def chanTo (n t : Nat) (x : Run × State) : Run × State :=
  (List.range (x.1.chanCount t)).foldl (fun y _ => chanStep n y) x

/-- The inputs of a run have been read as far as those channel blocks need. -/
def State.chanReady (s : State) (r : Run) (t : Nat) : Bool :=
  let k := r.chanCount t
  let need := r.chanNext + k * 64 * r.chanTout + stagesDelay r.stages + 46079 - r.chanTout
  k == 0 || (if r.input = 2 then (s.input 0).readTo need && (s.input 1).readTo need else (s.input r.input).readTo need)

/-- The run that path n shows forms its channel blocks up to an instant. -/
def chanForm (n t : Nat) (s : State) : State :=
  match (s.path n).runs.getLast? with
  | some r =>
    let x := chanTo n t (r, s)
    x.2.setPath n { x.2.path n with runs := (x.2.path n).runs.dropLast ++ [x.1] }
  | none => s

/-! ## The preset output -/

/-- Ticks by which the windows of FMR with DISC, or of AMR, reach beyond an output sample (R180). -/
def Run.reach (r : Run) : Nat := if r.ty = 1 then 744960 else if r.ty = 0 then 1925120 else 0

/-- Values of one output sample: two of an IQ or an FM path, one of an AM path. -/
def Run.width (r : Run) : Nat := if r.ty = 0 then 1 else 2

/-- Soft mute of a sample by G dB (R211). -/
def muted (g : Rat) (x : Int) : Int := if g = 0 then x else Config.quot 6 (x * (Config.amplitude (-g) : Nat)) (2 ^ 23)

/-- The de-emphasis of a code, given the input and the output before (R210). -/
def deemphasised (code : Nat) (x : Int) (prev : Int × Int) : Int :=
  if code = 0 then x else Config.deEmphasis code x prev.1 prev.2

/-- An FM sample: M and D leave FMR with the scale of R207 and the shift of slot SH5, then the matrix, de-emphasis and
soft mute (R181, R208 to R211).  The second part tells whether a value saturated in FMR, and after it. -/
def fmSample (p : Path) (d : Dem) (u : Nat) (mono diff : List (Nat × Int)) (r : Run) : (Int × Int) × (Nat × Bool) × Run :=
  let out := fun l => scaled (resampleAt 12 737280 u l * 128) (150 * 2 ^ 23) (p.shiftAt 5 u)
  let m := out mono
  let x := out diff
  let k := if bitsOf (d.ctlAt u) 3 2 = 1 then 0 else rampAt 0 u d.sep
  let code := bitsOf (d.ctlAt u) 1 0
  let mat := fun (sg : Int) => Config.quot 5 (satStream m * k.den + sg * k.num * satStream x) k.den
  let a := satStream (mat 1)
  let b := satStream (mat (-1))
  let l := deemphasised code a r.deL
  let q := deemphasised code b r.deR
  let g := rampAt 0 u d.mute
  let sat := (m != satStream m).toNat + (x != satStream x).toNat
  let late := mat 1 != a || mat (-1) != b
  ((satStream (muted g (satStream l)), satStream (muted g (satStream q))), (sat, late), { r with deL := (a, satStream l), deR := (b, satStream q) })

/-- The samples of an FM block at the preset output. -/
def fmBlock (p : Path) (d : Dem) (mono diff : List (Nat × Int)) (ts : Nat) (r : Run) : List Int × (Nat × Bool) × Run :=
  (List.range 64).foldl (fun a j =>
    let y := fmSample p d (ts + j * 81920) mono diff a.2.2
    (a.1 ++ [y.1.1, y.1.2], (a.2.1.1 + y.2.1.1, a.2.1.2 || y.2.1.2), y.2.2)) ([], (0, false), r)

/-- The samples of an AM block at the preset output: 0.5 (d / C - 1), soft mute (R211, R212). -/
def amBlock (d : Dem) (mod : List (Nat × Int)) (ts : Nat) : List Int × Bool :=
  let l := (List.range 64).map fun j =>
    let u := ts + j * 81920
    let x := scaled (resampleAt 13 1925120 u mod) (2 ^ 23) (-1)
    (satStream (muted (rampAt 0 u d.mute) (satStream x)), x != satStream x)
  (l.map (·.1), l.any (·.2))

/-- A channel block misses a sample of the instants from lo to hi (R198). -/
def ChanBlock.goneOver (b : ChanBlock) (tc lo hi : Nat) : Bool :=
  b.missing && (List.range 64).any fun j => b.gone.getD j true && decide (lo ≤ b.ts + j * tc) && decide (b.ts + j * tc ≤ hi)

/-- The block of a run at the preset output that follows (R182): it is missing where a channel sample within its windows
is, and carries the flags of the blocks it draws on (R14, R198). -/
def preStep (n : Nat) (x : Run × State) : Run × State :=
  let t := presetTout x.1.preset
  let ts := x.1.base + 64 * x.1.preNext * t
  let lo := ts - x.1.reach
  let hi := ts + 63 * t + x.1.reach
  let y := chanTo n hi x
  let r := y.1
  let s := y.2
  let tc := r.chanTout
  let l := r.chan.filter fun b => decide (b.ts ≤ hi) && decide (lo ≤ b.ts + 63 * tc)
  let flags := l.foldl (fun f b => f ||| b.flags) 0
  let put := fun (missing : Bool) (f : Nat) (v : List Int) (q : Run) =>
    { q with pre := ⟨ts, f, missing, v⟩ :: q.pre, preNext := q.preNext + 1 }
  if l.any fun b => b.goneOver tc lo hi then (put true flags [] r, s)
  else if r.ty = 1 then
    let z := fmBlock (s.path n) (s.dem n) (lineOf tc 7680 (·.mono) l) (lineOf tc 7680 (·.diff) l) ts r
    (put false (if z.2.1.1 = 0 && !z.2.1.2 then flags else flags ||| 64) z.1 z.2.2, satCount n z.2.1.1 5 s)
  else if r.ty = 0 then
    let z := amBlock (s.dem n) (lineOf tc 0 (·.mod) l) ts
    (put false (if z.2 then flags ||| 64 else flags) z.1 r, s)
  else (put false flags (l.flatMap fun b => b.samples.flatMap fun c => [c.re, c.im]) r, s)

/-! ## Output blocks -/

/-- The number of the last block at the preset output that output block m needs: itself, or the one with the last sample
of the resampler's windows (R188). -/
def Run.lastPre (r : Run) (m : Nat) : Nat :=
  if r.num = 0 then m else ((rsPosition r.num r.den (64 * m + 63)).1 + 16) / 64

/-- The first one. -/
def Run.firstPre (r : Run) (m : Nat) : Nat := if r.num = 0 then m else ((rsPosition r.num r.den (64 * m)).1 - 15) / 64

/-- The timestamp of output block m: its first sample instant rounded to the nearest tick (R182, R188). -/
def Run.tsOf (r : Run) (m : Nat) : Nat :=
  let t := 64 * m * presetTout r.preset
  if r.num = 0 then r.base + t else (roundEven ((r.base * r.num + t * r.den : Nat) : Int) r.num).toNat

/-- Value c of input sample i of the resampler; those before t_r are zero. -/
def Run.preSample (r : Run) (c : Nat) (i : Int) : Int :=
  if i < 0 then 0
  else match r.pre.find? fun b => b.ts == r.base + 64 * (i.toNat / 64) * presetTout r.preset with
    | some b => b.samples.getD (i.toNat % 64 * r.width + c) 0
    | none => 0

/-- The samples of output block m. -/
def Run.outSamples (r : Run) (m : Nat) : List Int :=
  if r.num = 0 then ((r.pre.find? fun b => b.ts == r.tsOf m).map (·.samples)).getD []
  else (List.range 64).flatMap fun j => (List.range r.width).map fun c => rsSample r.num r.den (64 * m + j) (r.preSample c)

/-- The inputs a run draws on. -/
def State.runInputs (s : State) (r : Run) : List Input := if r.input = 2 then [s.input 0, s.input 1] else [s.input r.input]

/-- Every input of a run carries STALE within the windows of a sample of this instant (R520). -/
def State.staleAt (s : State) (r : Run) (u : Nat) : Bool :=
  let d := stagesDelay r.stages + r.reach + 46080 + (if r.num = 0 then 0 else 16 * presetTout r.preset)
  (s.runInputs r).all fun i => i.hist.any fun b => b.flags.testBit 0 && decide (u ≤ b.ts + 63 + d) && decide (b.ts ≤ u + d)

/-- The samples of a STALE block: those that are STALE on every input repeat the last one output without STALE (R520). -/
def State.staleSamples (s : State) (n : Nat) (r : Run) (ts : Nat) (l : List Int) : List Int :=
  let keep := (s.path n).lastGood
  let t := (r.tsOf (r.out + 1) - ts) / 64
  (List.range 64).flatMap fun j => (List.range r.width).map fun c =>
    if s.staleAt r (ts + j * t) then keep.getD c 0 else l.getD (j * r.width + c) 0

/-- A pod of path n is not ACTIVE, or the path waits to be restarted after a load: its blocks are VOID (R167, R196). -/
def State.pathVoid (s : State) (n : Nat) : Bool :=
  (s.path n).lost || s.podsOut 1 n

/-- What path n misses will be recomputed before its block is due (R559): its pods, or a Leek's it draws on, are being
remapped. -/
def State.pathRecovers (s : State) (n : Nat) (r : Run) : Bool :=
  !(s.path n).lost && (s.recovering 1 n || (if r.input = 2 then s.recovering 0 0 || s.recovering 0 1 else s.recovering 0 r.input))

/-- When the earliest fault of the pods of path n that are being remapped was detected (R555, R559). -/
def State.gapFrom (s : State) (n : Nat) : Option Nat :=
  if !s.recovering 1 n then none
  else (((s.podsOf 1 n).filter fun p => s.getF (FAB_LPp_MAP_STATE p) != 0).map fun p => (s.pod p).faultAt).min?

/-- An output block ends 64 samples of warm-up, delivered or not; WARMUP reads 0 once the last one is past (R196). -/
def warmupPass (n : Nat) (s : State) : State :=
  let left := (s.path n).warmLeft - 64
  (s.setPath n { s.path n with warmLeft := left }).setB (PTHn_STAT_WARMUP n) (left != 0)

/-- The run at the head of path n becomes r; warm-up is that of the run the state shows. -/
def runPut (n : Nat) (r : Run) (s : State) : State :=
  let p := s.path n
  let s1 := s.setPath n { p with runs := { r with out := r.out + 1 } :: p.runs.tail }
  if p.runs.tail.isEmpty && r.stop.isNone then warmupPass n s1 else s1

/-- The release instant of the next output block of a run: its timestamp plus one block and PTHn_DLY
(notes/assumptions/110.md). -/
def Run.due (r : Run) : Nat := r.tsOf (r.out + 1) + r.dly

/-- Output block m of a run is missing: dropped, counted, and DROP goes on the next one (R198). -/
def outDrop (n : Nat) (r : Run) (s : State) : State :=
  let s1 := runPut n r (s.bump (PTHn_DROP_CNT n))
  s1.setPath n { s1.path n with dropNext := true, formed := (s1.path n).formed ++ [(r.due, none)] }

/-- An output block leaves the path, to be released at its timestamp plus the latency, once it is whole (R23, R196;
notes/assumptions/110.md).  A block that is VOID at its due instant while the path's pods are being remapped reaches the
programmes recomputed (R559): later gives its flags and samples then. -/
def outDeliver (n flags : Nat) (samples : List Int) (later : Option (Nat × List Int)) (r : Run) (s : State) : State :=
  let ts := r.tsOf r.out
  let own := (if 64 * r.out < r.dsmp then 2 else 0) ||| (if (s.path n).dropNext then 128 else 0)
  let f := flags ||| own
  let s1 := runPut n r s
  let p := s1.path n
  let good := if f.testBit 0 then p.lastGood else samples.drop (samples.length - r.width)
  let ramp := if 64 * r.out < r.dsmp && r.ty != 2 then [(r.due, 64 * r.out, r.dsmp)] else []
  let b : Block := ⟨ts, f, samples⟩
  let kept : Block := match later with | some q => ⟨ts, q.1 ||| own, q.2⟩ | none => b
  streamNote 2 n kept (obsBlock 0 n f (s1.setPath n { p with
    dropNext := false, lastGood := good, ramps := p.ramps ++ ramp, formed := p.formed ++ [(r.due, some b)] }))

/-- The samples of a block of which the pod had not completed those that reach the path's output from an instant on, 5 µs
before the detection of its fault: they are zeros (R559, R561). -/
def Run.cutFrom (r : Run) (fault : Nat) (l : List Int) : List Int :=
  let t := presetTout r.preset * (if r.num = 0 then 1 else r.den) / (if r.num = 0 then 1 else r.num)
  l.zipIdx.map fun x => if fault ≤ r.tsOf r.out + x.2 / r.width * t + r.dly + Config.ticksOfUs 5 then 0 else x.1

/-- The run whose block is next: one that has ended and whose blocks are all output is gone (R194). -/
def runHead (n : Nat) (s : State) : State :=
  let p := s.path n
  s.setPath n { p with runs := p.runs.dropWhile fun r => match r.stop with | some t => decide (t ≤ r.tsOf r.out) | none => false }

/-- The blocks at the preset output that output block m draws on (R182, R188). -/
def Run.outWindow (r : Run) (m : Nat) : List PreBlock :=
  r.pre.filter fun b => decide (r.base + 64 * r.firstPre m * presetTout r.preset ≤ b.ts)
    && decide (b.ts ≤ r.base + 64 * r.lastPre m * presetTout r.preset)

/-- The inputs have been read as far as output block m needs. -/
def State.outReady (s : State) (r : Run) (m : Nat) : Bool :=
  s.chanReady r (r.base + (64 * r.lastPre m + 63) * presetTout r.preset + r.reach)

/-- The next output block of path n is produced: from the samples of its windows, VOID while its pods are out, or
dropped where they take in a missing one (R167, R196, R198, R520). -/
def pathOutput (n : Nat) (s0 : State) : State :=
  let s := runHead n s0
  match (s.path n).runs with
  | [] => s
  | r0 :: _ =>
    if !s.outReady r0 r0.out || (s.pathRecovers n r0 && decide (s.now < r0.due)) then s0
    else
      let x := (List.range (r0.lastPre r0.out + 1 - r0.preNext)).foldl (fun y _ => preStep n y) (r0, s)
      let r := x.1
      let ts := r.tsOf r.out
      let l := r.outWindow r.out
      let flags := l.foldl (fun f b => f ||| b.flags) 0
      let v := r.outSamples r.out
      let w := if flags.testBit 0 then x.2.staleSamples n r ts v else v
      if x.2.pathVoid n then
        match (if l.any (·.missing) || (x.2.path n).lost then none else x.2.gapFrom n) with
        | some f => outDeliver n (flags ||| 8) (r.cutFrom f w) (some (flags, w)) r x.2
        | none => outDeliver n (flags ||| 8) (List.replicate (64 * r.width) 0) none r x.2
      else if l.any (·.missing) then outDrop n r x.2
      else outDeliver n flags w none r x.2

/-- PATH_OUTPUT_BLOCK. -/
def execPathOutputBlock (n : Nat) (s : State) : Host.Outcome State Fault Refusal :=
  .next (if n < 512 && !s.pwr.inReset then pathOutput n s else s)

/-! ## Metrics -/

/-- The reference level of blocks of a side over a window in 0.01 dB re 1.0, and the gain state it refers to: that of the
last block; a block of another state is scaled by the amplitude of the difference (R214; notes/assumptions/108.md). -/
def sideRssi (l : List Moments) : Int × Nat × Nat :=
  let g := (l.getLast?.map (·.gain)).getD ⟨true, 0⟩
  let sum := l.foldl (fun (a : Nat) m =>
    let k := (72 - m.shifts).toNat
    let d := m.gain.halfDb - g.halfDb
    let w : Nat := if d = 0 then 2 ^ 23 else Config.amplitude (mkRat (-d) 2)
    a + m.power * 4 ^ k * w ^ 2) 0
  (dbUnits 100 16 sum (l.length * 64 * 2 ^ 46 * 4 ^ 72 * 2 ^ 46), g.lna.toNat, g.att)

/-- 10 log10 of a ratio in units of 0.1 dB. -/
def ratioTenths (x : Nat × Nat) : Int := dbTenths x.1 x.2

/-- What the channel blocks of a window give (R214, R215): those with their first sample in it. -/
def measOf (r : Run) (l : List ChanBlock) (extra : Nat) : Meas :=
  let here := l.filter fun b => !b.missing
  let k := 64 * here.length
  let mpx := here.flatMap (·.mpx)
  let sum := mpx.sum
  let all := momentsSum (here.map (·.level))
  let side := fun a => here.filterMap fun b => (b.sides[a]?).join
  let mags := here.flatMap fun b => b.samples.map fun c => (Config.root (c.re * c.re + c.im * c.im).toNat : Nat)
  let m1 := mags.sum
  let m2 := (mags.map fun x => x * x).sum
  { flags := here.foldl (fun f b => f ||| b.flags) extra
    present := !here.isEmpty
    sides := if r.input = 2 then [sideRssi (side 0), sideRssi (side 1)] else [sideRssi (side 0)]
    cnr := ratioTenths (cnrOf r.ty k all)
    cnrA := ratioTenths (cnrOf r.ty (64 * (side 0).length) (momentsSum (side 0)))
    cnrB := ratioTenths (cnrOf r.ty (64 * (side 1).length) (momentsSum (side 1)))
    mpath := (Config.quot 8 (1000 * (Config.root (mags.length * m2 - m1 ^ 2) : Nat)) m1).toNat
    usn := ratioTenths (Config.noisePower mpx)
    foff := if r.ty = 1 then roundEven (sum * 128000) (2 ^ 23 * mpx.length) else roundEven (r.carrier.freq * 32000) (2 ^ 24)
    peak := if r.ty = 1
      then mpx.foldl (fun a x => max a (roundEven ((x * mpx.length - sum).natAbs * 1280 : Nat) (2 ^ 23 * mpx.length)).toNat) 0
      else (here.flatMap (·.mod)).foldl (fun a x => max a (roundEven (x * 1000) (2 ^ 23)).toNat) 0
    pilot := Config.pilotOf mpx
    amLock := r.lock }

/-- METRIC_WINDOW: the window that began at start ends, and the path computes its metrics from the channel blocks of the
window (R214, R215). -/
def metricWindowEnd (n start : Nat) (s : State) : State :=
  let stop := start + metricWindow
  match (s.path n).runs.getLast? with
  | none => s
  | some r0 =>
    if !s.pathRunning n || start % metricWindow != 0 || decide (start < (s.dem n).window) || decide (start < r0.base)
      || !s.chanReady r0 (stop - 1) then s
    else
      let s1 := chanForm n (stop - 1) (s.advance stop)
      let r := (s1.path n).runs.getLastD r0
      let l := (r.chan.filter fun b => decide (max start (s1.dem n).counted ≤ b.ts) && decide (b.ts < stop)).reverse
      metricEnd n start (measOf r l (if s1.pathVoid n then 8 else 0)) s1

/-- METRIC_WINDOW. -/
def execMetricWindow (n start : Nat) (s : State) : Host.Outcome State Fault Refusal :=
  .next (if n < 512 && !s.pwr.inReset then metricWindowEnd n start s else s)

end Sys2Proof.Machine
end

