-- ==== Sys2Proof/Machine/Rds.lean ====
section
/-! DEFINITION. RDS reception (spec/08 R219 to R223): blocks and their error classes, synchronisation, groups and their
records, and the PI. -/

namespace Sys2Proof.Machine

/-! ## Blocks -/

/-- The offset words of IEC 62106 (R219): A, B, C, C', D, E (PRESUMED, notes/assumptions/133.md). -/
def rdsOffset (k : Nat) : Nat := [0x0FC, 0x198, 0x168, 0x350, 0x1B4, 0].getD k 0

/-- A 26-bit word modulo the generator x^10 + x^8 + x^7 + x^5 + x^4 + x^3 + 1 of the shortened cyclic code (R219;
PRESUMED, notes/assumptions/133.md): the offset word where no bit is wrong. -/
def rdsMod (w : Nat) : Nat :=
  (List.range 16).foldl (fun r k => if r.testBit (25 - k) then r ^^^ (0x5B9 <<< (15 - k)) else r) w

/-- The bursts of a length within 26 bits. -/
def rdsBursts (len : Nat) : List Nat :=
  (List.range (2 ^ (len - 1))).flatMap fun m =>
    if m % 2 = 1 || len = 1 then (List.range (27 - len)).map fun p => (if len = 1 then 1 else 2 ^ (len - 1) + m) <<< p else []

/-- The shortest burst of at most five bits with a syndrome, with its length. -/
def rdsBurst (syn : Nat) : Option (Nat × Nat) :=
  [1, 2, 3, 4, 5].findSome? fun len => ((rdsBursts len).find? fun e => rdsMod e == syn).map fun e => (len, e)

/-- A word read as a block of an offset word: its error class and its word, corrected for classes 1 and 2 (R220,
R222). -/
def rdsRead (off w : Nat) : Nat × Nat :=
  let syn := rdsMod w ^^^ rdsOffset off
  if syn = 0 then (0, w)
  else match rdsBurst syn with
    | some (len, e) => (if len ≤ 2 then 1 else 2, w ^^^ e)
    | none => (3, w)

/-- A block as read for an offset word. -/
def rdsBlockOf (bit w t off : Nat) : RdsBlock := ⟨bit, (rdsRead off w).1, off, (rdsRead off w).2 / 1024, t⟩

/-- A block at a position of its group: at the third, as C or C', whichever has fewer errors. -/
def rdsAt (bit w t pos : Nat) : RdsBlock :=
  if pos = 2 then
    let a := rdsBlockOf bit w t 2
    let b := rdsBlockOf bit w t 3
    if b.cls < a.cls then b else a
  else rdsBlockOf bit w t (if pos = 3 then 4 else pos)

/-- A word without error for one of the offsets A to D: the block it is. -/
def rdsClean (bit w t : Nat) : Option RdsBlock :=
  ([0, 1, 2, 3, 4].find? fun k => rdsMod w == rdsOffset k).map fun k => ⟨bit, 0, k, w / 1024, t⟩

/-- Ticks of the 26 bits of a block at 1,187.5 bit/s (R219). -/
def rdsTicks : Nat := 26 * Config.ticksPerSecond * 2 / 2375

/-! ## Groups -/

/-- The position of an offset word in its group: A 0, B 1, C and C' 2, D 3. -/
def rdsPos (off : Nat) : Nat := if off ≤ 2 then off else if off = 3 then 2 else 3

/-- Put a truth value at the head of a window of k. -/
def pushWin (k : Nat) (b : Bool) (l : List Bool) : List Bool := (b :: l).take k

/-- RDS_SYNC changes, with its event (R220). -/
def rdsSyncSet (n : Nat) (b : Bool) (s : State) : State :=
  raise evRdsSync n (s.setB (DEMn_STAT_RDS_SYNC n) b)

/-- A PI reading (R223): the block A, of class 0, of a group. -/
def piReading (n pi : Nat) (s : State) : State :=
  let same := s.getF (DEMn_RDSQ_RUN n) != 0 && s.getF (DEMn_PI_CAND n) == pi
  let run := if same then min 4 (s.getF (DEMn_RDSQ_RUN n) + 1) else 1
  let s1 := (s.setF (DEMn_PI_CAND n) pi).setF (DEMn_RDSQ_RUN n) run
  if run < 4 then s1
  else if !s1.flag (DEMn_STAT_PI_CONF n) then (s1.setF (DEMn_PI_PI n) pi).setF (DEMn_STAT_PI_CONF n) 1
  else if s1.getF (DEMn_PI_PI n) = pi then s1
  else raise evPiChg n (s1.setF (DEMn_PI_PI n) pi)

/-- Block C of a group carried offset C'. -/
def groupCPrime (g : List RdsBlock) : Bool := (g[2]?.map (·.off)) == some 3

/-- The flags of the multiplex samples of path n between two instants (R14, R222). -/
def State.rdsFlags (s : State) (n lo hi : Nat) : Nat :=
  match (s.path n).runs.getLast? with
  | some r => spanFlags lo hi r.marks
  | none => 0

/-- The record of a group (R222). -/
def groupRec (n : Nat) (g : List RdsBlock) (seq : Nat) (s : State) : Rec :=
  let ts := (g.head?.map (·.t)).getD 0
  let flags := s.rdsFlags n ts ((g.getLast?.map (·.t)).getD 0 + rdsTicks)
  let err := g.foldl (fun e b => e * 4 + b.cls) 0
  let cP := groupCPrime g
  ⟨1, ts, flags, n,
    leNat 8 ts ++ leNat 2 flags ++ leNat 2 n
      ++ [err, cP.toNat * 128 + s.getF (DEMn_STAT_PI_CONF n) * 64 + s.getF (DEMn_CTL_RBDS n) * 32]
      ++ leNat 2 seq ++ g.flatMap fun b => leNat 2 b.data⟩

/-- The highest class that DELIV lets through (R221). -/
def delivMax (d : Nat) : Nat := if d = 0 then 1 else if d = 1 then 2 else 3

/-- The frequency of an AF code of group 0A: 87.5 MHz + code × 0.1 MHz for 1 to 204 (IEC 62106; PRESUMED,
notes/assumptions/115.md). -/
def afOf (code : Nat) : Option Nat := if 1 ≤ code && code ≤ 204 then some (87500000 + 100000 * code) else none

/-- The frequencies of two AF codes: the code 250 says that the other is one of the LF and MF bands. -/
def afPair (w : Nat) : List Nat := if w / 256 = 250 then [] else [w / 256, w % 256].filterMap afOf

/-- A group 0A adds the frequencies of its block C to the AF list of path n, and a group 14A those of the network its block
D names: an AF list with variant 4, mapped frequencies with variants 5 to 8 (R86, R219; notes/assumptions/115.md). -/
def afTake (n : Nat) (g : List RdsBlock) (s : State) : State :=
  match g with
  | [_, b, c, e] =>
    let d := s.dem n
    if b.cls = 3 || c.cls = 3 then s
    else if b.data / 2048 = 0 then s.setDem n { d with af := d.af ++ (afPair c.data).filter fun x => !d.af.contains x }
    else if b.data / 2048 = 28 && e.cls != 3 then
      let l := if b.data % 16 = 4 then afPair c.data
               else if 5 ≤ b.data % 16 && b.data % 16 ≤ 8 then (afOf (c.data % 256)).toList else []
      s.setDem n { d with eon := d.eon ++ (l.map fun x => (e.data, x)).filter fun x => !d.eon.contains x }
    else s
  | _ => s

/-- The two characters of a block. -/
def rdsChars (w : Nat) : List Nat := [w / 256, w % 256]

/-- A segment of a text is received: it takes the place of the one of its number. -/
def segPut (k : Nat) (l : List Nat) (segs : List (Nat × List Nat)) : List (Nat × List Nat) := (k, l) :: segs.filter fun x => x.1 != k

/-- The segments from number 0 on, as far as they have all come. -/
def segJoin (segs : List (Nat × List Nat)) : Nat → Nat → List Nat
  | 0, _ => []
  | n + 1, k => match segs.find? fun x => x.1 == k with | some x => x.2 ++ segJoin segs n (k + 1) | none => []

/-- A text of RT: what has come up to a carriage return, or all 16 segments (IEC 62106; PRESUMED,
notes/assumptions/115.md). -/
def rtComplete (size : Nat) (segs : List (Nat × List Nat)) : Option (List Nat) :=
  let l := segJoin segs 16 0
  if l.contains 13 then some (l.takeWhile (· != 13)) else if l.length = 16 * size then some l else none

/-- PS of groups 0A and 0B and RT of groups 2A and 2B are assembled by firmware, and a text that is complete and new becomes
a text record (R219, R344).  Segments are those of IEC 62106 (PRESUMED, notes/assumptions/115.md). -/
def rdsText (n : Nat) (g : List RdsBlock) (ts flags : Nat) (s : State) : State :=
  match g with
  | [_, b, c, e] =>
    let d := s.dem n
    let ty := b.data / 2048
    let out := fun (kind : Nat) (x : List Nat) (s : State) => emitRecIf (s.getF (PTHn_STAT_STATE n) == 2) (textRec kind 0 n 0 ts flags x) s
    if b.cls = 3 || e.cls = 3 || !s.firmwareOn 2 then s
    else if ty ≤ 1 then
      let segs := segPut (b.data % 4) (rdsChars e.data) d.psSeg
      let l := segJoin segs 4 0
      let s1 := s.setDem n { d with psSeg := segs, psText := if l.length = 8 then l else d.psText }
      if l.length = 8 && l != d.psText then out 0 l s1 else s1
    else if ty = 5 || (ty = 4 && c.cls != 3) then
      let ab := b.data / 16 % 2
      let size := if ty = 4 then 4 else 2
      let old := if ab = d.rtAb then d.rtSeg.filter fun x => x.2.length == size else []
      let segs := segPut (b.data % 16) ((if ty = 4 then rdsChars c.data else []) ++ rdsChars e.data) old
      let s1 := s.setDem n { d with rtSeg := segs, rtAb := ab, rtText := (rtComplete size segs).getD d.rtText }
      match rtComplete size segs with
      | some l => if l != d.rtText then out 1 l s1 else s1
      | none => s1
    else s
  | _ => s

/-- A group received in synchronisation is complete (R220 to R222): counted in SEQ, delivered or withheld. -/
def rdsGroup (n : Nat) (g : List RdsBlock) (s : State) : State :=
  let seq := ((s.dem n).seq + 1) % 65536
  let s1 := s.setDem n { s.dem n with seq := seq, group := [] }
  if g.all fun b => decide (b.cls ≤ delivMax (bitsOf (s.dem n).ctl 11 10)) then
    let r := groupRec n g seq s1
    let s2 := rdsText n g r.ts r.flags (emitRecIf (s.getF (PTHn_STAT_STATE n) == 2) r ((afTake n g s1).bump (DEMn_RDSCNT_GROUPS n)))
    ktRdsEntry n (g.map (·.data)) (r.bytes.getD 12 0) (groupCPrime g)
      (s2.flag (DEMn_STAT_PI_CONF n)) (excRdsPush n (g.map (·.data)) s2)
  else s1.bump (DEMn_RDSCNT2_DISC n)

/-- Place a block at its position of the group in progress; a group is complete with its block D (R220). -/
def groupStep (n : Nat) (b : RdsBlock) (s : State) : State :=
  let d := s.dem n
  let s1 := s.setDem n { d with pos := (d.pos + 1) % 4 }
  if d.pos = 0 then
    let s2 := s1.setDem n { s1.dem n with group := [b] }
    if b.cls = 0 then piReading n b.data s2 else s2
  else if d.group.length = d.pos then
    let g := d.group ++ [b]
    if d.pos = 3 then rdsGroup n g s1 else s1.setDem n { s1.dem n with group := g }
  else s1.setDem n { s1.dem n with group := [] }

/-- Synchronisation is lost (R220). -/
def rdsLose (n : Nat) (s : State) : State :=
  let s1 := (s.bump (DEMn_RDSCNT_SYNCLOSS n)).setDem n
    { s.dem n with cand := [], group := [], last50 := [], unsyncAt := s.now, bitAt := none }
  rdsSyncSet n false s1

/-- A block while synchronisation is held (R219 to R221): one with offset E is counted and breaks the group; any other is
read for its position, and counts towards synchronisation, BLER and the class counters.  A loss comes at the end of its
block, so a group complete with that block is received. -/
def rdsInSync (n bit w t : Nat) (s : State) : State :=
  let d := s.dem n
  if rdsMod w = rdsOffset 5 then
    (s.bump (DEMn_RDSCNT2_OFFE n)).setDem n { d with pos := (d.pos + 1) % 4, group := [] }
  else
    let b := rdsAt bit w t d.pos
    let bad := b.cls == 3
    let l50 := pushWin 50 bad d.last50
    let l160 := pushWin 160 bad d.last160
    let s1 := (s.setDem n { d with last50 := l50, last160 := l160 }).setF (DEMn_RDSQ_BLER n) (l160.count true)
    let s2 := if bad then s1.bump (DEMn_RDSBLK_BAD n) else if b.cls != 0 then s1.bump (DEMn_RDSBLK_CORR n) else s1
    let s3 := groupStep n b s2
    if 20 < l50.count true then rdsLose n s3 else s3

/-- Two blocks without error are an acquiring pair: 26 bits apart, offsets following one another (R220). -/
def rdsPair (a b : RdsBlock) : Bool := a.bit + 26 == b.bit && (rdsPos a.off + 1) % 4 == rdsPos b.off

/-- A block while out of synchronisation (R220): it pairs with a block 26 bits earlier, or waits to be paired. -/
def rdsAcquire (n bit w t : Nat) (s : State) : State :=
  match rdsClean bit w t with
  | none => s
  | some b =>
    let d := s.dem n
    match d.cand.find? (fun a => rdsPair a b) with
    | some a =>
      let s1 := s.setDem n { d with cand := [], group := [], last50 := [false, false],
                                    last160 := pushWin 160 false (pushWin 160 false d.last160), pos := rdsPos a.off }
      let s2 := rdsSyncSet n true (s1.setF (DEMn_RDSQ_BLER n) ((s1.dem n).last160.count true))
      groupStep n b (groupStep n a s2)
    | none => s.setDem n { d with cand := b :: d.cand.filter fun a => decide (b.bit < a.bit + 26) }

/-- The demodulator has the multiplex of the block, so that it can have been received. -/
def State.rdsHeard (s : State) (n t : Nat) : Bool :=
  match (s.path n).runs.getLast? with
  | some r => s.chanReady r (t + rdsTicks)
  | none => false

/-- A block received in synchronisation follows the last one 26 bits on, and by the time of so many bits within 5 µs,
across a gap as well (R220, R222). -/
def State.rdsTimed (s : State) (n bit t : Nat) : Bool :=
  match (s.dem n).bitAt with
  | some (b, u) =>
    bit == b + 26 && decide (t ≤ u + rdsTicks + Config.ticksOfUs 5) && decide (u + rdsTicks ≤ t + Config.ticksOfUs 5)
  | none => true

/-- RDS_BLOCK: 26 bits of the bit stream of an FM path whose decoder is enabled, from bit number bit on, whose first bit
lies at the aerial instant t (R219 to R223). -/
def rdsBlock (n bit w t : Nat) (s : State) : State :=
  if !(s.pathRunning n && s.getF (PTHn_CTL_TYPE n) == 1 && s.flag (DEMn_CTL_RDS n) && s.rdsHeard n t
      && s.rdsTimed n bit t) then s
  else
    let s0 := chanForm n (t + rdsTicks) s
    let s1 := if s0.flag (DEMn_STAT_RDS_SYNC n) then rdsInSync n bit w t s0 else rdsAcquire n bit w t s0
    let s2 := if s1.flag (DEMn_STAT_RDS_SYNC n) then s1.setDem n { s1.dem n with bitAt := some (bit, t) } else s1
    if n < 4 then ktMirror n s2 else s2

/-- RDS_BLOCK. -/
def execRdsBlock (n bit word t : Nat) (s : State) : Host.Outcome State Fault Refusal :=
  .next (if n < 512 && decide (word < 67108864) then rdsBlock n bit word t s else s)

/-- PI_TIMEOUT: RDS_SYNC has been 0 for 2 s at t (R223). -/
def execPiTimeout (n t : Nat) (s : State) : Host.Outcome State Fault Refusal :=
  let s1 := s.advance t
  .next (if n < 512 && s1.flag (DEMn_STAT_PI_CONF n) && !s1.flag (DEMn_STAT_RDS_SYNC n)
      && decide ((s1.dem n).unsyncAt + 2 * Config.ticksPerSecond ≤ s1.now) then
    let s2 := raise evPiChg n ((s1.setF (DEMn_STAT_PI_CONF n) 0).setF (DEMn_PI_PI n) 0)
    if n < 4 then ktMirror n s2 else s2
  else s)

end Sys2Proof.Machine
end

