-- ==== Sys2Proof/Machine/Dab.lean ====
section
/-! DEFINITION. Ensemble slots and audio decoders (spec/09 R229 to R246), and the end of a deferral for paths and
decoders (spec/10 R275). -/

namespace Sys2Proof.Machine

/-- What an unlisted slot and an unlisted decoder hold. -/
def slotNone (_ : Nat) : Slot := {}

/-- What an unlisted decoder holds. -/
def decNone (_ : Nat) : Decoder := {}

/-- Slot n beside its registers. -/
def State.slot (s : State) (n : Nat) : Slot := sget slotNone s.slots n

/-- Replace slot n. -/
def State.setSlot (n : Nat) (v : Slot) (s : State) : State := { s with slots := sset slotNone n v s.slots }

/-- Decoder d beside its registers. -/
def State.decoder (s : State) (d : Nat) : Decoder := sget decNone s.decs d

/-- Replace decoder d. -/
def State.setDecoder (d : Nat) (v : Decoder) (s : State) : State := { s with decs := sset decNone d v s.decs }

/-- ENSs_STAT.STATE (R231). -/
def State.slotState (s : State) (n : Nat) : Nat := s.getF (ENSs_STAT_STATE n)

/-- DECd_STAT.STATE (R238). -/
def State.decState (s : State) (d : Nat) : Nat := s.getF (DECd_STAT_STATE d)

/-- The slot receives in LOCKED, a deferred stop included. -/
def State.slotLocked (s : State) (n : Nat) : Bool :=
  s.slotState n == 3 || (s.slotState n == 4 && (s.slot n).lockedDefer)

/-- Decoders that are not STOPPED. -/
def State.liveDecs (s : State) : List Nat :=
  (s.touched (DECd_STAT 0) 0x20 128).filter fun d => s.decState d != 0

/-- Decoders not STOPPED on slot n. -/
def State.decsOn (s : State) (n : Nat) : List Nat := s.liveDecs.filter fun d => s.getF (DECd_CTL_SLOT d) == n

/-- DAB_USE (R246). -/
def dabUse (s : State) : State :=
  let locked := (s.touched (ENSs_STAT 0) 0x40 48).filter fun n => s.slotState n == 3
  let run := s.liveDecs.filter fun d => s.decState d == 2
  (s.setF DAB_USE_ENS_LOCK locked.length).setF DAB_USE_DEC_RUN run.length

/-! ## Decoders -/

/-- The sub-channel a decoder names, in the organisation of its slot. -/
def State.decSub (s : State) (d : Nat) : Option SubCh :=
  ((s.slot (s.getF (DECd_CTL_SLOT d))).org.getD []).find? fun c => c.id == s.getF (DECd_CTL_SUBCH d)

/-- The codec of an ASCTy: 1 Layer II, 2 DAB+, 0 neither (R238). -/
def codecOf (ascTy : Nat) : Nat := if ascTy = 0 then 1 else if ascTy = 63 then 2 else 0

/-- The lowest-numbered reason for which decoder d waits (R238). -/
def State.waitReason (s : State) (d : Nat) : Nat :=
  let n := s.getF (DECd_CTL_SLOT d)
  if !s.slotLocked n then 1
  else if (s.slot n).org.isNone then 2
  else match s.decSub d with
    | none => 3
    | some c =>
      if s.getF (DECd_CTL_CODEC d) != 0 && s.getF (DECd_CTL_CODEC d) != codecOf c.ascTy then 4
      else if !c.supported || codecOf c.ascTy == 0 then 5
      else 0

/-- WAIT of a waiting decoder follows its reasons (R238). -/
def decShow (d : Nat) (s : State) : State :=
  if s.decState d = 1 then s.setF (DECd_STAT_WAIT d) (s.waitReason d) else s

/-- WAIT of every decoder on slot n. -/
def decShowOn (n : Nat) (s : State) : State := forEach (s.decsOn n) decShow s

/-- The registers that describe a running decoder go back to reset. -/
def decFields (d : Nat) (s : State) : State :=
  let s1 := ((s.setF (DECd_STAT_WARMUP d) 0).setF ⟨DECd_STAT d, 24, 20⟩ 0).wr (DECd_FMT d) 0
  s1.wr (DECd_LAT d) 0

/-- A decoder goes from RUNNING to WAITING, with DEC_WAIT (R238); a STOP that waits for its boundary still does. -/
def decToWait (d : Nat) (s : State) : State :=
  if s.decState d = 2 then
    let s1 := (decFields d (s.setF (DECd_STAT_STATE d) 1)).setDecoder d { s.decoder d with warmLeft := 0, fails := [], pad := {} }
    dabUse (raise evDecWait d (decShow d s1))
  else decShow d s

/-- FOL_USE.DEC_OWNED: decoders with OWNER = 1 (R278). -/
def ownedShow (s : State) : State := s.setF FOL_USE_DEC_OWNED (s.liveDecs.filter fun d => s.flag (DECd_CTL_OWNER d)).length

/-- A decoder is STOPPED; OWNER clears (R246). -/
def decStopped (d : Nat) (s : State) : State :=
  let s1 := ((decFields d (s.setF (DECd_STAT_STATE d) 0)).setF (DECd_STAT_WAIT d) 0).setDecoder d {}
  ownedShow (dabUse (s1.setF (DECd_CTL_OWNER d) 0))

/-- Checks on a write to a register of decoder d by master m (R245, R246, R238). -/
def decGuard (m : Master) (d : Nat) (f : State → State) (s : State) : State :=
  if s.hdr.dec ≤ d then refuse DAB_REFUSE codeReserved s
  else if s.flag (DECd_CTL_OWNER d) && m != .core 1 then refuseInst (DECd_STAT d) codeOwned s
  else f s

/-- START of decoder d by master m (R238); its windows of 100 frames and superframes start empty. -/
def decStart (m : Master) (d : Nat) (s : State) : State :=
  if s.decState d != 0 then refuseInst (DECd_STAT d) codeWrongState s
  else
    let s1 := ((s.setF (DECd_STAT_STATE d) 1).setB (DECd_CTL_OWNER d) (m = .core 1)).wr (DECd_QUAL d) 0
    decShow d (s1.setDecoder d {})

/-- STOP of decoder d (R238): a running or waiting decoder stops at the next output-block boundary, and a running one
that feeds a running cross-fade is DEFERRED, so that DECd_LAT reads 0 (R246). -/
def decStop (d : Nat) (s : State) : State :=
  if s.decState d = 2 && s.inFade 2 d then deferMark 2 d ((s.setF (DECd_STAT_STATE d) 3).wr (DECd_LAT d) 0)
  else if (s.decState d = 1 || s.decState d = 2) && (s.decoder d).change != .stop then
    s.setDecoder d { s.decoder d with change := .stop, due := ceilTo Config.audioBlock (s.now + 1) }
  else s

/-- A write of w to DECd_CMD by master m. -/
def decCmd (m : Master) (d w : Nat) (s : State) : State :=
  let c := bitsOf w 1 0
  if c = 0 then s else if c = 1 then decStart m d s else if c = 2 then decStop d s
  else refuseInst (DECd_STAT d) codeReserved s

/-- A write of w to DECd_CTL (R238, R246). -/
def decCtlWrite (d : Nat) (w : Word) (s : State) : State :=
  if s.decState d != 0 && regPut (DECd_CTL d) w s != s then refuseInst (DECd_STAT d) codeWrongState s
  else if !regOk (DECd_CTL d) w || decide (s.hdr.ens ≤ bitsOf w.toNat 21 16) then
    refuseInst (DECd_STAT d) codeReserved s
  else regPut (DECd_CTL d) w s

/-- DEC_START. -/
def execDecStart (m : Master) (d : Nat) (s : State) : Host.Outcome State Fault Refusal :=
  .next (if d < 128 then gated m (DECd_CMD d) 1 (decGuard m d (decCmd m d 1)) s else s)

/-- DEC_STOP. -/
def execDecStop (m : Master) (d : Nat) (s : State) : Host.Outcome State Fault Refusal :=
  .next (if d < 128 then gated m (DECd_CMD d) 2 (decGuard m d (decCmd m d 2)) s else s)

/-! ## The timeline of a slot -/

/-- Ticks of a CIF, and of a transmission frame of four (R239). -/
def cifTicks : Nat := 94371840

/-- Ticks of a transmission frame: 196,608 samples at 2.048 MS/s (R232). -/
def frameTicks : Nat := 377487360

/-- Ticks from the null-symbol start to the end of the PRS, and to the end of the FIC symbols (R229, R233). -/
def headTicks : Nat := 9999360
def ficTicks : Nat := 24698880

/-- Ticks of the 18 MSC symbols of a CIF. -/
def mscTicks : Nat := 88197120

/-- The start of the frame of slot n nearest to an instant, by its measured null symbol where it was received. -/
def State.frameNear (s : State) (n t : Nat) : Nat :=
  match (s.slot n).frames.find? fun f => decide (f.1 ≤ t + frameTicks / 2) && decide (t ≤ f.1 + frameTicks / 2) with
  | some f => f.1
  | none => t

/-- The frame of slot n that holds a CIF, with its start. -/
def State.frameOf (s : State) (n cif : Nat) : Option Nat :=
  ((s.slot n).frames.find? fun f => f.2 / 4 == cif / 4).map (·.1)

/-- The instant of CIF number q counted from the first of the frame that starts at f (R239): its frame, and a quarter of
the measured frame period for each CIF before it. -/
def State.cifInstant (s : State) (n f q : Nat) : Nat :=
  let a := s.frameNear n (f + q / 4 * frameTicks)
  a + q % 4 * (s.frameNear n (a + frameTicks) - a) / 4

/-- The CIF reference instant t(n) of a CIF (R239). -/
def State.cifAt (s : State) (n cif : Nat) : Option Nat := (s.frameOf n cif).map fun f => s.cifInstant n f (cif % 4)

/-! ## Flags across the de-interleaving span -/

/-- The inputs slot n draws on (R230). -/
def State.slotInputs (s : State) (n : Nat) : List Input :=
  let a := s.getF (ENSs_CTL_INPUT n)
  if a = 2 then [s.input 0, s.input 1] else [s.input a]

/-- What reaches a sample of the DAB_2048 output from these inputs over some instants: the windows of the Leek, JOIN and
DEC2 are 90,240 ticks to either side (R180, R183). -/
def slotMarks (l : List Input) (lo hi : Nat) : List Nat := l.map fun i => i.markOver (lo - 90240) (hi + 90240)

/-- The flags that what is derived from the samples of slot n between two instants carries (R14, R233); a missing sample
is told by DROP. -/
def State.slotFlags (s : State) (n lo hi : Nat) : Nat :=
  let f := (slotMarks (s.slotInputs n) lo hi).foldl (fun a x => a ||| x) (s.voidFlag 2 n lo hi)
  f % 256 ||| (if f.testBit 8 then 128 else 0)

/-- A sample of a bin-block interval is an erasure: missing, VOID or STALE, on both sides where there are two (R233,
R234; notes/assumptions/131.md). -/
def State.slotErased (s : State) (n k : Nat) : Bool :=
  s.voidOver 2 n (k * binBlock) (k * binBlock + binBlock - 1)
    || (slotMarks (s.slotInputs n) (k * binBlock) (k * binBlock + binBlock - 1)).all fun x => (x &&& 265) != 0

/-- The bin-block intervals with an erasure among those that begin up to the end of the frame at ts and were not judged
with a frame before it: each interval is counted once (R233). -/
def State.frameErasures (s : State) (n ts : Nat) : Nat :=
  let k := (((s.slot n).erasedTo.getD ts) + binBlock - 1) / binBlock
  (List.range ((ts + frameTicks + binBlock - 1) / binBlock - k)).countP fun j => s.slotErased n (k + j)

/-- The intervals up to the end of the frame at ts have been judged. -/
def eraseNote (n ts : Nat) (s : State) : State :=
  s.setSlot n { s.slot n with erasedTo := some (max ((s.slot n).erasedTo.getD 0) (ts + frameTicks)) }

/-- The flags that CIF number q, counted from the first of the frame that starts at f, gives what draws on it: those of
its MSC symbols, and of the null symbol and PRS of its frame (R233). -/
def State.cifFlags (s : State) (n f q : Nat) : Nat :=
  let a := s.frameNear n (f + q / 4 * frameTicks)
  let m := a + ficTicks + q % 4 * mscTicks
  s.slotFlags n a (a + headTicks - 1) ||| s.slotFlags n m (m + mscTicks - 1)

/-- The flags of the logical frames of the CIFs from number q on, as many as given: each draws on its own CIF and the 15
after it (R233). -/
def State.logicalFlags (s : State) (n f q count : Nat) : Nat :=
  (List.range (count + 15)).foldl (fun a j => a ||| s.cifFlags n f (q + j)) 0

/-- The latest frame of a slot that starts at or before an instant. -/
def State.frameBefore (s : State) (n u : Nat) : Option (Nat × Nat) := (s.slot n).frames.find? fun f => decide (f.1 ≤ u)

/-- The flags of the audio of decoder d at the instants from lo to hi: those of the audio frames or superframes that its
interpolator draws on there (R233, R239). -/
def State.audioFlags (s : State) (d lo hi : Nat) : Nat :=
  let n := s.getF (DECd_CTL_SLOT d)
  let lo := lo - 16 * 81920
  let hi := hi + 16 * 81920
  match s.frameBefore n lo with
  | none => s.slotFlags n lo (hi + 16 * cifTicks)
  | some f =>
    let dabPlus := s.getF (DECd_FMT_CODEC_ACT d) == 2
    let q := fun u => (u - f.1) / cifTicks
    let back := fun k => if dabPlus then (f.2 + k) % 5000 % 5 else 0
    let a := f.1 + q lo * cifTicks - back (q lo) * cifTicks + cifTicks / 2
    let g := ((s.frameBefore n a).map (·.1)).getD (a - cifTicks / 2)
    s.logicalFlags n g ((a - g) / cifTicks)
      (q hi + back (q lo) + (if dabPlus then 5 - back (q hi) else 1) - q lo)

/-- The timestamp of the first block of a decoder whose first decoded sample lies at an instant: the first whole block at
or after it (R239). -/
def firstBlock (t : Nat) : Nat := ceilTo Config.audioBlock t

/-- DEC_RUN: a waiting decoder without a reason to wait, whose first decoded frame or superframe begins in a CIF, releases
its first block (R238 to R241). -/
def decRun (d cif : Nat) (stereo sbr ps : Bool) (core : Nat) (s : State) : State :=
  match s.decSub d, s.cifAt (s.getF (DECd_CTL_SLOT d)) cif with
  | some c, some t0 =>
    let lat := decLatency (codecOf c.ascTy)
    let ts := firstBlock t0
    let s0 := s.advance (ts + lat)
    if s.decState d = 1 && (s.decoder d).change = .none && s.waitReason d = 0 && (codecOf c.ascTy == 1 || cif % 5 == 0) && s0.now = ts + lat then
      let s1 := ((s0.setF (DECd_STAT_STATE d) 2).setF (DECd_STAT_WAIT d) 0).setF (DECd_STAT_WARMUP d) 1
      let s2 := (((s1.setB (DECd_STAT_STEREO d) stereo).setF (DECd_STAT_CORE d) core).setB (DECd_STAT_SBR d) sbr).setB
        (DECd_STAT_PS d) ps
      let s3 := ((s2.setF (DECd_FMT_CODEC_ACT d) (codecOf c.ascTy)).setF (DECd_FMT_SIZE_CU d) c.size).setF
        (DECd_FMT_BITRATE d) c.rate
      let s4 := (s3.setF (DECd_LAT_TICKS d) lat).setDecoder d { s3.decoder d with warmLeft := 1152, runAt := ts, fails := [] }
      dabUse (raise evDecRun d s4)
    else s
  | _, _ => s

/-- DEC_WAIT: a running decoder for which a reason of R238 holds goes to WAITING. -/
def execDecWait (d : Nat) (s : State) : Host.Outcome State Fault Refusal :=
  .next (if d < 128 && s.decState d = 2 && s.waitReason d != 0 then decToWait d s else s)

/-- Access units of a DAB+ superframe by its core rate: 2 at 16 kHz, 3 at 24, 4 at 32 and 6 at 48 (ETSI TS 102 563;
PRESUMED, notes/assumptions/134.md). -/
def auCount (core : Nat) : Nat := [2, 3, 4, 6].getD core 6

/-- The instants of an audio frame, an access unit or a superframe of decoder d that begins in a CIF (R239, R242). -/
def State.audioSpan (s : State) (d cif au : Nat) (sf : Bool) : Option (Nat × Nat) :=
  let n := s.getF (DECd_CTL_SLOT d)
  (s.frameOf n cif).map fun f =>
    let a := s.cifInstant n f (cif % 4)
    if s.getF (DECd_FMT_CODEC_ACT d) = 2 then
      let b := s.cifInstant n f (cif % 4 + 5)
      let k := auCount (s.getF (DECd_STAT_CORE d))
      if sf then (a, b) else (a + au * (b - a) / k, a + (au + 1) * (b - a) / k)
    else (a, s.cifInstant n f (cif % 4 + 1))

/-- A run of concealed audio joins the one it continues. -/
def failPush (r : Nat × Nat) (l : List (Nat × Nat)) : List (Nat × Nat) :=
  match l with
  | q :: t => if r.1 ≤ q.2 then (q.1, max q.2 r.2) :: t else (r :: q :: t).take 64
  | [] => [r]

/-- An access unit number names one of the codec's: a Layer II frame is whole (R242). -/
def State.auNamed (s : State) (d : Nat) (sf : Bool) (au : Nat) : Bool :=
  sf || (if s.getF (DECd_FMT_CODEC_ACT d) = 2 then decide (au < auCount (s.getF (DECd_STAT_CORE d))) else au == 0)

/-- A window of the last 100 after this many good ones, of which those released have entered it already: the window and
the balance (R246). -/
def goodPush (good : Nat) (bal : Int) (w : List Bool) : List Bool × Int :=
  let n := good - bal.toNat
  ((List.replicate (min n 100) false ++ w).take 100, min bal 0 - n)

/-- Firmware tells Fennel of a frame of decoder d (R244). -/
def decReport (d : Nat) (concealed : Bool) (rs : Nat) (s : State) : State :=
  let n := s.getF (DECd_CTL_SLOT d)
  s.setDecoder d { s.decoder d with report := ⟨concealed, rs, s.getI (ENSs_LVL_MER n), s.getF (ENSs_FIC_FIBBAD n)⟩ }

/-- DEC_CONCEAL: after this many good frames or superframes, with rs superframes corrected among them, the frame, access
unit or superframe that begins in a CIF fails and is concealed (R242); an access unit beyond the codec's is none, and what
is told is the good ones alone (notes/assumptions/152.md). -/
def decConceal (d : Nat) (sf : Bool) (cif au good rs : Nat) (s : State) : State :=
  if !(s.decState d = 2 || s.decState d = 3) then s
  else
    let bad := s.auNamed d sf au
    let v := s.decoder d
    let w := goodPush good (if sf then v.sfBal else v.errBal) (if sf then v.sfs else v.errs)
    let l := if bad then (true :: w.1).take 100 else w.1
    let fails := match s.audioSpan d cif au sf with | some r => if bad then failPush r v.fails else v.fails | none => v.fails
    let s1 := decReport d bad rs (s.bumpBy (DECd_CNT_RSCORR d) rs)
    let v1 := s1.decoder d
    if sf then (s1.setDecoder d { v1 with sfs := l, sfBal := w.2, fails := fails }).setF (DECd_QUAL_SFFAIL d) (l.count true)
    else
      let now25 := decide (v.errs.count true < 25) && decide (25 ≤ l.count true)
      let from_ := if now25 then ((s.audioSpan d cif au sf).map (·.1)).getD s.now else v.errFrom
      let s2 := if bad then s1.bump (DECd_CNT_CONCEAL d) else s1
      (s2.setDecoder d { v1 with errs := l, errBal := w.2, fails := fails, errFrom := from_ }).setF
        (DECd_QUAL_ERR d) (l.count true)

/-- A window after a good frame has been released: it enters unless a report has brought it. -/
def goodRelease (bal : Int) (w : List Bool) : List Bool × Int :=
  (if bal < 0 then w else (false :: w).take 100, bal + 1)

/-- The frame, access unit or superframe of this length that ends with the block of timestamp ts is good. -/
def Decoder.goodEnds (v : Decoder) (ts dur : Nat) : Bool :=
  (ts + Config.audioBlock - v.runAt) % dur == 0 && !(v.fails.any fun r => decide (r.1 ≤ ts) && decide (ts < r.2))

/-- The block of decoder d of timestamp ts is released: the good frame and the good superframe that end with it enter the
windows of the last 100, and Fennel is told of the frame (R244, R246). -/
def decGood (d ts : Nat) (s : State) : State :=
  let v := s.decoder d
  let plus := s.getF (DECd_FMT_CODEC_ACT d) == 2
  let dur := if plus then 5 * cifTicks / auCount (s.getF (DECd_STAT_CORE d)) else cifTicks
  let s1 := if v.goodEnds ts dur then
      let w := goodRelease v.errBal v.errs
      decReport d false 0 ((s.setDecoder d { v with errs := w.1, errBal := w.2 }).setF (DECd_QUAL_ERR d) (w.1.count true))
    else s
  if plus && v.goodEnds ts (5 * cifTicks) then
    let w := goodRelease v.sfBal v.sfs
    (s1.setDecoder d { s1.decoder d with sfs := w.1, sfBal := w.2 }).setF (DECd_QUAL_SFFAIL d) (w.1.count true)
  else s1

/-- DEC_CONCEAL. -/
def execDecConceal (d : Nat) (superframe : Bool) (cif au good rs : Nat) (s : State) : Host.Outcome State Fault Refusal :=
  .next (if d < 128 then decConceal d superframe cif au good rs s else s)

/-! ## Slots -/

/-- Checks on a write to a register of slot n (R245). -/
def ensGuard (n : Nat) (f : State → State) (s : State) : State :=
  if s.hdr.ens ≤ n then refuse DAB_REFUSE codeReserved s else f s

/-- A decoder on slot n feeds a running cross-fade (R231). -/
def State.slotInFade (s : State) (n : Nat) : Bool := (s.decsOn n).any fun d => s.inFade 2 d

/-- START of slot n (R231). -/
def ensStart (n : Nat) (s : State) : State :=
  if s.slotState n != 0 then refuseInst (ENSs_STAT n) codeWrongState s
  else (s.setF (ENSs_STAT_STATE n) 1).setSlot n { change := .start, due := s.changeDue }

/-- A stop or a resynchronisation of slot n is asked for (R231): at the first release instant from 1 µs on, which may be
later than that of a resynchronisation asked for before; a slot that is to stop stays so. -/
def slotAsk (n : Nat) (c : Change) (s : State) : State :=
  let v := s.slot n
  let d := s.changeDue
  if v.change = .none then s.setSlot n { v with change := c, due := d }
  else if v.change = .stop then s
  else if releaseAt v.due = releaseAt d then s.setSlot n { v with change := c }
  else if (v.later.map (·.1)) = some .stop then s
  else s.setSlot n { v with later := some (c, d) }

/-- STOP of slot n (R231). -/
def ensStop (n : Nat) (s : State) : State :=
  let st := s.slotState n
  if st = 1 then (s.setF (ENSs_STAT_STATE n) 0).setSlot n {}
  else if st = 2 || st = 3 then
    if s.slotInFade n then
      forEach (s.decsOn n) (deferMark 2)
        ((s.setF (ENSs_STAT_STATE n) 4).setSlot n { s.slot n with lockedDefer := st == 3 })
    else slotAsk n .stop s
  else s

/-- RESYNC of slot n (R231). -/
def ensResync (n : Nat) (s : State) : State :=
  if s.slotState n = 2 || s.slotState n = 3 then slotAsk n .sync s
  else refuseInst (ENSs_STAT n) codeWrongState s

/-- A write of w to ENSs_CMD. -/
def ensCmd (n w : Nat) (s : State) : State :=
  let c := bitsOf w 2 0
  if c = 0 then s else if c = 1 then ensStart n s else if c = 2 then ensStop n s else if c = 4 then ensResync n s
  else refuseInst (ENSs_STAT n) codeReserved s

/-- A write of ENSs_CMD by master m. -/
def ensCmdWrite (m : Master) (n w : Nat) (s : State) : State := gated m (ENSs_CMD n) w (ensGuard n (ensCmd n w)) s

/-- A write of w to ENSs_CTL, ENSs_BIN or ENSs_NCO at address a (R230). -/
def ensCfgWrite (n a : Nat) (w : Word) (s : State) : State :=
  if s.slotState n != 0 && regPut a w s != s then refuseInst (ENSs_STAT n) codeWrongState s
  else if !regOk a w then refuseInst (ENSs_STAT n) codeReserved s
  else if a = ENSs_CTL n && bitsOf w.toNat 9 8 = 2 && !s.feat 12 then refuseInst (ENSs_STAT n) codeNotLocked s
  else regPut a w s

/-- ENS_START. -/
def execEnsStart (m : Master) (n : Nat) (s : State) : Host.Outcome State Fault Refusal :=
  .next (if n < 48 then ensCmdWrite m n 1 s else s)

/-- ENS_STOP. -/
def execEnsStop (m : Master) (n : Nat) (s : State) : Host.Outcome State Fault Refusal :=
  .next (if n < 48 then ensCmdWrite m n 2 s else s)

/-- RESYNC. -/
def execEnsResync (m : Master) (n : Nat) (s : State) : Host.Outcome State Fault Refusal :=
  .next (if n < 48 then ensCmdWrite m n 4 s else s)

/-- The slot leaves LOCKED: FIC_OK and EID.VALID clear, the organisation is to be read again, and Fennel's information from
it is empty (R232, R238, R244); lostAt tells the end of what was received (R260). -/
def slotUnlock (n : Nat) (s : State) : State :=
  let last := match (s.slot n).frames with | f :: _ => f.1 | [] => s.now
  let s1 := ((s.setF (ENSs_STAT_FIC_OK n) 0).setF (ENSs_EID_VALID n) 0).setSlot n
    { s.slot n with org := none, lockedDefer := false, lostAt := last + frameTicks }
  { s1 with fol := { s1.fol with info := s1.fol.info.filter fun q => q.1 != n } }

/-- SLOT_RELEASE_INSTANT: the change of slot n that is due takes place at the release instant t (R231). -/
def slotInstant (n t : Nat) (s : State) : State :=
  let v := s.slot n
  if t % Config.releasePeriod != 0 || decide (t < v.due) then s
  else match v.change with
    | .none => s
    | .start => (s.setF (ENSs_STAT_STATE n) 2).setSlot n {}
    | .sync =>
      let s1 := (slotUnlock n s).setF (ENSs_STAT_STATE n) (if s.slotState n = 4 then 4 else 2)
      let next := (v.later.map (·.1)).getD .none
      dabUse (forEach (s1.decsOn n) decToWait (s1.setSlot n { s1.slot n with
        change := next, due := (v.later.map (·.2)).getD 0, later := none }))
    | .stop =>
      let s1 := (slotUnlock n s).setF (ENSs_STAT_STATE n) 0
      dabUse (forEach (s1.decsOn n) decToWait (s1.setSlot n {}))

/-- SLOT_RELEASE_INSTANT. -/
def execSlotReleaseInstant (n t : Nat) (s : State) : Host.Outcome State Fault Refusal :=
  .next (if n < 48 && !s.pwr.inReset then slotInstant n t (s.advance t) else s)

/-- A frame period lies within 100 ppm of 96 ms (R232). -/
def periodOk (p : Nat) : Bool := decide (9999 * frameTicks ≤ 10000 * p) && decide (10000 * p ≤ 10001 * frameTicks)

/-- What R232 asks for lock: null symbols in three consecutive frames, spaced within 100 ppm; the PRS correlates; the
frequency offset is captured within 35 kHz and resolved to within 50 Hz. -/
def lockOk (nulls : List Nat) (prs : Bool) (foff : Int) (err : Nat) : Bool :=
  prs && decide (foff.natAbs ≤ 35000) && decide (err ≤ 50) &&
    match nulls with
    | [a, b, c] => decide (a < b) && decide (b < c) && periodOk (b - a) && periodOk (c - b)
    | _ => false

/-- ENS_LOCK: the null symbols of the last frames, whether the PRS correlates, the frequency offset and how closely it is
resolved, in hertz (R232). -/
def execEnsLock (n : Nat) (nulls : List Nat) (prs : Bool) (foff : Int) (err : Nat) (s : State) :
    Host.Outcome State Fault Refusal :=
  .next (if n < 48 && s.slotState n = 2 && lockOk nulls prs foff err then
    let s1 := s.setSlot n { s.slot n with frames := [(nulls.getLastD 0, 0xFFFF)] }
    dabUse (decShowOn n (raise evEnsLock n (s1.setF (ENSs_STAT_STATE n) 3))) else s)

/-- What R232 asks for a loss: 8 frames since the last one with a PRS, or a frame period out of tolerance. -/
def State.lostOk (s : State) (n t period : Nat) : Bool :=
  !periodOk period || (match (s.slot n).frames with | f :: _ => decide (f.1 + 8 * frameTicks ≤ t) | [] => true)

/-- ENS_LOST: at t, with the frame period measured last (R232). -/
def execEnsLost (n t period : Nat) (s : State) : Host.Outcome State Fault Refusal :=
  .next (if n < 48 && s.slotLocked n && s.lostOk n t period then
    let s0 := slotUnlock n (s.advance t)
    let s1 := (s0.setSlot n { s0.slot n with lostAt := t }).setF (ENSs_STAT_STATE n) (if s.slotState n = 4 then 4 else 2)
    dabUse (decShowOn n (raise evEnsLost n (s1.bump (ENSs_CNT_SYNCLOSS n)))) else s)

/-! ## Frames -/

/-- The record of one FIB (R236). -/
def fibRec (n k cif seq flags ts : Nat) (b : List Nat) : Rec :=
  ⟨2, ts, flags, n,
    leNat 8 ts ++ leNat 2 flags ++ [n, (fibOk b).toNat * 128 + k] ++ leNat 2 cif ++ leNat 2 seq ++ b⟩

/-- The labels of FIG 1 of a FIB with a good CRC become text records, a service's with its SubChId where it is known (R244,
R344); those of FIG 2 reach the host raw (notes/assumptions/134.md). -/
def fibLabels (n flags ts : Nat) (b : List Nat) (s : State) : State :=
  if !fibOk b || !s.firmwareOn 2 then s
  else (labelsOf b).foldl (fun s x =>
    let info := ((s.fol.info.find? fun q => q.1 == n).map (·.2)).getD {}
    let sub := if x.1 = 4 then ((info.services.find? fun q => q.sid == x.2.2.1).map (·.sub)).getD 0 else 0
    emitRec (textRec x.1 x.2.1 n sub ts flags x.2.2.2) s) s

/-- One FIB received in LOCKED, the k-th of its frame: counted, delivered or withheld (R235, R236).  A delivered record
is a block of the slot's stream to Sprout (R565, notes/assumptions/26.md). -/
def fibStep (n cif flags ts : Nat) (b : List Nat) (k : Nat) (s : State) : State :=
  let v := s.slot n
  let seq := (v.seq + 1) % 65536
  let l := pushWin 96 (!fibOk b) v.last96
  let s1 := (s.setSlot n { v with seq := seq, last96 := l }).setF (ENSs_FIC_FIBBAD n) (l.count true)
  let s2 := if fibOk b then s1 else s1.bump (ENSs_FIBCNT_BAD n)
  if fibOk b || s2.getF (ENSs_CTL_FICDELIV n) == 1 then
    fibLabels n flags ts b (emitRec (fibRec n k cif seq flags ts b) (obsBlock 3 n flags (s2.bump (ENSs_CNT_FIBS n))))
  else s2.bump (ENSs_FIBCNT_DISC n)

/-- The FIBs of a frame, in order from number k. -/
def fibSteps (n cif flags ts : Nat) : List (List Nat) → Nat → State → State
  | [], _, s => s
  | b :: t, k, s => fibSteps n cif flags ts t (k + 1) (fibStep n cif flags ts b k s)

/-- FIG 0/0 of a frame, from a FIB with a good CRC (R232). -/
def fig00Read (f : Frame) : Option (Nat × Nat) := f.fibs.findSome? fun b => if fibOk b then fig00Of b else none

/-- The CIF count of a frame: as FIG 0/0 gives it, four further than the last frame's once it is known, 0xFFFF
before (R236). -/
def frameCif (n : Nat) (f : Frame) (s : State) : Nat :=
  match fig00Read f with
  | some (_, c) => c
  | none => if s.flag (ENSs_STAT_FIC_OK n) then (s.getF (ENSs_EID_CIF n) + 4) % 5000 else 0xFFFF

/-- The ensemble quality record (R344 type 4). -/
def ensRec (n flags ts : Nat) (s : State) : Rec :=
  ⟨4, ts, flags, n,
    leNat 8 ts ++ leNat 2 flags ++ [n, s.slotState n] ++ leNat 2 (s.getF (ENSs_LVL_RSSI n))
      ++ leNat 2 (s.getF (ENSs_LVL_MER n)) ++ leNat 4 (unsignedOf 32 (s.getI (ENSs_FOFF_FOFF n)))
      ++ leNat 2 (s.getF (ENSs_FIC_FICBER n)) ++ [s.getF (ENSs_FIC_FIBBAD n), 0] ++ leNat 2 (s.getF (ENSs_EID_EID n))
      ++ leNat 2 (s.getF (ENSs_EID_CIF n))⟩

/-- The flags of what the FIC of a frame of slot n gives, DROP after a record dropped (R26, R233). -/
def State.ficFlags (s : State) (n ts : Nat) : Nat :=
  s.slotFlags n ts (ts + ficTicks - 1) ||| (if (s.slot n).dropNext then 128 else 0)

/-- A frame of slot n is noted, and DROP is on its way (R239). -/
def slotNote (n ts cif : Nat) (s : State) : State :=
  s.setSlot n { s.slot n with frames := ((ts, cif) :: (s.slot n).frames).take 32, dropNext := false }

/-- What slot n draws on from input a (R143, R230). -/
def State.slotFeed (s : State) (n a : Nat) : SlotFeed :=
  ⟨s.input a, s.getF (ENSs_BIN_BIN n), s.getI (ENSs_NCO_FREQ n), s.tokens 2 n⟩

/-- The sides of slot n over a frame (R234): a side has weight 0 at a symbol where it or the one before carries a sample
that is missing, VOID or STALE. -/
def State.slotSides (s : State) (n : Nat) (foff : Int) (ts : Nat) : List SlotSide :=
  let a := s.getF (ENSs_CTL_INPUT n)
  (if a = 2 then [0, 1] else [a]).map fun a =>
    let f := s.slotFeed n a
    ⟨f, noiseOfNull f foff ts, fun l =>
      let lo := ts + (symbolStart (l - 1) - 504) * dabTick
      let hi := ts + (symbolStart l + 2048) * dabTick - 1
      s.tokenOver 2 n lo hi || (slotMarks [f.input] lo hi).any fun x => (x &&& 265) != 0⟩

/-- RSSI of a frame: the higher of the sides (R235). -/
def State.slotRssi (s : State) (n ts : Nat) : Int :=
  let a := s.getF (ENSs_CTL_INPUT n)
  rssiMax ((if a = 2 then [0, 1] else [a]).map fun a => sideRssi (slotLevel (s.slotFeed n a) ts))

/-- The measured frame period relative to 96 ms, in ppb, from the frame before (R235); none without one. -/
def State.framePpb (s : State) (n ts : Nat) : Option Int :=
  match (s.slot n).frames with
  | f :: _ =>
    let k := (ts - f.1 + frameTicks / 2) / frameTicks
    if f.1 < ts && k != 0 then some (roundEven (((ts : Int) - f.1 - (k * frameTicks : Nat)) * 1000000000) (k * frameTicks)) else none
  | [] => none

/-- A pod has abandoned a block within what slot n would record: there is no record, and the next one carries DROP
(R142; notes/assumptions/151.md). -/
def slotLose (n : Nat) (s : State) : State := s.setSlot n { s.slot n with dropNext := true }

/-- The effect of a new organisation on decoder d (R243). -/
def decReconfig (d : Nat) (s : State) : State :=
  if s.decState d = 2 then
    match s.decSub d with
    | none => decToWait d s
    | some c =>
      if s.waitReason d != 0 || codecOf c.ascTy != s.getF (DECd_FMT_CODEC_ACT d) then decToWait d s
      else (s.setF (DECd_FMT_SIZE_CU d) c.size).setF (DECd_FMT_BITRATE d) c.rate
  else decShow d s

/-- ENS_FRAME: a transmission frame of slot n (R233 to R236); an organisation it reveals that was not announced holds from
then on (R243). -/
def ensFrame (n : Nat) (f : Frame) (s : State) : State :=
  let s0 := if 2 ≤ s.slotState n then eraseNote n f.ts (s.bumpBy ⟨ENSs_ERASE n, 31, 0⟩ (s.frameErasures n f.ts)) else s
  if !s.slotLocked n then s0
  else
    let cif := frameCif n f s0
    let s1 := match fig00Read f with
      | some (eid, _) => ((s0.setF (ENSs_STAT_FIC_OK n) 1).setF (ENSs_EID_VALID n) 1).setF (ENSs_EID_EID n) eid
      | none => s0
    let s2 := if s1.flag (ENSs_STAT_FIC_OK n) then s1.setF (ENSs_EID_CIF n) cif else s1
    let s3 := s2.setSlot n { s2.slot n with org := f.org <|> (s2.slot n).org, fic := some (f.ts, f.fibs) }
    let flags := s.ficFlags n f.ts
    let s3 := if f.org.isSome && f.org != (s.slot n).org then forEach (s3.decsOn n) decReconfig s3 else s3
    let s4 := if s.abandonedIn 2 n f.ts (f.ts + ficTicks - 1) then slotLose n (slotNote n f.ts cif s3)
      else fibSteps n cif flags f.ts f.fibs 0 (slotNote n f.ts cif s3)
    let mer := merOf (errorSums (s.slotSides n f.foff f.ts) f.foff f.ts)
    let s5 := (s4.setI (ENSs_LVL_RSSI n) (s.slotRssi n f.ts)).setI (ENSs_LVL_MER n) (clampInt (-100) 400 mer)
    let s6 := (s5.setI (ENSs_FOFF_FOFF n) (clampInt (-35000) 35000 f.foff)).setF (ENSs_FIC_FICBER n) (min 65535 f.ficBer)
    let s7 := s6.set64 (ENSs_QTS_LO n) (ENSs_QTS_HI n) f.ts
    let s8 := match s.framePpb n f.ts with
      | some x => forEach (s7.decsOn n) (fun d s => s.setI (DECd_RATE_RATE d) x) s7
      | none => s7
    emitRec (ensRec n flags f.ts s8) (decShowOn n s8)

/-- ENS_FRAME. -/
def execEnsFrame (n : Nat) (f : Frame) (s : State) : Host.Outcome State Fault Refusal :=
  .next (if n < 48 && !s.pwr.inReset then ensFrame n f s else s)

/-- The PAD of a logical frame of decoder d, extracted while DECd_CTL.PAD is 1; a dynamic label that is whole and new becomes
a text record (R229, R344). -/
def decPad (n sub cif ts flags : Nat) (bytes : List Nat) (d : Nat) (s : State) : State :=
  if s.getF (DECd_CTL_SUBCH d) != sub || !s.flag (DECd_CTL_PAD d) || !(s.decState d = 2 || s.decState d = 3) then s
  else
    let old := (s.decoder d).pad
    let p := padFrame (s.getF (DECd_FMT_CODEC_ACT d)) (auCount (s.getF (DECd_STAT_CORE d))) (s.getF (DECd_FMT_BITRATE d)) cif bytes old
    let s1 := s.setDecoder d { s.decoder d with pad := p }
    if p.label != old.label && !p.label.isEmpty && s.firmwareOn 2 then
      emitRec (textRec 2 p.charset n sub ts flags p.label) s1
    else s1

/-- SUBCH_RECORD: the logical frame of SubChId sub at a CIF becomes a record while its mask bit was set when the CIF
began and the organisation has it (R237). -/
def subchRecord (n sub cif : Nat) (bytes : List Nat) (s : State) : State :=
  match s.frameOf n cif with
  | none => s
  | some f =>
    let v := s.slot n
    let ts := s.cifInstant n f (cif % 4)
    let flags := s.logicalFlags n f (cif % 4) 1 ||| (if v.dropNext then 128 else 0)
    let s := forEach (s.decsOn n) (decPad n sub cif ts flags bytes) s
    let new := v.cif != cif
    let mask := if new then s.get64 (ENSs_SUBOUT_LO n) (ENSs_SUBOUT_HI n) else v.mask
    let s1 := s.setSlot n { v with cif := cif, mask := mask }
    if s.slotLocked n && mask.testBit sub && (v.org.getD []).any (fun c => c.id == sub) && bytes.length ≤ 6912 then
      if s.abandonedIn 2 n ts (ts + frameTicks / 4 - 1) then slotLose n s1 else emitRec ⟨5, ts, flags, n,
        leNat 8 ts ++ leNat 2 flags ++ [n, sub] ++ leNat 2 cif ++ leNat 2 bytes.length ++ pad8 bytes⟩
        (obsBlock 3 n flags (s1.setSlot n { s1.slot n with dropNext := false }))
    else s1

/-- SUBCH_RECORD. -/
def execSubchRecord (n sub cif : Nat) (bytes : List Nat) (s : State) : Host.Outcome State Fault Refusal :=
  .next (if n < 48 && sub < 64 && cif < 5000 then subchRecord n sub cif bytes s else s)

/-- MULTIPLEX_RECONFIG: at the CIF the new organisation holds for slot n (R243). -/
def execMultiplexReconfig (n : Nat) (org : List SubCh) (s : State) : Host.Outcome State Fault Refusal :=
  .next (if n < 48 && s.slotLocked n then
    let s1 := s.setSlot n { s.slot n with org := some org }
    forEach (s1.decsOn n) decReconfig s1
  else s)

/-! ## Deferred stops -/

/-- A deferred decoder stop proceeds: it stops at its next output-block boundary (R238, R275). -/
def decProceed (d : Nat) (s : State) : State :=
  s.setDecoder d { s.decoder d with change := .stop, due := ceilTo Config.audioBlock (s.now + 1) }

/-- A deferred path stop proceeds to the next change instant (R194, R275). -/
def pathProceed (n : Nat) (s : State) : State := s.setPath n { s.path n with change := .stop, due := s.now }

/-- A slot whose stop was deferred proceeds once no decoder on it feeds a fade (R231). -/
def slotProceed (n : Nat) (s : State) : State :=
  if s.slotState n = 4 && !s.slotInFade n then s.setSlot n { s.slot n with change := .stop, due := s.now } else s

/-- PATH_DEFERRED_STOP: the cross-fade has ended, and deferred path or decoder n proceeds to its stop (R275); so does
the deferred slot of a decoder (R231). -/
def execPathDeferredStop (dec : Bool) (n : Nat) (s : State) : Host.Outcome State Fault Refusal :=
  .next (if dec then
    (if n < 128 && !s.inFade 2 n then
      let s1 := if s.decState n = 3 then decProceed n s else s
      slotProceed (s1.getF (DECd_CTL_SLOT n)) s1
    else s)
  else if n < 512 && s.getF (PTHn_STAT_STATE n) = 3 && !s.inFade 1 n then pathProceed n s else s)

end Sys2Proof.Machine
end

