-- ==== Sys2Proof/Machine/FolOps.lean ====
section
/-! DEFINITION. Fennel's candidates (spec/10 R248 to R261, R265 to R268): latency, eligibility, usability, states and
scores, and what the FOL registers show of them. -/

namespace Sys2Proof.Machine

/-- What an unlisted programme holds. -/
def progNone (_ : Nat) : Prog := {}

/-- Programme p beside its registers. -/
def State.prog (s : State) (p : Nat) : Prog := sget progNone s.fol.progs p

/-- Replace programme p. -/
def State.setProg (p : Nat) (v : Prog) (s : State) : State :=
  { s with fol := { s.fol with progs := sset progNone p v s.fol.progs } }

/-- FOLp_STAT.STATE: 0 STOPPED, 1 PENDING, 2 SEARCH, 3 RUNNING (R277). -/
def State.folState (s : State) (p : Nat) : Nat := s.getF (FOLp_STAT_STATE p)

/-- Programmes that are not STOPPED. -/
def State.livePrograms (s : State) : List Nat :=
  (s.touched (FOLp_STAT 0) 0x40 256).filter fun p => s.folState p != 0

/-- Entry i of a candidate list. -/
def Prog.cand (v : Prog) (i : Nat) : Option Cand := (v.cands.find? fun q => q.1 == i).map (·.2)

/-- Insert or replace entry i, entries in rising order of index. -/
def candPut (i : Nat) (c : Cand) : List (Nat × Cand) → List (Nat × Cand)
  | [] => [(i, c)]
  | (j, d) :: t => if i < j then (i, c) :: (j, d) :: t else if i = j then (i, c) :: t else (j, d) :: candPut i c t

/-- Replace entry i of programme p. -/
def State.setCand (p i : Nat) (c : Cand) (s : State) : State :=
  s.setProg p { s.prog p with cands := candPut i c (s.prog p).cands }

/-- PG_DELAY in ticks (R24, R277). -/
def State.pgDelay (s : State) (p : Nat) : Nat := s.getF (FOLp_DELAY_SMP p) * 81920

/-- The source latency L_c (R250). -/
def State.srcLat (s : State) (c : Cand) : Nat :=
  if c.kind = 1 then s.getF (PTHn_DLY_TICKS c.num) + 5242880
  else if c.kind = 2 then s.decLat c.num
  else 0

/-- A of the active source; 0 where there is none. -/
def Prog.aActive (v : Prog) : Int := ((v.active.bind v.cand).map (·.a)).getD 0

/-- G of the active source in 0.1 dB. -/
def Prog.gActive (v : Prog) : Int := ((v.active.bind v.cand).map (·.g)).getD 0

/-- The incoming entry of a running fade. -/
def Prog.incoming (v : Prog) : Option Nat := v.fade.map (·.inc)

/-- A candidate's alignment offset as R250 judges it: its own where it is aligned, active or incoming, otherwise that of
the active source. -/
def Prog.aOf (v : Prog) (i : Nat) (c : Cand) : Int :=
  if c.aligned || v.active = some i || v.incoming = some i then c.a else v.aActive

/-- A candidate with offset a is eligible (R250). -/
def State.eligible (s : State) (p : Nat) (c : Cand) (a : Int) : Bool :=
  decide ((s.srcLat c : Int) + a * 81920 + 3932160 ≤ (s.pgDelay p : Int))
    && decide (-((s.getF (FOLp_POL0_SEARCH p) : Int) * 393216000) ≤ a * 81920)

/-- The largest offset for which R250 holds. -/
def State.aLargest (s : State) (p : Nat) (c : Cand) : Int :=
  ((s.pgDelay p : Int) - (s.srcLat c : Int) - 3932160) / 81920

/-- A PI matches the programme's (R255). -/
def State.piMatch (s : State) (p pi : Nat) : Bool :=
  let k := s.getF (FOLp_ID_PI p)
  pi == k || (s.flag (FOLp_CTL_REGIONAL p) && (pi ^^^ k) &&& 0xF0FF == 0)

/-- What firmware has passed to Fennel from slot n; nothing until then (R244). -/
def State.dabInfo (s : State) (n : Nat) : DabInfo :=
  match s.fol.info.find? (fun q => q.1 == n) with
  | some q => q.2
  | none => {}

/-- The SId of a sub-channel of slot n, as FIG 0/2 gave it to Fennel (R244). -/
def State.sidsOf (s : State) (n sub : Nat) : List Nat :=
  ((s.dabInfo n).services.filter fun q => q.sub == sub).map (·.sid)

/-- The linkage sets that programme p admits among those of the LOCKED slots (R255): hard ones, and soft ones with
SOFTLINK; a set whose LA is 0 links nothing (ETSI EN 300 401; PRESUMED, notes/assumptions/134.md). -/
def State.linksOf (s : State) (p : Nat) : List Linkage :=
  (s.fol.info.filter fun q => s.slotLocked q.1).flatMap fun q =>
    q.2.links.filter fun l => l.la && (l.hard || s.flag (FOLp_CTL_SOFTLINK p))

/-- Identifiers linked to the programme: SIds and PIs of the sets that hold its PI or SId. -/
def State.linked (s : State) (p : Nat) : List Linkage :=
  (s.linksOf p).filter fun l => l.sids.contains (s.getF (FOLp_ID_SID p)) || l.pis.contains (s.getF (FOLp_ID_PI p))

/-- The identity condition of R255 for a path or decoder entry of a programme by its origin; a host entry carries
none. -/
def State.identity (s : State) (p : Nat) (c : Cand) : Bool :=
  let key := s.getF (FOLp_CTL_KEY p)
  if c.removed then false
  else if c.origin = 0 then true
  else if key = 3 then false
  else if c.kind = 1 then
    let pi := s.getF (DEMn_PI_PI c.num)
    s.flag (DEMn_STAT_PI_CONF c.num)
      && (if c.origin = 3 then (s.linked p).any fun l => l.pis.contains pi && l.sids.contains (s.getF (FOLp_ID_SID p))
          else s.piMatch p pi && (c.origin == 2 || key == 0 || key == 2))
  else
    let n := if c.kind = 2 then s.getF (DECd_CTL_SLOT c.num) else c.num / 256 % 64
    let sub := if c.kind = 2 then s.getF (DECd_CTL_SUBCH c.num) else c.num % 64
    let sids := s.sidsOf n sub
    if c.origin = 1 then (key == 1 || key == 2) && sids.contains (s.getF (FOLp_ID_SID p))
    else sids.any fun x => (s.linked p).any fun l => l.sids.contains x

/-- The source delivers blocks: a running path, a running decoder. -/
def State.delivers (s : State) (c : Cand) : Bool :=
  if c.kind = 1 then s.pathRunning c.num
  else if c.kind = 2 then s.decState c.num == 2 || s.decState c.num == 3
  else false

/-- No condition of R260 holds for a source. -/
def State.usable (s : State) (p : Nat) (c : Cand) : Bool :=
  s.delivers c && s.identity p c
    && (if c.kind = 1 then !s.flag (DEMn_STAT_LOST c.num) && decide ((s.dem c.num).badRun < 5)
        else decide (s.getF (DECd_QUAL_ERR c.num) < 25) && s.slotLocked (s.getF (DECd_CTL_SLOT c.num)))

/-- The source carries a stop that a fade defers, or its slot does (R231, R275). -/
def State.deferred (s : State) (c : Cand) : Bool :=
  (c.kind == 1 && s.getF (PTHn_STAT_STATE c.num) == 3)
    || (c.kind == 2 && (s.decState c.num == 3 || s.slotState (s.getF (DECd_CTL_SLOT c.num)) == 4))

/-- The first source instant with no block of a source that has ceased (R260). -/
def State.goneFrom (s : State) (c : Cand) : Nat :=
  match s.stream (c.kind + 1) c.num with
  | b :: _ => b.ts + Config.audioBlock
  | [] => s.now

/-- The unusable point of a source: the first source instant affected by a condition of R260 that holds. -/
def State.badFrom (s : State) (p : Nat) (c : Cand) : Nat :=
  let n := s.getF (DECd_CTL_SLOT c.num)
  let gone := s.goneFrom c
  let l := (if s.delivers c then [] else [gone]) ++ (if s.identity p c then [] else [s.now])
    ++ (if c.kind = 1 then
          (if s.flag (DEMn_STAT_LOST c.num) then [(s.dem c.num).lostFrom] else [])
            ++ (if 5 ≤ (s.dem c.num).badRun then [(s.dem c.num).badFrom] else [])
        else
          (if 25 ≤ s.getF (DECd_QUAL_ERR c.num) then [(s.decoder c.num).errFrom] else [])
            ++ (if s.slotLocked n then [] else [if (s.slot n).lostAt = 0 then gone else (s.slot n).lostAt]))
  match l with
  | [] => s.now
  | x :: t => t.foldl min x

/-- The state of entry i (R259). -/
def Prog.candState (v : Prog) (i : Nat) (c : Cand) : Nat :=
  if v.active = some i then 3
  else if v.incoming = some i then 4
  else if c.bad.isSome then 5
  else if c.kind = 3 then 7
  else if c.inelig then 6
  else if c.aligned then 2
  else if 3 ≤ c.fails then 8
  else 1

/-- A rational rounded to the nearest integer, halves upwards. -/
def roundRat (x : Rat) : Int := (x + 1 / 2).floor

/-- A score in a signed 16-bit field. -/
def score16 (e : Option Rat) : Nat := unsignedOf 16 (clampInt (-32768) 32767 (roundRat (e.getD 0)))

/-- The highest of a list of scores. -/
def maxScore : List Rat → Option Rat
  | [] => none
  | x :: t => match maxScore t with
    | none => some x
    | some y => some (max x y)

/-- The registers of programme p show its state (R277). -/
def progShow (p : Nat) (s : State) : State :=
  let v := s.prog p
  let act := v.active.bind v.cand
  let inc := v.incoming.bind v.cand
  let aw := (act.map fun c => c.kind <<< 14 ||| (v.active.getD 0 % 16) <<< 10 ||| c.num).getD 0
  let iw := (inc.map fun c => c.kind <<< 30 ||| (v.incoming.getD 0 % 16) <<< 26 ||| c.num <<< 16).getD 0
  let best := maxScore ((v.cands.filter fun q => v.active != some q.1 && q.2.bad.isNone && q.2.kind != 3).filterMap (·.2.e))
  let s1 := (s.wr (FOLp_SRC p) (BitVec.ofNat 32 (iw ||| aw))).setB (FOLp_STAT_XFADE p) v.fade.isSome
  let s2 := (s1.setF (FOLp_STAT_ACTIVE p) (v.active.getD 0 % 16)).setF (FOLp_SCORE_ACT p) (score16 (act.bind (·.e)))
  let s3 := (s2.setF (FOLp_SCORE_BEST p) (score16 best)).setF (FOLp_OFFS_A p) (unsignedOf 32 v.aActive)
  let s4 := (s3.setI (FOLp_GAIN_GACT p) v.gActive).setI (FOLp_GAIN_GIN p) ((inc.map (·.g)).getD 0)
  s4.setF (FOLp_XF_REMAIN p) (((v.fade.map (·.left)).getD 0 + 47) / 48)

/-- FOL_CINFO0 to FOL_CINFO3 and FOL_CLIST show the entry that FOL_CSEL names (R278). -/
def candShow (s : State) : State :=
  let v := s.prog (s.getF FOL_CSEL_PROG)
  let i := s.getF FOL_CSEL_INDEX
  let s1 := match v.cand i with
    | none => (((s.wr FOL_CINFO0 0).wr FOL_CINFO1 0).wr FOL_CINFO2 0).wr FOL_CINFO3 0
    | some c =>
      let st := v.candState i c
      let a := if st = 2 || st = 3 || st = 4 then c.a else 0
      let w0 := st <<< 28 ||| c.kind <<< 26 ||| c.origin <<< 24 ||| c.clamp.toNat <<< 23 ||| c.num
      let w2 := score16 c.e <<< 16 ||| unsignedOf 16 c.g
      let w3 := c.rho <<< 24 ||| ((s.srcLat c * 100 + 393215) / 393216) % 1048576
      (((s.wr FOL_CINFO0 (BitVec.ofNat 32 w0)).wr FOL_CINFO1 (BitVec.ofNat 32 (unsignedOf 32 a))).wr
        FOL_CINFO2 (BitVec.ofNat 32 w2)).wr FOL_CINFO3 (BitVec.ofNat 32 w3)
  match v.host.find? fun q => q.1 == i with
  | none => s1.wr FOL_CLIST (BitVec.ofNat 32 (((v.off.find? fun q => q.1 == i).map (·.2)).getD 0))
  | some (_, h) => s1.wr FOL_CLIST (BitVec.ofNat 32 (1 <<< 31 ||| h.kind <<< 29 ||| unsignedOf 8 h.bias <<< 16 ||| h.num))

/-- A running programme has path or decoder num of a kind among its candidates. -/
def State.needed (s : State) (kind num : Nat) : Bool :=
  s.livePrograms.any fun p => (s.prog p).cands.any fun q => q.2.kind == kind && q.2.num == num

/-- Channels of the audio ring in use, as (channel, kind, number): 1 path, 2 decoder, 3 programme (R288, R300). -/
def State.channels (s : State) : List (Nat × Nat × Nat) :=
  (s.touched (MRW_ACH 0) 4 1024).filterMap fun c =>
    if s.flag (MRW_ACH_VALID c) then some (c, s.getF (MRW_ACH_KIND c), s.getF (MRW_ACH_NUM c)) else none

/-- The channel that a source or programme holds. -/
def State.chanOf (s : State) (kind num : Nat) : Option Nat :=
  match s.channels.find? (fun q => q.2.1 == kind && q.2.2 == num) with
  | some q => some q.1
  | none => none

/-- MRW_AUD_STAT.USED. -/
def chanUse (s : State) : State := s.setF MRW_AUD_STAT_USED s.channels.length

/-- A channel is freed. -/
def chanFree (kind num : Nat) (s : State) : State :=
  match s.chanOf kind num with
  | some c => chanUse (s.wr (MRW_ACH c) 0)
  | none => s

/-- Give the lowest free channel to a source or programme that holds none; nothing where none is free. -/
def chanTake (kind num : Nat) (s : State) : State :=
  if (s.chanOf kind num).isSome then s
  else match (List.range s.mrw.chans).find? fun c => !s.flag (MRW_ACH_VALID c) with
    | some c => chanUse (s.wr (MRW_ACH c) (BitVec.ofNat 32 (1 <<< 31 ||| kind <<< 29 ||| num)))
    | none => s

/-- Remove entry i of programme p; its channel is freed once its source is in no candidate set; an
entry without a decoder has none (R288). -/
def State.dropCand (p i : Nat) (s : State) : State :=
  let v := s.prog p
  let s1 := s.setProg p { v with cands := v.cands.filter fun q => q.1 != i }
  match v.cand i with
  | some c => if c.kind = 3 || s1.needed c.kind c.num then s1 else chanFree c.kind c.num s1
  | none => s1

/-- Pool paths and owned decoders note since when no programme needs them (R254, R258). -/
def idleRefresh (s : State) : State :=
  let pool := s.fol.pool.map fun q =>
    (q.1, { q.2 with idle := if q.2.progs.any (fun p => s.folState p != 0) then none
                             else some (q.2.idle.getD s.now) })
  let owned := (s.liveDecs.filter fun d => s.flag (DECd_CTL_OWNER d) && !s.needed 2 d)
  let idle := owned.map fun d => (d, ((s.fol.decIdle.find? fun q => q.1 == d).map (·.2)).getD s.now)
  { s with fol := { s.fol with pool := pool, decIdle := idle } }

/-- FOL_USE (R278). -/
def useShow (s : State) : State :=
  ownedShow ((poolShow s).setF FOL_USE_PROG_RUN s.livePrograms.length)

/-- The FOL registers follow a change of programme p. -/
def folShow (p : Nat) (s : State) : State := useShow (candShow (progShow p (idleRefresh s)))

/-- The best candidate of programme p that satisfies a test: the highest E, on equal E the lowest index (R262, R263). -/
def bestOf (test : Nat → Cand → Bool) : List (Nat × Cand) → Option (Nat × Cand)
  | [] => none
  | (i, c) :: t =>
    if test i c then
      match bestOf test t with
      | none => some (i, c)
      | some (j, d) => if c.e.getD 0 < d.e.getD 0 then some (j, d) else some (i, c)
    else bestOf test t

/-- Entry i can be switched to: usable, eligible, neither active nor deferred (R250, R260, R275). -/
def State.takeable (s : State) (v : Prog) (i : Nat) (c : Cand) : Bool :=
  v.active != some i && c.kind != 3 && c.bad.isNone && !c.inelig && !s.deferred c

/-- Entry i is ALIGNED and can be switched to. -/
def State.alignedTake (s : State) (v : Prog) (i : Nat) (c : Cand) : Bool := s.takeable v i c && c.aligned

/-- Some candidate of the programme is usable. -/
def Prog.anyUsable (v : Prog) : Bool := v.cands.any fun q => q.2.kind != 3 && q.2.bad.isNone

/-- ALLLOST and FOL_LOST; and where the active source delivers nothing, the output falls to zero at its first instant with
no block, over what is not yet formed of the 20 ms before it (R264, R276). -/
def lostShow (p : Nat) (s : State) : State :=
  let v := s.prog p
  if s.folState p != 3 then s
  else if v.anyUsable then s.setF (FOLp_STAT_ALLLOST p) 0
  else
    let s1 := if s.flag (FOLp_STAT_ALLLOST p) then s else raise evFolLost p (s.setF (FOLp_STAT_ALLLOST p) 1)
    match v.active, v.active.bind v.cand with
    | some i, some c =>
      if s.delivers c || v.mute.isSome || v.hard.isSome || v.fade.isSome || s.flag (FOLp_STAT_SILENT p) then s1
      else s1.setProg p { v with mute := some (max v.nextTs ((s.goneFrom c : Int) - v.aOf i c * 81920).toNat, v.nextTs) }
    | _, _ => s1.setF (FOLp_STAT_SILENT p) 1

/-- Entry i is not eligible: it enters INELIG, counted and raised (R250). -/
def ineligStep (p i : Nat) (s : State) : State :=
  match (s.prog p).cand i with
  | none => s
  | some c =>
    let ok := s.eligible p c ((s.prog p).aOf i c)
    if c.kind = 3 || ok then (if c.inelig then s.setCand p i { c with inelig := false } else s)
    else if c.inelig then s
    else raise evFolInelig p ((s.setCand p i { c with inelig := true }).bump (FOLp_CNT2_INELIG p))

/-- The entries of a source are judged for eligibility again at once (R250, R273). -/
def sourceJudge (kind num : Nat) (s : State) : State :=
  forEach s.livePrograms (fun p s =>
    match (s.prog p).cands.find? fun q => q.2.kind == kind && q.2.num == num with
    | some q => folShow p (ineligStep p q.1 s)
    | none => s) s

/-- DEC_RUN: a decoder's new latency is judged at once (R273). -/
def execDecRun (d cif : Nat) (stereo sbr ps : Bool) (core : Nat) (s : State) : Host.Outcome State Fault Refusal :=
  .next (if d < 128 && core < 4 then sourceJudge 2 d (decRun d cif stereo sbr ps core s) else s)

end Sys2Proof.Machine
end

