-- ==== Sys2Proof/Machine/Align.lean ====
section
/-! DEFINITION. Alignment and loudness (spec/10 R265, R266, R268): the correlation of a candidate against the active source
and the loudness of their audio.  The band-pass and the weighting are opaque (notes/assumptions/139.md). -/

namespace Sys2Proof.Machine

/-- Ticks of an audio sample at 48 kS/s. -/
def audioTick : Nat := 81920

/-- n samples of a stream from an instant on; fewer where some are not there. -/
def audioOver (l : List Block) (u : Int) (n : Nat) : List (Int × Int) :=
  let hi := u + n * audioTick
  (l.reverse.filter fun b => decide ((b.ts : Int) < hi) && decide (u < b.ts + Config.audioBlock)).flatMap fun b =>
    ((stereo b.samples).zipIdx.filter fun x =>
      decide (u ≤ b.ts + x.2 * audioTick) && decide ((b.ts + x.2 * audioTick : Nat) < hi)).map (·.1)

/-- The audio of a candidate for n samples from a source instant on; none where some are missing. -/
def State.heard (s : State) (c : Cand) (u : Int) (n : Nat) : Option (List (Int × Int)) :=
  let x := audioOver (s.stream (c.kind + 1) c.num) u n
  if x.length = n then some x else none

/-- Twice the mono sums. -/
def mono (l : List (Int × Int)) : List Int := l.map fun x => x.1 + x.2

/-- Every sixth sample: 8 kS/s. -/
def every6 (l : List Int) : List Int := (l.zipIdx.filter fun x => x.2 % 6 = 0).map (·.1)

/-- The sum of products of two lists. -/
def dot (x y : List Int) : Int := (x.zip y).foldl (fun a p => a + p.1 * p.2) 0

/-- The correlation at a lag: the position of the segment, the sum of products, and the energy of the segment. -/
structure Corr where
  pos : Nat
  sum : Int
  energy : Int

/-- The correlations of y with the segments of x, in order of position. -/
def corrs (y : List Int) : Nat → List Int → List Corr
  | _, [] => []
  | k, a :: t =>
    if t.length + 1 < y.length then []
    else
      let x := (a :: t).take y.length
      ⟨k, dot x y, dot x x⟩ :: corrs y (k + 1) t

/-- One correlation is normalised at least m times another. -/
def Corr.atLeast (m : Nat) (a b : Corr) : Bool :=
  decide (b.sum ≤ 0) || (decide (0 ≤ a.sum) && decide (m * m * b.sum * b.sum * a.energy ≤ a.sum * a.sum * b.energy))

/-- The main peak: the highest normalised correlation, the first of equals. -/
def peakOf : List Corr → Option Corr
  | [] => none
  | a :: t => match peakOf t with
    | none => some a
    | some b => if a.atLeast 1 b then some a else some b

/-- A correlation normalised by the energy of y, in units of 2^-24. -/
def Corr.value (ey : Int) (a : Corr) : Int :=
  let n := Config.root ((a.energy * ey).toNat * 4 ^ 8)
  if n = 0 then 0 else a.sum * 2 ^ 32 / n

/-- The parabola through three values a sample apart: how far its peak lies from the middle one, in 2^-24 samples, and how
high. -/
def parabola (a b c : Int) : Int × Int :=
  let k := a - 2 * b + c
  if 0 ≤ k then (0, b) else (roundEven ((a - c) * 2 ^ 23) k.natAbs * -1, b + (a - c) * (a - c) / (8 * k.natAbs))

/-- What a fine search gives: the fitted peak rounded to the nearest sample, and the normalised peak value in whole per cent,
rounded down (R265).  The samples x begin hi samples before those of y. -/
def searchAt (hi : Int) (x y : List Int) : Option (Int × Nat) :=
  let l := corrs y 0 x
  let ey := dot y y
  (peakOf l).map fun p =>
    let v := fun (k : Nat) => ((l[k]?).map (Corr.value ey)).getD (p.value ey)
    let f := if p.pos = 0 then (0, p.value ey) else parabola (v (p.pos - 1)) (v p.pos) (v (p.pos + 1))
    (hi - p.pos - roundEven f.1 (2 ^ 24), (f.2 * 100 / 2 ^ 24).toNat)

/-- What a measurement gives: the offset, ρ in per cent, and whether the main peak is at least twice any other outside ±48
samples. -/
structure Measured where
  d : Int
  rho : Nat
  clear : Bool
  deriving DecidableEq, Repr

/-- The tracking search: ±32 samples about an offset (R266); x begins d0 + 32 samples before y. -/
def trackSearch (d0 : Int) (x y : List Int) : Option Measured :=
  (searchAt (d0 + 32) x y).map fun r => ⟨r.1, min 100 r.2, true⟩

/-- The peaks among the correlations of a search: those not below their neighbours. -/
def peaks : List Corr → List Corr
  | a :: b :: c :: t => (if b.atLeast 1 a && b.atLeast 1 c then [b] else []) ++ peaks (b :: c :: t)
  | _ => []

/-- The full search: coarse at 8 kS/s over ±r samples, then fine at 48 kS/s over ±32 samples about the coarse peak (R265);
x begins r + 32 samples before y. -/
def fullSearch (r : Nat) (x y : List Int) : Option Measured :=
  let l := corrs (every6 y) 0 (every6 ((x.drop 32).take (2 * r + y.length)))
  match peakOf l with
  | none => none
  | some p =>
    let dc : Int := r - 6 * p.pos
    let clear := (peaks l).all fun q => decide ((6 * (p.pos : Int) - 6 * q.pos).natAbs ≤ 48) || p.atLeast 2 q
    (searchAt (dc + 32) ((x.drop (6 * p.pos)).take (64 + y.length)) y).map fun m => ⟨m.1, min 100 m.2, clear⟩

/-- Samples of a measurement window: 2 s. -/
def alignSamples : Nat := 96000

/-- Samples of a loudness block: 400 ms. -/
def loudSamples : Nat := 19200

/-- The loudness of the blocks of some audio in 0.1 dB re full scale (R268). -/
def loudBlocks : Nat → List (Int × Int) → List Int
  | 0, _ => []
  | k + 1, l =>
    let w := fun (g : Int × Int → Int) => (Config.loudWeight ((l.take loudSamples).map g)).foldl (fun a x => a + x * x) (0 : Int)
    dbTenths (w (·.1) + w (·.2)).toNat (2 * loudSamples * 2 ^ 46) :: loudBlocks k (l.drop loudSamples)

/-- A block is not gated out (R268). -/
def loudOk (x : Int) : Bool := decide (-600 ≤ x)

/-- ΔL: the mean difference over the blocks that neither side has gated, in 0.1 dB, none where there is none (R268). -/
def loudDiff (x y : List Int) : Option Int :=
  let l := (x.zip y).filter fun p => loudOk p.1 && loudOk p.2
  if l.isEmpty then none else some (roundEven (l.foldl (fun a p => a + p.1 - p.2) 0) l.length)

/-- The measurement of entry c against the active source a over the window of 2 s that begins at source instant u of c: what
the correlation gives and ΔL over the window; none while audio is missing or gated (R265, R268). -/
def State.measure (s : State) (p : Nat) (v : Prog) (a c : Cand) (u : Nat) : Option (Option (Measured × Option Int)) :=
  let d0 := c.a - v.aActive
  let r := s.getF (FOLp_POL0_SEARCH p) * 4800
  let lo := if c.aligned then d0 + 32 else (r : Int) + 32
  let n := if c.aligned then alignSamples + 64 else alignSamples + 2 * r + 64
  match s.heard c u alignSamples, s.heard a ((u : Int) - lo * audioTick) n with
  | some y, some x =>
    let m := if c.aligned then trackSearch d0 (Config.bandPass (mono x)) (Config.bandPass (mono y))
             else fullSearch r (Config.bandPass (mono x)) (Config.bandPass (mono y))
    match m with
    | none => some none
    | some m =>
      let xs := loudBlocks 5 (x.drop (lo - m.d).toNat)
      let ys := loudBlocks 5 y
      some (if xs.any loudOk && ys.any loudOk then some (m, loudDiff xs ys) else none)
  | _, _ => none

/-- ΔL of an aligned entry over the 10 s of programme time from t on (R268); none while audio is missing. -/
def State.loudness (s : State) (v : Prog) (a c : Cand) (t : Nat) : Option (Option Int) :=
  match s.heard a (t + v.aActive * audioTick) (25 * loudSamples), s.heard c (t + c.a * audioTick) (25 * loudSamples) with
  | some x, some y => some (loudDiff (loudBlocks 25 x) (loudBlocks 25 y))
  | _, _ => none

end Sys2Proof.Machine
end

