-- ==== Sys2Proof/Machine/Fol.lean ====
section
/-! DEFINITION. Fennel (spec/10 R248 to R279): commands, candidate sets, pool paths and decoders, scores, switching,
alignment, loudness and the forming of programme blocks. -/

namespace Sys2Proof.Machine

/-! ## Commands -/

/-- Checks on a write about programme p by master m (R83, R274, R277): the personality reaches programmes 0 to 3 alone
where Fennel is not active, and FOL_REFUSE is not live there (R79); a programme beyond PROGS, and one the personality
owns. -/
def folGuard (m : Master) (p : Nat) (f : State → State) (s : State) : State :=
  if m = .personality && !s.feat 8 && 4 ≤ p then refuse SYS_REFUSE codeNotLocked s
  else if s.hdr.progs ≤ p then refuse FOL_REFUSE codeReserved s
  else if s.ktOwned && p < 4 && m != .personality then refuseInst (FOLp_STAT p) codeOwned s
  else f s

/-- The key fields that KEY uses are not 0 (R253, R277). -/
def State.idValid (s : State) (p : Nat) : Bool :=
  let k := s.getF (FOLp_CTL_KEY p)
  (k == 1 || k == 3 || s.getF (FOLp_ID_PI p) != 0) && (k == 0 || k == 3 || s.getF (FOLp_ID_SID p) != 0)

/-- START (R253): PENDING until the first multiple of 5,242,880 at or after the write plus 1 µs; blocks that a stop has left to
be released are (R252, R254). -/
def folStart (p : Nat) (s : State) : State :=
  if s.folState p != 0 then refuseInst (FOLp_STAT p) codeWrongState s
  else if !s.idValid p then refuseInst (FOLp_STAT p) codeReserved s
  else
    let s1 := s.setF (FOLp_STAT_STATE p) 1
    folShow p (s1.setProg p { host := (s.prog p).host, off := (s.prog p).off, formed := (s.prog p).formed,
                               startAt := ceilTo Config.audioBlock (s.now + Config.ticksOfUs 1) })

/-- The programme is STOPPED: every candidate is discarded (R254). -/
def folStopped (p : Nat) (s : State) : State :=
  let s0 := forEach ((s.prog p).cands.map (·.1)) (fun i s => s.dropCand p i) (s.setF (FOLp_STAT_STATE p) 0)
  let s1 := s0.setProg p { host := (s.prog p).host, off := (s.prog p).off, formed := (s.prog p).formed }
  folShow p (((s1.setF (FOLp_STAT_STATE p) 0).setF ⟨FOLp_STAT p, 28, 25⟩ 0))

/-- The weight of the incoming source of a fade at sample j from the next one to form: by the raised cosine of R269, or
linearly to the survivor over one block (R274). -/
def Fade.weight (f : Fade) (j : Nat) : Rat :=
  let e : Rat := if f.back then 0 else 1
  if f.left ≤ j then e
  else match f.cut with
    | some w => w + (e - w) * (64 - f.left + j : Nat) / 64
    | none => ((2 ^ 23 : Int) - Config.cosine (f.n - f.left + j) (2 * f.n) : Int) / (2 ^ 24 : Int)

/-- A fade goes to its survivor over one block from the next block to form (R274, R276). -/
def Prog.cutFade (v : Prog) (back : Bool) : Prog :=
  { v with fade := v.fade.map fun f =>
      { f with tx := min f.tx v.nextTs, left := 64, back := back, cut := some (if f.tx ≤ v.nextTs then f.weight 0 else 0) } }

/-- The survivor of an aborted fade is the outgoing source where the incoming one alone carries a deferred stop
(R274). -/
def State.abortBack (s : State) (v : Prog) : Bool :=
  ((v.incoming.bind v.cand).map s.deferred).getD false && !((v.active.bind v.cand).map s.deferred).getD false

/-- STOP (R254): the next 15 blocks ramp to zero, and a running fade completes within them; a PENDING programme, of
which no block is due, stops at once. -/
def folStop (p : Nat) (s : State) : State :=
  if s.folState p = 0 then refuseInst (FOLp_STAT p) codeWrongState s
  else if s.folState p = 1 then folStopped p s
  else
    let v := s.prog p
    if v.stopping.isSome then s
    else folShow p (s.setProg p { v.cutFade (s.abortBack v) with stopping := some 15, hard := none, mute := none })

/-- ABORT_XFADE (R274). -/
def folAbort (p : Nat) (s : State) : State :=
  let v := s.prog p
  if s.folState p = 0 || v.fade.isNone then refuseInst (FOLp_STAT p) codeWrongState s
  else folShow p (s.setProg p (v.cutFade (s.abortBack v)))

/-- A fade of n samples to entry b that starts at tx is decided (R269): counted, with its switch point in LASTSW and
FOL_SWITCH. -/
def fadeStart (p b kind n tx : Nat) (s : State) : State :=
  let v := s.prog p
  let sw := tx + n * 81920
  let c := (v.cand b).getD { kind := 0, num := 0, origin := 0 }
  let cs := candPut b { c with a := v.aOf b c } v.cands
  let s1 := s.setProg p { v with cands := cs, fade := some ⟨kind, tx, n, b, false, n, none⟩, lastSw := some sw }
  let s2 := (s1.set64 (FOLp_LASTSW_LO p) (FOLp_LASTSW_HI p) sw).setF (FOLp_XF_KIND p) kind
  let s3 := if kind = 1 then s2.bump (FOLp_CNT0_DISC p) else s2.bump (FOLp_CNT0_FORCED p)
  folShow p (raise evFolSwitch p s3)

/-- SWITCH to entry i (R274). -/
def folSwitch (p i : Nat) (s : State) : State :=
  let v := s.prog p
  match v.cand i with
  | some c =>
    if s.folState p = 3 && v.fade.isNone && v.hard.isNone && v.candState i c = 2 && !s.deferred c then
      fadeStart p i 1 (s.getF (FOLp_CTL_XFADE_MS p) * 48) v.nextTs s
    else refuseInst (FOLp_STAT p) codeWrongState s
  | none => refuseInst (FOLp_STAT p) codeWrongState s

/-- REALIGN (R267): every entry that is not active is NEW, its offset discarded. -/
def folRealign (p : Nat) (s : State) : State :=
  let v := s.prog p
  if s.folState p != 3 then refuseInst (FOLp_STAT p) codeWrongState s
  else
    let cs := v.cands.map fun q =>
      if v.active = some q.1 then q else (q.1, { q.2 with aligned := false, okLast := none, fails := 0 })
    folShow p (s.setProg p { v with cands := cs })

/-- A write of w to FOL_CMD by master m (R274). -/
def folCmd (m : Master) (w : Nat) (s : State) : State :=
  let op := bitsOf w 31 28
  let p := bitsOf w 7 0
  folGuard m p (fun s =>
    if op = 1 then folStart p s
    else if s.folState p = 0 then refuseInst (FOLp_STAT p) codeWrongState s
    else if op = 2 then folStop p s else if op = 3 then folAbort p s
    else if op = 4 then folSwitch p (bitsOf w 19 16) s else if op = 5 then folRealign p s
    else refuseInst (FOLp_STAT p) codeReserved s) s

/-- The word that names an operation, an entry and a programme in FOL_CMD. -/
def folWord (op i p : Nat) : Nat := op <<< 28 ||| i <<< 16 ||| p

/-- FOL_START. -/
def execFolStart (m : Master) (p : Nat) (s : State) : Host.Outcome State Fault Refusal :=
  .next (if p < 256 then gated m FOL_CMD (folWord 1 0 p) (folCmd m (folWord 1 0 p)) s else s)

/-- FOL_STOP. -/
def execFolStop (m : Master) (p : Nat) (s : State) : Host.Outcome State Fault Refusal :=
  .next (if p < 256 then gated m FOL_CMD (folWord 2 0 p) (folCmd m (folWord 2 0 p)) s else s)

/-- ABORT_XFADE. -/
def execAbortXfade (m : Master) (p : Nat) (s : State) : Host.Outcome State Fault Refusal :=
  .next (if p < 256 then gated m FOL_CMD (folWord 3 0 p) (folCmd m (folWord 3 0 p)) s else s)

/-- SWITCH. -/
def execFolSwitch (m : Master) (p idx : Nat) (s : State) : Host.Outcome State Fault Refusal :=
  .next (if p < 256 && idx < 16 then gated m FOL_CMD (folWord 4 idx p) (folCmd m (folWord 4 idx p)) s else s)

/-- REALIGN. -/
def execFolRealign (m : Master) (p : Nat) (s : State) : Host.Outcome State Fault Refusal :=
  .next (if p < 256 then gated m FOL_CMD (folWord 5 0 p) (folCmd m (folWord 5 0 p)) s else s)

/-! ## Registers -/

/-- A write of w to a register of programme p at address a by master m (R277). -/
def folRegWrite (m : Master) (p a : Nat) (w : Word) (s : State) : State :=
  folGuard m p (fun s =>
    if a ≤ FOLp_DELAY p && s.folState p != 0 && regPut a w s != s then refuseInst (FOLp_STAT p) codeWrongState s
    else if !regOk a w then refuseInst (FOLp_STAT p) codeReserved s
    else regPut a w s) s

/-- A write of FOL_POOL or FOL_DEC (R278). -/
def folPoolWrite (a : Nat) (w : Word) (s : State) : State :=
  if !s.livePrograms.isEmpty && regPut a w s != s then refuse FOL_REFUSE codeWrongState s
  else
    let base := bitsOf w.toNat 24 16
    let cnt := bitsOf w.toNat 9 0
    let bad := if a = FOL_POOL then decide (s.hdr.paths < base + cnt) || (s.ktOwned && base < 4 && cnt != 0)
               else decide (s.hdr.dec < bitsOf w.toNat 7 0)
    if bad then refuse FOL_REFUSE codeReserved s else regPut a w s

/-! ## Programmes -/

/-- PROG_SEARCH_START: at t_s a PENDING programme enters SEARCH, silent, and its programme time starts (R253). -/
def execProgSearchStart (p t : Nat) (s : State) : Host.Outcome State Fault Refusal :=
  let s1 := s.advance t
  .next (if p < 256 && s.folState p = 1 && t = (s.prog p).startAt && s1.now = t then
    let s2 := ((s1.setF (FOLp_STAT_STATE p) 2).setF (FOLp_STAT_SILENT p) 1).setProg p { s1.prog p with nextTs := t }
    folShow p s2
  else s)

/-- The samples of a 20 ms ramp at 48 kS/s. -/
def rampSamples : Nat := 960

/-- PROG_ORIGIN: the first usable and eligible candidate becomes the origin at t_u, and the programme runs (R253). -/
def execProgOrigin (p idx tu : Nat) (s0 : State) : Host.Outcome State Fault Refusal :=
  let s := s0.advance tu
  let v := s.prog p
  .next (match v.cand idx with
    | some c =>
      if p < 256 && s.firmwareOn 1 && s.folState p = 2 && v.active.isNone && c.bad.isNone && s.usable p c && s.eligible p c 0 then
        let s1 := ((s.setF (FOLp_STAT_STATE p) 3).setF (FOLp_STAT_SILENT p) 0).setF (FOLp_STAT_ALLLOST p) 0
        folShow p (s1.setProg p { v with
          cands := candPut idx { c with a := 0, aligned := true, inelig := false, g := 0 } v.cands, active := some idx,
          riseLeft := rampSamples, riseFrom := max v.nextTs (ceilTo Config.audioBlock s.now) })
      else s
    | none => s)

/-- PROG_STOPPED: the last block of the stop ramp has been formed (R254). -/
def execProgStopped (p : Nat) (s : State) : Host.Outcome State Fault Refusal :=
  .next (if p < 256 && 2 ≤ s.folState p && (s.prog p).stopping = some 0 then folStopped p s else s)

/-- A pool path is stopped and leaves the pool's list. -/
def poolStop (n : Nat) (s : State) : State :=
  let s1 := pathStop n s
  useShow { s1 with fol := { s1.fol with pool := s1.fol.pool.filter fun q => q.1 != n } }

/-- What has waited 10 s since it was last needed is stopped (R254, R258). -/
def tenSeconds : Nat := 10 * Config.ticksPerSecond

/-- POOL_IDLE_STOP: pool paths and decoders that no running programme has needed for 10 s at t are stopped (R254). -/
def execPoolIdleStop (t : Nat) (s : State) : Host.Outcome State Fault Refusal :=
  let s1 := idleRefresh (s.advance t)
  let due : Nat → Bool := fun x => decide (x + tenSeconds ≤ s1.now)
  let paths := (s1.fol.pool.filter fun q => (q.2.idle.map due).getD false).map (·.1)
  let decs := (s1.fol.decIdle.filter fun q => due q.2).map (·.1)
  .next (if s.firmwareOn 1 then useShow (forEach decs decStop (forEach paths poolStop s1)) else s)

/-! ## Candidate sets -/

/-- The index a new entry takes (R256): a host entry its own, another the lowest free one, and with none free that of the
non-host entry of the lowest E, neither active nor incoming, that has been unusable for 10 s. -/
def State.candIndex (s : State) (v : Prog) (origin idx : Nat) : Option Nat :=
  if origin = 0 then some idx
  else
    let used := v.cands.map (·.1) ++ v.host.map (·.1)
    match (List.range 16).find? fun i => !used.contains i with
    | some i => some i
    | none =>
      let old := v.cands.filter fun q => q.2.origin != 0 && v.active != some q.1 && v.incoming != some q.1
        && q.2.bad.isSome && decide (q.2.badSince + tenSeconds ≤ s.now)
      (old.foldl (fun b q => match b with
        | none => some q
        | some r => if q.2.e.getD 0 < r.2.e.getD 0 then some q else some r) none).map (·.1)

/-- The condition for entry of R255. -/
def State.mayEnter (s : State) (p : Nat) (c : Cand) : Bool :=
  let isDab := c.kind != 1
  let fm := s.getF (PTHn_CTL_TYPE c.num) == 1
  (if c.origin = 0 then (c.kind != 1 || fm || s.flag (FOLp_CTL_AM p)) && (!isDab || s.flag (FOLp_CTL_DAB p))
   else if c.origin = 1 then
     (if isDab then c.kind == 2 && s.decState c.num == 2 && s.flag (FOLp_CTL_DAB p)
      else s.getF (PTHn_STAT_STATE c.num) == 2 && fm) && s.identity p c
   else if c.origin = 2 then c.kind == 1 && (s.path c.num).pool && s.identity p c
   else (c.kind == 3 && s.flag (FOLp_CTL_DAB p) || c.kind == 1 && s.getF (PTHn_STAT_STATE c.num) == 2) && s.identity p c)

/-- Place a new entry: UNUSABLE where a condition of R260 holds already, and judged for eligibility (R250). -/
def candEnter (p i : Nat) (c : Cand) (s : State) : State :=
  let bad := c.kind != 3 && !s.usable p c
  let s1 := (s.dropCand p i).setCand p i { c with
    bad := if bad then some (s.prog p).nextTs else none, badSince := s.now, sub := if c.kind = 3 then c.num else 0 }
  folShow p (ineligStep p i s1)

/-- The host entry of index i, where it is the source named. -/
def Prog.hostBias (v : Prog) (i kind num : Nat) : Option Int :=
  match v.host.find? (fun q => q.1 == i) with
  | some q => if q.2.kind = kind && q.2.num = num then some q.2.bias else none
  | none => none

/-- CANDIDATE_ADD: a qualifying source that holds an audio channel is added to the set of a programme in SEARCH or
RUNNING (R255, R256, R288); idx is the index of a host entry. -/
def execCandidateAdd (p origin kind num idx : Nat) (s : State) : Host.Outcome State Fault Refusal :=
  let v := s.prog p
  let c : Cand := { kind := kind, num := num, origin := origin, bias := (v.hostBias idx kind num).getD 0 }
  let known := v.cands.any fun q => q.2.kind == kind && q.2.num == num && !q.2.removed
  .next (if p < 256 && s.firmwareOn 1 && idx < 16 && 2 ≤ s.folState p && !known && s.mayEnter p c
      && (kind == 3 || (s.chanOf kind num).isSome)
      && (origin != 0 || (v.hostBias idx kind num).isSome && (v.cand idx).isNone) then
    match s.candIndex v origin idx with
    | some i => candEnter p i { c with bias := if origin = 0 then c.bias else 0 } s
    | none => s
  else s)

/-- CANDIDATE_REMOVE: an entry that is not a host entry leaves 10 s after its identity stopped matching (R256). -/
def execCandidateRemove (p idx t : Nat) (s : State) : Host.Outcome State Fault Refusal :=
  let s1 := s.advance t
  let v := s1.prog p
  .next (match v.cand idx with
    | some c =>
      if s.firmwareOn 1 && (c.origin != 0 || c.removed) && v.active != some idx && v.incoming != some idx
          && !s1.identity p c && (c.lost.map fun x => decide (x + tenSeconds ≤ s1.now)).getD false then
        folShow p (s1.dropCand p idx)
      else s
    | none => s)

/-- Entry i becomes unusable (R256, R260, R276): its unusable point converts to programme time by R249; mid-fade the weights
go to the other side over one block. -/
def candBad (p i : Nat) (s : State) : State :=
  match (s.prog p).cand i with
  | none => s
  | some c =>
    let v := s.prog p
    let tb := ((s.badFrom p c : Int) - v.aOf i c * 81920).toNat
    let lost := if s.identity p c then none else some s.now
    let s1 := s.setCand p i { c with bad := some tb, badSince := s.now, lost := lost, goodRun := 0, above := none }
    let v1 := s1.prog p
    let actBad := ((v1.active.bind v1.cand).map fun d => d.bad.isSome).getD false
    let s2 := if v1.fade.isSome && v1.incoming = some i then s1.setProg p (v1.cutFade (!actBad))
              else if v1.fade.isSome && v1.active = some i then s1.setProg p (v1.cutFade false)
              else s1
    folShow p (lostShow p s2)

/-- The identity of an entry that is unusable or has no decoder stops matching: it is UNUSABLE at once (R256). -/
def candLost (p i : Nat) (c : Cand) (s : State) : State :=
  folShow p (s.setCand p i { c with bad := some (c.bad.getD (s.prog p).nextTs), lost := some s.now,
                                    badSince := if c.bad.isSome then c.badSince else s.now })

/-- CANDIDATE_UNUSABLE: a condition of R260 holds for an entry that was usable, or the identity of another has stopped
matching (R256). -/
def execCandidateUnusable (p idx : Nat) (s : State) : Host.Outcome State Fault Refusal :=
  .next (match (s.prog p).cand idx with
    | some c =>
      if p < 256 && s.firmwareOn 1 && c.kind != 3 && c.bad.isNone && !s.usable p c then candBad p idx s
      else if p < 256 && s.firmwareOn 1 && !s.identity p c && c.lost.isNone then candLost p idx c s
      else s
    | none => s)

/-- CANDIDATE_USABLE: no condition has held for 5 windows or 10 frames (R260); an entry whose identity matches again is not
to be removed (R256). -/
def execCandidateUsable (p idx : Nat) (s : State) : Host.Outcome State Fault Refusal :=
  .next (match (s.prog p).cand idx with
    | some c =>
      if p < 256 && s.firmwareOn 1 && c.bad.isSome && s.usable p c && decide ((if c.kind = 1 then 5 else 10) ≤ c.goodRun) then
        folShow p (lostShow p (ineligStep p idx (s.setCand p idx { c with bad := none, lost := none })))
      else if p < 256 && s.firmwareOn 1 && c.lost.isSome && s.identity p c then
        folShow p (s.setCand p idx { c with lost := none, bad := if c.kind = 3 then none else c.bad })
      else s
    | none => s)

/-- FOL_INELIG: an entry that fails R250 enters INELIG. -/
def execFolInelig (p idx : Nat) (s : State) : Host.Outcome State Fault Refusal :=
  .next (if p < 256 && s.firmwareOn 1 then folShow p (ineligStep p idx s) else s)

/-- Whether the source of a written host entry exists (R278). -/
def State.hostNumOk (s : State) (kind num : Nat) : Bool :=
  if kind = 1 then decide (num < s.hdr.paths) else if kind = 2 then decide (num < s.hdr.dec)
  else decide (num / 256 % 64 < s.hdr.ens) && decide (num < 16384)

/-- An entry leaves the set by the host's hand: the active or incoming source becomes unusable first (R279). -/
def hostRemove (p i : Nat) (s : State) : State :=
  let v := s.prog p
  match v.cand i with
  | none => s
  | some c =>
    if v.active = some i || v.incoming = some i then candBad p i (s.setCand p i { c with removed := true })
    else s.dropCand p i

/-- The programme with entry i numbered j. -/
def Prog.rename (i j : Nat) (v : Prog) : Prog :=
  { v with cands := match v.cand i with | some c => candPut j c (v.cands.filter fun q => q.1 != i) | none => v.cands
           active := if v.active = some i then some j else v.active
           fade := v.fade.map fun f => if f.inc = i then { f with inc := j } else f
           hard := v.hard.map fun h => if h.2.1 = i then (h.1, j, h.2.2) else h }

/-- An index of the set is written anew (R279): the source it held leaves, and one that is active or incoming gives up the
index, so that the new entry can take it at once (notes/assumptions/154.md). -/
def hostReplace (p i : Nat) (s : State) : State :=
  let v := s.prog p
  let j := if (v.cand (16 + i)).isSome then 32 + i else 16 + i
  if v.active = some i || v.incoming = some i then hostRemove p j (s.setProg p (v.rename i j)) else hostRemove p i s

/-- Sources that gave up their index and are neither active nor incoming leave the set. -/
def dropReplaced (p : Nat) (s : State) : State :=
  let v := s.prog p
  let gone := v.cands.filter fun q => decide (16 ≤ q.1) && v.active != some q.1 && v.incoming != some q.1
  forEach (gone.map (·.1)) (fun i s => s.dropCand p i) s

/-- A write of w to FOL_CLIST by master m, at the entry FOL_CSEL names (R278, R279); one that names the source the entry
already holds gives it a new BIAS alone. -/
def clistWrite (m : Master) (w : Nat) (s : State) : State :=
  let p := s.getF FOL_CSEL_PROG
  let i := s.getF FOL_CSEL_INDEX
  let kind := bitsOf w 30 29
  let num := bitsOf w 15 0
  let h : HostEntry := ⟨kind, num, signedOf 8 (bitsOf w 23 16)⟩
  folGuard m p (fun s =>
    if bitsOf w 31 31 = 1 && (kind == 0 || !s.hostNumOk kind num) then refuseInst (FOLp_STAT p) codeReserved s
    else
      let valid := bitsOf w 31 31 = 1
      let same := valid && ((s.prog p).host.any fun q => q.1 == i && q.2.kind == kind && q.2.num == num)
      let s1 := if same then
          (match (s.prog p).cand i with
            | some c => if c.origin = 0 then s.setCand p i { c with bias := h.bias } else s
            | none => s)
        else if valid then hostReplace p i s else hostRemove p i s
      let v := s1.prog p
      let rest := v.host.filter fun q => q.1 != i
      let off := v.off.filter fun q => q.1 != i
      folShow p (s1.setProg p { v with host := rest ++ (if valid then [(i, h)] else [])
                                       off := off ++ (if valid then [] else [(i, bitsOf w 30 29 <<< 29 ||| bitsOf w 23 16 <<< 16 ||| num)]) })) s

/-- CLIST_WRITE. -/
def execClistWrite (m : Master) (v : Word) (s : State) : Host.Outcome State Fault Refusal :=
  .next (gated m FOL_CLIST v.toNat (clistWrite m v.toNat) s)

/-- FENNEL_INFO_UPDATE: firmware passes on what a LOCKED slot carries (R244). -/
def execFennelInfoUpdate (n : Nat) (v : DabInfo) (s : State) : Host.Outcome State Fault Refusal :=
  .next (if n < 48 && s.slotLocked n && s.flag (ENSs_STAT_FIC_OK n) then
    { s with fol := { s.fol with info := (s.fol.info.filter fun q => q.1 != n) ++ [(n, v)] } } else s)

/-! ## Pool paths and decoders -/

/-- Configure path n as a pool path on a frequency (R257). -/
def poolConfig (n hz : Nat) (s : State) : State :=
  let inp := if s.feat 12 then 2 else 0
  let s1 := ((s.wr (PTHn_CTL n) (BitVec.ofNat 32 (6 <<< 12 ||| inp <<< 8 ||| 1))).setF (PTHn_BIN_BIN n) (binOf hz)).setI
    (PTHn_NCO_FREQ n) (freqOf hz (binOf hz))
  pathRefresh n (s1.setF (DEMn_CTL_RDS n) 1)

/-- POOL_PATH_START: a frequency from an AF list or FIG 0/21 is tried for programme p (R255, R257). -/
def poolPathStart (p hz : Nat) (s : State) : State :=
  match s.fol.pool.find? fun q => q.2.hz == hz with
  | some (n, q) =>
    if q.progs.contains p then s
    else idleRefresh { s with fol := { s.fol with
      pool := s.fol.pool.map fun r => if r.1 = n then (n, { q with progs := q.progs ++ [p] }) else r } }
  | none =>
    let base := s.getF FOL_POOL_BASE
    let free := (List.range (s.getF FOL_POOL_COUNT)).find? fun i =>
      decide (base + i < s.hdr.paths) && s.getF (PTHn_STAT_STATE (base + i)) == 0
    match free with
    | none => s
    | some i =>
      let n := base + i
      let s1 := pathStart n (poolConfig n hz s)
      let s2 := s1.setPath n { s1.path n with pool := true }
      if s1.getF (PTHn_STAT_STATE n) != 1 then s1
      else useShow { s2 with fol := { s2.fol with pool := s2.fol.pool ++ [(n, { hz := hz, progs := [p] })] } }

/-- POOL_PATH_START: at most six pool paths for one programme, and no frequency within 60 s of its rejection (R257). -/
def execPoolPathStart (p hz : Nat) (fig : Bool) (s : State) : Host.Outcome State Fault Refusal :=
  let mine := (s.fol.pool.filter fun q => q.2.progs.contains p).length
  let banned := s.fol.retry.any fun r => r.1 == p && r.2.1 == hz && decide (s.now < r.2.2)
  let known := if fig then s.fol.info.any fun q => q.2.fm.any fun x => x.2 == hz && s.piMatch p x.1
    else (s.prog p).cands.any fun q => q.2.kind == 1
      && ((s.dem q.2.num).af.contains hz || (s.dem q.2.num).eon.any fun x => x.2 == hz && s.piMatch p x.1)
  .next (if p < 256 && s.firmwareOn 1 && 2 ≤ s.folState p && s.getF (FOLp_CTL_KEY p) != 3 && mine < 6 && !banned && known
      && binOf hz < 2048 then poolPathStart p hz s else s)

/-- POOL_PATH_TIMEOUT: 3 s after its start, a pool path whose PI has not confirmed as matching is stopped, and its
frequency is not tried again for 60 s (R257). -/
def execPoolPathTimeout (n t : Nat) (s : State) : Host.Outcome State Fault Refusal :=
  let s1 := s.advance t
  .next (match s1.fol.pool.find? fun q => q.1 == n with
    | some (_, q) =>
      let ok := s1.flag (DEMn_STAT_PI_CONF n) && q.progs.any fun p => s1.piMatch p (s1.getF (DEMn_PI_PI n))
      if s.firmwareOn 1 && s1.pathRunning n && !ok && decide (s1.pathOrigin n + 3 * Config.ticksPerSecond ≤ s1.now) then
        let bans := q.progs.map fun p => (p, q.hz, s1.now + 60 * Config.ticksPerSecond)
        poolStop n { s1 with fol := { s1.fol with retry := s1.fol.retry ++ bans } }
      else s
    | none => s)

/-- Decoders with OWNER = 1. -/
def State.ownedDecs (s : State) : List Nat := s.liveDecs.filter fun d => s.flag (DECd_CTL_OWNER d)

/-- Decoders Fennel holds for programme p beside the active source's (R258). -/
def State.otherHeld (s : State) (v : Prog) : List Nat :=
  (v.cands.filter fun q => q.2.kind == 2 && v.active != some q.1 && s.flag (DECd_CTL_OWNER q.2.num)).map (·.1)

/-- Entry j gives up the decoder that Fennel holds for it (R258): it has none again, and a decoder that no other programme
uses is stopped. -/
def decoderGive (p j : Nat) (s : State) : State :=
  match (s.prog p).cand j with
  | some c =>
    let s1 := candEnter p j { kind := 3, num := c.sub, origin := c.origin, e := c.e } s
    if s1.needed 2 c.num then s1 else useShow (decStop c.num s1)
  | none => s

/-- A DAB candidate of ORIGIN 3 leads those that are neither active nor incoming by E, on equal E by index (R258). -/
def Prog.leadsDab (v : Prog) (i : Nat) (c : Cand) : Bool :=
  c.origin == 3 && v.active != some i && v.incoming != some i
    && v.cands.all fun q => q.1 == i || q.2.kind == 1 || q.2.bad.isSome || v.active == some q.1 || v.incoming == some q.1
      || (q.2.kind == 3 && q.2.origin != 3) || decide (q.2.e.getD 0 < c.e.getD 0)
      || (decide (q.2.e.getD 0 = c.e.getD 0) && decide (i < q.1))

/-- FENNEL_DECODER_START: a DAB entry without a decoder in a LOCKED slot gets one (R258): a live decoder of its sub-channel,
or, for the leading entry of ORIGIN 3, the lowest STOPPED one within the limits, with an audio channel; the decoder held for
an entry of lower E is given up for it, the incoming source's is not. -/
def decoderStart (p i : Nat) (c : Cand) (s : State) : State :=
  let slot := c.num / 256 % 64
  let sub := c.num % 64
  match s.liveDecs.find? fun d => s.getF (DECd_CTL_SLOT d) == slot && s.getF (DECd_CTL_SUBCH d) == sub with
  | some d => if ((chanTake 2 d s).chanOf 2 d).isSome then candEnter p i { c with kind := 2, num := d } (chanTake 2 d s) else s
  | none =>
    let held := s.otherHeld (s.prog p)
    if !(s.prog p).leadsDab i c || held.any (fun j => (s.prog p).incoming == some j) then s
    else
      let s := forEach held (decoderGive p) s
      if s.mrw.chans ≤ s.channels.length || s.getF FOL_DEC_MAX ≤ s.ownedDecs.length then s
      else match (List.range s.hdr.dec).find? fun d => s.decState d == 0 with
        | none => s
        | some d =>
          let w := slot <<< 16 ||| sub <<< 8 ||| 16
          let s1 := chanTake 2 d (decStart (.core 1) d (s.wr (DECd_CTL d) (BitVec.ofNat 32 w)))
          let s2 := candEnter p i { c with kind := 2, num := d } s1
          match (s2.prog p).cand i with
          | some c2 => folShow p (s2.setCand p i { c2 with sub := c.num })
          | none => s2

/-- FENNEL_DECODER_START. -/
def execFennelDecoderStart (p idx : Nat) (s : State) : Host.Outcome State Fault Refusal :=
  .next (match (s.prog p).cand idx with
    | some c =>
      if p < 256 && s.firmwareOn 1 && c.kind = 3 && c.bad.isNone && s.slotState (c.num / 256 % 64) = 3 then decoderStart p idx c s else s
    | none => s)

/-- FENNEL_DECODER_STOP: a decoder with OWNER = 1 that no programme has needed for 10 s at t is stopped (R258). -/
def execFennelDecoderStop (d t : Nat) (s : State) : Host.Outcome State Fault Refusal :=
  let s1 := idleRefresh (s.advance t)
  .next (match s1.fol.decIdle.find? fun q => q.1 == d with
    | some (_, x) => if s.firmwareOn 1 && x + tenSeconds ≤ s1.now then useShow (decStop d s1) else s
    | none => s)

/-! ## Scores -/

/-- Tenths as a rational. -/
def tenths (x : Int) : Rat := (x : Rat) / 10

/-- The raw quality Q of a usable source (R261). -/
def State.quality (s : State) (c : Cand) : Rat :=
  if c.kind = 1 then
    let base := min 750 (max 0 (25 * tenths (s.getI (DEMn_LVL_CNR c.num))))
    if s.getF (PTHn_CTL_TYPE c.num) = 1 then
      base + 250 - min 150 ((3 * (s.getF (DEMn_FM_MPATH c.num) : Rat)) / 10)
        - min 100 (max 0 (2 * (tenths (s.getI (DEMn_FM_USN c.num)) + 50)))
    else base
  else
    let mer := tenths (s.getI (ENSs_LVL_MER (s.getF (DECd_CTL_SLOT c.num))))
    max 0 (1000 - 10 * (s.getF (DECd_QUAL_ERR c.num) : Rat) - 25 * max 0 (12 - mer))

/-- The bias b of a source (R261). -/
def State.bias (s : State) (p : Nat) (c : Cand) : Int :=
  4 * c.bias + (if c.kind = 2 then 4 * s.getI (FOLp_POL1_DAB_BIAS p)
    else if s.getF (PTHn_CTL_TYPE c.num) = 0 then 4 * s.getI (FOLp_POL1_AM_BIAS p) else 0)

/-- One step of the first-order average of R261: delta and tau in milliseconds. -/
def average (e : Option Rat) (x : Rat) (delta tau : Nat) : Rat :=
  match e with
  | none => x
  | some y => y + (x - y) * (delta : Rat) / ((tau + delta : Nat) : Rat)

/-- The window or frame that SCORE_UPDATE takes yields a Q: valid and not warming up, or a running decoder's. -/
def State.scored (s : State) (c : Cand) : Bool :=
  if c.kind = 1 then s.flag (DEMn_STAT_QVALID c.num) && !s.flag (DEMn_STAT_WARMUP c.num)
  else s.decState c.num == 2 || s.decState c.num == 3

/-- Entry i has led the active source by HYST, since when (R262). -/
def State.aboveStep (s : State) (p : Nat) (v : Prog) (i : Nat) (c : Cand) : Option Nat :=
  match v.active.bind v.cand with
  | none => none
  | some a =>
    if v.active != some i && decide (a.e.getD 0 + (s.getF (FOLp_POL0_HYST p) : Rat) ≤ c.e.getD 0) && c.e.isSome then
      some (c.above.getD s.now) else none

/-- SCORE_UPDATE: a window or frame of entry i is published (R260, R261). -/
def scoreUpdate (p i : Nat) (c : Cand) (s : State) : State :=
  let ok := s.usable p c
  let q := if ok && c.bad.isNone then s.quality c else 0
  let x := q + (s.bias p c : Rat)
  let e := average c.e x (if c.kind = 1 then 4 else 24) (100 * s.getF (FOLp_POL1_TAU p))
  let s1 := s.setCand p i { c with e := some e, goodRun := if ok then c.goodRun + 1 else 0 }
  let v := s1.prog p
  let s2 := s1.setProg p { v with cands := v.cands.map fun r => (r.1, { r.2 with above := s1.aboveStep p v r.1 r.2 }) }
  folShow p (ineligStep p i s2)

/-- The run of good windows or frames after one that yields no Q: an invalid window, or a decoder that is not running,
breaks it (R260, R261). -/
def State.unscoredRun (s : State) (p : Nat) (c : Cand) : Nat :=
  if c.kind = 1 && s.flag (DEMn_STAT_QVALID c.num) && s.usable p c then c.goodRun + 1 else 0

/-- SCORE_UPDATE. -/
def execScoreUpdate (p idx : Nat) (s : State) : Host.Outcome State Fault Refusal :=
  .next (match (s.prog p).cand idx with
    | some c =>
      if p < 256 && s.firmwareOn 1 && c.kind != 3 then
        if s.scored c then scoreUpdate p idx c s else s.setCand p idx { c with goodRun := s.unscoredRun p c }
      else s
    | none => s)

/-! ## Switching -/

/-- The blocks of entry i for a span from the next programme block on carry no WARMUP: those that exist, and where the span
reaches beyond them the source is not warming up (R262). -/
def State.spanClean (s : State) (v : Prog) (i : Nat) (c : Cand) (ticks : Nat) : Bool :=
  let lo : Int := v.nextTs + v.aOf i c * 81920
  let l := s.stream (c.kind + 1) c.num
  l.all (fun b => decide ((b.ts : Int) + Config.audioBlock ≤ lo) || decide (lo + ticks ≤ b.ts) || !b.flags.testBit 1)
    && ((l.head?.map fun b => decide (lo + ticks ≤ b.ts + Config.audioBlock)).getD false
      || (if c.kind = 1 then !s.flag (PTHn_STAT_WARMUP c.num) else !s.flag (DECd_STAT_WARMUP c.num)))

/-- Entry i qualifies for a discretionary switch by its own state (R262 1, 2, 5). -/
def State.discReady (s : State) (p : Nat) (v : Prog) (i : Nat) (c : Cand) : Bool :=
  s.alignedTake v i c
    && (c.above.map fun x => decide (x + s.getF (FOLp_POL0_HOLD p) * 100 * Config.ticksPerMs ≤ s.now)).getD false
    && s.spanClean v i c (s.getF (FOLp_CTL_XFADE_MS p) * Config.ticksPerMs)

/-- DISCRETIONARY_SWITCH (R262). -/
def execDiscretionarySwitch (p : Nat) (s : State) : Host.Outcome State Fault Refusal :=
  let v := s.prog p
  let dwell := (v.lastSw.map fun x =>
    decide (x + s.getF (FOLp_POL0_MINDWELL p) * Config.ticksPerSecond ≤ v.nextTs)).getD true
  .next (if p < 256 && s.firmwareOn 1 && s.folState p = 3 && v.fade.isNone && v.hard.isNone && v.stopping.isNone && dwell then
    match bestOf (s.discReady p v) v.cands with
    | some (b, _) => fadeStart p b 1 (s.getF (FOLp_CTL_XFADE_MS p) * 48) v.nextTs s
    | none => s
  else s)

/-- The unusable point of the active source, or the next block for one that is INELIG (R263, R276); none while it may
stay. -/
def Prog.badPoint (v : Prog) : Option Nat :=
  match v.active.bind v.cand with
  | none => none
  | some c => if c.bad.isSome then c.bad else if c.inelig then some v.nextTs else none

/-- A switch may be decided: RUNNING, without a fade or a hard switch under way, and not stopping. -/
def State.mayDecide (s : State) (p : Nat) (v : Prog) : Bool :=
  s.folState p == 3 && v.fade.isNone && v.hard.isNone && v.stopping.isNone

/-- FORCED_SWITCH (R263): the fade ends at the unusable point where its start is not yet formed, so that it is longer than
FXF_MS by up to a block; otherwise it starts at the first block not yet formed. -/
def execForcedSwitch (p : Nat) (s : State) : Host.Outcome State Fault Refusal :=
  let v := s.prog p
  .next (match v.badPoint with
    | some tb =>
      if p < 256 && s.firmwareOn 1 && s.mayDecide p v && !s.flag (FOLp_STAT_SILENT p) then
        match bestOf (s.alignedTake v) v.cands with
        | some (b, _) =>
          let ms := s.getF (FOLp_CTL_FXF_MS p)
          let tx := (tb - ms * Config.ticksPerMs) / Config.audioBlock * Config.audioBlock
          if v.nextTs ≤ tx then fadeStart p b 2 ((tb - tx) / 81920) tx s else fadeStart p b 2 (ms * 48) v.nextTs s
        | none => s
      else s
    | none => s)

/-- A hard switch to entry b is decided (R264): at the unusable point, or at the first block not yet formed if that is
later. -/
def hardStart (p b tb : Nat) (c : Cand) (s : State) : State :=
  let v := s.prog p
  let t := max v.nextTs tb
  let a := if s.eligible p c v.aActive then v.aActive else s.aLargest p c
  let cs := candPut b { c with a := a } v.cands
  let s1 := s.setProg p { v with cands := cs, hard := some (t, b, (v.mute.map (·.2)).getD v.nextTs), mute := none, lastSw := some t }
  let s2 := ((s1.set64 (FOLp_LASTSW_LO p) (FOLp_LASTSW_HI p) t).setF (FOLp_XF_KIND p) 3).bump (FOLp_CNT1_HARD p)
  folShow p (raise evFolSwitch p s2)

/-- HARD_SWITCH (R264, R276): with no candidate ALIGNED, or from silence, to the best usable and eligible one. -/
def execHardSwitch (p : Nat) (s : State) : Host.Outcome State Fault Refusal :=
  let v := s.prog p
  .next (match v.badPoint with
    | some tb =>
      if p < 256 && s.firmwareOn 1 && s.mayDecide p v
          && (s.flag (FOLp_STAT_SILENT p) || (bestOf (s.alignedTake v) v.cands).isNone) then
        match bestOf (s.takeable v) v.cands with
        | some (b, c) => hardStart p b tb c s
        | none => s
      else s
    | none => s)

/-- The fade of a programme is over (R249, R267, R269): the survivor is the active source, and no candidate has led it
yet. -/
def fadeEnd (p : Nat) (f : Fade) (s : State) : State :=
  let v := s.prog p
  let act := if f.back then v.active else some f.inc
  let cs := v.cands.map fun r =>
    if act = some r.1 || v.active = some r.1 then (r.1, { r.2 with aligned := true, above := none })
    else (r.1, { r.2 with above := none })
  folShow p (dropReplaced p ((s.setProg p { v with active := act, fade := none, cands := cs }).setF (FOLp_STAT_DEFER p) 0))

/-- XFADE_END: the block that holds the fade's last sample has been formed (R269). -/
def execXfadeEnd (p : Nat) (s : State) : Host.Outcome State Fault Refusal :=
  .next (match (s.prog p).fade with
    | some f => if p < 256 && f.left = 0 then fadeEnd p f s else s
    | none => s)

/-! ## Alignment and loudness -/

/-- Gains lie within 12 dB of unity, in 0.1 dB (R268). -/
def gainClamp (g : Int) : Int := clampInt (-120) 120 g

/-- A candidate after its offset d has been accepted (R249, R265, R268): its A, and the first G where LOUD is 1. -/
def candAligned (v : Prog) (loud : Bool) (d dl : Int) (c : Cand) : Cand :=
  let c1 := { c with aligned := true, a := v.aActive + d, okLast := some d, fails := 0 }
  if loud && !c.gSet then
    { c1 with g := gainClamp (v.gActive + dl), clamp := gainClamp (v.gActive + dl) != v.gActive + dl, gSet := true }
  else c1

/-- A candidate after a measurement (R265, R266). -/
def alignStep (v : Prog) (loud valid : Bool) (d dl : Int) (rho : Nat) (c : Cand) : Cand :=
  let c0 := { c with rho := rho }
  if c.aligned then
    if valid && decide ((d - (c.a - v.aActive)).natAbs ≤ 32) then candAligned v loud d dl c0
    else if c.fails + 1 < 3 then { c0 with fails := c.fails + 1 }
    else { c0 with aligned := false, okLast := none, fails := 0 }
  else if valid then
    match c.okLast with
    | some d0 => if (d - d0).natAbs ≤ 1 then candAligned v loud d dl c0 else { c0 with okLast := some d, fails := 0 }
    | none => { c0 with okLast := some d, fails := 0 }
  else { c0 with okLast := none, fails := c.fails + 1 }

/-- A candidate after ΔL: G = G_active + ΔL, clamped, moving by at most 1 dB once there is one (R268). -/
def candLoud (v : Prog) (dl : Option Int) (c : Cand) : Cand :=
  match dl with
  | none => c
  | some x =>
    let g := gainClamp (v.gActive + x)
    { c with g := if c.gSet then clampInt (c.g - 10) (c.g + 10) g else g, clamp := g != v.gActive + x, gSet := true }

/-- The window of entry c that begins at u is its next one: windows are consecutive, and one whose audio is not wholly in the
ring is passed over (R265). -/
def State.windowOk (s : State) (p : Nat) (v : Prog) (a c : Cand) (u : Nat) : Bool :=
  c.winAt == 0 || u == c.winAt
    || (decide (c.winAt ≤ u) && (u - c.winAt) % (2 * Config.ticksPerSecond) == 0 && (s.measure p v a c c.winAt).isNone)

/-- ALIGN_MEASURE: the window of 2 s of entry idx that begins at source instant u, once every sample it needs is in the audio
ring; a gated one yields no measurement (R265, R266, R268). -/
def execAlignMeasure (p idx u : Nat) (s : State) : Host.Outcome State Fault Refusal :=
  let v := s.prog p
  .next (match v.cand idx, v.active.bind v.cand with
    | some c, some a =>
      if p < 256 && s.folState p = 3 && v.active != some idx && v.incoming != some idx && c.kind != 3 && c.bad.isNone
          && s.windowOk p v a c u then
        match s.measure p v a c u with
        | none => s
        | some m =>
          let c1 := { c with winAt := u + 2 * Config.ticksPerSecond }
          let c2 := match m with
            | none => c1
            | some (x, dl) =>
              let valid := x.clear && decide (s.getF (FOLp_POL1_RHO_MIN p) ≤ x.rho)
              alignStep v (s.flag (FOLp_CTL_LOUD p)) valid x.d (dl.getD 0) x.rho c1
          folShow p (ineligStep p idx (s.setCand p idx c2))
      else s
    | _, _ => s)

/-- LOUDNESS_UPDATE: over the 10 s of programme time from t on, an ALIGNED entry against the active source (R268). -/
def execLoudnessUpdate (p idx t : Nat) (s : State) : Host.Outcome State Fault Refusal :=
  let v := s.prog p
  .next (match v.cand idx, v.active.bind v.cand with
    | some c, some a =>
      if p < 256 && s.flag (FOLp_CTL_LOUD p) && v.candState idx c = 2 && c.loudAt ≤ t then
        match s.loudness v a c t with
        | none => s
        | some l => folShow p (s.setCand p idx (candLoud v l { c with loudAt := t + 10 * Config.ticksPerSecond }))
      else s
    | _, _ => s)

/-! ## Forming -/

/-- A source block is missing, VOID or STALE. -/
def blockBad (b : Option Block) : Bool := (b.map fun x => (x.flags &&& 9) != 0).getD true

/-- The 64 samples of a stream from an instant on, with the OR of the flags of the blocks that hold them; none where one
is missing (R14, R249). -/
def gather (l : List Block) (u : Nat) : Option Block :=
  let at_ := fun (t : Nat) => l.find? fun b => decide (b.ts ≤ t) && decide (t < b.ts + Config.audioBlock)
  let xs := (List.range 64).filterMap fun j => (at_ (u + j * 81920)).map fun b =>
    (b.flags, (stereo b.samples).getD ((u + j * 81920 - b.ts) / 81920) (0, 0))
  if xs.length = 64 then some ⟨u, xs.foldl (fun f x => f ||| x.1) 0, xs.flatMap fun x => [x.2.1, x.2.2]⟩ else none

/-- The audio of entry i for the next programme block, among the source blocks that exist (R249, R251). -/
def State.srcBlock (s : State) (v : Prog) (i : Nat) : Option Block :=
  match v.cand i with
  | none => none
  | some c =>
    let u := (v.nextTs : Int) + v.aOf i c * 81920
    if u < 0 || c.kind = 3 then none else gather (s.stream (c.kind + 1) c.num) u.toNat

/-- The samples of entry i for the next programme block as far as they are there, zeros elsewhere; none where there are
none. -/
def State.srcPart (s : State) (v : Prog) (i : Nat) : Option Block :=
  match v.cand i with
  | none => none
  | some c =>
    let u := ((v.nextTs : Int) + v.aOf i c * 81920).toNat
    let l := (s.stream (c.kind + 1) c.num).filter fun b => decide (b.ts < u + Config.audioBlock) && decide (u < b.ts + Config.audioBlock)
    let at_ := fun (t : Nat) => match l.find? fun b => decide (b.ts ≤ t) && decide (t < b.ts + Config.audioBlock) with
      | some b => (stereo b.samples).getD ((t - b.ts) / 81920) (0, 0)
      | none => (0, 0)
    if l.isEmpty || c.kind = 3 then none
    else some ⟨u, l.foldl (fun f b => f ||| b.flags) 0, (List.range 64).flatMap fun j => (let x := at_ (u + j * 81920); [x.1, x.2])⟩

/-- A source's part in a programme block: the entry's audio, its role (0 alone, 1 outgoing, 2 incoming, 3 before and 4 from a
hard switch point within the block), its G in 0.1 dB,
and whether it rises by R197 (R269 to R271). -/
structure Share where
  blk : Block
  role : Nat
  g : Int
  warm : Option (Nat × Nat)

/-- The part of entry i; its first sample instant and D for the ramp of R271. -/
def State.share (s : State) (v : Prog) (i role : Nat) : List Share :=
  match v.cand i, (if 3 ≤ role then s.srcPart v i else s.srcBlock v i) with
  | some c, some b =>
    let start := if c.kind = 1 then s.get64 (PTHn_START_LO c.num) (PTHn_START_HI c.num) else (s.decoder c.num).runAt
    let d := if c.kind = 1 then s.getF (PTHn_DSMP_SAMPLES c.num) else 1152
    [⟨b, role, c.g, if b.flags.testBit 1 then some (start, d) else none⟩]
  | _, _ => []

/-- The active source's block, or the substitute of R270: a clean block of the ALIGNED, usable candidate of the highest E. -/
def State.patchShares (s : State) (v : Prog) (a : Nat) : List Share × Bool :=
  let ab := s.srcBlock v a
  if blockBad ab || (ab.map fun x => x.flags.testBit 1).getD false then
    let clean := fun i c => decide (v.candState i c = 2) && s.delivers c
      && ((s.srcBlock v i).map fun x => (x.flags &&& 11) == 0).getD false
    match bestOf clean v.cands with
    | some (b, _) => (s.share v b 0, true)
    | none => (s.share v a 0, false)
  else (s.share v a 0, false)

/-- What a programme block is made of, and whether a block was substituted (R269 to R271): within the span of a fade
both sides, and the other side alone where one is missing or flagged. -/
def State.shares (s : State) (v : Prog) : List Share × Bool :=
  match v.active with
  | none => ([], false)
  | some a =>
    match v.fade with
    | some f =>
      if f.tx ≤ v.nextTs then
        let ab := s.srcBlock v a
        let ib := s.srcBlock v f.inc
        if (blockBad ab && !blockBad ib) || ab.isNone then (s.share v f.inc 0, false)
        else if blockBad ib && !blockBad ab || ib.isNone then (s.share v a 0, false)
        else (s.share v a 1 ++ s.share v f.inc 2, false)
      else s.patchShares v a
    | none =>
      match v.hard with
      | some (t, b, _) =>
        if v.nextTs < t && t < v.nextTs + Config.audioBlock then (s.share v a 3 ++ s.share v b 4, false) else s.patchShares v a
      | none =>
        match v.mute with
        | some (t, _) =>
          if v.nextTs < t && t < v.nextTs + Config.audioBlock then (s.share v a 3, false) else s.patchShares v a
        | none => s.patchShares v a

/-- The amplitude of a gain of G in 0.1 dB. -/
def gainOf (g : Int) : Rat := if g = 0 then 1 else (Config.amplitude (mkRat g 10) : Rat) / (2 ^ 23 : Nat)

/-- The point at which the active source ends by a hard switch or from want of any source, and from when on it falls. -/
def Prog.fallTo (v : Prog) : Option (Nat × Nat) :=
  match v.hard with
  | some (t, _, x) => some (t, x)
  | none => v.mute

/-- The ramps over a programme block at sample j: the rise of R253 and R264, the fall before a hard switch or silence (R264,
R276), the rise from a hard switch point within the block, and the fall of a stop (R254). -/
def Prog.envelope (v : Prog) (j : Nat) : Rat :=
  let u := v.nextTs + j * 81920
  let rise : Rat := if v.riseLeft = 0 || v.nextTs < v.riseFrom then 1 else mkRat (min 960 (960 - v.riseLeft + j) : Nat) 960
  let fall : Rat := match v.fallTo with
    | some (t, x) =>
      let from_ := max x (t - 78643200)
      if from_ ≤ u && u < t then mkRat ((t - u) / 81920 - 1 : Nat) (max 1 ((t - from_) / 81920))
      else if t ≤ u then mkRat (min 960 ((u - t) / 81920) : Nat) 960 else 1
    | none => 1
  let stop : Rat := match v.stopping with | some k => mkRat (k * 64 - 1 - j : Nat) 960 | none => 1
  rise * fall * stop

/-- A value of the mix: exact where it is whole, else rounded as the part rounds it (notes/assumptions/104.md). -/
def mixRound (x : Rat) : Int := satStream (if x.den = 1 then x.num else Config.quot 7 x.num x.den)

/-- The samples of a programme block: the cross-fade with each source's gain (R268, R269), the ramps of R271, and those
over the block. -/
def mixOf (v : Prog) (l : List Share) : List Int :=
  (List.range 64).flatMap fun j =>
    let w : Share → Rat := fun a =>
      let x : Rat := match v.fade with
        | some f => if a.role = 1 then 1 - f.weight j else if a.role = 2 then f.weight j else 1
        | none => match v.fallTo with
          | some (t, _) =>
            let before := decide (v.nextTs + j * 81920 < t)
            if a.role = 3 then (if before then 1 else 0) else if a.role = 4 then (if before then 0 else 1) else 1
          | none => 1
      let r : Rat := match a.warm with | some (t, d) => mkRat (min d ((a.blk.ts + j * 81920 - t) / 81920) : Nat) (max d 1) | none => 1
      x * gainOf a.g * r
    [0, 1].map fun c => mixRound (v.envelope j * (l.foldl (fun acc a => acc + w a * (a.blk.samples.getD (2 * j + c) 0 : Int)) 0))

/-- A hard switch whose point has come: the incoming entry is the active source, rising over 20 ms from the point, and no
candidate is ALIGNED to it until it is measured (R264). -/
def hardTake (p : Nat) (s : State) : State :=
  let v := s.prog p
  match v.hard with
  | none => s
  | some (t, b, _) =>
    if t ≤ v.nextTs then
      let cs := v.cands.map fun r => (r.1, { r.2 with above := none, aligned := false, okLast := none, fails := 0 })
      dropReplaced p ((s.setProg p { v with active := some b, hard := none, cands := cs
                                            riseLeft := rampSamples - (v.nextTs - t) / 81920, riseFrom := t }).setF (FOLp_STAT_SILENT p) 0)
    else s

/-- The output is silent from the point at which no source is left (R276). -/
def muteTake (p : Nat) (s : State) : State :=
  let v := s.prog p
  match v.mute with
  | some (t, _) => if t ≤ v.nextTs then (s.setProg p { v with mute := none }).setF (FOLp_STAT_SILENT p) 1 else s
  | none => s

/-- A block passes: fade, rise and stop ramp move on by 64 samples (R254, R264, R269). -/
def Prog.pass (v : Prog) : Prog :=
  { v with
    fade := v.fade.map fun f => if f.tx ≤ v.nextTs then { f with left := f.left - 64 } else f
    riseLeft := if v.riseFrom ≤ v.nextTs then v.riseLeft - 64 else v.riseLeft
    stopping := v.stopping.map fun k => k - 1
    nextTs := v.nextTs + Config.audioBlock }

/-- PROG_BLOCK_FORM: the next block of programme p is formed 1 ms before its release from the source blocks that exist,
or is dropped where Fennel cannot complete it (R251, R252, R270 to R272); it is VOID while its pods are out (R167). -/
def formBlock (p : Nat) (complete : Bool) (s : State) : State :=
  let s1 := muteTake p (hardTake p (if s.flag (FOLp_STAT_ALLLOST p) then lostShow p s else s))
  let v := s1.prog p
  if !complete || s.abandoned 4 p (v.nextTs + s.pgDelay p) then
    folShow p ((s1.setProg p { v.pass with formed := v.formed ++ [(v.nextTs, none)], dropNext := true }).bump (FOLp_CNT2_DROP p))
  else
    let silent := s1.flag (FOLp_STAT_SILENT p) || (v.riseLeft != 0 && decide (v.nextTs < v.riseFrom))
    let isVoid := s1.voidOver 4 p v.nextTs (v.nextTs + Config.audioBlock - 1)
    let r := if silent || isVoid then ([], false) else s1.shares v
    let s2 := if r.2 then s1.bump (FOLp_CNT1_PATCH p) else s1
    let flags := r.1.foldl (fun f a => f ||| a.blk.flags) ((if v.dropNext then 128 else 0) + (if isVoid then 8 else 0))
    let gap := r.1.isEmpty && !silent && !isVoid
    let blk : Block := ⟨v.nextTs, flags, if r.1.isEmpty then List.replicate 128 0 else mixOf v r.1⟩
    folShow p (streamNote 1 p blk (s2.setProg p { v.pass with formed := v.formed ++ [(v.nextTs, some blk)], dropNext := gap }))

/-- PROG_BLOCK_FORM. -/
def execProgBlockForm (p : Nat) (complete : Bool) (s : State) : Host.Outcome State Fault Refusal :=
  let v := s.prog p
  .next (if p < 256 && 2 ≤ s.folState p && v.stopping != some 0 then
    formBlock p complete (s.advance (v.nextTs + s.pgDelay p - 3932160)) else s)

end Sys2Proof.Machine
end

