-- ==== Sys2Proof/Machine/Marrow.lean ====
section
/-! DEFINITION. Marrow's regions, requests, rings, snapshots and ECC (spec/11 R281 to R300). -/

namespace Sys2Proof.Machine

/-! ## Regions -/

/-- The shadow base and size of region k, in units of 64 MiB (R284). -/
def State.shadow (s : State) (k : Nat) : Nat × Nat := (s.getF (MRW_REG_BASE_BASE k), s.getF (MRW_REG_SIZE_SIZE k))

/-- Two regions of non-zero size overlap. -/
def overlap (a b : Nat × Nat) : Bool :=
  a.2 != 0 && b.2 != 0 && decide (a.1 < b.1 + b.2) && decide (b.1 < a.1 + a.2)

/-- Some two regions of a list overlap. -/
def anyOverlap : List (Nat × Nat) → Bool
  | [] => false
  | a :: t => t.any (overlap a) || anyOverlap t

/-- The checks of APPLY over every shadow together (R283). -/
def State.shadowsOk (s : State) : Bool :=
  let l := (List.range 5).map s.shadow
  let ch := s.getF MRW_AUD_CFG_CHANS
  let aud := (s.shadow 1).2
  l.all (fun r => r.2 == 0 || decide (r.1 + r.2 ≤ 512)) && !anyOverlap l
    && (aud == 0 || decide (ch ≤ aud * 16)) && ch % 64 == 0 && decide (64 ≤ ch) && decide (ch ≤ 1024)

/-- A write of MRW_REG_CMD (R283): an APPLY after the first lock is refused before the shadows are checked. -/
def regCmdWrite (w : Nat) (s : State) : State :=
  if bitsOf w 0 0 = 0 then s
  else if s.flag MRW_REG_STAT_FIXED then refuse MRW_REFUSE codeLocked s
  else if !s.shadowsOk then refuse MRW_REFUSE codeReserved s
  else
    let s1 := s.setF MRW_REG_STAT_MATCH 1
    { s1 with mrw := { s1.mrw with act := (List.range 5).map s.shadow, chans := s.getF MRW_AUD_CFG_CHANS } }

/-- A write of a region shadow clears MATCH (R283). -/
def shadowWrite (a : Nat) (w : Word) (s : State) : State :=
  if regOk a w then (regPut a w s).setF MRW_REG_STAT_MATCH 0 else refuse MRW_REFUSE codeReserved s

/-- APPLY. -/
def execMrwApply (m : Master) (s : State) : Host.Outcome State Fault Refusal :=
  .next (gated m MRW_REG_CMD 1 (regCmdWrite 1) s)

/-- At the first lock the regions are fixed, and shadows never applied are discarded (R283). -/
def regionsFix (s : State) : State :=
  if s.flag MRW_REG_STAT_FIXED then s
  else
    let s1 := forEach [0, 1, 2, 4] (fun k s =>
      (s.setF (MRW_REG_BASE_BASE k) (s.mrw.act.getD k (0, 0)).1).setF (MRW_REG_SIZE_SIZE k) (s.mrw.act.getD k (0, 0)).2) s
    ((s1.setF MRW_AUD_CFG_CHANS s1.mrw.chans).setF MRW_REG_STAT_MATCH 1).setF MRW_REG_STAT_FIXED 1

/-- Records of one baseband channel (R287), and of one audio channel (R288). -/
def State.bbSlots (s : State) : Nat := s.regionSize 0 / 512 / 400

/-- Records of one audio channel (R288). -/
def State.audSlots (s : State) : Nat := s.regionSize 1 / s.mrw.chans / 400

/-- Rings are written from RUN onwards: t is the first release instant in RUN (R300). -/
def ringsStart (t : Nat) (s : State) : State :=
  let s1 := (s.set64 MRW_RING_T0_LO MRW_RING_T0_HI t).setB MRW_BBR_STAT_REC (s.regionSize 0 != 0)
  let s2 := (s1.setF MRW_BBR_STAT_DEPTH s.bbSlots).setF MRW_AUD_STAT_DEPTH s.audSlots
  s2.setF MRW_SNP_SLOTS_SLOTS (s.snapSlots (s.getF MRW_SNP_CTL_SRC))

/-! ## Requests -/

/-- The region that holds byte address a; 5 where none does. -/
def State.regionOf (s : State) (a : Nat) : Nat :=
  ((List.range 5).find? fun k => decide (s.regionBase k ≤ a) && decide (a < s.regionBase k + s.regionSize k)).getD 5

/-- A pod's write lies in its own part of the replay store (R286). -/
def State.replayOk (s : State) (q : MReq) : Bool :=
  s.feat 18 && s.hdr.replay.any fun r => r.1 == q.who
    && decide (s.regionBase 3 + r.2.1 ≤ q.addr) && decide (q.addr + q.len ≤ s.regionBase 3 + r.2.1 + r.2.2)

/-- Whether R285 permits a request. -/
def State.permits (s : State) (q : MReq) : Bool :=
  let k := s.regionOf q.addr
  let host := q.who == 264 || q.who == 265
  let core := decide (256 ≤ q.who) && decide (q.who < 264)
  let pod := decide (q.who < 256)
  let wait := s.flag SYS_BOOT_WAIT_HOST
  if k = 0 || k = 1 then if q.write then pod else host || core || pod || q.who == 266
  else if k = 2 then if q.write then q.who == 267 else host || core
  else if k = 3 then
    if q.write then (host && wait) || (pod && s.replayOk q) || q.who == 269
    else (host && wait) || core || pod || q.who == 269
  else if k = 4 then
    let spill := s.regionBase 4 + s.getF OBS_SPILL_OFF * 65536
    let inSpill := decide (spill ≤ q.addr) && decide (q.addr + q.len ≤ spill + s.getF OBS_SPILL_SIZE * 65536)
    if q.write then host || core || q.who == 266 || (q.who == 268 && inSpill)
    else host || core || pod || q.who == 266 || q.who == 269 || (q.who == 268 && inSpill)
  else false

/-- The shape of R282: 64 to 2,048 bytes in a multiple of 64, aligned, within one 2 KiB block, inside Marrow. -/
def mreqOk (q : MReq) : Bool :=
  decide (64 ≤ q.len) && decide (q.len ≤ 2048) && q.len % 64 == 0 && q.addr % 64 == 0
    && decide (q.addr % 2048 + q.len ≤ 2048) && decide (q.addr + q.len ≤ marrowSize)
    && (!q.write || q.data.length == q.len)

/-- The class of a request (R296): a pod's own, another's from its CLASS field. -/
def State.classOf (s : State) (q : MReq) : Nat := if q.who < 256 then q.cls % 4 else s.getF (MRW_RQr_CFG_CLASS q.who)

/-- MRW_RQr_CNT2.OUT of a requester. -/
def outShow (who : Nat) (s : State) : State :=
  s.setF (MRW_RQr_CNT2_OUT who) (s.mrw.out.filter fun p => p.req.who == who).length

/-- A request is answered with a code and data: counted for its requester and shown to Sprout (R298, R299, R565). -/
def mrwAnswer (id who code : Nat) (data : List Byte) (s : State) : State :=
  let s1 := { s with mrw := { s.mrw with reply := some (id, code, data) } }
  let s2 := if code = 1 then s1.bump (MRW_RQr_CNT0_DEFER who) else if code = 2 then s1.bump (MRW_RQr_CNT0_REFCAP who)
    else if code = 3 then s1.bump (MRW_RQr_CNT1_REFCLS who) else if code = 4 then s1.bump (MRW_RQr_CNT1_VOID who) else s1
  obsReply who code s2

/-- Bytes from an address on with those that a write puts over them. -/
def overBytes (a : Nat) (l : List Byte) (w : MReq) : List Byte :=
  l.zipIdx.map fun x => if w.addr ≤ a + x.2 && a + x.2 < w.addr + w.data.length then w.data.getD (a + x.2 - w.addr) x.1 else x.1

/-- The writes that a requester has issued and that still wait, oldest first: a request of class 0 passes them (R282, R297). -/
def State.waitingWrites (s : State) (who : Nat) : List MReq :=
  ((s.mrw.queue.filter fun r => r.req.who == who && r.req.write).map (·.req))

/-- A write that passes older writes of its requester to the same bytes: they keep to the issue order (R282). -/
def orderWrites (q : MReq) (l : List MPend) : List MPend :=
  l.map fun r => if r.req.who = q.who && r.req.write then { r with req := { r.req with data := overBytes r.req.addr r.req.data q } } else r

/-- Admit a request to its stack: it takes a tag, a write takes effect, a read finds its data, in the issue order of its
requester (R282, R297). -/
def mrwAdmit (p : MPend) (s : State) : State :=
  let k := stackOf p.req.addr
  let late := decide (393216 < (s.now - p.arrived) * 100)
  let found := (s.waitingWrites p.req.who).foldl (overBytes p.req.addr) (memTake s.mem p.req.addr p.req.len)
  let p1 := { p with late := late, data := if p.req.write then [] else found }
  let s1 := winAdmit k p.cls p.req.len (if p.req.write then s.store p.req.addr p.req.data else s)
  outShow p.req.who { s1 with mrw := { s1.mrw with
    queue := if p.req.write && p.cls == 0 then orderWrites p.req s1.mrw.queue else s1.mrw.queue, out := s1.mrw.out ++ [p1] } }

/-- The requester's replies come in issue order, and a request of it older than this one is unanswered (R282). -/
def State.owed (s : State) (who id : Nat) : Bool :=
  s.flag (MRW_RQr_CFG_ORDER who) && (s.mrw.out ++ s.mrw.queue).any fun r => r.req.who == who && decide (r.id < id)

/-- A request is answered as soon as the order of its requester's replies allows (R282, R298). -/
def mrwSay (id who code : Nat) (data : List Byte) (s : State) : State :=
  if s.owed who id then { s with mrw := { s.mrw with held := s.mrw.held ++ [(id, who, code, data)] } } else mrwAnswer id who code data s

/-- The answers of a requester that were held back for one now given follow it. -/
def mrwFlush (who : Nat) : Nat → State → State
  | 0, s => s
  | n + 1, s =>
    match s.mrw.held.find? fun h => h.2.1 == who with
    | some h =>
      if s.owed who h.1 then s
      else mrwFlush who n (mrwAnswer h.1 who h.2.2.1 h.2.2.2 { s with mrw := { s.mrw with held := s.mrw.held.filter fun x => x.1 != h.1 } })
    | none => s

/-- Answer a request that has waited or has been served, and those held back for it. -/
def mrwReplyTo (id who code : Nat) (data : List Byte) (s : State) : State :=
  let s1 := mrwSay id who code data s
  mrwFlush who s1.mrw.held.length s1

/-- An older request of the same requester waits for one of the same 64-byte lines (R282). -/
def State.behind (s : State) (p : MPend) : Bool :=
  s.mrw.queue.any fun r => r.req.who == p.req.who && decide (r.id < p.id)
    && decide (r.req.addr < p.req.addr + p.req.len) && decide (p.req.addr < r.req.addr + r.req.len)

/-- The request stack k serves next: class 2 first while it has had less than its share of the window, then class 1,
then class 2, each with a free tag (R297); none before an older request of its requester for the same line (R282). -/
def State.nextServed (s : State) (k : Nat) : Option MPend :=
  let w := s.window k
  let free := fun (c : Nat) => if s.tagFree c then (s.headOf k c).filter fun p => !s.behind p else none
  let h1 := free 1
  let h2 := free 2
  let first := decide (w.used2 * 100 < s.getF MRW_CLS_RES2 * windowBytes)
  if first then h2.or h1 else h1.or h2

/-- Stack k serves its queues while capacity remains. -/
def mrwServe (k : Nat) : Nat → State → State
  | 0, s => s
  | n + 1, s =>
    match s.nextServed k with
    | none => s
    | some p =>
      if windowBytes < (s.window k).used + p.req.len then s
      else mrwServe k n (mrwAdmit p { s with mrw := { s.mrw with queue := s.mrw.queue.filter fun r => r.id != p.id } })

/-- A request arrives at t (R281, R282, R285, R297). -/
def mrwRequest (q : MReq) (s : State) : State :=
  let id := s.mrw.nextId
  let s0 := { s with mrw := { s.mrw with nextId := id + 1 } }
  let c := s.classOf q
  let k := stackOf q.addr
  let p : MPend := { id := id, req := q, cls := c, arrived := s.now }
  let zeros : List Byte := if q.write then [] else List.replicate q.len 0
  if !s.flag MRW_STAT_INIT_DONE then mrwSay id q.who 2 [] s0
  else if !mreqOk q || !s.permits q then mrwSay id q.who 4 zeros s0
  else match s.atOnce k c q.len with
    | some 0 => mrwAdmit p s0
    | some x => mrwSay id q.who x [] s0
    | none => mrwServe k (s0.mrw.queue.length + 1) { s0 with mrw := { s0.mrw with queue := s0.mrw.queue ++ [p] } }

/-- A pod that is not ACTIVE takes no completion (R153). -/
def State.podDead (s : State) (who : Nat) : Bool := decide (who < 256) && s.getF (FAB_LPp_MAP_STATE who) != 0

/-- MARROW_REQUEST; a pod that is not ACTIVE issues none (R153). -/
def execMarrowRequest (q : MReq) (t : Nat) (s : State) : Host.Outcome State Fault Refusal :=
  .next (if q.who < 270 && !s.pwr.inReset && !s.podDead q.who then mrwRequest q (s.advance t) else s)

/-- MARROW_ADMISSION_WINDOW: at t a window of stack k begins afresh (R297). -/
def execMarrowAdmissionWindow (k t : Nat) (s : State) : Host.Outcome State Fault Refusal :=
  .next (if k < 4 && t % 4096 = 0 && !s.pwr.inReset then
    let s1 := s.advance t
    mrwServe k s1.mrw.queue.length { s1 with mrw := { s1.mrw with windows := sset winNone k {} s1.mrw.windows } }
  else s)

/-- MARROW_WAIT_TIMEOUT: a queued request that has waited W1 or W2 at t is removed and refused (R297). -/
def execMarrowWaitTimeout (id t : Nat) (s : State) : Host.Outcome State Fault Refusal :=
  let s1 := s.advance t
  .next (match s1.mrw.queue.find? fun p => p.id == id with
    | some p =>
      let us := if p.cls = 1 then s1.getF MRW_WAIT_W1 else 10 * s1.getF MRW_WAIT_W2
      if p.arrived + Config.ticksOfUs us ≤ s1.now then
        mrwReplyTo id p.req.who 2 [] { s1 with mrw := { s1.mrw with queue := s1.mrw.queue.filter fun r => r.id != id } }
      else s
    | none => s)

/-! ## ECC -/

/-- Ticks in 24 hours. -/
def dayTicks : Nat := 86400 * Config.ticksPerSecond

/-- A correction on a device of stack k (R294): counted, and the device is suspect above 1,000 within 24 h. -/
def eccFix (k dev : Nat) (s : State) : State :=
  let key := 256 * k + dev
  let old := match s.mrw.fixes.find? (fun q => q.1 == key) with
    | some q => q.2
    | none => []
  let l := (s.now :: old.filter fun x => decide (s.now < x + dayTicks)).take 1001
  let s1 := s.bump (MRW_ECC_CE k)
  let s2 := { s1 with mrw := { s1.mrw with fixes := (s1.mrw.fixes.filter fun q => q.1 != key) ++ [(key, l)] } }
  if 1000 < l.length && s2.getF (MRW_ECC_SUSPECT k) != dev then
    raise evDevSuspect k (s2.setF (MRW_ECC_SUSPECT k) dev)
  else s2

/-- An uncorrectable line at an address (R294). -/
def eccDead (a : Nat) (s : State) : State :=
  let s1 := (s.bump (MRW_ECC_UE (stackOf a))).set64 MRW_ECC_ADDR_LO MRW_ECC_ADDR_HI a
  raise evEccUe (stackOf a) s1

/-- What the ECC of a line of a read does. -/
def eccStep (a : Nat) (e : Ecc) (s : State) : State :=
  match e with
  | .corrected d => eccFix (stackOf a) d s
  | .uncorrectable => eccDead a s

/-- What the ECC found on the lines of a read at an address, by the number of the line (R294). -/
def eccLines (a : Nat) (l : List (Nat × Ecc)) (s : State) : State := l.foldl (fun s q => eccStep (a + 64 * q.1) q.2 s) s

/-- A line of a read is uncorrectable. -/
def eccVoid (l : List (Nat × Ecc)) : Bool := l.any fun q => q.2 == .uncorrectable

/-- The request's tag is free, and a queued request may take it. -/
def mrwRelease (p : MPend) (s : State) : State :=
  let s1 := outShow p.req.who { s with mrw := { s.mrw with out := s.mrw.out.filter fun r => r.id != p.id } }
  forEach (List.range 4) (fun k s => mrwServe k s.mrw.queue.length s) s1

/-- MARROW_REPLY: an admitted request completes, with what the ECC found on the lines of a read, by their number (R294,
R298). -/
def execMarrowReply (id : Nat) (e : List (Nat × Ecc)) (s : State) : Host.Outcome State Fault Refusal :=
  .next (match s.mrw.out.find? fun p => p.id == id with
    | some p =>
      if s.podDead p.req.who || s.owed p.req.who id then s
      else
        let l := e.filter fun q => decide (64 * q.1 < p.req.len)
        let s1 := mrwRelease p s
        let s2 := if p.req.write then s1 else eccLines p.req.addr l s1
        let ok := if p.late then 1 else 0
        if !p.req.write && eccVoid l then mrwReplyTo id p.req.who 4 (List.replicate p.req.len 0) s2
        else mrwReplyTo id p.req.who ok p.data s2
    | none => s)

/-- MARROW_COMPLETION_DISCARD: a completion addressed to a pod that is not ACTIVE is discarded at egress (R153). -/
def execMarrowCompletionDiscard (id : Nat) (s : State) : Host.Outcome State Fault Refusal :=
  .next (match s.mrw.out.find? fun p => p.id == id with
    | some p =>
      if s.podDead p.req.who then
        ((mrwRelease p s).bump (FAB_LPp_CNT1_MDISC p.req.who)).bump (MRW_RQr_CNT2_MDISC p.req.who)
      else s
    | none => s)

/-- The start of the patrol's pass that a percentage belongs to: a lower one than PROGRESS shows belongs to the pass after it,
which begins HOURS hours later (R295). -/
def State.scrubPass (s : State) (progress : Nat) : Nat :=
  s.mrw.scrubAt + (if progress < s.getF MRW_SCRUB_PROGRESS then s.getF MRW_SCRUB_HOURS * 3600 * Config.ticksPerSecond else 0)

/-- The patrol, which reads everything once every HOURS hours, has had time for a percentage of the pass (R295). -/
def State.scrubReached (s : State) (progress : Nat) : Bool :=
  decide (s.scrubPass progress * 100 + progress * s.getF MRW_SCRUB_HOURS * 3600 * Config.ticksPerSecond ≤ s.now * 100)

/-- SCRUB_STEP: the patrol has come to a percentage of its pass, with the corrections as (stack, device) and the
addresses of the uncorrectable lines it met (R294, R295). -/
def execScrubStep (progress : Nat) (fixes : List (Nat × Nat)) (dead : List Nat) (s : State) :
    Host.Outcome State Fault Refusal :=
  .next (if s.flag MRW_SCRUB_EN && s.flag MRW_STAT_INIT_DONE && progress ≤ 100 && s.scrubReached progress
      && fixes.all (fun q => decide (q.1 < 4) && decide (q.2 < 255)) then
    let s0 := { s with mrw := { s.mrw with scrubAt := s.scrubPass progress } }
    let s1 := fixes.foldl (fun s q => eccFix q.1 q.2 s) s0
    (forEach dead eccDead s1).setF MRW_SCRUB_PROGRESS progress
  else s)

/-! ## Rings -/

/-- The bytes of a ring record (R289). -/
def ringBytes (ts flags chan kind info seq : Nat) (samples : List Int) : List Byte :=
  bytesOf 8 ts ++ bytesOf 2 (flags % 256) ++ bytesOf 2 chan ++ bytesOf 1 kind ++ bytesOf 1 info ++ bytesOf 2 seq
    ++ samples.flatMap fun x => bytesOf 3 (unsignedOf 24 x)

/-- The slot of a timestamp among n slots of a stream with sample period T (R287). -/
def ringSlot (ts period n : Nat) : Nat := if n = 0 then 0 else ts / (64 * period) % n

/-- Sample period of the baseband tap of a preset; 0 for the presets that are not recorded (R287). -/
def tapPeriod (p : Nat) : Nat :=
  if p < 3 then 0 else if p = 3 || p = 6 || p = 7 then 15360 else if p = 4 then 30720 else if p = 5 then 61440 else 122880

/-- The block of path n at its combining point, with the run it belongs to: after FMCH or AMCH, or after the last stage of an
IQ path (R203, R287); of a run that has ended only what lies before its end, and none of a path that is not RUNNING. -/
def State.tapBlock (s : State) (n ts : Nat) : Option (Run × Block) :=
  (s.path n).runs.findSome? fun r =>
    let on := match r.stop with | some t => decide (ts < t) | none => s.getF (PTHn_STAT_STATE n) == 2
    if !on then none
    else if r.ty = 2 then (r.pre.find? fun b => b.ts == ts && !b.missing).map fun b => (r, ⟨ts, b.flags, b.samples⟩)
    else (r.chan.find? fun b => b.ts == ts && !b.missing).map fun b => (r, ⟨ts, b.flags, b.samples.flatMap fun x => [x.re, x.im]⟩)

/-- A ring record of the pod that makes a stream (MAP kinds 1 path, 3 decoder, 4 programme) is refused: counted for the pod
too (R290, R299). -/
def ringRefused (kind inst : Nat) (s : State) : State :=
  match s.hdr.map.find? fun r => r.kind == kind && r.inst == inst with
  | some r => s.bump (MRW_RQr_CNT0_REFCAP r.lpod)
  | none => s

/-- The record of path n of timestamp ts in the baseband ring (R287, R289, R290). -/
def bbRecord (n ts : Nat) (ok : Bool) (s : State) : State :=
  match s.tapBlock n ts with
  | none => s
  | some (r, b) =>
    let period := tapPeriod r.preset
    if period = 0 || !s.flag MRW_BBR_STAT_REC then s
    else
      let q := (s.path n).bb.next period ts
      let s1 := s.setPath n { s.path n with bb := q }
      if ok then
        let a := s.regionBase 0 + n * (s.regionSize 0 / 512) + ringSlot ts period s.bbSlots * 400
        (winAdmit (stackOf a) 1 400 s1).store a (ringBytes ts b.flags n 0 (r.input * 64 + r.ty) (q.n % 65536) b.samples)
      else ringRefused 1 n (s1.bump MRW_RING_LOST_BB)

/-- The records an audio stream has produced since its start: kind 1 path, 2 decoder, 3 programme. -/
def State.produced (s : State) (kind num : Nat) : Produced :=
  if kind = 1 then (s.path num).aud else if kind = 2 then (s.decoder num).aud else (s.prog num).aud

/-- Set it. -/
def State.setProduced (kind num : Nat) (q : Produced) (s : State) : State :=
  if kind = 1 then s.setPath num { s.path num with aud := q }
  else if kind = 2 then s.setDecoder num { s.decoder num with aud := q }
  else s.setProg num { s.prog num with aud := q }

/-- The stream of a source or programme by the KIND of its ring record (R289). -/
def State.audStream (s : State) (kind num : Nat) : List Block := s.stream (if kind = 3 then 1 else kind + 1) num

/-- The record of a source or programme of timestamp ts in its audio channel (R288 to R290). -/
def audRecord (kind num ts : Nat) (ok : Bool) (s : State) : State :=
  match s.chanOf kind num, (s.audStream kind num).find? fun b => b.ts == ts with
  | some c, some b =>
    let q := (s.produced kind num).next 81920 ts
    let s1 := s.setProduced kind num q
    if ok then
      let a := s.regionBase 1 + c * (s.regionSize 1 / s.mrw.chans) + ringSlot ts 81920 s.audSlots * 400
      (winAdmit (stackOf a) 1 400 s1).store a (ringBytes ts b.flags c kind 0 (q.n % 65536) ((stereo b.samples).flatMap fun x => [x.1, x.2]))
    else ringRefused (if kind = 1 then 1 else kind + 1) num (s1.bump MRW_RING_LOST_AUD)
  | _, _ => s

/-- RING_RECORD_WRITE: kind 0 the baseband record of a path; 1, 2, 3 the audio record of a path, decoder or programme;
the record's timestamp, and whether Marrow accepted the write; a dropped block has none. -/
def execRingRecordWrite (kind num ts : Nat) (accepted : Bool) (s : State) : Host.Outcome State Fault Refusal :=
  .next (if s.stage = 4 && kind < 4 && num < 512 then
    (if kind = 0 then bbRecord num ts accepted s else audRecord kind num ts accepted s) else s)

/-- A source qualifies for the candidate set of some programme that runs (R255, R288). -/
def State.qualifies (s : State) (kind num : Nat) : Bool :=
  s.livePrograms.any fun p => decide (2 ≤ s.folState p) &&
    ((List.range 4).any fun o =>
      (o != 0 || (s.prog p).host.any fun q => q.2.kind == kind && q.2.num == num)
        && s.mayEnter p { kind := kind, num := num, origin := o })

/-- Sources that no longer qualify wait no more, and one in no candidate set that has a channel gives it back (R288). -/
def chanReview (s : State) : State :=
  let idle := s.channels.filter fun q => q.2.1 < 3 && !s.needed q.2.1 q.2.2 && !s.qualifies q.2.1 q.2.2
  let s1 := forEach (idle.map fun q => q.2.1 * 1024 + q.2.2) (fun q s => chanFree (q / 1024) (q % 1024) s) s
  { s1 with mrw := { s1.mrw with waiting := s1.mrw.waiting.filter fun q => s.qualifies q.1 q.2 } }

/-- AUDIO_CHANNEL_ASSIGN: a qualifying source gets the lowest free channel, or waits, counted and raised once (R288). -/
def execAudioChannelAssign (kind num : Nat) (s0 : State) : Host.Outcome State Fault Refusal :=
  let s := if s0.firmwareOn 1 then chanReview s0 else s0
  let away := s.mrw.waiting.filter fun q => q != (kind, num)
  .next (if !s.firmwareOn 1 || !(kind = 1 && num < 512 || kind = 2 && num < 128) || (s.chanOf kind num).isSome
      || !s.qualifies kind num then s
  else
    let s1 := chanTake kind num s
    if (s1.chanOf kind num).isSome then { s1 with mrw := { s1.mrw with waiting := away } }
    else if s.mrw.waiting.contains (kind, num) then s
    else
      let s2 := s.bump MRW_AUD_FULL_FULLCNT
      raise evAchFull noInst { s2 with mrw := { s2.mrw with waiting := s2.mrw.waiting ++ [(kind, num)] } })

/-- The programmes whose bits differ one way between two words of MRW_TSH i. -/
def tshBits (i old new : Nat) : List Nat :=
  ((List.range 32).filter fun b => !old.testBit b && new.testBit b).map fun b => 32 * i + b

/-- A write of w to MRW_TSH i (R288). -/
def tshWrite (i w : Nat) (s : State) : State :=
  let old := (s.rd (MRW_TSH i)).toNat
  let newly := tshBits i old w
  if !s.feat 11 then refuse MRW_REFUSE codeNotLocked s
  else if s.mrw.chans < s.channels.length + newly.length then refuse MRW_REFUSE codeBusy s
  else
    let s1 := forEach (tshBits i w old) (chanFree 3) (s.wr (MRW_TSH i) (BitVec.ofNat 32 w))
    forEach newly (chanTake 3) s1

/-- TIMESHIFT_WRITE. -/
def execTimeshiftWrite (m : Master) (i : Nat) (v : Word) (s : State) : Host.Outcome State Fault Refusal :=
  .next (if i < 8 then gated m (MRW_TSH i) v.toNat (tshWrite i v.toNat) s else s)

/-! ## Snapshots -/

/-- The depth of a capture in ticks (R291). -/
def State.snapDepth (s : State) (src : Nat) : Nat :=
  s.snapSlots src / (if src = 2 then 2 else 1) * 64

/-- ARM (R292). -/
def snapArm (s : State) : State :=
  let st := s.getF MRW_SNP_STAT_STATE
  let src := s.getF MRW_SNP_CTL_SRC
  if st = 1 || st = 2 then refuse MRW_REFUSE codeWrongState s
  else if s.snapDepth src ≤ Config.ticksOfUs (s.getF MRW_SNP_POST_POST_US) then refuse MRW_REFUSE codeReserved s
  else
    let start := s.blockAt (s.now + Config.ticksOfUs 1)
    let s1 := ((s.setF MRW_SNP_STAT_STATE 1).setF MRW_SNP_STAT_FULL 0).setF MRW_SNP_OLDEST_SLOT 0
    { s1 with snp := { start := start, tEnd := 0, next := 0, src := src } }

/-- TRIG (R292). -/
def snapTrig (s : State) : State :=
  if s.getF MRW_SNP_STAT_STATE = 1 then snapTrigger s.now s else s.bump MRW_SNP_STAT_EXTRA

/-- STOP (R292). -/
def snapStop (s : State) : State :=
  let st := s.getF MRW_SNP_STAT_STATE
  if st = 1 || st = 2 then s.setF MRW_SNP_STAT_STATE 3 else if st = 3 then s.setF MRW_SNP_STAT_STATE 0 else s

/-- A write of w to MRW_SNP_CMD: every snapshot write needs bit 13 (R292). -/
def snapCmdWrite (w : Nat) (s : State) : State :=
  let c := bitsOf w 2 0
  if !s.feat 13 then refuse MRW_REFUSE codeNotLocked s
  else if c = 0 then s else if c = 1 then snapArm s else if c = 2 then snapTrig s else if c = 4 then snapStop s
  else refuse MRW_REFUSE codeReserved s

/-- A write of w to MRW_SNP_CTL, MRW_SNP_POST or MRW_SNP_MATCH (R292, R300). -/
def snapRegWrite (a : Nat) (w : Word) (s : State) : State :=
  let st := s.getF MRW_SNP_STAT_STATE
  if !s.feat 13 then refuse MRW_REFUSE codeNotLocked s
  else if a = MRW_SNP_CTL && (st == 1 || st == 2) && bitsOf w.toNat 1 0 != s.getF MRW_SNP_CTL_SRC then
    refuse MRW_REFUSE codeWrongState s
  else if !regOk a w then refuse MRW_REFUSE codeReserved s
  else
    let s1 := regPut a w s
    s1.setF MRW_SNP_SLOTS_SLOTS (s1.snapSlots (s1.getF MRW_SNP_CTL_SRC))

/-- ARM. -/
def execSnpArm (m : Master) (s : State) : Host.Outcome State Fault Refusal := .next (gated m MRW_SNP_CMD 1 (snapCmdWrite 1) s)

/-- TRIG. -/
def execSnpTrig (m : Master) (s : State) : Host.Outcome State Fault Refusal := .next (gated m MRW_SNP_CMD 2 (snapCmdWrite 2) s)

/-- SNAP_STOP. -/
def execSnapStop (m : Master) (s : State) : Host.Outcome State Fault Refusal := .next (gated m MRW_SNP_CMD 4 (snapCmdWrite 4) s)

/-- SNAP_MATCH_TRIGGER: with TRIG = MATCH, the first block at or after MRW_SNP_MATCH fires (R292). -/
def execSnapMatchTrigger (ts : Nat) (s : State) : Host.Outcome State Fault Refusal :=
  .next (if s.getF MRW_SNP_CTL_TRIG = 1 && ts % 64 = s.clk.blockPhase % 64 && s.get64 MRW_SNP_MATCH_LO MRW_SNP_MATCH_HI ≤ ts then
    snapTrigger ts s else s)

/-- SNAP_DONE: writing has reached T_end at t (R292). -/
def execSnapDone (t : Nat) (s : State) : Host.Outcome State Fault Refusal :=
  let s1 := s.advance t
  .next (if s.getF MRW_SNP_STAT_STATE = 2 && s.snp.tEnd ≤ s1.now then
    raise evSnapDone noInst (s1.setF MRW_SNP_STAT_STATE 3) else s)

end Sys2Proof.Machine
end

