-- ==== Sys2Proof/Machine/Sap.lean ====
section
/-! DEFINITION. The serial audio ports (spec/12 R302 to R327): configuration, frames in both directions, clock faults,
output slips and ramps, the interior tap, captures and AES3 channel status. -/

namespace Sys2Proof.Machine

/-- What an unlisted port holds. -/
def sapNone (_ : Nat) : Sap := {}

/-- Port k beside its registers. -/
def State.sap (s : State) (k : Nat) : Sap := sget sapNone s.saps k

/-- Replace port k. -/
def State.setSap (k : Nat) (v : Sap) (s : State) : State := { s with saps := sset sapNone k v s.saps }

/-- Slots of a frame: by SLOTS in TDM, two otherwise (R303). -/
def State.sapSlots (s : State) (k : Nat) : Nat :=
  if s.getF (SAPk_CTL_FORMAT k) = 2 then 2 ^ (s.getF (SAPk_CTL_SLOTS k) + 1) else 2

/-- BCLK rising edges of a frame (R303). -/
def State.sapEdges (s : State) (k : Nat) : Nat :=
  let f := s.getF (SAPk_CTL_FORMAT k)
  if f = 2 then 32 * s.sapSlots k else if f = 3 then 128 else 64

/-- Nominal frames in one second (R307). -/
def State.sapRate (s : State) (k : Nat) : Nat := if s.getF (SAPk_CTL_FS k) = 1 then 44100 else 48000

/-- A number of frame periods in ticks, rounded down. -/
def State.sapTicks (s : State) (k n : Nat) : Nat := n * Config.ticksPerSecond / s.sapRate k

/-- The two directions share one state (R308). -/
def State.sapShared (s : State) (k : Nat) : Bool := s.getF (SAPk_CTL_FORMAT k) != 3

/-- Frames of a mute ramp (R315). -/
def State.sapRampLen (s : State) (k : Nat) : Nat := s.getF (SAPk_CTL_RAMP_MS k) * s.sapRate k / 1000

/-- A direction of port k has a running clock: frame starts have been seen and have not stopped. -/
def State.sapClocked (s : State) (k : Nat) : Bool :=
  let v := s.sap k
  let live := fun st (x : SapDir) => (st = 1 || st = 2) && x.last.isSome
  s.flag (SAPk_CTL_EN k) && (live (s.getF (SAPk_STAT_OSTATE k)) v.out || live (s.getF (SAPk_STAT_ISTATE k)) v.inp)

/-- CLK_DOM.AUD shows whether an enabled port, with the AREF input it may follow, has a running clock (R90). -/
def audShow (s : State) : State := s.setB CLK_DOM_AUD ((List.range 8).any s.sapClocked)

/-- Checks on a write to port k by master m (R324). -/
def sapGuard (m : Master) (k : Nat) (f : State → State) (s : State) : State :=
  if s.ktOwned && k < 2 && m != .personality then refuse SAP_REFUSE codeOwned s else f s

/-! ## Configuration -/

/-- Set both directions' states. -/
def sapStates (k st : Nat) (s : State) : State := (s.setF (SAPk_STAT_OSTATE k) st).setF (SAPk_STAT_ISTATE k) st

/-- The checks of R324 on a word written to SAPk_CTL while EN is 0 or stays: NOTLOCKED, then RESERVED_VALUE. -/
def State.sapCtlCode (s : State) (k : Nat) (w : Word) : Nat :=
  let n := w.toNat
  let fmt := bitsOf n 21 20
  if (fmt == 2 && !s.feat 15) || (fmt == 3 && !s.feat 14) || (bitsOf n 27 26 == 1 && !s.feat 16) then codeNotLocked
  else if !regOk (SAPk_CTL k) w || (fmt == 3 && bitsOf n 19 18 == 2) || (fmt != 3 && bitsOf n 25 24 != 0)
      || (fmt != 2 && bitsOf n 17 16 != 0) then codeReserved
  else 0

/-- The header and words of a capture record become a record of the port's DMA queue (R319). -/
def capHeader (ts flags k kind frames mask : Nat) : List Nat :=
  leNat 8 ts ++ leNat 2 flags ++ [k, kind, frames, (List.range 16).countP fun i => mask.testBit i] ++ leNat 2 mask

/-- Hand a capture record to the queue SAPk_ICAP names. -/
def capEmit (k ts flags : Nat) (bytes : List Nat) (s : State) : State :=
  { s with recs := s.recs ++ [(1 + s.getF (SAPk_ICAP_QUEUE k), s.now, ⟨0x20, ts, flags, k, bytes⟩)] }

/-- Close the open record of port k after its last frame. -/
def capClose (k : Nat) (s : State) : State :=
  match (s.sap k).cap with
  | none => s
  | some r =>
    let mask := s.getF (SAPk_IMASK_ACT_MASK k)
    let s1 := s.setSap k { s.sap k with cap := none }
    if r.frames = 0 || mask = 0 then s1
    else capEmit k r.ts r.flags (capHeader r.ts r.flags k 0 r.frames mask ++ r.words.flatMap (leNat 4)) s1

/-- A write of w to SAPk_CTL (R308, R316, R324): a disable stops both directions, an enable puts them in SEEK. -/
def sapCtl (k : Nat) (w : Word) (s : State) : State :=
  let en := s.flag (SAPk_CTL_EN k)
  let new := bitsOf w.toNat 31 31 = 1
  let s1 := regPut (SAPk_CTL k) w s
  if en && (s1.rd (SAPk_CTL k)).toNat % 2 ^ 31 != (s.rd (SAPk_CTL k)).toNat % 2 ^ 31 then
    refuseInst (SAPk_STAT k) codeWrongState s
  else if s.sapCtlCode k w != 0 then refuseInst (SAPk_STAT k) (s.sapCtlCode k w) s
  else
    let s2 := s1.setB (SAPk_STAT_RS_ACT k) (new && bitsOf w.toNat 27 26 = 1)
    if en = new then s2
    else
      let s2 := if new then s2 else capClose k s2
      let v := s2.sap k
      let clear : Sap := { tcs := v.tcs, tcsPend := v.tcsPend }
      if new then (sapStates k 1 (s2.setSap k clear)).setF (SAPk_STAT_MUTED k) 1
      else (sapStates k 0 (s2.setSap k clear)).setF (SAPk_STAT_MUTED k) 0

/-- SAP_CTL_WRITE. -/
def execSapCtlWrite (m : Master) (k : Nat) (v : Word) (s : State) : Host.Outcome State Fault Refusal :=
  .next (if k < 8 then gated m (SAPk_CTL k) v.toNat (sapGuard m k fun s => audShow (sapCtl k v s)) s else s)

/-- The source a MAP word names exists (R310). -/
def State.sapSrcOk (s : State) (kind num : Nat) : Bool :=
  if kind = 0 then true
  else if kind = 1 then decide (num < s.hdr.progs)
  else if kind = 2 then decide (num < s.hdr.paths) && s.getF (PTHn_CTL_TYPE num) != 2
  else decide (num < s.hdr.dec)

/-- A write of w to SAPk_MAPi (R310). -/
def sapMap (k i : Nat) (w : Word) (s : State) : State :=
  let kind := bitsOf w.toNat 31 30
  if (kind = 1 && !s.feat 8) || (kind = 3 && !s.feat 7) then refuseInst (SAPk_STAT k) codeNotLocked s
  else if !s.sapSrcOk kind (bitsOf w.toNat 9 0) || (decide (s.sapSlots k / 2 ≤ i) && kind != 0) then
    refuseInst (SAPk_STAT k) codeReserved s
  else regPut (SAPk_MAP k i) w s

/-- SAP_MAP_WRITE. -/
def execSapMapWrite (m : Master) (k i : Nat) (v : Word) (s : State) : Host.Outcome State Fault Refusal :=
  .next (if k < 8 && i < 8 then gated m (SAPk_MAP k i) v.toNat (sapGuard m k (sapMap k i v)) s else s)

/-- MUTE: a write of SAPk_OCTL; the ramp starts at the next frame (R315). -/
def execSapMute (m : Master) (k : Nat) (on : Bool) (s : State) : Host.Outcome State Fault Refusal :=
  .next (if k < 8 then gated m (SAPk_OCTL k) (putBits (s.rd (SAPk_OCTL k)).toNat 31 31 on.toNat) (sapGuard m k (fun s => s.setB (SAPk_OCTL_MUTE k) on)) s else s)

/-- A write of w to SAPk_ICAP by master m (R319 to R321). -/
def sapIcap (m : Master) (k : Nat) (w : Word) (s : State) : State :=
  let pack := bitsOf w.toNat 17 16
  let commit := bitsOf w.toNat 30 30 = 1
  if bitsOf w.toNat 31 31 = 1 && !s.feat 1 then refuseInst (SAPk_STAT k) codeNotLocked s
  else if pack = 3 || (pack != 0 && !(s.ktOwned && m == .personality && decide (k < 2)))
      || (commit && decide (2 ^ s.sapSlots k ≤ s.getF (SAPk_IMASK_MASK k))) then
    refuseInst (SAPk_STAT k) codeReserved s
  else
    let s0 := if bitsOf w.toNat 31 31 = 0 || pack != 0 then capClose k s else s
    let s1 := regPut (SAPk_ICAP k) w s0
    if commit then s1.setF (SAPk_STAT_MASK_PEND k) 1 else s1

/-- MASK_COMMIT: a write of SAPk_ICAP with COMMIT and its other fields as they stand (R320). -/
def execMaskCommit (m : Master) (k : Nat) (s : State) : Host.Outcome State Fault Refusal :=
  .next (if k < 8 then gated m (SAPk_ICAP k) (s.rd (SAPk_ICAP k) ||| 0x40000000).toNat
    (sapGuard m k (fun s => sapIcap m k (s.rd (SAPk_ICAP k) ||| 0x40000000) s)) s else s)

/-- A write of w to SAPk_TCS_CTL (R322). -/
def sapTcsCtl (k : Nat) (w : Word) (s : State) : State :=
  let s1 := regPut (SAPk_TCS_CTL k) w s
  if bitsOf w.toNat 0 0 = 1 then s1.setSap k { s1.sap k with tcsPend := true } else s1

/-- TCS_APPLY: a write of SAPk_TCS_CTL with APPLY (R322). -/
def execTcsApply (m : Master) (k : Nat) (s : State) : Host.Outcome State Fault Refusal :=
  .next (if k < 8 then gated m (SAPk_TCS_CTL k) (s.rd (SAPk_TCS_CTL k) ||| 1).toNat
    (sapGuard m k (fun s => sapTcsCtl k (s.rd (SAPk_TCS_CTL k) ||| 1) s)) s else s)

/-! ## Samples -/

/-- Bits of a word by WLEN. -/
def wordBits (wlen : Nat) : Nat := if wlen = 0 then 16 else if wlen = 1 then 24 else 32

/-- The 32 slot bits of an output sample: x × g / n rounded to WLEN bits, to nearest with ties to even, saturated, at the
top of the slot (R306, R315). -/
def slotWord (wlen : Nat) (x : Int) (g n : Nat) : Nat :=
  let b := min 24 (wordBits wlen)
  let y := if n = 0 then x else roundEven (x * g) (n * 2 ^ (24 - b))
  let z := if n = 0 then roundEven x (2 ^ (24 - b)) else y
  unsignedOf b (clampInt (-(2 ^ (b - 1) : Nat)) ((2 ^ (b - 1) : Nat) - 1) z) * 2 ^ (32 - b)

/-- The fix24 value of an input slot: the top WLEN bits, at most 24 of them (R306). -/
def slotValue (wlen w : Nat) : Int :=
  let b := min 24 (wordBits wlen)
  signedOf 24 (w / 2 ^ (32 - b) * 2 ^ (24 - b))

/-! ## Output -/

/-- What an unlisted pair holds. -/
def pairNone (_ : Nat) : SapPair := {}

/-- Slot pair i of a port. -/
def Sap.pair (v : Sap) (i : Nat) : SapPair := sget pairNone v.pairs i

/-- Replace slot pair i. -/
def Sap.setPair (i : Nat) (p : SapPair) (v : Sap) : Sap := { v with pairs := sset pairNone i p v.pairs }

/-- Drop samples from the front while their latency at a frame stamp is at least a bound. -/
def dropLate (stamp bound : Nat) : List OutSamp → List OutSamp
  | [] => []
  | x :: t => if x.due + bound ≤ stamp then dropLate stamp bound t else x :: t

/-- A linear cross-fade of stereo samples, sample j weighing j / 64. -/
def fadePairs : Nat → List (Int × Int) → List (Int × Int) → List (Int × Int)
  | _, _, [] => []
  | _, [], l => l
  | j, o :: ot, n :: nt =>
    (roundEven (o.1 * (64 - j : Int) + n.1 * j) 64, roundEven (o.2 * (64 - j : Int) + n.2 * j) 64) :: fadePairs (j + 1) ot nt

/-- Samples multiplied by i / n, i rising from a start; unchanged from n on. -/
def riseFrom (n : Nat) : Nat → List (Int × Int) → List (Int × Int)
  | _, [] => []
  | i, x :: t =>
    (if i < n then (roundEven (x.1 * i) n, roundEven (x.2 * i) n) else x) :: riseFrom n (i + 1) t

/-- D of the warm-up ramp of a source (R197, R271, R314). -/
def State.warmLen (s : State) (kind num : Nat) : Nat :=
  if kind = 2 then s.getF (PTHn_DSMP_SAMPLES num) else if kind = 3 then 1152 else 0

/-- The samples a pair queues for a block of its source (R310, R314): the gap of a missing block falls to zero and the
next block rises from it, warm-up samples of a path or decoder rise by R197, and a new source fades in over 64
samples. -/
def pairSamples (s : State) (k i : Nat) (p : SapPair) (b : Option Block) (old : List Int) :
    List (Int × Int) × SapPair :=
  let kind := s.getF (SAPk_MAP_KIND k i)
  let num := s.getF (SAPk_MAP_NUM k i)
  match b with
  | none =>
    ((List.range 64).map (fun j => (roundEven (p.last.l * (63 - j : Int)) 64, roundEven (p.last.r * (63 - j : Int)) 64)),
      { p with gap := true })
  | some blk =>
    let raw := stereo blk.samples
    let warm := blk.flags.testBit 1 && s.warmLen kind num != 0
    let x1 := if warm then riseFrom (s.warmLen kind num) p.warm raw else raw
    let x2 := if p.gap then riseFrom 64 0 x1 else x1
    let x3 := if p.kind != kind || p.num != num then fadePairs 0 (stereo old) x2 else x2
    (x3, { p with kind := kind, num := num, gap := false, warm := if warm then p.warm + raw.length else 0 })

/-- What a stream hands over at release instant h: silence has a block of zeros on the grid of the streams (R23, R310). -/
def State.handover (s : State) (kind num h : Nat) : Option (Option Block) :=
  if kind = 0 then (if h % Config.audioBlock = 0 then some (some ⟨h, 0, List.replicate 128 0⟩) else none)
  else if (s.released kind num).at_ = some h then some (s.released kind num).blk else none

/-- The port resampler takes samples, and gives those whose taps they complete (R188, R190): its 48 kS/s input at
147/160. -/
def pairResample (p : SapPair) (new : List OutSamp) : List OutSamp × SapPair :=
  let l := p.rsIn ++ new
  let n := p.rsFrom + l.length
  let line : (OutSamp → Int) → Int → Int := fun f i => if i < p.rsFrom then 0 else ((l[(i - p.rsFrom).toNat]?).map f).getD 0
  let out := (List.range (rsGiven 147 160 n - p.rsNext)).map fun m =>
    let j := p.rsNext + m
    let q := rsPosition 147 160 j
    let a := l.getD (q.1 - p.rsFrom) ⟨0, 0, 0, false, false⟩
    let opens := (List.range 2).any fun d => ((l[q.1 - p.rsFrom - d]?).map (·.first)).getD false
      && (d == 0 || decide ((rsPosition 147 160 (j - 1)).1 + d < q.1 + 1))
    (⟨a.due + q.2 * 81920 / 16777216, rsSample 147 160 j (line (·.l)), rsSample 147 160 j (line (·.r)), opens, a.v⟩ : OutSamp)
  (out, { p with rsIn := l.drop (l.length - 64), rsFrom := n - min n 64, rsNext := p.rsNext + out.length })

/-- The queue entries of samples handed over at h, one 48 kS/s sample apart, through the port resampler at 44.1 kHz
(R190, R311). -/
def pairQueue (s : State) (k h : Nat) (v : Bool) (x : List (Int × Int)) (p : SapPair) : List OutSamp × SapPair :=
  let l := x.zipIdx.map fun y => (⟨h + y.2 * 81920, y.1.1, y.1.2, y.2 == 0, v⟩ : OutSamp)
  if s.sapRate k = 44100 then pairResample p l else (l, p)

/-- What a pair still holds of the source it leaves, for the 64 samples from h on: what its buffer holds that is due from
then on, and what that source hands over at h itself (R310; notes/assumptions/22.md). -/
def State.leftOver (s : State) (p : SapPair) (h : Nat) : List Int :=
  let tail := (p.buf.filter fun x => decide (h ≤ x.due)).flatMap fun x => [x.l, x.r]
  let own := (((s.handover p.kind p.num h).getD none).map (·.samples)).getD []
  let l := if tail.isEmpty then own else tail
  l ++ List.replicate (128 - l.length) 0

/-- A pair whose source changes at h gives up what it still held of the old one from then on. -/
def pairLeave (s : State) (k i h : Nat) (p : SapPair) : SapPair :=
  if p.kind = s.getF (SAPk_MAP_KIND k i) && p.num = s.getF (SAPk_MAP_NUM k i) then p
  else { p with buf := p.buf.filter fun x => decide (x.due < h) }

/-- SAP_BLOCK_HANDOFF: at release instant h the scheduler hands the block that pair i's source releases to port k, or
none where it was dropped; the source replaced fades out as a change of MAP takes effect (R309 to R314).  While the port's
pod is not ACTIVE the engine takes none (R328). -/
def sapHandoff (k i h : Nat) (s : State) : State :=
  let p0 := (s.sap k).pair i
  let p := pairLeave s k i h p0
  match s.handover (s.getF (SAPk_MAP_KIND k i)) (s.getF (SAPk_MAP_NUM k i)) h with
  | none => s
  | some b0 =>
    let b := if s.abandoned 8 k h then none else b0.map (s.taken 8 k)
    if s.getF (SAPk_STAT_OSTATE k) != 2 then
      if s.flag (SAPk_CTL_EN k) && s.getF (SAPk_MAP_KIND k i) != 0 then s.bump (SAPk_ODROP_DISC k) else s
    else if p.handed = some h || s.podsOut 8 k then s
    else
      let r := pairSamples s k i p b (s.leftOver p0 h)
      let x := pairQueue s k h (b.isNone && s.getF (SAPk_CTL_FORMAT k) == 3) r.1 { r.2 with handed := some h }
      let s1 := if b.isNone then s.bump (SAPk_ODROP_DROP k) else s
      if 256 < p.buf.length + x.1.length then
        let s2 := s1.bump (SAPk_XRUN_OOVER k)
        let s3 := if p.clean then raise (evSapXrun k) 0 s2 else s2
        let q := { x.2 with buf := dropLate h (s.sapTicks k (s.getF (SAPk_CTL_TARGET k)) + 1) (p.buf ++ x.1), clean := false }
        s3.setSap k ((s3.sap k).setPair i { q with buf := if 256 < q.buf.length then q.buf.drop (q.buf.length - 256) else q.buf })
      else s1.setSap k ((s1.sap k).setPair i { x.2 with buf := p.buf ++ x.1 })

/-- SAP_BLOCK_HANDOFF. -/
def execSapBlockHandoff (k pair h : Nat) (s : State) : Host.Outcome State Fault Refusal :=
  .next (if k < 8 && pair < 8 && !s.pwr.inReset then sapHandoff k pair h (s.advance h) else s)

/-- The sample a pair sends at a frame, and the pair after it; the counters it steps: slips dropped, slips inserted, an
underrun begun (R311 to R313). -/
structure PairStep where
  samp : OutSamp
  pair : SapPair
  del : Nat := 0
  ins : Nat := 0
  under : Nat := 0

/-- Take the head of a pair's buffer. -/
def pairTake (p : SapPair) : PairStep :=
  match p.buf with
  | [] => ⟨{ p.last with first := false }, p, 0, 0, 0⟩
  | x :: t =>
    ⟨x, { p with buf := t, last := x, inBlock := (p.inBlock + 1) % 64,
                 clean := p.clean || (p.inBlock + 1) % 64 == 0 && !p.under }, 0, 0, 0⟩

/-- One frame of a pair whose first sample has been chosen. -/
def pairRun (stamp target period : Nat) (aes : Bool) (p : SapPair) : PairStep :=
  match p.buf with
  | [] => ⟨{ p.last with first := false, v := aes }, { p with under := true, clean := false }, 0, 0, if p.under then 0 else 1⟩
  | x :: t =>
    if p.under then
      let q := { p with buf := dropLate stamp (target * period + 1) (x :: t), under := false, inBlock := 0 }
      match q.buf with
      | [] => ⟨{ p.last with first := false, v := aes }, { q with under := true }, 0, 0, 0⟩
      | y :: _ => pairTake { q with l0 := stamp - y.due }
    else if p.inBlock = 0 && p.l0 + period ≤ stamp - x.due then { pairTake { p with buf := t } with del := 1 }
    else if p.inBlock = 0 && stamp - x.due + period ≤ p.l0 then
      ⟨⟨x.due, roundEven (p.last.l + x.l) 2, roundEven (p.last.r + x.r) 2, false, false⟩, { p with inBlock := 1 }, 0, 1, 0⟩
    else pairTake p

/-- One frame of a pair in RUN: the first sample is one whose latency lies between TARGET and TARGET + 1 frame
periods; until then the pair sends zeros (R311).  While the port's pod is not ACTIVE the pair finds its buffer empty
(R328). -/
def pairStep (stamp target period : Nat) (aes out : Bool) (p0 : SapPair) : PairStep :=
  let p := if out then { p0 with buf := [] } else p0
  if p.started then pairRun stamp target period aes p
  else
    let buf := dropLate stamp ((target + 1) * period + 1) p.buf
    match buf with
    | x :: _ =>
      if x.due + target * period ≤ stamp then
        pairTake { p with buf := buf, started := true, l0 := stamp - x.due, inBlock := 0 }
      else ⟨⟨stamp, 0, 0, false, false⟩, { p with buf := buf }, 0, 0, 0⟩
    | [] => ⟨⟨stamp, 0, 0, false, false⟩, { p with buf := [] }, 0, 0, 0⟩

/-- The pairs of a port send one frame each, from pair i on; the words so far, newest last. -/
def pairsStep (k stamp : Nat) : Nat → Nat → State → List OutSamp → State × List OutSamp
  | 0, _, s, acc => (s, acc)
  | n + 1, i, s, acc =>
    let r := pairStep stamp (s.getF (SAPk_CTL_TARGET k)) (s.sapTicks k 1) (s.getF (SAPk_CTL_FORMAT k) == 3) (s.podsOut 8 k)
      ((s.sap k).pair i)
    let s1 := ((s.setSap k ((s.sap k).setPair i r.pair)).bumpBy (SAPk_OSLIP_DEL k) r.del).bumpBy (SAPk_OSLIP_INS k) r.ins
    let s2 := if r.under = 0 then s1
      else
        let s3 := s1.bump (SAPk_XRUN_OUNDER k)
        if ((s.sap k).pair i).clean then raise (evSapXrun k) 0 s3 else s3
    let s4 := if r.samp.first then
        (s2.set64 (SAPk_TS_LO k) (SAPk_TS_HI k) stamp).setF (SAPk_LAT_TICKS k) (stamp - r.samp.due)
      else s2
    pairsStep k stamp n (i + 1) s4 (acc ++ [r.samp])

/-- The CRCC of R322 over bytes, least significant bit first, initial value 0xFF (notes/assumptions/17.md). -/
def crccRun : List Byte → Nat → Nat
  | [], c => c
  | b :: t, c => crccRun t ((List.range 8).foldl (fun c _ => if c % 2 = 1 then (c / 2) ^^^ 0xB8 else c / 2) (c ^^^ b.toNat))

/-- The 24 bytes of six words. -/
def csBytes (l : List Nat) : List Byte := l.flatMap fun w => bytesOf 4 w

/-- The channel status to send after an APPLY: byte 23 is computed where CRC is 1 (R322). -/
def State.tcsWords (s : State) (k : Nat) : List Nat :=
  let l := (List.range 6).map fun i => (s.rd (SAPk_TCS k i)).toNat
  if s.flag (SAPk_TCS_CTL_CRC k) then
    l.take 5 ++ [l.getD 5 0 % 2 ^ 24 + crccRun ((csBytes l).take 23) 0xFF * 2 ^ 24]
  else l

/-- A bit of the channel-status block in six words. -/
def csBit (l : List Nat) (f : Nat) : Bool := (l.getD (f / 32) 0).testBit (f % 32)

/-- The subframe of channel c at a frame of the block (R305): preamble, audio, V, U, C and P. -/
def subframe (c frame audio : Nat) (v cs : Bool) : Nat :=
  let pre := if c = 1 then 1 else if frame = 0 then 2 else 0
  let w := audio % 2 ^ 24 * 16 + v.toNat * 2 ^ 28 + cs.toNat * 2 ^ 30
  pre + w + ((List.range 27).countP fun i => w.testBit (i + 4)) % 2 * 2 ^ 31

/-- What SD_OUT sends at a frame: the words of the slots, or the subframes of an AES3 frame (R303, R305). -/
def State.sendWords (s : State) (k : Nat) (tcs : List Nat) (frame : Nat) (l : List (Nat × Bool)) : List Nat :=
  if s.sapShared k then l.map (·.1)
  else l.zipIdx.map fun x => subframe (x.2 % 2) frame (x.1.1 / 256) x.1.2 (csBit tcs frame)

/-- The output of port k at a frame with these words, each with its validity: the AES3 block goes on (R322). -/
def sapSend (k : Nat) (l : List (Nat × Bool)) (s : State) : State :=
  let v := s.sap k
  let z := v.csFrame = 0
  let tcs := if z && v.tcsPend then s.tcsWords k else v.tcs
  s.setSap k { v with sent := s.sendWords k tcs v.csFrame l, csFrame := (v.csFrame + 1) % 192,
                      tcs := tcs, tcsPend := v.tcsPend && !z }

/-- The output of port k at a frame in SEEK: zeros, in AES3 with V = 1 (R308). -/
def sapOutSeek (k : Nat) (s : State) : State := sapSend k (List.replicate (s.sapSlots k) (0, !s.sapShared k)) s

/-- The output of port k at a frame in RUN: pairs, mute ramp, words, AES3 block (R306, R311 to R315, R322). -/
def sapOutRun (k stamp : Nat) (s : State) : State :=
  let r := pairsStep k stamp (s.sapSlots k / 2) 0 s []
  let s1 := r.1
  let v := s1.sap k
  let len := s1.sapRampLen k
  let g := if s1.flag (SAPk_OCTL_MUTE k) then v.ramp - 1 else min len (v.ramp + 1)
  let wl := s1.getF (SAPk_CTL_WLEN k)
  let sent := r.2.flatMap fun x => [(slotWord wl x.l g len, x.v), (slotWord wl x.r g len, x.v)]
  (sapSend k sent (s1.setSap k { v with ramp := g })).setB (SAPk_STAT_MUTED k) (g == 0)

/-! ## Input -/

/-- An AES3 subframe as received has odd parity over time slots 4 to 31, bits 31 to 4 of its word (R305, R323). -/
def parityBad (aes : Bool) (w : Nat) : Bool := aes && ((List.range 28).countP fun i => w.testBit (i + 4)) % 2 == 1

/-- A frame of words received on the input of port k becomes fix24 values, the top WLEN bits of each: a subframe with a
parity error is replaced by the channel's previous sample (R305, R306, R323). -/
def frameValues (wlen : Nat) (aes : Bool) : List Nat → List Int → List Int
  | [], _ => []
  | w :: t, l => (if parityBad aes w then l.headD 0 else slotValue wlen w) :: frameValues wlen aes t l.tail

/-- A committed mask takes effect at this frame start: the record closes, a marker follows, AUX is raised (R320). -/
def maskApply (k stamp flags : Nat) (s : State) : State :=
  if !s.flag (SAPk_STAT_MASK_PEND k) then s
  else
    let s1 := if s.getF (SAPk_ICAP_PACK k) = 0 then capClose k s else s
    let new := s.getF (SAPk_IMASK_MASK k)
    let s2 := (s1.setF (SAPk_IMASK_ACT_MASK k) new).setF (SAPk_STAT_MASK_PEND k) 0
    let s3 := if s.flag (SAPk_ICAP_CAP_EN k) && s.getF (SAPk_ICAP_PACK k) == 0 then
        capEmit k stamp flags (capHeader stamp flags k 1 0 new) s2 else s2
    raise (evSapAux k) 1 s3

/-- A frame joins the open capture record of port k; a record holds 64 frames (R319). -/
def capFrame (k stamp flags : Nat) (words : List Nat) (s : State) : State :=
  if !(s.flag (SAPk_ICAP_CAP_EN k) && s.getF (SAPk_ICAP_PACK k) == 0) then s
  else
    let mask := s.getF (SAPk_IMASK_ACT_MASK k)
    let sel := ((List.range words.length).filter fun i => mask.testBit i).map fun i => words.getD i 0
    let r := (s.sap k).cap.getD ⟨stamp, 0, 0, []⟩
    let r1 : CapRec := ⟨if r.frames = 0 then stamp else r.ts, r.flags ||| flags, r.frames + 1, r.words ++ sel⟩
    let s1 := s.setSap k { s.sap k with cap := some r1 }
    if r1.frames = 64 then capClose k s1 else s1

/-- The words of an AES3 frame: the audio of a subframe with a parity error is the channel's previous sample (R323). -/
def parityWords : List Nat → List Nat → List Nat
  | [], _ => []
  | w :: t, l => (if parityBad true w then l.headD 0 / 256 * 256 + w % 256 else w) :: parityWords t l.tail

/-- The channel-status bits of channel 1: a preamble Z opens a block, and 192 bits are one (R323). -/
def csTake (f : SapFrame) (v : Sap) : Sap :=
  let c := (f.words.headD 0).testBit 5
  let l := if f.z then [c] else if v.csIn.isEmpty then [] else c :: v.csIn
  if l.length = 192 then
    let b := l.reverse
    { v with csIn := [], csBlock := some ((List.range 24).map fun i =>
        BitVec.ofNat 8 ((List.range 8).foldl (fun a j => a + (b.getD (8 * i + j) false).toNat * 2 ^ j) 0)) }
  else { v with csIn := l }

/-- The bytes of a frame in the KT-440 packing (R321): slots 0 and 1, a masked slot as zero. -/
def packBytes (pack mask : Nat) (vals : List Int) : List Byte :=
  [0, 1].flatMap fun i =>
    let x := if mask.testBit i then vals.getD i 0 else 0
    bytesOf (if pack = 1 then 3 else 4) (unsignedOf 32 x)

/-- The frames the tap takes for a frame of the port: itself, or at 44.1 kHz those that the resampler gives at 160/147
(R190). -/
def tapFrames (s : State) (k : Nat) (f : TapFrame) (v : Sap) : List TapFrame × Sap :=
  if s.sapRate k != 44100 then ([f], v)
  else
    let l := v.rsIn ++ [f]
    let n := v.rsFrom + l.length
    let line : Nat → Int → Int := fun c i => if i < v.rsFrom then 0 else ((l[(i - v.rsFrom).toNat]?).map fun x => x.slots.getD c 0).getD 0
    let out := (List.range (rsGiven 160 147 n - v.rsNext)).map fun m =>
      let j := v.rsNext + m
      let q := rsPosition 160 147 j
      let a := l.getD (q.1 - v.rsFrom) f
      let b := l.getD (q.1 + 1 - v.rsFrom) f
      (⟨a.stamp + (b.stamp - a.stamp) * q.2 / 16777216, (List.range f.slots.length).map fun c => rsSample 160 147 j (line c),
        (l.drop (q.1 - v.rsFrom - 15)).any (·.rep)⟩ : TapFrame)
    (out, { v with rsIn := l.drop (l.length - 64), rsFrom := n - min n 64, rsNext := v.rsNext + out.length })

/-- A frame that the engine of port k did not take, its pod not being ACTIVE: the record in progress is lost, and the next one
carries DROP (R319, R328). -/
def capLost (k stamp : Nat) (s : State) : State :=
  if s.flag (SAPk_ICAP_CAP_EN k) && s.getF (SAPk_ICAP_PACK k) == 0 then s.setSap k { s.sap k with cap := some ⟨stamp, 1, 0, []⟩ }
  else s

/-- The input of port k at a good or repeated frame in RUN: tap, captures, validity and parity (R309, R317 to R323). -/
def sapInRun (k : Nat) (f : SapFrame) (glitch : Bool) (s : State) : State :=
  let v := s.sap k
  let aes := !s.sapShared k
  let bad := glitch || f.words.any (parityBad aes)
  let words := if glitch then v.lastWords else if aes then parityWords f.words v.lastWords else f.words
  let vals := if glitch then v.lastIn else frameValues (s.getF (SAPk_CTL_WLEN k)) aes f.words v.lastIn
  let cs := if s.inLock then 0 else 4
  let x := tapFrames s k ⟨f.stamp, vals, bad⟩ v
  let buf := v.tapBuf ++ x.1
  let full := decide (256 < buf.length)
  let tgt := s.getF (SAPk_CTL_TARGET k)
  let kept := if full then (match buf.drop (buf.length - tgt) with | a :: t => ⟨a.stamp, v.tapLast, true⟩ :: t | [] => []) else buf
  let y := if aes then (if glitch then { x.2 with csIn := [] } else csTake f x.2) else x.2
  let s1 := s.setSap k { y with tapBuf := kept, lastIn := vals, lastWords := words }
  let s2 := if full then s1.bump (SAPk_XRUN_IOVER k) else s1
  let s3 := if aes && f.words.any (fun w => w.testBit 7) then s2.setF (SAPk_AESST_V_SEEN k) 1 else s2
  let s4 := s3.bumpBy (SAPk_AESCNT_PARITY k) (if glitch then 0 else f.words.countP (parityBad aes))
  let s5 := capFrame k f.stamp ((if bad then 32 else 0) + cs) words (maskApply k f.stamp cs s4)
  let pack := s5.getF (SAPk_ICAP_PACK k)
  if k < 2 && pack != 0 then
    ktCapStore k (packBytes (if (s5.cap k).pack4 then 2 else 1) (s5.getF (SAPk_IMASK_ACT_MASK k)) vals) s5
  else s5

/-! ## Frames -/

/-- A frame period within 2 % of 1/FS (R308). -/
def State.periodOk (s : State) (k period : Nat) : Bool :=
  let x := period * s.sapRate k * 100
  decide (98 * Config.ticksPerSecond ≤ x) && decide (x ≤ 102 * Config.ticksPerSecond)

/-- The frame rate of 64 frames that took this many ticks, relative to FS, in ppb (R308). -/
def State.sapPpb (s : State) (k ticks : Nat) : Int :=
  if ticks = 0 then 0 else (64 * Config.ticksPerSecond * 1000000000 : Nat) / (s.sapRate k * ticks : Nat) - 1000000000

/-- The state field, rate register and fault fields of a direction: 0 output, 1 input. -/
def sapStateFld (k d : Nat) : Fld := if d = 0 then SAPk_STAT_OSTATE k else SAPk_STAT_ISTATE k

/-- A direction of a port. -/
def Sap.dir (v : Sap) (d : Nat) : SapDir := if d = 0 then v.out else v.inp

/-- Replace a direction. -/
def Sap.setDir (d : Nat) (x : SapDir) (v : Sap) : Sap := if d = 0 then { v with out := x } else { v with inp := x }

/-- A direction leaves RUN or enters SEEK: the output's queued samples are dropped and its ramp starts over, the input's
record ends at its last good frame, and the tap falls from the last sample received (R309, R318, R319). -/
def sapLeave (k d st : Nat) (s : State) : State :=
  let s1 := s.setF (sapStateFld k d) st
  if d = 0 then
    let v := s1.sap k
    let v1 := { v with pairs := v.pairs.map fun p => (p.1, { kind := p.2.kind, num := p.2.num }), ramp := 0 }
    (s1.setSap k (if st = 1 then { v1 with sent := [] } else v1)).setF (SAPk_STAT_MUTED k) 1
  else
    let s2 := if s1.getF (SAPk_ICAP_PACK k) = 0 then capClose k s1 else s1
    let v := s2.sap k
    s2.setSap k { v with tapBuf := [], rsIn := [], rsFrom := 0, rsNext := 0, tapLast := if v.tapRun then v.lastIn else v.tapLast }

/-- A direction enters RUN: the rate of its 64 frames is recorded and LOCK is raised (R308). -/
def sapEnterRun (k d ticks : Nat) (s : State) : State :=
  let s1 := s.setF (sapStateFld k d) 2
  let s2 := if d = 0 then s1.setI (SAPk_ORATE_PPB k) (s.sapPpb k ticks) else s1.setI (SAPk_IRATE_PPB k) (s.sapPpb k ticks)
  if d = 1 && s.sapShared k then s2 else raise (evSapLock k) d s2

/-- The direction's clock at a frame start: SEEK counts good frames, RUN averages over 64 frames and falls back to SEEK
on a RATE fault, HOLD goes to SEEK (R308, R309). -/
def sapClock (k d stamp : Nat) (glitch : Bool) (s : State) : State :=
  let x := (s.sap k).dir d
  let st := s.getF (sapStateFld k d)
  let period := stamp - x.last.getD stamp
  let put : SapDir → State → State := fun y s => s.setSap k ((s.sap k).setDir d y)
  let y0 : SapDir := { x with last := some stamp, counting := !glitch }
  if st = 3 then put { last := some stamp, counting := true } (sapLeave k d 1 s)
  else if glitch then
    let s1 := if d = 0 then s.bump (SAPk_GLITCH_O k) else s.bump (SAPk_GLITCH_I k)
    put { y0 with good := 0, frames := 0, ticks := 0 } s1
  else if st = 1 then
    if x.last.isSome && s.periodOk k period then
      if x.good + 1 = 64 then
        put { y0 with good := 0, frames := 0, ticks := 0, ticks0 := x.ticks + period } (sapEnterRun k d (x.ticks + period) s)
      else put { y0 with good := x.good + 1, ticks := x.ticks + period } s
    else put { y0 with good := 0, ticks := 0 } s
  else
    let t := x.ticks + period
    if x.frames + 1 < 64 then put { y0 with frames := x.frames + 1, ticks := t } s
    else if decide (t * 102 < x.ticks0 * 100) || decide (x.ticks0 * 100 < t * 98) then
      let s1 := if d = 0 then s.bump (SAPk_FLT_ORATE k) else s.bump (SAPk_FLT_IRATE k)
      let s2 := if d = 1 && s.sapShared k then s1 else raise (evSapFault k) d s1
      put { y0 with good := 0, frames := 0, ticks := 0 } (sapLeave k d 1 s2)
    else
      let s1 := if d = 0 then s.setI (SAPk_ORATE_PPB k) (s.sapPpb k t) else s.setI (SAPk_IRATE_PPB k) (s.sapPpb k t)
      put { y0 with frames := 0, ticks := 0 } s1

/-- A frame start of one direction: its clock, then its data while it is in RUN; a glitch repeats (R309). -/
def sapDirFrame (k d : Nat) (f : SapFrame) (s : State) : State :=
  let x := (s.sap k).dir d
  let pins := s.sapShared k || d == 0 && s.getF (SAPk_CTL_CLKSRC k) == 0
  let glitch := f.violation || (pins && x.counting && f.edges != s.sapEdges k)
  let s1 := sapClock k d f.stamp glitch s
  if s1.getF (sapStateFld k d) = 1 && d = 0 then sapOutSeek k s1
  else if s1.getF (sapStateFld k d) != 2 then s1
  else if d = 0 then (if glitch then s1 else sapOutRun k f.stamp s1)
  else if s1.podsOut 8 k then capLost k f.stamp s1
  else sapInRun k f glitch s1

/-- SAP_FRAME: a frame start on port k (R303 to R323). -/
def execSapFrame (k : Nat) (f : SapFrame) (s : State) : Host.Outcome State Fault Refusal :=
  .next (if k < 8 && s.flag (SAPk_CTL_EN k) && f.dir < 2 && !s.pwr.inReset then
    let s1 := s.advance f.stamp
    audShow (if s.sapShared k then sapDirFrame k 1 f (sapDirFrame k 0 f s1) else sapDirFrame k f.dir f s1)
  else s)

/-- A direction whose clock has stopped goes to HOLD (R309). -/
def sapStop (k d : Nat) (s : State) : State :=
  let s1 := if d = 0 then s.bump (SAPk_FLT_OSTOP k) else s.bump (SAPk_FLT_ISTOP k)
  let s2 := if d = 1 && s.sapShared k then s1 else raise (evSapFault k) d s1
  sapLeave k d 3 s2

/-- SAP_CLOCK_STOP: no frame start for four frame periods at t (R309). -/
def execSapClockStop (k dir t : Nat) (s : State) : Host.Outcome State Fault Refusal :=
  let s1 := s.advance t
  let d := if s.sapShared k then 0 else dir
  let st := s.getF (sapStateFld k d)
  .next (if k < 8 && dir < 2 && (st = 1 || st = 2)
      && (((s.sap k).dir d).last.map fun x => decide (x + s.sapTicks k 4 ≤ s1.now)).getD false then
    audShow (if s.sapShared k then sapStop k 1 (sapStop k 0 s1) else sapStop k d s1)
  else s)

/-! ## The interior tap -/

/-- One sample of a tap block (R317, R318): the frame at the head of the buffer, or the last sample under a ramp to
zero; gain out of ramp length, and whether it repeats. -/
def tapSample (len : Nat) (v : Sap) : List Int × Bool × Sap :=
  let scale : Nat → List Int → List Int := fun g l => if len = 0 then l else l.map fun x => roundEven (x * g) len
  if v.tapRun then
    match v.tapBuf with
    | f :: t => (scale (min len (v.tapRamp + 1)) f.slots, f.rep,
        { v with tapBuf := t, tapLast := f.slots, tapRamp := min len (v.tapRamp + 1) })
    | [] => (scale (v.tapRamp - 1) v.tapLast, true, { v with tapRun := false, tapRamp := v.tapRamp - 1 })
  else (scale (v.tapRamp - 1) v.tapLast, true, { v with tapRamp := v.tapRamp - 1 })

/-- n samples of a tap block: the samples, whether one repeats, and the port after them. -/
def tapSamples (len : Nat) : Nat → Sap → List Int × Bool × Sap
  | 0, v => ([], false, v)
  | n + 1, v =>
    let a := tapSample len v
    let b := tapSamples len n a.2.2
    (a.1 ++ b.1, a.2.1 || b.2.1, b.2.2)

/-- The tap's slip at the start of a block: 1 drops a sample, 2 inserts one (R312, R317). -/
def tapSlip (period now : Nat) (v : Sap) : Nat :=
  match v.tapBuf with
  | f :: _ :: _ => if !v.tapRun then 0 else if v.tapL0 + period ≤ now - f.stamp then 1
      else if now - f.stamp + period ≤ v.tapL0 then 2 else 0
  | _ => 0

/-- The port after a slip. -/
def tapSlipped (slip : Nat) (v : Sap) : Sap :=
  match v.tapBuf with
  | f :: t =>
    if slip = 1 then { v with tapBuf := t }
    else if slip = 2 then
      let mid := (List.range f.slots.length).map fun i => roundEven (v.tapLast.getD i 0 + f.slots.getD i 0) 2
      { v with tapBuf := ⟨f.stamp, mid, false⟩ :: f :: t }
    else v
  | [] => v

/-- SAP_TAP_BLOCK: the interior tap of port k delivers the block of timestamp ts (R317, R318). -/
def sapTap (k ts : Nat) (s : State) : State :=
  let v := s.sap k
  let tgt := s.getF (SAPk_CTL_TARGET k)
  let resume := !v.tapRun && s.getF (SAPk_STAT_ISTATE k) == 2 && decide (tgt ≤ v.tapBuf.length)
  let kept := v.tapBuf.drop (v.tapBuf.length - tgt)
  let v1 := if resume then { v with tapRun := true, tapBuf := kept, tapL0 := ts - ((kept.head?.map (·.stamp)).getD ts) } else v
  let slip := tapSlip (s.sapTicks k 1) ts v1
  let r0 := tapSamples (s.getF (SAPk_CTL_RAMP_MS k) * 48) 64 (tapSlipped slip v1)
  let r := if s.podsOut 8 k then (r0.1.map fun _ => (0 : Int), r0.2) else r0
  let flags := (if r.2.1 then 32 else 0) + (if slip != 0 then 16 else 0) + s.clockAudio ts
    + (if s.podsOut 8 k then 8 else 0)
  let w := s.sapSlots k
  let s0 := forEach (List.range (w / 2)) (fun i => laneFeed 2 (8 * k + i)
    ⟨ts, flags, (List.range 64).flatMap fun j => [r.1.getD (j * w + 2 * i) 0, r.1.getD (j * w + 2 * i + 1) 0]⟩) s
  let s1 := s0.setSap k { r.2.2 with tap := some ⟨ts, flags, r.1⟩ }
  let s2 := if slip = 1 then s1.bump (SAPk_ISLIP_DEL k) else if slip = 2 then s1.bump (SAPk_ISLIP_INS k) else s1
  if v1.tapRun && !r.2.2.tapRun then s2.bump (SAPk_XRUN_IUNDER k) else s2

/-- SAP_TAP_BLOCK. -/
def execSapTapBlock (k ts : Nat) (s : State) : Host.Outcome State Fault Refusal :=
  .next (if k < 8 && s.flag (SAPk_CTL_EN k) && ts % Config.audioBlock = 0 then sapTap k ts (s.advance ts) else s)

/-! ## Channel status -/

/-- AES3_CS_BLOCK: the channel-status block that the input of port k has assembled is checked and taken (R323). -/
def execAes3CsBlock (k : Nat) (s : State) : Host.Outcome State Fault Refusal :=
  .next (match (s.sap k).csBlock with
    | none => s
    | some bytes =>
      if !(k < 8 && s.getF (SAPk_CTL_FORMAT k) = 3 && s.getF (SAPk_STAT_ISTATE k) = 2) then s
      else
        let s0 := s.setSap k { s.sap k with csBlock := none }
        let pro := (bytes.headD 0).toNat % 2 = 1
        let words := (List.range 6).map fun i => leAt bytes (4 * i) 4
        if pro && crccRun (bytes.take 23) 0xFF != (bytes.getD 23 0).toNat then s0.bump (SAPk_AESCNT_CRCC k)
        else if words = (List.range 6).map fun i => (s.rd (SAPk_RCS k i)).toNat then s0
        else raise (evSapAux k) 1
          (forEach (List.range 6) (fun i s => s.wr (SAPk_RCS k i) (BitVec.ofNat 32 (words.getD i 0))) s0))

end Sys2Proof.Machine
end

