-- ==== Sys2Proof/Machine/Ptp.lean ====
section
/-! DEFINITION. The PTP port (spec/13 R331 to R335): Announce and the best master clock algorithm, Sync and delay
measurement, the mapping of R114 with its servo, the master's messages, and PPS_OUT.  Times are held in units of
2^-16 ns. -/

namespace Sys2Proof.Machine

/-- Units of 2^-16 ns in a nanosecond. -/
def ptpUnit : Int := 65536

/-- Ticks in units of 2^-16 ns: one tick is 3,125 / 12,288 ns. -/
def ptpOfTicks (c : Int) : Int := c * 50000 / 3

/-- a / b to the nearest integer, halves upwards. -/
def roundDiv (a b : Int) : Int := (2 * a + b) / (2 * b)

/-- Replace the PTP port's state. -/
def State.setPtp (p : Ptp) (s : State) : State := { s with net := { s.net with ptp := p } }

/-- portState (R360): 3 DISABLED, 4 LISTENING, 6 MASTER, 7 PASSIVE, 8 UNCALIBRATED, 9 SLAVE. -/
def State.ptpState (s : State) : Nat := s.getF NET_PTP_STAT_STATE

/-- The number of the PTP port. -/
def State.ptpPort (s : State) : Nat := s.getF NET_PTP_CTL_PORT

/-- Enter a port state.  A departure from SLAVE is counted, raises PTP_STATE, and loses the PTP reference of the SPLL
(R94, R100, R332). -/
def ptpEnter (st : Nat) (s : State) : State :=
  let s0 := s.setF NET_PTP_STAT_STATE st
  let s1 := if st = 9 && s.ptpState != 9 then s0.setPtp { s0.net.ptp with slaveAt := s.now } else s0
  if s.ptpState = 9 && st != 9 then
    let s2 := raise evPtpState s.ptpPort (s1.bump NET_PTP_STAT_EXITS)
    let s3 := s2.setPtp { s2.net.ptp with run := 0, off := 0, syncs := [] }
    if s3.getF CLK_CTL_SRC = 1 then
      (if s3.clk.follows then spllLoseNow s3 else s3).setF CLK_STAT_REF_OK 0
    else s3
  else s1

/-- The dataset of a, in the order in which IEEE 1588-2019 compares, precedes that of b. -/
def lexLess : List Nat → List Nat → Bool
  | a :: l, b :: m => decide (a < b) || (a == b && lexLess l m)
  | [], _ :: _ => true
  | _, [] => false

/-- The values of an Announce that the best master clock algorithm compares. -/
def annKey (a : PtpAnn) : List Nat := [a.prio1, a.cls, a.acc, a.var, a.prio2, a.ident, a.steps, a.src]

/-- The part's own dataset (NET_PTP_DS; the variance and the identity are free, R331, R334). -/
def State.ptpOwn (s : State) : List Nat :=
  [s.getF NET_PTP_DS_PRIO1, s.getF NET_PTP_DS_CLASS, s.getF NET_PTP_DS_ACCURACY, Config.ptpVariance,
    s.getF NET_PTP_DS_PRIO2, Config.ptpIdentity, 0, 0]

/-- The measurements start over for a new parent. -/
def Ptp.fresh (p : Ptp) (a : Option PtpAnn) : Ptp :=
  { p with parent := a, sync := none, last := none, syncs := [], run := 0, off := 0, req := none, delays := []
           annAt := none, syncAt := none }

/-- Follow a new parent from the port state it finds: UNCALIBRATED (R332). -/
def ptpFollow (a : PtpAnn) (s : State) : State :=
  let s1 := ptpEnter 8 s
  s1.setPtp (s1.net.ptp.fresh (some a))

/-- PTP_ANNOUNCE: an Announce of the port's domain.  The best of the parent, the sender and, with ROLE = 1, the part
itself is selected (R331, R332). -/
def ptpAnnounce (a : PtpAnn) (s : State) : State :=
  if !s.flag NET_PTP_CTL_EN || a.domain != s.getF NET_PTP_CTL_DOMAIN then s
  else
    let p := s.net.ptp
    let same := (p.parent.map (·.src)) == some a.src
    let best := match p.parent with
      | some b => if same || lexLess (annKey a) (annKey b) then a else b
      | none => a
    if s.flag NET_PTP_CTL_ROLE && lexLess s.ptpOwn (annKey best) then
      let s1 := ptpEnter 6 s
      s1.setPtp (s1.net.ptp.fresh none)
    else if s.flag NET_PTP_CTL_ROLE && decide (s.getF NET_PTP_DS_CLASS < 128) then
      let s1 := ptpEnter 7 s
      s1.setPtp (s1.net.ptp.fresh (some best))
    else if same && (s.ptpState = 8 || s.ptpState = 9) then s.setPtp { p with parent := some a }
    else if best == a then ptpFollow a s
    else s

/-- PTP_ANNOUNCE. -/
def execPtpAnnounce (p : PtpAnn) (s : State) : Host.Outcome State Fault Refusal := .next (ptpAnnounce p (s.advance p.stamp))

/-- Without a parent the port listens, or with ROLE = 1 becomes master (R331). -/
def ptpAlone (s : State) : State :=
  let s1 := ptpEnter (if s.flag NET_PTP_CTL_ROLE then 6 else 4) s
  s1.setPtp (s1.net.ptp.fresh none)

/-- PTP_ANNOUNCE_TIMEOUT: ANN_TO announce intervals have passed at t without an Announce from the parent (R332). -/
def execPtpAnnounceTimeout (t : Nat) (s : State) : Host.Outcome State Fault Refusal :=
  let s1 := s.advance t
  let due := match s.net.ptp.parent with
    | some a => decide (a.stamp + s.getF NET_PTP_CTL_ANN_TO * a.interval ≤ t)
    | none => true
  .next (if s1.flag NET_PTP_CTL_EN && s1.ptpState != 6 && due then ptpAlone s1 else s1)

/-- PTP_SYNC_TIMEOUT: four Sync intervals of the parent have passed at t without an accepted Sync (R332). -/
def execPtpSyncTimeout (t : Nat) (s : State) : Host.Outcome State Fault Refusal :=
  let s1 := s.advance t
  .next (if s1.ptpState = 9 && decide (s1.net.ptp.accAt + 4 * s1.net.ptp.syncIv ≤ t) then ptpEnter 8 s1 else s1)

/-! ## Path delay -/

/-- The median of a list of delays. -/
def median (l : List Int) : Int :=
  let m := l.insertionSort (· ≤ ·)
  let n := m.length
  if n % 2 = 1 then m.getD (n / 2) 0 else (m.getD (n / 2 - 1) 0 + m.getD (n / 2) 0) / 2

/-- The mean of a list, rounded down. -/
def meanInt (l : List Int) : Int := if l.isEmpty then 0 else l.sum / l.length

/-- The mean path delay: the mean of the last 8 measurements without any that exceed 3 times their median (R333). -/
def meanDelay (l : List Int) : Int := meanInt (l.filter fun d => decide (d ≤ 3 * median l))

/-- PTP_DELAY_REQ_SEND: in UNCALIBRATED or SLAVE the port sends a Delay_Req at t (R333). -/
def execPtpDelayReqSend (t : Nat) (s : State) : Host.Outcome State Fault Refusal :=
  let s1 := s.advance t
  let p := s1.net.ptp
  .next (if s1.ptpState = 8 || s1.ptpState = 9 then
    s1.setPtp { p with req := some (p.reqSeq, t), reqSeq := (p.reqSeq + 1) % 65536 } else s1)

/-- The delay of a Delay_Resp r to a request sent at t3, with the last Sync of origin o and ingress t2: half the sum of
the two directions. -/
def delayOf (o : Int) (t2 t3 : Nat) (r : PtpMsg) : Int :=
  (ptpOfTicks ((t2 : Int) - t3) + (r.time * ptpUnit - r.corr) - o) / 2

/-- PTP_DELAY_RESP: a Delay_Resp to the outstanding request gives a measurement (R333). -/
def execPtpDelayResp (p : PtpMsg) (s : State) : Host.Outcome State Fault Refusal :=
  let s1 := s.advance p.stamp
  let q := s1.net.ptp
  .next <|
    match q.req, q.last with
    | some (n, t3), some (o, t2) =>
      if n = p.seq && q.parent.map (·.src) == some p.src then
        let ds := (delayOf o t2 t3 p :: q.delays).take 8
        let s2 := s1.setPtp { q with req := none, delays := ds, delayAt := s1.now }
        s2.setI NET_PTP_MPD_NS (roundDiv (meanDelay ds) ptpUnit)
      else s1
    | _, _ => s1

/-! ## The mapping -/

/-- The sums of a least-squares line through points relative to the first: count, N and D of the slope N / D, and the
sums of X and Y. -/
def lineSums (l : List (Nat × Int)) : Int × Int × Int × Int × Int :=
  let x0 : Int := (l.head?.map (fun q => (q.1 : Int))).getD 0
  let y0 := (l.head?.map (·.2)).getD 0
  let n : Int := l.length
  let xs := l.map fun q => (q.1 : Int) - x0
  let ys := l.map fun q => q.2 - y0
  let sx := xs.sum
  let sy := ys.sum
  let sxy := (List.zipWith (· * ·) xs ys).sum
  let sxx := (xs.map fun x => x * x).sum
  (n, n * sxy - sx * sy, n * sxx - sx * sx, sx, sy)

/-- A point lies within 1 µs of the line fitted through the points before it; fewer than two fix no line (R332). -/
def nearLine (l : List (Nat × Int)) (x : Nat) (y : Int) : Bool :=
  let (n, num, den, sx, sy) := lineSums l
  let x0 : Int := (l.head?.map (fun q => (q.1 : Int))).getD 0
  let y0 := (l.head?.map (·.2)).getD 0
  if n < 2 || den = 0 then true
  else
    let d := sy * den + num * (n * ((x : Int) - x0) - sx) - (y - y0) * n * den
    decide ((d.natAbs : Int) ≤ 1000 * ptpUnit * n * den)

/-- RATE: the least-squares slope over the points, less 1, in units of 10^-12 (R113, R333). -/
def rateOf (l : List (Nat × Int)) : Int :=
  let (n, num, den, _, _) := lineSums l
  if n < 2 || den = 0 then 0
  else clampInt (-2147483648) 2147483647 (roundDiv ((3 * num - 50000 * den) * 1000000000000) (50000 * den))

/-- Write the mapping: anchor count and time, RATE, VALID, and the generation (R114, R333). -/
def mapUpdate (c : Nat) (y rate : Int) (s : State) : State :=
  let ns := (roundDiv y ptpUnit).toNat
  let sec := ns / 1000000000
  let s1 := s.set64 CLK_MAP_CNT_LO CLK_MAP_CNT_HI c
  let s2 := ((s1.setF CLK_MAP_SEC_LO_SEC sec).setF CLK_MAP_SEC_HI_SEC (sec / 4294967296)).setF CLK_MAP_NS_NS (ns % 1000000000)
  let s3 := (s2.setI CLK_MAP_RATE_RATE rate).setF CLK_MAP_GEN_COUNT (s2.getF CLK_MAP_GEN_COUNT + 1)
  let s4 := if s.flag CLK_MAP_GEN_VALID then s3 else { s3 with clk := { s3.clk with epoch := s3.clk.epoch + 1 } }
  s4.setF CLK_MAP_GEN_VALID 1

/-- The servo: with SRC = PTP it moves ADJ towards RATE = 0 with a time constant of 10 s, at most 10 ppb per Sync
(R333).  Its values of the last second are kept for HOLDOVER (R105). -/
def servo (rate : Int) (ticks : Nat) (s : State) : State :=
  if s.getF CLK_CTL_SRC = 1 then
    let d := clampInt (-10000) 10000 (roundDiv (rate * ticks) (10 * Config.ticksPerSecond))
    let v := clampInt (-200000000) 200000000 (s.getI SPLL_DCO_ADJ + d)
    let old := s.clk.adjs.filter fun q => decide (s.now ≤ q.1 + 2 * Config.ticksPerSecond)
    let s1 := s.setI SPLL_DCO_ADJ v
    { s1 with clk := { s1.clk with adjs := (s.now, v) :: old } }
  else s

/-- An accepted Sync updates the mapping and steers the SPLL while bit 3 is active, and HOLDOVER freezes both (R114,
R333). -/
def ptpSteer (c : Nat) (y rate : Int) (ticks : Nat) (s : State) : State :=
  if s.feat 3 && s.spll != 5 then servo rate ticks (mapUpdate c y rate s) else s

/-- Whether a Sync differs from the mapping's prediction by more than 1 ms (R332). -/
def State.offMap (s : State) (c : Nat) (y : Int) : Bool :=
  s.flag CLK_MAP_GEN_VALID && decide (1000000 * ptpUnit < ((s.ptpTime c * ptpUnit - y).natAbs : Int))

/-- An accepted Sync with ingress stamp c and time y, the mean path delay included (R332, R333). -/
def ptpAccept (c : Nat) (y : Int) (s : State) : State :=
  let p := s.net.ptp
  let dt := c - p.accAt
  if s.ptpState = 9 then
    let off := if s.offMap c y then p.off + 1 else 0
    let pts := ((c, y) :: p.syncs).take 16
    let s1 := s.setPtp { p with accAt := c, off := off, syncs := pts }
    if off = 4 then ptpEnter 8 s1
    else ptpSteer c y (rateOf pts) dt s1
  else
    let near := nearLine p.syncs c y
    let run := if near then p.run + 1 else 1
    let pts := if near then ((c, y) :: p.syncs).take 16 else [(c, y)]
    let s1 := s.setPtp { p with accAt := c, run := run, syncs := pts }
    if 16 ≤ run then
      ptpSteer c y (rateOf pts) dt (ptpEnter 9 s1)
    else s1

/-- A complete Sync of origin o and ingress c: accepted where a delay measurement less than 2 s old exists; otherwise
the run of accepted Syncs breaks (R332). -/
def ptpComplete (o : Int) (c : Nat) (s : State) : State :=
  let p := s.net.ptp
  let s1 := s.setPtp { p with last := some (o, c), sync := none }
  if p.delays.isEmpty || decide (p.delayAt + 2 * Config.ticksPerSecond ≤ s.now) then
    if s.ptpState = 8 then s1.setPtp { s1.net.ptp with run := 0, syncs := [] } else s1
  else ptpAccept c (o + meanDelay p.delays) s1

/-- Whether a message comes from the parent while the port listens to it. -/
def State.ptpFrom (s : State) (m : PtpMsg) : Bool :=
  s.flag NET_PTP_CTL_EN && (s.ptpState = 8 || s.ptpState = 9) && m.domain == s.getF NET_PTP_CTL_DOMAIN
    && s.net.ptp.parent.map (·.src) == some m.src

/-- PTP_SYNC: a Sync of the parent.  One that finds an earlier two-step Sync without its Follow_Up breaks the run. -/
def execPtpSync (p : PtpMsg) (s : State) : Host.Outcome State Fault Refusal :=
  let s1 := s.advance p.stamp
  let q := { s1.net.ptp with syncIv := p.interval }
  let s2 := s1.setPtp (if q.sync.isSome && s1.ptpState = 8 then { q with run := 0, syncs := [] } else q)
  .next (if !s1.ptpFrom p then s1
    else if p.twoStep then s2.setPtp { s2.net.ptp with sync := some p }
    else ptpComplete (p.time * ptpUnit + p.corr) p.stamp s2)

/-- PTP_FOLLOW_UP: it completes the two-step Sync of its sequence number that arrived within the last 1 s (R332). -/
def execPtpFollowUp (p : PtpMsg) (s : State) : Host.Outcome State Fault Refusal :=
  let s1 := s.advance p.stamp
  .next <|
    match s1.net.ptp.sync with
    | some m =>
      if s1.ptpFrom p && m.seq == p.seq && decide (p.stamp ≤ m.stamp + Config.ticksPerSecond) then
        ptpComplete (p.time * ptpUnit + p.corr + m.corr) m.stamp s1
      else s1
    | none => s1

/-! ## Master and PPS -/

/-- The time a master sends for count c: the mapping, or SYSCNT since the epoch where VALID was never set (R334). -/
def State.masterTime (s : State) (c : Nat) : Int :=
  if s.flag CLK_MAP_GEN_VALID then s.ptpTime c else (c : Int) * 3125 / 12288

/-- An interval of 2^k s in ticks. -/
def logTicks (k : Int) : Nat :=
  if 0 ≤ k then Config.ticksPerSecond * 2 ^ k.toNat else Config.ticksPerSecond / 2 ^ (-k).toNat

/-- A message is due at t where its interval has passed since the last one. -/
def dueAfter (last : Option Nat) (iv t : Nat) : Bool := last.all fun x => decide (x + iv ≤ t)

/-- PTP_MASTER_SEND: as master, with its link up, the port sends at t an Announce of NET_PTP_DS with timeSource 0xA0 (0) or
a two-step Sync (1), each where its interval has passed since the last one, or the Follow_Up with the time of the Sync (2)
(R331, R334, R360). -/
def execPtpMasterSend (kind t : Nat) (s : State) : Host.Outcome State Fault Refusal :=
  let s1 := s.advance t
  let p := s1.net.ptp
  .next <|
    if !(s1.flag NET_PTP_CTL_EN && s1.ptpState = 6 && s1.flag (NET_PORTm_STAT_LINK s1.ptpPort)) then s1
    else if kind = 0 then
      if dueAfter p.annAt (logTicks (s1.getI NET_PTP_CTL_ANN_LOG)) t then
        s1.setPtp { p with
          sent := some (0, s1.masterTime t, p.annSeq), annSeq := (p.annSeq + 1) % 65536, annAt := some t
          ann := [s1.getF NET_PTP_DS_PRIO1, s1.getF NET_PTP_DS_CLASS, s1.getF NET_PTP_DS_ACCURACY,
            s1.getF NET_PTP_DS_PRIO2, 0xA0] }
      else s1
    else if kind = 1 then
      if dueAfter p.syncAt (logTicks (s1.getI NET_PTP_CTL_SYNC_LOG)) t then
        s1.setPtp { p with sent := some (1, s1.masterTime t, p.syncSeq), syncSeq := (p.syncSeq + 1) % 65536, syncAt := some t }
      else s1
    else match p.sent with
      | some (1, x, n) => s1.setPtp { p with sent := some (2, x, n) }
      | _ => s1

/-- PPS_PULSE: PPS_OUT rises at the count of a whole PTP second while PPS and VALID are 1 (R335). -/
def execPpsPulse (t : Nat) (s : State) : Host.Outcome State Fault Refusal :=
  let s1 := s.advance t
  let sec := (s1.ptpTime t + 500000000) / 1000000000
  .next (if s1.flag NET_PTP_CTL_PPS && s1.flag CLK_MAP_GEN_VALID && s1.ptpCount (sec * 1000000000) == t then
    { (s1.setPtp { s1.net.ptp with ppsAt := t }) with pins := { s1.pins with ppsOut := true } } else s1)

/-- PPS_END: PPS_OUT falls 10 ms after it rose (R335). -/
def execPpsEnd (t : Nat) (s : State) : Host.Outcome State Fault Refusal :=
  let s1 := s.advance t
  .next (if s1.net.ptp.ppsAt + 10 * Config.ticksPerMs ≤ t then { s1 with pins := { s1.pins with ppsOut := false } } else s1)

/-- A write of NET_PTP_CTL (R331, R360): EN needs bit 3.  EN starts the port in LISTENING; a change of role, port or
domain while enabled starts it again; EN = 0 disables it.  Without PPS, PPS_OUT is low (R335). -/
def ptpCtlWrite (w : Word) (s : State) : State :=
  let en := w.toNat.testBit 31
  if en && !s.feat 3 then refuse NET_REFUSE codeNotLocked s
  else if !regOk NET_PTP_CTL w then refuse NET_REFUSE codeReserved s
  else
    let was := s.flag NET_PTP_CTL_EN
    let key := fun x : State => (x.getF NET_PTP_CTL_ROLE, x.getF NET_PTP_CTL_PORT, x.getF NET_PTP_CTL_DOMAIN)
    let s0 := regPut NET_PTP_CTL w s
    let s1 := if s0.flag NET_PTP_CTL_PPS then s0 else { s0 with pins := { s0.pins with ppsOut := false } }
    let restart := en && (!was || key s0 != key s)
    if restart then
      let s2 := ptpEnter 4 s1
      s2.setPtp (s2.net.ptp.fresh none)
    else if !en then
      let s2 := ptpEnter 3 s1
      s2.setPtp (s2.net.ptp.fresh none)
    else s1

end Sys2Proof.Machine
end

