-- ==== Sys2Proof/Machine/Net.lean ====
section
/-! DEFINITION. Ethernet (spec/13 R329, R330, R336 to R350): ports and frames, egress classes, AES67 senders and
receivers, VITA 49.2 streams and Casrum side data. -/

namespace Sys2Proof.Machine

/-! ## Egress -/

/-- What unlisted egress state, senders, receivers and IQ streams hold. -/
def egrNone (_ : Nat) : Egress := {}
def txNone (_ : Nat) : NetTx := {}
def rxNone (_ : Nat) : NetRx := {}
def iqNone (_ : Nat) : NetIq := {}
def seqNone (_ : Nat) : Nat := 0

/-- Egress of a port. -/
def State.egr (s : State) (m : Nat) : Egress := sget egrNone s.net.egr m

/-- Replace the egress of a port. -/
def State.setEgr (m : Nat) (e : Egress) (s : State) : State := { s with net := { s.net with egr := sset egrNone m e s.net.egr } }

/-- Line rate of a port in Mbit/s (R329, R349). -/
def State.lineRate (s : State) (m : Nat) : Nat := if s.getF (NET_PORTm_CTL_SPEED m) = 2 then 10000 else 25000

/-- The link of a port is up. -/
def State.linkUp (s : State) (m : Nat) : Bool := s.flag (NET_PORTm_STAT_LINK m)

/-- Ticks a packet occupies the wire, rounded up. -/
def State.wireTicks (s : State) (m bytes : Nat) : Nat :=
  let bps := s.lineRate m * 1000000
  (bytes * 8 * Config.ticksPerSecond + bps - 1) / bps

/-- The number of the packet served next at instant x: the oldest of the lowest class that has arrived (R350). -/
def nextPacket (x : Nat) (l : List EgrPkt) : Option Nat :=
  ((List.range 4).filterMap fun c => l.findIdx? fun p => p.cls == c && decide (p.at_ ≤ x)).head?

/-- Packets leave by strict priority until the wire is busy at t (R350). -/
def egrServe (m t : Nat) : Nat → State → State
  | 0, s => s
  | n + 1, s =>
    let e := s.egr m
    let first := e.queue.foldl (fun a p => min a p.at_) t
    let x := max e.free first
    if e.queue.isEmpty || t < x || !s.linkUp m then s
    else match nextPacket x e.queue with
      | some i =>
        let p := e.queue.getD i { cls := 0, bytes := 0, at_ := 0, type := 0 }
        egrServe m t n (s.setEgr m { queue := e.queue.eraseIdx i, free := x + s.wireTicks m p.bytes, sent := some p })
      | none => s

/-- Serve everything that can leave by t. -/
def egrRun (m t : Nat) (s : State) : State := egrServe m t (s.egr m).queue.length s

/-- Count a packet discarded with REFUSED_CAPACITY or REFUSED_CLASS (R350). -/
def egrDrop (m c : Nat) (cls : Bool) (s : State) : State :=
  s.bump (if cls then NET_PORTm_CLS_REFCLS m c else NET_PORTm_CLS_REFCAP m c)

/-- Whether a packet of class c and a number of bytes may join the queue of port m; class 3 joins only while no
packet of class 1 or 2 waits (R350). -/
def State.egrFits (s : State) (m c bytes : Nat) : Bool :=
  let q := (s.egr m).queue
  let held := ((q.filter fun p => p.cls == c).map (·.bytes)).sum
  if c = 0 then s.linkUp m && decide (held + bytes ≤ 65536)
  else if c = 3 then !q.any (fun p => p.cls == 1 || p.cls == 2)
  else decide (held + bytes ≤ 262144)

/-- A lost packet of side data makes the first record of the next packet of its TYPE carry DROP, and lost event records
are counted (R345, R374). -/
def casLost (p : EgrPkt) (s : State) : State :=
  if p.type = 0 then s
  else
    let s1 := if s.net.casDrop.contains p.type then s else { s with net := { s.net with casDrop := p.type :: s.net.casDrop } }
    if p.type = 7 then s1.bumpBy EVT_RECLOST_CNT ((p.bytes - 90) / 16) else s1

/-- A packet is discarded at port m (R350). -/
def egrLose (m : Nat) (p : EgrPkt) (s : State) : State := casLost p (egrDrop m p.cls (p.cls == 3) s)

/-- Packets of class 3 are discarded while any of class 1 or 2 waits (R350). -/
def egrYield (m : Nat) (s : State) : State :=
  let e := s.egr m
  if e.queue.any (fun p => p.cls == 1 || p.cls == 2) then
    (e.queue.filter fun p => p.cls == 3).foldl (fun s p => egrLose m p s) (s.setEgr m { e with queue := e.queue.filter fun p => p.cls != 3 })
  else s

/-- Hand a packet to the egress of port m when it arrives: whether it was taken, and the state after (R350). -/
def egrPut (m : Nat) (p : EgrPkt) (s : State) : Bool × State :=
  let s1 := egrRun m p.at_ s
  if s1.egrFits m p.cls p.bytes then
    let e := s1.egr m
    (true, egrYield m (egrRun m p.at_ (s1.setEgr m { e with queue := e.queue ++ [p] })))
  else (false, egrLose m p s1)

/-- The priority of a packet's 802.1Q tag, where the port's VLAN is not 0; a PTP message has 6 and DSCP 46 (R330). -/
def EgrPkt.pcp (p : EgrPkt) : Nat := if p.cls = 0 then 5 else if p.cls = 1 then 3 else 0

/-- Bytes of the tag that port m sends (R330). -/
def State.tagBytes (s : State) (m : Nat) : Nat := if s.getF (NET_PORTm_CTL_VLAN m) = 0 then 0 else 4

/-- Hand a packet other than side data to the egress of port m at t, with the DSCP of its stream in class 0. -/
def egrMark (m c bytes t dscp : Nat) (s : State) : Bool × State :=
  egrPut m { cls := c, bytes := bytes, at_ := t, type := 0, dscp := dscp } s

/-- Hand a packet of classes 1 to 3 other than side data to the egress of port m at t. -/
def egrSend (m c bytes t : Nat) (s : State) : Bool × State := egrMark m c bytes t 0 s

/-- The wait bound of class 1 or 2 in ticks (R350). -/
def State.egrWait (s : State) (c : Nat) : Nat :=
  Config.ticksPerMs * (if c = 1 then s.getF NET_EGR_CFG_W1 else s.getF NET_EGR_CFG_W2)

/-- EGRESS_TIMEOUT: the oldest packet of class 1 or 2 that has waited W1 or W2 at t is discarded (R350). -/
def execEgressTimeout (port cls t : Nat) (s : State) : Host.Outcome State Fault Refusal :=
  let s1 := egrRun port t (s.advance t)
  let e := s1.egr port
  .next (if !(port < 2 && (cls = 1 || cls = 2)) then s else
    match e.queue.find? (fun p => p.cls == cls && decide (p.at_ + s1.egrWait cls ≤ t)) with
    | some p => egrLose port p (s1.setEgr port { e with queue := e.queue.erase p })
    | none => s1)

/-! ## Reserved rate -/

/-- Wire bytes of an RTP packet of sender k beyond its payload: 78, 4 with a VLAN tag, 8 with the extension (R349). -/
def State.rtpOver (s : State) (m : Nat) (ext : Bool) : Nat := 78 + s.tagBytes m + (if ext then 8 else 0)

/-- Samples in an RTP packet by PTIME, and bytes in a sample by ENC (R336). -/
def rtpSamples (short : Bool) : Nat := if short then 6 else 48
def rtpWidth (l16 : Bool) : Nat := if l16 then 2 else 3

/-- Reserved rate in bit/s of a sender's configuration word (R349). -/
def State.txRate (s : State) (w : Nat) : Nat :=
  let n := rtpSamples (w.testBit 29)
  (n * 2 * rtpWidth (w.testBit 28) + s.rtpOver (bitsOf w 30 30) (w.testBit 27)) * 8 * (48000 / n)

/-- Sample rate of path n in samples per second as a fraction: numerator and denominator (R183, R188). -/
def State.pathRate (s : State) (n : Nat) : Nat × Nat :=
  let t := presetTout (s.getF (PTHn_CTL_PRESET n))
  let num := s.getF (PTHn_RS_NUM n)
  if num = 0 then (Config.ticksPerSecond, t) else (Config.ticksPerSecond * num, t * s.getF (PTHn_RS_DEN n))

/-- Reserved rate in bit/s of an IQ stream's configuration word (R349). -/
def State.iqRate (s : State) (w : Nat) : Nat :=
  let r := s.pathRate (bitsOf w 8 0)
  let m := bitsOf w 30 30
  (1114 + s.tagBytes m) * 8 * r.1 / (256 * max 1 r.2)

/-- The streams enabled on port m, without one given register: the sum of their rates plus 1 Mbit/s for PTP (R349). -/
def State.reserved (s : State) (m skip : Nat) : Nat :=
  let word := fun a => (s.rd a).toNat
  let on := fun a => word a / 2 ^ 31 == 1 && bitsOf (word a) 30 30 == m && a != skip
  let tx := ((s.touched (NET_TXs_CTL 0) 0x10 256).filter fun k => on (NET_TXs_CTL k)).map fun k => s.txRate (word (NET_TXs_CTL k))
  let iq := ((s.touched (NET_IQi_CTL 0) 0x10 64).filter fun k => on (NET_IQi_CTL k)).map fun k => s.iqRate (word (NET_IQi_CTL k))
  1000000 + tx.sum + iq.sum

/-- NET_PORTm_RATE0 shows the reserved rate of each port (R349). -/
def rateShow (s : State) : State :=
  forEach [0, 1] (fun m s => s.setF (NET_PORTm_RATE0_KBPS m) (s.reserved m 0 / 1000)) s

/-- Adding a rate in bit/s to port m keeps the reserved rate within RES0 % of the line rate (R349). -/
def State.rateFits (s : State) (m skip add : Nat) : Bool :=
  decide ((s.reserved m skip + add) * 100 ≤ s.getF NET_EGR_CFG_RES0 * s.lineRate m * 1000000)

/-! ## Ports -/

/-- The link of port m is down: LINK is raised where it was up, and the PTP port leaves SLAVE (R329, R332). -/
def portDown (m : Nat) (s : State) : State :=
  let s1 := s.setF (NET_PORTm_STAT_BLOCK_LOCK m) 0
  if !s.linkUp m then s1
  else
    let s2 := raise evLink m (s1.setF (NET_PORTm_STAT_LINK m) 0)
    if s2.flag NET_PTP_CTL_EN && s2.ptpPort == m then
      let s3 := ptpEnter 4 s2
      s3.setPtp (s3.net.ptp.fresh none)
    else s2

/-- ETH_LINK_CHANGE: the link of an enabled port whose reference clock runs comes up or goes down and raises LINK (R87,
R329); the PTP port leaves SLAVE where its link goes down (R332). -/
def execEthLinkChange (port : Nat) (up block : Bool) (s : State) : Host.Outcome State Fault Refusal :=
  .next <|
    if !(port < 2 && s.flag (NET_PORTm_CTL_EN port)) || (up && !s.flag CLK_DOM_ETH) then s
    else if !up then (portDown port s).setB (NET_PORTm_STAT_BLOCK_LOCK port) block
    else
      let s1 := s.setB (NET_PORTm_STAT_BLOCK_LOCK port) block
      if s.linkUp port then s1 else raise evLink port (s1.setF (NET_PORTm_STAT_LINK port) 1)

/-- A write of NET_PORTm_CTL: EN = 0 takes the link down, and so does a new SPEED, at which the partner is not (R329,
R360). -/
def netPortWrite (m : Nat) (w : Word) (s : State) : State :=
  if !regOk (NET_PORTm_CTL m) w then refuse NET_REFUSE codeReserved s
  else
    let s1 := regPut (NET_PORTm_CTL m) w s
    let stays := s1.flag (NET_PORTm_CTL_EN m) && s1.getF (NET_PORTm_CTL_SPEED m) == s.getF (NET_PORTm_CTL_SPEED m)
    rateShow (if stays || !s1.linkUp m then s1 else portDown m s1)

/-- The MAC address of port m. -/
def State.macOf (s : State) (m : Nat) : Nat := (s.rd (NET_PORTm_MACL m)).toNat + 2 ^ 32 * s.getF (NET_PORTm_MACH_MAC m)

/-- The multicast groups port m has joined: the PTP group where PTP runs on it, and those of its receivers. -/
def State.joined (s : State) (m : Nat) : List Nat :=
  (if s.flag NET_PTP_CTL_EN && s.ptpPort == m then [0xE0000181] else [])
    ++ ((List.range 16).filter fun r => s.flag (NET_RXr_CTL_EN r) && s.getF (NET_RXr_CTL_PORT r) == m
        && s.getF (NET_RXr_GRP_ADDR r) != 0).map fun r => s.getF (NET_RXr_GRP_ADDR r)

/-- A frame is addressed to the port, to broadcast or to a joined group (R330). -/
def State.addressed (s : State) (m : Nat) (f : EthFrame) : Bool :=
  f.mac == s.macOf m || f.mac == 0xFFFFFFFFFFFF || f.ip == 0xE0000001
    || ((s.joined m).contains f.ip && f.mac == 0x01005E000000 + f.ip % 2 ^ 23)

/-- ETH_FRAME_RX: a received frame is discarded, counted or answered (R329 to R331). -/
def execEthFrameRx (port : Nat) (f : EthFrame) (t : Nat) (s : State) : Host.Outcome State Fault Refusal :=
  let s1 := s.advance t
  .next <|
    if !(port < 2 && s1.linkUp port) || 1522 < f.len || f.vlan != s1.getF (NET_PORTm_CTL_VLAN port) then s1
    else if !s1.addressed port f || f.frag || 6 ≤ f.proto then s1.bump (NET_PORTm_RXDROP_CNT port)
    else if f.proto = 4 || f.proto = 5 then
      if s1.flag NET_PTP_CTL_EN && s1.ptpPort == port then s1.bump NET_PTP_STAT_DISC else s1
    else if f.proto = 0 then
      if f.ip = s1.getF (NET_PORTm_IP_ADDR port) then (egrSend port 2 (84 + s1.tagBytes port) t s1).2 else s1
    else if f.proto ≤ 2 then (egrSend port 2 (f.len + 20) t s1).2
    else s1

/-! ## AES67 senders -/

/-- Sender k. -/
def State.tx (s : State) (k : Nat) : NetTx := sget txNone s.net.tx k

/-- Replace sender k. -/
def State.setTx (k : Nat) (v : NetTx) (s : State) : State := { s with net := { s.net with tx := sset txNone k v s.net.tx } }

/-- A write of NET_TXs_CTL (R339, R349). -/
def netTxWrite (k : Nat) (w : Word) (s : State) : State :=
  let a := NET_TXs_CTL k
  let n := w.toNat
  if s.flag (NET_TXs_CTL_EN k) then
    if !keepsBut (NET_TXs_CTL_EN k) w s then refuse NET_REFUSE codeWrongState s
    else if n.testBit 31 then s
    else rateShow ((regPut a w s).setTx k {})
  else if !n.testBit 31 then plainWrite a w s
  else if !s.feat 4 then refuse NET_REFUSE codeNotLocked s
  else if !regOk a w || s.hdr.aestx ≤ k || s.hdr.progs ≤ bitsOf n 7 0 then refuse NET_REFUSE codeReserved s
  else if !s.rateFits (bitsOf n 30 30) a (s.txRate n) then refuse NET_REFUSE codeBusy s
  else rateShow ((regPut a w s).setTx k {})

/-- AES67_SENDER_ENABLE: a write of NET_TXs_CTL. -/
def execAes67SenderEnable (m : Master) (k : Nat) (v : Word) (s : State) : Host.Outcome State Fault Refusal :=
  .next (if k < 256 then gated m (NET_TXs_CTL k) v.toNat (netTxWrite k v) s else s)

/-- Samples of a programme block queued at a sender, from sample j on. -/
def txSamples (h flags : Nat) : Nat → List (Int × Int) → List NetSamp
  | _, [] => []
  | j, x :: t => ⟨h + j * 81920, x.1, x.2, flags⟩ :: txSamples h flags (j + 1) t

/-- The block of a programme released at h, or none where it is missing, reaches its senders: a gap falls to zero and
the next block rises from it (R314, R337, R338). -/
def netHandoff (prog h : Nat) (b : Option Block) (s : State) : State :=
  let ks := (s.touched (NET_TXs_CTL 0) 0x10 256).filter fun k => s.flag (NET_TXs_CTL_EN k) && s.getF (NET_TXs_CTL_PROG k) == prog
  forEach ks (fun k s =>
    let v := s.tx k
    let m := s.getF (NET_TXs_CTL_PORT k)
    match if s.abandoned 7 m h then none else b.map (s.taken 7 m) with
    | none =>
      let last := (v.buf.getLast?.map fun x => (x.l, x.r)).getD (v.lastL, v.lastR)
      let zs := (List.range 64).map fun j => (roundEven (last.1 * (63 - j : Int)) 64, roundEven (last.2 * (63 - j : Int)) 64)
      s.setTx k { v with buf := v.buf ++ txSamples h 0 0 zs, gap := true }
    | some blk =>
      let raw := stereo blk.samples
      s.setTx k { v with buf := v.buf ++ txSamples h blk.flags 0 (if v.gap then riseFrom 64 0 raw else raw), gap := false }) s

/-- The exact numerator and denominator of the PTP time of count c in nanoseconds (R115). -/
def State.ptpExact (s : State) (c : Int) : Int × Int :=
  let anchor : Int := (s.getF CLK_MAP_SEC_LO_SEC + 4294967296 * s.getF CLK_MAP_SEC_HI_SEC : Nat) * 1000000000
    + (s.getF CLK_MAP_NS_NS : Nat)
  let ca : Int := (s.get64 CLK_MAP_CNT_LO CLK_MAP_CNT_HI : Nat)
  (anchor * 12288 * 1000000000000 + (c - ca) * 3125 * (1000000000000 + s.getI CLK_MAP_RATE_RATE), 12288 * 1000000000000)

/-- Media time of count c: floor(T(c) × 48,000) (R336, R337). -/
def State.mediaTime (s : State) (c : Nat) : Int :=
  let x := s.ptpExact c
  x.1 * 48000 / (x.2 * 1000000000)

/-- The count at which media time m falls, to the nearest (R340). -/
def State.mediaCount (s : State) (m : Int) : Int :=
  let anchor : Int := (s.getF CLK_MAP_SEC_LO_SEC + 4294967296 * s.getF CLK_MAP_SEC_HI_SEC : Nat) * 1000000000
    + (s.getF CLK_MAP_NS_NS : Nat)
  let ca : Int := (s.get64 CLK_MAP_CNT_LO CLK_MAP_CNT_HI : Nat)
  ca + roundDiv ((m * 1000000000 - anchor * 48000) * 12288 * 1000000000000)
    (48000 * 3125 * (1000000000000 + s.getI CLK_MAP_RATE_RATE))

/-- The samples of a packet: the slip inserts the mean of the first sample and the one before it, or drops the first
(R312, R337). -/
def txTake (n : Nat) (d : Int) (v : NetTx) : List NetSamp × List NetSamp :=
  match v.buf with
  | [] => ([], [])
  | x :: t =>
    if 1 ≤ d then (⟨x.h, roundEven (v.lastL + x.l) 2, roundEven (v.lastR + x.r) 2, x.flags⟩ :: v.buf.take (n - 1), v.buf.drop (n - 1))
    else if d ≤ -1 then (t.take n, t.drop n)
    else (v.buf.take n, v.buf.drop n)

/-- Send the next packet of sender k at t, once its last sample has been released (R336 to R338). -/
def txPacket (k t : Nat) (s : State) : State :=
  let v := s.tx k
  let m := s.getF (NET_TXs_CTL_PORT k)
  let n := rtpSamples (s.flag (NET_TXs_CTL_PTIME k))
  let h := (v.buf.head?.map (·.h)).getD 0
  let want := (s.mediaTime h % 4294967296).toNat
  let cur := match v.rtp with
    | some (x, e) => if e = s.clk.epoch then x else want
    | none => want
  let d := signedOf 32 (want + 2 ^ 32 - cur)
  if v.buf.length < (if d < 0 then n + 1 else n) || s.now < (v.buf.getD (n - 1) ⟨0, 0, 0, 0⟩).h then s
  else if !s.flag CLK_MAP_GEN_VALID || !s.linkUp m then
    let x := v.buf.getD (n - 1) ⟨0, 0, 0, 0⟩
    (s.setTx k { v with buf := v.buf.drop n, lastL := x.l, lastR := x.r,
                        rtp := v.rtp.map fun q => ((q.1 + n) % 2 ^ 32, q.2) }).bump (NET_TXs_STAT_HELD k)
  else
    let r := txTake n d v
    let x := r.1.getLast?.getD ⟨0, 0, 0, 0⟩
    let ext := s.flag (NET_TXs_CTL_EXT k)
    let l16 := s.flag (NET_TXs_CTL_ENC k)
    let word := fun y : Int => if l16 then clampInt (-32768) 32767 (roundEven y 256) else y
    let pkt : RtpOut := ⟨v.seq, cur, if ext then some (s.getF (NET_TXs_CTL_EXTID k), r.1.foldl (fun a y => a ||| y.flags) 0) else none,
      r.1.flatMap fun y => [word y.l, word y.r], 0x42560000 + k, s.getF (NET_TXs_DST_ADDR k), s.getF (NET_TXs_UDP_DPORT k)⟩
    let s1 := s.setTx k { v with buf := r.2, lastL := x.l, lastR := x.r, seq := (v.seq + 1) % 65536,
                                 rtp := some ((cur + n) % 2 ^ 32, s.clk.epoch), sent := some pkt }
    let s2 := if d = 0 then s1 else s1.bump (NET_TXs_STAT_SLIP k)
    (egrMark m 0 (n * 2 * rtpWidth l16 + s.rtpOver m ext) t (s.getF (NET_TXs_CTL_DSCP k)) s2).2

/-- AES67_PACKET_TX. -/
def execAes67PacketTx (k t : Nat) (s : State) : Host.Outcome State Fault Refusal :=
  .next (if k < 256 && s.flag (NET_TXs_CTL_EN k) then txPacket k t (s.advance t) else s)

/-! ## AES67 receivers -/

/-- Receiver r. -/
def State.rx (s : State) (r : Nat) : NetRx := sget rxNone s.net.rx r

/-- Replace receiver r. -/
def State.setRx (r : Nat) (v : NetRx) (s : State) : State := { s with net := { s.net with rx := sset rxNone r v s.net.rx } }

/-- Receiver r enters a state; a change raises RX_STATE (R375). -/
def rxEnter (r st : Nat) (s : State) : State :=
  if s.getF (NET_RXr_STAT_STATE r) = st then s else raise evRxState r (s.setF (NET_RXr_STAT_STATE r) st)

/-- CH0 lies in its range for CHANS (R360). -/
def chansOk (n : Nat) : Bool :=
  let c := bitsOf n 23 20
  let f := bitsOf n 19 16
  if c = 1 then f == 0 else decide (f + 2 ≤ c)

/-- A write of NET_RXr_CTL: EN needs bit 4 and a receiver of the loaded bitstream; while it is 1 nothing else may change
(R340, R360). -/
def netRxWrite (r : Nat) (w : Word) (s : State) : State :=
  let a := NET_RXr_CTL r
  let n := w.toNat
  if s.flag (NET_RXr_CTL_EN r) then
    if !keepsBut (NET_RXr_CTL_EN r) w s then refuse NET_REFUSE codeWrongState s
    else if n.testBit 31 then s
    else rxEnter r 0 ((regPut a w s).setRx r {})
  else if n.testBit 31 && !s.feat 4 then refuse NET_REFUSE codeNotLocked s
  else if !regOk a w || !chansOk n || (n.testBit 31 && decide (s.hdr.aesrx ≤ r)) then refuse NET_REFUSE codeReserved s
  else
    let s1 := regPut a w s
    if n.testBit 31 then rxEnter r 1 (s1.setRx r {}) else s1

/-- RTP version 2 of payload type 96 (R336). -/
def rtpOk (p : RtpPacket) : Bool := p.version == 2 && p.pt == 96

/-- A packet matches receiver r (R340). -/
def State.rxMatch (s : State) (port r : Nat) (p : RtpPacket) : Bool :=
  let g := s.getF (NET_RXr_GRP_ADDR r)
  let f := s.getF (NET_RXr_SRC_ADDR r)
  s.flag (NET_RXr_CTL_EN r) && s.getF (NET_RXr_CTL_PORT r) == port && s.linkUp port && rtpOk p
    && p.dst == (if g = 0 then s.getF (NET_PORTm_IP_ADDR port) else g) && (f == 0 || f == p.src)
    && p.port == s.getF (NET_RXr_UDP_DPORT r)
    && p.frames.length == rtpSamples (s.flag (NET_RXr_CTL_PTIME r))
    && p.frames.all (fun x => x.length == s.getF (NET_RXr_CTL_CHANS r))

/-- Insert frames in order of stamp, after those of equal stamp. -/
def insertFrame (f : TapFrame) : List TapFrame → List TapFrame
  | [] => [f]
  | x :: t => if f.stamp < x.stamp then f :: x :: t else x :: insertFrame f t

/-- The two slots a receiver takes from a frame (R340). -/
def State.rxSlots (s : State) (r : Nat) (f : List Int) : List Int :=
  let c := s.getF (NET_RXr_CTL_CH0 r)
  if s.getF (NET_RXr_CTL_CHANS r) = 1 then [f.getD 0 0, f.getD 0 0] else [f.getD c 0, f.getD (c + 1) 0]

/-- AES67_PACKET_RX: a matching packet arrives at t (R340). -/
def rxPacket (r : Nat) (p : RtpPacket) (t : Nat) (s : State) : State :=
  let v := s.rx r
  let n := p.frames.length
  let est := s.mediaTime t
  let m := est + signedOf 32 ((p.ts : Int) - est % 4294967296 + 4294967296).toNat
  let off := s.getF (NET_RXr_CTL_OFFSET r)
  let ahead := (p.seq + 65536 - v.next) % 65536
  if v.ssrc != some p.ssrc then
    rxEnter r 1 (s.setRx r { v with ssrc := some p.ssrc, next := (p.seq + 1) % 65536, good := 1 })
  else
    let late := decide (s.mediaCount (m + n - 1 + off) < t)
    if s.getF (NET_RXr_STAT_STATE r) = 2 && late then
      let s1 := s.bump (NET_RXr_CNT_LATE r)
      if ahead = 0 then s1.setRx r { v with next := (p.seq + 1) % 65536 } else s1
    else
      let good := if ahead = 0 then v.good + 1 else 1
      let run := s.getF (NET_RXr_STAT_STATE r) = 2 || 8 ≤ good
      let lost := if s.getF (NET_RXr_STAT_STATE r) = 2 && ahead < 32768 then ahead * n else 0
      let fs : List TapFrame := (List.range n).map fun (j : Nat) =>
        ⟨(s.mediaCount (m + (j : Int))).toNat, s.rxSlots r (p.frames.getD j []), false⟩
      let buf := if run then fs.foldl (fun l f => insertFrame f l) v.tap.tapBuf else v.tap.tapBuf
      let cap := off + 256
      let kept := if cap < buf.length then buf.drop (buf.length - off) else buf
      let s1 := s.setRx r { v with next := if ahead < 32768 then (p.seq + 1) % 65536 else v.next, good := good,
                                   tap := { v.tap with tapBuf := kept, lastIn := s.rxSlots r (p.frames.getD (n - 1) []) } }
      rxEnter r (if run then 2 else 1) (s1.bumpBy (NET_RXr_CNT_LOST r) lost)

/-- AES67_PACKET_RX. -/
def execAes67PacketRx (port r : Nat) (p : RtpPacket) (t : Nat) (s : State) : Host.Outcome State Fault Refusal :=
  .next (if port < 2 && r < 16 && s.rxMatch port r p then rxPacket r p t (s.advance t) else s)

/-- The leading frames of a buffer without a gap of more than one and a half sample periods. -/
def contiguous : List TapFrame → List TapFrame
  | x :: y :: t => if y.stamp ≤ x.stamp + 122880 then x :: contiguous (y :: t) else [x]
  | l => l

/-- AES67_RECEIVER_BLOCK: receiver r delivers the block of timestamp ts as the interior tap of R317 does, with OFFSET as
its TARGET, its slips in NET_RXr_SLIP and its ramps over 480 samples (R340). -/
def rxBlock (r ts : Nat) (s : State) : State :=
  let x := s.rx r
  let v := x.tap
  let tgt := s.getF (NET_RXr_CTL_OFFSET r)
  let ready := !v.tapRun && s.getF (NET_RXr_STAT_STATE r) == 2 && decide (tgt ≤ v.tapBuf.length)
  let kept := v.tapBuf.drop (v.tapBuf.length - tgt)
  let v1 := if ready then { v with tapRun := true, tapBuf := kept, tapL0 := ts - ((kept.head?.map (·.stamp)).getD ts) } else v
  let lead := if v1.tapRun then contiguous v1.tapBuf else []
  let rest := v1.tapBuf.drop lead.length
  let v2 := { v1 with tapBuf := lead }
  let slip := tapSlip 81920 ts v2
  let q0 := tapSamples 480 64 (tapSlipped slip v2)
  let q := if s.podsOut 7 (s.getF (NET_RXr_CTL_PORT r)) then (q0.1.map fun _ => (0 : Int), q0.2) else q0
  let flags := (if q.2.1 then 32 else 0) + (if slip != 0 then 16 else 0) + s.clockAudio ts
    + (if s.podsOut 7 (s.getF (NET_RXr_CTL_PORT r)) then 8 else 0)
  let s1 := laneFeed 3 r ⟨ts, flags, q.1⟩
    (s.setRx r { x with tap := { q.2.2 with tapBuf := q.2.2.tapBuf ++ rest, tap := some ⟨ts, flags, q.1⟩ } })
  if slip = 1 then s1.bump (NET_RXr_SLIP_DEL r) else if slip = 2 then s1.bump (NET_RXr_SLIP_INS r) else s1

/-- AES67_RECEIVER_BLOCK. -/
def execAes67ReceiverBlock (r ts : Nat) (s : State) : Host.Outcome State Fault Refusal :=
  .next (if r < 16 && s.flag (NET_RXr_CTL_EN r) && ts % Config.audioBlock = 0 then rxBlock r ts (s.advance ts) else s)

/-! ## VITA 49.2 -/

/-- IQ stream i. -/
def State.iq (s : State) (i : Nat) : NetIq := sget iqNone s.net.iq i

/-- Replace IQ stream i. -/
def State.setIq (i : Nat) (v : NetIq) (s : State) : State := { s with net := { s.net with iq := sset iqNone i v s.net.iq } }

/-- Path n delivers IQ at 256 kS/s or less, by preset or through its resampler (R341). -/
def State.iqPath (s : State) (n : Nat) : Bool :=
  let r := s.pathRate n
  decide (n < s.hdr.paths) && presetType (s.getF (PTHn_CTL_PRESET n)) == 2 && decide (r.1 ≤ 256000 * r.2)

/-- A write of NET_IQi_CTL: EN needs bit 5, a stream of the loaded bitstream, an IQ path and room (R341, R349). -/
def netIqWrite (i : Nat) (w : Word) (s : State) : State :=
  let a := NET_IQi_CTL i
  let n := w.toNat
  if !n.testBit 31 then
    let s1 := plainWrite a w s
    rateShow (if s.flag (NET_IQi_CTL_EN i) then s1.setIq i {} else s1)
  else if !s.feat 5 then refuse NET_REFUSE codeNotLocked s
  else if !regOk a w || s.hdr.iqs ≤ i || !s.iqPath (bitsOf n 8 0) then refuse NET_REFUSE codeReserved s
  else if !s.rateFits (bitsOf n 30 30) a (s.iqRate n) then refuse NET_REFUSE codeBusy s
  else
    let s1 := if s.flag (NET_IQi_CTL_EN i) && s.getF (NET_IQi_CTL_PATH i) = bitsOf n 8 0 then s else s.setIq i {}
    rateShow (regPut a w s1)

/-- The words of a signal data packet (R341, R342). -/
def vitaWords (s : State) (i count ts flags : Nat) (samples : List (Int × Int)) (gap : Bool) : List Nat :=
  let gps := s.flag (NET_IQi_CTL_TSI i)
  let x := s.ptpExact ts
  let ps := x.1 * 1000 / x.2
  let sec := ps / 1000000000000 - (if gps then 315964819 else ((s.net.ptp.parent.map (·.utcOffset)).getD 0 : Nat))
  let frac := (ps % 1000000000000).toNat
  let head := 1 * 2 ^ 28 + 2 ^ 26 + (if gps then 2 else 1) * 2 ^ 22 + 2 * 2 ^ 20 + count * 2 ^ 16 + (samples.length + 6)
  let q := fun y : Int => unsignedOf 16 (clampInt (-32768) 32767 (roundEven y 256))
  let tr := 0xE3000000 + (if s.flag CLK_MAP_GEN_VALID then 2 ^ 19 else 0) + (if (flags &&& 9) = 0 then 2 ^ 18 else 0)
    + (if flags.testBit 2 then 0 else 2 ^ 17) + (if flags.testBit 6 then 2 ^ 13 else 0) + (if gap then 2 ^ 12 else 0)
  [head, s.getF (NET_IQi_CTL_PATH i), unsignedOf 32 sec, frac / 2 ^ 32, frac % 2 ^ 32]
    ++ (samples.map fun y => q y.1 * 65536 + q y.2) ++ [tr]

/-- The blocks of the next packet: four, or fewer where a DROP gap follows; none while more may still come (R341). -/
def vitaTake : List Block → List Block
  | [] => []
  | b :: t =>
    let l := b :: (t.take 3).takeWhile fun x => !x.flags.testBit 7
    if l.length = 4 || decide (l.length < t.length + 1) then l else []

/-- A block of path n reaches the IQ streams that send the path (R341). -/
def iqFeed (n : Nat) (b : Block) (s : State) : State :=
  let ks := (s.touched (NET_IQi_CTL 0) 0x10 64).filter fun k => s.flag (NET_IQi_CTL_EN k) && s.getF (NET_IQi_CTL_PATH k) == n
  forEach ks (fun k s =>
    let m := s.getF (NET_IQi_CTL_PORT k)
    if s.abandoned 7 m s.now then s else s.setIq k { s.iq k with buf := (s.iq k).buf ++ [s.taken 7 m b] }) s

/-- VITA_PACKET_TX: at t stream k sends the next samples of its path, with the OR of their flags and sample loss after a
DROP gap (R341, R342). -/
def execVitaPacketTx (k t : Nat) (s : State) : Host.Outcome State Fault Refusal :=
  let s1 := s.advance t
  let v := s1.iq k
  let m := s1.getF (NET_IQi_CTL_PORT k)
  let l := vitaTake v.buf
  let rest := v.buf.drop l.length
  .next <|
    match l with
    | [] => s
    | b :: _ =>
      if !(k < 64 && s1.flag (NET_IQi_CTL_EN k)) then s
      else if !s1.linkUp m then (s1.setIq k { v with buf := rest }).bump (NET_IQi_STAT_HELD k)
      else
        let ws := vitaWords s1 k v.count b.ts (l.foldl (fun f x => f ||| x.flags) 0) (l.flatMap fun x => pairUp x.samples)
          (b.flags.testBit 7)
        (egrMark m 0 (4 * ws.length + 66 + s1.tagBytes m) t 0 (s1.setIq k { v with count := (v.count + 1) % 16, buf := rest, sent := ws })).2

/-- Half the passband of path n in hertz: the preset's, and within it the resampler prototype's share of its input rate
(R183, R189). -/
def State.pathPass (s : State) (n : Nat) : Rat :=
  let p := s.getF (PTHn_CTL_PRESET n)
  let num := s.getF (PTHn_RS_NUM n)
  let den := s.getF (PTHn_RS_DEN n)
  if num = 0 then presetPass p
  else
    let share : Nat := if rsProto num den = 0 then 40 else if rsProto num den = 1 then 30 else 20
    min (presetPass p : Rat) ((share : Rat) / 100 * (Config.ticksPerSecond : Rat) / presetTout p)

/-- The context of stream k (R342). -/
def State.vitaCtx (s : State) (k : Nat) : VitaCtx :=
  let n := s.getF (NET_IQi_CTL_PATH k)
  let r := s.pathRate n
  let a := s.getF (PTHn_CTL_INPUT n)
  { bandwidth := 2 * s.pathPass n
    centre := (s.getF (PTHn_BIN_BIN n) * 1024000 : Nat) + (s.getI (PTHn_NCO_FREQ n) : Rat) * 2048000 / 16777216
    num := r.1
    den := r.2
    gain := ((s.input (if a = 2 then 0 else a)).gainAt s.now).halfDb
    timed := s.flag CLK_MAP_GEN_VALID
    valid := ((s.iq k).buf.all fun b => b.flags &&& 9 == 0)
    locked := s.inLock
    overRange := (s.iq k).buf.any fun b => b.flags.testBit 6
    sampleLoss := (s.iq k).buf.any fun b => b.flags.testBit 7 }

/-- A context packet of stream k is due at t: at enable, 1 s after the last one, or after any change (R342). -/
def State.ctxDue (s : State) (k t : Nat) : Bool :=
  dueAfter (s.iq k).ctxAt Config.ticksPerSecond t || (s.iq k).ctx != some (s.vitaCtx k)

/-- VITA_CONTEXT_TX: a context packet that is due at t is sent at class 2 (R342). -/
def execVitaContextTx (k t : Nat) (s : State) : Host.Outcome State Fault Refusal :=
  let s1 := s.advance t
  .next <|
    if !(k < 64 && s1.flag (NET_IQi_CTL_EN k) && s1.ctxDue k t) then s
    else
      let m := s1.getF (NET_IQi_CTL_PORT k)
      let r := egrSend m 2 (128 + s1.tagBytes m) t (s1.setIq k { s1.iq k with ctxAt := some t, ctx := some (s1.vitaCtx k) })
      if r.1 then r.2.bump (NET_IQi_STAT_CTX k) else r.2

/-! ## Casrum side data -/

/-- Cut a list into pieces of n. -/
def chunksOf (n : Nat) : Nat → List Nat → List (List Nat)
  | 0, _ => []
  | k + 1, l => if l.isEmpty then [] else l.take n :: chunksOf n k (l.drop n)

/-- The records one packet takes from the front of a list: at most 1,448 bytes, and one of type 5 (R343, R344). -/
def takeRecs (ty : Nat) : Nat → List (List Nat) → List (List Nat)
  | _, [] => []
  | room, r :: t => if r.length ≤ room then r :: (if ty = 5 then [] else takeRecs ty (room - r.length) t) else []

/-- The records of a sub-channel record cut into fragments (R344 type 5). -/
def fragments (l : List Nat) : List (List Nat) :=
  let ps := chunksOf 1432 (l.length + 1) l
  (List.range ps.length).map fun i => leNat 2 (1432 * i) ++ leNat 2 l.length ++ [0, 0, 0, 0] ++ ps.getD i []

/-- DROP in the FLAGS of a record, bytes 8 and 9 (R344, R345). -/
def recDrop (l : List Nat) : List Nat := l.set 8 (l.getD 8 0 ||| 128)

/-- The packets that leave at t of the records gathered of a type, each with its instant: those that are full, and the
last one 2 ms after its first record (R345). -/
def casPackets (ty t : Nat) : Nat → List (Nat × List Nat) → List (List (List Nat))
  | n + 1, (x, r) :: l =>
    let now := takeRecs ty 1448 (r :: l.map (·.2))
    if !now.isEmpty && (ty = 5 || decide (now.length < l.length + 1) || decide (x + 2 * Config.ticksPerMs ≤ t)) then
      now :: casPackets ty t n (((x, r) :: l).drop now.length)
    else []
  | _, _ => []

/-- The key of the SEQ of a TYPE to the destination in force (R343). -/
def State.casKey (s : State) (ty : Nat) : Nat := s.getF NET_CAS_DST_ADDR * 256 + ty

/-- Send a packet of records at the class of R348: it takes the next SEQ of its TYPE and destination, and its first record carries DROP
where records before it were lost (R343, R345). -/
def casSend (ty t : Nat) (rs : List (List Nat)) (s : State) : State :=
  let out := if s.net.casDrop.contains ty then (match rs with | r :: q => recDrop r :: q | [] => []) else rs
  let key := s.casKey ty
  let seq := sget seqNone s.net.casSeq key
  let s1 := { s with net := { s.net with
    casSeq := sset seqNone key ((seq + 1) % 2 ^ 32) s.net.casSeq
    casDrop := s.net.casDrop.filter fun x => x != ty } }
  let m := s.getF NET_CAS_CTL_PORT
  let r := egrPut m { cls := if ty = 7 then 3 else 1, bytes := 90 + s.tagBytes m + (out.map List.length).sum, at_ := t, type := ty } s1
  if r.1 then { r.2 with net := { r.2.net with casSent := some (ty, seq, t, out) } } else r.2

/-- The records that wait without the first n gathered of a type. -/
def dropSide (ty : Nat) : Nat → List (Nat × Nat × Rec) → List (Nat × Nat × Rec)
  | _, [] => []
  | 0, l => l
  | n + 1, r :: t => if r.1 == 0 && r.2.2.type == ty then dropSide ty n t else r :: dropSide ty (n + 1) t

/-- CASRUM_SIDE_SEND: at t the side-data task sends the packets of a type that are full or 2 ms old (R345). -/
def execCasrumSideSend (type t : Nat) (s : State) : Host.Outcome State Fault Refusal :=
  let s1 := s.advance t
  .next <|
    if !(s1.firmwareOn 2 && s1.flag NET_CAS_CTL_SIDE && 1 ≤ type && type ≤ 7) then s
    else
      let mine := (s1.recs.filter fun q => q.1 == 0 && q.2.2.type == type).map fun q => (q.2.1, q.2.2.bytes)
      let rs := if type = 5 then mine.flatMap fun q => (fragments q.2).map fun x => (q.1, x) else mine
      let ps := casPackets type t rs.length rs
      let gone := if type = 5 then mine.length else (ps.map List.length).sum
      ps.foldl (fun s rs => casSend type t rs s) { s1 with recs := dropSide type gone s1.recs }

/-- A write of a NET register without a rule of its own: the sender's and receiver's other registers are refused while
EN is 1 (R339, R360), and the rate follows NET_EGR_CFG. -/
def netRegWrite (a : Nat) (w : Word) (s : State) : State :=
  if a = NET_PTP_CTL then ptpCtlWrite w s
  else if a = NET_PORTm_CTL 0 then netPortWrite 0 w s
  else if a = NET_PORTm_CTL 1 then netPortWrite 1 w s
  else if NET_TXs_CTL 0 ≤ a && a < NET_TXs_CTL 256 then
    let k := (a - NET_TXs_CTL 0) / 0x10
    if a = NET_TXs_CTL k then netTxWrite k w s
    else if s.flag (NET_TXs_CTL_EN k) && !keeps a w s then refuse NET_REFUSE codeWrongState s
    else plainWrite a w s
  else if NET_RXr_CTL 0 ≤ a && a < NET_RXr_CTL 16 then
    let r := (a - NET_RXr_CTL 0) / 0x20
    if a = NET_RXr_CTL r then netRxWrite r w s
    else if s.flag (NET_RXr_CTL_EN r) && !keeps a w s then refuse NET_REFUSE codeWrongState s
    else plainWrite a w s
  else if NET_IQi_CTL 0 ≤ a && a < NET_IQi_CTL 64 && a % 0x10 = 0 then netIqWrite ((a - NET_IQi_CTL 0) / 0x10) w s
  else plainWrite a w s

end Sys2Proof.Machine
end

