-- ==== Sys2Proof/Machine/Pcie.lean ====
section
/-! DEFINITION. The PCIe endpoint (spec/13 R351 to R361) without BAR0: BAR2, DMA queues and MSI-X. -/

namespace Sys2Proof.Machine

/-- What an unlisted queue holds. -/
def dmaNone (_ : Nat) : Dma := {}

/-- DMA queue q beside its registers. -/
def State.dma (s : State) (q : Nat) : Dma := sget dmaNone s.pci.queues q

/-- Replace a queue. -/
def State.setDma (q : Nat) (v : Dma) (s : State) : State := { s with pci := { s.pci with queues := sset dmaNone q v s.pci.queues } }

/-- What the endpoint writes to the host: the last operation only, oldest write first. -/
def hostPut (l : List (Nat × List Nat)) (s : State) : State := { s with pci := { s.pci with toHost := l } }

/-! ## MSI-X -/

/-- Send the message of vector v: its table entry's data to its address, or, while the entry is masked, the pending bit
(R358). -/
def msixSend (v : Nat) (s : State) : State :=
  if (s.rd (PCI_MSIX v 3)).toNat.testBit 0 then
    s.setF ⟨PCI_PBA (v / 32), v % 32, v % 32⟩ 1
  else
    { s with pci := { s.pci with toHost := s.pci.toHost ++
      [((s.rd (PCI_MSIX v 0)).toNat + 2 ^ 32 * (s.rd (PCI_MSIX v 1)).toNat, leNat 4 (s.rd (PCI_MSIX v 2)).toNat)] } }

/-- A write of a word of the MSI-X table: an entry that is unmasked with its pending bit set sends its message. -/
def msixWrite (a : Nat) (w : Word) (s : State) : State :=
  let v := (a - PCI_MSIX 0 0) / 16
  let s1 := plainWrite a w s
  let bit : Fld := ⟨PCI_PBA (v / 32), v % 32, v % 32⟩
  if s1.flag bit && !(s1.rd (PCI_MSIX v 3)).toNat.testBit 0 then msixSend v (s1.setF bit 0) else s1

/-- A queue is due to signal at t: THRESH × 64 bytes since its last signal, or TIMER since its first unsignalled record
(R358). -/
def State.signalDue (s : State) (q t : Nat) : Bool :=
  let v := s.dma q
  (s.getF (PCI_Qq_COAL_THRESH q) != 0 && decide (s.getF (PCI_Qq_COAL_THRESH q) * 64 ≤ v.since))
    || (match v.first with | some x => decide (x + Config.ticksOfUs (s.getF (PCI_Qq_COAL_TIMER q)) ≤ t) | none => false)

/-- MSIX_SIGNAL: at t the event messages that wait are sent (R377), and queue q signals its vector where it is due
(R358); no message passes without the link (R359). -/
def execMsixSignal (q t : Nat) (s : State) : Host.Outcome State Fault Refusal :=
  let s1 := s.advance t
  .next <|
    if !s1.flag PCI_STAT_UP then s1
    else
      let s2 := s1.msiQueue.foldl (fun x v => msixSend v x) (hostPut [] { s1 with msiQueue := [] })
      if q < 64 && s2.flag (PCI_Qq_CTL_EN q) && s2.getF (PCI_Qq_CTL_KIND q) == 1 && s2.signalDue q s2.now then
        msixSend (s2.getF (PCI_Qq_CTL_VEC q)) (s2.setDma q { s2.dma q with since := 0, first := none })
      else s2

/-! ## STREAM queues -/

/-- Address of a queue's ring, and of its write-back. -/
def State.ringBase (s : State) (q : Nat) : Nat := s.get64 (PCI_Qq_BASE_LO q) (PCI_Qq_BASE_HI q)
def State.wbAddr (s : State) (q : Nat) : Nat := s.get64 (PCI_Qq_WB_LO q) (PCI_Qq_WB_HI q)

/-- The writes that place bytes in a ring of n bytes at a base from offset o, wrapping at the end (R354). -/
def ringWrites (base n o : Nat) (l : List Nat) : List (Nat × List Nat) :=
  let room := n - o % n
  if l.length ≤ room then [(base + o % n, l)] else [(base + o % n, l.take room), (base, l.drop room)]

/-- The records that wait for queue q, oldest first. -/
def State.waitsFor (s : State) (q : Nat) : Option (Nat × Nat × Rec) := s.recs.find? fun r => r.1 == 1 + q

/-- The list without its first entry for a sink. -/
def dropFirst (sink : Nat) : List (Nat × Nat × Rec) → List (Nat × Nat × Rec)
  | [] => []
  | r :: t => if r.1 = sink then t else r :: dropFirst sink t

/-- Whether a record waits at an enabled queue whose class satisfies a test (R357). -/
def State.recWaits (s : State) (test : Nat → Bool) : Bool :=
  s.recs.any fun r => r.1 != 0 && s.flag (PCI_Qq_CTL_EN (r.1 - 1)) && test (s.getF (PCI_Qq_CTL_CLASS (r.1 - 1)))

/-- Whether a posted descriptor waits at a COPY queue whose class satisfies a test (R354, R357). -/
def State.descWaits (s : State) (test : Nat → Bool) : Bool :=
  s.touchedQueues.any fun q => s.flag (PCI_Qq_CTL_EN q) && s.getF (PCI_Qq_CTL_KIND q) == 2
    && s.getF (PCI_Qq_HOST_PTR q) != s.getF (PCI_Qq_DEV_PTR q) && test (s.getF (PCI_Qq_CTL_CLASS q))

/-- Whether anything of another class than 3 waits (R357). -/
def State.otherWaits (s : State) : Bool := s.recWaits (· != 3) || s.descWaits (· != 3)

/-- Whether anything of a class before that of queue q waits: the engine serves by strict priority (R357). -/
def State.outranked (s : State) (q : Nat) : Bool :=
  let c := s.getF (PCI_Qq_CTL_CLASS q)
  s.recWaits (fun x => decide (x < c)) || s.descWaits (fun x => decide (x < c))

/-- The oldest record of STREAM queue q is written to its ring with its tag, DEV advances and is written back, or the
record is discarded whole; it waits while a class before its own is served (R354, R355, R357). -/
def streamRecord (q : Nat) (s : State) : State :=
  match s.waitsFor q with
  | none => s
  | some (_, _, r) =>
    let s1 := { s with recs := dropFirst (1 + q) s.recs }
    let v := s.dma q
    let n := 2 ^ s.getF (PCI_Qq_CTL_SIZE q)
    let dev := s.getF (PCI_Qq_DEV_PTR q)
    let used := (dev + 2 ^ 32 - s.getF (PCI_Qq_HOST_PTR q)) % 2 ^ 32
    let len := 4 + r.bytes.length
    if s.getF (PCI_Qq_CTL_CLASS q) = 3 && s1.otherWaits then
      let s2 := (s1.bump (PCI_Qq_CNT_REFCAP q)).setDma q { v with dropNext := true }
      if r.type = 7 then s2.bump EVT_RECLOST_CNT else s2
    else if s.outranked q then s
    else if n < used + len then (s1.bump (PCI_Qq_CNT_DROP q)).setDma q { v with dropNext := true }
    else
      let bytes := if v.dropNext then recDrop r.bytes else r.bytes
      let dev1 := (dev + len) % 2 ^ 32
      let wb := if s.wbAddr q = 0 then [] else [(s.wbAddr q, leNat 4 dev1)]
      let s2 := hostPut (ringWrites (s.ringBase q) n dev ([r.type, 0] ++ leNat 2 r.bytes.length ++ bytes) ++ wb) s1
      (s2.setF (PCI_Qq_DEV_PTR q) dev1).setDma q
        { v with dropNext := false, since := v.since + len, first := some (v.first.getD s.now) }

/-- DMA_STREAM_RECORD. -/
def execDmaStreamRecord (q t : Nat) (s : State) : Host.Outcome State Fault Refusal :=
  let s1 := s.advance t
  .next (if q < 64 && s1.flag PCI_STAT_UP && s1.flag (PCI_Qq_CTL_EN q) && s1.getF (PCI_Qq_CTL_KIND q) == 1 then
    streamRecord q s1 else s1)

/-- DMA_CLASS1_WAIT_TIMEOUT: the oldest record of a class-1 queue that has waited PCI_WAIT.W1 at t is discarded and
counted (R357). -/
def execDmaClass1WaitTimeout (q t : Nat) (s : State) : Host.Outcome State Fault Refusal :=
  let s1 := s.advance t
  .next <|
    match s1.waitsFor q with
    | some (_, x, _) =>
      if q < 64 && s1.getF (PCI_Qq_CTL_CLASS q) == 1 && decide (x + Config.ticksOfUs (s1.getF PCI_WAIT_W1) ≤ s1.now) then
        (({ s1 with recs := dropFirst (1 + q) s1.recs }).bump (PCI_Qq_CNT_REFCAP q)).setDma q { s1.dma q with dropNext := true }
      else s1
    | none => s1

/-- A block of programme, path or decoder audio reaches the STREAM queues that select it (R355): SEL 8 programme, 9
path, 10 decoder; a missing block sets DROP on the next record. -/
def dmaBlock (sel inst ts : Nat) (bytes : Option (List Nat)) (s : State) : State :=
  let qs := s.touchedQueues.filter fun q =>
    s.flag (PCI_Qq_CTL_EN q) && s.getF (PCI_Qq_CTL_KIND q) == 1 && s.getF (PCI_Qq_SRC_SEL q) == sel
      && decide (s.getF (PCI_Qq_SRC_FIRST q) ≤ inst) && decide (inst < s.getF (PCI_Qq_SRC_FIRST q) + s.getF (PCI_Qq_SRC_COUNT q))
  match bytes with
  | some l => { s with recs := s.recs ++ qs.map fun q => (1 + q, s.now, ⟨0x21, ts, l.getD 8 0, inst, l⟩) }
  | none => forEach qs (fun q s => s.setDma q { s.dma q with dropNext := true }) s

/-! ## COPY queues -/

/-- Count a Marrow reply with a code for a requester (R298, R299). -/
def mrwCount (who code : Nat) (s : State) : State :=
  let s1 := if code = 1 then s.bump (MRW_RQr_CNT0_DEFER who) else if code = 2 then s.bump (MRW_RQr_CNT0_REFCAP who)
    else if code = 3 then s.bump (MRW_RQr_CNT1_REFCLS who) else if code = 4 then s.bump (MRW_RQr_CNT1_VOID who) else s
  obsReply who code s1

/-- An access of a requester is answered with a code that is no refusal: its stack accounts for it, and a read that R285
permits and that is answered VOID has met an uncorrectable line (R294, R297). -/
def mrwLine (who cls : Nat) (write ok : Bool) (a n code : Nat) (s : State) : State :=
  let s1 := mrwCount who code (if ok then winAdmit (stackOf a) cls n s else s)
  if ok && !write && code = 4 then eccDead (a / 64 * 64) s1 else s1

/-- A COPY descriptor's fields lie in their ranges (R356). -/
def descOk (d : List Byte) : Bool :=
  let host := leAt d 0 8
  let mrw := leAt d 8 8
  let len := leAt d 16 4
  host % 64 == 0 && mrw % 64 == 0 && decide (64 ≤ len) && decide (len ≤ 16777216) && len % 64 == 0
    && leAt d 20 1 / 4 == 0 && leAt d 21 3 == 0 && decide (mrw + len ≤ marrowSize)

/-- What a transfer has done so far: lines, lines answered VOID, a line deferred, a line refused, bytes read. -/
structure CopyRun where
  lines : Nat := 0
  voids : Nat := 0
  late : Bool := false
  stop : Bool := false
  out : List Nat := []

/-- The replies a line meets, each formed by its class from what the command gives: the refusals, at most 16 at 10 µs
intervals, the code of the last reply, and the replies left (R297, R356). -/
def lineReply (f : Nat → Nat) : Nat → List Nat → List Nat × Nat × List Nat
  | 0, l => ([], 2, l)
  | n + 1, l =>
    let c := f (l.headD 0)
    if c = 2 || c = 3 then
      let r := lineReply f n l.tail
      (c :: r.1, r.2)
    else ([], c, l.tail)

/-- Transfer n lines from Marrow address a, with the codes of the replies; a line refused 16 times ends the transfer, one
refused before it was answered has waited more than 1 µs, and a line whose access R285 does not permit is VOID and reads as
zeros (R285, R356). -/
def copyLines (write : Bool) : Nat → Nat → List Byte → List Nat → CopyRun → State → CopyRun × State
  | 0, _, _, _, r, s => (r, s)
  | n + 1, a, host, codes, r, s =>
    let ok := s.permits ⟨265, 0, write, a, 64, []⟩
    let cls := s.getF (MRW_RQr_CFG_CLASS 265)
    let y := if ok then lineReply (s.codeOf (stackOf a) cls 64) 16 codes else ([], 4, codes.tail)
    let c := y.2.1
    let s0 := y.1.foldl (fun s c => mrwCount 265 c s) s
    if c = 2 then ({ r with stop := true }, s0)
    else
      let s1 := mrwLine 265 cls write ok a 64 c s0
      let s2 := if write && c != 4 then s1.store a (host.take 64) else s1
      let data := if write then [] else if c = 4 then List.replicate 64 0 else (memTake s1.mem a 64).map BitVec.toNat
      copyLines write n (a + 64) (host.drop 64) y.2.2
        { r with lines := r.lines + 1, voids := r.voids + (if c = 4 then 1 else 0), late := r.late || c == 1 || !y.1.isEmpty, out := r.out ++ data } s2

/-- DMA_COPY_DESCRIPTOR: COPY queue q executes the descriptor at DEV, with the host's bytes for a transfer into Marrow and
the reply codes of its lines, writes its status and advances DEV (R354, R356, R358). -/
def copyDescriptor (q : Nat) (d host : List Byte) (codes : List Nat) (s : State) : State :=
  let dev := s.getF (PCI_Qq_DEV_PTR q)
  let slots := 2 ^ s.getF (PCI_Qq_CTL_SIZE q) / 32
  let place := s.ringBase q + dev % slots * 32 + 24
  let write := (leAt d 20 1).testBit 0
  let r := if descOk d then copyLines write (leAt d 16 4 / 64) (leAt d 8 8) host codes {} s else ({}, s)
  let code := if !descOk d then 3 else if r.1.voids != 0 then 4 else if r.1.stop then 2 else if r.1.late then 1 else 0
  let status := 2 ^ 31 + code * 2 ^ 28 + min r.1.voids (2 ^ 24 - 1)
  let data := if r.1.out.isEmpty then [] else [(leAt d 0 8, r.1.out)]
  let s1 := hostPut (data ++ [(place, leNat 4 status ++ leNat 4 r.1.lines)]) r.2
  let s2 := s1.setF (PCI_Qq_DEV_PTR q) (dev + 1)
  if (leAt d 20 1).testBit 1 then msixSend (s2.getF (PCI_Qq_CTL_VEC q)) s2 else s2

/-- DMA_COPY_DESCRIPTOR, for a descriptor that the host has posted. -/
def execDmaCopyDescriptor (q : Nat) (desc : List Byte) (host : List Byte) (codes : List Nat) (t : Nat) (s : State) :
    Host.Outcome State Fault Refusal :=
  let s1 := s.advance t
  .next (if q < 64 && desc.length == 32 && s1.flag PCI_STAT_UP && s1.flag (PCI_Qq_CTL_EN q) && s1.getF (PCI_Qq_CTL_KIND q) == 2
      && s1.getF (PCI_Qq_HOST_PTR q) != s1.getF (PCI_Qq_DEV_PTR q) then copyDescriptor q desc host codes s1 else s1)

/-! ## BAR2 -/

/-- The Marrow address that a BAR2 offset reaches (R353), and during a PCIe load the firmware region for the first 2 GiB
(R74). -/
def State.bar2Addr (s : State) (o : Nat) : Option Nat :=
  if s.flag SYS_BOOT_WAIT_HOST then if o < 2147483648 then some (s.regionBase 3 + o) else none
  else if o < 4294967296 then some (o + s.getF PCI_BAR2_PAGE * 67108864) else none

/-- Store the bytes of a partial write that are enabled (R353: merged by read-modify-write). -/
def storeSome : Nat → List (Option Byte) → State → State
  | _, [], s => s
  | a, some b :: t, s => storeSome (a + 1) t (s.store a [b])
  | a, none :: t, s => storeSome (a + 1) t s

/-- Whether a BAR2 access lies in Marrow and R285 permits it. -/
def State.bar2Ok (s : State) (write : Bool) (a n : Nat) : Bool := decide (a + n ≤ marrowSize) && s.permits ⟨264, 0, write, a, n, []⟩

/-- Complete a BAR2 access that was answered with a code other than a refusal. -/
def bar2Done (write : Bool) (a : Nat) (data : List (Option Byte)) (code : Nat) (s : State) : State :=
  let s1 := mrwLine 264 (s.getF (MRW_RQr_CFG_CLASS 264)) write (s.bar2Ok write a data.length) a data.length code s
  if write then (if code = 4 then s1 else storeSome a data s1)
  else
    let out := if code = 4 then List.replicate data.length 0 else (memTake s1.mem a data.length).map BitVec.toNat
    { s1 with pci := { s1.pci with rdata := s1.pci.rdata ++ out } }

/-- The code with which Marrow answers a BAR2 access: VOID where R285 does not permit it, a refusal until Marrow is
initialised, and otherwise what its arbitration gives (R285, R298). -/
def State.bar2Code (s : State) (write : Bool) (a n code : Nat) : Nat :=
  if !s.flag MRW_STAT_INIT_DONE then 2
  else if !s.bar2Ok write a n then 4 else s.codeOf (stackOf a) (s.getF (MRW_RQr_CFG_CLASS 264)) n code

/-- The parts of an access at offset o that lie in one line each, in order; the first argument bounds how many. -/
def lineParts : Nat → Nat → List (Option Byte) → List (Nat × List (Option Byte))
  | 0, _, _ => []
  | n + 1, o, l =>
    if l.isEmpty then [] else (o, l.take (64 - o % 64)) :: lineParts n (o + (64 - o % 64)) (l.drop (64 - o % 64))

/-- A new read answers into nothing. -/
def bar2Clear (write : Bool) (s : State) : State :=
  if write then s else { s with pci := { s.pci with rdata := [] } }

/-- The part of a BAR2 access that lies in one line, at offset o: a line that is refused waits to be re-issued (R353). -/
def bar2Line (write : Bool) (code : Nat) (s : State) (p : Nat × List (Option Byte)) : State :=
  match s.bar2Addr p.1 with
  | none => if write then s else { s with pci := { s.pci with rdata := s.pci.rdata ++ List.replicate p.2.length 0 } }
  | some a =>
    let c := s.bar2Code write a p.2.length code
    if c = 2 || c = 3 then
      let s2 := mrwCount 264 c s
      { s2 with pci := { s2.pci with lines := s2.pci.lines ++ [⟨a, write, p.2, s.now + Config.ticksOfUs 10, s.now⟩] } }
    else bar2Done write a p.2 c s

/-- BAR2_ACCESS: a write of the enabled bytes, or a read of as many bytes as data lists, at offset o, line by line (R353). A
read answers with the bytes of the lines that were answered, and those of a line that waits come with its retry. -/
def execBar2Access (write : Bool) (o : Nat) (data : List (Option Byte)) (code t : Nat) (s : State) :
    Host.Outcome State Fault Refusal :=
  let s1 := s.advance t
  .next <|
    if s1.pwr.inReset || !s1.flag PCI_STAT_UP then s1
    else (lineParts data.length o data).foldl (bar2Line write code) (bar2Clear write s1)

/-- BAR2_RETRY: the oldest refused line is re-issued at t, 10 µs or more after the time before; after 20 ms its read returns zeros and its write is dropped,
counted in PCI_CNT.TMO (R353). -/
def execBar2Retry (code t : Nat) (s : State) : Host.Outcome State Fault Refusal :=
  let s1 := s.advance t
  .next <|
    match s1.pci.lines with
    | [] => s1
    | l :: rest =>
      if s1.now < l.again then s1 else
      let c := s1.bar2Code l.write l.addr l.data.length code
      if c != 2 && c != 3 then bar2Done l.write l.addr l.data c (bar2Clear l.write { s1 with pci := { s1.pci with lines := rest } })
      else if l.first + 20 * Config.ticksPerMs ≤ s1.now then
        ({ s1 with pci := { s1.pci with lines := rest, rdata := if l.write then s1.pci.rdata else List.replicate l.data.length 0 } }).bump PCI_CNT_TMO
      else mrwCount 264 c { s1 with pci := { s1.pci with lines := { l with again := l.again + Config.ticksOfUs 10 } :: rest } }

/-! ## Link and registers -/

/-- The effects of PERST_N or of a loss of link (R359): queues stop, records that wait for them are discarded, and the
PCI registers return to their reset values. -/
def pciReset (s : State) : State :=
  let s1 := s.resetRange PCI_REFUSE 0x40000
  { s1 with recs := s1.recs.filter (fun r => r.1 == 0), pci := {}, msiQueue := [] }

/-- A write of CTL of queue q: while EN is 1 only EN may change; KIND 0 with EN is refused (R361). -/
def pciCtlWrite (q : Nat) (w : Word) (s : State) : State :=
  let a := PCI_Qq_CTL q
  let n := w.toNat
  if s.flag (PCI_Qq_CTL_EN q) then
    if !keepsBut (PCI_Qq_CTL_EN q) w s then refuse PCI_REFUSE codeWrongState s
    else if n.testBit 31 then s
    else ({ regPut a w s with recs := s.recs.filter fun r => r.1 != 1 + q }).setDma q {}
  else if !regOk a w || (n.testBit 31 && bitsOf n 30 29 == 0) then refuse PCI_REFUSE codeReserved s
  else regPut a w s

/-- A write of a PCI register (R352 to R361). -/
def pciRegWrite (a : Nat) (w : Word) (s : State) : State :=
  if PCI_MSIX 0 0 ≤ a && a < PCI_MSIX 64 0 then msixWrite a w s
  else if PCI_Qq_CTL 0 ≤ a && a < PCI_Qq_CTL 64 then
    let q := (a - PCI_Qq_CTL 0) / 0x40
    if a = PCI_Qq_CTL q then pciCtlWrite q w s
    else if a = PCI_Qq_HOST q then plainWrite a w s
    else if s.flag (PCI_Qq_CTL_EN q) && !keeps a w s then refuse PCI_REFUSE codeWrongState s
    else if a = PCI_Qq_BASE_LO q && w.toNat % 4096 != 0 then refuse PCI_REFUSE codeReserved s
    else if a = PCI_Qq_SRC q && decide (11 ≤ bitsOf w.toNat 31 28) then refuse PCI_REFUSE codeReserved s
    else plainWrite a w s
  else plainWrite a w s

end Sys2Proof.Machine
end

