-- ==== Sys2Proof/Machine/Kt.lean ====
section
/-! DEFINITION. The KT-440 personality (spec/15 R383 to R403): the four ports of the 8-bit bus, the registers, the
commands with their times, seeks and the configuration of what carries a tuner. -/

namespace Sys2Proof.Machine

/-! ## Start -/

/-- The reset value of KT-440 register i (R388, R389). -/
def ktReset (i : Nat) : Nat :=
  if i = 0 then 0x44 else if i = 1 then 0x23 else if i = 4 then 0x43 else if i = 5 then 0xE4 else if i = 0x0D then 3
  else if i = 0x0E then 8
  else if 0x20 ≤ i && i < 0xA0 then
    let o := i % 0x20
    if o = 2 then 0x2E else if o = 3 then 0x22 else if o = 4 then 4 else if o = 5 then 0x46 else if o = 0x11 then 0x80
    else if o = 0x13 then 0x2E else if o = 0x14 then 0x22 else 0
  else 0

/-- SAPk is configured from AUDCFG and AUDSEL as given, and re-enabled (R393). -/
def ktSapSet (k cfg sel : Nat) (s : State) : State :=
  let tdm := cfg.testBit (2 + k)
  let fmt := if tdm then 2 else if cfg.testBit (4 + k) then 1 else 0
  let en := cfg.testBit k
  let w := (if en then 2 ^ 31 else 0) + fmt * 2 ^ 20 + bitsOf cfg 7 6 * 2 ^ 18 + (if tdm then 1 else 0) * 2 ^ 16
    + 16 * 2 ^ 8 + 10
  let src := fun i => 1 * 2 ^ 30 + bitsOf sel (4 * k + 2 * i + 1) (4 * k + 2 * i)
  let s1 := (s.wr (SAPk_CTL k) (BitVec.ofNat 32 w)).wr (SAPk_MAP k 0) (BitVec.ofNat 32 (src 0))
  let s2 := s1.wr (SAPk_MAP k 1) (BitVec.ofNat 32 (if tdm then src 1 else 0))
  let v := s2.sap k
  let s3 := s2.setSap k { tcs := v.tcs, tcsPend := v.tcsPend }
  if en then (sapStates k 1 s3).setF (SAPk_STAT_MUTED k) 1 else (sapStates k 0 s3).setF (SAPk_STAT_MUTED k) 0

/-- Programme t: KEY 3, LOUD 0, the host entry of index 0 naming path t, PG_DELAY 240 (R392). -/
def ktProgStart (t : Nat) (s : State) : State :=
  let s1 := (((s.setF (FOLp_CTL_KEY t) 3).setF (FOLp_CTL_LOUD t) 0).setF (FOLp_CTL_AM t) 1).setF (FOLp_DELAY_SMP t) 240
  let v := s1.prog t
  folStart t (s1.setProg t { v with host := [(0, ⟨1, t, 0⟩)] })

/-- Bit 17 has become active: the personality starts paths and programmes 0 to 3 and both ports on the defaults
(R85, R387, R391 to R393). -/
def ktBringUp (s : State) : State :=
  let s1 := forEach [0, 1, 2, 3] (fun t s => ktProgStart t (ktPathStart t (s.setTuner t { powered := true }))) s
  forEach [0, 1] (fun k s => ((ktSapSet k 0x43 0xE4 s).setF (SAPk_ICAP_PACK k) 1).setF (SAPk_IMASK_ACT_MASK k) 3) s1

/-- PERSONALITY_READY: paths 0 to 3 run past their warm-up; every register takes its reset value, BUSY of the tuners
falls, TDONE and READY are set (R85, R387). -/
def execPersonalityReady (s : State) : Host.Outcome State Fault Refusal :=
  let ok := s.ktOwned && s.firmwareOn 0 && !s.flag CMP_STAT_READY
    && [0, 1, 2, 3].all fun t => s.pathRunning t && s.getF (PTHn_STAT_WARMUP t) == 0
  .next (if !ok then s
    else
      let s1 := forEach (List.range 160) (fun i s => s.ktSet i (ktReset i)) s
      let s2 := (s1.setF CMP_STAT_BUSY 0).setF CMP_STAT_READY 1
      let s3 := forEach [0, 1, 2, 3] (fun t s => ktMirror t s) s2
      ktInt 0x0F s3)

/-! ## Commands -/

/-- A refused KT-440 write: counted in CMP_REFUSE, and shown in STATUS.ERR where it addresses a tuner (R390). -/
def ktRefuse (i : Nat) (s : State) : State :=
  let s1 := refuse CMP_REFUSE codeReserved s
  if 0x20 ≤ i && i < 0xA0 then s1.ktBits (ktIdx (i / 0x20 - 1) 6) 4 4 1 else s1

/-- A frequency lies within the tuning range of its band (R389, R394). -/
def ktFreqOk (am : Bool) (f : Nat) : Bool :=
  if am then decide (150 ≤ f) && decide (f ≤ 27000) else decide (6400 ≤ f) && decide (f ≤ 10800)

/-- Edges of the seek band and the step, in FREQ units (R389, R396). -/
def seekLow (am : Bool) : Nat := if am then 522 else 8750
def seekHigh (am : Bool) : Nat := if am then 1710 else 10800
def seekStep (am : Bool) (c : Nat) : Nat :=
  if am then (if c = 0 then 9 else if c = 1 then 10 else 5) else (if c = 0 then 10 else if c = 1 then 20 else 5)

/-- Raster points of the seek band beyond the lower edge. -/
def seekPoints (am : Bool) (c : Nat) : Nat := (seekHigh am - seekLow am) / seekStep am c

/-- Whether a seek of tuner t may start: FACT inside the band (R396). -/
def State.seekOk (s : State) (t : Nat) : Bool :=
  let am := (s.ktGet (ktIdx t 1)).testBit 0
  let f := (s.tuner t).freq
  decide (seekLow am ≤ f) && decide (f ≤ seekHigh am) && ((s.tuner t).mode.testBit 0 == am)

/-- FREQ of tuner t as written. -/
def State.ktFreq (s : State) (t : Nat) : Nat := s.ktGet (ktIdx t 2) + 256 * s.ktGet (ktIdx t 3)

/-- The code of a command that is accepted; CANCEL without a running seek has no effect (R394, R396). -/
def State.ktAccepts (s : State) (t code : Nat) : Bool :=
  if code = 1 || code = 6 then ktFreqOk ((s.ktGet (ktIdx t 1)).testBit 0) (s.ktFreq t)
  else if code = 2 || code = 3 then s.seekOk t
  else code == 4 || code == 5

/-- FACT of tuner t shows the frequency in force (R389). -/
def factShow (t : Nat) (s : State) : State :=
  (s.ktSet (ktIdx t 0x13) ((s.tuner t).freq % 256)).ktSet (ktIdx t 0x14) ((s.tuner t).freq / 256)

/-- A command of tuner t begins: BUSY rises, its time and column are taken, a command in progress is abandoned and
counted, the FIFO is flushed (R394, R395, R397, R399). -/
def ktBegin (t : Nat) (at_ : Nat × Bool) (c : KtCmd) (mode freq : Nat) (s : State) : State :=
  let u := s.tuner t
  let s1 := if u.cmd = .none then s else s.bump CMP_CMDCNT_RESTART
  let off := c == .powerDown
  let cfg := if off then u.seek else s.ktGet (ktIdx t 5)
  let s2 := (if off then s1.ktSet (ktIdx t 15) 0 else s1).setTuner t
    { u with cmd := c, seek := cfg, t0 := at_.1, accel := at_.2, mode := mode, freq := freq, cancel := false, steps := 0,
             seekFrom := u.freq, powered := !off }
  ktMirror t (factShow t (ktFlush t (ktSetBusy t true s2)))

/-- The raster point after f upwards or before f downwards; none at the edge (R396). -/
def rasterNext (am : Bool) (c : Nat) (up : Bool) (f : Nat) : Option Nat :=
  let st := seekStep am c
  let k := (f - seekLow am) / st
  if up then (if k + 1 ≤ seekPoints am c then some (seekLow am + (k + 1) * st) else none)
  else
    let b := if (f - seekLow am) % st = 0 then k else k + 1
    if b = 0 then none else some (seekLow am + (b - 1) * st)

/-- A seek moves tuner t to the next raster point, or, with WRAP, from the edge to the opposite one; none where it
ends (R396). -/
def State.seekNext (s : State) (t : Nat) : Option Nat :=
  let u := s.tuner t
  let am := u.mode.testBit 0
  let cfg := u.seek
  let up := u.cmd == .seekUp
  match rasterNext am (bitsOf cfg 5 4) up u.freq with
  | some f => some f
  | none =>
    if cfg.testBit 6 then
      some (if up then seekLow am else seekLow am + seekPoints am (bitsOf cfg 5 4) * seekStep am (bitsOf cfg 5 4))
    else none

/-- The seek of tuner t tunes to a point. -/
def seekTune (t f : Nat) (s : State) : State :=
  let u := s.tuner t
  ktRetune t (factShow t (s.setTuner t { u with freq := f, steps := u.steps + 1, t0 := s.now }))

/-- BUSY of tuner t falls and TDONE is set (R394). -/
def ktDone (t : Nat) (s : State) : State :=
  let s1 := s.setTuner t { s.tuner t with cmd := .none, cancel := false }
  ktInt (2 ^ t) (ktMirror t (ktSetBusy t false s1))

/-- A seek ends, with or without a channel found. -/
def seekEnd (t : Nat) (fail : Bool) (s : State) : State := ktDone t (s.ktBits (ktIdx t 6) 3 3 fail.toNat)

/-- A refused code leaves BUSY to the command in progress or those still to come. -/
def ktCommandRefused (t : Nat) (s : State) : State :=
  let u := s.tuner t
  ktRefuse (ktIdx t 0) (if u.cmd = .none && decide (u.asked.length ≤ 1) then ktSetBusy t false s else s)

/-- A write of a code to CMD of tuner t, committed at an instant with a timing column, as the personality acts on it (R394,
R396, R397). -/
def ktCommand (t code : Nat) (at_ : Nat × Bool) (s : State) : State :=
  if !s.ktAccepts t code then ktCommandRefused t s
  else
    let s1 := ((s.ktSet (ktIdx t 0) code).ktBits (ktIdx t 6) 4 4 0).bump CMP_CMDCNT_ACCEPTED
    let mode := s.ktGet (ktIdx t 1)
    let u := s.tuner t
    if code = 4 then
      if u.cmd = .seekUp || u.cmd = .seekDown then s1.setTuner t { u with cancel := true } else s1
    else if code = 5 then
      let s2 := pathStop t (ktBegin t at_ .powerDown u.mode u.freq s1)
      s2.setTuner t { s2.tuner t with retune := false }
    else if code = 1 || code = 6 then ktRetune t (ktBegin t at_ .tune mode (s.ktFreq t) s1)
    else
      let s2 := ktBegin t at_ (if code = 2 then .seekUp else .seekDown) mode u.freq s1
      match s2.seekNext t with
      | some f => seekTune t f s2
      | none => s2

/-- A command committed now. -/
def State.ktNow (s : State) : Nat × Bool := (s.now, s.flag CMP_CTL_ACCEL)

/-- TUNE, SEEK_UP, SEEK_DOWN, CANCEL, POWER_DOWN and POWER_UP of tuner t. -/
def ktIssue (t code : Nat) (s : State) : State := if t < 4 && s.ktRuns then ktCommand t code s.ktNow s else s

/-- TUNE. -/
def execKtTune (tn : Nat) (s : State) : Host.Outcome State Fault Refusal := .next (ktIssue tn 1 s)
/-- SEEK_UP. -/
def execKtSeekUp (tn : Nat) (s : State) : Host.Outcome State Fault Refusal := .next (ktIssue tn 2 s)
/-- SEEK_DOWN. -/
def execKtSeekDown (tn : Nat) (s : State) : Host.Outcome State Fault Refusal := .next (ktIssue tn 3 s)
/-- CANCEL. -/
def execKtCancel (tn : Nat) (s : State) : Host.Outcome State Fault Refusal := .next (ktIssue tn 4 s)
/-- POWER_DOWN. -/
def execKtPowerDown (tn : Nat) (s : State) : Host.Outcome State Fault Refusal := .next (ktIssue tn 5 s)
/-- POWER_UP. -/
def execKtPowerUp (tn : Nat) (s : State) : Host.Outcome State Fault Refusal := .next (ktIssue tn 6 s)

/-- The first metric window of path t that is not warming up has been published (R216, R217, R395). -/
def State.ktSettled (s : State) (t : Nat) : Bool := s.pathRunning t && !(s.tuner t).retune && (s.tuner t).meas.isSome

/-- The earliest fall of BUSY after t0 in ticks with ACCEL = 0 (R395). -/
def ktMinimum (u : Tuner) : Nat :=
  let am := u.mode.testBit 0
  Config.ticksPerMs * (match u.cmd with
    | .none => 0
    | .tune => if am then 399 else 249
    | .seekUp => if am then 199 else 119
    | .seekDown => if am then 199 else 119
    | .powerDown => 9)

/-- The time of R395 has come for the command of tuner u at t. -/
def ktTimeOk (u : Tuner) (t : Nat) : Bool := u.accel || decide (u.t0 + ktMinimum u ≤ t)

/-- KT_BUSY_FALL: BUSY of a tuner falls at its command time t (R395). -/
def execKtBusyFall (tn t : Nat) (s : State) : Host.Outcome State Fault Refusal :=
  let s1 := s.advance t
  let u := s1.tuner tn
  .next (if !(tn < 4 && s1.ktRuns && ktTimeOk u t) then s1
    else if (u.cmd = .tune && s1.ktSettled tn) || (u.cmd = .powerDown && s1.getF (PTHn_STAT_STATE tn) == 0) then ktDone tn s1
    else s1)

/-- The raster point of tuner t is a channel: CNR of its first window at the threshold and, on FM, the offset within
STEP / 4 (R396). -/
def State.ktFound (s : State) (t : Nat) : Bool :=
  let u := s.tuner t
  let am := u.mode.testBit 0
  u.meas.any fun (m : KtMeas) => decide (((20 * bitsOf u.seek 3 0 : Nat) : Int) ≤ m.cnr)
    && (am || decide (m.foff.natAbs * 4 ≤ seekStep am (bitsOf u.seek 5 4) * 10000))

/-- KT_SEEK_STEP: the point a seek stands on has been measured at t; it is judged, and the seek ends or moves on
(R394, R396). -/
def execKtSeekStep (tn t : Nat) (s : State) : Host.Outcome State Fault Refusal :=
  let s1 := s.advance t
  let u := s1.tuner tn
  let all := seekPoints (u.mode.testBit 0) (bitsOf u.seek 5 4) + 1
  .next (if !(tn < 4 && s1.ktRuns && (u.cmd = .seekUp || u.cmd = .seekDown) && ktTimeOk u t) then s1
    else if u.steps = 0 then seekEnd tn true s1
    else if !s1.ktSettled tn then s1
    else if u.cancel || u.freq = u.seekFrom then seekEnd tn true s1
    else if s1.ktFound tn then seekEnd tn false s1
    else if all ≤ u.steps then seekEnd tn true s1
    else match s1.seekNext tn with
      | some f => seekTune tn f s1
      | none => seekEnd tn true s1)

/-! ## Registers -/

/-- AUDCFG as written: 2 and 3 of WLEN are refused; a port whose settings change is re-enabled (R388, R393). -/
def ktAudcfg (v : Nat) (s : State) : State :=
  let old := s.ktGet 4
  if 2 ≤ bitsOf v 7 6 then ktRefuse 4 s
  else
    let s1 := s.ktSet 4 v
    forEach [0, 1] (fun k s =>
      if bitsOf old 7 6 != bitsOf v 7 6 || [k, 2 + k, 4 + k].any (fun b => old.testBit b != v.testBit b) then
        ktSapSet k v (s.ktGet 5) s else s) s1

/-- AUDSEL as written: MAP writes (R310, R393). -/
def ktAudsel (v : Nat) (s : State) : State :=
  let s1 := s.ktSet 5 v
  forEach [0, 1] (fun k s =>
    let tdm := (s.ktGet 4).testBit (2 + k)
    let src := fun i => BitVec.ofNat 32 (2 ^ 30 + bitsOf v (4 * k + 2 * i + 1) (4 * k + 2 * i))
    let s2 := s.wr (SAPk_MAP k 0) (src 0)
    if tdm then s2.wr (SAPk_MAP k 1) (src 1) else s2) s1

/-- CAPCTL as written: a rising EN starts its buffer, and PACK4 as written applies then, or at once where neither buffer was
enabled (R400). -/
def ktCapctl (v : Nat) (s : State) : State :=
  let old := s.ktGet 6
  let new := v % 32
  let s1 := s.ktSet 6 new
  let rise := [0, 1].filter fun k => new.testBit k && !old.testBit k
  let s2 := if rise.isEmpty && old % 4 != 0 then s1 else
    forEach [0, 1] (fun k s => (s.setCap k { s.cap k with pack4 := new.testBit 3 }).setF (SAPk_ICAP_PACK k) (if new.testBit 3 then 2 else 1)) s1
  ktCapRefresh (forEach rise ktCapStart s2)

/-- RDSCTL as written (R224, R389, R399). -/
def ktRdsctl (t v : Nat) (s : State) : State :=
  if bitsOf v 2 1 = 3 then ktRefuse (ktIdx t 0x11) s
  else
    let s1 := (s.ktSet (ktIdx t 0x11) (v &&& 0x86)).setF (DEMn_CTL_DELIV t) (bitsOf v 2 1)
    if v.testBit 0 then ktFlush t s1 else s1

/-- A write of v to a register of tuner t at an offset, as the personality acts on it (R389, R391). -/
def ktTunerWrite (t o v : Nat) (s : State) : State :=
  let i := ktIdx t o
  if o = 0 then
    let s1 := ktCommand t v ((s.tuner t).asked.headD s.ktNow) s
    s1.setTuner t { s1.tuner t with asked := (s1.tuner t).asked.drop 1 }
  else if o = 1 then if bitsOf v 5 4 = 3 then ktRefuse i s else s.ktSet i (v % 64)
  else if o = 2 || o = 3 then s.ktSet i v
  else if o = 4 then
    shiftWrite t (ktShift ((s.tuner t).mode.testBit 0) (v % 8)) (s.ktSet i (v % 8))
  else if o = 5 then if bitsOf v 5 4 = 3 then ktRefuse i s else s.ktSet i (v % 128)
  else if o = 0x11 then ktRdsctl t v s
  else s

/-- A write of v to KT-440 register i, as the personality acts on it (R388 to R390). -/
def ktRegWrite (i v : Nat) (s : State) : State :=
  if !s.ktRuns then s
  else if 0x20 ≤ i && i < 0xA0 then ktTunerWrite (i / 0x20 - 1) (i % 0x20) v s
  else if i = 3 then ktInt 0 (s.ktSet 3 v)
  else if i = 4 then ktAudcfg v s
  else if i = 5 then ktAudsel v s
  else if i = 6 then ktCapctl v s
  else if i = 8 then { s with kt := { s.kt with rpLow := v } }
  else if i = 9 then
    let rp := s.kt.rpLow + 256 * v
    let k := bitsOf (s.ktGet 6) 4 4
    if capSize ≤ rp then ktRefuse 9 s else s.setCap k { s.cap k with rp := rp }
  else if i = 0x0D then
    forEach [0, 1] (fun k s => (s.setF (SAPk_IMASK_MASK k) (v % 4)).setF (SAPk_STAT_MASK_PEND k) 1) (s.ktSet 0x0D (v % 4))
  else if i = 0x0E then if v % 64 = 0 || 32 < v % 64 then ktRefuse 0x0E s else s.ktSet 0x0E (v % 64)
  else if i = 0x0F then s.ktSet 0x0F v
  else s

/-- KT_AUDCFG_WRITE. -/
def execKtAudcfgWrite (v : Nat) (s : State) : Host.Outcome State Fault Refusal := .next (ktRegWrite 4 (v % 256) s)
/-- KT_AUDSEL_WRITE. -/
def execKtAudselWrite (v : Nat) (s : State) : Host.Outcome State Fault Refusal := .next (ktRegWrite 5 (v % 256) s)
/-- KT_CAPTURE_ENABLE: a write of CAPCTL. -/
def execKtCaptureEnable (v : Nat) (s : State) : Host.Outcome State Fault Refusal := .next (ktRegWrite 6 (v % 256) s)
/-- FLUSH: a write of RDSCTL of a tuner with FLUSH and its other bits as they stand. -/
def execKtFlush (tn : Nat) (s : State) : Host.Outcome State Fault Refusal :=
  .next (if tn < 4 then ktRegWrite (ktIdx tn 0x11) (s.ktGet (ktIdx tn 0x11) ||| 1) s else s)

/-! ## The bus -/

/-- The 8-bit bus is strapped and answers (R383, R387). -/
def State.ktBus (s : State) : Bool := s.boot.straps.hbMode && !s.pwr.inReset

/-- A write to a port other than INDEX before readiness is discarded and counted (R387). -/
def ktEarly (s : State) : State := refuse CMP_REFUSE codeWrongState s

/-- KT_INDEX_WRITE. -/
def execKtIndexWrite (v : Nat) (s : State) : Host.Outcome State Fault Refusal :=
  .next (if s.ktBus then { s with kt := { s.kt with index := v % 256 } } else s)

/-- KT_STAT_WRITE: each 1 clears the same bit of INTSTAT (R383, R388). -/
def execKtStatWrite (v : Nat) (s : State) : Host.Outcome State Fault Refusal :=
  .next (if !s.ktBus then s else if !s.ktReady then ktEarly s
    else ktInt 0 (s.ktSet 2 (s.ktGet 2 - (s.ktGet 2 &&& (v % 256)))))

/-- INDEX after a DATAI access to register i (R386). -/
def ktAdvance (i : Nat) : Nat := if i = 0x0C || (0x20 ≤ i && i < 0xA0 && i % 0x20 = 0x10) then i else (i + 1) % 256

/-- The register address that the posted-write queue holds for KT-440 index i. -/
def ktAddr (i : Nat) : Nat := CMP_KT i

/-- The mirror value of register i with the queued writes to it applied (R367, R385): RW registers read the value
written. -/
def State.ktView (s : State) (i : Nat) : Nat :=
  let rw := if i = 3 || i = 4 || i = 5 || i = 0x0F || i = 8 || i = 9 then 255 else if i = 6 then 31 else if i = 0x0D then 3
    else if i = 0x0E then 63
    else if 0x20 ≤ i && i < 0xA0 then
      (if i % 0x20 = 0 || i % 0x20 = 2 || i % 0x20 = 3 then 255 else if i % 0x20 = 1 then 63 else if i % 0x20 = 4 then 7
        else if i % 0x20 = 5 then 127 else if i % 0x20 = 0x11 then 0x86 else 0)
    else 0
  let q := s.hb.queue.filter fun e => e.1 == ktAddr i
  match q.getLast? with
  | some e => (e.2.toNat &&& rw) ||| (s.ktGet i - (s.ktGet i &&& rw))
  | none => s.ktGet i

/-- A read of register i through DATA or DATAI: the value and the state after its side effects (R385, R388, R399,
R400). -/
def ktRead (i : Nat) (s : State) : Nat × State :=
  if !s.ktReady then (s.ktGet i, s)
  else if i = 2 then (s.ktGet 2, ktInt 0 (s.ktSet 2 0))
  else if i = 7 then (s.ktGet 7, s.ktSet 7 0)
  else if i = 0x0A then (s.ktGet 0x0A, { s with kt := { s.kt with wpHigh := s.ktGet 0x0B } })
  else if i = 0x0B then (s.kt.wpHigh, s)
  else if i = 0x0C then ktCapData s
  else if 0x20 ≤ i && i < 0xA0 then
    let t := i / 0x20 - 1
    if i % 0x20 = 0x10 then ktRdsData t s
    else if i % 0x20 = 0x0F then (s.ktGet i, s.ktSet i 0)
    else (s.ktView i, s)
  else (s.ktView i, s)

/-- The STAT port (R383, R387). -/
def State.ktStat (s : State) : Nat :=
  (if s.pins.irqLow then 128 else 0) + (if s.ktReady then 64 else 0) + s.getF CMP_STAT_BUSY

/-- KT_DATA_READ: a read of port 0 INDEX, 1 DATA, 2 DATAI or 3 STAT drives a byte (R383, R385, R386). -/
def execKtDataRead (port : Nat) (s : State) : Host.Outcome State Fault Refusal :=
  .next <|
    if !s.ktBus then s
    else
      let out : Nat → State → State := fun b x => { x with hb := { x.hb with rdata := b } }
      let i := s.kt.index
      if port = 0 then out i s
      else if port = 3 then out s.ktStat s
      else
        let r := ktRead i s
        let s1 := out r.1 r.2
        if port = 2 then { s1 with kt := { s1.kt with index := ktAdvance i } } else s1

/-- The state whose mirror shows the settings of tuner t that are still queued (R367, R385). -/
def State.ktSeen (s : State) (t : Nat) : State :=
  forEach [1, 2, 3, 5] (fun o x => x.ktSet (ktIdx t o) (s.ktView (ktIdx t o))) s

/-- KT_DATA_WRITE: a write through DATA, or through DATAI with its advance, enters the posted-write queue of 64 entries;
an accepted command raises BUSY as it is committed (R367, R368, R385, R386, R394).  A cycle that finds the queue full
is lost and counted as for the native bus. -/
def execKtDataWrite (auto : Bool) (v : Nat) (s : State) : Host.Outcome State Fault Refusal :=
  .next <|
    if !s.ktBus then s
    else if !s.ktReady then ktEarly s
    else
      let i := s.kt.index
      let s0 : State := if auto then { s with kt := { s.kt with index := ktAdvance i } } else s
      if 64 ≤ s.hb.queue.length then raise evHbQovf noInst (s0.bump SYS_HB_CNT_QOVF)
      else
        let s1 : State := { s0 with hb := { s0.hb with queue := s0.hb.queue ++ [(ktAddr i, BitVec.ofNat 32 (v % 256))] } }
        let n := s1.hb.queue.length
        let s2 := (s1.setF SYS_HB_STAT_QFILL n).setF SYS_HB_STAT_QMAX (max (s1.getF SYS_HB_STAT_QMAX) n)
        let t := i / 0x20 - 1
        if 0x20 ≤ i && i < 0xA0 && i % 0x20 = 0 then
          let s3 := s2.setTuner t { s2.tuner t with asked := (s2.tuner t).asked ++ [s.ktNow] }
          if v % 256 != 4 && (s.ktSeen t).ktAccepts t (v % 256) then ktSetBusy t true s3 else s3
        else s2

end Sys2Proof.Machine
end

