-- ==== Sys2Proof/Machine/IzCode.lean ====
section
/-! DEFINITION. The bytes of Izham-24 instructions (spec/17 R439 to R446): opcodes, the encoder, and the decoder that
a core's fetch uses.  Reserved fields are read as they stand; whether they trap is judged at issue (R442, R444). -/

namespace Sys2Proof.Machine

/-! ## Opcodes (R445, R446) -/

/-- Map 0 opcode of an F0 instruction. -/
def codeF0 : IzF0 → Nat
  | .nop => 0x00 | .sync => 0x01 | .ret => 0x02 | .rti => 0x03 | .lexit => 0x04 | .ei => 0x05 | .di => 0x06

/-- Map 0 opcode of an FRR instruction. -/
def codeFrr : IzFrr → Nat
  | .add => 0x10 | .sub => 0x11 | .and => 0x12 | .or => 0x13 | .xor => 0x14 | .shl => 0x15 | .shr => 0x16 | .sra => 0x17
  | .mul => 0x18 | .mulh => 0x19 | .min => 0x1A | .max => 0x1B | .div => 0x1C | .divu => 0x1D | .rem => 0x1E

/-- Map 0 opcode of an FRI instruction. -/
def codeFri : IzFri → Nat
  | .addi => 0x20 | .andi => 0x21 | .ori => 0x22 | .xori => 0x23 | .shli => 0x24 | .shri => 0x25 | .srai => 0x26
  | .muli => 0x27 | .movi => 0x28

/-- Map 0 opcode of an FR instruction. -/
def codeFr : IzFr → Nat
  | .mov => 0x30 | .neg => 0x31 | .abs => 0x32 | .not => 0x33 | .clz => 0x34 | .sext8 => 0x35 | .sext16 => 0x36
  | .mfsw => 0x38 | .mtsw => 0x39 | .mfsp => 0x3A | .mtsp => 0x3B | .jmpr => 0x52 | .callr => 0x53
  | .push => 0x58 | .pop => 0x59 | .pusha => 0x5A | .popa => 0x5B | .mfp => 0x68 | .setsd => 0x69 | .getsd => 0x6A

/-- The number of a condition in the opcodes of Bcc and BccI. -/
def codeCc : IzCc → Nat
  | .eq => 0 | .ne => 1 | .lt => 2 | .ge => 3 | .ltu => 4 | .geu => 5

/-- Map 0 opcode of an FM instruction. -/
def codeFm : IzFm → Nat
  | .ld => 0x60 | .st => 0x61 | .ldx => 0x62 | .stx => 0x63 | .ldc => 0x64 | .stc => 0x65 | .ldp => 0x66 | .addp => 0x67

/-- Map 0 opcode of an FA instruction. -/
def codeFa : IzFa → Nat
  | .mpy => 0x70 | .mac => 0x71 | .msu => 0x72 | .clra => 0x73 | .ext => 0x74 | .mova => 0x75 | .adda => 0x76
  | .sha => 0x77 | .macp => 0x78 | .cmac => 0x79 | .cmacj => 0x7A

/-- Map 1 opcode of an FX instruction. -/
def codeFx : IzFx → Nat
  | .mfls => 0x00 | .mtls => 0x01 | .mfle => 0x02 | .mtle => 0x03 | .mflc => 0x04 | .mtlc => 0x05 | .mfa => 0x10
  | .mta => 0x11 | .mfpb => 0x20 | .core => 0x21

/-- What a map 0 opcode byte begins. -/
inductive IzKind where
  | f0 (o : IzF0) | fr (o : IzFr) | frr (o : IzFrr) | fri (o : IzFri) | fb (c : IzCc) | br | fbi (c : IzCc)
  | fj (link : Bool) | fm (o : IzFm) | fa (o : IzFa) | loop | loopr | esc
  deriving DecidableEq, Repr

/-- Map 0 (R445); none where the opcode is undefined or a prefix. -/
def izKind : Nat → Option IzKind
  | 0x00 => some (.f0 .nop) | 0x01 => some (.f0 .sync) | 0x02 => some (.f0 .ret) | 0x03 => some (.f0 .rti)
  | 0x04 => some (.f0 .lexit) | 0x05 => some (.f0 .ei) | 0x06 => some (.f0 .di)
  | 0x10 => some (.frr .add) | 0x11 => some (.frr .sub) | 0x12 => some (.frr .and) | 0x13 => some (.frr .or)
  | 0x14 => some (.frr .xor) | 0x15 => some (.frr .shl) | 0x16 => some (.frr .shr) | 0x17 => some (.frr .sra)
  | 0x18 => some (.frr .mul) | 0x19 => some (.frr .mulh) | 0x1A => some (.frr .min) | 0x1B => some (.frr .max)
  | 0x1C => some (.frr .div) | 0x1D => some (.frr .divu) | 0x1E => some (.frr .rem)
  | 0x20 => some (.fri .addi) | 0x21 => some (.fri .andi) | 0x22 => some (.fri .ori) | 0x23 => some (.fri .xori)
  | 0x24 => some (.fri .shli) | 0x25 => some (.fri .shri) | 0x26 => some (.fri .srai) | 0x27 => some (.fri .muli)
  | 0x28 => some (.fri .movi)
  | 0x30 => some (.fr .mov) | 0x31 => some (.fr .neg) | 0x32 => some (.fr .abs) | 0x33 => some (.fr .not)
  | 0x34 => some (.fr .clz) | 0x35 => some (.fr .sext8) | 0x36 => some (.fr .sext16) | 0x38 => some (.fr .mfsw)
  | 0x39 => some (.fr .mtsw) | 0x3A => some (.fr .mfsp) | 0x3B => some (.fr .mtsp)
  | 0x40 => some (.fb .eq) | 0x41 => some (.fb .ne) | 0x42 => some (.fb .lt) | 0x43 => some (.fb .ge)
  | 0x44 => some (.fb .ltu) | 0x45 => some (.fb .geu) | 0x46 => some .br
  | 0x48 => some (.fbi .eq) | 0x49 => some (.fbi .ne) | 0x4A => some (.fbi .lt) | 0x4B => some (.fbi .ge)
  | 0x4C => some (.fbi .ltu) | 0x4D => some (.fbi .geu)
  | 0x50 => some (.fj false) | 0x51 => some (.fj true) | 0x52 => some (.fr .jmpr) | 0x53 => some (.fr .callr)
  | 0x58 => some (.fr .push) | 0x59 => some (.fr .pop) | 0x5A => some (.fr .pusha) | 0x5B => some (.fr .popa)
  | 0x60 => some (.fm .ld) | 0x61 => some (.fm .st) | 0x62 => some (.fm .ldx) | 0x63 => some (.fm .stx)
  | 0x64 => some (.fm .ldc) | 0x65 => some (.fm .stc) | 0x66 => some (.fm .ldp) | 0x67 => some (.fm .addp)
  | 0x68 => some (.fr .mfp) | 0x69 => some (.fr .setsd) | 0x6A => some (.fr .getsd)
  | 0x70 => some (.fa .mpy) | 0x71 => some (.fa .mac) | 0x72 => some (.fa .msu) | 0x73 => some (.fa .clra)
  | 0x74 => some (.fa .ext) | 0x75 => some (.fa .mova) | 0x76 => some (.fa .adda) | 0x77 => some (.fa .sha)
  | 0x78 => some (.fa .macp) | 0x79 => some (.fa .cmac) | 0x7A => some (.fa .cmacj)
  | 0x80 => some .loop | 0x81 => some .loopr | 0xFF => some .esc
  | _ => none

/-- Map 1 (R446); none where the opcode is undefined. -/
def izMap1 : Nat → Option IzFx
  | 0x00 => some .mfls | 0x01 => some .mtls | 0x02 => some .mfle | 0x03 => some .mtle | 0x04 => some .mflc
  | 0x05 => some .mtlc | 0x10 => some .mfa | 0x11 => some .mta | 0x20 => some .mfpb | 0x21 => some .core
  | _ => none

/-! ## Bytes -/

/-- The byte with these two nibbles, high one first. -/
def nib (h l : BitVec 4) : BitVec 8 := h ++ l

/-- The high and the low nibble of a byte. -/
def nibHi (b : BitVec 8) : BitVec 4 := b.extractLsb' 4 4
def nibLo (b : BitVec 8) : BitVec 4 := b.extractLsb' 0 4

/-- A 16-bit value as two bytes, low one first, and back. -/
def le16 (x : BitVec 16) : List (BitVec 8) := [x.extractLsb' 0 8, x.extractLsb' 8 8]
def of16 (l h : BitVec 8) : BitVec 16 := h ++ l

/-- A 24-bit value as three bytes, low one first, and back. -/
def le24 (x : BitVec 24) : List (BitVec 8) := [x.extractLsb' 0 8, x.extractLsb' 8 8, x.extractLsb' 16 8]
def of24 (l m h : BitVec 8) : BitVec 24 := h ++ m ++ l

/-- An opcode byte. -/
def opByte (n : Nat) : BitVec 8 := BitVec.ofNat 8 n

/-! ## Encoding -/

/-- The bytes of a prefix (R441). -/
def encodePre : IzPre → List (BitVec 8)
  | .repN n => [0xF0, n]
  | .repG r => [nib 0xD r]
  | .sego k => [nib 0xE k]
  | .ximm x => 0xF1 :: le16 x
  | .sat => [0xF2]

/-- The bytes of a base instruction (R439, R444). -/
def encodeOp : IzOp → List (BitVec 8)
  | .f0 o => [opByte (codeF0 o)]
  | .fr o x y => [opByte (codeFr o), nib x y]
  | .frr o d a b z => [opByte (codeFrr o), nib d a, nib b z]
  | .fri o d a imm => [opByte (codeFri o), nib d a, imm]
  | .fb c a b disp => opByte (0x40 + codeCc c) :: nib a b :: le16 disp
  | .br z0 z1 disp => opByte 0x46 :: nib z0 z1 :: le16 disp
  | .fbi c a z imm disp => opByte (0x48 + codeCc c) :: nib a z :: imm :: le16 disp
  | .fj link dest => opByte (if link then 0x51 else 0x50) :: le24 dest
  | .fm o g m n x => [opByte (codeFm o), g ++ m ++ n, x]
  | .fa o b1 k x => [opByte (codeFa o), b1, k ++ x]
  | .loop count disp => opByte 0x80 :: (le16 count ++ le16 disp)
  | .loopr c z disp => opByte 0x81 :: nib c z :: le16 disp
  | .fx o d x => [0xFF, opByte (codeFx o), nib d x]

/-- The bytes of an instruction: its prefixes in order, then the base instruction. -/
def encodeIz (pre : List IzPre) (o : IzOp) : List (BitVec 8) := pre.flatMap encodePre ++ encodeOp o

/-! ## Decoding -/

/-- The prefix that begins a list of bytes, with the bytes after it. -/
def decodePre : List (BitVec 8) → Option (IzPre × List (BitVec 8))
  | [] => none
  | b :: t =>
    if b = 0xF0 then (match t with | n :: r => some (.repN n, r) | [] => none)
    else if b = 0xF1 then (match t with | l :: h :: r => some (.ximm (of16 l h), r) | _ => none)
    else if b = 0xF2 then some (.sat, t)
    else if nibHi b = 0xD then some (.repG (nibLo b), t)
    else if nibHi b = 0xE then some (.sego (nibLo b), t)
    else none

/-- At most n prefixes from the front of a list of bytes, with the bytes after them. -/
def decodePres : Nat → List (BitVec 8) → List IzPre × List (BitVec 8)
  | 0, l => ([], l)
  | n + 1, l =>
    match decodePre l with
    | none => ([], l)
    | some (p, r) => let x := decodePres n r; (p :: x.1, x.2)

/-- The base instruction that begins a list of bytes, with the bytes after it; none where its opcode is undefined. -/
def decodeOp : List (BitVec 8) → Option (IzOp × List (BitVec 8))
  | [] => none
  | b :: t =>
    match izKind b.toNat, t with
    | some (.f0 o), r => some (.f0 o, r)
    | some (.fr o), x :: r => some (.fr o (nibHi x) (nibLo x), r)
    | some (.frr o), x :: y :: r => some (.frr o (nibHi x) (nibLo x) (nibHi y) (nibLo y), r)
    | some (.fri o), x :: y :: r => some (.fri o (nibHi x) (nibLo x) y, r)
    | some (.fb c), x :: l :: h :: r => some (.fb c (nibHi x) (nibLo x) (of16 l h), r)
    | some .br, x :: l :: h :: r => some (.br (nibHi x) (nibLo x) (of16 l h), r)
    | some (.fbi c), x :: y :: l :: h :: r => some (.fbi c (nibHi x) (nibLo x) y (of16 l h), r)
    | some (.fj link), l :: m :: h :: r => some (.fj link (of24 l m h), r)
    | some (.fm o), x :: y :: r => some (.fm o (nibHi x) (x.extractLsb' 3 1) (x.extractLsb' 0 3) y, r)
    | some (.fa o), x :: y :: r => some (.fa o x (y.extractLsb' 6 2) (y.extractLsb' 0 6), r)
    | some .loop, l :: h :: l' :: h' :: r => some (.loop (of16 l h) (of16 l' h'), r)
    | some .loopr, x :: l :: h :: r => some (.loopr (nibHi x) (nibLo x) (of16 l h), r)
    | some .esc, x :: y :: r => (match izMap1 x.toNat with | some o => some (.fx o (nibHi y) (nibLo y), r) | none => none)
    | _, _ => none

/-- What a fetch finds: an instruction, or prefixes before an undefined opcode with its first two bytes. -/
inductive IzFetch where
  | op (pre : List IzPre) (o : IzOp)
  | undef (pre : List IzPre) (b0 b1 : BitVec 8)
  deriving DecidableEq, Repr

/-- The instruction that begins a list of bytes.  Four prefixes are read at most: a fourth one traps (R442). -/
def decodeIz (l : List (BitVec 8)) : IzFetch :=
  let x := decodePres 4 l
  match decodeOp x.2 with
  | some (o, _) => .op x.1 o
  | none => .undef x.1 (x.2.headD 0) (x.2.tail.headD 0)

/-- Length in bytes of prefixes, and of a base instruction (R440, R444). -/
def preLen (pre : List IzPre) : Nat := (pre.flatMap encodePre).length
def opLen (o : IzOp) : Nat := (encodeOp o).length

/-- Length of an instruction with an undefined opcode: its prefixes and the opcode, with the escape byte before a map 1
opcode and its operand byte after it (R439). -/
def undefLen (pre : List IzPre) (b0 : BitVec 8) : Nat := preLen pre + (if b0 = 0xFF then 3 else 1)

/-- Length of what a fetch finds. -/
def fetchLen : IzFetch → Nat
  | .op pre o => preLen pre + opLen o
  | .undef pre b0 _ => undefLen pre b0

end Sys2Proof.Machine
end

