-- ==== Sys2Proof/Machine/Transmit.lean ====
section
/-! DEFINITION. What the exciter sends (spec/18 R459 to R465, R482): the FM signal of a lane, the composite at
491.52 MS/s, the pre-distorter and the samples at DAC_P/N.  Filters whose responses alone the spec gives are opaque
(notes/assumptions/144.md). -/

namespace Sys2Proof.Machine

/-! ## The FM signal of a lane -/

/-- The carrier of lane i is licensed as the entry of the record in force for it (R478). -/
def State.licEntry (s : State) (hz : Nat) : Option LicEntry := s.exc.lic.bind fun l => l.entries.find? fun e => e.hz == hz

/-- Lane i carries a DAB ensemble: its group is in DAB mode (R19, R463). -/
def State.laneDab (s : State) (i : Nat) : Bool := s.flag (EXC_GRPg_CTL_MODE (i / 4))

/-- The lane is driven. -/
def State.laneOn (s : State) (i : Nat) : Bool := s.getF (XLi_STAT_STATE i) == 1 || s.getF (XLi_STAT_STATE i) == 2

/-- Pre-emphasis of the samples of one channel, from its last input and output (R461). -/
def preRun (code : Nat) : Int × Int → List Int → List Int × (Int × Int)
  | p, [] => ([], p)
  | p, x :: l =>
    let y := if code = 0 then x else Config.preEmphasis code x p.1 p.2
    let r := preRun code (x, y) l
    (y :: r.1, r.2)

/-- The 256 kS/s instants within a block whose first sample is sent at an instant (R461): every 15,360 ticks. -/
def fmInstants (send : Nat) : List Nat :=
  let lo := (send + 15359) / 15360
  (List.range ((send + Config.audioBlock + 15359) / 15360 - lo)).map fun k => (lo + k) * 15360

/-- One channel after the 15 kHz filter, at a 256 kS/s instant (R461). -/
def audioAt (u : Nat) (l : List (Nat × Int)) : Int :=
  Config.quot 15 (l.foldl (fun a x => a + Config.audioTap ((u : Int) - x.1) * x.2) 0) (2 ^ 23)

/-- The deviation of lane i at an instant, of the filtered left and right samples, in units of 2^-23 Hz (R461, R462):
M + S × 38 kHz, the pilot and the RDS subcarrier.  XLi_DEV holds AUD in 100 Hz, PILOT and RDS in 10 Hz. -/
def State.deviation (s : State) (i u : Nat) (l r : Int) : Int :=
  let aud : Int := s.getF (XLi_DEV_AUD i)
  let pilot : Int := s.getF (XLi_DEV_PILOT i)
  let p := (Config.pilotStart + 19 * u) % 3932160
  let main := 50 * aud * (l + r)
  let side := if s.flag (XLi_CTL_MONO i) || pilot = 0 then 0
    else 50 * aud * Config.quot 10 ((l - r) * Config.sine (2 * p % 3932160) 3932160) (2 ^ 23) + 10 * pilot * Config.sine p 3932160
  let rds := match (s.lane i).rdsLast with
    | some g => if s.flag (XLi_RDS_EN i) then 10 * (s.getF (XLi_DEV_RDS i) : Int) * Config.rdsWave g (u - (s.lane i).rdsAt) else 0
    | none => 0
  main + side + rds

/-- FM modulation from a phase, each deviation limited to the licence's (R461): the phases with their instants, and how
many samples were limited. -/
def fmRun (lim : Option Int) : Nat → List (Nat × Int) → List (Nat × Nat) × Nat
  | _, [] => ([], 0)
  | θ, (u, d) :: l =>
    let y := match lim with | some m => clampInt (-m) m d | none => d
    let φ := (((θ : Int) + y) % (256000 * 2 ^ 23)).toNat
    let r := fmRun lim φ l
    ((u, φ) :: r.1, r.2 + (y != d).toNat)

/-- Lane i sends a block of stereo samples whose first one leaves at an instant (R461); limited samples are counted. -/
def fmSend (i send : Nat) (out : List (Int × Int)) (s : State) : State :=
  let v := s.lane i
  let pre := s.getF (XLi_CTL_PREEMPH i)
  let l := preRun pre v.preL (out.map (·.1))
  let r := preRun pre v.preR (out.map (·.2))
  let fed := v.fed.drop (v.fed.length - 64) ++ (l.1.zip r.1).zipIdx.map fun x => (send + x.2 * 81920, x.1)
  let line := fun (ch : Int × Int → Int) => fed.map fun x => (x.1, ch x.2)
  let dev := (fmInstants send).map fun u => (u, s.deviation i u (audioAt u (line (·.1))) (audioAt u (line (·.2))))
  let lim := (s.licEntry (s.getF (XLi_FREQ_HZ i))).map fun e => ((e.maxdev : Int) * 100) * 2 ^ 23
  let m := fmRun lim ((v.wave.getLast?.map (·.2)).getD 0) dev
  let w := v.wave.drop (v.wave.length - 342) ++ m.1
  (s.setLane i { v with preL := l.2, preR := r.2, fed := fed, wave := w }).bumpBy (XLi_CNT_DEVCLIP i) m.2

/-! ## The composite -/

/-- The baseband of lane i at a composite sample of instant u, of amplitude 1 in units of 2^-23: the FM signal
interpolated by 1,920, or the frame of its group (R461, R463). -/
def State.laneBase (s : State) (i u : Nat) : Int × Int :=
  let v := s.lane i
  if s.laneDab i then
    match v.dab with
    | some d => if d.at_ ≤ u then Config.dabWave d.fibs d.subs (u - d.at_) else (0, 0)
    | none => (0, 0)
  else
    let part := fun (f : Nat → Nat → Int) =>
      Config.quot 11 (v.wave.foldl (fun a x => a + Config.laneTap ((u : Int) - x.1) * f x.2 (256000 * 2 ^ 23)) 0) (2 ^ 23)
    (part Config.cosine, part Config.sine)

/-- Lane i in composite sample n, which leaves at SYSCNT 8 n: turned to its distance from CENTRE by the phase of R460, at
the lane's gain and drive (R459, R460, R467). -/
def State.laneSample (s : State) (i n : Nat) : Cx :=
  let x := s.laneBase i (8 * n)
  let hz : Int := (s.getF (XLi_FREQ_HZ i) : Int) - s.getF EXC_CENTRE_HZ
  let p := (hz * (16 * n : Nat) % 7864320000).toNat
  let c := Config.cosine p 7864320000
  let d := Config.sine p 7864320000
  let gain : Nat := match (s.lane i).gain with | some g => Config.amplitude (mkRat g 10) | none => 0
  let a := ratRound (gain * s.driveAt i (8 * n))
  ⟨Config.quot 12 (a * (x.1 * c - x.2 * d)) (2 ^ 46), Config.quot 12 (a * (x.1 * d + x.2 * c)) (2 ^ 46)⟩

/-- Composite sample n: the driven lanes summed (R459). -/
def State.composite (s : State) (n : Nat) : Cx :=
  ((List.range 8).filter s.laneOn).foldl (fun a i => let x := s.laneSample i n; ⟨a.re + x.re, a.im + x.im⟩) ⟨0, 0⟩

/-! ## Pre-distortion -/

/-- The pre-distorter's coefficient of the identity model: 1 at a_10 (R482, R485). -/
def coefIdent (k : Nat) : Nat := if k = 0 then 0x100000 else 0

/-- K and M of the model (R482). -/
def State.model (s : State) : Nat × Nat := if s.flag EXC_CTL_MODEL then (9, 7) else (7, 5)

/-- A coefficient by its index in units of 2^-20 (R482, R485). -/
def State.coef (s : State) (k : Nat) : Cx :=
  ⟨signedOf 24 (sget coefIdent s.exc.dpd.coefs (2 * k)), signedOf 24 (sget coefIdent s.exc.dpd.coefs (2 * k + 1))⟩

/-- One term c · x · |z|^(k-1) of a polynomial of order up to top, in units of 2^-(20 + 23 top). -/
def dpdTerm (top k : Nat) (c x z : Cx) : Int × Int :=
  let w : Int := (Config.root (z.re * z.re + z.im * z.im).toNat : Int) ^ (k - 1) * 2 ^ (23 * (top - k))
  ((c.re * x.re - c.im * x.im) * w, (c.re * x.im + c.im * x.re) * w)

/-- The generalised memory polynomial at sample n (R482); its coefficients are a_km then b_kml, in the order k, m, l with
l of -2, -1, 1, 2 (R485). -/
def predistort (top depth : Nat) (coef : Nat → Cx) (x : Nat → Cx) (n : Nat) : Cx :=
  let a := (List.range top).flatMap fun k => (List.range depth).map fun m =>
    dpdTerm top (k + 1) (coef (k * depth + m)) (x (n - m)) (x (n - m))
  let b := (List.range (top - 1)).flatMap fun k => (List.range depth).flatMap fun m => (List.range 4).map fun j =>
    dpdTerm top (k + 2) (coef (top * depth + (k * depth + m) * 4 + j)) (x (n - m)) (x (n + 2 - m - [0, 1, 3, 4].getD j 0))
  let sum := fun (part : Int × Int → Int) => Config.quot 13 ((a ++ b).foldl (fun t y => t + part y) 0) (2 ^ (20 + 23 * (top - 1)))
  ⟨sum (·.1), sum (·.2)⟩

/-- Composite sample n after the pre-distorter, where DPD_EN has it (R459, R482), before saturation. -/
def State.distorted (s : State) (n : Nat) : Cx :=
  if s.flag EXC_CTL_DPD_EN then predistort s.model.1 s.model.2 s.coef s.composite n else s.composite n

/-- Composite sample n lies beyond full scale (R460). -/
def State.clips (s : State) (n : Nat) : Bool :=
  let y := s.distorted n
  satStream y.re != y.re || satStream y.im != y.im

/-- The composite up to instant t has been sent, and its saturated samples are counted (R460). -/
def excSettle (t : Nat) (s : State) : State :=
  let lo := (s.exc.clipTo + 7) / 8
  let n := if s.pins.dacMuted then 0 else (List.range ((t + 7) / 8 - lo)).countP fun k => s.clips (lo + k)
  ({ s with exc := { s.exc with clipTo := max t s.exc.clipTo } }).bumpBy EXC_CLIP_CNT n

/-- What DAC_P/N carries at DAC sample instant u, in units of 2^-23 of full scale: the saturated composite interpolated by
16, turned to CENTRE and driven real (R459, R460); nothing while the DAC is muted (R466) or the pod of a lane that is on is being remapped (R32 note n). -/
def State.dacAt (s : State) (u : Nat) : Int :=
  if s.pins.dacMuted || (List.range 8).any fun i => s.laneOn i && s.podsOut 5 i then 0
  else
    let y := Config.dacSample (fun n => (satStream (s.distorted n).re, satStream (s.distorted n).im)) u
    let p := s.getF EXC_CENTRE_HZ * u % 7864320000
    Config.quot 14 (y.1 * Config.cosine p 7864320000 - y.2 * Config.sine p 7864320000) (2 ^ 23)

end Sys2Proof.Machine
end

