-- ==== Sys2Proof/Machine/Exc.lean ====
section
/-! DEFINITION. The exciter (spec/18 R459 to R485): keying and the PA sequence, lanes, the licence checks, forward power,
pre-distortion, content and registers. -/

namespace Sys2Proof.Machine

/-! ## Licence -/

/-- The first condition of R478 that lane i fails with a carrier of its own; 0 where it is permitted. -/
def State.laneReason (s : State) (i : Nat) : Nat :=
  match s.licEntry (s.getF (XLi_FREQ_HZ i)) with
  | none => 1
  | some e =>
    if e.kind != (if s.laneDab i then 2 else 1) then 2
    else if e.maxp < s.getI (XLi_PWR_TGT i) then 3
    else if !s.laneDab i && decide (10 * e.maxdev < 10 * s.getF (XLi_DEV_AUD i) + s.getF (XLi_DEV_PILOT i) + s.getF (XLi_DEV_RDS i))
      then 4
    else 0

/-- A lane is muted (R473): silent, with its cause, and EXC_MUTE with the lane as instance. -/
def laneMute (i cause : Nat) (s : State) : State :=
  raise evExcMute i (((laneSilent i 3 s).setF (XLi_STAT_MCAUSE i) cause).setF EXC_STAT_MCAUSE cause)

/-- A lane leaves MUTED: it ramps up while the exciter is in RAMPUP or ON, and is OFF otherwise (R473). -/
def laneUnmute (i : Nat) (s : State) : State :=
  if s.flag (XLi_CTL_EN i) && (s.excState = 3 || s.excState = 4) then laneRise i s else s.setF (XLi_STAT_STATE i) 0

/-- A record has become VALID: every enabled lane is checked against it, by the task of SQ5 (R21, R478). -/
def licRecheck (s : State) : State :=
  let s1 := forEach (List.range 8) (fun i s =>
    if !s.flag (XLi_CTL_EN i) || !s.firmwareOn 5 then s
    else
      let s0 := match s.licEntry (s.getF (XLi_FREQ_HZ i)) with
        | some e =>
          if e.maxp < s.getI (XLi_PWR_TGT i) then
            let cut := s.getI (XLi_PWR_TGT i) - e.maxp
            let s2 := s.setI (XLi_PWR_TGT i) e.maxp
            match (s2.lane i).gain with
            | some g =>
              let s3 := s2.setLane i { s2.lane i with gain := some (g - cut) }
              if s3.getF (XLi_PWR_GAIN i) = 0x8000 then s3 else s3.setI (XLi_PWR_GAIN i) (g - cut)
            | none => s2
          else s
        | none => s
      let ls := s0.getF (XLi_STAT_STATE i)
      if s0.laneReason i != 0 then (if ls = 3 then s0 else laneMute i causeLicence s0)
      else if ls = 3 && s0.getF (XLi_STAT_MCAUSE i) = causeLicence then laneUnmute i s0
      else s0) s
  raise evLicence noInst s1

/-- The record in force is no longer VALID: PA_RF_EN low and the DAC muted (R470). -/
def licLost (s : State) : State := excHold causeLicence { s with exc := { s.exc with lic := none } }

/-! ## Keying -/

/-- The coupler is valid: VALID, and the LOOP calibration current (R481). -/
def State.couplerOk (s : State) : Bool := s.flag EXC_CPL_STAT_VALID && s.flag (CALn_STAT_CURRENT 4)

/-- The conditions of R467 for a KEY in OFF or HELD. -/
def State.keyOk (s : State) : Bool :=
  (s.excState = 0 || s.excState = 6) && !s.exc.down
    && s.getF EXC_LIC_STAT_STATE == 2
    && (List.range 8).any (fun i => s.flag (XLi_CTL_EN i) && s.laneReason i == 0)
    && s.flag CLK_STAT_LOCK && s.flag CLK_STAT_HK_OK && s.pins.paFaultN
    && (!s.flag EXC_CTL_DPD_EN || s.couplerOk)

/-- Set the next step of the PA sequence and its earliest instant. -/
def excNext (st : ExcStep) (wait : Nat) (s : State) : State :=
  { s with exc := { s.exc with step := st, due := s.now + wait } }

/-- An accepted KEY: PA_VDD_EN rises from OFF; from HELD the RF stage follows at once (R467). -/
def excKeyUp (s : State) : State :=
  let s1 : State := { s with exc := { s.exc with down := false, heldBySpll := false } }
  if s.excState = 0 then excNext .biasUp (s.seqTicks EXC_SEQ_VDD_MS) (excEnter 1 s1)
  else excNext .none (s.seqTicks EXC_SEQ_RAMP_MS) (excEnter 3 s1)

/-- EXC_CMD.KEY (R467). -/
def excKey (s : State) : State := if s.keyOk then excKeyUp s else refuseInst EXC_STAT codeWrongState s

/-- EXC_CMD.UNKEY (R468). -/
def excUnkey (s : State) : State :=
  let st := s.excState
  if st = 0 || st = 7 || s.exc.down then s
  else
    let s1 := ({ s with exc := { s.exc with down := true, heldBySpll := false } }).setF EXC_STAT_MCAUSE causeHost
    if st = 3 || st = 4 then excNext .none (s.seqTicks EXC_SEQ_RAMP_MS) (excEnter 5 s1)
    else if st = 1 then excNext .vddDown (s.seqTicks EXC_SEQ_VDD_MS) s1
    else excNext .biasDown (s.seqTicks EXC_SEQ_BIAS_MS) (excEnter 2 s1)

/-- EXC_CMD.CLEAR (R469, R473): it leaves FAULT while PA_FAULT_N is high, and clears OVERPOWER and TEMPLATE mutes. -/
def excClear (s : State) : State :=
  let s1 := if s.excState = 7 && s.pins.paFaultN then
      if s.exc.faultDone then { excEnter 0 s with exc := { (excEnter 0 s).exc with step := .none, faultDone := false } }
      else { s with exc := { s.exc with clearAsked := true } }
    else s
  forEach (List.range 8) (fun i s =>
    let c := s.getF (XLi_STAT_MCAUSE i)
    if s.getF (XLi_STAT_STATE i) = 3 && (c = causeOverpower || c = causeTemplate) then laneUnmute i s else s) s1

/-- EXC_DPD_CDATA and EXC_STAT.DPD show the model in force. -/
def dpdShow (s : State) : State :=
  let d := s.exc.dpd
  let k := 2 * s.getF EXC_DPD_CSEL_INDEX + s.getF EXC_DPD_CSEL_IM
  let s1 := s.setF EXC_DPD_CDATA_COEF (sget coefIdent d.coefs k)
  s1.setF EXC_STAT_DPD (if d.suspended then 3 else if d.converged then 2 else if d.updated then 1 else 0)

/-- The model returns to identity, and the hold of R475 is renewed (R484). -/
def dpdIdentity (s : State) : State := dpdShow { s with exc := { s.exc with dpd := { suspended := s.exc.dpd.suspended } } }

/-- EXC_CMD.DPD_RESET (R484). -/
def dpdReset (s : State) : State :=
  if s.excState = 0 || s.excState = 6 then dpdIdentity s else refuseInst EXC_STAT codeWrongState s

/-- A write of w to EXC_CMD (R485): more than one bit is refused. -/
def excCmdWrite (w : Nat) (s : State) : State :=
  let c := w % 16
  if c = 0 then s else if c = 1 then excKey s else if c = 2 then excUnkey s else if c = 4 then excClear s
  else if c = 8 then dpdReset s else refuseInst EXC_STAT codeReserved s

/-- KEY. -/
def execExcKey (m : Master) (s : State) : Host.Outcome State Fault Refusal := .next (gated m EXC_CMD 1 (excCmdWrite 1) s)
/-- UNKEY. -/
def execExcUnkey (m : Master) (s : State) : Host.Outcome State Fault Refusal := .next (gated m EXC_CMD 2 (excCmdWrite 2) s)
/-- CLEAR. -/
def execExcClear (m : Master) (s : State) : Host.Outcome State Fault Refusal := .next (gated m EXC_CMD 4 (excCmdWrite 4) s)
/-- DPD_RESET. -/
def execDpdReset (m : Master) (s : State) : Host.Outcome State Fault Refusal := .next (gated m EXC_CMD 8 (excCmdWrite 8) s)

/-- EXC_SEQUENCE_TIMER: a VDD_MS or BIAS_MS period expires at t and the next PA ball changes (R467 to R469).  While an
UNKEY runs down, the states BIAS and VDD show the balls that are still high. -/
def excTimer (s : State) : State :=
  match s.exc.step with
  | .none => s
  | .vddUp => excNext .biasUp (s.seqTicks EXC_SEQ_VDD_MS) (excEnter 1 s)
  | .biasUp => excNext .rfUp (s.seqTicks EXC_SEQ_BIAS_MS) (excEnter 2 s)
  | .rfUp => excNext .none (s.seqTicks EXC_SEQ_RAMP_MS) (excEnter 3 s)
  | .biasDown => excNext .vddDown (s.seqTicks EXC_SEQ_VDD_MS) (excEnter 1 s)
  | .vddDown =>
    let s1 := excNext .none 0 (excEnter 0 s)
    { s1 with exc := { s1.exc with down := false, heldBySpll := false } }
  | .faultBias => excNext .faultVdd (s.seqTicks EXC_SEQ_VDD_MS) (paBalls s.pins.paVdd false false true s)
  | .faultVdd =>
    let s1 := excNext .none 0 (paBalls false false false true s)
    if s1.exc.clearAsked then
      let s2 := excEnter 0 s1
      { s2 with exc := { s2.exc with clearAsked := false, faultDone := false } }
    else { s1 with exc := { s1.exc with faultDone := true } }

/-- EXC_SEQUENCE_TIMER. -/
def execExcSequenceTimer (t : Nat) (s : State) : Host.Outcome State Fault Refusal :=
  let s1 := s.advance t
  .next (if s1.exc.due ≤ t then excTimer s1 else s1)

/-- EXC_RAMP_END: a RAMP_MS ramp completes at t: lane i below 8, or the exciter's own at 8 (R467, R468, R473). -/
def execExcRampEnd (i t : Nat) (s : State) : Host.Outcome State Fault Refusal :=
  let s1 := s.advance t
  .next <|
    if i < 8 then
      if s1.getF (XLi_STAT_STATE i) = 1 then
        if (s1.lane i).down then laneSilent i 0 s1 else s1.setF (XLi_STAT_STATE i) 2
      else s1
    else if t < s1.exc.due then s1
    else if s1.excState = 3 then excEnter 4 s1
    else if s1.excState = 5 then excNext .biasDown (s1.seqTicks EXC_SEQ_BIAS_MS) (excEnter 2 s1)
    else s1

/-- PA_FAULT_N asserted and recognised (R469). -/
def paFault (s : State) : State :=
  let s0 : State := { s with pins := { s.pins with paFaultN := false } }
  let s1 := (s0.setF EXC_STAT_PAFLT 1).bump EXC_PAFLT_CNT_CNT
  if s.excState = 0 then s1
  else
    let s2 := raise evPaFault noInst (excMuted causePaFault s1)
    if s.excState = 7 then s2
    else
      let b := s2.pins
      let s3 := paBalls b.paVdd b.paBias false true (lanesFollow 7 (s2.setF EXC_STAT_STATE 7))
      let s4 := excNext .faultBias (s3.seqTicks EXC_SEQ_BIAS_MS) s3
      { s4 with exc := { s4.exc with down := false, heldBySpll := false, faultDone := false, clearAsked := false } }

/-- PA_FAULT: PA_FAULT_N falls for ns nanoseconds, or returns high.  A low of 100 ns or more is recognised, one below
20 ns ignored; between them it is recognised where took says so (R46).  In the internal reset the ball is read and
nothing answers. -/
def execPaFault (low : Bool) (ns : Nat) (took : Bool) (s : State) : Host.Outcome State Fault Refusal :=
  .next <|
    if !low then { s with pins := { s.pins with paFaultN := true } }
    else if 100 ≤ ns || (20 ≤ ns && took) then
      if s.pwr.inReset then { s with pins := { s.pins with paFaultN := false } } else paFault s
    else s

/-- AUTOKEY: an exciter that SPLL loss has put in HELD keys itself after 1 s of unbroken lock (R471). -/
def execAutokey (t : Nat) (s : State) : Host.Outcome State Fault Refusal :=
  let s1 := s.advance t
  .next (if s1.flag EXC_CTL_AUTOKEY && s1.excState = 6 && s1.exc.heldBySpll && s1.inLock
      && decide (s1.clk.lockedAt + Config.ticksPerSecond ≤ s1.now) && s1.keyOk then excKeyUp s1 else s1)

/-! ## Lanes -/

/-- The carrier of a lane lies in its range and within 80 MHz of CENTRE (R459, R460). -/
def carrierOk (hz centre : Nat) : Bool :=
  decide (30000000 ≤ hz) && decide (hz ≤ 1600000000) && decide (centre ≤ hz + 80000000) && decide (hz ≤ centre + 80000000)

/-- KIND and NUM name a source (R464): NOTLOCKED, RESERVED_VALUE, or 0. -/
def State.laneSrcCode (s : State) (kind num : Nat) : Nat :=
  if (kind = 1 && !s.feat 8) || (kind = 3 && !s.feat 4) then codeNotLocked
  else if (kind = 1 && decide (s.hdr.progs ≤ num)) || (kind = 2 && decide (64 ≤ num)) || (kind = 3 && decide (16 ≤ num)) then codeReserved
  else 0

/-- The lane loads of R19 with lane i enabled: in a group that carries an ensemble only the first lane is enabled. -/
def State.loadOk (s : State) (i : Nat) : Bool := !s.laneDab i || i % 4 == 0

/-- A write of w to XLi_CTL (R464, R473, R474, R478); a bitstream without lanes has none to write (R29,
notes/assumptions/111.md). -/
def laneCtlWrite (i : Nat) (w : Word) (s : State) : State :=
  let a := XLi_CTL i
  let n := w.toNat
  let was := s.flag (XLi_CTL_EN i)
  let en := n.testBit 31
  let code := s.laneSrcCode (bitsOf n 29 28) (bitsOf n 24 16)
  let s1 := regPut a w s
  if s.hdr.xl ≤ i then refuseInst EXC_STAT codeReserved s
  else if was && !keepsBut (XLi_CTL_EN i) w s then refuseInst EXC_STAT codeWrongState s
  else if was && en then s
  else if was then
    let ls := s.getF (XLi_STAT_STATE i)
    if ls = 1 || ls = 2 then laneFall i ((s1.setF (XLi_STAT_STATE i) 1).setLane i { s1.lane i with down := true })
    else s1.setF (XLi_STAT_STATE i) 0
  else if code = codeNotLocked then refuseInst EXC_STAT codeNotLocked s
  else if !regOk a w || code != 0 || (en && (!s.loadOk i || !carrierOk (s.getF (XLi_FREQ_HZ i)) (s.getF EXC_CENTRE_HZ)))
    then refuseInst EXC_STAT codeReserved s
  else if en && s.exc.lic.isSome && s.laneReason i != 0 then
    refuseInst EXC_STAT codeReserved (s.setF EXC_LIC_STAT_REASON (s.laneReason i))
  else if en && (s.excState = 3 || s.excState = 4) then
    if s.laneDab i && !(s.slotLocked (s.getF (EXC_GRPg_CTL_SLOT (i / 4))) && s.flag (ENSs_STAT_FIC_OK (s.getF (EXC_GRPg_CTL_SLOT (i / 4)))))
    then laneMute i causeSource s1 else laneRise i s1
  else s1

/-- LANE_ENABLE_WRITE: a write of XLi_CTL. -/
def execLaneEnableWrite (m : Master) (i : Nat) (v : Word) (s : State) : Host.Outcome State Fault Refusal :=
  .next (if i < 8 then gated m (XLi_CTL i) v.toNat (laneCtlWrite i v) s else s)

/-- A write of w to EXC_GRPg_CTL: MODE only while the group's lanes are OFF (R19, R463, R485). -/
def grpWrite (g : Nat) (w : Word) (s : State) : State :=
  let lanes := [4 * g, 4 * g + 1, 4 * g + 2, 4 * g + 3]
  if (lanes.any fun i => s.getF (XLi_STAT_STATE i) != 0) && w.toNat.testBit 31 != s.flag (EXC_GRPg_CTL_MODE g) then refuseInst EXC_STAT codeWrongState s
  else if s.hdr.ens ≤ bitsOf w.toNat 21 16 || bitsOf w.toNat 13 0 < 1000 || 12000 < bitsOf w.toNat 13 0
      || (w.toNat.testBit 31 && lanes.any fun i => s.flag (XLi_CTL_EN i) && !s.laneDab i) then refuseInst EXC_STAT codeReserved s
  else regPut (EXC_GRPg_CTL g) w s

/-! ## Forward power -/

/-- The used coupler entries: frequency in MHz and loss in 0.01 dB (R481). -/
def State.coupler (s : State) : List (Nat × Nat) :=
  ((List.range 8).map fun j => (s.getF (EXC_CPL_MHZ j), s.getF (EXC_CPL_LOSS j))).filter fun p => p.1 != 0

/-- Loss at a frequency in hertz, in 0.01 dB: linear between the points, flat beyond them (R481). -/
def lossAt (hz : Nat) : List (Nat × Nat) → Int
  | [] => 0
  | [p] => p.2
  | p :: q :: t =>
    if hz ≤ p.1 * 1000000 then p.2
    else if hz < q.1 * 1000000 then
      (p.2 : Int) + ((q.2 : Int) - p.2) * ((hz : Int) - p.1 * 1000000) / ((q.1 - p.1) * 1000000 : Nat)
    else lossAt hz (q :: t)

/-- Forward power of lane i in 0.01 dBm from its in-band ORX power in 0.01 dBFS (R481). -/
def State.forward (s : State) (i : Nat) (orx : Int) : Int :=
  orx + 200 + 50 * s.getF EXC_ORX_ATT + lossAt (s.getF (XLi_FREQ_HZ i)) s.coupler

/-- Whether a lane's carrier has a licence entry, and its ceiling in 0.1 dBm (R475). -/
def State.ceiling (s : State) (i : Nat) : Option Int :=
  (s.licEntry (s.getF (XLi_FREQ_HZ i))).map fun e => if s.hold10 then e.maxp - 100 else e.maxp

/-- POWER_LOOP_UPDATE: the loop moves the gain of lane i by at most 0.5 dB towards its target, never above its ceiling;
orx is the lane's in-band ORX power in 0.01 dBFS (R475). -/
def execPowerLoopUpdate (i : Nat) (orx : Int) (s : State) : Host.Outcome State Fault Refusal :=
  .next <|
    if !(i < 8 && s.laneOn i && s.firmwareOn 5) then s
    else
      let p := (s.forward i orx + 5) / 10
      let s1 := (s.setI (XLi_STAT_PFWD i) (clampInt (-32768) 32767 p)).setB (XLi_STAT_HELD10 i) s.hold10
      match s.ceiling i, (s.lane i).gain with
      | some c, some g =>
        let d := clampInt (-5) 5 (min (s.getI (XLi_PWR_TGT i)) c - p)
        (s1.setLane i { s1.lane i with gain := some (g + d) }).setI (XLi_PWR_GAIN i) (g + d)
      | _, _ => s1

/-- OVERPOWER_CHECK: forward power of a 1 ms window above MAXP by more than 1.0 dB mutes the lane (R476). -/
def execOverpowerCheck (i : Nat) (orx : Int) (s : State) : Host.Outcome State Fault Refusal :=
  .next <|
    if !(i < 8 && s.laneOn i) then s
    else match s.licEntry (s.getF (XLi_FREQ_HZ i)) with
      | some e => if 10 * e.maxp + 100 < s.forward i orx then raise evLicence i (laneMute i causeOverpower s) else s
      | none => s

/-- The template's limit at an offset in hertz, in 0.01 dBc, between its points (R479). -/
def limitAt (off : Nat) : List (Nat × Int) → Option Int
  | p :: q :: t =>
    if p.1 * 1000 ≤ off && off ≤ q.1 * 1000 then
      some (100 * p.2 + 100 * (q.2 - p.2) * ((off : Int) - p.1 * 1000) / ((q.1 - p.1) * 1000 : Nat))
    else limitAt off (q :: t)
  | _ => none

/-- Distance of a frequency from a carrier. -/
def offsetOf (a b : Nat) : Nat := if a ≤ b then b - a else a - b

/-- Half the occupied band of a lane (R479). -/
def State.halfBand (s : State) (i : Nat) : Nat := if s.laneDab i then 768000 else 100000

/-- An emission at a frequency with a level in 0.01 dBc breaks the template of lane i: outside every enabled lane's
band, nearest to lane i, above the interpolated limit (R479). -/
def State.breaks (s : State) (i : Nat) (e : Nat × Int) : Bool :=
  let on := (List.range 8).filter fun j => s.flag (XLi_CTL_EN j)
  let d := fun j => offsetOf e.1 (s.getF (XLi_FREQ_HZ j))
  !on.any (fun j => decide (d j ≤ s.halfBand j)) && on.all (fun j => decide (d i ≤ d j))
    && (match (s.licEntry (s.getF (XLi_FREQ_HZ i))).bind fun x => limitAt (d i) x.pts with
        | some l => decide (l < e.2) | none => false)

/-- No ORX block of the second before now carries STALE, CLK_SUSPECT or OVR (R479). -/
def State.orxClean (s : State) : Bool := s.exc.orxBadTo = 0 || decide (s.exc.orxBadTo + Config.ticksPerSecond ≤ s.now)

/-- TEMPLATE_CHECK: a 1 s window of lane i, its emissions by frequency and level relative to the lane's in-band power
in 0.01 dBc, and whether it is valid, which takes ORX blocks of a second without STALE, CLK_SUSPECT and OVR; the third
valid window in a row above the template mutes the lane (R479). -/
def execTemplateCheck (i : Nat) (spectrum : List (Nat × Int)) (valid : Bool) (s : State) :
    Host.Outcome State Fault Refusal :=
  .next <|
    if !(i < 8 && valid && s.firmwareOn 5 && s.orxClean && s.flag EXC_CTL_DPD_EN && s.laneOn i) then s
    else
      let run := if spectrum.any (s.breaks i) then (s.lane i).tplRun + 1 else 0
      let s1 := s.setLane i { s.lane i with tplRun := if 3 ≤ run then 0 else run }
      if 3 ≤ run then raise evLicence i (laneMute i causeTemplate s1) else s1

/-! ## Pre-distortion -/

/-- The threshold of convergence in 0.1 dB (R483). -/
def State.nmseTh (s : State) : Int := -10 * (s.getF EXC_DPD_CFG_NMSE_TH : Int)

/-- The hold of R475 lifts: every driven lane ramps to its target (R483). -/
def holdLift (s : State) : State :=
  forEach (List.range 8) (fun i s =>
    if !s.laneOn i then s
    else match (s.licEntry (s.getF (XLi_FREQ_HZ i))), (s.lane i).gain with
      | some e, some g =>
        let g1 := g + (min (s.getI (XLi_PWR_TGT i)) e.maxp - s.getI (XLi_STAT_PFWD i))
        let from_ := s.driveAt i s.now * mkRat (Config.amplitude (mkRat (g - g1) 10)) (2 ^ 23)
        ((s.setLane i { s.lane i with gain := some g1, drive := ⟨s.now, from_, 1⟩ }).setI (XLi_PWR_GAIN i) g1).setF (XLi_STAT_HELD10 i) 0
      | _, _ => s.setF (XLi_STAT_HELD10 i) 0) s

/-- Coefficients by part as a sparse table. -/
def coefTable (l : List (Int × Int)) : List (Nat × Nat) :=
  (List.range l.length).foldl (fun m k =>
    let c := l.getD k (0, 0)
    sset coefIdent (2 * k + 1) (unsignedOf 24 c.2) (sset coefIdent (2 * k) (unsignedOf 24 c.1) m)) []

/-- A condition of R484 holds; the ORX blocks carry STALE, CLK_SUSPECT or OVR where the last one did or orxBad says so. -/
def State.dpdStops (s : State) (orxBad : Bool) : Bool :=
  !s.pins.paRf || !s.couplerOk || !s.flag CLK_STAT_LOCK || orxBad || s.exc.orxBad || s.flag EXC_CTL_DPD_FREEZE

/-- DPD_SUSPEND: a suspending condition holds (R484). -/
def execDpdSuspend (orxBad : Bool) (s : State) : Host.Outcome State Fault Refusal :=
  .next (if s.flag EXC_CTL_DPD_EN && !s.exc.dpd.suspended && s.dpdStops orxBad then
    raise evDpdSuspend noInst (dpdShow { s with exc := { s.exc with dpd := { s.exc.dpd with suspended := true } } })
  else s)

/-- DPD_UPDATE: an update with its error in 0.1 dB and its coefficients in Q4.20 takes effect; three in a row at or
below the threshold converge, three more than 6 dB above it restore the last converged model (R483). -/
def dpdUpdate (nmse : Int) (coefs : List (Int × Int)) (s : State) : State :=
  let d := s.exc.dpd
  let good := if nmse ≤ s.nmseTh then d.good + 1 else 0
  let bad := if s.nmseTh + 60 < nmse then d.bad + 1 else 0
  let tab := coefTable coefs
  let s1 := s.setI EXC_DPD_STAT_NMSE (clampInt (-32768) 32767 nmse)
  if 3 ≤ bad then
    dpdShow (({ s1 with exc := { s1.exc with dpd := { d with coefs := d.saved.getD [], good := 0, bad := 0, updated := d.saved.isSome,
                                                             suspended := false } } }).bump EXC_DPD_STAT_REVERT)
  else
    let conv := 3 ≤ good
    let s2 := dpdShow { s1 with exc := { s1.exc with dpd :=
      { coefs := tab, saved := if conv then some tab else d.saved, good := good, bad := bad,
        converged := d.converged || conv, updated := true, suspended := false } } }
    if conv && !d.converged then holdLift (raise evDpdConv noInst s2) else s2

/-- DPD_UPDATE, where adaptation runs. -/
def execDpdUpdate (nmse : Int) (coefs : List (Int × Int)) (s : State) : Host.Outcome State Fault Refusal :=
  .next (if s.flag EXC_CTL_DPD_EN && s.firmwareOn 5 && !s.dpdStops false then dpdUpdate nmse coefs s else s)

/-- The coupler entries are contiguous from j = 0 and ascend (R481). -/
def ascending : List Nat → Bool
  | a :: b :: t => decide (a < b) && ascending (b :: t)
  | _ => true

/-- EXC_CPL_CMD.COMMIT (R481). -/
def couplerCommit (s : State) : State :=
  let l := (List.range 8).map fun j => s.getF (EXC_CPL_MHZ j)
  let used := l.filter (· != 0)
  if l.take used.length == used && ascending used then s.setF EXC_CPL_STAT_VALID 1
  else refuseInst EXC_STAT codeReserved s

/-- COUPLER_COMMIT. -/
def execCouplerCommit (m : Master) (s : State) : Host.Outcome State Fault Refusal := .next (gated m EXC_CPL_CMD 1 couplerCommit s)

/-! ## Content -/

/-- Ticks between RDS groups: 87.6 ms (R462). -/
def rdsPeriod : Nat := 344457216

/-- EXC_RDS_GROUP_SEND: at t, a group period after the last one began, lane i sends the next group that waits, or the
last one again (R462). -/
def execExcRdsGroupSend (i t : Nat) (s0 : State) : Host.Outcome State Fault Refusal :=
  let s := s0.advance t
  let v := s.lane i
  .next <|
    if !(i < 8 && s.laneOn i && s.flag (XLi_RDS_EN i) && (v.rdsLast.isNone || decide (v.rdsAt + rdsPeriod ≤ t))) then s
    else match v.rdsq with
      | g :: l => s.setLane i { v with rdsq := l, rdsLast := some g, rdsAt := t }
      | [] => s.setLane i { v with rdsAt := t }

/-- The FIBs of the frame of null-symbol start ts, as slot n received them, CRC included (R463). -/
def State.slotFic (s : State) (n ts : Nat) : List (List Nat) :=
  match (s.slot n).fic with
  | some f => if f.1 = ts then f.2 else []
  | none => []

/-- The sub-channels of the organisation in force on slot n, each with its decoded logical frames (R463). -/
def State.slotSubs (s : State) (n : Nat) (msc : List (Nat × List (List Nat))) : List (SubCh × List (List Nat)) :=
  ((s.slot n).org.getD []).map fun c => (c, ((msc.find? fun x => x.1 == c.id).map (·.2)).getD [])

/-- EXC_DAB_FRAME: the slot of group g has received the transmission frame of null-symbol start ts, whose sub-channels
decode to these logical frames: the group sends its frame DLY_MS later, or, where the slot is not LOCKED with FIC_OK,
nothing with cause SOURCE (R463). -/
def execExcDabFrame (g ts : Nat) (msc : List (Nat × List (List Nat))) (s : State) : Host.Outcome State Fault Refusal :=
  let i := 4 * g
  let slot := s.getF (EXC_GRPg_CTL_SLOT g)
  let ok := s.slotLocked slot && s.flag (ENSs_STAT_FIC_OK slot)
  .next <|
    if !(g < 2 && s.flag (EXC_GRPg_CTL_MODE g) && s.flag (XLi_CTL_EN i)) then s
    else if !ok then (if s.laneOn i then laneMute i causeSource s else s)
    else
      let s1 := if s.getF (XLi_STAT_STATE i) = 3 && s.getF (XLi_STAT_MCAUSE i) = causeSource then laneUnmute i s else s
      let send := ts + s.getF (EXC_GRPg_CTL_DLY_MS g) * Config.ticksPerMs
      if s1.laneOn i then
        let s2 := excSettle send s1
        s2.setLane i { s2.lane i with dab := some ⟨send, s2.slotFic slot ts, s2.slotSubs slot msc⟩ }
      else s1

/-- Release of the content block of timestamp ts at lane i (R464). -/
def State.contentRelease (s : State) (i ts : Nat) : Nat :=
  let kind := s.getF (XLi_CTL_KIND i)
  let num := s.getF (XLi_CTL_NUM i)
  if kind = 1 then ts + s.pgDelay num
  else if kind = 2 then ts + (s.getF (SAPk_CTL_TARGET (num / 8)) + 64) * 81920
  else if kind = 3 then ts + (s.getF (NET_RXr_CTL_OFFSET num) + 64) * 81920
  else ts

/-- The samples lane i sends for a content block, if present, and after a gap (R314, R465). -/
def Lane.contentOut (v : Lane) (b : Option Block) : List (Int × Int) :=
  match b with
  | none => (List.range 64).map fun (j : Nat) => (roundEven (v.lastL * (63 - j)) 64, roundEven (v.lastR * (63 - j)) 64)
  | some x => if v.gap then (stereo x.samples).zipIdx.map fun p => (roundEven (p.1.1 * p.2) 64, roundEven (p.1.2 * p.2) 64)
    else stereo x.samples

/-- EXC_CONTENT_SEND: FM lane i sends the content block of timestamp ts, the gap of one not present at its sending
instant, or silence (R461, R464, R465); the composite up to then has been sent (R460). -/
def execExcContentSend (i ts : Nat) (s0 : State) : Host.Outcome State Fault Refusal :=
  let send := s0.contentRelease i ts + s0.getF (XLi_CDLY_MS i) * Config.ticksPerMs + 4718592
  let s := s0.advance send
  .next <|
    if !(i < 8 && s.laneOn i && !s.laneDab i) then s0
    else
      let v := s.lane i
      let silent := s.getF (XLi_CTL_KIND i) = 0
      let b := if s.abandoned 5 i (s.contentRelease i ts) then none
        else (v.content.find? fun x => x.ts == ts).map (s.taken 5 i)
      let out := if silent then List.replicate 64 (0, 0) else v.contentOut b
      let last := out.getLastD (0, 0)
      let s1 := s.setLane i { v with sent := some (send, out.flatMap fun p => [p.1, p.2]), gap := !silent && b.isNone,
                                     content := v.content.filter fun x => decide (ts < x.ts), lastL := last.1, lastR := last.2 }
      let s2 := excSettle send (fmSend i send out s1)
      if silent || b.isSome then s2 else s2.bump (XLi_CNT_MISSING i)

/-- A spare remap of a pod that carries lane i (R472). -/
def excRemap (i : Nat) (s : State) : State := raise evExcRemap i (s.bump EXC_CNT_REMAP)

/-! ## Registers -/

/-- A write of EXC_CTL: MODEL and DPD_EN in OFF only; MODEL = 1 needs bit 23; a change of MODEL resets the model
(R482, R484). -/
def excCtlWrite (w : Word) (s : State) : State :=
  let n := w.toNat
  let moved := n.testBit 28 != s.flag EXC_CTL_MODEL
  if (moved || n.testBit 30 != s.flag EXC_CTL_DPD_EN) && s.excState != 0 then refuseInst EXC_STAT codeWrongState s
  else if n.testBit 28 && !s.feat 23 then refuseInst EXC_STAT codeNotLocked s
  else if moved then dpdIdentity (regPut EXC_CTL w s) else regPut EXC_CTL w s

/-- A write of EXC_CENTRE (R459, R484). -/
def centreWrite (w : Word) (s : State) : State :=
  let hz := w.toNat
  if s.excState != 0 && hz != s.getF EXC_CENTRE_HZ then refuseInst EXC_STAT codeWrongState s
  else if hz < 40000000 || 1500000000 < hz || (List.range 8).any fun i => s.flag (XLi_CTL_EN i) && !carrierOk (s.getF (XLi_FREQ_HZ i)) hz
    then refuseInst EXC_STAT codeReserved s
  else if hz = s.getF EXC_CENTRE_HZ then s
  else dpdIdentity (regPut EXC_CENTRE w s)

/-- A write of a lane register other than XLi_CTL (R474): XLi_PWR at any time, the others while EN is 0. -/
def laneRegWrite (i : Nat) (a : Nat) (w : Word) (s : State) : State :=
  if a = XLi_PWR i then regPut a w s
  else if s.flag (XLi_CTL_EN i) && !keeps a w s then refuseInst EXC_STAT codeWrongState s
  else if keeps a w s then s
  else if a = XLi_FREQ i && (w.toNat < 30000000 || 1600000000 < w.toNat) then refuseInst EXC_STAT codeReserved s
  else if a = XLi_RDS i && s.hdr.paths ≤ bitsOf w.toNat 8 0 then refuseInst EXC_STAT codeReserved s
  else if a = XLi_RDS i then
    (if regOk a w then (regPut a w s).setLane i { s.lane i with rdsq := [], rdsLast := none } else refuseInst EXC_STAT codeReserved s)
  else plainWrite a w s

/-- A write of an EXC register (R459 to R485). -/
def excRegWrite (a : Nat) (w : Word) (s : State) : State :=
  if a = EXC_CTL then excCtlWrite w s
  else if a = EXC_CMD then excCmdWrite w.toNat s
  else if a = EXC_SEQ && s.excState != 0 && !keeps a w s then refuseInst EXC_STAT codeWrongState s
  else if a = EXC_CENTRE then centreWrite w s
  else if a = EXC_DPD_CSEL then
    if (if s.flag EXC_CTL_MODEL then 287 else 155) ≤ bitsOf w.toNat 8 0 then refuseInst EXC_STAT codeReserved s
    else dpdShow (regPut a w s)
  else if a = EXC_ORX && s.excState != 0 && s.excState != 6 && !keeps a w s then refuseInst EXC_STAT codeWrongState s
  else if a = EXC_ORX then
    let s1 := plainWrite a w s
    if s1.getF EXC_ORX_ATT = s.getF EXC_ORX_ATT then s1 else gainSet 2 s1.now ⟨false, s1.getF EXC_ORX_ATT⟩ s1
  else if EXC_CPL 0 ≤ a && a < EXC_CPL 8 then
    if regOk a w then (regPut a w s).setF EXC_CPL_STAT_VALID 0 else refuseInst EXC_STAT codeReserved s
  else if a = EXC_CPL_CMD then (if w.toNat.testBit 0 then couplerCommit s else s)
  else if a = EXC_GRPg_CTL 0 then grpWrite 0 w s
  else if a = EXC_GRPg_CTL 1 then grpWrite 1 w s
  else if XLi_CTL 0 ≤ a && a < XLi_CTL 8 then
    let i := (a - XLi_CTL 0) / 0x40
    if a = XLi_CTL i then laneCtlWrite i w s
    else if s.hdr.xl ≤ i then refuseInst EXC_STAT codeReserved s
    else laneRegWrite i a w s
  else plainWrite a w s

end Sys2Proof.Machine
end

