-- ==== Sys2Proof/Machine/Sec.lean ====
section
/-! DEFINITION. Signatures, the NV store, tokens, the licence record and attestation (spec/21 R533 to R554, spec/18
R477).  The verdicts of SHA-256 and HSS are the commands' operands; everything else is computed here. -/

namespace Sys2Proof.Machine

/-! ## Signature blocks -/

/-- The types of an HSS public key are those of R533: L = 2, LMS_SHA256_M32_H15, LMOTS_SHA256_N32_W4, by their codes in
RFC 8554 (notes/assumptions/146.md). -/
def keyTypes (l : List Byte) : Bool := l.take 12 == [0, 0, 0, 2, 0, 0, 0, 7, 0, 0, 0, 3]

/-- Length of a signature block (R536). -/
def sigLen : Nat := 5480

/-- The signature block at offset o of an object, with the outcome of its computations (R536, R537). -/
def sigOf (l : List Byte) (o : Nat) (v : SigVerdict) : SigBlock :=
  { formatOk := leAt l o 4 = 0x5349474E && leAt l (o + 4) 1 = 1 && leAt l (o + 6) 2 = 0 && leAt l (o + 8) 4 = 5396
      && leAt l (o + 12) 4 = 0 && leAt l (o + 76) 4 = 0 && leAt l (o + 5476) 4 = 0
    keySel := leAt l (o + 5) 1, pubKey := leAt l (o + 16) 60
    typesOk := keyTypes (l.drop (o + 16)), pubHash := v.pubHash, verifies := v.verifies }

/-! ## NV store -/

/-- What an unlisted NV record holds: nothing in either area. -/
def nvNone (_ : Nat) : NvRec := {}

/-- The NV record of an ID. -/
def State.nvRec (s : State) (id : Nat) : NvRec := sget nvNone s.sec.nv id

/-- Area B holds the newer valid generation (R528, R547). -/
def NvRec.useB (r : NvRec) : Bool := r.b.valid && (!r.a.valid || newerGen r.b.gen r.a.gen)

/-- The payload of the newer valid generation. -/
def NvRec.data (r : NvRec) : Option (List Byte) :=
  if r.useB then some r.b.data else if r.a.valid then some r.a.data else none

/-- Write a payload to the area without the newer valid generation (R547).  A write that fails its read-back leaves that
area invalid and the other untouched; the generation of a first write is 1. -/
def nvPut (id : Nat) (data : List Byte) (ok : Bool) (s : State) : State :=
  let r := s.nvRec id
  let gen := if r.useB then (r.b.gen + 1) % 2 ^ 32 else if r.a.valid then (r.a.gen + 1) % 2 ^ 32 else 1
  let area : NvArea := if ok then ⟨true, true, gen, data⟩ else { written := true }
  let r1 := if r.a.valid && !r.useB then { r with b := area } else { r with a := area }
  let s1 := { s with sec := { s.sec with nv := sset nvNone id r1 s.sec.nv } }
  if ok then s1.bump SEC_NV_WRITES else s1

/-- The payload of a record, raising NV_ERR where an area that was written is not valid (R548). -/
def nvRead (id : Nat) (s : State) : Option (List Byte) × State :=
  let r := s.nvRec id
  let bad := (r.a.written && !r.a.valid) || (r.b.written && !r.b.valid)
  (r.data, if bad then raise evNvErr id (s.bump SEC_NV_ERRS) else s)

/-- IDs of the store (R546). -/
def idLicence : Nat := 0x01
def idLkey : Nat := 0x02
def idSlot (k : Nat) : Nat := 0x10 + k
def idLeaf : Nat := 0x20

/-- An ID of R546. -/
def nvId (id : Nat) : Bool := (1 ≤ id && id ≤ 3) || (0x10 ≤ id && id ≤ 0x13) || id = 0x20 || (0x40 ≤ id && id ≤ 0x4F)

/-! ## Keys -/

/-- State of customer slot k (R534, R543): 0 EMPTY, 1 ENROLLED, 2 REVOKED. -/
def State.slotKey (s : State) (k : Nat) : Nat :=
  if s.sec.otp.revoke.testBit k then 2
  else match (s.nvRec (idSlot k)).data with | some (_ :: _) => 1 | _ => 0

/-- The operator licence key, if one is present. -/
def State.lkey (s : State) : Option Nat :=
  match (s.nvRec idLkey).data with | some (b :: t) => some (leAt (b :: t) 0 60) | _ => none

/-- The key check of R537 for the images and tokens of keys 0 to 4. -/
def State.keyGood (s : State) (g : SigBlock) : Bool :=
  g.typesOk &&
    (if g.keySel = 0 then s.sec.otp.fcrcOk && g.pubHash == s.sec.otp.rootHash
     else if g.keySel ≤ 4 then
       s.slotKey (g.keySel - 1) = 1 && (match (s.nvRec (idSlot (g.keySel - 1))).data with | some d => leAt d 0 60 == g.pubKey | none => false)
     else false)

/-- SEC_SLOT and SEC_TSEQ show the slots, the operator key and its sequence (R554). -/
def secShow (s : State) : State :=
  let sl := (List.range 4).foldl (fun n k => n + s.slotKey k * 4 ^ k) 0
  let s1 := (s.setF SEC_SLOT_STATE sl).setB SEC_SLOT_LKEY s.lkey.isSome
  s1.setF SEC_TSEQ_TSEQ (match (s.nvRec idLkey).data with | some d => leAt d 60 4 | none => 0)

/-! ## The licence record -/

/-- An entry of the licence record that keeps R477, from its 48 bytes. -/
def licEntryOf (l : List Byte) : Option LicEntry :=
  let kind := leAt l 4 1
  let npt := leAt l 10 1
  let pts := (List.range npt).map fun k => (leAt l (12 + 4 * k) 2, signedOf 8 (leAt l (14 + 4 * k) 1))
  let rise := (List.range (npt - 1)).all fun k => leAt l (12 + 4 * k) 2 < leAt l (16 + 4 * k) 2
  let zeros := (List.range npt).all fun k => leAt l (15 + 4 * k) 1 = 0
  let low := pts.all fun p => (if kind = 1 then 100 else 768) ≤ p.1
  if (kind = 1 || kind = 2) && leAt l 5 1 = 0 && npt ≤ 8 && leAt l 11 1 = 0 && leAt l 44 4 = 0
      && (kind = 1 || leAt l 8 2 = 0) && rise && zeros && low
  then some ⟨leAt l 0 4, kind, signedOf 16 (leAt l 6 2), leAt l 8 2, pts⟩ else none

/-- No two entries share a carrier. -/
def licApart : List LicEntry → Bool
  | [] => true
  | e :: t => t.all (fun f => f.hz != e.hz) && licApart t

/-- The verdict of R477 on a payload: REASON 5 or 6 for an INVALID record, or the licence. -/
def State.licJudge (s : State) (l : List Byte) : Nat × Licence :=
  let n := leAt l 5 1
  let es := (List.range n).filterMap fun e => licEntryOf ((l.drop (32 + 48 * e)).take 48)
  let lic : Licence := ⟨leAt l 8 4, es, (l.drop (leAt l 20 2)).take (leAt l 22 2)⟩
  if leAt l 0 4 != 0x4C494345 || leAt l 4 1 != 1 || 8 < n || leAt l 6 2 != 0 || l.length < 32 + 48 * n then (5, lic)
  else if leAt l 12 8 != s.sec.otp.devId then (6, lic)
  else if leAt l 24 8 != 0 || es.length != n || !licApart es || (leAt l 22 2 = 0 && leAt l 20 2 != 0) then (5, lic)
  else (0, lic)

/-- Take a licence record as the record in force (R477, R478, R506): VALID or INVALID, with its service-link section. -/
def licTake (l : List Byte) (s : State) : State :=
  let r := s.licJudge l
  let s1 := (s.setF EXC_LIC_SEQ_RECSEQ (leAt l 8 4)).setF EXC_LIC_STAT_REASON r.1
  let slOff := leAt l 20 2
  let slLen := leAt l 22 2
  let bands := if r.1 = 0 && slOff + slLen ≤ l.length then slSection r.2.sl else none
  let sl := fun (s : State) =>
    if slLen = 0 then slLicence 0 [] s else match bands with | some bs => slLicence 2 bs s | none => slLicence 1 [] s
  if r.1 = 0 then
    let s2 := (s1.setF EXC_LIC_STAT_STATE 2).setF EXC_LIC_STAT_NENT r.2.entries.length
    sl (licRecheck { s2 with exc := { s2.exc with lic := some r.2 } })
  else sl (licLost ((s1.setF EXC_LIC_STAT_STATE 1).setF EXC_LIC_STAT_NENT 0))

/-- No record is in force: ABSENT, and the mute paths act (R545). -/
def licAbsent (s : State) : State :=
  slLicence 0 [] (licLost (((s.setF EXC_LIC_STAT_STATE 0).setF EXC_LIC_STAT_NENT 0).setF EXC_LIC_SEQ_RECSEQ 0))

/-- The payload of a licence object: what stands before its signature block. -/
def licPayload (d : List Byte) : List Byte := d.take (d.length - sigLen)

/-- The public key of a licence object's signature block. -/
def licPubKey (d : List Byte) : Nat := leAt d (d.length - sigLen + 16) 60

/-- The record in force is verified again under the current operator key (R545). -/
def licVerify (s : State) : State :=
  let r := nvRead idLicence s
  match r.1 with
  | none => licAbsent r.2
  | some d =>
    if r.2.sec.licSig && r.2.lkey == some (licPubKey d) then licTake (licPayload d) r.2
    else raise evSigFail 5 (licAbsent r.2)

/-- What the security block shows when the internal reset ends: the fuses, the keys, the leaf and the licence (R535,
R545, R554). -/
def secBoot (s : State) : State :=
  let o := s.sec.otp
  let s1 := (s.setB SEC_STAT_OTP_OK o.fcrcOk).set64 SEC_DEVID_LO SEC_DEVID_HI o.devId
  let s2 := (s1.setF SEC_SV_FW_MIN o.fwMin).setF SEC_SV_BS_MIN o.bsMin
  let s3 := ((s2.setF (NET_PORTm_MACL_MAC 0) o.mac0).setF (NET_PORTm_MACH_MAC 0) (o.mac0 / 2 ^ 32)).setF (NET_PORTm_MACL_MAC 1) o.mac1
  let s4 := s3.setF (NET_PORTm_MACH_MAC 1) (o.mac1 / 2 ^ 32)
  let s5 := forEach (List.range 4) (fun k s =>
    if s.slotKey k = 2 && (match (s.nvRec (idSlot k)).data with | some (_ :: _) => true | _ => false) then nvPut (idSlot k) [] true s else s) s4
  let leaf := match (s5.nvRec idLeaf).data with | some d => leAt d 0 4 | none => 0
  licVerify (secShow (s5.setF SEC_LEAF_NEXT leaf))

/-! ## Commands -/

/-- The record buffer's first n bytes (R552). -/
def State.recBuf (s : State) (n : Nat) : List Byte := s.winBytes 0xC0000 n

/-- A command of SEC_CMD completes with a result (R553). -/
def secDone (op res : Nat) (s : State) : State :=
  ((s.setF SEC_RES_LASTOP op).setF SEC_RES_RESULT res).setF SEC_RES_BUSY 0

/-- A command that involves a signature completes; a failure of FORMAT to NVFAIL raises SIG_FAIL with the key number
(R553). -/
def secSigDone (op res key : Nat) (s : State) : State :=
  let s1 := secDone op res s
  if 2 ≤ res && res ≤ 9 then raise evSigFail key s1 else s1

/-- Raise the fuses of a minimum at offset a of OTP to v (R541). -/
def otpRaise (a v : Nat) (s : State) : State :=
  { s with sec := { s.sec with otp := s.sec.otp.put a (bytesOf 8 (blowTo v (natOf (s.sec.otp.list a 8)))) } }

/-- ROLL_FW and ROLL_BS (R541). -/
def secRoll (fw : Bool) (s : State) : State :=
  if fw then
    let s1 := otpRaise 52 (s.getF SEC_SV_FW_SV) s
    secDone 1 1 (s1.setF SEC_SV_FW_MIN s1.sec.otp.fwMin)
  else
    let s1 := otpRaise 60 (s.getF SEC_SV_BS_SV) s
    secDone 2 1 (s1.setF SEC_SV_BS_MIN s1.sec.otp.bsMin)

/-- The first failure of a token (R542, R543), as a RESULT code; 1 where it passes. -/
def State.tokenResult (s : State) (l : List Byte) (g : SigBlock) : Nat :=
  let act := leAt l 5 1
  let slot := leAt l 6 1
  let tseq := match (s.nvRec idLkey).data with | some d => leAt d 60 4 | none => 0
  let body := leAt l 0 4 = 0x544B454E && leAt l 4 1 = 1 && 1 ≤ act && act ≤ 3 && (if act = 3 then slot = 0 else slot ≤ 3)
    && leAt l 7 1 = 0 && (act = 3 || leAt l 16 4 = 0) && leAt l 20 4 = 0 && (act != 2 || leAt l 24 60 = 0) && leAt l 84 4 = 0
  if l.length != 88 + sigLen || !g.formatOk || !body then 2
  else if !s.keyGood g || (act != 3 && g.keySel != 0) then 3
  else if !g.verifies then 4
  else if leAt l 8 8 != s.sec.otp.devId then 6
  else if act = 3 && leAt l 16 4 ≤ tseq then 5
  else if act = 1 && s.slotKey slot != 0 then 7
  else 1

/-- What an accepted token does (R543, R545). -/
def tokenAct (l : List Byte) (nvOk : Bool) (s : State) : State :=
  let act := leAt l 5 1
  let slot := leAt l 6 1
  let key := (l.drop 24).take 60
  if act = 1 then nvPut (idSlot slot) key nvOk s
  else if act = 2 then
    let s1 := { s with sec := { s.sec with otp := s.sec.otp.put 68 [sget otpNone s.sec.otp.bytes 68 ||| BitVec.ofNat 8 (2 ^ slot)] } }
    nvPut (idSlot slot) [] nvOk s1
  else
    let s1 := nvPut idLkey (key ++ (l.drop 16).take 4) nvOk s
    if nvOk then licVerify s1 else s1

/-- TOKEN (R542, R543). -/
def secTokenRun (v : SigVerdict) (nvOk : Bool) (s : State) : State :=
  let l := s.recBuf (s.getF SEC_NVLEN_LEN)
  let g := sigOf l 88 v
  let act := leAt l 5 1
  if (act = 1 || act = 2) && !s.feat 21 then refuse SEC_REFUSE codeNotLocked s
  else
    let r := s.tokenResult l g
    if r != 1 then secSigDone 3 r g.keySel s
    else secSigDone 3 (if nvOk then 1 else 9) g.keySel (secShow (tokenAct l nvOk s))

/-- The first failure of a licence object (R544), as a RESULT code; 1 where it passes. -/
def State.licResult (s : State) (l : List Byte) (g : SigBlock) : Nat :=
  if l.length < sigLen || (l.length - sigLen) % 8 != 0 || 8160 < l.length || !g.formatOk then 2
  else if g.keySel != 5 || !g.typesOk || s.lkey != some g.pubKey then 3
  else if !g.verifies then 4
  else if s.getF EXC_LIC_STAT_STATE != 0 && leAt l 8 4 ≤ s.getF EXC_LIC_SEQ_RECSEQ then 5
  else 1

/-- NV_WRITE (R544, R546, R553). -/
def secNvWriteRun (id : Nat) (v : SigVerdict) (nvOk : Bool) (s : State) : State :=
  let l := s.recBuf (s.getF SEC_NVLEN_LEN)
  if id = idLicence then
    let g := sigOf l (l.length - sigLen) v
    let r := s.licResult l g
    if r != 1 then secSigDone 4 r g.keySel s
    else
      let s1 := nvPut idLicence l nvOk s
      if nvOk then secSigDone 4 1 5 (licTake (licPayload l) { s1 with sec := { s1.sec with licSig := true } })
      else secSigDone 4 9 5 s1
  else if 0x40 ≤ id && id ≤ 0x4F then
    if 4064 < l.length then secDone 4 2 s else secDone 4 (if nvOk then 1 else 9) (nvPut id l nvOk s)
  else refuse SEC_REFUSE codeReserved s

/-- NV_READ (R553). -/
def secNvReadRun (id : Nat) (s : State) : State :=
  if !nvId id then refuse SEC_REFUSE codeReserved s
  else
    let r := nvRead id s
    match r.1 with
    | some d => secDone 5 1 ((winPut 0xC0000 d r.2).setF SEC_NVLEN_LEN d.length)
    | none => secDone 5 10 r.2

/-- Bytes 0 to 255 of an attestation report (R551). -/
def State.report (s : State) (leaf : Nat) : List Byte :=
  let fw := match s.boot.fw with | some f => f.hash | none => 0
  let big := fun (n : Nat) => (bytesOf 32 n).reverse
  fit 256 (bytesOf 4 0x41545354 ++ [1, BitVec.ofNat 8 Config.step]
    ++ bytesOf 1 (s.getF SEC_STAT_FW_KEY) ++ bytesOf 1 (s.getF SEC_STAT_BS_KEY)
    ++ bytesOf 8 s.sec.otp.devId ++ bytesOf 8 s.now ++ s.winBytes 0xD0018 32 ++ big fw ++ big s.hdr.hash
    ++ bytesOf 1 (s.getF SEC_SV_FW_SV) ++ bytesOf 1 (s.getF SEC_SV_BS_SV) ++ bytesOf 1 s.sec.otp.fwMin ++ bytesOf 1 s.sec.otp.bsMin
    ++ ((List.range 4).map fun k => bytesOf 4 (s.rd (FEAT_ACTIVE k)).toNat).flatten
    ++ bytesOf 4 (if s.getF EXC_LIC_STAT_STATE = 0 then 0 else s.getF EXC_LIC_SEQ_RECSEQ)
    ++ bytesOf 1 (s.getF EXC_LIC_STAT_STATE) ++ bytesOf 1 (s.getF SEC_SLOT_STATE) ++ [0, 0] ++ bytesOf 4 leaf)

/-- ATTEST (R550, R551): LEAF is committed before the report is signed. -/
def secAttestRun (sig : List Byte) (nvOk : Bool) (s : State) : State :=
  let leaf := s.getF SEC_LEAF_NEXT
  if !s.feat 19 then refuse SEC_REFUSE codeNotLocked s
  else if 2 ^ 30 ≤ leaf then secDone 6 8 (s.bump SEC_ATT_LIMITED)
  else if s.getF SEC_ATT_TOKENS = 0 then raise evAttestLimit noInst (secDone 6 8 (s.bump SEC_ATT_LIMITED))
  else
    let s1 := nvPut idLeaf (bytesOf 4 (leaf + 1)) nvOk (s.setF SEC_ATT_TOKENS (s.getF SEC_ATT_TOKENS - 1))
    if nvOk then secDone 6 1 (winPut 0xD0000 (s.report leaf ++ fit 7640 sig) (s1.setF SEC_LEAF_NEXT (leaf + 1)))
    else secDone 6 9 s1

/-- A write of SEC_CMD (R553). -/
def secCommand (op id : Nat) (v : SigVerdict) (sig : List Byte) (nvOk : Bool) (s : State) : State :=
  if op = 0 || 7 ≤ op then refuse SEC_REFUSE codeReserved s
  else if s.flag SEC_RES_BUSY then refuse SEC_REFUSE codeBusy s
  else if op = 1 then secRoll true s
  else if op = 2 then secRoll false s
  else if op = 3 then secTokenRun v nvOk s
  else if op = 4 then secNvWriteRun id v nvOk s
  else if op = 5 then secNvReadRun id s
  else secAttestRun sig nvOk s

/-- The outcome where none are needed. -/
def noVerdict : SigVerdict := ⟨0, false⟩

/-- ROLL_FW. -/
def execSecRollFw (m : Master) (s : State) : Host.Outcome State Fault Refusal :=
  .next (gated m SEC_CMD 0x10000000 (secCommand 1 0 noVerdict [] true) s)

/-- ROLL_BS. -/
def execSecRollBs (m : Master) (s : State) : Host.Outcome State Fault Refusal :=
  .next (gated m SEC_CMD 0x20000000 (secCommand 2 0 noVerdict [] true) s)

/-- TOKEN. -/
def execSecToken (m : Master) (v : SigVerdict) (nvOk : Bool) (s : State) : Host.Outcome State Fault Refusal :=
  .next (gated m SEC_CMD 0x30000000 (secCommand 3 0 v [] nvOk) s)

/-- NV_WRITE. -/
def execSecNvWrite (m : Master) (id : Nat) (v : SigVerdict) (nvOk : Bool) (s : State) : Host.Outcome State Fault Refusal :=
  .next (gated m SEC_CMD (0x40000000 + id % 256) (secCommand 4 (id % 256) v [] nvOk) s)

/-- NV_READ. -/
def execSecNvRead (m : Master) (id : Nat) (s : State) : Host.Outcome State Fault Refusal :=
  .next (gated m SEC_CMD (0x50000000 + id % 256) (secCommand 5 (id % 256) noVerdict [] true) s)

/-- ATTEST. -/
def execSecAttest (m : Master) (sig : List Byte) (nvOk : Bool) (s : State) : Host.Outcome State Fault Refusal :=
  .next (gated m SEC_CMD 0x60000000 (secCommand 6 0 noVerdict sig nvOk) s)

/-- ATTEST_TOKEN_REFILL: at t, 2 s after the last one, the bucket gains a token (R551). -/
def execAttestTokenRefill (t : Nat) (s : State) : Host.Outcome State Fault Refusal :=
  .next <|
    if t < s.sec.refillAt + 2 * Config.ticksPerSecond then s
    else
      let s1 := (s.advance t).setF SEC_ATT_TOKENS (min 16 (s.getF SEC_ATT_TOKENS + 1))
      { s1 with sec := { s1.sec with refillAt := s.sec.refillAt + 2 * Config.ticksPerSecond } }

/-- A write of a SEC register (R554).  The verdicts on an object, the identity signature and the success of an NV write
are free values where SEC_CMD comes as a plain register write (notes/assumptions/5.md). -/
def secRegWrite (a : Nat) (w : Word) (s : State) : State :=
  if a = SEC_CMD then
    let f := s.free
    secCommand (bitsOf w.toNat 31 28) (bitsOf w.toNat 7 0) ⟨f.1 / 4 % 2 ^ 256, f.1.testBit 0⟩
      (bytesOf 7640 (f.1 / 2 ^ 258)) (f.1.testBit 1) f.2
  else plainWrite a w s

/-- A 32-bit write into the record and report buffers (R552). -/
def secWinWrite (a : Nat) (w : Word) (s : State) : State :=
  if 0xC0000 ≤ a && a < 0xD4000 then
    (if s.flag SEC_RES_BUSY then refuse SEC_REFUSE codeBusy s else winPut a (bytesOf 4 w.toNat) s)
  else s

end Sys2Proof.Machine
end

