-- ==== Sys2Proof/Machine/Image.lean ====
section
/-! DEFINITION. Image files as bytes: the bitstream file with its frames and pea records (spec/06 R158 to R161), the
firmware image (spec/21 R538), what a family may provide (spec/00 R3, R4, spec/01 R29), and where the files lie in
Marrow (spec/03 R70, R74, spec/06 R163, R164). -/

namespace Sys2Proof.Machine

/-! ## Cutting a file -/

/-- n frames off the front of a list of bytes, and what follows them (R159). -/
def cutFrames : Nat → List Byte → List FrameRec × List Byte
  | 0, l => ([], l)
  | n + 1, l =>
    let k := leAt l 4 4
    let r := cutFrames n ((l.drop 16).drop k)
    (⟨l.take 16, (l.drop 16).take k⟩ :: r.1, r.2)

/-- A bitstream file from its bytes: FRAMES of the header says how many frames there are (R158). -/
def cutFile (l : List Byte) : BsFile :=
  let r := cutFrames (leAt l 24 4) (l.drop 256)
  ⟨l.take 256, r.1, r.2⟩

/-- The bytes of a frame. -/
def frameBytes (f : FrameRec) : List Byte := f.head ++ f.payload

/-- The bytes of a file. -/
def fileBytes (f : BsFile) : List Byte := f.head ++ (f.frames.flatMap frameBytes ++ f.sig)

/-! ## Frames -/

/-- The fields of a frame header (R159). -/
def frameType (f : FrameRec) : Nat := leAt f.head 0 1
def frameLpod (f : FrameRec) : Nat := leAt f.head 2 2

/-- The CRC-32 of a frame's payload is its PCRC. -/
def crcHolds (f : FrameRec) : Bool := crc32 f.payload == leAt f.head 12 4

/-- Frame number k keeps R159. -/
def frameForm (k : Nat) (f : FrameRec) : Bool :=
  f.head.length == 16 && leAt f.head 1 1 == 0 && leAt f.head 4 4 == f.payload.length && f.payload.length % 8 == 0
    && leAt f.head 8 4 == k && crcHolds f

/-- Consecutive frames from number k on keep R159. -/
def framesForm : Nat → List FrameRec → Bool
  | _, [] => true
  | k, f :: t => frameForm k f && framesForm (k + 1) t

/-- The OP of every pea record, bits 63 to 58 of its eight bytes, is one that R161 gives. -/
def opsOk : List Byte → Bool
  | _ :: _ :: _ :: _ :: _ :: _ :: _ :: b :: t => decide (b.toNat / 4 < 0x30) && opsOk t
  | _ => true

/-- FIRST and COUNT of a PEAS frame (R160). -/
def peaSpan (f : FrameRec) : Nat × Nat := (leAt f.payload 0 4, leAt f.payload 4 4)

/-- A PEAS frame keeps R160 and R161. -/
def peasOk (f : FrameRec) : Bool :=
  let x := peaSpan f
  f.payload.length == 8 + 8 * x.2 && decide (x.1 + x.2 ≤ 20480) && opsOk (f.payload.drop 8)

/-- No two spans meet. -/
def spansApart : List (Nat × Nat) → Bool
  | [] => true
  | x :: t => t.all (fun y => decide (x.1 + x.2 ≤ y.1) || decide (y.1 + y.2 ≤ x.1)) && spansApart t

/-- The PEAS frames of a pod cover every pea exactly once, and it has one ROUTES frame (R160). -/
def podFramesOk (l : List FrameRec) (p : Nat) : Bool :=
  let mine := l.filter fun f => frameLpod f == p
  let peas := (mine.filter fun f => frameType f == 1).map peaSpan
  spansApart peas && (peas.map (·.2)).sum == 20480 && (mine.filter fun f => frameType f == 2).length == 1

/-- The 8-byte records of a payload. -/
def recordsOf : List Byte → List (List Byte)
  | a :: b :: c :: d :: e :: f :: g :: h :: t => [a, b, c, d, e, f, g, h] :: recordsOf t
  | _ => []

/-- The MAP records of a file (R160). -/
def mapOf (l : List FrameRec) : List MapRec :=
  (l.filter fun f => frameType f == 3).flatMap fun f =>
    (recordsOf f.payload).map fun r => ⟨leAt r 0 1, leAt r 2 2, leAt r 4 2⟩

/-- Its PACE records. -/
def paceOf (l : List FrameRec) : List PaceRec :=
  (l.filter fun f => frameType f == 4).flatMap fun f =>
    (recordsOf f.payload).map fun r => ⟨leAt r 0 2, leAt r 2 2, leAt r 4 4⟩

/-- A frame keeps the row of its TYPE (R160). -/
def frameRow (mask : Nat) (f : FrameRec) : Bool :=
  let p := frameLpod f
  let inMask := decide (p < 256) && mask.testBit p
  match frameType f with
  | 1 => inMask && peasOk f
  | 2 => inMask && decide (f.payload.length ≤ 12288)
  | 3 => p == 0xFFFF && (recordsOf f.payload).all fun r => decide (leAt r 0 1 ≤ 8) && leAt r 1 1 == 0 && leAt r 6 2 == 0
  | 4 => p == 0xFFFF
  | 15 => p == 0xFFFF && f.payload.isEmpty
  | _ => false

/-- The pods of a mask. -/
def maskPods (mask : Nat) : List Nat := (List.range 256).filter mask.testBit

/-- The frames of a file keep R159 to R161 for a POD_MASK. -/
def framesKeep (mask : Nat) (l : List FrameRec) : Bool :=
  let count := fun k => (l.filter fun f => frameType f == k).length
  framesForm 0 l && l.all (frameRow mask) && (maskPods mask).all (podFramesOk l)
    && count 3 == 1 && count 4 == 1 && count 15 == 1 && (l.getLast?.map frameType) == some 15
    && (paceOf l).length == (maskPods mask).length && (maskPods mask).all fun p => (paceOf l).any fun r => r.lpod == p

/-! ## Headers -/

/-- FRAMES, SIG_OFF and LENGTH of the header agree with the file (R158). -/
def sizesKeep (f : BsFile) : Bool :=
  let size := 256 + (f.frames.map fun x => 16 + x.payload.length).sum
  leAt f.head 24 4 == f.frames.length && leAt f.head 96 4 == size && f.sig.length == sigLen && leAt f.head 28 4 == size + sigLen

/-- What a bitstream file says (R158 to R161), given its SHA-256. -/
def bsHdrOf (f : BsFile) (hash : Nat) : BsHdr :=
  let h := f.head
  let mask := leAt h 64 32
  { magicOk := h.length == 256 && leAt h 0 4 == 0x56425346
    format := leAt h 4 1, kind := leAt h 5 1, family := leAt h 6 2, version := leAt h 8 4, baseVersion := leAt h 12 4
    secver := leAt h 16 4, stepMin := leAt h 20 1, stepMax := leAt h 21 1, lpods := leAt h 22 2, length := leAt h 28 4
    offer := leAt h 32 16, paths := leAt h 48 2, ens := leAt h 50 1, dec := leAt h 51 1, progs := leAt h 52 2
    xl := leAt h 54 1, slch := leAt h 55 1, vminMv := leAt h 56 2, tjMin := signedOf 8 (leAt h 58 1)
    tjMax := signedOf 8 (leAt h 59 1), margin := leAt h 60 2, podMask := mask, rspool := leAt h 100 1, iqs := leAt h 101 1
    aestx := leAt h 102 2, aesrx := leAt h 104 1
    zerosOk := leAt h 62 2 == 0 && leAt h 105 147 == 0
    hcrcOk := crc32 (h.take 252) == leAt h 252 4
    sizesOk := sizesKeep f
    framesOk := sizesKeep f && framesKeep mask f.frames
    framePods := (f.frames.map frameLpod).filter fun p => p != 0xFFFF
    map := mapOf f.frames
    pace := paceOf f.frames
    replay := Config.replayParts (mapOf f.frames)
    hash := hash }

/-- The signature block of a bitstream file (R536), with the verdicts on it. -/
def bsSigOf (f : BsFile) (v : SigVerdict) : SigBlock := sigOf f.sig 0 v

/-- A firmware image keeps the table of R538, but for SECVER. -/
def fwForm (l : List Byte) : Bool :=
  let off := leAt l 12 4
  let sec := fun k => 32 + 16 * k
  leAt l 0 4 == 0x56465749 && leAt l 4 1 == 1 && leAt l 8 4 == l.length && decide (l.length ≤ 4194304)
    && decide (256 ≤ off) && off % 8 == 0 && l.length == off + sigLen && decide (leAt l 6 1 ≤ leAt l 7 1)
    && (List.range 8).any (fun k => leAt l (16 + 2 * k) 2 != 0) && leAt l 160 96 == 0
    && (List.range 8).all fun k =>
      let len := leAt l (sec k + 4) 4
      leAt l (sec k + 11) 5 == 0 && (len == 0 || (decide (len ≤ 524288) && decide (256 ≤ leAt l (sec k) 4)
        && decide (leAt l (sec k) 4 + len ≤ off) && decide (leAt l (sec k + 8) 3 < len)))

/-- What a firmware image says (R538), given its SHA-256. -/
def fwHdrOf (l : List Byte) (hash : Nat) : FwHdr :=
  { formatOk := fwForm l, sigOff := leAt l 12 4, secver := leAt l 5 1, stepMin := leAt l 6 1, stepMax := leAt l 7 1
    families := ((List.range 8).map fun k => leAt l (16 + 2 * k) 2).filter fun x => x != 0
    sections := (List.range 8).map fun k => ⟨leAt l (36 + 16 * k) 4, leAt l (40 + 16 * k) 3⟩
    code := (List.range 8).map fun k => (l.drop (leAt l (32 + 16 * k) 4)).take (leAt l (36 + 16 * k) 4)
    hash := hash }

/-- The signature block of a firmware image, with the verdicts on it. -/
def fwSigOf (l : List Byte) (v : SigVerdict) : SigBlock := sigOf l (leAt l 12 4) v

/-! ## Families -/

/-- The feature bits that a standard bitstream may offer (R4); a customer one those below 24. -/
def familyOffer (f : Nat) : Nat := if f = 1 then 0x7FFFFF else if f = 2 then 0x3FFDFF else 0xFFFFFF

/-- The most of a resource that a bitstream of a family provides: the columns of R3 and R29. -/
def familyMax (f full compact exciter custom : Nat) : Nat :=
  if f = 1 then full else if f = 2 then compact else if f = 3 then exciter else custom

/-- The bitstream in use provides what its header states, and never more than the row of its family (R3, R4, R29;
notes/assumptions/101.md). -/
def familyBound (h : BsHdr) : BsHdr :=
  let m := familyMax h.family
  { h with
    offer := h.offer &&& familyOffer h.family
    paths := min h.paths (m 512 64 128 512), ens := min h.ens (m 48 6 8 48), dec := min h.dec (m 128 16 32 128)
    progs := min h.progs (m 256 32 64 256), xl := min h.xl (m 8 0 8 8), slch := min h.slch (m 128 0 128 128)
    rspool := min h.rspool (m 64 16 32 64), iqs := min h.iqs (m 64 16 32 64), aestx := min h.aestx (m 256 32 64 256)
    aesrx := min h.aesrx (m 16 4 16 16) }

/-! ## Files in Marrow -/

/-- An image in a region of Marrow that gives its length at byte o of its header, taken up to a limit. -/
def State.imageAt (s : State) (region off o limit : Nat) : List Byte :=
  let a := s.regionBase region + off
  memTake s.mem a (min limit (natOf (memTake s.mem (a + o) 4)))

/-- The firmware image and the bitstream file the host has placed, at the offsets of SYS_BOOT_IMG (R74, R78), as that
register stands when each image is verified (notes/assumptions/150.md). -/
def State.hostFirmware (s : State) : List Byte := s.imageAt 3 (s.getF SYS_BOOT_IMG_FW_OFF * 65536) 8 4194304
def State.hostBitstream (s : State) : BsFile := cutFile (s.imageAt 3 (s.getF SYS_BOOT_IMG_BS_OFF * 65536) 28 50331648)

/-- The verified bitstream in the firmware region (R70, R163). -/
def State.fullFile (s : State) : BsFile := cutFile (s.imageAt 3 s.boot.bsAt 28 50331648)

/-- The staged file that FAB_PR_SRC names (R164). -/
def State.prFile (s : State) : BsFile :=
  if s.flag FAB_PR_SRC_PORT then cutFile s.fab.stage
  else cutFile (s.imageAt 4 (s.getF FAB_PR_SRC_OFF * 65536) 28 50331648)

/-- The frames of pod p in a file. -/
def podFrames (p : Nat) (f : BsFile) : List FrameRec :=
  f.frames.filter fun x => frameLpod x == p && (frameType x == 1 || frameType x == 2)

end Sys2Proof.Machine
end

