-- ==== Sys2Proof/Machine/Fabric.lean ====
section
/-! DEFINITION. The fabric (spec/06 R139 to R172): pods and their transitions, guards, pace and core voltage, FAB_CMD and
partial reconfiguration, with the recovery of faulted pods (spec/22 R555 to R559). -/

namespace Sys2Proof.Machine

/-! ## Pods -/

/-- The pod is configured. -/
def State.podConf (s : State) (p : Nat) : Bool := decide (p < 256) && s.flag (FAB_LPp_MAP_CONF p)

/-- Its state: 0 ACTIVE, 1 DRAINING, 2 ISOLATED, 3 LOADING (R149). -/
def State.podState (s : State) (p : Nat) : Nat := s.getF (FAB_LPp_MAP_STATE p)

/-- The configured pods, lowest first. -/
def State.confPods (s : State) : List Nat := (List.range 256).filter s.podConf

/-- The free spares, lowest first (R139). -/
def State.spares (s : State) : List Nat := (List.range 264).filter fun q => s.getF (FAB_PPq_STAT_USE q) == 1

/-- A spare remap or a reload in place is in progress or waits (R171, R568). -/
def State.remapBusy (s : State) : Bool := s.fab.pods.any fun x => x.2.why = 3 || x.2.why = 4

/-- A core is moving to pair 8 (R560). -/
def State.pairMoving (s : State) : Bool := s.cores.any fun x => x.2.moving

/-- REL_STAT.BUSY shows a remap of a pod or of a pair (R568). -/
def remapShow (s : State) : State := s.setB REL_STAT_BUSY (s.remapBusy || s.pairMoving)

/-- What the fabric's status registers show (R135, R168, R568). -/
def fabShow (s : State) : State :=
  let n := (s.confPods.filter fun p => s.podState p != 0).length
  let k := s.spares.length
  let s1 := ((s.setF FAB_STAT_NOT_ACTIVE (min n 255)).setF FAB_STAT_SPARES k).setF REL_STAT_SPARES k
  let s2 := remapShow (s1.setF REL_STAT_ISOL (min 255 (s.fab.pods.filter fun x => x.2.left).length))
  forEach [0, 1] (fun a s => s.setB (FAB_LKa_STAT_VOIDING a) (s.podsOut 0 a)) s2

/-- What a change of state of pod p does to the Leeks it carries: their bins are VOID while a pod of them is out, and
while it is ISOLATED or LOADING the buffer discards (R135, R172, R177). -/
def podLeeks (p : Nat) (s : State) : State :=
  forEach ((s.hdr.map.filter fun r => r.lpod == p && r.kind == 0 && decide (r.inst < 2)).map (·.inst)) (fun a s =>
    let s1 := leekVoid a (s.podsOut 0 a) s
    if s1.leekTakes a then s1 else ebufClear a [] s1) s

/-- Pod p enters a state: traced, raised, and shown (R150, R375, R566). -/
def podEnter (p st : Nat) (s : State) : State :=
  let old := s.podState p
  let s1 := (trace 1 (16 * old + st) p (s.getF (FAB_LPp_MAP_PPOD p)) s.now s).setF (FAB_LPp_MAP_STATE p) st
  let s2 := if st = 2 then raise evPodIsolated p s1
    else if st = 0 then raise evPodActive p (s1.setPod p { s1.pod p with activeAt := s.now })
    else if st = 1 then s1.setPod p { s1.pod p with drainAt := s.now } else s1
  fabShow (podLeeks p s2)

/-- A decoder pod starts from empty state: a decoder that delivers warms up again (R154, R241). -/
def decEmpty (d : Nat) (s : State) : State :=
  if 2 ≤ s.decState d then
    (s.setF (DECd_STAT_WARMUP d) 1).setDecoder d { s.decoder d with warmLeft := 1152, lastGood := (0, 0), fails := [] }
  else s

/-- A slot pod starts from empty state: the slot restarts in SEARCH and its decoders wait, then warm up; one that is
DEFERRED keeps that state, having lost its lock, and so does a DEFERRED decoder (R154, R247). -/
def slotEmpty (n : Nat) (s : State) : State :=
  if 2 ≤ s.slotState n then
    let s1 := slotUnlock n s
    let s2 := s1.setSlot n { s1.slot n with frames := [], fic := none, last96 := [] }
    let s3 := if s.slotState n = 4 then s2 else s2.setF (ENSs_STAT_STATE n) 2
    dabUse (forEach (s3.decsOn n) (fun d s => if s.decState d = 3 then decEmpty d s else decToWait d s) s3)
  else s

/-- A programme pod starts from empty state: the blocks it held are gone, and those due meanwhile were VOID (R154). -/
def progEmpty (p : Nat) (s : State) : State := s.setProg p { s.prog p with formed := [] }

/-- A lane's pod starts from empty state: nothing is queued, and its content rises after the gap (R154, R465). -/
def laneEmpty (i : Nat) (s : State) : State :=
  s.setLane i { s.lane i with rdsq := [], rdsLast := none, lastL := 0, lastR := 0, gap := true, sent := none, dab := none,
                                   preL := (0, 0), preR := (0, 0), fed := [], wave := [] }

/-- A network or PCIe engine starts from empty state (R154): instance 0 or 1 is that Ethernet port, whose egress, senders,
receivers and IQ streams hold nothing, and any other is the PCIe engine, whose records that wait are gone
(notes/assumptions/151.md). -/
def engineEmpty (k : Nat) (s : State) : State :=
  if 2 ≤ k then { s with recs := s.recs.filter fun q => q.1 = 0, pci := { s.pci with lines := [] } }
  else { s with net := { s.net with
    egr := sset (fun _ => ({} : Egress)) k {} s.net.egr
    tx := s.net.tx.map fun x => if s.getF (NET_TXs_CTL_PORT x.1) = k then (x.1, { x.2 with buf := [], lastL := 0, lastR := 0 }) else x
    rx := s.net.rx.map fun x => if s.getF (NET_RXr_CTL_PORT x.1) = k then
        (x.1, { x.2 with tap := { x.2.tap with tapBuf := [], rsIn := [], rsFrom := x.2.tap.rsFrom + x.2.tap.rsIn.length } }) else x
    iq := s.net.iq.map fun x => if s.getF (NET_IQi_CTL_PORT x.1) = k then (x.1, { x.2 with buf := [], gap := true }) else x } }

/-- An audio port's engine starts from empty state: its buffers and the histories of its resamplers hold nothing
(R154). -/
def portEmpty (k : Nat) (s : State) : State :=
  let v := s.sap k
  s.setSap k { v with
    pairs := v.pairs.map fun x =>
      (x.1, { x.2 with buf := [], last := ⟨0, 0, 0, false, false⟩, rsIn := [], rsFrom := x.2.rsFrom + x.2.rsIn.length })
    tapBuf := [], lastIn := [], cap := none, csIn := [], rsIn := [], rsFrom := v.rsFrom + v.rsIn.length }

/-- What restarts when pod p enters ACTIVE from LOADING (R154, R196, R247, R558): a stream of MAP kinds 0 to 4 unless its
history was replayed, an engine of kinds 5 to 8 always. -/
def podRestart (p : Nat) (replayed : Bool) (s : State) : State :=
  (s.hdr.map.filter fun r => r.lpod == p).foldl (fun s r =>
    if r.kind = 5 then laneEmpty r.inst s else if r.kind = 6 then slRemap s
    else if r.kind = 7 then engineEmpty r.inst s else if r.kind = 8 then portEmpty r.inst s
    else if r.kind = 0 && replayed then leekHeal r.inst s
    else if replayed then s
    else if r.kind = 0 then leekEmpty r.inst s else if r.kind = 1 then pathHistoryLost r.inst s
    else if r.kind = 2 then slotEmpty r.inst s else if r.kind = 3 then decEmpty r.inst s
    else if r.kind = 4 then progEmpty r.inst s else s) s

/-- The marks EXC, SLK and KTO of every configured pod, from the MAP records (R162). -/
def podMarks (s : State) : State :=
  forEach s.confPods (fun p s =>
    let l := s.hdr.map.filter fun r => r.lpod == p
    ((s.setB (FAB_LPp_MAP_EXC p) (l.any fun r => r.kind == 5)).setB (FAB_LPp_MAP_SLK p) (l.any fun r => r.kind == 6)).setB
      (FAB_LPp_MAP_KTO p) (l.any fun r => (r.kind == 1 || r.kind == 4) && decide (r.inst < 4))) s

/-- The loaded bitstream h is configured, and every pod of it enters ACTIVE (R139, R140, R155). -/
def fabConfigure (h0 : BsHdr) (s : State) : State :=
  let h := familyBound h0
  let s0 := { s with boot := { s.boot with bs := some h } }
  let s1 := forEach (List.range 256) (fun p s =>
    if p < h.lpods then
      let s2 := (((s.wr (FAB_LPp_MAP p) 0).setF (FAB_LPp_MAP_CONF p) 1).setF (FAB_LPp_MAP_PPOD p) p).setPod p { activeAt := s.now }
      (trace 1 0x30 p p s2.now s2).wr (FAB_PPq_STAT p) (BitVec.ofNat 32 p)
    else s.wr (FAB_LPp_MAP p) 0) s0
  let s2 := forEach (List.range 8) (fun k s => s.setF (FAB_PPq_STAT_USE (256 + k)) 1) s1
  let s3 := ((s2.setF FAB_ID_FAMILY h.family).setF FAB_ID_VERSION h.version).setF FAB_STAT_CONF 1
  let s4 := forEach [0, 1] (fun a s => s.setB (FAB_LKa_STAT_CONF a) (h.map.any fun r => r.kind == 0 && r.inst == a)) s3
  fabShow (podMarks s4)

/-! ## Guards and deadlines -/

/-- The guards of pod p stand in for it (R151). -/
def State.guarded (s : State) (p : Nat) : Bool := s.podConf p && s.flag FAB_STAT_CONF && s.podState p != 0

/-- A stage of an instance of a MAP kind takes a VOID token: its 64 samples from ts on, a period apart, are zeros with
VOID set (R143). -/
def voidTake (kind inst ts period : Nat) (s : State) : State :=
  let r : Span := ⟨ts, ts + 64 * period - 1, 8⟩
  if kind = 1 then
    let p := s.path inst
    s.setPath inst { p with voids := r :: p.voids.filter fun v => decide (ts ≤ v.hi + histTicks) }
  else { s with fab := { s.fab with voids := (kind, inst, r) :: s.fab.voids.filter fun v => decide (ts ≤ v.2.2.hi + 2 ^ 32) } }

/-- GUARD_ABSORB: the guard of pod p discards a data token offered to it. -/
def execGuardAbsorb (p : Nat) (s : State) : Host.Outcome State Fault Refusal :=
  .next (if s.guarded p then s.bump (FAB_LPp_CNT0_VOID p) else s)

/-- GUARD_VOID_SUPPLY: the guard of pod p supplies the VOID token of a block that is due to the consumer of a channel,
with the timestamp and the period that block would have had. -/
def execGuardVoidSupply (p kind inst ts period : Nat) (s : State) : Host.Outcome State Fault Refusal :=
  .next (if s.guarded p then voidTake kind inst ts period (s.bump (FAB_LPp_CNT0_VOID p)) else s)

/-- The downstream budget of pod p in ticks, of the PACE frame (R142, R160). -/
def State.budget (s : State) (p : Nat) : Nat := ((s.hdr.pace.find? fun r => r.lpod == p).map (·.budget)).getD 0

/-- The block of an instance of a MAP kind that is due at rel has been abandoned: it is not delivered, and the one that
follows carries DROP, or rises from the gap (R26, R142).  A Leek's bin block is due at its timestamp
(notes/assumptions/151.md). -/
def streamDrop (kind inst rel : Nat) (s : State) : State :=
  if kind = 0 then (if inst < 2 then binLose inst rel s else s)
  else if kind = 1 then
    match (s.path inst).runs with
    | r :: _ =>
      if inst < 512 && r.tsOf (r.out + 1) + r.dly = rel then outDrop inst r s else s
    | [] => s
  else { s with fab := { s.fab with lost := (kind, inst, rel) :: s.fab.lost.filter fun x => decide (s.now ≤ x.2.2 + 2 ^ 36) } }

/-- BLOCK_DROP: pod p abandons, at its deadline, a block of an instance of a MAP kind whose release instant is rel (R26,
R142, R198). -/
def execBlockDrop (p kind inst rel : Nat) (s : State) : Host.Outcome State Fault Refusal :=
  .next <|
    if !s.podConf p || s.podState p != 0 then s
    else
      let s1 := ((s.advance (rel - s.budget p)).bump (FAB_LPp_CNT0_DROP p)).bump FAB_DROP_CNT
      let s2 := if (s.pod p).dropSeen then s1 else raise evBlockDrop p (s1.setPod p { s1.pod p with dropSeen := true })
      streamDrop kind inst rel s2

/-- VOID_TOKEN: a stage of an instance of a MAP kind takes a VOID token (R143, R199). -/
def execVoidToken (kind inst ts period : Nat) (s : State) : Host.Outcome State Fault Refusal :=
  .next (if s.pwr.inReset then s else voidTake kind inst ts period s)

/-! ## Pace and voltage -/

/-- Ticks of a pace window (R144). -/
def paceTicks : Nat := 3932160

/-- The margin of a window whose critical pea was busy for b ticks, in Q8.8 (R144). -/
def marginOf (b : Nat) : Nat := if b = 0 then 0xFFFF else min 0xFFFF (paceTicks * 256 / b)

/-- The floor code of R148: the smallest k with 650 + 5 k - 20 at or above VMIN_MV. -/
def vidFloor (vmin : Nat) : Nat := (vmin - 630 + 4) / 5

/-- The core-voltage code after a window whose minimum margin is m (R148). -/
def avsStep (m : Option Nat) (s : State) : State :=
  let c := s.getF FAB_AVS_CODE
  let put := fun (c good : Nat) (s : State) =>
    { s.setF FAB_AVS_CODE c with fab := { s.fab with good := good }, pins := { s.pins with vid := some c } }
  if !s.flag FAB_AVS_EN then put (if c < 20 then c + 1 else if 20 < c then c - 1 else c) 0 s
  else match m with
    | none => s
    | some m =>
      if m < s.getF FAB_AVS_TARGET then put (min 40 (c + 1)) 0 s
      else if s.getF FAB_AVS_TARGET + 32 ≤ m then
        (if 63 ≤ s.fab.good then put (if vidFloor s.hdr.vminMv < c then c - 1 else c) 0 s else put c (s.fab.good + 1) s)
      else put c 0 s

/-- The margin pod p measures by the pea the bitstream names for it: it was ACTIVE for the whole window that ends at t
(R144). -/
def podPace (p pea b t : Nat) (s : State) : State :=
  if s.podConf p && s.podState p = 0 && (s.hdr.pace.any fun r => r.lpod == p && r.pea == pea) && (s.pod p).activeAt + paceTicks ≤ t then
    let m := marginOf b
    let low := if (s.pod p).paced then min m (s.getF (FAB_LPp_PACE_MIN p)) else m
    ((s.setF (FAB_LPp_PACE_CUR p) m).setF (FAB_LPp_PACE_MIN p) low).setPod p { s.pod p with paced := true }
  else s

/-- The lowest of a list of (margin, pod), the first of them where two are equal: FAB_PACE_MIN then names the
lowest-numbered pod (R147; notes/assumptions/150.md). -/
def lowestMargin : List (Nat × Nat) → Option (Nat × Nat)
  | [] => none
  | x :: t => match lowestMargin t with | some y => if y.1 < x.1 then some y else some x | none => some x

/-- PACE_WINDOW_END: the window that ends at t; busy gives peas with the ticks each held a token: pod, pea, ticks
(R142, R144, R147, R148). -/
def execPaceWindowEnd (t : Nat) (busy : List (Nat × Nat × Nat)) (s : State) : Host.Outcome State Fault Refusal :=
  .next <|
    if t % paceTicks != 0 || !s.flag FAB_STAT_CONF || !s.counting then s
    else
      let s1 := busy.foldl (fun s x => podPace x.1 x.2.1 x.2.2 t s) (s.advance t)
      let l := (s1.confPods.filter fun p => (s1.pod p).paced).map fun p => (s1.getF (FAB_LPp_PACE_CUR p), p)
      let s2 := match lowestMargin l with
        | some (m, p) =>
          let low := decide (m < s1.getF FAB_PACE_CFG_WARN)
          let s3 := (s1.setF FAB_PACE_MIN_LPOD p).setF FAB_PACE_MIN_MARGIN m
          let s4 := { s3 with fab := { s3.fab with paceLow := low } }
          if low && !s1.fab.paceLow then raise evPaceLow p s4 else s4
        | none => s1
      let s5 := avsStep ((lowestMargin l).map fun x => x.1) s2
      { s5 with fab := { s5.fab with pods := s5.fab.pods.map fun x => (x.1, { x.2 with dropSeen := false }) } }

/-! ## Recovery of a faulted pod (R556, R557) -/

/-- Pod p starts to load for what moves it: a remap takes the lowest free spare and retires the physical pod left behind;
without a spare it is reloaded in place (R556, R557). -/
def podLoad (p : Nat) (s : State) : State :=
  let v := s.pod p
  let own := s.getF (FAB_LPp_MAP_PPOD p)
  match s.spares with
  | q :: _ =>
    let s1 := (s.wr (FAB_PPq_STAT own) 0x80000000).wr (FAB_PPq_STAT q) (BitVec.ofNat 32 p)
    podEnter p 3 (s1.setPod p { v with why := 3, wait := false, loadedAt := none, spare := some q })
  | [] =>
    let s1 := s.wr (FAB_PPq_STAT own) (BitVec.ofNat 32 p)
    podEnter p 3 (s1.setPod p { v with why := 4, wait := false, loadedAt := none, spare := none })

/-- The pod that waits longest for a recovery starts it, once none runs (R561). -/
def recoverNext (s : State) : State :=
  if s.fab.pods.any fun x => (x.2.why = 3 || x.2.why = 4) && !x.2.wait then fabShow s
  else
    match (s.fab.pods.filter fun x => x.2.wait).foldl
      (fun (a : Option (Nat × Pod)) x => match a with | some y => if x.2.faultAt < y.2.faultAt then some x else a | none => some x) none with
    | some (p, v) => if s.podState p = 2 then podLoad p s else fabShow (s.setPod p { v with wait := false })
    | none => fabShow s

/-- Pod p is left ISOLATED (R556). -/
def podLeft (p : Nat) (s : State) : State :=
  recoverNext ((s.setPod p { s.pod p with why := 0, wait := false, left := true }).bump REL_CNT1_FAIL)

/-- What R556 makes of a faulted pod: a remap or a reload in place, or none. -/
def podRecover (p : Nat) (s : State) : State :=
  let v := s.pod p
  let again := match v.backAt with | some b => decide (s.now < b + Config.ticksPerSecond) && s.spares.isEmpty | none => false
  if !s.feat 18 || again then s.setPod p { v with why := 0 }
  else s.setPod p { v with why := if s.spares.isEmpty then 4 else 3, wait := s.remapBusy }

/-- Record a fault of pod p with its cause (R555). -/
def podRecord (p cause ppod : Nat) (s : State) : State :=
  let s1 := ((s.setF REL_PODFLT_CAUSE cause).setF REL_PODFLT_LPOD p).setF REL_PODFLT_PPOD ppod
  raise evPodFault p ((s1.bump REL_CNT0_FAULTS).setF (FAB_LPp_MAP_FAULT p) 1)

/-- The pods of a partial reconfiguration that are not those that were ISOLATED at CHECK. -/
def Partial.moving (r : Partial) : List Nat := r.pods.filter fun p => !r.iso.contains p

/-- A partial reconfiguration ends with a RESULT (R165, R166). -/
def prEnd (res : Nat) (s : State) : State :=
  let s1 := ((s.setF FAB_PR_STAT_PHASE 0).setF FAB_PR_STAT_RESULT res).bump (if res = 1 then FAB_PR_CNT_OK else FAB_PR_CNT_FAIL)
  raise evPrDone res { s1 with fab := { s1.fab with pr := none } }

/-- ROLLBACK after pod p faulted (R166): the other pods reload their previous images, those ISOLATED at CHECK return to
ISOLATED, and the faulted pod is recovered by R556 where it may be. -/
def prRollback (p : Nat) (r : Partial) (s : State) : State :=
  let back := r.moving.filter fun q => q != p
  let s1 := forEach (r.iso.filter fun q => q != p) (fun q s => if s.podState q = 3 then podEnter q 2 (s.setPod q { s.pod q with why := 0 }) else s) s
  let s2 := forEach back (fun q s =>
    let s3 := s.setPod q { s.pod q with why := 6, loadedAt := none }
    if s3.podState q = 3 then s3 else podEnter q 3 s3) s1
  let s4 := (s2.setF FAB_PR_STAT_PHASE 5).setPod p { s2.pod p with why := 0, faultAt := s.now }
  let s5 := { s4 with fab := { s4.fab with pr := some { r with faulted := some p } } }
  let s6 := s5.setF (FAB_LPp_MAP_FAULT p) 1
  let s7 := if s6.feat 18 then (let s8 := podRecover p s6; if (s8.pod p).wait || (s8.pod p).why = 0 then s8 else podLoad p s8) else s6
  if back.isEmpty then prEnd 9 s7 else s7

/-- Every pod of a partial reconfiguration is ISOLATED: LOAD, or ROLLBACK where one has faulted (R165, R166).  With no pod
in POD_MASK there is nothing to load, and RELEASE follows at the next release instant. -/
def prLoad (s : State) : State :=
  match s.fab.pr with
  | some r =>
    if r.pods.all fun p => s.podState p == 2 then
      match r.faulted with
      | some p => prRollback p r s
      | none =>
        forEach r.pods (fun p s => podEnter p 3 (s.setPod p { s.pod p with why := 5, loadedAt := none })) (s.setF FAB_PR_STAT_PHASE (if r.pods.isEmpty then 4 else 3))
    else s
  | none => s

/-- A fault of pod p at t0 (R27, R172, R555, R556, R557): of an ACTIVE pod; of a pod of a partial reconfiguration; of a
pod being loaded; of a pod that is ISOLATED already. -/
def podFault (p cause : Nat) (s : State) : State :=
  let st := s.podState p
  let v := s.pod p
  if !s.podConf p || !s.flag FAB_STAT_CONF then s
  else if st = 0 then
    let s1 := podRecord p cause (s.getF (FAB_LPp_MAP_PPOD p)) s
    let s2 := podRecover p (s1.setPod p { v with faultAt := s.now })
    let s3 := if s2.flag (FAB_LPp_MAP_SLK p) && (s2.pod p).why != 0 then slRemap s2 else s2
    podEnter p 1 (if (s3.pod p).why = 0 then (s3.setPod p { s3.pod p with left := true }).bump REL_CNT1_FAIL else s3)
  else if st = 2 then
    let s1 := s.setF (FAB_LPp_MAP_FAULT p) 1
    match s.fab.pr with
    | some r => if r.pods.contains p && s.getF FAB_PR_STAT_PHASE = 2 then
        { s1 with fab := { s1.fab with pr := some { r with faulted := some (r.faulted.getD p) } } } else s1
    | none => s1
  else if v.why = 5 then
    match s.fab.pr with
    | some r =>
      if st = 1 then { s.setF (FAB_LPp_MAP_FAULT p) 1 with fab := { s.fab with pr := some { r with faulted := some (r.faulted.getD p) } } }
      else prRollback p r (podEnter p 2 s)
    | none => s
  else if st = 1 then s.setF (FAB_LPp_MAP_FAULT p) 1
  else if v.why = 3 then
    let q := v.spare.getD 0
    let s1 := podRecord p 5 q (s.wr (FAB_PPq_STAT q) 0x80000000)
    podLoad p (podEnter p 2 s1)
  else if v.why = 4 then podLeft p (podEnter p 2 (s.setF (FAB_LPp_MAP_FAULT p) 1))
  else if v.why = 6 then
    podLeft p (podEnter p 2 ((s.setF (FAB_LPp_MAP_FAULT p) 1).setPod p { v with why := 0 }))
  else podEnter p 2 ((s.setF (FAB_LPp_MAP_FAULT p) 1).setPod p { v with why := 0 })

/-- POD_FAULT: a detector of R555 finds a fault: 2 configuration parity, 3 token sequence, 5 load. -/
def execPodFault (p cause t : Nat) (s : State) : Host.Outcome State Fault Refusal :=
  .next (if 1 ≤ cause && cause ≤ 5 then podFault p cause (s.advance t) else s)

/-- POD_WATCHDOG: the handshake-progress watchdog of pod p expires at t (R555). -/
def execPodWatchdog (p t : Nat) (s : State) : Host.Outcome State Fault Refusal :=
  .next (if s.podConf p && s.podState p = 0 then podFault p 1 (s.advance t) else s)

/-- POD_DRAIN_END: DRAINING pod p has delivered every token, or 2 µs have passed with this many still owed (R150,
R152). -/
def execPodDrainEnd (p late t : Nat) (s : State) : Host.Outcome State Fault Refusal :=
  .next <|
    if !s.podConf p || s.podState p != 1
      || (late != 0 && decide ((s.advance t).now < (s.pod p).drainAt + Config.ticksOfUs 2)) then s
    else
      let s1 := podEnter p 2 ((s.advance t).bumpBy (FAB_LPp_CNT1_LATE p) late)
      let v := s1.pod p
      if (v.why = 3 || v.why = 4) && !v.wait then podLoad p s1
      else if v.why = 5 then prLoad s1
      else s1

/-- Every pod that a partial reconfiguration loads has been written. -/
def State.prLoaded (s : State) (l : List Nat) : Bool := l.all fun p => s.podState p == 3 && (s.pod p).loadedAt.isSome

/-- The frames that pod p loads: those of the verified file in a partial reconfiguration (R165), or its reload image
(R163). -/
def State.loadFrames (s : State) (p : Nat) : List FrameRec :=
  if (s.pod p).why = 5 then (match s.fab.pr with | some r => podFrames p r.file | none => [])
  else match (s.pod p).image with
    | some l => l
    | none => podFrames p s.fullFile

/-- A frame of them fails its PCRC as it is written (R163). -/
def State.reloadBad (s : State) (p : Nat) : Bool := (s.loadFrames p).any fun f => !crcHolds f

/-- POD_LOAD_DONE: every frame of LOADING pod p is written and checked; replayed tells whether R558 supplied its
history (R150, R557, R558, R163). -/
def execPodLoadDone (p t : Nat) (replayed : Bool) (s : State) : Host.Outcome State Fault Refusal :=
  .next <|
    if !s.podConf p || s.podState p != 3 || s.reloadBad p then s
    else
      let s0 := s.advance t
      let s1 := s0.setPod p { s0.pod p with loadedAt := some s0.now, replayed := replayed }
      match s1.fab.pr with
      | some r => if s1.getF FAB_PR_STAT_PHASE = 3 && s1.prLoaded r.pods then s1.setF FAB_PR_STAT_PHASE 4 else s1
      | none => s1

/-- RELOAD_ERR: a frame of pod p's reload image fails its PCRC while it is written (R163, R556); a frame of the staged
file makes the partial reconfiguration roll back (R166).  A remap that ends so leaves the pod on its own physical pod
(R157), and the spare is retired (notes/assumptions/113.md). -/
def execReloadErr (p t : Nat) (s : State) : Host.Outcome State Fault Refusal :=
  .next <|
    if !s.podConf p || s.podState p != 3 || !s.reloadBad p then s
    else
      let s0 := s.advance t
      let v := s0.pod p
      if v.why = 5 then (match s0.fab.pr with | some r => prRollback p r (podEnter p 2 s0) | none => s)
      else
        let s1 := raise evReloadErr p (s0.bump FAB_STAT_RELOAD_ERR)
        let s2 := match v.spare with
          | some q => (s1.wr (FAB_PPq_STAT q) 0x80000000).wr (FAB_PPq_STAT (s1.getF (FAB_LPp_MAP_PPOD p))) (BitVec.ofNat 32 p)
          | none => s1
        let s3 := podEnter p 2 (s2.setPod p { v with why := 0, spare := none, badImage := true })
        if v.why = 3 || v.why = 4 || v.why = 6 then podLeft p s3 else s3

/-- Pod p enters ACTIVE at the release instant t (R154, R156, R196, R557). -/
def podActive (p t : Nat) (s : State) : State :=
  let v := s.pod p
  let s0 := match v.spare with | some q => s.setF (FAB_LPp_MAP_PPOD p) q | none => s
  let s1 := podEnter p 0 (s0.setPod p { v with why := 0, spare := none, left := false, loadedAt := none,
                                               backAt := if v.why = 4 then some t else v.backAt })
  if v.why = 3 || v.why = 4 then
    let s2 := ((s1.set64 REL_REMAP_LO REL_REMAP_HI t).setF REL_GAP_TICKS (t - v.faultAt)).bump
      (if v.why = 3 then REL_CNT0_REMAPS else REL_CNT1_RESTORED)
    let s3 := raise evRemapDone p s2
    let s4 := (s3.hdr.map.filter fun r => r.lpod == p && r.kind == 5).foldl (fun s r => excRemap r.inst s) s3
    podRestart p v.replayed s4
  else podRestart p false s1

/-- The release instant at which an operation whose pods are loaded enters ACTIVE: the first one at or after the last of
them has finished loading (R156, R557). -/
def State.enterAt (s : State) (l : List Nat) : Nat :=
  releaseAt (l.foldl (fun m p => max m ((s.pod p).loadedAt.getD 0)) 0)

/-- The partial file's MAP and PACE records replace those of its pods, and its VERSION the loaded one's (R165). -/
def prMerge (r : Partial) (h : BsHdr) : BsHdr :=
  { h with version := r.hdr.version, hash := r.hdr.hash, map := h.map.filter (fun x => !r.pods.contains x.lpod) ++ r.hdr.map
           pace := h.pace.filter (fun x => !r.pods.contains x.lpod) ++ r.hdr.pace }

/-- POD_RELEASE: at the release instant t, every operation whose pods are all loaded enters ACTIVE together (R156, R165,
R166). -/
def execPodRelease (t : Nat) (s : State) : Host.Outcome State Fault Refusal :=
  .next <|
    if t % Config.releasePeriod != 0 || !s.flag FAB_STAT_CONF then s
    else
      let s0 := s.advance t
      let singles := s0.confPods.filter fun p =>
        let v := s0.pod p
        s0.podState p == 3 && 2 ≤ v.why && v.why ≤ 4 && v.loadedAt.isSome && s0.enterAt [p] == t
      let s1 := forEach singles (fun p s => podActive p t s) s0
      let s2 := match s1.fab.pr with
        | some r =>
          if s1.getF FAB_PR_STAT_PHASE = 4 && s1.prLoaded r.pods && (r.pods.isEmpty || s1.enterAt r.pods == t) then
            let s3 := { s1 with boot := { s1.boot with bs := some (prMerge r s1.hdr) } }
            let s4 := podMarks (s3.setF FAB_ID_VERSION r.hdr.version)
            prEnd 1 (forEach r.pods (fun p s =>
              podActive p t (s.setPod p { s.pod p with image := some (podFrames p r.file), badImage := false })) s4)
          else if s1.getF FAB_PR_STAT_PHASE = 5 then
            let back := r.moving.filter fun p => (s1.pod p).why == 6
            if s1.prLoaded back && (back.isEmpty || s1.enterAt back == t) then prEnd 9 (forEach back (fun p s => podActive p t s) s1) else s1
          else s1
        | none => s1
      recoverNext s2

/-! ## FAB_CMD -/

/-- A write of FAB_CMD (R171).  A pod whose reload image has failed stays ISOLATED (R163): its RESTORE is refused with
WRONG_STATE (notes/assumptions/113.md). -/
def fabCommand (op p : Nat) (s : State) : State :=
  if op = 0 || 3 ≤ op || !s.podConf p then refuse FAB_REFUSE codeReserved s
  else if (op = 1 && s.podState p != 0) || (op = 2 && (s.podState p != 2 || (s.pod p).badImage)) then
    refuse FAB_REFUSE codeWrongState s
  else if op = 1 && s.flag (FAB_LPp_MAP_EXC p) && s.pins.paRf then refuse FAB_REFUSE codeWrongState s
  else if s.ktOwned && s.flag (FAB_LPp_MAP_KTO p) then refuse FAB_REFUSE codeOwned s
  else if s.getF FAB_PR_STAT_PHASE != 0 || s.remapBusy then refuse FAB_REFUSE codeBusy s
  else if op = 1 then podEnter p 1 ((s.setF (FAB_LPp_MAP_FAULT p) 0).setPod p { s.pod p with why := 1 })
  else podEnter p 3 (s.setPod p { s.pod p with why := 2, loadedAt := none })

/-- ISOLATE. -/
def execFabIsolate (m : Master) (p : Nat) (s : State) : Host.Outcome State Fault Refusal :=
  .next (gated m FAB_CMD (0x1000000 + p % 256) (fabCommand 1 (p % 256)) s)

/-- RESTORE. -/
def execFabRestore (m : Master) (p : Nat) (s : State) : Host.Outcome State Fault Refusal :=
  .next (gated m FAB_CMD (0x2000000 + p % 256) (fabCommand 2 (p % 256)) s)

/-! ## Partial reconfiguration -/

/-- Bytes the staging area holds (R164). -/
def stageMax : Nat := 67108864

/-- A 32-bit write into the load port appends its bytes; beyond 64 MiB it is discarded and refused (R164). -/
def loadPort (w : Word) (s : State) : State :=
  let l := s.fab.stage ++ bytesOf 4 w.toNat
  if stageMax < l.length then refuse FAB_REFUSE codeReserved s
  else { s.setF FAB_PR_STAT_STAGED_KIB (l.length / 1024) with fab := { s.fab with stage := l } }

/-- LOAD_PORT_WRITE. -/
def execLoadPortWrite (m : Master) (a : Nat) (v : Word) (s : State) : Host.Outcome State Fault Refusal :=
  .next (if 0xA0000 ≤ a && a < 0xC0000 then gated m a v.toNat (loadPort v) s else s)

/-- A write of FAB_PR_CMD (R164, R165).  RESULT reads NONE from START to the end of the reconfiguration
(notes/assumptions/150.md). -/
def prCommand (w : Nat) (s : State) : State :=
  if w % 4 != 0 && s.getF FAB_PR_STAT_PHASE != 0 then refuse FAB_REFUSE codeBusy s
  else
    let s1 := if w.testBit 1 then { s.setF FAB_PR_STAT_STAGED_KIB 0 with fab := { s.fab with stage := [] } } else s
    if w.testBit 0 then (s1.setF FAB_PR_STAT_PHASE 1).setF FAB_PR_STAT_RESULT 0 else s1

/-- RESET_PORT. -/
def execPrResetPort (m : Master) (s : State) : Host.Outcome State Fault Refusal := .next (gated m FAB_PR_CMD 2 (prCommand 2) s)

/-- START. -/
def execPrStart (m : Master) (s : State) : Host.Outcome State Fault Refusal := .next (gated m FAB_PR_CMD 1 (prCommand 1) s)

/-- A bitstream header keeps the table of R158 and the security version of R539. -/
def hdrOk (h : BsHdr) : Bool :=
  h.magicOk && h.format == 1 && decide (h.kind ≤ 1)
    && ((1 ≤ h.family && h.family ≤ 3) || (0x100 ≤ h.family && h.family ≤ 0xFFFE))
    && (h.kind == 1 || h.baseVersion == 0) && decide (h.stepMin ≤ h.stepMax)
    && (if h.kind = 0 then decide (1 ≤ h.lpods) && decide (h.lpods ≤ 256) && h.podMask == 2 ^ h.lpods - 1 else h.lpods == 0)
    && decide (h.length ≤ 50331648) && decide (h.offer < 2 ^ 24) && decide (h.paths ≤ 512) && decide (h.ens ≤ 48)
    && decide (h.dec ≤ 128) && decide (h.progs ≤ 256) && (h.xl == 0 || h.xl == 8) && (h.slch == 0 || h.slch == 128)
    && decide (650 ≤ h.vminMv) && decide (h.vminMv ≤ 850) && decide (h.tjMin ≤ -40) && decide (125 ≤ h.tjMax)
    && decide (0x140 ≤ h.margin) && decide (h.rspool ≤ 64) && decide (h.iqs ≤ 64) && decide (h.aestx ≤ 256)
    && decide (h.aestx ≤ h.progs) && decide (h.aesrx ≤ 16) && h.zerosOk && h.hcrcOk && decide (h.secver ≤ 64)

/-- The pods a partial file names. -/
def hdrNames (h : BsHdr) : List Nat :=
  (List.range 256).filter h.podMask.testBit ++ h.framePods ++ h.map.map fun r => r.lpod

/-- What R71 and R540 find of a partial file: the signature side of VERIFY. -/
def State.prSigOk (s : State) (h : BsHdr) (g : SigBlock) : Bool :=
  g.formatOk && s.keyGood g && g.keySel == s.boot.bsKey.keySel && g.pubKey == s.boot.bsKey.pubKey && g.verifies
    && decide (h.secver ≤ 64) && decide (s.sec.otp.bsMin ≤ h.secver)
    && decide (h.stepMin ≤ Config.step) && decide (Config.step ≤ h.stepMax)
    && (match s.boot.fw with | some f => f.families.contains h.family | none => false)

/-- A partial file fits the loaded bitstream (R165). -/
def State.prFits (s : State) (h : BsHdr) : Bool :=
  let b := s.hdr
  h.kind == 1 && h.family == b.family && h.baseVersion == b.version && h.offer == b.offer && h.paths == b.paths
    && h.ens == b.ens && h.dec == b.dec && h.progs == b.progs && h.xl == b.xl && h.slch == b.slch && h.rspool == b.rspool
    && h.iqs == b.iqs && h.aestx == b.aestx && h.aesrx == b.aesrx && (hdrNames h).all s.podConf

/-- The reason of CHECK for pod p: 0 none, 5 POD_BUSY, 6 PA_KEYED, 7 SL_BUSY, 8 OWNED (R165). -/
def State.prCheck (s : State) (p : Nat) : Nat :=
  let st := s.podState p
  if st = 1 || st = 3 || (st = 2 && (s.pod p).why != 0 && (s.pod p).why != 1) then 5
  else if s.flag (FAB_LPp_MAP_EXC p) && s.pins.paRf then 6
  else if s.flag (FAB_LPp_MAP_SLK p) && s.slBusy then 7
  else if s.ktOwned && s.flag (FAB_LPp_MAP_KTO p) then 8
  else 0

/-- PR_VERIFY_DONE: VERIFY ends on the file that FAB_PR_SRC names, with these verdicts on its signature block and this
SHA-256; CHECK follows, and DRAIN (R164, R165, R540). -/
def execPrVerifyDone (v : SigVerdict) (hash t : Nat) (s : State) : Host.Outcome State Fault Refusal :=
  .next <|
    if s.getF FAB_PR_STAT_PHASE != 1 then s
    else
      let s0 := s.advance t
      let h := bsHdrOf s.prFile hash
      let g := bsSigOf s.prFile v
      if !s0.prSigOk h g then raise evSigFail g.keySel (prEnd 2 s0)
      else if !hdrOk h || !h.framesOk then prEnd 3 s0
      else if !s0.prFits (familyBound h) then prEnd 4 s0
      else
        let pods := (List.range 256).filter h.podMask.testBit
        match pods.find? fun p => s0.prCheck p != 0 with
        | some p => prEnd (s0.prCheck p) s0
        | none =>
          let iso := pods.filter fun p => s0.podState p == 2
          let s1 := { s0.setF FAB_PR_STAT_PHASE 2 with fab := { s0.fab with pr := some ⟨h, s.prFile, pods, iso, none⟩ } }
          let s2 := forEach (pods.filter fun p => s0.podState p == 0) (fun p s =>
            podEnter p 1 ((s.setF (FAB_LPp_MAP_FAULT p) 0).setPod p { s.pod p with why := 5 })) s1
          prLoad s2

/-! ## Registers -/

/-- A write of a FAB register (R168). -/
def fabRegWrite (a : Nat) (w : Word) (s : State) : State :=
  if a = FAB_CMD then fabCommand (bitsOf w.toNat 25 24) (bitsOf w.toNat 7 0) s
  else if a = FAB_PR_CMD then prCommand w.toNat s
  else if a = FAB_AVS && (bitsOf w.toNat 15 0 < s.hdr.margin || 0x200 < bitsOf w.toNat 15 0) then refuse FAB_REFUSE codeReserved s
  else plainWrite a w s

end Sys2Proof.Machine
end

