-- ==== Sys2Proof/Machine/Rel.lean ====
section
/-! DEFINITION. The release of blocks at the outputs (spec/01 R23 to R26, spec/04 R104), checkpoints and wear (spec/22
R558, R563), and Sprout's commands (spec/22 R564 to R569). -/

namespace Sys2Proof.Machine

/-! ## Releases -/

/-- 20 ms of samples at 48 kS/s (R104). -/
def bridgeRamp : Nat := 960

/-- Samples multiplied by k/960, k falling by one each sample from the given value; the mono or stereo interleaving is
that of the block. -/
def fadeDown (ch : Nat) : Nat → Nat → List Int → List Int
  | _, _, [] => []
  | i, k, x :: t =>
    let k' := k - i / ch
    roundEven (x * (k' : Int)) bridgeRamp :: fadeDown ch (i + 1) k t

/-- Samples multiplied by k/960, k rising from the given value. -/
def fadeUp (ch : Nat) : Nat → Nat → List Int → List Int
  | _, _, [] => []
  | i, k, x :: t => roundEven (x * (min bridgeRamp (k + i / ch) : Nat)) bridgeRamp :: fadeUp ch (i + 1) k t

/-- The bridge of R104 on a block of programme p released now: it begins with the first CLK_SUSPECT block; once it has
ended without lock the output fades to zero over 20 ms and holds it; the first clean block ramps up. -/
def bridgeBlock (p : Nat) (b : Block) (s : State) : List Int × State :=
  let v := s.prog p
  let ch := if b.samples.length ≤ 64 then 1 else 2
  let sus := b.flags.testBit 2
  let at_ := if sus then (match v.bridgeAt with | some x => some x | none => some s.now) else none
  let ended := match at_ with
    | some x => s.clk.faded.contains p
        || (!s.inLock && decide (x + s.getF CLK_HOLD_BRIDGE_MS * Config.ticksPerMs ≤ s.now))
    | none => false
  if sus && (ended || v.clkFade != 0) then
    (fadeDown ch 0 (bridgeRamp - v.clkFade) b.samples,
      s.setProg p { v with bridgeAt := at_, clkFade := min bridgeRamp (v.clkFade + 64), clkRise := 0 })
  else if sus then (b.samples, s.setProg p { v with bridgeAt := at_ })
  else
    let left := if v.clkFade != 0 then v.clkFade else v.clkRise
    if left = 0 then (b.samples, s.setProg p { v with bridgeAt := none })
    else (fadeUp ch 0 (bridgeRamp - left) b.samples,
      s.setProg p { v with bridgeAt := none, clkFade := 0, clkRise := left - 64 })

/-- The bytes of a PCIe ring-format block (R289, R355): the channel number is the stream's audio channel, or its own
number where it holds none. -/
def dmaBytes (s : State) (kind inst ts flags : Nat) (samples : List Int) : List Nat :=
  let stereoL := (stereo samples).flatMap fun x => [x.1, x.2]
  (ringBytes ts flags inst kind 0 ((s.produced kind inst).n % 65536) stereoL).map fun b => b.toNat

/-- A programme hands a block, or the gap of a dropped one, to every sink (R24, R355, R464). -/
def progDeliver (p t : Nat) (b : Option Block) (s : State) : State :=
  match b with
  | none => releaseNote 1 p t none (dmaBlock 8 p t none (netHandoff p t none s))
  | some b =>
    let x := bridgeBlock p b s
    let blk : Block := ⟨b.ts, b.flags, x.1⟩
    releaseNote 1 p t (some blk) (laneFeed 1 p blk (dmaBlock 8 p b.ts (some (dmaBytes x.2 3 p b.ts b.flags x.1))
      (netHandoff p t (some blk) (obsBlock 1 p b.flags x.2))))

/-- Blocks whose release instants have passed are dropped, never released late, and the gap is handed on in their place
(R26). -/
def progLate (p t : Nat) (s : State) : State :=
  let v := s.prog p
  let late := fun x => decide (x + s.pgDelay p < t)
  let r := dropWhere late v.formed
  let s1 := (s.setProg p { v with formed := r.1.filter (fun b => !late b.1), dropNext := v.dropNext || r.2.1 }).bumpBy
    (FOLp_CNT2_DROP p) r.2.2
  (r.1.filter fun b => late b.1).foldl (fun s b => progDeliver p (b.1 + s.pgDelay p) none s) s1

/-- A programme's block is released (R24, R26, R104, R252): the oldest one, where its release instant is t; one due at t
and not formed is dropped. -/
def progRelease (p t : Nat) (s0 : State) : State :=
  let s1 := progLate p (max t s0.now) s0
  let v1 := s1.prog p
  let due := 2 ≤ s1.folState p && v1.stopping != some 0 && v1.formed.isEmpty && decide (v1.nextTs + s1.pgDelay p = t)
  let s := if due then formBlock p false s1 else s1
  match (s.prog p).formed with
  | b :: rest => if b.1 + s.pgDelay p = t then progDeliver p t b.2 (s.setProg p { s.prog p with formed := rest }) else s
  | [] => s

/-- The samples of a block whose first samples are warm-up samples ramp by i/D (R197). -/
def warmRamp (ch d done : Nat) (left : Nat) (samples : List Int) : List Int :=
  if left = 0 || d = 0 then samples
  else samples.zipIdx.map fun x =>
    let i := x.2 / ch
    if i < left then roundEven (x.1 * (done + i : Nat)) d else x.1

/-- A path hands a block, or the gap of a dropped one, to its sinks: PCIe queues and IQ streams; the audio of a warm-up
rises there, IQ does not (R196, R197, R341, R355). -/
def pathDeliver (n t : Nat) (b : Option Block) (s : State) : State :=
  match b with
  | none => releaseNote 2 n t none (dmaBlock 9 n t none s)
  | some b =>
    let l := match (s.path n).ramps.find? fun q => q.1 == t with
      | some q => warmRamp (if b.samples.length ≤ 64 then 1 else 2) q.2.2 q.2.1 (q.2.2 - q.2.1) b.samples
      | none => b.samples
    let s1 := s.setPath n { s.path n with ramps := (s.path n).ramps.filter fun q => decide (t < q.1) }
    releaseNote 2 n t (some b) (iqFeed n b (dmaBlock 9 n b.ts (some (dmaBytes s 1 n b.ts b.flags l)) s1))

/-- Blocks of path n whose release instants have passed are dropped, never released late, and the gap is handed on in
their place (R26). -/
def pathLate (n t : Nat) (s : State) : State :=
  let p := s.path n
  let late := fun x => decide (x < t)
  let r := dropWhere late p.formed
  let s1 := (s.setPath n { p with formed := r.1.filter (fun b => !late b.1), dropNext := p.dropNext || r.2.1 }).bumpBy
    (PTHn_DROP_CNT n) r.2.2
  (r.1.filter fun b => late b.1).foldl (fun s b => pathDeliver n b.1 none s) s1

/-- A path's block is released at its timestamp plus its latency (R23, R26): the oldest one, where its release instant is
t; one due at t and not formed is dropped. -/
def pathRelease (n t : Nat) (s0 : State) : State :=
  let s1 := runHead n (pathLate n (max t s0.now) s0)
  let s := match (s1.path n).formed, (s1.path n).runs with
    | [], r :: _ => if r.due = t then outDrop n r s1 else s1
    | _, _ => s1
  match (s.path n).formed with
  | b :: rest => if b.1 = t then pathDeliver n t b.2 (s.setPath n { s.path n with formed := rest }) else s
  | [] => s

/-- The flags of a decoder's block of timestamp ts: those of the samples it was decoded from, VOID while its pods or those
of its slot are out, DROP after a block dropped, and WARMUP (R167, R233, R241). -/
def State.decFlags (s : State) (d ts : Nat) : Nat :=
  let hi := ts + Config.audioBlock - 1
  s.audioFlags d ts hi ||| s.voidFlag 3 d ts hi ||| s.voidFlag 2 (s.getF (DECd_CTL_SLOT d)) ts hi
    ||| (if (s.decoder d).dropNext then 128 else 0) ||| (if (s.decoder d).warmLeft != 0 then 2 else 0)

/-- Decoded samples of decoder d in a transmission frame: 96 ms at the rate of its codec (R229, R239). -/
def State.decPerFrame (s : State) (d : Nat) : Nat :=
  let core := [1536, 2304, 3072, 4608].getD (s.getF (DECd_STAT_CORE d)) 4608
  if s.getF (DECd_FMT_CODEC_ACT d) = 1 then 4608 else if s.flag (DECd_STAT_SBR d) then min 4608 (2 * core) else core

/-- The position of an instant among the decoded samples of decoder d, numbered from the frame of its slot that starts at or
before it, as a sample and a 24-bit fraction (R239). -/
def State.decPosition (s : State) (d f u : Nat) : Nat × Nat :=
  let p := s.frameNear (s.getF (DECd_CTL_SLOT d)) (f + frameTicks) - f
  let x := (u - f) * s.decPerFrame d
  (x / p, x % p * 16777216 / p)

/-- The output samples of a block, at multiples of 81,920 ticks, from the decoded ones by the rate-following interpolator
of 32 taps and 256 phases (R239); the decoded samples begin 15 before the one at or before the block's first instant. -/
def State.decInterpolate (s : State) (d ts : Nat) (x : List (Int × Int)) : List (Int × Int) :=
  match s.frameBefore (s.getF (DECd_CTL_SLOT d)) ts with
  | none => []
  | some f =>
    let q0 := (s.decPosition d f.1 ts).1
    let line := fun (g : Int × Int → Int) (q : Nat × Nat) =>
      satStream (roundEven ((List.range 32).foldl (fun acc m =>
        acc + rsWeight 3 q.2 m * ((x[q.1 + 31 - m - q0]?).map g).getD 0) 0) (2 ^ 39))
    (List.range 64).map fun j =>
      let q := s.decPosition d f.1 (ts + j * 81920)
      (line (·.1) q, line (·.2) q)

/-- A sample of a decoder at an instant, given the last good one (R242): within a concealed run it falls from that to 0
over 192 samples, and the first 192 after a run rise. -/
def concealed (fails : List (Nat × Nat)) (u : Nat) (last x : Int × Int) : (Int × Int) × (Int × Int) :=
  match fails.find? fun r => decide (r.1 ≤ u) with
  | none => (x, x)
  | some r =>
    let w := fun (y : Int × Int) (k : Nat) => (roundEven (y.1 * k) 192, roundEven (y.2 * k) 192)
    if u < r.2 then (w last (191 - (u - r.1) / 81920), last)
    else if (u - r.2) / 81920 < 192 then (w x ((u - r.2) / 81920), x)
    else (x, x)

/-- The samples of a block with what is concealed, and the last good sample after it. -/
def concealAll (fails : List (Nat × Nat)) : Nat → Int × Int → List (Int × Int) → List (Int × Int) × (Int × Int)
  | _, last, [] => ([], last)
  | u, last, x :: t =>
    let y := concealed fails u last x
    let r := concealAll fails (u + 81920) y.2 t
    (y.1 :: r.1, r.2)

/-- A decoder's pods, or those of its slot, are out at a block: its samples are zeros (R13, R167). -/
def State.decVoid (s : State) (d ts : Nat) : Bool :=
  let hi := ts + Config.audioBlock - 1
  s.voidOver 3 d ts hi || s.voidOver 2 (s.getF (DECd_CTL_SLOT d)) ts hi

/-- A decoder's block is released at its TS plus the latency (R240, R241), mono audio on both channels (R239), and dropped
where that instant has passed or it is not complete (R26): the first 1,152 samples are warm-up, failed frames are
concealed, and a STOP takes effect at the boundary (R238, R242). -/
def decRelease (d t : Nat) (audio : Option (List (Int × Int))) (s : State) : State :=
  let v := s.decoder d
  let lat := s.decLat d
  if s.decState d != 0 && v.change = .stop && decide (v.due ≤ t) then decStopped d s
  else if !(s.decState d = 2 || s.decState d = 3) || decide (t < v.runAt + lat) || (t - lat) % Config.audioBlock != 0
      || (s.released 3 d).at_.any (fun x => decide (t ≤ x)) then s
  else
    match (if decide (s.now ≤ t) && (s.frameBefore (s.getF (DECd_CTL_SLOT d)) (t - lat)).isSome && !s.abandoned 3 d t
        then audio else none) with
      | none => releaseNote 3 d t none (dmaBlock 10 d t none (s.setDecoder d { v with dropNext := true }))
      | some x =>
          let ts := t - lat
          let flags := s.decFlags d ts
          let x := if s.flag (DECd_STAT_STEREO d) then x else x.map fun p => (p.1, p.1)
          let y := if s.decVoid d ts then (List.replicate 64 (0, 0), (0, 0))
            else concealAll v.fails ts v.lastGood (s.decInterpolate d ts x)
          let b : Block := ⟨ts, flags, y.1.flatMap fun p => [p.1, p.2]⟩
          let l := warmRamp 2 1152 (1152 - v.warmLeft) v.warmLeft b.samples
          let left := v.warmLeft - 64
          let s1 := (s.setDecoder d { v with warmLeft := left, dropNext := false, lastGood := y.2
                                             fails := v.fails.filter fun r => decide (ts ≤ r.2 + Config.ticksPerSecond) }).setB
            (DECd_STAT_WARMUP d) (left != 0)
          decGood d ts (releaseNote 3 d t (some b) (streamNote 3 d b
            (dmaBlock 10 d ts (some (dmaBytes s1 2 d ts flags l)) (obsBlock 2 d flags s1))))

/-- BLOCK_RELEASE: the release instant t of a block of stream kind 1 path, 2 decoder or 3 programme; for a decoder with
the audio decoded, none where the block is not complete (R23, R26). -/
def execBlockRelease (kind inst t : Nat) (audio : Option (List (Int × Int))) (s : State) : Host.Outcome State Fault Refusal :=
  let s0 := s.advance t
  .next <|
    if s.stage != 4 then s
    else if kind = 1 && inst < 512 then pathRelease inst t s0
    else if kind = 2 && inst < 128 then decRelease inst t audio s0
    else if kind = 3 && inst < 256 then progRelease inst t s0
    else s

/-! ## Checkpoints and wear -/

/-- CHECKPOINT_WRITE: at the release instant t every pod of MAP kinds 0 to 4 writes its checkpoint and journal, of which
this many were refused (R558). -/
def execCheckpointWrite (refused t : Nat) (s : State) : Host.Outcome State Fault Refusal :=
  .next <|
    if !s.feat 18 || t % Config.releasePeriod != 0 then s
    else
      let s1 := ((s.advance t).setF REL_JRN_ON 1).bumpBy REL_JRN_LOST refused
      { s1 with fab := { s1.fab with ckptAt := t } }

/-- 2^(j/40) for j = 0 to 39 in units of 2^-32, to the nearest (notes/assumptions/31.md). -/
def wearTable : List Nat :=
  [4294967296, 4370042002, 4446428991, 4524151200, 4603231970, 4683695048, 4765564595, 4848865197, 4933621868, 5019860059,
   5107605667, 5196885042, 5287724992, 5380152797, 5474196211, 5569883475, 5667243324, 5766304992, 5867098228, 5969653298]
  ++ [6074001000, 6180172667, 6288200183, 6398115986, 6509953083, 6623745059, 6739526083, 6857330924, 6977194957, 7099154176,
   7223245206, 7349505308, 7477972398, 7608685053, 7741682525, 7877004752, 8014692369, 8154786724, 8297329886, 8442364657]

/-- Equivalent seconds at 95 °C of one second at q quarter degrees, in units of 2^-32 s (R563). -/
def wearOf (q : Int) : Nat :=
  let k := q - 380
  let m := wearTable.getD (k % 40).toNat 0
  if 0 ≤ k / 40 then m * 2 ^ (k / 40).toNat else m / 2 ^ (-(k / 40)).toNat

/-- WEAR_SECOND (R563). -/
def execWearSecond (t : Nat) (s : State) : Host.Outcome State Fault Refusal :=
  .next <|
    if s.pwr.inReset then s
    else
      let s0 := s.advance t
      let w := s0.fab.wear + wearOf (s0.getI SYS_THERM_TMAX)
      { s0.set64 REL_WEAR_LO REL_WEAR_HI (w / 4294967296) with fab := { s0.fab with wear := w } }

/-! ## Sprout -/

/-- SNAP: every counter is latched at one instant; counter reads return the latched values (R565). -/
def obsSnapDo (s : State) : State :=
  let s1 := s.set64 OBS_SNAP_TS_LO OBS_SNAP_TS_HI s.now
  forEach (List.range 1024) (fun c s => s.set64 (OBS_CNT_LO c) (OBS_CNT_HI c) (sget cntNone s.obs.cnt c)) s1

/-- CLEAR: every counter, and what its reads return, is zero (R565). -/
def obsClearDo (s : State) : State :=
  let s1 := { s with obs := { s.obs with cnt := [] } }
  forEach (List.range 1024) (fun c s => s.set64 (OBS_CNT_LO c) (OBS_CNT_HI c) 0) s1

/-- A write of OBS_SNAP (R565, R569). -/
def obsSnapWrite (w : Nat) (s : State) : State :=
  if w % 4 = 3 then refuse OBS_REFUSE codeReserved s
  else if w.testBit 0 then obsSnapDo s else if w.testBit 1 then obsClearDo s else s

/-- SNAP. -/
def execObsSnap (m : Master) (s : State) : Host.Outcome State Fault Refusal := .next (gated m OBS_SNAP 1 (obsSnapWrite 1) s)

/-- CLEAR. -/
def execObsClear (m : Master) (s : State) : Host.Outcome State Fault Refusal := .next (gated m OBS_SNAP 2 (obsSnapWrite 2) s)

/-- The configuration of a counter is in range (R565, R569). -/
def ccfgOk (w : Nat) : Bool :=
  let mode := bitsOf w 31 30
  let sel := bitsOf w 9 0
  if mode = 1 then decide (sel ≤ 255) && bitsOf w 29 22 == 0
  else if mode = 2 then
    decide (sel < (let k := bitsOf w 21 20; if k = 0 then 512 else if k = 1 then 256 else if k = 2 then 128 else 48))
  else if mode = 3 then decide (sel ≤ 269)
  else true

/-- A write of an OBS register (R567, R569). -/
def obsRegWrite (a : Nat) (w : Word) (s : State) : State :=
  if a = OBS_SNAP then obsSnapWrite w.toNat s
  else if OBS_CCFG 0 ≤ a && a < OBS_CCFG 1024 && !ccfgOk w.toNat then refuse OBS_REFUSE codeReserved s
  else if a = OBS_SPILL then
    if keeps a w s then s
    else if s.flag OBS_CTL_TRACE_EN then refuse OBS_REFUSE codeWrongState s
    else if s.regionSize 4 < (bitsOf w.toNat 31 16 + bitsOf w.toNat 15 0) * 65536 then refuse OBS_REFUSE codeReserved s
    else
      let s1 := regPut a w s
      { s1 with obs := { s1.obs with spillWp := 0 } }
  else plainWrite a w s

end Sys2Proof.Machine
end

