-- ==== Sys2Proof/Machine/Seq.lean ====
section
/-! DEFINITION. The Izham cores (spec/16 R405 to R437): registers with results in flight, halting and stepping, the
watchdog, core pairs, and the SEQ registers. -/

namespace Sys2Proof.Machine

/-! ## Registers and results in flight -/

/-- What an unlisted core holds. -/
def coreNone (_ : Nat) : Core := {}

/-- Logical core k beside its registers. -/
def State.core (s : State) (k : Nat) : Core := sget coreNone s.cores k

/-- Replace a core. -/
def State.setCore (k : Nat) (c : Core) (s : State) : State := { s with cores := sset coreNone k c s.cores }

/-- What an unlisted word, accumulator, binding, descriptor and AOV bit hold. -/
def zero24 (_ : Nat) : BitVec 24 := 0
def zero56 (_ : Nat) : BitVec 56 := 0
def zeroNat (_ : Nat) : Nat := 0
def sdNone (_ : Nat) : SegDesc := {}
def noBit (_ : Nat) : Bool := false

/-- A descriptor as the three words of SETSD and GETSD make it, gA lowest (R450). -/
def SegDesc.pack (d : SegDesc) : Nat :=
  d.base % 2 ^ 24 + 2 ^ 24 * (d.base / 2 ^ 24 + 64 * d.mode + 256 * d.wp.toNat) + 2 ^ 48 * d.limit

/-- The descriptor of three words. -/
def SegDesc.unpack (n : Nat) : SegDesc :=
  ⟨n % 2 ^ 30, n / 2 ^ 48 % 2 ^ 24, n / 2 ^ 30 % 4, n.testBit 32⟩

/-- General register n as it reads now; g0 reads 0 (R410). -/
def Core.reg (c : Core) (n : Nat) : BitVec 24 := if n = 0 then 0 else sget zero24 c.g n

/-- Accumulator k, pointer n's offset and binding, descriptor n. -/
def Core.acc (c : Core) (k : Nat) : BitVec 56 := sget zero56 c.a k
def Core.ptr (c : Core) (n : Nat) : BitVec 24 := sget zero24 c.p n
def Core.bind (c : Core) (n : Nat) : Nat := sget zeroNat c.pb n
def Core.desc (c : Core) (n : Nat) : SegDesc := sget sdNone c.sd n

/-- An accumulator with part 0 [23:0], 1 [47:24] or 2 [55:48] replaced. -/
def accPart (old : BitVec 56) (part v : Nat) : BitVec 56 :=
  BitVec.ofNat 56 (if part = 0 then putBits old.toNat 23 0 v else if part = 1 then putBits old.toNat 47 24 v
    else putBits old.toNat 55 48 v)

/-- A result becomes readable. -/
def Core.put (r : IzReg) (v : Nat) (c : Core) : Core :=
  match r with
  | .g n => if n = 0 then c else { c with g := sset zero24 n (BitVec.ofNat 24 v) c.g }
  | .a k => { c with a := sset zero56 k (BitVec.ofNat 56 v) c.a }
  | .aPart k part => { c with a := sset zero56 k (accPart (c.acc k) part v) c.a }
  | .p n => { c with p := sset zero24 n (BitVec.ofNat 24 v) c.p }
  | .pb n => { c with pb := sset zeroNat n v c.pb }
  | .sd n => { c with sd := sset sdNone n (SegDesc.unpack v) c.sd }
  | .sp => { c with sp := BitVec.ofNat 24 v }
  | .ls k => { c with ls := sset zero24 k (BitVec.ofNat 24 v) c.ls }
  | .le k => { c with le := sset zero24 k (BitVec.ofNat 24 v) c.le }
  | .lc k => { c with lc := sset zero24 k (BitVec.ofNat 24 v) c.lc }
  | .ie => { c with ie := v != 0 }
  | .ldepth => { c with ldepth := v }
  | .mflt => { c with mflt := v }
  | .aov k => { c with aov := sset noBit k (v != 0) c.aov }

/-- The register that a result belongs to: an accumulator's parts are one register (R427). -/
def homeReg : IzReg → IzReg
  | .aPart k _ => .a k
  | r => r

/-- The longest distance still pending on a register (R427). -/
def Core.pendLeft (c : Core) (r : IzReg) : Nat :=
  c.pend.foldl (fun m p => if homeReg p.reg = homeReg r then max m p.left else m) 0

/-- The instruction being issued writes v to a register at distance d; writes to g0 are discarded (R410, R426, R427). -/
def Core.later (r : IzReg) (d v : Nat) (early : Bool) (c : Core) : Core :=
  if r = .g 0 then c else { c with pend := c.pend ++ [⟨r, v, max d (c.pendLeft r), early⟩] }

/-- A write between two instructions: readable by the next one, or when the writes still pending on it are (R427). -/
def Core.now (r : IzReg) (v : Nat) (c : Core) : Core :=
  if c.pendLeft r = 0 then c.put r v else c.later r 0 v false

/-- The results that have become readable take their place, in issue order. -/
def commitDue : List IzPend → Core → Core
  | [], c => c
  | p :: t, c => commitDue t (if p.left = 0 then c.put p.reg p.val else c)

/-- One instruction has issued: every distance falls by one (R426). -/
def Core.tick (c : Core) : Core :=
  let l := c.pend.map fun p => { p with left := p.left - 1 }
  { (commitDue l c) with pend := l.filter fun p => p.left != 0 }

/-- Every pending result completes and becomes readable (R431). -/
def Core.complete (c : Core) : Core :=
  { (commitDue (c.pend.map fun p => { p with left := 0 }) c) with pend := [] }

/-- The value an accumulation builds on: the last pending MAC into accumulator k, or its readable value (R428, R452). -/
def Core.accNow (c : Core) (k : Nat) : BitVec 56 :=
  c.pend.foldl (fun v p => if p.early && p.reg = .a k then BitVec.ofNat 56 p.val else v) (c.acc k)

/-- IE as the next boundary sees it: an EI, DI or MTSW acts at the boundary that follows (R449), an RTI after the first
instruction of the interrupted code (R434). -/
def Core.ieNow (c : Core) : Bool :=
  c.pend.foldl (fun v p => if p.early && p.reg = .ie then p.val != 0 else v) c.ie

/-- SW as MFSW and GETs read it: DS, REPV and REPR read 0 in the live SW (R411, R449). -/
def Core.sw (c : Core) : Nat :=
  c.ie.toNat * 2 ^ 23 + c.ldepth * 2 ^ 10 + c.mflt * 2 ^ 7
    + packBits ((List.range 4).map fun k => sget noBit c.aov k) * 8

/-- A value for SW has no reserved value in LDEPTH, MFLT and bits [2:0] (R411, R449). -/
def swOk (v : Nat) : Bool :=
  let m := bitsOf v 9 7
  decide (bitsOf v 12 10 ≤ 4) && (m == 0 || m == 2 || m == 3 || m == 4) && bitsOf v 2 0 == 0

/-! ## States -/

/-- SEQk_STAT.STATE: 0 RESET, 1 RUN, 2 HALTED, 3 FAILED (R436). -/
def State.seqState (s : State) (k : Nat) : Nat := s.getF (SEQk_STAT_STATE k)

/-- The core may issue or take an interrupt: firmware has started, and it is not moving to another pair (R407, R417). -/
def State.coreLive (s : State) (k : Nat) : Bool :=
  decide (k < 8) && !s.pwr.inReset && decide (2 ≤ s.stage) && !(s.core k).moving

/-- A boundary at which R434 allows an interrupt, apart from IE. -/
def Core.boundary (c : Core) : Bool := !c.issuing && c.delay.isNone

/-- The core stops at this boundary: its pending results complete and SEQk_PC shows where it stands (R437). -/
def coreStop (k : Nat) (s : State) : State :=
  let c := (s.core k).complete
  ((s.setCore k c).setF (SEQk_PC_PC k) c.pc.toNat).setF (SEQk_STAT_STATE k) 2

/-- Halt a running core whose HALT is 1 at the first boundary that allows it (R437). -/
def haltTry (k : Nat) (s : State) : State :=
  if s.flag (SEQk_CTL_HALT k) && s.seqState k == 1 && (s.core k).boundary && !(s.core k).moving then coreStop k s else s

/-- A halted core resumes at SEQk_PC (R437). -/
def coreResume (k : Nat) (s : State) : State :=
  if s.seqState k = 2 then
    ((s.setF (SEQk_STAT_STATE k) 1).setF (SEQk_STAT_DBL k) 0).setCore k
      { s.core k with pc := BitVec.ofNat 24 (s.getF (SEQk_PC_PC k)) }
  else s

/-- A write of w to SEQk_CTL (R436, R437): HALT and STEP need a core that has not failed, and STEP a halted one.  A STEP
is carried out when the write that asked for it has completed. -/
def seqCtlWrite (k w : Nat) (s : State) : State :=
  let halt := w.testBit 31
  let step := w.testBit 30
  let st := s.seqState k
  if (st = 3 && (step || halt != s.flag (SEQk_CTL_HALT k))) || (step && st != 2) then refuseInst (SEQk_STAT k) codeWrongState s
  else if 0x7FF < bitsOf w 23 8 then refuseInst (SEQk_STAT k) codeReserved s
  else
    let s1 := regPut (SEQk_CTL k) (BitVec.ofNat 32 w) s
    if halt then
      if step then s1.setCore k { s1.core k with stepAsked := true } else haltTry k s1
    else coreResume k s1

/-- The watchdog's period starts again (R437). -/
def wdogRestart (k : Nat) (s : State) : State := s.setCore k { s.core k with wdogAt := s.now }

/-- A write of w to SEQk_WDOG (R436, R437). -/
def seqWdogWrite (k w : Nat) (s : State) : State :=
  let ms := bitsOf w 15 0
  if ms = 0 || 60000 < ms then refuseInst (SEQk_STAT k) codeReserved s
  else
    let rise := w.testBit 31 && !s.flag (SEQk_WDOG_EN k)
    let s1 := regPut (SEQk_WDOG k) (BitVec.ofNat 32 w) s
    if rise || w.testBit 30 then wdogRestart k s1 else s1

/-- A native write to the registers of SQ0 is refused while the personality owns it (R22, R436). -/
def seqGuard (m : Master) (k : Nat) (f : State → State) (s : State) : State :=
  if s.ktOwned && k = 0 && m != .personality then refuseInst (SEQk_STAT k) codeOwned s else f s

/-- A write of an SEQ register by master m (R435, R436); cores at or beyond 8 do not exist. -/
def seqRegWrite (m : Master) (a : Nat) (w : Word) (s : State) : State :=
  let k := (a - SEQk_CTL 0) / 0x40
  if a < SEQk_CTL 0 || 8 ≤ k then s
  else if a = SEQk_CTL k then seqGuard m k (seqCtlWrite k w.toNat) s
  else if a = SEQk_WDOG k then seqGuard m k (seqWdogWrite k w.toNat) s
  else seqGuard m k (fun s => s) s

/-- HALT: a write of SEQk_CTL that sets or clears HALT and keeps VBASE. -/
def execCoreHalt (m : Master) (k : Nat) (on : Bool) (s : State) : Host.Outcome State Fault Refusal :=
  let w := on.toNat * 2 ^ 31 + s.getF (SEQk_CTL_VBASE k) * 256
  .next (if k < 8 then gated m (SEQk_CTL k) w (seqGuard m k (seqCtlWrite k w)) s else s)

/-- KICK: a write of SEQk_WDOG with KICK that keeps EN and PERIOD_MS. -/
def execCoreKick (m : Master) (k : Nat) (s : State) : Host.Outcome State Fault Refusal :=
  let w := s.getF (SEQk_WDOG_EN k) * 2 ^ 31 + 2 ^ 30 + s.getF (SEQk_WDOG_PERIOD_MS k)
  .next (if k < 8 then gated m (SEQk_WDOG k) w (seqGuard m k (seqWdogWrite k w)) s else s)

/-- WDOG: the watchdog's period has passed at t without a KICK (R437). -/
def execCoreWdog (k t : Nat) (s : State) : Host.Outcome State Fault Refusal :=
  let s1 := s.advance t
  .next (if s1.coreLive k && s1.flag (SEQk_WDOG_EN k)
      && decide ((s1.core k).wdogAt + s1.getF (SEQk_WDOG_PERIOD_MS k) * Config.ticksPerMs ≤ s1.now) then
    wdogRestart k (raise evWdog (0x100 + k) (haltTry k (s1.setB (SEQk_CTL_HALT k) true)))
  else s)

/-! ## Core pairs (R405 to R408, R560) -/

/-- The core that runs on pair j, from LOADED on. -/
def State.onPair (s : State) (j : Nat) : Option Nat := (List.range 8).find? fun k => s.getF (SEQk_STAT_PAIR k) == j

/-- Core k stops for good (R408). -/
def coreFail (k : Nat) (s : State) : State :=
  remapShow ((s.setF (SEQk_STAT_STATE k) 3).setCore k { s.core k with moving := false, stepAsked := false })

/-- The cores of pair j disagree: its core moves to pair 8 where that is free, or fails (R407, R408, R560).  A
disagreement of pair 8 while a core moves to it makes that core FAILED. -/
def pairFault (j : Nat) (s : State) : State :=
  let failed := s.getF SEQ_PAIRS_FAILED
  if 9 ≤ j || failed.testBit j then s
  else
    let free := s.flag SEQ_PAIRS_SPARE_FREE
    let s1 := raise evPairFault j ((s.setF SEQ_PAIRS_FAILED (failed + 2 ^ j)).bump SEQ_PAIRCNT_FAULTS)
    let s2 := if j = 8 then s1.setF SEQ_PAIRS_SPARE_FREE 0 else s1
    match (if j = 8 then (List.range 8).find? fun k => (s.core k).moving else none).or (s.onPair j) with
    | none => s2
    | some k =>
      if j != 8 && free && s.seqState k != 3 then
        remapShow ((s2.setF SEQ_PAIRS_SPARE_FREE 0).setCore k { s2.core k with moving := true })
      else coreFail k s2

/-- PAIR_FAULT: pair j disagrees at t. -/
def execPairFault (j t : Nat) (s : State) : Host.Outcome State Fault Refusal :=
  .next (if s.pwr.inReset || s.stage < 2 then s else pairFault j (s.advance t))

/-- Pair 8 issues its first instruction for the core that moved to it (R560); the event names the pair that failed, and a
HALT that waited takes effect. -/
def pairMoved (t : Nat) (s : State) : State :=
  match (List.range 8).find? fun k => (s.core k).moving with
  | some k =>
    let s1 := remapShow ((s.advance t).setCore k { s.core k with moving := false })
    let s2 := (s1.setF (SEQk_STAT_PAIR k) 8).setF SEQ_PAIRS_SPARE_USER k
    haltTry k (raise evPairRemap (s1.getF (SEQk_STAT_PAIR k)) s2)
  | none => s

/-! ## Start -/

/-- The state in which firmware starts a core at LOADED (R417, R538): a section without code leaves it in RESET. -/
def coreStart (k : Nat) (code : List Byte) (len entry : Nat) (s : State) : State :=
  let all : SegDesc := ⟨0x30000000, 196608, 0, false⟩
  ((s.setCore k { code := code, sd := [(0, all), (15, all)], sp := 196608, pc := BitVec.ofNat 24 entry, wdogAt := s.now }).setF
    (SEQk_STAT_STATE k) (if len = 0 then 0 else 1)).setF (SEQk_STAT_PAIR k) k

end Sys2Proof.Machine
end

