-- ==== Sys2Proof/Machine/Boot.lean ====
section
/-! DEFINITION. Supplies, the internal reset and its causes, temperature (spec/02 R51 to R62), the boot from flash or
over PCIe, and feature negotiation (spec/03 R63 to R85). -/

namespace Sys2Proof.Machine

/-! ## The internal reset -/

/-- The state in the internal reset (R44, R54, R66): nothing loaded earlier is kept.  What survives is the queue of
commands, the levels of the input balls, OTP and the NV store, the causes of R56 and SYS_THERM.TRIP. -/
def enterReset (s : State) : State :=
  let s1 : State :=
    { pending := s.pending, freeCtr := s.freeCtr
      pins := { paFaultN := s.pins.paFaultN, slGnt := s.pins.slGnt, perstN := s.pins.perstN }
      pwr := { railsOk := s.pwr.railsOk, porDone := s.pwr.porDone, tripHold := s.pwr.tripHold, hot := s.pwr.hot }
      sec := { otp := s.sec.otp, nv := s.sec.nv } }
  (s1.wr SYS_RSTCAUSE (s.rd SYS_RSTCAUSE)).setF SYS_THERM_TRIP (s.getF SYS_THERM_TRIP)

/-- Whether a low pulse of this many nanoseconds on RESET_N takes effect (R54): from 100 ns to 1 µs it may or may not. -/
def pulseTakes (ns : Nat) (took : Bool) : Bool := decide (1000 ≤ ns) || (decide (100 ≤ ns) && took)

/-- RESET_N_ASSERT (R54, R56, R59, R66): a cause that coincides with others is recorded beside them. -/
def execResetNAssert (ns : Nat) (took : Bool) (s : State) : Host.Outcome State Fault Refusal :=
  .next (if !pulseTakes ns took then s
    else
      let s1 := (enterReset s).setF SYS_RSTCAUSE_PIN 1
      { s1 with pwr := { s1.pwr with tripHold := false } })

/-- RAILS_ABOVE_BROWNOUT_THRESHOLD: every rail has passed its threshold with the HK oscillator running (R54). -/
def execRailsAboveBrownoutThreshold (s : State) : Host.Outcome State Fault Refusal :=
  .next { s with pwr := { s.pwr with railsOk := true } }

/-- POWER_ON_TIMING_DONE: 2 ms later (R54). -/
def execPowerOnTimingDone (s : State) : Host.Outcome State Fault Refusal :=
  .next (if s.pwr.railsOk then { s with pwr := { s.pwr with porDone := true } } else s)

/-- BROWNOUT: the rails whose BOR bits this mask has fell below their thresholds for 1 µs; nvLost where VDD_NV fell below
1.2 V (R55, R56).  The hold of a thermal trip outlives it (notes/assumptions/105.md). -/
def execBrownout (rails : Nat) (nvLost : Bool) (s : State) : Host.Outcome State Fault Refusal :=
  .next (if rails % 256 = 0 then s
    else
      let s1 := enterReset s
      let s2 := { s1 with pwr := { s1.pwr with railsOk := false, porDone := false } }
      if nvLost then
        ((s2.wr SYS_RSTCAUSE 0).setF SYS_RSTCAUSE_POR 1).setF SYS_THERM_TRIP 0
      else s2.wr SYS_RSTCAUSE (s2.rd SYS_RSTCAUSE ||| BitVec.ofNat 32 (rails % 256)))

/-! ## Temperature -/

/-- The number of the highest reading of a list, the first where several are equal. -/
def hottest (l : List Int) : Nat := l.idxOf (l.foldl max (l.headD 0))

/-- SYS_THERM shows a set of readings (R58, R60). -/
def thermShow (q : Temps) (s : State) : State :=
  let s1 := (s.setF SYS_THERM_HOTTEST (hottest q.ts)).setI SYS_THERM_TMAX (q.ts.foldl max (q.ts.headD 0))
  let s2 := s1.setI SYS_THERM_TEXT (q.text.getD (-512))
  { s2 with pwr := { s2.pwr with temps := q.ts } }

/-- A set of readings is shown and judged (R59): a reading at or above the threshold warns, and the warning clears when
every reading is 2 °C or more below it.  The event names the hottest sensor. -/
def thermJudge (q : Temps) (s : State) : State :=
  let s1 := thermShow q s
  let lim : Int := 4 * s.getF SYS_THERM_CFG_WARN_C
  if q.ts.any fun x => decide (lim ≤ x) then
    if s1.flag SYS_THERM_WARN then s1 else raise evThermWarn (hottest q.ts) (s1.setF SYS_THERM_WARN 1)
  else if q.ts.all fun x => decide (x ≤ lim - 8) then s1.setF SYS_THERM_WARN 0
  else s1

/-- A sensor reads 127.50 °C or more. -/
def tripReading (q : Temps) : Bool := q.ts.any fun x => decide (510 ≤ x)

/-- A thermal trip: the part enters the internal reset, or stays in it, until RESET_N pulses and every sensor reads below
105 °C (R59). -/
def thermTrip (s : State) : State :=
  let s1 := ((enterReset s).setF SYS_RSTCAUSE_THERM 1).setF SYS_THERM_TRIP 1
  { s1 with pwr := { s1.pwr with tripHold := true, hot := true } }

/-- THERM_WARN: a set of readings (R58, R59); one at the trip level trips. -/
def execThermWarn (temps : Temps) (s : State) : Host.Outcome State Fault Refusal :=
  .next (if temps.ts.length != 8 then s else if tripReading temps then thermTrip s
    else if s.pwr.inReset then s else thermJudge temps s)

/-- THERMAL_TRIP: a sensor reads 127.50 °C or more, in the internal reset as well (R59). -/
def execThermalTrip (temps : Temps) (s : State) : Host.Outcome State Fault Refusal :=
  .next (if tripReading temps then thermTrip s else s)

/-! ## Boot -/

/-- Record a failed image or directory copy: ERR, ERR_IMG and FAILS (R77). -/
def bootFail (err img : Nat) (s : State) : State :=
  ((s.setF SYS_BOOT_ERR err).setF SYS_BOOT_ERR_IMG img).bump SYS_BOOT_FAILS

/-- Recovery: the boot ROM waits for a PCIe load (R72). -/
def bootRecover (s : State) : State :=
  let s1 := (s.setF SYS_BOOT_RECOVERY 1).setF SYS_BOOT_WAIT_HOST 1
  { s1 with boot := { s1.boot with dirNext := 2, fw := none, bs := none, hostLoad := false } }

/-- INTERNAL_RESET_END: at the later of the rise of RESET_N and the end of power-on timing the boot ROM starts, with the
straps as sampled, and the SPLL runs free on the HK crystal until R70 measures REF_IN (R41, R48, R49, R52, R54, R59, R63,
R65, R102). -/
def execInternalResetEnd (straps : Straps) (early : Bool) (temps : Temps) (licVerifies : Bool) (s : State) :
    Host.Outcome State Fault Refusal :=
  .next (if !s.pwr.inReset || !s.pwr.railsOk || !s.pwr.porDone || s.pwr.tripHold || temps.ts.length != 8 then s
    else if tripReading temps then thermTrip s
    else if (s.pwr.hot && !(temps.ts.all fun x => decide (x < 420))) then s
    else
      let src := straps.bootSrc % 4
      let flash := src == 0 || src == 2
      let s1 := { s with
        pwr := { s.pwr with inReset := false, hot := false }
        pins := { s.pins with vid := some 20, qspi := flash }
        boot := { s.boot with straps := straps }
        sec := { s.sec with licSig := licVerifies } }
      let s2 := ((s1.setB SYS_STRAP_EARLY early).setF SYS_STRAP_CFG_SEL straps.cfgSel).setF SYS_STRAP_BOOT_SRC straps.bootSrc
      let s3 := spllEnter 1 (secBoot (thermJudge temps (s2.setB SYS_STRAP_HB_MODE straps.hbMode)))
      if src = 3 then bootRecover (s3.setF SYS_BOOT_ERR 10)
      else if src = 1 then s3.setF SYS_BOOT_WAIT_HOST 1
      else s3)

/-- MARROW_INIT_DONE: training and zeroing complete for the stacks of this mask (R70, R281). -/
def execMarrowInitDone (trained : Nat) (s : State) : Host.Outcome State Fault Refusal :=
  .next (if s.pwr.inReset || s.flag MRW_STAT_INIT_DONE then s
    else
      let s1 := { s.setF MRW_STAT_STACK_OK trained with mem := [] }
      if trained % 16 = 15 then s1.setF MRW_STAT_INIT_DONE 1
      else (s1.setF SYS_BOOT_ERR 8).setF SYS_BOOT_ERR_IMG 0)

/-- REF_MEASURE_DONE: the ROM's 1 ms measurement of REF_IN found this frequency in Hz (R70, R93).  REF_OK is set with it
(notes/assumptions/107.md). -/
def execRefMeasureDone (hz : Nat) (s : State) : Host.Outcome State Fault Refusal :=
  .next (if s.pwr.inReset || s.boot.refDone then s
    else
      let n := classifyRef hz
      let s0 := { s with boot := { s.boot with refDone := true } }
      if n = 0 then spllEnter 1 (s0.setF CLK_CTL_SRC 2)
      else
        let s1 := ((loadDivider n s0).setF CLK_CTL_SRC 0).setF CLK_STAT_REF_DET n
        let s2 := spllEnter 2 (s1.setF CLK_STAT_REF_OK 1)
        spllFollow true { s2 with clk := { s2.clk with refDet := n } })

/-- What is wrong with a directory copy: 0 nothing, 1 MAGIC or CRC (NOIMAGE), 2 FORMAT or DUMMY (R69, R72).  MAGIC and CRC
are read little-endian, as the offsets are (notes/assumptions/106.md). -/
def dirCheck (l : List Byte) : Nat :=
  if l.length != 256 || leAt l 0 4 != 0x56444952 || crc32 (l.take 252) != leAt l 252 4 then 1
  else if leAt l 4 1 != 1 || leAt l 5 1 < 4 || 14 < leAt l 5 1 then 2 else 0

/-- A directory copy reads as all zeros or all ones (R72). -/
def dirBlank (l : List Byte) : Bool := l.all (· == 0) || l.all (· == 0xFF)

/-- The entry that CFG_SEL selects is used; one without a firmware or bitstream copy enters recovery (R64, R69, R72). -/
def dirUse (l : List Byte) (s : State) : State :=
  let o := 8 + 32 * (s.boot.straps.cfgSel % 4)
  let e := (List.range 4).map fun j => leAt l (o + 4 * j) 4
  let s1 := s.setF SYS_BOOT_ENTRY s.boot.straps.cfgSel
  let s2 := { s1 with boot := { s1.boot with
    dirNext := 2
    entry := e
    fwTry := if e.getD 0 0 = 0 then 1 else 0
    bsTry := if e.getD 2 0 = 0 then 1 else 0 } }
  if e.getD 0 0 = 0 && e.getD 1 0 = 0 then bootRecover ((s2.setF SYS_BOOT_ERR 1).setF SYS_BOOT_ERR_IMG 2)
  else if e.getD 2 0 = 0 && e.getD 3 0 = 0 then bootRecover ((s2.setF SYS_BOOT_ERR 1).setF SYS_BOOT_ERR_IMG 3)
  else s2

/-- A directory copy has failed with this code: the next copy is read, or the boot ROM enters recovery (R69, R72).  One
read that timed out makes the directory's error FLASH whatever the other copy shows (notes/assumptions/150.md). -/
def dirFail (code : Nat) (blank late : Bool) (s : State) : State :=
  let b := s.boot
  let last := b.dirNext == 1
  let flash := late || (last && (b.dirTimeout || (blank && b.dirBlank)))
  let s1 := bootFail (if flash then 7 else code) 1 s
  if last then bootRecover s1
  else { s1 with boot := { b with dirNext := 1, dirBlank := blank, dirTimeout := late } }

/-- The boot ROM is reading this directory copy: it has measured REF_IN (R70). -/
def State.readsDir (s : State) (copy : Nat) : Bool :=
  !s.pwr.inReset && s.stage == 1 && s.boot.refDone && s.pins.qspi && s.boot.dirNext == copy && decide (copy < 2)

/-- DIRECTORY_READ: a directory copy has been read as these bytes (R69, R72, R77). -/
def execDirectoryRead (copy : Nat) (bytes : List Byte) (s : State) : Host.Outcome State Fault Refusal :=
  .next (if !s.readsDir copy then s
    else if dirCheck bytes = 0 then dirUse bytes s
    else dirFail (if dirCheck bytes = 1 then 1 else 2) (dirBlank bytes) false s)

/-- DIRECTORY_READ_TIMEOUT: the read of a copy has not completed within 10 ms (R72). -/
def execDirectoryReadTimeout (copy : Nat) (s : State) : Host.Outcome State Fault Refusal :=
  .next (if s.readsDir copy then dirFail 7 false true s else s)

/-- The first check of R71 that a firmware image fails, as an ERR code; 0 where it passes all (R538, R539). -/
def State.fwCheck (s : State) (h : FwHdr) (g : SigBlock) : Nat :=
  if !h.formatOk || !g.formatOk || decide (64 < h.secver) then 2
  else if !s.keyGood g then 3
  else if !g.verifies then 4
  else if h.secver < s.sec.otp.fwMin then 5
  else if Config.step < h.stepMin || h.stepMax < Config.step then 6 else 0

/-- The first check that a bitstream fails for a firmware's list of families: those of R71 in its order, where the format
and the size are the header's and the signature block's, and then those of R159 to R161 on the frames
(notes/assumptions/156.md). -/
def State.bsCheck (s : State) (fam : List Nat) (h : BsHdr) (g : SigBlock) : Nat :=
  if !hdrOk h || !h.sizesOk || h.kind != 0 || !g.formatOk then 2
  else if !s.keyGood g then 3
  else if !g.verifies then 4
  else if h.secver < s.sec.otp.bsMin then 5
  else if Config.step < h.stepMin || h.stepMax < Config.step then 6
  else if !fam.contains h.family then 9
  else if !h.framesOk || !(h.map.all fun r => decide (r.lpod < h.lpods)) then 2 else 0

/-- An image copy has failed: a PCIe load waits for the host again; a flash boot tries the alternate copy, or enters
recovery (R72, R74). -/
def imageFail (err img key : Nat) (s : State) : State :=
  let s1 := bootFail err img s
  let s2 := if err = 3 || err = 4 then raise evSigFail key s1 else s1
  let b := s2.boot
  if b.hostLoad then
    { s2.setF SYS_BOOT_WAIT_HOST 1 with boot := { b with hostLoad := false, fw := none, bs := none } }
  else if img = 2 && b.fwTry = 0 && b.entry.getD 1 0 != 0 then { s2 with boot := { b with fwTry := 1 } }
  else if img = 3 && b.bsTry = 0 && b.entry.getD 3 0 != 0 then { s2 with boot := { b with bsTry := 1 } }
  else bootRecover s2

/-- The boot ROM awaits an image: its directory entry is in use, or a PCIe load runs. -/
def State.readsImage (s : State) : Bool :=
  !s.pwr.inReset && s.stage == 1 && s.boot.refDone && !s.boot.configuring && (s.boot.hostLoad || (s.pins.qspi && !s.boot.entry.isEmpty
    && !s.flag SYS_BOOT_WAIT_HOST))

/-- A firmware image is checked, with the verdicts on its signature block and its SHA-256; it is released to the cores
only after that (R70, R71). -/
def fwVerify (l : List Byte) (v : SigVerdict) (hash : Nat) (s : State) : State :=
  let h := fwHdrOf l hash
  let g := fwSigOf l v
  let e := s.fwCheck h g
  if e != 0 then imageFail e 2 g.keySel s
  else
    let s1 := s.setB SYS_BOOT_FW_ALT (!s.boot.hostLoad && s.boot.fwTry == 1)
    { s1 with boot := { s1.boot with fw := some h, fwKey := g } }

/-- A bitstream file is checked for a firmware's families where it lies in the firmware region, into which a copy from
flash has been read, at offset 0 (R70, R71, R163; notes/assumptions/114.md). -/
def bsVerify (fam : List Nat) (f : BsFile) (v : SigVerdict) (hash : Nat) (s0 : State) : State :=
  let s := if s0.boot.hostLoad then s0 else s0.store (s0.regionBase 3) (fileBytes f)
  let h := bsHdrOf f hash
  let g := bsSigOf f v
  let e := s.bsCheck fam h g
  if e != 0 then imageFail e 3 g.keySel s
  else
    let s1 := s.setB SYS_BOOT_BS_ALT (!s.boot.hostLoad && s.boot.bsTry == 1)
    { s1 with boot := { s1.boot with bs := some h, bsKey := g, configuring := true
                                     bsAt := if s.boot.hostLoad then s.getF SYS_BOOT_IMG_BS_OFF * 65536 else 0 } }

/-- IMAGE_VERIFY: an image copy has been read and is checked, firmware first and then the bitstream, which needs Marrow.
The copy is the operand's in a boot from flash, and the one the host has placed in Marrow in a load over PCIe (R70,
R71, R74). -/
def execImageVerify (img : Image) (s : State) : Host.Outcome State Fault Refusal :=
  .next (if !s.readsImage then s
    else match s.boot.fw, img with
      | none, .firmware l v hash => fwVerify (if s.boot.hostLoad then s.hostFirmware else l) v hash s
      | some w, .bitstream f v hash =>
        if !s.flag MRW_STAT_INIT_DONE then s
        else bsVerify w.families (if s.boot.hostLoad then s.hostBitstream else f) v hash s
      | _, _ => s)

/-- Firmware starts on the logical cores (R417, R538). -/
def coresStart (f : FwHdr) (s : State) : State :=
  forEach (List.range 8) (fun k s =>
    let sec := f.sections.getD k ⟨0, 0⟩
    coreStart k (f.code.getD k []) sec.len sec.entry s) s

/-- FABRIC_CONFIGURED: configuration is complete at t, and at the first release instant after it every pod enters ACTIVE:
the part is LOADED (R65, R110, R155, R417, R514, R539). -/
def execFabricConfigured (t : Nat) (s : State) : Host.Outcome State Fault Refusal :=
  .next (match s.boot.bs, s.boot.fw with
    | some h, some f =>
      if !s.boot.configuring || s.pwr.inReset then s
      else
        let s0 := (startCount s).advance t
        let s1 := s0.advance (releaseAt (s0.now + 1))
        let s2 := fabConfigure h { s1 with boot := { s1.boot with configuring := false, hostLoad := false } }
        let s3 := ((s2.setF SEC_SV_FW_SV f.secver).setF SEC_SV_BS_SV h.secver).setF SEC_STAT_FW_KEY s2.boot.fwKey.keySel
        let s4 := (s3.setF SEC_STAT_BS_KEY s3.boot.bsKey.keySel).setF SYS_BOOT_STATE 2
        calStartUp (coresStart f s4)
    | _, _ => s)

/-- FIRMWARE_READY: the part enters NEGOTIATE with the bitstream's offer valid (R65, R80). -/
def execFirmwareReady (s : State) : Host.Outcome State Fault Refusal :=
  .next (if s.stage = 2 && !s.pwr.inReset then
    (s.setF SYS_BOOT_STATE 3).wr (FEAT_OFFER 0) (BitVec.ofNat 32 s.hdr.offer) else s)

/-- A write of SYS_BOOT_CMD (R74, R78). -/
def bootCmdWrite (w : Nat) (s : State) : State :=
  if w % 2 = 0 then s
  else if !s.flag SYS_BOOT_WAIT_HOST then refuse SYS_REFUSE codeWrongState s
  else
    let s1 := s.setF SYS_BOOT_WAIT_HOST 0
    { s1 with boot := { s1.boot with hostLoad := true, fw := none, bs := none } }

/-- LOAD. -/
def execBootLoad (m : Master) (s : State) : Host.Outcome State Fault Refusal :=
  .next (gated m SYS_BOOT_CMD 1 (bootCmdWrite 1) s)

/-! ## Negotiation -/

/-- A 128-bit feature word: four registers, the lowest bits first (R80). -/
def State.feat128 (s : State) (reg : Nat → Nat) : Nat :=
  (List.range 4).foldl (fun n i => n + (s.rd (reg i)).toNat * 2 ^ (32 * i)) 0

/-- Write a 128-bit feature word. -/
def setFeat128 (reg : Nat → Nat) (v : Nat) (s : State) : State :=
  forEach (List.range 4) (fun i s => s.wr (reg i) (BitVec.ofNat 32 (v / 2 ^ (32 * i)))) s

/-- A write of FEAT_ACCEPT word i: active bits stay, and clearing one is refused (R82).  A bit cleared while BUSY that then
becomes active is set again by the next write (notes/assumptions/150.md). -/
def featAcceptWrite (i : Nat) (v : Word) (s : State) : State :=
  let act := s.rd (FEAT_ACTIVE i)
  let s1 := s.wr (FEAT_ACCEPT i) (v ||| act)
  if v &&& act = act then s1 else refuse SYS_REFUSE codeLocked s1

/-- FEAT_ACCEPT_WRITE. -/
def execFeatAcceptWrite (m : Master) (w : Nat) (v : Word) (s : State) : Host.Outcome State Fault Refusal :=
  .next (if w < 4 then gated m (FEAT_ACCEPT w) v.toNat (featAcceptWrite w v) s else s)

/-- A write of FEAT_LOCK (R81): the candidate set, the accepted set and the ring conditions of R28 are taken as they
stand, and the Marrow regions are fixed from here (R82, R283). -/
def featLockWrite (w : Nat) (s : State) : State :=
  if w % 2 = 0 then s
  else if s.stage < 3 then refuse SYS_REFUSE codeWrongState s
  else if s.flag FEAT_LOCK_BUSY then refuse SYS_REFUSE codeBusy s
  else
    let ask := s.feat128 FEAT_ACCEPT
    let cand := s.feat128 FEAT_ACTIVE ||| (ask &&& s.feat128 FEAT_OFFER)
    let gib := fun k => decide (16 ≤ (s.mrw.act.getD k (0, 0)).2)
    let s1 := (regionsFix s).setF FEAT_LOCK_BUSY 1
    { s1 with boot := { s1.boot with lock := some (cand, gib 1, gib 0, gib 2), lockAsk := ask } }

/-- LOCK. -/
def execFeatLock (m : Master) (s : State) : Host.Outcome State Fault Refusal :=
  .next (gated m FEAT_LOCK 1 (featLockWrite 1) s)

/-- Whether bit n of set c meets its requirement of R28, given the rings of 1 GiB (audio, baseband, snapshot) and the
strap HB_MODE. -/
def featMeets (c : Nat) (aud bb snap kt : Bool) (n : Nat) : Bool :=
  let has := c.testBit
  (n == 17 || n == 0 || decide (23 < n) || has 0) &&
    (if n = 3 then has 2 else if n = 4 then has 2 && has 3 else if n = 5 then has 2 else if n = 7 then has 6
     else if n = 8 then aud && bb else if n = 11 then has 8 else if n = 13 then has 1 && snap else if n = 17 then kt
     else if n = 18 then bb else if n = 22 then has 10 else if n = 23 then has 9 else true)

/-- R28 applied k times: bits that do not meet their requirement are cleared, active ones kept. -/
def featFix (active : Nat) (aud bb snap kt : Bool) : Nat → Nat → Nat
  | 0, c => c
  | k + 1, c =>
    featFix active aud bb snap kt k
      (packBits ((List.range 128).map fun n => c.testBit n && (active.testBit n || featMeets c aud bb snap kt n)))

/-- What becomes active with a lock: the personality starts (R85), and IRQ_N follows its owner. -/
def featOn (old : State) (s : State) : State :=
  irqRefresh (if s.feat 17 && !old.feat 17 then ktBringUp s else s)

/-- LOCK_COMPLETE: R28 is applied, FEAT_REJECT and FEAT_ACTIVE are written, and the first lock enters RUN (R81, R84,
R300). -/
def execLockComplete (s : State) : Host.Outcome State Fault Refusal :=
  .next (match s.boot.lock with
    | none => s
    | some (cand, aud, bb, snap) =>
      let act := featFix (s.feat128 FEAT_ACTIVE) aud bb snap s.boot.straps.hbMode 24 cand
      let ask := s.boot.lockAsk
      let s1 := setFeat128 FEAT_REJECT (ask - (ask &&& act)) (setFeat128 FEAT_ACTIVE act s)
      let s2 := ((s1.setF FEAT_LOCK_BUSY 0).setF FEAT_LOCK_DONE 1).bump FEAT_LOCK_ROUNDS
      let s3 := { s2 with boot := { s2.boot with lock := none } }
      let s4 := if s3.stage = 3 then ringsStart (releaseAt s3.now) (s3.setF SYS_BOOT_STATE 4) else s3
      let persona := s.boot.straps.hbMode && ask.testBit 17 && !act.testBit 17
      let s5 := if persona then
        { (s4.setF SYS_BOOT_ERR 11).setF SYS_BOOT_ERR_IMG 0 with boot := { s4.boot with ktRejected := true } } else s4
      featOn s s5)

/-- KT440_AUTO_LOCK: in KT-440 mode firmware sets bit 17 of FEAT_ACCEPT0 and locks; a BUSY refusal is repeated later
(R84). -/
def execKt440AutoLock (s : State) : Host.Outcome State Fault Refusal :=
  .next (if s.pwr.inReset || !s.boot.straps.hbMode || s.stage < 3 || s.feat 17 || s.boot.ktRejected then s
    else
      let v := s.rd (FEAT_ACCEPT 0) ||| BitVec.ofNat 32 (2 ^ 17)
      gated (.core 0) FEAT_LOCK 1 (featLockWrite 1) (gated (.core 0) (FEAT_ACCEPT 0) v.toNat (featAcceptWrite 0 v) s))

/-- A write of a register of the SYS block. -/
def sysRegWrite (a : Nat) (w : Word) (s : State) : State :=
  if a = SYS_BOOT_CMD then bootCmdWrite w.toNat s
  else if FEAT_ACCEPT 0 ≤ a && a < FEAT_ACCEPT 4 then featAcceptWrite ((a - FEAT_ACCEPT 0) / 4) w s
  else if a = FEAT_LOCK then featLockWrite w.toNat s
  else plainWrite a w s

/-! ## PCIe reset and link -/

/-- The link state changes: PCIE_LINK reports it (R359, R375). -/
def linkSet (up : Bool) (gen lanes : Nat) (s : State) : State :=
  let was := s.flag PCI_STAT_UP
  let s1 := if up then ((s.setF PCI_STAT_UP 1).setF PCI_STAT_GEN gen).setF PCI_STAT_WIDTH lanes else pciReset s
  if was == up then s1 else raise evPcieLink noInst s1

/-- PERST_ASSERT: only the PCIe interface is reset; a boot in progress goes on (R56, R66, R75, R359). -/
def execPerstAssert (s : State) : Host.Outcome State Fault Refusal :=
  let s0 := { s with pins := { s.pins with perstN := false }, pwr := { s.pwr with pcieAnswers := false } }
  let s1 := s0.setF SYS_RSTCAUSE_PERST 1
  .next (if s.pwr.inReset then s1 else linkSet false 0 0 s1)

/-- PERST_RELEASE: PERST_N rises (R68). -/
def execPerstRelease (s : State) : Host.Outcome State Fault Refusal :=
  .next { s with pins := { s.pins with perstN := true } }

/-- PCIE_LINK_CHANGE: the link comes up at this rate and width, from which on the endpoint answers, or goes down, which
is handled as PERST_N (R68, R87, R359). -/
def execPcieLinkChange (up : Bool) (gen lanes : Nat) (s : State) : Host.Outcome State Fault Refusal :=
  .next (if s.pwr.inReset || (up && !(s.pins.perstN && s.flag CLK_DOM_PCI)) || (up && !((1 ≤ gen && gen ≤ 4) && (lanes == 1 || lanes == 2 || lanes == 4)))
    then s
    else linkSet up gen lanes { s with pwr := { s.pwr with pcieAnswers := up } })

/-- REFCLK_PRESENCE_CHANGE: edges of ETH_REFCLK or PCIE_REFCLK appear or have been missing for 1 µs (R90).  Without its
clock an interface has no link: both Ethernet ports or the PCIe link go down (R87). -/
def execRefclkPresenceChange (eth present : Bool) (s : State) : Host.Outcome State Fault Refusal :=
  .next (if s.pwr.inReset then s
    else
      let s1 := s.setB (if eth then CLK_DOM_ETH else CLK_DOM_PCI) present
      if present then s1
      else if eth then portDown 1 (portDown 0 s1)
      else linkSet false 0 0 { s1 with pwr := { s1.pwr with pcieAnswers := false } })

end Sys2Proof.Machine
end

