-- ==== Sys2Proof/Machine/RegWrite.lean ====
section
/-! DEFINITION. A write to any native register and a read of any of them, by any master: the block that owns the address
applies the rules of its chapter (spec/02 to spec/22), behind the gate of R67 and R83. -/

namespace Sys2Proof.Machine

/-! ## Blocks without a dispatcher of their own -/

/-- A write of an EVT register (R376, R377, R379, R380). -/
def evtRegWrite (m : Master) (a : Nat) (w : Word) (s : State) : State :=
  let g := (a - EVT_Gg_STAT 0) / 0x20
  let kt := s.ktOwned && m != .personality
  if isEvtClear a then evtClear a w s
  else if a = EVT_CTL then
    if kt && w.toNat.testBit 0 && !s.flag EVT_CTL_IRQ_EN then refuse EVT_REFUSE codeOwned s
    else irqRefresh (plainWrite a w s)
  else if a < EVT_Gg_STAT 0 || EVT_Gg_STAT 8 ≤ a then plainWrite a w s
  else if a = EVT_Gg_MASK_IRQ g && kt && (w &&& ~~~ s.rd a) != 0 then refuse EVT_REFUSE codeOwned s
  else if a = EVT_Gg_MASK_MSI g && !s.feat 1 && (w &&& ~~~ s.rd a) != 0 then refuse EVT_REFUSE codeNotLocked s
  else if a = EVT_Gg_ROUTE g && kt && w.toNat.testBit 0 && !(s.rd a).toNat.testBit 0 then refuse EVT_REFUSE codeOwned s
  else routesRefresh s.now (plainWrite a w s)

/-- A write of a CLK register (R93, R97, R98). -/
def clkRegWrite (a : Nat) (w : Word) (s : State) : State :=
  if a = SPLL_CMD then (if bitsOf w.toNat 0 0 = 1 then commitWrite s else s)
  else if a = CLK_CTL then
    if regOk a w && bitsOf w.toNat 1 0 != 3 then
      regPut a w (srcWrite (bitsOf w.toNat 1 0) s)
    else refuse CLK_REFUSE codeReserved s
  else if a = SPLL_DCO && s.getF CLK_CTL_SRC != 2 && !keeps a w s then refuse CLK_REFUSE codeWrongState s
  else plainWrite a w s

/-- A write of an RFE register (R121). -/
def rfeRegWrite (a : Nat) (w : Word) (s : State) : State :=
  if a = RFE_CMD then gainApply (w.toNat.testBit 0) (w.toNat.testBit 1) s else plainWrite a w s

/-- A write of a FAB register, the filter banks among them (R168, R191, R192). -/
def fabAllWrite (a : Nat) (w : Word) (s : State) : State :=
  if a = FAB_BANK_DATA then bankDataWrite w s
  else if a = FAB_BANK_HDR then bankHdrWrite w s
  else if a = FAB_BANK_CMD then bankCmdWrite w.toNat s
  else if a = FAB_BANK_SEL then bankRefresh (plainWrite a w s)
  else fabRegWrite a w s

/-- The ratio of PTHn_RS is one of R188, or both numbers are 0. -/
def rsOk (num den : Nat) : Bool :=
  (num == 0 && den == 0)
    || (num != 0 && den != 0 && num != den && decide (den ≤ 2 * num) && decide (num ≤ 2 * den))

/-- A write of a PTH register of path n (R179, R183, R188, R190, R193, R194, R201). -/
def pthRegWrite (n a : Nat) (w : Word) (s : State) : State :=
  let v := w.toNat
  if a = PTHn_CMD n then pathCmd n v s
  else if a = PTHn_SHIFT n then shiftWrite n v s
  else if PTHn_RS n < a then (if regOk a w then regPut a w s else refuseInst (PTHn_STAT n) codeReserved s)
  else if s.getF (PTHn_STAT_STATE n) != 0 && !keeps a w s then refuseInst (PTHn_STAT n) codeWrongState s
  else if a = PTHn_CTL n && bitsOf v 9 8 = 2 && !s.feat 12 && !keeps a w s then refuseInst (PTHn_STAT n) codeNotLocked s
  else if a = PTHn_RS n && v != 0 && !s.feat 16 then refuseInst (PTHn_STAT n) codeNotLocked s
  else if !regOk a w || (a = PTHn_RS n && !rsOk (bitsOf v 31 16) (bitsOf v 15 0))
      || (a = PTHn_CTL n && !(decide (bitsOf v 15 12 ≤ 9) && presetType (bitsOf v 15 12) == bitsOf v 1 0)) then
    refuseInst (PTHn_STAT n) codeReserved s
  else pathRefresh n (regPut a w s)

/-- A write of a DEM register of path n (R224, R226). -/
def demRegWrite (n a : Nat) (w : Word) (s : State) : State :=
  let r := (a - DEMn_CTL n) / 4
  if r < 3 then demWrite n r w s else s

/-- A write of a DAB register (R230, R231, R237, R238, R245, R246). -/
def dabRegWrite (m : Master) (a : Nat) (w : Word) (s : State) : State :=
  if a < ENSs_CTL 48 then
    let n := (a - ENSs_CTL 0) / 0x40
    ensGuard n (fun s =>
      if a = ENSs_CMD n then ensCmd n w.toNat s else if a < ENSs_CMD n then ensCfgWrite n a w s else regPut a w s) s
  else if a < DECd_CTL 0 then s
  else
    let d := (a - DECd_CTL 0) / 0x20
    decGuard m d (fun s =>
      if a = DECd_CTL d then decCtlWrite d w s else if a = DECd_CMD d then decCmd m d w.toNat s else s) s

/-- A write of a FOL register (R274, R277 to R279). -/
def folAllWrite (m : Master) (a : Nat) (w : Word) (s : State) : State :=
  if a < FOL_REFUSE then folRegWrite m ((a - FOLp_CTL 0) / 0x40) a w s
  else if a = FOL_CMD then folCmd m w.toNat s
  else if a = FOL_POOL || a = FOL_DEC then folPoolWrite a w s
  else if a = FOL_CLIST then clistWrite m w.toNat s
  else if a = FOL_CSEL then candShow (plainWrite a w s)
  else plainWrite a w s

/-- A write of an MRW register (R283, R288, R292, R296, R300). -/
def mrwRegWrite (a : Nat) (w : Word) (s : State) : State :=
  if a = MRW_REG_CMD then regCmdWrite w.toNat s
  else if MRW_REG_BASE 0 ≤ a && a ≤ MRW_AUD_CFG then
    if a = MRW_REG_BASE 3 || a = MRW_REG_SIZE 3 then s else shadowWrite a w s
  else if MRW_TSH 0 ≤ a && a < MRW_TSH 8 then tshWrite ((a - MRW_TSH 0) / 4) w.toNat s
  else if a = MRW_SNP_CMD then snapCmdWrite w.toNat s
  else if MRW_SNP_CTL ≤ a && a < MRW_ACH 0 && a < 0x31000 then snapRegWrite a w s
  else plainWrite a w s

/-- A write of a SAP register of port k (R310, R316, R319 to R322, R324). -/
def sapRegWrite (m : Master) (k a : Nat) (w : Word) (s : State) : State :=
  if a = SAPk_CTL k then audShow (sapCtl k w s)
  else if SAPk_MAP k 0 ≤ a && a < SAPk_MAP k 8 then sapMap k ((a - SAPk_MAP k 0) / 4) w s
  else if a = SAPk_ICAP k then sapIcap m k w s
  else if a = SAPk_TCS_CTL k then sapTcsCtl k w s
  else if regOk a w then regPut a w s
  else refuseInst (SAPk_STAT k) codeReserved s

/-- A write of w to REL_INJECT: the checks of R568 in order, then the fault of a pod or the disagreement of the pair that
runs a core (R555, R560). -/
def relInject (w : Nat) (s : State) : State :=
  let op := bitsOf w 31 30
  let n := bitsOf w 7 0
  if !s.feat 18 then refuse REL_REFUSE codeNotLocked s
  else if op = 0 || op = 3 || (op = 1 && !s.podConf n) || (op = 2 && 7 < n) then refuse REL_REFUSE codeReserved s
  else if (op = 1 && s.podState n != 0) || (op = 2 && s.seqState n != 1) then refuse REL_REFUSE codeWrongState s
  else if s.remapBusy || s.pairMoving || s.getF FAB_PR_STAT_PHASE != 0 then refuse REL_REFUSE codeBusy s
  else if s.ktOwned && ((op = 1 && s.flag (FAB_LPp_MAP_KTO n)) || (op = 2 && n == 0)) then refuse REL_REFUSE codeOwned s
  else if op = 1 then podFault n 4 s
  else pairFault (s.getF (SEQk_STAT_PAIR n)) s

/-- A write of a REL register. -/
def relRegWrite (a : Nat) (w : Word) (s : State) : State :=
  if a = REL_INJECT then relInject w.toNat s else plainWrite a w s

/-- POD: a write of REL_INJECT with OP 1. -/
def execInjectPod (m : Master) (p : Nat) (s : State) : Host.Outcome State Fault Refusal :=
  .next (if p < 256 then gated m REL_INJECT (2 ^ 30 + p) (relInject (2 ^ 30 + p)) s else s)

/-- PAIR: a write of REL_INJECT with OP 2. -/
def execInjectPair (m : Master) (k : Nat) (s : State) : Host.Outcome State Fault Refusal :=
  .next (if k < 256 then gated m REL_INJECT (2 ^ 31 + k) (relInject (2 ^ 31 + k)) s else s)

/-! ## Writes -/

/-- The effect of a write at the serialisation point of its block (R20). -/
def blockWrite (m : Master) (a : Nat) (w : Word) (s : State) : State :=
  if a < 0x1000 then sysRegWrite a w s
  else if a < 0x2000 then evtRegWrite m a w s
  else if a < 0x3000 then clkRegWrite a w s
  else if a < 0x4000 then rfeRegWrite a w s
  else if a < 0x10000 then fabAllWrite a w s
  else if a < 0x18000 then (let n := (a - 0x10000) / 0x40; pathGuard m n (pthRegWrite n a w) s)
  else if a < 0x20000 then (let n := (a - 0x18000) / 0x40; pathGuard m n (demRegWrite n a w) s)
  else if a < 0x28000 then dabRegWrite m a w s
  else if a < 0x30000 then folAllWrite m a w s
  else if a < 0x34000 then mrwRegWrite a w s
  else if a < 0x34100 then plainWrite a w s
  else if a < 0x38000 then (let k := (a - 0x34100) / 0x100; sapGuard m k (sapRegWrite m k a w) s)
  else if a < 0x3C000 then netRegWrite a w s
  else if a < 0x40000 then pciRegWrite a w s
  else if a < 0x48000 then seqRegWrite m a w s
  else if a < 0x4C000 then excRegWrite a w s
  else if a < 0x50000 then slkRegWrite a w s
  else if a < 0x58000 then calRegWrite a w s
  else if a < 0x60000 then secRegWrite a w s
  else if a < 0x68000 then relRegWrite a w s
  else if a < 0x70000 then obsRegWrite a w s
  else if a < 0x80000 then plainWrite a w s
  else if a < 0xA0000 then calWinWrite a w s
  else if a < 0xC0000 then loadPort w s
  else if a < 0xE0000 then secWinWrite a w s
  else s

/-- A write of w by master m to the register at native address a, without the steps it may ask of a core. -/
def regWrite (m : Master) (a w : Nat) (s : State) : State :=
  gated m a w (blockWrite m a (BitVec.ofNat 32 w)) s

/-! ## Reads -/

/-- The registers at address a belong to an instance beyond the bitstream's capacity, or to a pod that is not
configured, and read 0 (R29, R169, R201, R245, R246, R277, R299). -/
def State.absent (s : State) (a : Nat) : Bool :=
  if FAB_LPp_MAP 0 ≤ a && a < FAB_LPp_MAP 256 then !s.podConf ((a - FAB_LPp_MAP 0) / 0x10)
  else if 0x10000 ≤ a && a < 0x20000 then decide (s.hdr.paths ≤ (a % 0x8000) / 0x40)
  else if 0x20000 ≤ a && a < ENSs_CTL 48 then decide (s.hdr.ens ≤ (a - ENSs_CTL 0) / 0x40)
  else if DECd_CTL 0 ≤ a && a < DECd_CTL 128 then decide (s.hdr.dec ≤ (a - DECd_CTL 0) / 0x20)
  else if FOLp_CTL 0 ≤ a && a < FOLp_CTL 256 then decide (s.hdr.progs ≤ (a - FOLp_CTL 0) / 0x40)
  else if XLi_CTL 0 ≤ a && a < XLi_CTL 8 then decide (s.hdr.xl ≤ (a - XLi_CTL 0) / 0x40)
  else if MRW_RQr_CFG 0 ≤ a && a < MRW_RQr_CFG 256 then !s.podConf ((a - MRW_RQr_CFG 0) / 0x10)
  else false

/-- The _LO registers whose read latches their _HI register. -/
def latchLo (a : Nat) : Bool :=
  (EVT_STAMP_LO 0 ≤ a && a < EVT_STAMP_LO 256 && a % 8 = 0)
    || a = RFEa_GCHG_LO 0 || a = RFEa_GCHG_LO 1
    || (0x10000 ≤ a && a < 0x18000 && a % 0x40 = 0x20)
    || (0x18000 ≤ a && a < 0x20000 && a % 0x40 = 0x24)
    || (0x20000 ≤ a && a < ENSs_CTL 48 && a % 0x40 = 0x24)
    || (FOLp_CTL 0 ≤ a && a < FOLp_CTL 256 && a % 0x40 = 0x2C)
    || a = MRW_RING_T0_LO || a = MRW_ECC_ADDR_LO || a = MRW_SNP_MATCH_LO || a = MRW_SNP_TRIG_LO || a = MRW_SNP_FIRST_LO
    || (SAPk_CTL 0 ≤ a && a < SAPk_CTL 8 && (a - SAPk_CTL 0) % 0x100 = 0x58)
    || (CALn_STAT 0 ≤ a && a < CALn_STAT 6 && (a - CALn_STAT 0) % 0x20 = 8)
    || a = REL_REMAP_LO || (OBS_CNT_LO 0 ≤ a && a < OBS_CNT_LO 1024 && a % 8 = 0)

/-- The byte at an address of the windows: the images, records and reports, and the trace ring, two words a record from
0xE0000 (R526, R552, R567); the load port is not read back. -/
def State.winByte (s : State) (a : Nat) : Byte :=
  if a < 0xA0000 || (0xC0000 ≤ a && a < 0xE0000) then sget memDefault s.win a
  else if 0xE0000 ≤ a && a < 0xFFFF0 then
    (TraceRec.bytes (sget traceNone s.obs.ring ((a - 0xE0000) / 16))).getD ((a - 0xE0000) % 16) 0
  else 0

/-- The value that the register or window word at address a shows to master m, without side effects. -/
def State.look (s : State) (m : Master) (a : Nat) : Word :=
  if !s.liveRead m a || s.absent a then 0
  else if 0x80000 ≤ a then
    if a < 0x100000 then BitVec.ofNat 32 (natOf ((List.range 4).map fun (j : Nat) => s.winByte (a + j))) else 0
  else if a = CLK_SYSCNT_LO then BitVec.ofNat 32 s.now
  else if 4 ≤ a && latchLo (a - 4) then sget regReset s.hiLatch a
  else s.rd a

/-- What a read of the register at address a does beside returning it (R8, R12, R111, R169): RC fields clear, a _LO
register latches its _HI register. -/
def readEffect (m : Master) (a : Nat) (s : State) : State :=
  if !s.liveRead m a || s.absent a || 0x80000 ≤ a then s
  else if a = CLK_SYSCNT_LO then readSyscnt s
  else
    let s1 := if latchLo a then { s with hiLatch := sset regReset (a + 4) (s.rd (a + 4)) s.hiLatch } else s
    let s2 := s1.wr a (BitVec.ofNat 32 (fieldsRead (regFields a) (s1.rd a).toNat))
    if FAB_LPp_MAP 0 ≤ a && a < FAB_LPp_MAP 256 && a % 0x10 = 4 && (s.pod ((a - FAB_LPp_MAP 0) / 0x10)).paced then
      s2.setF (FAB_LPp_PACE_MIN ((a - FAB_LPp_MAP 0) / 0x10)) 0xFFFF
    else s2

/-- A read of the register at native address a by master m: the value and the state after it. -/
def regRead (m : Master) (a : Nat) (s : State) : Word × State := (s.look m a, readEffect m a s)

/-- RC_REGISTER_READ: a read by master m (R366).  The command's value is look. -/
def execRcRegisterRead (m : Master) (a : Nat) (s : State) : Host.Outcome State Fault Refusal := .next (readEffect m a s)

/-- The word that leaves every field of the register at address a unchanged when written, given the value its RW fields
show (R369): W1C and WO fields take 0. -/
def keepWord : List FieldDesc → Nat → Nat
  | [], _ => 0
  | f :: t, v => (match f.acc with
    | .rw => bitsOf v f.hi f.lo <<< f.lo
    | _ => 0) + keepWord t v

end Sys2Proof.Machine
end

