-- ==== Sys2Proof/Machine/IzMem.lean ====
section
/-! DEFINITION. Data accesses of the Izham cores (spec/16 R412 to R420): segments, the windows, write combining, and the
register space through a hold register and a read latch. -/

namespace Sys2Proof.Machine

/-! ## Segments -/

/-- Bytes that a word occupies in a mode: W32, W24, BYTE, REG (R414). -/
def modeBytes (m : Nat) : Nat := if m = 0 then 4 else if m = 1 then 3 else if m = 2 then 1 else 2

/-- Bases of the local data RAM and of the register space, and the size of the former in bytes (R414). -/
def ramBase : Nat := 0xC00000000
def regBase : Nat := 0xD00000000
def ramBytes : Nat := 0xC0000

/-- The window of an address: 0 Marrow, 1 the local data RAM, 2 the register space (R414). -/
def izWindow (a : Nat) : Option Nat :=
  if a < marrowSize then some 0
  else if ramBase ≤ a && a < ramBase + ramBytes then some 1
  else if regBase ≤ a && a < regBase + 0x100000 then some 2 else none

/-- The address after the end of a window. -/
def windowEnd (w : Nat) : Nat := if w = 0 then marrowSize else if w = 1 then ramBase + ramBytes else regBase + 0x100000

/-- A descriptor that R415 accepts. -/
def sdOk (d : SegDesc) : Bool :=
  let start := d.base * 64
  match izWindow start with
  | none => false
  | some w =>
    decide (start + d.limit * modeBytes d.mode ≤ windowEnd w)
      && (if w = 0 then d.mode != 3 else if w = 1 then d.mode == 0 else d.mode == 3)

/-- The address of word w of a segment (R414). -/
def SegDesc.addr (d : SegDesc) (w : Nat) : Nat := d.base * 64 + w * modeBytes d.mode

/-! ## Marrow -/

/-- An access in progress: the state, the replies still to come, and the last failing code (R419). -/
structure IzAcc where
  s : State
  replies : List Nat
  flt : Nat
  deriving DecidableEq, Repr

/-- An access to Marrow of core k takes its next reply: a refusal before initialisation (R281), VOID where R285 does not
permit it, otherwise the code given, and OK where none is given; it is counted (R299). -/
def izReply (k : Nat) (write : Bool) (line : Nat) (x : IzAcc) : Nat × IzAcc :=
  let given := x.replies.headD 0
  let ok := x.s.permits ⟨256 + k, 0, write, line, 64, []⟩
  let cls := x.s.getF (MRW_RQr_CFG_CLASS (256 + k))
  let c := if !x.s.flag MRW_STAT_INIT_DONE then 2
    else if !ok then 4
    else x.s.codeOf (stackOf line) cls 64 (if given ≤ 4 then given else 0)
  let s1 := if c = 2 || c = 3 then mrwCount (256 + k) c x.s else mrwLine (256 + k) cls write ok line 64 c x.s
  (c, ⟨s1, x.replies.tail, if 2 ≤ c then c else x.flt⟩)

/-- What an unlisted byte of a write-combining line is: not stored. -/
def WcLine.byte (l : WcLine) (o : Nat) : Option Byte := (l.bytes.find? fun p => p.1 == o).map (·.2)

/-- Write a write-combining line to Marrow (R420): a refused line is not stored, and SW.MFLT records the code (R419). -/
def wcWrite (k : Nat) (l : WcLine) (x : IzAcc) : IzAcc :=
  let r := izReply k true l.addr x
  if 2 ≤ r.1 then r.2 else { r.2 with s := l.bytes.foldl (fun s p => s.store (l.addr + p.1) [p.2]) r.2.s }

/-- The oldest line leaves the buffer and is written (R420). -/
def wcFlushOne (k : Nat) (x : IzAcc) : IzAcc :=
  match (x.s.core k).wc with
  | [] => x
  | l :: t => wcWrite k l { x with s := x.s.setCore k { x.s.core k with wc := t } }

/-- Every line is written, oldest first. -/
def wcFlushAll (k : Nat) : Nat → IzAcc → IzAcc
  | 0, x => x
  | n + 1, x => wcFlushAll k n (wcFlushOne k x)

/-- Replace or add a stored byte of a line. -/
def wcPut (o : Nat) (b : Byte) (l : WcLine) : WcLine := { l with bytes := (l.bytes.filter fun p => p.1 != o) ++ [(o, b)] }

/-- One byte of a store merges into its line; a ninth line displaces the oldest (R420). -/
def wcByte (k a : Nat) (b : Byte) (x : IzAcc) : IzAcc :=
  let line := a / 64 * 64
  let c := x.s.core k
  if c.wc.any (fun l => l.addr == line) then
    { x with s := x.s.setCore k { c with wc := c.wc.map fun l => if l.addr = line then wcPut (a % 64) b l else l } }
  else
    let y := if 8 ≤ c.wc.length then wcFlushOne k x else x
    let c1 := y.s.core k
    { y with s := y.s.setCore k { c1 with wc := c1.wc ++ [⟨line, [(a % 64, b)], y.s.now⟩] } }

/-- Bytes stored from address a upwards. -/
def wcStore (k : Nat) : Nat → List Byte → IzAcc → IzAcc
  | _, [], x => x
  | a, b :: t, x => wcStore k (a + 1) t (wcByte k a b x)

/-- A byte of Marrow as core k sees it: its own buffered stores come first (R420). -/
def State.izByte (s : State) (k a : Nat) : Byte :=
  (((s.core k).wc.find? fun l => l.addr == a / 64 * 64).bind fun l => l.byte (a % 64)).getD (memGet s.mem a)

/-- The replies of the n lines from an address upwards: the last failing code among them, 0 where none fails. -/
def izLines (k : Nat) : Nat → Nat → IzAcc → Nat × IzAcc
  | 0, _, x => (0, x)
  | n + 1, line, x =>
    let r := izReply k false line x
    let q := izLines k n (line + 64) r.2
    (if 2 ≤ q.1 then q.1 else if 2 ≤ r.1 then r.1 else 0, q.2)

/-- A load of n bytes from Marrow: one request for each line that holds some of them (R418); a failing one makes every
byte 0 (R419). -/
def marrowLoad (k a n : Nat) (x : IzAcc) : List Byte × IzAcc :=
  let first := a / 64 * 64
  let lines := (a % 64 + n + 63) / 64
  let r := izLines k lines first x
  (if 2 ≤ r.1 then List.replicate n 0 else (List.range n).map fun (j : Nat) => x.s.izByte k (a + j), r.2)

/-! ## Register space -/

/-- The master that a store of core k is: SQ0 runs the personality in KT-440 mode (R22). -/
def State.coreMaster (s : State) (k : Nat) : Master := if k = 0 && s.ktOwned then .personality else .core k

/-- The half of the register that a store does not give takes the value that leaves its fields unchanged (R369); in a
window it is what the window shows. -/
def State.keepHalf (s : State) (m : Master) (a : Nat) : Nat :=
  if 0x80000 ≤ a then (s.look m a).toNat else keepWord (regFields a) (s.look m a).toNat

/-- A store of 16 bits to half h of the register at address a (R369, R420). -/
def regStore (k a h v : Nat) (s : State) : State :=
  let c := s.core k
  if h = 0 then s.setCore k { c with hold := some (a, v % 65536) }
  else
    let m := s.coreMaster k
    let low := match c.hold with
      | some (b, l) => if b = a then l else s.keepHalf m a % 65536
      | none => s.keepHalf m a % 65536
    regWrite m a (v % 65536 * 65536 + low) (s.setCore k { c with hold := none })

/-- A load of half h of the register at address a (R370, R420). -/
def regLoad (k a h : Nat) (s : State) : Nat × State :=
  let m := s.coreMaster k
  let c := s.core k
  if h = 0 then
    let r := regRead m a s
    (r.1.toNat % 65536, r.2.setCore k { r.2.core k with latch := some (a, r.1.toNat / 65536) })
  else
    let s1 := s.setCore k { c with latch := none }
    match c.latch with
    | some (b, v) => if b = a then (v, s1) else ((s.look m a).toNat / 65536, s1)
    | none => ((s.look m a).toNat / 65536, s1)

/-! ## Words -/

/-- The value of a word from its bytes in a mode (R414). -/
def wordOf (mode : Nat) (l : List Byte) : Nat := natOf (l.take (if mode = 2 then 1 else 3))

/-- The bytes of a word in a mode: byte 3 of W32 is the sign extension of bit 23 (R414). -/
def wordBytes (mode v : Nat) : List Byte :=
  if mode = 0 then bytesOf 3 v ++ [if v.testBit 23 then 0xFF else 0] else bytesOf (modeBytes mode) v

/-- Load n words from word w of a segment, as one access (R416, R418). -/
def izLoad (k : Nat) (d : SegDesc) (w n : Nat) (x : IzAcc) : List Nat × IzAcc :=
  let a := d.addr w
  let size := modeBytes d.mode
  match izWindow a with
  | some 0 =>
    let r := marrowLoad k a (n * size) x
    ((List.range n).map fun (j : Nat) => wordOf d.mode ((r.1.drop (j * size)).take size), r.2)
  | some 1 => ((List.range n).map fun (j : Nat) => (sget zero24 (x.s.core k).ram ((a - ramBase) / 4 + j)).toNat, x)
  | some 2 =>
    (List.range n).foldl (fun (r : List Nat × IzAcc) (j : Nat) =>
      let b := a - regBase + 2 * j
      let q := regLoad k (b / 4 * 4) (b / 2 % 2) r.2.s
      (r.1 ++ [q.1], { r.2 with s := q.2 })) ([], x)
  | _ => (List.replicate n 0, x)

/-- Store words from word w of a segment upwards (R416, R420). -/
def izStore (k : Nat) (d : SegDesc) (w : Nat) : List Nat → IzAcc → IzAcc
  | [], x => x
  | v :: t, x =>
    let a := d.addr w
    let y := match izWindow a with
      | some 0 => wcStore k a (wordBytes d.mode v) x
      | some 1 =>
        let c := x.s.core k
        { x with s := x.s.setCore k { c with ram := sset zero24 ((a - ramBase) / 4) (BitVec.ofNat 24 v) c.ram } }
      | some 2 =>
        let b := a - regBase
        { x with s := regStore k (b / 4 * 4) (b / 2 % 2) v x.s }
      | _ => x
    izStore k d (w + 1) t y

/-- The access is over: a failing reply stands in SW.MFLT from the next instruction on (R419). -/
def izAccEnd (k : Nat) (x : IzAcc) : State :=
  if x.flt = 0 then x.s else x.s.setCore k ((x.s.core k).later .mflt 1 x.flt false)

/-- WC_LINE_FLUSH: the line at an address is written at t and answered with a code; R420 sets 1 µs after its first store
as the latest t. -/
def execWcLineFlush (k line code t : Nat) (s : State) : Host.Outcome State Fault Refusal :=
  let s1 := s.advance t
  .next (match (s1.core k).wc.find? fun l => l.addr == line with
    | some l =>
      if k < 8 then
        let c := s1.core k
        let x := wcWrite k l ⟨s1.setCore k { c with wc := c.wc.filter fun q => q.addr != line }, [code], 0⟩
        if x.flt = 0 then x.s else x.s.setCore k ((x.s.core k).now .mflt x.flt)
      else s
    | none => s)

end Sys2Proof.Machine
end

