-- ==== Sys2Proof/Machine/IzOps.lean ====
section
/-! DEFINITION. What each Izham-24 instruction computes (spec/17 R448 to R455): values, and the effect of one iteration on
its core. -/

namespace Sys2Proof.Machine

/-! ## Values -/

/-- int24 and acc56 saturation (R409). -/
def sat24 (x : Int) : Int := clampInt (-8388608) 8388607 x
def sat56 (x : Int) : Int := clampInt (-(2 ^ 55)) (2 ^ 55 - 1) x

/-- A result modulo 2^24, or saturated under SAT. -/
def wrap24 (sat : Bool) (x : Int) : BitVec 24 := BitVec.ofInt 24 (if sat then sat24 x else x)

/-- SHL (R448). -/
def aluShl (sat : Bool) (a : BitVec 24) (n : Nat) : BitVec 24 :=
  if sat then wrap24 true (a.toInt * 2 ^ (min n 24)) else if 24 ≤ n then 0 else a <<< n

/-- SHR and SRA (R448). -/
def aluShr (a : BitVec 24) (n : Nat) : BitVec 24 := if 24 ≤ n then 0 else a >>> n
def aluSra (a : BitVec 24) (n : Nat) : BitVec 24 := a.sshiftRight (min n 24)

/-- MULH: the fix24 product rounded to nearest with ties to even (R448). -/
def aluMulh (sat : Bool) (a b : BitVec 24) : BitVec 24 := wrap24 sat (roundEven (a.toInt * b.toInt) (2 ^ 23))

/-- The FRR operations on two registers (R448); division by zero is checked before. -/
def aluFrr (o : IzFrr) (sat : Bool) (a b : BitVec 24) : BitVec 24 :=
  match o with
  | .add => wrap24 sat (a.toInt + b.toInt)
  | .sub => wrap24 sat (a.toInt - b.toInt)
  | .and => a &&& b
  | .or => a ||| b
  | .xor => a ^^^ b
  | .shl => aluShl sat a b.toNat
  | .shr => aluShr a b.toNat
  | .sra => aluSra a b.toNat
  | .mul => wrap24 sat (a.toInt * b.toInt)
  | .mulh => aluMulh sat a b
  | .min => if a.toInt ≤ b.toInt then a else b
  | .max => if a.toInt ≤ b.toInt then b else a
  | .div => wrap24 sat (a.toInt.tdiv b.toInt)
  | .divu => BitVec.ofNat 24 (a.toNat / b.toNat)
  | .rem => BitVec.ofInt 24 (a.toInt.tmod b.toInt)

/-- The FRI operations (R448): imm and uimm are the sign-extended and the zero-extended immediate. -/
def aluFri (o : IzFri) (sat : Bool) (a imm uimm : BitVec 24) : BitVec 24 :=
  match o with
  | .addi => wrap24 sat (a.toInt + imm.toInt)
  | .andi => a &&& uimm
  | .ori => a ||| uimm
  | .xori => a ^^^ uimm
  | .shli => aluShl sat a (uimm.toNat % 32)
  | .shri => aluShr a (uimm.toNat % 32)
  | .srai => aluSra a (uimm.toNat % 32)
  | .muli => wrap24 sat (a.toInt * imm.toInt)
  | .movi => imm

/-- The number of leading zeros of the n low bits of a value. -/
def clzFrom (v : Nat) : Nat → Nat
  | 0 => 0
  | n + 1 => if v.testBit n then 0 else 1 + clzFrom v n

/-- The unary operations of format FR (R448); the others have no value of this form. -/
def aluFr (o : IzFr) (sat : Bool) (a : BitVec 24) : BitVec 24 :=
  match o with
  | .neg => wrap24 sat (-a.toInt)
  | .abs => wrap24 sat a.toInt.natAbs
  | .not => ~~~ a
  | .clz => BitVec.ofNat 24 (clzFrom a.toNat 24)
  | .sext8 => (a.extractLsb' 0 8).signExtend 24
  | .sext16 => (a.extractLsb' 0 16).signExtend 24
  | _ => a

/-- A condition of Bcc and BccI. -/
def izCond (c : IzCc) (a b : BitVec 24) : Bool :=
  match c with
  | .eq => a == b
  | .ne => a != b
  | .lt => decide (a.toInt < b.toInt)
  | .ge => decide (b.toInt ≤ a.toInt)
  | .ltu => decide (a.toNat < b.toNat)
  | .geu => decide (b.toNat ≤ a.toNat)

/-! ## Prefixes and fields -/

/-- A REP prefix, and whether one stands among the prefixes. -/
def isRep : IzPre → Bool
  | .repN _ => true
  | .repG _ => true
  | _ => false

/-- The value of a XIMM prefix, and the descriptor a SEGO prefix names. -/
def ximmOf (pre : List IzPre) : Option (BitVec 16) := pre.findSome? fun p => match p with | .ximm x => some x | _ => none
def segoOf (pre : List IzPre) : Option Nat := pre.findSome? fun p => match p with | .sego k => some k.toNat | _ => none

/-- The sign-extended and the zero-extended immediate; under XIMM both are X:imm8 (R441). -/
def immOf (pre : List IzPre) (b : BitVec 8) : BitVec 24 :=
  match ximmOf pre with
  | some x => x ++ b
  | none => b.signExtend 24
def uimmOf (pre : List IzPre) (b : BitVec 8) : BitVec 24 :=
  match ximmOf pre with
  | some x => x ++ b
  | none => b.setWidth 24

/-- SAT applies (R443). -/
def satApplies : IzOp → Bool
  | .frr o _ _ _ _ => o == .add || o == .sub || o == .shl || o == .mul || o == .mulh || o == .div
  | .fri o _ _ _ => o == .addi || o == .muli || o == .shli
  | .fr o _ _ => o == .neg || o == .abs
  | .fa o _ _ _ => !(o == .mpy || o == .clra || o == .mova)
  | _ => false

/-- XIMM applies (R443). -/
def ximmApplies : IzOp → Bool
  | .fbi _ _ _ _ _ => true
  | .fri o _ _ _ => !(o == .shli || o == .shri || o == .srai)
  | .fm o _ _ _ _ => !(o == .ldx || o == .stx || o == .ldp)
  | _ => false

/-- SEGO applies (R443). -/
def segoApplies : IzOp → Bool
  | .fm o _ _ _ _ => !(o == .ldp || o == .addp)
  | _ => false

/-- A branch of R443: no REP, none at LEk, none in a delay slot (R425). -/
def isBranch : IzOp → Bool
  | .f0 o => o == .ret || o == .rti
  | .fr o _ _ => o == .jmpr || o == .callr
  | .fb _ _ _ _ | .br _ _ _ | .fbi _ _ _ _ _ | .fj _ _ => true
  | _ => false

/-- The loop class of R443. -/
def isLoopOp : IzOp → Bool
  | .f0 o => o == .lexit
  | .loop _ _ | .loopr _ _ _ => true
  | _ => false

/-- A prefix applies to a base instruction (R443); REP is judged by R442 item 3. -/
def preApplies (o : IzOp) : IzPre → Bool
  | .repN _ => true
  | .repG r => r != 0
  | .sego _ => segoApplies o
  | .ximm _ => ximmApplies o
  | .sat => satApplies o

/-- The kind of a prefix. -/
def preKind : IzPre → Nat
  | .repN _ => 0
  | .repG _ => 0
  | .sego _ => 1
  | .ximm _ => 2
  | .sat => 3

/-- A kind of prefix is given twice. -/
def preTwice : List IzPre → Bool
  | [] => false
  | p :: t => t.any (fun q => preKind q == preKind p) || preTwice t

/-- The fields marked 0 are 0 and no field has a value that its row reserves (R444, R448). -/
def fieldsClear : IzOp → Bool
  | .f0 _ => true
  | .fr o x y =>
    match o with
    | .mfsw | .mfsp | .pop => y == 0
    | .mtsw | .mtsp | .push | .jmpr | .callr => x == 0
    | .pusha | .popa => x == 0 && decide (y.toNat < 4)
    | .mfp => decide (y.toNat < 8)
    | .setsd | .getsd => decide (x.toNat ≤ 13)
    | .mov | .neg | .abs | .not | .clz | .sext8 | .sext16 => true
  | .frr _ _ _ _ z => z == 0
  | .fri o _ a imm =>
    match o with
    | .shli | .shri | .srai => decide (imm.toNat < 32)
    | .movi => a == 0
    | .addi | .andi | .ori | .xori | .muli => true
  | .fb _ _ _ _ => true
  | .br z0 z1 _ => z0 == 0 && z1 == 0
  | .fbi _ _ z _ _ => z == 0
  | .fj _ _ => true
  | .fm o g m _ x =>
    match o with
    | .ld | .st => true
    | .ldx | .stx => x.toNat % 16 == 0
    | .ldc | .stc => g.toNat % 2 == 0
    | .ldp => m == 0 && x.toNat % 16 == 0
    | .addp => g == 0 && m == 0
  | .fa o b1 k x =>
    match o with
    | .mpy | .mac | .msu => x == 0
    | .clra => b1 == 0 && x == 0
    | .ext => b1.toNat % 16 == 0 && decide (x.toNat < 32)
    | .mova => b1.toNat % 16 == 0 && x == 0
    | .adda => b1 == 0 && x.toNat % 16 == 0
    | .sha => b1 == 0 && decide (x.toNat < 32)
    | .macp => !b1.toNat.testBit 7 && !b1.toNat.testBit 3 && x == 0
    | .cmac | .cmacj => !b1.toNat.testBit 7 && !b1.toNat.testBit 3 && x == 0 && k.toNat % 2 == 0
  | .loop _ _ => true
  | .loopr _ z _ => z == 0
  | .fx o _ x =>
    match o with
    | .mfls | .mtls | .mfle | .mtle | .mflc | .mtlc => decide (x.toNat < 4)
    | .mfa | .mta => decide (x.toNat < 12)
    | .mfpb => decide (x.toNat < 8)
    | .core => x == 0

/-! ## One iteration -/

/-- What an iteration does: it traps with a cause and, for ALIGN and SEGV, a descriptor and an offset (R430); or it
completes and issue goes on after it; or it is a branch, taken to a target or not; or it is a loop set-up with count 0,
which continues after the instruction at LE; or it is an RTI, which has set the pc itself. -/
inductive IzRes where
  | trap (cause : Nat) (at_ : Option (Nat × Nat))
  | done (s : State)
  | branch (target : Option Nat) (s : State)
  | skip (le : Nat) (s : State)
  | rti (s : State)
  deriving DecidableEq, Repr

/-- The core of an iteration writes a register at a distance. -/
def izW (k : Nat) (r : IzReg) (d v : Nat) (s : State) : State := s.setCore k ((s.core k).later r d v false)

/-- The same for a result that is seen earlier (R428, R449). -/
def izWE (k : Nat) (r : IzReg) (d v : Nat) (s : State) : State := s.setCore k ((s.core k).later r d v true)

/-- The traps of an access of n words at word w of descriptor j (R416, R450): ALIGN, then SEGV. -/
def izCheck (c : Core) (j w n : Nat) (write : Bool) : Option IzRes :=
  let d := c.desc j
  if n = 2 && w % 2 = 1 then some (.trap 3 (some (j, w)))
  else if d.limit < w + n || (write && d.wp) then some (.trap 2 (some (j, w)))
  else none

/-- Push words in order: each decrements sp, then stores at it through SD15; a word that would lie beyond the segment is
not stored (R421). -/
def izPush (k : Nat) : List Nat → Nat → IzAcc → IzAcc
  | [], _, x => x
  | v :: t, sp, x =>
    let d := (x.s.core k).desc 15
    izPush k t (sp - 1) (if sp - 1 < d.limit then izStore k d (sp - 1) [v] x else x)

/-- EXT: aK × 2^s rounded to Q1.23 (R448, R409). -/
def izExt (a : BitVec 56) (sh : Int) : Int := roundEven (a.toInt * 2 ^ (sh + 16).toNat) (2 ^ 40)

/-- SHA: aK × 2^s, right shifts rounding towards minus infinity (R448). -/
def izSha (a : BitVec 56) (sh : Int) : Int := if 0 ≤ sh then a.toInt * 2 ^ sh.toNat else a.toInt / 2 ^ (-sh).toNat

/-- An accumulator takes an exact result: it wraps or saturates, and a result out of range sets AOV (R409, R452). -/
def izAccPut (k n : Nat) (sat : Bool) (x : Int) (s : State) : State :=
  let s1 := izWE k (.a n) 3 (BitVec.ofInt 56 (if sat then sat56 x else x)).toNat s
  if sat56 x = x then s1 else izW k (.aov n) 3 1 s1

/-- The exact fix24 product of two words in Q1.47 units: a × b of Q1.23 numbers. -/
def fixProd (a b : BitVec 24) : Int := 2 * a.toInt * b.toInt

/-- The word at each of two addresses for MACP, CMAC and CMACJ: both checks first, pM first (R453). -/
def izPairLoad (k m n cnt : Nat) (s : State) (rep : List Nat) : Sum IzRes (List Nat × List Nat × IzAcc) :=
  let c := s.core k
  let jm := c.bind m
  let jn := c.bind n
  let wm := (c.ptr m).toNat
  let wn := (c.ptr n).toNat
  match (izCheck c jm wm cnt false).or (izCheck c jn wn cnt false) with
  | some t => .inl t
  | none =>
    let r := izLoad k (c.desc jm) wm cnt ⟨s, rep, 0⟩
    let q := izLoad k (c.desc jn) wn cnt r.2
    .inr (r.1, q.1, q.2)

/-- A pointer steps by n words (R455); the same pointer named twice steps twice. -/
def izStep (k m n cnt : Nat) (s : State) : State :=
  let pm := ((s.core k).ptr m).toNat
  if m = n then izW k (.p m) 1 ((pm + 2 * cnt) % 2 ^ 24) s
  else izW k (.p n) 1 ((((s.core k).ptr n).toNat + cnt) % 2 ^ 24) (izW k (.p m) 1 ((pm + cnt) % 2 ^ 24) s)

/-- MACP (R453). -/
def izMacpDo (k m n acc : Nat) (sat : Bool) (rep : List Nat) (s : State) : IzRes :=
  match izPairLoad k m n 1 s rep with
  | .inl t => t
  | .inr (x, y, r) =>
    let p := fixProd (BitVec.ofNat 24 (x.headD 0)) (BitVec.ofNat 24 (y.headD 0))
    .done (izStep k m n 1 (izAccPut k acc sat (((s.core k).accNow acc).toInt + p) (izAccEnd k r)))

/-- CMAC and CMACJ (R453). -/
def izCmacDo (k m n acc : Nat) (conj sat : Bool) (rep : List Nat) (s : State) : IzRes :=
  match izPairLoad k m n 2 s rep with
  | .inl t => t
  | .inr (x, y, r) =>
    let xr := BitVec.ofNat 24 (x.headD 0)
    let xi := BitVec.ofNat 24 (x.tail.headD 0)
    let yr := BitVec.ofNat 24 (y.headD 0)
    let yi := BitVec.ofNat 24 (y.tail.headD 0)
    let re := if conj then fixProd xr yr + fixProd xi yi else fixProd xr yr - fixProd xi yi
    let im := if conj then fixProd xi yr - fixProd xr yi else fixProd xr yi + fixProd xi yr
    let c := s.core k
    let s1 := izAccPut k acc sat ((c.accNow acc).toInt + re) (izAccEnd k r)
    .done (izStep k m n 2 (izAccPut k (acc + 1) sat ((c.accNow (acc + 1)).toInt + im) s1))

/-- The accumulator instructions (R448, R452). -/
def izFa (k : Nat) (o : IzFa) (b1 : BitVec 8) (n : Nat) (x : BitVec 6) (sat : Bool) (rep : List Nat) (s : State) : IzRes :=
  let c := s.core k
  let a := c.reg (nibHi b1).toNat
  let b := c.reg (nibLo b1).toNat
  let sh : Int := (x.extractLsb' 0 5).toInt
  match o with
  | .mpy => .done (izAccPut k n false (fixProd a b) s)
  | .mac => .done (izAccPut k n sat ((c.accNow n).toInt + fixProd a b) s)
  | .msu => .done (izAccPut k n sat ((c.accNow n).toInt - fixProd a b) s)
  | .clra => .done (izAccPut k n false 0 s)
  | .ext =>
    let v := izExt (c.acc n) sh
    let s1 := izW k (.g (nibHi b1).toNat) 3 (wrap24 sat v).toNat s
    .done (if sat && sat24 v != v then izW k (.aov n) 3 1 s1 else s1)
  | .mova => .done (izAccPut k n false (a.toInt * 2 ^ 24) s)
  | .adda => .done (izAccPut k n sat ((c.acc n).toInt + (c.acc (x.toNat / 16)).toInt) s)
  | .sha => .done (izAccPut k n sat (izSha (c.acc n) sh) s)
  | .macp => izMacpDo k (b1.toNat / 16) (b1.toNat % 16) n sat rep s
  | .cmac => izCmacDo k (b1.toNat / 16) (b1.toNat % 16) n false sat rep s
  | .cmacj => izCmacDo k (b1.toNat / 16) (b1.toNat % 16) n true sat rep s

/-- Write loaded words to gG and the registers after it at the distance of a load. -/
def izLoaded (k g : Nat) : List Nat → State → State
  | [], s => s
  | v :: t, s => izLoaded k (g + 1) t (izW k (.g g) 4 v s)

/-- A load or store of cnt words (R416, R448): w is p.offset plus the displacement or index; with M = 1 the access uses
p.offset and the pointer becomes w. -/
def izAccess (k : Nat) (write : Bool) (cnt g : Nat) (post : Bool) (n : Nat) (add : BitVec 24) (sego : Option Nat)
    (rep : List Nat) (s : State) : IzRes :=
  let c := s.core k
  let j := sego.getD (c.bind n)
  let sum := (c.ptr n + add).toNat
  let w := if post then (c.ptr n).toNat else sum
  match izCheck c j w cnt write with
  | some t => t
  | none =>
    let x : IzAcc := ⟨s, rep, 0⟩
    let s1 :=
      if write then izAccEnd k (izStore k (c.desc j) w ((List.range cnt).map fun (i : Nat) => (c.reg (g + i)).toNat) x)
      else (let r := izLoad k (c.desc j) w cnt x; izLoaded k g r.1 (izAccEnd k r.2))
    .done (if post then izW k (.p n) 1 sum s1 else s1)

/-- The memory and pointer instructions of format FM (R448). -/
def izFm (k : Nat) (o : IzFm) (g : Nat) (post : Bool) (n : Nat) (x : BitVec 8) (pre : List IzPre) (rep : List Nat)
    (s : State) : IzRes :=
  let c := s.core k
  let imm := immOf pre x
  let idx := c.reg (nibHi x).toNat
  let sg := segoOf pre
  match o with
  | .ld => izAccess k false 1 g post n imm sg rep s
  | .st => izAccess k true 1 g post n imm sg rep s
  | .ldx => izAccess k false 1 g post n idx sg rep s
  | .stx => izAccess k true 1 g post n idx sg rep s
  | .ldc => izAccess k false 2 g post n imm sg rep s
  | .stc => izAccess k true 2 g post n imm sg rep s
  | .ldp => .done (izW k (.pb n) 2 (nibHi x).toNat (izW k (.p n) 2 (c.reg g).toNat s))
  | .addp => .done (izW k (.p n) 2 (c.ptr n + imm).toNat s)

/-- CALL and CALLR: push the return address and branch (R421, R422). -/
def izCall (k target ret : Nat) (rep : List Nat) (s : State) : IzRes :=
  let sp := (s.core k).sp.toNat
  if sp = 0 then .trap 4 none
  else .branch (some target) (izW k .sp 1 (sp - 1) (izAccEnd k (izPush k [ret] sp ⟨s, rep, 0⟩)))

/-- SETSD: the descriptor of three registers, checked by R415. -/
def izSetsd (k a j : Nat) (s : State) : IzRes :=
  let c := s.core k
  let mid := (c.reg (a + 1)).toNat
  let n := (c.reg a).toNat + 2 ^ 24 * mid + 2 ^ 48 * (c.reg (a + 2)).toNat
  if 512 ≤ mid || !sdOk (SegDesc.unpack n) then .trap 1 none else .done (izW k (.sd j) 2 n s)

/-- GETSD. -/
def izGetsd (k a j : Nat) (s : State) : State :=
  let n := ((s.core k).desc j).pack
  izW k (.g (a + 2)) 2 (n / 2 ^ 48) (izW k (.g (a + 1)) 2 (n / 2 ^ 24 % 2 ^ 24) (izW k (.g a) 2 (n % 2 ^ 24) s))

/-- The fields of SW take the bits of a value: IE at distance d, the others at distance e (R411). -/
def izSwPut (k d e v : Nat) (early : Bool) (s : State) : State :=
  let s1 := if early then izWE k .ie d (v / 2 ^ 23 % 2) s else izW k .ie d (v / 2 ^ 23 % 2) s
  let s2 := izW k .mflt e (bitsOf v 9 7) (izW k .ldepth e (bitsOf v 12 10) s1)
  forEach (List.range 4) (fun (n : Nat) s => izW k (.aov n) e (v / 2 ^ (3 + n) % 2) s) s2

/-- The parts of an accumulator as words, part 2 sign-extended (R448). -/
def accWord (a : BitVec 56) (part : Nat) : Nat :=
  if part = 0 then bitsOf a.toNat 23 0 else if part = 1 then bitsOf a.toNat 47 24
  else ((BitVec.ofNat 8 (bitsOf a.toNat 55 48)).signExtend 24).toNat

/-- The instructions of format FR (R448, R450): x is the first field, y the second. -/
def izFr (k : Nat) (o : IzFr) (x y ret : Nat) (sat : Bool) (rep : List Nat) (s : State) : IzRes :=
  let c := s.core k
  let sp := c.sp.toNat
  let sd := c.desc 15
  match o with
  | .mov | .neg | .abs | .not | .clz | .sext8 | .sext16 => .done (izW k (.g x) 2 (aluFr o sat (c.reg y)).toNat s)
  | .mfsw => .done (izW k (.g x) 2 c.sw s)
  | .mtsw =>
    if swOk (c.reg y).toNat then .done (izSwPut k 2 2 (c.reg y).toNat true s) else .trap 1 none
  | .mfsp => .done (izW k (.g x) 2 sp s)
  | .mtsp => .done (izW k .sp 2 (c.reg y).toNat s)
  | .push =>
    if sp = 0 then .trap 4 none
    else .done (izW k .sp 1 (sp - 1) (izAccEnd k (izPush k [(c.reg y).toNat] sp ⟨s, rep, 0⟩)))
  | .pop =>
    if sd.limit ≤ sp then .trap 4 none
    else
      let r := izLoad k sd sp 1 ⟨s, rep, 0⟩
      .done (izW k .sp 1 (sp + 1) (izW k (.g x) 4 (r.1.headD 0) (izAccEnd k r.2)))
  | .pusha =>
    let a := c.acc y
    if sp < 3 then .trap 4 none
    else .done (izW k .sp 1 (sp - 3) (izAccEnd k (izPush k [accWord a 2, accWord a 1, accWord a 0] sp ⟨s, rep, 0⟩)))
  | .popa =>
    if sd.limit < sp + 3 then .trap 4 none
    else
      let r0 := izLoad k sd sp 1 ⟨s, rep, 0⟩
      let r1 := izLoad k sd (sp + 1) 1 r0.2
      let r2 := izLoad k sd (sp + 2) 1 r1.2
      let v := r0.1.headD 0 + 2 ^ 24 * r1.1.headD 0 + 2 ^ 48 * (r2.1.headD 0 % 256)
      .done (izW k .sp 1 (sp + 3) (izW k (.a y) 3 v (izAccEnd k r2.2)))
  | .jmpr => .branch (some (c.reg y).toNat) s
  | .callr => izCall k (c.reg y).toNat ret rep s
  | .mfp => .done (izW k (.g x) 2 (c.ptr y).toNat s)
  | .setsd => izSetsd k x y s
  | .getsd => .done (izGetsd k x y s)

/-- RTI: pop SW, the PC, and with DS the target (R422, R429, R432). -/
def izRtiDo (k : Nat) (rep : List Nat) (s : State) : IzRes :=
  let c := s.core k
  let sp := c.sp.toNat
  let sd := c.desc 15
  if sd.limit ≤ sp then .trap 4 none
  else
    let r0 := izLoad k sd sp 1 ⟨s, rep, 0⟩
    let w := r0.1.headD 0
    let n := if w.testBit 22 then 3 else 2
    if !swOk w then .trap 1 none
    else if sd.limit < sp + n then .trap 4 none
    else
      let r1 := izLoad k sd (sp + 1) 1 r0.2
      let r2 := if n = 3 then izLoad k sd (sp + 2) 1 r1.2 else ([], r1.2)
      let s1 := izSwPut k 2 1 w false (izW k .sp 1 (sp + n) (izAccEnd k r2.2))
      .rti (s1.setCore k { s1.core k with
        pc := BitVec.ofNat 24 (r1.1.headD 0)
        rep := if w.testBit 21 then some (bitsOf w 20 13 + 1) else none
        delay := if n = 3 then some (some (BitVec.ofNat 24 (r2.1.headD 0))) else none })

/-- RET: pop the target (R422). -/
def izRetDo (k : Nat) (rep : List Nat) (s : State) : IzRes :=
  let c := s.core k
  let sp := c.sp.toNat
  if (c.desc 15).limit ≤ sp then .trap 4 none
  else
    let r := izLoad k (c.desc 15) sp 1 ⟨s, rep, 0⟩
    .branch (some (r.1.headD 0)) (izW k .sp 1 (sp + 1) (izAccEnd k r.2))

/-- SYNC: every buffered line is written and answered (R420). -/
def izSyncDo (k : Nat) (rep : List Nat) (s : State) : State := izAccEnd k (wcFlushAll k 8 ⟨s, rep, 0⟩)

/-- LEXIT (R448). -/
def izLexitDo (k : Nat) (s : State) : IzRes :=
  let d := (s.core k).ldepth
  if d = 0 then .trap 4 none else .done (izW k .ldepth 1 (d - 1) (izW k (.lc (d - 1)) 1 0 s))

/-- The instructions of format F0 (R448). -/
def izF0Do (k : Nat) (o : IzF0) (rep : List Nat) (s : State) : IzRes :=
  match o with
  | .nop => .done s
  | .sync => .done (izSyncDo k rep s)
  | .ret => izRetDo k rep s
  | .rti => izRtiDo k rep s
  | .lexit => izLexitDo k s
  | .ei => .done (izWE k .ie 2 1 s)
  | .di => .done (izWE k .ie 2 0 s)

/-- A loop set-up with a count (R423): the registers of loop k = LDEPTH, readable by the next instruction. -/
def izLoopDo (k count an disp : Nat) (s : State) : IzRes :=
  let d := (s.core k).ldepth
  let le := (an + disp) % 2 ^ 24
  if 4 ≤ d then .trap 4 none
  else
    let s1 := izW k (.lc d) 1 count (izW k (.le d) 1 le (izW k (.ls d) 1 (an % 2 ^ 24) s))
    if count = 0 then .skip le s1 else .done (izW k .ldepth 1 (d + 1) s1)

/-- The map 1 instructions (R448). -/
def izFxDo (k : Nat) (o : IzFx) (d x : Nat) (s : State) : State :=
  let c := s.core k
  let v := (c.reg d).toNat
  match o with
  | .mfls => izW k (.g d) 2 (sget zero24 c.ls x).toNat s
  | .mtls => izW k (.ls x) 2 v s
  | .mfle => izW k (.g d) 2 (sget zero24 c.le x).toNat s
  | .mtle => izW k (.le x) 2 v s
  | .mflc => izW k (.g d) 2 (sget zero24 c.lc x).toNat s
  | .mtlc => izW k (.lc x) 2 v s
  | .mfa => izW k (.g d) 3 (accWord (c.acc (x % 4)) (x / 4)) s
  | .mta => izW k (.aPart (x % 4) (x / 4)) 3 v s
  | .mfpb => izW k (.g d) 2 (c.bind x) s
  | .core => izW k (.g d) 2 k s

/-- A division by zero (R448). -/
def divZero (c : Core) : IzOp → Bool
  | .frr o _ _ b _ => (o == .div || o == .divu || o == .rem) && c.reg b.toNat == 0
  | _ => false

/-- The target of a displacement, signed, from the byte after the instruction. -/
def dispTarget (an : Nat) (disp : BitVec 16) : Nat := (((an : Int) + disp.toInt) % 2 ^ 24).toNat

/-- One iteration of a base instruction on core k that no check of R442 or R444 stops: an is the address of the byte after
it, ret the return address of R422. -/
def izDo (k : Nat) (pre : List IzPre) (o : IzOp) (an ret : Nat) (rep : List Nat) (s : State) : IzRes :=
  let c := s.core k
  let sat := pre.contains .sat
  if divZero c o then .trap 7 none
  else match o with
  | .f0 op => izF0Do k op rep s
  | .fr op x y => izFr k op x.toNat y.toNat ret sat rep s
  | .frr op d a b _ => .done (izW k (.g d.toNat) 2 (aluFrr op sat (c.reg a.toNat) (c.reg b.toNat)).toNat s)
  | .fri op d a imm =>
    .done (izW k (.g d.toNat) 2 (aluFri op sat (c.reg a.toNat) (immOf pre imm) (uimmOf pre imm)).toNat s)
  | .fb cc a b disp =>
    .branch (if izCond cc (c.reg a.toNat) (c.reg b.toNat) then some (dispTarget an disp) else none) s
  | .br _ _ disp => .branch (some (dispTarget an disp)) s
  | .fbi cc a _ imm disp =>
    .branch (if izCond cc (c.reg a.toNat) (immOf pre imm) then some (dispTarget an disp) else none) s
  | .fj link dest => if link then izCall k dest.toNat ret rep s else .branch (some dest.toNat) s
  | .fm op g m n x => izFm k op g.toNat (m == 1) n.toNat x pre rep s
  | .fa op b1 n x => izFa k op b1 n.toNat x sat rep s
  | .loop count disp => izLoopDo k count.toNat an disp.toNat s
  | .loopr cr _ disp => izLoopDo k (c.reg cr.toNat).toNat an disp.toNat s
  | .fx op d x => .done (izFxDo k op d.toNat x.toNat s)

end Sys2Proof.Machine
end

