-- ==== Sys2Proof/Machine/IzIssue.lean ====
section
/-! DEFINITION. How a core issues one iteration (spec/16 R421 to R437, spec/17 R439 to R458): the checks in their order,
delay slots, loops, REP, traps, interrupts and stepping. -/

namespace Sys2Proof.Machine

/-! ## Fetch -/

/-- The bytes from a code address on; a byte of code RAM that was not loaded reads 0 (notes/assumptions/40.md). -/
def Core.bytesAt (c : Core) (pc : Nat) : List Byte := ((c.code.drop pc).take 12 ++ List.replicate 12 0).take 12

/-- What the core fetches at a code address. -/
def Core.fetchAt (c : Core) (pc : Nat) : IzFetch := decodeIz (c.bytesAt pc)

/-- The byte after the instruction at a code address (R422, R454). -/
def Core.after (c : Core) (pc : Nat) : Nat := (pc + fetchLen (c.fetchAt pc)) % 2 ^ 24

/-- The end of code RAM (R412). -/
def codeEnd : Nat := 0x80000

/-! ## Checks -/

/-- The instruction at pc is the last one of the innermost loop (R424). -/
def Core.atLoopEnd (c : Core) (pc : Nat) : Bool := c.ldepth != 0 && (sget zero24 c.le (c.ldepth - 1)).toNat == pc

/-- A REP prefix stands before another prefix, or before an instruction marked R in R443 (R442 item 3). -/
def repMisplaced (pre : List IzPre) (o : IzOp) : Bool :=
  pre.dropLast.any isRep || (pre.any isRep && (isBranch o || isLoopOp o))

/-- The traps that the form of an instruction raises where it stands, the earliest one in R430: PFXOVF, ILLOP, REPX, RSVD
(R412, R425, R442, R444). -/
def izStatic (c : Core) (f : IzFetch) : Option Nat :=
  let pc := c.pc.toNat
  if codeEnd ≤ pc then some 0
  else match f with
  | .undef pre b0 _ => if 4 ≤ pre.length || 8 < undefLen pre b0 then some 6 else some 0
  | .op pre o =>
    if 4 ≤ pre.length || 8 < preLen pre + opLen o then some 6
    else if codeEnd < pc + (preLen pre + opLen o) then some 0
    else if (c.atLoopEnd pc && (isBranch o || isLoopOp o)) || (c.delay.isSome && isBranch o) then some 0
    else if repMisplaced pre o then some 5
    else if preTwice pre || pre.any (fun p => !preApplies o p) || !fieldsClear o then some 1
    else none

/-! ## Traps and interrupts -/

/-- An access made outside an instruction is over: a failing reply stands in SW.MFLT. -/
def izAccNow (k : Nat) (x : IzAcc) : State :=
  if x.flt = 0 then x.s else x.s.setCore k ((x.s.core k).now .mflt x.flt)

/-- The core stops where the pushes of an entry would trap STKOVF (R433). -/
def izDouble (k : Nat) (s : State) : State :=
  ((s.setF (SEQk_STAT_STATE k) 2).setF (SEQk_STAT_DBL k) 1).setF (SEQk_PC_PC k) (s.core k).pc.toNat

/-- The records of a trap entry: SEQk_PC, SEQk_SW, LCAUSE, the count, and SEQk_FADDR after an ALIGN or SEGV (R416,
R431). -/
def izTrapRecord (k cause pc sw : Nat) (at_ : Option (Nat × Nat)) (s : State) : State :=
  let s1 := ((s.setF (SEQk_PC_PC k) pc).setF (SEQk_SW_SW k) sw).setF (SEQk_STAT_LCAUSE k) cause
  let s2 := (s1.setF (SEQk_STAT_TVALID k) 1).bump (SEQk_TRAPCNT_TRAPS k)
  match at_ with
  | some (j, w) => (s2.setF (SEQk_FADDR_SD k) j).setF (SEQk_FADDR_OFFSET k) w
  | none => s2

/-- The words an entry pushes, in order: the target after a trap in the delay slot of a taken branch, the resume PC, and SW
with DS, REPV and REPR (R429, R431, R432). -/
def Core.entryWords (c : Core) : List Nat :=
  let sw := c.sw + (match c.rep with | some r => 2 ^ 21 + (r - 1) % 256 * 2 ^ 13 | none => 0)
  match c.delay with
  | some (some t) => [t.toNat, c.pc.toNat, sw + 2 ^ 22]
  | _ => [c.pc.toNat, sw]

/-- Enter the handler of number n (R431 to R433); a trap is recorded with its cause and address. -/
def izEnter (k n : Nat) (trap : Option (Nat × Option (Nat × Nat))) (rep : List Nat) (s : State) : State :=
  let c : Core := { (s.core k).complete with issuing := false }
  let s0 := s.setCore k c
  let words := c.entryWords
  let sp := c.sp.toNat
  if sp < words.length then izDouble k s0
  else
    let s1 := izAccNow k (izPush k words sp ⟨s0, rep, 0⟩)
    let s2 := match trap with
      | some (cause, at_) => izTrapRecord k cause c.pc.toNat c.sw at_ s1
      | none => s1.bump (SEQk_TRAPCNT_INTS k)
    s2.setCore k { s2.core k with
      sp := BitVec.ofNat 24 (sp - words.length)
      ie := false
      ldepth := 0
      rep := none
      delay := none
      pc := BitVec.ofNat 24 (s.getF (SEQk_CTL_VBASE k) * 256 + 16 * n) }

/-- A trap of the instruction at pc (R430, R431). -/
def izTrap (k cause : Nat) (at_ : Option (Nat × Nat)) (rep : List Nat) (s : State) : State :=
  izEnter k cause (some (cause, at_)) rep s

/-! ## Issue -/

/-- The iterations still to issue: those left of a sequence, or the count a REP prefix latches (R429, R441, R456). -/
def Core.repCount (c : Core) (pre : List IzPre) : Option Nat :=
  match c.rep with
  | some r => some r
  | none => pre.findSome? fun p => match p with
    | .repN n => some (n.toNat + 1)
    | .repG r => some (min 256 (c.reg r.toNat).toNat)
    | _ => none

/-- One issued slot is over: distances fall (R426). -/
def izSlot (k : Nat) (s : State) : State := s.setCore k { (s.core k).tick with issuing := false }

/-- The loop check of R424 after the instruction at pc, then the next pc. -/
def Core.loopCheck (pc an : Nat) (c : Core) : Core :=
  if c.atLoopEnd pc then
    let j := c.ldepth - 1
    let n := (sget zero24 c.lc j).toNat
    if 1 < n then { c.now (.lc j) (n - 1) with pc := sget zero24 c.ls j }
    else if n = 1 then { (c.now (.lc j) 0).now .ldepth j with pc := BitVec.ofNat 24 an }
    else { c with pc := BitVec.ofNat 24 an }
  else { c with pc := BitVec.ofNat 24 an }

/-- An instruction has issued with all its iterations: the target of a taken branch follows its delay slot, otherwise the
loop check decides (R424, R450). -/
def Core.finish (pc an : Nat) (c : Core) : Core :=
  match c.delay with
  | some (some t) => { c with delay := none, rep := none, pc := t }
  | _ => Core.loopCheck pc an { c with delay := none, rep := none }

/-- The core moves on after an iteration that did not trap, with left iterations of a REP sequence still to issue. -/
def izOn (k pc an left : Nat) (s : State) : State :=
  let s1 := izSlot k s
  let c := s1.core k
  s1.setCore k (if 0 < left then { c with rep := some left } else c.finish pc an)

/-- Act on what an iteration did; s0 is the state before it, with its REP count latched. -/
def izAct (k pc an left : Nat) (rep : List Nat) (s0 : State) (r : IzRes) : State :=
  match r with
  | .trap cause at_ => izTrap k cause at_ rep s0
  | .done s1 => izOn k pc an left s1
  | .branch target s1 =>
    let s2 := izSlot k s1
    s2.setCore k { s2.core k with
      delay := some (target.map fun t => BitVec.ofNat 24 t)
      rep := none
      pc := BitVec.ofNat 24 an }
  | .skip le s1 =>
    let s2 := izSlot k s1
    let c := s2.core k
    s2.setCore k (match c.delay with
      | some (some t) => { c with delay := none, pc := t }
      | _ => { c with delay := none, pc := BitVec.ofNat 24 (c.after le) })
  | .rti s1 => izSlot k s1

/-- Core k issues one instruction, or one iteration of it, that it has fetched at its PC. -/
def izRun (k : Nat) (f : IzFetch) (rep : List Nat) (s : State) : State :=
  let c := s.core k
  match izStatic c f, f with
  | none, .op pre o =>
    let pc := c.pc.toNat
    let an := pc + (preLen pre + opLen o)
    let cnt := c.repCount pre
    let s0 := s.setCore k { c with rep := cnt, issuing := true }
    if cnt = some 0 then izOn k pc an 0 s0
    else izAct k pc an (cnt.getD 1 - 1) rep s0 (izDo k pre o an (c.after an) rep s0)
  | some cause, _ => izTrap k cause none rep s
  | none, .undef _ _ _ => izTrap k 0 none rep s

/-- A core halts again after a step (R437). -/
def stepHalt (k : Nat) (s : State) : State :=
  let c := (s.core k).complete
  (s.setCore k c).setF (SEQk_PC_PC k) c.pc.toNat

/-- A halted core that was asked to step issues one instruction, or one iteration, from its code RAM, and halts again
(R437). -/
def stepRun (k : Nat) (rep : List Nat) (s : State) : State :=
  let c := s.core k
  let s0 := s.setCore k { c with stepAsked := false }
  if s0.coreLive k && s0.seqState k == 2 then stepHalt k (izRun k (c.fetchAt c.pc.toNat) rep s0) else s0

/-- Carry out the steps that register writes have asked for; a step may ask for one of another core, n at most in all. -/
def runSteps : Nat → State → State
  | 0, s => s
  | n + 1, s =>
    match (List.range 8).find? fun k => (s.core k).stepAsked && !(s.core k).moving with
    | some k => runSteps n (stepRun k [] s)
    | none => s

/-- The bound on steps that one command carries out. -/
def stepBound : Nat := 8

/-- A write of w by master m to the register at native address a, with the steps it asks for. -/
def regWriteFull (m : Master) (a w : Nat) (s : State) : State := runSteps stepBound (regWrite m a w s)

/-- Core h.core issues what it has fetched at its PC, while it runs. -/
def izIssueFetch (h : IzHead) (f : IzFetch) (s : State) : State :=
  let k := h.core
  if s.coreLive k && s.seqState k == 1 then runSteps stepBound (haltTry k (izRun k f h.replies s)) else s

/-- Core h.core issues a base instruction with its prefixes. -/
def izIssue (h : IzHead) (o : IzOp) (s : State) : State := izIssueFetch h (.op h.pre o) s

/-! ## Commands -/

/-- The highest pending group that is routed to core k (R434). -/
def State.intGroup (s : State) (k : Nat) : Option Nat :=
  [7, 6, 5, 4, 3, 2, 1, 0].find? fun g => s.corePending g && (s.getF (EVT_Gg_ROUTE_CORES g)).testBit k

/-- INTERRUPT_ENTRY: core k takes the highest pending group at a boundary that R434 allows. -/
def execInterruptEntry (k : Nat) (replies : List Nat) (s : State) : Host.Outcome State Fault Refusal :=
  let c := s.core k
  .next (if s.coreLive k && s.seqState k == 1 && c.boundary && c.ieNow then
    match s.intGroup k with
    | some g => haltTry k (izEnter k (8 + g) none replies s)
    | none => s
  else s)

/-- CORE_STEP: a write of SEQk_CTL with HALT and STEP that keeps VBASE. -/
def execCoreStep (m : Master) (k : Nat) (replies : List Nat) (s : State) : Host.Outcome State Fault Refusal :=
  let w := 3 * 2 ^ 30 + s.getF (SEQk_CTL_VBASE k) * 256
  .next (if k < 8 then
    let s1 := gated m (SEQk_CTL k) w (seqGuard m k (seqCtlWrite k w)) s
    runSteps stepBound (if (s1.core k).stepAsked && !(s1.core k).moving then stepRun k replies s1 else s1)
  else s)

/-- PAIR_REMAP. -/
def execPairRemap (t : Nat) (s : State) : Host.Outcome State Fault Refusal := .next (runSteps stepBound (pairMoved t s))

/-- An opcode that neither map defines and that is no prefix (R445, R446). -/
def opUndefined (op op1 : BitVec 8) : Bool :=
  if op = 0xFF then (izMap1 op1.toNat).isNone else (izKind op.toNat).isNone && (decodePre [op, 0, 0]).isNone

/-- UNDEFINED_OPCODE: core h.core issues an undefined opcode after these prefixes, or fetches beyond code RAM. -/
def execUndefinedOpcode (h : IzHead) (op op1 : BitVec 8) (s : State) : Host.Outcome State Fault Refusal :=
  .next (if opUndefined op op1 || codeEnd ≤ (s.core h.core).pc.toNat then izIssueFetch h (.undef h.pre op op1) s else s)

end Sys2Proof.Machine
end

