-- ==== Sys2Proof/Machine/HostBus.lean ====
section
/-! DEFINITION. The ways a host reaches the native registers: the 16-bit host bus with its mirror and posted-write queue
(spec/14 R363 to R373), PCIe BAR0 (spec/13 R352), Casrum control (R346, R347), and a register write as such (R20).  On
the host bus, a is HB_A[16:1] and be the byte enables, bit 0 for the even byte. -/

namespace Sys2Proof.Machine

/-! ## The native host bus -/

/-- The native host bus answers: not in the internal reset (R67), and not under the KT-440 strap (R34). -/
def State.hbLive (s : State) : Bool := !s.pwr.inReset && !s.boot.straps.hbMode

/-- The alias of SYS_HB_PAGE at page offset 0x1_FFFC (R371). -/
def hbAlias (a : Nat) : Bool := a % 65536 / 2 == 0x7FFF

/-- The native address of the register that a cycle addresses (R363). -/
def State.hbReg (s : State) (a : Nat) : Nat := s.getF SYS_HB_PAGE_PAGE * 0x20000 + a % 65536 / 2 * 4

/-- What a host-bus read of a register returns: the mirror's value with the writes still queued for it applied field by
field (R365, R367). -/
def State.hbView (s : State) (reg : Nat) : Nat :=
  (s.hb.queue.filter fun q => q.1 == reg).foldl (fun v q => fieldsWrite (regFields reg) v q.2.toNat) (s.look .hostBus reg).toNat

/-- SYS_HB_STAT follows the hold register and the queue. -/
def hbShow (s : State) : State :=
  let n := s.hb.queue.length
  let s1 := (s.setB SYS_HB_STAT_HELD s.hb.hold.isSome).setF SYS_HB_STAT_QFILL n
  s1.setF SYS_HB_STAT_QMAX (max (s1.getF SYS_HB_STAT_QMAX) n)

/-- A read cycle drives a halfword and leaves the latch as given. -/
def hbAnswer (v : Nat) (latch : Option (Nat × Nat)) (s : State) : State :=
  { s with hb := { s.hb with rdata := v % 65536, latch := latch } }

/-- HB_READ: a read cycle, whatever its byte enables (R363, R365, R366, R370, R371). -/
def execHbRead (a _be : Nat) (s : State) : Host.Outcome State Fault Refusal :=
  .next <|
    if !s.hbLive then s
    else if hbAlias a then hbAnswer (if a % 2 = 0 then s.getF SYS_HB_PAGE_PAGE else 0) none s
    else
      let reg := s.hbReg a
      let v := s.hbView reg
      if a % 2 = 0 then hbAnswer v (some (reg, v / 65536)) (readEffect .hostBus reg s)
      else
        match s.hb.latch with
        | some (r, h) =>
          if r = reg then hbAnswer h none s else hbAnswer (v / 65536) none (s.bump SYS_HB_CNT_SPLIT)
        | none => hbAnswer (v / 65536) none (s.bump SYS_HB_CNT_SPLIT)

/-- A write to the page alias sets PAGE by its low byte (R371). -/
def hbPageSet (be d : Nat) (s : State) : State := if be % 2 = 1 then s.setF SYS_HB_PAGE_PAGE (d % 8) else s

/-- Byte n of a halfword where it is enabled. -/
def hbByte (be d n : Nat) : Option Nat := if be.testBit n then some (d / 2 ^ (8 * n) % 256) else none

/-- HB_WRITE_LOW: a write cycle to the low half at even a: the enabled bytes are held, merged where the hold register
holds the same register's low half (R369). -/
def execHbWriteLow (a be d : Nat) (s : State) : Host.Outcome State Fault Refusal :=
  .next <|
    if !s.hbLive || a % 2 = 1 || be % 4 = 0 then s
    else if hbAlias a then hbPageSet be d s
    else
      let reg := s.hbReg a
      let old := match s.hb.hold with
        | some (r, l, h) => if r = reg then (l, h) else (none, none)
        | none => (none, none)
      hbShow { s with hb := { s.hb with hold := some (reg, (hbByte be d 0).or old.1, (hbByte be d 1).or old.2) } }

/-- The word of bytes that leaves the fields of a register unchanged (R369): in a window, what the window shows. -/
def State.hbKeep (s : State) (reg : Nat) : Nat :=
  if 0x80000 ≤ reg then (s.look .hostBus reg).toNat else keepWord (regFields reg) (s.hbView reg)

/-- A committed write enters the queue, or is discarded where the queue is full (R367, R368); a hold of the same register
is emptied, one of another register stays (R369). -/
def hbCommit (reg w : Nat) (s : State) : State :=
  let s0 := { s with hb := { s.hb with hold := if s.hb.hold.map Prod.fst = some reg then none else s.hb.hold } }
  if 64 ≤ s.hb.queue.length then hbShow (raise evHbQovf noInst (s0.bump SYS_HB_CNT_QOVF))
  else hbShow { s0 with hb := { s0.hb with queue := s0.hb.queue ++ [(reg, BitVec.ofNat 32 w)] } }

/-- HB_WRITE_HIGH: a write cycle to the high half at odd a commits 32 bits (R369); the alias's high half is ignored
(R371). -/
def execHbWriteHigh (a be d : Nat) (s : State) : Host.Outcome State Fault Refusal :=
  .next <|
    if !s.hbLive || a % 2 = 0 || be % 4 = 0 || hbAlias a then s
    else
      let reg := s.hbReg a
      let keep := s.hbKeep reg
      let low := match s.hb.hold with
        | some (r, l, h) => if r = reg then (l, h) else (none, none)
        | none => (none, none)
      let byte := fun (b : Option Nat) (n : Nat) => b.getD (keep / 2 ^ (8 * n) % 256) * 2 ^ (8 * n)
      hbCommit reg (byte low.1 0 + byte low.2 1 + byte (hbByte be d 0) 2 + byte (hbByte be d 1) 3) s

/-- HB_BAD_CYCLE: a cycle with both strobes low, on either bus (R363, R384). -/
def execHbBadCycle (s : State) : Host.Outcome State Fault Refusal :=
  .next (if !s.pwr.inReset then s.bump SYS_HB_CNT_BADCYC else s)

/-- HB_PAGE_WRITE: a write of d to the low half of the page alias (R371). -/
def execHbPageWrite (d : Nat) (s : State) : Host.Outcome State Fault Refusal :=
  .next (if s.hbLive then hbPageSet 1 d s else s)

/-- HB_QUEUE_DELIVER: the oldest entry reaches its block's serialisation point (R367), or, under the KT-440 strap, the
personality, which acts on it (R385).  While SQ0 does not run it, the entry waits (R21). -/
def execHbQueueDeliver (s : State) : Host.Outcome State Fault Refusal :=
  .next (match s.hb.queue with
    | [] => s
    | q :: t =>
      if s.boot.straps.hbMode && !s.ktRuns then s
      else
      let s1 : State := { s with hb := { s.hb with queue := t } }
      hbShow (if s.boot.straps.hbMode then ktRegWrite ((q.1 - CMP_KT 0) / 4) q.2.toNat s1
        else regWriteFull .hostBus q.1 q.2.toNat s1))

/-! ## A write as such -/

/-- REGISTER_WRITE: a write of v by master m reaches the register at native address a. -/
def execRegisterWrite (m : Master) (a : Nat) (v : Word) (s : State) : Host.Outcome State Fault Refusal :=
  .next (if a % 4 = 0 then regWriteFull m a v.toNat s else s)

/-! ## BAR0 -/

/-- Write words to consecutive registers, lower address first. -/
def bar0Writes : Nat → List Word → State → State
  | _, [], s => s
  | a, w :: t, s => bar0Writes (a + 4) t (regWriteFull .pcie a w.toNat s)

/-- Read n consecutive registers, lower address first. -/
def bar0Reads : Nat → Nat → State → List Nat × State
  | 0, _, s => ([], s)
  | n + 1, a, s =>
    let r := regRead .pcie a s
    let q := bar0Reads n (a + 4) r.2
    (r.1.toNat :: q.1, q.2)

/-- BAR0_ACCESS at offset o of this many bytes (R352); data holds the words of a write. -/
def execBar0Access (write : Bool) (o size : Nat) (data : List Word) (s : State) : Host.Outcome State Fault Refusal :=
  .next <|
    if s.pwr.inReset || !s.pwr.pcieAnswers || 0x100000 ≤ o then s
    else if (size = 4 && o % 4 == 0) || (size = 8 && o % 8 == 0) then
      if write then bar0Writes o (data.take (size / 4)) s
      else
        let r := bar0Reads (size / 4) o s
        { r.2 with pci := { r.2.pci with rdata := r.1 } }
    else
      let s1 := s.bump PCI_CNT_BADACC
      if write then s1 else { s1 with pci := { s1.pci with rdata := [0] } }

/-! ## Casrum control -/

/-- A register that carries CODE and a refusal count: of the SYS_REFUSE layout, or an instance's status. -/
def refusalCode (s : State) (a : Nat) : Option Nat :=
  let v := (s.rd a).toNat
  match refTarget a with
  | .blk r => if r = a && bitsOf v 15 0 != 0 then some (bitsOf v 31 28) else none
  | .inst r => if r = a && bitsOf v 15 0 != 0 then some (bitsOf v 19 16) else none

/-- A register takes part in refusalCode. -/
def isRefusalReg (a : Nat) : Bool :=
  match refTarget a with
  | .blk r => r == a
  | .inst r => r == a

/-- The refusal code of a write of w to address a, 0 where it is accepted: the code that the write leaves in a refusal
register when every refusal count starts from 0. -/
def State.writeCode (s : State) (m : Master) (a w : Nat) : Nat :=
  let s0 := forEach ((s.regs.map (·.1)).filter isRefusalReg) (fun r s => s.setF ⟨r, 15, 0⟩ 0) s
  let s1 := regWrite m a w s0
  ((s1.regs.map (·.1)).findSome? (refusalCode s1)).getD 0

/-- Execute one control record, and its reply (STATUS, TAG, ADDR, DATA) (R346). -/
def casExec (q : CasReq) (s : State) : (Nat × Nat × Nat × Nat) × State :=
  if q.op != 1 && q.op != 2 then ((8, q.tag, q.addr, 0), s)
  else if q.addr % 4 != 0 || 0x80000 ≤ q.addr || (findReg (blockRegs q.addr) q.addr).isNone then ((7, q.tag, q.addr, 0), s)
  else if q.op = 1 then
    let r := regRead .casrum q.addr s
    ((0, q.tag, q.addr, r.1.toNat), r.2)
  else
    let keep := BitVec.ofNat 32 (keepWord (regFields q.addr) (s.look .casrum q.addr).toNat)
    let w := ((keep &&& ~~~ q.mask) ||| (q.data &&& q.mask)).toNat
    let s1 := regWriteFull .casrum q.addr w s
    ((s.writeCode .casrum q.addr w, q.tag, q.addr, (s1.look .casrum q.addr).toNat), s1)

/-- Execute the records of a packet in order. -/
def casRun : List CasReq → State → List (Nat × Nat × Nat × Nat) × State
  | [], s => ([], s)
  | q :: t, s =>
    let r := casExec q s
    let x := casRun t r.2
    (r.1 :: x.1, x.2)

/-- The header of a Casrum packet is one of R343: MAGIC, VERSION, a TYPE of R344, and LEN the bytes of the datagram, at most
1,472; those of a control request are its header and records. -/
def casHeader (p : CasPacket) : Bool :=
  p.magic == 0x4353 && p.version == 1 && ((1 ≤ p.type && p.type ≤ 7) || p.type == 0x10 || p.type == 0x11)
    && p.len == p.size && decide (p.len ≤ 1472) && (p.type != 0x10 || p.size == 24 + 16 * p.reqs.length)

/-- A control packet may be executed (R347). -/
def State.casAllowed (s : State) (p : CasPacket) : Bool :=
  s.flag NET_CAS_CTL_CTRL && p.port == s.getF NET_CAS_CTL_PORT && p.udp == s.getF NET_CAS_CTL_UDP && p.src != 0
    && (List.range 4).any fun i => s.getF (NET_CAS_ALLOW_ADDR i) == p.src

/-- CASRUM_CONTROL_RX: a control packet received at t (R343, R346, R347); the reply, of class 2, holds the first 64
records at most. -/
def execCasrumControlRx (p : CasPacket) (t : Nat) (s : State) : Host.Outcome State Fault Refusal :=
  let s1 := s.advance t
  .next <|
    if s.pwr.inReset || !s.feat 2 || !s.firmwareOn 2 then s
    else if !casHeader p then s1.bump NET_CAS_CNT_BADPKT
    else if p.type != 0x10 then s1
    else if !s1.casAllowed p then s1.bump NET_CAS_CNT_DENIED
    else
      let r := casRun p.reqs s1
      let out := r.1.take 64
      let e := egrSend p.port 2 (24 + 16 * out.length + 66 + s1.tagBytes p.port) t r.2
      if e.1 then { e.2 with net := { e.2.net with casReply := some (p.seq, out) } } else e.2

end Sys2Proof.Machine
end

