-- ==== Sys2Proof/Machine/Izham.lean ====
section
/-! DEFINITION. One command for each Izham-24 instruction (spec/17): core h.core issues it, or one iteration of it under
REP, as what it has fetched at its PC. -/

namespace Sys2Proof.Machine

/-! ## Format F0 -/

/-- NOP (R448): does nothing. -/
def execIzNop (h : IzHead) (s : State) : Host.Outcome State Fault Refusal := .next (izIssue h (.f0 .nop) s)

/-- SYNC (R420): holds issue until every earlier store is answered. -/
def execIzSync (h : IzHead) (s : State) : Host.Outcome State Fault Refusal := .next (izIssue h (.f0 .sync) s)

/-- RET (R422): pops the return address and transfers after the delay slot. -/
def execIzRet (h : IzHead) (s : State) : Host.Outcome State Fault Refusal := .next (izIssue h (.f0 .ret) s)

/-- RTI (R422): pops SW and PC and resumes the interrupted code. -/
def execIzRti (h : IzHead) (s : State) : Host.Outcome State Fault Refusal := .next (izIssue h (.f0 .rti) s)

/-- LEXIT (R454): ends the innermost loop early. -/
def execIzLexit (h : IzHead) (s : State) : Host.Outcome State Fault Refusal := .next (izIssue h (.f0 .lexit) s)

/-- EI (R448): sets SW.IE. -/
def execIzEi (h : IzHead) (s : State) : Host.Outcome State Fault Refusal := .next (izIssue h (.f0 .ei) s)

/-- DI (R448): clears SW.IE. -/
def execIzDi (h : IzHead) (s : State) : Host.Outcome State Fault Refusal := .next (izIssue h (.f0 .di) s)

/-! ## Format FRR -/

/-- ADD (R448): adds two registers. -/
def execIzAdd (h : IzHead) (d a b z : BitVec 4) (s : State) : Host.Outcome State Fault Refusal :=
  .next (izIssue h (.frr .add d a b z) s)

/-- SUB (R448): subtracts two registers. -/
def execIzSub (h : IzHead) (d a b z : BitVec 4) (s : State) : Host.Outcome State Fault Refusal :=
  .next (izIssue h (.frr .sub d a b z) s)

/-- AND (R448): bitwise AND of two registers. -/
def execIzAnd (h : IzHead) (d a b z : BitVec 4) (s : State) : Host.Outcome State Fault Refusal :=
  .next (izIssue h (.frr .and d a b z) s)

/-- OR (R448): bitwise OR of two registers. -/
def execIzOr (h : IzHead) (d a b z : BitVec 4) (s : State) : Host.Outcome State Fault Refusal :=
  .next (izIssue h (.frr .or d a b z) s)

/-- XOR (R448): bitwise XOR of two registers. -/
def execIzXor (h : IzHead) (d a b z : BitVec 4) (s : State) : Host.Outcome State Fault Refusal :=
  .next (izIssue h (.frr .xor d a b z) s)

/-- SHL (R448): shifts left by a register. -/
def execIzShl (h : IzHead) (d a b z : BitVec 4) (s : State) : Host.Outcome State Fault Refusal :=
  .next (izIssue h (.frr .shl d a b z) s)

/-- SHR (R448): logical right shift by a register. -/
def execIzShr (h : IzHead) (d a b z : BitVec 4) (s : State) : Host.Outcome State Fault Refusal :=
  .next (izIssue h (.frr .shr d a b z) s)

/-- SRA (R448): arithmetic right shift by a register. -/
def execIzSra (h : IzHead) (d a b z : BitVec 4) (s : State) : Host.Outcome State Fault Refusal :=
  .next (izIssue h (.frr .sra d a b z) s)

/-- MUL (R448): integer multiply, low 24 bits. -/
def execIzMul (h : IzHead) (d a b z : BitVec 4) (s : State) : Host.Outcome State Fault Refusal :=
  .next (izIssue h (.frr .mul d a b z) s)

/-- MULH (R448): fractional multiply, rounded. -/
def execIzMulh (h : IzHead) (d a b z : BitVec 4) (s : State) : Host.Outcome State Fault Refusal :=
  .next (izIssue h (.frr .mulh d a b z) s)

/-- MIN (R448): signed minimum. -/
def execIzMin (h : IzHead) (d a b z : BitVec 4) (s : State) : Host.Outcome State Fault Refusal :=
  .next (izIssue h (.frr .min d a b z) s)

/-- MAX (R448): signed maximum. -/
def execIzMax (h : IzHead) (d a b z : BitVec 4) (s : State) : Host.Outcome State Fault Refusal :=
  .next (izIssue h (.frr .max d a b z) s)

/-- DIV (R448): signed divide. -/
def execIzDiv (h : IzHead) (d a b z : BitVec 4) (s : State) : Host.Outcome State Fault Refusal :=
  .next (izIssue h (.frr .div d a b z) s)

/-- DIVU (R448): unsigned divide. -/
def execIzDivu (h : IzHead) (d a b z : BitVec 4) (s : State) : Host.Outcome State Fault Refusal :=
  .next (izIssue h (.frr .divu d a b z) s)

/-- REM (R448): signed remainder. -/
def execIzRem (h : IzHead) (d a b z : BitVec 4) (s : State) : Host.Outcome State Fault Refusal :=
  .next (izIssue h (.frr .rem d a b z) s)

/-! ## Format FRI -/

/-- ADDI (R448): adds an immediate. -/
def execIzAddi (h : IzHead) (d a : BitVec 4) (imm : BitVec 8) (s : State) : Host.Outcome State Fault Refusal :=
  .next (izIssue h (.fri .addi d a imm) s)

/-- ANDI (R448): ANDs an unsigned immediate. -/
def execIzAndi (h : IzHead) (d a : BitVec 4) (imm : BitVec 8) (s : State) : Host.Outcome State Fault Refusal :=
  .next (izIssue h (.fri .andi d a imm) s)

/-- ORI (R448): ORs an unsigned immediate. -/
def execIzOri (h : IzHead) (d a : BitVec 4) (imm : BitVec 8) (s : State) : Host.Outcome State Fault Refusal :=
  .next (izIssue h (.fri .ori d a imm) s)

/-- XORI (R448): XORs an unsigned immediate. -/
def execIzXori (h : IzHead) (d a : BitVec 4) (imm : BitVec 8) (s : State) : Host.Outcome State Fault Refusal :=
  .next (izIssue h (.fri .xori d a imm) s)

/-- SHLI (R448): shifts left by an immediate. -/
def execIzShli (h : IzHead) (d a : BitVec 4) (imm : BitVec 8) (s : State) : Host.Outcome State Fault Refusal :=
  .next (izIssue h (.fri .shli d a imm) s)

/-- SHRI (R448): logical right shift by an immediate. -/
def execIzShri (h : IzHead) (d a : BitVec 4) (imm : BitVec 8) (s : State) : Host.Outcome State Fault Refusal :=
  .next (izIssue h (.fri .shri d a imm) s)

/-- SRAI (R448): arithmetic right shift by an immediate. -/
def execIzSrai (h : IzHead) (d a : BitVec 4) (imm : BitVec 8) (s : State) : Host.Outcome State Fault Refusal :=
  .next (izIssue h (.fri .srai d a imm) s)

/-- MULI (R448): multiplies by an immediate. -/
def execIzMuli (h : IzHead) (d a : BitVec 4) (imm : BitVec 8) (s : State) : Host.Outcome State Fault Refusal :=
  .next (izIssue h (.fri .muli d a imm) s)

/-- MOVI (R448): loads an immediate. -/
def execIzMovi (h : IzHead) (d a : BitVec 4) (imm : BitVec 8) (s : State) : Host.Outcome State Fault Refusal :=
  .next (izIssue h (.fri .movi d a imm) s)

/-! ## Format FR -/

/-- MOV (R448): copies a register. -/
def execIzMov (h : IzHead) (x y : BitVec 4) (s : State) : Host.Outcome State Fault Refusal :=
  .next (izIssue h (.fr .mov x y) s)

/-- NEG (R448): negates a register. -/
def execIzNeg (h : IzHead) (x y : BitVec 4) (s : State) : Host.Outcome State Fault Refusal :=
  .next (izIssue h (.fr .neg x y) s)

/-- ABS (R448): absolute value of a register. -/
def execIzAbs (h : IzHead) (x y : BitVec 4) (s : State) : Host.Outcome State Fault Refusal :=
  .next (izIssue h (.fr .abs x y) s)

/-- NOT (R448): bitwise complement of a register. -/
def execIzNot (h : IzHead) (x y : BitVec 4) (s : State) : Host.Outcome State Fault Refusal :=
  .next (izIssue h (.fr .not x y) s)

/-- CLZ (R448): counts leading zeros. -/
def execIzClz (h : IzHead) (x y : BitVec 4) (s : State) : Host.Outcome State Fault Refusal :=
  .next (izIssue h (.fr .clz x y) s)

/-- SEXT8 (R448): sign-extends the low byte. -/
def execIzSext8 (h : IzHead) (x y : BitVec 4) (s : State) : Host.Outcome State Fault Refusal :=
  .next (izIssue h (.fr .sext8 x y) s)

/-- SEXT16 (R448): sign-extends the low 16 bits. -/
def execIzSext16 (h : IzHead) (x y : BitVec 4) (s : State) : Host.Outcome State Fault Refusal :=
  .next (izIssue h (.fr .sext16 x y) s)

/-- MFSW (R448): reads SW. -/
def execIzMfsw (h : IzHead) (x y : BitVec 4) (s : State) : Host.Outcome State Fault Refusal :=
  .next (izIssue h (.fr .mfsw x y) s)

/-- MTSW (R449): writes SW, trapping on reserved values. -/
def execIzMtsw (h : IzHead) (x y : BitVec 4) (s : State) : Host.Outcome State Fault Refusal :=
  .next (izIssue h (.fr .mtsw x y) s)

/-- MFSP (R448): reads sp. -/
def execIzMfsp (h : IzHead) (x y : BitVec 4) (s : State) : Host.Outcome State Fault Refusal :=
  .next (izIssue h (.fr .mfsp x y) s)

/-- MTSP (R448): writes sp. -/
def execIzMtsp (h : IzHead) (x y : BitVec 4) (s : State) : Host.Outcome State Fault Refusal :=
  .next (izIssue h (.fr .mtsp x y) s)

/-- PUSH (R421): pushes a register. -/
def execIzPush (h : IzHead) (x y : BitVec 4) (s : State) : Host.Outcome State Fault Refusal :=
  .next (izIssue h (.fr .push x y) s)

/-- POP (R421): pops a register. -/
def execIzPop (h : IzHead) (x y : BitVec 4) (s : State) : Host.Outcome State Fault Refusal :=
  .next (izIssue h (.fr .pop x y) s)

/-- PUSHA (R450): pushes an accumulator as three words. -/
def execIzPusha (h : IzHead) (x y : BitVec 4) (s : State) : Host.Outcome State Fault Refusal :=
  .next (izIssue h (.fr .pusha x y) s)

/-- POPA (R450): pops an accumulator from three words. -/
def execIzPopa (h : IzHead) (x y : BitVec 4) (s : State) : Host.Outcome State Fault Refusal :=
  .next (izIssue h (.fr .popa x y) s)

/-- JMPR (R450): jumps to a register address. -/
def execIzJmpr (h : IzHead) (x y : BitVec 4) (s : State) : Host.Outcome State Fault Refusal :=
  .next (izIssue h (.fr .jmpr x y) s)

/-- CALLR (R422): calls a register address. -/
def execIzCallr (h : IzHead) (x y : BitVec 4) (s : State) : Host.Outcome State Fault Refusal :=
  .next (izIssue h (.fr .callr x y) s)

/-- MFP (R448): reads a pointer's offset. -/
def execIzMfp (h : IzHead) (x y : BitVec 4) (s : State) : Host.Outcome State Fault Refusal :=
  .next (izIssue h (.fr .mfp x y) s)

/-- SETSD (R415): writes a segment descriptor, checked against the windows. -/
def execIzSetsd (h : IzHead) (x y : BitVec 4) (s : State) : Host.Outcome State Fault Refusal :=
  .next (izIssue h (.fr .setsd x y) s)

/-- GETSD (R448): reads a segment descriptor. -/
def execIzGetsd (h : IzHead) (x y : BitVec 4) (s : State) : Host.Outcome State Fault Refusal :=
  .next (izIssue h (.fr .getsd x y) s)

/-! ## Branches -/

/-- BEQ (R450): branches if two registers are equal. -/
def execIzBeq (h : IzHead) (a b : BitVec 4) (disp : BitVec 16) (s : State) : Host.Outcome State Fault Refusal :=
  .next (izIssue h (.fb .eq a b disp) s)

/-- BNE (R450): branches if two registers differ. -/
def execIzBne (h : IzHead) (a b : BitVec 4) (disp : BitVec 16) (s : State) : Host.Outcome State Fault Refusal :=
  .next (izIssue h (.fb .ne a b disp) s)

/-- BLT (R450): branches if signed less than. -/
def execIzBlt (h : IzHead) (a b : BitVec 4) (disp : BitVec 16) (s : State) : Host.Outcome State Fault Refusal :=
  .next (izIssue h (.fb .lt a b disp) s)

/-- BGE (R450): branches if signed greater or equal. -/
def execIzBge (h : IzHead) (a b : BitVec 4) (disp : BitVec 16) (s : State) : Host.Outcome State Fault Refusal :=
  .next (izIssue h (.fb .ge a b disp) s)

/-- BLTU (R450): branches if unsigned less than. -/
def execIzBltu (h : IzHead) (a b : BitVec 4) (disp : BitVec 16) (s : State) : Host.Outcome State Fault Refusal :=
  .next (izIssue h (.fb .ltu a b disp) s)

/-- BGEU (R450): branches if unsigned greater or equal. -/
def execIzBgeu (h : IzHead) (a b : BitVec 4) (disp : BitVec 16) (s : State) : Host.Outcome State Fault Refusal :=
  .next (izIssue h (.fb .geu a b disp) s)

/-- BR (R450): branches always. -/
def execIzBr (h : IzHead) (z0 z1 : BitVec 4) (disp : BitVec 16) (s : State) : Host.Outcome State Fault Refusal :=
  .next (izIssue h (.br z0 z1 disp) s)

/-- BEQI (R450): branches if a register equals an immediate. -/
def execIzBeqi (h : IzHead) (a z : BitVec 4) (imm : BitVec 8) (disp : BitVec 16) (s : State) : Host.Outcome State Fault Refusal :=
  .next (izIssue h (.fbi .eq a z imm disp) s)

/-- BNEI (R450): branches if a register differs from an immediate. -/
def execIzBnei (h : IzHead) (a z : BitVec 4) (imm : BitVec 8) (disp : BitVec 16) (s : State) : Host.Outcome State Fault Refusal :=
  .next (izIssue h (.fbi .ne a z imm disp) s)

/-- BLTI (R450): branches if signed less than an immediate. -/
def execIzBlti (h : IzHead) (a z : BitVec 4) (imm : BitVec 8) (disp : BitVec 16) (s : State) : Host.Outcome State Fault Refusal :=
  .next (izIssue h (.fbi .lt a z imm disp) s)

/-- BGEI (R450): branches if signed greater or equal to an immediate. -/
def execIzBgei (h : IzHead) (a z : BitVec 4) (imm : BitVec 8) (disp : BitVec 16) (s : State) : Host.Outcome State Fault Refusal :=
  .next (izIssue h (.fbi .ge a z imm disp) s)

/-- BLTUI (R450): branches if unsigned less than an immediate. -/
def execIzBltui (h : IzHead) (a z : BitVec 4) (imm : BitVec 8) (disp : BitVec 16) (s : State) : Host.Outcome State Fault Refusal :=
  .next (izIssue h (.fbi .ltu a z imm disp) s)

/-- BGEUI (R450): branches if unsigned greater or equal to an immediate. -/
def execIzBgeui (h : IzHead) (a z : BitVec 4) (imm : BitVec 8) (disp : BitVec 16) (s : State) : Host.Outcome State Fault Refusal :=
  .next (izIssue h (.fbi .geu a z imm disp) s)

/-- JMP (R450): jumps to an absolute address. -/
def execIzJmp (h : IzHead) (dest : BitVec 24) (s : State) : Host.Outcome State Fault Refusal :=
  .next (izIssue h (.fj false dest) s)

/-- CALL (R422): pushes the return address and calls an absolute address. -/
def execIzCall (h : IzHead) (dest : BitVec 24) (s : State) : Host.Outcome State Fault Refusal :=
  .next (izIssue h (.fj true dest) s)

/-! ## Format FM -/

/-- LD (R416): loads a word through a segment. -/
def execIzLd (h : IzHead) (g : BitVec 4) (m : BitVec 1) (n : BitVec 3) (x : BitVec 8) (s : State) : Host.Outcome State Fault Refusal :=
  .next (izIssue h (.fm .ld g m n x) s)

/-- ST (R416): stores a word through a segment. -/
def execIzSt (h : IzHead) (g : BitVec 4) (m : BitVec 1) (n : BitVec 3) (x : BitVec 8) (s : State) : Host.Outcome State Fault Refusal :=
  .next (izIssue h (.fm .st g m n x) s)

/-- LDX (R416): loads a word indexed by a register. -/
def execIzLdx (h : IzHead) (g : BitVec 4) (m : BitVec 1) (n : BitVec 3) (x : BitVec 8) (s : State) : Host.Outcome State Fault Refusal :=
  .next (izIssue h (.fm .ldx g m n x) s)

/-- STX (R416): stores a word indexed by a register. -/
def execIzStx (h : IzHead) (g : BitVec 4) (m : BitVec 1) (n : BitVec 3) (x : BitVec 8) (s : State) : Host.Outcome State Fault Refusal :=
  .next (izIssue h (.fm .stx g m n x) s)

/-- LDC (R416): loads two words. -/
def execIzLdc (h : IzHead) (g : BitVec 4) (m : BitVec 1) (n : BitVec 3) (x : BitVec 8) (s : State) : Host.Outcome State Fault Refusal :=
  .next (izIssue h (.fm .ldc g m n x) s)

/-- STC (R416): stores two words. -/
def execIzStc (h : IzHead) (g : BitVec 4) (m : BitVec 1) (n : BitVec 3) (x : BitVec 8) (s : State) : Host.Outcome State Fault Refusal :=
  .next (izIssue h (.fm .stc g m n x) s)

/-- LDP (R416): loads a pointer and binds it to a descriptor. -/
def execIzLdp (h : IzHead) (g : BitVec 4) (m : BitVec 1) (n : BitVec 3) (x : BitVec 8) (s : State) : Host.Outcome State Fault Refusal :=
  .next (izIssue h (.fm .ldp g m n x) s)

/-- ADDP (R448): adds an immediate to a pointer. -/
def execIzAddp (h : IzHead) (g : BitVec 4) (m : BitVec 1) (n : BitVec 3) (x : BitVec 8) (s : State) : Host.Outcome State Fault Refusal :=
  .next (izIssue h (.fm .addp g m n x) s)

/-! ## Accumulators -/

/-- MPY (R448): sets an accumulator to a product. -/
def execIzMpy (h : IzHead) (b1 : BitVec 8) (k : BitVec 2) (x : BitVec 6) (s : State) : Host.Outcome State Fault Refusal :=
  .next (izIssue h (.fa .mpy b1 k x) s)

/-- MAC (R428): adds a product to an accumulator. -/
def execIzMac (h : IzHead) (b1 : BitVec 8) (k : BitVec 2) (x : BitVec 6) (s : State) : Host.Outcome State Fault Refusal :=
  .next (izIssue h (.fa .mac b1 k x) s)

/-- MSU (R448): subtracts a product from an accumulator. -/
def execIzMsu (h : IzHead) (b1 : BitVec 8) (k : BitVec 2) (x : BitVec 6) (s : State) : Host.Outcome State Fault Refusal :=
  .next (izIssue h (.fa .msu b1 k x) s)

/-- CLRA (R448): clears an accumulator. -/
def execIzClra (h : IzHead) (b1 : BitVec 8) (k : BitVec 2) (x : BitVec 6) (s : State) : Host.Outcome State Fault Refusal :=
  .next (izIssue h (.fa .clra b1 k x) s)

/-- EXT (R409): extracts a scaled accumulator into a register. -/
def execIzExt (h : IzHead) (b1 : BitVec 8) (k : BitVec 2) (x : BitVec 6) (s : State) : Host.Outcome State Fault Refusal :=
  .next (izIssue h (.fa .ext b1 k x) s)

/-- MOVA (R448): moves a register into an accumulator. -/
def execIzMova (h : IzHead) (b1 : BitVec 8) (k : BitVec 2) (x : BitVec 6) (s : State) : Host.Outcome State Fault Refusal :=
  .next (izIssue h (.fa .mova b1 k x) s)

/-- ADDA (R448): adds two accumulators. -/
def execIzAdda (h : IzHead) (b1 : BitVec 8) (k : BitVec 2) (x : BitVec 6) (s : State) : Host.Outcome State Fault Refusal :=
  .next (izIssue h (.fa .adda b1 k x) s)

/-- SHA (R448): shifts an accumulator. -/
def execIzSha (h : IzHead) (b1 : BitVec 8) (k : BitVec 2) (x : BitVec 6) (s : State) : Host.Outcome State Fault Refusal :=
  .next (izIssue h (.fa .sha b1 k x) s)

/-- MACP (R453): accumulates the product of two pointed words and steps the pointers. -/
def execIzMacp (h : IzHead) (b1 : BitVec 8) (k : BitVec 2) (x : BitVec 6) (s : State) : Host.Outcome State Fault Refusal :=
  .next (izIssue h (.fa .macp b1 k x) s)

/-- CMAC (R453): accumulates a complex product and steps the pointers. -/
def execIzCmac (h : IzHead) (b1 : BitVec 8) (k : BitVec 2) (x : BitVec 6) (s : State) : Host.Outcome State Fault Refusal :=
  .next (izIssue h (.fa .cmac b1 k x) s)

/-- CMACJ (R453): accumulates a conjugate complex product and steps the pointers. -/
def execIzCmacj (h : IzHead) (b1 : BitVec 8) (k : BitVec 2) (x : BitVec 6) (s : State) : Host.Outcome State Fault Refusal :=
  .next (izIssue h (.fa .cmacj b1 k x) s)

/-! ## Loops -/

/-- LOOP (R423): sets up a zero-overhead loop with an immediate count. -/
def execIzLoop (h : IzHead) (count disp : BitVec 16) (s : State) : Host.Outcome State Fault Refusal :=
  .next (izIssue h (.loop count disp) s)

/-- LOOPR (R423): sets up a zero-overhead loop with a register count. -/
def execIzLoopr (h : IzHead) (c z : BitVec 4) (disp : BitVec 16) (s : State) : Host.Outcome State Fault Refusal :=
  .next (izIssue h (.loopr c z disp) s)

/-! ## Map 1 -/

/-- MFLS (R448): reads a loop start register. -/
def execIzMfls (h : IzHead) (d x : BitVec 4) (s : State) : Host.Outcome State Fault Refusal :=
  .next (izIssue h (.fx .mfls d x) s)

/-- MTLS (R448): writes a loop start register. -/
def execIzMtls (h : IzHead) (d x : BitVec 4) (s : State) : Host.Outcome State Fault Refusal :=
  .next (izIssue h (.fx .mtls d x) s)

/-- MFLE (R448): reads a loop end register. -/
def execIzMfle (h : IzHead) (d x : BitVec 4) (s : State) : Host.Outcome State Fault Refusal :=
  .next (izIssue h (.fx .mfle d x) s)

/-- MTLE (R448): writes a loop end register. -/
def execIzMtle (h : IzHead) (d x : BitVec 4) (s : State) : Host.Outcome State Fault Refusal :=
  .next (izIssue h (.fx .mtle d x) s)

/-- MFLC (R448): reads a loop count register. -/
def execIzMflc (h : IzHead) (d x : BitVec 4) (s : State) : Host.Outcome State Fault Refusal :=
  .next (izIssue h (.fx .mflc d x) s)

/-- MTLC (R448): writes a loop count register. -/
def execIzMtlc (h : IzHead) (d x : BitVec 4) (s : State) : Host.Outcome State Fault Refusal :=
  .next (izIssue h (.fx .mtlc d x) s)

/-- MFA (R448): reads a part of an accumulator. -/
def execIzMfa (h : IzHead) (d x : BitVec 4) (s : State) : Host.Outcome State Fault Refusal :=
  .next (izIssue h (.fx .mfa d x) s)

/-- MTA (R448): writes a part of an accumulator. -/
def execIzMta (h : IzHead) (d x : BitVec 4) (s : State) : Host.Outcome State Fault Refusal :=
  .next (izIssue h (.fx .mta d x) s)

/-- MFPB (R448): reads the descriptor bound to a pointer. -/
def execIzMfpb (h : IzHead) (d x : BitVec 4) (s : State) : Host.Outcome State Fault Refusal :=
  .next (izIssue h (.fx .mfpb d x) s)

/-- CORE (R448): reads the logical core number. -/
def execIzCore (h : IzHead) (d x : BitVec 4) (s : State) : Host.Outcome State Fault Refusal :=
  .next (izIssue h (.fx .core d x) s)

end Sys2Proof.Machine
end

