-- ==== Sys2Proof/Machine/Dispatch.lean ====
section
/-! DEFINITION. One arm per command: a direct call of its meaning, or a refusal by name while it has none. -/

namespace Sys2Proof.Machine

/-- The effect of a command on everything but the queue of waiting commands. -/
def exec (i : Instr) (s : State) : Host.Outcome State Fault Refusal :=
  match i with
  | .resetNAssert ns took => Sys2Proof.Machine.execResetNAssert ns took s
  | .powerOnTimingDone => Sys2Proof.Machine.execPowerOnTimingDone s
  | .internalResetEnd straps early temps licVerifies => Sys2Proof.Machine.execInternalResetEnd straps early temps licVerifies s
  | .brownout rails nvLost => Sys2Proof.Machine.execBrownout rails nvLost s
  | .thermWarn temps => Sys2Proof.Machine.execThermWarn temps s
  | .thermalTrip temps => Sys2Proof.Machine.execThermalTrip temps s
  | .hkStop => Sys2Proof.Machine.execHkStop s
  | .hkRestore => Sys2Proof.Machine.execHkRestore s
  | .perstAssert => Sys2Proof.Machine.execPerstAssert s
  | .perstRelease => Sys2Proof.Machine.execPerstRelease s
  | .pcieLinkChange up gen lanes => Sys2Proof.Machine.execPcieLinkChange up gen lanes s
  | .marrowInitDone trained => Sys2Proof.Machine.execMarrowInitDone trained s
  | .refMeasureDone hz => Sys2Proof.Machine.execRefMeasureDone hz s
  | .directoryRead copy bytes => Sys2Proof.Machine.execDirectoryRead copy bytes s
  | .directoryReadTimeout copy => Sys2Proof.Machine.execDirectoryReadTimeout copy s
  | .imageVerify img => Sys2Proof.Machine.execImageVerify img s
  | .fabricConfigured t => Sys2Proof.Machine.execFabricConfigured t s
  | .firmwareReady => Sys2Proof.Machine.execFirmwareReady s
  | .bootLoad m => Sys2Proof.Machine.execBootLoad m s
  | .featAcceptWrite m w v => Sys2Proof.Machine.execFeatAcceptWrite m w v s
  | .featLock m => Sys2Proof.Machine.execFeatLock m s
  | .lockComplete => Sys2Proof.Machine.execLockComplete s
  | .kt440AutoLock => Sys2Proof.Machine.execKt440AutoLock s
  | .personalityReady => Sys2Proof.Machine.execPersonalityReady s
  | .spllCommit m => Sys2Proof.Machine.execSpllCommit m s
  | .divCommit => Sys2Proof.Machine.execDivCommit s
  | .clkSrcChange m src => Sys2Proof.Machine.execClkSrcChange m src s
  | .refWindow mhz => Sys2Proof.Machine.execRefWindow mhz s
  | .refQualify delta => Sys2Proof.Machine.execRefQualify delta s
  | .spllLock => Sys2Proof.Machine.execSpllLock s
  | .spllFail => Sys2Proof.Machine.execSpllFail s
  | .spllLoss tf => Sys2Proof.Machine.execSpllLoss tf s
  | .holdSecond => Sys2Proof.Machine.execHoldSecond s
  | .slewDone => Sys2Proof.Machine.execSlewDone s
  | .programmeClockFade p => Sys2Proof.Machine.execProgrammeClockFade p s
  | .syscntRead => Sys2Proof.Machine.execSyscntRead s
  | .ptpSync p => Sys2Proof.Machine.execPtpSync p s
  | .ptpFollowUp p => Sys2Proof.Machine.execPtpFollowUp p s
  | .ptpDelayResp p => Sys2Proof.Machine.execPtpDelayResp p s
  | .ptpAnnounce p => Sys2Proof.Machine.execPtpAnnounce p s
  | .ptpAnnounceTimeout t => Sys2Proof.Machine.execPtpAnnounceTimeout t s
  | .ptpSyncTimeout t => Sys2Proof.Machine.execPtpSyncTimeout t s
  | .ptpMasterSend kind t => Sys2Proof.Machine.execPtpMasterSend kind t s
  | .ppsPulse t => Sys2Proof.Machine.execPpsPulse t s
  | .ppsEnd t => Sys2Proof.Machine.execPpsEnd t s
  | .gainApply m inA inB => Sys2Proof.Machine.execGainApply m inA inB s
  | .gainApplied a t => Sys2Proof.Machine.execGainApplied a t s
  | .ovlWindowEnd a t clipped peak avg => Sys2Proof.Machine.execOvlWindowEnd a t clipped peak avg s
  | .lnaProtect a => Sys2Proof.Machine.execLnaProtect a s
  | .adcBlockArrival a ts samples leekReads snapRefused => Sys2Proof.Machine.execAdcBlockArrival a ts samples leekReads snapRefused s
  | .blockRelease kind inst t audio => Sys2Proof.Machine.execBlockRelease kind inst t audio s
  | .blockDrop p kind inst rel => Sys2Proof.Machine.execBlockDrop p kind inst rel s
  | .voidToken kind inst ts period => Sys2Proof.Machine.execVoidToken kind inst ts period s
  | .guardAbsorb p => Sys2Proof.Machine.execGuardAbsorb p s
  | .guardVoidSupply p kind inst ts period => Sys2Proof.Machine.execGuardVoidSupply p kind inst ts period s
  | .paceWindowEnd t busy => Sys2Proof.Machine.execPaceWindowEnd t busy s
  | .fabIsolate m p => Sys2Proof.Machine.execFabIsolate m p s
  | .fabRestore m p => Sys2Proof.Machine.execFabRestore m p s
  | .podDrainEnd p late t => Sys2Proof.Machine.execPodDrainEnd p late t s
  | .podLoadDone p t replayed => Sys2Proof.Machine.execPodLoadDone p t replayed s
  | .reloadErr p t => Sys2Proof.Machine.execReloadErr p t s
  | .podRelease t => Sys2Proof.Machine.execPodRelease t s
  | .marrowCompletionDiscard id => Sys2Proof.Machine.execMarrowCompletionDiscard id s
  | .loadPortWrite m a v => Sys2Proof.Machine.execLoadPortWrite m a v s
  | .prResetPort m => Sys2Proof.Machine.execPrResetPort m s
  | .prStart m => Sys2Proof.Machine.execPrStart m s
  | .prVerifyDone v hash t => Sys2Proof.Machine.execPrVerifyDone v hash t s
  | .bankDataWrite m v => Sys2Proof.Machine.execBankDataWrite m v s
  | .bankOpen m => Sys2Proof.Machine.execBankOpen m s
  | .bankSeal m => Sys2Proof.Machine.execBankSeal m s
  | .pathStart m n => Sys2Proof.Machine.execPathStart m n s
  | .pathStop m n => Sys2Proof.Machine.execPathStop m n s
  | .pathSync m n => Sys2Proof.Machine.execPathSync m n s
  | .pathChangeInstant n t => Sys2Proof.Machine.execPathChangeInstant n t s
  | .pathDeferredStop dec n => Sys2Proof.Machine.execPathDeferredStop dec n s
  | .shiftWrite m n v => Sys2Proof.Machine.execShiftWrite m n v s
  | .pathOutputBlock n => Sys2Proof.Machine.execPathOutputBlock n s
  | .metricWindow n start => Sys2Proof.Machine.execMetricWindow n start s
  | .metricPublish n => Sys2Proof.Machine.execMetricPublish n s
  | .demConfigWrite m n r v => Sys2Proof.Machine.execDemConfigWrite m n r v s
  | .rdsBlock n bit word t => Sys2Proof.Machine.execRdsBlock n bit word t s
  | .piTimeout n t => Sys2Proof.Machine.execPiTimeout n t s
  | .ensStart m n => Sys2Proof.Machine.execEnsStart m n s
  | .ensStop m n => Sys2Proof.Machine.execEnsStop m n s
  | .ensResync m n => Sys2Proof.Machine.execEnsResync m n s
  | .slotReleaseInstant n t => Sys2Proof.Machine.execSlotReleaseInstant n t s
  | .ensLock n nulls prs foff err => Sys2Proof.Machine.execEnsLock n nulls prs foff err s
  | .ensLost n t period => Sys2Proof.Machine.execEnsLost n t period s
  | .ensFrame n f => Sys2Proof.Machine.execEnsFrame n f s
  | .subchRecord n sub cif bytes => Sys2Proof.Machine.execSubchRecord n sub cif bytes s
  | .decStart m d => Sys2Proof.Machine.execDecStart m d s
  | .decStop m d => Sys2Proof.Machine.execDecStop m d s
  | .decRun d cif stereo sbr ps core => Sys2Proof.Machine.execDecRun d cif stereo sbr ps core s
  | .decWait d => Sys2Proof.Machine.execDecWait d s
  | .decConceal d superframe cif au good rs => Sys2Proof.Machine.execDecConceal d superframe cif au good rs s
  | .multiplexReconfig n org => Sys2Proof.Machine.execMultiplexReconfig n org s
  | .fennelInfoUpdate n v => Sys2Proof.Machine.execFennelInfoUpdate n v s
  | .folStart m p => Sys2Proof.Machine.execFolStart m p s
  | .folStop m p => Sys2Proof.Machine.execFolStop m p s
  | .abortXfade m p => Sys2Proof.Machine.execAbortXfade m p s
  | .folSwitch m p idx => Sys2Proof.Machine.execFolSwitch m p idx s
  | .folRealign m p => Sys2Proof.Machine.execFolRealign m p s
  | .progSearchStart p t => Sys2Proof.Machine.execProgSearchStart p t s
  | .progOrigin p idx tu => Sys2Proof.Machine.execProgOrigin p idx tu s
  | .progStopped p => Sys2Proof.Machine.execProgStopped p s
  | .poolIdleStop t => Sys2Proof.Machine.execPoolIdleStop t s
  | .progBlockForm p complete => Sys2Proof.Machine.execProgBlockForm p complete s
  | .candidateAdd p origin kind num idx => Sys2Proof.Machine.execCandidateAdd p origin kind num idx s
  | .candidateRemove p idx t => Sys2Proof.Machine.execCandidateRemove p idx t s
  | .candidateUnusable p idx => Sys2Proof.Machine.execCandidateUnusable p idx s
  | .candidateUsable p idx => Sys2Proof.Machine.execCandidateUsable p idx s
  | .folInelig p idx => Sys2Proof.Machine.execFolInelig p idx s
  | .poolPathStart p hz fig => Sys2Proof.Machine.execPoolPathStart p hz fig s
  | .poolPathTimeout n t => Sys2Proof.Machine.execPoolPathTimeout n t s
  | .fennelDecoderStart p idx => Sys2Proof.Machine.execFennelDecoderStart p idx s
  | .fennelDecoderStop d t => Sys2Proof.Machine.execFennelDecoderStop d t s
  | .scoreUpdate p idx => Sys2Proof.Machine.execScoreUpdate p idx s
  | .discretionarySwitch p => Sys2Proof.Machine.execDiscretionarySwitch p s
  | .forcedSwitch p => Sys2Proof.Machine.execForcedSwitch p s
  | .hardSwitch p => Sys2Proof.Machine.execHardSwitch p s
  | .xfadeEnd p => Sys2Proof.Machine.execXfadeEnd p s
  | .alignMeasure p idx u => Sys2Proof.Machine.execAlignMeasure p idx u s
  | .loudnessUpdate p idx t => Sys2Proof.Machine.execLoudnessUpdate p idx t s
  | .clistWrite m v => Sys2Proof.Machine.execClistWrite m v s
  | .mrwApply m => Sys2Proof.Machine.execMrwApply m s
  | .marrowRequest q t => Sys2Proof.Machine.execMarrowRequest q t s
  | .marrowReply id e => Sys2Proof.Machine.execMarrowReply id e s
  | .marrowWaitTimeout id t => Sys2Proof.Machine.execMarrowWaitTimeout id t s
  | .scrubStep progress fixes dead => Sys2Proof.Machine.execScrubStep progress fixes dead s
  | .ringRecordWrite kind num ts accepted => Sys2Proof.Machine.execRingRecordWrite kind num ts accepted s
  | .audioChannelAssign kind num => Sys2Proof.Machine.execAudioChannelAssign kind num s
  | .timeshiftWrite m win v => Sys2Proof.Machine.execTimeshiftWrite m win v s
  | .snpArm m => Sys2Proof.Machine.execSnpArm m s
  | .snpTrig m => Sys2Proof.Machine.execSnpTrig m s
  | .snapStop m => Sys2Proof.Machine.execSnapStop m s
  | .snapMatchTrigger ts => Sys2Proof.Machine.execSnapMatchTrigger ts s
  | .snapDone t => Sys2Proof.Machine.execSnapDone t s
  | .sapCtlWrite m k v => Sys2Proof.Machine.execSapCtlWrite m k v s
  | .sapFrame k f => Sys2Proof.Machine.execSapFrame k f s
  | .sapClockStop k dir t => Sys2Proof.Machine.execSapClockStop k dir t s
  | .sapBlockHandoff k pair h => Sys2Proof.Machine.execSapBlockHandoff k pair h s
  | .sapMapWrite m k pair v => Sys2Proof.Machine.execSapMapWrite m k pair v s
  | .sapMute m k on => Sys2Proof.Machine.execSapMute m k on s
  | .sapTapBlock k ts => Sys2Proof.Machine.execSapTapBlock k ts s
  | .maskCommit m k => Sys2Proof.Machine.execMaskCommit m k s
  | .tcsApply m k => Sys2Proof.Machine.execTcsApply m k s
  | .aes3CsBlock k => Sys2Proof.Machine.execAes3CsBlock k s
  | .ethLinkChange port up block => Sys2Proof.Machine.execEthLinkChange port up block s
  | .ethFrameRx port f t => Sys2Proof.Machine.execEthFrameRx port f t s
  | .aes67SenderEnable m k v => Sys2Proof.Machine.execAes67SenderEnable m k v s
  | .aes67PacketTx k t => Sys2Proof.Machine.execAes67PacketTx k t s
  | .aes67PacketRx port r p t => Sys2Proof.Machine.execAes67PacketRx port r p t s
  | .aes67ReceiverBlock r ts => Sys2Proof.Machine.execAes67ReceiverBlock r ts s
  | .vitaPacketTx k t => Sys2Proof.Machine.execVitaPacketTx k t s
  | .vitaContextTx k t => Sys2Proof.Machine.execVitaContextTx k t s
  | .casrumSideSend type t => Sys2Proof.Machine.execCasrumSideSend type t s
  | .casrumControlRx p t => Sys2Proof.Machine.execCasrumControlRx p t s
  | .egressTimeout port cls t => Sys2Proof.Machine.execEgressTimeout port cls t s
  | .bar0Access write o size data => Sys2Proof.Machine.execBar0Access write o size data s
  | .bar2Access write o data code t => Sys2Proof.Machine.execBar2Access write o data code t s
  | .bar2Retry code t => Sys2Proof.Machine.execBar2Retry code t s
  | .dmaStreamRecord q t => Sys2Proof.Machine.execDmaStreamRecord q t s
  | .dmaCopyDescriptor q desc host codes t => Sys2Proof.Machine.execDmaCopyDescriptor q desc host codes t s
  | .msixSignal q t => Sys2Proof.Machine.execMsixSignal q t s
  | .hbRead a be => Sys2Proof.Machine.execHbRead a be s
  | .hbWriteLow a be d => Sys2Proof.Machine.execHbWriteLow a be d s
  | .hbWriteHigh a be d => Sys2Proof.Machine.execHbWriteHigh a be d s
  | .hbBadCycle => Sys2Proof.Machine.execHbBadCycle s
  | .hbPageWrite d => Sys2Proof.Machine.execHbPageWrite d s
  | .hbQueueDeliver => Sys2Proof.Machine.execHbQueueDeliver s
  | .registerWrite m a v => Sys2Proof.Machine.execRegisterWrite m a v s
  | .rcRegisterRead m a => Sys2Proof.Machine.execRcRegisterRead m a s
  | .eventRaise e inst => Sys2Proof.Machine.execEventRaise e inst s
  | .eventCoalesceRelease g route t => Sys2Proof.Machine.execEventCoalesceRelease g route t s
  | .evtClearWrite m a v => Sys2Proof.Machine.execEvtClearWrite m a v s
  | .ktIndexWrite v => Sys2Proof.Machine.execKtIndexWrite v s
  | .ktDataRead port => Sys2Proof.Machine.execKtDataRead port s
  | .ktDataWrite auto v => Sys2Proof.Machine.execKtDataWrite auto v s
  | .ktStatWrite v => Sys2Proof.Machine.execKtStatWrite v s
  | .ktTune tn => Sys2Proof.Machine.execKtTune tn s
  | .ktSeekUp tn => Sys2Proof.Machine.execKtSeekUp tn s
  | .ktSeekDown tn => Sys2Proof.Machine.execKtSeekDown tn s
  | .ktCancel tn => Sys2Proof.Machine.execKtCancel tn s
  | .ktPowerDown tn => Sys2Proof.Machine.execKtPowerDown tn s
  | .ktPowerUp tn => Sys2Proof.Machine.execKtPowerUp tn s
  | .ktSeekStep tn t => Sys2Proof.Machine.execKtSeekStep tn t s
  | .ktBusyFall tn t => Sys2Proof.Machine.execKtBusyFall tn t s
  | .ktFlush tn => Sys2Proof.Machine.execKtFlush tn s
  | .ktAudcfgWrite v => Sys2Proof.Machine.execKtAudcfgWrite v s
  | .ktAudselWrite v => Sys2Proof.Machine.execKtAudselWrite v s
  | .ktCaptureEnable v => Sys2Proof.Machine.execKtCaptureEnable v s
  | .pairFault j t => Sys2Proof.Machine.execPairFault j t s
  | .pairRemap t => Sys2Proof.Machine.execPairRemap t s
  | .interruptEntry k replies => Sys2Proof.Machine.execInterruptEntry k replies s
  | .coreHalt m k on => Sys2Proof.Machine.execCoreHalt m k on s
  | .coreStep m k replies => Sys2Proof.Machine.execCoreStep m k replies s
  | .coreKick m k => Sys2Proof.Machine.execCoreKick m k s
  | .coreWdog k t => Sys2Proof.Machine.execCoreWdog k t s
  | .wcLineFlush k line code t => Sys2Proof.Machine.execWcLineFlush k line code t s
  | .izNop h => Sys2Proof.Machine.execIzNop h s
  | .izSync h => Sys2Proof.Machine.execIzSync h s
  | .izRet h => Sys2Proof.Machine.execIzRet h s
  | .izRti h => Sys2Proof.Machine.execIzRti h s
  | .izLexit h => Sys2Proof.Machine.execIzLexit h s
  | .izEi h => Sys2Proof.Machine.execIzEi h s
  | .izDi h => Sys2Proof.Machine.execIzDi h s
  | .izAdd h d a b z => Sys2Proof.Machine.execIzAdd h d a b z s
  | .izSub h d a b z => Sys2Proof.Machine.execIzSub h d a b z s
  | .izAnd h d a b z => Sys2Proof.Machine.execIzAnd h d a b z s
  | .izOr h d a b z => Sys2Proof.Machine.execIzOr h d a b z s
  | .izXor h d a b z => Sys2Proof.Machine.execIzXor h d a b z s
  | .izShl h d a b z => Sys2Proof.Machine.execIzShl h d a b z s
  | .izShr h d a b z => Sys2Proof.Machine.execIzShr h d a b z s
  | .izSra h d a b z => Sys2Proof.Machine.execIzSra h d a b z s
  | .izMul h d a b z => Sys2Proof.Machine.execIzMul h d a b z s
  | .izMulh h d a b z => Sys2Proof.Machine.execIzMulh h d a b z s
  | .izMin h d a b z => Sys2Proof.Machine.execIzMin h d a b z s
  | .izMax h d a b z => Sys2Proof.Machine.execIzMax h d a b z s
  | .izDiv h d a b z => Sys2Proof.Machine.execIzDiv h d a b z s
  | .izDivu h d a b z => Sys2Proof.Machine.execIzDivu h d a b z s
  | .izRem h d a b z => Sys2Proof.Machine.execIzRem h d a b z s
  | .izAddi h d a imm => Sys2Proof.Machine.execIzAddi h d a imm s
  | .izAndi h d a imm => Sys2Proof.Machine.execIzAndi h d a imm s
  | .izOri h d a imm => Sys2Proof.Machine.execIzOri h d a imm s
  | .izXori h d a imm => Sys2Proof.Machine.execIzXori h d a imm s
  | .izShli h d a imm => Sys2Proof.Machine.execIzShli h d a imm s
  | .izShri h d a imm => Sys2Proof.Machine.execIzShri h d a imm s
  | .izSrai h d a imm => Sys2Proof.Machine.execIzSrai h d a imm s
  | .izMuli h d a imm => Sys2Proof.Machine.execIzMuli h d a imm s
  | .izMovi h d a imm => Sys2Proof.Machine.execIzMovi h d a imm s
  | .izMov h x y => Sys2Proof.Machine.execIzMov h x y s
  | .izNeg h x y => Sys2Proof.Machine.execIzNeg h x y s
  | .izAbs h x y => Sys2Proof.Machine.execIzAbs h x y s
  | .izNot h x y => Sys2Proof.Machine.execIzNot h x y s
  | .izClz h x y => Sys2Proof.Machine.execIzClz h x y s
  | .izSext8 h x y => Sys2Proof.Machine.execIzSext8 h x y s
  | .izSext16 h x y => Sys2Proof.Machine.execIzSext16 h x y s
  | .izMfsw h x y => Sys2Proof.Machine.execIzMfsw h x y s
  | .izMtsw h x y => Sys2Proof.Machine.execIzMtsw h x y s
  | .izMfsp h x y => Sys2Proof.Machine.execIzMfsp h x y s
  | .izMtsp h x y => Sys2Proof.Machine.execIzMtsp h x y s
  | .izBeq h a b disp => Sys2Proof.Machine.execIzBeq h a b disp s
  | .izBne h a b disp => Sys2Proof.Machine.execIzBne h a b disp s
  | .izBlt h a b disp => Sys2Proof.Machine.execIzBlt h a b disp s
  | .izBge h a b disp => Sys2Proof.Machine.execIzBge h a b disp s
  | .izBltu h a b disp => Sys2Proof.Machine.execIzBltu h a b disp s
  | .izBgeu h a b disp => Sys2Proof.Machine.execIzBgeu h a b disp s
  | .izBr h z0 z1 disp => Sys2Proof.Machine.execIzBr h z0 z1 disp s
  | .izBeqi h a z imm disp => Sys2Proof.Machine.execIzBeqi h a z imm disp s
  | .izBnei h a z imm disp => Sys2Proof.Machine.execIzBnei h a z imm disp s
  | .izBlti h a z imm disp => Sys2Proof.Machine.execIzBlti h a z imm disp s
  | .izBgei h a z imm disp => Sys2Proof.Machine.execIzBgei h a z imm disp s
  | .izBltui h a z imm disp => Sys2Proof.Machine.execIzBltui h a z imm disp s
  | .izBgeui h a z imm disp => Sys2Proof.Machine.execIzBgeui h a z imm disp s
  | .izJmp h dest => Sys2Proof.Machine.execIzJmp h dest s
  | .izCall h dest => Sys2Proof.Machine.execIzCall h dest s
  | .izJmpr h x y => Sys2Proof.Machine.execIzJmpr h x y s
  | .izCallr h x y => Sys2Proof.Machine.execIzCallr h x y s
  | .izPush h x y => Sys2Proof.Machine.execIzPush h x y s
  | .izPop h x y => Sys2Proof.Machine.execIzPop h x y s
  | .izPusha h x y => Sys2Proof.Machine.execIzPusha h x y s
  | .izPopa h x y => Sys2Proof.Machine.execIzPopa h x y s
  | .izLd h g m n x => Sys2Proof.Machine.execIzLd h g m n x s
  | .izSt h g m n x => Sys2Proof.Machine.execIzSt h g m n x s
  | .izLdx h g m n x => Sys2Proof.Machine.execIzLdx h g m n x s
  | .izStx h g m n x => Sys2Proof.Machine.execIzStx h g m n x s
  | .izLdc h g m n x => Sys2Proof.Machine.execIzLdc h g m n x s
  | .izStc h g m n x => Sys2Proof.Machine.execIzStc h g m n x s
  | .izLdp h g m n x => Sys2Proof.Machine.execIzLdp h g m n x s
  | .izAddp h g m n x => Sys2Proof.Machine.execIzAddp h g m n x s
  | .izMfp h x y => Sys2Proof.Machine.execIzMfp h x y s
  | .izSetsd h x y => Sys2Proof.Machine.execIzSetsd h x y s
  | .izGetsd h x y => Sys2Proof.Machine.execIzGetsd h x y s
  | .izMpy h b1 k x => Sys2Proof.Machine.execIzMpy h b1 k x s
  | .izMac h b1 k x => Sys2Proof.Machine.execIzMac h b1 k x s
  | .izMsu h b1 k x => Sys2Proof.Machine.execIzMsu h b1 k x s
  | .izClra h b1 k x => Sys2Proof.Machine.execIzClra h b1 k x s
  | .izExt h b1 k x => Sys2Proof.Machine.execIzExt h b1 k x s
  | .izMova h b1 k x => Sys2Proof.Machine.execIzMova h b1 k x s
  | .izAdda h b1 k x => Sys2Proof.Machine.execIzAdda h b1 k x s
  | .izSha h b1 k x => Sys2Proof.Machine.execIzSha h b1 k x s
  | .izMacp h b1 k x => Sys2Proof.Machine.execIzMacp h b1 k x s
  | .izCmac h b1 k x => Sys2Proof.Machine.execIzCmac h b1 k x s
  | .izCmacj h b1 k x => Sys2Proof.Machine.execIzCmacj h b1 k x s
  | .izLoop h count disp => Sys2Proof.Machine.execIzLoop h count disp s
  | .izLoopr h c z disp => Sys2Proof.Machine.execIzLoopr h c z disp s
  | .izMfls h d x => Sys2Proof.Machine.execIzMfls h d x s
  | .izMtls h d x => Sys2Proof.Machine.execIzMtls h d x s
  | .izMfle h d x => Sys2Proof.Machine.execIzMfle h d x s
  | .izMtle h d x => Sys2Proof.Machine.execIzMtle h d x s
  | .izMflc h d x => Sys2Proof.Machine.execIzMflc h d x s
  | .izMtlc h d x => Sys2Proof.Machine.execIzMtlc h d x s
  | .izMfa h d x => Sys2Proof.Machine.execIzMfa h d x s
  | .izMta h d x => Sys2Proof.Machine.execIzMta h d x s
  | .izMfpb h d x => Sys2Proof.Machine.execIzMfpb h d x s
  | .izCore h d x => Sys2Proof.Machine.execIzCore h d x s
  | .excKey m => Sys2Proof.Machine.execExcKey m s
  | .excUnkey m => Sys2Proof.Machine.execExcUnkey m s
  | .excClear m => Sys2Proof.Machine.execExcClear m s
  | .dpdReset m => Sys2Proof.Machine.execDpdReset m s
  | .excSequenceTimer t => Sys2Proof.Machine.execExcSequenceTimer t s
  | .excRampEnd k t => Sys2Proof.Machine.execExcRampEnd k t s
  | .paFault low ns took => Sys2Proof.Machine.execPaFault low ns took s
  | .autokey t => Sys2Proof.Machine.execAutokey t s
  | .laneEnableWrite m k v => Sys2Proof.Machine.execLaneEnableWrite m k v s
  | .powerLoopUpdate k orx => Sys2Proof.Machine.execPowerLoopUpdate k orx s
  | .overpowerCheck k orx => Sys2Proof.Machine.execOverpowerCheck k orx s
  | .templateCheck k spectrum valid => Sys2Proof.Machine.execTemplateCheck k spectrum valid s
  | .dpdUpdate nmse coefs => Sys2Proof.Machine.execDpdUpdate nmse coefs s
  | .dpdSuspend orxBad => Sys2Proof.Machine.execDpdSuspend orxBad s
  | .couplerCommit m => Sys2Proof.Machine.execCouplerCommit m s
  | .excRdsGroupSend k t => Sys2Proof.Machine.execExcRdsGroupSend k t s
  | .excDabFrame g ts msc => Sys2Proof.Machine.execExcDabFrame g ts msc s
  | .excContentSend k ts => Sys2Proof.Machine.execExcContentSend k ts s
  | .slStandby m hop ch => Sys2Proof.Machine.execSlStandby m hop ch s
  | .slRx m hop ch => Sys2Proof.Machine.execSlRx m hop ch s
  | .slTx m hop ch => Sys2Proof.Machine.execSlTx m hop ch s
  | .slOff m => Sys2Proof.Machine.execSlOff m s
  | .slCal m hop ch => Sys2Proof.Machine.execSlCal m hop ch s
  | .slAbort m => Sys2Proof.Machine.execSlAbort m s
  | .slLock t trims ok => Sys2Proof.Machine.execSlLock t trims ok s
  | .slLockLoss t => Sys2Proof.Machine.execSlLockLoss t s
  | .slPreambleDetect chips db p => Sys2Proof.Machine.execSlPreambleDetect chips db p s
  | .slCapture db p => Sys2Proof.Machine.execSlCapture db p s
  | .slSyncFound word rho ts foff => Sys2Proof.Machine.execSlSyncFound word rho ts foff s
  | .slSyncTimeout t => Sys2Proof.Machine.execSlSyncTimeout t s
  | .slHeader raw t => Sys2Proof.Machine.execSlHeader raw t s
  | .slRxDone raw t => Sys2Proof.Machine.execSlRxDone raw t s
  | .slRxFree m v => Sys2Proof.Machine.execSlRxFree m v s
  | .slLbtEnd rssi t => Sys2Proof.Machine.execSlLbtEnd rssi t s
  | .slGrant t => Sys2Proof.Machine.execSlGrant t s
  | .slGrantTimeout t => Sys2Proof.Machine.execSlGrantTimeout t s
  | .slTxDone t => Sys2Proof.Machine.execSlTxDone t s
  | .slGntLost t => Sys2Proof.Machine.execSlGntLost t s
  | .slDutyBin t => Sys2Proof.Machine.execSlDutyBin t s
  | .slBgcal ch t trims ok => Sys2Proof.Machine.execSlBgcal ch t trims ok s
  | .calRun m n => Sys2Proof.Machine.execCalRun m n s
  | .calCancel m n => Sys2Proof.Machine.execCalCancel m n s
  | .calTempCheck t => Sys2Proof.Machine.execCalTempCheck t s
  | .calCondMet n t => Sys2Proof.Machine.execCalCondMet n t s
  | .calWait n t => Sys2Proof.Machine.execCalWait n t s
  | .calWaitTimeout n t => Sys2Proof.Machine.execCalWaitTimeout n t s
  | .calMeasureDone n q t => Sys2Proof.Machine.execCalMeasureDone n q t s
  | .calDone n t => Sys2Proof.Machine.execCalDone n t s
  | .calAbandon t => Sys2Proof.Machine.execCalAbandon t s
  | .calImgSave m => Sys2Proof.Machine.execCalImgSave m s
  | .calImgRestore m ok => Sys2Proof.Machine.execCalImgRestore m ok s
  | .secRollFw m => Sys2Proof.Machine.execSecRollFw m s
  | .secRollBs m => Sys2Proof.Machine.execSecRollBs m s
  | .secToken m v nvOk => Sys2Proof.Machine.execSecToken m v nvOk s
  | .secNvWrite m id v nvOk => Sys2Proof.Machine.execSecNvWrite m id v nvOk s
  | .secNvRead m id => Sys2Proof.Machine.execSecNvRead m id s
  | .secAttest m sig nvOk => Sys2Proof.Machine.execSecAttest m sig nvOk s
  | .attestTokenRefill t => Sys2Proof.Machine.execAttestTokenRefill t s
  | .podFault p cause t => Sys2Proof.Machine.execPodFault p cause t s
  | .podWatchdog p t => Sys2Proof.Machine.execPodWatchdog p t s
  | .injectPod m p => Sys2Proof.Machine.execInjectPod m p s
  | .injectPair m k => Sys2Proof.Machine.execInjectPair m k s
  | .checkpointWrite refused t => Sys2Proof.Machine.execCheckpointWrite refused t s
  | .wearSecond t => Sys2Proof.Machine.execWearSecond t s
  | .obsSnap m => Sys2Proof.Machine.execObsSnap m s
  | .obsClear m => Sys2Proof.Machine.execObsClear m s
  | .railsAboveBrownoutThreshold => Sys2Proof.Machine.execRailsAboveBrownoutThreshold s
  | .refclkPresenceChange eth present => Sys2Proof.Machine.execRefclkPresenceChange eth present s
  | .ptpDelayReqSend t => Sys2Proof.Machine.execPtpDelayReqSend t s
  | .marrowAdmissionWindow k t => Sys2Proof.Machine.execMarrowAdmissionWindow k t s
  | .dmaClass1WaitTimeout q t => Sys2Proof.Machine.execDmaClass1WaitTimeout q t s
  | .undefinedOpcode h op op1 => Sys2Proof.Machine.execUndefinedOpcode h op op1 s

end Sys2Proof.Machine
end

