-- ==== Sys2Proof/Machine/Balls.lean ====
section
/-! DEFINITION. What each signal ball does (spec/02 R40 to R44), from the state: its drive in reset, unpowered, and once
the function that owns it is enabled. -/

namespace Sys2Proof.Machine

/-- A signal ball of R40; the two balls of a differential pair count as one. -/
inductive Ball where
  | ant (a : Nat) | orx | dac | refIn | irefAdc | tsense | coreSense | hkXtal | slAnt (b : Bool) | paVddEn | paBiasEn | paRfEn | paFaultN
  | slAsw | slFemTx | slFemRx | slReq | slPri | slGnt | hbA (n : Nat) | hbBeN | hbD (n : Nat) | hbStrobes | irqN
  | qspiClk | qspiCsN | qspiIo | resetN | straps | vid (n : Nat) | test
  | sapIn (k : Nat) | sapSdOut (k : Nat) | aref (n : Nat) | perstN | ppsOut
  | pcieRx | pcieTx | pcieRefclk | ethRx (m : Nat) | ethTx (m : Nat) | ethRefclk
  deriving DecidableEq, Repr

/-- What a ball does: as an output it floats, drives a level, releases an open drain, is muted, idles or carries its
function; as an input its receiver or its termination is off or on; an aerial input is terminated with its LNA in or out;
an analogue ball is biased, tied to the die or oscillating. -/
inductive Drive where
  | highZ | drives (level : Bool) | released | muted | idle | active | off | on
  | terminated (lna : Bool) | biased | tied | oscillating
  deriving DecidableEq, Repr

/-- The timing domains of R40. -/
inductive Domain where
  | smp | dac | hk | slk | hbus | aud | pci | eth
  deriving DecidableEq, Repr

/-- The domain of a ball (R40). -/
def Ball.domain : Ball → Option Domain
  | .ant _ | .orx | .refIn | .irefAdc => some .smp
  | .dac => some .dac
  | .tsense | .hkXtal | .paVddEn | .paBiasEn | .paRfEn | .paFaultN | .qspiClk | .qspiCsN | .qspiIo | .resetN | .straps
  | .vid _ => some .hk
  | .slAnt _ | .slAsw | .slFemTx | .slFemRx | .slReq | .slPri | .slGnt => some .slk
  | .hbA _ | .hbBeN | .hbD _ | .hbStrobes | .irqN => some .hbus
  | .sapIn _ | .sapSdOut _ | .aref _ => some .aud
  | .perstN | .pcieRx | .pcieTx | .pcieRefclk => some .pci
  | .ppsOut | .ethRx _ | .ethTx _ | .ethRefclk => some .eth
  | .coreSense | .test => none

/-- The level to which a ball's internal pull holds it while VDDIO is within tolerance, where it has one (R40). -/
def Ball.pull : Ball → Option Bool
  | .paVddEn | .paBiasEn | .paRfEn | .paFaultN | .slAsw | .slFemTx | .slFemRx | .slReq | .slPri | .qspiClk | .resetN
  | .straps | .test | .perstN | .ppsOut => some false
  | .hbStrobes | .qspiCsN | .qspiIo => some true
  | _ => none

/-- A ball that drives a level once its function is enabled, and is High-Z before (R41). -/
def driveIf (on level : Bool) : Drive := if on then .drives level else .highZ

/-- The service link is out of OFF, so it drives its balls. -/
def State.slDriven (s : State) : Bool := s.getF SLK_STAT_STATE != 0

/-- The coexistence wires are in use (R505). -/
def State.coexDriven (s : State) : Bool := s.slDriven && s.flag SLK_CTL_COEX_EN

/-- Ethernet port m is enabled, so its transmitters are not idle (R360). -/
def State.ethDriven (s : State) (m : Nat) : Bool := s.flag (NET_PORTm_CTL_EN m)

/-- The PA control balls are driven while the exciter's feature bit is active (notes/assumptions/149.md). -/
def State.paDriven (s : State) : Bool := !s.pwr.inReset && s.feat 9

/-- What a ball does with every rail within tolerance (R40 to R43); the PCIe SerDes are on while the link is up
(notes/assumptions/149.md). -/
def State.ballPowered (s : State) : Ball → Drive
  | .ant a => .terminated (!s.pwr.inReset && s.flag (RFEa_GSTAT_LNA_ACT a))
  | .orx => .terminated false
  | .refIn => .on
  | .irefAdc => .biased
  | .tsense => if s.pwr.inReset then .idle else .active
  | .coreSense => .tied
  | .hkXtal => .oscillating
  | .dac => if s.pwr.inReset || s.pins.dacMuted then .muted else .active
  | .slAnt _ => if !s.pwr.inReset && s.slDriven then .active else .highZ
  | .paVddEn => driveIf s.paDriven s.pins.paVdd
  | .paBiasEn => driveIf s.paDriven s.pins.paBias
  | .paRfEn => driveIf s.paDriven s.pins.paRf
  | .paFaultN | .hbStrobes | .resetN | .straps | .test | .perstN | .pcieRefclk | .ethRefclk => .on
  | .hbA n => if s.boot.straps.hbMode && !s.pwr.inReset && decide (3 ≤ n) then .off else .on
  | .hbBeN => if s.boot.straps.hbMode && !s.pwr.inReset then .off else .on
  | .slAsw => driveIf (!s.pwr.inReset && s.slDriven) s.pins.slAsw
  | .slFemTx => driveIf (!s.pwr.inReset && s.slDriven) s.pins.slFemTx
  | .slFemRx => driveIf (!s.pwr.inReset && s.slDriven) s.pins.slFemRx
  | .slReq => driveIf (!s.pwr.inReset && s.coexDriven) s.pins.slReq
  | .slPri => driveIf (!s.pwr.inReset && s.coexDriven) s.pins.slPri
  | .slGnt => if !s.pwr.inReset && s.coexDriven then .on else .off
  | .hbD _ => .highZ
  | .irqN => if !s.pwr.inReset && s.pins.irqLow then .drives false else .released
  | .qspiClk => if !s.pwr.inReset && s.pins.qspi then .active else .highZ
  | .qspiCsN => driveIf (!s.pwr.inReset && s.pins.qspi) true
  | .qspiIo => if !s.pwr.inReset && s.pins.qspi then .active else .highZ
  | .vid n => match s.pins.vid with
    | some v => driveIf (!s.pwr.inReset) (v.testBit n)
    | none => .highZ
  | .sapIn k => if !s.pwr.inReset && s.flag (SAPk_CTL_EN k) then .on else .off
  | .sapSdOut k => if !s.pwr.inReset && s.flag (SAPk_CTL_EN k) then .active else .highZ
  | .aref n =>
    if !s.pwr.inReset && (List.range 8).any (fun k => s.flag (SAPk_CTL_EN k) && s.getF (SAPk_CTL_CLKSRC k) == n + 1) then .on else .off
  | .ppsOut => driveIf (!s.pwr.inReset && s.flag NET_PTP_CTL_PPS) s.pins.ppsOut
  | .pcieRx => if !s.pwr.inReset && s.flag PCI_STAT_UP then .on else .off
  | .pcieTx => if !s.pwr.inReset && s.flag PCI_STAT_UP then .active else .idle
  | .ethRx m => if !s.pwr.inReset && s.ethDriven m then .on else .off
  | .ethTx m => if !s.pwr.inReset && s.ethDriven m then .active else .idle

/-- What a ball does: unpowered, every ball is High-Z, but the sense balls, which are tied to the die (R40, R44). -/
def State.ball (s : State) (b : Ball) : Drive := if s.pwr.railsOk || b = .coreSense then s.ballPowered b else .highZ

/-- The receiver of HB_D[n] is on: in KT-440 mode that of the low byte alone (R43). -/
def State.hbReceives (s : State) (n : Nat) : Bool :=
  s.pwr.railsOk && !(s.boot.straps.hbMode && !s.pwr.inReset && decide (8 ≤ n))

/-- The halfword that a read cycle of the host bus drives on HB_D, high half released in KT-440 mode; between cycles
HB_D is released (R41, R43). -/
def State.hbDriven (s : State) (n : Nat) : Drive :=
  if s.pwr.inReset || (s.boot.straps.hbMode && decide (8 ≤ n)) then .highZ else .drives (s.hb.rdata.testBit n)

end Sys2Proof.Machine
end

