-- ==== Sys2Proof/Safety.lean ====
section
/-! DEFINITION. The terms in which claims are made: that a command completes and what it leaves, that a register write
reaches its block, that a counter stepped, that nothing but some registers changed, and the canonical form of a state's
tables.  A run is safe while no step faults and no step is refused. -/

namespace Sys2Proof.Machine

/-- Command c completes from state s, and the state it leaves satisfies Q. -/
def Gives (c : Instr) (s : State) (Q : State → Prop) : Prop := ∃ t, exec c s = .next t ∧ Q t

/-- A write by master m reaches the register at native address a: the part is out of reset and the register is live
(R67, R83). -/
def State.reaches (s : State) (m : Master) (a : Nat) : Bool := !s.pwr.inReset && hasReg a && s.liveWrite m a

/-- A counting field has stepped by one from s to t, saturating at its highest value. -/
abbrev Counted (f : Fld) (s t : State) : Prop := t.getF f = min (s.getF f + 1) (2 ^ (f.hi + 1 - f.lo) - 1)

/-- Every register outside these ranges of native addresses reads in t as it reads in s. -/
def Within (l : List (Nat × Nat)) (s t : State) : Prop :=
  ∀ a, (∀ p ∈ l, a < p.1 ∨ p.2 ≤ a) → t.rd a = s.rd a

/-- Every byte of Marrow reads in t as it reads in s. -/
def SameMarrow (s t : State) : Prop := ∀ a, memGet t.mem a = memGet s.mem a

/-- Trace records are not spilled to Marrow (R567). -/
def State.noSpill (s : State) : Bool := !s.flag OBS_CTL_SPILL

/-- The register table and Marrow are in their canonical form. -/
def State.canonical (s : State) : Bool := swf regReset s.regs && Memory.wf s.mem

/-- Core k with every result in flight in its place. -/
def State.settled (s : State) (k : Nat) : Core := (s.core k).complete

/-- Core h.core is running and issues this instruction, or an iteration of it: no check of R442 or R444 stops it, its
REP count is not zero, and no core waits to step (R429, R437). -/
def State.issues (s : State) (h : IzHead) (o : IzOp) : Bool :=
  s.coreLive h.core && s.seqState h.core == 1 && (izStatic (s.core h.core) (.op h.pre o)).isNone
    && (s.core h.core).repCount h.pre != some 0 && (List.range 8).all fun j => !(s.core j).stepAsked

/-- A core is not in the delay slot of a taken branch, in a REP sequence, at the end of a loop, or asked to halt: after
the instruction the next byte follows (R424, R429, R437, R450). -/
def State.straight (s : State) (k : Nat) (pre : List IzPre) : Bool :=
  (s.core k).delay.isNone && ((s.core k).repCount pre).isNone && !(s.core k).tick.atLoopEnd (s.core k).pc.toNat
    && !s.flag (SEQk_CTL_HALT k)

/-- The base instruction that a command has its core issue, with its head; none where it is no instruction. -/
def izOpOf : Instr → Option (IzHead × IzOp)
  | .izNop h => some (h, .f0 .nop)
  | .izSync h => some (h, .f0 .sync)
  | .izRet h => some (h, .f0 .ret)
  | .izRti h => some (h, .f0 .rti)
  | .izLexit h => some (h, .f0 .lexit)
  | .izEi h => some (h, .f0 .ei)
  | .izDi h => some (h, .f0 .di)
  | .izAdd h d a b z => some (h, .frr .add d a b z)
  | .izSub h d a b z => some (h, .frr .sub d a b z)
  | .izAnd h d a b z => some (h, .frr .and d a b z)
  | .izOr h d a b z => some (h, .frr .or d a b z)
  | .izXor h d a b z => some (h, .frr .xor d a b z)
  | .izShl h d a b z => some (h, .frr .shl d a b z)
  | .izShr h d a b z => some (h, .frr .shr d a b z)
  | .izSra h d a b z => some (h, .frr .sra d a b z)
  | .izMul h d a b z => some (h, .frr .mul d a b z)
  | .izMulh h d a b z => some (h, .frr .mulh d a b z)
  | .izMin h d a b z => some (h, .frr .min d a b z)
  | .izMax h d a b z => some (h, .frr .max d a b z)
  | .izDiv h d a b z => some (h, .frr .div d a b z)
  | .izDivu h d a b z => some (h, .frr .divu d a b z)
  | .izRem h d a b z => some (h, .frr .rem d a b z)
  | .izAddi h d a imm => some (h, .fri .addi d a imm)
  | .izAndi h d a imm => some (h, .fri .andi d a imm)
  | .izOri h d a imm => some (h, .fri .ori d a imm)
  | .izXori h d a imm => some (h, .fri .xori d a imm)
  | .izShli h d a imm => some (h, .fri .shli d a imm)
  | .izShri h d a imm => some (h, .fri .shri d a imm)
  | .izSrai h d a imm => some (h, .fri .srai d a imm)
  | .izMuli h d a imm => some (h, .fri .muli d a imm)
  | .izMovi h d a imm => some (h, .fri .movi d a imm)
  | .izMov h x y => some (h, .fr .mov x y)
  | .izNeg h x y => some (h, .fr .neg x y)
  | .izAbs h x y => some (h, .fr .abs x y)
  | .izNot h x y => some (h, .fr .not x y)
  | .izClz h x y => some (h, .fr .clz x y)
  | .izSext8 h x y => some (h, .fr .sext8 x y)
  | .izSext16 h x y => some (h, .fr .sext16 x y)
  | .izMfsw h x y => some (h, .fr .mfsw x y)
  | .izMtsw h x y => some (h, .fr .mtsw x y)
  | .izMfsp h x y => some (h, .fr .mfsp x y)
  | .izMtsp h x y => some (h, .fr .mtsp x y)
  | .izBeq h a b disp => some (h, .fb .eq a b disp)
  | .izBne h a b disp => some (h, .fb .ne a b disp)
  | .izBlt h a b disp => some (h, .fb .lt a b disp)
  | .izBge h a b disp => some (h, .fb .ge a b disp)
  | .izBltu h a b disp => some (h, .fb .ltu a b disp)
  | .izBgeu h a b disp => some (h, .fb .geu a b disp)
  | .izBr h z0 z1 disp => some (h, .br z0 z1 disp)
  | .izBeqi h a z imm disp => some (h, .fbi .eq a z imm disp)
  | .izBnei h a z imm disp => some (h, .fbi .ne a z imm disp)
  | .izBlti h a z imm disp => some (h, .fbi .lt a z imm disp)
  | .izBgei h a z imm disp => some (h, .fbi .ge a z imm disp)
  | .izBltui h a z imm disp => some (h, .fbi .ltu a z imm disp)
  | .izBgeui h a z imm disp => some (h, .fbi .geu a z imm disp)
  | .izJmp h dest => some (h, .fj false dest)
  | .izCall h dest => some (h, .fj true dest)
  | .izJmpr h x y => some (h, .fr .jmpr x y)
  | .izCallr h x y => some (h, .fr .callr x y)
  | .izPush h x y => some (h, .fr .push x y)
  | .izPop h x y => some (h, .fr .pop x y)
  | .izPusha h x y => some (h, .fr .pusha x y)
  | .izPopa h x y => some (h, .fr .popa x y)
  | .izLd h g m n x => some (h, .fm .ld g m n x)
  | .izSt h g m n x => some (h, .fm .st g m n x)
  | .izLdx h g m n x => some (h, .fm .ldx g m n x)
  | .izStx h g m n x => some (h, .fm .stx g m n x)
  | .izLdc h g m n x => some (h, .fm .ldc g m n x)
  | .izStc h g m n x => some (h, .fm .stc g m n x)
  | .izLdp h g m n x => some (h, .fm .ldp g m n x)
  | .izAddp h g m n x => some (h, .fm .addp g m n x)
  | .izMfp h x y => some (h, .fr .mfp x y)
  | .izSetsd h x y => some (h, .fr .setsd x y)
  | .izGetsd h x y => some (h, .fr .getsd x y)
  | .izMpy h b1 k x => some (h, .fa .mpy b1 k x)
  | .izMac h b1 k x => some (h, .fa .mac b1 k x)
  | .izMsu h b1 k x => some (h, .fa .msu b1 k x)
  | .izClra h b1 k x => some (h, .fa .clra b1 k x)
  | .izExt h b1 k x => some (h, .fa .ext b1 k x)
  | .izMova h b1 k x => some (h, .fa .mova b1 k x)
  | .izAdda h b1 k x => some (h, .fa .adda b1 k x)
  | .izSha h b1 k x => some (h, .fa .sha b1 k x)
  | .izMacp h b1 k x => some (h, .fa .macp b1 k x)
  | .izCmac h b1 k x => some (h, .fa .cmac b1 k x)
  | .izCmacj h b1 k x => some (h, .fa .cmacj b1 k x)
  | .izLoop h count disp => some (h, .loop count disp)
  | .izLoopr h c z disp => some (h, .loopr c z disp)
  | .izMfls h d x => some (h, .fx .mfls d x)
  | .izMtls h d x => some (h, .fx .mtls d x)
  | .izMfle h d x => some (h, .fx .mfle d x)
  | .izMtle h d x => some (h, .fx .mtle d x)
  | .izMflc h d x => some (h, .fx .mflc d x)
  | .izMtlc h d x => some (h, .fx .mtlc d x)
  | .izMfa h d x => some (h, .fx .mfa d x)
  | .izMta h d x => some (h, .fx .mta d x)
  | .izMfpb h d x => some (h, .fx .mfpb d x)
  | .izCore h d x => some (h, .fx .core d x)
  | _ => none

/-- The registers of its core that an instruction writes by its own effect (R421 to R423, R448 to R455): the frame of
every instruction is all the others.  n is the number of words an access moves. -/
def izWrites (c : Core) (o : IzOp) (r : IzReg) : Bool :=
  match o with
  | .f0 .nop | .fb _ _ _ _ | .br _ _ _ | .fbi _ _ _ _ _ => false
  | .f0 .sync => r == .mflt
  | .f0 .ret => r == .sp || r == .mflt
  | .f0 .rti => r == .sp || r == .ie || r == .ldepth || r == .mflt || (List.range 4).any fun j => r == .aov j
  | .f0 .lexit => r == .ldepth || r == .lc (c.ldepth - 1)
  | .f0 .ei | .f0 .di => r == .ie
  | .frr _ d _ _ _ | .fri _ d _ _ => r == .g d.toNat
  | .fj link _ => link && (r == .sp || r == .mflt)
  | .fr op x y =>
    match op with
    | .mov | .neg | .abs | .not | .clz | .sext8 | .sext16 | .mfsw | .mfsp | .mfp => r == .g x.toNat
    | .mtsw => r == .ie || r == .ldepth || r == .mflt || (List.range 4).any fun j => r == .aov j
    | .mtsp => r == .sp
    | .push | .pusha | .callr => r == .sp || r == .mflt
    | .pop => r == .sp || r == .g x.toNat || r == .mflt
    | .popa => r == .sp || r == .a y.toNat || r == .mflt
    | .jmpr => false
    | .setsd => r == .sd y.toNat
    | .getsd => r == .g x.toNat || r == .g (x.toNat + 1) || r == .g (x.toNat + 2)
  | .fm op g m n _ =>
    let step := m == 1 && r == .p n.toNat
    match op with
    | .ld | .ldx => r == .g g.toNat || r == .mflt || step
    | .ldc => r == .g g.toNat || r == .g (g.toNat + 1) || r == .mflt || step
    | .st | .stx | .stc => r == .mflt || step
    | .ldp => r == .p n.toNat || r == .pb n.toNat
    | .addp => r == .p n.toNat
  | .fa op b1 k _ =>
    let acc := r == .a k.toNat || r == .aov k.toNat
    match op with
    | .mpy | .mac | .msu | .clra | .mova | .adda | .sha => acc
    | .ext => r == .g (nibHi b1).toNat || r == .aov k.toNat
    | .macp => acc || r == .p (b1.toNat / 16) || r == .p (b1.toNat % 16) || r == .mflt
    | .cmac | .cmacj =>
      acc || r == .a (k.toNat + 1) || r == .aov (k.toNat + 1) || r == .p (b1.toNat / 16) || r == .p (b1.toNat % 16)
        || r == .mflt
  | .loop _ _ | .loopr _ _ _ => r == .ldepth || r == .ls c.ldepth || r == .le c.ldepth || r == .lc c.ldepth
  | .fx op d x =>
    match op with
    | .mtls => r == .ls x.toNat
    | .mtle => r == .le x.toNat
    | .mtlc => r == .lc x.toNat
    | .mta => r == .a (x.toNat % 4)
    | .mfls | .mfle | .mflc | .mfa | .mfpb | .core => r == .g d.toNat

/-- The value of a register of R410 and R411 as it reads now; a part of an accumulator reads as the accumulator. -/
def Core.val (c : Core) (r : IzReg) : Nat :=
  match r with
  | .g n => (c.reg n).toNat
  | .a k | .aPart k _ => (c.acc k).toNat
  | .p n => (c.ptr n).toNat
  | .pb n => c.bind n
  | .sd n => (c.desc n).pack
  | .sp => c.sp.toNat
  | .ls k => (sget zero24 c.ls k).toNat
  | .le k => (sget zero24 c.le k).toNat
  | .lc k => (sget zero24 c.lc k).toNat
  | .ie => c.ie.toNat
  | .ldepth => c.ldepth
  | .mflt => c.mflt
  | .aov k => (sget noBit c.aov k).toNat

/-- The results in flight on any one register become readable in issue order (R427). -/
def Core.ordered (c : Core) : Bool :=
  decide (c.pend.Pairwise fun p q => homeReg p.reg = homeReg q.reg → p.left ≤ q.left)

/-- Word w of a segment that lies in the local data RAM (R414). -/
def Core.ramWord (c : Core) (d : SegDesc) (w : Nat) : BitVec 24 := sget zero24 c.ram ((d.addr w - ramBase) / 4)

/-- Word w of a segment lies in the local data RAM. -/
def SegDesc.inRam (d : SegDesc) (w : Nat) : Bool := izWindow (d.addr w) == some 1

/-- The instruction may store: PUSH, PUSHA, ST, STX, STC, CALL and CALLR, and SYNC, which empties the write-combining
buffer. -/
def izStores : IzOp → Bool
  | .f0 o => o == .sync
  | .fr o _ _ => o == .push || o == .pusha || o == .callr
  | .fj link _ => link
  | .fm o _ _ _ _ => o == .st || o == .stx || o == .stc
  | _ => false

/-- The instruction may load: its access can ask Marrow or the register space (R418, R420). -/
def izLoads : IzOp → Bool
  | .f0 o => o == .ret || o == .rti
  | .fr o _ _ => o == .pop || o == .popa
  | .fm o _ _ _ _ => o == .ld || o == .ldx || o == .ldc
  | .fa o _ _ _ => o == .macp || o == .cmac || o == .cmacj
  | _ => false

/-- The iteration does not trap: no segment, stack, divisor or status check of R416, R421 and R448 stops it. -/
def State.trapFree (s : State) (h : IzHead) (o : IzOp) : Bool :=
  let c := s.core h.core
  let an := c.pc.toNat + (preLen h.pre + opLen o)
  let s0 := s.setCore h.core { c with rep := c.repCount h.pre, issuing := true }
  match izDo h.core h.pre o an (c.after an) h.replies s0 with
  | .trap _ _ => false
  | _ => true

/-- Every descriptor of the core ends below the register space (R414). -/
def Core.offRegs (c : Core) : Bool := (List.range 16).all fun j => decide ((c.desc j).base * 64 + (c.desc j).limit * 4 ≤ regBase)

/-- The three words below sp of SD15 lie in the local data RAM, so that a handler can be entered there (R431). -/
def Core.entryOk (c : Core) : Bool :=
  decide (3 ≤ c.sp.toNat) && decide (c.sp.toNat ≤ (c.desc 15).limit) && (c.desc 15).mode == 0
    && (c.desc 15).inRam (c.sp.toNat - 1) && (c.desc 15).inRam (c.sp.toNat - 2) && (c.desc 15).inRam (c.sp.toNat - 3)

/-- Core k entered handler n from the settled core c: the resume PC and SW lie below the old sp, interrupts are off and
loops abandoned, and the next instruction is at the handler (R431 to R433). -/
def Entered (c : Core) (n k : Nat) (s t : State) : Prop :=
  (t.core k).pc = BitVec.ofNat 24 (s.getF (SEQk_CTL_VBASE k) * 256 + 16 * n) ∧
  (t.core k).sp = c.sp - 2 ∧ (t.core k).ie = false ∧ (t.core k).ldepth = 0 ∧ (t.core k).delay = none ∧
  (t.core k).rep = none ∧
  (t.core k).ramWord (c.desc 15) (c.sp.toNat - 1) = c.pc ∧
  (t.core k).ramWord (c.desc 15) (c.sp.toNat - 2) = BitVec.ofNat 24 c.sw

/-- The trap of core k is recorded: its cause, the PC of the instruction, and the count (R416, R431). -/
def Trapped (c : Core) (cause k : Nat) (s t : State) : Prop :=
  t.getF (SEQk_STAT_LCAUSE k) = cause ∧ t.getF (SEQk_STAT_TVALID k) = 1 ∧ t.getF (SEQk_PC_PC k) = c.pc.toNat ∧
  Counted (SEQk_TRAPCNT_TRAPS k) s t

end Sys2Proof.Machine
end

