-- ==== Sys2Proof/Certificates/Slice0/Obligations.lean ====
section
/-! DEFINITION. The statements for the provers.  Each says, for the commands its title names, when a command has the effect
the spec gives it and what that effect is; hypotheses are on the state and the operands alone.  "The model's choice" names
the assumption log where a clause rests on one. -/

open Sys2Proof Sys2Proof.Machine

/-- Each clock command, where R90 to R112 give it its effect, answers the next state with the PLL state, reference
flags and counts that those rules give. -/
def Obligations.ClockCommands : Prop :=
  (∀ (s : State) (m : Master),
    s.reaches m SPLL_CMD = true →
    (s.getF CLK_CTL_REF_MHZ != 0) = true →
    (decide (s.getF SPLL_F_NUM < s.getF SPLL_F_MOD)) = true →
    dividerInRange (nominalHz (s.getF CLK_CTL_REF_MHZ)) (s.getF SPLL_N_INT) (s.getF SPLL_F_NUM) (s.getF SPLL_F_MOD) = true →
    Gives (.spllCommit m) s (fun t =>
      t.getF CLK_STAT_PEND = 1 ∧ t.clk.commit = some (s.getF SPLL_N_INT, s.getF SPLL_F_NUM, s.getF SPLL_F_MOD, s.getF SPLL_DSEED_SEED, s.flag SPLL_DSEED_DITHER))) ∧
  (∀ (s : State) (i n m sd : Nat) (d : Bool),
    (s.clk.commit == some (i, n, m, sd, d)) = true →
    Gives (.divCommit) s (fun t =>
      t.getF CLK_STAT_PEND = 0 ∧ t.clk.int = i ∧ t.clk.num = n ∧ t.clk.mod = m ∧ t.clk.seed = sd ∧ t.clk.lfsr = sd ∧ t.clk.dither = d ∧ t.clk.commit = none)) ∧
  (∀ (s : State) (m : Master) (src : Nat),
    s.reaches m CLK_CTL = true →
    (decide (src < 3)) = true →
    Gives (.clkSrcChange m src) s (fun t =>
      t.getF CLK_CTL_SRC = src)) ∧
  (∀ (s : State) (mhz : Nat),
    (!s.pwr.inReset) = true →
    Gives (.refWindow mhz) s (fun t =>
      t.getF CLK_STAT_REF_DET = classifyBy 1000 mhz ∧ t.clk.refDet = classifyBy 1000 mhz)) ∧
  (∀ (s : State) (delta : Int),
    (!s.pwr.inReset) = true →
    (s.spll == 1 || s.spll == 5) = true →
    s.mayQualify = true →
    Gives (.refQualify delta) s (fun t =>
      t.getF CLK_STAT_STATE = 2 ∧ t.getF CLK_STAT_REF_OK = 1 ∧ t.clk.follows = true)) ∧
  (∀ (s : State),
    (s.spll == 2) = true →
    s.refPresent = true →
    Gives (.spllLock) s (fun t =>
      t.getF CLK_STAT_STATE = (if s.clk.slew = 0 then 3 else 4) ∧ t.counting = true)) ∧
  (∀ (s : State),
    (s.spll == 2) = true →
    Gives (.spllFail) s (fun t =>
      t.getF CLK_STAT_STATE = 1 ∧ t.clk.follows = false)) ∧
  (∀ (s : State) (tf : Nat),
    s.inLock = true →
    Gives (.spllLoss tf) s (fun t =>
      t.getF CLK_STAT_STATE = (if s.clk.lockedAt + Config.ticksPerSecond ≤ s.now then 5 else 1) ∧ t.getF CLK_STAT_LOCK = 0 ∧ Counted CLK_CNT_LOSSES s t)) ∧
  (∀ (s : State),
    (s.spll == 1 || s.spll == 5) = true →
    Gives (.holdSecond) s (fun t =>
      Counted CLK_STAT_HOLD_S s t)) ∧
  (∀ (s : State),
    (s.spll == 4) = true →
    Gives (.slewDone) s (fun t =>
      t.getF CLK_STAT_STATE = 3 ∧ t.clk.slew = 0)) ∧
  (∀ (s : State) (p : Nat),
    (!s.inLock) = true →
    s.bridgeOver p = true →
    (decide (2 ≤ s.getF (FOLp_STAT_STATE p))) = true →
    (!s.clk.faded.contains p) = true →
    Gives (.programmeClockFade p) s (fun t =>
      t.clk.faded = s.clk.faded ++ [p])) ∧
  (∀ (s : State),
    s.liveRead .pcie CLK_SYSCNT_LO = true →
    Gives (.syscntRead) s (fun t =>
      (t.rd CLK_SYSCNT_LO).toNat = s.now % 2 ^ 32 ∧ (t.rd CLK_SYSCNT_HI).toNat = s.now / 2 ^ 32)) ∧
  (∀ (s : State) (eth present : Bool),
    (!s.pwr.inReset) = true →
    Gives (.refclkPresenceChange eth present) s (fun t =>
      t.flag (if eth then CLK_DOM_ETH else CLK_DOM_PCI) = present))

/-- Each PTP command, where R331 to R335 give it its effect, answers the next state with the port state, the parent,
the measurements or the message that those rules give. -/
def Obligations.PtpPort : Prop :=
  (∀ (s : State) (p : PtpMsg),
    (s.advance p.stamp).ptpFrom p = true →
    p.twoStep = true →
    Gives (.ptpSync p) s (fun t =>
      t.net.ptp.sync = some p)) ∧
  (∀ (s : State) (p : PtpMsg),
    (s.advance p.stamp).ptpFrom p = true →
    (!p.twoStep) = true →
    s.net.ptp.delays.isEmpty = true →
    Gives (.ptpSync p) s (fun t =>
      t.net.ptp.last = some (p.time * ptpUnit + p.corr, p.stamp) ∧ t.net.ptp.sync = none)) ∧
  (∀ (s : State) (p m : PtpMsg),
    (s.advance p.stamp).ptpFrom p = true →
    (s.net.ptp.sync == some m) = true →
    (m.seq == p.seq) = true →
    (decide (p.stamp ≤ m.stamp + Config.ticksPerSecond)) = true →
    s.net.ptp.delays.isEmpty = true →
    Gives (.ptpFollowUp p) s (fun t =>
      t.net.ptp.last = some (p.time * ptpUnit + p.corr + m.corr, m.stamp) ∧ t.net.ptp.sync = none)) ∧
  (∀ (s : State) (p : PtpMsg) (t3 t2 : Nat) (o : Int),
    (s.net.ptp.req == some (p.seq, t3)) = true →
    (s.net.ptp.last == some (o, t2)) = true →
    (s.net.ptp.parent.map (·.src) == some p.src) = true →
    Gives (.ptpDelayResp p) s (fun t =>
      t.net.ptp.req = none ∧ t.net.ptp.delays = (delayOf o t2 t3 p :: s.net.ptp.delays).take 8)) ∧
  (∀ (s : State) (p : PtpAnn),
    s.flag NET_PTP_CTL_EN = true →
    (p.domain == s.getF NET_PTP_CTL_DOMAIN) = true →
    (!s.flag NET_PTP_CTL_ROLE) = true →
    s.net.ptp.parent.isNone = true →
    Gives (.ptpAnnounce p) s (fun t =>
      t.getF NET_PTP_STAT_STATE = 8 ∧ t.net.ptp.parent = some p)) ∧
  (∀ (s : State) (n : Nat) (a : PtpAnn),
    s.flag NET_PTP_CTL_EN = true →
    (s.ptpState != 6) = true →
    (s.net.ptp.parent == some a) = true →
    (decide (a.stamp + s.getF NET_PTP_CTL_ANN_TO * a.interval ≤ n)) = true →
    Gives (.ptpAnnounceTimeout n) s (fun t =>
      t.getF NET_PTP_STAT_STATE = (if s.flag NET_PTP_CTL_ROLE then 6 else 4) ∧ t.net.ptp.parent = none)) ∧
  (∀ (s : State) (n : Nat),
    (s.ptpState == 9) = true →
    (decide (s.net.ptp.accAt + 4 * s.net.ptp.syncIv ≤ n)) = true →
    Gives (.ptpSyncTimeout n) s (fun t =>
      t.getF NET_PTP_STAT_STATE = 8 ∧ Counted NET_PTP_STAT_EXITS s t)) ∧
  (∀ (s : State) (n : Nat),
    (s.ptpState == 8 || s.ptpState == 9) = true →
    Gives (.ptpDelayReqSend n) s (fun t =>
      t.net.ptp.req = some (s.net.ptp.reqSeq, n) ∧ t.net.ptp.reqSeq = (s.net.ptp.reqSeq + 1) % 65536)) ∧
  (∀ (s : State) (n : Nat),
    s.flag NET_PTP_CTL_EN = true →
    (s.ptpState == 6) = true →
    s.flag (NET_PORTm_STAT_LINK s.ptpPort) = true →
    dueAfter s.net.ptp.syncAt (logTicks (s.getI NET_PTP_CTL_SYNC_LOG)) n = true →
    Gives (.ptpMasterSend 1 n) s (fun t =>
      t.net.ptp.sent = some (1, (s.advance n).masterTime n, s.net.ptp.syncSeq) ∧ t.net.ptp.syncSeq = (s.net.ptp.syncSeq + 1) % 65536)) ∧
  (∀ (s : State) (n : Nat),
    s.flag NET_PTP_CTL_EN = true →
    (s.ptpState == 6) = true →
    s.flag (NET_PORTm_STAT_LINK s.ptpPort) = true →
    dueAfter s.net.ptp.annAt (logTicks (s.getI NET_PTP_CTL_ANN_LOG)) n = true →
    Gives (.ptpMasterSend 0 n) s (fun t =>
      t.net.ptp.sent = some (0, (s.advance n).masterTime n, s.net.ptp.annSeq) ∧ t.net.ptp.annSeq = (s.net.ptp.annSeq + 1) % 65536 ∧ t.net.ptp.ann = [s.getF NET_PTP_DS_PRIO1, s.getF NET_PTP_DS_CLASS, s.getF NET_PTP_DS_ACCURACY, s.getF NET_PTP_DS_PRIO2, 0xA0])) ∧
  (∀ (s : State) (n : Nat),
    s.flag NET_PTP_CTL_PPS = true →
    s.flag CLK_MAP_GEN_VALID = true →
    (s.ptpCount ((s.ptpTime n + 500000000) / 1000000000 * 1000000000) == n) = true →
    Gives (.ppsPulse n) s (fun t =>
      t.pins.ppsOut = true ∧ t.net.ptp.ppsAt = n)) ∧
  (∀ (s : State) (n : Nat),
    (decide (s.net.ptp.ppsAt + 10 * Config.ticksPerMs ≤ n)) = true →
    Gives (.ppsEnd n) s (fun t =>
      t.pins.ppsOut = false))

/-- Each command of the aerial inputs, where R120 to R135 give it its effect, answers the next state with the gain,
counters, block or buffer that those rules give. -/
def Obligations.AerialInputs : Prop :=
  (∀ (s : State) (m : Master),
    s.reaches m RFE_CMD = true →
    (!s.feRunning 0) = true →
    (!(s.flag (RFEa_GSTAT_PROT 0) && s.flag (RFEa_GAIN_LNA 0) && !s.flag (RFEa_GSTAT_LNA_ACT 0))) = true →
    s.counting = true →
    Gives (.gainApply m true false) s (fun t =>
      t.getF (RFEa_GSTAT_PEND 0) = 1)) ∧
  (∀ (s : State) (a n : Nat),
    (decide (a < 2)) = true →
    s.flag (RFEa_GSTAT_PEND a) = true →
    ((s.input a).boundary == n) = true →
    Gives (.gainApplied a n) s (fun t =>
      t.getF (RFEa_GSTAT_PEND a) = 0 ∧ t.getF (RFEa_GSTAT_LNA_ACT a) = s.getF (RFEa_GAIN_LNA a) ∧ t.getF (RFEa_GSTAT_ATT_ACT a) = s.getF (RFEa_GAIN_ATT a) ∧ t.get64 (RFEa_GCHG_LO a) (RFEa_GCHG_HI a) = n % 2 ^ 64)) ∧
  (∀ (s : State) (a n clipped : Nat) (peak avg : Int),
    (decide (a < 2)) = true →
    (!s.pwr.inReset) = true →
    (decide (2 ≤ s.stage)) = true →
    s.counting = true →
    (n % Config.ticksPerMs == 0) = true →
    (s.input a).ovl.meets clipped peak avg = true →
    Gives (.ovlWindowEnd a n clipped peak avg) s (fun t =>
      t.getI (RFEa_POWER_AVG a) = clampInt (-1000) 31 avg ∧ (t.input a).clipPrev = decide (s.getF (RFEa_OVL_CFG_CLIP_N a) ≤ clipped))) ∧
  (∀ (s : State) (a : Nat),
    (decide (a < 2)) = true →
    (!s.pwr.inReset) = true →
    (decide (2 ≤ s.stage)) = true →
    s.flag (RFEa_GSTAT_LNA_ACT a) = true →
    Gives (.lnaProtect a) s (fun t =>
      t.getF (RFEa_GSTAT_PROT a) = 1 ∧ Counted (RFEa_EVCNT_PROT a) s t ∧ (s.flag (if a = 0 then RFE_CTL_PROT_EN0 else RFE_CTL_PROT_EN1) = true → t.getF (RFEa_GSTAT_LNA_ACT a) = 0))) ∧
  (∀ (s : State) (a ts : Nat) (samples : List Nat) (n : Nat) (bad : Bool),
    (decide (a < 3)) = true →
    (!s.pwr.inReset) = true →
    s.counting = true →
    (samples.length == 64) = true →
    ((s.input a).next == ts) = true →
    Gives (.adcBlockArrival a ts samples n bad) s (fun t =>
      (t.input a).seq = ((s.input a).seq + 1) % 65536 ∧ (t.input a).next = ts + 64))

/-- Each FRR instruction that issues writes the value R448 and R409 give it to gD, wrapped or saturated under SAT, and
a write of g0 is discarded (R410): the value stands when the results in flight are in place. Division needs a divisor
that is not zero. -/
def Obligations.IzhamRegisterArithmetic : Prop :=
  (∀ (s : State) (h : IzHead) (d a b z : BitVec 4),
    s.issues h (.frr .add d a b z) = true →
    Gives (.izAdd h d a b z) s (fun t =>
      (t.settled h.core).reg d.toNat = (if d = 0 then 0 else (if h.pre.contains .sat then BitVec.ofInt 24 (clampInt (-8388608) 8388607 (((s.core h.core).reg a.toNat).toInt + ((s.core h.core).reg b.toNat).toInt)) else ((s.core h.core).reg a.toNat) + ((s.core h.core).reg b.toNat))))) ∧
  (∀ (s : State) (h : IzHead) (d a b z : BitVec 4),
    s.issues h (.frr .sub d a b z) = true →
    Gives (.izSub h d a b z) s (fun t =>
      (t.settled h.core).reg d.toNat = (if d = 0 then 0 else (if h.pre.contains .sat then BitVec.ofInt 24 (clampInt (-8388608) 8388607 (((s.core h.core).reg a.toNat).toInt - ((s.core h.core).reg b.toNat).toInt)) else ((s.core h.core).reg a.toNat) - ((s.core h.core).reg b.toNat))))) ∧
  (∀ (s : State) (h : IzHead) (d a b z : BitVec 4),
    s.issues h (.frr .and d a b z) = true →
    Gives (.izAnd h d a b z) s (fun t =>
      (t.settled h.core).reg d.toNat = (if d = 0 then 0 else ((s.core h.core).reg a.toNat) &&& ((s.core h.core).reg b.toNat)))) ∧
  (∀ (s : State) (h : IzHead) (d a b z : BitVec 4),
    s.issues h (.frr .or d a b z) = true →
    Gives (.izOr h d a b z) s (fun t =>
      (t.settled h.core).reg d.toNat = (if d = 0 then 0 else ((s.core h.core).reg a.toNat) ||| ((s.core h.core).reg b.toNat)))) ∧
  (∀ (s : State) (h : IzHead) (d a b z : BitVec 4),
    s.issues h (.frr .xor d a b z) = true →
    Gives (.izXor h d a b z) s (fun t =>
      (t.settled h.core).reg d.toNat = (if d = 0 then 0 else ((s.core h.core).reg a.toNat) ^^^ ((s.core h.core).reg b.toNat)))) ∧
  (∀ (s : State) (h : IzHead) (d a b z : BitVec 4),
    s.issues h (.frr .shl d a b z) = true →
    Gives (.izShl h d a b z) s (fun t =>
      (t.settled h.core).reg d.toNat = (if d = 0 then 0 else (if h.pre.contains .sat then BitVec.ofInt 24 (clampInt (-8388608) 8388607 (((s.core h.core).reg a.toNat).toInt * 2 ^ min ((s.core h.core).reg b.toNat).toNat 24)) else (if 24 ≤ ((s.core h.core).reg b.toNat).toNat then 0 else ((s.core h.core).reg a.toNat) <<< ((s.core h.core).reg b.toNat).toNat))))) ∧
  (∀ (s : State) (h : IzHead) (d a b z : BitVec 4),
    s.issues h (.frr .shr d a b z) = true →
    Gives (.izShr h d a b z) s (fun t =>
      (t.settled h.core).reg d.toNat = (if d = 0 then 0 else (if 24 ≤ ((s.core h.core).reg b.toNat).toNat then 0 else ((s.core h.core).reg a.toNat) >>> ((s.core h.core).reg b.toNat).toNat)))) ∧
  (∀ (s : State) (h : IzHead) (d a b z : BitVec 4),
    s.issues h (.frr .sra d a b z) = true →
    Gives (.izSra h d a b z) s (fun t =>
      (t.settled h.core).reg d.toNat = (if d = 0 then 0 else BitVec.ofInt 24 (((s.core h.core).reg a.toNat).toInt / 2 ^ min ((s.core h.core).reg b.toNat).toNat 24)))) ∧
  (∀ (s : State) (h : IzHead) (d a b z : BitVec 4),
    s.issues h (.frr .mul d a b z) = true →
    Gives (.izMul h d a b z) s (fun t =>
      (t.settled h.core).reg d.toNat = (if d = 0 then 0 else (if h.pre.contains .sat then BitVec.ofInt 24 (clampInt (-8388608) 8388607 (((s.core h.core).reg a.toNat).toInt * ((s.core h.core).reg b.toNat).toInt)) else ((s.core h.core).reg a.toNat) * ((s.core h.core).reg b.toNat))))) ∧
  (∀ (s : State) (h : IzHead) (d a b z : BitVec 4),
    s.issues h (.frr .mulh d a b z) = true →
    Gives (.izMulh h d a b z) s (fun t =>
      (t.settled h.core).reg d.toNat = (if d = 0 then 0 else (if h.pre.contains .sat then BitVec.ofInt 24 (clampInt (-8388608) 8388607 (roundEven (((s.core h.core).reg a.toNat).toInt * ((s.core h.core).reg b.toNat).toInt) (2 ^ 23))) else BitVec.ofInt 24 (roundEven (((s.core h.core).reg a.toNat).toInt * ((s.core h.core).reg b.toNat).toInt) (2 ^ 23)))))) ∧
  (∀ (s : State) (h : IzHead) (d a b z : BitVec 4),
    s.issues h (.frr .min d a b z) = true →
    Gives (.izMin h d a b z) s (fun t =>
      (t.settled h.core).reg d.toNat = (if d = 0 then 0 else BitVec.ofInt 24 (min ((s.core h.core).reg a.toNat).toInt ((s.core h.core).reg b.toNat).toInt)))) ∧
  (∀ (s : State) (h : IzHead) (d a b z : BitVec 4),
    s.issues h (.frr .max d a b z) = true →
    Gives (.izMax h d a b z) s (fun t =>
      (t.settled h.core).reg d.toNat = (if d = 0 then 0 else BitVec.ofInt 24 (max ((s.core h.core).reg a.toNat).toInt ((s.core h.core).reg b.toNat).toInt)))) ∧
  (∀ (s : State) (h : IzHead) (d a b z : BitVec 4),
    s.issues h (.frr .div d a b z) = true →
    (((s.core h.core).reg b.toNat) != 0) = true →
    Gives (.izDiv h d a b z) s (fun t =>
      (t.settled h.core).reg d.toNat = (if d = 0 then 0 else (if h.pre.contains .sat then BitVec.ofInt 24 (clampInt (-8388608) 8388607 (((s.core h.core).reg a.toNat).toInt.tdiv ((s.core h.core).reg b.toNat).toInt)) else BitVec.ofInt 24 (((s.core h.core).reg a.toNat).toInt.tdiv ((s.core h.core).reg b.toNat).toInt))))) ∧
  (∀ (s : State) (h : IzHead) (d a b z : BitVec 4),
    s.issues h (.frr .divu d a b z) = true →
    (((s.core h.core).reg b.toNat) != 0) = true →
    Gives (.izDivu h d a b z) s (fun t =>
      (t.settled h.core).reg d.toNat = (if d = 0 then 0 else BitVec.ofNat 24 (((s.core h.core).reg a.toNat).toNat / ((s.core h.core).reg b.toNat).toNat)))) ∧
  (∀ (s : State) (h : IzHead) (d a b z : BitVec 4),
    s.issues h (.frr .rem d a b z) = true →
    (((s.core h.core).reg b.toNat) != 0) = true →
    Gives (.izRem h d a b z) s (fun t =>
      (t.settled h.core).reg d.toNat = (if d = 0 then 0 else BitVec.ofInt 24 (((s.core h.core).reg a.toNat).toInt.tmod ((s.core h.core).reg b.toNat).toInt))))

/-- Each FRI instruction that issues writes the value R448 gives it to gD, with the immediate sign-extended, zero-
extended or taken from XIMM as R441 says. -/
def Obligations.IzhamImmediateArithmetic : Prop :=
  (∀ (s : State) (h : IzHead) (d a : BitVec 4) (imm : BitVec 8),
    s.issues h (.fri .addi d a imm) = true →
    Gives (.izAddi h d a imm) s (fun t =>
      (t.settled h.core).reg d.toNat = (if d = 0 then 0 else (if h.pre.contains .sat then BitVec.ofInt 24 (clampInt (-8388608) 8388607 (((s.core h.core).reg a.toNat).toInt + (immOf h.pre imm).toInt)) else ((s.core h.core).reg a.toNat) + (immOf h.pre imm))))) ∧
  (∀ (s : State) (h : IzHead) (d a : BitVec 4) (imm : BitVec 8),
    s.issues h (.fri .andi d a imm) = true →
    Gives (.izAndi h d a imm) s (fun t =>
      (t.settled h.core).reg d.toNat = (if d = 0 then 0 else ((s.core h.core).reg a.toNat) &&& (uimmOf h.pre imm)))) ∧
  (∀ (s : State) (h : IzHead) (d a : BitVec 4) (imm : BitVec 8),
    s.issues h (.fri .ori d a imm) = true →
    Gives (.izOri h d a imm) s (fun t =>
      (t.settled h.core).reg d.toNat = (if d = 0 then 0 else ((s.core h.core).reg a.toNat) ||| (uimmOf h.pre imm)))) ∧
  (∀ (s : State) (h : IzHead) (d a : BitVec 4) (imm : BitVec 8),
    s.issues h (.fri .xori d a imm) = true →
    Gives (.izXori h d a imm) s (fun t =>
      (t.settled h.core).reg d.toNat = (if d = 0 then 0 else ((s.core h.core).reg a.toNat) ^^^ (uimmOf h.pre imm)))) ∧
  (∀ (s : State) (h : IzHead) (d a : BitVec 4) (imm : BitVec 8),
    s.issues h (.fri .shli d a imm) = true →
    Gives (.izShli h d a imm) s (fun t =>
      (t.settled h.core).reg d.toNat = (if d = 0 then 0 else (if h.pre.contains .sat then BitVec.ofInt 24 (clampInt (-8388608) 8388607 (((s.core h.core).reg a.toNat).toInt * 2 ^ min (imm.toNat % 32) 24)) else (if 24 ≤ imm.toNat % 32 then 0 else ((s.core h.core).reg a.toNat) <<< (imm.toNat % 32)))))) ∧
  (∀ (s : State) (h : IzHead) (d a : BitVec 4) (imm : BitVec 8),
    s.issues h (.fri .shri d a imm) = true →
    Gives (.izShri h d a imm) s (fun t =>
      (t.settled h.core).reg d.toNat = (if d = 0 then 0 else (if 24 ≤ imm.toNat % 32 then 0 else ((s.core h.core).reg a.toNat) >>> (imm.toNat % 32))))) ∧
  (∀ (s : State) (h : IzHead) (d a : BitVec 4) (imm : BitVec 8),
    s.issues h (.fri .srai d a imm) = true →
    Gives (.izSrai h d a imm) s (fun t =>
      (t.settled h.core).reg d.toNat = (if d = 0 then 0 else BitVec.ofInt 24 (((s.core h.core).reg a.toNat).toInt / 2 ^ min (imm.toNat % 32) 24)))) ∧
  (∀ (s : State) (h : IzHead) (d a : BitVec 4) (imm : BitVec 8),
    s.issues h (.fri .muli d a imm) = true →
    Gives (.izMuli h d a imm) s (fun t =>
      (t.settled h.core).reg d.toNat = (if d = 0 then 0 else (if h.pre.contains .sat then BitVec.ofInt 24 (clampInt (-8388608) 8388607 (((s.core h.core).reg a.toNat).toInt * (immOf h.pre imm).toInt)) else ((s.core h.core).reg a.toNat) * (immOf h.pre imm))))) ∧
  (∀ (s : State) (h : IzHead) (d a : BitVec 4) (imm : BitVec 8),
    s.issues h (.fri .movi d a imm) = true →
    Gives (.izMovi h d a imm) s (fun t =>
      (t.settled h.core).reg d.toNat = (if d = 0 then 0 else (immOf h.pre imm))))

/-- Each of these FR and F0 instructions that issues writes the register R411, R413, R415, R448 or R449 names, with
the value given there; MTSW and SETSD need a value that R411 and R415 accept. -/
def Obligations.IzhamMovesAndStatus : Prop :=
  (∀ (s : State) (h : IzHead) (x y : BitVec 4),
    s.issues h (.fr .mov x y) = true →
    Gives (.izMov h x y) s (fun t =>
      (t.settled h.core).reg x.toNat = (if x = 0 then 0 else ((s.core h.core).reg y.toNat)))) ∧
  (∀ (s : State) (h : IzHead) (x y : BitVec 4),
    s.issues h (.fr .neg x y) = true →
    Gives (.izNeg h x y) s (fun t =>
      (t.settled h.core).reg x.toNat = (if x = 0 then 0 else (if h.pre.contains .sat then BitVec.ofInt 24 (clampInt (-8388608) 8388607 (-((s.core h.core).reg y.toNat).toInt)) else -((s.core h.core).reg y.toNat))))) ∧
  (∀ (s : State) (h : IzHead) (x y : BitVec 4),
    s.issues h (.fr .abs x y) = true →
    Gives (.izAbs h x y) s (fun t =>
      (t.settled h.core).reg x.toNat = (if x = 0 then 0 else (if h.pre.contains .sat then BitVec.ofInt 24 (clampInt (-8388608) 8388607 ((((s.core h.core).reg y.toNat).toInt.natAbs : Int))) else BitVec.ofNat 24 ((s.core h.core).reg y.toNat).toInt.natAbs)))) ∧
  (∀ (s : State) (h : IzHead) (x y : BitVec 4),
    s.issues h (.fr .not x y) = true →
    Gives (.izNot h x y) s (fun t =>
      (t.settled h.core).reg x.toNat = (if x = 0 then 0 else ~~~ ((s.core h.core).reg y.toNat)))) ∧
  (∀ (s : State) (h : IzHead) (x y : BitVec 4),
    s.issues h (.fr .clz x y) = true →
    Gives (.izClz h x y) s (fun t =>
      (t.settled h.core).reg x.toNat = (if x = 0 then 0 else BitVec.ofNat 24 (clzFrom ((s.core h.core).reg y.toNat).toNat 24)))) ∧
  (∀ (s : State) (h : IzHead) (x y : BitVec 4),
    s.issues h (.fr .sext8 x y) = true →
    Gives (.izSext8 h x y) s (fun t =>
      (t.settled h.core).reg x.toNat = (if x = 0 then 0 else BitVec.ofInt 24 (((s.core h.core).reg y.toNat).extractLsb' 0 8).toInt))) ∧
  (∀ (s : State) (h : IzHead) (x y : BitVec 4),
    s.issues h (.fr .sext16 x y) = true →
    Gives (.izSext16 h x y) s (fun t =>
      (t.settled h.core).reg x.toNat = (if x = 0 then 0 else BitVec.ofInt 24 (((s.core h.core).reg y.toNat).extractLsb' 0 16).toInt))) ∧
  (∀ (s : State) (h : IzHead) (x y : BitVec 4),
    s.issues h (.fr .mfsw x y) = true →
    Gives (.izMfsw h x y) s (fun t =>
      (t.settled h.core).reg x.toNat = (if x = 0 then 0 else BitVec.ofNat 24 (s.core h.core).sw))) ∧
  (∀ (s : State) (h : IzHead) (x y : BitVec 4),
    s.issues h (.fr .mfsp x y) = true →
    Gives (.izMfsp h x y) s (fun t =>
      (t.settled h.core).reg x.toNat = (if x = 0 then 0 else (s.core h.core).sp))) ∧
  (∀ (s : State) (h : IzHead) (x y : BitVec 4),
    s.issues h (.fr .mfp x y) = true →
    Gives (.izMfp h x y) s (fun t =>
      (t.settled h.core).reg x.toNat = (if x = 0 then 0 else (s.core h.core).ptr y.toNat))) ∧
  (∀ (s : State) (h : IzHead) (x y : BitVec 4),
    s.issues h (.fr .mtsp x y) = true →
    Gives (.izMtsp h x y) s (fun t =>
      (t.settled h.core).sp = ((s.core h.core).reg y.toNat))) ∧
  (∀ (s : State) (h : IzHead) (x y : BitVec 4),
    s.issues h (.fr .mtsw x y) = true →
    swOk ((s.core h.core).reg y.toNat).toNat = true →
    (!(s.core h.core).tick.atLoopEnd (s.core h.core).pc.toNat) = true →
    Gives (.izMtsw h x y) s (fun t =>
      (t.settled h.core).ie = ((s.core h.core).reg y.toNat).getLsbD 23 ∧ (t.settled h.core).ldepth = bitsOf ((s.core h.core).reg y.toNat).toNat 12 10 ∧ (t.settled h.core).mflt = bitsOf ((s.core h.core).reg y.toNat).toNat 9 7 ∧ (List.range 4).all (fun j => sget noBit (t.settled h.core).aov j == ((s.core h.core).reg y.toNat).getLsbD (3 + j)) = true)) ∧
  (∀ (s : State) (h : IzHead),
    s.issues h (.f0 .ei) = true →
    Gives (.izEi h) s (fun t =>
      (t.settled h.core).ie = true ∧ (t.core h.core).ieNow = true)) ∧
  (∀ (s : State) (h : IzHead),
    s.issues h (.f0 .di) = true →
    Gives (.izDi h) s (fun t =>
      (t.settled h.core).ie = false ∧ (t.core h.core).ieNow = false)) ∧
  (∀ (s : State) (h : IzHead),
    s.issues h (.f0 .nop) = true →
    s.straight h.core h.pre = true →
    Gives (.izNop h) s (fun t =>
      t = s.setCore h.core { (s.core h.core).tick with issuing := false, delay := none, rep := none, pc := BitVec.ofNat 24 ((s.core h.core).pc.toNat + preLen h.pre + 1) })) ∧
  (∀ (s : State) (h : IzHead) (x y : BitVec 4),
    s.issues h (.fr .setsd x y) = true →
    sdOk (SegDesc.unpack (((s.core h.core).reg x.toNat).toNat + 2 ^ 24 * ((s.core h.core).reg (x.toNat + 1)).toNat + 2 ^ 48 * ((s.core h.core).reg (x.toNat + 2)).toNat)) = true →
    (decide (((s.core h.core).reg (x.toNat + 1)).toNat < 512)) = true →
    Gives (.izSetsd h x y) s (fun t =>
      (t.settled h.core).desc y.toNat = (SegDesc.unpack (((s.core h.core).reg x.toNat).toNat + 2 ^ 24 * ((s.core h.core).reg (x.toNat + 1)).toNat + 2 ^ 48 * ((s.core h.core).reg (x.toNat + 2)).toNat)))) ∧
  (∀ (s : State) (h : IzHead) (x y : BitVec 4),
    s.issues h (.fr .getsd x y) = true →
    Gives (.izGetsd h x y) s (fun t =>
      ((t.settled h.core).reg (x.toNat + 1)).toNat = ((s.core h.core).desc y.toNat).pack / 2 ^ 24 % 2 ^ 24 ∧ ((t.settled h.core).reg (x.toNat + 2)).toNat = ((s.core h.core).desc y.toNat).pack / 2 ^ 48 % 2 ^ 24 ∧ (x ≠ 0 → ((t.settled h.core).reg x.toNat).toNat = ((s.core h.core).desc y.toNat).pack % 2 ^ 24)))

/-- Each FX instruction that issues moves the value R448 gives between gD and the loop register, accumulator part or
pointer binding it names; an accumulator part is written over the accumulator as every result in flight leaves it
(R427). -/
def Obligations.IzhamMapOne : Prop :=
  (∀ (s : State) (h : IzHead) (d x : BitVec 4),
    s.issues h (.fx .mfls d x) = true →
    Gives (.izMfls h d x) s (fun t =>
      (t.settled h.core).reg d.toNat = (if d = 0 then 0 else sget zero24 (s.core h.core).ls x.toNat))) ∧
  (∀ (s : State) (h : IzHead) (d x : BitVec 4),
    s.issues h (.fx .mfle d x) = true →
    Gives (.izMfle h d x) s (fun t =>
      (t.settled h.core).reg d.toNat = (if d = 0 then 0 else sget zero24 (s.core h.core).le x.toNat))) ∧
  (∀ (s : State) (h : IzHead) (d x : BitVec 4),
    s.issues h (.fx .mflc d x) = true →
    Gives (.izMflc h d x) s (fun t =>
      (t.settled h.core).reg d.toNat = (if d = 0 then 0 else sget zero24 (s.core h.core).lc x.toNat))) ∧
  (∀ (s : State) (h : IzHead) (d x : BitVec 4),
    s.issues h (.fx .mfa d x) = true →
    Gives (.izMfa h d x) s (fun t =>
      (t.settled h.core).reg d.toNat = (if d = 0 then 0 else BitVec.ofNat 24 (accWord ((s.core h.core).acc (x.toNat % 4)) (x.toNat / 4))))) ∧
  (∀ (s : State) (h : IzHead) (d x : BitVec 4),
    s.issues h (.fx .mfpb d x) = true →
    Gives (.izMfpb h d x) s (fun t =>
      (t.settled h.core).reg d.toNat = (if d = 0 then 0 else BitVec.ofNat 24 ((s.core h.core).bind x.toNat)))) ∧
  (∀ (s : State) (h : IzHead) (d x : BitVec 4),
    s.issues h (.fx .core d x) = true →
    Gives (.izCore h d x) s (fun t =>
      (t.settled h.core).reg d.toNat = (if d = 0 then 0 else BitVec.ofNat 24 h.core))) ∧
  (∀ (s : State) (h : IzHead) (d x : BitVec 4),
    s.issues h (.fx .mtls d x) = true →
    Gives (.izMtls h d x) s (fun t =>
      sget zero24 (t.settled h.core).ls x.toNat = ((s.core h.core).reg d.toNat))) ∧
  (∀ (s : State) (h : IzHead) (d x : BitVec 4),
    s.issues h (.fx .mtle d x) = true →
    Gives (.izMtle h d x) s (fun t =>
      sget zero24 (t.settled h.core).le x.toNat = ((s.core h.core).reg d.toNat))) ∧
  (∀ (s : State) (h : IzHead) (d x : BitVec 4),
    s.issues h (.fx .mtlc d x) = true →
    (!(s.core h.core).tick.atLoopEnd (s.core h.core).pc.toNat) = true →
    Gives (.izMtlc h d x) s (fun t =>
      sget zero24 (t.settled h.core).lc x.toNat = ((s.core h.core).reg d.toNat))) ∧
  (∀ (s : State) (h : IzHead) (d x : BitVec 4),
    s.issues h (.fx .mta d x) = true →
    (s.core h.core).ordered = true →
    Gives (.izMta h d x) s (fun t =>
      (t.settled h.core).acc (x.toNat % 4) = accPart ((s.settled h.core).acc (x.toNat % 4)) (x.toNat / 4) ((s.core h.core).reg d.toNat).toNat))

/-- Each branch that issues leaves the byte after it as the next instruction and its target, where it is taken, to
follow that delay slot (R422, R450); CALL and CALLR push the address after the delay slot through SD15, RET pops its
target, RTI pops SW, the PC and, where DS is 1, a target (R422, R432), here with a stack in the local data RAM. -/
def Obligations.IzhamBranches : Prop :=
  (∀ (s : State) (h : IzHead) (a b : BitVec 4) (disp : BitVec 16),
    s.issues h (.fb .eq a b disp) = true →
    Gives (.izBeq h a b disp) s (fun t =>
      (t.core h.core).delay = some (if ((s.core h.core).reg a.toNat) = ((s.core h.core).reg b.toNat) then some (BitVec.ofInt 24 (((s.core h.core).pc.toNat + preLen h.pre + 4) + disp.toInt)) else none) ∧ (t.core h.core).pc = BitVec.ofNat 24 ((s.core h.core).pc.toNat + preLen h.pre + 4))) ∧
  (∀ (s : State) (h : IzHead) (a z : BitVec 4) (imm : BitVec 8) (disp : BitVec 16),
    s.issues h (.fbi .eq a z imm disp) = true →
    Gives (.izBeqi h a z imm disp) s (fun t =>
      (t.core h.core).delay = some (if ((s.core h.core).reg a.toNat) = (immOf h.pre imm) then some (BitVec.ofInt 24 (((s.core h.core).pc.toNat + preLen h.pre + 5) + disp.toInt)) else none) ∧ (t.core h.core).pc = BitVec.ofNat 24 ((s.core h.core).pc.toNat + preLen h.pre + 5))) ∧
  (∀ (s : State) (h : IzHead) (a b : BitVec 4) (disp : BitVec 16),
    s.issues h (.fb .ne a b disp) = true →
    Gives (.izBne h a b disp) s (fun t =>
      (t.core h.core).delay = some (if ((s.core h.core).reg a.toNat) ≠ ((s.core h.core).reg b.toNat) then some (BitVec.ofInt 24 (((s.core h.core).pc.toNat + preLen h.pre + 4) + disp.toInt)) else none) ∧ (t.core h.core).pc = BitVec.ofNat 24 ((s.core h.core).pc.toNat + preLen h.pre + 4))) ∧
  (∀ (s : State) (h : IzHead) (a z : BitVec 4) (imm : BitVec 8) (disp : BitVec 16),
    s.issues h (.fbi .ne a z imm disp) = true →
    Gives (.izBnei h a z imm disp) s (fun t =>
      (t.core h.core).delay = some (if ((s.core h.core).reg a.toNat) ≠ (immOf h.pre imm) then some (BitVec.ofInt 24 (((s.core h.core).pc.toNat + preLen h.pre + 5) + disp.toInt)) else none) ∧ (t.core h.core).pc = BitVec.ofNat 24 ((s.core h.core).pc.toNat + preLen h.pre + 5))) ∧
  (∀ (s : State) (h : IzHead) (a b : BitVec 4) (disp : BitVec 16),
    s.issues h (.fb .lt a b disp) = true →
    Gives (.izBlt h a b disp) s (fun t =>
      (t.core h.core).delay = some (if ((s.core h.core).reg a.toNat).toInt < ((s.core h.core).reg b.toNat).toInt then some (BitVec.ofInt 24 (((s.core h.core).pc.toNat + preLen h.pre + 4) + disp.toInt)) else none) ∧ (t.core h.core).pc = BitVec.ofNat 24 ((s.core h.core).pc.toNat + preLen h.pre + 4))) ∧
  (∀ (s : State) (h : IzHead) (a z : BitVec 4) (imm : BitVec 8) (disp : BitVec 16),
    s.issues h (.fbi .lt a z imm disp) = true →
    Gives (.izBlti h a z imm disp) s (fun t =>
      (t.core h.core).delay = some (if ((s.core h.core).reg a.toNat).toInt < (immOf h.pre imm).toInt then some (BitVec.ofInt 24 (((s.core h.core).pc.toNat + preLen h.pre + 5) + disp.toInt)) else none) ∧ (t.core h.core).pc = BitVec.ofNat 24 ((s.core h.core).pc.toNat + preLen h.pre + 5))) ∧
  (∀ (s : State) (h : IzHead) (a b : BitVec 4) (disp : BitVec 16),
    s.issues h (.fb .ge a b disp) = true →
    Gives (.izBge h a b disp) s (fun t =>
      (t.core h.core).delay = some (if ((s.core h.core).reg b.toNat).toInt ≤ ((s.core h.core).reg a.toNat).toInt then some (BitVec.ofInt 24 (((s.core h.core).pc.toNat + preLen h.pre + 4) + disp.toInt)) else none) ∧ (t.core h.core).pc = BitVec.ofNat 24 ((s.core h.core).pc.toNat + preLen h.pre + 4))) ∧
  (∀ (s : State) (h : IzHead) (a z : BitVec 4) (imm : BitVec 8) (disp : BitVec 16),
    s.issues h (.fbi .ge a z imm disp) = true →
    Gives (.izBgei h a z imm disp) s (fun t =>
      (t.core h.core).delay = some (if (immOf h.pre imm).toInt ≤ ((s.core h.core).reg a.toNat).toInt then some (BitVec.ofInt 24 (((s.core h.core).pc.toNat + preLen h.pre + 5) + disp.toInt)) else none) ∧ (t.core h.core).pc = BitVec.ofNat 24 ((s.core h.core).pc.toNat + preLen h.pre + 5))) ∧
  (∀ (s : State) (h : IzHead) (a b : BitVec 4) (disp : BitVec 16),
    s.issues h (.fb .ltu a b disp) = true →
    Gives (.izBltu h a b disp) s (fun t =>
      (t.core h.core).delay = some (if ((s.core h.core).reg a.toNat).toNat < ((s.core h.core).reg b.toNat).toNat then some (BitVec.ofInt 24 (((s.core h.core).pc.toNat + preLen h.pre + 4) + disp.toInt)) else none) ∧ (t.core h.core).pc = BitVec.ofNat 24 ((s.core h.core).pc.toNat + preLen h.pre + 4))) ∧
  (∀ (s : State) (h : IzHead) (a z : BitVec 4) (imm : BitVec 8) (disp : BitVec 16),
    s.issues h (.fbi .ltu a z imm disp) = true →
    Gives (.izBltui h a z imm disp) s (fun t =>
      (t.core h.core).delay = some (if ((s.core h.core).reg a.toNat).toNat < (immOf h.pre imm).toNat then some (BitVec.ofInt 24 (((s.core h.core).pc.toNat + preLen h.pre + 5) + disp.toInt)) else none) ∧ (t.core h.core).pc = BitVec.ofNat 24 ((s.core h.core).pc.toNat + preLen h.pre + 5))) ∧
  (∀ (s : State) (h : IzHead) (a b : BitVec 4) (disp : BitVec 16),
    s.issues h (.fb .geu a b disp) = true →
    Gives (.izBgeu h a b disp) s (fun t =>
      (t.core h.core).delay = some (if ((s.core h.core).reg b.toNat).toNat ≤ ((s.core h.core).reg a.toNat).toNat then some (BitVec.ofInt 24 (((s.core h.core).pc.toNat + preLen h.pre + 4) + disp.toInt)) else none) ∧ (t.core h.core).pc = BitVec.ofNat 24 ((s.core h.core).pc.toNat + preLen h.pre + 4))) ∧
  (∀ (s : State) (h : IzHead) (a z : BitVec 4) (imm : BitVec 8) (disp : BitVec 16),
    s.issues h (.fbi .geu a z imm disp) = true →
    Gives (.izBgeui h a z imm disp) s (fun t =>
      (t.core h.core).delay = some (if (immOf h.pre imm).toNat ≤ ((s.core h.core).reg a.toNat).toNat then some (BitVec.ofInt 24 (((s.core h.core).pc.toNat + preLen h.pre + 5) + disp.toInt)) else none) ∧ (t.core h.core).pc = BitVec.ofNat 24 ((s.core h.core).pc.toNat + preLen h.pre + 5))) ∧
  (∀ (s : State) (h : IzHead) (z0 z1 : BitVec 4) (disp : BitVec 16),
    s.issues h (.br z0 z1 disp) = true →
    Gives (.izBr h z0 z1 disp) s (fun t =>
      (t.core h.core).delay = some (some (BitVec.ofInt 24 (((s.core h.core).pc.toNat + preLen h.pre + 4) + disp.toInt))) ∧ (t.core h.core).pc = BitVec.ofNat 24 ((s.core h.core).pc.toNat + preLen h.pre + 4))) ∧
  (∀ (s : State) (h : IzHead) (dest : BitVec 24),
    s.issues h (.fj false dest) = true →
    Gives (.izJmp h dest) s (fun t =>
      (t.core h.core).delay = some (some dest) ∧ (t.core h.core).pc = BitVec.ofNat 24 ((s.core h.core).pc.toNat + preLen h.pre + 4))) ∧
  (∀ (s : State) (h : IzHead) (x y : BitVec 4),
    s.issues h (.fr .jmpr x y) = true →
    Gives (.izJmpr h x y) s (fun t =>
      (t.core h.core).delay = some (some ((s.core h.core).reg y.toNat)) ∧ (t.core h.core).pc = BitVec.ofNat 24 ((s.core h.core).pc.toNat + preLen h.pre + 2))) ∧
  (∀ (s : State) (h : IzHead) (dest : BitVec 24),
    s.issues h (.fj true dest) = true →
    (decide (0 < (s.core h.core).sp.toNat)) = true →
    (decide ((s.core h.core).sp.toNat - 1 < ((s.core h.core).desc 15).limit)) = true →
    ((s.core h.core).desc 15).inRam ((s.core h.core).sp.toNat - 1) = true →
    Gives (.izCall h dest) s (fun t =>
      (t.core h.core).delay = some (some dest) ∧ (t.settled h.core).sp = (s.core h.core).sp - 1 ∧ (t.settled h.core).ramWord ((s.core h.core).desc 15) ((s.core h.core).sp.toNat - 1) = BitVec.ofNat 24 ((s.core h.core).after ((s.core h.core).pc.toNat + preLen h.pre + 4)))) ∧
  (∀ (s : State) (h : IzHead) (x y : BitVec 4),
    s.issues h (.fr .callr x y) = true →
    (decide (0 < (s.core h.core).sp.toNat)) = true →
    (decide ((s.core h.core).sp.toNat - 1 < ((s.core h.core).desc 15).limit)) = true →
    ((s.core h.core).desc 15).inRam ((s.core h.core).sp.toNat - 1) = true →
    Gives (.izCallr h x y) s (fun t =>
      (t.core h.core).delay = some (some ((s.core h.core).reg y.toNat)) ∧ (t.settled h.core).sp = (s.core h.core).sp - 1 ∧ (t.settled h.core).ramWord ((s.core h.core).desc 15) ((s.core h.core).sp.toNat - 1) = BitVec.ofNat 24 ((s.core h.core).after ((s.core h.core).pc.toNat + preLen h.pre + 2)))) ∧
  (∀ (s : State) (h : IzHead),
    s.issues h (.f0 .ret) = true →
    (decide ((s.core h.core).sp.toNat < ((s.core h.core).desc 15).limit)) = true →
    ((s.core h.core).desc 15).inRam (s.core h.core).sp.toNat = true →
    Gives (.izRet h) s (fun t =>
      (t.core h.core).delay = some (some ((s.core h.core).ramWord ((s.core h.core).desc 15) (s.core h.core).sp.toNat)) ∧ (t.settled h.core).sp = (s.core h.core).sp + 1)) ∧
  (∀ (s : State) (h : IzHead),
    s.issues h (.f0 .rti) = true →
    swOk ((s.core h.core).ramWord ((s.core h.core).desc 15) (s.core h.core).sp.toNat).toNat = true →
    (decide ((s.core h.core).sp.toNat + (if ((s.core h.core).ramWord ((s.core h.core).desc 15) (s.core h.core).sp.toNat).getLsbD 22 then 3 else 2) ≤ ((s.core h.core).desc 15).limit)) = true →
    ((s.core h.core).desc 15).inRam (s.core h.core).sp.toNat = true →
    ((s.core h.core).desc 15).inRam ((s.core h.core).sp.toNat + 1) = true →
    ((s.core h.core).desc 15).inRam ((s.core h.core).sp.toNat + 2) = true →
    (((s.core h.core).desc 15).mode == 0) = true →
    Gives (.izRti h) s (fun t =>
      (t.core h.core).pc = (s.core h.core).ramWord ((s.core h.core).desc 15) ((s.core h.core).sp.toNat + 1) ∧ (t.settled h.core).sp = BitVec.ofNat 24 ((s.core h.core).sp.toNat + (if ((s.core h.core).ramWord ((s.core h.core).desc 15) (s.core h.core).sp.toNat).getLsbD 22 then 3 else 2)) ∧ (t.settled h.core).ie = ((s.core h.core).ramWord ((s.core h.core).desc 15) (s.core h.core).sp.toNat).getLsbD 23 ∧ (t.settled h.core).ldepth = bitsOf ((s.core h.core).ramWord ((s.core h.core).desc 15) (s.core h.core).sp.toNat).toNat 12 10 ∧ (t.core h.core).rep = (if ((s.core h.core).ramWord ((s.core h.core).desc 15) (s.core h.core).sp.toNat).getLsbD 21 then some (bitsOf ((s.core h.core).ramWord ((s.core h.core).desc 15) (s.core h.core).sp.toNat).toNat 20 13 + 1) else none) ∧ (t.core h.core).delay = (if ((s.core h.core).ramWord ((s.core h.core).desc 15) (s.core h.core).sp.toNat).getLsbD 22 then some (some ((s.core h.core).ramWord ((s.core h.core).desc 15) ((s.core h.core).sp.toNat + 2))) else none)))

/-- PUSH and PUSHA that issue with room on the stack decrement sp and store the words below it, POP and POPA load the
words at sp and increment it (R421, R450), here with a stack in the local data RAM; POP and POPA beyond LIMIT of SD15
enter the STKOVF trap, recorded as cause 4 (R416, R431), and a push at sp 0 stops the core with DBL, since the trap
entry could not push either (R433). -/
def Obligations.IzhamStack : Prop :=
  (∀ (s : State) (h : IzHead) (x y : BitVec 4),
    s.issues h (.fr .push x y) = true →
    (decide (0 < (s.core h.core).sp.toNat)) = true →
    (decide ((s.core h.core).sp.toNat - 1 < ((s.core h.core).desc 15).limit)) = true →
    ((s.core h.core).desc 15).inRam ((s.core h.core).sp.toNat - 1) = true →
    Gives (.izPush h x y) s (fun t =>
      (t.settled h.core).sp = (s.core h.core).sp - 1 ∧ (t.settled h.core).ramWord ((s.core h.core).desc 15) ((s.core h.core).sp.toNat - 1) = ((s.core h.core).reg y.toNat))) ∧
  (∀ (s : State) (h : IzHead) (x y : BitVec 4),
    s.issues h (.fr .pop x y) = true →
    (decide ((s.core h.core).sp.toNat < ((s.core h.core).desc 15).limit)) = true →
    ((s.core h.core).desc 15).inRam (s.core h.core).sp.toNat = true →
    Gives (.izPop h x y) s (fun t =>
      (t.settled h.core).sp = (s.core h.core).sp + 1 ∧ (t.settled h.core).reg x.toNat = (if x = 0 then 0 else (s.core h.core).ramWord ((s.core h.core).desc 15) (s.core h.core).sp.toNat))) ∧
  (∀ (s : State) (h : IzHead) (x y : BitVec 4),
    s.issues h (.fr .pusha x y) = true →
    (decide (3 ≤ (s.core h.core).sp.toNat)) = true →
    (decide ((s.core h.core).sp.toNat ≤ ((s.core h.core).desc 15).limit)) = true →
    ((s.core h.core).desc 15).inRam ((s.core h.core).sp.toNat - 1) = true →
    ((s.core h.core).desc 15).inRam ((s.core h.core).sp.toNat - 2) = true →
    ((s.core h.core).desc 15).inRam ((s.core h.core).sp.toNat - 3) = true →
    (((s.core h.core).desc 15).mode == 0) = true →
    Gives (.izPusha h x y) s (fun t =>
      (t.settled h.core).sp = (s.core h.core).sp - 3 ∧ (t.settled h.core).ramWord ((s.core h.core).desc 15) ((s.core h.core).sp.toNat - 1) = BitVec.ofNat 24 (accWord ((s.core h.core).acc y.toNat) 2) ∧ (t.settled h.core).ramWord ((s.core h.core).desc 15) ((s.core h.core).sp.toNat - 2) = BitVec.ofNat 24 (accWord ((s.core h.core).acc y.toNat) 1) ∧ (t.settled h.core).ramWord ((s.core h.core).desc 15) ((s.core h.core).sp.toNat - 3) = BitVec.ofNat 24 (accWord ((s.core h.core).acc y.toNat) 0))) ∧
  (∀ (s : State) (h : IzHead) (x y : BitVec 4),
    s.issues h (.fr .popa x y) = true →
    (decide ((s.core h.core).sp.toNat + 3 ≤ ((s.core h.core).desc 15).limit)) = true →
    ((s.core h.core).desc 15).inRam (s.core h.core).sp.toNat = true →
    ((s.core h.core).desc 15).inRam ((s.core h.core).sp.toNat + 1) = true →
    ((s.core h.core).desc 15).inRam ((s.core h.core).sp.toNat + 2) = true →
    (((s.core h.core).desc 15).mode == 0) = true →
    Gives (.izPopa h x y) s (fun t =>
      (t.settled h.core).sp = (s.core h.core).sp + 3 ∧ (t.settled h.core).acc y.toNat = BitVec.ofNat 56 (((s.core h.core).ramWord ((s.core h.core).desc 15) ((s.core h.core).sp.toNat + 0)).toNat + 2 ^ 24 * ((s.core h.core).ramWord ((s.core h.core).desc 15) ((s.core h.core).sp.toNat + 1)).toNat + 2 ^ 48 * (((s.core h.core).ramWord ((s.core h.core).desc 15) ((s.core h.core).sp.toNat + 2)).toNat % 256)))) ∧
  (∀ (s : State) (h : IzHead) (x y : BitVec 4),
    s.issues h (.fr .pop x y) = true →
    (decide (((s.core h.core).desc 15).limit ≤ (s.core h.core).sp.toNat)) = true →
    (s.settled h.core).entryOk = true →
    s.straight h.core h.pre = true →
    Gives (.izPop h x y) s (fun t =>
      Entered (s.settled h.core) 4 h.core s t ∧ Trapped (s.settled h.core) 4 h.core s t)) ∧
  (∀ (s : State) (h : IzHead) (x y : BitVec 4),
    s.issues h (.fr .popa x y) = true →
    (decide (((s.core h.core).desc 15).limit < (s.core h.core).sp.toNat + 3)) = true →
    (s.settled h.core).entryOk = true →
    s.straight h.core h.pre = true →
    Gives (.izPopa h x y) s (fun t =>
      Entered (s.settled h.core) 4 h.core s t ∧ Trapped (s.settled h.core) 4 h.core s t)) ∧
  (∀ (s : State) (h : IzHead) (x y : BitVec 4),
    s.issues h (.fr .push x y) = true →
    ((s.core h.core).sp.toNat == 0) = true →
    ((s.settled h.core).sp.toNat == 0) = true →
    Gives (.izPush h x y) s (fun t =>
      t.getF (SEQk_STAT_STATE h.core) = 2 ∧ t.getF (SEQk_STAT_DBL h.core) = 1)) ∧
  (∀ (s : State) (h : IzHead) (x y : BitVec 4),
    s.issues h (.fr .pusha x y) = true →
    ((s.core h.core).sp.toNat == 0) = true →
    ((s.settled h.core).sp.toNat == 0) = true →
    Gives (.izPusha h x y) s (fun t =>
      t.getF (SEQk_STAT_STATE h.core) = 2 ∧ t.getF (SEQk_STAT_DBL h.core) = 1))

/-- LD, LDX, LDC, ST, STX and STC that issue within LIMIT, aligned and permitted move the words of R414 and R416
between registers and the local data RAM or Marrow, little-endian in the segment's mode and, of a store, buffered by
R420 and seen by the core itself; with M = 1 the pointer takes its new offset (R455).  No other word of the RAM and no
other byte that the core sees changes.  LDP and ADDP write a pointer, and SYNC writes every buffered line to Marrow.
-/
def Obligations.IzhamLoadsAndStores : Prop :=
  (∀ (s : State) (h : IzHead) (g : BitVec 4) (m : BitVec 1) (n : BitVec 3) (x : BitVec 8),
    s.issues h (.fm .ld g m n x) = true →
    (decide ((if m = 1 then ((s.core h.core).ptr n.toNat).toNat else (((s.core h.core).ptr n.toNat) + (immOf h.pre x)).toNat) + 1 ≤ ((s.core h.core).desc ((segoOf h.pre).getD ((s.core h.core).bind n.toNat))).limit)) = true →
    (((s.core h.core).desc ((segoOf h.pre).getD ((s.core h.core).bind n.toNat))).inRam (if m = 1 then ((s.core h.core).ptr n.toNat).toNat else (((s.core h.core).ptr n.toNat) + (immOf h.pre x)).toNat)) = true →
    (((s.core h.core).desc ((segoOf h.pre).getD ((s.core h.core).bind n.toNat))).mode == 0) = true →
    Gives (.izLd h g m n x) s (fun t =>
      (t.settled h.core).reg g.toNat = (if g = 0 then 0 else (s.core h.core).ramWord ((s.core h.core).desc ((segoOf h.pre).getD ((s.core h.core).bind n.toNat))) (if m = 1 then ((s.core h.core).ptr n.toNat).toNat else (((s.core h.core).ptr n.toNat) + (immOf h.pre x)).toNat)) ∧ (m = 1 → (t.settled h.core).ptr n.toNat = ((s.core h.core).ptr n.toNat) + (immOf h.pre x)))) ∧
  (∀ (s : State) (h : IzHead) (g : BitVec 4) (m : BitVec 1) (n : BitVec 3) (x : BitVec 8),
    s.issues h (.fm .ld g m n x) = true →
    (decide ((if m = 1 then ((s.core h.core).ptr n.toNat).toNat else (((s.core h.core).ptr n.toNat) + (immOf h.pre x)).toNat) + 1 ≤ ((s.core h.core).desc ((segoOf h.pre).getD ((s.core h.core).bind n.toNat))).limit)) = true →
    (decide (((s.core h.core).desc ((segoOf h.pre).getD ((s.core h.core).bind n.toNat))).mode < 3)) = true →
    (decide ((((s.core h.core).desc ((segoOf h.pre).getD ((s.core h.core).bind n.toNat))).addr (if m = 1 then ((s.core h.core).ptr n.toNat).toNat else (((s.core h.core).ptr n.toNat) + (immOf h.pre x)).toNat)) + 1 * (modeBytes ((s.core h.core).desc ((segoOf h.pre).getD ((s.core h.core).bind n.toNat))).mode) ≤ marrowSize)) = true →
    s.flag MRW_STAT_INIT_DONE = true →
    h.replies.isEmpty = true →
    ((List.range 3).all (fun j => s.permits ⟨256 + h.core, 0, false, (((s.core h.core).desc ((segoOf h.pre).getD ((s.core h.core).bind n.toNat))).addr (if m = 1 then ((s.core h.core).ptr n.toNat).toNat else (((s.core h.core).ptr n.toNat) + (immOf h.pre x)).toNat)) / 64 * 64 + 64 * j, 64, []⟩)) = true →
    Gives (.izLd h g m n x) s (fun t =>
      (t.settled h.core).reg g.toNat = (if g = 0 then 0 else BitVec.ofNat 24 (natOf ((List.range (min 3 (modeBytes ((s.core h.core).desc ((segoOf h.pre).getD ((s.core h.core).bind n.toNat))).mode))).map fun j => s.izByte h.core ((((s.core h.core).desc ((segoOf h.pre).getD ((s.core h.core).bind n.toNat))).addr (if m = 1 then ((s.core h.core).ptr n.toNat).toNat else (((s.core h.core).ptr n.toNat) + (immOf h.pre x)).toNat)) + 0 + j)))) ∧ (m = 1 → (t.settled h.core).ptr n.toNat = ((s.core h.core).ptr n.toNat) + (immOf h.pre x)))) ∧
  (∀ (s : State) (h : IzHead) (g : BitVec 4) (m : BitVec 1) (n : BitVec 3) (x : BitVec 8),
    s.issues h (.fm .ldx g m n x) = true →
    (decide ((if m = 1 then ((s.core h.core).ptr n.toNat).toNat else (((s.core h.core).ptr n.toNat) + ((s.core h.core).reg (nibHi x).toNat)).toNat) + 1 ≤ ((s.core h.core).desc ((segoOf h.pre).getD ((s.core h.core).bind n.toNat))).limit)) = true →
    (((s.core h.core).desc ((segoOf h.pre).getD ((s.core h.core).bind n.toNat))).inRam (if m = 1 then ((s.core h.core).ptr n.toNat).toNat else (((s.core h.core).ptr n.toNat) + ((s.core h.core).reg (nibHi x).toNat)).toNat)) = true →
    (((s.core h.core).desc ((segoOf h.pre).getD ((s.core h.core).bind n.toNat))).mode == 0) = true →
    Gives (.izLdx h g m n x) s (fun t =>
      (t.settled h.core).reg g.toNat = (if g = 0 then 0 else (s.core h.core).ramWord ((s.core h.core).desc ((segoOf h.pre).getD ((s.core h.core).bind n.toNat))) (if m = 1 then ((s.core h.core).ptr n.toNat).toNat else (((s.core h.core).ptr n.toNat) + ((s.core h.core).reg (nibHi x).toNat)).toNat)) ∧ (m = 1 → (t.settled h.core).ptr n.toNat = ((s.core h.core).ptr n.toNat) + ((s.core h.core).reg (nibHi x).toNat)))) ∧
  (∀ (s : State) (h : IzHead) (g : BitVec 4) (m : BitVec 1) (n : BitVec 3) (x : BitVec 8),
    s.issues h (.fm .ldx g m n x) = true →
    (decide ((if m = 1 then ((s.core h.core).ptr n.toNat).toNat else (((s.core h.core).ptr n.toNat) + ((s.core h.core).reg (nibHi x).toNat)).toNat) + 1 ≤ ((s.core h.core).desc ((segoOf h.pre).getD ((s.core h.core).bind n.toNat))).limit)) = true →
    (decide (((s.core h.core).desc ((segoOf h.pre).getD ((s.core h.core).bind n.toNat))).mode < 3)) = true →
    (decide ((((s.core h.core).desc ((segoOf h.pre).getD ((s.core h.core).bind n.toNat))).addr (if m = 1 then ((s.core h.core).ptr n.toNat).toNat else (((s.core h.core).ptr n.toNat) + ((s.core h.core).reg (nibHi x).toNat)).toNat)) + 1 * (modeBytes ((s.core h.core).desc ((segoOf h.pre).getD ((s.core h.core).bind n.toNat))).mode) ≤ marrowSize)) = true →
    s.flag MRW_STAT_INIT_DONE = true →
    h.replies.isEmpty = true →
    ((List.range 3).all (fun j => s.permits ⟨256 + h.core, 0, false, (((s.core h.core).desc ((segoOf h.pre).getD ((s.core h.core).bind n.toNat))).addr (if m = 1 then ((s.core h.core).ptr n.toNat).toNat else (((s.core h.core).ptr n.toNat) + ((s.core h.core).reg (nibHi x).toNat)).toNat)) / 64 * 64 + 64 * j, 64, []⟩)) = true →
    Gives (.izLdx h g m n x) s (fun t =>
      (t.settled h.core).reg g.toNat = (if g = 0 then 0 else BitVec.ofNat 24 (natOf ((List.range (min 3 (modeBytes ((s.core h.core).desc ((segoOf h.pre).getD ((s.core h.core).bind n.toNat))).mode))).map fun j => s.izByte h.core ((((s.core h.core).desc ((segoOf h.pre).getD ((s.core h.core).bind n.toNat))).addr (if m = 1 then ((s.core h.core).ptr n.toNat).toNat else (((s.core h.core).ptr n.toNat) + ((s.core h.core).reg (nibHi x).toNat)).toNat)) + 0 + j)))) ∧ (m = 1 → (t.settled h.core).ptr n.toNat = ((s.core h.core).ptr n.toNat) + ((s.core h.core).reg (nibHi x).toNat)))) ∧
  (∀ (s : State) (h : IzHead) (g : BitVec 4) (m : BitVec 1) (n : BitVec 3) (x : BitVec 8),
    s.issues h (.fm .ldc g m n x) = true →
    (decide ((if m = 1 then ((s.core h.core).ptr n.toNat).toNat else (((s.core h.core).ptr n.toNat) + (immOf h.pre x)).toNat) + 2 ≤ ((s.core h.core).desc ((segoOf h.pre).getD ((s.core h.core).bind n.toNat))).limit)) = true →
    ((if m = 1 then ((s.core h.core).ptr n.toNat).toNat else (((s.core h.core).ptr n.toNat) + (immOf h.pre x)).toNat) % 2 == 0) = true →
    (((s.core h.core).desc ((segoOf h.pre).getD ((s.core h.core).bind n.toNat))).inRam (if m = 1 then ((s.core h.core).ptr n.toNat).toNat else (((s.core h.core).ptr n.toNat) + (immOf h.pre x)).toNat)) = true →
    (((s.core h.core).desc ((segoOf h.pre).getD ((s.core h.core).bind n.toNat))).mode == 0) = true →
    (((s.core h.core).desc ((segoOf h.pre).getD ((s.core h.core).bind n.toNat))).inRam ((if m = 1 then ((s.core h.core).ptr n.toNat).toNat else (((s.core h.core).ptr n.toNat) + (immOf h.pre x)).toNat) + 1)) = true →
    Gives (.izLdc h g m n x) s (fun t =>
      (t.settled h.core).reg (g.toNat + 1) = (s.core h.core).ramWord ((s.core h.core).desc ((segoOf h.pre).getD ((s.core h.core).bind n.toNat))) ((if m = 1 then ((s.core h.core).ptr n.toNat).toNat else (((s.core h.core).ptr n.toNat) + (immOf h.pre x)).toNat) + 1) ∧ (g ≠ 0 → (t.settled h.core).reg g.toNat = (s.core h.core).ramWord ((s.core h.core).desc ((segoOf h.pre).getD ((s.core h.core).bind n.toNat))) (if m = 1 then ((s.core h.core).ptr n.toNat).toNat else (((s.core h.core).ptr n.toNat) + (immOf h.pre x)).toNat)) ∧ (m = 1 → (t.settled h.core).ptr n.toNat = ((s.core h.core).ptr n.toNat) + (immOf h.pre x)))) ∧
  (∀ (s : State) (h : IzHead) (g : BitVec 4) (m : BitVec 1) (n : BitVec 3) (x : BitVec 8),
    s.issues h (.fm .ldc g m n x) = true →
    (decide ((if m = 1 then ((s.core h.core).ptr n.toNat).toNat else (((s.core h.core).ptr n.toNat) + (immOf h.pre x)).toNat) + 2 ≤ ((s.core h.core).desc ((segoOf h.pre).getD ((s.core h.core).bind n.toNat))).limit)) = true →
    ((if m = 1 then ((s.core h.core).ptr n.toNat).toNat else (((s.core h.core).ptr n.toNat) + (immOf h.pre x)).toNat) % 2 == 0) = true →
    (decide (((s.core h.core).desc ((segoOf h.pre).getD ((s.core h.core).bind n.toNat))).mode < 3)) = true →
    (decide ((((s.core h.core).desc ((segoOf h.pre).getD ((s.core h.core).bind n.toNat))).addr (if m = 1 then ((s.core h.core).ptr n.toNat).toNat else (((s.core h.core).ptr n.toNat) + (immOf h.pre x)).toNat)) + 2 * (modeBytes ((s.core h.core).desc ((segoOf h.pre).getD ((s.core h.core).bind n.toNat))).mode) ≤ marrowSize)) = true →
    s.flag MRW_STAT_INIT_DONE = true →
    h.replies.isEmpty = true →
    ((List.range 3).all (fun j => s.permits ⟨256 + h.core, 0, false, (((s.core h.core).desc ((segoOf h.pre).getD ((s.core h.core).bind n.toNat))).addr (if m = 1 then ((s.core h.core).ptr n.toNat).toNat else (((s.core h.core).ptr n.toNat) + (immOf h.pre x)).toNat)) / 64 * 64 + 64 * j, 64, []⟩)) = true →
    Gives (.izLdc h g m n x) s (fun t =>
      (t.settled h.core).reg (g.toNat + 1) = BitVec.ofNat 24 (natOf ((List.range (min 3 (modeBytes ((s.core h.core).desc ((segoOf h.pre).getD ((s.core h.core).bind n.toNat))).mode))).map fun j => s.izByte h.core ((((s.core h.core).desc ((segoOf h.pre).getD ((s.core h.core).bind n.toNat))).addr (if m = 1 then ((s.core h.core).ptr n.toNat).toNat else (((s.core h.core).ptr n.toNat) + (immOf h.pre x)).toNat)) + (modeBytes ((s.core h.core).desc ((segoOf h.pre).getD ((s.core h.core).bind n.toNat))).mode) + j))) ∧ (g ≠ 0 → (t.settled h.core).reg g.toNat = BitVec.ofNat 24 (natOf ((List.range (min 3 (modeBytes ((s.core h.core).desc ((segoOf h.pre).getD ((s.core h.core).bind n.toNat))).mode))).map fun j => s.izByte h.core ((((s.core h.core).desc ((segoOf h.pre).getD ((s.core h.core).bind n.toNat))).addr (if m = 1 then ((s.core h.core).ptr n.toNat).toNat else (((s.core h.core).ptr n.toNat) + (immOf h.pre x)).toNat)) + 0 + j)))) ∧ (m = 1 → (t.settled h.core).ptr n.toNat = ((s.core h.core).ptr n.toNat) + (immOf h.pre x)))) ∧
  (∀ (s : State) (h : IzHead) (g : BitVec 4) (m : BitVec 1) (n : BitVec 3) (x : BitVec 8),
    s.issues h (.fm .st g m n x) = true →
    (decide ((if m = 1 then ((s.core h.core).ptr n.toNat).toNat else (((s.core h.core).ptr n.toNat) + (immOf h.pre x)).toNat) + 1 ≤ ((s.core h.core).desc ((segoOf h.pre).getD ((s.core h.core).bind n.toNat))).limit)) = true →
    (!((s.core h.core).desc ((segoOf h.pre).getD ((s.core h.core).bind n.toNat))).wp) = true →
    (((s.core h.core).desc ((segoOf h.pre).getD ((s.core h.core).bind n.toNat))).inRam (if m = 1 then ((s.core h.core).ptr n.toNat).toNat else (((s.core h.core).ptr n.toNat) + (immOf h.pre x)).toNat)) = true →
    (((s.core h.core).desc ((segoOf h.pre).getD ((s.core h.core).bind n.toNat))).mode == 0) = true →
    Gives (.izSt h g m n x) s (fun t =>
      (t.settled h.core).ramWord ((s.core h.core).desc ((segoOf h.pre).getD ((s.core h.core).bind n.toNat))) (if m = 1 then ((s.core h.core).ptr n.toNat).toNat else (((s.core h.core).ptr n.toNat) + (immOf h.pre x)).toNat) = ((s.core h.core).reg g.toNat) ∧ (∀ j, j < (if m = 1 then ((s.core h.core).ptr n.toNat).toNat else (((s.core h.core).ptr n.toNat) + (immOf h.pre x)).toNat) ∨ (if m = 1 then ((s.core h.core).ptr n.toNat).toNat else (((s.core h.core).ptr n.toNat) + (immOf h.pre x)).toNat) + 1 ≤ j → ((s.core h.core).desc ((segoOf h.pre).getD ((s.core h.core).bind n.toNat))).inRam j = true → (t.settled h.core).ramWord ((s.core h.core).desc ((segoOf h.pre).getD ((s.core h.core).bind n.toNat))) j = (s.core h.core).ramWord ((s.core h.core).desc ((segoOf h.pre).getD ((s.core h.core).bind n.toNat))) j) ∧ (m = 1 → (t.settled h.core).ptr n.toNat = ((s.core h.core).ptr n.toNat) + (immOf h.pre x)))) ∧
  (∀ (s : State) (h : IzHead) (g : BitVec 4) (m : BitVec 1) (n : BitVec 3) (x : BitVec 8),
    s.issues h (.fm .st g m n x) = true →
    (decide ((if m = 1 then ((s.core h.core).ptr n.toNat).toNat else (((s.core h.core).ptr n.toNat) + (immOf h.pre x)).toNat) + 1 ≤ ((s.core h.core).desc ((segoOf h.pre).getD ((s.core h.core).bind n.toNat))).limit)) = true →
    (!((s.core h.core).desc ((segoOf h.pre).getD ((s.core h.core).bind n.toNat))).wp) = true →
    (decide (((s.core h.core).desc ((segoOf h.pre).getD ((s.core h.core).bind n.toNat))).mode < 3)) = true →
    (decide ((((s.core h.core).desc ((segoOf h.pre).getD ((s.core h.core).bind n.toNat))).addr (if m = 1 then ((s.core h.core).ptr n.toNat).toNat else (((s.core h.core).ptr n.toNat) + (immOf h.pre x)).toNat)) + 1 * (modeBytes ((s.core h.core).desc ((segoOf h.pre).getD ((s.core h.core).bind n.toNat))).mode) ≤ marrowSize)) = true →
    (s.core h.core).wc.isEmpty = true →
    Gives (.izSt h g m n x) s (fun t =>
      (List.range ((modeBytes ((s.core h.core).desc ((segoOf h.pre).getD ((s.core h.core).bind n.toNat))).mode))).all (fun j => t.izByte h.core ((((s.core h.core).desc ((segoOf h.pre).getD ((s.core h.core).bind n.toNat))).addr (if m = 1 then ((s.core h.core).ptr n.toNat).toNat else (((s.core h.core).ptr n.toNat) + (immOf h.pre x)).toNat)) + j) == (wordBytes ((s.core h.core).desc ((segoOf h.pre).getD ((s.core h.core).bind n.toNat))).mode ((s.core h.core).reg g.toNat).toNat).getD j 0) = true ∧ (∀ a, a < (((s.core h.core).desc ((segoOf h.pre).getD ((s.core h.core).bind n.toNat))).addr (if m = 1 then ((s.core h.core).ptr n.toNat).toNat else (((s.core h.core).ptr n.toNat) + (immOf h.pre x)).toNat)) ∨ (((s.core h.core).desc ((segoOf h.pre).getD ((s.core h.core).bind n.toNat))).addr (if m = 1 then ((s.core h.core).ptr n.toNat).toNat else (((s.core h.core).ptr n.toNat) + (immOf h.pre x)).toNat)) + 1 * (modeBytes ((s.core h.core).desc ((segoOf h.pre).getD ((s.core h.core).bind n.toNat))).mode) ≤ a → t.izByte h.core a = s.izByte h.core a) ∧ SameMarrow s t ∧ (m = 1 → (t.settled h.core).ptr n.toNat = ((s.core h.core).ptr n.toNat) + (immOf h.pre x)))) ∧
  (∀ (s : State) (h : IzHead) (g : BitVec 4) (m : BitVec 1) (n : BitVec 3) (x : BitVec 8),
    s.issues h (.fm .stx g m n x) = true →
    (decide ((if m = 1 then ((s.core h.core).ptr n.toNat).toNat else (((s.core h.core).ptr n.toNat) + ((s.core h.core).reg (nibHi x).toNat)).toNat) + 1 ≤ ((s.core h.core).desc ((segoOf h.pre).getD ((s.core h.core).bind n.toNat))).limit)) = true →
    (!((s.core h.core).desc ((segoOf h.pre).getD ((s.core h.core).bind n.toNat))).wp) = true →
    (((s.core h.core).desc ((segoOf h.pre).getD ((s.core h.core).bind n.toNat))).inRam (if m = 1 then ((s.core h.core).ptr n.toNat).toNat else (((s.core h.core).ptr n.toNat) + ((s.core h.core).reg (nibHi x).toNat)).toNat)) = true →
    (((s.core h.core).desc ((segoOf h.pre).getD ((s.core h.core).bind n.toNat))).mode == 0) = true →
    Gives (.izStx h g m n x) s (fun t =>
      (t.settled h.core).ramWord ((s.core h.core).desc ((segoOf h.pre).getD ((s.core h.core).bind n.toNat))) (if m = 1 then ((s.core h.core).ptr n.toNat).toNat else (((s.core h.core).ptr n.toNat) + ((s.core h.core).reg (nibHi x).toNat)).toNat) = ((s.core h.core).reg g.toNat) ∧ (∀ j, j < (if m = 1 then ((s.core h.core).ptr n.toNat).toNat else (((s.core h.core).ptr n.toNat) + ((s.core h.core).reg (nibHi x).toNat)).toNat) ∨ (if m = 1 then ((s.core h.core).ptr n.toNat).toNat else (((s.core h.core).ptr n.toNat) + ((s.core h.core).reg (nibHi x).toNat)).toNat) + 1 ≤ j → ((s.core h.core).desc ((segoOf h.pre).getD ((s.core h.core).bind n.toNat))).inRam j = true → (t.settled h.core).ramWord ((s.core h.core).desc ((segoOf h.pre).getD ((s.core h.core).bind n.toNat))) j = (s.core h.core).ramWord ((s.core h.core).desc ((segoOf h.pre).getD ((s.core h.core).bind n.toNat))) j) ∧ (m = 1 → (t.settled h.core).ptr n.toNat = ((s.core h.core).ptr n.toNat) + ((s.core h.core).reg (nibHi x).toNat)))) ∧
  (∀ (s : State) (h : IzHead) (g : BitVec 4) (m : BitVec 1) (n : BitVec 3) (x : BitVec 8),
    s.issues h (.fm .stx g m n x) = true →
    (decide ((if m = 1 then ((s.core h.core).ptr n.toNat).toNat else (((s.core h.core).ptr n.toNat) + ((s.core h.core).reg (nibHi x).toNat)).toNat) + 1 ≤ ((s.core h.core).desc ((segoOf h.pre).getD ((s.core h.core).bind n.toNat))).limit)) = true →
    (!((s.core h.core).desc ((segoOf h.pre).getD ((s.core h.core).bind n.toNat))).wp) = true →
    (decide (((s.core h.core).desc ((segoOf h.pre).getD ((s.core h.core).bind n.toNat))).mode < 3)) = true →
    (decide ((((s.core h.core).desc ((segoOf h.pre).getD ((s.core h.core).bind n.toNat))).addr (if m = 1 then ((s.core h.core).ptr n.toNat).toNat else (((s.core h.core).ptr n.toNat) + ((s.core h.core).reg (nibHi x).toNat)).toNat)) + 1 * (modeBytes ((s.core h.core).desc ((segoOf h.pre).getD ((s.core h.core).bind n.toNat))).mode) ≤ marrowSize)) = true →
    (s.core h.core).wc.isEmpty = true →
    Gives (.izStx h g m n x) s (fun t =>
      (List.range ((modeBytes ((s.core h.core).desc ((segoOf h.pre).getD ((s.core h.core).bind n.toNat))).mode))).all (fun j => t.izByte h.core ((((s.core h.core).desc ((segoOf h.pre).getD ((s.core h.core).bind n.toNat))).addr (if m = 1 then ((s.core h.core).ptr n.toNat).toNat else (((s.core h.core).ptr n.toNat) + ((s.core h.core).reg (nibHi x).toNat)).toNat)) + j) == (wordBytes ((s.core h.core).desc ((segoOf h.pre).getD ((s.core h.core).bind n.toNat))).mode ((s.core h.core).reg g.toNat).toNat).getD j 0) = true ∧ (∀ a, a < (((s.core h.core).desc ((segoOf h.pre).getD ((s.core h.core).bind n.toNat))).addr (if m = 1 then ((s.core h.core).ptr n.toNat).toNat else (((s.core h.core).ptr n.toNat) + ((s.core h.core).reg (nibHi x).toNat)).toNat)) ∨ (((s.core h.core).desc ((segoOf h.pre).getD ((s.core h.core).bind n.toNat))).addr (if m = 1 then ((s.core h.core).ptr n.toNat).toNat else (((s.core h.core).ptr n.toNat) + ((s.core h.core).reg (nibHi x).toNat)).toNat)) + 1 * (modeBytes ((s.core h.core).desc ((segoOf h.pre).getD ((s.core h.core).bind n.toNat))).mode) ≤ a → t.izByte h.core a = s.izByte h.core a) ∧ SameMarrow s t ∧ (m = 1 → (t.settled h.core).ptr n.toNat = ((s.core h.core).ptr n.toNat) + ((s.core h.core).reg (nibHi x).toNat)))) ∧
  (∀ (s : State) (h : IzHead) (g : BitVec 4) (m : BitVec 1) (n : BitVec 3) (x : BitVec 8),
    s.issues h (.fm .stc g m n x) = true →
    (decide ((if m = 1 then ((s.core h.core).ptr n.toNat).toNat else (((s.core h.core).ptr n.toNat) + (immOf h.pre x)).toNat) + 2 ≤ ((s.core h.core).desc ((segoOf h.pre).getD ((s.core h.core).bind n.toNat))).limit)) = true →
    ((if m = 1 then ((s.core h.core).ptr n.toNat).toNat else (((s.core h.core).ptr n.toNat) + (immOf h.pre x)).toNat) % 2 == 0) = true →
    (!((s.core h.core).desc ((segoOf h.pre).getD ((s.core h.core).bind n.toNat))).wp) = true →
    (((s.core h.core).desc ((segoOf h.pre).getD ((s.core h.core).bind n.toNat))).inRam (if m = 1 then ((s.core h.core).ptr n.toNat).toNat else (((s.core h.core).ptr n.toNat) + (immOf h.pre x)).toNat)) = true →
    (((s.core h.core).desc ((segoOf h.pre).getD ((s.core h.core).bind n.toNat))).mode == 0) = true →
    (((s.core h.core).desc ((segoOf h.pre).getD ((s.core h.core).bind n.toNat))).inRam ((if m = 1 then ((s.core h.core).ptr n.toNat).toNat else (((s.core h.core).ptr n.toNat) + (immOf h.pre x)).toNat) + 1)) = true →
    Gives (.izStc h g m n x) s (fun t =>
      (t.settled h.core).ramWord ((s.core h.core).desc ((segoOf h.pre).getD ((s.core h.core).bind n.toNat))) (if m = 1 then ((s.core h.core).ptr n.toNat).toNat else (((s.core h.core).ptr n.toNat) + (immOf h.pre x)).toNat) = ((s.core h.core).reg g.toNat) ∧ (t.settled h.core).ramWord ((s.core h.core).desc ((segoOf h.pre).getD ((s.core h.core).bind n.toNat))) ((if m = 1 then ((s.core h.core).ptr n.toNat).toNat else (((s.core h.core).ptr n.toNat) + (immOf h.pre x)).toNat) + 1) = (s.core h.core).reg (g.toNat + 1) ∧ (∀ j, j < (if m = 1 then ((s.core h.core).ptr n.toNat).toNat else (((s.core h.core).ptr n.toNat) + (immOf h.pre x)).toNat) ∨ (if m = 1 then ((s.core h.core).ptr n.toNat).toNat else (((s.core h.core).ptr n.toNat) + (immOf h.pre x)).toNat) + 2 ≤ j → ((s.core h.core).desc ((segoOf h.pre).getD ((s.core h.core).bind n.toNat))).inRam j = true → (t.settled h.core).ramWord ((s.core h.core).desc ((segoOf h.pre).getD ((s.core h.core).bind n.toNat))) j = (s.core h.core).ramWord ((s.core h.core).desc ((segoOf h.pre).getD ((s.core h.core).bind n.toNat))) j) ∧ (m = 1 → (t.settled h.core).ptr n.toNat = ((s.core h.core).ptr n.toNat) + (immOf h.pre x)))) ∧
  (∀ (s : State) (h : IzHead) (g : BitVec 4) (m : BitVec 1) (n : BitVec 3) (x : BitVec 8),
    s.issues h (.fm .stc g m n x) = true →
    (decide ((if m = 1 then ((s.core h.core).ptr n.toNat).toNat else (((s.core h.core).ptr n.toNat) + (immOf h.pre x)).toNat) + 2 ≤ ((s.core h.core).desc ((segoOf h.pre).getD ((s.core h.core).bind n.toNat))).limit)) = true →
    ((if m = 1 then ((s.core h.core).ptr n.toNat).toNat else (((s.core h.core).ptr n.toNat) + (immOf h.pre x)).toNat) % 2 == 0) = true →
    (!((s.core h.core).desc ((segoOf h.pre).getD ((s.core h.core).bind n.toNat))).wp) = true →
    (decide (((s.core h.core).desc ((segoOf h.pre).getD ((s.core h.core).bind n.toNat))).mode < 3)) = true →
    (decide ((((s.core h.core).desc ((segoOf h.pre).getD ((s.core h.core).bind n.toNat))).addr (if m = 1 then ((s.core h.core).ptr n.toNat).toNat else (((s.core h.core).ptr n.toNat) + (immOf h.pre x)).toNat)) + 2 * (modeBytes ((s.core h.core).desc ((segoOf h.pre).getD ((s.core h.core).bind n.toNat))).mode) ≤ marrowSize)) = true →
    (s.core h.core).wc.isEmpty = true →
    Gives (.izStc h g m n x) s (fun t =>
      (List.range ((modeBytes ((s.core h.core).desc ((segoOf h.pre).getD ((s.core h.core).bind n.toNat))).mode))).all (fun j => t.izByte h.core ((((s.core h.core).desc ((segoOf h.pre).getD ((s.core h.core).bind n.toNat))).addr (if m = 1 then ((s.core h.core).ptr n.toNat).toNat else (((s.core h.core).ptr n.toNat) + (immOf h.pre x)).toNat)) + j) == (wordBytes ((s.core h.core).desc ((segoOf h.pre).getD ((s.core h.core).bind n.toNat))).mode ((s.core h.core).reg g.toNat).toNat).getD j 0) = true ∧ (List.range ((modeBytes ((s.core h.core).desc ((segoOf h.pre).getD ((s.core h.core).bind n.toNat))).mode))).all (fun j => t.izByte h.core ((((s.core h.core).desc ((segoOf h.pre).getD ((s.core h.core).bind n.toNat))).addr (if m = 1 then ((s.core h.core).ptr n.toNat).toNat else (((s.core h.core).ptr n.toNat) + (immOf h.pre x)).toNat)) + (modeBytes ((s.core h.core).desc ((segoOf h.pre).getD ((s.core h.core).bind n.toNat))).mode) + j) == (wordBytes ((s.core h.core).desc ((segoOf h.pre).getD ((s.core h.core).bind n.toNat))).mode ((s.core h.core).reg (g.toNat + 1)).toNat).getD j 0) = true ∧ (∀ a, a < (((s.core h.core).desc ((segoOf h.pre).getD ((s.core h.core).bind n.toNat))).addr (if m = 1 then ((s.core h.core).ptr n.toNat).toNat else (((s.core h.core).ptr n.toNat) + (immOf h.pre x)).toNat)) ∨ (((s.core h.core).desc ((segoOf h.pre).getD ((s.core h.core).bind n.toNat))).addr (if m = 1 then ((s.core h.core).ptr n.toNat).toNat else (((s.core h.core).ptr n.toNat) + (immOf h.pre x)).toNat)) + 2 * (modeBytes ((s.core h.core).desc ((segoOf h.pre).getD ((s.core h.core).bind n.toNat))).mode) ≤ a → t.izByte h.core a = s.izByte h.core a) ∧ SameMarrow s t ∧ (m = 1 → (t.settled h.core).ptr n.toNat = ((s.core h.core).ptr n.toNat) + (immOf h.pre x)))) ∧
  (∀ (s : State) (h : IzHead) (g : BitVec 4) (m : BitVec 1) (n : BitVec 3) (x : BitVec 8),
    s.issues h (.fm .ldp g m n x) = true →
    Gives (.izLdp h g m n x) s (fun t =>
      (t.settled h.core).ptr n.toNat = ((s.core h.core).reg g.toNat) ∧ (t.settled h.core).bind n.toNat = (nibHi x).toNat)) ∧
  (∀ (s : State) (h : IzHead) (g : BitVec 4) (m : BitVec 1) (n : BitVec 3) (x : BitVec 8),
    s.issues h (.fm .addp g m n x) = true →
    Gives (.izAddp h g m n x) s (fun t =>
      (t.settled h.core).ptr n.toNat = ((s.core h.core).ptr n.toNat) + immOf h.pre x)) ∧
  (∀ (s : State) (h : IzHead),
    s.issues h (.f0 .sync) = true →
    (decide ((s.core h.core).wc.length ≤ 8)) = true →
    h.replies.isEmpty = true →
    s.flag MRW_STAT_INIT_DONE = true →
    ((s.core h.core).wc.all (fun l => s.permits ⟨256 + h.core, 0, true, l.addr, 64, []⟩)) = true →
    ((s.core h.core).wc.all (fun l => l.addr % 64 == 0 && l.bytes.all fun p => p.1 < 64)) = true →
    decide (((s.core h.core).wc.map (·.addr)).Nodup) = true →
    ((s.core h.core).wc.all (fun l => decide ((l.bytes.map (·.1)).Nodup))) = true →
    Gives (.izSync h) s (fun t =>
      (t.core h.core).wc = [] ∧ (∀ a, memGet t.mem a = s.izByte h.core a)))

/-- Each FA instruction that issues writes the accumulator, or EXT the register, that R448, R452 and R453 give,
wrapped or saturated (R409), and a result out of range sets AOV; accumulations build on the last accumulation in
flight (R428); MACP, CMAC and CMACJ read the words at two pointers, here in the local data RAM, and step both. -/
def Obligations.IzhamAccumulators : Prop :=
  (∀ (s : State) (h : IzHead) (b1 : BitVec 8) (k : BitVec 2) (x : BitVec 6),
    s.issues h (.fa .mpy b1 k x) = true →
    Gives (.izMpy h b1 k x) s (fun t =>
      (t.settled h.core).acc (k.toNat) = BitVec.ofInt 56 (2 * ((s.core h.core).reg (nibHi b1).toNat).toInt * ((s.core h.core).reg (nibLo b1).toNat).toInt) ∧ (2 * ((s.core h.core).reg (nibHi b1).toNat).toInt * ((s.core h.core).reg (nibLo b1).toNat).toInt < -(2 ^ 55) ∨ 2 ^ 55 ≤ 2 * ((s.core h.core).reg (nibHi b1).toNat).toInt * ((s.core h.core).reg (nibLo b1).toNat).toInt → sget noBit (t.settled h.core).aov (k.toNat) = true))) ∧
  (∀ (s : State) (h : IzHead) (b1 : BitVec 8) (k : BitVec 2) (x : BitVec 6),
    s.issues h (.fa .mac b1 k x) = true →
    Gives (.izMac h b1 k x) s (fun t =>
      (t.settled h.core).acc (k.toNat) = BitVec.ofInt 56 (if h.pre.contains .sat then clampInt (-(2 ^ 55)) (2 ^ 55 - 1) (((s.core h.core).accNow k.toNat).toInt + 2 * ((s.core h.core).reg (nibHi b1).toNat).toInt * ((s.core h.core).reg (nibLo b1).toNat).toInt) else ((s.core h.core).accNow k.toNat).toInt + 2 * ((s.core h.core).reg (nibHi b1).toNat).toInt * ((s.core h.core).reg (nibLo b1).toNat).toInt) ∧ (((s.core h.core).accNow k.toNat).toInt + 2 * ((s.core h.core).reg (nibHi b1).toNat).toInt * ((s.core h.core).reg (nibLo b1).toNat).toInt < -(2 ^ 55) ∨ 2 ^ 55 ≤ ((s.core h.core).accNow k.toNat).toInt + 2 * ((s.core h.core).reg (nibHi b1).toNat).toInt * ((s.core h.core).reg (nibLo b1).toNat).toInt → sget noBit (t.settled h.core).aov (k.toNat) = true))) ∧
  (∀ (s : State) (h : IzHead) (b1 : BitVec 8) (k : BitVec 2) (x : BitVec 6),
    s.issues h (.fa .msu b1 k x) = true →
    Gives (.izMsu h b1 k x) s (fun t =>
      (t.settled h.core).acc (k.toNat) = BitVec.ofInt 56 (if h.pre.contains .sat then clampInt (-(2 ^ 55)) (2 ^ 55 - 1) (((s.core h.core).accNow k.toNat).toInt - 2 * ((s.core h.core).reg (nibHi b1).toNat).toInt * ((s.core h.core).reg (nibLo b1).toNat).toInt) else ((s.core h.core).accNow k.toNat).toInt - 2 * ((s.core h.core).reg (nibHi b1).toNat).toInt * ((s.core h.core).reg (nibLo b1).toNat).toInt) ∧ (((s.core h.core).accNow k.toNat).toInt - 2 * ((s.core h.core).reg (nibHi b1).toNat).toInt * ((s.core h.core).reg (nibLo b1).toNat).toInt < -(2 ^ 55) ∨ 2 ^ 55 ≤ ((s.core h.core).accNow k.toNat).toInt - 2 * ((s.core h.core).reg (nibHi b1).toNat).toInt * ((s.core h.core).reg (nibLo b1).toNat).toInt → sget noBit (t.settled h.core).aov (k.toNat) = true))) ∧
  (∀ (s : State) (h : IzHead) (b1 : BitVec 8) (k : BitVec 2) (x : BitVec 6),
    s.issues h (.fa .clra b1 k x) = true →
    Gives (.izClra h b1 k x) s (fun t =>
      (t.settled h.core).acc (k.toNat) = BitVec.ofInt 56 ((0 : Int)) ∧ ((0 : Int) < -(2 ^ 55) ∨ 2 ^ 55 ≤ (0 : Int) → sget noBit (t.settled h.core).aov (k.toNat) = true))) ∧
  (∀ (s : State) (h : IzHead) (b1 : BitVec 8) (k : BitVec 2) (x : BitVec 6),
    s.issues h (.fa .mova b1 k x) = true →
    Gives (.izMova h b1 k x) s (fun t =>
      (t.settled h.core).acc (k.toNat) = BitVec.ofInt 56 (((s.core h.core).reg (nibHi b1).toNat).toInt * 2 ^ 24) ∧ (((s.core h.core).reg (nibHi b1).toNat).toInt * 2 ^ 24 < -(2 ^ 55) ∨ 2 ^ 55 ≤ ((s.core h.core).reg (nibHi b1).toNat).toInt * 2 ^ 24 → sget noBit (t.settled h.core).aov (k.toNat) = true))) ∧
  (∀ (s : State) (h : IzHead) (b1 : BitVec 8) (k : BitVec 2) (x : BitVec 6),
    s.issues h (.fa .adda b1 k x) = true →
    Gives (.izAdda h b1 k x) s (fun t =>
      (t.settled h.core).acc (k.toNat) = BitVec.ofInt 56 (if h.pre.contains .sat then clampInt (-(2 ^ 55)) (2 ^ 55 - 1) (((s.core h.core).acc k.toNat).toInt + ((s.core h.core).acc (x.toNat / 16)).toInt) else ((s.core h.core).acc k.toNat).toInt + ((s.core h.core).acc (x.toNat / 16)).toInt) ∧ (((s.core h.core).acc k.toNat).toInt + ((s.core h.core).acc (x.toNat / 16)).toInt < -(2 ^ 55) ∨ 2 ^ 55 ≤ ((s.core h.core).acc k.toNat).toInt + ((s.core h.core).acc (x.toNat / 16)).toInt → sget noBit (t.settled h.core).aov (k.toNat) = true))) ∧
  (∀ (s : State) (h : IzHead) (b1 : BitVec 8) (k : BitVec 2) (x : BitVec 6),
    s.issues h (.fa .sha b1 k x) = true →
    Gives (.izSha h b1 k x) s (fun t =>
      (t.settled h.core).acc (k.toNat) = BitVec.ofInt 56 (if h.pre.contains .sat then clampInt (-(2 ^ 55)) (2 ^ 55 - 1) ((if 0 ≤ (x.extractLsb' 0 5).toInt then ((s.core h.core).acc k.toNat).toInt * 2 ^ (x.extractLsb' 0 5).toInt.toNat else ((s.core h.core).acc k.toNat).toInt / 2 ^ (-(x.extractLsb' 0 5).toInt).toNat)) else (if 0 ≤ (x.extractLsb' 0 5).toInt then ((s.core h.core).acc k.toNat).toInt * 2 ^ (x.extractLsb' 0 5).toInt.toNat else ((s.core h.core).acc k.toNat).toInt / 2 ^ (-(x.extractLsb' 0 5).toInt).toNat)) ∧ ((if 0 ≤ (x.extractLsb' 0 5).toInt then ((s.core h.core).acc k.toNat).toInt * 2 ^ (x.extractLsb' 0 5).toInt.toNat else ((s.core h.core).acc k.toNat).toInt / 2 ^ (-(x.extractLsb' 0 5).toInt).toNat) < -(2 ^ 55) ∨ 2 ^ 55 ≤ (if 0 ≤ (x.extractLsb' 0 5).toInt then ((s.core h.core).acc k.toNat).toInt * 2 ^ (x.extractLsb' 0 5).toInt.toNat else ((s.core h.core).acc k.toNat).toInt / 2 ^ (-(x.extractLsb' 0 5).toInt).toNat) → sget noBit (t.settled h.core).aov (k.toNat) = true))) ∧
  (∀ (s : State) (h : IzHead) (b1 : BitVec 8) (k : BitVec 2) (x : BitVec 6),
    s.issues h (.fa .ext b1 k x) = true →
    Gives (.izExt h b1 k x) s (fun t =>
      (t.settled h.core).reg (nibHi b1).toNat = if (nibHi b1).toNat = 0 then 0 else (if h.pre.contains .sat then BitVec.ofInt 24 (clampInt (-8388608) 8388607 (roundEven (((s.core h.core).acc k.toNat).toInt * 2 ^ ((x.extractLsb' 0 5).toInt + 16).toNat) (2 ^ 40))) else BitVec.ofInt 24 (roundEven (((s.core h.core).acc k.toNat).toInt * 2 ^ ((x.extractLsb' 0 5).toInt + 16).toNat) (2 ^ 40))))) ∧
  (∀ (s : State) (h : IzHead) (b1 : BitVec 8) (k : BitVec 2) (x : BitVec 6),
    s.issues h (.fa .macp b1 k x) = true →
    (decide (((s.core h.core).ptr (b1.toNat / 16)).toNat + 1 ≤ ((s.core h.core).desc ((s.core h.core).bind (b1.toNat / 16))).limit)) = true →
    ((s.core h.core).desc ((s.core h.core).bind (b1.toNat / 16))).inRam ((s.core h.core).ptr (b1.toNat / 16)).toNat = true →
    (decide (((s.core h.core).ptr (b1.toNat % 16)).toNat + 1 ≤ ((s.core h.core).desc ((s.core h.core).bind (b1.toNat % 16))).limit)) = true →
    ((s.core h.core).desc ((s.core h.core).bind (b1.toNat % 16))).inRam ((s.core h.core).ptr (b1.toNat % 16)).toNat = true →
    ((b1.toNat / 16) != (b1.toNat % 16)) = true →
    Gives (.izMacp h b1 k x) s (fun t =>
      (t.settled h.core).acc (k.toNat) = BitVec.ofInt 56 (if h.pre.contains .sat then clampInt (-(2 ^ 55)) (2 ^ 55 - 1) (((s.core h.core).accNow k.toNat).toInt + 2 * ((s.core h.core).ramWord ((s.core h.core).desc ((s.core h.core).bind (b1.toNat / 16))) (((s.core h.core).ptr (b1.toNat / 16)).toNat)).toInt * ((s.core h.core).ramWord ((s.core h.core).desc ((s.core h.core).bind (b1.toNat % 16))) (((s.core h.core).ptr (b1.toNat % 16)).toNat)).toInt) else ((s.core h.core).accNow k.toNat).toInt + 2 * ((s.core h.core).ramWord ((s.core h.core).desc ((s.core h.core).bind (b1.toNat / 16))) (((s.core h.core).ptr (b1.toNat / 16)).toNat)).toInt * ((s.core h.core).ramWord ((s.core h.core).desc ((s.core h.core).bind (b1.toNat % 16))) (((s.core h.core).ptr (b1.toNat % 16)).toNat)).toInt) ∧ (t.settled h.core).ptr (b1.toNat / 16) = (s.core h.core).ptr (b1.toNat / 16) + 1 ∧ (t.settled h.core).ptr (b1.toNat % 16) = (s.core h.core).ptr (b1.toNat % 16) + 1)) ∧
  (∀ (s : State) (h : IzHead) (b1 : BitVec 8) (k : BitVec 2) (x : BitVec 6),
    s.issues h (.fa .cmac b1 k x) = true →
    (decide (((s.core h.core).ptr (b1.toNat / 16)).toNat + 2 ≤ ((s.core h.core).desc ((s.core h.core).bind (b1.toNat / 16))).limit)) = true →
    ((s.core h.core).desc ((s.core h.core).bind (b1.toNat / 16))).inRam ((s.core h.core).ptr (b1.toNat / 16)).toNat = true →
    (((s.core h.core).ptr (b1.toNat / 16)).toNat % 2 == 0) = true →
    (((s.core h.core).desc ((s.core h.core).bind (b1.toNat / 16))).mode == 0) = true →
    (decide (((s.core h.core).ptr (b1.toNat % 16)).toNat + 2 ≤ ((s.core h.core).desc ((s.core h.core).bind (b1.toNat % 16))).limit)) = true →
    ((s.core h.core).desc ((s.core h.core).bind (b1.toNat % 16))).inRam ((s.core h.core).ptr (b1.toNat % 16)).toNat = true →
    (((s.core h.core).ptr (b1.toNat % 16)).toNat % 2 == 0) = true →
    (((s.core h.core).desc ((s.core h.core).bind (b1.toNat % 16))).mode == 0) = true →
    ((b1.toNat / 16) != (b1.toNat % 16)) = true →
    Gives (.izCmac h b1 k x) s (fun t =>
      (t.settled h.core).acc (k.toNat) = BitVec.ofInt 56 (if h.pre.contains .sat then clampInt (-(2 ^ 55)) (2 ^ 55 - 1) (((s.core h.core).accNow k.toNat).toInt + (2 * ((s.core h.core).ramWord ((s.core h.core).desc ((s.core h.core).bind (b1.toNat / 16))) (((s.core h.core).ptr (b1.toNat / 16)).toNat)).toInt * ((s.core h.core).ramWord ((s.core h.core).desc ((s.core h.core).bind (b1.toNat % 16))) (((s.core h.core).ptr (b1.toNat % 16)).toNat)).toInt - 2 * ((s.core h.core).ramWord ((s.core h.core).desc ((s.core h.core).bind (b1.toNat / 16))) (((s.core h.core).ptr (b1.toNat / 16)).toNat + 1)).toInt * ((s.core h.core).ramWord ((s.core h.core).desc ((s.core h.core).bind (b1.toNat % 16))) (((s.core h.core).ptr (b1.toNat % 16)).toNat + 1)).toInt)) else ((s.core h.core).accNow k.toNat).toInt + (2 * ((s.core h.core).ramWord ((s.core h.core).desc ((s.core h.core).bind (b1.toNat / 16))) (((s.core h.core).ptr (b1.toNat / 16)).toNat)).toInt * ((s.core h.core).ramWord ((s.core h.core).desc ((s.core h.core).bind (b1.toNat % 16))) (((s.core h.core).ptr (b1.toNat % 16)).toNat)).toInt - 2 * ((s.core h.core).ramWord ((s.core h.core).desc ((s.core h.core).bind (b1.toNat / 16))) (((s.core h.core).ptr (b1.toNat / 16)).toNat + 1)).toInt * ((s.core h.core).ramWord ((s.core h.core).desc ((s.core h.core).bind (b1.toNat % 16))) (((s.core h.core).ptr (b1.toNat % 16)).toNat + 1)).toInt)) ∧ (t.settled h.core).acc (k.toNat + 1) = BitVec.ofInt 56 (if h.pre.contains .sat then clampInt (-(2 ^ 55)) (2 ^ 55 - 1) (((s.core h.core).accNow (k.toNat + 1)).toInt + (2 * ((s.core h.core).ramWord ((s.core h.core).desc ((s.core h.core).bind (b1.toNat / 16))) (((s.core h.core).ptr (b1.toNat / 16)).toNat)).toInt * ((s.core h.core).ramWord ((s.core h.core).desc ((s.core h.core).bind (b1.toNat % 16))) (((s.core h.core).ptr (b1.toNat % 16)).toNat + 1)).toInt + 2 * ((s.core h.core).ramWord ((s.core h.core).desc ((s.core h.core).bind (b1.toNat / 16))) (((s.core h.core).ptr (b1.toNat / 16)).toNat + 1)).toInt * ((s.core h.core).ramWord ((s.core h.core).desc ((s.core h.core).bind (b1.toNat % 16))) (((s.core h.core).ptr (b1.toNat % 16)).toNat)).toInt)) else ((s.core h.core).accNow (k.toNat + 1)).toInt + (2 * ((s.core h.core).ramWord ((s.core h.core).desc ((s.core h.core).bind (b1.toNat / 16))) (((s.core h.core).ptr (b1.toNat / 16)).toNat)).toInt * ((s.core h.core).ramWord ((s.core h.core).desc ((s.core h.core).bind (b1.toNat % 16))) (((s.core h.core).ptr (b1.toNat % 16)).toNat + 1)).toInt + 2 * ((s.core h.core).ramWord ((s.core h.core).desc ((s.core h.core).bind (b1.toNat / 16))) (((s.core h.core).ptr (b1.toNat / 16)).toNat + 1)).toInt * ((s.core h.core).ramWord ((s.core h.core).desc ((s.core h.core).bind (b1.toNat % 16))) (((s.core h.core).ptr (b1.toNat % 16)).toNat)).toInt)) ∧ (t.settled h.core).ptr (b1.toNat / 16) = (s.core h.core).ptr (b1.toNat / 16) + 2 ∧ (t.settled h.core).ptr (b1.toNat % 16) = (s.core h.core).ptr (b1.toNat % 16) + 2)) ∧
  (∀ (s : State) (h : IzHead) (b1 : BitVec 8) (k : BitVec 2) (x : BitVec 6),
    s.issues h (.fa .cmacj b1 k x) = true →
    (decide (((s.core h.core).ptr (b1.toNat / 16)).toNat + 2 ≤ ((s.core h.core).desc ((s.core h.core).bind (b1.toNat / 16))).limit)) = true →
    ((s.core h.core).desc ((s.core h.core).bind (b1.toNat / 16))).inRam ((s.core h.core).ptr (b1.toNat / 16)).toNat = true →
    (((s.core h.core).ptr (b1.toNat / 16)).toNat % 2 == 0) = true →
    (((s.core h.core).desc ((s.core h.core).bind (b1.toNat / 16))).mode == 0) = true →
    (decide (((s.core h.core).ptr (b1.toNat % 16)).toNat + 2 ≤ ((s.core h.core).desc ((s.core h.core).bind (b1.toNat % 16))).limit)) = true →
    ((s.core h.core).desc ((s.core h.core).bind (b1.toNat % 16))).inRam ((s.core h.core).ptr (b1.toNat % 16)).toNat = true →
    (((s.core h.core).ptr (b1.toNat % 16)).toNat % 2 == 0) = true →
    (((s.core h.core).desc ((s.core h.core).bind (b1.toNat % 16))).mode == 0) = true →
    ((b1.toNat / 16) != (b1.toNat % 16)) = true →
    Gives (.izCmacj h b1 k x) s (fun t =>
      (t.settled h.core).acc (k.toNat) = BitVec.ofInt 56 (if h.pre.contains .sat then clampInt (-(2 ^ 55)) (2 ^ 55 - 1) (((s.core h.core).accNow k.toNat).toInt + (2 * ((s.core h.core).ramWord ((s.core h.core).desc ((s.core h.core).bind (b1.toNat / 16))) (((s.core h.core).ptr (b1.toNat / 16)).toNat)).toInt * ((s.core h.core).ramWord ((s.core h.core).desc ((s.core h.core).bind (b1.toNat % 16))) (((s.core h.core).ptr (b1.toNat % 16)).toNat)).toInt + 2 * ((s.core h.core).ramWord ((s.core h.core).desc ((s.core h.core).bind (b1.toNat / 16))) (((s.core h.core).ptr (b1.toNat / 16)).toNat + 1)).toInt * ((s.core h.core).ramWord ((s.core h.core).desc ((s.core h.core).bind (b1.toNat % 16))) (((s.core h.core).ptr (b1.toNat % 16)).toNat + 1)).toInt)) else ((s.core h.core).accNow k.toNat).toInt + (2 * ((s.core h.core).ramWord ((s.core h.core).desc ((s.core h.core).bind (b1.toNat / 16))) (((s.core h.core).ptr (b1.toNat / 16)).toNat)).toInt * ((s.core h.core).ramWord ((s.core h.core).desc ((s.core h.core).bind (b1.toNat % 16))) (((s.core h.core).ptr (b1.toNat % 16)).toNat)).toInt + 2 * ((s.core h.core).ramWord ((s.core h.core).desc ((s.core h.core).bind (b1.toNat / 16))) (((s.core h.core).ptr (b1.toNat / 16)).toNat + 1)).toInt * ((s.core h.core).ramWord ((s.core h.core).desc ((s.core h.core).bind (b1.toNat % 16))) (((s.core h.core).ptr (b1.toNat % 16)).toNat + 1)).toInt)) ∧ (t.settled h.core).acc (k.toNat + 1) = BitVec.ofInt 56 (if h.pre.contains .sat then clampInt (-(2 ^ 55)) (2 ^ 55 - 1) (((s.core h.core).accNow (k.toNat + 1)).toInt + (2 * ((s.core h.core).ramWord ((s.core h.core).desc ((s.core h.core).bind (b1.toNat / 16))) (((s.core h.core).ptr (b1.toNat / 16)).toNat + 1)).toInt * ((s.core h.core).ramWord ((s.core h.core).desc ((s.core h.core).bind (b1.toNat % 16))) (((s.core h.core).ptr (b1.toNat % 16)).toNat)).toInt - 2 * ((s.core h.core).ramWord ((s.core h.core).desc ((s.core h.core).bind (b1.toNat / 16))) (((s.core h.core).ptr (b1.toNat / 16)).toNat)).toInt * ((s.core h.core).ramWord ((s.core h.core).desc ((s.core h.core).bind (b1.toNat % 16))) (((s.core h.core).ptr (b1.toNat % 16)).toNat + 1)).toInt)) else ((s.core h.core).accNow (k.toNat + 1)).toInt + (2 * ((s.core h.core).ramWord ((s.core h.core).desc ((s.core h.core).bind (b1.toNat / 16))) (((s.core h.core).ptr (b1.toNat / 16)).toNat + 1)).toInt * ((s.core h.core).ramWord ((s.core h.core).desc ((s.core h.core).bind (b1.toNat % 16))) (((s.core h.core).ptr (b1.toNat % 16)).toNat)).toInt - 2 * ((s.core h.core).ramWord ((s.core h.core).desc ((s.core h.core).bind (b1.toNat / 16))) (((s.core h.core).ptr (b1.toNat / 16)).toNat)).toInt * ((s.core h.core).ramWord ((s.core h.core).desc ((s.core h.core).bind (b1.toNat % 16))) (((s.core h.core).ptr (b1.toNat % 16)).toNat + 1)).toInt)) ∧ (t.settled h.core).ptr (b1.toNat / 16) = (s.core h.core).ptr (b1.toNat / 16) + 2 ∧ (t.settled h.core).ptr (b1.toNat % 16) = (s.core h.core).ptr (b1.toNat % 16) + 2))

/-- A loop set-up with a free level writes LSk, LEk and LCk of k = SW.LDEPTH, with LEk the last instruction of the
body, and increments LDEPTH; with a count of 0 control continues after LEk with LDEPTH unchanged; with LDEPTH 4 it
traps STKOVF. -/
def Obligations.LoopSetUp : Prop :=
  (∀ (s : State) (h : IzHead) (count disp : BitVec 16),
    s.issues h (.loop count disp) = true →
    (decide ((s.core h.core).ldepth < 4)) = true →
    (count.toNat != 0) = true →
    ((s.core h.core).pendLeft (.le (s.core h.core).ldepth) == 0) = true →
    ((s.core h.core).pendLeft .ldepth == 0) = true →
    Gives (.izLoop h count disp) s (fun t =>
      sget zero24 (t.settled h.core).ls (s.core h.core).ldepth = BitVec.ofNat 24 ((s.core h.core).pc.toNat + preLen h.pre + 5) ∧ sget zero24 (t.settled h.core).le (s.core h.core).ldepth = BitVec.ofNat 24 (((s.core h.core).pc.toNat + preLen h.pre + 5) + disp.toNat) ∧ (sget zero24 (t.settled h.core).lc (s.core h.core).ldepth).toNat = count.toNat ∧ (t.settled h.core).ldepth = (s.core h.core).ldepth + 1 ∧ ((s.core h.core).delay = none → (t.core h.core).pc = BitVec.ofNat 24 ((s.core h.core).pc.toNat + preLen h.pre + 5)))) ∧
  (∀ (s : State) (h : IzHead) (count disp : BitVec 16),
    s.issues h (.loop count disp) = true →
    (decide ((s.core h.core).ldepth < 4)) = true →
    (count.toNat == 0) = true →
    Gives (.izLoop h count disp) s (fun t =>
      (t.settled h.core).ldepth = (s.settled h.core).ldepth ∧ ((s.core h.core).delay = none → (t.core h.core).pc = BitVec.ofNat 24 ((s.core h.core).after ((((s.core h.core).pc.toNat + preLen h.pre + 5) + disp.toNat) % 2 ^ 24))))) ∧
  (∀ (s : State) (h : IzHead) (count disp : BitVec 16),
    s.issues h (.loop count disp) = true →
    ((s.core h.core).ldepth == 4) = true →
    (s.settled h.core).entryOk = true →
    s.straight h.core h.pre = true →
    Gives (.izLoop h count disp) s (fun t =>
      Entered (s.settled h.core) 4 h.core s t ∧ Trapped (s.settled h.core) 4 h.core s t)) ∧
  (∀ (s : State) (h : IzHead) (c z : BitVec 4) (disp : BitVec 16),
    s.issues h (.loopr c z disp) = true →
    (decide ((s.core h.core).ldepth < 4)) = true →
    (((s.core h.core).reg c.toNat).toNat != 0) = true →
    ((s.core h.core).pendLeft (.le (s.core h.core).ldepth) == 0) = true →
    ((s.core h.core).pendLeft .ldepth == 0) = true →
    Gives (.izLoopr h c z disp) s (fun t =>
      sget zero24 (t.settled h.core).ls (s.core h.core).ldepth = BitVec.ofNat 24 ((s.core h.core).pc.toNat + preLen h.pre + 4) ∧ sget zero24 (t.settled h.core).le (s.core h.core).ldepth = BitVec.ofNat 24 (((s.core h.core).pc.toNat + preLen h.pre + 4) + disp.toNat) ∧ (sget zero24 (t.settled h.core).lc (s.core h.core).ldepth).toNat = ((s.core h.core).reg c.toNat).toNat ∧ (t.settled h.core).ldepth = (s.core h.core).ldepth + 1 ∧ ((s.core h.core).delay = none → (t.core h.core).pc = BitVec.ofNat 24 ((s.core h.core).pc.toNat + preLen h.pre + 4)))) ∧
  (∀ (s : State) (h : IzHead) (c z : BitVec 4) (disp : BitVec 16),
    s.issues h (.loopr c z disp) = true →
    (decide ((s.core h.core).ldepth < 4)) = true →
    (((s.core h.core).reg c.toNat).toNat == 0) = true →
    Gives (.izLoopr h c z disp) s (fun t =>
      (t.settled h.core).ldepth = (s.settled h.core).ldepth ∧ ((s.core h.core).delay = none → (t.core h.core).pc = BitVec.ofNat 24 ((s.core h.core).after ((((s.core h.core).pc.toNat + preLen h.pre + 4) + disp.toNat) % 2 ^ 24))))) ∧
  (∀ (s : State) (h : IzHead) (c z : BitVec 4) (disp : BitVec 16),
    s.issues h (.loopr c z disp) = true →
    ((s.core h.core).ldepth == 4) = true →
    (s.settled h.core).entryOk = true →
    s.straight h.core h.pre = true →
    Gives (.izLoopr h c z disp) s (fun t =>
      Entered (s.settled h.core) 4 h.core s t ∧ Trapped (s.settled h.core) 4 h.core s t))

/-- After the instruction at LEk of the innermost loop, LCk above 1 is decremented and LSk is next, and LCk of 1 ends
the loop (R424); LEXIT clears LCk and decrements LDEPTH, and traps STKOVF outside a loop (R454). -/
def Obligations.LoopEndAndExit : Prop :=
  (∀ (s : State) (h : IzHead),
    s.issues h (.f0 .nop) = true →
    (s.core h.core).tick.atLoopEnd (s.core h.core).pc.toNat = true →
    (s.core h.core).delay.isNone = true →
    ((s.core h.core).repCount h.pre).isNone = true →
    (decide (1 < (sget zero24 (s.core h.core).tick.lc ((s.core h.core).tick.ldepth - 1)).toNat)) = true →
    Gives (.izNop h) s (fun t =>
      (t.core h.core).pc = sget zero24 (s.core h.core).tick.ls ((s.core h.core).tick.ldepth - 1) ∧ (sget zero24 (t.settled h.core).lc ((s.core h.core).tick.ldepth - 1)).toNat = (sget zero24 (s.core h.core).tick.lc ((s.core h.core).tick.ldepth - 1)).toNat - 1)) ∧
  (∀ (s : State) (h : IzHead),
    s.issues h (.f0 .nop) = true →
    (s.core h.core).tick.atLoopEnd (s.core h.core).pc.toNat = true →
    (s.core h.core).delay.isNone = true →
    ((s.core h.core).repCount h.pre).isNone = true →
    ((sget zero24 (s.core h.core).tick.lc ((s.core h.core).tick.ldepth - 1)).toNat == 1) = true →
    Gives (.izNop h) s (fun t =>
      (t.core h.core).pc = BitVec.ofNat 24 ((s.core h.core).pc.toNat + preLen h.pre + 1) ∧ (sget zero24 (t.settled h.core).lc ((s.core h.core).tick.ldepth - 1)).toNat = 0 ∧ (t.settled h.core).ldepth = ((s.core h.core).tick.ldepth - 1))) ∧
  (∀ (s : State) (h : IzHead),
    s.issues h (.f0 .lexit) = true →
    ((s.core h.core).ldepth != 0) = true →
    ((s.core h.core).pendLeft .ldepth == 0) = true →
    (decide ((s.core h.core).ldepth < 2) || sget zero24 (s.core h.core).tick.le ((s.core h.core).ldepth - 2) != (s.core h.core).pc) = true →
    Gives (.izLexit h) s (fun t =>
      (t.settled h.core).ldepth = (s.core h.core).ldepth - 1 ∧ sget zero24 (t.settled h.core).lc ((s.core h.core).ldepth - 1) = 0)) ∧
  (∀ (s : State) (h : IzHead),
    s.issues h (.f0 .lexit) = true →
    ((s.core h.core).ldepth == 0) = true →
    (s.settled h.core).entryOk = true →
    s.straight h.core h.pre = true →
    Gives (.izLexit h) s (fun t =>
      Entered (s.settled h.core) 4 h.core s t ∧ Trapped (s.settled h.core) 4 h.core s t))

/-- An undefined opcode traps ILLOP or, with too many prefixes or bytes, PFXOVF (R442, R445); a zero divisor traps
DIV0 (R448); a word at or beyond LIMIT, or a store to a protected segment, traps SEGV with its descriptor and offset
(R416); at a boundary with IE the highest pending group enters handler 8 + g (R434).  Each entry saves the PC and SW
on the stack, here in the local data RAM, and a trap is recorded (R431, R432). -/
def Obligations.TrapsAndInterrupts : Prop :=
  (∀ (s : State) (h : IzHead) (op op1 : BitVec 8),
    s.coreLive h.core = true →
    (s.seqState h.core == 1) = true →
    opUndefined op op1 = true →
    (decide ((s.core h.core).pc.toNat < codeEnd)) = true →
    (s.core h.core).rep.isNone = true →
    (s.core h.core).delay.isNone = true →
    (!s.flag (SEQk_CTL_HALT h.core)) = true →
    ((List.range 8).all fun j => !(s.core j).stepAsked) = true →
    (s.settled h.core).entryOk = true →
    Gives (.undefinedOpcode h op op1) s (fun t =>
      Entered (s.settled h.core) (if 4 ≤ h.pre.length ∨ 8 < undefLen h.pre op then 6 else 0) h.core s t ∧ Trapped (s.settled h.core) (if 4 ≤ h.pre.length ∨ 8 < undefLen h.pre op then 6 else 0) h.core s t)) ∧
  (∀ (s : State) (h : IzHead) (d a b z : BitVec 4),
    s.issues h (.frr .div d a b z) = true →
    (((s.core h.core).reg b.toNat) == 0) = true →
    (s.settled h.core).entryOk = true →
    s.straight h.core h.pre = true →
    Gives (.izDiv h d a b z) s (fun t =>
      Entered (s.settled h.core) 7 h.core s t ∧ Trapped (s.settled h.core) 7 h.core s t)) ∧
  (∀ (s : State) (h : IzHead) (d a b z : BitVec 4),
    s.issues h (.frr .divu d a b z) = true →
    (((s.core h.core).reg b.toNat) == 0) = true →
    (s.settled h.core).entryOk = true →
    s.straight h.core h.pre = true →
    Gives (.izDivu h d a b z) s (fun t =>
      Entered (s.settled h.core) 7 h.core s t ∧ Trapped (s.settled h.core) 7 h.core s t)) ∧
  (∀ (s : State) (h : IzHead) (d a b z : BitVec 4),
    s.issues h (.frr .rem d a b z) = true →
    (((s.core h.core).reg b.toNat) == 0) = true →
    (s.settled h.core).entryOk = true →
    s.straight h.core h.pre = true →
    Gives (.izRem h d a b z) s (fun t =>
      Entered (s.settled h.core) 7 h.core s t ∧ Trapped (s.settled h.core) 7 h.core s t)) ∧
  (∀ (s : State) (h : IzHead) (g : BitVec 4) (m : BitVec 1) (n : BitVec 3) (x : BitVec 8),
    s.issues h (.fm .ld g m n x) = true →
    (decide (((s.core h.core).desc ((segoOf h.pre).getD ((s.core h.core).bind n.toNat))).limit ≤ (if m = 1 then ((s.core h.core).ptr n.toNat).toNat else ((s.core h.core).ptr n.toNat + immOf h.pre x).toNat))) = true →
    (s.settled h.core).entryOk = true →
    s.straight h.core h.pre = true →
    Gives (.izLd h g m n x) s (fun t =>
      Entered (s.settled h.core) 2 h.core s t ∧ Trapped (s.settled h.core) 2 h.core s t ∧ t.getF (SEQk_FADDR_SD h.core) = (segoOf h.pre).getD ((s.core h.core).bind n.toNat) % 16 ∧ t.getF (SEQk_FADDR_OFFSET h.core) = (if m = 1 then ((s.core h.core).ptr n.toNat).toNat else ((s.core h.core).ptr n.toNat + immOf h.pre x).toNat))) ∧
  (∀ (s : State) (h : IzHead) (g : BitVec 4) (m : BitVec 1) (n : BitVec 3) (x : BitVec 8),
    s.issues h (.fm .st g m n x) = true →
    (decide (((s.core h.core).desc ((segoOf h.pre).getD ((s.core h.core).bind n.toNat))).limit ≤ (if m = 1 then ((s.core h.core).ptr n.toNat).toNat else ((s.core h.core).ptr n.toNat + immOf h.pre x).toNat)) || ((s.core h.core).desc ((segoOf h.pre).getD ((s.core h.core).bind n.toNat))).wp) = true →
    (s.settled h.core).entryOk = true →
    s.straight h.core h.pre = true →
    Gives (.izSt h g m n x) s (fun t =>
      Entered (s.settled h.core) 2 h.core s t ∧ Trapped (s.settled h.core) 2 h.core s t ∧ t.getF (SEQk_FADDR_SD h.core) = (segoOf h.pre).getD ((s.core h.core).bind n.toNat) % 16 ∧ t.getF (SEQk_FADDR_OFFSET h.core) = (if m = 1 then ((s.core h.core).ptr n.toNat).toNat else ((s.core h.core).ptr n.toNat + immOf h.pre x).toNat))) ∧
  (∀ (s : State) (k : Nat) (rep : List Nat) (g : Nat),
    s.coreLive k = true →
    (s.seqState k == 1) = true →
    (s.core k).boundary = true →
    (s.core k).ieNow = true →
    (s.intGroup k == some g) = true →
    (s.core k).rep.isNone = true →
    (s.settled k).entryOk = true →
    (!s.flag (SEQk_CTL_HALT k)) = true →
    Gives (.interruptEntry k rep) s (fun t =>
      Entered (s.settled k) (8 + g) k s t ∧ Counted (SEQk_TRAPCNT_INTS k) s t))

/-- Exactly the entries 0x00 to 0x05, 0x10, 0x11, 0x20 and 0x21 of map 1 are defined, and a core that issues any other
one enters the handler of ILLOP, cause 0, with the trap recorded. -/
def Obligations.UndefinedMapOneEntriesTrap : Prop :=
  (∀ n, n < 256 → ((izMap1 n).isSome = true ↔ n ∈ [0x00, 0x01, 0x02, 0x03, 0x04, 0x05, 0x10, 0x11, 0x20, 0x21])) ∧
  (∀ (s : State) (k : Nat) (op1 : BitVec 8), (izMap1 op1.toNat).isNone = true → s.coreLive k = true →
    s.seqState k = 1 → (s.core k).pc.toNat < codeEnd → (s.core k).rep = none → (s.core k).delay = none →
    s.flag (SEQk_CTL_HALT k) = false → ((List.range 8).all fun j => !(s.core j).stepAsked) = true →
    (s.settled k).entryOk = true →
    Gives (.undefinedOpcode ⟨k, [], []⟩ 0xFF op1) s (fun t =>
      Entered (s.settled k) 0 k s t ∧ Trapped (s.settled k) 0 k s t))

/-- For every instruction command, where a check of R412, R425, R442 or R444 refuses its form, the core enters the
handler of the cause that izStatic gives, with the trap recorded and nothing else of the instruction done. -/
def Obligations.StaticChecksTrap : Prop :=
  ∀ (c : Instr) (h : IzHead) (o : IzOp) (s : State) (n : Nat), izOpOf c = some (h, o) →
    s.coreLive h.core = true → s.seqState h.core = 1 → izStatic (s.core h.core) (.op h.pre o) = some n →
    (s.core h.core).rep = none → (s.core h.core).delay = none → s.flag (SEQk_CTL_HALT h.core) = false →
    ((List.range 8).all fun j => !(s.core j).stepAsked) = true → (s.settled h.core).entryOk = true →
    Gives c s (fun t => Entered (s.settled h.core) n h.core s t ∧ Trapped (s.settled h.core) n h.core s t)

/-- For every instruction command that issues without a trap, on a core whose results in flight are in order: every
register outside izWrites keeps its value (the loop registers where the loop check or a loop instruction acts on them
apart); every other core is unchanged; an instruction that stores nothing leaves Marrow, the local data RAM and the
write-combining buffer; one that neither loads nor stores leaves every native register; an access changes none outside
the Marrow requester counters. -/
def Obligations.IzhamFrame : Prop :=
  ∀ (c : Instr) (h : IzHead) (o : IzOp) (s : State), izOpOf c = some (h, o) → s.issues h o = true →
    s.trapFree h o = true → (s.core h.core).ordered = true → s.flag (SEQk_CTL_HALT h.core) = false →
    (s.core h.core).offRegs = true →
    Gives c s (fun t =>
      (∀ r, izWrites (s.core h.core) o (homeReg r) = false →
        ((isLoopOp o = false ∧ (s.core h.core).tick.atLoopEnd (s.core h.core).pc.toNat = false) ∨
          (r ≠ .ldepth ∧ ∀ j, r ≠ .lc j)) →
        (t.settled h.core).val r = (s.settled h.core).val r) ∧
      (∀ j, j ≠ h.core → t.core j = s.core j) ∧
      (izStores o = false → t.mem = s.mem ∧ (t.core h.core).ram = (s.core h.core).ram ∧
        (t.core h.core).wc = (s.core h.core).wc) ∧
      (izStores o = false → izLoads o = false → t.regs = s.regs) ∧
      Within [(0x30000, 0x34000)] s t)

/-- In every state in which, on every core, the results in flight on any one register have distances that do not fall
in issue order (R427), a step leaves a state of which the same holds. -/
def Obligations.PendingResultsStayInOrder : Prop :=
  ∀ s t : State, (∀ k, (s.core k).ordered = true) → step s = .next t → ∀ k, (t.core k).ordered = true

/-- For every base instruction with every field at every value, after at most four prefixes and before any bytes, the
decoder that a fetch uses reads from the encoder's bytes the prefixes and the instruction they were made from (R439 to
R446). -/
def Obligations.IzhamDecodeOfEncode : Prop :=
  ∀ (pre : List IzPre) (o : IzOp) (rest : List Byte), pre.length ≤ 4 →
    decodeIz (encodeIz pre o ++ rest) = .op pre o

/-- One instruction of each format, written out byte by byte from R441 and R444 to R446, decodes to the instruction it
stands for. -/
def Obligations.IzhamWords : Prop :=
  decodeIz [0xF2, 0x10, 0x31, 0x20] = .op [.sat] (.frr .add 3 1 2 0) ∧
  decodeIz [0xF1, 0x34, 0x12, 0x28, 0x50, 0x7F] = .op [.ximm 0x1234] (.fri .movi 5 0 0x7F) ∧
  decodeIz [0x30, 0x71] = .op [] (.fr .mov 7 1) ∧
  decodeIz [0x02] = .op [] (.f0 .ret) ∧
  decodeIz [0x42, 0x12, 0xF0, 0xFF] = .op [] (.fb .lt 1 2 0xFFF0) ∧
  decodeIz [0x4C, 0x10, 0x05, 0x08, 0x00] = .op [] (.fbi .ltu 1 0 5 8) ∧
  decodeIz [0x51, 0x56, 0x34, 0x12] = .op [] (.fj true 0x123456) ∧
  decodeIz [0xE4, 0x61, 0x2B, 0xFE] = .op [.sego 4] (.fm .st 2 1 3 0xFE) ∧
  decodeIz [0xF0, 0x0F, 0x71, 0x12, 0x40] = .op [.repN 15] (.fa .mac 0x12 1 0) ∧
  decodeIz [0x80, 0x0A, 0x00, 0x20, 0x01] = .op [] (.loop 10 0x120) ∧
  decodeIz [0xFF, 0x11, 0x25] = .op [] (.fx .mta 2 5)

/-- A HALT stops a running core at its next boundary with its results in place and SEQk_PC set, or waits for one;
clearing HALT resumes at SEQk_PC; a STEP issues the instruction that code RAM holds and halts again; a KICK restarts
the watchdog, whose end halts the core (R437).  A pair that disagrees gives its core to a free pair 8, or the core
fails (R407, R408); PAIR_REMAP completes the move (R560).  A flushed line lies in Marrow (R420), and PAIR injects a
disagreement (R568). -/
def Obligations.CoreControl : Prop :=
  (∀ (s : State) (m : Master) (k : Nat),
    (decide (k < 8)) = true →
    s.reaches m (SEQk_CTL k) = true →
    (!(s.ktOwned && k == 0 && m != .personality)) = true →
    (decide (s.getF (SEQk_CTL_VBASE k) ≤ 0x7FF)) = true →
    (s.seqState k == 1) = true →
    (s.core k).boundary = true →
    (!(s.core k).moving) = true →
    Gives (.coreHalt m k true) s (fun t =>
      t.seqState k = 2 ∧ t.flag (SEQk_CTL_HALT k) = true ∧ t.getF (SEQk_PC_PC k) = (s.core k).pc.toNat ∧ (t.core k).pend = [] ∧ t.getF (SEQk_CTL_VBASE k) = s.getF (SEQk_CTL_VBASE k))) ∧
  (∀ (s : State) (m : Master) (k : Nat),
    (decide (k < 8)) = true →
    s.reaches m (SEQk_CTL k) = true →
    (!(s.ktOwned && k == 0 && m != .personality)) = true →
    (decide (s.getF (SEQk_CTL_VBASE k) ≤ 0x7FF)) = true →
    (s.seqState k == 1) = true →
    (!(s.core k).boundary) = true →
    Gives (.coreHalt m k true) s (fun t =>
      t.seqState k = 1 ∧ t.flag (SEQk_CTL_HALT k) = true)) ∧
  (∀ (s : State) (m : Master) (k : Nat),
    (decide (k < 8)) = true →
    s.reaches m (SEQk_CTL k) = true →
    (!(s.ktOwned && k == 0 && m != .personality)) = true →
    (decide (s.getF (SEQk_CTL_VBASE k) ≤ 0x7FF)) = true →
    (s.seqState k == 2) = true →
    Gives (.coreHalt m k false) s (fun t =>
      t.seqState k = 1 ∧ t.flag (SEQk_CTL_HALT k) = false ∧ (t.core k).pc = BitVec.ofNat 24 (s.getF (SEQk_PC_PC k)) ∧ t.getF (SEQk_STAT_DBL k) = 0)) ∧
  (∀ (s : State) (m : Master) (k : Nat) (rep : List Nat),
    (decide (k < 8)) = true →
    s.reaches m (SEQk_CTL k) = true →
    (!(s.ktOwned && k == 0 && m != .personality)) = true →
    (decide (s.getF (SEQk_CTL_VBASE k) ≤ 0x7FF)) = true →
    (s.seqState k == 2) = true →
    ((List.range 8).all fun j => !(s.core j).stepAsked) = true →
    (!(s.core k).moving) = true →
    ((s.core k).fetchAt (s.core k).pc.toNat == .op [] (.f0 .nop)) = true →
    (decide ((s.core k).pc.toNat < codeEnd)) = true →
    (s.core k).delay.isNone = true →
    (s.core k).rep.isNone = true →
    (!(s.core k).tick.atLoopEnd (s.core k).pc.toNat) = true →
    Gives (.coreStep m k rep) s (fun t =>
      t.seqState k = 2 ∧ t.getF (SEQk_PC_PC k) = (s.core k).pc.toNat + 1 ∧ t.flag (SEQk_CTL_HALT k) = true)) ∧
  (∀ (s : State) (m : Master) (k : Nat) (rep : List Nat) (d a b : BitVec 4),
    (decide (k < 8)) = true →
    s.reaches m (SEQk_CTL k) = true →
    (!(s.ktOwned && k == 0 && m != .personality)) = true →
    (decide (s.getF (SEQk_CTL_VBASE k) ≤ 0x7FF)) = true →
    (s.seqState k == 2) = true →
    ((List.range 8).all fun j => !(s.core j).stepAsked) = true →
    (!(s.core k).moving) = true →
    ((s.core k).fetchAt (s.core k).pc.toNat == .op [] (.frr .add d a b 0)) = true →
    (decide ((s.core k).pc.toNat + 3 ≤ codeEnd)) = true →
    (s.core k).rep.isNone = true →
    Gives (.coreStep m k rep) s (fun t =>
      t.seqState k = 2 ∧ (t.core k).reg d.toNat = (if d = 0 then 0 else (s.core k).reg a.toNat + (s.core k).reg b.toNat))) ∧
  (∀ (s : State) (m : Master) (k : Nat),
    (decide (k < 8)) = true →
    s.reaches m (SEQk_WDOG k) = true →
    (!(s.ktOwned && k == 0 && m != .personality)) = true →
    (decide (1 ≤ s.getF (SEQk_WDOG_PERIOD_MS k))) = true →
    (decide (s.getF (SEQk_WDOG_PERIOD_MS k) ≤ 60000)) = true →
    Gives (.coreKick m k) s (fun t =>
      (t.core k).wdogAt = s.now ∧ t.getF (SEQk_WDOG_EN k) = s.getF (SEQk_WDOG_EN k) ∧ t.getF (SEQk_WDOG_PERIOD_MS k) = s.getF (SEQk_WDOG_PERIOD_MS k))) ∧
  (∀ (s : State) (k n : Nat),
    s.coreLive k = true →
    s.flag (SEQk_WDOG_EN k) = true →
    (decide ((s.core k).wdogAt + s.getF (SEQk_WDOG_PERIOD_MS k) * Config.ticksPerMs ≤ (s.advance n).now)) = true →
    (s.seqState k == 1) = true →
    (s.core k).boundary = true →
    Gives (.coreWdog k n) s (fun t =>
      t.seqState k = 2 ∧ t.flag (SEQk_CTL_HALT k) = true ∧ (t.core k).wdogAt = (s.advance n).now)) ∧
  (∀ (s : State) (j n k : Nat),
    (!s.pwr.inReset) = true →
    (decide (2 ≤ s.stage)) = true →
    (decide (j < 8)) = true →
    (!(s.getF SEQ_PAIRS_FAILED).testBit j) = true →
    (s.onPair j == some k) = true →
    s.flag SEQ_PAIRS_SPARE_FREE = true →
    (s.seqState k != 3) = true →
    Gives (.pairFault j n) s (fun t =>
      (t.core k).moving = true ∧ t.flag REL_STAT_BUSY = true ∧ t.getF SEQ_PAIRS_SPARE_FREE = 0 ∧ (t.getF SEQ_PAIRS_FAILED).testBit j = true ∧ t.seqState k = s.seqState k)) ∧
  (∀ (s : State) (j n k : Nat),
    (!s.pwr.inReset) = true →
    (decide (2 ≤ s.stage)) = true →
    (decide (j < 8)) = true →
    (!(s.getF SEQ_PAIRS_FAILED).testBit j) = true →
    (s.onPair j == some k) = true →
    (!s.flag SEQ_PAIRS_SPARE_FREE) = true →
    Gives (.pairFault j n) s (fun t =>
      t.seqState k = 3 ∧ (t.getF SEQ_PAIRS_FAILED).testBit j = true)) ∧
  (∀ (s : State) (n k : Nat),
    (((List.range 8).find? fun j => (s.core j).moving) == some k) = true →
    ((List.range 8).all fun j => !(s.core j).stepAsked) = true →
    Gives (.pairRemap n) s (fun t =>
      (t.core k).moving = false ∧ t.getF (SEQk_STAT_PAIR k) = 8 ∧ t.getF SEQ_PAIRS_SPARE_USER = k)) ∧
  (∀ (s : State) (k line n : Nat) (l : WcLine),
    (decide (k < 8)) = true →
    (((s.core k).wc.find? fun q => q.addr == line) == some l) = true →
    s.flag MRW_STAT_INIT_DONE = true →
    s.permits ⟨256 + k, 0, true, line, 64, []⟩ = true →
    decide ((l.bytes.map (·.1)).Nodup) = true →
    Gives (.wcLineFlush k line 0 n) s (fun t =>
      ((t.core k).wc.any fun q => q.addr == line) = false ∧ (l.bytes.all fun p => memGet t.mem (line + p.1) == p.2) = true ∧ (∀ a, (∀ p ∈ l.bytes, a ≠ line + p.1) → memGet t.mem a = memGet s.mem a))) ∧
  (∀ (s : State) (m : Master) (k j : Nat),
    s.reaches m REL_INJECT = true →
    s.feat 18 = true →
    (decide (k < 8)) = true →
    (s.seqState k == 1) = true →
    (!s.remapBusy) = true →
    (!s.pairMoving) = true →
    (s.getF FAB_PR_STAT_PHASE == 0) = true →
    (!(s.ktOwned && k == 0)) = true →
    (s.getF (SEQk_STAT_PAIR k) == j) = true →
    (decide (j < 8)) = true →
    (!(s.getF SEQ_PAIRS_FAILED).testBit j) = true →
    Gives (.injectPair m k) s (fun t =>
      (t.getF SEQ_PAIRS_FAILED).testBit j = true ∧ Counted SEQ_PAIRCNT_FAULTS s t))

/-- Each command of the fabric's pods, where R142 to R157, R171, R555 to R557 and R568 give it its effect, answers the
next state with the pod state, margin, core-voltage code or fault record that those rules give. -/
def Obligations.PodTransitions : Prop :=
  (∀ (s : State) (p : Nat),
    s.guarded p = true →
    Gives (.guardAbsorb p) s (fun t =>
      Counted (FAB_LPp_CNT0_VOID p) s t)) ∧
  (∀ (s : State) (p kind inst ts period : Nat),
    s.guarded p = true →
    Gives (.guardVoidSupply p kind inst ts period) s (fun t =>
      Counted (FAB_LPp_CNT0_VOID p) s t ∧ (kind = 1 → (t.path inst).voids.head? = some ⟨ts, ts + 64 * period - 1, 8⟩) ∧ (kind ≠ 1 → t.fab.voids.head? = some (kind, inst, ⟨ts, ts + 64 * period - 1, 8⟩)))) ∧
  (∀ (s : State) (p kind inst rel : Nat),
    s.podConf p = true →
    (s.podState p == 0) = true →
    (decide (2 ≤ kind)) = true →
    Gives (.blockDrop p kind inst rel) s (fun t =>
      Counted (FAB_LPp_CNT0_DROP p) s t ∧ Counted FAB_DROP_CNT s t ∧ t.abandoned kind inst rel = true)) ∧
  (∀ (s : State) (p inst rel : Nat),
    s.podConf p = true →
    (s.podState p == 0) = true →
    (decide (inst < 2)) = true →
    Gives (.blockDrop p 0 inst rel) s (fun t =>
      Counted (FAB_LPp_CNT0_DROP p) s t ∧ Counted FAB_DROP_CNT s t ∧ (t.input inst).spans.head? = some ⟨rel / 122880 * 122880, rel / 122880 * 122880 + 122879, flagMissing⟩)) ∧
  (∀ (s : State) (p inst rel : Nat) (r : Run),
    s.podConf p = true →
    (s.podState p == 0) = true →
    (decide (inst < 512)) = true →
    ((s.path inst).runs.head? == some r) = true →
    (r.tsOf (r.out + 1) + r.dly == rel) = true →
    Gives (.blockDrop p 1 inst rel) s (fun t =>
      Counted (FAB_LPp_CNT0_DROP p) s t ∧ Counted FAB_DROP_CNT s t ∧ Counted (PTHn_DROP_CNT inst) s t ∧ (t.path inst).dropNext = true ∧ (t.path inst).formed = (s.path inst).formed ++ [(r.due, none)])) ∧
  (∀ (s : State) (n : Nat) (busy : List (Nat × Nat × Nat)),
    (n % 3932160 == 0) = true →
    s.flag FAB_STAT_CONF = true →
    s.counting = true →
    (!s.flag FAB_AVS_EN) = true →
    Gives (.paceWindowEnd n busy) s (fun t =>
      t.getF FAB_AVS_CODE = (if s.getF FAB_AVS_CODE < 20 then s.getF FAB_AVS_CODE + 1 else if 20 < s.getF FAB_AVS_CODE then s.getF FAB_AVS_CODE - 1 else s.getF FAB_AVS_CODE) ∧ t.pins.vid = some (t.getF FAB_AVS_CODE))) ∧
  (∀ (s : State) (n p pea b : Nat),
    (n % 3932160 == 0) = true →
    s.flag FAB_STAT_CONF = true →
    s.counting = true →
    s.podConf p = true →
    (s.podState p == 0) = true →
    (s.hdr.pace.any fun r => r.lpod == p && r.pea == pea) = true →
    (decide ((s.pod p).activeAt + 3932160 ≤ n)) = true →
    Gives (.paceWindowEnd n [(p, pea, b)]) s (fun t =>
      t.getF (FAB_LPp_PACE_CUR p) = (if b = 0 then 0xFFFF else min 0xFFFF (3932160 * 256 / b)) ∧ (t.pod p).paced = true)) ∧
  (∀ (s : State) (m : Master) (p : Nat),
    s.reaches m FAB_CMD = true →
    s.podConf p = true →
    (s.podState p == 0) = true →
    (!(s.flag (FAB_LPp_MAP_EXC p) && s.pins.paRf)) = true →
    (!(s.ktOwned && s.flag (FAB_LPp_MAP_KTO p))) = true →
    (s.getF FAB_PR_STAT_PHASE == 0) = true →
    (!s.remapBusy) = true →
    Gives (.fabIsolate m p) s (fun t =>
      t.podState p = 1 ∧ t.getF (FAB_LPp_MAP_FAULT p) = 0)) ∧
  (∀ (s : State) (m : Master) (p : Nat),
    s.reaches m FAB_CMD = true →
    s.podConf p = true →
    (s.podState p == 2) = true →
    (!(s.pod p).badImage) = true →
    (!(s.ktOwned && s.flag (FAB_LPp_MAP_KTO p))) = true →
    (s.getF FAB_PR_STAT_PHASE == 0) = true →
    (!s.remapBusy) = true →
    Gives (.fabRestore m p) s (fun t =>
      t.podState p = 3 ∧ (t.pod p).why = 2)) ∧
  (∀ (s : State) (p late n : Nat),
    s.podConf p = true →
    (s.podState p == 1) = true →
    ((s.pod p).why == 1) = true →
    (late == 0 || decide ((s.pod p).drainAt + Config.ticksOfUs 2 ≤ (s.advance n).now)) = true →
    Gives (.podDrainEnd p late n) s (fun t =>
      t.podState p = 2 ∧ t.getF (FAB_LPp_CNT1_LATE p) = min (s.getF (FAB_LPp_CNT1_LATE p) + late) 65535)) ∧
  (∀ (s : State) (p late n : Nat),
    s.podConf p = true →
    (s.podState p == 1) = true →
    ((s.pod p).why == 3 || (s.pod p).why == 4) = true →
    (!(s.pod p).wait) = true →
    (late == 0 || decide ((s.pod p).drainAt + Config.ticksOfUs 2 ≤ (s.advance n).now)) = true →
    Gives (.podDrainEnd p late n) s (fun t =>
      t.podState p = 3 ∧ ((t.pod p).why = 3 ∨ (t.pod p).why = 4))) ∧
  (∀ (s : State) (p n : Nat) (rep : Bool),
    s.podConf p = true →
    (s.podState p == 3) = true →
    (!s.reloadBad p) = true →
    Gives (.podLoadDone p n rep) s (fun t =>
      (t.pod p).loadedAt = some (s.advance n).now ∧ (t.pod p).replayed = rep ∧ t.podState p = 3)) ∧
  (∀ (s : State) (p n : Nat),
    s.podConf p = true →
    (s.podState p == 3) = true →
    ((s.pod p).why == 2) = true →
    s.reloadBad p = true →
    Gives (.reloadErr p n) s (fun t =>
      t.podState p = 2 ∧ (t.pod p).badImage = true ∧ Counted FAB_STAT_RELOAD_ERR s t)) ∧
  (∀ (s : State) (n p : Nat),
    (n % 122880 == 0) = true →
    s.flag FAB_STAT_CONF = true →
    s.podConf p = true →
    (s.podState p == 3) = true →
    ((s.pod p).why == 2) = true →
    (s.pod p).loadedAt.isSome = true →
    (s.enterAt [p] == n) = true →
    s.fab.pr.isNone = true →
    Gives (.podRelease n) s (fun t =>
      t.podState p = 0 ∧ (t.pod p).why = 0)) ∧
  (∀ (s : State) (p cause n : Nat),
    (decide (1 ≤ cause)) = true →
    (decide (cause ≤ 5)) = true →
    s.podConf p = true →
    s.flag FAB_STAT_CONF = true →
    (s.podState p == 0) = true →
    Gives (.podFault p cause n) s (fun t =>
      t.podState p = 1 ∧ t.getF (FAB_LPp_MAP_FAULT p) = 1 ∧ t.getF REL_PODFLT_CAUSE = cause ∧ t.getF REL_PODFLT_LPOD = p ∧ Counted REL_CNT0_FAULTS s t)) ∧
  (∀ (s : State) (p n : Nat),
    s.podConf p = true →
    s.flag FAB_STAT_CONF = true →
    (s.podState p == 0) = true →
    Gives (.podWatchdog p n) s (fun t =>
      t.podState p = 1 ∧ t.getF (FAB_LPp_MAP_FAULT p) = 1 ∧ t.getF REL_PODFLT_CAUSE = 1 ∧ Counted REL_CNT0_FAULTS s t)) ∧
  (∀ (s : State) (m : Master) (p : Nat),
    s.reaches m REL_INJECT = true →
    s.feat 18 = true →
    s.podConf p = true →
    s.flag FAB_STAT_CONF = true →
    (s.podState p == 0) = true →
    (!s.pairMoving) = true →
    (!(s.ktOwned && s.flag (FAB_LPp_MAP_KTO p))) = true →
    (s.getF FAB_PR_STAT_PHASE == 0) = true →
    (!s.remapBusy) = true →
    Gives (.injectPod m p) s (fun t =>
      t.podState p = 1 ∧ t.getF REL_PODFLT_CAUSE = 4 ∧ Counted REL_CNT0_FAULTS s t))

/-- The load port appends its bytes to the staging area (R164), RESET_PORT empties it, START enters VERIFY; VERIFY
ends with BADSIG, FRAME, MISMATCH or the reason of CHECK, or, where every check of R165 passes, DRAIN with the ACTIVE
pods draining. -/
def Obligations.PartialReconfiguration : Prop :=
  (∀ (s : State) (m : Master) (a : Nat) (v : Word),
    s.reaches m a = true →
    (decide (0xA0000 ≤ a)) = true →
    (decide (a < 0xC0000)) = true →
    (decide (s.fab.stage.length + 4 ≤ 67108864)) = true →
    Gives (.loadPortWrite m a v) s (fun t =>
      t.fab.stage = s.fab.stage ++ bytesOf 4 v.toNat ∧ t.getF FAB_PR_STAT_STAGED_KIB = (s.fab.stage.length + 4) / 1024)) ∧
  (∀ (s : State) (m : Master),
    s.reaches m FAB_PR_CMD = true →
    (s.getF FAB_PR_STAT_PHASE == 0) = true →
    Gives (.prResetPort m) s (fun t =>
      t.fab.stage = [] ∧ t.getF FAB_PR_STAT_STAGED_KIB = 0 ∧ t.getF FAB_PR_STAT_PHASE = 0)) ∧
  (∀ (s : State) (m : Master),
    s.reaches m FAB_PR_CMD = true →
    (s.getF FAB_PR_STAT_PHASE == 0) = true →
    Gives (.prStart m) s (fun t =>
      t.getF FAB_PR_STAT_PHASE = 1 ∧ t.getF FAB_PR_STAT_RESULT = 0)) ∧
  (∀ (s : State) (v : SigVerdict) (hash n : Nat),
    let h := bsHdrOf s.prFile hash; let g := bsSigOf s.prFile v;
    (s.getF FAB_PR_STAT_PHASE == 1) = true →
    (!s.prSigOk h g) = true →
    Gives (.prVerifyDone v hash n) s (fun t =>
      t.getF FAB_PR_STAT_PHASE = 0 ∧ t.getF FAB_PR_STAT_RESULT = 2 ∧ Counted FAB_PR_CNT_FAIL s t)) ∧
  (∀ (s : State) (v : SigVerdict) (hash n : Nat),
    let h := bsHdrOf s.prFile hash; let g := bsSigOf s.prFile v;
    (s.getF FAB_PR_STAT_PHASE == 1) = true →
    s.prSigOk h g = true →
    (!hdrOk h || !h.framesOk) = true →
    Gives (.prVerifyDone v hash n) s (fun t =>
      t.getF FAB_PR_STAT_PHASE = 0 ∧ t.getF FAB_PR_STAT_RESULT = 3 ∧ Counted FAB_PR_CNT_FAIL s t)) ∧
  (∀ (s : State) (v : SigVerdict) (hash n : Nat),
    let h := bsHdrOf s.prFile hash; let g := bsSigOf s.prFile v;
    (s.getF FAB_PR_STAT_PHASE == 1) = true →
    s.prSigOk h g = true →
    hdrOk h = true →
    h.framesOk = true →
    (!s.prFits (familyBound h)) = true →
    Gives (.prVerifyDone v hash n) s (fun t =>
      t.getF FAB_PR_STAT_PHASE = 0 ∧ t.getF FAB_PR_STAT_RESULT = 4 ∧ Counted FAB_PR_CNT_FAIL s t)) ∧
  (∀ (s : State) (v : SigVerdict) (hash n p : Nat),
    let h := bsHdrOf s.prFile hash; let g := bsSigOf s.prFile v;
    (s.getF FAB_PR_STAT_PHASE == 1) = true →
    s.prSigOk h g = true →
    hdrOk h = true →
    h.framesOk = true →
    s.prFits (familyBound h) = true →
    (decide (p < 256)) = true →
    h.podMask.testBit p = true →
    (s.prCheck p != 0) = true →
    ((List.range p).all fun q => !h.podMask.testBit q || s.prCheck q == 0) = true →
    Gives (.prVerifyDone v hash n) s (fun t =>
      t.getF FAB_PR_STAT_PHASE = 0 ∧ t.getF FAB_PR_STAT_RESULT = s.prCheck p ∧ Counted FAB_PR_CNT_FAIL s t)) ∧
  (∀ (s : State) (v : SigVerdict) (hash n : Nat),
    let h := bsHdrOf s.prFile hash; let g := bsSigOf s.prFile v;
    (s.getF FAB_PR_STAT_PHASE == 1) = true →
    s.prSigOk h g = true →
    hdrOk h = true →
    h.framesOk = true →
    s.prFits (familyBound h) = true →
    ((List.range 256).all fun p => !h.podMask.testBit p || s.prCheck p == 0) = true →
    ((List.range 256).any fun p => h.podMask.testBit p && s.podState p == 0) = true →
    Gives (.prVerifyDone v hash n) s (fun t =>
      t.getF FAB_PR_STAT_PHASE = 2 ∧ (∀ p, p < 256 → h.podMask.testBit p = true → s.podState p = 0 → t.podState p = 1)))

/-- Each command of Marrow's request path, where R281 to R285, R294 to R299 and R153 give it its effect, answers the
next state with the reply code and data, the admitted bytes, the windows and the counters those rules give; APPLY
takes the shadows of R283 where they fit. -/
def Obligations.MarrowRequestsAndRegions : Prop :=
  (∀ (s : State) (q : MReq) (n : Nat),
    (decide (q.who < 270)) = true →
    (!s.pwr.inReset) = true →
    (!s.podDead q.who) = true →
    (!s.flag MRW_STAT_INIT_DONE) = true →
    (!s.owed q.who s.mrw.nextId) = true →
    Gives (.marrowRequest q n) s (fun t =>
      t.mrw.reply = some (s.mrw.nextId, 2, []) ∧ t.mem = s.mem ∧ t.mrw.nextId = s.mrw.nextId + 1)) ∧
  (∀ (s : State) (q : MReq) (n : Nat),
    (decide (q.who < 270)) = true →
    (!s.pwr.inReset) = true →
    (!s.podDead q.who) = true →
    s.flag MRW_STAT_INIT_DONE = true →
    (!mreqOk q || !s.permits q) = true →
    (!s.owed q.who s.mrw.nextId) = true →
    Gives (.marrowRequest q n) s (fun t =>
      t.mrw.reply = some (s.mrw.nextId, 4, if q.write then [] else List.replicate q.len 0) ∧ t.mem = s.mem)) ∧
  (∀ (s : State) (q : MReq) (n : Nat),
    (decide (q.who < 270)) = true →
    (!s.pwr.inReset) = true →
    (!s.podDead q.who) = true →
    s.flag MRW_STAT_INIT_DONE = true →
    mreqOk q = true →
    s.permits q = true →
    (s.classOf q == 0) = true →
    (decide (((s.window (stackOf q.addr)).used0 + q.len) * 100 ≤ s.getF MRW_CLS_RES0 * windowBytes)) = true →
    s.tagFree 0 = true →
    Gives (.marrowRequest q n) s (fun t =>
      (t.mrw.out.any fun p => p.id == s.mrw.nextId) = true ∧ t.mem = (if q.write then memPut q.addr q.data s.mem else s.mem) ∧ (t.window (stackOf q.addr)).used0 = (s.window (stackOf q.addr)).used0 + q.len)) ∧
  (∀ (s : State) (q : MReq) (n : Nat),
    (decide (q.who < 270)) = true →
    (!s.pwr.inReset) = true →
    (!s.podDead q.who) = true →
    s.flag MRW_STAT_INIT_DONE = true →
    mreqOk q = true →
    s.permits q = true →
    (s.classOf q == 1 || s.classOf q == 2) = true →
    s.mrw.queue.isEmpty = true →
    (decide ((s.window (stackOf q.addr)).used + q.len ≤ windowBytes)) = true →
    s.tagFree (s.classOf q) = true →
    Gives (.marrowRequest q n) s (fun t =>
      (t.mrw.out.any fun p => p.id == s.mrw.nextId) = true ∧ t.mrw.queue = [] ∧ t.mem = (if q.write then memPut q.addr q.data s.mem else s.mem))) ∧
  (∀ (s : State) (id : Nat) (p : MPend),
    (!(s.mrw.queue.any fun r => r.id == id)) = true →
    ((s.mrw.out.find? fun r => r.id == id) == some p) = true →
    (!s.podDead p.req.who) = true →
    (!s.owed p.req.who id) = true →
    s.mrw.held.isEmpty = true →
    Gives (.marrowReply id []) s (fun t =>
      t.mrw.reply = some (id, if p.late then 1 else 0, p.data) ∧ (t.mrw.out.any fun r => r.id == id) = false)) ∧
  (∀ (s : State) (id : Nat) (p : MPend),
    (!(s.mrw.queue.any fun r => r.id == id)) = true →
    ((s.mrw.out.find? fun r => r.id == id) == some p) = true →
    (!s.podDead p.req.who) = true →
    (!s.owed p.req.who id) = true →
    s.mrw.held.isEmpty = true →
    (!p.req.write) = true →
    (decide (0 < p.req.len)) = true →
    Gives (.marrowReply id [(0, .uncorrectable)]) s (fun t =>
      t.mrw.reply = some (id, 4, List.replicate p.req.len 0) ∧ Counted (MRW_ECC_UE (stackOf p.req.addr)) s t ∧ t.get64 MRW_ECC_ADDR_LO MRW_ECC_ADDR_HI = p.req.addr % 2 ^ 64)) ∧
  (∀ (s : State) (id n : Nat) (p : MPend),
    ((s.mrw.queue.find? fun r => r.id == id) == some p) = true →
    (decide (p.arrived + Config.ticksOfUs (if p.cls = 1 then s.getF MRW_WAIT_W1 else 10 * s.getF MRW_WAIT_W2) ≤ (s.advance n).now)) = true →
    (!s.owed p.req.who id) = true →
    s.mrw.held.isEmpty = true →
    Gives (.marrowWaitTimeout id n) s (fun t =>
      t.mrw.reply = some (id, 2, []) ∧ (t.mrw.queue.any fun r => r.id == id) = false)) ∧
  (∀ (s : State) (k n : Nat),
    (decide (k < 4)) = true →
    (n % 4096 == 0) = true →
    (!s.pwr.inReset) = true →
    s.mrw.queue.isEmpty = true →
    Gives (.marrowAdmissionWindow k n) s (fun t =>
      t.window k = {})) ∧
  (∀ (s : State) (k n : Nat) (p : MPend),
    (decide (k < 4)) = true →
    (n % 4096 == 0) = true →
    (!s.pwr.inReset) = true →
    (s.mrw.queue == [p]) = true →
    (stackOf p.req.addr == k) = true →
    (p.cls == 1 || p.cls == 2) = true →
    s.tagFree p.cls = true →
    (decide (p.req.len ≤ windowBytes)) = true →
    Gives (.marrowAdmissionWindow k n) s (fun t =>
      t.mrw.queue = [] ∧ (t.mrw.out.any fun r => r.id == p.id) = true)) ∧
  (∀ (s : State) (id : Nat) (p : MPend),
    (!(s.mrw.queue.any fun r => r.id == id)) = true →
    ((s.mrw.out.find? fun r => r.id == id) == some p) = true →
    s.podDead p.req.who = true →
    Gives (.marrowCompletionDiscard id) s (fun t =>
      (t.mrw.out.any fun r => r.id == id) = false ∧ Counted (MRW_RQr_CNT2_MDISC p.req.who) s t ∧ Counted (FAB_LPp_CNT1_MDISC p.req.who) s t ∧ t.mrw.reply = s.mrw.reply)) ∧
  (∀ (s : State) (pr : Nat) (fixes : List (Nat × Nat)) (dead : List Nat),
    s.flag MRW_SCRUB_EN = true →
    s.flag MRW_STAT_INIT_DONE = true →
    (decide (pr ≤ 100)) = true →
    s.scrubReached pr = true →
    (fixes.all (fun q => decide (q.1 < 4) && decide (q.2 < 255))) = true →
    Gives (.scrubStep pr fixes dead) s (fun t =>
      t.getF MRW_SCRUB_PROGRESS = pr)) ∧
  (∀ (s : State) (m : Master),
    s.reaches m MRW_REG_CMD = true →
    (!s.flag MRW_REG_STAT_FIXED) = true →
    s.shadowsOk = true →
    Gives (.mrwApply m) s (fun t =>
      t.getF MRW_REG_STAT_MATCH = 1 ∧ t.mrw.act = (List.range 5).map s.shadow ∧ t.mrw.chans = s.getF MRW_AUD_CFG_CHANS))

/-- A ring record lies at the slot of its timestamp with the bytes of R289, or is lost and counted (R290); a
qualifying source takes a free audio channel or waits (R288); a snapshot arms, triggers, stops and completes as R292
says. -/
def Obligations.RingsAndSnapshots : Prop :=
  (∀ (s : State) (n ts : Nat) (r : Run) (b : Block),
    (s.stage == 4) = true →
    (decide (n < 512)) = true →
    (tapPeriod r.preset != 0) = true →
    s.flag MRW_BBR_STAT_REC = true →
    (s.tapBlock n ts == some (r, b)) = true →
    Gives (.ringRecordWrite 0 n ts true) s (fun t =>
      t.mem = memPut (s.regionBase 0 + n * (s.regionSize 0 / 512) + ringSlot ts (tapPeriod r.preset) s.bbSlots * 400) (ringBytes ts b.flags n 0 (r.input * 64 + r.ty) (((s.path n).bb.next (tapPeriod r.preset) ts).n % 65536) b.samples) s.mem ∧ (t.path n).bb = (s.path n).bb.next (tapPeriod r.preset) ts)) ∧
  (∀ (s : State) (n ts : Nat) (r : Run) (b : Block),
    (s.stage == 4) = true →
    (decide (n < 512)) = true →
    (tapPeriod r.preset != 0) = true →
    s.flag MRW_BBR_STAT_REC = true →
    (s.tapBlock n ts == some (r, b)) = true →
    Gives (.ringRecordWrite 0 n ts false) s (fun t =>
      t.mem = s.mem ∧ Counted MRW_RING_LOST_BB s t)) ∧
  (∀ (s : State) (kind num ts c : Nat) (b : Block),
    (s.stage == 4) = true →
    (decide (1 ≤ kind)) = true →
    (decide (kind < 4)) = true →
    (decide (num < 512)) = true →
    (s.chanOf kind num == some c) = true →
    (((s.audStream kind num).find? fun x => x.ts == ts) == some b) = true →
    Gives (.ringRecordWrite kind num ts true) s (fun t =>
      t.mem = memPut (s.regionBase 1 + c * (s.regionSize 1 / s.mrw.chans) + ringSlot ts 81920 s.audSlots * 400) (ringBytes ts b.flags c kind 0 (((s.produced kind num).next 81920 ts).n % 65536) ((stereo b.samples).flatMap fun x => [x.1, x.2])) s.mem)) ∧
  (∀ (s : State) (kind num ts c : Nat) (b : Block),
    (s.stage == 4) = true →
    (decide (1 ≤ kind)) = true →
    (decide (kind < 4)) = true →
    (decide (num < 512)) = true →
    (s.chanOf kind num == some c) = true →
    (((s.audStream kind num).find? fun x => x.ts == ts) == some b) = true →
    Gives (.ringRecordWrite kind num ts false) s (fun t =>
      t.mem = s.mem ∧ Counted MRW_RING_LOST_AUD s t)) ∧
  (∀ (s : State) (kind num : Nat),
    s.firmwareOn 1 = true →
    ((kind == 1 && decide (num < 512)) || (kind == 2 && decide (num < 128))) = true →
    (s.chanOf kind num).isNone = true →
    s.qualifies kind num = true →
    ((List.range s.mrw.chans).any fun c => !s.flag (MRW_ACH_VALID c)) = true →
    (decide (s.mrw.chans ≤ 1024)) = true →
    Gives (.audioChannelAssign kind num) s (fun t =>
      (t.chanOf kind num).isSome = true ∧ t.mrw.waiting.contains (kind, num) = false)) ∧
  (∀ (s : State) (kind num : Nat),
    s.firmwareOn 1 = true →
    ((kind == 1 && decide (num < 512)) || (kind == 2 && decide (num < 128))) = true →
    (s.chanOf kind num).isNone = true →
    s.qualifies kind num = true →
    ((List.range s.mrw.chans).all fun c => s.flag (MRW_ACH_VALID c)) = true →
    (!s.mrw.waiting.contains (kind, num)) = true →
    (s.channels.all fun q => decide (3 ≤ q.2.1) || s.needed q.2.1 q.2.2 || s.qualifies q.2.1 q.2.2) = true →
    Gives (.audioChannelAssign kind num) s (fun t =>
      Counted MRW_AUD_FULL_FULLCNT s t ∧ t.mrw.waiting = (s.mrw.waiting.filter fun q => s.qualifies q.1 q.2) ++ [(kind, num)])) ∧
  (∀ (s : State) (m : Master) (i : Nat) (v : Word),
    s.reaches m (MRW_TSH i) = true →
    (decide (i < 8)) = true →
    s.feat 11 = true →
    (decide (s.channels.length + (tshBits i (s.rd (MRW_TSH i)).toNat v.toNat).length ≤ s.mrw.chans)) = true →
    Gives (.timeshiftWrite m i v) s (fun t =>
      t.rd (MRW_TSH i) = v)) ∧
  (∀ (s : State) (m : Master),
    s.reaches m MRW_SNP_CMD = true →
    s.feat 13 = true →
    (s.getF MRW_SNP_STAT_STATE == 0 || s.getF MRW_SNP_STAT_STATE == 3) = true →
    (decide (Config.ticksOfUs (s.getF MRW_SNP_POST_POST_US) < s.snapDepth (s.getF MRW_SNP_CTL_SRC))) = true →
    Gives (.snpArm m) s (fun t =>
      t.getF MRW_SNP_STAT_STATE = 1 ∧ t.snp.start = s.blockAt (s.now + Config.ticksOfUs 1) ∧ t.snp.src = s.getF MRW_SNP_CTL_SRC)) ∧
  (∀ (s : State) (m : Master),
    s.reaches m MRW_SNP_CMD = true →
    s.feat 13 = true →
    (s.getF MRW_SNP_STAT_STATE == 1) = true →
    Gives (.snpTrig m) s (fun t =>
      t.getF MRW_SNP_STAT_STATE = 2 ∧ t.get64 MRW_SNP_TRIG_LO MRW_SNP_TRIG_HI = s.now ∧ t.snp.tEnd = s.blockAt (s.now + Config.ticksOfUs (s.getF MRW_SNP_POST_POST_US)))) ∧
  (∀ (s : State) (m : Master),
    s.reaches m MRW_SNP_CMD = true →
    s.feat 13 = true →
    (s.getF MRW_SNP_STAT_STATE != 1) = true →
    Gives (.snpTrig m) s (fun t =>
      Counted MRW_SNP_STAT_EXTRA s t)) ∧
  (∀ (s : State) (m : Master),
    s.reaches m MRW_SNP_CMD = true →
    s.feat 13 = true →
    (s.getF MRW_SNP_STAT_STATE != 0) = true →
    (decide (s.getF MRW_SNP_STAT_STATE ≤ 3)) = true →
    Gives (.snapStop m) s (fun t =>
      t.getF MRW_SNP_STAT_STATE = (if s.getF MRW_SNP_STAT_STATE = 3 then 0 else 3))) ∧
  (∀ (s : State) (ts : Nat),
    (s.getF MRW_SNP_CTL_TRIG == 1) = true →
    (ts % 64 == s.clk.blockPhase) = true →
    (decide (s.get64 MRW_SNP_MATCH_LO MRW_SNP_MATCH_HI ≤ ts)) = true →
    (s.getF MRW_SNP_STAT_STATE == 1) = true →
    Gives (.snapMatchTrigger ts) s (fun t =>
      t.getF MRW_SNP_STAT_STATE = 2 ∧ t.get64 MRW_SNP_TRIG_LO MRW_SNP_TRIG_HI = ts % 2 ^ 64)) ∧
  (∀ (s : State) (n : Nat),
    (s.getF MRW_SNP_STAT_STATE == 2) = true →
    (decide (s.snp.tEnd ≤ (s.advance n).now)) = true →
    Gives (.snapDone n) s (fun t =>
      t.getF MRW_SNP_STAT_STATE = 3))

/-- Each command of the filter banks and paths, where R143, R186, R187, R191 to R199 give it its effect, answers the
next state with the bank, path state, change instant, shift, warm-up or counters that those rules give; a VOID token
passes on schedule and is not measured (R200). -/
def Obligations.BanksAndPaths : Prop :=
  (∀ (s : State) (m : Master) (v : Word),
    s.reaches m FAB_BANK_DATA = true →
    (!(s.bank (s.getF FAB_BANK_SEL_BANK)).isSealed) = true →
    (decide (2 * s.getF FAB_BANK_SEL_INDEX + 1 ≤ (s.bank (s.getF FAB_BANK_SEL_BANK)).len)) = true →
    Gives (.bankDataWrite m v) s (fun t =>
      sget coefNone (t.bank (s.getF FAB_BANK_SEL_BANK)).coefs (s.getF FAB_BANK_SEL_INDEX) = v.toNat % 2 ^ 24 ∧ t.getF FAB_BANK_SEL_INDEX = (s.getF FAB_BANK_SEL_INDEX + 1) % 256)) ∧
  (∀ (s : State) (m : Master),
    s.reaches m FAB_BANK_CMD = true →
    (s.bankUsers (s.getF FAB_BANK_SEL_BANK) == 0) = true →
    Gives (.bankOpen m) s (fun t =>
      (t.bank (s.getF FAB_BANK_SEL_BANK)).isSealed = false)) ∧
  (∀ (s : State) (m : Master),
    s.reaches m FAB_BANK_CMD = true →
    ((s.bank (s.getF FAB_BANK_SEL_BANK)).len % 2 == 1) = true →
    (decide (3 ≤ (s.bank (s.getF FAB_BANK_SEL_BANK)).len)) = true →
    (decide ((s.bank (s.getF FAB_BANK_SEL_BANK)).len ≤ bankMaxLen (s.bank (s.getF FAB_BANK_SEL_BANK)).cls)) = true →
    Gives (.bankSeal m) s (fun t =>
      (t.bank (s.getF FAB_BANK_SEL_BANK)).isSealed = true)) ∧
  (∀ (s : State) (m : Master) (n : Nat),
    s.reaches m (PTHn_CMD n) = true →
    (decide (n < 512)) = true →
    (decide (n < s.hdr.paths)) = true →
    (!(s.ktOwned && decide (n < 4) && m != .personality)) = true →
    (!(s.poolPath n && m != .core 1)) = true →
    (s.getF (PTHn_STAT_STATE n) == 0) = true →
    (!s.bankUnfit n) = true →
    (s.getF (PTHn_RS_NUM n) == 0 || decide (s.poolUsed < s.hdr.rspool)) = true →
    Gives (.pathStart m n) s (fun t =>
      t.getF (PTHn_STAT_STATE n) = 1 ∧ (t.path n).change = .start ∧ (t.path n).due = s.now + Config.ticksOfUs 1)) ∧
  (∀ (s : State) (m : Master) (n : Nat),
    s.reaches m (PTHn_CMD n) = true →
    (decide (n < 512)) = true →
    (decide (n < s.hdr.paths)) = true →
    (!(s.ktOwned && decide (n < 4) && m != .personality)) = true →
    (!(s.poolPath n && m != .core 1)) = true →
    (s.getF (PTHn_STAT_STATE n) == 2) = true →
    (!s.inFade 1 n) = true →
    ((s.path n).change == .none) = true →
    Gives (.pathStop m n) s (fun t =>
      (t.path n).change = .stop ∧ (t.path n).due = s.now + Config.ticksOfUs 1 ∧ t.getF (PTHn_STAT_STATE n) = 2)) ∧
  (∀ (s : State) (m : Master) (n : Nat),
    s.reaches m (PTHn_CMD n) = true →
    (decide (n < 512)) = true →
    (decide (n < s.hdr.paths)) = true →
    (!(s.ktOwned && decide (n < 4) && m != .personality)) = true →
    (!(s.poolPath n && m != .core 1)) = true →
    (s.getF (PTHn_STAT_STATE n) == 2) = true →
    s.inFade 1 n = true →
    Gives (.pathStop m n) s (fun t =>
      t.getF (PTHn_STAT_STATE n) = 3 ∧ (t.path n).change = (s.path n).change)) ∧
  (∀ (s : State) (m : Master) (n : Nat),
    s.reaches m (PTHn_CMD n) = true →
    (decide (n < 512)) = true →
    (decide (n < s.hdr.paths)) = true →
    (!(s.ktOwned && decide (n < 4) && m != .personality)) = true →
    (!(s.poolPath n && m != .core 1)) = true →
    (s.getF (PTHn_STAT_STATE n) == 1) = true →
    Gives (.pathStop m n) s (fun t =>
      t.getF (PTHn_STAT_STATE n) = 0 ∧ (t.path n).change = .none ∧ (t.path n).runs = Run.endAll s.now (s.path n).runs ∧ (t.path n).formed = (s.path n).formed)) ∧
  (∀ (s : State) (m : Master) (n : Nat),
    s.reaches m (PTHn_CMD n) = true →
    (decide (n < 512)) = true →
    (decide (n < s.hdr.paths)) = true →
    (!(s.ktOwned && decide (n < 4) && m != .personality)) = true →
    (!(s.poolPath n && m != .core 1)) = true →
    (s.getF (PTHn_STAT_STATE n) == 2) = true →
    ((s.path n).change == .none) = true →
    Gives (.pathSync m n) s (fun t =>
      (t.path n).change = .sync ∧ (t.path n).due = s.now + Config.ticksOfUs 1)) ∧
  (∀ (s : State) (n T : Nat),
    (decide (n < 512)) = true →
    (!s.pwr.inReset) = true →
    (T % s.pathGrid n == 0) = true →
    (decide ((s.path n).due ≤ T)) = true →
    ((s.path n).change == .start || ((s.path n).change == .sync && (s.path n).later.isNone)) = true →
    (s.getF (PTHn_STAT_STATE n) != 3) = true →
    Gives (.pathChangeInstant n T) s (fun t =>
      t.getF (PTHn_STAT_STATE n) = 2 ∧ t.get64 (PTHn_START_LO n) (PTHn_START_HI n) = T % 2 ^ 64 ∧ (t.path n).change = .none ∧ (t.path n).warmLeft = s.getF (PTHn_DSMP_SAMPLES n) ∧ t.getF (DEMn_STAT_WARMUP n) = 1)) ∧
  (∀ (s : State) (n T : Nat),
    (decide (n < 512)) = true →
    (!s.pwr.inReset) = true →
    (T % s.pathGrid n == 0) = true →
    (decide ((s.path n).due ≤ T)) = true →
    ((s.path n).change == .stop) = true →
    (!s.ktOwned) = true →
    Gives (.pathChangeInstant n T) s (fun t =>
      t.getF (PTHn_STAT_STATE n) = 0 ∧ (t.path n).change = .none ∧ (t.path n).runs = Run.endAll (s.advance T).now (s.path n).runs ∧ (t.path n).formed = (s.path n).formed ∧ t.getF (PTHn_STAT_RS_ACT n) = 0)) ∧
  (∀ (s : State) (m : Master) (n : Nat) (v : Word),
    s.reaches m (PTHn_SHIFT n) = true →
    (decide (n < 512)) = true →
    (decide (n < s.hdr.paths)) = true →
    (!(s.ktOwned && decide (n < 4) && m != .personality)) = true →
    (!(s.poolPath n && m != .core 1)) = true →
    shiftOk (s.getF (PTHn_CTL_PRESET n)) (s.getF (PTHn_CTL_BANK n)) v.toNat = true →
    (s.getF (PTHn_STAT_STATE n) == 0) = true →
    (s.path n).runs.isEmpty = true →
    Gives (.shiftWrite m n v) s (fun t =>
      (t.path n).shift = v.toNat % 2 ^ 30 ∧ (t.path n).shifts = [] ∧ (t.rd (PTHn_SHIFT n)).toNat = v.toNat % 2 ^ 30)) ∧
  (∀ (s : State) (m : Master) (n : Nat) (v : Word),
    s.reaches m (PTHn_SHIFT n) = true →
    (decide (n < 512)) = true →
    (decide (n < s.hdr.paths)) = true →
    (!(s.ktOwned && decide (n < 4) && m != .personality)) = true →
    (!(s.poolPath n && m != .core 1)) = true →
    shiftOk (s.getF (PTHn_CTL_PRESET n)) (s.getF (PTHn_CTL_BANK n)) v.toNat = true →
    (s.getF (PTHn_STAT_STATE n) != 0) = true →
    Gives (.shiftWrite m n v) s (fun t =>
      (t.path n).shifts.head? = some (ceilTo 122880 (s.now + 1), v.toNat % 2 ^ 30) ∧ (t.rd (PTHn_SHIFT n)).toNat = v.toNat % 2 ^ 30)) ∧
  (∀ (s : State) (n : Nat) (r : Run),
    (decide (n < 512)) = true →
    (!s.pwr.inReset) = true →
    ((s.path n).runs == [r]) = true →
    r.stop.isNone = true →
    s.outReady r r.out = true →
    (decide (r.lastPre r.out < r.preNext)) = true →
    (!(s.pathRecovers n r && decide (s.now < r.due))) = true →
    s.pathVoid n = true →
    ((s.path n).lost || ((r.outWindow r.out).any fun b => b.missing) || (s.gapFrom n).isNone) = true →
    Gives (.pathOutputBlock n) s (fun t =>
      (t.path n).warmLeft = (s.path n).warmLeft - 64 ∧ t.flag (PTHn_STAT_WARMUP n) = decide (64 < (s.path n).warmLeft) ∧ (∃ f, (t.path n).formed = (s.path n).formed ++ [(r.due, some ⟨r.tsOf r.out, f, List.replicate (64 * r.width) 0⟩)] ∧ f.testBit 3 = true ∧ (64 * r.out < r.dsmp → f.testBit 1 = true)) ∧ (t.path n).dropNext = false)) ∧
  (∀ (s : State) (n : Nat) (r : Run),
    (decide (n < 512)) = true →
    (!s.pwr.inReset) = true →
    ((s.path n).runs == [r]) = true →
    r.stop.isNone = true →
    s.outReady r r.out = true →
    (decide (r.lastPre r.out < r.preNext)) = true →
    (!(s.pathRecovers n r && decide (s.now < r.due))) = true →
    (!s.pathVoid n) = true →
    ((r.outWindow r.out).any fun b => b.missing) = true →
    Gives (.pathOutputBlock n) s (fun t =>
      (t.path n).warmLeft = (s.path n).warmLeft - 64 ∧ t.flag (PTHn_STAT_WARMUP n) = decide (64 < (s.path n).warmLeft) ∧ (t.path n).formed = (s.path n).formed ++ [(r.due, none)] ∧ (t.path n).dropNext = true ∧ Counted (PTHn_DROP_CNT n) s t)) ∧
  (∀ (s : State) (n : Nat) (r : Run),
    (decide (n < 512)) = true →
    (!s.pwr.inReset) = true →
    ((s.path n).runs == [r]) = true →
    r.stop.isNone = true →
    s.outReady r r.out = true →
    (decide (r.lastPre r.out < r.preNext)) = true →
    (!(s.pathRecovers n r && decide (s.now < r.due))) = true →
    (!s.pathVoid n) = true →
    ((r.outWindow r.out).all fun b => !b.missing && !b.flags.testBit 0) = true →
    Gives (.pathOutputBlock n) s (fun t =>
      (t.path n).warmLeft = (s.path n).warmLeft - 64 ∧ t.flag (PTHn_STAT_WARMUP n) = decide (64 < (s.path n).warmLeft) ∧ (∃ f, (t.path n).formed = (s.path n).formed ++ [(r.due, some ⟨r.tsOf r.out, f, r.outSamples r.out⟩)] ∧ ((s.path n).dropNext = true → f.testBit 7 = true) ∧ (64 * r.out < r.dsmp → f.testBit 1 = true)) ∧ (t.path n).dropNext = false)) ∧
  (∀ (s : State) (kind inst ts period : Nat),
    (!s.pwr.inReset) = true →
    Gives (.voidToken kind inst ts period) s (fun t =>
      (kind = 1 → (t.path inst).voids.head? = some ⟨ts, ts + 64 * period - 1, 8⟩) ∧ (kind ≠ 1 → t.fab.voids.head? = some (kind, inst, ⟨ts, ts + 64 * period - 1, 8⟩))))

/-- Each command of AM, FM and RDS reception, where R214 to R224 give it its effect, answers the next state with the
configuration, metrics, synchronisation, block counters and PI that those rules give. -/
def Obligations.Reception : Prop :=
  (∀ (s : State) (m : Master) (n r : Nat) (v : Word),
    s.reaches m (DEMn_CTL n + 4 * r) = true →
    (decide (n < 512)) = true →
    (decide (r < 3)) = true →
    (decide (n < s.hdr.paths)) = true →
    (!(s.ktOwned && decide (n < 4) && m != .personality)) = true →
    (!(s.poolPath n && m != .core 1)) = true →
    (!(r == 0 && s.getF (PTHn_STAT_STATE n) != 0 && !demCtlKeeps (s.rd (DEMn_CTL n + 4 * r)).toNat v.toNat)) = true →
    regOk (DEMn_CTL n + 4 * r) v = true →
    demPairOk r v.toNat = true →
    Gives (.demConfigWrite m n r v) s (fun t =>
      t.rd (DEMn_CTL n + 4 * r) = BitVec.ofNat 32 (fieldsWrite (regFields (DEMn_CTL n + 4 * r)) (s.rd (DEMn_CTL n + 4 * r)).toNat v.toNat) ∧ (s.getF (PTHn_STAT_STATE n) = 0 → (t.dem n).ctl = (t.rd (DEMn_CTL n)).toNat))) ∧
  (∀ (s : State) (n start : Nat) (r : Run),
    (decide (n < 512)) = true →
    (!s.pwr.inReset) = true →
    s.pathRunning n = true →
    ((s.path n).runs == [r]) = true →
    (start % 15728640 == 0) = true →
    (decide ((s.dem n).window ≤ start)) = true →
    (decide (r.base ≤ start)) = true →
    (r.chanCount (start + 15728639) == 0) = true →
    Gives (.metricWindow n start) s (fun t =>
      (t.dem n).toPublish = (s.dem n).toPublish ++ [(metricsOf n start (decide (start + 15728640 < s.pathOrigin n + 196608000)) (measOf r ((r.chan.filter fun b => decide (max start (s.dem n).counted ≤ b.ts) && decide (b.ts < start + 15728640)).reverse) (if s.pathVoid n then 8 else 0)) s)] ∧ t.flag (DEMn_STAT_QVALID n) = (metricsOf n start (decide (start + 15728640 < s.pathOrigin n + 196608000)) (measOf r ((r.chan.filter fun b => decide (max start (s.dem n).counted ≤ b.ts) && decide (b.ts < start + 15728640)).reverse) (if s.pathVoid n then 8 else 0)) s).valid ∧ (t.dem n).ctl = s.demWord n 0 (start + 15728640) ∧ (t.dem n).window = start + 15728640)) ∧
  (∀ (s : State) (n : Nat) (m : Metrics) (rest : List Metrics),
    (decide (n < 512)) = true →
    ((s.dem n).toPublish == m :: rest) = true →
    Gives (.metricPublish n) s (fun t =>
      (t.dem n).toPublish = rest ∧ (m.valid = true → t.get64 (DEMn_QTS_LO n) (DEMn_QTS_HI n) = m.start % 2 ^ 64) ∧ (m.valid = true → -32768 ≤ m.rssi → m.rssi ≤ 32767 → t.getI (DEMn_LVL_RSSI n) = m.rssi) ∧ (m.warm = false → t.getF (DEMn_STAT_WARMUP n) = 0))) ∧
  (∀ (s : State) (n bit w T : Nat) (r : Run),
    (decide (n < 512)) = true →
    (decide (w < 67108864)) = true →
    s.pathRunning n = true →
    (s.getF (PTHn_CTL_TYPE n) == 1) = true →
    s.flag (DEMn_CTL_RDS n) = true →
    ((s.path n).runs == [r]) = true →
    (r.chanCount (T + rdsTicks) == 0) = true →
    s.rdsTimed n bit T = true →
    s.flag (DEMn_STAT_RDS_SYNC n) = true →
    (rdsMod w == rdsOffset 5) = true →
    Gives (.rdsBlock n bit w T) s (fun t =>
      Counted (DEMn_RDSCNT2_OFFE n) s t ∧ (t.dem n).group = [] ∧ (t.dem n).pos = ((s.dem n).pos + 1) % 4)) ∧
  (∀ (s : State) (n bit w T : Nat) (r : Run),
    (decide (n < 512)) = true →
    (decide (w < 67108864)) = true →
    s.pathRunning n = true →
    (s.getF (PTHn_CTL_TYPE n) == 1) = true →
    s.flag (DEMn_CTL_RDS n) = true →
    ((s.path n).runs == [r]) = true →
    (r.chanCount (T + rdsTicks) == 0) = true →
    s.rdsTimed n bit T = true →
    s.flag (DEMn_STAT_RDS_SYNC n) = true →
    (rdsMod w != rdsOffset 5) = true →
    ((rdsAt bit w T (s.dem n).pos).cls == 3) = true →
    Gives (.rdsBlock n bit w T) s (fun t =>
      Counted (DEMn_RDSBLK_BAD n) s t)) ∧
  (∀ (s : State) (n bit w T : Nat) (r : Run),
    (decide (n < 512)) = true →
    (decide (w < 67108864)) = true →
    s.pathRunning n = true →
    (s.getF (PTHn_CTL_TYPE n) == 1) = true →
    s.flag (DEMn_CTL_RDS n) = true →
    ((s.path n).runs == [r]) = true →
    (r.chanCount (T + rdsTicks) == 0) = true →
    s.rdsTimed n bit T = true →
    s.flag (DEMn_STAT_RDS_SYNC n) = true →
    (rdsMod w == rdsOffset 0) = true →
    ((s.dem n).pos == 0) = true →
    (decide (((false :: (s.dem n).last50).take 50).count true ≤ 20)) = true →
    (s.getF (DEMn_RDSQ_RUN n) == 3) = true →
    (s.getF (DEMn_PI_CAND n) == w / 1024) = true →
    (!s.flag (DEMn_STAT_PI_CONF n)) = true →
    Gives (.rdsBlock n bit w T) s (fun t =>
      t.getF (DEMn_PI_PI n) = w / 1024 ∧ t.getF (DEMn_STAT_PI_CONF n) = 1 ∧ (t.dem n).group = [⟨bit, 0, 0, w / 1024, T⟩] ∧ (t.dem n).pos = 1)) ∧
  (∀ (s : State) (n bit w T : Nat) (r : Run) (a b : RdsBlock),
    (decide (n < 512)) = true →
    (decide (w < 67108864)) = true →
    s.pathRunning n = true →
    (s.getF (PTHn_CTL_TYPE n) == 1) = true →
    s.flag (DEMn_CTL_RDS n) = true →
    ((s.path n).runs == [r]) = true →
    (r.chanCount (T + rdsTicks) == 0) = true →
    s.rdsTimed n bit T = true →
    (!s.flag (DEMn_STAT_RDS_SYNC n)) = true →
    (rdsClean bit w T == some b) = true →
    (((s.dem n).cand.find? fun x => rdsPair x b) == some a) = true →
    Gives (.rdsBlock n bit w T) s (fun t =>
      t.getF (DEMn_STAT_RDS_SYNC n) = 1 ∧ (t.dem n).cand = [])) ∧
  (∀ (s : State) (n T : Nat),
    (decide (n < 512)) = true →
    s.flag (DEMn_STAT_PI_CONF n) = true →
    (!s.flag (DEMn_STAT_RDS_SYNC n)) = true →
    (decide ((s.dem n).unsyncAt + 7864320000 ≤ (s.advance T).now)) = true →
    Gives (.piTimeout n T) s (fun t =>
      t.getF (DEMn_STAT_PI_CONF n) = 0 ∧ t.getF (DEMn_PI_PI n) = 0))

/-- Each command of an ensemble slot, where R231 to R237 and R243 give it its effect, answers the next state with the
slot state, organisation, quality fields or record that those rules give. -/
def Obligations.EnsembleSlots : Prop :=
  (∀ (s : State) (m : Master) (n : Nat),
    s.reaches m (ENSs_CMD n) = true →
    (decide (n < 48)) = true →
    (decide (n < s.hdr.ens)) = true →
    (s.slotState n == 0) = true →
    Gives (.ensStart m n) s (fun t =>
      t.slotState n = 1 ∧ (t.slot n).change = .start ∧ (t.slot n).due = s.now + Config.ticksOfUs 1)) ∧
  (∀ (s : State) (m : Master) (n : Nat),
    s.reaches m (ENSs_CMD n) = true →
    (decide (n < 48)) = true →
    (decide (n < s.hdr.ens)) = true →
    (s.slotState n == 2 || s.slotState n == 3) = true →
    (!s.slotInFade n) = true →
    ((s.slot n).change == .none) = true →
    Gives (.ensStop m n) s (fun t =>
      (t.slot n).change = .stop ∧ (t.slot n).due = s.now + Config.ticksOfUs 1 ∧ t.slotState n = s.slotState n)) ∧
  (∀ (s : State) (m : Master) (n : Nat),
    s.reaches m (ENSs_CMD n) = true →
    (decide (n < 48)) = true →
    (decide (n < s.hdr.ens)) = true →
    (s.slotState n == 1) = true →
    Gives (.ensStop m n) s (fun t =>
      t.slotState n = 0 ∧ t.slot n = {})) ∧
  (∀ (s : State) (m : Master) (n : Nat),
    s.reaches m (ENSs_CMD n) = true →
    (decide (n < 48)) = true →
    (decide (n < s.hdr.ens)) = true →
    (s.slotState n == 2 || s.slotState n == 3) = true →
    ((s.slot n).change == .none) = true →
    Gives (.ensResync m n) s (fun t =>
      (t.slot n).change = .sync ∧ (t.slot n).due = s.now + Config.ticksOfUs 1)) ∧
  (∀ (s : State) (n T : Nat),
    (decide (n < 48)) = true →
    (!s.pwr.inReset) = true →
    (T % 122880 == 0) = true →
    (decide ((s.slot n).due ≤ T)) = true →
    ((s.slot n).change == .start) = true →
    Gives (.slotReleaseInstant n T) s (fun t =>
      t.slotState n = 2 ∧ t.slot n = {})) ∧
  (∀ (s : State) (n T : Nat),
    (decide (n < 48)) = true →
    (!s.pwr.inReset) = true →
    (T % 122880 == 0) = true →
    (decide ((s.slot n).due ≤ T)) = true →
    ((s.slot n).change == .sync) = true →
    (s.slot n).later.isNone = true →
    (s.slotState n != 4) = true →
    Gives (.slotReleaseInstant n T) s (fun t =>
      t.slotState n = 2 ∧ (t.slot n).change = .none ∧ (t.slot n).org = none ∧ t.getF (ENSs_EID_VALID n) = 0)) ∧
  (∀ (s : State) (n T : Nat),
    (decide (n < 48)) = true →
    (!s.pwr.inReset) = true →
    (T % 122880 == 0) = true →
    (decide ((s.slot n).due ≤ T)) = true →
    ((s.slot n).change == .stop) = true →
    Gives (.slotReleaseInstant n T) s (fun t =>
      t.slotState n = 0 ∧ t.slot n = {})) ∧
  (∀ (s : State) (n : Nat) (nulls : List Nat) (prs : Bool) (foff : Int) (err : Nat),
    (decide (n < 48)) = true →
    (s.slotState n == 2) = true →
    lockOk nulls prs foff err = true →
    Gives (.ensLock n nulls prs foff err) s (fun t =>
      t.slotState n = 3 ∧ (t.slot n).frames = [(nulls.getLastD 0, 0xFFFF)])) ∧
  (∀ (s : State) (n : Nat) (nulls : List Nat) (prs : Bool) (foff : Int) (err : Nat),
    (decide (n < 48)) = true →
    (s.slotState n == 2) = true →
    (!lockOk nulls prs foff err) = true →
    Gives (.ensLock n nulls prs foff err) s (fun t =>
      t = s)) ∧
  (∀ (s : State) (n T period : Nat),
    (decide (n < 48)) = true →
    (s.slotState n == 3) = true →
    s.lostOk n T period = true →
    Gives (.ensLost n T period) s (fun t =>
      t.slotState n = 2 ∧ Counted (ENSs_CNT_SYNCLOSS n) s t ∧ t.getF (ENSs_STAT_FIC_OK n) = 0 ∧ (t.slot n).org = none)) ∧
  (∀ (s : State) (n eid cif : Nat) (f : Frame),
    (decide (n < 48)) = true →
    (!s.pwr.inReset) = true →
    s.slotLocked n = true →
    (fig00Read f == some (eid, cif)) = true →
    (decide (eid < 65536)) = true →
    (decide (cif < 5000)) = true →
    Gives (.ensFrame n f) s (fun t =>
      t.getF (ENSs_STAT_FIC_OK n) = 1 ∧ t.getF (ENSs_EID_EID n) = eid ∧ t.getF (ENSs_EID_CIF n) = cif ∧ t.get64 (ENSs_QTS_LO n) (ENSs_QTS_HI n) = f.ts % 2 ^ 64 ∧ t.getF (ENSs_FIC_FICBER n) = min 65535 f.ficBer ∧ t.getI (ENSs_LVL_MER n) = clampInt (-100) 400 (merOf (errorSums (s.slotSides n f.foff f.ts) f.foff f.ts)) ∧ t.getF ⟨ENSs_ERASE n, 31, 0⟩ = min (s.getF ⟨ENSs_ERASE n, 31, 0⟩ + s.frameErasures n f.ts) 4294967295 ∧ (t.slot n).frames.head? = some (f.ts, cif) ∧ (f.org.isSome = true → (t.slot n).org = f.org))) ∧
  (∀ (s : State) (n sub cif f : Nat) (bytes : List Nat),
    (decide (n < 48)) = true →
    (decide (sub < 64)) = true →
    (decide (cif < 5000)) = true →
    (s.frameOf n cif == some f) = true →
    ((s.slot n).cif != cif) = true →
    s.slotLocked n = true →
    (s.get64 (ENSs_SUBOUT_LO n) (ENSs_SUBOUT_HI n)).testBit sub = true →
    (((s.slot n).org.getD []).any (fun c => c.id == sub)) = true →
    (decide (bytes.length ≤ 6912)) = true →
    (!s.abandonedIn 2 n (s.cifInstant n f (cif % 4)) (s.cifInstant n f (cif % 4) + frameTicks / 4 - 1)) = true →
    s.flag NET_CAS_CTL_SIDE = true →
    (s.getF NET_CAS_CTL_TYPES).testBit 4 = true →
    Gives (.subchRecord n sub cif bytes) s (fun t =>
      (t.slot n).cif = cif ∧ (t.recs.any fun x => x.1 == 0 && x.2.2.type == 5 && x.2.2.bytes == leNat 8 (s.cifInstant n f (cif % 4)) ++ leNat 2 (s.logicalFlags n f (cif % 4) 1 ||| (if (s.slot n).dropNext then 128 else 0)) ++ [n, sub] ++ leNat 2 cif ++ leNat 2 bytes.length ++ pad8 bytes) = true)) ∧
  (∀ (s : State) (n : Nat) (org : List SubCh),
    (decide (n < 48)) = true →
    s.slotLocked n = true →
    Gives (.multiplexReconfig n org) s (fun t =>
      (t.slot n).org = some org))

/-- Each command of an audio decoder, where R238 to R242 give it its effect, answers the next state with the decoder
state, WAIT reason, latency, format and concealment counts that those rules give; a deferred stop proceeds once its
fade has ended (R275). -/
def Obligations.AudioDecoders : Prop :=
  (∀ (s : State) (m : Master) (d : Nat),
    s.reaches m (DECd_CMD d) = true →
    (decide (d < 128)) = true →
    (decide (d < s.hdr.dec)) = true →
    (!(s.flag (DECd_CTL_OWNER d) && m != .core 1)) = true →
    (s.decState d == 0) = true →
    Gives (.decStart m d) s (fun t =>
      t.decState d = 1 ∧ t.flag (DECd_CTL_OWNER d) = decide (m = .core 1) ∧ t.getF (DECd_STAT_WAIT d) = s.waitReason d)) ∧
  (∀ (s : State) (m : Master) (d : Nat),
    s.reaches m (DECd_CMD d) = true →
    (decide (d < 128)) = true →
    (decide (d < s.hdr.dec)) = true →
    (!(s.flag (DECd_CTL_OWNER d) && m != .core 1)) = true →
    (s.decState d == 2) = true →
    (!s.inFade 2 d) = true →
    ((s.decoder d).change == .none) = true →
    Gives (.decStop m d) s (fun t =>
      (t.decoder d).change = .stop ∧ (t.decoder d).due = ceilTo 5242880 (s.now + 1) ∧ t.decState d = 2)) ∧
  (∀ (s : State) (m : Master) (d : Nat),
    s.reaches m (DECd_CMD d) = true →
    (decide (d < 128)) = true →
    (decide (d < s.hdr.dec)) = true →
    (!(s.flag (DECd_CTL_OWNER d) && m != .core 1)) = true →
    (s.decState d == 2) = true →
    s.inFade 2 d = true →
    Gives (.decStop m d) s (fun t =>
      t.decState d = 3 ∧ t.rd (DECd_LAT d) = 0)) ∧
  (∀ (s : State) (m : Master) (d : Nat),
    s.reaches m (DECd_CMD d) = true →
    (decide (d < 128)) = true →
    (decide (d < s.hdr.dec)) = true →
    (!(s.flag (DECd_CTL_OWNER d) && m != .core 1)) = true →
    (s.decState d == 1) = true →
    ((s.decoder d).change == .none) = true →
    Gives (.decStop m d) s (fun t =>
      (t.decoder d).change = .stop ∧ (t.decoder d).due = ceilTo 5242880 (s.now + 1) ∧ t.decState d = 1)) ∧
  (∀ (s : State) (d cif t0 : Nat) (st sbr ps : Bool) (core : Nat) (c : SubCh),
    (decide (d < 128)) = true →
    (decide (core < 4)) = true →
    (s.decSub d == some c) = true →
    (s.cifAt (s.getF (DECd_CTL_SLOT d)) cif == some t0) = true →
    (s.decState d == 1) = true →
    ((s.decoder d).change == .none) = true →
    (s.waitReason d == 0) = true →
    (codecOf c.ascTy == 1 || cif % 5 == 0) = true →
    ((s.advance (ceilTo 5242880 t0 + (if codecOf c.ascTy = 1 then 1572864000 else 2044723200))).now == ceilTo 5242880 t0 + (if codecOf c.ascTy = 1 then 1572864000 else 2044723200)) = true →
    Gives (.decRun d cif st sbr ps core) s (fun t =>
      t.decState d = 2 ∧ t.getF (DECd_STAT_WAIT d) = 0 ∧ t.getF (DECd_LAT_TICKS d) = (if codecOf c.ascTy = 1 then 1572864000 else 2044723200) ∧ t.getF (DECd_FMT_CODEC_ACT d) = codecOf c.ascTy ∧ (t.decoder d).warmLeft = 1152 ∧ (t.decoder d).runAt = ceilTo 5242880 t0 ∧ t.flag (DECd_STAT_STEREO d) = st)) ∧
  (∀ (s : State) (d : Nat),
    (decide (d < 128)) = true →
    (s.decState d == 2) = true →
    (s.waitReason d != 0) = true →
    Gives (.decWait d) s (fun t =>
      t.decState d = 1 ∧ t.getF (DECd_STAT_WAIT d) = s.waitReason d ∧ t.rd (DECd_LAT d) = 0)) ∧
  (∀ (s : State) (d cif au good rs lo hi : Nat),
    (decide (d < 128)) = true →
    (s.decState d == 2 || s.decState d == 3) = true →
    s.auNamed d false au = true →
    (s.audioSpan d cif au false == some (lo, hi)) = true →
    (s.decoder d).fails.isEmpty = true →
    Gives (.decConceal d false cif au good rs) s (fun t =>
      Counted (DECd_CNT_CONCEAL d) s t ∧ (t.decoder d).fails = [(lo, hi)] ∧ t.getF (DECd_QUAL_ERR d) = ((true :: (goodPush good (s.decoder d).errBal (s.decoder d).errs).1).take 100).count true)) ∧
  (∀ (s : State) (d cif au good rs : Nat),
    (decide (d < 128)) = true →
    (s.decState d == 2 || s.decState d == 3) = true →
    Gives (.decConceal d true cif au good rs) s (fun t =>
      t.getF (DECd_QUAL_SFFAIL d) = ((true :: (goodPush good (s.decoder d).sfBal (s.decoder d).sfs).1).take 100).count true ∧ t.getF (DECd_CNT_RSCORR d) = min (s.getF (DECd_CNT_RSCORR d) + rs) 65535 ∧ t.getF (DECd_CNT_CONCEAL d) = s.getF (DECd_CNT_CONCEAL d))) ∧
  (∀ (s : State) (d : Nat),
    (decide (d < 128)) = true →
    (!s.inFade 2 d) = true →
    (s.decState d == 3) = true →
    Gives (.pathDeferredStop true d) s (fun t =>
      (t.decoder d).change = .stop ∧ (t.decoder d).due = ceilTo 5242880 (s.now + 1))) ∧
  (∀ (s : State) (n : Nat),
    (decide (n < 512)) = true →
    (!s.inFade 1 n) = true →
    (s.getF (PTHn_STAT_STATE n) == 3) = true →
    Gives (.pathDeferredStop false n) s (fun t =>
      (t.path n).change = .stop ∧ (t.path n).due = s.now))

/-- RESET_N low for its minimum time, a brown-out and a thermal trip put the part in the internal reset with the cause
of R56 recorded and nothing else kept; the reset ends only with the supplies good and no trip held, with the straps as
sampled; temperature readings warn as R59 says; HK_STOP and the PCIe events act without resetting the part. That a
pulse from 100 ns to 1 µs takes effect only as its operand says is the spec's own may-or-may-not (R54); that the hold
of a thermal trip outlives a loss of VDD_NV is the model's choice (log 105). -/
def Obligations.ResetAndSupplies : Prop :=
  (∀ (s : State) (ns : Nat) (took : Bool),
    (decide (1000 ≤ ns) || (decide (100 ≤ ns) && took)) = true →
    Gives (.resetNAssert ns took) s (fun t =>
      t.pwr.inReset = true ∧ t.pwr.tripHold = false ∧ t.pwr.railsOk = s.pwr.railsOk ∧ t.pwr.porDone = s.pwr.porDone ∧ t.getF SYS_RSTCAUSE_PIN = 1 ∧ t.getF SYS_THERM_TRIP = s.getF SYS_THERM_TRIP ∧ (∀ a, a ≠ SYS_RSTCAUSE → a ≠ SYS_THERM → t.rd a = regReset a) ∧ t.mem = [] ∧ t.counting = false ∧ t.pending = s.pending ∧ t.sec.otp = s.sec.otp ∧ t.sec.nv = s.sec.nv)) ∧
  (∀ (s : State) (ns : Nat) (took : Bool),
    (decide (ns < 100) || (decide (ns < 1000) && !took)) = true →
    Gives (.resetNAssert ns took) s (fun t =>
      t = s)) ∧
  (∀ (s : State),
    Gives (.railsAboveBrownoutThreshold) s (fun t =>
      (t.pwr.railsOk = true ∧ t.pwr.inReset = s.pwr.inReset) ∧ Within [] s t)) ∧
  (∀ (s : State),
    s.pwr.railsOk = true →
    Gives (.powerOnTimingDone) s (fun t =>
      (t.pwr.porDone = true) ∧ Within [] s t)) ∧
  (∀ (s : State) (sp : Straps) (early : Bool) (q : Temps) (lic : Bool),
    s.pwr.inReset = true →
    s.pwr.railsOk = true →
    s.pwr.porDone = true →
    (!s.pwr.tripHold) = true →
    (q.ts.length == 8) = true →
    (!tripReading q) = true →
    (!s.pwr.hot || q.ts.all (fun x => decide (x < 420))) = true →
    (decide (sp.bootSrc < 4)) = true →
    (decide (sp.cfgSel < 4)) = true →
    Gives (.internalResetEnd sp early q lic) s (fun t =>
      t.pwr.inReset = false ∧ t.pins.vid = some 20 ∧ t.pins.qspi = decide (sp.bootSrc = 0 ∨ sp.bootSrc = 2) ∧ t.getF SYS_STRAP_CFG_SEL = sp.cfgSel ∧ t.getF SYS_STRAP_BOOT_SRC = sp.bootSrc ∧ t.flag SYS_STRAP_HB_MODE = sp.hbMode ∧ t.flag SYS_STRAP_EARLY = early ∧ (sp.bootSrc = 1 → t.flag SYS_BOOT_WAIT_HOST = true) ∧ (sp.bootSrc = 3 → t.getF SYS_BOOT_ERR = 10 ∧ t.flag SYS_BOOT_RECOVERY = true ∧ t.flag SYS_BOOT_WAIT_HOST = true))) ∧
  (∀ (s : State) (rails : Nat),
    (rails % 256 != 0) = true →
    Gives (.brownout rails false) s (fun t =>
      t.pwr.inReset = true ∧ t.pwr.railsOk = false ∧ t.pwr.porDone = false ∧ t.rd SYS_RSTCAUSE = s.rd SYS_RSTCAUSE ||| BitVec.ofNat 32 (rails % 256) ∧ t.mem = [])) ∧
  (∀ (s : State) (rails : Nat),
    (rails % 256 != 0) = true →
    Gives (.brownout rails true) s (fun t =>
      t.pwr.inReset = true ∧ t.pwr.railsOk = false ∧ t.getF SYS_RSTCAUSE_POR = 1 ∧ t.getF SYS_RSTCAUSE_PIN = 0 ∧ t.getF SYS_THERM_TRIP = 0 ∧ t.pwr.tripHold = s.pwr.tripHold)) ∧
  (∀ (s : State) (q : Temps),
    (!s.pwr.inReset) = true →
    (q.ts.length == 8) = true →
    (!tripReading q) = true →
    (q.ts.any fun x => decide (4 * (s.getF SYS_THERM_CFG_WARN_C : Int) ≤ x)) = true →
    Gives (.thermWarn q) s (fun t =>
      (t.flag SYS_THERM_WARN = true ∧ t.getF SYS_THERM_HOTTEST = hottest q.ts ∧ t.pwr.temps = q.ts ∧ (s.flag SYS_THERM_WARN = false → 3 ≤ s.stage → t.getF ⟨EVT_Gg_STAT 7, 0, 0⟩ = 1)) ∧ Within [(0, 0x1000), (0x1000, 0x2000), (0x30000, 0x34000), (0x68000, 0x70000)] s t)) ∧
  (∀ (s : State) (q : Temps),
    (!s.pwr.inReset) = true →
    (q.ts.length == 8) = true →
    (!tripReading q) = true →
    (q.ts.all fun x => decide (x ≤ 4 * (s.getF SYS_THERM_CFG_WARN_C : Int) - 8)) = true →
    Gives (.thermWarn q) s (fun t =>
      (t.flag SYS_THERM_WARN = false ∧ t.pwr.temps = q.ts) ∧ Within [(0, 0x1000)] s t)) ∧
  (∀ (s : State) (q : Temps),
    (q.ts.length == 8) = true →
    tripReading q = true →
    Gives (.thermWarn q) s (fun t =>
      t.pwr.inReset = true ∧ t.pwr.tripHold = true ∧ t.getF SYS_RSTCAUSE_THERM = 1 ∧ t.getF SYS_THERM_TRIP = 1)) ∧
  (∀ (s : State) (q : Temps),
    (q.ts.any fun x => decide (510 ≤ x)) = true →
    Gives (.thermalTrip q) s (fun t =>
      t.pwr.inReset = true ∧ t.pwr.tripHold = true ∧ t.getF SYS_RSTCAUSE_THERM = 1 ∧ t.getF SYS_THERM_TRIP = 1)) ∧
  (∀ (s : State),
    (!s.pwr.inReset) = true →
    Gives (.hkStop) s (fun t =>
      (t.getF CLK_STAT_HK_OK = 0 ∧ t.pwr.inReset = false ∧ t.getF SLK_STAT_LOCK = 0) ∧ Within [(0x2000, 0x3000), (0x48000, 0x4C000), (0x4C000, 0x50000), (0x1000, 0x2000), (0x30000, 0x34000), (0x68000, 0x70000)] s t)) ∧
  (∀ (s : State),
    (!s.pwr.inReset) = true →
    Gives (.hkRestore) s (fun t =>
      (t.getF CLK_STAT_HK_OK = 1) ∧ Within [(0x2000, 0x3000)] s t)) ∧
  (∀ (s : State),
    Gives (.perstAssert) s (fun t =>
      t.getF SYS_RSTCAUSE_PERST = 1 ∧ t.pins.perstN = false ∧ t.pwr.inReset = s.pwr.inReset)) ∧
  (∀ (s : State),
    (!s.pwr.inReset) = true →
    Gives (.perstAssert) s (fun t =>
      (t.pins.perstN = false ∧ t.pwr.pcieAnswers = false ∧ t.flag PCI_STAT_UP = false ∧ t.getF SYS_RSTCAUSE_PERST = 1 ∧ t.stage = s.stage ∧ t.boot = s.boot) ∧ Within [(0, 0x1000), (0x3C000, 0x40000), (0x1000, 0x2000), (0x30000, 0x34000), (0x68000, 0x70000)] s t)) ∧
  (∀ (s : State),
    Gives (.perstRelease) s (fun t =>
      (t.pins.perstN = true) ∧ Within [] s t)) ∧
  (∀ (s : State) (gen lanes : Nat),
    (!s.pwr.inReset) = true →
    s.pins.perstN = true →
    s.flag CLK_DOM_PCI = true →
    (decide (1 ≤ gen)) = true →
    (decide (gen ≤ 4)) = true →
    (lanes == 1 || lanes == 2 || lanes == 4) = true →
    Gives (.pcieLinkChange true gen lanes) s (fun t =>
      (t.flag PCI_STAT_UP = true ∧ t.getF PCI_STAT_GEN = gen ∧ t.getF PCI_STAT_WIDTH = lanes ∧ t.pwr.pcieAnswers = true) ∧ Within [(0x3C000, 0x40000), (0x1000, 0x2000), (0x30000, 0x34000), (0x68000, 0x70000)] s t)) ∧
  (∀ (s : State) (gen lanes : Nat),
    (!s.pwr.inReset) = true →
    Gives (.pcieLinkChange false gen lanes) s (fun t =>
      (t.flag PCI_STAT_UP = false ∧ t.pwr.pcieAnswers = false ∧ (∀ q, q < 64 → t.flag (PCI_Qq_CTL_EN q) = false)) ∧ Within [(0x3C000, 0x40000), (0x1000, 0x2000), (0x30000, 0x34000), (0x68000, 0x70000)] s t))

/-- Each step of the boot, where R63 to R80 give it its effect, answers the next state with the boot state, the error
record, the image in use or the recovery those rules give; a verified image is taken only where every check of R71
passes. -/
def Obligations.BootSteps : Prop :=
  (∀ (s : State) (n : Nat),
    (!s.pwr.inReset) = true →
    (!s.flag MRW_STAT_INIT_DONE) = true →
    (n % 16 == 15) = true →
    Gives (.marrowInitDone n) s (fun t =>
      (t.mem = [] ∧ t.flag MRW_STAT_INIT_DONE = true ∧ t.getF MRW_STAT_STACK_OK = 15) ∧ Within [(0x30000, 0x34000)] s t)) ∧
  (∀ (s : State) (n : Nat),
    (!s.pwr.inReset) = true →
    (!s.flag MRW_STAT_INIT_DONE) = true →
    (n % 16 != 15) = true →
    Gives (.marrowInitDone n) s (fun t =>
      (t.flag MRW_STAT_INIT_DONE = false ∧ t.getF SYS_BOOT_ERR = 8 ∧ t.getF SYS_BOOT_ERR_IMG = 0 ∧ t.getF MRW_STAT_STACK_OK = n % 16) ∧ Within [(0, 0x1000), (0x30000, 0x34000)] s t)) ∧
  (∀ (s : State) (hz : Nat),
    (!s.pwr.inReset) = true →
    (!s.boot.refDone) = true →
    (classifyRef hz != 0) = true →
    Gives (.refMeasureDone hz) s (fun t =>
      (t.getF CLK_STAT_REF_DET = classifyRef hz ∧ t.getF CLK_CTL_SRC = 0 ∧ t.spll = 2 ∧ t.getF SPLL_N_INT = (stdDivider (classifyRef hz)).1 ∧ t.boot.refDone = true) ∧ Within [(0x2000, 0x3000)] s t)) ∧
  (∀ (s : State) (hz : Nat),
    (!s.pwr.inReset) = true →
    (!s.boot.refDone) = true →
    (classifyRef hz == 0) = true →
    Gives (.refMeasureDone hz) s (fun t =>
      (t.getF CLK_CTL_SRC = 2 ∧ t.spll = 1 ∧ t.boot.refDone = true) ∧ Within [(0x2000, 0x3000)] s t)) ∧
  (∀ (s : State) (k : Nat) (l : List Byte),
    s.readsDir k = true →
    (dirCheck l == 0) = true →
    (s.boot.straps.cfgSel == 0) = true →
    (leAt l 8 4 != 0) = true →
    (leAt l 16 4 != 0) = true →
    Gives (.directoryRead k l) s (fun t =>
      (t.getF SYS_BOOT_ENTRY = 0 ∧ t.boot.entry = [leAt l 8 4, leAt l 12 4, leAt l 16 4, leAt l 20 4] ∧ t.boot.fwTry = 0 ∧ t.boot.bsTry = 0 ∧ t.boot.dirNext = 2) ∧ Within [(0, 0x1000)] s t)) ∧
  (∀ (s : State) (l : List Byte),
    s.readsDir 0 = true →
    (dirCheck l != 0) = true →
    Gives (.directoryRead 0 l) s (fun t =>
      (t.getF SYS_BOOT_ERR = dirCheck l ∧ t.getF SYS_BOOT_ERR_IMG = 1 ∧ Counted SYS_BOOT_FAILS s t ∧ t.boot.dirNext = 1 ∧ t.flag SYS_BOOT_RECOVERY = s.flag SYS_BOOT_RECOVERY) ∧ Within [(0, 0x1000)] s t)) ∧
  (∀ (s : State) (k : Nat),
    s.readsDir k = true →
    (k == 1) = true →
    Gives (.directoryReadTimeout k) s (fun t =>
      (t.getF SYS_BOOT_ERR = 7 ∧ t.flag SYS_BOOT_RECOVERY = true ∧ t.flag SYS_BOOT_WAIT_HOST = true ∧ Counted SYS_BOOT_FAILS s t) ∧ Within [(0, 0x1000)] s t)) ∧
  (∀ (s : State) (l : List Byte) (v : SigVerdict) (hash : Nat),
    let x := if s.boot.hostLoad then s.hostFirmware else l; let h := fwHdrOf x hash; let g := fwSigOf x v;
    s.readsImage = true →
    s.boot.fw.isNone = true →
    (s.fwCheck h g == 0) = true →
    Gives (.imageVerify (.firmware l v hash)) s (fun t =>
      (t.boot.fw = some h ∧ t.boot.fwKey = g ∧ t.flag SYS_BOOT_FW_ALT = (!s.boot.hostLoad && s.boot.fwTry == 1)) ∧ Within [(0, 0x1000)] s t)) ∧
  (∀ (s : State) (l : List Byte) (v : SigVerdict) (hash : Nat),
    let x := if s.boot.hostLoad then s.hostFirmware else l; let h := fwHdrOf x hash; let g := fwSigOf x v;
    s.readsImage = true →
    s.boot.fw.isNone = true →
    (s.fwCheck h g != 0) = true →
    (!s.boot.hostLoad) = true →
    (s.boot.fwTry == 0) = true →
    (s.boot.entry.getD 1 0 != 0) = true →
    Gives (.imageVerify (.firmware l v hash)) s (fun t =>
      t.getF SYS_BOOT_ERR = s.fwCheck h g ∧ t.getF SYS_BOOT_ERR_IMG = 2 ∧ Counted SYS_BOOT_FAILS s t ∧ t.boot.fwTry = 1 ∧ t.boot.fw = none)) ∧
  (∀ (s : State) (l : List Byte) (v : SigVerdict) (hash : Nat),
    let x := if s.boot.hostLoad then s.hostFirmware else l; let h := fwHdrOf x hash; let g := fwSigOf x v;
    s.readsImage = true →
    s.boot.fw.isNone = true →
    (s.fwCheck h g != 0) = true →
    s.boot.hostLoad = true →
    Gives (.imageVerify (.firmware l v hash)) s (fun t =>
      t.getF SYS_BOOT_ERR = s.fwCheck h g ∧ t.getF SYS_BOOT_ERR_IMG = 2 ∧ Counted SYS_BOOT_FAILS s t ∧ t.flag SYS_BOOT_WAIT_HOST = true ∧ t.boot.fw = none)) ∧
  (∀ (s : State) (f : BsFile) (v : SigVerdict) (hash : Nat) (w : FwHdr),
    let x := if s.boot.hostLoad then s.hostBitstream else f; let h := bsHdrOf x hash; let g := bsSigOf x v;
    s.readsImage = true →
    (s.boot.fw == some w) = true →
    s.flag MRW_STAT_INIT_DONE = true →
    (s.bsCheck w.families h g == 0) = true →
    Gives (.imageVerify (.bitstream f v hash)) s (fun t =>
      (t.boot.bs = some h ∧ t.boot.bsKey = g ∧ t.boot.configuring = true ∧ (s.boot.hostLoad = false → t.mem = memPut (s.regionBase 3) (fileBytes f) s.mem ∧ t.boot.bsAt = 0)) ∧ Within [(0, 0x1000)] s t)) ∧
  (∀ (s : State) (f : BsFile) (v : SigVerdict) (hash : Nat) (w : FwHdr),
    let x := if s.boot.hostLoad then s.hostBitstream else f; let h := bsHdrOf x hash; let g := bsSigOf x v;
    s.readsImage = true →
    (s.boot.fw == some w) = true →
    s.flag MRW_STAT_INIT_DONE = true →
    (s.bsCheck w.families h g != 0) = true →
    (!s.boot.hostLoad) = true →
    (s.boot.bsTry == 0) = true →
    (s.boot.entry.getD 3 0 != 0) = true →
    Gives (.imageVerify (.bitstream f v hash)) s (fun t =>
      t.getF SYS_BOOT_ERR = s.bsCheck w.families h g ∧ t.getF SYS_BOOT_ERR_IMG = 3 ∧ Counted SYS_BOOT_FAILS s t ∧ t.boot.bsTry = 1 ∧ t.boot.bs = s.boot.bs)) ∧
  (∀ (s : State) (n k : Nat) (h : BsHdr) (f : FwHdr),
    (s.boot.bs == some h) = true →
    (s.boot.fw == some f) = true →
    s.boot.configuring = true →
    (!s.pwr.inReset) = true →
    (decide (h.secver ≤ 64)) = true →
    (decide (f.secver ≤ 64)) = true →
    (decide (k < 8)) = true →
    Gives (.fabricConfigured n) s (fun t =>
      t.stage = 2 ∧ t.counting = true ∧ t.now = releaseAt (((startCount s).advance n).now + 1) ∧ t.boot.configuring = false ∧ t.getF SEC_SV_FW_SV = f.secver ∧ t.getF SEC_SV_BS_SV = h.secver ∧ t.getF FAB_STAT_CONF = 1 ∧ (t.core k).code = f.code.getD k [] ∧ (t.core k).pc = BitVec.ofNat 24 (f.sections.getD k ⟨0, 0⟩).entry ∧ (t.core k).desc 15 = ⟨0x30000000, 196608, 0, false⟩)) ∧
  (∀ (s : State),
    (s.stage == 2) = true →
    (!s.pwr.inReset) = true →
    Gives (.firmwareReady) s (fun t =>
      (t.stage = 3 ∧ t.rd (FEAT_OFFER 0) = BitVec.ofNat 32 s.hdr.offer) ∧ Within [(0, 0x1000)] s t)) ∧
  (∀ (s : State) (m : Master),
    s.reaches m SYS_BOOT_CMD = true →
    s.flag SYS_BOOT_WAIT_HOST = true →
    Gives (.bootLoad m) s (fun t =>
      t.flag SYS_BOOT_WAIT_HOST = false ∧ t.boot.hostLoad = true ∧ t.boot.fw = none ∧ t.boot.bs = none)) ∧
  (∀ (s : State) (m : Master),
    s.reaches m SYS_BOOT_CMD = true →
    (!s.flag SYS_BOOT_WAIT_HOST) = true →
    Gives (.bootLoad m) s (fun t =>
      t.getF ⟨SYS_REFUSE, 31, 28⟩ = codeWrongState ∧ Counted ⟨SYS_REFUSE, 15, 0⟩ s t ∧ t.boot = s.boot))

/-- FEAT_ACCEPT keeps the bits already active and refuses clearing one (R82); LOCK takes the candidate set as it
stands and refuses a second while BUSY (R81); its completion writes ACTIVE and REJECT from R28 and enters RUN the
first time (R81); in KT-440 mode firmware locks bit 17 by itself (R84), and the personality becomes READY once its
four paths have warmed up (R85). -/
def Obligations.Negotiation : Prop :=
  (∀ (s : State) (m : Master) (w : Nat) (v : Word),
    (decide (w < 4)) = true →
    s.reaches m (FEAT_ACCEPT w) = true →
    (v &&& s.rd (FEAT_ACTIVE w) == s.rd (FEAT_ACTIVE w)) = true →
    Gives (.featAcceptWrite m w v) s (fun t =>
      (t.rd (FEAT_ACCEPT w) = v) ∧ Within [(FEAT_ACCEPT w, FEAT_ACCEPT w + 4), (0x68000, 0x70000)] s t)) ∧
  (∀ (s : State) (m : Master) (w : Nat) (v : Word),
    (decide (w < 4)) = true →
    s.reaches m (FEAT_ACCEPT w) = true →
    (v &&& s.rd (FEAT_ACTIVE w) != s.rd (FEAT_ACTIVE w)) = true →
    Gives (.featAcceptWrite m w v) s (fun t =>
      t.rd (FEAT_ACCEPT w) = v ||| s.rd (FEAT_ACTIVE w) ∧ t.getF ⟨SYS_REFUSE, 31, 28⟩ = codeLocked ∧ Counted ⟨SYS_REFUSE, 15, 0⟩ s t)) ∧
  (∀ (s : State) (m : Master),
    s.reaches m FEAT_LOCK = true →
    (decide (3 ≤ s.stage)) = true →
    (!s.flag FEAT_LOCK_BUSY) = true →
    Gives (.featLock m) s (fun t =>
      t.flag FEAT_LOCK_BUSY = true ∧ t.boot.lockAsk = s.feat128 FEAT_ACCEPT ∧ (t.boot.lock.map fun x => x.1) = some (s.feat128 FEAT_ACTIVE ||| (s.feat128 FEAT_ACCEPT &&& s.feat128 FEAT_OFFER)))) ∧
  (∀ (s : State) (m : Master),
    s.reaches m FEAT_LOCK = true →
    (decide (3 ≤ s.stage)) = true →
    s.flag FEAT_LOCK_BUSY = true →
    Gives (.featLock m) s (fun t =>
      t.getF ⟨SYS_REFUSE, 31, 28⟩ = codeBusy ∧ Counted ⟨SYS_REFUSE, 15, 0⟩ s t ∧ t.boot = s.boot)) ∧
  (∀ (s : State) (cand : Nat) (aud bb snap : Bool),
    (s.boot.lock == some (cand, aud, bb, snap)) = true →
    (decide (s.boot.lockAsk < 2 ^ 128)) = true →
    Gives (.lockComplete) s (fun t =>
      t.feat128 FEAT_ACTIVE = featFix (s.feat128 FEAT_ACTIVE) aud bb snap s.boot.straps.hbMode 24 cand ∧ t.feat128 FEAT_REJECT = s.boot.lockAsk - (s.boot.lockAsk &&& t.feat128 FEAT_ACTIVE) ∧ t.getF FEAT_LOCK_BUSY = 0 ∧ t.getF FEAT_LOCK_DONE = 1 ∧ Counted FEAT_LOCK_ROUNDS s t ∧ t.boot.lock = none ∧ t.stage = (if s.stage = 3 then 4 else s.stage))) ∧
  (∀ (s : State),
    (!s.pwr.inReset) = true →
    s.boot.straps.hbMode = true →
    (decide (3 ≤ s.stage)) = true →
    (!s.feat 17) = true →
    (!s.boot.ktRejected) = true →
    (!s.flag FEAT_LOCK_BUSY) = true →
    Gives (.kt440AutoLock) s (fun t =>
      t.flag FEAT_LOCK_BUSY = true ∧ (t.rd (FEAT_ACCEPT 0)).getLsbD 17 = true)) ∧
  (∀ (s : State),
    s.ktOwned = true →
    s.firmwareOn 0 = true →
    (!s.flag CMP_STAT_READY) = true →
    ([0, 1, 2, 3].all fun n => s.pathRunning n && s.getF (PTHn_STAT_WARMUP n) == 0) = true →
    Gives (.personalityReady) s (fun t =>
      t.flag CMP_STAT_READY = true ∧ t.getF CMP_STAT_BUSY = 0))

/-- Whatever candidate set a lock took, each feature bit that is in FEAT_ACTIVE afterwards and was not before meets
its requirement of R28 in the set as it then stands. -/
def Obligations.FeatureRequirements : Prop :=
  (∀ (s : State) (cand : Nat) (aud bb snap : Bool),
    (s.boot.lock == some (cand, aud, bb, snap)) = true →
    Gives (.lockComplete) s (fun t =>
      ∀ n, n < 128 → t.feat n = true → s.feat n = true ∨ featMeets (t.feat128 FEAT_ACTIVE) aud bb snap s.boot.straps.hbMode n = true))

/-- KEY starts the PA sequence where every condition of R467 holds and is refused otherwise; its timers raise the
balls in the order VDD, BIAS, RF and lower them in the reverse order (R466 to R468); a recognised PA fault drops
PA_RF_EN and mutes at once and the sequence runs down (R469); AUTOKEY keys again after 1 s of unbroken lock (R471);
pre-distortion suspends, converges, reverts and resets (R482 to R484); the coupler commits (R481). -/
def Obligations.ExciterSequence : Prop :=
  (∀ (s : State) (m : Master),
    s.reaches m EXC_CMD = true →
    s.keyOk = true →
    (s.excState == 0) = true →
    Gives (.excKey m) s (fun t =>
      (t.excState = 1 ∧ t.pins.paVdd = true ∧ t.pins.paBias = false ∧ t.pins.paRf = false ∧ t.pins.dacMuted = true ∧ t.exc.step = .biasUp ∧ t.exc.due = s.now + s.getF EXC_SEQ_VDD_MS * Config.ticksPerMs) ∧ Within [(0x48000, 0x4C000), (0x68000, 0x70000)] s t)) ∧
  (∀ (s : State) (m : Master),
    s.reaches m EXC_CMD = true →
    (!s.keyOk) = true →
    Gives (.excKey m) s (fun t =>
      t.excState = s.excState ∧ t.pins = s.pins ∧ t.getF EXC_STAT_CODE = codeWrongState ∧ Counted EXC_STAT_REFCNT s t)) ∧
  (∀ (s : State) (m : Master),
    s.reaches m EXC_CMD = true →
    (s.excState == 3 || s.excState == 4) = true →
    (!s.exc.down) = true →
    Gives (.excUnkey m) s (fun t =>
      (t.excState = 5 ∧ t.exc.down = true ∧ t.exc.due = s.now + s.getF EXC_SEQ_RAMP_MS * Config.ticksPerMs ∧ t.getF EXC_STAT_MCAUSE = causeHost) ∧ Within [(0x48000, 0x4C000), (0x68000, 0x70000)] s t)) ∧
  (∀ (s : State) (m : Master),
    s.reaches m EXC_CMD = true →
    (s.excState == 7) = true →
    s.pins.paFaultN = true →
    s.exc.faultDone = true →
    Gives (.excClear m) s (fun t =>
      t.excState = 0 ∧ t.pins.paVdd = false ∧ t.pins.paBias = false ∧ t.pins.paRf = false)) ∧
  (∀ (s : State) (m : Master),
    s.reaches m EXC_CMD = true →
    (s.excState == 0 || s.excState == 6) = true →
    Gives (.dpdReset m) s (fun t =>
      t.exc.dpd.coefs = [] ∧ t.exc.dpd.converged = false ∧ t.exc.dpd.updated = false)) ∧
  (∀ (s : State) (n : Nat),
    (s.exc.step == .biasUp) = true →
    (decide (s.exc.due ≤ n)) = true →
    Gives (.excSequenceTimer n) s (fun t =>
      (t.excState = 2 ∧ t.pins.paVdd = true ∧ t.pins.paBias = true ∧ t.pins.paRf = false ∧ t.exc.step = .rfUp) ∧ Within [(0x48000, 0x4C000)] s t)) ∧
  (∀ (s : State) (n : Nat),
    (s.exc.step == .rfUp) = true →
    (decide (s.exc.due ≤ n)) = true →
    (s.getF (CALn_STAT_STATE 4) != 2) = true →
    Gives (.excSequenceTimer n) s (fun t =>
      (t.excState = 3 ∧ t.pins.paVdd = true ∧ t.pins.paBias = true ∧ t.pins.paRf = true ∧ t.pins.dacMuted = false) ∧ Within [(0x48000, 0x4C000)] s t)) ∧
  (∀ (s : State) (n : Nat),
    (s.exc.step == .faultBias) = true →
    (decide (s.exc.due ≤ n)) = true →
    Gives (.excSequenceTimer n) s (fun t =>
      (t.pins.paBias = false ∧ t.pins.paRf = false ∧ t.pins.dacMuted = true ∧ t.pins.paVdd = s.pins.paVdd ∧ t.exc.step = .faultVdd ∧ t.excState = s.excState) ∧ Within [] s t)) ∧
  (∀ (s : State) (i n : Nat),
    (i == 8) = true →
    (decide (s.exc.due ≤ n)) = true →
    (s.excState == 3) = true →
    Gives (.excRampEnd i n) s (fun t =>
      (t.excState = 4 ∧ t.pins.paRf = true ∧ t.pins.dacMuted = false) ∧ Within [(0x48000, 0x4C000)] s t)) ∧
  (∀ (s : State) (i n : Nat),
    (decide (i < 8)) = true →
    (s.getF (XLi_STAT_STATE i) == 1) = true →
    Gives (.excRampEnd i n) s (fun t =>
      (t.getF (XLi_STAT_STATE i) = (if (s.lane i).down then 0 else 2)) ∧ Within [(0x48000, 0x4C000)] s t)) ∧
  (∀ (s : State) (ns : Nat) (took : Bool),
    (!s.pwr.inReset) = true →
    (decide (100 ≤ ns) || (decide (20 ≤ ns) && took)) = true →
    (decide (1 ≤ s.excState)) = true →
    (decide (s.excState ≤ 6)) = true →
    Gives (.paFault true ns took) s (fun t =>
      (t.excState = 7 ∧ t.pins.paRf = false ∧ t.pins.dacMuted = true ∧ t.pins.paVdd = s.pins.paVdd ∧ t.pins.paBias = s.pins.paBias ∧ t.getF EXC_STAT_MCAUSE = causePaFault ∧ t.getF EXC_STAT_PAFLT = 1 ∧ Counted EXC_PAFLT_CNT_CNT s t ∧ Counted EXC_CNT_MUTES s t ∧ t.exc.step = .faultBias) ∧ Within [(0x48000, 0x4C000), (0x1000, 0x2000), (0x30000, 0x34000), (0x68000, 0x70000)] s t)) ∧
  (∀ (s : State) (ns : Nat) (took : Bool),
    (decide (ns < 20) || (decide (ns < 100) && !took)) = true →
    Gives (.paFault true ns took) s (fun t =>
      t = s)) ∧
  (∀ (s : State) (ns : Nat) (took : Bool),
    (!s.pwr.inReset) = true →
    Gives (.paFault false ns took) s (fun t =>
      (t.pins.paFaultN = true ∧ t.excState = s.excState) ∧ Within [] s t)) ∧
  (∀ (s : State) (n : Nat),
    (s.advance n).flag EXC_CTL_AUTOKEY = true →
    (s.excState == 6) = true →
    s.exc.heldBySpll = true →
    s.inLock = true →
    (decide (s.clk.lockedAt + Config.ticksPerSecond ≤ (s.advance n).now)) = true →
    (s.advance n).keyOk = true →
    Gives (.autokey n) s (fun t =>
      t.excState = 3 ∧ t.pins.paRf = true ∧ t.exc.heldBySpll = false)) ∧
  (∀ (s : State) (bad : Bool),
    s.flag EXC_CTL_DPD_EN = true →
    (!s.exc.dpd.suspended) = true →
    s.dpdStops bad = true →
    Gives (.dpdSuspend bad) s (fun t =>
      (t.exc.dpd.suspended = true ∧ t.getF EXC_STAT_DPD = 3 ∧ t.exc.dpd.coefs = s.exc.dpd.coefs) ∧ Within [(0x48000, 0x4C000), (0x1000, 0x2000), (0x30000, 0x34000), (0x68000, 0x70000)] s t)) ∧
  (∀ (s : State) (x : Int) (cs : List (Int × Int)),
    s.flag EXC_CTL_DPD_EN = true →
    s.firmwareOn 5 = true →
    (!s.dpdStops false) = true →
    (decide (x ≤ s.nmseTh)) = true →
    (s.exc.dpd.good == 2) = true →
    (!s.exc.dpd.converged) = true →
    Gives (.dpdUpdate x cs) s (fun t =>
      (t.exc.dpd.converged = true ∧ t.exc.dpd.saved = some (coefTable cs) ∧ t.exc.dpd.coefs = coefTable cs ∧ t.getF EXC_STAT_DPD = 2) ∧ Within [(0x48000, 0x4C000), (0x1000, 0x2000), (0x30000, 0x34000), (0x68000, 0x70000)] s t)) ∧
  (∀ (s : State) (x : Int) (cs : List (Int × Int)),
    s.flag EXC_CTL_DPD_EN = true →
    s.firmwareOn 5 = true →
    (!s.dpdStops false) = true →
    (decide (s.nmseTh + 60 < x)) = true →
    (s.exc.dpd.bad == 2) = true →
    Gives (.dpdUpdate x cs) s (fun t =>
      (t.exc.dpd.coefs = s.exc.dpd.saved.getD [] ∧ Counted EXC_DPD_STAT_REVERT s t) ∧ Within [(0x48000, 0x4C000)] s t)) ∧
  (∀ (s : State) (m : Master),
    s.reaches m EXC_CPL_CMD = true →
    ((let l := (List.range 8).map fun j => s.getF (EXC_CPL_MHZ j); l.take (l.filter (· != 0)).length == l.filter (· != 0) && ascending (l.filter (· != 0)))) = true →
    Gives (.couplerCommit m) s (fun t =>
      (t.getF EXC_CPL_STAT_VALID = 1) ∧ Within [(0x48000, 0x4C000), (0x68000, 0x70000)] s t))

/-- A lane is enabled only with a source, a carrier and a licence that R464, R459 and R478 allow; the power loop moves
it by at most 0.5 dB (R475); overpower and the third template window mute it (R476, R479); RDS groups, DAB frames and
content blocks are sent, or the gap of R465 and the SOURCE mute follow (R462 to R465). -/
def Obligations.ExciterLanes : Prop :=
  (∀ (s : State) (m : Master) (i : Nat) (v : Word),
    (decide (i < 8)) = true →
    s.reaches m (XLi_CTL i) = true →
    (!s.flag (XLi_CTL_EN i)) = true →
    v.toNat.testBit 31 = true →
    (s.laneSrcCode (bitsOf v.toNat 29 28) (bitsOf v.toNat 24 16) == 0) = true →
    regOk (XLi_CTL i) v = true →
    s.loadOk i = true →
    carrierOk (s.getF (XLi_FREQ_HZ i)) (s.getF EXC_CENTRE_HZ) = true →
    (s.exc.lic.isNone || s.laneReason i == 0) = true →
    (!s.laneDab i) = true →
    (s.excState == 4) = true →
    Gives (.laneEnableWrite m i v) s (fun t =>
      (t.flag (XLi_CTL_EN i) = true ∧ t.getF (XLi_STAT_STATE i) = 1) ∧ Within [(0x48000, 0x4C000), (0x68000, 0x70000)] s t)) ∧
  (∀ (s : State) (m : Master) (i : Nat) (v : Word),
    (decide (i < 8)) = true →
    s.reaches m (XLi_CTL i) = true →
    s.flag (XLi_CTL_EN i) = true →
    (!v.toNat.testBit 31) = true →
    (v.toNat % 2 ^ 31 == (s.rd (XLi_CTL i)).toNat % 2 ^ 31) = true →
    ((regPut (XLi_CTL i) v s).rd (XLi_CTL i) == v) = true →
    (s.getF (XLi_STAT_STATE i) == 2) = true →
    Gives (.laneEnableWrite m i v) s (fun t =>
      (t.flag (XLi_CTL_EN i) = false ∧ (t.lane i).down = true ∧ t.getF (XLi_STAT_STATE i) = 1) ∧ Within [(0x48000, 0x4C000), (0x68000, 0x70000)] s t)) ∧
  (∀ (s : State) (m : Master) (i : Nat) (v : Word),
    (decide (i < 8)) = true →
    s.reaches m (XLi_CTL i) = true →
    (!s.flag (XLi_CTL_EN i)) = true →
    v.toNat.testBit 31 = true →
    (s.laneSrcCode (bitsOf v.toNat 29 28) (bitsOf v.toNat 24 16) == 0) = true →
    regOk (XLi_CTL i) v = true →
    s.loadOk i = true →
    carrierOk (s.getF (XLi_FREQ_HZ i)) (s.getF EXC_CENTRE_HZ) = true →
    s.exc.lic.isSome = true →
    (s.laneReason i != 0) = true →
    Gives (.laneEnableWrite m i v) s (fun t =>
      t.rd (XLi_CTL i) = s.rd (XLi_CTL i) ∧ t.getF EXC_LIC_STAT_REASON = s.laneReason i ∧ t.getF EXC_STAT_CODE = codeReserved)) ∧
  (∀ (s : State) (i : Nat) (orx g c : Int),
    (decide (i < 8)) = true →
    s.firmwareOn 5 = true →
    s.laneOn i = true →
    (s.ceiling i == some c) = true →
    ((s.lane i).gain == some g) = true →
    Gives (.powerLoopUpdate i orx) s (fun t =>
      ((t.lane i).gain = some (g + clampInt (-5) 5 (min (s.getI (XLi_PWR_TGT i)) c - (s.forward i orx + 5) / 10)) ∧ t.flag (XLi_STAT_HELD10 i) = s.hold10) ∧ Within [(0x48000, 0x4C000)] s t)) ∧
  (∀ (s : State) (i : Nat) (orx : Int) (e : LicEntry),
    (decide (i < 8)) = true →
    s.laneOn i = true →
    (s.licEntry (s.getF (XLi_FREQ_HZ i)) == some e) = true →
    (decide (10 * e.maxp + 100 < s.forward i orx)) = true →
    Gives (.overpowerCheck i orx) s (fun t =>
      (t.getF (XLi_STAT_STATE i) = 3 ∧ t.getF (XLi_STAT_MCAUSE i) = causeOverpower ∧ t.getF (XLi_PWR_GAIN i) = 0x8000) ∧ Within [(0x48000, 0x4C000), (0x1000, 0x2000), (0x30000, 0x34000), (0x68000, 0x70000)] s t)) ∧
  (∀ (s : State) (i : Nat) (orx : Int) (e : LicEntry),
    (decide (i < 8)) = true →
    s.laneOn i = true →
    (s.licEntry (s.getF (XLi_FREQ_HZ i)) == some e) = true →
    (!decide (10 * e.maxp + 100 < s.forward i orx)) = true →
    Gives (.overpowerCheck i orx) s (fun t =>
      t = s)) ∧
  (∀ (s : State) (i : Nat) (sp : List (Nat × Int)),
    (decide (i < 8)) = true →
    s.firmwareOn 5 = true →
    s.orxClean = true →
    s.flag EXC_CTL_DPD_EN = true →
    s.laneOn i = true →
    sp.any (s.breaks i) = true →
    (decide (2 ≤ (s.lane i).tplRun)) = true →
    Gives (.templateCheck i sp true) s (fun t =>
      (t.getF (XLi_STAT_STATE i) = 3 ∧ t.getF (XLi_STAT_MCAUSE i) = causeTemplate ∧ (t.lane i).tplRun = 0) ∧ Within [(0x48000, 0x4C000), (0x1000, 0x2000), (0x30000, 0x34000), (0x68000, 0x70000)] s t)) ∧
  (∀ (s : State) (i : Nat) (sp : List (Nat × Int)),
    (decide (i < 8)) = true →
    s.firmwareOn 5 = true →
    s.orxClean = true →
    s.flag EXC_CTL_DPD_EN = true →
    s.laneOn i = true →
    (!sp.any (s.breaks i)) = true →
    Gives (.templateCheck i sp true) s (fun t =>
      ((t.lane i).tplRun = 0 ∧ t.getF (XLi_STAT_STATE i) = s.getF (XLi_STAT_STATE i)) ∧ Within [] s t)) ∧
  (∀ (s : State) (i n : Nat) (g : List Nat) (q : List (List Nat)),
    (decide (i < 8)) = true →
    s.laneOn i = true →
    s.flag (XLi_RDS_EN i) = true →
    ((s.lane i).rdsLast.isNone || decide ((s.lane i).rdsAt + 344457216 ≤ n)) = true →
    ((s.lane i).rdsq == g :: q) = true →
    Gives (.excRdsGroupSend i n) s (fun t =>
      ((t.lane i).rdsLast = some g ∧ (t.lane i).rdsq = q ∧ (t.lane i).rdsAt = n) ∧ Within [] s t)) ∧
  (∀ (s : State) (g ts : Nat) (msc : List (Nat × List (List Nat))),
    (decide (g < 2)) = true →
    s.flag (EXC_GRPg_CTL_MODE g) = true →
    s.flag (XLi_CTL_EN (4 * g)) = true →
    s.slotLocked (s.getF (EXC_GRPg_CTL_SLOT g)) = true →
    s.flag (ENSs_STAT_FIC_OK (s.getF (EXC_GRPg_CTL_SLOT g))) = true →
    s.laneOn (4 * g) = true →
    Gives (.excDabFrame g ts msc) s (fun t =>
      ((t.lane (4 * g)).dab = some ⟨ts + s.getF (EXC_GRPg_CTL_DLY_MS g) * Config.ticksPerMs, s.slotFic (s.getF (EXC_GRPg_CTL_SLOT g)) ts, s.slotSubs (s.getF (EXC_GRPg_CTL_SLOT g)) msc⟩) ∧ Within [(0x48000, 0x4C000)] s t)) ∧
  (∀ (s : State) (g ts : Nat) (msc : List (Nat × List (List Nat))),
    (decide (g < 2)) = true →
    s.flag (EXC_GRPg_CTL_MODE g) = true →
    s.flag (XLi_CTL_EN (4 * g)) = true →
    (!s.slotLocked (s.getF (EXC_GRPg_CTL_SLOT g))) = true →
    s.laneOn (4 * g) = true →
    Gives (.excDabFrame g ts msc) s (fun t =>
      (t.getF (XLi_STAT_STATE (4 * g)) = 3 ∧ t.getF (XLi_STAT_MCAUSE (4 * g)) = causeSource) ∧ Within [(0x48000, 0x4C000), (0x1000, 0x2000), (0x30000, 0x34000), (0x68000, 0x70000)] s t)) ∧
  (∀ (s : State) (i ts : Nat) (b : Block),
    (decide (i < 8)) = true →
    s.laneOn i = true →
    (!s.laneDab i) = true →
    (s.getF (XLi_CTL_KIND i) != 0) = true →
    (!(s.lane i).gap) = true →
    (((s.lane i).content.find? fun x => x.ts == ts) == some b) = true →
    (!s.abandoned 5 i (s.contentRelease i ts)) = true →
    (s.taken 5 i b == b) = true →
    Gives (.excContentSend i ts) s (fun t =>
      ((t.lane i).sent = some (s.contentRelease i ts + s.getF (XLi_CDLY_MS i) * Config.ticksPerMs + 4718592, (stereo b.samples).flatMap fun p => [p.1, p.2]) ∧ (t.lane i).content = ((s.lane i).content.filter fun x => decide (ts < x.ts)) ∧ (t.lane i).gap = false ∧ (t.lane i).wave = ((fmSend i (s.contentRelease i ts + s.getF (XLi_CDLY_MS i) * Config.ticksPerMs + 4718592) (stereo b.samples) s).lane i).wave ∧ t.getF (XLi_CNT_DEVCLIP i) = (fmSend i (s.contentRelease i ts + s.getF (XLi_CDLY_MS i) * Config.ticksPerMs + 4718592) (stereo b.samples) s).getF (XLi_CNT_DEVCLIP i) ∧ t.getF (XLi_CNT_MISSING i) = s.getF (XLi_CNT_MISSING i)) ∧ Within [(0x48000, 0x4C000)] s t)) ∧
  (∀ (s : State) (i ts : Nat),
    (decide (i < 8)) = true →
    s.laneOn i = true →
    (!s.laneDab i) = true →
    (s.getF (XLi_CTL_KIND i) != 0) = true →
    (((s.lane i).content.find? fun x => x.ts == ts).isNone || s.abandoned 5 i (s.contentRelease i ts)) = true →
    Gives (.excContentSend i ts) s (fun t =>
      ((t.lane i).gap = true ∧ Counted (XLi_CNT_MISSING i) s t ∧ (t.lane i).sent.map (fun x => x.2) = some ((List.range 64).flatMap fun (j : Nat) => [roundEven ((s.lane i).lastL * (63 - j)) 64, roundEven ((s.lane i).lastR * (63 - j)) 64])) ∧ Within [(0x48000, 0x4C000)] s t))

/-- Each command of the service link, where R489 to R509 give it its effect, answers the next state with the link
state, pins, reason, abort cause and counters that those rules give. -/
def Obligations.ServiceLink : Prop :=
  (∀ (s : State) (m : Master) (c : Nat),
    s.reaches m SLK_CMD = true →
    (decide (c < 128)) = true →
    s.slUsed c = true →
    (s.slState == 3) = true →
    s.flag SLK_STAT_LOCK = true →
    (s.getF SLK_STAT_CH == c) = true →
    Gives (.slStandby m false c) s (fun t =>
      (t.slState = 2 ∧ t.flag SLK_STAT_LOCK = true ∧ t.pins.slFemRx = false) ∧ Within [(0x4C000, 0x50000), (0x68000, 0x70000)] s t)) ∧
  (∀ (s : State) (m : Master) (c : Nat),
    s.reaches m SLK_CMD = true →
    (decide (c < 128)) = true →
    s.slUsed c = true →
    (s.slState == 0) = true →
    s.slGood c = true →
    s.slk.cal.isNone = true →
    Gives (.slRx m false c) s (fun t =>
      (t.slState = 1 ∧ t.getF SLK_STAT_CH = c ∧ t.slk.goal = 3 ∧ t.slk.lockBy = s.now + Config.ticksOfUs 100 + Config.ticksOfUs 40) ∧ Within [(0x4C000, 0x50000), (0x2000, 0x3000), (0x68000, 0x70000)] s t)) ∧
  (∀ (s : State) (m : Master) (c : Nat),
    s.reaches m SLK_CMD = true →
    (decide (c < 128)) = true →
    s.slUsed c = true →
    (decide (4 ≤ s.slState)) = true →
    (decide (s.slState ≤ 6)) = true →
    Gives (.slRx m false c) s (fun t =>
      (t.slState = s.slState ∧ t.getF SLK_STAT_CODE = codeBusy ∧ Counted SLK_STAT_REFCNT s t ∧ t.slk = s.slk) ∧ Within [(0x4C000, 0x50000), (0x68000, 0x70000)] s t)) ∧
  (∀ (s : State) (m : Master) (c : Nat) (b : SlBand) (k : Nat),
    s.reaches m SLK_CMD = true →
    (decide (c < 128)) = true →
    s.slUsed c = true →
    (s.slState == 2 || s.slState == 3) = true →
    (s.slReason c == 0) = true →
    (s.slBand c == some (b, k)) = true →
    (b.lbt == -128) = true →
    s.flag SLK_STAT_LOCK = true →
    (s.getF SLK_STAT_CH == c) = true →
    s.slk.rx.isNone = true →
    s.slk.cal.isNone = true →
    (!s.flag SLK_CTL_COEX_EN) = true →
    Gives (.slTx m false c) s (fun t =>
      (t.slState = 6 ∧ t.pins.slFemTx = true ∧ t.pins.slFemRx = false ∧ t.slk.txCh = c ∧ t.slk.txAt = s.now ∧ t.slk.sent = slPacket (if s.flag SLK_PHY_MODP then 0x80 else 0) s.slPayload ∧ t.slk.symbols = s.slModulate t.slk.sent) ∧ Within [(0x4C000, 0x50000), (0x68000, 0x70000)] s t)) ∧
  (∀ (s : State) (m : Master) (c : Nat),
    s.reaches m SLK_CMD = true →
    (decide (c < 128)) = true →
    s.slUsed c = true →
    (s.slReason c != 0) = true →
    Gives (.slTx m false c) s (fun t =>
      (t.slState = s.slState ∧ t.getF SLK_TXSTAT_REASON = s.slReason c ∧ Counted SLK_CNT5_REFUSED s t ∧ t.pins.slReq = s.pins.slReq) ∧ Within [(0x4C000, 0x50000), (0x1000, 0x2000), (0x30000, 0x34000), (0x68000, 0x70000)] s t)) ∧
  (∀ (s : State) (m : Master),
    s.reaches m SLK_CMD = true →
    (s.slState == 2 || s.slState == 3) = true →
    Gives (.slOff m) s (fun t =>
      (t.slState = 0 ∧ t.flag SLK_STAT_LOCK = false ∧ t.pins.slFemRx = false ∧ t.pins.slReq = false) ∧ Within [(0x4C000, 0x50000), (0x2000, 0x3000), (0x68000, 0x70000)] s t)) ∧
  (∀ (s : State) (m : Master) (c : Nat),
    s.reaches m SLK_CMD = true →
    (decide (c < 128)) = true →
    s.slUsed c = true →
    (s.slState == 2) = true →
    s.slTable = true →
    s.slk.cal.isNone = true →
    Gives (.slCal m false c) s (fun t =>
      (t.slState = 1 ∧ t.slk.cal = some c ∧ t.slk.goal = 2 ∧ t.flag SLK_STAT_LOCK = false) ∧ Within [(0x4C000, 0x50000), (0x2000, 0x3000), (0x68000, 0x70000)] s t)) ∧
  (∀ (s : State) (m : Master),
    s.reaches m SLK_CMD = true →
    (s.slState == 6) = true →
    Gives (.slAbort m) s (fun t =>
      (t.getF SLK_TXSTAT_ACAUSE = 1 ∧ Counted SLK_CNT4_TXABORT s t ∧ t.slState ≠ 6 ∧ t.pins.slReq = false ∧ t.pins.slFemTx = false) ∧ Within [(0x4C000, 0x50000), (0x2000, 0x3000), (0x1000, 0x2000), (0x30000, 0x34000), (0x68000, 0x70000)] s t)) ∧
  (∀ (s : State) (n : Nat) (trims : List Byte) (ok : Bool),
    s.flag CLK_STAT_HK_OK = true →
    s.slk.cal.isNone = true →
    (s.slState == 1) = true →
    (!s.flag SLK_STAT_LOCK) = true →
    s.slUsed (s.getF SLK_STAT_CH) = true →
    s.slGood (s.getF SLK_STAT_CH) = true →
    (decide (s.slk.goal < 4)) = true →
    Gives (.slLock n trims ok) s (fun t =>
      (t.slState = s.slk.goal ∧ t.flag SLK_STAT_LOCK = true ∧ t.getF CLK_DOM_SLK = 1 ∧ t.slk.n = 4 * s.getF (SLK_CH_KHZ (s.getF SLK_STAT_CH)) / 25000 ∧ t.slk.lfsr = s.getF SLK_DSEED_SEED) ∧ Within [(0x4C000, 0x50000), (0x2000, 0x3000)] s t)) ∧
  (∀ (s : State) (n : Nat) (trims : List Byte),
    s.flag CLK_STAT_HK_OK = true →
    s.slk.cal.isNone = true →
    (s.slState == 1) = true →
    (!s.flag SLK_STAT_LOCK) = true →
    s.slUsed (s.getF SLK_STAT_CH) = true →
    s.slTable = true →
    (!s.slGood (s.getF SLK_STAT_CH)) = true →
    (decide (s.slk.goal < 4)) = true →
    Gives (.slLock n trims true) s (fun t =>
      (t.slState = s.slk.goal ∧ t.flag SLK_STAT_LOCK = true ∧ (t.slEntry (s.getF SLK_STAT_CH)).trims = trims ∧ t.slGood (s.getF SLK_STAT_CH) = true ∧ Counted (CALn_CNT_RUNS 5) s t) ∧ Within [(0x4C000, 0x50000), (0x2000, 0x3000), (0x50000, 0x58000), (0x1000, 0x2000), (0x30000, 0x34000), (0x68000, 0x70000)] s t)) ∧
  (∀ (s : State) (n : Nat),
    s.flag SLK_STAT_LOCK = true →
    (s.slState == 3) = true →
    Gives (.slLockLoss n) s (fun t =>
      (t.slState = 1 ∧ t.flag SLK_STAT_LOCK = false) ∧ Within [(0x4C000, 0x50000), (0x2000, 0x3000)] s t)) ∧
  (∀ (s : State) (ch : Nat) (db : Int) (p : SlDetect),
    s.slHeard p = true →
    (s.slState == 3) = true →
    Gives (.slPreambleDetect ch db p) s (fun t =>
      (t.slState = 4 ∧ t.slk.rx.map (fun r => (r.ch, r.gain, r.rssi, r.captured, r.ts)) = some (s.getF SLK_STAT_CH, min p.gain 31, p.rssi, false, none) ∧ (s.getF SLK_RXCFG_ANT = 2 → t.pins.slAsw = decide (p.energyA < p.energyB))) ∧ Within [(0x4C000, 0x50000)] s t)) ∧
  (∀ (s : State) (db : Int) (p : SlDetect) (r : SlRx),
    s.slHeard p = true →
    (s.slState == 4) = true →
    (s.slk.rx == some r) = true →
    r.ts.isSome = true →
    s.flag SLK_RXCFG_CAPTURE = true →
    (decide (10 * (s.getF SLK_RXCFG_CAPT_DB : Int) ≤ db)) = true →
    Gives (.slCapture db p) s (fun t =>
      (Counted SLK_CNT2_CAPT s t ∧ t.getF SLK_TXSTAT_ACAUSE = 4 ∧ t.slk.rx.map (fun x => (x.captured, x.ts, x.gain)) = some (true, none, min p.gain 31)) ∧ Within [(0x4C000, 0x50000), (0x1000, 0x2000), (0x30000, 0x34000), (0x68000, 0x70000)] s t)) ∧
  (∀ (s : State) (db : Int) (p : SlDetect) (r : SlRx),
    s.slHeard p = true →
    (s.slState == 4) = true →
    (s.slk.rx == some r) = true →
    r.ts.isSome = true →
    (!(s.flag SLK_RXCFG_CAPTURE && decide (10 * (s.getF SLK_RXCFG_CAPT_DB : Int) ≤ db))) = true →
    Gives (.slCapture db p) s (fun t =>
      (Counted SLK_CNT2_IGNORED s t ∧ t.slk.rx = s.slk.rx) ∧ Within [(0x4C000, 0x50000)] s t)) ∧
  (∀ (s : State) (e rho ts : Nat) (f : Int) (r : SlRx),
    (s.slk.rx == some r) = true →
    r.ts.isNone = true →
    (decide (s.slErrors e ≤ 2)) = true →
    s.inLock = true →
    (decide (s.clk.lockedAt ≤ ts)) = true →
    Gives (.slSyncFound e rho ts f) s (fun t =>
      (t.slk.rx.map (fun x => (x.ts, x.rho, x.flags, x.foff)) = some (some ts, rho, 0, if s.flag SLK_RXCFG_AFC then f else 0)) ∧ Within [] s t)) ∧
  (∀ (s : State) (n : Nat) (r : SlRx),
    (s.slk.rx == some r) = true →
    r.ts.isNone = true →
    (decide (r.at_ + ticksOfHalfUs (s.getF SLK_PHY_SYNC_TO * s.slSym) ≤ n)) = true →
    (s.slState == 4) = true →
    Gives (.slSyncTimeout n) s (fun t =>
      (t.slState = 3 ∧ t.slk.rx = none ∧ Counted SLK_CNT1_SYNCTO s t) ∧ Within [(0x4C000, 0x50000)] s t)) ∧
  (∀ (s : State) (raw : List Nat) (n : Nat) (r : SlRx),
    (s.slk.rx == some r) = true →
    r.ts.isSome = true →
    r.hdr.isNone = true →
    (s.slState == 4) = true →
    (slHcrc ((whiten raw 0x1FF).getD 0 0) ((whiten raw 0x1FF).getD 1 0) != (whiten raw 0x1FF).getD 2 0) = true →
    Gives (.slHeader raw n) s (fun t =>
      (t.slState = 3 ∧ t.slk.rx = none ∧ Counted SLK_CNT1_HDRERR s t) ∧ Within [(0x4C000, 0x50000)] s t)) ∧
  (∀ (s : State) (m : Master) (v : Word),
    s.reaches m SLK_RXPTR = true →
    Gives (.slRxFree m v) s (fun t =>
      (t.getF SLK_RXPTR_RD = bitsOf v.toNat 2 0 ∧ t.getF SLK_RXPTR_UNREAD = s.getF SLK_RXPTR_UNREAD - (bitsOf v.toNat 2 0 + 8 - s.getF SLK_RXPTR_RD) % 8) ∧ Within [(SLK_RXPTR, SLK_RXPTR + 4), (0x68000, 0x70000)] s t)) ∧
  (∀ (s : State) (x : Int) (n : Nat) (b : SlBand) (k : Nat),
    (s.slState == 5) = true →
    (s.slk.wait == 2) = true →
    (decide (s.slk.lbtBy ≤ n)) = true →
    (s.slBand s.slk.txCh == some (b, k)) = true →
    (decide (10 * b.lbt < x)) = true →
    Gives (.slLbtEnd x n) s (fun t =>
      (t.slState ≠ 6 ∧ t.getF SLK_TXSTAT_REASON = 12 ∧ Counted SLK_CNT5_REFUSED s t ∧ t.pins.slReq = false) ∧ Within [(0x4C000, 0x50000), (0x2000, 0x3000), (0x1000, 0x2000), (0x30000, 0x34000), (0x68000, 0x70000)] s t)) ∧
  (∀ (s : State) (x : Int) (n : Nat) (b : SlBand) (k : Nat),
    (s.slState == 5) = true →
    (s.slk.wait == 2) = true →
    (decide (s.slk.lbtBy ≤ n)) = true →
    (s.slBand s.slk.txCh == some (b, k)) = true →
    (!decide (10 * b.lbt < x)) = true →
    s.flag SLK_CTL_COEX_EN = true →
    Gives (.slLbtEnd x n) s (fun t =>
      (t.slState = 5 ∧ t.slk.wait = 3 ∧ t.pins.slReq = true ∧ t.pins.slPri = s.flag SLK_CTL_PRI) ∧ Within [] s t)) ∧
  (∀ (s : State) (n : Nat),
    (s.slState == 5) = true →
    (s.slk.wait == 3) = true →
    Gives (.slGrant n) s (fun t =>
      (t.slState = 6 ∧ t.pins.slGnt = true ∧ t.pins.slFemTx = true ∧ t.slk.txAt = (s.advance n).now) ∧ Within [(0x4C000, 0x50000)] s t)) ∧
  (∀ (s : State) (n : Nat),
    (s.slState == 5) = true →
    (s.slk.wait == 3) = true →
    (decide (s.slk.reqAt + Config.ticksOfUs (s.getF SLK_CTL_GNT_TO_US) ≤ (s.advance n).now)) = true →
    Gives (.slGrantTimeout n) s (fun t =>
      (t.slState ≠ 6 ∧ t.getF SLK_TXSTAT_REASON = 11 ∧ t.pins.slReq = false ∧ Counted SLK_CNT5_REFUSED s t) ∧ Within [(0x4C000, 0x50000), (0x2000, 0x3000), (0x1000, 0x2000), (0x30000, 0x34000), (0x68000, 0x70000)] s t)) ∧
  (∀ (s : State) (n : Nat),
    (s.slState == 6) = true →
    (decide (s.slk.txAt + ticksOfHalfUs s.slk.txAir ≤ n)) = true →
    (decide (s.slk.txAir / 2 < 1048576)) = true →
    Gives (.slTxDone n) s (fun t =>
      (t.getF SLK_TXSTAT_AIR_US = s.slk.txAir / 2 ∧ Counted SLK_CNT4_TXOK s t ∧ t.slState ≠ 6 ∧ t.pins.slReq = false ∧ t.pins.slFemTx = false) ∧ Within [(0x4C000, 0x50000), (0x2000, 0x3000), (0x1000, 0x2000), (0x30000, 0x34000), (0x68000, 0x70000)] s t)) ∧
  (∀ (s : State) (n : Nat),
    (s.slState == 6) = true →
    s.flag SLK_CTL_COEX_EN = true →
    Gives (.slGntLost n) s (fun t =>
      (t.getF SLK_TXSTAT_ACAUSE = 2 ∧ Counted SLK_CNT5_GNTLOST s t ∧ Counted SLK_CNT4_TXABORT s t ∧ t.slState ≠ 6 ∧ t.pins.slGnt = false) ∧ Within [(0x4C000, 0x50000), (0x2000, 0x3000), (0x1000, 0x2000), (0x30000, 0x34000), (0x68000, 0x70000)] s t)) ∧
  (∀ (s : State) (n : Nat),
    (!s.flag SLK_CTL_COEX_EN) = true →
    Gives (.slGntLost n) s (fun t =>
      (t.pins.slGnt = false ∧ t.slState = s.slState ∧ t.slk = s.slk) ∧ Within [] s t)) ∧
  (∀ (s : State) (n : Nat),
    Gives (.slDutyBin n) s (fun t =>
      (t.slk.bins = s.slk.bins.map (fun l => (0 :: l).take 3600) ∧ t.slState = s.slState) ∧ Within [(0x4C000, 0x50000)] s t)) ∧
  (∀ (s : State) (c n : Nat) (trims : List Byte) (ok : Bool),
    (s.slState != 7) = true →
    (s.advance n).slMayBg c = true →
    Gives (.slBgcal c n trims ok) s (fun t =>
      (t.slState = 7 ∧ t.slk.cal = some c ∧ t.flag SLK_STAT_LOCK = false) ∧ Within [(0x4C000, 0x50000), (0x2000, 0x3000)] s t))

/-- For every payload of 1 to 255 bytes and either modulation, the header of the packet that R497 and R498 send
decodes at a receiver to its own LEN and CFG, and its payload and CRC pass the check: the packet is counted as
received, never as an error. -/
def Obligations.PacketsRoundTrip : Prop :=
  (∀ (s : State) (g n : Nat) (pay : List Nat) (r : SlRx),
    (s.slk.rx == some r) = true →
    r.ts.isSome = true →
    r.hdr.isNone = true →
    (decide (1 ≤ pay.length)) = true →
    (decide (pay.length ≤ 255)) = true →
    (pay.all fun x => decide (x < 256)) = true →
    (g == 0 || g == 0x80) = true →
    Gives (.slHeader ((slPacket g pay).take 3) n) s (fun t =>
      t.slk.rx.map (fun x => x.hdr) = some (some (pay.length, g)) ∧ t.getF SLK_CNT1_HDRERR = s.getF SLK_CNT1_HDRERR)) ∧
  (∀ (s : State) (g n : Nat) (pay : List Nat) (r : SlRx),
    (s.slk.rx == some r) = true →
    (r.hdr == some (pay.length, g)) = true →
    (s.slState == 4) = true →
    (decide (1 ≤ pay.length)) = true →
    (decide (pay.length ≤ 255)) = true →
    (pay.all fun x => decide (x < 256)) = true →
    (g == 0 || g == 0x80) = true →
    Gives (.slRxDone ((slPacket g pay).drop 3) n) s (fun t =>
      Counted SLK_CNT0_RXOK s t ∧ t.getF SLK_CNT0_CRCERR = s.getF SLK_CNT0_CRCERR ∧ t.slk.rx = none ∧ (s.getF SLK_RXPTR_UNREAD < 8 → t.getF SLK_RXPTR_UNREAD = s.getF SLK_RXPTR_UNREAD + 1)))

/-- Each command of calibration, where R514 to R528 give it its effect, answers the next state with the calibration
state, result, reason, corrections and counters that those rules give; a save writes the image of R525 with the next
generation, a restore takes the corrections of the copy that R528 picks, and of two bad copies nothing. -/
def Obligations.Calibration : Prop :=
  (∀ (s : State) (m : Master) (n : Nat),
    s.reaches m CAL_CMD = true →
    (decide (n < 5)) = true →
    (s.calState n == 0) = true →
    Gives (.calRun m n) s (fun t =>
      (t.cal n).src = 3 ∧ (t.cal n).asked = s.now ∧ t.calState n = (if s.calCond n then 2 else 1))) ∧
  (∀ (s : State) (m : Master) (n : Nat),
    s.reaches m CAL_CMD = true →
    (decide (n < 5)) = true →
    (s.calState n != 0) = true →
    Gives (.calRun m n) s (fun t =>
      (t.getF ⟨CAL_REFUSE, 31, 28⟩ = codeBusy ∧ Counted ⟨CAL_REFUSE, 15, 0⟩ s t ∧ t.calState n = s.calState n) ∧ Within [(0x50000, 0x58000), (0x68000, 0x70000)] s t)) ∧
  (∀ (s : State) (m : Master) (n : Nat),
    s.reaches m CAL_CMD = true →
    (decide (n < 5)) = true →
    (s.calState n == 1) = true →
    Gives (.calCancel m n) s (fun t =>
      (t.calState n = 0 ∧ t.getF (CALn_STAT_LASTRES n) = 3 ∧ t.getF (CALn_STAT_REASON n) = 4 ∧ Counted (CALn_CNT_REJECTS n) s t) ∧ Within [(0x50000, 0x58000), (0x1000, 0x2000), (0x30000, 0x34000), (0x68000, 0x70000)] s t)) ∧
  (∀ (s : State) (n k : Nat),
    (!s.pwr.inReset) = true →
    (decide (2 ≤ s.stage)) = true →
    (decide (k < 5)) = true →
    s.firmwareOn 4 = true →
    s.calFar k = true →
    (s.calState k == 0) = true →
    (s.getF CAL_AUTO_EN == 31) = true →
    (!(s.cal k).retry) = true →
    Gives (.calTempCheck n) s (fun t =>
      t.getF (CALn_STAT_DUE k) = 1 ∧ (t.cal k).src = 2)) ∧
  (∀ (s : State) (n k : Nat),
    (decide (n < 5)) = true →
    s.firmwareOn 4 = true →
    (s.advance k).calCond n = true →
    (s.calState n == 1) = true →
    Gives (.calCondMet n k) s (fun t =>
      t.calState n = 2)) ∧
  (∀ (s : State) (n k : Nat),
    (decide (n < 5)) = true →
    s.firmwareOn 4 = true →
    (s.advance k).calAsks n = true →
    (!(s.advance k).calCond n) = true →
    Gives (.calWait n k) s (fun t =>
      (t.cal n).src = 2 ∧ t.getF (CALn_STAT_DUE n) = 1)) ∧
  (∀ (s : State) (n k : Nat),
    (decide (n < 5)) = true →
    (s.calState n != 0) = true →
    ((s.cal n).src != 1) = true →
    (s.cal n).ta.isNone = true →
    (decide ((s.cal n).asked + s.getF CAL_CFG_WAIT * 100 * Config.ticksPerMs ≤ (s.advance k).now)) = true →
    Gives (.calWaitTimeout n k) s (fun t =>
      (t.calState n = 0 ∧ t.getF (CALn_STAT_REASON n) = 1 ∧ Counted (CALn_CNT_REJECTS n) s t) ∧ Within [(0x50000, 0x58000), (0x1000, 0x2000), (0x30000, 0x34000), (0x68000, 0x70000)] s t)) ∧
  (∀ (s : State) (n k : Nat) (q : CalMeas),
    (decide (n < 2)) = true →
    (s.calState n == 2) = true →
    (s.cal n).ta.isNone = true →
    s.calOk n q = true →
    Gives (.calMeasureDone n q k) s (fun t =>
      ((t.cal n).ta = some ((s.advance k).blockAt ((s.advance k).now + Config.ticksOfUs 10)) ∧ (t.cal n).new = q.trims ∧ t.calState n = 2) ∧ Within [] s t)) ∧
  (∀ (s : State) (n k : Nat) (q : CalMeas),
    (decide (n < 2)) = true →
    (s.calState n == 2) = true →
    (s.cal n).ta.isNone = true →
    (!s.calOk n q) = true →
    Gives (.calMeasureDone n q k) s (fun t =>
      (t.calState n = 0 ∧ t.getF (CALn_STAT_REASON n) = 2 ∧ Counted (CALn_CNT_REJECTS n) s t) ∧ Within [(0x50000, 0x58000), (0x1000, 0x2000), (0x30000, 0x34000), (0x68000, 0x70000)] s t)) ∧
  (∀ (s : State) (n k a : Nat),
    (decide (n < 5)) = true →
    (s.calState n == 2) = true →
    ((s.cal n).ta == some a) = true →
    (decide (a ≤ (s.advance k).now)) = true →
    Gives (.calDone n k) s (fun t =>
      (t.calState n = 0 ∧ t.getF (CALn_STAT_LASTRES n) = 1 ∧ (t.cal n).trims = (s.cal n).new ∧ t.getF (CALn_STAT_CURRENT n) = 1 ∧ t.getF (CALn_STAT_DUE n) = 0 ∧ Counted (CALn_CNT_RUNS n) s t ∧ t.get64 (CALn_TS_LO n) (CALn_TS_HI n) = a % 2 ^ 64) ∧ Within [(0x50000, 0x58000), (0x1000, 0x2000), (0x30000, 0x34000), (0x68000, 0x70000)] s t)) ∧
  (∀ (s : State) (n : Nat),
    (s.exc.step == .rfUp || !s.flag CLK_STAT_LOCK) = true →
    (s.calState 4 == 2) = true →
    Gives (.calAbandon n) s (fun t =>
      (t.calState 4 = 0 ∧ t.getF (CALn_STAT_REASON 4) = 3 ∧ Counted (CALn_CNT_REJECTS 4) s t) ∧ Within [(0x50000, 0x58000), (0x1000, 0x2000), (0x30000, 0x34000), (0x68000, 0x70000)] s t)) ∧
  (∀ (s : State) (m : Master),
    s.reaches m CAL_IMG_CMD = true →
    (!s.flag CAL_IMG_STAT_BUSY) = true →
    Gives (.calImgSave m) s (fun t =>
      (t.getF CAL_IMG_GEN_GEN = (s.getF CAL_IMG_GEN_GEN + 1) % 2 ^ 32 ∧ t.getF CAL_IMG_STAT_RESULT = 1 ∧ t.winBytes 0x80000 8192 = s.calImage ((s.getF CAL_IMG_GEN_GEN + 1) % 2 ^ 32)) ∧ Within [(0x50000, 0x58000), (0x68000, 0x70000)] s t)) ∧
  (∀ (s : State) (m : Master) (ok : List Bool),
    s.reaches m CAL_IMG_CMD = true →
    (!s.flag CAL_IMG_STAT_BUSY) = true →
    (s.calBad (s.winBytes 0x80000 8192) != 0) = true →
    (s.calBad (s.winBytes 0x90000 8192) != 0) = true →
    Gives (.calImgRestore m ok) s (fun t =>
      (t.getF CAL_IMG_STAT_RESULT = 2 ∧ t.getF CAL_IMG_STAT_APPLIED = 0 ∧ t.cals = s.cals) ∧ Within [(0x50000, 0x58000), (0x68000, 0x70000)] s t)) ∧
  (∀ (s : State) (m : Master) (ok : List Bool) (n : Nat),
    s.reaches m CAL_IMG_CMD = true →
    (!s.flag CAL_IMG_STAT_BUSY) = true →
    (s.calBad (s.winBytes 0x80000 8192) == 0) = true →
    (s.calBad (s.winBytes 0x90000 8192) != 0 || !newerGen (leAt (s.winBytes 0x90000 8192) 8 4) (leAt (s.winBytes 0x80000 8192) 8 4)) = true →
    (decide (n < 5)) = true →
    (leAt (s.winBytes 0x80000 8192) (calOff n + 2) 1 == 1) = true →
    ok.getD n false = true →
    (s.calState n != 2) = true →
    Gives (.calImgRestore m ok) s (fun t =>
      (t.getF CAL_IMG_STAT_RESULT = 1 ∧ t.flag CAL_IMG_STAT_USED = false ∧ t.getF CAL_IMG_GEN_GEN = leAt (s.winBytes 0x80000 8192) 8 4 ∧ t.flag ⟨CAL_IMG_STAT, n, n⟩ = true ∧ (t.cal n).trims = ((s.winBytes 0x80000 8192).drop (calOff n + 8)).take (calLen n) ∧ t.getF (CALn_STAT_LASTRES n) = 2 ∧ t.getI (CALn_STAT_TEMP n) = signedOf 16 (leAt (s.winBytes 0x80000 8192) (24 + 2 * calSensor n) 2)) ∧ Within [(0x50000, 0x58000), (0x1000, 0x2000), (0x30000, 0x34000), (0x68000, 0x70000)] s t))

/-- The image a save writes, as it then stands in its window, passes every check of R528 for the part that wrote it.
-/
def Obligations.ImageRoundTrip : Prop :=
  (∀ (s : State) (m : Master),
    s.reaches m CAL_IMG_CMD = true →
    (!s.flag CAL_IMG_STAT_BUSY) = true →
    Gives (.calImgSave m) s (fun t =>
      t.calBad (t.winBytes 0x80000 8192) = 0))

/-- Each command of the security block, where R541 to R553 give it its effect, answers the next state with the result
code, counters, keys, records and report that those rules give; a token or a licence that fails a check changes
nothing but its result, and the roll-back minima never fall. -/
def Obligations.Security : Prop :=
  (∀ (s : State) (m : Master),
    s.reaches m SEC_CMD = true →
    (!s.flag SEC_RES_BUSY) = true →
    Gives (.secRollFw m) s (fun t =>
      (t.sec.otp.fwMin = max s.sec.otp.fwMin (min 64 (s.getF SEC_SV_FW_SV)) ∧ t.getF SEC_SV_FW_MIN = t.sec.otp.fwMin ∧ t.getF SEC_RES_RESULT = 1 ∧ t.getF SEC_RES_LASTOP = 1) ∧ Within [(0x58000, 0x60000), (0x68000, 0x70000)] s t)) ∧
  (∀ (s : State) (m : Master),
    s.reaches m SEC_CMD = true →
    (!s.flag SEC_RES_BUSY) = true →
    Gives (.secRollBs m) s (fun t =>
      (t.sec.otp.bsMin = max s.sec.otp.bsMin (min 64 (s.getF SEC_SV_BS_SV)) ∧ t.getF SEC_SV_BS_MIN = t.sec.otp.bsMin ∧ t.getF SEC_RES_RESULT = 1 ∧ t.getF SEC_RES_LASTOP = 2) ∧ Within [(0x58000, 0x60000), (0x68000, 0x70000)] s t)) ∧
  (∀ (s : State) (m : Master),
    s.reaches m SEC_CMD = true →
    s.flag SEC_RES_BUSY = true →
    Gives (.secRollFw m) s (fun t =>
      (t.getF SEC_REFUSE_CODE = codeBusy ∧ Counted SEC_REFUSE_CNT s t ∧ t.sec = s.sec) ∧ Within [(0x58000, 0x60000), (0x68000, 0x70000)] s t)) ∧
  (∀ (s : State) (m : Master) (v : SigVerdict) (l : List Byte),
    s.reaches m SEC_CMD = true →
    (!s.flag SEC_RES_BUSY) = true →
    (s.recBuf (s.getF SEC_NVLEN_LEN) == l) = true →
    (leAt l 5 1 == 3) = true →
    (s.tokenResult l (sigOf l 88 v) == 1) = true →
    Gives (.secToken m v true) s (fun t =>
      t.getF SEC_RES_RESULT = 1 ∧ t.lkey = some (leAt l 24 60) ∧ t.getF SEC_TSEQ_TSEQ = leAt l 16 4 ∧ t.flag SEC_SLOT_LKEY = true)) ∧
  (∀ (s : State) (m : Master) (v : SigVerdict) (w : Bool) (l : List Byte),
    s.reaches m SEC_CMD = true →
    (!s.flag SEC_RES_BUSY) = true →
    (s.recBuf (s.getF SEC_NVLEN_LEN) == l) = true →
    (leAt l 5 1 == 3 || s.feat 21) = true →
    (s.tokenResult l (sigOf l 88 v) != 1) = true →
    Gives (.secToken m v w) s (fun t =>
      (t.getF SEC_RES_RESULT = s.tokenResult l (sigOf l 88 v) ∧ t.sec = s.sec ∧ t.getF SEC_TSEQ_TSEQ = s.getF SEC_TSEQ_TSEQ) ∧ Within [(0x58000, 0x60000), (0x1000, 0x2000), (0x30000, 0x34000), (0x68000, 0x70000)] s t)) ∧
  (∀ (s : State) (m : Master) (n : Nat) (v : SigVerdict) (w : Bool),
    s.reaches m SEC_CMD = true →
    (!s.flag SEC_RES_BUSY) = true →
    (decide (0x40 ≤ n)) = true →
    (decide (n ≤ 0x4F)) = true →
    (decide (s.getF SEC_NVLEN_LEN ≤ 4064)) = true →
    Gives (.secNvWrite m n v w) s (fun t =>
      (t.getF SEC_RES_RESULT = (if w then 1 else 9) ∧ (w = true → (t.nvRec n).data = some (s.recBuf (s.getF SEC_NVLEN_LEN)) ∧ Counted SEC_NV_WRITES s t)) ∧ Within [(0x58000, 0x60000), (0x68000, 0x70000)] s t)) ∧
  (∀ (s : State) (m : Master) (v : SigVerdict) (l : List Byte),
    s.reaches m SEC_CMD = true →
    (!s.flag SEC_RES_BUSY) = true →
    (s.recBuf (s.getF SEC_NVLEN_LEN) == l) = true →
    (s.licResult l (sigOf l (l.length - 5480) v) == 1) = true →
    ((s.licJudge (licPayload l)).1 == 0) = true →
    Gives (.secNvWrite m 1 v true) s (fun t =>
      t.getF SEC_RES_RESULT = 1 ∧ t.getF EXC_LIC_STAT_STATE = 2 ∧ t.exc.lic = some (s.licJudge (licPayload l)).2 ∧ (t.nvRec 1).data = some l)) ∧
  (∀ (s : State) (m : Master) (v : SigVerdict) (w : Bool) (l : List Byte),
    s.reaches m SEC_CMD = true →
    (!s.flag SEC_RES_BUSY) = true →
    (s.recBuf (s.getF SEC_NVLEN_LEN) == l) = true →
    (s.licResult l (sigOf l (l.length - 5480) v) != 1) = true →
    Gives (.secNvWrite m 1 v w) s (fun t =>
      (t.getF SEC_RES_RESULT = s.licResult l (sigOf l (l.length - 5480) v) ∧ t.sec = s.sec ∧ t.exc = s.exc) ∧ Within [(0x58000, 0x60000), (0x1000, 0x2000), (0x30000, 0x34000), (0x68000, 0x70000)] s t)) ∧
  (∀ (s : State) (m : Master) (n : Nat) (l : List Byte),
    s.reaches m SEC_CMD = true →
    (!s.flag SEC_RES_BUSY) = true →
    nvId n = true →
    (decide (n < 256)) = true →
    ((s.nvRec n).data == some l) = true →
    (decide (l.length ≤ 8160)) = true →
    Gives (.secNvRead m n) s (fun t =>
      (t.getF SEC_RES_RESULT = 1 ∧ t.getF SEC_NVLEN_LEN = l.length ∧ t.winBytes 0xC0000 l.length = l) ∧ Within [(0x58000, 0x60000), (0x1000, 0x2000), (0x30000, 0x34000), (0x68000, 0x70000)] s t)) ∧
  (∀ (s : State) (m : Master) (n : Nat),
    s.reaches m SEC_CMD = true →
    (!s.flag SEC_RES_BUSY) = true →
    nvId n = true →
    (decide (n < 256)) = true →
    ((s.nvRec n).data == none) = true →
    Gives (.secNvRead m n) s (fun t =>
      (t.getF SEC_RES_RESULT = 10 ∧ t.win = s.win) ∧ Within [(0x58000, 0x60000), (0x1000, 0x2000), (0x30000, 0x34000), (0x68000, 0x70000)] s t)) ∧
  (∀ (s : State) (m : Master) (sig : List Byte),
    s.reaches m SEC_CMD = true →
    (!s.flag SEC_RES_BUSY) = true →
    s.feat 19 = true →
    (decide (s.getF SEC_LEAF_NEXT < 2 ^ 30)) = true →
    (s.getF SEC_ATT_TOKENS != 0) = true →
    Gives (.secAttest m sig true) s (fun t =>
      (t.getF SEC_RES_RESULT = 1 ∧ t.getF SEC_LEAF_NEXT = s.getF SEC_LEAF_NEXT + 1 ∧ t.getF SEC_ATT_TOKENS = s.getF SEC_ATT_TOKENS - 1 ∧ t.winBytes 0xD0000 7896 = s.report (s.getF SEC_LEAF_NEXT) ++ fit 7640 sig ∧ (t.nvRec 0x20).data = some (bytesOf 4 (s.getF SEC_LEAF_NEXT + 1))) ∧ Within [(0x58000, 0x60000), (0x68000, 0x70000)] s t)) ∧
  (∀ (s : State) (m : Master) (sig : List Byte) (w : Bool),
    s.reaches m SEC_CMD = true →
    (!s.flag SEC_RES_BUSY) = true →
    s.feat 19 = true →
    (s.getF SEC_ATT_TOKENS == 0) = true →
    Gives (.secAttest m sig w) s (fun t =>
      (t.getF SEC_RES_RESULT = 8 ∧ Counted SEC_ATT_LIMITED s t ∧ t.getF SEC_LEAF_NEXT = s.getF SEC_LEAF_NEXT ∧ t.win = s.win) ∧ Within [(0x58000, 0x60000), (0x1000, 0x2000), (0x30000, 0x34000), (0x68000, 0x70000)] s t)) ∧
  (∀ (s : State) (n : Nat),
    (decide (s.sec.refillAt + 7864320000 ≤ n)) = true →
    Gives (.attestTokenRefill n) s (fun t =>
      (t.getF SEC_ATT_TOKENS = min 16 (s.getF SEC_ATT_TOKENS + 1) ∧ t.sec.refillAt = s.sec.refillAt + 7864320000) ∧ Within [(SEC_ATT, SEC_ATT + 4)] s t))

/-- START, STOP, ABORT_XFADE, SWITCH and REALIGN of a programme, writes of the host's list, the start of its programme
time, its origin and its end leave the programme state, candidates, fade and counters that R253 to R256, R269, R274
and R279 give, or are refused with the stated code. -/
def Obligations.FennelCommands : Prop :=
  (∀ (s : State) (m : Master) (p : Nat),
    s.reaches m FOL_CMD = true →
    (decide (p < 256)) = true →
    (decide (p < s.hdr.progs)) = true →
    (!(s.ktOwned && decide (p < 4) && m != .personality)) = true →
    (s.folState p == 0) = true →
    s.idValid p = true →
    Gives (.folStart m p) s (fun t =>
      (t.folState p = 1 ∧ (t.prog p).startAt = ceilTo 5242880 (s.now + Config.ticksOfUs 1) ∧ (t.prog p).cands = [] ∧ (t.prog p).active = none ∧ (t.prog p).host = (s.prog p).host) ∧ Within [(0x28000, 0x30000), (0x68000, 0x70000)] s t)) ∧
  (∀ (s : State) (m : Master) (p : Nat),
    s.reaches m FOL_CMD = true →
    (decide (p < 256)) = true →
    (decide (p < s.hdr.progs)) = true →
    (!(s.ktOwned && decide (p < 4) && m != .personality)) = true →
    (s.folState p != 0) = true →
    Gives (.folStart m p) s (fun t =>
      (t.folState p = s.folState p ∧ t.getF ⟨FOLp_STAT p, 19, 16⟩ = codeWrongState ∧ Counted ⟨FOLp_STAT p, 15, 0⟩ s t ∧ t.fol = s.fol) ∧ Within [(0x28000, 0x30000), (0x68000, 0x70000)] s t)) ∧
  (∀ (s : State) (m : Master) (p : Nat),
    s.reaches m FOL_CMD = true →
    (decide (p < 256)) = true →
    (decide (p < s.hdr.progs)) = true →
    (!(s.ktOwned && decide (p < 4) && m != .personality)) = true →
    (decide (2 ≤ s.folState p)) = true →
    (s.prog p).stopping.isNone = true →
    Gives (.folStop m p) s (fun t =>
      ((t.prog p).stopping = some 15 ∧ t.folState p = s.folState p ∧ (t.prog p).cands = (s.prog p).cands) ∧ Within [(0x28000, 0x30000), (0x68000, 0x70000)] s t)) ∧
  (∀ (s : State) (m : Master) (p : Nat),
    s.reaches m FOL_CMD = true →
    (decide (p < 256)) = true →
    (decide (p < s.hdr.progs)) = true →
    (!(s.ktOwned && decide (p < 4) && m != .personality)) = true →
    (s.folState p == 1) = true →
    Gives (.folStop m p) s (fun t =>
      t.folState p = 0 ∧ (t.prog p).cands = [])) ∧
  (∀ (s : State) (m : Master) (p : Nat) (f : Fade),
    s.reaches m FOL_CMD = true →
    (decide (p < 256)) = true →
    (decide (p < s.hdr.progs)) = true →
    (!(s.ktOwned && decide (p < 4) && m != .personality)) = true →
    (s.folState p != 0) = true →
    ((s.prog p).fade == some f) = true →
    Gives (.abortXfade m p) s (fun t =>
      ((t.prog p).fade = some { f with tx := min f.tx (s.prog p).nextTs, left := 64, back := s.abortBack (s.prog p), cut := some (if f.tx ≤ (s.prog p).nextTs then f.weight 0 else 0) }) ∧ Within [(0x28000, 0x30000), (0x68000, 0x70000)] s t)) ∧
  (∀ (s : State) (m : Master) (p i : Nat) (c : Cand),
    s.reaches m FOL_CMD = true →
    (decide (p < 256)) = true →
    (decide (p < s.hdr.progs)) = true →
    (!(s.ktOwned && decide (p < 4) && m != .personality)) = true →
    (decide (i < 16)) = true →
    (s.folState p == 3) = true →
    (s.prog p).fade.isNone = true →
    (s.prog p).hard.isNone = true →
    ((s.prog p).cand i == some c) = true →
    ((s.prog p).candState i c == 2) = true →
    (!s.deferred c) = true →
    Gives (.folSwitch m p i) s (fun t =>
      ((t.prog p).fade = some ⟨1, (s.prog p).nextTs, (s.getF (FOLp_CTL_XFADE_MS p) * 48), i, false, (s.getF (FOLp_CTL_XFADE_MS p) * 48), none⟩ ∧ t.get64 (FOLp_LASTSW_LO p) (FOLp_LASTSW_HI p) = ((s.prog p).nextTs + (s.getF (FOLp_CTL_XFADE_MS p) * 48) * 81920) % 2 ^ 64 ∧ Counted (FOLp_CNT0_DISC p) s t ∧ (t.prog p).active = (s.prog p).active) ∧ Within [(0x28000, 0x30000), (0x1000, 0x2000), (0x30000, 0x34000), (0x68000, 0x70000)] s t)) ∧
  (∀ (s : State) (m : Master) (p i : Nat),
    s.reaches m FOL_CMD = true →
    (decide (p < 256)) = true →
    (decide (p < s.hdr.progs)) = true →
    (!(s.ktOwned && decide (p < 4) && m != .personality)) = true →
    (decide (i < 16)) = true →
    ((s.prog p).cand i == none) = true →
    Gives (.folSwitch m p i) s (fun t =>
      (t.getF ⟨FOLp_STAT p, 19, 16⟩ = codeWrongState ∧ t.fol = s.fol) ∧ Within [(0x28000, 0x30000), (0x68000, 0x70000)] s t)) ∧
  (∀ (s : State) (m : Master) (p : Nat),
    s.reaches m FOL_CMD = true →
    (decide (p < 256)) = true →
    (decide (p < s.hdr.progs)) = true →
    (!(s.ktOwned && decide (p < 4) && m != .personality)) = true →
    (s.folState p == 3) = true →
    Gives (.folRealign m p) s (fun t =>
      ((t.prog p).cands = (s.prog p).cands.map (fun q => if (s.prog p).active = some q.1 then q else (q.1, { q.2 with aligned := false, okLast := none, fails := 0 })) ∧ (t.prog p).active = (s.prog p).active) ∧ Within [(0x28000, 0x30000), (0x68000, 0x70000)] s t)) ∧
  (∀ (s : State) (m : Master) (v : Word) (p i : Nat),
    s.reaches m FOL_CLIST = true →
    (s.getF FOL_CSEL_PROG == p) = true →
    (s.getF FOL_CSEL_INDEX == i) = true →
    (decide (p < s.hdr.progs)) = true →
    (!(s.ktOwned && decide (p < 4) && m != .personality)) = true →
    (bitsOf v.toNat 31 31 == 1) = true →
    (bitsOf v.toNat 30 29 != 0) = true →
    s.hostNumOk (bitsOf v.toNat 30 29) (bitsOf v.toNat 15 0) = true →
    ((s.prog p).cand i == none) = true →
    ((s.prog p).active != some i) = true →
    ((s.prog p).incoming != some i) = true →
    Gives (.clistWrite m v) s (fun t =>
      (((t.prog p).host.find? fun q => q.1 == i) = some (i, ⟨bitsOf v.toNat 30 29, bitsOf v.toNat 15 0, signedOf 8 (bitsOf v.toNat 23 16)⟩) ∧ (t.rd FOL_CLIST).toNat = 2 ^ 31 + bitsOf v.toNat 30 29 * 2 ^ 29 + bitsOf v.toNat 23 16 * 2 ^ 16 + bitsOf v.toNat 15 0) ∧ Within [(0x28000, 0x30000), (0x68000, 0x70000)] s t)) ∧
  (∀ (s : State) (p n : Nat),
    (decide (p < 256)) = true →
    (s.folState p == 1) = true →
    ((s.prog p).startAt == n) = true →
    ((s.advance n).now == n) = true →
    Gives (.progSearchStart p n) s (fun t =>
      (t.folState p = 2 ∧ t.getF (FOLp_STAT_SILENT p) = 1 ∧ (t.prog p).nextTs = n) ∧ Within [(0x28000, 0x30000)] s t)) ∧
  (∀ (s : State) (p i u : Nat) (c : Cand),
    (decide (p < 256)) = true →
    s.firmwareOn 1 = true →
    (s.folState p == 2) = true →
    (s.prog p).active.isNone = true →
    ((s.prog p).cand i == some c) = true →
    c.bad.isNone = true →
    s.usable p c = true →
    s.eligible p c 0 = true →
    Gives (.progOrigin p i u) s (fun t =>
      (t.folState p = 3 ∧ (t.prog p).active = some i ∧ t.getF (FOLp_STAT_SILENT p) = 0 ∧ ((t.prog p).cand i).map (fun x => (x.a, x.aligned)) = some (0, true) ∧ (t.prog p).riseLeft = 960 ∧ (t.prog p).riseFrom = max (s.prog p).nextTs (ceilTo 5242880 (s.advance u).now)) ∧ Within [(0x28000, 0x30000)] s t)) ∧
  (∀ (s : State) (p : Nat),
    (decide (p < 256)) = true →
    (decide (2 ≤ s.folState p)) = true →
    ((s.prog p).stopping == some 0) = true →
    Gives (.progStopped p) s (fun t =>
      (t.folState p = 0 ∧ (t.prog p).cands = [] ∧ (t.prog p).active = none ∧ (t.prog p).formed = (s.prog p).formed) ∧ Within [(0x28000, 0x30000), (0x30000, 0x34000)] s t)) ∧
  (∀ (s : State) (n : Nat) (v : DabInfo),
    (decide (n < 48)) = true →
    s.slotLocked n = true →
    s.flag (ENSs_STAT_FIC_OK n) = true →
    Gives (.fennelInfoUpdate n v) s (fun t =>
      (s.fol.info.filter (fun q => q.1 != n) ++ [(n, v)] = t.fol.info ∧ t.dabInfo n = v) ∧ Within [] s t))

/-- A discretionary, forced or hard switch takes the best entry that qualifies, with the fade or instant of R262 to
R264 and R269, and counts it; a fade's end makes its survivor the active source; a measurement aligns by R265 and
R266, loudness moves by at most 1 dB (R268); a block formed carries the union of its sources' flags (R270 to R272),
and one that cannot be completed is dropped and counted (R252). -/
def Obligations.FennelSwitching : Prop :=
  (∀ (s : State) (p b : Nat) (c : Cand),
    (decide (p < 256)) = true →
    s.firmwareOn 1 = true →
    s.mayDecide p (s.prog p) = true →
    (s.prog p).lastSw.isNone = true →
    (bestOf (s.discReady p (s.prog p)) (s.prog p).cands == some (b, c)) = true →
    Gives (.discretionarySwitch p) s (fun t =>
      ((t.prog p).fade = some ⟨1, (s.prog p).nextTs, (s.getF (FOLp_CTL_XFADE_MS p) * 48), b, false, (s.getF (FOLp_CTL_XFADE_MS p) * 48), none⟩ ∧ Counted (FOLp_CNT0_DISC p) s t ∧ t.getF (FOLp_XF_KIND p) = 1) ∧ Within [(0x28000, 0x30000), (0x1000, 0x2000), (0x30000, 0x34000), (0x68000, 0x70000)] s t)) ∧
  (∀ (s : State) (p : Nat),
    (bestOf (s.discReady p (s.prog p)) (s.prog p).cands == none) = true →
    Gives (.discretionarySwitch p) s (fun t =>
      t = s)) ∧
  (∀ (s : State) (p b u : Nat) (c : Cand),
    (decide (p < 256)) = true →
    s.firmwareOn 1 = true →
    s.mayDecide p (s.prog p) = true →
    (!s.flag (FOLp_STAT_SILENT p)) = true →
    ((s.prog p).badPoint == some u) = true →
    (bestOf (s.alignedTake (s.prog p)) (s.prog p).cands == some (b, c)) = true →
    Gives (.forcedSwitch p) s (fun t =>
      ((t.prog p).fade = (if (s.prog p).nextTs ≤ ((u - s.getF (FOLp_CTL_FXF_MS p) * Config.ticksPerMs) / 5242880 * 5242880) then some ⟨2, ((u - s.getF (FOLp_CTL_FXF_MS p) * Config.ticksPerMs) / 5242880 * 5242880), (u - ((u - s.getF (FOLp_CTL_FXF_MS p) * Config.ticksPerMs) / 5242880 * 5242880)) / 81920, b, false, (u - ((u - s.getF (FOLp_CTL_FXF_MS p) * Config.ticksPerMs) / 5242880 * 5242880)) / 81920, none⟩ else some ⟨2, (s.prog p).nextTs, s.getF (FOLp_CTL_FXF_MS p) * 48, b, false, s.getF (FOLp_CTL_FXF_MS p) * 48, none⟩) ∧ Counted (FOLp_CNT0_FORCED p) s t) ∧ Within [(0x28000, 0x30000), (0x1000, 0x2000), (0x30000, 0x34000), (0x68000, 0x70000)] s t)) ∧
  (∀ (s : State) (p b u : Nat) (c : Cand),
    (decide (p < 256)) = true →
    s.firmwareOn 1 = true →
    s.mayDecide p (s.prog p) = true →
    ((s.prog p).badPoint == some u) = true →
    (bestOf (s.alignedTake (s.prog p)) (s.prog p).cands == none) = true →
    (bestOf (s.takeable (s.prog p)) (s.prog p).cands == some (b, c)) = true →
    Gives (.hardSwitch p) s (fun t =>
      ((t.prog p).hard = some (max (s.prog p).nextTs u, b, ((s.prog p).mute.map (·.2)).getD (s.prog p).nextTs) ∧ Counted (FOLp_CNT1_HARD p) s t ∧ t.getF (FOLp_XF_KIND p) = 3) ∧ Within [(0x28000, 0x30000), (0x1000, 0x2000), (0x30000, 0x34000), (0x68000, 0x70000)] s t)) ∧
  (∀ (s : State) (p : Nat) (f : Fade),
    (decide (p < 256)) = true →
    ((s.prog p).fade == some f) = true →
    (f.left == 0) = true →
    Gives (.xfadeEnd p) s (fun t =>
      ((t.prog p).fade = none ∧ (t.prog p).active = (if f.back then (s.prog p).active else some f.inc)) ∧ Within [(0x28000, 0x30000), (0x30000, 0x34000)] s t)) ∧
  (∀ (s : State) (p i u : Nat) (c a : Cand),
    (decide (p < 256)) = true →
    (s.folState p == 3) = true →
    ((s.prog p).active.bind (s.prog p).cand == some a) = true →
    ((s.prog p).active != some i) = true →
    ((s.prog p).incoming != some i) = true →
    ((s.prog p).cand i == some c) = true →
    (c.kind != 3) = true →
    c.bad.isNone = true →
    s.windowOk p (s.prog p) a c u = true →
    Gives (.alignMeasure p i u) s (fun t =>
      (((t.prog p).cand i).map (fun x => (x.aligned, x.a, x.okLast, x.fails, x.rho, x.winAt)) = (let y := match s.measure p (s.prog p) a c u with | none => c | some none => { c with winAt := u + 7864320000 } | some (some (m, dl)) => alignStep (s.prog p) (s.flag (FOLp_CTL_LOUD p)) (m.clear && decide (s.getF (FOLp_POL1_RHO_MIN p) ≤ m.rho)) m.d (dl.getD 0) m.rho { c with winAt := u + 7864320000 }; some (y.aligned, y.a, y.okLast, y.fails, y.rho, y.winAt))) ∧ Within [(0x28000, 0x30000), (0x1000, 0x2000), (0x30000, 0x34000), (0x68000, 0x70000)] s t)) ∧
  (∀ (s : State) (p i T : Nat) (c a : Cand),
    (decide (p < 256)) = true →
    s.flag (FOLp_CTL_LOUD p) = true →
    ((s.prog p).active.bind (s.prog p).cand == some a) = true →
    ((s.prog p).cand i == some c) = true →
    ((s.prog p).candState i c == 2) = true →
    c.gSet = true →
    (decide (c.loudAt ≤ T)) = true →
    Gives (.loudnessUpdate p i T) s (fun t =>
      (((t.prog p).cand i).map (fun x => (x.g, x.loudAt)) = some (match s.loudness (s.prog p) a c T with | none => (c.g, c.loudAt) | some none => (c.g, T + 39321600000) | some (some dl) => (clampInt (c.g - 10) (c.g + 10) (clampInt (-120) 120 ((s.prog p).gActive + dl)), T + 39321600000))) ∧ Within [(0x28000, 0x30000)] s t)) ∧
  (∀ (s : State) (p a : Nat) (b : Block),
    (decide (p < 256)) = true →
    (s.folState p == 3) = true →
    (s.prog p).stopping.isNone = true →
    (s.prog p).hard.isNone = true →
    (s.prog p).fade.isNone = true →
    (s.prog p).mute.isNone = true →
    (!s.flag (FOLp_STAT_ALLLOST p)) = true →
    (!s.abandoned 4 p ((s.prog p).nextTs + s.pgDelay p)) = true →
    ((s.prog p).riseLeft == 0 || decide ((s.prog p).riseFrom ≤ (s.prog p).nextTs)) = true →
    (!s.flag (FOLp_STAT_SILENT p)) = true →
    (!s.voidOver 4 p (s.prog p).nextTs ((s.prog p).nextTs + 5242879)) = true →
    ((s.prog p).active == some a) = true →
    (s.srcBlock (s.prog p) a == some b) = true →
    ((b.flags &&& 11) == 0) = true →
    Gives (.progBlockForm p true) s (fun t =>
      ((t.prog p).formed = (s.prog p).formed ++ [((s.prog p).nextTs, some ⟨(s.prog p).nextTs, (if (s.prog p).dropNext then 128 else 0) ||| b.flags, mixOf (s.prog p) (s.share (s.prog p) a 0)⟩)] ∧ (t.prog p).nextTs = (s.prog p).nextTs + 5242880 ∧ (t.prog p).dropNext = false ∧ (t.prog p).active = some a) ∧ Within [(0x28000, 0x30000)] s t)) ∧
  (∀ (s : State) (p : Nat),
    (decide (p < 256)) = true →
    (decide (2 ≤ s.folState p)) = true →
    (s.prog p).stopping.isNone = true →
    (s.prog p).hard.isNone = true →
    (!s.abandoned 4 p ((s.prog p).nextTs + s.pgDelay p)) = true →
    s.voidOver 4 p (s.prog p).nextTs ((s.prog p).nextTs + 5242879) = true →
    Gives (.progBlockForm p true) s (fun t =>
      ((t.prog p).formed = (s.prog p).formed ++ [((s.prog p).nextTs, some ⟨(s.prog p).nextTs, (if (s.prog p).dropNext then 128 else 0) + 8, List.replicate 128 0⟩)] ∧ (t.prog p).nextTs = (s.prog p).nextTs + 5242880 ∧ (t.prog p).dropNext = false) ∧ Within [(0x28000, 0x30000)] s t)) ∧
  (∀ (s : State) (p : Nat),
    (decide (p < 256)) = true →
    (decide (2 ≤ s.folState p)) = true →
    (s.prog p).stopping.isNone = true →
    (s.prog p).hard.isNone = true →
    Gives (.progBlockForm p false) s (fun t =>
      ((t.prog p).formed = (s.prog p).formed ++ [((s.prog p).nextTs, none)] ∧ (t.prog p).dropNext = true ∧ (t.prog p).nextTs = (s.prog p).nextTs + 5242880 ∧ Counted (FOLp_CNT2_DROP p) s t) ∧ Within [(0x28000, 0x30000)] s t))

/-- A qualifying source enters a candidate set at the index of R256, becomes unusable, usable or INELIG, is scored by
the average of R261, and leaves; pool paths start with the configuration of R257 and stop when unconfirmed or idle;
decoders start and stop as R258 says. -/
def Obligations.FennelCandidates : Prop :=
  (∀ (s : State) (p n i : Nat),
    (decide (p < 256)) = true →
    s.firmwareOn 1 = true →
    (decide (2 ≤ s.folState p)) = true →
    (!(s.prog p).cands.any (fun q => q.2.kind == 1 && q.2.num == n)) = true →
    (s.mayEnter p { kind := 1, num := n, origin := 1 }) = true →
    (s.chanOf 1 n).isSome = true →
    (s.candIndex (s.prog p) 1 0 == some i) = true →
    Gives (.candidateAdd p 1 1 n 0) s (fun t =>
      ((t.prog p).cand i).map (fun c => (c.kind, c.num, c.origin)) = some (1, n, 1) ∧ (t.prog p).active = (s.prog p).active)) ∧
  (∀ (s : State) (p i n x : Nat) (c : Cand),
    s.firmwareOn 1 = true →
    ((s.prog p).cand i == some c) = true →
    (c.origin != 0) = true →
    ((s.prog p).active != some i) = true →
    ((s.prog p).incoming != some i) = true →
    (c.lost == some x) = true →
    (decide (x + tenSeconds ≤ (s.advance n).now)) = true →
    (!(s.advance n).identity p c) = true →
    Gives (.candidateRemove p i n) s (fun t =>
      ((t.prog p).cand i = none ∧ (t.prog p).active = (s.prog p).active) ∧ Within [(0x28000, 0x30000), (0x30000, 0x34000)] s t)) ∧
  (∀ (s : State) (p i : Nat) (c : Cand),
    (decide (p < 256)) = true →
    s.firmwareOn 1 = true →
    ((s.prog p).cand i == some c) = true →
    (c.kind != 3) = true →
    c.bad.isNone = true →
    (!s.usable p c) = true →
    ((s.prog p).active != some i) = true →
    ((s.prog p).incoming != some i) = true →
    Gives (.candidateUnusable p i) s (fun t =>
      (((t.prog p).cand i).map (fun x => (x.bad, x.badSince)) = some (some ((s.badFrom p c : Int) - (s.prog p).aOf i c * 81920).toNat, s.now) ∧ (t.prog p).active = (s.prog p).active) ∧ Within [(0x28000, 0x30000), (0x1000, 0x2000), (0x30000, 0x34000), (0x68000, 0x70000)] s t)) ∧
  (∀ (s : State) (p i : Nat) (c : Cand),
    (decide (p < 256)) = true →
    s.firmwareOn 1 = true →
    ((s.prog p).cand i == some c) = true →
    c.bad.isSome = true →
    s.usable p c = true →
    (decide ((if c.kind = 1 then 5 else 10) ≤ c.goodRun)) = true →
    Gives (.candidateUsable p i) s (fun t =>
      (((t.prog p).cand i).map (fun x => (x.bad, x.lost)) = some (none, none)) ∧ Within [(0x28000, 0x30000), (0x1000, 0x2000), (0x30000, 0x34000), (0x68000, 0x70000)] s t)) ∧
  (∀ (s : State) (p i : Nat) (c : Cand),
    (decide (p < 256)) = true →
    s.firmwareOn 1 = true →
    ((s.prog p).cand i == some c) = true →
    (c.kind != 3) = true →
    (!c.inelig) = true →
    (!s.eligible p c ((s.prog p).aOf i c)) = true →
    Gives (.folInelig p i) s (fun t =>
      (((t.prog p).cand i).map (fun x => x.inelig) = some true ∧ Counted (FOLp_CNT2_INELIG p) s t) ∧ Within [(0x28000, 0x30000), (0x1000, 0x2000), (0x30000, 0x34000), (0x68000, 0x70000)] s t)) ∧
  (∀ (s : State) (p i : Nat) (c : Cand) (e : Rat),
    (decide (p < 256)) = true →
    s.firmwareOn 1 = true →
    ((s.prog p).cand i == some c) = true →
    (c.kind == 1) = true →
    s.scored c = true →
    s.usable p c = true →
    c.bad.isNone = true →
    (c.e == some e) = true →
    Gives (.scoreUpdate p i) s (fun t =>
      (((t.prog p).cand i).map (fun x => (x.e, x.goodRun)) = some (some (e + (s.quality c + (s.bias p c : Rat) - e) * 4 / ((100 * s.getF (FOLp_POL1_TAU p) + 4 : Nat) : Rat)), c.goodRun + 1)) ∧ Within [(0x28000, 0x30000), (0x1000, 0x2000), (0x30000, 0x34000), (0x68000, 0x70000)] s t)) ∧
  (∀ (s : State) (p hz i : Nat) (fig : Bool),
    (decide (p < 256)) = true →
    s.firmwareOn 1 = true →
    (decide (2 ≤ s.folState p)) = true →
    (s.getF (FOLp_CTL_KEY p) != 3) = true →
    (s.fol.pool == []) = true →
    (!s.fol.retry.any fun r => r.1 == p && r.2.1 == hz && decide (s.now < r.2.2)) = true →
    (decide (binOf hz < 2048)) = true →
    (if fig then (s.fol.info.any fun q => q.2.fm.any fun x => x.2 == hz && s.piMatch p x.1) else ((s.prog p).cands.any fun q => q.2.kind == 1 && (s.dem q.2.num).af.contains hz)) = true →
    (((List.range (s.getF FOL_POOL_COUNT)).find? fun j => decide (s.getF FOL_POOL_BASE + j < s.hdr.paths) && s.getF (PTHn_STAT_STATE (s.getF FOL_POOL_BASE + j)) == 0) == some i) = true →
    (s.getF (PTHn_RS_NUM (s.getF FOL_POOL_BASE + i)) == 0) = true →
    (decide (s.getF FOL_POOL_BASE + i < 512)) = true →
    Gives (.poolPathStart p hz fig) s (fun t =>
      t.fol.pool.map (fun q => (q.1, q.2.hz, q.2.progs)) = [(s.getF FOL_POOL_BASE + i, hz, [p])] ∧ t.getF (PTHn_STAT_STATE (s.getF FOL_POOL_BASE + i)) = 1 ∧ t.getF (PTHn_CTL_TYPE (s.getF FOL_POOL_BASE + i)) = 1 ∧ t.getF (PTHn_CTL_PRESET (s.getF FOL_POOL_BASE + i)) = 6 ∧ t.getF (DEMn_CTL_RDS (s.getF FOL_POOL_BASE + i)) = 1)) ∧
  (∀ (s : State) (n T : Nat) (q : PoolPath),
    s.firmwareOn 1 = true →
    ((s.fol.pool.find? fun r => r.1 == n) == some (n, q)) = true →
    s.pathRunning n = true →
    (!s.flag (DEMn_STAT_PI_CONF n)) = true →
    (decide (s.pathOrigin n + 3 * Config.ticksPerSecond ≤ (s.advance T).now)) = true →
    Gives (.poolPathTimeout n T) s (fun t =>
      (t.fol.pool.find? fun r => r.1 == n) = none ∧ (q.progs.all fun p => t.fol.retry.contains (p, q.hz, (s.advance T).now + 60 * Config.ticksPerSecond)) = true)) ∧
  (∀ (s : State) (T n : Nat),
    s.firmwareOn 1 = true →
    (s.fol.pool.any fun q => q.1 == n && q.2.progs.all (fun p => s.folState p == 0) && q.2.idle.any (fun x => decide (x + tenSeconds ≤ (s.advance T).now))) = true →
    ((s.fol.pool.filter fun q => q.1 == n).length == 1) = true →
    Gives (.poolIdleStop T) s (fun t =>
      (t.fol.pool.find? fun q => q.1 == n) = none)) ∧
  (∀ (s : State) (p i d : Nat) (c : Cand),
    (decide (p < 256)) = true →
    s.firmwareOn 1 = true →
    ((s.prog p).cand i == some c) = true →
    (c.kind == 3) = true →
    c.bad.isNone = true →
    (s.prog p).leadsDab i c = true →
    (s.slotState (c.num / 256 % 64) == 3) = true →
    (s.liveDecs == []) = true →
    (decide (s.channels.length < s.mrw.chans)) = true →
    (s.chanOf 2 d).isNone = true →
    ((List.range s.mrw.chans).any fun k => !s.flag (MRW_ACH_VALID k)) = true →
    decide (s.getF FOL_DEC_MAX > 0) = true →
    (s.otherHeld (s.prog p)).isEmpty = true →
    (((List.range s.hdr.dec).find? fun e => s.decState e == 0) == some d) = true →
    (decide (d < 128)) = true →
    Gives (.fennelDecoderStart p i) s (fun t =>
      t.flag (DECd_CTL_OWNER d) = true ∧ t.decState d = 1 ∧ t.getF (DECd_CTL_SLOT d) = c.num / 256 % 64 ∧ t.getF (DECd_CTL_SUBCH d) = c.num % 64 ∧ ((t.prog p).cand i).map (fun x => (x.kind, x.num, x.sub)) = some (2, d, c.num))) ∧
  (∀ (s : State) (d T x : Nat),
    s.firmwareOn 1 = true →
    (decide (d < 128)) = true →
    (((idleRefresh (s.advance T)).fol.decIdle.find? fun q => q.1 == d) == some (d, x)) = true →
    (decide (x + tenSeconds ≤ (s.advance T).now)) = true →
    (s.decState d == 2) = true →
    ((s.decoder d).change != .stop) = true →
    (!s.inFade 2 d) = true →
    Gives (.fennelDecoderStop d T) s (fun t =>
      (t.decoder d).change = .stop ∧ (t.decoder d).due = ceilTo 5242880 ((s.advance T).now + 1)))

/-- An enabled port seeks, and both directions of a shared clock enter RUN at the 64th good frame (R308); a frame in
RUN moves the mute ramp and the channel-status block on (R315, R322), a glitch repeats and is counted, a stopped clock
holds (R309); a block handed over is queued behind those waiting or discarded and counted (R309 to R314); the tap
delivers 64 frames (R317); masks, channel status and MAP follow R310 and R320 to R323. -/
def Obligations.SerialAudioPorts : Prop :=
  (∀ (s : State) (m : Master) (k : Nat) (v : Word),
    (decide (k < 8)) = true →
    s.reaches m (SAPk_CTL k) = true →
    (!(s.ktOwned && decide (k < 2) && m != .personality)) = true →
    (!s.flag (SAPk_CTL_EN k)) = true →
    (s.sapCtlCode k v == 0) = true →
    (bitsOf v.toNat 31 31 == 1) = true →
    Gives (.sapCtlWrite m k v) s (fun t =>
      (t.flag (SAPk_CTL_EN k) = true ∧ t.getF (SAPk_STAT_OSTATE k) = 1 ∧ t.getF (SAPk_STAT_ISTATE k) = 1 ∧ t.getF (SAPk_STAT_MUTED k) = 1 ∧ t.flag (SAPk_STAT_RS_ACT k) = decide (bitsOf v.toNat 27 26 = 1)) ∧ Within [(0x34000, 0x38000), (0x2024, 0x2028), (0x68000, 0x70000)] s t)) ∧
  (∀ (s : State) (m : Master) (k : Nat) (v : Word),
    (decide (k < 8)) = true →
    s.reaches m (SAPk_CTL k) = true →
    (!(s.ktOwned && decide (k < 2) && m != .personality)) = true →
    s.flag (SAPk_CTL_EN k) = true →
    (((regPut (SAPk_CTL k) v s).rd (SAPk_CTL k)).toNat % 2 ^ 31 != (s.rd (SAPk_CTL k)).toNat % 2 ^ 31) = true →
    Gives (.sapCtlWrite m k v) s (fun t =>
      (t.rd (SAPk_CTL k) = s.rd (SAPk_CTL k) ∧ t.getF (SAPk_STAT_CODE k) = codeWrongState ∧ Counted (SAPk_STAT_REFCNT k) s t) ∧ Within [(0x34000, 0x38000), (0x2024, 0x2028), (0x68000, 0x70000)] s t)) ∧
  (∀ (s : State) (k u w : Nat) (f : SapFrame),
    (decide (k < 8)) = true →
    s.flag (SAPk_CTL_EN k) = true →
    (decide (f.dir < 2)) = true →
    (!s.pwr.inReset) = true →
    s.sapShared k = true →
    (!f.violation) = true →
    (f.edges == s.sapEdges k) = true →
    (s.getF (SAPk_STAT_OSTATE k) == 1) = true →
    (s.getF (SAPk_STAT_ISTATE k) == 1) = true →
    ((s.sap k).out.last == some u) = true →
    ((s.sap k).inp.last == some w) = true →
    s.periodOk k (f.stamp - u) = true →
    s.periodOk k (f.stamp - w) = true →
    ((s.sap k).out.good == 63) = true →
    ((s.sap k).inp.good == 63) = true →
    Gives (.sapFrame k f) s (fun t =>
      t.getF (SAPk_STAT_OSTATE k) = 2 ∧ t.getF (SAPk_STAT_ISTATE k) = 2 ∧ (t.sap k).out.ticks0 = (s.sap k).out.ticks + (f.stamp - u))) ∧
  (∀ (s : State) (k u : Nat) (f : SapFrame),
    (decide (k < 8)) = true →
    s.flag (SAPk_CTL_EN k) = true →
    (f.dir == 0) = true →
    (!s.pwr.inReset) = true →
    (!s.sapShared k) = true →
    (!f.violation) = true →
    (f.edges == s.sapEdges k) = true →
    (s.getF (SAPk_STAT_OSTATE k) == 2) = true →
    ((s.sap k).out.last == some u) = true →
    (decide ((s.sap k).out.frames < 63)) = true →
    Gives (.sapFrame k f) s (fun t =>
      ((t.sap k).ramp = (if s.flag (SAPk_OCTL_MUTE k) then (s.sap k).ramp - 1 else min (s.sapRampLen k) ((s.sap k).ramp + 1)) ∧ t.flag (SAPk_STAT_MUTED k) = decide ((t.sap k).ramp = 0) ∧ (t.sap k).csFrame = ((s.sap k).csFrame + 1) % 192 ∧ (t.sap k).out.frames = (s.sap k).out.frames + 1) ∧ Within [(0x34000, 0x38000), (0x2024, 0x2028), (0x1000, 0x2000), (0x30000, 0x34000), (0x68000, 0x70000)] s t)) ∧
  (∀ (s : State) (k : Nat) (f : SapFrame),
    (decide (k < 8)) = true →
    s.flag (SAPk_CTL_EN k) = true →
    (f.dir == 0) = true →
    (!s.pwr.inReset) = true →
    (!s.sapShared k) = true →
    f.violation = true →
    (s.getF (SAPk_STAT_OSTATE k) == 2) = true →
    Gives (.sapFrame k f) s (fun t =>
      (Counted (SAPk_GLITCH_O k) s t ∧ (t.sap k).sent = (s.sap k).sent ∧ t.getF (SAPk_STAT_OSTATE k) = 2) ∧ Within [(0x34000, 0x38000), (0x2024, 0x2028)] s t)) ∧
  (∀ (s : State) (k d n u : Nat),
    (decide (k < 8)) = true →
    (d == 0) = true →
    (!s.sapShared k) = true →
    (s.getF (SAPk_STAT_OSTATE k) == 2) = true →
    ((s.sap k).out.last == some u) = true →
    (decide (u + s.sapTicks k 4 ≤ (s.advance n).now)) = true →
    Gives (.sapClockStop k d n) s (fun t =>
      (t.getF (SAPk_STAT_OSTATE k) = 3 ∧ Counted (SAPk_FLT_OSTOP k) s t ∧ t.getF (SAPk_STAT_MUTED k) = 1 ∧ (t.sap k).ramp = 0 ∧ t.getF (SAPk_STAT_ISTATE k) = s.getF (SAPk_STAT_ISTATE k)) ∧ Within [(0x34000, 0x38000), (0x2024, 0x2028), (0x1000, 0x2000), (0x30000, 0x34000), (0x68000, 0x70000)] s t)) ∧
  (∀ (s : State) (k i h : Nat),
    (decide (k < 8)) = true →
    (decide (i < 8)) = true →
    (!s.pwr.inReset) = true →
    (s.handover (s.getF (SAPk_MAP_KIND k i)) (s.getF (SAPk_MAP_NUM k i)) h).isSome = true →
    (s.getF (SAPk_STAT_OSTATE k) != 2) = true →
    s.flag (SAPk_CTL_EN k) = true →
    (s.getF (SAPk_MAP_KIND k i) != 0) = true →
    Gives (.sapBlockHandoff k i h) s (fun t =>
      (Counted (SAPk_ODROP_DISC k) s t ∧ t.saps = s.saps) ∧ Within [(0x34000, 0x38000)] s t)) ∧
  (∀ (s : State) (k i h : Nat) (b : Block),
    (decide (k < 8)) = true →
    (decide (i < 8)) = true →
    (!s.pwr.inReset) = true →
    (s.handover (s.getF (SAPk_MAP_KIND k i)) (s.getF (SAPk_MAP_NUM k i)) h == some (some b)) = true →
    (!s.abandoned 8 k h) = true →
    (!s.tokenOver 8 k b.ts b.ts) = true →
    (s.getF (SAPk_STAT_OSTATE k) == 2) = true →
    (!s.podsOut 8 k) = true →
    (s.sapRate k != 44100) = true →
    (((s.sap k).pair i).kind == s.getF (SAPk_MAP_KIND k i)) = true →
    (((s.sap k).pair i).num == s.getF (SAPk_MAP_NUM k i)) = true →
    (!((s.sap k).pair i).gap) = true →
    (!b.flags.testBit 1) = true →
    (((s.sap k).pair i).handed != some h) = true →
    (decide (((s.sap k).pair i).buf.length + (stereo b.samples).length ≤ 256)) = true →
    Gives (.sapBlockHandoff k i h) s (fun t =>
      (((t.sap k).pair i).buf.map (fun x => (x.l, x.r)) = ((s.sap k).pair i).buf.map (fun x => (x.l, x.r)) ++ stereo b.samples ∧ ((t.sap k).pair i).handed = some h ∧ t.getF (SAPk_ODROP_DROP k) = s.getF (SAPk_ODROP_DROP k)) ∧ Within [(0x34000, 0x38000)] s t)) ∧
  (∀ (s : State) (k i h : Nat) (b : Block),
    (decide (k < 8)) = true →
    (decide (i < 8)) = true →
    (!s.pwr.inReset) = true →
    (s.handover (s.getF (SAPk_MAP_KIND k i)) (s.getF (SAPk_MAP_NUM k i)) h == some (some b)) = true →
    (!s.abandoned 8 k h) = true →
    (!s.tokenOver 8 k b.ts b.ts) = true →
    (s.getF (SAPk_STAT_OSTATE k) == 2) = true →
    (!s.podsOut 8 k) = true →
    (((s.sap k).pair i).kind == s.getF (SAPk_MAP_KIND k i)) = true →
    (((s.sap k).pair i).num == s.getF (SAPk_MAP_NUM k i)) = true →
    (!((s.sap k).pair i).gap) = true →
    (!b.flags.testBit 1) = true →
    (((s.sap k).pair i).handed != some h) = true →
    (decide (((s.sap k).pair i).buf.length + (pairQueue s k h false (stereo b.samples) { ((s.sap k).pair i) with handed := some h, gap := false, warm := 0 }).1.length ≤ 256)) = true →
    Gives (.sapBlockHandoff k i h) s (fun t =>
      (((t.sap k).pair i).buf = ((s.sap k).pair i).buf ++ (pairQueue s k h false (stereo b.samples) { ((s.sap k).pair i) with handed := some h, gap := false, warm := 0 }).1) ∧ Within [(0x34000, 0x38000)] s t)) ∧
  (∀ (s : State) (k i h : Nat),
    (decide (k < 8)) = true →
    (decide (i < 8)) = true →
    (!s.pwr.inReset) = true →
    (s.handover (s.getF (SAPk_MAP_KIND k i)) (s.getF (SAPk_MAP_NUM k i)) h == some none) = true →
    (s.getF (SAPk_STAT_OSTATE k) == 2) = true →
    (!s.podsOut 8 k) = true →
    (((s.sap k).pair i).handed != some h) = true →
    (decide (((s.sap k).pair i).buf.length + 64 ≤ 256)) = true →
    Gives (.sapBlockHandoff k i h) s (fun t =>
      (Counted (SAPk_ODROP_DROP k) s t ∧ ((t.sap k).pair i).gap = true ∧ ((t.sap k).pair i).handed = some h) ∧ Within [(0x34000, 0x38000)] s t)) ∧
  (∀ (s : State) (m : Master) (k i : Nat) (v : Word),
    (decide (k < 8)) = true →
    s.reaches m (SAPk_MAP k i) = true →
    (!(s.ktOwned && decide (k < 2) && m != .personality)) = true →
    (decide (i < 8)) = true →
    s.feat 7 = true →
    s.feat 8 = true →
    s.sapSrcOk (bitsOf v.toNat 31 30) (bitsOf v.toNat 9 0) = true →
    (decide (i < s.sapSlots k / 2) || bitsOf v.toNat 31 30 == 0) = true →
    Gives (.sapMapWrite m k i v) s (fun t =>
      (t.getF (SAPk_MAP_KIND k i) = bitsOf v.toNat 31 30 ∧ t.getF (SAPk_MAP_NUM k i) = bitsOf v.toNat 9 0) ∧ Within [(SAPk_MAP k i, SAPk_MAP k i + 4), (0x68000, 0x70000)] s t)) ∧
  (∀ (s : State) (m : Master) (k : Nat) (on : Bool),
    (decide (k < 8)) = true →
    s.reaches m (SAPk_OCTL k) = true →
    (!(s.ktOwned && decide (k < 2) && m != .personality)) = true →
    Gives (.sapMute m k on) s (fun t =>
      (t.flag (SAPk_OCTL_MUTE k) = on) ∧ Within [(SAPk_OCTL k, SAPk_OCTL k + 4), (0x68000, 0x70000)] s t)) ∧
  (∀ (s : State) (k ts : Nat),
    (decide (k < 8)) = true →
    s.flag (SAPk_CTL_EN k) = true →
    (ts % 5242880 == 0) = true →
    (s.sap k).tapRun = true →
    (decide (65 ≤ (s.sap k).tapBuf.length)) = true →
    (tapSlip (s.sapTicks k 1) ts (s.sap k) == 0) = true →
    Gives (.sapTapBlock k ts) s (fun t =>
      ((t.sap k).tap.map (fun b => b.ts) = some ts ∧ (t.sap k).tapBuf = (s.sap k).tapBuf.drop 64 ∧ (t.sap k).tapRun = true ∧ t.getF (SAPk_XRUN_IUNDER k) = s.getF (SAPk_XRUN_IUNDER k)) ∧ Within [(0x34000, 0x38000)] s t)) ∧
  (∀ (s : State) (m : Master) (k : Nat),
    (decide (k < 8)) = true →
    s.reaches m (SAPk_ICAP k) = true →
    (!(s.ktOwned && decide (k < 2) && m != .personality)) = true →
    s.feat 1 = true →
    (s.getF (SAPk_ICAP_PACK k) == 0) = true →
    (decide (s.getF (SAPk_IMASK_MASK k) < 2 ^ s.sapSlots k)) = true →
    Gives (.maskCommit m k) s (fun t =>
      (t.getF (SAPk_STAT_MASK_PEND k) = 1 ∧ t.getF (SAPk_ICAP_CAP_EN k) = s.getF (SAPk_ICAP_CAP_EN k) ∧ t.getF (SAPk_IMASK_ACT_MASK k) = s.getF (SAPk_IMASK_ACT_MASK k)) ∧ Within [(0x34000, 0x38000), (0x68000, 0x70000)] s t)) ∧
  (∀ (s : State) (m : Master) (k : Nat),
    (decide (k < 8)) = true →
    s.reaches m (SAPk_TCS_CTL k) = true →
    (!(s.ktOwned && decide (k < 2) && m != .personality)) = true →
    Gives (.tcsApply m k) s (fun t =>
      ((t.sap k).tcsPend = true ∧ (t.sap k).tcs = (s.sap k).tcs) ∧ Within [(0x34000, 0x38000), (0x68000, 0x70000)] s t)) ∧
  (∀ (s : State) (k : Nat) (l : List Byte),
    (decide (k < 8)) = true →
    ((s.sap k).csBlock == some l) = true →
    (s.getF (SAPk_CTL_FORMAT k) == 3) = true →
    (s.getF (SAPk_STAT_ISTATE k) == 2) = true →
    ((l.headD 0).toNat % 2 == 0) = true →
    (l.length == 24) = true →
    Gives (.aes3CsBlock k) s (fun t =>
      ((t.sap k).csBlock = none ∧ ∀ i, i < 6 → (t.rd (SAPk_RCS k i)).toNat = leAt l (4 * i) 4) ∧ Within [(0x34000, 0x38000), (0x1000, 0x2000), (0x30000, 0x34000), (0x68000, 0x70000)] s t)) ∧
  (∀ (s : State) (k : Nat) (l : List Byte),
    (decide (k < 8)) = true →
    ((s.sap k).csBlock == some l) = true →
    (s.getF (SAPk_CTL_FORMAT k) == 3) = true →
    (s.getF (SAPk_STAT_ISTATE k) == 2) = true →
    ((l.headD 0).toNat % 2 == 1) = true →
    (crccRun (l.take 23) 0xFF != (l.getD 23 0).toNat) = true →
    Gives (.aes3CsBlock k) s (fun t =>
      (Counted (SAPk_AESCNT_CRCC k) s t) ∧ Within [(SAPk_AESCNT k, SAPk_AESCNT k + 4)] s t))

/-- Links, received frames, AES67 senders and receivers, IQ streams and side data act as R329 to R345 say: a sender
joins only within the reserved rate (R349), packets carry consecutive sequence numbers and media times, a held packet
is counted, a receiver runs after 8 packets in order, and a packet past its wait bound is discarded and counted
(R350). -/
def Obligations.Ethernet : Prop :=
  (∀ (s : State) (p : Nat) (up lk : Bool),
    (decide (p < 2)) = true →
    s.flag (NET_PORTm_CTL_EN p) = true →
    (s.linkUp p != up) = true →
    (!up || s.flag CLK_DOM_ETH) = true →
    Gives (.ethLinkChange p up lk) s (fun t =>
      t.linkUp p = up ∧ t.flag (NET_PORTm_STAT_BLOCK_LOCK p) = lk ∧ (3 ≤ s.stage → s.pwr.inReset = false → t.getF ⟨EVT_Gg_STAT 4, 0, 0⟩ = 1))) ∧
  (∀ (s : State) (p n : Nat) (f : EthFrame),
    (decide (p < 2)) = true →
    s.linkUp p = true →
    (decide (f.len ≤ 1522)) = true →
    (f.vlan == s.getF (NET_PORTm_CTL_VLAN p)) = true →
    (!s.addressed p f || f.frag || decide (6 ≤ f.proto)) = true →
    Gives (.ethFrameRx p f n) s (fun t =>
      (Counted (NET_PORTm_RXDROP_CNT p) s t ∧ t.net = s.net) ∧ Within [(0x38000, 0x3C000)] s t)) ∧
  (∀ (s : State) (p n : Nat) (f : EthFrame),
    (decide (p < 2)) = true →
    s.linkUp p = true →
    (decide (f.len ≤ 1522)) = true →
    (f.vlan == s.getF (NET_PORTm_CTL_VLAN p)) = true →
    s.addressed p f = true →
    (!f.frag) = true →
    (f.proto == 1 || f.proto == 2) = true →
    (s.egr p).queue.isEmpty = true →
    (decide ((s.egr p).free ≤ n)) = true →
    Gives (.ethFrameRx p f n) s (fun t =>
      ((t.egr p).queue = [] ∧ (t.egr p).free = n + s.wireTicks p (f.len + 20) ∧ t.getF (NET_PORTm_RXDROP_CNT p) = s.getF (NET_PORTm_RXDROP_CNT p)) ∧ Within [] s t)) ∧
  (∀ (s : State) (p n : Nat) (f : EthFrame),
    (decide (p < 2)) = true →
    s.linkUp p = true →
    (decide (f.len ≤ 1522)) = true →
    (f.vlan == s.getF (NET_PORTm_CTL_VLAN p)) = true →
    s.addressed p f = true →
    (!f.frag) = true →
    (f.proto == 0) = true →
    (f.ip == s.getF (NET_PORTm_IP_ADDR p)) = true →
    (s.egr p).queue.isEmpty = true →
    (decide ((s.egr p).free ≤ n)) = true →
    Gives (.ethFrameRx p f n) s (fun t =>
      ((t.egr p).queue = [] ∧ (t.egr p).free = n + s.wireTicks p (84 + s.tagBytes p)) ∧ Within [] s t)) ∧
  (∀ (s : State) (p n : Nat) (f : EthFrame),
    (decide (p < 2)) = true →
    s.linkUp p = true →
    (decide (f.len ≤ 1522)) = true →
    (f.vlan == s.getF (NET_PORTm_CTL_VLAN p)) = true →
    s.addressed p f = true →
    (!f.frag) = true →
    (f.proto == 3) = true →
    Gives (.ethFrameRx p f n) s (fun t =>
      t = s.advance n)) ∧
  (∀ (s : State) (m : Master) (k : Nat) (v : Word),
    (decide (k < 256)) = true →
    s.reaches m (NET_TXs_CTL k) = true →
    (!s.flag (NET_TXs_CTL_EN k)) = true →
    v.toNat.testBit 31 = true →
    s.feat 4 = true →
    regOk (NET_TXs_CTL k) v = true →
    (decide (k < s.hdr.aestx)) = true →
    (decide (bitsOf v.toNat 7 0 < s.hdr.progs)) = true →
    s.rateFits (bitsOf v.toNat 30 30) (NET_TXs_CTL k) (s.txRate v.toNat) = true →
    Gives (.aes67SenderEnable m k v) s (fun t =>
      (t.flag (NET_TXs_CTL_EN k) = true ∧ t.getF (NET_TXs_CTL_PROG k) = bitsOf v.toNat 7 0 ∧ t.tx k = {}) ∧ Within [(0x38000, 0x3C000), (0x68000, 0x70000)] s t)) ∧
  (∀ (s : State) (m : Master) (k : Nat) (v : Word),
    (decide (k < 256)) = true →
    s.reaches m (NET_TXs_CTL k) = true →
    (!s.flag (NET_TXs_CTL_EN k)) = true →
    v.toNat.testBit 31 = true →
    s.feat 4 = true →
    regOk (NET_TXs_CTL k) v = true →
    (decide (k < s.hdr.aestx)) = true →
    (decide (bitsOf v.toNat 7 0 < s.hdr.progs)) = true →
    (!s.rateFits (bitsOf v.toNat 30 30) (NET_TXs_CTL k) (s.txRate v.toNat)) = true →
    Gives (.aes67SenderEnable m k v) s (fun t =>
      (t.flag (NET_TXs_CTL_EN k) = false ∧ t.getF ⟨NET_REFUSE, 31, 28⟩ = codeBusy ∧ Counted ⟨NET_REFUSE, 15, 0⟩ s t) ∧ Within [(0x38000, 0x3C000), (0x68000, 0x70000)] s t)) ∧
  (∀ (s : State) (k n : Nat) (x : Nat),
    (decide (k < 256)) = true →
    s.flag (NET_TXs_CTL_EN k) = true →
    s.flag CLK_MAP_GEN_VALID = true →
    s.linkUp (s.getF (NET_TXs_CTL_PORT k)) = true →
    (!s.flag (NET_TXs_CTL_PTIME k)) = true →
    (decide (48 ≤ (s.tx k).buf.length)) = true →
    (!decide ((s.advance n).now < ((s.tx k).buf.getD 47 ⟨0, 0, 0, 0⟩).h)) = true →
    ((s.tx k).rtp == some (x, s.clk.epoch)) = true →
    (s.mediaTime (((s.tx k).buf.head?.map (·.h)).getD 0) % 4294967296 == (x : Int)) = true →
    Gives (.aes67PacketTx k n) s (fun t =>
      ((t.tx k).sent.map (fun q => (q.seq, q.ts)) = some ((s.tx k).seq, x) ∧ (t.tx k).seq = ((s.tx k).seq + 1) % 65536 ∧ (t.tx k).rtp = some ((x + 48) % 2 ^ 32, s.clk.epoch) ∧ (t.tx k).buf = (s.tx k).buf.drop 48 ∧ t.getF (NET_TXs_STAT_SLIP k) = s.getF (NET_TXs_STAT_SLIP k)) ∧ Within [(0x38000, 0x3C000)] s t)) ∧
  (∀ (s : State) (k n : Nat),
    (decide (k < 256)) = true →
    s.flag (NET_TXs_CTL_EN k) = true →
    (!s.flag CLK_MAP_GEN_VALID || !s.linkUp (s.getF (NET_TXs_CTL_PORT k))) = true →
    (!s.flag (NET_TXs_CTL_PTIME k)) = true →
    (decide (48 < (s.tx k).buf.length)) = true →
    (!decide ((s.advance n).now < ((s.tx k).buf.getD 47 ⟨0, 0, 0, 0⟩).h)) = true →
    Gives (.aes67PacketTx k n) s (fun t =>
      (Counted (NET_TXs_STAT_HELD k) s t ∧ (t.tx k).buf = (s.tx k).buf.drop 48 ∧ (t.tx k).seq = (s.tx k).seq ∧ (t.tx k).sent = (s.tx k).sent) ∧ Within [(0x38000, 0x3C000)] s t)) ∧
  (∀ (s : State) (p r n : Nat) (q : RtpPacket),
    (decide (p < 2)) = true →
    (decide (r < 16)) = true →
    s.rxMatch p r q = true →
    ((s.rx r).ssrc != some q.ssrc) = true →
    Gives (.aes67PacketRx p r q n) s (fun t =>
      t.getF (NET_RXr_STAT_STATE r) = 1 ∧ (t.rx r).ssrc = some q.ssrc ∧ (t.rx r).next = (q.seq + 1) % 65536 ∧ (t.rx r).good = 1)) ∧
  (∀ (s : State) (p r n : Nat) (q : RtpPacket),
    (decide (p < 2)) = true →
    (decide (r < 16)) = true →
    s.rxMatch p r q = true →
    ((s.rx r).ssrc == some q.ssrc) = true →
    (s.getF (NET_RXr_STAT_STATE r) == 1) = true →
    ((s.rx r).next == q.seq) = true →
    (decide (q.seq < 65536)) = true →
    ((s.rx r).good == 7) = true →
    Gives (.aes67PacketRx p r q n) s (fun t =>
      t.getF (NET_RXr_STAT_STATE r) = 2 ∧ (t.rx r).next = (q.seq + 1) % 65536 ∧ (t.rx r).good = 8)) ∧
  (∀ (s : State) (r ts : Nat),
    (decide (r < 16)) = true →
    s.flag (NET_RXr_CTL_EN r) = true →
    (ts % 5242880 == 0) = true →
    (!(s.rx r).tap.tapRun) = true →
    (s.getF (NET_RXr_STAT_STATE r) != 2) = true →
    Gives (.aes67ReceiverBlock r ts) s (fun t =>
      ((t.rx r).tap.tap.map (fun b => (b.ts, b.flags.testBit 5)) = some (ts, true) ∧ (t.rx r).tap.tapRun = false) ∧ Within [] s t)) ∧
  (∀ (s : State) (k n : Nat) (b : Block),
    (decide (k < 64)) = true →
    s.flag (NET_IQi_CTL_EN k) = true →
    ((vitaTake (s.iq k).buf).head? == some b) = true →
    s.linkUp (s.getF (NET_IQi_CTL_PORT k)) = true →
    Gives (.vitaPacketTx k n) s (fun t =>
      ((t.iq k).sent = vitaWords (s.advance n) k (s.iq k).count b.ts ((vitaTake (s.iq k).buf).foldl (fun f x => f ||| x.flags) 0) ((vitaTake (s.iq k).buf).flatMap fun x => pairUp x.samples) (b.flags.testBit 7) ∧ (t.iq k).count = ((s.iq k).count + 1) % 16 ∧ (t.iq k).buf = (s.iq k).buf.drop (vitaTake (s.iq k).buf).length) ∧ Within [(0x38000, 0x3C000)] s t)) ∧
  (∀ (s : State) (k n : Nat),
    (decide (k < 64)) = true →
    s.flag (NET_IQi_CTL_EN k) = true →
    (!(vitaTake (s.iq k).buf).isEmpty) = true →
    (!s.linkUp (s.getF (NET_IQi_CTL_PORT k))) = true →
    Gives (.vitaPacketTx k n) s (fun t =>
      (Counted (NET_IQi_STAT_HELD k) s t ∧ (t.iq k).buf = (s.iq k).buf.drop (vitaTake (s.iq k).buf).length ∧ (t.iq k).sent = (s.iq k).sent) ∧ Within [(0x38000, 0x3C000)] s t)) ∧
  (∀ (s : State) (k n : Nat),
    (decide (k < 64)) = true →
    s.flag (NET_IQi_CTL_EN k) = true →
    s.linkUp (s.getF (NET_IQi_CTL_PORT k)) = true →
    (s.egr (s.getF (NET_IQi_CTL_PORT k))).queue.isEmpty = true →
    (s.advance n).ctxDue k n = true →
    Gives (.vitaContextTx k n) s (fun t =>
      (Counted (NET_IQi_STAT_CTX k) s t ∧ (t.iq k).ctxAt = some n ∧ (t.iq k).ctx = some ((s.advance n).vitaCtx k)) ∧ Within [(0x38000, 0x3C000)] s t)) ∧
  (∀ (s : State) (ty n x : Nat) (r : Rec),
    (decide (1 ≤ ty)) = true →
    (decide (ty ≤ 4)) = true →
    s.firmwareOn 2 = true →
    s.flag NET_CAS_CTL_SIDE = true →
    ((s.recs.filter fun q => q.1 == 0 && q.2.2.type == ty).map (fun q => q.2) == [(x, r)]) = true →
    (decide (x + 2 * Config.ticksPerMs ≤ n)) = true →
    (decide (r.bytes.length ≤ 1448)) = true →
    (!s.net.casDrop.contains ty) = true →
    (s.egr (s.getF NET_CAS_CTL_PORT)).queue.isEmpty = true →
    Gives (.casrumSideSend ty n) s (fun t =>
      (t.net.casSent = some (ty, sget seqNone s.net.casSeq (s.casKey ty), n, [r.bytes]) ∧ sget seqNone t.net.casSeq (s.casKey ty) = (sget seqNone s.net.casSeq (s.casKey ty) + 1) % 2 ^ 32 ∧ t.recs = s.recs.filter (fun q => !(q.1 == 0 && q.2.2.type == ty))) ∧ Within [(0x38000, 0x3C000)] s t)) ∧
  (∀ (s : State) (p c n : Nat) (x : EgrPkt),
    (decide (p < 2)) = true →
    (c == 1 || c == 2) = true →
    (!s.linkUp p) = true →
    ((s.egr p).queue == [x]) = true →
    (x.cls == c) = true →
    (decide (x.at_ + s.egrWait c ≤ n)) = true →
    Gives (.egressTimeout p c n) s (fun t =>
      ((t.egr p).queue = [] ∧ Counted (NET_PORTm_CLS_REFCAP p c) s t) ∧ Within [(0x38000, 0x3C000)] s t))

/-- A host-bus read latches the upper half at the lower and counts a split read; a low write is held and a high write
commits 32 bits to the queue, which discards and counts an overflow (R363 to R371); BAR0 refuses any other size or
alignment (R352); Casrum control executes only for an allowed source (R346, R347); a write to a register that is not
live is refused with NOTLOCKED (R83), one where no register lies changes nothing (R571), and a read of a clear-on-read
count clears it (R8). -/
def Obligations.HostAccess : Prop :=
  (∀ (s : State) (a be : Nat),
    s.hbLive = true →
    (!hbAlias a) = true →
    (a % 2 == 0) = true →
    Gives (.hbRead a be) s (fun t =>
      t.hb.rdata = s.hbView (s.hbReg a) % 65536 ∧ t.hb.latch = some (s.hbReg a, s.hbView (s.hbReg a) / 65536) ∧ t.hb.queue = s.hb.queue)) ∧
  (∀ (s : State) (a be h : Nat),
    s.hbLive = true →
    (!hbAlias a) = true →
    (a % 2 == 1) = true →
    (s.hb.latch == some (s.hbReg a, h)) = true →
    Gives (.hbRead a be) s (fun t =>
      (t.hb.rdata = h % 65536 ∧ t.hb.latch = none) ∧ Within [] s t)) ∧
  (∀ (s : State) (a be : Nat),
    s.hbLive = true →
    (!hbAlias a) = true →
    (a % 2 == 1) = true →
    (s.hb.latch == none) = true →
    Gives (.hbRead a be) s (fun t =>
      (t.hb.rdata = s.hbView (s.hbReg a) / 65536 % 65536 ∧ Counted SYS_HB_CNT_SPLIT s t) ∧ Within [(SYS_HB_CNT, SYS_HB_CNT + 4)] s t)) ∧
  (∀ (s : State) (a be d : Nat),
    s.hbLive = true →
    (!hbAlias a) = true →
    (a % 2 == 0) = true →
    (be == 3) = true →
    (decide (d < 65536)) = true →
    Gives (.hbWriteLow a be d) s (fun t =>
      (t.hb.hold = some (s.hbReg a, some (d % 256), some (d / 256)) ∧ t.getF SYS_HB_STAT_HELD = 1 ∧ t.hb.queue = s.hb.queue) ∧ Within [(0, 0x1000)] s t)) ∧
  (∀ (s : State) (a be d l h : Nat),
    s.hbLive = true →
    (!hbAlias a) = true →
    (a % 2 == 1) = true →
    (be == 3) = true →
    (decide (d < 65536)) = true →
    (decide (l < 256)) = true →
    (decide (h < 256)) = true →
    (s.hb.hold == some (s.hbReg a, some l, some h)) = true →
    (decide (s.hb.queue.length < 64)) = true →
    Gives (.hbWriteHigh a be d) s (fun t =>
      (t.hb.hold = none ∧ t.hb.queue = s.hb.queue ++ [(s.hbReg a, BitVec.ofNat 32 (d * 65536 + h * 256 + l))]) ∧ Within [(0, 0x1000)] s t)) ∧
  (∀ (s : State) (a be d : Nat),
    s.hbLive = true →
    (!hbAlias a) = true →
    (a % 2 == 1) = true →
    (be == 3) = true →
    (decide (64 ≤ s.hb.queue.length)) = true →
    Gives (.hbWriteHigh a be d) s (fun t =>
      t.hb.queue = s.hb.queue ∧ t.hb.hold = (if s.hb.hold.map Prod.fst = some (s.hbReg a) then none else s.hb.hold) ∧ Counted SYS_HB_CNT_QOVF s t)) ∧
  (∀ (s : State) (d : Nat),
    s.hbLive = true →
    Gives (.hbPageWrite d) s (fun t =>
      (t.getF SYS_HB_PAGE_PAGE = d % 8) ∧ Within [(SYS_HB_PAGE, SYS_HB_PAGE + 4)] s t)) ∧
  (∀ (s : State),
    (!s.pwr.inReset) = true →
    Gives (.hbBadCycle) s (fun t =>
      (Counted SYS_HB_CNT_BADCYC s t ∧ t.hb = s.hb) ∧ Within [(SYS_HB_CNT, SYS_HB_CNT + 4)] s t)) ∧
  (∀ (s : State) (i : Nat) (v : Word) (q : List (Nat × Word)),
    (!s.boot.straps.hbMode) = true →
    (s.hb.queue == (NET_PORTm_IP i, v) :: q) = true →
    (decide (q.length < 64)) = true →
    (decide (i < 2)) = true →
    s.reaches .hostBus (NET_PORTm_IP i) = true →
    ((List.range 8).all fun j => !(s.core j).stepAsked) = true →
    Gives (.hbQueueDeliver) s (fun t =>
      t.hb.queue = q ∧ t.rd (NET_PORTm_IP i) = v ∧ t.getF SYS_HB_STAT_QFILL = q.length)) ∧
  (∀ (s : State) (m : Master) (i : Nat) (v : Word),
    (decide (i < 2)) = true →
    s.reaches m (NET_PORTm_IP i) = true →
    ((List.range 8).all fun j => !(s.core j).stepAsked) = true →
    Gives (.registerWrite m (NET_PORTm_IP i) v) s (fun t =>
      (t.rd (NET_PORTm_IP i) = v) ∧ Within [(NET_PORTm_IP i, NET_PORTm_IP i + 4), (0x68000, 0x70000)] s t)) ∧
  (∀ (s : State) (m : Master) (a : Nat) (v : Word),
    (a % 4 == 0) = true →
    (!s.pwr.inReset) = true →
    hasReg a = true →
    (!s.liveWrite m a) = true →
    (s.stage == 3) = true →
    (decide (a < 0x100000)) = true →
    ((List.range 8).all fun j => !(s.core j).stepAsked) = true →
    Gives (.registerWrite m a v) s (fun t =>
      (t.getF ⟨SYS_REFUSE, 31, 28⟩ = codeNotLocked ∧ Counted ⟨SYS_REFUSE, 15, 0⟩ s t) ∧ Within [(SYS_REFUSE, SYS_REFUSE + 4), (0x68000, 0x70000)] s t)) ∧
  (∀ (s : State) (m : Master) (a : Nat) (v : Word),
    (a % 4 == 0) = true →
    (!hasReg a) = true →
    ((List.range 8).all fun j => !(s.core j).stepAsked) = true →
    Gives (.registerWrite m a v) s (fun t =>
      t = s)) ∧
  (∀ (s : State) (m : Master),
    (!s.pwr.inReset) = true →
    Gives (.rcRegisterRead m SYS_REFUSE) s (fun t =>
      (t.getF ⟨SYS_REFUSE, 15, 0⟩ = 0 ∧ t.getF ⟨SYS_REFUSE, 31, 28⟩ = s.getF ⟨SYS_REFUSE, 31, 28⟩) ∧ Within [(SYS_REFUSE, SYS_REFUSE + 4)] s t)) ∧
  (∀ (s : State) (m : Master) (a : Nat),
    (!s.liveRead m a) = true →
    Gives (.rcRegisterRead m a) s (fun t =>
      t = s)) ∧
  (∀ (s : State) (o : Nat) (d : List Word),
    (!s.pwr.inReset) = true →
    s.pwr.pcieAnswers = true →
    (decide (o < 0x100000)) = true →
    (o % 4 == 0) = true →
    Gives (.bar0Access false o 4 d) s (fun t =>
      t.pci.rdata = [(s.look .pcie o).toNat])) ∧
  (∀ (s : State) (w : Bool) (o n : Nat) (d : List Word),
    (!s.pwr.inReset) = true →
    s.pwr.pcieAnswers = true →
    (decide (o < 0x100000)) = true →
    (!((n == 4 && o % 4 == 0) || (n == 8 && o % 8 == 0))) = true →
    Gives (.bar0Access w o n d) s (fun t =>
      (Counted PCI_CNT_BADACC s t ∧ (w = false → t.pci.rdata = [0])) ∧ Within [(PCI_CNT, PCI_CNT + 4)] s t)) ∧
  (∀ (s : State) (p : CasPacket) (n : Nat),
    (!s.pwr.inReset) = true →
    s.feat 2 = true →
    s.firmwareOn 2 = true →
    casHeader p = true →
    (p.type == 0x10) = true →
    (!s.casAllowed p) = true →
    Gives (.casrumControlRx p n) s (fun t =>
      (Counted NET_CAS_CNT_DENIED s t ∧ t.net = s.net) ∧ Within [(0x38000, 0x3C000)] s t)) ∧
  (∀ (s : State) (p : CasPacket) (n g : Nat) (a : Nat),
    (!s.pwr.inReset) = true →
    s.feat 2 = true →
    s.firmwareOn 2 = true →
    casHeader p = true →
    (p.type == 0x10) = true →
    s.casAllowed p = true →
    (p.reqs == [⟨1, g, a, 0, 0⟩]) = true →
    (a % 4 == 0) = true →
    (decide (a < 0x80000)) = true →
    (findReg (blockRegs a) a).isSome = true →
    (s.egr p.port).queue.isEmpty = true →
    Gives (.casrumControlRx p n) s (fun t =>
      t.net.casReply = some (p.seq, [(0, g, a, ((s.advance n).look .casrum a).toNat)])))

/-- A record goes whole into its ring with its tag, advances DEV and is written back, or is discarded and counted
where it does not fit, where it waited W1 on class 1, and where class 3 gives way (R354, R355, R357); a COPY
descriptor moves its line, writes its status and advances DEV, and an invalid one moves nothing (R356); a BAR2 access
reads or writes Marrow by bytes, a refused line waits and is given up after 20 ms (R353); a queue that is due signals
its vector, a masked vector pends (R358). That a class-3 record which gives way is counted in REFCAP is the model's
choice (notes/assumptions/24.md). -/
def Obligations.HostDma : Prop :=
  (∀ (s : State) (q n k x : Nat) (r : Rec),
    (decide (q < 64)) = true →
    s.flag PCI_STAT_UP = true →
    s.flag (PCI_Qq_CTL_EN q) = true →
    (s.getF (PCI_Qq_CTL_KIND q) == 1) = true →
    (s.waitsFor q == some (k, x, r)) = true →
    (s.getF (PCI_Qq_CTL_CLASS q) != 3) = true →
    (!s.outranked q) = true →
    (decide ((s.getF (PCI_Qq_DEV_PTR q) + 2 ^ 32 - s.getF (PCI_Qq_HOST_PTR q)) % 2 ^ 32 + (4 + r.bytes.length) ≤ 2 ^ s.getF (PCI_Qq_CTL_SIZE q))) = true →
    Gives (.dmaStreamRecord q n) s (fun t =>
      (t.getF (PCI_Qq_DEV_PTR q) = (s.getF (PCI_Qq_DEV_PTR q) + (4 + r.bytes.length)) % 2 ^ 32 ∧ t.pci.toHost = ringWrites (s.ringBase q) (2 ^ s.getF (PCI_Qq_CTL_SIZE q)) (s.getF (PCI_Qq_DEV_PTR q)) ([r.type, 0] ++ leNat 2 r.bytes.length ++ (if (s.dma q).dropNext then recDrop r.bytes else r.bytes)) ++ (if s.wbAddr q = 0 then [] else [(s.wbAddr q, leNat 4 ((s.getF (PCI_Qq_DEV_PTR q) + (4 + r.bytes.length)) % 2 ^ 32))]) ∧ t.recs = dropFirst (1 + q) s.recs ∧ (t.dma q).dropNext = false ∧ (t.dma q).since = (s.dma q).since + (4 + r.bytes.length) ∧ t.mem = s.mem) ∧ Within [(PCI_Qq_DEV q, PCI_Qq_DEV q + 4)] s t)) ∧
  (∀ (s : State) (q n k x : Nat) (r : Rec),
    (decide (q < 64)) = true →
    s.flag PCI_STAT_UP = true →
    s.flag (PCI_Qq_CTL_EN q) = true →
    (s.getF (PCI_Qq_CTL_KIND q) == 1) = true →
    (s.waitsFor q == some (k, x, r)) = true →
    (s.getF (PCI_Qq_CTL_CLASS q) != 3) = true →
    (!s.outranked q) = true →
    (decide (2 ^ s.getF (PCI_Qq_CTL_SIZE q) < (s.getF (PCI_Qq_DEV_PTR q) + 2 ^ 32 - s.getF (PCI_Qq_HOST_PTR q)) % 2 ^ 32 + (4 + r.bytes.length))) = true →
    Gives (.dmaStreamRecord q n) s (fun t =>
      (t.getF (PCI_Qq_DEV_PTR q) = s.getF (PCI_Qq_DEV_PTR q) ∧ Counted (PCI_Qq_CNT_DROP q) s t ∧ t.recs = dropFirst (1 + q) s.recs ∧ (t.dma q).dropNext = true ∧ t.pci.toHost = s.pci.toHost) ∧ Within [(PCI_Qq_CNT q, PCI_Qq_CNT q + 4)] s t)) ∧
  (∀ (s : State) (q n k x : Nat) (r : Rec),
    (decide (q < 64)) = true →
    s.flag PCI_STAT_UP = true →
    s.flag (PCI_Qq_CTL_EN q) = true →
    (s.getF (PCI_Qq_CTL_KIND q) == 1) = true →
    (s.waitsFor q == some (k, x, r)) = true →
    (s.getF (PCI_Qq_CTL_CLASS q) == 3) = true →
    (r.type != 7) = true →
    (({ s with recs := dropFirst (1 + q) s.recs } : State).otherWaits) = true →
    Gives (.dmaStreamRecord q n) s (fun t =>
      (Counted (PCI_Qq_CNT_REFCAP q) s t ∧ t.recs = dropFirst (1 + q) s.recs ∧ (t.dma q).dropNext = true ∧ t.pci.toHost = s.pci.toHost) ∧ Within [(PCI_Qq_CNT q, PCI_Qq_CNT q + 4)] s t)) ∧
  (∀ (s : State) (q n : Nat),
    (!s.flag PCI_STAT_UP || !s.flag (PCI_Qq_CTL_EN q)) = true →
    Gives (.dmaStreamRecord q n) s (fun t =>
      t = s.advance n)) ∧
  (∀ (s : State) (q n k x : Nat) (r : Rec),
    (decide (q < 64)) = true →
    (s.getF (PCI_Qq_CTL_CLASS q) == 1) = true →
    (s.waitsFor q == some (k, x, r)) = true →
    (decide (x + Config.ticksOfUs (s.getF PCI_WAIT_W1) ≤ (s.advance n).now)) = true →
    Gives (.dmaClass1WaitTimeout q n) s (fun t =>
      (Counted (PCI_Qq_CNT_REFCAP q) s t ∧ t.recs = dropFirst (1 + q) s.recs ∧ (t.dma q).dropNext = true) ∧ Within [(PCI_Qq_CNT q, PCI_Qq_CNT q + 4)] s t)) ∧
  (∀ (s : State) (q n k x : Nat) (r : Rec),
    (s.getF (PCI_Qq_CTL_CLASS q) == 1) = true →
    (s.waitsFor q == some (k, x, r)) = true →
    (decide ((s.advance n).now < x + Config.ticksOfUs (s.getF PCI_WAIT_W1))) = true →
    Gives (.dmaClass1WaitTimeout q n) s (fun t =>
      t = s.advance n)) ∧
  (∀ (s : State) (q n : Nat) (d host : List Byte) (codes : List Nat),
    (decide (q < 64)) = true →
    s.flag PCI_STAT_UP = true →
    (d.length == 32) = true →
    s.flag (PCI_Qq_CTL_EN q) = true →
    (s.getF (PCI_Qq_CTL_KIND q) == 2) = true →
    (s.getF (PCI_Qq_HOST_PTR q) != s.getF (PCI_Qq_DEV_PTR q)) = true →
    (!(leAt d 20 1).testBit 1) = true →
    (!descOk d) = true →
    Gives (.dmaCopyDescriptor q d host codes n) s (fun t =>
      (t.getF (PCI_Qq_DEV_PTR q) = (s.getF (PCI_Qq_DEV_PTR q) + 1) % 2 ^ 32 ∧ t.pci.toHost = [((s.ringBase q + s.getF (PCI_Qq_DEV_PTR q) % (2 ^ s.getF (PCI_Qq_CTL_SIZE q) / 32) * 32 + 24), leNat 4 (2 ^ 31 + 3 * 2 ^ 28) ++ leNat 4 0)] ∧ t.mem = s.mem) ∧ Within [(PCI_Qq_DEV q, PCI_Qq_DEV q + 4)] s t)) ∧
  (∀ (s : State) (q n : Nat) (d host : List Byte) (codes : List Nat),
    (decide (q < 64)) = true →
    s.flag PCI_STAT_UP = true →
    (d.length == 32) = true →
    s.flag (PCI_Qq_CTL_EN q) = true →
    (s.getF (PCI_Qq_CTL_KIND q) == 2) = true →
    (s.getF (PCI_Qq_HOST_PTR q) != s.getF (PCI_Qq_DEV_PTR q)) = true →
    (!(leAt d 20 1).testBit 1) = true →
    descOk d = true →
    (!(leAt d 20 1).testBit 0) = true →
    (leAt d 16 4 == 64) = true →
    ((s.advance n).codeOf (stackOf (leAt d 8 8)) (s.getF (MRW_RQr_CFG_CLASS 265)) 64 (codes.headD 0) == 0) = true →
    (s.advance n).permits ⟨265, 0, false, leAt d 8 8, 64, []⟩ = true →
    Gives (.dmaCopyDescriptor q d host codes n) s (fun t =>
      (t.getF (PCI_Qq_DEV_PTR q) = (s.getF (PCI_Qq_DEV_PTR q) + 1) % 2 ^ 32 ∧ t.pci.toHost = [(leAt d 0 8, (memTake s.mem (leAt d 8 8) 64).map BitVec.toNat), ((s.ringBase q + s.getF (PCI_Qq_DEV_PTR q) % (2 ^ s.getF (PCI_Qq_CTL_SIZE q) / 32) * 32 + 24), leNat 4 (2 ^ 31) ++ leNat 4 1)] ∧ t.mem = s.mem) ∧ Within [(PCI_Qq_DEV q, PCI_Qq_DEV q + 4)] s t)) ∧
  (∀ (s : State) (q n : Nat) (d host : List Byte) (codes : List Nat),
    (decide (q < 64)) = true →
    s.flag PCI_STAT_UP = true →
    (d.length == 32) = true →
    s.flag (PCI_Qq_CTL_EN q) = true →
    (s.getF (PCI_Qq_CTL_KIND q) == 2) = true →
    (s.getF (PCI_Qq_HOST_PTR q) != s.getF (PCI_Qq_DEV_PTR q)) = true →
    (!(leAt d 20 1).testBit 1) = true →
    descOk d = true →
    (leAt d 20 1).testBit 0 = true →
    (leAt d 16 4 == 64) = true →
    (host.length == 64) = true →
    ((s.advance n).codeOf (stackOf (leAt d 8 8)) (s.getF (MRW_RQr_CFG_CLASS 265)) 64 (codes.headD 0) == 0) = true →
    (s.advance n).permits ⟨265, 0, true, leAt d 8 8, 64, []⟩ = true →
    Gives (.dmaCopyDescriptor q d host codes n) s (fun t =>
      (t.getF (PCI_Qq_DEV_PTR q) = (s.getF (PCI_Qq_DEV_PTR q) + 1) % 2 ^ 32 ∧ t.pci.toHost = [((s.ringBase q + s.getF (PCI_Qq_DEV_PTR q) % (2 ^ s.getF (PCI_Qq_CTL_SIZE q) / 32) * 32 + 24), leNat 4 (2 ^ 31) ++ leNat 4 1)] ∧ memTake t.mem (leAt d 8 8) 64 = host ∧ (∀ a, a < leAt d 8 8 ∨ leAt d 8 8 + 64 ≤ a → memGet t.mem a = memGet s.mem a)) ∧ Within [(PCI_Qq_DEV q, PCI_Qq_DEV q + 4)] s t)) ∧
  (∀ (s : State) (o c n a : Nat) (l : List (Option Byte)),
    (!s.pwr.inReset) = true →
    s.flag PCI_STAT_UP = true →
    ((s.advance n).bar2Addr o == some a) = true →
    (decide (o % 64 + l.length ≤ 64)) = true →
    (!l.isEmpty) = true →
    ((s.advance n).bar2Code false a l.length c == 0) = true →
    Gives (.bar2Access false o l c n) s (fun t =>
      (t.pci.rdata = (memTake s.mem a l.length).map BitVec.toNat ∧ t.mem = s.mem ∧ t.pci.lines = s.pci.lines) ∧ Within [] s t)) ∧
  (∀ (s : State) (o c n a : Nat) (l : List (Option Byte)),
    (!s.pwr.inReset) = true →
    s.flag PCI_STAT_UP = true →
    ((s.advance n).bar2Addr o == some a) = true →
    (decide (o % 64 + l.length ≤ 64)) = true →
    (!l.isEmpty) = true →
    ((s.advance n).bar2Code true a l.length c == 0) = true →
    Gives (.bar2Access true o l c n) s (fun t =>
      ((∀ i, i < l.length → memGet t.mem (a + i) = ((l[i]?.getD none).getD (memGet s.mem (a + i)))) ∧ (∀ i, i < a ∨ a + l.length ≤ i → memGet t.mem i = memGet s.mem i) ∧ t.pci.rdata = s.pci.rdata) ∧ Within [] s t)) ∧
  (∀ (s : State) (w : Bool) (o c n a : Nat) (l : List (Option Byte)),
    (!s.pwr.inReset) = true →
    s.flag PCI_STAT_UP = true →
    ((s.advance n).bar2Addr o == some a) = true →
    (decide (o % 64 + l.length ≤ 64)) = true →
    (!l.isEmpty) = true →
    ((s.advance n).bar2Code w a l.length c == 2) = true →
    Gives (.bar2Access w o l c n) s (fun t =>
      (t.pci.lines = s.pci.lines ++ [⟨a, w, l, (s.advance n).now + Config.ticksOfUs 10, (s.advance n).now⟩] ∧ t.mem = s.mem ∧ Counted (MRW_RQr_CNT0_REFCAP 264) s t) ∧ Within [(MRW_RQr_CNT0 264, MRW_RQr_CNT0 264 + 4)] s t)) ∧
  (∀ (s : State) (c n : Nat) (l : Bar2Line) (rest : List Bar2Line),
    (s.pci.lines == l :: rest) = true →
    (decide (l.again ≤ (s.advance n).now)) = true →
    ((s.advance n).bar2Code l.write l.addr l.data.length c == 2) = true →
    (decide (l.first + 20 * Config.ticksPerMs ≤ (s.advance n).now)) = true →
    Gives (.bar2Retry c n) s (fun t =>
      (t.pci.lines = rest ∧ Counted PCI_CNT_TMO s t ∧ t.mem = s.mem ∧ (l.write = false → t.pci.rdata = List.replicate l.data.length 0)) ∧ Within [(PCI_CNT, PCI_CNT + 4)] s t)) ∧
  (∀ (s : State) (c n : Nat) (l : Bar2Line) (rest : List Bar2Line),
    (s.pci.lines == l :: rest) = true →
    (decide (l.again ≤ (s.advance n).now)) = true →
    (!l.write) = true →
    ((s.advance n).bar2Code l.write l.addr l.data.length c == 0) = true →
    Gives (.bar2Retry c n) s (fun t =>
      (t.pci.lines = rest ∧ t.mem = s.mem ∧ t.pci.rdata = (memTake s.mem l.addr l.data.length).map BitVec.toNat) ∧ Within [] s t)) ∧
  (∀ (s : State) (q n : Nat),
    (decide (q < 64)) = true →
    s.flag PCI_STAT_UP = true →
    s.flag (PCI_Qq_CTL_EN q) = true →
    (s.getF (PCI_Qq_CTL_KIND q) == 1) = true →
    (s.advance n).signalDue q (s.advance n).now = true →
    s.msiQueue.isEmpty = true →
    (!(s.rd (PCI_MSIX (s.getF (PCI_Qq_CTL_VEC q)) 3)).toNat.testBit 0) = true →
    Gives (.msixSignal q n) s (fun t =>
      (t.pci.toHost = [((s.rd (PCI_MSIX (s.getF (PCI_Qq_CTL_VEC q)) 0)).toNat + 2 ^ 32 * (s.rd (PCI_MSIX (s.getF (PCI_Qq_CTL_VEC q)) 1)).toNat, leNat 4 (s.rd (PCI_MSIX (s.getF (PCI_Qq_CTL_VEC q)) 2)).toNat)] ∧ (t.dma q).since = 0 ∧ (t.dma q).first = none) ∧ Within [] s t)) ∧
  (∀ (s : State) (q n : Nat),
    (decide (q < 64)) = true →
    s.flag PCI_STAT_UP = true →
    s.flag (PCI_Qq_CTL_EN q) = true →
    (s.getF (PCI_Qq_CTL_KIND q) == 1) = true →
    (s.advance n).signalDue q (s.advance n).now = true →
    s.msiQueue.isEmpty = true →
    (s.rd (PCI_MSIX (s.getF (PCI_Qq_CTL_VEC q)) 3)).toNat.testBit 0 = true →
    Gives (.msixSignal q n) s (fun t =>
      (t.pci.toHost = [] ∧ (t.rd (PCI_PBA (s.getF (PCI_Qq_CTL_VEC q) / 32))).toNat.testBit (s.getF (PCI_Qq_CTL_VEC q) % 32) = true ∧ (t.dma q).since = 0) ∧ Within [(PCI_PBA 0, PCI_PBA 0 + 8)] s t)) ∧
  (∀ (s : State) (q n v : Nat),
    s.flag PCI_STAT_UP = true →
    (!s.flag (PCI_Qq_CTL_EN q)) = true →
    (s.msiQueue == [v]) = true →
    (!(s.rd (PCI_MSIX v 3)).toNat.testBit 0) = true →
    Gives (.msixSignal q n) s (fun t =>
      (t.msiQueue = [] ∧ t.pci.toHost = [((s.rd (PCI_MSIX v 0)).toNat + 2 ^ 32 * (s.rd (PCI_MSIX v 1)).toNat, leNat 4 (s.rd (PCI_MSIX v 2)).toNat)]) ∧ Within [] s t))

/-- A bus cycle moves INDEX, reads the mirror with its side effects or enters the queue, and raises BUSY of an
accepted command (R383 to R387, R399, R400); TUNE and POWER_UP take FREQ, a seek moves to the next raster point,
CANCEL ends it, POWER_DOWN stops the tuner, and what is out of range is refused and shown (R390, R394, R396, R397); a
seek ends on a channel or without one, and BUSY falls with TDONE at its time (R394 to R396); AUDCFG, AUDSEL, CAPCTL
and FLUSH act as R393, R399 and R400 say. That BUSY rises when the command enters the queue is the model's reading
(notes/assumptions/29.md). -/
def Obligations.Kt440 : Prop :=
  (∀ (s : State) (v : Nat),
    s.ktBus = true →
    Gives (.ktIndexWrite v) s (fun t =>
      (t.kt.index = v % 256 ∧ t.kt.tuners = s.kt.tuners) ∧ Within [] s t)) ∧
  (∀ (s : State),
    s.ktBus = true →
    Gives (.ktDataRead 0) s (fun t =>
      (t.hb.rdata = s.kt.index ∧ t.kt = s.kt) ∧ Within [] s t)) ∧
  (∀ (s : State),
    s.ktBus = true →
    Gives (.ktDataRead 3) s (fun t =>
      (t.hb.rdata = (if s.pins.irqLow then 128 else 0) + (if s.ktReady then 64 else 0) + s.getF CMP_STAT_BUSY ∧ t.kt = s.kt) ∧ Within [] s t)) ∧
  (∀ (s : State),
    s.ktBus = true →
    s.ktReady = true →
    (s.kt.index == 2) = true →
    Gives (.ktDataRead 2) s (fun t =>
      (t.hb.rdata = s.ktGet 2 ∧ t.ktGet 2 = 0 ∧ t.kt.index = 3) ∧ Within [(CMP_KT 2, CMP_KT 2 + 4), (0x1000, 0x2000)] s t)) ∧
  (∀ (s : State) (k : Nat),
    s.ktBus = true →
    s.ktReady = true →
    (s.kt.index == 0x0C) = true →
    (k == bitsOf (s.ktGet 6) 4 4) = true →
    Gives (.ktDataRead 2) s (fun t =>
      (t.hb.rdata = (sget memDefault (s.cap k).buf (s.cap k).rp).toNat ∧ (t.cap k).rp = ((s.cap k).rp + 1) % 49152 ∧ (t.cap k).buf = (s.cap k).buf ∧ t.kt.index = 0x0C) ∧ Within [(CMP_KT 8, CMP_KT 13)] s t)) ∧
  (∀ (s : State) (k b : Nat) (r : List Nat) (rest : List (List Nat)),
    s.ktBus = true →
    s.ktReady = true →
    (decide (k < 4)) = true →
    (s.kt.index == ktIdx k 0x10) = true →
    ((s.tuner k).fifo == (b :: r) :: rest) = true →
    (!r.isEmpty) = true →
    Gives (.ktDataRead 1) s (fun t =>
      (t.hb.rdata = b ∧ (t.tuner k).fifo = r :: rest ∧ (t.tuner k).last = b ∧ t.kt.index = s.kt.index) ∧ Within [(CMP_KT (ktIdx k 0x0E), CMP_KT (ktIdx k 0x11))] s t)) ∧
  (∀ (s : State) (auto : Bool) (v : Nat),
    s.ktBus = true →
    s.ktReady = true →
    (decide (s.hb.queue.length < 64)) = true →
    Gives (.ktDataWrite auto v) s (fun t =>
      t.hb.queue = s.hb.queue ++ [(CMP_KT s.kt.index, BitVec.ofNat 32 (v % 256))] ∧ t.kt.index = (if auto then ktAdvance s.kt.index else s.kt.index))) ∧
  (∀ (s : State) (auto : Bool) (v k : Nat),
    s.ktBus = true →
    s.ktReady = true →
    (decide (s.hb.queue.length < 64)) = true →
    (decide (k < 4)) = true →
    (s.kt.index == ktIdx k 0) = true →
    (v % 256 != 4) = true →
    (s.ktSeen k).ktAccepts k (v % 256) = true →
    Gives (.ktDataWrite auto v) s (fun t =>
      t.ktBusy k = true ∧ t.flag ⟨CMP_STAT, k, k⟩ = true)) ∧
  (∀ (s : State) (auto : Bool) (v : Nat),
    s.ktBus = true →
    (!s.ktReady) = true →
    Gives (.ktDataWrite auto v) s (fun t =>
      (t.getF ⟨CMP_REFUSE, 31, 28⟩ = codeWrongState ∧ Counted ⟨CMP_REFUSE, 15, 0⟩ s t ∧ t.hb = s.hb ∧ t.kt = s.kt) ∧ Within [(CMP_REFUSE, CMP_REFUSE + 4)] s t)) ∧
  (∀ (s : State) (k : Nat) (v : Word) (q : List (Nat × Word)),
    s.boot.straps.hbMode = true →
    s.ktRuns = true →
    (decide (k < 4)) = true →
    (s.hb.queue == (CMP_KT (ktIdx k 2), v) :: q) = true →
    Gives (.hbQueueDeliver) s (fun t =>
      (t.hb.queue = q ∧ t.ktGet (ktIdx k 2) = v.toNat % 256 ∧ t.kt = s.kt) ∧ Within [(CMP_KT (ktIdx k 2), CMP_KT (ktIdx k 2) + 4), (SYS_HB_STAT, SYS_HB_STAT + 4)] s t)) ∧
  (∀ (s : State) (v : Nat),
    s.ktBus = true →
    s.ktReady = true →
    Gives (.ktStatWrite v) s (fun t =>
      (t.ktGet 2 = s.ktGet 2 - (s.ktGet 2 &&& (v % 256))) ∧ Within [(CMP_KT 2, CMP_KT 2 + 4), (0x1000, 0x2000)] s t)) ∧
  (∀ (s : State) (tn : Nat),
    (decide (tn < 4)) = true →
    s.ktRuns = true →
    s.ktAccepts tn 1 = true →
    Gives (.ktTune tn) s (fun t =>
      (t.tuner tn).cmd = .tune ∧ (t.tuner tn).freq = s.ktFreq tn ∧ (t.tuner tn).t0 = s.now ∧ t.ktBusy tn = true ∧ (t.tuner tn).fifo = [] ∧ Counted CMP_CMDCNT_ACCEPTED s t)) ∧
  (∀ (s : State) (tn : Nat),
    (decide (tn < 4)) = true →
    s.ktRuns = true →
    s.ktAccepts tn 6 = true →
    Gives (.ktPowerUp tn) s (fun t =>
      (t.tuner tn).cmd = .tune ∧ (t.tuner tn).freq = s.ktFreq tn ∧ (t.tuner tn).powered = true ∧ t.ktBusy tn = true ∧ Counted CMP_CMDCNT_ACCEPTED s t)) ∧
  (∀ (s : State) (tn : Nat),
    (decide (tn < 4)) = true →
    s.ktRuns = true →
    (!s.ktAccepts tn 1) = true →
    Gives (.ktTune tn) s (fun t =>
      (t.getF ⟨CMP_REFUSE, 31, 28⟩ = codeReserved ∧ Counted ⟨CMP_REFUSE, 15, 0⟩ s t ∧ (t.ktGet (ktIdx tn 6)).testBit 4 = true ∧ t.kt = s.kt) ∧ Within [(CMP_REFUSE, CMP_REFUSE + 4), (CMP_STAT, CMP_STAT + 4), (CMP_KT (ktIdx tn 6), CMP_KT (ktIdx tn 6) + 4)] s t)) ∧
  (∀ (s : State) (tn f : Nat),
    (decide (tn < 4)) = true →
    s.ktRuns = true →
    s.seekOk tn = true →
    (rasterNext ((s.ktGet (ktIdx tn 1)).testBit 0) (bitsOf (s.ktGet (ktIdx tn 5)) 5 4) true (s.tuner tn).freq == some f) = true →
    Gives (.ktSeekUp tn) s (fun t =>
      (t.tuner tn).cmd = .seekUp ∧ (t.tuner tn).freq = f ∧ (t.tuner tn).steps = 1 ∧ (t.tuner tn).seekFrom = (s.tuner tn).freq ∧ (t.tuner tn).seek = (s.ktGet (ktIdx tn 5)) ∧ (t.tuner tn).meas = none ∧ t.ktBusy tn = true)) ∧
  (∀ (s : State) (tn f : Nat),
    (decide (tn < 4)) = true →
    s.ktRuns = true →
    s.seekOk tn = true →
    (rasterNext ((s.ktGet (ktIdx tn 1)).testBit 0) (bitsOf (s.ktGet (ktIdx tn 5)) 5 4) false (s.tuner tn).freq == some f) = true →
    Gives (.ktSeekDown tn) s (fun t =>
      (t.tuner tn).cmd = .seekDown ∧ (t.tuner tn).freq = f ∧ (t.tuner tn).steps = 1 ∧ (t.tuner tn).seekFrom = (s.tuner tn).freq ∧ (t.tuner tn).seek = (s.ktGet (ktIdx tn 5)) ∧ (t.tuner tn).meas = none ∧ t.ktBusy tn = true)) ∧
  (∀ (s : State) (tn : Nat),
    (decide (tn < 4)) = true →
    s.ktRuns = true →
    ((s.tuner tn).cmd == .seekUp || (s.tuner tn).cmd == .seekDown) = true →
    Gives (.ktCancel tn) s (fun t =>
      ((t.tuner tn).cmd = (s.tuner tn).cmd ∧ (t.tuner tn).cancel = true ∧ (t.tuner tn).freq = (s.tuner tn).freq ∧ t.ktBusy tn = s.ktBusy tn) ∧ Within [(CMP_KT (ktIdx tn 0), CMP_KT (ktIdx tn 7)), (CMP_CMDCNT, CMP_CMDCNT + 4)] s t)) ∧
  (∀ (s : State) (tn : Nat),
    (decide (tn < 4)) = true →
    s.ktRuns = true →
    Gives (.ktPowerDown tn) s (fun t =>
      (t.tuner tn).cmd = .powerDown ∧ (t.tuner tn).powered = false ∧ (t.tuner tn).retune = false ∧ t.ktGet (ktIdx tn 15) = 0 ∧ t.ktBusy tn = true ∧ Counted CMP_CMDCNT_ACCEPTED s t)) ∧
  (∀ (s : State) (tn n : Nat),
    (decide (tn < 4)) = true →
    s.ktRuns = true →
    ((s.tuner tn).cmd == .seekUp || (s.tuner tn).cmd == .seekDown) = true →
    ktTimeOk (s.tuner tn) n = true →
    ((s.tuner tn).steps != 0) = true →
    s.ktSettled tn = true →
    (!(s.tuner tn).cancel) = true →
    ((s.tuner tn).freq != (s.tuner tn).seekFrom) = true →
    s.ktFound tn = true →
    Gives (.ktSeekStep tn n) s (fun t =>
      ((t.tuner tn).cmd = .none ∧ (t.tuner tn).freq = (s.tuner tn).freq ∧ t.ktBusy tn = false ∧ (t.ktGet (ktIdx tn 6)).testBit 3 = false ∧ (t.ktGet 2).testBit tn = true) ∧ Within [(0x70000, 0x80000), (0x1000, 0x2000)] s t)) ∧
  (∀ (s : State) (tn n : Nat),
    (decide (tn < 4)) = true →
    s.ktRuns = true →
    ((s.tuner tn).cmd == .seekUp || (s.tuner tn).cmd == .seekDown) = true →
    ktTimeOk (s.tuner tn) n = true →
    ((s.tuner tn).steps != 0) = true →
    s.ktSettled tn = true →
    ((s.tuner tn).cancel || (s.tuner tn).freq == (s.tuner tn).seekFrom) = true →
    Gives (.ktSeekStep tn n) s (fun t =>
      ((t.tuner tn).cmd = .none ∧ t.ktBusy tn = false ∧ (t.ktGet (ktIdx tn 6)).testBit 3 = true ∧ (t.ktGet 2).testBit tn = true) ∧ Within [(0x70000, 0x80000), (0x1000, 0x2000)] s t)) ∧
  (∀ (s : State) (tn n : Nat),
    (decide (tn < 4)) = true →
    s.ktRuns = true →
    ((s.tuner tn).cmd == .tune) = true →
    ktTimeOk (s.tuner tn) n = true →
    s.ktSettled tn = true →
    Gives (.ktBusyFall tn n) s (fun t =>
      ((t.tuner tn).cmd = .none ∧ t.ktBusy tn = false ∧ (t.ktGet 2).testBit tn = true ∧ t.flag ⟨CMP_STAT, tn, tn⟩ = false) ∧ Within [(0x70000, 0x80000), (0x1000, 0x2000)] s t)) ∧
  (∀ (s : State) (tn n : Nat),
    (!ktTimeOk (s.tuner tn) n) = true →
    Gives (.ktBusyFall tn n) s (fun t =>
      t = s.advance n)) ∧
  (∀ (s : State) (tn : Nat),
    (decide (tn < 4)) = true →
    s.ktRuns = true →
    (bitsOf (s.ktGet (ktIdx tn 0x11)) 2 1 != 3) = true →
    Gives (.ktFlush tn) s (fun t =>
      (t.tuner tn).fifo = [] ∧ t.ktGet (ktIdx tn 0x0E) = 0 ∧ (t.tuner tn).cmd = (s.tuner tn).cmd)) ∧
  (∀ (s : State) (v : Nat),
    s.ktRuns = true →
    (decide (bitsOf (v % 256) 7 6 < 2)) = true →
    Gives (.ktAudcfgWrite v) s (fun t =>
      t.ktGet 4 = v % 256)) ∧
  (∀ (s : State) (v : Nat),
    s.ktRuns = true →
    (decide (2 ≤ bitsOf (v % 256) 7 6)) = true →
    Gives (.ktAudcfgWrite v) s (fun t =>
      (Counted ⟨CMP_REFUSE, 15, 0⟩ s t ∧ t.getF ⟨CMP_REFUSE, 31, 28⟩ = codeReserved) ∧ Within [(CMP_REFUSE, CMP_REFUSE + 4)] s t)) ∧
  (∀ (s : State) (v : Nat),
    s.ktRuns = true →
    Gives (.ktAudselWrite v) s (fun t =>
      (t.ktGet 5 = v % 256 ∧ t.getF (SAPk_MAP_KIND 0 0) = 1 ∧ t.getF (SAPk_MAP_NUM 0 0) = bitsOf (v % 256) 1 0 ∧ t.getF (SAPk_MAP_KIND 1 0) = 1 ∧ t.getF (SAPk_MAP_NUM 1 0) = bitsOf (v % 256) 5 4) ∧ Within [(CMP_KT 5, CMP_KT 5 + 4), (SAPk_MAP 0 0, SAPk_MAP 0 2), (SAPk_MAP 1 0, SAPk_MAP 1 2)] s t)) ∧
  (∀ (s : State) (v k : Nat),
    s.ktRuns = true →
    (decide (k < 2)) = true →
    (v % 32).testBit k = true →
    (!(s.ktGet 6).testBit k) = true →
    Gives (.ktCaptureEnable v) s (fun t =>
      t.ktGet 6 = v % 32 ∧ (t.cap k).wp = 0 ∧ (t.cap k).rp = 0 ∧ (t.cap k).pack4 = (v % 32).testBit 3 ∧ (t.cap k).buf = (s.cap k).buf))

/-- A raise sets its bit, stamps, counts a merge and goes to the record sinks, but not before NEGOTIATE (R374, R376,
R382); a clearing write clears exactly the written bits, and summary bits follow their bitmaps (R376, R377); a group
is released at COUNT or HOLD_US (R378); a checkpoint counts what was refused (R558), a second adds its wear (R563),
SNAP latches and CLEAR zeroes every counter at once (R565); a block leaves its stream at its release instant (R24,
R26). The wear of a second uses the model's table of powers (notes/assumptions/31.md). -/
def Obligations.EventsAndObservation : Prop :=
  (∀ (s : State) (e i : Nat),
    (!s.pwr.inReset) = true →
    (decide (3 ≤ s.stage)) = true →
    isSource e = true →
    (summaryOf e).isNone = true →
    Gives (.eventRaise e i) s (fun t =>
      (t.flag ⟨EVT_Gg_STAT (e / 32), e % 32, e % 32⟩ = true ∧ t.get64 (EVT_STAMP_LO e) (EVT_STAMP_HI e) = s.now ∧ t.getF (if e % 2 = 0 then EVT_INST_INST0 (e / 2) else EVT_INST_INST1 (e / 2)) = i % 65536 ∧ (s.flag ⟨EVT_Gg_STAT (e / 32), e % 32, e % 32⟩ = true → Counted (EVT_Gg_MERGE_CNT (e / 32)) s t) ∧ (s.flag ⟨EVT_Gg_STAT (e / 32), e % 32, e % 32⟩ = false → t.getF (EVT_Gg_MERGE_CNT (e / 32)) = s.getF (EVT_Gg_MERGE_CNT (e / 32)))) ∧ Within [(0x1000, 0x2000), (0x30000, 0x34000), (0x68000, 0x70000)] s t)) ∧
  (∀ (s : State) (e i j : Nat),
    (!s.pwr.inReset) = true →
    (decide (3 ≤ s.stage)) = true →
    isSource e = true →
    (summaryOf e == some j) = true →
    (decide (i < s.summaryCap j)) = true →
    Gives (.eventRaise e i) s (fun t =>
      (t.flag ⟨EVT_SUM j (i / 32), i % 32, i % 32⟩ = true ∧ t.flag ⟨EVT_Gg_STAT (e / 32), e % 32, e % 32⟩ = true ∧ (s.flag ⟨EVT_SUM j (i / 32), i % 32, i % 32⟩ = true → Counted (EVT_Gg_MERGE_CNT (e / 32)) s t)) ∧ Within [(0x1000, 0x2000), (0x30000, 0x34000), (0x68000, 0x70000)] s t)) ∧
  (∀ (s : State) (e i : Nat),
    (decide (s.stage < 3)) = true →
    Gives (.eventRaise e i) s (fun t =>
      t = s)) ∧
  (∀ (s : State) (e i : Nat),
    (!s.pwr.inReset) = true →
    (decide (3 ≤ s.stage)) = true →
    isSource e = true →
    (s.rd (EVT_Gg_MASK_REC (e / 32))).toNat.testBit (e % 32) = true →
    (summaryOf e).isNone = true →
    s.flag NET_CAS_CTL_SIDE = true →
    (s.getF NET_CAS_CTL_TYPES).testBit 6 = true →
    (!s.flag OBS_CTL_TRACE_EN) = true →
    Gives (.eventRaise e i) s (fun t =>
      (t.recs.any fun r => r.1 == 0 && r.2.2 == ⟨7, s.now, 0, e, leNat 8 s.now ++ leNat 2 0 ++ [e, 0] ++ leNat 4 (if i = noInst then 0xFFFFFFFF else i)⟩) = true)) ∧
  (∀ (s : State) (g n : Nat),
    (decide (g < 8)) = true →
    (s.coalOf g 1).pending = true →
    (!(s.coalOf g 1).released) = true →
    (decide (s.getF (EVT_Gg_COAL_COUNT g) ≤ (s.coalOf g 1).count) || decide ((s.coalOf g 1).since + Config.ticksOfUs (s.getF (EVT_Gg_COAL_HOLD_US g)) ≤ (s.advance n).now)) = true →
    Gives (.eventCoalesceRelease g 1 n) s (fun t =>
      (t.msiQueue = s.msiQueue ++ [s.getF (EVT_Gg_ROUTE_VEC g)] ∧ (t.coalOf g 1).released = true ∧ t.coalOf g 0 = s.coalOf g 0) ∧ Within [(0x1000, 0x2000)] s t)) ∧
  (∀ (s : State) (g n : Nat),
    (decide (g < 8)) = true →
    (s.coalOf g 0).pending = true →
    (decide (s.getF (EVT_Gg_COAL_COUNT g) ≤ (s.coalOf g 0).count)) = true →
    s.flag EVT_CTL_IRQ_EN = true →
    (!s.ktOwned) = true →
    Gives (.eventCoalesceRelease g 0 n) s (fun t =>
      ((t.coalOf g 0).released = true ∧ t.pins.irqLow = true ∧ t.msiQueue = s.msiQueue) ∧ Within [(0x1000, 0x2000)] s t)) ∧
  (∀ (s : State) (g r n : Nat),
    (decide (g < 8)) = true →
    (decide (r < 2)) = true →
    (s.coalOf g r).pending = true →
    (decide ((s.coalOf g r).count < s.getF (EVT_Gg_COAL_COUNT g))) = true →
    (decide ((s.advance n).now < (s.coalOf g r).since + Config.ticksOfUs (s.getF (EVT_Gg_COAL_HOLD_US g)))) = true →
    Gives (.eventCoalesceRelease g r n) s (fun t =>
      (t.coal = s.coal ∧ t.msiQueue = s.msiQueue) ∧ Within [(0x1000, 0x2000)] s t)) ∧
  (∀ (s : State) (m : Master) (g : Nat) (v : Word),
    (decide (g < 8)) = true →
    (g != 1) = true →
    (g != 2) = true →
    s.reaches m (EVT_Gg_STAT g) = true →
    Gives (.evtClearWrite m (EVT_Gg_STAT g) v) s (fun t =>
      (t.rd (EVT_Gg_STAT g) = s.rd (EVT_Gg_STAT g) &&& ~~~v) ∧ Within [(0x1000, 0x2000), (0x68000, 0x70000)] s t)) ∧
  (∀ (s : State) (m : Master) (v : Word),
    s.reaches m (EVT_Gg_STAT 1) = true →
    Gives (.evtClearWrite m (EVT_Gg_STAT 1) v) s (fun t =>
      (∀ b, 12 ≤ b → b < 32 → t.flag ⟨EVT_Gg_STAT 1, b, b⟩ = (s.flag ⟨EVT_Gg_STAT 1, b, b⟩ && !v.getLsbD b)) ∧ Within [(0x1000, 0x2000), (0x68000, 0x70000)] s t)) ∧
  (∀ (s : State) (m : Master) (j k : Nat) (v : Word),
    (decide (j < 16)) = true →
    (decide (k < 16)) = true →
    s.reaches m (EVT_SUM j k) = true →
    Gives (.evtClearWrite m (EVT_SUM j k) v) s (fun t =>
      (t.rd (EVT_SUM j k) = s.rd (EVT_SUM j k) &&& ~~~v ∧ t.flag (if j < 12 then ⟨EVT_Gg_STAT 1, j, j⟩ else ⟨EVT_Gg_STAT 2, j - 12, j - 12⟩) = t.summaryAny j) ∧ Within [(0x1000, 0x2000), (0x68000, 0x70000)] s t)) ∧
  (∀ (s : State) (x n : Nat),
    s.feat 18 = true →
    (n % Config.releasePeriod == 0) = true →
    Gives (.checkpointWrite x n) s (fun t =>
      (t.flag REL_JRN_ON = true ∧ t.getF REL_JRN_LOST = min (s.getF REL_JRN_LOST + x) 65535 ∧ t.fab.ckptAt = n ∧ t.mem = s.mem) ∧ Within [(REL_JRN, REL_JRN + 4)] s t)) ∧
  (∀ (s : State) (n : Nat),
    (!s.pwr.inReset) = true →
    Gives (.wearSecond n) s (fun t =>
      (t.fab.wear = s.fab.wear + wearOf (s.getI SYS_THERM_TMAX) ∧ t.get64 REL_WEAR_LO REL_WEAR_HI = (t.fab.wear / 2 ^ 32) % 2 ^ 64) ∧ Within [(REL_WEAR_LO, REL_WEAR_LO + 4), (REL_WEAR_HI, REL_WEAR_HI + 4)] s t)) ∧
  (∀ (s : State) (m : Master),
    s.reaches m OBS_SNAP = true →
    Gives (.obsSnap m) s (fun t =>
      (t.get64 OBS_SNAP_TS_LO OBS_SNAP_TS_HI = s.now ∧ t.obs.cnt = s.obs.cnt ∧ (∀ c, c < 1024 → t.get64 (OBS_CNT_LO c) (OBS_CNT_HI c) = sget cntNone s.obs.cnt c % 2 ^ 64)) ∧ Within [(0x68000, 0x70000)] s t)) ∧
  (∀ (s : State) (m : Master),
    s.reaches m OBS_SNAP = true →
    Gives (.obsClear m) s (fun t =>
      (t.obs.cnt = [] ∧ (∀ c, c < 1024 → t.get64 (OBS_CNT_LO c) (OBS_CNT_HI c) = 0)) ∧ Within [(0x68000, 0x70000)] s t)) ∧
  (∀ (s : State) (p n ts : Nat) (au : Option (List (Int × Int))) (b : Option Block) (rest : List (Nat × Option Block)),
    (s.stage == 4) = true →
    (decide (p < 256)) = true →
    ((s.prog p).formed == (ts, b) :: rest) = true →
    (ts + s.pgDelay p == n) = true →
    (decide (s.now ≤ n)) = true →
    (rest.all fun q => decide (n ≤ q.1 + s.pgDelay p)) = true →
    Gives (.blockRelease 3 p n au) s (fun t =>
      (t.prog p).formed = rest ∧ (t.released 1 p).at_ = some n ∧ (t.released 1 p).blk.map (fun x => (x.ts, x.flags)) = b.map (fun x => (x.ts, x.flags)) ∧ (t.prog p).active = (s.prog p).active ∧ t.mem = s.mem)) ∧
  (∀ (s : State) (p n : Nat) (au : Option (List (Int × Int))),
    (s.stage == 4) = true →
    (decide (p < 256)) = true →
    (decide (2 ≤ s.folState p)) = true →
    ((s.prog p).stopping != some 0) = true →
    (s.prog p).formed.isEmpty = true →
    ((s.prog p).nextTs + s.pgDelay p == n) = true →
    (decide (s.now ≤ n)) = true →
    Gives (.blockRelease 3 p n au) s (fun t =>
      Counted (FOLp_CNT2_DROP p) s t ∧ (t.prog p).dropNext = true ∧ (t.prog p).formed = [] ∧ t.released 1 p = ⟨some n, none⟩)) ∧
  (∀ (s : State) (i n q : Nat) (au : Option (List (Int × Int))) (b : Block) (rest : List (Nat × Option Block)),
    (s.stage == 4) = true →
    (decide (i < 512)) = true →
    ((s.path i).formed == (n, some b) :: rest) = true →
    (decide (s.now ≤ n)) = true →
    (rest.all fun x => decide (n ≤ x.1)) = true →
    (decide (q < 64)) = true →
    s.flag (PCI_Qq_CTL_EN q) = true →
    (s.getF (PCI_Qq_CTL_KIND q) == 1) = true →
    (s.getF (PCI_Qq_SRC_SEL q) == 9) = true →
    (decide (s.getF (PCI_Qq_SRC_FIRST q) ≤ i)) = true →
    (decide (i < s.getF (PCI_Qq_SRC_FIRST q) + s.getF (PCI_Qq_SRC_COUNT q))) = true →
    Gives (.blockRelease 1 i n au) s (fun t =>
      (t.recs.any fun r => r.1 == 1 + q && r.2.2.inst == i && r.2.2.ts == b.ts) = true ∧ (t.path i).formed = rest ∧ t.released 2 i = ⟨some n, some b⟩ ∧ t.mem = s.mem)) ∧
  (∀ (s : State) (d n : Nat) (x : List (Int × Int)),
    (s.stage == 4) = true →
    (decide (d < 128)) = true →
    (s.decState d == 2 || s.decState d == 3) = true →
    ((s.decoder d).change != .stop) = true →
    (decide ((s.decoder d).runAt + s.decLat d ≤ n)) = true →
    ((n - s.decLat d) % 5242880 == 0) = true →
    (!(s.released 3 d).at_.any (fun u => decide (n ≤ u))) = true →
    (decide (s.now ≤ n)) = true →
    (s.frameBefore (s.getF (DECd_CTL_SLOT d)) (n - s.decLat d)).isSome = true →
    (!s.abandoned 3 d n) = true →
    Gives (.blockRelease 2 d n (some x)) s (fun t =>
      (t.decoder d).warmLeft = (s.decoder d).warmLeft - 64 ∧ (t.decoder d).lastGood = (if s.decVoid d (n - s.decLat d) then (0, 0) else (concealAll (s.decoder d).fails (n - s.decLat d) (s.decoder d).lastGood (s.decInterpolate d (n - s.decLat d) (if s.flag (DECd_STAT_STEREO d) then x else x.map fun q => (q.1, q.1)))).2) ∧ (t.decoder d).dropNext = false ∧ t.flag (DECd_STAT_WARMUP d) = decide ((t.decoder d).warmLeft ≠ 0) ∧ t.released 3 d = ⟨some n, some ⟨(n - s.decLat d), s.decFlags d (n - s.decLat d), if s.decVoid d (n - s.decLat d) then List.replicate 128 0 else (concealAll (s.decoder d).fails (n - s.decLat d) (s.decoder d).lastGood (s.decInterpolate d (n - s.decLat d) (if s.flag (DECd_STAT_STEREO d) then x else x.map fun q => (q.1, q.1)))).1.flatMap fun p => [p.1, p.2]⟩⟩)) ∧
  (∀ (s : State) (d n : Nat),
    (s.stage == 4) = true →
    (decide (d < 128)) = true →
    (s.decState d == 2 || s.decState d == 3) = true →
    ((s.decoder d).change != .stop) = true →
    (decide ((s.decoder d).runAt + s.decLat d ≤ n)) = true →
    ((n - s.decLat d) % 5242880 == 0) = true →
    (!(s.released 3 d).at_.any (fun u => decide (n ≤ u))) = true →
    (decide (s.now ≤ n)) = true →
    Gives (.blockRelease 2 d n none) s (fun t =>
      (t.decoder d).dropNext = true ∧ t.released 3 d = ⟨some n, none⟩ ∧ (t.decoder d).warmLeft = (s.decoder d).warmLeft)) ∧
  (∀ (s : State) (d n : Nat) (au : Option (List (Int × Int))),
    (s.stage == 4) = true →
    (decide (d < 128)) = true →
    (s.decState d != 0) = true →
    ((s.decoder d).change == .stop) = true →
    (decide ((s.decoder d).due ≤ n)) = true →
    Gives (.blockRelease 2 d n au) s (fun t =>
      t.decState d = 0 ∧ t.getF (DECd_STAT_WAIT d) = 0 ∧ t.getF (DECd_CTL_OWNER d) = 0 ∧ t.decoder d = {}))

/-- Beyond its reserve a class-0 request is refused with REFUSED_CLASS, and without a free tag with REFUSED_CAPACITY;
a class-1 or class-2 request that its window or its tags do not admit waits in the queue with its arrival; a class-3
request is admitted only where capacity is left and nothing waits at its stack, else refused; a refused request
changes no byte of Marrow (R297, R298). -/
def Obligations.MarrowClasses : Prop :=
  (∀ (s : State) (q : MReq) (n : Nat),
    (decide (q.who < 270)) = true →
    (!s.pwr.inReset) = true →
    (!s.podDead q.who) = true →
    s.flag MRW_STAT_INIT_DONE = true →
    mreqOk q = true →
    s.permits q = true →
    (s.classOf q == 0) = true →
    (decide (s.getF MRW_CLS_RES0 * windowBytes < ((s.window (stackOf q.addr)).used0 + q.len) * 100)) = true →
    (!s.owed q.who s.mrw.nextId) = true →
    Gives (.marrowRequest q n) s (fun t =>
      t.mrw.reply = some (s.mrw.nextId, 3, []) ∧ t.mem = s.mem ∧ t.mrw.out = s.mrw.out ∧ Counted (MRW_RQr_CNT1_REFCLS q.who) s t)) ∧
  (∀ (s : State) (q : MReq) (n : Nat),
    (decide (q.who < 270)) = true →
    (!s.pwr.inReset) = true →
    (!s.podDead q.who) = true →
    s.flag MRW_STAT_INIT_DONE = true →
    mreqOk q = true →
    s.permits q = true →
    (s.classOf q == 0) = true →
    (decide (((s.window (stackOf q.addr)).used0 + q.len) * 100 ≤ s.getF MRW_CLS_RES0 * windowBytes)) = true →
    (!s.tagFree 0) = true →
    (!s.owed q.who s.mrw.nextId) = true →
    Gives (.marrowRequest q n) s (fun t =>
      t.mrw.reply = some (s.mrw.nextId, 2, []) ∧ t.mem = s.mem ∧ t.mrw.out = s.mrw.out ∧ Counted (MRW_RQr_CNT0_REFCAP q.who) s t)) ∧
  (∀ (s : State) (q : MReq) (n : Nat),
    (decide (q.who < 270)) = true →
    (!s.pwr.inReset) = true →
    (!s.podDead q.who) = true →
    s.flag MRW_STAT_INIT_DONE = true →
    mreqOk q = true →
    s.permits q = true →
    (s.classOf q == 1 || s.classOf q == 2) = true →
    s.mrw.queue.isEmpty = true →
    (!(decide ((s.window (stackOf q.addr)).used + q.len ≤ windowBytes) && s.tagFree (s.classOf q))) = true →
    Gives (.marrowRequest q n) s (fun t =>
      t.mrw.queue.map (fun p => (p.id, p.req, p.cls, p.arrived)) = [(s.mrw.nextId, q, s.classOf q, (s.advance n).now)] ∧ t.mem = s.mem ∧ t.mrw.reply = s.mrw.reply ∧ t.mrw.out = s.mrw.out)) ∧
  (∀ (s : State) (q : MReq) (n : Nat),
    (decide (q.who < 270)) = true →
    (!s.pwr.inReset) = true →
    (!s.podDead q.who) = true →
    s.flag MRW_STAT_INIT_DONE = true →
    mreqOk q = true →
    s.permits q = true →
    (s.classOf q == 3) = true →
    s.mrw.queue.isEmpty = true →
    ((decide ((s.window (stackOf q.addr)).used + q.len ≤ windowBytes) && s.tagFree (s.classOf q))) = true →
    Gives (.marrowRequest q n) s (fun t =>
      (t.mrw.out.any fun p => p.id == s.mrw.nextId) = true ∧ t.mrw.queue = [] ∧ t.mem = (if q.write then memPut q.addr q.data s.mem else s.mem))) ∧
  (∀ (s : State) (q : MReq) (n : Nat),
    (decide (q.who < 270)) = true →
    (!s.pwr.inReset) = true →
    (!s.podDead q.who) = true →
    s.flag MRW_STAT_INIT_DONE = true →
    mreqOk q = true →
    s.permits q = true →
    (s.classOf q == 3) = true →
    ((s.headOf (stackOf q.addr) 1).isSome || (s.headOf (stackOf q.addr) 2).isSome || !(decide ((s.window (stackOf q.addr)).used + q.len ≤ windowBytes) && s.tagFree (s.classOf q))) = true →
    (!s.owed q.who s.mrw.nextId) = true →
    Gives (.marrowRequest q n) s (fun t =>
      t.mrw.reply = some (s.mrw.nextId, 3, []) ∧ t.mem = s.mem ∧ t.mrw.out = s.mrw.out ∧ t.mrw.queue = s.mrw.queue))

/-- A write completes with OK or DEFERRED, a corrected read with its data and one correction counted; a completion for
a pod that is not ACTIVE is discarded and counted for both; a request that has waited its time is refused; a new
window serves the request that waits; the patrol counts what it corrects and records what it cannot; APPLY takes the
shadows that fit and is refused once the regions are fixed. -/
def Obligations.MarrowAnswers : Prop :=
  (∀ (s : State) (id : Nat) (e : List (Nat × Ecc)) (p : MPend),
    ((s.mrw.out.find? fun r => r.id == id) == some p) = true →
    (!s.podDead p.req.who) = true →
    (!s.owed p.req.who id) = true →
    s.mrw.held.isEmpty = true →
    p.req.write = true →
    s.mrw.queue.isEmpty = true →
    Gives (.marrowReply id e) s (fun t =>
      t.mrw.reply = some (id, if p.late then 1 else 0, p.data) ∧ (t.mrw.out.any fun r => r.id == id) = false ∧ t.mem = s.mem)) ∧
  (∀ (s : State) (id d : Nat) (p : MPend),
    ((s.mrw.out.find? fun r => r.id == id) == some p) = true →
    (!s.podDead p.req.who) = true →
    (!s.owed p.req.who id) = true →
    s.mrw.held.isEmpty = true →
    (!p.req.write) = true →
    (decide (0 < p.req.len)) = true →
    (!(s.mrw.queue.any fun r => r.id == id)) = true →
    Gives (.marrowReply id [(0, .corrected d)]) s (fun t =>
      t.mrw.reply = some (id, if p.late then 1 else 0, p.data) ∧ Counted (MRW_ECC_CE (stackOf p.req.addr)) s t ∧ (t.mrw.out.any fun r => r.id == id) = false)) ∧
  (∀ (s : State) (id : Nat) (p : MPend),
    s.mrw.queue.isEmpty = true →
    ((s.mrw.out.find? fun r => r.id == id) == some p) = true →
    s.podDead p.req.who = true →
    Gives (.marrowCompletionDiscard id) s (fun t =>
      (t.mrw.out.any fun r => r.id == id) = false ∧ Counted (MRW_RQr_CNT2_MDISC p.req.who) s t ∧ Counted (FAB_LPp_CNT1_MDISC p.req.who) s t ∧ t.mrw.reply = s.mrw.reply ∧ t.mem = s.mem)) ∧
  (∀ (s : State) (id n : Nat) (p : MPend),
    ((s.mrw.queue.find? fun r => r.id == id) == some p) = true →
    (decide (p.arrived + Config.ticksOfUs (if p.cls = 1 then s.getF MRW_WAIT_W1 else 10 * s.getF MRW_WAIT_W2) ≤ (s.advance n).now)) = true →
    (!s.owed p.req.who id) = true →
    s.mrw.held.isEmpty = true →
    Gives (.marrowWaitTimeout id n) s (fun t =>
      t.mrw.reply = some (id, 2, []) ∧ t.mrw.queue = s.mrw.queue.filter (fun r => r.id != id) ∧ Counted (MRW_RQr_CNT0_REFCAP p.req.who) s t ∧ t.mem = s.mem)) ∧
  (∀ (s : State) (k n : Nat) (p : MPend),
    (decide (k < 4)) = true →
    (n % 4096 == 0) = true →
    (!s.pwr.inReset) = true →
    (s.mrw.queue == [p]) = true →
    (stackOf p.req.addr == k) = true →
    (p.cls == 1 || p.cls == 2) = true →
    s.tagFree p.cls = true →
    (decide (p.req.len ≤ windowBytes)) = true →
    Gives (.marrowAdmissionWindow k n) s (fun t =>
      t.mrw.queue = [] ∧ (t.mrw.out.any fun r => r.id == p.id) = true ∧ t.mem = (if p.req.write then memPut p.req.addr p.req.data s.mem else s.mem))) ∧
  (∀ (s : State) (pr k d : Nat),
    s.flag MRW_SCRUB_EN = true →
    s.flag MRW_STAT_INIT_DONE = true →
    (decide (pr ≤ 100)) = true →
    s.scrubReached pr = true →
    (decide (k < 4)) = true →
    (decide (d < 255)) = true →
    Gives (.scrubStep pr [(k, d)] []) s (fun t =>
      t.getF MRW_SCRUB_PROGRESS = pr ∧ Counted (MRW_ECC_CE k) s t ∧ (s.noSpill = true → t.mem = s.mem))) ∧
  (∀ (s : State) (pr a : Nat),
    s.flag MRW_SCRUB_EN = true →
    s.flag MRW_STAT_INIT_DONE = true →
    (decide (pr ≤ 100)) = true →
    s.scrubReached pr = true →
    Gives (.scrubStep pr [] [a]) s (fun t =>
      t.getF MRW_SCRUB_PROGRESS = pr ∧ Counted (MRW_ECC_UE (stackOf a)) s t ∧ t.get64 MRW_ECC_ADDR_LO MRW_ECC_ADDR_HI = a % 2 ^ 64 ∧ (s.noSpill = true → t.mem = s.mem))) ∧
  (∀ (s : State) (m : Master),
    s.reaches m MRW_REG_CMD = true →
    (!s.flag MRW_REG_STAT_FIXED) = true →
    s.shadowsOk = true →
    Gives (.mrwApply m) s (fun t =>
      t.getF MRW_REG_STAT_MATCH = 1 ∧ t.mrw.act = (List.range 5).map s.shadow ∧ t.mrw.chans = s.getF MRW_AUD_CFG_CHANS ∧ (s.noSpill = true → t.mem = s.mem))) ∧
  (∀ (s : State) (m : Master),
    s.reaches m MRW_REG_CMD = true →
    s.flag MRW_REG_STAT_FIXED = true →
    Gives (.mrwApply m) s (fun t =>
      t.getF MRW_REFUSE_CODE = codeLocked ∧ t.mrw = s.mrw))

/-- Each of the three switches, where R262 to R264 let Fennel decide it, leaves the fade or the switch point those
rules give, is counted, and leaves the active source as it is; when the last sample of a fade has been formed the
survivor is the active source (R269). -/
def Obligations.FennelFades : Prop :=
  (∀ (s : State) (p b : Nat) (c : Cand),
    (decide (p < 256)) = true →
    s.firmwareOn 1 = true →
    s.mayDecide p (s.prog p) = true →
    (s.prog p).lastSw.isNone = true →
    (bestOf (s.discReady p (s.prog p)) (s.prog p).cands == some (b, c)) = true →
    Gives (.discretionarySwitch p) s (fun t =>
      ((t.prog p).fade = some ⟨1, (s.prog p).nextTs, (s.getF (FOLp_CTL_XFADE_MS p) * 48), b, false, (s.getF (FOLp_CTL_XFADE_MS p) * 48), none⟩ ∧ Counted (FOLp_CNT0_DISC p) s t ∧ (t.prog p).active = (s.prog p).active ∧ (t.prog p).nextTs = (s.prog p).nextTs) ∧ Within [(0x28000, 0x30000), (0x1000, 0x2000), (0x30000, 0x34000), (0x68000, 0x70000)] s t)) ∧
  (∀ (s : State) (p b u : Nat) (c : Cand),
    (decide (p < 256)) = true →
    s.firmwareOn 1 = true →
    s.mayDecide p (s.prog p) = true →
    (!s.flag (FOLp_STAT_SILENT p)) = true →
    ((s.prog p).badPoint == some u) = true →
    (bestOf (s.alignedTake (s.prog p)) (s.prog p).cands == some (b, c)) = true →
    Gives (.forcedSwitch p) s (fun t =>
      ((t.prog p).fade = (if (s.prog p).nextTs ≤ ((u - s.getF (FOLp_CTL_FXF_MS p) * Config.ticksPerMs) / 5242880 * 5242880) then some ⟨2, ((u - s.getF (FOLp_CTL_FXF_MS p) * Config.ticksPerMs) / 5242880 * 5242880), (u - ((u - s.getF (FOLp_CTL_FXF_MS p) * Config.ticksPerMs) / 5242880 * 5242880)) / 81920, b, false, (u - ((u - s.getF (FOLp_CTL_FXF_MS p) * Config.ticksPerMs) / 5242880 * 5242880)) / 81920, none⟩ else some ⟨2, (s.prog p).nextTs, s.getF (FOLp_CTL_FXF_MS p) * 48, b, false, s.getF (FOLp_CTL_FXF_MS p) * 48, none⟩) ∧ Counted (FOLp_CNT0_FORCED p) s t ∧ (t.prog p).active = (s.prog p).active) ∧ Within [(0x28000, 0x30000), (0x1000, 0x2000), (0x30000, 0x34000), (0x68000, 0x70000)] s t)) ∧
  (∀ (s : State) (p b u : Nat) (c : Cand),
    (decide (p < 256)) = true →
    s.firmwareOn 1 = true →
    s.mayDecide p (s.prog p) = true →
    ((s.prog p).badPoint == some u) = true →
    (s.flag (FOLp_STAT_SILENT p) || (bestOf (s.alignedTake (s.prog p)) (s.prog p).cands).isNone) = true →
    (bestOf (s.takeable (s.prog p)) (s.prog p).cands == some (b, c)) = true →
    Gives (.hardSwitch p) s (fun t =>
      ((t.prog p).hard = some (max (s.prog p).nextTs u, b, ((s.prog p).mute.map (·.2)).getD (s.prog p).nextTs) ∧ Counted (FOLp_CNT1_HARD p) s t ∧ t.getF (FOLp_XF_KIND p) = 3 ∧ (t.prog p).active = (s.prog p).active) ∧ Within [(0x28000, 0x30000), (0x1000, 0x2000), (0x30000, 0x34000), (0x68000, 0x70000)] s t)) ∧
  (∀ (s : State) (p : Nat) (f : Fade),
    (decide (p < 256)) = true →
    ((s.prog p).fade == some f) = true →
    (f.left == 0) = true →
    f.back = true →
    Gives (.xfadeEnd p) s (fun t =>
      ((t.prog p).fade = none ∧ (t.prog p).active = (s.prog p).active) ∧ Within [(0x28000, 0x30000), (0x30000, 0x34000)] s t)) ∧
  (∀ (s : State) (p : Nat) (f : Fade),
    (decide (p < 256)) = true →
    ((s.prog p).fade == some f) = true →
    (f.left == 0) = true →
    (!f.back) = true →
    Gives (.xfadeEnd p) s (fun t =>
      ((t.prog p).fade = none ∧ (t.prog p).active = some f.inc) ∧ Within [(0x28000, 0x30000), (0x30000, 0x34000)] s t))

/-- Two valid offsets within a sample of each other align a candidate, and the third failure in a row of an aligned
one ends its alignment (R265, R266); the loudness difference sets its gain, later by at most 1 dB at a time (R268);
within a fade a block is the mix of both sides with the union of their flags, and where the active source's block is
missing, VOID or STALE a clean block of the best aligned candidate stands in and is counted (R269, R270). -/
def Obligations.FennelAlignment : Prop :=
  (∀ (s : State) (p i u : Nat) (c a : Cand),
    (decide (p < 256)) = true →
    (s.folState p == 3) = true →
    ((s.prog p).active.bind (s.prog p).cand == some a) = true →
    ((s.prog p).active != some i) = true →
    ((s.prog p).incoming != some i) = true →
    ((s.prog p).cand i == some c) = true →
    (c.kind != 3) = true →
    c.bad.isNone = true →
    s.windowOk p (s.prog p) a c u = true →
    (!c.aligned) = true →
    Gives (.alignMeasure p i u) s (fun t =>
      ((t.prog p).active = (s.prog p).active ∧ (∀ m dl, s.measure p (s.prog p) a c u = some (some (m, dl)) → m.clear = true → s.getF (FOLp_POL1_RHO_MIN p) ≤ m.rho → (∃ x, c.okLast = some x ∧ (m.d - x).natAbs ≤ 1) → ((t.prog p).cand i).map (fun x => (x.aligned, x.a, x.okLast, x.fails)) = some (true, (s.prog p).aActive + m.d, some m.d, 0))) ∧ Within [(0x28000, 0x30000), (0x1000, 0x2000), (0x30000, 0x34000), (0x68000, 0x70000)] s t)) ∧
  (∀ (s : State) (p i u : Nat) (c a : Cand),
    (decide (p < 256)) = true →
    (s.folState p == 3) = true →
    ((s.prog p).active.bind (s.prog p).cand == some a) = true →
    ((s.prog p).active != some i) = true →
    ((s.prog p).incoming != some i) = true →
    ((s.prog p).cand i == some c) = true →
    (c.kind != 3) = true →
    c.bad.isNone = true →
    s.windowOk p (s.prog p) a c u = true →
    c.aligned = true →
    (c.fails == 2) = true →
    Gives (.alignMeasure p i u) s (fun t =>
      ((t.prog p).active = (s.prog p).active ∧ (∀ m dl, s.measure p (s.prog p) a c u = some (some (m, dl)) → (m.clear = false ∨ m.rho < s.getF (FOLp_POL1_RHO_MIN p)) → ((t.prog p).cand i).map (fun x => (x.aligned, x.okLast, x.fails)) = some (false, none, 0))) ∧ Within [(0x28000, 0x30000), (0x1000, 0x2000), (0x30000, 0x34000), (0x68000, 0x70000)] s t)) ∧
  (∀ (s : State) (p i T : Nat) (c a : Cand),
    (decide (p < 256)) = true →
    s.flag (FOLp_CTL_LOUD p) = true →
    ((s.prog p).active.bind (s.prog p).cand == some a) = true →
    ((s.prog p).cand i == some c) = true →
    ((s.prog p).candState i c == 2) = true →
    (decide (c.loudAt ≤ T)) = true →
    (!c.gSet) = true →
    Gives (.loudnessUpdate p i T) s (fun t =>
      ((t.prog p).active = (s.prog p).active ∧ (∀ dl, s.loudness (s.prog p) a c T = some (some dl) → ((t.prog p).cand i).map (fun x => (x.g, x.gSet)) = some (clampInt (-120) 120 ((s.prog p).gActive + dl), true))) ∧ Within [(0x28000, 0x30000)] s t)) ∧
  (∀ (s : State) (p a : Nat) (f : Fade) (x y : Block),
    (decide (p < 256)) = true →
    (s.prog p).mute.isNone = true →
    (!s.flag (FOLp_STAT_ALLLOST p)) = true →
    (!s.abandoned 4 p ((s.prog p).nextTs + s.pgDelay p)) = true →
    ((s.prog p).riseLeft == 0 || decide ((s.prog p).riseFrom ≤ (s.prog p).nextTs)) = true →
    (s.folState p == 3) = true →
    (s.prog p).stopping.isNone = true →
    (s.prog p).hard.isNone = true →
    (!s.flag (FOLp_STAT_SILENT p)) = true →
    (!s.voidOver 4 p (s.prog p).nextTs ((s.prog p).nextTs + 5242879)) = true →
    ((s.prog p).active == some a) = true →
    ((s.prog p).fade == some f) = true →
    (decide (f.tx ≤ (s.prog p).nextTs)) = true →
    (s.srcBlock (s.prog p) a == some x) = true →
    (s.srcBlock (s.prog p) f.inc == some y) = true →
    ((x.flags &&& 9) == 0) = true →
    ((y.flags &&& 9) == 0) = true →
    Gives (.progBlockForm p true) s (fun t =>
      ((t.prog p).formed = (s.prog p).formed ++ [((s.prog p).nextTs, some ⟨(s.prog p).nextTs, (if (s.prog p).dropNext then 128 else 0) ||| x.flags ||| y.flags, mixOf (s.prog p) (s.share (s.prog p) a 1 ++ s.share (s.prog p) f.inc 2)⟩)] ∧ (t.prog p).fade = some { f with left := f.left - 64 } ∧ (t.prog p).nextTs = (s.prog p).nextTs + 5242880) ∧ Within [(0x28000, 0x30000)] s t)) ∧
  (∀ (s : State) (p a b : Nat) (c : Cand) (x : Block),
    (decide (p < 256)) = true →
    (s.prog p).mute.isNone = true →
    (!s.flag (FOLp_STAT_ALLLOST p)) = true →
    (!s.abandoned 4 p ((s.prog p).nextTs + s.pgDelay p)) = true →
    ((s.prog p).riseLeft == 0 || decide ((s.prog p).riseFrom ≤ (s.prog p).nextTs)) = true →
    (s.folState p == 3) = true →
    (s.prog p).stopping.isNone = true →
    (s.prog p).hard.isNone = true →
    (!s.flag (FOLp_STAT_SILENT p)) = true →
    (!s.voidOver 4 p (s.prog p).nextTs ((s.prog p).nextTs + 5242879)) = true →
    ((s.prog p).active == some a) = true →
    (s.prog p).fade.isNone = true →
    blockBad (s.srcBlock (s.prog p) a) = true →
    (bestOf (fun i c => decide ((s.prog p).candState i c = 2) && s.delivers c && ((s.srcBlock (s.prog p) i).map fun x => (x.flags &&& 11) == 0).getD false) (s.prog p).cands == some (b, c)) = true →
    (s.srcBlock (s.prog p) b == some x) = true →
    Gives (.progBlockForm p true) s (fun t =>
      ((t.prog p).formed = (s.prog p).formed ++ [((s.prog p).nextTs, some ⟨(s.prog p).nextTs, (if (s.prog p).dropNext then 128 else 0) ||| x.flags, mixOf (s.prog p) (s.share (s.prog p) b 0)⟩)] ∧ Counted (FOLp_CNT1_PATCH p) s t ∧ (t.prog p).active = some a) ∧ Within [(0x28000, 0x30000)] s t))

/-- At a boundary with IE a core enters the handler of the highest pending group and the entry is counted (R434);
LEXIT inside a loop clears its count and leaves it (R454); a packet whose CRC holds is counted and queued (R503). -/
def Obligations.EntriesAndEnds : Prop :=
  (∀ (s : State) (k : Nat) (rep : List Nat) (g : Nat),
    s.coreLive k = true →
    (s.seqState k == 1) = true →
    (s.core k).boundary = true →
    (s.core k).ieNow = true →
    (s.intGroup k == some g) = true →
    (s.core k).rep.isNone = true →
    (s.settled k).entryOk = true →
    (!s.flag (SEQk_CTL_HALT k)) = true →
    Gives (.interruptEntry k rep) s (fun t =>
      Entered (s.settled k) (8 + g) k s t ∧ Counted (SEQk_TRAPCNT_INTS k) s t)) ∧
  (∀ (s : State) (h : IzHead),
    s.issues h (.f0 .lexit) = true →
    ((s.core h.core).ldepth != 0) = true →
    ((s.core h.core).pendLeft .ldepth == 0) = true →
    (decide ((s.core h.core).ldepth < 2) || sget zero24 (s.core h.core).tick.le ((s.core h.core).ldepth - 2) != (s.core h.core).pc) = true →
    Gives (.izLexit h) s (fun t =>
      (t.settled h.core).ldepth = (s.core h.core).ldepth - 1 ∧ sget zero24 (t.settled h.core).lc ((s.core h.core).ldepth - 1) = 0)) ∧
  (∀ (s : State) (g n : Nat) (pay : List Nat) (r : SlRx),
    (s.slk.rx == some r) = true →
    (r.hdr == some (pay.length, g)) = true →
    (s.slState == 4) = true →
    (decide (1 ≤ pay.length)) = true →
    (decide (pay.length ≤ 255)) = true →
    (pay.all fun x => decide (x < 256)) = true →
    (g == 0 || g == 0x80) = true →
    Gives (.slRxDone ((slPacket g pay).drop 3) n) s (fun t =>
      Counted SLK_CNT0_RXOK s t ∧ t.getF SLK_CNT0_CRCERR = s.getF SLK_CNT0_CRCERR ∧ t.slk.rx = none ∧ (s.getF SLK_RXPTR_UNREAD < 8 → t.getF SLK_RXPTR_UNREAD = s.getF SLK_RXPTR_UNREAD + 1)))

/-- For every command c and state s, the step of s with c at the front of its queue is exec of c on s with the queue's
rest. On an empty queue a tick passes, which is the model's choice (notes/assumptions/3.md). No table word spells a
command, so nothing is put in front for one. -/
def Obligations.StepTakesTheFront : Prop :=
  (∀ (c : Instr) (rest : List Instr) (s : State), s.pending = c :: rest →
    step s = exec c { s with pending := rest }) ∧
  (∀ s : State, s.pending = [] → ∃ t, step s = .next t ∧ t.regs = s.regs ∧ t.mem = s.mem ∧
    t.syscnt = (if s.counting then s.syscnt + 1 else s.syscnt)) ∧
  (∀ (s : State) (nbits w : Nat), s.withFetchWord nbits w = s)

/-- After reset the registers named here, one or more of every block, read as their field tables state, SYSCNT is 0,
and no command waits. Only values the spec gives are stated. -/
def Obligations.ResetValues : Prop :=
  State.reset.pending = [] ∧ State.reset.now = 0 ∧ State.reset.pwr.inReset = true ∧
  State.reset.rd SYS_ID = 0x88200001 ∧
  State.reset.rd SYS_RSTCAUSE = 0x100 ∧
  State.reset.rd SYS_THERM_CFG = 110 ∧
  State.reset.rd SYS_BOOT = 0x20000000 ∧
  State.reset.rd CLK_DOM = 0xC0 ∧
  State.reset.rd SPLL_N = 314 ∧
  State.reset.rd SPLL_F = 0x2710166 ∧
  State.reset.rd SPLL_DSEED = 0x1A53C96 ∧
  State.reset.rd CLK_CTL = 0x3E80010 ∧
  State.reset.rd CLK_HOLD = 1000 ∧
  State.reset.rd RFE_CTL = 3 ∧
  State.reset.rd FAB_PACE_CFG = 288 ∧
  State.reset.rd FAB_BANK_SEL = 0x1000000 ∧
  State.reset.rd MRW_AUD_CFG = 256 ∧
  State.reset.rd MRW_CLS = 0x280A0000 ∧
  State.reset.rd MRW_WAIT = 0xC80032 ∧
  State.reset.rd MRW_SCRUB = 0x80000018 ∧
  State.reset.rd NET_PTP_DS = 0x8080F8FE ∧
  State.reset.rd NET_CAS_CTL = 0x7FBACC ∧
  State.reset.rd NET_EGR_CFG = 0x32020032 ∧
  State.reset.rd PCI_WAIT = 1000 ∧
  State.reset.rd CMP_STAT = 15 ∧
  State.reset.rd EXC_CTL = 0x40000000 ∧
  State.reset.rd EXC_SEQ = 0x3205064 ∧
  State.reset.rd EXC_CENTRE = 98000000 ∧
  State.reset.rd SLK_PHY = 0x10102000 ∧
  State.reset.rd SLK_SYNC = 0x9E5A3C71 ∧
  State.reset.rd CAL_CFG = 0x40064 ∧
  State.reset.rd SEC_ATT = 16 ∧
  State.reset.rd REL_STAT = 0x80000 ∧
  State.reset.rd OBS_CTL = 0x40000000 ∧
  (∀ n, n < 512 → State.reset.rd (PTHn_CTL n) = 2) ∧
  (∀ n, n < 512 → State.reset.rd (DEMn_QCFG n) = 0x140C0303) ∧
  (∀ n, n < 128 → State.reset.rd (DECd_CTL n) = 16) ∧
  (∀ n, n < 256 → State.reset.rd (FOLp_CTL n) = 0x3E802844) ∧
  (∀ n, n < 8 → State.reset.rd (SAPk_CTL n) = 0x4100A) ∧
  (∀ n, n < 256 → State.reset.rd (NET_TXs_CTL n) = 0x12200) ∧
  (∀ n, n < 64 → State.reset.rd (PCI_Qq_CTL n) = 0x8100000) ∧
  (∀ n, n < 8 → State.reset.rd (SEQk_WDOG n) = 1000) ∧
  (∀ n, n < 8 → State.reset.rd (XLi_DEV n) = 0x294A8CC8) ∧
  (∀ n, n < 256 → State.reset.rd (FAB_LPp_MAP n) = BitVec.ofNat 32 (0xC0000000 + n))

/-- From every state whose register table and Marrow are in canonical form (addresses strictly rising, no entry equal
to what an unlisted address reads as), a step leaves them so: equal registers and equal memories are equal data. -/
def Obligations.TablesStayCanonical : Prop :=
  ∀ s t : State, s.canonical = true → step s = .next t → t.canonical = true

/-- The register table and Marrow are in canonical form at reset. -/
def Obligations.ResetIsCanonical : Prop :=
  State.reset.canonical = true ∧ ∀ k, (State.reset.core k).ordered = true

/-- Unpowered, every ball is High-Z but the sense balls, which are tied to the die (R40); powered and in reset, IRQ_N
is released, the SerDes transmitters idle, the DAC is muted and every other output is High-Z (R44). -/
def Obligations.BallsInReset : Prop :=
  (∀ (s : State) (b : Ball), s.pwr.railsOk = false → s.ball b = if b = .coreSense then .tied else .highZ) ∧
  (∀ s : State, s.pwr.inReset = true → s.pwr.railsOk = true →
    s.ball .irqN = .released ∧ s.ball .dac = .muted ∧ s.ball .pcieTx = .idle ∧ (∀ m, s.ball (.ethTx m) = .idle) ∧
    (∀ b ∈ [Ball.paVddEn, .paBiasEn, .paRfEn, .slAsw, .slFemTx, .slFemRx, .slReq, .slPri, .slAnt false, .slAnt true, .qspiClk, .qspiCsN,
      .qspiIo, .ppsOut], s.ball b = .highZ) ∧
    (∀ n, s.ball (.vid n) = .highZ) ∧ (∀ n, s.ball (.hbD n) = .highZ ∧ s.hbDriven n = .highZ) ∧ (∀ k, s.ball (.sapSdOut k) = .highZ))

/-- Where R262 to R264 let Fennel take a switch, it is taken to the candidate those rules choose and recorded under
its kind; the last sample of a fade ends it (R269); a frame that asks for no answer is received without a drop;
restoring from a good copy 0 ends with RESULT 1 and the GEN of that copy (R528). -/
def Obligations.SwitchesFramesAndRestores : Prop :=
  (∀ (s : State) (p b : Nat) (c : Cand),
    (decide (p < 256)) = true →
    s.firmwareOn 1 = true →
    s.mayDecide p (s.prog p) = true →
    (s.prog p).lastSw.isNone = true →
    (bestOf (s.discReady p (s.prog p)) (s.prog p).cands == some (b, c)) = true →
    Gives (.discretionarySwitch p) s (fun t =>
      (t.prog p).fade.map (·.inc) = some b ∧ t.getF (FOLp_XF_KIND p) = 1)) ∧
  (∀ (s : State) (p b u : Nat) (c : Cand),
    (decide (p < 256)) = true →
    s.firmwareOn 1 = true →
    s.mayDecide p (s.prog p) = true →
    (!s.flag (FOLp_STAT_SILENT p)) = true →
    ((s.prog p).badPoint == some u) = true →
    (bestOf (s.alignedTake (s.prog p)) (s.prog p).cands == some (b, c)) = true →
    Gives (.forcedSwitch p) s (fun t =>
      (t.prog p).fade.map (·.inc) = some b ∧ t.getF (FOLp_XF_KIND p) = 2)) ∧
  (∀ (s : State) (p b u : Nat) (c : Cand),
    (decide (p < 256)) = true →
    s.firmwareOn 1 = true →
    s.mayDecide p (s.prog p) = true →
    ((s.prog p).badPoint == some u) = true →
    (s.flag (FOLp_STAT_SILENT p) || (bestOf (s.alignedTake (s.prog p)) (s.prog p).cands).isNone) = true →
    (bestOf (s.takeable (s.prog p)) (s.prog p).cands == some (b, c)) = true →
    Gives (.hardSwitch p) s (fun t =>
      (t.prog p).hard.map (·.2.1) = some b ∧ t.getF (FOLp_XF_KIND p) = 3)) ∧
  (∀ (s : State) (p : Nat) (f : Fade),
    (decide (p < 256)) = true →
    ((s.prog p).fade == some f) = true →
    (f.left == 0) = true →
    Gives (.xfadeEnd p) s (fun t =>
      (t.prog p).fade = none)) ∧
  (∀ (s : State) (p n : Nat) (f : EthFrame),
    (decide (p < 2)) = true →
    s.linkUp p = true →
    (decide (f.len ≤ 1522)) = true →
    (f.vlan == s.getF (NET_PORTm_CTL_VLAN p)) = true →
    s.addressed p f = true →
    (!f.frag) = true →
    (f.proto == 3) = true →
    Gives (.ethFrameRx p f n) s (fun t =>
      t.net = s.net ∧ t.getF (NET_PORTm_RXDROP_CNT p) = s.getF (NET_PORTm_RXDROP_CNT p))) ∧
  (∀ (s : State) (m : Master) (ok : List Bool),
    s.reaches m CAL_IMG_CMD = true →
    (!s.flag CAL_IMG_STAT_BUSY) = true →
    (s.calBad (s.winBytes 0x80000 8192) == 0) = true →
    (s.calBad (s.winBytes 0x90000 8192) != 0 || !newerGen (leAt (s.winBytes 0x90000 8192) 8 4) (leAt (s.winBytes 0x80000 8192) 8 4)) = true →
    Gives (.calImgRestore m ok) s (fun t =>
      t.getF CAL_IMG_STAT_RESULT = 1 ∧ t.getF CAL_IMG_GEN_GEN = leAt (s.winBytes 0x80000 8192) 8 4))
end

