-- ==== Sys2Proof/Laws/Sparse.lean ====
section
/-! SUPPORT. Laws of sparse tables: reading after storing, and the canonical form that storing keeps. -/

namespace Sys2Proof.Machine

variable {α : Type}

/-- Listing a value at a key that is not listed makes it the value of that key. -/
theorem sget_sins_same (d : Nat → α) (k : Nat) (v : α) (l : List (Nat × α)) (h : ∀ p ∈ l, p.1 ≠ k) :
    sget d (sins k v l) k = v := by
  induction l with
  | nil => simp [sins, sget]
  | cons p t ih =>
    obtain ⟨j, w⟩ := p
    have hj : j ≠ k := h (j, w) (by simp)
    have ht : ∀ p ∈ t, p.1 ≠ k := fun p hp => h p (by simp [hp])
    by_cases hk : k < j
    · simp [sins, hk, sget]
    · simp [sins, hk, sget, hj, ih ht]

/-- Listing a value at a key leaves every other key's value. -/
theorem sget_sins_other (d : Nat → α) (k j : Nat) (v : α) (l : List (Nat × α)) (h : j ≠ k) :
    sget d (sins k v l) j = sget d l j := by
  induction l with
  | nil => simp [sins, sget, Ne.symm h]
  | cons p t ih =>
    obtain ⟨i, w⟩ := p
    by_cases hk : k < i
    · simp [sins, hk, sget, Ne.symm h]
    · simp [sins, hk, sget, ih]

/-- Removing a key makes it read as unlisted. -/
theorem sget_filter_same (d : Nat → α) (k : Nat) (l : List (Nat × α)) :
    sget d (l.filter fun p => p.1 != k) k = d k := by
  induction l with
  | nil => rfl
  | cons p t ih =>
    obtain ⟨j, w⟩ := p
    by_cases hj : j = k
    · simp [hj, ih]
    · simp [hj, sget, ih]

/-- Removing a key leaves every other key's value. -/
theorem sget_filter_other (d : Nat → α) (k j : Nat) (l : List (Nat × α)) (h : j ≠ k) :
    sget d (l.filter fun p => p.1 != k) j = sget d l j := by
  induction l with
  | nil => rfl
  | cons p t ih =>
    obtain ⟨i, w⟩ := p
    by_cases hi : i = k
    · have : i ≠ j := fun e => h (e ▸ hi)
      simp [hi, sget, ih, Ne.symm h]
    · have hb : (i != k) = true := by simpa using hi
      simp only [List.filter_cons, hb, if_true, sget, ih]

variable [DecidableEq α]

/-- A key reads the value last stored at it. -/
@[simp] theorem sget_sset_same (d : Nat → α) (k : Nat) (v : α) (l : List (Nat × α)) : sget d (sset d k v l) k = v := by
  unfold sset
  by_cases hv : v = d k
  · simp [hv, sget_filter_same]
  · simp only [hv, if_false]
    exact sget_sins_same d k v _ (by simp)

/-- Storing at a key leaves every other key's value. -/
theorem sget_sset_other (d : Nat → α) (k j : Nat) (v : α) (l : List (Nat × α)) (h : j ≠ k) :
    sget d (sset d k v l) j = sget d l j := by
  unfold sset
  by_cases hv : v = d k
  · simp [hv, sget_filter_other d k j l h]
  · simp only [hv, if_false]
    rw [sget_sins_other d k j v _ h, sget_filter_other d k j l h]

/-- What a stored key and every other key read. -/
theorem sget_sset (d : Nat → α) (k j : Nat) (v : α) (l : List (Nat × α)) :
    sget d (sset d k v l) j = if j = k then v else sget d l j := by
  by_cases h : j = k
  · subst h; simp
  · simp [h, sget_sset_other d k j v l h]

/-- A smaller bound holds where a greater one does. -/
theorem swfFrom_mono (d : Nat → α) {a b : Nat} (hab : a ≤ b) (l : List (Nat × α)) (h : swfFrom d b l = true) :
    swfFrom d a l = true := by
  cases l with
  | nil => rfl
  | cons p t =>
    obtain ⟨j, w⟩ := p
    simp only [swfFrom, Bool.and_eq_true, decide_eq_true_eq] at h ⊢
    exact ⟨⟨le_trans hab h.1.1, h.1.2⟩, h.2⟩

/-- Removing entries keeps the canonical form. -/
theorem swfFrom_filter (d : Nat → α) (q : Nat × α → Bool) (b : Nat) (l : List (Nat × α)) (h : swfFrom d b l = true) :
    swfFrom d b (l.filter q) = true := by
  induction l generalizing b with
  | nil => rfl
  | cons p t ih =>
    obtain ⟨j, w⟩ := p
    simp only [swfFrom, Bool.and_eq_true, decide_eq_true_eq] at h
    have ht := ih (j + 1) h.2
    cases hq : q (j, w)
    · simp only [List.filter_cons, hq]
      exact swfFrom_mono d (by omega) _ ht
    · simp only [List.filter_cons, hq, if_true, swfFrom, Bool.and_eq_true, decide_eq_true_eq]
      exact ⟨h.1, ht⟩

/-- Listing a value that is not the unlisted one, at a key that is not listed, keeps the canonical form. -/
theorem swfFrom_sins (d : Nat → α) (k : Nat) (v : α) (hv : v ≠ d k) (b : Nat) (hb : b ≤ k) (l : List (Nat × α))
    (hl : ∀ p ∈ l, p.1 ≠ k) (h : swfFrom d b l = true) : swfFrom d b (sins k v l) = true := by
  induction l generalizing b with
  | nil => simp [sins, swfFrom, hb, hv]
  | cons p t ih =>
    obtain ⟨j, w⟩ := p
    simp only [swfFrom, Bool.and_eq_true, decide_eq_true_eq] at h
    have hj : j ≠ k := hl (j, w) (by simp)
    by_cases hk : k < j
    · simp only [sins, hk, if_true, swfFrom, Bool.and_eq_true, decide_eq_true_eq]
      exact ⟨⟨hb, by simp [hv]⟩, ⟨by omega, h.1.2⟩, h.2⟩
    · simp only [sins, hk, if_false, swfFrom, Bool.and_eq_true, decide_eq_true_eq]
      exact ⟨h.1, ih (j + 1) (by omega) (fun p hp => hl p (by simp [hp])) h.2⟩

/-- Storing keeps the canonical form. -/
theorem swf_sset (d : Nat → α) (k : Nat) (v : α) (l : List (Nat × α)) (h : swf d l = true) :
    swf d (sset d k v l) = true := by
  unfold swf sset at *
  by_cases hv : v = d k
  · simpa [hv] using swfFrom_filter d _ 0 l h
  · simp only [hv, if_false]
    exact swfFrom_sins d k v hv 0 (by omega) _ (by simp) (swfFrom_filter d _ 0 l h)

end Sys2Proof.Machine
end

