-- ==== Sys2Proof/Laws/Regs.lean ====
section
/-! SUPPORT. Laws of registers and fields: what a read returns after a write of the same or another register or field. -/

namespace Sys2Proof.Machine

/-! ## Bits of a word -/

/-- The bits of a field. -/
theorem testBit_bitsOf (n hi lo i : Nat) : (bitsOf n hi lo).testBit i = (decide (i < hi + 1 - lo) && n.testBit (lo + i)) := by
  unfold bitsOf
  rw [Nat.testBit_mod_two_pow, Nat.testBit_shiftRight]

/-- A field's value is below its size. -/
theorem bitsOf_lt (n hi lo : Nat) : bitsOf n hi lo < 2 ^ (hi + 1 - lo) := Nat.mod_lt _ (by positivity)

/-- What putBits writes, as a quotient and a remainder. -/
theorem putBits_eq (n hi lo v : Nat) :
    putBits n hi lo v = (n / 2 ^ lo / 2 ^ (hi + 1 - lo) * 2 ^ (hi + 1 - lo) + v % 2 ^ (hi + 1 - lo)) * 2 ^ lo + n % 2 ^ lo := by
  unfold putBits bitsOf
  simp only [Nat.shiftLeft_eq, Nat.shiftRight_eq_div_pow]
  set w := 2 ^ (hi + 1 - lo)
  set p := 2 ^ lo
  have h1 : n = (n / p) * p + n % p := by rw [Nat.div_add_mod' n p]
  have h2 : n / p = (n / p / w) * w + n / p % w := by rw [Nat.div_add_mod' (n / p) w]
  generalize hc : n / p / w = c at *
  generalize hb : n / p % w = b at *
  generalize hr : n % p = r at *
  generalize hv : v % w = u
  have h3 : n = (c * w + b) * p + r := by rw [← h2]; exact h1
  have h4 : n = b * p + (c * w * p + r) := by rw [h3]; ring
  calc n - b * p + u * p = (c * w * p + r) + u * p := by rw [h4]; simp
    _ = (c * w + u) * p + r := by ring

/-- The bits of a word after a field is written. -/
theorem testBit_putBits (n hi lo v i : Nat) (h : lo ≤ hi) :
    (putBits n hi lo v).testBit i = if lo ≤ i ∧ i ≤ hi then v.testBit (i - lo) else n.testBit i := by
  rw [putBits_eq]
  have hp : n % 2 ^ lo < 2 ^ lo := Nat.mod_lt _ (by positivity)
  have hu : v % 2 ^ (hi + 1 - lo) < 2 ^ (hi + 1 - lo) := Nat.mod_lt _ (by positivity)
  rw [Nat.mul_comm _ (2 ^ lo), Nat.mul_comm _ (2 ^ (hi + 1 - lo))]
  rw [Nat.testBit_two_pow_mul_add _ hp]
  by_cases h1 : i < lo
  · have : ¬ (lo ≤ i ∧ i ≤ hi) := by omega
    simp [h1, this]
  · rw [if_neg h1, Nat.testBit_two_pow_mul_add _ hu]
    by_cases h2 : i ≤ hi
    · have h3 : i - lo < hi + 1 - lo := by omega
      have h4 : lo ≤ i ∧ i ≤ hi := by omega
      simp [h3, h4]
    · have h3 : ¬ i - lo < hi + 1 - lo := by omega
      have h4 : ¬ (lo ≤ i ∧ i ≤ hi) := by omega
      rw [if_neg h3, if_neg h4, Nat.testBit_div_two_pow, Nat.testBit_div_two_pow]
      congr 1; omega

/-- A word stays a word when a field below bit 32 is written. -/
theorem putBits_lt (n hi lo v : Nat) (h : lo ≤ hi) (hh : hi < 32) (hn : n < 2 ^ 32) : putBits n hi lo v < 2 ^ 32 := by
  apply Nat.lt_pow_two_of_testBit
  intro i hi'
  rw [testBit_putBits n hi lo v i h]
  have : ¬ (lo ≤ i ∧ i ≤ hi) := by omega
  rw [if_neg this]
  exact Nat.testBit_lt_two_pow (lt_of_lt_of_le hn (Nat.pow_le_pow_right (by omega) hi'))

/-- A written field holds the value, cut to its width. -/
theorem bitsOf_putBits_same (n hi lo v : Nat) (h : lo ≤ hi) : bitsOf (putBits n hi lo v) hi lo = v % 2 ^ (hi + 1 - lo) := by
  apply Nat.eq_of_testBit_eq
  intro i
  rw [testBit_bitsOf, testBit_putBits n hi lo v _ h, Nat.testBit_mod_two_pow]
  by_cases hi' : i < hi + 1 - lo
  · have : lo ≤ lo + i ∧ lo + i ≤ hi := by omega
    simp [hi', this]
  · simp [hi']

/-- Writing a field leaves every field that does not overlap it. -/
theorem bitsOf_putBits_other (n hi lo v hi' lo' : Nat) (h : lo ≤ hi) (hd : hi' < lo ∨ hi < lo') :
    bitsOf (putBits n hi lo v) hi' lo' = bitsOf n hi' lo' := by
  apply Nat.eq_of_testBit_eq
  intro i
  rw [testBit_bitsOf, testBit_bitsOf, testBit_putBits n hi lo v _ h]
  by_cases hi'' : i < hi' + 1 - lo'
  · have : ¬ (lo ≤ lo' + i ∧ lo' + i ≤ hi) := by omega
    simp [this]
  · simp [hi'']

/-! ## Registers -/

@[simp] theorem rd_wr_same (s : State) (a : Nat) (w : Word) : (s.wr a w).rd a = w := by simp [State.rd, State.wr]

theorem rd_wr_other (s : State) (a b : Nat) (w : Word) (h : b ≠ a) : (s.wr a w).rd b = s.rd b := by
  simp [State.rd, State.wr, sget_sset_other _ _ _ _ _ h]

theorem rd_wr (s : State) (a b : Nat) (w : Word) : (s.wr a w).rd b = if b = a then w else s.rd b := by
  by_cases h : b = a
  · subst h; simp
  · simp [h, rd_wr_other s a b w h]

/-- The register of a field after the field is written. -/
theorem rd_setF (s : State) (f : Fld) (v b : Nat) :
    (s.setF f v).rd b = if b = f.reg then BitVec.ofNat 32 (putBits (s.rd f.reg).toNat f.hi f.lo v) else s.rd b := by
  simp [State.setF, rd_wr]

/-- A field reads the value last written to it, cut to its width. -/
theorem getF_setF_same (s : State) (f : Fld) (v : Nat) (h : f.lo ≤ f.hi) (hh : f.hi < 32) :
    (s.setF f v).getF f = v % 2 ^ (f.hi + 1 - f.lo) := by
  unfold State.getF
  rw [rd_setF, if_pos rfl, BitVec.toNat_ofNat, Nat.mod_eq_of_lt (putBits_lt _ _ _ _ h hh (s.rd f.reg).isLt)]
  exact bitsOf_putBits_same _ _ _ _ h

/-- Writing a field leaves the fields of every other register. -/
theorem getF_setF_reg (s : State) (f g : Fld) (v : Nat) (h : g.reg ≠ f.reg) : (s.setF f v).getF g = s.getF g := by
  unfold State.getF
  rw [rd_setF, if_neg h]

/-- Writing a field leaves the other fields of its register. -/
theorem getF_setF_bits (s : State) (f g : Fld) (v : Nat) (h : f.lo ≤ f.hi) (hh : f.hi < 32)
    (hd : g.hi < f.lo ∨ f.hi < g.lo) : (s.setF f v).getF g = s.getF g := by
  by_cases hr : g.reg = f.reg
  · unfold State.getF
    rw [rd_setF, hr, if_pos rfl, BitVec.toNat_ofNat, Nat.mod_eq_of_lt (putBits_lt _ _ _ _ h hh (s.rd f.reg).isLt)]
    exact bitsOf_putBits_other _ _ _ _ _ _ h hd
  · exact getF_setF_reg s f g v hr

/-- The canonical form of the registers is kept by writing one of them. -/
theorem wr_regs_swf (s : State) (a : Nat) (w : Word) (h : swf regReset s.regs = true) :
    swf regReset (s.wr a w).regs = true := by
  simpa [State.wr] using swf_sset regReset a w s.regs h

/-- The canonical form of the registers is kept by writing a field. -/
theorem setF_regs_swf (s : State) (f : Fld) (v : Nat) (h : swf regReset s.regs = true) :
    swf regReset (s.setF f v).regs = true := wr_regs_swf s _ _ h

end Sys2Proof.Machine
end

