-- ==== Sys2Proof/Laws/State.lean ====
section
/-! SUPPORT. What every update of the state leaves: one lemma per field of State and update of it, so that no proof unfolds
a record update, and what the tables of parts read after one of their entries is replaced. -/

namespace Sys2Proof.Machine

/-! ## wr -/

@[simp] theorem wr_pending (s : State) (a : Nat) (w : Word) : (s.wr a w).pending = s.pending := rfl
@[simp] theorem wr_hiLatch (s : State) (a : Nat) (w : Word) : (s.wr a w).hiLatch = s.hiLatch := rfl
@[simp] theorem wr_syscnt (s : State) (a : Nat) (w : Word) : (s.wr a w).syscnt = s.syscnt := rfl
@[simp] theorem wr_counting (s : State) (a : Nat) (w : Word) : (s.wr a w).counting = s.counting := rfl
@[simp] theorem wr_freeCtr (s : State) (a : Nat) (w : Word) : (s.wr a w).freeCtr = s.freeCtr := rfl
@[simp] theorem wr_pins (s : State) (a : Nat) (w : Word) : (s.wr a w).pins = s.pins := rfl
@[simp] theorem wr_pwr (s : State) (a : Nat) (w : Word) : (s.wr a w).pwr = s.pwr := rfl
@[simp] theorem wr_boot (s : State) (a : Nat) (w : Word) : (s.wr a w).boot = s.boot := rfl
@[simp] theorem wr_hb (s : State) (a : Nat) (w : Word) : (s.wr a w).hb = s.hb := rfl
@[simp] theorem wr_coal (s : State) (a : Nat) (w : Word) : (s.wr a w).coal = s.coal := rfl
@[simp] theorem wr_msiQueue (s : State) (a : Nat) (w : Word) : (s.wr a w).msiQueue = s.msiQueue := rfl
@[simp] theorem wr_recs (s : State) (a : Nat) (w : Word) : (s.wr a w).recs = s.recs := rfl
@[simp] theorem wr_obs (s : State) (a : Nat) (w : Word) : (s.wr a w).obs = s.obs := rfl
@[simp] theorem wr_mem (s : State) (a : Nat) (w : Word) : (s.wr a w).mem = s.mem := rfl
@[simp] theorem wr_snp (s : State) (a : Nat) (w : Word) : (s.wr a w).snp = s.snp := rfl
@[simp] theorem wr_exc (s : State) (a : Nat) (w : Word) : (s.wr a w).exc = s.exc := rfl
@[simp] theorem wr_cals (s : State) (a : Nat) (w : Word) : (s.wr a w).cals = s.cals := rfl
@[simp] theorem wr_clk (s : State) (a : Nat) (w : Word) : (s.wr a w).clk = s.clk := rfl
@[simp] theorem wr_inputs (s : State) (a : Nat) (w : Word) : (s.wr a w).inputs = s.inputs := rfl
@[simp] theorem wr_mrw (s : State) (a : Nat) (w : Word) : (s.wr a w).mrw = s.mrw := rfl
@[simp] theorem wr_banks (s : State) (a : Nat) (w : Word) : (s.wr a w).banks = s.banks := rfl
@[simp] theorem wr_paths (s : State) (a : Nat) (w : Word) : (s.wr a w).paths = s.paths := rfl
@[simp] theorem wr_kt (s : State) (a : Nat) (w : Word) : (s.wr a w).kt = s.kt := rfl
@[simp] theorem wr_dems (s : State) (a : Nat) (w : Word) : (s.wr a w).dems = s.dems := rfl
@[simp] theorem wr_slots (s : State) (a : Nat) (w : Word) : (s.wr a w).slots = s.slots := rfl
@[simp] theorem wr_decs (s : State) (a : Nat) (w : Word) : (s.wr a w).decs = s.decs := rfl
@[simp] theorem wr_fol (s : State) (a : Nat) (w : Word) : (s.wr a w).fol = s.fol := rfl
@[simp] theorem wr_saps (s : State) (a : Nat) (w : Word) : (s.wr a w).saps = s.saps := rfl
@[simp] theorem wr_rel (s : State) (a : Nat) (w : Word) : (s.wr a w).rel = s.rel := rfl
@[simp] theorem wr_streams (s : State) (a : Nat) (w : Word) : (s.wr a w).streams = s.streams := rfl
@[simp] theorem wr_net (s : State) (a : Nat) (w : Word) : (s.wr a w).net = s.net := rfl
@[simp] theorem wr_pci (s : State) (a : Nat) (w : Word) : (s.wr a w).pci = s.pci := rfl
@[simp] theorem wr_slk (s : State) (a : Nat) (w : Word) : (s.wr a w).slk = s.slk := rfl
@[simp] theorem wr_sec (s : State) (a : Nat) (w : Word) : (s.wr a w).sec = s.sec := rfl
@[simp] theorem wr_fab (s : State) (a : Nat) (w : Word) : (s.wr a w).fab = s.fab := rfl
@[simp] theorem wr_cores (s : State) (a : Nat) (w : Word) : (s.wr a w).cores = s.cores := rfl
@[simp] theorem wr_win (s : State) (a : Nat) (w : Word) : (s.wr a w).win = s.win := rfl

/-! ## setF -/

@[simp] theorem setF_pending (s : State) (f : Fld) (v : Nat) : (s.setF f v).pending = s.pending := wr_pending _ _ _
@[simp] theorem setF_hiLatch (s : State) (f : Fld) (v : Nat) : (s.setF f v).hiLatch = s.hiLatch := wr_hiLatch _ _ _
@[simp] theorem setF_syscnt (s : State) (f : Fld) (v : Nat) : (s.setF f v).syscnt = s.syscnt := wr_syscnt _ _ _
@[simp] theorem setF_counting (s : State) (f : Fld) (v : Nat) : (s.setF f v).counting = s.counting := wr_counting _ _ _
@[simp] theorem setF_freeCtr (s : State) (f : Fld) (v : Nat) : (s.setF f v).freeCtr = s.freeCtr := wr_freeCtr _ _ _
@[simp] theorem setF_pins (s : State) (f : Fld) (v : Nat) : (s.setF f v).pins = s.pins := wr_pins _ _ _
@[simp] theorem setF_pwr (s : State) (f : Fld) (v : Nat) : (s.setF f v).pwr = s.pwr := wr_pwr _ _ _
@[simp] theorem setF_boot (s : State) (f : Fld) (v : Nat) : (s.setF f v).boot = s.boot := wr_boot _ _ _
@[simp] theorem setF_hb (s : State) (f : Fld) (v : Nat) : (s.setF f v).hb = s.hb := wr_hb _ _ _
@[simp] theorem setF_coal (s : State) (f : Fld) (v : Nat) : (s.setF f v).coal = s.coal := wr_coal _ _ _
@[simp] theorem setF_msiQueue (s : State) (f : Fld) (v : Nat) : (s.setF f v).msiQueue = s.msiQueue := wr_msiQueue _ _ _
@[simp] theorem setF_recs (s : State) (f : Fld) (v : Nat) : (s.setF f v).recs = s.recs := wr_recs _ _ _
@[simp] theorem setF_obs (s : State) (f : Fld) (v : Nat) : (s.setF f v).obs = s.obs := wr_obs _ _ _
@[simp] theorem setF_mem (s : State) (f : Fld) (v : Nat) : (s.setF f v).mem = s.mem := wr_mem _ _ _
@[simp] theorem setF_snp (s : State) (f : Fld) (v : Nat) : (s.setF f v).snp = s.snp := wr_snp _ _ _
@[simp] theorem setF_exc (s : State) (f : Fld) (v : Nat) : (s.setF f v).exc = s.exc := wr_exc _ _ _
@[simp] theorem setF_cals (s : State) (f : Fld) (v : Nat) : (s.setF f v).cals = s.cals := wr_cals _ _ _
@[simp] theorem setF_clk (s : State) (f : Fld) (v : Nat) : (s.setF f v).clk = s.clk := wr_clk _ _ _
@[simp] theorem setF_inputs (s : State) (f : Fld) (v : Nat) : (s.setF f v).inputs = s.inputs := wr_inputs _ _ _
@[simp] theorem setF_mrw (s : State) (f : Fld) (v : Nat) : (s.setF f v).mrw = s.mrw := wr_mrw _ _ _
@[simp] theorem setF_banks (s : State) (f : Fld) (v : Nat) : (s.setF f v).banks = s.banks := wr_banks _ _ _
@[simp] theorem setF_paths (s : State) (f : Fld) (v : Nat) : (s.setF f v).paths = s.paths := wr_paths _ _ _
@[simp] theorem setF_kt (s : State) (f : Fld) (v : Nat) : (s.setF f v).kt = s.kt := wr_kt _ _ _
@[simp] theorem setF_dems (s : State) (f : Fld) (v : Nat) : (s.setF f v).dems = s.dems := wr_dems _ _ _
@[simp] theorem setF_slots (s : State) (f : Fld) (v : Nat) : (s.setF f v).slots = s.slots := wr_slots _ _ _
@[simp] theorem setF_decs (s : State) (f : Fld) (v : Nat) : (s.setF f v).decs = s.decs := wr_decs _ _ _
@[simp] theorem setF_fol (s : State) (f : Fld) (v : Nat) : (s.setF f v).fol = s.fol := wr_fol _ _ _
@[simp] theorem setF_saps (s : State) (f : Fld) (v : Nat) : (s.setF f v).saps = s.saps := wr_saps _ _ _
@[simp] theorem setF_rel (s : State) (f : Fld) (v : Nat) : (s.setF f v).rel = s.rel := wr_rel _ _ _
@[simp] theorem setF_streams (s : State) (f : Fld) (v : Nat) : (s.setF f v).streams = s.streams := wr_streams _ _ _
@[simp] theorem setF_net (s : State) (f : Fld) (v : Nat) : (s.setF f v).net = s.net := wr_net _ _ _
@[simp] theorem setF_pci (s : State) (f : Fld) (v : Nat) : (s.setF f v).pci = s.pci := wr_pci _ _ _
@[simp] theorem setF_slk (s : State) (f : Fld) (v : Nat) : (s.setF f v).slk = s.slk := wr_slk _ _ _
@[simp] theorem setF_sec (s : State) (f : Fld) (v : Nat) : (s.setF f v).sec = s.sec := wr_sec _ _ _
@[simp] theorem setF_fab (s : State) (f : Fld) (v : Nat) : (s.setF f v).fab = s.fab := wr_fab _ _ _
@[simp] theorem setF_cores (s : State) (f : Fld) (v : Nat) : (s.setF f v).cores = s.cores := wr_cores _ _ _
@[simp] theorem setF_win (s : State) (f : Fld) (v : Nat) : (s.setF f v).win = s.win := wr_win _ _ _

/-! ## setI -/

@[simp] theorem setI_pending (s : State) (f : Fld) (i : Int) : (s.setI f i).pending = s.pending := setF_pending _ _ _
@[simp] theorem setI_hiLatch (s : State) (f : Fld) (i : Int) : (s.setI f i).hiLatch = s.hiLatch := setF_hiLatch _ _ _
@[simp] theorem setI_syscnt (s : State) (f : Fld) (i : Int) : (s.setI f i).syscnt = s.syscnt := setF_syscnt _ _ _
@[simp] theorem setI_counting (s : State) (f : Fld) (i : Int) : (s.setI f i).counting = s.counting := setF_counting _ _ _
@[simp] theorem setI_freeCtr (s : State) (f : Fld) (i : Int) : (s.setI f i).freeCtr = s.freeCtr := setF_freeCtr _ _ _
@[simp] theorem setI_pins (s : State) (f : Fld) (i : Int) : (s.setI f i).pins = s.pins := setF_pins _ _ _
@[simp] theorem setI_pwr (s : State) (f : Fld) (i : Int) : (s.setI f i).pwr = s.pwr := setF_pwr _ _ _
@[simp] theorem setI_boot (s : State) (f : Fld) (i : Int) : (s.setI f i).boot = s.boot := setF_boot _ _ _
@[simp] theorem setI_hb (s : State) (f : Fld) (i : Int) : (s.setI f i).hb = s.hb := setF_hb _ _ _
@[simp] theorem setI_coal (s : State) (f : Fld) (i : Int) : (s.setI f i).coal = s.coal := setF_coal _ _ _
@[simp] theorem setI_msiQueue (s : State) (f : Fld) (i : Int) : (s.setI f i).msiQueue = s.msiQueue := setF_msiQueue _ _ _
@[simp] theorem setI_recs (s : State) (f : Fld) (i : Int) : (s.setI f i).recs = s.recs := setF_recs _ _ _
@[simp] theorem setI_obs (s : State) (f : Fld) (i : Int) : (s.setI f i).obs = s.obs := setF_obs _ _ _
@[simp] theorem setI_mem (s : State) (f : Fld) (i : Int) : (s.setI f i).mem = s.mem := setF_mem _ _ _
@[simp] theorem setI_snp (s : State) (f : Fld) (i : Int) : (s.setI f i).snp = s.snp := setF_snp _ _ _
@[simp] theorem setI_exc (s : State) (f : Fld) (i : Int) : (s.setI f i).exc = s.exc := setF_exc _ _ _
@[simp] theorem setI_cals (s : State) (f : Fld) (i : Int) : (s.setI f i).cals = s.cals := setF_cals _ _ _
@[simp] theorem setI_clk (s : State) (f : Fld) (i : Int) : (s.setI f i).clk = s.clk := setF_clk _ _ _
@[simp] theorem setI_inputs (s : State) (f : Fld) (i : Int) : (s.setI f i).inputs = s.inputs := setF_inputs _ _ _
@[simp] theorem setI_mrw (s : State) (f : Fld) (i : Int) : (s.setI f i).mrw = s.mrw := setF_mrw _ _ _
@[simp] theorem setI_banks (s : State) (f : Fld) (i : Int) : (s.setI f i).banks = s.banks := setF_banks _ _ _
@[simp] theorem setI_paths (s : State) (f : Fld) (i : Int) : (s.setI f i).paths = s.paths := setF_paths _ _ _
@[simp] theorem setI_kt (s : State) (f : Fld) (i : Int) : (s.setI f i).kt = s.kt := setF_kt _ _ _
@[simp] theorem setI_dems (s : State) (f : Fld) (i : Int) : (s.setI f i).dems = s.dems := setF_dems _ _ _
@[simp] theorem setI_slots (s : State) (f : Fld) (i : Int) : (s.setI f i).slots = s.slots := setF_slots _ _ _
@[simp] theorem setI_decs (s : State) (f : Fld) (i : Int) : (s.setI f i).decs = s.decs := setF_decs _ _ _
@[simp] theorem setI_fol (s : State) (f : Fld) (i : Int) : (s.setI f i).fol = s.fol := setF_fol _ _ _
@[simp] theorem setI_saps (s : State) (f : Fld) (i : Int) : (s.setI f i).saps = s.saps := setF_saps _ _ _
@[simp] theorem setI_rel (s : State) (f : Fld) (i : Int) : (s.setI f i).rel = s.rel := setF_rel _ _ _
@[simp] theorem setI_streams (s : State) (f : Fld) (i : Int) : (s.setI f i).streams = s.streams := setF_streams _ _ _
@[simp] theorem setI_net (s : State) (f : Fld) (i : Int) : (s.setI f i).net = s.net := setF_net _ _ _
@[simp] theorem setI_pci (s : State) (f : Fld) (i : Int) : (s.setI f i).pci = s.pci := setF_pci _ _ _
@[simp] theorem setI_slk (s : State) (f : Fld) (i : Int) : (s.setI f i).slk = s.slk := setF_slk _ _ _
@[simp] theorem setI_sec (s : State) (f : Fld) (i : Int) : (s.setI f i).sec = s.sec := setF_sec _ _ _
@[simp] theorem setI_fab (s : State) (f : Fld) (i : Int) : (s.setI f i).fab = s.fab := setF_fab _ _ _
@[simp] theorem setI_cores (s : State) (f : Fld) (i : Int) : (s.setI f i).cores = s.cores := setF_cores _ _ _
@[simp] theorem setI_win (s : State) (f : Fld) (i : Int) : (s.setI f i).win = s.win := setF_win _ _ _

/-! ## setB -/

@[simp] theorem setB_pending (s : State) (f : Fld) (b : Bool) : (s.setB f b).pending = s.pending := setF_pending _ _ _
@[simp] theorem setB_hiLatch (s : State) (f : Fld) (b : Bool) : (s.setB f b).hiLatch = s.hiLatch := setF_hiLatch _ _ _
@[simp] theorem setB_syscnt (s : State) (f : Fld) (b : Bool) : (s.setB f b).syscnt = s.syscnt := setF_syscnt _ _ _
@[simp] theorem setB_counting (s : State) (f : Fld) (b : Bool) : (s.setB f b).counting = s.counting := setF_counting _ _ _
@[simp] theorem setB_freeCtr (s : State) (f : Fld) (b : Bool) : (s.setB f b).freeCtr = s.freeCtr := setF_freeCtr _ _ _
@[simp] theorem setB_pins (s : State) (f : Fld) (b : Bool) : (s.setB f b).pins = s.pins := setF_pins _ _ _
@[simp] theorem setB_pwr (s : State) (f : Fld) (b : Bool) : (s.setB f b).pwr = s.pwr := setF_pwr _ _ _
@[simp] theorem setB_boot (s : State) (f : Fld) (b : Bool) : (s.setB f b).boot = s.boot := setF_boot _ _ _
@[simp] theorem setB_hb (s : State) (f : Fld) (b : Bool) : (s.setB f b).hb = s.hb := setF_hb _ _ _
@[simp] theorem setB_coal (s : State) (f : Fld) (b : Bool) : (s.setB f b).coal = s.coal := setF_coal _ _ _
@[simp] theorem setB_msiQueue (s : State) (f : Fld) (b : Bool) : (s.setB f b).msiQueue = s.msiQueue := setF_msiQueue _ _ _
@[simp] theorem setB_recs (s : State) (f : Fld) (b : Bool) : (s.setB f b).recs = s.recs := setF_recs _ _ _
@[simp] theorem setB_obs (s : State) (f : Fld) (b : Bool) : (s.setB f b).obs = s.obs := setF_obs _ _ _
@[simp] theorem setB_mem (s : State) (f : Fld) (b : Bool) : (s.setB f b).mem = s.mem := setF_mem _ _ _
@[simp] theorem setB_snp (s : State) (f : Fld) (b : Bool) : (s.setB f b).snp = s.snp := setF_snp _ _ _
@[simp] theorem setB_exc (s : State) (f : Fld) (b : Bool) : (s.setB f b).exc = s.exc := setF_exc _ _ _
@[simp] theorem setB_cals (s : State) (f : Fld) (b : Bool) : (s.setB f b).cals = s.cals := setF_cals _ _ _
@[simp] theorem setB_clk (s : State) (f : Fld) (b : Bool) : (s.setB f b).clk = s.clk := setF_clk _ _ _
@[simp] theorem setB_inputs (s : State) (f : Fld) (b : Bool) : (s.setB f b).inputs = s.inputs := setF_inputs _ _ _
@[simp] theorem setB_mrw (s : State) (f : Fld) (b : Bool) : (s.setB f b).mrw = s.mrw := setF_mrw _ _ _
@[simp] theorem setB_banks (s : State) (f : Fld) (b : Bool) : (s.setB f b).banks = s.banks := setF_banks _ _ _
@[simp] theorem setB_paths (s : State) (f : Fld) (b : Bool) : (s.setB f b).paths = s.paths := setF_paths _ _ _
@[simp] theorem setB_kt (s : State) (f : Fld) (b : Bool) : (s.setB f b).kt = s.kt := setF_kt _ _ _
@[simp] theorem setB_dems (s : State) (f : Fld) (b : Bool) : (s.setB f b).dems = s.dems := setF_dems _ _ _
@[simp] theorem setB_slots (s : State) (f : Fld) (b : Bool) : (s.setB f b).slots = s.slots := setF_slots _ _ _
@[simp] theorem setB_decs (s : State) (f : Fld) (b : Bool) : (s.setB f b).decs = s.decs := setF_decs _ _ _
@[simp] theorem setB_fol (s : State) (f : Fld) (b : Bool) : (s.setB f b).fol = s.fol := setF_fol _ _ _
@[simp] theorem setB_saps (s : State) (f : Fld) (b : Bool) : (s.setB f b).saps = s.saps := setF_saps _ _ _
@[simp] theorem setB_rel (s : State) (f : Fld) (b : Bool) : (s.setB f b).rel = s.rel := setF_rel _ _ _
@[simp] theorem setB_streams (s : State) (f : Fld) (b : Bool) : (s.setB f b).streams = s.streams := setF_streams _ _ _
@[simp] theorem setB_net (s : State) (f : Fld) (b : Bool) : (s.setB f b).net = s.net := setF_net _ _ _
@[simp] theorem setB_pci (s : State) (f : Fld) (b : Bool) : (s.setB f b).pci = s.pci := setF_pci _ _ _
@[simp] theorem setB_slk (s : State) (f : Fld) (b : Bool) : (s.setB f b).slk = s.slk := setF_slk _ _ _
@[simp] theorem setB_sec (s : State) (f : Fld) (b : Bool) : (s.setB f b).sec = s.sec := setF_sec _ _ _
@[simp] theorem setB_fab (s : State) (f : Fld) (b : Bool) : (s.setB f b).fab = s.fab := setF_fab _ _ _
@[simp] theorem setB_cores (s : State) (f : Fld) (b : Bool) : (s.setB f b).cores = s.cores := setF_cores _ _ _
@[simp] theorem setB_win (s : State) (f : Fld) (b : Bool) : (s.setB f b).win = s.win := setF_win _ _ _

/-! ## bumpBy -/

@[simp] theorem bumpBy_pending (s : State) (f : Fld) (n : Nat) : (s.bumpBy f n).pending = s.pending := setF_pending _ _ _
@[simp] theorem bumpBy_hiLatch (s : State) (f : Fld) (n : Nat) : (s.bumpBy f n).hiLatch = s.hiLatch := setF_hiLatch _ _ _
@[simp] theorem bumpBy_syscnt (s : State) (f : Fld) (n : Nat) : (s.bumpBy f n).syscnt = s.syscnt := setF_syscnt _ _ _
@[simp] theorem bumpBy_counting (s : State) (f : Fld) (n : Nat) : (s.bumpBy f n).counting = s.counting := setF_counting _ _ _
@[simp] theorem bumpBy_freeCtr (s : State) (f : Fld) (n : Nat) : (s.bumpBy f n).freeCtr = s.freeCtr := setF_freeCtr _ _ _
@[simp] theorem bumpBy_pins (s : State) (f : Fld) (n : Nat) : (s.bumpBy f n).pins = s.pins := setF_pins _ _ _
@[simp] theorem bumpBy_pwr (s : State) (f : Fld) (n : Nat) : (s.bumpBy f n).pwr = s.pwr := setF_pwr _ _ _
@[simp] theorem bumpBy_boot (s : State) (f : Fld) (n : Nat) : (s.bumpBy f n).boot = s.boot := setF_boot _ _ _
@[simp] theorem bumpBy_hb (s : State) (f : Fld) (n : Nat) : (s.bumpBy f n).hb = s.hb := setF_hb _ _ _
@[simp] theorem bumpBy_coal (s : State) (f : Fld) (n : Nat) : (s.bumpBy f n).coal = s.coal := setF_coal _ _ _
@[simp] theorem bumpBy_msiQueue (s : State) (f : Fld) (n : Nat) : (s.bumpBy f n).msiQueue = s.msiQueue := setF_msiQueue _ _ _
@[simp] theorem bumpBy_recs (s : State) (f : Fld) (n : Nat) : (s.bumpBy f n).recs = s.recs := setF_recs _ _ _
@[simp] theorem bumpBy_obs (s : State) (f : Fld) (n : Nat) : (s.bumpBy f n).obs = s.obs := setF_obs _ _ _
@[simp] theorem bumpBy_mem (s : State) (f : Fld) (n : Nat) : (s.bumpBy f n).mem = s.mem := setF_mem _ _ _
@[simp] theorem bumpBy_snp (s : State) (f : Fld) (n : Nat) : (s.bumpBy f n).snp = s.snp := setF_snp _ _ _
@[simp] theorem bumpBy_exc (s : State) (f : Fld) (n : Nat) : (s.bumpBy f n).exc = s.exc := setF_exc _ _ _
@[simp] theorem bumpBy_cals (s : State) (f : Fld) (n : Nat) : (s.bumpBy f n).cals = s.cals := setF_cals _ _ _
@[simp] theorem bumpBy_clk (s : State) (f : Fld) (n : Nat) : (s.bumpBy f n).clk = s.clk := setF_clk _ _ _
@[simp] theorem bumpBy_inputs (s : State) (f : Fld) (n : Nat) : (s.bumpBy f n).inputs = s.inputs := setF_inputs _ _ _
@[simp] theorem bumpBy_mrw (s : State) (f : Fld) (n : Nat) : (s.bumpBy f n).mrw = s.mrw := setF_mrw _ _ _
@[simp] theorem bumpBy_banks (s : State) (f : Fld) (n : Nat) : (s.bumpBy f n).banks = s.banks := setF_banks _ _ _
@[simp] theorem bumpBy_paths (s : State) (f : Fld) (n : Nat) : (s.bumpBy f n).paths = s.paths := setF_paths _ _ _
@[simp] theorem bumpBy_kt (s : State) (f : Fld) (n : Nat) : (s.bumpBy f n).kt = s.kt := setF_kt _ _ _
@[simp] theorem bumpBy_dems (s : State) (f : Fld) (n : Nat) : (s.bumpBy f n).dems = s.dems := setF_dems _ _ _
@[simp] theorem bumpBy_slots (s : State) (f : Fld) (n : Nat) : (s.bumpBy f n).slots = s.slots := setF_slots _ _ _
@[simp] theorem bumpBy_decs (s : State) (f : Fld) (n : Nat) : (s.bumpBy f n).decs = s.decs := setF_decs _ _ _
@[simp] theorem bumpBy_fol (s : State) (f : Fld) (n : Nat) : (s.bumpBy f n).fol = s.fol := setF_fol _ _ _
@[simp] theorem bumpBy_saps (s : State) (f : Fld) (n : Nat) : (s.bumpBy f n).saps = s.saps := setF_saps _ _ _
@[simp] theorem bumpBy_rel (s : State) (f : Fld) (n : Nat) : (s.bumpBy f n).rel = s.rel := setF_rel _ _ _
@[simp] theorem bumpBy_streams (s : State) (f : Fld) (n : Nat) : (s.bumpBy f n).streams = s.streams := setF_streams _ _ _
@[simp] theorem bumpBy_net (s : State) (f : Fld) (n : Nat) : (s.bumpBy f n).net = s.net := setF_net _ _ _
@[simp] theorem bumpBy_pci (s : State) (f : Fld) (n : Nat) : (s.bumpBy f n).pci = s.pci := setF_pci _ _ _
@[simp] theorem bumpBy_slk (s : State) (f : Fld) (n : Nat) : (s.bumpBy f n).slk = s.slk := setF_slk _ _ _
@[simp] theorem bumpBy_sec (s : State) (f : Fld) (n : Nat) : (s.bumpBy f n).sec = s.sec := setF_sec _ _ _
@[simp] theorem bumpBy_fab (s : State) (f : Fld) (n : Nat) : (s.bumpBy f n).fab = s.fab := setF_fab _ _ _
@[simp] theorem bumpBy_cores (s : State) (f : Fld) (n : Nat) : (s.bumpBy f n).cores = s.cores := setF_cores _ _ _
@[simp] theorem bumpBy_win (s : State) (f : Fld) (n : Nat) : (s.bumpBy f n).win = s.win := setF_win _ _ _

/-! ## bump -/

@[simp] theorem bump_pending (s : State) (f : Fld) : (s.bump f).pending = s.pending := bumpBy_pending _ _ _
@[simp] theorem bump_hiLatch (s : State) (f : Fld) : (s.bump f).hiLatch = s.hiLatch := bumpBy_hiLatch _ _ _
@[simp] theorem bump_syscnt (s : State) (f : Fld) : (s.bump f).syscnt = s.syscnt := bumpBy_syscnt _ _ _
@[simp] theorem bump_counting (s : State) (f : Fld) : (s.bump f).counting = s.counting := bumpBy_counting _ _ _
@[simp] theorem bump_freeCtr (s : State) (f : Fld) : (s.bump f).freeCtr = s.freeCtr := bumpBy_freeCtr _ _ _
@[simp] theorem bump_pins (s : State) (f : Fld) : (s.bump f).pins = s.pins := bumpBy_pins _ _ _
@[simp] theorem bump_pwr (s : State) (f : Fld) : (s.bump f).pwr = s.pwr := bumpBy_pwr _ _ _
@[simp] theorem bump_boot (s : State) (f : Fld) : (s.bump f).boot = s.boot := bumpBy_boot _ _ _
@[simp] theorem bump_hb (s : State) (f : Fld) : (s.bump f).hb = s.hb := bumpBy_hb _ _ _
@[simp] theorem bump_coal (s : State) (f : Fld) : (s.bump f).coal = s.coal := bumpBy_coal _ _ _
@[simp] theorem bump_msiQueue (s : State) (f : Fld) : (s.bump f).msiQueue = s.msiQueue := bumpBy_msiQueue _ _ _
@[simp] theorem bump_recs (s : State) (f : Fld) : (s.bump f).recs = s.recs := bumpBy_recs _ _ _
@[simp] theorem bump_obs (s : State) (f : Fld) : (s.bump f).obs = s.obs := bumpBy_obs _ _ _
@[simp] theorem bump_mem (s : State) (f : Fld) : (s.bump f).mem = s.mem := bumpBy_mem _ _ _
@[simp] theorem bump_snp (s : State) (f : Fld) : (s.bump f).snp = s.snp := bumpBy_snp _ _ _
@[simp] theorem bump_exc (s : State) (f : Fld) : (s.bump f).exc = s.exc := bumpBy_exc _ _ _
@[simp] theorem bump_cals (s : State) (f : Fld) : (s.bump f).cals = s.cals := bumpBy_cals _ _ _
@[simp] theorem bump_clk (s : State) (f : Fld) : (s.bump f).clk = s.clk := bumpBy_clk _ _ _
@[simp] theorem bump_inputs (s : State) (f : Fld) : (s.bump f).inputs = s.inputs := bumpBy_inputs _ _ _
@[simp] theorem bump_mrw (s : State) (f : Fld) : (s.bump f).mrw = s.mrw := bumpBy_mrw _ _ _
@[simp] theorem bump_banks (s : State) (f : Fld) : (s.bump f).banks = s.banks := bumpBy_banks _ _ _
@[simp] theorem bump_paths (s : State) (f : Fld) : (s.bump f).paths = s.paths := bumpBy_paths _ _ _
@[simp] theorem bump_kt (s : State) (f : Fld) : (s.bump f).kt = s.kt := bumpBy_kt _ _ _
@[simp] theorem bump_dems (s : State) (f : Fld) : (s.bump f).dems = s.dems := bumpBy_dems _ _ _
@[simp] theorem bump_slots (s : State) (f : Fld) : (s.bump f).slots = s.slots := bumpBy_slots _ _ _
@[simp] theorem bump_decs (s : State) (f : Fld) : (s.bump f).decs = s.decs := bumpBy_decs _ _ _
@[simp] theorem bump_fol (s : State) (f : Fld) : (s.bump f).fol = s.fol := bumpBy_fol _ _ _
@[simp] theorem bump_saps (s : State) (f : Fld) : (s.bump f).saps = s.saps := bumpBy_saps _ _ _
@[simp] theorem bump_rel (s : State) (f : Fld) : (s.bump f).rel = s.rel := bumpBy_rel _ _ _
@[simp] theorem bump_streams (s : State) (f : Fld) : (s.bump f).streams = s.streams := bumpBy_streams _ _ _
@[simp] theorem bump_net (s : State) (f : Fld) : (s.bump f).net = s.net := bumpBy_net _ _ _
@[simp] theorem bump_pci (s : State) (f : Fld) : (s.bump f).pci = s.pci := bumpBy_pci _ _ _
@[simp] theorem bump_slk (s : State) (f : Fld) : (s.bump f).slk = s.slk := bumpBy_slk _ _ _
@[simp] theorem bump_sec (s : State) (f : Fld) : (s.bump f).sec = s.sec := bumpBy_sec _ _ _
@[simp] theorem bump_fab (s : State) (f : Fld) : (s.bump f).fab = s.fab := bumpBy_fab _ _ _
@[simp] theorem bump_cores (s : State) (f : Fld) : (s.bump f).cores = s.cores := bumpBy_cores _ _ _
@[simp] theorem bump_win (s : State) (f : Fld) : (s.bump f).win = s.win := bumpBy_win _ _ _

/-! ## set64 -/

@[simp] theorem set64_pending (s : State) (lo hi v : Nat) : (s.set64 lo hi v).pending = s.pending := (wr_pending _ _ _).trans (wr_pending _ _ _)
@[simp] theorem set64_hiLatch (s : State) (lo hi v : Nat) : (s.set64 lo hi v).hiLatch = s.hiLatch := (wr_hiLatch _ _ _).trans (wr_hiLatch _ _ _)
@[simp] theorem set64_syscnt (s : State) (lo hi v : Nat) : (s.set64 lo hi v).syscnt = s.syscnt := (wr_syscnt _ _ _).trans (wr_syscnt _ _ _)
@[simp] theorem set64_counting (s : State) (lo hi v : Nat) : (s.set64 lo hi v).counting = s.counting := (wr_counting _ _ _).trans (wr_counting _ _ _)
@[simp] theorem set64_freeCtr (s : State) (lo hi v : Nat) : (s.set64 lo hi v).freeCtr = s.freeCtr := (wr_freeCtr _ _ _).trans (wr_freeCtr _ _ _)
@[simp] theorem set64_pins (s : State) (lo hi v : Nat) : (s.set64 lo hi v).pins = s.pins := (wr_pins _ _ _).trans (wr_pins _ _ _)
@[simp] theorem set64_pwr (s : State) (lo hi v : Nat) : (s.set64 lo hi v).pwr = s.pwr := (wr_pwr _ _ _).trans (wr_pwr _ _ _)
@[simp] theorem set64_boot (s : State) (lo hi v : Nat) : (s.set64 lo hi v).boot = s.boot := (wr_boot _ _ _).trans (wr_boot _ _ _)
@[simp] theorem set64_hb (s : State) (lo hi v : Nat) : (s.set64 lo hi v).hb = s.hb := (wr_hb _ _ _).trans (wr_hb _ _ _)
@[simp] theorem set64_coal (s : State) (lo hi v : Nat) : (s.set64 lo hi v).coal = s.coal := (wr_coal _ _ _).trans (wr_coal _ _ _)
@[simp] theorem set64_msiQueue (s : State) (lo hi v : Nat) : (s.set64 lo hi v).msiQueue = s.msiQueue := (wr_msiQueue _ _ _).trans (wr_msiQueue _ _ _)
@[simp] theorem set64_recs (s : State) (lo hi v : Nat) : (s.set64 lo hi v).recs = s.recs := (wr_recs _ _ _).trans (wr_recs _ _ _)
@[simp] theorem set64_obs (s : State) (lo hi v : Nat) : (s.set64 lo hi v).obs = s.obs := (wr_obs _ _ _).trans (wr_obs _ _ _)
@[simp] theorem set64_mem (s : State) (lo hi v : Nat) : (s.set64 lo hi v).mem = s.mem := (wr_mem _ _ _).trans (wr_mem _ _ _)
@[simp] theorem set64_snp (s : State) (lo hi v : Nat) : (s.set64 lo hi v).snp = s.snp := (wr_snp _ _ _).trans (wr_snp _ _ _)
@[simp] theorem set64_exc (s : State) (lo hi v : Nat) : (s.set64 lo hi v).exc = s.exc := (wr_exc _ _ _).trans (wr_exc _ _ _)
@[simp] theorem set64_cals (s : State) (lo hi v : Nat) : (s.set64 lo hi v).cals = s.cals := (wr_cals _ _ _).trans (wr_cals _ _ _)
@[simp] theorem set64_clk (s : State) (lo hi v : Nat) : (s.set64 lo hi v).clk = s.clk := (wr_clk _ _ _).trans (wr_clk _ _ _)
@[simp] theorem set64_inputs (s : State) (lo hi v : Nat) : (s.set64 lo hi v).inputs = s.inputs := (wr_inputs _ _ _).trans (wr_inputs _ _ _)
@[simp] theorem set64_mrw (s : State) (lo hi v : Nat) : (s.set64 lo hi v).mrw = s.mrw := (wr_mrw _ _ _).trans (wr_mrw _ _ _)
@[simp] theorem set64_banks (s : State) (lo hi v : Nat) : (s.set64 lo hi v).banks = s.banks := (wr_banks _ _ _).trans (wr_banks _ _ _)
@[simp] theorem set64_paths (s : State) (lo hi v : Nat) : (s.set64 lo hi v).paths = s.paths := (wr_paths _ _ _).trans (wr_paths _ _ _)
@[simp] theorem set64_kt (s : State) (lo hi v : Nat) : (s.set64 lo hi v).kt = s.kt := (wr_kt _ _ _).trans (wr_kt _ _ _)
@[simp] theorem set64_dems (s : State) (lo hi v : Nat) : (s.set64 lo hi v).dems = s.dems := (wr_dems _ _ _).trans (wr_dems _ _ _)
@[simp] theorem set64_slots (s : State) (lo hi v : Nat) : (s.set64 lo hi v).slots = s.slots := (wr_slots _ _ _).trans (wr_slots _ _ _)
@[simp] theorem set64_decs (s : State) (lo hi v : Nat) : (s.set64 lo hi v).decs = s.decs := (wr_decs _ _ _).trans (wr_decs _ _ _)
@[simp] theorem set64_fol (s : State) (lo hi v : Nat) : (s.set64 lo hi v).fol = s.fol := (wr_fol _ _ _).trans (wr_fol _ _ _)
@[simp] theorem set64_saps (s : State) (lo hi v : Nat) : (s.set64 lo hi v).saps = s.saps := (wr_saps _ _ _).trans (wr_saps _ _ _)
@[simp] theorem set64_rel (s : State) (lo hi v : Nat) : (s.set64 lo hi v).rel = s.rel := (wr_rel _ _ _).trans (wr_rel _ _ _)
@[simp] theorem set64_streams (s : State) (lo hi v : Nat) : (s.set64 lo hi v).streams = s.streams := (wr_streams _ _ _).trans (wr_streams _ _ _)
@[simp] theorem set64_net (s : State) (lo hi v : Nat) : (s.set64 lo hi v).net = s.net := (wr_net _ _ _).trans (wr_net _ _ _)
@[simp] theorem set64_pci (s : State) (lo hi v : Nat) : (s.set64 lo hi v).pci = s.pci := (wr_pci _ _ _).trans (wr_pci _ _ _)
@[simp] theorem set64_slk (s : State) (lo hi v : Nat) : (s.set64 lo hi v).slk = s.slk := (wr_slk _ _ _).trans (wr_slk _ _ _)
@[simp] theorem set64_sec (s : State) (lo hi v : Nat) : (s.set64 lo hi v).sec = s.sec := (wr_sec _ _ _).trans (wr_sec _ _ _)
@[simp] theorem set64_fab (s : State) (lo hi v : Nat) : (s.set64 lo hi v).fab = s.fab := (wr_fab _ _ _).trans (wr_fab _ _ _)
@[simp] theorem set64_cores (s : State) (lo hi v : Nat) : (s.set64 lo hi v).cores = s.cores := (wr_cores _ _ _).trans (wr_cores _ _ _)
@[simp] theorem set64_win (s : State) (lo hi v : Nat) : (s.set64 lo hi v).win = s.win := (wr_win _ _ _).trans (wr_win _ _ _)

/-! ## resetRange -/

@[simp] theorem resetRange_pending (s : State) (lo hi : Nat) : (s.resetRange lo hi).pending = s.pending := rfl
@[simp] theorem resetRange_hiLatch (s : State) (lo hi : Nat) : (s.resetRange lo hi).hiLatch = s.hiLatch := rfl
@[simp] theorem resetRange_syscnt (s : State) (lo hi : Nat) : (s.resetRange lo hi).syscnt = s.syscnt := rfl
@[simp] theorem resetRange_counting (s : State) (lo hi : Nat) : (s.resetRange lo hi).counting = s.counting := rfl
@[simp] theorem resetRange_freeCtr (s : State) (lo hi : Nat) : (s.resetRange lo hi).freeCtr = s.freeCtr := rfl
@[simp] theorem resetRange_pins (s : State) (lo hi : Nat) : (s.resetRange lo hi).pins = s.pins := rfl
@[simp] theorem resetRange_pwr (s : State) (lo hi : Nat) : (s.resetRange lo hi).pwr = s.pwr := rfl
@[simp] theorem resetRange_boot (s : State) (lo hi : Nat) : (s.resetRange lo hi).boot = s.boot := rfl
@[simp] theorem resetRange_hb (s : State) (lo hi : Nat) : (s.resetRange lo hi).hb = s.hb := rfl
@[simp] theorem resetRange_coal (s : State) (lo hi : Nat) : (s.resetRange lo hi).coal = s.coal := rfl
@[simp] theorem resetRange_msiQueue (s : State) (lo hi : Nat) : (s.resetRange lo hi).msiQueue = s.msiQueue := rfl
@[simp] theorem resetRange_recs (s : State) (lo hi : Nat) : (s.resetRange lo hi).recs = s.recs := rfl
@[simp] theorem resetRange_obs (s : State) (lo hi : Nat) : (s.resetRange lo hi).obs = s.obs := rfl
@[simp] theorem resetRange_mem (s : State) (lo hi : Nat) : (s.resetRange lo hi).mem = s.mem := rfl
@[simp] theorem resetRange_snp (s : State) (lo hi : Nat) : (s.resetRange lo hi).snp = s.snp := rfl
@[simp] theorem resetRange_exc (s : State) (lo hi : Nat) : (s.resetRange lo hi).exc = s.exc := rfl
@[simp] theorem resetRange_cals (s : State) (lo hi : Nat) : (s.resetRange lo hi).cals = s.cals := rfl
@[simp] theorem resetRange_clk (s : State) (lo hi : Nat) : (s.resetRange lo hi).clk = s.clk := rfl
@[simp] theorem resetRange_inputs (s : State) (lo hi : Nat) : (s.resetRange lo hi).inputs = s.inputs := rfl
@[simp] theorem resetRange_mrw (s : State) (lo hi : Nat) : (s.resetRange lo hi).mrw = s.mrw := rfl
@[simp] theorem resetRange_banks (s : State) (lo hi : Nat) : (s.resetRange lo hi).banks = s.banks := rfl
@[simp] theorem resetRange_paths (s : State) (lo hi : Nat) : (s.resetRange lo hi).paths = s.paths := rfl
@[simp] theorem resetRange_kt (s : State) (lo hi : Nat) : (s.resetRange lo hi).kt = s.kt := rfl
@[simp] theorem resetRange_dems (s : State) (lo hi : Nat) : (s.resetRange lo hi).dems = s.dems := rfl
@[simp] theorem resetRange_slots (s : State) (lo hi : Nat) : (s.resetRange lo hi).slots = s.slots := rfl
@[simp] theorem resetRange_decs (s : State) (lo hi : Nat) : (s.resetRange lo hi).decs = s.decs := rfl
@[simp] theorem resetRange_fol (s : State) (lo hi : Nat) : (s.resetRange lo hi).fol = s.fol := rfl
@[simp] theorem resetRange_saps (s : State) (lo hi : Nat) : (s.resetRange lo hi).saps = s.saps := rfl
@[simp] theorem resetRange_rel (s : State) (lo hi : Nat) : (s.resetRange lo hi).rel = s.rel := rfl
@[simp] theorem resetRange_streams (s : State) (lo hi : Nat) : (s.resetRange lo hi).streams = s.streams := rfl
@[simp] theorem resetRange_net (s : State) (lo hi : Nat) : (s.resetRange lo hi).net = s.net := rfl
@[simp] theorem resetRange_pci (s : State) (lo hi : Nat) : (s.resetRange lo hi).pci = s.pci := rfl
@[simp] theorem resetRange_slk (s : State) (lo hi : Nat) : (s.resetRange lo hi).slk = s.slk := rfl
@[simp] theorem resetRange_sec (s : State) (lo hi : Nat) : (s.resetRange lo hi).sec = s.sec := rfl
@[simp] theorem resetRange_fab (s : State) (lo hi : Nat) : (s.resetRange lo hi).fab = s.fab := rfl
@[simp] theorem resetRange_cores (s : State) (lo hi : Nat) : (s.resetRange lo hi).cores = s.cores := rfl
@[simp] theorem resetRange_win (s : State) (lo hi : Nat) : (s.resetRange lo hi).win = s.win := rfl

/-! ## refuse -/

@[simp] theorem refuse_pending (s : State) (r c : Nat) : (refuse r c s).pending = s.pending := (bump_pending _ _).trans (setF_pending _ _ _)
@[simp] theorem refuse_hiLatch (s : State) (r c : Nat) : (refuse r c s).hiLatch = s.hiLatch := (bump_hiLatch _ _).trans (setF_hiLatch _ _ _)
@[simp] theorem refuse_syscnt (s : State) (r c : Nat) : (refuse r c s).syscnt = s.syscnt := (bump_syscnt _ _).trans (setF_syscnt _ _ _)
@[simp] theorem refuse_counting (s : State) (r c : Nat) : (refuse r c s).counting = s.counting := (bump_counting _ _).trans (setF_counting _ _ _)
@[simp] theorem refuse_freeCtr (s : State) (r c : Nat) : (refuse r c s).freeCtr = s.freeCtr := (bump_freeCtr _ _).trans (setF_freeCtr _ _ _)
@[simp] theorem refuse_pins (s : State) (r c : Nat) : (refuse r c s).pins = s.pins := (bump_pins _ _).trans (setF_pins _ _ _)
@[simp] theorem refuse_pwr (s : State) (r c : Nat) : (refuse r c s).pwr = s.pwr := (bump_pwr _ _).trans (setF_pwr _ _ _)
@[simp] theorem refuse_boot (s : State) (r c : Nat) : (refuse r c s).boot = s.boot := (bump_boot _ _).trans (setF_boot _ _ _)
@[simp] theorem refuse_hb (s : State) (r c : Nat) : (refuse r c s).hb = s.hb := (bump_hb _ _).trans (setF_hb _ _ _)
@[simp] theorem refuse_coal (s : State) (r c : Nat) : (refuse r c s).coal = s.coal := (bump_coal _ _).trans (setF_coal _ _ _)
@[simp] theorem refuse_msiQueue (s : State) (r c : Nat) : (refuse r c s).msiQueue = s.msiQueue := (bump_msiQueue _ _).trans (setF_msiQueue _ _ _)
@[simp] theorem refuse_recs (s : State) (r c : Nat) : (refuse r c s).recs = s.recs := (bump_recs _ _).trans (setF_recs _ _ _)
@[simp] theorem refuse_obs (s : State) (r c : Nat) : (refuse r c s).obs = s.obs := (bump_obs _ _).trans (setF_obs _ _ _)
@[simp] theorem refuse_mem (s : State) (r c : Nat) : (refuse r c s).mem = s.mem := (bump_mem _ _).trans (setF_mem _ _ _)
@[simp] theorem refuse_snp (s : State) (r c : Nat) : (refuse r c s).snp = s.snp := (bump_snp _ _).trans (setF_snp _ _ _)
@[simp] theorem refuse_exc (s : State) (r c : Nat) : (refuse r c s).exc = s.exc := (bump_exc _ _).trans (setF_exc _ _ _)
@[simp] theorem refuse_cals (s : State) (r c : Nat) : (refuse r c s).cals = s.cals := (bump_cals _ _).trans (setF_cals _ _ _)
@[simp] theorem refuse_clk (s : State) (r c : Nat) : (refuse r c s).clk = s.clk := (bump_clk _ _).trans (setF_clk _ _ _)
@[simp] theorem refuse_inputs (s : State) (r c : Nat) : (refuse r c s).inputs = s.inputs := (bump_inputs _ _).trans (setF_inputs _ _ _)
@[simp] theorem refuse_mrw (s : State) (r c : Nat) : (refuse r c s).mrw = s.mrw := (bump_mrw _ _).trans (setF_mrw _ _ _)
@[simp] theorem refuse_banks (s : State) (r c : Nat) : (refuse r c s).banks = s.banks := (bump_banks _ _).trans (setF_banks _ _ _)
@[simp] theorem refuse_paths (s : State) (r c : Nat) : (refuse r c s).paths = s.paths := (bump_paths _ _).trans (setF_paths _ _ _)
@[simp] theorem refuse_kt (s : State) (r c : Nat) : (refuse r c s).kt = s.kt := (bump_kt _ _).trans (setF_kt _ _ _)
@[simp] theorem refuse_dems (s : State) (r c : Nat) : (refuse r c s).dems = s.dems := (bump_dems _ _).trans (setF_dems _ _ _)
@[simp] theorem refuse_slots (s : State) (r c : Nat) : (refuse r c s).slots = s.slots := (bump_slots _ _).trans (setF_slots _ _ _)
@[simp] theorem refuse_decs (s : State) (r c : Nat) : (refuse r c s).decs = s.decs := (bump_decs _ _).trans (setF_decs _ _ _)
@[simp] theorem refuse_fol (s : State) (r c : Nat) : (refuse r c s).fol = s.fol := (bump_fol _ _).trans (setF_fol _ _ _)
@[simp] theorem refuse_saps (s : State) (r c : Nat) : (refuse r c s).saps = s.saps := (bump_saps _ _).trans (setF_saps _ _ _)
@[simp] theorem refuse_rel (s : State) (r c : Nat) : (refuse r c s).rel = s.rel := (bump_rel _ _).trans (setF_rel _ _ _)
@[simp] theorem refuse_streams (s : State) (r c : Nat) : (refuse r c s).streams = s.streams := (bump_streams _ _).trans (setF_streams _ _ _)
@[simp] theorem refuse_net (s : State) (r c : Nat) : (refuse r c s).net = s.net := (bump_net _ _).trans (setF_net _ _ _)
@[simp] theorem refuse_pci (s : State) (r c : Nat) : (refuse r c s).pci = s.pci := (bump_pci _ _).trans (setF_pci _ _ _)
@[simp] theorem refuse_slk (s : State) (r c : Nat) : (refuse r c s).slk = s.slk := (bump_slk _ _).trans (setF_slk _ _ _)
@[simp] theorem refuse_sec (s : State) (r c : Nat) : (refuse r c s).sec = s.sec := (bump_sec _ _).trans (setF_sec _ _ _)
@[simp] theorem refuse_fab (s : State) (r c : Nat) : (refuse r c s).fab = s.fab := (bump_fab _ _).trans (setF_fab _ _ _)
@[simp] theorem refuse_cores (s : State) (r c : Nat) : (refuse r c s).cores = s.cores := (bump_cores _ _).trans (setF_cores _ _ _)
@[simp] theorem refuse_win (s : State) (r c : Nat) : (refuse r c s).win = s.win := (bump_win _ _).trans (setF_win _ _ _)

/-! ## refuseInst -/

@[simp] theorem refuseInst_pending (s : State) (r c : Nat) : (refuseInst r c s).pending = s.pending := (bump_pending _ _).trans (setF_pending _ _ _)
@[simp] theorem refuseInst_hiLatch (s : State) (r c : Nat) : (refuseInst r c s).hiLatch = s.hiLatch := (bump_hiLatch _ _).trans (setF_hiLatch _ _ _)
@[simp] theorem refuseInst_syscnt (s : State) (r c : Nat) : (refuseInst r c s).syscnt = s.syscnt := (bump_syscnt _ _).trans (setF_syscnt _ _ _)
@[simp] theorem refuseInst_counting (s : State) (r c : Nat) : (refuseInst r c s).counting = s.counting := (bump_counting _ _).trans (setF_counting _ _ _)
@[simp] theorem refuseInst_freeCtr (s : State) (r c : Nat) : (refuseInst r c s).freeCtr = s.freeCtr := (bump_freeCtr _ _).trans (setF_freeCtr _ _ _)
@[simp] theorem refuseInst_pins (s : State) (r c : Nat) : (refuseInst r c s).pins = s.pins := (bump_pins _ _).trans (setF_pins _ _ _)
@[simp] theorem refuseInst_pwr (s : State) (r c : Nat) : (refuseInst r c s).pwr = s.pwr := (bump_pwr _ _).trans (setF_pwr _ _ _)
@[simp] theorem refuseInst_boot (s : State) (r c : Nat) : (refuseInst r c s).boot = s.boot := (bump_boot _ _).trans (setF_boot _ _ _)
@[simp] theorem refuseInst_hb (s : State) (r c : Nat) : (refuseInst r c s).hb = s.hb := (bump_hb _ _).trans (setF_hb _ _ _)
@[simp] theorem refuseInst_coal (s : State) (r c : Nat) : (refuseInst r c s).coal = s.coal := (bump_coal _ _).trans (setF_coal _ _ _)
@[simp] theorem refuseInst_msiQueue (s : State) (r c : Nat) : (refuseInst r c s).msiQueue = s.msiQueue := (bump_msiQueue _ _).trans (setF_msiQueue _ _ _)
@[simp] theorem refuseInst_recs (s : State) (r c : Nat) : (refuseInst r c s).recs = s.recs := (bump_recs _ _).trans (setF_recs _ _ _)
@[simp] theorem refuseInst_obs (s : State) (r c : Nat) : (refuseInst r c s).obs = s.obs := (bump_obs _ _).trans (setF_obs _ _ _)
@[simp] theorem refuseInst_mem (s : State) (r c : Nat) : (refuseInst r c s).mem = s.mem := (bump_mem _ _).trans (setF_mem _ _ _)
@[simp] theorem refuseInst_snp (s : State) (r c : Nat) : (refuseInst r c s).snp = s.snp := (bump_snp _ _).trans (setF_snp _ _ _)
@[simp] theorem refuseInst_exc (s : State) (r c : Nat) : (refuseInst r c s).exc = s.exc := (bump_exc _ _).trans (setF_exc _ _ _)
@[simp] theorem refuseInst_cals (s : State) (r c : Nat) : (refuseInst r c s).cals = s.cals := (bump_cals _ _).trans (setF_cals _ _ _)
@[simp] theorem refuseInst_clk (s : State) (r c : Nat) : (refuseInst r c s).clk = s.clk := (bump_clk _ _).trans (setF_clk _ _ _)
@[simp] theorem refuseInst_inputs (s : State) (r c : Nat) : (refuseInst r c s).inputs = s.inputs := (bump_inputs _ _).trans (setF_inputs _ _ _)
@[simp] theorem refuseInst_mrw (s : State) (r c : Nat) : (refuseInst r c s).mrw = s.mrw := (bump_mrw _ _).trans (setF_mrw _ _ _)
@[simp] theorem refuseInst_banks (s : State) (r c : Nat) : (refuseInst r c s).banks = s.banks := (bump_banks _ _).trans (setF_banks _ _ _)
@[simp] theorem refuseInst_paths (s : State) (r c : Nat) : (refuseInst r c s).paths = s.paths := (bump_paths _ _).trans (setF_paths _ _ _)
@[simp] theorem refuseInst_kt (s : State) (r c : Nat) : (refuseInst r c s).kt = s.kt := (bump_kt _ _).trans (setF_kt _ _ _)
@[simp] theorem refuseInst_dems (s : State) (r c : Nat) : (refuseInst r c s).dems = s.dems := (bump_dems _ _).trans (setF_dems _ _ _)
@[simp] theorem refuseInst_slots (s : State) (r c : Nat) : (refuseInst r c s).slots = s.slots := (bump_slots _ _).trans (setF_slots _ _ _)
@[simp] theorem refuseInst_decs (s : State) (r c : Nat) : (refuseInst r c s).decs = s.decs := (bump_decs _ _).trans (setF_decs _ _ _)
@[simp] theorem refuseInst_fol (s : State) (r c : Nat) : (refuseInst r c s).fol = s.fol := (bump_fol _ _).trans (setF_fol _ _ _)
@[simp] theorem refuseInst_saps (s : State) (r c : Nat) : (refuseInst r c s).saps = s.saps := (bump_saps _ _).trans (setF_saps _ _ _)
@[simp] theorem refuseInst_rel (s : State) (r c : Nat) : (refuseInst r c s).rel = s.rel := (bump_rel _ _).trans (setF_rel _ _ _)
@[simp] theorem refuseInst_streams (s : State) (r c : Nat) : (refuseInst r c s).streams = s.streams := (bump_streams _ _).trans (setF_streams _ _ _)
@[simp] theorem refuseInst_net (s : State) (r c : Nat) : (refuseInst r c s).net = s.net := (bump_net _ _).trans (setF_net _ _ _)
@[simp] theorem refuseInst_pci (s : State) (r c : Nat) : (refuseInst r c s).pci = s.pci := (bump_pci _ _).trans (setF_pci _ _ _)
@[simp] theorem refuseInst_slk (s : State) (r c : Nat) : (refuseInst r c s).slk = s.slk := (bump_slk _ _).trans (setF_slk _ _ _)
@[simp] theorem refuseInst_sec (s : State) (r c : Nat) : (refuseInst r c s).sec = s.sec := (bump_sec _ _).trans (setF_sec _ _ _)
@[simp] theorem refuseInst_fab (s : State) (r c : Nat) : (refuseInst r c s).fab = s.fab := (bump_fab _ _).trans (setF_fab _ _ _)
@[simp] theorem refuseInst_cores (s : State) (r c : Nat) : (refuseInst r c s).cores = s.cores := (bump_cores _ _).trans (setF_cores _ _ _)
@[simp] theorem refuseInst_win (s : State) (r c : Nat) : (refuseInst r c s).win = s.win := (bump_win _ _).trans (setF_win _ _ _)

/-! ## store -/

@[simp] theorem store_pending (s : State) (a : Nat) (l : List Byte) : (s.store a l).pending = s.pending := rfl
@[simp] theorem store_regs (s : State) (a : Nat) (l : List Byte) : (s.store a l).regs = s.regs := rfl
@[simp] theorem store_hiLatch (s : State) (a : Nat) (l : List Byte) : (s.store a l).hiLatch = s.hiLatch := rfl
@[simp] theorem store_syscnt (s : State) (a : Nat) (l : List Byte) : (s.store a l).syscnt = s.syscnt := rfl
@[simp] theorem store_counting (s : State) (a : Nat) (l : List Byte) : (s.store a l).counting = s.counting := rfl
@[simp] theorem store_freeCtr (s : State) (a : Nat) (l : List Byte) : (s.store a l).freeCtr = s.freeCtr := rfl
@[simp] theorem store_pins (s : State) (a : Nat) (l : List Byte) : (s.store a l).pins = s.pins := rfl
@[simp] theorem store_pwr (s : State) (a : Nat) (l : List Byte) : (s.store a l).pwr = s.pwr := rfl
@[simp] theorem store_boot (s : State) (a : Nat) (l : List Byte) : (s.store a l).boot = s.boot := rfl
@[simp] theorem store_hb (s : State) (a : Nat) (l : List Byte) : (s.store a l).hb = s.hb := rfl
@[simp] theorem store_coal (s : State) (a : Nat) (l : List Byte) : (s.store a l).coal = s.coal := rfl
@[simp] theorem store_msiQueue (s : State) (a : Nat) (l : List Byte) : (s.store a l).msiQueue = s.msiQueue := rfl
@[simp] theorem store_recs (s : State) (a : Nat) (l : List Byte) : (s.store a l).recs = s.recs := rfl
@[simp] theorem store_obs (s : State) (a : Nat) (l : List Byte) : (s.store a l).obs = s.obs := rfl
@[simp] theorem store_snp (s : State) (a : Nat) (l : List Byte) : (s.store a l).snp = s.snp := rfl
@[simp] theorem store_exc (s : State) (a : Nat) (l : List Byte) : (s.store a l).exc = s.exc := rfl
@[simp] theorem store_cals (s : State) (a : Nat) (l : List Byte) : (s.store a l).cals = s.cals := rfl
@[simp] theorem store_clk (s : State) (a : Nat) (l : List Byte) : (s.store a l).clk = s.clk := rfl
@[simp] theorem store_inputs (s : State) (a : Nat) (l : List Byte) : (s.store a l).inputs = s.inputs := rfl
@[simp] theorem store_mrw (s : State) (a : Nat) (l : List Byte) : (s.store a l).mrw = s.mrw := rfl
@[simp] theorem store_banks (s : State) (a : Nat) (l : List Byte) : (s.store a l).banks = s.banks := rfl
@[simp] theorem store_paths (s : State) (a : Nat) (l : List Byte) : (s.store a l).paths = s.paths := rfl
@[simp] theorem store_kt (s : State) (a : Nat) (l : List Byte) : (s.store a l).kt = s.kt := rfl
@[simp] theorem store_dems (s : State) (a : Nat) (l : List Byte) : (s.store a l).dems = s.dems := rfl
@[simp] theorem store_slots (s : State) (a : Nat) (l : List Byte) : (s.store a l).slots = s.slots := rfl
@[simp] theorem store_decs (s : State) (a : Nat) (l : List Byte) : (s.store a l).decs = s.decs := rfl
@[simp] theorem store_fol (s : State) (a : Nat) (l : List Byte) : (s.store a l).fol = s.fol := rfl
@[simp] theorem store_saps (s : State) (a : Nat) (l : List Byte) : (s.store a l).saps = s.saps := rfl
@[simp] theorem store_rel (s : State) (a : Nat) (l : List Byte) : (s.store a l).rel = s.rel := rfl
@[simp] theorem store_streams (s : State) (a : Nat) (l : List Byte) : (s.store a l).streams = s.streams := rfl
@[simp] theorem store_net (s : State) (a : Nat) (l : List Byte) : (s.store a l).net = s.net := rfl
@[simp] theorem store_pci (s : State) (a : Nat) (l : List Byte) : (s.store a l).pci = s.pci := rfl
@[simp] theorem store_slk (s : State) (a : Nat) (l : List Byte) : (s.store a l).slk = s.slk := rfl
@[simp] theorem store_sec (s : State) (a : Nat) (l : List Byte) : (s.store a l).sec = s.sec := rfl
@[simp] theorem store_fab (s : State) (a : Nat) (l : List Byte) : (s.store a l).fab = s.fab := rfl
@[simp] theorem store_cores (s : State) (a : Nat) (l : List Byte) : (s.store a l).cores = s.cores := rfl
@[simp] theorem store_win (s : State) (a : Nat) (l : List Byte) : (s.store a l).win = s.win := rfl

/-! ## setInput -/

@[simp] theorem setInput_pending (s : State) (k : Nat) (v : Input) : (s.setInput k v).pending = s.pending := rfl
@[simp] theorem setInput_regs (s : State) (k : Nat) (v : Input) : (s.setInput k v).regs = s.regs := rfl
@[simp] theorem setInput_hiLatch (s : State) (k : Nat) (v : Input) : (s.setInput k v).hiLatch = s.hiLatch := rfl
@[simp] theorem setInput_syscnt (s : State) (k : Nat) (v : Input) : (s.setInput k v).syscnt = s.syscnt := rfl
@[simp] theorem setInput_counting (s : State) (k : Nat) (v : Input) : (s.setInput k v).counting = s.counting := rfl
@[simp] theorem setInput_freeCtr (s : State) (k : Nat) (v : Input) : (s.setInput k v).freeCtr = s.freeCtr := rfl
@[simp] theorem setInput_pins (s : State) (k : Nat) (v : Input) : (s.setInput k v).pins = s.pins := rfl
@[simp] theorem setInput_pwr (s : State) (k : Nat) (v : Input) : (s.setInput k v).pwr = s.pwr := rfl
@[simp] theorem setInput_boot (s : State) (k : Nat) (v : Input) : (s.setInput k v).boot = s.boot := rfl
@[simp] theorem setInput_hb (s : State) (k : Nat) (v : Input) : (s.setInput k v).hb = s.hb := rfl
@[simp] theorem setInput_coal (s : State) (k : Nat) (v : Input) : (s.setInput k v).coal = s.coal := rfl
@[simp] theorem setInput_msiQueue (s : State) (k : Nat) (v : Input) : (s.setInput k v).msiQueue = s.msiQueue := rfl
@[simp] theorem setInput_recs (s : State) (k : Nat) (v : Input) : (s.setInput k v).recs = s.recs := rfl
@[simp] theorem setInput_obs (s : State) (k : Nat) (v : Input) : (s.setInput k v).obs = s.obs := rfl
@[simp] theorem setInput_mem (s : State) (k : Nat) (v : Input) : (s.setInput k v).mem = s.mem := rfl
@[simp] theorem setInput_snp (s : State) (k : Nat) (v : Input) : (s.setInput k v).snp = s.snp := rfl
@[simp] theorem setInput_exc (s : State) (k : Nat) (v : Input) : (s.setInput k v).exc = s.exc := rfl
@[simp] theorem setInput_cals (s : State) (k : Nat) (v : Input) : (s.setInput k v).cals = s.cals := rfl
@[simp] theorem setInput_clk (s : State) (k : Nat) (v : Input) : (s.setInput k v).clk = s.clk := rfl
@[simp] theorem setInput_mrw (s : State) (k : Nat) (v : Input) : (s.setInput k v).mrw = s.mrw := rfl
@[simp] theorem setInput_banks (s : State) (k : Nat) (v : Input) : (s.setInput k v).banks = s.banks := rfl
@[simp] theorem setInput_paths (s : State) (k : Nat) (v : Input) : (s.setInput k v).paths = s.paths := rfl
@[simp] theorem setInput_kt (s : State) (k : Nat) (v : Input) : (s.setInput k v).kt = s.kt := rfl
@[simp] theorem setInput_dems (s : State) (k : Nat) (v : Input) : (s.setInput k v).dems = s.dems := rfl
@[simp] theorem setInput_slots (s : State) (k : Nat) (v : Input) : (s.setInput k v).slots = s.slots := rfl
@[simp] theorem setInput_decs (s : State) (k : Nat) (v : Input) : (s.setInput k v).decs = s.decs := rfl
@[simp] theorem setInput_fol (s : State) (k : Nat) (v : Input) : (s.setInput k v).fol = s.fol := rfl
@[simp] theorem setInput_saps (s : State) (k : Nat) (v : Input) : (s.setInput k v).saps = s.saps := rfl
@[simp] theorem setInput_rel (s : State) (k : Nat) (v : Input) : (s.setInput k v).rel = s.rel := rfl
@[simp] theorem setInput_streams (s : State) (k : Nat) (v : Input) : (s.setInput k v).streams = s.streams := rfl
@[simp] theorem setInput_net (s : State) (k : Nat) (v : Input) : (s.setInput k v).net = s.net := rfl
@[simp] theorem setInput_pci (s : State) (k : Nat) (v : Input) : (s.setInput k v).pci = s.pci := rfl
@[simp] theorem setInput_slk (s : State) (k : Nat) (v : Input) : (s.setInput k v).slk = s.slk := rfl
@[simp] theorem setInput_sec (s : State) (k : Nat) (v : Input) : (s.setInput k v).sec = s.sec := rfl
@[simp] theorem setInput_fab (s : State) (k : Nat) (v : Input) : (s.setInput k v).fab = s.fab := rfl
@[simp] theorem setInput_cores (s : State) (k : Nat) (v : Input) : (s.setInput k v).cores = s.cores := rfl
@[simp] theorem setInput_win (s : State) (k : Nat) (v : Input) : (s.setInput k v).win = s.win := rfl

/-! ## setBank -/

@[simp] theorem setBank_pending (s : State) (k : Nat) (v : Bank) : (s.setBank k v).pending = s.pending := rfl
@[simp] theorem setBank_regs (s : State) (k : Nat) (v : Bank) : (s.setBank k v).regs = s.regs := rfl
@[simp] theorem setBank_hiLatch (s : State) (k : Nat) (v : Bank) : (s.setBank k v).hiLatch = s.hiLatch := rfl
@[simp] theorem setBank_syscnt (s : State) (k : Nat) (v : Bank) : (s.setBank k v).syscnt = s.syscnt := rfl
@[simp] theorem setBank_counting (s : State) (k : Nat) (v : Bank) : (s.setBank k v).counting = s.counting := rfl
@[simp] theorem setBank_freeCtr (s : State) (k : Nat) (v : Bank) : (s.setBank k v).freeCtr = s.freeCtr := rfl
@[simp] theorem setBank_pins (s : State) (k : Nat) (v : Bank) : (s.setBank k v).pins = s.pins := rfl
@[simp] theorem setBank_pwr (s : State) (k : Nat) (v : Bank) : (s.setBank k v).pwr = s.pwr := rfl
@[simp] theorem setBank_boot (s : State) (k : Nat) (v : Bank) : (s.setBank k v).boot = s.boot := rfl
@[simp] theorem setBank_hb (s : State) (k : Nat) (v : Bank) : (s.setBank k v).hb = s.hb := rfl
@[simp] theorem setBank_coal (s : State) (k : Nat) (v : Bank) : (s.setBank k v).coal = s.coal := rfl
@[simp] theorem setBank_msiQueue (s : State) (k : Nat) (v : Bank) : (s.setBank k v).msiQueue = s.msiQueue := rfl
@[simp] theorem setBank_recs (s : State) (k : Nat) (v : Bank) : (s.setBank k v).recs = s.recs := rfl
@[simp] theorem setBank_obs (s : State) (k : Nat) (v : Bank) : (s.setBank k v).obs = s.obs := rfl
@[simp] theorem setBank_mem (s : State) (k : Nat) (v : Bank) : (s.setBank k v).mem = s.mem := rfl
@[simp] theorem setBank_snp (s : State) (k : Nat) (v : Bank) : (s.setBank k v).snp = s.snp := rfl
@[simp] theorem setBank_exc (s : State) (k : Nat) (v : Bank) : (s.setBank k v).exc = s.exc := rfl
@[simp] theorem setBank_cals (s : State) (k : Nat) (v : Bank) : (s.setBank k v).cals = s.cals := rfl
@[simp] theorem setBank_clk (s : State) (k : Nat) (v : Bank) : (s.setBank k v).clk = s.clk := rfl
@[simp] theorem setBank_inputs (s : State) (k : Nat) (v : Bank) : (s.setBank k v).inputs = s.inputs := rfl
@[simp] theorem setBank_mrw (s : State) (k : Nat) (v : Bank) : (s.setBank k v).mrw = s.mrw := rfl
@[simp] theorem setBank_paths (s : State) (k : Nat) (v : Bank) : (s.setBank k v).paths = s.paths := rfl
@[simp] theorem setBank_kt (s : State) (k : Nat) (v : Bank) : (s.setBank k v).kt = s.kt := rfl
@[simp] theorem setBank_dems (s : State) (k : Nat) (v : Bank) : (s.setBank k v).dems = s.dems := rfl
@[simp] theorem setBank_slots (s : State) (k : Nat) (v : Bank) : (s.setBank k v).slots = s.slots := rfl
@[simp] theorem setBank_decs (s : State) (k : Nat) (v : Bank) : (s.setBank k v).decs = s.decs := rfl
@[simp] theorem setBank_fol (s : State) (k : Nat) (v : Bank) : (s.setBank k v).fol = s.fol := rfl
@[simp] theorem setBank_saps (s : State) (k : Nat) (v : Bank) : (s.setBank k v).saps = s.saps := rfl
@[simp] theorem setBank_rel (s : State) (k : Nat) (v : Bank) : (s.setBank k v).rel = s.rel := rfl
@[simp] theorem setBank_streams (s : State) (k : Nat) (v : Bank) : (s.setBank k v).streams = s.streams := rfl
@[simp] theorem setBank_net (s : State) (k : Nat) (v : Bank) : (s.setBank k v).net = s.net := rfl
@[simp] theorem setBank_pci (s : State) (k : Nat) (v : Bank) : (s.setBank k v).pci = s.pci := rfl
@[simp] theorem setBank_slk (s : State) (k : Nat) (v : Bank) : (s.setBank k v).slk = s.slk := rfl
@[simp] theorem setBank_sec (s : State) (k : Nat) (v : Bank) : (s.setBank k v).sec = s.sec := rfl
@[simp] theorem setBank_fab (s : State) (k : Nat) (v : Bank) : (s.setBank k v).fab = s.fab := rfl
@[simp] theorem setBank_cores (s : State) (k : Nat) (v : Bank) : (s.setBank k v).cores = s.cores := rfl
@[simp] theorem setBank_win (s : State) (k : Nat) (v : Bank) : (s.setBank k v).win = s.win := rfl

/-! ## setPath -/

@[simp] theorem setPath_pending (s : State) (k : Nat) (v : Path) : (s.setPath k v).pending = s.pending := rfl
@[simp] theorem setPath_regs (s : State) (k : Nat) (v : Path) : (s.setPath k v).regs = s.regs := rfl
@[simp] theorem setPath_hiLatch (s : State) (k : Nat) (v : Path) : (s.setPath k v).hiLatch = s.hiLatch := rfl
@[simp] theorem setPath_syscnt (s : State) (k : Nat) (v : Path) : (s.setPath k v).syscnt = s.syscnt := rfl
@[simp] theorem setPath_counting (s : State) (k : Nat) (v : Path) : (s.setPath k v).counting = s.counting := rfl
@[simp] theorem setPath_freeCtr (s : State) (k : Nat) (v : Path) : (s.setPath k v).freeCtr = s.freeCtr := rfl
@[simp] theorem setPath_pins (s : State) (k : Nat) (v : Path) : (s.setPath k v).pins = s.pins := rfl
@[simp] theorem setPath_pwr (s : State) (k : Nat) (v : Path) : (s.setPath k v).pwr = s.pwr := rfl
@[simp] theorem setPath_boot (s : State) (k : Nat) (v : Path) : (s.setPath k v).boot = s.boot := rfl
@[simp] theorem setPath_hb (s : State) (k : Nat) (v : Path) : (s.setPath k v).hb = s.hb := rfl
@[simp] theorem setPath_coal (s : State) (k : Nat) (v : Path) : (s.setPath k v).coal = s.coal := rfl
@[simp] theorem setPath_msiQueue (s : State) (k : Nat) (v : Path) : (s.setPath k v).msiQueue = s.msiQueue := rfl
@[simp] theorem setPath_recs (s : State) (k : Nat) (v : Path) : (s.setPath k v).recs = s.recs := rfl
@[simp] theorem setPath_obs (s : State) (k : Nat) (v : Path) : (s.setPath k v).obs = s.obs := rfl
@[simp] theorem setPath_mem (s : State) (k : Nat) (v : Path) : (s.setPath k v).mem = s.mem := rfl
@[simp] theorem setPath_snp (s : State) (k : Nat) (v : Path) : (s.setPath k v).snp = s.snp := rfl
@[simp] theorem setPath_exc (s : State) (k : Nat) (v : Path) : (s.setPath k v).exc = s.exc := rfl
@[simp] theorem setPath_cals (s : State) (k : Nat) (v : Path) : (s.setPath k v).cals = s.cals := rfl
@[simp] theorem setPath_clk (s : State) (k : Nat) (v : Path) : (s.setPath k v).clk = s.clk := rfl
@[simp] theorem setPath_inputs (s : State) (k : Nat) (v : Path) : (s.setPath k v).inputs = s.inputs := rfl
@[simp] theorem setPath_mrw (s : State) (k : Nat) (v : Path) : (s.setPath k v).mrw = s.mrw := rfl
@[simp] theorem setPath_banks (s : State) (k : Nat) (v : Path) : (s.setPath k v).banks = s.banks := rfl
@[simp] theorem setPath_kt (s : State) (k : Nat) (v : Path) : (s.setPath k v).kt = s.kt := rfl
@[simp] theorem setPath_dems (s : State) (k : Nat) (v : Path) : (s.setPath k v).dems = s.dems := rfl
@[simp] theorem setPath_slots (s : State) (k : Nat) (v : Path) : (s.setPath k v).slots = s.slots := rfl
@[simp] theorem setPath_decs (s : State) (k : Nat) (v : Path) : (s.setPath k v).decs = s.decs := rfl
@[simp] theorem setPath_fol (s : State) (k : Nat) (v : Path) : (s.setPath k v).fol = s.fol := rfl
@[simp] theorem setPath_saps (s : State) (k : Nat) (v : Path) : (s.setPath k v).saps = s.saps := rfl
@[simp] theorem setPath_rel (s : State) (k : Nat) (v : Path) : (s.setPath k v).rel = s.rel := rfl
@[simp] theorem setPath_streams (s : State) (k : Nat) (v : Path) : (s.setPath k v).streams = s.streams := rfl
@[simp] theorem setPath_net (s : State) (k : Nat) (v : Path) : (s.setPath k v).net = s.net := rfl
@[simp] theorem setPath_pci (s : State) (k : Nat) (v : Path) : (s.setPath k v).pci = s.pci := rfl
@[simp] theorem setPath_slk (s : State) (k : Nat) (v : Path) : (s.setPath k v).slk = s.slk := rfl
@[simp] theorem setPath_sec (s : State) (k : Nat) (v : Path) : (s.setPath k v).sec = s.sec := rfl
@[simp] theorem setPath_fab (s : State) (k : Nat) (v : Path) : (s.setPath k v).fab = s.fab := rfl
@[simp] theorem setPath_cores (s : State) (k : Nat) (v : Path) : (s.setPath k v).cores = s.cores := rfl
@[simp] theorem setPath_win (s : State) (k : Nat) (v : Path) : (s.setPath k v).win = s.win := rfl

/-! ## setDem -/

@[simp] theorem setDem_pending (s : State) (k : Nat) (v : Dem) : (s.setDem k v).pending = s.pending := rfl
@[simp] theorem setDem_regs (s : State) (k : Nat) (v : Dem) : (s.setDem k v).regs = s.regs := rfl
@[simp] theorem setDem_hiLatch (s : State) (k : Nat) (v : Dem) : (s.setDem k v).hiLatch = s.hiLatch := rfl
@[simp] theorem setDem_syscnt (s : State) (k : Nat) (v : Dem) : (s.setDem k v).syscnt = s.syscnt := rfl
@[simp] theorem setDem_counting (s : State) (k : Nat) (v : Dem) : (s.setDem k v).counting = s.counting := rfl
@[simp] theorem setDem_freeCtr (s : State) (k : Nat) (v : Dem) : (s.setDem k v).freeCtr = s.freeCtr := rfl
@[simp] theorem setDem_pins (s : State) (k : Nat) (v : Dem) : (s.setDem k v).pins = s.pins := rfl
@[simp] theorem setDem_pwr (s : State) (k : Nat) (v : Dem) : (s.setDem k v).pwr = s.pwr := rfl
@[simp] theorem setDem_boot (s : State) (k : Nat) (v : Dem) : (s.setDem k v).boot = s.boot := rfl
@[simp] theorem setDem_hb (s : State) (k : Nat) (v : Dem) : (s.setDem k v).hb = s.hb := rfl
@[simp] theorem setDem_coal (s : State) (k : Nat) (v : Dem) : (s.setDem k v).coal = s.coal := rfl
@[simp] theorem setDem_msiQueue (s : State) (k : Nat) (v : Dem) : (s.setDem k v).msiQueue = s.msiQueue := rfl
@[simp] theorem setDem_recs (s : State) (k : Nat) (v : Dem) : (s.setDem k v).recs = s.recs := rfl
@[simp] theorem setDem_obs (s : State) (k : Nat) (v : Dem) : (s.setDem k v).obs = s.obs := rfl
@[simp] theorem setDem_mem (s : State) (k : Nat) (v : Dem) : (s.setDem k v).mem = s.mem := rfl
@[simp] theorem setDem_snp (s : State) (k : Nat) (v : Dem) : (s.setDem k v).snp = s.snp := rfl
@[simp] theorem setDem_exc (s : State) (k : Nat) (v : Dem) : (s.setDem k v).exc = s.exc := rfl
@[simp] theorem setDem_cals (s : State) (k : Nat) (v : Dem) : (s.setDem k v).cals = s.cals := rfl
@[simp] theorem setDem_clk (s : State) (k : Nat) (v : Dem) : (s.setDem k v).clk = s.clk := rfl
@[simp] theorem setDem_inputs (s : State) (k : Nat) (v : Dem) : (s.setDem k v).inputs = s.inputs := rfl
@[simp] theorem setDem_mrw (s : State) (k : Nat) (v : Dem) : (s.setDem k v).mrw = s.mrw := rfl
@[simp] theorem setDem_banks (s : State) (k : Nat) (v : Dem) : (s.setDem k v).banks = s.banks := rfl
@[simp] theorem setDem_paths (s : State) (k : Nat) (v : Dem) : (s.setDem k v).paths = s.paths := rfl
@[simp] theorem setDem_kt (s : State) (k : Nat) (v : Dem) : (s.setDem k v).kt = s.kt := rfl
@[simp] theorem setDem_slots (s : State) (k : Nat) (v : Dem) : (s.setDem k v).slots = s.slots := rfl
@[simp] theorem setDem_decs (s : State) (k : Nat) (v : Dem) : (s.setDem k v).decs = s.decs := rfl
@[simp] theorem setDem_fol (s : State) (k : Nat) (v : Dem) : (s.setDem k v).fol = s.fol := rfl
@[simp] theorem setDem_saps (s : State) (k : Nat) (v : Dem) : (s.setDem k v).saps = s.saps := rfl
@[simp] theorem setDem_rel (s : State) (k : Nat) (v : Dem) : (s.setDem k v).rel = s.rel := rfl
@[simp] theorem setDem_streams (s : State) (k : Nat) (v : Dem) : (s.setDem k v).streams = s.streams := rfl
@[simp] theorem setDem_net (s : State) (k : Nat) (v : Dem) : (s.setDem k v).net = s.net := rfl
@[simp] theorem setDem_pci (s : State) (k : Nat) (v : Dem) : (s.setDem k v).pci = s.pci := rfl
@[simp] theorem setDem_slk (s : State) (k : Nat) (v : Dem) : (s.setDem k v).slk = s.slk := rfl
@[simp] theorem setDem_sec (s : State) (k : Nat) (v : Dem) : (s.setDem k v).sec = s.sec := rfl
@[simp] theorem setDem_fab (s : State) (k : Nat) (v : Dem) : (s.setDem k v).fab = s.fab := rfl
@[simp] theorem setDem_cores (s : State) (k : Nat) (v : Dem) : (s.setDem k v).cores = s.cores := rfl
@[simp] theorem setDem_win (s : State) (k : Nat) (v : Dem) : (s.setDem k v).win = s.win := rfl

/-! ## setSlot -/

@[simp] theorem setSlot_pending (s : State) (k : Nat) (v : Slot) : (s.setSlot k v).pending = s.pending := rfl
@[simp] theorem setSlot_regs (s : State) (k : Nat) (v : Slot) : (s.setSlot k v).regs = s.regs := rfl
@[simp] theorem setSlot_hiLatch (s : State) (k : Nat) (v : Slot) : (s.setSlot k v).hiLatch = s.hiLatch := rfl
@[simp] theorem setSlot_syscnt (s : State) (k : Nat) (v : Slot) : (s.setSlot k v).syscnt = s.syscnt := rfl
@[simp] theorem setSlot_counting (s : State) (k : Nat) (v : Slot) : (s.setSlot k v).counting = s.counting := rfl
@[simp] theorem setSlot_freeCtr (s : State) (k : Nat) (v : Slot) : (s.setSlot k v).freeCtr = s.freeCtr := rfl
@[simp] theorem setSlot_pins (s : State) (k : Nat) (v : Slot) : (s.setSlot k v).pins = s.pins := rfl
@[simp] theorem setSlot_pwr (s : State) (k : Nat) (v : Slot) : (s.setSlot k v).pwr = s.pwr := rfl
@[simp] theorem setSlot_boot (s : State) (k : Nat) (v : Slot) : (s.setSlot k v).boot = s.boot := rfl
@[simp] theorem setSlot_hb (s : State) (k : Nat) (v : Slot) : (s.setSlot k v).hb = s.hb := rfl
@[simp] theorem setSlot_coal (s : State) (k : Nat) (v : Slot) : (s.setSlot k v).coal = s.coal := rfl
@[simp] theorem setSlot_msiQueue (s : State) (k : Nat) (v : Slot) : (s.setSlot k v).msiQueue = s.msiQueue := rfl
@[simp] theorem setSlot_recs (s : State) (k : Nat) (v : Slot) : (s.setSlot k v).recs = s.recs := rfl
@[simp] theorem setSlot_obs (s : State) (k : Nat) (v : Slot) : (s.setSlot k v).obs = s.obs := rfl
@[simp] theorem setSlot_mem (s : State) (k : Nat) (v : Slot) : (s.setSlot k v).mem = s.mem := rfl
@[simp] theorem setSlot_snp (s : State) (k : Nat) (v : Slot) : (s.setSlot k v).snp = s.snp := rfl
@[simp] theorem setSlot_exc (s : State) (k : Nat) (v : Slot) : (s.setSlot k v).exc = s.exc := rfl
@[simp] theorem setSlot_cals (s : State) (k : Nat) (v : Slot) : (s.setSlot k v).cals = s.cals := rfl
@[simp] theorem setSlot_clk (s : State) (k : Nat) (v : Slot) : (s.setSlot k v).clk = s.clk := rfl
@[simp] theorem setSlot_inputs (s : State) (k : Nat) (v : Slot) : (s.setSlot k v).inputs = s.inputs := rfl
@[simp] theorem setSlot_mrw (s : State) (k : Nat) (v : Slot) : (s.setSlot k v).mrw = s.mrw := rfl
@[simp] theorem setSlot_banks (s : State) (k : Nat) (v : Slot) : (s.setSlot k v).banks = s.banks := rfl
@[simp] theorem setSlot_paths (s : State) (k : Nat) (v : Slot) : (s.setSlot k v).paths = s.paths := rfl
@[simp] theorem setSlot_kt (s : State) (k : Nat) (v : Slot) : (s.setSlot k v).kt = s.kt := rfl
@[simp] theorem setSlot_dems (s : State) (k : Nat) (v : Slot) : (s.setSlot k v).dems = s.dems := rfl
@[simp] theorem setSlot_decs (s : State) (k : Nat) (v : Slot) : (s.setSlot k v).decs = s.decs := rfl
@[simp] theorem setSlot_fol (s : State) (k : Nat) (v : Slot) : (s.setSlot k v).fol = s.fol := rfl
@[simp] theorem setSlot_saps (s : State) (k : Nat) (v : Slot) : (s.setSlot k v).saps = s.saps := rfl
@[simp] theorem setSlot_rel (s : State) (k : Nat) (v : Slot) : (s.setSlot k v).rel = s.rel := rfl
@[simp] theorem setSlot_streams (s : State) (k : Nat) (v : Slot) : (s.setSlot k v).streams = s.streams := rfl
@[simp] theorem setSlot_net (s : State) (k : Nat) (v : Slot) : (s.setSlot k v).net = s.net := rfl
@[simp] theorem setSlot_pci (s : State) (k : Nat) (v : Slot) : (s.setSlot k v).pci = s.pci := rfl
@[simp] theorem setSlot_slk (s : State) (k : Nat) (v : Slot) : (s.setSlot k v).slk = s.slk := rfl
@[simp] theorem setSlot_sec (s : State) (k : Nat) (v : Slot) : (s.setSlot k v).sec = s.sec := rfl
@[simp] theorem setSlot_fab (s : State) (k : Nat) (v : Slot) : (s.setSlot k v).fab = s.fab := rfl
@[simp] theorem setSlot_cores (s : State) (k : Nat) (v : Slot) : (s.setSlot k v).cores = s.cores := rfl
@[simp] theorem setSlot_win (s : State) (k : Nat) (v : Slot) : (s.setSlot k v).win = s.win := rfl

/-! ## setDecoder -/

@[simp] theorem setDecoder_pending (s : State) (k : Nat) (v : Decoder) : (s.setDecoder k v).pending = s.pending := rfl
@[simp] theorem setDecoder_regs (s : State) (k : Nat) (v : Decoder) : (s.setDecoder k v).regs = s.regs := rfl
@[simp] theorem setDecoder_hiLatch (s : State) (k : Nat) (v : Decoder) : (s.setDecoder k v).hiLatch = s.hiLatch := rfl
@[simp] theorem setDecoder_syscnt (s : State) (k : Nat) (v : Decoder) : (s.setDecoder k v).syscnt = s.syscnt := rfl
@[simp] theorem setDecoder_counting (s : State) (k : Nat) (v : Decoder) : (s.setDecoder k v).counting = s.counting := rfl
@[simp] theorem setDecoder_freeCtr (s : State) (k : Nat) (v : Decoder) : (s.setDecoder k v).freeCtr = s.freeCtr := rfl
@[simp] theorem setDecoder_pins (s : State) (k : Nat) (v : Decoder) : (s.setDecoder k v).pins = s.pins := rfl
@[simp] theorem setDecoder_pwr (s : State) (k : Nat) (v : Decoder) : (s.setDecoder k v).pwr = s.pwr := rfl
@[simp] theorem setDecoder_boot (s : State) (k : Nat) (v : Decoder) : (s.setDecoder k v).boot = s.boot := rfl
@[simp] theorem setDecoder_hb (s : State) (k : Nat) (v : Decoder) : (s.setDecoder k v).hb = s.hb := rfl
@[simp] theorem setDecoder_coal (s : State) (k : Nat) (v : Decoder) : (s.setDecoder k v).coal = s.coal := rfl
@[simp] theorem setDecoder_msiQueue (s : State) (k : Nat) (v : Decoder) : (s.setDecoder k v).msiQueue = s.msiQueue := rfl
@[simp] theorem setDecoder_recs (s : State) (k : Nat) (v : Decoder) : (s.setDecoder k v).recs = s.recs := rfl
@[simp] theorem setDecoder_obs (s : State) (k : Nat) (v : Decoder) : (s.setDecoder k v).obs = s.obs := rfl
@[simp] theorem setDecoder_mem (s : State) (k : Nat) (v : Decoder) : (s.setDecoder k v).mem = s.mem := rfl
@[simp] theorem setDecoder_snp (s : State) (k : Nat) (v : Decoder) : (s.setDecoder k v).snp = s.snp := rfl
@[simp] theorem setDecoder_exc (s : State) (k : Nat) (v : Decoder) : (s.setDecoder k v).exc = s.exc := rfl
@[simp] theorem setDecoder_cals (s : State) (k : Nat) (v : Decoder) : (s.setDecoder k v).cals = s.cals := rfl
@[simp] theorem setDecoder_clk (s : State) (k : Nat) (v : Decoder) : (s.setDecoder k v).clk = s.clk := rfl
@[simp] theorem setDecoder_inputs (s : State) (k : Nat) (v : Decoder) : (s.setDecoder k v).inputs = s.inputs := rfl
@[simp] theorem setDecoder_mrw (s : State) (k : Nat) (v : Decoder) : (s.setDecoder k v).mrw = s.mrw := rfl
@[simp] theorem setDecoder_banks (s : State) (k : Nat) (v : Decoder) : (s.setDecoder k v).banks = s.banks := rfl
@[simp] theorem setDecoder_paths (s : State) (k : Nat) (v : Decoder) : (s.setDecoder k v).paths = s.paths := rfl
@[simp] theorem setDecoder_kt (s : State) (k : Nat) (v : Decoder) : (s.setDecoder k v).kt = s.kt := rfl
@[simp] theorem setDecoder_dems (s : State) (k : Nat) (v : Decoder) : (s.setDecoder k v).dems = s.dems := rfl
@[simp] theorem setDecoder_slots (s : State) (k : Nat) (v : Decoder) : (s.setDecoder k v).slots = s.slots := rfl
@[simp] theorem setDecoder_fol (s : State) (k : Nat) (v : Decoder) : (s.setDecoder k v).fol = s.fol := rfl
@[simp] theorem setDecoder_saps (s : State) (k : Nat) (v : Decoder) : (s.setDecoder k v).saps = s.saps := rfl
@[simp] theorem setDecoder_rel (s : State) (k : Nat) (v : Decoder) : (s.setDecoder k v).rel = s.rel := rfl
@[simp] theorem setDecoder_streams (s : State) (k : Nat) (v : Decoder) : (s.setDecoder k v).streams = s.streams := rfl
@[simp] theorem setDecoder_net (s : State) (k : Nat) (v : Decoder) : (s.setDecoder k v).net = s.net := rfl
@[simp] theorem setDecoder_pci (s : State) (k : Nat) (v : Decoder) : (s.setDecoder k v).pci = s.pci := rfl
@[simp] theorem setDecoder_slk (s : State) (k : Nat) (v : Decoder) : (s.setDecoder k v).slk = s.slk := rfl
@[simp] theorem setDecoder_sec (s : State) (k : Nat) (v : Decoder) : (s.setDecoder k v).sec = s.sec := rfl
@[simp] theorem setDecoder_fab (s : State) (k : Nat) (v : Decoder) : (s.setDecoder k v).fab = s.fab := rfl
@[simp] theorem setDecoder_cores (s : State) (k : Nat) (v : Decoder) : (s.setDecoder k v).cores = s.cores := rfl
@[simp] theorem setDecoder_win (s : State) (k : Nat) (v : Decoder) : (s.setDecoder k v).win = s.win := rfl

/-! ## setProg -/

@[simp] theorem setProg_pending (s : State) (k : Nat) (v : Prog) : (s.setProg k v).pending = s.pending := rfl
@[simp] theorem setProg_regs (s : State) (k : Nat) (v : Prog) : (s.setProg k v).regs = s.regs := rfl
@[simp] theorem setProg_hiLatch (s : State) (k : Nat) (v : Prog) : (s.setProg k v).hiLatch = s.hiLatch := rfl
@[simp] theorem setProg_syscnt (s : State) (k : Nat) (v : Prog) : (s.setProg k v).syscnt = s.syscnt := rfl
@[simp] theorem setProg_counting (s : State) (k : Nat) (v : Prog) : (s.setProg k v).counting = s.counting := rfl
@[simp] theorem setProg_freeCtr (s : State) (k : Nat) (v : Prog) : (s.setProg k v).freeCtr = s.freeCtr := rfl
@[simp] theorem setProg_pins (s : State) (k : Nat) (v : Prog) : (s.setProg k v).pins = s.pins := rfl
@[simp] theorem setProg_pwr (s : State) (k : Nat) (v : Prog) : (s.setProg k v).pwr = s.pwr := rfl
@[simp] theorem setProg_boot (s : State) (k : Nat) (v : Prog) : (s.setProg k v).boot = s.boot := rfl
@[simp] theorem setProg_hb (s : State) (k : Nat) (v : Prog) : (s.setProg k v).hb = s.hb := rfl
@[simp] theorem setProg_coal (s : State) (k : Nat) (v : Prog) : (s.setProg k v).coal = s.coal := rfl
@[simp] theorem setProg_msiQueue (s : State) (k : Nat) (v : Prog) : (s.setProg k v).msiQueue = s.msiQueue := rfl
@[simp] theorem setProg_recs (s : State) (k : Nat) (v : Prog) : (s.setProg k v).recs = s.recs := rfl
@[simp] theorem setProg_obs (s : State) (k : Nat) (v : Prog) : (s.setProg k v).obs = s.obs := rfl
@[simp] theorem setProg_mem (s : State) (k : Nat) (v : Prog) : (s.setProg k v).mem = s.mem := rfl
@[simp] theorem setProg_snp (s : State) (k : Nat) (v : Prog) : (s.setProg k v).snp = s.snp := rfl
@[simp] theorem setProg_exc (s : State) (k : Nat) (v : Prog) : (s.setProg k v).exc = s.exc := rfl
@[simp] theorem setProg_cals (s : State) (k : Nat) (v : Prog) : (s.setProg k v).cals = s.cals := rfl
@[simp] theorem setProg_clk (s : State) (k : Nat) (v : Prog) : (s.setProg k v).clk = s.clk := rfl
@[simp] theorem setProg_inputs (s : State) (k : Nat) (v : Prog) : (s.setProg k v).inputs = s.inputs := rfl
@[simp] theorem setProg_mrw (s : State) (k : Nat) (v : Prog) : (s.setProg k v).mrw = s.mrw := rfl
@[simp] theorem setProg_banks (s : State) (k : Nat) (v : Prog) : (s.setProg k v).banks = s.banks := rfl
@[simp] theorem setProg_paths (s : State) (k : Nat) (v : Prog) : (s.setProg k v).paths = s.paths := rfl
@[simp] theorem setProg_kt (s : State) (k : Nat) (v : Prog) : (s.setProg k v).kt = s.kt := rfl
@[simp] theorem setProg_dems (s : State) (k : Nat) (v : Prog) : (s.setProg k v).dems = s.dems := rfl
@[simp] theorem setProg_slots (s : State) (k : Nat) (v : Prog) : (s.setProg k v).slots = s.slots := rfl
@[simp] theorem setProg_decs (s : State) (k : Nat) (v : Prog) : (s.setProg k v).decs = s.decs := rfl
@[simp] theorem setProg_saps (s : State) (k : Nat) (v : Prog) : (s.setProg k v).saps = s.saps := rfl
@[simp] theorem setProg_rel (s : State) (k : Nat) (v : Prog) : (s.setProg k v).rel = s.rel := rfl
@[simp] theorem setProg_streams (s : State) (k : Nat) (v : Prog) : (s.setProg k v).streams = s.streams := rfl
@[simp] theorem setProg_net (s : State) (k : Nat) (v : Prog) : (s.setProg k v).net = s.net := rfl
@[simp] theorem setProg_pci (s : State) (k : Nat) (v : Prog) : (s.setProg k v).pci = s.pci := rfl
@[simp] theorem setProg_slk (s : State) (k : Nat) (v : Prog) : (s.setProg k v).slk = s.slk := rfl
@[simp] theorem setProg_sec (s : State) (k : Nat) (v : Prog) : (s.setProg k v).sec = s.sec := rfl
@[simp] theorem setProg_fab (s : State) (k : Nat) (v : Prog) : (s.setProg k v).fab = s.fab := rfl
@[simp] theorem setProg_cores (s : State) (k : Nat) (v : Prog) : (s.setProg k v).cores = s.cores := rfl
@[simp] theorem setProg_win (s : State) (k : Nat) (v : Prog) : (s.setProg k v).win = s.win := rfl

/-! ## setCand -/

@[simp] theorem setCand_pending (s : State) (p k : Nat) (v : Cand) : (s.setCand p k v).pending = s.pending := setProg_pending _ _ _
@[simp] theorem setCand_regs (s : State) (p k : Nat) (v : Cand) : (s.setCand p k v).regs = s.regs := setProg_regs _ _ _
@[simp] theorem setCand_hiLatch (s : State) (p k : Nat) (v : Cand) : (s.setCand p k v).hiLatch = s.hiLatch := setProg_hiLatch _ _ _
@[simp] theorem setCand_syscnt (s : State) (p k : Nat) (v : Cand) : (s.setCand p k v).syscnt = s.syscnt := setProg_syscnt _ _ _
@[simp] theorem setCand_counting (s : State) (p k : Nat) (v : Cand) : (s.setCand p k v).counting = s.counting := setProg_counting _ _ _
@[simp] theorem setCand_freeCtr (s : State) (p k : Nat) (v : Cand) : (s.setCand p k v).freeCtr = s.freeCtr := setProg_freeCtr _ _ _
@[simp] theorem setCand_pins (s : State) (p k : Nat) (v : Cand) : (s.setCand p k v).pins = s.pins := setProg_pins _ _ _
@[simp] theorem setCand_pwr (s : State) (p k : Nat) (v : Cand) : (s.setCand p k v).pwr = s.pwr := setProg_pwr _ _ _
@[simp] theorem setCand_boot (s : State) (p k : Nat) (v : Cand) : (s.setCand p k v).boot = s.boot := setProg_boot _ _ _
@[simp] theorem setCand_hb (s : State) (p k : Nat) (v : Cand) : (s.setCand p k v).hb = s.hb := setProg_hb _ _ _
@[simp] theorem setCand_coal (s : State) (p k : Nat) (v : Cand) : (s.setCand p k v).coal = s.coal := setProg_coal _ _ _
@[simp] theorem setCand_msiQueue (s : State) (p k : Nat) (v : Cand) : (s.setCand p k v).msiQueue = s.msiQueue := setProg_msiQueue _ _ _
@[simp] theorem setCand_recs (s : State) (p k : Nat) (v : Cand) : (s.setCand p k v).recs = s.recs := setProg_recs _ _ _
@[simp] theorem setCand_obs (s : State) (p k : Nat) (v : Cand) : (s.setCand p k v).obs = s.obs := setProg_obs _ _ _
@[simp] theorem setCand_mem (s : State) (p k : Nat) (v : Cand) : (s.setCand p k v).mem = s.mem := setProg_mem _ _ _
@[simp] theorem setCand_snp (s : State) (p k : Nat) (v : Cand) : (s.setCand p k v).snp = s.snp := setProg_snp _ _ _
@[simp] theorem setCand_exc (s : State) (p k : Nat) (v : Cand) : (s.setCand p k v).exc = s.exc := setProg_exc _ _ _
@[simp] theorem setCand_cals (s : State) (p k : Nat) (v : Cand) : (s.setCand p k v).cals = s.cals := setProg_cals _ _ _
@[simp] theorem setCand_clk (s : State) (p k : Nat) (v : Cand) : (s.setCand p k v).clk = s.clk := setProg_clk _ _ _
@[simp] theorem setCand_inputs (s : State) (p k : Nat) (v : Cand) : (s.setCand p k v).inputs = s.inputs := setProg_inputs _ _ _
@[simp] theorem setCand_mrw (s : State) (p k : Nat) (v : Cand) : (s.setCand p k v).mrw = s.mrw := setProg_mrw _ _ _
@[simp] theorem setCand_banks (s : State) (p k : Nat) (v : Cand) : (s.setCand p k v).banks = s.banks := setProg_banks _ _ _
@[simp] theorem setCand_paths (s : State) (p k : Nat) (v : Cand) : (s.setCand p k v).paths = s.paths := setProg_paths _ _ _
@[simp] theorem setCand_kt (s : State) (p k : Nat) (v : Cand) : (s.setCand p k v).kt = s.kt := setProg_kt _ _ _
@[simp] theorem setCand_dems (s : State) (p k : Nat) (v : Cand) : (s.setCand p k v).dems = s.dems := setProg_dems _ _ _
@[simp] theorem setCand_slots (s : State) (p k : Nat) (v : Cand) : (s.setCand p k v).slots = s.slots := setProg_slots _ _ _
@[simp] theorem setCand_decs (s : State) (p k : Nat) (v : Cand) : (s.setCand p k v).decs = s.decs := setProg_decs _ _ _
@[simp] theorem setCand_saps (s : State) (p k : Nat) (v : Cand) : (s.setCand p k v).saps = s.saps := setProg_saps _ _ _
@[simp] theorem setCand_rel (s : State) (p k : Nat) (v : Cand) : (s.setCand p k v).rel = s.rel := setProg_rel _ _ _
@[simp] theorem setCand_streams (s : State) (p k : Nat) (v : Cand) : (s.setCand p k v).streams = s.streams := setProg_streams _ _ _
@[simp] theorem setCand_net (s : State) (p k : Nat) (v : Cand) : (s.setCand p k v).net = s.net := setProg_net _ _ _
@[simp] theorem setCand_pci (s : State) (p k : Nat) (v : Cand) : (s.setCand p k v).pci = s.pci := setProg_pci _ _ _
@[simp] theorem setCand_slk (s : State) (p k : Nat) (v : Cand) : (s.setCand p k v).slk = s.slk := setProg_slk _ _ _
@[simp] theorem setCand_sec (s : State) (p k : Nat) (v : Cand) : (s.setCand p k v).sec = s.sec := setProg_sec _ _ _
@[simp] theorem setCand_fab (s : State) (p k : Nat) (v : Cand) : (s.setCand p k v).fab = s.fab := setProg_fab _ _ _
@[simp] theorem setCand_cores (s : State) (p k : Nat) (v : Cand) : (s.setCand p k v).cores = s.cores := setProg_cores _ _ _
@[simp] theorem setCand_win (s : State) (p k : Nat) (v : Cand) : (s.setCand p k v).win = s.win := setProg_win _ _ _

/-! ## setSap -/

@[simp] theorem setSap_pending (s : State) (k : Nat) (v : Sap) : (s.setSap k v).pending = s.pending := rfl
@[simp] theorem setSap_regs (s : State) (k : Nat) (v : Sap) : (s.setSap k v).regs = s.regs := rfl
@[simp] theorem setSap_hiLatch (s : State) (k : Nat) (v : Sap) : (s.setSap k v).hiLatch = s.hiLatch := rfl
@[simp] theorem setSap_syscnt (s : State) (k : Nat) (v : Sap) : (s.setSap k v).syscnt = s.syscnt := rfl
@[simp] theorem setSap_counting (s : State) (k : Nat) (v : Sap) : (s.setSap k v).counting = s.counting := rfl
@[simp] theorem setSap_freeCtr (s : State) (k : Nat) (v : Sap) : (s.setSap k v).freeCtr = s.freeCtr := rfl
@[simp] theorem setSap_pins (s : State) (k : Nat) (v : Sap) : (s.setSap k v).pins = s.pins := rfl
@[simp] theorem setSap_pwr (s : State) (k : Nat) (v : Sap) : (s.setSap k v).pwr = s.pwr := rfl
@[simp] theorem setSap_boot (s : State) (k : Nat) (v : Sap) : (s.setSap k v).boot = s.boot := rfl
@[simp] theorem setSap_hb (s : State) (k : Nat) (v : Sap) : (s.setSap k v).hb = s.hb := rfl
@[simp] theorem setSap_coal (s : State) (k : Nat) (v : Sap) : (s.setSap k v).coal = s.coal := rfl
@[simp] theorem setSap_msiQueue (s : State) (k : Nat) (v : Sap) : (s.setSap k v).msiQueue = s.msiQueue := rfl
@[simp] theorem setSap_recs (s : State) (k : Nat) (v : Sap) : (s.setSap k v).recs = s.recs := rfl
@[simp] theorem setSap_obs (s : State) (k : Nat) (v : Sap) : (s.setSap k v).obs = s.obs := rfl
@[simp] theorem setSap_mem (s : State) (k : Nat) (v : Sap) : (s.setSap k v).mem = s.mem := rfl
@[simp] theorem setSap_snp (s : State) (k : Nat) (v : Sap) : (s.setSap k v).snp = s.snp := rfl
@[simp] theorem setSap_exc (s : State) (k : Nat) (v : Sap) : (s.setSap k v).exc = s.exc := rfl
@[simp] theorem setSap_cals (s : State) (k : Nat) (v : Sap) : (s.setSap k v).cals = s.cals := rfl
@[simp] theorem setSap_clk (s : State) (k : Nat) (v : Sap) : (s.setSap k v).clk = s.clk := rfl
@[simp] theorem setSap_inputs (s : State) (k : Nat) (v : Sap) : (s.setSap k v).inputs = s.inputs := rfl
@[simp] theorem setSap_mrw (s : State) (k : Nat) (v : Sap) : (s.setSap k v).mrw = s.mrw := rfl
@[simp] theorem setSap_banks (s : State) (k : Nat) (v : Sap) : (s.setSap k v).banks = s.banks := rfl
@[simp] theorem setSap_paths (s : State) (k : Nat) (v : Sap) : (s.setSap k v).paths = s.paths := rfl
@[simp] theorem setSap_kt (s : State) (k : Nat) (v : Sap) : (s.setSap k v).kt = s.kt := rfl
@[simp] theorem setSap_dems (s : State) (k : Nat) (v : Sap) : (s.setSap k v).dems = s.dems := rfl
@[simp] theorem setSap_slots (s : State) (k : Nat) (v : Sap) : (s.setSap k v).slots = s.slots := rfl
@[simp] theorem setSap_decs (s : State) (k : Nat) (v : Sap) : (s.setSap k v).decs = s.decs := rfl
@[simp] theorem setSap_fol (s : State) (k : Nat) (v : Sap) : (s.setSap k v).fol = s.fol := rfl
@[simp] theorem setSap_rel (s : State) (k : Nat) (v : Sap) : (s.setSap k v).rel = s.rel := rfl
@[simp] theorem setSap_streams (s : State) (k : Nat) (v : Sap) : (s.setSap k v).streams = s.streams := rfl
@[simp] theorem setSap_net (s : State) (k : Nat) (v : Sap) : (s.setSap k v).net = s.net := rfl
@[simp] theorem setSap_pci (s : State) (k : Nat) (v : Sap) : (s.setSap k v).pci = s.pci := rfl
@[simp] theorem setSap_slk (s : State) (k : Nat) (v : Sap) : (s.setSap k v).slk = s.slk := rfl
@[simp] theorem setSap_sec (s : State) (k : Nat) (v : Sap) : (s.setSap k v).sec = s.sec := rfl
@[simp] theorem setSap_fab (s : State) (k : Nat) (v : Sap) : (s.setSap k v).fab = s.fab := rfl
@[simp] theorem setSap_cores (s : State) (k : Nat) (v : Sap) : (s.setSap k v).cores = s.cores := rfl
@[simp] theorem setSap_win (s : State) (k : Nat) (v : Sap) : (s.setSap k v).win = s.win := rfl

/-! ## setTuner -/

@[simp] theorem setTuner_pending (s : State) (k : Nat) (v : Tuner) : (s.setTuner k v).pending = s.pending := rfl
@[simp] theorem setTuner_regs (s : State) (k : Nat) (v : Tuner) : (s.setTuner k v).regs = s.regs := rfl
@[simp] theorem setTuner_hiLatch (s : State) (k : Nat) (v : Tuner) : (s.setTuner k v).hiLatch = s.hiLatch := rfl
@[simp] theorem setTuner_syscnt (s : State) (k : Nat) (v : Tuner) : (s.setTuner k v).syscnt = s.syscnt := rfl
@[simp] theorem setTuner_counting (s : State) (k : Nat) (v : Tuner) : (s.setTuner k v).counting = s.counting := rfl
@[simp] theorem setTuner_freeCtr (s : State) (k : Nat) (v : Tuner) : (s.setTuner k v).freeCtr = s.freeCtr := rfl
@[simp] theorem setTuner_pins (s : State) (k : Nat) (v : Tuner) : (s.setTuner k v).pins = s.pins := rfl
@[simp] theorem setTuner_pwr (s : State) (k : Nat) (v : Tuner) : (s.setTuner k v).pwr = s.pwr := rfl
@[simp] theorem setTuner_boot (s : State) (k : Nat) (v : Tuner) : (s.setTuner k v).boot = s.boot := rfl
@[simp] theorem setTuner_hb (s : State) (k : Nat) (v : Tuner) : (s.setTuner k v).hb = s.hb := rfl
@[simp] theorem setTuner_coal (s : State) (k : Nat) (v : Tuner) : (s.setTuner k v).coal = s.coal := rfl
@[simp] theorem setTuner_msiQueue (s : State) (k : Nat) (v : Tuner) : (s.setTuner k v).msiQueue = s.msiQueue := rfl
@[simp] theorem setTuner_recs (s : State) (k : Nat) (v : Tuner) : (s.setTuner k v).recs = s.recs := rfl
@[simp] theorem setTuner_obs (s : State) (k : Nat) (v : Tuner) : (s.setTuner k v).obs = s.obs := rfl
@[simp] theorem setTuner_mem (s : State) (k : Nat) (v : Tuner) : (s.setTuner k v).mem = s.mem := rfl
@[simp] theorem setTuner_snp (s : State) (k : Nat) (v : Tuner) : (s.setTuner k v).snp = s.snp := rfl
@[simp] theorem setTuner_exc (s : State) (k : Nat) (v : Tuner) : (s.setTuner k v).exc = s.exc := rfl
@[simp] theorem setTuner_cals (s : State) (k : Nat) (v : Tuner) : (s.setTuner k v).cals = s.cals := rfl
@[simp] theorem setTuner_clk (s : State) (k : Nat) (v : Tuner) : (s.setTuner k v).clk = s.clk := rfl
@[simp] theorem setTuner_inputs (s : State) (k : Nat) (v : Tuner) : (s.setTuner k v).inputs = s.inputs := rfl
@[simp] theorem setTuner_mrw (s : State) (k : Nat) (v : Tuner) : (s.setTuner k v).mrw = s.mrw := rfl
@[simp] theorem setTuner_banks (s : State) (k : Nat) (v : Tuner) : (s.setTuner k v).banks = s.banks := rfl
@[simp] theorem setTuner_paths (s : State) (k : Nat) (v : Tuner) : (s.setTuner k v).paths = s.paths := rfl
@[simp] theorem setTuner_dems (s : State) (k : Nat) (v : Tuner) : (s.setTuner k v).dems = s.dems := rfl
@[simp] theorem setTuner_slots (s : State) (k : Nat) (v : Tuner) : (s.setTuner k v).slots = s.slots := rfl
@[simp] theorem setTuner_decs (s : State) (k : Nat) (v : Tuner) : (s.setTuner k v).decs = s.decs := rfl
@[simp] theorem setTuner_fol (s : State) (k : Nat) (v : Tuner) : (s.setTuner k v).fol = s.fol := rfl
@[simp] theorem setTuner_saps (s : State) (k : Nat) (v : Tuner) : (s.setTuner k v).saps = s.saps := rfl
@[simp] theorem setTuner_rel (s : State) (k : Nat) (v : Tuner) : (s.setTuner k v).rel = s.rel := rfl
@[simp] theorem setTuner_streams (s : State) (k : Nat) (v : Tuner) : (s.setTuner k v).streams = s.streams := rfl
@[simp] theorem setTuner_net (s : State) (k : Nat) (v : Tuner) : (s.setTuner k v).net = s.net := rfl
@[simp] theorem setTuner_pci (s : State) (k : Nat) (v : Tuner) : (s.setTuner k v).pci = s.pci := rfl
@[simp] theorem setTuner_slk (s : State) (k : Nat) (v : Tuner) : (s.setTuner k v).slk = s.slk := rfl
@[simp] theorem setTuner_sec (s : State) (k : Nat) (v : Tuner) : (s.setTuner k v).sec = s.sec := rfl
@[simp] theorem setTuner_fab (s : State) (k : Nat) (v : Tuner) : (s.setTuner k v).fab = s.fab := rfl
@[simp] theorem setTuner_cores (s : State) (k : Nat) (v : Tuner) : (s.setTuner k v).cores = s.cores := rfl
@[simp] theorem setTuner_win (s : State) (k : Nat) (v : Tuner) : (s.setTuner k v).win = s.win := rfl

/-! ## setCap -/

@[simp] theorem setCap_pending (s : State) (k : Nat) (v : Capture) : (s.setCap k v).pending = s.pending := by
  simp only [State.setCap, ktCapRefresh, State.ktSet, setF_pending]
@[simp] theorem setCap_hiLatch (s : State) (k : Nat) (v : Capture) : (s.setCap k v).hiLatch = s.hiLatch := by
  simp only [State.setCap, ktCapRefresh, State.ktSet, setF_hiLatch]
@[simp] theorem setCap_syscnt (s : State) (k : Nat) (v : Capture) : (s.setCap k v).syscnt = s.syscnt := by
  simp only [State.setCap, ktCapRefresh, State.ktSet, setF_syscnt]
@[simp] theorem setCap_counting (s : State) (k : Nat) (v : Capture) : (s.setCap k v).counting = s.counting := by
  simp only [State.setCap, ktCapRefresh, State.ktSet, setF_counting]
@[simp] theorem setCap_freeCtr (s : State) (k : Nat) (v : Capture) : (s.setCap k v).freeCtr = s.freeCtr := by
  simp only [State.setCap, ktCapRefresh, State.ktSet, setF_freeCtr]
@[simp] theorem setCap_pins (s : State) (k : Nat) (v : Capture) : (s.setCap k v).pins = s.pins := by
  simp only [State.setCap, ktCapRefresh, State.ktSet, setF_pins]
@[simp] theorem setCap_pwr (s : State) (k : Nat) (v : Capture) : (s.setCap k v).pwr = s.pwr := by
  simp only [State.setCap, ktCapRefresh, State.ktSet, setF_pwr]
@[simp] theorem setCap_boot (s : State) (k : Nat) (v : Capture) : (s.setCap k v).boot = s.boot := by
  simp only [State.setCap, ktCapRefresh, State.ktSet, setF_boot]
@[simp] theorem setCap_hb (s : State) (k : Nat) (v : Capture) : (s.setCap k v).hb = s.hb := by
  simp only [State.setCap, ktCapRefresh, State.ktSet, setF_hb]
@[simp] theorem setCap_coal (s : State) (k : Nat) (v : Capture) : (s.setCap k v).coal = s.coal := by
  simp only [State.setCap, ktCapRefresh, State.ktSet, setF_coal]
@[simp] theorem setCap_msiQueue (s : State) (k : Nat) (v : Capture) : (s.setCap k v).msiQueue = s.msiQueue := by
  simp only [State.setCap, ktCapRefresh, State.ktSet, setF_msiQueue]
@[simp] theorem setCap_recs (s : State) (k : Nat) (v : Capture) : (s.setCap k v).recs = s.recs := by
  simp only [State.setCap, ktCapRefresh, State.ktSet, setF_recs]
@[simp] theorem setCap_obs (s : State) (k : Nat) (v : Capture) : (s.setCap k v).obs = s.obs := by
  simp only [State.setCap, ktCapRefresh, State.ktSet, setF_obs]
@[simp] theorem setCap_mem (s : State) (k : Nat) (v : Capture) : (s.setCap k v).mem = s.mem := by
  simp only [State.setCap, ktCapRefresh, State.ktSet, setF_mem]
@[simp] theorem setCap_snp (s : State) (k : Nat) (v : Capture) : (s.setCap k v).snp = s.snp := by
  simp only [State.setCap, ktCapRefresh, State.ktSet, setF_snp]
@[simp] theorem setCap_exc (s : State) (k : Nat) (v : Capture) : (s.setCap k v).exc = s.exc := by
  simp only [State.setCap, ktCapRefresh, State.ktSet, setF_exc]
@[simp] theorem setCap_cals (s : State) (k : Nat) (v : Capture) : (s.setCap k v).cals = s.cals := by
  simp only [State.setCap, ktCapRefresh, State.ktSet, setF_cals]
@[simp] theorem setCap_clk (s : State) (k : Nat) (v : Capture) : (s.setCap k v).clk = s.clk := by
  simp only [State.setCap, ktCapRefresh, State.ktSet, setF_clk]
@[simp] theorem setCap_inputs (s : State) (k : Nat) (v : Capture) : (s.setCap k v).inputs = s.inputs := by
  simp only [State.setCap, ktCapRefresh, State.ktSet, setF_inputs]
@[simp] theorem setCap_mrw (s : State) (k : Nat) (v : Capture) : (s.setCap k v).mrw = s.mrw := by
  simp only [State.setCap, ktCapRefresh, State.ktSet, setF_mrw]
@[simp] theorem setCap_banks (s : State) (k : Nat) (v : Capture) : (s.setCap k v).banks = s.banks := by
  simp only [State.setCap, ktCapRefresh, State.ktSet, setF_banks]
@[simp] theorem setCap_paths (s : State) (k : Nat) (v : Capture) : (s.setCap k v).paths = s.paths := by
  simp only [State.setCap, ktCapRefresh, State.ktSet, setF_paths]
@[simp] theorem setCap_dems (s : State) (k : Nat) (v : Capture) : (s.setCap k v).dems = s.dems := by
  simp only [State.setCap, ktCapRefresh, State.ktSet, setF_dems]
@[simp] theorem setCap_slots (s : State) (k : Nat) (v : Capture) : (s.setCap k v).slots = s.slots := by
  simp only [State.setCap, ktCapRefresh, State.ktSet, setF_slots]
@[simp] theorem setCap_decs (s : State) (k : Nat) (v : Capture) : (s.setCap k v).decs = s.decs := by
  simp only [State.setCap, ktCapRefresh, State.ktSet, setF_decs]
@[simp] theorem setCap_fol (s : State) (k : Nat) (v : Capture) : (s.setCap k v).fol = s.fol := by
  simp only [State.setCap, ktCapRefresh, State.ktSet, setF_fol]
@[simp] theorem setCap_saps (s : State) (k : Nat) (v : Capture) : (s.setCap k v).saps = s.saps := by
  simp only [State.setCap, ktCapRefresh, State.ktSet, setF_saps]
@[simp] theorem setCap_rel (s : State) (k : Nat) (v : Capture) : (s.setCap k v).rel = s.rel := by
  simp only [State.setCap, ktCapRefresh, State.ktSet, setF_rel]
@[simp] theorem setCap_streams (s : State) (k : Nat) (v : Capture) : (s.setCap k v).streams = s.streams := by
  simp only [State.setCap, ktCapRefresh, State.ktSet, setF_streams]
@[simp] theorem setCap_net (s : State) (k : Nat) (v : Capture) : (s.setCap k v).net = s.net := by
  simp only [State.setCap, ktCapRefresh, State.ktSet, setF_net]
@[simp] theorem setCap_pci (s : State) (k : Nat) (v : Capture) : (s.setCap k v).pci = s.pci := by
  simp only [State.setCap, ktCapRefresh, State.ktSet, setF_pci]
@[simp] theorem setCap_slk (s : State) (k : Nat) (v : Capture) : (s.setCap k v).slk = s.slk := by
  simp only [State.setCap, ktCapRefresh, State.ktSet, setF_slk]
@[simp] theorem setCap_sec (s : State) (k : Nat) (v : Capture) : (s.setCap k v).sec = s.sec := by
  simp only [State.setCap, ktCapRefresh, State.ktSet, setF_sec]
@[simp] theorem setCap_fab (s : State) (k : Nat) (v : Capture) : (s.setCap k v).fab = s.fab := by
  simp only [State.setCap, ktCapRefresh, State.ktSet, setF_fab]
@[simp] theorem setCap_cores (s : State) (k : Nat) (v : Capture) : (s.setCap k v).cores = s.cores := by
  simp only [State.setCap, ktCapRefresh, State.ktSet, setF_cores]
@[simp] theorem setCap_win (s : State) (k : Nat) (v : Capture) : (s.setCap k v).win = s.win := by
  simp only [State.setCap, ktCapRefresh, State.ktSet, setF_win]

/-! ## setEgr -/

@[simp] theorem setEgr_pending (s : State) (k : Nat) (v : Egress) : (s.setEgr k v).pending = s.pending := rfl
@[simp] theorem setEgr_regs (s : State) (k : Nat) (v : Egress) : (s.setEgr k v).regs = s.regs := rfl
@[simp] theorem setEgr_hiLatch (s : State) (k : Nat) (v : Egress) : (s.setEgr k v).hiLatch = s.hiLatch := rfl
@[simp] theorem setEgr_syscnt (s : State) (k : Nat) (v : Egress) : (s.setEgr k v).syscnt = s.syscnt := rfl
@[simp] theorem setEgr_counting (s : State) (k : Nat) (v : Egress) : (s.setEgr k v).counting = s.counting := rfl
@[simp] theorem setEgr_freeCtr (s : State) (k : Nat) (v : Egress) : (s.setEgr k v).freeCtr = s.freeCtr := rfl
@[simp] theorem setEgr_pins (s : State) (k : Nat) (v : Egress) : (s.setEgr k v).pins = s.pins := rfl
@[simp] theorem setEgr_pwr (s : State) (k : Nat) (v : Egress) : (s.setEgr k v).pwr = s.pwr := rfl
@[simp] theorem setEgr_boot (s : State) (k : Nat) (v : Egress) : (s.setEgr k v).boot = s.boot := rfl
@[simp] theorem setEgr_hb (s : State) (k : Nat) (v : Egress) : (s.setEgr k v).hb = s.hb := rfl
@[simp] theorem setEgr_coal (s : State) (k : Nat) (v : Egress) : (s.setEgr k v).coal = s.coal := rfl
@[simp] theorem setEgr_msiQueue (s : State) (k : Nat) (v : Egress) : (s.setEgr k v).msiQueue = s.msiQueue := rfl
@[simp] theorem setEgr_recs (s : State) (k : Nat) (v : Egress) : (s.setEgr k v).recs = s.recs := rfl
@[simp] theorem setEgr_obs (s : State) (k : Nat) (v : Egress) : (s.setEgr k v).obs = s.obs := rfl
@[simp] theorem setEgr_mem (s : State) (k : Nat) (v : Egress) : (s.setEgr k v).mem = s.mem := rfl
@[simp] theorem setEgr_snp (s : State) (k : Nat) (v : Egress) : (s.setEgr k v).snp = s.snp := rfl
@[simp] theorem setEgr_exc (s : State) (k : Nat) (v : Egress) : (s.setEgr k v).exc = s.exc := rfl
@[simp] theorem setEgr_cals (s : State) (k : Nat) (v : Egress) : (s.setEgr k v).cals = s.cals := rfl
@[simp] theorem setEgr_clk (s : State) (k : Nat) (v : Egress) : (s.setEgr k v).clk = s.clk := rfl
@[simp] theorem setEgr_inputs (s : State) (k : Nat) (v : Egress) : (s.setEgr k v).inputs = s.inputs := rfl
@[simp] theorem setEgr_mrw (s : State) (k : Nat) (v : Egress) : (s.setEgr k v).mrw = s.mrw := rfl
@[simp] theorem setEgr_banks (s : State) (k : Nat) (v : Egress) : (s.setEgr k v).banks = s.banks := rfl
@[simp] theorem setEgr_paths (s : State) (k : Nat) (v : Egress) : (s.setEgr k v).paths = s.paths := rfl
@[simp] theorem setEgr_kt (s : State) (k : Nat) (v : Egress) : (s.setEgr k v).kt = s.kt := rfl
@[simp] theorem setEgr_dems (s : State) (k : Nat) (v : Egress) : (s.setEgr k v).dems = s.dems := rfl
@[simp] theorem setEgr_slots (s : State) (k : Nat) (v : Egress) : (s.setEgr k v).slots = s.slots := rfl
@[simp] theorem setEgr_decs (s : State) (k : Nat) (v : Egress) : (s.setEgr k v).decs = s.decs := rfl
@[simp] theorem setEgr_fol (s : State) (k : Nat) (v : Egress) : (s.setEgr k v).fol = s.fol := rfl
@[simp] theorem setEgr_saps (s : State) (k : Nat) (v : Egress) : (s.setEgr k v).saps = s.saps := rfl
@[simp] theorem setEgr_rel (s : State) (k : Nat) (v : Egress) : (s.setEgr k v).rel = s.rel := rfl
@[simp] theorem setEgr_streams (s : State) (k : Nat) (v : Egress) : (s.setEgr k v).streams = s.streams := rfl
@[simp] theorem setEgr_pci (s : State) (k : Nat) (v : Egress) : (s.setEgr k v).pci = s.pci := rfl
@[simp] theorem setEgr_slk (s : State) (k : Nat) (v : Egress) : (s.setEgr k v).slk = s.slk := rfl
@[simp] theorem setEgr_sec (s : State) (k : Nat) (v : Egress) : (s.setEgr k v).sec = s.sec := rfl
@[simp] theorem setEgr_fab (s : State) (k : Nat) (v : Egress) : (s.setEgr k v).fab = s.fab := rfl
@[simp] theorem setEgr_cores (s : State) (k : Nat) (v : Egress) : (s.setEgr k v).cores = s.cores := rfl
@[simp] theorem setEgr_win (s : State) (k : Nat) (v : Egress) : (s.setEgr k v).win = s.win := rfl

/-! ## setTx -/

@[simp] theorem setTx_pending (s : State) (k : Nat) (v : NetTx) : (s.setTx k v).pending = s.pending := rfl
@[simp] theorem setTx_regs (s : State) (k : Nat) (v : NetTx) : (s.setTx k v).regs = s.regs := rfl
@[simp] theorem setTx_hiLatch (s : State) (k : Nat) (v : NetTx) : (s.setTx k v).hiLatch = s.hiLatch := rfl
@[simp] theorem setTx_syscnt (s : State) (k : Nat) (v : NetTx) : (s.setTx k v).syscnt = s.syscnt := rfl
@[simp] theorem setTx_counting (s : State) (k : Nat) (v : NetTx) : (s.setTx k v).counting = s.counting := rfl
@[simp] theorem setTx_freeCtr (s : State) (k : Nat) (v : NetTx) : (s.setTx k v).freeCtr = s.freeCtr := rfl
@[simp] theorem setTx_pins (s : State) (k : Nat) (v : NetTx) : (s.setTx k v).pins = s.pins := rfl
@[simp] theorem setTx_pwr (s : State) (k : Nat) (v : NetTx) : (s.setTx k v).pwr = s.pwr := rfl
@[simp] theorem setTx_boot (s : State) (k : Nat) (v : NetTx) : (s.setTx k v).boot = s.boot := rfl
@[simp] theorem setTx_hb (s : State) (k : Nat) (v : NetTx) : (s.setTx k v).hb = s.hb := rfl
@[simp] theorem setTx_coal (s : State) (k : Nat) (v : NetTx) : (s.setTx k v).coal = s.coal := rfl
@[simp] theorem setTx_msiQueue (s : State) (k : Nat) (v : NetTx) : (s.setTx k v).msiQueue = s.msiQueue := rfl
@[simp] theorem setTx_recs (s : State) (k : Nat) (v : NetTx) : (s.setTx k v).recs = s.recs := rfl
@[simp] theorem setTx_obs (s : State) (k : Nat) (v : NetTx) : (s.setTx k v).obs = s.obs := rfl
@[simp] theorem setTx_mem (s : State) (k : Nat) (v : NetTx) : (s.setTx k v).mem = s.mem := rfl
@[simp] theorem setTx_snp (s : State) (k : Nat) (v : NetTx) : (s.setTx k v).snp = s.snp := rfl
@[simp] theorem setTx_exc (s : State) (k : Nat) (v : NetTx) : (s.setTx k v).exc = s.exc := rfl
@[simp] theorem setTx_cals (s : State) (k : Nat) (v : NetTx) : (s.setTx k v).cals = s.cals := rfl
@[simp] theorem setTx_clk (s : State) (k : Nat) (v : NetTx) : (s.setTx k v).clk = s.clk := rfl
@[simp] theorem setTx_inputs (s : State) (k : Nat) (v : NetTx) : (s.setTx k v).inputs = s.inputs := rfl
@[simp] theorem setTx_mrw (s : State) (k : Nat) (v : NetTx) : (s.setTx k v).mrw = s.mrw := rfl
@[simp] theorem setTx_banks (s : State) (k : Nat) (v : NetTx) : (s.setTx k v).banks = s.banks := rfl
@[simp] theorem setTx_paths (s : State) (k : Nat) (v : NetTx) : (s.setTx k v).paths = s.paths := rfl
@[simp] theorem setTx_kt (s : State) (k : Nat) (v : NetTx) : (s.setTx k v).kt = s.kt := rfl
@[simp] theorem setTx_dems (s : State) (k : Nat) (v : NetTx) : (s.setTx k v).dems = s.dems := rfl
@[simp] theorem setTx_slots (s : State) (k : Nat) (v : NetTx) : (s.setTx k v).slots = s.slots := rfl
@[simp] theorem setTx_decs (s : State) (k : Nat) (v : NetTx) : (s.setTx k v).decs = s.decs := rfl
@[simp] theorem setTx_fol (s : State) (k : Nat) (v : NetTx) : (s.setTx k v).fol = s.fol := rfl
@[simp] theorem setTx_saps (s : State) (k : Nat) (v : NetTx) : (s.setTx k v).saps = s.saps := rfl
@[simp] theorem setTx_rel (s : State) (k : Nat) (v : NetTx) : (s.setTx k v).rel = s.rel := rfl
@[simp] theorem setTx_streams (s : State) (k : Nat) (v : NetTx) : (s.setTx k v).streams = s.streams := rfl
@[simp] theorem setTx_pci (s : State) (k : Nat) (v : NetTx) : (s.setTx k v).pci = s.pci := rfl
@[simp] theorem setTx_slk (s : State) (k : Nat) (v : NetTx) : (s.setTx k v).slk = s.slk := rfl
@[simp] theorem setTx_sec (s : State) (k : Nat) (v : NetTx) : (s.setTx k v).sec = s.sec := rfl
@[simp] theorem setTx_fab (s : State) (k : Nat) (v : NetTx) : (s.setTx k v).fab = s.fab := rfl
@[simp] theorem setTx_cores (s : State) (k : Nat) (v : NetTx) : (s.setTx k v).cores = s.cores := rfl
@[simp] theorem setTx_win (s : State) (k : Nat) (v : NetTx) : (s.setTx k v).win = s.win := rfl

/-! ## setRx -/

@[simp] theorem setRx_pending (s : State) (k : Nat) (v : NetRx) : (s.setRx k v).pending = s.pending := rfl
@[simp] theorem setRx_regs (s : State) (k : Nat) (v : NetRx) : (s.setRx k v).regs = s.regs := rfl
@[simp] theorem setRx_hiLatch (s : State) (k : Nat) (v : NetRx) : (s.setRx k v).hiLatch = s.hiLatch := rfl
@[simp] theorem setRx_syscnt (s : State) (k : Nat) (v : NetRx) : (s.setRx k v).syscnt = s.syscnt := rfl
@[simp] theorem setRx_counting (s : State) (k : Nat) (v : NetRx) : (s.setRx k v).counting = s.counting := rfl
@[simp] theorem setRx_freeCtr (s : State) (k : Nat) (v : NetRx) : (s.setRx k v).freeCtr = s.freeCtr := rfl
@[simp] theorem setRx_pins (s : State) (k : Nat) (v : NetRx) : (s.setRx k v).pins = s.pins := rfl
@[simp] theorem setRx_pwr (s : State) (k : Nat) (v : NetRx) : (s.setRx k v).pwr = s.pwr := rfl
@[simp] theorem setRx_boot (s : State) (k : Nat) (v : NetRx) : (s.setRx k v).boot = s.boot := rfl
@[simp] theorem setRx_hb (s : State) (k : Nat) (v : NetRx) : (s.setRx k v).hb = s.hb := rfl
@[simp] theorem setRx_coal (s : State) (k : Nat) (v : NetRx) : (s.setRx k v).coal = s.coal := rfl
@[simp] theorem setRx_msiQueue (s : State) (k : Nat) (v : NetRx) : (s.setRx k v).msiQueue = s.msiQueue := rfl
@[simp] theorem setRx_recs (s : State) (k : Nat) (v : NetRx) : (s.setRx k v).recs = s.recs := rfl
@[simp] theorem setRx_obs (s : State) (k : Nat) (v : NetRx) : (s.setRx k v).obs = s.obs := rfl
@[simp] theorem setRx_mem (s : State) (k : Nat) (v : NetRx) : (s.setRx k v).mem = s.mem := rfl
@[simp] theorem setRx_snp (s : State) (k : Nat) (v : NetRx) : (s.setRx k v).snp = s.snp := rfl
@[simp] theorem setRx_exc (s : State) (k : Nat) (v : NetRx) : (s.setRx k v).exc = s.exc := rfl
@[simp] theorem setRx_cals (s : State) (k : Nat) (v : NetRx) : (s.setRx k v).cals = s.cals := rfl
@[simp] theorem setRx_clk (s : State) (k : Nat) (v : NetRx) : (s.setRx k v).clk = s.clk := rfl
@[simp] theorem setRx_inputs (s : State) (k : Nat) (v : NetRx) : (s.setRx k v).inputs = s.inputs := rfl
@[simp] theorem setRx_mrw (s : State) (k : Nat) (v : NetRx) : (s.setRx k v).mrw = s.mrw := rfl
@[simp] theorem setRx_banks (s : State) (k : Nat) (v : NetRx) : (s.setRx k v).banks = s.banks := rfl
@[simp] theorem setRx_paths (s : State) (k : Nat) (v : NetRx) : (s.setRx k v).paths = s.paths := rfl
@[simp] theorem setRx_kt (s : State) (k : Nat) (v : NetRx) : (s.setRx k v).kt = s.kt := rfl
@[simp] theorem setRx_dems (s : State) (k : Nat) (v : NetRx) : (s.setRx k v).dems = s.dems := rfl
@[simp] theorem setRx_slots (s : State) (k : Nat) (v : NetRx) : (s.setRx k v).slots = s.slots := rfl
@[simp] theorem setRx_decs (s : State) (k : Nat) (v : NetRx) : (s.setRx k v).decs = s.decs := rfl
@[simp] theorem setRx_fol (s : State) (k : Nat) (v : NetRx) : (s.setRx k v).fol = s.fol := rfl
@[simp] theorem setRx_saps (s : State) (k : Nat) (v : NetRx) : (s.setRx k v).saps = s.saps := rfl
@[simp] theorem setRx_rel (s : State) (k : Nat) (v : NetRx) : (s.setRx k v).rel = s.rel := rfl
@[simp] theorem setRx_streams (s : State) (k : Nat) (v : NetRx) : (s.setRx k v).streams = s.streams := rfl
@[simp] theorem setRx_pci (s : State) (k : Nat) (v : NetRx) : (s.setRx k v).pci = s.pci := rfl
@[simp] theorem setRx_slk (s : State) (k : Nat) (v : NetRx) : (s.setRx k v).slk = s.slk := rfl
@[simp] theorem setRx_sec (s : State) (k : Nat) (v : NetRx) : (s.setRx k v).sec = s.sec := rfl
@[simp] theorem setRx_fab (s : State) (k : Nat) (v : NetRx) : (s.setRx k v).fab = s.fab := rfl
@[simp] theorem setRx_cores (s : State) (k : Nat) (v : NetRx) : (s.setRx k v).cores = s.cores := rfl
@[simp] theorem setRx_win (s : State) (k : Nat) (v : NetRx) : (s.setRx k v).win = s.win := rfl

/-! ## setIq -/

@[simp] theorem setIq_pending (s : State) (k : Nat) (v : NetIq) : (s.setIq k v).pending = s.pending := rfl
@[simp] theorem setIq_regs (s : State) (k : Nat) (v : NetIq) : (s.setIq k v).regs = s.regs := rfl
@[simp] theorem setIq_hiLatch (s : State) (k : Nat) (v : NetIq) : (s.setIq k v).hiLatch = s.hiLatch := rfl
@[simp] theorem setIq_syscnt (s : State) (k : Nat) (v : NetIq) : (s.setIq k v).syscnt = s.syscnt := rfl
@[simp] theorem setIq_counting (s : State) (k : Nat) (v : NetIq) : (s.setIq k v).counting = s.counting := rfl
@[simp] theorem setIq_freeCtr (s : State) (k : Nat) (v : NetIq) : (s.setIq k v).freeCtr = s.freeCtr := rfl
@[simp] theorem setIq_pins (s : State) (k : Nat) (v : NetIq) : (s.setIq k v).pins = s.pins := rfl
@[simp] theorem setIq_pwr (s : State) (k : Nat) (v : NetIq) : (s.setIq k v).pwr = s.pwr := rfl
@[simp] theorem setIq_boot (s : State) (k : Nat) (v : NetIq) : (s.setIq k v).boot = s.boot := rfl
@[simp] theorem setIq_hb (s : State) (k : Nat) (v : NetIq) : (s.setIq k v).hb = s.hb := rfl
@[simp] theorem setIq_coal (s : State) (k : Nat) (v : NetIq) : (s.setIq k v).coal = s.coal := rfl
@[simp] theorem setIq_msiQueue (s : State) (k : Nat) (v : NetIq) : (s.setIq k v).msiQueue = s.msiQueue := rfl
@[simp] theorem setIq_recs (s : State) (k : Nat) (v : NetIq) : (s.setIq k v).recs = s.recs := rfl
@[simp] theorem setIq_obs (s : State) (k : Nat) (v : NetIq) : (s.setIq k v).obs = s.obs := rfl
@[simp] theorem setIq_mem (s : State) (k : Nat) (v : NetIq) : (s.setIq k v).mem = s.mem := rfl
@[simp] theorem setIq_snp (s : State) (k : Nat) (v : NetIq) : (s.setIq k v).snp = s.snp := rfl
@[simp] theorem setIq_exc (s : State) (k : Nat) (v : NetIq) : (s.setIq k v).exc = s.exc := rfl
@[simp] theorem setIq_cals (s : State) (k : Nat) (v : NetIq) : (s.setIq k v).cals = s.cals := rfl
@[simp] theorem setIq_clk (s : State) (k : Nat) (v : NetIq) : (s.setIq k v).clk = s.clk := rfl
@[simp] theorem setIq_inputs (s : State) (k : Nat) (v : NetIq) : (s.setIq k v).inputs = s.inputs := rfl
@[simp] theorem setIq_mrw (s : State) (k : Nat) (v : NetIq) : (s.setIq k v).mrw = s.mrw := rfl
@[simp] theorem setIq_banks (s : State) (k : Nat) (v : NetIq) : (s.setIq k v).banks = s.banks := rfl
@[simp] theorem setIq_paths (s : State) (k : Nat) (v : NetIq) : (s.setIq k v).paths = s.paths := rfl
@[simp] theorem setIq_kt (s : State) (k : Nat) (v : NetIq) : (s.setIq k v).kt = s.kt := rfl
@[simp] theorem setIq_dems (s : State) (k : Nat) (v : NetIq) : (s.setIq k v).dems = s.dems := rfl
@[simp] theorem setIq_slots (s : State) (k : Nat) (v : NetIq) : (s.setIq k v).slots = s.slots := rfl
@[simp] theorem setIq_decs (s : State) (k : Nat) (v : NetIq) : (s.setIq k v).decs = s.decs := rfl
@[simp] theorem setIq_fol (s : State) (k : Nat) (v : NetIq) : (s.setIq k v).fol = s.fol := rfl
@[simp] theorem setIq_saps (s : State) (k : Nat) (v : NetIq) : (s.setIq k v).saps = s.saps := rfl
@[simp] theorem setIq_rel (s : State) (k : Nat) (v : NetIq) : (s.setIq k v).rel = s.rel := rfl
@[simp] theorem setIq_streams (s : State) (k : Nat) (v : NetIq) : (s.setIq k v).streams = s.streams := rfl
@[simp] theorem setIq_pci (s : State) (k : Nat) (v : NetIq) : (s.setIq k v).pci = s.pci := rfl
@[simp] theorem setIq_slk (s : State) (k : Nat) (v : NetIq) : (s.setIq k v).slk = s.slk := rfl
@[simp] theorem setIq_sec (s : State) (k : Nat) (v : NetIq) : (s.setIq k v).sec = s.sec := rfl
@[simp] theorem setIq_fab (s : State) (k : Nat) (v : NetIq) : (s.setIq k v).fab = s.fab := rfl
@[simp] theorem setIq_cores (s : State) (k : Nat) (v : NetIq) : (s.setIq k v).cores = s.cores := rfl
@[simp] theorem setIq_win (s : State) (k : Nat) (v : NetIq) : (s.setIq k v).win = s.win := rfl

/-! ## setPtp -/

@[simp] theorem setPtp_pending (s : State) (v : Ptp) : (s.setPtp v).pending = s.pending := rfl
@[simp] theorem setPtp_regs (s : State) (v : Ptp) : (s.setPtp v).regs = s.regs := rfl
@[simp] theorem setPtp_hiLatch (s : State) (v : Ptp) : (s.setPtp v).hiLatch = s.hiLatch := rfl
@[simp] theorem setPtp_syscnt (s : State) (v : Ptp) : (s.setPtp v).syscnt = s.syscnt := rfl
@[simp] theorem setPtp_counting (s : State) (v : Ptp) : (s.setPtp v).counting = s.counting := rfl
@[simp] theorem setPtp_freeCtr (s : State) (v : Ptp) : (s.setPtp v).freeCtr = s.freeCtr := rfl
@[simp] theorem setPtp_pins (s : State) (v : Ptp) : (s.setPtp v).pins = s.pins := rfl
@[simp] theorem setPtp_pwr (s : State) (v : Ptp) : (s.setPtp v).pwr = s.pwr := rfl
@[simp] theorem setPtp_boot (s : State) (v : Ptp) : (s.setPtp v).boot = s.boot := rfl
@[simp] theorem setPtp_hb (s : State) (v : Ptp) : (s.setPtp v).hb = s.hb := rfl
@[simp] theorem setPtp_coal (s : State) (v : Ptp) : (s.setPtp v).coal = s.coal := rfl
@[simp] theorem setPtp_msiQueue (s : State) (v : Ptp) : (s.setPtp v).msiQueue = s.msiQueue := rfl
@[simp] theorem setPtp_recs (s : State) (v : Ptp) : (s.setPtp v).recs = s.recs := rfl
@[simp] theorem setPtp_obs (s : State) (v : Ptp) : (s.setPtp v).obs = s.obs := rfl
@[simp] theorem setPtp_mem (s : State) (v : Ptp) : (s.setPtp v).mem = s.mem := rfl
@[simp] theorem setPtp_snp (s : State) (v : Ptp) : (s.setPtp v).snp = s.snp := rfl
@[simp] theorem setPtp_exc (s : State) (v : Ptp) : (s.setPtp v).exc = s.exc := rfl
@[simp] theorem setPtp_cals (s : State) (v : Ptp) : (s.setPtp v).cals = s.cals := rfl
@[simp] theorem setPtp_clk (s : State) (v : Ptp) : (s.setPtp v).clk = s.clk := rfl
@[simp] theorem setPtp_inputs (s : State) (v : Ptp) : (s.setPtp v).inputs = s.inputs := rfl
@[simp] theorem setPtp_mrw (s : State) (v : Ptp) : (s.setPtp v).mrw = s.mrw := rfl
@[simp] theorem setPtp_banks (s : State) (v : Ptp) : (s.setPtp v).banks = s.banks := rfl
@[simp] theorem setPtp_paths (s : State) (v : Ptp) : (s.setPtp v).paths = s.paths := rfl
@[simp] theorem setPtp_kt (s : State) (v : Ptp) : (s.setPtp v).kt = s.kt := rfl
@[simp] theorem setPtp_dems (s : State) (v : Ptp) : (s.setPtp v).dems = s.dems := rfl
@[simp] theorem setPtp_slots (s : State) (v : Ptp) : (s.setPtp v).slots = s.slots := rfl
@[simp] theorem setPtp_decs (s : State) (v : Ptp) : (s.setPtp v).decs = s.decs := rfl
@[simp] theorem setPtp_fol (s : State) (v : Ptp) : (s.setPtp v).fol = s.fol := rfl
@[simp] theorem setPtp_saps (s : State) (v : Ptp) : (s.setPtp v).saps = s.saps := rfl
@[simp] theorem setPtp_rel (s : State) (v : Ptp) : (s.setPtp v).rel = s.rel := rfl
@[simp] theorem setPtp_streams (s : State) (v : Ptp) : (s.setPtp v).streams = s.streams := rfl
@[simp] theorem setPtp_pci (s : State) (v : Ptp) : (s.setPtp v).pci = s.pci := rfl
@[simp] theorem setPtp_slk (s : State) (v : Ptp) : (s.setPtp v).slk = s.slk := rfl
@[simp] theorem setPtp_sec (s : State) (v : Ptp) : (s.setPtp v).sec = s.sec := rfl
@[simp] theorem setPtp_fab (s : State) (v : Ptp) : (s.setPtp v).fab = s.fab := rfl
@[simp] theorem setPtp_cores (s : State) (v : Ptp) : (s.setPtp v).cores = s.cores := rfl
@[simp] theorem setPtp_win (s : State) (v : Ptp) : (s.setPtp v).win = s.win := rfl

/-! ## setDma -/

@[simp] theorem setDma_pending (s : State) (k : Nat) (v : Dma) : (s.setDma k v).pending = s.pending := rfl
@[simp] theorem setDma_regs (s : State) (k : Nat) (v : Dma) : (s.setDma k v).regs = s.regs := rfl
@[simp] theorem setDma_hiLatch (s : State) (k : Nat) (v : Dma) : (s.setDma k v).hiLatch = s.hiLatch := rfl
@[simp] theorem setDma_syscnt (s : State) (k : Nat) (v : Dma) : (s.setDma k v).syscnt = s.syscnt := rfl
@[simp] theorem setDma_counting (s : State) (k : Nat) (v : Dma) : (s.setDma k v).counting = s.counting := rfl
@[simp] theorem setDma_freeCtr (s : State) (k : Nat) (v : Dma) : (s.setDma k v).freeCtr = s.freeCtr := rfl
@[simp] theorem setDma_pins (s : State) (k : Nat) (v : Dma) : (s.setDma k v).pins = s.pins := rfl
@[simp] theorem setDma_pwr (s : State) (k : Nat) (v : Dma) : (s.setDma k v).pwr = s.pwr := rfl
@[simp] theorem setDma_boot (s : State) (k : Nat) (v : Dma) : (s.setDma k v).boot = s.boot := rfl
@[simp] theorem setDma_hb (s : State) (k : Nat) (v : Dma) : (s.setDma k v).hb = s.hb := rfl
@[simp] theorem setDma_coal (s : State) (k : Nat) (v : Dma) : (s.setDma k v).coal = s.coal := rfl
@[simp] theorem setDma_msiQueue (s : State) (k : Nat) (v : Dma) : (s.setDma k v).msiQueue = s.msiQueue := rfl
@[simp] theorem setDma_recs (s : State) (k : Nat) (v : Dma) : (s.setDma k v).recs = s.recs := rfl
@[simp] theorem setDma_obs (s : State) (k : Nat) (v : Dma) : (s.setDma k v).obs = s.obs := rfl
@[simp] theorem setDma_mem (s : State) (k : Nat) (v : Dma) : (s.setDma k v).mem = s.mem := rfl
@[simp] theorem setDma_snp (s : State) (k : Nat) (v : Dma) : (s.setDma k v).snp = s.snp := rfl
@[simp] theorem setDma_exc (s : State) (k : Nat) (v : Dma) : (s.setDma k v).exc = s.exc := rfl
@[simp] theorem setDma_cals (s : State) (k : Nat) (v : Dma) : (s.setDma k v).cals = s.cals := rfl
@[simp] theorem setDma_clk (s : State) (k : Nat) (v : Dma) : (s.setDma k v).clk = s.clk := rfl
@[simp] theorem setDma_inputs (s : State) (k : Nat) (v : Dma) : (s.setDma k v).inputs = s.inputs := rfl
@[simp] theorem setDma_mrw (s : State) (k : Nat) (v : Dma) : (s.setDma k v).mrw = s.mrw := rfl
@[simp] theorem setDma_banks (s : State) (k : Nat) (v : Dma) : (s.setDma k v).banks = s.banks := rfl
@[simp] theorem setDma_paths (s : State) (k : Nat) (v : Dma) : (s.setDma k v).paths = s.paths := rfl
@[simp] theorem setDma_kt (s : State) (k : Nat) (v : Dma) : (s.setDma k v).kt = s.kt := rfl
@[simp] theorem setDma_dems (s : State) (k : Nat) (v : Dma) : (s.setDma k v).dems = s.dems := rfl
@[simp] theorem setDma_slots (s : State) (k : Nat) (v : Dma) : (s.setDma k v).slots = s.slots := rfl
@[simp] theorem setDma_decs (s : State) (k : Nat) (v : Dma) : (s.setDma k v).decs = s.decs := rfl
@[simp] theorem setDma_fol (s : State) (k : Nat) (v : Dma) : (s.setDma k v).fol = s.fol := rfl
@[simp] theorem setDma_saps (s : State) (k : Nat) (v : Dma) : (s.setDma k v).saps = s.saps := rfl
@[simp] theorem setDma_rel (s : State) (k : Nat) (v : Dma) : (s.setDma k v).rel = s.rel := rfl
@[simp] theorem setDma_streams (s : State) (k : Nat) (v : Dma) : (s.setDma k v).streams = s.streams := rfl
@[simp] theorem setDma_net (s : State) (k : Nat) (v : Dma) : (s.setDma k v).net = s.net := rfl
@[simp] theorem setDma_slk (s : State) (k : Nat) (v : Dma) : (s.setDma k v).slk = s.slk := rfl
@[simp] theorem setDma_sec (s : State) (k : Nat) (v : Dma) : (s.setDma k v).sec = s.sec := rfl
@[simp] theorem setDma_fab (s : State) (k : Nat) (v : Dma) : (s.setDma k v).fab = s.fab := rfl
@[simp] theorem setDma_cores (s : State) (k : Nat) (v : Dma) : (s.setDma k v).cores = s.cores := rfl
@[simp] theorem setDma_win (s : State) (k : Nat) (v : Dma) : (s.setDma k v).win = s.win := rfl

/-! ## setPod -/

@[simp] theorem setPod_pending (s : State) (k : Nat) (v : Pod) : (s.setPod k v).pending = s.pending := rfl
@[simp] theorem setPod_regs (s : State) (k : Nat) (v : Pod) : (s.setPod k v).regs = s.regs := rfl
@[simp] theorem setPod_hiLatch (s : State) (k : Nat) (v : Pod) : (s.setPod k v).hiLatch = s.hiLatch := rfl
@[simp] theorem setPod_syscnt (s : State) (k : Nat) (v : Pod) : (s.setPod k v).syscnt = s.syscnt := rfl
@[simp] theorem setPod_counting (s : State) (k : Nat) (v : Pod) : (s.setPod k v).counting = s.counting := rfl
@[simp] theorem setPod_freeCtr (s : State) (k : Nat) (v : Pod) : (s.setPod k v).freeCtr = s.freeCtr := rfl
@[simp] theorem setPod_pins (s : State) (k : Nat) (v : Pod) : (s.setPod k v).pins = s.pins := rfl
@[simp] theorem setPod_pwr (s : State) (k : Nat) (v : Pod) : (s.setPod k v).pwr = s.pwr := rfl
@[simp] theorem setPod_boot (s : State) (k : Nat) (v : Pod) : (s.setPod k v).boot = s.boot := rfl
@[simp] theorem setPod_hb (s : State) (k : Nat) (v : Pod) : (s.setPod k v).hb = s.hb := rfl
@[simp] theorem setPod_coal (s : State) (k : Nat) (v : Pod) : (s.setPod k v).coal = s.coal := rfl
@[simp] theorem setPod_msiQueue (s : State) (k : Nat) (v : Pod) : (s.setPod k v).msiQueue = s.msiQueue := rfl
@[simp] theorem setPod_recs (s : State) (k : Nat) (v : Pod) : (s.setPod k v).recs = s.recs := rfl
@[simp] theorem setPod_obs (s : State) (k : Nat) (v : Pod) : (s.setPod k v).obs = s.obs := rfl
@[simp] theorem setPod_mem (s : State) (k : Nat) (v : Pod) : (s.setPod k v).mem = s.mem := rfl
@[simp] theorem setPod_snp (s : State) (k : Nat) (v : Pod) : (s.setPod k v).snp = s.snp := rfl
@[simp] theorem setPod_exc (s : State) (k : Nat) (v : Pod) : (s.setPod k v).exc = s.exc := rfl
@[simp] theorem setPod_cals (s : State) (k : Nat) (v : Pod) : (s.setPod k v).cals = s.cals := rfl
@[simp] theorem setPod_clk (s : State) (k : Nat) (v : Pod) : (s.setPod k v).clk = s.clk := rfl
@[simp] theorem setPod_inputs (s : State) (k : Nat) (v : Pod) : (s.setPod k v).inputs = s.inputs := rfl
@[simp] theorem setPod_mrw (s : State) (k : Nat) (v : Pod) : (s.setPod k v).mrw = s.mrw := rfl
@[simp] theorem setPod_banks (s : State) (k : Nat) (v : Pod) : (s.setPod k v).banks = s.banks := rfl
@[simp] theorem setPod_paths (s : State) (k : Nat) (v : Pod) : (s.setPod k v).paths = s.paths := rfl
@[simp] theorem setPod_kt (s : State) (k : Nat) (v : Pod) : (s.setPod k v).kt = s.kt := rfl
@[simp] theorem setPod_dems (s : State) (k : Nat) (v : Pod) : (s.setPod k v).dems = s.dems := rfl
@[simp] theorem setPod_slots (s : State) (k : Nat) (v : Pod) : (s.setPod k v).slots = s.slots := rfl
@[simp] theorem setPod_decs (s : State) (k : Nat) (v : Pod) : (s.setPod k v).decs = s.decs := rfl
@[simp] theorem setPod_fol (s : State) (k : Nat) (v : Pod) : (s.setPod k v).fol = s.fol := rfl
@[simp] theorem setPod_saps (s : State) (k : Nat) (v : Pod) : (s.setPod k v).saps = s.saps := rfl
@[simp] theorem setPod_rel (s : State) (k : Nat) (v : Pod) : (s.setPod k v).rel = s.rel := rfl
@[simp] theorem setPod_streams (s : State) (k : Nat) (v : Pod) : (s.setPod k v).streams = s.streams := rfl
@[simp] theorem setPod_net (s : State) (k : Nat) (v : Pod) : (s.setPod k v).net = s.net := rfl
@[simp] theorem setPod_pci (s : State) (k : Nat) (v : Pod) : (s.setPod k v).pci = s.pci := rfl
@[simp] theorem setPod_slk (s : State) (k : Nat) (v : Pod) : (s.setPod k v).slk = s.slk := rfl
@[simp] theorem setPod_sec (s : State) (k : Nat) (v : Pod) : (s.setPod k v).sec = s.sec := rfl
@[simp] theorem setPod_cores (s : State) (k : Nat) (v : Pod) : (s.setPod k v).cores = s.cores := rfl
@[simp] theorem setPod_win (s : State) (k : Nat) (v : Pod) : (s.setPod k v).win = s.win := rfl

/-! ## setLane -/

@[simp] theorem setLane_pending (s : State) (k : Nat) (v : Lane) : (s.setLane k v).pending = s.pending := rfl
@[simp] theorem setLane_regs (s : State) (k : Nat) (v : Lane) : (s.setLane k v).regs = s.regs := rfl
@[simp] theorem setLane_hiLatch (s : State) (k : Nat) (v : Lane) : (s.setLane k v).hiLatch = s.hiLatch := rfl
@[simp] theorem setLane_syscnt (s : State) (k : Nat) (v : Lane) : (s.setLane k v).syscnt = s.syscnt := rfl
@[simp] theorem setLane_counting (s : State) (k : Nat) (v : Lane) : (s.setLane k v).counting = s.counting := rfl
@[simp] theorem setLane_freeCtr (s : State) (k : Nat) (v : Lane) : (s.setLane k v).freeCtr = s.freeCtr := rfl
@[simp] theorem setLane_pins (s : State) (k : Nat) (v : Lane) : (s.setLane k v).pins = s.pins := rfl
@[simp] theorem setLane_pwr (s : State) (k : Nat) (v : Lane) : (s.setLane k v).pwr = s.pwr := rfl
@[simp] theorem setLane_boot (s : State) (k : Nat) (v : Lane) : (s.setLane k v).boot = s.boot := rfl
@[simp] theorem setLane_hb (s : State) (k : Nat) (v : Lane) : (s.setLane k v).hb = s.hb := rfl
@[simp] theorem setLane_coal (s : State) (k : Nat) (v : Lane) : (s.setLane k v).coal = s.coal := rfl
@[simp] theorem setLane_msiQueue (s : State) (k : Nat) (v : Lane) : (s.setLane k v).msiQueue = s.msiQueue := rfl
@[simp] theorem setLane_recs (s : State) (k : Nat) (v : Lane) : (s.setLane k v).recs = s.recs := rfl
@[simp] theorem setLane_obs (s : State) (k : Nat) (v : Lane) : (s.setLane k v).obs = s.obs := rfl
@[simp] theorem setLane_mem (s : State) (k : Nat) (v : Lane) : (s.setLane k v).mem = s.mem := rfl
@[simp] theorem setLane_snp (s : State) (k : Nat) (v : Lane) : (s.setLane k v).snp = s.snp := rfl
@[simp] theorem setLane_cals (s : State) (k : Nat) (v : Lane) : (s.setLane k v).cals = s.cals := rfl
@[simp] theorem setLane_clk (s : State) (k : Nat) (v : Lane) : (s.setLane k v).clk = s.clk := rfl
@[simp] theorem setLane_inputs (s : State) (k : Nat) (v : Lane) : (s.setLane k v).inputs = s.inputs := rfl
@[simp] theorem setLane_mrw (s : State) (k : Nat) (v : Lane) : (s.setLane k v).mrw = s.mrw := rfl
@[simp] theorem setLane_banks (s : State) (k : Nat) (v : Lane) : (s.setLane k v).banks = s.banks := rfl
@[simp] theorem setLane_paths (s : State) (k : Nat) (v : Lane) : (s.setLane k v).paths = s.paths := rfl
@[simp] theorem setLane_kt (s : State) (k : Nat) (v : Lane) : (s.setLane k v).kt = s.kt := rfl
@[simp] theorem setLane_dems (s : State) (k : Nat) (v : Lane) : (s.setLane k v).dems = s.dems := rfl
@[simp] theorem setLane_slots (s : State) (k : Nat) (v : Lane) : (s.setLane k v).slots = s.slots := rfl
@[simp] theorem setLane_decs (s : State) (k : Nat) (v : Lane) : (s.setLane k v).decs = s.decs := rfl
@[simp] theorem setLane_fol (s : State) (k : Nat) (v : Lane) : (s.setLane k v).fol = s.fol := rfl
@[simp] theorem setLane_saps (s : State) (k : Nat) (v : Lane) : (s.setLane k v).saps = s.saps := rfl
@[simp] theorem setLane_rel (s : State) (k : Nat) (v : Lane) : (s.setLane k v).rel = s.rel := rfl
@[simp] theorem setLane_streams (s : State) (k : Nat) (v : Lane) : (s.setLane k v).streams = s.streams := rfl
@[simp] theorem setLane_net (s : State) (k : Nat) (v : Lane) : (s.setLane k v).net = s.net := rfl
@[simp] theorem setLane_pci (s : State) (k : Nat) (v : Lane) : (s.setLane k v).pci = s.pci := rfl
@[simp] theorem setLane_slk (s : State) (k : Nat) (v : Lane) : (s.setLane k v).slk = s.slk := rfl
@[simp] theorem setLane_sec (s : State) (k : Nat) (v : Lane) : (s.setLane k v).sec = s.sec := rfl
@[simp] theorem setLane_fab (s : State) (k : Nat) (v : Lane) : (s.setLane k v).fab = s.fab := rfl
@[simp] theorem setLane_cores (s : State) (k : Nat) (v : Lane) : (s.setLane k v).cores = s.cores := rfl
@[simp] theorem setLane_win (s : State) (k : Nat) (v : Lane) : (s.setLane k v).win = s.win := rfl

/-! ## setCal -/

@[simp] theorem setCal_pending (s : State) (k : Nat) (v : Cal) : (s.setCal k v).pending = s.pending := rfl
@[simp] theorem setCal_regs (s : State) (k : Nat) (v : Cal) : (s.setCal k v).regs = s.regs := rfl
@[simp] theorem setCal_hiLatch (s : State) (k : Nat) (v : Cal) : (s.setCal k v).hiLatch = s.hiLatch := rfl
@[simp] theorem setCal_syscnt (s : State) (k : Nat) (v : Cal) : (s.setCal k v).syscnt = s.syscnt := rfl
@[simp] theorem setCal_counting (s : State) (k : Nat) (v : Cal) : (s.setCal k v).counting = s.counting := rfl
@[simp] theorem setCal_freeCtr (s : State) (k : Nat) (v : Cal) : (s.setCal k v).freeCtr = s.freeCtr := rfl
@[simp] theorem setCal_pins (s : State) (k : Nat) (v : Cal) : (s.setCal k v).pins = s.pins := rfl
@[simp] theorem setCal_pwr (s : State) (k : Nat) (v : Cal) : (s.setCal k v).pwr = s.pwr := rfl
@[simp] theorem setCal_boot (s : State) (k : Nat) (v : Cal) : (s.setCal k v).boot = s.boot := rfl
@[simp] theorem setCal_hb (s : State) (k : Nat) (v : Cal) : (s.setCal k v).hb = s.hb := rfl
@[simp] theorem setCal_coal (s : State) (k : Nat) (v : Cal) : (s.setCal k v).coal = s.coal := rfl
@[simp] theorem setCal_msiQueue (s : State) (k : Nat) (v : Cal) : (s.setCal k v).msiQueue = s.msiQueue := rfl
@[simp] theorem setCal_recs (s : State) (k : Nat) (v : Cal) : (s.setCal k v).recs = s.recs := rfl
@[simp] theorem setCal_obs (s : State) (k : Nat) (v : Cal) : (s.setCal k v).obs = s.obs := rfl
@[simp] theorem setCal_mem (s : State) (k : Nat) (v : Cal) : (s.setCal k v).mem = s.mem := rfl
@[simp] theorem setCal_snp (s : State) (k : Nat) (v : Cal) : (s.setCal k v).snp = s.snp := rfl
@[simp] theorem setCal_exc (s : State) (k : Nat) (v : Cal) : (s.setCal k v).exc = s.exc := rfl
@[simp] theorem setCal_clk (s : State) (k : Nat) (v : Cal) : (s.setCal k v).clk = s.clk := rfl
@[simp] theorem setCal_inputs (s : State) (k : Nat) (v : Cal) : (s.setCal k v).inputs = s.inputs := rfl
@[simp] theorem setCal_mrw (s : State) (k : Nat) (v : Cal) : (s.setCal k v).mrw = s.mrw := rfl
@[simp] theorem setCal_banks (s : State) (k : Nat) (v : Cal) : (s.setCal k v).banks = s.banks := rfl
@[simp] theorem setCal_paths (s : State) (k : Nat) (v : Cal) : (s.setCal k v).paths = s.paths := rfl
@[simp] theorem setCal_kt (s : State) (k : Nat) (v : Cal) : (s.setCal k v).kt = s.kt := rfl
@[simp] theorem setCal_dems (s : State) (k : Nat) (v : Cal) : (s.setCal k v).dems = s.dems := rfl
@[simp] theorem setCal_slots (s : State) (k : Nat) (v : Cal) : (s.setCal k v).slots = s.slots := rfl
@[simp] theorem setCal_decs (s : State) (k : Nat) (v : Cal) : (s.setCal k v).decs = s.decs := rfl
@[simp] theorem setCal_fol (s : State) (k : Nat) (v : Cal) : (s.setCal k v).fol = s.fol := rfl
@[simp] theorem setCal_saps (s : State) (k : Nat) (v : Cal) : (s.setCal k v).saps = s.saps := rfl
@[simp] theorem setCal_rel (s : State) (k : Nat) (v : Cal) : (s.setCal k v).rel = s.rel := rfl
@[simp] theorem setCal_streams (s : State) (k : Nat) (v : Cal) : (s.setCal k v).streams = s.streams := rfl
@[simp] theorem setCal_net (s : State) (k : Nat) (v : Cal) : (s.setCal k v).net = s.net := rfl
@[simp] theorem setCal_pci (s : State) (k : Nat) (v : Cal) : (s.setCal k v).pci = s.pci := rfl
@[simp] theorem setCal_slk (s : State) (k : Nat) (v : Cal) : (s.setCal k v).slk = s.slk := rfl
@[simp] theorem setCal_sec (s : State) (k : Nat) (v : Cal) : (s.setCal k v).sec = s.sec := rfl
@[simp] theorem setCal_fab (s : State) (k : Nat) (v : Cal) : (s.setCal k v).fab = s.fab := rfl
@[simp] theorem setCal_cores (s : State) (k : Nat) (v : Cal) : (s.setCal k v).cores = s.cores := rfl
@[simp] theorem setCal_win (s : State) (k : Nat) (v : Cal) : (s.setCal k v).win = s.win := rfl

/-! ## setCoal -/

@[simp] theorem setCoal_pending (s : State) (g r : Nat) (v : Coal) : (s.setCoal g r v).pending = s.pending := rfl
@[simp] theorem setCoal_regs (s : State) (g r : Nat) (v : Coal) : (s.setCoal g r v).regs = s.regs := rfl
@[simp] theorem setCoal_hiLatch (s : State) (g r : Nat) (v : Coal) : (s.setCoal g r v).hiLatch = s.hiLatch := rfl
@[simp] theorem setCoal_syscnt (s : State) (g r : Nat) (v : Coal) : (s.setCoal g r v).syscnt = s.syscnt := rfl
@[simp] theorem setCoal_counting (s : State) (g r : Nat) (v : Coal) : (s.setCoal g r v).counting = s.counting := rfl
@[simp] theorem setCoal_freeCtr (s : State) (g r : Nat) (v : Coal) : (s.setCoal g r v).freeCtr = s.freeCtr := rfl
@[simp] theorem setCoal_pins (s : State) (g r : Nat) (v : Coal) : (s.setCoal g r v).pins = s.pins := rfl
@[simp] theorem setCoal_pwr (s : State) (g r : Nat) (v : Coal) : (s.setCoal g r v).pwr = s.pwr := rfl
@[simp] theorem setCoal_boot (s : State) (g r : Nat) (v : Coal) : (s.setCoal g r v).boot = s.boot := rfl
@[simp] theorem setCoal_hb (s : State) (g r : Nat) (v : Coal) : (s.setCoal g r v).hb = s.hb := rfl
@[simp] theorem setCoal_msiQueue (s : State) (g r : Nat) (v : Coal) : (s.setCoal g r v).msiQueue = s.msiQueue := rfl
@[simp] theorem setCoal_recs (s : State) (g r : Nat) (v : Coal) : (s.setCoal g r v).recs = s.recs := rfl
@[simp] theorem setCoal_obs (s : State) (g r : Nat) (v : Coal) : (s.setCoal g r v).obs = s.obs := rfl
@[simp] theorem setCoal_mem (s : State) (g r : Nat) (v : Coal) : (s.setCoal g r v).mem = s.mem := rfl
@[simp] theorem setCoal_snp (s : State) (g r : Nat) (v : Coal) : (s.setCoal g r v).snp = s.snp := rfl
@[simp] theorem setCoal_exc (s : State) (g r : Nat) (v : Coal) : (s.setCoal g r v).exc = s.exc := rfl
@[simp] theorem setCoal_cals (s : State) (g r : Nat) (v : Coal) : (s.setCoal g r v).cals = s.cals := rfl
@[simp] theorem setCoal_clk (s : State) (g r : Nat) (v : Coal) : (s.setCoal g r v).clk = s.clk := rfl
@[simp] theorem setCoal_inputs (s : State) (g r : Nat) (v : Coal) : (s.setCoal g r v).inputs = s.inputs := rfl
@[simp] theorem setCoal_mrw (s : State) (g r : Nat) (v : Coal) : (s.setCoal g r v).mrw = s.mrw := rfl
@[simp] theorem setCoal_banks (s : State) (g r : Nat) (v : Coal) : (s.setCoal g r v).banks = s.banks := rfl
@[simp] theorem setCoal_paths (s : State) (g r : Nat) (v : Coal) : (s.setCoal g r v).paths = s.paths := rfl
@[simp] theorem setCoal_kt (s : State) (g r : Nat) (v : Coal) : (s.setCoal g r v).kt = s.kt := rfl
@[simp] theorem setCoal_dems (s : State) (g r : Nat) (v : Coal) : (s.setCoal g r v).dems = s.dems := rfl
@[simp] theorem setCoal_slots (s : State) (g r : Nat) (v : Coal) : (s.setCoal g r v).slots = s.slots := rfl
@[simp] theorem setCoal_decs (s : State) (g r : Nat) (v : Coal) : (s.setCoal g r v).decs = s.decs := rfl
@[simp] theorem setCoal_fol (s : State) (g r : Nat) (v : Coal) : (s.setCoal g r v).fol = s.fol := rfl
@[simp] theorem setCoal_saps (s : State) (g r : Nat) (v : Coal) : (s.setCoal g r v).saps = s.saps := rfl
@[simp] theorem setCoal_rel (s : State) (g r : Nat) (v : Coal) : (s.setCoal g r v).rel = s.rel := rfl
@[simp] theorem setCoal_streams (s : State) (g r : Nat) (v : Coal) : (s.setCoal g r v).streams = s.streams := rfl
@[simp] theorem setCoal_net (s : State) (g r : Nat) (v : Coal) : (s.setCoal g r v).net = s.net := rfl
@[simp] theorem setCoal_pci (s : State) (g r : Nat) (v : Coal) : (s.setCoal g r v).pci = s.pci := rfl
@[simp] theorem setCoal_slk (s : State) (g r : Nat) (v : Coal) : (s.setCoal g r v).slk = s.slk := rfl
@[simp] theorem setCoal_sec (s : State) (g r : Nat) (v : Coal) : (s.setCoal g r v).sec = s.sec := rfl
@[simp] theorem setCoal_fab (s : State) (g r : Nat) (v : Coal) : (s.setCoal g r v).fab = s.fab := rfl
@[simp] theorem setCoal_cores (s : State) (g r : Nat) (v : Coal) : (s.setCoal g r v).cores = s.cores := rfl
@[simp] theorem setCoal_win (s : State) (g r : Nat) (v : Coal) : (s.setCoal g r v).win = s.win := rfl

/-! ## setSlEntry -/

@[simp] theorem setSlEntry_pending (s : State) (k : Nat) (v : SlEntry) : (s.setSlEntry k v).pending = s.pending := rfl
@[simp] theorem setSlEntry_regs (s : State) (k : Nat) (v : SlEntry) : (s.setSlEntry k v).regs = s.regs := rfl
@[simp] theorem setSlEntry_hiLatch (s : State) (k : Nat) (v : SlEntry) : (s.setSlEntry k v).hiLatch = s.hiLatch := rfl
@[simp] theorem setSlEntry_syscnt (s : State) (k : Nat) (v : SlEntry) : (s.setSlEntry k v).syscnt = s.syscnt := rfl
@[simp] theorem setSlEntry_counting (s : State) (k : Nat) (v : SlEntry) : (s.setSlEntry k v).counting = s.counting := rfl
@[simp] theorem setSlEntry_freeCtr (s : State) (k : Nat) (v : SlEntry) : (s.setSlEntry k v).freeCtr = s.freeCtr := rfl
@[simp] theorem setSlEntry_pins (s : State) (k : Nat) (v : SlEntry) : (s.setSlEntry k v).pins = s.pins := rfl
@[simp] theorem setSlEntry_pwr (s : State) (k : Nat) (v : SlEntry) : (s.setSlEntry k v).pwr = s.pwr := rfl
@[simp] theorem setSlEntry_boot (s : State) (k : Nat) (v : SlEntry) : (s.setSlEntry k v).boot = s.boot := rfl
@[simp] theorem setSlEntry_hb (s : State) (k : Nat) (v : SlEntry) : (s.setSlEntry k v).hb = s.hb := rfl
@[simp] theorem setSlEntry_coal (s : State) (k : Nat) (v : SlEntry) : (s.setSlEntry k v).coal = s.coal := rfl
@[simp] theorem setSlEntry_msiQueue (s : State) (k : Nat) (v : SlEntry) : (s.setSlEntry k v).msiQueue = s.msiQueue := rfl
@[simp] theorem setSlEntry_recs (s : State) (k : Nat) (v : SlEntry) : (s.setSlEntry k v).recs = s.recs := rfl
@[simp] theorem setSlEntry_obs (s : State) (k : Nat) (v : SlEntry) : (s.setSlEntry k v).obs = s.obs := rfl
@[simp] theorem setSlEntry_mem (s : State) (k : Nat) (v : SlEntry) : (s.setSlEntry k v).mem = s.mem := rfl
@[simp] theorem setSlEntry_snp (s : State) (k : Nat) (v : SlEntry) : (s.setSlEntry k v).snp = s.snp := rfl
@[simp] theorem setSlEntry_exc (s : State) (k : Nat) (v : SlEntry) : (s.setSlEntry k v).exc = s.exc := rfl
@[simp] theorem setSlEntry_cals (s : State) (k : Nat) (v : SlEntry) : (s.setSlEntry k v).cals = s.cals := rfl
@[simp] theorem setSlEntry_clk (s : State) (k : Nat) (v : SlEntry) : (s.setSlEntry k v).clk = s.clk := rfl
@[simp] theorem setSlEntry_inputs (s : State) (k : Nat) (v : SlEntry) : (s.setSlEntry k v).inputs = s.inputs := rfl
@[simp] theorem setSlEntry_mrw (s : State) (k : Nat) (v : SlEntry) : (s.setSlEntry k v).mrw = s.mrw := rfl
@[simp] theorem setSlEntry_banks (s : State) (k : Nat) (v : SlEntry) : (s.setSlEntry k v).banks = s.banks := rfl
@[simp] theorem setSlEntry_paths (s : State) (k : Nat) (v : SlEntry) : (s.setSlEntry k v).paths = s.paths := rfl
@[simp] theorem setSlEntry_kt (s : State) (k : Nat) (v : SlEntry) : (s.setSlEntry k v).kt = s.kt := rfl
@[simp] theorem setSlEntry_dems (s : State) (k : Nat) (v : SlEntry) : (s.setSlEntry k v).dems = s.dems := rfl
@[simp] theorem setSlEntry_slots (s : State) (k : Nat) (v : SlEntry) : (s.setSlEntry k v).slots = s.slots := rfl
@[simp] theorem setSlEntry_decs (s : State) (k : Nat) (v : SlEntry) : (s.setSlEntry k v).decs = s.decs := rfl
@[simp] theorem setSlEntry_fol (s : State) (k : Nat) (v : SlEntry) : (s.setSlEntry k v).fol = s.fol := rfl
@[simp] theorem setSlEntry_saps (s : State) (k : Nat) (v : SlEntry) : (s.setSlEntry k v).saps = s.saps := rfl
@[simp] theorem setSlEntry_rel (s : State) (k : Nat) (v : SlEntry) : (s.setSlEntry k v).rel = s.rel := rfl
@[simp] theorem setSlEntry_streams (s : State) (k : Nat) (v : SlEntry) : (s.setSlEntry k v).streams = s.streams := rfl
@[simp] theorem setSlEntry_net (s : State) (k : Nat) (v : SlEntry) : (s.setSlEntry k v).net = s.net := rfl
@[simp] theorem setSlEntry_pci (s : State) (k : Nat) (v : SlEntry) : (s.setSlEntry k v).pci = s.pci := rfl
@[simp] theorem setSlEntry_sec (s : State) (k : Nat) (v : SlEntry) : (s.setSlEntry k v).sec = s.sec := rfl
@[simp] theorem setSlEntry_fab (s : State) (k : Nat) (v : SlEntry) : (s.setSlEntry k v).fab = s.fab := rfl
@[simp] theorem setSlEntry_cores (s : State) (k : Nat) (v : SlEntry) : (s.setSlEntry k v).cores = s.cores := rfl
@[simp] theorem setSlEntry_win (s : State) (k : Nat) (v : SlEntry) : (s.setSlEntry k v).win = s.win := rfl

/-! ## setCore -/

@[simp] theorem setCore_pending (s : State) (k : Nat) (v : Core) : (s.setCore k v).pending = s.pending := rfl
@[simp] theorem setCore_regs (s : State) (k : Nat) (v : Core) : (s.setCore k v).regs = s.regs := rfl
@[simp] theorem setCore_hiLatch (s : State) (k : Nat) (v : Core) : (s.setCore k v).hiLatch = s.hiLatch := rfl
@[simp] theorem setCore_syscnt (s : State) (k : Nat) (v : Core) : (s.setCore k v).syscnt = s.syscnt := rfl
@[simp] theorem setCore_counting (s : State) (k : Nat) (v : Core) : (s.setCore k v).counting = s.counting := rfl
@[simp] theorem setCore_freeCtr (s : State) (k : Nat) (v : Core) : (s.setCore k v).freeCtr = s.freeCtr := rfl
@[simp] theorem setCore_pins (s : State) (k : Nat) (v : Core) : (s.setCore k v).pins = s.pins := rfl
@[simp] theorem setCore_pwr (s : State) (k : Nat) (v : Core) : (s.setCore k v).pwr = s.pwr := rfl
@[simp] theorem setCore_boot (s : State) (k : Nat) (v : Core) : (s.setCore k v).boot = s.boot := rfl
@[simp] theorem setCore_hb (s : State) (k : Nat) (v : Core) : (s.setCore k v).hb = s.hb := rfl
@[simp] theorem setCore_coal (s : State) (k : Nat) (v : Core) : (s.setCore k v).coal = s.coal := rfl
@[simp] theorem setCore_msiQueue (s : State) (k : Nat) (v : Core) : (s.setCore k v).msiQueue = s.msiQueue := rfl
@[simp] theorem setCore_recs (s : State) (k : Nat) (v : Core) : (s.setCore k v).recs = s.recs := rfl
@[simp] theorem setCore_obs (s : State) (k : Nat) (v : Core) : (s.setCore k v).obs = s.obs := rfl
@[simp] theorem setCore_mem (s : State) (k : Nat) (v : Core) : (s.setCore k v).mem = s.mem := rfl
@[simp] theorem setCore_snp (s : State) (k : Nat) (v : Core) : (s.setCore k v).snp = s.snp := rfl
@[simp] theorem setCore_exc (s : State) (k : Nat) (v : Core) : (s.setCore k v).exc = s.exc := rfl
@[simp] theorem setCore_cals (s : State) (k : Nat) (v : Core) : (s.setCore k v).cals = s.cals := rfl
@[simp] theorem setCore_clk (s : State) (k : Nat) (v : Core) : (s.setCore k v).clk = s.clk := rfl
@[simp] theorem setCore_inputs (s : State) (k : Nat) (v : Core) : (s.setCore k v).inputs = s.inputs := rfl
@[simp] theorem setCore_mrw (s : State) (k : Nat) (v : Core) : (s.setCore k v).mrw = s.mrw := rfl
@[simp] theorem setCore_banks (s : State) (k : Nat) (v : Core) : (s.setCore k v).banks = s.banks := rfl
@[simp] theorem setCore_paths (s : State) (k : Nat) (v : Core) : (s.setCore k v).paths = s.paths := rfl
@[simp] theorem setCore_kt (s : State) (k : Nat) (v : Core) : (s.setCore k v).kt = s.kt := rfl
@[simp] theorem setCore_dems (s : State) (k : Nat) (v : Core) : (s.setCore k v).dems = s.dems := rfl
@[simp] theorem setCore_slots (s : State) (k : Nat) (v : Core) : (s.setCore k v).slots = s.slots := rfl
@[simp] theorem setCore_decs (s : State) (k : Nat) (v : Core) : (s.setCore k v).decs = s.decs := rfl
@[simp] theorem setCore_fol (s : State) (k : Nat) (v : Core) : (s.setCore k v).fol = s.fol := rfl
@[simp] theorem setCore_saps (s : State) (k : Nat) (v : Core) : (s.setCore k v).saps = s.saps := rfl
@[simp] theorem setCore_rel (s : State) (k : Nat) (v : Core) : (s.setCore k v).rel = s.rel := rfl
@[simp] theorem setCore_streams (s : State) (k : Nat) (v : Core) : (s.setCore k v).streams = s.streams := rfl
@[simp] theorem setCore_net (s : State) (k : Nat) (v : Core) : (s.setCore k v).net = s.net := rfl
@[simp] theorem setCore_pci (s : State) (k : Nat) (v : Core) : (s.setCore k v).pci = s.pci := rfl
@[simp] theorem setCore_slk (s : State) (k : Nat) (v : Core) : (s.setCore k v).slk = s.slk := rfl
@[simp] theorem setCore_sec (s : State) (k : Nat) (v : Core) : (s.setCore k v).sec = s.sec := rfl
@[simp] theorem setCore_fab (s : State) (k : Nat) (v : Core) : (s.setCore k v).fab = s.fab := rfl
@[simp] theorem setCore_win (s : State) (k : Nat) (v : Core) : (s.setCore k v).win = s.win := rfl

/-! ## advance: only SYSCNT moves -/

@[simp] theorem advance_pending (s : State) (n : Nat) : (s.advance n).pending = s.pending := by
  unfold State.advance; split <;> rfl
@[simp] theorem advance_regs (s : State) (n : Nat) : (s.advance n).regs = s.regs := by
  unfold State.advance; split <;> rfl
@[simp] theorem advance_hiLatch (s : State) (n : Nat) : (s.advance n).hiLatch = s.hiLatch := by
  unfold State.advance; split <;> rfl
@[simp] theorem advance_counting (s : State) (n : Nat) : (s.advance n).counting = s.counting := by
  unfold State.advance; split <;> rfl
@[simp] theorem advance_freeCtr (s : State) (n : Nat) : (s.advance n).freeCtr = s.freeCtr := by
  unfold State.advance; split <;> rfl
@[simp] theorem advance_pins (s : State) (n : Nat) : (s.advance n).pins = s.pins := by
  unfold State.advance; split <;> rfl
@[simp] theorem advance_pwr (s : State) (n : Nat) : (s.advance n).pwr = s.pwr := by
  unfold State.advance; split <;> rfl
@[simp] theorem advance_boot (s : State) (n : Nat) : (s.advance n).boot = s.boot := by
  unfold State.advance; split <;> rfl
@[simp] theorem advance_hb (s : State) (n : Nat) : (s.advance n).hb = s.hb := by
  unfold State.advance; split <;> rfl
@[simp] theorem advance_coal (s : State) (n : Nat) : (s.advance n).coal = s.coal := by
  unfold State.advance; split <;> rfl
@[simp] theorem advance_msiQueue (s : State) (n : Nat) : (s.advance n).msiQueue = s.msiQueue := by
  unfold State.advance; split <;> rfl
@[simp] theorem advance_recs (s : State) (n : Nat) : (s.advance n).recs = s.recs := by
  unfold State.advance; split <;> rfl
@[simp] theorem advance_obs (s : State) (n : Nat) : (s.advance n).obs = s.obs := by
  unfold State.advance; split <;> rfl
@[simp] theorem advance_mem (s : State) (n : Nat) : (s.advance n).mem = s.mem := by
  unfold State.advance; split <;> rfl
@[simp] theorem advance_snp (s : State) (n : Nat) : (s.advance n).snp = s.snp := by
  unfold State.advance; split <;> rfl
@[simp] theorem advance_exc (s : State) (n : Nat) : (s.advance n).exc = s.exc := by
  unfold State.advance; split <;> rfl
@[simp] theorem advance_cals (s : State) (n : Nat) : (s.advance n).cals = s.cals := by
  unfold State.advance; split <;> rfl
@[simp] theorem advance_clk (s : State) (n : Nat) : (s.advance n).clk = s.clk := by
  unfold State.advance; split <;> rfl
@[simp] theorem advance_inputs (s : State) (n : Nat) : (s.advance n).inputs = s.inputs := by
  unfold State.advance; split <;> rfl
@[simp] theorem advance_mrw (s : State) (n : Nat) : (s.advance n).mrw = s.mrw := by
  unfold State.advance; split <;> rfl
@[simp] theorem advance_banks (s : State) (n : Nat) : (s.advance n).banks = s.banks := by
  unfold State.advance; split <;> rfl
@[simp] theorem advance_paths (s : State) (n : Nat) : (s.advance n).paths = s.paths := by
  unfold State.advance; split <;> rfl
@[simp] theorem advance_kt (s : State) (n : Nat) : (s.advance n).kt = s.kt := by
  unfold State.advance; split <;> rfl
@[simp] theorem advance_dems (s : State) (n : Nat) : (s.advance n).dems = s.dems := by
  unfold State.advance; split <;> rfl
@[simp] theorem advance_slots (s : State) (n : Nat) : (s.advance n).slots = s.slots := by
  unfold State.advance; split <;> rfl
@[simp] theorem advance_decs (s : State) (n : Nat) : (s.advance n).decs = s.decs := by
  unfold State.advance; split <;> rfl
@[simp] theorem advance_fol (s : State) (n : Nat) : (s.advance n).fol = s.fol := by
  unfold State.advance; split <;> rfl
@[simp] theorem advance_saps (s : State) (n : Nat) : (s.advance n).saps = s.saps := by
  unfold State.advance; split <;> rfl
@[simp] theorem advance_rel (s : State) (n : Nat) : (s.advance n).rel = s.rel := by
  unfold State.advance; split <;> rfl
@[simp] theorem advance_streams (s : State) (n : Nat) : (s.advance n).streams = s.streams := by
  unfold State.advance; split <;> rfl
@[simp] theorem advance_net (s : State) (n : Nat) : (s.advance n).net = s.net := by
  unfold State.advance; split <;> rfl
@[simp] theorem advance_pci (s : State) (n : Nat) : (s.advance n).pci = s.pci := by
  unfold State.advance; split <;> rfl
@[simp] theorem advance_slk (s : State) (n : Nat) : (s.advance n).slk = s.slk := by
  unfold State.advance; split <;> rfl
@[simp] theorem advance_sec (s : State) (n : Nat) : (s.advance n).sec = s.sec := by
  unfold State.advance; split <;> rfl
@[simp] theorem advance_fab (s : State) (n : Nat) : (s.advance n).fab = s.fab := by
  unfold State.advance; split <;> rfl
@[simp] theorem advance_cores (s : State) (n : Nat) : (s.advance n).cores = s.cores := by
  unfold State.advance; split <;> rfl
@[simp] theorem advance_win (s : State) (n : Nat) : (s.advance n).win = s.win := by
  unfold State.advance; split <;> rfl

/-! ## clockTick: only SYSCNT moves -/

@[simp] theorem clockTick_pending (s : State) : s.clockTick.pending = s.pending := by
  unfold State.clockTick; split <;> rfl
@[simp] theorem clockTick_regs (s : State) : s.clockTick.regs = s.regs := by
  unfold State.clockTick; split <;> rfl
@[simp] theorem clockTick_hiLatch (s : State) : s.clockTick.hiLatch = s.hiLatch := by
  unfold State.clockTick; split <;> rfl
@[simp] theorem clockTick_counting (s : State) : s.clockTick.counting = s.counting := by
  unfold State.clockTick; split <;> rfl
@[simp] theorem clockTick_freeCtr (s : State) : s.clockTick.freeCtr = s.freeCtr := by
  unfold State.clockTick; split <;> rfl
@[simp] theorem clockTick_pins (s : State) : s.clockTick.pins = s.pins := by
  unfold State.clockTick; split <;> rfl
@[simp] theorem clockTick_pwr (s : State) : s.clockTick.pwr = s.pwr := by
  unfold State.clockTick; split <;> rfl
@[simp] theorem clockTick_boot (s : State) : s.clockTick.boot = s.boot := by
  unfold State.clockTick; split <;> rfl
@[simp] theorem clockTick_hb (s : State) : s.clockTick.hb = s.hb := by
  unfold State.clockTick; split <;> rfl
@[simp] theorem clockTick_coal (s : State) : s.clockTick.coal = s.coal := by
  unfold State.clockTick; split <;> rfl
@[simp] theorem clockTick_msiQueue (s : State) : s.clockTick.msiQueue = s.msiQueue := by
  unfold State.clockTick; split <;> rfl
@[simp] theorem clockTick_recs (s : State) : s.clockTick.recs = s.recs := by
  unfold State.clockTick; split <;> rfl
@[simp] theorem clockTick_obs (s : State) : s.clockTick.obs = s.obs := by
  unfold State.clockTick; split <;> rfl
@[simp] theorem clockTick_mem (s : State) : s.clockTick.mem = s.mem := by
  unfold State.clockTick; split <;> rfl
@[simp] theorem clockTick_snp (s : State) : s.clockTick.snp = s.snp := by
  unfold State.clockTick; split <;> rfl
@[simp] theorem clockTick_exc (s : State) : s.clockTick.exc = s.exc := by
  unfold State.clockTick; split <;> rfl
@[simp] theorem clockTick_cals (s : State) : s.clockTick.cals = s.cals := by
  unfold State.clockTick; split <;> rfl
@[simp] theorem clockTick_clk (s : State) : s.clockTick.clk = s.clk := by
  unfold State.clockTick; split <;> rfl
@[simp] theorem clockTick_inputs (s : State) : s.clockTick.inputs = s.inputs := by
  unfold State.clockTick; split <;> rfl
@[simp] theorem clockTick_mrw (s : State) : s.clockTick.mrw = s.mrw := by
  unfold State.clockTick; split <;> rfl
@[simp] theorem clockTick_banks (s : State) : s.clockTick.banks = s.banks := by
  unfold State.clockTick; split <;> rfl
@[simp] theorem clockTick_paths (s : State) : s.clockTick.paths = s.paths := by
  unfold State.clockTick; split <;> rfl
@[simp] theorem clockTick_kt (s : State) : s.clockTick.kt = s.kt := by
  unfold State.clockTick; split <;> rfl
@[simp] theorem clockTick_dems (s : State) : s.clockTick.dems = s.dems := by
  unfold State.clockTick; split <;> rfl
@[simp] theorem clockTick_slots (s : State) : s.clockTick.slots = s.slots := by
  unfold State.clockTick; split <;> rfl
@[simp] theorem clockTick_decs (s : State) : s.clockTick.decs = s.decs := by
  unfold State.clockTick; split <;> rfl
@[simp] theorem clockTick_fol (s : State) : s.clockTick.fol = s.fol := by
  unfold State.clockTick; split <;> rfl
@[simp] theorem clockTick_saps (s : State) : s.clockTick.saps = s.saps := by
  unfold State.clockTick; split <;> rfl
@[simp] theorem clockTick_rel (s : State) : s.clockTick.rel = s.rel := by
  unfold State.clockTick; split <;> rfl
@[simp] theorem clockTick_streams (s : State) : s.clockTick.streams = s.streams := by
  unfold State.clockTick; split <;> rfl
@[simp] theorem clockTick_net (s : State) : s.clockTick.net = s.net := by
  unfold State.clockTick; split <;> rfl
@[simp] theorem clockTick_pci (s : State) : s.clockTick.pci = s.pci := by
  unfold State.clockTick; split <;> rfl
@[simp] theorem clockTick_slk (s : State) : s.clockTick.slk = s.slk := by
  unfold State.clockTick; split <;> rfl
@[simp] theorem clockTick_sec (s : State) : s.clockTick.sec = s.sec := by
  unfold State.clockTick; split <;> rfl
@[simp] theorem clockTick_fab (s : State) : s.clockTick.fab = s.fab := by
  unfold State.clockTick; split <;> rfl
@[simp] theorem clockTick_cores (s : State) : s.clockTick.cores = s.cores := by
  unfold State.clockTick; split <;> rfl
@[simp] theorem clockTick_win (s : State) : s.clockTick.win = s.win := by
  unfold State.clockTick; split <;> rfl

/-! ## The tables of parts -/

theorem input_setInput (s : State) (k j : Nat) (v : Input) : (s.setInput k v).input j = if j = k then v else s.input j :=
  sget_sset _ _ _ _ _
@[simp] theorem input_setInput_same (s : State) (k : Nat) (v : Input) : (s.setInput k v).input k = v := by
  simp [input_setInput]
theorem bank_setBank (s : State) (k j : Nat) (v : Bank) : (s.setBank k v).bank j = if j = k then v else s.bank j :=
  sget_sset _ _ _ _ _
@[simp] theorem bank_setBank_same (s : State) (k : Nat) (v : Bank) : (s.setBank k v).bank k = v := by
  simp [bank_setBank]
theorem path_setPath (s : State) (k j : Nat) (v : Path) : (s.setPath k v).path j = if j = k then v else s.path j :=
  sget_sset _ _ _ _ _
@[simp] theorem path_setPath_same (s : State) (k : Nat) (v : Path) : (s.setPath k v).path k = v := by
  simp [path_setPath]
theorem dem_setDem (s : State) (k j : Nat) (v : Dem) : (s.setDem k v).dem j = if j = k then v else s.dem j :=
  sget_sset _ _ _ _ _
@[simp] theorem dem_setDem_same (s : State) (k : Nat) (v : Dem) : (s.setDem k v).dem k = v := by
  simp [dem_setDem]
theorem slot_setSlot (s : State) (k j : Nat) (v : Slot) : (s.setSlot k v).slot j = if j = k then v else s.slot j :=
  sget_sset _ _ _ _ _
@[simp] theorem slot_setSlot_same (s : State) (k : Nat) (v : Slot) : (s.setSlot k v).slot k = v := by
  simp [slot_setSlot]
theorem decoder_setDecoder (s : State) (k j : Nat) (v : Decoder) : (s.setDecoder k v).decoder j = if j = k then v else s.decoder j :=
  sget_sset _ _ _ _ _
@[simp] theorem decoder_setDecoder_same (s : State) (k : Nat) (v : Decoder) : (s.setDecoder k v).decoder k = v := by
  simp [decoder_setDecoder]
theorem prog_setProg (s : State) (k j : Nat) (v : Prog) : (s.setProg k v).prog j = if j = k then v else s.prog j :=
  sget_sset _ _ _ _ _
@[simp] theorem prog_setProg_same (s : State) (k : Nat) (v : Prog) : (s.setProg k v).prog k = v := by
  simp [prog_setProg]
theorem sap_setSap (s : State) (k j : Nat) (v : Sap) : (s.setSap k v).sap j = if j = k then v else s.sap j :=
  sget_sset _ _ _ _ _
@[simp] theorem sap_setSap_same (s : State) (k : Nat) (v : Sap) : (s.setSap k v).sap k = v := by
  simp [sap_setSap]
theorem tuner_setTuner (s : State) (k j : Nat) (v : Tuner) : (s.setTuner k v).tuner j = if j = k then v else s.tuner j :=
  sget_sset _ _ _ _ _
@[simp] theorem tuner_setTuner_same (s : State) (k : Nat) (v : Tuner) : (s.setTuner k v).tuner k = v := by
  simp [tuner_setTuner]
theorem egr_setEgr (s : State) (k j : Nat) (v : Egress) : (s.setEgr k v).egr j = if j = k then v else s.egr j :=
  sget_sset _ _ _ _ _
@[simp] theorem egr_setEgr_same (s : State) (k : Nat) (v : Egress) : (s.setEgr k v).egr k = v := by
  simp [egr_setEgr]
theorem tx_setTx (s : State) (k j : Nat) (v : NetTx) : (s.setTx k v).tx j = if j = k then v else s.tx j :=
  sget_sset _ _ _ _ _
@[simp] theorem tx_setTx_same (s : State) (k : Nat) (v : NetTx) : (s.setTx k v).tx k = v := by
  simp [tx_setTx]
theorem rx_setRx (s : State) (k j : Nat) (v : NetRx) : (s.setRx k v).rx j = if j = k then v else s.rx j :=
  sget_sset _ _ _ _ _
@[simp] theorem rx_setRx_same (s : State) (k : Nat) (v : NetRx) : (s.setRx k v).rx k = v := by
  simp [rx_setRx]
theorem iq_setIq (s : State) (k j : Nat) (v : NetIq) : (s.setIq k v).iq j = if j = k then v else s.iq j :=
  sget_sset _ _ _ _ _
@[simp] theorem iq_setIq_same (s : State) (k : Nat) (v : NetIq) : (s.setIq k v).iq k = v := by
  simp [iq_setIq]
theorem dma_setDma (s : State) (k j : Nat) (v : Dma) : (s.setDma k v).dma j = if j = k then v else s.dma j :=
  sget_sset _ _ _ _ _
@[simp] theorem dma_setDma_same (s : State) (k : Nat) (v : Dma) : (s.setDma k v).dma k = v := by
  simp [dma_setDma]
theorem pod_setPod (s : State) (k j : Nat) (v : Pod) : (s.setPod k v).pod j = if j = k then v else s.pod j :=
  sget_sset _ _ _ _ _
@[simp] theorem pod_setPod_same (s : State) (k : Nat) (v : Pod) : (s.setPod k v).pod k = v := by
  simp [pod_setPod]
theorem lane_setLane (s : State) (k j : Nat) (v : Lane) : (s.setLane k v).lane j = if j = k then v else s.lane j :=
  sget_sset _ _ _ _ _
@[simp] theorem lane_setLane_same (s : State) (k : Nat) (v : Lane) : (s.setLane k v).lane k = v := by
  simp [lane_setLane]
theorem cal_setCal (s : State) (k j : Nat) (v : Cal) : (s.setCal k v).cal j = if j = k then v else s.cal j :=
  sget_sset _ _ _ _ _
@[simp] theorem cal_setCal_same (s : State) (k : Nat) (v : Cal) : (s.setCal k v).cal k = v := by
  simp [cal_setCal]
theorem slEntry_setSlEntry (s : State) (k j : Nat) (v : SlEntry) : (s.setSlEntry k v).slEntry j = if j = k then v else s.slEntry j :=
  sget_sset _ _ _ _ _
@[simp] theorem slEntry_setSlEntry_same (s : State) (k : Nat) (v : SlEntry) : (s.setSlEntry k v).slEntry k = v := by
  simp [slEntry_setSlEntry]
theorem core_setCore (s : State) (k j : Nat) (v : Core) : (s.setCore k v).core j = if j = k then v else s.core j :=
  sget_sset _ _ _ _ _
@[simp] theorem core_setCore_same (s : State) (k : Nat) (v : Core) : (s.setCore k v).core k = v := by
  simp [core_setCore]

/-! ## Reading registers through an update that writes none -/

@[simp] theorem store_rd (s : State) (a : Nat) (l : List Byte) (x : Nat) : (s.store a l).rd x = s.rd x := rfl
@[simp] theorem store_getF (s : State) (a : Nat) (l : List Byte) (x : Fld) : (s.store a l).getF x = s.getF x := rfl
@[simp] theorem store_flag (s : State) (a : Nat) (l : List Byte) (x : Fld) : (s.store a l).flag x = s.flag x := rfl
@[simp] theorem setInput_rd (s : State) (k : Nat) (v : Input) (x : Nat) : (s.setInput k v).rd x = s.rd x := rfl
@[simp] theorem setInput_getF (s : State) (k : Nat) (v : Input) (x : Fld) : (s.setInput k v).getF x = s.getF x := rfl
@[simp] theorem setInput_flag (s : State) (k : Nat) (v : Input) (x : Fld) : (s.setInput k v).flag x = s.flag x := rfl
@[simp] theorem setBank_rd (s : State) (k : Nat) (v : Bank) (x : Nat) : (s.setBank k v).rd x = s.rd x := rfl
@[simp] theorem setBank_getF (s : State) (k : Nat) (v : Bank) (x : Fld) : (s.setBank k v).getF x = s.getF x := rfl
@[simp] theorem setBank_flag (s : State) (k : Nat) (v : Bank) (x : Fld) : (s.setBank k v).flag x = s.flag x := rfl
@[simp] theorem setPath_rd (s : State) (k : Nat) (v : Path) (x : Nat) : (s.setPath k v).rd x = s.rd x := rfl
@[simp] theorem setPath_getF (s : State) (k : Nat) (v : Path) (x : Fld) : (s.setPath k v).getF x = s.getF x := rfl
@[simp] theorem setPath_flag (s : State) (k : Nat) (v : Path) (x : Fld) : (s.setPath k v).flag x = s.flag x := rfl
@[simp] theorem setDem_rd (s : State) (k : Nat) (v : Dem) (x : Nat) : (s.setDem k v).rd x = s.rd x := rfl
@[simp] theorem setDem_getF (s : State) (k : Nat) (v : Dem) (x : Fld) : (s.setDem k v).getF x = s.getF x := rfl
@[simp] theorem setDem_flag (s : State) (k : Nat) (v : Dem) (x : Fld) : (s.setDem k v).flag x = s.flag x := rfl
@[simp] theorem setSlot_rd (s : State) (k : Nat) (v : Slot) (x : Nat) : (s.setSlot k v).rd x = s.rd x := rfl
@[simp] theorem setSlot_getF (s : State) (k : Nat) (v : Slot) (x : Fld) : (s.setSlot k v).getF x = s.getF x := rfl
@[simp] theorem setSlot_flag (s : State) (k : Nat) (v : Slot) (x : Fld) : (s.setSlot k v).flag x = s.flag x := rfl
@[simp] theorem setDecoder_rd (s : State) (k : Nat) (v : Decoder) (x : Nat) : (s.setDecoder k v).rd x = s.rd x := rfl
@[simp] theorem setDecoder_getF (s : State) (k : Nat) (v : Decoder) (x : Fld) : (s.setDecoder k v).getF x = s.getF x := rfl
@[simp] theorem setDecoder_flag (s : State) (k : Nat) (v : Decoder) (x : Fld) : (s.setDecoder k v).flag x = s.flag x := rfl
@[simp] theorem setProg_rd (s : State) (k : Nat) (v : Prog) (x : Nat) : (s.setProg k v).rd x = s.rd x := rfl
@[simp] theorem setProg_getF (s : State) (k : Nat) (v : Prog) (x : Fld) : (s.setProg k v).getF x = s.getF x := rfl
@[simp] theorem setProg_flag (s : State) (k : Nat) (v : Prog) (x : Fld) : (s.setProg k v).flag x = s.flag x := rfl
@[simp] theorem setSap_rd (s : State) (k : Nat) (v : Sap) (x : Nat) : (s.setSap k v).rd x = s.rd x := rfl
@[simp] theorem setSap_getF (s : State) (k : Nat) (v : Sap) (x : Fld) : (s.setSap k v).getF x = s.getF x := rfl
@[simp] theorem setSap_flag (s : State) (k : Nat) (v : Sap) (x : Fld) : (s.setSap k v).flag x = s.flag x := rfl
@[simp] theorem setTuner_rd (s : State) (k : Nat) (v : Tuner) (x : Nat) : (s.setTuner k v).rd x = s.rd x := rfl
@[simp] theorem setTuner_getF (s : State) (k : Nat) (v : Tuner) (x : Fld) : (s.setTuner k v).getF x = s.getF x := rfl
@[simp] theorem setTuner_flag (s : State) (k : Nat) (v : Tuner) (x : Fld) : (s.setTuner k v).flag x = s.flag x := rfl
@[simp] theorem setEgr_rd (s : State) (k : Nat) (v : Egress) (x : Nat) : (s.setEgr k v).rd x = s.rd x := rfl
@[simp] theorem setEgr_getF (s : State) (k : Nat) (v : Egress) (x : Fld) : (s.setEgr k v).getF x = s.getF x := rfl
@[simp] theorem setEgr_flag (s : State) (k : Nat) (v : Egress) (x : Fld) : (s.setEgr k v).flag x = s.flag x := rfl
@[simp] theorem setTx_rd (s : State) (k : Nat) (v : NetTx) (x : Nat) : (s.setTx k v).rd x = s.rd x := rfl
@[simp] theorem setTx_getF (s : State) (k : Nat) (v : NetTx) (x : Fld) : (s.setTx k v).getF x = s.getF x := rfl
@[simp] theorem setTx_flag (s : State) (k : Nat) (v : NetTx) (x : Fld) : (s.setTx k v).flag x = s.flag x := rfl
@[simp] theorem setRx_rd (s : State) (k : Nat) (v : NetRx) (x : Nat) : (s.setRx k v).rd x = s.rd x := rfl
@[simp] theorem setRx_getF (s : State) (k : Nat) (v : NetRx) (x : Fld) : (s.setRx k v).getF x = s.getF x := rfl
@[simp] theorem setRx_flag (s : State) (k : Nat) (v : NetRx) (x : Fld) : (s.setRx k v).flag x = s.flag x := rfl
@[simp] theorem setIq_rd (s : State) (k : Nat) (v : NetIq) (x : Nat) : (s.setIq k v).rd x = s.rd x := rfl
@[simp] theorem setIq_getF (s : State) (k : Nat) (v : NetIq) (x : Fld) : (s.setIq k v).getF x = s.getF x := rfl
@[simp] theorem setIq_flag (s : State) (k : Nat) (v : NetIq) (x : Fld) : (s.setIq k v).flag x = s.flag x := rfl
@[simp] theorem setPtp_rd (s : State) (v : Ptp) (x : Nat) : (s.setPtp v).rd x = s.rd x := rfl
@[simp] theorem setPtp_getF (s : State) (v : Ptp) (x : Fld) : (s.setPtp v).getF x = s.getF x := rfl
@[simp] theorem setPtp_flag (s : State) (v : Ptp) (x : Fld) : (s.setPtp v).flag x = s.flag x := rfl
@[simp] theorem setDma_rd (s : State) (k : Nat) (v : Dma) (x : Nat) : (s.setDma k v).rd x = s.rd x := rfl
@[simp] theorem setDma_getF (s : State) (k : Nat) (v : Dma) (x : Fld) : (s.setDma k v).getF x = s.getF x := rfl
@[simp] theorem setDma_flag (s : State) (k : Nat) (v : Dma) (x : Fld) : (s.setDma k v).flag x = s.flag x := rfl
@[simp] theorem setPod_rd (s : State) (k : Nat) (v : Pod) (x : Nat) : (s.setPod k v).rd x = s.rd x := rfl
@[simp] theorem setPod_getF (s : State) (k : Nat) (v : Pod) (x : Fld) : (s.setPod k v).getF x = s.getF x := rfl
@[simp] theorem setPod_flag (s : State) (k : Nat) (v : Pod) (x : Fld) : (s.setPod k v).flag x = s.flag x := rfl
@[simp] theorem setLane_rd (s : State) (k : Nat) (v : Lane) (x : Nat) : (s.setLane k v).rd x = s.rd x := rfl
@[simp] theorem setLane_getF (s : State) (k : Nat) (v : Lane) (x : Fld) : (s.setLane k v).getF x = s.getF x := rfl
@[simp] theorem setLane_flag (s : State) (k : Nat) (v : Lane) (x : Fld) : (s.setLane k v).flag x = s.flag x := rfl
@[simp] theorem setCal_rd (s : State) (k : Nat) (v : Cal) (x : Nat) : (s.setCal k v).rd x = s.rd x := rfl
@[simp] theorem setCal_getF (s : State) (k : Nat) (v : Cal) (x : Fld) : (s.setCal k v).getF x = s.getF x := rfl
@[simp] theorem setCal_flag (s : State) (k : Nat) (v : Cal) (x : Fld) : (s.setCal k v).flag x = s.flag x := rfl
@[simp] theorem setCoal_rd (s : State) (g r : Nat) (v : Coal) (x : Nat) : (s.setCoal g r v).rd x = s.rd x := rfl
@[simp] theorem setCoal_getF (s : State) (g r : Nat) (v : Coal) (x : Fld) : (s.setCoal g r v).getF x = s.getF x := rfl
@[simp] theorem setCoal_flag (s : State) (g r : Nat) (v : Coal) (x : Fld) : (s.setCoal g r v).flag x = s.flag x := rfl
@[simp] theorem setSlEntry_rd (s : State) (k : Nat) (v : SlEntry) (x : Nat) : (s.setSlEntry k v).rd x = s.rd x := rfl
@[simp] theorem setSlEntry_getF (s : State) (k : Nat) (v : SlEntry) (x : Fld) : (s.setSlEntry k v).getF x = s.getF x := rfl
@[simp] theorem setSlEntry_flag (s : State) (k : Nat) (v : SlEntry) (x : Fld) : (s.setSlEntry k v).flag x = s.flag x := rfl
@[simp] theorem setCore_rd (s : State) (k : Nat) (v : Core) (x : Nat) : (s.setCore k v).rd x = s.rd x := rfl
@[simp] theorem setCore_getF (s : State) (k : Nat) (v : Core) (x : Fld) : (s.setCore k v).getF x = s.getF x := rfl
@[simp] theorem setCore_flag (s : State) (k : Nat) (v : Core) (x : Fld) : (s.setCore k v).flag x = s.flag x := rfl
@[simp] theorem advance_rd (s : State) (n : Nat) (x : Nat) : (s.advance n).rd x = s.rd x := by
  unfold State.advance; split <;> rfl
@[simp] theorem clockTick_rd (s : State) (x : Nat) : s.clockTick.rd x = s.rd x := by
  unfold State.clockTick; split <;> rfl
@[simp] theorem advance_getF (s : State) (n : Nat) (x : Fld) : (s.advance n).getF x = s.getF x := by
  unfold State.advance; split <;> rfl
@[simp] theorem clockTick_getF (s : State) (x : Fld) : s.clockTick.getF x = s.getF x := by
  unfold State.clockTick; split <;> rfl
@[simp] theorem advance_flag (s : State) (n : Nat) (x : Fld) : (s.advance n).flag x = s.flag x := by
  unfold State.advance; split <;> rfl
@[simp] theorem clockTick_flag (s : State) (x : Fld) : s.clockTick.flag x = s.flag x := by
  unfold State.clockTick; split <;> rfl

end Sys2Proof.Machine
end

