-- ==== Sys2Proof/Laws/Frames.lean ====
section
/-! SUPPORT. What the shared operations leave: tracing writes OBS registers only, raising an event writes EVT, the
snapshot's registers and OBS, a gated write ends in one of three ways. -/

namespace Sys2Proof.Machine

/-- Equal register tables read alike. -/
theorem rd_of_regs {s u : State} (h : u.regs = s.regs) (b : Nat) : u.rd b = s.rd b := by
  unfold State.rd
  rw [h]

/-- Writing a field acts on the register table alone. -/
theorem setF_regs_congr {s u : State} (f : Fld) (v : Nat) (h : u.regs = s.regs) : (u.setF f v).regs = (s.setF f v).regs := by
  unfold State.setF State.wr State.rd
  simp only [h]

/-- A field of another register leaves a register. -/
theorem rd_setF_other (s : State) (f : Fld) (v b : Nat) (h : b ≠ f.reg) : (s.setF f v).rd b = s.rd b := by
  rw [rd_setF, if_neg h]

/-- A count in another register leaves a register. -/
theorem rd_bump_other (s : State) (f : Fld) (b : Nat) (h : b ≠ f.reg) : (s.bump f).rd b = s.rd b :=
  rd_setF_other s f _ b h

/-- A pair of other registers leaves a register. -/
theorem rd_set64_other (s : State) (lo hi v b : Nat) (h1 : b ≠ lo) (h2 : b ≠ hi) : (s.set64 lo hi v).rd b = s.rd b := by
  unfold State.set64
  rw [rd_wr_other _ _ _ _ h2, rd_wr_other _ _ _ _ h1]

/-- A recorded refusal leaves every register but the one that records it. -/
theorem rd_refuse_other (s : State) (r c b : Nat) (h : b ≠ r) : (refuse r c s).rd b = s.rd b := by
  unfold refuse
  rw [rd_bump_other _ _ _ h, rd_setF_other _ _ _ _ h]

/-- A recorded refusal of an instance leaves every register but its status register. -/
theorem rd_refuseInst_other (s : State) (r c b : Nat) (h : b ≠ r) : (refuseInst r c s).rd b = s.rd b := by
  unfold refuseInst
  rw [rd_bump_other _ _ _ h, rd_setF_other _ _ _ _ h]

/-- What every change of a list leaves, the whole leaves. -/
theorem rd_forEach (l : List Nat) (f : Nat → State → State) (b : Nat) (h : ∀ n ∈ l, ∀ s, (f n s).rd b = s.rd b) (s : State) :
    (forEach l f s).rd b = s.rd b := by
  induction l generalizing s with
  | nil => rfl
  | cons n t ih =>
    have : forEach (n :: t) f s = forEach t f (f n s) := rfl
    rw [this, ih (fun m hm => h m (by simp [hm])), h n (by simp)]

/-! ## Tracing -/

/-- The spill ring takes a record without a register, or counts it lost. -/
theorem spillWrite_rd (r : TraceRec) (s : State) (b : Nat) (h : b ≠ OBS_TLOST_CNT.reg) : (spillWrite r s).rd b = s.rd b := by
  unfold spillWrite
  dsimp only
  split
  · rfl
  · split
    · exact rd_of_regs (s := s) (by dsimp only; exact store_regs _ _ _) b
    · exact rd_bump_other _ _ _ h

/-- A trace record writes no register but the ring's write pointer and the count of lost records. -/
theorem traceWrite_rd (r : TraceRec) (s : State) (b : Nat) (h : b ≠ OBS_TWP_INDEX.reg) (h2 : b ≠ OBS_TLOST_CNT.reg) :
    (traceWrite r s).rd b = s.rd b := by
  unfold traceWrite
  dsimp only
  rw [spillWrite_rd _ _ _ h2]
  exact (rd_of_regs (setF_regs_congr _ _ (by dsimp only)) b).trans (rd_setF_other s _ _ _ h)

/-- Tracing writes OBS registers only. -/
theorem trace_rd (k i src d n : Nat) (s : State) (b : Nat) (h : b < 0x68000 ∨ 0x70000 ≤ b) :
    (trace k i src d n s).rd b = s.rd b := by
  have h1 : b ≠ OBS_TWP_INDEX.reg := by
    have hb : 0x68000 ≤ OBS_TWP_INDEX.reg ∧ OBS_TWP_INDEX.reg < 0x70000 := by decide
    omega
  have h2 : b ≠ OBS_TLOST_CNT.reg := by
    have hb : 0x68000 ≤ OBS_TLOST_CNT.reg ∧ OBS_TLOST_CNT.reg < 0x70000 := by decide
    omega
  unfold trace
  dsimp only
  split
  · rfl
  · split
    · exact (rd_of_regs (s := s.bump OBS_TLOST_CNT) (by dsimp only) b).trans (rd_bump_other _ _ _ h2)
    · rw [traceWrite_rd _ _ _ h1 h2]
      split
      · exact (rd_of_regs (s := traceWrite ⟨n, 3, 0, 0, s.obs.lost⟩ s) (by dsimp only) b).trans (traceWrite_rd _ _ _ h1 h2)
      · rfl

/-- The trace record of a register write touches OBS registers only. -/
theorem traceRegWrite_rd (m : Master) (a w : Nat) (s : State) (b : Nat) (h : b < 0x68000 ∨ 0x70000 ≤ b) :
    (traceRegWrite m a w s).rd b = s.rd b := by
  unfold traceRegWrite
  split
  · exact trace_rd _ _ _ _ _ _ _ h
  · rfl

/-- What is left when a trace record is written, beside registers, Sprout's ring and Marrow. -/
theorem spillWrite_pending (r : TraceRec) (s : State) : (spillWrite r s).pending = s.pending := by
  unfold spillWrite
  dsimp only
  repeat' split
  all_goals simp

theorem traceWrite_pending (r : TraceRec) (s : State) : (traceWrite r s).pending = s.pending := by
  unfold traceWrite
  dsimp only
  rw [spillWrite_pending]
  simp

theorem trace_pending (k i src d n : Nat) (s : State) : (trace k i src d n s).pending = s.pending := by
  unfold trace
  dsimp only
  split
  · rfl
  · split
    · simp
    · rw [traceWrite_pending]
      split
      · exact traceWrite_pending _ _
      · rfl

/-! ## A gated write -/

/-- Where the host bus carries only the mirror, none of its writes is live (R34). -/
theorem busBarred_dead (m : Master) (a : Nat) (s : State) (h : s.busBarred m = true) : s.liveWrite m a = false := by
  unfold State.liveWrite
  simp [h]

/-- A write through the gate ends in one of three ways: nothing where nothing answers, its effect where the register is
live, a recorded refusal otherwise (R67, R83). -/
theorem gated_cases (m : Master) (a w : Nat) (f : State → State) (s : State) :
    ((s.pwr.inReset = true ∨ s.busBarred m = true ∨ hasReg a = false) ∧ gated m a w f s = s) ∨
    (s.reaches m a = true ∧ gated m a w f s = f (traceRegWrite m a w s)) ∨
    (s.reaches m a = false ∧ gated m a w f s = refuseDead a (traceRegWrite m a w s)) := by
  unfold gated State.reaches
  have hb := busBarred_dead m a s
  cases hr : s.pwr.inReset <;> cases hh : hasReg a <;> cases hx : s.busBarred m <;> cases hl : s.liveWrite m a <;> simp_all

/-- Where a write reaches its register, the gate runs its effect. -/
theorem gated_reaches (m : Master) (a w : Nat) (f : State → State) (s : State) (h : s.reaches m a = true) :
    gated m a w f s = f (traceRegWrite m a w s) := by
  unfold State.reaches at h
  simp only [Bool.and_eq_true, Bool.not_eq_true'] at h
  have hb : s.busBarred m = false := by
    cases hx : s.busBarred m
    · rfl
    · simp [busBarred_dead m a s hx] at h
  unfold gated
  simp [h.1.1, h.1.2, h.2, hb]

/-- A placed word leaves every other register. -/
theorem rd_regPut_other (a b : Nat) (w : Word) (s : State) (h : b ≠ a) : (regPut a w s).rd b = s.rd b :=
  rd_wr_other _ _ _ _ h

/-! ## Raising -/

/-- IRQ_N and EVT_PEND follow the groups; no register but EVT_PEND changes. -/
theorem irqRefresh_rd (s : State) (b : Nat) (h : b ≠ EVT_PEND_IRQ.reg) : (irqRefresh s).rd b = s.rd b := by
  have h2 : b ≠ EVT_PEND_MSI.reg := h
  have h3 : b ≠ EVT_PEND_CORE.reg := h
  unfold irqRefresh
  dsimp only
  refine (rd_of_regs (s := (((s.setF EVT_PEND_IRQ _).setF EVT_PEND_MSI _).setF EVT_PEND_CORE _)) (by dsimp only) b).trans ?_
  rw [rd_setF_other _ _ _ _ h3, rd_setF_other _ _ _ _ h2, rd_setF_other _ _ _ _ h]

/-- Coalescing changes no register. -/
theorem release_rd (g r : Nat) (s : State) (b : Nat) : (release g r s).rd b = s.rd b := by
  refine rd_of_regs ?_ b
  unfold release
  dsimp only
  repeat' split
  all_goals simp only [setCoal_regs]

theorem releaseDue_rd (g r n : Nat) (s : State) (b : Nat) : (releaseDue g r n s).rd b = s.rd b := by
  unfold releaseDue
  dsimp only
  split
  · exact release_rd _ _ _ _
  · rfl

theorem coalRefresh_rd (g r n : Nat) (s : State) (b : Nat) : (coalRefresh g r n s).rd b = s.rd b := by
  unfold coalRefresh
  dsimp only
  split
  · rw [releaseDue_rd]
    split
    · rfl
    · exact setCoal_rd _ _ _ _ _
  · exact setCoal_rd _ _ _ _ _

theorem coalRaise_rd (g b r n : Nat) (s : State) (x : Nat) : (coalRaise g b r n s).rd x = s.rd x := by
  unfold coalRaise
  dsimp only
  split
  · split
    · rw [releaseDue_rd, setCoal_rd]
    · exact coalRefresh_rd _ _ _ _ _
  · rfl

/-- A trigger of the snapshot writes its own registers only. -/
theorem snapTrigger_rd (n : Nat) (s : State) (b : Nat) (h : b < 0x30000 ∨ 0x34000 ≤ b) : (snapTrigger n s).rd b = s.rd b := by
  have h1 : 0x30000 ≤ MRW_SNP_TRIG_LO ∧ MRW_SNP_TRIG_LO < 0x34000 := by decide
  have h2 : 0x30000 ≤ MRW_SNP_TRIG_HI ∧ MRW_SNP_TRIG_HI < 0x34000 := by decide
  have h3 : 0x30000 ≤ MRW_SNP_STAT_STATE.reg ∧ MRW_SNP_STAT_STATE.reg < 0x34000 := by decide
  unfold snapTrigger
  split
  · dsimp only
    refine (rd_of_regs (s := (s.set64 MRW_SNP_TRIG_LO MRW_SNP_TRIG_HI n).setF MRW_SNP_STAT_STATE 2) (by dsimp only) b).trans ?_
    rw [rd_setF_other _ _ _ _ (by omega), rd_set64_other _ _ _ _ _ (by omega) (by omega)]
  · rfl

/-- Sprout's counters are no registers. -/
theorem obsCount_rd (q : Nat → Bool) (s : State) (b : Nat) : (obsCount q s).rd b = s.rd b := by
  unfold obsCount
  generalize (s.obsConfigs.filter fun p => q p.2) = l
  induction l generalizing s with
  | nil => rfl
  | cons p t ih => rw [List.foldl_cons, ih]; exact rd_of_regs (by unfold obsBump; dsimp only) b

/-- The bit, stamp and record of a raise lie in the EVT block, for a source below 256 and an instance below 512. -/
theorem raiseBit_rd (e i : Nat) (s : State) (b : Nat) (he : e < 256) (hi : i < 512 ∨ summaryOf e = none)
    (h : b < 0x1000 ∨ 0x2000 ≤ b) : (raiseBit e i s).rd b = s.rd b := by
  have hs : b ≠ EVT_Gg_STAT (e / 32) := by unfold EVT_Gg_STAT; omega
  have hm : b ≠ (EVT_Gg_MERGE_CNT (e / 32)).reg := by simp only [EVT_Gg_MERGE_CNT, EVT_Gg_MERGE]; omega
  unfold raiseBit
  dsimp only
  split
  next j hj =>
    have hj16 : j < 16 := by
      unfold summaryOf at hj
      split at hj
      · cases hj; simp at *; omega
      · split at hj
        · cases hj; simp at *; omega
        · cases hj
    have hi' : i < 512 := by
      rcases hi with hi | hi
      · exact hi
      · rw [hi] at hj; cases hj
    have hb : b ≠ EVT_SUM j (i / 32) := by unfold EVT_SUM; omega
    rw [rd_setF_other _ _ _ _ hs, rd_setF_other _ _ _ _ hb]
    split
    · exact rd_bump_other _ _ _ hm
    · rfl
  next =>
    rw [rd_setF_other _ _ _ _ hs]
    split
    · exact rd_bump_other _ _ _ hm
    · rfl

/-- The stamp of a raise lies in the EVT block. -/
theorem raiseStamp_rd (e i n : Nat) (s : State) (b : Nat) (he : e < 256) (h : b < 0x1000 ∨ 0x2000 ≤ b) :
    (raiseStamp e i n s).rd b = s.rd b := by
  have h1 : b ≠ EVT_STAMP_LO e := by unfold EVT_STAMP_LO; omega
  have h2 : b ≠ EVT_STAMP_HI e := by unfold EVT_STAMP_HI; omega
  have h3 : b ≠ (EVT_INST_INST0 (e / 2)).reg := by simp only [EVT_INST_INST0, EVT_INST]; omega
  have h4 : b ≠ (EVT_INST_INST1 (e / 2)).reg := h3
  unfold raiseStamp
  dsimp only
  split
  · rw [rd_setF_other _ _ _ _ h3, rd_set64_other _ _ _ _ _ h1 h2]
  · rw [rd_setF_other _ _ _ _ h4, rd_set64_other _ _ _ _ _ h1 h2]

theorem raiseRec_rd (e i n : Nat) (s : State) (b : Nat) : (raiseRec e i n s).rd b = s.rd b := by
  unfold raiseRec
  split
  · exact rd_of_regs (by unfold emitRec emitRecIf; dsimp only) b
  · rfl

theorem raiseSnap_rd (e n : Nat) (s : State) (b : Nat) (h : b < 0x30000 ∨ 0x34000 ≤ b) : (raiseSnap e n s).rd b = s.rd b := by
  unfold raiseSnap
  split
  · exact snapTrigger_rd _ _ _ h
  · rfl

/-- A source's number is one of 256. -/
theorem isSource_lt (e : Nat) (h : isSource e = true) : e < 256 := by
  simp only [isSource, Bool.or_eq_true, Bool.and_eq_true, decide_eq_true_eq] at h
  omega

/-- A bitmap holds 512 instances at most. -/
theorem summaryCap_le (s : State) (j : Nat) : s.summaryCap j ≤ 512 := by
  unfold State.summaryCap
  repeat' split
  all_goals omega

/-- Raising an event changes registers of EVT, MRW (the snapshot) and OBS only. -/
theorem raiseAt_rd (e i n : Nat) (s : State) (b : Nat)
    (h1 : b < 0x1000 ∨ 0x2000 ≤ b) (h2 : b < 0x30000 ∨ 0x34000 ≤ b) (h3 : b < 0x68000 ∨ 0x70000 ≤ b) :
    (raiseAt e i n s).rd b = s.rd b := by
  have hp : 0x1000 ≤ EVT_PEND_IRQ.reg ∧ EVT_PEND_IRQ.reg < 0x2000 := by decide
  unfold raiseAt
  split
  · rfl
  next hc =>
    simp only [Bool.or_eq_true, decide_eq_true_eq, not_or, Bool.not_eq_true', Bool.not_eq_true, Bool.not_eq_false] at hc
    have he : e < 256 := isSource_lt e hc.1.2
    have hi : i < 512 ∨ summaryOf e = none := by
      cases hs : summaryOf e with
      | none => exact .inr rfl
      | some j =>
        have h := hc.2
        have := summaryCap_le s j
        simp only [hs, Option.any_some, decide_eq_false_iff_not] at h
        exact .inl (by omega)
    dsimp only
    rw [irqRefresh_rd _ _ (by omega), coalRaise_rd, coalRaise_rd]
    have hs : ∀ x : State, (raiseSnap e n (obsEvent e (raiseRec e i n (raiseStamp e i n (raiseBit e i x))))).rd b = x.rd b := by
      intro x
      rw [raiseSnap_rd _ _ _ _ h2]
      unfold obsEvent
      rw [obsCount_rd, raiseRec_rd, raiseStamp_rd _ _ _ _ _ he h1, raiseBit_rd _ _ _ _ he hi h1]
    split
    · rw [trace_rd _ _ _ _ _ _ _ h3, hs]
    · exact hs s

/-- Raising an event now. -/
theorem raise_rd (e i : Nat) (s : State) (b : Nat)
    (h1 : b < 0x1000 ∨ 0x2000 ≤ b) (h2 : b < 0x30000 ∨ 0x34000 ≤ b) (h3 : b < 0x68000 ∨ 0x70000 ≤ b) :
    (raise e i s).rd b = s.rd b := raiseAt_rd e i s.now s b h1 h2 h3

/-- Before NEGOTIATE a raise does nothing (R382). -/
theorem raiseAt_early (e i n : Nat) (s : State) (h : s.stage < 3) : raiseAt e i n s = s := by
  unfold raiseAt
  simp [h]

end Sys2Proof.Machine
end

