-- ==== Sys2Proof/Laws/Memory.lean ====
section
/-! SUPPORT. Laws of Marrow: reading a byte after a store, and the canonical form that every memory operation keeps. -/

namespace Sys2Proof.Machine

/-- A byte reads what was last stored at it. -/
theorem memGet_memSet (m : List Host.Cell) (a x : Nat) (b : Byte) :
    memGet (memSet a b m) x = if x = a then b else memGet m x := sget_sset _ _ _ _ _

/-- A byte outside a stored run reads as before. -/
theorem memGet_memPut_out (l : List Byte) (m : List Host.Cell) (a x : Nat) (h : x < a ∨ a + l.length ≤ x) :
    memGet (memPut a l m) x = memGet m x := by
  induction l generalizing a m with
  | nil => rfl
  | cons b t ih =>
    simp only [List.length_cons] at h
    rw [memPut, ih _ _ (by omega), memGet_memSet, if_neg (by omega)]

/-- Byte i of a stored run reads as byte i of the run. -/
theorem memGet_memPut_in (l : List Byte) (m : List Host.Cell) (a i : Nat) (h : i < l.length) :
    memGet (memPut a l m) (a + i) = l.getD i 0 := by
  induction l generalizing a m i with
  | nil => simp at h
  | cons b t ih =>
    cases i with
    | zero => rw [memPut, memGet_memPut_out _ _ _ _ (by omega), memGet_memSet, if_pos (by omega)]; rfl
    | succ i =>
      have ht : i < t.length := by simpa using h
      have := ih (memSet a b m) (a + 1) i ht
      rw [memPut, show a + (i + 1) = a + 1 + i by omega, this]; rfl

/-- A stored run reads back whole. -/
theorem memTake_memPut (l : List Byte) (m : List Host.Cell) (a : Nat) : memTake (memPut a l m) a l.length = l := by
  apply List.ext_getElem
  · simp [memTake]
  · intro i h1 h2
    simp only [memTake, List.getElem_map, List.getElem_range]
    rw [memGet_memPut_in l m a i h2, List.getD_eq_getElem _ _ h2]

/-- Storing a byte keeps the canonical form. -/
theorem wf_memSet (m : List Host.Cell) (a : Nat) (b : Byte) (h : Memory.wf m = true) : Memory.wf (memSet a b m) = true :=
  swf_sset _ _ _ _ h

/-- Storing a run keeps the canonical form. -/
theorem wf_memPut (l : List Byte) (m : List Host.Cell) (a : Nat) (h : Memory.wf m = true) :
    Memory.wf (memPut a l m) = true := by
  induction l generalizing a m with
  | nil => exact h
  | cons b t ih => exact ih _ _ (wf_memSet _ _ _ h)

/-- A store to Marrow keeps the canonical form. -/
theorem wf_store (s : State) (a : Nat) (l : List Byte) (h : Memory.wf s.mem = true) :
    Memory.wf (s.store a l).mem = true := wf_memPut _ _ _ h

/-- A partial store keeps the canonical form. -/
theorem wf_storeSome (l : List (Option Byte)) (a : Nat) (s : State) (h : Memory.wf s.mem = true) :
    Memory.wf (storeSome a l s).mem = true := by
  induction l generalizing a s with
  | nil => exact h
  | cons b t ih =>
    cases b with
    | none => exact ih _ _ h
    | some b => exact ih _ _ (wf_store _ _ _ h)

/-- The memory of the reset state is canonical. -/
theorem wf_reset : Memory.wf State.reset.mem = true := rfl

/-- A store leaves every register. -/
theorem storeSome_rd (l : List (Option Byte)) (a x : Nat) (s : State) : (storeSome a l s).rd x = s.rd x := by
  induction l generalizing a s with
  | nil => rfl
  | cons b t ih =>
    cases b with
    | none => exact ih _ _
    | some b => exact ih _ _

end Sys2Proof.Machine
end

