-- ==== Sys2Proof/Laws/Canonical.lean ====
section
/-! SUPPORT. The canonical form of the register table and of Marrow, kept by every shared operation. -/

namespace Sys2Proof.Machine

/-- The canonical form says something of the register table and of Marrow alone. -/
theorem canonical_iff (s : State) : s.canonical = true ↔ swf regReset s.regs = true ∧ Memory.wf s.mem = true := by
  unfold State.canonical
  exact Bool.and_eq_true _ _ ▸ Iff.rfl

theorem canonical_of {s u : State} (hr : u.regs = s.regs) (hm : u.mem = s.mem) (h : s.canonical = true) :
    u.canonical = true := by
  rw [canonical_iff] at h ⊢
  rw [hr, hm]
  exact h

theorem canonical_wr {s : State} (a : Nat) (w : Word) (h : s.canonical = true) : (s.wr a w).canonical = true := by
  rw [canonical_iff] at h ⊢
  exact ⟨wr_regs_swf s a w h.1, by rw [wr_mem]; exact h.2⟩

theorem canonical_setF {s : State} (f : Fld) (v : Nat) (h : s.canonical = true) : (s.setF f v).canonical = true :=
  canonical_wr _ _ h

theorem canonical_setI {s : State} (f : Fld) (i : Int) (h : s.canonical = true) : (s.setI f i).canonical = true :=
  canonical_setF _ _ h

theorem canonical_setB {s : State} (f : Fld) (b : Bool) (h : s.canonical = true) : (s.setB f b).canonical = true :=
  canonical_setF _ _ h

theorem canonical_bumpBy {s : State} (f : Fld) (n : Nat) (h : s.canonical = true) : (s.bumpBy f n).canonical = true :=
  canonical_setF _ _ h

theorem canonical_bump {s : State} (f : Fld) (h : s.canonical = true) : (s.bump f).canonical = true :=
  canonical_bumpBy _ _ h

theorem canonical_set64 {s : State} (lo hi v : Nat) (h : s.canonical = true) : (s.set64 lo hi v).canonical = true :=
  canonical_wr _ _ (canonical_wr _ _ h)

theorem canonical_refuse {s : State} (r c : Nat) (h : s.canonical = true) : (refuse r c s).canonical = true :=
  canonical_bump _ (canonical_setF _ _ h)

theorem canonical_refuseInst {s : State} (r c : Nat) (h : s.canonical = true) : (refuseInst r c s).canonical = true :=
  canonical_bump _ (canonical_setF _ _ h)

theorem canonical_refuseAt {s : State} (a c : Nat) (h : s.canonical = true) : (refuseAt a c s).canonical = true := by
  have h1 : (refuseIn (refTarget a) c s).canonical = true := by
    unfold refuseIn
    split
    · exact canonical_refuse _ _ h
    · exact canonical_refuseInst _ _ h
  unfold refuseAt
  dsimp only
  split
  · exact canonical_refuse _ _ h1
  · exact h1

theorem canonical_refuseDead {s : State} (a : Nat) (h : s.canonical = true) : (refuseDead a s).canonical = true := by
  unfold refuseDead
  split
  · exact canonical_refuseAt _ _ h
  · exact canonical_refuse _ _ h

theorem canonical_store {s : State} (a : Nat) (l : List Byte) (h : s.canonical = true) : (s.store a l).canonical = true := by
  rw [canonical_iff] at h ⊢
  exact ⟨by rw [store_regs]; exact h.1, wf_store _ _ _ h.2⟩

theorem canonical_resetRange {s : State} (lo hi : Nat) (h : s.canonical = true) :
    (s.resetRange lo hi).canonical = true := by
  rw [canonical_iff] at h ⊢
  exact ⟨swfFrom_filter _ _ _ _ h.1, h.2⟩

theorem canonical_advance {s : State} (n : Nat) (h : s.canonical = true) : (s.advance n).canonical = true :=
  canonical_of (by simp) (by simp) h

theorem canonical_clockTick {s : State} (h : s.canonical = true) : s.clockTick.canonical = true :=
  canonical_of (by simp) (by simp) h

theorem canonical_forEach (l : List Nat) (f : Nat → State → State)
    (hf : ∀ n ∈ l, ∀ x : State, x.canonical = true → (f n x).canonical = true) {s : State} (h : s.canonical = true) :
    (forEach l f s).canonical = true := by
  induction l generalizing s with
  | nil => exact h
  | cons n t ih =>
    exact ih (fun m hm => hf m (by simp [hm])) (hf n (by simp) s h)

theorem canonical_foldl {α : Type} (l : List α) (f : State → α → State)
    (hf : ∀ a ∈ l, ∀ x : State, x.canonical = true → (f x a).canonical = true) {s : State} (h : s.canonical = true) :
    (l.foldl f s).canonical = true := by
  induction l generalizing s with
  | nil => exact h
  | cons n t ih =>
    exact ih (fun m hm => hf m (by simp [hm])) (hf n (by simp) s h)

theorem canonical_spillWrite {s : State} (r : TraceRec) (h : s.canonical = true) : (spillWrite r s).canonical = true := by
  unfold spillWrite
  dsimp only
  split
  · exact h
  · split
    · exact canonical_of (by dsimp only) (by dsimp only)
        (canonical_store (s.regionBase 4 + s.getF OBS_SPILL_OFF * 65536 + s.obs.spillWp) r.bytes h)
    · exact canonical_bump _ h

theorem canonical_traceWrite {s : State} (r : TraceRec) (h : s.canonical = true) : (traceWrite r s).canonical = true := by
  unfold traceWrite
  exact canonical_spillWrite _ (canonical_setF _ _ (canonical_of rfl rfl h))

theorem canonical_trace {s : State} (k i src d n : Nat) (h : s.canonical = true) : (trace k i src d n s).canonical = true := by
  unfold trace
  dsimp only
  split
  · exact h
  · split
    · exact canonical_of (s := s.bump OBS_TLOST_CNT) (by dsimp only) (by dsimp only) (canonical_bump _ h)
    · refine canonical_traceWrite _ ?_
      split
      · exact canonical_of (s := traceWrite ⟨n, 3, 0, 0, s.obs.lost⟩ s) (by dsimp only) (by dsimp only) (canonical_traceWrite _ h)
      · exact h

theorem canonical_traceRegWrite {s : State} (m : Master) (a w : Nat) (h : s.canonical = true) :
    (traceRegWrite m a w s).canonical = true := by
  unfold traceRegWrite
  split
  · exact canonical_trace _ _ _ _ _ h
  · exact h

/-- A gated write keeps the canonical form where its effect does. -/
theorem canonical_gated {s : State} (m : Master) (a w : Nat) (f : State → State)
    (hf : ∀ x : State, x.canonical = true → (f x).canonical = true) (h : s.canonical = true) :
    (gated m a w f s).canonical = true := by
  rcases gated_cases m a w f s with ⟨_, e⟩ | ⟨_, e⟩ | ⟨_, e⟩ <;> rw [e]
  · exact h
  · exact hf _ (canonical_traceRegWrite _ _ _ h)
  · exact canonical_refuseDead _ (canonical_traceRegWrite _ _ _ h)

theorem canonical_regPut {s : State} (a : Nat) (w : Word) (h : s.canonical = true) : (regPut a w s).canonical = true :=
  canonical_wr _ _ h

theorem canonical_plainWrite {s : State} (a : Nat) (w : Word) (h : s.canonical = true) : (plainWrite a w s).canonical = true := by
  unfold plainWrite
  split
  · exact canonical_regPut _ _ h
  · exact canonical_refuseAt _ _ h

theorem canonical_irqRefresh {s : State} (h : s.canonical = true) : (irqRefresh s).canonical = true := by
  unfold irqRefresh
  dsimp only
  exact canonical_of (s := ((s.setF EVT_PEND_IRQ _).setF EVT_PEND_MSI _).setF EVT_PEND_CORE _) (by dsimp only) (by dsimp only)
    (canonical_setF _ _ (canonical_setF _ _ (canonical_setF _ _ h)))

theorem canonical_release {s : State} (g r : Nat) (h : s.canonical = true) : (release g r s).canonical = true := by
  refine canonical_of ?_ ?_ h
  · unfold release
    dsimp only
    repeat' split
    all_goals simp only [setCoal_regs]
  · unfold release
    dsimp only
    repeat' split
    all_goals simp only [setCoal_mem]

theorem canonical_releaseDue {s : State} (g r n : Nat) (h : s.canonical = true) : (releaseDue g r n s).canonical = true := by
  unfold releaseDue
  dsimp only
  split
  · exact canonical_release _ _ h
  · exact h

theorem canonical_setCoal {s : State} (g r : Nat) (c : Coal) (h : s.canonical = true) : (s.setCoal g r c).canonical = true :=
  canonical_of (setCoal_regs _ _ _ _) (setCoal_mem _ _ _ _) h

theorem canonical_coalRefresh {s : State} (g r n : Nat) (h : s.canonical = true) : (coalRefresh g r n s).canonical = true := by
  unfold coalRefresh
  dsimp only
  split
  · refine canonical_releaseDue _ _ _ ?_
    split
    · exact h
    · exact canonical_setCoal _ _ _ h
  · exact canonical_setCoal _ _ _ h

theorem canonical_coalRaise {s : State} (g b r n : Nat) (h : s.canonical = true) : (coalRaise g b r n s).canonical = true := by
  unfold coalRaise
  dsimp only
  split
  · split
    · exact canonical_releaseDue _ _ _ (canonical_setCoal _ _ _ h)
    · exact canonical_coalRefresh _ _ _ h
  · exact h

theorem canonical_snapTrigger {s : State} (n : Nat) (h : s.canonical = true) : (snapTrigger n s).canonical = true := by
  unfold snapTrigger
  split
  · dsimp only
    exact canonical_of (s := (s.set64 MRW_SNP_TRIG_LO MRW_SNP_TRIG_HI n).setF MRW_SNP_STAT_STATE 2) (by dsimp only)
      (by dsimp only) (canonical_setF _ _ (canonical_set64 _ _ _ h))
  · exact h

theorem canonical_obsCount {s : State} (q : Nat → Bool) (h : s.canonical = true) : (obsCount q s).canonical = true := by
  unfold obsCount
  exact canonical_foldl _ _ (fun p _ x hx => canonical_of (by unfold obsBump; dsimp only) (by unfold obsBump; dsimp only) hx) h

theorem canonical_raiseBit {s : State} (e i : Nat) (h : s.canonical = true) : (raiseBit e i s).canonical = true := by
  unfold raiseBit
  dsimp only
  split
  · refine canonical_setF _ _ (canonical_setF _ _ ?_)
    split
    · exact canonical_bump _ h
    · exact h
  · refine canonical_setF _ _ ?_
    split
    · exact canonical_bump _ h
    · exact h

/-- Raising an event keeps the canonical form. -/
theorem canonical_raiseAt {s : State} (e i n : Nat) (h : s.canonical = true) : (raiseAt e i n s).canonical = true := by
  unfold raiseAt
  split
  · exact h
  · dsimp only
    refine canonical_irqRefresh (canonical_coalRaise _ _ _ _ (canonical_coalRaise _ _ _ _ ?_))
    have h1 : (raiseStamp e i n (raiseBit e i s)).canonical = true := by
      unfold raiseStamp
      dsimp only
      split
      · exact canonical_setF _ _ (canonical_set64 _ _ _ (canonical_raiseBit _ _ h))
      · exact canonical_setF _ _ (canonical_set64 _ _ _ (canonical_raiseBit _ _ h))
    have h2 : (raiseRec e i n (raiseStamp e i n (raiseBit e i s))).canonical = true := by
      unfold raiseRec
      split
      · exact canonical_of (by unfold emitRec emitRecIf; dsimp only) (by unfold emitRec emitRecIf; dsimp only) h1
      · exact h1
    have h3 : (raiseSnap e n (obsEvent e (raiseRec e i n (raiseStamp e i n (raiseBit e i s))))).canonical = true := by
      unfold raiseSnap obsEvent
      split
      · exact canonical_snapTrigger _ (canonical_obsCount _ h2)
      · exact canonical_obsCount _ h2
    split
    · exact canonical_trace _ _ _ _ _ h3
    · exact h3

theorem canonical_raise {s : State} (e i : Nat) (h : s.canonical = true) : (raise e i s).canonical = true :=
  canonical_raiseAt e i s.now h

end Sys2Proof.Machine
end

