-- ==== Sys2Proof/Laws/Image.lean ====
section
/-! SUPPORT. Cutting a bitstream file undoes joining its parts (spec/06 R158, R159), and the CRC register keeps 0 over
zero bytes. -/

namespace Sys2Proof.Laws

open Sys2Proof Sys2Proof.Machine

/-- A number read inside the first of two lists. -/
theorem leAt_append (a b : List Byte) {o n : Nat} (h : o + n ≤ a.length) : leAt (a ++ b) o n = leAt a o n := by
  unfold leAt
  rw [List.drop_append_of_le_length (by omega), List.take_append_of_le_length (by simp; omega)]

/-- The parts of frames joined are cut again as they were. -/
theorem cutFrames_bytes (rest : List Byte) : ∀ l : List FrameRec,
    (∀ f ∈ l, f.head.length = 16 ∧ leAt f.head 4 4 = f.payload.length) →
    cutFrames l.length (l.flatMap frameBytes ++ rest) = (l, rest)
  | [], _ => rfl
  | f :: t, h => by
    obtain ⟨h16, hlen⟩ := h f (by simp)
    have ih := cutFrames_bytes rest t fun g hg => h g (by simp [hg])
    have hd : (f.head ++ (f.payload ++ (t.flatMap frameBytes ++ rest))).drop 16 = f.payload ++ (t.flatMap frameBytes ++ rest) := by
      rw [← h16, List.drop_left]
    have ht : (f.head ++ (f.payload ++ (t.flatMap frameBytes ++ rest))).take 16 = f.head := by
      rw [← h16, List.take_left]
    simp only [List.length_cons, List.flatMap_cons, cutFrames, frameBytes, List.append_assoc]
    rw [leAt_append _ _ (by omega), hlen, hd, ht, List.drop_left, List.take_left]
    simp [ih]

/-- A file whose header and frames keep R158 and R159 is what its bytes are cut into. -/
theorem cutFile_fileBytes (f : BsFile) (h256 : f.head.length = 256) (hn : leAt f.head 24 4 = f.frames.length)
    (hf : ∀ x ∈ f.frames, x.head.length = 16 ∧ leAt x.head 4 4 = x.payload.length) : cutFile (fileBytes f) = f := by
  unfold cutFile fileBytes
  rw [leAt_append _ _ (by omega), hn, ← h256, List.drop_left, List.take_left, cutFrames_bytes _ _ hf]

/-- A byte of zeros leaves the CRC register at 0. -/
theorem crcRun_zeros : ∀ n : Nat, crcRun (List.replicate n 0) 0 = 0
  | 0 => rfl
  | n + 1 => by
    rw [List.replicate_succ]
    exact crcRun_zeros n

/-- The CRC register over two lists. -/
theorem crcRun_append (b : List Byte) : ∀ (a : List Byte) (c : Nat), crcRun (a ++ b) c = crcRun b (crcRun a c)
  | [], _ => rfl
  | _ :: t, _ => crcRun_append b t _

/-- Unused peas keep R161. -/
theorem opsOk_zeros : ∀ n : Nat, opsOk (List.replicate (8 * n) 0) = true
  | 0 => rfl
  | n + 1 => by
    rw [Nat.mul_add, Nat.mul_one, List.replicate_succ, List.replicate_succ, List.replicate_succ, List.replicate_succ,
      List.replicate_succ, List.replicate_succ, List.replicate_succ, List.replicate_succ]
    simpa [opsOk] using opsOk_zeros n

end Sys2Proof.Laws
end

