-- ==== Sys2Proof/Tests/Base.lean ====
section
/-! SUPPORT. Small states for the tests and the witnesses. -/

namespace Sys2Proof.Tests

open Sys2Proof Sys2Proof.Machine

/-- A state with these values in these fields. -/
def fs (s : State) (l : List (Fld × Nat)) : State := l.foldl (fun s p => s.setF p.1 p.2) s

/-- A part in RUN with every feature but KT-440 mode, and a bitstream in use. -/
def run : State :=
  { (fs {} [(SYS_BOOT_STATE, 4)]).wr (FEAT_ACTIVE 0) 0xFDFFFF with
    counting := true
    pwr := { inReset := false, railsOk := true, porDone := true }
    boot := { bs := some { family := 1, version := 7, stepMax := 255, paths := 512, ens := 48, dec := 128, progs := 256, lpods := 200, xl := 8,
                           slch := 128, vminMv := 700, tjMin := -40, tjMax := 125, margin := 0x140,
                           podMask := 2 ^ 200 - 1, rspool := 64, iqs := 16, aestx := 64, aesrx := 16 } } }

/-- The local data RAM as one W32 segment (R417). -/
def ramSeg : SegDesc := ⟨0x30000000, 196608, 0, false⟩

/-- Core 1 in RUN, with some registers, a word at the top of its stack and pointers into its local data RAM. -/
def iz : State :=
  { fs run [(SEQk_STAT_STATE 1, 1), (SEQk_STAT_PAIR 1, 1)] with
    cores := [(1, {
      g := [(1, 5), (2, 3), (3, 0xFFFFF0), (4, 0x800000)]
      a := [(0, 0x1000000), (1, 7)]
      p := [(1, 8), (2, 12)]
      pb := [(1, 2), (2, 2)]
      sd := [(0, ramSeg), (2, ramSeg), (15, ramSeg)]
      ram := [(8, 0x400000), (9, 0x200000), (12, 0x400000), (13, 7), (100, 0x300), (101, 0x200), (102, 9)]
      sp := 100
      pc := 0x40 })] }

/-- Core 1 as in iz, with its pointers bound to a W24 segment in the host region of Marrow. -/
def izm : State :=
  let s := fs iz [(MRW_STAT_INIT_DONE, 1)]
  { s with
    mrw := { s.mrw with act := [(0, 128), (128, 128), (256, 192), (448, 32), (480, 32)] }
    mem := [(32212254744, 0x11), (32212254745, 0x22), (32212254750, 5)]
    cores := [(1, { (s.core 1) with sd := [(0, ramSeg), (2, ⟨503316480, 1000, 1, false⟩), (15, ramSeg)] })] }

/-- Core 1 as in izm, with a line in its write-combining buffer. -/
def izw : State := { izm with cores := [(1, { (izm.core 1) with wc := [⟨32212254720, [(3, 7), (4, 9)], 0⟩] })] }

/-- Core 1 issues without prefixes. -/
def h1 : IzHead := ⟨1, [], []⟩

/-- Core 1 issues under SAT. -/
def hs : IzHead := ⟨1, [.sat], []⟩

/-- FM path 9 carries the PI of running programme 1, so it qualifies as a candidate of it. -/
def chanq : State :=
  fs run [(FOLp_STAT_STATE 1, 3), (FOLp_ID_PI 1, 0xC201), (PTHn_STAT_STATE 9, 2), (PTHn_CTL_TYPE 9, 1),
    (DEMn_PI_PI 9, 0xC201), (DEMn_STAT_PI_CONF 9, 1)]

/-- A parent's Announce message. -/
def ann7 : PtpAnn := ⟨7, 0, 1, 6, 0, 0, 1, 9, 0, 100, 37, 0⟩

/-- A PTP port in UNCALIBRATED with a parent. -/
def ptp8 : State :=
  let s := fs run [(NET_PTP_CTL_EN, 1), (NET_PTP_STAT_STATE, 8)]
  { s with net := { s.net with ptp := { s.net.ptp with parent := some ann7 } } }

end Sys2Proof.Tests
end

