-- ==== Sys2Proof/Tests/Files.lean ====
section
/-! SUPPORT. Image files for the witnesses: bitstream files of one pod whose every pea is unused, built from the tables of
spec/06 R158 to R160, and a firmware image built from that of spec/21 R538. -/

set_option Elab.async false

namespace Sys2Proof.Tests

open Sys2Proof Sys2Proof.Machine Sys2Proof.Laws

/-- A frame (R159). -/
def frm (ty lpod k len crc : Nat) (p : List Byte) : FrameRec :=
  ⟨bytesOf 1 ty ++ [0] ++ bytesOf 2 lpod ++ bytesOf 4 len ++ bytesOf 4 k ++ bytesOf 4 crc, p⟩

/-- FIRST 0, COUNT 20480 and unused peas (R160, R161); the selectors of the first make the CRC of the whole simple. -/
def peasBytes : List Byte := [0, 0, 0, 0, 0, 0x50, 0, 0, 0x26, 0x0E, 0x61, 0xF6, 0, 0, 0, 0] ++ List.replicate (8 * 20479) 0

/-- The PEAS frame of pod p. -/
def peasFrame (p : Nat) : FrameRec := frm 1 p 0 163848 0xFFFFFFFF peasBytes

/-- Its ROUTES frame and the MAP, PACE and END frames. -/
def tailFrames (p : Nat) : List FrameRec :=
  let r := bytesOf 2 p ++ List.replicate 6 0
  [frm 2 p 1 0 0 [], frm 3 0xFFFF 2 0 0 [], frm 4 0xFFFF 3 8 (crc32 r) r, frm 15 0xFFFF 4 0 0 []]

theorem peas_length : peasBytes.length = 163848 := by
  rw [peasBytes, List.length_append, List.length_replicate]
  rfl

theorem peas_crc : crc32 peasBytes = 0xFFFFFFFF := by
  have h : crcRun [0, 0, 0, 0, 0, 0x50, 0, 0, 0x26, 0x0E, 0x61, 0xF6, 0, 0, 0, 0] 0xFFFFFFFF = 0 := by decide +kernel
  rw [crc32, peasBytes, crcRun_append, h, crcRun_zeros]
  rfl

theorem peas_form (p : Nat) (h : p = 0 ∨ p = 3) : frameForm 0 (peasFrame p) = true := by
  have h1 : crcHolds (peasFrame p) = true := by
    unfold crcHolds peasFrame frm
    simp only
    rw [peas_crc]
    rcases h with rfl | rfl <;> decide +kernel
  have h2 : (peasFrame p).payload.length = 163848 := peas_length
  simp only [frameForm, h1, h2]
  rcases h with rfl | rfl <;> decide +kernel

theorem ops_first (l : List Byte) (h : opsOk l = true) : opsOk ([0x26, 0x0E, 0x61, 0xF6, 0, 0, 0, 0] ++ l) = true := by
  simpa [opsOk] using h

theorem peas_ok (p : Nat) : peasOk (peasFrame p) = true := by
  have h1 : (peasFrame p).payload = peasBytes := rfl
  have h2 : peaSpan (peasFrame p) = (0, 20480) := by
    simp only [peaSpan, h1]
    decide +kernel
  have h3 : opsOk (peasBytes.drop 8) = true := by
    have e : peasBytes.drop 8 = [0x26, 0x0E, 0x61, 0xF6, 0, 0, 0, 0] ++ List.replicate (8 * 20479) 0 := rfl
    rw [e]
    exact ops_first _ (opsOk_zeros 20479)
  simp only [peasOk, h2, h1, peas_length, h3]
  decide

/-- The frames of one pod keep R159 to R161. -/
theorem one_pod_keep (p : Nat) (h : p = 0 ∨ p = 3) : framesKeep (2 ^ p) (peasFrame p :: tailFrames p) = true := by
  have ho := peas_ok p
  have hf := peas_form p h
  have hrow : frameRow (2 ^ p) (peasFrame p) = true := by
    have e : frameRow (2 ^ p) (peasFrame p) = ((decide (frameLpod (peasFrame p) < 256) && (2 ^ p).testBit (frameLpod (peasFrame p))) && peasOk (peasFrame p)) := by
      rcases h with rfl | rfl <;> rfl
    rw [e, ho]
    rcases h with rfl | rfl <;> decide +kernel
  simp only [framesKeep, framesForm, List.all_cons, hf, hrow, Bool.true_and]
  rcases h with rfl | rfl <;> decide +kernel

/-- The header of a bitstream file of family 1 with these five frames (R158). -/
def bsHead (kind base version lpods mask : Nat) : List Byte :=
  let b := bytesOf 4 0x56425346 ++ [1] ++ bytesOf 1 kind ++ bytesOf 2 1 ++ bytesOf 4 version ++ bytesOf 4 base ++ bytesOf 4 0 ++ [0, 255]
    ++ bytesOf 2 lpods ++ bytesOf 4 5 ++ bytesOf 4 169672 ++ bytesOf 16 0 ++ bytesOf 2 512 ++ [48, 128] ++ bytesOf 2 256 ++ [8, 128]
    ++ bytesOf 2 700 ++ [0xD8, 125] ++ bytesOf 2 0x140 ++ [0, 0] ++ bytesOf 32 mask ++ bytesOf 4 164192 ++ [64, 16] ++ bytesOf 2 64 ++ [16]
    ++ List.replicate 147 0
  b ++ bytesOf 4 (crc32 b)

/-- A signature block of the root key (R536). -/
def sigBytes : List Byte :=
  bytesOf 4 0x5349474E ++ [1, 0, 0, 0] ++ bytesOf 4 5396 ++ bytesOf 4 0 ++ [0, 0, 0, 2, 0, 0, 0, 7, 0, 0, 0, 3] ++ List.replicate 5452 0

/-- A file of one pod. -/
def oneFile (kind base version lpods p : Nat) : BsFile := ⟨bsHead kind base version lpods (2 ^ p), peasFrame p :: tailFrames p, sigBytes⟩

/-- A partial file of pod 3 for version 7, and a full file of pod 0. -/
def partFile : BsFile := oneFile 1 7 8 0 3
def wholeFile : BsFile := oneFile 0 0 7 1 0

theorem part_frames (hash : Nat) : (bsHdrOf partFile hash).framesOk = true := by
  have h1 := one_pod_keep 3 (.inr rfl)
  have h3 : leAt partFile.head 64 32 = 2 ^ 3 := by decide +kernel
  have h4 : partFile.frames = peasFrame 3 :: tailFrames 3 := rfl
  simp only [bsHdrOf, h3]
  rw [h4, h1]
  decide +kernel

theorem whole_frames (hash : Nat) : (bsHdrOf wholeFile hash).framesOk = true := by
  have h1 := one_pod_keep 0 (.inl rfl)
  have h3 : leAt wholeFile.head 64 32 = 2 ^ 0 := by decide +kernel
  have h4 : wholeFile.frames = peasFrame 0 :: tailFrames 0 := rfl
  simp only [bsHdrOf, h3]
  rw [h4, h1]
  decide +kernel

/-- The partial file in the staging area is read as it was written (R164). -/
theorem part_cut : cutFile (fileBytes partFile) = partFile := by
  refine cutFile_fileBytes _ (by decide +kernel) (by decide +kernel) fun x hx => ?_
  have h4 : partFile.frames = peasFrame 3 :: tailFrames 3 := rfl
  rw [h4, List.mem_cons] at hx
  obtain rfl | hx := hx
  · have e : (peasFrame 3).payload.length = 163848 := peas_length
    rw [e]
    decide +kernel
  · exact (by decide +kernel : ∀ x ∈ tailFrames 3, x.head.length = 16 ∧ leAt x.head 4 4 = x.payload.length) x hx

/-- A part with pod 3 ACTIVE, verifying this staged file, whose loaded bitstream has version v. -/
def prRun (v : Nat) (l : List Byte) : State :=
  { fs run [(FAB_STAT_CONF, 1), (FAB_LPp_MAP_CONF 3, 1), (FAB_LPp_MAP_PPOD 3, 3), (FAB_LPp_MAP_STATE 3, 0), (FAB_PR_STAT_PHASE, 1), (FAB_PR_SRC_PORT, 1)] with
    fab := { stage := l }
    boot := { bs := some { run.hdr with version := v }, fw := some ⟨true, 0, 0, 0, 255, [1], [], [], 0⟩
              bsKey := bsSigOf wholeFile ⟨0, true⟩ } }

theorem pr_file (v : Nat) (hv : v = 6 ∨ v = 7) : (prRun v (fileBytes partFile)).prFile = partFile := by
  have h : (prRun v (fileBytes partFile)).flag FAB_PR_SRC_PORT = true := by rcases hv with rfl | rfl <;> decide +kernel
  have e : (prRun v (fileBytes partFile)).fab.stage = fileBytes partFile := rfl
  rw [State.prFile, if_pos h, e, part_cut]

theorem pr_file_loading : ((prRun 7 (fileBytes partFile)).setF (FAB_LPp_MAP_STATE 3) 3).prFile = partFile := by
  have h : ((prRun 7 (fileBytes partFile)).setF (FAB_LPp_MAP_STATE 3) 3).flag FAB_PR_SRC_PORT = true := by decide +kernel
  have e : ((prRun 7 (fileBytes partFile)).setF (FAB_LPp_MAP_STATE 3) 3).fab.stage = fileBytes partFile := rfl
  rw [State.prFile, if_pos h, e, part_cut]

/-- A firmware image of family 1 with four bytes of code for core 0 (R538). -/
def fwBytes : List Byte :=
  bytesOf 4 0x56465749 ++ [1, 3, 0, 255] ++ bytesOf 4 5744 ++ bytesOf 4 264 ++ bytesOf 16 1 ++ bytesOf 4 256 ++ bytesOf 4 4 ++ bytesOf 3 2
    ++ List.replicate 5 0 ++ List.replicate 216 0 ++ sigBytes

/-- The boot ROM with a firmware image verified, about to check a bitstream. -/
def romFw : FwHdr := ⟨true, 256, 3, 0, 255, [1], [⟨4, 2⟩], [[0, 0, 0, 0]], 9⟩
def romBs : State :=
  { (fs {} [(SYS_BOOT_STATE, 1), (MRW_STAT_INIT_DONE, 1)]) with
    pwr := { inReset := false, railsOk := true, porDone := true }
    pins := { qspi := true }
    boot := { refDone := true, entry := [1, 0, 3, 0], fw := some romFw } }

theorem whole_check : (let x := if romBs.boot.hostLoad then romBs.hostBitstream else wholeFile
    let h := bsHdrOf x 9
    let g := bsSigOf x ⟨0, true⟩
    romBs.readsImage && (romBs.boot.fw == some romFw) && romBs.flag MRW_STAT_INIT_DONE && (romBs.bsCheck romFw.families h g == 0)) = true := by
  have h1 := whole_frames 9
  have h2 : (if romBs.boot.hostLoad then romBs.hostBitstream else wholeFile) = wholeFile := rfl
  simp only [h2, State.bsCheck, h1]
  decide +kernel

/-- A calibration image (R525) that holds section 1 alone, whose corrections begin 3, 4, 5; four bytes after each
listed group bring the CRC register to 0. -/
def calWin : List (Nat × Byte) :=
  [(0, 73), (1, 76), (2, 65), (3, 67), (4, 1), (5, 6), (7, 32), (8, 1), (20, 1), (65, 1), (69, 2), (72, 152), (73,
    249), (74, 57), (75, 104), (584, 1), (585, 1), (586, 1), (589, 2), (592, 3), (593, 4), (594, 5), (600, 141),
    (601, 160), (602, 253), (603, 248), (1104, 2), (1105, 1), (1109, 4), (1112, 21), (1113, 164), (1114, 91), (1115,
    227), (2136, 3), (2137, 1), (2141, 4), (2144, 139), (2145, 164), (2146, 241), (2147, 47), (3168, 4), (3169, 1),
    (3173, 2), (3176, 32), (3177, 209), (3178, 185), (3179, 33), (3688, 5), (3689, 1), (3693, 8), (3696, 104),
    (3697, 84), (3698, 132), (3699, 224), (8188, 255), (8189, 255), (8190, 255), (8191, 255)].map fun x => (0x80000
    + x.1, x.2)

/-- A running part whose copy 0 is that image. -/
abbrev calRun : State := { run with win := calWin }

theorem winBytes_add (s : State) (a m n : Nat) : s.winBytes a (m + n) = s.winBytes a m ++ s.winBytes (a + m) n := by
  simp [State.winBytes, List.range_add, Function.comp_def, Nat.add_assoc]

theorem sget_far {k : Nat} : ∀ l : List (Nat × Byte), (∀ x ∈ l, x.1 ≠ k) → sget winDefault l k = 0
  | [], _ => rfl
  | (j, v) :: t, h => by
    simp only [sget]
    rw [if_neg (h (j, v) (by simp)), sget_far t fun x hx => h x (by simp [hx])]

theorem winBytes_zeros (s : State) (a n : Nat) (h : ∀ x ∈ s.win, x.1 < a ∨ a + n ≤ x.1) :
    s.winBytes a n = List.replicate n 0 := by
  rw [State.winBytes, List.eq_replicate_iff]
  refine ⟨by simp, fun b hb => ?_⟩
  obtain ⟨i, hi, rfl⟩ := List.mem_map.1 hb
  have hn := List.mem_range.1 hi
  exact sget_far _ fun x hx he => by have := h x hx; omega

theorem calWin_0 : crcRun (calRun.winBytes 524288 76) 0xFFFFFFFF = 0 := by decide +kernel

theorem calWin_76 : calRun.winBytes 524364 508 = List.replicate 508 0 := winBytes_zeros _ _ _ (by decide +kernel)

theorem calWin_584 : crcRun (calRun.winBytes 524872 20) 0 = 0 := by decide +kernel

theorem calWin_604 : calRun.winBytes 524892 500 = List.replicate 500 0 := winBytes_zeros _ _ _ (by decide +kernel)

theorem calWin_1104 : crcRun (calRun.winBytes 525392 12) 0 = 0 := by decide +kernel

theorem calWin_1116 : calRun.winBytes 525404 1020 = List.replicate 1020 0 := winBytes_zeros _ _ _ (by decide +kernel)

theorem calWin_2136 : crcRun (calRun.winBytes 526424 12) 0 = 0 := by decide +kernel

theorem calWin_2148 : calRun.winBytes 526436 1020 = List.replicate 1020 0 := winBytes_zeros _ _ _ (by decide +kernel)

theorem calWin_3168 : crcRun (calRun.winBytes 527456 12) 0 = 0 := by decide +kernel

theorem calWin_3180 : calRun.winBytes 527468 508 = List.replicate 508 0 := winBytes_zeros _ _ _ (by decide +kernel)

theorem calWin_3688 : crcRun (calRun.winBytes 527976 12) 0 = 0 := by decide +kernel

theorem calWin_3700 : calRun.winBytes 527988 4488 = List.replicate 4488 0 := winBytes_zeros _ _ _ (by decide +kernel)

theorem calWin_crc : crc32 (calRun.winBytes 524288 8188) = 0xFFFFFFFF := by
  have h : calRun.winBytes 524288 8188 =
      calRun.winBytes 524288 76 ++ (calRun.winBytes 524364 508 ++ (calRun.winBytes 524872 20 ++ (calRun.winBytes
      524892 500 ++ (calRun.winBytes 525392 12 ++ (calRun.winBytes 525404 1020 ++ (calRun.winBytes 526424 12 ++
      (calRun.winBytes 526436 1020 ++ (calRun.winBytes 527456 12 ++ (calRun.winBytes 527468 508 ++
      (calRun.winBytes 527976 12 ++ (calRun.winBytes 527988 4488))))))))))) := by
    rw [← winBytes_add, ← winBytes_add, ← winBytes_add, ← winBytes_add, ← winBytes_add, ← winBytes_add, ← winBytes_add, ← winBytes_add, ← winBytes_add, ← winBytes_add, ← winBytes_add]
  rw [crc32, h]
  simp only [crcRun_append, crcRun_zeros, calWin_0, calWin_76, calWin_584, calWin_604, calWin_1104, calWin_1116,
    calWin_2136, calWin_2148, calWin_3168, calWin_3180, calWin_3688, calWin_3700]
  rfl

/-- Copy 0 is a good image. -/
theorem calWin_good : calRun.calBad (calRun.winBytes 0x80000 8192) = 0 := by
  have h : calRun.winBytes 0x80000 8192 = calRun.winBytes 0x80000 8188 ++ calRun.winBytes 532476 4 := winBytes_add _ _ 8188 4
  have hl : (calRun.winBytes 0x80000 8188).length = 8188 := by simp [State.winBytes]
  have h1 : crc32 ((calRun.winBytes 0x80000 8192).take 8188) = 0xFFFFFFFF := by
    rw [h, List.take_left' hl]
    exact calWin_crc
  have h2 : leAt (calRun.winBytes 0x80000 8192) 8188 4 = 0xFFFFFFFF := by
    rw [h, leAt, List.drop_left' hl]
    decide +kernel
  unfold State.calBad
  rw [h1, h2]
  decide +kernel

end Sys2Proof.Tests
end

