-- ==== Sys2Proof/Tests/Witness.lean ====
section
/-! SUPPORT. For every statement with hypotheses, a state and operands that meet them, clause by clause. -/

set_option linter.unusedVariables false
set_option Elab.async false

namespace Sys2Proof.Tests

open Sys2Proof Sys2Proof.Machine

/-- A state and operands that meet the hypotheses of each clause of ClockCommands. -/
theorem witness_ClockCommands :
  (let s : State := (fs run [(CLK_CTL_REF_MHZ, 1), (SPLL_N_INT, 786), (SPLL_F_NUM, 54), (SPLL_F_MOD, 125)]); let m : Master := .pcie; (s.reaches m SPLL_CMD) && (s.getF CLK_CTL_REF_MHZ != 0) && (decide (s.getF SPLL_F_NUM < s.getF SPLL_F_MOD)) && (dividerInRange (nominalHz (s.getF CLK_CTL_REF_MHZ)) (s.getF SPLL_N_INT) (s.getF SPLL_F_NUM) (s.getF SPLL_F_MOD))) = true ∧
  (let s : State := ({ fs run [(CLK_STAT_PEND, 1)] with clk := { commit := some (786, 54, 125, 7, true) } }); let i : Nat := 786; let n : Nat := 54; let m : Nat := 125; let sd : Nat := 7; let d : Bool := true; (s.clk.commit == some (i, n, m, sd, d))) = true ∧
  (let s : State := run; let m : Master := .pcie; let src : Nat := 2; (s.reaches m CLK_CTL) && (decide (src < 3))) = true ∧
  (let s : State := run; let mhz : Nat := 10000000000; (!s.pwr.inReset)) = true ∧
  (let s : State := ({ fs run [(CLK_STAT_STATE, 1), (CLK_CTL_SRC, 0), (CLK_HOLD_REF_QUAL_MS, 5)] with clk := { refDet := 1, refMs := 10 } }); let delta : Int := 0; (!s.pwr.inReset) && (s.spll == 1 || s.spll == 5) && (s.mayQualify)) = true ∧
  (let s : State := ({ fs run [(CLK_STAT_STATE, 2)] with clk := { refDet := 1 } }); (s.spll == 2) && (s.refPresent)) = true ∧
  (let s : State := (fs run [(CLK_STAT_STATE, 2)]); (s.spll == 2)) = true ∧
  (let s : State := (fs run [(CLK_STAT_STATE, 3)]); let tf : Nat := 0; (s.inLock)) = true ∧
  (let s : State := (fs run [(CLK_STAT_STATE, 5)]); (s.spll == 1 || s.spll == 5)) = true ∧
  (let s : State := (fs run [(CLK_STAT_STATE, 4)]); (s.spll == 4)) = true ∧
  (let s : State := ({ fs run [(FOLp_STAT_STATE 3, 3), (CLK_HOLD_BRIDGE_MS, 0)] with fol := { progs := [(3, { bridgeAt := some 0 })] } }); let p : Nat := 3; (!s.inLock) && (s.bridgeOver p) && (decide (2 ≤ s.getF (FOLp_STAT_STATE p))) && (!s.clk.faded.contains p)) = true ∧
  (let s : State := run; (s.liveRead .pcie CLK_SYSCNT_LO)) = true ∧
  (let s : State := run; let eth : Bool := true; let present : Bool := true; (!s.pwr.inReset)) = true := by
  decide +kernel

/-- A state and operands that meet the hypotheses of each clause of PtpPort. -/
theorem witness_PtpPort :
  (let s : State := ptp8; let p : PtpMsg := ⟨7, 0, 5, true, 0, 0, 100, 1000⟩; ((s.advance p.stamp).ptpFrom p) && (p.twoStep)) = true ∧
  (let s : State := ptp8; let p : PtpMsg := ⟨7, 0, 5, false, 0, 0, 100, 1000⟩; ((s.advance p.stamp).ptpFrom p) && (!p.twoStep) && (s.net.ptp.delays.isEmpty)) = true ∧
  (let s : State := ({ ptp8 with net := { ptp8.net with ptp := { ptp8.net.ptp with sync := some ⟨7, 0, 5, true, 0, 0, 100, 1000⟩ } } }); let p : PtpMsg := ⟨7, 0, 5, true, 0, 0, 150, 1000⟩; let m : PtpMsg := ⟨7, 0, 5, true, 0, 0, 100, 1000⟩; ((s.advance p.stamp).ptpFrom p) && (s.net.ptp.sync == some m) && (m.seq == p.seq) && (decide (p.stamp ≤ m.stamp + Config.ticksPerSecond)) && (s.net.ptp.delays.isEmpty)) = true ∧
  (let s : State := ({ ptp8 with net := { ptp8.net with ptp := { ptp8.net.ptp with req := some (5, 60), last := some (0, 50) } } }); let p : PtpMsg := ⟨7, 0, 5, false, 0, 0, 100, 1000⟩; let t3 : Nat := 60; let t2 : Nat := 50; let o : Int := 0; (s.net.ptp.req == some (p.seq, t3)) && (s.net.ptp.last == some (o, t2)) && (s.net.ptp.parent.map (·.src) == some p.src)) = true ∧
  (let s : State := (fs run [(NET_PTP_CTL_EN, 1), (NET_PTP_STAT_STATE, 4)]); let p : PtpAnn := ⟨7, 0, 1, 6, 0, 0, 1, 9, 0, 1000, 37, 100⟩; (s.flag NET_PTP_CTL_EN) && (p.domain == s.getF NET_PTP_CTL_DOMAIN) && (!s.flag NET_PTP_CTL_ROLE) && (s.net.ptp.parent.isNone)) = true ∧
  (let s : State := ptp8; let n : Nat := 1000000; let a : PtpAnn := ann7; (s.flag NET_PTP_CTL_EN) && (s.ptpState != 6) && (s.net.ptp.parent == some a) && (decide (a.stamp + s.getF NET_PTP_CTL_ANN_TO * a.interval ≤ n))) = true ∧
  (let s : State := (fs ptp8 [(NET_PTP_STAT_STATE, 9)]); let n : Nat := 1000; (s.ptpState == 9) && (decide (s.net.ptp.accAt + 4 * s.net.ptp.syncIv ≤ n))) = true ∧
  (let s : State := ptp8; let n : Nat := 500; (s.ptpState == 8 || s.ptpState == 9)) = true ∧
  (let s : State := (fs run [(NET_PTP_CTL_EN, 1), (NET_PTP_STAT_STATE, 6), (NET_PORTm_STAT_LINK 0, 1)]); let n : Nat := 500; (s.flag NET_PTP_CTL_EN) && (s.ptpState == 6) && (s.flag (NET_PORTm_STAT_LINK s.ptpPort)) && (dueAfter s.net.ptp.syncAt (logTicks (s.getI NET_PTP_CTL_SYNC_LOG)) n)) = true ∧
  (let s : State := (fs run [(NET_PTP_CTL_EN, 1), (NET_PTP_STAT_STATE, 6), (NET_PORTm_STAT_LINK 0, 1)]); let n : Nat := 500; (s.flag NET_PTP_CTL_EN) && (s.ptpState == 6) && (s.flag (NET_PORTm_STAT_LINK s.ptpPort)) && (dueAfter s.net.ptp.annAt (logTicks (s.getI NET_PTP_CTL_ANN_LOG)) n)) = true ∧
  (let s : State := (fs run [(NET_PTP_CTL_PPS, 1), (CLK_MAP_GEN_VALID, 1)]); let n : Nat := 3932160000; (s.flag NET_PTP_CTL_PPS) && (s.flag CLK_MAP_GEN_VALID) && (s.ptpCount ((s.ptpTime n + 500000000) / 1000000000 * 1000000000) == n)) = true ∧
  (let s : State := ({ run with pins := { ppsOut := true } }); let n : Nat := 50000000; (decide (s.net.ptp.ppsAt + 10 * Config.ticksPerMs ≤ n))) = true := by
  decide +kernel

/-- A state and operands that meet the hypotheses of each clause of AerialInputs. -/
theorem witness_AerialInputs :
  (let s : State := run; let m : Master := .pcie; (s.reaches m RFE_CMD) && (!s.feRunning 0) && (!(s.flag (RFEa_GSTAT_PROT 0) && s.flag (RFEa_GAIN_LNA 0) && !s.flag (RFEa_GSTAT_LNA_ACT 0))) && (s.counting)) = true ∧
  (let s : State := ({ fs run [(RFEa_GSTAT_PEND 1, 1), (RFEa_GAIN_LNA 1, 1), (RFEa_GAIN_ATT 1, 5)] with inputs := [(1, { boundary := 128 })] }); let a : Nat := 1; let n : Nat := 128; (decide (a < 2)) && (s.flag (RFEa_GSTAT_PEND a)) && ((s.input a).boundary == n)) = true ∧
  (let s : State := run; let a : Nat := 1; let n : Nat := 0; let clipped : Nat := 0; let peak : Int := (-1000); let avg : Int := (-1000); (decide (a < 2)) && (!s.pwr.inReset) && (decide (2 ≤ s.stage)) && (s.counting) && (n % Config.ticksPerMs == 0) && ((s.input a).ovl.meets clipped peak avg)) = true ∧
  (let s : State := (fs run [(RFEa_GSTAT_LNA_ACT 1, 1), (RFE_CTL_PROT_EN1, 1)]); let a : Nat := 1; (decide (a < 2)) && (!s.pwr.inReset) && (decide (2 ≤ s.stage)) && (s.flag (RFEa_GSTAT_LNA_ACT a))) = true ∧
  (let s : State := run; let a : Nat := 2; let ts : Nat := 0; let samples : List Nat := (List.replicate 64 0); let n : Nat := 0; let bad : Bool := false; (decide (a < 3)) && (!s.pwr.inReset) && (s.counting) && (samples.length == 64) && ((s.input a).next == ts)) = true := by
  decide +kernel

/-- A state and operands that meet the hypotheses of each clause of IzhamRegisterArithmetic. -/
theorem witness_IzhamRegisterArithmetic :
  (let s : State := iz; let h : IzHead := hs; let d : BitVec 4 := 1; let a : BitVec 4 := 4; let b : BitVec 4 := 3; let z : BitVec 4 := 0; (s.issues h (.frr .add d a b z))) = true ∧
  (let s : State := iz; let h : IzHead := h1; let d : BitVec 4 := 5; let a : BitVec 4 := 1; let b : BitVec 4 := 2; let z : BitVec 4 := 0; (s.issues h (.frr .sub d a b z))) = true ∧
  (let s : State := iz; let h : IzHead := h1; let d : BitVec 4 := 5; let a : BitVec 4 := 1; let b : BitVec 4 := 2; let z : BitVec 4 := 0; (s.issues h (.frr .and d a b z))) = true ∧
  (let s : State := iz; let h : IzHead := h1; let d : BitVec 4 := 5; let a : BitVec 4 := 1; let b : BitVec 4 := 2; let z : BitVec 4 := 0; (s.issues h (.frr .or d a b z))) = true ∧
  (let s : State := iz; let h : IzHead := h1; let d : BitVec 4 := 5; let a : BitVec 4 := 1; let b : BitVec 4 := 2; let z : BitVec 4 := 0; (s.issues h (.frr .xor d a b z))) = true ∧
  (let s : State := iz; let h : IzHead := hs; let d : BitVec 4 := 5; let a : BitVec 4 := 1; let b : BitVec 4 := 2; let z : BitVec 4 := 0; (s.issues h (.frr .shl d a b z))) = true ∧
  (let s : State := iz; let h : IzHead := h1; let d : BitVec 4 := 5; let a : BitVec 4 := 1; let b : BitVec 4 := 2; let z : BitVec 4 := 0; (s.issues h (.frr .shr d a b z))) = true ∧
  (let s : State := iz; let h : IzHead := h1; let d : BitVec 4 := 5; let a : BitVec 4 := 1; let b : BitVec 4 := 2; let z : BitVec 4 := 0; (s.issues h (.frr .sra d a b z))) = true ∧
  (let s : State := iz; let h : IzHead := h1; let d : BitVec 4 := 5; let a : BitVec 4 := 1; let b : BitVec 4 := 2; let z : BitVec 4 := 0; (s.issues h (.frr .mul d a b z))) = true ∧
  (let s : State := iz; let h : IzHead := hs; let d : BitVec 4 := 5; let a : BitVec 4 := 1; let b : BitVec 4 := 2; let z : BitVec 4 := 0; (s.issues h (.frr .mulh d a b z))) = true ∧
  (let s : State := iz; let h : IzHead := h1; let d : BitVec 4 := 5; let a : BitVec 4 := 1; let b : BitVec 4 := 2; let z : BitVec 4 := 0; (s.issues h (.frr .min d a b z))) = true ∧
  (let s : State := iz; let h : IzHead := h1; let d : BitVec 4 := 5; let a : BitVec 4 := 1; let b : BitVec 4 := 2; let z : BitVec 4 := 0; (s.issues h (.frr .max d a b z))) = true ∧
  (let s : State := iz; let h : IzHead := h1; let d : BitVec 4 := 5; let a : BitVec 4 := 1; let b : BitVec 4 := 2; let z : BitVec 4 := 0; (s.issues h (.frr .div d a b z)) && (((s.core h.core).reg b.toNat) != 0)) = true ∧
  (let s : State := iz; let h : IzHead := h1; let d : BitVec 4 := 5; let a : BitVec 4 := 1; let b : BitVec 4 := 2; let z : BitVec 4 := 0; (s.issues h (.frr .divu d a b z)) && (((s.core h.core).reg b.toNat) != 0)) = true ∧
  (let s : State := iz; let h : IzHead := h1; let d : BitVec 4 := 5; let a : BitVec 4 := 1; let b : BitVec 4 := 2; let z : BitVec 4 := 0; (s.issues h (.frr .rem d a b z)) && (((s.core h.core).reg b.toNat) != 0)) = true := by
  decide +kernel

/-- A state and operands that meet the hypotheses of each clause of IzhamImmediateArithmetic. -/
theorem witness_IzhamImmediateArithmetic :
  (let s : State := iz; let h : IzHead := ⟨1, [.ximm 0x7FFF, .sat], []⟩; let d : BitVec 4 := 6; let a : BitVec 4 := 3; let imm : BitVec 8 := 0xF0; (s.issues h (.fri .addi d a imm))) = true ∧
  (let s : State := iz; let h : IzHead := h1; let d : BitVec 4 := 6; let a : BitVec 4 := 3; let imm : BitVec 8 := 0xF0; (s.issues h (.fri .andi d a imm))) = true ∧
  (let s : State := iz; let h : IzHead := h1; let d : BitVec 4 := 6; let a : BitVec 4 := 3; let imm : BitVec 8 := 0xF0; (s.issues h (.fri .ori d a imm))) = true ∧
  (let s : State := iz; let h : IzHead := h1; let d : BitVec 4 := 6; let a : BitVec 4 := 3; let imm : BitVec 8 := 0xF0; (s.issues h (.fri .xori d a imm))) = true ∧
  (let s : State := iz; let h : IzHead := h1; let d : BitVec 4 := 6; let a : BitVec 4 := 3; let imm : BitVec 8 := 3; (s.issues h (.fri .shli d a imm))) = true ∧
  (let s : State := iz; let h : IzHead := h1; let d : BitVec 4 := 6; let a : BitVec 4 := 3; let imm : BitVec 8 := 3; (s.issues h (.fri .shri d a imm))) = true ∧
  (let s : State := iz; let h : IzHead := h1; let d : BitVec 4 := 6; let a : BitVec 4 := 3; let imm : BitVec 8 := 3; (s.issues h (.fri .srai d a imm))) = true ∧
  (let s : State := iz; let h : IzHead := h1; let d : BitVec 4 := 6; let a : BitVec 4 := 3; let imm : BitVec 8 := 0xF0; (s.issues h (.fri .muli d a imm))) = true ∧
  (let s : State := iz; let h : IzHead := h1; let d : BitVec 4 := 6; let a : BitVec 4 := 0; let imm : BitVec 8 := 0xF0; (s.issues h (.fri .movi d a imm))) = true := by
  decide +kernel

/-- A state and operands that meet the hypotheses of each clause of IzhamMovesAndStatus. -/
theorem witness_IzhamMovesAndStatus :
  (let s : State := iz; let h : IzHead := h1; let x : BitVec 4 := 7; let y : BitVec 4 := 3; (s.issues h (.fr .mov x y))) = true ∧
  (let s : State := iz; let h : IzHead := hs; let x : BitVec 4 := 7; let y : BitVec 4 := 4; (s.issues h (.fr .neg x y))) = true ∧
  (let s : State := iz; let h : IzHead := hs; let x : BitVec 4 := 7; let y : BitVec 4 := 4; (s.issues h (.fr .abs x y))) = true ∧
  (let s : State := iz; let h : IzHead := h1; let x : BitVec 4 := 7; let y : BitVec 4 := 3; (s.issues h (.fr .not x y))) = true ∧
  (let s : State := iz; let h : IzHead := h1; let x : BitVec 4 := 7; let y : BitVec 4 := 3; (s.issues h (.fr .clz x y))) = true ∧
  (let s : State := iz; let h : IzHead := h1; let x : BitVec 4 := 7; let y : BitVec 4 := 3; (s.issues h (.fr .sext8 x y))) = true ∧
  (let s : State := iz; let h : IzHead := h1; let x : BitVec 4 := 7; let y : BitVec 4 := 3; (s.issues h (.fr .sext16 x y))) = true ∧
  (let s : State := iz; let h : IzHead := h1; let x : BitVec 4 := 7; let y : BitVec 4 := 0; (s.issues h (.fr .mfsw x y))) = true ∧
  (let s : State := iz; let h : IzHead := h1; let x : BitVec 4 := 7; let y : BitVec 4 := 0; (s.issues h (.fr .mfsp x y))) = true ∧
  (let s : State := iz; let h : IzHead := h1; let x : BitVec 4 := 7; let y : BitVec 4 := 1; (s.issues h (.fr .mfp x y))) = true ∧
  (let s : State := iz; let h : IzHead := h1; let x : BitVec 4 := 0; let y : BitVec 4 := 1; (s.issues h (.fr .mtsp x y))) = true ∧
  (let s : State := iz; let h : IzHead := h1; let x : BitVec 4 := 0; let y : BitVec 4 := 4; (s.issues h (.fr .mtsw x y)) && (swOk ((s.core h.core).reg y.toNat).toNat) && (!(s.core h.core).tick.atLoopEnd (s.core h.core).pc.toNat)) = true ∧
  (let s : State := iz; let h : IzHead := h1; (s.issues h (.f0 .ei))) = true ∧
  (let s : State := iz; let h : IzHead := h1; (s.issues h (.f0 .di))) = true ∧
  (let s : State := iz; let h : IzHead := h1; (s.issues h (.f0 .nop)) && (s.straight h.core h.pre)) = true ∧
  (let s : State := ({ iz with cores := [(1, { (iz.core 1) with g := [(1, 0), (2, 0x30), (3, 64)] })] }); let h : IzHead := h1; let x : BitVec 4 := 1; let y : BitVec 4 := 3; (s.issues h (.fr .setsd x y)) && (sdOk (SegDesc.unpack (((s.core h.core).reg x.toNat).toNat + 2 ^ 24 * ((s.core h.core).reg (x.toNat + 1)).toNat + 2 ^ 48 * ((s.core h.core).reg (x.toNat + 2)).toNat))) && (decide (((s.core h.core).reg (x.toNat + 1)).toNat < 512))) = true ∧
  (let s : State := iz; let h : IzHead := h1; let x : BitVec 4 := 5; let y : BitVec 4 := 15; (s.issues h (.fr .getsd x y))) = true := by
  decide +kernel

/-- A state and operands that meet the hypotheses of each clause of IzhamMapOne. -/
theorem witness_IzhamMapOne :
  (let s : State := iz; let h : IzHead := h1; let d : BitVec 4 := 9; let x : BitVec 4 := 0; (s.issues h (.fx .mfls d x))) = true ∧
  (let s : State := iz; let h : IzHead := h1; let d : BitVec 4 := 9; let x : BitVec 4 := 0; (s.issues h (.fx .mfle d x))) = true ∧
  (let s : State := iz; let h : IzHead := h1; let d : BitVec 4 := 9; let x : BitVec 4 := 0; (s.issues h (.fx .mflc d x))) = true ∧
  (let s : State := iz; let h : IzHead := h1; let d : BitVec 4 := 9; let x : BitVec 4 := 0; (s.issues h (.fx .mfa d x))) = true ∧
  (let s : State := iz; let h : IzHead := h1; let d : BitVec 4 := 9; let x : BitVec 4 := 1; (s.issues h (.fx .mfpb d x))) = true ∧
  (let s : State := iz; let h : IzHead := h1; let d : BitVec 4 := 9; let x : BitVec 4 := 0; (s.issues h (.fx .core d x))) = true ∧
  (let s : State := iz; let h : IzHead := h1; let d : BitVec 4 := 1; let x : BitVec 4 := 2; (s.issues h (.fx .mtls d x))) = true ∧
  (let s : State := iz; let h : IzHead := h1; let d : BitVec 4 := 1; let x : BitVec 4 := 2; (s.issues h (.fx .mtle d x))) = true ∧
  (let s : State := iz; let h : IzHead := h1; let d : BitVec 4 := 1; let x : BitVec 4 := 2; (s.issues h (.fx .mtlc d x)) && (!(s.core h.core).tick.atLoopEnd (s.core h.core).pc.toNat)) = true ∧
  (let s : State := iz; let h : IzHead := h1; let d : BitVec 4 := 1; let x : BitVec 4 := 5; (s.issues h (.fx .mta d x)) && ((s.core h.core).ordered)) = true := by
  decide +kernel

/-- A state and operands that meet the hypotheses of each clause of IzhamBranches. -/
theorem witness_IzhamBranches :
  (let s : State := iz; let h : IzHead := h1; let a : BitVec 4 := 1; let b : BitVec 4 := 2; let disp : BitVec 16 := 0xFFF0; (s.issues h (.fb .eq a b disp))) = true ∧
  (let s : State := iz; let h : IzHead := h1; let a : BitVec 4 := 1; let z : BitVec 4 := 0; let imm : BitVec 8 := 5; let disp : BitVec 16 := 0xFFF0; (s.issues h (.fbi .eq a z imm disp))) = true ∧
  (let s : State := iz; let h : IzHead := h1; let a : BitVec 4 := 1; let b : BitVec 4 := 2; let disp : BitVec 16 := 0xFFF0; (s.issues h (.fb .ne a b disp))) = true ∧
  (let s : State := iz; let h : IzHead := h1; let a : BitVec 4 := 1; let z : BitVec 4 := 0; let imm : BitVec 8 := 5; let disp : BitVec 16 := 0xFFF0; (s.issues h (.fbi .ne a z imm disp))) = true ∧
  (let s : State := iz; let h : IzHead := h1; let a : BitVec 4 := 1; let b : BitVec 4 := 2; let disp : BitVec 16 := 0xFFF0; (s.issues h (.fb .lt a b disp))) = true ∧
  (let s : State := iz; let h : IzHead := h1; let a : BitVec 4 := 1; let z : BitVec 4 := 0; let imm : BitVec 8 := 5; let disp : BitVec 16 := 0xFFF0; (s.issues h (.fbi .lt a z imm disp))) = true ∧
  (let s : State := iz; let h : IzHead := h1; let a : BitVec 4 := 1; let b : BitVec 4 := 2; let disp : BitVec 16 := 0xFFF0; (s.issues h (.fb .ge a b disp))) = true ∧
  (let s : State := iz; let h : IzHead := h1; let a : BitVec 4 := 1; let z : BitVec 4 := 0; let imm : BitVec 8 := 5; let disp : BitVec 16 := 0xFFF0; (s.issues h (.fbi .ge a z imm disp))) = true ∧
  (let s : State := iz; let h : IzHead := h1; let a : BitVec 4 := 1; let b : BitVec 4 := 2; let disp : BitVec 16 := 0xFFF0; (s.issues h (.fb .ltu a b disp))) = true ∧
  (let s : State := iz; let h : IzHead := h1; let a : BitVec 4 := 1; let z : BitVec 4 := 0; let imm : BitVec 8 := 5; let disp : BitVec 16 := 0xFFF0; (s.issues h (.fbi .ltu a z imm disp))) = true ∧
  (let s : State := iz; let h : IzHead := h1; let a : BitVec 4 := 1; let b : BitVec 4 := 2; let disp : BitVec 16 := 0xFFF0; (s.issues h (.fb .geu a b disp))) = true ∧
  (let s : State := iz; let h : IzHead := h1; let a : BitVec 4 := 1; let z : BitVec 4 := 0; let imm : BitVec 8 := 5; let disp : BitVec 16 := 0xFFF0; (s.issues h (.fbi .geu a z imm disp))) = true ∧
  (let s : State := iz; let h : IzHead := h1; let z0 : BitVec 4 := 0; let z1 : BitVec 4 := 0; let disp : BitVec 16 := 8; (s.issues h (.br z0 z1 disp))) = true ∧
  (let s : State := iz; let h : IzHead := h1; let dest : BitVec 24 := 0x1234; (s.issues h (.fj false dest))) = true ∧
  (let s : State := iz; let h : IzHead := h1; let x : BitVec 4 := 0; let y : BitVec 4 := 1; (s.issues h (.fr .jmpr x y))) = true ∧
  (let s : State := iz; let h : IzHead := h1; let dest : BitVec 24 := 0x100; (s.issues h (.fj true dest)) && (decide (0 < (s.core h.core).sp.toNat)) && (decide ((s.core h.core).sp.toNat - 1 < ((s.core h.core).desc 15).limit)) && (((s.core h.core).desc 15).inRam ((s.core h.core).sp.toNat - 1))) = true ∧
  (let s : State := iz; let h : IzHead := h1; let x : BitVec 4 := 0; let y : BitVec 4 := 2; (s.issues h (.fr .callr x y)) && (decide (0 < (s.core h.core).sp.toNat)) && (decide ((s.core h.core).sp.toNat - 1 < ((s.core h.core).desc 15).limit)) && (((s.core h.core).desc 15).inRam ((s.core h.core).sp.toNat - 1))) = true ∧
  (let s : State := iz; let h : IzHead := h1; (s.issues h (.f0 .ret)) && (decide ((s.core h.core).sp.toNat < ((s.core h.core).desc 15).limit)) && (((s.core h.core).desc 15).inRam (s.core h.core).sp.toNat)) = true ∧
  (let s : State := ({ iz with cores := [(1, { (iz.core 1) with ram := [(100, 0xC20400), (101, 0x200), (102, 0x90)] })] }); let h : IzHead := h1; (s.issues h (.f0 .rti)) && (swOk ((s.core h.core).ramWord ((s.core h.core).desc 15) (s.core h.core).sp.toNat).toNat) && (decide ((s.core h.core).sp.toNat + (if ((s.core h.core).ramWord ((s.core h.core).desc 15) (s.core h.core).sp.toNat).getLsbD 22 then 3 else 2) ≤ ((s.core h.core).desc 15).limit)) && (((s.core h.core).desc 15).inRam (s.core h.core).sp.toNat) && (((s.core h.core).desc 15).inRam ((s.core h.core).sp.toNat + 1)) && (((s.core h.core).desc 15).inRam ((s.core h.core).sp.toNat + 2)) && (((s.core h.core).desc 15).mode == 0)) = true := by
  decide +kernel

/-- A state and operands that meet the hypotheses of each clause of IzhamStack. -/
theorem witness_IzhamStack :
  (let s : State := iz; let h : IzHead := h1; let x : BitVec 4 := 0; let y : BitVec 4 := 3; (s.issues h (.fr .push x y)) && (decide (0 < (s.core h.core).sp.toNat)) && (decide ((s.core h.core).sp.toNat - 1 < ((s.core h.core).desc 15).limit)) && (((s.core h.core).desc 15).inRam ((s.core h.core).sp.toNat - 1))) = true ∧
  (let s : State := iz; let h : IzHead := h1; let x : BitVec 4 := 8; let y : BitVec 4 := 0; (s.issues h (.fr .pop x y)) && (decide ((s.core h.core).sp.toNat < ((s.core h.core).desc 15).limit)) && (((s.core h.core).desc 15).inRam (s.core h.core).sp.toNat)) = true ∧
  (let s : State := iz; let h : IzHead := h1; let x : BitVec 4 := 0; let y : BitVec 4 := 1; (s.issues h (.fr .pusha x y)) && (decide (3 ≤ (s.core h.core).sp.toNat)) && (decide ((s.core h.core).sp.toNat ≤ ((s.core h.core).desc 15).limit)) && (((s.core h.core).desc 15).inRam ((s.core h.core).sp.toNat - 1)) && (((s.core h.core).desc 15).inRam ((s.core h.core).sp.toNat - 2)) && (((s.core h.core).desc 15).inRam ((s.core h.core).sp.toNat - 3)) && (((s.core h.core).desc 15).mode == 0)) = true ∧
  (let s : State := iz; let h : IzHead := h1; let x : BitVec 4 := 0; let y : BitVec 4 := 2; (s.issues h (.fr .popa x y)) && (decide ((s.core h.core).sp.toNat + 3 ≤ ((s.core h.core).desc 15).limit)) && (((s.core h.core).desc 15).inRam (s.core h.core).sp.toNat) && (((s.core h.core).desc 15).inRam ((s.core h.core).sp.toNat + 1)) && (((s.core h.core).desc 15).inRam ((s.core h.core).sp.toNat + 2)) && (((s.core h.core).desc 15).mode == 0)) = true ∧
  (let s : State := ({ iz with cores := [(1, { (iz.core 1) with sp := 196608 })] }); let h : IzHead := h1; let x : BitVec 4 := 1; let y : BitVec 4 := 0; (s.issues h (.fr .pop x y)) && (decide (((s.core h.core).desc 15).limit ≤ (s.core h.core).sp.toNat)) && ((s.settled h.core).entryOk) && (s.straight h.core h.pre)) = true ∧
  (let s : State := ({ iz with cores := [(1, { (iz.core 1) with sp := 196608 })] }); let h : IzHead := h1; let x : BitVec 4 := 0; let y : BitVec 4 := 1; (s.issues h (.fr .popa x y)) && (decide (((s.core h.core).desc 15).limit < (s.core h.core).sp.toNat + 3)) && ((s.settled h.core).entryOk) && (s.straight h.core h.pre)) = true ∧
  (let s : State := ({ iz with cores := [(1, { (iz.core 1) with sp := 0 })] }); let h : IzHead := h1; let x : BitVec 4 := 0; let y : BitVec 4 := 1; (s.issues h (.fr .push x y)) && ((s.core h.core).sp.toNat == 0) && ((s.settled h.core).sp.toNat == 0)) = true ∧
  (let s : State := ({ iz with cores := [(1, { (iz.core 1) with sp := 0 })] }); let h : IzHead := h1; let x : BitVec 4 := 0; let y : BitVec 4 := 1; (s.issues h (.fr .pusha x y)) && ((s.core h.core).sp.toNat == 0) && ((s.settled h.core).sp.toNat == 0)) = true := by
  decide +kernel

/-- A state and operands that meet the hypotheses of each clause of IzhamLoadsAndStores. -/
theorem witness_IzhamLoadsAndStores :
  (let s : State := iz; let h : IzHead := h1; let g : BitVec 4 := 8; let m : BitVec 1 := 1; let n : BitVec 3 := 1; let x : BitVec 8 := 4; (s.issues h (.fm .ld g m n x)) && (decide ((if m = 1 then ((s.core h.core).ptr n.toNat).toNat else (((s.core h.core).ptr n.toNat) + (immOf h.pre x)).toNat) + 1 ≤ ((s.core h.core).desc ((segoOf h.pre).getD ((s.core h.core).bind n.toNat))).limit)) && (((s.core h.core).desc ((segoOf h.pre).getD ((s.core h.core).bind n.toNat))).inRam (if m = 1 then ((s.core h.core).ptr n.toNat).toNat else (((s.core h.core).ptr n.toNat) + (immOf h.pre x)).toNat)) && (((s.core h.core).desc ((segoOf h.pre).getD ((s.core h.core).bind n.toNat))).mode == 0)) = true ∧
  (let s : State := izm; let h : IzHead := h1; let g : BitVec 4 := 8; let m : BitVec 1 := 1; let n : BitVec 3 := 1; let x : BitVec 8 := 4; (s.issues h (.fm .ld g m n x)) && (decide ((if m = 1 then ((s.core h.core).ptr n.toNat).toNat else (((s.core h.core).ptr n.toNat) + (immOf h.pre x)).toNat) + 1 ≤ ((s.core h.core).desc ((segoOf h.pre).getD ((s.core h.core).bind n.toNat))).limit)) && (decide (((s.core h.core).desc ((segoOf h.pre).getD ((s.core h.core).bind n.toNat))).mode < 3)) && (decide ((((s.core h.core).desc ((segoOf h.pre).getD ((s.core h.core).bind n.toNat))).addr (if m = 1 then ((s.core h.core).ptr n.toNat).toNat else (((s.core h.core).ptr n.toNat) + (immOf h.pre x)).toNat)) + 1 * (modeBytes ((s.core h.core).desc ((segoOf h.pre).getD ((s.core h.core).bind n.toNat))).mode) ≤ marrowSize)) && (s.flag MRW_STAT_INIT_DONE) && (h.replies.isEmpty) && ((List.range 3).all (fun j => s.permits ⟨256 + h.core, 0, false, (((s.core h.core).desc ((segoOf h.pre).getD ((s.core h.core).bind n.toNat))).addr (if m = 1 then ((s.core h.core).ptr n.toNat).toNat else (((s.core h.core).ptr n.toNat) + (immOf h.pre x)).toNat)) / 64 * 64 + 64 * j, 64, []⟩))) = true ∧
  (let s : State := iz; let h : IzHead := h1; let g : BitVec 4 := 8; let m : BitVec 1 := 1; let n : BitVec 3 := 1; let x : BitVec 8 := 0x20; (s.issues h (.fm .ldx g m n x)) && (decide ((if m = 1 then ((s.core h.core).ptr n.toNat).toNat else (((s.core h.core).ptr n.toNat) + ((s.core h.core).reg (nibHi x).toNat)).toNat) + 1 ≤ ((s.core h.core).desc ((segoOf h.pre).getD ((s.core h.core).bind n.toNat))).limit)) && (((s.core h.core).desc ((segoOf h.pre).getD ((s.core h.core).bind n.toNat))).inRam (if m = 1 then ((s.core h.core).ptr n.toNat).toNat else (((s.core h.core).ptr n.toNat) + ((s.core h.core).reg (nibHi x).toNat)).toNat)) && (((s.core h.core).desc ((segoOf h.pre).getD ((s.core h.core).bind n.toNat))).mode == 0)) = true ∧
  (let s : State := izm; let h : IzHead := h1; let g : BitVec 4 := 8; let m : BitVec 1 := 1; let n : BitVec 3 := 1; let x : BitVec 8 := 0x20; (s.issues h (.fm .ldx g m n x)) && (decide ((if m = 1 then ((s.core h.core).ptr n.toNat).toNat else (((s.core h.core).ptr n.toNat) + ((s.core h.core).reg (nibHi x).toNat)).toNat) + 1 ≤ ((s.core h.core).desc ((segoOf h.pre).getD ((s.core h.core).bind n.toNat))).limit)) && (decide (((s.core h.core).desc ((segoOf h.pre).getD ((s.core h.core).bind n.toNat))).mode < 3)) && (decide ((((s.core h.core).desc ((segoOf h.pre).getD ((s.core h.core).bind n.toNat))).addr (if m = 1 then ((s.core h.core).ptr n.toNat).toNat else (((s.core h.core).ptr n.toNat) + ((s.core h.core).reg (nibHi x).toNat)).toNat)) + 1 * (modeBytes ((s.core h.core).desc ((segoOf h.pre).getD ((s.core h.core).bind n.toNat))).mode) ≤ marrowSize)) && (s.flag MRW_STAT_INIT_DONE) && (h.replies.isEmpty) && ((List.range 3).all (fun j => s.permits ⟨256 + h.core, 0, false, (((s.core h.core).desc ((segoOf h.pre).getD ((s.core h.core).bind n.toNat))).addr (if m = 1 then ((s.core h.core).ptr n.toNat).toNat else (((s.core h.core).ptr n.toNat) + ((s.core h.core).reg (nibHi x).toNat)).toNat)) / 64 * 64 + 64 * j, 64, []⟩))) = true ∧
  (let s : State := iz; let h : IzHead := h1; let g : BitVec 4 := 2; let m : BitVec 1 := 1; let n : BitVec 3 := 1; let x : BitVec 8 := 4; (s.issues h (.fm .ldc g m n x)) && (decide ((if m = 1 then ((s.core h.core).ptr n.toNat).toNat else (((s.core h.core).ptr n.toNat) + (immOf h.pre x)).toNat) + 2 ≤ ((s.core h.core).desc ((segoOf h.pre).getD ((s.core h.core).bind n.toNat))).limit)) && ((if m = 1 then ((s.core h.core).ptr n.toNat).toNat else (((s.core h.core).ptr n.toNat) + (immOf h.pre x)).toNat) % 2 == 0) && (((s.core h.core).desc ((segoOf h.pre).getD ((s.core h.core).bind n.toNat))).inRam (if m = 1 then ((s.core h.core).ptr n.toNat).toNat else (((s.core h.core).ptr n.toNat) + (immOf h.pre x)).toNat)) && (((s.core h.core).desc ((segoOf h.pre).getD ((s.core h.core).bind n.toNat))).mode == 0) && (((s.core h.core).desc ((segoOf h.pre).getD ((s.core h.core).bind n.toNat))).inRam ((if m = 1 then ((s.core h.core).ptr n.toNat).toNat else (((s.core h.core).ptr n.toNat) + (immOf h.pre x)).toNat) + 1))) = true ∧
  (let s : State := izm; let h : IzHead := h1; let g : BitVec 4 := 2; let m : BitVec 1 := 1; let n : BitVec 3 := 1; let x : BitVec 8 := 4; (s.issues h (.fm .ldc g m n x)) && (decide ((if m = 1 then ((s.core h.core).ptr n.toNat).toNat else (((s.core h.core).ptr n.toNat) + (immOf h.pre x)).toNat) + 2 ≤ ((s.core h.core).desc ((segoOf h.pre).getD ((s.core h.core).bind n.toNat))).limit)) && ((if m = 1 then ((s.core h.core).ptr n.toNat).toNat else (((s.core h.core).ptr n.toNat) + (immOf h.pre x)).toNat) % 2 == 0) && (decide (((s.core h.core).desc ((segoOf h.pre).getD ((s.core h.core).bind n.toNat))).mode < 3)) && (decide ((((s.core h.core).desc ((segoOf h.pre).getD ((s.core h.core).bind n.toNat))).addr (if m = 1 then ((s.core h.core).ptr n.toNat).toNat else (((s.core h.core).ptr n.toNat) + (immOf h.pre x)).toNat)) + 2 * (modeBytes ((s.core h.core).desc ((segoOf h.pre).getD ((s.core h.core).bind n.toNat))).mode) ≤ marrowSize)) && (s.flag MRW_STAT_INIT_DONE) && (h.replies.isEmpty) && ((List.range 3).all (fun j => s.permits ⟨256 + h.core, 0, false, (((s.core h.core).desc ((segoOf h.pre).getD ((s.core h.core).bind n.toNat))).addr (if m = 1 then ((s.core h.core).ptr n.toNat).toNat else (((s.core h.core).ptr n.toNat) + (immOf h.pre x)).toNat)) / 64 * 64 + 64 * j, 64, []⟩))) = true ∧
  (let s : State := iz; let h : IzHead := h1; let g : BitVec 4 := 8; let m : BitVec 1 := 1; let n : BitVec 3 := 1; let x : BitVec 8 := 4; (s.issues h (.fm .st g m n x)) && (decide ((if m = 1 then ((s.core h.core).ptr n.toNat).toNat else (((s.core h.core).ptr n.toNat) + (immOf h.pre x)).toNat) + 1 ≤ ((s.core h.core).desc ((segoOf h.pre).getD ((s.core h.core).bind n.toNat))).limit)) && (!((s.core h.core).desc ((segoOf h.pre).getD ((s.core h.core).bind n.toNat))).wp) && (((s.core h.core).desc ((segoOf h.pre).getD ((s.core h.core).bind n.toNat))).inRam (if m = 1 then ((s.core h.core).ptr n.toNat).toNat else (((s.core h.core).ptr n.toNat) + (immOf h.pre x)).toNat)) && (((s.core h.core).desc ((segoOf h.pre).getD ((s.core h.core).bind n.toNat))).mode == 0)) = true ∧
  (let s : State := izm; let h : IzHead := h1; let g : BitVec 4 := 8; let m : BitVec 1 := 1; let n : BitVec 3 := 1; let x : BitVec 8 := 4; (s.issues h (.fm .st g m n x)) && (decide ((if m = 1 then ((s.core h.core).ptr n.toNat).toNat else (((s.core h.core).ptr n.toNat) + (immOf h.pre x)).toNat) + 1 ≤ ((s.core h.core).desc ((segoOf h.pre).getD ((s.core h.core).bind n.toNat))).limit)) && (!((s.core h.core).desc ((segoOf h.pre).getD ((s.core h.core).bind n.toNat))).wp) && (decide (((s.core h.core).desc ((segoOf h.pre).getD ((s.core h.core).bind n.toNat))).mode < 3)) && (decide ((((s.core h.core).desc ((segoOf h.pre).getD ((s.core h.core).bind n.toNat))).addr (if m = 1 then ((s.core h.core).ptr n.toNat).toNat else (((s.core h.core).ptr n.toNat) + (immOf h.pre x)).toNat)) + 1 * (modeBytes ((s.core h.core).desc ((segoOf h.pre).getD ((s.core h.core).bind n.toNat))).mode) ≤ marrowSize)) && ((s.core h.core).wc.isEmpty)) = true ∧
  (let s : State := iz; let h : IzHead := h1; let g : BitVec 4 := 8; let m : BitVec 1 := 1; let n : BitVec 3 := 1; let x : BitVec 8 := 0x20; (s.issues h (.fm .stx g m n x)) && (decide ((if m = 1 then ((s.core h.core).ptr n.toNat).toNat else (((s.core h.core).ptr n.toNat) + ((s.core h.core).reg (nibHi x).toNat)).toNat) + 1 ≤ ((s.core h.core).desc ((segoOf h.pre).getD ((s.core h.core).bind n.toNat))).limit)) && (!((s.core h.core).desc ((segoOf h.pre).getD ((s.core h.core).bind n.toNat))).wp) && (((s.core h.core).desc ((segoOf h.pre).getD ((s.core h.core).bind n.toNat))).inRam (if m = 1 then ((s.core h.core).ptr n.toNat).toNat else (((s.core h.core).ptr n.toNat) + ((s.core h.core).reg (nibHi x).toNat)).toNat)) && (((s.core h.core).desc ((segoOf h.pre).getD ((s.core h.core).bind n.toNat))).mode == 0)) = true ∧
  (let s : State := izm; let h : IzHead := h1; let g : BitVec 4 := 8; let m : BitVec 1 := 1; let n : BitVec 3 := 1; let x : BitVec 8 := 0x20; (s.issues h (.fm .stx g m n x)) && (decide ((if m = 1 then ((s.core h.core).ptr n.toNat).toNat else (((s.core h.core).ptr n.toNat) + ((s.core h.core).reg (nibHi x).toNat)).toNat) + 1 ≤ ((s.core h.core).desc ((segoOf h.pre).getD ((s.core h.core).bind n.toNat))).limit)) && (!((s.core h.core).desc ((segoOf h.pre).getD ((s.core h.core).bind n.toNat))).wp) && (decide (((s.core h.core).desc ((segoOf h.pre).getD ((s.core h.core).bind n.toNat))).mode < 3)) && (decide ((((s.core h.core).desc ((segoOf h.pre).getD ((s.core h.core).bind n.toNat))).addr (if m = 1 then ((s.core h.core).ptr n.toNat).toNat else (((s.core h.core).ptr n.toNat) + ((s.core h.core).reg (nibHi x).toNat)).toNat)) + 1 * (modeBytes ((s.core h.core).desc ((segoOf h.pre).getD ((s.core h.core).bind n.toNat))).mode) ≤ marrowSize)) && ((s.core h.core).wc.isEmpty)) = true ∧
  (let s : State := iz; let h : IzHead := h1; let g : BitVec 4 := 2; let m : BitVec 1 := 1; let n : BitVec 3 := 1; let x : BitVec 8 := 4; (s.issues h (.fm .stc g m n x)) && (decide ((if m = 1 then ((s.core h.core).ptr n.toNat).toNat else (((s.core h.core).ptr n.toNat) + (immOf h.pre x)).toNat) + 2 ≤ ((s.core h.core).desc ((segoOf h.pre).getD ((s.core h.core).bind n.toNat))).limit)) && ((if m = 1 then ((s.core h.core).ptr n.toNat).toNat else (((s.core h.core).ptr n.toNat) + (immOf h.pre x)).toNat) % 2 == 0) && (!((s.core h.core).desc ((segoOf h.pre).getD ((s.core h.core).bind n.toNat))).wp) && (((s.core h.core).desc ((segoOf h.pre).getD ((s.core h.core).bind n.toNat))).inRam (if m = 1 then ((s.core h.core).ptr n.toNat).toNat else (((s.core h.core).ptr n.toNat) + (immOf h.pre x)).toNat)) && (((s.core h.core).desc ((segoOf h.pre).getD ((s.core h.core).bind n.toNat))).mode == 0) && (((s.core h.core).desc ((segoOf h.pre).getD ((s.core h.core).bind n.toNat))).inRam ((if m = 1 then ((s.core h.core).ptr n.toNat).toNat else (((s.core h.core).ptr n.toNat) + (immOf h.pre x)).toNat) + 1))) = true ∧
  (let s : State := izm; let h : IzHead := h1; let g : BitVec 4 := 2; let m : BitVec 1 := 1; let n : BitVec 3 := 1; let x : BitVec 8 := 4; (s.issues h (.fm .stc g m n x)) && (decide ((if m = 1 then ((s.core h.core).ptr n.toNat).toNat else (((s.core h.core).ptr n.toNat) + (immOf h.pre x)).toNat) + 2 ≤ ((s.core h.core).desc ((segoOf h.pre).getD ((s.core h.core).bind n.toNat))).limit)) && ((if m = 1 then ((s.core h.core).ptr n.toNat).toNat else (((s.core h.core).ptr n.toNat) + (immOf h.pre x)).toNat) % 2 == 0) && (!((s.core h.core).desc ((segoOf h.pre).getD ((s.core h.core).bind n.toNat))).wp) && (decide (((s.core h.core).desc ((segoOf h.pre).getD ((s.core h.core).bind n.toNat))).mode < 3)) && (decide ((((s.core h.core).desc ((segoOf h.pre).getD ((s.core h.core).bind n.toNat))).addr (if m = 1 then ((s.core h.core).ptr n.toNat).toNat else (((s.core h.core).ptr n.toNat) + (immOf h.pre x)).toNat)) + 2 * (modeBytes ((s.core h.core).desc ((segoOf h.pre).getD ((s.core h.core).bind n.toNat))).mode) ≤ marrowSize)) && ((s.core h.core).wc.isEmpty)) = true ∧
  (let s : State := iz; let h : IzHead := h1; let g : BitVec 4 := 1; let m : BitVec 1 := 0; let n : BitVec 3 := 3; let x : BitVec 8 := 0xF0; (s.issues h (.fm .ldp g m n x))) = true ∧
  (let s : State := iz; let h : IzHead := h1; let g : BitVec 4 := 0; let m : BitVec 1 := 0; let n : BitVec 3 := 1; let x : BitVec 8 := 0xFF; (s.issues h (.fm .addp g m n x))) = true ∧
  (let s : State := izw; let h : IzHead := h1; (s.issues h (.f0 .sync)) && (decide ((s.core h.core).wc.length ≤ 8)) && (h.replies.isEmpty) && (s.flag MRW_STAT_INIT_DONE) && ((s.core h.core).wc.all (fun l => s.permits ⟨256 + h.core, 0, true, l.addr, 64, []⟩)) && ((s.core h.core).wc.all (fun l => l.addr % 64 == 0 && l.bytes.all fun p => p.1 < 64)) && (decide (((s.core h.core).wc.map (·.addr)).Nodup)) && ((s.core h.core).wc.all (fun l => decide ((l.bytes.map (·.1)).Nodup)))) = true := by
  decide +kernel

/-- A state and operands that meet the hypotheses of each clause of IzhamAccumulators. -/
theorem witness_IzhamAccumulators :
  (let s : State := iz; let h : IzHead := h1; let b1 : BitVec 8 := 0x43; let k : BitVec 2 := 0; let x : BitVec 6 := 0; (s.issues h (.fa .mpy b1 k x))) = true ∧
  (let s : State := iz; let h : IzHead := h1; let b1 : BitVec 8 := 0x43; let k : BitVec 2 := 0; let x : BitVec 6 := 0; (s.issues h (.fa .mac b1 k x))) = true ∧
  (let s : State := iz; let h : IzHead := h1; let b1 : BitVec 8 := 0x43; let k : BitVec 2 := 0; let x : BitVec 6 := 0; (s.issues h (.fa .msu b1 k x))) = true ∧
  (let s : State := iz; let h : IzHead := h1; let b1 : BitVec 8 := 0; let k : BitVec 2 := 0; let x : BitVec 6 := 0; (s.issues h (.fa .clra b1 k x))) = true ∧
  (let s : State := iz; let h : IzHead := h1; let b1 : BitVec 8 := 0x10; let k : BitVec 2 := 0; let x : BitVec 6 := 0; (s.issues h (.fa .mova b1 k x))) = true ∧
  (let s : State := iz; let h : IzHead := h1; let b1 : BitVec 8 := 0; let k : BitVec 2 := 0; let x : BitVec 6 := 0x10; (s.issues h (.fa .adda b1 k x))) = true ∧
  (let s : State := iz; let h : IzHead := h1; let b1 : BitVec 8 := 0; let k : BitVec 2 := 0; let x : BitVec 6 := 0x1E; (s.issues h (.fa .sha b1 k x))) = true ∧
  (let s : State := iz; let h : IzHead := h1; let b1 : BitVec 8 := 0x50; let k : BitVec 2 := 0; let x : BitVec 6 := 3; (s.issues h (.fa .ext b1 k x))) = true ∧
  (let s : State := iz; let h : IzHead := h1; let b1 : BitVec 8 := 0x12; let k : BitVec 2 := 0; let x : BitVec 6 := 0; (s.issues h (.fa .macp b1 k x)) && (decide (((s.core h.core).ptr (b1.toNat / 16)).toNat + 1 ≤ ((s.core h.core).desc ((s.core h.core).bind (b1.toNat / 16))).limit)) && (((s.core h.core).desc ((s.core h.core).bind (b1.toNat / 16))).inRam ((s.core h.core).ptr (b1.toNat / 16)).toNat) && (decide (((s.core h.core).ptr (b1.toNat % 16)).toNat + 1 ≤ ((s.core h.core).desc ((s.core h.core).bind (b1.toNat % 16))).limit)) && (((s.core h.core).desc ((s.core h.core).bind (b1.toNat % 16))).inRam ((s.core h.core).ptr (b1.toNat % 16)).toNat) && ((b1.toNat / 16) != (b1.toNat % 16))) = true ∧
  (let s : State := iz; let h : IzHead := h1; let b1 : BitVec 8 := 0x12; let k : BitVec 2 := 0; let x : BitVec 6 := 0; (s.issues h (.fa .cmac b1 k x)) && (decide (((s.core h.core).ptr (b1.toNat / 16)).toNat + 2 ≤ ((s.core h.core).desc ((s.core h.core).bind (b1.toNat / 16))).limit)) && (((s.core h.core).desc ((s.core h.core).bind (b1.toNat / 16))).inRam ((s.core h.core).ptr (b1.toNat / 16)).toNat) && (((s.core h.core).ptr (b1.toNat / 16)).toNat % 2 == 0) && (((s.core h.core).desc ((s.core h.core).bind (b1.toNat / 16))).mode == 0) && (decide (((s.core h.core).ptr (b1.toNat % 16)).toNat + 2 ≤ ((s.core h.core).desc ((s.core h.core).bind (b1.toNat % 16))).limit)) && (((s.core h.core).desc ((s.core h.core).bind (b1.toNat % 16))).inRam ((s.core h.core).ptr (b1.toNat % 16)).toNat) && (((s.core h.core).ptr (b1.toNat % 16)).toNat % 2 == 0) && (((s.core h.core).desc ((s.core h.core).bind (b1.toNat % 16))).mode == 0) && ((b1.toNat / 16) != (b1.toNat % 16))) = true ∧
  (let s : State := iz; let h : IzHead := h1; let b1 : BitVec 8 := 0x12; let k : BitVec 2 := 0; let x : BitVec 6 := 0; (s.issues h (.fa .cmacj b1 k x)) && (decide (((s.core h.core).ptr (b1.toNat / 16)).toNat + 2 ≤ ((s.core h.core).desc ((s.core h.core).bind (b1.toNat / 16))).limit)) && (((s.core h.core).desc ((s.core h.core).bind (b1.toNat / 16))).inRam ((s.core h.core).ptr (b1.toNat / 16)).toNat) && (((s.core h.core).ptr (b1.toNat / 16)).toNat % 2 == 0) && (((s.core h.core).desc ((s.core h.core).bind (b1.toNat / 16))).mode == 0) && (decide (((s.core h.core).ptr (b1.toNat % 16)).toNat + 2 ≤ ((s.core h.core).desc ((s.core h.core).bind (b1.toNat % 16))).limit)) && (((s.core h.core).desc ((s.core h.core).bind (b1.toNat % 16))).inRam ((s.core h.core).ptr (b1.toNat % 16)).toNat) && (((s.core h.core).ptr (b1.toNat % 16)).toNat % 2 == 0) && (((s.core h.core).desc ((s.core h.core).bind (b1.toNat % 16))).mode == 0) && ((b1.toNat / 16) != (b1.toNat % 16))) = true := by
  decide +kernel

/-- A state and operands that meet the hypotheses of each clause of LoopSetUp. -/
theorem witness_LoopSetUp :
  (let s : State := iz; let h : IzHead := h1; let count : BitVec 16 := 9; let disp : BitVec 16 := 4; (s.issues h (.loop count disp)) && (decide ((s.core h.core).ldepth < 4)) && (count.toNat != 0) && ((s.core h.core).pendLeft (.le (s.core h.core).ldepth) == 0) && ((s.core h.core).pendLeft .ldepth == 0)) = true ∧
  (let s : State := iz; let h : IzHead := h1; let count : BitVec 16 := 0; let disp : BitVec 16 := 4; (s.issues h (.loop count disp)) && (decide ((s.core h.core).ldepth < 4)) && (count.toNat == 0)) = true ∧
  (let s : State := ({ iz with cores := [(1, { (iz.core 1) with ldepth := 4 })] }); let h : IzHead := h1; let count : BitVec 16 := 9; let disp : BitVec 16 := 4; (s.issues h (.loop count disp)) && ((s.core h.core).ldepth == 4) && ((s.settled h.core).entryOk) && (s.straight h.core h.pre)) = true ∧
  (let s : State := iz; let h : IzHead := h1; let c : BitVec 4 := 1; let z : BitVec 4 := 0; let disp : BitVec 16 := 4; (s.issues h (.loopr c z disp)) && (decide ((s.core h.core).ldepth < 4)) && (((s.core h.core).reg c.toNat).toNat != 0) && ((s.core h.core).pendLeft (.le (s.core h.core).ldepth) == 0) && ((s.core h.core).pendLeft .ldepth == 0)) = true ∧
  (let s : State := iz; let h : IzHead := h1; let c : BitVec 4 := 7; let z : BitVec 4 := 0; let disp : BitVec 16 := 4; (s.issues h (.loopr c z disp)) && (decide ((s.core h.core).ldepth < 4)) && (((s.core h.core).reg c.toNat).toNat == 0)) = true ∧
  (let s : State := ({ iz with cores := [(1, { (iz.core 1) with ldepth := 4 })] }); let h : IzHead := h1; let c : BitVec 4 := 1; let z : BitVec 4 := 0; let disp : BitVec 16 := 4; (s.issues h (.loopr c z disp)) && ((s.core h.core).ldepth == 4) && ((s.settled h.core).entryOk) && (s.straight h.core h.pre)) = true := by
  decide +kernel

/-- A state and operands that meet the hypotheses of each clause of LoopEndAndExit. -/
theorem witness_LoopEndAndExit :
  (let s : State := ({ iz with cores := [(1, { (iz.core 1) with ldepth := 1, ls := [(0, 0x20)], le := [(0, 0x40)], lc := [(0, 3)] })] }); let h : IzHead := h1; (s.issues h (.f0 .nop)) && ((s.core h.core).tick.atLoopEnd (s.core h.core).pc.toNat) && ((s.core h.core).delay.isNone) && (((s.core h.core).repCount h.pre).isNone) && (decide (1 < (sget zero24 (s.core h.core).tick.lc ((s.core h.core).tick.ldepth - 1)).toNat))) = true ∧
  (let s : State := ({ iz with cores := [(1, { (iz.core 1) with ldepth := 1, ls := [(0, 0x20)], le := [(0, 0x40)], lc := [(0, 1)] })] }); let h : IzHead := h1; (s.issues h (.f0 .nop)) && ((s.core h.core).tick.atLoopEnd (s.core h.core).pc.toNat) && ((s.core h.core).delay.isNone) && (((s.core h.core).repCount h.pre).isNone) && ((sget zero24 (s.core h.core).tick.lc ((s.core h.core).tick.ldepth - 1)).toNat == 1)) = true ∧
  (let s : State := ({ iz with cores := [(1, { (iz.core 1) with ldepth := 1, ls := [(0, 0x20)], le := [(0, 0x50)], lc := [(0, 3)] })] }); let h : IzHead := h1; (s.issues h (.f0 .lexit)) && ((s.core h.core).ldepth != 0) && ((s.core h.core).pendLeft .ldepth == 0) && (decide ((s.core h.core).ldepth < 2) || sget zero24 (s.core h.core).tick.le ((s.core h.core).ldepth - 2) != (s.core h.core).pc)) = true ∧
  (let s : State := iz; let h : IzHead := h1; (s.issues h (.f0 .lexit)) && ((s.core h.core).ldepth == 0) && ((s.settled h.core).entryOk) && (s.straight h.core h.pre)) = true := by
  decide +kernel

/-- A state and operands that meet the hypotheses of each clause of TrapsAndInterrupts. -/
theorem witness_TrapsAndInterrupts :
  (let s : State := iz; let h : IzHead := h1; let op : BitVec 8 := 0x07; let op1 : BitVec 8 := 0; (s.coreLive h.core) && (s.seqState h.core == 1) && (opUndefined op op1) && (decide ((s.core h.core).pc.toNat < codeEnd)) && ((s.core h.core).rep.isNone) && ((s.core h.core).delay.isNone) && (!s.flag (SEQk_CTL_HALT h.core)) && ((List.range 8).all fun j => !(s.core j).stepAsked) && ((s.settled h.core).entryOk)) = true ∧
  (let s : State := iz; let h : IzHead := h1; let d : BitVec 4 := 1; let a : BitVec 4 := 1; let b : BitVec 4 := 9; let z : BitVec 4 := 0; (s.issues h (.frr .div d a b z)) && (((s.core h.core).reg b.toNat) == 0) && ((s.settled h.core).entryOk) && (s.straight h.core h.pre)) = true ∧
  (let s : State := iz; let h : IzHead := h1; let d : BitVec 4 := 1; let a : BitVec 4 := 1; let b : BitVec 4 := 9; let z : BitVec 4 := 0; (s.issues h (.frr .divu d a b z)) && (((s.core h.core).reg b.toNat) == 0) && ((s.settled h.core).entryOk) && (s.straight h.core h.pre)) = true ∧
  (let s : State := iz; let h : IzHead := h1; let d : BitVec 4 := 1; let a : BitVec 4 := 1; let b : BitVec 4 := 9; let z : BitVec 4 := 0; (s.issues h (.frr .rem d a b z)) && (((s.core h.core).reg b.toNat) == 0) && ((s.settled h.core).entryOk) && (s.straight h.core h.pre)) = true ∧
  (let s : State := ({ iz with cores := [(1, { (iz.core 1) with pb := [(3, 5)], p := [(3, 3)] })] }); let h : IzHead := h1; let g : BitVec 4 := 1; let m : BitVec 1 := 0; let n : BitVec 3 := 3; let x : BitVec 8 := 7; (s.issues h (.fm .ld g m n x)) && (decide (((s.core h.core).desc ((segoOf h.pre).getD ((s.core h.core).bind n.toNat))).limit ≤ (if m = 1 then ((s.core h.core).ptr n.toNat).toNat else ((s.core h.core).ptr n.toNat + immOf h.pre x).toNat))) && ((s.settled h.core).entryOk) && (s.straight h.core h.pre)) = true ∧
  (let s : State := ({ iz with cores := [(1, { (iz.core 1) with pb := [(3, 5)], p := [(3, 3)] })] }); let h : IzHead := h1; let g : BitVec 4 := 1; let m : BitVec 1 := 0; let n : BitVec 3 := 3; let x : BitVec 8 := 7; (s.issues h (.fm .st g m n x)) && (decide (((s.core h.core).desc ((segoOf h.pre).getD ((s.core h.core).bind n.toNat))).limit ≤ (if m = 1 then ((s.core h.core).ptr n.toNat).toNat else ((s.core h.core).ptr n.toNat + immOf h.pre x).toNat)) || ((s.core h.core).desc ((segoOf h.pre).getD ((s.core h.core).bind n.toNat))).wp) && ((s.settled h.core).entryOk) && (s.straight h.core h.pre)) = true ∧
  (let s : State := ({ ((iz.wr (EVT_Gg_STAT 3) 1).wr (EVT_Gg_MASK_CORE 3) 1).setF (EVT_Gg_ROUTE_CORES 3) 255 with cores := [(1, { (iz.core 1) with ie := true })] }); let k : Nat := 1; let rep : List Nat := []; let g : Nat := 3; (s.coreLive k) && (s.seqState k == 1) && ((s.core k).boundary) && ((s.core k).ieNow) && (s.intGroup k == some g) && ((s.core k).rep.isNone) && ((s.settled k).entryOk) && (!s.flag (SEQk_CTL_HALT k))) = true := by
  decide +kernel

/-- A state and an entry that meet the hypotheses of UndefinedMapOneEntriesTrap. -/
theorem witness_UndefinedMapOneEntriesTrap :
  (let s := iz
   (izMap1 0x22).isNone && s.coreLive 1 && s.seqState 1 == 1 && decide ((s.core 1).pc.toNat < codeEnd) && (s.core 1).rep.isNone
    && (s.core 1).delay.isNone && !s.flag (SEQk_CTL_HALT 1) && ((List.range 8).all fun j => !(s.core j).stepAsked)
    && (s.settled 1).entryOk) = true := by
  decide +kernel

/-- An instruction and a state that meet the hypotheses of StaticChecksTrap: SAT before NOP. -/
theorem witness_StaticChecksTrap :
  izOpOf (.izNop hs) = some (hs, .f0 .nop) ∧
  (let s := iz
   s.coreLive 1 && s.seqState 1 == 1 && izStatic (s.core 1) (.op hs.pre (.f0 .nop)) == some 1 && (s.core 1).rep.isNone
    && (s.core 1).delay.isNone && !s.flag (SEQk_CTL_HALT 1) && ((List.range 8).all fun j => !(s.core j).stepAsked)
    && (s.settled 1).entryOk) = true := by
  exact ⟨rfl, by decide +kernel⟩

/-- An instruction and a state that meet the hypotheses of IzhamFrame. -/
theorem witness_IzhamFrame :
  izOpOf (.izMac h1 0x12 0 0) = some (h1, .fa .mac 0x12 0 0) ∧
  (iz.issues h1 (.fa .mac 0x12 0 0) && iz.trapFree h1 (.fa .mac 0x12 0 0) && (iz.core 1).ordered
    && !iz.flag (SEQk_CTL_HALT 1) && (iz.core 1).offRegs) = true := by
  exact ⟨rfl, by decide +kernel⟩

/-- The reset state meets the premise of PendingResultsStayInOrder on every core that it lists. -/
theorem witness_PendingResultsStayInOrder :
  ((List.range 8).all fun k => (State.reset.core k).ordered) = true ∧ ∃ t, step State.reset = .next t := by
  exact ⟨by decide +kernel, _, rfl⟩

/-- Prefixes that meet the hypothesis of IzhamDecodeOfEncode. -/
theorem witness_IzhamDecodeOfEncode : [IzPre.sat, .ximm 5].length ≤ 4 := by decide

/-- A state and operands that meet the hypotheses of each clause of CoreControl. -/
theorem witness_CoreControl :
  (let s : State := iz; let m : Master := .pcie; let k : Nat := 1; (decide (k < 8)) && (s.reaches m (SEQk_CTL k)) && (!(s.ktOwned && k == 0 && m != .personality)) && (decide (s.getF (SEQk_CTL_VBASE k) ≤ 0x7FF)) && (s.seqState k == 1) && ((s.core k).boundary) && (!(s.core k).moving)) = true ∧
  (let s : State := ({ iz with cores := [(1, { (iz.core 1) with delay := some none })] }); let m : Master := .pcie; let k : Nat := 1; (decide (k < 8)) && (s.reaches m (SEQk_CTL k)) && (!(s.ktOwned && k == 0 && m != .personality)) && (decide (s.getF (SEQk_CTL_VBASE k) ≤ 0x7FF)) && (s.seqState k == 1) && (!(s.core k).boundary)) = true ∧
  (let s : State := ({ fs iz [(SEQk_STAT_STATE 1, 2), (SEQk_CTL_HALT 1, 1), (SEQk_PC_PC 1, 0x40)] with cores := iz.cores }); let m : Master := .hostBus; let k : Nat := 1; (decide (k < 8)) && (s.reaches m (SEQk_CTL k)) && (!(s.ktOwned && k == 0 && m != .personality)) && (decide (s.getF (SEQk_CTL_VBASE k) ≤ 0x7FF)) && (s.seqState k == 2)) = true ∧
  (let s : State := ({ fs iz [(SEQk_STAT_STATE 1, 2), (SEQk_CTL_HALT 1, 1), (SEQk_PC_PC 1, 0x40)] with cores := iz.cores }); let m : Master := .pcie; let k : Nat := 1; let rep : List Nat := []; (decide (k < 8)) && (s.reaches m (SEQk_CTL k)) && (!(s.ktOwned && k == 0 && m != .personality)) && (decide (s.getF (SEQk_CTL_VBASE k) ≤ 0x7FF)) && (s.seqState k == 2) && ((List.range 8).all fun j => !(s.core j).stepAsked) && (!(s.core k).moving) && ((s.core k).fetchAt (s.core k).pc.toNat == .op [] (.f0 .nop)) && (decide ((s.core k).pc.toNat < codeEnd)) && ((s.core k).delay.isNone) && ((s.core k).rep.isNone) && (!(s.core k).tick.atLoopEnd (s.core k).pc.toNat)) = true ∧
  (let s : State := ({ fs iz [(SEQk_STAT_STATE 1, 2), (SEQk_CTL_HALT 1, 1)] with cores := [(1, { (iz.core 1) with pc := 0, code := [0x10, 0x51, 0x20] })] }); let m : Master := .pcie; let k : Nat := 1; let rep : List Nat := []; let d : BitVec 4 := 5; let a : BitVec 4 := 1; let b : BitVec 4 := 2; (decide (k < 8)) && (s.reaches m (SEQk_CTL k)) && (!(s.ktOwned && k == 0 && m != .personality)) && (decide (s.getF (SEQk_CTL_VBASE k) ≤ 0x7FF)) && (s.seqState k == 2) && ((List.range 8).all fun j => !(s.core j).stepAsked) && (!(s.core k).moving) && ((s.core k).fetchAt (s.core k).pc.toNat == .op [] (.frr .add d a b 0)) && (decide ((s.core k).pc.toNat + 3 ≤ codeEnd)) && ((s.core k).rep.isNone)) = true ∧
  (let s : State := (fs { iz with syscnt := 77 } [(SEQk_WDOG_PERIOD_MS 1, 9), (SEQk_WDOG_EN 1, 1)]); let m : Master := .core 1; let k : Nat := 1; (decide (k < 8)) && (s.reaches m (SEQk_WDOG k)) && (!(s.ktOwned && k == 0 && m != .personality)) && (decide (1 ≤ s.getF (SEQk_WDOG_PERIOD_MS k))) && (decide (s.getF (SEQk_WDOG_PERIOD_MS k) ≤ 60000))) = true ∧
  (let s : State := (fs iz [(SEQk_WDOG_PERIOD_MS 1, 1), (SEQk_WDOG_EN 1, 1)]); let k : Nat := 1; let n : Nat := 3932160; (s.coreLive k) && (s.flag (SEQk_WDOG_EN k)) && (decide ((s.core k).wdogAt + s.getF (SEQk_WDOG_PERIOD_MS k) * Config.ticksPerMs ≤ (s.advance n).now)) && (s.seqState k == 1) && ((s.core k).boundary)) = true ∧
  (let s : State := (fs iz [(SEQ_PAIRS_SPARE_FREE, 1), (SEQk_STAT_PAIR 0, 4)]); let j : Nat := 1; let n : Nat := 0; let k : Nat := 1; (!s.pwr.inReset) && (decide (2 ≤ s.stage)) && (decide (j < 8)) && (!(s.getF SEQ_PAIRS_FAILED).testBit j) && (s.onPair j == some k) && (s.flag SEQ_PAIRS_SPARE_FREE) && (s.seqState k != 3)) = true ∧
  (let s : State := (fs iz [(SEQ_PAIRS_SPARE_FREE, 0), (SEQk_STAT_PAIR 0, 4)]); let j : Nat := 1; let n : Nat := 0; let k : Nat := 1; (!s.pwr.inReset) && (decide (2 ≤ s.stage)) && (decide (j < 8)) && (!(s.getF SEQ_PAIRS_FAILED).testBit j) && (s.onPair j == some k) && (!s.flag SEQ_PAIRS_SPARE_FREE)) = true ∧
  (let s : State := ({ iz with cores := [(1, { (iz.core 1) with moving := true })] }); let n : Nat := 9; let k : Nat := 1; (((List.range 8).find? fun j => (s.core j).moving) == some k) && ((List.range 8).all fun j => !(s.core j).stepAsked)) = true ∧
  (let s : State := izw; let k : Nat := 1; let line : Nat := 32212254720; let n : Nat := 0; let l : WcLine := ⟨32212254720, [(3, 7), (4, 9)], 0⟩; (decide (k < 8)) && (((s.core k).wc.find? fun q => q.addr == line) == some l) && (s.flag MRW_STAT_INIT_DONE) && (s.permits ⟨256 + k, 0, true, line, 64, []⟩) && (decide ((l.bytes.map (·.1)).Nodup))) = true ∧
  (let s : State := (fs iz [(SEQk_STAT_PAIR 1, 1)]); let m : Master := .pcie; let k : Nat := 1; let j : Nat := 1; (s.reaches m REL_INJECT) && (s.feat 18) && (decide (k < 8)) && (s.seqState k == 1) && (!s.remapBusy) && (!s.pairMoving) && (s.getF FAB_PR_STAT_PHASE == 0) && (!(s.ktOwned && k == 0)) && (s.getF (SEQk_STAT_PAIR k) == j) && (decide (j < 8)) && (!(s.getF SEQ_PAIRS_FAILED).testBit j)) = true := by
  decide +kernel

/-- A state and operands that meet the hypotheses of each clause of PodTransitions. -/
theorem witness_PodTransitions :
  (let s : State := (fs run [(FAB_STAT_CONF, 1), (FAB_LPp_MAP_CONF 3, 1), (FAB_LPp_MAP_PPOD 3, 3), (FAB_LPp_MAP_STATE 3, 2)]); let p : Nat := 3; (s.guarded p)) = true ∧
  (let s : State := (fs run [(FAB_STAT_CONF, 1), (FAB_LPp_MAP_CONF 3, 1), (FAB_LPp_MAP_PPOD 3, 3), (FAB_LPp_MAP_STATE 3, 1)]); let p : Nat := 3; let kind : Nat := 1; let inst : Nat := 9; let ts : Nat := 640; let period : Nat := 10; (s.guarded p)) = true ∧
  (let s : State := (fs run [(FAB_STAT_CONF, 1), (FAB_LPp_MAP_CONF 3, 1), (FAB_LPp_MAP_PPOD 3, 3), (FAB_LPp_MAP_STATE 3, 0)]); let p : Nat := 3; let kind : Nat := 3; let inst : Nat := 9; let rel : Nat := 5; (s.podConf p) && (s.podState p == 0) && (decide (2 ≤ kind))) = true ∧
  (let s : State := (fs run [(FAB_STAT_CONF, 1), (FAB_LPp_MAP_CONF 3, 1), (FAB_LPp_MAP_PPOD 3, 3), (FAB_LPp_MAP_STATE 3, 0)]); let p : Nat := 3; let inst : Nat := 1; let rel : Nat := 245760; (s.podConf p) && (s.podState p == 0) && (decide (inst < 2))) = true ∧
  (let s : State := (fs run [(FAB_STAT_CONF, 1), (FAB_LPp_MAP_CONF 3, 1), (FAB_LPp_MAP_PPOD 3, 3), (FAB_LPp_MAP_STATE 3, 0)] |>.setPath 9 { runs := [{ base := 0, dly := 7 }] }); let p : Nat := 3; let inst : Nat := 9; let r : Run := ({ base := 0, dly := 7 } : Run); let rel : Nat := (({ base := 0, dly := 7 } : Run).tsOf 1 + 7); (s.podConf p) && (s.podState p == 0) && (decide (inst < 512)) && ((s.path inst).runs.head? == some r) && (r.tsOf (r.out + 1) + r.dly == rel)) = true ∧
  (let s : State := (fs run [(FAB_STAT_CONF, 1), (FAB_LPp_MAP_CONF 3, 1), (FAB_LPp_MAP_PPOD 3, 3), (FAB_LPp_MAP_STATE 3, 0), (FAB_AVS_EN, 0), (FAB_AVS_CODE, 30)]); let n : Nat := 7864320; let busy : List (Nat × Nat × Nat) := [(3, 7, 100)]; (n % 3932160 == 0) && (s.flag FAB_STAT_CONF) && (s.counting) && (!s.flag FAB_AVS_EN)) = true ∧
  (let s : State := ({ (fs run [(FAB_STAT_CONF, 1), (FAB_LPp_MAP_CONF 3, 1), (FAB_LPp_MAP_PPOD 3, 3), (FAB_LPp_MAP_STATE 3, 0)]) with boot := { run.boot with bs := some { run.hdr with pace := [⟨3, 7, 0⟩] } } }); let n : Nat := 7864320; let p : Nat := 3; let pea : Nat := 7; let b : Nat := 3000000; (n % 3932160 == 0) && (s.flag FAB_STAT_CONF) && (s.counting) && (s.podConf p) && (s.podState p == 0) && (s.hdr.pace.any fun r => r.lpod == p && r.pea == pea) && (decide ((s.pod p).activeAt + 3932160 ≤ n))) = true ∧
  (let s : State := (fs run [(FAB_STAT_CONF, 1), (FAB_LPp_MAP_CONF 3, 1), (FAB_LPp_MAP_PPOD 3, 3), (FAB_LPp_MAP_STATE 3, 0)]); let m : Master := .pcie; let p : Nat := 3; (s.reaches m FAB_CMD) && (s.podConf p) && (s.podState p == 0) && (!(s.flag (FAB_LPp_MAP_EXC p) && s.pins.paRf)) && (!(s.ktOwned && s.flag (FAB_LPp_MAP_KTO p))) && (s.getF FAB_PR_STAT_PHASE == 0) && (!s.remapBusy)) = true ∧
  (let s : State := (fs run [(FAB_STAT_CONF, 1), (FAB_LPp_MAP_CONF 3, 1), (FAB_LPp_MAP_PPOD 3, 3), (FAB_LPp_MAP_STATE 3, 2)]); let m : Master := .hostBus; let p : Nat := 3; (s.reaches m FAB_CMD) && (s.podConf p) && (s.podState p == 2) && (!(s.pod p).badImage) && (!(s.ktOwned && s.flag (FAB_LPp_MAP_KTO p))) && (s.getF FAB_PR_STAT_PHASE == 0) && (!s.remapBusy)) = true ∧
  (let s : State := ((fs run [(FAB_STAT_CONF, 1), (FAB_LPp_MAP_CONF 3, 1), (FAB_LPp_MAP_PPOD 3, 3), (FAB_LPp_MAP_STATE 3, 1)]).setPod 3 { why := 1 }); let p : Nat := 3; let late : Nat := 4; let n : Nat := 8000; (s.podConf p) && (s.podState p == 1) && ((s.pod p).why == 1) && (late == 0 || decide ((s.pod p).drainAt + Config.ticksOfUs 2 ≤ (s.advance n).now))) = true ∧
  (let s : State := ((fs run [(FAB_STAT_CONF, 1), (FAB_LPp_MAP_CONF 3, 1), (FAB_LPp_MAP_PPOD 3, 3), (FAB_LPp_MAP_STATE 3, 1), (FAB_PPq_STAT_USE 256, 1)]).setPod 3 { why := 3 }); let p : Nat := 3; let late : Nat := 4; let n : Nat := 8000; (s.podConf p) && (s.podState p == 1) && ((s.pod p).why == 3 || (s.pod p).why == 4) && (!(s.pod p).wait) && (late == 0 || decide ((s.pod p).drainAt + Config.ticksOfUs 2 ≤ (s.advance n).now))) = true ∧
  (let s : State := ((fs run [(FAB_STAT_CONF, 1), (FAB_LPp_MAP_CONF 3, 1), (FAB_LPp_MAP_PPOD 3, 3), (FAB_LPp_MAP_STATE 3, 3)]).setPod 3 { why := 2 }); let p : Nat := 3; let n : Nat := 9; let rep : Bool := false; (s.podConf p) && (s.podState p == 3) && (!s.reloadBad p)) = true ∧
  (let s : State := ((fs run [(FAB_STAT_CONF, 1), (FAB_LPp_MAP_CONF 3, 1), (FAB_LPp_MAP_PPOD 3, 3), (FAB_LPp_MAP_STATE 3, 3)]).setPod 3 { why := 2, image := some [⟨List.replicate 16 0, [1]⟩] }); let p : Nat := 3; let n : Nat := 9; (s.podConf p) && (s.podState p == 3) && ((s.pod p).why == 2) && (s.reloadBad p)) = true ∧
  (let s : State := ((fs run [(FAB_STAT_CONF, 1), (FAB_LPp_MAP_CONF 3, 1), (FAB_LPp_MAP_PPOD 3, 3), (FAB_LPp_MAP_STATE 3, 3)]).setPod 3 { why := 2, loadedAt := some 5 }); let n : Nat := 122880; let p : Nat := 3; (n % 122880 == 0) && (s.flag FAB_STAT_CONF) && (s.podConf p) && (s.podState p == 3) && ((s.pod p).why == 2) && ((s.pod p).loadedAt.isSome) && (s.enterAt [p] == n) && (s.fab.pr.isNone)) = true ∧
  (let s : State := (fs run [(FAB_STAT_CONF, 1), (FAB_LPp_MAP_CONF 3, 1), (FAB_LPp_MAP_PPOD 3, 3), (FAB_LPp_MAP_STATE 3, 0), (FAB_PPq_STAT_USE 256, 1)]); let p : Nat := 3; let cause : Nat := 2; let n : Nat := 9; (decide (1 ≤ cause)) && (decide (cause ≤ 5)) && (s.podConf p) && (s.flag FAB_STAT_CONF) && (s.podState p == 0)) = true ∧
  (let s : State := (fs run [(FAB_STAT_CONF, 1), (FAB_LPp_MAP_CONF 3, 1), (FAB_LPp_MAP_PPOD 3, 3), (FAB_LPp_MAP_STATE 3, 0)]); let p : Nat := 3; let n : Nat := 9; (s.podConf p) && (s.flag FAB_STAT_CONF) && (s.podState p == 0)) = true ∧
  (let s : State := (fs run [(FAB_STAT_CONF, 1), (FAB_LPp_MAP_CONF 3, 1), (FAB_LPp_MAP_PPOD 3, 3), (FAB_LPp_MAP_STATE 3, 0)]); let m : Master := .pcie; let p : Nat := 3; (s.reaches m REL_INJECT) && (s.feat 18) && (s.podConf p) && (s.flag FAB_STAT_CONF) && (s.podState p == 0) && (!s.pairMoving) && (!(s.ktOwned && s.flag (FAB_LPp_MAP_KTO p))) && (s.getF FAB_PR_STAT_PHASE == 0) && (!s.remapBusy)) = true := by
  decide +kernel

/-- A state and operands that meet the hypotheses of clause 6 of PartialReconfiguration. -/
theorem witness_PartialReconfiguration_6 :
  (let s : State := (prRun 6 (fileBytes partFile)); let v : SigVerdict := ⟨0, true⟩; let hash : Nat := 0; let n : Nat := 0; let h := bsHdrOf s.prFile hash; let g := bsSigOf s.prFile v; (s.getF FAB_PR_STAT_PHASE == 1) && (s.prSigOk h g) && (hdrOk h) && (h.framesOk) && (!s.prFits (familyBound h))) = true := by
  have h1 := part_frames 0
  have h2 := pr_file 6 (by decide)
  simp only [h2, h1]
  decide +kernel

/-- A state and operands that meet the hypotheses of clause 7 of PartialReconfiguration. -/
theorem witness_PartialReconfiguration_7 :
  (let s : State := (((prRun 7 (fileBytes partFile))).setF (FAB_LPp_MAP_STATE 3) 3); let v : SigVerdict := ⟨0, true⟩; let hash : Nat := 0; let n : Nat := 0; let p : Nat := 3; let h := bsHdrOf s.prFile hash; let g := bsSigOf s.prFile v; (s.getF FAB_PR_STAT_PHASE == 1) && (s.prSigOk h g) && (hdrOk h) && (h.framesOk) && (s.prFits (familyBound h)) && (decide (p < 256)) && (h.podMask.testBit p) && (s.prCheck p != 0) && ((List.range p).all fun q => !h.podMask.testBit q || s.prCheck q == 0)) = true := by
  have h1 := part_frames 0
  have h2 : (((prRun 7 (fileBytes partFile))).setF (FAB_LPp_MAP_STATE 3) 3).prFile = partFile := pr_file_loading
  simp only [h2, h1]
  decide +kernel

/-- A state and operands that meet the hypotheses of clause 8 of PartialReconfiguration. -/
theorem witness_PartialReconfiguration_8 :
  (let s : State := (prRun 7 (fileBytes partFile)); let v : SigVerdict := ⟨0, true⟩; let hash : Nat := 0; let n : Nat := 0; let h := bsHdrOf s.prFile hash; let g := bsSigOf s.prFile v; (s.getF FAB_PR_STAT_PHASE == 1) && (s.prSigOk h g) && (hdrOk h) && (h.framesOk) && (s.prFits (familyBound h)) && ((List.range 256).all fun p => !h.podMask.testBit p || s.prCheck p == 0) && ((List.range 256).any fun p => h.podMask.testBit p && s.podState p == 0)) = true := by
  have h1 := part_frames 0
  have h2 := pr_file 7 (by decide)
  simp only [h2, h1]
  decide +kernel

/-- A state and operands that meet the hypotheses of each clause of PartialReconfiguration. -/
theorem witness_PartialReconfiguration :
  (let s : State := run; let m : Master := .pcie; let a : Nat := 0xA0010; let v : Word := 0x12345678; (s.reaches m a) && (decide (0xA0000 ≤ a)) && (decide (a < 0xC0000)) && (decide (s.fab.stage.length + 4 ≤ 67108864))) = true ∧
  (let s : State := ({ run with fab := { stage := [1, 2] } }); let m : Master := .pcie; (s.reaches m FAB_PR_CMD) && (s.getF FAB_PR_STAT_PHASE == 0)) = true ∧
  (let s : State := run; let m : Master := .pcie; (s.reaches m FAB_PR_CMD) && (s.getF FAB_PR_STAT_PHASE == 0)) = true ∧
  (let s : State := (prRun 7 []); let v : SigVerdict := ⟨0, true⟩; let hash : Nat := 0; let n : Nat := 0; let h := bsHdrOf s.prFile hash; let g := bsSigOf s.prFile v; (s.getF FAB_PR_STAT_PHASE == 1) && (!s.prSigOk h g)) = true ∧
  (let s : State := (prRun 7 ((bsHead 1 7 8 0 8).set 24 0 ++ sigBytes)); let v : SigVerdict := ⟨0, true⟩; let hash : Nat := 0; let n : Nat := 0; let h := bsHdrOf s.prFile hash; let g := bsSigOf s.prFile v; (s.getF FAB_PR_STAT_PHASE == 1) && (s.prSigOk h g) && (!hdrOk h || !h.framesOk)) = true := by
  decide +kernel

/-- A state and operands that meet the hypotheses of each clause of MarrowRequestsAndRegions. -/
theorem witness_MarrowRequestsAndRegions :
  (let s : State := run; let q : MReq := ⟨256, 1, false, 32212254720, 64, []⟩; let n : Nat := 0; (decide (q.who < 270)) && (!s.pwr.inReset) && (!s.podDead q.who) && (!s.flag MRW_STAT_INIT_DONE) && (!s.owed q.who s.mrw.nextId)) = true ∧
  (let s : State := (fs run [(MRW_STAT_INIT_DONE, 1), (MRW_CLS_RES0, 50)]); let q : MReq := ⟨256, 1, true, 64, 64, List.replicate 64 7⟩; let n : Nat := 0; (decide (q.who < 270)) && (!s.pwr.inReset) && (!s.podDead q.who) && (s.flag MRW_STAT_INIT_DONE) && (!mreqOk q || !s.permits q) && (!s.owed q.who s.mrw.nextId)) = true ∧
  (let s : State := (fs (fs run [(MRW_STAT_INIT_DONE, 1), (MRW_CLS_RES0, 50)]) [(FAB_LPp_MAP_CONF 3, 1), (FAB_LPp_MAP_STATE 3, 0)]); let q : MReq := ⟨3, 0, true, 128, 64, List.replicate 64 7⟩; let n : Nat := 0; (decide (q.who < 270)) && (!s.pwr.inReset) && (!s.podDead q.who) && (s.flag MRW_STAT_INIT_DONE) && (mreqOk q) && (s.permits q) && (s.classOf q == 0) && (decide (((s.window (stackOf q.addr)).used0 + q.len) * 100 ≤ s.getF MRW_CLS_RES0 * windowBytes)) && (s.tagFree 0)) = true ∧
  (let s : State := (fs run [(MRW_STAT_INIT_DONE, 1), (MRW_CLS_RES0, 50)]); let q : MReq := ⟨256, 1, true, 32212254720, 64, List.replicate 64 7⟩; let n : Nat := 5; (decide (q.who < 270)) && (!s.pwr.inReset) && (!s.podDead q.who) && (s.flag MRW_STAT_INIT_DONE) && (mreqOk q) && (s.permits q) && (s.classOf q == 1 || s.classOf q == 2) && (s.mrw.queue.isEmpty) && (decide ((s.window (stackOf q.addr)).used + q.len ≤ windowBytes)) && (s.tagFree (s.classOf q))) = true ∧
  (let s : State := ({ (fs run [(MRW_STAT_INIT_DONE, 1), (MRW_CLS_RES0, 50)]) with mrw := { ((fs run [(MRW_STAT_INIT_DONE, 1), (MRW_CLS_RES0, 50)])).mrw with out := [{ id := 4, req := ⟨256, 1, false, 32212254720, 64, []⟩, cls := 1, arrived := 0, data := [5] }], nextId := 9 } }); let id : Nat := 4; let p : MPend := { id := 4, req := ⟨256, 1, false, 32212254720, 64, []⟩, cls := 1, arrived := 0, data := [5] }; (!(s.mrw.queue.any fun r => r.id == id)) && ((s.mrw.out.find? fun r => r.id == id) == some p) && (!s.podDead p.req.who) && (!s.owed p.req.who id) && (s.mrw.held.isEmpty)) = true ∧
  (let s : State := ({ (fs run [(MRW_STAT_INIT_DONE, 1), (MRW_CLS_RES0, 50)]) with mrw := { ((fs run [(MRW_STAT_INIT_DONE, 1), (MRW_CLS_RES0, 50)])).mrw with out := [{ id := 4, req := ⟨256, 1, false, 32212254720, 64, []⟩, cls := 1, arrived := 0 }], nextId := 9 } }); let id : Nat := 4; let p : MPend := { id := 4, req := ⟨256, 1, false, 32212254720, 64, []⟩, cls := 1, arrived := 0 }; (!(s.mrw.queue.any fun r => r.id == id)) && ((s.mrw.out.find? fun r => r.id == id) == some p) && (!s.podDead p.req.who) && (!s.owed p.req.who id) && (s.mrw.held.isEmpty) && (!p.req.write) && (decide (0 < p.req.len))) = true ∧
  (let s : State := ({ (fs run [(MRW_STAT_INIT_DONE, 1), (MRW_CLS_RES0, 50)]) with mrw := { ((fs run [(MRW_STAT_INIT_DONE, 1), (MRW_CLS_RES0, 50)])).mrw with queue := [{ id := 4, req := ⟨256, 1, false, 32212254720, 64, []⟩, cls := 1, arrived := 0 }], nextId := 9 } }); let id : Nat := 4; let n : Nat := 100000000; let p : MPend := { id := 4, req := ⟨256, 1, false, 32212254720, 64, []⟩, cls := 1, arrived := 0 }; ((s.mrw.queue.find? fun r => r.id == id) == some p) && (decide (p.arrived + Config.ticksOfUs (if p.cls = 1 then s.getF MRW_WAIT_W1 else 10 * s.getF MRW_WAIT_W2) ≤ (s.advance n).now)) && (!s.owed p.req.who id) && (s.mrw.held.isEmpty)) = true ∧
  (let s : State := ({ (fs run [(MRW_STAT_INIT_DONE, 1), (MRW_CLS_RES0, 50)]) with mrw := { ((fs run [(MRW_STAT_INIT_DONE, 1), (MRW_CLS_RES0, 50)])).mrw with windows := [(2, ⟨5, 6, 7⟩)] } }); let k : Nat := 2; let n : Nat := 4096; (decide (k < 4)) && (n % 4096 == 0) && (!s.pwr.inReset) && (s.mrw.queue.isEmpty)) = true ∧
  (let s : State := ({ (fs run [(MRW_STAT_INIT_DONE, 1), (MRW_CLS_RES0, 50)]) with mrw := { ((fs run [(MRW_STAT_INIT_DONE, 1), (MRW_CLS_RES0, 50)])).mrw with queue := [{ id := 4, req := ⟨256, 1, false, 32212254720, 64, []⟩, cls := 1, arrived := 0 }], nextId := 9 } }); let k : Nat := stackOf 32212254720; let n : Nat := 4096; let p : MPend := { id := 4, req := ⟨256, 1, false, 32212254720, 64, []⟩, cls := 1, arrived := 0 }; (decide (k < 4)) && (n % 4096 == 0) && (!s.pwr.inReset) && (s.mrw.queue == [p]) && (stackOf p.req.addr == k) && (p.cls == 1 || p.cls == 2) && (s.tagFree p.cls) && (decide (p.req.len ≤ windowBytes))) = true ∧
  (let s : State := ({ (fs (fs run [(MRW_STAT_INIT_DONE, 1), (MRW_CLS_RES0, 50)]) [(FAB_LPp_MAP_STATE 3, 2)]) with mrw := { ((fs run [(MRW_STAT_INIT_DONE, 1), (MRW_CLS_RES0, 50)])).mrw with out := [{ id := 4, req := ⟨3, 0, false, 128, 64, []⟩, cls := 0, arrived := 0 }] } }); let id : Nat := 4; let p : MPend := { id := 4, req := ⟨3, 0, false, 128, 64, []⟩, cls := 0, arrived := 0 }; (!(s.mrw.queue.any fun r => r.id == id)) && ((s.mrw.out.find? fun r => r.id == id) == some p) && (s.podDead p.req.who)) = true ∧
  (let s : State := (fs (fs run [(MRW_STAT_INIT_DONE, 1), (MRW_CLS_RES0, 50)]) [(MRW_SCRUB_EN, 1)]); let pr : Nat := 0; let fixes : List (Nat × Nat) := [(1, 3)]; let dead : List Nat := [4096]; (s.flag MRW_SCRUB_EN) && (s.flag MRW_STAT_INIT_DONE) && (decide (pr ≤ 100)) && (s.scrubReached pr) && (fixes.all (fun q => decide (q.1 < 4) && decide (q.2 < 255)))) = true ∧
  (let s : State := run; let m : Master := .pcie; (s.reaches m MRW_REG_CMD) && (!s.flag MRW_REG_STAT_FIXED) && (s.shadowsOk)) = true := by
  decide +kernel

/-- A state and operands that meet the hypotheses of each clause of RingsAndSnapshots. -/
theorem witness_RingsAndSnapshots :
  (let s : State := ((fs run [(PTHn_CTL_PRESET 5, 4), (PTHn_CTL_TYPE 5, 2), (PTHn_STAT_STATE 5, 2), (MRW_BBR_STAT_REC, 1)]).setPath 5 { runs := [{ base := 0, ctl := 16386, pre := [⟨5242880, 0, false, [5, 6, 7]⟩] }] }); let n : Nat := 5; let ts : Nat := 5242880; let r : Run := { base := 0, ctl := 16386, pre := [⟨5242880, 0, false, [5, 6, 7]⟩] }; let b : Block := ⟨5242880, 0, [5, 6, 7]⟩; (s.stage == 4) && (decide (n < 512)) && (tapPeriod r.preset != 0) && (s.flag MRW_BBR_STAT_REC) && (s.tapBlock n ts == some (r, b))) = true ∧
  (let s : State := ((fs run [(PTHn_CTL_PRESET 5, 4), (PTHn_CTL_TYPE 5, 2), (PTHn_STAT_STATE 5, 2), (MRW_BBR_STAT_REC, 1)]).setPath 5 { runs := [{ base := 0, ctl := 16386, pre := [⟨5242880, 0, false, [5, 6, 7]⟩] }] }); let n : Nat := 5; let ts : Nat := 5242880; let r : Run := { base := 0, ctl := 16386, pre := [⟨5242880, 0, false, [5, 6, 7]⟩] }; let b : Block := ⟨5242880, 0, [5, 6, 7]⟩; (s.stage == 4) && (decide (n < 512)) && (tapPeriod r.preset != 0) && (s.flag MRW_BBR_STAT_REC) && (s.tapBlock n ts == some (r, b))) = true ∧
  (let s : State := ({ fs run [(MRW_ACH_VALID 7, 1), (MRW_ACH_KIND 7, 2), (MRW_ACH_NUM 7, 9)] with streams := [(3081, [⟨5242880, 0, [5, 6]⟩])] }); let kind : Nat := 2; let num : Nat := 9; let ts : Nat := 5242880; let c : Nat := 7; let b : Block := ⟨5242880, 0, [5, 6]⟩; (s.stage == 4) && (decide (1 ≤ kind)) && (decide (kind < 4)) && (decide (num < 512)) && (s.chanOf kind num == some c) && (((s.audStream kind num).find? fun x => x.ts == ts) == some b)) = true ∧
  (let s : State := ({ fs run [(MRW_ACH_VALID 7, 1), (MRW_ACH_KIND 7, 2), (MRW_ACH_NUM 7, 9)] with streams := [(3081, [⟨5242880, 0, [5, 6]⟩])] }); let kind : Nat := 2; let num : Nat := 9; let ts : Nat := 5242880; let c : Nat := 7; let b : Block := ⟨5242880, 0, [5, 6]⟩; (s.stage == 4) && (decide (1 ≤ kind)) && (decide (kind < 4)) && (decide (num < 512)) && (s.chanOf kind num == some c) && (((s.audStream kind num).find? fun x => x.ts == ts) == some b)) = true ∧
  (let s : State := chanq; let kind : Nat := 1; let num : Nat := 9; (s.firmwareOn 1) && ((kind == 1 && decide (num < 512)) || (kind == 2 && decide (num < 128))) && ((s.chanOf kind num).isNone) && (s.qualifies kind num) && ((List.range s.mrw.chans).any fun c => !s.flag (MRW_ACH_VALID c)) && (decide (s.mrw.chans ≤ 1024))) = true ∧
  (let s : State := ({ chanq with mrw := { chanq.mrw with chans := 0 } }); let kind : Nat := 1; let num : Nat := 9; (s.firmwareOn 1) && ((kind == 1 && decide (num < 512)) || (kind == 2 && decide (num < 128))) && ((s.chanOf kind num).isNone) && (s.qualifies kind num) && ((List.range s.mrw.chans).all fun c => s.flag (MRW_ACH_VALID c)) && (!s.mrw.waiting.contains (kind, num)) && (s.channels.all fun q => decide (3 ≤ q.2.1) || s.needed q.2.1 q.2.2 || s.qualifies q.2.1 q.2.2)) = true ∧
  (let s : State := run; let m : Master := .pcie; let i : Nat := 2; let v : Word := 0x21; (s.reaches m (MRW_TSH i)) && (decide (i < 8)) && (s.feat 11) && (decide (s.channels.length + (tshBits i (s.rd (MRW_TSH i)).toNat v.toNat).length ≤ s.mrw.chans))) = true ∧
  (let s : State := run; let m : Master := .pcie; (s.reaches m MRW_SNP_CMD) && (s.feat 13) && (s.getF MRW_SNP_STAT_STATE == 0 || s.getF MRW_SNP_STAT_STATE == 3) && (decide (Config.ticksOfUs (s.getF MRW_SNP_POST_POST_US) < s.snapDepth (s.getF MRW_SNP_CTL_SRC)))) = true ∧
  (let s : State := (fs run [(MRW_SNP_STAT_STATE, 1)]); let m : Master := .pcie; (s.reaches m MRW_SNP_CMD) && (s.feat 13) && (s.getF MRW_SNP_STAT_STATE == 1)) = true ∧
  (let s : State := (fs run [(MRW_SNP_STAT_STATE, 2)]); let m : Master := .pcie; (s.reaches m MRW_SNP_CMD) && (s.feat 13) && (s.getF MRW_SNP_STAT_STATE != 1)) = true ∧
  (let s : State := (fs run [(MRW_SNP_STAT_STATE, 2)]); let m : Master := .pcie; (s.reaches m MRW_SNP_CMD) && (s.feat 13) && (s.getF MRW_SNP_STAT_STATE != 0) && (decide (s.getF MRW_SNP_STAT_STATE ≤ 3))) = true ∧
  (let s : State := (fs run [(MRW_SNP_STAT_STATE, 1), (MRW_SNP_CTL_TRIG, 1)]); let ts : Nat := 128; (s.getF MRW_SNP_CTL_TRIG == 1) && (ts % 64 == s.clk.blockPhase) && (decide (s.get64 MRW_SNP_MATCH_LO MRW_SNP_MATCH_HI ≤ ts)) && (s.getF MRW_SNP_STAT_STATE == 1)) = true ∧
  (let s : State := (fs run [(MRW_SNP_STAT_STATE, 2)]); let n : Nat := 640; (s.getF MRW_SNP_STAT_STATE == 2) && (decide (s.snp.tEnd ≤ (s.advance n).now))) = true := by
  decide +kernel

/-- A state and operands that meet the hypotheses of each clause of BanksAndPaths. -/
theorem witness_BanksAndPaths :
  (let s : State := ((fs run [(FAB_BANK_SEL_BANK, 3)]).setBank 3 { len := 5 }); let m : Master := .pcie; let v : Word := 0x123456; (s.reaches m FAB_BANK_DATA) && (!(s.bank (s.getF FAB_BANK_SEL_BANK)).isSealed) && (decide (2 * s.getF FAB_BANK_SEL_INDEX + 1 ≤ (s.bank (s.getF FAB_BANK_SEL_BANK)).len))) = true ∧
  (let s : State := ((fs run [(FAB_BANK_SEL_BANK, 3)]).setBank 3 { isSealed := true }); let m : Master := .pcie; (s.reaches m FAB_BANK_CMD) && (s.bankUsers (s.getF FAB_BANK_SEL_BANK) == 0)) = true ∧
  (let s : State := ((fs run [(FAB_BANK_SEL_BANK, 3)]).setBank 3 { len := 191, cls := 1 }); let m : Master := .hostBus; (s.reaches m FAB_BANK_CMD) && ((s.bank (s.getF FAB_BANK_SEL_BANK)).len % 2 == 1) && (decide (3 ≤ (s.bank (s.getF FAB_BANK_SEL_BANK)).len)) && (decide ((s.bank (s.getF FAB_BANK_SEL_BANK)).len ≤ bankMaxLen (s.bank (s.getF FAB_BANK_SEL_BANK)).cls))) = true ∧
  (let s : State := run; let m : Master := .pcie; let n : Nat := 9; (s.reaches m (PTHn_CMD n)) && (decide (n < 512)) && (decide (n < s.hdr.paths)) && (!(s.ktOwned && decide (n < 4) && m != .personality)) && (!(s.poolPath n && m != .core 1)) && (s.getF (PTHn_STAT_STATE n) == 0) && (!s.bankUnfit n) && (s.getF (PTHn_RS_NUM n) == 0 || decide (s.poolUsed < s.hdr.rspool))) = true ∧
  (let s : State := (fs run [(PTHn_STAT_STATE 9, 2)]); let m : Master := .pcie; let n : Nat := 9; (s.reaches m (PTHn_CMD n)) && (decide (n < 512)) && (decide (n < s.hdr.paths)) && (!(s.ktOwned && decide (n < 4) && m != .personality)) && (!(s.poolPath n && m != .core 1)) && (s.getF (PTHn_STAT_STATE n) == 2) && (!s.inFade 1 n) && ((s.path n).change == .none)) = true ∧
  (let s : State := (fs run [(PTHn_STAT_STATE 9, 2), (FOLp_STAT_XFADE 1, 1), (FOLp_SRC_AKIND 1, 1), (FOLp_SRC_ANUM 1, 9)]); let m : Master := .pcie; let n : Nat := 9; (s.reaches m (PTHn_CMD n)) && (decide (n < 512)) && (decide (n < s.hdr.paths)) && (!(s.ktOwned && decide (n < 4) && m != .personality)) && (!(s.poolPath n && m != .core 1)) && (s.getF (PTHn_STAT_STATE n) == 2) && (s.inFade 1 n)) = true ∧
  (let s : State := (fs run [(PTHn_STAT_STATE 9, 1)]); let m : Master := .pcie; let n : Nat := 9; (s.reaches m (PTHn_CMD n)) && (decide (n < 512)) && (decide (n < s.hdr.paths)) && (!(s.ktOwned && decide (n < 4) && m != .personality)) && (!(s.poolPath n && m != .core 1)) && (s.getF (PTHn_STAT_STATE n) == 1)) = true ∧
  (let s : State := (fs run [(PTHn_STAT_STATE 9, 2)]); let m : Master := .pcie; let n : Nat := 9; (s.reaches m (PTHn_CMD n)) && (decide (n < 512)) && (decide (n < s.hdr.paths)) && (!(s.ktOwned && decide (n < 4) && m != .personality)) && (!(s.poolPath n && m != .core 1)) && (s.getF (PTHn_STAT_STATE n) == 2) && ((s.path n).change == .none)) = true ∧
  (let s : State := ((fs run [(PTHn_STAT_STATE 9, 1), (PTHn_DSMP_SAMPLES 9, 77)]).setPath 9 { change := .start, due := 100 }); let n : Nat := 9; let T : Nat := 122880; (decide (n < 512)) && (!s.pwr.inReset) && (T % s.pathGrid n == 0) && (decide ((s.path n).due ≤ T)) && ((s.path n).change == .start || ((s.path n).change == .sync && (s.path n).later.isNone)) && (s.getF (PTHn_STAT_STATE n) != 3)) = true ∧
  (let s : State := ((fs run [(PTHn_STAT_STATE 9, 2)]).setPath 9 { change := .stop, due := 100 }); let n : Nat := 9; let T : Nat := 122880; (decide (n < 512)) && (!s.pwr.inReset) && (T % s.pathGrid n == 0) && (decide ((s.path n).due ≤ T)) && ((s.path n).change == .stop) && (!s.ktOwned)) = true ∧
  (let s : State := run; let m : Master := .pcie; let n : Nat := 9; let v : Word := 3; (s.reaches m (PTHn_SHIFT n)) && (decide (n < 512)) && (decide (n < s.hdr.paths)) && (!(s.ktOwned && decide (n < 4) && m != .personality)) && (!(s.poolPath n && m != .core 1)) && (shiftOk (s.getF (PTHn_CTL_PRESET n)) (s.getF (PTHn_CTL_BANK n)) v.toNat) && (s.getF (PTHn_STAT_STATE n) == 0) && ((s.path n).runs.isEmpty)) = true ∧
  (let s : State := (fs run [(PTHn_STAT_STATE 9, 2)]); let m : Master := .pcie; let n : Nat := 9; let v : Word := 3; (s.reaches m (PTHn_SHIFT n)) && (decide (n < 512)) && (decide (n < s.hdr.paths)) && (!(s.ktOwned && decide (n < 4) && m != .personality)) && (!(s.poolPath n && m != .core 1)) && (shiftOk (s.getF (PTHn_CTL_PRESET n)) (s.getF (PTHn_CTL_BANK n)) v.toNat) && (s.getF (PTHn_STAT_STATE n) != 0)) = true ∧
  (let s : State := (run.setPath 9 { lost := true, warmLeft := 100, runs := [({ base := 0, ctl := 0x6002, dly := 7, dsmp := 5, pre := [⟨0, 0, false, [1, 9]⟩], preNext := 1, chanNext := 100000000 } : Run)] }); let n : Nat := 9; let r : Run := ({ base := 0, ctl := 0x6002, dly := 7, dsmp := 5, pre := [⟨0, 0, false, [1, 9]⟩], preNext := 1, chanNext := 100000000 } : Run); (decide (n < 512)) && (!s.pwr.inReset) && ((s.path n).runs == [r]) && (r.stop.isNone) && (s.outReady r r.out) && (decide (r.lastPre r.out < r.preNext)) && (!(s.pathRecovers n r && decide (s.now < r.due))) && (s.pathVoid n) && ((s.path n).lost || ((r.outWindow r.out).any fun b => b.missing) || (s.gapFrom n).isNone)) = true ∧
  (let s : State := (run.setPath 9 { warmLeft := 100, runs := [({ base := 0, ctl := 0x6002, dly := 7, dsmp := 5, pre := [⟨0, 0, true, []⟩], preNext := 1, chanNext := 100000000 } : Run)] }); let n : Nat := 9; let r : Run := ({ base := 0, ctl := 0x6002, dly := 7, dsmp := 5, pre := [⟨0, 0, true, []⟩], preNext := 1, chanNext := 100000000 } : Run); (decide (n < 512)) && (!s.pwr.inReset) && ((s.path n).runs == [r]) && (r.stop.isNone) && (s.outReady r r.out) && (decide (r.lastPre r.out < r.preNext)) && (!(s.pathRecovers n r && decide (s.now < r.due))) && (!s.pathVoid n) && ((r.outWindow r.out).any fun b => b.missing)) = true ∧
  (let s : State := (run.setPath 9 { dropNext := true, warmLeft := 100, runs := [({ base := 0, ctl := 0x6002, dly := 7, dsmp := 5, pre := [⟨0, 0, false, [1, 9]⟩], preNext := 1, chanNext := 100000000 } : Run)] }); let n : Nat := 9; let r : Run := ({ base := 0, ctl := 0x6002, dly := 7, dsmp := 5, pre := [⟨0, 0, false, [1, 9]⟩], preNext := 1, chanNext := 100000000 } : Run); (decide (n < 512)) && (!s.pwr.inReset) && ((s.path n).runs == [r]) && (r.stop.isNone) && (s.outReady r r.out) && (decide (r.lastPre r.out < r.preNext)) && (!(s.pathRecovers n r && decide (s.now < r.due))) && (!s.pathVoid n) && ((r.outWindow r.out).all fun b => !b.missing && !b.flags.testBit 0)) = true ∧
  (let s : State := run; let kind : Nat := 1; let inst : Nat := 9; let ts : Nat := 1920; let period : Nat := 1920; (!s.pwr.inReset)) = true := by
  decide +kernel

/-- A state and operands that meet the hypotheses of each clause of Reception. -/
theorem witness_Reception :
  (let s : State := run; let m : Master := .pcie; let n : Nat := 9; let r : Nat := 2; let v : Word := 0x2010; (s.reaches m (DEMn_CTL n + 4 * r)) && (decide (n < 512)) && (decide (r < 3)) && (decide (n < s.hdr.paths)) && (!(s.ktOwned && decide (n < 4) && m != .personality)) && (!(s.poolPath n && m != .core 1)) && (!(r == 0 && s.getF (PTHn_STAT_STATE n) != 0 && !demCtlKeeps (s.rd (DEMn_CTL n + 4 * r)).toNat v.toNat)) && (regOk (DEMn_CTL n + 4 * r) v) && (demPairOk r v.toNat)) = true ∧
  (let s : State := ((fs run [(PTHn_STAT_STATE 9, 2), (PTHn_CTL_TYPE 9, 1), (DEMn_CTL_RDS 9, 1)]).setPath 9 { runs := [{ base := 0, ctl := 0x6001, chanNext := 400000000 }] }); let n : Nat := 9; let start : Nat := 314572800; let r : Run := ({ base := 0, ctl := 0x6001, chanNext := 400000000 } : Run); (decide (n < 512)) && (!s.pwr.inReset) && (s.pathRunning n) && ((s.path n).runs == [r]) && (start % 15728640 == 0) && (decide ((s.dem n).window ≤ start)) && (decide (r.base ≤ start)) && (r.chanCount (start + 15728639) == 0)) = true ∧
  (let s : State := ((fs run [(DEMn_STAT_WARMUP 9, 1)]).setDem 9 { toPublish := [{ start := 77, valid := true, rssi := -300 }] }); let n : Nat := 9; let m : Metrics := { start := 77, valid := true, rssi := -300 }; let rest : List Metrics := []; (decide (n < 512)) && ((s.dem n).toPublish == m :: rest)) = true ∧
  (let s : State := ((fs run [(PTHn_STAT_STATE 9, 2), (PTHn_CTL_TYPE 9, 1), (DEMn_CTL_RDS 9, 1), (DEMn_STAT_RDS_SYNC 9, 1)]).setPath 9 { runs := [({ base := 0, ctl := 0x6001, chanNext := 400000000 } : Run)] }); let n : Nat := 9; let bit : Nat := 0; let w : Nat := 0x3080691; let T : Nat := 100; let r : Run := ({ base := 0, ctl := 0x6001, chanNext := 400000000 } : Run); (decide (n < 512)) && (decide (w < 67108864)) && (s.pathRunning n) && (s.getF (PTHn_CTL_TYPE n) == 1) && (s.flag (DEMn_CTL_RDS n)) && ((s.path n).runs == [r]) && (r.chanCount (T + rdsTicks) == 0) && (s.rdsTimed n bit T) && (s.flag (DEMn_STAT_RDS_SYNC n)) && (rdsMod w == rdsOffset 5)) = true ∧
  (let s : State := ((fs run [(PTHn_STAT_STATE 9, 2), (PTHn_CTL_TYPE 9, 1), (DEMn_CTL_RDS 9, 1), (DEMn_STAT_RDS_SYNC 9, 1)]).setPath 9 { runs := [({ base := 0, ctl := 0x6001, chanNext := 400000000 } : Run)] }); let n : Nat := 9; let bit : Nat := 0; let w : Nat := 0x308064c; let T : Nat := 100; let r : Run := ({ base := 0, ctl := 0x6001, chanNext := 400000000 } : Run); (decide (n < 512)) && (decide (w < 67108864)) && (s.pathRunning n) && (s.getF (PTHn_CTL_TYPE n) == 1) && (s.flag (DEMn_CTL_RDS n)) && ((s.path n).runs == [r]) && (r.chanCount (T + rdsTicks) == 0) && (s.rdsTimed n bit T) && (s.flag (DEMn_STAT_RDS_SYNC n)) && (rdsMod w != rdsOffset 5) && ((rdsAt bit w T (s.dem n).pos).cls == 3)) = true ∧
  (let s : State := ((fs run [(PTHn_STAT_STATE 9, 2), (PTHn_CTL_TYPE 9, 1), (DEMn_CTL_RDS 9, 1), (DEMn_STAT_RDS_SYNC 9, 1), (DEMn_RDSQ_RUN 9, 3), (DEMn_PI_CAND 9, 0xC201)]).setPath 9 { runs := [({ base := 0, ctl := 0x6001, chanNext := 400000000 } : Run)] }); let n : Nat := 9; let bit : Nat := 0; let w : Nat := 0x308066d; let T : Nat := 100; let r : Run := ({ base := 0, ctl := 0x6001, chanNext := 400000000 } : Run); (decide (n < 512)) && (decide (w < 67108864)) && (s.pathRunning n) && (s.getF (PTHn_CTL_TYPE n) == 1) && (s.flag (DEMn_CTL_RDS n)) && ((s.path n).runs == [r]) && (r.chanCount (T + rdsTicks) == 0) && (s.rdsTimed n bit T) && (s.flag (DEMn_STAT_RDS_SYNC n)) && (rdsMod w == rdsOffset 0) && ((s.dem n).pos == 0) && (decide (((false :: (s.dem n).last50).take 50).count true ≤ 20)) && (s.getF (DEMn_RDSQ_RUN n) == 3) && (s.getF (DEMn_PI_CAND n) == w / 1024) && (!s.flag (DEMn_STAT_PI_CONF n))) = true ∧
  (let s : State := (((fs run [(PTHn_STAT_STATE 9, 2), (PTHn_CTL_TYPE 9, 1), (DEMn_CTL_RDS 9, 1)]).setPath 9 { runs := [({ base := 0, ctl := 0x6001, chanNext := 400000000 } : Run)] }).setDem 9 { cand := [⟨0, 0, 0, 1, 0⟩] }); let a : RdsBlock := ⟨0, 0, 0, 1, 0⟩; let b : RdsBlock := ⟨26, 0, 1, 2, 100⟩; let n : Nat := 9; let bit : Nat := 26; let w : Nat := 0xaea; let T : Nat := 100; let r : Run := ({ base := 0, ctl := 0x6001, chanNext := 400000000 } : Run); (decide (n < 512)) && (decide (w < 67108864)) && (s.pathRunning n) && (s.getF (PTHn_CTL_TYPE n) == 1) && (s.flag (DEMn_CTL_RDS n)) && ((s.path n).runs == [r]) && (r.chanCount (T + rdsTicks) == 0) && (s.rdsTimed n bit T) && (!s.flag (DEMn_STAT_RDS_SYNC n)) && (rdsClean bit w T == some b) && (((s.dem n).cand.find? fun x => rdsPair x b) == some a)) = true ∧
  (let s : State := (fs run [(DEMn_STAT_PI_CONF 9, 1), (DEMn_PI_PI 9, 5)]); let n : Nat := 9; let T : Nat := 7864320000; (decide (n < 512)) && (s.flag (DEMn_STAT_PI_CONF n)) && (!s.flag (DEMn_STAT_RDS_SYNC n)) && (decide ((s.dem n).unsyncAt + 7864320000 ≤ (s.advance T).now))) = true := by
  decide +kernel

/-- A state and operands that meet the hypotheses of each clause of EnsembleSlots. -/
theorem witness_EnsembleSlots :
  (let s : State := run; let m : Master := .pcie; let n : Nat := 7; (s.reaches m (ENSs_CMD n)) && (decide (n < 48)) && (decide (n < s.hdr.ens)) && (s.slotState n == 0)) = true ∧
  (let s : State := (fs run [(ENSs_STAT_STATE 7, 3)]); let m : Master := .pcie; let n : Nat := 7; (s.reaches m (ENSs_CMD n)) && (decide (n < 48)) && (decide (n < s.hdr.ens)) && (s.slotState n == 2 || s.slotState n == 3) && (!s.slotInFade n) && ((s.slot n).change == .none)) = true ∧
  (let s : State := (fs run [(ENSs_STAT_STATE 7, 1)]); let m : Master := .pcie; let n : Nat := 7; (s.reaches m (ENSs_CMD n)) && (decide (n < 48)) && (decide (n < s.hdr.ens)) && (s.slotState n == 1)) = true ∧
  (let s : State := (fs run [(ENSs_STAT_STATE 7, 3)]); let m : Master := .pcie; let n : Nat := 7; (s.reaches m (ENSs_CMD n)) && (decide (n < 48)) && (decide (n < s.hdr.ens)) && (s.slotState n == 2 || s.slotState n == 3) && ((s.slot n).change == .none)) = true ∧
  (let s : State := ((fs run [(ENSs_STAT_STATE 7, 1)]).setSlot 7 { change := .start, due := 5 }); let n : Nat := 7; let T : Nat := 122880; (decide (n < 48)) && (!s.pwr.inReset) && (T % 122880 == 0) && (decide ((s.slot n).due ≤ T)) && ((s.slot n).change == .start)) = true ∧
  (let s : State := ((fs run [(ENSs_STAT_STATE 7, 3), (ENSs_EID_VALID 7, 1)]).setSlot 7 { change := .sync, due := 5, org := some [⟨5, 63, true, 84, 112⟩] }); let n : Nat := 7; let T : Nat := 122880; (decide (n < 48)) && (!s.pwr.inReset) && (T % 122880 == 0) && (decide ((s.slot n).due ≤ T)) && ((s.slot n).change == .sync) && ((s.slot n).later.isNone) && (s.slotState n != 4)) = true ∧
  (let s : State := ((fs run [(ENSs_STAT_STATE 7, 3), (DECd_STAT_STATE 4, 2), (DECd_CTL_SLOT 4, 7)]).setSlot 7 { change := .stop, due := 5 }); let n : Nat := 7; let T : Nat := 122880; (decide (n < 48)) && (!s.pwr.inReset) && (T % 122880 == 0) && (decide ((s.slot n).due ≤ T)) && ((s.slot n).change == .stop)) = true ∧
  (let s : State := (fs run [(ENSs_STAT_STATE 7, 2)]); let n : Nat := 7; let nulls : List Nat := [1000, 377488360, 754975720]; let prs : Bool := true; let foff : Int := -35000; let err : Nat := 50; (decide (n < 48)) && (s.slotState n == 2) && (lockOk nulls prs foff err)) = true ∧
  (let s : State := (fs run [(ENSs_STAT_STATE 7, 2)]); let n : Nat := 7; let nulls : List Nat := [1000, 377488360, 754975720]; let prs : Bool := true; let foff : Int := -35001; let err : Nat := 50; (decide (n < 48)) && (s.slotState n == 2) && (!lockOk nulls prs foff err)) = true ∧
  (let s : State := ((fs run [(ENSs_STAT_STATE 7, 3), (ENSs_STAT_FIC_OK 7, 1)]).setSlot 7 { frames := [(1000, 4)] }); let n : Nat := 7; let T : Nat := 3019899880; let period : Nat := 377487360; (decide (n < 48)) && (s.slotState n == 3) && (s.lostOk n T period)) = true ∧
  (let s : State := (fs run [(ENSs_STAT_STATE 7, 3)]); let n : Nat := 7; let f : Frame := ⟨999, -77, 3, [[5, 0, 64, 1, 1, 0, 255, 0, 0, 0, 0, 0, 0, 0, 0, 0, 0, 0, 0, 0, 0, 0, 0, 0, 0, 0, 0, 0, 0, 0, 43, 133], List.replicate 32 0], none⟩; let eid : Nat := 0x4001; let cif : Nat := 250; (decide (n < 48)) && (!s.pwr.inReset) && (s.slotLocked n) && (fig00Read f == some (eid, cif)) && (decide (eid < 65536)) && (decide (cif < 5000))) = true ∧
  (let s : State := (((fs run [(ENSs_STAT_STATE 7, 3), (NET_CAS_CTL_SIDE, 1), (NET_CAS_CTL_TYPES, 16)]).wr (ENSs_SUBOUT_LO 7) 32).setSlot 7 { org := some [⟨5, 63, true, 84, 112⟩], frames := [(377488137, 12), (777, 8)] }); let n : Nat := 7; let sub : Nat := 5; let cif : Nat := 9; let f : Nat := 777; let bytes : List Nat := [1, 2, 3]; (decide (n < 48)) && (decide (sub < 64)) && (decide (cif < 5000)) && (s.frameOf n cif == some f) && ((s.slot n).cif != cif) && (s.slotLocked n) && ((s.get64 (ENSs_SUBOUT_LO n) (ENSs_SUBOUT_HI n)).testBit sub) && (((s.slot n).org.getD []).any (fun c => c.id == sub)) && (decide (bytes.length ≤ 6912)) && (!s.abandonedIn 2 n (s.cifInstant n f (cif % 4)) (s.cifInstant n f (cif % 4) + frameTicks / 4 - 1)) && (s.flag NET_CAS_CTL_SIDE) && ((s.getF NET_CAS_CTL_TYPES).testBit 4)) = true ∧
  (let s : State := (fs run [(ENSs_STAT_STATE 7, 3)]); let n : Nat := 7; let org : List SubCh := [⟨5, 63, true, 84, 112⟩]; (decide (n < 48)) && (s.slotLocked n)) = true := by
  decide +kernel

/-- A state and operands that meet the hypotheses of each clause of AudioDecoders. -/
theorem witness_AudioDecoders :
  (let s : State := run; let m : Master := .pcie; let d : Nat := 4; (s.reaches m (DECd_CMD d)) && (decide (d < 128)) && (decide (d < s.hdr.dec)) && (!(s.flag (DECd_CTL_OWNER d) && m != .core 1)) && (s.decState d == 0)) = true ∧
  (let s : State := (fs run [(DECd_STAT_STATE 4, 2)]); let m : Master := .pcie; let d : Nat := 4; (s.reaches m (DECd_CMD d)) && (decide (d < 128)) && (decide (d < s.hdr.dec)) && (!(s.flag (DECd_CTL_OWNER d) && m != .core 1)) && (s.decState d == 2) && (!s.inFade 2 d) && ((s.decoder d).change == .none)) = true ∧
  (let s : State := (fs run [(DECd_STAT_STATE 4, 2), (FOLp_STAT_XFADE 1, 1), (FOLp_SRC_IKIND 1, 2), (FOLp_SRC_INUM 1, 4)]); let m : Master := .pcie; let d : Nat := 4; (s.reaches m (DECd_CMD d)) && (decide (d < 128)) && (decide (d < s.hdr.dec)) && (!(s.flag (DECd_CTL_OWNER d) && m != .core 1)) && (s.decState d == 2) && (s.inFade 2 d)) = true ∧
  (let s : State := (fs run [(DECd_STAT_STATE 4, 1)]); let m : Master := .pcie; let d : Nat := 4; (s.reaches m (DECd_CMD d)) && (decide (d < 128)) && (decide (d < s.hdr.dec)) && (!(s.flag (DECd_CTL_OWNER d) && m != .core 1)) && (s.decState d == 1) && ((s.decoder d).change == .none)) = true ∧
  (let s : State := ((fs run [(ENSs_STAT_STATE 7, 3), (DECd_CTL_SLOT 4, 7), (DECd_CTL_SUBCH 4, 5), (DECd_STAT_STATE 4, 1)]).setSlot 7 { org := some [⟨5, 63, true, 84, 112⟩], frames := [(5242881, 1240)] }); let d : Nat := 4; let cif : Nat := 1240; let t0 : Nat := 5242881; let st : Bool := true; let sbr : Bool := false; let ps : Bool := false; let core : Nat := 1; let c : SubCh := ⟨5, 63, true, 84, 112⟩; (decide (d < 128)) && (decide (core < 4)) && (s.decSub d == some c) && (s.cifAt (s.getF (DECd_CTL_SLOT d)) cif == some t0) && (s.decState d == 1) && ((s.decoder d).change == .none) && (s.waitReason d == 0) && (codecOf c.ascTy == 1 || cif % 5 == 0) && ((s.advance (ceilTo 5242880 t0 + (if codecOf c.ascTy = 1 then 1572864000 else 2044723200))).now == ceilTo 5242880 t0 + (if codecOf c.ascTy = 1 then 1572864000 else 2044723200))) = true ∧
  (let s : State := (fs run [(DECd_STAT_STATE 4, 2)]); let d : Nat := 4; (decide (d < 128)) && (s.decState d == 2) && (s.waitReason d != 0)) = true ∧
  (let s : State := ((fs run [(DECd_STAT_STATE 4, 2), (DECd_CTL_SLOT 4, 7), (DECd_FMT_CODEC_ACT 4, 1)]).setSlot 7 { frames := [(1000, 8)] }); let d : Nat := 4; let cif : Nat := 9; let au : Nat := 0; let good : Nat := 3; let rs : Nat := 0; let lo : Nat := 94372840; let hi : Nat := 188744680; (decide (d < 128)) && (s.decState d == 2 || s.decState d == 3) && (s.auNamed d false au) && (s.audioSpan d cif au false == some (lo, hi)) && ((s.decoder d).fails.isEmpty)) = true ∧
  (let s : State := (fs run [(DECd_STAT_STATE 4, 2)]); let d : Nat := 4; let cif : Nat := 10; let au : Nat := 0; let good : Nat := 3; let rs : Nat := 2; (decide (d < 128)) && (s.decState d == 2 || s.decState d == 3)) = true ∧
  (let s : State := (fs run [(DECd_STAT_STATE 4, 3)]); let d : Nat := 4; (decide (d < 128)) && (!s.inFade 2 d) && (s.decState d == 3)) = true ∧
  (let s : State := (fs run [(PTHn_STAT_STATE 4, 3)]); let n : Nat := 4; (decide (n < 512)) && (!s.inFade 1 n) && (s.getF (PTHn_STAT_STATE n) == 3)) = true := by
  decide +kernel

/-- A state and operands that meet the hypotheses of each clause of ResetAndSupplies. -/
theorem witness_ResetAndSupplies :
  (let s : State := run; let ns : Nat := 100; let took : Bool := true; (decide (1000 ≤ ns) || (decide (100 ≤ ns) && took))) = true ∧
  (let s : State := run; let ns : Nat := 99; let took : Bool := true; (decide (ns < 100) || (decide (ns < 1000) && !took))) = true ∧
  (let s : State := { pwr := { railsOk := true } }; (s.pwr.railsOk)) = true ∧
  (let s : State := { pwr := { railsOk := true, porDone := true } }; let sp : Straps := ⟨true, 3, 2⟩; let early : Bool := false; let q : Temps := ⟨List.replicate 8 160, none⟩; let lic : Bool := false; (s.pwr.inReset) && (s.pwr.railsOk) && (s.pwr.porDone) && (!s.pwr.tripHold) && (q.ts.length == 8) && (!tripReading q) && (!s.pwr.hot || q.ts.all (fun x => decide (x < 420))) && (decide (sp.bootSrc < 4)) && (decide (sp.cfgSel < 4))) = true ∧
  (let s : State := run; let rails : Nat := 5; (rails % 256 != 0)) = true ∧
  (let s : State := run; let rails : Nat := 5; (rails % 256 != 0)) = true ∧
  (let s : State := run; let q : Temps := ⟨[160, 420, 160, 470, 160, 160, 160, 160], none⟩; (!s.pwr.inReset) && (q.ts.length == 8) && (!tripReading q) && (q.ts.any fun x => decide (4 * (s.getF SYS_THERM_CFG_WARN_C : Int) ≤ x))) = true ∧
  (let s : State := (fs run [(SYS_THERM_WARN, 1)]); let q : Temps := ⟨List.replicate 8 160, none⟩; (!s.pwr.inReset) && (q.ts.length == 8) && (!tripReading q) && (q.ts.all fun x => decide (x ≤ 4 * (s.getF SYS_THERM_CFG_WARN_C : Int) - 8))) = true ∧
  (let s : State := run; let q : Temps := ⟨[160, 420, 160, 512, 160, 160, 160, 160], none⟩; (q.ts.length == 8) && (tripReading q)) = true ∧
  (let s : State := run; let q : Temps := ⟨[160, 420, 160, 512, 160, 160, 160, 160], none⟩; (q.ts.any fun x => decide (510 ≤ x))) = true ∧
  (let s : State := (fs run [(CLK_STAT_HK_OK, 1), (SLK_STAT_LOCK, 1), (SLK_STAT_STATE, 2)]); (!s.pwr.inReset)) = true ∧
  (let s : State := (fs run [(CLK_STAT_HK_OK, 0)]); (!s.pwr.inReset)) = true ∧
  (let s : State := (fs run [(PCI_STAT_UP, 1), (PCI_Qq_CTL_EN 3, 1)]); (!s.pwr.inReset)) = true ∧
  (let s : State := { fs run [(CLK_DOM_PCI, 1)] with pins := { run.pins with perstN := true } }; let gen : Nat := 4; let lanes : Nat := 4; (!s.pwr.inReset) && (s.pins.perstN) && (s.flag CLK_DOM_PCI) && (decide (1 ≤ gen)) && (decide (gen ≤ 4)) && (lanes == 1 || lanes == 2 || lanes == 4)) = true ∧
  (let s : State := (fs run [(PCI_STAT_UP, 1), (PCI_Qq_CTL_EN 3, 1)]); let gen : Nat := 0; let lanes : Nat := 0; (!s.pwr.inReset)) = true := by
  decide +kernel

/-- A state and operands that meet the hypotheses of clause 11 of BootSteps. -/
theorem witness_BootSteps_11 :
  (let s : State := romBs; let f : BsFile := wholeFile; let v : SigVerdict := ⟨0, true⟩; let hash : Nat := 9; let w : FwHdr := romFw; let x := if s.boot.hostLoad then s.hostBitstream else f; let h := bsHdrOf x hash; let g := bsSigOf x v; (s.readsImage) && (s.boot.fw == some w) && (s.flag MRW_STAT_INIT_DONE) && (s.bsCheck w.families h g == 0)) = true := by
  have h1 := whole_check
  exact h1

/-- A state and operands that meet the hypotheses of each clause of BootSteps. -/
theorem witness_BootSteps :
  (let s : State := { (fs {} [(SYS_BOOT_STATE, 1)]) with pwr := { inReset := false, railsOk := true, porDone := true }, pins := { qspi := true }, boot := { refDone := true } }; let n : Nat := 15; (!s.pwr.inReset) && (!s.flag MRW_STAT_INIT_DONE) && (n % 16 == 15)) = true ∧
  (let s : State := { (fs {} [(SYS_BOOT_STATE, 1)]) with pwr := { inReset := false, railsOk := true, porDone := true }, pins := { qspi := true }, boot := { refDone := true } }; let n : Nat := 7; (!s.pwr.inReset) && (!s.flag MRW_STAT_INIT_DONE) && (n % 16 != 15)) = true ∧
  (let s : State := { (fs {} [(SYS_BOOT_STATE, 1)]) with pwr := { inReset := false, railsOk := true, porDone := true }, pins := { qspi := true }, boot := {  } }; let hz : Nat := 10000100; (!s.pwr.inReset) && (!s.boot.refDone) && (classifyRef hz != 0)) = true ∧
  (let s : State := { (fs {} [(SYS_BOOT_STATE, 1)]) with pwr := { inReset := false, railsOk := true, porDone := true }, pins := { qspi := true }, boot := {  } }; let hz : Nat := 12000000; (!s.pwr.inReset) && (!s.boot.refDone) && (classifyRef hz == 0)) = true ∧
  (let s : State := { (fs {} [(SYS_BOOT_STATE, 1)]) with pwr := { inReset := false, railsOk := true, porDone := true }, pins := { qspi := true }, boot := { refDone := true } }; let k : Nat := 0; let l : List Byte := (let b := ([0x52, 0x49, 0x44, 0x56, 1, 4, 0, 0, 0, 0, 1, 0, 0, 0, 2, 0, 0, 0, 3, 0, 0, 0, 4, 0] : List Byte) ++ List.replicate 228 0; b ++ bytesOf 4 (crc32 b)); (s.readsDir k) && (dirCheck l == 0) && (s.boot.straps.cfgSel == 0) && (leAt l 8 4 != 0) && (leAt l 16 4 != 0)) = true ∧
  (let s : State := { (fs {} [(SYS_BOOT_STATE, 1)]) with pwr := { inReset := false, railsOk := true, porDone := true }, pins := { qspi := true }, boot := { refDone := true } }; let l : List Byte := [1, 2]; (s.readsDir 0) && (dirCheck l != 0)) = true ∧
  (let s : State := { (fs {} [(SYS_BOOT_STATE, 1)]) with pwr := { inReset := false, railsOk := true, porDone := true }, pins := { qspi := true }, boot := { refDone := true, dirNext := 1 } }; let k : Nat := 1; (s.readsDir k) && (k == 1)) = true ∧
  (let s : State := { (fs {} [(SYS_BOOT_STATE, 1)]) with pwr := { inReset := false, railsOk := true, porDone := true }, pins := { qspi := true }, boot := { refDone := true, entry := [1, 0, 3, 0] } }; let l : List Byte := fwBytes; let v : SigVerdict := ⟨0, true⟩; let hash : Nat := 9; let x := if s.boot.hostLoad then s.hostFirmware else l; let h := fwHdrOf x hash; let g := fwSigOf x v; (s.readsImage) && (s.boot.fw.isNone) && (s.fwCheck h g == 0)) = true ∧
  (let s : State := { (fs {} [(SYS_BOOT_STATE, 1)]) with pwr := { inReset := false, railsOk := true, porDone := true }, pins := { qspi := true }, boot := { refDone := true, entry := [1, 5, 3, 0] } }; let l : List Byte := fwBytes; let v : SigVerdict := ⟨0, false⟩; let hash : Nat := 9; let x := if s.boot.hostLoad then s.hostFirmware else l; let h := fwHdrOf x hash; let g := fwSigOf x v; (s.readsImage) && (s.boot.fw.isNone) && (s.fwCheck h g != 0) && (!s.boot.hostLoad) && (s.boot.fwTry == 0) && (s.boot.entry.getD 1 0 != 0)) = true ∧
  (let s : State := { (fs {} [(SYS_BOOT_STATE, 1)]) with pwr := { inReset := false, railsOk := true, porDone := true }, pins := { qspi := true }, boot := { refDone := true, hostLoad := true } }; let l : List Byte := []; let v : SigVerdict := ⟨0, true⟩; let hash : Nat := 9; let x := if s.boot.hostLoad then s.hostFirmware else l; let h := fwHdrOf x hash; let g := fwSigOf x v; (s.readsImage) && (s.boot.fw.isNone) && (s.fwCheck h g != 0) && (s.boot.hostLoad)) = true ∧
  (let s : State := { romBs with boot := { romBs.boot with entry := [1, 0, 3, 5] } }; let f : BsFile := ⟨[], [], []⟩; let v : SigVerdict := ⟨0, true⟩; let hash : Nat := 9; let w : FwHdr := romFw; let x := if s.boot.hostLoad then s.hostBitstream else f; let h := bsHdrOf x hash; let g := bsSigOf x v; (s.readsImage) && (s.boot.fw == some w) && (s.flag MRW_STAT_INIT_DONE) && (s.bsCheck w.families h g != 0) && (!s.boot.hostLoad) && (s.boot.bsTry == 0) && (s.boot.entry.getD 3 0 != 0)) = true ∧
  (let s : State := { (fs {} [(SYS_BOOT_STATE, 1), (MRW_STAT_INIT_DONE, 1)]) with pwr := { inReset := false, railsOk := true, porDone := true }, pins := { qspi := true }, boot := { refDone := true, entry := [1, 0, 3, 0], fw := some ⟨true, 256, 3, 0, 255, [1], [⟨4, 2⟩], [[0, 0, 0, 0]], 9⟩, bs := some { run.hdr with offer := 0x41, secver := 2 }, configuring := true } }; let n : Nat := 122000; let k : Nat := 0; let h : BsHdr := { run.hdr with offer := 0x41, secver := 2 }; let f : FwHdr := ⟨true, 256, 3, 0, 255, [1], [⟨4, 2⟩], [[0, 0, 0, 0]], 9⟩; (s.boot.bs == some h) && (s.boot.fw == some f) && (s.boot.configuring) && (!s.pwr.inReset) && (decide (h.secver ≤ 64)) && (decide (f.secver ≤ 64)) && (decide (k < 8))) = true ∧
  (let s : State := (fs run [(SYS_BOOT_STATE, 2)]); (s.stage == 2) && (!s.pwr.inReset)) = true ∧
  (let s : State := { (fs {} [(SYS_BOOT_STATE, 1), (SYS_BOOT_WAIT_HOST, 1)]) with pwr := { inReset := false, railsOk := true, porDone := true }, pins := { qspi := true }, boot := { refDone := true } }; let m : Master := .pcie; (s.reaches m SYS_BOOT_CMD) && (s.flag SYS_BOOT_WAIT_HOST)) = true ∧
  (let s : State := run; let m : Master := .pcie; (s.reaches m SYS_BOOT_CMD) && (!s.flag SYS_BOOT_WAIT_HOST)) = true := by
  decide +kernel

/-- A state and operands that meet the hypotheses of each clause of Negotiation. -/
theorem witness_Negotiation :
  (let s : State := (fs run [(SYS_BOOT_STATE, 3)]).wr (FEAT_ACTIVE 0) 1; let m : Master := .pcie; let w : Nat := 0; let v : Word := 0x41; (decide (w < 4)) && (s.reaches m (FEAT_ACCEPT w)) && (v &&& s.rd (FEAT_ACTIVE w) == s.rd (FEAT_ACTIVE w))) = true ∧
  (let s : State := (fs run [(SYS_BOOT_STATE, 3)]).wr (FEAT_ACTIVE 0) 1; let m : Master := .pcie; let w : Nat := 0; let v : Word := 0x40; (decide (w < 4)) && (s.reaches m (FEAT_ACCEPT w)) && (v &&& s.rd (FEAT_ACTIVE w) != s.rd (FEAT_ACTIVE w))) = true ∧
  (let s : State := (fs run [(SYS_BOOT_STATE, 3)]); let m : Master := .hostBus; (s.reaches m FEAT_LOCK) && (decide (3 ≤ s.stage)) && (!s.flag FEAT_LOCK_BUSY)) = true ∧
  (let s : State := (fs run [(SYS_BOOT_STATE, 3), (FEAT_LOCK_BUSY, 1)]); let m : Master := .hostBus; (s.reaches m FEAT_LOCK) && (decide (3 ≤ s.stage)) && (s.flag FEAT_LOCK_BUSY)) = true ∧
  (let s : State := ({ fs run [(SYS_BOOT_STATE, 3), (FEAT_LOCK_BUSY, 1)] with boot := { run.boot with lock := some (0x41, true, true, true), lockAsk := 0x43 } }); let cand : Nat := 0x41; let aud : Bool := true; let bb : Bool := true; let snap : Bool := true; (s.boot.lock == some (cand, aud, bb, snap)) && (decide (s.boot.lockAsk < 2 ^ 128))) = true ∧
  (let s : State := ({ fs run [(SYS_BOOT_STATE, 3)] with boot := { run.boot with straps := ⟨true, 0, 0⟩ } }); (!s.pwr.inReset) && (s.boot.straps.hbMode) && (decide (3 ≤ s.stage)) && (!s.feat 17) && (!s.boot.ktRejected) && (!s.flag FEAT_LOCK_BUSY)) = true ∧
  (let s : State := ((fs run [(PTHn_STAT_STATE 0, 2), (PTHn_STAT_STATE 1, 2), (PTHn_STAT_STATE 2, 2), (PTHn_STAT_STATE 3, 2)]).wr (FEAT_ACTIVE 0) 0x20000); (s.ktOwned) && (s.firmwareOn 0) && (!s.flag CMP_STAT_READY) && ([0, 1, 2, 3].all fun n => s.pathRunning n && s.getF (PTHn_STAT_WARMUP n) == 0)) = true := by
  decide +kernel

/-- A state and operands that meet the hypotheses of each clause of FeatureRequirements. -/
theorem witness_FeatureRequirements :
  (let s : State := ({ fs { run with regs := [] } [(SYS_BOOT_STATE, 3), (FEAT_LOCK_BUSY, 1)] with boot := { run.boot with lock := some (0x9FFFFFFC, true, false, true), lockAsk := 0x43 } }); let cand : Nat := 0x9FFFFFFC; let aud : Bool := true; let bb : Bool := false; let snap : Bool := true; (s.boot.lock == some (cand, aud, bb, snap))) = true := by
  decide +kernel

/-- A state and operands that meet the hypotheses of each clause of ExciterSequence. -/
theorem witness_ExciterSequence :
  (let s : State := ({ (fs run [(CLK_STAT_LOCK, 1), (CLK_STAT_HK_OK, 1), (CLK_STAT_STATE, 3), (EXC_LIC_STAT_STATE, 2), (XLi_FREQ_HZ 2, 98100000), (EXC_CENTRE_HZ, 98100000), (XLi_PWR_TGT 2, 300), (EXC_CTL_DPD_EN, 0), (XLi_CTL_EN 2, 1)]) with pins := { paFaultN := true }, exc := { lic := some ⟨5, [⟨98100000, 1, 500, 900, [(100, -10), (200, -40)]⟩], []⟩ } }); let m : Master := .pcie; (s.reaches m EXC_CMD) && (s.keyOk) && (s.excState == 0)) = true ∧
  (let s : State := ({ (fs run [(CLK_STAT_LOCK, 1), (CLK_STAT_HK_OK, 1), (CLK_STAT_STATE, 3), (EXC_LIC_STAT_STATE, 2), (XLi_FREQ_HZ 2, 98100000), (EXC_CENTRE_HZ, 98100000), (XLi_PWR_TGT 2, 300), (EXC_CTL_DPD_EN, 0)]) with pins := { paFaultN := true }, exc := { lic := some ⟨5, [⟨98100000, 1, 500, 900, [(100, -10), (200, -40)]⟩], []⟩ } }); let m : Master := .pcie; (s.reaches m EXC_CMD) && (!s.keyOk)) = true ∧
  (let s : State := ({ (fs run [(CLK_STAT_LOCK, 1), (CLK_STAT_HK_OK, 1), (CLK_STAT_STATE, 3), (EXC_LIC_STAT_STATE, 2), (XLi_FREQ_HZ 2, 98100000), (EXC_CENTRE_HZ, 98100000), (XLi_PWR_TGT 2, 300), (EXC_CTL_DPD_EN, 0), (XLi_CTL_EN 2, 1), (EXC_STAT_STATE, 4)]) with pins := { paFaultN := true, paVdd := true, paBias := true, paRf := true }, exc := { lic := some ⟨5, [⟨98100000, 1, 500, 900, [(100, -10), (200, -40)]⟩], []⟩ } }); let m : Master := .hostBus; (s.reaches m EXC_CMD) && (s.excState == 3 || s.excState == 4) && (!s.exc.down)) = true ∧
  (let s : State := ({ (fs run [(CLK_STAT_LOCK, 1), (CLK_STAT_HK_OK, 1), (CLK_STAT_STATE, 3), (EXC_LIC_STAT_STATE, 2), (XLi_FREQ_HZ 2, 98100000), (EXC_CENTRE_HZ, 98100000), (XLi_PWR_TGT 2, 300), (EXC_CTL_DPD_EN, 0), (EXC_STAT_STATE, 7)]) with pins := { paFaultN := true }, exc := { lic := some ⟨5, [⟨98100000, 1, 500, 900, [(100, -10), (200, -40)]⟩], []⟩, faultDone := true } }); let m : Master := .hostBus; (s.reaches m EXC_CMD) && (s.excState == 7) && (s.pins.paFaultN) && (s.exc.faultDone)) = true ∧
  (let s : State := ({ (fs run [(CLK_STAT_LOCK, 1), (CLK_STAT_HK_OK, 1), (CLK_STAT_STATE, 3), (EXC_LIC_STAT_STATE, 2), (XLi_FREQ_HZ 2, 98100000), (EXC_CENTRE_HZ, 98100000), (XLi_PWR_TGT 2, 300), (EXC_CTL_DPD_EN, 0)]) with pins := { paFaultN := true }, exc := { lic := some ⟨5, [⟨98100000, 1, 500, 900, [(100, -10), (200, -40)]⟩], []⟩, dpd := { converged := true, updated := true, coefs := [(0, 5)] } } }); let m : Master := .hostBus; (s.reaches m EXC_CMD) && (s.excState == 0 || s.excState == 6)) = true ∧
  (let s : State := ({ (fs run [(CLK_STAT_LOCK, 1), (CLK_STAT_HK_OK, 1), (CLK_STAT_STATE, 3), (EXC_LIC_STAT_STATE, 2), (XLi_FREQ_HZ 2, 98100000), (EXC_CENTRE_HZ, 98100000), (XLi_PWR_TGT 2, 300), (EXC_CTL_DPD_EN, 0), (XLi_CTL_EN 2, 1), (EXC_STAT_STATE, 1)]) with pins := { paFaultN := true }, exc := { lic := some ⟨5, [⟨98100000, 1, 500, 900, [(100, -10), (200, -40)]⟩], []⟩, step := .biasUp, due := 5 } }); let n : Nat := 9; (s.exc.step == .biasUp) && (decide (s.exc.due ≤ n))) = true ∧
  (let s : State := ({ (fs run [(CLK_STAT_LOCK, 1), (CLK_STAT_HK_OK, 1), (CLK_STAT_STATE, 3), (EXC_LIC_STAT_STATE, 2), (XLi_FREQ_HZ 2, 98100000), (EXC_CENTRE_HZ, 98100000), (XLi_PWR_TGT 2, 300), (EXC_CTL_DPD_EN, 0), (XLi_CTL_EN 2, 1), (EXC_STAT_STATE, 2)]) with pins := { paFaultN := true }, exc := { lic := some ⟨5, [⟨98100000, 1, 500, 900, [(100, -10), (200, -40)]⟩], []⟩, step := .rfUp, due := 5 } }); let n : Nat := 9; (s.exc.step == .rfUp) && (decide (s.exc.due ≤ n)) && (s.getF (CALn_STAT_STATE 4) != 2)) = true ∧
  (let s : State := ({ (fs run [(CLK_STAT_LOCK, 1), (CLK_STAT_HK_OK, 1), (CLK_STAT_STATE, 3), (EXC_LIC_STAT_STATE, 2), (XLi_FREQ_HZ 2, 98100000), (EXC_CENTRE_HZ, 98100000), (XLi_PWR_TGT 2, 300), (EXC_CTL_DPD_EN, 0), (EXC_STAT_STATE, 7)]) with pins := { paVdd := true, paBias := true }, exc := { lic := some ⟨5, [⟨98100000, 1, 500, 900, [(100, -10), (200, -40)]⟩], []⟩, step := .faultBias, due := 5 } }); let n : Nat := 9; (s.exc.step == .faultBias) && (decide (s.exc.due ≤ n))) = true ∧
  (let s : State := ({ (fs run [(CLK_STAT_LOCK, 1), (CLK_STAT_HK_OK, 1), (CLK_STAT_STATE, 3), (EXC_LIC_STAT_STATE, 2), (XLi_FREQ_HZ 2, 98100000), (EXC_CENTRE_HZ, 98100000), (XLi_PWR_TGT 2, 300), (EXC_CTL_DPD_EN, 0), (XLi_CTL_EN 2, 1), (EXC_STAT_STATE, 3)]) with pins := { paFaultN := true, paVdd := true, paBias := true, paRf := true }, exc := { lic := some ⟨5, [⟨98100000, 1, 500, 900, [(100, -10), (200, -40)]⟩], []⟩ } }); let i : Nat := 8; let n : Nat := 9; (i == 8) && (decide (s.exc.due ≤ n)) && (s.excState == 3)) = true ∧
  (let s : State := ({ (fs run [(CLK_STAT_LOCK, 1), (CLK_STAT_HK_OK, 1), (CLK_STAT_STATE, 3), (EXC_LIC_STAT_STATE, 2), (XLi_FREQ_HZ 2, 98100000), (EXC_CENTRE_HZ, 98100000), (XLi_PWR_TGT 2, 300), (EXC_CTL_DPD_EN, 0), (XLi_CTL_EN 2, 1), (XLi_STAT_STATE 2, 1)]) with pins := { paFaultN := true, paVdd := true, paBias := true, paRf := true }, exc := { lic := some ⟨5, [⟨98100000, 1, 500, 900, [(100, -10), (200, -40)]⟩], []⟩ } }); let i : Nat := 2; let n : Nat := 9; (decide (i < 8)) && (s.getF (XLi_STAT_STATE i) == 1)) = true ∧
  (let s : State := ({ (fs run [(CLK_STAT_LOCK, 1), (CLK_STAT_HK_OK, 1), (CLK_STAT_STATE, 3), (EXC_LIC_STAT_STATE, 2), (XLi_FREQ_HZ 2, 98100000), (EXC_CENTRE_HZ, 98100000), (XLi_PWR_TGT 2, 300), (EXC_CTL_DPD_EN, 0), (XLi_CTL_EN 2, 1), (EXC_STAT_STATE, 4)]) with pins := { paFaultN := true, paVdd := true, paBias := true, paRf := true }, exc := { lic := some ⟨5, [⟨98100000, 1, 500, 900, [(100, -10), (200, -40)]⟩], []⟩ } }); let ns : Nat := 150; let took : Bool := false; (!s.pwr.inReset) && (decide (100 ≤ ns) || (decide (20 ≤ ns) && took)) && (decide (1 ≤ s.excState)) && (decide (s.excState ≤ 6))) = true ∧
  (let s : State := ({ (fs run [(CLK_STAT_LOCK, 1), (CLK_STAT_HK_OK, 1), (CLK_STAT_STATE, 3), (EXC_LIC_STAT_STATE, 2), (XLi_FREQ_HZ 2, 98100000), (EXC_CENTRE_HZ, 98100000), (XLi_PWR_TGT 2, 300), (EXC_CTL_DPD_EN, 0), (XLi_CTL_EN 2, 1), (EXC_STAT_STATE, 4)]) with pins := { paFaultN := true, paVdd := true, paBias := true, paRf := true }, exc := { lic := some ⟨5, [⟨98100000, 1, 500, 900, [(100, -10), (200, -40)]⟩], []⟩ } }); let ns : Nat := 19; let took : Bool := true; (decide (ns < 20) || (decide (ns < 100) && !took))) = true ∧
  (let s : State := ({ (fs run [(CLK_STAT_LOCK, 1), (CLK_STAT_HK_OK, 1), (CLK_STAT_STATE, 3), (EXC_LIC_STAT_STATE, 2), (XLi_FREQ_HZ 2, 98100000), (EXC_CENTRE_HZ, 98100000), (XLi_PWR_TGT 2, 300), (EXC_CTL_DPD_EN, 0), (EXC_STAT_STATE, 7)]) with pins := { paFaultN := false }, exc := { lic := some ⟨5, [⟨98100000, 1, 500, 900, [(100, -10), (200, -40)]⟩], []⟩ } }); let ns : Nat := 0; let took : Bool := false; (!s.pwr.inReset)) = true ∧
  (let s : State := ({ (fs run [(CLK_STAT_LOCK, 1), (CLK_STAT_HK_OK, 1), (CLK_STAT_STATE, 3), (EXC_LIC_STAT_STATE, 2), (XLi_FREQ_HZ 2, 98100000), (EXC_CENTRE_HZ, 98100000), (XLi_PWR_TGT 2, 300), (EXC_CTL_DPD_EN, 0), (XLi_CTL_EN 2, 1), (EXC_STAT_STATE, 6), (EXC_CTL_AUTOKEY, 1)]) with pins := { paFaultN := true, paVdd := true, paBias := true }, exc := { lic := some ⟨5, [⟨98100000, 1, 500, 900, [(100, -10), (200, -40)]⟩], []⟩, heldBySpll := true } }); let n : Nat := 4000000000; ((s.advance n).flag EXC_CTL_AUTOKEY) && (s.excState == 6) && (s.exc.heldBySpll) && (s.inLock) && (decide (s.clk.lockedAt + Config.ticksPerSecond ≤ (s.advance n).now)) && ((s.advance n).keyOk)) = true ∧
  (let s : State := ({ (fs run [(CLK_STAT_LOCK, 1), (CLK_STAT_HK_OK, 1), (CLK_STAT_STATE, 3), (EXC_LIC_STAT_STATE, 2), (XLi_FREQ_HZ 2, 98100000), (EXC_CENTRE_HZ, 98100000), (XLi_PWR_TGT 2, 300), (EXC_CTL_DPD_EN, 0), (EXC_CTL_DPD_EN, 1)]) with pins := { paFaultN := true }, exc := { lic := some ⟨5, [⟨98100000, 1, 500, 900, [(100, -10), (200, -40)]⟩], []⟩ } }); let bad : Bool := true; (s.flag EXC_CTL_DPD_EN) && (!s.exc.dpd.suspended) && (s.dpdStops bad)) = true ∧
  (let s : State := ({ (fs run [(CLK_STAT_LOCK, 1), (CLK_STAT_HK_OK, 1), (CLK_STAT_STATE, 3), (EXC_LIC_STAT_STATE, 2), (XLi_FREQ_HZ 2, 98100000), (EXC_CENTRE_HZ, 98100000), (XLi_PWR_TGT 2, 300), (EXC_CTL_DPD_EN, 0), (EXC_CTL_DPD_EN, 1), (EXC_CPL_STAT_VALID, 1), (CALn_STAT_CURRENT 4, 1), (EXC_DPD_CFG_NMSE_TH, 40)]) with pins := { paFaultN := true, paVdd := true, paBias := true, paRf := true }, exc := { lic := some ⟨5, [⟨98100000, 1, 500, 900, [(100, -10), (200, -40)]⟩], []⟩, dpd := { good := 2 } } }); let x : Int := -410; let cs : List (Int × Int) := [(1048576, 3)]; (s.flag EXC_CTL_DPD_EN) && (s.firmwareOn 5) && (!s.dpdStops false) && (decide (x ≤ s.nmseTh)) && (s.exc.dpd.good == 2) && (!s.exc.dpd.converged)) = true ∧
  (let s : State := ({ (fs run [(CLK_STAT_LOCK, 1), (CLK_STAT_HK_OK, 1), (CLK_STAT_STATE, 3), (EXC_LIC_STAT_STATE, 2), (XLi_FREQ_HZ 2, 98100000), (EXC_CENTRE_HZ, 98100000), (XLi_PWR_TGT 2, 300), (EXC_CTL_DPD_EN, 0), (EXC_CTL_DPD_EN, 1), (EXC_CPL_STAT_VALID, 1), (CALn_STAT_CURRENT 4, 1), (EXC_DPD_CFG_NMSE_TH, 40)]) with pins := { paFaultN := true, paVdd := true, paBias := true, paRf := true }, exc := { lic := some ⟨5, [⟨98100000, 1, 500, 900, [(100, -10), (200, -40)]⟩], []⟩, dpd := { bad := 2, converged := true } } }); let x : Int := -300; let cs : List (Int × Int) := [(1048576, 3)]; (s.flag EXC_CTL_DPD_EN) && (s.firmwareOn 5) && (!s.dpdStops false) && (decide (s.nmseTh + 60 < x)) && (s.exc.dpd.bad == 2)) = true ∧
  (let s : State := ({ (fs run [(CLK_STAT_LOCK, 1), (CLK_STAT_HK_OK, 1), (CLK_STAT_STATE, 3), (EXC_LIC_STAT_STATE, 2), (XLi_FREQ_HZ 2, 98100000), (EXC_CENTRE_HZ, 98100000), (XLi_PWR_TGT 2, 300), (EXC_CTL_DPD_EN, 0), (EXC_CPL_MHZ 0, 90), (EXC_CPL_MHZ 1, 110)]) with pins := { paFaultN := true }, exc := { lic := some ⟨5, [⟨98100000, 1, 500, 900, [(100, -10), (200, -40)]⟩], []⟩ } }); let m : Master := .core 3; (s.reaches m EXC_CPL_CMD) && ((let l := (List.range 8).map fun j => s.getF (EXC_CPL_MHZ j); l.take (l.filter (· != 0)).length == l.filter (· != 0) && ascending (l.filter (· != 0))))) = true := by
  decide +kernel

/-- A state and operands that meet the hypotheses of each clause of ExciterLanes. -/
theorem witness_ExciterLanes :
  (let s : State := ({ (fs run [(CLK_STAT_LOCK, 1), (CLK_STAT_HK_OK, 1), (CLK_STAT_STATE, 3), (EXC_LIC_STAT_STATE, 2), (XLi_FREQ_HZ 2, 98100000), (EXC_CENTRE_HZ, 98100000), (XLi_PWR_TGT 2, 300), (EXC_CTL_DPD_EN, 0), (EXC_STAT_STATE, 4)]) with pins := { paFaultN := true, paVdd := true, paBias := true, paRf := true }, exc := { lic := some ⟨5, [⟨98100000, 1, 500, 900, [(100, -10), (200, -40)]⟩], []⟩ } }); let m : Master := .pcie; let i : Nat := 2; let v : Word := 0x80000000; (decide (i < 8)) && (s.reaches m (XLi_CTL i)) && (!s.flag (XLi_CTL_EN i)) && (v.toNat.testBit 31) && (s.laneSrcCode (bitsOf v.toNat 29 28) (bitsOf v.toNat 24 16) == 0) && (regOk (XLi_CTL i) v) && (s.loadOk i) && (carrierOk (s.getF (XLi_FREQ_HZ i)) (s.getF EXC_CENTRE_HZ)) && (s.exc.lic.isNone || s.laneReason i == 0) && (!s.laneDab i) && (s.excState == 4)) = true ∧
  (let s : State := ({ (fs run [(CLK_STAT_LOCK, 1), (CLK_STAT_HK_OK, 1), (CLK_STAT_STATE, 3), (EXC_LIC_STAT_STATE, 2), (XLi_FREQ_HZ 2, 98100000), (EXC_CENTRE_HZ, 98100000), (XLi_PWR_TGT 2, 300), (EXC_CTL_DPD_EN, 0), (XLi_CTL_EN 2, 1), (EXC_STAT_STATE, 4), (XLi_STAT_STATE 2, 2)]) with pins := { paFaultN := true, paVdd := true, paBias := true, paRf := true }, exc := { lic := some ⟨5, [⟨98100000, 1, 500, 900, [(100, -10), (200, -40)]⟩], []⟩ } }); let m : Master := .pcie; let i : Nat := 2; let v : Word := 0x1000; (decide (i < 8)) && (s.reaches m (XLi_CTL i)) && (s.flag (XLi_CTL_EN i)) && (!v.toNat.testBit 31) && (v.toNat % 2 ^ 31 == (s.rd (XLi_CTL i)).toNat % 2 ^ 31) && ((regPut (XLi_CTL i) v s).rd (XLi_CTL i) == v) && (s.getF (XLi_STAT_STATE i) == 2)) = true ∧
  (let s : State := ({ (fs run [(CLK_STAT_LOCK, 1), (CLK_STAT_HK_OK, 1), (CLK_STAT_STATE, 3), (EXC_LIC_STAT_STATE, 2), (XLi_FREQ_HZ 2, 98100000), (EXC_CENTRE_HZ, 98100000), (XLi_PWR_TGT 2, 300), (EXC_CTL_DPD_EN, 0), (EXC_STAT_STATE, 4), (XLi_PWR_TGT 2, 501)]) with pins := { paFaultN := true, paVdd := true, paBias := true, paRf := true }, exc := { lic := some ⟨5, [⟨98100000, 1, 500, 900, [(100, -10), (200, -40)]⟩], []⟩ } }); let m : Master := .pcie; let i : Nat := 2; let v : Word := 0x80000000; (decide (i < 8)) && (s.reaches m (XLi_CTL i)) && (!s.flag (XLi_CTL_EN i)) && (v.toNat.testBit 31) && (s.laneSrcCode (bitsOf v.toNat 29 28) (bitsOf v.toNat 24 16) == 0) && (regOk (XLi_CTL i) v) && (s.loadOk i) && (carrierOk (s.getF (XLi_FREQ_HZ i)) (s.getF EXC_CENTRE_HZ)) && (s.exc.lic.isSome) && (s.laneReason i != 0)) = true ∧
  (let s : State := (({ (fs run [(CLK_STAT_LOCK, 1), (CLK_STAT_HK_OK, 1), (CLK_STAT_STATE, 3), (EXC_LIC_STAT_STATE, 2), (XLi_FREQ_HZ 2, 98100000), (EXC_CENTRE_HZ, 98100000), (XLi_PWR_TGT 2, 300), (EXC_CTL_DPD_EN, 0), (XLi_CTL_EN 2, 1), (EXC_STAT_STATE, 4), (XLi_STAT_STATE 2, 2)]) with pins := { paFaultN := true, paVdd := true, paBias := true, paRf := true }, exc := { lic := some ⟨5, [⟨98100000, 1, 500, 900, [(100, -10), (200, -40)]⟩], []⟩ } }).setLane 2 { gain := some 10 }); let i : Nat := 2; let orx : Int := 20000; let g : Int := 10; let c : Int := 500; (decide (i < 8)) && (s.firmwareOn 5) && (s.laneOn i) && (s.ceiling i == some c) && ((s.lane i).gain == some g)) = true ∧
  (let s : State := ({ (fs run [(CLK_STAT_LOCK, 1), (CLK_STAT_HK_OK, 1), (CLK_STAT_STATE, 3), (EXC_LIC_STAT_STATE, 2), (XLi_FREQ_HZ 2, 98100000), (EXC_CENTRE_HZ, 98100000), (XLi_PWR_TGT 2, 300), (EXC_CTL_DPD_EN, 0), (XLi_CTL_EN 2, 1), (EXC_STAT_STATE, 4), (XLi_STAT_STATE 2, 2)]) with pins := { paFaultN := true, paVdd := true, paBias := true, paRf := true }, exc := { lic := some ⟨5, [⟨98100000, 1, 500, 900, [(100, -10), (200, -40)]⟩], []⟩ } }); let i : Nat := 2; let orx : Int := 60000; let e : LicEntry := ⟨98100000, 1, 500, 900, [(100, -10), (200, -40)]⟩; (decide (i < 8)) && (s.laneOn i) && (s.licEntry (s.getF (XLi_FREQ_HZ i)) == some e) && (decide (10 * e.maxp + 100 < s.forward i orx))) = true ∧
  (let s : State := ({ (fs run [(CLK_STAT_LOCK, 1), (CLK_STAT_HK_OK, 1), (CLK_STAT_STATE, 3), (EXC_LIC_STAT_STATE, 2), (XLi_FREQ_HZ 2, 98100000), (EXC_CENTRE_HZ, 98100000), (XLi_PWR_TGT 2, 300), (EXC_CTL_DPD_EN, 0), (XLi_CTL_EN 2, 1), (EXC_STAT_STATE, 4), (XLi_STAT_STATE 2, 2)]) with pins := { paFaultN := true, paVdd := true, paBias := true, paRf := true }, exc := { lic := some ⟨5, [⟨98100000, 1, 500, 900, [(100, -10), (200, -40)]⟩], []⟩ } }); let i : Nat := 2; let orx : Int := 100; let e : LicEntry := ⟨98100000, 1, 500, 900, [(100, -10), (200, -40)]⟩; (decide (i < 8)) && (s.laneOn i) && (s.licEntry (s.getF (XLi_FREQ_HZ i)) == some e) && (!decide (10 * e.maxp + 100 < s.forward i orx))) = true ∧
  (let s : State := (({ (fs run [(CLK_STAT_LOCK, 1), (CLK_STAT_HK_OK, 1), (CLK_STAT_STATE, 3), (EXC_LIC_STAT_STATE, 2), (XLi_FREQ_HZ 2, 98100000), (EXC_CENTRE_HZ, 98100000), (XLi_PWR_TGT 2, 300), (EXC_CTL_DPD_EN, 0), (XLi_CTL_EN 2, 1), (EXC_STAT_STATE, 4), (XLi_STAT_STATE 2, 2), (EXC_CTL_DPD_EN, 1), (SEQk_STAT_STATE 5, 1)]) with pins := { paFaultN := true, paVdd := true, paBias := true, paRf := true }, exc := { lic := some ⟨5, [⟨98100000, 1, 500, 900, [(100, -10), (200, -40)]⟩], []⟩ } }).setLane 2 { tplRun := 2 }); let i : Nat := 2; let sp : List (Nat × Int) := [(98250000, -1000)]; (decide (i < 8)) && (s.firmwareOn 5) && (s.orxClean) && (s.flag EXC_CTL_DPD_EN) && (s.laneOn i) && (sp.any (s.breaks i)) && (decide (2 ≤ (s.lane i).tplRun))) = true ∧
  (let s : State := (({ (fs run [(CLK_STAT_LOCK, 1), (CLK_STAT_HK_OK, 1), (CLK_STAT_STATE, 3), (EXC_LIC_STAT_STATE, 2), (XLi_FREQ_HZ 2, 98100000), (EXC_CENTRE_HZ, 98100000), (XLi_PWR_TGT 2, 300), (EXC_CTL_DPD_EN, 0), (XLi_CTL_EN 2, 1), (EXC_STAT_STATE, 4), (XLi_STAT_STATE 2, 2), (EXC_CTL_DPD_EN, 1), (SEQk_STAT_STATE 5, 1)]) with pins := { paFaultN := true, paVdd := true, paBias := true, paRf := true }, exc := { lic := some ⟨5, [⟨98100000, 1, 500, 900, [(100, -10), (200, -40)]⟩], []⟩ } }).setLane 2 { tplRun := 2 }); let i : Nat := 2; let sp : List (Nat × Int) := [(98250000, -9000)]; (decide (i < 8)) && (s.firmwareOn 5) && (s.orxClean) && (s.flag EXC_CTL_DPD_EN) && (s.laneOn i) && (!sp.any (s.breaks i))) = true ∧
  (let s : State := (({ (fs run [(CLK_STAT_LOCK, 1), (CLK_STAT_HK_OK, 1), (CLK_STAT_STATE, 3), (EXC_LIC_STAT_STATE, 2), (XLi_FREQ_HZ 2, 98100000), (EXC_CENTRE_HZ, 98100000), (XLi_PWR_TGT 2, 300), (EXC_CTL_DPD_EN, 0), (XLi_CTL_EN 2, 1), (EXC_STAT_STATE, 4), (XLi_STAT_STATE 2, 2), (XLi_RDS_EN 2, 1)]) with pins := { paFaultN := true, paVdd := true, paBias := true, paRf := true }, exc := { lic := some ⟨5, [⟨98100000, 1, 500, 900, [(100, -10), (200, -40)]⟩], []⟩ } }).setLane 2 { rdsq := [[1, 2, 3, 4]] }); let i : Nat := 2; let n : Nat := 7; let g : List Nat := [1, 2, 3, 4]; let q : List (List Nat) := []; (decide (i < 8)) && (s.laneOn i) && (s.flag (XLi_RDS_EN i)) && ((s.lane i).rdsLast.isNone || decide ((s.lane i).rdsAt + 344457216 ≤ n)) && ((s.lane i).rdsq == g :: q)) = true ∧
  (let s : State := ({ (fs run [(CLK_STAT_LOCK, 1), (CLK_STAT_HK_OK, 1), (CLK_STAT_STATE, 3), (EXC_LIC_STAT_STATE, 2), (XLi_FREQ_HZ 2, 98100000), (EXC_CENTRE_HZ, 98100000), (XLi_PWR_TGT 2, 300), (EXC_CTL_DPD_EN, 0), (EXC_GRPg_CTL_MODE 1, 1), (EXC_GRPg_CTL_SLOT 1, 7), (EXC_GRPg_CTL_DLY_MS 1, 2000), (XLi_CTL_EN 4, 1), (XLi_STAT_STATE 4, 2), (ENSs_STAT_STATE 7, 3), (ENSs_STAT_FIC_OK 7, 1)]) with pins := { paFaultN := true, paVdd := true, paBias := true, paRf := true }, exc := { lic := some ⟨5, [⟨98100000, 1, 500, 900, [(100, -10), (200, -40)]⟩], []⟩ } }); let g : Nat := 1; let ts : Nat := 5000; let msc : List (Nat × List (List Nat)) := []; (decide (g < 2)) && (s.flag (EXC_GRPg_CTL_MODE g)) && (s.flag (XLi_CTL_EN (4 * g))) && (s.slotLocked (s.getF (EXC_GRPg_CTL_SLOT g))) && (s.flag (ENSs_STAT_FIC_OK (s.getF (EXC_GRPg_CTL_SLOT g)))) && (s.laneOn (4 * g))) = true ∧
  (let s : State := ({ (fs run [(CLK_STAT_LOCK, 1), (CLK_STAT_HK_OK, 1), (CLK_STAT_STATE, 3), (EXC_LIC_STAT_STATE, 2), (XLi_FREQ_HZ 2, 98100000), (EXC_CENTRE_HZ, 98100000), (XLi_PWR_TGT 2, 300), (EXC_CTL_DPD_EN, 0), (EXC_GRPg_CTL_MODE 1, 1), (EXC_GRPg_CTL_SLOT 1, 7), (XLi_CTL_EN 4, 1), (XLi_STAT_STATE 4, 2)]) with pins := { paFaultN := true, paVdd := true, paBias := true, paRf := true }, exc := { lic := some ⟨5, [⟨98100000, 1, 500, 900, [(100, -10), (200, -40)]⟩], []⟩ } }); let g : Nat := 1; let ts : Nat := 5000; let msc : List (Nat × List (List Nat)) := []; (decide (g < 2)) && (s.flag (EXC_GRPg_CTL_MODE g)) && (s.flag (XLi_CTL_EN (4 * g))) && (!s.slotLocked (s.getF (EXC_GRPg_CTL_SLOT g))) && (s.laneOn (4 * g))) = true ∧
  (let s : State := (({ (fs run [(CLK_STAT_LOCK, 1), (CLK_STAT_HK_OK, 1), (CLK_STAT_STATE, 3), (EXC_LIC_STAT_STATE, 2), (XLi_FREQ_HZ 2, 98100000), (EXC_CENTRE_HZ, 98100000), (XLi_PWR_TGT 2, 300), (EXC_CTL_DPD_EN, 0), (XLi_CTL_EN 2, 1), (EXC_STAT_STATE, 4), (XLi_STAT_STATE 2, 2), (XLi_CTL_KIND 2, 2)]) with pins := { paFaultN := true, paVdd := true, paBias := true, paRf := true }, exc := { lic := some ⟨5, [⟨98100000, 1, 500, 900, [(100, -10), (200, -40)]⟩], []⟩ } }).setLane 2 { content := [⟨5242880, 0, [1, 2, 3, 4]⟩] }); let i : Nat := 2; let ts : Nat := 5242880; let b : Block := ⟨5242880, 0, [1, 2, 3, 4]⟩; (decide (i < 8)) && (s.laneOn i) && (!s.laneDab i) && (s.getF (XLi_CTL_KIND i) != 0) && (!(s.lane i).gap) && (((s.lane i).content.find? fun x => x.ts == ts) == some b) && (!s.abandoned 5 i (s.contentRelease i ts)) && (s.taken 5 i b == b)) = true ∧
  (let s : State := (({ (fs run [(CLK_STAT_LOCK, 1), (CLK_STAT_HK_OK, 1), (CLK_STAT_STATE, 3), (EXC_LIC_STAT_STATE, 2), (XLi_FREQ_HZ 2, 98100000), (EXC_CENTRE_HZ, 98100000), (XLi_PWR_TGT 2, 300), (EXC_CTL_DPD_EN, 0), (XLi_CTL_EN 2, 1), (EXC_STAT_STATE, 4), (XLi_STAT_STATE 2, 2), (XLi_CTL_KIND 2, 2)]) with pins := { paFaultN := true, paVdd := true, paBias := true, paRf := true }, exc := { lic := some ⟨5, [⟨98100000, 1, 500, 900, [(100, -10), (200, -40)]⟩], []⟩ } }).setLane 2 { lastL := 6400, lastR := -64 }); let i : Nat := 2; let ts : Nat := 5242880; (decide (i < 8)) && (s.laneOn i) && (!s.laneDab i) && (s.getF (XLi_CTL_KIND i) != 0) && (((s.lane i).content.find? fun x => x.ts == ts).isNone || s.abandoned 5 i (s.contentRelease i ts))) = true := by
  decide +kernel

/-- A state and operands that meet the hypotheses of each clause of ServiceLink. -/
theorem witness_ServiceLink :
  (let s : State := ({ (fs run [(SLK_CH_KHZ 3, 868000), (CLK_STAT_HK_OK, 1), (SLK_LIC_STATE, 2), (SLK_LIC_NBAND, 1), (SLK_TXCFG_LEN, 10), (SLK_STAT_STATE, 3), (SLK_STAT_LOCK, 1), (SLK_STAT_CH, 3)]) with slk := { bands := [⟨863000, 870000, 140, 100, 1000, -128, 0⟩], bins := [[]], entries := [(3, ⟨true, false, 868000, 0, []⟩)] } }); let m : Master := .pcie; let c : Nat := 3; (s.reaches m SLK_CMD) && (decide (c < 128)) && (s.slUsed c) && (s.slState == 3) && (s.flag SLK_STAT_LOCK) && (s.getF SLK_STAT_CH == c)) = true ∧
  (let s : State := ({ (fs run [(SLK_CH_KHZ 3, 868000), (CLK_STAT_HK_OK, 1), (SLK_LIC_STATE, 2), (SLK_LIC_NBAND, 1), (SLK_TXCFG_LEN, 10)]) with slk := { bands := [⟨863000, 870000, 140, 100, 1000, -128, 0⟩], bins := [[]], entries := [(3, ⟨true, false, 868000, 0, []⟩)] } }); let m : Master := .hostBus; let c : Nat := 3; (s.reaches m SLK_CMD) && (decide (c < 128)) && (s.slUsed c) && (s.slState == 0) && (s.slGood c) && (s.slk.cal.isNone)) = true ∧
  (let s : State := ({ (fs run [(SLK_CH_KHZ 3, 868000), (CLK_STAT_HK_OK, 1), (SLK_LIC_STATE, 2), (SLK_LIC_NBAND, 1), (SLK_TXCFG_LEN, 10), (SLK_STAT_STATE, 4), (SLK_STAT_LOCK, 1), (SLK_STAT_CH, 3)]) with slk := { bands := [⟨863000, 870000, 140, 100, 1000, -128, 0⟩], bins := [[]], entries := [(3, ⟨true, false, 868000, 0, []⟩)], rx := some { ch := 3, aerial := true, gain := 4, rssi := -500, foff := 7, captured := false } } }); let m : Master := .hostBus; let c : Nat := 3; (s.reaches m SLK_CMD) && (decide (c < 128)) && (s.slUsed c) && (decide (4 ≤ s.slState)) && (decide (s.slState ≤ 6))) = true ∧
  (let s : State := ({ (fs run [(SLK_CH_KHZ 3, 868000), (CLK_STAT_HK_OK, 1), (SLK_LIC_STATE, 2), (SLK_LIC_NBAND, 1), (SLK_TXCFG_LEN, 10), (SLK_STAT_STATE, 2), (SLK_STAT_LOCK, 1), (SLK_STAT_CH, 3)]) with slk := { bands := [⟨863000, 870000, 140, 100, 1000, -128, 0⟩], bins := [[]], entries := [(3, ⟨true, false, 868000, 0, []⟩)] } }); let m : Master := .core 6; let c : Nat := 3; let b : SlBand := ⟨863000, 870000, 140, 100, 1000, -128, 0⟩; let k : Nat := 0; (s.reaches m SLK_CMD) && (decide (c < 128)) && (s.slUsed c) && (s.slState == 2 || s.slState == 3) && (s.slReason c == 0) && (s.slBand c == some (b, k)) && (b.lbt == -128) && (s.flag SLK_STAT_LOCK) && (s.getF SLK_STAT_CH == c) && (s.slk.rx.isNone) && (s.slk.cal.isNone) && (!s.flag SLK_CTL_COEX_EN)) = true ∧
  (let s : State := ({ (fs run [(SLK_CH_KHZ 3, 868000), (CLK_STAT_HK_OK, 1), (SLK_LIC_STATE, 2), (SLK_LIC_NBAND, 1), (SLK_TXCFG_LEN, 10), (SLK_STAT_STATE, 2), (SLK_STAT_LOCK, 1), (SLK_STAT_CH, 3), (SLK_LIC_STATE, 0)]) with slk := { bands := [⟨863000, 870000, 140, 100, 1000, -128, 0⟩], bins := [[]], entries := [(3, ⟨true, false, 868000, 0, []⟩)] } }); let m : Master := .core 6; let c : Nat := 3; (s.reaches m SLK_CMD) && (decide (c < 128)) && (s.slUsed c) && (s.slReason c != 0)) = true ∧
  (let s : State := ({ (fs run [(SLK_CH_KHZ 3, 868000), (CLK_STAT_HK_OK, 1), (SLK_LIC_STATE, 2), (SLK_LIC_NBAND, 1), (SLK_TXCFG_LEN, 10), (SLK_STAT_STATE, 3), (SLK_STAT_LOCK, 1), (SLK_STAT_CH, 3)]) with slk := { bands := [⟨863000, 870000, 140, 100, 1000, -128, 0⟩], bins := [[]], entries := [(3, ⟨true, false, 868000, 0, []⟩)] } }); let m : Master := .hostBus; (s.reaches m SLK_CMD) && (s.slState == 2 || s.slState == 3)) = true ∧
  (let s : State := ({ (fs run [(SLK_CH_KHZ 3, 868000), (CLK_STAT_HK_OK, 1), (SLK_LIC_STATE, 2), (SLK_LIC_NBAND, 1), (SLK_TXCFG_LEN, 10), (SLK_STAT_STATE, 2), (SLK_STAT_LOCK, 1), (SLK_STAT_CH, 3)]) with slk := { bands := [⟨863000, 870000, 140, 100, 1000, -128, 0⟩], bins := [[]], entries := [(3, ⟨true, false, 868000, 0, []⟩)] } }); let m : Master := .hostBus; let c : Nat := 3; (s.reaches m SLK_CMD) && (decide (c < 128)) && (s.slUsed c) && (s.slState == 2) && (s.slTable) && (s.slk.cal.isNone)) = true ∧
  (let s : State := ({ (fs run [(SLK_CH_KHZ 3, 868000), (CLK_STAT_HK_OK, 1), (SLK_LIC_STATE, 2), (SLK_LIC_NBAND, 1), (SLK_TXCFG_LEN, 10), (SLK_STAT_STATE, 6), (SLK_STAT_LOCK, 1), (SLK_STAT_CH, 3)]) with slk := { bands := [⟨863000, 870000, 140, 100, 1000, -128, 0⟩], bins := [[]], entries := [(3, ⟨true, false, 868000, 0, []⟩)], txCh := 3, txAt := 0, txAir := 4000 }, pins := { slGnt := true, slFemTx := true, slReq := true } }); let m : Master := .hostBus; (s.reaches m SLK_CMD) && (s.slState == 6)) = true ∧
  (let s : State := ({ (fs run [(SLK_CH_KHZ 3, 868000), (CLK_STAT_HK_OK, 1), (SLK_LIC_STATE, 2), (SLK_LIC_NBAND, 1), (SLK_TXCFG_LEN, 10), (SLK_STAT_STATE, 1), (SLK_STAT_CH, 3)]) with slk := { bands := [⟨863000, 870000, 140, 100, 1000, -128, 0⟩], bins := [[]], entries := [(3, ⟨true, false, 868000, 0, []⟩)], goal := 2 } }); let n : Nat := 5; let trims : List Byte := []; let ok : Bool := false; (s.flag CLK_STAT_HK_OK) && (s.slk.cal.isNone) && (s.slState == 1) && (!s.flag SLK_STAT_LOCK) && (s.slUsed (s.getF SLK_STAT_CH)) && (s.slGood (s.getF SLK_STAT_CH)) && (decide (s.slk.goal < 4))) = true ∧
  (let s : State := ({ (fs run [(SLK_CH_KHZ 3, 868000), (CLK_STAT_HK_OK, 1), (SLK_LIC_STATE, 2), (SLK_LIC_NBAND, 1), (SLK_TXCFG_LEN, 10), (SLK_STAT_STATE, 1), (SLK_STAT_CH, 3)]) with slk := { bands := [⟨863000, 870000, 140, 100, 1000, -128, 0⟩], bins := [[]], entries := [], goal := 3 } }); let n : Nat := 5; let trims : List Byte := [4]; (s.flag CLK_STAT_HK_OK) && (s.slk.cal.isNone) && (s.slState == 1) && (!s.flag SLK_STAT_LOCK) && (s.slUsed (s.getF SLK_STAT_CH)) && (s.slTable) && (!s.slGood (s.getF SLK_STAT_CH)) && (decide (s.slk.goal < 4))) = true ∧
  (let s : State := ({ (fs run [(SLK_CH_KHZ 3, 868000), (CLK_STAT_HK_OK, 1), (SLK_LIC_STATE, 2), (SLK_LIC_NBAND, 1), (SLK_TXCFG_LEN, 10), (SLK_STAT_STATE, 3), (SLK_STAT_LOCK, 1), (SLK_STAT_CH, 3)]) with slk := { bands := [⟨863000, 870000, 140, 100, 1000, -128, 0⟩], bins := [[]], entries := [(3, ⟨true, false, 868000, 0, []⟩)] } }); let n : Nat := 5; (s.flag SLK_STAT_LOCK) && (s.slState == 3)) = true ∧
  (let s : State := ({ (fs run [(SLK_CH_KHZ 3, 868000), (CLK_STAT_HK_OK, 1), (SLK_LIC_STATE, 2), (SLK_LIC_NBAND, 1), (SLK_TXCFG_LEN, 10), (SLK_STAT_STATE, 3), (SLK_STAT_LOCK, 1), (SLK_STAT_CH, 3)]) with slk := { bands := [⟨863000, 870000, 140, 100, 1000, -128, 0⟩], bins := [[]], entries := [(3, ⟨true, false, 868000, 0, []⟩)] } }); let ch : Nat := 0; let db : Int := 0; let p : SlDetect := ⟨[(50, 0), (60, 1), (45, 0), (90, 1)], 5, 6, 9, -600, 12⟩; (s.slHeard p) && (s.slState == 3)) = true ∧
  (let s : State := ({ (fs run [(SLK_CH_KHZ 3, 868000), (CLK_STAT_HK_OK, 1), (SLK_LIC_STATE, 2), (SLK_LIC_NBAND, 1), (SLK_TXCFG_LEN, 10), (SLK_STAT_STATE, 4), (SLK_STAT_LOCK, 1), (SLK_STAT_CH, 3)]) with slk := { bands := [⟨863000, 870000, 140, 100, 1000, -128, 0⟩], bins := [[]], entries := [(3, ⟨true, false, 868000, 0, []⟩)], rx := some { ch := 3, aerial := true, gain := 4, rssi := -500, foff := 7, captured := false, ts := some 999 } } }); let db : Int := 80; let p : SlDetect := ⟨[(50, 0), (60, 1), (45, 0), (90, 1)], 5, 6, 9, -600, 12⟩; let r : SlRx := { ch := 3, aerial := true, gain := 4, rssi := -500, foff := 7, captured := false, ts := some 999 }; (s.slHeard p) && (s.slState == 4) && (s.slk.rx == some r) && (r.ts.isSome) && (s.flag SLK_RXCFG_CAPTURE) && (decide (10 * (s.getF SLK_RXCFG_CAPT_DB : Int) ≤ db))) = true ∧
  (let s : State := ({ (fs run [(SLK_CH_KHZ 3, 868000), (CLK_STAT_HK_OK, 1), (SLK_LIC_STATE, 2), (SLK_LIC_NBAND, 1), (SLK_TXCFG_LEN, 10), (SLK_STAT_STATE, 4), (SLK_STAT_LOCK, 1), (SLK_STAT_CH, 3)]) with slk := { bands := [⟨863000, 870000, 140, 100, 1000, -128, 0⟩], bins := [[]], entries := [(3, ⟨true, false, 868000, 0, []⟩)], rx := some { ch := 3, aerial := true, gain := 4, rssi := -500, foff := 7, captured := false, ts := some 999 } } }); let db : Int := 79; let p : SlDetect := ⟨[(50, 0), (60, 1), (45, 0), (90, 1)], 5, 6, 9, -600, 12⟩; let r : SlRx := { ch := 3, aerial := true, gain := 4, rssi := -500, foff := 7, captured := false, ts := some 999 }; (s.slHeard p) && (s.slState == 4) && (s.slk.rx == some r) && (r.ts.isSome) && (!(s.flag SLK_RXCFG_CAPTURE && decide (10 * (s.getF SLK_RXCFG_CAPT_DB : Int) ≤ db)))) = true ∧
  (let s : State := ({ (fs run [(SLK_CH_KHZ 3, 868000), (CLK_STAT_HK_OK, 1), (SLK_LIC_STATE, 2), (SLK_LIC_NBAND, 1), (SLK_TXCFG_LEN, 10), (SLK_STAT_STATE, 4), (CLK_STAT_STATE, 3), (SLK_STAT_LOCK, 1), (SLK_STAT_CH, 3)]) with slk := { bands := [⟨863000, 870000, 140, 100, 1000, -128, 0⟩], bins := [[]], entries := [(3, ⟨true, false, 868000, 0, []⟩)], rx := some { ch := 3, aerial := true, gain := 4, rssi := -500, foff := 7, captured := false } } }); let e : Nat := 0x9E5A3C70; let rho : Nat := 70; let ts : Nat := 55; let f : Int := -9; let r : SlRx := { ch := 3, aerial := true, gain := 4, rssi := -500, foff := 7, captured := false }; (s.slk.rx == some r) && (r.ts.isNone) && (decide (s.slErrors e ≤ 2)) && (s.inLock) && (decide (s.clk.lockedAt ≤ ts))) = true ∧
  (let s : State := ({ (fs run [(SLK_CH_KHZ 3, 868000), (CLK_STAT_HK_OK, 1), (SLK_LIC_STATE, 2), (SLK_LIC_NBAND, 1), (SLK_TXCFG_LEN, 10), (SLK_STAT_STATE, 4), (SLK_STAT_LOCK, 1), (SLK_STAT_CH, 3)]) with slk := { bands := [⟨863000, 870000, 140, 100, 1000, -128, 0⟩], bins := [[]], entries := [(3, ⟨true, false, 868000, 0, []⟩)], rx := some { ch := 3, aerial := true, gain := 4, rssi := -500, foff := 7, captured := false } } }); let n : Nat := 9000000; let r : SlRx := { ch := 3, aerial := true, gain := 4, rssi := -500, foff := 7, captured := false }; (s.slk.rx == some r) && (r.ts.isNone) && (decide (r.at_ + ticksOfHalfUs (s.getF SLK_PHY_SYNC_TO * s.slSym) ≤ n)) && (s.slState == 4)) = true ∧
  (let s : State := ({ (fs run [(SLK_CH_KHZ 3, 868000), (CLK_STAT_HK_OK, 1), (SLK_LIC_STATE, 2), (SLK_LIC_NBAND, 1), (SLK_TXCFG_LEN, 10), (SLK_STAT_STATE, 4), (SLK_STAT_LOCK, 1), (SLK_STAT_CH, 3)]) with slk := { bands := [⟨863000, 870000, 140, 100, 1000, -128, 0⟩], bins := [[]], entries := [(3, ⟨true, false, 868000, 0, []⟩)], rx := some { ch := 3, aerial := true, gain := 4, rssi := -500, foff := 7, captured := false, ts := some 999 } } }); let raw : List Nat := [1, 2, 3]; let n : Nat := 9; let r : SlRx := { ch := 3, aerial := true, gain := 4, rssi := -500, foff := 7, captured := false, ts := some 999 }; (s.slk.rx == some r) && (r.ts.isSome) && (r.hdr.isNone) && (s.slState == 4) && (slHcrc ((whiten raw 0x1FF).getD 0 0) ((whiten raw 0x1FF).getD 1 0) != (whiten raw 0x1FF).getD 2 0)) = true ∧
  (let s : State := ({ (fs run [(SLK_CH_KHZ 3, 868000), (CLK_STAT_HK_OK, 1), (SLK_LIC_STATE, 2), (SLK_LIC_NBAND, 1), (SLK_TXCFG_LEN, 10), (SLK_RXPTR_UNREAD, 3), (SLK_RXPTR_RD, 7)]) with slk := { bands := [⟨863000, 870000, 140, 100, 1000, -128, 0⟩], bins := [[]], entries := [(3, ⟨true, false, 868000, 0, []⟩)] } }); let m : Master := .hostBus; let v : Word := 1; (s.reaches m SLK_RXPTR)) = true ∧
  (let s : State := ({ (fs run [(SLK_CH_KHZ 3, 868000), (CLK_STAT_HK_OK, 1), (SLK_LIC_STATE, 2), (SLK_LIC_NBAND, 1), (SLK_TXCFG_LEN, 10), (SLK_STAT_STATE, 5), (SLK_STAT_LOCK, 1), (SLK_STAT_CH, 3)]) with slk := { bands := [⟨863000, 870000, 140, 100, 1000, -80, 5⟩], bins := [[]], entries := [(3, ⟨true, false, 868000, 0, []⟩)], txCh := 3, wait := 2 } }); let x : Int := -799; let n : Nat := 9; let b : SlBand := ⟨863000, 870000, 140, 100, 1000, -80, 5⟩; let k : Nat := 0; (s.slState == 5) && (s.slk.wait == 2) && (decide (s.slk.lbtBy ≤ n)) && (s.slBand s.slk.txCh == some (b, k)) && (decide (10 * b.lbt < x))) = true ∧
  (let s : State := ({ (fs run [(SLK_CH_KHZ 3, 868000), (CLK_STAT_HK_OK, 1), (SLK_LIC_STATE, 2), (SLK_LIC_NBAND, 1), (SLK_TXCFG_LEN, 10), (SLK_STAT_STATE, 5), (SLK_CTL_COEX_EN, 1), (SLK_STAT_LOCK, 1), (SLK_STAT_CH, 3)]) with slk := { bands := [⟨863000, 870000, 140, 100, 1000, -80, 5⟩], bins := [[]], entries := [(3, ⟨true, false, 868000, 0, []⟩)], txCh := 3, wait := 2 } }); let x : Int := -800; let n : Nat := 9; let b : SlBand := ⟨863000, 870000, 140, 100, 1000, -80, 5⟩; let k : Nat := 0; (s.slState == 5) && (s.slk.wait == 2) && (decide (s.slk.lbtBy ≤ n)) && (s.slBand s.slk.txCh == some (b, k)) && (!decide (10 * b.lbt < x)) && (s.flag SLK_CTL_COEX_EN)) = true ∧
  (let s : State := ({ (fs run [(SLK_CH_KHZ 3, 868000), (CLK_STAT_HK_OK, 1), (SLK_LIC_STATE, 2), (SLK_LIC_NBAND, 1), (SLK_TXCFG_LEN, 10), (SLK_STAT_STATE, 5), (SLK_CTL_COEX_EN, 1), (SLK_STAT_LOCK, 1), (SLK_STAT_CH, 3)]) with slk := { bands := [⟨863000, 870000, 140, 100, 1000, -128, 0⟩], bins := [[]], entries := [(3, ⟨true, false, 868000, 0, []⟩)], txCh := 3, wait := 3 } }); let n : Nat := 9; (s.slState == 5) && (s.slk.wait == 3)) = true ∧
  (let s : State := ({ (fs run [(SLK_CH_KHZ 3, 868000), (CLK_STAT_HK_OK, 1), (SLK_LIC_STATE, 2), (SLK_LIC_NBAND, 1), (SLK_TXCFG_LEN, 10), (SLK_STAT_STATE, 5), (SLK_CTL_COEX_EN, 1), (SLK_STAT_LOCK, 1), (SLK_STAT_CH, 3)]) with slk := { bands := [⟨863000, 870000, 140, 100, 1000, -128, 0⟩], bins := [[]], entries := [(3, ⟨true, false, 868000, 0, []⟩)], txCh := 3, wait := 3 } }); let n : Nat := 900000; (s.slState == 5) && (s.slk.wait == 3) && (decide (s.slk.reqAt + Config.ticksOfUs (s.getF SLK_CTL_GNT_TO_US) ≤ (s.advance n).now))) = true ∧
  (let s : State := ({ (fs run [(SLK_CH_KHZ 3, 868000), (CLK_STAT_HK_OK, 1), (SLK_LIC_STATE, 2), (SLK_LIC_NBAND, 1), (SLK_TXCFG_LEN, 10), (SLK_STAT_STATE, 6), (SLK_STAT_LOCK, 1), (SLK_STAT_CH, 3)]) with slk := { bands := [⟨863000, 870000, 140, 100, 1000, -128, 0⟩], bins := [[]], entries := [(3, ⟨true, false, 868000, 0, []⟩)], txCh := 3, txAt := 0, txAir := 4000 }, pins := { slGnt := true, slFemTx := true, slReq := true } }); let n : Nat := 9000000; (s.slState == 6) && (decide (s.slk.txAt + ticksOfHalfUs s.slk.txAir ≤ n)) && (decide (s.slk.txAir / 2 < 1048576))) = true ∧
  (let s : State := ({ (fs run [(SLK_CH_KHZ 3, 868000), (CLK_STAT_HK_OK, 1), (SLK_LIC_STATE, 2), (SLK_LIC_NBAND, 1), (SLK_TXCFG_LEN, 10), (SLK_STAT_STATE, 6), (SLK_CTL_COEX_EN, 1), (SLK_STAT_LOCK, 1), (SLK_STAT_CH, 3)]) with slk := { bands := [⟨863000, 870000, 140, 100, 1000, -128, 0⟩], bins := [[]], entries := [(3, ⟨true, false, 868000, 0, []⟩)], txCh := 3, txAir := 4000 }, pins := { slGnt := true } }); let n : Nat := 9; (s.slState == 6) && (s.flag SLK_CTL_COEX_EN)) = true ∧
  (let s : State := ({ (fs run [(SLK_CH_KHZ 3, 868000), (CLK_STAT_HK_OK, 1), (SLK_LIC_STATE, 2), (SLK_LIC_NBAND, 1), (SLK_TXCFG_LEN, 10), (SLK_STAT_STATE, 6), (SLK_STAT_LOCK, 1), (SLK_STAT_CH, 3)]) with slk := { bands := [⟨863000, 870000, 140, 100, 1000, -128, 0⟩], bins := [[]], entries := [(3, ⟨true, false, 868000, 0, []⟩)], txCh := 3, txAt := 0, txAir := 4000 }, pins := { slGnt := true, slFemTx := true, slReq := true } }); let n : Nat := 9; (!s.flag SLK_CTL_COEX_EN)) = true ∧
  (let s : State := ({ (fs run [(SLK_CH_KHZ 3, 868000), (CLK_STAT_HK_OK, 1), (SLK_LIC_STATE, 2), (SLK_LIC_NBAND, 1), (SLK_TXCFG_LEN, 10), (SLK_STAT_STATE, 2), (SLK_CTL_BGCAL, 1), (SLK_STAT_LOCK, 1), (SLK_STAT_CH, 3)]) with slk := { bands := [⟨863000, 870000, 140, 100, 1000, -128, 0⟩], bins := [[]], entries := [] } }); let c : Nat := 3; let n : Nat := 9; let trims : List Byte := []; let ok : Bool := true; (s.slState != 7) && ((s.advance n).slMayBg c)) = true := by
  decide +kernel

/-- A state and operands that meet the hypotheses of each clause of PacketsRoundTrip. -/
theorem witness_PacketsRoundTrip :
  (let s : State := ({ (fs run [(SLK_CH_KHZ 3, 868000), (CLK_STAT_HK_OK, 1), (SLK_LIC_STATE, 2), (SLK_LIC_NBAND, 1), (SLK_TXCFG_LEN, 10), (SLK_STAT_STATE, 4), (SLK_STAT_LOCK, 1), (SLK_STAT_CH, 3)]) with slk := { bands := [⟨863000, 870000, 140, 100, 1000, -128, 0⟩], bins := [[]], entries := [(3, ⟨true, false, 868000, 0, []⟩)], rx := some { ch := 3, aerial := true, gain := 4, rssi := -500, foff := 7, captured := false, ts := some 999 } } }); let g : Nat := 0x80; let pay : List Nat := [255, 0, 7]; let n : Nat := 9; let r : SlRx := { ch := 3, aerial := true, gain := 4, rssi := -500, foff := 7, captured := false, ts := some 999 }; (s.slk.rx == some r) && (r.ts.isSome) && (r.hdr.isNone) && (decide (1 ≤ pay.length)) && (decide (pay.length ≤ 255)) && (pay.all fun x => decide (x < 256)) && (g == 0 || g == 0x80)) = true ∧
  (let s : State := ({ (fs run [(SLK_CH_KHZ 3, 868000), (CLK_STAT_HK_OK, 1), (SLK_LIC_STATE, 2), (SLK_LIC_NBAND, 1), (SLK_TXCFG_LEN, 10), (SLK_STAT_STATE, 4), (SLK_STAT_LOCK, 1), (SLK_STAT_CH, 3)]) with slk := { bands := [⟨863000, 870000, 140, 100, 1000, -128, 0⟩], bins := [[]], entries := [(3, ⟨true, false, 868000, 0, []⟩)], rx := some {  ch := 3, aerial := true, gain := 4, rssi := -500, foff := 7, captured := false, ts := some 999 , hdr := some (3, 0x80) } } }); let g : Nat := 0x80; let pay : List Nat := [255, 0, 7]; let n : Nat := 9; let r : SlRx := {  ch := 3, aerial := true, gain := 4, rssi := -500, foff := 7, captured := false, ts := some 999 , hdr := some (3, 0x80) }; (s.slk.rx == some r) && (r.hdr == some (pay.length, g)) && (s.slState == 4) && (decide (1 ≤ pay.length)) && (decide (pay.length ≤ 255)) && (pay.all fun x => decide (x < 256)) && (g == 0 || g == 0x80)) = true := by
  decide +kernel

/-- A state and operands that meet the hypotheses of clause 14 of Calibration. -/
theorem witness_Calibration_14 :
  (let s : State := calRun; let m : Master := .hostBus; let ok : List Bool := [true, true]; let n : Nat := 1; (s.reaches m CAL_IMG_CMD) && (!s.flag CAL_IMG_STAT_BUSY) && (s.calBad (s.winBytes 0x80000 8192) == 0) && (s.calBad (s.winBytes 0x90000 8192) != 0 || !newerGen (leAt (s.winBytes 0x90000 8192) 8 4) (leAt (s.winBytes 0x80000 8192) 8 4)) && (decide (n < 5)) && (leAt (s.winBytes 0x80000 8192) (calOff n + 2) 1 == 1) && (ok.getD n false) && (s.calState n != 2)) = true := by
  simp only [calWin_good]
  decide +kernel

/-- A state and operands that meet the hypotheses of each clause of Calibration. -/
theorem witness_Calibration :
  (let s : State := (fs run [(CLK_STAT_LOCK, 0)]); let m : Master := .hostBus; let n : Nat := 1; (s.reaches m CAL_CMD) && (decide (n < 5)) && (s.calState n == 0)) = true ∧
  (let s : State := (fs run [(CALn_STAT_STATE 1, 1)]); let m : Master := .hostBus; let n : Nat := 1; (s.reaches m CAL_CMD) && (decide (n < 5)) && (s.calState n != 0)) = true ∧
  (let s : State := (fs run [(CALn_STAT_STATE 1, 1)]); let m : Master := .pcie; let n : Nat := 1; (s.reaches m CAL_CMD) && (decide (n < 5)) && (s.calState n == 1)) = true ∧
  (let s : State := (({ fs run [(CAL_AUTO_EN, 31), (CALn_STAT_TEMP 1, 0), (SEQk_STAT_STATE 4, 1)] with pwr := { run.pwr with temps := [400, 400, 400, 400, 400, 400, 400, 400] } }).setCal 1 { firstAt := some 5 }); let n : Nat := 9; let k : Nat := 1; (!s.pwr.inReset) && (decide (2 ≤ s.stage)) && (decide (k < 5)) && (s.firmwareOn 4) && (s.calFar k) && (s.calState k == 0) && (s.getF CAL_AUTO_EN == 31) && (!(s.cal k).retry)) = true ∧
  (let s : State := (fs run [(CALn_STAT_STATE 0, 1), (CLK_STAT_LOCK, 1), (CLK_STAT_STATE, 3), (SEQk_STAT_STATE 4, 1)]); let n : Nat := 0; let k : Nat := 9; (decide (n < 5)) && (s.firmwareOn 4) && ((s.advance k).calCond n) && (s.calState n == 1)) = true ∧
  (let s : State := (({ fs run [(CAL_AUTO_EN, 31), (CALn_STAT_TEMP 3, 0), (SEQk_STAT_STATE 4, 1)] with pwr := { run.pwr with temps := [400, 400, 400, 400, 400, 400, 400, 400] } }).setCal 3 { firstAt := some 5 }); let n : Nat := 3; let k : Nat := 9; (decide (n < 5)) && (s.firmwareOn 4) && ((s.advance k).calAsks n) && (!(s.advance k).calCond n)) = true ∧
  (let s : State := ((fs run [(CALn_STAT_STATE 1, 1)]).setCal 1 { src := 3 }); let n : Nat := 1; let k : Nat := 999999999999; (decide (n < 5)) && (s.calState n != 0) && ((s.cal n).src != 1) && ((s.cal n).ta.isNone) && (decide ((s.cal n).asked + s.getF CAL_CFG_WAIT * 100 * Config.ticksPerMs ≤ (s.advance k).now))) = true ∧
  (let s : State := ((fs run [(CALn_STAT_STATE 1, 2)]).setCal 1 { src := 1 }); let n : Nat := 1; let k : Nat := 9; let q : CalMeas := { lna := 100, att := [10, 20], offs := [3], gains := [5], skews := [7], dgains := [1], dskews := [2], loop := 4, delay := 900, trims := [1, 2, 3] }; (decide (n < 2)) && (s.calState n == 2) && ((s.cal n).ta.isNone) && (s.calOk n q)) = true ∧
  (let s : State := ((fs run [(CALn_STAT_STATE 1, 2)]).setCal 1 { src := 1 }); let n : Nat := 1; let k : Nat := 9; let q : CalMeas := { lna := 201, att := [10, 20], offs := [3], gains := [5], skews := [7], dgains := [1], dskews := [2], loop := 4, delay := 900, trims := [1, 2, 3] }; (decide (n < 2)) && (s.calState n == 2) && ((s.cal n).ta.isNone) && (!s.calOk n q)) = true ∧
  (let s : State := (({ fs run [(CALn_STAT_STATE 1, 2), (CALn_STAT_DUE 1, 1)] with syscnt := 5000 }).setCal 1 { src := 1, asked := 4, ta := some 4096, new := [1, 2] }); let n : Nat := 1; let k : Nat := 9000; let a : Nat := 4096; (decide (n < 5)) && (s.calState n == 2) && ((s.cal n).ta == some a) && (decide (a ≤ (s.advance k).now))) = true ∧
  (let s : State := (fs run [(CALn_STAT_STATE 4, 2), (CLK_STAT_LOCK, 0)]); let n : Nat := 9; (s.exc.step == .rfUp || !s.flag CLK_STAT_LOCK) && (s.calState 4 == 2)) = true ∧
  (let s : State := run; let m : Master := .hostBus; (s.reaches m CAL_IMG_CMD) && (!s.flag CAL_IMG_STAT_BUSY)) = true ∧
  (let s : State := run; let m : Master := .hostBus; let ok : List Bool := []; (s.reaches m CAL_IMG_CMD) && (!s.flag CAL_IMG_STAT_BUSY) && (s.calBad (s.winBytes 0x80000 8192) != 0) && (s.calBad (s.winBytes 0x90000 8192) != 0)) = true := by
  decide +kernel

/-- A state and operands that meet the hypotheses of each clause of ImageRoundTrip. -/
theorem witness_ImageRoundTrip :
  (let s : State := (({ fs run [(SLK_CH_KHZ 3, 868000)] with pwr := { run.pwr with temps := [400, -400, 400, 400, 400, 400, 400, 400] }, sec := { otp := { bytes := [(32, 0x89), (33, 0x67), (34, 0x45), (35, 0x23), (36, 1)] } }, slk := { entries := [(3, ⟨true, false, 868000, 100, [1]⟩)] } }).setCal 3 { firstAt := some 5, trims := [3, 4, 5] }); let m : Master := .hostBus; (s.reaches m CAL_IMG_CMD) && (!s.flag CAL_IMG_STAT_BUSY)) = true := by
  decide +kernel

/-- A state and operands that meet the hypotheses of each clause of Security. -/
theorem witness_Security :
  (let s : State := (fs run [(SEC_SV_FW_SV, 7)]); let m : Master := .pcie; (s.reaches m SEC_CMD) && (!s.flag SEC_RES_BUSY)) = true ∧
  (let s : State := (fs run [(SEC_SV_BS_SV, 7)]); let m : Master := .pcie; (s.reaches m SEC_CMD) && (!s.flag SEC_RES_BUSY)) = true ∧
  (let s : State := (fs run [(SEC_RES_BUSY, 1)]); let m : Master := .pcie; (s.reaches m SEC_CMD) && (s.flag SEC_RES_BUSY)) = true ∧
  (let s : State := (winPut 0xC0058 [0x4E, 0x47, 0x49, 0x53, 1, 0, 0, 0, 0x14, 0x15, 0, 0, 0, 0, 0, 0, 0, 0, 0, 2, 0, 0, 0, 7, 0, 0, 0, 3] (winPut 0xC0000 [0x4E, 0x45, 0x4B, 0x54, 1, 3, 0, 0, 0, 0, 0, 0, 0, 0, 0, 0, 1, 0, 0, 0, 0, 0, 0, 0, 9] (fs run [(SEC_NVLEN_LEN, 5568)]))); let m : Master := .pcie; let v : SigVerdict := ⟨0, true⟩; let l : List Byte := ((winPut 0xC0058 [0x4E, 0x47, 0x49, 0x53, 1, 0, 0, 0, 0x14, 0x15, 0, 0, 0, 0, 0, 0, 0, 0, 0, 2, 0, 0, 0, 7, 0, 0, 0, 3] (winPut 0xC0000 [0x4E, 0x45, 0x4B, 0x54, 1, 3, 0, 0, 0, 0, 0, 0, 0, 0, 0, 0, 1, 0, 0, 0, 0, 0, 0, 0, 9] (fs run [(SEC_NVLEN_LEN, 5568)])))).recBuf 5568; (s.reaches m SEC_CMD) && (!s.flag SEC_RES_BUSY) && (s.recBuf (s.getF SEC_NVLEN_LEN) == l) && (leAt l 5 1 == 3) && (s.tokenResult l (sigOf l 88 v) == 1)) = true ∧
  (let s : State := (winPut 0xC0058 [0x4E, 0x47, 0x49, 0x53, 1, 0, 0, 0, 0x14, 0x15, 0, 0, 0, 0, 0, 0, 0, 0, 0, 2, 0, 0, 0, 7, 0, 0, 0, 3] (winPut 0xC0000 [0x4E, 0x45, 0x4B, 0x54, 1, 3, 0, 0, 0, 0, 0, 0, 0, 0, 0, 0, 1, 0, 0, 0, 0, 0, 0, 0, 9] (fs run [(SEC_NVLEN_LEN, 5568)]))); let m : Master := .pcie; let v : SigVerdict := ⟨0, false⟩; let w : Bool := true; let l : List Byte := ((winPut 0xC0058 [0x4E, 0x47, 0x49, 0x53, 1, 0, 0, 0, 0x14, 0x15, 0, 0, 0, 0, 0, 0, 0, 0, 0, 2, 0, 0, 0, 7, 0, 0, 0, 3] (winPut 0xC0000 [0x4E, 0x45, 0x4B, 0x54, 1, 3, 0, 0, 0, 0, 0, 0, 0, 0, 0, 0, 1, 0, 0, 0, 0, 0, 0, 0, 9] (fs run [(SEC_NVLEN_LEN, 5568)])))).recBuf 5568; (s.reaches m SEC_CMD) && (!s.flag SEC_RES_BUSY) && (s.recBuf (s.getF SEC_NVLEN_LEN) == l) && (leAt l 5 1 == 3 || s.feat 21) && (s.tokenResult l (sigOf l 88 v) != 1)) = true ∧
  (let s : State := (winPut 0xC0000 [1, 2, 3] (fs run [(SEC_NVLEN_LEN, 4)])); let m : Master := .hostBus; let n : Nat := 0x41; let v : SigVerdict := ⟨0, true⟩; let w : Bool := true; (s.reaches m SEC_CMD) && (!s.flag SEC_RES_BUSY) && (decide (0x40 ≤ n)) && (decide (n ≤ 0x4F)) && (decide (s.getF SEC_NVLEN_LEN ≤ 4064))) = true ∧
  (let s : State := (let b := winPut 0xC0020 [0x4E, 0x47, 0x49, 0x53, 1, 5, 0, 0, 0x14, 0x15, 0, 0, 0, 0, 0, 0, 0, 0, 0, 2, 0, 0, 0, 7, 0, 0, 0, 3] (winPut 0xC0000 [0x45, 0x43, 0x49, 0x4C, 1, 0, 0, 0, 1] (fs run [(SEC_NVLEN_LEN, 5512)])); { b with sec := { nv := [(2, { a := ⟨true, true, 1, [0, 0, 0, 2, 0, 0, 0, 7, 0, 0, 0, 3] ++ List.replicate 52 0⟩ })] } }); let m : Master := .hostBus; let v : SigVerdict := ⟨0, true⟩; let l : List Byte := ((let b := winPut 0xC0020 [0x4E, 0x47, 0x49, 0x53, 1, 5, 0, 0, 0x14, 0x15, 0, 0, 0, 0, 0, 0, 0, 0, 0, 2, 0, 0, 0, 7, 0, 0, 0, 3] (winPut 0xC0000 [0x45, 0x43, 0x49, 0x4C, 1, 0, 0, 0, 1] (fs run [(SEC_NVLEN_LEN, 5512)])); { b with sec := { nv := [(2, { a := ⟨true, true, 1, [0, 0, 0, 2, 0, 0, 0, 7, 0, 0, 0, 3] ++ List.replicate 52 0⟩ })] } })).recBuf 5512; (s.reaches m SEC_CMD) && (!s.flag SEC_RES_BUSY) && (s.recBuf (s.getF SEC_NVLEN_LEN) == l) && (s.licResult l (sigOf l (l.length - 5480) v) == 1) && ((s.licJudge (licPayload l)).1 == 0)) = true ∧
  (let s : State := (fs run [(SEC_NVLEN_LEN, 4)]); let m : Master := .hostBus; let v : SigVerdict := ⟨0, true⟩; let w : Bool := true; let l : List Byte := [0, 0, 0, 0]; (s.reaches m SEC_CMD) && (!s.flag SEC_RES_BUSY) && (s.recBuf (s.getF SEC_NVLEN_LEN) == l) && (s.licResult l (sigOf l (l.length - 5480) v) != 1)) = true ∧
  (let s : State := ({ run with sec := { nv := [(0x41, { a := ⟨true, true, 1, [9, 8, 0, 7]⟩ })] } }); let m : Master := .core 2; let n : Nat := 0x41; let l : List Byte := [9, 8, 0, 7]; (s.reaches m SEC_CMD) && (!s.flag SEC_RES_BUSY) && (nvId n) && (decide (n < 256)) && ((s.nvRec n).data == some l) && (decide (l.length ≤ 8160))) = true ∧
  (let s : State := run; let m : Master := .core 2; let n : Nat := 0x41; (s.reaches m SEC_CMD) && (!s.flag SEC_RES_BUSY) && (nvId n) && (decide (n < 256)) && ((s.nvRec n).data == none)) = true ∧
  (let s : State := (fs run [(SEC_ATT_TOKENS, 16)]); let m : Master := .pcie; let sig : List Byte := [5, 6, 7]; (s.reaches m SEC_CMD) && (!s.flag SEC_RES_BUSY) && (s.feat 19) && (decide (s.getF SEC_LEAF_NEXT < 2 ^ 30)) && (s.getF SEC_ATT_TOKENS != 0)) = true ∧
  (let s : State := (fs run [(SEC_ATT_TOKENS, 0)]); let m : Master := .pcie; let sig : List Byte := []; let w : Bool := true; (s.reaches m SEC_CMD) && (!s.flag SEC_RES_BUSY) && (s.feat 19) && (s.getF SEC_ATT_TOKENS == 0)) = true ∧
  (let s : State := (fs run [(SEC_ATT_TOKENS, 3)]); let n : Nat := 7864320009; (decide (s.sec.refillAt + 7864320000 ≤ n))) = true := by
  decide +kernel

/-- A state and operands that meet the hypotheses of each clause of FennelCommands. -/
theorem witness_FennelCommands :
  (let s : State := (fs run [(FOLp_ID_PI 1, 0xC201)]); let m : Master := .pcie; let p : Nat := 1; (s.reaches m FOL_CMD) && (decide (p < 256)) && (decide (p < s.hdr.progs)) && (!(s.ktOwned && decide (p < 4) && m != .personality)) && (s.folState p == 0) && (s.idValid p)) = true ∧
  (let s : State := (({ fs run [(FOLp_STAT_STATE 1, 3), (FOLp_ID_PI 1, 0xC201), (FOLp_DELAY_SMP 1, 48000), (SEQk_STAT_STATE 1, 1), (PTHn_STAT_STATE 9, 2), (PTHn_STAT_STATE 10, 2), (PTHn_CTL_TYPE 9, 1), (PTHn_CTL_TYPE 10, 1)] with syscnt := 10000000 }).setProg 1 { cands := [(0, { kind := 1, num := 9, origin := 0, aligned := true, a := 0, e := some 400 }), (1, { kind := 1, num := 10, origin := 0, aligned := true, a := 5, e := some 700 })], active := some 0, nextTs := 15728640, startAt := 5242880 }); let m : Master := .pcie; let p : Nat := 1; (s.reaches m FOL_CMD) && (decide (p < 256)) && (decide (p < s.hdr.progs)) && (!(s.ktOwned && decide (p < 4) && m != .personality)) && (s.folState p != 0)) = true ∧
  (let s : State := (({ fs run [(FOLp_STAT_STATE 1, 3), (FOLp_ID_PI 1, 0xC201), (FOLp_DELAY_SMP 1, 48000), (SEQk_STAT_STATE 1, 1), (PTHn_STAT_STATE 9, 2), (PTHn_STAT_STATE 10, 2), (PTHn_CTL_TYPE 9, 1), (PTHn_CTL_TYPE 10, 1)] with syscnt := 10000000 }).setProg 1 { cands := [(0, { kind := 1, num := 9, origin := 0, aligned := true, a := 0, e := some 400 }), (1, { kind := 1, num := 10, origin := 0, aligned := true, a := 5, e := some 700 })], active := some 0, nextTs := 15728640, startAt := 5242880 }); let m : Master := .pcie; let p : Nat := 1; (s.reaches m FOL_CMD) && (decide (p < 256)) && (decide (p < s.hdr.progs)) && (!(s.ktOwned && decide (p < 4) && m != .personality)) && (decide (2 ≤ s.folState p)) && ((s.prog p).stopping.isNone)) = true ∧
  (let s : State := (({ fs run [(FOLp_STAT_STATE 1, 1), (FOLp_ID_PI 1, 0xC201), (FOLp_DELAY_SMP 1, 48000), (SEQk_STAT_STATE 1, 1), (PTHn_STAT_STATE 9, 2), (PTHn_STAT_STATE 10, 2), (PTHn_CTL_TYPE 9, 1), (PTHn_CTL_TYPE 10, 1)] with syscnt := 10000000 }).setProg 1 {}); let m : Master := .pcie; let p : Nat := 1; (s.reaches m FOL_CMD) && (decide (p < 256)) && (decide (p < s.hdr.progs)) && (!(s.ktOwned && decide (p < 4) && m != .personality)) && (s.folState p == 1)) = true ∧
  (let s : State := (({ fs run [(FOLp_STAT_STATE 1, 3), (FOLp_ID_PI 1, 0xC201), (FOLp_DELAY_SMP 1, 48000), (SEQk_STAT_STATE 1, 1), (PTHn_STAT_STATE 9, 2), (PTHn_STAT_STATE 10, 2), (PTHn_CTL_TYPE 9, 1), (PTHn_CTL_TYPE 10, 1)] with syscnt := 10000000 }).setProg 1 { cands := [(0, { kind := 1, num := 9, origin := 0, aligned := true, a := 0, e := some 400 }), (1, { kind := 1, num := 10, origin := 0, aligned := true, a := 5, e := some 700 })], active := some 0, nextTs := 15728640, fade := some ⟨1, 20971520, 4800, 1, false, 4800, none⟩ }); let m : Master := .pcie; let p : Nat := 1; let f : Fade := ⟨1, 20971520, 4800, 1, false, 4800, none⟩; (s.reaches m FOL_CMD) && (decide (p < 256)) && (decide (p < s.hdr.progs)) && (!(s.ktOwned && decide (p < 4) && m != .personality)) && (s.folState p != 0) && ((s.prog p).fade == some f)) = true ∧
  (let s : State := (({ fs run [(FOLp_STAT_STATE 1, 3), (FOLp_ID_PI 1, 0xC201), (FOLp_DELAY_SMP 1, 48000), (SEQk_STAT_STATE 1, 1), (PTHn_STAT_STATE 9, 2), (PTHn_STAT_STATE 10, 2), (PTHn_CTL_TYPE 9, 1), (PTHn_CTL_TYPE 10, 1)] with syscnt := 10000000 }).setProg 1 { cands := [(0, { kind := 1, num := 9, origin := 0, aligned := true, a := 0, e := some 400 }), (1, { kind := 1, num := 10, origin := 0, aligned := true, a := 5, e := some 700 })], active := some 0, nextTs := 15728640, startAt := 5242880 }); let m : Master := .pcie; let p : Nat := 1; let i : Nat := 1; let c : Cand := { kind := 1, num := 10, origin := 0, aligned := true, a := 5, e := some 700 }; (s.reaches m FOL_CMD) && (decide (p < 256)) && (decide (p < s.hdr.progs)) && (!(s.ktOwned && decide (p < 4) && m != .personality)) && (decide (i < 16)) && (s.folState p == 3) && ((s.prog p).fade.isNone) && ((s.prog p).hard.isNone) && ((s.prog p).cand i == some c) && ((s.prog p).candState i c == 2) && (!s.deferred c)) = true ∧
  (let s : State := (({ fs run [(FOLp_STAT_STATE 1, 3), (FOLp_ID_PI 1, 0xC201), (FOLp_DELAY_SMP 1, 48000), (SEQk_STAT_STATE 1, 1), (PTHn_STAT_STATE 9, 2), (PTHn_STAT_STATE 10, 2), (PTHn_CTL_TYPE 9, 1), (PTHn_CTL_TYPE 10, 1)] with syscnt := 10000000 }).setProg 1 { cands := [(0, { kind := 1, num := 9, origin := 0, aligned := true, a := 0, e := some 400 }), (1, { kind := 1, num := 10, origin := 0, aligned := true, a := 5, e := some 700 })], active := some 0, nextTs := 15728640, startAt := 5242880 }); let m : Master := .pcie; let p : Nat := 1; let i : Nat := 2; (s.reaches m FOL_CMD) && (decide (p < 256)) && (decide (p < s.hdr.progs)) && (!(s.ktOwned && decide (p < 4) && m != .personality)) && (decide (i < 16)) && ((s.prog p).cand i == none)) = true ∧
  (let s : State := (({ fs run [(FOLp_STAT_STATE 1, 3), (FOLp_ID_PI 1, 0xC201), (FOLp_DELAY_SMP 1, 48000), (SEQk_STAT_STATE 1, 1), (PTHn_STAT_STATE 9, 2), (PTHn_STAT_STATE 10, 2), (PTHn_CTL_TYPE 9, 1), (PTHn_CTL_TYPE 10, 1)] with syscnt := 10000000 }).setProg 1 { cands := [(0, { kind := 1, num := 9, origin := 0, aligned := true, a := 0, e := some 400 }), (1, { kind := 1, num := 10, origin := 0, aligned := true, a := 5, e := some 700 })], active := some 0, nextTs := 15728640, startAt := 5242880 }); let m : Master := .pcie; let p : Nat := 1; (s.reaches m FOL_CMD) && (decide (p < 256)) && (decide (p < s.hdr.progs)) && (!(s.ktOwned && decide (p < 4) && m != .personality)) && (s.folState p == 3)) = true ∧
  (let s : State := (fs run [(FOL_CSEL_PROG, 1), (FOL_CSEL_INDEX, 3)]); let m : Master := .pcie; let v : Word := 0xA0FE0009; let p : Nat := 1; let i : Nat := 3; (s.reaches m FOL_CLIST) && (s.getF FOL_CSEL_PROG == p) && (s.getF FOL_CSEL_INDEX == i) && (decide (p < s.hdr.progs)) && (!(s.ktOwned && decide (p < 4) && m != .personality)) && (bitsOf v.toNat 31 31 == 1) && (bitsOf v.toNat 30 29 != 0) && (s.hostNumOk (bitsOf v.toNat 30 29) (bitsOf v.toNat 15 0)) && ((s.prog p).cand i == none) && ((s.prog p).active != some i) && ((s.prog p).incoming != some i)) = true ∧
  (let s : State := (({ fs run [(FOLp_STAT_STATE 1, 1), (FOLp_ID_PI 1, 0xC201), (FOLp_DELAY_SMP 1, 48000), (SEQk_STAT_STATE 1, 1), (PTHn_STAT_STATE 9, 2), (PTHn_STAT_STATE 10, 2), (PTHn_CTL_TYPE 9, 1), (PTHn_CTL_TYPE 10, 1)] with syscnt := 10000000, counting := true }).setProg 1 { startAt := 15728640 }); let p : Nat := 1; let n : Nat := 15728640; (decide (p < 256)) && (s.folState p == 1) && ((s.prog p).startAt == n) && ((s.advance n).now == n)) = true ∧
  (let s : State := (({ fs run [(FOLp_STAT_STATE 1, 2), (FOLp_ID_PI 1, 0xC201), (FOLp_DELAY_SMP 1, 48000), (SEQk_STAT_STATE 1, 1), (PTHn_STAT_STATE 9, 2), (PTHn_STAT_STATE 10, 2), (PTHn_CTL_TYPE 9, 1), (PTHn_CTL_TYPE 10, 1)] with syscnt := 10000000 }).setProg 1 { cands := [(1, { kind := 1, num := 10, origin := 0, aligned := true, a := 5, e := some 700 })], nextTs := 15728640 }); let p : Nat := 1; let i : Nat := 1; let u : Nat := 20000000; let c : Cand := { kind := 1, num := 10, origin := 0, aligned := true, a := 5, e := some 700 }; (decide (p < 256)) && (s.firmwareOn 1) && (s.folState p == 2) && ((s.prog p).active.isNone) && ((s.prog p).cand i == some c) && (c.bad.isNone) && (s.usable p c) && (s.eligible p c 0)) = true ∧
  (let s : State := (({ fs run [(FOLp_STAT_STATE 1, 3), (FOLp_ID_PI 1, 0xC201), (FOLp_DELAY_SMP 1, 48000), (SEQk_STAT_STATE 1, 1), (PTHn_STAT_STATE 9, 2), (PTHn_STAT_STATE 10, 2), (PTHn_CTL_TYPE 9, 1), (PTHn_CTL_TYPE 10, 1)] with syscnt := 10000000 }).setProg 1 { stopping := some 0, cands := [(0, { kind := 1, num := 9, origin := 0, aligned := true, a := 0, e := some 400 }), (1, { kind := 1, num := 10, origin := 0, aligned := true, a := 5, e := some 700 })], active := some 0, nextTs := 15728640, startAt := 5242880 }); let p : Nat := 1; (decide (p < 256)) && (decide (2 ≤ s.folState p)) && ((s.prog p).stopping == some 0)) = true ∧
  (let s : State := (fs run [(ENSs_STAT_STATE 7, 3), (ENSs_STAT_FIC_OK 7, 1)]); let n : Nat := 7; let v : DabInfo := { services := [⟨0x4321, 5, 0, 0, 0⟩] }; (decide (n < 48)) && (s.slotLocked n) && (s.flag (ENSs_STAT_FIC_OK n))) = true := by
  decide +kernel

/-- A state and operands that meet the hypotheses of each clause of FennelSwitching. -/
theorem witness_FennelSwitching :
  (let s : State := (({ fs run [(FOLp_STAT_STATE 1, 3), (FOLp_ID_PI 1, 0xC201), (FOLp_DELAY_SMP 1, 48000), (SEQk_STAT_STATE 1, 1), (PTHn_STAT_STATE 9, 2), (PTHn_STAT_STATE 10, 2), (PTHn_CTL_TYPE 9, 1), (PTHn_CTL_TYPE 10, 1), (FOLp_POL0_HOLD 1, 0)] with syscnt := 10000000 }).setProg 1 { cands := [(0, { kind := 1, num := 9, origin := 0, aligned := true, a := 0, e := some 400 }), (1, { kind := 1, num := 10, origin := 0, aligned := true, a := 5, e := some 700, above := some 5 })], active := some 0, nextTs := 15728640 }); let p : Nat := 1; let b : Nat := 1; let c : Cand := { kind := 1, num := 10, origin := 0, aligned := true, a := 5, e := some 700, above := some 5 }; (decide (p < 256)) && (s.firmwareOn 1) && (s.mayDecide p (s.prog p)) && ((s.prog p).lastSw.isNone) && (bestOf (s.discReady p (s.prog p)) (s.prog p).cands == some (b, c))) = true ∧
  (let s : State := (({ fs run [(FOLp_STAT_STATE 1, 3), (FOLp_ID_PI 1, 0xC201), (FOLp_DELAY_SMP 1, 48000), (SEQk_STAT_STATE 1, 1), (PTHn_STAT_STATE 9, 2), (PTHn_STAT_STATE 10, 2), (PTHn_CTL_TYPE 9, 1), (PTHn_CTL_TYPE 10, 1)] with syscnt := 10000000 }).setProg 1 { cands := [(0, { kind := 1, num := 9, origin := 0, aligned := true, a := 0, e := some 400 }), (1, { kind := 1, num := 10, origin := 0, aligned := true, a := 5, e := some 700 })], active := some 0, nextTs := 15728640, startAt := 5242880 }); let p : Nat := 1; (bestOf (s.discReady p (s.prog p)) (s.prog p).cands == none)) = true ∧
  (let s : State := (({ fs run [(FOLp_STAT_STATE 1, 3), (FOLp_ID_PI 1, 0xC201), (FOLp_DELAY_SMP 1, 48000), (SEQk_STAT_STATE 1, 1), (PTHn_STAT_STATE 9, 2), (PTHn_STAT_STATE 10, 2), (PTHn_CTL_TYPE 9, 1), (PTHn_CTL_TYPE 10, 1)] with syscnt := 10000000 }).setProg 1 { cands := [(0, { kind := 1, num := 9, origin := 0, aligned := true, a := 0, e := some 400, bad := some 20971520 }), (1, { kind := 1, num := 10, origin := 0, aligned := true, a := 5, e := some 700 })], active := some 0, nextTs := 15728640 }); let p : Nat := 1; let b : Nat := 1; let u : Nat := 20971520; let c : Cand := { kind := 1, num := 10, origin := 0, aligned := true, a := 5, e := some 700 }; (decide (p < 256)) && (s.firmwareOn 1) && (s.mayDecide p (s.prog p)) && (!s.flag (FOLp_STAT_SILENT p)) && ((s.prog p).badPoint == some u) && (bestOf (s.alignedTake (s.prog p)) (s.prog p).cands == some (b, c))) = true ∧
  (let s : State := (({ fs run [(FOLp_STAT_STATE 1, 3), (FOLp_ID_PI 1, 0xC201), (FOLp_DELAY_SMP 1, 48000), (SEQk_STAT_STATE 1, 1), (PTHn_STAT_STATE 9, 2), (PTHn_STAT_STATE 10, 2), (PTHn_CTL_TYPE 9, 1), (PTHn_CTL_TYPE 10, 1)] with syscnt := 10000000 }).setProg 1 { cands := [(0, { kind := 1, num := 9, origin := 0, aligned := true, a := 0, e := some 400, bad := some 20971520 }), (1, { kind := 1, num := 10, origin := 0, aligned := false, a := 5, e := some 700 })], active := some 0, nextTs := 15728640 }); let p : Nat := 1; let b : Nat := 1; let u : Nat := 20971520; let c : Cand := { kind := 1, num := 10, origin := 0, aligned := false, a := 5, e := some 700 }; (decide (p < 256)) && (s.firmwareOn 1) && (s.mayDecide p (s.prog p)) && ((s.prog p).badPoint == some u) && (bestOf (s.alignedTake (s.prog p)) (s.prog p).cands == none) && (bestOf (s.takeable (s.prog p)) (s.prog p).cands == some (b, c))) = true ∧
  (let s : State := (({ fs run [(FOLp_STAT_STATE 1, 3), (FOLp_ID_PI 1, 0xC201), (FOLp_DELAY_SMP 1, 48000), (SEQk_STAT_STATE 1, 1), (PTHn_STAT_STATE 9, 2), (PTHn_STAT_STATE 10, 2), (PTHn_CTL_TYPE 9, 1), (PTHn_CTL_TYPE 10, 1)] with syscnt := 10000000 }).setProg 1 { cands := [(0, { kind := 1, num := 9, origin := 0, aligned := true, a := 0, e := some 400 }), (1, { kind := 1, num := 10, origin := 0, aligned := true, a := 5, e := some 700 })], active := some 0, nextTs := 15728640, fade := some ⟨1, 0, 0, 1, false, 4800, none⟩ }); let p : Nat := 1; let f : Fade := ⟨1, 0, 0, 1, false, 4800, none⟩; (decide (p < 256)) && ((s.prog p).fade == some f) && (f.left == 0)) = true ∧
  (let s : State := (({ fs run [(FOLp_STAT_STATE 1, 3), (FOLp_ID_PI 1, 0xC201), (FOLp_DELAY_SMP 1, 48000), (SEQk_STAT_STATE 1, 1), (PTHn_STAT_STATE 9, 2), (PTHn_STAT_STATE 10, 2), (PTHn_CTL_TYPE 9, 1), (PTHn_CTL_TYPE 10, 1)] with syscnt := 10000000 }).setProg 1 { cands := [(0, { kind := 1, num := 9, origin := 0, aligned := true, a := 0, e := some 400 }), (1, { kind := 1, num := 10, origin := 0, okLast := some 7 })], active := some 0, nextTs := 15728640, startAt := 5242880 }); let p : Nat := 1; let i : Nat := 1; let u : Nat := 8; let c : Cand := { kind := 1, num := 10, origin := 0, okLast := some 7 }; let a : Cand := { kind := 1, num := 9, origin := 0, aligned := true, a := 0, e := some 400 }; (decide (p < 256)) && (s.folState p == 3) && ((s.prog p).active.bind (s.prog p).cand == some a) && ((s.prog p).active != some i) && ((s.prog p).incoming != some i) && ((s.prog p).cand i == some c) && (c.kind != 3) && (c.bad.isNone) && (s.windowOk p (s.prog p) a c u)) = true ∧
  (let s : State := (({ fs run [(FOLp_STAT_STATE 1, 3), (FOLp_ID_PI 1, 0xC201), (FOLp_DELAY_SMP 1, 48000), (SEQk_STAT_STATE 1, 1), (PTHn_STAT_STATE 9, 2), (PTHn_STAT_STATE 10, 2), (PTHn_CTL_TYPE 9, 1), (PTHn_CTL_TYPE 10, 1), (FOLp_CTL_LOUD 1, 1)] with syscnt := 10000000 }).setProg 1 { cands := [(0, { kind := 1, num := 9, origin := 0, aligned := true, a := 0, e := some 400 }), (1, { kind := 1, num := 10, origin := 0, aligned := true, a := 5, gSet := true, g := 20, e := some 700 })], active := some 0, nextTs := 15728640, startAt := 5242880 }); let p : Nat := 1; let i : Nat := 1; let T : Nat := 90; let c : Cand := { kind := 1, num := 10, origin := 0, aligned := true, a := 5, gSet := true, g := 20, e := some 700 }; let a : Cand := { kind := 1, num := 9, origin := 0, aligned := true, a := 0, e := some 400 }; (decide (p < 256)) && (s.flag (FOLp_CTL_LOUD p)) && ((s.prog p).active.bind (s.prog p).cand == some a) && ((s.prog p).cand i == some c) && ((s.prog p).candState i c == 2) && (c.gSet) && (decide (c.loudAt ≤ T))) = true ∧
  (let s : State := (({ fs run [(FOLp_STAT_STATE 1, 3), (FOLp_ID_PI 1, 0xC201), (FOLp_DELAY_SMP 1, 48000), (SEQk_STAT_STATE 1, 1), (PTHn_STAT_STATE 9, 2), (PTHn_STAT_STATE 10, 2), (PTHn_CTL_TYPE 9, 1), (PTHn_CTL_TYPE 10, 1)] with syscnt := 10000000, streams := [(2057, [⟨15728640, 0, List.replicate 128 7⟩])] }).setProg 1 { cands := [(0, { kind := 1, num := 9, origin := 0, aligned := true, a := 0, e := some 400 }), (1, { kind := 1, num := 10, origin := 0, aligned := true, a := 5, e := some 700 })], active := some 0, nextTs := 15728640, startAt := 5242880 }); let p : Nat := 1; let a : Nat := 0; let b : Block := ⟨15728640, 0, List.replicate 128 7⟩; (decide (p < 256)) && (s.folState p == 3) && ((s.prog p).stopping.isNone) && ((s.prog p).hard.isNone) && ((s.prog p).fade.isNone) && ((s.prog p).mute.isNone) && (!s.flag (FOLp_STAT_ALLLOST p)) && (!s.abandoned 4 p ((s.prog p).nextTs + s.pgDelay p)) && ((s.prog p).riseLeft == 0 || decide ((s.prog p).riseFrom ≤ (s.prog p).nextTs)) && (!s.flag (FOLp_STAT_SILENT p)) && (!s.voidOver 4 p (s.prog p).nextTs ((s.prog p).nextTs + 5242879)) && ((s.prog p).active == some a) && (s.srcBlock (s.prog p) a == some b) && ((b.flags &&& 11) == 0)) = true ∧
  (let s : State := (({ fs run [(FOLp_STAT_STATE 1, 3), (FOLp_ID_PI 1, 0xC201), (FOLp_DELAY_SMP 1, 48000), (SEQk_STAT_STATE 1, 1), (PTHn_STAT_STATE 9, 2), (PTHn_STAT_STATE 10, 2), (PTHn_CTL_TYPE 9, 1), (PTHn_CTL_TYPE 10, 1)] with syscnt := 10000000, fab := { voids := [(4, 1, ⟨15728640, 20971519, 8⟩)] } }).setProg 1 { cands := [(0, { kind := 1, num := 9, origin := 0, aligned := true, a := 0, e := some 400 }), (1, { kind := 1, num := 10, origin := 0, aligned := true, a := 5, e := some 700 })], active := some 0, nextTs := 15728640, startAt := 5242880 }); let p : Nat := 1; (decide (p < 256)) && (decide (2 ≤ s.folState p)) && ((s.prog p).stopping.isNone) && ((s.prog p).hard.isNone) && (!s.abandoned 4 p ((s.prog p).nextTs + s.pgDelay p)) && (s.voidOver 4 p (s.prog p).nextTs ((s.prog p).nextTs + 5242879))) = true ∧
  (let s : State := (({ fs run [(FOLp_STAT_STATE 1, 3), (FOLp_ID_PI 1, 0xC201), (FOLp_DELAY_SMP 1, 48000), (SEQk_STAT_STATE 1, 1), (PTHn_STAT_STATE 9, 2), (PTHn_STAT_STATE 10, 2), (PTHn_CTL_TYPE 9, 1), (PTHn_CTL_TYPE 10, 1)] with syscnt := 10000000 }).setProg 1 { cands := [(0, { kind := 1, num := 9, origin := 0, aligned := true, a := 0, e := some 400 }), (1, { kind := 1, num := 10, origin := 0, aligned := true, a := 5, e := some 700 })], active := some 0, nextTs := 15728640, startAt := 5242880 }); let p : Nat := 1; (decide (p < 256)) && (decide (2 ≤ s.folState p)) && ((s.prog p).stopping.isNone) && ((s.prog p).hard.isNone)) = true := by
  decide +kernel

/-- A state and operands that meet the hypotheses of each clause of FennelCandidates. -/
theorem witness_FennelCandidates :
  (let s : State := (({ fs run [(FOLp_STAT_STATE 1, 3), (FOLp_ID_PI 1, 0xC201), (FOLp_DELAY_SMP 1, 48000), (SEQk_STAT_STATE 1, 1), (PTHn_STAT_STATE 9, 2), (PTHn_STAT_STATE 10, 2), (PTHn_CTL_TYPE 9, 1), (PTHn_CTL_TYPE 10, 1), (DEMn_PI_PI 9, 0xC201), (DEMn_STAT_PI_CONF 9, 1), (MRW_ACH_VALID 0, 1), (MRW_ACH_KIND 0, 1), (MRW_ACH_NUM 0, 9)] with syscnt := 10000000 }).setProg 1 { nextTs := 15728640 }); let p : Nat := 1; let n : Nat := 9; let i : Nat := 0; (decide (p < 256)) && (s.firmwareOn 1) && (decide (2 ≤ s.folState p)) && (!(s.prog p).cands.any (fun q => q.2.kind == 1 && q.2.num == n)) && (s.mayEnter p { kind := 1, num := n, origin := 1 }) && ((s.chanOf 1 n).isSome) && (s.candIndex (s.prog p) 1 0 == some i)) = true ∧
  (let s : State := (({ fs run [(FOLp_STAT_STATE 1, 3), (FOLp_ID_PI 1, 0xC201), (FOLp_DELAY_SMP 1, 48000), (SEQk_STAT_STATE 1, 1), (PTHn_STAT_STATE 9, 2), (PTHn_STAT_STATE 10, 2), (PTHn_CTL_TYPE 9, 1), (PTHn_CTL_TYPE 10, 1)] with syscnt := 10000000, counting := true }).setProg 1 { cands := [(2, { kind := 1, num := 10, origin := 1, lost := some 5 })] }); let p : Nat := 1; let i : Nat := 2; let n : Nat := 99999999999; let x : Nat := 5; let c : Cand := { kind := 1, num := 10, origin := 1, lost := some 5 }; (s.firmwareOn 1) && ((s.prog p).cand i == some c) && (c.origin != 0) && ((s.prog p).active != some i) && ((s.prog p).incoming != some i) && (c.lost == some x) && (decide (x + tenSeconds ≤ (s.advance n).now)) && (!(s.advance n).identity p c)) = true ∧
  (let s : State := (({ fs run [(FOLp_STAT_STATE 1, 3), (FOLp_ID_PI 1, 0xC201), (FOLp_DELAY_SMP 1, 48000), (SEQk_STAT_STATE 1, 1), (PTHn_STAT_STATE 9, 2), (PTHn_STAT_STATE 10, 2), (PTHn_CTL_TYPE 9, 1), (PTHn_CTL_TYPE 10, 1), (DEMn_STAT_LOST 10, 1)] with syscnt := 10000000 }).setProg 1 { cands := [(0, { kind := 1, num := 9, origin := 0, aligned := true, a := 0, e := some 400 }), (1, { kind := 1, num := 10, origin := 0, aligned := true, a := 5, e := some 700 })], active := some 0, nextTs := 15728640, startAt := 5242880 }); let p : Nat := 1; let i : Nat := 1; let c : Cand := { kind := 1, num := 10, origin := 0, aligned := true, a := 5, e := some 700 }; (decide (p < 256)) && (s.firmwareOn 1) && ((s.prog p).cand i == some c) && (c.kind != 3) && (c.bad.isNone) && (!s.usable p c) && ((s.prog p).active != some i) && ((s.prog p).incoming != some i)) = true ∧
  (let s : State := (({ fs run [(FOLp_STAT_STATE 1, 3), (FOLp_ID_PI 1, 0xC201), (FOLp_DELAY_SMP 1, 48000), (SEQk_STAT_STATE 1, 1), (PTHn_STAT_STATE 9, 2), (PTHn_STAT_STATE 10, 2), (PTHn_CTL_TYPE 9, 1), (PTHn_CTL_TYPE 10, 1)] with syscnt := 10000000 }).setProg 1 { cands := [(0, { kind := 1, num := 9, origin := 0, aligned := true, a := 0, e := some 400 }), (1, { kind := 1, num := 10, origin := 0, aligned := true, a := 5, bad := some 5, goodRun := 5, e := some 700 })], active := some 0, nextTs := 15728640, startAt := 5242880 }); let p : Nat := 1; let i : Nat := 1; let c : Cand := { kind := 1, num := 10, origin := 0, aligned := true, a := 5, bad := some 5, goodRun := 5, e := some 700 }; (decide (p < 256)) && (s.firmwareOn 1) && ((s.prog p).cand i == some c) && (c.bad.isSome) && (s.usable p c) && (decide ((if c.kind = 1 then 5 else 10) ≤ c.goodRun))) = true ∧
  (let s : State := (({ fs run [(FOLp_STAT_STATE 1, 3), (FOLp_ID_PI 1, 0xC201), (FOLp_DELAY_SMP 1, 48000), (SEQk_STAT_STATE 1, 1), (PTHn_STAT_STATE 9, 2), (PTHn_STAT_STATE 10, 2), (PTHn_CTL_TYPE 9, 1), (PTHn_CTL_TYPE 10, 1), (FOLp_DELAY_SMP 1, 0)] with syscnt := 10000000 }).setProg 1 { cands := [(0, { kind := 1, num := 9, origin := 0, aligned := true, a := 0, e := some 400 }), (1, { kind := 1, num := 10, origin := 0, aligned := true, a := 5, e := some 700 })], active := some 0, nextTs := 15728640, startAt := 5242880 }); let p : Nat := 1; let i : Nat := 1; let c : Cand := { kind := 1, num := 10, origin := 0, aligned := true, a := 5, e := some 700 }; (decide (p < 256)) && (s.firmwareOn 1) && ((s.prog p).cand i == some c) && (c.kind != 3) && (!c.inelig) && (!s.eligible p c ((s.prog p).aOf i c))) = true ∧
  (let s : State := (({ fs run [(FOLp_STAT_STATE 1, 3), (FOLp_ID_PI 1, 0xC201), (FOLp_DELAY_SMP 1, 48000), (SEQk_STAT_STATE 1, 1), (PTHn_STAT_STATE 9, 2), (PTHn_STAT_STATE 10, 2), (PTHn_CTL_TYPE 9, 1), (PTHn_CTL_TYPE 10, 1), (DEMn_STAT_QVALID 10, 1), (DEMn_STAT_WARMUP 10, 0), (DEMn_LVL_CNR 10, 200)] with syscnt := 10000000 }).setProg 1 { cands := [(0, { kind := 1, num := 9, origin := 0, aligned := true, a := 0, e := some 400 }), (1, { kind := 1, num := 10, origin := 0, aligned := true, a := 5, e := some 700 })], active := some 0, nextTs := 15728640, startAt := 5242880 }); let p : Nat := 1; let i : Nat := 1; let c : Cand := { kind := 1, num := 10, origin := 0, aligned := true, a := 5, e := some 700 }; let e : Rat := 700; (decide (p < 256)) && (s.firmwareOn 1) && ((s.prog p).cand i == some c) && (c.kind == 1) && (s.scored c) && (s.usable p c) && (c.bad.isNone) && (c.e == some e)) = true ∧
  (let s : State := ((({ fs run [(FOLp_STAT_STATE 1, 3), (FOLp_ID_PI 1, 0xC201), (FOLp_DELAY_SMP 1, 48000), (SEQk_STAT_STATE 1, 1), (PTHn_STAT_STATE 9, 2), (PTHn_STAT_STATE 10, 2), (PTHn_CTL_TYPE 9, 1), (PTHn_CTL_TYPE 10, 1), (FOL_POOL_BASE, 100), (FOL_POOL_COUNT, 8)] with syscnt := 10000000 }).setProg 1 { cands := [(0, { kind := 1, num := 9, origin := 0, aligned := true, a := 0, e := some 400 }), (1, { kind := 1, num := 10, origin := 0, aligned := true, a := 5, e := some 700 })], active := some 0, nextTs := 15728640, startAt := 5242880 }).setDem 9 { af := [98100000] }); let p : Nat := 1; let hz : Nat := 98100000; let fig : Bool := false; let i : Nat := 0; (decide (p < 256)) && (s.firmwareOn 1) && (decide (2 ≤ s.folState p)) && (s.getF (FOLp_CTL_KEY p) != 3) && (s.fol.pool == []) && (!s.fol.retry.any fun r => r.1 == p && r.2.1 == hz && decide (s.now < r.2.2)) && (decide (binOf hz < 2048)) && (if fig then (s.fol.info.any fun q => q.2.fm.any fun x => x.2 == hz && s.piMatch p x.1) else ((s.prog p).cands.any fun q => q.2.kind == 1 && (s.dem q.2.num).af.contains hz)) && (((List.range (s.getF FOL_POOL_COUNT)).find? fun j => decide (s.getF FOL_POOL_BASE + j < s.hdr.paths) && s.getF (PTHn_STAT_STATE (s.getF FOL_POOL_BASE + j)) == 0) == some i) && (s.getF (PTHn_RS_NUM (s.getF FOL_POOL_BASE + i)) == 0) && (decide (s.getF FOL_POOL_BASE + i < 512))) = true ∧
  (let s : State := (({ fs run [(FOLp_STAT_STATE 1, 3), (FOLp_ID_PI 1, 0xC201), (FOLp_DELAY_SMP 1, 48000), (SEQk_STAT_STATE 1, 1), (PTHn_STAT_STATE 9, 2), (PTHn_STAT_STATE 10, 2), (PTHn_CTL_TYPE 9, 1), (PTHn_CTL_TYPE 10, 1), (PTHn_STAT_STATE 100, 2)] with syscnt := 10000000, fol := { pool := [(100, { hz := 98100000, progs := [1] })] }, counting := true }).setProg 1 { cands := [(0, { kind := 1, num := 9, origin := 0, aligned := true, a := 0, e := some 400 }), (1, { kind := 1, num := 10, origin := 0, aligned := true, a := 5, e := some 700 })], active := some 0, nextTs := 15728640, startAt := 5242880 }); let n : Nat := 100; let T : Nat := 99999999999; let q : PoolPath := { hz := 98100000, progs := [1] }; (s.firmwareOn 1) && ((s.fol.pool.find? fun r => r.1 == n) == some (n, q)) && (s.pathRunning n) && (!s.flag (DEMn_STAT_PI_CONF n)) && (decide (s.pathOrigin n + 3 * Config.ticksPerSecond ≤ (s.advance T).now))) = true ∧
  (let s : State := (({ fs run [(FOLp_STAT_STATE 1, 0), (FOLp_ID_PI 1, 0xC201), (FOLp_DELAY_SMP 1, 48000), (SEQk_STAT_STATE 1, 1), (PTHn_STAT_STATE 9, 2), (PTHn_STAT_STATE 10, 2), (PTHn_CTL_TYPE 9, 1), (PTHn_CTL_TYPE 10, 1), (PTHn_STAT_STATE 100, 2)] with syscnt := 10000000, fol := { pool := [(100, { hz := 98100000, progs := [1], idle := some 5 })] }, counting := true }).setProg 1 {}); let T : Nat := 99999999999; let n : Nat := 100; (s.firmwareOn 1) && (s.fol.pool.any fun q => q.1 == n && q.2.progs.all (fun p => s.folState p == 0) && q.2.idle.any (fun x => decide (x + tenSeconds ≤ (s.advance T).now))) && ((s.fol.pool.filter fun q => q.1 == n).length == 1)) = true ∧
  (let s : State := (({ fs run [(FOLp_STAT_STATE 1, 3), (FOLp_ID_PI 1, 0xC201), (FOLp_DELAY_SMP 1, 48000), (SEQk_STAT_STATE 1, 1), (PTHn_STAT_STATE 9, 2), (PTHn_STAT_STATE 10, 2), (PTHn_CTL_TYPE 9, 1), (PTHn_CTL_TYPE 10, 1), (ENSs_STAT_STATE 7, 3), (FOL_DEC_MAX, 4)] with syscnt := 10000000, mrw := { run.mrw with chans := 1024 } }).setProg 1 { cands := [(2, { kind := 3, num := 7 * 256 + 5, origin := 3 })] }); let p : Nat := 1; let i : Nat := 2; let d : Nat := 0; let c : Cand := { kind := 3, num := 7 * 256 + 5, origin := 3 }; (decide (p < 256)) && (s.firmwareOn 1) && ((s.prog p).cand i == some c) && (c.kind == 3) && (c.bad.isNone) && ((s.prog p).leadsDab i c) && (s.slotState (c.num / 256 % 64) == 3) && (s.liveDecs == []) && (decide (s.channels.length < s.mrw.chans)) && ((s.chanOf 2 d).isNone) && ((List.range s.mrw.chans).any fun k => !s.flag (MRW_ACH_VALID k)) && (decide (s.getF FOL_DEC_MAX > 0)) && ((s.otherHeld (s.prog p)).isEmpty) && (((List.range s.hdr.dec).find? fun e => s.decState e == 0) == some d) && (decide (d < 128))) = true ∧
  (let s : State := (({ fs run [(FOLp_STAT_STATE 1, 0), (FOLp_ID_PI 1, 0xC201), (FOLp_DELAY_SMP 1, 48000), (SEQk_STAT_STATE 1, 1), (PTHn_STAT_STATE 9, 2), (PTHn_STAT_STATE 10, 2), (PTHn_CTL_TYPE 9, 1), (PTHn_CTL_TYPE 10, 1), (DECd_CTL_OWNER 4, 1), (DECd_STAT_STATE 4, 2)] with syscnt := 10000000, fol := { decIdle := [(4, 5)] }, counting := true }).setProg 1 {}); let d : Nat := 4; let T : Nat := 99999999999; let x : Nat := 5; (s.firmwareOn 1) && (decide (d < 128)) && (((idleRefresh (s.advance T)).fol.decIdle.find? fun q => q.1 == d) == some (d, x)) && (decide (x + tenSeconds ≤ (s.advance T).now)) && (s.decState d == 2) && ((s.decoder d).change != .stop) && (!s.inFade 2 d)) = true := by
  decide +kernel

/-- A state and operands that meet the hypotheses of each clause of SerialAudioPorts. -/
theorem witness_SerialAudioPorts :
  (let s : State := run; let m : Master := .pcie; let k : Nat := 3; let v : Word := 0x8004400A; (decide (k < 8)) && (s.reaches m (SAPk_CTL k)) && (!(s.ktOwned && decide (k < 2) && m != .personality)) && (!s.flag (SAPk_CTL_EN k)) && (s.sapCtlCode k v == 0) && (bitsOf v.toNat 31 31 == 1)) = true ∧
  (let s : State := (fs run [(SAPk_CTL_EN 3, 1)]); let m : Master := .pcie; let k : Nat := 3; let v : Word := 0x8004400B; (decide (k < 8)) && (s.reaches m (SAPk_CTL k)) && (!(s.ktOwned && decide (k < 2) && m != .personality)) && (s.flag (SAPk_CTL_EN k)) && (((regPut (SAPk_CTL k) v s).rd (SAPk_CTL k)).toNat % 2 ^ 31 != (s.rd (SAPk_CTL k)).toNat % 2 ^ 31)) = true ∧
  (let s : State := ((fs run [(SAPk_CTL_EN 3, 1), (SAPk_STAT_OSTATE 3, 1), (SAPk_STAT_ISTATE 3, 1)]).setSap 3 { out := { good := 63, last := some 8110080, counting := true, ticks := 5160960 }, inp := { good := 63, last := some 8110080, counting := true, ticks := 5160960 } }); let k : Nat := 3; let f : SapFrame := ⟨0, 8192000, 64, false, false, [5, 6]⟩; let u : Nat := 8110080; let w : Nat := 8110080; (decide (k < 8)) && (s.flag (SAPk_CTL_EN k)) && (decide (f.dir < 2)) && (!s.pwr.inReset) && (s.sapShared k) && (!f.violation) && (f.edges == s.sapEdges k) && (s.getF (SAPk_STAT_OSTATE k) == 1) && (s.getF (SAPk_STAT_ISTATE k) == 1) && ((s.sap k).out.last == some u) && ((s.sap k).inp.last == some w) && (s.periodOk k (f.stamp - u)) && (s.periodOk k (f.stamp - w)) && ((s.sap k).out.good == 63) && ((s.sap k).inp.good == 63)) = true ∧
  (let s : State := ((fs run [(SAPk_CTL_EN 3, 1), (SAPk_CTL_FORMAT 3, 3), (SAPk_STAT_OSTATE 3, 2), (SAPk_STAT_ISTATE 3, 2), (SAPk_CTL_RAMP_MS 3, 10)]).setSap 3 { out := { last := some 8110080, counting := true, ticks0 := 5242880 } }); let k : Nat := 3; let f : SapFrame := ⟨0, 8192000, 128, false, false, []⟩; let u : Nat := 8110080; (decide (k < 8)) && (s.flag (SAPk_CTL_EN k)) && (f.dir == 0) && (!s.pwr.inReset) && (!s.sapShared k) && (!f.violation) && (f.edges == s.sapEdges k) && (s.getF (SAPk_STAT_OSTATE k) == 2) && ((s.sap k).out.last == some u) && (decide ((s.sap k).out.frames < 63))) = true ∧
  (let s : State := ((fs run [(SAPk_CTL_EN 3, 1), (SAPk_CTL_FORMAT 3, 3), (SAPk_STAT_OSTATE 3, 2), (SAPk_STAT_ISTATE 3, 2)]).setSap 3 { out := { last := some 8110080, counting := true, ticks0 := 5242880 }, sent := [5] }); let k : Nat := 3; let f : SapFrame := ⟨0, 8192000, 128, true, false, []⟩; (decide (k < 8)) && (s.flag (SAPk_CTL_EN k)) && (f.dir == 0) && (!s.pwr.inReset) && (!s.sapShared k) && (f.violation) && (s.getF (SAPk_STAT_OSTATE k) == 2)) = true ∧
  (let s : State := { ((fs run [(SAPk_CTL_EN 3, 1), (SAPk_CTL_FORMAT 3, 3), (SAPk_STAT_OSTATE 3, 2), (SAPk_STAT_ISTATE 3, 2)]).setSap 3 { out := { last := some 8110080, counting := true, ticks0 := 5242880 } }) with counting := true }; let k : Nat := 3; let d : Nat := 0; let n : Nat := 99999999; let u : Nat := 8110080; (decide (k < 8)) && (d == 0) && (!s.sapShared k) && (s.getF (SAPk_STAT_OSTATE k) == 2) && ((s.sap k).out.last == some u) && (decide (u + s.sapTicks k 4 ≤ (s.advance n).now))) = true ∧
  (let s : State := ({ ((fs run [(SAPk_CTL_EN 3, 1), (SAPk_CTL_FORMAT 3, 3), (SAPk_STAT_OSTATE 3, 2), (SAPk_STAT_ISTATE 3, 2), (SAPk_MAP_KIND 3 1, 2), (SAPk_MAP_NUM 3 1, 9), (SAPk_CTL_EN 3, 1), (SAPk_STAT_OSTATE 3, 1)]).setSap 3 { out := { last := some 8110080, counting := true, ticks0 := 5242880 }, pairs := [(1, { kind := 2, num := 9 })] }) with rel := [(2057, ⟨some 9, some ⟨5242880, 0, [1, 2, 3, 4]⟩⟩)] }); let k : Nat := 3; let i : Nat := 1; let h : Nat := 9; (decide (k < 8)) && (decide (i < 8)) && (!s.pwr.inReset) && ((s.handover (s.getF (SAPk_MAP_KIND k i)) (s.getF (SAPk_MAP_NUM k i)) h).isSome) && (s.getF (SAPk_STAT_OSTATE k) != 2) && (s.flag (SAPk_CTL_EN k)) && (s.getF (SAPk_MAP_KIND k i) != 0)) = true ∧
  (let s : State := ({ ((fs run [(SAPk_CTL_EN 3, 1), (SAPk_CTL_FORMAT 3, 3), (SAPk_STAT_OSTATE 3, 2), (SAPk_STAT_ISTATE 3, 2), (SAPk_MAP_KIND 3 1, 2), (SAPk_MAP_NUM 3 1, 9)]).setSap 3 { out := { last := some 8110080, counting := true, ticks0 := 5242880 }, pairs := [(1, { kind := 2, num := 9 })] }) with rel := [(2057, ⟨some 9, some ⟨5242880, 0, [1, 2, 3, 4]⟩⟩)] }); let k : Nat := 3; let i : Nat := 1; let h : Nat := 9; let b : Block := ⟨5242880, 0, [1, 2, 3, 4]⟩; (decide (k < 8)) && (decide (i < 8)) && (!s.pwr.inReset) && (s.handover (s.getF (SAPk_MAP_KIND k i)) (s.getF (SAPk_MAP_NUM k i)) h == some (some b)) && (!s.abandoned 8 k h) && (!s.tokenOver 8 k b.ts b.ts) && (s.getF (SAPk_STAT_OSTATE k) == 2) && (!s.podsOut 8 k) && (s.sapRate k != 44100) && (((s.sap k).pair i).kind == s.getF (SAPk_MAP_KIND k i)) && (((s.sap k).pair i).num == s.getF (SAPk_MAP_NUM k i)) && (!((s.sap k).pair i).gap) && (!b.flags.testBit 1) && (((s.sap k).pair i).handed != some h) && (decide (((s.sap k).pair i).buf.length + (stereo b.samples).length ≤ 256))) = true ∧
  (let s : State := ({ ((fs run [(SAPk_CTL_EN 3, 1), (SAPk_CTL_FORMAT 3, 3), (SAPk_STAT_OSTATE 3, 2), (SAPk_STAT_ISTATE 3, 2), (SAPk_MAP_KIND 3 1, 2), (SAPk_MAP_NUM 3 1, 9), (SAPk_CTL_FS 3, 1)]).setSap 3 { out := { last := some 8110080, counting := true, ticks0 := 5242880 }, pairs := [(1, { kind := 2, num := 9 })] }) with rel := [(2057, ⟨some 9, some ⟨5242880, 0, [1, 2, 3, 4]⟩⟩)] }); let k : Nat := 3; let i : Nat := 1; let h : Nat := 9; let b : Block := ⟨5242880, 0, [1, 2, 3, 4]⟩; (decide (k < 8)) && (decide (i < 8)) && (!s.pwr.inReset) && (s.handover (s.getF (SAPk_MAP_KIND k i)) (s.getF (SAPk_MAP_NUM k i)) h == some (some b)) && (!s.abandoned 8 k h) && (!s.tokenOver 8 k b.ts b.ts) && (s.getF (SAPk_STAT_OSTATE k) == 2) && (!s.podsOut 8 k) && (((s.sap k).pair i).kind == s.getF (SAPk_MAP_KIND k i)) && (((s.sap k).pair i).num == s.getF (SAPk_MAP_NUM k i)) && (!((s.sap k).pair i).gap) && (!b.flags.testBit 1) && (((s.sap k).pair i).handed != some h) && (decide (((s.sap k).pair i).buf.length + (pairQueue s k h false (stereo b.samples) { ((s.sap k).pair i) with handed := some h, gap := false, warm := 0 }).1.length ≤ 256))) = true ∧
  (let s : State := ({ ((fs run [(SAPk_CTL_EN 3, 1), (SAPk_CTL_FORMAT 3, 3), (SAPk_STAT_OSTATE 3, 2), (SAPk_STAT_ISTATE 3, 2), (SAPk_MAP_KIND 3 1, 2), (SAPk_MAP_NUM 3 1, 9)]).setSap 3 { out := { last := some 8110080, counting := true, ticks0 := 5242880 }, pairs := [(1, { kind := 2, num := 9 })] }) with rel := [(2057, ⟨some 9, none⟩)] }); let k : Nat := 3; let i : Nat := 1; let h : Nat := 9; (decide (k < 8)) && (decide (i < 8)) && (!s.pwr.inReset) && (s.handover (s.getF (SAPk_MAP_KIND k i)) (s.getF (SAPk_MAP_NUM k i)) h == some none) && (s.getF (SAPk_STAT_OSTATE k) == 2) && (!s.podsOut 8 k) && (((s.sap k).pair i).handed != some h) && (decide (((s.sap k).pair i).buf.length + 64 ≤ 256))) = true ∧
  (let s : State := run; let m : Master := .pcie; let k : Nat := 3; let i : Nat := 0; let v : Word := 0x40000007; (decide (k < 8)) && (s.reaches m (SAPk_MAP k i)) && (!(s.ktOwned && decide (k < 2) && m != .personality)) && (decide (i < 8)) && (s.feat 7) && (s.feat 8) && (s.sapSrcOk (bitsOf v.toNat 31 30) (bitsOf v.toNat 9 0)) && (decide (i < s.sapSlots k / 2) || bitsOf v.toNat 31 30 == 0)) = true ∧
  (let s : State := run; let m : Master := .core 3; let k : Nat := 3; let on : Bool := true; (decide (k < 8)) && (s.reaches m (SAPk_OCTL k)) && (!(s.ktOwned && decide (k < 2) && m != .personality))) = true ∧
  (let s : State := ((fs run [(SAPk_CTL_EN 3, 1), (SAPk_CTL_FORMAT 3, 3), (SAPk_STAT_OSTATE 3, 2), (SAPk_STAT_ISTATE 3, 2)]).setSap 3 { out := { last := some 8110080, counting := true, ticks0 := 5242880 }, tapRun := true, tapL0 := 5242875, tapBuf := List.replicate 70 ⟨5, [1, 2], false⟩ }); let k : Nat := 3; let ts : Nat := 5242880; (decide (k < 8)) && (s.flag (SAPk_CTL_EN k)) && (ts % 5242880 == 0) && ((s.sap k).tapRun) && (decide (65 ≤ (s.sap k).tapBuf.length)) && (tapSlip (s.sapTicks k 1) ts (s.sap k) == 0)) = true ∧
  (let s : State := (fs run [(SAPk_IMASK_MASK 3, 2)]); let m : Master := .pcie; let k : Nat := 3; (decide (k < 8)) && (s.reaches m (SAPk_ICAP k)) && (!(s.ktOwned && decide (k < 2) && m != .personality)) && (s.feat 1) && (s.getF (SAPk_ICAP_PACK k) == 0) && (decide (s.getF (SAPk_IMASK_MASK k) < 2 ^ s.sapSlots k))) = true ∧
  (let s : State := run; let m : Master := .pcie; let k : Nat := 3; (decide (k < 8)) && (s.reaches m (SAPk_TCS_CTL k)) && (!(s.ktOwned && decide (k < 2) && m != .personality))) = true ∧
  (let s : State := ((fs run [(SAPk_CTL_EN 3, 1), (SAPk_CTL_FORMAT 3, 3), (SAPk_STAT_OSTATE 3, 2), (SAPk_STAT_ISTATE 3, 2)]).setSap 3 { out := { last := some 8110080, counting := true, ticks0 := 5242880 }, csBlock := some ([0, 0, 0, 7] ++ List.replicate 20 3) }); let k : Nat := 3; let l : List Byte := [0, 0, 0, 7] ++ List.replicate 20 3; (decide (k < 8)) && ((s.sap k).csBlock == some l) && (s.getF (SAPk_CTL_FORMAT k) == 3) && (s.getF (SAPk_STAT_ISTATE k) == 2) && ((l.headD 0).toNat % 2 == 0) && (l.length == 24)) = true ∧
  (let s : State := ((fs run [(SAPk_CTL_EN 3, 1), (SAPk_CTL_FORMAT 3, 3), (SAPk_STAT_OSTATE 3, 2), (SAPk_STAT_ISTATE 3, 2)]).setSap 3 { out := { last := some 8110080, counting := true, ticks0 := 5242880 }, csBlock := some ([1, 0, 0, 7] ++ List.replicate 20 3) }); let k : Nat := 3; let l : List Byte := [1, 0, 0, 7] ++ List.replicate 20 3; (decide (k < 8)) && ((s.sap k).csBlock == some l) && (s.getF (SAPk_CTL_FORMAT k) == 3) && (s.getF (SAPk_STAT_ISTATE k) == 2) && ((l.headD 0).toNat % 2 == 1) && (crccRun (l.take 23) 0xFF != (l.getD 23 0).toNat)) = true := by
  decide +kernel

/-- A state and operands that meet the hypotheses of each clause of Ethernet. -/
theorem witness_Ethernet :
  (let s : State := (fs run [(NET_PORTm_CTL_EN 0, 1), (CLK_DOM_ETH, 1)]); let p : Nat := 0; let up : Bool := true; let lk : Bool := true; (decide (p < 2)) && (s.flag (NET_PORTm_CTL_EN p)) && (s.linkUp p != up) && (!up || s.flag CLK_DOM_ETH)) = true ∧
  (let s : State := (fs run [(NET_PORTm_CTL_EN 0, 1), (NET_PORTm_STAT_LINK 0, 1)]); let p : Nat := 0; let n : Nat := 9; let f : EthFrame := ⟨100, 0xFFFFFFFFFFFF, 0, 0, true, 3⟩; (decide (p < 2)) && (s.linkUp p) && (decide (f.len ≤ 1522)) && (f.vlan == s.getF (NET_PORTm_CTL_VLAN p)) && (!s.addressed p f || f.frag || decide (6 ≤ f.proto))) = true ∧
  (let s : State := (fs run [(NET_PORTm_CTL_EN 0, 1), (NET_PORTm_STAT_LINK 0, 1)]); let p : Nat := 0; let n : Nat := 9; let f : EthFrame := ⟨100, 0xFFFFFFFFFFFF, 0, 0, false, 1⟩; (decide (p < 2)) && (s.linkUp p) && (decide (f.len ≤ 1522)) && (f.vlan == s.getF (NET_PORTm_CTL_VLAN p)) && (s.addressed p f) && (!f.frag) && (f.proto == 1 || f.proto == 2) && ((s.egr p).queue.isEmpty) && (decide ((s.egr p).free ≤ n))) = true ∧
  (let s : State := (fs run [(NET_PORTm_CTL_EN 0, 1), (NET_PORTm_STAT_LINK 0, 1)]); let p : Nat := 0; let n : Nat := 9; let f : EthFrame := ⟨64, 0xFFFFFFFFFFFF, 0, 0, false, 0⟩; (decide (p < 2)) && (s.linkUp p) && (decide (f.len ≤ 1522)) && (f.vlan == s.getF (NET_PORTm_CTL_VLAN p)) && (s.addressed p f) && (!f.frag) && (f.proto == 0) && (f.ip == s.getF (NET_PORTm_IP_ADDR p)) && ((s.egr p).queue.isEmpty) && (decide ((s.egr p).free ≤ n))) = true ∧
  (let s : State := (fs run [(NET_PORTm_CTL_EN 0, 1), (NET_PORTm_STAT_LINK 0, 1)]); let p : Nat := 0; let n : Nat := 9; let f : EthFrame := ⟨64, 0xFFFFFFFFFFFF, 0, 0, false, 3⟩; (decide (p < 2)) && (s.linkUp p) && (decide (f.len ≤ 1522)) && (f.vlan == s.getF (NET_PORTm_CTL_VLAN p)) && (s.addressed p f) && (!f.frag) && (f.proto == 3)) = true ∧
  (let s : State := run; let m : Master := .pcie; let k : Nat := 2; let v : Word := 0x80010001; (decide (k < 256)) && (s.reaches m (NET_TXs_CTL k)) && (!s.flag (NET_TXs_CTL_EN k)) && (v.toNat.testBit 31) && (s.feat 4) && (regOk (NET_TXs_CTL k) v) && (decide (k < s.hdr.aestx)) && (decide (bitsOf v.toNat 7 0 < s.hdr.progs)) && (s.rateFits (bitsOf v.toNat 30 30) (NET_TXs_CTL k) (s.txRate v.toNat))) = true ∧
  (let s : State := (fs run [(NET_EGR_CFG_RES0, 0)]); let m : Master := .pcie; let k : Nat := 2; let v : Word := 0x80010001; (decide (k < 256)) && (s.reaches m (NET_TXs_CTL k)) && (!s.flag (NET_TXs_CTL_EN k)) && (v.toNat.testBit 31) && (s.feat 4) && (regOk (NET_TXs_CTL k) v) && (decide (k < s.hdr.aestx)) && (decide (bitsOf v.toNat 7 0 < s.hdr.progs)) && (!s.rateFits (bitsOf v.toNat 30 30) (NET_TXs_CTL k) (s.txRate v.toNat))) = true ∧
  (let s : State := ({ fs run [(NET_PORTm_CTL_EN 0, 1), (NET_PORTm_STAT_LINK 0, 1), (NET_TXs_CTL_EN 2, 1), (NET_TXs_CTL_PORT 2, 0), (CLK_MAP_GEN_VALID, 1), (CLK_STAT_STATE, 3)] with counting := true, net := { tx := [(2, { buf := (List.range 70).map (fun (j : Nat) => (⟨j * 81920, (j : Int), 5, 0⟩ : NetSamp)), seq := 9, rtp := some (0, 0) })] } }); let k : Nat := 2; let n : Nat := 9000000; let x : Nat := 0; (decide (k < 256)) && (s.flag (NET_TXs_CTL_EN k)) && (s.flag CLK_MAP_GEN_VALID) && (s.linkUp (s.getF (NET_TXs_CTL_PORT k))) && (!s.flag (NET_TXs_CTL_PTIME k)) && (decide (48 ≤ (s.tx k).buf.length)) && (!decide ((s.advance n).now < ((s.tx k).buf.getD 47 ⟨0, 0, 0, 0⟩).h)) && ((s.tx k).rtp == some (x, s.clk.epoch)) && (s.mediaTime (((s.tx k).buf.head?.map (·.h)).getD 0) % 4294967296 == (x : Int))) = true ∧
  (let s : State := ({ fs run [(NET_PORTm_CTL_EN 0, 1), (NET_PORTm_STAT_LINK 0, 1), (NET_TXs_CTL_EN 2, 1), (NET_TXs_CTL_PORT 2, 0), (CLK_MAP_GEN_VALID, 1), (CLK_STAT_STATE, 3), (CLK_MAP_GEN_VALID, 0)] with counting := true, net := { tx := [(2, { buf := (List.range 70).map (fun (j : Nat) => (⟨j * 81920, (j : Int), 5, 0⟩ : NetSamp)), seq := 9, rtp := some (0, 0) })] } }); let k : Nat := 2; let n : Nat := 9000000; (decide (k < 256)) && (s.flag (NET_TXs_CTL_EN k)) && (!s.flag CLK_MAP_GEN_VALID || !s.linkUp (s.getF (NET_TXs_CTL_PORT k))) && (!s.flag (NET_TXs_CTL_PTIME k)) && (decide (48 < (s.tx k).buf.length)) && (!decide ((s.advance n).now < ((s.tx k).buf.getD 47 ⟨0, 0, 0, 0⟩).h))) = true ∧
  (let s : State := ({ fs run [(NET_PORTm_CTL_EN 0, 1), (NET_PORTm_STAT_LINK 0, 1), (NET_RXr_CTL_EN 3, 1), (NET_RXr_CTL_PORT 3, 0), (NET_RXr_CTL_CHANS 3, 2), (NET_RXr_UDP_DPORT 3, 5004), (NET_RXr_STAT_STATE 3, 2)] with net := { rx := [(3, { ssrc := some 5 })] } }); let p : Nat := 0; let r : Nat := 3; let n : Nat := 9; let q : RtpPacket := ⟨0, 1, 5004, 2, 96, 77, 100, 0, List.replicate 48 [1, 2]⟩; (decide (p < 2)) && (decide (r < 16)) && (s.rxMatch p r q) && ((s.rx r).ssrc != some q.ssrc)) = true ∧
  (let s : State := ({ fs run [(NET_PORTm_CTL_EN 0, 1), (NET_PORTm_STAT_LINK 0, 1), (NET_RXr_CTL_EN 3, 1), (NET_RXr_CTL_PORT 3, 0), (NET_RXr_CTL_CHANS 3, 2), (NET_RXr_UDP_DPORT 3, 5004), (NET_RXr_STAT_STATE 3, 1)] with net := { rx := [(3, { ssrc := some 77, next := 100, good := 7 })] } }); let p : Nat := 0; let r : Nat := 3; let n : Nat := 9; let q : RtpPacket := ⟨0, 1, 5004, 2, 96, 77, 100, 0, List.replicate 48 [1, 2]⟩; (decide (p < 2)) && (decide (r < 16)) && (s.rxMatch p r q) && ((s.rx r).ssrc == some q.ssrc) && (s.getF (NET_RXr_STAT_STATE r) == 1) && ((s.rx r).next == q.seq) && (decide (q.seq < 65536)) && ((s.rx r).good == 7)) = true ∧
  (let s : State := ({ fs run [(NET_PORTm_CTL_EN 0, 1), (NET_PORTm_STAT_LINK 0, 1), (NET_RXr_CTL_EN 3, 1), (NET_RXr_CTL_PORT 3, 0), (NET_RXr_CTL_CHANS 3, 2), (NET_RXr_UDP_DPORT 3, 5004), (NET_RXr_STAT_STATE 3, 1)] with net := { rx := [(3, { ssrc := some 77 })] } }); let r : Nat := 3; let ts : Nat := 5242880; (decide (r < 16)) && (s.flag (NET_RXr_CTL_EN r)) && (ts % 5242880 == 0) && (!(s.rx r).tap.tapRun) && (s.getF (NET_RXr_STAT_STATE r) != 2)) = true ∧
  (let s : State := ((fs run [(NET_IQi_CTL_EN 1, 1), (NET_IQi_CTL_PORT 1, 0), (NET_PORTm_CTL_EN 0, 1), (NET_PORTm_STAT_LINK 0, 1)]).setIq 1 { buf := [⟨64, 0, [256, -256]⟩, ⟨128, 0, [1, 2]⟩, ⟨192, 0, [3, 4]⟩, ⟨256, 0, [5, 6]⟩, ⟨320, 0, [7, 8]⟩] }); let k : Nat := 1; let b : Block := ⟨64, 0, [256, -256]⟩; let n : Nat := 9; (decide (k < 64)) && (s.flag (NET_IQi_CTL_EN k)) && ((vitaTake (s.iq k).buf).head? == some b) && (s.linkUp (s.getF (NET_IQi_CTL_PORT k)))) = true ∧
  (let s : State := ((fs run [(NET_IQi_CTL_EN 1, 1), (NET_IQi_CTL_PORT 1, 0)]).setIq 1 { buf := [⟨64, 0, [256, -256]⟩, ⟨128, 0, [1, 2]⟩, ⟨192, 0, [3, 4]⟩, ⟨256, 0, [5, 6]⟩, ⟨320, 0, [7, 8]⟩] }); let k : Nat := 1; let n : Nat := 9; (decide (k < 64)) && (s.flag (NET_IQi_CTL_EN k)) && (!(vitaTake (s.iq k).buf).isEmpty) && (!s.linkUp (s.getF (NET_IQi_CTL_PORT k)))) = true ∧
  (let s : State := (fs run [(NET_IQi_CTL_EN 1, 1), (NET_IQi_CTL_PORT 1, 0), (NET_PORTm_CTL_EN 0, 1), (NET_PORTm_STAT_LINK 0, 1)]); let k : Nat := 1; let n : Nat := 9; (decide (k < 64)) && (s.flag (NET_IQi_CTL_EN k)) && (s.linkUp (s.getF (NET_IQi_CTL_PORT k))) && ((s.egr (s.getF (NET_IQi_CTL_PORT k))).queue.isEmpty) && ((s.advance n).ctxDue k n)) = true ∧
  (let s : State := ({ fs run [(NET_PORTm_CTL_EN 0, 1), (NET_PORTm_STAT_LINK 0, 1), (SEQk_STAT_STATE 2, 1), (NET_CAS_CTL_SIDE, 1)] with recs := [(0, 5, ⟨2, 5, 0, 3, [1, 2]⟩)] }); let ty : Nat := 2; let n : Nat := 99999999; let x : Nat := 5; let r : Rec := ⟨2, 5, 0, 3, [1, 2]⟩; (decide (1 ≤ ty)) && (decide (ty ≤ 4)) && (s.firmwareOn 2) && (s.flag NET_CAS_CTL_SIDE) && ((s.recs.filter fun q => q.1 == 0 && q.2.2.type == ty).map (fun q => q.2) == [(x, r)]) && (decide (x + 2 * Config.ticksPerMs ≤ n)) && (decide (r.bytes.length ≤ 1448)) && (!s.net.casDrop.contains ty) && ((s.egr (s.getF NET_CAS_CTL_PORT)).queue.isEmpty)) = true ∧
  (let s : State := ({ run with net := { egr := [(0, { queue := [⟨1, 100, 5, 0, 0⟩] })] } }); let p : Nat := 0; let c : Nat := 1; let n : Nat := 9999999999; let x : EgrPkt := ⟨1, 100, 5, 0, 0⟩; (decide (p < 2)) && (c == 1 || c == 2) && (!s.linkUp p) && ((s.egr p).queue == [x]) && (x.cls == c) && (decide (x.at_ + s.egrWait c ≤ n))) = true := by
  decide +kernel

/-- A state and operands that meet the hypotheses of each clause of HostAccess. -/
theorem witness_HostAccess :
  (let s : State := run; let a : Nat := 6; let be : Nat := 3; (s.hbLive) && (!hbAlias a) && (a % 2 == 0)) = true ∧
  (let s : State := ({ run with hb := { latch := some (12, 5) } }); let a : Nat := 7; let be : Nat := 3; let h : Nat := 5; (s.hbLive) && (!hbAlias a) && (a % 2 == 1) && (s.hb.latch == some (s.hbReg a, h))) = true ∧
  (let s : State := run; let a : Nat := 7; let be : Nat := 3; (s.hbLive) && (!hbAlias a) && (a % 2 == 1) && (s.hb.latch == none)) = true ∧
  (let s : State := run; let a : Nat := 6; let be : Nat := 3; let d : Nat := 0x1234; (s.hbLive) && (!hbAlias a) && (a % 2 == 0) && (be == 3) && (decide (d < 65536))) = true ∧
  (let s : State := ({ run with hb := { hold := some (12, some 5, some 6) } }); let a : Nat := 7; let be : Nat := 3; let d : Nat := 0x1234; let l : Nat := 5; let h : Nat := 6; (s.hbLive) && (!hbAlias a) && (a % 2 == 1) && (be == 3) && (decide (d < 65536)) && (decide (l < 256)) && (decide (h < 256)) && (s.hb.hold == some (s.hbReg a, some l, some h)) && (decide (s.hb.queue.length < 64))) = true ∧
  (let s : State := ({ run with hb := { queue := List.replicate 64 (12, 5) } }); let a : Nat := 7; let be : Nat := 3; let d : Nat := 0x1234; (s.hbLive) && (!hbAlias a) && (a % 2 == 1) && (be == 3) && (decide (64 ≤ s.hb.queue.length))) = true ∧
  (let s : State := run; let d : Nat := 5; (s.hbLive)) = true ∧
  (let s : State := run; (!s.pwr.inReset)) = true ∧
  (let s : State := ({ run with hb := { queue := [(NET_PORTm_IP 0, 0x0A000001)] } }); let i : Nat := 0; let v : Word := 0x0A000001; let q : List (Nat × Word) := []; (!s.boot.straps.hbMode) && (s.hb.queue == (NET_PORTm_IP i, v) :: q) && (decide (q.length < 64)) && (decide (i < 2)) && (s.reaches .hostBus (NET_PORTm_IP i)) && ((List.range 8).all fun j => !(s.core j).stepAsked)) = true ∧
  (let s : State := run; let m : Master := .core 4; let i : Nat := 1; let v : Word := 0x0A000001; (decide (i < 2)) && (s.reaches m (NET_PORTm_IP i)) && ((List.range 8).all fun j => !(s.core j).stepAsked)) = true ∧
  (let s : State := (fs run [(SYS_BOOT_STATE, 3)]); let m : Master := .pcie; let a : Nat := PTHn_CMD 3; let v : Word := 1; (a % 4 == 0) && (!s.pwr.inReset) && (hasReg a) && (!s.liveWrite m a) && (s.stage == 3) && (decide (a < 0x100000)) && ((List.range 8).all fun j => !(s.core j).stepAsked)) = true ∧
  (let s : State := run; let m : Master := .pcie; let a : Nat := 0x7F0; let v : Word := 1; (a % 4 == 0) && (!hasReg a) && ((List.range 8).all fun j => !(s.core j).stepAsked)) = true ∧
  (let s : State := (fs run [(⟨SYS_REFUSE, 15, 0⟩, 7), (⟨SYS_REFUSE, 31, 28⟩, 3)]); let m : Master := .pcie; (!s.pwr.inReset)) = true ∧
  (let s : State := (fs run [(SYS_BOOT_STATE, 3)]); let m : Master := .pcie; let a : Nat := PTHn_STAT 3; (!s.liveRead m a)) = true ∧
  (let s : State := ({ fs run [(SYS_RSTCAUSE_PIN, 1)] with pwr := { run.pwr with pcieAnswers := true } }); let o : Nat := SYS_RSTCAUSE; let d : List Word := []; (!s.pwr.inReset) && (s.pwr.pcieAnswers) && (decide (o < 0x100000)) && (o % 4 == 0)) = true ∧
  (let s : State := ({ run with pwr := { run.pwr with pcieAnswers := true } }); let w : Bool := false; let o : Nat := 6; let n : Nat := 4; let d : List Word := []; (!s.pwr.inReset) && (s.pwr.pcieAnswers) && (decide (o < 0x100000)) && (!((n == 4 && o % 4 == 0) || (n == 8 && o % 8 == 0)))) = true ∧
  (let s : State := (fs run [(SEQk_STAT_STATE 2, 1)]); let p : CasPacket := ⟨0, 7, 9, 0x4353, 1, 0x10, 24, 5, 24, []⟩; let n : Nat := 9; (!s.pwr.inReset) && (s.feat 2) && (s.firmwareOn 2) && (casHeader p) && (p.type == 0x10) && (!s.casAllowed p)) = true ∧
  (let s : State := (fs run [(NET_PORTm_CTL_EN 0, 1), (NET_PORTm_STAT_LINK 0, 1), (SEQk_STAT_STATE 2, 1), (NET_CAS_CTL_CTRL, 1), (NET_CAS_CTL_UDP, 9), (NET_CAS_ALLOW_ADDR 2, 7), (SYS_RSTCAUSE_PIN, 1)]); let p : CasPacket := ⟨0, 7, 9, 0x4353, 1, 0x10, 40, 5, 40, [⟨1, 44, SYS_RSTCAUSE, 0, 0⟩]⟩; let n : Nat := 9; let g : Nat := 44; let a : Nat := SYS_RSTCAUSE; (!s.pwr.inReset) && (s.feat 2) && (s.firmwareOn 2) && (casHeader p) && (p.type == 0x10) && (s.casAllowed p) && (p.reqs == [⟨1, g, a, 0, 0⟩]) && (a % 4 == 0) && (decide (a < 0x80000)) && ((findReg (blockRegs a) a).isSome) && ((s.egr p.port).queue.isEmpty)) = true := by
  decide +kernel

/-- A state and operands that meet the hypotheses of each clause of HostDma. -/
theorem witness_HostDma :
  (let s : State := { fs run [(PCI_STAT_UP, 1), (PCI_Qq_CTL_EN 3, 1), (PCI_Qq_CTL_KIND 3, 1), (PCI_Qq_CTL_SIZE 3, 12), (PCI_Qq_CTL_VEC 3, 5), (⟨PCI_Qq_BASE_LO 3, 31, 0⟩, 0x10000), (⟨PCI_Qq_WB_LO 3, 31, 0⟩, 0x9000), (PCI_Qq_DEV_PTR 3, 4090), (PCI_Qq_HOST_PTR 3, 4000)] with counting := true, recs := [(0, 5, ⟨1, 77, 0, 3, [9, 9, 9, 9, 0, 0, 0, 0, 2, 1, 0, 0]⟩), (4, 5, ⟨1, 77, 0, 3, [9, 9, 9, 9, 0, 0, 0, 0, 2, 1, 0, 0]⟩)] }; let q : Nat := 3; let n : Nat := 99; let k : Nat := 4; let x : Nat := 5; let r : Rec := ⟨1, 77, 0, 3, [9, 9, 9, 9, 0, 0, 0, 0, 2, 1, 0, 0]⟩; (decide (q < 64)) && (s.flag PCI_STAT_UP) && (s.flag (PCI_Qq_CTL_EN q)) && (s.getF (PCI_Qq_CTL_KIND q) == 1) && (s.waitsFor q == some (k, x, r)) && (s.getF (PCI_Qq_CTL_CLASS q) != 3) && (!s.outranked q) && (decide ((s.getF (PCI_Qq_DEV_PTR q) + 2 ^ 32 - s.getF (PCI_Qq_HOST_PTR q)) % 2 ^ 32 + (4 + r.bytes.length) ≤ 2 ^ s.getF (PCI_Qq_CTL_SIZE q)))) = true ∧
  (let s : State := { fs run [(PCI_STAT_UP, 1), (PCI_Qq_CTL_EN 3, 1), (PCI_Qq_CTL_KIND 3, 1), (PCI_Qq_CTL_SIZE 3, 12), (PCI_Qq_CTL_VEC 3, 5), (⟨PCI_Qq_BASE_LO 3, 31, 0⟩, 0x10000), (⟨PCI_Qq_WB_LO 3, 31, 0⟩, 0x9000), (PCI_Qq_DEV_PTR 3, 4090), (PCI_Qq_HOST_PTR 3, 4)] with counting := true, recs := [(0, 5, ⟨1, 77, 0, 3, [9, 9, 9, 9, 0, 0, 0, 0, 2, 1, 0, 0]⟩), (4, 5, ⟨1, 77, 0, 3, [9, 9, 9, 9, 0, 0, 0, 0, 2, 1, 0, 0]⟩)] }; let q : Nat := 3; let n : Nat := 99; let k : Nat := 4; let x : Nat := 5; let r : Rec := ⟨1, 77, 0, 3, [9, 9, 9, 9, 0, 0, 0, 0, 2, 1, 0, 0]⟩; (decide (q < 64)) && (s.flag PCI_STAT_UP) && (s.flag (PCI_Qq_CTL_EN q)) && (s.getF (PCI_Qq_CTL_KIND q) == 1) && (s.waitsFor q == some (k, x, r)) && (s.getF (PCI_Qq_CTL_CLASS q) != 3) && (!s.outranked q) && (decide (2 ^ s.getF (PCI_Qq_CTL_SIZE q) < (s.getF (PCI_Qq_DEV_PTR q) + 2 ^ 32 - s.getF (PCI_Qq_HOST_PTR q)) % 2 ^ 32 + (4 + r.bytes.length)))) = true ∧
  (let s : State := { fs run [(PCI_STAT_UP, 1), (PCI_Qq_CTL_EN 3, 1), (PCI_Qq_CTL_KIND 3, 1), (PCI_Qq_CTL_SIZE 3, 12), (PCI_Qq_CTL_VEC 3, 5), (⟨PCI_Qq_BASE_LO 3, 31, 0⟩, 0x10000), (⟨PCI_Qq_WB_LO 3, 31, 0⟩, 0x9000), (PCI_Qq_CTL_CLASS 3, 3), (PCI_Qq_CTL_EN 6, 1), (PCI_Qq_CTL_CLASS 6, 1)] with counting := true, recs := [(4, 5, ⟨1, 77, 0, 3, [9, 9, 9, 9, 0, 0, 0, 0, 2, 1, 0, 0]⟩), (7, 5, ⟨1, 77, 0, 3, [9, 9, 9, 9, 0, 0, 0, 0, 2, 1, 0, 0]⟩)] }; let q : Nat := 3; let n : Nat := 99; let k : Nat := 4; let x : Nat := 5; let r : Rec := ⟨1, 77, 0, 3, [9, 9, 9, 9, 0, 0, 0, 0, 2, 1, 0, 0]⟩; (decide (q < 64)) && (s.flag PCI_STAT_UP) && (s.flag (PCI_Qq_CTL_EN q)) && (s.getF (PCI_Qq_CTL_KIND q) == 1) && (s.waitsFor q == some (k, x, r)) && (s.getF (PCI_Qq_CTL_CLASS q) == 3) && (r.type != 7) && (({ s with recs := dropFirst (1 + q) s.recs } : State).otherWaits)) = true ∧
  (let s : State := { run with counting := true }; let q : Nat := 3; let n : Nat := 99; (!s.flag PCI_STAT_UP || !s.flag (PCI_Qq_CTL_EN q))) = true ∧
  (let s : State := { fs run [(PCI_STAT_UP, 1), (PCI_Qq_CTL_EN 3, 1), (PCI_Qq_CTL_KIND 3, 1), (PCI_Qq_CTL_SIZE 3, 12), (PCI_Qq_CTL_VEC 3, 5), (⟨PCI_Qq_BASE_LO 3, 31, 0⟩, 0x10000), (⟨PCI_Qq_WB_LO 3, 31, 0⟩, 0x9000), (PCI_Qq_CTL_CLASS 3, 1)] with counting := true, recs := [(0, 5, ⟨1, 77, 0, 3, [9, 9, 9, 9, 0, 0, 0, 0, 2, 1, 0, 0]⟩), (4, 5, ⟨1, 77, 0, 3, [9, 9, 9, 9, 0, 0, 0, 0, 2, 1, 0, 0]⟩)] }; let q : Nat := 3; let n : Nat := 999999999999; let k : Nat := 4; let x : Nat := 5; let r : Rec := ⟨1, 77, 0, 3, [9, 9, 9, 9, 0, 0, 0, 0, 2, 1, 0, 0]⟩; (decide (q < 64)) && (s.getF (PCI_Qq_CTL_CLASS q) == 1) && (s.waitsFor q == some (k, x, r)) && (decide (x + Config.ticksOfUs (s.getF PCI_WAIT_W1) ≤ (s.advance n).now))) = true ∧
  (let s : State := { fs run [(PCI_STAT_UP, 1), (PCI_Qq_CTL_EN 3, 1), (PCI_Qq_CTL_KIND 3, 1), (PCI_Qq_CTL_SIZE 3, 12), (PCI_Qq_CTL_VEC 3, 5), (⟨PCI_Qq_BASE_LO 3, 31, 0⟩, 0x10000), (⟨PCI_Qq_WB_LO 3, 31, 0⟩, 0x9000), (PCI_Qq_CTL_CLASS 3, 1), (PCI_WAIT_W1, 900)] with counting := true, recs := [(0, 5, ⟨1, 77, 0, 3, [9, 9, 9, 9, 0, 0, 0, 0, 2, 1, 0, 0]⟩), (4, 5, ⟨1, 77, 0, 3, [9, 9, 9, 9, 0, 0, 0, 0, 2, 1, 0, 0]⟩)] }; let q : Nat := 3; let n : Nat := 9; let k : Nat := 4; let x : Nat := 5; let r : Rec := ⟨1, 77, 0, 3, [9, 9, 9, 9, 0, 0, 0, 0, 2, 1, 0, 0]⟩; (s.getF (PCI_Qq_CTL_CLASS q) == 1) && (s.waitsFor q == some (k, x, r)) && (decide ((s.advance n).now < x + Config.ticksOfUs (s.getF PCI_WAIT_W1)))) = true ∧
  (let s : State := { fs run [(PCI_STAT_UP, 1), (PCI_Qq_CTL_EN 3, 1), (PCI_Qq_CTL_KIND 3, 2), (PCI_Qq_CTL_SIZE 3, 12), (PCI_Qq_CTL_VEC 3, 5), (⟨PCI_Qq_BASE_LO 3, 31, 0⟩, 0x10000), (⟨PCI_Qq_WB_LO 3, 31, 0⟩, 0x9000), (PCI_Qq_HOST_PTR 3, 2), (MRW_STAT_INIT_DONE, 1)] with counting := true, mrw := { run.mrw with act := [(0, 128), (128, 128), (256, 192), (448, 32), (480, 32)] }, mem := [(32212254720, 7)] }; let q : Nat := 3; let n : Nat := 99; let d : List Byte := [0, 80, 5, 0, 0, 0, 0, 0, 0, 0, 0, 128, 7, 0, 0, 0, 63, 0, 0, 0, 0, 0, 0, 0, 0, 0, 0, 0, 0, 0, 0, 0]; let host : List Byte := []; let codes : List Nat := [0]; (decide (q < 64)) && (s.flag PCI_STAT_UP) && (d.length == 32) && (s.flag (PCI_Qq_CTL_EN q)) && (s.getF (PCI_Qq_CTL_KIND q) == 2) && (s.getF (PCI_Qq_HOST_PTR q) != s.getF (PCI_Qq_DEV_PTR q)) && (!(leAt d 20 1).testBit 1) && (!descOk d)) = true ∧
  (let s : State := { fs run [(PCI_STAT_UP, 1), (PCI_Qq_CTL_EN 3, 1), (PCI_Qq_CTL_KIND 3, 2), (PCI_Qq_CTL_SIZE 3, 12), (PCI_Qq_CTL_VEC 3, 5), (⟨PCI_Qq_BASE_LO 3, 31, 0⟩, 0x10000), (⟨PCI_Qq_WB_LO 3, 31, 0⟩, 0x9000), (PCI_Qq_HOST_PTR 3, 2), (MRW_STAT_INIT_DONE, 1)] with counting := true, mrw := { run.mrw with act := [(0, 128), (128, 128), (256, 192), (448, 32), (480, 32)] }, mem := [(32212254720, 7)] }; let q : Nat := 3; let n : Nat := 99; let d : List Byte := [0, 80, 5, 0, 0, 0, 0, 0, 0, 0, 0, 128, 7, 0, 0, 0, 64, 0, 0, 0, 0, 0, 0, 0, 0, 0, 0, 0, 0, 0, 0, 0]; let host : List Byte := []; let codes : List Nat := [0]; (decide (q < 64)) && (s.flag PCI_STAT_UP) && (d.length == 32) && (s.flag (PCI_Qq_CTL_EN q)) && (s.getF (PCI_Qq_CTL_KIND q) == 2) && (s.getF (PCI_Qq_HOST_PTR q) != s.getF (PCI_Qq_DEV_PTR q)) && (!(leAt d 20 1).testBit 1) && (descOk d) && (!(leAt d 20 1).testBit 0) && (leAt d 16 4 == 64) && ((s.advance n).codeOf (stackOf (leAt d 8 8)) (s.getF (MRW_RQr_CFG_CLASS 265)) 64 (codes.headD 0) == 0) && ((s.advance n).permits ⟨265, 0, false, leAt d 8 8, 64, []⟩)) = true ∧
  (let s : State := { fs run [(PCI_STAT_UP, 1), (PCI_Qq_CTL_EN 3, 1), (PCI_Qq_CTL_KIND 3, 2), (PCI_Qq_CTL_SIZE 3, 12), (PCI_Qq_CTL_VEC 3, 5), (⟨PCI_Qq_BASE_LO 3, 31, 0⟩, 0x10000), (⟨PCI_Qq_WB_LO 3, 31, 0⟩, 0x9000), (PCI_Qq_HOST_PTR 3, 2), (MRW_STAT_INIT_DONE, 1)] with counting := true, mrw := { run.mrw with act := [(0, 128), (128, 128), (256, 192), (448, 32), (480, 32)] }, mem := [(32212254720, 7)] }; let q : Nat := 3; let n : Nat := 99; let d : List Byte := [0, 80, 5, 0, 0, 0, 0, 0, 0, 0, 0, 128, 7, 0, 0, 0, 64, 0, 0, 0, 1, 0, 0, 0, 0, 0, 0, 0, 0, 0, 0, 0]; let host : List Byte := (List.range 64).map fun j => BitVec.ofNat 8 j; let codes : List Nat := [0]; (decide (q < 64)) && (s.flag PCI_STAT_UP) && (d.length == 32) && (s.flag (PCI_Qq_CTL_EN q)) && (s.getF (PCI_Qq_CTL_KIND q) == 2) && (s.getF (PCI_Qq_HOST_PTR q) != s.getF (PCI_Qq_DEV_PTR q)) && (!(leAt d 20 1).testBit 1) && (descOk d) && ((leAt d 20 1).testBit 0) && (leAt d 16 4 == 64) && (host.length == 64) && ((s.advance n).codeOf (stackOf (leAt d 8 8)) (s.getF (MRW_RQr_CFG_CLASS 265)) 64 (codes.headD 0) == 0) && ((s.advance n).permits ⟨265, 0, true, leAt d 8 8, 64, []⟩)) = true ∧
  (let s : State := { fs run [(PCI_STAT_UP, 1), (MRW_STAT_INIT_DONE, 1), (PCI_BAR2_PAGE, 448)] with counting := true, mrw := { run.mrw with act := [(0, 128), (128, 128), (256, 192), (448, 32), (480, 32)] }, mem := [(32212254720, 7)] }; let o : Nat := 0x80000000; let c : Nat := 0; let n : Nat := 99; let a : Nat := 32212254720; let l : List (Option Byte) := [none, none]; (!s.pwr.inReset) && (s.flag PCI_STAT_UP) && ((s.advance n).bar2Addr o == some a) && (decide (o % 64 + l.length ≤ 64)) && (!l.isEmpty) && ((s.advance n).bar2Code false a l.length c == 0)) = true ∧
  (let s : State := { fs run [(PCI_STAT_UP, 1), (MRW_STAT_INIT_DONE, 1), (PCI_BAR2_PAGE, 448)] with counting := true, mrw := { run.mrw with act := [(0, 128), (128, 128), (256, 192), (448, 32), (480, 32)] }, mem := [(32212254720, 7)] }; let o : Nat := 0x80000000; let c : Nat := 0; let n : Nat := 99; let a : Nat := 32212254720; let l : List (Option Byte) := [none, some 9]; (!s.pwr.inReset) && (s.flag PCI_STAT_UP) && ((s.advance n).bar2Addr o == some a) && (decide (o % 64 + l.length ≤ 64)) && (!l.isEmpty) && ((s.advance n).bar2Code true a l.length c == 0)) = true ∧
  (let s : State := { fs run [(PCI_STAT_UP, 1), (MRW_STAT_INIT_DONE, 1), (PCI_BAR2_PAGE, 448)] with counting := true, mrw := { run.mrw with act := [(0, 128), (128, 128), (256, 192), (448, 32), (480, 32)] }, mem := [(32212254720, 7)] }; let w : Bool := true; let o : Nat := 0x80000000; let c : Nat := 2; let n : Nat := 99; let a : Nat := 32212254720; let l : List (Option Byte) := [none, some 9]; (!s.pwr.inReset) && (s.flag PCI_STAT_UP) && ((s.advance n).bar2Addr o == some a) && (decide (o % 64 + l.length ≤ 64)) && (!l.isEmpty) && ((s.advance n).bar2Code w a l.length c == 2)) = true ∧
  (let s : State := { { fs run [(PCI_STAT_UP, 1), (MRW_STAT_INIT_DONE, 1), (PCI_BAR2_PAGE, 448)] with counting := true, mrw := { run.mrw with act := [(0, 128), (128, 128), (256, 192), (448, 32), (480, 32)] }, mem := [(32212254720, 7)] } with pci := { lines := [⟨32212254720, false, [none, none], 5, 5⟩] } }; let c : Nat := 2; let n : Nat := 99999999999; let l : Bar2Line := ⟨32212254720, false, [none, none], 5, 5⟩; let rest : List Bar2Line := []; (s.pci.lines == l :: rest) && (decide (l.again ≤ (s.advance n).now)) && ((s.advance n).bar2Code l.write l.addr l.data.length c == 2) && (decide (l.first + 20 * Config.ticksPerMs ≤ (s.advance n).now))) = true ∧
  (let s : State := { { fs run [(PCI_STAT_UP, 1), (MRW_STAT_INIT_DONE, 1), (PCI_BAR2_PAGE, 448)] with counting := true, mrw := { run.mrw with act := [(0, 128), (128, 128), (256, 192), (448, 32), (480, 32)] }, mem := [(32212254720, 7)] } with pci := { lines := [⟨32212254720, false, [none, none], 5, 5⟩] } }; let c : Nat := 0; let n : Nat := 99999999999; let l : Bar2Line := ⟨32212254720, false, [none, none], 5, 5⟩; let rest : List Bar2Line := []; (s.pci.lines == l :: rest) && (decide (l.again ≤ (s.advance n).now)) && (!l.write) && ((s.advance n).bar2Code l.write l.addr l.data.length c == 0)) = true ∧
  (let s : State := ({ fs run [(PCI_STAT_UP, 1), (PCI_Qq_CTL_EN 3, 1), (PCI_Qq_CTL_KIND 3, 1), (PCI_Qq_CTL_SIZE 3, 12), (PCI_Qq_CTL_VEC 3, 5), (⟨PCI_Qq_BASE_LO 3, 31, 0⟩, 0x10000), (⟨PCI_Qq_WB_LO 3, 31, 0⟩, 0x9000), (PCI_Qq_COAL_THRESH 3, 1)] with counting := true, pci := { queues := [(3, { since := 64 })] } }).wr (PCI_MSIX 5 2) 77; let q : Nat := 3; let n : Nat := 99; (decide (q < 64)) && (s.flag PCI_STAT_UP) && (s.flag (PCI_Qq_CTL_EN q)) && (s.getF (PCI_Qq_CTL_KIND q) == 1) && ((s.advance n).signalDue q (s.advance n).now) && (s.msiQueue.isEmpty) && (!(s.rd (PCI_MSIX (s.getF (PCI_Qq_CTL_VEC q)) 3)).toNat.testBit 0)) = true ∧
  (let s : State := ({ fs run [(PCI_STAT_UP, 1), (PCI_Qq_CTL_EN 3, 1), (PCI_Qq_CTL_KIND 3, 1), (PCI_Qq_CTL_SIZE 3, 12), (PCI_Qq_CTL_VEC 3, 5), (⟨PCI_Qq_BASE_LO 3, 31, 0⟩, 0x10000), (⟨PCI_Qq_WB_LO 3, 31, 0⟩, 0x9000), (PCI_Qq_COAL_THRESH 3, 1)] with counting := true, pci := { queues := [(3, { since := 64 })] } }).wr (PCI_MSIX 5 3) 1; let q : Nat := 3; let n : Nat := 99; (decide (q < 64)) && (s.flag PCI_STAT_UP) && (s.flag (PCI_Qq_CTL_EN q)) && (s.getF (PCI_Qq_CTL_KIND q) == 1) && ((s.advance n).signalDue q (s.advance n).now) && (s.msiQueue.isEmpty) && ((s.rd (PCI_MSIX (s.getF (PCI_Qq_CTL_VEC q)) 3)).toNat.testBit 0)) = true ∧
  (let s : State := { fs run [(PCI_STAT_UP, 1)] with msiQueue := [5] }; let q : Nat := 3; let n : Nat := 99; let v : Nat := 5; (s.flag PCI_STAT_UP) && (!s.flag (PCI_Qq_CTL_EN q)) && (s.msiQueue == [v]) && (!(s.rd (PCI_MSIX v 3)).toNat.testBit 0)) = true := by
  decide +kernel

/-- A state and operands that meet the hypotheses of each clause of Kt440. -/
theorem witness_Kt440 :
  (let s : State := { ((fs run [(CMP_STAT_READY, 1)]).wr (FEAT_ACTIVE 0) 0x20000) with boot := { run.boot with straps := { run.boot.straps with hbMode := true } } }; let v : Nat := 0x123; (s.ktBus)) = true ∧
  (let s : State := { ((fs run [(CMP_STAT_READY, 1)]).wr (FEAT_ACTIVE 0) 0x20000) with boot := { run.boot with straps := { run.boot.straps with hbMode := true } }, kt := { index := 9 } }; (s.ktBus)) = true ∧
  (let s : State := { ((fs run [(CMP_STAT_READY, 1), (CMP_STAT_BUSY, 5)]).wr (FEAT_ACTIVE 0) 0x20000) with boot := { run.boot with straps := { run.boot.straps with hbMode := true } } }; (s.ktBus)) = true ∧
  (let s : State := { (((fs run [(CMP_STAT_READY, 1)]).wr (FEAT_ACTIVE 0) 0x20000).ktSet 2 0x21) with boot := { run.boot with straps := { run.boot.straps with hbMode := true } }, kt := { index := 2 } }; (s.ktBus) && (s.ktReady) && (s.kt.index == 2)) = true ∧
  (let s : State := { (((fs run [(CMP_STAT_READY, 1)]).wr (FEAT_ACTIVE 0) 0x20000).ktSet 6 0x10) with boot := { run.boot with straps := { run.boot.straps with hbMode := true } }, kt := { index := 12, caps := [(1, { rp := 49151, buf := [(49151, 7)] })] } }; let k : Nat := 1; (s.ktBus) && (s.ktReady) && (s.kt.index == 0x0C) && (k == bitsOf (s.ktGet 6) 4 4)) = true ∧
  (let s : State := { ((fs run [(CMP_STAT_READY, 1)]).wr (FEAT_ACTIVE 0) 0x20000) with boot := { run.boot with straps := { run.boot.straps with hbMode := true } }, kt := { index := 0x50, tuners := [(1, { fifo := [[5, 6], [7]] })] } }; let k : Nat := 1; let b : Nat := 5; let r : List Nat := [6]; let rest : List (List Nat) := [[7]]; (s.ktBus) && (s.ktReady) && (decide (k < 4)) && (s.kt.index == ktIdx k 0x10) && ((s.tuner k).fifo == (b :: r) :: rest) && (!r.isEmpty)) = true ∧
  (let s : State := { ((fs run [(CMP_STAT_READY, 1)]).wr (FEAT_ACTIVE 0) 0x20000) with boot := { run.boot with straps := { run.boot.straps with hbMode := true } }, kt := { index := 0x23 } }; let auto : Bool := true; let v : Nat := 0x12; (s.ktBus) && (s.ktReady) && (decide (s.hb.queue.length < 64))) = true ∧
  (let s : State := { ((((fs run [(CMP_STAT_READY, 1)]).wr (FEAT_ACTIVE 0) 0x20000).ktSet 0x42 0x2E).ktSet 0x43 0x22) with boot := { run.boot with straps := { run.boot.straps with hbMode := true } }, kt := { index := 0x40 } }; let auto : Bool := true; let v : Nat := 1; let k : Nat := 1; (s.ktBus) && (s.ktReady) && (decide (s.hb.queue.length < 64)) && (decide (k < 4)) && (s.kt.index == ktIdx k 0) && (v % 256 != 4) && ((s.ktSeen k).ktAccepts k (v % 256))) = true ∧
  (let s : State := { run with boot := { run.boot with straps := { run.boot.straps with hbMode := true } } }; let auto : Bool := false; let v : Nat := 1; (s.ktBus) && (!s.ktReady)) = true ∧
  (let s : State := { { ((fs run [(CMP_STAT_READY, 1)]).wr (FEAT_ACTIVE 0) 0x20000) with boot := { run.boot with straps := { run.boot.straps with hbMode := true } } } with hb := { queue := [(CMP_KT 0x42, 0x7E)] } }; let k : Nat := 1; let v : Word := 0x7E; let q : List (Nat × Word) := []; (s.boot.straps.hbMode) && (s.ktRuns) && (decide (k < 4)) && (s.hb.queue == (CMP_KT (ktIdx k 2), v) :: q)) = true ∧
  (let s : State := { (((fs run [(CMP_STAT_READY, 1)]).wr (FEAT_ACTIVE 0) 0x20000).ktSet 2 0x63) with boot := { run.boot with straps := { run.boot.straps with hbMode := true } } }; let v : Nat := 0x21; (s.ktBus) && (s.ktReady)) = true ∧
  (let s : State := { ((((fs run [(CMP_STAT_READY, 1)]).wr (FEAT_ACTIVE 0) 0x20000).ktSet 0x42 0x2E).ktSet 0x43 0x22) with boot := { run.boot with straps := { run.boot.straps with hbMode := true } } }; let tn : Nat := 1; (decide (tn < 4)) && (s.ktRuns) && (s.ktAccepts tn 1)) = true ∧
  (let s : State := { ((((fs run [(CMP_STAT_READY, 1)]).wr (FEAT_ACTIVE 0) 0x20000).ktSet 0x42 0x2E).ktSet 0x43 0x22) with boot := { run.boot with straps := { run.boot.straps with hbMode := true } } }; let tn : Nat := 1; (decide (tn < 4)) && (s.ktRuns) && (s.ktAccepts tn 6)) = true ∧
  (let s : State := { ((((fs run [(CMP_STAT_READY, 1)]).wr (FEAT_ACTIVE 0) 0x20000).ktSet 0x42 1).ktSet 0x43 0) with boot := { run.boot with straps := { run.boot.straps with hbMode := true } } }; let tn : Nat := 1; (decide (tn < 4)) && (s.ktRuns) && (!s.ktAccepts tn 1)) = true ∧
  (let s : State := { ((fs run [(CMP_STAT_READY, 1)]).wr (FEAT_ACTIVE 0) 0x20000) with boot := { run.boot with straps := { run.boot.straps with hbMode := true } }, kt := { tuners := [(1, { freq := 10000 })] } }; let tn : Nat := 1; let f : Nat := 10010; (decide (tn < 4)) && (s.ktRuns) && (s.seekOk tn) && (rasterNext ((s.ktGet (ktIdx tn 1)).testBit 0) (bitsOf (s.ktGet (ktIdx tn 5)) 5 4) true (s.tuner tn).freq == some f)) = true ∧
  (let s : State := { ((fs run [(CMP_STAT_READY, 1)]).wr (FEAT_ACTIVE 0) 0x20000) with boot := { run.boot with straps := { run.boot.straps with hbMode := true } }, kt := { tuners := [(1, { freq := 10005 })] } }; let tn : Nat := 1; let f : Nat := 10000; (decide (tn < 4)) && (s.ktRuns) && (s.seekOk tn) && (rasterNext ((s.ktGet (ktIdx tn 1)).testBit 0) (bitsOf (s.ktGet (ktIdx tn 5)) 5 4) false (s.tuner tn).freq == some f)) = true ∧
  (let s : State := { ((fs run [(CMP_STAT_READY, 1)]).wr (FEAT_ACTIVE 0) 0x20000) with boot := { run.boot with straps := { run.boot.straps with hbMode := true } }, kt := { tuners := [(1, { cmd := .seekUp })] } }; let tn : Nat := 1; (decide (tn < 4)) && (s.ktRuns) && ((s.tuner tn).cmd == .seekUp || (s.tuner tn).cmd == .seekDown)) = true ∧
  (let s : State := { ((fs run [(CMP_STAT_READY, 1)]).wr (FEAT_ACTIVE 0) 0x20000) with boot := { run.boot with straps := { run.boot.straps with hbMode := true } }, kt := { tuners := [(1, { powered := true })] } }; let tn : Nat := 1; (decide (tn < 4)) && (s.ktRuns)) = true ∧
  (let s : State := { { ((fs run [(CMP_STAT_READY, 1), (PTHn_STAT_STATE 1, 2), (DEMn_STAT_QVALID 1, 1), (DEMn_LVL_CNR 1, 500)]).wr (FEAT_ACTIVE 0) 0x20000) with boot := { run.boot with straps := { run.boot.straps with hbMode := true } }, kt := { tuners := [(1, { cmd := .seekUp, accel := true, steps := 3, freq := 9990, seekFrom := 9500, meas := some ⟨0, 500, 0, 0, 0⟩ })] } } with dems := [] }; let tn : Nat := 1; let n : Nat := 999; (decide (tn < 4)) && (s.ktRuns) && ((s.tuner tn).cmd == .seekUp || (s.tuner tn).cmd == .seekDown) && (ktTimeOk (s.tuner tn) n) && ((s.tuner tn).steps != 0) && (s.ktSettled tn) && (!(s.tuner tn).cancel) && ((s.tuner tn).freq != (s.tuner tn).seekFrom) && (s.ktFound tn)) = true ∧
  (let s : State := { { ((fs run [(CMP_STAT_READY, 1), (PTHn_STAT_STATE 1, 2), (DEMn_STAT_QVALID 1, 1)]).wr (FEAT_ACTIVE 0) 0x20000) with boot := { run.boot with straps := { run.boot.straps with hbMode := true } }, kt := { tuners := [(1, { cmd := .seekUp, accel := true, steps := 3, freq := 9990, seekFrom := 9990, meas := some ⟨0, 0, 0, 0, 0⟩ })] } } with dems := [] }; let tn : Nat := 1; let n : Nat := 999; (decide (tn < 4)) && (s.ktRuns) && ((s.tuner tn).cmd == .seekUp || (s.tuner tn).cmd == .seekDown) && (ktTimeOk (s.tuner tn) n) && ((s.tuner tn).steps != 0) && (s.ktSettled tn) && ((s.tuner tn).cancel || (s.tuner tn).freq == (s.tuner tn).seekFrom)) = true ∧
  (let s : State := { { ((fs run [(CMP_STAT_READY, 1), (PTHn_STAT_STATE 1, 2), (DEMn_STAT_QVALID 1, 1), (CMP_STAT_BUSY, 2)]).wr (FEAT_ACTIVE 0) 0x20000) with boot := { run.boot with straps := { run.boot.straps with hbMode := true } }, kt := { tuners := [(1, { cmd := .tune, meas := some ⟨-450, 0, 0, 0, 0⟩ })] } } with dems := [] }; let tn : Nat := 1; let n : Nat := 99999999999; (decide (tn < 4)) && (s.ktRuns) && ((s.tuner tn).cmd == .tune) && (ktTimeOk (s.tuner tn) n) && (s.ktSettled tn)) = true ∧
  (let s : State := { ((fs run [(CMP_STAT_READY, 1)]).wr (FEAT_ACTIVE 0) 0x20000) with boot := { run.boot with straps := { run.boot.straps with hbMode := true } }, kt := { tuners := [(1, { cmd := .tune, t0 := 99 })] } }; let tn : Nat := 1; let n : Nat := 99; (!ktTimeOk (s.tuner tn) n)) = true ∧
  (let s : State := { ((fs run [(CMP_STAT_READY, 1)]).wr (FEAT_ACTIVE 0) 0x20000) with boot := { run.boot with straps := { run.boot.straps with hbMode := true } }, kt := { tuners := [(1, { fifo := [[5, 6], [7]] })] } }; let tn : Nat := 1; (decide (tn < 4)) && (s.ktRuns) && (bitsOf (s.ktGet (ktIdx tn 0x11)) 2 1 != 3)) = true ∧
  (let s : State := { ((fs run [(CMP_STAT_READY, 1)]).wr (FEAT_ACTIVE 0) 0x20000) with boot := { run.boot with straps := { run.boot.straps with hbMode := true } } }; let v : Nat := 0x47; (s.ktRuns) && (decide (bitsOf (v % 256) 7 6 < 2))) = true ∧
  (let s : State := { ((fs run [(CMP_STAT_READY, 1)]).wr (FEAT_ACTIVE 0) 0x20000) with boot := { run.boot with straps := { run.boot.straps with hbMode := true } } }; let v : Nat := 0x83; (s.ktRuns) && (decide (2 ≤ bitsOf (v % 256) 7 6))) = true ∧
  (let s : State := { ((fs run [(CMP_STAT_READY, 1)]).wr (FEAT_ACTIVE 0) 0x20000) with boot := { run.boot with straps := { run.boot.straps with hbMode := true } } }; let v : Nat := 0x31; (s.ktRuns)) = true ∧
  (let s : State := { ((fs run [(CMP_STAT_READY, 1)]).wr (FEAT_ACTIVE 0) 0x20000) with boot := { run.boot with straps := { run.boot.straps with hbMode := true } }, kt := { caps := [(1, { rp := 9, wp := 7 })] } }; let v : Nat := 0x0A; let k : Nat := 1; (s.ktRuns) && (decide (k < 2)) && ((v % 32).testBit k) && (!(s.ktGet 6).testBit k)) = true := by
  decide +kernel

/-- A state and operands that meet the hypotheses of each clause of EventsAndObservation. -/
theorem witness_EventsAndObservation :
  (let s : State := (fs run [(⟨EVT_Gg_STAT 4, 3, 3⟩, 1)]); let e : Nat := evPcieLink; let i : Nat := 7; (!s.pwr.inReset) && (decide (3 ≤ s.stage)) && (isSource e) && ((summaryOf e).isNone)) = true ∧
  (let s : State := run; let e : Nat := evRdsSync; let i : Nat := 77; let j : Nat := 6; (!s.pwr.inReset) && (decide (3 ≤ s.stage)) && (isSource e) && (summaryOf e == some j) && (decide (i < s.summaryCap j))) = true ∧
  (let s : State := {}; let e : Nat := evPcieLink; let i : Nat := 7; (decide (s.stage < 3))) = true ∧
  (let s : State := (fs run [(⟨EVT_Gg_MASK_REC 4, 3, 3⟩, 1), (NET_CAS_CTL_SIDE, 1)]); let e : Nat := evPcieLink; let i : Nat := 7; (!s.pwr.inReset) && (decide (3 ≤ s.stage)) && (isSource e) && ((s.rd (EVT_Gg_MASK_REC (e / 32))).toNat.testBit (e % 32)) && ((summaryOf e).isNone) && (s.flag NET_CAS_CTL_SIDE) && ((s.getF NET_CAS_CTL_TYPES).testBit 6) && (!s.flag OBS_CTL_TRACE_EN)) = true ∧
  (let s : State := { (fs run [(EVT_Gg_COAL_COUNT 2, 9), (EVT_Gg_COAL_HOLD_US 2, 1)]) with counting := true, coal := [(5, ⟨true, 1, 9, false⟩)] }; let g : Nat := 2; let n : Nat := 9999999999; (decide (g < 8)) && ((s.coalOf g 1).pending) && (!(s.coalOf g 1).released) && (decide (s.getF (EVT_Gg_COAL_COUNT g) ≤ (s.coalOf g 1).count) || decide ((s.coalOf g 1).since + Config.ticksOfUs (s.getF (EVT_Gg_COAL_HOLD_US g)) ≤ (s.advance n).now))) = true ∧
  (let s : State := { (fs run [(EVT_CTL_IRQ_EN, 1)]) with coal := [(4, ⟨true, 1, 9, false⟩)] }; let g : Nat := 2; let n : Nat := 9; (decide (g < 8)) && ((s.coalOf g 0).pending) && (decide (s.getF (EVT_Gg_COAL_COUNT g) ≤ (s.coalOf g 0).count)) && (s.flag EVT_CTL_IRQ_EN) && (!s.ktOwned)) = true ∧
  (let s : State := { (fs run [(EVT_Gg_COAL_COUNT 2, 9), (EVT_Gg_COAL_HOLD_US 2, 1)]) with counting := true, coal := [(5, ⟨true, 1, 9, false⟩)] }; let g : Nat := 2; let r : Nat := 1; let n : Nat := 9; (decide (g < 8)) && (decide (r < 2)) && ((s.coalOf g r).pending) && (decide ((s.coalOf g r).count < s.getF (EVT_Gg_COAL_COUNT g))) && (decide ((s.advance n).now < (s.coalOf g r).since + Config.ticksOfUs (s.getF (EVT_Gg_COAL_HOLD_US g))))) = true ∧
  (let s : State := (run.wr (EVT_Gg_STAT 3) 0xFF); let m : Master := .pcie; let g : Nat := 3; let v : Word := 0x3C; (decide (g < 8)) && (g != 1) && (g != 2) && (s.reaches m (EVT_Gg_STAT g))) = true ∧
  (let s : State := (run.wr (EVT_Gg_STAT 1) 0xFFFFFF); let m : Master := .pcie; let v : Word := 0xFC3C0; (s.reaches m (EVT_Gg_STAT 1))) = true ∧
  (let s : State := ((run.wr (EVT_SUM 6 2) 0xFF).wr (EVT_Gg_STAT 1) 0x40); let m : Master := .pcie; let j : Nat := 6; let k : Nat := 2; let v : Word := 0xFF; (decide (j < 16)) && (decide (k < 16)) && (s.reaches m (EVT_SUM j k))) = true ∧
  (let s : State := { (fs run [(REL_JRN_LOST, 65530)]) with counting := true }; let x : Nat := 9; let n : Nat := 245760; (s.feat 18) && (n % Config.releasePeriod == 0)) = true ∧
  (let s : State := { (fs run [(SYS_THERM_TMAX, 380)]) with counting := true }; let n : Nat := 99; (!s.pwr.inReset)) = true ∧
  (let s : State := { run with obs := { cnt := [(3, 9000000000)] } }; let m : Master := .casrum; (s.reaches m OBS_SNAP)) = true ∧
  (let s : State := { (fs run [(⟨OBS_CNT_LO 3, 31, 0⟩, 5)]) with obs := { cnt := [(3, 9000000000)] } }; let m : Master := .casrum; (s.reaches m OBS_SNAP)) = true ∧
  (let s : State := { (fs run [(FOLp_STAT_STATE 4, 3), (FOLp_DELAY_SMP 4, 100)]) with fol := { run.fol with progs := [(4, { formed := [(8192000, some ⟨8192000, 0, [1, 2]⟩)] })] } }; let p : Nat := 4; let n : Nat := 16384000; let ts : Nat := 8192000; let au : Option (List (Int × Int)) := none; let b : Option Block := some ⟨8192000, 0, [1, 2]⟩; let rest : List (Nat × Option Block) := []; (s.stage == 4) && (decide (p < 256)) && ((s.prog p).formed == (ts, b) :: rest) && (ts + s.pgDelay p == n) && (decide (s.now ≤ n)) && (rest.all fun q => decide (n ≤ q.1 + s.pgDelay p))) = true ∧
  (let s : State := { (fs run [(FOLp_STAT_STATE 4, 3), (FOLp_DELAY_SMP 4, 100)]) with fol := { run.fol with progs := [(4, { nextTs := 10485760 })] } }; let p : Nat := 4; let n : Nat := 18677760; let au : Option (List (Int × Int)) := none; (s.stage == 4) && (decide (p < 256)) && (decide (2 ≤ s.folState p)) && ((s.prog p).stopping != some 0) && ((s.prog p).formed.isEmpty) && ((s.prog p).nextTs + s.pgDelay p == n) && (decide (s.now ≤ n))) = true ∧
  (let s : State := ((fs run [(PTHn_STAT_STATE 7, 2), (PCI_Qq_CTL_EN 3, 1), (PCI_Qq_CTL_KIND 3, 1), (PCI_Qq_SRC_SEL 3, 9), (PCI_Qq_SRC_FIRST 3, 5), (PCI_Qq_SRC_COUNT 3, 4)]).setPath 7 { formed := [(9, some ⟨8192000, 0, [1, 2, 3]⟩)] }); let i : Nat := 7; let n : Nat := 9; let q : Nat := 3; let au : Option (List (Int × Int)) := none; let b : Block := ⟨8192000, 0, [1, 2, 3]⟩; let rest : List (Nat × Option Block) := []; (s.stage == 4) && (decide (i < 512)) && ((s.path i).formed == (n, some b) :: rest) && (decide (s.now ≤ n)) && (rest.all fun x => decide (n ≤ x.1)) && (decide (q < 64)) && (s.flag (PCI_Qq_CTL_EN q)) && (s.getF (PCI_Qq_CTL_KIND q) == 1) && (s.getF (PCI_Qq_SRC_SEL q) == 9) && (decide (s.getF (PCI_Qq_SRC_FIRST q) ≤ i)) && (decide (i < s.getF (PCI_Qq_SRC_FIRST q) + s.getF (PCI_Qq_SRC_COUNT q)))) = true ∧
  (let s : State := { (fs run [(DECd_STAT_STATE 7, 2), (DECd_CTL_SLOT 7, 5), (DECd_FMT_CODEC_ACT 7, 1)]) with decs := [(7, { warmLeft := 1152, fails := [(12000000, 13000000)] })], slots := [(5, { frames := [(5000000, 8)] })] }; let d : Nat := 7; let n : Nat := 1578106880; let x : List (Int × Int) := [(1, 2), (3, 4)]; (s.stage == 4) && (decide (d < 128)) && (s.decState d == 2 || s.decState d == 3) && ((s.decoder d).change != .stop) && (decide ((s.decoder d).runAt + s.decLat d ≤ n)) && ((n - s.decLat d) % 5242880 == 0) && (!(s.released 3 d).at_.any (fun u => decide (n ≤ u))) && (decide (s.now ≤ n)) && ((s.frameBefore (s.getF (DECd_CTL_SLOT d)) (n - s.decLat d)).isSome) && (!s.abandoned 3 d n)) = true ∧
  (let s : State := { (fs run [(DECd_STAT_STATE 7, 2), (DECd_FMT_CODEC_ACT 7, 1)]) with decs := [(7, { warmLeft := 1152 })] }; let d : Nat := 7; let n : Nat := 1578106880; (s.stage == 4) && (decide (d < 128)) && (s.decState d == 2 || s.decState d == 3) && ((s.decoder d).change != .stop) && (decide ((s.decoder d).runAt + s.decLat d ≤ n)) && ((n - s.decLat d) % 5242880 == 0) && (!(s.released 3 d).at_.any (fun u => decide (n ≤ u))) && (decide (s.now ≤ n))) = true ∧
  (let s : State := { (fs run [(DECd_STAT_STATE 7, 1), (DECd_STAT_WAIT 7, 2), (DECd_CTL_OWNER 7, 1)]) with decs := [(7, { change := .stop, due := 5242880 })] }; let d : Nat := 7; let n : Nat := 5242880; let au : Option (List (Int × Int)) := none; (s.stage == 4) && (decide (d < 128)) && (s.decState d != 0) && ((s.decoder d).change == .stop) && (decide ((s.decoder d).due ≤ n))) = true := by
  decide +kernel

/-- A state and operands that meet the hypotheses of each clause of MarrowClasses. -/
theorem witness_MarrowClasses :
  (let s : State := { (fs (fs run [(MRW_STAT_INIT_DONE, 1), (MRW_CLS_RES0, 50)]) [(FAB_LPp_MAP_CONF 3, 1), (FAB_LPp_MAP_STATE 3, 0)]) with mrw := { ((fs (fs run [(MRW_STAT_INIT_DONE, 1), (MRW_CLS_RES0, 50)]) [(FAB_LPp_MAP_CONF 3, 1), (FAB_LPp_MAP_STATE 3, 0)])).mrw with windows := [(0, ⟨0, 265625, 0⟩)] } }; let q : MReq := ⟨3, 0, false, 128, 64, []⟩; let n : Nat := 0; (decide (q.who < 270)) && (!s.pwr.inReset) && (!s.podDead q.who) && (s.flag MRW_STAT_INIT_DONE) && (mreqOk q) && (s.permits q) && (s.classOf q == 0) && (decide (s.getF MRW_CLS_RES0 * windowBytes < ((s.window (stackOf q.addr)).used0 + q.len) * 100)) && (!s.owed q.who s.mrw.nextId)) = true ∧
  (let s : State := { (fs (fs run [(MRW_STAT_INIT_DONE, 1), (MRW_CLS_RES0, 50)]) [(FAB_LPp_MAP_CONF 3, 1), (FAB_LPp_MAP_STATE 3, 0)]) with mrw := { ((fs run [(MRW_STAT_INIT_DONE, 1), (MRW_CLS_RES0, 50)])).mrw with out := List.replicate 384 { id := 4, req := ⟨3, 0, false, 128, 64, []⟩, cls := 0, arrived := 0 } } }; let q : MReq := ⟨3, 0, false, 128, 64, []⟩; let n : Nat := 0; (decide (q.who < 270)) && (!s.pwr.inReset) && (!s.podDead q.who) && (s.flag MRW_STAT_INIT_DONE) && (mreqOk q) && (s.permits q) && (s.classOf q == 0) && (decide (((s.window (stackOf q.addr)).used0 + q.len) * 100 ≤ s.getF MRW_CLS_RES0 * windowBytes)) && (!s.tagFree 0) && (!s.owed q.who s.mrw.nextId)) = true ∧
  (let s : State := { (fs (fs run [(MRW_STAT_INIT_DONE, 1), (MRW_CLS_RES0, 50)]) [(FAB_LPp_MAP_CONF 3, 1), (FAB_LPp_MAP_STATE 3, 0)]) with mrw := { ((fs (fs run [(MRW_STAT_INIT_DONE, 1), (MRW_CLS_RES0, 50)]) [(FAB_LPp_MAP_CONF 3, 1), (FAB_LPp_MAP_STATE 3, 0)])).mrw with windows := [(0, ⟨265625, 0, 0⟩)] } }; let q : MReq := ⟨3, 2, false, 128, 64, []⟩; let n : Nat := 0; (decide (q.who < 270)) && (!s.pwr.inReset) && (!s.podDead q.who) && (s.flag MRW_STAT_INIT_DONE) && (mreqOk q) && (s.permits q) && (s.classOf q == 1 || s.classOf q == 2) && (s.mrw.queue.isEmpty) && (!(decide ((s.window (stackOf q.addr)).used + q.len ≤ windowBytes) && s.tagFree (s.classOf q)))) = true ∧
  (let s : State := (fs (fs run [(MRW_STAT_INIT_DONE, 1), (MRW_CLS_RES0, 50)]) [(FAB_LPp_MAP_CONF 3, 1), (FAB_LPp_MAP_STATE 3, 0)]); let q : MReq := ⟨3, 3, true, 128, 64, List.replicate 64 7⟩; let n : Nat := 0; (decide (q.who < 270)) && (!s.pwr.inReset) && (!s.podDead q.who) && (s.flag MRW_STAT_INIT_DONE) && (mreqOk q) && (s.permits q) && (s.classOf q == 3) && (s.mrw.queue.isEmpty) && ((decide ((s.window (stackOf q.addr)).used + q.len ≤ windowBytes) && s.tagFree (s.classOf q)))) = true ∧
  (let s : State := { (fs (fs run [(MRW_STAT_INIT_DONE, 1), (MRW_CLS_RES0, 50)]) [(FAB_LPp_MAP_CONF 3, 1), (FAB_LPp_MAP_STATE 3, 0)]) with mrw := { ((fs (fs run [(MRW_STAT_INIT_DONE, 1), (MRW_CLS_RES0, 50)]) [(FAB_LPp_MAP_CONF 3, 1), (FAB_LPp_MAP_STATE 3, 0)])).mrw with windows := [(0, ⟨265625, 0, 0⟩)] } }; let q : MReq := ⟨3, 3, false, 128, 64, []⟩; let n : Nat := 0; (decide (q.who < 270)) && (!s.pwr.inReset) && (!s.podDead q.who) && (s.flag MRW_STAT_INIT_DONE) && (mreqOk q) && (s.permits q) && (s.classOf q == 3) && ((s.headOf (stackOf q.addr) 1).isSome || (s.headOf (stackOf q.addr) 2).isSome || !(decide ((s.window (stackOf q.addr)).used + q.len ≤ windowBytes) && s.tagFree (s.classOf q))) && (!s.owed q.who s.mrw.nextId)) = true := by
  decide +kernel

/-- A state and operands that meet the hypotheses of each clause of MarrowAnswers. -/
theorem witness_MarrowAnswers :
  (let s : State := ({ (fs run [(MRW_STAT_INIT_DONE, 1), (MRW_CLS_RES0, 50)]) with mrw := { ((fs run [(MRW_STAT_INIT_DONE, 1), (MRW_CLS_RES0, 50)])).mrw with out := [{ id := 4, req := ⟨256, 1, true, 32212254720, 64, []⟩, cls := 1, arrived := 0 }], nextId := 9 } }); let id : Nat := 4; let e : List (Nat × Ecc) := []; let p : MPend := { id := 4, req := ⟨256, 1, true, 32212254720, 64, []⟩, cls := 1, arrived := 0 }; ((s.mrw.out.find? fun r => r.id == id) == some p) && (!s.podDead p.req.who) && (!s.owed p.req.who id) && (s.mrw.held.isEmpty) && (p.req.write) && (s.mrw.queue.isEmpty)) = true ∧
  (let s : State := ({ (fs run [(MRW_STAT_INIT_DONE, 1), (MRW_CLS_RES0, 50)]) with mrw := { ((fs run [(MRW_STAT_INIT_DONE, 1), (MRW_CLS_RES0, 50)])).mrw with out := [{ id := 4, req := ⟨256, 1, false, 32212254720, 64, []⟩, cls := 1, arrived := 0, data := [5] }], nextId := 9 } }); let id : Nat := 4; let d : Nat := 9; let p : MPend := { id := 4, req := ⟨256, 1, false, 32212254720, 64, []⟩, cls := 1, arrived := 0, data := [5] }; ((s.mrw.out.find? fun r => r.id == id) == some p) && (!s.podDead p.req.who) && (!s.owed p.req.who id) && (s.mrw.held.isEmpty) && (!p.req.write) && (decide (0 < p.req.len)) && (!(s.mrw.queue.any fun r => r.id == id))) = true ∧
  (let s : State := ({ (fs (fs run [(MRW_STAT_INIT_DONE, 1), (MRW_CLS_RES0, 50)]) [(FAB_LPp_MAP_STATE 3, 2)]) with mrw := { ((fs run [(MRW_STAT_INIT_DONE, 1), (MRW_CLS_RES0, 50)])).mrw with out := [{ id := 4, req := ⟨3, 0, false, 128, 64, []⟩, cls := 0, arrived := 0 }] } }); let id : Nat := 4; let p : MPend := { id := 4, req := ⟨3, 0, false, 128, 64, []⟩, cls := 0, arrived := 0 }; (s.mrw.queue.isEmpty) && ((s.mrw.out.find? fun r => r.id == id) == some p) && (s.podDead p.req.who)) = true ∧
  (let s : State := ({ (fs run [(MRW_STAT_INIT_DONE, 1), (MRW_CLS_RES0, 50)]) with mrw := { ((fs run [(MRW_STAT_INIT_DONE, 1), (MRW_CLS_RES0, 50)])).mrw with queue := [{ id := 4, req := ⟨256, 1, false, 32212254720, 64, []⟩, cls := 1, arrived := 0 }], nextId := 9 } }); let id : Nat := 4; let n : Nat := 100000000; let p : MPend := { id := 4, req := ⟨256, 1, false, 32212254720, 64, []⟩, cls := 1, arrived := 0 }; ((s.mrw.queue.find? fun r => r.id == id) == some p) && (decide (p.arrived + Config.ticksOfUs (if p.cls = 1 then s.getF MRW_WAIT_W1 else 10 * s.getF MRW_WAIT_W2) ≤ (s.advance n).now)) && (!s.owed p.req.who id) && (s.mrw.held.isEmpty)) = true ∧
  (let s : State := ({ (fs run [(MRW_STAT_INIT_DONE, 1), (MRW_CLS_RES0, 50)]) with mrw := { ((fs run [(MRW_STAT_INIT_DONE, 1), (MRW_CLS_RES0, 50)])).mrw with queue := [{ id := 4, req := ⟨256, 1, false, 32212254720, 64, []⟩, cls := 1, arrived := 0 }], nextId := 9 } }); let k : Nat := stackOf 32212254720; let n : Nat := 4096; let p : MPend := { id := 4, req := ⟨256, 1, false, 32212254720, 64, []⟩, cls := 1, arrived := 0 }; (decide (k < 4)) && (n % 4096 == 0) && (!s.pwr.inReset) && (s.mrw.queue == [p]) && (stackOf p.req.addr == k) && (p.cls == 1 || p.cls == 2) && (s.tagFree p.cls) && (decide (p.req.len ≤ windowBytes))) = true ∧
  (let s : State := (fs (fs run [(MRW_STAT_INIT_DONE, 1), (MRW_CLS_RES0, 50)]) [(MRW_SCRUB_EN, 1)]); let pr : Nat := 0; let k : Nat := 1; let d : Nat := 3; (s.flag MRW_SCRUB_EN) && (s.flag MRW_STAT_INIT_DONE) && (decide (pr ≤ 100)) && (s.scrubReached pr) && (decide (k < 4)) && (decide (d < 255))) = true ∧
  (let s : State := (fs (fs run [(MRW_STAT_INIT_DONE, 1), (MRW_CLS_RES0, 50)]) [(MRW_SCRUB_EN, 1)]); let pr : Nat := 0; let a : Nat := 4096; (s.flag MRW_SCRUB_EN) && (s.flag MRW_STAT_INIT_DONE) && (decide (pr ≤ 100)) && (s.scrubReached pr)) = true ∧
  (let s : State := run; let m : Master := .pcie; (s.reaches m MRW_REG_CMD) && (!s.flag MRW_REG_STAT_FIXED) && (s.shadowsOk)) = true ∧
  (let s : State := (fs run [(MRW_REG_STAT_FIXED, 1)]); let m : Master := .pcie; (s.reaches m MRW_REG_CMD) && (s.flag MRW_REG_STAT_FIXED)) = true := by
  decide +kernel

/-- A state and operands that meet the hypotheses of each clause of FennelFades. -/
theorem witness_FennelFades :
  (let s : State := (({ fs run [(FOLp_STAT_STATE 1, 3), (FOLp_ID_PI 1, 0xC201), (FOLp_DELAY_SMP 1, 48000), (SEQk_STAT_STATE 1, 1), (PTHn_STAT_STATE 9, 2), (PTHn_STAT_STATE 10, 2), (PTHn_CTL_TYPE 9, 1), (PTHn_CTL_TYPE 10, 1), (FOLp_POL0_HOLD 1, 0)] with syscnt := 10000000 }).setProg 1 { cands := [(0, { kind := 1, num := 9, origin := 0, aligned := true, a := 0, e := some 400 }), (1, { kind := 1, num := 10, origin := 0, aligned := true, a := 5, e := some 700, above := some 5 })], active := some 0, nextTs := 15728640 }); let p : Nat := 1; let b : Nat := 1; let c : Cand := { kind := 1, num := 10, origin := 0, aligned := true, a := 5, e := some 700, above := some 5 }; (decide (p < 256)) && (s.firmwareOn 1) && (s.mayDecide p (s.prog p)) && ((s.prog p).lastSw.isNone) && (bestOf (s.discReady p (s.prog p)) (s.prog p).cands == some (b, c))) = true ∧
  (let s : State := (({ fs run [(FOLp_STAT_STATE 1, 3), (FOLp_ID_PI 1, 0xC201), (FOLp_DELAY_SMP 1, 48000), (SEQk_STAT_STATE 1, 1), (PTHn_STAT_STATE 9, 2), (PTHn_STAT_STATE 10, 2), (PTHn_CTL_TYPE 9, 1), (PTHn_CTL_TYPE 10, 1)] with syscnt := 10000000 }).setProg 1 { cands := [(0, { kind := 1, num := 9, origin := 0, aligned := true, a := 0, e := some 400, bad := some 20971520 }), (1, { kind := 1, num := 10, origin := 0, aligned := true, a := 5, e := some 700 })], active := some 0, nextTs := 15728640 }); let p : Nat := 1; let b : Nat := 1; let u : Nat := 20971520; let c : Cand := { kind := 1, num := 10, origin := 0, aligned := true, a := 5, e := some 700 }; (decide (p < 256)) && (s.firmwareOn 1) && (s.mayDecide p (s.prog p)) && (!s.flag (FOLp_STAT_SILENT p)) && ((s.prog p).badPoint == some u) && (bestOf (s.alignedTake (s.prog p)) (s.prog p).cands == some (b, c))) = true ∧
  (let s : State := (({ fs run [(FOLp_STAT_STATE 1, 3), (FOLp_ID_PI 1, 0xC201), (FOLp_DELAY_SMP 1, 48000), (SEQk_STAT_STATE 1, 1), (PTHn_STAT_STATE 9, 2), (PTHn_STAT_STATE 10, 2), (PTHn_CTL_TYPE 9, 1), (PTHn_CTL_TYPE 10, 1), (FOLp_STAT_SILENT 1, 1)] with syscnt := 10000000 }).setProg 1 { cands := [(0, { kind := 1, num := 9, origin := 0, aligned := true, a := 0, e := some 400, bad := some 20971520 }), (1, { kind := 1, num := 10, origin := 0, aligned := true, a := 5, e := some 700 })], active := some 0, nextTs := 15728640 }); let p : Nat := 1; let b : Nat := 1; let u : Nat := 20971520; let c : Cand := { kind := 1, num := 10, origin := 0, aligned := true, a := 5, e := some 700 }; (decide (p < 256)) && (s.firmwareOn 1) && (s.mayDecide p (s.prog p)) && ((s.prog p).badPoint == some u) && (s.flag (FOLp_STAT_SILENT p) || (bestOf (s.alignedTake (s.prog p)) (s.prog p).cands).isNone) && (bestOf (s.takeable (s.prog p)) (s.prog p).cands == some (b, c))) = true ∧
  (let s : State := (({ fs run [(FOLp_STAT_STATE 1, 3), (FOLp_ID_PI 1, 0xC201), (FOLp_DELAY_SMP 1, 48000), (SEQk_STAT_STATE 1, 1), (PTHn_STAT_STATE 9, 2), (PTHn_STAT_STATE 10, 2), (PTHn_CTL_TYPE 9, 1), (PTHn_CTL_TYPE 10, 1)] with syscnt := 10000000 }).setProg 1 { cands := [(0, { kind := 1, num := 9, origin := 0, aligned := true, a := 0, e := some 400 }), (1, { kind := 1, num := 10, origin := 0, aligned := true, a := 5, e := some 700 })], active := some 0, nextTs := 15728640, fade := some ⟨1, 0, 0, 1, true, 4800, none⟩ }); let p : Nat := 1; let f : Fade := ⟨1, 0, 0, 1, true, 4800, none⟩; (decide (p < 256)) && ((s.prog p).fade == some f) && (f.left == 0) && (f.back)) = true ∧
  (let s : State := (({ fs run [(FOLp_STAT_STATE 1, 3), (FOLp_ID_PI 1, 0xC201), (FOLp_DELAY_SMP 1, 48000), (SEQk_STAT_STATE 1, 1), (PTHn_STAT_STATE 9, 2), (PTHn_STAT_STATE 10, 2), (PTHn_CTL_TYPE 9, 1), (PTHn_CTL_TYPE 10, 1)] with syscnt := 10000000 }).setProg 1 { cands := [(0, { kind := 1, num := 9, origin := 0, aligned := true, a := 0, e := some 400 }), (1, { kind := 1, num := 10, origin := 0, aligned := true, a := 5, e := some 700 })], active := some 0, nextTs := 15728640, fade := some ⟨1, 0, 0, 1, false, 4800, none⟩ }); let p : Nat := 1; let f : Fade := ⟨1, 0, 0, 1, false, 4800, none⟩; (decide (p < 256)) && ((s.prog p).fade == some f) && (f.left == 0) && (!f.back)) = true := by
  decide +kernel

/-- A state and operands that meet the hypotheses of each clause of FennelAlignment. -/
theorem witness_FennelAlignment :
  (let s : State := (({ fs run [(FOLp_STAT_STATE 1, 3), (FOLp_ID_PI 1, 0xC201), (FOLp_DELAY_SMP 1, 48000), (SEQk_STAT_STATE 1, 1), (PTHn_STAT_STATE 9, 2), (PTHn_STAT_STATE 10, 2), (PTHn_CTL_TYPE 9, 1), (PTHn_CTL_TYPE 10, 1)] with syscnt := 10000000 }).setProg 1 { cands := [(0, { kind := 1, num := 9, origin := 0, aligned := true, a := 0, e := some 400 }), (1, { kind := 1, num := 10, origin := 0, okLast := some 7 })], active := some 0, nextTs := 15728640, startAt := 5242880 }); let p : Nat := 1; let i : Nat := 1; let u : Nat := 8; let c : Cand := { kind := 1, num := 10, origin := 0, okLast := some 7 }; let a : Cand := { kind := 1, num := 9, origin := 0, aligned := true, a := 0, e := some 400 }; (decide (p < 256)) && (s.folState p == 3) && ((s.prog p).active.bind (s.prog p).cand == some a) && ((s.prog p).active != some i) && ((s.prog p).incoming != some i) && ((s.prog p).cand i == some c) && (c.kind != 3) && (c.bad.isNone) && (s.windowOk p (s.prog p) a c u) && (!c.aligned)) = true ∧
  (let s : State := (({ fs run [(FOLp_STAT_STATE 1, 3), (FOLp_ID_PI 1, 0xC201), (FOLp_DELAY_SMP 1, 48000), (SEQk_STAT_STATE 1, 1), (PTHn_STAT_STATE 9, 2), (PTHn_STAT_STATE 10, 2), (PTHn_CTL_TYPE 9, 1), (PTHn_CTL_TYPE 10, 1)] with syscnt := 10000000 }).setProg 1 { cands := [(0, { kind := 1, num := 9, origin := 0, aligned := true, a := 0, e := some 400 }), (1, { kind := 1, num := 10, origin := 0, aligned := true, a := 5, fails := 2, e := some 700 })], active := some 0, nextTs := 15728640, startAt := 5242880 }); let p : Nat := 1; let i : Nat := 1; let u : Nat := 8; let c : Cand := { kind := 1, num := 10, origin := 0, aligned := true, a := 5, fails := 2, e := some 700 }; let a : Cand := { kind := 1, num := 9, origin := 0, aligned := true, a := 0, e := some 400 }; (decide (p < 256)) && (s.folState p == 3) && ((s.prog p).active.bind (s.prog p).cand == some a) && ((s.prog p).active != some i) && ((s.prog p).incoming != some i) && ((s.prog p).cand i == some c) && (c.kind != 3) && (c.bad.isNone) && (s.windowOk p (s.prog p) a c u) && (c.aligned) && (c.fails == 2)) = true ∧
  (let s : State := (({ fs run [(FOLp_STAT_STATE 1, 3), (FOLp_ID_PI 1, 0xC201), (FOLp_DELAY_SMP 1, 48000), (SEQk_STAT_STATE 1, 1), (PTHn_STAT_STATE 9, 2), (PTHn_STAT_STATE 10, 2), (PTHn_CTL_TYPE 9, 1), (PTHn_CTL_TYPE 10, 1), (FOLp_CTL_LOUD 1, 1)] with syscnt := 10000000 }).setProg 1 { cands := [(0, { kind := 1, num := 9, origin := 0, aligned := true, a := 0, e := some 400 }), (1, { kind := 1, num := 10, origin := 0, aligned := true, a := 5, e := some 700 })], active := some 0, nextTs := 15728640, startAt := 5242880 }); let p : Nat := 1; let i : Nat := 1; let T : Nat := 90; let c : Cand := { kind := 1, num := 10, origin := 0, aligned := true, a := 5, e := some 700 }; let a : Cand := { kind := 1, num := 9, origin := 0, aligned := true, a := 0, e := some 400 }; (decide (p < 256)) && (s.flag (FOLp_CTL_LOUD p)) && ((s.prog p).active.bind (s.prog p).cand == some a) && ((s.prog p).cand i == some c) && ((s.prog p).candState i c == 2) && (decide (c.loudAt ≤ T)) && (!c.gSet)) = true ∧
  (let s : State := (({ fs run [(FOLp_STAT_STATE 1, 3), (FOLp_ID_PI 1, 0xC201), (FOLp_DELAY_SMP 1, 48000), (SEQk_STAT_STATE 1, 1), (PTHn_STAT_STATE 9, 2), (PTHn_STAT_STATE 10, 2), (PTHn_CTL_TYPE 9, 1), (PTHn_CTL_TYPE 10, 1)] with syscnt := 10000000, streams := [(2057, [⟨15728640, 0, List.replicate 128 7⟩]), (2058, [⟨20971520, 0, List.replicate 128 9⟩, ⟨15728640, 0, List.replicate 128 9⟩])] }).setProg 1 { cands := [(0, { kind := 1, num := 9, origin := 0, aligned := true, a := 0, e := some 400 }), (1, { kind := 1, num := 10, origin := 0, aligned := true, a := 5, e := some 700 })], active := some 0, nextTs := 15728640, fade := some ⟨1, 10485760, 4800, 1, false, 4800, none⟩ }); let p : Nat := 1; let a : Nat := 0; let f : Fade := ⟨1, 10485760, 4800, 1, false, 4800, none⟩; let x : Block := ⟨15728640, 0, List.replicate 128 7⟩; let y : Block := ⟨16138240, 0, List.replicate 128 9⟩; (decide (p < 256)) && ((s.prog p).mute.isNone) && (!s.flag (FOLp_STAT_ALLLOST p)) && (!s.abandoned 4 p ((s.prog p).nextTs + s.pgDelay p)) && ((s.prog p).riseLeft == 0 || decide ((s.prog p).riseFrom ≤ (s.prog p).nextTs)) && (s.folState p == 3) && ((s.prog p).stopping.isNone) && ((s.prog p).hard.isNone) && (!s.flag (FOLp_STAT_SILENT p)) && (!s.voidOver 4 p (s.prog p).nextTs ((s.prog p).nextTs + 5242879)) && ((s.prog p).active == some a) && ((s.prog p).fade == some f) && (decide (f.tx ≤ (s.prog p).nextTs)) && (s.srcBlock (s.prog p) a == some x) && (s.srcBlock (s.prog p) f.inc == some y) && ((x.flags &&& 9) == 0) && ((y.flags &&& 9) == 0)) = true ∧
  (let s : State := (({ fs run [(FOLp_STAT_STATE 1, 3), (FOLp_ID_PI 1, 0xC201), (FOLp_DELAY_SMP 1, 48000), (SEQk_STAT_STATE 1, 1), (PTHn_STAT_STATE 9, 2), (PTHn_STAT_STATE 10, 2), (PTHn_CTL_TYPE 9, 1), (PTHn_CTL_TYPE 10, 1)] with syscnt := 10000000, streams := [(2058, [⟨20971520, 0, List.replicate 128 9⟩, ⟨15728640, 0, List.replicate 128 9⟩])] }).setProg 1 { cands := [(0, { kind := 1, num := 9, origin := 0, aligned := true, a := 0, e := some 400 }), (1, { kind := 1, num := 10, origin := 0, aligned := true, a := 5, e := some 700 })], active := some 0, nextTs := 15728640, startAt := 5242880 }); let p : Nat := 1; let a : Nat := 0; let b : Nat := 1; let c : Cand := { kind := 1, num := 10, origin := 0, aligned := true, a := 5, e := some 700 }; let x : Block := ⟨16138240, 0, List.replicate 128 9⟩; (decide (p < 256)) && ((s.prog p).mute.isNone) && (!s.flag (FOLp_STAT_ALLLOST p)) && (!s.abandoned 4 p ((s.prog p).nextTs + s.pgDelay p)) && ((s.prog p).riseLeft == 0 || decide ((s.prog p).riseFrom ≤ (s.prog p).nextTs)) && (s.folState p == 3) && ((s.prog p).stopping.isNone) && ((s.prog p).hard.isNone) && (!s.flag (FOLp_STAT_SILENT p)) && (!s.voidOver 4 p (s.prog p).nextTs ((s.prog p).nextTs + 5242879)) && ((s.prog p).active == some a) && ((s.prog p).fade.isNone) && (blockBad (s.srcBlock (s.prog p) a)) && (bestOf (fun i c => decide ((s.prog p).candState i c = 2) && s.delivers c && ((s.srcBlock (s.prog p) i).map fun x => (x.flags &&& 11) == 0).getD false) (s.prog p).cands == some (b, c)) && (s.srcBlock (s.prog p) b == some x)) = true := by
  decide +kernel

/-- A state and operands that meet the hypotheses of each clause of EntriesAndEnds. -/
theorem witness_EntriesAndEnds :
  (let s : State := ({ ((iz.wr (EVT_Gg_STAT 3) 1).wr (EVT_Gg_MASK_CORE 3) 1).setF (EVT_Gg_ROUTE_CORES 3) 255 with cores := [(1, { (iz.core 1) with ie := true })] }); let k : Nat := 1; let rep : List Nat := []; let g : Nat := 3; (s.coreLive k) && (s.seqState k == 1) && ((s.core k).boundary) && ((s.core k).ieNow) && (s.intGroup k == some g) && ((s.core k).rep.isNone) && ((s.settled k).entryOk) && (!s.flag (SEQk_CTL_HALT k))) = true ∧
  (let s : State := ({ iz with cores := [(1, { (iz.core 1) with ldepth := 1, ls := [(0, 0x20)], le := [(0, 0x50)], lc := [(0, 3)] })] }); let h : IzHead := h1; (s.issues h (.f0 .lexit)) && ((s.core h.core).ldepth != 0) && ((s.core h.core).pendLeft .ldepth == 0) && (decide ((s.core h.core).ldepth < 2) || sget zero24 (s.core h.core).tick.le ((s.core h.core).ldepth - 2) != (s.core h.core).pc)) = true ∧
  (let s : State := ({ (fs run [(SLK_CH_KHZ 3, 868000), (CLK_STAT_HK_OK, 1), (SLK_LIC_STATE, 2), (SLK_LIC_NBAND, 1), (SLK_TXCFG_LEN, 10), (SLK_STAT_STATE, 4), (SLK_STAT_LOCK, 1), (SLK_STAT_CH, 3)]) with slk := { bands := [⟨863000, 870000, 140, 100, 1000, -128, 0⟩], bins := [[]], entries := [(3, ⟨true, false, 868000, 0, []⟩)], rx := some {  ch := 3, aerial := true, gain := 4, rssi := -500, foff := 7, captured := false, ts := some 999 , hdr := some (3, 0x80) } } }); let g : Nat := 0x80; let pay : List Nat := [255, 0, 7]; let n : Nat := 9; let r : SlRx := {  ch := 3, aerial := true, gain := 4, rssi := -500, foff := 7, captured := false, ts := some 999 , hdr := some (3, 0x80) }; (s.slk.rx == some r) && (r.hdr == some (pay.length, g)) && (s.slState == 4) && (decide (1 ≤ pay.length)) && (decide (pay.length ≤ 255)) && (pay.all fun x => decide (x < 256)) && (g == 0 || g == 0x80)) = true := by
  decide +kernel

/-- A queue with a command in front, and an empty one. -/
theorem witness_StepTakesTheFront :
    ({ State.reset with pending := [.hbBadCycle] } : State).pending = .hbBadCycle :: [] ∧ State.reset.pending = [] := by
  exact ⟨rfl, rfl⟩

/-- A state with a register and a byte of Marrow listed meets the premise of TablesStayCanonical. -/
theorem witness_TablesStayCanonical : izm.canonical = true := by
  decide +kernel

/-- A powered part in reset, and an unpowered one. -/
theorem witness_BallsInReset :
    ({ State.reset with pwr := { railsOk := true } } : State).pwr.inReset = true ∧ State.reset.pwr.railsOk = false := by
  exact ⟨rfl, rfl⟩

/-- A state and operands that meet the hypotheses of clause 6 of SwitchesFramesAndRestores. -/
theorem witness_SwitchesFramesAndRestores_6 :
  (let s : State := calRun; let m : Master := .hostBus; let ok : List Bool := [true, true]; (s.reaches m CAL_IMG_CMD) && (!s.flag CAL_IMG_STAT_BUSY) && (s.calBad (s.winBytes 0x80000 8192) == 0) && (s.calBad (s.winBytes 0x90000 8192) != 0 || !newerGen (leAt (s.winBytes 0x90000 8192) 8 4) (leAt (s.winBytes 0x80000 8192) 8 4))) = true := by
  simp only [calWin_good]
  decide +kernel

/-- A state and operands that meet the hypotheses of each clause of SwitchesFramesAndRestores. -/
theorem witness_SwitchesFramesAndRestores :
  (let s : State := (({ fs run [(FOLp_STAT_STATE 1, 3), (FOLp_ID_PI 1, 0xC201), (FOLp_DELAY_SMP 1, 48000), (SEQk_STAT_STATE 1, 1), (PTHn_STAT_STATE 9, 2), (PTHn_STAT_STATE 10, 2), (PTHn_CTL_TYPE 9, 1), (PTHn_CTL_TYPE 10, 1), (FOLp_POL0_HOLD 1, 0)] with syscnt := 10000000 }).setProg 1 { cands := [(0, { kind := 1, num := 9, origin := 0, aligned := true, a := 0, e := some 400 }), (1, { kind := 1, num := 10, origin := 0, aligned := true, a := 5, e := some 700, above := some 5 })], active := some 0, nextTs := 15728640 }); let p : Nat := 1; let b : Nat := 1; let c : Cand := { kind := 1, num := 10, origin := 0, aligned := true, a := 5, e := some 700, above := some 5 }; (decide (p < 256)) && (s.firmwareOn 1) && (s.mayDecide p (s.prog p)) && ((s.prog p).lastSw.isNone) && (bestOf (s.discReady p (s.prog p)) (s.prog p).cands == some (b, c))) = true ∧
  (let s : State := (({ fs run [(FOLp_STAT_STATE 1, 3), (FOLp_ID_PI 1, 0xC201), (FOLp_DELAY_SMP 1, 48000), (SEQk_STAT_STATE 1, 1), (PTHn_STAT_STATE 9, 2), (PTHn_STAT_STATE 10, 2), (PTHn_CTL_TYPE 9, 1), (PTHn_CTL_TYPE 10, 1)] with syscnt := 10000000 }).setProg 1 { cands := [(0, { kind := 1, num := 9, origin := 0, aligned := true, a := 0, e := some 400, bad := some 20971520 }), (1, { kind := 1, num := 10, origin := 0, aligned := true, a := 5, e := some 700 })], active := some 0, nextTs := 15728640 }); let p : Nat := 1; let b : Nat := 1; let u : Nat := 20971520; let c : Cand := { kind := 1, num := 10, origin := 0, aligned := true, a := 5, e := some 700 }; (decide (p < 256)) && (s.firmwareOn 1) && (s.mayDecide p (s.prog p)) && (!s.flag (FOLp_STAT_SILENT p)) && ((s.prog p).badPoint == some u) && (bestOf (s.alignedTake (s.prog p)) (s.prog p).cands == some (b, c))) = true ∧
  (let s : State := (({ fs run [(FOLp_STAT_STATE 1, 3), (FOLp_ID_PI 1, 0xC201), (FOLp_DELAY_SMP 1, 48000), (SEQk_STAT_STATE 1, 1), (PTHn_STAT_STATE 9, 2), (PTHn_STAT_STATE 10, 2), (PTHn_CTL_TYPE 9, 1), (PTHn_CTL_TYPE 10, 1), (FOLp_STAT_SILENT 1, 1)] with syscnt := 10000000 }).setProg 1 { cands := [(0, { kind := 1, num := 9, origin := 0, aligned := true, a := 0, e := some 400, bad := some 20971520 }), (1, { kind := 1, num := 10, origin := 0, aligned := true, a := 5, e := some 700 })], active := some 0, nextTs := 15728640 }); let p : Nat := 1; let b : Nat := 1; let u : Nat := 20971520; let c : Cand := { kind := 1, num := 10, origin := 0, aligned := true, a := 5, e := some 700 }; (decide (p < 256)) && (s.firmwareOn 1) && (s.mayDecide p (s.prog p)) && ((s.prog p).badPoint == some u) && (s.flag (FOLp_STAT_SILENT p) || (bestOf (s.alignedTake (s.prog p)) (s.prog p).cands).isNone) && (bestOf (s.takeable (s.prog p)) (s.prog p).cands == some (b, c))) = true ∧
  (let s : State := (({ fs run [(FOLp_STAT_STATE 1, 3), (FOLp_ID_PI 1, 0xC201), (FOLp_DELAY_SMP 1, 48000), (SEQk_STAT_STATE 1, 1), (PTHn_STAT_STATE 9, 2), (PTHn_STAT_STATE 10, 2), (PTHn_CTL_TYPE 9, 1), (PTHn_CTL_TYPE 10, 1)] with syscnt := 10000000 }).setProg 1 { cands := [(0, { kind := 1, num := 9, origin := 0, aligned := true, a := 0, e := some 400 }), (1, { kind := 1, num := 10, origin := 0, aligned := true, a := 5, e := some 700 })], active := some 0, nextTs := 15728640, fade := some ⟨1, 0, 0, 1, true, 4800, none⟩ }); let p : Nat := 1; let f : Fade := ⟨1, 0, 0, 1, true, 4800, none⟩; (decide (p < 256)) && ((s.prog p).fade == some f) && (f.left == 0)) = true ∧
  (let s : State := (fs run [(NET_PORTm_CTL_EN 0, 1), (NET_PORTm_STAT_LINK 0, 1)]); let p : Nat := 0; let n : Nat := 9; let f : EthFrame := ⟨64, 0xFFFFFFFFFFFF, 0, 0, false, 3⟩; (decide (p < 2)) && (s.linkUp p) && (decide (f.len ≤ 1522)) && (f.vlan == s.getF (NET_PORTm_CTL_VLAN p)) && (s.addressed p f) && (!f.frag) && (f.proto == 3)) = true := by
  decide +kernel

end Sys2Proof.Tests
end

