-- ==== Sys2Proof/WellFormed.lean ====
section
/-! DEFINITION. Which commands are well formed: every number that names an instance names one that the spec counts
(spec/23 R570), a master names a core that exists, and an Izham-24 instruction names one of the eight cores and gives
reply codes of R298.  Meanings are total: a command that is not well formed names no instance
and has its effect on none. -/

namespace Sys2Proof

/-- A master that exists: the cores are SQ0 to SQ7 (R405). -/
def Master.ok : Master → Bool
  | .core k => decide (k < 8)
  | .hostBus => true
  | .pcie => true
  | .casrum => true
  | .personality => true

/-- Reply codes of Marrow (R298). -/
def codesOk (l : List Nat) : Bool := l.all fun c => decide (c < 5)

/-- The head of an instruction: the core exists, at most four prefixes stand before the opcode (a fourth one traps, R442),
and the replies are codes. -/
def IzHead.ok (h : IzHead) : Bool := decide (h.core < 8) && decide (h.pre.length ≤ 4) && codesOk h.replies

/-- A command is well formed. -/
def Instr.wellFormed : Instr → Bool
  | .resetNAssert _ _ => true
  | .powerOnTimingDone => true
  | .internalResetEnd _ _ _ _ => true
  | .brownout _ _ => true
  | .thermWarn _ => true
  | .thermalTrip _ => true
  | .hkStop => true
  | .hkRestore => true
  | .perstAssert => true
  | .perstRelease => true
  | .pcieLinkChange _ gen lanes => decide (gen < 8) && decide (lanes < 8)
  | .marrowInitDone trained => decide (trained < 16)
  | .refMeasureDone _ => true
  | .directoryRead copy _ => decide (copy < 2)
  | .directoryReadTimeout copy => decide (copy < 2)
  | .imageVerify _ => true
  | .fabricConfigured _ => true
  | .firmwareReady => true
  | .bootLoad m => m.ok
  | .featAcceptWrite m w _ => m.ok && decide (w < 4)
  | .featLock m => m.ok
  | .lockComplete => true
  | .kt440AutoLock => true
  | .personalityReady => true
  | .spllCommit m => m.ok
  | .divCommit => true
  | .clkSrcChange m src => m.ok && decide (src < 4)
  | .refWindow _ => true
  | .refQualify _ => true
  | .spllLock => true
  | .spllFail => true
  | .spllLoss _ => true
  | .holdSecond => true
  | .slewDone => true
  | .programmeClockFade p => decide (p < 256)
  | .syscntRead => true
  | .ptpSync _ => true
  | .ptpFollowUp _ => true
  | .ptpDelayResp _ => true
  | .ptpAnnounce _ => true
  | .ptpAnnounceTimeout _ => true
  | .ptpSyncTimeout _ => true
  | .ptpMasterSend kind _ => decide (kind < 4)
  | .ppsPulse _ => true
  | .ppsEnd _ => true
  | .gainApply m _ _ => m.ok
  | .gainApplied a _ => decide (a < 2)
  | .ovlWindowEnd a _ _ _ _ => decide (a < 2)
  | .lnaProtect a => decide (a < 2)
  | .adcBlockArrival a _ _ _ _ => decide (a < 3)
  | .blockRelease _ _ _ _ => true
  | .blockDrop p kind _ _ => decide (p < 256) && decide (kind < 9)
  | .voidToken kind _ _ _ => decide (kind < 9)
  | .guardAbsorb p => decide (p < 256)
  | .guardVoidSupply p kind _ _ _ => decide (p < 256) && decide (kind < 9)
  | .paceWindowEnd _ _ => true
  | .fabIsolate m p => m.ok && decide (p < 256)
  | .fabRestore m p => m.ok && decide (p < 256)
  | .podDrainEnd p _ _ => decide (p < 256)
  | .podLoadDone p _ _ => decide (p < 256)
  | .reloadErr p _ => decide (p < 256)
  | .podRelease _ => true
  | .marrowCompletionDiscard _ => true
  | .loadPortWrite m a _ => m.ok && decide (a < 0x100000) && a % 4 == 0
  | .prResetPort m => m.ok
  | .prStart m => m.ok
  | .prVerifyDone _ _ _ => true
  | .bankDataWrite m _ => m.ok
  | .bankOpen m => m.ok
  | .bankSeal m => m.ok
  | .pathStart m n => m.ok && decide (n < 512)
  | .pathStop m n => m.ok && decide (n < 512)
  | .pathSync m n => m.ok && decide (n < 512)
  | .pathChangeInstant n _ => decide (n < 512)
  | .pathDeferredStop _ _ => true
  | .shiftWrite m n _ => m.ok && decide (n < 512)
  | .pathOutputBlock n => decide (n < 512)
  | .metricWindow n _ => decide (n < 512)
  | .metricPublish n => decide (n < 512)
  | .demConfigWrite m n r _ => m.ok && decide (n < 512) && decide (r < 3)
  | .rdsBlock n _ _ _ => decide (n < 512)
  | .piTimeout n _ => decide (n < 512)
  | .ensStart m n => m.ok && decide (n < 48)
  | .ensStop m n => m.ok && decide (n < 48)
  | .ensResync m n => m.ok && decide (n < 48)
  | .slotReleaseInstant n _ => decide (n < 48)
  | .ensLock n _ _ _ _ => decide (n < 48)
  | .ensLost n _ _ => decide (n < 48)
  | .ensFrame n _ => decide (n < 48)
  | .subchRecord n sub _ _ => decide (n < 48) && decide (sub < 64)
  | .decStart m d => m.ok && decide (d < 128)
  | .decStop m d => m.ok && decide (d < 128)
  | .decRun d _ _ _ _ _ => decide (d < 128)
  | .decWait d => decide (d < 128)
  | .decConceal d _ _ _ _ _ => decide (d < 128)
  | .multiplexReconfig n _ => decide (n < 48)
  | .fennelInfoUpdate n _ => decide (n < 48)
  | .folStart m p => m.ok && decide (p < 256)
  | .folStop m p => m.ok && decide (p < 256)
  | .abortXfade m p => m.ok && decide (p < 256)
  | .folSwitch m p idx => m.ok && decide (p < 256) && decide (idx < 16)
  | .folRealign m p => m.ok && decide (p < 256)
  | .progSearchStart p _ => decide (p < 256)
  | .progOrigin p idx _ => decide (p < 256) && decide (idx < 16)
  | .progStopped p => decide (p < 256)
  | .poolIdleStop _ => true
  | .progBlockForm p _ => decide (p < 256)
  | .candidateAdd p origin kind _ idx => decide (p < 256) && decide (origin < 3) && decide (kind < 4) && decide (idx < 16)
  | .candidateRemove p idx _ => decide (p < 256) && decide (idx < 16)
  | .candidateUnusable p idx => decide (p < 256) && decide (idx < 16)
  | .candidateUsable p idx => decide (p < 256) && decide (idx < 16)
  | .folInelig p idx => decide (p < 256) && decide (idx < 16)
  | .poolPathStart p _ _ => decide (p < 256)
  | .poolPathTimeout n _ => decide (n < 512)
  | .fennelDecoderStart p idx => decide (p < 256) && decide (idx < 16)
  | .fennelDecoderStop d _ => decide (d < 128)
  | .scoreUpdate p idx => decide (p < 256) && decide (idx < 16)
  | .discretionarySwitch p => decide (p < 256)
  | .forcedSwitch p => decide (p < 256)
  | .hardSwitch p => decide (p < 256)
  | .xfadeEnd p => decide (p < 256)
  | .alignMeasure p idx _ => decide (p < 256) && decide (idx < 16)
  | .loudnessUpdate p idx _ => decide (p < 256) && decide (idx < 16)
  | .clistWrite m _ => m.ok
  | .mrwApply m => m.ok
  | .marrowRequest _ _ => true
  | .marrowReply _ _ => true
  | .marrowWaitTimeout _ _ => true
  | .scrubStep _ _ _ => true
  | .ringRecordWrite _ _ _ _ => true
  | .audioChannelAssign _ _ => true
  | .timeshiftWrite m _ _ => m.ok
  | .snpArm m => m.ok
  | .snpTrig m => m.ok
  | .snapStop m => m.ok
  | .snapMatchTrigger _ => true
  | .snapDone _ => true
  | .sapCtlWrite m k _ => m.ok && decide (k < 8)
  | .sapFrame k _ => decide (k < 8)
  | .sapClockStop k dir _ => decide (k < 8) && decide (dir < 2)
  | .sapBlockHandoff k _ _ => decide (k < 8)
  | .sapMapWrite m k _ _ => m.ok && decide (k < 8)
  | .sapMute m k _ => m.ok && decide (k < 8)
  | .sapTapBlock k _ => decide (k < 8)
  | .maskCommit m k => m.ok && decide (k < 8)
  | .tcsApply m k => m.ok && decide (k < 8)
  | .aes3CsBlock k => decide (k < 8)
  | .ethLinkChange port _ _ => decide (port < 2)
  | .ethFrameRx port _ _ => decide (port < 2)
  | .aes67SenderEnable m k _ => m.ok && decide (k < 256)
  | .aes67PacketTx k _ => decide (k < 256)
  | .aes67PacketRx port r _ _ => decide (port < 2) && decide (r < 16)
  | .aes67ReceiverBlock r _ => decide (r < 16)
  | .vitaPacketTx k _ => decide (k < 64)
  | .vitaContextTx k _ => decide (k < 64)
  | .casrumSideSend type _ => decide (type < 8)
  | .casrumControlRx _ _ => true
  | .egressTimeout port cls _ => decide (port < 2) && decide (cls < 4)
  | .bar0Access _ o _ _ => decide (o < 0x100000)
  | .bar2Access _ _ _ _ _ => true
  | .bar2Retry _ _ => true
  | .dmaStreamRecord q _ => decide (q < 64)
  | .dmaCopyDescriptor q _ _ codes _ => decide (q < 64) && codesOk codes
  | .msixSignal q _ => decide (q < 64)
  | .hbRead a be => decide (a < 65536) && decide (be < 4)
  | .hbWriteLow a be d => decide (a < 65536) && decide (be < 4) && decide (d < 65536)
  | .hbWriteHigh a be d => decide (a < 65536) && decide (be < 4) && decide (d < 65536)
  | .hbBadCycle => true
  | .hbPageWrite d => decide (d < 65536)
  | .hbQueueDeliver => true
  | .registerWrite m a _ => m.ok && decide (a < 0x100000) && a % 4 == 0
  | .rcRegisterRead m a => m.ok && decide (a < 0x100000) && a % 4 == 0
  | .eventRaise e inst => decide (e < 256) && decide (inst < 65536)
  | .eventCoalesceRelease g route _ => decide (g < 8) && decide (route < 2)
  | .evtClearWrite m a _ => m.ok && decide (a < 0x100000) && a % 4 == 0
  | .ktIndexWrite v => decide (v < 256)
  | .ktDataRead _ => true
  | .ktDataWrite _ v => decide (v < 256)
  | .ktStatWrite v => decide (v < 256)
  | .ktTune tn => decide (tn < 4)
  | .ktSeekUp tn => decide (tn < 4)
  | .ktSeekDown tn => decide (tn < 4)
  | .ktCancel tn => decide (tn < 4)
  | .ktPowerDown tn => decide (tn < 4)
  | .ktPowerUp tn => decide (tn < 4)
  | .ktSeekStep tn _ => decide (tn < 4)
  | .ktBusyFall tn _ => decide (tn < 4)
  | .ktFlush tn => decide (tn < 4)
  | .ktAudcfgWrite v => decide (v < 256)
  | .ktAudselWrite v => decide (v < 256)
  | .ktCaptureEnable v => decide (v < 256)
  | .pairFault j _ => decide (j < 9)
  | .pairRemap _ => true
  | .interruptEntry k replies => decide (k < 8) && codesOk replies
  | .coreHalt m k _ => m.ok && decide (k < 8)
  | .coreStep m k replies => m.ok && decide (k < 8) && codesOk replies
  | .coreKick m k => m.ok && decide (k < 8)
  | .coreWdog k _ => decide (k < 8)
  | .wcLineFlush k _ code _ => decide (k < 8) && decide (code < 5)
  | .izNop h => h.ok
  | .izSync h => h.ok
  | .izRet h => h.ok
  | .izRti h => h.ok
  | .izLexit h => h.ok
  | .izEi h => h.ok
  | .izDi h => h.ok
  | .izAdd h _ _ _ _ => h.ok
  | .izSub h _ _ _ _ => h.ok
  | .izAnd h _ _ _ _ => h.ok
  | .izOr h _ _ _ _ => h.ok
  | .izXor h _ _ _ _ => h.ok
  | .izShl h _ _ _ _ => h.ok
  | .izShr h _ _ _ _ => h.ok
  | .izSra h _ _ _ _ => h.ok
  | .izMul h _ _ _ _ => h.ok
  | .izMulh h _ _ _ _ => h.ok
  | .izMin h _ _ _ _ => h.ok
  | .izMax h _ _ _ _ => h.ok
  | .izDiv h _ _ _ _ => h.ok
  | .izDivu h _ _ _ _ => h.ok
  | .izRem h _ _ _ _ => h.ok
  | .izAddi h _ _ _ => h.ok
  | .izAndi h _ _ _ => h.ok
  | .izOri h _ _ _ => h.ok
  | .izXori h _ _ _ => h.ok
  | .izShli h _ _ _ => h.ok
  | .izShri h _ _ _ => h.ok
  | .izSrai h _ _ _ => h.ok
  | .izMuli h _ _ _ => h.ok
  | .izMovi h _ _ _ => h.ok
  | .izMov h _ _ => h.ok
  | .izNeg h _ _ => h.ok
  | .izAbs h _ _ => h.ok
  | .izNot h _ _ => h.ok
  | .izClz h _ _ => h.ok
  | .izSext8 h _ _ => h.ok
  | .izSext16 h _ _ => h.ok
  | .izMfsw h _ _ => h.ok
  | .izMtsw h _ _ => h.ok
  | .izMfsp h _ _ => h.ok
  | .izMtsp h _ _ => h.ok
  | .izBeq h _ _ _ => h.ok
  | .izBne h _ _ _ => h.ok
  | .izBlt h _ _ _ => h.ok
  | .izBge h _ _ _ => h.ok
  | .izBltu h _ _ _ => h.ok
  | .izBgeu h _ _ _ => h.ok
  | .izBr h _ _ _ => h.ok
  | .izBeqi h _ _ _ _ => h.ok
  | .izBnei h _ _ _ _ => h.ok
  | .izBlti h _ _ _ _ => h.ok
  | .izBgei h _ _ _ _ => h.ok
  | .izBltui h _ _ _ _ => h.ok
  | .izBgeui h _ _ _ _ => h.ok
  | .izJmp h _ => h.ok
  | .izCall h _ => h.ok
  | .izJmpr h _ _ => h.ok
  | .izCallr h _ _ => h.ok
  | .izPush h _ _ => h.ok
  | .izPop h _ _ => h.ok
  | .izPusha h _ _ => h.ok
  | .izPopa h _ _ => h.ok
  | .izLd h _ _ _ _ => h.ok
  | .izSt h _ _ _ _ => h.ok
  | .izLdx h _ _ _ _ => h.ok
  | .izStx h _ _ _ _ => h.ok
  | .izLdc h _ _ _ _ => h.ok
  | .izStc h _ _ _ _ => h.ok
  | .izLdp h _ _ _ _ => h.ok
  | .izAddp h _ _ _ _ => h.ok
  | .izMfp h _ _ => h.ok
  | .izSetsd h _ _ => h.ok
  | .izGetsd h _ _ => h.ok
  | .izMpy h _ _ _ => h.ok
  | .izMac h _ _ _ => h.ok
  | .izMsu h _ _ _ => h.ok
  | .izClra h _ _ _ => h.ok
  | .izExt h _ _ _ => h.ok
  | .izMova h _ _ _ => h.ok
  | .izAdda h _ _ _ => h.ok
  | .izSha h _ _ _ => h.ok
  | .izMacp h _ _ _ => h.ok
  | .izCmac h _ _ _ => h.ok
  | .izCmacj h _ _ _ => h.ok
  | .izLoop h _ _ => h.ok
  | .izLoopr h _ _ _ => h.ok
  | .izMfls h _ _ => h.ok
  | .izMtls h _ _ => h.ok
  | .izMfle h _ _ => h.ok
  | .izMtle h _ _ => h.ok
  | .izMflc h _ _ => h.ok
  | .izMtlc h _ _ => h.ok
  | .izMfa h _ _ => h.ok
  | .izMta h _ _ => h.ok
  | .izMfpb h _ _ => h.ok
  | .izCore h _ _ => h.ok
  | .excKey m => m.ok
  | .excUnkey m => m.ok
  | .excClear m => m.ok
  | .dpdReset m => m.ok
  | .excSequenceTimer _ => true
  | .excRampEnd _ _ => true
  | .paFault _ _ _ => true
  | .autokey _ => true
  | .laneEnableWrite m k _ => m.ok && decide (k < 8)
  | .powerLoopUpdate k _ => decide (k < 8)
  | .overpowerCheck k _ => decide (k < 8)
  | .templateCheck k _ _ => decide (k < 8)
  | .dpdUpdate _ _ => true
  | .dpdSuspend _ => true
  | .couplerCommit m => m.ok
  | .excRdsGroupSend k _ => decide (k < 8)
  | .excDabFrame g _ _ => decide (g < 2)
  | .excContentSend k _ => decide (k < 8)
  | .slStandby m _ ch => m.ok && decide (ch < 128)
  | .slRx m _ ch => m.ok && decide (ch < 128)
  | .slTx m _ ch => m.ok && decide (ch < 128)
  | .slOff m => m.ok
  | .slCal m _ ch => m.ok && decide (ch < 128)
  | .slAbort m => m.ok
  | .slLock _ _ _ => true
  | .slLockLoss _ => true
  | .slPreambleDetect _ _ _ => true
  | .slCapture _ _ => true
  | .slSyncFound _ _ _ _ => true
  | .slSyncTimeout _ => true
  | .slHeader _ _ => true
  | .slRxDone _ _ => true
  | .slRxFree m _ => m.ok
  | .slLbtEnd _ _ => true
  | .slGrant _ => true
  | .slGrantTimeout _ => true
  | .slTxDone _ => true
  | .slGntLost _ => true
  | .slDutyBin _ => true
  | .slBgcal ch _ _ _ => decide (ch < 128)
  | .calRun m n => m.ok && decide (n < 6)
  | .calCancel m n => m.ok && decide (n < 6)
  | .calTempCheck _ => true
  | .calCondMet n _ => decide (n < 6)
  | .calWait n _ => decide (n < 6)
  | .calWaitTimeout n _ => decide (n < 6)
  | .calMeasureDone n _ _ => decide (n < 6)
  | .calDone n _ => decide (n < 6)
  | .calAbandon _ => true
  | .calImgSave m => m.ok
  | .calImgRestore m _ => m.ok
  | .secRollFw m => m.ok
  | .secRollBs m => m.ok
  | .secToken m _ _ => m.ok
  | .secNvWrite m id _ _ => m.ok && decide (id < 256)
  | .secNvRead m id => m.ok && decide (id < 256)
  | .secAttest m _ _ => m.ok
  | .attestTokenRefill _ => true
  | .podFault p cause _ => decide (p < 256) && decide (cause < 6)
  | .podWatchdog p _ => decide (p < 256)
  | .injectPod m p => m.ok && decide (p < 256)
  | .injectPair m k => m.ok && decide (k < 256)
  | .checkpointWrite _ _ => true
  | .wearSecond _ => true
  | .obsSnap m => m.ok
  | .obsClear m => m.ok
  | .railsAboveBrownoutThreshold => true
  | .refclkPresenceChange _ _ => true
  | .ptpDelayReqSend _ => true
  | .marrowAdmissionWindow k _ => decide (k < 4)
  | .dmaClass1WaitTimeout q _ => decide (q < 64)
  | .undefinedOpcode h _ _ => h.ok

end Sys2Proof
end

