-- ==== Sys2Proof/Tests/Slice0.lean ====
section
/-! SUPPORT. Tests.  Well-formedness refuses an ill-formed term for each of its checks; the bytes of Izham-24
instructions, written out from the encoding tables of spec/17, decode to the instruction they stand for; and single
commands give what the spec's worked examples and tables state.  No expected value was taken from the model. -/

set_option linter.unusedVariables false
set_option Elab.async false

namespace Sys2Proof.Tests

open Sys2Proof Sys2Proof.Machine

/-! ## Well-formedness -/

/-- Commands that break one rule of well-formedness each, part 1: every one is refused. -/
theorem test_illformed_1 :
    ([.pcieLinkChange false 8 0,
      .pcieLinkChange false 0 8,
      .marrowInitDone 16,
      .directoryRead 2 [],
      .directoryReadTimeout 2,
      .bootLoad (.core 8),
      .featAcceptWrite (.core 8) 0 0,
      .featAcceptWrite .pcie 4 0,
      .featLock (.core 8),
      .spllCommit (.core 8),
      .clkSrcChange (.core 8) 0,
      .clkSrcChange .pcie 4,
      .programmeClockFade 256,
      .ptpMasterSend 4 0,
      .gainApply (.core 8) false false,
      .gainApplied 2 0,
      .ovlWindowEnd 2 0 0 0 0,
      .lnaProtect 2,
      .adcBlockArrival 3 0 [] 0 false,
      .blockDrop 256 0 0 0,
      .blockDrop 0 9 0 0,
      .voidToken 9 0 0 0,
      .guardAbsorb 256,
      .guardVoidSupply 256 0 0 0 0,
      .guardVoidSupply 0 9 0 0 0,
      .fabIsolate (.core 8) 0,
      .fabIsolate .pcie 256,
      .fabRestore (.core 8) 0,
      .fabRestore .pcie 256,
      .podDrainEnd 256 0 0,
      .podLoadDone 256 0 false,
      .reloadErr 256 0,
      .loadPortWrite (.core 8) 0 0,
      .loadPortWrite .pcie 0x100000 0,
      .loadPortWrite .pcie 2 0,
      .prResetPort (.core 8),
      .prStart (.core 8),
      .bankDataWrite (.core 8) 0,
      .bankOpen (.core 8),
      .bankSeal (.core 8)] : List Instr).all (fun c => !c.wellFormed) = true := by
  decide

/-- Commands that break one rule of well-formedness each, part 2: every one is refused. -/
theorem test_illformed_2 :
    ([.pathStart (.core 8) 0,
      .pathStart .pcie 512,
      .pathStop (.core 8) 0,
      .pathStop .pcie 512,
      .pathSync (.core 8) 0,
      .pathSync .pcie 512,
      .pathChangeInstant 512 0,
      .shiftWrite (.core 8) 0 0,
      .shiftWrite .pcie 512 0,
      .pathOutputBlock 512,
      .metricWindow 512 0,
      .metricPublish 512,
      .demConfigWrite (.core 8) 0 0 0,
      .demConfigWrite .pcie 512 0 0,
      .demConfigWrite .pcie 0 3 0,
      .rdsBlock 512 0 0 0,
      .piTimeout 512 0,
      .ensStart (.core 8) 0,
      .ensStart .pcie 48,
      .ensStop (.core 8) 0,
      .ensStop .pcie 48,
      .ensResync (.core 8) 0,
      .ensResync .pcie 48,
      .slotReleaseInstant 48 0,
      .ensLock 48 [] false 0 0,
      .ensLost 48 0 0,
      .subchRecord 48 0 0 [],
      .subchRecord 0 64 0 [],
      .decStart (.core 8) 0,
      .decStart .pcie 128,
      .decStop (.core 8) 0,
      .decStop .pcie 128,
      .decRun 128 0 false false false 0,
      .decWait 128,
      .decConceal 128 false 0 0 0 0,
      .multiplexReconfig 48 [],
      .folStart (.core 8) 0,
      .folStart .pcie 256,
      .folStop (.core 8) 0,
      .folStop .pcie 256] : List Instr).all (fun c => !c.wellFormed) = true := by
  decide

/-- Commands that break one rule of well-formedness each, part 3: every one is refused. -/
theorem test_illformed_3 :
    ([.abortXfade (.core 8) 0,
      .abortXfade .pcie 256,
      .folSwitch (.core 8) 0 0,
      .folSwitch .pcie 256 0,
      .folSwitch .pcie 0 16,
      .folRealign (.core 8) 0,
      .folRealign .pcie 256,
      .progSearchStart 256 0,
      .progOrigin 256 0 0,
      .progOrigin 0 16 0,
      .progStopped 256,
      .progBlockForm 256 false,
      .candidateAdd 256 0 0 0 0,
      .candidateAdd 0 3 0 0 0,
      .candidateAdd 0 0 4 0 0,
      .candidateAdd 0 0 0 0 16,
      .candidateRemove 256 0 0,
      .candidateRemove 0 16 0,
      .candidateUnusable 256 0,
      .candidateUnusable 0 16,
      .candidateUsable 256 0,
      .candidateUsable 0 16,
      .folInelig 256 0,
      .folInelig 0 16,
      .poolPathStart 256 0 false,
      .poolPathTimeout 512 0,
      .fennelDecoderStart 256 0,
      .fennelDecoderStart 0 16,
      .fennelDecoderStop 128 0,
      .scoreUpdate 256 0,
      .scoreUpdate 0 16,
      .discretionarySwitch 256,
      .forcedSwitch 256,
      .hardSwitch 256,
      .xfadeEnd 256,
      .alignMeasure 256 0 0,
      .alignMeasure 0 16 0,
      .loudnessUpdate 256 0 0,
      .loudnessUpdate 0 16 0,
      .clistWrite (.core 8) 0] : List Instr).all (fun c => !c.wellFormed) = true := by
  decide

/-- Commands that break one rule of well-formedness each, part 4: every one is refused. -/
theorem test_illformed_4 :
    ([.mrwApply (.core 8),
      .timeshiftWrite (.core 8) 0 0,
      .snpArm (.core 8),
      .snpTrig (.core 8),
      .snapStop (.core 8),
      .sapCtlWrite (.core 8) 0 0,
      .sapCtlWrite .pcie 8 0,
      .sapClockStop 8 0 0,
      .sapClockStop 0 2 0,
      .sapBlockHandoff 8 0 0,
      .sapMapWrite (.core 8) 0 0 0,
      .sapMapWrite .pcie 8 0 0,
      .sapMute (.core 8) 0 false,
      .sapMute .pcie 8 false,
      .sapTapBlock 8 0,
      .maskCommit (.core 8) 0,
      .maskCommit .pcie 8,
      .tcsApply (.core 8) 0,
      .tcsApply .pcie 8,
      .aes3CsBlock 8,
      .ethLinkChange 2 false false,
      .aes67SenderEnable (.core 8) 0 0,
      .aes67SenderEnable .pcie 256 0,
      .aes67PacketTx 256 0,
      .aes67ReceiverBlock 16 0,
      .vitaPacketTx 64 0,
      .vitaContextTx 64 0,
      .casrumSideSend 8 0,
      .egressTimeout 2 0 0,
      .egressTimeout 0 4 0,
      .bar0Access false 0x100000 0 [],
      .dmaStreamRecord 64 0,
      .dmaCopyDescriptor 64 [] [] [] 0,
      .dmaCopyDescriptor 0 [] [] [5] 0,
      .msixSignal 64 0,
      .hbRead 65536 0,
      .hbRead 0 4,
      .hbWriteLow 65536 0 0,
      .hbWriteLow 0 4 0,
      .hbWriteLow 0 0 65536] : List Instr).all (fun c => !c.wellFormed) = true := by
  decide

/-- Commands that break one rule of well-formedness each, part 5: every one is refused. -/
theorem test_illformed_5 :
    ([.hbWriteHigh 65536 0 0,
      .hbWriteHigh 0 4 0,
      .hbWriteHigh 0 0 65536,
      .hbPageWrite 65536,
      .registerWrite (.core 8) 0 0,
      .registerWrite .pcie 0x100000 0,
      .registerWrite .pcie 2 0,
      .rcRegisterRead (.core 8) 0,
      .rcRegisterRead .pcie 0x100000,
      .rcRegisterRead .pcie 2,
      .eventRaise 256 0,
      .eventRaise 0 65536,
      .eventCoalesceRelease 8 0 0,
      .eventCoalesceRelease 0 2 0,
      .evtClearWrite (.core 8) 0 0,
      .evtClearWrite .pcie 0x100000 0,
      .evtClearWrite .pcie 2 0,
      .ktIndexWrite 256,
      .ktDataWrite false 256,
      .ktStatWrite 256,
      .ktTune 4,
      .ktSeekUp 4,
      .ktSeekDown 4,
      .ktCancel 4,
      .ktPowerDown 4,
      .ktPowerUp 4,
      .ktSeekStep 4 0,
      .ktBusyFall 4 0,
      .ktFlush 4,
      .ktAudcfgWrite 256,
      .ktAudselWrite 256,
      .ktCaptureEnable 256,
      .pairFault 9 0,
      .interruptEntry 8 [],
      .interruptEntry 0 [5],
      .coreHalt (.core 8) 0 false,
      .coreHalt .pcie 8 false,
      .coreStep (.core 8) 0 [],
      .coreStep .pcie 8 [],
      .coreStep .pcie 0 [5]] : List Instr).all (fun c => !c.wellFormed) = true := by
  decide

/-- Commands that break one rule of well-formedness each, part 6: every one is refused. -/
theorem test_illformed_6 :
    ([.coreKick (.core 8) 0,
      .coreKick .pcie 8,
      .coreWdog 8 0,
      .wcLineFlush 8 0 0 0,
      .wcLineFlush 0 0 5 0,
      .excKey (.core 8),
      .excUnkey (.core 8),
      .excClear (.core 8),
      .dpdReset (.core 8),
      .laneEnableWrite (.core 8) 0 0,
      .laneEnableWrite .pcie 8 0,
      .powerLoopUpdate 8 0,
      .overpowerCheck 8 0,
      .templateCheck 8 [] false,
      .couplerCommit (.core 8),
      .excRdsGroupSend 8 0,
      .excDabFrame 2 0 [],
      .excContentSend 8 0,
      .slStandby (.core 8) false 0,
      .slStandby .pcie false 128,
      .slRx (.core 8) false 0,
      .slRx .pcie false 128,
      .slTx (.core 8) false 0,
      .slTx .pcie false 128,
      .slOff (.core 8),
      .slCal (.core 8) false 0,
      .slCal .pcie false 128,
      .slAbort (.core 8),
      .slRxFree (.core 8) 0,
      .slBgcal 128 0 [] false,
      .calRun (.core 8) 0,
      .calRun .pcie 6,
      .calCancel (.core 8) 0,
      .calCancel .pcie 6,
      .calCondMet 6 0,
      .calWait 6 0,
      .calWaitTimeout 6 0,
      .calDone 6 0,
      .calImgSave (.core 8),
      .calImgRestore (.core 8) []] : List Instr).all (fun c => !c.wellFormed) = true := by
  decide

/-- Commands that break one rule of well-formedness each, part 7: every one is refused. -/
theorem test_illformed_7 :
    ([.secRollFw (.core 8),
      .secRollBs (.core 8),
      .secNvRead (.core 8) 0,
      .secNvRead .pcie 256,
      .secAttest (.core 8) [] false,
      .podFault 256 0 0,
      .podFault 0 6 0,
      .podWatchdog 256 0,
      .injectPod (.core 8) 0,
      .injectPod .pcie 256,
      .injectPair (.core 8) 0,
      .injectPair .pcie 256,
      .obsSnap (.core 8),
      .obsClear (.core 8),
      .marrowAdmissionWindow 4 0,
      .dmaClass1WaitTimeout 64 0] : List Instr).all (fun c => !c.wellFormed) = true := by
  decide

/-- Commands that carry a record: the number they name is checked. -/
theorem test_illformed_records :
    (∀ f, (Instr.ensFrame 48 f).wellFormed = false) ∧ (∀ v, (Instr.fennelInfoUpdate 48 v).wellFormed = false) ∧
    (∀ f, (Instr.sapFrame 8 f).wellFormed = false) ∧ (∀ f x, (Instr.ethFrameRx 2 f x).wellFormed = false) ∧
    (∀ p x, (Instr.aes67PacketRx 2 0 p x).wellFormed = false) ∧ (∀ p x, (Instr.aes67PacketRx 0 16 p x).wellFormed = false) ∧
    (∀ q x, (Instr.calMeasureDone 6 q x).wellFormed = false) ∧ (∀ v b, (Instr.secToken (.core 8) v b).wellFormed = false) ∧
    (∀ v b, (Instr.secNvWrite .pcie 256 v b).wellFormed = false) := by
  refine ⟨?_, ?_, ?_, ?_, ?_, ?_, ?_, ?_, ?_⟩ <;> intros <;> rfl

/-- An instruction names a core that exists, has at most four prefixes, and gives codes of R298. -/
theorem test_illformed_izham :
    ([.izNop ⟨8, [], []⟩, .izNop ⟨0, [.sat, .sat, .sat, .sat, .sat], []⟩, .izAdd ⟨0, [], [5]⟩ 0 0 0 0] : List Instr).all
      (fun c => !c.wellFormed) = true := by
  decide

/-- A well-formed command of each shape. -/
theorem test_wellformed :
    ([.izNop ⟨7, [.sat], [0, 4]⟩, .pathStart .pcie 511, .featAcceptWrite (.core 7) 3 0, .registerWrite .casrum 0xFFFFC 0]
      : List Instr).all (fun c => c.wellFormed) = true := by
  decide

/-! ## Izham-24 bytes -/

/-- One word of each format, byte by byte from R440 to R455: F0, FRR, FRI, FR, FB, FBR, FBI, FJ, FM, FA, FLOOP, FLOOPR and
FX, and each prefix. -/
theorem test_decode_formats :
    decodeIz [0x00] = .op [] (.f0 .nop) ∧
    decodeIz [0x10, 0x31, 0x20] = .op [] (.frr .add 3 1 2 0) ∧
    decodeIz [0x28, 0x50, 0x7F] = .op [] (.fri .movi 5 0 0x7F) ∧
    decodeIz [0x30, 0x71] = .op [] (.fr .mov 7 1) ∧
    decodeIz [0x42, 0x12, 0xF0, 0xFF] = .op [] (.fb .lt 1 2 0xFFF0) ∧
    decodeIz [0x4C, 0x10, 0x05, 0x08, 0x00] = .op [] (.fbi .ltu 1 0 5 8) ∧
    decodeIz [0x51, 0x56, 0x34, 0x12] = .op [] (.fj true 0x123456) ∧
    decodeIz [0x61, 0x2B, 0xFE] = .op [] (.fm .st 2 1 3 0xFE) ∧
    decodeIz [0x80, 0x0A, 0x00, 0x20, 0x01] = .op [] (.loop 10 0x120) ∧
    decodeIz [0xFF, 0x11, 0x25] = .op [] (.fx .mta 2 5) := by
  decide

/-- The bytes of the worked example of spec/17: CLRA a0; REP #64 MACP a0, [p0]+, [p1]+; SAT EXT g4, a0, 0; and
REP g2 ADDI g2, g2, #1. -/
theorem test_decode_example :
    decodeIz [0x73, 0x00, 0x00] = .op [] (.fa .clra 0 0 0) ∧
    decodeIz [0xF0, 0x3F, 0x78, 0x01, 0x00] = .op [.repN 0x3F] (.fa .macp 0x01 0 0) ∧
    decodeIz [0xF2, 0x74, 0x40, 0x00] = .op [.sat] (.fa .ext 0x40 0 0) ∧
    decodeIz [0xD2, 0x20, 0x22, 0x01] = .op [.repG 2] (.fri .addi 2 2 1) := by
  decide

/-- An undefined entry of map 1 is no instruction (R458). -/
theorem test_decode_undefined : decodeIz [0xFF, 0x33, 0x00] = .undef [] 0xFF 0x33 := by
  decide

/-! ## Worked examples -/

/-- What a command leaves, for a test. -/
def after (o : Host.Outcome State Fault Refusal) : State := match o with | .next t => t | _ => {}

/-- spec/04, converting a timestamp: the mapping of the example. -/
def mapping : State :=
  (fs (run.set64 CLK_MAP_CNT_LO CLK_MAP_CNT_HI 7864320000000)
    [(CLK_MAP_SEC_LO_SEC, 1893456037), (CLK_MAP_NS_NS, 500000000)]).setI CLK_MAP_RATE_RATE 250000

theorem test_timestamp : mapping.ptpTime 7888896000000 = 1893456043750001562 := by
  decide +kernel

/-- spec/13, one programme on a 10GBASE-R port: the RTP timestamp and the reserved rate of an L24 sender at 1 ms. -/
theorem test_rtp : mapping.mediaTime 7888896000000 % 2 ^ 32 = 0x0531CB20 ∧ mapping.txRate 0 = 2928000 := by
  decide +kernel

/-- spec/03, the boot example: bit 17 fails R28 on a native strap, bit 23 was not offered, bit 40 is reserved. -/
theorem test_negotiation :
    (let s := (fs run [(SYS_BOOT_STATE, 3)]).wr (FEAT_ACTIVE 0) 0
     let t := after (execLockComplete { s with boot := { run.boot with lock := some (0x19DF, true, true, true), lockAsk := 0x8219DF + 2 ^ 40 } })
     t.rd (FEAT_ACTIVE 0) == 0x19DF && t.rd (FEAT_REJECT 0) == 0x820000 && t.rd (FEAT_REJECT 1) == 0x100 && t.stage == 4) = true := by
  decide +kernel

/-- spec/07, starting an FM path: bin and offset of 98.5 MHz, and what CTL = 0x6201 shows in DLY and DSMP. -/
theorem test_fm_path_tuning : binOf 98500000 = 96 ∧ freqOf 98500000 96 = 0x188000 ∧ binOf 101100000 = 99 ∧
    freqOf 101100000 99 = -2260992 := by
  decide

theorem test_fm_path_delay :
    (let t := pathRefresh 20 (run.wr (PTHn_CTL 20) 0x6201)
     t.getF (PTHn_DLY_TICKS 20) == 2211840 && t.getF (PTHn_DSMP_SAMPLES 20) == 27) = true := by
  decide +kernel

/-- The table of spec/07 R183: D in samples and in ticks, and the blocks that a missing bin block costs. -/
theorem test_presets :
    (List.range 11).map (fun p => chainSamples p 0) = [24, 26, 27, 27, 27, 22, 27, 33, 87, 111, 47] ∧
    (List.range 11).map (fun p => chainSamples p 0 * presetTout p) =
      [46080, 99840, 207360, 414720, 829440, 1351680, 2211840, 2703360, 7127040, 9093120, 90240] ∧
    (List.range 11).map lossBound = [1, 2, 2, 2, 2, 2, 2, 3, 4, 5, 3] := by
  decide +kernel

/-- spec/07: the path started at t0 runs from 500,001 × 15,728,640. -/
theorem test_fm_path_start :
    (let s : State := { (run.wr (PTHn_CTL 20) 0x6201) with counting := true, syscnt := 7864330000000 }
     let t := after (execPathChangeInstant 20 7864335728640 (after (execPathStart .pcie 20 s)))
     t.getF (PTHn_STAT_STATE 20) == 2 && t.get64 (PTHn_START_LO 20) (PTHn_START_HI 20) == 7864335728640) = true := by
  decide +kernel

/-- spec/08, the first 70 ms: CNR 21.8 dB with the pilot gives SEP 45, and no soft mute. -/
theorem test_blend :
    (let s := fs run [(PTHn_CTL_TYPE 20, 1), (DEMn_STAT_PILOT 20, 1)]
     sepOf 20 218 0 s == 45 && smuteOf 20 218 0 s == 0) = true := by
  decide +kernel

/-- spec/10, programme 7 across three sources, steps 5 and 7: the raw qualities of a decoder with ERR 1 and MER 11.8 dB,
and with ERR 14 and MER 9 dB. -/
theorem test_decoder_quality :
    (let c : Cand := { kind := 2, num := 5, origin := 0 }
     ((fs run [(DECd_CTL_SLOT 5, 3), (DECd_QUAL_ERR 5, 1)]).setI (ENSs_LVL_MER 3) 118).quality c = 985 ∧
     ((fs run [(DECd_CTL_SLOT 5, 3), (DECd_QUAL_ERR 5, 14)]).setI (ENSs_LVL_MER 3) 90).quality c = 785) := by
  decide +kernel

/-- spec/11, capturing a clipping burst: T_end and the depth in ticks. -/
theorem test_snapshot :
    (let s : State := { (fs run [(MRW_SNP_CTL_TRIG, 2), (MRW_SNP_CTL_EVT, 168), (MRW_SNP_POST_POST_US, 100000),
         (MRW_SNP_STAT_STATE, 1)]) with
       counting := true, syscnt := 7864500000000,
       mrw := { run.mrw with act := [(0, 128), (128, 128), (256, 192), (448, 32), (480, 32)] } }
     let t := after (execEventRaise evClip 0 s)
     t.snp.tEnd == 7864893216000 && t.getF MRW_SNP_STAT_STATE == 2 && s.snapDepth 2 == 2863311488) = true := by
  decide +kernel

/-- spec/14, a pilot change read over the host bus: bitmap, group, pending group, stamp and instance. -/
theorem test_pilot_event :
    (let s : State := { (fs run [(EVT_CTL_IRQ_EN, 1)]).wr (EVT_Gg_MASK_IRQ 1) 8 with counting := true, syscnt := 7864603115520 }
     let t := after (execEventRaise evStereo 20 s)
     t.rd (EVT_SUM 3 0) == 0x100000 && t.rd (EVT_Gg_STAT 1) == 8 && t.rd EVT_PEND == 2 && t.pins.irqLow
       && t.rd (EVT_STAMP_LO 35) == 0x1EE00000 && t.rd (EVT_STAMP_HI 35) == 0x727 && t.getF (EVT_INST_INST1 17) == 20) = true := by
  decide +kernel

/-- spec/14, step 5: the high half alone clears bit 20 of the bitmap and no other. -/
theorem test_half_write :
    (let t := after (execHbQueueDeliver (after (execHbWriteHigh 0x0A61 3 0x0010 (run.wr (EVT_SUM 3 0) 0x00100001))))
     t.rd (EVT_SUM 3 0) == 1) = true := by
  decide +kernel

/-- spec/23: where FOL7_OFFS, EVT_SUM3_W0, EVT_PEND and EVT_STAMP35_LO lie. -/
theorem test_addresses : FOLp_OFFS 7 = 0x281E0 ∧ EVT_SUM 3 0 = 0x14C0 ∧ EVT_PEND = 0x1004 ∧ EVT_STAMP_LO 35 = 0x1918 := by
  decide

/-- A KT-440 part that is ready. -/
def kt0 : State :=
  { ((fs run [(CMP_STAT_READY, 1), (CMP_STAT_BUSY, 0)]).wr (FEAT_ACTIVE 0) 0x20000) with
    boot := { run.boot with straps := { run.boot.straps with hbMode := true } } }

/-- A write of a byte to port 0, 1 or 2, delivered to the personality. -/
def ktPort (p v : Nat) (s : State) : State :=
  if p = 0 then after (execKtIndexWrite v s) else after (execHbQueueDeliver (after (execKtDataWrite (p == 2) v s)))

/-- spec/15, tuning tuner 2 to 101.1 MHz: INDEX ends at 0x64, FREQ is 10,110. -/
theorem test_kt_frequency :
    (let s := ktPort 2 0x27 (ktPort 2 0x7E (ktPort 2 0 (ktPort 0 0x61 kt0)))
     s.kt.index == 0x64 && s.ktFreq 2 == 10110) = true := by
  decide +kernel

/-- spec/15: TUNE raises BUSY of tuner 2 and sets BIN 99 and FREQ −2,260,992. -/
theorem test_kt_tune :
    (let s := (kt0.ktSet 0x62 0x7E).ktSet 0x63 0x27
     let t := ktPort 1 1 (ktPort 0 0x60 s)
     t.getF CMP_STAT_BUSY == 4 && t.getF (PTHn_BIN_BIN 2) == 99 && t.getI (PTHn_NCO_FREQ 2) == -2260992) = true := by
  decide +kernel

/-- spec/19, a queued transmission: 40 bytes at 1.0 Mchip/s with PRE_LEN 16 and MODP 1 last 7,440 µs, in half
microseconds. -/
theorem test_airtime : (fs run [(SLK_PHY_MODP, 1)]).slAir 40 = 2 * 7440 := by
  decide +kernel

/-- spec/22 R563: a second at 95 °C adds one equivalent second, one at 105 °C two. -/
theorem test_wear : wearOf 380 = 2 ^ 32 ∧ wearOf 420 = 2 * 2 ^ 32 := by
  decide

/-- spec/16, a load overtaken: the sum of an ADD is not readable by the next instruction, and stands once the
results in flight are in place (R426). -/
theorem test_add_distance :
    (let t := after (execIzAdd h1 5 1 2 0 iz)
     (t.core 1).reg 5 == (iz.core 1).reg 5 && (t.settled 1).reg 5 == 8) = true := by
  decide +kernel

end Sys2Proof.Tests
end

section
/-! SUPPORT. Where the field tables place a register family: the address of every copy finds the family's own
description in the table of its block, so that the reset values of all copies are read from one entry. -/

namespace Sys2Proof.Machine

/-- A description names no copy at an address past its last outer copy, nor at one past the inner copies of the
outer copy it falls in. -/
theorem RegDesc.copy_eq_none {q : RegDesc} {a : Nat} (hs : 0 < q.stride) (hi : 0 < q.istride)
    (h : q.base + q.stride * q.count ≤ a ∨ q.icount * q.istride ≤ (a - q.base) % q.stride) : q.copy a = none := by
  unfold RegDesc.copy
  split
  · rfl
  · rw [if_neg]
    simp only [Bool.and_eq_true, decide_eq_true_eq]
    rintro ⟨⟨ho, -⟩, hj⟩
    rw [Nat.div_lt_iff_lt_mul hs, Nat.mul_comm] at ho
    rw [Nat.div_lt_iff_lt_mul hi] at hj
    omega

/-- A family's address with outer number n and inner number 0 names that copy. -/
theorem RegDesc.copy_outer {r : RegDesc} {n : Nat} (hs : 0 < r.stride) (hi : 0 < r.icount) (hn : n < r.count) :
    r.copy (r.base + r.stride * n) = some (n, 0) := by
  simp [RegDesc.copy, hs, hi, hn]

/-- No outer copy of family r starts inside family q: q ends before r begins, or r lies past q's inner copies, with
q's own stride or within one stride of q. -/
abbrev RegDesc.Avoids (r q : RegDesc) : Prop :=
  0 < q.stride ∧ 0 < q.istride ∧
  (q.base + q.stride * q.count ≤ r.base ∨
    q.base + q.icount * q.istride ≤ r.base ∧
      (q.stride = r.stride ∧ r.base < q.base + q.stride ∨ r.base + r.stride * r.count ≤ q.base + q.stride))

theorem RegDesc.Avoids.copy_eq_none {r q : RegDesc} {n : Nat} (h : r.Avoids q) (hs : 0 < r.stride)
    (hn : n < r.count) : q.copy (r.base + r.stride * n) = none := by
  obtain ⟨hq, hi, hpast | ⟨hin, hsame | hwithin⟩⟩ := h
  · exact RegDesc.copy_eq_none hq hi (.inl (by omega))
  · obtain ⟨hstride, hlt⟩ := hsame
    refine RegDesc.copy_eq_none hq hi (.inr ?_)
    have hsub : r.base + r.stride * n - q.base = (r.base - q.base) + q.stride * n := by rw [hstride]; omega
    rw [hsub, Nat.add_mul_mod_self_left, Nat.mod_eq_of_lt (by omega)]
    omega
  · refine RegDesc.copy_eq_none hq hi (.inr ?_)
    have hlast : r.stride * n < r.stride * r.count := Nat.mul_lt_mul_of_pos_left hn hs
    rw [Nat.mod_eq_of_lt (by omega)]
    omega

/-- A search finds entry k where no entry before it names the address. -/
theorem findReg_eq_of_getElem? {l : List RegDesc} {k a o j : Nat} {r : RegDesc} (hk : l[k]? = some r)
    (hskip : ∀ q ∈ l.take k, q.copy a = none) (hr : r.copy a = some (o, j)) : findReg l a = some (r, o, j) := by
  induction l generalizing k with
  | nil => simp at hk
  | cons q t ih =>
    cases k with
    | zero =>
      obtain rfl : q = r := by simpa using hk
      simp [findReg, hr]
    | succ k =>
      have hq : q.copy a = none := hskip q (by simp)
      have ht : ∀ p ∈ t.take k, p.copy a = none := fun p hp => hskip p (by simp [hp])
      simpa [findReg, hq] using ih (by simpa using hk) ht

/-- The ends of the blocks of R570. -/
def blockEnds : List Nat :=
  [0x1000, 0x2000, 0x3000, 0x4000, 0x10000, 0x18000, 0x20000, 0x28000, 0x30000, 0x34000, 0x38000, 0x3c000, 0x40000,
    0x48000, 0x4c000, 0x50000, 0x58000, 0x60000, 0x68000, 0x70000, 0x80000]

/-- Addresses that no block end separates have one table. -/
theorem blockRegs_congr {a b : Nat} (h : ∀ e ∈ blockEnds, a < e ↔ b < e) : blockRegs a = blockRegs b := by
  simp only [blockEnds, List.forall_mem_cons] at h
  simp only [blockRegs, h]

/-- Outside the blocks MRW and CMP a register resets to the value of its field table alone. -/
theorem regResetExtra_eq_zero {a : Nat} (h : a < 0x30000 ∨ 0x34000 ≤ a ∧ a < 0x70000) : regResetExtra a = 0 := by
  unfold regResetExtra MRW_REG_BASE MRW_REG_SIZE MRW_RQr_CFG CMP_KT
  simp only [Bool.and_eq_true, Bool.or_eq_true, decide_eq_true_eq]
  repeat rw [if_neg (by omega)]

/-- The outer copies of family r, entry k of its block's table, all lie in that block, outside MRW and CMP, and no
earlier entry names one of them. -/
abbrev RegDesc.LiesAt (r : RegDesc) (k : Nat) : Prop :=
  0 < r.stride ∧ 0 < r.icount ∧
  (∀ e ∈ blockEnds, r.base < e → r.base + r.stride * (r.count - 1) < e) ∧
  (r.base < 0x30000 ∨ 0x34000 ≤ r.base ∧ r.base < 0x70000) ∧
  ∀ q ∈ (blockRegs r.base).take k, r.Avoids q

/-- Every outer copy of a family resets to the word of its field table. -/
theorem regReset_family {r : RegDesc} {k n : Nat} (hk : (blockRegs r.base)[k]? = some r) (h : r.LiesAt k)
    (hn : n < r.count) : regReset (r.base + r.stride * n) = BitVec.ofNat 32 (fieldsReset r.fields n) := by
  obtain ⟨hs, hi, hends, hextra, havoid⟩ := h
  have hlast : r.stride * n ≤ r.stride * (r.count - 1) := Nat.mul_le_mul_left _ (by omega)
  have hblock : blockRegs (r.base + r.stride * n) = blockRegs r.base := blockRegs_congr fun e he => by
    have hend := hends e he
    omega
  have hfound := findReg_eq_of_getElem? hk (fun q hq => (havoid q hq).copy_eq_none hs hn) (RegDesc.copy_outer hs hi hn)
  have hplain : regResetExtra (r.base + r.stride * n) = 0 := by
    have hmrw := hends 0x30000 (by decide)
    have hcmp := hends 0x70000 (by decide)
    exact regResetExtra_eq_zero (by omega)
  simp only [regReset, hblock, hfound, hplain, Nat.add_zero]

theorem fieldsReset_nil (o : Nat) : fieldsReset [] o = 0 := rfl

theorem fieldsReset_cons_lit (hi lo v o : Nat) (acc : Acc) (chk : Chk) (t : List FieldDesc) :
    fieldsReset (⟨hi, lo, acc, .lit v, chk⟩ :: t) o = (v <<< lo) + fieldsReset t o := by
  rw [fieldsReset, Rst.val]

theorem fieldsReset_cons_inst (hi lo o : Nat) (acc : Acc) (chk : Chk) (t : List FieldDesc) :
    fieldsReset (⟨hi, lo, acc, .inst, chk⟩ :: t) o = (o <<< lo) + fieldsReset t o := by
  rw [fieldsReset, Rst.val]

/-- Fields whose reset values are all numbers reset alike in every copy. -/
theorem fieldsReset_uniform {fs : List FieldDesc} (h : ∀ f ∈ fs, f.rst ≠ .inst) (o o' : Nat) :
    fieldsReset fs o = fieldsReset fs o' := by
  induction fs with
  | nil => rfl
  | cons f t ih =>
    obtain ⟨hf, ht⟩ := List.forall_mem_cons.mp h
    have hv : f.rst.val o = f.rst.val o' := by
      cases hr : f.rst with
      | lit v => rfl
      | inst => exact absurd hr hf
    simp only [fieldsReset, hv, ih ht]

/-- Every outer copy of a family resets to the word of copy 0 where no field resets to its copy's number. -/
theorem regReset_uniform_family {b s c i m k n : Nat} {fs : List FieldDesc} {w : Word}
    (hk : (blockRegs b)[k]? = some ⟨b, s, c, i, m, fs⟩) (h : RegDesc.LiesAt ⟨b, s, c, i, m, fs⟩ k)
    (hw : (∀ f ∈ fs, f.rst ≠ .inst) ∧ BitVec.ofNat 32 (fieldsReset fs 0) = w) (hn : n < c) :
    regReset (b + s * n) = w := by
  obtain ⟨hlit, rfl⟩ := hw
  rw [← fieldsReset_uniform hlit n 0]
  exact regReset_family hk h hn

/-! ## The families of the statement, each at its entry k of its block's table -/

section
variable {n : Nat}

theorem regReset_PTHn_CTL (hn : n < 512) : regReset (PTHn_CTL n) = 2 :=
  regReset_uniform_family (k := 0) rfl (by decide +kernel) (by decide) hn

theorem regReset_DEMn_QCFG (hn : n < 512) : regReset (DEMn_QCFG n) = 0x140C0303 :=
  regReset_uniform_family (k := 1) rfl (by decide +kernel) (by decide) hn

theorem regReset_DECd_CTL (hn : n < 128) : regReset (DECd_CTL n) = 16 :=
  regReset_uniform_family (k := 18) rfl (by decide +kernel) (by decide) hn

theorem regReset_FOLp_CTL (hn : n < 256) : regReset (FOLp_CTL n) = 0x3E802844 :=
  regReset_uniform_family (k := 0) rfl (by decide +kernel) (by decide) hn

theorem regReset_SAPk_CTL (hn : n < 8) : regReset (SAPk_CTL n) = 0x4100A :=
  regReset_uniform_family (k := 1) rfl (by decide +kernel) (by decide) hn

theorem regReset_NET_TXs_CTL (hn : n < 256) : regReset (NET_TXs_CTL n) = 0x12200 :=
  regReset_uniform_family (k := 20) rfl (by decide +kernel) (by decide) hn

theorem regReset_PCI_Qq_CTL (hn : n < 64) : regReset (PCI_Qq_CTL n) = 0x8100000 :=
  regReset_uniform_family (k := 5) rfl (by decide +kernel) (by decide) hn

theorem regReset_SEQk_WDOG (hn : n < 8) : regReset (SEQk_WDOG n) = 1000 :=
  regReset_uniform_family (k := 9) rfl (by decide +kernel) (by decide) hn

theorem regReset_XLi_DEV (hn : n < 8) : regReset (XLi_DEV n) = 0x294A8CC8 :=
  regReset_uniform_family (k := 22) rfl (by decide +kernel) (by decide) hn

/-- FAB_LPp_MAP.PPOD resets to the pod's own number. -/
theorem regReset_FAB_LPp_MAP (hn : n < 256) : regReset (FAB_LPp_MAP n) = BitVec.ofNat 32 (0xC0000000 + n) := by
  have hfamily := regReset_family (r := ⟨0x5000, 0x10, 256, 4, 1, _⟩) (k := 12) rfl (by decide +kernel) hn
  simpa [FAB_LPp_MAP, fieldsReset_cons_lit, fieldsReset_cons_inst, fieldsReset_nil] using hfamily

end

/-- At reset no register is listed, so each reads its reset value. -/
theorem rd_reset (a : Nat) : State.reset.rd a = regReset a := rfl

/-- Settles O56: a register with one copy is looked up in its block's table by evaluation, a family by the lemma about
all its copies. -/
theorem resetValues : Obligations.ResetValues := by
  unfold Obligations.ResetValues
  simp only [rd_reset]
  -- the queue, SYSCNT, the internal reset and the 31 registers with one copy
  iterate 34 refine ⟨rfl, ?_⟩
  exact ⟨fun _ => regReset_PTHn_CTL, fun _ => regReset_DEMn_QCFG, fun _ => regReset_DECd_CTL,
    fun _ => regReset_FOLp_CTL, fun _ => regReset_SAPk_CTL, fun _ => regReset_NET_TXs_CTL,
    fun _ => regReset_PCI_Qq_CTL, fun _ => regReset_SEQk_WDOG, fun _ => regReset_XLi_DEV,
    fun _ => regReset_FAB_LPp_MAP⟩

end Sys2Proof.Machine
end

section
/-! SUPPORT. The rule of R28 as LOCK applies it: a bit that a round keeps meets its requirement once every bit it
depends on has settled, and the requirements are three levels deep. -/

namespace Sys2Proof.Machine

/-- The bits of a packed list are its entries. -/
theorem testBit_packBits (l : List Bool) (i : Nat) : (packBits l).testBit i = l.getD i false := by
  induction l generalizing i with
  | nil => simp [packBits]
  | cons b t ih =>
    have hbit : packBits (b :: t) = Nat.bit b (packBits t) := by rw [packBits, Nat.bit_val, Nat.add_comm]
    cases i with
    | zero => simp [hbit]
    | succ i => rw [hbit, Nat.testBit_bit_succ, ih, List.getD_cons_succ]

/-- A packed list is a number of as many bits. -/
theorem packBits_lt (l : List Bool) : packBits l < 2 ^ l.length :=
  Nat.lt_pow_two_of_testBit _ fun i hi => by rw [testBit_packBits, List.getD_eq_default _ _ hi]

section
variable (active : Nat) (aud bb snap kt : Bool)

/-- One application of R28 to a candidate set. -/
def featRound (c : Nat) : Nat :=
  packBits ((List.range 128).map fun n => c.testBit n && (active.testBit n || featMeets c aud bb snap kt n))

theorem featFix_succ (k c : Nat) :
    featFix active aud bb snap kt (k + 1) c = featFix active aud bb snap kt k (featRound active aud bb snap kt c) :=
  rfl

theorem testBit_featRound (c : Nat) {n : Nat} (hn : n < 128) :
    (featRound active aud bb snap kt c).testBit n =
      (c.testBit n && (active.testBit n || featMeets c aud bb snap kt n)) := by
  rw [featRound, testBit_packBits, List.getD_eq_getElem _ _ (by simpa using hn)]
  simp

/-- After a round at least, the candidate set is a 128-bit word. -/
theorem featFix_lt (k c : Nat) : featFix active aud bb snap kt (k + 1) c < 2 ^ 128 := by
  induction k generalizing c with
  | zero =>
    have hlt := packBits_lt ((List.range 128).map fun n =>
      c.testBit n && (active.testBit n || featMeets c aud bb snap kt n))
    rwa [List.length_map, List.length_range] at hlt
  | succ k ih => exact ih _

/-- The depth of the requirement of feature n in R28: 0 where it names no other feature, otherwise one more than the
deepest of those it names. -/
def featRank (n : Nat) : Nat :=
  if n = 0 ∨ n = 17 ∨ 23 < n then 0
  else if n = 4 then 3
  else if n = 3 ∨ n = 5 ∨ n = 7 ∨ n = 11 ∨ n = 13 ∨ n = 22 ∨ n = 23 then 2
  else 1

theorem featRank_lt (n : Nat) : featRank n < 4 := by
  unfold featRank
  split_ifs <;> decide

theorem featRank_pos {n : Nat} (h : ¬(n = 0 ∨ n = 17 ∨ 23 < n)) : 0 < featRank n := by
  unfold featRank
  rw [if_neg h]
  split_ifs <;> decide

/-- Whether a feature meets its requirement turns on features of lesser rank alone. -/
theorem featMeets_congr {c d n : Nat} (h : ∀ i, i < 128 → featRank i < featRank n → c.testBit i = d.testBit i) :
    featMeets c aud bb snap kt n = featMeets d aud bb snap kt n := by
  have hroot : (n == 17 || n == 0 || decide (23 < n) || c.testBit 0)
      = (n == 17 || n == 0 || decide (23 < n) || d.testBit 0) := by
    by_cases hn : n = 0 ∨ n = 17 ∨ 23 < n
    · obtain rfl | rfl | hn := hn
      · rfl
      · rfl
      · simp only [hn, decide_true, Bool.or_true, Bool.true_or]
    · rw [h 0 (by decide) (featRank_pos hn)]
  have hbit {m : Nat} (i : Nat) (hm : n = m) (hi : i < 128 ∧ featRank i < featRank m) : c.testBit i = d.testBit i :=
    h i hi.1 (hm ▸ hi.2)
  unfold featMeets
  dsimp only
  refine congrArg₂ _ hroot ?_
  -- the features of R28 in order: 3, 4, 5, 7, 8, 11, 13, 17, 18, 22, 23
  refine ite_congr rfl (fun e => hbit 2 e (by decide)) fun _ => ?_
  refine ite_congr rfl (fun e => congrArg₂ _ (hbit 2 e (by decide)) (hbit 3 e (by decide))) fun _ => ?_
  refine ite_congr rfl (fun e => hbit 2 e (by decide)) fun _ => ?_
  refine ite_congr rfl (fun e => hbit 6 e (by decide)) fun _ => ?_
  refine ite_congr rfl (fun _ => rfl) fun _ => ?_
  refine ite_congr rfl (fun e => hbit 8 e (by decide)) fun _ => ?_
  refine ite_congr rfl (fun e => congrArg (· && snap) (hbit 1 e (by decide))) fun _ => ?_
  refine ite_congr rfl (fun _ => rfl) fun _ => ?_
  refine ite_congr rfl (fun _ => rfl) fun _ => ?_
  refine ite_congr rfl (fun e => hbit 10 e (by decide)) fun _ => ?_
  exact ite_congr rfl (fun e => hbit 9 e (by decide)) fun _ => rfl

/-- Every feature of rank below r that is in set c, and was not active before, meets its requirement in c. -/
def FeatSettled (r c : Nat) : Prop :=
  ∀ n, n < 128 → featRank n < r → c.testBit n = true →
    active.testBit n = true ∨ featMeets c aud bb snap kt n = true

variable {active aud bb snap kt}

/-- A round leaves the features that have settled. -/
theorem FeatSettled.testBit_featRound {r c n : Nat} (h : FeatSettled active aud bb snap kt r c) (hn : n < 128)
    (hr : featRank n < r) : (featRound active aud bb snap kt c).testBit n = c.testBit n := by
  rw [Machine.testBit_featRound _ _ _ _ _ _ hn]
  cases hc : c.testBit n with
  | false => rfl
  | true => simpa using h n hn hr hc

/-- A round settles one more rank: what it keeps met its requirement before it, and the features that this turns on
have settled already. -/
theorem FeatSettled.round {r c : Nat} (h : FeatSettled active aud bb snap kt r c) :
    FeatSettled active aud bb snap kt (r + 1) (featRound active aud bb snap kt c) := by
  intro n hn hr hin
  have hsame : featMeets (featRound active aud bb snap kt c) aud bb snap kt n = featMeets c aud bb snap kt n :=
    featMeets_congr _ _ _ _ fun i hi hlt => h.testBit_featRound hi (by omega)
  rw [Machine.testBit_featRound _ _ _ _ _ _ hn, Bool.and_eq_true, Bool.or_eq_true] at hin
  rw [hsame]
  exact hin.2

theorem FeatSettled.featFix {r c : Nat} (h : FeatSettled active aud bb snap kt r c) (k : Nat) :
    FeatSettled active aud bb snap kt (r + k) (featFix active aud bb snap kt k c) := by
  induction k generalizing r c with
  | zero => exact h
  | succ k ih =>
    rw [featFix_succ, Nat.add_comm k, ← Nat.add_assoc]
    exact ih h.round

/-- Four rounds settle every feature. -/
theorem featFix_meets (c k : Nat) {n : Nat} (hk : 4 ≤ k) (hn : n < 128)
    (hin : (featFix active aud bb snap kt k c).testBit n = true) :
    active.testBit n = true ∨ featMeets (featFix active aud bb snap kt k c) aud bb snap kt n = true := by
  have hzero : FeatSettled active aud bb snap kt 0 c := fun _ _ hr => absurd hr (Nat.not_lt_zero _)
  have hrank := featRank_lt n
  exact hzero.featFix k n hn (by omega) hin

end

end Sys2Proof.Machine
end

section
/-! SUPPORT. What leaves the SYS block and the boot state: the personality's start, the start of the rings, the fixing
of the regions, the interrupt lines and the trace write the registers of other blocks only. -/

namespace Sys2Proof.Machine

/-- Every SYS register reads in u as in s, and the boot state and the power state are the same. -/
def KeepsSys (s u : State) : Prop := (∀ a < 0x1000, u.rd a = s.rd a) ∧ u.boot = s.boot ∧ u.pwr = s.pwr

section
variable {s u v : State}

theorem KeepsSys.rd (h : KeepsSys s u) {a : Nat} (ha : a < 0x1000) : u.rd a = s.rd a := h.1 a ha

theorem KeepsSys.boot (h : KeepsSys s u) : u.boot = s.boot := h.2.1

theorem KeepsSys.pwr (h : KeepsSys s u) : u.pwr = s.pwr := h.2.2

theorem KeepsSys.getF (h : KeepsSys s u) {f : Fld} (hf : f.reg < 0x1000) : u.getF f = s.getF f := by
  unfold State.getF
  rw [h.rd hf]

theorem KeepsSys.refl (s : State) : KeepsSys s s := ⟨fun _ _ => rfl, rfl, rfl⟩

/-- A change of neither registers, boot state nor power state. -/
theorem KeepsSys.of_eq (h : KeepsSys s u) (hr : v.regs = u.regs) (hb : v.boot = u.boot) (hp : v.pwr = u.pwr) :
    KeepsSys s v :=
  ⟨fun a ha => (rd_of_regs hr a).trans (h.rd ha), hb.trans h.boot, hp.trans h.pwr⟩

/-- A write past the SYS block.  The bound is found where the register is one of a family, base plus offset. -/
theorem KeepsSys.wr (h : KeepsSys s u) {a : Nat} (w : Word)
    (ha : 0x1000 ≤ a := by exact Nat.le_add_right_of_le (by decide)) : KeepsSys s (u.wr a w) :=
  ⟨fun b hb => (rd_wr_other _ _ _ _ (by omega)).trans (h.rd hb), h.boot, h.pwr⟩

theorem KeepsSys.setF (h : KeepsSys s u) (f : Fld) (x : Nat)
    (hf : 0x1000 ≤ f.reg := by exact Nat.le_add_right_of_le (by decide)) : KeepsSys s (u.setF f x) := h.wr _ hf

theorem KeepsSys.setI (h : KeepsSys s u) (f : Fld) (i : Int)
    (hf : 0x1000 ≤ f.reg := by exact Nat.le_add_right_of_le (by decide)) : KeepsSys s (u.setI f i) := h.setF f _ hf

theorem KeepsSys.setB (h : KeepsSys s u) (f : Fld) (b : Bool)
    (hf : 0x1000 ≤ f.reg := by exact Nat.le_add_right_of_le (by decide)) : KeepsSys s (u.setB f b) := h.setF f _ hf

theorem KeepsSys.refuseInst (h : KeepsSys s u) (r c : Nat)
    (hr : 0x1000 ≤ r := by exact Nat.le_add_right_of_le (by decide)) : KeepsSys s (refuseInst r c u) :=
  (h.setF ⟨r, 19, 16⟩ _ hr).setF ⟨r, 15, 0⟩ _ hr

theorem KeepsSys.setPath (h : KeepsSys s u) (n : Nat) (p : Path) : KeepsSys s (u.setPath n p) := h

theorem KeepsSys.setDem (h : KeepsSys s u) (n : Nat) (d : Dem) : KeepsSys s (u.setDem n d) := h

theorem KeepsSys.setProg (h : KeepsSys s u) (p : Nat) (v : Prog) : KeepsSys s (u.setProg p v) := h

theorem KeepsSys.setSap (h : KeepsSys s u) (k : Nat) (v : Sap) : KeepsSys s (u.setSap k v) := h

theorem KeepsSys.setTuner (h : KeepsSys s u) (t : Nat) (v : Tuner) : KeepsSys s (u.setTuner t v) := h

theorem KeepsSys.forEach (h : KeepsSys s u) {l : List Nat} {f : Nat → State → State}
    (hf : ∀ n ∈ l, ∀ x, KeepsSys s x → KeepsSys s (f n x)) : KeepsSys s (forEach l f u) := by
  induction l generalizing u with
  | nil => exact h
  | cons n t ih => exact ih (hf n (by simp) u h) fun m hm => hf m (by simp [hm])

/-! ## Paths, programmes and ports -/

theorem KeepsSys.bankRefresh (h : KeepsSys s u) : KeepsSys s (bankRefresh u) :=
  ((((h.setF _ _ (by decide)).setF _ _ (by decide)).setF _ _ (by decide)).setB _ _ (by decide)).setF _ _ (by decide)

theorem KeepsSys.pathRefresh (h : KeepsSys s u) (n : Nat) : KeepsSys s (pathRefresh n u) := by
  unfold Machine.pathRefresh
  dsimp only
  split <;> exact (h.setF _ _).setF _ _

theorem KeepsSys.pathStart (h : KeepsSys s u) (n : Nat) : KeepsSys s (pathStart n u) := by
  unfold Machine.pathStart
  dsimp only
  split
  · exact h.refuseInst _ _
  split
  · exact h.refuseInst _ _
  split
  · exact h.refuseInst _ _
  · exact (((h.setF _ _).setB _ _).setPath _ _).bankRefresh

theorem KeepsSys.ktPathStart (h : KeepsSys s u) (t : Nat) : KeepsSys s (ktPathStart t u) := by
  unfold Machine.ktPathStart
  extract_lets w am preset hz deemph s1 s2 s3 s4 s5 s6
  have h3 : KeepsSys s s3 := ((((h.wr _).setF _ _).setI _ _).setF _ _).wr _
  have h4 : KeepsSys s s4 := (((h3.setF _ _).setF _ _).setF _ _).setF _ _
  have h5 : KeepsSys s s5 := by
    unfold s5
    split
    · exact h4
    · exact h4.setF _ _
  exact (((h5.setDem t _).setTuner t _).pathRefresh t).pathStart t

theorem KeepsSys.progShow (h : KeepsSys s u) (p : Nat) : KeepsSys s (progShow p u) := by
  unfold Machine.progShow
  dsimp only
  exact ((((((((h.wr _).setB _ _).setF _ _).setF _ _).setF _ _).setF _ _).setI _ _).setI _ _).setF _ _

theorem KeepsSys.candShow (h : KeepsSys s u) : KeepsSys s (candShow u) := by
  have hinfo (w0 w1 w2 w3 : Word) :
      KeepsSys s ((((u.wr FOL_CINFO0 w0).wr FOL_CINFO1 w1).wr FOL_CINFO2 w2).wr FOL_CINFO3 w3) :=
    (((h.wr _ (by decide)).wr _ (by decide)).wr _ (by decide)).wr _ (by decide)
  unfold Machine.candShow
  dsimp only
  split <;> split <;> exact (hinfo _ _ _ _).wr _ (by decide)

theorem KeepsSys.idleRefresh (h : KeepsSys s u) : KeepsSys s (idleRefresh u) := h

theorem KeepsSys.useShow (h : KeepsSys s u) : KeepsSys s (useShow u) :=
  ((h.setF _ _ (by decide)).setF _ _ (by decide)).setF _ _ (by decide)

theorem KeepsSys.folShow (h : KeepsSys s u) (p : Nat) : KeepsSys s (folShow p u) :=
  ((h.idleRefresh.progShow p).candShow).useShow

theorem KeepsSys.folStart (h : KeepsSys s u) (p : Nat) : KeepsSys s (folStart p u) := by
  unfold Machine.folStart
  dsimp only
  split
  · exact h.refuseInst _ _
  split
  · exact h.refuseInst _ _
  · exact ((h.setF _ _).setProg _ _).folShow p

theorem KeepsSys.ktProgStart (h : KeepsSys s u) (t : Nat) : KeepsSys s (ktProgStart t u) :=
  (((((h.setF _ _).setF _ _).setF _ _).setF _ _).setProg t _).folStart t

theorem KeepsSys.sapStates (h : KeepsSys s u) (k st : Nat) : KeepsSys s (sapStates k st u) :=
  (h.setF _ _).setF _ _

theorem KeepsSys.ktSapSet (h : KeepsSys s u) (k cfg sel : Nat) : KeepsSys s (ktSapSet k cfg sel u) := by
  have hmap (i : Nat) : 0x1000 ≤ SAPk_MAP k i := Nat.le_add_right_of_le (Nat.le_add_right_of_le (by decide))
  unfold Machine.ktSapSet
  extract_lets tdm fmt en w src s1 s2 w' s3
  have h3 : KeepsSys s s3 := (((h.wr _).wr _ (hmap 0)).wr _ (hmap 1)).setSap k _
  split <;> exact (h3.sapStates _ _).setF _ _

/-- The personality's start writes PTH, DEM, FAB, FOL and SAP registers only (R85). -/
theorem KeepsSys.ktBringUp (h : KeepsSys s u) : KeepsSys s (ktBringUp u) := by
  unfold Machine.ktBringUp
  refine (h.forEach fun t _ x hx => ?_).forEach fun k _ x hx => ?_
  · exact ((hx.setTuner t _).ktPathStart t).ktProgStart t
  · exact ((hx.ktSapSet k _ _).setF _ _).setF _ _

/-! ## Interrupts, rings, regions and the trace -/

theorem KeepsSys.irqRefresh (h : KeepsSys s u) : KeepsSys s (irqRefresh u) := by
  unfold Machine.irqRefresh
  extract_lets irq msi core s1 low
  have h1 : KeepsSys s s1 := ((h.setF _ _ (by decide)).setF _ _ (by decide)).setF _ _ (by decide)
  exact h1.of_eq (by dsimp only) (by dsimp only) (by dsimp only)

theorem KeepsSys.ringsStart (h : KeepsSys s u) (t : Nat) : KeepsSys s (ringsStart t u) :=
  (((((h.wr _ (by decide)).wr _ (by decide)).setB _ _ (by decide)).setF _ _ (by decide)).setF _ _ (by decide)).setF
    _ _ (by decide)

theorem KeepsSys.regionsFix (h : KeepsSys s u) : KeepsSys s (regionsFix u) := by
  unfold Machine.regionsFix
  dsimp only
  split
  · exact h
  · exact (((h.forEach fun k _ x hx => (hx.setF _ _).setF _ _).setF _ _ (by decide)).setF _ _ (by decide)).setF _ _
      (by decide)

theorem KeepsSys.spillWrite (h : KeepsSys s u) (r : TraceRec) : KeepsSys s (spillWrite r u) := by
  unfold Machine.spillWrite
  dsimp only
  split
  · exact h
  split
  · exact h.of_eq rfl rfl rfl
  · exact h.setF _ _ (by decide)

theorem KeepsSys.traceWrite (h : KeepsSys s u) (r : TraceRec) : KeepsSys s (traceWrite r u) := by
  unfold Machine.traceWrite
  refine KeepsSys.spillWrite (KeepsSys.setF ?_ _ _ (by decide)) r
  exact h.of_eq rfl rfl rfl

theorem KeepsSys.trace (h : KeepsSys s u) (k i src d n : Nat) : KeepsSys s (trace k i src d n u) := by
  unfold Machine.trace
  dsimp only
  split
  · exact h
  split
  · have hlost : KeepsSys s (u.bump OBS_TLOST_CNT) := h.setF _ _ (by decide)
    exact hlost.of_eq (by dsimp only) (by dsimp only) (by dsimp only)
  · refine KeepsSys.traceWrite ?_ _
    split
    · exact (h.traceWrite _).of_eq (by dsimp only) (by dsimp only) (by dsimp only)
    · exact h

/-- The trace record of a register write. -/
theorem KeepsSys.traceRegWrite (h : KeepsSys s u) (m : Master) (a w : Nat) : KeepsSys s (traceRegWrite m a w u) := by
  unfold Machine.traceRegWrite
  split
  · exact h.trace _ _ _ _ _
  · exact h

end

end Sys2Proof.Machine
end

section
/-! SUPPORT. Refusals and the 128-bit feature words: what the fields read after they are written. -/

namespace Sys2Proof.Machine

/-! ## Fields -/

/-- A field reads alike where its register does. -/
theorem getF_of_rd {s u : State} {f : Fld} (h : u.rd f.reg = s.rd f.reg) : u.getF f = s.getF f := by
  unfold State.getF
  rw [h]

/-- A counter that is bumped has stepped by one. -/
theorem counted_bump (s : State) (f : Fld) (h : f.lo ≤ f.hi) (hh : f.hi < 32) : Counted f s (s.bump f) := by
  have hpos : 0 < 2 ^ (f.hi + 1 - f.lo) := Nat.two_pow_pos _
  have hlt : min (s.getF f + 1) (2 ^ (f.hi + 1 - f.lo) - 1) < 2 ^ (f.hi + 1 - f.lo) := by omega
  exact (getF_setF_same s f _ h hh).trans (Nat.mod_eq_of_lt hlt)

/-- The counter stepped from every state that agrees on it. -/
theorem Counted.of_getF {f : Fld} {s u t : State} (h : Counted f u t) (hf : u.getF f = s.getF f) : Counted f s t := by
  unfold Counted at h ⊢
  rw [h, hf]

theorem getF_refuse_code (s : State) (r c : Nat) (hc : c < 16) : (refuse r c s).getF ⟨r, 31, 28⟩ = c :=
  ((getF_setF_bits _ _ _ _ (by simp) (by simp) (by simp)).trans (getF_setF_same _ _ _ (by simp) (by simp))).trans
    (Nat.mod_eq_of_lt hc)

theorem counted_refuse (s : State) (r c : Nat) : Counted ⟨r, 15, 0⟩ s (refuse r c s) :=
  (counted_bump _ _ (by simp) (by simp)).of_getF (getF_setF_bits _ _ _ _ (by simp) (by simp) (by simp))

/-! ## Feature words -/

/-- A sum over the first four numbers. -/
theorem foldl_range_four (f p : Nat → Nat) :
    (List.range 4).foldl (fun n i => n + f i * p i) 0 = 0 + f 0 * p 0 + f 1 * p 1 + f 2 * p 2 + f 3 * p 3 := rfl

theorem feat128_eq (s : State) (reg : Nat → Nat) :
    s.feat128 reg = 2 ^ 32 * (2 ^ 32 * (2 ^ 32 * (s.rd (reg 3)).toNat + (s.rd (reg 2)).toNat) + (s.rd (reg 1)).toNat)
      + (s.rd (reg 0)).toNat := by
  rw [State.feat128, foldl_range_four (fun i => (s.rd (reg i)).toNat) fun i => 2 ^ (32 * i)]
  omega

theorem feat128_congr {s u : State} {reg : Nat → Nat} (h : ∀ i < 4, u.rd (reg i) = s.rd (reg i)) :
    u.feat128 reg = s.feat128 reg := by
  rw [feat128_eq, feat128_eq, h 0 (by decide), h 1 (by decide), h 2 (by decide), h 3 (by decide)]

/-- Bit n of a feature word is bit n mod 32 of its register n / 32. -/
theorem testBit_feat128 (s : State) (reg : Nat → Nat) {n : Nat} (hn : n < 128) :
    (s.feat128 reg).testBit n = (s.rd (reg (n / 32))).toNat.testBit (n % 32) := by
  have hq : n / 32 = 0 ∨ n / 32 = 1 ∨ n / 32 = 2 ∨ n / 32 = 3 := by omega
  have hn : n = 32 * (n / 32) + n % 32 := by omega
  have hr : n % 32 < 32 := Nat.mod_lt _ (by decide)
  rw [feat128_eq, Nat.testBit_two_pow_mul_add _ (s.rd _).isLt, Nat.testBit_two_pow_mul_add _ (s.rd _).isLt,
    Nat.testBit_two_pow_mul_add _ (s.rd _).isLt]
  generalize n % 32 = r at *
  obtain hq | hq | hq | hq := hq <;> rw [hq] at hn ⊢ <;> subst hn
  · rw [if_pos (by omega), Nat.mul_zero, Nat.zero_add]
  · rw [if_neg (by omega), if_pos (by omega), Nat.mul_one, Nat.add_sub_cancel_left]
  · rw [if_neg (by omega), if_neg (by omega), if_pos (by omega)]
    congr 1
    omega
  · rw [if_neg (by omega), if_neg (by omega), if_neg (by omega)]
    congr 1
    omega

theorem feat_eq_testBit (s : State) {n : Nat} (hn : n < 128) : s.feat n = (s.feat128 FEAT_ACTIVE).testBit n :=
  (testBit_feat128 s FEAT_ACTIVE hn).symm

/-- A change for each of the first four numbers. -/
theorem forEach_range_four (f : Nat → State → State) (s : State) :
    forEach (List.range 4) f s = f 3 (f 2 (f 1 (f 0 s))) := rfl

section
variable {reg : Nat → Nat} {base : Nat} (hreg : ∀ i, reg i = base + 4 * i) (v : Nat) (s : State)
include hreg

/-- What a register reads after a feature word is written. -/
theorem rd_setFeat128 {i : Nat} (hi : i < 4) :
    (setFeat128 reg v s).rd (reg i) = BitVec.ofNat 32 (v / 2 ^ (32 * i)) := by
  have hcases : i = 0 ∨ i = 1 ∨ i = 2 ∨ i = 3 := by omega
  have hne {j k : Nat} (h : j ≠ k) : reg j ≠ reg k := by rw [hreg, hreg]; omega
  rw [setFeat128, forEach_range_four]
  obtain rfl | rfl | rfl | rfl := hcases
  · rw [rd_wr_other _ _ _ _ (hne (by decide)), rd_wr_other _ _ _ _ (hne (by decide)),
      rd_wr_other _ _ _ _ (hne (by decide)), rd_wr_same]
  · rw [rd_wr_other _ _ _ _ (hne (by decide)), rd_wr_other _ _ _ _ (hne (by decide)), rd_wr_same]
  · rw [rd_wr_other _ _ _ _ (hne (by decide)), rd_wr_same]
  · rw [rd_wr_same]

/-- Writing a feature word leaves the registers outside it. -/
theorem rd_setFeat128_other {b : Nat} (hb : b < base ∨ base + 16 ≤ b) : (setFeat128 reg v s).rd b = s.rd b := by
  refine rd_forEach _ _ _ (fun i hi u => rd_wr_other _ _ _ _ ?_) s
  rw [hreg]
  have : i < 4 := List.mem_range.mp hi
  omega

/-- A feature word reads back as written. -/
theorem feat128_setFeat128 {v : Nat} (hv : v < 2 ^ 128) : (setFeat128 reg v s).feat128 reg = v := by
  rw [feat128_eq, rd_setFeat128 hreg v s (by decide), rd_setFeat128 hreg v s (by decide),
    rd_setFeat128 hreg v s (by decide), rd_setFeat128 hreg v s (by decide)]
  simp only [BitVec.toNat_ofNat]
  omega

end

end Sys2Proof.Machine
end


section
/-! SUPPORT. The completion of a lock (R81): what it writes, stage by stage. -/

namespace Sys2Proof.Machine

/-- FEAT_ACTIVE, FEAT_REJECT and FEAT_LOCK as the completion of a lock writes them. -/
def lockWrite (act : Nat) (s : State) : State :=
  let w := setFeat128 FEAT_REJECT (s.boot.lockAsk - (s.boot.lockAsk &&& act)) (setFeat128 FEAT_ACTIVE act s)
  ((w.setF FEAT_LOCK_BUSY 0).setF FEAT_LOCK_DONE 1).bump FEAT_LOCK_ROUNDS

/-- The first lock enters RUN. -/
def lockRun (s : State) : State :=
  if s.stage = 3 then ringsStart (releaseAt s.now) (s.setF SYS_BOOT_STATE 4) else s

/-- A lock that rejects bit 17 in KT-440 mode reports it (R84). -/
def lockPersona (rejected : Bool) (s : State) : State :=
  if rejected then
    { (s.setF SYS_BOOT_ERR 11).setF SYS_BOOT_ERR_IMG 0 with boot := { s.boot with ktRejected := true } }
  else s

/-- No lock is in progress any more. -/
def lockClear (s : State) : State := { s with boot := { s.boot with lock := none } }

/-- The set that a lock with this candidate set and these rings makes active. -/
def lockActive (cand : Nat) (aud bb snap : Bool) (s : State) : Nat :=
  featFix (s.feat128 FEAT_ACTIVE) aud bb snap s.boot.straps.hbMode 24 cand

/-- A lock that makes this set active completes. -/
def lockEnd (act : Nat) (s : State) : State :=
  featOn s (lockPersona (s.boot.straps.hbMode && s.boot.lockAsk.testBit 17 && !act.testBit 17)
    (lockRun (lockClear (lockWrite act s))))

/-- LOCK_COMPLETE runs these stages. -/
theorem exec_lockComplete {s : State} {cand : Nat} {aud bb snap : Bool}
    (h : s.boot.lock = some (cand, aud, bb, snap)) :
    exec .lockComplete s = .next (lockEnd (lockActive cand aud bb snap s) s) := by
  show execLockComplete s = _
  unfold execLockComplete
  rw [h]
  rfl

/-! ## What the lock writes -/

theorem lockWrite_rd {s : State} {act a : Nat} (h : a ≠ FEAT_LOCK) :
    (lockWrite act s).rd a =
      (setFeat128 FEAT_REJECT (s.boot.lockAsk - (s.boot.lockAsk &&& act)) (setFeat128 FEAT_ACTIVE act s)).rd a :=
  (rd_bump_other _ _ _ h).trans ((rd_setF_other _ _ _ _ h).trans (rd_setF_other _ _ _ _ h))

theorem lockWrite_active {s : State} {act : Nat} (hact : act < 2 ^ 128) :
    (lockWrite act s).feat128 FEAT_ACTIVE = act := by
  refine (feat128_congr fun i hi => ?_).trans (feat128_setFeat128 (reg := FEAT_ACTIVE) (fun _ => rfl) s hact)
  have ha : FEAT_ACTIVE i = 0x60 + 4 * i := rfl
  rw [lockWrite_rd (by rw [ha]; unfold FEAT_LOCK; omega),
    rd_setFeat128_other (reg := FEAT_REJECT) (base := 0x70) (fun _ => rfl) _ _ (by omega)]

theorem lockWrite_reject {s : State} {act : Nat} (hask : s.boot.lockAsk < 2 ^ 128) :
    (lockWrite act s).feat128 FEAT_REJECT = s.boot.lockAsk - (s.boot.lockAsk &&& act) := by
  refine (feat128_congr fun i hi => ?_).trans (feat128_setFeat128 (reg := FEAT_REJECT) (fun _ => rfl)
    (setFeat128 FEAT_ACTIVE act s) (lt_of_le_of_lt (Nat.sub_le _ _) hask))
  have ha : FEAT_REJECT i = 0x70 + 4 * i := rfl
  exact lockWrite_rd (by rw [ha]; unfold FEAT_LOCK; omega)

theorem lockWrite_busy (act : Nat) (s : State) : (lockWrite act s).getF FEAT_LOCK_BUSY = 0 :=
  (getF_setF_bits _ FEAT_LOCK_ROUNDS FEAT_LOCK_BUSY _ (by decide) (by decide) (by decide)).trans
    ((getF_setF_bits _ FEAT_LOCK_DONE FEAT_LOCK_BUSY _ (by decide) (by decide) (by decide)).trans
      (getF_setF_same _ _ _ (by decide) (by decide)))

theorem lockWrite_done (act : Nat) (s : State) : (lockWrite act s).getF FEAT_LOCK_DONE = 1 :=
  (getF_setF_bits _ FEAT_LOCK_ROUNDS FEAT_LOCK_DONE _ (by decide) (by decide) (by decide)).trans
    (getF_setF_same _ _ _ (by decide) (by decide))

theorem lockWrite_rounds (act : Nat) (s : State) : Counted FEAT_LOCK_ROUNDS s (lockWrite act s) := by
  refine (counted_bump _ FEAT_LOCK_ROUNDS (by decide) (by decide)).of_getF ?_
  rw [getF_setF_bits _ FEAT_LOCK_DONE FEAT_LOCK_ROUNDS _ (by decide) (by decide) (by decide),
    getF_setF_bits _ FEAT_LOCK_BUSY FEAT_LOCK_ROUNDS _ (by decide) (by decide) (by decide)]
  refine getF_of_rd ?_
  rw [rd_setFeat128_other (reg := FEAT_REJECT) (base := 0x70) (fun _ => rfl) _ _ (by decide),
    rd_setFeat128_other (reg := FEAT_ACTIVE) (base := 0x60) (fun _ => rfl) _ _ (by decide)]

theorem lockWrite_stage (act : Nat) (s : State) : (lockWrite act s).stage = s.stage := by
  refine getF_of_rd ?_
  rw [lockWrite_rd (by decide), rd_setFeat128_other (reg := FEAT_REJECT) (base := 0x70) (fun _ => rfl) _ _ (by decide),
    rd_setFeat128_other (reg := FEAT_ACTIVE) (base := 0x60) (fun _ => rfl) _ _ (by decide)]

/-! ## What follows it -/

theorem lockClear_rd (s : State) (a : Nat) : (lockClear s).rd a = s.rd a := rfl

theorem lockClear_lock (s : State) : (lockClear s).boot.lock = none := rfl

theorem lockClear_stage (s : State) : (lockClear s).stage = s.stage := getF_of_rd (lockClear_rd s _)

/-- The start of the rings leaves what the entry into RUN has written. -/
theorem lockRun_eq (s : State) (h : s.stage = 3) : KeepsSys (s.setF SYS_BOOT_STATE 4) (lockRun s) := by
  unfold lockRun
  rw [if_pos h]
  exact (KeepsSys.refl (s.setF SYS_BOOT_STATE 4)).ringsStart (releaseAt s.now)

theorem lockRun_stay (s : State) (h : s.stage ≠ 3) : lockRun s = s := if_neg h

theorem lockRun_boot (s : State) : (lockRun s).boot = s.boot := by
  by_cases h : s.stage = 3
  · exact (lockRun_eq s h).boot.trans (setF_boot s SYS_BOOT_STATE 4)
  · rw [lockRun_stay s h]

theorem lockRun_rd (s : State) {a : Nat} (ha : a < 0x1000) (hne : a ≠ SYS_BOOT) : (lockRun s).rd a = s.rd a := by
  by_cases h : s.stage = 3
  · exact ((lockRun_eq s h).rd ha).trans (rd_setF_other s SYS_BOOT_STATE 4 a hne)
  · rw [lockRun_stay s h]

theorem lockRun_stage (s : State) : (lockRun s).stage = if s.stage = 3 then 4 else s.stage := by
  split
  case isTrue h =>
    exact ((lockRun_eq s h).getF (f := SYS_BOOT_STATE) (by decide)).trans
      (getF_setF_same s SYS_BOOT_STATE 4 (by decide) (by decide))
  case isFalse h => rw [lockRun_stay s h]

theorem lockPersona_false (s : State) : lockPersona false s = s := if_neg Bool.false_ne_true

/-- The report of a rejected personality writes ERR and ERR_IMG of SYS_BOOT. -/
theorem lockPersona_true_regs (s : State) :
    (lockPersona true s).regs = ((s.setF SYS_BOOT_ERR 11).setF SYS_BOOT_ERR_IMG 0).regs := by
  rw [lockPersona, if_pos rfl]

theorem lockPersona_true_boot (s : State) : (lockPersona true s).boot = { s.boot with ktRejected := true } := by
  rw [lockPersona, if_pos rfl]

theorem lockPersona_lock (b : Bool) (s : State) : (lockPersona b s).boot.lock = s.boot.lock := by
  cases b with
  | false => rw [lockPersona_false]
  | true => rw [lockPersona_true_boot]

theorem lockPersona_rd (b : Bool) (s : State) {a : Nat} (hne : a ≠ SYS_BOOT) : (lockPersona b s).rd a = s.rd a := by
  cases b with
  | false => rw [lockPersona_false]
  | true =>
    rw [rd_of_regs (lockPersona_true_regs s), rd_setF_other _ SYS_BOOT_ERR_IMG _ _ hne,
      rd_setF_other _ SYS_BOOT_ERR _ _ hne]

theorem lockPersona_stage (b : Bool) (s : State) : (lockPersona b s).stage = s.stage := by
  cases b with
  | false => rw [lockPersona_false]
  | true =>
    rw [State.stage, getF_of_rd (rd_of_regs (lockPersona_true_regs s) _),
      getF_setF_bits _ SYS_BOOT_ERR_IMG _ _ (by decide) (by decide) (by decide),
      getF_setF_bits _ SYS_BOOT_ERR _ _ (by decide) (by decide) (by decide), ← State.stage]

theorem KeepsSys.featOn {s u : State} (h : KeepsSys s u) (old : State) : KeepsSys s (featOn old u) := by
  unfold Machine.featOn
  refine KeepsSys.irqRefresh ?_
  split
  · exact h.ktBringUp
  · exact h

/-! ## What a completed lock leaves -/

section
variable (act : Nat) (s : State)

/-- What follows what the lock writes leaves the SYS registers, but for the report of a rejected personality. -/
theorem lockEnd_keeps :
    KeepsSys (lockPersona (s.boot.straps.hbMode && s.boot.lockAsk.testBit 17 && !act.testBit 17)
      (lockRun (lockClear (lockWrite act s)))) (lockEnd act s) := (KeepsSys.refl _).featOn s

/-- The SYS registers hold what the lock writes, but for SYS_BOOT. -/
theorem lockEnd_rd {a : Nat} (ha : a < 0x1000) (hne : a ≠ SYS_BOOT) :
    (lockEnd act s).rd a = (lockWrite act s).rd a := by
  rw [(lockEnd_keeps act s).rd ha, lockPersona_rd _ _ hne, lockRun_rd _ ha hne, lockClear_rd]

/-- The first lock enters RUN from NEGOTIATE. -/
theorem lockEnd_stage : (lockEnd act s).stage = if s.stage = 3 then 4 else s.stage := by
  have hkeep := (lockEnd_keeps act s).getF (f := SYS_BOOT_STATE) (by decide)
  rw [State.stage, hkeep, ← State.stage, lockPersona_stage, lockRun_stage, lockClear_stage, lockWrite_stage]

theorem lockEnd_lock : (lockEnd act s).boot.lock = none := by
  rw [(lockEnd_keeps act s).boot, lockPersona_lock, lockRun_boot, lockClear_lock]

variable {act s}

/-- FEAT_ACTIVE holds the set that R28 leaves. -/
theorem lockEnd_active (hact : act < 2 ^ 128) : (lockEnd act s).feat128 FEAT_ACTIVE = act := by
  refine (feat128_congr fun i hi => ?_).trans (lockWrite_active (s := s) hact)
  have ha : FEAT_ACTIVE i = 0x60 + 4 * i := rfl
  exact lockEnd_rd _ _ (by omega) (by rw [ha]; unfold SYS_BOOT; omega)

/-- FEAT_REJECT holds what was asked for and is not active. -/
theorem lockEnd_reject (hask : s.boot.lockAsk < 2 ^ 128) :
    (lockEnd act s).feat128 FEAT_REJECT = s.boot.lockAsk - (s.boot.lockAsk &&& act) := by
  refine (feat128_congr fun i hi => ?_).trans (lockWrite_reject hask)
  have ha : FEAT_REJECT i = 0x70 + 4 * i := rfl
  exact lockEnd_rd _ _ (by omega) (by rw [ha]; unfold SYS_BOOT; omega)

theorem lockEnd_lockField {f : Fld} (hf : f.reg = FEAT_LOCK) : (lockEnd act s).getF f = (lockWrite act s).getF f :=
  getF_of_rd (lockEnd_rd _ _ (by rw [hf]; decide) (by rw [hf]; decide))

end

theorem lockActive_lt (cand : Nat) (aud bb snap : Bool) (s : State) : lockActive cand aud bb snap s < 2 ^ 128 :=
  featFix_lt _ _ _ _ _ _ _

/-- Settles O33: four rounds of R28 settle every feature, and LOCK_COMPLETE makes 24. -/
theorem featureRequirements : Obligations.FeatureRequirements := by
  unfold Obligations.FeatureRequirements
  intro s cand aud bb snap hlock
  have hactive := lockEnd_active (s := s) (lockActive_lt cand aud bb snap s)
  refine ⟨_, exec_lockComplete (eq_of_beq hlock), fun n hn hfeat => ?_⟩
  rw [feat_eq_testBit _ hn, hactive] at hfeat
  rw [feat_eq_testBit s hn, hactive]
  exact featFix_meets cand 24 (by decide) hn hfeat

end Sys2Proof.Machine
end

section
/-! SUPPORT. The commands of the negotiation (R81, R82, R84): a write of FEAT_ACCEPT, a write of FEAT_LOCK, and both
by firmware. -/

namespace Sys2Proof.Machine

/-! ## FEAT_ACCEPT -/

section
variable (w : Nat) (v : Word) (s : State)

/-- The address of an accept word. -/
theorem feat_accept_eq : FEAT_ACCEPT w = 0x50 + 4 * w := rfl

theorem feat_accept_ne_sys_refuse : FEAT_ACCEPT w ≠ SYS_REFUSE := by
  rw [feat_accept_eq]
  unfold SYS_REFUSE
  omega

variable {v s} in
/-- A write that keeps every active bit is stored as it is. -/
theorem featAcceptWrite_keep (h : v &&& s.rd (FEAT_ACTIVE w) = s.rd (FEAT_ACTIVE w)) :
    featAcceptWrite w v s = s.wr (FEAT_ACCEPT w) v := by
  have hor : v ||| s.rd (FEAT_ACTIVE w) = v := by
    ext i hi
    have hbit := congrArg (·[i]) h
    simp only [BitVec.getElem_and, BitVec.getElem_or] at hbit ⊢
    rw [← hbit]
    cases v[i] <;> rfl
  unfold featAcceptWrite
  dsimp only
  rw [if_pos h, hor]

variable {v s} in
/-- A write that would clear an active bit keeps the bit and is refused. -/
theorem featAcceptWrite_clear (h : v &&& s.rd (FEAT_ACTIVE w) ≠ s.rd (FEAT_ACTIVE w)) :
    featAcceptWrite w v s = refuse SYS_REFUSE codeLocked (s.wr (FEAT_ACCEPT w) (v ||| s.rd (FEAT_ACTIVE w))) := by
  unfold featAcceptWrite
  dsimp only
  rw [if_neg h]

theorem featAcceptWrite_accept : (featAcceptWrite w v s).rd (FEAT_ACCEPT w) = v ||| s.rd (FEAT_ACTIVE w) := by
  unfold featAcceptWrite
  dsimp only
  split
  · exact rd_wr_same _ _ _
  · exact (rd_refuse_other _ _ _ _ (feat_accept_ne_sys_refuse w)).trans (rd_wr_same _ _ _)

/-- A write of an accept word leaves every other register but the refusal's. -/
theorem featAcceptWrite_rd_other {b : Nat} (hb : b ≠ FEAT_ACCEPT w) (hr : b ≠ SYS_REFUSE) :
    (featAcceptWrite w v s).rd b = s.rd b := by
  unfold featAcceptWrite
  dsimp only
  split
  · exact rd_wr_other _ _ _ _ hb
  · exact (rd_refuse_other _ _ _ _ hr).trans (rd_wr_other _ _ _ _ hb)

theorem featAcceptWrite_pwr : (featAcceptWrite w v s).pwr = s.pwr := by
  unfold featAcceptWrite
  dsimp only
  split
  · exact wr_pwr _ _ _
  · exact (refuse_pwr _ _ _).trans (wr_pwr _ _ _)

end

theorem exec_featAcceptWrite {m : Master} {w : Nat} {v : Word} {s : State} (hw : w < 4)
    (h : s.reaches m (FEAT_ACCEPT w) = true) :
    exec (.featAcceptWrite m w v) s = .next (featAcceptWrite w v (traceRegWrite m (FEAT_ACCEPT w) v.toNat s)) := by
  show execFeatAcceptWrite m w v s = _
  rw [execFeatAcceptWrite, if_pos hw, gated_reaches _ _ _ _ _ h]

/-! ## FEAT_LOCK -/

section
variable {s : State} (hstage : 3 ≤ s.stage)
include hstage

/-- A lock is refused while one is in progress. -/
theorem featLockWrite_busy (hb : s.flag FEAT_LOCK_BUSY = true) : featLockWrite 1 s = refuse SYS_REFUSE codeBusy s := by
  rw [featLockWrite, if_neg (by decide), if_neg (by omega), if_pos hb]

/-- A lock takes the accepted set and the candidate set as they stand. -/
theorem featLockWrite_boot (hb : s.flag FEAT_LOCK_BUSY = false) :
    (featLockWrite 1 s).boot.lockAsk = s.feat128 FEAT_ACCEPT ∧
    (featLockWrite 1 s).boot.lock.map (fun x => x.1)
      = some (s.feat128 FEAT_ACTIVE ||| (s.feat128 FEAT_ACCEPT &&& s.feat128 FEAT_OFFER)) := by
  rw [featLockWrite, if_neg (by decide), if_neg (by omega), if_neg (by rw [hb]; exact Bool.false_ne_true)]
  exact ⟨rfl, rfl⟩

/-- A lock in progress fixes the regions and shows BUSY. -/
theorem featLockWrite_regs (hb : s.flag FEAT_LOCK_BUSY = false) :
    (featLockWrite 1 s).regs = ((regionsFix s).setF FEAT_LOCK_BUSY 1).regs := by
  rw [featLockWrite, if_neg (by decide), if_neg (by omega), if_neg (by rw [hb]; exact Bool.false_ne_true)]

theorem featLockWrite_flag (hb : s.flag FEAT_LOCK_BUSY = false) : (featLockWrite 1 s).flag FEAT_LOCK_BUSY = true := by
  have hset : (featLockWrite 1 s).getF FEAT_LOCK_BUSY = 1 :=
    (getF_of_rd (rd_of_regs (featLockWrite_regs hstage hb) _)).trans (getF_setF_same _ _ _ (by decide) (by decide))
  rw [State.flag, hset]
  rfl

theorem featLockWrite_rd_other (hb : s.flag FEAT_LOCK_BUSY = false) {a : Nat} (ha : a < 0x1000) (hne : a ≠ FEAT_LOCK) :
    (featLockWrite 1 s).rd a = s.rd a := by
  rw [rd_of_regs (featLockWrite_regs hstage hb), rd_setF_other _ FEAT_LOCK_BUSY _ _ hne]
  exact (KeepsSys.refl s).regionsFix.rd ha

end

theorem exec_featLock {m : Master} {s : State} (h : s.reaches m FEAT_LOCK = true) :
    exec (.featLock m) s = .next (featLockWrite 1 (traceRegWrite m FEAT_LOCK 1 s)) :=
  congrArg Host.Outcome.next (gated_reaches _ _ _ _ _ h)

/-! ## KT-440 start-up -/

/-- From NEGOTIATE on a core reaches every SYS register out of reset (R67, R83). -/
theorem core_reaches_sys {k a : Nat} {s : State} (hreset : s.pwr.inReset = false) (hstage : 3 ≤ s.stage)
    (ha : a < 0x1000) (hreg : hasReg a = true) : s.reaches (.core k) a = true := by
  have hbar : s.busBarred (.core k) = false := rfl
  have hmode : modeReg a = true := by simp [modeReg, show a < 0x3000 by omega]
  have hfeats : featsFor a = [] := if_pos (by omega)
  have hrun : s.liveRun a = true := by rw [State.liveRun, hfeats, List.all_nil]
  have hlive : s.liveWrite (.core k) a = true := by
    unfold State.liveWrite
    rw [hreset, hbar, if_neg (by decide), if_neg (by simp), if_neg (by omega), hmode, hrun, ite_self]
  rw [State.reaches, hreset, hreg, hlive]
  rfl

section
variable {s : State} (hreset : s.pwr.inReset = false) (hstage : 3 ≤ s.stage) (hbusy : s.flag FEAT_LOCK_BUSY = false)
include hreset hstage hbusy

/-- What firmware's write of FEAT_ACCEPT0 leaves: bit 17 is accepted, and the lock can start. -/
theorem accept17_leaves :
    let v := s.rd (FEAT_ACCEPT 0) ||| BitVec.ofNat 32 (2 ^ 17)
    let u := gated (.core 0) (FEAT_ACCEPT 0) v.toNat (featAcceptWrite 0 v) s
    (u.rd (FEAT_ACCEPT 0)).getLsbD 17 = true ∧ u.flag FEAT_LOCK_BUSY = false ∧ 3 ≤ u.stage ∧ u.pwr = s.pwr := by
  extract_lets v u
  have hu : u = featAcceptWrite 0 v (traceRegWrite (.core 0) (FEAT_ACCEPT 0) v.toNat s) :=
    gated_reaches _ _ _ _ _ (core_reaches_sys hreset hstage (by decide) (by decide))
  have htrace := (KeepsSys.refl s).traceRegWrite (.core 0) (FEAT_ACCEPT 0) v.toNat
  have hrd {a : Nat} (ha : a < 0x1000) (hne : a ≠ FEAT_ACCEPT 0) (hr : a ≠ SYS_REFUSE) : u.rd a = s.rd a := by
    rw [hu, featAcceptWrite_rd_other _ _ _ hne hr, htrace.rd ha]
  refine ⟨?_, ?_, ?_, ?_⟩
  · rw [hu, featAcceptWrite_accept]
    simp [v]
  · rw [← hbusy, State.flag, State.flag, getF_of_rd (hrd (by decide) (by decide) (by decide))]
  · rwa [State.stage, getF_of_rd (hrd (by decide) (by decide) (by decide))]
  · rw [hu, featAcceptWrite_pwr, htrace.pwr]

/-- Firmware accepts bit 17 and locks by itself (R84). -/
theorem kt440AutoLock_locks (hmode : s.boot.straps.hbMode = true) (h17 : s.feat 17 = false)
    (hrej : s.boot.ktRejected = false) :
    Gives .kt440AutoLock s fun t => t.flag FEAT_LOCK_BUSY = true ∧ (t.rd (FEAT_ACCEPT 0)).getLsbD 17 = true := by
  obtain ⟨hbit, hfree, hst, hpwr⟩ := accept17_leaves hreset hstage hbusy
  have hexec : exec .kt440AutoLock s = .next (gated (.core 0) FEAT_LOCK 1 (featLockWrite 1)
      (gated (.core 0) (FEAT_ACCEPT 0) (s.rd (FEAT_ACCEPT 0) ||| BitVec.ofNat 32 (2 ^ 17)).toNat
        (featAcceptWrite 0 (s.rd (FEAT_ACCEPT 0) ||| BitVec.ofNat 32 (2 ^ 17))) s)) := by
    show execKt440AutoLock s = _
    have hlow : decide (s.stage < 3) = false := decide_eq_false (by omega)
    rw [execKt440AutoLock, hreset, hmode, h17, hrej, hlow, if_neg (by decide)]
  generalize gated (.core 0) (FEAT_ACCEPT 0) (s.rd (FEAT_ACCEPT 0) ||| BitVec.ofNat 32 (2 ^ 17)).toNat
    (featAcceptWrite 0 (s.rd (FEAT_ACCEPT 0) ||| BitVec.ofNat 32 (2 ^ 17))) s = u at *
  have htrace := (KeepsSys.refl u).traceRegWrite (.core 0) FEAT_LOCK 1
  have hst' : 3 ≤ (traceRegWrite (.core 0) FEAT_LOCK 1 u).stage := by
    rwa [State.stage, htrace.getF (by decide)]
  have hfree' : (traceRegWrite (.core 0) FEAT_LOCK 1 u).flag FEAT_LOCK_BUSY = false := by
    rwa [State.flag, htrace.getF (by decide)]
  refine ⟨_, hexec, ?_⟩
  rw [gated_reaches _ _ _ _ _ (core_reaches_sys (hpwr ▸ hreset) hst (by decide) (by decide))]
  refine ⟨featLockWrite_flag hst' hfree', ?_⟩
  rw [featLockWrite_rd_other hst' hfree' (by decide) (by decide), htrace.rd (by decide)]
  exact hbit

end

end Sys2Proof.Machine
end

section
/-! SUPPORT. The personality's readiness (R85, R387): the mirror registers lie beside CMP_STAT, which shows it. -/

namespace Sys2Proof.Machine

/-- The mirror lies below CMP_STAT up to index 256. -/
theorem ktSet_rd_stat (s : State) {i : Nat} (v : Nat) (hi : i < 257) : (s.ktSet i v).rd CMP_STAT = s.rd CMP_STAT := by
  refine rd_setF_other s (CMP_KT_VALUE i) v CMP_STAT ?_
  have hreg : (CMP_KT_VALUE i).reg = 0x70000 + 4 * i := rfl
  rw [hreg]
  unfold CMP_STAT
  omega

theorem ktBits_rd_stat (s : State) {i : Nat} (hi lo v : Nat) (h : i < 257) :
    (s.ktBits i hi lo v).rd CMP_STAT = s.rd CMP_STAT := ktSet_rd_stat s _ h

theorem ktMirror_rd_stat (s : State) {t : Nat} (ht : t < 4) : (ktMirror t s).rd CMP_STAT = s.rd CMP_STAT := by
  have hidx (o : Nat) (ho : o < 32) : ktIdx t o < 257 := by unfold ktIdx; omega
  unfold ktMirror
  split
  · rfl
  extract_lets on shown am s1 s2 m v u s3 s4
  have h2 : s2.rd CMP_STAT = s.rd CMP_STAT :=
    (ktBits_rd_stat s1 _ _ _ (hidx 6 (by decide))).trans (ktBits_rd_stat s _ _ _ (hidx 6 (by decide)))
  have h3 : s3.rd CMP_STAT = s2.rd CMP_STAT :=
    (ktSet_rd_stat _ _ (hidx 9 (by decide))).trans
      ((ktSet_rd_stat _ _ (hidx 8 (by decide))).trans (ktSet_rd_stat s2 _ (hidx 7 (by decide))))
  have h4 : s4.rd CMP_STAT = s3.rd CMP_STAT :=
    (ktSet_rd_stat _ _ (hidx 11 (by decide))).trans (ktSet_rd_stat s3 _ (hidx 10 (by decide)))
  rw [ktSet_rd_stat _ _ (hidx 18 (by decide)), ktSet_rd_stat _ _ (hidx 13 (by decide)),
    ktSet_rd_stat _ _ (hidx 12 (by decide)), h4, h3, h2]

theorem ktInt_rd_stat (bits : Nat) (s : State) : (ktInt bits s).rd CMP_STAT = s.rd CMP_STAT :=
  (irqRefresh_rd _ _ (by decide)).trans (ktSet_rd_stat s _ (by decide))

/-- READY is set and the tuners' BUSY has fallen. -/
def ktReadied (s : State) : State := (s.setF CMP_STAT_BUSY 0).setF CMP_STAT_READY 1

theorem ktReadied_ready (s : State) : (ktReadied s).getF CMP_STAT_READY = 1 :=
  getF_setF_same (s.setF CMP_STAT_BUSY 0) CMP_STAT_READY 1 (by decide) (by decide)

theorem ktReadied_busy (s : State) : (ktReadied s).getF CMP_STAT_BUSY = 0 :=
  (getF_setF_bits (s.setF CMP_STAT_BUSY 0) CMP_STAT_READY CMP_STAT_BUSY 1 (by decide) (by decide) (by decide)).trans
    (getF_setF_same s CMP_STAT_BUSY 0 (by decide) (by decide))

/-- The mirrors and the interrupt that follow leave CMP_STAT. -/
theorem ktAnnounce_rd_stat (s : State) :
    (ktInt 0x0F (forEach [0, 1, 2, 3] (fun t s => ktMirror t s) s)).rd CMP_STAT = s.rd CMP_STAT := by
  rw [ktInt_rd_stat]
  refine rd_forEach _ _ _ (fun t ht x => ktMirror_rd_stat x ?_) s
  simp only [List.mem_cons, List.not_mem_nil, or_false] at ht
  omega

/-- The personality becomes READY once its four paths have warmed up (R85). -/
theorem personalityReady_ready {s : State} (hkt : s.ktOwned = true) (hfw : s.firmwareOn 0 = true)
    (hready : s.flag CMP_STAT_READY = false)
    (hpaths : ([0, 1, 2, 3].all fun n => s.pathRunning n && s.getF (PTHn_STAT_WARMUP n) == 0) = true) :
    Gives .personalityReady s fun t => t.flag CMP_STAT_READY = true ∧ t.getF CMP_STAT_BUSY = 0 := by
  have hexec : exec .personalityReady s = .next (ktInt 0x0F (forEach [0, 1, 2, 3] (fun t s => ktMirror t s)
      (ktReadied (forEach (List.range 160) (fun i s => s.ktSet i (ktReset i)) s)))) := by
    show execPersonalityReady s = _
    rw [execPersonalityReady, hkt, hfw, hready, hpaths, if_neg (by decide), ktReadied]
  refine ⟨_, hexec, ?_⟩
  generalize forEach (List.range 160) (fun i s => s.ktSet i (ktReset i)) s = u
  have hrd := ktAnnounce_rd_stat (ktReadied u)
  constructor
  · rw [State.flag, getF_of_rd (f := CMP_STAT_READY) hrd, ktReadied_ready]
    rfl
  · rw [getF_of_rd (f := CMP_STAT_BUSY) hrd, ktReadied_busy]

end Sys2Proof.Machine
end

section
/-! SUPPORT. The statement on ACCEPT, LOCK and KT-440 start-up, clause by clause. -/

namespace Sys2Proof.Machine

/-- A write of FEAT_ACCEPT that clears no active bit is stored, and changes nothing else but the trace (R82). -/
theorem featAcceptWrite_stored {s : State} {m : Master} {w : Nat} {v : Word} (hw : w < 4)
    (hreach : s.reaches m (FEAT_ACCEPT w) = true) (hkeep : v &&& s.rd (FEAT_ACTIVE w) = s.rd (FEAT_ACTIVE w)) :
    Gives (.featAcceptWrite m w v) s fun t =>
      t.rd (FEAT_ACCEPT w) = v ∧ Within [(FEAT_ACCEPT w, FEAT_ACCEPT w + 4), (0x68000, 0x70000)] s t := by
  have hactive : FEAT_ACTIVE w = 0x60 + 4 * w := rfl
  have htrace := (KeepsSys.refl s).traceRegWrite m (FEAT_ACCEPT w) v.toNat
  rw [← htrace.rd (by omega)] at hkeep
  refine ⟨_, exec_featAcceptWrite hw hreach, ?_⟩
  rw [featAcceptWrite_keep w hkeep]
  refine ⟨rd_wr_same _ _ _, fun a ha => ?_⟩
  simp only [List.mem_cons, List.not_mem_nil, or_false, forall_eq_or_imp, forall_eq] at ha
  rw [rd_wr_other _ _ _ _ (by omega), traceRegWrite_rd _ _ _ _ _ ha.2]

/-- A write of FEAT_ACCEPT that would clear an active bit is refused (R82). -/
theorem featAcceptWrite_refused {s : State} {m : Master} {w : Nat} {v : Word} (hw : w < 4)
    (hreach : s.reaches m (FEAT_ACCEPT w) = true) (hclear : v &&& s.rd (FEAT_ACTIVE w) ≠ s.rd (FEAT_ACTIVE w)) :
    Gives (.featAcceptWrite m w v) s fun t =>
      t.rd (FEAT_ACCEPT w) = v ||| s.rd (FEAT_ACTIVE w) ∧ t.getF ⟨SYS_REFUSE, 31, 28⟩ = codeLocked ∧
        Counted ⟨SYS_REFUSE, 15, 0⟩ s t := by
  have hactive : FEAT_ACTIVE w = 0x60 + 4 * w := rfl
  have htrace := (KeepsSys.refl s).traceRegWrite m (FEAT_ACCEPT w) v.toNat
  have hrd := htrace.rd (a := FEAT_ACTIVE w) (by omega)
  rw [← hrd] at hclear ⊢
  refine ⟨_, exec_featAcceptWrite hw hreach, featAcceptWrite_accept _ _ _, ?_⟩
  rw [featAcceptWrite_clear w hclear]
  refine ⟨getF_refuse_code _ _ _ (by decide), (counted_refuse _ _ _).of_getF (getF_of_rd ?_)⟩
  exact (rd_wr_other _ _ _ _ (feat_accept_ne_sys_refuse w).symm).trans (htrace.rd (by decide))

section
variable {s : State} {m : Master} (hreach : s.reaches m FEAT_LOCK = true) (hstage : 3 ≤ s.stage)
include hreach hstage

/-- A lock takes the candidate set and the accepted set as they stand (R81). -/
theorem featLock_takes (hfree : s.flag FEAT_LOCK_BUSY = false) :
    Gives (.featLock m) s fun t =>
      t.flag FEAT_LOCK_BUSY = true ∧ t.boot.lockAsk = s.feat128 FEAT_ACCEPT ∧
        (t.boot.lock.map fun x => x.1)
          = some (s.feat128 FEAT_ACTIVE ||| (s.feat128 FEAT_ACCEPT &&& s.feat128 FEAT_OFFER)) := by
  have htrace := (KeepsSys.refl s).traceRegWrite m FEAT_LOCK 1
  have hword (reg : Nat → Nat) (hreg : ∀ i < 4, reg i < 0x1000) :
      (traceRegWrite m FEAT_LOCK 1 s).feat128 reg = s.feat128 reg := feat128_congr fun i hi => htrace.rd (hreg i hi)
  have hst : 3 ≤ (traceRegWrite m FEAT_LOCK 1 s).stage := by rwa [State.stage, htrace.getF (by decide)]
  have hfr : (traceRegWrite m FEAT_LOCK 1 s).flag FEAT_LOCK_BUSY = false := by
    rwa [State.flag, htrace.getF (by decide)]
  obtain ⟨hask, hlock⟩ := featLockWrite_boot hst hfr
  rw [hword FEAT_ACCEPT (by decide)] at hask hlock
  rw [hword FEAT_ACTIVE (by decide), hword FEAT_OFFER (by decide)] at hlock
  exact ⟨_, exec_featLock hreach, featLockWrite_flag hst hfr, hask, hlock⟩

/-- A second lock is refused while one is in progress (R81). -/
theorem featLock_refused (hbusy : s.flag FEAT_LOCK_BUSY = true) :
    Gives (.featLock m) s fun t =>
      t.getF ⟨SYS_REFUSE, 31, 28⟩ = codeBusy ∧ Counted ⟨SYS_REFUSE, 15, 0⟩ s t ∧ t.boot = s.boot := by
  have htrace := (KeepsSys.refl s).traceRegWrite m FEAT_LOCK 1
  have hst : 3 ≤ (traceRegWrite m FEAT_LOCK 1 s).stage := by rwa [State.stage, htrace.getF (by decide)]
  have hbs : (traceRegWrite m FEAT_LOCK 1 s).flag FEAT_LOCK_BUSY = true := by
    rwa [State.flag, htrace.getF (by decide)]
  refine ⟨_, exec_featLock hreach, ?_⟩
  rw [featLockWrite_busy hst hbs]
  exact ⟨getF_refuse_code _ _ _ (by decide), (counted_refuse _ _ _).of_getF (htrace.getF (by decide)),
    (refuse_boot _ _ _).trans htrace.boot⟩

end

/-- The completion of a lock writes ACTIVE and REJECT from R28 and enters RUN the first time (R81). -/
theorem lockComplete_writes {s : State} {cand : Nat} {aud bb snap : Bool}
    (hlock : s.boot.lock = some (cand, aud, bb, snap)) (hask : s.boot.lockAsk < 2 ^ 128) :
    Gives .lockComplete s fun t =>
      t.feat128 FEAT_ACTIVE = featFix (s.feat128 FEAT_ACTIVE) aud bb snap s.boot.straps.hbMode 24 cand ∧
        t.feat128 FEAT_REJECT = s.boot.lockAsk - (s.boot.lockAsk &&& t.feat128 FEAT_ACTIVE) ∧
        t.getF FEAT_LOCK_BUSY = 0 ∧ t.getF FEAT_LOCK_DONE = 1 ∧ Counted FEAT_LOCK_ROUNDS s t ∧ t.boot.lock = none ∧
        t.stage = (if s.stage = 3 then 4 else s.stage) := by
  have hactive := lockEnd_active (s := s) (lockActive_lt cand aud bb snap s)
  refine ⟨_, exec_lockComplete hlock, hactive, ?_, ?_, ?_, ?_, lockEnd_lock _ _, lockEnd_stage _ _⟩
  · rw [hactive]
    exact lockEnd_reject hask
  · rw [lockEnd_lockField rfl]
    exact lockWrite_busy _ _
  · rw [lockEnd_lockField rfl]
    exact lockWrite_done _ _
  · rw [Counted, lockEnd_lockField rfl]
    exact lockWrite_rounds _ _

/-- Settles O32: each clause by the rule of its command. -/
theorem negotiation : Obligations.Negotiation := by
  unfold Obligations.Negotiation
  simp only [decide_eq_true_eq, beq_iff_eq, bne_iff_ne, Bool.not_eq_true']
  exact ⟨fun _ _ _ _ => featAcceptWrite_stored, fun _ _ _ _ => featAcceptWrite_refused, fun _ _ => featLock_takes,
    fun _ _ => featLock_refused, fun _ _ _ _ _ => lockComplete_writes,
    fun _ hreset hmode hstage h17 hrej hbusy => kt440AutoLock_locks hreset hstage hbusy hmode h17 hrej,
    fun _ => personalityReady_ready⟩

end Sys2Proof.Machine
end

section
/-! SUPPORT. What else a change leaves: the parts of the state that raising an event may change, areas of native
addresses, and the parts that tracing may change. -/

namespace Sys2Proof.Machine

/-! ## Events -/

/-- The areas of EVT, of the snapshot's registers and of OBS, where raising an event writes. -/
abbrev eventAreas : List (Nat × Nat) := [(0x1000, 0x2000), (0x30000, 0x34000), (0x68000, 0x70000)]

/-- State s with what raising an event may change taken from u. -/
def eventParts (s u : State) : State :=
  { s with regs := u.regs, coal := u.coal, msiQueue := u.msiQueue, recs := u.recs, obs := u.obs, mem := u.mem, snp := u.snp,
           pins := { s.pins with irqLow := u.pins.irqLow } }

/-- From s to u nothing changes but registers and what raising an event may change. -/
structure EventStep (s u : State) : Prop where
  eq : u = eventParts s u

section
variable {s u v : State}

theorem EventStep.refl (s : State) : EventStep s s := ⟨rfl⟩

theorem EventStep.trans (h : EventStep s u) (hv : EventStep u v) : EventStep s v :=
  ⟨hv.eq.trans (congrArg (eventParts · v) h.eq :)⟩

theorem EventStep.wr (h : EventStep s u) (a : Nat) (w : Word) : EventStep s (u.wr a w) := h.trans ⟨rfl⟩

theorem EventStep.setF (h : EventStep s u) (f : Fld) (n : Nat) : EventStep s (u.setF f n) := h.wr _ _

theorem EventStep.set64 (h : EventStep s u) (lo hi n : Nat) : EventStep s (u.set64 lo hi n) := (h.wr _ _).wr _ _

theorem EventStep.setCoal (h : EventStep s u) (g r : Nat) (c : Coal) : EventStep s (u.setCoal g r c) := h.trans ⟨rfl⟩

theorem EventStep.obs (h : EventStep s u) (o : Obs) : EventStep s { u with obs := o } := h.trans ⟨rfl⟩

theorem EventStep.snp (h : EventStep s u) (x : Snapshot) : EventStep s { u with snp := x } := h.trans ⟨rfl⟩

theorem EventStep.irqLow (h : EventStep s u) (b : Bool) : EventStep s { u with pins := { u.pins with irqLow := b } } :=
  h.trans ⟨rfl⟩

theorem EventStep.pwr (h : EventStep s u) : u.pwr = s.pwr := (congrArg State.pwr h.eq :)
theorem EventStep.boot (h : EventStep s u) : u.boot = s.boot := (congrArg State.boot h.eq :)
theorem EventStep.exc (h : EventStep s u) : u.exc = s.exc := (congrArg State.exc h.eq :)
theorem EventStep.clk (h : EventStep s u) : u.clk = s.clk := (congrArg State.clk h.eq :)
theorem EventStep.slk (h : EventStep s u) : u.slk = s.slk := (congrArg State.slk h.eq :)
theorem EventStep.syscnt (h : EventStep s u) : u.syscnt = s.syscnt := (congrArg State.syscnt h.eq :)
theorem EventStep.pins (h : EventStep s u) : u.pins = { s.pins with irqLow := u.pins.irqLow } := (congrArg State.pins h.eq :)

end

/-! ## Areas -/

/-- Address a lies in one of the areas. -/
abbrev InAreas (l : List (Nat × Nat)) (a : Nat) : Prop := ∃ p ∈ l, p.1 ≤ a ∧ a < p.2

/-- Each area of m lies in an area of l. -/
abbrev Covers (l m : List (Nat × Nat)) : Prop := ∀ p ∈ m, ∃ q ∈ l, q.1 ≤ p.1 ∧ p.2 ≤ q.2

section
variable {l m : List (Nat × Nat)} {s u v : State}

/-- What the larger areas leave out, the smaller ones leave out. -/
theorem Covers.outside (h : Covers l m) {a : Nat} (ha : ∀ q ∈ l, a < q.1 ∨ q.2 ≤ a) : ∀ p ∈ m, a < p.1 ∨ p.2 ≤ a := by
  intro p hp
  obtain ⟨q, hq, hlo, hhi⟩ := h p hp
  have hout := ha q hq
  omega

theorem Within.refl (l : List (Nat × Nat)) (s : State) : Within l s s := fun _ _ => rfl

/-- A change within smaller areas follows. -/
theorem Within.step (h : Within l s u) (hv : Within m u v) (hm : Covers l m) : Within l s v :=
  fun a ha => (hv a (hm.outside ha)).trans (h a ha)

theorem Within.mono (h : Within m s u) (hm : Covers l m) : Within l s u := (Within.refl l s).step h hm

theorem Within.of_regs (h : Within l s u) (hr : v.regs = u.regs) : Within l s v :=
  fun a ha => (rd_of_regs hr a).trans (h a ha)

theorem Within.wr (h : Within l s u) {a : Nat} (w : Word) (ha : InAreas l a) : Within l s (u.wr a w) := by
  intro b hb
  obtain ⟨p, hp, hlo, hhi⟩ := ha
  have hout := hb p hp
  exact (rd_wr_other _ _ _ _ (by omega)).trans (h b hb)

theorem Within.setF (h : Within l s u) (f : Fld) (n : Nat) (hf : InAreas l f.reg) : Within l s (u.setF f n) := h.wr _ hf

theorem Within.refuseInst (h : Within l s u) (r c : Nat) (hr : InAreas l r) : Within l s (refuseInst r c u) :=
  (h.setF _ _ hr).setF _ _ hr

/-- A register outside the areas reads as before. -/
theorem Within.getF (h : Within l s u) (f : Fld) (hf : ∀ p ∈ l, f.reg < p.1 ∨ p.2 ≤ f.reg) : u.getF f = s.getF f :=
  getF_of_rd (h _ hf)

end

/-- A relation that holds of the change for each number of a list holds of the whole. -/
theorem forEach_rel {R : State → State → Prop} (hrefl : ∀ s, R s s) (htrans : ∀ {s u v}, R s u → R u v → R s v)
    {l : List Nat} {f : Nat → State → State} (hf : ∀ n ∈ l, ∀ x, R x (f n x)) (s : State) : R s (forEach l f s) := by
  induction l generalizing s with
  | nil => exact hrefl s
  | cons n t ih => exact htrans (hf n (by simp) s) (ih (fun m hm => hf m (by simp [hm])) (f n s))

/-! ## Fields -/

/-- A written field leaves a field that lies in another register or apart from it in its own. -/
theorem getF_setF_apart (s : State) (f g : Fld) (n : Nat)
    (h : g.reg ≠ f.reg ∨ (f.lo ≤ f.hi ∧ f.hi < 32) ∧ (g.hi < f.lo ∨ f.hi < g.lo)) : (s.setF f n).getF g = s.getF g := by
  obtain hreg | ⟨⟨hlo, hhi⟩, hbits⟩ := h
  · exact getF_setF_reg s f g n hreg
  · exact getF_setF_bits s f g n hlo hhi hbits

/-- A counted field leaves a field that lies in another register or apart from it in its own. -/
theorem getF_bump_apart (s : State) (f g : Fld)
    (h : g.reg ≠ f.reg ∨ (f.lo ≤ f.hi ∧ f.hi < 32) ∧ (g.hi < f.lo ∨ f.hi < g.lo)) : (s.bump f).getF g = s.getF g :=
  getF_setF_apart s f g _ h

/-- A field reads a value that fits it back as written. -/
theorem getF_setF_fits (s : State) (f : Fld) (n : Nat) (hf : f.lo ≤ f.hi ∧ f.hi < 32) (hn : n < 2 ^ (f.hi + 1 - f.lo)) :
    (s.setF f n).getF f = n := (getF_setF_same s f n hf.1 hf.2).trans (Nat.mod_eq_of_lt hn)

theorem now_of_syscnt {s u : State} (h : u.syscnt = s.syscnt) : u.now = s.now := congrArg BitVec.toNat h

theorem flag_of_getF {s : State} {f : Fld} {b : Bool} (h : s.getF f = b.toNat) : s.flag f = b := by
  rw [State.flag, h]
  cases b <;> rfl

theorem getF_refuseInst_code (s : State) (r c : Nat) (hc : c < 16) : (refuseInst r c s).getF ⟨r, 19, 16⟩ = c :=
  (getF_setF_apart _ _ _ _ (by simp)).trans (getF_setF_fits _ _ _ (by simp) hc)

theorem counted_refuseInst (s : State) (r c : Nat) : Counted ⟨r, 15, 0⟩ s (refuseInst r c s) :=
  (counted_bump _ _ (by simp) (by simp)).of_getF (getF_setF_apart _ _ _ _ (by simp))

/-- A recorded refusal leaves the fields above its own. -/
theorem getF_refuseInst_high (s : State) (r c : Nat) {f : Fld} (hf : f.reg ≠ r ∨ 20 ≤ f.lo) :
    (refuseInst r c s).getF f = s.getF f := by
  have happart (hi lo : Nat) (hlo : lo ≤ hi) (hhi : hi < 20) :
      f.reg ≠ r ∨ (lo ≤ hi ∧ hi < 32) ∧ (f.hi < lo ∨ hi < f.lo) := by omega
  exact (getF_setF_apart _ _ _ _ (happart 15 0 (by decide) (by decide))).trans
    (getF_setF_apart _ _ _ _ (happart 19 16 (by decide) (by decide)))

/-! ## Tracing -/

/-- State s with what tracing may change taken from u. -/
def traceParts (s u : State) : State := { s with regs := u.regs, obs := u.obs, mem := u.mem }

/-- From s to u nothing changes but registers, Sprout and Marrow. -/
structure TraceStep (s u : State) : Prop where
  eq : u = traceParts s u

section
variable {s u v : State}

theorem TraceStep.refl (s : State) : TraceStep s s := ⟨rfl⟩

theorem TraceStep.trans (h : TraceStep s u) (hv : TraceStep u v) : TraceStep s v :=
  ⟨hv.eq.trans (congrArg (traceParts · v) h.eq :)⟩

theorem TraceStep.setF (h : TraceStep s u) (f : Fld) (n : Nat) : TraceStep s (u.setF f n) := h.trans ⟨rfl⟩

theorem TraceStep.obs (h : TraceStep s u) (o : Obs) : TraceStep s { u with obs := o } := h.trans ⟨rfl⟩

theorem TraceStep.eventStep (h : TraceStep s u) : EventStep s u := ⟨h.eq.trans (by rw [h.eq]; rfl)⟩

theorem TraceStep.pwr (h : TraceStep s u) : u.pwr = s.pwr := (congrArg State.pwr h.eq :)
theorem TraceStep.pins (h : TraceStep s u) : u.pins = s.pins := (congrArg State.pins h.eq :)
theorem TraceStep.exc (h : TraceStep s u) : u.exc = s.exc := (congrArg State.exc h.eq :)
theorem TraceStep.syscnt (h : TraceStep s u) : u.syscnt = s.syscnt := (congrArg State.syscnt h.eq :)

theorem spillWrite_step (r : TraceRec) (s : State) : TraceStep s (spillWrite r s) := by
  unfold spillWrite
  dsimp only
  split
  · exact .refl s
  split
  · exact ⟨rfl⟩
  · exact (TraceStep.refl s).setF _ _

theorem traceWrite_step (r : TraceRec) (s : State) : TraceStep s (traceWrite r s) := by
  unfold traceWrite
  dsimp only
  exact (((TraceStep.refl s).obs _).setF _ _).trans (spillWrite_step r _)

theorem trace_step (k i src d n : Nat) (s : State) : TraceStep s (trace k i src d n s) := by
  unfold trace
  dsimp only
  split
  · exact .refl s
  split
  · exact ((TraceStep.refl s).setF OBS_TLOST_CNT _).obs _
  · refine TraceStep.trans ?_ (traceWrite_step _ _)
    split
    · exact (traceWrite_step _ s).obs _
    · exact .refl s

theorem traceRegWrite_step (m : Master) (a w : Nat) (s : State) : TraceStep s (traceRegWrite m a w s) := by
  unfold traceRegWrite
  split
  · exact trace_step _ _ _ _ _ s
  · exact .refl s

/-- The trace record of a register write touches OBS only. -/
theorem traceRegWrite_within (m : Master) (a w : Nat) (s : State) :
    Within [(0x68000, 0x70000)] s (traceRegWrite m a w s) :=
  fun b hb => traceRegWrite_rd m a w s b (hb (0x68000, 0x70000) (by simp))

theorem Within.getF_below_obs (h : Within [(0x68000, 0x70000)] s u) {f : Fld} (hf : f.reg < 0x68000) : u.getF f = s.getF f :=
  h.getF f (by simp only [List.forall_mem_singleton]; exact .inl hf)

/-! ## Raising -/

theorem release_step (g r : Nat) (s : State) : EventStep s (release g r s) := by
  unfold release
  dsimp only
  have hcoal (c : Coal) := (EventStep.refl s).setCoal g r c
  split
  · split
    · exact (hcoal _).trans ⟨rfl⟩
    · exact hcoal _
  · exact .refl s

theorem releaseDue_step (g r n : Nat) (s : State) : EventStep s (releaseDue g r n s) := by
  unfold releaseDue
  dsimp only
  split
  · exact release_step g r s
  · exact .refl s

theorem coalRefresh_step (g r n : Nat) (s : State) : EventStep s (coalRefresh g r n s) := by
  unfold coalRefresh
  dsimp only
  split
  · refine EventStep.trans ?_ (releaseDue_step g r n _)
    split
    · exact .refl s
    · exact (EventStep.refl s).setCoal g r _
  · exact (EventStep.refl s).setCoal g r _

theorem coalRaise_step (g b r n : Nat) (s : State) : EventStep s (coalRaise g b r n s) := by
  unfold coalRaise
  dsimp only
  split
  · split
    · exact ((EventStep.refl s).setCoal g r _).trans (releaseDue_step g r n _)
    · exact coalRefresh_step g r n s
  · exact .refl s

theorem irqRefresh_step (s : State) : EventStep s (irqRefresh s) := by
  unfold irqRefresh
  dsimp only
  exact ((((EventStep.refl s).setF _ _).setF _ _).setF _ _).irqLow _

theorem obsCount_step (q : Nat → Bool) (s : State) : EventStep s (obsCount q s) := by
  unfold obsCount
  generalize s.obsConfigs.filter (fun p => q p.2) = l
  induction l generalizing s with
  | nil => exact .refl s
  | cons p t ih => exact EventStep.trans ((EventStep.refl s).obs _) (ih (obsBump p.1 s))

theorem raiseBit_step (e i : Nat) (s : State) : EventStep s (raiseBit e i s) := by
  have hmerge (b : Bool) : EventStep s (if b then s.bump (EVT_Gg_MERGE_CNT (e / 32)) else s) := by
    split
    · exact (EventStep.refl s).setF _ _
    · exact .refl s
  unfold raiseBit
  dsimp only
  split
  · exact ((hmerge _).setF _ _).setF _ _
  · exact (hmerge _).setF _ _

theorem raiseStamp_step (e i n : Nat) (s : State) : EventStep s (raiseStamp e i n s) := by
  have hstamp := (EventStep.refl s).set64 (EVT_STAMP_LO e) (EVT_STAMP_HI e) n
  unfold raiseStamp
  dsimp only
  split
  · exact hstamp.setF _ _
  · exact hstamp.setF _ _

theorem raiseRec_step (e i n : Nat) (s : State) : EventStep s (raiseRec e i n s) := by
  unfold raiseRec
  split
  · exact ⟨rfl⟩
  · exact .refl s

theorem snapTrigger_step (n : Nat) (s : State) : EventStep s (snapTrigger n s) := by
  unfold snapTrigger
  dsimp only
  split
  · exact (((EventStep.refl s).set64 _ _ _).setF _ _).snp _
  · exact .refl s

theorem raiseSnap_step (e n : Nat) (s : State) : EventStep s (raiseSnap e n s) := by
  unfold raiseSnap
  split
  · exact snapTrigger_step n s
  · exact .refl s

/-- Raising an event changes registers, the event routes, records, Sprout, the snapshot, Marrow and IRQ_N only. -/
theorem raiseAt_step (e i n : Nat) (s : State) : EventStep s (raiseAt e i n s) := by
  have hcount (x : State) : EventStep s x → EventStep s (raiseSnap e n (obsEvent e x)) := fun hx =>
    (hx.trans (obsCount_step _ _)).trans (raiseSnap_step e n _)
  have hsnap := hcount _ (((raiseBit_step e i s).trans (raiseStamp_step e i n _)).trans (raiseRec_step e i n _))
  unfold raiseAt
  split
  · exact .refl s
  · dsimp only
    refine ((EventStep.trans ?_ (coalRaise_step _ _ _ _ _)).trans (coalRaise_step _ _ _ _ _)).trans (irqRefresh_step _)
    split
    · exact hsnap.trans (trace_step _ _ _ _ _ _).eventStep
    · exact hsnap

theorem raise_step (e i : Nat) (s : State) : EventStep s (raise e i s) := raiseAt_step e i s.now s

theorem raise_within (e i : Nat) (s : State) : Within eventAreas s (raise e i s) := by
  intro a ha
  simp only [eventAreas, List.forall_mem_cons] at ha
  obtain ⟨hevt, hmrw, hobs, -⟩ := ha
  exact raise_rd e i s a hevt hmrw hobs

end

end Sys2Proof.Machine
end

section
/-! SUPPORT. The lanes and the states of the exciter (R466 to R473): what a lane's rise, fall and silence leave, what the
entry of a state does to EXC_STAT and the balls, and what a mute records. -/

namespace Sys2Proof.Machine

/-! ## Lanes -/

/-- The registers of the eight lanes. -/
abbrev laneArea : List (Nat × Nat) := [(0x48100, 0x48300)]

theorem laneArea_below {a : Nat} (h : a < 0x48100) : ∀ p ∈ laneArea, a < p.1 ∨ p.2 ≤ a := by
  simp only [laneArea, List.forall_mem_singleton]
  exact .inl h

section
variable {i : Nat}

theorem inAreas_xli_stat (hi : i < 8) : InAreas laneArea (XLi_STAT i) :=
  ⟨_, List.mem_singleton.mpr rfl, by simp only [XLi_STAT]; omega, by simp only [XLi_STAT]; omega⟩

theorem inAreas_xli_pwr (hi : i < 8) : InAreas laneArea (XLi_PWR i) :=
  ⟨_, List.mem_singleton.mpr rfl, by simp only [XLi_PWR]; omega, by simp only [XLi_PWR]; omega⟩

end

/-- State s with registers, the lanes beside their registers and the count of free values taken from u. -/
def laneParts (s u : State) : State :=
  { s with regs := u.regs, freeCtr := u.freeCtr, exc := { s.exc with lanes := u.exc.lanes } }

/-- From s to u nothing changes but registers, lanes and the count of free values. -/
structure LaneStep (s u : State) : Prop where
  eq : u = laneParts s u

section
variable {s u v : State}

theorem LaneStep.refl (s : State) : LaneStep s s := ⟨rfl⟩

theorem LaneStep.trans (h : LaneStep s u) (hv : LaneStep u v) : LaneStep s v :=
  ⟨hv.eq.trans (congrArg (laneParts · v) h.eq :)⟩

theorem LaneStep.setF (h : LaneStep s u) (f : Fld) (n : Nat) : LaneStep s (u.setF f n) := h.trans ⟨rfl⟩

theorem LaneStep.setLane (h : LaneStep s u) (i : Nat) (v : Lane) : LaneStep s (u.setLane i v) := h.trans ⟨rfl⟩

theorem LaneStep.pwr (h : LaneStep s u) : u.pwr = s.pwr := (congrArg State.pwr h.eq :)
theorem LaneStep.boot (h : LaneStep s u) : u.boot = s.boot := (congrArg State.boot h.eq :)
theorem LaneStep.pins (h : LaneStep s u) : u.pins = s.pins := (congrArg State.pins h.eq :)
theorem LaneStep.syscnt (h : LaneStep s u) : u.syscnt = s.syscnt := (congrArg State.syscnt h.eq :)
theorem LaneStep.dpd (h : LaneStep s u) : u.exc.dpd = s.exc.dpd := (congrArg (·.exc.dpd) h.eq :)
theorem LaneStep.exc (h : LaneStep s u) : u.exc = { s.exc with lanes := u.exc.lanes } := (congrArg State.exc h.eq :)

end

section
variable (i : Nat) (s : State)

theorem laneGain_step : LaneStep s (laneGain i s).2 := by
  unfold laneGain
  split
  · exact .refl s
  · exact LaneStep.setLane (u := s.free.2) ⟨rfl⟩ i _

theorem laneGain_regs : (laneGain i s).2.regs = s.regs := by
  unfold laneGain
  split <;> rfl

theorem laneRise_step : LaneStep s (laneRise i s) :=
  ((((laneGain_step i s).setLane i _).setF _ _).setF _ _).setF _ _

theorem laneSilent_step (st : Nat) : LaneStep s (laneSilent i st s) := (((LaneStep.refl s).setLane i _).setF _ _).setF _ _

theorem laneFall_step : LaneStep s (laneFall i s) := (LaneStep.refl s).setLane i _

theorem laneUnmute_step : LaneStep s (laneUnmute i s) := by
  unfold laneUnmute
  split
  · exact laneRise_step i s
  · exact (LaneStep.refl s).setF _ _

theorem laneFall_within : Within laneArea s (laneFall i s) := (Within.refl _ s).of_regs rfl

variable {i}

theorem laneRise_within (hi : i < 8) : Within laneArea s (laneRise i s) := by
  have hgain : Within laneArea s ((laneGain i s).2.setLane i
    { (laneGain i s).2.lane i with down := false, drive := ⟨s.now, 0, 1⟩ }) :=
    (Within.refl _ s).of_regs (laneGain_regs i s)
  exact ((hgain.setF _ _ (inAreas_xli_stat hi)).setF _ _ (inAreas_xli_pwr hi)).setF _ _ (inAreas_xli_stat hi)

theorem laneSilent_within (st : Nat) (hi : i < 8) : Within laneArea s (laneSilent i st s) := by
  have hlane : Within laneArea s (s.setLane i { s.lane i with down := false, drive := ⟨s.now, 0, 0⟩ }) :=
    (Within.refl _ s).of_regs rfl
  exact (hlane.setF _ _ (inAreas_xli_stat hi)).setF _ _ (inAreas_xli_pwr hi)

theorem laneUnmute_within (hi : i < 8) : Within laneArea s (laneUnmute i s) := by
  unfold laneUnmute
  split
  · exact laneRise_within s hi
  · exact (Within.refl _ s).setF _ _ (inAreas_xli_stat hi)

end

/-- A change for each lane that touches lanes alone touches lanes alone. -/
theorem forEach_lanes {f : Nat → State → State} (hstep : ∀ i x, LaneStep x (f i x))
    (hwithin : ∀ i < 8, ∀ x, Within laneArea x (f i x)) (s : State) :
    LaneStep s (forEach (List.range 8) f s) ∧ Within laneArea s (forEach (List.range 8) f s) :=
  ⟨forEach_rel LaneStep.refl LaneStep.trans (fun i _ => hstep i) s,
    forEach_rel (Within.refl _) (fun h hv => h.step hv (by decide)) (fun i hi => hwithin i (List.mem_range.mp hi)) s⟩

/-- The lanes that follow the exciter's state change nothing but themselves. -/
theorem lanesFollow_lanes (st : Nat) (s : State) :
    LaneStep s (lanesFollow st s) ∧ Within laneArea s (lanesFollow st s) := by
  refine forEach_lanes (fun i x => ?_) (fun i hi x => ?_) s
  · dsimp only
    split
    · exact .refl x
    split
    · split
      · exact laneRise_step i x
      · exact .refl x
    split
    · split
      · exact (LaneStep.refl x).setF _ _
      · exact .refl x
    split
    · exact .refl x
    split
    · exact laneFall_step i x
    · exact laneSilent_step i x 0
  · dsimp only
    split
    · exact .refl _ x
    split
    · split
      · exact laneRise_within x hi
      · exact .refl _ x
    split
    · split
      · exact (Within.refl _ x).setF _ _ (inAreas_xli_stat hi)
      · exact .refl _ x
    split
    · exact .refl _ x
    split
    · exact laneFall_within i x
    · exact laneSilent_within x 0 hi

/-! ## Entering a state -/

section
variable (a b c d : Bool) (s : State)

theorem paBalls_regs : (paBalls a b c d s).regs = s.regs := rfl
theorem paBalls_exc : (paBalls a b c d s).exc = s.exc := rfl
theorem paBalls_syscnt : (paBalls a b c d s).syscnt = s.syscnt := rfl
theorem paBalls_pins : (paBalls a b c d s).pins = { s.pins with paVdd := a, paBias := b, paRf := c, dacMuted := d } := rfl

end

/-- The block EXC. -/
abbrev excArea : List (Nat × Nat) := [(0x48000, 0x4C000)]

/-- The state from which excEnter writes STATE and the balls: RAMPUP abandons a LOOP calibration before. -/
def excReady (st : Nat) (s : State) : State :=
  if st = 3 then { calAbandon s with exc := { (calAbandon s).exc with clipTo := s.now } } else s

/-- The state from which the lanes follow an entered state. -/
def excBalls (st : Nat) (s : State) : State :=
  paBalls (1 ≤ st && st ≤ 6) (2 ≤ st && st ≤ 6) (3 ≤ st && st ≤ 5) (!(3 ≤ st && st ≤ 5))
    ((excReady st s).setF EXC_STAT_STATE st)

theorem excEnter_eq (st : Nat) (s : State) : excEnter st s = lanesFollow st (excBalls st s) := rfl

theorem excReady_of_ne {st : Nat} (h : st ≠ 3) (s : State) : excReady st s = s := if_neg h

/-- State s with what raising an event may change and the calibrations beside their registers taken from u. -/
def calParts (s u : State) : State := { eventParts s u with cals := u.cals }

/-- From s to u nothing changes but registers, calibrations and what raising an event may change. -/
structure CalStep (s u : State) : Prop where
  eq : u = calParts s u

section
variable {s u v : State}

theorem CalStep.refl (s : State) : CalStep s s := ⟨rfl⟩

theorem CalStep.trans (h : CalStep s u) (hv : CalStep u v) : CalStep s v :=
  ⟨hv.eq.trans (congrArg (calParts · v) h.eq :)⟩

theorem CalStep.setF (h : CalStep s u) (f : Fld) (n : Nat) : CalStep s (u.setF f n) := h.trans ⟨rfl⟩

theorem CalStep.setCal (h : CalStep s u) (n : Nat) (c : Cal) : CalStep s (u.setCal n c) := h.trans ⟨rfl⟩

theorem EventStep.calStep (h : EventStep s u) : CalStep s u := ⟨h.eq.trans (by rw [h.eq]; rfl)⟩

theorem CalStep.exc (h : CalStep s u) : u.exc = s.exc := (congrArg State.exc h.eq :)
theorem CalStep.syscnt (h : CalStep s u) : u.syscnt = s.syscnt := (congrArg State.syscnt h.eq :)

end

theorem calReject_step (n r : Nat) (s : State) : CalStep s (calReject n r s) := by
  unfold calReject
  dsimp only
  exact (((((CalStep.refl s).setF _ _).setF _ _).setF _ _).setCal n _).setF _ _ |>.trans (raise_step _ _ _).calStep

theorem calAbandon_step (s : State) : CalStep s (calAbandon s) := by
  unfold calAbandon
  split
  · exact calReject_step 4 3 s
  · exact .refl s

/-- Without a LOOP run nothing is abandoned. -/
theorem calAbandon_idle {s : State} (h : s.getF (CALn_STAT_STATE 4) ≠ 2) : calAbandon s = s := if_neg h

theorem excReady_exc (st : Nat) (s : State) : (excReady st s).exc = { s.exc with clipTo := (excReady st s).exc.clipTo } := by
  unfold excReady
  split
  · rw [(calAbandon_step s).exc]
  · rfl

theorem excReady_syscnt (st : Nat) (s : State) : (excReady st s).syscnt = s.syscnt := by
  unfold excReady
  split
  · exact (calAbandon_step s).syscnt
  · rfl

theorem excReady_regs {st : Nat} {s : State} (h : st = 3 → s.getF (CALn_STAT_STATE 4) ≠ 2) :
    (excReady st s).regs = s.regs := by
  unfold excReady
  split
  next hst => rw [calAbandon_idle (h hst)]
  next => rfl

section
variable (st : Nat) (s : State)

/-- Beside the lanes and the instant of the clip check a state's entry leaves the exciter's own state. -/
theorem excEnter_exc :
    (excEnter st s).exc = { s.exc with lanes := (excEnter st s).exc.lanes, clipTo := (excEnter st s).exc.clipTo } := by
  have hballs : (excBalls st s).exc = { s.exc with clipTo := (excReady st s).exc.clipTo } := by
    rw [excBalls, paBalls_exc, setF_exc, ← excReady_exc]
  have hlanes := (lanesFollow_lanes st (excBalls st s)).1.exc
  rw [hballs, ← excEnter_eq] at hlanes
  generalize (excEnter st s).exc = x at hlanes ⊢
  rw [hlanes]

theorem excEnter_syscnt : (excEnter st s).syscnt = s.syscnt := by
  rw [excEnter_eq, (lanesFollow_lanes _ _).1.syscnt, excBalls, paBalls_syscnt, setF_syscnt, excReady_syscnt]

/-- The balls of a state (R466). -/
theorem excEnter_pins :
    (excEnter st s).pins = { (excReady st s).pins with
      paVdd := 1 ≤ st && st ≤ 6, paBias := 2 ≤ st && st ≤ 6, paRf := 3 ≤ st && st ≤ 5, dacMuted := !(3 ≤ st && st ≤ 5) } := by
  rw [excEnter_eq, (lanesFollow_lanes _ _).1.pins, excBalls, paBalls_pins, setF_pins]

/-- Outside the lanes' registers the entry of a state writes STATE. -/
theorem excEnter_getF {f : Fld} (hf : f.reg < 0x48100) :
    (excEnter st s).getF f = ((excReady st s).setF EXC_STAT_STATE st).getF f := by
  rw [excEnter_eq, (lanesFollow_lanes _ _).2.getF f (laneArea_below hf)]
  exact getF_of_rd (rd_of_regs (paBalls_regs _ _ _ _ _) _)

variable {st s}

theorem excEnter_state (h : st < 8) : (excEnter st s).excState = st :=
  (excEnter_getF st s (f := EXC_STAT_STATE) (by decide)).trans (getF_setF_fits _ _ _ (by decide) h)

theorem excEnter_within (h : st = 3 → s.getF (CALn_STAT_STATE 4) ≠ 2) : Within excArea s (excEnter st s) := by
  have hready : Within excArea s (excReady st s) := (Within.refl _ s).of_regs (excReady_regs h)
  have hballs : Within excArea s (excBalls st s) := 
    (hready.setF EXC_STAT_STATE st (by decide)).of_regs (paBalls_regs _ _ _ _ _)
  rw [excEnter_eq]
  exact hballs.step (lanesFollow_lanes st _).2 (by decide)

end

/-! ## Mutes -/

theorem excMuted_step (c : Nat) (s : State) : EventStep s (excMuted c s) := by
  unfold excMuted
  exact (((EventStep.refl s).setF _ _).setF _ _).trans (raise_step _ _ _)

/-- The areas of EXC and of events. -/
abbrev muteAreas : List (Nat × Nat) := [(0x48000, 0x4C000), (0x1000, 0x2000), (0x30000, 0x34000), (0x68000, 0x70000)]

theorem excMuted_within (c : Nat) (s : State) : Within muteAreas s (excMuted c s) := by
  unfold excMuted
  exact (((Within.refl _ s).setF EXC_STAT_MCAUSE c (by decide)).setF EXC_CNT_MUTES _ (by decide)).step
    (raise_within _ _ _) (by decide)

/-- In its own block a mute writes MCAUSE and counts. -/
theorem excMuted_getF (c : Nat) (s : State) (f : Fld) (hf : ∀ p ∈ eventAreas, f.reg < p.1 ∨ p.2 ≤ f.reg) :
    (excMuted c s).getF f = ((s.setF EXC_STAT_MCAUSE c).bump EXC_CNT_MUTES).getF f := by
  unfold excMuted
  exact (raise_within _ _ _).getF f hf

end Sys2Proof.Machine
end

section
/-! SUPPORT. The commands of the PA sequence (R466 to R471): the steps of the sequence and the commands EXC_CMD takes. -/

namespace Sys2Proof.Machine

/-! ## Steps of the sequence -/

section
variable (st : ExcStep) (w : Nat) (s : State)

@[simp] theorem excNext_regs : (excNext st w s).regs = s.regs := rfl
@[simp] theorem excNext_pins : (excNext st w s).pins = s.pins := rfl
theorem excNext_exc : (excNext st w s).exc = { s.exc with step := st, due := s.now + w } := rfl

theorem excNext_getF (f : Fld) : (excNext st w s).getF f = s.getF f := getF_of_rd (rd_of_regs (excNext_regs st w s) _)

theorem excNext_within : Within [] s (excNext st w s) := (Within.refl _ s).of_regs (excNext_regs st w s)

end

section
variable (st : Nat) (x : ExcStep) (w : Nat) {s : State}

/-- A step of the sequence that enters a state and waits: the state, the balls, the wait, and the registers of EXC
alone. -/
theorem excNext_excEnter (hst : st < 8) (hcal : st = 3 → s.getF (CALn_STAT_STATE 4) ≠ 2) :
    (excNext x w (excEnter st s)).excState = st ∧
      (excNext x w (excEnter st s)).exc.step = x ∧
      (excNext x w (excEnter st s)).exc.due = s.now + w ∧
      (excNext x w (excEnter st s)).exc.down = s.exc.down ∧
      Within excArea s (excNext x w (excEnter st s)) := by
  have hnow : (excEnter st s).now = s.now := now_of_syscnt (excEnter_syscnt st s)
  refine ⟨(excNext_getF _ _ _ _).trans (excEnter_state hst), ?_, ?_, ?_,
    (excEnter_within hcal).step (excNext_within _ _ _) (by decide)⟩
  · rw [excNext_exc]
  · rw [excNext_exc, hnow]
  · rw [excNext_exc, excEnter_exc]

theorem excNext_excEnter_pins :
    (excNext x w (excEnter st s)).pins = { (excReady st s).pins with
      paVdd := 1 ≤ st && st ≤ 6, paBias := 2 ≤ st && st ≤ 6, paRf := 3 ≤ st && st ≤ 5, dacMuted := !(3 ≤ st && st ≤ 5) } := by
  rw [excNext_pins, excEnter_pins]

end

/-! ## Commands of EXC_CMD -/

/-- The areas of EXC and OBS, where a write of EXC_CMD and its trace record go. -/
abbrev keyAreas : List (Nat × Nat) := [(0x48000, 0x4C000), (0x68000, 0x70000)]

section
variable {s u : State}

/-- The trace leaves the conditions of R467. -/
theorem keyOk_congr (h : TraceStep s u) (hw : Within [(0x68000, 0x70000)] s u) : u.keyOk = s.keyOk := by
  have hget {f : Fld} (hf : f.reg < 0x68000) : u.getF f = s.getF f := hw.getF_below_obs hf
  have hpins := h.pins
  have hlane {i : Nat} (hi : i < 8) : u.laneReason i = s.laneReason i := by
    unfold State.laneReason State.licEntry State.laneDab State.getI State.flag
    rw [hget (f := XLi_FREQ_HZ i) (by simp only [XLi_FREQ_HZ, XLi_FREQ]; omega),
      hget (f := XLi_PWR_TGT i) (by simp only [XLi_PWR_TGT, XLi_PWR]; omega),
      hget (f := EXC_GRPg_CTL_MODE (i / 4)) (by simp only [EXC_GRPg_CTL_MODE, EXC_GRPg_CTL]; omega),
      hget (f := XLi_DEV_AUD i) (by simp only [XLi_DEV_AUD, XLi_DEV]; omega),
      hget (f := XLi_DEV_PILOT i) (by simp only [XLi_DEV_PILOT, XLi_DEV]; omega),
      hget (f := XLi_DEV_RDS i) (by simp only [XLi_DEV_RDS, XLi_DEV]; omega), h.exc]
  have hlanes : ((List.range 8).any fun i => u.flag (XLi_CTL_EN i) && u.laneReason i == 0)
      = (List.range 8).any fun i => s.flag (XLi_CTL_EN i) && s.laneReason i == 0 := by
    rw [Bool.eq_iff_iff, List.any_eq_true, List.any_eq_true]
    refine exists_congr fun i => and_congr_right fun hi => ?_
    have hi := List.mem_range.mp hi
    rw [hlane hi, State.flag, hget (f := XLi_CTL_EN i) (by simp only [XLi_CTL_EN, XLi_CTL]; omega), ← State.flag]
  unfold State.keyOk State.couplerOk State.excState State.flag
  rw [hget (f := EXC_STAT_STATE) (by decide), hget (f := EXC_LIC_STAT_STATE) (by decide),
    hget (f := CLK_STAT_LOCK) (by decide), hget (f := CLK_STAT_HK_OK) (by decide), hget (f := EXC_CTL_DPD_EN) (by decide),
    hget (f := EXC_CPL_STAT_VALID) (by decide), hget (f := CALn_STAT_CURRENT 4) (by decide), h.exc, hpins]
  exact congrArg (fun b => _ && b && _ && _ && _ && _) hlanes

end

/-! ## The clauses on EXC_CMD -/

section
variable {s : State} {m : Master}

theorem excCmdWrite_key (s : State) : excCmdWrite 1 s = excKey s := by simp [excCmdWrite]
theorem excCmdWrite_unkey (s : State) : excCmdWrite 2 s = excUnkey s := by simp [excCmdWrite]
theorem excCmdWrite_clear (s : State) : excCmdWrite 4 s = excClear s := by simp [excCmdWrite]
theorem excCmdWrite_dpdReset (s : State) : excCmdWrite 8 s = dpdReset s := by simp [excCmdWrite]

/-- A command of EXC_CMD that reaches the register runs on the state its trace record leaves. -/
theorem excCmd_runs {c : Instr} {n : Nat} {f : State → State} (hr : s.reaches m EXC_CMD = true)
    (hc : exec c s = .next (gated m EXC_CMD n (excCmdWrite n) s)) (hf : ∀ x, excCmdWrite n x = f x) :
    exec c s = .next (f (traceRegWrite m EXC_CMD n s)) := by
  rw [hc, gated_reaches _ _ _ _ _ hr, hf]

/-- An accepted KEY in OFF raises PA_VDD_EN and waits VDD_MS (R467). -/
theorem excKey_starts (hr : s.reaches m EXC_CMD = true) (hkey : s.keyOk = true) (hoff : s.excState = 0) :
    Gives (.excKey m) s fun t =>
      (t.excState = 1 ∧ t.pins.paVdd = true ∧ t.pins.paBias = false ∧ t.pins.paRf = false ∧ t.pins.dacMuted = true ∧
        t.exc.step = .biasUp ∧ t.exc.due = s.now + s.getF EXC_SEQ_VDD_MS * Config.ticksPerMs) ∧ Within keyAreas s t := by
  have hstep := traceRegWrite_step m EXC_CMD 1 s
  have hw := traceRegWrite_within m EXC_CMD 1 s
  have hex := excCmd_runs (c := .excKey m) hr rfl excCmdWrite_key
  generalize traceRegWrite m EXC_CMD 1 s = u at hstep hw hex
  have hst : u.excState = 0 := (hw.getF_below_obs (by decide)).trans hoff
  have hnow : u.now = s.now := now_of_syscnt hstep.syscnt
  rw [excKey, if_pos ((keyOk_congr hstep hw).trans hkey), excKeyUp, if_pos hst, State.seqTicks,
    hw.getF_below_obs (f := EXC_SEQ_VDD_MS) (by decide)] at hex
  refine ⟨_, hex, ?_⟩
  obtain ⟨hstate, hnext, hdue, -, hwithin⟩ := excNext_excEnter 1 .biasUp (s.getF EXC_SEQ_VDD_MS * Config.ticksPerMs)
    (s := { u with exc := { u.exc with down := false, heldBySpll := false } }) (by decide) nofun
  rw [excNext_excEnter_pins]
  refine ⟨⟨hstate, rfl, rfl, rfl, rfl, hnext, hdue.trans (congrArg (· + _) hnow)⟩, ?_⟩
  exact (((hw.mono (by decide)) : Within keyAreas s u).of_regs rfl).step hwithin (by decide)

/-- A KEY that R467 does not allow is refused. -/
theorem excKey_refused (hr : s.reaches m EXC_CMD = true) (hkey : s.keyOk = false) :
    Gives (.excKey m) s fun t =>
      t.excState = s.excState ∧ t.pins = s.pins ∧ t.getF EXC_STAT_CODE = codeWrongState ∧ Counted EXC_STAT_REFCNT s t := by
  have hstep := traceRegWrite_step m EXC_CMD 1 s
  have hw := traceRegWrite_within m EXC_CMD 1 s
  have hex := excCmd_runs (c := .excKey m) hr rfl excCmdWrite_key
  generalize traceRegWrite m EXC_CMD 1 s = u at hstep hw hex
  rw [excKey, if_neg (by rw [keyOk_congr hstep hw, hkey]; decide)] at hex
  refine ⟨_, hex, ?_, (refuseInst_pins _ _ _).trans hstep.pins, getF_refuseInst_code _ _ _ (by decide),
    (counted_refuseInst _ _ _).of_getF (hw.getF_below_obs (by decide))⟩
  exact (getF_refuseInst_high u _ _ (.inr (by decide))).trans (hw.getF_below_obs (by decide))

/-- An accepted UNKEY in RAMPUP or ON ramps down over RAMP_MS (R468). -/
theorem excUnkey_ramps (hr : s.reaches m EXC_CMD = true) (hon : s.excState = 3 ∨ s.excState = 4)
    (hdown : s.exc.down = false) :
    Gives (.excUnkey m) s fun t =>
      (t.excState = 5 ∧ t.exc.down = true ∧ t.exc.due = s.now + s.getF EXC_SEQ_RAMP_MS * Config.ticksPerMs ∧
        t.getF EXC_STAT_MCAUSE = causeHost) ∧ Within keyAreas s t := by
  have hstep := traceRegWrite_step m EXC_CMD 2 s
  have hw := traceRegWrite_within m EXC_CMD 2 s
  have hex := excCmd_runs (c := .excUnkey m) hr rfl excCmdWrite_unkey
  generalize traceRegWrite m EXC_CMD 2 s = u at hstep hw hex
  have hst : u.excState = s.excState := hw.getF_below_obs (by decide)
  have hnow : u.now = s.now := now_of_syscnt hstep.syscnt
  unfold excUnkey at hex
  dsimp only at hex
  rw [hst, hstep.exc, hdown, if_neg (by simp; omega), if_pos (by simpa using hon), State.seqTicks,
    hw.getF_below_obs (f := EXC_SEQ_RAMP_MS) (by decide)] at hex
  refine ⟨_, hex, ?_⟩
  obtain ⟨hstate, -, hdue, hdn, hwithin⟩ := excNext_excEnter 5 .none (s.getF EXC_SEQ_RAMP_MS * Config.ticksPerMs)
    (s := State.setF EXC_STAT_MCAUSE causeHost { u with exc := { s.exc with down := true, heldBySpll := false } })
    (by decide) nofun
  rw [now_of_syscnt (setF_syscnt _ _ _)] at hdue
  refine ⟨⟨hstate, hdn, hdue.trans (congrArg (· + _) hnow), ?_⟩, ?_⟩
  · rw [excNext_getF, excEnter_getF _ _ (by decide), excReady_of_ne (by decide), getF_setF_apart _ _ _ _ (by decide)]
    exact getF_setF_fits _ _ _ (by decide) (by decide)
  · exact ((((hw.mono (by decide)) : Within keyAreas s u).of_regs rfl).setF EXC_STAT_MCAUSE causeHost
      (by decide)).step hwithin (by decide)

end

end Sys2Proof.Machine
end

section
/-! SUPPORT. The clauses on CLEAR, on the timers of the PA sequence, on PA faults and on AUTOKEY (R467 to R471). -/

namespace Sys2Proof.Machine

/-! ## CLEAR -/

/-- CLEAR in FAULT with the balls low releases the sequence (R469). -/
theorem excClear_fault {s : State} (hfault : s.excState = 7) (hpin : s.pins.paFaultN = true)
    (hdone : s.exc.faultDone = true) :
    LaneStep { excEnter 0 s with exc := { (excEnter 0 s).exc with step := .none, faultDone := false } } (excClear s) ∧
      Within laneArea { excEnter 0 s with exc := { (excEnter 0 s).exc with step := .none, faultDone := false } }
        (excClear s) := by
  unfold excClear
  dsimp only
  rw [hfault, hpin, hdone, if_pos rfl, if_pos (by decide)]
  refine forEach_lanes (fun i x => ?_) (fun i hi x => ?_) _
  · split
    · exact laneUnmute_step i x
    · exact .refl x
  · split
    · exact laneUnmute_within x hi
    · exact .refl _ x

theorem excClear_releases {s : State} {m : Master} (hr : s.reaches m EXC_CMD = true) (hfault : s.excState = 7)
    (hpin : s.pins.paFaultN = true) (hdone : s.exc.faultDone = true) :
    Gives (.excClear m) s fun t =>
      t.excState = 0 ∧ t.pins.paVdd = false ∧ t.pins.paBias = false ∧ t.pins.paRf = false := by
  have hstep := traceRegWrite_step m EXC_CMD 4 s
  have hw := traceRegWrite_within m EXC_CMD 4 s
  have hex := excCmd_runs (c := .excClear m) hr rfl excCmdWrite_clear
  generalize traceRegWrite m EXC_CMD 4 s = u at hstep hw hex
  obtain ⟨hlanes, hwithin⟩ := excClear_fault (s := u) ((hw.getF_below_obs (by decide)).trans hfault)
    (by rw [hstep.pins, hpin]) (by rw [hstep.exc, hdone])
  have hpins : (excClear u).pins = (excEnter 0 u).pins := hlanes.pins
  rw [excEnter_pins] at hpins
  refine ⟨_, hex, ?_, ?_, ?_, ?_⟩
  · exact (hwithin.getF EXC_STAT_STATE (laneArea_below (by decide))).trans (excEnter_state (by decide))
  all_goals rw [hpins]; rfl

/-! ## The model's reset -/

@[simp] theorem dpdShow_exc (s : State) : (dpdShow s).exc = s.exc := by simp [dpdShow]
@[simp] theorem dpdShow_pins (s : State) : (dpdShow s).pins = s.pins := by simp [dpdShow]

theorem dpdReset_clears {s : State} {m : Master} (hr : s.reaches m EXC_CMD = true) (hst : s.excState = 0 ∨ s.excState = 6) :
    Gives (.dpdReset m) s fun t =>
      t.exc.dpd.coefs = [] ∧ t.exc.dpd.converged = false ∧ t.exc.dpd.updated = false := by
  have hw := traceRegWrite_within m EXC_CMD 8 s
  have hex := excCmd_runs (c := .dpdReset m) hr rfl excCmdWrite_dpdReset
  generalize traceRegWrite m EXC_CMD 8 s = u at hw hex
  have hust : u.excState = s.excState := hw.getF_below_obs (by decide)
  rw [dpdReset, if_pos (by rw [hust]; simpa using hst)] at hex
  have hdpd : (dpdIdentity u).exc.dpd = { suspended := u.exc.dpd.suspended } := by rw [dpdIdentity, dpdShow_exc]
  refine ⟨_, hex, ?_, ?_, ?_⟩ <;> rw [hdpd]

/-! ## Timers -/

theorem advance_within (n : Nat) (s : State) : Within [] s (s.advance n) := (Within.refl _ s).of_regs (advance_regs _ _)

section
variable {s : State} {n : Nat} (hdue : s.exc.due ≤ n)
include hdue

/-- A period of the sequence that has expired takes its step. -/
theorem exec_excSequenceTimer : exec (.excSequenceTimer n) s = .next (excTimer (s.advance n)) := by
  show execExcSequenceTimer n s = _
  unfold execExcSequenceTimer
  dsimp only
  rw [advance_exc, if_pos hdue]

/-- The next ball of an expired period is PA_BIAS_EN (R467). -/
theorem excSequenceTimer_bias (hstep : s.exc.step = .biasUp) :
    Gives (.excSequenceTimer n) s fun t =>
      (t.excState = 2 ∧ t.pins.paVdd = true ∧ t.pins.paBias = true ∧ t.pins.paRf = false ∧ t.exc.step = .rfUp) ∧
        Within excArea s t := by
  obtain ⟨hstate, hnext, -, -, hwithin⟩ := excNext_excEnter 2 .rfUp ((s.advance n).seqTicks EXC_SEQ_BIAS_MS)
    (s := s.advance n) (by decide) nofun
  refine ⟨_, exec_excSequenceTimer hdue, ?_⟩
  unfold excTimer
  rw [advance_exc, hstep]
  dsimp only
  rw [excNext_excEnter_pins]
  exact ⟨⟨hstate, rfl, rfl, rfl, hnext⟩, ((advance_within n s).mono (by decide)).step hwithin (by decide)⟩

/-- The last ball is PA_RF_EN, with the DAC released (R467). -/
theorem excSequenceTimer_rf (hstep : s.exc.step = .rfUp) (hcal : s.getF (CALn_STAT_STATE 4) ≠ 2) :
    Gives (.excSequenceTimer n) s fun t =>
      (t.excState = 3 ∧ t.pins.paVdd = true ∧ t.pins.paBias = true ∧ t.pins.paRf = true ∧ t.pins.dacMuted = false) ∧
        Within excArea s t := by
  obtain ⟨hstate, -, -, -, hwithin⟩ := excNext_excEnter 3 .none ((s.advance n).seqTicks EXC_SEQ_RAMP_MS)
    (s := s.advance n) (by decide) (fun _ => by rwa [advance_getF])
  refine ⟨_, exec_excSequenceTimer hdue, ?_⟩
  unfold excTimer
  rw [advance_exc, hstep]
  dsimp only
  rw [excNext_excEnter_pins]
  exact ⟨⟨hstate, rfl, rfl, rfl, rfl⟩, ((advance_within n s).mono (by decide)).step hwithin (by decide)⟩

/-- After a fault PA_BIAS_EN falls next (R469). -/
theorem excSequenceTimer_faultBias (hstep : s.exc.step = .faultBias) :
    Gives (.excSequenceTimer n) s fun t =>
      (t.pins.paBias = false ∧ t.pins.paRf = false ∧ t.pins.dacMuted = true ∧ t.pins.paVdd = s.pins.paVdd ∧
        t.exc.step = .faultVdd ∧ t.excState = s.excState) ∧ Within [] s t := by
  refine ⟨_, exec_excSequenceTimer hdue, ?_⟩
  unfold excTimer
  rw [advance_exc, hstep]
  dsimp only
  rw [excNext_pins, paBalls_pins, excNext_exc, advance_pins]
  have hwithin : Within [] s (excNext .faultVdd ((s.advance n).seqTicks EXC_SEQ_VDD_MS)
      (paBalls s.pins.paVdd false false true (s.advance n))) :=
    ((advance_within n s).of_regs (paBalls_regs _ _ _ _ _)).step (excNext_within _ _ _) (by decide)
  exact ⟨⟨rfl, rfl, rfl, rfl, rfl, hwithin.getF _ (by simp)⟩, hwithin⟩

/-- The exciter's own ramp ends in ON (R467). -/
theorem excRampEnd_on (hst : s.excState = 3) :
    Gives (.excRampEnd 8 n) s fun t =>
      (t.excState = 4 ∧ t.pins.paRf = true ∧ t.pins.dacMuted = false) ∧ Within excArea s t := by
  have hadv : (s.advance n).excState = 3 := (advance_getF _ _ _).trans hst
  have hex : exec (.excRampEnd 8 n) s = .next (excEnter 4 (s.advance n)) := by
    show execExcRampEnd 8 n s = _
    unfold execExcRampEnd
    dsimp only
    rw [if_neg (by decide), advance_exc, if_neg (by omega), if_pos hadv]
  refine ⟨_, hex, ?_⟩
  dsimp only
  rw [excEnter_pins]
  exact ⟨⟨excEnter_state (by decide), rfl, rfl⟩, ((advance_within n s).mono (by decide)).step (excEnter_within nofun)
    (by decide)⟩

end

/-- A lane's ramp ends in ON, or in OFF where it was ramping down (R473). -/
theorem excRampEnd_lane {s : State} {i n : Nat} (hi : i < 8) (hst : s.getF (XLi_STAT_STATE i) = 1) :
    Gives (.excRampEnd i n) s fun t =>
      t.getF (XLi_STAT_STATE i) = (if (s.lane i).down then 0 else 2) ∧ Within excArea s t := by
  have hfits (x : State) (v : Nat) (hv : v < 4) : (x.setF (XLi_STAT_STATE i) v).getF (XLi_STAT_STATE i) = v :=
    getF_setF_fits _ _ _ (by simp [XLi_STAT_STATE]) hv
  have hlane : (s.advance n).lane i = s.lane i := by unfold State.lane; rw [advance_exc]
  have hex : exec (.excRampEnd i n) s =
      .next (if (s.lane i).down then laneSilent i 0 (s.advance n) else (s.advance n).setF (XLi_STAT_STATE i) 2) := by
    show execExcRampEnd i n s = _
    unfold execExcRampEnd
    dsimp only
    rw [if_pos hi, advance_getF, if_pos hst, hlane]
  refine ⟨_, hex, ?_⟩
  split
  · refine ⟨?_, ((advance_within n s).mono (by decide)).step (laneSilent_within _ 0 hi) (by decide)⟩
    exact (getF_setF_apart _ _ _ _ (.inl (by simp [XLi_STAT_STATE, XLi_PWR_GAIN, XLi_STAT, XLi_PWR]))).trans
      (hfits _ 0 (by decide))
  · exact ⟨hfits _ 2 (by decide),
      ((advance_within n s).mono (by decide)).step
        ((Within.refl _ _).setF _ _ (inAreas_xli_stat hi) : Within laneArea _ _) (by decide)⟩

/-! ## PA faults -/

/-- What a fault records before the balls move: PAFLT and the count, the mute and PA_FAULT (R469). -/
def faultMuted (s : State) : State :=
  raise evPaFault noInst (excMuted causePaFault
    ((({ s with pins := { s.pins with paFaultN := false } } : State).setF EXC_STAT_PAFLT 1).bump EXC_PAFLT_CNT_CNT))

/-- The wait for PA_BIAS_EN with the marks of an earlier sequence cleared (R469). -/
def faultWait (w : Nat) (s : State) : State :=
  { excNext .faultBias w s with exc := { (excNext .faultBias w s).exc with
      down := false, heldBySpll := false, faultDone := false, clearAsked := false } }

/-- The FAULT state with PA_RF_EN low (R469). -/
def faultLow (s : State) : State :=
  paBalls s.pins.paVdd s.pins.paBias false true (lanesFollow 7 (s.setF EXC_STAT_STATE 7))

/-- The FAULT state and its first wait. -/
def faultDown (s : State) : State := faultWait ((faultLow s).seqTicks EXC_SEQ_BIAS_MS) (faultLow s)

theorem faultWait_regs (w : Nat) (s : State) : (faultWait w s).regs = s.regs := rfl
theorem faultWait_pins (w : Nat) (s : State) : (faultWait w s).pins = s.pins := rfl
theorem faultWait_step (w : Nat) (s : State) : (faultWait w s).exc.step = .faultBias := rfl

/-- A fault in a keyed or keying state. -/
theorem paFault_keyed {s : State} (hlo : 1 ≤ s.excState) (hhi : s.excState ≤ 6) : paFault s = faultDown (faultMuted s) := by
  unfold paFault
  dsimp only
  rw [if_neg (by omega), if_neg (by omega)]
  rfl

section
variable (s : State)

theorem faultMuted_within : Within muteAreas s (faultMuted s) := by
  have hpin : Within muteAreas s { s with pins := { s.pins with paFaultN := false } } := (Within.refl _ s).of_regs rfl
  exact (((hpin.setF EXC_STAT_PAFLT 1 (by decide)).setF EXC_PAFLT_CNT_CNT _ (by decide)).step
    (excMuted_within _ _) (by decide)).step (raise_within _ _ _) (by decide)

/-- A fault's record leaves the PA balls. -/
theorem faultMuted_pins :
    (faultMuted s).pins.paVdd = s.pins.paVdd ∧ (faultMuted s).pins.paBias = s.pins.paBias := by
  unfold faultMuted
  rw [(raise_step _ _ _).pins, (excMuted_step _ _).pins, bump_pins, setF_pins]
  exact ⟨rfl, rfl⟩

/-- The fields of EXC that a fault's record writes. -/
theorem faultMuted_getF {f : Fld} (hf : ∀ p ∈ eventAreas, f.reg < p.1 ∨ p.2 ≤ f.reg) :
    (faultMuted s).getF f = (((s.setF EXC_STAT_PAFLT 1).bump EXC_PAFLT_CNT_CNT |>.setF EXC_STAT_MCAUSE causePaFault).bump
      EXC_CNT_MUTES).getF f := by
  unfold faultMuted
  rw [(raise_within _ _ _).getF f hf, excMuted_getF _ _ _ hf]
  rfl

theorem faultLow_regs : (faultLow s).regs = (lanesFollow 7 (s.setF EXC_STAT_STATE 7)).regs := paBalls_regs _ _ _ _ _

theorem faultDown_regs : (faultDown s).regs = (lanesFollow 7 (s.setF EXC_STAT_STATE 7)).regs :=
  (faultWait_regs _ _).trans (faultLow_regs s)

theorem faultDown_within : Within excArea s (faultDown s) := by
  have hlanes : Within excArea s (lanesFollow 7 (s.setF EXC_STAT_STATE 7)) :=
    ((Within.refl _ s).setF EXC_STAT_STATE 7 (by decide)).step (lanesFollow_lanes _ _).2 (by decide)
  exact hlanes.of_regs (faultDown_regs s)

/-- Of the fields outside the lanes the FAULT state writes STATE. -/
theorem faultDown_getF {f : Fld} (hf : f.reg < 0x48100) : (faultDown s).getF f = (s.setF EXC_STAT_STATE 7).getF f :=
  (getF_of_rd (rd_of_regs (faultDown_regs s) _)).trans
    ((lanesFollow_lanes 7 (s.setF EXC_STAT_STATE 7)).2.getF f (laneArea_below hf))

theorem faultDown_pins :
    (faultDown s).pins.paVdd = s.pins.paVdd ∧ (faultDown s).pins.paBias = s.pins.paBias ∧
      (faultDown s).pins.paRf = false ∧ (faultDown s).pins.dacMuted = true := by
  rw [faultDown, faultWait_pins, faultLow, paBalls_pins]
  exact ⟨rfl, rfl, rfl, rfl⟩

theorem faultDown_step : (faultDown s).exc.step = .faultBias := faultWait_step _ _

end

/-- A recognised low of PA_FAULT_N (R46). -/
theorem exec_paFault_recognised {s : State} {ns : Nat} {took : Bool} (hreset : s.pwr.inReset = false)
    (hlow : 100 ≤ ns ∨ 20 ≤ ns ∧ took = true) : exec (.paFault true ns took) s = .next (paFault s) := by
  show execPaFault true ns took s = _
  unfold execPaFault
  rw [if_neg (by decide), if_pos (by simpa using hlow), if_neg (by simp [hreset])]

/-- A recognised fault drops PA_RF_EN and mutes at once, and the sequence runs down (R469). -/
theorem paFault_mutes {s : State} {ns : Nat} {took : Bool} (hreset : s.pwr.inReset = false)
    (hlow : 100 ≤ ns ∨ 20 ≤ ns ∧ took = true) (hlo : 1 ≤ s.excState) (hhi : s.excState ≤ 6) :
    Gives (.paFault true ns took) s fun t =>
      (t.excState = 7 ∧ t.pins.paRf = false ∧ t.pins.dacMuted = true ∧ t.pins.paVdd = s.pins.paVdd ∧
        t.pins.paBias = s.pins.paBias ∧ t.getF EXC_STAT_MCAUSE = causePaFault ∧ t.getF EXC_STAT_PAFLT = 1 ∧
        Counted EXC_PAFLT_CNT_CNT s t ∧ Counted EXC_CNT_MUTES s t ∧ t.exc.step = .faultBias) ∧ Within muteAreas s t := by
  have hex := (exec_paFault_recognised hreset hlow).trans (congrArg _ (paFault_keyed hlo hhi))
  obtain ⟨hvdd, hbias⟩ := faultMuted_pins s
  obtain ⟨hvdd', hbias', hrf, hdac⟩ := faultDown_pins (faultMuted s)
  have hfield {f : Fld} (hf : f.reg < 0x48100 ∧ ∀ p ∈ eventAreas, f.reg < p.1 ∨ p.2 ≤ f.reg)
      (hstate : f.reg ≠ EXC_STAT ∨ (29 ≤ 31 ∧ 31 < 32) ∧ (f.hi < 29 ∨ 31 < f.lo)) :
      (faultDown (faultMuted s)).getF f = (((s.setF EXC_STAT_PAFLT 1).bump EXC_PAFLT_CNT_CNT
        |>.setF EXC_STAT_MCAUSE causePaFault).bump EXC_CNT_MUTES).getF f :=
    ((faultDown_getF _ hf.1).trans (getF_setF_apart _ EXC_STAT_STATE _ _ hstate)).trans (faultMuted_getF s hf.2)
  refine ⟨_, hex, ⟨?_, hrf, hdac, hvdd'.trans hvdd, hbias'.trans hbias, ?_, ?_, ?_, ?_, faultDown_step _⟩,
    (faultMuted_within s).step (faultDown_within _) (by decide)⟩
  · exact (faultDown_getF _ (by decide)).trans (getF_setF_fits _ _ _ (by decide) (by decide))
  · rw [hfield (by decide) (by decide), getF_bump_apart _ _ _ (by decide)]
    exact getF_setF_fits _ _ _ (by decide) (by decide)
  · rw [hfield (by decide) (by decide), getF_bump_apart _ _ _ (by decide), getF_setF_apart _ _ _ _ (by decide),
      getF_bump_apart _ _ _ (by decide)]
    exact getF_setF_fits _ _ _ (by decide) (by decide)
  · rw [Counted, hfield (by decide) (by decide), getF_bump_apart _ _ _ (by decide), getF_setF_apart _ _ _ _ (by decide)]
    exact (counted_bump _ _ (by decide) (by decide)).of_getF (getF_setF_apart _ _ _ _ (by decide))
  · rw [Counted, hfield (by decide) (by decide)]
    refine (counted_bump _ _ (by decide) (by decide)).of_getF ?_
    rw [getF_setF_apart _ _ _ _ (by decide), getF_bump_apart _ _ _ (by decide), getF_setF_apart _ _ _ _ (by decide)]

/-- A low that R46 ignores changes nothing. -/
theorem paFault_ignored {s : State} {ns : Nat} {took : Bool} (hshort : ns < 20 ∨ ns < 100 ∧ took = false) :
    Gives (.paFault true ns took) s fun t => t = s := by
  refine ⟨s, ?_, rfl⟩
  show execPaFault true ns took s = _
  unfold execPaFault
  rw [if_neg (by decide), if_neg]
  simp only [Bool.or_eq_true, Bool.and_eq_true, decide_eq_true_eq]
  rintro (hlong | ⟨hmid, rfl⟩)
  · omega
  · simp at hshort
    omega

/-- PA_FAULT_N back high is read alone. -/
theorem paFault_returns (s : State) (ns : Nat) (took : Bool) :
    Gives (.paFault false ns took) s fun t =>
      (t.pins.paFaultN = true ∧ t.excState = s.excState) ∧ Within [] s t :=
  ⟨_, rfl, ⟨rfl, getF_of_rd (rd_of_regs rfl _)⟩, (Within.refl _ s).of_regs rfl⟩

/-! ## AUTOKEY -/

/-- A KEY in HELD raises PA_RF_EN at once (R467). -/
theorem excKeyUp_held {s : State} (hst : s.excState = 6) :
    (excKeyUp s).excState = 3 ∧ (excKeyUp s).pins.paRf = true ∧ (excKeyUp s).exc.heldBySpll = false := by
  unfold excKeyUp
  dsimp only
  rw [if_neg (by omega), excNext_excEnter_pins, excNext_exc, excEnter_exc]
  exact ⟨(excNext_getF _ _ _ _).trans (excEnter_state (by decide)), rfl, rfl⟩

/-- After 1 s of unbroken lock AUTOKEY keys an exciter that SPLL loss has held (R471). -/
theorem autokey_keys {s : State} {n : Nat} (hauto : (s.advance n).flag EXC_CTL_AUTOKEY = true) (hst : s.excState = 6)
    (hheld : s.exc.heldBySpll = true) (hlock : s.inLock = true)
    (hsecond : s.clk.lockedAt + Config.ticksPerSecond ≤ (s.advance n).now) (hkey : (s.advance n).keyOk = true) :
    Gives (.autokey n) s fun t => t.excState = 3 ∧ t.pins.paRf = true ∧ t.exc.heldBySpll = false := by
  have hadv : (s.advance n).excState = 6 := (advance_getF _ _ _).trans hst
  have hlocked : (s.advance n).inLock = true := by
    rw [State.inLock, State.spll, advance_getF]
    exact hlock
  refine ⟨_, ?_, excKeyUp_held hadv⟩
  show execAutokey n s = _
  unfold execAutokey
  dsimp only
  rw [if_pos]
  simp only [hauto, hadv, hlocked, hkey, advance_exc, hheld, advance_clk, hsecond, decide_true, Bool.and_self]

end Sys2Proof.Machine
end

section
/-! SUPPORT. Pre-distortion and the coupler (R481 to R484), and the statement on the exciter's sequence. -/

namespace Sys2Proof.Machine

/-! ## Pre-distortion -/

/-- What EXC_STAT.DPD shows of a model (R484). -/
def Dpd.shown (d : Dpd) : Nat := if d.suspended then 3 else if d.converged then 2 else if d.updated then 1 else 0

theorem Dpd.shown_lt (d : Dpd) : d.shown < 4 := by
  unfold Dpd.shown
  repeat' split
  all_goals decide

section
variable (s : State)

theorem dpdShow_within : Within excArea s (dpdShow s) := by
  unfold dpdShow
  exact ((Within.refl _ s).setF EXC_DPD_CDATA_COEF _ (by decide)).setF EXC_STAT_DPD _ (by decide)

theorem dpdShow_stat : (dpdShow s).getF EXC_STAT_DPD = s.exc.dpd.shown := by
  unfold dpdShow
  exact getF_setF_fits _ _ _ (by decide) s.exc.dpd.shown_lt

theorem dpdShow_getF {f : Fld} (hf : f.reg ≠ EXC_STAT ∧ f.reg ≠ EXC_DPD_CDATA) : (dpdShow s).getF f = s.getF f := by
  unfold dpdShow
  exact (getF_setF_reg _ EXC_STAT_DPD _ _ hf.1).trans (getF_setF_reg _ EXC_DPD_CDATA_COEF _ _ hf.2)

/-- The lift of the hold touches lanes alone (R483). -/
theorem holdLift_lanes : LaneStep s (holdLift s) ∧ Within laneArea s (holdLift s) := by
  refine forEach_lanes (fun i x => ?_) (fun i hi x => ?_) s
  · dsimp only
    split
    · exact .refl x
    split
    · exact ((((LaneStep.refl x).setLane i _).setF _ _).setF _ _)
    · exact (LaneStep.refl x).setF _ _
  · have hset (y : State) (hy : y.regs = x.regs) (g : Int) :
        Within laneArea x ((y.setI (XLi_PWR_GAIN i) g).setF (XLi_STAT_HELD10 i) 0) :=
      (((Within.refl _ x).of_regs hy).setF _ _ (inAreas_xli_pwr hi)).setF _ _ (inAreas_xli_stat hi)
    dsimp only
    split
    · exact .refl _ x
    split
    · exact hset _ rfl _
    · exact (Within.refl _ x).setF _ _ (inAreas_xli_stat hi)

end

/-- State s with another model in force. -/
def State.withDpd (d : Dpd) (s : State) : State := { s with exc := { s.exc with dpd := d } }

theorem withDpd_regs (d : Dpd) (s : State) : (s.withDpd d).regs = s.regs := rfl
theorem withDpd_dpd (d : Dpd) (s : State) : (s.withDpd d).exc.dpd = d := rfl

section
variable (d : Dpd) (s : State)

theorem withDpd_within : Within [] s (s.withDpd d) := (Within.refl _ s).of_regs (withDpd_regs d s)

/-- The model in force is shown, and only EXC registers change. -/
theorem dpdShow_withDpd :
    (dpdShow (s.withDpd d)).exc.dpd = d ∧ (dpdShow (s.withDpd d)).getF EXC_STAT_DPD = d.shown ∧
      Within excArea s (dpdShow (s.withDpd d)) := by
  refine ⟨?_, ?_, ((withDpd_within d s).mono (by decide)).step (dpdShow_within _) (by decide)⟩
  · rw [dpdShow_exc, withDpd_dpd]
  · rw [dpdShow_stat, withDpd_dpd]

end

/-- A condition of R484 suspends adaptation with the model kept. -/
theorem dpdSuspend_suspends {s : State} {bad : Bool} (hen : s.flag EXC_CTL_DPD_EN = true)
    (hrun : s.exc.dpd.suspended = false) (hstop : s.dpdStops bad = true) :
    Gives (.dpdSuspend bad) s fun t =>
      (t.exc.dpd.suspended = true ∧ t.getF EXC_STAT_DPD = 3 ∧ t.exc.dpd.coefs = s.exc.dpd.coefs) ∧
        Within muteAreas s t := by
  have hex : exec (.dpdSuspend bad) s = .next (raise evDpdSuspend noInst
      (dpdShow (s.withDpd { s.exc.dpd with suspended := true }))) := by
    show execDpdSuspend bad s = _
    rw [execDpdSuspend, if_pos (by simp [hen, hrun, hstop])]
    rfl
  obtain ⟨hdpd, hstat, hwithin⟩ := dpdShow_withDpd { s.exc.dpd with suspended := true } s
  generalize dpdShow _ = u at hex hdpd hstat hwithin
  have hdpd : (raise evDpdSuspend noInst u).exc.dpd = _ := (congrArg Exciter.dpd (raise_step _ _ u).exc).trans hdpd
  refine ⟨_, hex, ⟨?_, ?_, ?_⟩, (hwithin.mono (by decide)).step (raise_within _ _ _) (by decide)⟩
  · rw [hdpd]
  · exact ((raise_within _ _ _).getF _ (by decide)).trans hstat
  · rw [hdpd]

section
variable {s : State} {x : Int} {cs : List (Int × Int)}

/-- The third good update in a row, with a model that has not converged. -/
theorem dpdUpdate_third_good (hgood : x ≤ s.nmseTh) (hthird : s.exc.dpd.good = 2) (hnot : s.exc.dpd.converged = false) :
    dpdUpdate x cs s = holdLift (raise evDpdConv noInst (dpdShow
      ((s.setI EXC_DPD_STAT_NMSE (clampInt (-32768) 32767 x)).withDpd
        { coefs := coefTable cs, saved := some (coefTable cs), good := 3, bad := 0, converged := true,
          updated := true }))) := by
  have hbad : ¬ s.nmseTh + 60 < x := by omega
  simp only [dpdUpdate, if_pos hgood, if_neg hbad, hthird, hnot]
  rfl

/-- The third bad update in a row. -/
theorem dpdUpdate_third_bad (hbad : s.nmseTh + 60 < x) (hthird : s.exc.dpd.bad = 2) :
    dpdUpdate x cs s = dpdShow ((((s.setI EXC_DPD_STAT_NMSE (clampInt (-32768) 32767 x)).withDpd
      { s.exc.dpd with coefs := s.exc.dpd.saved.getD [], good := 0, bad := 0, updated := s.exc.dpd.saved.isSome,
                       suspended := false }).bump EXC_DPD_STAT_REVERT)) := by
  simp only [dpdUpdate, if_pos hbad, hthird]
  rfl

variable (hen : s.flag EXC_CTL_DPD_EN = true) (hfw : s.firmwareOn 5 = true) (hgo : s.dpdStops false = false)
include hen hfw hgo

theorem exec_dpdUpdate : exec (.dpdUpdate x cs) s = .next (dpdUpdate x cs s) := by
  show execDpdUpdate x cs s = _
  rw [execDpdUpdate, if_pos (by simp [hen, hfw, hgo])]

/-- The third good update in a row converges, and the hold of R475 lifts (R483). -/
theorem dpdUpdate_converges (hgood : x ≤ s.nmseTh) (hthird : s.exc.dpd.good = 2) (hnot : s.exc.dpd.converged = false) :
    Gives (.dpdUpdate x cs) s fun t =>
      (t.exc.dpd.converged = true ∧ t.exc.dpd.saved = some (coefTable cs) ∧ t.exc.dpd.coefs = coefTable cs ∧
        t.getF EXC_STAT_DPD = 2) ∧ Within muteAreas s t := by
  have hex := (exec_dpdUpdate hen hfw hgo).trans (congrArg _ (dpdUpdate_third_good (cs := cs) hgood hthird hnot))
  have hnmse : Within excArea s (s.setI EXC_DPD_STAT_NMSE (clampInt (-32768) 32767 x)) :=
    (Within.refl _ s).setF _ _ (by decide)
  generalize s.setI EXC_DPD_STAT_NMSE _ = v at hex hnmse
  obtain ⟨hdpd, hstat, hwithin⟩ := dpdShow_withDpd
    { coefs := coefTable cs, saved := some (coefTable cs), good := 3, bad := 0, converged := true, updated := true } v
  generalize dpdShow _ = u at hex hdpd hstat hwithin
  obtain ⟨hlanes, hlift⟩ := holdLift_lanes (raise evDpdConv noInst u)
  have hdpd : (holdLift (raise evDpdConv noInst u)).exc.dpd = _ :=
    (hlanes.dpd.trans (congrArg Exciter.dpd (raise_step _ _ u).exc)).trans hdpd
  refine ⟨_, hex, ⟨?_, ?_, ?_, ?_⟩, (((hnmse.mono (by decide)).step hwithin (by decide)).step (raise_within _ _ _)
    (by decide)).step hlift (by decide)⟩
  iterate 3 rw [hdpd]
  exact ((hlift.getF _ (laneArea_below (by decide))).trans ((raise_within _ _ _).getF _ (by decide))).trans hstat

/-- The third bad update in a row restores the last converged model (R483). -/
theorem dpdUpdate_reverts (hbad : s.nmseTh + 60 < x) (hthird : s.exc.dpd.bad = 2) :
    Gives (.dpdUpdate x cs) s fun t =>
      (t.exc.dpd.coefs = s.exc.dpd.saved.getD [] ∧ Counted EXC_DPD_STAT_REVERT s t) ∧ Within excArea s t := by
  have hex := (exec_dpdUpdate hen hfw hgo).trans (congrArg _ (dpdUpdate_third_bad (cs := cs) hbad hthird))
  have hnmse : Within excArea s (s.setI EXC_DPD_STAT_NMSE (clampInt (-32768) 32767 x)) :=
    (Within.refl _ s).setF _ _ (by decide)
  have hcnt : (s.setI EXC_DPD_STAT_NMSE (clampInt (-32768) 32767 x)).getF EXC_DPD_STAT_REVERT = s.getF EXC_DPD_STAT_REVERT :=
    getF_setF_apart _ _ _ _ (by decide)
  generalize s.setI EXC_DPD_STAT_NMSE _ = v at hex hnmse hcnt
  refine ⟨_, hex, ⟨?_, ?_⟩, ?_⟩
  · rw [dpdShow_exc, bump_exc, withDpd_dpd]
  · rw [Counted, dpdShow_getF _ (by decide)]
    exact (counted_bump _ _ (by decide) (by decide)).of_getF (((withDpd_within _ v).getF _ (by simp)).trans hcnt)
  · exact ((hnmse.step (withDpd_within _ v) (by decide)).setF EXC_DPD_STAT_REVERT _ (by decide)).step
      (dpdShow_within _) (by decide)

end

/-! ## The coupler -/

/-- Contiguous rising entries commit (R481). -/
theorem couplerCommit_commits {s : State} {m : Master} (hr : s.reaches m EXC_CPL_CMD = true)
    (hl : ((let l := (List.range 8).map fun j => s.getF (EXC_CPL_MHZ j);
      l.take (l.filter (· != 0)).length == l.filter (· != 0) && ascending (l.filter (· != 0)))) = true) :
    Gives (.couplerCommit m) s fun t => t.getF EXC_CPL_STAT_VALID = 1 ∧ Within keyAreas s t := by
  have hw := traceRegWrite_within m EXC_CPL_CMD 1 s
  have hex : exec (.couplerCommit m) s = .next (couplerCommit (traceRegWrite m EXC_CPL_CMD 1 s)) :=
    congrArg Host.Outcome.next (gated_reaches m EXC_CPL_CMD 1 couplerCommit s hr)
  generalize traceRegWrite m EXC_CPL_CMD 1 s = u at hw hex
  have hmhz : (List.range 8).map (fun j => u.getF (EXC_CPL_MHZ j)) = (List.range 8).map fun j => s.getF (EXC_CPL_MHZ j) :=
    List.map_congr_left fun j hj => hw.getF_below_obs (by
      have hj := List.mem_range.mp hj
      simp only [EXC_CPL_MHZ, EXC_CPL]
      omega)
  unfold couplerCommit at hex
  dsimp only at hex hl
  rw [hmhz, if_pos hl] at hex
  exact ⟨_, hex, getF_setF_fits _ _ _ (by decide) (by decide), (hw.mono (by decide)).setF EXC_CPL_STAT_VALID 1 (by decide)⟩

/-! ## The statement -/

/-- Settles O34: each clause by the rule of its command. -/
theorem exciterSequence : Obligations.ExciterSequence := by
  unfold Obligations.ExciterSequence
  simp only [decide_eq_true_eq, beq_iff_eq, bne_iff_ne, Bool.not_eq_true', Bool.or_eq_true, Bool.and_eq_true]
  refine ⟨fun _ _ => excKey_starts, fun _ _ => excKey_refused, fun _ _ => excUnkey_ramps, fun _ _ => excClear_releases,
    fun _ _ => dpdReset_clears, fun _ _ hstep hdue => excSequenceTimer_bias hdue hstep,
    fun _ _ hstep hdue => excSequenceTimer_rf hdue hstep, fun _ _ hstep hdue => excSequenceTimer_faultBias hdue hstep,
    fun _ i n hi hdue => ?_, fun _ _ _ => excRampEnd_lane, fun _ _ _ => paFault_mutes, fun _ _ _ => paFault_ignored,
    fun s ns took _ => paFault_returns s ns took, fun _ _ => autokey_keys, fun _ _ => dpdSuspend_suspends,
    fun _ _ _ => dpdUpdate_converges, fun _ _ _ => dpdUpdate_reverts,
    fun _ _ hr hl => couplerCommit_commits hr (by simpa only [Bool.and_eq_true, beq_iff_eq] using hl)⟩
  subst hi
  exact excRampEnd_on hdue

end Sys2Proof.Machine
end

section
/-! SUPPORT. What the service link and the exciter leave when the HK crystal stops or a licence is lost: the supplies and
the balls of the boot, and every register outside their blocks. -/

namespace Sys2Proof.Machine

/-! ## The frame -/

/-- From s to u registers of these areas change, and neither the supplies nor the balls VID and QSPI do. -/
structure Frame (l : List (Nat × Nat)) (s u : State) : Prop where
  within : Within l s u
  pwr : u.pwr = s.pwr
  vid : u.pins.vid = s.pins.vid
  qspi : u.pins.qspi = s.pins.qspi

section
variable {l m : List (Nat × Nat)} {s u v : State}

theorem Frame.refl (l : List (Nat × Nat)) (s : State) : Frame l s s := ⟨.refl l s, rfl, rfl, rfl⟩

/-- A change in smaller areas follows. -/
theorem Frame.step (h : Frame l s u) (hv : Frame m u v) (hm : Covers l m) : Frame l s v :=
  ⟨h.within.step hv.within hm, hv.pwr.trans h.pwr, hv.vid.trans h.vid, hv.qspi.trans h.qspi⟩

theorem Frame.trans (h : Frame l s u) (hv : Frame l u v) : Frame l s v :=
  h.step hv fun p hp => ⟨p, hp, le_rfl, le_rfl⟩

theorem Frame.mono (h : Frame m s u) (hm : Covers l m) : Frame l s u := (Frame.refl l s).step h hm

theorem Frame.setF (h : Frame l s u) (f : Fld) (n : Nat) (hf : InAreas l f.reg) : Frame l s (u.setF f n) :=
  ⟨h.within.setF f n hf, h.pwr, h.vid, h.qspi⟩

theorem Frame.wr (h : Frame l s u) (a : Nat) (w : Word) (ha : InAreas l a) : Frame l s (u.wr a w) :=
  ⟨h.within.wr w ha, h.pwr, h.vid, h.qspi⟩

/-- A change of no register that keeps the supplies and the two balls. -/
theorem Frame.of_eq (h : Frame l s u) (hr : v.regs = u.regs) (hp : v.pwr = u.pwr)
    (hb : v.pins.vid = u.pins.vid ∧ v.pins.qspi = u.pins.qspi) : Frame l s v :=
  ⟨h.within.of_regs hr, hp.trans h.pwr, hb.1.trans h.vid, hb.2.trans h.qspi⟩

theorem Frame.slk (h : Frame l s u) (x : Slk) : Frame l s { u with slk := x } := h.of_eq rfl rfl ⟨rfl, rfl⟩

theorem Frame.exc (h : Frame l s u) (x : Exciter) : Frame l s { u with exc := x } := h.of_eq rfl rfl ⟨rfl, rfl⟩

theorem Frame.sec (h : Frame l s u) (x : Sec) : Frame l s { u with sec := x } := h.of_eq rfl rfl ⟨rfl, rfl⟩

theorem Frame.slFem (h : Frame l s u) (rx tx : Bool) :
    Frame l s { u with pins := { u.pins with slFemRx := rx, slFemTx := tx } } := h.of_eq rfl rfl ⟨rfl, rfl⟩

theorem Frame.slWait (h : Frame l s u) (x : Slk) (rx : Bool) :
    Frame l s { u with slk := x, pins := { u.pins with slFemRx := rx } } := h.of_eq rfl rfl ⟨rfl, rfl⟩

theorem Frame.paBalls (h : Frame l s u) (a b c d : Bool) : Frame l s (paBalls a b c d u) := h.of_eq rfl rfl ⟨rfl, rfl⟩

theorem Frame.ite {c : Prop} [Decidable c] (hu : Frame l s u) (hv : Frame l s v) : Frame l s (if c then u else v) := by
  split
  · exact hu
  · exact hv

theorem Frame.forEach {n : List Nat} {f : Nat → State → State} (hf : ∀ k ∈ n, ∀ x, Frame l x (f k x)) (s : State) :
    Frame l s (forEach n f s) :=
  forEach_rel (Frame.refl l) Frame.trans hf s

theorem EventStep.frame (h : EventStep s u) (hw : Within l s u) : Frame l s u :=
  ⟨hw, h.pwr, by rw [h.pins], by rw [h.pins]⟩

theorem LaneStep.frame (h : LaneStep s u) (hw : Within l s u) : Frame l s u :=
  ⟨hw, h.pwr, by rw [h.pins], by rw [h.pins]⟩

theorem raise_frame (e i : Nat) (s : State) : Frame eventAreas s (raise e i s) :=
  (raise_step e i s).frame (raise_within e i s)

end

/-! ## The service link -/

/-- The areas of SLK, of CLK_DOM and of events. -/
abbrev slkAreas : List (Nat × Nat) :=
  [(0x4C000, 0x50000), (0x2024, 0x2028), (0x1000, 0x2000), (0x30000, 0x34000), (0x68000, 0x70000)]

section
variable (s : State)

theorem slEnter_frame (st : Nat) : Frame slkAreas s (slEnter st s) := by
  unfold slEnter
  dsimp only
  exact ((Frame.refl slkAreas s).setF SLK_STAT_STATE st (by decide)).slFem _ _

theorem slUnlock_frame : Frame slkAreas s (slUnlock s) :=
  ((Frame.refl slkAreas s).setF SLK_STAT_LOCK 0 (by decide)).setF CLK_DOM_SLK 0 (by decide)

theorem slRetune_frame (c : Nat) : Frame slkAreas s (slRetune c s) := by
  unfold slRetune
  dsimp only
  exact (((Frame.refl slkAreas s).setF SLK_STAT_CH c (by decide)).trans (slUnlock_frame _)).slk _

theorem slHopNext_frame : Frame slkAreas s (slHopNext s) := (Frame.refl slkAreas s).setF SLK_HOPCTL_IDX _ (by decide)

theorem slReqLow_frame : Frame slkAreas s (slReqLow s) := (Frame.refl slkAreas s).of_eq rfl rfl ⟨rfl, rfl⟩

theorem slTune_frame (goal c : Nat) : Frame slkAreas s (slTune goal c s) := by
  have hgoal := (Frame.refl slkAreas s).slk { s.slk with goal := goal, rx := none }
  unfold slTune
  dsimp only
  split
  · exact hgoal.trans (slEnter_frame _ _)
  split
  · exact hgoal
  · refine Frame.trans (Frame.trans ?_ (slRetune_frame _ c)) (slEnter_frame _ 1)
    split
    · exact hgoal.slk _
    · exact hgoal

theorem slReturn_frame (ret c : Nat) : Frame slkAreas s (slReturn ret c s) := by
  unfold slReturn
  split
  · exact slTune_frame s _ _
  split <;> exact slTune_frame s _ _

theorem slTxOver_frame : Frame slkAreas s (slTxOver s) := by
  have hhop : Frame slkAreas s (if s.slk.txHop then slHopNext s else s) := by
    split
    · exact slHopNext_frame s
    · exact .refl _ s
  unfold slTxOver
  dsimp only
  exact (hhop.slk _).trans (slReqLow_frame _)

theorem slTxEnd_frame : Frame slkAreas s (slTxEnd s) := (slTxOver_frame s).trans (slReturn_frame _ _ _)

theorem slDutyShow_frame : Frame slkAreas s (slDutyShow s) := by
  unfold slDutyShow
  refine Frame.forEach (fun b hb x => (Frame.refl slkAreas x).setF _ _ ?_) s
  have hb := List.mem_range.mp hb
  exact ⟨(0x4C000, 0x50000), by simp, by simp only [SLK_DUTY_MS, SLK_DUTY]; omega,
    by simp only [SLK_DUTY_MS, SLK_DUTY]; omega⟩

theorem slDutyAdd_frame (c h : Nat) : Frame slkAreas s (slDutyAdd c h s) := by
  unfold slDutyAdd
  split
  · exact .refl _ s
  · exact ((Frame.refl slkAreas s).slk _).trans (slDutyShow_frame _)

theorem slCut_frame : Frame slkAreas s (slCut s) := by
  unfold slCut
  exact ((Frame.refl slkAreas s).setF SLK_TXSTAT_AIR_US _ (by decide)).trans (slDutyAdd_frame _ _ _)

theorem slTxAbort_frame (cause : Nat) : Frame slkAreas s (slTxAbort cause s) := by
  have hcount := ((Frame.refl slkAreas s).setF SLK_TXSTAT_ACAUSE cause (by decide)).setF SLK_CNT4_TXABORT
    (min ((s.setF SLK_TXSTAT_ACAUSE cause).getF SLK_CNT4_TXABORT + 1) (2 ^ (15 + 1 - 0) - 1)) (by decide)
  unfold slTxAbort
  dsimp only
  split
  · exact (hcount.trans (slCut_frame _)).step (raise_frame _ _ _) (by decide)
  · exact hcount

end

/-! ## Loss of lock -/

section
variable {s : State}

theorem getF_withSlk (x : Slk) (s : State) (f : Fld) : ({ s with slk := x } : State).getF f = s.getF f := rfl

theorem getF_withPins (x : Pins) (s : State) (f : Fld) : ({ s with pins := x } : State).getF f = s.getF f := rfl

theorem slEnter_lock (st : Nat) (s : State) : (slEnter st s).getF SLK_STAT_LOCK = s.getF SLK_STAT_LOCK := by
  unfold slEnter
  exact (getF_withPins _ _ _).trans (getF_setF_apart s SLK_STAT_STATE _ _ (by decide))

theorem slUnlock_lock (s : State) : (slUnlock s).getF SLK_STAT_LOCK = 0 := by
  unfold slUnlock
  exact (getF_setF_apart _ CLK_DOM_SLK _ _ (by decide)).trans (getF_setF_fits _ _ _ (by decide) (by decide))

theorem slRetune_lock (c : Nat) (s : State) : (slRetune c s).getF SLK_STAT_LOCK = 0 := by
  unfold slRetune
  exact (getF_withSlk _ _ _).trans (slUnlock_lock _)

theorem slTxOver_lock (s : State) : (slTxOver s).getF SLK_STAT_LOCK = s.getF SLK_STAT_LOCK := by
  unfold slTxOver slReqLow
  refine ((getF_withPins _ _ _).trans (getF_withSlk _ _ _)).trans ?_
  split
  · exact getF_setF_apart s SLK_HOPCTL_IDX _ _ (by decide)
  · rfl

/-- A link out of lock that makes for a state stays out of lock. -/
theorem slTune_lock (goal c : Nat) (h : s.getF SLK_STAT_LOCK = 0) : (slTune goal c s).getF SLK_STAT_LOCK = 0 := by
  unfold slTune
  dsimp only
  split
  · exact (slEnter_lock _ _).trans h
  split
  · exact h
  · exact (slEnter_lock _ _).trans (slRetune_lock _ _)

theorem slReturn_lock (ret c : Nat) (h : s.getF SLK_STAT_LOCK = 0) : (slReturn ret c s).getF SLK_STAT_LOCK = 0 := by
  unfold slReturn
  split
  · exact slTune_lock _ _ h
  split <;> exact slTune_lock _ _ h

theorem slTxEnd_lock (h : s.getF SLK_STAT_LOCK = 0) : (slTxEnd s).getF SLK_STAT_LOCK = 0 :=
  slReturn_lock _ _ ((slTxOver_lock s).trans h)

/-- A loss of lock leaves the link out of lock, and only its own registers, CLK_DOM and events change (R490). -/
theorem slLoseLock_lost (s : State) : Frame slkAreas s (slLoseLock s) ∧ (slLoseLock s).getF SLK_STAT_LOCK = 0 := by
  unfold slLoseLock
  extract_lets c lost synced rxGone
  have hlost (x : State) : Frame slkAreas x (lost x) := slRetune_frame x _
  have hlock (x : State) : (lost x).getF SLK_STAT_LOCK = 0 := slRetune_lock _ x
  have hgone (x : State) : Frame slkAreas x (rxGone x) := by
    unfold rxGone
    dsimp only
    split
    · have hcount := ((Frame.refl slkAreas x).setF SLK_TXSTAT_ACAUSE 3 (by decide)).setF SLK_CNT3_RXABORT
        (min ((x.setF SLK_TXSTAT_ACAUSE 3).getF SLK_CNT3_RXABORT + 1) (2 ^ (15 + 1 - 0) - 1)) (by decide)
      refine Frame.slk ?_ _
      split
      · exact hcount.trans (slHopNext_frame _)
      · exact hcount
    split
    · exact ((Frame.refl slkAreas x).setF SLK_TXSTAT_ACAUSE 3 (by decide)).slk _
    · exact .refl _ x
  split
  next hoff =>
    refine ⟨.refl _ s, ?_⟩
    simpa [State.flag] using hoff
  split
  · exact ⟨((slTxAbort_frame s 3).trans (hlost _)).trans (slTxEnd_frame _), slTxEnd_lock (hlock _)⟩
  split
  · split
    · exact ⟨(((hgone s).trans (hlost _)).trans (slEnter_frame _ _)).trans (slReturn_frame _ _ _),
        slReturn_lock _ _ ((slEnter_lock _ _).trans (hlock _))⟩
    · exact ⟨((((Frame.refl slkAreas s).slk _).trans (hgone _)).trans (hlost _)).trans (slEnter_frame _ _),
        (slEnter_lock _ _).trans (hlock _)⟩
  split
  · exact ⟨((hgone s).slWait _ false).trans (slRetune_frame _ _), slRetune_lock _ _⟩
  · exact ⟨(hlost s).trans (slEnter_frame _ _), (slEnter_lock _ _).trans (hlock _)⟩

end

/-- A licence record's section is shown, and a transmission it does not permit is aborted (R506). -/
theorem slLicence_frame (st : Nat) (bands : List SlBand) (s : State) : Frame slkAreas s (slLicence st bands s) := by
  unfold slLicence
  extract_lets old bins s1 link s2
  have hs1 : Frame slkAreas s s1 :=
    ((Frame.refl slkAreas s).setF SLK_LIC_STATE st (by decide)).setF SLK_LIC_NBAND bands.length (by decide)
  have hs2 : Frame slkAreas s s2 := by
    unfold s2
    split
    · exact (hs1.slk _).trans (slDutyShow_frame _)
    · exact hs1
  split
  · exact (hs2.trans (slTxAbort_frame _ 6)).trans (slTxEnd_frame _)
  · exact hs2

/-! ## The exciter -/

theorem excMuted_frame (c : Nat) (s : State) : Frame muteAreas s (excMuted c s) :=
  (excMuted_step c s).frame (excMuted_within c s)

/-- The entry of a state other than RAMPUP. -/
theorem excEnter_frame {st : Nat} (h : st ≠ 3) (s : State) : Frame excArea s (excEnter st s) := by
  have hballs : Frame excArea s (excBalls st s) := by
    rw [excBalls, excReady_of_ne h]
    exact ((Frame.refl excArea s).setF EXC_STAT_STATE st (by decide)).paBalls _ _ _ _
  rw [excEnter_eq]
  obtain ⟨hstep, hwithin⟩ := lanesFollow_lanes st (excBalls st s)
  exact hballs.step (hstep.frame hwithin) (by decide)

theorem excRelease_frame (c : Nat) (s : State) : Frame muteAreas s (excRelease c s) := by
  unfold excRelease
  split
  · exact (Frame.refl _ s).paBalls _ _ _ _
  · exact (((excEnter_frame (by decide) s).mono (by decide)).step (excMuted_frame c _) (by decide)).exc _

theorem excHold_frame (c : Nat) (s : State) : Frame muteAreas s (excHold c s) := by
  unfold excHold
  split
  · exact (((excEnter_frame (by decide) s).mono (by decide)).step (excMuted_frame c _) (by decide)).exc _
  · exact .refl _ s

end Sys2Proof.Machine
end

section
/-! SUPPORT. What the security block shows when the internal reset ends (R535, R545, R554): registers past the SYS block,
with the supplies and the balls of the boot as they were. -/

namespace Sys2Proof.Machine

/-- The register blocks past SYS that the boot's start may write. -/
abbrev bootArea : List (Nat × Nat) := [(0x1000, 0x70000)]

/-! ## Lanes under a licence -/

theorem laneMute_frame {i : Nat} (hi : i < 8) (c : Nat) (s : State) : Frame bootArea s (laneMute i c s) := by
  have hsilent : Frame laneArea s (laneSilent i 3 s) := (laneSilent_step i s 3).frame (laneSilent_within s 3 hi)
  have hlane := hsilent.setF (XLi_STAT_MCAUSE i) c (inAreas_xli_stat hi)
  have hcause : Frame bootArea s _ := (hlane.mono (by decide)).setF EXC_STAT_MCAUSE c (by decide)
  unfold laneMute
  exact hcause.step (raise_frame _ _ _) (by decide)

theorem laneUnmute_frame {i : Nat} (hi : i < 8) (s : State) : Frame bootArea s (laneUnmute i s) :=
  ((laneUnmute_step i s).frame (laneUnmute_within s hi)).mono (by decide)

theorem Frame.setLane {l : List (Nat × Nat)} {s u : State} (h : Frame l s u) (i : Nat) (v : Lane) :
    Frame l s (u.setLane i v) := h.of_eq rfl rfl ⟨rfl, rfl⟩

theorem licRecheck_frame (s : State) : Frame bootArea s (licRecheck s) := by
  unfold licRecheck
  refine (Frame.forEach (l := bootArea) (fun i hi x => ?_) s).step (raise_frame _ _ _) (by decide)
  have hi := List.mem_range.mp hi
  have hpwr {y : State} (hy : Frame laneArea x y) (g : Int) : Frame laneArea x (y.setI (XLi_PWR_GAIN i) g) :=
    hy.setF _ _ (inAreas_xli_pwr hi)
  have htgt (g : Int) : Frame laneArea x (x.setI (XLi_PWR_TGT i) g) := (Frame.refl _ x).setF _ _ (inAreas_xli_pwr hi)
  split
  · exact .refl _ x
  extract_lets s0
  have h0 : Frame bootArea x s0 := by
    refine Frame.mono (m := laneArea) ?_ (by decide)
    unfold s0
    split
    · split
      · extract_lets cut s2
        split
        · extract_lets s3
          exact ((htgt _).setLane i _).ite (hpwr ((htgt _).setLane i _) _)
        · exact htgt _
      · exact .refl _ x
    · exact .refl _ x
  split
  · split
    · exact h0
    · exact h0.trans (laneMute_frame hi _ _)
  split
  · exact h0.trans (laneUnmute_frame hi _)
  · exact h0

/-! ## The licence record -/

theorem licLost_frame (s : State) : Frame bootArea s (licLost s) := by
  unfold licLost
  exact ((Frame.refl bootArea s).exc _).step (excHold_frame _ _) (by decide)

theorem licAbsent_frame (s : State) : Frame bootArea s (licAbsent s) := by
  unfold licAbsent
  exact (((((Frame.refl bootArea s).setF EXC_LIC_STAT_STATE 0 (by decide)).setF EXC_LIC_STAT_NENT 0 (by decide)).setF
    EXC_LIC_SEQ_RECSEQ 0 (by decide)).trans
    (licLost_frame _)).step (slLicence_frame _ _ _) (by decide)

theorem licTake_frame (l : List Byte) (s : State) : Frame bootArea s (licTake l s) := by
  unfold licTake
  extract_lets r s1 slOff slLen bands sl s2
  clear_value bands
  have hs1 : Frame bootArea s s1 :=
    ((Frame.refl bootArea s).setF EXC_LIC_SEQ_RECSEQ _ (by decide)).setF EXC_LIC_STAT_REASON _ (by decide)
  have hsl (x : State) : Frame bootArea x (sl x) := by
    unfold sl
    split
    · exact (slLicence_frame _ _ x).mono (by decide)
    split <;> exact (slLicence_frame _ _ x).mono (by decide)
  have hs2 : Frame bootArea s s2 := (hs1.setF EXC_LIC_STAT_STATE _ (by decide)).setF EXC_LIC_STAT_NENT _ (by decide)
  split
  · exact ((hs2.exc _).trans (licRecheck_frame _)).trans (hsl _)
  · exact (((hs1.setF EXC_LIC_STAT_STATE 1 (by decide)).setF EXC_LIC_STAT_NENT 0 (by decide)).trans
      (licLost_frame _)).trans (hsl _)

/-! ## The NV store -/

theorem nvPut_frame (id : Nat) (data : List Byte) (ok : Bool) (s : State) : Frame bootArea s (nvPut id data ok s) := by
  unfold nvPut
  dsimp only
  split
  · exact ((Frame.refl bootArea s).sec _).setF SEC_NV_WRITES _ (by decide)
  · exact (Frame.refl bootArea s).sec _

theorem nvRead_frame (id : Nat) (s : State) : Frame bootArea s (nvRead id s).2 := by
  unfold nvRead
  dsimp only
  split
  · exact ((Frame.refl bootArea s).setF SEC_NV_ERRS _ (by decide)).step (raise_frame _ _ _) (by decide)
  · exact .refl _ s

theorem licVerify_frame (s : State) : Frame bootArea s (licVerify s) := by
  have hread := nvRead_frame idLicence s
  unfold licVerify
  dsimp only
  split
  · exact hread.trans (licAbsent_frame _)
  split
  · exact hread.trans (licTake_frame _ _)
  · exact (hread.trans (licAbsent_frame _)).step (raise_frame _ _ _) (by decide)

theorem secShow_frame (s : State) : Frame bootArea s (secShow s) := by
  unfold secShow
  exact (((Frame.refl bootArea s).setF SEC_SLOT_STATE _ (by decide)).setF SEC_SLOT_LKEY _ (by decide)).setF
    SEC_TSEQ_TSEQ _ (by decide)

/-- What the security block shows when the reset ends lies past SYS. -/
theorem secBoot_frame (s : State) : Frame bootArea s (secBoot s) := by
  unfold secBoot
  extract_lets o s1 s2 s3 s4 s5 leaf
  have h2 : Frame bootArea s s2 := (((((Frame.refl bootArea s).setF SEC_STAT_OTP_OK _ (by decide)).wr SEC_DEVID_LO _
    (by decide)).wr SEC_DEVID_HI _ (by decide)).setF
    SEC_SV_FW_MIN _ (by decide)).setF SEC_SV_BS_MIN _ (by decide)
  have h4 : Frame bootArea s s4 := (((h2.setF (NET_PORTm_MACL_MAC 0) _ (by decide)).setF (NET_PORTm_MACH_MAC 0) _
    (by decide)).setF
    (NET_PORTm_MACL_MAC 1) _ (by decide)).setF (NET_PORTm_MACH_MAC 1) _ (by decide)
  have h5 : Frame bootArea s s5 :=
    h4.trans (Frame.forEach (fun k _ x => (nvPut_frame _ _ _ x).ite (.refl _ x)) s4)
  exact ((h5.setF SEC_LEAF_NEXT _ (by decide)).trans (secShow_frame _)).trans (licVerify_frame _)

end Sys2Proof.Machine
end

section
/-! SUPPORT. The internal reset, its causes and the temperature readings (R51 to R59): what a reset keeps, what a set of
readings shows, and the state in which the boot starts. -/

namespace Sys2Proof.Machine

/-! ## The internal reset -/

/-- The state of the internal reset before the registers that survive are written back. -/
def resetBase (s : State) : State :=
  { pending := s.pending, freeCtr := s.freeCtr
    pins := { paFaultN := s.pins.paFaultN, slGnt := s.pins.slGnt, perstN := s.pins.perstN }
    pwr := { railsOk := s.pwr.railsOk, porDone := s.pwr.porDone, tripHold := s.pwr.tripHold, hot := s.pwr.hot }
    sec := { otp := s.sec.otp, nv := s.sec.nv } }

section
variable (s : State)

theorem enterReset_eq :
    enterReset s = ((resetBase s).wr SYS_RSTCAUSE (s.rd SYS_RSTCAUSE)).setF SYS_THERM_TRIP (s.getF SYS_THERM_TRIP) := rfl

theorem enterReset_pwr : (enterReset s).pwr =
    { railsOk := s.pwr.railsOk, porDone := s.pwr.porDone, tripHold := s.pwr.tripHold, hot := s.pwr.hot } := by
  rw [enterReset_eq, setF_pwr, wr_pwr]
  rfl

theorem enterReset_pending : (enterReset s).pending = s.pending := by
  rw [enterReset_eq, setF_pending, wr_pending]
  rfl

theorem enterReset_mem : (enterReset s).mem = [] := by
  rw [enterReset_eq, setF_mem, wr_mem]
  rfl

theorem enterReset_counting : (enterReset s).counting = false := by
  rw [enterReset_eq, setF_counting, wr_counting]
  rfl

theorem enterReset_sec : (enterReset s).sec = { otp := s.sec.otp, nv := s.sec.nv } := by
  rw [enterReset_eq, setF_sec, wr_sec]
  rfl

/-- Every register but those of R56 and the trip returns to its reset value. -/
theorem enterReset_rd {a : Nat} (hcause : a ≠ SYS_RSTCAUSE) (htherm : a ≠ SYS_THERM) : (enterReset s).rd a = regReset a := by
  rw [enterReset_eq, rd_setF_other _ _ _ _ htherm, rd_wr_other _ _ _ _ hcause]
  rfl

theorem enterReset_cause : (enterReset s).rd SYS_RSTCAUSE = s.rd SYS_RSTCAUSE := by
  rw [enterReset_eq, rd_setF_other _ _ _ _ (by decide), rd_wr_same]

theorem enterReset_trip : (enterReset s).getF SYS_THERM_TRIP = s.getF SYS_THERM_TRIP :=
  getF_setF_fits _ _ _ (by decide) (bitsOf_lt _ _ _)

end

/-- State s with other supplies. -/
def State.withPwr (x : Power) (s : State) : State := { s with pwr := x }

section
variable (x : Power) (s : State)

theorem withPwr_regs : (s.withPwr x).regs = s.regs := rfl
theorem withPwr_pwr : (s.withPwr x).pwr = x := rfl
theorem withPwr_mem : (s.withPwr x).mem = s.mem := rfl
theorem withPwr_pins : (s.withPwr x).pins = s.pins := rfl
theorem withPwr_counting : (s.withPwr x).counting = s.counting := rfl
theorem withPwr_pending : (s.withPwr x).pending = s.pending := rfl
theorem withPwr_sec : (s.withPwr x).sec = s.sec := rfl
theorem withPwr_rd (a : Nat) : (s.withPwr x).rd a = s.rd a := rd_of_regs (withPwr_regs x s) a
theorem withPwr_getF (f : Fld) : (s.withPwr x).getF f = s.getF f := getF_of_rd (withPwr_rd x s _)

end

/-- A low of RESET_N that takes effect resets the part with its cause, and releases the hold of a trip (R54, R56). -/
theorem resetNAssert_resets {s : State} {ns : Nat} {took : Bool}
    (htakes : (decide (1000 ≤ ns) || (decide (100 ≤ ns) && took)) = true) :
    Gives (.resetNAssert ns took) s fun t =>
      t.pwr.inReset = true ∧ t.pwr.tripHold = false ∧ t.pwr.railsOk = s.pwr.railsOk ∧ t.pwr.porDone = s.pwr.porDone ∧
        t.getF SYS_RSTCAUSE_PIN = 1 ∧ t.getF SYS_THERM_TRIP = s.getF SYS_THERM_TRIP ∧
        (∀ a, a ≠ SYS_RSTCAUSE → a ≠ SYS_THERM → t.rd a = regReset a) ∧ t.mem = [] ∧ t.counting = false ∧
        t.pending = s.pending ∧ t.sec.otp = s.sec.otp ∧ t.sec.nv = s.sec.nv := by
  have hex : exec (.resetNAssert ns took) s = .next (((enterReset s).setF SYS_RSTCAUSE_PIN 1).withPwr
      { ((enterReset s).setF SYS_RSTCAUSE_PIN 1).pwr with tripHold := false }) := by
    show execResetNAssert ns took s = _
    rw [execResetNAssert, pulseTakes, htakes, if_neg (by decide)]
    rfl
  rw [setF_pwr, enterReset_pwr] at hex
  refine ⟨_, hex, rfl, rfl, rfl, rfl, ?_, ?_, fun a hcause htherm => ?_, ?_, ?_, ?_, ?_, ?_⟩
  · rw [withPwr_getF]
    exact getF_setF_fits _ _ _ (by decide) (by decide)
  · rw [withPwr_getF, getF_setF_apart _ _ _ _ (by decide), enterReset_trip]
  · rw [withPwr_rd, rd_setF_other _ _ _ _ hcause, enterReset_rd s hcause htherm]
  · rw [withPwr_mem, setF_mem, enterReset_mem]
  · rw [withPwr_counting, setF_counting, enterReset_counting]
  · rw [withPwr_pending, setF_pending, enterReset_pending]
  · rw [withPwr_sec, setF_sec, enterReset_sec]
  · rw [withPwr_sec, setF_sec, enterReset_sec]

/-- A shorter low changes nothing (R54). -/
theorem resetNAssert_ignored {s : State} {ns : Nat} {took : Bool} (hshort : ns < 100 ∨ ns < 1000 ∧ took = false) :
    Gives (.resetNAssert ns took) s fun t => t = s := by
  refine ⟨s, ?_, rfl⟩
  show execResetNAssert ns took s = _
  have htakes : pulseTakes ns took = false := by
    rw [pulseTakes, Bool.or_eq_false_iff, Bool.and_eq_false_iff, decide_eq_false_iff_not, decide_eq_false_iff_not]
    obtain hns | ⟨hns, rfl⟩ := hshort
    · exact ⟨by omega, .inl (by omega)⟩
    · exact ⟨by omega, .inr rfl⟩
  rw [execResetNAssert, htakes]
  rfl

/-- The state of a brown-out before its cause is recorded (R55). -/
def brownState (s : State) : State :=
  (enterReset s).withPwr { (enterReset s).pwr with railsOk := false, porDone := false }

theorem brownState_pwr (s : State) : (brownState s).pwr = { tripHold := s.pwr.tripHold, hot := s.pwr.hot } := by
  rw [brownState, withPwr_pwr, enterReset_pwr]

/-- A brown-out without loss of VDD_NV records its rails beside the earlier causes (R55, R56). -/
theorem brownout_records {s : State} {rails : Nat} (hrails : rails % 256 ≠ 0) :
    Gives (.brownout rails false) s fun t =>
      t.pwr.inReset = true ∧ t.pwr.railsOk = false ∧ t.pwr.porDone = false ∧
        t.rd SYS_RSTCAUSE = s.rd SYS_RSTCAUSE ||| BitVec.ofNat 32 (rails % 256) ∧ t.mem = [] := by
  have hex : exec (.brownout rails false) s = .next ((brownState s).wr SYS_RSTCAUSE
      ((brownState s).rd SYS_RSTCAUSE ||| BitVec.ofNat 32 (rails % 256))) := by
    show execBrownout rails false s = _
    rw [execBrownout, if_neg hrails]
    rfl
  refine ⟨_, hex, ?_, ?_, ?_, ?_, ?_⟩
  iterate 3 rw [wr_pwr, brownState_pwr]
  · rw [rd_wr_same, brownState, withPwr_rd, enterReset_cause]
  · rw [wr_mem, brownState, withPwr_mem, enterReset_mem]

/-- With VDD_NV lost the causes start over from power-on, and the hold of a trip stays (R56). -/
theorem brownout_nvLost {s : State} {rails : Nat} (hrails : rails % 256 ≠ 0) :
    Gives (.brownout rails true) s fun t =>
      t.pwr.inReset = true ∧ t.pwr.railsOk = false ∧ t.getF SYS_RSTCAUSE_POR = 1 ∧ t.getF SYS_RSTCAUSE_PIN = 0 ∧
        t.getF SYS_THERM_TRIP = 0 ∧ t.pwr.tripHold = s.pwr.tripHold := by
  have hex : exec (.brownout rails true) s =
      .next ((((brownState s).wr SYS_RSTCAUSE 0).setF SYS_RSTCAUSE_POR 1).setF SYS_THERM_TRIP 0) := by
    show execBrownout rails true s = _
    rw [execBrownout, if_neg hrails]
    rfl
  have hzero (u : State) : (u.wr SYS_RSTCAUSE 0).getF SYS_RSTCAUSE_PIN = 0 := by
    rw [State.getF, show SYS_RSTCAUSE_PIN.reg = SYS_RSTCAUSE from rfl, rd_wr_same]
    rfl
  refine ⟨_, hex, ?_, ?_, ?_, ?_, getF_setF_fits _ _ _ (by decide) (by decide), ?_⟩
  · rw [setF_pwr, setF_pwr, wr_pwr, brownState_pwr]
  · rw [setF_pwr, setF_pwr, wr_pwr, brownState_pwr]
  · rw [getF_setF_apart _ _ _ _ (by decide)]
    exact getF_setF_fits _ _ _ (by decide) (by decide)
  · rw [getF_setF_apart _ _ _ _ (by decide), getF_setF_apart _ _ _ _ (by decide), hzero]
  · rw [setF_pwr, setF_pwr, wr_pwr, brownState_pwr]

/-! ## Trips -/

/-- A trip resets and holds the part with its cause (R59). -/
theorem thermTrip_holds (s : State) :
    (thermTrip s).pwr.inReset = true ∧ (thermTrip s).pwr.tripHold = true ∧ (thermTrip s).getF SYS_RSTCAUSE_THERM = 1 ∧
      (thermTrip s).getF SYS_THERM_TRIP = 1 := by
  have htrip : thermTrip s = (((enterReset s).setF SYS_RSTCAUSE_THERM 1).setF SYS_THERM_TRIP 1).withPwr
      { (((enterReset s).setF SYS_RSTCAUSE_THERM 1).setF SYS_THERM_TRIP 1).pwr with tripHold := true, hot := true } := rfl
  rw [setF_pwr, setF_pwr, enterReset_pwr] at htrip
  rw [htrip, withPwr_getF, withPwr_getF, getF_setF_apart _ SYS_THERM_TRIP SYS_RSTCAUSE_THERM _ (by decide)]
  exact ⟨rfl, rfl, getF_setF_fits _ _ _ (by decide) (by decide), getF_setF_fits _ _ _ (by decide) (by decide)⟩

theorem thermWarn_trips {s : State} {q : Temps} (hlen : q.ts.length = 8) (htrip : tripReading q = true) :
    exec (.thermWarn q) s = .next (thermTrip s) := by
  show execThermWarn q s = _
  rw [execThermWarn, hlen, if_neg (by decide), if_pos htrip]

theorem thermalTrip_trips {s : State} {q : Temps} (htrip : tripReading q = true) :
    exec (.thermalTrip q) s = .next (thermTrip s) := by
  show execThermalTrip q s = _
  rw [execThermalTrip, if_pos htrip]

/-! ## Readings -/

/-- A running maximum is its start or a member of the list. -/
theorem foldl_max_mem (l : List Int) (a : Int) : l.foldl max a = a ∨ l.foldl max a ∈ l := by
  induction l generalizing a with
  | nil => exact .inl rfl
  | cons x t ih =>
    obtain hmax | hmem := ih (max a x)
    · rw [List.foldl_cons, hmax]
      obtain h | h := max_choice a x
      · exact .inl h
      · exact .inr (by rw [h]; exact List.mem_cons_self)
    · exact .inr (List.mem_cons_of_mem _ hmem)

/-- The hottest sensor is one of those read. -/
theorem hottest_lt {l : List Int} (h : l ≠ []) : hottest l < l.length := by
  obtain ⟨x, t, rfl⟩ := List.exists_cons_of_ne_nil h
  refine List.idxOf_lt_length_of_mem ?_
  obtain hmax | hmem := foldl_max_mem (x :: t) x
  · rw [List.headD_cons, hmax]
    exact List.mem_cons_self
  · exact hmem

/-- The register that shows the readings. -/
abbrev thermArea : List (Nat × Nat) := [(0x18, 0x1C)]

/-- The registers that show a set of readings. -/
def thermRegs (q : Temps) (s : State) : State :=
  ((s.setF SYS_THERM_HOTTEST (hottest q.ts)).setI SYS_THERM_TMAX (q.ts.foldl max (q.ts.headD 0))).setI SYS_THERM_TEXT
    (q.text.getD (-512))

section
variable (q : Temps) (s : State)

theorem thermShow_eq : thermShow q s = (thermRegs q s).withPwr { (thermRegs q s).pwr with temps := q.ts } := rfl

theorem thermRegs_pwr : (thermRegs q s).pwr = s.pwr := by rw [thermRegs, setI_pwr, setI_pwr, setF_pwr]

theorem thermRegs_pins : (thermRegs q s).pins = s.pins := by rw [thermRegs, setI_pins, setI_pins, setF_pins]

theorem thermShow_within : Within thermArea s (thermShow q s) := by
  have hregs : Within thermArea s (thermRegs q s) := (((Within.refl thermArea s).setF SYS_THERM_HOTTEST _ (by decide)).setF
    SYS_THERM_TMAX _ (by decide)).setF SYS_THERM_TEXT _ (by decide)
  rw [thermShow_eq]
  exact hregs.of_regs (withPwr_regs _ _)

theorem thermShow_pwr : (thermShow q s).pwr = { s.pwr with temps := q.ts } := by
  rw [thermShow_eq, withPwr_pwr, thermRegs_pwr]

theorem thermShow_pins : (thermShow q s).pins = s.pins := by
  rw [thermShow_eq, withPwr_pins, thermRegs_pins]

theorem thermShow_hottest (hlen : q.ts.length = 8) : (thermShow q s).getF SYS_THERM_HOTTEST = hottest q.ts := by
  have hlt : hottest q.ts < 8 := hlen ▸ hottest_lt (by rintro hnil; simp [hnil] at hlen)
  rw [thermShow_eq, withPwr_getF, thermRegs, State.setI, State.setI, getF_setF_apart _ _ _ _ (by decide),
    getF_setF_apart _ _ _ _ (by decide)]
  exact getF_setF_fits _ _ _ (by decide) hlt

theorem thermShow_warn : (thermShow q s).getF SYS_THERM_WARN = s.getF SYS_THERM_WARN := by
  rw [thermShow_eq, withPwr_getF, thermRegs, State.setI, State.setI, getF_setF_apart _ _ _ _ (by decide),
    getF_setF_apart _ _ _ _ (by decide), getF_setF_apart _ _ _ _ (by decide)]

/-- A judged set of readings writes SYS_THERM and raises its event; the supplies show the readings. -/
theorem thermJudge_leaves :
    Within [(0x18, 0x1C), (0x1000, 0x2000), (0x30000, 0x34000), (0x68000, 0x70000)] s (thermJudge q s) ∧
      (thermJudge q s).pwr = { s.pwr with temps := q.ts } ∧
      (thermJudge q s).pins.vid = s.pins.vid ∧ (thermJudge q s).pins.qspi = s.pins.qspi := by
  have hframe (u : State)
      (h : Frame [(0x18, 0x1C), (0x1000, 0x2000), (0x30000, 0x34000), (0x68000, 0x70000)] (thermShow q s) u) :
      Within [(0x18, 0x1C), (0x1000, 0x2000), (0x30000, 0x34000), (0x68000, 0x70000)] s u ∧
        u.pwr = { s.pwr with temps := q.ts } ∧ u.pins.vid = s.pins.vid ∧ u.pins.qspi = s.pins.qspi :=
    ⟨((thermShow_within q s).mono (by decide)).step h.within (by decide), h.pwr.trans (thermShow_pwr q s),
      by rw [h.vid, thermShow_pins], by rw [h.qspi, thermShow_pins]⟩
  apply hframe
  unfold thermJudge
  dsimp only
  have hwarn (n : Nat) := (Frame.refl [(0x18, 0x1C), (0x1000, 0x2000), (0x30000, 0x34000), (0x68000, 0x70000)]
    (thermShow q s)).setF SYS_THERM_WARN n (by decide)
  exact ((Frame.refl _ _).ite ((hwarn 1).step (raise_frame _ _ _) (by decide))).ite ((hwarn 0).ite (.refl _ _))

end

end Sys2Proof.Machine
end

section
/-! SUPPORT. The clauses of the statement on resets and supplies: readings that warn, the HK crystal, PCIe and the start of
the boot (R54, R59, R66, R68, R89, R359). -/

namespace Sys2Proof.Machine

/-! ## The STAT bit of a raise -/

/-- The stamp and the place of a raise lie past the STAT registers. -/
theorem raiseStamp_rd_stat (e i n : Nat) (s : State) {b : Nat} (hb : b < 0x1200) : (raiseStamp e i n s).rd b = s.rd b := by
  have hinst : b ≠ EVT_INST (e / 2) := by unfold EVT_INST; omega
  have hstamp : (s.set64 (EVT_STAMP_LO e) (EVT_STAMP_HI e) n).rd b = s.rd b :=
    rd_set64_other _ _ _ _ _ (by unfold EVT_STAMP_LO; omega) (by unfold EVT_STAMP_HI; omega)
  unfold raiseStamp
  dsimp only
  split
  · exact (rd_setF_other _ (EVT_INST_INST0 (e / 2)) _ _ hinst).trans hstamp
  · exact (rd_setF_other _ (EVT_INST_INST1 (e / 2)) _ _ hinst).trans hstamp

/-- From NEGOTIATE on the raise of a source without a bitmap sets its STAT bit (R374, R382). -/
theorem raise_sets_stat {e i : Nat} {s : State} (hreset : s.pwr.inReset = false) (hstage : 3 ≤ s.stage)
    (hsource : isSource e = true) (hsum : summaryOf e = none) :
    (raise e i s).getF ⟨EVT_Gg_STAT (e / 32), e % 32, e % 32⟩ = 1 := by
  have he : e < 256 := isSource_lt e hsource
  have hstat : 0x1100 ≤ EVT_Gg_STAT (e / 32) ∧ EVT_Gg_STAT (e / 32) < 0x1200 := by unfold EVT_Gg_STAT; omega
  have hbit : (raiseBit e i s).getF ⟨EVT_Gg_STAT (e / 32), e % 32, e % 32⟩ = 1 := by
    unfold raiseBit
    dsimp only
    split
    next j hj => rw [hsum] at hj; cases hj
    next => exact getF_setF_fits _ _ _ ⟨le_rfl, by dsimp only; omega⟩ (by simp)
  have hsnap : (raiseSnap e s.now (obsEvent e (raiseRec e i s.now (raiseStamp e i s.now (raiseBit e i s))))).getF
      ⟨EVT_Gg_STAT (e / 32), e % 32, e % 32⟩ = 1 := by
    refine (getF_of_rd ?_).trans hbit
    rw [raiseSnap_rd _ _ _ _ (by dsimp only; omega), obsEvent, obsCount_rd, raiseRec_rd,
      raiseStamp_rd_stat _ _ _ _ (by dsimp only; omega)]
  have hcond : ¬(s.pwr.inReset || s.stage < 3 || !isSource e ||
      (summaryOf e).any fun j => decide (s.summaryCap j ≤ i)) = true := by
    simp [hreset, hsource, hsum]
    omega
  unfold raise raiseAt
  rw [if_neg hcond]
  dsimp only
  refine (getF_of_rd ?_).trans hsnap
  have hpend : EVT_PEND_IRQ.reg < 0x1100 := by decide
  rw [irqRefresh_rd _ _ (by dsimp only; omega), coalRaise_rd, coalRaise_rd]
  split
  · exact trace_rd _ _ _ _ _ _ _ (.inl (by dsimp only; omega))
  · rfl

/-! ## Readings that warn -/

section
variable {s : State} {q : Temps} (hreset : s.pwr.inReset = false) (hlen : q.ts.length = 8) (htrip : tripReading q = false)
include hreset hlen htrip

theorem exec_thermWarn : exec (.thermWarn q) s = .next (thermJudge q s) := by
  show execThermWarn q s = _
  rw [execThermWarn, hlen, htrip, hreset, if_neg (by decide), if_neg (by decide), if_neg (by decide)]

/-- A reading at or above the threshold warns, and names the hottest sensor (R59). -/
theorem thermWarn_warns (hhot : (q.ts.any fun x => decide (4 * (s.getF SYS_THERM_CFG_WARN_C : Int) ≤ x)) = true) :
    Gives (.thermWarn q) s fun t =>
      (t.flag SYS_THERM_WARN = true ∧ t.getF SYS_THERM_HOTTEST = hottest q.ts ∧ t.pwr.temps = q.ts ∧
        (s.flag SYS_THERM_WARN = false → 3 ≤ s.stage → t.getF ⟨EVT_Gg_STAT 7, 0, 0⟩ = 1)) ∧
        Within [(0, 0x1000), (0x1000, 0x2000), (0x30000, 0x34000), (0x68000, 0x70000)] s t := by
  obtain ⟨hwithin, hpwr, -, -⟩ := thermJudge_leaves q s
  have hshow := thermShow_within q s
  have hjudge : thermJudge q s = if (thermShow q s).flag SYS_THERM_WARN then thermShow q s
      else raise evThermWarn (hottest q.ts) ((thermShow q s).setF SYS_THERM_WARN 1) := by
    unfold thermJudge
    dsimp only
    rw [if_pos hhot]
  rw [State.flag, thermShow_warn, ← State.flag] at hjudge
  refine ⟨_, exec_thermWarn hreset hlen htrip, ⟨?_, ?_, by rw [hpwr], fun hclear hstage => ?_⟩, hwithin.mono (by decide)⟩
  · rw [hjudge]
    split
    next hset => rw [State.flag, thermShow_warn, ← State.flag, hset]
    next => exact flag_of_getF (b := true) (((raise_within _ _ _).getF _ (by decide)).trans
      (getF_setF_fits _ _ _ (by decide) (by decide)))
  · rw [hjudge]
    split
    · exact thermShow_hottest q s hlen
    · rw [(raise_within _ _ _).getF _ (by decide), getF_setF_apart _ _ _ _ (by decide)]
      exact thermShow_hottest q s hlen
  · rw [hjudge, hclear, if_neg (by decide)]
    refine raise_sets_stat (e := evThermWarn) ?_ ?_ (by decide) (by decide)
    · rw [setF_pwr, thermShow_pwr]
      exact hreset
    · rw [State.stage, getF_setF_reg _ _ _ _ (by decide), hshow.getF _ (by decide)]
      exact hstage

/-- The warning clears with every reading 2 °C or more below the threshold (R59). -/
theorem thermWarn_clears (hcool : (q.ts.all fun x => decide (x ≤ 4 * (s.getF SYS_THERM_CFG_WARN_C : Int) - 8)) = true) :
    Gives (.thermWarn q) s fun t => (t.flag SYS_THERM_WARN = false ∧ t.pwr.temps = q.ts) ∧ Within [(0, 0x1000)] s t := by
  obtain ⟨-, hpwr, -, -⟩ := thermJudge_leaves q s
  have hnone : (q.ts.any fun x => decide (4 * (s.getF SYS_THERM_CFG_WARN_C : Int) ≤ x)) = false := by
    rw [List.any_eq_false]
    intro x hx
    have hle := of_decide_eq_true (List.all_eq_true.mp hcool x hx)
    rw [decide_eq_true_eq]
    omega
  have hjudge : thermJudge q s = (thermShow q s).setF SYS_THERM_WARN 0 := by
    unfold thermJudge
    dsimp only
    rw [if_neg (by rw [hnone]; decide), if_pos hcool]
  refine ⟨_, exec_thermWarn hreset hlen htrip, ⟨?_, by rw [hpwr]⟩, ?_⟩
  · rw [hjudge]
    exact flag_of_getF (b := false) (getF_setF_fits _ _ _ (by decide) (by decide))
  · rw [hjudge]
    exact ((thermShow_within q s).mono (by decide)).setF SYS_THERM_WARN 0 (by decide)

end

/-! ## The HK crystal -/

/-- The areas of the exciter, the service link, CLK and events. -/
abbrev hkAreas : List (Nat × Nat) :=
  [(0x2000, 0x3000), (0x48000, 0x4C000), (0x4C000, 0x50000), (0x1000, 0x2000), (0x30000, 0x34000), (0x68000, 0x70000)]

/-- The stop of the HK crystal releases the PA and the service link's lock without a reset (R89). -/
theorem hkStop_leaves {s : State} (hreset : s.pwr.inReset = false) :
    Gives .hkStop s fun t =>
      (t.getF CLK_STAT_HK_OK = 0 ∧ t.pwr.inReset = false ∧ t.getF SLK_STAT_LOCK = 0) ∧ Within hkAreas s t := by
  have hex : exec .hkStop s =
      .next (slLoseLock (excRelease causeHk ((s.setF CLK_STAT_HK_OK 0).setF CLK_DOM_HK 0))) := by
    show execHkStop s = _
    rw [execHkStop, hreset, if_neg (by decide)]
  have hclk : Frame hkAreas s ((s.setF CLK_STAT_HK_OK 0).setF CLK_DOM_HK 0) :=
    ((Frame.refl hkAreas s).setF CLK_STAT_HK_OK 0 (by decide)).setF CLK_DOM_HK 0 (by decide)
  have hhk : ((s.setF CLK_STAT_HK_OK 0).setF CLK_DOM_HK 0).getF CLK_STAT_HK_OK = 0 :=
    (getF_setF_apart _ _ _ _ (by decide)).trans (getF_setF_fits _ _ _ (by decide) (by decide))
  generalize (s.setF CLK_STAT_HK_OK 0).setF CLK_DOM_HK 0 = u at hex hclk hhk
  have hexc := excRelease_frame causeHk u
  obtain ⟨hlink, hlock⟩ := slLoseLock_lost (excRelease causeHk u)
  refine ⟨_, hex, ⟨?_, ?_, hlock⟩, ((hclk.step hexc (by decide)).step hlink (by decide)).within⟩
  · exact ((hlink.within.getF _ (by decide)).trans (hexc.within.getF _ (by decide))).trans hhk
  · rw [((hclk.step hexc (by decide)).step hlink (by decide)).pwr, hreset]

theorem hkRestore_shows {s : State} (hreset : s.pwr.inReset = false) :
    Gives .hkRestore s fun t => t.getF CLK_STAT_HK_OK = 1 ∧ Within [(0x2000, 0x3000)] s t := by
  have hex : exec .hkRestore s = .next ((s.setF CLK_STAT_HK_OK 1).setF CLK_DOM_HK 1) := by
    show execHkRestore s = _
    rw [execHkRestore, hreset, if_neg (by decide)]
  refine ⟨_, hex, ?_, ((Within.refl _ s).setF CLK_STAT_HK_OK 1 (by decide)).setF CLK_DOM_HK 1 (by decide)⟩
  exact (getF_setF_apart _ _ _ _ (by decide)).trans (getF_setF_fits _ _ _ (by decide) (by decide))

/-! ## PCIe -/

/-- Outside the range a register stands, inside it resets. -/
theorem rd_resetRange (s : State) (lo hi a : Nat) :
    (s.resetRange lo hi).rd a = if lo ≤ a ∧ a < hi then regReset a else s.rd a := by
  unfold State.rd State.resetRange
  dsimp only
  induction s.regs with
  | nil => simp [sget]
  | cons p t ih =>
    obtain ⟨j, w⟩ := p
    by_cases hj : lo ≤ j ∧ j < hi
    · rw [List.filter_cons_of_neg (by simpa using hj), ih]
      split
      · rfl
      · rw [sget, if_neg (by omega)]
    · rw [List.filter_cons_of_pos (by simp; omega), sget, ih, sget]
      by_cases hja : j = a
      · subst hja
        rw [if_pos rfl, if_neg hj, if_pos rfl]
      · rw [if_neg hja, if_neg hja]

/-- The block PCI. -/
abbrev pciArea : List (Nat × Nat) := [(0x3C000, 0x40000)]

section
variable (s : State)

theorem pciReset_regs : (pciReset s).regs = (s.resetRange PCI_REFUSE 0x40000).regs := rfl

theorem pciReset_within : Within pciArea s (pciReset s) := by
  intro a ha
  have hout : a < 0x3C000 ∨ 0x40000 ≤ a := ha _ (List.mem_singleton.mpr rfl)
  rw [rd_of_regs (pciReset_regs s), rd_resetRange, if_neg (by unfold PCI_REFUSE; omega)]

theorem pciReset_rd {a : Nat} (hlo : 0x3C000 ≤ a) (hhi : a < 0x40000) : (pciReset s).rd a = regReset a := by
  rw [rd_of_regs (pciReset_regs s), rd_resetRange, if_pos ⟨hlo, hhi⟩]

theorem pciReset_up : (pciReset s).getF PCI_STAT_UP = 0 := by
  rw [State.getF, show PCI_STAT_UP.reg = PCI_STAT from rfl, pciReset_rd s (by decide) (by decide)]
  decide

theorem pciReset_en {q : Nat} (hq : q < 64) : (pciReset s).getF (PCI_Qq_CTL_EN q) = 0 := by
  rw [State.getF, show (PCI_Qq_CTL_EN q).reg = PCI_Qq_CTL q from rfl,
    pciReset_rd s (by unfold PCI_Qq_CTL; omega) (by unfold PCI_Qq_CTL; omega), regReset_PCI_Qq_CTL hq]
  rfl

theorem pciReset_pwr : (pciReset s).pwr = s.pwr := rfl
theorem pciReset_boot : (pciReset s).boot = s.boot := rfl
theorem pciReset_pins : (pciReset s).pins = s.pins := rfl

/-- An event that may follow leaves the areas of events. -/
theorem raise_unless (c : Prop) [Decidable c] (e i : Nat) (u : State) :
    EventStep u (if c then u else raise e i u) ∧ Within eventAreas u (if c then u else raise e i u) := by
  split
  · exact ⟨.refl u, .refl _ u⟩
  · exact ⟨raise_step e i u, raise_within e i u⟩

theorem linkSet_down (gen lanes : Nat) :
    EventStep (pciReset s) (linkSet false gen lanes s) ∧ Within eventAreas (pciReset s) (linkSet false gen lanes s) := by
  have heq : linkSet false gen lanes s =
      if (s.flag PCI_STAT_UP == false) = true then pciReset s else raise evPcieLink noInst (pciReset s) := by
    unfold linkSet
    simp only [Bool.false_eq_true, if_false]
  rw [heq]
  exact raise_unless _ _ _ _

/-- The registers of a link that is up. -/
def linkShown (gen lanes : Nat) : State := ((s.setF PCI_STAT_UP 1).setF PCI_STAT_GEN gen).setF PCI_STAT_WIDTH lanes

theorem linkSet_up (gen lanes : Nat) :
    EventStep (linkShown s gen lanes) (linkSet true gen lanes s) ∧
      Within eventAreas (linkShown s gen lanes) (linkSet true gen lanes s) := by
  have heq : linkSet true gen lanes s =
      if (s.flag PCI_STAT_UP == true) = true then linkShown s gen lanes
      else raise evPcieLink noInst (linkShown s gen lanes) := by
    unfold linkSet linkShown
    simp only [if_true]
  rw [heq]
  exact raise_unless _ _ _ _

theorem linkShown_within (gen lanes : Nat) : Within pciArea s (linkShown s gen lanes) :=
  (((Within.refl pciArea s).setF PCI_STAT_UP 1 (by decide)).setF PCI_STAT_GEN gen (by decide)).setF PCI_STAT_WIDTH lanes
    (by decide)

theorem linkShown_pwr (gen lanes : Nat) : (linkShown s gen lanes).pwr = s.pwr := by
  rw [linkShown, setF_pwr, setF_pwr, setF_pwr]

theorem linkShown_up (gen lanes : Nat) : (linkShown s gen lanes).getF PCI_STAT_UP = 1 := by
  rw [linkShown, getF_setF_apart _ _ _ _ (by decide), getF_setF_apart _ _ _ _ (by decide)]
  exact getF_setF_fits _ _ _ (by decide) (by decide)

theorem linkShown_gen {gen : Nat} (lanes : Nat) (hgen : gen < 8) : (linkShown s gen lanes).getF PCI_STAT_GEN = gen := by
  rw [linkShown, getF_setF_apart _ _ _ _ (by decide)]
  exact getF_setF_fits _ _ _ (by decide) hgen

theorem linkShown_width (gen : Nat) {lanes : Nat} (hlanes : lanes < 8) :
    (linkShown s gen lanes).getF PCI_STAT_WIDTH = lanes :=
  getF_setF_fits _ _ _ (by decide) hlanes

end

/-- The areas of PCI and events. -/
abbrev linkAreas : List (Nat × Nat) := [(0x3C000, 0x40000), (0x1000, 0x2000), (0x30000, 0x34000), (0x68000, 0x70000)]

/-- The link comes up at its rate and width, and the endpoint answers from then on (R68). -/
theorem pcieLinkChange_up {s : State} {gen lanes : Nat} (hreset : s.pwr.inReset = false) (hperst : s.pins.perstN = true)
    (hclock : s.flag CLK_DOM_PCI = true) (hlow : 1 ≤ gen) (hhigh : gen ≤ 4)
    (hlanes : (lanes == 1 || lanes == 2 || lanes == 4) = true) :
    Gives (.pcieLinkChange true gen lanes) s fun t =>
      (t.flag PCI_STAT_UP = true ∧ t.getF PCI_STAT_GEN = gen ∧ t.getF PCI_STAT_WIDTH = lanes ∧ t.pwr.pcieAnswers = true) ∧
        Within linkAreas s t := by
  have hex : exec (.pcieLinkChange true gen lanes) s =
      .next (linkSet true gen lanes (s.withPwr { s.pwr with pcieAnswers := true })) := by
    show execPcieLinkChange true gen lanes s = _
    rw [execPcieLinkChange, if_neg (by simp [hreset, hperst, hclock, hlow, hhigh, hlanes])]
    rfl
  have hwidth : lanes < 8 := by
    simp only [Bool.or_eq_true, beq_iff_eq] at hlanes
    omega
  generalize hu : s.withPwr { s.pwr with pcieAnswers := true } = u at hex
  obtain ⟨hstep, hwithin⟩ := linkSet_up u gen lanes
  have hanswers : u.pwr.pcieAnswers = true := by rw [← hu, withPwr_pwr]
  have hregs : Within linkAreas s u := by
    rw [← hu]
    exact (Within.refl _ s).of_regs (withPwr_regs _ s)
  refine ⟨_, hex, ⟨flag_of_getF (b := true) ?_, ?_, ?_, ?_⟩,
    (hregs.step (linkShown_within u gen lanes) (by decide)).step hwithin (by decide)⟩
  · exact (hwithin.getF _ (by decide)).trans (linkShown_up u gen lanes)
  · exact (hwithin.getF _ (by decide)).trans (linkShown_gen u lanes (by omega))
  · exact (hwithin.getF _ (by decide)).trans (linkShown_width u gen hwidth)
  · rw [hstep.pwr, linkShown_pwr, hanswers]

/-- A loss of the link resets the block PCI alone (R359). -/
theorem pcieLinkChange_down {s : State} (gen lanes : Nat) (hreset : s.pwr.inReset = false) :
    Gives (.pcieLinkChange false gen lanes) s fun t =>
      (t.flag PCI_STAT_UP = false ∧ t.pwr.pcieAnswers = false ∧ ∀ q, q < 64 → t.flag (PCI_Qq_CTL_EN q) = false) ∧
        Within linkAreas s t := by
  have hex : exec (.pcieLinkChange false gen lanes) s =
      .next (linkSet false gen lanes (s.withPwr { s.pwr with pcieAnswers := false })) := by
    show execPcieLinkChange false gen lanes s = _
    rw [execPcieLinkChange, if_neg (by simp [hreset])]
    rfl
  generalize hu : s.withPwr { s.pwr with pcieAnswers := false } = u at hex
  obtain ⟨hstep, hwithin⟩ := linkSet_down u gen lanes
  have hanswers : u.pwr.pcieAnswers = false := by rw [← hu, withPwr_pwr]
  have hregs : Within linkAreas s u := by
    rw [← hu]
    exact (Within.refl _ s).of_regs (withPwr_regs _ s)
  refine ⟨_, hex, ⟨flag_of_getF (b := false) ?_, ?_, fun q hq => flag_of_getF (b := false) ?_⟩,
    (hregs.step (pciReset_within u) (by decide)).step hwithin (by decide)⟩
  · exact (hwithin.getF _ (by decide)).trans (pciReset_up u)
  · rw [hstep.pwr, pciReset_pwr, hanswers]
  · refine (hwithin.getF _ ?_).trans (pciReset_en u hq)
    simp only [PCI_Qq_CTL_EN, PCI_Qq_CTL, List.forall_mem_cons]
    exact ⟨by omega, by omega, by omega, nofun⟩

/-! ## PERST_N -/

/-- State s with PERST_N low, the endpoint silent and the cause recorded. -/
def perstLow (s : State) : State :=
  State.setF SYS_RSTCAUSE_PERST 1
    { s with pins := { s.pins with perstN := false }, pwr := { s.pwr with pcieAnswers := false } }

section
variable (s : State)

theorem perstLow_pwr : (perstLow s).pwr = { s.pwr with pcieAnswers := false } := by rw [perstLow, setF_pwr]

theorem perstLow_pins : (perstLow s).pins = { s.pins with perstN := false } := by rw [perstLow, setF_pins]

theorem perstLow_boot : (perstLow s).boot = s.boot := by rw [perstLow, setF_boot]

theorem perstLow_cause : (perstLow s).getF SYS_RSTCAUSE_PERST = 1 := getF_setF_fits _ _ _ (by decide) (by decide)

theorem perstLow_within : Within [(0x14, 0x18)] s (perstLow s) :=
  Within.setF (.of_regs (.refl _ s) rfl) _ _ (by decide)

theorem exec_perstAssert :
    exec .perstAssert s = .next (if s.pwr.inReset then perstLow s else linkSet false 0 0 (perstLow s)) := rfl

/-- PERST_N resets the PCIe interface alone and a boot in progress goes on (R56, R66, R359). -/
theorem perstAssert_down (hreset : s.pwr.inReset = false) :
    Gives .perstAssert s fun t =>
      (t.pins.perstN = false ∧ t.pwr.pcieAnswers = false ∧ t.flag PCI_STAT_UP = false ∧ t.getF SYS_RSTCAUSE_PERST = 1 ∧
        t.stage = s.stage ∧ t.boot = s.boot) ∧
        Within [(0, 0x1000), (0x3C000, 0x40000), (0x1000, 0x2000), (0x30000, 0x34000), (0x68000, 0x70000)] s t := by
  have hex := exec_perstAssert s
  rw [hreset, if_neg Bool.false_ne_true] at hex
  have hlow := perstLow_within s
  have hpwr := perstLow_pwr s
  have hpins := perstLow_pins s
  have hboot := perstLow_boot s
  have hcause := perstLow_cause s
  generalize perstLow s = u at hex hlow hpwr hpins hboot hcause
  obtain ⟨hstep, hwithin⟩ := linkSet_down u 0 0
  have hlink : Within linkAreas u (linkSet false 0 0 u) := ((pciReset_within u).mono (by decide)).step hwithin (by decide)
  refine ⟨_, hex, ⟨?_, ?_, flag_of_getF (b := false) ?_, ?_, ?_, ?_⟩, (hlow.mono (by decide)).step hlink (by decide)⟩
  · rw [hstep.pins, pciReset_pins, hpins]
  · rw [hstep.pwr, pciReset_pwr, hpwr]
  · exact (hwithin.getF _ (by decide)).trans (pciReset_up u)
  · exact (hlink.getF _ (by decide)).trans hcause
  · exact (hlink.getF _ (by decide)).trans (hlow.getF _ (by decide))
  · rw [hstep.boot, pciReset_boot, hboot]

/-- In the internal reset too PERST_N is recorded (R56). -/
theorem perstAssert_records :
    Gives .perstAssert s fun t =>
      t.getF SYS_RSTCAUSE_PERST = 1 ∧ t.pins.perstN = false ∧ t.pwr.inReset = s.pwr.inReset := by
  have hex := exec_perstAssert s
  have hpwr := perstLow_pwr s
  have hpins := perstLow_pins s
  have hcause := perstLow_cause s
  generalize perstLow s = u at hex hpwr hpins hcause
  split at hex
  · exact ⟨u, hex, hcause, by rw [hpins], by rw [hpwr]⟩
  · obtain ⟨hstep, hwithin⟩ := linkSet_down u 0 0
    refine ⟨_, hex, ?_, ?_, ?_⟩
    · exact ((((pciReset_within u).mono (by decide)).step hwithin (by decide)).getF (l := linkAreas) _
        (by decide)).trans hcause
    · rw [hstep.pins, pciReset_pins, hpins]
    · rw [hstep.pwr, pciReset_pwr, hpwr]

end

end Sys2Proof.Machine
end

section
/-! SUPPORT. The end of the internal reset (R41, R48, R49, R54, R59, R63) and the statement on resets and supplies. -/

namespace Sys2Proof.Machine

/-! ## The straps -/

/-- State s out of reset with the straps as operands: balls VID and QSPI, and the results the boot starts from. -/
def resetLeft (sp : Straps) (lic : Bool) (s : State) : State :=
  { s with
    pwr := { s.pwr with inReset := false, hot := false }
    pins := { s.pins with vid := some 20, qspi := sp.bootSrc % 4 == 0 || sp.bootSrc % 4 == 2 }
    boot := { s.boot with straps := sp }
    sec := { s.sec with licSig := lic } }

/-- SYS_STRAP with the straps as sampled. -/
def strapsShown (sp : Straps) (early : Bool) (s : State) : State :=
  (((s.setB SYS_STRAP_EARLY early).setF SYS_STRAP_CFG_SEL sp.cfgSel).setF SYS_STRAP_BOOT_SRC sp.bootSrc).setB
    SYS_STRAP_HB_MODE sp.hbMode

section
variable (sp : Straps) (early : Bool) (s : State)

theorem strapsShown_pwr : (strapsShown sp early s).pwr = s.pwr := by
  rw [strapsShown, setB_pwr, setF_pwr, setF_pwr, setB_pwr]

theorem strapsShown_pins : (strapsShown sp early s).pins = s.pins := by
  rw [strapsShown, setB_pins, setF_pins, setF_pins, setB_pins]

theorem strapsShown_early : (strapsShown sp early s).getF SYS_STRAP_EARLY = early.toNat := by
  rw [strapsShown, State.setB, State.setB, getF_setF_apart _ _ _ _ (by decide), getF_setF_apart _ _ _ _ (by decide),
    getF_setF_apart _ _ _ _ (by decide)]
  exact getF_setF_fits _ _ _ (by decide) (Bool.toNat_lt early)

theorem strapsShown_cfgSel (h : sp.cfgSel < 4) : (strapsShown sp early s).getF SYS_STRAP_CFG_SEL = sp.cfgSel := by
  rw [strapsShown, State.setB, getF_setF_apart _ _ _ _ (by decide), getF_setF_apart _ _ _ _ (by decide)]
  exact getF_setF_fits _ _ _ (by decide) h

theorem strapsShown_bootSrc (h : sp.bootSrc < 4) : (strapsShown sp early s).getF SYS_STRAP_BOOT_SRC = sp.bootSrc := by
  rw [strapsShown, State.setB, getF_setF_apart _ _ _ _ (by decide)]
  exact getF_setF_fits _ _ _ (by decide) h

theorem strapsShown_hbMode : (strapsShown sp early s).getF SYS_STRAP_HB_MODE = sp.hbMode.toNat :=
  getF_setF_fits _ _ _ (by decide) (Bool.toNat_lt sp.hbMode)

end

/-! ## The start of the boot -/

theorem spllEnter_frame (st : Nat) (s : State) : Frame [(0x2000, 0x3000)] s (spllEnter st s) := by
  unfold spllEnter
  exact ((((((Frame.refl _ s).setF CLK_STAT_STATE _ (by decide)).setF CLK_STAT_LOCK _ (by decide)).setF
    CLK_STAT_SLEWING _ (by decide)).setF CLK_STAT_HOLD_S
    _ (by decide)).setF CLK_DOM_SMP _ (by decide)).setF CLK_DOM_DAC _ (by decide)

/-- What the ROM records of its boot source: the host, or no bootable source and recovery (R63, R72). -/
def bootFrom (src : Nat) (s : State) : State :=
  if src = 3 then bootRecover (s.setF SYS_BOOT_ERR 10) else if src = 1 then s.setF SYS_BOOT_WAIT_HOST 1 else s

theorem Frame.boot {l : List (Nat × Nat)} {s u : State} (h : Frame l s u) (x : Boot) : Frame l s { u with boot := x } :=
  h.of_eq rfl rfl ⟨rfl, rfl⟩

theorem getF_withBoot (x : Boot) (s : State) (f : Fld) : ({ s with boot := x } : State).getF f = s.getF f := rfl

section
variable (s : State)

theorem bootRecover_frame : Frame [(0x20, 0x24)] s (bootRecover s) := by
  unfold bootRecover
  exact (((Frame.refl _ s).setF SYS_BOOT_RECOVERY 1 (by decide)).setF SYS_BOOT_WAIT_HOST 1 (by decide)).boot _

theorem bootRecover_getF (f : Fld) :
    (bootRecover s).getF f = ((s.setF SYS_BOOT_RECOVERY 1).setF SYS_BOOT_WAIT_HOST 1).getF f := by
  unfold bootRecover
  exact getF_withBoot _ _ f

theorem bootFrom_frame (src : Nat) : Frame [(0x20, 0x24)] s (bootFrom src s) := by
  unfold bootFrom
  exact (((Frame.refl _ s).setF SYS_BOOT_ERR 10 (by decide)).trans (bootRecover_frame _)).ite
    (((Frame.refl _ s).setF SYS_BOOT_WAIT_HOST 1 (by decide)).ite (.refl _ s))

theorem bootFrom_host : (bootFrom 1 s).getF SYS_BOOT_WAIT_HOST = 1 :=
  getF_setF_fits _ _ _ (by decide) (by decide)

theorem bootFrom_none :
    (bootFrom 3 s).getF SYS_BOOT_ERR = 10 ∧ (bootFrom 3 s).getF SYS_BOOT_RECOVERY = 1 ∧
      (bootFrom 3 s).getF SYS_BOOT_WAIT_HOST = 1 := by
  rw [bootFrom, if_pos rfl, bootRecover_getF, bootRecover_getF, bootRecover_getF,
    getF_setF_apart _ SYS_BOOT_WAIT_HOST SYS_BOOT_ERR _ (by decide),
    getF_setF_apart _ SYS_BOOT_RECOVERY SYS_BOOT_ERR _ (by decide),
    getF_setF_apart _ SYS_BOOT_WAIT_HOST SYS_BOOT_RECOVERY _ (by decide)]
  exact ⟨getF_setF_fits _ _ _ (by decide) (by decide), getF_setF_fits _ _ _ (by decide) (by decide),
    getF_setF_fits _ _ _ (by decide) (by decide)⟩

end

/-! ## The end of the internal reset -/

/-- The conditions of R54 and R59 for the end of the internal reset, and the operands' ranges. -/
structure MayStart (sp : Straps) (q : Temps) (s : State) : Prop where
  inReset : s.pwr.inReset = true
  rails : s.pwr.railsOk = true
  timing : s.pwr.porDone = true
  noTrip : s.pwr.tripHold = false
  sensors : q.ts.length = 8
  cool : tripReading q = false
  cooled : (!s.pwr.hot || q.ts.all fun x => decide (x < 420)) = true
  src : sp.bootSrc < 4
  cfg : sp.cfgSel < 4

section
variable {sp : Straps} {q : Temps} {s : State}

theorem exec_internalResetEnd (h : MayStart sp q s) (early lic : Bool) :
    exec (.internalResetEnd sp early q lic) s = .next (bootFrom (sp.bootSrc % 4)
      (spllEnter 1 (secBoot (thermJudge q (strapsShown sp early (resetLeft sp lic s)))))) := by
  have hheld : (!s.pwr.inReset || !s.pwr.railsOk || !s.pwr.porDone || s.pwr.tripHold || q.ts.length != 8) = false := by
    simp [h.inReset, h.rails, h.timing, h.noTrip, h.sensors]
  have hhot : (s.pwr.hot && !(q.ts.all fun x => decide (x < 420))) = false := by
    have hcooled := h.cooled
    revert hcooled
    generalize q.ts.all (fun x => decide (x < 420)) = c
    cases s.pwr.hot <;> cases c <;> decide
  show execInternalResetEnd sp early q lic s = _
  rw [execInternalResetEnd, hheld, h.cool, hhot, if_neg Bool.false_ne_true, if_neg Bool.false_ne_true,
    if_neg Bool.false_ne_true]
  rfl

/-- The reset ends with the straps as sampled, VID at 20 and QSPI driven for a flash source (R41, R48, R49). -/
theorem internalResetEnd_starts (h : MayStart sp q s) (early lic : Bool) :
    Gives (.internalResetEnd sp early q lic) s fun t =>
      t.pwr.inReset = false ∧ t.pins.vid = some 20 ∧ t.pins.qspi = decide (sp.bootSrc = 0 ∨ sp.bootSrc = 2) ∧
        t.getF SYS_STRAP_CFG_SEL = sp.cfgSel ∧ t.getF SYS_STRAP_BOOT_SRC = sp.bootSrc ∧
        t.flag SYS_STRAP_HB_MODE = sp.hbMode ∧ t.flag SYS_STRAP_EARLY = early ∧
        (sp.bootSrc = 1 → t.flag SYS_BOOT_WAIT_HOST = true) ∧
        (sp.bootSrc = 3 → t.getF SYS_BOOT_ERR = 10 ∧ t.flag SYS_BOOT_RECOVERY = true ∧ t.flag SYS_BOOT_WAIT_HOST = true) := by
  have hex := exec_internalResetEnd h early lic
  rw [Nat.mod_eq_of_lt h.src] at hex
  have hpwr := strapsShown_pwr sp early (resetLeft sp lic s)
  have hpins := strapsShown_pins sp early (resetLeft sp lic s)
  have hearly := strapsShown_early sp early (resetLeft sp lic s)
  have hcfg := strapsShown_cfgSel sp early (resetLeft sp lic s) h.cfg
  have hsrc := strapsShown_bootSrc sp early (resetLeft sp lic s) h.src
  have hhb := strapsShown_hbMode sp early (resetLeft sp lic s)
  generalize strapsShown sp early (resetLeft sp lic s) = u at *
  obtain ⟨hjudge, hjpwr, hjvid, hjqspi⟩ := thermJudge_leaves q u
  generalize thermJudge q u = j at *
  have hclk := ((secBoot_frame j).mono (by decide)).step (spllEnter_frame 1 _) (l := bootArea) (by decide)
  generalize spllEnter 1 (secBoot j) = v at *
  have hboot := bootFrom_frame v sp.bootSrc
  have hhost := bootFrom_host v
  have hnone := bootFrom_none v
  have hkeep (f : Fld) (hf : f.reg = SYS_STRAP) : (bootFrom sp.bootSrc v).getF f = u.getF f := by
    rw [hboot.within.getF f (by rw [hf]; decide), hclk.within.getF f (by rw [hf]; decide),
      hjudge.getF f (by rw [hf]; decide)]
  refine ⟨_, hex, ?_, ?_, ?_, ?_, ?_, flag_of_getF ?_, flag_of_getF ?_, fun hb => ?_, fun hb => ?_⟩
  · rw [hboot.pwr, hclk.pwr, hjpwr, hpwr]
    rfl
  · rw [hboot.vid, hclk.vid, hjvid, hpins]
    rfl
  · rw [hboot.qspi, hclk.qspi, hjqspi, hpins, Bool.decide_or]
    show (sp.bootSrc % 4 == 0 || sp.bootSrc % 4 == 2) = _
    rw [Nat.mod_eq_of_lt h.src]
    rfl
  · rw [hkeep _ rfl, hcfg]
  · rw [hkeep _ rfl, hsrc]
  · rw [hkeep _ rfl, hhb]
  · rw [hkeep _ rfl, hearly]
  · rw [hb]
    exact flag_of_getF (b := true) hhost
  · rw [hb]
    obtain ⟨herr, hrecovery, hwait⟩ := hnone
    exact ⟨herr, flag_of_getF (b := true) hrecovery, flag_of_getF (b := true) hwait⟩

end

/-! ## Supplies -/

section
variable (s : State)

theorem railsAbove_good :
    Gives .railsAboveBrownoutThreshold s fun t =>
      (t.pwr.railsOk = true ∧ t.pwr.inReset = s.pwr.inReset) ∧ Within [] s t :=
  ⟨s.withPwr { s.pwr with railsOk := true }, rfl, ⟨by rw [withPwr_pwr], by rw [withPwr_pwr]⟩,
    (Within.refl _ s).of_regs (withPwr_regs _ s)⟩

theorem powerOnTiming_done (hrails : s.pwr.railsOk = true) :
    Gives .powerOnTimingDone s fun t => t.pwr.porDone = true ∧ Within [] s t := by
  have hex : exec .powerOnTimingDone s = .next (s.withPwr { s.pwr with porDone := true }) := by
    show execPowerOnTimingDone s = _
    rw [execPowerOnTimingDone, hrails, if_pos rfl]
    rfl
  exact ⟨_, hex, by rw [withPwr_pwr], (Within.refl _ s).of_regs (withPwr_regs _ s)⟩

theorem perstRelease_rises : Gives .perstRelease s fun t => t.pins.perstN = true ∧ Within [] s t :=
  ⟨_, rfl, rfl, (Within.refl _ s).of_regs rfl⟩

end

/-! ## The statement -/

/-- Settles O30: each clause is what one command leaves, shown above for its command from the fields the internal reset
keeps, the areas an event may write and the frame of the boot's start. -/
theorem resetAndSupplies : Obligations.ResetAndSupplies := by
  unfold Obligations.ResetAndSupplies
  refine ⟨fun s ns took htakes => resetNAssert_resets htakes,
    fun s ns took hshort => resetNAssert_ignored (by simpa using hshort),
    railsAbove_good, powerOnTiming_done,
    fun s sp early q lic hreset hrails htiming htrip hlen hcool hcooled hsrc hcfg =>
      internalResetEnd_starts ⟨hreset, hrails, htiming, by simpa using htrip, by simpa using hlen,
        by simpa using hcool, hcooled, of_decide_eq_true hsrc, of_decide_eq_true hcfg⟩ early lic,
    fun s rails hrails => brownout_records (by simpa using hrails),
    fun s rails hrails => brownout_nvLost (by simpa using hrails),
    fun s q hreset hlen htrip => thermWarn_warns (by simpa using hreset) (by simpa using hlen) (by simpa using htrip),
    fun s q hreset hlen htrip => thermWarn_clears (by simpa using hreset) (by simpa using hlen) (by simpa using htrip),
    fun s q hlen htrip => ⟨_, thermWarn_trips (by simpa using hlen) htrip, thermTrip_holds s⟩,
    fun s q htrip => ⟨_, thermalTrip_trips htrip, thermTrip_holds s⟩,
    fun s hreset => hkStop_leaves (by simpa using hreset), fun s hreset => hkRestore_shows (by simpa using hreset),
    perstAssert_records, fun s hreset => perstAssert_down s (by simpa using hreset), perstRelease_rises,
    fun s gen lanes hreset hperst hclock hlow hhigh =>
      pcieLinkChange_up (by simpa using hreset) hperst hclock (of_decide_eq_true hlow) (of_decide_eq_true hhigh),
    fun s gen lanes hreset => pcieLinkChange_down gen lanes (by simpa using hreset)⟩

end Sys2Proof.Machine
end

section
/-! SUPPORT. The count over the entry into LOADED (R110, R155): once the release instant is reached nothing of the
configuration moves SYSCNT, which shows that instant modulo 2^64. -/

namespace Sys2Proof.Machine

/-! ## What leaves the count -/

theorem TraceStep.now {s u : State} (h : TraceStep s u) : u.now = s.now := now_of_syscnt h.syscnt

theorem CalStep.now {s u : State} (h : CalStep s u) : u.now = s.now := now_of_syscnt h.syscnt

theorem wr_now (s : State) (a : Nat) (w : Word) : (s.wr a w).now = s.now := now_of_syscnt (wr_syscnt s a w)

theorem setF_now (s : State) (f : Fld) (n : Nat) : (s.setF f n).now = s.now := now_of_syscnt (setF_syscnt s f n)

theorem setB_now (s : State) (f : Fld) (b : Bool) : (s.setB f b).now = s.now := now_of_syscnt (setB_syscnt s f b)

theorem forEach_now {l : List Nat} {f : Nat → State → State} (hf : ∀ n ∈ l, ∀ x, (f n x).now = x.now) (s : State) :
    (forEach l f s).now = s.now :=
  forEach_rel (R := fun s u => u.now = s.now) (fun _ => rfl) (fun h hv => hv.trans h) hf s

theorem podMarks_now (s : State) : (podMarks s).now = s.now :=
  forEach_now (fun _ _ x => (setB_now _ _ _).trans ((setB_now _ _ _).trans (setB_now x _ _))) s

theorem fabShow_now (s : State) : (fabShow s).now = s.now := by
  unfold fabShow remapShow
  dsimp only
  rw [forEach_now fun _ _ x => setB_now x _ _, setB_now, setF_now, setF_now, setF_now, setF_now]

theorem fabConfigure_now (h : BsHdr) (s : State) : (fabConfigure h s).now = s.now := by
  unfold fabConfigure
  extract_lets h' b s0 s1 s2 s3 s4
  have h1 : s1.now = s.now := by
    refine forEach_now (fun p _ x => ?_) s0
    split
    · extract_lets x'
      have hx : x'.now = x.now := now_of_syscnt (by rw [setPod_syscnt, setF_syscnt, setF_syscnt, wr_syscnt])
      rw [wr_now, (trace_step _ _ _ _ _ x').now, hx]
    · exact wr_now x _ _
  have h2 : s2.now = s1.now := forEach_now (fun _ _ x => setF_now x _ _) s1
  have h3 : s3.now = s2.now := by rw [setF_now, setF_now, setF_now]
  have h4 : s4.now = s3.now := forEach_now (fun _ _ x => setB_now x _ _) s3
  rw [fabShow_now, podMarks_now, h4, h3, h2, h1]

theorem coreStart_now (k : Nat) (code : List Byte) (len entry : Nat) (s : State) :
    (coreStart k code len entry s).now = s.now := (setF_now _ _ _).trans (setF_now _ _ _)

theorem coresStart_now (f : FwHdr) (s : State) : (coresStart f s).now = s.now :=
  forEach_now (fun _ _ x => coreStart_now _ _ _ _ x) s

theorem calRequest_step (n src : Nat) (s : State) : CalStep s (calRequest n src s) := by
  have hasked := (CalStep.refl s).setCal n { s.cal n with src := src, asked := s.now, retry := false }
  unfold calRequest
  extract_lets c s1 s2
  have hdue : CalStep s s2 := by
    unfold s2
    split
    · exact hasked.setF _ _
    · exact hasked
  split
  · exact (hdue.setCal _ _).setF _ _
  · exact (hdue.setF _ _).trans (raise_step _ _ _).calStep

theorem calStartUp_now (s : State) : (calStartUp s).now = s.now :=
  forEach_now (fun n _ x => (calRequest_step n 1 x).now) s

/-! ## The release instant -/

theorem le_ceilTo (p t : Nat) : t ≤ ceilTo p t := by
  unfold ceilTo
  split
  · exact le_rfl
  · have hdiv := Nat.div_add_mod' (t + p - 1) p
    have hmod := Nat.mod_lt (t + p - 1) (show 0 < p by omega)
    omega

theorem le_releaseAt (t : Nat) : t ≤ releaseAt t := le_ceilTo _ t

theorem startCount_counting (s : State) : (startCount s).counting = true := by
  unfold startCount
  split
  case isTrue h => exact h
  case isFalse => rfl

/-- A running count that has not passed an instant shows it, as far as its 64 bits do. -/
theorem advance_now {s : State} {t : Nat} (hcount : s.counting = true) (ht : s.now ≤ t) :
    (s.advance t).now = t % 2 ^ 64 := by
  rw [State.advance, hcount, decide_eq_true ht, Bool.and_self, if_pos rfl]
  exact BitVec.toNat_ofNat t 64

/-- The instant at which a configuration complete at n makes the part LOADED (R155). -/
def loadInstant (n : Nat) (s : State) : Nat := releaseAt (((startCount s).advance n).now + 1)

/-- The count has started and reached that instant. -/
def loadCount (n : Nat) (s : State) : State := ((startCount s).advance n).advance (loadInstant n s)

theorem loadCount_now (n : Nat) (s : State) : (loadCount n s).now = loadInstant n s % 2 ^ 64 := by
  have hcount : ((startCount s).advance n).counting = true := (advance_counting _ _).trans (startCount_counting s)
  exact advance_now hcount ((Nat.le_succ _).trans (le_releaseAt _))

/-- What the completed configuration of a bitstream and a firmware image leaves at that instant. -/
def loadPart (h : BsHdr) (f : FwHdr) (s : State) : State :=
  let s1 := fabConfigure h { s with boot := { s.boot with configuring := false, hostLoad := false } }
  let s2 := ((s1.setF SEC_SV_FW_SV f.secver).setF SEC_SV_BS_SV h.secver).setF SEC_STAT_FW_KEY s1.boot.fwKey.keySel
  calStartUp (coresStart f ((s2.setF SEC_STAT_BS_KEY s2.boot.bsKey.keySel).setF SYS_BOOT_STATE 2))

theorem loadPart_now (h : BsHdr) (f : FwHdr) (s : State) : (loadPart h f s).now = s.now := by
  unfold loadPart
  dsimp only
  rw [calStartUp_now, coresStart_now, setF_now, setF_now, setF_now, setF_now, setF_now, fabConfigure_now]
  rfl

section
variable {s : State} {h : BsHdr} {f : FwHdr} (hbs : s.boot.bs = some h) (hfw : s.boot.fw = some f)
  (hconf : s.boot.configuring = true) (hreset : s.pwr.inReset = false) (n : Nat)
include hbs hfw hconf hreset

/-- FABRIC_CONFIGURED runs these stages. -/
theorem exec_fabricConfigured : exec (.fabricConfigured n) s = .next (loadPart h f (loadCount n s)) := by
  show execFabricConfigured n s = _
  rw [execFabricConfigured, hbs, hfw]
  dsimp only
  rw [hconf, hreset, if_neg (by decide)]
  rfl

/-- The count at the entry into LOADED: the release instant, wrapped to 64 bits. -/
theorem fabricConfigured_now :
    Gives (.fabricConfigured n) s fun t => t.now = loadInstant n s % 2 ^ 64 :=
  ⟨_, exec_fabricConfigured hbs hfw hconf hreset n, (loadPart_now _ _ _).trans (loadCount_now n s)⟩

end

/-! ## The statement -/

/-- A firmware image without code. -/
def emptyImage : FwHdr :=
  { formatOk := true, secver := 0, stepMin := 0, stepMax := 0, families := [], sections := [], code := [], hash := 0 }

/-- Refutes O31: the clause on FABRIC_CONFIGURED asks that the count be the release instant itself, and SYSCNT, which has
64 bits, wraps after 2^64 ticks (R7).  A configuration that completes on the last tick before the wrap has its release
instant past the end of the count. -/
theorem not_bootSteps : ¬ Obligations.BootSteps := by
  unfold Obligations.BootSteps
  rintro ⟨-, -, -, -, -, -, -, -, -, -, -, -, hloaded, -⟩
  let n : Nat := 2 ^ 64 - 1
  let s : State :=
    { syscnt := BitVec.ofNat 64 n, counting := true, pwr := { inReset := false }
      boot := { bs := some {}, fw := some emptyImage, configuring := true } }
  obtain ⟨t, hexec, -, -, hnow, -⟩ := hloaded s n 0 {} emptyImage rfl rfl rfl rfl rfl rfl rfl
  obtain ⟨u, hexec', hwrapped⟩ := fabricConfigured_now (s := s) rfl rfl rfl rfl n
  have htu : t = u := Host.Outcome.next.inj (hexec.symm.trans hexec')
  have hclaimed : t.now = loadInstant n s := hnow
  have hshown : loadInstant n s % 2 ^ 64 = loadInstant n s := by rw [← hwrapped, ← htu, hclaimed]
  have hdiffer : loadInstant n s % 2 ^ 64 ≠ loadInstant n s := by decide
  exact hdiffer hshown

end Sys2Proof.Machine
end

section
/-! SUPPORT. What an entry of the sample PLL's states, its choice of reference and a loss of lock leave in the block CLK
(R95, R99, R102, R103). -/

namespace Sys2Proof.Machine

/-! ## Outside the block CLK -/

/-- From s to u neither a register of the block CLK nor the state beside its registers changes. -/
structure OffClk (s u : State) : Prop where
  rd : ∀ a, 0x2000 ≤ a → a < 0x3000 → u.rd a = s.rd a
  clk : u.clk = s.clk

section
variable {s u v : State}

theorem OffClk.refl (s : State) : OffClk s s := ⟨fun _ _ _ => rfl, rfl⟩

theorem OffClk.trans (h : OffClk s u) (hv : OffClk u v) : OffClk s v :=
  ⟨fun a hlo hhi => (hv.rd a hlo hhi).trans (h.rd a hlo hhi), hv.clk.trans h.clk⟩

/-- A change in areas beside the block. -/
theorem OffClk.of_within {l : List (Nat × Nat)} (h : Within l s u) (hc : u.clk = s.clk)
    (hl : ∀ p ∈ l, p.2 ≤ 0x2000 ∨ 0x3000 ≤ p.1) : OffClk s u := by
  refine ⟨fun a hlo hhi => h a fun p hp => ?_, hc⟩
  have hout := hl p hp
  omega

theorem OffClk.of_eq (h : OffClk s u) (hr : v.regs = u.regs) (hc : v.clk = u.clk) : OffClk s v :=
  ⟨fun a hlo hhi => (rd_of_regs hr a).trans (h.rd a hlo hhi), hc.trans h.clk⟩

theorem OffClk.getF (h : OffClk s u) {f : Fld} (hf : 0x2000 ≤ f.reg ∧ f.reg < 0x3000) : u.getF f = s.getF f :=
  getF_of_rd (h.rd _ hf.1 hf.2)

theorem OffClk.bumpBy (h : OffClk s u) {f : Fld} (n : Nat) (hf : 0x3000 ≤ f.reg) : OffClk s (u.bumpBy f n) :=
  h.trans ⟨fun a _ hhi => rd_setF_other u f _ a (by omega), bumpBy_clk u f n⟩

theorem OffClk.forEach {l : List Nat} {f : Nat → State → State} (hf : ∀ n ∈ l, ∀ x, OffClk x (f n x)) (s : State) :
    OffClk s (forEach l f s) :=
  forEach_rel OffClk.refl OffClk.trans hf s

theorem raise_offClk (e i : Nat) (s : State) : OffClk s (raise e i s) :=
  .of_within (raise_within e i s) (raise_step e i s).clk (by decide)

theorem CalStep.clk (h : CalStep s u) : u.clk = s.clk := (congrArg State.clk h.eq :)

theorem calReject_four_within (r : Nat) (s : State) :
    Within [(0x50000, 0x58000), (0x1000, 0x2000), (0x30000, 0x34000), (0x68000, 0x70000)] s (calReject 4 r s) := by
  unfold calReject
  dsimp only
  refine Within.step ?_ (raise_within _ _ _) (by decide)
  refine Within.setF ?_ (CALn_CNT_REJECTS 4) _ (by decide)
  exact ((((Within.refl _ s).setF (CALn_STAT_STATE 4) _ (by decide)).setF (CALn_STAT_LASTRES 4) _ (by decide)).setF
    (CALn_STAT_REASON 4) _ (by decide)).of_regs (setCal_regs _ _ _)

theorem calAbandon_offClk (s : State) : OffClk s (calAbandon s) := by
  refine .of_within (l := [(0x50000, 0x58000), (0x1000, 0x2000), (0x30000, 0x34000), (0x68000, 0x70000)]) ?_
    (calAbandon_step s).clk (by decide)
  unfold calAbandon
  split
  · exact calReject_four_within 3 s
  · exact .refl _ s

theorem LaneStep.clk (h : LaneStep s u) : u.clk = s.clk := (congrArg State.clk h.eq :)

theorem paBalls_clk (a b c d : Bool) (s : State) : (paBalls a b c d s).clk = s.clk := rfl

/-- The entry of a state other than RAMPUP. -/
theorem excEnter_clk {st : Nat} (h : st ≠ 3) (s : State) : (excEnter st s).clk = s.clk := by
  rw [excEnter_eq, (lanesFollow_lanes _ _).1.clk, excBalls, paBalls_clk, setF_clk, excReady_of_ne h]

theorem clk_withExc (x : Exciter) (s : State) : ({ s with exc := x } : State).clk = s.clk := rfl

/-- A held exciter is muted in HELD, with some state of its own. -/
theorem excHold_eq (c : Nat) (s : State) : ∃ x, excHold c s =
    if 1 ≤ s.excState && s.excState ≤ 5 then { excMuted c (excEnter 6 s) with exc := x } else s := ⟨_, rfl⟩

theorem excHold_offClk (c : Nat) (s : State) : OffClk s (excHold c s) := by
  refine .of_within (excHold_frame c s).within ?_ (by decide)
  obtain ⟨x, hx⟩ := excHold_eq c s
  rw [hx]
  split
  · rw [clk_withExc, (excMuted_step c _).clk, excEnter_clk (by decide)]
  · rfl

theorem bufSuspect_offClk (tf : Nat) (s : State) : OffClk s (bufSuspect tf s) := by
  refine .forEach (fun a _ x => ?_) s
  dsimp only
  split
  · exact .refl x
  · exact ⟨fun b _ _ => setInput_rd x a _ b, setInput_clk x a _⟩

end

/-! ## States and references of the sample PLL -/

theorem getF_withClk (c : Clock) (s : State) (f : Fld) : ({ s with clk := c } : State).getF f = s.getF f := rfl

/-- Field f lies apart from every field of a list, in another register or in its own. -/
abbrev Apart (l : List Fld) (f : Fld) : Prop :=
  ∀ g ∈ l, f.reg ≠ g.reg ∨ (g.lo ≤ g.hi ∧ g.hi < 32) ∧ (f.hi < g.lo ∨ g.hi < f.lo)

/-- The fields that the entry of a state writes (R87, R102, R106). -/
abbrev stateFields : List Fld :=
  [CLK_STAT_STATE, CLK_STAT_LOCK, CLK_STAT_SLEWING, CLK_STAT_HOLD_S, CLK_DOM_SMP, CLK_DOM_DAC]

section
variable (st : Nat) (s : State)

theorem spllEnter_clk : (spllEnter st s).clk = s.clk := by simp [spllEnter]

theorem spllEnter_syscnt : (spllEnter st s).syscnt = s.syscnt := by simp [spllEnter]

theorem spllEnter_getF {f : Fld} (hf : Apart stateFields f) : (spllEnter st s).getF f = s.getF f := by
  simp only [stateFields, List.forall_mem_cons] at hf
  obtain ⟨hstate, hlock, hslew, hhold, hsmp, hdac, -⟩ := hf
  unfold spllEnter State.setB
  dsimp only
  rw [getF_setF_apart _ _ _ _ hdac, getF_setF_apart _ _ _ _ hsmp, getF_setF_apart _ _ _ _ hhold,
    getF_setF_apart _ _ _ _ hslew, getF_setF_apart _ _ _ _ hlock, getF_setF_apart _ _ _ _ hstate]

variable {st} in
theorem spllEnter_state (h : st < 8) : (spllEnter st s).getF CLK_STAT_STATE = st := by
  unfold spllEnter State.setB
  dsimp only
  rw [getF_setF_apart _ _ _ _ (by decide), getF_setF_apart _ _ _ _ (by decide), getF_setF_apart _ _ _ _ (by decide),
    getF_setF_apart _ _ _ _ (by decide), getF_setF_apart _ _ _ _ (by decide)]
  exact getF_setF_fits _ _ _ (by decide) h

theorem spllEnter_lock : (spllEnter st s).getF CLK_STAT_LOCK = (decide (st = 3) || decide (st = 4)).toNat := by
  unfold spllEnter State.setB
  dsimp only
  rw [getF_setF_apart _ _ _ _ (by decide), getF_setF_apart _ _ _ _ (by decide), getF_setF_apart _ _ _ _ (by decide),
    getF_setF_apart _ _ _ _ (by decide)]
  exact getF_setF_fits _ _ _ (by decide) (Bool.toNat_lt _)

end

section
variable (b : Bool) (s : State)

theorem lfsrSettle_regs : (lfsrSettle s).regs = s.regs := by
  unfold lfsrSettle
  split <;> rfl

theorem spllFollow_regs : (spllFollow b s).regs = s.regs := by
  unfold spllFollow
  split
  · rfl
  · exact lfsrSettle_regs s

theorem spllFollow_getF (f : Fld) : (spllFollow b s).getF f = s.getF f :=
  getF_of_rd (rd_of_regs (spllFollow_regs b s) _)

theorem spllFollow_follows : (spllFollow b s).clk.follows = b := by
  unfold spllFollow
  split
  case isTrue h => exact h
  case isFalse => rfl

variable {s}

/-- No comparison has passed since the LFSR was loaded at this very count. -/
theorem lfsrNow_fresh (h : s.clk.lfsrAt = s.now) : s.lfsrNow = s.clk.lfsr := by
  have hnone : s.comparisons s.clk.lfsrAt s.now = 0 := by simp [State.comparisons, h]
  rw [State.lfsrNow, hnone]
  rfl

theorem lfsrSettle_fresh (h : s.clk.lfsrAt = s.now) : (lfsrSettle s).clk = s.clk := by
  unfold lfsrSettle
  split
  · rw [lfsrNow_fresh h, ← h]
  · rfl

/-- A change of reference at the instant the LFSR was loaded leaves the LFSR. -/
theorem spllFollow_fresh (h : s.clk.lfsrAt = s.now) : (spllFollow b s).clk = { s.clk with follows := b } := by
  unfold spllFollow
  split
  case isTrue hb => rw [← hb]
  case isFalse =>
    show ({ (lfsrSettle s).clk with follows := b } : Clock) = _
    rw [lfsrSettle_fresh h]

end

/-! ## Loss of lock -/

/-- State s with SPLL_DCO frozen at the learned ratio where lock has lasted for a second (R105). -/
def spllFrozen (s : State) : State :=
  if s.clk.lockedAt + Config.ticksPerSecond ≤ s.now then s.learned.2.setI SPLL_DCO_ADJ s.learned.1 else s

/-- What a loss of lock whose first failing comparison is at tf leaves in the block CLK. -/
def spllDropped (tf : Nat) (s : State) : State :=
  let s1 := spllEnter (if s.clk.lockedAt + Config.ticksPerSecond ≤ s.now then 5 else 1) (spllFollow false (spllFrozen s))
  let s3 := (s1.setF CLK_STAT_REF_OK 0).bump CLK_CNT_LOSSES
  { s3 with clk := { s3.clk with slew := 0, suspectFrom := tf, windows := [], adjs := [] } }

/-- The fields that a loss of lock writes. -/
abbrev lossFields : List Fld := [CLK_CNT_LOSSES, CLK_STAT_REF_OK, SPLL_DCO_ADJ] ++ stateFields

section
variable (tf : Nat) {s : State}

/-- After the SPLL's own part a loss of lock goes on outside the block CLK. -/
theorem spllLose_inLock (h : s.inLock = true) : OffClk (spllDropped tf s) (spllLose tf s) := by
  have heq : spllLose tf s =
      raise evSpllLoss noInst (calAbandon (excHold causeSpll (bufSuspect tf (spllDropped tf s)))) := by
    unfold spllLose spllDropped spllFrozen
    simp only [h, if_true, decide_eq_true_eq]
  rw [heq]
  exact (((bufSuspect_offClk _ _).trans (excHold_offClk _ _)).trans (calAbandon_offClk _)).trans (raise_offClk _ _ _)

theorem learned_regs (s : State) : s.learned.2.regs = s.regs := by
  unfold State.learned
  split <;> rfl

theorem spllFrozen_getF (s : State) {f : Fld} (hf : Apart [SPLL_DCO_ADJ] f) : (spllFrozen s).getF f = s.getF f := by
  unfold spllFrozen
  split
  · exact (getF_setF_apart _ _ _ _ (hf _ (List.mem_singleton.mpr rfl))).trans
      (getF_of_rd (rd_of_regs (learned_regs s) _))
  · rfl

/-- The SPLL that loses lock is in HOLDOVER after a second of lock, otherwise in FREE, and the loss is counted. -/
theorem spllDropped_shows (s : State) :
    (spllDropped tf s).getF CLK_STAT_STATE = (if s.clk.lockedAt + Config.ticksPerSecond ≤ s.now then 5 else 1) ∧
      (spllDropped tf s).getF CLK_STAT_LOCK = 0 ∧ Counted CLK_CNT_LOSSES s (spllDropped tf s) := by
  unfold spllDropped
  dsimp only
  generalize hst : (if s.clk.lockedAt + Config.ticksPerSecond ≤ s.now then 5 else 1) = st
  have hlt : st < 8 ∧ st ≠ 3 ∧ st ≠ 4 := by split at hst <;> omega
  have hcnt : (spllEnter st (spllFollow false (spllFrozen s))).getF CLK_CNT_LOSSES = s.getF CLK_CNT_LOSSES := by
    rw [spllEnter_getF _ _ (by decide), spllFollow_getF, spllFrozen_getF s (by decide)]
  have hstate := spllEnter_state (spllFollow false (spllFrozen s)) hlt.1
  have hlock := spllEnter_lock st (spllFollow false (spllFrozen s))
  rw [decide_eq_false hlt.2.1, decide_eq_false hlt.2.2] at hlock
  generalize spllEnter st (spllFollow false (spllFrozen s)) = x at hcnt hstate hlock
  refine ⟨?_, ?_, ?_⟩
  · rw [getF_withClk, getF_bump_apart _ _ _ (by decide), getF_setF_apart _ _ _ _ (by decide), hstate]
  · rw [getF_withClk, getF_bump_apart _ _ _ (by decide), getF_setF_apart _ _ _ _ (by decide), hlock]
    rfl
  · have hcount := counted_bump (x.setF CLK_STAT_REF_OK 0) CLK_CNT_LOSSES (by decide) (by decide)
    rw [Counted, getF_withClk]
    exact hcount.of_getF ((getF_setF_apart _ _ _ _ (by decide)).trans hcnt)

/-- A loss of lock leaves the other fields of the block CLK. -/
theorem spllLose_getF (s : State) {f : Fld} (hreg : 0x2000 ≤ f.reg ∧ f.reg < 0x3000) (hf : Apart lossFields f) :
    (spllLose tf s).getF f = s.getF f := by
  cases hlock : s.inLock
  · rw [spllLose, hlock, if_neg Bool.false_ne_true]
  · rw [(spllLose_inLock tf hlock).getF hreg]
    simp only [lossFields, List.cons_append, List.nil_append, List.forall_mem_cons] at hf
    obtain ⟨hcnt, hok, hadj, hstate⟩ := hf
    unfold spllDropped
    dsimp only
    rw [getF_withClk, getF_bump_apart _ _ _ hcnt, getF_setF_apart _ _ _ _ hok,
      spllEnter_getF _ _ (by simpa only [List.forall_mem_cons] using hstate), spllFollow_getF,
      spllFrozen_getF s (by simpa only [List.forall_mem_singleton] using hadj)]

end

end Sys2Proof.Machine
end

section
/-! SUPPORT. The commands of the sample PLL and its references (R90 to R111), and the statement on them. -/

namespace Sys2Proof.Machine

/-! ## Dividers and the source -/

/-- A write that reaches its register runs its effect from a state that reads alike below OBS. -/
theorem gated_effect {m : Master} {a : Nat} {s : State} (h : s.reaches m a = true) (w : Nat) (f : State → State) :
    ∃ u, gated m a w f s = f u ∧ u.clk = s.clk ∧ ∀ g : Fld, g.reg < 0x68000 → u.getF g = s.getF g :=
  ⟨_, gated_reaches m a w f s h, (traceRegWrite_step m a w s).eventStep.clk,
    fun _ hg => (traceRegWrite_within m a w s).getF_below_obs hg⟩

theorem commitWrite_accepts {s : State} (href : s.getF CLK_CTL_REF_MHZ ≠ 0) (hfrac : s.getF SPLL_F_NUM < s.getF SPLL_F_MOD)
    (hrange : dividerInRange (nominalHz (s.getF CLK_CTL_REF_MHZ)) (s.getF SPLL_N_INT) (s.getF SPLL_F_NUM)
      (s.getF SPLL_F_MOD) = true) :
    (commitWrite s).getF CLK_STAT_PEND = 1 ∧ (commitWrite s).clk.commit = some (s.getF SPLL_N_INT, s.getF SPLL_F_NUM,
      s.getF SPLL_F_MOD, s.getF SPLL_DSEED_SEED, s.flag SPLL_DSEED_DITHER) := by
  unfold commitWrite
  dsimp only
  rw [if_neg href, if_neg (by omega), hrange, if_neg (by decide)]
  refine ⟨?_, rfl⟩
  rw [getF_withClk]
  exact getF_setF_fits _ _ _ (by decide) (by decide)

/-- COMMIT holds the values it checked until the next comparison (R98). -/
theorem spllCommit_pends {s : State} {m : Master} (hr : s.reaches m SPLL_CMD = true)
    (href : s.getF CLK_CTL_REF_MHZ ≠ 0) (hfrac : s.getF SPLL_F_NUM < s.getF SPLL_F_MOD)
    (hrange : dividerInRange (nominalHz (s.getF CLK_CTL_REF_MHZ)) (s.getF SPLL_N_INT) (s.getF SPLL_F_NUM)
      (s.getF SPLL_F_MOD) = true) :
    Gives (.spllCommit m) s fun t => t.getF CLK_STAT_PEND = 1 ∧ t.clk.commit = some (s.getF SPLL_N_INT,
      s.getF SPLL_F_NUM, s.getF SPLL_F_MOD, s.getF SPLL_DSEED_SEED, s.flag SPLL_DSEED_DITHER) := by
  obtain ⟨u, hgate, -, hread⟩ := gated_effect hr 1 commitWrite
  refine ⟨_, congrArg Host.Outcome.next hgate, ?_⟩
  have hmhz := hread CLK_CTL_REF_MHZ (by decide)
  have hint := hread SPLL_N_INT (by decide)
  have hnum := hread SPLL_F_NUM (by decide)
  have hmod := hread SPLL_F_MOD (by decide)
  have hseed := hread SPLL_DSEED_SEED (by decide)
  have hdither : u.flag SPLL_DSEED_DITHER = s.flag SPLL_DSEED_DITHER :=
    congrArg (· != 0) (hread SPLL_DSEED_DITHER (by decide))
  rw [← hint, ← hnum, ← hmod, ← hseed, ← hdither]
  rw [← hmhz] at href
  rw [← hnum, ← hmod] at hfrac
  rw [← hmhz, ← hint, ← hnum, ← hmod] at hrange
  exact commitWrite_accepts href hfrac hrange

section
variable (v : Nat × Nat × Nat × Nat × Bool) (s : State)

theorem commitTake_clk : (commitTake v s).clk =
    { s.clk with int := v.1, num := v.2.1, mod := v.2.2.1, seed := v.2.2.2.1, dither := v.2.2.2.2, lfsr := v.2.2.2.1
                 lfsrAt := s.now, commit := none } := by
  unfold commitTake
  dsimp only
  rw [(raise_step _ _ _).clk, setF_clk]

theorem commitTake_now : (commitTake v s).now = s.now := by
  unfold commitTake
  dsimp only
  rw [now_of_syscnt (raise_step _ _ _).syscnt, setF_now]
  rfl

theorem commitTake_pend : (commitTake v s).getF CLK_STAT_PEND = 0 := by
  unfold commitTake
  dsimp only
  exact ((raise_offClk _ _ _).getF (by decide)).trans (getF_setF_fits _ _ _ (by decide) (by decide))

end

/-- The committed values become active together and the LFSR starts from SEED, also where the change is a loss of lock
(R98). -/
theorem divCommit_takes {s : State} {i n m sd : Nat} {d : Bool} (h : s.clk.commit = some (i, n, m, sd, d)) :
    Gives .divCommit s fun t => t.getF CLK_STAT_PEND = 0 ∧ t.clk.int = i ∧ t.clk.num = n ∧ t.clk.mod = m ∧
      t.clk.seed = sd ∧ t.clk.lfsr = sd ∧ t.clk.dither = d ∧ t.clk.commit = none := by
  refine ⟨_, rfl, ?_⟩
  simp only [h]
  split
  · have hclk := commitTake_clk (i, n, m, sd, d) (spllLoseNow s)
    have hpend := commitTake_pend (i, n, m, sd, d) (spllLoseNow s)
    have hnow := commitTake_now (i, n, m, sd, d) (spllLoseNow s)
    generalize commitTake (i, n, m, sd, d) (spllLoseNow s) = x at hclk hpend hnow
    have hx : (spllEnter 2 (x.setF CLK_STAT_REF_OK 1)).clk = x.clk := by rw [spllEnter_clk, setF_clk]
    have hfresh : (spllEnter 2 (x.setF CLK_STAT_REF_OK 1)).clk.lfsrAt =
        (spllEnter 2 (x.setF CLK_STAT_REF_OK 1)).now := by
      rw [hx, now_of_syscnt (spllEnter_syscnt _ _), setF_now, hnow, hclk]
    refine ⟨?_, ?_⟩
    · rw [spllFollow_getF, spllEnter_getF _ _ (by decide), getF_setF_apart _ _ _ _ (by decide), hpend]
    · rw [spllFollow_fresh _ hfresh, hx, hclk]
      exact ⟨rfl, rfl, rfl, rfl, rfl, rfl, rfl⟩
  · refine ⟨commitTake_pend _ s, ?_⟩
    rw [commitTake_clk]
    exact ⟨rfl, rfl, rfl, rfl, rfl, rfl, rfl⟩

theorem srcWrite_src {src : Nat} (h : src < 3) (s : State) : (srcWrite src s).getF CLK_CTL_SRC = src := by
  have hsrc (x : State) : ((x.setF CLK_CTL_SRC src).setF CLK_STAT_REF_OK 0).getF CLK_CTL_SRC = src :=
    (getF_setF_apart _ _ _ _ (by decide)).trans (getF_setF_fits _ _ _ (by decide) (h.trans (by decide)))
  unfold srcWrite
  rw [if_neg (by omega)]
  split
  · assumption
  · dsimp only
    split
    · exact (spllEnter_getF _ _ (by decide)).trans (hsrc _)
    · split
      · exact (spllEnter_getF _ _ (by decide)).trans (hsrc _)
      · exact hsrc _

/-- A write of SRC selects the source, whatever it does to the lock (R93). -/
theorem clkSrcChange_selects {s : State} {m : Master} {src : Nat} (hr : s.reaches m CLK_CTL = true) (h : src < 3) :
    Gives (.clkSrcChange m src) s fun t => t.getF CLK_CTL_SRC = src := by
  refine ⟨_, rfl, ?_⟩
  obtain ⟨u, hgate, -⟩ := gated_effect hr (putBits (s.rd CLK_CTL).toNat 1 0 src) (srcWrite src)
  rw [hgate]
  exact srcWrite_src h u

/-! ## References -/

theorem classifyBy_lt (u f : Nat) : classifyBy u f < 4 := by
  unfold classifyBy
  split
  · decide
  · split
    · decide
    · split <;> decide

/-- A window shows the reference it measured (R91). -/
theorem refWindow_shows {s : State} (hreset : s.pwr.inReset = false) (mhz : Nat) :
    Gives (.refWindow mhz) s fun t =>
      t.getF CLK_STAT_REF_DET = classifyBy 1000 mhz ∧ t.clk.refDet = classifyBy 1000 mhz := by
  refine ⟨_, rfl, ?_⟩
  rw [hreset, if_neg Bool.false_ne_true]
  dsimp only
  exact ⟨getF_setF_fits _ _ _ (by decide) (classifyBy_lt _ _), by rw [setF_clk]⟩

/-- The SPLL acquires a reference that has qualified and follows it. -/
structure Acquiring (s : State) : Prop where
  state : s.getF CLK_STAT_STATE = 2
  refOk : s.getF CLK_STAT_REF_OK = 1
  follows : s.clk.follows = true

section
variable {s u : State}

/-- What keeps CLK_STAT and the reference followed keeps the acquisition. -/
theorem Acquiring.step (h : Acquiring s) (hr : u.rd CLK_STAT = s.rd CLK_STAT) (hf : u.clk.follows = s.clk.follows) :
    Acquiring u :=
  ⟨(getF_of_rd hr).trans h.state, (getF_of_rd hr).trans h.refOk, hf.trans h.follows⟩

theorem Acquiring.offClk (h : Acquiring s) (hu : OffClk s u) : Acquiring u :=
  h.step (hu.rd _ (by decide) (by decide)) (congrArg Clock.follows hu.clk)

theorem Acquiring.setF (h : Acquiring s) (f : Fld) (n : Nat) (hf : Apart [f] CLK_STAT_STATE ∧ Apart [f] CLK_STAT_REF_OK) :
    Acquiring (s.setF f n) := by
  have happart {g : Fld} (hg : Apart [f] g) : (s.setF f n).getF g = s.getF g :=
    getF_setF_apart _ _ _ _ (hg f (List.mem_singleton.mpr rfl))
  exact ⟨(happart hf.1).trans h.state, (happart hf.2).trans h.refOk, by rw [setF_clk, h.follows]⟩

theorem Acquiring.withClk (h : Acquiring s) {c : Clock} (hc : c.follows = s.clk.follows) :
    Acquiring { s with clk := c } := h.step rfl hc

/-- The mapping moves in registers of its own. -/
theorem Acquiring.moveAnchor (h : Acquiring s) (delta : Int) : Acquiring (moveAnchor delta s) := by
  unfold Machine.moveAnchor
  extract_lets ns t sec s1 s2
  have h1 : Acquiring s1 := ((h.setF CLK_MAP_SEC_LO_SEC _ (by decide)).setF CLK_MAP_SEC_HI_SEC _ (by decide)).setF
    CLK_MAP_NS_NS _ (by decide)
  have h2 : Acquiring s2 := h1.setF CLK_MAP_GEN_COUNT _ (by decide)
  exact h2.withClk (by rfl)

end

/-! ## A step of SYSCNT -/

theorem progSkip_offClk (old p : Nat) (s : State) : OffClk s (progSkip old p s) := by
  unfold progSkip
  extract_lets v r s1 w
  split
  · exact .refl s
  · have hcnt : OffClk s s1 := (OffClk.refl s).bumpBy _ (by simp only [FOLp_CNT2_DROP, FOLp_CNT2]; omega)
    clear_value s1 w
    exact hcnt.of_eq rfl rfl

theorem pathSkip_offClk (old n : Nat) (s : State) : OffClk s (pathSkip old n s) := by
  unfold pathSkip
  extract_lets v r s1 w
  split
  · exact .refl s
  · have hcnt : OffClk s s1 := (OffClk.refl s).bumpBy _ (by simp only [PTHn_DROP_CNT, PTHn_DROP]; omega)
    clear_value s1 w
    exact hcnt.of_eq rfl rfl

theorem decSkip_offClk (old d : Nat) (s : State) : OffClk s (decSkip old d s) := by
  unfold decSkip
  extract_lets v lat due runs
  split
  · exact (OffClk.refl s).of_eq rfl rfl
  · exact .refl s

theorem dropSkipped_offClk (old : Nat) (s : State) : OffClk s (dropSkipped old s) :=
  ((OffClk.forEach (fun p _ x => progSkip_offClk old p x) s).trans
    (.forEach (fun n _ x => pathSkip_offClk old n x) _)).trans (.forEach (fun d _ x => decSkip_offClk old d x) _)

theorem moveInstants_regs (d : Int) (s : State) : (moveInstants d s).regs = s.regs := rfl

theorem moveInstants_follows (d : Int) (s : State) : (moveInstants d s).clk.follows = s.clk.follows := rfl

theorem Acquiring.stepSyscnt {s : State} (h : Acquiring s) (delta : Int) : Acquiring (stepSyscnt delta s) := by
  unfold Machine.stepSyscnt
  extract_lets s1
  have h1 : Acquiring s1 := h.step (rd_of_regs (moveInstants_regs delta _) _) (moveInstants_follows delta _)
  exact ((h1.withClk (by rfl)).offClk (dropSkipped_offClk _ _)).offClk (raise_offClk _ _ _)

/-! ## The return of a reference -/

/-- The acquisition that starts with a qualified reference: its phase is recorded and counted (R107, R109). -/
def refFollow (delta : Int) (s : State) : State :=
  let s1 := spllFollow true (spllEnter 2 (s.setF CLK_STAT_REF_OK 1))
  let s2 := { s1 with clk := { s1.clk with slew := 0 } }
  raise evRefReturn noInst ((s2.setI CLK_PHASE_DELTA (clampInt (-phaseMax) phaseMax delta)).bump CLK_CNT_RETURNS)

/-- How a return from HOLDOVER applies its phase: STEP, SLEW or KEEP (R107, R109). -/
def refReturn (delta : Int) (s : State) : State :=
  let big := decide (2147483648 ≤ delta.natAbs)
  let s4 := s.setB CLK_STAT_BIGSTEP big
  let mode := if big then 0 else s4.getF CLK_CTL_RETURN
  if mode = 0 then stepSyscnt delta s4
  else if mode = 1 then { s4 with clk := { s4.clk with slew := delta } }
  else
    let s5 := raise evPhaseKept noInst s4
    if s5.getF CLK_CTL_SRC = 1 then moveAnchor delta s5 else s5

/-- REF_QUALIFY of a reference that may qualify: the divider of R96 where REF_MHZ names none, then those stages. -/
theorem exec_refQualify {s : State} (phase : Int) (hreset : s.pwr.inReset = false) (hst : s.spll = 1 ∨ s.spll = 5)
    (hqual : s.mayQualify = true) :
    ∃ delta s0, exec (.refQualify phase) s = .next (if !decide (s0.spll = 5)
      then (refFollow delta s0).setB CLK_STAT_BIGSTEP false else refReturn delta (refFollow delta s0)) := by
  refine ⟨if s.getF CLK_CTL_SRC = 0 then wrapPhase s.clk.refDet phase else phase,
    if s.getF CLK_CTL_SRC = 0 && s.getF CLK_CTL_REF_MHZ = 0 then loadDivider s.clk.refDet s else s, ?_⟩
  show execRefQualify phase s = _
  have hwaits : (decide (s.spll = 1) || decide (s.spll = 5)) = true := by simpa using hst
  have hgo : ¬ (s.pwr.inReset || !(s.spll = 1 || s.spll = 5) || !s.mayQualify) = true := by
    rw [hreset, hwaits, hqual]
    decide
  unfold execRefQualify
  dsimp only
  rw [if_neg hgo]
  rfl

theorem refFollow_acquiring (delta : Int) (s : State) : Acquiring (refFollow delta s) := by
  unfold refFollow
  extract_lets s1 c1 s2
  have h1 : Acquiring s1 := by
    refine ⟨?_, ?_, spllFollow_follows _ _⟩
    · rw [spllFollow_getF, spllEnter_state _ (by decide)]
    · rw [spllFollow_getF, spllEnter_getF _ _ (by decide)]
      exact getF_setF_fits _ _ _ (by decide) (by decide)
  have h2 : Acquiring s2 := h1.withClk (by rfl)
  exact ((h2.setF _ _ (by decide)).setF CLK_CNT_RETURNS _ (by decide)).offClk (raise_offClk _ _ _)

theorem Acquiring.refReturn {s : State} (h : Acquiring s) (delta : Int) : Acquiring (refReturn delta s) := by
  unfold Machine.refReturn
  extract_lets big s4 mode c4 s5
  have h4 : Acquiring s4 := h.setF _ _ (by decide)
  have h5 : Acquiring s5 := h4.offClk (raise_offClk _ _ _)
  split
  · exact h4.stepSyscnt delta
  · split
    · exact h4.withClk (by rfl)
    · split
      · exact h5.moveAnchor delta
      · exact h5

/-- A qualified reference is acquired, however its phase is applied (R107). -/
theorem refQualify_acquires {s : State} (phase : Int) (hreset : s.pwr.inReset = false) (hst : s.spll = 1 ∨ s.spll = 5)
    (hqual : s.mayQualify = true) :
    Gives (.refQualify phase) s fun t =>
      t.getF CLK_STAT_STATE = 2 ∧ t.getF CLK_STAT_REF_OK = 1 ∧ t.clk.follows = true := by
  obtain ⟨delta, s0, hex⟩ := exec_refQualify phase hreset hst hqual
  have hfollow := refFollow_acquiring delta s0
  have hend : Acquiring (if !decide (s0.spll = 5) then (refFollow delta s0).setB CLK_STAT_BIGSTEP false
      else refReturn delta (refFollow delta s0)) := by
    split
    · exact hfollow.setF _ _ (by decide)
    · exact hfollow.refReturn delta
  exact ⟨_, hex, hend.state, hend.refOk, hend.follows⟩

/-! ## Lock, failure and loss -/

theorem startCount_getF (s : State) (f : Fld) : (startCount s).getF f = s.getF f := by
  unfold startCount
  split <;> rfl

/-- Lock is declared, SLEWING while a slew remains, and SYSCNT counts from then on (R100, R110). -/
theorem spllLock_declares {s : State} (hst : s.spll = 2) (href : s.refPresent = true) :
    Gives .spllLock s fun t =>
      t.getF CLK_STAT_STATE = (if s.clk.slew = 0 then 3 else 4) ∧ t.counting = true := by
  refine ⟨_, rfl, ?_⟩
  have hgo : (decide (s.spll = 2) && s.refPresent) = true := by rw [hst, href]; rfl
  rw [if_pos hgo]
  refine ⟨?_, startCount_counting _⟩
  rw [getF_withClk, startCount_getF, spllEnter_state]
  split <;> decide

/-- A lock that is not declared in time leaves FREE (R101). -/
theorem spllFail_frees {s : State} (hst : s.spll = 2) :
    Gives .spllFail s fun t => t.getF CLK_STAT_STATE = 1 ∧ t.clk.follows = false := by
  refine ⟨_, rfl, ?_⟩
  rw [if_pos hst]
  dsimp only
  rw [(raise_offClk _ _ _).getF (by decide), (raise_offClk _ _ _).clk, getF_withClk, spllFollow_getF]
  exact ⟨spllEnter_state _ (by decide), spllFollow_follows _ _⟩

/-- A loss of lock: HOLDOVER after a second of lock, otherwise FREE, and the loss is counted (R103). -/
theorem spllLoss_counts {s : State} (hlock : s.inLock = true) (tf : Nat) :
    Gives (.spllLoss tf) s fun t =>
      t.getF CLK_STAT_STATE = (if s.clk.lockedAt + Config.ticksPerSecond ≤ s.now then 5 else 1) ∧
        t.getF CLK_STAT_LOCK = 0 ∧ Counted CLK_CNT_LOSSES s t := by
  have hoff := spllLose_inLock tf hlock
  obtain ⟨hstate, hshown, hcount⟩ := spllDropped_shows tf s
  exact ⟨_, rfl, (hoff.getF (by decide)).trans hstate, (hoff.getF (by decide)).trans hshown,
    (hoff.getF (by decide)).trans hcount⟩

/-- A whole second without lock is counted (R106). -/
theorem holdSecond_counts {s : State} (hst : s.spll = 1 ∨ s.spll = 5) :
    Gives .holdSecond s fun t => Counted CLK_STAT_HOLD_S s t := by
  refine ⟨_, rfl, ?_⟩
  rw [if_pos (by simpa using hst)]
  exact counted_bump s _ (by decide) (by decide)

/-- A slew that has closed its phase is LOCKED (R107). -/
theorem slewDone_locks {s : State} (hst : s.spll = 4) :
    Gives .slewDone s fun t => t.getF CLK_STAT_STATE = 3 ∧ t.clk.slew = 0 := by
  refine ⟨_, rfl, ?_⟩
  rw [if_pos hst]
  dsimp only
  rw [(raise_offClk _ _ _).getF (by decide), (raise_offClk _ _ _).clk, getF_withClk]
  exact ⟨spllEnter_state _ (by decide), rfl⟩

/-- A bridge that ends without lock fades its programme (R104). -/
theorem programmeClockFade_fades {s : State} {p : Nat} (hlock : s.inLock = false) (hover : s.bridgeOver p = true)
    (hst : 2 ≤ s.getF (FOLp_STAT_STATE p)) (hnot : s.clk.faded.contains p = false) :
    Gives (.programmeClockFade p) s fun t => t.clk.faded = s.clk.faded ++ [p] := by
  refine ⟨_, rfl, ?_⟩
  rw [hlock, hover, hnot, decide_eq_true hst, if_pos (by decide)]

/-! ## SYSCNT and the reference clocks of the interfaces -/

/-- A read of CLK_SYSCNT_LO latches the count, of which 64 bits exist, in both registers (R111). -/
theorem syscntRead_latches {s : State} (hlive : s.liveRead .pcie CLK_SYSCNT_LO = true) :
    Gives .syscntRead s fun t =>
      (t.rd CLK_SYSCNT_LO).toNat = s.now % 2 ^ 32 ∧ (t.rd CLK_SYSCNT_HI).toNat = s.now / 2 ^ 32 := by
  refine ⟨_, rfl, ?_⟩
  dsimp only
  rw [hlive, if_pos rfl, readSyscnt, rd_wr_other _ _ _ _ (by decide), rd_wr_same, rd_wr_same, BitVec.toNat_ofNat,
    BitVec.toNat_ofNat]
  have hbound : s.now < 2 ^ 64 := s.syscnt.isLt
  exact ⟨rfl, Nat.mod_eq_of_lt (by omega)⟩

/-- A change of the PTP port's state leaves the sign of the Ethernet reference clock, even where the SPLL loses lock by it
(R87, R100). -/
theorem ptpEnter_eth (st : Nat) (s : State) : (ptpEnter st s).getF CLK_DOM_ETH = s.getF CLK_DOM_ETH := by
  unfold ptpEnter
  extract_lets s0 p0 s1 s2 p2 s3
  have h0 : s0.getF CLK_DOM_ETH = s.getF CLK_DOM_ETH := getF_setF_apart _ _ _ _ (by decide)
  have h1 : s1.getF CLK_DOM_ETH = s.getF CLK_DOM_ETH := by
    unfold s1
    split
    · exact (setPtp_getF _ _ _).trans h0
    · exact h0
  have h3 : s3.getF CLK_DOM_ETH = s.getF CLK_DOM_ETH :=
    ((raise_offClk _ _ _).getF (by decide)).trans ((getF_bump_apart _ _ _ (by decide)).trans h1)
  split
  · split
    · rw [getF_setF_apart _ _ _ _ (by decide)]
      split
      · exact (spllLose_getF _ s3 (by decide) (by decide)).trans h3
      · exact h3
    · exact h3
  · exact h1

/-- An Ethernet link that goes down leaves the sign of its reference clock (R87). -/
theorem portDown_eth (m : Nat) (s : State) : (portDown m s).getF CLK_DOM_ETH = s.getF CLK_DOM_ETH := by
  have hreg (f : Fld) (hf : f.reg = NET_PORTm_STAT m) (x : State) (n : Nat) :
      (x.setF f n).getF CLK_DOM_ETH = x.getF CLK_DOM_ETH :=
    getF_setF_reg _ _ _ _ (by rw [hf, NET_PORTm_STAT, show CLK_DOM_ETH.reg = 0x2024 from rfl]; omega)
  unfold portDown
  extract_lets s1 s2 s3
  have h1 : s1.getF CLK_DOM_ETH = s.getF CLK_DOM_ETH := hreg _ rfl _ _
  have h2 : s2.getF CLK_DOM_ETH = s.getF CLK_DOM_ETH :=
    ((raise_offClk _ _ _).getF (by decide)).trans ((hreg _ rfl _ _).trans h1)
  split
  · exact h1
  · split
    · exact (setPtp_getF _ _ _).trans ((ptpEnter_eth 4 s2).trans h2)
    · exact h2

/-- CLK_DOM shows whether a reference clock has edges, whatever becomes of the links on it (R90). -/
theorem refclkPresenceChange_shows {s : State} (hreset : s.pwr.inReset = false) (eth present : Bool) :
    Gives (.refclkPresenceChange eth present) s fun t =>
      t.flag (if eth then CLK_DOM_ETH else CLK_DOM_PCI) = present := by
  refine ⟨_, rfl, flag_of_getF ?_⟩
  rw [hreset, if_neg Bool.false_ne_true]
  dsimp only
  have hset (f : Fld) (hf : f.lo ≤ f.hi ∧ f.hi < 32) : (s.setB f present).getF f = present.toNat :=
    getF_setF_fits _ _ _ hf (present.toNat_lt.trans_le (Nat.pow_le_pow_right (by decide) (by omega) : 2 ^ 1 ≤ _))
  cases present with
  | true => cases eth <;> exact hset _ (by decide)
  | false =>
    cases eth with
    | true =>
      simp only [Bool.false_eq_true, if_false, if_true]
      rw [portDown_eth, portDown_eth, hset _ (by decide)]
    | false =>
      simp only [Bool.false_eq_true, if_false]
      rw [(linkSet_down _ 0 0).2.getF _ (by decide), (pciReset_within _).getF _ (by decide)]
      exact hset CLK_DOM_PCI (by decide)

/-! ## The statement -/

/-- Settles O1: each clause is what its command leaves in the block CLK, shown above for the command. -/
theorem clockCommands : Obligations.ClockCommands := by
  unfold Obligations.ClockCommands
  exact ⟨fun s m hr href hfrac hrange => spllCommit_pends hr (by simpa using href) (of_decide_eq_true hfrac) hrange,
    fun s i n m sd d hcommit => divCommit_takes (by simpa using hcommit),
    fun s m src hr hsrc => clkSrcChange_selects hr (of_decide_eq_true hsrc),
    fun s mhz hreset => refWindow_shows (by simpa using hreset) mhz,
    fun s delta hreset hst hqual => refQualify_acquires delta (by simpa using hreset) (by simpa using hst) hqual,
    fun s hst href => spllLock_declares (by simpa using hst) href,
    fun s hst => spllFail_frees (by simpa using hst),
    fun s tf hlock => spllLoss_counts hlock tf,
    fun s hst => holdSecond_counts (by simpa using hst),
    fun s hst => slewDone_locks (by simpa using hst),
    fun s p hlock hover hst hnot =>
      programmeClockFade_fades (by simpa using hlock) hover (of_decide_eq_true hst) (by simpa using hnot),
    fun s hlive => syscntRead_latches hlive,
    fun s eth present hreset => refclkPresenceChange_shows (by simpa using hreset) eth present⟩

end Sys2Proof.Machine
end

section
/-! SUPPORT. What the operations around the aerial inputs leave of the block RFE and of the inputs beside its registers
(R120 to R135, R292). -/

namespace Sys2Proof.Machine

/-! ## Fields -/

/-- A field of one bit that is set reads 1. -/
theorem getF_of_flag {s : State} {f : Fld} (hbit : f.hi = f.lo) (h : s.flag f = true) : s.getF f = 1 := by
  have hlt : s.getF f < 2 ^ (f.hi + 1 - f.lo) := bitsOf_lt _ _ _
  have hwidth : f.hi + 1 - f.lo = 1 := by omega
  have hne : s.getF f ≠ 0 := bne_iff_ne.mp h
  rw [hwidth] at hlt
  omega

/-- A field, given by its bits, leaves the fields beside it in its register. -/
theorem getF_setF_beside (s : State) (r hi lo hi' lo' n : Nat) (h : (lo ≤ hi ∧ hi < 32) ∧ (hi' < lo ∨ hi < lo')) :
    (s.setF ⟨r, hi, lo⟩ n).getF ⟨r, hi', lo'⟩ = s.getF ⟨r, hi', lo'⟩ := getF_setF_apart _ _ _ _ (.inr h)

/-- A field, given by its bits, reads back a value that fits it. -/
theorem getF_setF_bits_fit (s : State) (r hi lo n : Nat) (hf : lo ≤ hi ∧ hi < 32) (hn : n < 2 ^ (hi + 1 - lo)) :
    (s.setF ⟨r, hi, lo⟩ n).getF ⟨r, hi, lo⟩ = n := getF_setF_fits _ _ _ hf hn

/-- A pair of registers reads back the 64 bits written to it. -/
theorem get64_set64 (s : State) {lo hi : Nat} (v : Nat) (h : lo ≠ hi) : (s.set64 lo hi v).get64 lo hi = v % 2 ^ 64 := by
  rw [State.get64, State.set64, rd_wr_other _ _ _ _ h, rd_wr_same, rd_wr_same, BitVec.toNat_ofNat, BitVec.toNat_ofNat]
  omega

/-- A value within the range of w bits in two's complement is carried by them. -/
theorem signedOf_unsignedOf {w : Nat} {i : Int} (hw : 0 < w) (hlo : -2 ^ (w - 1) ≤ i) (hhi : i < 2 ^ (w - 1)) :
    signedOf w (unsignedOf w i) = i := by
  have hdouble : (2 : Nat) ^ w = 2 * 2 ^ (w - 1) := by rw [← pow_succ', Nat.sub_add_cancel hw]
  have hcast : ((2 ^ (w - 1) : Nat) : Int) = 2 ^ (w - 1) := by push_cast; rfl
  unfold signedOf unsignedOf
  rw [hdouble]
  rw [← hcast] at hlo hhi
  generalize 2 ^ (w - 1) = p at hlo hhi
  have hmod : i % ((2 * p : Nat) : Int) = if 0 ≤ i then i else i + (2 * p : Nat) := by
    split
    · exact Int.emod_eq_of_lt (by omega) (by omega)
    · rw [← Int.add_emod_right]
      exact Int.emod_eq_of_lt (by omega) (by omega)
  rw [hmod, Nat.mod_eq_of_lt (by omega)]
  omega

/-- A signed field reads back a value that fits it. -/
theorem getI_setI_fits (s : State) (f : Fld) {i : Int} (hf : f.lo ≤ f.hi ∧ f.hi < 32) (hlo : -2 ^ (f.hi - f.lo) ≤ i)
    (hhi : i < 2 ^ (f.hi - f.lo)) : (s.setI f i).getI f = i := by
  have hwidth : f.hi + 1 - f.lo - 1 = f.hi - f.lo := by omega
  rw [State.getI, State.setI, getF_setF_same _ _ _ hf.1 hf.2, signedOf, Nat.mod_mod, ← signedOf]
  exact signedOf_unsignedOf (by omega) (hwidth ▸ hlo) (hwidth ▸ hhi)

/-! ## Beside the inputs -/

/-- From s to u neither a register of the block RFE nor the inputs beside its registers change. -/
structure OffRfe (s u : State) : Prop where
  rd : ∀ a, 0x3000 ≤ a → a < 0x4000 → u.rd a = s.rd a
  inputs : u.inputs = s.inputs

section
variable {s u v : State}

theorem EventStep.inputs (h : EventStep s u) : u.inputs = s.inputs := (congrArg State.inputs h.eq :)
theorem EventStep.counting (h : EventStep s u) : u.counting = s.counting := (congrArg State.counting h.eq :)

theorem OffRfe.refl (s : State) : OffRfe s s := ⟨fun _ _ _ => rfl, rfl⟩

theorem OffRfe.trans (h : OffRfe s u) (hv : OffRfe u v) : OffRfe s v :=
  ⟨fun a hlo hhi => (hv.rd a hlo hhi).trans (h.rd a hlo hhi), hv.inputs.trans h.inputs⟩

theorem OffRfe.of_eq (h : OffRfe s u) (hr : v.regs = u.regs) (hi : v.inputs = u.inputs) : OffRfe s v :=
  ⟨fun a hlo hhi => (rd_of_regs hr a).trans (h.rd a hlo hhi), hi.trans h.inputs⟩

theorem OffRfe.wr (h : OffRfe s u) {a : Nat} (w : Word) (ha : a < 0x3000 ∨ 0x4000 ≤ a) : OffRfe s (u.wr a w) :=
  h.trans ⟨fun b _ _ => rd_wr_other u a b w (by omega), wr_inputs u a w⟩

theorem OffRfe.setF (h : OffRfe s u) (f : Fld) (n : Nat) (hf : f.reg < 0x3000 ∨ 0x4000 ≤ f.reg) : OffRfe s (u.setF f n) :=
  h.wr _ hf

theorem OffRfe.set64 (h : OffRfe s u) (lo hi n : Nat) (hlo : lo < 0x3000 ∨ 0x4000 ≤ lo) (hhi : hi < 0x3000 ∨ 0x4000 ≤ hi) :
    OffRfe s (u.set64 lo hi n) := (h.wr _ hlo).wr _ hhi

theorem OffRfe.ite {c : Prop} [Decidable c] (hu : OffRfe s u) (hv : OffRfe s v) : OffRfe s (if c then u else v) := by
  split
  · exact hu
  · exact hv

theorem OffRfe.getF (h : OffRfe s u) {f : Fld} (hf : 0x3000 ≤ f.reg ∧ f.reg < 0x4000) : u.getF f = s.getF f :=
  getF_of_rd (h.rd _ hf.1 hf.2)

theorem OffRfe.getI (h : OffRfe s u) {f : Fld} (hf : 0x3000 ≤ f.reg ∧ f.reg < 0x4000) : u.getI f = s.getI f :=
  congrArg (signedOf _) (h.getF hf)

theorem OffRfe.input (h : OffRfe s u) (a : Nat) : u.input a = s.input a := congrArg (sget inputNone · a) h.inputs

/-- Raising an event writes no register of the block and changes no input. -/
theorem raiseAt_offRfe (e i n : Nat) (s : State) : OffRfe s (raiseAt e i n s) :=
  ⟨fun a _ _ => raiseAt_rd e i n s a (by omega) (by omega) (by omega), (raiseAt_step e i n s).inputs⟩

end

/-! ## The snapshot writer -/

theorem snapTrigger_offRfe (n : Nat) (s : State) : OffRfe s (snapTrigger n s) :=
  ⟨fun a _ _ => snapTrigger_rd n s a (by omega), (snapTrigger_step n s).inputs⟩

theorem store_offRfe (a : Nat) (l : List Byte) (s : State) : OffRfe s (s.store a l) :=
  (OffRfe.refl s).of_eq (store_regs s a l) (store_inputs s a l)

theorem winAdmit_offRfe (k c len : Nat) (s : State) : OffRfe s (winAdmit k c len s) := (OffRfe.refl s).of_eq rfl rfl

/-- The snapshot writer takes its copy of a block beside the input (R292, R293). -/
theorem snapTap_offRfe (b : AdcBlock) (refused : Bool) (s : State) : OffRfe s (snapTap b refused s) := by
  unfold snapTap
  extract_lets st src takes s0 st' slots isB k per n a code off s1 taken full oldest s2 s3 s4
  have h0 : OffRfe s s0 := .ite (snapTrigger_offRfe _ s) (.refl s)
  have h1 : OffRfe s s1 := by
    refine .ite (OffRfe.trans ?_ (store_offRfe _ _ _)) (h0.trans ((winAdmit_offRfe _ _ _ _).trans (store_offRfe _ _ _)))
    refine h0.setF _ _ ?_
    split <;> decide
  have h3 : OffRfe s s3 := by
    have h2 : OffRfe s s2 := h1.setF MRW_SNP_OLDEST_SLOT _ (by decide)
    exact .ite (h2.setF MRW_SNP_STAT_FULL _ (by decide)) h2
  have h4 : OffRfe s s4 := h3.set64 MRW_SNP_FIRST_LO MRW_SNP_FIRST_HI _ (by decide) (by decide)
  clear_value s4
  exact .ite (.ite h0 (h4.of_eq rfl rfl)) h0

end Sys2Proof.Machine
end

section
/-! SUPPORT. The commands of the aerial inputs (R120 to R135), and the statement on them. -/

namespace Sys2Proof.Machine

/-! ## Gain -/

theorem gainSet_regs (a t : Nat) (g : Gain) (s : State) : (gainSet a t g s).regs = s.regs := by
  unfold gainSet
  split <;> rfl

/-- The shadow gain is active, with nothing pending and the change stamped (R120). -/
theorem gainTake_shows {a : Nat} (ha : a < 2) (t : Nat) (s : State) :
    (gainTake a t s).getF (RFEa_GSTAT_PEND a) = 0 ∧
      (gainTake a t s).getF (RFEa_GSTAT_LNA_ACT a) = s.getF (RFEa_GAIN_LNA a) ∧
      (gainTake a t s).getF (RFEa_GSTAT_ATT_ACT a) = s.getF (RFEa_GAIN_ATT a) ∧
      (gainTake a t s).get64 (RFEa_GCHG_LO a) (RFEa_GCHG_HI a) = t % 2 ^ 64 := by
  unfold gainTake
  extract_lets s1 s2
  have hrd (b : Nat) (hlo : 0x3000 ≤ b) (hhi : b < 0x4000) :
      (raiseAt evGainApplied a t (gainSet a t ⟨s.flag (RFEa_GAIN_LNA a), s.getF (RFEa_GAIN_ATT a)⟩ s2)).rd b = s2.rd b :=
    ((raiseAt_offRfe _ _ _ _).rd b hlo hhi).trans (rd_of_regs (gainSet_regs _ _ _ _) b)
  generalize raiseAt evGainApplied a t _ = u at hrd
  have hstat {f : Fld} (hf : f.reg = RFEa_GSTAT a) : u.getF f = s1.getF f := by
    have hreg : f.reg = 0x3104 + 0x100 * a := hf
    refine (getF_of_rd (hrd _ (by omega) (by omega))).trans (getF_of_rd (rd_set64_other _ _ _ _ _ ?_ ?_))
    · rw [RFEa_GCHG_LO]; omega
    · rw [RFEa_GCHG_HI]; omega
  have hlo : RFEa_GCHG_LO a = 0x3108 + 0x100 * a := rfl
  have hhi : RFEa_GCHG_HI a = 0x310c + 0x100 * a := rfl
  have h64 : u.get64 (RFEa_GCHG_LO a) (RFEa_GCHG_HI a) = s2.get64 (RFEa_GCHG_LO a) (RFEa_GCHG_HI a) := by
    rw [State.get64, State.get64, hrd _ (by omega) (by omega), hrd _ (by omega) (by omega)]
  refine ⟨(hstat rfl).trans (getF_setF_bits_fit _ _ _ _ _ (by decide) (by decide)), ?_, ?_,
    h64.trans (get64_set64 _ _ (by omega))⟩
  · exact (hstat rfl).trans <| (getF_setF_beside _ _ _ _ _ _ _ (by decide)).trans <|
      (getF_setF_beside _ _ _ _ _ _ _ (by decide)).trans (getF_setF_bits_fit _ _ _ _ _ (by decide) (bitsOf_lt _ 6 6))
  · exact (hstat rfl).trans <| (getF_setF_beside _ _ _ _ _ _ _ (by decide)).trans
      (getF_setF_bits_fit _ _ _ _ _ (by decide) (bitsOf_lt _ 5 0))

/-- At the boundary chosen the shadow gain becomes active (R120). -/
theorem gainApplied_takes {s : State} {a n : Nat} (ha : a < 2) (hpend : s.flag (RFEa_GSTAT_PEND a) = true)
    (hbound : (s.input a).boundary = n) :
    Gives (.gainApplied a n) s fun t =>
      t.getF (RFEa_GSTAT_PEND a) = 0 ∧ t.getF (RFEa_GSTAT_LNA_ACT a) = s.getF (RFEa_GAIN_LNA a) ∧
        t.getF (RFEa_GSTAT_ATT_ACT a) = s.getF (RFEa_GAIN_ATT a) ∧
        t.get64 (RFEa_GCHG_LO a) (RFEa_GCHG_HI a) = n % 2 ^ 64 := by
  refine ⟨_, rfl, ?_⟩
  have hgo : (decide (a < 2) && s.flag (RFEa_GSTAT_PEND a) && n == (s.input a).boundary) = true := by
    rw [decide_eq_true ha, hpend, hbound, beq_self_eq_true]
    rfl
  rw [if_pos hgo]
  have htake := gainTake_shows ha n (s.advance n)
  rwa [advance_getF, advance_getF] at htake

/-- An APPLY that nothing refuses is pending, then or already (R120, R121). -/
theorem gainApplyOne_pends {s : State} {a : Nat} (hrun : s.feRunning a = false)
    (hprot : (s.flag (RFEa_GSTAT_PROT a) && s.flag (RFEa_GAIN_LNA a) && !s.flag (RFEa_GSTAT_LNA_ACT a)) = false)
    (hcount : s.counting = true) (boundary : Nat) : (gainApplyOne a boundary s).getF (RFEa_GSTAT_PEND a) = 1 := by
  unfold gainApplyOne
  rw [hrun, hprot, hcount]
  simp only [Bool.false_eq_true, Bool.not_true, if_false]
  split
  case isTrue hpend => exact getF_of_flag rfl hpend
  case isFalse => exact (setInput_getF _ _ _ _).trans (getF_setF_bits_fit _ _ _ _ _ (by decide) (by decide))

/-- A write of APPLY0 alone leaves ANT_A pending (R120, R121). -/
theorem gainApply_pends_first {s : State} {m : Master} (hr : s.reaches m RFE_CMD = true) (hrun : s.feRunning 0 = false)
    (hprot : (s.flag (RFEa_GSTAT_PROT 0) && s.flag (RFEa_GAIN_LNA 0) && !s.flag (RFEa_GSTAT_LNA_ACT 0)) = false)
    (hcount : s.counting = true) :
    Gives (.gainApply m true false) s fun t => t.getF (RFEa_GSTAT_PEND 0) = 1 := by
  refine ⟨_, congrArg Host.Outcome.next (gated_reaches m RFE_CMD 1 (gainApply true false) s hr), ?_⟩
  have hread (f : Fld) (hf : f.reg < 0x68000) := (traceRegWrite_within m RFE_CMD 1 s).getF_below_obs hf
  have hflag (f : Fld) (hf : f.reg < 0x68000) : (traceRegWrite m RFE_CMD 1 s).flag f = s.flag f :=
    congrArg (· != 0) (hread f hf)
  have hcounts := (traceRegWrite_step m RFE_CMD 1 s).eventStep.counting.trans hcount
  generalize traceRegWrite m RFE_CMD 1 s = u at hread hflag hcounts
  refine gainApplyOne_pends (s := u.free.2) ?_ ?_ hcounts _
  · exact (congrArg (fun n => decide (n = 2)) (hread (CALn_STAT_STATE 0) (by decide))).trans hrun
  · show (u.flag _ && u.flag _ && !u.flag _) = false
    rwa [hflag _ (by decide), hflag _ (by decide), hflag _ (by decide)]

/-! ## Detectors -/

/-- The mean power of a window lies in the range of R119. -/
theorem Overload.avgDb_range (o : Overload) : -1000 ≤ o.avgDb ∧ o.avgDb ≤ 31 := by
  unfold Overload.avgDb clampInt
  split <;> omega

/-- The end of a window shows its mean power and whether it was a clip window (R124). -/
theorem ovlWindowEnd_shows {s : State} {a n clipped : Nat} {peak avg : Int} (ha : a < 2) (hreset : s.pwr.inReset = false)
    (hstage : 2 ≤ s.stage) (hcount : s.counting = true) (hend : n % Config.ticksPerMs = 0)
    (hmeets : (s.input a).ovl.meets clipped peak avg = true) :
    Gives (.ovlWindowEnd a n clipped peak avg) s fun t =>
      t.getI (RFEa_POWER_AVG a) = clampInt (-1000) 31 avg ∧
        (t.input a).clipPrev = decide (s.getF (RFEa_OVL_CFG_CLIP_N a) ≤ clipped) := by
  refine ⟨_, rfl, ?_⟩
  have hgo : ¬ (decide (2 ≤ a) || s.pwr.inReset || decide (s.stage < 2) || !s.counting ||
      n % Config.ticksPerMs != 0 || !(s.input a).ovl.meets clipped peak avg) = true := by
    rw [decide_eq_false (by omega), decide_eq_false (by omega : ¬ s.stage < 2), hreset, hcount, hend, hmeets]
    decide
  rw [if_neg hgo]
  extract_lets i isClip isPeak s1 s2 s3 s4 s5 c5 s5' s6
  have hcal : OffRfe s5 s5' := .ite ((OffRfe.refl s5).of_eq rfl rfl) (.refl s5)
  have hclip : OffRfe s5 s6 := .ite (hcal.trans (raiseAt_offRfe _ _ _ _)) hcal
  have hpeak : OffRfe s5 (if isPeak && !i.peakPrev then raiseAt evPeak a n s6 else s6) :=
    .ite (hclip.trans (raiseAt_offRfe _ _ _ _)) hclip
  have havg : s4.getI (RFEa_POWER_AVG a) = clampInt (-1000) 31 avg := by
    have hrange : -1000 ≤ avg ∧ avg ≤ 31 := by
      simp only [Overload.meets, Bool.and_eq_true, beq_iff_eq] at hmeets
      exact hmeets.2 ▸ (s.input a).ovl.avgDb_range
    have hclamp : clampInt (-1000) 31 avg = avg := by unfold clampInt; omega
    rw [hclamp]
    exact getI_setI_fits _ ⟨RFEa_POWER a, 15, 0⟩ (by simp) (by simp; omega) (by simp; omega)
  have hreg : RFEa_POWER a = 0x3114 + 0x100 * a := rfl
  refine ⟨((hpeak.getI (f := ⟨RFEa_POWER a, 15, 0⟩) (by dsimp only; omega)).trans ?_).trans havg, ?_⟩
  · exact congrArg (signedOf _) (setInput_getF _ _ _ _)
  · rw [hpeak.input, input_setInput_same]

/-! ## Protection -/

/-- State s with a trip of input a's protection shown, counted and raised. -/
def lnaTripped (a : Nat) (s : State) : State := raise evProtect a ((s.setF (RFEa_GSTAT_PROT a) 1).bump (RFEa_EVCNT_PROT a))

/-- State s with the LNA of input a taken out, in the active gain and in the shadow. -/
def lnaOut (a : Nat) (s : State) : State :=
  let s2 := (s.setF (RFEa_GSTAT_LNA_ACT a) 0).setF (RFEa_GAIN_LNA a) 0
  gainSet a s2.now ⟨false, s2.getF (RFEa_GSTAT_ATT_ACT a)⟩ s2

section
variable {a : Nat} {s : State}

theorem exec_lnaProtect (ha : a < 2) (hreset : s.pwr.inReset = false) (hstage : 2 ≤ s.stage)
    (hlna : s.flag (RFEa_GSTAT_LNA_ACT a) = true) :
    exec (.lnaProtect a) s = .next (if (if a = 0 then (lnaTripped a s).flag RFE_CTL_PROT_EN0
      else (lnaTripped a s).flag RFE_CTL_PROT_EN1) then lnaOut a (lnaTripped a s) else lnaTripped a s) := by
  show execLnaProtect a s = _
  have hgo : ¬ (decide (2 ≤ a) || s.pwr.inReset || decide (s.stage < 2) || !s.flag (RFEa_GSTAT_LNA_ACT a)) = true := by
    rw [decide_eq_false (by omega), decide_eq_false (by omega : ¬ s.stage < 2), hreset, hlna]
    decide
  unfold execLnaProtect
  rw [if_neg hgo]
  rfl

/-- A trip is shown and counted, and leaves the bits that enable the protection (R125). -/
theorem lnaTripped_shows (ha : a < 2) :
    (lnaTripped a s).getF ⟨RFEa_GSTAT a, 7, 7⟩ = 1 ∧ Counted ⟨RFEa_EVCNT a, 31, 24⟩ s (lnaTripped a s) ∧
      ∀ f : Fld, f.reg = RFE_CTL → (lnaTripped a s).flag f = s.flag f := by
  have hctl : RFE_CTL = 0x3000 := rfl
  have hstat : RFEa_GSTAT a = 0x3104 + 0x100 * a := rfl
  have hcnt : RFEa_EVCNT a = 0x311c + 0x100 * a := rfl
  have hraise : OffRfe ((s.setF (RFEa_GSTAT_PROT a) 1).bump (RFEa_EVCNT_PROT a)) (lnaTripped a s) := raiseAt_offRfe _ _ _ _
  have hbump (u : State) (f : Fld) (hf : f.reg ≠ RFEa_EVCNT a) : (u.bump (RFEa_EVCNT_PROT a)).getF f = u.getF f :=
    getF_bump_apart _ ⟨RFEa_EVCNT a, 31, 24⟩ _ (.inl hf)
  have hprot (f : Fld) (hf : f.reg ≠ RFEa_GSTAT a) : (s.setF (RFEa_GSTAT_PROT a) 1).getF f = s.getF f :=
    getF_setF_reg _ ⟨RFEa_GSTAT a, 7, 7⟩ _ _ hf
  refine ⟨?_, ?_, fun f hf => congrArg (· != 0) ?_⟩
  · exact (hraise.getF (by dsimp only; omega)).trans <| (hbump _ _ (by dsimp only; omega)).trans
      (getF_setF_bits_fit _ _ _ _ _ (by decide) (by decide))
  · have hcounted := counted_bump (s.setF (RFEa_GSTAT_PROT a) 1) ⟨RFEa_EVCNT a, 31, 24⟩ (by simp) (by simp)
    exact (hraise.getF (by dsimp only; omega)).trans (hcounted.of_getF (hprot _ (by dsimp only; omega)))
  · exact (hraise.getF (by omega)).trans ((hbump _ _ (by omega)).trans (hprot _ (by omega)))

theorem lnaOut_getF {f : Fld} (hf : f.reg ≠ RFEa_GAIN a) :
    (lnaOut a s).getF f = (s.setF (RFEa_GSTAT_LNA_ACT a) 0).getF f :=
  (getF_of_rd (rd_of_regs (gainSet_regs _ _ _ _) _)).trans (getF_setF_reg _ ⟨RFEa_GAIN a, 6, 6⟩ _ _ hf)

/-- The LNA is out, and the trip and the count of trips stay as they are. -/
theorem lnaOut_shows :
    (lnaOut a s).getF ⟨RFEa_GSTAT a, 6, 6⟩ = 0 ∧ (lnaOut a s).getF ⟨RFEa_GSTAT a, 7, 7⟩ = s.getF ⟨RFEa_GSTAT a, 7, 7⟩ ∧
      (lnaOut a s).getF ⟨RFEa_EVCNT a, 31, 24⟩ = s.getF ⟨RFEa_EVCNT a, 31, 24⟩ := by
  have hgain : RFEa_GAIN a = 0x3100 + 0x100 * a := rfl
  have hstat : RFEa_GSTAT a = 0x3104 + 0x100 * a := rfl
  have hcnt : RFEa_EVCNT a = 0x311c + 0x100 * a := rfl
  refine ⟨?_, ?_, ?_⟩
  all_goals refine (lnaOut_getF (by dsimp only; omega)).trans ?_
  · exact getF_setF_bits_fit _ _ _ _ _ (by decide) (by decide)
  · exact getF_setF_beside _ _ _ _ _ _ _ (by decide)
  · exact getF_setF_reg _ ⟨RFEa_GSTAT a, 6, 6⟩ _ _ (by dsimp only; omega)

/-- A trip of the protection is shown and counted, and takes the LNA out where it is enabled (R125). -/
theorem lnaProtect_trips (ha : a < 2) (hreset : s.pwr.inReset = false) (hstage : 2 ≤ s.stage)
    (hlna : s.flag (RFEa_GSTAT_LNA_ACT a) = true) :
    Gives (.lnaProtect a) s fun t =>
      t.getF (RFEa_GSTAT_PROT a) = 1 ∧ Counted (RFEa_EVCNT_PROT a) s t ∧
        (s.flag (if a = 0 then RFE_CTL_PROT_EN0 else RFE_CTL_PROT_EN1) = true → t.getF (RFEa_GSTAT_LNA_ACT a) = 0) := by
  refine ⟨_, exec_lnaProtect ha hreset hstage hlna, ?_⟩
  obtain ⟨hprot, hcounted, hctl⟩ := lnaTripped_shows (s := s) ha
  obtain ⟨hout, hprotKept, hcntKept⟩ := lnaOut_shows (a := a) (s := lnaTripped a s)
  have hen : (if a = 0 then (lnaTripped a s).flag RFE_CTL_PROT_EN0 else (lnaTripped a s).flag RFE_CTL_PROT_EN1) =
      s.flag (if a = 0 then RFE_CTL_PROT_EN0 else RFE_CTL_PROT_EN1) := by
    rw [hctl _ rfl, hctl _ rfl, apply_ite s.flag]
  rw [hen]
  generalize s.flag (if a = 0 then RFE_CTL_PROT_EN0 else RFE_CTL_PROT_EN1) = en
  cases en with
  | true => exact ⟨hprotKept.trans hprot, hcntKept.trans hcounted, fun _ => hout⟩
  | false => exact ⟨hprot, hcounted, fun hon => absurd hon Bool.false_ne_true⟩

end

/-! ## Blocks -/

/-- From s to u input a stays at the same place of its stream: the same block comes next, with the same number. -/
structure SamePlace (a : Nat) (s u : State) : Prop where
  seq : (u.input a).seq = (s.input a).seq
  next : (u.input a).next = (s.input a).next

section
variable {a : Nat} {s u v : State}

theorem SamePlace.refl (a : Nat) (s : State) : SamePlace a s s := ⟨rfl, rfl⟩

theorem SamePlace.trans (h : SamePlace a s u) (hv : SamePlace a u v) : SamePlace a s v :=
  ⟨hv.seq.trans h.seq, hv.next.trans h.next⟩

theorem SamePlace.of_inputs (h : SamePlace a s u) (hi : v.inputs = u.inputs) : SamePlace a s v :=
  h.trans ⟨congrArg (fun l => (sget inputNone l a).seq) hi, congrArg (fun l => (sget inputNone l a).next) hi⟩

theorem SamePlace.setF (h : SamePlace a s u) (f : Fld) (n : Nat) : SamePlace a s (u.setF f n) :=
  h.of_inputs (setF_inputs u f n)

/-- The input that is put in place counts, not the state that takes it. -/
theorem SamePlace.setInput {i : Input} (u : State) (hseq : i.seq = (s.input a).seq := by rfl)
    (hnext : i.next = (s.input a).next := by rfl) : SamePlace a s (u.setInput a i) := by
  refine ⟨?_, ?_⟩
  · rw [input_setInput_same, hseq]
  · rw [input_setInput_same, hnext]

theorem leekMiss_place (a ts : Nat) (s : State) : SamePlace a s (leekMiss a ts s) := .setInput _

theorem ebufRead_place (a n : Nat) (s : State) : SamePlace a s (ebufRead a n s) := by
  unfold ebufRead
  extract_lets i
  split
  · exact .refl a s
  · exact .setInput s

/-- A full buffer discards its oldest block whole (R133, R134). -/
theorem ebufPush_place (a : Nat) (b : AdcBlock) (s : State) : SamePlace a s (ebufPush a b s) := by
  unfold ebufPush
  extract_lets i s1 fill
  have h1 : SamePlace a s s1 := by
    unfold s1
    split
    next old rest _ =>
      split
      · extract_lets s0
        have hdrop : SamePlace a s s0 := SamePlace.trans (.setInput _) (leekMiss_place a old.ts _)
        split
        · exact hdrop.of_inputs (raise_step _ _ _).inputs
        · exact hdrop
      · exact .setInput s
    · exact .setInput s
  exact (h1.setF _ _).setF _ _

theorem ebufClear_place (a : Nat) (new : List AdcBlock) (s : State) : SamePlace a s (ebufClear a new s) :=
  SamePlace.setF (.setInput s) _ _

theorem orxNote_place (a : Nat) (b : AdcBlock) (s : State) : SamePlace a s (orxNote b s) := (SamePlace.refl a s).of_inputs rfl

/-- Input a has given a block: the next one starts 64 samples on, with the next number (R127, R128). -/
theorem adcBlockArrival_counts {s : State} {a ts : Nat} {samples : List Nat} (n : Nat) (bad : Bool) (ha : a < 3)
    (hreset : s.pwr.inReset = false) (hcount : s.counting = true) (hlen : samples.length = 64)
    (hnext : (s.input a).next = ts) :
    Gives (.adcBlockArrival a ts samples n bad) s fun t =>
      (t.input a).seq = ((s.input a).seq + 1) % 65536 ∧ (t.input a).next = ts + 64 := by
  refine ⟨_, rfl, ?_⟩
  have hgo : ¬ (decide (3 ≤ a) || s.pwr.inReset || !s.counting || samples.length != 64 || ts != (s.input a).next) = true := by
    rw [decide_eq_false (by omega), hreset, hcount, hlen, hnext, bne_self_eq_false, bne_self_eq_false]
    decide
  rw [if_neg hgo]
  extract_lets s0 b i s1
  have hinput : s0.input a = s.input a := congrArg (sget inputNone · a) (advance_inputs _ _)
  have htaken : (s1.input a).seq = ((s.input a).seq + 1) % 65536 ∧ (s1.input a).next = ts + 64 := by
    rw [(snapTap_offRfe _ _ _).input, input_setInput_same]
    exact ⟨congrArg (fun i => (Input.seq i + 1) % 65536) hinput, rfl⟩
  have hkept : SamePlace a s1 (if s1.leekTakes a then ebufPush a b (ebufRead a n s1)
      else if a < 2 then ebufClear a [b] s1 else orxNote b s1) := by
    split
    · exact (ebufRead_place _ _ _).trans (ebufPush_place _ _ _)
    split
    · exact ebufClear_place _ _ _
    · exact orxNote_place _ _ _
  exact ⟨hkept.seq.trans htaken.1, hkept.next.trans htaken.2⟩

end

/-! ## The statement -/

/-- Settles O3: each clause is what its command leaves of an aerial input, shown above for the command. -/
theorem aerialInputs : Obligations.AerialInputs := by
  unfold Obligations.AerialInputs
  exact ⟨fun s m hr hrun hprot hcount =>
      gainApply_pends_first hr (by simpa using hrun) ((Bool.not_eq_true' _).mp hprot) hcount,
    fun s a n ha hpend hbound => gainApplied_takes (of_decide_eq_true ha) hpend (eq_of_beq hbound),
    fun s a n clipped peak avg ha hreset hstage hcount hend hmeets =>
      ovlWindowEnd_shows (of_decide_eq_true ha) (by simpa using hreset) (of_decide_eq_true hstage) hcount
        (eq_of_beq hend) hmeets,
    fun s a ha hreset hstage hlna =>
      lnaProtect_trips (of_decide_eq_true ha) (by simpa using hreset) (of_decide_eq_true hstage) hlna,
    fun s a ts samples n bad ha hreset hcount hlen hnext =>
      adcBlockArrival_counts n bad (of_decide_eq_true ha) (by simpa using hreset) hcount (eq_of_beq hlen) (eq_of_beq hnext)⟩

end Sys2Proof.Machine
end

section
/-! SUPPORT. What an entry of a pod's state shows and leaves (R149, R150): the fields it writes, the pods beside their
registers, and what the displays and events around it leave. -/

namespace Sys2Proof.Machine

/-! ## Fields that a change writes -/

/-- Field g shares no bit with field f. -/
abbrev Fld.Apart (f g : Fld) : Prop :=
  g.reg ≠ f.reg ∨ (f.lo ≤ f.hi ∧ f.hi < 32) ∧ (g.hi < f.lo ∨ f.hi < g.lo)

/-- From s to u no field changes but these and those in the areas. -/
def Writes (F : List Fld) (l : List (Nat × Nat)) (s u : State) : Prop :=
  ∀ f : Fld, (∀ g ∈ F, g.Apart f) → (∀ p ∈ l, f.reg < p.1 ∨ p.2 ≤ f.reg) → u.getF f = s.getF f

section
variable {F G : List Fld} {l : List (Nat × Nat)} {s u v : State}

theorem Writes.refl (F : List Fld) (l : List (Nat × Nat)) (s : State) : Writes F l s s := fun _ _ _ => rfl

theorem Writes.trans (h : Writes F l s u) (hv : Writes F l u v) : Writes F l s v :=
  fun f hF hl => (hv f hF hl).trans (h f hF hl)

theorem Writes.mono (h : Writes G l s u) (hG : G ⊆ F) : Writes F l s u := fun f hF hl => h f (fun g hg => hF g (hG hg)) hl

theorem Writes.setF (h : Writes F l s u) {f : Fld} (n : Nat) (hf : f ∈ F) : Writes F l s (u.setF f n) :=
  fun g hF hl => (getF_setF_apart u f g n (hF f hf)).trans (h g hF hl)

theorem Writes.setB (h : Writes F l s u) {f : Fld} (b : Bool) (hf : f ∈ F) : Writes F l s (u.setB f b) := h.setF _ hf

theorem Writes.of_regs (h : Writes F l s u) (hr : v.regs = u.regs) : Writes F l s v :=
  fun f hF hl => (getF_of_rd (rd_of_regs hr f.reg)).trans (h f hF hl)

theorem Writes.forEach {n : List Nat} {c : Nat → State → State} (hc : ∀ k ∈ n, ∀ x, Writes F l x (c k x)) (s : State) :
    Writes F l s (forEach n c s) := forEach_rel (Writes.refl F l) Writes.trans hc s

theorem Within.writes (h : Within l s u) : Writes F l s u := fun f _ hl => h.getF f hl

end

/-! ## Parts that events and traces leave -/

section
variable {s u : State}

theorem EventStep.fab (h : EventStep s u) : u.fab = s.fab := (congrArg State.fab h.eq :)
theorem EventStep.mrw (h : EventStep s u) : u.mrw = s.mrw := (congrArg State.mrw h.eq :)
theorem EventStep.paths (h : EventStep s u) : u.paths = s.paths := (congrArg State.paths h.eq :)
theorem TraceStep.fab (h : TraceStep s u) : u.fab = s.fab := h.eventStep.fab
theorem EventStep.cores (h : EventStep s u) : u.cores = s.cores := (congrArg State.cores h.eq :)
theorem TraceStep.cores (h : TraceStep s u) : u.cores = s.cores := h.eventStep.cores
theorem TraceStep.mrw (h : TraceStep s u) : u.mrw = s.mrw := h.eventStep.mrw

end

theorem pod_of_fab {s u : State} (h : u.fab = s.fab) (p : Nat) : u.pod p = s.pod p :=
  congrArg (fun x : Fabric => sget podNone x.pods p) h

/-! ## The displays -/

/-- The fields in which the fabric shows how many pods are out, which Leeks, and what is being remapped (R135, R168,
R568). -/
def podShown : List Fld :=
  [FAB_STAT_NOT_ACTIVE, FAB_STAT_SPARES, REL_STAT_SPARES, REL_STAT_BUSY, REL_STAT_ISOL, FAB_LKa_STAT_VOIDING 0,
    FAB_LKa_STAT_VOIDING 1, RFEa_EBUF_FILL 0, RFEa_EBUF_FILL 1]

/-- Neither a display of the fabric nor an event writes field f. -/
abbrev Fld.Steady (f : Fld) : Prop :=
  (∀ g ∈ podShown, g.Apart f) ∧ ∀ p ∈ eventAreas, f.reg < p.1 ∨ p.2 ≤ f.reg

/-- The registers of pods, logical and physical. -/
theorem steady_of_podReg {f : Fld} (hlo : 0x5000 ≤ f.reg) (hhi : f.reg < 0x7000) : f.Steady := by
  constructor
  · have hout : ∀ g ∈ podShown, g.reg < 0x5000 ∨ 0x7000 ≤ g.reg := by decide
    exact fun g hg => .inl (by have := hout g hg; omega)
  · have hout : ∀ p ∈ eventAreas, p.2 ≤ 0x5000 ∨ 0x7000 ≤ p.1 := by decide
    exact fun p hp => by have := hout p hp; omega

theorem Writes.steady {s u : State} (h : Writes podShown eventAreas s u) {f : Fld} (hf : f.Steady) : u.getF f = s.getF f :=
  h f hf.1 hf.2

/-- The Leeks whose outputs are VOID are shown. -/
def leeksShow (s : State) : State :=
  forEach [0, 1] (fun a s => s.setB (FAB_LKa_STAT_VOIDING a) (s.podsOut 0 a)) s

theorem leeksShow_writes (s : State) : Writes podShown eventAreas s (leeksShow s) := by
  refine Writes.forEach (fun a ha x => ?_) s
  obtain rfl | rfl : a = 0 ∨ a = 1 := by simpa using ha
  · exact (Writes.refl _ _ x).setB _ (by decide)
  · exact (Writes.refl _ _ x).setB _ (by decide)

theorem leeksShow_fab (s : State) : (leeksShow s).fab = s.fab :=
  forEach_rel (R := fun s u => u.fab = s.fab) (fun _ => rfl) (fun h hv => hv.trans h) (fun _ _ x => setB_fab x _ _) s

theorem remapShow_writes (s : State) : Writes podShown eventAreas s (remapShow s) := (Writes.refl _ _ s).setB _ (by decide)

theorem remapShow_fab (s : State) : (remapShow s).fab = s.fab := setB_fab _ _ _

theorem fabShow_writes (s : State) : Writes podShown eventAreas s (fabShow s) := by
  unfold fabShow
  extract_lets n k s1 s2
  have h1 : Writes podShown eventAreas s s1 :=
    (((Writes.refl _ _ s).setF _ (by decide)).setF _ (by decide)).setF _ (by decide)
  have h2 : Writes podShown eventAreas s s2 := (h1.setF _ (by decide)).trans (remapShow_writes _)
  exact h2.trans (leeksShow_writes s2)

theorem fabShow_fab (s : State) : (fabShow s).fab = s.fab := by
  unfold fabShow
  extract_lets n k s1 s2
  have h1 : s1.fab = s.fab := by simp only [s1, setF_fab]
  have h2 : s2.fab = s.fab := (remapShow_fab _).trans ((setF_fab _ _ _).trans h1)
  exact (leeksShow_fab s2).trans h2

theorem leekVoid_regs (a : Nat) (b : Bool) (s : State) : (leekVoid a b s).regs = s.regs := by
  unfold leekVoid
  dsimp only
  split
  · rfl
  · split <;> rfl

theorem leekVoid_fab (a : Nat) (b : Bool) (s : State) : (leekVoid a b s).fab = s.fab := by
  unfold leekVoid
  dsimp only
  split
  · rfl
  · split <;> rfl

theorem ebufClear_writes {a : Nat} (ha : a < 2) (l : List AdcBlock) (s : State) :
    Writes podShown eventAreas s (ebufClear a l s) := by
  have hshown : RFEa_EBUF_FILL a ∈ podShown := by
    obtain rfl | rfl : a = 0 ∨ a = 1 := by omega
    · decide
    · decide
  unfold ebufClear
  exact ((Writes.refl _ _ s).of_regs rfl).setF _ hshown

/-- The Leeks that a pod carries. -/
theorem podLeeks_writes (p : Nat) (s : State) : Writes podShown eventAreas s (podLeeks p s) := by
  unfold podLeeks
  refine Writes.forEach (fun a ha x => ?_) s
  obtain ⟨r, hr, rfl⟩ := List.mem_map.mp ha
  have hinst : r.inst < 2 := by
    have hfilter := (List.mem_filter.mp hr).2
    simp only [Bool.and_eq_true, decide_eq_true_eq] at hfilter
    exact hfilter.2
  have hvoid := (Writes.refl podShown eventAreas x).of_regs (leekVoid_regs r.inst (x.podsOut 0 r.inst) x)
  dsimp only
  split
  · exact hvoid
  · exact hvoid.trans (ebufClear_writes hinst _ _)

theorem podLeeks_fab (p : Nat) (s : State) : (podLeeks p s).fab = s.fab := by
  unfold podLeeks
  refine forEach_rel (R := fun s u => u.fab = s.fab) (fun _ => rfl) (fun h hv => hv.trans h) (fun a _ x => ?_) s
  dsimp only
  split
  · exact leekVoid_fab _ _ _
  · exact leekVoid_fab _ _ _

/-! ## The entry of a state -/

/-- What the entry of a state notes of pod p beside its registers: SYSCNT at its entry to ACTIVE and to DRAINING. -/
def podStamp (p st n : Nat) (s : State) : State :=
  if st = 0 then s.setPod p { s.pod p with activeAt := n }
  else if st = 1 then s.setPod p { s.pod p with drainAt := n } else s

/-- Pod p in a new state, traced, before events and displays follow. -/
def podTurned (p st : Nat) (s : State) : State :=
  (trace 1 (16 * s.podState p + st) p (s.getF (FAB_LPp_MAP_PPOD p)) s.now s).setF (FAB_LPp_MAP_STATE p) st

/-- The event of the entry. -/
def podRaised (p st : Nat) (s : State) : State :=
  if st = 2 then raise evPodIsolated p s else if st = 0 then raise evPodActive p s else s

theorem podEnter_eq (p st : Nat) (s : State) :
    podEnter p st s = fabShow (podLeeks p (podRaised p st (podStamp p st s.now (podTurned p st s)))) := by
  unfold podEnter
  extract_lets old s1 v s2
  have hs2 : s2 = podRaised p st (podStamp p st s.now s1) := by
    unfold s2 podRaised podStamp
    by_cases h2 : st = 2
    · rw [if_pos h2, if_pos h2, if_neg (by omega), if_neg (by omega)]
    by_cases h0 : st = 0
    · rw [if_neg h2, if_pos h0, if_neg h2, if_pos h0, if_pos h0]
    · rw [if_neg h2, if_neg h0, if_neg h2, if_neg h0, if_neg h0]
  rw [hs2]
  rfl

theorem podRaised_step (p st : Nat) (s : State) : EventStep s (podRaised p st s) := by
  unfold podRaised
  split
  · exact raise_step _ _ _
  split
  · exact raise_step _ _ _
  · exact .refl s

theorem podRaised_within (p st : Nat) (s : State) : Within eventAreas s (podRaised p st s) := by
  unfold podRaised
  split
  · exact raise_within _ _ _
  split
  · exact raise_within _ _ _
  · exact .refl _ s

theorem podStamp_regs (p st n : Nat) (s : State) : (podStamp p st n s).regs = s.regs := by
  unfold podStamp
  split
  · rfl
  · split <;> rfl

theorem podTurned_fab (p st : Nat) (s : State) : (podTurned p st s).fab = s.fab :=
  (setF_fab _ _ _).trans (trace_step _ _ _ _ _ s).fab

theorem trace_within (k i src d n : Nat) (s : State) : Within eventAreas s (trace k i src d n s) :=
  fun a ha => trace_rd k i src d n s a (ha (0x68000, 0x70000) (by decide))

/-- What follows the entry of a state writes nothing but the displays and events. -/
theorem podEnter_after (p st : Nat) (s : State) : Writes podShown eventAreas (podTurned p st s) (podEnter p st s) := by
  rw [podEnter_eq]
  exact ((((Writes.refl _ _ _).of_regs (podStamp_regs p st _ _)).trans (podRaised_within p st _).writes).trans
    (podLeeks_writes p _)).trans (fabShow_writes _)

/-- A field that neither shows the fabric nor an event, nor the state of pod p, is left by the entry of a state. -/
theorem podEnter_getF (p st : Nat) (s : State) {f : Fld} (hf : f.Steady) (hp : (FAB_LPp_MAP_STATE p).Apart f) :
    (podEnter p st s).getF f = s.getF f :=
  ((podEnter_after p st s).steady hf).trans
    ((getF_setF_apart _ _ f st hp).trans ((trace_within _ _ _ _ _ s).getF f hf.2))

/-- The pod is in the state it entered. -/
theorem podEnter_state {p st : Nat} (hp : p < 256) (hst : st < 4) (s : State) : (podEnter p st s).podState p = st := by
  have hsteady : (FAB_LPp_MAP_STATE p).Steady :=
    steady_of_podReg (by simp only [FAB_LPp_MAP_STATE, FAB_LPp_MAP]; omega) (by simp only [FAB_LPp_MAP_STATE, FAB_LPp_MAP]; omega)
  exact ((podEnter_after p st s).steady hsteady).trans (getF_setF_fits _ _ _ (by simp [FAB_LPp_MAP_STATE]) hst)

theorem podEnter_fab (p st : Nat) (s : State) : (podEnter p st s).fab = (podStamp p st s.now (podTurned p st s)).fab := by
  rw [podEnter_eq, fabShow_fab, podLeeks_fab, (podRaised_step p st _).fab]

/-- The entry of a state leaves every pod beside its registers but for the two stamps of its own. -/
theorem podEnter_pod (p st : Nat) (s : State) :
    ∃ a d, ∀ j, (podEnter p st s).pod j = if j = p then { s.pod p with activeAt := a, drainAt := d } else s.pod j := by
  have hturned (j : Nat) : (podTurned p st s).pod j = s.pod j := pod_of_fab (podTurned_fab p st s) j
  simp only [pod_of_fab (podEnter_fab p st s)]
  unfold podStamp
  split
  · exact ⟨_, _, fun j => by rw [pod_setPod, hturned, hturned]⟩
  split
  · exact ⟨_, _, fun j => by rw [pod_setPod, hturned, hturned]⟩
  · refine ⟨(s.pod p).activeAt, (s.pod p).drainAt, fun j => ?_⟩
    rw [hturned]
    split
    case isTrue h => rw [h]
    case isFalse => rfl

theorem podEnter_why (p st : Nat) (s : State) (j : Nat) : ((podEnter p st s).pod j).why = (s.pod j).why := by
  obtain ⟨a, d, h⟩ := podEnter_pod p st s
  rw [h]
  split
  case isTrue h => rw [h]
  case isFalse => rfl

theorem podStamp_pr (p st n : Nat) (s : State) : (podStamp p st n s).fab.pr = s.fab.pr := by
  unfold podStamp
  split
  · rfl
  · split <;> rfl

theorem podEnter_pr (p st : Nat) (s : State) : (podEnter p st s).fab.pr = s.fab.pr := by
  rw [podEnter_fab, podStamp_pr, podTurned_fab]

end Sys2Proof.Machine
end

section
/-! SUPPORT. What the service link leaves when its pod is remapped (R32, R493, R508): registers outside its block and the
fabric beside its registers. -/

namespace Sys2Proof.Machine

section
variable (s : State)

theorem slEnter_fab (st : Nat) : (slEnter st s).fab = s.fab := by
  unfold slEnter
  simp only [setF_fab]

theorem slUnlock_fab : (slUnlock s).fab = s.fab := by
  unfold slUnlock
  simp only [setF_fab]

theorem slRetune_fab (c : Nat) : (slRetune c s).fab = s.fab := by
  unfold slRetune
  simp only [slUnlock_fab, setF_fab]

theorem slTune_fab (goal c : Nat) : (slTune goal c s).fab = s.fab := by
  unfold slTune
  extract_lets v s1 w s2
  have h1 : s1.fab = s.fab := rfl
  split
  · exact (slEnter_fab _ _).trans h1
  split
  · exact h1
  · refine ((slEnter_fab _ _).trans (slRetune_fab _ _)).trans ?_
    unfold s2
    split
    · exact h1
    · exact h1

theorem slReturn_fab (ret c : Nat) : (slReturn ret c s).fab = s.fab := by
  unfold slReturn
  split
  · exact slTune_fab s _ _
  split
  · exact slTune_fab s _ _
  · exact slTune_fab s _ _

theorem slHopNext_fab : (slHopNext s).fab = s.fab := setF_fab _ _ _

theorem slTxOver_fab : (slTxOver s).fab = s.fab := by
  have hhop : (if s.slk.txHop then slHopNext s else s).fab = s.fab := by
    split
    · exact slHopNext_fab s
    · rfl
  exact hhop

theorem slTxEnd_fab : (slTxEnd s).fab = s.fab := (slReturn_fab _ _ _).trans (slTxOver_fab s)

theorem slDutyShow_fab : (slDutyShow s).fab = s.fab :=
  forEach_rel (R := fun s u => u.fab = s.fab) (fun _ => rfl) (fun h hv => hv.trans h) (fun _ _ x => setF_fab x _ _) s

theorem slDutyAdd_fab (c h : Nat) : (slDutyAdd c h s).fab = s.fab := by
  unfold slDutyAdd
  split
  · rfl
  · exact slDutyShow_fab _

theorem slCut_fab : (slCut s).fab = s.fab := by
  unfold slCut
  exact (slDutyAdd_fab _ _ _).trans (setF_fab s _ _)

theorem slTxAbort_fab (cause : Nat) : (slTxAbort cause s).fab = s.fab := by
  unfold slTxAbort
  extract_lets s1
  have h1 : s1.fab = s.fab := by simp only [s1, bump_fab, setF_fab]
  split
  · rw [(raise_step _ _ _).fab, slCut_fab, h1]
  · exact h1

/-- A reception under way ends: the hop index moves on where its command asked for it. -/
def slRxOver (s : State) : State :=
  let s1 := if s.slk.rxHop then slHopNext s else s
  { s1 with slk := { s1.slk with rx := none, rxHop := false, endAt := some s.now } }

theorem slRxOver_frame : Frame slkAreas s (slRxOver s) := by
  unfold slRxOver
  dsimp only
  refine Frame.slk ?_ _
  split
  · exact slHopNext_frame s
  · exact .refl _ s

theorem slRxOver_fab : (slRxOver s).fab = s.fab := by
  have hhop : (if s.slk.rxHop then slHopNext s else s).fab = s.fab := by
    split
    · exact slHopNext_fab s
    · rfl
  exact hhop

/-- Where no transmission waits the link returns from a reception. -/
theorem slRxEnd_eq {s : State} (h : s.slState ≠ 5) :
    slRxEnd s = slReturn (s.getF SLK_RXCFG_RET_RX) (s.getF SLK_STAT_CH) (slRxOver s) := by
  unfold slRxEnd
  dsimp only
  rw [if_neg h]
  rfl

/-- A reception is counted as aborted by the remap. -/
def slRxCut (s : State) : State := (s.setF SLK_TXSTAT_ACAUSE 5).bump SLK_CNT3_RXABORT

theorem slRxCut_frame : Frame slkAreas s (slRxCut s) :=
  ((Frame.refl slkAreas s).setF SLK_TXSTAT_ACAUSE 5 (by decide)).setF SLK_CNT3_RXABORT _ (by decide)

theorem slRxCut_fab : (slRxCut s).fab = s.fab := by
  unfold slRxCut
  simp only [bump_fab, setF_fab]

theorem slRxCut_state : (slRxCut s).slState = s.slState :=
  (getF_bump_apart _ SLK_CNT3_RXABORT _ (by decide)).trans (getF_setF_apart s SLK_TXSTAT_ACAUSE _ _ (by decide))

/-- A remap of the link's pod changes registers of its block, CLK_DOM and events, and nothing of the fabric. -/
theorem slRemap_leaves : Frame slkAreas s (slRemap s) ∧ (slRemap s).fab = s.fab := by
  unfold slRemap
  split
  · exact ⟨(slTxAbort_frame s 5).trans (slTxEnd_frame _), by rw [slTxEnd_fab, slTxAbort_fab]⟩
  split
  case isTrue h =>
    have hrx : (slRxCut s).slState ≠ 5 := by rw [slRxCut_state]; omega
    rw [show (s.setF SLK_TXSTAT_ACAUSE 5).bump SLK_CNT3_RXABORT = slRxCut s from rfl, slRxEnd_eq hrx]
    exact ⟨((slRxCut_frame s).trans (slRxOver_frame _)).trans (slReturn_frame _ _ _),
      by rw [slReturn_fab, slRxOver_fab, slRxCut_fab]⟩
  case isFalse => exact ⟨.refl _ s, rfl⟩

end

end Sys2Proof.Machine
end

section
/-! SUPPORT. What a faulted pod leaves (R555 to R557): its record, its recovery and the start of its load. -/

namespace Sys2Proof.Machine

theorem podConf_lt {s : State} {p : Nat} (h : s.podConf p = true) : p < 256 := by
  simp only [State.podConf, Bool.and_eq_true, decide_eq_true_eq] at h
  exact h.1

/-- The register of pod p whose fields are its state, marks and physical pod. -/
theorem map_reg (p : Nat) : (FAB_LPp_MAP_STATE p).reg = 0x5000 + 0x10 * p := rfl

/-- A field outside the pods' registers lies apart from the state of pod p. -/
theorem mapState_apart {p : Nat} (hp : p < 256) {f : Fld} (hf : f.reg < 0x5000 ∨ 0x6000 ≤ f.reg) :
    (FAB_LPp_MAP_STATE p).Apart f := .inl (by rw [map_reg]; omega)

/-! ## The start of a load -/

/-- The physical pods of a load are named: a spare is taken and the pod's own retired, or the pod keeps its own. -/
def podPlace (p : Nat) (s : State) : State :=
  match s.spares with
  | q :: _ => (s.wr (FAB_PPq_STAT (s.getF (FAB_LPp_MAP_PPOD p))) 0x80000000).wr (FAB_PPq_STAT q) (BitVec.ofNat 32 p)
  | [] => s.wr (FAB_PPq_STAT (s.getF (FAB_LPp_MAP_PPOD p))) (BitVec.ofNat 32 p)

/-- The pod as its load starts: a remap onto the lowest spare, or a reload in place. -/
def podLoading (p : Nat) (s : State) : Pod :=
  { s.pod p with why := if s.spares = [] then 4 else 3, wait := false, loadedAt := none, spare := s.spares.head? }

theorem podLoad_eq (p : Nat) (s : State) : podLoad p s = podEnter p 3 ((podPlace p s).setPod p (podLoading p s)) := by
  unfold podLoad podPlace podLoading
  cases s.spares with
  | nil => rfl
  | cons q t => rfl

theorem podPlace_fab (p : Nat) (s : State) : (podPlace p s).fab = s.fab := by
  unfold podPlace
  split
  · rfl
  · rfl

theorem podPlace_rd (p : Nat) (s : State) {b : Nat} (hb : b < 0x6000) : (podPlace p s).rd b = s.rd b := by
  have hne (q : Nat) : b ≠ FAB_PPq_STAT q := by unfold FAB_PPq_STAT; omega
  unfold podPlace
  split
  · rw [rd_wr_other _ _ _ _ (hne _), rd_wr_other _ _ _ _ (hne _)]
  · exact rd_wr_other _ _ _ _ (hne _)

theorem podLoad_state {p : Nat} (hp : p < 256) (s : State) : (podLoad p s).podState p = 3 := by
  rw [podLoad_eq]
  exact podEnter_state hp (by decide) _

theorem podLoad_why (p : Nat) (s : State) : ((podLoad p s).pod p).why = 3 ∨ ((podLoad p s).pod p).why = 4 := by
  rw [podLoad_eq, podEnter_why, pod_setPod_same, podLoading]
  dsimp only
  split
  · exact .inr rfl
  · exact .inl rfl

/-! ## A fault -/

/-- What moves a pod after a fault, and whether it waits: the rest of it stays. -/
theorem podRecover_eq (p : Nat) (s : State) :
    ∃ w b, podRecover p s = s.setPod p { s.pod p with why := w, wait := b } := by
  unfold podRecover
  extract_lets v again
  split
  · exact ⟨0, v.wait, rfl⟩
  · exact ⟨_, _, rfl⟩

theorem podRecover_regs (p : Nat) (s : State) : (podRecover p s).regs = s.regs := by
  obtain ⟨w, b, h⟩ := podRecover_eq p s
  rw [h]
  rfl

/-- The record of a fault of pod p before its event is raised (R555). -/
def podNoted (p cause q : Nat) (s : State) : State :=
  ((((s.setF REL_PODFLT_CAUSE cause).setF REL_PODFLT_LPOD p).setF REL_PODFLT_PPOD q).bump REL_CNT0_FAULTS).setF
    (FAB_LPp_MAP_FAULT p) 1

theorem podRecord_eq (p cause q : Nat) (s : State) : podRecord p cause q s = raise evPodFault p (podNoted p cause q s) := rfl

section
variable {p cause : Nat} (q : Nat) (s : State)

theorem podNoted_fault : (podNoted p cause q s).getF (FAB_LPp_MAP_FAULT p) = 1 :=
  getF_setF_fits _ _ _ (by simp [FAB_LPp_MAP_FAULT]) (by simp [FAB_LPp_MAP_FAULT])

/-- The fault mark of a pod leaves the block REL. -/
theorem podNoted_rel (hp : p < 256) {f : Fld} (hf : 0x60000 ≤ f.reg) : (podNoted p cause q s).getF f =
    ((((s.setF REL_PODFLT_CAUSE cause).setF REL_PODFLT_LPOD p).setF REL_PODFLT_PPOD q).bump REL_CNT0_FAULTS).getF f :=
  getF_setF_reg _ _ _ _ (by simp only [FAB_LPp_MAP_FAULT, FAB_LPp_MAP]; omega)

theorem podNoted_cause (hp : p < 256) (hc : cause < 8) : (podNoted p cause q s).getF REL_PODFLT_CAUSE = cause := by
  rw [podNoted_rel q s hp (by decide), getF_bump_apart _ _ _ (by decide), getF_setF_apart _ _ _ _ (by decide),
    getF_setF_apart _ _ _ _ (by decide)]
  exact getF_setF_fits _ _ _ (by decide) hc

theorem podNoted_lpod (hp : p < 256) : (podNoted p cause q s).getF REL_PODFLT_LPOD = p := by
  rw [podNoted_rel q s hp (by decide), getF_bump_apart _ _ _ (by decide), getF_setF_apart _ _ _ _ (by decide)]
  exact getF_setF_fits _ _ _ (by decide) hp

theorem podNoted_counted (hp : p < 256) : Counted REL_CNT0_FAULTS s (podNoted p cause q s) := by
  rw [Counted, podNoted_rel q s hp (by decide)]
  refine Counted.of_getF (counted_bump _ _ (by decide) (by decide)) ?_
  rw [getF_setF_apart _ _ _ _ (by decide), getF_setF_apart _ _ _ _ (by decide), getF_setF_apart _ _ _ _ (by decide)]

end

/-- A faulted pod of the service link that is recovered aborts a packet in flight (R32). -/
def podCut (p : Nat) (s : State) : State := if s.flag (FAB_LPp_MAP_SLK p) && (s.pod p).why != 0 then slRemap s else s

/-- A pod that nothing recovers is counted as left ISOLATED (R556). -/
def podLost (p : Nat) (s : State) : State :=
  if (s.pod p).why = 0 then (s.setPod p { s.pod p with left := true }).bump REL_CNT1_FAIL else s

/-- A fault of an ACTIVE pod, before the pod drains. -/
def podFaulted (p cause : Nat) (s : State) : State :=
  podLost p (podCut p (podRecover p
    ((podRecord p cause (s.getF (FAB_LPp_MAP_PPOD p)) s).setPod p { s.pod p with faultAt := s.now })))

theorem podFault_active {s : State} {p : Nat} (cause : Nat) (hconf : s.podConf p = true)
    (hfab : s.flag FAB_STAT_CONF = true) (hst : s.podState p = 0) : podFault p cause s = podEnter p 1 (podFaulted p cause s) := by
  unfold podFault
  dsimp only
  rw [hconf, hfab, if_neg (by decide), if_pos hst]
  rfl

theorem podCut_within (p : Nat) (s : State) : Within slkAreas s (podCut p s) := by
  unfold podCut
  split
  · exact (slRemap_leaves s).1.within
  · exact .refl _ s

/-- After the record of the fault the pod's recovery leaves every field beside SLK, events and the count of failures. -/
theorem podFaulted_getF (p cause : Nat) (s : State) {f : Fld} (hslk : ∀ q ∈ slkAreas, f.reg < q.1 ∨ q.2 ≤ f.reg)
    (hfail : REL_CNT1_FAIL.Apart f) :
    (podFaulted p cause s).getF f = (podNoted p cause (s.getF (FAB_LPp_MAP_PPOD p)) s).getF f := by
  unfold podFaulted
  generalize hr : podRecord p cause (s.getF (FAB_LPp_MAP_PPOD p)) s = r
  have hnoted : r.getF f = (podNoted p cause (s.getF (FAB_LPp_MAP_PPOD p)) s).getF f := by
    rw [← hr, podRecord_eq]
    refine (raise_within _ _ _).getF f (Covers.outside ?_ hslk)
    decide
  have hrec (x : State) : (podRecover p x).getF f = x.getF f := getF_of_rd (rd_of_regs (podRecover_regs p x) _)
  have hlost (x : State) : (podLost p x).getF f = x.getF f := by
    unfold podLost
    split
    · exact getF_bump_apart _ _ _ hfail
    · rfl
  rw [hlost, (podCut_within p _).getF f hslk, hrec]
  exact hnoted

/-- What a fault of an ACTIVE pod leaves: the pod DRAINING and marked, and the record of the fault (R150, R555). -/
structure FaultShown (p cause : Nat) (s t : State) : Prop where
  state : t.podState p = 1
  fault : t.getF (FAB_LPp_MAP_FAULT p) = 1
  cause : t.getF REL_PODFLT_CAUSE = cause
  lpod : t.getF REL_PODFLT_LPOD = p
  counted : Counted REL_CNT0_FAULTS s t

theorem podFault_shows {s : State} {p cause : Nat} (hconf : s.podConf p = true) (hfab : s.flag FAB_STAT_CONF = true)
    (hst : s.podState p = 0) (hc : cause < 8) : FaultShown p cause s (podFault p cause s) := by
  have hp := podConf_lt hconf
  rw [podFault_active cause hconf hfab hst]
  have hrel {f : Fld} (hsteady : f.Steady) (hslk : ∀ q ∈ slkAreas, f.reg < q.1 ∨ q.2 ≤ f.reg) (hfail : REL_CNT1_FAIL.Apart f)
      (hmap : (FAB_LPp_MAP_STATE p).Apart f) : (podEnter p 1 (podFaulted p cause s)).getF f =
        (podNoted p cause (s.getF (FAB_LPp_MAP_PPOD p)) s).getF f :=
    (podEnter_getF p 1 _ hsteady hmap).trans (podFaulted_getF p cause s hslk hfail)
  have hmark : 0x5000 ≤ (FAB_LPp_MAP_FAULT p).reg ∧ (FAB_LPp_MAP_FAULT p).reg < 0x6000 := by
    simp only [FAB_LPp_MAP_FAULT, FAB_LPp_MAP]
    omega
  refine ⟨podEnter_state hp (by decide) _, ?_, ?_, ?_, ?_⟩
  · have hout : ∀ q ∈ slkAreas, q.2 ≤ 0x5000 ∨ 0x6000 ≤ q.1 := by decide
    rw [hrel (steady_of_podReg (by omega) (by omega)) (fun q hq => by have := hout q hq; omega)
      (.inl (by have : REL_CNT1_FAIL.reg = 0x60010 := rfl; omega)) (.inr (by simp [FAB_LPp_MAP_FAULT, FAB_LPp_MAP_STATE]))]
    exact podNoted_fault _ s
  · rw [hrel (by decide) (by decide) (by decide) (mapState_apart hp (by decide)), podNoted_cause _ s hp hc]
  · rw [hrel (by decide) (by decide) (by decide) (mapState_apart hp (by decide)), podNoted_lpod _ s hp]
  · rw [Counted, hrel (by decide) (by decide) (by decide) (mapState_apart hp (by decide))]
    exact podNoted_counted _ s hp

end Sys2Proof.Machine
end

section
/-! SUPPORT. What the restart of a loaded pod's streams and engines leaves: the registers of the block FAB and the fabric
beside its registers (R154, R196, R247). -/

namespace Sys2Proof.Machine

/-! ## Beside the fabric -/

/-- From s to u neither a register of the block FAB nor the fabric beside its registers changes. -/
structure OffFab (s u : State) : Prop where
  rd : ∀ a, 0x4000 ≤ a → a < 0x10000 → u.rd a = s.rd a
  fab : u.fab = s.fab

section
variable {s u v : State}

theorem OffFab.refl (s : State) : OffFab s s := ⟨fun _ _ _ => rfl, rfl⟩

theorem OffFab.trans (h : OffFab s u) (hv : OffFab u v) : OffFab s v :=
  ⟨fun a hlo hhi => (hv.rd a hlo hhi).trans (h.rd a hlo hhi), hv.fab.trans h.fab⟩

theorem OffFab.of_eq (h : OffFab s u) (hr : v.regs = u.regs) (hf : v.fab = u.fab) : OffFab s v :=
  h.trans ⟨fun a _ _ => rd_of_regs hr a, hf⟩

theorem OffFab.wr (h : OffFab s u) {a : Nat} (w : Word) (ha : a < 0x4000 ∨ 0x10000 ≤ a) : OffFab s (u.wr a w) :=
  h.trans ⟨fun b _ _ => rd_wr_other u a b w (by omega), wr_fab u a w⟩

theorem OffFab.setF (h : OffFab s u) (f : Fld) (n : Nat) (hf : f.reg < 0x4000 ∨ 0x10000 ≤ f.reg) : OffFab s (u.setF f n) :=
  h.wr _ hf

theorem OffFab.bump (h : OffFab s u) (f : Fld) (hf : f.reg < 0x4000 ∨ 0x10000 ≤ f.reg) : OffFab s (u.bump f) := h.setF f _ hf

theorem OffFab.set64 (h : OffFab s u) (lo hi n : Nat) (hlo : lo < 0x4000 ∨ 0x10000 ≤ lo) (hhi : hi < 0x4000 ∨ 0x10000 ≤ hi) :
    OffFab s (u.set64 lo hi n) := (h.wr _ hlo).wr _ hhi

theorem OffFab.forEach (h : OffFab s u) {l : List Nat} {f : Nat → State → State} (hf : ∀ n ∈ l, ∀ x, OffFab x (f n x)) :
    OffFab s (forEach l f u) := h.trans (forEach_rel OffFab.refl OffFab.trans hf u)

theorem OffFab.getF (h : OffFab s u) {f : Fld} (hf : 0x4000 ≤ f.reg ∧ f.reg < 0x10000) : u.getF f = s.getF f :=
  getF_of_rd (h.rd _ hf.1 hf.2)

theorem Within.rd_fab {l : List (Nat × Nat)} (h : Within l s u) (hl : ∀ p ∈ l, p.2 ≤ 0x4000 ∨ 0x10000 ≤ p.1) (a : Nat)
    (hlo : 0x4000 ≤ a) (hhi : a < 0x10000) : u.rd a = s.rd a :=
  h a fun p hp => by have := hl p hp; omega

theorem raise_offFab (e i : Nat) (s : State) : OffFab s (raise e i s) :=
  ⟨(raise_within e i s).rd_fab (by decide), (raise_step e i s).fab⟩

theorem slRemap_offFab (s : State) : OffFab s (slRemap s) :=
  ⟨(slRemap_leaves s).1.within.rd_fab (by decide), (slRemap_leaves s).2⟩

theorem excRemap_offFab (i : Nat) (s : State) : OffFab s (excRemap i s) :=
  ((OffFab.refl s).bump EXC_CNT_REMAP (by decide)).trans (raise_offFab _ _ _)

end

/-! ## Streams and engines from empty state -/

section
variable (n : Nat) (s : State)

/-- The registers of every slot and decoder lie past the block FAB. -/
theorem ENSs_past : 0x10000 ≤ ENSs_STAT n ∧ 0x10000 ≤ ENSs_EID n := by unfold ENSs_STAT ENSs_EID; omega

theorem DECd_past : 0x10000 ≤ DECd_STAT n ∧ 0x10000 ≤ DECd_FMT n ∧ 0x10000 ≤ DECd_LAT n := by
  unfold DECd_STAT DECd_FMT DECd_LAT
  omega

theorem decEmpty_offFab : OffFab s (decEmpty n s) := by
  unfold decEmpty
  split
  · exact ((OffFab.refl s).setF (DECd_STAT_WARMUP n) 1 (.inr (DECd_past n).1)).of_eq (setDecoder_regs _ _ _)
      (setDecoder_fab _ _ _)
  · exact .refl s

theorem decShow_offFab : OffFab s (decShow n s) := by
  unfold decShow
  split
  · exact (OffFab.refl s).setF (DECd_STAT_WAIT n) _ (.inr (DECd_past n).1)
  · exact .refl s

theorem decFields_offFab : OffFab s (decFields n s) := by
  obtain ⟨hstat, hfmt, hlat⟩ := DECd_past n
  exact ((((OffFab.refl s).setF (DECd_STAT_WARMUP n) 0 (.inr hstat)).setF ⟨DECd_STAT n, 24, 20⟩ 0 (.inr hstat)).wr 0
    (.inr hfmt)).wr 0 (.inr hlat)

theorem dabUse_offFab : OffFab s (dabUse s) :=
  ((OffFab.refl s).setF DAB_USE_ENS_LOCK _ (by decide)).setF DAB_USE_DEC_RUN _ (by decide)

theorem decToWait_offFab : OffFab s (decToWait n s) := by
  unfold decToWait
  split
  · extract_lets v s1
    have h1 : OffFab s s1 :=
      (((OffFab.refl s).setF (DECd_STAT_STATE n) 1 (.inr (DECd_past n).1)).trans (decFields_offFab n _)).of_eq
        (setDecoder_regs _ _ _) (setDecoder_fab _ _ _)
    exact ((h1.trans (decShow_offFab n s1)).trans (raise_offFab _ _ _)).trans (dabUse_offFab _)
  · exact decShow_offFab n s

theorem slotUnlock_offFab : OffFab s (slotUnlock n s) := by
  obtain ⟨hstat, heid⟩ := ENSs_past n
  unfold slotUnlock
  extract_lets last v s1
  have h1 : OffFab s s1 :=
    (((OffFab.refl s).setF (ENSs_STAT_FIC_OK n) 0 (.inr hstat)).setF (ENSs_EID_VALID n) 0 (.inr heid)).of_eq
      (setSlot_regs _ _ _) (setSlot_fab _ _ _)
  clear_value s1
  exact h1.of_eq rfl rfl

theorem slotEmpty_offFab : OffFab s (slotEmpty n s) := by
  unfold slotEmpty
  split
  · extract_lets s1 v s2 s3
    have h2 : OffFab s s2 := (slotUnlock_offFab n s).of_eq (setSlot_regs _ _ _) (setSlot_fab _ _ _)
    have h3 : OffFab s s3 := by
      unfold s3
      split
      · exact h2
      · exact h2.setF (ENSs_STAT_STATE n) 2 (.inr (ENSs_past n).1)
    refine (h3.forEach fun d _ x => ?_).trans (dabUse_offFab _)
    split
    · exact decEmpty_offFab d x
    · exact decToWait_offFab d x
  · exact .refl s

theorem pathHistoryLost_offFab : OffFab s (pathHistoryLost n s) := by
  unfold pathHistoryLost
  extract_lets p
  split
  · exact .refl s
  split
  · exact (OffFab.refl s).of_eq rfl rfl
  · exact (OffFab.refl s).of_eq rfl rfl

theorem engineEmpty_offFab : OffFab s (engineEmpty n s) := by
  unfold engineEmpty
  split
  · exact (OffFab.refl s).of_eq rfl rfl
  · exact (OffFab.refl s).of_eq rfl rfl

theorem laneEmpty_offFab : OffFab s (laneEmpty n s) := (OffFab.refl s).of_eq rfl rfl
theorem portEmpty_offFab : OffFab s (portEmpty n s) := (OffFab.refl s).of_eq rfl rfl
theorem leekHeal_offFab : OffFab s (leekHeal n s) := (OffFab.refl s).of_eq rfl rfl
theorem leekEmpty_offFab : OffFab s (leekEmpty n s) := (OffFab.refl s).of_eq rfl rfl
theorem progEmpty_offFab : OffFab s (progEmpty n s) := (OffFab.refl s).of_eq rfl rfl

end

/-- What every change for an entry of a list leaves, the whole leaves. -/
theorem foldl_offFab {α : Type} {f : State → α → State} (hf : ∀ x r, OffFab x (f x r)) (l : List α) (s : State) :
    OffFab s (l.foldl f s) := by
  induction l generalizing s with
  | nil => exact .refl s
  | cons r t ih => exact (hf s r).trans (ih (f s r))

theorem podRestart_offFab (p : Nat) (b : Bool) (s : State) : OffFab s (podRestart p b s) := by
  unfold podRestart
  refine foldl_offFab (fun x r => ?_) _ s
  split
  · exact laneEmpty_offFab _ x
  split
  · exact slRemap_offFab x
  split
  · exact engineEmpty_offFab _ x
  split
  · exact portEmpty_offFab _ x
  split
  · exact leekHeal_offFab _ x
  split
  · exact .refl x
  split
  · exact leekEmpty_offFab _ x
  split
  · exact pathHistoryLost_offFab _ x
  split
  · exact slotEmpty_offFab _ x
  split
  · exact decEmpty_offFab _ x
  split
  · exact progEmpty_offFab _ x
  · exact .refl x

end Sys2Proof.Machine
end

section
/-! SUPPORT. The release of loaded pods (R154 to R157): a pod that has entered ACTIVE and that nothing moves stays so while
other pods are released and recovered. -/

namespace Sys2Proof.Machine

/-! ## Tables of pods -/

theorem mem_sins {α : Type} {k j : Nat} {v w : α} {l : List (Nat × α)} (h : (j, w) ∈ sins k v l) :
    (j, w) = (k, v) ∨ (j, w) ∈ l := by
  induction l with
  | nil => exact .inl (by simpa [sins] using h)
  | cons q t ih =>
    rw [sins] at h
    split at h
    · simpa using h
    · rcases List.mem_cons.mp h with h | h
      · exact .inr (h ▸ List.mem_cons_self)
      · exact (ih h).imp_right (List.mem_cons_of_mem _)

/-- A listed entry of a table after a store is the stored one or an older one of another key. -/
theorem mem_sset {α : Type} [DecidableEq α] {d : Nat → α} {k j : Nat} {v w : α} {l : List (Nat × α)}
    (h : (j, w) ∈ sset d k v l) : (j, w) = (k, v) ∨ (j ≠ k ∧ (j, w) ∈ l) := by
  have hold (hf : (j, w) ∈ l.filter fun p => p.1 != k) : j ≠ k ∧ (j, w) ∈ l := by
    simpa [and_comm] using List.mem_filter.mp hf
  unfold sset at h
  dsimp only at h
  split at h
  · exact .inr (hold h)
  · exact (mem_sins h).imp_right hold

theorem sget_mem_or {α : Type} (d : Nat → α) (l : List (Nat × α)) (k : Nat) : (k, sget d l k) ∈ l ∨ sget d l k = d k := by
  induction l with
  | nil => exact .inr rfl
  | cons q t ih =>
    obtain ⟨j, w⟩ := q
    rw [sget]
    split
    case isTrue h => exact .inl (by simp [h])
    case isFalse => exact ih.imp_left (List.mem_cons_of_mem _)

/-- Nothing moves pod p. -/
def Still (p : Nat) (s : State) : Prop := ∀ v, (p, v) ∈ s.fab.pods → v.why = 0

/-- Pod p is ACTIVE and nothing moves it. -/
structure Restored (p : Nat) (s : State) : Prop where
  state : s.podState p = 0
  still : Still p s

section
variable {p : Nat} {s u : State}

theorem Still.why (h : Still p s) : (s.pod p).why = 0 := by
  rcases sget_mem_or podNone s.fab.pods p with hmem | hnone
  · exact h _ hmem
  · rw [State.pod, hnone]
    rfl

theorem Still.of_fab (h : Still p s) (hu : u.fab = s.fab) : Still p u := by
  unfold Still
  rw [hu]
  exact h

theorem Still.setPod (h : Still p s) {j : Nat} {v : Pod} (hv : j = p → v.why = 0) : Still p (s.setPod j v) := by
  intro w hw
  rcases mem_sset hw with heq | ⟨-, hmem⟩
  · obtain ⟨rfl, rfl⟩ := Prod.mk.inj heq
    exact hv rfl
  · exact h w hmem

/-- Once its entry is replaced nothing else is noted of the pod. -/
theorem Still.of_setPod {v : Pod} (hv : v.why = 0) : Still p (s.setPod p v) := by
  intro w hw
  rcases mem_sset hw with heq | ⟨hne, -⟩
  · rw [(Prod.mk.inj heq).2]
    exact hv
  · exact absurd rfl hne

theorem Still.stamp (h : Still p s) (j st n : Nat) : Still p (podStamp j st n s) := by
  unfold podStamp
  have hj : j = p → (s.pod j).why = 0 := fun hj => hj ▸ h.why
  split
  · exact h.setPod hj
  split
  · exact h.setPod hj
  · exact h

theorem Still.enter (h : Still p s) (j st : Nat) : Still p (podEnter j st s) :=
  ((h.of_fab (podTurned_fab j st s)).stamp j st s.now).of_fab (podEnter_fab j st s)

/-! ## A released pod among other changes -/

section
variable (hp : p < 256)
include hp

theorem Restored.of_writes (h : Restored p s) {l : List (Nat × Nat)} {F : List Fld} (hw : Writes F l s u)
    (hF : ∀ g ∈ F, g.reg < 0x5000 ∨ 0x6000 ≤ g.reg) (hl : ∀ q ∈ l, q.2 ≤ 0x5000 ∨ 0x6000 ≤ q.1) (hu : u.fab = s.fab) :
    Restored p u := by
  have hreg : 0x5000 ≤ (FAB_LPp_MAP_STATE p).reg ∧ (FAB_LPp_MAP_STATE p).reg < 0x6000 := by rw [map_reg]; omega
  have hst : u.podState p = s.podState p :=
    hw _ (fun g hg => .inl (by have := hF g hg; omega)) (fun q hq => by have := hl q hq; omega)
  exact ⟨hst.trans h.state, h.still.of_fab hu⟩

theorem Restored.offFab (h : Restored p s) (hu : OffFab s u) : Restored p u :=
  ⟨(hu.getF (by rw [map_reg]; omega)).trans h.state, h.still.of_fab hu.fab⟩

theorem Restored.shown (h : Restored p s) : Restored p (fabShow s) :=
  h.of_writes hp (fabShow_writes s) (by decide) (by decide) (fabShow_fab s)

/-- Another pod enters a state. -/
theorem Restored.enter_other (h : Restored p s) {j : Nat} (hj : j ≠ p) (st : Nat) : Restored p (podEnter j st s) := by
  have hapart : (FAB_LPp_MAP_STATE j).Apart (FAB_LPp_MAP_STATE p) := .inl (by rw [map_reg, map_reg]; omega)
  have hkept : (podEnter j st s).podState p = s.podState p :=
    podEnter_getF j st s (steady_of_podReg (by rw [map_reg]; omega) (by rw [map_reg]; omega)) hapart
  exact ⟨hkept.trans h.state, h.still.enter j st⟩

/-- Another pod starts to load. -/
theorem Restored.load_other (h : Restored p s) {j : Nat} (hj : j ≠ p) : Restored p (podLoad j s) := by
  have hplace : Restored p (podPlace j s) :=
    ⟨(getF_of_rd (podPlace_rd j s (by rw [map_reg]; omega))).trans h.state, h.still.of_fab (podPlace_fab j s)⟩
  rw [podLoad_eq]
  refine Restored.enter_other hp ?_ hj 3
  exact ⟨hplace.state, hplace.still.setPod fun heq => absurd heq hj⟩

end

/-- A choice among the entries of a list is one of them. -/
theorem foldl_choice_mem {α : Type} {f : Option α → α → Option α} (hf : ∀ a x, f a x = some x ∨ f a x = a) (l : List α)
    (a : Option α) {y : α} (h : l.foldl f a = some y) : y ∈ l ∨ a = some y := by
  induction l generalizing a with
  | nil => exact .inr h
  | cons x t ih =>
    rcases ih _ h with hmem | heq
    · exact .inl (List.mem_cons_of_mem _ hmem)
    · rcases hf a x with hx | ha
      · exact .inl (Option.some.inj (hx.symm.trans heq) ▸ List.mem_cons_self)
      · exact .inr (ha.symm.trans heq)

/-- Another pod's recovery may start (R561). -/
theorem Restored.recoverNext (hp : p < 256) (h : Restored p s) : Restored p (recoverNext s) := by
  unfold Machine.recoverNext
  split
  · exact h.shown hp
  split
  next j v hchosen =>
    have hmem : (j, v) ∈ s.fab.pods := by
      refine (List.mem_filter.mp ((foldl_choice_mem (fun a x => ?_) _ _ hchosen).resolve_right (by simp))).1
      split
      · split
        · exact .inl rfl
        · exact .inr rfl
      · exact .inl rfl
    split
    case isTrue hst =>
      have hj : j ≠ p := by
        rintro rfl
        rw [h.state] at hst
        exact absurd hst (by decide)
      exact h.load_other hp hj
    case isFalse =>
      refine Restored.shown hp ⟨h.state, h.still.setPod ?_⟩
      rintro rfl
      exact h.still v hmem
  next => exact h.shown hp

/-! ## The entry into ACTIVE -/

/-- A pod remapped onto a spare names it as its own. -/
def podHome (p : Nat) (s : State) : State :=
  match (s.pod p).spare with | some q => s.setF (FAB_LPp_MAP_PPOD p) q | none => s

/-- What is noted of a pod that is back at the instant n. -/
def podBack (p n : Nat) (s : State) : Pod :=
  { s.pod p with why := 0, spare := none, left := false, loadedAt := none,
                 backAt := if (s.pod p).why = 4 then some n else (s.pod p).backAt }

/-- The pod ACTIVE, before its streams and engines restart. -/
def podIn (p n : Nat) (s : State) : State := podEnter p 0 ((podHome p s).setPod p (podBack p n s))

/-- After the entry the block FAB and the fabric beside its registers stay. -/
theorem podActive_offFab (p n : Nat) (s : State) : OffFab (podIn p n s) (podActive p n s) := by
  unfold podActive
  extract_lets v s0 s1 s2 s3 s4
  have h1 : s1 = podIn p n s := rfl
  split
  · have h2 : OffFab s1 s2 := by
      refine (((OffFab.refl s1).set64 REL_REMAP_LO REL_REMAP_HI n (by decide) (by decide)).setF REL_GAP_TICKS _
        (by decide)).bump _ ?_
      split
      · decide
      · decide
    have h3 : OffFab s1 s3 := h2.trans (raise_offFab _ _ _)
    have h4 : OffFab s3 s4 := foldl_offFab (f := fun s (r : MapRec) => excRemap r.inst s) (fun x r => excRemap_offFab r.inst x) _ s3
    rw [← h1]
    exact (h3.trans h4).trans (podRestart_offFab _ _ _)
  · exact podRestart_offFab _ _ _

theorem podHome_fab (p : Nat) (s : State) : (podHome p s).fab = s.fab := by
  unfold podHome
  split
  · exact setF_fab _ _ _
  · rfl

theorem podHome_other {j : Nat} (hj : j ≠ p) (s : State) : (podHome j s).podState p = s.podState p := by
  unfold podHome
  split
  · exact getF_setF_reg _ _ _ _ (by simp only [FAB_LPp_MAP_STATE, FAB_LPp_MAP_PPOD, FAB_LPp_MAP]; omega)
  · rfl

theorem podActive_restored (hp : p < 256) (n : Nat) (s : State) : Restored p (podActive p n s) :=
  Restored.offFab hp ⟨podEnter_state hp (by decide) _, (Still.of_setPod rfl).enter p 0⟩ (podActive_offFab p n s)

theorem Restored.active_other (hp : p < 256) (h : Restored p s) {j : Nat} (hj : j ≠ p) (n : Nat) :
    Restored p (podActive j n s) := by
  have hhome : Restored p (podHome j s) := ⟨(podHome_other hj s).trans h.state, h.still.of_fab (podHome_fab j s)⟩
  have hnoted : Restored p ((podHome j s).setPod j (podBack j n s)) := ⟨hhome.state, hhome.still.setPod fun heq => absurd heq hj⟩
  exact Restored.offFab hp (hnoted.enter_other hp hj 0) (podActive_offFab j n s)

theorem podActive_pr (p n : Nat) (s : State) : (podActive p n s).fab.pr = s.fab.pr := by
  rw [(podActive_offFab p n s).fab, podIn, podEnter_pr]
  exact (congrArg Fabric.pr (podHome_fab p s) :)

/-- A pod among those released stays ACTIVE once it is. -/
theorem forEach_podActive_restored (hp : p < 256) (n : Nat) {l : List Nat} (h : p ∈ l ∨ Restored p s) :
    Restored p (forEach l (fun q s => podActive q n s) s) := by
  induction l generalizing s with
  | nil => exact h.resolve_left (by simp)
  | cons q t ih =>
    refine ih (s := podActive q n s) ?_
    by_cases hq : q = p
    · exact .inr (hq ▸ podActive_restored (hq ▸ hp) n s)
    · rcases h with hmem | hr
      · exact .inl ((List.mem_cons.mp hmem).resolve_left (Ne.symm hq))
      · exact .inr (hr.active_other hp hq n)

theorem forEach_podActive_pr (n : Nat) (l : List Nat) (s : State) :
    (forEach l (fun q s => podActive q n s) s).fab.pr = s.fab.pr :=
  forEach_rel (R := fun s u => u.fab.pr = s.fab.pr) (fun _ => rfl) (fun h hv => hv.trans h)
    (fun q _ x => podActive_pr q n x) s

end

end Sys2Proof.Machine
end

section
/-! SUPPORT. The commands of the pods (R142 to R157, R171, R555 to R557, R568), and the statement on them. -/

namespace Sys2Proof.Machine

/-! ## Guards and deadlines -/

section
variable {s : State} {p : Nat}

theorem guardAbsorb_counts (h : s.guarded p = true) :
    Gives (.guardAbsorb p) s fun t => Counted (FAB_LPp_CNT0_VOID p) s t := by
  refine ⟨s.bump (FAB_LPp_CNT0_VOID p), ?_, counted_bump _ _ (by simp [FAB_LPp_CNT0_VOID]) (by simp [FAB_LPp_CNT0_VOID])⟩
  show execGuardAbsorb p s = _
  rw [execGuardAbsorb, if_pos h]

/-- A VOID token goes to a path, or is listed with its kind and number. -/
theorem voidTake_takes (kind inst ts period : Nat) (s : State) :
    (∀ f, (voidTake kind inst ts period s).getF f = s.getF f) ∧
      (kind = 1 → ((voidTake kind inst ts period s).path inst).voids.head? = some ⟨ts, ts + 64 * period - 1, 8⟩) ∧
      (kind ≠ 1 → (voidTake kind inst ts period s).fab.voids.head? = some (kind, inst, ⟨ts, ts + 64 * period - 1, 8⟩)) := by
  unfold voidTake
  dsimp only
  split
  case isTrue hk => exact ⟨fun _ => rfl, fun _ => by rw [path_setPath_same]; rfl, fun hne => absurd hk hne⟩
  case isFalse hk => exact ⟨fun _ => rfl, fun heq => absurd heq hk, fun _ => rfl⟩

theorem guardVoidSupply_supplies (kind inst ts period : Nat) (h : s.guarded p = true) :
    Gives (.guardVoidSupply p kind inst ts period) s fun t =>
      Counted (FAB_LPp_CNT0_VOID p) s t ∧ (kind = 1 → (t.path inst).voids.head? = some ⟨ts, ts + 64 * period - 1, 8⟩) ∧
        (kind ≠ 1 → t.fab.voids.head? = some (kind, inst, ⟨ts, ts + 64 * period - 1, 8⟩)) := by
  obtain ⟨hfields, hpath, hother⟩ := voidTake_takes kind inst ts period (s.bump (FAB_LPp_CNT0_VOID p))
  refine ⟨_, ?_, ?_, hpath, hother⟩
  · show execGuardVoidSupply p kind inst ts period s = _
    rw [execGuardVoidSupply, if_pos h]
  · rw [Counted, hfields]
    exact counted_bump _ _ (by simp [FAB_LPp_CNT0_VOID]) (by simp [FAB_LPp_CNT0_VOID])

/-- An abandonment is counted for its pod and for the fabric, and raised once in a pace window (R142). -/
def dropCounted (p rel : Nat) (s : State) : State :=
  let s1 := ((s.advance (rel - s.budget p)).bump (FAB_LPp_CNT0_DROP p)).bump FAB_DROP_CNT
  if (s.pod p).dropSeen then s1 else raise evBlockDrop p (s1.setPod p { s1.pod p with dropSeen := true })

theorem exec_blockDrop (kind inst rel : Nat) (hconf : s.podConf p = true) (hst : s.podState p = 0) :
    exec (.blockDrop p kind inst rel) s = .next (streamDrop kind inst rel (dropCounted p rel s)) := by
  show execBlockDrop p kind inst rel s = _
  rw [execBlockDrop, hconf, hst, if_neg (by decide)]
  rfl

/-- The counters of pod p lie among the registers of pods. -/
theorem cnt0_reg (p : Nat) : (FAB_LPp_CNT0_DROP p).reg = 0x5008 + 0x10 * p := rfl

theorem dropCounted_shows (hp : p < 256) (rel : Nat) (s : State) :
    Counted (FAB_LPp_CNT0_DROP p) s (dropCounted p rel s) ∧ Counted FAB_DROP_CNT s (dropCounted p rel s) ∧
      (dropCounted p rel s).inputs = s.inputs ∧ (dropCounted p rel s).paths = s.paths ∧
      Within ((0x4000, 0x10000) :: eventAreas) s (dropCounted p rel s) := by
  unfold dropCounted
  extract_lets s1
  have hdrop : Counted (FAB_LPp_CNT0_DROP p) s s1 := by
    unfold s1
    rw [Counted, getF_bump_apart _ _ _ (.inl (by rw [cnt0_reg, show FAB_DROP_CNT.reg = 0x401c from rfl]; omega))]
    exact (counted_bump _ _ (by simp [FAB_LPp_CNT0_DROP]) (by simp [FAB_LPp_CNT0_DROP])).of_getF (advance_getF _ _ _)
  have hall : Counted FAB_DROP_CNT s s1 := by
    refine (counted_bump _ _ (by decide) (by decide)).of_getF ?_
    rw [getF_bump_apart _ _ _ (.inl (by rw [cnt0_reg, show FAB_DROP_CNT.reg = 0x401c from rfl]; omega)), advance_getF]
  have hwithin : Within ((0x4000, 0x10000) :: eventAreas) s s1 :=
    (((advance_within _ s).mono (by decide)).setF _ _
      ⟨(0x4000, 0x10000), by simp, by rw [cnt0_reg]; omega, by rw [cnt0_reg]; omega⟩).setF FAB_DROP_CNT _ (by decide)
  have hinputs : s1.inputs = s.inputs := by simp only [s1, bump_inputs, advance_inputs]
  have hpaths : s1.paths = s.paths := by simp only [s1, bump_paths, advance_paths]
  clear_value s1
  split
  · exact ⟨hdrop, hall, hinputs, hpaths, hwithin⟩
  · let s2 := s1.setPod p { s1.pod p with dropSeen := true }
    have hfield {f : Fld} (hf : ∀ q ∈ eventAreas, f.reg < q.1 ∨ q.2 ≤ f.reg) :
        (raise evBlockDrop p s2).getF f = s1.getF f :=
      ((raise_within _ _ _).getF f hf).trans (setPod_getF _ _ _ _)
    have hreg : ∀ q ∈ eventAreas, (FAB_LPp_CNT0_DROP p).reg < q.1 ∨ q.2 ≤ (FAB_LPp_CNT0_DROP p).reg :=
      (steady_of_podReg (by rw [cnt0_reg]; omega) (by rw [cnt0_reg]; omega)).2
    refine ⟨?_, ?_, (raise_step _ _ _).inputs.trans hinputs, (raise_step _ _ _).paths.trans hpaths,
      (hwithin.of_regs (setPod_regs s1 p _)).step (raise_within _ _ _) (by decide)⟩
    · rw [Counted, hfield hreg]
      exact hdrop
    · rw [Counted, hfield (by decide)]
      exact hall

/-- The head run of a path goes on to its next block: of its fields only WARMUP changes. -/
theorem runPut_leaves (n : Nat) (r : Run) (s : State) :
    ((runPut n r s).path n).formed = (s.path n).formed ∧
      (∀ f : Fld, (PTHn_STAT_WARMUP n).Apart f → (runPut n r s).getF f = s.getF f) := by
  unfold runPut
  extract_lets q s1
  have hformed : (s1.path n).formed = (s.path n).formed := by rw [path_setPath_same]
  have hfields (f : Fld) : s1.getF f = s.getF f := setPath_getF _ _ _ _
  clear_value s1
  split
  · unfold warmupPass
    refine ⟨?_, fun f hf => ?_⟩
    · have hpath (b : Bool) (x : State) : (x.setB (PTHn_STAT_WARMUP n) b).path n = x.path n :=
        (congrArg (sget pathNone · n) (setB_paths x _ b) :)
      rw [hpath, path_setPath_same]
      exact hformed
    · rw [State.setB, getF_setF_apart _ _ _ _ hf, setPath_getF]
      exact hfields f
  · exact ⟨hformed, fun f _ => hfields f⟩

section
variable (hconf : s.podConf p = true) (hst : s.podState p = 0)
include hconf hst

theorem blockDrop_engine {kind : Nat} (inst rel : Nat) (hkind : 2 ≤ kind) :
    Gives (.blockDrop p kind inst rel) s fun t =>
      Counted (FAB_LPp_CNT0_DROP p) s t ∧ Counted FAB_DROP_CNT s t ∧ t.abandoned kind inst rel = true := by
  obtain ⟨hdrop, hall, -⟩ := dropCounted_shows (podConf_lt hconf) rel s
  refine ⟨_, exec_blockDrop kind inst rel hconf hst, ?_⟩
  unfold streamDrop
  rw [if_neg (by omega), if_neg (by omega)]
  exact ⟨hdrop, hall, by simp [State.abandoned]⟩

theorem blockDrop_leek {inst : Nat} (rel : Nat) (hinst : inst < 2) :
    Gives (.blockDrop p 0 inst rel) s fun t =>
      Counted (FAB_LPp_CNT0_DROP p) s t ∧ Counted FAB_DROP_CNT s t ∧
        (t.input inst).spans.head? = some ⟨rel / 122880 * 122880, rel / 122880 * 122880 + 122879, flagMissing⟩ := by
  obtain ⟨hdrop, hall, -⟩ := dropCounted_shows (podConf_lt hconf) rel s
  refine ⟨_, exec_blockDrop 0 inst rel hconf hst, ?_⟩
  unfold streamDrop binLose
  rw [if_pos rfl, if_pos hinst]
  refine ⟨hdrop, hall, ?_⟩
  rw [input_setInput_same]
  rfl

theorem blockDrop_path {inst rel : Nat} {r : Run} (hinst : inst < 512) (hrun : (s.path inst).runs.head? = some r)
    (hrel : r.tsOf (r.out + 1) + r.dly = rel) :
    Gives (.blockDrop p 1 inst rel) s fun t =>
      Counted (FAB_LPp_CNT0_DROP p) s t ∧ Counted FAB_DROP_CNT s t ∧ Counted (PTHn_DROP_CNT inst) s t ∧
        (t.path inst).dropNext = true ∧ (t.path inst).formed = (s.path inst).formed ++ [(r.due, none)] := by
  have hp := podConf_lt hconf
  obtain ⟨hdrop, hall, -, hpaths, hwithin⟩ := dropCounted_shows hp rel s
  have hpath : (dropCounted p rel s).path inst = s.path inst := (congrArg (sget pathNone · inst) hpaths :)
  refine ⟨_, exec_blockDrop 1 inst rel hconf hst, ?_⟩
  have hstream : streamDrop 1 inst rel (dropCounted p rel s) = outDrop inst r (dropCounted p rel s) := by
    unfold streamDrop
    rw [if_neg (by decide), if_pos rfl, hpath]
    cases hruns : (s.path inst).runs with
    | nil => rw [hruns] at hrun; exact absurd hrun (by simp)
    | cons r' t =>
      obtain rfl : r' = r := by rw [hruns] at hrun; exact Option.some.inj hrun
      dsimp only
      rw [decide_eq_true hinst, decide_eq_true hrel]
      rfl
  rw [hstream]
  unfold outDrop
  extract_lets s1
  obtain ⟨hformed, hput⟩ := runPut_leaves inst r ((dropCounted p rel s).bump (PTHn_DROP_CNT inst))
  have hfab {f : Fld} (hf : f.reg < 0x10000) : s1.getF f = (dropCounted p rel s).getF f := by
    rw [hput f (.inl (by simp only [PTHn_STAT_WARMUP, PTHn_STAT]; omega))]
    exact getF_bump_apart _ _ _ (.inl (by simp only [PTHn_DROP_CNT, PTHn_DROP]; omega))
  have hcount : Counted (PTHn_DROP_CNT inst) s s1 := by
    rw [Counted, hput _ (.inl (by simp only [PTHn_STAT_WARMUP, PTHn_STAT, PTHn_DROP_CNT, PTHn_DROP]; omega))]
    refine (counted_bump _ _ (by simp [PTHn_DROP_CNT]) (by simp [PTHn_DROP_CNT])).of_getF (hwithin.getF _ ?_)
    have hout : ∀ q ∈ (0x4000, 0x10000) :: eventAreas, q.2 ≤ 0x10000 ∨ 0x18000 ≤ q.1 := by decide
    intro q hq
    have hq := hout q hq
    simp only [PTHn_DROP_CNT, PTHn_DROP]
    omega
  refine ⟨?_, ?_, hcount, ?_, ?_⟩
  · rw [Counted, setPath_getF, hfab (by rw [cnt0_reg]; omega)]
    exact hdrop
  · rw [Counted, setPath_getF, hfab (by decide)]
    exact hall
  · rw [path_setPath_same]
  · rw [path_setPath_same]
    dsimp only
    rw [hformed]
    exact congrArg (fun v : Path => v.formed ++ [(r.due, none)]) hpath

end

end

end Sys2Proof.Machine
end

section
/-! SUPPORT. Pace windows and the core voltage, FAB_CMD, and the ends of a drain and of a load (R144 to R157, R171). -/

namespace Sys2Proof.Machine

/-! ## Pace and voltage -/

/-- A measured margin writes a register of its pod only. -/
theorem podPace_rd (p pea b n : Nat) (s : State) {a : Nat} (ha : a < 0x5000) : (podPace p pea b n s).rd a = s.rd a := by
  have hcur : a ≠ (FAB_LPp_PACE_CUR p).reg := by simp only [FAB_LPp_PACE_CUR, FAB_LPp_PACE]; omega
  have hmin : a ≠ (FAB_LPp_PACE_MIN p).reg := hcur
  unfold podPace
  split
  · dsimp only
    rw [setPod_rd, rd_setF_other _ _ _ _ hmin, rd_setF_other _ _ _ _ hcur]
  · rfl

theorem foldl_podPace_rd (n : Nat) (busy : List (Nat × Nat × Nat)) (s : State) {a : Nat} (ha : a < 0x5000) :
    (busy.foldl (fun s x => podPace x.1 x.2.1 x.2.2 n s) s).rd a = s.rd a := by
  induction busy generalizing s with
  | nil => rfl
  | cons x t ih => exact (ih _).trans (podPace_rd x.1 x.2.1 x.2.2 n s ha)

theorem marginOf_lt (b : Nat) : marginOf b < 2 ^ 16 := by
  unfold marginOf
  split
  · decide
  · exact lt_of_le_of_lt (Nat.min_le_left _ _) (by decide)

/-- The pod of the critical pea shows its margin (R144). -/
theorem podPace_shows {s : State} {p pea n : Nat} (b : Nat) (hconf : s.podConf p = true) (hst : s.podState p = 0)
    (hpea : (s.hdr.pace.any fun r => r.lpod == p && r.pea == pea) = true) (hsince : (s.pod p).activeAt + paceTicks ≤ n) :
    (podPace p pea b n s).getF (FAB_LPp_PACE_CUR p) = marginOf b ∧ ((podPace p pea b n s).pod p).paced = true := by
  unfold podPace
  rw [if_pos (by rw [hconf, hst, hpea, decide_eq_true hsince]; rfl)]
  extract_lets m low
  refine ⟨?_, by rw [pod_setPod_same]⟩
  rw [setPod_getF, getF_setF_apart _ _ _ _ (.inr (by simp [FAB_LPp_PACE_MIN, FAB_LPp_PACE_CUR]))]
  exact getF_setF_fits _ _ _ (by simp [FAB_LPp_PACE_CUR]) (marginOf_lt b)

/-- The lowest margin of a window is shown, and a margin below WARN raised once (R147). -/
def paceShow (x : Option (Nat × Nat)) (s : State) : State :=
  match x with
  | some (m, p) =>
    let low := decide (m < s.getF FAB_PACE_CFG_WARN)
    let s3 := (s.setF FAB_PACE_MIN_LPOD p).setF FAB_PACE_MIN_MARGIN m
    let s4 := { s3 with fab := { s3.fab with paceLow := low } }
    if low && !s.fab.paceLow then raise evPaceLow p s4 else s4
  | none => s

/-- It leaves every other register beside events, and the pods. -/
theorem paceShow_leaves (x : Option (Nat × Nat)) (s : State) :
    Writes [FAB_PACE_MIN_LPOD, FAB_PACE_MIN_MARGIN] eventAreas s (paceShow x s) ∧
      (paceShow x s).fab.pods = s.fab.pods := by
  unfold paceShow
  split
  next m p =>
    extract_lets low s3 v s4
    have h3 : Writes [FAB_PACE_MIN_LPOD, FAB_PACE_MIN_MARGIN] eventAreas s s3 :=
      ((Writes.refl _ _ s).setF p (by decide)).setF m (by decide)
    have h4 : Writes [FAB_PACE_MIN_LPOD, FAB_PACE_MIN_MARGIN] eventAreas s s4 := h3.of_regs rfl
    have hpods : s4.fab.pods = s.fab.pods := by
      have hfab : s3.fab = s.fab := by simp only [s3, setF_fab]
      exact (congrArg Fabric.pods hfab :)
    clear_value s4
    split
    · exact ⟨h4.trans (raise_within _ _ _).writes, (congrArg Fabric.pods (raise_step evPaceLow p s4).fab).trans hpods⟩
    · exact ⟨h4, hpods⟩
  next => exact ⟨.refl _ _ s, rfl⟩

/-- A core-voltage code takes effect, with the windows counted towards a step down. -/
def avsPut (c good : Nat) (s : State) : State :=
  { s.setF FAB_AVS_CODE c with fab := { s.fab with good := good }, pins := { s.pins with vid := some c } }

theorem avsPut_regs (c good : Nat) (s : State) : (avsPut c good s).regs = (s.setF FAB_AVS_CODE c).regs := by
  unfold avsPut
  dsimp only

theorem avsPut_getF (c good : Nat) (s : State) {f : Fld} (hf : FAB_AVS_CODE.Apart f) : (avsPut c good s).getF f = s.getF f :=
  (getF_of_rd (rd_of_regs (avsPut_regs c good s) _)).trans (getF_setF_apart _ _ _ _ hf)

theorem avsPut_code (good : Nat) {c : Nat} (hc : c < 64) (s : State) : (avsPut c good s).getF FAB_AVS_CODE = c :=
  (getF_of_rd (rd_of_regs (avsPut_regs c good s) _)).trans (getF_setF_fits _ _ _ (by decide) hc)

/-- A window puts some code, or leaves the code as it is. -/
theorem avsStep_eq (m : Option Nat) (s : State) : avsStep m s = s ∨ ∃ c good, avsStep m s = avsPut c good s := by
  unfold avsStep
  extract_lets c put
  have hput (c good : Nat) : put c good s = avsPut c good s := rfl
  clear_value put
  split
  · exact .inr ⟨_, _, hput _ _⟩
  split
  · exact .inl rfl
  split
  · exact .inr ⟨_, _, hput _ _⟩
  split
  · split
    · exact .inr ⟨_, _, hput _ _⟩
    · exact .inr ⟨_, _, hput _ _⟩
  · exact .inr ⟨_, _, hput _ _⟩

theorem avsStep_leaves (m : Option Nat) (s : State) :
    (∀ f : Fld, FAB_AVS_CODE.Apart f → (avsStep m s).getF f = s.getF f) ∧ (avsStep m s).fab.pods = s.fab.pods := by
  rcases avsStep_eq m s with h | ⟨c, good, h⟩
  · rw [h]
    exact ⟨fun _ _ => rfl, rfl⟩
  · rw [h]
    exact ⟨fun f hf => avsPut_getF c good s hf, rfl⟩

/-- Without adaptation the code steps towards 20 (R148). -/
def avsTowards (c : Nat) : Nat := if c < 20 then c + 1 else if 20 < c then c - 1 else c

theorem avsStep_off (m : Option Nat) {s : State} (h : s.flag FAB_AVS_EN = false) :
    avsStep m s = avsPut (avsTowards (s.getF FAB_AVS_CODE)) 0 s := by
  unfold avsStep
  dsimp only
  rw [h, if_pos (by decide)]
  rfl

theorem avsTowards_lt {c : Nat} (h : c < 64) : avsTowards c < 64 := by
  unfold avsTowards
  split
  · omega
  · split <;> omega

/-- The end of a pace window: margins measured, the lowest shown, the voltage stepped, abandonments seen forgotten. -/
def paceEnd (n : Nat) (busy : List (Nat × Nat × Nat)) (s : State) : State :=
  let s1 := busy.foldl (fun s x => podPace x.1 x.2.1 x.2.2 n s) (s.advance n)
  let l := (s1.confPods.filter fun p => (s1.pod p).paced).map fun p => (s1.getF (FAB_LPp_PACE_CUR p), p)
  let s5 := avsStep ((lowestMargin l).map fun x => x.1) (paceShow (lowestMargin l) s1)
  { s5 with fab := { s5.fab with pods := s5.fab.pods.map fun x => (x.1, { x.2 with dropSeen := false }) } }

/-- A change of every listed value that keeps what an unlisted key reads is a change of what each key reads. -/
theorem sget_map {α : Type} {d : Nat → α} {g : α → α} (hd : ∀ k, g (d k) = d k) (l : List (Nat × α)) (k : Nat) :
    sget d (l.map fun x => (x.1, g x.2)) k = g (sget d l k) := by
  induction l with
  | nil => exact (hd k).symm
  | cons q t ih =>
    obtain ⟨j, w⟩ := q
    rw [List.map_cons, sget, sget]
    split
    · rfl
    · exact ih

section
variable {s : State} {n : Nat} (hn : n % 3932160 = 0) (hconf : s.flag FAB_STAT_CONF = true) (hcount : s.counting = true)
include hn hconf hcount

theorem exec_paceWindowEnd (busy : List (Nat × Nat × Nat)) :
    exec (.paceWindowEnd n busy) s = .next (paceEnd n busy s) := by
  show execPaceWindowEnd n busy s = _
  rw [execPaceWindowEnd, show n % paceTicks = 0 from hn, hconf, hcount, if_neg (by decide)]
  rfl

theorem paceWindowEnd_steps (busy : List (Nat × Nat × Nat)) (havs : s.flag FAB_AVS_EN = false) :
    Gives (.paceWindowEnd n busy) s fun t =>
      t.getF FAB_AVS_CODE = avsTowards (s.getF FAB_AVS_CODE) ∧ t.pins.vid = some (t.getF FAB_AVS_CODE) := by
  refine ⟨_, exec_paceWindowEnd hn hconf hcount busy, ?_⟩
  unfold paceEnd
  extract_lets s1 l s5
  have hfield {f : Fld} (hf : f.reg = FAB_AVS) : (paceShow (lowestMargin l) s1).getF f = s.getF f := by
    have h1 : s1.getF f = s.getF f := by
      refine (getF_of_rd ?_).trans (advance_getF s n f)
      exact foldl_podPace_rd n busy _ (by rw [hf]; decide)
    have hout : ∀ q ∈ eventAreas, FAB_AVS < q.1 ∨ q.2 ≤ FAB_AVS := by decide
    rw [(paceShow_leaves _ _).1 f (fun g hg => .inl ?_) (by rw [hf]; exact hout), h1]
    have hne : ∀ g ∈ [FAB_PACE_MIN_LPOD, FAB_PACE_MIN_MARGIN], FAB_AVS ≠ g.reg := by decide
    rw [hf]
    exact hne g hg
  have hoff : (paceShow (lowestMargin l) s1).flag FAB_AVS_EN = false := by
    unfold State.flag at havs ⊢
    rw [hfield rfl]
    exact havs
  have h5 : s5 = avsPut (avsTowards (s.getF FAB_AVS_CODE)) 0 (paceShow (lowestMargin l) s1) := by
    unfold s5
    rw [avsStep_off _ hoff, hfield rfl]
  have hcode : s5.getF FAB_AVS_CODE = avsTowards (s.getF FAB_AVS_CODE) := by
    rw [h5]
    exact avsPut_code 0 (avsTowards_lt (bitsOf_lt _ _ _)) _
  have hvid : s5.pins.vid = some (avsTowards (s.getF FAB_AVS_CODE)) := by rw [h5]; rfl
  clear_value s5
  exact ⟨hcode, hvid.trans (congrArg some hcode.symm)⟩

theorem paceWindowEnd_measures {p pea : Nat} (b : Nat) (hpod : s.podConf p = true) (hst : s.podState p = 0)
    (hpea : (s.hdr.pace.any fun r => r.lpod == p && r.pea == pea) = true) (hsince : (s.pod p).activeAt + 3932160 ≤ n) :
    Gives (.paceWindowEnd n [(p, pea, b)]) s fun t =>
      t.getF (FAB_LPp_PACE_CUR p) = marginOf b ∧ (t.pod p).paced = true := by
  have hp := podConf_lt hpod
  refine ⟨_, exec_paceWindowEnd hn hconf hcount _, ?_⟩
  unfold paceEnd
  extract_lets s1 l s5
  have h1 : s1.getF (FAB_LPp_PACE_CUR p) = marginOf b ∧ (s1.pod p).paced = true := by
    refine podPace_shows b ?_ ?_ ?_ ?_
    · rw [State.podConf, advance_flag]
      exact hpod
    · exact (advance_getF _ _ _).trans hst
    · rw [State.hdr, advance_boot]
      exact hpea
    · rw [pod_of_fab (advance_fab _ _)]
      exact hsince
  obtain ⟨hshow, hshowPods⟩ := paceShow_leaves (lowestMargin l) s1
  obtain ⟨havs, havsPods⟩ := avsStep_leaves ((lowestMargin l).map fun x => x.1) (paceShow (lowestMargin l) s1)
  have hreg : (FAB_LPp_PACE_CUR p).reg = 0x5004 + 0x10 * p := rfl
  have h5 : s5.getF (FAB_LPp_PACE_CUR p) = marginOf b := by
    have hmin : ∀ g ∈ [FAB_PACE_MIN_LPOD, FAB_PACE_MIN_MARGIN], g.reg < 0x5000 := by decide
    have hcode : FAB_AVS_CODE.reg < 0x5000 := by decide
    rw [havs _ (.inl (by omega)), hshow _ (fun g hg => .inl (by have := hmin g hg; omega))
      (steady_of_podReg (by omega) (by omega)).2]
    exact h1.1
  have hpods : s5.fab.pods = s1.fab.pods := havsPods.trans hshowPods
  clear_value s5
  refine ⟨h5, ?_⟩
  have hmap := sget_map (d := podNone) (g := fun v => { v with dropSeen := false }) (fun _ => rfl) s5.fab.pods p
  rw [State.pod, hmap, hpods]
  exact h1.2

end

end Sys2Proof.Machine
end

section
/-! SUPPORT. FAB_CMD, the ends of a drain and of a load, the release and the faults of pods (R149 to R157, R171, R555,
R568), and the statement on the pods. -/

namespace Sys2Proof.Machine

/-! ## What a traced write leaves of the checks on pods -/

section
variable {s u : State}

theorem traced_podConf (hw : Within [(0x68000, 0x70000)] s u) (p : Nat) : u.podConf p = s.podConf p := by
  unfold State.podConf
  by_cases hp : p < 256
  · rw [State.flag, State.flag, hw.getF_below_obs (by simp only [FAB_LPp_MAP_CONF, FAB_LPp_MAP]; omega)]
  · rw [decide_eq_false hp, Bool.false_and, Bool.false_and]

theorem traced_feat (hw : Within [(0x68000, 0x70000)] s u) {n : Nat} (hn : n < 128) : u.feat n = s.feat n := by
  unfold State.feat
  rw [hw _ (by simp only [List.forall_mem_singleton, FEAT_ACTIVE]; omega)]

theorem traced_remapBusy (ht : TraceStep s u) : u.remapBusy = s.remapBusy := by
  unfold State.remapBusy
  rw [ht.fab]

end

/-! ## FAB_CMD -/

section
variable {s : State} {m : Master} {p : Nat} (hr : s.reaches m FAB_CMD = true) (hconf : s.podConf p = true)
  (hphase : s.getF FAB_PR_STAT_PHASE = 0) (hbusy : s.remapBusy = false)
  (howned : (s.ktOwned && s.flag (FAB_LPp_MAP_KTO p)) = false)
include hr hconf hphase hbusy howned

/-- ISOLATE of an ACTIVE pod (R171). -/
theorem fabIsolate_drains (hst : s.podState p = 0) (hexc : (s.flag (FAB_LPp_MAP_EXC p) && s.pins.paRf) = false) :
    Gives (.fabIsolate m p) s fun t => t.podState p = 1 ∧ t.getF (FAB_LPp_MAP_FAULT p) = 0 := by
  have hp := podConf_lt hconf
  let u := traceRegWrite m FAB_CMD (0x1000000 + p) s
  have ht : TraceStep s u := traceRegWrite_step m FAB_CMD _ s
  have hw : Within [(0x68000, 0x70000)] s u := traceRegWrite_within m FAB_CMD _ s
  have hmap {f : Fld} (hf : f.reg = FAB_LPp_MAP p) : u.getF f = s.getF f :=
    hw.getF_below_obs (by rw [hf, FAB_LPp_MAP]; omega)
  have hgo : fabCommand 1 p u = podEnter p 1 ((u.setF (FAB_LPp_MAP_FAULT p) 0).setPod p { u.pod p with why := 1 }) := by
    unfold fabCommand
    rw [traced_podConf hw, hconf, if_neg (by decide)]
    rw [State.podState, hmap rfl, show s.getF (FAB_LPp_MAP_STATE p) = 0 from hst, if_neg (by simp)]
    rw [State.flag, hmap rfl, ht.pins, if_neg (by simpa [State.flag] using hexc)]
    rw [State.ktOwned, traced_feat hw (by decide), State.flag, hmap rfl, if_neg (by simpa [State.flag, State.ktOwned] using howned)]
    rw [hw.getF_below_obs (by decide), hphase, traced_remapBusy ht, hbusy, if_neg (by decide), if_pos rfl]
  refine ⟨fabCommand 1 p u, ?_, ?_⟩
  · show execFabIsolate m p s = _
    rw [execFabIsolate, Nat.mod_eq_of_lt hp, gated_reaches _ _ _ _ _ hr]
  · rw [hgo]
    have hfault : (FAB_LPp_MAP_FAULT p).Steady :=
      steady_of_podReg (by simp only [FAB_LPp_MAP_FAULT, FAB_LPp_MAP]; omega) (by simp only [FAB_LPp_MAP_FAULT, FAB_LPp_MAP]; omega)
    refine ⟨podEnter_state hp (by decide) _, ?_⟩
    rw [podEnter_getF p 1 _ hfault (.inr (by simp [FAB_LPp_MAP_FAULT, FAB_LPp_MAP_STATE])), setPod_getF]
    exact getF_setF_fits _ _ _ (by simp [FAB_LPp_MAP_FAULT]) (by simp [FAB_LPp_MAP_FAULT])

/-- RESTORE of an ISOLATED pod whose image is good (R163, R171). -/
theorem fabRestore_loads (hst : s.podState p = 2) (hgood : (s.pod p).badImage = false) :
    Gives (.fabRestore m p) s fun t => t.podState p = 3 ∧ (t.pod p).why = 2 := by
  have hp := podConf_lt hconf
  let u := traceRegWrite m FAB_CMD (0x2000000 + p) s
  have ht : TraceStep s u := traceRegWrite_step m FAB_CMD _ s
  have hw : Within [(0x68000, 0x70000)] s u := traceRegWrite_within m FAB_CMD _ s
  have hmap {f : Fld} (hf : f.reg = FAB_LPp_MAP p) : u.getF f = s.getF f :=
    hw.getF_below_obs (by rw [hf, FAB_LPp_MAP]; omega)
  have hgo : fabCommand 2 p u = podEnter p 3 (u.setPod p { u.pod p with why := 2, loadedAt := none }) := by
    unfold fabCommand
    rw [traced_podConf hw, hconf, if_neg (by decide)]
    rw [State.podState, hmap rfl, show s.getF (FAB_LPp_MAP_STATE p) = 2 from hst, pod_of_fab ht.fab, hgood,
      if_neg (by decide), if_neg (by simp)]
    rw [State.ktOwned, traced_feat hw (by decide), State.flag, hmap rfl, if_neg (by simpa [State.flag, State.ktOwned] using howned)]
    rw [hw.getF_below_obs (by decide), hphase, traced_remapBusy ht, hbusy, if_neg (by decide), if_neg (by decide)]
  refine ⟨fabCommand 2 p u, ?_, ?_⟩
  · show execFabRestore m p s = _
    rw [execFabRestore, Nat.mod_eq_of_lt hp, gated_reaches _ _ _ _ _ hr]
  · rw [hgo]
    exact ⟨podEnter_state hp (by decide) _, by rw [podEnter_why, pod_setPod_same]⟩

end

/-! ## The ends of a drain and of a load -/

/-- A field that counts n at once shows them, up to its highest value. -/
theorem getF_bumpBy_same (s : State) (f : Fld) (n : Nat) (hf : f.lo ≤ f.hi ∧ f.hi < 32) :
    (s.bumpBy f n).getF f = min (s.getF f + n) (2 ^ (f.hi + 1 - f.lo) - 1) := by
  have hpos : 0 < 2 ^ (f.hi + 1 - f.lo) := by positivity
  exact getF_setF_fits _ _ _ hf (by omega)

/-- Pod p ISOLATED at the end of its drain, with the tokens it still owed counted (R150, R152). -/
def podDrained (p late n : Nat) (s : State) : State := podEnter p 2 ((s.advance n).bumpBy (FAB_LPp_CNT1_LATE p) late)

theorem podDrained_pod (p late n : Nat) (s : State) :
    ((podDrained p late n s).pod p).why = (s.pod p).why ∧ ((podDrained p late n s).pod p).wait = (s.pod p).wait := by
  have hfab : ((s.advance n).bumpBy (FAB_LPp_CNT1_LATE p) late).fab = s.fab := (bumpBy_fab _ _ _).trans (advance_fab _ _)
  obtain ⟨a, d, h⟩ := podEnter_pod p 2 ((s.advance n).bumpBy (FAB_LPp_CNT1_LATE p) late)
  rw [podDrained, h p, if_pos rfl, pod_of_fab hfab]
  exact ⟨rfl, rfl⟩

section
variable {s : State} {p : Nat} (hconf : s.podConf p = true)
include hconf

section
variable {late n : Nat} (hst : s.podState p = 1)
  (hlate : (late == 0 || decide ((s.pod p).drainAt + Config.ticksOfUs 2 ≤ (s.advance n).now)) = true)
include hst hlate

theorem exec_podDrainEnd : exec (.podDrainEnd p late n) s = .next
    (let s1 := podDrained p late n s
     let v := s1.pod p
     if (v.why = 3 || v.why = 4) && !v.wait then podLoad p s1 else if v.why = 5 then prLoad s1 else s1) := by
  have hover : (late != 0 && decide ((s.advance n).now < (s.pod p).drainAt + Config.ticksOfUs 2)) = false := by
    simp only [Bool.or_eq_true, beq_iff_eq, decide_eq_true_eq] at hlate
    rcases hlate with hzero | hdue
    · rw [hzero]
      rfl
    · rw [decide_eq_false (by omega), Bool.and_false]
  show execPodDrainEnd p late n s = _
  rw [execPodDrainEnd, hconf, hst, hover, if_neg (by decide)]
  rfl

/-- A drain that FAB_CMD started ends ISOLATED. -/
theorem podDrainEnd_isolates (hwhy : (s.pod p).why = 1) :
    Gives (.podDrainEnd p late n) s fun t =>
      t.podState p = 2 ∧ t.getF (FAB_LPp_CNT1_LATE p) = min (s.getF (FAB_LPp_CNT1_LATE p) + late) 65535 := by
  have hp := podConf_lt hconf
  refine ⟨_, exec_podDrainEnd hconf hst hlate, ?_⟩
  dsimp only
  rw [(podDrained_pod p late n s).1, hwhy, if_neg (by simp), if_neg (by decide)]
  have hreg : (FAB_LPp_CNT1_LATE p).reg = 0x500c + 0x10 * p := rfl
  refine ⟨podEnter_state hp (by decide) _, ?_⟩
  rw [podDrained, podEnter_getF p 2 _ (steady_of_podReg (by omega) (by omega)) (.inl (by rw [map_reg]; omega)),
    getF_bumpBy_same _ _ _ (by simp [FAB_LPp_CNT1_LATE]), advance_getF]
  rfl

/-- A drain that a remap or a reload in place started goes on with the load (R556, R557). -/
theorem podDrainEnd_loads (hwhy : (s.pod p).why = 3 ∨ (s.pod p).why = 4) (hwait : (s.pod p).wait = false) :
    Gives (.podDrainEnd p late n) s fun t => t.podState p = 3 ∧ ((t.pod p).why = 3 ∨ (t.pod p).why = 4) := by
  refine ⟨_, exec_podDrainEnd hconf hst hlate, ?_⟩
  dsimp only
  rw [(podDrained_pod p late n s).1, (podDrained_pod p late n s).2, hwait, if_pos (by simpa using hwhy)]
  exact ⟨podLoad_state (podConf_lt hconf) _, podLoad_why _ _⟩

end

/-- Every frame of pod p has been written: the pod waits in LOADING for its release (R150). -/
theorem podLoadDone_notes {n : Nat} (rep : Bool) (hst : s.podState p = 3) (hgood : s.reloadBad p = false) :
    Gives (.podLoadDone p n rep) s fun t =>
      (t.pod p).loadedAt = some (s.advance n).now ∧ (t.pod p).replayed = rep ∧ t.podState p = 3 := by
  have hp := podConf_lt hconf
  refine ⟨_, rfl, ?_⟩
  rw [hconf, hst, hgood, if_neg (by decide)]
  extract_lets s0 v s1
  have hpod : s1.pod p = { v with loadedAt := some s0.now, replayed := rep } := pod_setPod_same _ _ _
  have hstate : s1.podState p = 3 := (advance_getF s n _).trans hst
  have hphase (x : Nat) : (s1.setF FAB_PR_STAT_PHASE x).podState p = s1.podState p :=
    getF_setF_reg _ _ _ _ (by rw [map_reg, show FAB_PR_STAT_PHASE.reg = 0x4028 from rfl]; omega)
  have hpodPhase (x : Nat) : (s1.setF FAB_PR_STAT_PHASE x).pod p = s1.pod p := pod_of_fab (setF_fab _ _ _) p
  have hshown {x : State} (hx : x.pod p = s1.pod p) (hxs : x.podState p = s1.podState p) :
      (x.pod p).loadedAt = some s0.now ∧ (x.pod p).replayed = rep ∧ x.podState p = 3 := by
    rw [hx, hxs, hpod]
    exact ⟨rfl, rfl, hstate⟩
  clear_value s1
  split
  · split
    · exact hshown (hpodPhase 4) (hphase 4)
    · exact hshown rfl rfl
  · exact hshown rfl rfl

/-- The physical pods after a failed load: a spare taken is retired, and the pod keeps its own (R157). -/
def podUnplace (p : Nat) (v : Pod) (s : State) : State :=
  match v.spare with
  | some q => (s.wr (FAB_PPq_STAT q) 0x80000000).wr (FAB_PPq_STAT (s.getF (FAB_LPp_MAP_PPOD p))) (BitVec.ofNat 32 p)
  | none => s

omit hconf in
theorem podUnplace_rd (v : Pod) (s : State) {b : Nat} (hb : b < 0x6000) : (podUnplace p v s).rd b = s.rd b := by
  have hne (q : Nat) : b ≠ FAB_PPq_STAT q := by unfold FAB_PPq_STAT; omega
  unfold podUnplace
  split
  · rw [rd_wr_other _ _ _ _ (hne _), rd_wr_other _ _ _ _ (hne _)]
  · rfl

/-- A restored pod whose image fails is ISOLATED again (R163, R556). -/
theorem reloadErr_isolates {n : Nat} (hst : s.podState p = 3) (hwhy : (s.pod p).why = 2) (hbad : s.reloadBad p = true) :
    Gives (.reloadErr p n) s fun t =>
      t.podState p = 2 ∧ (t.pod p).badImage = true ∧ Counted FAB_STAT_RELOAD_ERR s t := by
  have hp := podConf_lt hconf
  refine ⟨_, rfl, ?_⟩
  rw [hconf, hst, hbad, if_neg (by decide)]
  extract_lets s0 v s1 s2 s3
  have hv : v.why = 2 := (congrArg Pod.why (pod_of_fab (advance_fab s n) p)).trans hwhy
  rw [hv, if_neg (by decide), if_neg (by decide)]
  have h2 : s2 = podUnplace p v s1 := rfl
  obtain ⟨a, d, hpod⟩ := podEnter_pod p 2 (s2.setPod p { v with why := 0, spare := none, badImage := true })
  refine ⟨podEnter_state hp (by decide) _, ?_, ?_⟩
  · rw [hpod p, if_pos rfl, pod_setPod_same]
  · rw [Counted, podEnter_getF p 2 _ (by decide) (mapState_apart hp (by decide)), setPod_getF, h2,
      getF_of_rd (podUnplace_rd v s1 (by decide)), (raise_within _ _ _).getF _ (by decide)]
    exact (counted_bump _ _ (by decide) (by decide)).of_getF (advance_getF _ _ _)

/-! ## The release -/

/-- A restored pod that is loaded enters ACTIVE at its release instant (R156). -/
theorem podRelease_activates {n : Nat} (hn : n % 122880 = 0) (hfab : s.flag FAB_STAT_CONF = true) (hst : s.podState p = 3)
    (hwhy : (s.pod p).why = 2) (hload : (s.pod p).loadedAt.isSome = true) (hat : s.enterAt [p] = n)
    (hpr : s.fab.pr = none) : Gives (.podRelease n) s fun t => t.podState p = 0 ∧ (t.pod p).why = 0 := by
  have hp := podConf_lt hconf
  refine ⟨_, rfl, ?_⟩
  rw [show n % Config.releasePeriod = 0 from hn, hfab, if_neg (by decide)]
  extract_lets s0 singles s1 b s2
  have hpod (q : Nat) : s0.pod q = s.pod q := pod_of_fab (advance_fab s n) q
  have hmem : p ∈ singles := by
    have hconf0 : s0.podConf p = true := by
      rw [State.podConf, advance_flag]
      exact hconf
    have henter : s0.enterAt [p] = n := by
      rw [State.enterAt]
      simp only [hpod]
      exact hat
    refine List.mem_filter.mpr ⟨List.mem_filter.mpr ⟨List.mem_range.mpr hp, hconf0⟩, ?_⟩
    dsimp only
    rw [hpod, hwhy, hload, henter, State.podState, advance_getF, show s.getF (FAB_LPp_MAP_STATE p) = 3 from hst,
      beq_self_eq_true, beq_self_eq_true]
    rfl
  have h1 : Restored p s1 := forEach_podActive_restored hp n (.inl hmem)
  have hpr1 : s1.fab.pr = none := (forEach_podActive_pr n singles s0).trans ((congrArg Fabric.pr (advance_fab s n)).trans hpr)
  have h2 : s2 = s1 := by
    unfold s2
    rw [hpr1]
  rw [h2]
  exact ⟨(h1.recoverNext hp).state, (h1.recoverNext hp).still.why⟩

end

/-! ## Faults -/

theorem exec_podFault {cause : Nat} (p n : Nat) (s : State) (hlo : 1 ≤ cause) (hhi : cause ≤ 5) :
    exec (.podFault p cause n) s = .next (podFault p cause (s.advance n)) := by
  show execPodFault p cause n s = _
  rw [execPodFault, decide_eq_true hlo, decide_eq_true hhi, if_pos (by decide)]

theorem exec_podWatchdog {s : State} {p : Nat} (n : Nat) (hconf : s.podConf p = true) (hst : s.podState p = 0) : exec (.podWatchdog p n) s = .next (podFault p 1 (s.advance n)) := by
  show execPodWatchdog p n s = _
  rw [execPodWatchdog, hconf, hst, if_pos (by decide)]

section
variable {s : State} {p : Nat} (hconf : s.podConf p = true) (hfab : s.flag FAB_STAT_CONF = true) (hst : s.podState p = 0)
include hconf hfab hst

/-- A fault that is found at n. -/
theorem podFault_advanced {cause : Nat} (n : Nat) (hc : cause < 8) : FaultShown p cause s (podFault p cause (s.advance n)) := by
  have hconf' : (s.advance n).podConf p = true := by
    rw [State.podConf, advance_flag]
    exact hconf
  obtain ⟨hstate, hfault, hcause, hlpod, hcount⟩ :=
    podFault_shows (s := s.advance n) hconf' ((advance_flag _ _ _).trans hfab) ((advance_getF _ _ _).trans hst) hc
  exact ⟨hstate, hfault, hcause, hlpod, hcount.of_getF (advance_getF _ _ _)⟩

/-- An injected fault of an ACTIVE pod (R568). -/
theorem injectPod_faults {m : Master} (hr : s.reaches m REL_INJECT = true) (hfeat : s.feat 18 = true)
    (hphase : s.getF FAB_PR_STAT_PHASE = 0) (hbusy : s.remapBusy = false) (hpair : s.pairMoving = false)
    (howned : (s.ktOwned && s.flag (FAB_LPp_MAP_KTO p)) = false) :
    Gives (.injectPod m p) s fun t =>
      t.podState p = 1 ∧ t.getF REL_PODFLT_CAUSE = 4 ∧ Counted REL_CNT0_FAULTS s t := by
  have hp := podConf_lt hconf
  let w := 2 ^ 30 + p
  have hop : bitsOf w 31 30 = 1 := by
    simp only [w, bitsOf, Nat.shiftRight_eq_div_pow]
    omega
  have hn : bitsOf w 7 0 = p := by
    simp only [w, bitsOf, Nat.shiftRight_eq_div_pow]
    omega
  let u := traceRegWrite m REL_INJECT w s
  have ht : TraceStep s u := traceRegWrite_step m REL_INJECT w s
  have hw : Within [(0x68000, 0x70000)] s u := traceRegWrite_within m REL_INJECT w s
  have hmap {f : Fld} (hf : f.reg = FAB_LPp_MAP p) : u.getF f = s.getF f :=
    hw.getF_below_obs (by rw [hf, FAB_LPp_MAP]; omega)
  have hconf' : u.podConf p = true := (traced_podConf hw p).trans hconf
  have hst' : u.podState p = 0 := (hmap rfl).trans hst
  have hpair' : u.pairMoving = false := by
    rw [State.pairMoving, ht.cores]
    exact hpair
  have hgo : relInject w u = podFault p 4 u := by
    unfold relInject
    dsimp only
    rw [hop, hn, traced_feat hw (by decide), hfeat, if_neg (by decide)]
    rw [hconf', if_neg (by simp), hst', if_neg (by simp)]
    rw [traced_remapBusy ht, hbusy, hpair', hw.getF_below_obs (by decide), hphase, if_neg (by decide)]
    rw [State.ktOwned, traced_feat hw (by decide), State.flag, hmap rfl,
      if_neg (by simpa [State.flag, State.ktOwned] using howned), if_pos rfl]
  refine ⟨relInject w u, ?_, ?_⟩
  · show execInjectPod m p s = _
    rw [execInjectPod, if_pos hp, gated_reaches _ _ _ _ _ hr]
  · have hfab' : u.flag FAB_STAT_CONF = true := by
      rw [State.flag, hw.getF_below_obs (by decide)]
      exact hfab
    obtain ⟨hstate, -, hcause, -, hcount⟩ := podFault_shows (cause := 4) hconf' hfab' hst' (by decide)
    rw [hgo]
    exact ⟨hstate, hcause, hcount.of_getF (hw.getF_below_obs (by decide))⟩

end

/-! ## The statement -/

/-- Settles O22: each clause is what its command leaves of a pod, shown above for the command. -/
theorem podTransitions : Obligations.PodTransitions := by
  unfold Obligations.PodTransitions
  exact ⟨fun s p hg => guardAbsorb_counts hg,
    fun s p kind inst ts period hg => guardVoidSupply_supplies kind inst ts period hg,
    fun s p kind inst rel hconf hst hkind => blockDrop_engine hconf (eq_of_beq hst) inst rel (of_decide_eq_true hkind),
    fun s p inst rel hconf hst hinst => blockDrop_leek hconf (eq_of_beq hst) rel (of_decide_eq_true hinst),
    fun s p inst rel r hconf hst hinst hrun hrel =>
      blockDrop_path hconf (eq_of_beq hst) (of_decide_eq_true hinst) (eq_of_beq hrun) (eq_of_beq hrel),
    fun s n busy hn hfab hcount havs =>
      paceWindowEnd_steps (eq_of_beq hn) hfab hcount busy ((Bool.not_eq_true' _).mp havs),
    fun s n p pea b hn hfab hcount hconf hst hpea hsince =>
      paceWindowEnd_measures (eq_of_beq hn) hfab hcount b hconf (eq_of_beq hst) hpea (of_decide_eq_true hsince),
    fun s m p hr hconf hst hexc howned hphase hbusy =>
      fabIsolate_drains hr hconf (eq_of_beq hphase) ((Bool.not_eq_true' _).mp hbusy) ((Bool.not_eq_true' _).mp howned)
        (eq_of_beq hst) ((Bool.not_eq_true' _).mp hexc),
    fun s m p hr hconf hst hgood howned hphase hbusy =>
      fabRestore_loads hr hconf (eq_of_beq hphase) ((Bool.not_eq_true' _).mp hbusy) ((Bool.not_eq_true' _).mp howned)
        (eq_of_beq hst) ((Bool.not_eq_true' _).mp hgood),
    fun s p late n hconf hst hwhy hlate => podDrainEnd_isolates hconf (eq_of_beq hst) hlate (eq_of_beq hwhy),
    fun s p late n hconf hst hwhy hwait hlate =>
      podDrainEnd_loads hconf (eq_of_beq hst) hlate (by simpa using hwhy) ((Bool.not_eq_true' _).mp hwait),
    fun s p n rep hconf hst hgood => podLoadDone_notes hconf rep (eq_of_beq hst) ((Bool.not_eq_true' _).mp hgood),
    fun s p n hconf hst hwhy hbad => reloadErr_isolates hconf (eq_of_beq hst) (eq_of_beq hwhy) hbad,
    fun s n p hn hfab hconf hst hwhy hload hat hpr =>
      podRelease_activates hconf (eq_of_beq hn) hfab (eq_of_beq hst) (eq_of_beq hwhy) hload (eq_of_beq hat)
        (Option.isNone_iff_eq_none.mp hpr),
    fun s p cause n hlo hhi hconf hfab hst =>
      have hhi := of_decide_eq_true hhi
      have h := podFault_advanced hconf hfab (eq_of_beq hst) n (show cause < 8 by omega)
      ⟨_, exec_podFault p n s (of_decide_eq_true hlo) hhi, h.state, h.fault, h.cause, h.lpod, h.counted⟩,
    fun s p n hconf hfab hst =>
      have h := podFault_advanced hconf hfab (eq_of_beq hst) n (show 1 < 8 by decide)
      ⟨_, exec_podWatchdog n hconf (eq_of_beq hst), h.state, h.fault, h.cause, h.counted⟩,
    fun s m p hr hfeat hconf hfab hst hpair howned hphase hbusy =>
      injectPod_faults hconf hfab (eq_of_beq hst) hr hfeat (eq_of_beq hphase) ((Bool.not_eq_true' _).mp hbusy)
        ((Bool.not_eq_true' _).mp hpair) ((Bool.not_eq_true' _).mp howned)⟩

end Sys2Proof.Machine
end

section
/-! SUPPORT. The load port, RESET_PORT and START, and the ways VERIFY ends (R164 to R168, R540), with the statement on
partial reconfiguration. -/

namespace Sys2Proof.Machine

/-! ## The load port and its commands -/

section
variable {s : State} {m : Master}

/-- The load port takes four bytes while the staging area has room for them (R164). -/
theorem loadPortWrite_appends {a : Nat} (v : Word) (hr : s.reaches m a = true) (hlo : 0xA0000 ≤ a) (hhi : a < 0xC0000)
    (hroom : s.fab.stage.length + 4 ≤ 67108864) :
    Gives (.loadPortWrite m a v) s fun t =>
      t.fab.stage = s.fab.stage ++ bytesOf 4 v.toNat ∧ t.getF FAB_PR_STAT_STAGED_KIB = (s.fab.stage.length + 4) / 1024 := by
  let u := traceRegWrite m a v.toNat s
  have ht : TraceStep s u := traceRegWrite_step m a v.toNat s
  have hlen : (u.fab.stage ++ bytesOf 4 v.toNat).length = s.fab.stage.length + 4 := by
    rw [ht.fab, List.length_append, bytesOf, List.length_map, List.length_range]
  refine ⟨loadPort v u, ?_, ?_⟩
  · show execLoadPortWrite m a v s = _
    rw [execLoadPortWrite, decide_eq_true hlo, decide_eq_true hhi, if_pos (by decide), gated_reaches _ _ _ _ _ hr]
  · unfold loadPort
    dsimp only
    rw [if_neg (by rw [hlen, stageMax]; omega), hlen]
    refine ⟨congrArg (fun x : Fabric => x.stage ++ bytesOf 4 v.toNat) ht.fab, ?_⟩
    exact getF_setF_fits u FAB_PR_STAT_STAGED_KIB _ (by decide)
      (show (s.fab.stage.length + 4) / 1024 < 2 ^ 17 by omega)

section
variable (hr : s.reaches m FAB_PR_CMD = true) (hphase : s.getF FAB_PR_STAT_PHASE = 0)
include hr hphase

/-- RESET_PORT empties the staging area. -/
theorem prResetPort_empties : Gives (.prResetPort m) s fun t =>
    t.fab.stage = [] ∧ t.getF FAB_PR_STAT_STAGED_KIB = 0 ∧ t.getF FAB_PR_STAT_PHASE = 0 := by
  let u := traceRegWrite m FAB_PR_CMD 2 s
  have hidle : u.getF FAB_PR_STAT_PHASE = 0 := ((traceRegWrite_within m FAB_PR_CMD 2 s).getF_below_obs (by decide)).trans hphase
  refine ⟨prCommand 2 u, ?_, ?_⟩
  · show execPrResetPort m s = _
    rw [execPrResetPort, gated_reaches _ _ _ _ _ hr]
  · unfold prCommand
    dsimp only
    rw [hidle, if_neg (by decide), if_neg (by decide), if_pos (by decide)]
    refine ⟨rfl, getF_setF_fits u FAB_PR_STAT_STAGED_KIB 0 (by decide) (by decide), ?_⟩
    exact (getF_setF_apart u FAB_PR_STAT_STAGED_KIB FAB_PR_STAT_PHASE 0 (by decide)).trans hidle

/-- START enters VERIFY. -/
theorem prStart_verifies : Gives (.prStart m) s fun t =>
    t.getF FAB_PR_STAT_PHASE = 1 ∧ t.getF FAB_PR_STAT_RESULT = 0 := by
  let u := traceRegWrite m FAB_PR_CMD 1 s
  have hidle : u.getF FAB_PR_STAT_PHASE = 0 := ((traceRegWrite_within m FAB_PR_CMD 1 s).getF_below_obs (by decide)).trans hphase
  refine ⟨prCommand 1 u, ?_, ?_⟩
  · show execPrStart m s = _
    rw [execPrStart, gated_reaches _ _ _ _ _ hr]
  · unfold prCommand
    dsimp only
    rw [hidle, if_neg (by decide), if_pos (by decide), if_neg (by decide)]
    refine ⟨?_, getF_setF_fits _ FAB_PR_STAT_RESULT 0 (by decide) (by decide)⟩
    rw [getF_setF_apart _ FAB_PR_STAT_RESULT _ _ (by decide)]
    exact getF_setF_fits u FAB_PR_STAT_PHASE 1 (by decide) (by decide)

end

end

/-! ## The ends of VERIFY that fail -/

/-- A partial reconfiguration that fails ends with its RESULT, and is counted. -/
structure PrFailed (res : Nat) (s t : State) : Prop where
  phase : t.getF FAB_PR_STAT_PHASE = 0
  result : t.getF FAB_PR_STAT_RESULT = res
  counted : Counted FAB_PR_CNT_FAIL s t

theorem prEnd_failed {res : Nat} (hres : res ≠ 1) (hlt : res < 16) (s : State) : PrFailed res s (prEnd res s) := by
  let s1 := ((s.setF FAB_PR_STAT_PHASE 0).setF FAB_PR_STAT_RESULT res).bump FAB_PR_CNT_FAIL
  have hend : prEnd res s = raise evPrDone res { s1 with fab := { s1.fab with pr := none } } := by
    unfold prEnd
    rw [if_neg hres]
  have hfield {f : Fld} (hf : ∀ q ∈ eventAreas, f.reg < q.1 ∨ q.2 ≤ f.reg) : (prEnd res s).getF f = s1.getF f := by
    rw [hend, (raise_within _ _ _).getF f hf]
    exact getF_of_rd (rd_of_regs (by dsimp only) _)
  refine ⟨?_, ?_, ?_⟩
  · rw [hfield (by decide), getF_bump_apart _ _ _ (by decide), getF_setF_apart _ _ _ _ (by decide)]
    exact getF_setF_fits _ _ _ (by decide) (by decide)
  · rw [hfield (by decide), getF_bump_apart _ _ _ (by decide)]
    exact getF_setF_fits _ _ _ (by decide) hlt
  · rw [Counted, hfield (by decide)]
    refine (counted_bump _ _ (by decide) (by decide)).of_getF ?_
    rw [getF_setF_apart _ _ _ _ (by decide), getF_setF_apart _ _ _ _ (by decide)]

theorem PrFailed.raise {res : Nat} {s t : State} (h : PrFailed res s t) (e i : Nat) : PrFailed res s (raise e i t) := by
  have hfield {f : Fld} (hf : ∀ q ∈ eventAreas, f.reg < q.1 ∨ q.2 ≤ f.reg) : (Machine.raise e i t).getF f = t.getF f :=
    (raise_within e i t).getF f hf
  refine ⟨(hfield (by decide)).trans h.phase, (hfield (by decide)).trans h.result, ?_⟩
  rw [Counted, hfield (by decide)]
  exact h.counted

/-- It failed as well from where time had not passed yet. -/
theorem PrFailed.of_advance {res n : Nat} {s t : State} (h : PrFailed res (s.advance n) t) : PrFailed res s t :=
  ⟨h.phase, h.result, h.counted.of_getF (advance_getF _ _ _)⟩

section
variable (s : State) (n : Nat)

theorem advance_prSigOk (h : BsHdr) (g : SigBlock) : (s.advance n).prSigOk h g = s.prSigOk h g := by
  unfold State.advance
  split
  · rfl
  · rfl

theorem advance_prFits (h : BsHdr) : (s.advance n).prFits h = s.prFits h := by
  unfold State.advance
  split
  · rfl
  · rfl

theorem advance_prCheck (p : Nat) : (s.advance n).prCheck p = s.prCheck p := by
  unfold State.advance
  split
  · rfl
  · rfl

theorem advance_prFile : (s.advance n).prFile = s.prFile := by
  unfold State.advance
  split
  · rfl
  · rfl

theorem prCheck_lt (p : Nat) : s.prCheck p < 16 ∧ s.prCheck p ≠ 1 := by
  unfold State.prCheck
  extract_lets st
  repeat' split
  all_goals decide

end

/-! ## DRAIN -/

/-- An ACTIVE pod of a partial reconfiguration starts to drain (R165). -/
def prDrain (p : Nat) (s : State) : State :=
  podEnter p 1 ((s.setF (FAB_LPp_MAP_FAULT p) 0).setPod p { s.pod p with why := 5 })

/-- The ACTIVE pods of the file drain, once its checks have passed. -/
def prDrained (h : BsHdr) (s : State) : State :=
  let pods := (List.range 256).filter h.podMask.testBit
  let s1 := { s.setF FAB_PR_STAT_PHASE 2 with
    fab := { s.fab with pr := some ⟨h, s.prFile, pods, pods.filter fun p => s.podState p == 2, none⟩ } }
  forEach (pods.filter fun p => s.podState p == 0) prDrain s1

section
variable {p : Nat} (hp : p < 256) (s : State)
include hp

theorem prDrain_state : (prDrain p s).podState p = 1 := podEnter_state hp (by decide) _

/-- Another pod keeps its state. -/
theorem prDrain_other {q : Nat} (hq : q ≠ p) : (prDrain q s).podState p = s.podState p := by
  have hsteady : (FAB_LPp_MAP_STATE p).Steady := steady_of_podReg (by rw [map_reg]; omega) (by rw [map_reg]; omega)
  refine (podEnter_getF q 1 _ hsteady (.inl (by rw [map_reg, map_reg]; omega))).trans ((setPod_getF _ _ _ _).trans ?_)
  exact getF_setF_reg _ _ _ _ (by rw [map_reg, show (FAB_LPp_MAP_FAULT q).reg = 0x5000 + 0x10 * q from rfl]; omega)

theorem prDrain_phase : (prDrain p s).getF FAB_PR_STAT_PHASE = s.getF FAB_PR_STAT_PHASE := by
  rw [prDrain, podEnter_getF p 1 _ (by decide) (mapState_apart hp (by decide)), setPod_getF]
  exact getF_setF_reg _ _ _ _ (by simp only [FAB_PR_STAT_PHASE, FAB_PR_STAT, FAB_LPp_MAP_FAULT, FAB_LPp_MAP]; omega)

end

theorem prDrain_pr (p : Nat) (s : State) : (prDrain p s).fab.pr = s.fab.pr :=
  (podEnter_pr p 1 _).trans (congrArg Fabric.pr (setF_fab s (FAB_LPp_MAP_FAULT p) 0) :)

/-- Every pod among those that drain is DRAINING at the end. -/
theorem forEach_prDrain_state {p : Nat} (hp : p < 256) {l : List Nat} {s : State} (h : p ∈ l ∨ s.podState p = 1) :
    (forEach l prDrain s).podState p = 1 := by
  induction l generalizing s with
  | nil => exact h.resolve_left (by simp)
  | cons q t ih =>
    refine ih (s := prDrain q s) ?_
    by_cases hq : q = p
    · exact .inr (hq ▸ prDrain_state (hq ▸ hp) s)
    · rcases h with hmem | hst
      · exact .inl ((List.mem_cons.mp hmem).resolve_left (Ne.symm hq))
      · exact .inr ((prDrain_other hp s hq).trans hst)

/-- What CHECK leads to: the reason of the lowest pod that has one, or DRAIN. -/
def prChecked (h : BsHdr) (s : State) : State :=
  match ((List.range 256).filter h.podMask.testBit).find? fun p => s.prCheck p != 0 with
  | some p => prEnd (s.prCheck p) s
  | none => prLoad (prDrained h s)

/-- The phase and the reconfiguration that the drain notes. -/
theorem prDrained_shows (h : BsHdr) (s : State) :
    (prDrained h s).getF FAB_PR_STAT_PHASE = 2 ∧
      ∃ r, (prDrained h s).fab.pr = some r ∧ r.pods = (List.range 256).filter h.podMask.testBit := by
  unfold prDrained
  extract_lets pods x v s1
  have hregs : s1.regs = x.regs := by dsimp only [s1]
  have hphase : s1.getF FAB_PR_STAT_PHASE = 2 :=
    (getF_of_rd (rd_of_regs hregs _)).trans (getF_setF_fits s FAB_PR_STAT_PHASE 2 (by decide) (by decide))
  have hpr : ∃ r, s1.fab.pr = some r ∧ r.pods = pods := ⟨_, rfl, rfl⟩
  clear_value s1
  constructor
  · refine Eq.trans ?_ hphase
    refine forEach_rel (R := fun s u => u.getF FAB_PR_STAT_PHASE = s.getF FAB_PR_STAT_PHASE) (fun _ => rfl)
      (fun h hv => hv.trans h) (fun p hp x => prDrain_phase ?_ x) s1
    exact List.mem_range.mp (List.mem_filter.mp (List.mem_filter.mp hp).1).1
  · have hkept : (forEach (pods.filter fun p => s.podState p == 0) prDrain s1).fab.pr = s1.fab.pr :=
      forEach_rel (R := fun s u => u.fab.pr = s.fab.pr) (fun _ => rfl) (fun h hv => hv.trans h)
        (fun p _ x => prDrain_pr p x) s1
    rw [hkept]
    exact hpr

section
variable {s : State} {v : SigVerdict} {hash : Nat} (n : Nat) (hphase : s.getF FAB_PR_STAT_PHASE = 1)
include hphase

/-- PR_VERIFY_DONE goes through the checks in their order. -/
theorem exec_prVerifyDone : exec (.prVerifyDone v hash n) s = .next
    (let h := bsHdrOf s.prFile hash
     let g := bsSigOf s.prFile v
     if !s.prSigOk h g then raise evSigFail g.keySel (prEnd 2 (s.advance n))
     else if !hdrOk h || !h.framesOk then prEnd 3 (s.advance n)
     else if !s.prFits (familyBound h) then prEnd 4 (s.advance n)
     else prChecked h (s.advance n)) := by
  show execPrVerifyDone v hash n s = _
  rw [execPrVerifyDone, hphase, if_neg (by decide)]
  dsimp only
  rw [advance_prSigOk, advance_prFits, prChecked, prDrained, advance_prFile]
  rfl

/-- A file whose signature side fails (R540). -/
theorem prVerifyDone_badSig (hsig : s.prSigOk (bsHdrOf s.prFile hash) (bsSigOf s.prFile v) = false) :
    Gives (.prVerifyDone v hash n) s (PrFailed 2 s) := by
  refine ⟨_, exec_prVerifyDone n hphase, ?_⟩
  dsimp only
  rw [hsig, if_pos (by decide)]
  exact ((prEnd_failed (by decide) (by decide) _).raise _ _).of_advance

section
variable (hsig : s.prSigOk (bsHdrOf s.prFile hash) (bsSigOf s.prFile v) = true)
include hsig

/-- A file whose header or frames are not well formed. -/
theorem prVerifyDone_badFrame
    (hform : (!hdrOk (bsHdrOf s.prFile hash) || !(bsHdrOf s.prFile hash).framesOk) = true) :
    Gives (.prVerifyDone v hash n) s (PrFailed 3 s) := by
  refine ⟨_, exec_prVerifyDone n hphase, ?_⟩
  dsimp only
  rw [hsig, hform, if_neg (by decide), if_pos rfl]
  exact (prEnd_failed (by decide) (by decide) _).of_advance

section
variable (hhdr : hdrOk (bsHdrOf s.prFile hash) = true) (hframes : (bsHdrOf s.prFile hash).framesOk = true)
include hhdr hframes

/-- A file that does not fit the loaded bitstream (R165). -/
theorem prVerifyDone_mismatch (hfits : s.prFits (familyBound (bsHdrOf s.prFile hash)) = false) :
    Gives (.prVerifyDone v hash n) s (PrFailed 4 s) := by
  refine ⟨_, exec_prVerifyDone n hphase, ?_⟩
  dsimp only
  rw [hsig, hhdr, hframes, hfits, if_neg (by decide), if_neg (by decide), if_pos (by decide)]
  exact (prEnd_failed (by decide) (by decide) _).of_advance

section
variable (hfits : s.prFits (familyBound (bsHdrOf s.prFile hash)) = true)
include hfits

/-- A file that passes them all comes to CHECK. -/
theorem exec_prVerifyDone_checked :
    exec (.prVerifyDone v hash n) s = .next (prChecked (bsHdrOf s.prFile hash) (s.advance n)) := by
  rw [exec_prVerifyDone n hphase]
  dsimp only
  rw [hsig, hhdr, hframes, hfits, if_neg (by decide), if_neg (by decide), if_neg (by decide)]

/-- The lowest pod with a reason ends the reconfiguration with it. -/
theorem prVerifyDone_refused {p : Nat} (hp : p < 256) (hmask : (bsHdrOf s.prFile hash).podMask.testBit p = true)
    (hreason : s.prCheck p ≠ 0)
    (hlowest : ∀ q < p, (bsHdrOf s.prFile hash).podMask.testBit q = true → s.prCheck q = 0) :
    Gives (.prVerifyDone v hash n) s (PrFailed (s.prCheck p) s) := by
  refine ⟨_, exec_prVerifyDone_checked n hphase hsig hhdr hframes hfits, ?_⟩
  have hfind : (((List.range 256).filter (bsHdrOf s.prFile hash).podMask.testBit).find?
      fun p => (s.advance n).prCheck p != 0) = some p := by
    simp only [advance_prCheck]
    rw [List.find?_filter, List.find?_range_eq_some]
    refine ⟨?_, List.mem_range.mpr hp, fun q hq => ?_⟩
    · simpa [hmask] using hreason
    · cases hbit : (bsHdrOf s.prFile hash).podMask.testBit q with
      | false => rfl
      | true => simp [hlowest q hq hbit]
  unfold prChecked
  rw [hfind]
  dsimp only
  rw [advance_prCheck]
  exact (prEnd_failed (prCheck_lt s p).2 (prCheck_lt s p).1 _).of_advance

/-- Without a reason the ACTIVE pods drain. -/
theorem prVerifyDone_drains
    (hclear : ∀ p < 256, (bsHdrOf s.prFile hash).podMask.testBit p = true → s.prCheck p = 0)
    (hactive : ∃ p < 256, (bsHdrOf s.prFile hash).podMask.testBit p = true ∧ s.podState p = 0) :
    Gives (.prVerifyDone v hash n) s fun t => t.getF FAB_PR_STAT_PHASE = 2 ∧
      ∀ p, p < 256 → (bsHdrOf s.prFile hash).podMask.testBit p = true → s.podState p = 0 → t.podState p = 1 := by
  refine ⟨_, exec_prVerifyDone_checked n hphase hsig hhdr hframes hfits, ?_⟩
  generalize bsHdrOf s.prFile hash = h at hclear hactive ⊢
  have hfind : (((List.range 256).filter h.podMask.testBit).find? fun p => (s.advance n).prCheck p != 0) = none := by
    refine List.find?_eq_none.mpr fun p hp => ?_
    obtain ⟨hrange, hbit⟩ := List.mem_filter.mp hp
    rw [advance_prCheck, hclear p (List.mem_range.mp hrange) hbit]
    decide
  unfold prChecked
  rw [hfind]
  dsimp only
  have hdrains {p : Nat} (hp : p < 256) (hbit : h.podMask.testBit p = true) (hst : s.podState p = 0) :
      (prDrained h (s.advance n)).podState p = 1 := by
    refine forEach_prDrain_state hp (.inl (List.mem_filter.mpr ⟨List.mem_filter.mpr ⟨List.mem_range.mpr hp, hbit⟩, ?_⟩))
    rw [State.podState, advance_getF, show s.getF (FAB_LPp_MAP_STATE p) = 0 from hst]
    rfl
  obtain ⟨hdrainPhase, r, hpr, hpods⟩ := prDrained_shows h (s.advance n)
  have hstay : prLoad (prDrained h (s.advance n)) = prDrained h (s.advance n) := by
    obtain ⟨p, hp, hbit, hst⟩ := hactive
    unfold prLoad
    rw [hpr]
    dsimp only
    rw [hpods, if_neg]
    intro hall
    have hone := List.all_eq_true.mp hall p (List.mem_filter.mpr ⟨List.mem_range.mpr hp, hbit⟩)
    rw [hdrains hp hbit hst] at hone
    exact absurd hone (by decide)
  rw [hstay]
  exact ⟨hdrainPhase, fun p hp hbit hst => hdrains hp hbit hst⟩

end

end

end

end

/-! ## The statement -/

/-- Settles O23: each clause is what its command leaves of the load port or of VERIFY, shown above for the command. -/
theorem partialReconfiguration : Obligations.PartialReconfiguration := by
  unfold Obligations.PartialReconfiguration
  have hfailed {c : Instr} {s : State} {res : Nat} (h : Gives c s (PrFailed res s)) : Gives c s fun t =>
      t.getF FAB_PR_STAT_PHASE = 0 ∧ t.getF FAB_PR_STAT_RESULT = res ∧ Counted FAB_PR_CNT_FAIL s t :=
    h.imp fun t ht => ⟨ht.1, ht.2.phase, ht.2.result, ht.2.counted⟩
  exact ⟨fun s m a v hr hlo hhi hroom =>
      loadPortWrite_appends v hr (of_decide_eq_true hlo) (of_decide_eq_true hhi) (of_decide_eq_true hroom),
    fun s m hr hphase => prResetPort_empties hr (eq_of_beq hphase),
    fun s m hr hphase => prStart_verifies hr (eq_of_beq hphase),
    fun s v hash n hphase hsig =>
      hfailed (prVerifyDone_badSig n (eq_of_beq hphase) ((Bool.not_eq_true' _).mp hsig)),
    fun s v hash n hphase hsig hform => hfailed (prVerifyDone_badFrame n (eq_of_beq hphase) hsig hform),
    fun s v hash n hphase hsig hhdr hframes hfits =>
      hfailed (prVerifyDone_mismatch n (eq_of_beq hphase) hsig hhdr hframes ((Bool.not_eq_true' _).mp hfits)),
    fun s v hash n p hphase hsig hhdr hframes hfits hp hmask hreason hlowest =>
      hfailed (prVerifyDone_refused n (eq_of_beq hphase) hsig hhdr hframes hfits (of_decide_eq_true hp) hmask
        (bne_iff_ne.mp hreason) fun q hq hbit => by
          simpa [hbit] using List.all_eq_true.mp hlowest q (List.mem_range.mpr hq)),
    fun s v hash n hphase hsig hhdr hframes hfits hclear hactive =>
      prVerifyDone_drains n (eq_of_beq hphase) hsig hhdr hframes hfits
        (fun p hp hbit => by simpa [hbit] using List.all_eq_true.mp hclear p (List.mem_range.mpr hp))
        (by simpa using List.any_eq_true.mp hactive)⟩

end Sys2Proof.Machine
end

section
/-! SUPPORT. What raising an event leaves of the block MRW and of Marrow: of the registers there it writes only those of the
snapshot's trigger (R292), and without SPILL no byte (R567). -/

namespace Sys2Proof.Machine

/-! ## Tracing without spill -/

theorem spillWrite_mem (r : TraceRec) {s : State} (h : s.noSpill = true) : (spillWrite r s).mem = s.mem := by
  have hoff : s.flag OBS_CTL_SPILL = false := (Bool.not_eq_true' _).mp h
  unfold spillWrite
  dsimp only
  rw [hoff, if_pos (by rw [Bool.false_and]; rfl)]

theorem traceWrite_mem (r : TraceRec) {s : State} (h : s.noSpill = true) : (traceWrite r s).mem = s.mem := by
  unfold traceWrite
  extract_lets i v s1
  have hoff : (s1.setF OBS_TWP_INDEX ((i + 1) % traceDepth)).noSpill = true := by
    rw [State.noSpill, State.flag, getF_setF_apart _ _ _ _ (by decide)]
    exact h
  exact (spillWrite_mem r hoff).trans (setF_mem _ _ _)

theorem trace_mem (k i src d n : Nat) {s : State} (h : s.noSpill = true) : (trace k i src d n s).mem = s.mem := by
  unfold trace
  extract_lets s1 o1 s0 o0 s2
  split
  · rfl
  split
  · exact bump_mem s OBS_TLOST_CNT
  · have hlost : s2.noSpill = true ∧ s2.mem = s.mem := by
      unfold s2
      split
      · have hctl : s0.rd OBS_CTL = s.rd OBS_CTL := traceWrite_rd _ s _ (by decide) (by decide)
        have hoff : s0.noSpill = true := by
          rw [State.noSpill, State.flag, getF_of_rd (f := OBS_CTL_SPILL) (s := s) hctl]
          exact h
        exact ⟨hoff, traceWrite_mem _ h⟩
      · exact ⟨h, rfl⟩
    exact (traceWrite_mem _ hlost.1).trans hlost.2

theorem traceRegWrite_mem (m : Master) (a w : Nat) {s : State} (h : s.noSpill = true) : (traceRegWrite m a w s).mem = s.mem := by
  unfold traceRegWrite
  split
  · exact trace_mem _ _ _ _ _ h
  · rfl

/-- A trace writes the ring's write pointer and the count of lost records. -/
theorem trace_rd_other (k i src d n : Nat) (s : State) {b : Nat} (h : b ≠ OBS_TWP ∧ b ≠ OBS_TLOST) :
    (trace k i src d n s).rd b = s.rd b := by
  unfold trace
  extract_lets s1 o1 s0 o0 s2
  have h1 : s1.rd b = s.rd b := rd_bump_other _ _ _ h.2
  have h0 : s0.rd b = s.rd b := traceWrite_rd _ _ _ h.1 h.2
  split
  · rfl
  split
  · exact (rd_of_regs (by dsimp only) b).trans h1
  · rw [traceWrite_rd _ _ _ h.1 h.2]
    unfold s2
    split
    · exact (rd_of_regs (by dsimp only) b).trans h0
    · rfl

/-! ## Raising -/

/-- A raise before its trace and the routes follow it. -/
def raised (e i n : Nat) (s : State) : State :=
  raiseSnap e n (obsEvent e (raiseRec e i n (raiseStamp e i n (raiseBit e i s))))

/-- It is traced where its source is. -/
def raisedTraced (e i n : Nat) (s : State) : State :=
  if ((raised e i n s).rd (OBS_TEVT (e / 32))).toNat.testBit (e % 32) then trace 0 0 e i n (raised e i n s) else raised e i n s

theorem raiseAt_eq (e i n : Nat) (s : State) : raiseAt e i n s = s ∨
    raiseAt e i n s = irqRefresh (coalRaise (e / 32) (e % 32) 1 n (coalRaise (e / 32) (e % 32) 0 n (raisedTraced e i n s))) := by
  unfold raiseAt
  split
  · exact .inl rfl
  · exact .inr rfl

section
variable {e : Nat} (i n : Nat) {s : State}

theorem snapTrigger_rd_other (s : State) {b : Nat} (h : b < 0x300CC ∨ 0x300E0 ≤ b) : (snapTrigger n s).rd b = s.rd b := by
  have hlo : b ≠ MRW_SNP_TRIG_LO := by unfold MRW_SNP_TRIG_LO; omega
  have hhi : b ≠ MRW_SNP_TRIG_HI := by unfold MRW_SNP_TRIG_HI; omega
  have hst : b ≠ MRW_SNP_STAT_STATE.reg := by
    have hreg : MRW_SNP_STAT_STATE.reg = 0x300CC := rfl
    omega
  unfold snapTrigger
  split
  · extract_lets s1 x
    have h1 : s1.rd b = s.rd b := by
      unfold s1
      rw [rd_setF_other _ _ _ _ hst, rd_set64_other _ _ _ _ _ hlo hhi]
    exact (rd_of_regs (by dsimp only) b).trans h1
  · rfl

theorem raised_rd_other (he : e < 256) (hnone : summaryOf e = none) {b : Nat} (hevt : b < 0x1000 ∨ 0x2000 ≤ b)
    (hsnap : b < 0x300CC ∨ 0x300E0 ≤ b) : (raised e i n s).rd b = s.rd b := by
  have hstamped : (raiseRec e i n (raiseStamp e i n (raiseBit e i s))).rd b = s.rd b := by
    rw [raiseRec_rd, raiseStamp_rd _ _ _ _ _ he hevt, raiseBit_rd _ _ _ _ he (.inr hnone) hevt]
  unfold raised raiseSnap obsEvent
  split
  · rw [snapTrigger_rd_other _ _ hsnap, obsCount_rd, hstamped]
  · rw [obsCount_rd, hstamped]

/-- A raise of a source without instances writes, beside EVT, the snapshot's trigger and the trace's own registers. -/
theorem raise_rd_other (he : e < 256) (hnone : summaryOf e = none) {b : Nat} (hevt : b < 0x1000 ∨ 0x2000 ≤ b)
    (hsnap : b < 0x300CC ∨ 0x300E0 ≤ b) (hobs : b ≠ OBS_TWP ∧ b ≠ OBS_TLOST) : (raise e i s).rd b = s.rd b := by
  have htraced : (raisedTraced e i s.now s).rd b = s.rd b := by
    unfold raisedTraced
    split
    · exact (trace_rd_other _ _ _ _ _ _ hobs).trans (raised_rd_other _ _ he hnone hevt hsnap)
    · exact raised_rd_other _ _ he hnone hevt hsnap
  have hpend : b ≠ EVT_PEND_IRQ.reg := by
    have hreg : 0x1000 ≤ EVT_PEND_IRQ.reg ∧ EVT_PEND_IRQ.reg < 0x2000 := by decide
    omega
  unfold raise
  rcases raiseAt_eq e i s.now s with h | h
  · rw [h]
  · rw [h, irqRefresh_rd _ _ hpend, coalRaise_rd, coalRaise_rd, htraced]

/-! ## Marrow -/

theorem bumpIf_mem (c : Bool) (f : Fld) (s : State) : (if c then s.bump f else s).mem = s.mem := by
  split
  · exact bump_mem _ _
  · rfl

theorem raiseBit_mem (s : State) : (raiseBit e i s).mem = s.mem := by
  unfold raiseBit
  dsimp only
  split
  · rw [setF_mem, setF_mem, bumpIf_mem]
  · rw [setF_mem, bumpIf_mem]

theorem raiseStamp_mem (s : State) : (raiseStamp e i n s).mem = s.mem := by
  unfold raiseStamp
  dsimp only
  split
  · rw [setF_mem, set64_mem]
  · rw [setF_mem, set64_mem]

theorem raiseRec_mem (s : State) : (raiseRec e i n s).mem = s.mem := by
  unfold raiseRec
  split
  · rfl
  · rfl

theorem obsCount_mem (q : Nat → Bool) (s : State) : (obsCount q s).mem = s.mem := by
  unfold obsCount
  generalize s.obsConfigs.filter (fun p => q p.2) = l
  induction l generalizing s with
  | nil => rfl
  | cons p t ih => exact ih (obsBump p.1 s)

theorem snapTrigger_mem (s : State) : (snapTrigger n s).mem = s.mem := by
  unfold snapTrigger
  split
  · dsimp only
    rw [setF_mem, set64_mem]
  · rfl

theorem raised_mem (s : State) : (raised e i n s).mem = s.mem := by
  have hstamped : (raiseRec e i n (raiseStamp e i n (raiseBit e i s))).mem = s.mem := by
    rw [raiseRec_mem, raiseStamp_mem, raiseBit_mem]
  unfold raised raiseSnap obsEvent
  split
  · rw [snapTrigger_mem, obsCount_mem, hstamped]
  · rw [obsCount_mem, hstamped]

theorem release_mem (g r : Nat) (s : State) : (release g r s).mem = s.mem := by
  unfold release
  dsimp only
  split
  · split
    · rfl
    · rfl
  · rfl

theorem releaseDue_mem (g r : Nat) (s : State) : (releaseDue g r n s).mem = s.mem := by
  unfold releaseDue
  dsimp only
  split
  · exact release_mem _ _ _
  · rfl

theorem coalRefresh_mem (g r : Nat) (s : State) : (coalRefresh g r n s).mem = s.mem := by
  unfold coalRefresh
  dsimp only
  split
  · rw [releaseDue_mem]
    split
    · rfl
    · exact setCoal_mem _ _ _ _
  · exact setCoal_mem _ _ _ _

theorem coalRaise_mem (g b r : Nat) (s : State) : (coalRaise g b r n s).mem = s.mem := by
  unfold coalRaise
  dsimp only
  split
  · split
    · rw [releaseDue_mem, setCoal_mem]
    · exact coalRefresh_mem _ _ _ _
  · rfl

theorem irqRefresh_mem (s : State) : (irqRefresh s).mem = s.mem := by
  unfold irqRefresh
  dsimp only
  rw [setF_mem, setF_mem, setF_mem]

/-- Without SPILL a raise leaves Marrow. -/
theorem raise_mem (he : e < 256) (hnone : summaryOf e = none) (h : s.noSpill = true) : (raise e i s).mem = s.mem := by
  have hoff : (raised e i s.now s).noSpill = true := by
    rw [State.noSpill, State.flag, getF_of_rd (f := OBS_CTL_SPILL) (s := s) (raised_rd_other _ _ he hnone (by decide) (by decide))]
    exact h
  have htraced : (raisedTraced e i s.now s).mem = s.mem := by
    unfold raisedTraced
    split
    · exact (trace_mem _ _ _ _ _ hoff).trans (raised_mem _ _ s)
    · exact raised_mem _ _ s
  unfold raise
  rcases raiseAt_eq e i s.now s with h | h
  · rw [h]
  · rw [h, irqRefresh_mem, coalRaise_mem, coalRaise_mem, htraced]

end

end Sys2Proof.Machine
end

section
/-! SUPPORT. Marrow's requests admitted and answered (R282, R297 to R299): what admission leaves of the lists and registers,
and what an answer that nothing holds back gives. -/

namespace Sys2Proof.Machine

/-! ## Serving -/

/-- What serving requests leaves: the answers held back, no request listed that was not, and every register but those that
show how many requests a requester has outstanding. -/
structure Served (s u : State) : Prop where
  held : u.mrw.held = s.mrw.held
  listed : ∀ r ∈ u.mrw.out ++ u.mrw.queue, ∃ q ∈ s.mrw.out ++ s.mrw.queue, q.id = r.id ∧ q.req.who = r.req.who
  rd : ∀ b, (∀ w, b ≠ MRW_RQr_CNT2 w) → u.rd b = s.rd b

section
variable {s u v : State} {p : MPend}

theorem Served.refl (s : State) : Served s s := ⟨rfl, fun r hr => ⟨r, hr, rfl, rfl⟩, fun _ _ => rfl⟩

theorem Served.trans (h : Served s u) (hv : Served u v) : Served s v where
  held := hv.held.trans h.held
  listed r hr := by
    obtain ⟨q, hq, hid, hwho⟩ := hv.listed r hr
    obtain ⟨x, hx, hid', hwho'⟩ := h.listed q hq
    exact ⟨x, hx, hid'.trans hid, hwho'.trans hwho⟩
  rd b hb := (hv.rd b hb).trans (h.rd b hb)

theorem Served.ite_refl {c : Prop} [Decidable c] (h : Served s u) : Served s (if c then s else u) := by
  split
  · exact .refl s
  · exact h

/-- A state that lists no other request and has the same registers. -/
theorem Served.of_subset (hheld : u.mrw.held = s.mrw.held) (hlist : u.mrw.out ++ u.mrw.queue ⊆ s.mrw.out ++ s.mrw.queue)
    (hregs : u.regs = s.regs) : Served s u :=
  ⟨hheld, fun r hr => ⟨r, hlist hr, rfl, rfl⟩, fun b _ => rd_of_regs hregs b⟩

theorem cfg_ne_cnt2 (w v : Nat) : MRW_RQr_CFG w ≠ MRW_RQr_CNT2 v := by
  unfold MRW_RQr_CFG MRW_RQr_CNT2
  omega

theorem cnt0_ne_cnt2 (w v : Nat) : MRW_RQr_CNT0 w ≠ MRW_RQr_CNT2 v := by
  unfold MRW_RQr_CNT0 MRW_RQr_CNT2
  omega

/-- A register below those of the requesters shows nothing of one. -/
theorem ne_cnt2_of_lt {b : Nat} (h : b < 0x31000) (w : Nat) : b ≠ MRW_RQr_CNT2 w := by
  unfold MRW_RQr_CNT2
  omega

/-- Where replies wait for nothing older and no other request is listed, they wait for nothing. -/
theorem owed_of_listed {w i : Nat} (hcfg : u.rd (MRW_RQr_CFG w) = s.rd (MRW_RQr_CFG w))
    (hlist : ∀ r ∈ u.mrw.out ++ u.mrw.queue, ∃ q ∈ s.mrw.out ++ s.mrw.queue, q.id = r.id ∧ q.req.who = r.req.who)
    (ho : s.owed w i = false) : u.owed w i = false := by
  have hflag : u.flag (MRW_RQr_CFG_ORDER w) = s.flag (MRW_RQr_CFG_ORDER w) :=
    congrArg (· != 0) (getF_of_rd (f := MRW_RQr_CFG_ORDER w) hcfg)
  unfold State.owed at ho ⊢
  rw [hflag]
  rcases Bool.and_eq_false_iff.mp ho with hoff | hnone
  · rw [hoff, Bool.false_and]
  · rw [Bool.and_eq_false_iff]
    refine .inr (List.any_eq_false.mpr fun r hr => ?_)
    obtain ⟨q, hq, hid, hwho⟩ := hlist r hr
    rw [← hid, ← hwho]
    exact List.any_eq_false.mp hnone q hq

theorem Served.owed (h : Served s u) {w i : Nat} (ho : s.owed w i = false) : u.owed w i = false :=
  owed_of_listed (h.rd _ (cfg_ne_cnt2 w)) h.listed ho

/-- A number that no listed request has, none has after serving. -/
theorem Served.unlisted (h : Served s u) {i : Nat} (hi : ∀ q ∈ s.mrw.out ++ s.mrw.queue, q.id ≠ i) :
    (u.mrw.out.any fun r => r.id == i) = false := by
  refine List.any_eq_false.mpr fun r hr => ?_
  obtain ⟨q, hq, hid, -⟩ := h.listed r (List.mem_append_left _ hr)
  rw [← hid]
  exact fun hbad => hi q hq (eq_of_beq hbad)

theorem outShow_mrw (w : Nat) (s : State) : (outShow w s).mrw = s.mrw := setF_mrw _ _ _

theorem outShow_mem (w : Nat) (s : State) : (outShow w s).mem = s.mem := setF_mem _ _ _

theorem outShow_rd (w : Nat) (s : State) {b : Nat} (hb : b ≠ MRW_RQr_CNT2 w) : (outShow w s).rd b = s.rd b :=
  rd_setF_other _ _ _ _ hb

/-- The count shown to a requester is none of what serving leaves. -/
theorem outShow_served (w : Nat) (h : Served s u) : Served s (outShow w u) where
  held := (congrArg Marrow.held (outShow_mrw w u)).trans h.held
  listed := by
    rw [outShow_mrw]
    exact h.listed
  rd b hb := (outShow_rd w u (hb w)).trans (h.rd b hb)

theorem mem_orderWrites {q : MReq} {l : List MPend} {r : MPend} (h : r ∈ orderWrites q l) :
    ∃ x ∈ l, x.id = r.id ∧ x.req.who = r.req.who := by
  obtain ⟨x, hx, rfl⟩ := List.mem_map.mp h
  refine ⟨x, hx, ?_⟩
  split
  · exact ⟨rfl, rfl⟩
  · exact ⟨rfl, rfl⟩

/-- What an admission leaves: the request at the end of those that await their completion, and a write's bytes in Marrow. -/
structure Admitted (p : MPend) (s u : State) : Prop where
  held : u.mrw.held = s.mrw.held
  out : ∃ q : MPend, q.id = p.id ∧ q.req.who = p.req.who ∧ u.mrw.out = s.mrw.out ++ [q]
  queue : u.mrw.queue = if p.req.write && p.cls == 0 then orderWrites p.req s.mrw.queue else s.mrw.queue
  mem : u.mem = if p.req.write then memPut p.req.addr p.req.data s.mem else s.mem
  rd : ∀ b, (∀ w, b ≠ MRW_RQr_CNT2 w) → u.rd b = s.rd b

theorem stored_mrw (c : Bool) (a : Nat) (l : List Byte) (s : State) : (if c then s.store a l else s).mrw = s.mrw := by
  split
  · rfl
  · rfl

theorem stored_mem (c : Bool) (a : Nat) (l : List Byte) (s : State) :
    (if c then s.store a l else s).mem = if c then memPut a l s.mem else s.mem := by
  split
  · rfl
  · rfl

theorem stored_regs (c : Bool) (a : Nat) (l : List Byte) (s : State) : (if c then s.store a l else s).regs = s.regs := by
  split
  · rfl
  · rfl

theorem mrwAdmit_admitted (p : MPend) (s : State) : Admitted p s (mrwAdmit p s) := by
  unfold mrwAdmit
  extract_lets k late found p1 s1 src
  have hmrw : s1.mrw = { s.mrw with windows := s1.mrw.windows } := by
    unfold s1 winAdmit
    dsimp only
    rw [stored_mrw]
  have hheld : s1.mrw.held = s.mrw.held := (congrArg Marrow.held hmrw :)
  have hout : s1.mrw.out = s.mrw.out := (congrArg Marrow.out hmrw :)
  have hqueue : s1.mrw.queue = s.mrw.queue := (congrArg Marrow.queue hmrw :)
  have hregs : s1.regs = s.regs := stored_regs _ _ _ _
  have hmem : s1.mem = if p.req.write then memPut p.req.addr p.req.data s.mem else s.mem := stored_mem _ _ _ _
  refine ⟨?_, ⟨p1, rfl, rfl, ?_⟩, ?_, (outShow_mem _ _).trans hmem, fun b hb => ?_⟩
  · rw [outShow_mrw]
    exact hheld
  · rw [outShow_mrw]
    dsimp only
    rw [hout]
  · rw [outShow_mrw]
    dsimp only
    rw [hqueue]
  · exact (outShow_rd _ _ (hb _)).trans (rd_of_regs hregs b)

/-- Serving a request takes it from its queue first. -/
theorem mrwAdmit_served (hp : p ∈ s.mrw.queue) :
    Served s (mrwAdmit p { s with mrw := { s.mrw with queue := s.mrw.queue.filter fun r => r.id != p.id } }) := by
  obtain ⟨hheld, ⟨q, hid, hwho, hout⟩, hqueue, -, hrd⟩ :=
    mrwAdmit_admitted p { s with mrw := { s.mrw with queue := s.mrw.queue.filter fun r => r.id != p.id } }
  refine ⟨hheld, fun r hr => ?_, fun b hb => (hrd b hb).trans (rd_of_regs (by dsimp only) b)⟩
  rw [hout, hqueue] at hr
  have hold {x : MPend} (hx : x ∈ s.mrw.queue.filter fun r => r.id != p.id) : x ∈ s.mrw.out ++ s.mrw.queue :=
    List.mem_append_right _ (List.mem_of_mem_filter hx)
  rcases List.mem_append.mp hr with hr | hr
  · rcases List.mem_append.mp hr with hr | hr
    · exact ⟨r, List.mem_append_left _ hr, rfl, rfl⟩
    · obtain rfl := List.mem_singleton.mp hr
      exact ⟨p, List.mem_append_right _ hp, hid.symm, hwho.symm⟩
  · split at hr
    · obtain ⟨x, hx, hsame⟩ := mem_orderWrites hr
      exact ⟨x, hold hx, hsame⟩
    · exact ⟨r, hold hr, rfl, rfl⟩

theorem headOf_mem {k c : Nat} (h : s.headOf k c = some p) : p ∈ s.mrw.queue := List.mem_of_find?_eq_some h

theorem nextServed_mem {k : Nat} (h : s.nextServed k = some p) : p ∈ s.mrw.queue := by
  have hfree {c : Nat} (hc : (if s.tagFree c then (s.headOf k c).filter fun p => !s.behind p else none) = some p) :
      p ∈ s.mrw.queue := by
    split at hc
    · exact headOf_mem (Option.filter_eq_some_iff.mp hc).1
    · cases hc
  unfold State.nextServed at h
  dsimp only at h
  split at h
  · rcases Option.or_eq_some_iff.mp h with h | ⟨-, h⟩
    · exact hfree h
    · exact hfree h
  · rcases Option.or_eq_some_iff.mp h with h | ⟨-, h⟩
    · exact hfree h
    · exact hfree h

/-- The request that stack k is to serve, if there is one and it fits, and what follows it. -/
def serveThen (k : Nat) (rest : State → State) (s : State) : Option MPend → State
  | none => s
  | some p =>
    if windowBytes < (s.window k).used + p.req.len then s
    else rest (mrwAdmit p { s with mrw := { s.mrw with queue := s.mrw.queue.filter fun r => r.id != p.id } })

theorem mrwServe_succ (k n : Nat) (s : State) : mrwServe k (n + 1) s = serveThen k (mrwServe k n) s (s.nextServed k) := rfl

theorem serveThen_served (k : Nat) {rest : State → State} (hrest : ∀ x, Served x (rest x)) {o : Option MPend}
    (ho : ∀ p, o = some p → p ∈ s.mrw.queue) : Served s (serveThen k rest s o) := by
  cases o with
  | none => exact .refl s
  | some p => exact .ite_refl ((mrwAdmit_served (ho p rfl)).trans (hrest _))

theorem mrwServe_served (k n : Nat) (s : State) : Served s (mrwServe k n s) := by
  induction n generalizing s with
  | zero => exact .refl s
  | succ n ih =>
    rw [mrwServe_succ]
    exact serveThen_served k ih fun _ => nextServed_mem

/-- With nothing queued no stack serves. -/
theorem mrwServe_idle (k : Nat) (h : s.mrw.queue = []) : mrwServe k s.mrw.queue.length s = s := by
  rw [h]
  rfl

/-! ## Releasing a tag -/

/-- A request leaves those that await their completion. -/
def released (p : MPend) (s : State) : State :=
  outShow p.req.who { s with mrw := { s.mrw with out := s.mrw.out.filter fun r => r.id != p.id } }

theorem mrwRelease_eq (p : MPend) (s : State) :
    mrwRelease p s = forEach (List.range 4) (fun k s => mrwServe k s.mrw.queue.length s) (released p s) := rfl

theorem released_mrw (p : MPend) (s : State) :
    (released p s).mrw = { s.mrw with out := s.mrw.out.filter fun r => r.id != p.id } := outShow_mrw _ _

theorem released_served (p : MPend) (s : State) : Served s (released p s) := by
  refine outShow_served _ (.of_subset rfl ?_ rfl)
  exact fun r hr => (List.mem_append.mp hr).elim (fun h => List.mem_append_left _ (List.mem_of_mem_filter h))
    (List.mem_append_right _)

theorem mrwRelease_of_released (p : MPend) (s : State) : Served (released p s) (mrwRelease p s) := by
  rw [mrwRelease_eq]
  exact forEach_rel Served.refl Served.trans (fun k _ x => mrwServe_served k _ x) _

theorem mrwRelease_served (p : MPend) (s : State) : Served s (mrwRelease p s) :=
  (released_served p s).trans (mrwRelease_of_released p s)

/-- The number of a request is free once its tag is, where no queued request has it. -/
theorem mrwRelease_unlisted (hq : ∀ q ∈ s.mrw.queue, q.id ≠ p.id) :
    ((mrwRelease p s).mrw.out.any fun r => r.id == p.id) = false := by
  refine (mrwRelease_of_released p s).unlisted fun q hmem => ?_
  rw [released_mrw] at hmem
  rcases List.mem_append.mp hmem with h | h
  · exact bne_iff_ne.mp (List.mem_filter.mp h).2
  · exact hq q h

/-- With nothing queued the tag alone is freed. -/
theorem mrwRelease_idle (h : s.mrw.queue = []) : mrwRelease p s = released p s := by
  have hidle (k : Nat) : mrwServe k (released p s).mrw.queue.length (released p s) = released p s := by
    refine mrwServe_idle k ?_
    rw [released_mrw]
    exact h
  rw [mrwRelease_eq, forEach_range_four]
  simp only [hidle]

/-! ## Answering -/

/-- Marrow with a reply shown. -/
def Marrow.saying (id code : Nat) (data : List Byte) (m : Marrow) : Marrow := { m with reply := some (id, code, data) }

/-- What an answer leaves beside its counter: the reply shown, and all of Marrow else. -/
structure Answered (id code : Nat) (data : List Byte) (s u : State) : Prop where
  mrw : u.mrw = s.mrw.saying id code data
  mem : u.mem = s.mem
  rd : ∀ b, b < 0x31000 → u.rd b = s.rd b

theorem Answered.reply {id code : Nat} {data : List Byte} (h : Answered id code data s u) :
    u.mrw.reply = some (id, code, data) := (congrArg Marrow.reply h.mrw :)

theorem Answered.out {id code : Nat} {data : List Byte} (h : Answered id code data s u) : u.mrw.out = s.mrw.out :=
  (congrArg Marrow.out h.mrw :)

theorem Answered.queue {id code : Nat} {data : List Byte} (h : Answered id code data s u) : u.mrw.queue = s.mrw.queue :=
  (congrArg Marrow.queue h.mrw :)

theorem Answered.held {id code : Nat} {data : List Byte} (h : Answered id code data s u) : u.mrw.held = s.mrw.held :=
  (congrArg Marrow.held h.mrw :)

/-- The counter of an answer's code steps; codes without one count nothing. -/
def answerCounted (who code : Nat) (s : State) : State :=
  if code = 1 then s.bump (MRW_RQr_CNT0_DEFER who) else if code = 2 then s.bump (MRW_RQr_CNT0_REFCAP who)
  else if code = 3 then s.bump (MRW_RQr_CNT1_REFCLS who) else if code = 4 then s.bump (MRW_RQr_CNT1_VOID who) else s

theorem mrwAnswer_eq (id who code : Nat) (data : List Byte) (s : State) : mrwAnswer id who code data s =
    obsReply who code (answerCounted who code { s with mrw := s.mrw.saying id code data }) := rfl

/-- It is a counter of the requester, or none. -/
theorem answerCounted_cases (who code : Nat) (s : State) :
    answerCounted who code s = s ∨ ∃ f : Fld, 0x31000 ≤ f.reg ∧ answerCounted who code s = s.bump f := by
  have hcnt0 : 0x31000 ≤ MRW_RQr_CNT0 who := by
    unfold MRW_RQr_CNT0
    omega
  have hcnt1 : 0x31000 ≤ MRW_RQr_CNT1 who := by
    unfold MRW_RQr_CNT1
    omega
  unfold answerCounted
  split
  · exact .inr ⟨_, hcnt0, rfl⟩
  split
  · exact .inr ⟨_, hcnt0, rfl⟩
  split
  · exact .inr ⟨_, hcnt1, rfl⟩
  split
  · exact .inr ⟨_, hcnt1, rfl⟩
  · exact .inl rfl

theorem mrwAnswer_answered (id who code : Nat) (data : List Byte) (s : State) :
    Answered id code data s (mrwAnswer id who code data s) := by
  have hcount : Answered id code data s (answerCounted who code { s with mrw := s.mrw.saying id code data }) := by
    rcases answerCounted_cases who code { s with mrw := s.mrw.saying id code data } with h | ⟨f, hf, h⟩
    · rw [h]
      exact ⟨rfl, rfl, fun b _ => rd_of_regs (by dsimp only) b⟩
    · rw [h]
      exact ⟨bump_mrw _ _, bump_mem _ _,
        fun b hb => (rd_bump_other _ _ _ (by omega)).trans (rd_of_regs (by dsimp only) b)⟩
  rw [mrwAnswer_eq]
  unfold obsReply
  exact ⟨(obsCount_step _ _).mrw.trans hcount.mrw, (obsCount_mem _ _).trans hcount.mem,
    fun b hb => (obsCount_rd _ _ b).trans (hcount.rd b hb)⟩

theorem mrwAnswer_refused (id who : Nat) (data : List Byte) (s : State) :
    Counted (MRW_RQr_CNT0_REFCAP who) s (mrwAnswer id who 2 data s) := by
  rw [mrwAnswer_eq]
  unfold obsReply answerCounted
  rw [if_neg (by decide), if_pos rfl, Counted, getF_of_rd (obsCount_rd _ _ _), counted_bump _ _ (Nat.zero_le 15) (by decide : 15 < 32)]
  rw [getF_of_rd (f := MRW_RQr_CNT0_REFCAP who) (rd_of_regs (by dsimp only) _)]

/-- An answer that the order of replies allows, with none held back, is given at once. -/
theorem mrwReplyTo_unheld {id who : Nat} (code : Nat) (data : List Byte) (ho : s.owed who id = false) (hh : s.mrw.held = []) :
    mrwReplyTo id who code data s = mrwAnswer id who code data s := by
  have hsay : mrwSay id who code data s = mrwAnswer id who code data s := by
    unfold mrwSay
    rw [ho, if_neg (by decide)]
  have hheld : (mrwAnswer id who code data s).mrw.held = [] := (mrwAnswer_answered id who code data s).held.trans hh
  unfold mrwReplyTo
  rw [hsay]
  dsimp only
  rw [hheld]
  rfl

end

end Sys2Proof.Machine
end

section
/-! SUPPORT. Marrow's completions, windows, patrol and regions (R153, R283, R294, R295, R297 to R299), and the statement on them. -/

namespace Sys2Proof.Machine

/-! ## ECC -/

/-- What the ECC leaves: the lists of requests, every register above its own and the snapshot's but the trace's, and, without
SPILL, every byte. -/
structure EccLeft (s u : State) : Prop where
  held : u.mrw.held = s.mrw.held
  out : u.mrw.out = s.mrw.out
  queue : u.mrw.queue = s.mrw.queue
  rd : ∀ b, 0x300E0 ≤ b → b ≠ OBS_TWP ∧ b ≠ OBS_TLOST → u.rd b = s.rd b
  mem : s.noSpill = true → u.mem = s.mem

section
variable {s u : State}

theorem raise_eccLeft {e : Nat} (i : Nat) (he : e < 256) (hnone : summaryOf e = none) (s : State) : EccLeft s (raise e i s) where
  held := congrArg Marrow.held (raise_step e i s).mrw
  out := congrArg Marrow.out (raise_step e i s).mrw
  queue := congrArg Marrow.queue (raise_step e i s).mrw
  rd b hb hobs := raise_rd_other i he hnone (.inr (by omega)) (.inr hb) hobs
  mem h := raise_mem i he hnone h

theorem EccLeft.refl (s : State) : EccLeft s s := ⟨rfl, rfl, rfl, fun _ _ _ => rfl, fun _ => rfl⟩

theorem EccLeft.trans {v : State} (h : EccLeft s u) (hv : EccLeft u v) : EccLeft s v where
  held := hv.held.trans h.held
  out := hv.out.trans h.out
  queue := hv.queue.trans h.queue
  rd b hb hobs := (hv.rd b hb hobs).trans (h.rd b hb hobs)
  mem hoff := by
    have hspill : u.noSpill = true := by
      rw [State.noSpill, State.flag, getF_of_rd (f := OBS_CTL_SPILL) (s := s) (h.rd _ (by decide) (by decide))]
      exact hoff
    exact (hv.mem hspill).trans (h.mem hoff)

/-- A field of one of the ECC's registers is placed. -/
theorem setF_eccLeft {f : Fld} (hf : f.reg < 0x300E0) (n : Nat) (s : State) : EccLeft s (s.setF f n) where
  held := congrArg Marrow.held (setF_mrw s f n)
  out := congrArg Marrow.out (setF_mrw s f n)
  queue := congrArg Marrow.queue (setF_mrw s f n)
  rd b hb _ := rd_setF_other _ _ _ _ (by omega)
  mem _ := setF_mem _ _ _

theorem bump_eccLeft {f : Fld} (hf : f.reg < 0x300E0) (s : State) : EccLeft s (s.bump f) := setF_eccLeft hf _ s

theorem ecc_reg_lt {k : Nat} (hk : k < 4) : MRW_ECC k < 0x30090 := by
  unfold MRW_ECC
  omega

/-- A raise leaves the ECC's registers. -/
theorem raise_ecc {e : Nat} (i : Nat) (he : e < 256) (hnone : summaryOf e = none) (s : State) {b : Nat} (hlo : 0x2000 ≤ b)
    (hb : b < 0x300CC) : (raise e i s).rd b = s.rd b :=
  raise_rd_other i he hnone (.inr hlo) (.inl hb) (by unfold OBS_TWP OBS_TLOST; omega)

theorem eccFix_shows {k : Nat} (hk : k < 4) (d : Nat) (s : State) :
    EccLeft s (eccFix k d s) ∧ Counted (MRW_ECC_CE k) s (eccFix k d s) := by
  have hreg := ecc_reg_lt hk
  have hlo : 0x2000 ≤ MRW_ECC k := by
    unfold MRW_ECC
    omega
  unfold eccFix
  extract_lets key old l s1 src s2
  have hleft : EccLeft s s1 := bump_eccLeft (by exact hreg.trans (by decide)) s
  have hcount : Counted (MRW_ECC_CE k) s s1 := counted_bump s (MRW_ECC_CE k) (by decide : 16 ≤ 31) (by decide : 31 < 32)
  clear_value s1
  have hregs : s2.regs = s1.regs := by
    unfold s2
    dsimp only
  have hfixed : EccLeft s s2 := by
    obtain ⟨hheld, hout, hqueue, hrd, hmem⟩ := hleft
    exact ⟨hheld, hout, hqueue, fun b hb hobs => (rd_of_regs hregs b).trans (hrd b hb hobs), hmem⟩
  have hcounted : Counted (MRW_ECC_CE k) s s2 := (getF_of_rd (rd_of_regs hregs _)).trans hcount
  clear_value s2
  split
  · refine ⟨(hfixed.trans (setF_eccLeft (by exact hreg.trans (by decide)) _ _)).trans
      (raise_eccLeft _ (by decide) (by decide) _), ?_⟩
    unfold Counted at hcounted ⊢
    rw [← hcounted, getF_of_rd (raise_ecc _ (by decide) (by decide) _ hlo (hreg.trans (by decide))),
      getF_setF_apart _ _ _ _ (by simp [MRW_ECC_CE, MRW_ECC_SUSPECT])]
  · exact ⟨hfixed, hcounted⟩

/-- An uncorrectable line: counted, and its address shown. -/
theorem eccDead_shows (a : Nat) (s : State) : EccLeft s (eccDead a s) ∧ Counted (MRW_ECC_UE (stackOf a)) s (eccDead a s) ∧
    (eccDead a s).get64 MRW_ECC_ADDR_LO MRW_ECC_ADDR_HI = a % 2 ^ 64 := by
  have hreg := ecc_reg_lt (k := stackOf a) (Nat.mod_lt _ (by decide))
  have hlo : 0x2000 ≤ MRW_ECC (stackOf a) := by
    unfold MRW_ECC
    omega
  have hset (u : State) : EccLeft u (u.set64 MRW_ECC_ADDR_LO MRW_ECC_ADDR_HI a) := by
    refine ⟨congrArg Marrow.held (set64_mrw _ _ _ _), congrArg Marrow.out (set64_mrw _ _ _ _),
      congrArg Marrow.queue (set64_mrw _ _ _ _), fun b hb _ => rd_set64_other _ _ _ _ _ ?_ ?_, fun _ => set64_mem _ _ _ _⟩
    · unfold MRW_ECC_ADDR_LO
      omega
    · unfold MRW_ECC_ADDR_HI
      omega
  have hraise (u : State) {b : Nat} (hb : 0x2000 ≤ b) (hb' : b < 0x300CC) : (raise evEccUe (stackOf a) u).rd b = u.rd b :=
    raise_ecc _ (by decide) (by decide) u hb hb'
  unfold eccDead
  dsimp only
  refine ⟨((bump_eccLeft (by exact hreg.trans (by decide)) s).trans (hset _)).trans
    (raise_eccLeft _ (by decide) (by decide) _), ?_, ?_⟩
  · have hlast : MRW_ECC (stackOf a) < 0x30094 := hreg.trans (by decide)
    have hother := rd_set64_other (s.bump (MRW_ECC_UE (stackOf a))) MRW_ECC_ADDR_LO MRW_ECC_ADDR_HI a _ hreg.ne hlast.ne
    unfold Counted
    rw [getF_of_rd (hraise _ hlo (hreg.trans (by decide))), getF_of_rd (f := MRW_ECC_UE (stackOf a)) hother]
    exact counted_bump s (MRW_ECC_UE (stackOf a)) (by decide : 8 ≤ 15) (by decide : 15 < 32)
  · rw [State.get64, hraise _ (by decide) (by decide), hraise _ (by decide) (by decide)]
    exact get64_set64 _ _ (by decide)

end

/-! ## Completions -/

section
variable {s : State} {id : Nat} {p : MPend}

/-- A pod is named by its number. -/
theorem podDead_lt {who : Nat} (h : s.podDead who = true) : who < 256 := of_decide_eq_true (Bool.and_eq_true_iff.mp h).1

theorem find_id {l : List MPend} (h : l.find? (fun r => r.id == id) = some p) : p.id = id := by
  simpa using List.find?_some h

/-- The completion of a request that nothing bars frees its tag, and its answer follows what the ECC of a read found. -/
theorem marrowReply_state (e : List (Nat × Ecc)) (hfind : s.mrw.out.find? (fun r => r.id == id) = some p)
    (hpod : s.podDead p.req.who = false) (howed : s.owed p.req.who id = false)
    (hvoid : p.req.write = true ∨ eccVoid (e.filter fun q => decide (64 * q.1 < p.req.len)) = false) :
    exec (.marrowReply id e) s = .next (mrwReplyTo id p.req.who (if p.late then 1 else 0) p.data
      (if p.req.write then mrwRelease p s
        else eccLines p.req.addr (e.filter fun q => decide (64 * q.1 < p.req.len)) (mrwRelease p s))) := by
  have hexec : exec (.marrowReply id e) s = execMarrowReply id e s := rfl
  have hnot : (!p.req.write && eccVoid (e.filter fun q => decide (64 * q.1 < p.req.len))) = false := by
    rcases hvoid with h | h
    · rw [h]
      rfl
    · rw [h, Bool.and_false]
  rw [hexec]
  unfold execMarrowReply
  rw [hfind]
  dsimp only
  rw [hpod, howed, hnot, if_neg (by decide), if_neg Bool.false_ne_true]

theorem marrowReply_write (e : List (Nat × Ecc)) (hfind : s.mrw.out.find? (fun r => r.id == id) = some p)
    (hpod : s.podDead p.req.who = false) (howed : s.owed p.req.who id = false) (hheld : s.mrw.held = [])
    (hwrite : p.req.write = true) (hqueue : s.mrw.queue = []) :
    Gives (.marrowReply id e) s fun t => t.mrw.reply = some (id, if p.late then 1 else 0, p.data) ∧
      (t.mrw.out.any fun r => r.id == id) = false ∧ t.mem = s.mem := by
  obtain rfl := find_id hfind
  refine ⟨_, marrowReply_state e hfind hpod howed (.inl hwrite), ?_⟩
  have hserved := mrwRelease_served p s
  rw [if_pos hwrite, mrwReplyTo_unheld _ _ (hserved.owed howed) (hserved.held.trans hheld)]
  have hanswer := mrwAnswer_answered p.id p.req.who (if p.late then 1 else 0) p.data (mrwRelease p s)
  refine ⟨hanswer.reply, ?_, hanswer.mem.trans ?_⟩
  · rw [hanswer.out]
    exact mrwRelease_unlisted fun q hq => absurd (hqueue ▸ hq) List.not_mem_nil
  · rw [mrwRelease_idle hqueue]
    exact outShow_mem _ _

theorem marrowReply_corrected (d : Nat) (hfind : s.mrw.out.find? (fun r => r.id == id) = some p)
    (hpod : s.podDead p.req.who = false) (howed : s.owed p.req.who id = false) (hheld : s.mrw.held = [])
    (hread : p.req.write = false) (hlen : 0 < p.req.len) (hqueue : ∀ q ∈ s.mrw.queue, q.id ≠ id) :
    Gives (.marrowReply id [(0, .corrected d)]) s fun t => t.mrw.reply = some (id, if p.late then 1 else 0, p.data) ∧
      Counted (MRW_ECC_CE (stackOf p.req.addr)) s t ∧ (t.mrw.out.any fun r => r.id == id) = false := by
  obtain rfl := find_id hfind
  have hline : [(0, Ecc.corrected d)].filter (fun q => decide (64 * q.1 < p.req.len)) = [(0, .corrected d)] := by
    simp [hlen]
  have hstate := marrowReply_state [(0, .corrected d)] hfind hpod howed (.inr (by rw [hline]; rfl))
  rw [hline, hread, if_neg Bool.false_ne_true] at hstate
  refine ⟨_, hstate, ?_⟩
  have hfix : eccLines p.req.addr [(0, .corrected d)] (mrwRelease p s) = eccFix (stackOf p.req.addr) d (mrwRelease p s) := by
    rw [eccLines, List.foldl_cons, List.foldl_nil, eccStep, Nat.mul_zero, Nat.add_zero]
  have hserved := mrwRelease_served p s
  obtain ⟨hleft, hcounted⟩ := eccFix_shows (k := stackOf p.req.addr) (Nat.mod_lt _ (by decide)) d (mrwRelease p s)
  have hreg := ecc_reg_lt (k := stackOf p.req.addr) (Nat.mod_lt _ (by decide))
  rw [hfix]
  generalize eccFix (stackOf p.req.addr) d (mrwRelease p s) = u at hleft hcounted ⊢
  have howes : u.owed p.req.who p.id = false := by
    refine owed_of_listed (hleft.rd _ ?_ ?_) ?_ (hserved.owed howed)
    · unfold MRW_RQr_CFG
      omega
    · unfold MRW_RQr_CFG OBS_TWP OBS_TLOST
      omega
    · rw [hleft.out, hleft.queue]
      exact fun r hr => ⟨r, hr, rfl, rfl⟩
  rw [mrwReplyTo_unheld _ _ howes (hleft.held.trans (hserved.held.trans hheld))]
  have hanswer := mrwAnswer_answered p.id p.req.who (if p.late then 1 else 0) p.data u
  refine ⟨hanswer.reply, ?_, ?_⟩
  · have hbefore : (mrwRelease p s).getF (MRW_ECC_CE (stackOf p.req.addr)) = s.getF (MRW_ECC_CE (stackOf p.req.addr)) :=
      getF_of_rd (hserved.rd _ (ne_cnt2_of_lt (hreg.trans (by decide))))
    have hafter := getF_of_rd (f := MRW_ECC_CE (stackOf p.req.addr)) (hanswer.rd _ (hreg.trans (by decide)))
    exact hafter.trans (hcounted.of_getF hbefore)
  · rw [hanswer.out, hleft.out]
    exact mrwRelease_unlisted hqueue

theorem marrowCompletionDiscard_counts (hqueue : s.mrw.queue = []) (hfind : s.mrw.out.find? (fun r => r.id == id) = some p)
    (hpod : s.podDead p.req.who = true) :
    Gives (.marrowCompletionDiscard id) s fun t => (t.mrw.out.any fun r => r.id == id) = false ∧
      Counted (MRW_RQr_CNT2_MDISC p.req.who) s t ∧ Counted (FAB_LPp_CNT1_MDISC p.req.who) s t ∧
      t.mrw.reply = s.mrw.reply ∧ t.mem = s.mem := by
  obtain rfl := find_id hfind
  have hexec : exec (.marrowCompletionDiscard p.id) s = .next
      (((released p s).bump (FAB_LPp_CNT1_MDISC p.req.who)).bump (MRW_RQr_CNT2_MDISC p.req.who)) := by
    have h : exec (.marrowCompletionDiscard p.id) s = execMarrowCompletionDiscard p.id s := rfl
    rw [h]
    unfold execMarrowCompletionDiscard
    rw [hfind]
    dsimp only
    rw [if_pos hpod, mrwRelease_idle hqueue]
  refine ⟨_, hexec, ?_⟩
  have hunlisted : ((released p s).mrw.out.any fun r => r.id == p.id) = false := by
    rw [← mrwRelease_idle hqueue]
    exact mrwRelease_unlisted fun q hq => absurd (hqueue ▸ hq) List.not_mem_nil
  have hlt : FAB_LPp_CNT1 p.req.who < 0x31000 := by
    have hwho := podDead_lt hpod
    unfold FAB_LPp_CNT1
    omega
  have hfab : (FAB_LPp_CNT1_MDISC p.req.who).reg ≠ (MRW_RQr_CNT2_MDISC p.req.who).reg := ne_cnt2_of_lt hlt _
  beta_reduce
  rw [bump_mrw, bump_mrw, bump_mem, bump_mem]
  refine ⟨hunlisted, ?_, ?_, (congrArg Marrow.reply (released_mrw p s) :), outShow_mem _ _⟩
  · refine (counted_bump _ (MRW_RQr_CNT2_MDISC p.req.who) (by decide : 16 ≤ 31) (by decide : 31 < 32)).of_getF ?_
    rw [getF_bump_apart _ _ _ (.inl hfab.symm)]
    unfold released outShow
    rw [getF_setF_apart _ _ _ _ (by simp [MRW_RQr_CNT2_MDISC, MRW_RQr_CNT2_OUT])]
    exact getF_of_rd (rd_of_regs (by dsimp only) _)
  · have hlast := getF_bump_apart ((released p s).bump (FAB_LPp_CNT1_MDISC p.req.who)) (MRW_RQr_CNT2_MDISC p.req.who)
      (FAB_LPp_CNT1_MDISC p.req.who) (.inl hfab)
    refine hlast.trans ((counted_bump _ (FAB_LPp_CNT1_MDISC p.req.who) (by decide : 0 ≤ 15) (by decide : 15 < 32)).of_getF ?_)
    exact getF_of_rd ((released_served p s).rd _ (ne_cnt2_of_lt hlt))

/-! ## Waiting and windows -/

/-- A request leaves its queue. -/
def dequeued (id : Nat) (s : State) : State := { s with mrw := { s.mrw with queue := s.mrw.queue.filter fun r => r.id != id } }

theorem dequeued_served (id : Nat) (s : State) : Served s (dequeued id s) := by
  refine .of_subset rfl (fun r hr => ?_) rfl
  exact (List.mem_append.mp hr).elim (List.mem_append_left _) fun h => List.mem_append_right _ (List.mem_of_mem_filter h)

theorem advance_served (n : Nat) (s : State) : Served s (s.advance n) := by
  refine .of_subset (congrArg Marrow.held (advance_mrw s n)) ?_ (advance_regs s n)
  rw [advance_mrw]
  exact List.Subset.refl _

theorem marrowWaitTimeout_refuses {n : Nat} (hfind : s.mrw.queue.find? (fun r => r.id == id) = some p)
    (hdue : p.arrived + Config.ticksOfUs (if p.cls = 1 then s.getF MRW_WAIT_W1 else 10 * s.getF MRW_WAIT_W2) ≤ (s.advance n).now)
    (howed : s.owed p.req.who id = false) (hheld : s.mrw.held = []) :
    Gives (.marrowWaitTimeout id n) s fun t => t.mrw.reply = some (id, 2, []) ∧
      t.mrw.queue = s.mrw.queue.filter (fun r => r.id != id) ∧ Counted (MRW_RQr_CNT0_REFCAP p.req.who) s t ∧ t.mem = s.mem := by
  have hserved : Served s (dequeued id (s.advance n)) := (advance_served n s).trans (dequeued_served id _)
  have hexec : exec (.marrowWaitTimeout id n) s = .next (mrwAnswer id p.req.who 2 [] (dequeued id (s.advance n))) := by
    have h : exec (.marrowWaitTimeout id n) s = execMarrowWaitTimeout id n s := rfl
    rw [h, ← mrwReplyTo_unheld 2 [] (hserved.owed howed) (hserved.held.trans hheld)]
    unfold execMarrowWaitTimeout
    dsimp only
    rw [show (s.advance n).mrw.queue.find? (fun r => r.id == id) = some p by rw [advance_mrw]; exact hfind]
    dsimp only
    rw [advance_getF, advance_getF, if_pos hdue]
    rfl
  refine ⟨_, hexec, ?_⟩
  have hanswer := mrwAnswer_answered id p.req.who 2 [] (dequeued id (s.advance n))
  refine ⟨hanswer.reply, hanswer.queue.trans ?_,
    (mrwAnswer_refused id p.req.who [] _).of_getF (getF_of_rd (hserved.rd _ (cnt0_ne_cnt2 _))),
    hanswer.mem.trans (advance_mem s n)⟩
  show (s.advance n).mrw.queue.filter _ = _
  rw [advance_mrw]

/-- A window of stack k begins afresh. -/
def windowOpened (k : Nat) (s : State) : State := { s with mrw := { s.mrw with windows := sset winNone k {} s.mrw.windows } }

theorem windowOpened_window (k : Nat) (s : State) : (windowOpened k s).window k = {} := by
  unfold windowOpened State.window
  dsimp only
  exact sget_sset_same _ _ _ _

/-- A request that waits alone, with a free tag, is the one its stack serves next. -/
theorem nextServed_single {k : Nat} (hqueue : s.mrw.queue = [p]) (hstack : stackOf p.req.addr = k) (hcls : p.cls = 1 ∨ p.cls = 2)
    (htag : s.tagFree p.cls = true) : s.nextServed k = some p := by
  have hbehind : s.behind p = false := by
    unfold State.behind
    rw [hqueue]
    simp
  have hhead (c : Nat) : s.headOf k c = if p.cls == c then some p else none := by
    unfold State.headOf
    rw [hqueue, List.find?_singleton]
    simp [hstack]
  have hfree (c : Nat) : (if s.tagFree c then (s.headOf k c).filter fun p => !s.behind p else none) =
      if p.cls == c then some p else none := by
    rw [hhead]
    by_cases hc : p.cls = c
    · rw [← hc, htag]
      simp [hbehind]
    · simp [hc]
  unfold State.nextServed
  dsimp only
  rw [hfree 1, hfree 2]
  rcases hcls with h | h
  · simp [h]
  · simp [h]

theorem marrowAdmissionWindow_admits {k n : Nat} (hk : k < 4) (hn : n % 4096 = 0) (hup : s.pwr.inReset = false)
    (hqueue : s.mrw.queue = [p]) (hstack : stackOf p.req.addr = k) (hcls : p.cls = 1 ∨ p.cls = 2)
    (htag : s.tagFree p.cls = true) (hfits : p.req.len ≤ windowBytes) :
    Gives (.marrowAdmissionWindow k n) s fun t => t.mrw.queue = [] ∧ (t.mrw.out.any fun r => r.id == p.id) = true ∧
      t.mem = if p.req.write then memPut p.req.addr p.req.data s.mem else s.mem := by
  have hlist : (windowOpened k (s.advance n)).mrw.queue = [p] := (congrArg Marrow.queue (advance_mrw s n)).trans hqueue
  have htagged : (windowOpened k (s.advance n)).tagFree p.cls = true := by
    unfold State.tagFree at htag ⊢
    rw [show (windowOpened k (s.advance n)).mrw.out = s.mrw.out from (congrArg Marrow.out (advance_mrw s n) :)]
    exact htag
  have hempty : (dequeued p.id (windowOpened k (s.advance n))).mrw.queue = [] := by
    unfold dequeued
    dsimp only
    rw [hlist]
    simp
  have hserve : mrwServe k 1 (windowOpened k (s.advance n)) = mrwAdmit p (dequeued p.id (windowOpened k (s.advance n))) := by
    rw [mrwServe_succ, nextServed_single hlist hstack hcls htagged, serveThen, windowOpened_window,
      if_neg (show ¬windowBytes < 0 + p.req.len by omega)]
    rfl
  have hexec : exec (.marrowAdmissionWindow k n) s =
      .next (mrwAdmit p (dequeued p.id (windowOpened k (s.advance n)))) := by
    have h : exec (.marrowAdmissionWindow k n) s = execMarrowAdmissionWindow k n s := rfl
    rw [h, ← hserve]
    unfold execMarrowAdmissionWindow
    rw [if_pos (by simp [hk, hn, hup])]
    dsimp only
    rw [show (s.advance n).mrw.queue.length = 1 by rw [advance_mrw, hqueue]; rfl]
    rfl
  refine ⟨_, hexec, ?_⟩
  obtain ⟨-, ⟨q, hid, -, hout⟩, hleft, hmem, -⟩ := mrwAdmit_admitted p (dequeued p.id (windowOpened k (s.advance n)))
  refine ⟨?_, ?_, hmem.trans ?_⟩
  · rw [hleft, hempty]
    exact ite_self _
  · rw [hout, List.any_append]
    simp [hid]
  · rw [show (dequeued p.id (windowOpened k (s.advance n))).mem = s.mem from advance_mem s n]

end

/-! ## The patrol -/

section
variable {s : State} {pr : Nat}

/-- The pass of the patrol that a percentage belongs to has begun. -/
def scrubBegun (pr : Nat) (s : State) : State := { s with mrw := { s.mrw with scrubAt := s.scrubPass pr } }

theorem scrubStep_state (hen : s.flag MRW_SCRUB_EN = true) (hdone : s.flag MRW_STAT_INIT_DONE = true) (hpr : pr ≤ 100)
    (hreached : s.scrubReached pr = true) (fixes : List (Nat × Nat)) (dead : List Nat)
    (hfixes : ∀ q ∈ fixes, q.1 < 4 ∧ q.2 < 255) : exec (.scrubStep pr fixes dead) s = .next
      ((forEach dead eccDead (fixes.foldl (fun s q => eccFix q.1 q.2 s) (scrubBegun pr s))).setF MRW_SCRUB_PROGRESS pr) := by
  have h : exec (.scrubStep pr fixes dead) s = execScrubStep pr fixes dead s := rfl
  have hall : fixes.all (fun q => decide (q.1 < 4) && decide (q.2 < 255)) = true :=
    List.all_eq_true.mpr fun q hq => by simp [hfixes q hq]
  rw [h]
  unfold execScrubStep
  rw [hen, hdone, hreached, hall, decide_eq_true hpr, if_pos (by decide)]
  rfl

theorem scrubBegun_getF (pr : Nat) (s : State) (f : Fld) : (scrubBegun pr s).getF f = s.getF f := getF_of_rd (rd_of_regs rfl _)

/-- What a step of the patrol shows after the ECC has left state u. -/
theorem scrubProgress_shows {u : State} (h : EccLeft (scrubBegun pr s) u) (hpr : pr ≤ 100) :
    (u.setF MRW_SCRUB_PROGRESS pr).getF MRW_SCRUB_PROGRESS = pr ∧
      (s.noSpill = true → (u.setF MRW_SCRUB_PROGRESS pr).mem = s.mem) := by
  refine ⟨getF_setF_fits _ _ _ (by decide) ?_, fun hoff => ?_⟩
  · have hbits : 2 ^ (MRW_SCRUB_PROGRESS.hi + 1 - MRW_SCRUB_PROGRESS.lo) = 256 := rfl
    omega
  · have hbegun : (scrubBegun pr s).noSpill = true := by
      rw [State.noSpill, State.flag, scrubBegun_getF]
      exact hoff
    exact (setF_mem _ _ _).trans (h.mem hbegun)

/-- The patrol's own register is none of a stack's. -/
theorem ecc_ne_scrub {k : Nat} (hk : k < 4) : MRW_ECC k ≠ MRW_SCRUB := by
  unfold MRW_ECC MRW_SCRUB
  omega

theorem scrubStep_fixes (hen : s.flag MRW_SCRUB_EN = true) (hdone : s.flag MRW_STAT_INIT_DONE = true) (hpr : pr ≤ 100)
    (hreached : s.scrubReached pr = true) {k d : Nat} (hk : k < 4) (hd : d < 255) :
    Gives (.scrubStep pr [(k, d)] []) s fun t => t.getF MRW_SCRUB_PROGRESS = pr ∧ Counted (MRW_ECC_CE k) s t ∧
      (s.noSpill = true → t.mem = s.mem) := by
  refine ⟨_, scrubStep_state hen hdone hpr hreached [(k, d)] [] (by simp [hk, hd]), ?_⟩
  obtain ⟨hleft, hcounted⟩ := eccFix_shows hk d (scrubBegun pr s)
  rw [List.foldl_cons, List.foldl_nil, forEach]
  obtain ⟨hprogress, hmem⟩ := scrubProgress_shows hleft hpr
  refine ⟨hprogress, ?_, hmem⟩
  have hkeep := getF_setF_apart (eccFix k d (scrubBegun pr s)) MRW_SCRUB_PROGRESS (MRW_ECC_CE k) pr (.inl (ecc_ne_scrub hk))
  exact hkeep.trans (hcounted.of_getF (scrubBegun_getF pr s _))

theorem scrubStep_dead (hen : s.flag MRW_SCRUB_EN = true) (hdone : s.flag MRW_STAT_INIT_DONE = true) (hpr : pr ≤ 100)
    (hreached : s.scrubReached pr = true) (a : Nat) :
    Gives (.scrubStep pr [] [a]) s fun t => t.getF MRW_SCRUB_PROGRESS = pr ∧ Counted (MRW_ECC_UE (stackOf a)) s t ∧
      t.get64 MRW_ECC_ADDR_LO MRW_ECC_ADDR_HI = a % 2 ^ 64 ∧ (s.noSpill = true → t.mem = s.mem) := by
  refine ⟨_, scrubStep_state hen hdone hpr hreached [] [a] (by simp), ?_⟩
  obtain ⟨hleft, hcounted, haddr⟩ := eccDead_shows a (scrubBegun pr s)
  rw [List.foldl_nil, show forEach [a] eccDead (scrubBegun pr s) = eccDead a (scrubBegun pr s) from rfl]
  obtain ⟨hprogress, hmem⟩ := scrubProgress_shows hleft hpr
  refine ⟨hprogress, ?_, ?_, hmem⟩
  · have hkeep := getF_setF_apart (eccDead a (scrubBegun pr s)) MRW_SCRUB_PROGRESS (MRW_ECC_UE (stackOf a)) pr
      (.inl (ecc_ne_scrub (Nat.mod_lt _ (by decide))))
    exact hkeep.trans (hcounted.of_getF (scrubBegun_getF pr s _))
  · rw [State.get64, rd_setF_other _ _ _ _ (by decide), rd_setF_other _ _ _ _ (by decide)]
    exact haddr

end

/-! ## The regions -/

section
variable {s : State} {m : Master}

/-- The checks of APPLY read the shadows and the number of channels. -/
theorem shadowsOk_congr {u : State} (hshadow : ∀ k < 5, u.shadow k = s.shadow k)
    (hchans : u.getF MRW_AUD_CFG_CHANS = s.getF MRW_AUD_CFG_CHANS) : u.shadowsOk = s.shadowsOk := by
  have hlist : (List.range 5).map u.shadow = (List.range 5).map s.shadow :=
    List.map_congr_left fun k hk => hshadow k (List.mem_range.mp hk)
  unfold State.shadowsOk
  rw [hlist, hchans, hshadow 1 (by decide)]

theorem mrwApply_state (h : s.reaches m MRW_REG_CMD = true) :
    exec (.mrwApply m) s = .next (regCmdWrite 1 (traceRegWrite m MRW_REG_CMD 1 s)) := by
  have hexec : exec (.mrwApply m) s = execMrwApply m s := rfl
  rw [hexec, execMrwApply, gated_reaches _ _ _ _ _ h]

/-- A write that is traced leaves the flag of the fixed regions. -/
theorem traced_fixed (m : Master) (s : State) :
    (traceRegWrite m MRW_REG_CMD 1 s).flag MRW_REG_STAT_FIXED = s.flag MRW_REG_STAT_FIXED :=
  congrArg (· != 0) ((traceRegWrite_within m MRW_REG_CMD 1 s).getF_below_obs (f := MRW_REG_STAT_FIXED) (by decide))

theorem mrwApply_takes (hr : s.reaches m MRW_REG_CMD = true) (hfixed : s.flag MRW_REG_STAT_FIXED = false)
    (hok : s.shadowsOk = true) :
    Gives (.mrwApply m) s fun t => t.getF MRW_REG_STAT_MATCH = 1 ∧ t.mrw.act = (List.range 5).map s.shadow ∧
      t.mrw.chans = s.getF MRW_AUD_CFG_CHANS ∧ (s.noSpill = true → t.mem = s.mem) := by
  refine ⟨_, mrwApply_state hr, ?_⟩
  have hreads {f : Fld} (hf : f.reg < 0x68000) : (traceRegWrite m MRW_REG_CMD 1 s).getF f = s.getF f :=
    (traceRegWrite_within m MRW_REG_CMD 1 s).getF_below_obs hf
  have hflag := traced_fixed m s
  have hmem := traceRegWrite_mem m MRW_REG_CMD 1 (s := s)
  generalize traceRegWrite m MRW_REG_CMD 1 s = u at hreads hflag hmem ⊢
  have hshadow (k : Nat) (hk : k < 5) : u.shadow k = s.shadow k := by
    unfold State.shadow
    rw [hreads (f := MRW_REG_BASE_BASE k) (show MRW_REG_BASE k < 0x68000 by unfold MRW_REG_BASE; omega),
      hreads (f := MRW_REG_SIZE_SIZE k) (show MRW_REG_SIZE k < 0x68000 by unfold MRW_REG_SIZE; omega)]
  have hchans : u.getF MRW_AUD_CFG_CHANS = s.getF MRW_AUD_CFG_CHANS := hreads (by decide)
  have hfit : u.shadowsOk = true := (shadowsOk_congr hshadow hchans).trans hok
  have hwrite : regCmdWrite 1 u = { u.setF MRW_REG_STAT_MATCH 1 with
      mrw := { (u.setF MRW_REG_STAT_MATCH 1).mrw with act := (List.range 5).map u.shadow, chans := u.getF MRW_AUD_CFG_CHANS } } := by
    unfold regCmdWrite
    rw [hflag, hfixed, hfit, if_neg (by decide), if_neg (by decide), if_neg (by decide)]
  rw [hwrite]
  refine ⟨?_, List.map_congr_left fun k hk => hshadow k (List.mem_range.mp hk), hchans, fun hoff => ?_⟩
  · exact (getF_of_rd (rd_of_regs (by dsimp only) _)).trans (getF_setF_fits u MRW_REG_STAT_MATCH 1 (by decide) (by decide))
  · dsimp only
    rw [setF_mem]
    exact hmem hoff

theorem mrwApply_locked (hr : s.reaches m MRW_REG_CMD = true) (hfixed : s.flag MRW_REG_STAT_FIXED = true) :
    Gives (.mrwApply m) s fun t => t.getF MRW_REFUSE_CODE = codeLocked ∧ t.mrw = s.mrw := by
  refine ⟨_, mrwApply_state hr, ?_⟩
  have hwrite : regCmdWrite 1 (traceRegWrite m MRW_REG_CMD 1 s) =
      refuse MRW_REFUSE codeLocked (traceRegWrite m MRW_REG_CMD 1 s) := by
    unfold regCmdWrite
    rw [traced_fixed, hfixed, if_neg (by decide), if_pos rfl]
  rw [hwrite]
  exact ⟨getF_refuse_code _ _ _ (by decide), (refuse_mrw _ _ _).trans (traceRegWrite_step _ _ _ _).mrw⟩

end

/-! ## The statement -/

/-- Settles O51: each clause is what its command leaves of Marrow's requests, patrol or regions, shown above for the command. -/
theorem marrowAnswers : Obligations.MarrowAnswers := by
  unfold Obligations.MarrowAnswers
  have off {b : Bool} (h : (!b) = true) : b = false := (Bool.not_eq_true' _).mp h
  exact ⟨fun s id e p hfind hpod howed hheld hwrite hqueue =>
      marrowReply_write e (eq_of_beq hfind) (off hpod) (off howed) (List.isEmpty_iff.mp hheld) hwrite (List.isEmpty_iff.mp hqueue),
    fun s id d p hfind hpod howed hheld hread hlen hqueue =>
      marrowReply_corrected d (eq_of_beq hfind) (off hpod) (off howed) (List.isEmpty_iff.mp hheld) (off hread)
        (of_decide_eq_true hlen) (by simpa using hqueue),
    fun s id p hqueue hfind hpod => marrowCompletionDiscard_counts (List.isEmpty_iff.mp hqueue) (eq_of_beq hfind) hpod,
    fun s id n p hfind hdue howed hheld =>
      marrowWaitTimeout_refuses (eq_of_beq hfind) (of_decide_eq_true hdue) (off howed) (List.isEmpty_iff.mp hheld),
    fun s k n p hk hn hup hqueue hstack hcls htag hfits =>
      marrowAdmissionWindow_admits (of_decide_eq_true hk) (eq_of_beq hn) (off hup) (eq_of_beq hqueue) (eq_of_beq hstack)
        (by simpa using hcls) htag (of_decide_eq_true hfits),
    fun s pr k d hen hdone hpr hreached hk hd =>
      scrubStep_fixes hen hdone (of_decide_eq_true hpr) hreached (of_decide_eq_true hk) (of_decide_eq_true hd),
    fun s pr a hen hdone hpr hreached => scrubStep_dead hen hdone (of_decide_eq_true hpr) hreached a,
    fun s m hr hfixed hok => mrwApply_takes hr (off hfixed) hok,
    fun s m hr hfixed => mrwApply_locked hr hfixed⟩

end Sys2Proof.Machine
end

section
/-! SUPPORT. What a traced write leaves of the paths and banks (R190 to R194, R275, R566): the families of registers that
are searched for paths and programmes, the banks, the paths and the checks on them. -/

namespace Sys2Proof.Machine

/-! ## Families that are searched -/

section
variable {α β : Type} {f : Nat × α → Option β} {k : Nat}

/-- A search that passes over a key does not see what is listed there. -/
theorem filterMap_sins_skip (h : ∀ w, f (k, w) = none) (v : α) (l : List (Nat × α)) :
    (sins k v l).filterMap f = l.filterMap f := by
  induction l with
  | nil => simp [sins, h]
  | cons p t ih =>
    rw [sins]
    split
    · rw [List.filterMap_cons_none (h v)]
    · rw [List.filterMap_cons, List.filterMap_cons, ih]

/-- A search that passes over a key does not see what is stored there. -/
theorem filterMap_sset_skip [DecidableEq α] (h : ∀ w, f (k, w) = none) (d : Nat → α) (v : α) (l : List (Nat × α)) :
    (sset d k v l).filterMap f = l.filterMap f := by
  have hrest : (l.filter fun p => p.1 != k).filterMap f = l.filterMap f := by
    induction l with
    | nil => rfl
    | cons p t ih =>
      obtain ⟨j, w⟩ := p
      by_cases hj : j = k
      · subst hj
        rw [List.filter_cons_of_neg (by simp), List.filterMap_cons_none (h w), ih]
      · rw [List.filter_cons_of_pos (by simpa using hj), List.filterMap_cons, List.filterMap_cons, ih]
  unfold sset
  dsimp only
  split
  · exact hrest
  · exact (filterMap_sins_skip h v _).trans hrest

end

/-- From s to u a search of a family below OBS finds the same copies. -/
def SameFamilies (s u : State) : Prop :=
  ∀ base stride count, 0 < stride → base + stride * count ≤ 0x68000 →
    u.touched base stride count = s.touched base stride count

section
variable {s u v : State}

theorem SameFamilies.refl (s : State) : SameFamilies s s := fun _ _ _ _ _ => rfl

theorem SameFamilies.trans (h : SameFamilies s u) (hv : SameFamilies u v) : SameFamilies s v :=
  fun b i c hi hc => (hv b i c hi hc).trans (h b i c hi hc)

theorem SameFamilies.of_regs (h : SameFamilies s u) (hr : v.regs = u.regs) : SameFamilies s v :=
  h.trans fun base stride count _ _ => by rw [State.touched, State.touched, hr]

/-- A write from OBS on lies past every copy of such a family. -/
theorem SameFamilies.setF (h : SameFamilies s u) (f : Fld) (n : Nat) (hf : 0x68000 ≤ f.reg) :
    SameFamilies s (u.setF f n) := by
  refine h.trans fun base stride count hs hc => filterMap_sset_skip (fun w => if_neg ?_) _ _ _
  have hpast : count ≤ (f.reg - base) / stride := (Nat.le_div_iff_mul_le hs).mpr (by rw [Nat.mul_comm]; omega)
  simp only [Bool.and_eq_true, decide_eq_true_eq, not_and]
  exact fun _ => by omega

theorem spillWrite_families (r : TraceRec) (s : State) : SameFamilies s (spillWrite r s) := by
  unfold spillWrite
  dsimp only
  split
  · exact .refl s
  split
  · exact (SameFamilies.refl s).of_regs rfl
  · exact (SameFamilies.refl s).setF _ _ (by decide)

theorem traceWrite_families (r : TraceRec) (s : State) : SameFamilies s (traceWrite r s) := by
  unfold traceWrite
  dsimp only
  exact (((SameFamilies.refl s).of_regs rfl).setF _ _ (by decide)).trans (spillWrite_families r _)

theorem trace_families (k i src d n : Nat) (s : State) : SameFamilies s (trace k i src d n s) := by
  unfold trace
  dsimp only
  split
  · exact .refl s
  split
  · exact ((SameFamilies.refl s).setF OBS_TLOST_CNT _ (by decide)).of_regs rfl
  · refine SameFamilies.trans ?_ (traceWrite_families _ _)
    split
    · exact (traceWrite_families _ s).of_regs rfl
    · exact .refl s

end

/-! ## A traced write -/

/-- State u is s with a trace record, or none, written. -/
structure Traced (s u : State) : Prop where
  step : TraceStep s u
  within : Within [(0x68000, 0x70000)] s u
  families : SameFamilies s u

theorem traceRegWrite_traced (m : Master) (a w : Nat) (s : State) : Traced s (traceRegWrite m a w s) where
  step := traceRegWrite_step m a w s
  within := traceRegWrite_within m a w s
  families := by
    unfold traceRegWrite
    split
    · exact trace_families _ _ _ _ _ s
    · exact .refl s

/-- A search names copies of its family only. -/
theorem lt_of_mem_touched {s : State} {base stride count n : Nat} (h : n ∈ s.touched base stride count) : n < count := by
  obtain ⟨p, -, hp⟩ := List.mem_filterMap.mp h
  split at hp
  next hin =>
    simp only [Bool.and_eq_true, decide_eq_true_eq] at hin
    exact Option.some.inj hp ▸ hin.2
  · cases hp

theorem TraceStep.banks {s u : State} (h : TraceStep s u) : u.banks = s.banks := (congrArg State.banks h.eq :)

section
variable {s u : State} (h : Traced s u)
include h

theorem Traced.getF {f : Fld} (hf : f.reg < 0x68000) : u.getF f = s.getF f := h.within.getF_below_obs hf

theorem Traced.flag {f : Fld} (hf : f.reg < 0x68000) : u.flag f = s.flag f := congrArg (· != 0) (h.getF hf)

theorem Traced.now : u.now = s.now := now_of_syscnt h.step.syscnt

theorem Traced.hdr : u.hdr = s.hdr := congrArg (fun b : Boot => b.bs.getD {}) h.step.eventStep.boot

theorem Traced.path (n : Nat) : u.path n = s.path n := congrArg (sget pathNone · n) h.step.eventStep.paths

theorem Traced.bank (b : Nat) : u.bank b = s.bank b := congrArg (sget bankNone · b) h.step.banks

theorem Traced.ktOwned : u.ktOwned = s.ktOwned := traced_feat h.within (by decide)

theorem Traced.poolPath (n : Nat) : u.poolPath n = s.poolPath n := by
  rw [State.poolPath, State.poolPath, h.path, h.getF (by decide), h.getF (by decide)]

/-- A search of a family below OBS, narrowed by a test that agrees on the family's copies, finds the same copies. -/
theorem Traced.search {base stride count : Nat} (hs : 0 < stride) (hc : base + stride * count ≤ 0x68000)
    {p q : Nat → Bool} (hpq : ∀ n < count, p n = q n) :
    (u.touched base stride count).filter p = (s.touched base stride count).filter q := by
  rw [h.families _ _ _ hs hc]
  exact List.filter_congr fun n hn => hpq n (lt_of_mem_touched hn)

theorem Traced.bankUsers (b : Nat) : u.bankUsers b = s.bankUsers b := by
  have hlive : u.livePaths = s.livePaths := h.search (by decide) (by decide) fun n hn => by
    rw [h.getF (by simp only [PTHn_STAT_STATE, PTHn_STAT]; omega)]
  rw [State.bankUsers, State.bankUsers, hlive]
  refine congrArg List.length (List.filter_congr fun n hn => ?_)
  have hlt : n < 512 := lt_of_mem_touched (List.mem_of_mem_filter hn)
  rw [h.getF (by simp only [PTHn_CTL_BANK, PTHn_CTL]; omega)]

theorem Traced.poolUsed : u.poolUsed = s.poolUsed :=
  congrArg List.length <| h.search (by decide) (by decide) fun n hn =>
    h.flag (by simp only [PTHn_STAT_RS_ACT, PTHn_STAT]; omega)

theorem Traced.inFade (kind n : Nat) : u.inFade kind n = s.inFade kind n := by
  have hprogs : u.fadeProgs kind n = s.fadeProgs kind n := h.search (by decide) (by decide) fun p hp => by
    rw [h.flag (by simp only [FOLp_STAT_XFADE, FOLp_STAT]; omega), h.getF (by simp only [FOLp_SRC_AKIND, FOLp_SRC]; omega),
      h.getF (by simp only [FOLp_SRC_ANUM, FOLp_SRC]; omega), h.getF (by simp only [FOLp_SRC_IKIND, FOLp_SRC]; omega),
      h.getF (by simp only [FOLp_SRC_INUM, FOLp_SRC]; omega)]
  rw [State.inFade, State.inFade, hprogs]

theorem Traced.bankUnfit {n : Nat} (hn : n < 512) : u.bankUnfit n = s.bankUnfit n := by
  have hctl {f : Fld} (hf : f.reg = PTHn_CTL n) : u.getF f = s.getF f := h.getF (by rw [hf, PTHn_CTL]; omega)
  rw [State.bankUnfit, State.bankUnfit, hctl rfl, hctl rfl, hctl rfl, h.bank]

end

end Sys2Proof.Machine
end

section
/-! SUPPORT. The commands of the coefficient banks and of the paths (R143, R186, R187, R191 to R194): OPEN, SEAL and a
coefficient; START, STOP and SYNC; the stage shifts; a VOID token. -/

namespace Sys2Proof.Machine

/-! ## Displays of a bank -/

/-- Showing the selected bank writes FAB_BANK_DATA, HDR and STAT. -/
theorem bankRefresh_rd (s : State) {a : Nat} (ha : a < 0x7104 ∨ 0x7114 ≤ a) : (bankRefresh s).rd a = s.rd a := by
  have hdata : FAB_BANK_DATA_COEF.reg = 0x7104 := rfl
  have hclass : FAB_BANK_HDR_CLASS.reg = 0x7108 := rfl
  have hlen : FAB_BANK_HDR_LEN.reg = 0x7108 := rfl
  have hsealed : FAB_BANK_STAT_SEALED.reg = 0x7110 := rfl
  have husers : FAB_BANK_STAT_USERS.reg = 0x7110 := rfl
  unfold bankRefresh
  extract_lets b k s1 s2
  rw [rd_setF_other _ _ _ _ (by omega), State.setB, rd_setF_other _ _ _ _ (by omega), rd_setF_other _ _ _ _ (by omega),
    rd_setF_other _ _ _ _ (by omega), rd_setF_other _ _ _ _ (by omega)]

theorem bankRefresh_getF (s : State) {f : Fld} (hf : f.reg < 0x7104 ∨ 0x7114 ≤ f.reg) :
    (bankRefresh s).getF f = s.getF f :=
  getF_of_rd (bankRefresh_rd s hf)

theorem bankRefresh_bank (s : State) (b : Nat) : (bankRefresh s).bank b = s.bank b := by
  refine congrArg (sget bankNone · b) ?_
  unfold bankRefresh
  dsimp only
  rw [setF_banks, setB_banks, setF_banks, setF_banks, setF_banks]

theorem bankRefresh_path (s : State) (n : Nat) : (bankRefresh s).path n = s.path n := by
  refine congrArg (sget pathNone · n) ?_
  unfold bankRefresh
  dsimp only
  rw [setF_paths, setB_paths, setF_paths, setF_paths, setF_paths]

/-! ## Banks -/

section
variable {s : State} {m : Master}

/-- A coefficient is stored at INDEX, which moves on (R191, R192). -/
theorem bankDataWrite_stores {v : Word} (hr : s.reaches m FAB_BANK_DATA = true)
    (hopen : (s.bank (s.getF FAB_BANK_SEL_BANK)).isSealed = false)
    (hroom : 2 * s.getF FAB_BANK_SEL_INDEX + 1 ≤ (s.bank (s.getF FAB_BANK_SEL_BANK)).len) :
    Gives (.bankDataWrite m v) s fun t =>
      sget coefNone (t.bank (s.getF FAB_BANK_SEL_BANK)).coefs (s.getF FAB_BANK_SEL_INDEX) = v.toNat % 2 ^ 24 ∧
        t.getF FAB_BANK_SEL_INDEX = (s.getF FAB_BANK_SEL_INDEX + 1) % 256 := by
  refine ⟨_, congrArg Host.Outcome.next (gated_reaches m FAB_BANK_DATA v.toNat (bankDataWrite v) s hr), ?_⟩
  have ht := traceRegWrite_traced m FAB_BANK_DATA v.toNat s
  generalize traceRegWrite m FAB_BANK_DATA v.toNat s = u at ht
  rw [← ht.getF (f := FAB_BANK_SEL_BANK) (by decide), ← ht.bank] at hopen hroom
  rw [← ht.getF (f := FAB_BANK_SEL_BANK) (by decide), ← ht.getF (f := FAB_BANK_SEL_INDEX) (by decide)] at *
  unfold bankDataWrite
  dsimp only
  rw [hopen, if_neg (by decide), if_neg (by omega)]
  constructor
  · rw [bankRefresh_bank, State.bank, setF_banks, ← State.bank, bank_setBank_same, sget_sset_same]
    rfl
  · rw [bankRefresh_getF _ (by decide)]
    exact getF_setF_same _ FAB_BANK_SEL_INDEX _ (by decide) (by decide)

/-- A write of FAB_BANK_CMD that reaches it is carried out after it is traced. -/
theorem bankCmd_traced {w : Nat} (hr : s.reaches m FAB_BANK_CMD = true) :
    ∃ u, Traced s u ∧ gated m FAB_BANK_CMD w (bankCmdWrite w) s = bankCmdWrite w u :=
  ⟨_, traceRegWrite_traced _ _ _ _, gated_reaches _ _ _ _ _ hr⟩

/-- OPEN unseals a bank that no path uses (R192). -/
theorem bankOpen_opens (hr : s.reaches m FAB_BANK_CMD = true) (hfree : s.bankUsers (s.getF FAB_BANK_SEL_BANK) = 0) :
    Gives (.bankOpen m) s fun t => (t.bank (s.getF FAB_BANK_SEL_BANK)).isSealed = false := by
  obtain ⟨u, ht, hexec⟩ := bankCmd_traced (w := 2) hr
  refine ⟨_, congrArg Host.Outcome.next hexec, ?_⟩
  have hopen : bankCmdWrite 2 u = bankOpen u := rfl
  rw [← ht.getF (f := FAB_BANK_SEL_BANK) (by decide)] at *
  rw [hopen, bankOpen]
  dsimp only
  rw [ht.bankUsers, hfree, if_neg (by decide), bankRefresh_bank, bank_setBank_same]

/-- SEAL seals a bank whose length suits its class (R192). -/
theorem bankSeal_seals (hr : s.reaches m FAB_BANK_CMD = true) (hodd : (s.bank (s.getF FAB_BANK_SEL_BANK)).len % 2 = 1)
    (hlow : 3 ≤ (s.bank (s.getF FAB_BANK_SEL_BANK)).len)
    (hhigh : (s.bank (s.getF FAB_BANK_SEL_BANK)).len ≤ bankMaxLen (s.bank (s.getF FAB_BANK_SEL_BANK)).cls) :
    Gives (.bankSeal m) s fun t => (t.bank (s.getF FAB_BANK_SEL_BANK)).isSealed = true := by
  obtain ⟨u, ht, hexec⟩ := bankCmd_traced (w := 1) hr
  refine ⟨_, congrArg Host.Outcome.next hexec, ?_⟩
  have hseal : bankCmdWrite 1 u = bankSeal u := rfl
  rw [← ht.getF (f := FAB_BANK_SEL_BANK) (by decide), ← ht.bank] at *
  rw [hseal, bankSeal]
  dsimp only
  rw [if_pos (by simp [hodd, hlow, hhigh]), bankRefresh_bank, bank_setBank_same]

end

/-! ## Writes to a path -/

/-- Master m may write the registers of path n (R201, R257). -/
structure PathOpen (s : State) (m : Master) (n : Nat) : Prop where
  lt : n < 512
  paths : n < s.hdr.paths
  owned : (s.ktOwned && decide (n < 4) && m != .personality) = false
  pool : (s.poolPath n && m != .core 1) = false

section
variable {s u : State} {m : Master} {n : Nat}

theorem PathOpen.pathGuard (h : PathOpen s m n) (f : State → State) : pathGuard m n f s = f s := by
  unfold Machine.pathGuard
  rw [if_neg (by have := h.paths; omega), h.owned, h.pool, if_neg (by decide), if_neg (by decide)]

theorem Traced.pathOpen (ht : Traced s u) (h : PathOpen s m n) : PathOpen u m n where
  lt := h.lt
  paths := ht.hdr ▸ h.paths
  owned := ht.ktOwned ▸ h.owned
  pool := ht.poolPath n ▸ h.pool

/-- A write of a register of the path that reaches it is carried out after it is traced. -/
theorem PathOpen.write (h : PathOpen s m n) {a : Nat} (hr : s.reaches m a = true) (w : Nat) (f : State → State) :
    ∃ u, Traced s u ∧ (if n < 512 then gated m a w (Machine.pathGuard m n f) s else s) = f u := by
  have ht := traceRegWrite_traced m a w s
  refine ⟨_, ht, ?_⟩
  rw [if_pos h.lt, gated_reaches _ _ _ _ _ hr, (ht.pathOpen h).pathGuard]

theorem Traced.pathF (ht : Traced s u) (hn : n < 512) {f : Fld} (hf : f.reg < 0x10040 + 0x40 * n) : u.getF f = s.getF f :=
  ht.getF (by omega)

theorem Traced.pathState (ht : Traced s u) (hn : n < 512) : u.getF (PTHn_STAT_STATE n) = s.getF (PTHn_STAT_STATE n) :=
  ht.pathF hn (by simp only [PTHn_STAT_STATE, PTHn_STAT]; omega)

theorem Traced.changeDue (ht : Traced s u) : u.changeDue = s.changeDue := congrArg (· + Config.ticksOfUs 1) ht.now

/-! ## START -/

theorem pathCmd_start (n : Nat) (s : State) : pathCmd n 1 s = pathStart n s := by
  unfold pathCmd
  dsimp only
  rw [if_neg (by decide), if_pos (by decide)]

/-- A START that nothing refuses leaves the path PENDING with its change due (R190, R193, R194). -/
theorem pathStart_pends (hn : n < 512) (hstate : s.getF (PTHn_STAT_STATE n) = 0) (hfit : s.bankUnfit n = false)
    (hpool : s.getF (PTHn_RS_NUM n) = 0 ∨ s.poolUsed < s.hdr.rspool) :
    (pathStart n s).getF (PTHn_STAT_STATE n) = 1 ∧ ((pathStart n s).path n).change = .start ∧
      ((pathStart n s).path n).due = s.changeDue := by
  have hroom : ¬ (s.getF (PTHn_RS_NUM n) != 0 && decide (s.hdr.rspool ≤ s.poolUsed)) = true := by
    simp only [Bool.and_eq_true, bne_iff_ne, decide_eq_true_eq]
    omega
  unfold pathStart
  dsimp only
  rw [if_neg (by rw [hstate]; decide), if_neg (by rw [hfit]; decide), if_neg hroom]
  have hpend (b : Bool) :
      ((s.setF ⟨PTHn_STAT n, 31, 29⟩ 1).setB ⟨PTHn_STAT n, 27, 27⟩ b).getF ⟨PTHn_STAT n, 31, 29⟩ = 1 :=
    (getF_setF_beside _ _ _ _ _ _ _ (by decide)).trans (getF_setF_bits_fit _ _ _ _ _ (by decide) (by decide))
  rw [bankRefresh_path, path_setPath_same,
    bankRefresh_getF _ (.inr (by simp only [PTHn_STAT_STATE, PTHn_STAT]; omega)), setPath_getF]
  exact ⟨hpend _, rfl, rfl⟩

/-- START of a STOPPED path that can start leaves it PENDING (R193, R194). -/
theorem pathStart_takes (h : PathOpen s m n) (hr : s.reaches m (PTHn_CMD n) = true)
    (hstate : s.getF (PTHn_STAT_STATE n) = 0) (hfit : s.bankUnfit n = false)
    (hpool : s.getF (PTHn_RS_NUM n) = 0 ∨ s.poolUsed < s.hdr.rspool) :
    Gives (.pathStart m n) s fun t =>
      t.getF (PTHn_STAT_STATE n) = 1 ∧ (t.path n).change = .start ∧ (t.path n).due = s.now + Config.ticksOfUs 1 := by
  obtain ⟨u, ht, hexec⟩ := h.write hr 1 (pathCmd n 1)
  refine ⟨_, congrArg Host.Outcome.next (hexec.trans (pathCmd_start n u)), ?_⟩
  obtain ⟨hpend, hchange, hdue⟩ := pathStart_pends h.lt ((ht.pathState h.lt).trans hstate) ((ht.bankUnfit h.lt).trans hfit)
    (by rwa [ht.poolUsed, ht.hdr, ht.pathF h.lt (by simp only [PTHn_RS_NUM, PTHn_RS]; omega)])
  exact ⟨hpend, hchange, hdue.trans ht.changeDue⟩

/-! ## STOP and SYNC -/

theorem pathCmd_stop (n : Nat) (s : State) : pathCmd n 2 s = pathStop n s := by
  unfold pathCmd
  dsimp only
  rw [if_neg (by decide), if_neg (by decide), if_pos (by decide)]

theorem pathCmd_sync (n : Nat) (s : State) : pathCmd n 4 s = pathSync n s := by
  unfold pathCmd
  dsimp only
  rw [if_neg (by decide), if_neg (by decide), if_neg (by decide), if_pos (by decide)]

/-- A change is asked for where none is (R194). -/
theorem pathAsk_first (c : Change) (hnone : (s.path n).change = .none) :
    ((pathAsk n c s).path n).change = c ∧ ((pathAsk n c s).path n).due = s.changeDue ∧
      ∀ f, (pathAsk n c s).getF f = s.getF f := by
  unfold pathAsk
  dsimp only
  rw [if_pos hnone, path_setPath_same]
  exact ⟨rfl, rfl, fun f => setPath_getF _ _ _ f⟩

/-- STOP of a RUNNING path that feeds no cross-fade asks for it to stop (R194). -/
theorem pathStop_asks (h : PathOpen s m n) (hr : s.reaches m (PTHn_CMD n) = true)
    (hstate : s.getF (PTHn_STAT_STATE n) = 2) (hfade : s.inFade 1 n = false) (hnone : (s.path n).change = .none) :
    Gives (.pathStop m n) s fun t =>
      (t.path n).change = .stop ∧ (t.path n).due = s.now + Config.ticksOfUs 1 ∧ t.getF (PTHn_STAT_STATE n) = 2 := by
  obtain ⟨u, ht, hexec⟩ := h.write hr 2 (pathCmd n 2)
  refine ⟨_, congrArg Host.Outcome.next hexec, ?_⟩
  have hu := (ht.pathState h.lt).trans hstate
  have hstop : pathCmd n 2 u = pathAsk n .stop u := by
    rw [pathCmd_stop, pathStop, hu, ht.inFade, hfade, if_neg (by decide), if_pos rfl, if_neg (by decide)]
  obtain ⟨hchange, hdue, hkeeps⟩ := pathAsk_first .stop ((congrArg Path.change (ht.path n)).trans hnone)
  rw [hstop]
  exact ⟨hchange, hdue.trans ht.changeDue, (hkeeps _).trans hu⟩

/-- Marking a deferred stop leaves the paths and their registers. -/
theorem deferMark_keeps (kind k : Nat) (s : State) :
    (∀ a < 0x28000, 0x10000 ≤ a → (deferMark kind k s).rd a = s.rd a) ∧ (deferMark kind k s).paths = s.paths := by
  unfold deferMark
  refine forEach_rel (R := fun s u => (∀ a < 0x28000, 0x10000 ≤ a → u.rd a = s.rd a) ∧ u.paths = s.paths)
    (fun _ => ⟨fun _ _ _ => rfl, rfl⟩)
    (fun h hv => ⟨fun a hlt hle => (hv.1 a hlt hle).trans (h.1 a hlt hle), hv.2.trans h.2⟩)
    (fun p _ x => ⟨fun a hlt hle => ?_, ?_⟩) s
  · have hother : a ≠ (FOLp_STAT_DEFER p).reg := by simp only [FOLp_STAT_DEFER, FOLp_STAT]; omega
    rw [raise_rd _ _ _ _ (by omega) (by omega) (by omega), rd_setF_other _ _ _ _ hother]
  · rw [(raise_step _ _ _).paths, setF_paths]

/-- STOP of a RUNNING path that feeds a cross-fade is deferred (R194, R275). -/
theorem pathStop_defers (h : PathOpen s m n) (hr : s.reaches m (PTHn_CMD n) = true)
    (hstate : s.getF (PTHn_STAT_STATE n) = 2) (hfade : s.inFade 1 n = true) :
    Gives (.pathStop m n) s fun t => t.getF (PTHn_STAT_STATE n) = 3 ∧ (t.path n).change = (s.path n).change := by
  obtain ⟨u, ht, hexec⟩ := h.write hr 2 (pathCmd n 2)
  refine ⟨_, congrArg Host.Outcome.next hexec, ?_⟩
  have hn := h.lt
  have hdefer : pathCmd n 2 u = deferMark 1 n (u.setF (PTHn_STAT_STATE n) 3) := by
    rw [pathCmd_stop, pathStop, (ht.pathState hn).trans hstate, ht.inFade, hfade, if_neg (by decide), if_pos rfl, if_pos rfl]
  obtain ⟨hrd, hpaths⟩ := deferMark_keeps 1 n (u.setF (PTHn_STAT_STATE n) 3)
  rw [hdefer]
  constructor
  · exact (getF_of_rd (hrd _ (by simp only [PTHn_STAT_STATE, PTHn_STAT]; omega)
      (by simp only [PTHn_STAT_STATE, PTHn_STAT]; omega))).trans (getF_setF_bits_fit _ _ _ _ _ (by decide) (by decide))
  · rw [State.path, hpaths, setF_paths, ← State.path, ht.path]

/-- A path that becomes STOPPED: its runs end, what is formed waits for its release (R190, R193, R194). -/
theorem pathStopped_shows (hn : n < 512) :
    (pathStopped n s).getF (PTHn_STAT_STATE n) = 0 ∧ (pathStopped n s).getF (PTHn_STAT_RS_ACT n) = 0 ∧
      ((pathStopped n s).path n).change = .none ∧ ((pathStopped n s).path n).runs = Run.endAll s.now (s.path n).runs ∧
      ((pathStopped n s).path n).formed = (s.path n).formed := by
  have hstat {f : Fld} (hf : f.reg = PTHn_STAT n) : (pathStopped n s).getF f =
      (((s.setF ⟨PTHn_STAT n, 31, 29⟩ 0).setF ⟨PTHn_STAT n, 28, 28⟩ 0).setF ⟨PTHn_STAT n, 27, 27⟩ 0).getF f := by
    unfold pathStopped
    dsimp only
    rw [bankRefresh_getF _ (.inr (by rw [hf, PTHn_STAT]; omega)), setPath_getF]
    rfl
  refine ⟨?_, (hstat rfl).trans (getF_setF_bits_fit _ _ _ _ _ (by decide) (by decide)), ?_⟩
  · rw [hstat rfl]
    exact (getF_setF_beside _ _ _ _ _ _ _ (by decide)).trans <| (getF_setF_beside _ _ _ _ _ _ _ (by decide)).trans
      (getF_setF_bits_fit _ _ _ _ _ (by decide) (by decide))
  · unfold pathStopped
    dsimp only
    rw [bankRefresh_path, path_setPath_same]
    exact ⟨rfl, rfl, rfl⟩

/-- STOP of a PENDING path leaves it STOPPED at once (R194). -/
theorem pathStop_cancels (h : PathOpen s m n) (hr : s.reaches m (PTHn_CMD n) = true)
    (hstate : s.getF (PTHn_STAT_STATE n) = 1) :
    Gives (.pathStop m n) s fun t =>
      t.getF (PTHn_STAT_STATE n) = 0 ∧ (t.path n).change = .none ∧ (t.path n).runs = Run.endAll s.now (s.path n).runs ∧
        (t.path n).formed = (s.path n).formed := by
  obtain ⟨u, ht, hexec⟩ := h.write hr 2 (pathCmd n 2)
  refine ⟨_, congrArg Host.Outcome.next hexec, ?_⟩
  have hstop : pathCmd n 2 u = pathStopped n u := by
    rw [pathCmd_stop, pathStop, (ht.pathState h.lt).trans hstate, if_pos rfl]
  obtain ⟨hst, -, hchange, hruns, hformed⟩ := pathStopped_shows (s := u) h.lt
  rw [hstop, ← ht.path, ← ht.now]
  exact ⟨hst, hchange, hruns, hformed⟩

/-- SYNC of a RUNNING path asks for a synchronising reset (R194). -/
theorem pathSync_asks (h : PathOpen s m n) (hr : s.reaches m (PTHn_CMD n) = true)
    (hstate : s.getF (PTHn_STAT_STATE n) = 2) (hnone : (s.path n).change = .none) :
    Gives (.pathSync m n) s fun t => (t.path n).change = .sync ∧ (t.path n).due = s.now + Config.ticksOfUs 1 := by
  obtain ⟨u, ht, hexec⟩ := h.write hr 4 (pathCmd n 4)
  refine ⟨_, congrArg Host.Outcome.next hexec, ?_⟩
  have hsync : pathCmd n 4 u = pathAsk n .sync u := by
    rw [pathCmd_sync, pathSync, (ht.pathState h.lt).trans hstate, if_pos rfl]
  obtain ⟨hchange, hdue, -⟩ := pathAsk_first .sync ((congrArg Path.change (ht.path n)).trans hnone)
  rw [hsync]
  exact ⟨hchange, hdue.trans ht.changeDue⟩

/-! ## Stage shifts -/

/-- A cut word of shifts reads back from its register. -/
theorem shift_toNat (s : State) (a v : Nat) : ((s.wr a (BitVec.ofNat 32 (v % 1073741824))).rd a).toNat = v % 2 ^ 30 := by
  rw [rd_wr_same, BitVec.toNat_ofNat]
  omega

section
variable {v : Word} (h : PathOpen s m n) (hr : s.reaches m (PTHn_SHIFT n) = true)
  (hok : shiftOk (s.getF (PTHn_CTL_PRESET n)) (s.getF (PTHn_CTL_BANK n)) v.toNat = true)
include h hr hok

/-- A write of PTHn_SHIFT with shifts in range is carried out after it is traced. -/
theorem shiftWrite_traced : ∃ u, Traced s u ∧ exec (.shiftWrite m n v) s = .next (shiftWrite n v.toNat u) ∧
    shiftOk (u.getF (PTHn_CTL_PRESET n)) (u.getF (PTHn_CTL_BANK n)) v.toNat = true := by
  obtain ⟨u, ht, hexec⟩ := h.write hr v.toNat (shiftWrite n v.toNat)
  have hctl {f : Fld} (hf : f.reg = PTHn_CTL n) : u.getF f = s.getF f := ht.pathF h.lt (by rw [hf, PTHn_CTL]; omega)
  exact ⟨u, ht, congrArg Host.Outcome.next hexec, by rw [hctl rfl, hctl rfl]; exact hok⟩

/-- The shifts of a STOPPED path with nothing to output hold at once (R187). -/
theorem shiftWrite_holds (hstate : s.getF (PTHn_STAT_STATE n) = 0) (hidle : (s.path n).runs.isEmpty = true) :
    Gives (.shiftWrite m n v) s fun t =>
      (t.path n).shift = v.toNat % 2 ^ 30 ∧ (t.path n).shifts = [] ∧ (t.rd (PTHn_SHIFT n)).toNat = v.toNat % 2 ^ 30 := by
  obtain ⟨u, ht, hexec, hok⟩ := shiftWrite_traced h hr hok
  refine ⟨_, hexec, ?_⟩
  unfold shiftWrite
  dsimp only
  rw [if_pos hok, ht.pathState h.lt, hstate, ht.path, hidle, if_pos (by decide), path_setPath_same, setPath_rd]
  exact ⟨rfl, rfl, shift_toNat _ _ _⟩

/-- Those of another path hold from the next bin-block boundary (R187). -/
theorem shiftWrite_schedules (hstate : s.getF (PTHn_STAT_STATE n) ≠ 0) :
    Gives (.shiftWrite m n v) s fun t =>
      (t.path n).shifts.head? = some (ceilTo 122880 (s.now + 1), v.toNat % 2 ^ 30) ∧
        (t.rd (PTHn_SHIFT n)).toNat = v.toNat % 2 ^ 30 := by
  obtain ⟨u, ht, hexec, hok⟩ := shiftWrite_traced h hr hok
  refine ⟨_, hexec, ?_⟩
  unfold shiftWrite
  dsimp only
  rw [if_pos hok, ht.pathState h.lt, ht.now, decide_eq_false hstate, if_neg (by simp), path_setPath_same, setPath_rd]
  exact ⟨rfl, shift_toNat _ _ _⟩

end

/-! ## VOID tokens -/

/-- A stage takes a VOID token as 64 zeros with VOID set (R143). -/
theorem voidToken_takes (kind inst ts period : Nat) (hreset : s.pwr.inReset = false) :
    Gives (.voidToken kind inst ts period) s fun t =>
      (kind = 1 → (t.path inst).voids.head? = some ⟨ts, ts + 64 * period - 1, 8⟩) ∧
        (kind ≠ 1 → t.fab.voids.head? = some (kind, inst, ⟨ts, ts + 64 * period - 1, 8⟩)) := by
  have hexec : exec (.voidToken kind inst ts period) s = .next (voidTake kind inst ts period s) := by
    show execVoidToken kind inst ts period s = _
    rw [execVoidToken, hreset, if_neg (by decide)]
  refine ⟨_, hexec, ?_⟩
  unfold voidTake
  dsimp only
  by_cases hkind : kind = 1
  · rw [if_pos hkind, path_setPath_same]
    exact ⟨fun _ => rfl, fun hother => absurd hkind hother⟩
  · rw [if_neg hkind]
    exact ⟨fun hpath => absurd hpath hkind, fun _ => rfl⟩

end

end Sys2Proof.Machine
end

section
/-! SUPPORT. The change instants of a path (R194, R196, R225): what the restart of its demodulator leaves, and what a start,
a synchronising reset and a stop show. -/

namespace Sys2Proof.Machine

/-! ## The demodulator -/

section
variable {s : State} {n : Nat}

/-- Clearing a demodulator leaves the registers of the paths. -/
theorem demClear_rd (n : Nat) (s : State) {a : Nat} (ha : a < 0x18000) : (demClear n s).rd a = s.rd a := by
  unfold demClear
  dsimp only
  rw [setDem_rd]
  refine rd_forEach _ _ _ (fun b hb x => rd_wr_other _ _ _ _ ?_) s
  obtain ⟨k, -, rfl⟩ := List.mem_map.mp hb
  rw [DEMn_STAT]
  omega

theorem demClear_paths (n : Nat) (s : State) : (demClear n s).paths = s.paths := by
  unfold demClear
  dsimp only
  rw [setDem_paths]
  exact forEach_rel (R := fun s u => u.paths = s.paths) (fun _ => rfl) (fun h hv => hv.trans h)
    (fun _ _ x => wr_paths x _ _) s

/-- Restarting a demodulator clears it, begins its warm-up, and may write its soft mute (R216, R225). -/
theorem demRestart_cases (n t : Nat) (s : State) : ∃ (g : Nat) (d : Dem),
    demRestart n t s = ((demClear n s).setF (DEMn_STAT_WARMUP n) 1).setDem n d ∨
      demRestart n t s = (((demClear n s).setF (DEMn_STAT_WARMUP n) 1).setDem n d).setF (DEMn_STAT_SMUTE_DB n) g := by
  unfold demRestart
  dsimp only
  split
  · exact ⟨0, _, .inl rfl⟩
  · exact ⟨_, _, .inr rfl⟩

theorem demRestart_rd (n t : Nat) (s : State) {a : Nat} (ha : a < 0x18000) : (demRestart n t s).rd a = s.rd a := by
  have hwarm : a ≠ (DEMn_STAT_WARMUP n).reg := by simp only [DEMn_STAT_WARMUP, DEMn_STAT]; omega
  have hmute : a ≠ (DEMn_STAT_SMUTE_DB n).reg := hwarm
  obtain ⟨g, d, h | h⟩ := demRestart_cases n t s
  · rw [h, setDem_rd, rd_setF_other _ _ _ _ hwarm, demClear_rd n s ha]
  · rw [h, rd_setF_other _ _ _ _ hmute, setDem_rd, rd_setF_other _ _ _ _ hwarm, demClear_rd n s ha]

theorem demRestart_path (n t : Nat) (s : State) (k : Nat) : (demRestart n t s).path k = s.path k := by
  refine congrArg (sget pathNone · k) ?_
  obtain ⟨g, d, h | h⟩ := demRestart_cases n t s
  · rw [h, setDem_paths, setF_paths, demClear_paths]
  · rw [h, setF_paths, setDem_paths, setF_paths, demClear_paths]

theorem demRestart_warm (n t : Nat) (s : State) : (demRestart n t s).getF (DEMn_STAT_WARMUP n) = 1 := by
  have hwarm (u : State) (d : Dem) : ((u.setF ⟨DEMn_STAT n, 30, 30⟩ 1).setDem n d).getF ⟨DEMn_STAT n, 30, 30⟩ = 1 :=
    (setDem_getF _ _ _ _).trans (getF_setF_bits_fit _ _ _ _ _ (by decide) (by decide))
  obtain ⟨g, d, h | h⟩ := demRestart_cases n t s
  · rw [h]
    exact hwarm _ d
  · rw [h]
    exact (getF_setF_beside _ _ _ _ _ _ _ (by decide)).trans (hwarm _ d)

/-! ## Restarts -/

/-- The path runs from zero history at t (R194, R196, R225). -/
theorem pathRestart_shows (hn : n < 512) (t : Nat) (hstate : s.getF (PTHn_STAT_STATE n) ≠ 3) :
    (pathRestart n t s).getF (PTHn_STAT_STATE n) = 2 ∧
      (pathRestart n t s).get64 (PTHn_START_LO n) (PTHn_START_HI n) = t % 2 ^ 64 ∧
      ((pathRestart n t s).path n).change = .none ∧
      ((pathRestart n t s).path n).warmLeft = s.getF (PTHn_DSMP_SAMPLES n) ∧
      (pathRestart n t s).getF (DEMn_STAT_WARMUP n) = 1 := by
  have hstat : PTHn_STAT n = 0x1001c + 0x40 * n := rfl
  have hlo : PTHn_START_LO n = 0x10020 + 0x40 * n := rfl
  have hhi : PTHn_START_HI n = 0x10024 + 0x40 * n := rfl
  unfold pathRestart
  extract_lets w s1 p run
  have hstart : s1.get64 (PTHn_START_LO n) (PTHn_START_HI n) = t % 2 ^ 64 := by
    have hother {a : Nat} (ha : a ≠ PTHn_STAT n) (x : State) (b : Bool) : (x.setB (PTHn_STAT_WARMUP n) b).rd a = x.rd a :=
      rd_setF_other _ _ _ _ ha
    rw [State.get64, hother (by omega), hother (by omega), ← State.get64]
    exact get64_set64 _ _ (by omega)
  have hrun : s1.getF (PTHn_STAT_STATE n) = 2 := by
    have hbeside (x : State) (b : Bool) :
        (x.setB ⟨PTHn_STAT n, 28, 28⟩ b).getF ⟨PTHn_STAT n, 31, 29⟩ = x.getF ⟨PTHn_STAT n, 31, 29⟩ :=
      getF_setF_beside _ _ _ _ _ _ _ (by decide)
    have hpair (x : State) (v : Nat) :
        (x.set64 (PTHn_START_LO n) (PTHn_START_HI n) v).getF (PTHn_STAT_STATE n) = x.getF (PTHn_STAT_STATE n) :=
      getF_of_rd (rd_set64_other _ _ _ _ _ (by simp only [PTHn_STAT_STATE]; omega) (by simp only [PTHn_STAT_STATE]; omega))
    refine (hbeside _ _).trans ((hpair _ _).trans ?_)
    rw [if_neg hstate]
    exact getF_setF_bits_fit _ _ _ _ _ (by decide) (by decide)
  clear_value s1
  rw [demRestart_path, path_setPath_same, demRestart_warm]
  refine ⟨?_, ?_, rfl, rfl, rfl⟩
  · exact (getF_of_rd (demRestart_rd n t _ (by rw [PTHn_STAT_STATE]; dsimp only; omega))).trans hrun
  · rw [State.get64, demRestart_rd n t _ (by omega), demRestart_rd n t _ (by omega), setPath_rd, setPath_rd]
    exact hstart

/-! ## The instants -/

section
variable {T : Nat} (hgrid : T % s.pathGrid n = 0) (hdue : (s.path n).due ≤ T)
include hgrid hdue

/-- At a change instant a start, or a synchronising reset that nothing follows, restarts the path (R194). -/
theorem pathInstant_restarts (hchange : (s.path n).change = .start ∨ (s.path n).change = .sync ∧ (s.path n).later = none) :
    pathInstant n T s = pathRestart n T s := by
  unfold pathInstant
  dsimp only
  rw [hgrid, decide_eq_false (by omega), if_neg (by decide)]
  obtain hstart | ⟨hsync, hlater⟩ := hchange
  · rw [hstart]
  · rw [hsync, hlater]

/-- At a change instant a stop leaves the path STOPPED; without the personality nothing starts it again (R194). -/
theorem pathInstant_stops (hn : n < 512) (hchange : (s.path n).change = .stop) (hkt : s.ktOwned = false) :
    pathInstant n T s = demClear n (pathStopped n s) := by
  have hlast : (demClear n (pathStopped n s)).ktOwned = false := by
    have hstat : FEAT_ACTIVE (17 / 32) ≠ PTHn_STAT n := by simp only [FEAT_ACTIVE, PTHn_STAT]; omega
    have hrd : (demClear n (pathStopped n s)).rd (FEAT_ACTIVE (17 / 32)) = s.rd (FEAT_ACTIVE (17 / 32)) := by
      unfold pathStopped
      dsimp only
      rw [demClear_rd n _ (by decide), bankRefresh_rd _ (by decide), setPath_rd, rd_setF_other _ _ _ _ hstat,
        rd_setF_other _ _ _ _ hstat, rd_setF_other _ _ _ _ hstat]
    rw [State.ktOwned, State.feat, hrd]
    exact hkt
  unfold pathInstant
  dsimp only
  rw [hgrid, decide_eq_false (by omega), if_neg (by decide), hchange]
  dsimp only
  rw [hlast, Bool.and_false, Bool.false_and, if_neg (by decide)]

end

section
variable {T : Nat} (hn : n < 512) (hreset : s.pwr.inReset = false) (hgrid : T % s.pathGrid n = 0)
  (hdue : (s.path n).due ≤ T)
include hn hreset hgrid hdue

/-- A change instant comes when time has passed until then. -/
theorem exec_pathChangeInstant : exec (.pathChangeInstant n T) s = .next (pathInstant n T (s.advance T)) ∧
    T % (s.advance T).pathGrid n = 0 ∧ ((s.advance T).path n).due ≤ T := by
  have hgo : (decide (n < 512) && !s.pwr.inReset) = true := by rw [decide_eq_true hn, hreset]; rfl
  have hexec : exec (.pathChangeInstant n T) s = execPathChangeInstant n T s := rfl
  refine ⟨by rw [hexec, execPathChangeInstant, if_pos hgo], ?_, ?_⟩
  · rwa [State.pathGrid, advance_getF]
  · rwa [State.path, advance_paths]

/-- A start or a synchronising reset leaves the path RUNNING from its change instant on, in warm-up (R194, R196). -/
theorem pathChangeInstant_runs
    (hchange : (s.path n).change = .start ∨ (s.path n).change = .sync ∧ (s.path n).later = none)
    (hstate : s.getF (PTHn_STAT_STATE n) ≠ 3) :
    Gives (.pathChangeInstant n T) s fun t =>
      t.getF (PTHn_STAT_STATE n) = 2 ∧ t.get64 (PTHn_START_LO n) (PTHn_START_HI n) = T % 2 ^ 64 ∧
        (t.path n).change = .none ∧ (t.path n).warmLeft = s.getF (PTHn_DSMP_SAMPLES n) ∧
        t.getF (DEMn_STAT_WARMUP n) = 1 := by
  obtain ⟨hexec, hgrid, hdue⟩ := exec_pathChangeInstant hn hreset hgrid hdue
  have hpath : (s.advance T).path n = s.path n := congrArg (sget pathNone · n) (advance_paths s T)
  refine ⟨_, hexec.trans (congrArg _ (pathInstant_restarts hgrid hdue (hpath ▸ hchange))), ?_⟩
  have hshows := pathRestart_shows (s := s.advance T) hn T (by rwa [advance_getF])
  rwa [advance_getF] at hshows

/-- A stop leaves the path STOPPED, its runs ended at the change instant and its resampler free (R190, R194). -/
theorem pathChangeInstant_stops (hchange : (s.path n).change = .stop) (hkt : s.ktOwned = false) :
    Gives (.pathChangeInstant n T) s fun t =>
      t.getF (PTHn_STAT_STATE n) = 0 ∧ (t.path n).change = .none ∧
        (t.path n).runs = Run.endAll (s.advance T).now (s.path n).runs ∧ (t.path n).formed = (s.path n).formed ∧
        t.getF (PTHn_STAT_RS_ACT n) = 0 := by
  obtain ⟨hexec, hgrid, hdue⟩ := exec_pathChangeInstant hn hreset hgrid hdue
  have hpath : (s.advance T).path n = s.path n := congrArg (sget pathNone · n) (advance_paths s T)
  have hkt : (s.advance T).ktOwned = false := by rwa [State.ktOwned, State.feat, advance_rd]
  refine ⟨_, hexec.trans (congrArg _ (pathInstant_stops hgrid hdue hn (hpath ▸ hchange) hkt)), ?_⟩
  obtain ⟨hstopped, hfree, hnone, hruns, hformed⟩ := pathStopped_shows (s := s.advance T) hn
  have hstat {f : Fld} (hf : f.reg = PTHn_STAT n) (x : State) : (demClear n x).getF f = x.getF f :=
    getF_of_rd (demClear_rd n x (by rw [hf, PTHn_STAT]; omega))
  have hkept (x : State) : (demClear n x).path n = x.path n := congrArg (sget pathNone · n) (demClear_paths n x)
  rw [hpath] at hruns hformed
  rw [hstat rfl, hstat rfl, hkept]
  exact ⟨hstopped, hnone, hruns, hformed, hfree⟩

end

end

end Sys2Proof.Machine
end

section
/-! SUPPORT. The output blocks of a path (R167, R196, R198, R199, R520): a block of a path whose pods are out is VOID, one
that draws on a missing block is dropped and counted, and any other leaves with its samples; each passes 64 samples of
warm-up. -/

namespace Sys2Proof.Machine

/-! ## What a block leaves -/

/-- In u the output block that the sole run of path n owed in s is formed, as a block or as a gap, and its 64 samples of
warm-up are past (R23, R196). -/
structure Formed (n : Nat) (r : Run) (b : Option Block) (drop : Bool) (s u : State) : Prop where
  warmLeft : (u.path n).warmLeft = (s.path n).warmLeft - 64
  warmup : u.flag (PTHn_STAT_WARMUP n) = decide (64 < (s.path n).warmLeft)
  formed : (u.path n).formed = (s.path n).formed ++ [(r.due, b)]
  dropNext : (u.path n).dropNext = drop

section
variable {s u v : State} {n : Nat} {r : Run} {b : Option Block} {drop : Bool}

/-- What changes neither registers nor paths leaves a formed block formed. -/
theorem Formed.of_eq (h : Formed n r b drop s u) (hr : ∀ a, v.rd a = u.rd a) (hp : v.paths = u.paths) :
    Formed n r b drop s v := by
  have hpath : v.path n = u.path n := congrArg (sget pathNone · n) hp
  exact ⟨hpath ▸ h.warmLeft, (congrArg (· != 0) (getF_of_rd (hr _))).trans h.warmup, hpath ▸ h.formed,
    hpath ▸ h.dropNext⟩

/-- A block formed from a state with the same path n was formed from the other as well. -/
theorem Formed.from_path (h : Formed n r b drop v u) (hp : v.path n = s.path n) : Formed n r b drop s u :=
  ⟨hp ▸ h.warmLeft, hp ▸ h.warmup, hp ▸ h.formed, h.dropNext⟩

/-- 64 samples of warm-up pass, and WARMUP shows whether any are left (R196). -/
theorem warmupPass_shows (n : Nat) (s : State) :
    (warmupPass n s).path n = { s.path n with warmLeft := (s.path n).warmLeft - 64 } ∧
      (warmupPass n s).flag (PTHn_STAT_WARMUP n) = decide (64 < (s.path n).warmLeft) ∧
      ∀ a ≠ PTHn_STAT n, (warmupPass n s).rd a = s.rd a := by
  unfold warmupPass
  dsimp only
  refine ⟨?_, ?_, fun a ha => ?_⟩
  · rw [State.path, setB_paths, ← State.path, path_setPath_same]
  · have hset (x : State) (c : Bool) : (x.setB ⟨PTHn_STAT n, 28, 28⟩ c).flag ⟨PTHn_STAT n, 28, 28⟩ = c :=
      flag_of_getF (getF_setF_bits_fit _ _ _ _ _ (by decide) (by cases c <;> decide))
    refine (hset _ _).trans ?_
    rw [Bool.eq_iff_iff, bne_iff_ne, decide_eq_true_eq]
    omega
  · exact (rd_setF_other _ _ _ _ ha).trans (setPath_rd _ _ _ _)

section
variable (hruns : (s.path n).runs = [r]) (hstop : r.stop = none)
include hruns hstop

/-- A block of the sole run, one that goes on, moves the run on and passes warm-up. -/
theorem runPut_sole :
    runPut n r s = warmupPass n (s.setPath n { s.path n with runs := [{ r with out := r.out + 1 }] }) := by
  unfold runPut
  dsimp only
  rw [hruns, hstop, if_pos (by rfl)]
  rfl

/-- Path n once a block of its sole run is put, with what the block then leaves beside runs and warm-up. -/
theorem runPut_formed {p : Path} (hwarm : p.warmLeft = ((runPut n r s).path n).warmLeft)
    (hformed : p.formed = ((runPut n r s).path n).formed ++ [(r.due, b)]) (hdrop : p.dropNext = drop) :
    Formed n r b drop s ((runPut n r s).setPath n p) := by
  rw [runPut_sole hruns hstop] at *
  obtain ⟨hpath, hflag, -⟩ := warmupPass_shows n (s.setPath n { s.path n with runs := [{ r with out := r.out + 1 }] })
  rw [hpath, path_setPath_same] at hwarm hformed
  rw [path_setPath_same] at hflag
  have hput (x : State) : (x.setPath n p).path n = p := path_setPath_same x n p
  exact ⟨(congrArg Path.warmLeft (hput _)).trans hwarm, (setPath_flag _ _ _ _).trans hflag,
    (congrArg Path.formed (hput _)).trans hformed, (congrArg Path.dropNext (hput _)).trans hdrop⟩

end

/-- A missing block is counted, and the next one will carry DROP (R198). -/
theorem outDrop_shows (hruns : (s.path n).runs = [r]) (hstop : r.stop = none) :
    Formed n r none true s (outDrop n r s) ∧ Counted (PTHn_DROP_CNT n) s (outDrop n r s) := by
  have hpath : (s.bump (PTHn_DROP_CNT n)).path n = s.path n := congrArg (sget pathNone · n) (bump_paths s _)
  have hruns' : ((s.bump (PTHn_DROP_CNT n)).path n).runs = [r] := (congrArg Path.runs hpath).trans hruns
  have hcounted : Counted ⟨PTHn_DROP n, 31, 0⟩ s (s.bump ⟨PTHn_DROP n, 31, 0⟩) := counted_bump _ _ (by simp) (by simp)
  have hkept (x : State) (q q' : Path) :
      ((warmupPass n (x.setPath n q)).setPath n q').getF ⟨PTHn_DROP n, 31, 0⟩ = x.getF ⟨PTHn_DROP n, 31, 0⟩ := by
    have hother : PTHn_DROP n ≠ PTHn_STAT n := by simp only [PTHn_DROP, PTHn_STAT]; omega
    exact (setPath_getF _ _ _ _).trans ((getF_of_rd ((warmupPass_shows n _).2.2 _ hother)).trans (setPath_getF _ _ _ _))
  unfold outDrop
  dsimp only
  refine ⟨Formed.from_path ?_ hpath, ?_⟩
  · exact runPut_formed hruns' hstop rfl rfl rfl
  · rw [runPut_sole hruns' hstop]
    exact (hkept _ _ _).trans hcounted

/-- The flags of the next output block: those of its window, WARMUP while the run warms up, and DROP where a block was lost
before it (R196, R198). -/
def Path.blockFlags (p : Path) (r : Run) (flags : Nat) : Nat :=
  flags ||| ((if 64 * r.out < r.dsmp then 2 else 0) ||| (if p.dropNext then 128 else 0))

theorem blockFlags_window (p : Path) (r : Run) {flags i : Nat} (h : flags.testBit i = true) :
    (p.blockFlags r flags).testBit i = true := by
  rw [Path.blockFlags, Nat.testBit_or, h, Bool.true_or]

theorem blockFlags_warmup (p : Path) {r : Run} (flags : Nat) (h : 64 * r.out < r.dsmp) :
    (p.blockFlags r flags).testBit 1 = true := by
  rw [Path.blockFlags, if_pos h, Nat.testBit_or, Nat.testBit_or, show Nat.testBit 2 1 = true from rfl, Bool.true_or,
    Bool.or_true]

theorem blockFlags_drop {p : Path} (r : Run) (flags : Nat) (h : p.dropNext = true) :
    (p.blockFlags r flags).testBit 7 = true := by
  rw [Path.blockFlags, if_pos h, Nat.testBit_or, Nat.testBit_or, show Nat.testBit 128 7 = true from rfl, Bool.or_true,
    Bool.or_true]

/-- A block leaves the path with its flags and samples (R23, R196). -/
theorem outDeliver_shows (flags : Nat) (samples : List Int) (later : Option (Nat × List Int))
    (hruns : (s.path n).runs = [r]) (hstop : r.stop = none) :
    Formed n r (some ⟨r.tsOf r.out, (s.path n).blockFlags r flags, samples⟩) false s
      (outDeliver n flags samples later r s) := by
  unfold outDeliver
  dsimp only
  refine Formed.of_eq (u := (runPut n r s).setPath n _) ?_ (fun a => obsCount_rd _ _ a) (obsCount_step _ _).paths
  exact runPut_formed hruns hstop rfl rfl rfl

/-! ## The flags of a window -/

theorem testBit_foldl_or (i : Nat) (l : List PreBlock) (f : Nat) :
    (l.foldl (fun f b => f ||| b.flags) f).testBit i = (f.testBit i || l.any fun b => b.flags.testBit i) := by
  induction l generalizing f with
  | nil => simp
  | cons b t ih => rw [List.foldl_cons, ih, Nat.testBit_or, List.any_cons, Bool.or_assoc]

/-- The flags of the blocks at the preset output that the next output block draws on (R14, R198). -/
def Run.windowFlags (r : Run) : Nat := (r.outWindow r.out).foldl (fun f b => f ||| b.flags) 0

/-- A window without a missing or a STALE block is not STALE. -/
theorem windowFlags_fresh (hfresh : ((r.outWindow r.out).all fun b => !b.missing && !b.flags.testBit 0) = true) :
    ((r.outWindow r.out).any fun b => b.missing) = false ∧ r.windowFlags.testBit 0 = false := by
  have hboth : ∀ b ∈ r.outWindow r.out, b.missing = false ∧ b.flags.testBit 0 = false := by simpa using hfresh
  rw [Run.windowFlags, testBit_foldl_or, Nat.zero_testBit, Bool.false_or]
  constructor
  · exact List.any_eq_false.mpr fun b hb => Bool.not_eq_true _ ▸ (hboth b hb).1
  · exact List.any_eq_false.mpr fun b hb => Bool.not_eq_true _ ▸ (hboth b hb).2

/-! ## The next block -/

section
variable (s : State) (n : Nat) (r : Run)

/-! A path that is written back as it was. -/

theorem putBack_now : (s.setPath n (s.path n)).now = s.now := rfl

theorem putBack_outReady (m : Nat) : (s.setPath n (s.path n)).outReady r m = s.outReady r m := rfl

theorem putBack_gapFrom : (s.setPath n (s.path n)).gapFrom n = s.gapFrom n := rfl

theorem putBack_pathVoid : (s.setPath n (s.path n)).pathVoid n = s.pathVoid n := by
  rw [State.pathVoid, path_setPath_same]
  rfl

theorem putBack_pathRecovers : (s.setPath n (s.path n)).pathRecovers n r = s.pathRecovers n r := by
  rw [State.pathRecovers, path_setPath_same]
  rfl

end

/-- The next output block of the sole run of path n can be worked out: its inputs are read and its window is whole, and the
path does not wait for what it will recompute (R182, R559). -/
structure OutputDue (s : State) (n : Nat) (r : Run) : Prop where
  runs : (s.path n).runs = [r]
  stop : r.stop = none
  ready : s.outReady r r.out = true
  window : r.lastPre r.out < r.preNext
  waits : (s.pathRecovers n r && decide (s.now < r.due)) = false

section
variable (h : OutputDue s n r)
include h

/-- The run goes on, so it stays at the head: the path is written back as it was. -/
theorem OutputDue.runHead : runHead n s = s.setPath n (s.path n) := by
  unfold Machine.runHead
  dsimp only
  rw [h.runs, List.dropWhile_cons_of_neg (by rw [h.stop]; exact Bool.false_ne_true), ← h.runs]

/-- The block is VOID while the path's pods are out (R167, R559), dropped where its window misses a block (R198), and
otherwise leaves with the flags and samples of its window. -/
theorem OutputDue.pathOutput :
    (s.pathVoid n = true →
      ((s.path n).lost || ((r.outWindow r.out).any fun b => b.missing) || (s.gapFrom n).isNone) = true →
      pathOutput n s =
        outDeliver n (r.windowFlags ||| 8) (List.replicate (64 * r.width) 0) none r (s.setPath n (s.path n))) ∧
    (s.pathVoid n = false → ((r.outWindow r.out).any fun b => b.missing) = true →
      pathOutput n s = outDrop n r (s.setPath n (s.path n))) ∧
    (s.pathVoid n = false → ((r.outWindow r.out).any fun b => b.missing) = false → r.windowFlags.testBit 0 = false →
      pathOutput n s = outDeliver n r.windowFlags (r.outSamples r.out) none r (s.setPath n (s.path n))) := by
  have hgo : ¬ (!s.outReady r r.out || (s.pathRecovers n r && decide (s.now < r.due))) = true := by
    rw [h.ready, h.waits]
    decide
  have hwindow : r.lastPre r.out + 1 - r.preNext = 0 := by have := h.window; omega
  unfold Machine.pathOutput Run.windowFlags
  rw [h.runHead]
  dsimp only
  rw [path_setPath_same, h.runs]
  dsimp only
  rw [putBack_outReady, putBack_pathRecovers, putBack_now, if_neg hgo, hwindow, List.range_zero, List.foldl_nil]
  dsimp only
  rw [putBack_pathVoid, putBack_gapFrom, path_setPath_same]
  refine ⟨fun hout hzero => ?_, fun hin hmiss => ?_, fun hin hwhole hfresh => ?_⟩
  · have hnone :
        (if ((r.outWindow r.out).any fun b => b.missing) || (s.path n).lost then none else s.gapFrom n) = none := by
      rw [Bool.or_comm (s.path n).lost] at hzero
      obtain hnot | hgap := Bool.or_eq_true_iff.mp hzero
      · rw [if_pos hnot]
      · rw [Option.isNone_iff_eq_none.mp hgap, ite_self]
    rw [if_pos hout, hnone]
  · rw [hin, hmiss, if_neg (by decide), if_pos rfl]
  · rw [hin, hwhole, hfresh, if_neg (by decide), if_neg (by decide), if_neg (by decide)]

end

end

section
variable {s : State} {n : Nat} {r : Run} (hn : n < 512) (hreset : s.pwr.inReset = false)
include hn hreset

theorem exec_pathOutputBlock : exec (.pathOutputBlock n) s = .next (pathOutput n s) := by
  have hexec : exec (.pathOutputBlock n) s = execPathOutputBlock n s := rfl
  rw [hexec, execPathOutputBlock, decide_eq_true hn, hreset]
  rfl

variable (h : OutputDue s n r)
include h

/-- While the path's pods are out a block of zeros leaves, VOID, on schedule (R167, R196, R199). -/
theorem pathOutputBlock_voids (hvoid : s.pathVoid n = true)
    (hzero : ((s.path n).lost || ((r.outWindow r.out).any fun b => b.missing) || (s.gapFrom n).isNone) = true) :
    Gives (.pathOutputBlock n) s fun t =>
      (t.path n).warmLeft = (s.path n).warmLeft - 64 ∧ t.flag (PTHn_STAT_WARMUP n) = decide (64 < (s.path n).warmLeft) ∧
        (∃ f, (t.path n).formed = (s.path n).formed ++ [(r.due, some ⟨r.tsOf r.out, f, List.replicate (64 * r.width) 0⟩)] ∧
          f.testBit 3 = true ∧ (64 * r.out < r.dsmp → f.testBit 1 = true)) ∧ (t.path n).dropNext = false := by
  obtain ⟨hout, -, -⟩ := h.pathOutput
  have hformed := (outDeliver_shows (r.windowFlags ||| 8) (List.replicate (64 * r.width) 0) none (s := s.setPath n (s.path n))
    (by rw [path_setPath_same, h.runs]) h.stop).from_path (path_setPath_same _ _ _)
  refine ⟨_, (exec_pathOutputBlock hn hreset).trans (congrArg _ (hout hvoid hzero)), hformed.warmLeft, hformed.warmup,
    ⟨_, hformed.formed, blockFlags_window _ _ ?_, blockFlags_warmup _ _⟩, hformed.dropNext⟩
  rw [Nat.testBit_or, show Nat.testBit 8 3 = true from rfl, Bool.or_true]

/-- A block whose window misses one is dropped and counted (R198). -/
theorem pathOutputBlock_drops (hin : s.pathVoid n = false) (hmiss : ((r.outWindow r.out).any fun b => b.missing) = true) :
    Gives (.pathOutputBlock n) s fun t =>
      (t.path n).warmLeft = (s.path n).warmLeft - 64 ∧ t.flag (PTHn_STAT_WARMUP n) = decide (64 < (s.path n).warmLeft) ∧
        (t.path n).formed = (s.path n).formed ++ [(r.due, none)] ∧ (t.path n).dropNext = true ∧
        Counted (PTHn_DROP_CNT n) s t := by
  obtain ⟨-, hout, -⟩ := h.pathOutput
  obtain ⟨hformed, hcounted⟩ := outDrop_shows (s := s.setPath n (s.path n)) (by rw [path_setPath_same, h.runs]) h.stop
  have hformed := hformed.from_path (path_setPath_same s n (s.path n))
  exact ⟨_, (exec_pathOutputBlock hn hreset).trans (congrArg _ (hout hin hmiss)), hformed.warmLeft, hformed.warmup,
    hformed.formed, hformed.dropNext, hcounted.of_getF (setPath_getF _ _ _ _)⟩

/-- A block whose window is whole and not STALE leaves with its samples, and with DROP where one was lost before it (R196,
R198). -/
theorem pathOutputBlock_delivers (hin : s.pathVoid n = false)
    (hfresh : ((r.outWindow r.out).all fun b => !b.missing && !b.flags.testBit 0) = true) :
    Gives (.pathOutputBlock n) s fun t =>
      (t.path n).warmLeft = (s.path n).warmLeft - 64 ∧ t.flag (PTHn_STAT_WARMUP n) = decide (64 < (s.path n).warmLeft) ∧
        (∃ f, (t.path n).formed = (s.path n).formed ++ [(r.due, some ⟨r.tsOf r.out, f, r.outSamples r.out⟩)] ∧
          ((s.path n).dropNext = true → f.testBit 7 = true) ∧ (64 * r.out < r.dsmp → f.testBit 1 = true)) ∧
        (t.path n).dropNext = false := by
  obtain ⟨hwhole, hstale⟩ := windowFlags_fresh hfresh
  obtain ⟨-, -, hout⟩ := h.pathOutput
  have hformed := (outDeliver_shows r.windowFlags (r.outSamples r.out) none (s := s.setPath n (s.path n))
    (by rw [path_setPath_same, h.runs]) h.stop).from_path (path_setPath_same _ _ _)
  rw [path_setPath_same] at hformed
  exact ⟨_, (exec_pathOutputBlock hn hreset).trans (congrArg _ (hout hin hwhole hstale)), hformed.warmLeft, hformed.warmup,
    ⟨_, hformed.formed, blockFlags_drop _ _, blockFlags_warmup _ _⟩, hformed.dropNext⟩

end

end Sys2Proof.Machine
end

section
/-! SUPPORT. The statement on coefficient banks, path commands, change instants and path blocks, clause by clause. -/

namespace Sys2Proof.Machine

/-- The premises of the statement on a master's write to a path say that the path is open to it. -/
theorem pathOpen_of {s : State} {m : Master} {n : Nat} (hn : decide (n < 512) = true) (hpaths : decide (n < s.hdr.paths) = true)
    (howned : (!(s.ktOwned && decide (n < 4) && m != .personality)) = true)
    (hpool : (!(s.poolPath n && m != .core 1)) = true) : PathOpen s m n :=
  ⟨of_decide_eq_true hn, of_decide_eq_true hpaths, (Bool.not_eq_true' _).mp howned, (Bool.not_eq_true' _).mp hpool⟩

/-- The premises of the statement on a path's output say that its next block can be worked out. -/
theorem outputDue_of {s : State} {n : Nat} {r : Run} (hruns : ((s.path n).runs == [r]) = true) (hstop : r.stop.isNone = true)
    (hready : s.outReady r r.out = true) (hwindow : decide (r.lastPre r.out < r.preNext) = true)
    (hwaits : (!(s.pathRecovers n r && decide (s.now < r.due))) = true) : OutputDue s n r :=
  ⟨eq_of_beq hruns, Option.isNone_iff_eq_none.mp hstop, hready, of_decide_eq_true hwindow, (Bool.not_eq_true' _).mp hwaits⟩

/-- Settles O26: each clause is what its command leaves of a bank or a path, shown above for the command. -/
theorem banksAndPaths : Obligations.BanksAndPaths := by
  unfold Obligations.BanksAndPaths
  have off {b : Bool} (h : (!b) = true) : b = false := (Bool.not_eq_true' _).mp h
  exact ⟨fun s m v hr hopen hroom => bankDataWrite_stores hr (off hopen) (of_decide_eq_true hroom),
    fun s m hr hfree => bankOpen_opens hr (eq_of_beq hfree),
    fun s m hr hodd hlow hhigh => bankSeal_seals hr (eq_of_beq hodd) (of_decide_eq_true hlow) (of_decide_eq_true hhigh),
    fun s m n hr hn hpaths howned hpool hstate hfit hroom =>
      pathStart_takes (pathOpen_of hn hpaths howned hpool) hr (eq_of_beq hstate) (off hfit) (by simpa using hroom),
    fun s m n hr hn hpaths howned hpool hstate hfade hnone =>
      pathStop_asks (pathOpen_of hn hpaths howned hpool) hr (eq_of_beq hstate) (off hfade) (eq_of_beq hnone),
    fun s m n hr hn hpaths howned hpool hstate hfade =>
      pathStop_defers (pathOpen_of hn hpaths howned hpool) hr (eq_of_beq hstate) hfade,
    fun s m n hr hn hpaths howned hpool hstate =>
      pathStop_cancels (pathOpen_of hn hpaths howned hpool) hr (eq_of_beq hstate),
    fun s m n hr hn hpaths howned hpool hstate hnone =>
      pathSync_asks (pathOpen_of hn hpaths howned hpool) hr (eq_of_beq hstate) (eq_of_beq hnone),
    fun s n T hn hreset hgrid hdue hchange hstate =>
      pathChangeInstant_runs (of_decide_eq_true hn) (off hreset) (eq_of_beq hgrid) (of_decide_eq_true hdue)
        (by simpa using hchange) (bne_iff_ne.mp hstate),
    fun s n T hn hreset hgrid hdue hchange hkt =>
      pathChangeInstant_stops (of_decide_eq_true hn) (off hreset) (eq_of_beq hgrid) (of_decide_eq_true hdue)
        (eq_of_beq hchange) (off hkt),
    fun s m n v hr hn hpaths howned hpool hok hstate hidle =>
      shiftWrite_holds (pathOpen_of hn hpaths howned hpool) hr hok (eq_of_beq hstate) hidle,
    fun s m n v hr hn hpaths howned hpool hok hstate =>
      shiftWrite_schedules (pathOpen_of hn hpaths howned hpool) hr hok (bne_iff_ne.mp hstate),
    fun s n r hn hreset hruns hstop hready hwindow hwaits hvoid hzero =>
      pathOutputBlock_voids (of_decide_eq_true hn) (off hreset) (outputDue_of hruns hstop hready hwindow hwaits)
        hvoid hzero,
    fun s n r hn hreset hruns hstop hready hwindow hwaits hin hmiss =>
      pathOutputBlock_drops (of_decide_eq_true hn) (off hreset) (outputDue_of hruns hstop hready hwindow hwaits)
        (off hin) hmiss,
    fun s n r hn hreset hruns hstop hready hwindow hwaits hin hfresh =>
      pathOutputBlock_delivers (of_decide_eq_true hn) (off hreset) (outputDue_of hruns hstop hready hwindow hwaits)
        (off hin) hfresh,
    fun s kind inst ts period hreset => voidToken_takes kind inst ts period (off hreset)⟩

end Sys2Proof.Machine
end

section
/-! SUPPORT. What leaves the demodulators (R203 to R225): events, records, transmitted groups and the KT-440 mirror lie
outside them; a change within one keeps the fields and the part of it that it is apart from. -/

namespace Sys2Proof.Machine

/-! ## Changes elsewhere -/

/-- From s to u neither a register of the blocks PTH and DEM nor the demodulators beside their registers change. -/
structure KeepsDem (s u : State) : Prop where
  rd : ∀ a, 0x10000 ≤ a → a < 0x20000 → u.rd a = s.rd a
  dems : u.dems = s.dems

section
variable {s u v : State}

theorem EventStep.dems (h : EventStep s u) : u.dems = s.dems := (congrArg State.dems h.eq :)

theorem KeepsDem.refl (s : State) : KeepsDem s s := ⟨fun _ _ _ => rfl, rfl⟩

theorem KeepsDem.trans (h : KeepsDem s u) (hv : KeepsDem u v) : KeepsDem s v :=
  ⟨fun a hlo hhi => (hv.rd a hlo hhi).trans (h.rd a hlo hhi), hv.dems.trans h.dems⟩

theorem KeepsDem.of_eq (h : KeepsDem s u) (hr : v.regs = u.regs) (hd : v.dems = u.dems) : KeepsDem s v :=
  h.trans ⟨fun a _ _ => rd_of_regs hr a, hd⟩

theorem KeepsDem.setF (h : KeepsDem s u) (f : Fld) (x : Nat) (hf : f.reg < 0x10000 ∨ 0x20000 ≤ f.reg) :
    KeepsDem s (u.setF f x) :=
  h.trans ⟨fun a hlo hhi => rd_setF_other _ _ _ _ (by omega), setF_dems _ _ _⟩

theorem KeepsDem.ite {c : Prop} [Decidable c] (hu : KeepsDem s u) (hv : KeepsDem s v) :
    KeepsDem s (if c then u else v) := by
  split
  · exact hu
  · exact hv

theorem KeepsDem.getF (h : KeepsDem s u) {f : Fld} (hf : 0x10000 ≤ f.reg ∧ f.reg < 0x20000) : u.getF f = s.getF f :=
  getF_of_rd (h.rd _ hf.1 hf.2)

theorem KeepsDem.dem (h : KeepsDem s u) (n : Nat) : u.dem n = s.dem n := congrArg (sget demNone · n) h.dems

/-! ## Events and records -/

theorem raise_keepsDem (e i : Nat) (s : State) : KeepsDem s (raise e i s) :=
  ⟨fun a hlo hhi => raise_rd e i s a (by omega) (by omega) (by omega), (raise_step e i s).dems⟩

theorem emitRecIf_keepsDem (c : Bool) (r : Rec) (s : State) : KeepsDem s (emitRecIf c r s) :=
  (KeepsDem.refl s).of_eq rfl rfl

theorem excRdsPush_keepsDem (n : Nat) (words : List Nat) (s : State) : KeepsDem s (excRdsPush n words s) := by
  unfold excRdsPush
  refine forEach_rel KeepsDem.refl KeepsDem.trans (fun i _ x => ?_) s
  exact .ite ((KeepsDem.refl x).of_eq rfl rfl) (.refl x)

/-! ## The mirror -/

/-- The mirror's registers lie in the block CMP. -/
theorem KeepsDem.ktSet (h : KeepsDem s u) (i x : Nat) : KeepsDem s (u.ktSet i x) :=
  h.setF _ _ (.inr (by simp only [CMP_KT_VALUE, CMP_KT]; omega))

theorem KeepsDem.ktBits (h : KeepsDem s u) (i hi lo x : Nat) : KeepsDem s (u.ktBits i hi lo x) := h.ktSet _ _

theorem KeepsDem.setTuner (h : KeepsDem s u) (t : Nat) (x : Tuner) : KeepsDem s (u.setTuner t x) := h.of_eq rfl rfl

theorem ktInt_keepsDem (bits : Nat) (s : State) : KeepsDem s (ktInt bits s) := by
  refine ((KeepsDem.refl s).ktSet 2 _).trans ⟨fun a hlo _ => irqRefresh_rd _ _ ?_, (irqRefresh_step _).dems⟩
  have hpend : EVT_PEND_IRQ.reg < 0x10000 := by decide
  omega

theorem ktMirror_keepsDem (t : Nat) (s : State) : KeepsDem s (ktMirror t s) := by
  unfold ktMirror
  split
  · exact .refl s
  · exact ((((((((((KeepsDem.refl s).ktBits _ _ _ _).ktBits _ _ _ _).ktSet _ _).ktSet _ _).ktSet _ _).ktSet _ _).ktSet
      _ _).ktSet _ _).ktSet _ _).ktSet _ _

theorem ktMeasure_keepsDem (t : Nat) (valid warm : Bool) (s : State) : KeepsDem s (ktMeasure t valid warm s) := by
  unfold ktMeasure
  exact ((KeepsDem.refl s).setTuner _ _).ite (.refl s)

theorem ktFifoRefresh_keepsDem (t : Nat) (s : State) : KeepsDem s (ktFifoRefresh t s) :=
  ((KeepsDem.refl s).ktSet _ _).ktSet _ _

/-- An entry of the RDS FIFO, or its loss, shows in the mirror and in the counters of the block CMP (R398, R399). -/
theorem ktRdsEntry_keepsDem (t : Nat) (words : List Nat) (err : Nat) (cPrime piConf : Bool) (s : State) :
    KeepsDem s (ktRdsEntry t words err cPrime piConf s) := by
  have hcmp : 0x20000 ≤ (ktOvfFld t).reg := by simp only [ktOvfFld, CMP_RDSOVF]; decide
  have hlost (x : Nat) :=
    (((KeepsDem.refl s).ktSet (ktIdx t 15) 1).setF (ktOvfFld t) x (.inr hcmp)).trans (ktInt_keepsDem 0x80 _)
  have hheld (x : Tuner) := ((KeepsDem.refl s).setTuner t x).trans (ktFifoRefresh_keepsDem t _)
  unfold ktRdsEntry
  exact .ite (.refl s) (.ite (.refl s) (.ite (hlost _) (.ite ((hheld _).trans (ktInt_keepsDem _ _)) (hheld _))))

end

/-! ## A part of a demodulator -/

/-- From s to u these fields, and the part P of demodulator n beside its registers, stay as they are. -/
structure KeepsPart {α : Type} (l : List Fld) (P : Dem → α) (n : Nat) (s u : State) : Prop where
  fields : ∀ g ∈ l, u.getF g = s.getF g
  part : P (u.dem n) = P (s.dem n)

/-- The fields lie in the blocks PTH and DEM. -/
abbrev InDem (l : List Fld) : Prop := ∀ g ∈ l, 0x10000 ≤ g.reg ∧ g.reg < 0x20000

/-- The fields lie in other registers than field f, or beside it in its own. -/
abbrev Beside (l : List Fld) (f : Fld) : Prop :=
  ∀ g ∈ l, g.reg ≠ f.reg ∨ (f.lo ≤ f.hi ∧ f.hi < 32) ∧ (g.hi < f.lo ∨ f.hi < g.lo)

section
variable {α : Type} {l : List Fld} {P : Dem → α} {n : Nat} {s u v : State}

theorem KeepsPart.refl (s : State) : KeepsPart l P n s s := ⟨fun _ _ => rfl, rfl⟩

theorem KeepsPart.trans (h : KeepsPart l P n s u) (hv : KeepsPart l P n u v) : KeepsPart l P n s v :=
  ⟨fun g hg => (hv.fields g hg).trans (h.fields g hg), hv.part.trans h.part⟩

theorem KeepsPart.setF (h : KeepsPart l P n s u) (f : Fld) (x : Nat) (hf : Beside l f) :
    KeepsPart l P n s (u.setF f x) :=
  h.trans ⟨fun g hg => getF_setF_apart u f g x (hf g hg), congrArg (fun t => P (sget demNone t n)) (setF_dems u f x)⟩

theorem KeepsPart.setDem (h : KeepsPart l P n s u) (d : Dem) (hd : P d = P (s.dem n)) :
    KeepsPart l P n s (u.setDem n d) :=
  ⟨fun g hg => (setDem_getF u n d g).trans (h.fields g hg), (congrArg P (dem_setDem_same u n d)).trans hd⟩

theorem KeepsPart.ite {c : Prop} [Decidable c] (hu : KeepsPart l P n s u) (hv : KeepsPart l P n s v) :
    KeepsPart l P n s (if c then u else v) := by
  split
  · exact hu
  · exact hv

/-- A change elsewhere keeps every field and part of a demodulator. -/
theorem KeepsPart.elsewhere (h : KeepsPart l P n s u) (hl : InDem l) (hv : KeepsDem u v) : KeepsPart l P n s v :=
  h.trans ⟨fun g hg => hv.getF (hl g hg), congrArg P (hv.dem n)⟩

end

end Sys2Proof.Machine
end

section
/-! SUPPORT. Configuration of a demodulator, and the windows it publishes (R214 to R217, R224): what a configuration
write stores, and what the registers show of a window. -/

namespace Sys2Proof.Machine

section
variable {s u : State} {n : Nat}

/-! ## Configuration -/

/-- A configuration in range is stored; on a STOPPED path it is in force at once (R224, R226). -/
theorem demWrite_stores {r : Nat} {v : Word}
    (hkeeps : (decide (r = 0) && s.getF (PTHn_STAT_STATE n) != 0 &&
      !demCtlKeeps (s.rd (DEMn_CTL n + 4 * r)).toNat v.toNat) = false)
    (hok : regOk (DEMn_CTL n + 4 * r) v = true) (hpair : demPairOk r v.toNat = true) :
    (demWrite n r v s).rd (DEMn_CTL n + 4 * r) =
        BitVec.ofNat 32 (fieldsWrite (regFields (DEMn_CTL n + 4 * r)) (s.rd (DEMn_CTL n + 4 * r)).toNat v.toNat) ∧
      (s.getF (PTHn_STAT_STATE n) = 0 →
        ((demWrite n r v s).dem n).ctl = ((demWrite n r v s).rd (DEMn_CTL n)).toNat) := by
  have hstored : (regPut (DEMn_CTL n + 4 * r) v (demNote n s)).rd (DEMn_CTL n + 4 * r) =
      BitVec.ofNat 32 (fieldsWrite (regFields (DEMn_CTL n + 4 * r)) (s.rd (DEMn_CTL n + 4 * r)).toNat v.toNat) :=
    rd_wr_same _ _ _
  unfold demWrite
  dsimp only
  rw [hkeeps, hok, hpair, if_neg (by decide), if_neg (by decide)]
  split
  next => exact ⟨(setDem_rd _ _ _ _).trans hstored, fun _ => congrArg Dem.ctl (dem_setDem_same _ n _)⟩
  next hruns => exact ⟨hstored, fun hstopped => absurd hstopped hruns⟩

theorem demConfigWrite_stores {m : Master} {r : Nat} {v : Word} (h : PathOpen s m n)
    (hr : s.reaches m (DEMn_CTL n + 4 * r) = true) (hr3 : r < 3)
    (hkeeps : (decide (r = 0) && s.getF (PTHn_STAT_STATE n) != 0 &&
      !demCtlKeeps (s.rd (DEMn_CTL n + 4 * r)).toNat v.toNat) = false)
    (hok : regOk (DEMn_CTL n + 4 * r) v = true) (hpair : demPairOk r v.toNat = true) :
    Gives (.demConfigWrite m n r v) s fun t =>
      t.rd (DEMn_CTL n + 4 * r) =
          BitVec.ofNat 32 (fieldsWrite (regFields (DEMn_CTL n + 4 * r)) (s.rd (DEMn_CTL n + 4 * r)).toNat v.toNat) ∧
        (s.getF (PTHn_STAT_STATE n) = 0 → (t.dem n).ctl = (t.rd (DEMn_CTL n)).toNat) := by
  have hgo : (decide (n < 512) && decide (r < 3)) = true := by rw [decide_eq_true h.lt, decide_eq_true hr3]; rfl
  obtain ⟨u, ht, hwrite⟩ := h.write hr v.toNat (demWrite n r v)
  rw [if_pos h.lt] at hwrite
  have hexec : exec (.demConfigWrite m n r v) s = .next (demWrite n r v u) := by
    show execDemConfigWrite m n r v s = _
    rw [execDemConfigWrite, if_pos hgo, hwrite]
  have hlow : DEMn_CTL n + 4 * r < 0x68000 := by have := h.lt; rw [DEMn_CTL]; omega
  have hrd : u.rd (DEMn_CTL n + 4 * r) = s.rd (DEMn_CTL n + 4 * r) :=
    ht.within _ (List.forall_mem_singleton.mpr (.inl hlow))
  have hshows := demWrite_stores (s := u) (by rwa [ht.pathState h.lt, hrd]) hok hpair
  rw [ht.pathState h.lt, hrd] at hshows
  exact ⟨_, hexec, hshows⟩

/-! ## Publication -/

/-- The metric fields read back the level, and the stamp of the window's start (R214, R217). -/
theorem metricFields_shows (n : Nat) (m : Metrics) (s : State) :
    (metricFields n m s).get64 (DEMn_QTS_LO n) (DEMn_QTS_HI n) = m.start % 2 ^ 64 ∧
      (-32768 ≤ m.rssi → m.rssi ≤ 32767 → (metricFields n m s).getI (DEMn_LVL_RSSI n) = m.rssi) := by
  refine ⟨get64_set64 _ _ (by simp only [DEMn_QTS_LO, DEMn_QTS_HI]; omega), fun hlo hhi => ?_⟩
  have hrd : (metricFields n m s).rd (DEMn_LVL n) =
      ((s.setI (DEMn_LVL_RSSI n) m.rssi).setI (DEMn_LVL_CNR n) m.cnr).rd (DEMn_LVL n) := by
    simp [metricFields, State.setI, State.set64, rd_setF, rd_wr, DEMn_LVL, DEMn_LVL_RSSI, DEMn_LVL_CNR, DEMn_FM_MPATH,
      DEMn_FM_USN, DEMn_FM, DEMn_FOFF_FOFF, DEMn_FOFF, DEMn_MOD_PEAK, DEMn_MOD_PILOT, DEMn_MOD, DEMn_DIVQ_CNR_A,
      DEMn_DIVQ_CNR_B, DEMn_DIVQ, DEMn_QTS_LO, DEMn_QTS_HI]
  have hlevel :
      (metricFields n m s).getF (DEMn_LVL_RSSI n) = (s.setI (DEMn_LVL_RSSI n) m.rssi).getF (DEMn_LVL_RSSI n) :=
    (getF_of_rd (f := DEMn_LVL_RSSI n) hrd).trans (getF_setF_beside _ (DEMn_LVL n) 31 16 15 0 _ (by decide))
  rw [State.getI, hlevel, ← State.getI]
  exact getI_setI_fits _ ⟨DEMn_LVL n, 15, 0⟩ (by simp) (by simpa using hlo) (by simp; omega)

theorem metricFields_dems (n : Nat) (m : Metrics) (s : State) : (metricFields n m s).dems = s.dems := by
  simp only [metricFields, set64_dems, setI_dems, setF_dems]

/-- The registers show a window: its metrics where it is valid, and the end of WARMUP (R216, R217). -/
def metricShown (n : Nat) (m : Metrics) (s : State) : State :=
  let s1 := if m.valid then metricFields n m s else s
  if m.warm then s1 else s1.setF (DEMn_STAT_WARMUP n) 0

theorem metricShown_dem (n : Nat) (m : Metrics) (s : State) : (metricShown n m s).dem n = s.dem n := by
  have hfields : (if m.valid then metricFields n m s else s).dems = s.dems := by
    split
    · exact metricFields_dems n m s
    · rfl
  refine congrArg (sget demNone · n) (Eq.trans ?_ hfields)
  unfold metricShown
  dsimp only
  split
  · rfl
  · exact setF_dems _ _ _

theorem metricShown_rd (n : Nat) {m : Metrics} (s : State) (hvalid : m.valid = true) {a : Nat} (ha : a ≠ DEMn_STAT n) :
    (metricShown n m s).rd a = (metricFields n m s).rd a := by
  unfold metricShown
  dsimp only
  rw [if_pos hvalid]
  split
  · rfl
  · exact rd_setF_other _ _ _ _ ha

theorem metricShown_warmup (n : Nat) {m : Metrics} (s : State) (hwarm : m.warm = false) :
    (metricShown n m s).getF (DEMn_STAT_WARMUP n) = 0 := by
  unfold metricShown
  dsimp only
  rw [hwarm, if_neg (by decide)]
  exact getF_setF_bits_fit _ (DEMn_STAT n) 30 30 0 (by decide) (by decide)

/-- Beside the queue and the registers of the window, publication changes no demodulator (R217, R345, R395). -/
theorem metricPublish_keeps {m : Metrics} {rest : List Metrics} (hqueue : (s.dem n).toPublish = m :: rest) :
    KeepsDem (metricShown n m (s.setDem n { s.dem n with toPublish := rest })) (metricPublish n s) := by
  unfold metricPublish
  rw [hqueue]
  have hsent := emitRecIf_keepsDem (s.getF (PTHn_STAT_STATE n) == 2)
  exact .ite ((hsent _ _).trans ((ktMeasure_keepsDem _ _ _ _).trans (ktMirror_keepsDem _ _))) (hsent _ _)

/-- The oldest window leaves the queue and, where it is valid, shows in the registers; WARMUP ends with the first that
is not warming up (R216, R217). -/
theorem metricPublish_shows {m : Metrics} {rest : List Metrics} (hn : n < 512)
    (hqueue : (s.dem n).toPublish = m :: rest) :
    Gives (.metricPublish n) s fun t =>
      (t.dem n).toPublish = rest ∧
        (m.valid = true → t.get64 (DEMn_QTS_LO n) (DEMn_QTS_HI n) = m.start % 2 ^ 64) ∧
        (m.valid = true → -32768 ≤ m.rssi → m.rssi ≤ 32767 → t.getI (DEMn_LVL_RSSI n) = m.rssi) ∧
        (m.warm = false → t.getF (DEMn_STAT_WARMUP n) = 0) := by
  have hexec : exec (.metricPublish n) s = .next (metricPublish n s) := by
    show execMetricPublish n s = _
    rw [execMetricPublish, if_pos hn]
  have hkeep := metricPublish_keeps hqueue
  generalize hmid : s.setDem n { s.dem n with toPublish := rest } = mid at hkeep
  obtain ⟨hstamp, hlevel⟩ := metricFields_shows n m mid
  have hshown (hvalid : m.valid = true) {a : Nat} (ha : 0x18010 + 0x40 * n ≤ a ∧ a < 0x18040 + 0x40 * n) :
      (metricPublish n s).rd a = (metricFields n m mid).rd a :=
    (hkeep.rd a (by omega) (by omega)).trans (metricShown_rd n mid hvalid (by rw [DEMn_STAT]; omega))
  refine ⟨_, hexec, ?_, fun hvalid => ?_, fun hvalid hlo hhi => ?_, fun hwarm => ?_⟩
  · rw [hkeep.dem, metricShown_dem, ← hmid, dem_setDem_same]
  · rw [State.get64, hshown hvalid (by rw [DEMn_QTS_LO]; omega), hshown hvalid (by rw [DEMn_QTS_HI]; omega)]
    exact hstamp
  · have hreg : (metricPublish n s).rd (DEMn_LVL n) = (metricFields n m mid).rd (DEMn_LVL n) :=
      hshown hvalid (by rw [DEMn_LVL]; omega)
    rw [State.getI, getF_of_rd (f := DEMn_LVL_RSSI n) hreg]
    exact hlevel hlo hhi
  · exact (hkeep.getF (by simp only [DEMn_STAT_WARMUP, DEMn_STAT]; omega)).trans (metricShown_warmup n mid hwarm)

end

end Sys2Proof.Machine
end

section
/-! SUPPORT. The end of a metric window (R208 to R216): pilot, loss, blend and soft mute move, and leave the queue of
windows, the configuration in force and QVALID as the window set them. -/

namespace Sys2Proof.Machine

/-! ## Windows that need no channel block -/

section
variable {s : State} {n t : Nat} {r : Run} (hnone : r.chanCount t = 0)
include hnone

theorem chanReady_of_none : s.chanReady r t = true := by
  unfold State.chanReady
  rw [hnone]
  rfl

/-- A run whose channel blocks are all formed is written back as it was. -/
theorem chanForm_of_none (hruns : (s.path n).runs = [r]) : chanForm n t s = s.setPath n (s.path n) := by
  have hlast : (s.path n).runs.getLast? = some r := by rw [hruns]; rfl
  have hback : { s.path n with runs := (s.path n).runs.dropLast ++ [r] } = s.path n := by
    rw [hruns, List.dropLast_singleton, List.nil_append, ← hruns]
  unfold chanForm chanTo
  rw [hlast]
  dsimp only
  rw [hnone, List.range_zero, List.foldl_nil, hback]

end

/-! ## The states after a window -/

/-- What a window leaves beside the states: the windows to be published, the configuration in force, the next window. -/
def windowPart (d : Dem) : List Metrics × Nat × Nat := (d.toPublish, d.ctl, d.window)

/-- QVALID and that part of demodulator n stay as they are. -/
abbrev KeepsWindow (n : Nat) (s u : State) : Prop := KeepsPart [DEMn_STAT_QVALID n] windowPart n s u

section
variable {n : Nat}

theorem qvalid_inDem (hn : n < 512) : InDem [DEMn_STAT_QVALID n] :=
  List.forall_mem_singleton.mpr (by simp only [DEMn_STAT_QVALID, DEMn_STAT]; omega)

/-- QVALID is the highest bit of its register. -/
theorem qvalid_beside {hi lo : Nat} (h : lo ≤ hi ∧ hi < 31) : Beside [DEMn_STAT_QVALID n] ⟨DEMn_STAT n, hi, lo⟩ :=
  List.forall_mem_singleton.mpr (.inr (by simp only [DEMn_STAT_QVALID]; omega))

theorem KeepsWindow.setStat {s u : State} (h : KeepsWindow n s u) {hi lo : Nat} (x : Nat) (hf : lo ≤ hi ∧ hi < 31) :
    KeepsWindow n s (u.setF ⟨DEMn_STAT n, hi, lo⟩ x) := h.setF _ _ (qvalid_beside hf)

theorem sepRamp_keepsWindow (at_ : Nat) (x : Rat) (s : State) : KeepsWindow n s (sepRamp n at_ x s) :=
  KeepsPart.setDem (.refl s) _ rfl

theorem muteRamp_keepsWindow (at_ : Nat) (x : Rat) (s : State) : KeepsWindow n s (muteRamp n at_ x s) :=
  KeepsPart.setDem (.refl s) _ rfl

variable (hn : n < 512)
include hn

theorem lostStep_keepsWindow (start : Nat) (cnr : Int) (s : State) : KeepsWindow n s (lostStep n start cnr s) := by
  have hset (b : Bool) (d : Dem) (hd : windowPart d = windowPart (s.dem n)) :
      KeepsWindow n s ((s.setB (DEMn_STAT_LOST n) b).setDem n d) :=
    KeepsPart.setDem (KeepsWindow.setStat (.refl s) _ (by decide)) d hd
  have hraise {u : State} (e : Nat) (h : KeepsWindow n s u) : KeepsWindow n s (raise e n u) :=
    h.elsewhere (qvalid_inDem hn) (raise_keepsDem e n u)
  unfold lostStep
  extract_lets los lost toward run from_ d0 s1 s2
  have hs1 : KeepsWindow n s s1 := hset _ _ rfl
  have hs2 : KeepsWindow n s s2 := hraise evSigLost hs1
  have hint : KeepsWindow n s (ktInt 0x20 s2) := hs2.elsewhere (qvalid_inDem hn) (ktInt_keepsDem 0x20 s2)
  exact .ite (KeepsPart.setDem (.refl s) _ rfl) (.ite (hraise evSigFound hs1) (.ite hint hs2))

theorem pilotSet_keepsWindow (b : Bool) (s : State) : KeepsWindow n s (pilotSet n b s) := by
  have hset : KeepsWindow n s ((s.setB (DEMn_STAT_PILOT n) b).setDem n { s.dem n with pilotRun := 0 }) :=
    KeepsPart.setDem (KeepsWindow.setStat (.refl s) _ (by decide)) _ rfl
  exact .ite (.refl s) (hset.elsewhere (qvalid_inDem hn) (raise_keepsDem _ _ _))

theorem pilotStep_keepsWindow (pilot : Nat) (s : State) : KeepsWindow n s (pilotStep n pilot s) := by
  have hset (k : Nat) : KeepsWindow n s (s.setDem n { s.dem n with pilotRun := k }) := KeepsPart.setDem (.refl s) _ rfl
  unfold pilotStep
  exact .ite ((hset 0).trans (pilotSet_keepsWindow hn _ _)) (.ite (hset _) (pilotSet_keepsWindow hn _ _))

theorem windowStates_keepsWindow (m : Metrics) (s : State) : KeepsWindow n s (windowStates n m s) := by
  unfold windowStates
  extract_lets next depth d0 s0 a b r s1 r1
  have hwarmed : KeepsWindow n s s0 := KeepsPart.setDem (.refl s) _ rfl
  have hb : KeepsWindow n s b :=
    have ha : KeepsWindow n s a := hwarmed.trans (lostStep_keepsWindow hn _ _ _)
    .ite (ha.trans (pilotStep_keepsWindow hn _ _)) ha
  have hs1 : KeepsWindow n s s1 := by
    refine .ite (KeepsWindow.setStat (hb.trans (sepRamp_keepsWindow _ _ _)) _ (by decide)) (.ite ?_ hwarmed)
    exact KeepsWindow.setStat hwarmed _ (by decide)
  have hmute (x : Rat) (k : Nat) : KeepsWindow n s ((muteRamp n next x s1).setF (DEMn_STAT_SMUTE_DB n) k) :=
    KeepsWindow.setStat (hs1.trans (muteRamp_keepsWindow _ _ _)) _ (by decide)
  have hfull (l : List Ramp) :
      KeepsWindow n s ((s.setDem n { s.dem n with mute := l }).setF (DEMn_STAT_SMUTE_DB n) depth) :=
    have hramp : KeepsWindow n s (s.setDem n { s.dem n with mute := l }) := KeepsPart.setDem (.refl s) _ rfl
    KeepsWindow.setStat hramp _ (by decide)
  exact .ite (hfull _) (.ite (hmute _ _) (.ite (hmute _ _) hs1))

/-! ## The end of a window -/

/-- The metrics of the window of path n that began at start, in warm-up or not (R214, R216). -/
def windowMetrics (n start : Nat) (q : Meas) (s : State) : Metrics :=
  metricsOf n start (decide (start + metricWindow < s.pathOrigin n + metricWarmup)) q s

/-- A window that ends waits to be published, and the configuration written before its end is in force (R214, R224). -/
theorem metricEnd_shows (start : Nat) (q : Meas) (s : State) :
    ((metricEnd n start q s).dem n).toPublish = (s.dem n).toPublish ++ [windowMetrics n start q s] ∧
      (metricEnd n start q s).flag (DEMn_STAT_QVALID n) = (windowMetrics n start q s).valid ∧
      ((metricEnd n start q s).dem n).ctl = s.demWord n 0 (start + metricWindow) ∧
      ((metricEnd n start q s).dem n).window = start + metricWindow := by
  unfold metricEnd
  extract_lets warm m d s1 s2 s3
  have hpart : windowPart (s2.dem n) =
      ((s.dem n).toPublish ++ [m], s.demWord n 0 (start + metricWindow), start + metricWindow) :=
    congrArg windowPart ((congrArg (sget demNone · n) (setB_dems s1 _ _)).trans (dem_setDem_same s n _))
  have hvalid : s2.getF (DEMn_STAT_QVALID n) = m.valid.toNat :=
    getF_setF_bits_fit s1 (DEMn_STAT n) 31 31 _ (by decide) (by cases m.valid <;> decide)
  have hs3 : KeepsWindow n s2 s3 := .ite (KeepsWindow.setStat (.refl s2) _ (by decide)) (.refl s2)
  have hkeep : KeepsWindow n s2 (if s.getF (PTHn_CTL_TYPE n) = 2 then s3 else windowStates n m s3) :=
    .ite hs3 (hs3.trans (windowStates_keepsWindow hn m s3))
  obtain ⟨hqueue, hctl, hwindow⟩ : _ ∧ _ ∧ _ := by
    simpa only [windowPart, Prod.mk.injEq] using hkeep.part.trans hpart
  exact ⟨hqueue, flag_of_getF ((hkeep.fields _ (List.mem_singleton_self _)).trans hvalid), hctl, hwindow⟩

end

/-! ## The command -/

/-- The passing of time changes the count of ticks alone. -/
theorem advance_eq (t : Nat) (s : State) : ∃ c, s.advance t = { s with syscnt := c } := by
  unfold State.advance
  split
  · exact ⟨_, rfl⟩
  · exact ⟨s.syscnt, rfl⟩

/-- What is measured over the window of path n that began at start, of a run with its channel blocks formed (R214,
R215). -/
def windowMeas (n start : Nat) (r : Run) (s : State) : Meas :=
  measOf r
    (r.chan.filter fun b => decide (max start (s.dem n).counted ≤ b.ts) && decide (b.ts < start + metricWindow)).reverse
    (if s.pathVoid n then 8 else 0)

/-- A metric window of the sole run of path n, with its channel blocks formed, can end (R214, R228). -/
structure WindowDue (s : State) (n start : Nat) (r : Run) : Prop where
  lt : n < 512
  reset : s.pwr.inReset = false
  running : s.pathRunning n = true
  runs : (s.path n).runs = [r]
  grid : start % metricWindow = 0
  next : (s.dem n).window ≤ start
  base : r.base ≤ start
  formed : r.chanCount (start + metricWindow - 1) = 0

section
variable {s : State} {n start : Nat} {r : Run} (h : WindowDue s n start r)
include h

/-- The state in which a window is judged: time has passed until its end, and no channel block is formed. -/
theorem exec_metricWindow : exec (.metricWindow n start) s =
    .next (metricEnd n start (windowMeas n start r s)
      ((s.advance (start + metricWindow)).setPath n ((s.advance (start + metricWindow)).path n))) := by
  have hgo : (decide (n < 512) && !s.pwr.inReset) = true := by rw [decide_eq_true h.lt, h.reset]; rfl
  have hlast : (s.path n).runs.getLast? = some r := by rw [h.runs]; rfl
  have hnext := h.next
  have hbase := h.base
  have hdue : ¬ (!s.pathRunning n || start % metricWindow != 0 || decide (start < (s.dem n).window) ||
      decide (start < r.base) || !s.chanReady r (start + metricWindow - 1)) = true := by
    rw [h.running, h.grid, chanReady_of_none h.formed, decide_eq_false (by omega), decide_eq_false (by omega)]
    decide
  show execMetricWindow n start s = _
  rw [execMetricWindow, if_pos hgo, metricWindowEnd]
  dsimp only
  rw [hlast]
  dsimp only
  rw [if_neg hdue]
  obtain ⟨c, hc⟩ := advance_eq (start + metricWindow) s
  rw [hc, chanForm_of_none h.formed (s := { s with syscnt := c }) h.runs, path_setPath_same, putBack_pathVoid]
  rw [show (State.path { s with syscnt := c } n).runs = [r] from h.runs]
  rfl

theorem metricWindow_ends : Gives (.metricWindow n start) s fun t =>
    (t.dem n).toPublish = (s.dem n).toPublish ++ [windowMetrics n start (windowMeas n start r s) s] ∧
      t.flag (DEMn_STAT_QVALID n) = (windowMetrics n start (windowMeas n start r s) s).valid ∧
      (t.dem n).ctl = s.demWord n 0 (start + metricWindow) ∧ (t.dem n).window = start + metricWindow := by
  refine ⟨_, exec_metricWindow h, ?_⟩
  obtain ⟨c, hc⟩ := advance_eq (start + metricWindow) s
  rw [hc]
  exact metricEnd_shows h.lt start _ ((State.setPath n (State.path { s with syscnt := c } n) { s with syscnt := c }))

end

end Sys2Proof.Machine
end

section
/-! SUPPORT. The groups of RDS (R219 to R223): a block that takes its place in its group, whatever it completes, leaves
the count of bad blocks, RDS_SYNC and the blocks that wait to be paired. -/

namespace Sys2Proof.Machine

/-! ## Groups -/

/-- The count of bad blocks, RDS_SYNC and the blocks of demodulator n that wait to be paired stay as they are. -/
abbrev KeepsBlocks (n : Nat) (s u : State) : Prop :=
  KeepsPart [DEMn_RDSBLK_BAD n, DEMn_STAT_RDS_SYNC n] Dem.cand n s u

/-- A field of one of the registers that a group writes, beside RDS_SYNC. -/
structure GroupField (n : Nat) (f : Fld) : Prop where
  block : f.reg ≠ DEMn_RDSBLK n
  sync : f.reg ≠ DEMn_STAT n ∨ (f.lo ≤ f.hi ∧ f.hi < 26)

section
variable {n : Nat} {s u : State}

theorem rdsFields_inDem (hn : n < 512) : InDem [DEMn_RDSBLK_BAD n, DEMn_STAT_RDS_SYNC n] := by
  simp only [List.forall_mem_cons, DEMn_RDSBLK_BAD, DEMn_RDSBLK, DEMn_STAT_RDS_SYNC, DEMn_STAT]
  exact ⟨by omega, by omega, by simp⟩

theorem KeepsBlocks.setF (h : KeepsBlocks n s u) {f : Fld} (x : Nat) (hf : GroupField n f) :
    KeepsBlocks n s (u.setF f x) := by
  refine KeepsPart.setF h f x (List.forall_mem_cons.mpr ⟨.inl hf.block.symm, List.forall_mem_singleton.mpr ?_⟩)
  obtain hreg | hbits := hf.sync
  · exact .inl hreg.symm
  · exact .inr ⟨⟨hbits.1, by omega⟩, .inr hbits.2⟩

theorem groupField_of_reg {f : Fld}
    (h : f.reg = DEMn_PI n ∨ f.reg = DEMn_RDSQ n ∨ f.reg = DEMn_RDSCNT n ∨ f.reg = DEMn_RDSCNT2 n) :
    GroupField n f := by
  simp only [DEMn_PI, DEMn_RDSQ, DEMn_RDSCNT, DEMn_RDSCNT2] at h
  exact ⟨by rw [DEMn_RDSBLK]; omega, .inl (by rw [DEMn_STAT]; omega)⟩

theorem groupField_confirmed : GroupField n (DEMn_STAT_PI_CONF n) :=
  ⟨by simp only [DEMn_STAT_PI_CONF, DEMn_STAT, DEMn_RDSBLK]; omega, .inr (by simp [DEMn_STAT_PI_CONF])⟩

theorem afTake_keepsBlocks (g : List RdsBlock) (s : State) : KeepsBlocks n s (afTake n g s) := by
  unfold afTake
  split
  next b c e =>
    have hheard (af : List Nat) (eon : List (Nat × Nat)) :
        KeepsBlocks n s (s.setDem n { s.dem n with af := af, eon := eon }) := KeepsPart.setDem (.refl s) _ rfl
    exact .ite (.refl s) (.ite (hheard _ _) (.ite (hheard _ _) (.refl s)))
  next => exact .refl s

variable (hn : n < 512)
include hn

theorem piReading_keepsBlocks (pi : Nat) (s : State) : KeepsBlocks n s (piReading n pi s) := by
  unfold piReading
  extract_lets same run s1
  have hcand : KeepsBlocks n s (s.setF (DEMn_PI_CAND n) pi) :=
    KeepsBlocks.setF (.refl s) _ (groupField_of_reg (.inl rfl))
  have hs1 : KeepsBlocks n s s1 := KeepsBlocks.setF hcand _ (groupField_of_reg (.inr (.inl rfl)))
  have hpi : KeepsBlocks n s (s1.setF (DEMn_PI_PI n) pi) := KeepsBlocks.setF hs1 _ (groupField_of_reg (.inl rfl))
  exact .ite hs1 (.ite (KeepsBlocks.setF hpi _ groupField_confirmed)
    (.ite hs1 (hpi.elsewhere (rdsFields_inDem hn) (raise_keepsDem _ _ _))))

theorem rdsText_keepsBlocks (g : List RdsBlock) (ts flags : Nat) (s : State) :
    KeepsBlocks n s (rdsText n g ts flags s) := by
  have hout {u : State} (h : KeepsBlocks n s u) (c : Bool) (r : Rec) : KeepsBlocks n s (emitRecIf c r u) :=
    h.elsewhere (rdsFields_inDem hn) (emitRecIf_keepsDem c r u)
  unfold rdsText
  split
  next a b c e =>
    extract_lets d ty out segs l s1 ab size old segs2 s2
    have hs1 : KeepsBlocks n s s1 := KeepsPart.setDem (.refl s) _ rfl
    have hs2 : KeepsBlocks n s s2 := KeepsPart.setDem (.refl s) _ rfl
    refine .ite (.refl s) (.ite (.ite (hout hs1 _ _) hs1) (.ite ?_ (.refl s)))
    split
    next => exact .ite (hout hs2 _ _) hs2
    next => exact hs2
  next => exact .refl s

/-- A complete group is delivered or withheld (R221, R222, R462). -/
theorem rdsGroup_keepsBlocks (g : List RdsBlock) (s : State) : KeepsBlocks n s (rdsGroup n g s) := by
  have hin : InDem [DEMn_RDSBLK_BAD n, DEMn_STAT_RDS_SYNC n] := rdsFields_inDem hn
  unfold rdsGroup
  extract_lets seq d0 s1 r s2
  have hs1 : KeepsBlocks n s s1 := KeepsPart.setDem (.refl s) _ rfl
  have hs2 : KeepsBlocks n s s2 := by
    have hcounted : KeepsBlocks n s ((afTake n g s1).bump (DEMn_RDSCNT_GROUPS n)) :=
      KeepsBlocks.setF (hs1.trans (afTake_keepsBlocks g s1)) _ (groupField_of_reg (.inr (.inr (.inl rfl))))
    exact (hcounted.elsewhere hin (emitRecIf_keepsDem _ _ _)).trans (rdsText_keepsBlocks hn _ _ _ _)
  refine .ite ?_ (KeepsBlocks.setF hs1 _ (groupField_of_reg (.inr (.inr (.inr rfl)))))
  exact hs2.elsewhere hin ((excRdsPush_keepsDem _ _ _).trans (ktRdsEntry_keepsDem _ _ _ _ _ _))

/-- A block takes its place in its group (R220). -/
theorem groupStep_keepsBlocks (b : RdsBlock) (s : State) : KeepsBlocks n s (groupStep n b s) := by
  unfold groupStep
  extract_lets d s1 s2 g
  have hs1 : KeepsBlocks n s s1 := KeepsPart.setDem (.refl s) _ rfl
  have hgroup (l : List RdsBlock) : KeepsBlocks n s (s1.setDem n { s1.dem n with group := l }) :=
    KeepsPart.setDem hs1 _ hs1.part
  exact .ite (.ite ((hgroup [b]).trans (piReading_keepsBlocks hn _ _)) (hgroup [b]))
    (.ite (.ite (hs1.trans (rdsGroup_keepsBlocks hn _ _)) (hgroup _)) (hgroup _))

end

end Sys2Proof.Machine
end

section
/-! SUPPORT. The blocks of RDS and the PI (R219 to R221, R223): a block in synchronisation, one that acquires it, the PI
that a reading confirms, and its time-out. -/

namespace Sys2Proof.Machine

section
variable {s : State} {n bit w t : Nat}

/-! ## A block in synchronisation -/

/-- A block with offset E is counted and breaks its group (R219). -/
theorem rdsInSync_breaks (hoff : rdsMod w = rdsOffset 5) :
    Counted (DEMn_RDSCNT2_OFFE n) s (rdsInSync n bit w t s) ∧ ((rdsInSync n bit w t s).dem n).group = [] ∧
      ((rdsInSync n bit w t s).dem n).pos = ((s.dem n).pos + 1) % 4 := by
  unfold rdsInSync
  dsimp only
  rw [if_pos hoff, dem_setDem_same]
  have hcounted : Counted ⟨DEMn_RDSCNT2 n, 31, 16⟩ s (s.bump ⟨DEMn_RDSCNT2 n, 31, 16⟩) :=
    counted_bump _ _ (by simp) (by simp)
  exact ⟨(setDem_getF _ _ _ _).trans hcounted, rfl, rfl⟩

/-- The loss of synchronisation is not a bad block (R220). -/
theorem rdsLose_bad (hn : n < 512) (s : State) :
    (rdsLose n s).getF (DEMn_RDSBLK_BAD n) = s.getF (DEMn_RDSBLK_BAD n) := by
  have hbad : InDem [DEMn_RDSBLK_BAD n, DEMn_STAT_RDS_SYNC n] := rdsFields_inDem hn
  have hsync : DEMn_RDSBLK n ≠ DEMn_STAT n := by rw [DEMn_RDSBLK, DEMn_STAT]; omega
  have hloss : DEMn_RDSBLK n ≠ DEMn_RDSCNT n := by rw [DEMn_RDSBLK, DEMn_RDSCNT]; omega
  unfold rdsLose rdsSyncSet
  dsimp only
  rw [(raise_keepsDem _ _ _).getF (hbad _ List.mem_cons_self), State.setB, getF_setF_reg _ _ _ _ hsync, setDem_getF]
  exact getF_setF_reg _ _ _ _ hloss

/-- A block of class 3 is counted, whatever it completes or ends (R221). -/
theorem rdsInSync_bad (hn : n < 512) (hoff : rdsMod w ≠ rdsOffset 5) (hcls : (rdsAt bit w t (s.dem n).pos).cls = 3) :
    Counted (DEMn_RDSBLK_BAD n) s (rdsInSync n bit w t s) := by
  unfold rdsInSync
  extract_lets d b bad l50 l160 s1 s2 s3
  have hwindows : KeepsBlocks n s (s.setDem n { d with last50 := l50, last160 := l160 }) :=
    KeepsPart.setDem (.refl s) _ rfl
  have hs1 : KeepsBlocks n s s1 := KeepsBlocks.setF hwindows _ (groupField_of_reg (.inr (.inl rfl)))
  have hs2 : s2 = s1.bump (DEMn_RDSBLK_BAD n) := if_pos (beq_iff_eq.mpr hcls)
  have hcounted : Counted (DEMn_RDSBLK_BAD n) s s2 :=
    hs2 ▸ (counted_bump s1 ⟨DEMn_RDSBLK n, 31, 16⟩ (by simp) (by simp)).of_getF (hs1.fields _ List.mem_cons_self)
  have hs3 : s3.getF (DEMn_RDSBLK_BAD n) = s2.getF (DEMn_RDSBLK_BAD n) :=
    (groupStep_keepsBlocks hn b s2).fields _ List.mem_cons_self
  rw [if_neg hoff]
  split
  · exact ((rdsLose_bad hn s3).trans hs3).trans hcounted
  · exact hs3.trans hcounted

/-! ## The PI -/

/-- A word with offset A and no error is the block A of its group, of class 0 (R219, R220). -/
theorem rdsAt_first (hclean : rdsMod w = rdsOffset 0) : rdsAt bit w t 0 = ⟨bit, 0, 0, w / 1024, t⟩ := by
  simp [rdsAt, rdsBlockOf, rdsRead, hclean]

/-- The fourth reading of the same PI confirms it (R223). -/
theorem piReading_confirms {pi : Nat} (hpi : pi < 65536) (hrun : s.getF (DEMn_RDSQ_RUN n) = 3)
    (hcand : s.getF (DEMn_PI_CAND n) = pi) (hconf : s.flag (DEMn_STAT_PI_CONF n) = false) :
    (piReading n pi s).getF (DEMn_PI_PI n) = pi ∧ (piReading n pi s).getF (DEMn_STAT_PI_CONF n) = 1 ∧
      (piReading n pi s).dem n = s.dem n := by
  have hpireg : DEMn_STAT n ≠ DEMn_PI n := by rw [DEMn_STAT, DEMn_PI]; omega
  have hquality : DEMn_STAT n ≠ DEMn_RDSQ n := by rw [DEMn_STAT, DEMn_RDSQ]; omega
  have hother : ((s.setF (DEMn_PI_CAND n) pi).setF (DEMn_RDSQ_RUN n) 4).flag (DEMn_STAT_PI_CONF n) = false := by
    rw [State.flag, getF_setF_reg _ _ _ _ hquality, getF_setF_reg _ _ _ _ hpireg, ← State.flag, hconf]
  have hset : piReading n pi s = (((s.setF (DEMn_PI_CAND n) pi).setF (DEMn_RDSQ_RUN n) 4).setF (DEMn_PI_PI n) pi).setF
      (DEMn_STAT_PI_CONF n) 1 := by
    simp [piReading, hrun, hcand, hother]
  rw [hset, getF_setF_reg _ _ _ _ hpireg.symm]
  refine ⟨getF_setF_bits_fit _ (DEMn_PI n) 15 0 pi (by decide) hpi,
    getF_setF_bits_fit _ (DEMn_STAT n) 25 25 1 (by decide) (by decide), ?_⟩
  exact congrArg (sget demNone · n) (by simp only [setF_dems])

/-- A block A of class 0 begins a group, and its PI is read (R220, R223). -/
theorem groupStep_first {b : RdsBlock} (hpos : (s.dem n).pos = 0) (hcls : b.cls = 0) :
    ∃ u : State, groupStep n b s = piReading n b.data u ∧ (∀ f, u.getF f = s.getF f) ∧ (u.dem n).group = [b] ∧
      (u.dem n).pos = 1 := by
  unfold groupStep
  dsimp only
  rw [if_pos hpos, if_pos hcls, hpos]
  exact ⟨_, rfl, fun _ => rfl, congrArg Dem.group (dem_setDem_same _ n _),
    (congrArg Dem.pos (dem_setDem_same _ n _)).trans (congrArg Dem.pos (dem_setDem_same _ n _))⟩

/-- The block A of a group with the fourth reading of the same PI (R220, R223). -/
theorem rdsInSync_confirms (hw : w < 67108864) (hclean : rdsMod w = rdsOffset 0) (hpos : (s.dem n).pos = 0)
    (hheld : ((false :: (s.dem n).last50).take 50).count true ≤ 20) (hrun : s.getF (DEMn_RDSQ_RUN n) = 3)
    (hcand : s.getF (DEMn_PI_CAND n) = w / 1024) (hconf : s.flag (DEMn_STAT_PI_CONF n) = false) :
    (rdsInSync n bit w t s).getF (DEMn_PI_PI n) = w / 1024 ∧ (rdsInSync n bit w t s).getF (DEMn_STAT_PI_CONF n) = 1 ∧
      ((rdsInSync n bit w t s).dem n).group = [⟨bit, 0, 0, w / 1024, t⟩] ∧ ((rdsInSync n bit w t s).dem n).pos = 1 := by
  unfold rdsInSync
  extract_lets d b bad l50 l160 s1 s2 s3
  have hoff : ¬ rdsMod w = rdsOffset 5 := by rw [hclean]; decide
  have hb : b = ⟨bit, 0, 0, w / 1024, t⟩ := (congrArg (rdsAt bit w t) hpos).trans (rdsAt_first hclean)
  have hbad : bad = false := congrArg (fun x : RdsBlock => x.cls == 3) hb
  have hs2 : s2 = s1 := by simp only [s2, hbad, hb]; rfl
  have hl50 : l50 = (false :: (s.dem n).last50).take 50 := congrArg (fun x => pushWin 50 x (s.dem n).last50) hbad
  have hother {f : Fld} (h : f.reg ≠ DEMn_RDSQ n) : s1.getF f = s.getF f :=
    (getF_setF_reg _ _ _ _ h).trans (setDem_getF _ _ _ _)
  have hrun1 : s1.getF (DEMn_RDSQ_RUN n) = 3 := (getF_setF_beside _ (DEMn_RDSQ n) 23 16 2 0 _ (by decide)).trans hrun
  have hpos1 : (s1.dem n).pos = 0 :=
    (congrArg (fun l => (sget demNone l n).pos) (setF_dems _ _ _)).trans
      ((congrArg Dem.pos (dem_setDem_same s n _)).trans hpos)
  obtain ⟨u, hread, hfields, hgroup, hnext⟩ := groupStep_first (b := b) hpos1 (congrArg RdsBlock.cls hb)
  have hs3 : s3 = piReading n (w / 1024) u := (congrArg (groupStep n b) hs2).trans (by rw [hread, hb])
  have hcand1 : s1.getF (DEMn_PI_CAND n) = w / 1024 :=
    (hother (by simp only [DEMn_PI_CAND, DEMn_PI, DEMn_RDSQ]; omega)).trans hcand
  have hconf1 : s1.getF (DEMn_STAT_PI_CONF n) = s.getF (DEMn_STAT_PI_CONF n) :=
    hother (by simp only [DEMn_STAT_PI_CONF, DEMn_STAT, DEMn_RDSQ]; omega)
  obtain ⟨hpi, hconfirmed, hdem⟩ := piReading_confirms (s := u) (n := n) (pi := w / 1024) (by omega)
    ((hfields _).trans hrun1) ((hfields _).trans hcand1) ((congrArg (· != 0) ((hfields _).trans hconf1)).trans hconf)
  rw [if_neg hoff, if_neg (by rw [hl50]; omega), hs3, hdem, hgroup, hb]
  exact ⟨hpi, hconfirmed, rfl, hnext⟩

/-! ## Acquisition -/

theorem rdsSyncSet_shows (hn : n < 512) (b : Bool) (s : State) :
    (rdsSyncSet n b s).getF (DEMn_STAT_RDS_SYNC n) = b.toNat ∧ (rdsSyncSet n b s).dem n = s.dem n := by
  have hraised : KeepsDem (s.setB (DEMn_STAT_RDS_SYNC n) b) (rdsSyncSet n b s) := raise_keepsDem evRdsSync n _
  constructor
  · exact (hraised.getF (rdsFields_inDem hn _ (by simp))).trans
      (getF_setF_bits_fit s (DEMn_STAT n) 26 26 _ (by decide) (by cases b <;> decide))
  · exact (hraised.dem n).trans (congrArg (sget demNone · n) (setB_dems _ _ _))

/-- A pair of blocks acquires synchronisation, and none waits any longer to be paired (R220). -/
theorem rdsAcquire_pairs {a b : RdsBlock} (hn : n < 512) (hclean : rdsClean bit w t = some b)
    (hpair : ((s.dem n).cand.find? fun x => rdsPair x b) = some a) :
    (rdsAcquire n bit w t s).getF (DEMn_STAT_RDS_SYNC n) = 1 ∧ ((rdsAcquire n bit w t s).dem n).cand = [] := by
  obtain ⟨u, hpaired, hcand⟩ : ∃ u : State,
      rdsAcquire n bit w t s = groupStep n b (groupStep n a (rdsSyncSet n true u)) ∧ (u.dem n).cand = [] := by
    unfold rdsAcquire
    rw [hclean]
    dsimp only
    rw [hpair]
    refine ⟨_, rfl, ?_⟩
    rw [State.dem, setF_dems]
    exact congrArg Dem.cand (dem_setDem_same s n _)
  obtain ⟨hsync, hdem⟩ := rdsSyncSet_shows hn true u
  have hkeep := (groupStep_keepsBlocks hn a (rdsSyncSet n true u)).trans (groupStep_keepsBlocks hn b _)
  rw [hpaired]
  exact ⟨(hkeep.fields _ (by simp)).trans hsync, hkeep.part.trans ((congrArg Dem.cand hdem).trans hcand)⟩

end

/-! ## The commands -/

/-- The next 26 bits of the bit stream of path n, an FM path whose decoder is enabled and whose sole run has its channel
blocks formed, come at their time (R219, R220). -/
structure BlockHeard (s : State) (n bit w t : Nat) (r : Run) : Prop where
  lt : n < 512
  word : w < 67108864
  running : s.pathRunning n = true
  fm : s.getF (PTHn_CTL_TYPE n) = 1
  enabled : s.flag (DEMn_CTL_RDS n) = true
  runs : (s.path n).runs = [r]
  formed : r.chanCount (t + rdsTicks) = 0
  timed : s.rdsTimed n bit t = true

/-- A block received leaves its place in the bit stream while synchronisation is held, and the mirror follows (R220). -/
def blockNoted (n bit t : Nat) (s : State) : State :=
  let s1 := if s.flag (DEMn_STAT_RDS_SYNC n) then s.setDem n { s.dem n with bitAt := some (bit, t) } else s
  if n < 4 then ktMirror n s1 else s1

/-- The registers of the demodulators, and all of demodulator n but the place of its last block, stay as they are. -/
theorem blockNoted_shows (n bit t : Nat) (s : State) :
    (∀ f : Fld, 0x10000 ≤ f.reg ∧ f.reg < 0x20000 → (blockNoted n bit t s).getF f = s.getF f) ∧
      ∃ x, (blockNoted n bit t s).dem n = { s.dem n with bitAt := x } := by
  unfold blockNoted
  extract_lets d s1
  have hkeep : KeepsDem s1 (if n < 4 then ktMirror n s1 else s1) := .ite (ktMirror_keepsDem n s1) (.refl s1)
  have hs1 : (∀ f, s1.getF f = s.getF f) ∧ ∃ x, s1.dem n = { s.dem n with bitAt := x } := by
    by_cases hsync : s.flag (DEMn_STAT_RDS_SYNC n) = true
    · rw [show s1 = _ from if_pos hsync]
      exact ⟨fun _ => rfl, _, dem_setDem_same _ n _⟩
    · rw [show s1 = _ from if_neg hsync]
      exact ⟨fun _ => rfl, (s.dem n).bitAt, rfl⟩
  obtain ⟨hfields, x, hdem⟩ := hs1
  exact ⟨fun f hf => (hkeep.getF hf).trans (hfields f), x, (hkeep.dem n).trans hdem⟩

section
variable {s : State} {n bit w t : Nat} {r : Run} (h : BlockHeard s n bit w t r)
include h

/-- The block is taken in synchronisation or out of it; no channel block is formed for it. -/
theorem exec_rdsBlock : exec (.rdsBlock n bit w t) s = .next (blockNoted n bit t
    (if s.flag (DEMn_STAT_RDS_SYNC n) then rdsInSync n bit w t (s.setPath n (s.path n))
      else rdsAcquire n bit w t (s.setPath n (s.path n)))) := by
  have hgo : (decide (n < 512) && decide (w < 67108864)) = true := by
    rw [decide_eq_true h.lt, decide_eq_true h.word]
    rfl
  have hlast : (s.path n).runs.getLast? = some r := by rw [h.runs]; rfl
  have hheard : s.rdsHeard n t = true := by
    unfold State.rdsHeard
    rw [hlast]
    exact chanReady_of_none h.formed
  have htaken : ¬ (!(s.pathRunning n && s.getF (PTHn_CTL_TYPE n) == 1 && s.flag (DEMn_CTL_RDS n) && s.rdsHeard n t &&
      s.rdsTimed n bit t)) = true := by
    rw [h.running, h.fm, h.enabled, hheard, h.timed]
    decide
  show execRdsBlock n bit w t s = _
  rw [execRdsBlock, if_pos hgo, rdsBlock, if_neg htaken]
  dsimp only
  rw [chanForm_of_none h.formed h.runs]
  rfl

theorem exec_rdsBlock_inSync (hsync : s.flag (DEMn_STAT_RDS_SYNC n) = true) :
    exec (.rdsBlock n bit w t) s = .next (blockNoted n bit t (rdsInSync n bit w t (s.setPath n (s.path n)))) := by
  rw [exec_rdsBlock h, if_pos hsync]

theorem rdsBlock_breaks (hsync : s.flag (DEMn_STAT_RDS_SYNC n) = true) (hoff : rdsMod w = rdsOffset 5) :
    Gives (.rdsBlock n bit w t) s fun u =>
      Counted (DEMn_RDSCNT2_OFFE n) s u ∧ (u.dem n).group = [] ∧ (u.dem n).pos = ((s.dem n).pos + 1) % 4 := by
  have hn := h.lt
  obtain ⟨hcounted, hgroup, hpos⟩ := rdsInSync_breaks (s := s.setPath n (s.path n)) (n := n) (bit := bit) (t := t) hoff
  obtain ⟨hfields, x, hdem⟩ := blockNoted_shows n bit t (rdsInSync n bit w t (s.setPath n (s.path n)))
  refine ⟨_, exec_rdsBlock_inSync h hsync, (hfields (DEMn_RDSCNT2_OFFE n) ?_).trans hcounted, ?_⟩
  · simp only [DEMn_RDSCNT2_OFFE, DEMn_RDSCNT2]; omega
  · rw [hdem]
    exact ⟨hgroup, hpos⟩

theorem rdsBlock_counts_bad (hsync : s.flag (DEMn_STAT_RDS_SYNC n) = true) (hoff : rdsMod w ≠ rdsOffset 5)
    (hcls : (rdsAt bit w t (s.dem n).pos).cls = 3) :
    Gives (.rdsBlock n bit w t) s fun u => Counted (DEMn_RDSBLK_BAD n) s u := by
  have hcounted := rdsInSync_bad (s := s.setPath n (s.path n)) h.lt hoff hcls
  obtain ⟨hfields, -⟩ := blockNoted_shows n bit t (rdsInSync n bit w t (s.setPath n (s.path n)))
  exact ⟨_, exec_rdsBlock_inSync h hsync, (hfields _ (rdsFields_inDem h.lt _ (by simp))).trans hcounted⟩

theorem rdsBlock_confirms (hsync : s.flag (DEMn_STAT_RDS_SYNC n) = true) (hclean : rdsMod w = rdsOffset 0)
    (hpos : (s.dem n).pos = 0) (hheld : ((false :: (s.dem n).last50).take 50).count true ≤ 20)
    (hrun : s.getF (DEMn_RDSQ_RUN n) = 3) (hcand : s.getF (DEMn_PI_CAND n) = w / 1024)
    (hconf : s.flag (DEMn_STAT_PI_CONF n) = false) :
    Gives (.rdsBlock n bit w t) s fun u =>
      u.getF (DEMn_PI_PI n) = w / 1024 ∧ u.getF (DEMn_STAT_PI_CONF n) = 1 ∧
        (u.dem n).group = [⟨bit, 0, 0, w / 1024, t⟩] ∧ (u.dem n).pos = 1 := by
  have hn := h.lt
  obtain ⟨hpi, hconfirmed, hblock⟩ :=
    rdsInSync_confirms (s := s.setPath n (s.path n)) (bit := bit) (t := t) h.word hclean hpos hheld hrun hcand hconf
  obtain ⟨hfields, x, hdem⟩ := blockNoted_shows n bit t (rdsInSync n bit w t (s.setPath n (s.path n)))
  refine ⟨_, exec_rdsBlock_inSync h hsync, (hfields (DEMn_PI_PI n) ?_).trans hpi,
    (hfields (DEMn_STAT_PI_CONF n) ?_).trans hconfirmed, ?_⟩
  · simp only [DEMn_PI_PI, DEMn_PI]; omega
  · simp only [DEMn_STAT_PI_CONF, DEMn_STAT]; omega
  · rw [hdem]
    exact hblock

theorem rdsBlock_acquires {a b : RdsBlock} (hsync : s.flag (DEMn_STAT_RDS_SYNC n) = false)
    (hclean : rdsClean bit w t = some b) (hpair : ((s.dem n).cand.find? fun x => rdsPair x b) = some a) :
    Gives (.rdsBlock n bit w t) s fun u => u.getF (DEMn_STAT_RDS_SYNC n) = 1 ∧ (u.dem n).cand = [] := by
  have hexec := exec_rdsBlock h
  rw [hsync, if_neg (by decide)] at hexec
  obtain ⟨hset, hcand⟩ := rdsAcquire_pairs (s := s.setPath n (s.path n)) h.lt hclean hpair
  obtain ⟨hfields, x, hdem⟩ := blockNoted_shows n bit t (rdsAcquire n bit w t (s.setPath n (s.path n)))
  refine ⟨_, hexec, (hfields _ (rdsFields_inDem h.lt _ (by simp))).trans hset, ?_⟩
  rw [hdem]
  exact hcand

end

/-- The PI is no longer confirmed 2 s after synchronisation is lost (R223). -/
theorem piTimeout_clears {s : State} {n t : Nat} (hn : n < 512) (hconf : s.flag (DEMn_STAT_PI_CONF n) = true)
    (hsync : s.flag (DEMn_STAT_RDS_SYNC n) = false)
    (hlong : (s.dem n).unsyncAt + 2 * Config.ticksPerSecond ≤ (s.advance t).now) :
    Gives (.piTimeout n t) s fun u => u.getF (DEMn_STAT_PI_CONF n) = 0 ∧ u.getF (DEMn_PI_PI n) = 0 := by
  have hdem : (s.advance t).dem n = s.dem n := congrArg (sget demNone · n) (advance_dems s t)
  have hgo : (decide (n < 512) && (s.advance t).flag (DEMn_STAT_PI_CONF n) &&
      !(s.advance t).flag (DEMn_STAT_RDS_SYNC n) &&
      decide (((s.advance t).dem n).unsyncAt + 2 * Config.ticksPerSecond ≤ (s.advance t).now)) = true := by
    rw [decide_eq_true hn, advance_flag, advance_flag, hconf, hsync, hdem, decide_eq_true hlong]
    rfl
  have hreg : DEMn_STAT n ≠ DEMn_PI n := by rw [DEMn_STAT, DEMn_PI]; omega
  refine ⟨_, congrArg Host.Outcome.next (if_pos hgo), ?_⟩
  generalize s.advance t = u
  have hkeep : KeepsDem ((u.setF (DEMn_STAT_PI_CONF n) 0).setF (DEMn_PI_PI n) 0)
      (if n < 4 then ktMirror n (raise evPiChg n ((u.setF (DEMn_STAT_PI_CONF n) 0).setF (DEMn_PI_PI n) 0))
        else raise evPiChg n ((u.setF (DEMn_STAT_PI_CONF n) 0).setF (DEMn_PI_PI n) 0)) :=
    .ite ((raise_keepsDem _ _ _).trans (ktMirror_keepsDem _ _)) (raise_keepsDem _ _ _)
  constructor
  · refine (hkeep.getF (by simp only [DEMn_STAT_PI_CONF, DEMn_STAT]; omega)).trans ?_
    refine (getF_setF_reg _ _ _ _ hreg).trans ?_
    exact getF_setF_bits_fit _ (DEMn_STAT n) 25 25 0 (by decide) (by decide)
  · refine (hkeep.getF (by simp only [DEMn_PI_PI, DEMn_PI]; omega)).trans ?_
    exact getF_setF_bits_fit _ (DEMn_PI n) 15 0 0 (by decide) (by decide)

end Sys2Proof.Machine
end

section
/-! SUPPORT. The statement on configuration, metric windows, RDS blocks and the PI, clause by clause. -/

namespace Sys2Proof.Machine

/-- The premises of the statement on a block of RDS say that it is heard. -/
theorem blockHeard_of {s : State} {n bit w t : Nat} {r : Run} (hn : decide (n < 512) = true)
    (hw : decide (w < 67108864) = true) (hrunning : s.pathRunning n = true)
    (hfm : (s.getF (PTHn_CTL_TYPE n) == 1) = true) (henabled : s.flag (DEMn_CTL_RDS n) = true)
    (hruns : ((s.path n).runs == [r]) = true)
    (hformed : (r.chanCount (t + rdsTicks) == 0) = true) (htimed : s.rdsTimed n bit t = true) :
    BlockHeard s n bit w t r where
  lt := of_decide_eq_true hn
  word := of_decide_eq_true hw
  running := hrunning
  fm := eq_of_beq hfm
  enabled := henabled
  runs := eq_of_beq hruns
  formed := eq_of_beq hformed
  timed := htimed

/-- The premises of the statement on a metric window say that it can end. -/
theorem windowDue_of {s : State} {n start : Nat} {r : Run} (hn : decide (n < 512) = true)
    (hreset : (!s.pwr.inReset) = true) (hrunning : s.pathRunning n = true) (hruns : ((s.path n).runs == [r]) = true)
    (hgrid : (start % 15728640 == 0) = true) (hnext : decide ((s.dem n).window ≤ start) = true)
    (hbase : decide (r.base ≤ start) = true) (hformed : (r.chanCount (start + 15728639) == 0) = true) :
    WindowDue s n start r where
  lt := of_decide_eq_true hn
  reset := (Bool.not_eq_true' _).mp hreset
  running := hrunning
  runs := eq_of_beq hruns
  grid := eq_of_beq hgrid
  next := of_decide_eq_true hnext
  base := of_decide_eq_true hbase
  formed := by
    have hend : start + metricWindow - 1 = start + 15728639 := by rw [metricWindow]; omega
    rw [hend]
    exact eq_of_beq hformed

/-- Settles O27: each clause is what its command leaves of a demodulator, shown above for the command. -/
theorem reception : Obligations.Reception := by
  unfold Obligations.Reception
  have off {b : Bool} (h : (!b) = true) : b = false := (Bool.not_eq_true' _).mp h
  exact ⟨fun s m n r v hr hn hr3 hpaths howned hpool hkeeps hok hpair =>
      demConfigWrite_stores (pathOpen_of hn hpaths howned hpool) hr (of_decide_eq_true hr3) (off hkeeps) hok hpair,
    fun s n start r hn hreset hrunning hruns hgrid hnext hbase hformed =>
      metricWindow_ends (windowDue_of hn hreset hrunning hruns hgrid hnext hbase hformed),
    fun s n m rest hn hqueue => metricPublish_shows (of_decide_eq_true hn) (eq_of_beq hqueue),
    fun s n bit w t r hn hw hrunning hfm henabled hruns hformed htimed hsync hoff =>
      rdsBlock_breaks (blockHeard_of hn hw hrunning hfm henabled hruns hformed htimed) hsync (eq_of_beq hoff),
    fun s n bit w t r hn hw hrunning hfm henabled hruns hformed htimed hsync hoff hcls =>
      rdsBlock_counts_bad (blockHeard_of hn hw hrunning hfm henabled hruns hformed htimed) hsync (bne_iff_ne.mp hoff)
        (eq_of_beq hcls),
    fun s n bit w t r hn hw hrunning hfm henabled hruns hformed htimed hsync hclean hpos hheld hrun hcand hconf =>
      rdsBlock_confirms (blockHeard_of hn hw hrunning hfm henabled hruns hformed htimed) hsync (eq_of_beq hclean)
        (eq_of_beq hpos) (of_decide_eq_true hheld) (eq_of_beq hrun) (eq_of_beq hcand) (off hconf),
    fun s n bit w t r a b hn hw hrunning hfm henabled hruns hformed htimed hsync hclean hpair =>
      rdsBlock_acquires (blockHeard_of hn hw hrunning hfm henabled hruns hformed htimed) (off hsync) (eq_of_beq hclean)
        (eq_of_beq hpair),
    fun s n t hn hconf hsync hlong =>
      piTimeout_clears (of_decide_eq_true hn) hconf (off hsync) (of_decide_eq_true hlong)⟩

end Sys2Proof.Machine
end

section
/-! SUPPORT. What leaves the slots and the decoders (R229 to R246): events, records and the registers of other blocks lie
outside them, a traced write keeps them, and what a decoder waits for is told by its configuration and its slot. -/

namespace Sys2Proof.Machine

/-! ## Changes elsewhere -/

/-- From s to u the registers from lo up to hi, and this part of the state beside them, stay as they are. -/
structure KeepsArea {α : Type} (lo hi : Nat) (part : State → α) (s u : State) : Prop where
  rd : ∀ a, lo ≤ a → a < hi → u.rd a = s.rd a
  part : part u = part s

/-- From s to u neither a register of a slot nor the slots beside their registers change. -/
abbrev KeepsSlots : State → State → Prop := KeepsArea 0x20000 0x21000 State.slots

/-- From s to u neither a register of a decoder nor the decoders beside their registers change. -/
abbrev KeepsDecs : State → State → Prop := KeepsArea 0x22000 0x23000 State.decs

/-- The area lies in the block DAB apart from DAB_USE, and an event leaves the part beside it. -/
structure DabPart {α : Type} (lo hi : Nat) (part : State → α) : Prop where
  past : 0x20000 ≤ lo
  below : hi ≤ 0x23000
  use : hi ≤ DAB_USE ∨ DAB_USE < lo
  events : ∀ s u, EventStep s u → part u = part s

theorem slotPart : DabPart 0x20000 0x21000 State.slots where
  past := by decide
  below := by decide
  use := by decide
  events _ _ h := (congrArg State.slots h.eq :)

theorem decPart : DabPart 0x22000 0x23000 State.decs where
  past := by decide
  below := by decide
  use := by decide
  events _ _ h := (congrArg State.decs h.eq :)

section
variable {α : Type} {lo hi : Nat} {part : State → α} {s u v : State}

theorem KeepsArea.refl (s : State) : KeepsArea lo hi part s s := ⟨fun _ _ _ => rfl, rfl⟩

theorem KeepsArea.trans (h : KeepsArea lo hi part s u) (hv : KeepsArea lo hi part u v) : KeepsArea lo hi part s v :=
  ⟨fun a hlo hhi => (hv.rd a hlo hhi).trans (h.rd a hlo hhi), hv.part.trans h.part⟩

theorem KeepsArea.of_eq (h : KeepsArea lo hi part s u) (hr : v.regs = u.regs) (hp : part v = part u) :
    KeepsArea lo hi part s v := h.trans ⟨fun a _ _ => rd_of_regs hr a, hp⟩

theorem KeepsArea.ite {c : Prop} [Decidable c] (hu : KeepsArea lo hi part s u) (hv : KeepsArea lo hi part s v) :
    KeepsArea lo hi part s (if c then u else v) := by
  split
  · exact hu
  · exact hv

theorem KeepsArea.forEach (h : KeepsArea lo hi part s u) {l : List Nat} {f : Nat → State → State}
    (hf : ∀ n ∈ l, ∀ x, KeepsArea lo hi part x (f n x)) : KeepsArea lo hi part s (forEach l f u) :=
  h.trans (forEach_rel .refl .trans hf u)

theorem KeepsArea.getF (h : KeepsArea lo hi part s u) {f : Fld} (hf : lo ≤ f.reg ∧ f.reg < hi) : u.getF f = s.getF f :=
  getF_of_rd (h.rd _ hf.1 hf.2)

theorem KeepsArea.wr (h : KeepsArea lo hi part s u) (hp : DabPart lo hi part) {a : Nat} (w : Word)
    (ha : a < lo ∨ hi ≤ a) : KeepsArea lo hi part s (u.wr a w) :=
  h.trans ⟨fun b hlo hhi => rd_wr_other _ _ _ _ (by omega), hp.events _ _ ((EventStep.refl u).wr a w)⟩

theorem KeepsArea.setF (h : KeepsArea lo hi part s u) (hp : DabPart lo hi part) (f : Fld) (n : Nat)
    (hf : f.reg < lo ∨ hi ≤ f.reg) : KeepsArea lo hi part s (u.setF f n) := h.wr hp _ hf

/-! ## Events, records and the display of use -/

/-- What happens outside the block DAB and outside the parts of slots and decoders. -/
theorem DabPart.eventStep (hp : DabPart lo hi part) (h : EventStep s u) (hrd : ∀ a, 0x20000 ≤ a → a < 0x23000 → u.rd a = s.rd a) :
    KeepsArea lo hi part s u :=
  ⟨fun a hlo hhi => hrd a (hp.past.trans hlo) (hhi.trans_le hp.below), hp.events s u h⟩

theorem DabPart.raise (hp : DabPart lo hi part) (e i : Nat) (s : State) : KeepsArea lo hi part s (raise e i s) :=
  hp.eventStep (raise_step e i s) fun a hlo hhi => raise_rd e i s a (by omega) (by omega) (by omega)

theorem DabPart.emitRec (hp : DabPart lo hi part) (r : Rec) (s : State) : KeepsArea lo hi part s (emitRec r s) :=
  hp.eventStep ⟨rfl⟩ fun a _ _ => rd_of_regs rfl a

theorem DabPart.obsBlock (hp : DabPart lo hi part) (k n flags : Nat) (s : State) :
    KeepsArea lo hi part s (obsBlock k n flags s) :=
  hp.eventStep (obsCount_step _ s) fun a _ _ => obsCount_rd _ s a

theorem DabPart.traced (hp : DabPart lo hi part) (h : Traced s u) : KeepsArea lo hi part s u :=
  hp.eventStep h.step.eventStep fun a _ hhi => h.within a (List.forall_mem_singleton.mpr (.inl (by omega)))

/-- The passing of time writes no register. -/
theorem KeepsArea.advance (t : Nat) (hpart : part (s.advance t) = part s) : KeepsArea lo hi part s (s.advance t) :=
  ⟨fun _ _ _ => advance_rd _ _ _, hpart⟩

theorem DabPart.dabUse (hp : DabPart lo hi part) (s : State) : KeepsArea lo hi part s (dabUse s) :=
  ((KeepsArea.refl s).setF hp DAB_USE_ENS_LOCK _ hp.use.symm).setF hp DAB_USE_DEC_RUN _ hp.use.symm

end

/-! ## What is read of them -/

section
variable {s u : State}

theorem KeepsArea.slot (h : KeepsSlots s u) (n : Nat) : u.slot n = s.slot n := congrArg (sget slotNone · n) h.part

theorem KeepsArea.slotState (h : KeepsSlots s u) {n : Nat} (hn : n < 64) : u.slotState n = s.slotState n :=
  h.getF (by simp only [ENSs_STAT_STATE, ENSs_STAT]; omega)

theorem KeepsArea.slotLocked (h : KeepsSlots s u) {n : Nat} (hn : n < 64) : u.slotLocked n = s.slotLocked n := by
  rw [State.slotLocked, State.slotLocked, h.slotState hn, h.slot]

theorem KeepsArea.decoder (h : KeepsDecs s u) (d : Nat) : u.decoder d = s.decoder d := congrArg (sget decNone · d) h.part

theorem KeepsArea.decState (h : KeepsDecs s u) {d : Nat} (hd : d < 128) : u.decState d = s.decState d :=
  h.getF (by simp only [DECd_STAT_STATE, DECd_STAT]; omega)

theorem decSlot_lt (s : State) (d : Nat) : s.getF (DECd_CTL_SLOT d) < 64 := bitsOf_lt _ _ _

/-- What a decoder waits for is told by its configuration, which OWNER is no part of, and the slots (R238). -/
theorem waitReason_congr {d : Nat} (h : KeepsSlots s u)
    (hctl : ∀ hi lo, hi < 31 → u.getF ⟨DECd_CTL d, hi, lo⟩ = s.getF ⟨DECd_CTL d, hi, lo⟩) : u.waitReason d = s.waitReason d := by
  have hslot : u.getF (DECd_CTL_SLOT d) = s.getF (DECd_CTL_SLOT d) := hctl _ _ (by decide)
  have hsub : u.getF (DECd_CTL_SUBCH d) = s.getF (DECd_CTL_SUBCH d) := hctl _ _ (by decide)
  have hcodec : u.getF (DECd_CTL_CODEC d) = s.getF (DECd_CTL_CODEC d) := hctl _ _ (by decide)
  have hdec : u.decSub d = s.decSub d := by rw [State.decSub, State.decSub, hslot, hsub, h.slot]
  unfold State.waitReason
  dsimp only
  rw [hslot, hcodec, hdec, h.slot, h.slotLocked (decSlot_lt s d)]

theorem waitReason_lt (s : State) (d : Nat) : s.waitReason d < 8 := by
  unfold State.waitReason
  dsimp only
  repeat' split
  all_goals decide

end

end Sys2Proof.Machine
end

section
/-! SUPPORT. The commands of the audio decoders (R238 to R242, R246): START, STOP, the start and the end of a run, and
concealment. -/

namespace Sys2Proof.Machine

/-! ## Fields of a decoder -/

/-- A written register leaves the fields of every other one. -/
theorem getF_wr_other (s : State) {a : Nat} (w : Word) {f : Fld} (h : f.reg ≠ a) : (s.wr a w).getF f = s.getF f :=
  getF_of_rd (rd_wr_other s a f.reg w h)

section
variable {s : State} {d : Nat}

theorem decShow_rd (d : Nat) (s : State) {a : Nat} (ha : a ≠ DECd_STAT d) : (decShow d s).rd a = s.rd a := by
  unfold decShow
  split
  · exact rd_setF_other _ _ _ _ ha
  · rfl

/-- A waiting decoder shows what it waits for (R238). -/
theorem decShow_waits (hstate : s.decState d = 1) :
    (decShow d s).decState d = 1 ∧ (decShow d s).getF (DECd_STAT_WAIT d) = s.waitReason d := by
  rw [decShow, if_pos hstate]
  exact ⟨(getF_setF_beside _ _ _ _ _ _ _ (by decide)).trans hstate,
    getF_setF_bits_fit _ _ _ _ _ (by decide) (waitReason_lt s d)⟩

end

/-! ## Writes to a decoder -/

/-- Master m may write the registers of decoder d (R245, R246). -/
structure DecOpen (s : State) (m : Master) (d : Nat) : Prop where
  lt : d < 128
  decs : d < s.hdr.dec
  owned : (s.flag (DECd_CTL_OWNER d) && m != .core 1) = false

section
variable {s u : State} {m : Master} {d : Nat}

theorem DecOpen.decGuard (h : DecOpen s m d) (f : State → State) : decGuard m d f s = f s := by
  unfold Machine.decGuard
  rw [if_neg (by have := h.decs; omega), h.owned, if_neg (by decide)]

theorem Traced.decOpen (ht : Traced s u) (h : DecOpen s m d) : DecOpen u m d where
  lt := h.lt
  decs := ht.hdr ▸ h.decs
  owned := (ht.flag (f := DECd_CTL_OWNER d) (by have := h.lt; simp only [DECd_CTL_OWNER, DECd_CTL]; omega)) ▸ h.owned

/-- A write of the decoder's CMD that reaches it is carried out after it is traced. -/
theorem DecOpen.write (h : DecOpen s m d) (hr : s.reaches m (DECd_CMD d) = true) (w : Nat) :
    ∃ u, Traced s u ∧ (if d < 128 then gated m (DECd_CMD d) w (Machine.decGuard m d (decCmd m d w)) s else s) = decCmd m d w u := by
  have ht := traceRegWrite_traced m (DECd_CMD d) w s
  refine ⟨_, ht, ?_⟩
  rw [if_pos h.lt, gated_reaches _ _ _ _ _ hr, (ht.decOpen h).decGuard]

/-- A traced write leaves what a decoder waits for. -/
theorem Traced.waitReason (ht : Traced s u) (hd : d < 128) : u.waitReason d = s.waitReason d :=
  waitReason_congr (slotPart.traced ht) fun _ _ _ => ht.getF (by simp only [DECd_CTL]; omega)

/-! ## START -/

/-- What START of a STOPPED decoder writes before it shows what the decoder waits for (R238, R246). -/
def decStarted (m : Master) (d : Nat) (s : State) : State :=
  (((s.setF (DECd_STAT_STATE d) 1).setB (DECd_CTL_OWNER d) (m = .core 1)).wr (DECd_QUAL d) 0).setDecoder d {}

theorem decStart_eq (hstate : s.decState d = 0) : decStart m d s = decShow d (decStarted m d s) := by
  unfold decStart
  rw [if_neg (by rw [hstate]; decide)]
  rfl

theorem decStarted_state (m : Master) (d : Nat) (s : State) : (decStarted m d s).decState d = 1 := by
  have hqual : (DECd_STAT_STATE d).reg ≠ DECd_QUAL d := by simp [DECd_STAT_STATE, DECd_STAT, DECd_QUAL]
  have hctl : (DECd_STAT_STATE d).reg ≠ (DECd_CTL_OWNER d).reg := by
    simp [DECd_STAT_STATE, DECd_STAT, DECd_CTL_OWNER, DECd_CTL]
  rw [State.decState, decStarted, setDecoder_getF, getF_wr_other _ _ hqual, State.setB, getF_setF_reg _ _ _ _ hctl]
  exact getF_setF_fits _ _ _ (by simp [DECd_STAT_STATE]) (by simp [DECd_STAT_STATE])

theorem decStarted_owner (m : Master) (d : Nat) (s : State) :
    (decStarted m d s).flag (DECd_CTL_OWNER d) = decide (m = .core 1) := by
  have hqual : (DECd_CTL_OWNER d).reg ≠ DECd_QUAL d := by simp [DECd_CTL_OWNER, DECd_CTL, DECd_QUAL]
  refine flag_of_getF ?_
  rw [decStarted, setDecoder_getF, getF_wr_other _ _ hqual]
  exact getF_setF_fits _ _ _ (by simp [DECd_CTL_OWNER]) (Bool.toNat_lt _)

/-- START writes no part of a decoder's configuration but OWNER. -/
theorem decStarted_waitReason (m : Master) (d : Nat) (s : State) :
    (decStarted m d s).waitReason d = s.waitReason d := by
  refine waitReason_congr ?_ fun hi lo hhi => ?_
  · have hstate := (KeepsArea.refl s).setF slotPart (DECd_STAT_STATE d) 1 (.inr (by simp only [DECd_STAT_STATE, DECd_STAT]; omega))
    have howner := hstate.setF slotPart (DECd_CTL_OWNER d) (decide (m = .core 1)).toNat
      (.inr (by simp only [DECd_CTL_OWNER, DECd_CTL]; omega))
    exact (howner.wr slotPart (a := DECd_QUAL d) 0 (.inr (by rw [DECd_QUAL]; omega))).of_eq (setDecoder_regs _ _ _)
      (setDecoder_slots _ _ _)
  · have hqual : (⟨DECd_CTL d, hi, lo⟩ : Fld).reg ≠ DECd_QUAL d := by simp [DECd_CTL, DECd_QUAL]
    have hstat : (⟨DECd_CTL d, hi, lo⟩ : Fld).reg ≠ (DECd_STAT_STATE d).reg := by simp [DECd_CTL, DECd_STAT_STATE, DECd_STAT]
    rw [decStarted, setDecoder_getF, getF_wr_other _ _ hqual, State.setB, DECd_CTL_OWNER,
      getF_setF_beside _ _ _ _ _ _ _ ⟨by decide, .inl hhi⟩, getF_setF_reg _ _ _ _ hstat]

theorem decCmd_start (m : Master) (d : Nat) (s : State) : decCmd m d 1 s = decStart m d s := by
  unfold decCmd
  dsimp only
  rw [if_neg (by decide), if_pos (by decide)]

/-- START of a STOPPED decoder leaves it WAITING, with its reason and its owner (R238, R246). -/
theorem decStart_waits (h : DecOpen s m d) (hr : s.reaches m (DECd_CMD d) = true) (hstate : s.decState d = 0) :
    Gives (.decStart m d) s fun t =>
      t.decState d = 1 ∧ t.flag (DECd_CTL_OWNER d) = decide (m = .core 1) ∧ t.getF (DECd_STAT_WAIT d) = s.waitReason d := by
  obtain ⟨u, ht, hexec⟩ := h.write hr 1
  refine ⟨_, congrArg Host.Outcome.next (hexec.trans (decCmd_start m d u)), ?_⟩
  obtain ⟨hwait, hreason⟩ := decShow_waits (decStarted_state m d u)
  rw [decStart_eq (((decPart.traced ht).decState h.lt).trans hstate), ← ht.waitReason h.lt]
  refine ⟨hwait, ?_, hreason.trans (decStarted_waitReason m d u)⟩
  have hctl : (DECd_CTL_OWNER d).reg ≠ DECd_STAT d := by simp [DECd_CTL_OWNER, DECd_CTL, DECd_STAT]
  rw [State.flag, getF_of_rd (decShow_rd d _ hctl), ← State.flag, decStarted_owner]

/-! ## STOP -/

theorem decCmd_stop (m : Master) (d : Nat) (s : State) : decCmd m d 2 s = decStop d s := by
  unfold decCmd
  dsimp only
  rw [if_neg (by decide), if_neg (by decide), if_pos (by decide)]

/-- A decoder that is asked to stop does so at the next block boundary (R238). -/
theorem stopAsked_shows (s : State) (d : Nat) :
    ((decProceed d s).decoder d).change = .stop ∧ ((decProceed d s).decoder d).due = ceilTo 5242880 (s.now + 1) := by
  rw [decProceed, decoder_setDecoder_same]
  exact ⟨rfl, rfl⟩

/-- A STOP that no fade defers asks for the stop (R238). -/
theorem decStop_asks_of (hstate : s.decState d = 1 ∨ s.decState d = 2 ∧ s.inFade 2 d = false)
    (hnone : (s.decoder d).change = .none) : decStop d s = decProceed d s := by
  unfold decStop
  obtain hwait | ⟨hrun, hfade⟩ := hstate
  · rw [hwait, hnone, if_neg (by simp), if_pos (by decide), decProceed]
  · rw [hrun, hnone, hfade, if_neg (by decide), if_pos (by decide), decProceed]

/-- STOP of a WAITING decoder, or of a RUNNING one that feeds no cross-fade, asks for it to stop (R238). -/
theorem decStop_asks (h : DecOpen s m d) (hr : s.reaches m (DECd_CMD d) = true)
    (hstate : s.decState d = 1 ∨ s.decState d = 2 ∧ s.inFade 2 d = false) (hnone : (s.decoder d).change = .none) :
    Gives (.decStop m d) s fun t =>
      (t.decoder d).change = .stop ∧ (t.decoder d).due = ceilTo 5242880 (s.now + 1) ∧ t.decState d = s.decState d := by
  obtain ⟨u, ht, hexec⟩ := h.write hr 2
  have hdec := decPart.traced ht
  have hstop : decCmd m d 2 u = decProceed d u := by
    rw [decCmd_stop]
    refine decStop_asks_of ?_ ((congrArg Decoder.change (hdec.decoder d)).trans hnone)
    rw [hdec.decState h.lt, ht.inFade]
    exact hstate
  refine ⟨_, congrArg Host.Outcome.next (hexec.trans hstop), ?_⟩
  obtain ⟨hchange, hdue⟩ := stopAsked_shows u d
  rw [← ht.now]
  exact ⟨hchange, hdue, hdec.decState h.lt⟩

/-- STOP of a RUNNING decoder that feeds a cross-fade is deferred, and its blocks have no latency to judge (R238, R246,
R275). -/
theorem decStop_defers (h : DecOpen s m d) (hr : s.reaches m (DECd_CMD d) = true) (hstate : s.decState d = 2)
    (hfade : s.inFade 2 d = true) :
    Gives (.decStop m d) s fun t => t.decState d = 3 ∧ t.rd (DECd_LAT d) = 0 := by
  obtain ⟨u, ht, hexec⟩ := h.write hr 2
  have hd := h.lt
  have hstop : decCmd m d 2 u = deferMark 2 d ((u.setF (DECd_STAT_STATE d) 3).wr (DECd_LAT d) 0) := by
    rw [decCmd_stop, decStop, (decPart.traced ht).decState hd, hstate, ht.inFade, hfade, if_pos (by decide)]
  refine ⟨_, congrArg Host.Outcome.next (hexec.trans hstop), ?_⟩
  obtain ⟨hrd, -⟩ := deferMark_keeps 2 d ((u.setF (DECd_STAT_STATE d) 3).wr (DECd_LAT d) 0)
  have hstat : DECd_STAT d = 0x22008 + 0x20 * d := rfl
  have hlat : DECd_LAT d = 0x22018 + 0x20 * d := rfl
  constructor
  · exact (getF_of_rd (f := DECd_STAT_STATE d) ((hrd _ (by simp only [DECd_STAT_STATE]; omega)
      (by simp only [DECd_STAT_STATE]; omega)).trans (rd_wr_other _ _ _ _ (by simp only [DECd_STAT_STATE]; omega)))).trans
        (getF_setF_bits_fit _ _ _ _ _ (by decide) (by decide))
  · exact (hrd _ (by omega) (by omega)).trans (rd_wr_same _ _ _)

end

/-! ## The end of a run -/

section
variable {s : State} {d : Nat}

/-- What the end of a run writes before it shows what the decoder waits for (R238, R246). -/
def decWaiting (d : Nat) (s : State) : State :=
  (decFields d (s.setF (DECd_STAT_STATE d) 1)).setDecoder d { s.decoder d with warmLeft := 0, fails := [], pad := {} }

theorem decToWait_eq (hstate : s.decState d = 2) :
    decToWait d s = dabUse (raise evDecWait d (decShow d (decWaiting d s))) := by
  unfold decToWait
  rw [if_pos hstate]
  rfl

/-- The registers that describe a run are STAT, FMT and LAT. -/
theorem decFields_rd (d : Nat) (s : State) {a : Nat} (ha : a ≠ DECd_STAT d ∧ a ≠ DECd_FMT d ∧ a ≠ DECd_LAT d) :
    (decFields d s).rd a = s.rd a := by
  obtain ⟨hstat, hfmt, hlat⟩ := ha
  unfold decFields
  dsimp only
  rw [rd_wr_other _ _ _ _ hlat, rd_wr_other _ _ _ _ hfmt, rd_setF_other _ _ _ _ hstat, rd_setF_other _ _ _ _ hstat]

theorem decFields_slots (d : Nat) (s : State) : (decFields d s).slots = s.slots := by
  unfold decFields
  dsimp only
  rw [wr_slots, wr_slots, setF_slots, setF_slots]

theorem decFields_state (d : Nat) (s : State) : (decFields d s).decState d = s.decState d := by
  have hlat : (DECd_STAT_STATE d).reg ≠ DECd_LAT d := by simp [DECd_STAT_STATE, DECd_STAT, DECd_LAT]
  have hfmt : (DECd_STAT_STATE d).reg ≠ DECd_FMT d := by simp [DECd_STAT_STATE, DECd_STAT, DECd_FMT]
  unfold decFields State.decState
  dsimp only
  rw [getF_wr_other _ _ hlat, getF_wr_other _ _ hfmt, DECd_STAT_STATE, DECd_STAT_WARMUP,
    getF_setF_beside _ _ _ _ _ _ _ (by decide), getF_setF_beside _ _ _ _ _ _ _ (by decide)]

theorem decFields_lat (d : Nat) (s : State) : (decFields d s).rd (DECd_LAT d) = 0 := by
  unfold decFields
  dsimp only
  rw [rd_wr_same]

theorem decWaiting_state (d : Nat) (s : State) : (decWaiting d s).decState d = 1 := by
  rw [State.decState, decWaiting, setDecoder_getF, ← State.decState, decFields_state]
  exact getF_setF_fits _ _ _ (by simp [DECd_STAT_STATE]) (by simp [DECd_STAT_STATE])

/-- The end of a run writes STAT, FMT and LAT of its decoder. -/
theorem decWaiting_rd (d : Nat) (s : State) {a : Nat} (ha : a ≠ DECd_STAT d ∧ a ≠ DECd_FMT d ∧ a ≠ DECd_LAT d) :
    (decWaiting d s).rd a = s.rd a := by
  rw [decWaiting, setDecoder_rd, decFields_rd d _ ha, rd_setF_other _ _ _ _ ha.1]

theorem decWaiting_keepsSlots (d : Nat) (s : State) : KeepsSlots s (decWaiting d s) where
  rd a _ hhi := decWaiting_rd d s (by rw [DECd_STAT, DECd_FMT, DECd_LAT]; omega)
  part := by rw [decWaiting, setDecoder_slots, decFields_slots, setF_slots]

theorem decWaiting_waitReason (d : Nat) (s : State) : (decWaiting d s).waitReason d = s.waitReason d :=
  waitReason_congr (decWaiting_keepsSlots d s) fun hi lo _ =>
    getF_of_rd (f := ⟨DECd_CTL d, hi, lo⟩) (decWaiting_rd d s (by simp only [DECd_CTL, DECd_STAT, DECd_FMT, DECd_LAT]; omega))

/-- A running decoder that goes back to waiting shows its reason and no latency (R238, R246). -/
theorem decToWait_shows (hd : d < 128) (hstate : s.decState d = 2) :
    (decToWait d s).decState d = 1 ∧ (decToWait d s).getF (DECd_STAT_WAIT d) = s.waitReason d ∧
      (decToWait d s).rd (DECd_LAT d) = 0 := by
  have hkeep : KeepsDecs (decShow d (decWaiting d s)) (decToWait d s) := by
    rw [decToWait_eq hstate]
    exact (decPart.raise _ _ _).trans (decPart.dabUse _)
  obtain ⟨hwait, hreason⟩ := decShow_waits (decWaiting_state d s)
  refine ⟨(hkeep.decState hd).trans hwait, ?_, ?_⟩
  · rw [hkeep.getF (by simp only [DECd_STAT_WAIT, DECd_STAT]; omega), hreason, decWaiting_waitReason]
  · rw [hkeep.rd _ (by rw [DECd_LAT]; omega) (by rw [DECd_LAT]; omega),
      decShow_rd d _ (by simp [DECd_LAT, DECd_STAT]), decWaiting, setDecoder_rd, decFields_lat]

/-- A running decoder for which a reason holds waits (R238, R246). -/
theorem decWait_waits (hd : d < 128) (hstate : s.decState d = 2) (hreason : s.waitReason d ≠ 0) :
    Gives (.decWait d) s fun t =>
      t.decState d = 1 ∧ t.getF (DECd_STAT_WAIT d) = s.waitReason d ∧ t.rd (DECd_LAT d) = 0 := by
  have hexec : exec (.decWait d) s = .next (decToWait d s) := by
    show execDecWait d s = _
    rw [execDecWait, if_pos (by simp [hd, hstate, hreason])]
  exact ⟨_, hexec, decToWait_shows hd hstate⟩

end

end Sys2Proof.Machine
end

section
/-! SUPPORT. The start of a run of a decoder (R238 to R241): what Fennel makes of it leaves the decoders, and STAT, FMT and
LAT show the run. -/

namespace Sys2Proof.Machine

/-! ## Fennel's registers and records -/

section
variable {s u : State}

theorem KeepsArea.setFol (h : KeepsDecs s u) (f : Fennel) : KeepsDecs s { u with fol := f } := h.of_eq rfl rfl

theorem KeepsArea.setProg (h : KeepsDecs s u) (p : Nat) (v : Prog) : KeepsDecs s (u.setProg p v) := h.of_eq rfl rfl

/-- A write from the block FOL on. -/
theorem KeepsArea.wrPast (h : KeepsDecs s u) {a : Nat} (w : Word)
    (ha : 0x28000 ≤ a := by exact Nat.le_add_right_of_le (by decide)) : KeepsDecs s (u.wr a w) := h.wr decPart _ (.inr (by omega))

theorem KeepsArea.setPast (h : KeepsDecs s u) (f : Fld) (n : Nat)
    (hf : 0x28000 ≤ f.reg := by exact Nat.le_add_right_of_le (by decide)) : KeepsDecs s (u.setF f n) := h.wrPast _ hf

theorem progShow_keepsDecs (p : Nat) (s : State) : KeepsDecs s (progShow p s) := by
  unfold progShow
  dsimp only
  exact (((((((((KeepsArea.refl s).wrPast _).setPast _ _).setPast _ _).setPast _ _).setPast _ _).setPast _ _).setPast
    _ _).setPast _ _).setPast _ _

theorem candShow_keepsDecs (s : State) : KeepsDecs s (candShow s) := by
  have hinfo (w0 w1 w2 w3 : Word) :
      KeepsDecs s ((((s.wr FOL_CINFO0 w0).wr FOL_CINFO1 w1).wr FOL_CINFO2 w2).wr FOL_CINFO3 w3) :=
    ((((KeepsArea.refl s).wrPast _ (by decide)).wrPast _ (by decide)).wrPast _ (by decide)).wrPast _ (by decide)
  unfold candShow
  dsimp only
  split <;> split <;> exact (hinfo _ _ _ _).wrPast _ (by decide)

theorem useShow_keepsDecs (s : State) : KeepsDecs s (useShow s) :=
  (((KeepsArea.refl s).setPast FOL_USE_POOL_USED _ (by decide)).setPast FOL_USE_PROG_RUN _ (by decide)).setPast
    FOL_USE_DEC_OWNED _ (by decide)

theorem folShow_keepsDecs (p : Nat) (s : State) : KeepsDecs s (folShow p s) :=
  ((((KeepsArea.refl s).setFol _).trans (progShow_keepsDecs p _)).trans (candShow_keepsDecs _)).trans (useShow_keepsDecs _)

theorem ineligStep_keepsDecs (p i : Nat) (s : State) : KeepsDecs s (ineligStep p i s) := by
  have hcand (c : Cand) : KeepsDecs s (s.setCand p i c) := (KeepsArea.refl s).setProg p _
  unfold ineligStep
  split
  · exact .refl s
  · dsimp only
    exact .ite (.ite (hcand _) (.refl s)) (.ite (.refl s)
      (((hcand _).setPast (FOLp_CNT2_INELIG p) _).trans (decPart.raise _ _ _)))

/-- Judging a source anew changes Fennel alone. -/
theorem sourceJudge_keepsDecs (kind num : Nat) (s : State) : KeepsDecs s (sourceJudge kind num s) := by
  refine (KeepsArea.refl s).forEach fun p _ x => ?_
  split
  · exact (ineligStep_keepsDecs _ _ _).trans (folShow_keepsDecs _ _)
  · exact .refl x

end

/-! ## The start of a run -/

/-- STAT of a decoder that starts to run: RUNNING and warming up, with what its audio carries (R238, R241). -/
def decRunStat (d : Nat) (stereo sbr ps : Bool) (core : Nat) (s : State) : State :=
  let s1 := ((s.setF (DECd_STAT_STATE d) 2).setF (DECd_STAT_WAIT d) 0).setF (DECd_STAT_WARMUP d) 1
  (((s1.setB (DECd_STAT_STEREO d) stereo).setF (DECd_STAT_CORE d) core).setB (DECd_STAT_SBR d) sbr).setB (DECd_STAT_PS d) ps

/-- FMT of a decoder that starts to run (R238). -/
def decRunFmt (d : Nat) (c : SubCh) (s : State) : State :=
  ((s.setF (DECd_FMT_CODEC_ACT d) (codecOf c.ascTy)).setF (DECd_FMT_SIZE_CU d) c.size).setF (DECd_FMT_BITRATE d) c.rate

/-- The latency of a decoder that starts to run, and its timeline from ts on (R239 to R241). -/
def decRunTime (d ts lat : Nat) (s : State) : State :=
  (s.setF (DECd_LAT_TICKS d) lat).setDecoder d { s.decoder d with warmLeft := 1152, runAt := ts, fails := [] }

section
variable (s : State) (d : Nat)

theorem decRunStat_shows (stereo sbr ps : Bool) (core : Nat) :
    (decRunStat d stereo sbr ps core s).decState d = 2 ∧ (decRunStat d stereo sbr ps core s).getF (DECd_STAT_WAIT d) = 0 ∧
      (decRunStat d stereo sbr ps core s).flag (DECd_STAT_STEREO d) = stereo := by
  unfold decRunStat State.decState State.setB DECd_STAT_STATE DECd_STAT_WAIT DECd_STAT_WARMUP DECd_STAT_STEREO
    DECd_STAT_CORE DECd_STAT_SBR DECd_STAT_PS
  dsimp only
  refine ⟨?_, ?_, flag_of_getF ?_⟩
  · iterate 6 rw [getF_setF_beside _ _ _ _ _ _ _ (by decide)]
    exact getF_setF_bits_fit _ _ _ _ _ (by decide) (by decide)
  · iterate 5 rw [getF_setF_beside _ _ _ _ _ _ _ (by decide)]
    exact getF_setF_bits_fit _ _ _ _ _ (by decide) (by decide)
  · iterate 3 rw [getF_setF_beside _ _ _ _ _ _ _ (by decide)]
    exact getF_setF_bits_fit _ _ _ _ _ (by decide) (Bool.toNat_lt _)

theorem decRunFmt_codec (c : SubCh) : (decRunFmt d c s).getF (DECd_FMT_CODEC_ACT d) = codecOf c.ascTy := by
  have hcodec : codecOf c.ascTy < 4 := by
    unfold codecOf
    repeat' split
    all_goals decide
  unfold decRunFmt DECd_FMT_CODEC_ACT DECd_FMT_SIZE_CU DECd_FMT_BITRATE
  rw [getF_setF_beside _ _ _ _ _ _ _ (by decide), getF_setF_beside _ _ _ _ _ _ _ (by decide)]
  exact getF_setF_bits_fit _ _ _ _ _ (by decide) hcodec

theorem decRunFmt_rd (c : SubCh) {a : Nat} (ha : a ≠ DECd_FMT d) : (decRunFmt d c s).rd a = s.rd a := by
  unfold decRunFmt
  rw [rd_setF_other _ _ _ _ ha, rd_setF_other _ _ _ _ ha, rd_setF_other _ _ _ _ ha]

theorem decRunTime_rd (ts lat : Nat) {a : Nat} (ha : a ≠ DECd_LAT d) : (decRunTime d ts lat s).rd a = s.rd a := by
  unfold decRunTime
  rw [setDecoder_rd, rd_setF_other _ _ _ _ ha]

theorem decRunTime_lat (ts : Nat) {lat : Nat} (hlat : lat < 2 ^ 32) : (decRunTime d ts lat s).getF (DECd_LAT_TICKS d) = lat := by
  unfold decRunTime
  rw [setDecoder_getF]
  exact getF_setF_fits _ _ _ (by simp [DECd_LAT_TICKS]) (by simpa [DECd_LAT_TICKS] using hlat)

end

section
variable {s : State} {d cif t0 core : Nat} {st sbr ps : Bool} {c : SubCh}

/-- What a decoder that waits for nothing does at its first frame or superframe (R238 to R241). -/
theorem decRun_eq (hsub : s.decSub d = some c) (hcif : s.cifAt (s.getF (DECd_CTL_SLOT d)) cif = some t0)
    (hstate : s.decState d = 1) (hnone : (s.decoder d).change = .none) (hready : s.waitReason d = 0)
    (hfirst : (codecOf c.ascTy == 1 || cif % 5 == 0) = true)
    (hnow : (s.advance (firstBlock t0 + decLatency (codecOf c.ascTy))).now = firstBlock t0 + decLatency (codecOf c.ascTy)) :
    decRun d cif st sbr ps core s = dabUse (raise evDecRun d (decRunTime d (firstBlock t0) (decLatency (codecOf c.ascTy))
      (decRunFmt d c (decRunStat d st sbr ps core (s.advance (firstBlock t0 + decLatency (codecOf c.ascTy))))))) := by
  unfold decRun
  rw [hsub, hcif]
  dsimp only
  rw [if_pos (by rw [hstate, hnone, hready, hfirst, hnow]; simp)]
  rfl

/-- A decoder that waits for nothing runs, and shows its latency and its format (R238 to R241). -/
theorem decRun_runs (hd : d < 128) (hcore : core < 4) (hsub : s.decSub d = some c)
    (hcif : s.cifAt (s.getF (DECd_CTL_SLOT d)) cif = some t0) (hstate : s.decState d = 1)
    (hnone : (s.decoder d).change = .none) (hready : s.waitReason d = 0)
    (hfirst : (codecOf c.ascTy == 1 || cif % 5 == 0) = true)
    (hnow : (s.advance (firstBlock t0 + decLatency (codecOf c.ascTy))).now = firstBlock t0 + decLatency (codecOf c.ascTy)) :
    Gives (.decRun d cif st sbr ps core) s fun t =>
      t.decState d = 2 ∧ t.getF (DECd_STAT_WAIT d) = 0 ∧ t.getF (DECd_LAT_TICKS d) = decLatency (codecOf c.ascTy) ∧
        t.getF (DECd_FMT_CODEC_ACT d) = codecOf c.ascTy ∧ (t.decoder d).warmLeft = 1152 ∧
        (t.decoder d).runAt = firstBlock t0 ∧ t.flag (DECd_STAT_STEREO d) = st := by
  have hexec : exec (.decRun d cif st sbr ps core) s = .next (sourceJudge 2 d (decRun d cif st sbr ps core s)) := by
    show execDecRun d cif st sbr ps core s = _
    rw [execDecRun, if_pos (by simp [hd, hcore])]
  refine ⟨_, hexec, ?_⟩
  rw [decRun_eq hsub hcif hstate hnone hready hfirst hnow]
  generalize s.advance (firstBlock t0 + decLatency (codecOf c.ascTy)) = s0
  obtain ⟨hrun, hwait, hstereo⟩ := decRunStat_shows s0 d st sbr ps core
  generalize decRunStat d st sbr ps core s0 = s1 at *
  have hfmt := decRunFmt_codec s1 d c
  have hstat : (decRunFmt d c s1).rd (DECd_STAT d) = s1.rd (DECd_STAT d) := decRunFmt_rd _ _ _ (by simp [DECd_STAT, DECd_FMT])
  generalize decRunFmt d c s1 = s2 at *
  have hlat : decLatency (codecOf c.ascTy) < 2 ^ 32 := by
    unfold decLatency
    split <;> decide
  have hticks := decRunTime_lat s2 d (firstBlock t0) hlat
  have hdec : (decRunTime d (firstBlock t0) (decLatency (codecOf c.ascTy)) s2).decoder d = _ := decoder_setDecoder_same _ _ _
  have hrd {a : Nat} := decRunTime_rd s2 d (firstBlock t0) (decLatency (codecOf c.ascTy)) (a := a)
  generalize decRunTime d (firstBlock t0) (decLatency (codecOf c.ascTy)) s2 = s3 at *
  have hkeep : KeepsDecs s3 (sourceJudge 2 d (dabUse (raise evDecRun d s3))) :=
    ((decPart.raise _ _ _).trans (decPart.dabUse _)).trans (sourceJudge_keepsDecs _ _ _)
  have hreg {f : Fld} (hf : f.reg = DECd_STAT d) :
      (sourceJudge 2 d (dabUse (raise evDecRun d s3))).getF f = s1.getF f := by
    refine (hkeep.getF (by rw [hf, DECd_STAT]; omega)).trans (getF_of_rd ?_)
    rw [hf, hrd (by simp [DECd_STAT, DECd_LAT]), hstat]
  rw [hkeep.decoder, hdec]
  refine ⟨(hreg rfl).trans hrun, (hreg rfl).trans hwait, ?_, ?_, rfl, rfl, ?_⟩
  · exact (hkeep.getF (by simp only [DECd_LAT_TICKS, DECd_LAT]; omega)).trans hticks
  · rw [hkeep.getF (by simp only [DECd_FMT_CODEC_ACT, DECd_FMT]; omega)]
    exact (getF_of_rd (f := DECd_FMT_CODEC_ACT d) (hrd (by simp [DECd_FMT_CODEC_ACT, DECd_FMT, DECd_LAT]))).trans hfmt
  · rw [State.flag, hreg rfl, ← State.flag, hstereo]

end

end Sys2Proof.Machine
end

section
/-! SUPPORT. Concealment, deferred stops (R242, R246, R275), and the statement on audio decoders. -/

namespace Sys2Proof.Machine

/-! ## Concealment -/

/-- A window of 100 counts at most 100. -/
theorem hundred_count_lt (l : List Bool) : (l.take 100).count true < 256 :=
  (List.count_le_length.trans (List.length_take_le 100 l)).trans_lt (by decide)

section
variable {s : State} {d : Nat}

/-- What is told of a frame is no register. -/
theorem decReport_getF (d : Nat) (b : Bool) (rs : Nat) (s : State) (f : Fld) : (decReport d b rs s).getF f = s.getF f :=
  setDecoder_getF _ _ _ _

/-- The corrections of a report are counted beside the concealed frames (R242). -/
theorem decReport_counts (d : Nat) (b : Bool) (rs : Nat) (s : State) :
    (decReport d b rs (s.bumpBy (DECd_CNT_RSCORR d) rs)).getF (DECd_CNT_RSCORR d) =
        min (s.getF (DECd_CNT_RSCORR d) + rs) 65535 ∧
      (decReport d b rs (s.bumpBy (DECd_CNT_RSCORR d) rs)).getF (DECd_CNT_CONCEAL d) = s.getF (DECd_CNT_CONCEAL d) := by
  rw [decReport_getF, decReport_getF]
  exact ⟨getF_bumpBy_same _ _ _ (by simp [DECd_CNT_RSCORR]), getF_setF_beside _ _ _ _ _ _ _ (by decide)⟩

/-- A failed frame or access unit is concealed: counted, timed, and in the window of the last 100 (R242, R246). -/
theorem decConceal_unit {cif au good rs lo hi : Nat} (hd : d < 128) (hstate : s.decState d = 2 ∨ s.decState d = 3)
    (hnamed : s.auNamed d false au = true) (hspan : s.audioSpan d cif au false = some (lo, hi))
    (hfirst : (s.decoder d).fails = []) :
    Gives (.decConceal d false cif au good rs) s fun t =>
      Counted (DECd_CNT_CONCEAL d) s t ∧ (t.decoder d).fails = [(lo, hi)] ∧
        t.getF (DECd_QUAL_ERR d) =
          ((true :: (goodPush good (s.decoder d).errBal (s.decoder d).errs).1).take 100).count true := by
  have hexec : exec (.decConceal d false cif au good rs) s = .next (decConceal d false cif au good rs s) := by
    show execDecConceal d false cif au good rs s = _
    rw [execDecConceal, if_pos hd]
  refine ⟨_, hexec, ?_⟩
  obtain ⟨-, hconceal⟩ := decReport_counts d true rs s
  unfold decConceal
  rw [if_neg (by obtain h | h := hstate <;> simp [h])]
  dsimp only
  simp only [hnamed, hspan, hfirst, Bool.false_eq_true, if_false, if_true]
  generalize decReport d true rs (s.bumpBy (DECd_CNT_RSCORR d) rs) = s1 at *
  refine ⟨?_, ?_, ?_⟩
  · have hqual : (DECd_CNT_CONCEAL d).reg ≠ (DECd_QUAL_ERR d).reg := by
      simp [DECd_CNT_CONCEAL, DECd_CNT, DECd_QUAL_ERR, DECd_QUAL]
    have hcounted := (counted_bump s1 (DECd_CNT_CONCEAL d) (by simp [DECd_CNT_CONCEAL]) (by simp [DECd_CNT_CONCEAL])).of_getF
      hconceal
    rw [Counted, getF_setF_reg _ _ _ _ hqual, setDecoder_getF]
    exact hcounted
  · rw [State.decoder, setF_decs, ← State.decoder, decoder_setDecoder_same]
    rfl
  · exact getF_setF_fits _ _ _ (by simp [DECd_QUAL_ERR]) (hundred_count_lt _)

/-- A failed superframe counts in its window alone, with its corrections (R242, R246). -/
theorem decConceal_superframe {cif au good rs : Nat} (hd : d < 128) (hstate : s.decState d = 2 ∨ s.decState d = 3) :
    Gives (.decConceal d true cif au good rs) s fun t =>
      t.getF (DECd_QUAL_SFFAIL d) =
          ((true :: (goodPush good (s.decoder d).sfBal (s.decoder d).sfs).1).take 100).count true ∧
        t.getF (DECd_CNT_RSCORR d) = min (s.getF (DECd_CNT_RSCORR d) + rs) 65535 ∧
        t.getF (DECd_CNT_CONCEAL d) = s.getF (DECd_CNT_CONCEAL d) := by
  have hexec : exec (.decConceal d true cif au good rs) s = .next (decConceal d true cif au good rs s) := by
    show execDecConceal d true cif au good rs s = _
    rw [execDecConceal, if_pos hd]
  refine ⟨_, hexec, ?_⟩
  obtain ⟨hcorr, hconceal⟩ := decReport_counts d true rs s
  have hnamed : s.auNamed d true au = true := rfl
  unfold decConceal
  rw [if_neg (by obtain h | h := hstate <;> simp [h])]
  dsimp only
  simp only [hnamed, if_true]
  generalize decReport d true rs (s.bumpBy (DECd_CNT_RSCORR d) rs) = s1 at *
  have hkeeps {f : Fld} (hf : f.reg = DECd_CNT d) (v : Decoder) (x : Nat) :
      ((s1.setDecoder d v).setF (DECd_QUAL_SFFAIL d) x).getF f = s1.getF f :=
    (getF_setF_reg _ _ _ _ (by simp [hf, DECd_CNT, DECd_QUAL_SFFAIL, DECd_QUAL])).trans (setDecoder_getF _ _ _ _)
  exact ⟨getF_setF_fits _ _ _ (by simp [DECd_QUAL_SFFAIL]) (hundred_count_lt _), (hkeeps rfl _ _).trans hcorr,
    (hkeeps rfl _ _).trans hconceal⟩

/-! ## Deferred stops -/

theorem slotProceed_decs (n : Nat) (s : State) : (slotProceed n s).decs = s.decs := by
  unfold slotProceed
  split
  · exact setSlot_decs _ _ _
  · rfl

/-- Once its fade has ended, a deferred decoder is asked to stop (R238, R275). -/
theorem deferredStop_decoder (hd : d < 128) (hfade : s.inFade 2 d = false) (hstate : s.decState d = 3) :
    Gives (.pathDeferredStop true d) s fun t =>
      (t.decoder d).change = .stop ∧ (t.decoder d).due = ceilTo 5242880 (s.now + 1) := by
  have hexec : exec (.pathDeferredStop true d) s =
      .next (slotProceed ((decProceed d s).getF (DECd_CTL_SLOT d)) (decProceed d s)) := by
    show execPathDeferredStop true d s = _
    rw [execPathDeferredStop, if_pos rfl, if_pos (by simp [hd, hfade])]
    dsimp only
    rw [if_pos hstate]
  refine ⟨_, hexec, ?_⟩
  have hdec : (slotProceed ((decProceed d s).getF (DECd_CTL_SLOT d)) (decProceed d s)).decoder d = (decProceed d s).decoder d :=
    congrArg (sget decNone · d) (slotProceed_decs _ _)
  dsimp only
  rw [hdec]
  exact stopAsked_shows s d

/-- Once its fade has ended, a deferred path is asked to stop (R194, R275). -/
theorem deferredStop_path {n : Nat} (hn : n < 512) (hfade : s.inFade 1 n = false) (hstate : s.getF (PTHn_STAT_STATE n) = 3) :
    Gives (.pathDeferredStop false n) s fun t => (t.path n).change = .stop ∧ (t.path n).due = s.now := by
  have hexec : exec (.pathDeferredStop false n) s = .next (pathProceed n s) := by
    show execPathDeferredStop false n s = _
    rw [execPathDeferredStop, if_neg (by decide), if_pos (by simp [hn, hfade, hstate])]
  refine ⟨_, hexec, ?_⟩
  dsimp only
  rw [pathProceed, path_setPath_same]
  exact ⟨rfl, rfl⟩

end

/-! ## The statement -/

/-- The premises of the statement on a command of a decoder say that the write is let through. -/
theorem decOpen_of {s : State} {m : Master} {d : Nat} (hd : decide (d < 128) = true) (hdecs : decide (d < s.hdr.dec) = true)
    (howned : (!(s.flag (DECd_CTL_OWNER d) && m != .core 1)) = true) : DecOpen s m d where
  lt := of_decide_eq_true hd
  decs := of_decide_eq_true hdecs
  owned := (Bool.not_eq_true' _).mp howned

/-- Settles O29: each clause is what its command leaves of a decoder, shown above for the command. -/
theorem audioDecoders : Obligations.AudioDecoders := by
  unfold Obligations.AudioDecoders
  have off {b : Bool} (h : (!b) = true) : b = false := (Bool.not_eq_true' _).mp h
  have audible {s : State} {d : Nat} (h : (s.decState d == 2 || s.decState d == 3) = true) :
      s.decState d = 2 ∨ s.decState d = 3 := by simpa using h
  refine ⟨fun s m d hr hd hdecs howned hstate => decStart_waits (decOpen_of hd hdecs howned) hr (eq_of_beq hstate),
    fun s m d hr hd hdecs howned hstate hfade hnone => ?_,
    fun s m d hr hd hdecs howned hstate hfade => decStop_defers (decOpen_of hd hdecs howned) hr (eq_of_beq hstate) hfade,
    fun s m d hr hd hdecs howned hstate hnone => ?_,
    fun s d cif t0 st sbr ps core c hd hcore hsub hcif hstate hnone hready hfirst hnow =>
      decRun_runs (of_decide_eq_true hd) (of_decide_eq_true hcore) (eq_of_beq hsub) (eq_of_beq hcif) (eq_of_beq hstate)
        (eq_of_beq hnone) (eq_of_beq hready) hfirst (eq_of_beq hnow),
    fun s d hd hstate hreason => decWait_waits (of_decide_eq_true hd) (eq_of_beq hstate) (bne_iff_ne.mp hreason),
    fun s d cif au good rs lo hi hd hstate hnamed hspan hfirst =>
      decConceal_unit (of_decide_eq_true hd) (audible hstate) hnamed (eq_of_beq hspan) (List.isEmpty_iff.mp hfirst),
    fun s d cif au good rs hd hstate => decConceal_superframe (of_decide_eq_true hd) (audible hstate),
    fun s d hd hfade hstate => deferredStop_decoder (of_decide_eq_true hd) (off hfade) (eq_of_beq hstate),
    fun s n hn hfade hstate => deferredStop_path (of_decide_eq_true hn) (off hfade) (eq_of_beq hstate)⟩
  · have hrun : s.decState d = 2 := eq_of_beq hstate
    have hasks := decStop_asks (decOpen_of hd hdecs howned) hr (.inr ⟨hrun, off hfade⟩) (eq_of_beq hnone)
    rwa [hrun] at hasks
  · have hwait : s.decState d = 1 := eq_of_beq hstate
    have hasks := decStop_asks (decOpen_of hd hdecs howned) hr (.inl hwait) (eq_of_beq hnone)
    rwa [hwait] at hasks

end Sys2Proof.Machine
end

section
/-! SUPPORT. The commands of the ensemble slots and their release instants (R231, R232): what the decoders of a slot do
leaves the slots, and what START, STOP, RESYNC, lock and its loss leave of their slot. -/

namespace Sys2Proof.Machine

/-! ## Decoders leave the slots -/

theorem decShow_keepsSlots (d : Nat) (s : State) : KeepsSlots s (decShow d s) := by
  unfold decShow
  split
  · exact (KeepsArea.refl s).setF slotPart _ _ (.inr (by simp only [DECd_STAT_WAIT, DECd_STAT]; omega))
  · exact .refl s

theorem decShowOn_keepsSlots (n : Nat) (s : State) : KeepsSlots s (decShowOn n s) :=
  (KeepsArea.refl s).forEach fun d _ x => decShow_keepsSlots d x

theorem decToWait_keepsSlots (d : Nat) (s : State) : KeepsSlots s (decToWait d s) := by
  by_cases hstate : s.decState d = 2
  · rw [decToWait_eq hstate]
    exact (((decWaiting_keepsSlots d s).trans (decShow_keepsSlots d _)).trans (slotPart.raise _ _ _)).trans (slotPart.dabUse _)
  · rw [decToWait, if_neg hstate]
    exact decShow_keepsSlots d s

theorem decReconfig_keepsSlots (d : Nat) (s : State) : KeepsSlots s (decReconfig d s) := by
  have hfmt : 0x21000 ≤ DECd_FMT d := by rw [DECd_FMT]; omega
  unfold decReconfig
  split
  · split
    · exact decToWait_keepsSlots d s
    · exact .ite (decToWait_keepsSlots d s)
        (((KeepsArea.refl s).setF slotPart (DECd_FMT_SIZE_CU d) _ (.inr hfmt)).setF slotPart (DECd_FMT_BITRATE d) _ (.inr hfmt))
  · exact decShow_keepsSlots d s

/-! ## Writes to a slot -/

/-- The registers of slot n may be written (R245). -/
structure SlotOpen (s : State) (n : Nat) : Prop where
  lt : n < 48
  ens : n < s.hdr.ens

section
variable {s u : State} {m : Master} {n : Nat}

/-- A write of the slot's CMD that reaches it is carried out after it is traced. -/
theorem SlotOpen.write (h : SlotOpen s n) (hr : s.reaches m (ENSs_CMD n) = true) (w : Nat) :
    ∃ u, Traced s u ∧ (if n < 48 then ensCmdWrite m n w s else s) = ensCmd n w u := by
  have ht := traceRegWrite_traced m (ENSs_CMD n) w s
  refine ⟨_, ht, ?_⟩
  rw [if_pos h.lt, ensCmdWrite, gated_reaches _ _ _ _ _ hr, ensGuard, ht.hdr, if_neg (by have := h.ens; omega)]

theorem Traced.slotState (ht : Traced s u) (hn : n < 48) : u.slotState n = s.slotState n :=
  (slotPart.traced ht).slotState (by omega)

theorem Traced.slot (ht : Traced s u) (n : Nat) : u.slot n = s.slot n := (slotPart.traced ht).slot n

/-- A traced write leaves which decoders are on a slot, and whether one of them feeds a cross-fade. -/
theorem Traced.slotInFade (ht : Traced s u) (n : Nat) : u.slotInFade n = s.slotInFade n := by
  have hlive : u.liveDecs = s.liveDecs := ht.search (by decide) (by decide) fun d hd => by
    rw [(decPart.traced ht).decState hd]
  have hon : u.decsOn n = s.decsOn n := by
    rw [State.decsOn, State.decsOn, hlive]
    refine List.filter_congr fun d hd => ?_
    have hlt : d < 128 := lt_of_mem_touched (List.mem_of_mem_filter hd)
    rw [ht.getF (by simp only [DECd_CTL_SLOT, DECd_CTL]; omega)]
  have hfade : (fun d => u.inFade 2 d) = fun d => s.inFade 2 d := funext (ht.inFade 2)
  rw [State.slotInFade, State.slotInFade, hon, hfade]

/-! ## START, STOP and RESYNC -/

/-- A change is asked for where none is (R231). -/
theorem slotAsk_first (c : Change) (hnone : (s.slot n).change = .none) :
    ((slotAsk n c s).slot n).change = c ∧ ((slotAsk n c s).slot n).due = s.changeDue ∧
      (slotAsk n c s).slotState n = s.slotState n := by
  unfold slotAsk
  dsimp only
  rw [if_pos hnone, slot_setSlot_same]
  exact ⟨rfl, rfl, setSlot_getF _ _ _ _⟩

/-- A change of the slot's state beside its registers. -/
theorem setSlotState_shows (k : Nat) (hk : k < 8) (v : Slot) (s : State) :
    ((s.setF (ENSs_STAT_STATE n) k).setSlot n v).slotState n = k ∧ ((s.setF (ENSs_STAT_STATE n) k).setSlot n v).slot n = v :=
  ⟨(setSlot_getF _ _ _ _).trans (getF_setF_fits _ _ _ (by simp [ENSs_STAT_STATE]) (by simpa [ENSs_STAT_STATE] using hk)),
    slot_setSlot_same _ _ _⟩

/-- START of a STOPPED slot leaves it PENDING with its change due (R231). -/
theorem ensStart_pends (h : SlotOpen s n) (hr : s.reaches m (ENSs_CMD n) = true) (hstate : s.slotState n = 0) :
    Gives (.ensStart m n) s fun t =>
      t.slotState n = 1 ∧ (t.slot n).change = .start ∧ (t.slot n).due = s.now + Config.ticksOfUs 1 := by
  obtain ⟨u, ht, hexec⟩ := h.write hr 1
  have hstart : ensCmd n 1 u = (u.setF (ENSs_STAT_STATE n) 1).setSlot n { change := .start, due := u.changeDue } := by
    unfold ensCmd
    dsimp only
    rw [if_neg (by decide), if_pos (by decide), ensStart, ht.slotState h.lt, hstate, if_neg (by decide)]
  refine ⟨_, congrArg Host.Outcome.next (hexec.trans hstart), ?_⟩
  obtain ⟨hst, hslot⟩ := setSlotState_shows (n := n) 1 (by decide) { change := .start, due := u.changeDue } u
  rw [hslot]
  exact ⟨hst, rfl, ht.changeDue⟩

theorem ensCmd_stop (n : Nat) (s : State) : ensCmd n 2 s = ensStop n s := by
  unfold ensCmd
  dsimp only
  rw [if_neg (by decide), if_neg (by decide), if_pos (by decide)]

/-- STOP of a slot that searches or is locked, no decoder on which feeds a cross-fade, asks for it to stop (R231). -/
theorem ensStop_asks (h : SlotOpen s n) (hr : s.reaches m (ENSs_CMD n) = true)
    (hstate : s.slotState n = 2 ∨ s.slotState n = 3) (hfade : s.slotInFade n = false)
    (hnone : (s.slot n).change = .none) :
    Gives (.ensStop m n) s fun t =>
      (t.slot n).change = .stop ∧ (t.slot n).due = s.now + Config.ticksOfUs 1 ∧ t.slotState n = s.slotState n := by
  obtain ⟨u, ht, hexec⟩ := h.write hr 2
  have hstop : ensCmd n 2 u = slotAsk n .stop u := by
    rw [ensCmd_stop, ensStop]
    dsimp only
    rw [ht.slotState h.lt, ht.slotInFade, hfade, if_neg (by omega), if_pos (by simpa using hstate), if_neg (by decide)]
  refine ⟨_, congrArg Host.Outcome.next (hexec.trans hstop), ?_⟩
  obtain ⟨hchange, hdue, hst⟩ := slotAsk_first .stop ((congrArg Slot.change (ht.slot n)).trans hnone)
  exact ⟨hchange, hdue.trans ht.changeDue, hst.trans (ht.slotState h.lt)⟩

/-- STOP of a PENDING slot leaves it STOPPED at once (R231). -/
theorem ensStop_cancels (h : SlotOpen s n) (hr : s.reaches m (ENSs_CMD n) = true) (hstate : s.slotState n = 1) :
    Gives (.ensStop m n) s fun t => t.slotState n = 0 ∧ t.slot n = {} := by
  obtain ⟨u, ht, hexec⟩ := h.write hr 2
  have hstop : ensCmd n 2 u = (u.setF (ENSs_STAT_STATE n) 0).setSlot n {} := by
    rw [ensCmd_stop, ensStop]
    dsimp only
    rw [ht.slotState h.lt, if_pos hstate]
  exact ⟨_, congrArg Host.Outcome.next (hexec.trans hstop), setSlotState_shows 0 (by decide) {} u⟩

/-- RESYNC asks for the search to begin again (R231). -/
theorem ensResync_asks (h : SlotOpen s n) (hr : s.reaches m (ENSs_CMD n) = true)
    (hstate : s.slotState n = 2 ∨ s.slotState n = 3) (hnone : (s.slot n).change = .none) :
    Gives (.ensResync m n) s fun t => (t.slot n).change = .sync ∧ (t.slot n).due = s.now + Config.ticksOfUs 1 := by
  obtain ⟨u, ht, hexec⟩ := h.write hr 4
  have hsync : ensCmd n 4 u = slotAsk n .sync u := by
    unfold ensCmd
    dsimp only
    rw [if_neg (by decide), if_neg (by decide), if_neg (by decide), if_pos (by decide), ensResync, ht.slotState h.lt,
      if_pos (by simpa using hstate)]
  refine ⟨_, congrArg Host.Outcome.next (hexec.trans hsync), ?_⟩
  obtain ⟨hchange, hdue, -⟩ := slotAsk_first .sync ((congrArg Slot.change (ht.slot n)).trans hnone)
  exact ⟨hchange, hdue.trans ht.changeDue⟩

end

/-! ## Leaving LOCKED -/

section
variable (n : Nat) (s : State)

/-- What leaves LOCKED forgets the organisation (R232, R238). -/
theorem slotUnlock_slot :
    ∃ l, (slotUnlock n s).slot n = { s.slot n with org := none, lockedDefer := false, lostAt := l } := by
  unfold slotUnlock
  extract_lets last v s1
  have hslot : s1.slot n = { v with org := none, lockedDefer := false, lostAt := last + frameTicks } := slot_setSlot_same _ _ _
  clear_value s1
  exact ⟨_, hslot⟩

/-- It clears FIC_OK and EID.VALID. -/
theorem slotUnlock_rd (a : Nat) :
    (slotUnlock n s).rd a = ((s.setF (ENSs_STAT_FIC_OK n) 0).setF (ENSs_EID_VALID n) 0).rd a := by
  unfold slotUnlock
  extract_lets last v s1
  have hrd : s1.rd a = ((s.setF (ENSs_STAT_FIC_OK n) 0).setF (ENSs_EID_VALID n) 0).rd a := setSlot_rd _ _ _ _
  clear_value s1
  exact hrd

theorem slotUnlock_clears :
    (slotUnlock n s).getF (ENSs_STAT_FIC_OK n) = 0 ∧ (slotUnlock n s).getF (ENSs_EID_VALID n) = 0 := by
  have hreg : (ENSs_STAT_FIC_OK n).reg ≠ (ENSs_EID_VALID n).reg := by
    simp [ENSs_STAT_FIC_OK, ENSs_STAT, ENSs_EID_VALID, ENSs_EID]
  rw [getF_of_rd (slotUnlock_rd n s _), getF_of_rd (slotUnlock_rd n s _), getF_setF_reg _ _ _ _ hreg]
  exact ⟨getF_setF_fits _ _ _ (by simp [ENSs_STAT_FIC_OK]) (by simp [ENSs_STAT_FIC_OK]),
    getF_setF_fits _ _ _ (by simp [ENSs_EID_VALID]) (by simp [ENSs_EID_VALID])⟩

/-- It leaves the fields of other registers. -/
theorem slotUnlock_getF {f : Fld} (hf : f.reg ≠ ENSs_STAT n ∧ f.reg ≠ ENSs_EID n) : (slotUnlock n s).getF f = s.getF f := by
  rw [getF_of_rd (slotUnlock_rd n s _), getF_setF_reg _ _ _ _ hf.2, getF_setF_reg _ _ _ _ hf.1]

end

/-- The decoders of a slot that leaves LOCKED wait, which leaves the slots. -/
theorem waitOn_keepsSlots (l : List Nat) (x : State) : KeepsSlots x (dabUse (forEach l decToWait x)) :=
  ((KeepsArea.refl x).forEach fun d _ y => decToWait_keepsSlots d y).trans (slotPart.dabUse _)

/-! ## Release instants -/

section
variable {s : State} {n t : Nat} (hn : n < 48) (hreset : s.pwr.inReset = false) (hgrid : t % 122880 = 0)
  (hdue : (s.slot n).due ≤ t)
include hn hreset hgrid hdue

/-- At a release instant from its due instant on, the change of a slot takes place once time has passed to it. -/
theorem slotRelease_due : ∃ u, u.slot n = s.slot n ∧ u.slotState n = s.slotState n ∧
    exec (.slotReleaseInstant n t) s = .next (slotInstant n t u) ∧
    (t % Config.releasePeriod != 0 || decide (t < (u.slot n).due)) = false := by
  have hslot : (s.advance t).slot n = s.slot n := congrArg (sget slotNone · n) (advance_slots s t)
  refine ⟨s.advance t, hslot, advance_getF _ _ _, ?_, ?_⟩
  · show execSlotReleaseInstant n t s = _
    rw [execSlotReleaseInstant, hreset, if_pos (by simp [hn])]
  · have hperiod : t % Config.releasePeriod = 0 := hgrid
    rw [hslot, hperiod, decide_eq_false (by omega)]
    rfl

/-- A slot that is to start searches from empty state (R231). -/
theorem slotRelease_starts (hchange : (s.slot n).change = .start) :
    Gives (.slotReleaseInstant n t) s fun u => u.slotState n = 2 ∧ u.slot n = {} := by
  obtain ⟨u, hslot, -, hexec, hgo⟩ := slotRelease_due hn hreset hgrid hdue
  refine ⟨_, hexec, ?_⟩
  have hinst : slotInstant n t u = (u.setF (ENSs_STAT_STATE n) 2).setSlot n {} := by
    unfold slotInstant
    dsimp only
    rw [hgo, if_neg (by decide), hslot, hchange]
  dsimp only
  rw [hinst]
  exact setSlotState_shows 2 (by decide) {} u

/-- A slot that is to synchronise anew searches, and forgets what it had read (R231, R232). -/
theorem slotRelease_resyncs (hchange : (s.slot n).change = .sync) (hlater : (s.slot n).later = none)
    (hstate : s.slotState n ≠ 4) :
    Gives (.slotReleaseInstant n t) s fun u =>
      u.slotState n = 2 ∧ (u.slot n).change = .none ∧ (u.slot n).org = none ∧ u.getF (ENSs_EID_VALID n) = 0 := by
  obtain ⟨u, hslot, hst, hexec, hgo⟩ := slotRelease_due hn hreset hgrid hdue
  refine ⟨_, hexec, ?_⟩
  obtain ⟨l, hunlock⟩ := slotUnlock_slot n u
  obtain ⟨-, hclear⟩ := slotUnlock_clears n u
  unfold slotInstant
  dsimp only
  rw [hgo, if_neg (by decide), hslot, hchange, hlater, hst]
  dsimp only
  rw [if_neg hstate]
  generalize slotUnlock n u = x at *
  have hreg : (ENSs_EID_VALID n).reg ≠ (ENSs_STAT_STATE n).reg := by
    simp [ENSs_EID_VALID, ENSs_EID, ENSs_STAT_STATE, ENSs_STAT]
  have hforgot : ((x.setF (ENSs_STAT_STATE n) 2).slot n).org = none := by
    rw [State.slot, setF_slots, ← State.slot, hunlock]
  refine ⟨((waitOn_keepsSlots _ _).slotState (by omega)).trans (setSlotState_shows 2 (by decide) _ x).1, ?_, ?_, ?_⟩
  · rw [(waitOn_keepsSlots _ _).slot, slot_setSlot_same]
    rfl
  · rw [(waitOn_keepsSlots _ _).slot, slot_setSlot_same]
    exact hforgot
  · rw [(waitOn_keepsSlots _ _).getF (by simp only [ENSs_EID_VALID, ENSs_EID]; omega), setSlot_getF,
      getF_setF_reg _ _ _ _ hreg, hclear]

/-- A slot that is to stop is STOPPED and empty (R231). -/
theorem slotRelease_stops (hchange : (s.slot n).change = .stop) :
    Gives (.slotReleaseInstant n t) s fun u => u.slotState n = 0 ∧ u.slot n = {} := by
  obtain ⟨u, hslot, -, hexec, hgo⟩ := slotRelease_due hn hreset hgrid hdue
  refine ⟨_, hexec, ?_⟩
  unfold slotInstant
  dsimp only
  rw [hgo, if_neg (by decide), hslot, hchange]
  dsimp only
  generalize slotUnlock n u = x
  obtain ⟨hst, hempty⟩ := setSlotState_shows (n := n) 0 (by decide) {} x
  exact ⟨((waitOn_keepsSlots _ _).slotState (by omega)).trans hst, ((waitOn_keepsSlots _ _).slot n).trans hempty⟩

end

/-! ## Lock and its loss -/

section
variable {s : State} {n : Nat}

/-- A slot that finds what R232 asks for is LOCKED, its timeline begun. -/
theorem ensLock_locks {nulls : List Nat} {prs : Bool} {foff : Int} {err : Nat} (hn : n < 48) (hstate : s.slotState n = 2)
    (hok : lockOk nulls prs foff err = true) :
    Gives (.ensLock n nulls prs foff err) s fun t =>
      t.slotState n = 3 ∧ (t.slot n).frames = [(nulls.getLastD 0, 0xFFFF)] := by
  have hexec : exec (.ensLock n nulls prs foff err) s = .next (dabUse (decShowOn n (raise evEnsLock n
      ((s.setSlot n { s.slot n with frames := [(nulls.getLastD 0, 0xFFFF)] }).setF (ENSs_STAT_STATE n) 3)))) := by
    show execEnsLock n nulls prs foff err s = _
    rw [execEnsLock, if_pos (by simp [hn, hstate, hok])]
  refine ⟨_, hexec, ?_⟩
  generalize hx : (s.setSlot n { s.slot n with frames := [(nulls.getLastD 0, 0xFFFF)] }).setF (ENSs_STAT_STATE n) 3 = x
  have hkeep := ((slotPart.raise evEnsLock n x).trans (decShowOn_keepsSlots n _)).trans (slotPart.dabUse _)
  refine ⟨(hkeep.slotState (by omega)).trans ?_, (congrArg Slot.frames (hkeep.slot n)).trans ?_⟩
  · rw [← hx]
    exact getF_setF_fits _ _ _ (by simp [ENSs_STAT_STATE]) (by simp [ENSs_STAT_STATE])
  · rw [← hx, State.slot, setF_slots, ← State.slot, slot_setSlot_same]

/-- One that does not stays as it is. -/
theorem ensLock_fails {nulls : List Nat} {prs : Bool} {foff : Int} {err : Nat} (hok : lockOk nulls prs foff err = false) :
    Gives (.ensLock n nulls prs foff err) s fun t => t = s := by
  refine ⟨s, ?_, rfl⟩
  show execEnsLock n nulls prs foff err s = _
  rw [execEnsLock, if_neg (by simp [hok])]

/-- A LOCKED slot that loses lock searches, counts the loss and forgets the organisation (R232, R238). -/
theorem ensLost_searches {t period : Nat} (hn : n < 48) (hstate : s.slotState n = 3) (hlost : s.lostOk n t period = true) :
    Gives (.ensLost n t period) s fun u =>
      u.slotState n = 2 ∧ Counted (ENSs_CNT_SYNCLOSS n) s u ∧ u.getF (ENSs_STAT_FIC_OK n) = 0 ∧ (u.slot n).org = none := by
  have hexec : exec (.ensLost n t period) s = .next (dabUse (decShowOn n (raise evEnsLost n
      ((((slotUnlock n (s.advance t)).setSlot n { (slotUnlock n (s.advance t)).slot n with lostAt := t }).setF
        (ENSs_STAT_STATE n) 2).bump (ENSs_CNT_SYNCLOSS n))))) := by
    show execEnsLost n t period s = _
    rw [execEnsLost, if_pos (by simp [State.slotLocked, hn, hstate, hlost]), hstate]
    rfl
  refine ⟨_, hexec, ?_⟩
  obtain ⟨l, hunlock⟩ := slotUnlock_slot n (s.advance t)
  obtain ⟨hfic, -⟩ := slotUnlock_clears n (s.advance t)
  have hcnt : (slotUnlock n (s.advance t)).getF (ENSs_CNT_SYNCLOSS n) = s.getF (ENSs_CNT_SYNCLOSS n) :=
    (slotUnlock_getF n _ (by simp [ENSs_CNT_SYNCLOSS, ENSs_CNT, ENSs_STAT, ENSs_EID])).trans (advance_getF _ _ _)
  generalize slotUnlock n (s.advance t) = x at *
  generalize hy : (x.setSlot n { x.slot n with lostAt := t }).setF (ENSs_STAT_STATE n) 2 = y
  have hkeep := ((slotPart.raise evEnsLost n (y.bump (ENSs_CNT_SYNCLOSS n))).trans (decShowOn_keepsSlots n _)).trans
    (slotPart.dabUse _)
  have hstat {f : Fld} (hf : f.reg = ENSs_STAT n) : (y.bump (ENSs_CNT_SYNCLOSS n)).getF f = y.getF f :=
    getF_setF_reg _ _ _ _ (by simp [hf, ENSs_STAT, ENSs_CNT_SYNCLOSS, ENSs_CNT])
  have hbefore : y.getF (ENSs_CNT_SYNCLOSS n) = s.getF (ENSs_CNT_SYNCLOSS n) := by
    rw [← hy, getF_setF_reg _ _ _ _ (by simp [ENSs_CNT_SYNCLOSS, ENSs_CNT, ENSs_STAT_STATE, ENSs_STAT]), setSlot_getF, hcnt]
  have hcounted := (counted_bump y (ENSs_CNT_SYNCLOSS n) (by simp [ENSs_CNT_SYNCLOSS]) (by simp [ENSs_CNT_SYNCLOSS])).of_getF
    hbefore
  refine ⟨?_, ?_, ?_, ?_⟩
  · rw [hkeep.slotState (by omega), State.slotState, hstat rfl, ← hy]
    exact getF_setF_fits _ _ _ (by simp [ENSs_STAT_STATE]) (by simp [ENSs_STAT_STATE])
  · rw [Counted, hkeep.getF (by simp only [ENSs_CNT_SYNCLOSS, ENSs_CNT]; omega)]
    exact hcounted
  · rw [hkeep.getF (by simp only [ENSs_STAT_FIC_OK, ENSs_STAT]; omega), hstat rfl, ← hy, ENSs_STAT_FIC_OK, ENSs_STAT_STATE,
      getF_setF_beside _ _ _ _ _ _ _ (by decide), setSlot_getF]
    exact hfic
  · rw [hkeep.slot, State.slot, State.bump, State.bumpBy, setF_slots, ← hy, setF_slots, ← State.slot, slot_setSlot_same, hunlock]

end

end Sys2Proof.Machine
end

section
/-! SUPPORT. The FIBs of a transmission frame and the registers that show it (R232 to R236). -/

namespace Sys2Proof.Machine

/-! ## FIBs -/

/-- From s to u the FIBs of a frame of slot n leave the slots' other registers, and its frames and organisation. -/
structure FibStep (n : Nat) (s u : State) : Prop where
  rd : ∀ a, 0x20000 ≤ a → a < 0x21000 → a ≠ ENSs_FIC n → a ≠ ENSs_CNT n → a ≠ ENSs_FIBCNT n → u.rd a = s.rd a
  frames : (u.slot n).frames = (s.slot n).frames
  org : (u.slot n).org = (s.slot n).org

section
variable {n : Nat} {s u v : State}

theorem FibStep.refl (s : State) : FibStep n s s := ⟨fun _ _ _ _ _ _ => rfl, rfl, rfl⟩

theorem FibStep.trans (h : FibStep n s u) (hv : FibStep n u v) : FibStep n s v :=
  ⟨fun a hlo hhi hfic hcnt hbad => (hv.rd a hlo hhi hfic hcnt hbad).trans (h.rd a hlo hhi hfic hcnt hbad),
    hv.frames.trans h.frames, hv.org.trans h.org⟩

theorem FibStep.ite {c : Prop} [Decidable c] (hu : FibStep n s u) (hv : FibStep n s v) : FibStep n s (if c then u else v) := by
  split
  · exact hu
  · exact hv

/-- What leaves the slots. -/
theorem FibStep.elsewhere (h : FibStep n s u) (hv : KeepsSlots u v) : FibStep n s v :=
  h.trans ⟨fun a hlo hhi _ _ _ => hv.rd a hlo hhi, congrArg Slot.frames (hv.slot n), congrArg Slot.org (hv.slot n)⟩

theorem FibStep.setF (h : FibStep n s u) (f : Fld) (x : Nat)
    (hf : f.reg = ENSs_FIC n ∨ f.reg = ENSs_CNT n ∨ f.reg = ENSs_FIBCNT n) : FibStep n s (u.setF f x) :=
  h.trans ⟨fun a _ _ hfic hcnt hbad => rd_setF_other _ _ _ _ (by obtain hf | hf | hf := hf <;> rwa [hf]),
    congrArg (fun l => (sget slotNone l n).frames) (setF_slots u f x),
    congrArg (fun l => (sget slotNone l n).org) (setF_slots u f x)⟩

theorem FibStep.setSlot (h : FibStep n s u) (x : Slot) (hframes : x.frames = (u.slot n).frames)
    (horg : x.org = (u.slot n).org) : FibStep n s (u.setSlot n x) :=
  h.trans ⟨fun _ _ _ _ _ _ => setSlot_rd _ _ _ _, (congrArg Slot.frames (slot_setSlot_same _ _ _)).trans hframes,
    (congrArg Slot.org (slot_setSlot_same _ _ _)).trans horg⟩

/-- What every change for an entry of a list leaves, the whole leaves. -/
theorem foldl_keepsSlots {α : Type} {f : State → α → State} (hf : ∀ x r, KeepsSlots x (f x r)) (l : List α) (s : State) :
    KeepsSlots s (l.foldl f s) := by
  induction l generalizing s with
  | nil => exact .refl s
  | cons r t ih => exact (hf s r).trans (ih (f s r))

/-- Labels are records. -/
theorem fibLabels_keepsSlots (n flags ts : Nat) (b : List Nat) (s : State) : KeepsSlots s (fibLabels n flags ts b s) := by
  unfold fibLabels
  split
  · exact .refl s
  · exact foldl_keepsSlots (fun x _ => slotPart.emitRec _ x) _ s

theorem fibStep_step (n cif flags ts : Nat) (b : List Nat) (k : Nat) (s : State) : FibStep n s (fibStep n cif flags ts b k s) := by
  unfold fibStep
  extract_lets v seq l s1 s2
  have h1 : FibStep n s s1 := ((FibStep.refl s).setSlot { v with seq := seq, last96 := l } rfl rfl).setF (ENSs_FIC_FIBBAD n) _ (.inl rfl)
  have h2 : FibStep n s s2 := .ite h1 (h1.setF (ENSs_FIBCNT_BAD n) _ (.inr (.inr rfl)))
  clear_value s1 s2
  exact .ite ((h2.setF (ENSs_CNT_FIBS n) _ (.inr (.inl rfl))).elsewhere
      (((slotPart.obsBlock _ _ _ _).trans (slotPart.emitRec _ _)).trans (fibLabels_keepsSlots _ _ _ _ _)))
    (h2.setF (ENSs_FIBCNT_DISC n) _ (.inr (.inr rfl)))

theorem fibSteps_step (n cif flags ts : Nat) (l : List (List Nat)) (k : Nat) (s : State) :
    FibStep n s (fibSteps n cif flags ts l k s) := by
  induction l generalizing k s with
  | nil => exact .refl s
  | cons b t ih => exact (fibStep_step n cif flags ts b k s).trans (ih (k + 1) _)

end

/-! ## The registers of a frame -/

/-- FIG 0/0 of a frame shows in STAT and EID (R232, R236). -/
def frameId (n eid cif : Nat) (s : State) : State :=
  (((s.setF (ENSs_STAT_FIC_OK n) 1).setF (ENSs_EID_VALID n) 1).setF (ENSs_EID_EID n) eid).setF (ENSs_EID_CIF n) cif

/-- What a frame measures shows in LVL, FOFF, FIC and QTS (R235). -/
def frameLevels (n : Nat) (rssi mer foff : Int) (ber ts : Nat) (s : State) : State :=
  (((((s.setI (ENSs_LVL_RSSI n) rssi).setI (ENSs_LVL_MER n) mer).setI (ENSs_FOFF_FOFF n) foff).setF (ENSs_FIC_FICBER n) ber).set64
    (ENSs_QTS_LO n) (ENSs_QTS_HI n) ts)

section
variable (n : Nat) (s : State)

/-- FIG 0/0 that is read sets FIC_OK (R232). -/
theorem ficOk_shows (eid : Nat) :
    (((s.setF (ENSs_STAT_FIC_OK n) 1).setF (ENSs_EID_VALID n) 1).setF (ENSs_EID_EID n) eid).getF (ENSs_STAT_FIC_OK n) = 1 := by
  have hvalid : (ENSs_STAT_FIC_OK n).reg ≠ (ENSs_EID_VALID n).reg := by
    simp [ENSs_STAT_FIC_OK, ENSs_STAT, ENSs_EID_VALID, ENSs_EID]
  have heid : (ENSs_STAT_FIC_OK n).reg ≠ (ENSs_EID_EID n).reg := hvalid
  rw [getF_setF_reg _ _ _ _ heid, getF_setF_reg _ _ _ _ hvalid]
  exact getF_setF_fits _ _ _ (by simp [ENSs_STAT_FIC_OK]) (by simp [ENSs_STAT_FIC_OK])

theorem frameId_shows {eid cif : Nat} (heid : eid < 65536) (hcif : cif < 5000) :
    (frameId n eid cif s).getF (ENSs_STAT_FIC_OK n) = 1 ∧ (frameId n eid cif s).getF (ENSs_EID_EID n) = eid ∧
      (frameId n eid cif s).getF (ENSs_EID_CIF n) = cif := by
  have hreg : (ENSs_STAT_FIC_OK n).reg ≠ (ENSs_EID_CIF n).reg := by
    simp [ENSs_STAT_FIC_OK, ENSs_STAT, ENSs_EID_CIF, ENSs_EID]
  unfold frameId
  refine ⟨(getF_setF_reg _ _ _ _ hreg).trans (ficOk_shows n s eid), ?_, ?_⟩
  all_goals unfold ENSs_EID_EID ENSs_EID_CIF
  · rw [getF_setF_beside _ _ _ _ _ _ _ (by decide)]
    exact getF_setF_bits_fit _ _ _ _ _ (by decide) heid
  · exact getF_setF_bits_fit _ _ _ _ _ (by decide) (hcif.trans (by decide))

theorem frameId_rd (eid cif : Nat) {a : Nat} (ha : a ≠ ENSs_STAT n ∧ a ≠ ENSs_EID n) : (frameId n eid cif s).rd a = s.rd a := by
  unfold frameId
  rw [rd_setF_other _ _ _ _ ha.2, rd_setF_other _ _ _ _ ha.2, rd_setF_other _ _ _ _ ha.2, rd_setF_other _ _ _ _ ha.1]

theorem frameLevels_rd (rssi mer foff : Int) (ber ts : Nat) {a : Nat}
    (ha : a < ENSs_LVL n ∨ ENSs_QTS_HI n < a ∨ a = ENSs_EID n) : (frameLevels n rssi mer foff ber ts s).rd a = s.rd a := by
  have hlvl : ENSs_LVL n = 0x20014 + 0x40 * n := rfl
  have hfoff : ENSs_FOFF n = 0x20018 + 0x40 * n := rfl
  have hfic : ENSs_FIC n = 0x2001c + 0x40 * n := rfl
  have heid : ENSs_EID n = 0x20020 + 0x40 * n := rfl
  have hlo : ENSs_QTS_LO n = 0x20024 + 0x40 * n := rfl
  have hhi : ENSs_QTS_HI n = 0x20028 + 0x40 * n := rfl
  unfold frameLevels State.setI
  rw [rd_set64_other _ _ _ _ _ (by omega) (by omega), rd_setF_other _ _ _ _ (by simp only [ENSs_FIC_FICBER]; omega),
    rd_setF_other _ _ _ _ (by simp only [ENSs_FOFF_FOFF]; omega), rd_setF_other _ _ _ _ (by simp only [ENSs_LVL_MER]; omega),
    rd_setF_other _ _ _ _ (by simp only [ENSs_LVL_RSSI]; omega)]

/-- The stamp, the bit error ratio and the MER read back. -/
theorem frameLevels_shows (rssi foff : Int) (ts : Nat) {mer : Int} {ber : Nat} (hber : ber < 65536) (hlo : -32768 ≤ mer)
    (hhi : mer < 32768) :
    (frameLevels n rssi mer foff ber ts s).get64 (ENSs_QTS_LO n) (ENSs_QTS_HI n) = ts % 2 ^ 64 ∧
      (frameLevels n rssi mer foff ber ts s).getF (ENSs_FIC_FICBER n) = ber ∧
      (frameLevels n rssi mer foff ber ts s).getI (ENSs_LVL_MER n) = mer := by
  have hpast {f : Fld} (hf : f.reg < ENSs_QTS_LO n) (x : State) :
      (x.set64 (ENSs_QTS_LO n) (ENSs_QTS_HI n) ts).getF f = x.getF f :=
    getF_of_rd (rd_set64_other _ _ _ _ _ (by omega) (by rw [ENSs_QTS_LO] at hf; rw [ENSs_QTS_HI]; omega))
  have hfic : (ENSs_LVL_MER n).reg ≠ (ENSs_FIC_FICBER n).reg := by simp [ENSs_LVL_MER, ENSs_LVL, ENSs_FIC_FICBER, ENSs_FIC]
  have hfoff : (ENSs_LVL_MER n).reg ≠ (ENSs_FOFF_FOFF n).reg := by simp [ENSs_LVL_MER, ENSs_LVL, ENSs_FOFF_FOFF, ENSs_FOFF]
  unfold frameLevels
  refine ⟨get64_set64 _ _ (by simp [ENSs_QTS_LO, ENSs_QTS_HI]), ?_, ?_⟩
  · rw [hpast (by simp [ENSs_FIC_FICBER, ENSs_FIC, ENSs_QTS_LO])]
    exact getF_setF_fits _ _ _ (by simp [ENSs_FIC_FICBER]) (by simpa [ENSs_FIC_FICBER] using hber)
  · rw [State.getI, hpast (by simp [ENSs_LVL_MER, ENSs_LVL, ENSs_QTS_LO]), getF_setF_reg _ _ _ _ hfic, State.setI,
      getF_setF_reg _ _ _ _ hfoff, ← State.getI]
    exact getI_setI_fits _ _ (by simp [ENSs_LVL_MER]) (by simpa [ENSs_LVL_MER] using hlo) (by simpa [ENSs_LVL_MER] using hhi)

theorem frameLevels_slots (rssi mer foff : Int) (ber ts : Nat) : (frameLevels n rssi mer foff ber ts s).slots = s.slots := by
  unfold frameLevels
  rw [set64_slots, setF_slots, setI_slots, setI_slots, setI_slots]

end

end Sys2Proof.Machine
end

section
/-! SUPPORT. A transmission frame, the record of a sub-channel and a new organisation (R233 to R237, R243), and the
statement on ensemble slots. -/

namespace Sys2Proof.Machine

/-! ## A frame -/

section
variable {s : State} {n : Nat}

/-- A locked slot has begun to receive. -/
theorem two_le_of_slotLocked (h : s.slotLocked n = true) : 2 ≤ s.slotState n := by
  simp only [State.slotLocked, Bool.or_eq_true, Bool.and_eq_true, beq_iff_eq] at h
  omega

theorem clampInt_mem {lo hi : Int} (h : lo ≤ hi) (x : Int) : lo ≤ clampInt lo hi x ∧ clampInt lo hi x ≤ hi := by
  unfold clampInt
  omega

/-- A frame's erasures are counted, and its intervals judged (R233). -/
theorem eraseNote_counts (n ts k : Nat) (s : State) :
    (eraseNote n ts (s.bumpBy ⟨ENSs_ERASE n, 31, 0⟩ k)).getF ⟨ENSs_ERASE n, 31, 0⟩ =
      min (s.getF ⟨ENSs_ERASE n, 31, 0⟩ + k) 4294967295 := by
  rw [eraseNote, setSlot_getF]
  exact getF_bumpBy_same _ _ _ (by simp)

section
variable {eid cif : Nat} {f : Sys2Proof.Frame} (hlocked : s.slotLocked n = true) (hfig : fig00Read f = some (eid, cif))
include hlocked hfig

/-- A frame of a LOCKED slot whose FIG 0/0 is read: STAT and EID show it, it takes its place on the slot's timeline (state
x), its FIBs are received (state y), and what it measures shows before the decoders follow (R232 to R236, R239, R243). -/
theorem ensFrame_stages : ∃ x y rssi foff,
    (∀ a, 0x20000 ≤ a → a < 0x21000 →
      x.rd a = (frameId n eid cif (eraseNote n f.ts (s.bumpBy ⟨ENSs_ERASE n, 31, 0⟩ (s.frameErasures n f.ts)))).rd a) ∧
    (x.slot n).frames.head? = some (f.ts, cif) ∧ (f.org.isSome = true → (x.slot n).org = f.org) ∧ FibStep n x y ∧
    KeepsSlots (frameLevels n rssi (clampInt (-100) 400 (merOf (errorSums (s.slotSides n f.foff f.ts) f.foff f.ts))) foff
      (min 65535 f.ficBer) f.ts y) (ensFrame n f s) := by
  generalize hend : ensFrame n f s = t
  unfold ensFrame at hend
  extract_lets s0 c s1 s2 v s3 flags s3' s4 mer s5 s6 s7 s8 at hend
  rw [if_neg (by simp [hlocked])] at hend
  have hs0 : s0 = eraseNote n f.ts (s.bumpBy ⟨ENSs_ERASE n, 31, 0⟩ (s.frameErasures n f.ts)) :=
    if_pos (two_le_of_slotLocked hlocked)
  have hc : c = cif := by simp only [c, frameCif, hfig]
  have hs1 : s1 = ((s0.setF (ENSs_STAT_FIC_OK n) 1).setF (ENSs_EID_VALID n) 1).setF (ENSs_EID_EID n) eid := by
    simp only [s1, hfig]
  have hs2 : s2 = frameId n eid cif s0 := by
    have hok : s1.flag (ENSs_STAT_FIC_OK n) = true := by
      rw [hs1]
      exact flag_of_getF (b := true) (ficOk_shows n s0 eid)
    show (if s1.flag (ENSs_STAT_FIC_OK n) then s1.setF (ENSs_EID_CIF n) c else s1) = _
    rw [if_pos hok, hs1, hc]
    rfl
  have h3 : KeepsSlots s3 s3' := .ite ((KeepsArea.refl s3).forEach fun d _ x => decReconfig_keepsSlots d x) (.refl s3)
  have hslot : (slotNote n f.ts c s3').slot n =
      { s3'.slot n with frames := ((f.ts, c) :: (s3'.slot n).frames).take 32, dropNext := false } := slot_setSlot_same _ _ _
  refine ⟨slotNote n f.ts c s3', s4, s.slotRssi n f.ts, clampInt (-35000) 35000 f.foff, ?_, ?_, ?_, ?_, ?_⟩
  · intro a hlo hhi
    rw [← hs0, ← hs2]
    exact h3.rd a hlo hhi
  · rw [hslot, ← hc]
    rfl
  · intro horg
    have hs3 : (s3.slot n).org = (f.org <|> (s2.slot n).org) := congrArg Slot.org (slot_setSlot_same _ _ _)
    obtain ⟨l, hl⟩ := Option.isSome_iff_exists.mp horg
    rw [hslot, hl]
    exact (congrArg Slot.org (h3.slot n)).trans (hs3.trans (by rw [hl]; rfl))
  · exact .ite ((FibStep.refl _).setSlot { (slotNote n f.ts c s3').slot n with dropNext := true } rfl rfl)
      (fibSteps_step _ _ _ _ _ _ _)
  · have h8 : KeepsSlots s7 s8 := by
      unfold s8
      split
      · exact (KeepsArea.refl s7).forEach fun d _ x => (KeepsArea.refl x).setF slotPart (DECd_RATE_RATE d) _
          (.inr (by simp only [DECd_RATE_RATE, DECd_RATE]; omega))
      · exact .refl s7
    rw [← hend]
    exact (h8.trans (decShowOn_keepsSlots n s8)).trans (slotPart.emitRec _ _)

/-- What its registers show, and its place on the slot's timeline. -/
theorem ensFrame_shows (hn : n < 48) (heid : eid < 65536) (hcif : cif < 5000) :
    (ensFrame n f s).getF (ENSs_STAT_FIC_OK n) = 1 ∧ (ensFrame n f s).getF (ENSs_EID_EID n) = eid ∧
      (ensFrame n f s).getF (ENSs_EID_CIF n) = cif ∧
      (ensFrame n f s).get64 (ENSs_QTS_LO n) (ENSs_QTS_HI n) = f.ts % 2 ^ 64 ∧
      (ensFrame n f s).getF (ENSs_FIC_FICBER n) = min 65535 f.ficBer ∧
      (ensFrame n f s).getI (ENSs_LVL_MER n) =
        clampInt (-100) 400 (merOf (errorSums (s.slotSides n f.foff f.ts) f.foff f.ts)) ∧
      (ensFrame n f s).getF ⟨ENSs_ERASE n, 31, 0⟩ =
        min (s.getF ⟨ENSs_ERASE n, 31, 0⟩ + s.frameErasures n f.ts) 4294967295 ∧
      ((ensFrame n f s).slot n).frames.head? = some (f.ts, cif) ∧
      (f.org.isSome = true → ((ensFrame n f s).slot n).org = f.org) := by
  obtain ⟨x, y, rssi, foff, hid, hframes, horg, hfibs, hend⟩ := ensFrame_stages hlocked hfig
  generalize merOf (errorSums (s.slotSides n f.foff f.ts) f.foff f.ts) = mer at *
  obtain ⟨hlo, hhi⟩ := clampInt_mem (lo := -100) (hi := 400) (by decide) mer
  obtain ⟨hts, hber, hmer⟩ := frameLevels_shows n y rssi foff f.ts (mer := clampInt (-100) 400 mer)
    (ber := min 65535 f.ficBer) (by omega) (by omega) (by omega)
  have herase := eraseNote_counts n f.ts (s.frameErasures n f.ts) s
  generalize eraseNote n f.ts (s.bumpBy ⟨ENSs_ERASE n, 31, 0⟩ (s.frameErasures n f.ts)) = s0 at *
  obtain ⟨hok, heidShown, hcifShown⟩ := frameId_shows n s0 heid hcif
  have hslot : (ensFrame n f s).slot n = y.slot n :=
    (hend.slot n).trans (congrArg (sget slotNone · n) (frameLevels_slots n y _ _ _ _ _))
  have hreg {g : Fld} (hg : g.reg = ENSs_STAT n ∨ g.reg = ENSs_EID n ∨ g.reg = ENSs_ERASE n) :
      (ensFrame n f s).getF g = (frameId n eid cif s0).getF g := by
    have hstat : ENSs_STAT n = 0x20010 + 0x40 * n := rfl
    have heid : ENSs_EID n = 0x20020 + 0x40 * n := rfl
    have herase : ENSs_ERASE n = 0x2003c + 0x40 * n := rfl
    have hlvl : ENSs_LVL n = 0x20014 + 0x40 * n := rfl
    have hfic : ENSs_FIC n = 0x2001c + 0x40 * n := rfl
    have hqts : ENSs_QTS_HI n = 0x20028 + 0x40 * n := rfl
    have hcnt : ENSs_CNT n = 0x2002c + 0x40 * n := rfl
    have hfib : ENSs_FIBCNT n = 0x20030 + 0x40 * n := rfl
    refine getF_of_rd ?_
    rw [hend.rd _ (by omega) (by omega), frameLevels_rd n y _ _ _ _ _ (by omega),
      hfibs.rd _ (by omega) (by omega) (by omega) (by omega) (by omega), hid _ (by omega) (by omega)]
  refine ⟨(hreg (.inl rfl)).trans hok, (hreg (.inr (.inl rfl))).trans heidShown, (hreg (.inr (.inl rfl))).trans hcifShown,
    ?_, ?_, ?_, ?_, ?_, fun hsome => ?_⟩
  · rw [State.get64, hend.rd _ (by rw [ENSs_QTS_LO]; omega) (by rw [ENSs_QTS_LO]; omega),
      hend.rd _ (by rw [ENSs_QTS_HI]; omega) (by rw [ENSs_QTS_HI]; omega), ← State.get64, hts]
  · rw [hend.getF (by simp only [ENSs_FIC_FICBER, ENSs_FIC]; omega), hber]
  · rw [State.getI, hend.getF (by simp only [ENSs_LVL_MER, ENSs_LVL]; omega), ← State.getI, hmer]
  · rw [hreg (.inr (.inr rfl)), getF_of_rd (frameId_rd n s0 eid cif (by simp [ENSs_ERASE, ENSs_STAT, ENSs_EID])), herase]
  · rw [hslot, hfibs.frames, hframes]
  · rw [hslot, hfibs.org, horg hsome]

theorem ensFrame_received (hn : n < 48) (hreset : s.pwr.inReset = false) (heid : eid < 65536) (hcif : cif < 5000) :
    Gives (.ensFrame n f) s fun t =>
      t.getF (ENSs_STAT_FIC_OK n) = 1 ∧ t.getF (ENSs_EID_EID n) = eid ∧ t.getF (ENSs_EID_CIF n) = cif ∧
        t.get64 (ENSs_QTS_LO n) (ENSs_QTS_HI n) = f.ts % 2 ^ 64 ∧ t.getF (ENSs_FIC_FICBER n) = min 65535 f.ficBer ∧
        t.getI (ENSs_LVL_MER n) = clampInt (-100) 400 (merOf (errorSums (s.slotSides n f.foff f.ts) f.foff f.ts)) ∧
        t.getF ⟨ENSs_ERASE n, 31, 0⟩ = min (s.getF ⟨ENSs_ERASE n, 31, 0⟩ + s.frameErasures n f.ts) 4294967295 ∧
        (t.slot n).frames.head? = some (f.ts, cif) ∧ (f.org.isSome = true → (t.slot n).org = f.org) := by
  have hexec : exec (.ensFrame n f) s = .next (ensFrame n f s) := by
    show execEnsFrame n f s = _
    rw [execEnsFrame, hreset, if_pos (by simp [hn])]
  exact ⟨_, hexec, ensFrame_shows hlocked hfig hn heid hcif⟩

end

/-! ## Records of sub-channels -/

/-- From s to u nothing but decoders and records changes. -/
structure PadStep (s u : State) : Prop where
  eq : u = { s with decs := u.decs, recs := u.recs }

theorem PadStep.trans {s u v : State} (h : PadStep s u) (hv : PadStep u v) : PadStep s v :=
  ⟨hv.eq.trans (congrArg (fun x : State => { x with decs := v.decs, recs := v.recs }) h.eq :)⟩

/-- PAD is held by its decoder, and a label is a record (R229). -/
theorem decPad_step (n sub cif ts flags : Nat) (bytes : List Nat) (d : Nat) (s : State) :
    PadStep s (decPad n sub cif ts flags bytes d s) := by
  unfold decPad
  split
  · exact ⟨rfl⟩
  · dsimp only
    split
    · exact ⟨rfl⟩
    · exact ⟨rfl⟩

/-- A record of a source that contributes reaches the Casrum side data where its type is asked for (R345). -/
theorem emitRec_side {r : Rec} (hside : s.flag NET_CAS_CTL_SIDE = true) (htype : 1 ≤ r.type)
    (hasked : (s.getF NET_CAS_CTL_TYPES).testBit (r.type - 1) = true) : (0, s.now, r) ∈ (emitRec r s).recs := by
  have hgo : (true && s.flag NET_CAS_CTL_SIDE && decide (1 ≤ r.type) &&
      (s.getF NET_CAS_CTL_TYPES).testBit (r.type - 1)) = true := by simp [hside, htype, hasked]
  unfold emitRec emitRecIf
  dsimp only
  rw [if_pos hgo]
  simp

/-- The first record at a CIF of a sub-channel that the mask selects and the organisation has goes to the Casrum side data
(R237, R345). -/
theorem subchRecord_emits {sub cif f : Nat} {bytes : List Nat} (hn : n < 48) (hsub : sub < 64) (hcif : cif < 5000)
    (hframe : s.frameOf n cif = some f) (hnew : ((s.slot n).cif != cif) = true) (hlocked : s.slotLocked n = true)
    (hmask : (s.get64 (ENSs_SUBOUT_LO n) (ENSs_SUBOUT_HI n)).testBit sub = true)
    (horg : ((s.slot n).org.getD []).any (fun c => c.id == sub) = true) (hlen : bytes.length ≤ 6912)
    (hkept : s.abandonedIn 2 n (s.cifInstant n f (cif % 4)) (s.cifInstant n f (cif % 4) + frameTicks / 4 - 1) = false)
    (hside : s.flag NET_CAS_CTL_SIDE = true) (hasked : (s.getF NET_CAS_CTL_TYPES).testBit 4 = true) :
    Gives (.subchRecord n sub cif bytes) s fun t =>
      (t.slot n).cif = cif ∧ (t.recs.any fun x => x.1 == 0 && x.2.2.type == 5 && x.2.2.bytes ==
        leNat 8 (s.cifInstant n f (cif % 4)) ++
          leNat 2 (s.logicalFlags n f (cif % 4) 1 ||| (if (s.slot n).dropNext then 128 else 0)) ++ [n, sub] ++ leNat 2 cif ++
            leNat 2 bytes.length ++ pad8 bytes) = true := by
  have hexec : exec (.subchRecord n sub cif bytes) s = .next (subchRecord n sub cif bytes s) := by
    show execSubchRecord n sub cif bytes s = _
    rw [execSubchRecord, if_pos (by simp [hn, hsub, hcif])]
  refine ⟨_, hexec, ?_⟩
  unfold subchRecord
  rw [hframe]
  dsimp only
  generalize s.cifInstant n f (cif % 4) = ts at *
  generalize s.logicalFlags n f (cif % 4) 1 ||| (if (s.slot n).dropNext then 128 else 0) = flags
  have hpad : PadStep s (forEach (s.decsOn n) (decPad n sub cif ts flags bytes) s) :=
    forEach_rel (fun _ => ⟨rfl⟩) .trans (fun d _ x => decPad_step n sub cif ts flags bytes d x) s
  generalize forEach (s.decsOn n) (decPad n sub cif ts flags bytes) s = u at *
  have hregs : u.regs = s.regs := (congrArg State.regs hpad.eq :)
  have hslots : KeepsSlots s u := ⟨fun a _ _ => rd_of_regs hregs a, (congrArg State.slots hpad.eq :)⟩
  have hlost : u.abandonedIn 2 n ts (ts + frameTicks / 4 - 1) = false :=
    (congrArg (fun x : State => x.abandonedIn 2 n ts (ts + frameTicks / 4 - 1)) hpad.eq :).trans hkept
  have hget : u.get64 (ENSs_SUBOUT_LO n) (ENSs_SUBOUT_HI n) = s.get64 (ENSs_SUBOUT_LO n) (ENSs_SUBOUT_HI n) := by
    rw [State.get64, State.get64, rd_of_regs hregs, rd_of_regs hregs]
  rw [hnew, if_pos rfl, hget, hslots.slotLocked (by omega), if_pos (by simp [hlocked, hmask, horg, hlen]), hlost,
    if_neg (by decide), slot_setSlot_same]
  constructor
  · rw [(slotPart.emitRec _ _).slot, (slotPart.obsBlock _ _ _ _).slot, slot_setSlot_same]
  · have hread (x : Slot) (y : Slot) (g : Fld) :
        (obsBlock 3 n flags ((u.setSlot n x).setSlot n y)).getF g = s.getF g :=
      (getF_of_rd (obsCount_rd _ _ _)).trans (getF_of_rd (rd_of_regs hregs _))
    refine List.any_eq_true.mpr ⟨_, emitRec_side ?_ (by simp) ?_, by simp⟩
    · rw [State.flag, hread, ← State.flag, hside]
    · rw [hread]
      exact hasked

/-! ## A new organisation -/

/-- The organisation that is announced holds from its CIF on (R243). -/
theorem multiplexReconfig_holds {org : List SubCh} (hn : n < 48) (hlocked : s.slotLocked n = true) :
    Gives (.multiplexReconfig n org) s fun t => (t.slot n).org = some org := by
  have hexec : exec (.multiplexReconfig n org) s = .next (forEach ((s.setSlot n { s.slot n with org := some org }).decsOn n)
      decReconfig (s.setSlot n { s.slot n with org := some org })) := by
    show execMultiplexReconfig n org s = _
    rw [execMultiplexReconfig, if_pos (by simp [hn, hlocked])]
  refine ⟨_, hexec, ?_⟩
  have hkeep {l : List Nat} {x : State} : KeepsSlots x (forEach l decReconfig x) :=
    (KeepsArea.refl x).forEach fun d _ y => decReconfig_keepsSlots d y
  dsimp only
  rw [hkeep.slot, slot_setSlot_same]

end

/-! ## The statement -/

/-- Settles O28: each clause is what its command leaves of a slot, shown above for the command. -/
theorem ensembleSlots : Obligations.EnsembleSlots := by
  unfold Obligations.EnsembleSlots
  have off {b : Bool} (h : (!b) = true) : b = false := (Bool.not_eq_true' _).mp h
  have slotOpen {s : State} {n : Nat} (hn : decide (n < 48) = true) (hens : decide (n < s.hdr.ens) = true) : SlotOpen s n :=
    ⟨of_decide_eq_true hn, of_decide_eq_true hens⟩
  have receiving {s : State} {n : Nat} (h : (s.slotState n == 2 || s.slotState n == 3) = true) :
      s.slotState n = 2 ∨ s.slotState n = 3 := by simpa using h
  exact ⟨fun s m n hr hn hens hstate => ensStart_pends (slotOpen hn hens) hr (eq_of_beq hstate),
    fun s m n hr hn hens hstate hfade hnone =>
      ensStop_asks (slotOpen hn hens) hr (receiving hstate) (off hfade) (eq_of_beq hnone),
    fun s m n hr hn hens hstate => ensStop_cancels (slotOpen hn hens) hr (eq_of_beq hstate),
    fun s m n hr hn hens hstate hnone => ensResync_asks (slotOpen hn hens) hr (receiving hstate) (eq_of_beq hnone),
    fun s n t hn hreset hgrid hdue hchange =>
      slotRelease_starts (of_decide_eq_true hn) (off hreset) (eq_of_beq hgrid) (of_decide_eq_true hdue) (eq_of_beq hchange),
    fun s n t hn hreset hgrid hdue hchange hlater hstate =>
      slotRelease_resyncs (of_decide_eq_true hn) (off hreset) (eq_of_beq hgrid) (of_decide_eq_true hdue) (eq_of_beq hchange)
        (Option.isNone_iff_eq_none.mp hlater) (bne_iff_ne.mp hstate),
    fun s n t hn hreset hgrid hdue hchange =>
      slotRelease_stops (of_decide_eq_true hn) (off hreset) (eq_of_beq hgrid) (of_decide_eq_true hdue) (eq_of_beq hchange),
    fun s n nulls prs foff err hn hstate hok => ensLock_locks (of_decide_eq_true hn) (eq_of_beq hstate) hok,
    fun s n nulls prs foff err hn hstate hok => ensLock_fails (off hok),
    fun s n t period hn hstate hlost => ensLost_searches (of_decide_eq_true hn) (eq_of_beq hstate) hlost,
    fun s n eid cif f hn hreset hlocked hfig heid hcif =>
      ensFrame_received hlocked (eq_of_beq hfig) (of_decide_eq_true hn) (off hreset) (of_decide_eq_true heid)
        (of_decide_eq_true hcif),
    fun s n sub cif f bytes hn hsub hcif hframe hnew hlocked hmask horg hlen hkept hside hasked =>
      subchRecord_emits (of_decide_eq_true hn) (of_decide_eq_true hsub) (of_decide_eq_true hcif) (eq_of_beq hframe) hnew
        hlocked hmask horg (of_decide_eq_true hlen) (off hkept) hside hasked,
    fun s n org hn hlocked => multiplexReconfig_holds (of_decide_eq_true hn) hlocked⟩

end Sys2Proof.Machine
end

section
/-! SUPPORT. FOL_CMD where the personality has it and Fennel is not active (R79, R83): a command about a programme past its
four is refused, which the statement on commands of a programme leaves out. -/

namespace Sys2Proof.Machine

section
variable {s : State}

/-- Where Fennel is not active, a command of the personality about a programme past its four is NOTLOCKED (R79, R83). -/
theorem folCmd_personality_refused {w : Nat} (hfeat : s.feat 8 = false) (hpast : 4 ≤ bitsOf w 7 0) :
    folCmd .personality w s = refuse SYS_REFUSE codeNotLocked s := by
  unfold folCmd folGuard
  dsimp only
  rw [hfeat, decide_eq_true hpast, if_pos (by decide)]

/-- So is its START of programme 4, which stays in its state. -/
theorem folStart_personality_stays (hr : s.reaches .personality FOL_CMD = true) (hfeat : s.feat 8 = false) :
    Gives (.folStart .personality 4) s fun t => t.folState 4 = s.folState 4 := by
  have hwithin := traceRegWrite_within .personality FOL_CMD (folWord 1 0 4) s
  have hexec : exec (.folStart .personality 4) s =
      .next (refuse SYS_REFUSE codeNotLocked (traceRegWrite .personality FOL_CMD (folWord 1 0 4) s)) := by
    show execFolStart .personality 4 s = _
    rw [execFolStart, if_pos (by decide), gated_reaches _ _ _ _ _ hr,
      folCmd_personality_refused ((traced_feat hwithin (by decide)).trans hfeat) (by decide)]
  refine ⟨_, hexec, ?_⟩
  exact (getF_of_rd (rd_refuse_other _ _ _ _ (by decide))).trans (hwithin.getF_below_obs (by decide))

end

/-- Refutes O41: the clause on START holds of every master that reaches FOL_CMD, and in KT-440 mode without Fennel the
personality reaches it for programmes 0 to 3 alone (R83): its START of programme 4 is refused. -/
theorem not_fennelCommands : ¬ Obligations.FennelCommands := by
  unfold Obligations.FennelCommands
  rintro ⟨hstart, -⟩
  let s : State :=
    { regs := [(SYS_BOOT, 0x80000000), (FEAT_ACTIVE 0, 0x20000), (FOLp_ID 4, 0xC201)]
      pwr := { inReset := false, railsOk := true, porDone := true }
      boot := { bs := some { progs := 5 } } }
  have hreaches : s.reaches .personality FOL_CMD = true := by decide +kernel
  obtain ⟨t, hexec, ⟨hpending, -⟩, -⟩ := hstart s .personality 4 hreaches rfl rfl (by decide +kernel)
    (by decide +kernel) (by decide +kernel)
  obtain ⟨u, hexec', hstays⟩ := folStart_personality_stays hreaches (by decide +kernel)
  obtain rfl : t = u := Host.Outcome.next.inj (hexec.symm.trans hexec')
  have hstopped : s.folState 4 = 0 := by decide +kernel
  exact absurd (hpending.symm.trans (hstays.trans hstopped)) (by decide)

end Sys2Proof.Machine
end

section
/-! SUPPORT. What Fennel's registers follow (R277, R278): the display of a programme, of the named entry and of use writes
registers of its own and leaves every programme, and so do events. -/

namespace Sys2Proof.Machine

/-! ## Areas -/

/-- The registers that the display of a programme writes: STAT to XF. -/
abbrev progArea (p : Nat) : List (Nat × Nat) := [(FOLp_STAT p, FOLp_LASTSW_LO p)]

/-- The registers that show the named entry and use: CINFO0 to USE. -/
abbrev infoArea : List (Nat × Nat) := [(FOL_CINFO0, FOL_USE + 4)]

/-- What the display of programme p writes. -/
abbrev showAreas (p : Nat) : List (Nat × Nat) := [(FOLp_STAT p, FOLp_LASTSW_LO p), (FOL_CINFO0, FOL_USE + 4)]

/-- The block FOL. -/
abbrev folArea : List (Nat × Nat) := [(0x28000, 0x30000)]

/-- The block FOL and the areas of events, in the order in which the statements name them. -/
abbrev folEventAreas : List (Nat × Nat) := [(0x28000, 0x30000), (0x1000, 0x2000), (0x30000, 0x34000), (0x68000, 0x70000)]

theorem Covers.folArea_showAreas {p : Nat} (hp : p < 256) : Covers folArea (showAreas p) := by
  have hstat : FOLp_STAT p = 0x28014 + 0x40 * p := rfl
  have hlast : FOLp_LASTSW_LO p = 0x2802c + 0x40 * p := rfl
  exact List.forall_mem_cons.mpr ⟨⟨_, .head _, by omega, by omega⟩,
    List.forall_mem_singleton.mpr ⟨_, .head _, by decide, by decide⟩⟩

theorem Covers.folEventAreas_folArea : Covers folEventAreas folArea := by decide

theorem Covers.folEventAreas_eventAreas : Covers folEventAreas eventAreas := by decide

section
variable {s u : State} {p : Nat}

/-- A write of a register that the display of programme p covers. -/
theorem Within.shown (h : Within (progArea p) s u) {a : Nat} (w : Word)
    (ha : FOLp_STAT p ≤ a ∧ a < FOLp_LASTSW_LO p := by
      exact ⟨Nat.add_le_add_right (by decide) _, Nat.add_lt_add_right (by decide) _⟩) :
    Within (progArea p) s (u.wr a w) := h.wr w ⟨_, .head _, ha⟩

/-- A write of a field of such a register. -/
theorem Within.shownF (h : Within (progArea p) s u) (f : Fld) (n : Nat)
    (hf : FOLp_STAT p ≤ f.reg ∧ f.reg < FOLp_LASTSW_LO p := by
      exact ⟨Nat.add_le_add_right (by decide) _, Nat.add_lt_add_right (by decide) _⟩) :
    Within (progArea p) s (u.setF f n) := h.shown _ hf

/-- A write among CINFO0 to USE. -/
theorem Within.shownInfo (h : Within infoArea s u) {a : Nat} (w : Word)
    (ha : FOL_CINFO0 ≤ a ∧ a < FOL_USE + 4 := by decide) : Within infoArea s (u.wr a w) := h.wr w ⟨_, .head _, ha⟩

/-- A write in the block FOL, of a register of a programme. -/
theorem Within.fol (h : Within folArea s u) {a : Nat} (w : Word) (ha : 0x28000 ≤ a ∧ a < 0x30000) :
    Within folArea s (u.wr a w) := h.wr w ⟨_, .head _, ha⟩

end

/-! ## The display -/

section
variable (p : Nat) (s : State)

theorem progShow_within : Within (progArea p) s (progShow p s) := by
  unfold progShow
  dsimp only
  exact (((((((((Within.refl _ s).shown _).shownF _ _).shownF _ _).shownF _ _).shownF _ _).shownF _ _).shownF _ _).shownF
    _ _).shownF _ _

theorem candShow_within : Within infoArea s (candShow s) := by
  have hinfo (w0 w1 w2 w3 : Word) :
      Within infoArea s ((((s.wr FOL_CINFO0 w0).wr FOL_CINFO1 w1).wr FOL_CINFO2 w2).wr FOL_CINFO3 w3) :=
    ((((Within.refl _ s).shownInfo _).shownInfo _).shownInfo _).shownInfo _
  unfold candShow
  dsimp only
  split <;> split <;> exact (hinfo _ _ _ _).shownInfo _

theorem useShow_within : Within infoArea s (useShow s) := by
  unfold useShow ownedShow poolShow
  exact (((Within.refl _ s).shownInfo _ (a := FOL_USE)).shownInfo _ (a := FOL_USE)).shownInfo _ (a := FOL_USE)

/-- After a programme's display come those of the named entry and of use. -/
theorem folShow_info : Within infoArea (progShow p (idleRefresh s)) (folShow p s) :=
  (candShow_within _).step (useShow_within _) fun q hq => ⟨q, hq, le_rfl, le_rfl⟩

theorem folShow_within : Within (showAreas p) s (folShow p s) := by
  have hidle : Within (showAreas p) s (idleRefresh s) := (Within.refl _ s).of_regs rfl
  have hprog := hidle.step (progShow_within p _) (List.forall_mem_singleton.mpr ⟨_, .head _, le_rfl, le_rfl⟩)
  exact hprog.step (folShow_info p s) (List.forall_mem_singleton.mpr ⟨_, .tail _ (.head _), le_rfl, le_rfl⟩)

theorem folShow_within_fol {p : Nat} (hp : p < 256) (s : State) : Within folArea s (folShow p s) :=
  (folShow_within p s).mono (.folArea_showAreas hp)

/-- The display leaves the kind of the last switch beside the rest of its fade. -/
theorem progShow_kind : (progShow p s).getF (FOLp_XF_KIND p) = s.getF (FOLp_XF_KIND p) := by
  unfold progShow State.setI State.setB
  dsimp only
  rw [FOLp_XF_REMAIN, FOLp_XF_KIND, getF_setF_beside _ _ _ _ _ _ _ (by decide)]
  iterate 7 rw [getF_setF_reg _ _ _ _ (by
    simp [FOLp_XF, FOLp_GAIN_GIN, FOLp_GAIN_GACT, FOLp_GAIN, FOLp_OFFS_A, FOLp_OFFS, FOLp_SCORE_BEST, FOLp_SCORE_ACT,
      FOLp_SCORE, FOLp_STAT_ACTIVE, FOLp_STAT_XFADE, FOLp_STAT])]
  exact getF_wr_other _ _ (by simp [FOLp_XF, FOLp_SRC])

theorem folShow_kind {p : Nat} (hp : p < 256) (s : State) : (folShow p s).getF (FOLp_XF_KIND p) = s.getF (FOLp_XF_KIND p) := by
  have hinfo : (FOLp_XF_KIND p).reg < FOL_CINFO0 := by
    show 0x28028 + 0x40 * p < 0x2c014
    omega
  exact ((folShow_info p s).getF _ (List.forall_mem_singleton.mpr (.inl hinfo))).trans (progShow_kind p _)

/-- The display leaves the last switch point and the counts of a programme. -/
theorem folShow_getF {p : Nat} (hp : p < 256) (s : State) {f : Fld}
    (hf : FOLp_LASTSW_LO p ≤ f.reg ∧ f.reg < FOLp_CTL (p + 1)) :
    (folShow p s).getF f = s.getF f := by
  have hinfo : f.reg < FOL_CINFO0 := by
    have hnext : FOLp_CTL (p + 1) = 0x28000 + 0x40 * (p + 1) := rfl
    have hfirst : FOL_CINFO0 = 0x2c014 := rfl
    omega
  exact (folShow_within p s).getF f (List.forall_mem_cons.mpr ⟨.inr hf.1, List.forall_mem_singleton.mpr (.inl hinfo)⟩)

/-! ## Programmes -/

theorem progShow_fol : (progShow p s).fol = s.fol := by
  unfold progShow
  simp only [setF_fol, setI_fol, setB_fol, wr_fol]

theorem candShow_fol : (candShow s).fol = s.fol := by
  unfold candShow
  dsimp only
  split <;> split <;> simp only [wr_fol]

theorem useShow_fol : (useShow s).fol = s.fol := by
  unfold useShow ownedShow poolShow
  simp only [setF_fol]

/-- The display leaves every programme beside its registers. -/
@[simp] theorem folShow_prog (q : Nat) : (folShow p s).prog q = s.prog q := by
  unfold folShow State.prog
  rw [useShow_fol, candShow_fol, progShow_fol]
  rfl

theorem EventStep.fol {s u : State} (h : EventStep s u) : u.fol = s.fol := (congrArg State.fol h.eq :)

/-- So does an event. -/
@[simp] theorem raise_prog (e i q : Nat) : (raise e i s).prog q = s.prog q :=
  congrArg (fun f : Fennel => sget progNone f.progs q) (raise_step e i s).fol

end

end Sys2Proof.Machine
end

section
/-! SUPPORT. The switches that Fennel decides (R262 to R264, R269, R276), and the end of a fade. -/

namespace Sys2Proof.Machine

/-! ## A switch is decided -/

/-- A switch of a kind of programme p is decided: the programme is v from now on, the switch point sw and the kind are
shown, the count f steps, and FOL_SWITCH is raised. -/
def switchDecided (p kind sw : Nat) (f : Fld) (v : Prog) (s : State) : State :=
  folShow p (raise evFolSwitch p
    ((((s.setProg p v).set64 (FOLp_LASTSW_LO p) (FOLp_LASTSW_HI p) sw).setF (FOLp_XF_KIND p) kind).bump f))

/-- What every decided switch leaves (R262 to R264): it is counted and its kind is shown, and the active source and the
programme's time are as they were. -/
structure SwitchShown (p kind : Nat) (f : Fld) (s t : State) : Prop where
  counted : Counted f s t
  kind : t.getF (FOLp_XF_KIND p) = kind
  active : (t.prog p).active = (s.prog p).active
  nextTs : (t.prog p).nextTs = (s.prog p).nextTs
  within : Within folEventAreas s t

/-- A programme for which a fade of n samples from tx on to entry b is decided (R269). -/
def Prog.fading (v : Prog) (b kind n tx : Nat) : Prog :=
  let c := (v.cand b).getD { kind := 0, num := 0, origin := 0 }
  { v with cands := candPut b { c with a := v.aOf b c } v.cands, fade := some ⟨kind, tx, n, b, false, n, none⟩
           lastSw := some (tx + n * 81920) }

section
variable {s : State} {p kind sw : Nat} {f : Fld} {v : Prog}

@[simp] theorem switchDecided_prog : (switchDecided p kind sw f v s).prog p = v := by
  unfold switchDecided
  rw [folShow_prog, raise_prog, State.prog, bump_fol, setF_fol, set64_fol]
  exact prog_setProg_same s p v

/-- A switch that leaves the active source and the programme's time is counted and shown. -/
theorem switchDecided_shown (hp : p < 256) (hkind : kind < 4) (hf : f.reg = FOLp_CNT0 p ∨ f.reg = FOLp_CNT1 p)
    (hbits : f.lo ≤ f.hi ∧ f.hi < 32) (hactive : v.active = (s.prog p).active) (hnext : v.nextTs = (s.prog p).nextTs) :
    SwitchShown p kind f s (switchDecided p kind sw f v s) := by
  have hreg : f.reg = 0x28034 + 0x40 * p ∨ f.reg = 0x28038 + 0x40 * p := hf
  have hlast : FOLp_LASTSW_LO p = 0x2802c + 0x40 * p ∧ FOLp_LASTSW_HI p = 0x28030 + 0x40 * p := ⟨rfl, rfl⟩
  have hxf : (FOLp_XF_KIND p).reg = 0x28028 + 0x40 * p := rfl
  have hend : FOLp_CTL (p + 1) = 0x28000 + 0x40 * (p + 1) := rfl
  have hevents (x : State) {g : Fld} (hg : 0x28000 ≤ g.reg ∧ g.reg < 0x30000) : (raise evFolSwitch p x).getF g = x.getF g :=
    getF_of_rd (raise_rd _ _ _ _ (by omega) (by omega) (by omega))
  refine ⟨?_, ?_, ?_, ?_, ?_⟩
  · have hkept : (((s.setProg p v).set64 (FOLp_LASTSW_LO p) (FOLp_LASTSW_HI p) sw).setF (FOLp_XF_KIND p) kind).getF f =
        s.getF f :=
      getF_of_rd ((rd_setF_other _ _ _ _ (by omega)).trans (rd_set64_other _ _ _ _ _ (by omega) (by omega)))
    have hcounted := (counted_bump _ f hbits.1 hbits.2).of_getF hkept
    rw [switchDecided, Counted, folShow_getF hp _ (by omega), hevents _ (by omega)]
    exact hcounted
  · rw [switchDecided, folShow_kind hp, hevents _ (by omega), getF_of_rd (rd_bump_other _ _ _ (by omega))]
    exact getF_setF_bits_fit _ _ _ _ _ (by decide) hkind
  · rw [switchDecided_prog, hactive]
  · rw [switchDecided_prog, hnext]
  · have hset : Within folArea s
        ((((s.setProg p v).set64 (FOLp_LASTSW_LO p) (FOLp_LASTSW_HI p) sw).setF (FOLp_XF_KIND p) kind).bump f) :=
      (((((Within.refl _ s).of_regs (setProg_regs s p v)).fol _ (by omega)).fol _ (by omega)).fol _ (by omega)).fol _ (by omega)
    exact (((Within.refl _ s).step hset .folEventAreas_folArea).step (raise_within _ _ _) .folEventAreas_eventAreas).step
      (folShow_within_fol hp _) .folEventAreas_folArea

/-- The start of a fade is counted and shown, and the fade stands (R269). -/
theorem fadeStart_fades {b n tx : Nat} (hp : p < 256) (hkind : kind < 4) :
    ((fadeStart p b kind n tx s).prog p).fade = some ⟨kind, tx, n, b, false, n, none⟩ ∧
      SwitchShown p kind (if kind = 1 then FOLp_CNT0_DISC p else FOLp_CNT0_FORCED p) s (fadeStart p b kind n tx s) := by
  have heq : fadeStart p b kind n tx s = switchDecided p kind (tx + n * 81920)
      (if kind = 1 then FOLp_CNT0_DISC p else FOLp_CNT0_FORCED p) ((s.prog p).fading b kind n tx) s := by
    unfold fadeStart
    split <;> rfl
  rw [heq, switchDecided_prog]
  refine ⟨rfl, switchDecided_shown hp hkind ?_ ?_ rfl rfl⟩
  · split <;> exact .inl rfl
  · split <;> exact ⟨by simp [FOLp_CNT0_DISC, FOLp_CNT0_FORCED], by simp [FOLp_CNT0_DISC, FOLp_CNT0_FORCED]⟩

/-- So is a hard switch, and its point stands (R264). -/
theorem hardStart_stands {b tb : Nat} {c : Cand} (hp : p < 256) :
    ((hardStart p b tb c s).prog p).hard =
        some (max (s.prog p).nextTs tb, b, ((s.prog p).mute.map (·.2)).getD (s.prog p).nextTs) ∧
      SwitchShown p 3 (FOLp_CNT1_HARD p) s (hardStart p b tb c s) := by
  have heq : ∃ v, hardStart p b tb c s = switchDecided p 3 (max (s.prog p).nextTs tb) (FOLp_CNT1_HARD p) v s ∧
      v.hard = some (max (s.prog p).nextTs tb, b, ((s.prog p).mute.map (·.2)).getD (s.prog p).nextTs) ∧
      v.active = (s.prog p).active ∧ v.nextTs = (s.prog p).nextTs := ⟨_, rfl, rfl, rfl, rfl⟩
  obtain ⟨v, heq, hhard, hactive, hnext⟩ := heq
  rw [heq, switchDecided_prog]
  exact ⟨hhard, switchDecided_shown hp (by decide) (.inr rfl) (by simp [FOLp_CNT1_HARD]) hactive hnext⟩

end

/-! ## The commands -/

section
variable {s : State} {p b u : Nat} {c : Cand} (hp : p < 256) (hfw : s.firmwareOn 1 = true)
  (hmay : s.mayDecide p (s.prog p) = true)

/-- Where a switch may be decided, the programme runs without a fade, a hard switch or a stop. -/
theorem mayDecide_iff {v : Prog} : s.mayDecide p v = true ↔
    ((s.folState p = 3 ∧ v.fade.isNone = true) ∧ v.hard.isNone = true) ∧ v.stopping.isNone = true := by
  simp only [State.mayDecide, Bool.and_eq_true, beq_iff_eq]

/-- Where no entry qualifies, DISCRETIONARY_SWITCH does nothing (R262). -/
theorem discretionarySwitch_rests (hbest : bestOf (s.discReady p (s.prog p)) (s.prog p).cands = none) :
    Gives (.discretionarySwitch p) s fun t => t = s := by
  have hexec : exec (.discretionarySwitch p) s = .next s := by
    show execDiscretionarySwitch p s = _
    unfold execDiscretionarySwitch
    dsimp only
    rw [hbest]
    split <;> rfl
  exact ⟨s, hexec, rfl⟩

include hp hfw hmay

/-- Before any switch, the best entry that qualifies is faded to over XFADE_MS from the next block on (R262). -/
theorem discretionarySwitch_fades (hlast : (s.prog p).lastSw.isNone = true)
    (hbest : bestOf (s.discReady p (s.prog p)) (s.prog p).cands = some (b, c)) :
    Gives (.discretionarySwitch p) s fun t =>
      (t.prog p).fade = some ⟨1, (s.prog p).nextTs, s.getF (FOLp_CTL_XFADE_MS p) * 48, b, false,
          s.getF (FOLp_CTL_XFADE_MS p) * 48, none⟩ ∧ SwitchShown p 1 (FOLp_CNT0_DISC p) s t := by
  obtain ⟨⟨⟨hrun, hfade⟩, hhard⟩, hstop⟩ := mayDecide_iff.mp hmay
  have hexec : exec (.discretionarySwitch p) s =
      .next (fadeStart p b 1 (s.getF (FOLp_CTL_XFADE_MS p) * 48) (s.prog p).nextTs s) := by
    show execDiscretionarySwitch p s = _
    unfold execDiscretionarySwitch
    dsimp only
    rw [if_pos (by simp [hp, hfw, hrun, hfade, hhard, hstop, Option.isNone_iff_eq_none.mp hlast]), hbest]
  exact ⟨_, hexec, fadeStart_fades hp (by decide)⟩

/-- The best ALIGNED entry is faded to, so that the fade ends at the unusable point where its start is not yet formed
(R263). -/
theorem forcedSwitch_fades (hsound : s.flag (FOLp_STAT_SILENT p) = false) (hbad : (s.prog p).badPoint = some u)
    (hbest : bestOf (s.alignedTake (s.prog p)) (s.prog p).cands = some (b, c)) :
    Gives (.forcedSwitch p) s fun t =>
      (t.prog p).fade =
          (if (s.prog p).nextTs ≤ (u - s.getF (FOLp_CTL_FXF_MS p) * Config.ticksPerMs) / 5242880 * 5242880 then
            some ⟨2, (u - s.getF (FOLp_CTL_FXF_MS p) * Config.ticksPerMs) / 5242880 * 5242880,
              (u - (u - s.getF (FOLp_CTL_FXF_MS p) * Config.ticksPerMs) / 5242880 * 5242880) / 81920, b, false,
              (u - (u - s.getF (FOLp_CTL_FXF_MS p) * Config.ticksPerMs) / 5242880 * 5242880) / 81920, none⟩
          else some ⟨2, (s.prog p).nextTs, s.getF (FOLp_CTL_FXF_MS p) * 48, b, false,
            s.getF (FOLp_CTL_FXF_MS p) * 48, none⟩) ∧
        SwitchShown p 2 (FOLp_CNT0_FORCED p) s t := by
  have hexec : exec (.forcedSwitch p) s = .next
      (if (s.prog p).nextTs ≤ (u - s.getF (FOLp_CTL_FXF_MS p) * Config.ticksPerMs) / 5242880 * 5242880 then
        fadeStart p b 2 ((u - (u - s.getF (FOLp_CTL_FXF_MS p) * Config.ticksPerMs) / 5242880 * 5242880) / 81920)
          ((u - s.getF (FOLp_CTL_FXF_MS p) * Config.ticksPerMs) / 5242880 * 5242880) s
      else fadeStart p b 2 (s.getF (FOLp_CTL_FXF_MS p) * 48) (s.prog p).nextTs s) := by
    show execForcedSwitch p s = _
    unfold execForcedSwitch
    dsimp only
    rw [hbad]
    dsimp only
    rw [if_pos (by simp [hp, hfw, hmay, hsound]), hbest]
    rfl
  refine ⟨_, hexec, ?_⟩
  dsimp only
  split <;> exact fadeStart_fades hp (by decide)

/-- From silence or with no entry ALIGNED, the best usable and eligible one is switched to at the unusable point, or at the
first block not yet formed (R264, R276). -/
theorem hardSwitch_stands (hbad : (s.prog p).badPoint = some u)
    (hnone : (s.flag (FOLp_STAT_SILENT p) || (bestOf (s.alignedTake (s.prog p)) (s.prog p).cands).isNone) = true)
    (hbest : bestOf (s.takeable (s.prog p)) (s.prog p).cands = some (b, c)) :
    Gives (.hardSwitch p) s fun t =>
      (t.prog p).hard = some (max (s.prog p).nextTs u, b, ((s.prog p).mute.map (·.2)).getD (s.prog p).nextTs) ∧
        SwitchShown p 3 (FOLp_CNT1_HARD p) s t := by
  have hexec : exec (.hardSwitch p) s = .next (hardStart p b u c s) := by
    show execHardSwitch p s = _
    unfold execHardSwitch
    dsimp only
    rw [hbad]
    dsimp only
    rw [if_pos (by rw [decide_eq_true hp, hfw, hmay, hnone]; decide), hbest]
  exact ⟨_, hexec, hardStart_stands hp⟩

end

/-! ## Entries leave -/

section
variable {s : State}

/-- A source's channel is one of the ring's 1,024 (R288). -/
theorem chanOf_lt {kind num c : Nat} (h : s.chanOf kind num = some c) : c < 1024 := by
  unfold State.chanOf at h
  split at h
  next q hq =>
    obtain ⟨c', hc', hin⟩ := List.mem_filterMap.mp (List.mem_of_find?_eq_some hq)
    split at hin
    · cases hin
      cases h
      exact lt_of_mem_touched hc'
    · cases hin
  · cases h

theorem chanFree_within (kind num : Nat) (s : State) : Within [(0x30000, 0x34000)] s (chanFree kind num s) := by
  unfold chanFree chanUse
  split
  next c hc =>
    have hlt := chanOf_lt hc
    have hch : MRW_ACH c = 0x33000 + 4 * c := rfl
    exact ((Within.refl _ s).wr _ ⟨_, .head _, by omega, by omega⟩).setF _ _ ⟨_, .head _, by decide, by decide⟩
  · exact .refl _ s

theorem chanFree_fol (kind num : Nat) (s : State) : (chanFree kind num s).fol = s.fol := by
  unfold chanFree chanUse
  split
  · rw [setF_fol, wr_fol]
  · rfl

/-- An entry that leaves takes nothing of its programme along. -/
theorem dropCand_prog (p i : Nat) (s : State) :
    (s.dropCand p i).prog p = { s.prog p with cands := (s.prog p).cands.filter fun q => q.1 != i } := by
  unfold State.dropCand
  dsimp only
  split
  · split
    · exact prog_setProg_same _ _ _
    · rw [State.prog, chanFree_fol]
      exact prog_setProg_same _ _ _
  · exact prog_setProg_same _ _ _

theorem dropCand_within (p i : Nat) (s : State) : Within [(0x30000, 0x34000)] s (s.dropCand p i) := by
  have hset (v : Prog) : Within [(0x30000, 0x34000)] s (s.setProg p v) := (Within.refl _ s).of_regs rfl
  unfold State.dropCand
  dsimp only
  split
  · split
    · exact hset _
    · exact (hset _).step (chanFree_within _ _ _) fun q hq => ⟨q, hq, le_rfl, le_rfl⟩
  · exact hset _

/-- From s to u programme p loses entries, and channels are freed. -/
structure EntriesLeft (p : Nat) (s u : State) : Prop where
  prog : ∃ l, u.prog p = { s.prog p with cands := l }
  within : Within [(0x30000, 0x34000)] s u

theorem EntriesLeft.trans {p : Nat} {s u v : State} (h : EntriesLeft p s u) (hv : EntriesLeft p u v) : EntriesLeft p s v := by
  obtain ⟨l, hl⟩ := h.prog
  obtain ⟨m, hm⟩ := hv.prog
  exact ⟨⟨m, by rw [hm, hl]⟩, h.within.step hv.within fun q hq => ⟨q, hq, le_rfl, le_rfl⟩⟩

theorem EntriesLeft.refl (p : Nat) (s : State) : EntriesLeft p s s := ⟨⟨_, rfl⟩, .refl _ s⟩

theorem dropReplaced_entries (p : Nat) (s : State) : EntriesLeft p s (dropReplaced p s) :=
  forEach_rel (.refl p) .trans (fun i _ x => ⟨⟨_, dropCand_prog p i x⟩, dropCand_within p i x⟩) s

end

/-- A programme whose fade is over: the survivor is its active source (R269). -/
def Prog.survived (v : Prog) (f : Fade) : Prog :=
  let act := if f.back then v.active else some f.inc
  { v with active := act, fade := none
           cands := v.cands.map fun r =>
             if act = some r.1 || v.active = some r.1 then (r.1, { r.2 with aligned := true, above := none })
             else (r.1, { r.2 with above := none }) }

/-- When a fade's last sample has been formed, its survivor is the active source (R269). -/
theorem xfadeEnd_survives {s : State} {p : Nat} {f : Fade} (hp : p < 256) (hfade : (s.prog p).fade = some f)
    (hleft : f.left = 0) :
    Gives (.xfadeEnd p) s fun t =>
      ((t.prog p).fade = none ∧ (t.prog p).active = (if f.back then (s.prog p).active else some f.inc)) ∧
        Within [(0x28000, 0x30000), (0x30000, 0x34000)] s t := by
  have hstat : (FOLp_STAT_DEFER p).reg = 0x28014 + 0x40 * p := rfl
  have hset : Within [(0x28000, 0x30000), (0x30000, 0x34000)] s
      ((s.setProg p ((s.prog p).survived f)).setF (FOLp_STAT_DEFER p) 0) :=
    ((Within.refl _ s).of_regs (setProg_regs s p _)).setF _ _ ⟨_, .head _, by omega, by omega⟩
  have hprog : ((s.setProg p ((s.prog p).survived f)).setF (FOLp_STAT_DEFER p) 0).prog p = (s.prog p).survived f := by
    rw [State.prog, setF_fol]
    exact prog_setProg_same s p _
  have hexec : exec (.xfadeEnd p) s = .next (folShow p (dropReplaced p
      ((s.setProg p ((s.prog p).survived f)).setF (FOLp_STAT_DEFER p) 0))) := by
    show execXfadeEnd p s = _
    rw [execXfadeEnd, hfade]
    dsimp only
    rw [if_pos (by simp [hp, hleft])]
    rfl
  refine ⟨_, hexec, ?_⟩
  generalize (s.setProg p ((s.prog p).survived f)).setF (FOLp_STAT_DEFER p) 0 = x at *
  have hentries := dropReplaced_entries p x
  obtain ⟨l, hl⟩ := hentries.prog
  rw [folShow_prog, hl, hprog]
  exact ⟨⟨rfl, rfl⟩, (hset.step hentries.within (by decide)).step (folShow_within_fol hp _) (by decide)⟩

/-! ## The statement on fades -/

/-- Settles O52: each clause is what its command leaves of the programme, shown above for the command. -/
theorem fennelFades : Obligations.FennelFades := by
  unfold Obligations.FennelFades
  refine ⟨fun s p b c hp hfw hmay hlast hbest => ?_, fun s p b u c hp hfw hmay hsound hbad hbest => ?_,
    fun s p b u c hp hfw hmay hbad hnone hbest => ?_, fun s p f hp hfade hleft hback => ?_,
    fun s p f hp hfade hleft hback => ?_⟩
  · obtain ⟨t, hexec, hfade, hshown⟩ := discretionarySwitch_fades (of_decide_eq_true hp) hfw hmay hlast (eq_of_beq hbest)
    exact ⟨t, hexec, ⟨hfade, hshown.counted, hshown.active, hshown.nextTs⟩, hshown.within⟩
  · obtain ⟨t, hexec, hfade, hshown⟩ := forcedSwitch_fades (of_decide_eq_true hp) hfw hmay ((Bool.not_eq_true' _).mp hsound)
      (eq_of_beq hbad) (eq_of_beq hbest)
    exact ⟨t, hexec, ⟨hfade, hshown.counted, hshown.active⟩, hshown.within⟩
  · obtain ⟨t, hexec, hhard, hshown⟩ := hardSwitch_stands (of_decide_eq_true hp) hfw hmay (eq_of_beq hbad) hnone
      (eq_of_beq hbest)
    exact ⟨t, hexec, ⟨hhard, hshown.counted, hshown.kind, hshown.active⟩, hshown.within⟩
  · have hend := xfadeEnd_survives (of_decide_eq_true hp) (eq_of_beq hfade) (eq_of_beq hleft)
    rwa [if_pos hback] at hend
  · have hend := xfadeEnd_survives (of_decide_eq_true hp) (eq_of_beq hfade) (eq_of_beq hleft)
    rwa [if_neg (by simpa using hback)] at hend

end Sys2Proof.Machine
end

section
/-! SUPPORT. Alignment and loudness (R265, R266, R268): what a measurement makes of a candidate, and what its judgement by
R250 leaves of it. -/

namespace Sys2Proof.Machine

/-! ## Entries of a candidate list -/

/-- A placed entry is the one found under its index. -/
theorem find?_candPut_same (i : Nat) (c : Cand) (l : List (Nat × Cand)) :
    ((candPut i c l).find? fun q => q.1 == i) = some (i, c) := by
  induction l with
  | nil => simp [candPut]
  | cons q t ih =>
    obtain ⟨j, d⟩ := q
    by_cases hlt : i < j
    · simp [candPut, hlt]
    · by_cases heq : i = j
      · simp [candPut, heq]
      · have hother : (j == i) = false := by simpa using Ne.symm heq
        rw [candPut, if_neg hlt, if_neg heq, List.find?_cons_of_neg (by simp [hother]), ih]

section
variable (p i : Nat) (c : Cand) (s : State)

theorem setCand_prog : (s.setCand p i c).prog p = { s.prog p with cands := candPut i c (s.prog p).cands } :=
  prog_setProg_same _ _ _

@[simp] theorem setCand_cand_same : ((s.setCand p i c).prog p).cand i = some c := by
  rw [setCand_prog, Prog.cand, find?_candPut_same]
  rfl

@[simp] theorem setCand_active : ((s.setCand p i c).prog p).active = (s.prog p).active := by rw [setCand_prog]

/-- What an entry placed anew and shown leaves (R277). -/
theorem setCand_shown {p : Nat} (hp : p < 256) :
    ((folShow p (s.setCand p i c)).prog p).cand i = some c ∧
      ((folShow p (s.setCand p i c)).prog p).active = (s.prog p).active ∧ Within folArea s (folShow p (s.setCand p i c)) := by
  rw [folShow_prog]
  exact ⟨setCand_cand_same _ _ _ _, setCand_active _ _ _ _,
    ((Within.refl folArea s).of_regs (setCand_regs s p i c)).step (folShow_within_fol hp _) (by decide)⟩

end

section
variable {s : State} {p i : Nat} {c : Cand}

/-- From s to u entry i, which was c, may have entered or left INELIG, and nothing else of it has changed. -/
structure EntryJudged (p i : Nat) (c : Cand) (s u : State) : Prop where
  cand : ∃ b, (u.prog p).cand i = some { c with inelig := b }
  active : (u.prog p).active = (s.prog p).active
  within : Within folEventAreas s u

/-- The judgement of an entry by R250 changes INELIG alone. -/
theorem ineligStep_judged (hp : p < 256) (hcand : (s.prog p).cand i = some c) :
    EntryJudged p i c s (ineligStep p i s) := by
  have hself : EntryJudged p i c s s := ⟨⟨c.inelig, hcand⟩, rfl, .refl _ s⟩
  have hplaced (b : Bool) : EntryJudged p i c s (s.setCand p i { c with inelig := b }) :=
    ⟨⟨b, setCand_cand_same _ _ _ _⟩, setCand_active _ _ _ _, (Within.refl _ s).of_regs (setCand_regs _ _ _ _)⟩
  unfold ineligStep
  rw [hcand]
  dsimp only
  split
  · split
    · exact hplaced false
    · exact hself
  split
  · exact hself
  · have hcount : (FOLp_CNT2_INELIG p).reg = 0x2803c + 0x40 * p := rfl
    obtain ⟨hnew, hactive, hwithin⟩ := hplaced true
    have hbump : ((s.setCand p i { c with inelig := true }).bump (FOLp_CNT2_INELIG p)).prog p =
        (s.setCand p i { c with inelig := true }).prog p := by rw [State.prog, bump_fol, ← State.prog]
    refine ⟨?_, ?_, ?_⟩
    · rw [raise_prog, hbump]
      exact hnew
    · rw [raise_prog, hbump]
      exact hactive
    · exact (hwithin.setF _ _ ⟨_, .head _, by omega, by omega⟩).step (raise_within _ _ _) .folEventAreas_eventAreas

/-- So it does of an entry placed anew, and the display follows. -/
theorem setCand_judged (c : Cand) (s : State) (i : Nat) (hp : p < 256) :
    EntryJudged p i c s (folShow p (ineligStep p i (s.setCand p i c))) := by
  obtain ⟨hcand, hactive, hwithin⟩ := ineligStep_judged hp (setCand_cand_same p i c s)
  have hset : Within folEventAreas s (s.setCand p i c) := (Within.refl _ s).of_regs (setCand_regs s p i c)
  refine ⟨?_, ?_, ?_⟩
  · rw [folShow_prog]
    exact hcand
  · rw [folShow_prog, hactive, setCand_active]
  · exact (hset.step hwithin (by decide)).step (folShow_within_fol hp _) .folEventAreas_folArea

end

/-! ## Measurements -/

/-- Entry c of programme p after its window from source instant u on (R265, R266): as it was while audio is missing, past
the window where it is gated, and otherwise after a step of the alignment. -/
def State.afterWindow (s : State) (p : Nat) (a c : Cand) (u : Nat) : Cand :=
  match s.measure p (s.prog p) a c u with
  | none => c
  | some none => { c with winAt := u + 7864320000 }
  | some (some (m, dl)) =>
    alignStep (s.prog p) (s.flag (FOLp_CTL_LOUD p)) (m.clear && decide (s.getF (FOLp_POL1_RHO_MIN p) ≤ m.rho)) m.d
      (dl.getD 0) m.rho { c with winAt := u + 7864320000 }

/-- Entry c of programme p after the 10 s of programme time from t on (R268). -/
def State.afterLoudness (s : State) (p : Nat) (a c : Cand) (t : Nat) : Cand :=
  match s.loudness (s.prog p) a c t with
  | none => c
  | some l => candLoud (s.prog p) l { c with loudAt := t + 39321600000 }

/-- Entry i is a usable source beside the active one, a, and u begins its next window (R265). -/
structure WindowOpen (s : State) (p i u : Nat) (c a : Cand) : Prop where
  lt : p < 256
  running : s.folState p = 3
  source : (s.prog p).active.bind (s.prog p).cand = some a
  inactive : ((s.prog p).active != some i) = true
  apart : ((s.prog p).incoming != some i) = true
  cand : (s.prog p).cand i = some c
  kind : (c.kind != 3) = true
  usable : c.bad.isNone = true
  next : s.windowOk p (s.prog p) a c u = true

section
variable {s : State} {p i u : Nat} {c a : Cand}

/-- ALIGN_MEASURE makes of an entry what its window gives, and leaves the active source (R265, R266). -/
theorem alignMeasure_judges (h : WindowOpen s p i u c a) :
    Gives (.alignMeasure p i u) s (EntryJudged p i (s.afterWindow p a c u) s) := by
  have hgo : (decide (p < 256) && decide (s.folState p = 3) && (s.prog p).active != some i && (s.prog p).incoming != some i &&
      c.kind != 3 && c.bad.isNone && s.windowOk p (s.prog p) a c u) = true := by
    rw [decide_eq_true h.lt, decide_eq_true h.running, h.inactive, h.apart, h.kind, h.usable, h.next]
    decide
  show ∃ t, execAlignMeasure p i u s = .next t ∧ _
  refine ⟨_, rfl, ?_⟩
  rw [h.cand, h.source]
  dsimp only
  rw [if_pos hgo]
  unfold State.afterWindow
  rcases s.measure p (s.prog p) a c u with _ | _ | ⟨m, dl⟩
  · exact ⟨⟨c.inelig, h.cand⟩, rfl, .refl _ s⟩
  · exact setCand_judged _ s i h.lt
  · exact setCand_judged _ s i h.lt

/-- A second valid offset within a sample of the one before aligns a candidate (R265). -/
theorem alignStep_aligns {v : Prog} {loud : Bool} {d dl x : Int} {rho : Nat} (hnew : c.aligned = false)
    (hlast : c.okLast = some x) (hnear : (d - x).natAbs ≤ 1) :
    (alignStep v loud true d dl rho c).aligned = true ∧ (alignStep v loud true d dl rho c).a = v.aActive + d ∧
      (alignStep v loud true d dl rho c).okLast = some d ∧ (alignStep v loud true d dl rho c).fails = 0 := by
  have hstep : alignStep v loud true d dl rho c = candAligned v loud d dl { c with rho := rho } := by
    unfold alignStep
    rw [hnew, hlast]
    dsimp only
    rw [if_neg (by decide), if_pos rfl, if_pos hnear]
  rw [hstep, candAligned]
  dsimp only
  split <;> exact ⟨rfl, rfl, rfl, rfl⟩

/-- The third failure in a row ends the alignment of an aligned candidate (R266). -/
theorem alignStep_ends {v : Prog} {loud : Bool} {d dl : Int} {rho : Nat} (hold : c.aligned = true) (hfails : c.fails = 2) :
    (alignStep v loud false d dl rho c).aligned = false ∧ (alignStep v loud false d dl rho c).okLast = none ∧
      (alignStep v loud false d dl rho c).fails = 0 := by
  have hstep : alignStep v loud false d dl rho c = { c with rho := rho, aligned := false, okLast := none, fails := 0 } := by
    unfold alignStep
    rw [hold, hfails]
    rfl
  rw [hstep]
  exact ⟨rfl, rfl, rfl⟩

/-- LOUDNESS_UPDATE makes of an ALIGNED entry what its 10 s give, and leaves the active source (R268). -/
theorem loudnessUpdate_levels {t : Nat} (hp : p < 256) (hloud : s.flag (FOLp_CTL_LOUD p) = true)
    (hsource : (s.prog p).active.bind (s.prog p).cand = some a) (hcand : (s.prog p).cand i = some c)
    (haligned : (s.prog p).candState i c = 2) (hdue : c.loudAt ≤ t) :
    Gives (.loudnessUpdate p i t) s fun x =>
      (x.prog p).cand i = some (s.afterLoudness p a c t) ∧ (x.prog p).active = (s.prog p).active ∧ Within folArea s x := by
  show ∃ x, execLoudnessUpdate p i t s = .next x ∧ _
  refine ⟨_, rfl, ?_⟩
  rw [hcand, hsource]
  dsimp only
  rw [if_pos (by simp [hp, hloud, haligned, hdue])]
  unfold State.afterLoudness
  cases s.loudness (s.prog p) a c t with
  | none => exact ⟨hcand, rfl, .refl _ s⟩
  | some l => exact setCand_shown _ _ _ hp

end

end Sys2Proof.Machine
end

section
/-! SUPPORT. The forming of programme blocks (R251, R252, R269 to R272): what precedes the mix, the parts of a block, and the
block that each of the statement's cases forms. -/

namespace Sys2Proof.Machine

/-! ## Before the mix -/

/-- From s to u only STAT of programme p changes, of the registers, and of the programme beside them where its output falls
to zero; neither the pods nor the configuration do. -/
structure OutputTaken (p : Nat) (s u : State) : Prop where
  rd : ∀ a, a ≠ FOLp_STAT p → u.rd a = s.rd a
  fab : u.fab = s.fab
  boot : u.boot = s.boot
  prog : ∃ m, u.prog p = { s.prog p with mute := m }

section
variable {s u v : State} {p : Nat}

theorem OutputTaken.refl (p : Nat) (s : State) : OutputTaken p s s := ⟨fun _ _ => rfl, rfl, rfl, ⟨_, rfl⟩⟩

theorem OutputTaken.trans (h : OutputTaken p s u) (hv : OutputTaken p u v) : OutputTaken p s v := by
  obtain ⟨m, hm⟩ := h.prog
  obtain ⟨n, hn⟩ := hv.prog
  exact ⟨fun a ha => (hv.rd a ha).trans (h.rd a ha), hv.fab.trans h.fab, hv.boot.trans h.boot, ⟨n, by rw [hn, hm]⟩⟩

theorem OutputTaken.setF (h : OutputTaken p s u) (f : Fld) (n : Nat) (hf : f.reg = FOLp_STAT p) :
    OutputTaken p s (u.setF f n) :=
  h.trans ⟨fun a ha => rd_setF_other _ _ _ _ (hf ▸ ha), rfl, rfl,
    ⟨(u.prog p).mute, by rw [State.prog, setF_fol, ← State.prog]⟩⟩

theorem OutputTaken.setMute (h : OutputTaken p s u) (m : Option (Nat × Nat)) :
    OutputTaken p s (u.setProg p { u.prog p with mute := m }) :=
  h.trans ⟨fun _ _ => rfl, rfl, rfl, ⟨m, prog_setProg_same _ _ _⟩⟩

theorem lostShow_output (hlost : s.flag (FOLp_STAT_ALLLOST p) = true) : OutputTaken p s (lostShow p s) := by
  unfold lostShow
  dsimp only
  rw [if_pos hlost]
  split
  · exact .refl p s
  split
  · exact (OutputTaken.refl p s).setF _ _ rfl
  split
  · split
    · exact .refl p s
    · exact (OutputTaken.refl p s).setMute _
  · exact (OutputTaken.refl p s).setF _ _ rfl

theorem hardTake_of_none (hhard : (s.prog p).hard = none) : hardTake p s = s := by
  unfold hardTake
  dsimp only
  rw [hhard]

theorem muteTake_output (p : Nat) (s : State) : OutputTaken p s (muteTake p s) := by
  unfold muteTake
  dsimp only
  split
  · split
    · exact ((OutputTaken.refl p s).setMute none).setF _ _ rfl
    · exact .refl p s
  · exact .refl p s

/-- The state in which a block is mixed: no source may be left, a hard switch or the fall to silence may have come. -/
def outputTaken (p : Nat) (s : State) : State :=
  muteTake p (hardTake p (if s.flag (FOLp_STAT_ALLLOST p) then lostShow p s else s))

/-- Without a hard switch, the state in which a block is mixed differs in the fall to silence alone. -/
theorem outputTaken_output (hhard : (s.prog p).hard = none) : OutputTaken p s (outputTaken p s) := by
  have hlost : OutputTaken p s (if s.flag (FOLp_STAT_ALLLOST p) then lostShow p s else s) := by
    split
    case isTrue h => exact lostShow_output h
    case isFalse => exact .refl p s
  obtain ⟨m, hm⟩ := hlost.prog
  rw [outputTaken, hardTake_of_none (by rw [hm, hhard])]
  exact hlost.trans (muteTake_output p _)

/-- Where no change of the output has come, a block is mixed at once. -/
theorem outputTaken_of_none (hlost : s.flag (FOLp_STAT_ALLLOST p) = false) (hhard : (s.prog p).hard = none)
    (hmute : (s.prog p).mute = none) : outputTaken p s = s := by
  rw [outputTaken, if_neg (by simp [hlost]), hardTake_of_none hhard, muteTake, hmute]

theorem OutputTaken.formed (h : OutputTaken p s u) : (u.prog p).formed = (s.prog p).formed := by
  obtain ⟨m, hm⟩ := h.prog
  rw [hm]

theorem OutputTaken.nextTs (h : OutputTaken p s u) : (u.prog p).nextTs = (s.prog p).nextTs := by
  obtain ⟨m, hm⟩ := h.prog
  rw [hm]

theorem OutputTaken.dropNext (h : OutputTaken p s u) : (u.prog p).dropNext = (s.prog p).dropNext := by
  obtain ⟨m, hm⟩ := h.prog
  rw [hm]

/-- STAT of a programme lies in the block FOL. -/
theorem OutputTaken.within (h : OutputTaken p s u) (hp : p < 256) : Within folArea s u := by
  intro a ha
  have hstat : FOLp_STAT p = 0x28014 + 0x40 * p := rfl
  have hout := ha (0x28000, 0x30000) (.head _)
  exact h.rd a (by omega)

/-- STAT of a programme is no register of a pod: the instants at which a stream is VOID stay (R143, R167). -/
theorem OutputTaken.voidOver (h : OutputTaken p s u) (kind inst lo hi : Nat) :
    u.voidOver kind inst lo hi = s.voidOver kind inst lo hi := by
  have hpod (q : Nat) : u.getF (FAB_LPp_MAP_STATE q) = s.getF (FAB_LPp_MAP_STATE q) :=
    getF_of_rd (h.rd _ (by simp only [FAB_LPp_MAP_STATE, FAB_LPp_MAP, FOLp_STAT]; omega))
  have hfeat : u.feat 18 = s.feat 18 := by
    rw [State.feat, State.feat, h.rd _ (by simp only [FEAT_ACTIVE, FOLp_STAT]; omega)]
  have hpods : u.podsOf kind inst = s.podsOf kind inst := by rw [State.podsOf, State.podsOf, State.hdr, State.hdr, h.boot]
  have hwhy (q : Nat) : u.pod q = s.pod q := pod_of_fab h.fab q
  have hout : u.podsOut kind inst = s.podsOut kind inst := by
    rw [State.podsOut, State.podsOut, hpods]
    simp only [hpod]
  rw [State.voidOver, State.voidOver, State.recovering, State.recovering, State.tokenOver, State.tokenOver, State.tokens,
    State.tokens, hout, hfeat, hpods, h.fab]
  simp only [hpod, hwhy]

end

/-! ## The parts of a block -/

section
variable {s : State} {v : Prog} {i role : Nat} {b : Block}

/-- The part of an entry whose samples are there holds them. -/
theorem share_of_srcBlock (hrole : role < 3) (hsrc : s.srcBlock v i = some b) : ∃ x, s.share v i role = [x] ∧ x.blk = b := by
  have hcand : ∃ c, v.cand i = some c := by
    unfold State.srcBlock at hsrc
    split at hsrc
    · cases hsrc
    next c hc => exact ⟨c, hc⟩
  obtain ⟨c, hc⟩ := hcand
  unfold State.share
  rw [if_neg (by omega), hc, hsrc]
  exact ⟨_, rfl, rfl⟩

theorem share_ne_nil (hrole : role < 3) (hsrc : s.srcBlock v i = some b) : s.share v i role ≠ [] := by
  obtain ⟨x, hx, -⟩ := share_of_srcBlock hrole hsrc
  simp [hx]

/-- It adds its flags to those of the block. -/
theorem share_flags (hrole : role < 3) (hsrc : s.srcBlock v i = some b) (n : Nat) :
    (s.share v i role).foldl (fun f a => f ||| a.blk.flags) n = n ||| b.flags := by
  obtain ⟨x, hx, rfl⟩ := share_of_srcBlock hrole hsrc
  rw [hx]
  rfl

/-- A block is bad by VOID or STALE alone. -/
theorem blockBad_some (hflags : (b.flags &&& 9) = 0) : blockBad (some b) = false := by
  simp [blockBad, hflags]

/-- Without a fade or a change of the output, the active source makes the block, or its substitute does (R270). -/
theorem shares_of_active {a : Nat} (hactive : v.active = some a) (hfade : v.fade = none) (hhard : v.hard = none)
    (hmute : v.mute = none) : s.shares v = s.patchShares v a := by
  rw [State.shares, hactive, hfade, hhard, hmute]

/-- A clean block of the active source is used. -/
theorem patchShares_clean (hsrc : s.srcBlock v i = some b) (hflags : (b.flags &&& 11) = 0) :
    s.patchShares v i = (s.share v i 0, false) := by
  have hwarm : b.flags.testBit 1 = false := by
    simpa [Nat.testBit_and, show Nat.testBit 11 1 = true by decide] using congrArg (Nat.testBit · 1) hflags
  have hbad : (b.flags &&& 9) = 0 := by
    rw [show (9 : Nat) = 11 &&& 9 from rfl, ← Nat.and_assoc, hflags, Nat.zero_and]
  rw [State.patchShares, hsrc]
  dsimp only
  rw [blockBad_some hbad, if_neg (by simp [hwarm])]

/-- Within a fade the blocks of both sides are mixed where neither is missing, VOID or STALE (R269). -/
theorem shares_of_fade {a : Nat} {f : Fade} {x y : Block} (hactive : v.active = some a) (hfade : v.fade = some f)
    (hbegun : f.tx ≤ v.nextTs) (hx : s.srcBlock v a = some x) (hy : s.srcBlock v f.inc = some y)
    (hxflags : (x.flags &&& 9) = 0) (hyflags : (y.flags &&& 9) = 0) :
    s.shares v = (s.share v a 1 ++ s.share v f.inc 2, false) := by
  rw [State.shares, hactive, hfade]
  dsimp only
  rw [if_pos hbegun, hx, hy, blockBad_some hxflags, blockBad_some hyflags]
  rfl

end

/-! ## The block -/

/-- A programme whose next block has been formed, or dropped where there is none (R26, R251, R252). -/
def Prog.passed (v : Prog) (b : Option Block) (gap : Bool) : Prog :=
  { v.pass with formed := v.formed ++ [(v.nextTs, b)], dropNext := gap }

/-- The block that is mixed of these parts for the programme's next instant (R269 to R272). -/
def Prog.mixed (v : Prog) (l : List Share) : Block :=
  ⟨v.nextTs, l.foldl (fun f a => f ||| a.blk.flags) (if v.dropNext then 128 else 0), mixOf v l⟩

/-- The VOID block of the programme's next instant (R167). -/
def Prog.voided (v : Prog) : Block := ⟨v.nextTs, (if v.dropNext then 128 else 0) + 8, List.replicate 128 0⟩

/-- The last instant of the programme's next block. -/
theorem lastInstant_eq (v : Prog) : v.nextTs + Config.audioBlock - 1 = v.nextTs + 5242879 := by
  have hblock : Config.audioBlock = 5242880 := rfl
  omega

/-- Programme p gives out audio for its next block: it is neither lost, silent, VOID nor abandoned, and no hard switch or
fall to silence is under way. -/
structure Sounding (p : Nat) (s : State) : Prop where
  lt : p < 256
  found : s.flag (FOLp_STAT_ALLLOST p) = false
  hard : (s.prog p).hard = none
  mute : (s.prog p).mute = none
  kept : s.abandoned 4 p ((s.prog p).nextTs + s.pgDelay p) = false
  risen : ((s.prog p).riseLeft == 0 || decide ((s.prog p).riseFrom ≤ (s.prog p).nextTs)) = true
  sound : s.flag (FOLp_STAT_SILENT p) = false
  clear : s.voidOver 4 p (s.prog p).nextTs ((s.prog p).nextTs + 5242879) = false

section
variable {s : State} {p : Nat}

/-- Its output is not silent before a rise either (R253, R264). -/
theorem Sounding.audible (h : Sounding p s) :
    (s.flag (FOLp_STAT_SILENT p) || ((s.prog p).riseLeft != 0 && decide ((s.prog p).nextTs < (s.prog p).riseFrom))) = false := by
  have hrisen := h.risen
  simp only [Bool.or_eq_true, beq_iff_eq, decide_eq_true_eq] at hrisen
  simp only [h.sound, Bool.false_or, Bool.and_eq_false_iff, bne_eq_false_iff_eq, decide_eq_false_iff_not]
  omega

/-- A programme that gives out audio forms the mix of its parts, and counts a substituted block. -/
theorem formBlock_eq_mixed (h : Sounding p s) {l : List Share} {patched : Bool} (hl : s.shares (s.prog p) = (l, patched))
    (hparts : l ≠ []) :
    formBlock p true s = folShow p (streamNote 1 p ((s.prog p).mixed l)
      ((if patched then s.bump (FOLp_CNT1_PATCH p) else s).setProg p ((s.prog p).passed (some ((s.prog p).mixed l)) false))) := by
  have hempty : l.isEmpty = false := by simpa using hparts
  unfold formBlock
  rw [← outputTaken, outputTaken_of_none h.found h.hard h.mute]
  dsimp only
  rw [if_neg (by rw [h.kept]; decide), h.audible, lastInstant_eq, h.clear]
  simp only [Bool.or_self, Bool.false_eq_true, if_false, hl, hempty]
  rfl

/-- A programme whose stream is VOID forms a VOID block. -/
theorem formBlock_eq_voided (hhard : (s.prog p).hard = none)
    (hkept : s.abandoned 4 p ((s.prog p).nextTs + s.pgDelay p) = false)
    (hvoid : s.voidOver 4 p (s.prog p).nextTs ((s.prog p).nextTs + 5242879) = true) :
    formBlock p true s = folShow p (streamNote 1 p ((outputTaken p s).prog p).voided ((outputTaken p s).setProg p
      (((outputTaken p s).prog p).passed (some ((outputTaken p s).prog p).voided) false))) := by
  have htaken := outputTaken_output hhard
  unfold formBlock
  rw [← outputTaken]
  dsimp only
  rw [if_neg (by rw [htaken.nextTs, hkept]; decide), lastInstant_eq, htaken.nextTs, htaken.voidOver, hvoid, ← htaken.nextTs]
  simp only [Bool.or_true, if_true, Bool.false_eq_true, if_false, List.foldl_nil, List.isEmpty_nil, Bool.not_true,
    Bool.and_false]
  rfl

theorem formBlock_eq_dropped (p : Nat) (s : State) :
    formBlock p false s = folShow p (((outputTaken p s).setProg p (((outputTaken p s).prog p).passed none true)).bump
      (FOLp_CNT2_DROP p)) := rfl

/-- What the end of the forming leaves: programme p is v, and what changed before in the block FOL. -/
theorem formed_shown {x : State} (hp : p < 256) (b : Block) (v : Prog) (h : Within folArea s x) :
    (folShow p (streamNote 1 p b (x.setProg p v))).prog p = v ∧
      Within folArea s (folShow p (streamNote 1 p b (x.setProg p v))) := by
  have hnote : (streamNote 1 p b (x.setProg p v)).prog p = v := prog_setProg_same x p v
  have hnoted : Within folArea s (streamNote 1 p b (x.setProg p v)) := h.of_regs rfl
  exact ⟨by rw [folShow_prog, hnote], hnoted.step (folShow_within_fol hp _) (by decide)⟩

/-- The counts of a programme are shown as they are. -/
theorem folShow_counted {x : State} {f : Fld} (hp : p < 256) (hf : f.reg = FOLp_CNT1 p ∨ f.reg = FOLp_CNT2 p)
    (h : Counted f s x) : Counted f s (folShow p x) := by
  have hreg : f.reg = 0x28038 + 0x40 * p ∨ f.reg = 0x2803c + 0x40 * p := hf
  have hend : FOLp_CTL (p + 1) = 0x28000 + 0x40 * (p + 1) := rfl
  have hlast : FOLp_LASTSW_LO p = 0x2802c + 0x40 * p := rfl
  rw [Counted, folShow_getF hp _ (by omega)]
  exact h

/-- A mixed block joins those to be released, and a substitution is counted (R269 to R272). -/
theorem formBlock_mixes (h : Sounding p s) {l : List Share} {patched : Bool} (hl : s.shares (s.prog p) = (l, patched))
    (hparts : l ≠ []) :
    (formBlock p true s).prog p = (s.prog p).passed (some ((s.prog p).mixed l)) false ∧
      (patched = true → Counted (FOLp_CNT1_PATCH p) s (formBlock p true s)) ∧ Within folArea s (formBlock p true s) := by
  have hcount : (FOLp_CNT1_PATCH p).reg = 0x28038 + 0x40 * p := rfl
  have hlt := h.lt
  have hbump : Within folArea s (if patched then s.bump (FOLp_CNT1_PATCH p) else s) := by
    split
    · exact (Within.refl _ s).fol _ (by omega)
    · exact .refl _ s
  rw [formBlock_eq_mixed h hl hparts]
  obtain ⟨hprog, hwithin⟩ := formed_shown hlt ((s.prog p).mixed l) ((s.prog p).passed (some ((s.prog p).mixed l)) false) hbump
  refine ⟨hprog, fun hpatched => folShow_counted hlt (.inl rfl) ?_, hwithin⟩
  rw [if_pos hpatched]
  exact counted_bump s (FOLp_CNT1_PATCH p) (by simp [FOLp_CNT1_PATCH]) (by simp [FOLp_CNT1_PATCH])

/-- A VOID block joins those to be released (R167). -/
theorem formBlock_voids (hp : p < 256) (hhard : (s.prog p).hard = none)
    (hkept : s.abandoned 4 p ((s.prog p).nextTs + s.pgDelay p) = false)
    (hvoid : s.voidOver 4 p (s.prog p).nextTs ((s.prog p).nextTs + 5242879) = true) :
    (((formBlock p true s).prog p).formed = (s.prog p).formed ++ [((s.prog p).nextTs, some (s.prog p).voided)] ∧
      ((formBlock p true s).prog p).nextTs = (s.prog p).nextTs + 5242880 ∧ ((formBlock p true s).prog p).dropNext = false) ∧
      Within folArea s (formBlock p true s) := by
  have htaken := outputTaken_output hhard
  have hblock : ((outputTaken p s).prog p).voided = (s.prog p).voided := by
    rw [Prog.voided, Prog.voided, htaken.nextTs, htaken.dropNext]
  obtain ⟨hprog, hwithin⟩ := formed_shown hp ((outputTaken p s).prog p).voided
    (((outputTaken p s).prog p).passed (some ((outputTaken p s).prog p).voided) false) (htaken.within hp)
  rw [formBlock_eq_voided hhard hkept hvoid, hprog, hblock, ← htaken.formed, ← htaken.nextTs]
  rw [hblock] at hwithin
  exact ⟨⟨rfl, rfl, rfl⟩, hwithin⟩

/-- A block that cannot be completed is dropped and counted (R252). -/
theorem formBlock_drops (hp : p < 256) (hhard : (s.prog p).hard = none) :
    (((formBlock p false s).prog p).formed = (s.prog p).formed ++ [((s.prog p).nextTs, none)] ∧
      ((formBlock p false s).prog p).dropNext = true ∧
      ((formBlock p false s).prog p).nextTs = (s.prog p).nextTs + 5242880 ∧
      Counted (FOLp_CNT2_DROP p) s (formBlock p false s)) ∧ Within folArea s (formBlock p false s) := by
  have htaken := outputTaken_output hhard
  have hcount : (FOLp_CNT2_DROP p).reg = 0x2803c + 0x40 * p := rfl
  have hstat : FOLp_STAT p = 0x28014 + 0x40 * p := rfl
  have hset := (htaken.within hp).of_regs
    (setProg_regs (outputTaken p s) p (((outputTaken p s).prog p).passed none true))
  have hprog : (formBlock p false s).prog p = ((outputTaken p s).prog p).passed none true := by
    rw [formBlock_eq_dropped, folShow_prog, State.prog, bump_fol]
    exact prog_setProg_same _ _ _
  have hcounted := (counted_bump ((outputTaken p s).setProg p (((outputTaken p s).prog p).passed none true)) (FOLp_CNT2_DROP p)
    (by simp [FOLp_CNT2_DROP]) (by simp [FOLp_CNT2_DROP])).of_getF
      ((setProg_getF _ _ _ _).trans (getF_of_rd (htaken.rd _ (by omega))))
  rw [hprog, ← htaken.formed, ← htaken.nextTs]
  exact ⟨⟨rfl, rfl, rfl, folShow_counted hp (.inr rfl) hcounted⟩,
    (hset.fol _ (by omega)).step (folShow_within_fol hp _) (by decide)⟩

end

/-! ## The command -/

/-- Where the programme is not at the end of a stop, PROG_BLOCK_FORM forms its next block once time has come for it. -/
theorem progBlockForm_gives {s : State} {p : Nat} {complete : Bool} {Q : State → Prop} (hp : p < 256)
    (hstate : 2 ≤ s.folState p) (hstop : (s.prog p).stopping = none) (h : ∀ k, Q (formBlock p complete { s with syscnt := k })) :
    Gives (.progBlockForm p complete) s Q := by
  have hexec : exec (.progBlockForm p complete) s =
      .next (formBlock p complete (s.advance ((s.prog p).nextTs + s.pgDelay p - 3932160))) := by
    show execProgBlockForm p complete s = _
    unfold execProgBlockForm
    dsimp only
    rw [if_pos (by simp [hp, hstate, hstop])]
  obtain ⟨k, hk⟩ := advance_eq ((s.prog p).nextTs + s.pgDelay p - 3932160) s
  exact ⟨_, hexec, hk ▸ h k⟩

end Sys2Proof.Machine
end

section
/-! SUPPORT. The statements on Fennel's switching and on its alignment (R252, R262 to R272). -/

namespace Sys2Proof.Machine

section
variable {s : State} {p : Nat}

/-- PROG_BLOCK_FORM of a programme that gives out audio mixes the parts of its block (R269 to R272). -/
theorem progBlockForm_mixes (h : Sounding p s) (hstate : s.folState p = 3) (hstop : (s.prog p).stopping = none) {l : List Share}
    {patched : Bool} (hl : s.shares (s.prog p) = (l, patched)) (hparts : l ≠ []) :
    Gives (.progBlockForm p true) s fun t =>
      t.prog p = (s.prog p).passed (some ((s.prog p).mixed l)) false ∧
        (patched = true → Counted (FOLp_CNT1_PATCH p) s t) ∧ Within folArea s t := by
  refine progBlockForm_gives h.lt (by omega) hstop fun k => ?_
  have hlater : Sounding p { s with syscnt := k } :=
    ⟨h.lt, h.found, h.hard, h.mute, h.kept, h.risen, h.sound, h.clear⟩
  exact formBlock_mixes hlater hl hparts

/-- The active source's clean block is its programme's block, with its flags (R251, R272). -/
theorem progBlockForm_clean {a : Nat} {b : Block} (h : Sounding p s) (hstate : s.folState p = 3)
    (hstop : (s.prog p).stopping = none) (hactive : (s.prog p).active = some a) (hfade : (s.prog p).fade = none)
    (hsrc : s.srcBlock (s.prog p) a = some b) (hflags : (b.flags &&& 11) = 0) :
    Gives (.progBlockForm p true) s fun t =>
      ((t.prog p).formed = (s.prog p).formed ++ [((s.prog p).nextTs, some ⟨(s.prog p).nextTs,
          (if (s.prog p).dropNext then 128 else 0) ||| b.flags, mixOf (s.prog p) (s.share (s.prog p) a 0)⟩)] ∧
        (t.prog p).nextTs = (s.prog p).nextTs + 5242880 ∧ (t.prog p).dropNext = false ∧ (t.prog p).active = some a) ∧
      Within folArea s t := by
  have hshares := (shares_of_active hactive hfade h.hard h.mute).trans (patchShares_clean hsrc hflags)
  obtain ⟨t, hexec, hprog, -, hwithin⟩ := progBlockForm_mixes h hstate hstop hshares (share_ne_nil (by decide) hsrc)
  refine ⟨t, hexec, ?_, hwithin⟩
  rw [hprog, Prog.passed, Prog.mixed, share_flags (by decide) hsrc]
  exact ⟨rfl, rfl, rfl, hactive⟩

/-- Within a fade the block is the mix of both sides, with the flags of both, and the fade moves on (R269, R272). -/
theorem progBlockForm_fades {a : Nat} {f : Fade} {x y : Block} (h : Sounding p s) (hstate : s.folState p = 3)
    (hstop : (s.prog p).stopping = none) (hactive : (s.prog p).active = some a) (hfade : (s.prog p).fade = some f)
    (hbegun : f.tx ≤ (s.prog p).nextTs) (hx : s.srcBlock (s.prog p) a = some x) (hy : s.srcBlock (s.prog p) f.inc = some y)
    (hxflags : (x.flags &&& 9) = 0) (hyflags : (y.flags &&& 9) = 0) :
    Gives (.progBlockForm p true) s fun t =>
      ((t.prog p).formed = (s.prog p).formed ++ [((s.prog p).nextTs, some ⟨(s.prog p).nextTs,
          (if (s.prog p).dropNext then 128 else 0) ||| x.flags ||| y.flags,
          mixOf (s.prog p) (s.share (s.prog p) a 1 ++ s.share (s.prog p) f.inc 2)⟩)] ∧
        (t.prog p).fade = some { f with left := f.left - 64 } ∧ (t.prog p).nextTs = (s.prog p).nextTs + 5242880) ∧
      Within folArea s t := by
  have hshares := shares_of_fade hactive hfade hbegun hx hy hxflags hyflags
  have hparts : s.share (s.prog p) a 1 ++ s.share (s.prog p) f.inc 2 ≠ [] := fun hnil =>
    share_ne_nil (by decide) hx (List.append_eq_nil_iff.mp hnil).1
  obtain ⟨t, hexec, hprog, -, hwithin⟩ := progBlockForm_mixes h hstate hstop hshares hparts
  refine ⟨t, hexec, ?_, hwithin⟩
  rw [hprog, Prog.passed, Prog.mixed, List.foldl_append, share_flags (by decide) hx, share_flags (by decide) hy]
  refine ⟨rfl, ?_, rfl⟩
  rw [Prog.pass, hfade]
  dsimp only [Option.map_some]
  rw [if_pos hbegun]

/-- Where the active source's block is missing, VOID or STALE, the clean block of the best aligned candidate stands in and is
counted (R270). -/
theorem progBlockForm_patches {a b : Nat} {c : Cand} {x : Block} (h : Sounding p s) (hstate : s.folState p = 3)
    (hstop : (s.prog p).stopping = none) (hactive : (s.prog p).active = some a) (hfade : (s.prog p).fade = none)
    (hbad : blockBad (s.srcBlock (s.prog p) a) = true)
    (hbest : bestOf (fun i c => decide ((s.prog p).candState i c = 2) && s.delivers c &&
      ((s.srcBlock (s.prog p) i).map fun x => (x.flags &&& 11) == 0).getD false) (s.prog p).cands = some (b, c))
    (hsrc : s.srcBlock (s.prog p) b = some x) :
    Gives (.progBlockForm p true) s fun t =>
      ((t.prog p).formed = (s.prog p).formed ++ [((s.prog p).nextTs, some ⟨(s.prog p).nextTs,
          (if (s.prog p).dropNext then 128 else 0) ||| x.flags, mixOf (s.prog p) (s.share (s.prog p) b 0)⟩)] ∧
        Counted (FOLp_CNT1_PATCH p) s t ∧ (t.prog p).active = some a) ∧
      Within folArea s t := by
  have hpatch : s.patchShares (s.prog p) a = (s.share (s.prog p) b 0, true) := by
    unfold State.patchShares
    dsimp only
    rw [hbad, Bool.true_or, if_pos rfl, hbest]
  have hshares := (shares_of_active hactive hfade h.hard h.mute).trans hpatch
  obtain ⟨t, hexec, hprog, hcounted, hwithin⟩ := progBlockForm_mixes h hstate hstop hshares (share_ne_nil (by decide) hsrc)
  refine ⟨t, hexec, ⟨?_, hcounted rfl, ?_⟩, hwithin⟩
  · rw [hprog, Prog.passed, Prog.mixed, share_flags (by decide) hsrc]
  · rw [hprog]
    exact hactive

end

/-! ## The statements -/

section
variable {s : State} {p : Nat}

/-- The premises of the statements on a mixed block say that its programme gives out audio. -/
theorem sounding_of (hp : decide (p < 256) = true) (hfound : (!s.flag (FOLp_STAT_ALLLOST p)) = true)
    (hhard : (s.prog p).hard.isNone = true) (hmute : (s.prog p).mute.isNone = true)
    (hkept : (!s.abandoned 4 p ((s.prog p).nextTs + s.pgDelay p)) = true)
    (hrisen : ((s.prog p).riseLeft == 0 || decide ((s.prog p).riseFrom ≤ (s.prog p).nextTs)) = true)
    (hsound : (!s.flag (FOLp_STAT_SILENT p)) = true)
    (hclear : (!s.voidOver 4 p (s.prog p).nextTs ((s.prog p).nextTs + 5242879)) = true) : Sounding p s where
  lt := of_decide_eq_true hp
  found := (Bool.not_eq_true' _).mp hfound
  hard := Option.isNone_iff_eq_none.mp hhard
  mute := Option.isNone_iff_eq_none.mp hmute
  kept := (Bool.not_eq_true' _).mp hkept
  risen := hrisen
  sound := (Bool.not_eq_true' _).mp hsound
  clear := (Bool.not_eq_true' _).mp hclear

end

/-- Settles O42: each clause is what its command leaves of the programme, shown above for the command. -/
theorem fennelSwitching : Obligations.FennelSwitching := by
  unfold Obligations.FennelSwitching
  have off {b : Bool} (h : (!b) = true) : b = false := (Bool.not_eq_true' _).mp h
  refine ⟨fun s p b c hp hfw hmay hlast hbest => ?_, fun s p hbest => discretionarySwitch_rests (eq_of_beq hbest),
    fun s p b u c hp hfw hmay hsound hbad hbest => ?_, fun s p b u c hp hfw hmay hbad hnone hbest => ?_,
    fun s p f hp hfade hleft => xfadeEnd_survives (of_decide_eq_true hp) (eq_of_beq hfade) (eq_of_beq hleft),
    fun s p i u c a hp hrun hsource hinactive hapart hcand hkind husable hnext => ?_,
    fun s p i T c a hp hloud hsource hcand haligned hset hdue => ?_,
    fun s p a b hp hrun hstop hhard hfade hmute hfound hkept hrisen hsound hclear hactive hsrc hflags => ?_,
    fun s p hp hstate hstop hhard hkept hvoid => ?_, fun s p hp hstate hstop hhard => ?_⟩
  · obtain ⟨t, hexec, hfade, hshown⟩ := discretionarySwitch_fades (of_decide_eq_true hp) hfw hmay hlast (eq_of_beq hbest)
    exact ⟨t, hexec, ⟨hfade, hshown.counted, hshown.kind⟩, hshown.within⟩
  · obtain ⟨t, hexec, hfade, hshown⟩ := forcedSwitch_fades (of_decide_eq_true hp) hfw hmay (off hsound) (eq_of_beq hbad)
      (eq_of_beq hbest)
    exact ⟨t, hexec, ⟨hfade, hshown.counted⟩, hshown.within⟩
  · have hsilent : (s.flag (FOLp_STAT_SILENT p) || (bestOf (s.alignedTake (s.prog p)) (s.prog p).cands).isNone) = true := by
      rw [eq_of_beq hnone, Option.isNone_none, Bool.or_true]
    obtain ⟨t, hexec, hhard, hshown⟩ := hardSwitch_stands (of_decide_eq_true hp) hfw hmay (eq_of_beq hbad) hsilent
      (eq_of_beq hbest)
    exact ⟨t, hexec, ⟨hhard, hshown.counted, hshown.kind⟩, hshown.within⟩
  · obtain ⟨t, hexec, ⟨b, hafter⟩, -, hwithin⟩ := alignMeasure_judges ⟨of_decide_eq_true hp, eq_of_beq hrun,
      eq_of_beq hsource, hinactive, hapart, eq_of_beq hcand, hkind, husable, hnext⟩
    refine ⟨t, hexec, ?_, hwithin⟩
    rw [hafter]
    unfold State.afterWindow
    rcases s.measure p (s.prog p) a c u with _ | _ | ⟨m, dl⟩ <;> rfl
  · obtain ⟨t, hexec, hafter, -, hwithin⟩ := loudnessUpdate_levels (of_decide_eq_true hp) hloud (eq_of_beq hsource)
      (eq_of_beq hcand) (eq_of_beq haligned) (of_decide_eq_true hdue)
    refine ⟨t, hexec, ?_, hwithin⟩
    rw [hafter]
    unfold State.afterLoudness
    rcases s.loudness (s.prog p) a c T with _ | _ | dl
    · rfl
    · rfl
    · exact congrArg (fun g => some (g, T + 39321600000)) (if_pos hset)
  · exact progBlockForm_clean (sounding_of hp hfound hhard hmute hkept hrisen hsound hclear) (eq_of_beq hrun)
      (Option.isNone_iff_eq_none.mp hstop) (eq_of_beq hactive) (Option.isNone_iff_eq_none.mp hfade) (eq_of_beq hsrc)
      (eq_of_beq hflags)
  · exact progBlockForm_gives (of_decide_eq_true hp) (of_decide_eq_true hstate) (Option.isNone_iff_eq_none.mp hstop) fun k =>
      formBlock_voids (s := { s with syscnt := k }) (of_decide_eq_true hp) (Option.isNone_iff_eq_none.mp hhard) (off hkept) hvoid
  · exact progBlockForm_gives (of_decide_eq_true hp) (of_decide_eq_true hstate) (Option.isNone_iff_eq_none.mp hstop) fun k =>
      formBlock_drops (s := { s with syscnt := k }) (of_decide_eq_true hp) (Option.isNone_iff_eq_none.mp hhard)

/-- Settles O53: each clause is what its command leaves of the entry or of the programme, shown above for the command. -/
theorem fennelAlignment : Obligations.FennelAlignment := by
  unfold Obligations.FennelAlignment
  have off {b : Bool} (h : (!b) = true) : b = false := (Bool.not_eq_true' _).mp h
  refine ⟨fun s p i u c a hp hrun hsource hinactive hapart hcand hkind husable hnext hnew => ?_,
    fun s p i u c a hp hrun hsource hinactive hapart hcand hkind husable hnext hold hfails => ?_,
    fun s p i T c a hp hloud hsource hcand haligned hdue hfirst => ?_,
    fun s p a f x y hp hmute hfound hkept hrisen hrun hstop hhard hsound hclear hactive hfade hbegun hx hy hxflags hyflags => ?_,
    fun s p a b c x hp hmute hfound hkept hrisen hrun hstop hhard hsound hclear hactive hfade hbad hbest hsrc => ?_⟩
  · obtain ⟨t, hexec, ⟨b, hafter⟩, hactive, hwithin⟩ := alignMeasure_judges ⟨of_decide_eq_true hp, eq_of_beq hrun,
      eq_of_beq hsource, hinactive, hapart, eq_of_beq hcand, hkind, husable, hnext⟩
    refine ⟨t, hexec, ⟨hactive, fun m dl hm hclear hrho ⟨x, hlast, hnear⟩ => ?_⟩, hwithin⟩
    obtain ⟨haligned, ha, hok, hzero⟩ := alignStep_aligns (c := { c with winAt := u + 7864320000 }) (v := s.prog p)
      (loud := s.flag (FOLp_CTL_LOUD p)) (dl := dl.getD 0) (rho := m.rho) (off hnew) hlast hnear
    rw [hafter]
    simp only [State.afterWindow, hm, hclear, decide_eq_true hrho, Bool.and_self, Option.map_some, haligned, ha, hok, hzero]
  · obtain ⟨t, hexec, ⟨b, hafter⟩, hactive, hwithin⟩ := alignMeasure_judges ⟨of_decide_eq_true hp, eq_of_beq hrun,
      eq_of_beq hsource, hinactive, hapart, eq_of_beq hcand, hkind, husable, hnext⟩
    refine ⟨t, hexec, ⟨hactive, fun m dl hm hbad => ?_⟩, hwithin⟩
    obtain ⟨haligned, hok, hzero⟩ := alignStep_ends (c := { c with winAt := u + 7864320000 }) (v := s.prog p)
      (loud := s.flag (FOLp_CTL_LOUD p)) (d := m.d) (dl := dl.getD 0) (rho := m.rho) hold (eq_of_beq hfails)
    have hinvalid : (m.clear && decide (s.getF (FOLp_POL1_RHO_MIN p) ≤ m.rho)) = false := by
      simpa only [Bool.and_eq_false_iff, decide_eq_false_iff_not, not_le] using hbad
    rw [hafter]
    simp only [State.afterWindow, hm, hinvalid, Option.map_some, haligned, hok, hzero]
  · obtain ⟨t, hexec, hafter, hactive, hwithin⟩ := loudnessUpdate_levels (of_decide_eq_true hp) hloud (eq_of_beq hsource)
      (eq_of_beq hcand) (eq_of_beq haligned) (of_decide_eq_true hdue)
    refine ⟨t, hexec, ⟨hactive, fun dl hdl => ?_⟩, hwithin⟩
    rw [hafter, State.afterLoudness, hdl]
    exact congrArg (fun g => some (g, true)) (if_neg (by simpa using hfirst))
  · exact progBlockForm_fades (sounding_of hp hfound hhard hmute hkept hrisen hsound hclear) (eq_of_beq hrun)
      (Option.isNone_iff_eq_none.mp hstop) (eq_of_beq hactive) (eq_of_beq hfade) (of_decide_eq_true hbegun) (eq_of_beq hx)
      (eq_of_beq hy) (eq_of_beq hxflags) (eq_of_beq hyflags)
  · exact progBlockForm_patches (sounding_of hp hfound hhard hmute hkept hrisen hsound hclear) (eq_of_beq hrun)
      (Option.isNone_iff_eq_none.mp hstop) (eq_of_beq hactive) (Option.isNone_iff_eq_none.mp hfade) hbad (eq_of_beq hbest)
      (eq_of_beq hsrc)

end Sys2Proof.Machine
end

section
/-! SUPPORT. CANDIDATE_REMOVE (R256) and the statement on candidates: the display of a programme past the part's last writes
past the block FOL. -/

namespace Sys2Proof.Machine

section
variable {s : State} {p i n x : Nat} {c : Cand}

/-- An entry that is not the host's leaves 10 s after its identity stopped matching, whatever its programme (R256). -/
theorem exec_candidateRemove (hfw : s.firmwareOn 1 = true) (hcand : (s.prog p).cand i = some c) (horigin : c.origin ≠ 0)
    (hinactive : (s.prog p).active ≠ some i) (hapart : (s.prog p).incoming ≠ some i) (hlost : c.lost = some x)
    (hdue : x + tenSeconds ≤ (s.advance n).now) (hgone : (s.advance n).identity p c = false) :
    exec (.candidateRemove p i n) s = .next (folShow p ((s.advance n).dropCand p i)) := by
  have hprog : (s.advance n).prog p = s.prog p := by rw [State.prog, advance_fol, ← State.prog]
  show execCandidateRemove p i n s = _
  unfold execCandidateRemove
  dsimp only
  rw [hprog, hcand]
  dsimp only
  rw [if_pos (by simp [hfw, horigin, hinactive, hapart, hgone, hlost, hdue])]

/-- With a programme of the part, the clause of the statement on this command holds. -/
theorem candidateRemove_leaves (hp : p < 256) (hfw : s.firmwareOn 1 = true) (hcand : (s.prog p).cand i = some c)
    (horigin : c.origin ≠ 0) (hinactive : (s.prog p).active ≠ some i) (hapart : (s.prog p).incoming ≠ some i)
    (hlost : c.lost = some x) (hdue : x + tenSeconds ≤ (s.advance n).now) (hgone : (s.advance n).identity p c = false) :
    Gives (.candidateRemove p i n) s fun t =>
      ((t.prog p).cand i = none ∧ (t.prog p).active = (s.prog p).active) ∧
        Within [(0x28000, 0x30000), (0x30000, 0x34000)] s t := by
  refine ⟨_, exec_candidateRemove hfw hcand horigin hinactive hapart hlost hdue hgone, ?_⟩
  have hprog : (s.advance n).prog p = s.prog p := by rw [State.prog, advance_fol, ← State.prog]
  have hdropped := ((Within.refl [(0x28000, 0x30000), (0x30000, 0x34000)] s).of_regs (advance_regs s n)).step
    (dropCand_within p i (s.advance n)) (by decide)
  dsimp only
  rw [folShow_prog, dropCand_prog, hprog]
  refine ⟨⟨?_, rfl⟩, hdropped.step (folShow_within_fol hp _) (by decide)⟩
  simp [Prog.cand]

/-- The display shows that a programme has neither an active nor an incoming source (R277). -/
theorem progShow_src (hactive : (s.prog p).active = none) (hfade : (s.prog p).fade = none) :
    (progShow p s).rd (FOLp_SRC p) = 0 := by
  unfold progShow State.setI State.setB
  dsimp only
  iterate 8 rw [rd_setF_other _ _ _ _ (by
    simp [FOLp_SRC, FOLp_XF_REMAIN, FOLp_XF, FOLp_GAIN_GIN, FOLp_GAIN_GACT, FOLp_GAIN, FOLp_OFFS_A, FOLp_OFFS, FOLp_SCORE_BEST,
      FOLp_SCORE_ACT, FOLp_SCORE, FOLp_STAT_ACTIVE, FOLp_STAT_XFADE, FOLp_STAT])]
  rw [rd_wr_same, Prog.incoming, hactive, hfade]
  simp only [Option.map_none, Option.bind_none, Option.getD_none, Nat.or_self]
  rfl

end

/-- Refutes O43: the clause on the removal of an entry, unlike the others that bound the registers that change, does not bound
the programme's number.  CANDIDATE_REMOVE of programme 768, which the part has not, shows the programme in what would be its
SRC, an address in the block of the serial audio ports. -/
theorem not_fennelCandidates : ¬ Obligations.FennelCandidates := by
  unfold Obligations.FennelCandidates
  rintro ⟨-, hremove, -⟩
  let c : Cand := { kind := 1, num := 0, origin := 1, lost := some 0, removed := true }
  let s : State :=
    { regs := [(FOLp_SRC 768, 1), (SEQk_STAT 1, 0x20000000)], syscnt := 39321600000
      fol := { progs := [(768, { cands := [(0, c)] })] } }
  obtain ⟨t, hexec, -, hwithin⟩ := hremove s 768 0 0 0 c (by decide +kernel) rfl rfl rfl rfl rfl (by decide +kernel) rfl
  have hexec' := exec_candidateRemove (s := s) (p := 768) (i := 0) (n := 0) (x := 0) (c := c) (by decide +kernel) rfl
    (by decide) nofun nofun rfl (by decide +kernel) rfl
  obtain rfl := Host.Outcome.next.inj (hexec.symm.trans hexec')
  have hkept := hwithin (FOLp_SRC 768) (by decide)
  have hshown : (folShow 768 ((s.advance 0).dropCand 768 0)).rd (FOLp_SRC 768) = 0 :=
    (folShow_info 768 _ _ (by decide)).trans (progShow_src rfl rfl)
  have hbefore : s.rd (FOLp_SRC 768) = 1 := by decide +kernel
  exact absurd (hshown.symm.trans (hkept.trans hbefore)) (by decide)

end Sys2Proof.Machine
end

section
/-! SUPPORT. The statements on the step, on the reset state, on the balls in reset and on the encoding (R40, R44, R439 to
R446), and the frame of an instruction whose load meets an uncorrectable line (R294). -/

set_option Elab.async false

namespace Sys2Proof.Machine

/-! ## Step and reset -/

/-- Settles O55. -/
theorem stepTakesTheFront : Obligations.StepTakesTheFront := by
  unfold Obligations.StepTakesTheFront
  refine ⟨?_, ?_, ?_⟩
  · intro c rest s hpending
    unfold step
    rw [hpending]
  · intro s hpending
    refine ⟨s.clockTick, ?_, clockTick_regs s, clockTick_mem s, ?_⟩
    · unfold step
      rw [hpending]
    · unfold State.clockTick
      split <;> rfl
  · intro s nbits w
    rfl

/-- Settles O58: the tables of the reset state are empty, and so is the queue of results of each of its cores. -/
theorem resetIsCanonical : Obligations.ResetIsCanonical := by
  unfold Obligations.ResetIsCanonical
  exact ⟨rfl, fun k => rfl⟩

/-! ## Balls -/

/-- Unpowered, a ball floats but for the sense balls (R40). -/
theorem ball_unpowered (s : State) (b : Ball) (h : s.pwr.railsOk = false) :
    s.ball b = if b = .coreSense then .tied else .highZ := by
  unfold State.ball
  by_cases hb : b = .coreSense
  · subst hb
    simp [State.ballPowered]
  · simp [h, hb]

/-- With every rail within tolerance a ball does what its function has it do (R41). -/
theorem ball_powered (s : State) (b : Ball) (h : s.pwr.railsOk = true) : s.ball b = s.ballPowered b := by
  simp [State.ball, h]

/-- Settles O59. -/
theorem ballsInReset : Obligations.BallsInReset := by
  unfold Obligations.BallsInReset
  refine ⟨ball_unpowered, fun s hreset hrails => ?_⟩
  have hpa : s.paDriven = false := by simp [State.paDriven, hreset]
  simp only [ball_powered s _ hrails]
  refine ⟨by simp [State.ballPowered, hreset], by simp [State.ballPowered, hreset], by simp [State.ballPowered, hreset],
    fun m => by simp [State.ballPowered, hreset], ?_, ?_, ?_, fun k => by simp [State.ballPowered, hreset]⟩
  · simp [State.ballPowered, driveIf, hreset, hpa]
  · intro n
    unfold State.ballPowered
    cases s.pins.vid <;> simp [driveIf, hreset]
  · intro n
    exact ⟨by simp [State.ballPowered], by simp [State.hbDriven, hreset]⟩

/-! ## Encoding -/

theorem nibHi_nib (h l : BitVec 4) : nibHi (nib h l) = h := by
  revert h l
  decide

theorem nibLo_nib (h l : BitVec 4) : nibLo (nib h l) = l := by
  revert h l
  decide

theorem of16_le16 (x : BitVec 16) : of16 (x.extractLsb' 0 8) (x.extractLsb' 8 8) = x := by
  unfold of16
  ext i hi
  simp only [BitVec.getElem_append]
  grind

theorem of24_le24 (x : BitVec 24) : of24 (x.extractLsb' 0 8) (x.extractLsb' 8 8) (x.extractLsb' 16 8) = x := by
  unfold of24
  ext i hi
  simp only [BitVec.getElem_append]
  grind

/-- The fields of the second byte of format FM (R444). -/
theorem fm_fields (g : BitVec 4) (m : BitVec 1) (n : BitVec 3) :
    nibHi (g ++ m ++ n : BitVec 8) = g ∧ (g ++ m ++ n : BitVec 8).extractLsb' 3 1 = m ∧
      (g ++ m ++ n : BitVec 8).extractLsb' 0 3 = n := by
  revert g m n
  decide

/-- The fields of the third byte of format FA (R444). -/
theorem fa_fields (k : BitVec 2) (x : BitVec 6) :
    (k ++ x : BitVec 8).extractLsb' 6 2 = k ∧ (k ++ x : BitVec 8).extractLsb' 0 6 = x := by
  revert k x
  decide

/-- Map 0 gives every opcode of the encoder its meaning back (R445). -/
theorem izKind_f0 (o : IzF0) : izKind (opByte (codeF0 o)).toNat = some (.f0 o) := by cases o <;> rfl
theorem izKind_fr (o : IzFr) : izKind (opByte (codeFr o)).toNat = some (.fr o) := by cases o <;> rfl
theorem izKind_frr (o : IzFrr) : izKind (opByte (codeFrr o)).toNat = some (.frr o) := by cases o <;> rfl
theorem izKind_fri (o : IzFri) : izKind (opByte (codeFri o)).toNat = some (.fri o) := by cases o <;> rfl
theorem izKind_fb (c : IzCc) : izKind (opByte (0x40 + codeCc c)).toNat = some (.fb c) := by cases c <;> rfl
theorem izKind_fbi (c : IzCc) : izKind (opByte (0x48 + codeCc c)).toNat = some (.fbi c) := by cases c <;> rfl
theorem izKind_fj (link : Bool) : izKind (opByte (if link then 0x51 else 0x50)).toNat = some (.fj link) := by
  cases link <;> rfl
theorem izKind_fm (o : IzFm) : izKind (opByte (codeFm o)).toNat = some (.fm o) := by cases o <;> rfl
theorem izKind_fa (o : IzFa) : izKind (opByte (codeFa o)).toNat = some (.fa o) := by cases o <;> rfl

/-- Map 1 gives every opcode of the encoder its meaning back (R446). -/
theorem izMap1_codeFx (o : IzFx) : izMap1 (opByte (codeFx o)).toNat = some o := by cases o <;> rfl

/-- A base instruction is read back from its bytes, whatever follows them (R444). -/
theorem decodeOp_encodeOp (o : IzOp) (rest : List Byte) : decodeOp (encodeOp o ++ rest) = some (o, rest) := by
  cases o with
  | f0 o => simp [encodeOp, decodeOp, izKind_f0]
  | fr o x y => simp [encodeOp, decodeOp, izKind_fr, nibHi_nib, nibLo_nib]
  | frr o d a b z => simp [encodeOp, decodeOp, izKind_frr, nibHi_nib, nibLo_nib]
  | fri o d a imm => simp [encodeOp, decodeOp, izKind_fri, nibHi_nib, nibLo_nib]
  | fb c a b disp => simp [encodeOp, decodeOp, izKind_fb, nibHi_nib, nibLo_nib, le16, of16_le16]
  | br z0 z1 disp =>
    have hkind : izKind (opByte 0x46).toNat = some .br := rfl
    simp [encodeOp, decodeOp, hkind, nibHi_nib, nibLo_nib, le16, of16_le16]
  | fbi c a z imm disp => simp [encodeOp, decodeOp, izKind_fbi, nibHi_nib, nibLo_nib, le16, of16_le16]
  | fj link dest => simp only [encodeOp, decodeOp, List.cons_append, izKind_fj, le24, List.nil_append, of24_le24]
  | fm o g m n x =>
    obtain ⟨hg, hm, hn⟩ := fm_fields g m n
    simp only [encodeOp, decodeOp, List.cons_append, izKind_fm, List.nil_append, hg, hm, hn]
  | fa o b1 k x =>
    obtain ⟨hk, hx⟩ := fa_fields k x
    simp only [encodeOp, decodeOp, List.cons_append, izKind_fa, List.nil_append, hk, hx]
  | loop count disp =>
    have hkind : izKind (opByte 0x80).toNat = some .loop := rfl
    simp [encodeOp, decodeOp, hkind, le16, of16_le16]
  | loopr c z disp =>
    have hkind : izKind (opByte 0x81).toNat = some .loopr := rfl
    simp [encodeOp, decodeOp, hkind, nibHi_nib, nibLo_nib, le16, of16_le16]
  | fx o d x =>
    have hkind : izKind (0xFF : BitVec 8).toNat = some .esc := rfl
    simp only [encodeOp, decodeOp, List.cons_append, hkind, List.nil_append, izMap1_codeFx, nibHi_nib, nibLo_nib]

/-- Each of the prefixes is read back from its bytes (R441). -/
theorem decodePre_encodePre (p : IzPre) (rest : List Byte) : decodePre (encodePre p ++ rest) = some (p, rest) := by
  cases p with
  | repN n => rfl
  | repG r =>
    obtain ⟨h0, h1, h2⟩ : nib 0xD r ≠ 0xF0 ∧ nib 0xD r ≠ 0xF1 ∧ nib 0xD r ≠ 0xF2 := by revert r; decide
    simp only [encodePre, decodePre, List.cons_append, List.nil_append, if_neg h0, if_neg h1, if_neg h2, nibHi_nib, nibLo_nib,
      if_pos]
  | sego k =>
    obtain ⟨h0, h1, h2⟩ : nib 0xE k ≠ 0xF0 ∧ nib 0xE k ≠ 0xF1 ∧ nib 0xE k ≠ 0xF2 := by revert k; decide
    have hd : (0xE : BitVec 4) ≠ 0xD := by decide
    simp only [encodePre, decodePre, List.cons_append, List.nil_append, if_neg h0, if_neg h1, if_neg h2, nibHi_nib, nibLo_nib,
      if_neg hd, if_pos]
  | ximm x => simp [encodePre, decodePre, le16, of16_le16]
  | sat => rfl

/-- A byte that starts none of the prefixes (R441, R445). -/
def noPrefix (b : Byte) : Bool := b != 0xF0 && b != 0xF1 && b != 0xF2 && nibHi b != 0xD && nibHi b != 0xE

theorem decodePre_noPrefix (b : Byte) (t : List Byte) (h : noPrefix b = true) : decodePre (b :: t) = none := by
  simp only [noPrefix, Bool.and_eq_true, bne_iff_ne] at h
  obtain ⟨⟨⟨⟨h0, h1⟩, h2⟩, hd⟩, he⟩ := h
  simp only [decodePre, if_neg h0, if_neg h1, if_neg h2, if_neg hd, if_neg he]

/-- The opcode of a base instruction starts none of the prefixes (R445). -/
theorem encodeOp_noPrefix (o : IzOp) : ∃ b t, encodeOp o = b :: t ∧ noPrefix b = true := by
  cases o with
  | f0 o => exact ⟨_, _, rfl, by cases o <;> decide⟩
  | fr o x y => exact ⟨_, _, rfl, by cases o <;> decide⟩
  | frr o d a b z => exact ⟨_, _, rfl, by cases o <;> decide⟩
  | fri o d a imm => exact ⟨_, _, rfl, by cases o <;> decide⟩
  | fb c a b disp => exact ⟨_, _, rfl, by cases c <;> decide⟩
  | br z0 z1 disp => exact ⟨_, _, rfl, by decide⟩
  | fbi c a z imm disp => exact ⟨_, _, rfl, by cases c <;> decide⟩
  | fj link dest => exact ⟨_, _, rfl, by cases link <;> decide⟩
  | fm o g m n x => exact ⟨_, _, rfl, by cases o <;> decide⟩
  | fa o b1 k x => exact ⟨_, _, rfl, by cases o <;> decide⟩
  | loop count disp => exact ⟨_, _, rfl, by decide⟩
  | loopr c z disp => exact ⟨_, _, rfl, by decide⟩
  | fx o d x => exact ⟨_, _, rfl, by decide⟩

/-- At most n prefixes before a base instruction are read back, and no byte of it with them (R441, R442). -/
theorem decodePres_encode (n : Nat) (pre : List IzPre) (o : IzOp) (rest : List Byte) (hlen : pre.length ≤ n) :
    decodePres n (pre.flatMap encodePre ++ (encodeOp o ++ rest)) = (pre, encodeOp o ++ rest) := by
  induction n generalizing pre with
  | zero =>
    obtain rfl : pre = [] := List.length_eq_zero_iff.mp (by omega)
    rfl
  | succ n ih =>
    cases pre with
    | nil =>
      obtain ⟨b, t, henc, hb⟩ := encodeOp_noPrefix o
      simp only [List.flatMap_nil, List.nil_append, henc, List.cons_append, decodePres, decodePre_noPrefix _ _ hb]
    | cons p t =>
      have htail := ih t (by simpa using hlen)
      simp only [List.flatMap_cons, List.append_assoc, decodePres, decodePre_encodePre, htail]

/-- Settles O19: the prefixes are read back one by one, then the base instruction. -/
theorem izhamDecodeOfEncode : Obligations.IzhamDecodeOfEncode := by
  unfold Obligations.IzhamDecodeOfEncode
  intro pre o rest hlen
  unfold decodeIz encodeIz
  dsimp only
  rw [List.append_assoc, decodePres_encode 4 pre o rest hlen]
  simp only [decodeOp_encodeOp]

/-- Settles O20. -/
theorem izhamWords : Obligations.IzhamWords := by
  unfold Obligations.IzhamWords
  decide

end Sys2Proof.Machine
end

section
/-! SUPPORT. The registers of a core and its results in flight (R410, R411, R426, R427): what a register reads once a
result takes its place, that the last result issued on a register is the one that stays, and that results which become
readable in issue order settle to the same values after every tick. -/

set_option Elab.async false

namespace Sys2Proof.Machine

/-! ## Views -/

/-- The registers of two cores read alike. -/
structure Core.SameRegs (c c' : Core) : Prop where
  g : c'.g = c.g
  a : c'.a = c.a
  p : c'.p = c.p
  pb : c'.pb = c.pb
  sd : c'.sd = c.sd
  sp : c'.sp = c.sp
  ls : c'.ls = c.ls
  le : c'.le = c.le
  lc : c'.lc = c.lc
  ie : c'.ie = c.ie
  ldepth : c'.ldepth = c.ldepth
  mflt : c'.mflt = c.mflt
  aov : c'.aov = c.aov

/-- π reads register r and nothing else of a core. -/
structure Views {α : Type} (π : Core → α) (r : IzReg) : Prop where
  regs : ∀ c c', Core.SameRegs c c' → π c' = π c
  other : ∀ q v c, homeReg q ≠ r → π (Core.put q v c) = π c

theorem views_reg (n : Nat) : Views (fun c => c.reg n) (.g n) where
  regs c c' h := by simp [Core.reg, h.g]
  other q v c hq := by
    cases q with
    | g m =>
      have hm : n ≠ m := by rintro rfl; exact hq rfl
      by_cases h0 : m = 0 <;> simp [Core.put, Core.reg, h0, sget_sset, hm]
    | _ => rfl

theorem views_acc (n : Nat) : Views (fun c => c.acc n) (.a n) where
  regs c c' h := by simp [Core.acc, h.a]
  other q v c hq := by
    cases q with
    | a m =>
      have hm : n ≠ m := by rintro rfl; exact hq rfl
      simp [Core.put, Core.acc, sget_sset, hm]
    | aPart m part =>
      have hm : n ≠ m := by rintro rfl; exact hq rfl
      simp [Core.put, Core.acc, sget_sset, hm]
    | g m =>
      unfold Core.put
      dsimp only
      split <;> rfl
    | _ => rfl

/-- A part of a core that no general register and no part of an accumulator touches, other than by one kind of register. -/
theorem views_of {α : Type} {π : Core → α} {r : IzReg} (hregs : ∀ c c', Core.SameRegs c c' → π c' = π c)
    (hg : ∀ n v c, r ≠ .g n → π (Core.put (.g n) v c) = π c)
    (hrest : ∀ q v c, (∀ n, q ≠ .g n) → homeReg q ≠ r → π (Core.put q v c) = π c) : Views π r where
  regs := hregs
  other q v c hq := by
    cases q with
    | g m => exact hg m v c (Ne.symm hq)
    | _ => exact hrest _ v c nofun hq

/-- A general register's result changes nothing but the general registers. -/
theorem put_g (n v : Nat) (c : Core) : ∃ l, Core.put (.g n) v c = { c with g := l } := by
  unfold Core.put
  dsimp only
  split
  · exact ⟨c.g, rfl⟩
  · exact ⟨_, rfl⟩

theorem views_ptr (n : Nat) : Views (fun c => c.ptr n) (.p n) :=
  views_of (fun c c' h => by simp [Core.ptr, h.p]) (fun m v c _ => by obtain ⟨l, h⟩ := put_g m v c; rw [h]; rfl)
    (fun q v c hg hq => by
      cases q with
      | g m => exact absurd rfl (hg m)
      | p m =>
        have hm : n ≠ m := by rintro rfl; exact hq rfl
        simp [Core.put, Core.ptr, sget_sset, hm]
      | _ => rfl)

theorem views_bind (n : Nat) : Views (fun c => c.bind n) (.pb n) :=
  views_of (fun c c' h => by simp [Core.bind, h.pb]) (fun m v c _ => by obtain ⟨l, h⟩ := put_g m v c; rw [h]; rfl)
    (fun q v c hg hq => by
      cases q with
      | g m => exact absurd rfl (hg m)
      | pb m =>
        have hm : n ≠ m := by rintro rfl; exact hq rfl
        simp [Core.put, Core.bind, sget_sset, hm]
      | _ => rfl)

theorem views_desc (n : Nat) : Views (fun c => c.desc n) (.sd n) :=
  views_of (fun c c' h => by simp [Core.desc, h.sd]) (fun m v c _ => by obtain ⟨l, h⟩ := put_g m v c; rw [h]; rfl)
    (fun q v c hg hq => by
      cases q with
      | g m => exact absurd rfl (hg m)
      | sd m =>
        have hm : n ≠ m := by rintro rfl; exact hq rfl
        simp [Core.put, Core.desc, sget_sset, hm]
      | _ => rfl)

theorem views_ls (n : Nat) : Views (fun c => sget zero24 c.ls n) (.ls n) :=
  views_of (fun c c' h => by simp [h.ls]) (fun m v c _ => by obtain ⟨l, h⟩ := put_g m v c; rw [h])
    (fun q v c hg hq => by
      cases q with
      | g m => exact absurd rfl (hg m)
      | ls m =>
        have hm : n ≠ m := by rintro rfl; exact hq rfl
        simp [Core.put, sget_sset, hm]
      | _ => rfl)

theorem views_le (n : Nat) : Views (fun c => sget zero24 c.le n) (.le n) :=
  views_of (fun c c' h => by simp [h.le]) (fun m v c _ => by obtain ⟨l, h⟩ := put_g m v c; rw [h])
    (fun q v c hg hq => by
      cases q with
      | g m => exact absurd rfl (hg m)
      | le m =>
        have hm : n ≠ m := by rintro rfl; exact hq rfl
        simp [Core.put, sget_sset, hm]
      | _ => rfl)

theorem views_lc (n : Nat) : Views (fun c => sget zero24 c.lc n) (.lc n) :=
  views_of (fun c c' h => by simp [h.lc]) (fun m v c _ => by obtain ⟨l, h⟩ := put_g m v c; rw [h])
    (fun q v c hg hq => by
      cases q with
      | g m => exact absurd rfl (hg m)
      | lc m =>
        have hm : n ≠ m := by rintro rfl; exact hq rfl
        simp [Core.put, sget_sset, hm]
      | _ => rfl)

theorem views_aov (n : Nat) : Views (fun c => sget noBit c.aov n) (.aov n) :=
  views_of (fun c c' h => by simp [h.aov]) (fun m v c _ => by obtain ⟨l, h⟩ := put_g m v c; rw [h])
    (fun q v c hg hq => by
      cases q with
      | g m => exact absurd rfl (hg m)
      | aov m =>
        have hm : n ≠ m := by rintro rfl; exact hq rfl
        simp [Core.put, sget_sset, hm]
      | _ => rfl)

theorem views_sp : Views Core.sp .sp :=
  views_of (fun c c' h => h.sp) (fun m v c _ => by obtain ⟨l, h⟩ := put_g m v c; rw [h])
    (fun q v c hg hq => by
      cases q with
      | g m => exact absurd rfl (hg m)
      | sp => exact absurd rfl hq
      | _ => rfl)

theorem views_ie : Views Core.ie .ie :=
  views_of (fun c c' h => h.ie) (fun m v c _ => by obtain ⟨l, h⟩ := put_g m v c; rw [h])
    (fun q v c hg hq => by
      cases q with
      | g m => exact absurd rfl (hg m)
      | ie => exact absurd rfl hq
      | _ => rfl)

theorem views_ldepth : Views Core.ldepth .ldepth :=
  views_of (fun c c' h => h.ldepth) (fun m v c _ => by obtain ⟨l, h⟩ := put_g m v c; rw [h])
    (fun q v c hg hq => by
      cases q with
      | g m => exact absurd rfl (hg m)
      | ldepth => exact absurd rfl hq
      | _ => rfl)

theorem views_mflt : Views Core.mflt .mflt :=
  views_of (fun c c' h => h.mflt) (fun m v c _ => by obtain ⟨l, h⟩ := put_g m v c; rw [h])
    (fun q v c hg hq => by
      cases q with
      | g m => exact absurd rfl (hg m)
      | mflt => exact absurd rfl hq
      | _ => rfl)

/-! ## Results that take their place -/

/-- The results of a list on one register. -/
def onReg (r : IzReg) (l : List IzPend) : List IzPend := l.filter fun p => homeReg p.reg = r

/-- A register that no result of a list belongs to reads as before. -/
theorem commitDue_other {α : Type} {π : Core → α} {r : IzReg} (hπ : Views π r) (l : List IzPend) (c : Core)
    (h : ∀ p ∈ l, p.left = 0 → homeReg p.reg ≠ r) : π (commitDue l c) = π c := by
  induction l generalizing c with
  | nil => rfl
  | cons p t ih =>
    unfold commitDue
    rw [ih _ fun q hq => h q (List.mem_cons_of_mem _ hq)]
    split
    · exact hπ.other _ _ _ (h p (by simp) ‹_›)
    · rfl

theorem commitDue_append (l m : List IzPend) (c : Core) : commitDue (l ++ m) c = commitDue m (commitDue l c) := by
  induction l generalizing c with
  | nil => rfl
  | cons p t ih => exact ih _

/-- Two cores differ in their registers alone. -/
structure Core.SameRest (c c' : Core) : Prop where
  pend : c'.pend = c.pend
  pc : c'.pc = c.pc
  delay : c'.delay = c.delay
  rep : c'.rep = c.rep
  ram : c'.ram = c.ram
  wc : c'.wc = c.wc
  stepAsked : c'.stepAsked = c.stepAsked
  moving : c'.moving = c.moving
  code : c'.code = c.code
  issuing : c'.issuing = c.issuing
  wdogAt : c'.wdogAt = c.wdogAt

theorem Core.SameRest.trans {c d e : Core} (h : c.SameRest d) (k : d.SameRest e) : c.SameRest e :=
  ⟨k.pend.trans h.pend, k.pc.trans h.pc, k.delay.trans h.delay, k.rep.trans h.rep, k.ram.trans h.ram, k.wc.trans h.wc,
    k.stepAsked.trans h.stepAsked, k.moving.trans h.moving, k.code.trans h.code, k.issuing.trans h.issuing,
    k.wdogAt.trans h.wdogAt⟩

/-- A result changes the registers alone. -/
theorem put_rest (q : IzReg) (v : Nat) (c : Core) : c.SameRest (c.put q v) := by
  cases q with
  | g n => obtain ⟨l, h⟩ := put_g n v c; rw [h]; exact ⟨rfl, rfl, rfl, rfl, rfl, rfl, rfl, rfl, rfl, rfl, rfl⟩
  | _ => exact ⟨rfl, rfl, rfl, rfl, rfl, rfl, rfl, rfl, rfl, rfl, rfl⟩

@[simp] theorem put_pend (q : IzReg) (v : Nat) (c : Core) : (c.put q v).pend = c.pend := (put_rest q v c).pend

/-- A commit changes the registers alone. -/
theorem commitDue_rest (l : List IzPend) (c : Core) : c.SameRest (commitDue l c) := by
  induction l generalizing c with
  | nil => exact ⟨rfl, rfl, rfl, rfl, rfl, rfl, rfl, rfl, rfl, rfl, rfl⟩
  | cons p t ih =>
    unfold commitDue
    split
    · exact (put_rest p.reg p.val c).trans (ih _)
    · exact ih c

@[simp] theorem tick_pc (c : Core) : c.tick.pc = c.pc := (commitDue_rest _ _).pc
@[simp] theorem tick_delay (c : Core) : c.tick.delay = c.delay := (commitDue_rest _ _).delay
@[simp] theorem tick_rep (c : Core) : c.tick.rep = c.rep := (commitDue_rest _ _).rep
@[simp] theorem tick_ram (c : Core) : c.tick.ram = c.ram := (commitDue_rest _ _).ram
@[simp] theorem tick_wc (c : Core) : c.tick.wc = c.wc := (commitDue_rest _ _).wc
@[simp] theorem tick_stepAsked (c : Core) : c.tick.stepAsked = c.stepAsked := (commitDue_rest _ _).stepAsked
@[simp] theorem tick_moving (c : Core) : c.tick.moving = c.moving := (commitDue_rest _ _).moving
@[simp] theorem tick_code (c : Core) : c.tick.code = c.code := (commitDue_rest _ _).code
@[simp] theorem tick_wdogAt (c : Core) : c.tick.wdogAt = c.wdogAt := (commitDue_rest _ _).wdogAt
@[simp] theorem complete_pc (c : Core) : c.complete.pc = c.pc := (commitDue_rest _ _).pc
@[simp] theorem complete_delay (c : Core) : c.complete.delay = c.delay := (commitDue_rest _ _).delay
@[simp] theorem complete_rep (c : Core) : c.complete.rep = c.rep := (commitDue_rest _ _).rep
@[simp] theorem complete_ram (c : Core) : c.complete.ram = c.ram := (commitDue_rest _ _).ram
@[simp] theorem complete_wc (c : Core) : c.complete.wc = c.wc := (commitDue_rest _ _).wc
@[simp] theorem complete_stepAsked (c : Core) : c.complete.stepAsked = c.stepAsked := (commitDue_rest _ _).stepAsked
@[simp] theorem complete_moving (c : Core) : c.complete.moving = c.moving := (commitDue_rest _ _).moving
@[simp] theorem complete_code (c : Core) : c.complete.code = c.code := (commitDue_rest _ _).code
@[simp] theorem complete_wdogAt (c : Core) : c.complete.wdogAt = c.wdogAt := (commitDue_rest _ _).wdogAt
@[simp] theorem complete_issuing (c : Core) : c.complete.issuing = c.issuing := (commitDue_rest _ _).issuing
@[simp] theorem complete_pend (c : Core) : c.complete.pend = [] := rfl

/-- A core with nothing in flight is settled. -/
theorem complete_of_pend_nil (c : Core) (h : c.pend = []) : c.complete = c := by
  cases c
  simp only at h
  subst h
  rfl

@[simp] theorem complete_complete (c : Core) : c.complete.complete = c.complete := complete_of_pend_nil _ rfl

/-- The distance pending on a register is that of the result that becomes readable last (R427). -/
theorem le_pendLeft {c : Core} {p : IzPend} {q : IzReg} (hp : p ∈ c.pend) (hreg : homeReg p.reg = homeReg q) :
    p.left ≤ c.pendLeft q := by
  have hfold : ∀ (l : List IzPend) (m : Nat),
      m ≤ l.foldl (fun m p => if homeReg p.reg = homeReg q then max m p.left else m) m ∧
        (p ∈ l → p.left ≤ l.foldl (fun m p => if homeReg p.reg = homeReg q then max m p.left else m) m) := by
    intro l
    induction l with
    | nil => simp
    | cons a t ih =>
      intro m
      obtain ⟨hm, ht⟩ := ih (if homeReg a.reg = homeReg q then max m a.left else m)
      rw [List.foldl_cons]
      refine ⟨le_trans (by split <;> omega) hm, fun hp => ?_⟩
      rcases List.mem_cons.mp hp with rfl | hp
      · exact le_trans (by rw [if_pos hreg]; omega) hm
      · exact ht hp
  exact (hfold c.pend 0).2 hp

/-! ## The last result on a register -/

/-- Register r, read by π, is going to read x whatever passes: nothing is in flight on it and it reads x, or the last
result in flight on it makes it x, and no other of them becomes readable later (R427). -/
def Core.Will {α : Type} (c : Core) (r : IzReg) (π : Core → α) (x : α) : Prop :=
  (onReg r c.pend = [] ∧ π c = x) ∨
    ∃ l e, onReg r c.pend = l ++ [e] ∧ (∀ p ∈ l, p.left ≤ e.left) ∧ ∀ d, π (Core.put e.reg e.val d) = x

section
variable {α : Type} {π : Core → α} {r q : IzReg} {x : α} {c c' : Core}

theorem onReg_append (r : IzReg) (l m : List IzPend) : onReg r (l ++ m) = onReg r l ++ onReg r m := List.filter_append ..

/-- A later result for the register decides it. -/
theorem will_later (d v : Nat) (e : Bool) (hq : q ≠ .g 0) (hv : ∀ b, π (Core.put q v b) = x) :
    (c.later q d v e).Will (homeReg q) π x := by
  refine .inr ⟨onReg (homeReg q) c.pend, ⟨q, v, max d (c.pendLeft q), e⟩, ?_, ?_, hv⟩
  · simp [Core.later, hq, onReg]
  · intro p hp
    have hmem := List.mem_filter.mp hp
    exact le_max_of_le_right (le_pendLeft hmem.1 (by simpa using hmem.2))

/-- A result in flight leaves what the registers read. -/
theorem later_regs (q : IzReg) (d v : Nat) (e : Bool) (c : Core) : Core.SameRegs c (c.later q d v e) := by
  unfold Core.later
  split <;> exact ⟨rfl, rfl, rfl, rfl, rfl, rfl, rfl, rfl, rfl, rfl, rfl, rfl, rfl⟩

/-- A result for another register is none of this register's. -/
theorem later_onReg_other (d v : Nat) (e : Bool) (hq : homeReg q ≠ r) : onReg r (c.later q d v e).pend = onReg r c.pend := by
  unfold Core.later
  split
  · rfl
  · rw [onReg_append]
    simp [onReg, hq]

/-- A result for another register leaves the decision. -/
theorem will_later_other (d v : Nat) (e : Bool) (hq : homeReg q ≠ r) (hπ : Views π r) (h : c.Will r π x) :
    (c.later q d v e).Will r π x := by
  unfold Core.Will
  rw [later_onReg_other d v e hq, hπ.regs c _ (later_regs q d v e c)]
  exact h

/-- What only moves other parts of the core leaves the decision. -/
theorem will_of_same (hπ : Views π r) (hpend : c'.pend = c.pend) (hregs : Core.SameRegs c c') (h : c.Will r π x) :
    c'.Will r π x := by
  unfold Core.Will
  rw [hpend, hπ.regs c c' hregs]
  exact h

/-- A register that only results of others take is unchanged, and the last one due decides it. -/
theorem commitDue_last (hπ : Views π r) {l m : List IzPend} {e : IzPend} (hlast : onReg r l = m ++ [e]) (he : e.left = 0)
    (hv : ∀ d, π (Core.put e.reg e.val d) = x) (c : Core) : π (commitDue l c) = x := by
  induction l generalizing m c with
  | nil => simp [onReg] at hlast
  | cons p t ih =>
    unfold commitDue
    by_cases hp : homeReg p.reg = r
    · cases m with
      | nil =>
        have heq : p = e ∧ onReg r t = [] := by simpa [onReg, hp] using hlast
        obtain ⟨rfl, ht⟩ := heq
        rw [if_pos he, commitDue_other hπ]
        · exact hv _
        · intro q hq _ hreg
          have : q ∈ onReg r t := List.mem_filter.mpr ⟨hq, by simpa using hreg⟩
          rw [ht] at this
          cases this
      | cons a m =>
        have ht : onReg r t = m ++ [e] := by
          have := hlast
          simp only [onReg, List.filter_cons, hp, decide_true, if_true, List.cons_append, List.cons.injEq] at this
          exact this.2
        exact ih ht _
    · have ht : onReg r t = m ++ [e] := by simpa [onReg, hp] using hlast
      exact ih ht _

/-- Once everything in flight is in its place, the register reads what was decided. -/
theorem complete_will (hπ : Views π r) (h : c.Will r π x) : π c.complete = x := by
  have hzero : ∀ l : List IzPend, onReg r (l.map fun p => { p with left := 0 }) =
      (onReg r l).map fun p => { p with left := 0 } := by
    intro l
    simp [onReg, List.filter_map, Function.comp_def]
  have hview : π c.complete = π (commitDue (c.pend.map fun p => { p with left := 0 }) c) :=
    hπ.regs _ _ ⟨rfl, rfl, rfl, rfl, rfl, rfl, rfl, rfl, rfl, rfl, rfl, rfl, rfl⟩
  rw [hview]
  rcases h with ⟨hnone, hx⟩ | ⟨l, e, hlast, -, hv⟩
  · rw [commitDue_other hπ, hx]
    intro p hp _ hreg
    have : p ∈ onReg r (c.pend.map fun p => { p with left := 0 }) := List.mem_filter.mpr ⟨hp, by simpa using hreg⟩
    rw [hzero, hnone] at this
    cases this
  · refine commitDue_last hπ (m := l.map fun p => { p with left := 0 }) (e := { e with left := 0 }) ?_ rfl hv c
    rw [hzero, hlast, List.map_append]
    rfl

/-- What is decided stays decided once everything is in its place. -/
theorem will_complete (hπ : Views π r) (h : c.Will r π x) : c.complete.Will r π x := .inl ⟨rfl, complete_will hπ h⟩

/-- What is decided stays decided as an instruction issues. -/
theorem will_tick (hπ : Views π r) (h : c.Will r π x) : c.tick.Will r π x := by
  have hmap : ∀ l : List IzPend, onReg r (l.map fun p => { p with left := p.left - 1 }) =
      (onReg r l).map fun p => { p with left := p.left - 1 } := by
    intro l
    simp [onReg, List.filter_map, Function.comp_def]
  have hpend : onReg r c.tick.pend = ((onReg r c.pend).map fun p => { p with left := p.left - 1 }).filter fun p => p.left != 0 := by
    rw [← hmap]
    simp [Core.tick, onReg, List.filter_filter, Bool.and_comm]
  have hview : π c.tick = π (commitDue (c.pend.map fun p => { p with left := p.left - 1 }) c) :=
    hπ.regs _ _ ⟨rfl, rfl, rfl, rfl, rfl, rfl, rfl, rfl, rfl, rfl, rfl, rfl, rfl⟩
  rcases h with ⟨hnone, hx⟩ | ⟨l, e, hlast, hle, hv⟩
  · refine .inl ⟨by rw [hpend, hnone]; rfl, ?_⟩
    rw [hview, commitDue_other hπ, hx]
    intro p hp _ hreg
    have : p ∈ onReg r (c.pend.map fun p => { p with left := p.left - 1 }) := List.mem_filter.mpr ⟨hp, by simpa using hreg⟩
    rw [hmap, hnone] at this
    cases this
  · rw [hlast, List.map_append] at hpend
    by_cases he : e.left - 1 = 0
    · refine .inl ⟨?_, ?_⟩
      · rw [hpend, List.filter_eq_nil_iff]
        intro p hp
        simp only [List.map_cons, List.map_nil, List.mem_append, List.mem_map, List.mem_singleton] at hp
        rcases hp with ⟨b, hb, rfl⟩ | rfl
        · have := hle b hb
          simp
          omega
        · simp [he]
      · rw [hview]
        refine commitDue_last hπ (m := l.map fun p => { p with left := p.left - 1 }) (e := { e with left := e.left - 1 }) ?_ he
          hv c
        rw [hmap, hlast, List.map_append]
        rfl
    · refine .inr ⟨(l.map fun p => { p with left := p.left - 1 }).filter fun p => p.left != 0, { e with left := e.left - 1 }, ?_, ?_, hv⟩
      · rw [hpend, List.filter_append]
        simp [he]
      · intro p hp
        obtain ⟨hp, -⟩ := List.mem_filter.mp hp
        obtain ⟨b, hb, rfl⟩ := List.mem_map.mp hp
        exact Nat.sub_le_sub_right (hle b hb) 1

/-- A write between two instructions decides its register, where nothing in flight is already due. -/
theorem will_now (v : Nat) (hq : q ≠ .g 0) (hdue : ∀ p ∈ c.pend, p.left ≠ 0) (hv : ∀ b, π (Core.put q v b) = x) :
    (c.now q v).Will (homeReg q) π x := by
  unfold Core.now
  split
  next hleft =>
    refine .inl ⟨?_, hv c⟩
    rw [put_pend, onReg, List.filter_eq_nil_iff]
    intro p hp hreg
    have := le_pendLeft hp (by simpa using hreg)
    have := hdue p hp
    omega
  next => exact will_later 0 v false hq hv

/-- A write between two instructions leaves the decision on another register. -/
theorem will_now_other (v : Nat) (hq : homeReg q ≠ r) (hπ : Views π r) (h : c.Will r π x) : (c.now q v).Will r π x := by
  unfold Core.now
  split
  · rcases h with ⟨hnone, hx⟩ | ⟨l, e, hlast, hle, hv⟩
    · exact .inl ⟨by rw [put_pend]; exact hnone, (hπ.other q v c hq).trans hx⟩
    · exact .inr ⟨l, e, by rw [put_pend]; exact hlast, hle, hv⟩
  · exact will_later_other 0 v false hq hπ h

/-- After an instruction nothing that was due is still in flight. -/
theorem tick_due (c : Core) : ∀ p ∈ c.tick.pend, p.left ≠ 0 := by
  intro p hp
  have := (List.mem_filter.mp hp).2
  simpa using this

/-! ## Results in issue order -/

/-- The results of a register become readable in issue order, and once they all are the register reads x (R427). -/
def Core.Fixed {α : Type} (c : Core) (r : IzReg) (π : Core → α) (x : α) : Prop :=
  (onReg r c.pend).Pairwise (fun p q => p.left ≤ q.left) ∧ π c.complete = x

/-- What a register reads after a result depends on what it read before alone. -/
def Determined {α : Type} (π : Core → α) : Prop := ∀ q v c c', π c = π c' → π (Core.put q v c) = π (Core.put q v c')

theorem commitDue_congr (hdet : Determined π) (l : List IzPend) (h : π c = π c') :
    π (commitDue l c) = π (commitDue l c') := by
  induction l generalizing c c' with
  | nil => exact h
  | cons p t ih =>
    unfold commitDue
    split
    · exact ih (hdet _ _ _ _ h)
    · exact ih h

/-- Every result of a list takes its place, in order. -/
def commitAll (l : List IzPend) (c : Core) : Core := commitDue (l.map fun p => { p with left := 0 }) c

theorem commitAll_cons (p : IzPend) (t : List IzPend) (c : Core) : commitAll (p :: t) c = commitAll t (c.put p.reg p.val) := rfl

theorem complete_view (hπ : Views π r) (c : Core) : π c.complete = π (commitAll c.pend c) :=
  hπ.regs _ _ ⟨rfl, rfl, rfl, rfl, rfl, rfl, rfl, rfl, rfl, rfl, rfl, rfl, rfl⟩

/-- Of results that become readable in issue order, placing those that are due first and the others after them places all. -/
theorem commitAll_filter (hπ : Views π r) (hdet : Determined π) (l : List IzPend)
    (hord : (onReg r l).Pairwise (fun p q => p.left ≤ q.left)) (c : Core) :
    π (commitAll (l.filter fun p => p.left != 0) (commitDue l c)) = π (commitAll l c) := by
  induction l generalizing c with
  | nil => rfl
  | cons p t ih =>
    have hordt : (onReg r t).Pairwise (fun p q => p.left ≤ q.left) := by
      refine List.Pairwise.sublist ?_ hord
      exact List.Sublist.filter _ (List.sublist_cons_self p t)
    unfold commitDue
    rw [commitAll_cons]
    by_cases hp : p.left = 0
    · rw [if_pos hp, List.filter_cons_of_neg (by simp [hp])]
      exact ih hordt _
    · rw [if_neg hp, List.filter_cons_of_pos (by simp [hp]), commitAll_cons]
      by_cases hreg : homeReg p.reg = r
      · have hlater : ∀ q ∈ t, q.left = 0 → homeReg q.reg ≠ r := by
          intro q hq hleft hqr
          have hcons : onReg r (p :: t) = p :: onReg r t := by simp [onReg, hreg]
          rw [hcons] at hord
          have := (List.pairwise_cons.mp hord).1 q (List.mem_filter.mpr ⟨hq, by simpa using hqr⟩)
          omega
        rw [← ih hordt (c.put p.reg p.val)]
        refine commitDue_congr hdet _ ?_
        rw [commitDue_other hπ t _ hlater]
        exact hdet _ _ _ _ (commitDue_other hπ t c hlater)
      · have hskip : ∀ d, π (Core.put p.reg p.val d) = π d := fun d => hπ.other _ _ d hreg
        calc π (commitAll (t.filter fun p => p.left != 0) ((commitDue t c).put p.reg p.val))
            = π (commitAll (t.filter fun p => p.left != 0) (commitDue t c)) := commitDue_congr hdet _ (hskip _)
          _ = π (commitAll t c) := ih hordt c
          _ = π (commitAll t (c.put p.reg p.val)) := commitDue_congr hdet _ (hskip _).symm

theorem onReg_map_pred (r : IzReg) (l : List IzPend) : onReg r (l.map fun p => { p with left := p.left - 1 }) =
    (onReg r l).map fun p => { p with left := p.left - 1 } := by
  simp [onReg, List.filter_map, Function.comp_def]

/-- Results in issue order settle to the same value after an instruction. -/
theorem fixed_tick (hπ : Views π r) (hdet : Determined π) (h : c.Fixed r π x) : c.tick.Fixed r π x := by
  obtain ⟨hord, hx⟩ := h
  have hmap : (onReg r (c.pend.map fun p => { p with left := p.left - 1 })).Pairwise (fun p q => p.left ≤ q.left) := by
    rw [onReg_map_pred]
    exact List.pairwise_map.mpr (hord.imp fun h => Nat.sub_le_sub_right h 1)
  refine ⟨?_, ?_⟩
  · refine hmap.sublist ?_
    exact List.Sublist.filter _ List.filter_sublist
  · have hview : π c.tick = π (commitDue (c.pend.map fun p => { p with left := p.left - 1 }) c) :=
      hπ.regs _ _ ⟨rfl, rfl, rfl, rfl, rfl, rfl, rfl, rfl, rfl, rfl, rfl, rfl, rfl⟩
    have hzero : commitAll (c.pend.map fun p => { p with left := p.left - 1 }) c = commitAll c.pend c := by
      simp [commitAll, Function.comp_def]
    rw [complete_view hπ, ← hx, complete_view hπ, ← hzero, ← commitAll_filter hπ hdet _ hmap]
    exact commitDue_congr hdet _ hview

theorem fixed_complete (h : c.Fixed r π x) : c.complete.Fixed r π x := ⟨List.Pairwise.nil, by rw [complete_complete]; exact h.2⟩

theorem fixed_of_same (hπ : Views π r) (hdet : Determined π) (hpend : c'.pend = c.pend) (hregs : Core.SameRegs c c')
    (h : c.Fixed r π x) : c'.Fixed r π x := by
  refine ⟨by rw [hpend]; exact h.1, ?_⟩
  rw [← h.2, complete_view hπ, complete_view hπ, hpend]
  exact commitDue_congr hdet _ (hπ.regs c c' hregs)

/-- A result of another register, among those of a list, leaves what the list makes of this one. -/
theorem commitAll_append_other (hπ : Views π r) (l : List IzPend) (p : IzPend) (hp : homeReg p.reg ≠ r) (c : Core) :
    π (commitAll (l ++ [p]) c) = π (commitAll l c) := by
  unfold commitAll
  rw [List.map_append, commitDue_append]
  exact hπ.other _ _ _ hp

theorem fixed_later_other (d v : Nat) (e : Bool) (hq : homeReg q ≠ r) (hπ : Views π r) (hdet : Determined π)
    (h : c.Fixed r π x) : (c.later q d v e).Fixed r π x := by
  refine ⟨by rw [later_onReg_other d v e hq]; exact h.1, ?_⟩
  rw [← h.2, complete_view hπ, complete_view hπ]
  have hregs := hπ.regs c _ (later_regs q d v e c)
  refine (commitDue_congr hdet _ hregs).trans ?_
  unfold Core.later
  split
  · rfl
  · exact commitAll_append_other hπ c.pend _ hq c

theorem fixed_now_other (v : Nat) (hq : homeReg q ≠ r) (hπ : Views π r) (hdet : Determined π) (h : c.Fixed r π x) :
    (c.now q v).Fixed r π x := by
  unfold Core.now
  split
  · refine ⟨by rw [put_pend]; exact h.1, ?_⟩
    rw [← h.2, complete_view hπ, complete_view hπ, put_pend]
    exact commitDue_congr hdet _ (hπ.other q v c hq)
  · exact fixed_later_other 0 v false hq hπ hdet h

/-- A result for the register itself, after those in issue order, is the last one to take its place. -/
theorem fixed_later (d v : Nat) (e : Bool) (hq : q ≠ .g 0) (hπ : Views π (homeReg q))
    (hord : (onReg (homeReg q) c.pend).Pairwise (fun p q => p.left ≤ q.left)) (hdet : Determined π) :
    (c.later q d v e).Fixed (homeReg q) π (π (Core.put q v c.complete)) := by
  have hpend : (c.later q d v e).pend = c.pend ++ [⟨q, v, max d (c.pendLeft q), e⟩] := by simp [Core.later, hq]
  refine ⟨?_, ?_⟩
  · rw [hpend, onReg_append, List.pairwise_append]
    refine ⟨hord, by simp [onReg], fun p hp p' hp' => ?_⟩
    have hmem := List.mem_filter.mp hp
    have hle : p.left ≤ c.pendLeft q := le_pendLeft hmem.1 (by simpa using hmem.2)
    obtain rfl : p' = ⟨q, v, max d (c.pendLeft q), e⟩ := by simpa [onReg] using hp'
    exact le_max_of_le_right hle
  · have hregs := hπ.regs c _ (later_regs q d v e c)
    rw [complete_view hπ, hpend]
    refine (commitDue_congr hdet _ hregs).trans ?_
    rw [List.map_append, commitDue_append]
    exact hdet _ _ _ _ (complete_view hπ c).symm

/-- A core whose results are in issue order has those of each register in issue order. -/
theorem ordered_onReg (h : c.ordered = true) (r : IzReg) : (onReg r c.pend).Pairwise (fun p q => p.left ≤ q.left) := by
  have hall : c.pend.Pairwise (fun p q => homeReg p.reg = homeReg q.reg → p.left ≤ q.left) := by
    simpa [Core.ordered] using h
  unfold onReg
  rw [List.pairwise_filter]
  refine hall.imp fun h hp hq => h ?_
  simp only [decide_eq_true_eq] at hp hq
  exact hp.trans hq.symm

theorem determined_acc (n : Nat) : Determined (fun c => c.acc n) := by
  intro q v c c' h
  cases q with
  | a m => by_cases hm : n = m <;> simp_all [Core.put, Core.acc, sget_sset]
  | aPart m part => by_cases hm : n = m <;> simp_all [Core.put, Core.acc, sget_sset]
  | g m =>
    obtain ⟨l, hl⟩ := put_g m v c
    obtain ⟨l', hl'⟩ := put_g m v c'
    rw [hl, hl']
    exact h
  | _ => exact h

/-! ## What stays while the core moves on -/

/-- P says something of register r that nothing but a result for r itself ends. -/
structure Stays (r : IzReg) (P : Core → Prop) : Prop where
  tick : ∀ c, P c → P c.tick
  complete : ∀ c, P c → P c.complete
  same : ∀ c c', c'.pend = c.pend → Core.SameRegs c c' → P c → P c'
  later : ∀ q d v e c, homeReg q ≠ r → P c → P (Core.later q d v e c)
  now : ∀ q v c, homeReg q ≠ r → P c → P (Core.now q v c)

theorem will_stays (hπ : Views π r) (x : α) : Stays r fun c => c.Will r π x where
  tick _ h := will_tick hπ h
  complete _ h := will_complete hπ h
  same _ _ hpend hregs h := will_of_same hπ hpend hregs h
  later _ d v e _ hq h := will_later_other d v e hq hπ h
  now _ v _ hq h := will_now_other v hq hπ h

theorem fixed_stays (hπ : Views π r) (hdet : Determined π) (x : α) : Stays r fun c => c.Fixed r π x where
  tick _ h := fixed_tick hπ hdet h
  complete _ h := fixed_complete h
  same _ _ hpend hregs h := fixed_of_same hπ hdet hpend hregs h
  later _ d v e _ hq h := fixed_later_other d v e hq hπ hdet h
  now _ v _ hq h := fixed_now_other v hq hπ hdet h

end

end Sys2Proof.Machine
end

section
/-! SUPPORT. The issue of one iteration (R421 to R437, R450): what an iteration that issues, without asking another core to
step, leaves of its core once results, loop check, delay slot and a waiting HALT are seen to. -/

set_option Elab.async false

namespace Sys2Proof.Machine

/-! ## Cores of a state -/

/-- Of two entries stored at one key the later stands. -/
theorem sset_sset {α : Type} [DecidableEq α] (d : Nat → α) (k : Nat) (v w : α) (l : List (Nat × α)) :
    sset d k w (sset d k v l) = sset d k w l := by
  have hfilter : ∀ m : List (Nat × α), (∀ p ∈ m, p.1 ≠ k) → ((sins k v m).filter fun p => p.1 != k) = m := by
    intro m
    induction m with
    | nil => simp [sins]
    | cons p t ih =>
      intro hm
      have hp : p.1 ≠ k := hm p (by simp)
      have ht : (t.filter fun p => p.1 != k) = t := by
        rw [List.filter_eq_self]
        intro q hq
        simpa using hm q (by simp [hq])
      unfold sins
      split
      · simp [hp, ht]
      · simp [hp, ih fun q hq => hm q (by simp [hq])]
  have hr : (sset d k v l).filter (fun p => p.1 != k) = l.filter fun p => p.1 != k := by
    unfold sset
    dsimp only
    split
    · simp
    · exact hfilter _ (by simp)
  show (if w = d k then (sset d k v l).filter (fun p => p.1 != k) else sins k w ((sset d k v l).filter fun p => p.1 != k)) = _
  rw [hr]
  rfl

@[simp] theorem setCore_setCore (s : State) (k : Nat) (c d : Core) : (s.setCore k c).setCore k d = s.setCore k d := by
  simp [State.setCore, sset_sset]

theorem core_setCore_other (s : State) {k j : Nat} (c : Core) (h : j ≠ k) : (s.setCore k c).core j = s.core j := by
  rw [core_setCore, if_neg h]

theorem core_of_cores {s u : State} (h : u.cores = s.cores) (j : Nat) : u.core j = s.core j := by
  unfold State.core
  rw [h]

@[simp] theorem setF_core (s : State) (f : Fld) (v j : Nat) : (s.setF f v).core j = s.core j :=
  core_of_cores (setF_cores s f v) j

/-! ## Halting -/

/-- A core that stops keeps its place with everything in flight in its own. -/
theorem coreStop_core (k : Nat) (s : State) : (coreStop k s).core k = (s.core k).complete := by simp [coreStop]

theorem coreStop_core_other {k j : Nat} (s : State) (h : j ≠ k) : (coreStop k s).core j = s.core j := by
  unfold coreStop
  dsimp only
  rw [setF_core, setF_core, core_setCore_other _ _ h]

/-- A HALT that waits either takes effect or does nothing. -/
theorem haltTry_cases (k : Nat) (s : State) : haltTry k s = s ∨
    (haltTry k s = coreStop k s ∧ s.flag (SEQk_CTL_HALT k) = true ∧ (s.core k).boundary = true) := by
  unfold haltTry
  split
  next h =>
    simp only [Bool.and_eq_true] at h
    exact .inr ⟨rfl, h.1.1.1, h.1.2⟩
  next => exact .inl rfl

/-- A core that is not asked to halt goes on. -/
theorem haltTry_no_halt {k : Nat} {s : State} (h : s.flag (SEQk_CTL_HALT k) = false) : haltTry k s = s := by
  simp [haltTry, h]

/-- A core in a delay slot goes on. -/
theorem haltTry_delay {k : Nat} {s : State} (h : (s.core k).delay.isSome = true) : haltTry k s = s := by
  unfold haltTry
  rw [if_neg]
  simp [Core.boundary, Option.isSome_iff_ne_none.mp h]

/-- What completion keeps, a HALT that waits keeps. -/
theorem haltTry_keeps {P : Core → Prop} {k : Nat} {s : State} (hP : ∀ c, P c → P c.complete) (h : P (s.core k)) :
    P ((haltTry k s).core k) := by
  rcases haltTry_cases k s with hs | ⟨hs, -, -⟩
  · rw [hs]; exact h
  · rw [hs, coreStop_core]; exact hP _ h

@[simp] theorem haltTry_stepAsked (k j : Nat) (s : State) : ((haltTry k s).core j).stepAsked = (s.core j).stepAsked := by
  rcases haltTry_cases k s with hs | ⟨hs, -, -⟩
  · rw [hs]
  · rw [hs]
    by_cases hj : j = k
    · subst hj
      rw [coreStop_core, complete_stepAsked]
    · rw [coreStop_core_other _ hj]

/-- Where no core waits to step, none steps. -/
theorem runSteps_idle (n : Nat) (s : State) (h : ∀ j, j < 8 → (s.core j).stepAsked = false) : runSteps n s = s := by
  cases n with
  | zero => rfl
  | succ n =>
    unfold runSteps
    have hnone : ((List.range 8).find? fun k => (s.core k).stepAsked && !(s.core k).moving) = none := by
      rw [List.find?_eq_none]
      intro j hj
      simp [h j (List.mem_range.mp hj)]
    rw [hnone]

/-! ## An iteration -/

/-- The state in which an iteration is carried out: its count is latched (R441). -/
def State.latched (s : State) (h : IzHead) : State :=
  s.setCore h.core { s.core h.core with rep := (s.core h.core).repCount h.pre, issuing := true }

/-- The address of the byte after an instruction that a core issues at its PC. -/
def State.afterOp (s : State) (h : IzHead) (o : IzOp) : Nat := (s.core h.core).pc.toNat + (preLen h.pre + opLen o)

/-- What the iteration of a core does. -/
def State.iteration (s : State) (h : IzHead) (o : IzOp) : IzRes :=
  izDo h.core h.pre o (s.afterOp h o) ((s.core h.core).after (s.afterOp h o)) h.replies (s.latched h)

/-- The iterations that remain after one (R429). -/
def State.left (s : State) (h : IzHead) : Nat := ((s.core h.core).repCount h.pre).getD 1 - 1

/-- The state an iteration leaves, before a HALT that waits and the steps it asked for. -/
def State.acted (s : State) (h : IzHead) (o : IzOp) : State :=
  izAct h.core (s.core h.core).pc.toNat (s.afterOp h o) (s.left h) h.replies (s.latched h) (s.iteration h o)

section
variable {s u : State} {h : IzHead} {o : IzOp}

/-- What a core needs to issue. -/
theorem issues_iff : s.issues h o = true ↔ s.coreLive h.core = true ∧ s.seqState h.core = 1 ∧
    izStatic (s.core h.core) (.op h.pre o) = none ∧ (s.core h.core).repCount h.pre ≠ some 0 ∧
    ∀ j, j < 8 → (s.core j).stepAsked = false := by
  unfold State.issues
  simp [and_assoc]

/-- An instruction that issues is carried out, and its core takes note of a HALT that waits. -/
theorem izIssue_acts (hi : s.issues h o = true) :
    izIssue h o s = runSteps stepBound (haltTry h.core (s.acted h o)) := by
  obtain ⟨hlive, hrun, hstatic, hrep, -⟩ := issues_iff.mp hi
  unfold izIssue izIssueFetch
  dsimp only
  rw [if_pos (by simp [hlive, hrun])]
  unfold izRun
  dsimp only
  rw [hstatic]
  dsimp only
  rw [if_neg hrep]
  rfl

/-- An iteration that asks no core to step is all that happens. -/
theorem izIssue_eq (hi : s.issues h o = true) (hstep : ∀ j, ((s.acted h o).core j).stepAsked = (s.core j).stepAsked) :
    izIssue h o s = haltTry h.core (s.acted h o) := by
  obtain ⟨-, -, -, -, hidle⟩ := issues_iff.mp hi
  rw [izIssue_acts hi, runSteps_idle]
  intro j hj
  rw [haltTry_stepAsked, hstep, hidle j hj]

@[simp] theorem latched_core_same (s : State) (h : IzHead) : (s.latched h).core h.core =
    { s.core h.core with rep := (s.core h.core).repCount h.pre, issuing := true } := core_setCore_same ..

@[simp] theorem latched_stepAsked (s : State) (h : IzHead) (j : Nat) :
    ((s.latched h).core j).stepAsked = (s.core j).stepAsked := by
  unfold State.latched
  rw [core_setCore]
  split
  next hj => rw [hj]
  next => rfl

/-- A change of a core that keeps what it was asked keeps what every core was. -/
theorem setCore_stepAsked (s : State) (k j : Nat) (c : Core) (hc : c.stepAsked = (s.core k).stepAsked) :
    ((s.setCore k c).core j).stepAsked = (s.core j).stepAsked := by
  rw [core_setCore]
  split
  next hj => rw [hj, hc]
  next => rfl

@[simp] theorem izSlot_stepAsked (k j : Nat) (s : State) : ((izSlot k s).core j).stepAsked = (s.core j).stepAsked :=
  setCore_stepAsked _ _ _ _ (tick_stepAsked _)

@[simp] theorem izSlot_core (k : Nat) (s : State) : (izSlot k s).core k = { (s.core k).tick with issuing := false } :=
  core_setCore_same ..

@[simp] theorem now_stepAsked (q : IzReg) (v : Nat) (c : Core) : (c.now q v).stepAsked = c.stepAsked := by
  unfold Core.now Core.later
  repeat' split
  · exact (put_rest q v c).stepAsked
  · rfl
  · rfl

/-- What the loop check and the delay slot do to a core: its PC moves, and at the end of a loop the loop registers. -/
theorem finish_keeps {P : Core → Prop} {c : Core} (pc an : Nat) (hpc : ∀ d x, P d → P { d with pc := x })
    (hnow : ∀ q v d, (q = .ldepth ∨ ∃ j, q = .lc j) → c.atLoopEnd pc = true → P d → P (Core.now q v d))
    (hc : P { c with delay := none, rep := none }) : P (c.finish pc an) := by
  unfold Core.finish
  split
  · exact hpc _ _ hc
  · unfold Core.loopCheck
    split
    next hend =>
      have hend' : c.atLoopEnd pc = true := hend
      dsimp only
      split
      · exact hpc _ _ (hnow _ _ _ (.inr ⟨_, rfl⟩) hend' hc)
      · split
        · exact hpc _ _ (hnow _ _ _ (.inl rfl) hend' (hnow _ _ _ (.inr ⟨_, rfl⟩) hend' hc))
        · exact hpc _ _ hc
    next => exact hpc _ _ hc

@[simp] theorem finish_stepAsked (pc an : Nat) (c : Core) : (c.finish pc an).stepAsked = c.stepAsked :=
  finish_keeps (P := fun d => d.stepAsked = c.stepAsked) pc an (fun _ _ h => h)
    (fun q v d _ _ h => (now_stepAsked q v d).trans h) rfl

@[simp] theorem now_ram (q : IzReg) (v : Nat) (c : Core) : (c.now q v).ram = c.ram := by
  unfold Core.now Core.later
  repeat' split
  · exact (put_rest q v c).ram
  · rfl
  · rfl

@[simp] theorem finish_ram (pc an : Nat) (c : Core) : (c.finish pc an).ram = c.ram :=
  finish_keeps (P := fun d => d.ram = c.ram) pc an (fun _ _ h => h) (fun q v d _ _ h => (now_ram q v d).trans h) rfl

/-- The core after an iteration that neither traps nor branches. -/
theorem izOn_core (k pc an left : Nat) (s : State) : (izOn k pc an left s).core k =
    if 0 < left then { (s.core k).tick with issuing := false, rep := some left }
    else Core.finish pc an { (s.core k).tick with issuing := false } := by
  unfold izOn
  dsimp only
  rw [core_setCore_same, izSlot_core]

theorem izOn_stepAsked (k pc an left j : Nat) (s : State) :
    ((izOn k pc an left s).core j).stepAsked = (s.core j).stepAsked := by
  unfold izOn
  dsimp only
  rw [setCore_stepAsked, izSlot_stepAsked]
  split
  · rfl
  · rw [finish_stepAsked]

/-- What stays while the core moves on, stays as its PC, delay slot and REP count move. -/
theorem Stays.moves {r : IzReg} {P : Core → Prop} (hP : Stays r P) {c : Core} (pc : BitVec 24)
    (delay : Option (Option (BitVec 24))) (rep : Option Nat) (issuing : Bool) (hc : P c) :
    P { c with pc := pc, delay := delay, rep := rep, issuing := issuing } :=
  hP.same c { c with pc := pc, delay := delay, rep := rep, issuing := issuing } rfl
    ⟨rfl, rfl, rfl, rfl, rfl, rfl, rfl, rfl, rfl, rfl, rfl, rfl, rfl⟩ hc

/-- The loop check acts on the loop registers alone (R424). -/
theorem stays_finish {r : IzReg} {P : Core → Prop} (hP : Stays r P) {c : Core} (pc an : Nat)
    (hloop : c.atLoopEnd pc = false ∨ (r ≠ .ldepth ∧ ∀ j, r ≠ .lc j)) (hc : P c) : P (c.finish pc an) := by
  refine finish_keeps pc an ?_ ?_ (hP.moves _ _ _ _ hc)
  · exact fun d x hd => hP.moves _ _ _ _ hd
  · intro q v d hq hend hd
    have hr : r ≠ .ldepth ∧ ∀ j, r ≠ .lc j := hloop.resolve_left (by rw [hend]; exact nofun)
    refine hP.now q v d ?_ hd
    rcases hq with rfl | ⟨j, rfl⟩
    · exact Ne.symm hr.1
    · exact Ne.symm (hr.2 j)

/-- What stays while the core moves on, stays over an iteration that neither traps nor branches. -/
theorem stays_izOn {r : IzReg} {P : Core → Prop} (hP : Stays r P) {k : Nat} {u : State} (pc an left : Nat)
    (hloop : (u.core k).tick.atLoopEnd pc = false ∨ (r ≠ .ldepth ∧ ∀ j, r ≠ .lc j)) (hu : P (u.core k)) :
    P ((izOn k pc an left u).core k) := by
  rw [izOn_core]
  split
  · exact hP.moves _ _ _ _ (hP.tick _ hu)
  · exact stays_finish hP pc an hloop (hP.moves _ _ _ _ (hP.tick _ hu))

/-- The state after an iteration that completes. -/
theorem acted_done (hdo : s.iteration h o = .done u) :
    s.acted h o = izOn h.core (s.core h.core).pc.toNat (s.afterOp h o) (s.left h) u := by
  unfold State.acted
  rw [hdo]
  rfl

/-- The state after an iteration of a branch. -/
theorem acted_branch {target : Option Nat} (hdo : s.iteration h o = .branch target u) :
    s.acted h o = (izSlot h.core u).setCore h.core { (izSlot h.core u).core h.core with
      delay := some (target.map fun t => BitVec.ofNat 24 t), rep := none, pc := BitVec.ofNat 24 (s.afterOp h o) } := by
  unfold State.acted
  rw [hdo]
  rfl

/-- What an iteration that completes decides about a register stands when the instruction has issued. -/
theorem izIssue_stays {r : IzReg} {P : Core → Prop} (hP : Stays r P) (hi : s.issues h o = true)
    (hdo : s.iteration h o = .done u) (hstep : ∀ j, (u.core j).stepAsked = (s.core j).stepAsked)
    (hloop : (u.core h.core).tick.atLoopEnd (s.core h.core).pc.toNat = false ∨ (r ≠ .ldepth ∧ ∀ j, r ≠ .lc j))
    (hu : P (u.core h.core)) : P ((izIssue h o s).core h.core) := by
  have hacted := acted_done hdo
  rw [izIssue_eq hi (by intro j; rw [hacted, izOn_stepAsked, hstep]), hacted]
  exact haltTry_keeps hP.complete (stays_izOn hP _ _ _ hloop hu)

/-- The same of a branch, whose delay slot is never the end of a loop's body. -/
theorem izIssue_branch_stays {r : IzReg} {P : Core → Prop} {target : Option Nat} (hP : Stays r P) (hi : s.issues h o = true)
    (hdo : s.iteration h o = .branch target u) (hstep : ∀ j, (u.core j).stepAsked = (s.core j).stepAsked)
    (hu : P (u.core h.core)) :
    P ((izIssue h o s).core h.core) ∧
      ((izIssue h o s).core h.core).delay = some (target.map fun t => BitVec.ofNat 24 t) ∧
      ((izIssue h o s).core h.core).pc = BitVec.ofNat 24 (s.afterOp h o) ∧
      ((izIssue h o s).core h.core).ram = (u.core h.core).ram := by
  have hacted := acted_branch hdo
  have hcore : (s.acted h o).core h.core = { (u.core h.core).tick with
      issuing := false, delay := some (target.map fun t => BitVec.ofNat 24 t), rep := none,
      pc := BitVec.ofNat 24 (s.afterOp h o) } := by
    rw [hacted, core_setCore_same, izSlot_core]
  have hasked : ∀ j, ((s.acted h o).core j).stepAsked = (s.core j).stepAsked := by
    intro j
    rw [hacted, core_setCore]
    split
    next hj =>
      subst hj
      show ((izSlot h.core u).core h.core).stepAsked = _
      rw [izSlot_stepAsked, hstep]
    next => rw [izSlot_stepAsked, hstep]
  rw [izIssue_eq hi hasked, haltTry_delay (by rw [hcore]; rfl), hcore]
  exact ⟨hP.moves _ _ _ _ (hP.tick _ hu), rfl, rfl, tick_ram _⟩

/-- The local data RAM after an iteration that completes is what the iteration left. -/
theorem izIssue_ram (hi : s.issues h o = true) (hdo : s.iteration h o = .done u)
    (hstep : ∀ j, (u.core j).stepAsked = (s.core j).stepAsked) :
    ((izIssue h o s).core h.core).ram = (u.core h.core).ram := by
  have hacted := acted_done hdo
  rw [izIssue_eq hi (by intro j; rw [hacted, izOn_stepAsked, hstep]), hacted]
  have hon : ((izOn h.core (s.core h.core).pc.toNat (s.afterOp h o) (s.left h) u).core h.core).ram = (u.core h.core).ram := by
    rw [izOn_core]
    split
    · exact tick_ram _
    · rw [finish_ram]
      exact tick_ram _
  rw [← hon]
  refine haltTry_keeps (P := fun c => c.ram = _) (fun c hc => ?_) rfl
  rw [complete_ram, hc]

end

/-! ## Writes of an iteration -/

@[simp] theorem izW_core (k : Nat) (r : IzReg) (d v : Nat) (s : State) :
    (izW k r d v s).core k = (s.core k).later r d v false := core_setCore_same ..

@[simp] theorem izWE_core (k : Nat) (r : IzReg) (d v : Nat) (s : State) :
    (izWE k r d v s).core k = (s.core k).later r d v true := core_setCore_same ..

theorem later_stepAsked (q : IzReg) (d v : Nat) (e : Bool) (c : Core) : (c.later q d v e).stepAsked = c.stepAsked := by
  unfold Core.later
  split <;> rfl

@[simp] theorem izW_stepAsked (k j : Nat) (r : IzReg) (d v : Nat) (s : State) :
    ((izW k r d v s).core j).stepAsked = (s.core j).stepAsked := setCore_stepAsked _ _ _ _ (later_stepAsked ..)

@[simp] theorem izWE_stepAsked (k j : Nat) (r : IzReg) (d v : Nat) (s : State) :
    ((izWE k r d v s).core j).stepAsked = (s.core j).stepAsked := setCore_stepAsked _ _ _ _ (later_stepAsked ..)

theorem Core.SameRegs.trans {c d e : Core} (h : c.SameRegs d) (k : d.SameRegs e) : c.SameRegs e :=
  ⟨k.g.trans h.g, k.a.trans h.a, k.p.trans h.p, k.pb.trans h.pb, k.sd.trans h.sd, k.sp.trans h.sp, k.ls.trans h.ls,
    k.le.trans h.le, k.lc.trans h.lc, k.ie.trans h.ie, k.ldepth.trans h.ldepth, k.mflt.trans h.mflt, k.aov.trans h.aov⟩

theorem Core.SameRegs.symm {c d : Core} (h : c.SameRegs d) : d.SameRegs c :=
  ⟨h.g.symm, h.a.symm, h.p.symm, h.pb.symm, h.sd.symm, h.sp.symm, h.ls.symm, h.le.symm, h.lc.symm, h.ie.symm,
    h.ldepth.symm, h.mflt.symm, h.aov.symm⟩

/-- What an instruction commits: the results at distance 1 or less (R426). -/
theorem tick_regs (c : Core) : Core.SameRegs (commitDue (c.pend.map fun p => { p with left := p.left - 1 }) c) c.tick :=
  ⟨rfl, rfl, rfl, rfl, rfl, rfl, rfl, rfl, rfl, rfl, rfl, rfl, rfl⟩

/-- Cores that read alike read alike after the same results. -/
theorem put_sameRegs (q : IzReg) (v : Nat) {c d : Core} (h : c.SameRegs d) : (c.put q v).SameRegs (d.put q v) := by
  obtain ⟨hg, ha, hp, hpb, hsd, hsp, hls, hle, hlc, hie, hldepth, hmflt, haov⟩ := h
  cases q with
  | g n =>
    by_cases hn : n = 0
    · simpa only [Core.put, hn, if_true] using ⟨hg, ha, hp, hpb, hsd, hsp, hls, hle, hlc, hie, hldepth, hmflt, haov⟩
    · simp only [Core.put, hn, if_false]
      exact ⟨by rw [hg], ha, hp, hpb, hsd, hsp, hls, hle, hlc, hie, hldepth, hmflt, haov⟩
  | _ => constructor <;> simp only [Core.put, Core.acc, hg, ha, hp, hpb, hsd, hsp, hls, hle, hlc, hie, hldepth, hmflt, haov]

theorem commitDue_sameRegs (l : List IzPend) {c d : Core} (h : c.SameRegs d) : (commitDue l c).SameRegs (commitDue l d) := by
  induction l generalizing c d with
  | nil => exact h
  | cons p t ih =>
    unfold commitDue
    split
    · exact ih (put_sameRegs _ _ h)
    · exact ih h

/-- Cores that read alike and have the same results in flight read alike after an instruction. -/
theorem tick_sameRegs {c d : Core} (h : c.SameRegs d) (hpend : d.pend = c.pend) : c.tick.SameRegs d.tick := by
  refine (tick_regs c).symm.trans (Core.SameRegs.trans ?_ (tick_regs d))
  rw [hpend]
  exact commitDue_sameRegs _ h

theorem latched_tick_regs (s : State) (h : IzHead) : Core.SameRegs (s.core h.core).tick ((s.latched h).core h.core).tick := by
  rw [latched_core_same]
  refine tick_sameRegs ?_ rfl
  exact ⟨rfl, rfl, rfl, rfl, rfl, rfl, rfl, rfl, rfl, rfl, rfl, rfl, rfl⟩

/-- A result at a distance above 1 is not readable by the next instruction. -/
theorem tick_later_regs {d : Nat} (hd : 2 ≤ d) (q : IzReg) (v : Nat) (e : Bool) (c : Core) :
    Core.SameRegs c.tick (c.later q d v e).tick := by
  unfold Core.later
  split
  · exact ⟨rfl, rfl, rfl, rfl, rfl, rfl, rfl, rfl, rfl, rfl, rfl, rfl, rfl⟩
  · have hdue : max d (c.pendLeft q) - 1 ≠ 0 := by
      have := le_max_left d (c.pendLeft q)
      omega
    refine (tick_regs c).symm.trans (Core.SameRegs.trans ?_ (tick_regs _))
    dsimp only
    rw [List.map_append, commitDue_append]
    simp only [List.map_cons, List.map_nil, commitDue, if_neg hdue]
    refine commitDue_sameRegs _ ?_
    exact ⟨rfl, rfl, rfl, rfl, rfl, rfl, rfl, rfl, rfl, rfl, rfl, rfl, rfl⟩

/-- The end of a loop is told by LDEPTH and LE. -/
theorem atLoopEnd_regs {c c' : Core} (h : Core.SameRegs c c') (pc : Nat) : c'.atLoopEnd pc = c.atLoopEnd pc := by
  unfold Core.atLoopEnd
  rw [h.ldepth, h.le]

end Sys2Proof.Machine
end

section
/-! SUPPORT. The statements on the register instructions (R409 to R415, R441, R446, R448, R449): each writes the register its
row names, and what it writes stands once the results in flight are in place. -/

set_option Elab.async false

namespace Sys2Proof.Machine

/-! ## Values -/

theorem wrap24_true (x : Int) : wrap24 true x = BitVec.ofInt 24 (clampInt (-8388608) 8388607 x) := rfl

theorem wrap24_false (x : Int) : wrap24 false x = BitVec.ofInt 24 x := rfl

/-- A result that wraps or saturates, by the exact result and by its value modulo 2^24. -/
theorem wrap24_eq (sat : Bool) {x : Int} {y : BitVec 24} (h : BitVec.ofInt 24 x = y) :
    wrap24 sat x = if sat = true then BitVec.ofInt 24 (clampInt (-8388608) 8388607 x) else y := by
  cases sat
  · simpa [wrap24_false] using h
  · simp [wrap24_true]

theorem ofInt_add (a b : BitVec 24) : BitVec.ofInt 24 (a.toInt + b.toInt) = a + b := by simp [BitVec.ofInt_add]

theorem ofInt_sub (a b : BitVec 24) : BitVec.ofInt 24 (a.toInt - b.toInt) = a - b := by
  rw [sub_eq_add_neg, BitVec.ofInt_add, BitVec.ofInt_neg, BitVec.ofInt_toInt, BitVec.ofInt_toInt, sub_eq_add_neg]

theorem ofInt_mul (a b : BitVec 24) : BitVec.ofInt 24 (a.toInt * b.toInt) = a * b := by simp [BitVec.ofInt_mul]

/-- An arithmetic right shift divides, rounding towards minus infinity (R448). -/
theorem aluSra_eq (a : BitVec 24) (n : Nat) : aluSra a n = BitVec.ofInt 24 (a.toInt / 2 ^ min n 24) := by
  unfold aluSra
  rw [BitVec.sshiftRight_eq, Int.shiftRight_eq_div_pow]
  norm_cast

theorem aluShl_eq (sat : Bool) (a : BitVec 24) (n : Nat) : aluShl sat a n =
    if sat = true then BitVec.ofInt 24 (clampInt (-8388608) 8388607 (a.toInt * 2 ^ min n 24))
    else if 24 ≤ n then 0 else a <<< n := rfl

theorem ofInt_min (a b : BitVec 24) : (if a.toInt ≤ b.toInt then a else b) = BitVec.ofInt 24 (min a.toInt b.toInt) := by
  split
  next h => rw [min_eq_left h, BitVec.ofInt_toInt]
  next h => rw [min_eq_right (by omega), BitVec.ofInt_toInt]

theorem ofInt_max (a b : BitVec 24) : (if a.toInt ≤ b.toInt then b else a) = BitVec.ofInt 24 (max a.toInt b.toInt) := by
  split
  next h => rw [max_eq_right h, BitVec.ofInt_toInt]
  next h => rw [max_eq_left (by omega), BitVec.ofInt_toInt]

/-- Five bits of a shift's immediate are its low byte's, with XIMM or without (R441). -/
theorem uimmOf_mod (pre : List IzPre) (b : BitVec 8) : (uimmOf pre b).toNat % 32 = b.toNat % 32 := by
  unfold uimmOf
  cases ximmOf pre with
  | none =>
    have := b.isLt
    simp only [BitVec.toNat_setWidth]
    omega
  | some x =>
    have := b.isLt
    simp only [BitVec.toNat_append, Nat.shiftLeft_eq]
    rw [Nat.mul_comm, ← Nat.two_pow_add_eq_or_of_lt this]
    omega

/-! ## Writes of a general register -/

section
variable {s u : State} {h : IzHead} {o : IzOp}

/-- What an iteration that completes has decided about a register, the register reads once everything is in place. -/
theorem settled_of_will {α : Type} {π : Core → α} {r : IzReg} {x : α} (hπ : Views π r) (hi : s.issues h o = true)
    (hdo : s.iteration h o = .done u) (hstep : ∀ j, (u.core j).stepAsked = (s.core j).stepAsked)
    (hloop : (u.core h.core).tick.atLoopEnd (s.core h.core).pc.toNat = false ∨ (r ≠ .ldepth ∧ ∀ j, r ≠ .lc j))
    (hu : (u.core h.core).Will r π x) : π ((izIssue h o s).settled h.core) = x :=
  complete_will hπ (izIssue_stays (will_stays hπ x) hi hdo hstep hloop hu)

/-- What a result makes of the register it is for. -/
theorem put_reg {n : Nat} (hn : n ≠ 0) (v : Nat) (c : Core) : (Core.put (.g n) v c).reg n = BitVec.ofNat 24 v := by
  simp [Core.put, Core.reg, hn]

/-- A general register that the iteration decides reads as decided, and g0 reads 0 (R410). -/
theorem settled_reg {n v : Nat} (hi : s.issues h o = true) (hdo : s.iteration h o = .done u)
    (hstep : ∀ j, (u.core j).stepAsked = (s.core j).stepAsked)
    (hu : n ≠ 0 → (u.core h.core).Will (.g n) (fun c => c.reg n) (BitVec.ofNat 24 v)) :
    ((izIssue h o s).settled h.core).reg n = if n = 0 then 0 else BitVec.ofNat 24 v := by
  by_cases hn : n = 0
  · simp [hn, Core.reg]
  · rw [if_neg hn]
    exact settled_of_will (views_reg n) hi hdo hstep (.inr ⟨nofun, fun _ => nofun⟩) (hu hn)

theorem will_izW {α : Type} {π : Core → α} {q : IzReg} {x : α} (k d v : Nat) (s : State) (hq : q ≠ .g 0)
    (hv : ∀ b, π (Core.put q v b) = x) : ((izW k q d v s).core k).Will (homeReg q) π x := by
  rw [izW_core]
  exact will_later d v false hq hv

theorem will_izW_reg (k d v n : Nat) (s : State) (hn : n ≠ 0) :
    ((izW k (.g n) d v s).core k).Will (.g n) (fun c => c.reg n) (BitVec.ofNat 24 v) :=
  will_izW k d v s (by simpa using hn) (put_reg hn v)

/-- An instruction whose whole effect is one result for a general register. -/
theorem settled_izW_reg {k : Nat} {d : BitVec 4} {dist v : Nat} (hk : h.core = k) (hi : s.issues h o = true)
    (hdo : s.iteration h o = .done (izW k (.g d.toNat) dist v (s.latched h))) :
    ((izIssue h o s).settled h.core).reg d.toNat = if d = 0 then 0 else BitVec.ofNat 24 v := by
  subst hk
  have hd : d.toNat = 0 ↔ d = 0 := by
    constructor
    · intro h0
      exact BitVec.eq_of_toNat_eq (by simpa using h0)
    · rintro rfl
      rfl
  rw [settled_reg hi hdo (by simp) fun hn => will_izW_reg _ _ _ _ _ hn]
  simp only [hd]

/-- The iteration of an FRR instruction with a divisor (R448). -/
theorem iteration_frr {op : IzFrr} {d a b z : BitVec 4} (hdiv : divZero (s.core h.core) (.frr op d a b z) = false) :
    s.iteration h (.frr op d a b z) = .done (izW h.core (.g d.toNat) 2
      (aluFrr op (h.pre.contains .sat) ((s.core h.core).reg a.toNat) ((s.core h.core).reg b.toNat)).toNat (s.latched h)) := by
  unfold State.iteration izDo
  rw [latched_core_same]
  dsimp only
  rw [if_neg (by simpa [divZero, Core.reg] using hdiv)]
  rfl

theorem settled_frr {op : IzFrr} {d a b z : BitVec 4} (hi : s.issues h (.frr op d a b z) = true)
    (hdiv : divZero (s.core h.core) (.frr op d a b z) = false) :
    ((izIssue h (.frr op d a b z) s).settled h.core).reg d.toNat = if d = 0 then 0 else
      aluFrr op (h.pre.contains .sat) ((s.core h.core).reg a.toNat) ((s.core h.core).reg b.toNat) := by
  rw [settled_izW_reg rfl hi (iteration_frr hdiv), BitVec.ofNat_toNat, BitVec.setWidth_eq]

/-- A division by a divisor that is not zero is carried out. -/
theorem divZero_of_ne {op : IzFrr} {d a b z : BitVec 4} {c : Core} (h : (c.reg b.toNat != 0) = true) :
    divZero c (.frr op d a b z) = false := by
  simp only [bne_iff_ne] at h
  have hb : (c.reg b.toNat == 0) = false := beq_eq_false_iff_ne.mpr h
  simp only [divZero, hb, Bool.and_false]

theorem settled_fri {op : IzFri} {d a : BitVec 4} {imm : BitVec 8} (hi : s.issues h (.fri op d a imm) = true) :
    ((izIssue h (.fri op d a imm) s).settled h.core).reg d.toNat = if d = 0 then 0 else
      aluFri op (h.pre.contains .sat) ((s.core h.core).reg a.toNat) (immOf h.pre imm) (uimmOf h.pre imm) := by
  have hdo : s.iteration h (.fri op d a imm) = .done (izW h.core (.g d.toNat) 2
      (aluFri op (h.pre.contains .sat) ((s.core h.core).reg a.toNat) (immOf h.pre imm) (uimmOf h.pre imm)).toNat
      (s.latched h)) := by
    unfold State.iteration izDo
    rw [latched_core_same]
    rfl
  rw [settled_izW_reg rfl hi hdo, BitVec.ofNat_toNat, BitVec.setWidth_eq]

end

/-- Settles O4. -/
theorem izhamRegisterArithmetic : Obligations.IzhamRegisterArithmetic := by
  unfold Obligations.IzhamRegisterArithmetic
  refine ⟨?_, ?_, ?_, ?_, ?_, ?_, ?_, ?_, ?_, ?_, ?_, ?_, ?_, ?_, ?_⟩
  · intro s h d a b z hi
    refine ⟨_, rfl, (settled_frr hi rfl).trans ?_⟩
    rw [← wrap24_eq _ (ofInt_add _ _)]
    rfl
  · intro s h d a b z hi
    refine ⟨_, rfl, (settled_frr hi rfl).trans ?_⟩
    rw [← wrap24_eq _ (ofInt_sub _ _)]
    rfl
  · exact fun s h d a b z hi => ⟨_, rfl, settled_frr hi rfl⟩
  · exact fun s h d a b z hi => ⟨_, rfl, settled_frr hi rfl⟩
  · exact fun s h d a b z hi => ⟨_, rfl, settled_frr hi rfl⟩
  · exact fun s h d a b z hi => ⟨_, rfl, settled_frr hi rfl⟩
  · exact fun s h d a b z hi => ⟨_, rfl, settled_frr hi rfl⟩
  · intro s h d a b z hi
    refine ⟨_, rfl, (settled_frr hi rfl).trans ?_⟩
    rw [← aluSra_eq]
    rfl
  · intro s h d a b z hi
    refine ⟨_, rfl, (settled_frr hi rfl).trans ?_⟩
    rw [← wrap24_eq _ (ofInt_mul _ _)]
    rfl
  · intro s h d a b z hi
    refine ⟨_, rfl, (settled_frr hi rfl).trans ?_⟩
    rw [← wrap24_eq _ rfl]
    rfl
  · intro s h d a b z hi
    refine ⟨_, rfl, (settled_frr hi rfl).trans ?_⟩
    rw [← ofInt_min]
    rfl
  · intro s h d a b z hi
    refine ⟨_, rfl, (settled_frr hi rfl).trans ?_⟩
    rw [← ofInt_max]
    rfl
  · intro s h d a b z hi hb
    refine ⟨_, rfl, (settled_frr hi (divZero_of_ne hb)).trans ?_⟩
    rw [← wrap24_eq _ rfl]
    rfl
  · exact fun s h d a b z hi hb => ⟨_, rfl, settled_frr hi (divZero_of_ne hb)⟩
  · exact fun s h d a b z hi hb => ⟨_, rfl, settled_frr hi (divZero_of_ne hb)⟩

/-- Settles O5. -/
theorem izhamImmediateArithmetic : Obligations.IzhamImmediateArithmetic := by
  unfold Obligations.IzhamImmediateArithmetic
  refine ⟨?_, ?_, ?_, ?_, ?_, ?_, ?_, ?_, ?_⟩
  · intro s h d a imm hi
    refine ⟨_, rfl, (settled_fri hi).trans ?_⟩
    rw [← wrap24_eq _ (ofInt_add _ _)]
    rfl
  · exact fun s h d a imm hi => ⟨_, rfl, settled_fri hi⟩
  · exact fun s h d a imm hi => ⟨_, rfl, settled_fri hi⟩
  · exact fun s h d a imm hi => ⟨_, rfl, settled_fri hi⟩
  · intro s h d a imm hi
    refine ⟨_, rfl, (settled_fri hi).trans ?_⟩
    rw [← aluShl_eq, ← uimmOf_mod h.pre imm]
    rfl
  · intro s h d a imm hi
    refine ⟨_, rfl, (settled_fri hi).trans ?_⟩
    rw [← uimmOf_mod h.pre imm]
    rfl
  · intro s h d a imm hi
    refine ⟨_, rfl, (settled_fri hi).trans ?_⟩
    rw [← aluSra_eq, ← uimmOf_mod h.pre imm]
    rfl
  · intro s h d a imm hi
    refine ⟨_, rfl, (settled_fri hi).trans ?_⟩
    rw [← wrap24_eq _ (ofInt_mul _ _)]
    rfl
  · exact fun s h d a imm hi => ⟨_, rfl, settled_fri hi⟩

end Sys2Proof.Machine
end

section
/-! SUPPORT. The statements on moves, status, stack pointer, descriptors and map 1 (R411 to R415, R427, R446, R448, R449). -/

set_option Elab.async false

namespace Sys2Proof.Machine

section
variable {s u : State} {h : IzHead} {o : IzOp}

/-! ## Format FR -/

/-- The iteration of an instruction of format FR that has no divisor. -/
theorem iteration_fr (op : IzFr) (x y : BitVec 4) : s.iteration h (.fr op x y) =
    izFr h.core op x.toNat y.toNat ((s.core h.core).after (s.afterOp h (.fr op x y))) (h.pre.contains .sat) h.replies
      (s.latched h) := rfl

/-- The iteration of a map 1 instruction. -/
theorem iteration_fx (op : IzFx) (d x : BitVec 4) :
    s.iteration h (.fx op d x) = .done (izFxDo h.core op d.toNat x.toNat (s.latched h)) := rfl

/-- An instruction of format FR or FX whose whole effect is the result v for a general register. -/
theorem settled_izW_value {d : BitVec 4} {dist : Nat} {v : BitVec 24} (hi : s.issues h o = true)
    (hdo : s.iteration h o = .done (izW h.core (.g d.toNat) dist v.toNat (s.latched h))) :
    ((izIssue h o s).settled h.core).reg d.toNat = if d = 0 then 0 else v := by
  rw [settled_izW_reg rfl hi hdo, BitVec.ofNat_toNat, BitVec.setWidth_eq]

/-- What a result of an iteration decides about another register than a general one. -/
theorem settled_izW {α : Type} {π : Core → α} {q : IzReg} {x : α} {d v : Nat} (hπ : Views π (homeReg q))
    (hi : s.issues h o = true) (hdo : s.iteration h o = .done (izW h.core q d v (s.latched h))) (hq : q ≠ .g 0)
    (hloop : (2 ≤ d ∧ (s.core h.core).tick.atLoopEnd (s.core h.core).pc.toNat = false) ∨
      (homeReg q ≠ .ldepth ∧ ∀ j, homeReg q ≠ .lc j)) (hv : ∀ b, π (Core.put q v b) = x) :
    π ((izIssue h o s).settled h.core) = x := by
  refine settled_of_will hπ hi hdo (by simp) ?_ (will_izW _ _ _ _ hq hv)
  refine hloop.imp_left fun ⟨hd, hend⟩ => ?_
  rw [izW_core, atLoopEnd_regs (tick_later_regs hd ..), atLoopEnd_regs (latched_tick_regs s h), hend]

/-! ## SW -/

/-- The results that a value for SW puts in flight (R411). -/
theorem izSwPut_core (k d e v : Nat) (early : Bool) (s : State) : (izSwPut k d e v early s).core k =
    (((((((s.core k).later .ie d (v / 2 ^ 23 % 2) early).later .ldepth e (bitsOf v 12 10) false).later .mflt e (bitsOf v 9 7)
      false).later (.aov 0) e (v / 2 ^ 3 % 2) false).later (.aov 1) e (v / 2 ^ 4 % 2) false).later (.aov 2) e (v / 2 ^ 5 % 2)
      false).later (.aov 3) e (v / 2 ^ 6 % 2) false := by
  have hfour : List.range 4 = [0, 1, 2, 3] := rfl
  unfold izSwPut
  rw [hfour]
  cases early <;> simp [forEach]

theorem izSwPut_stepAsked (k d e v j : Nat) (early : Bool) (s : State) :
    ((izSwPut k d e v early s).core j).stepAsked = (s.core j).stepAsked := by
  have hfour : List.range 4 = [0, 1, 2, 3] := rfl
  unfold izSwPut
  rw [hfour]
  cases early <;> simp [forEach]

theorem bit_ne_zero (v n : Nat) : (v / 2 ^ n % 2 != 0) = v.testBit n := by
  rw [Nat.testBit_eq_decide_div_mod_eq]
  rcases Nat.mod_two_eq_zero_or_one (v / 2 ^ n) with hb | hb <;> simp [hb]

theorem put_aov (n v : Nat) (c : Core) : sget noBit (Core.put (.aov n) v c).aov n = (v != 0) := by simp [Core.put]

/-- What a value for SW decides about its fields, whatever was in flight. -/
theorem will_izSwPut (k d e v : Nat) (early : Bool) (s : State) :
    ((izSwPut k d e v early s).core k).Will .ie Core.ie (v.testBit 23) ∧
      ((izSwPut k d e v early s).core k).Will .ldepth Core.ldepth (bitsOf v 12 10) ∧
      ((izSwPut k d e v early s).core k).Will .mflt Core.mflt (bitsOf v 9 7) ∧
      ∀ n, n < 4 → ((izSwPut k d e v early s).core k).Will (.aov n) (fun c => sget noBit c.aov n) (v.testBit (3 + n)) := by
  rw [izSwPut_core]
  have skip : ∀ {r q : IzReg} {α : Type} {π : Core → α} {x : α} {c : Core} (w : Nat), Views π r → homeReg q ≠ r →
      c.Will r π x → (c.later q e w false).Will r π x := fun w hπ hq hc => will_later_other e w false hq hπ hc
  refine ⟨?_, ?_, ?_, ?_⟩
  · have hfirst : ((s.core k).later .ie d (v / 2 ^ 23 % 2) early).Will .ie Core.ie (v.testBit 23) :=
      will_later _ _ _ nofun fun b => bit_ne_zero v 23
    have := skip (q := .ldepth) (bitsOf v 12 10) views_ie nofun hfirst
    have := skip (q := .mflt) (bitsOf v 9 7) views_ie nofun this
    have := skip (q := .aov 0) (v / 2 ^ 3 % 2) views_ie nofun this
    have := skip (q := .aov 1) (v / 2 ^ 4 % 2) views_ie nofun this
    have := skip (q := .aov 2) (v / 2 ^ 5 % 2) views_ie nofun this
    exact skip (q := .aov 3) (v / 2 ^ 6 % 2) views_ie nofun this
  · have hfirst : (((s.core k).later .ie d (v / 2 ^ 23 % 2) early).later .ldepth e (bitsOf v 12 10) false).Will .ldepth
        Core.ldepth (bitsOf v 12 10) := will_later _ _ _ nofun fun b => rfl
    have := skip (q := .mflt) (bitsOf v 9 7) views_ldepth nofun hfirst
    have := skip (q := .aov 0) (v / 2 ^ 3 % 2) views_ldepth nofun this
    have := skip (q := .aov 1) (v / 2 ^ 4 % 2) views_ldepth nofun this
    have := skip (q := .aov 2) (v / 2 ^ 5 % 2) views_ldepth nofun this
    exact skip (q := .aov 3) (v / 2 ^ 6 % 2) views_ldepth nofun this
  · have hfirst : ((((s.core k).later .ie d (v / 2 ^ 23 % 2) early).later .ldepth e (bitsOf v 12 10) false).later .mflt e
        (bitsOf v 9 7) false).Will .mflt Core.mflt (bitsOf v 9 7) := will_later _ _ _ nofun fun b => rfl
    have := skip (q := .aov 0) (v / 2 ^ 3 % 2) views_mflt nofun hfirst
    have := skip (q := .aov 1) (v / 2 ^ 4 % 2) views_mflt nofun this
    have := skip (q := .aov 2) (v / 2 ^ 5 % 2) views_mflt nofun this
    exact skip (q := .aov 3) (v / 2 ^ 6 % 2) views_mflt nofun this
  · intro n hn
    have own : ∀ (m : Nat) (c : Core), (c.later (.aov m) e (v / 2 ^ (3 + m) % 2) false).Will (.aov m)
        (fun c => sget noBit c.aov m) (v.testBit (3 + m)) :=
      fun m c => will_later _ _ _ nofun fun b => by rw [put_aov, bit_ne_zero]
    interval_cases n
    · exact skip _ (views_aov 0) (by decide) (skip _ (views_aov 0) (by decide) (skip _ (views_aov 0) (by decide) (own 0 _)))
    · exact skip _ (views_aov 1) (by decide) (skip _ (views_aov 1) (by decide) (own 1 _))
    · exact skip _ (views_aov 2) (by decide) (own 2 _)
    · exact own 3 _

/-- A value for SW at distance 2 is not seen by the loop check that follows. -/
theorem izSwPut_atLoopEnd (k v pc : Nat) (early : Bool) (s : State) :
    ((izSwPut k 2 2 v early s).core k).tick.atLoopEnd pc = (s.core k).tick.atLoopEnd pc := by
  rw [izSwPut_core]
  iterate 7 rw [atLoopEnd_regs (tick_later_regs (le_refl 2) ..)]

/-! ## IE -/

/-- A result for another register leaves IE as the next boundary sees it (R449). -/
theorem ieNow_later_other (q : IzReg) (d v : Nat) (e : Bool) (c : Core) (hq : q ≠ .ie) : (c.later q d v e).ieNow = c.ieNow := by
  unfold Core.later
  split
  · rfl
  · simp [Core.ieNow, hq]

theorem ieNow_now_other (q : IzReg) (v : Nat) (c : Core) (hq : homeReg q ≠ .ie) : (c.now q v).ieNow = c.ieNow := by
  unfold Core.now
  split
  · unfold Core.ieNow
    rw [put_pend, views_ie.other q v c hq]
  · refine ieNow_later_other q 0 v false c ?_
    rintro rfl
    exact hq rfl

theorem ieNow_moves (c : Core) (pc : BitVec 24) (delay : Option (Option (BitVec 24))) (rep : Option Nat) (issuing : Bool) :
    ({ c with pc := pc, delay := delay, rep := rep, issuing := issuing } : Core).ieNow = c.ieNow := rfl

/-- Once IE is written by EI or DI, the boundary after the instruction sees it so (R449). -/
theorem ieNow_tick_later (v : Nat) (c : Core) : (c.later .ie 2 v true).tick.ieNow = (v != 0) := by
  have hleft : max 2 (c.pendLeft .ie) - 1 ≠ 0 := by
    have := le_max_left 2 (c.pendLeft .ie)
    omega
  have hpend : (c.later .ie 2 v true).tick.pend =
      ((c.pend.map fun p => { p with left := p.left - 1 }).filter fun p => p.left != 0) ++
        [⟨.ie, v, max 2 (c.pendLeft .ie) - 1, true⟩] := by
    simp [Core.tick, Core.later, hleft]
  unfold Core.ieNow
  rw [hpend, List.foldl_append]
  simp

/-- EI and DI: IE is written, and the boundary that follows sees it (R434, R449). -/
theorem settled_ie {v : Nat} (hi : s.issues h o = true) (hdo : s.iteration h o = .done (izWE h.core .ie 2 v (s.latched h))) :
    ((izIssue h o s).settled h.core).ie = (v != 0) ∧ ((izIssue h o s).core h.core).ieNow = (v != 0) := by
  have hsettled : ((izIssue h o s).settled h.core).ie = (v != 0) := by
    refine settled_of_will views_ie hi hdo (by simp) (.inr ⟨nofun, fun _ => nofun⟩) ?_
    rw [izWE_core]
    exact will_later _ _ _ nofun fun b => rfl
  refine ⟨hsettled, ?_⟩
  have hacted := acted_done hdo
  have heq := izIssue_eq hi (by intro j; rw [hacted, izOn_stepAsked, izWE_stepAsked, latched_stepAsked])
  have hseen := ieNow_tick_later v ((s.latched h).core h.core)
  have hon : ((s.acted h o).core h.core).ieNow = (v != 0) := by
    rw [hacted, izOn_core, izWE_core]
    split
    · exact (ieNow_moves _ _ _ _ _).trans hseen
    · refine finish_keeps (P := fun d => d.ieNow = (v != 0)) _ _ (fun d _ hd => (ieNow_moves d _ _ _ _).trans hd)
        (fun q w d hq _ hd => ?_) ((ieNow_moves _ _ _ _ _).trans hseen)
      rw [ieNow_now_other _ _ _ ?_, hd]
      rcases hq with rfl | ⟨j, rfl⟩ <;> exact nofun
  rcases haltTry_cases h.core (s.acted h o) with hgo | ⟨hstop, -, -⟩
  · rw [heq, hgo, hon]
  · have hcore : (izIssue h o s).core h.core = ((s.acted h o).core h.core).complete := by rw [heq, hstop, coreStop_core]
    rw [State.settled, hcore, complete_complete] at hsettled
    rw [hcore, ← hsettled]
    rfl

/-! ## Descriptors -/

/-- GETSD writes the three words of a descriptor to three registers (R450). -/
theorem settled_getsd {x y : BitVec 4} (hi : s.issues h (.fr .getsd x y) = true) :
    ((izIssue h (.fr .getsd x y) s).settled h.core).reg (x.toNat + 1) =
        BitVec.ofNat 24 (((s.core h.core).desc y.toNat).pack / 2 ^ 24 % 2 ^ 24) ∧
      ((izIssue h (.fr .getsd x y) s).settled h.core).reg (x.toNat + 2) =
        BitVec.ofNat 24 (((s.core h.core).desc y.toNat).pack / 2 ^ 48) ∧
      (x.toNat ≠ 0 → ((izIssue h (.fr .getsd x y) s).settled h.core).reg x.toNat =
        BitVec.ofNat 24 (((s.core h.core).desc y.toNat).pack % 2 ^ 24)) := by
  have hdo : s.iteration h (.fr .getsd x y) = .done (izGetsd h.core x.toNat y.toNat (s.latched h)) := rfl
  have hdesc : ((s.latched h).core h.core).desc y.toNat = (s.core h.core).desc y.toNat := by rw [latched_core_same]; rfl
  have hstep : ∀ j, ((izGetsd h.core x.toNat y.toNat (s.latched h)).core j).stepAsked = (s.core j).stepAsked := by
    intro j
    simp [izGetsd]
  have skip : ∀ {n m d w : Nat} {b : BitVec 24} {c : Core}, m ≠ n → c.Will (.g n) (fun c => c.reg n) b →
      (c.later (.g m) d w false).Will (.g n) (fun c => c.reg n) b :=
    fun hne hc => will_later_other _ _ _ (by simpa [homeReg] using hne) (views_reg _) hc
  refine ⟨?_, ?_, fun hx => ?_⟩
  · rw [settled_reg hi hdo hstep fun hn => ?_, if_neg (by omega)]
    unfold izGetsd
    rw [izW_core, hdesc]
    exact skip (by omega) (will_izW_reg _ _ _ _ _ hn)
  · rw [settled_reg hi hdo hstep fun hn => ?_, if_neg (by omega)]
    unfold izGetsd
    rw [hdesc]
    exact will_izW_reg _ _ _ _ _ hn
  · rw [settled_reg hi hdo hstep fun hn => ?_, if_neg hx]
    unfold izGetsd
    rw [izW_core, izW_core, hdesc]
    exact skip (by omega) (skip (by omega) (will_izW_reg _ _ _ _ _ hn))

end

/-! ## NOP -/

/-- The REP count and the mark of an issue are no part of what results change. -/
theorem tick_issuing (c : Core) (r : Option Nat) (b : Bool) :
    ({ c with rep := r, issuing := b } : Core).tick = { c.tick with rep := r, issuing := b } := by
  have hput : ∀ (q : IzReg) (v : Nat) (d : Core),
      Core.put q v { d with rep := r, issuing := b } = { Core.put q v d with rep := r, issuing := b } := by
    intro q v d
    cases q with
    | g n => unfold Core.put; dsimp only; split <;> rfl
    | _ => rfl
  have hdue : ∀ (l : List IzPend) (d : Core),
      commitDue l { d with rep := r, issuing := b } = { commitDue l d with rep := r, issuing := b } := by
    intro l
    induction l with
    | nil => intro d; rfl
    | cons p t ih =>
      intro d
      unfold commitDue
      by_cases hp : p.left = 0
      · rw [if_pos hp, if_pos hp, hput, ih]
      · rw [if_neg hp, if_neg hp, ih]
  unfold Core.tick
  dsimp only
  rw [hdue]

/-! ## The statements -/

/-- Settles O6. -/
theorem izhamMovesAndStatus : Obligations.IzhamMovesAndStatus := by
  unfold Obligations.IzhamMovesAndStatus
  refine ⟨?_, ?_, ?_, ?_, ?_, ?_, ?_, ?_, ?_, ?_, ?_, ?_, ?_, ?_, ?_, ?_, ?_⟩
  · exact fun s h x y hi => ⟨_, rfl, settled_izW_value hi (by rw [iteration_fr, izFr]; rw [latched_core_same]; rfl)⟩
  · intro s h x y hi
    refine ⟨_, rfl, ?_⟩
    rw [← wrap24_eq _ (by rw [BitVec.ofInt_neg, BitVec.ofInt_toInt])]
    exact settled_izW_value hi (by rw [iteration_fr, izFr]; rw [latched_core_same]; rfl)
  · intro s h x y hi
    refine ⟨_, rfl, ?_⟩
    rw [← wrap24_eq _ (BitVec.ofInt_natCast ..)]
    exact settled_izW_value hi (by rw [iteration_fr, izFr]; rw [latched_core_same]; rfl)
  · exact fun s h x y hi => ⟨_, rfl, settled_izW_value hi (by rw [iteration_fr, izFr]; rw [latched_core_same]; rfl)⟩
  · exact fun s h x y hi => ⟨_, rfl, settled_izW_value hi (by rw [iteration_fr, izFr]; rw [latched_core_same]; rfl)⟩
  · exact fun s h x y hi => ⟨_, rfl, settled_izW_value hi (by rw [iteration_fr, izFr]; rw [latched_core_same]; rfl)⟩
  · exact fun s h x y hi => ⟨_, rfl, settled_izW_value hi (by rw [iteration_fr, izFr]; rw [latched_core_same]; rfl)⟩
  · exact fun s h x y hi => ⟨_, rfl, settled_izW_reg rfl hi (by rw [iteration_fr, izFr]; rw [latched_core_same]; rfl)⟩
  · exact fun s h x y hi => ⟨_, rfl, settled_izW_value hi (by rw [iteration_fr, izFr]; rw [latched_core_same])⟩
  · exact fun s h x y hi => ⟨_, rfl, settled_izW_value hi (by rw [iteration_fr, izFr]; rw [latched_core_same]; rfl)⟩
  · intro s h x y hi
    refine ⟨_, rfl, settled_izW (π := Core.sp) (q := .sp) (d := 2) (v := ((s.core h.core).reg y.toNat).toNat) views_sp hi ?_ nofun
      (.inr ⟨nofun, fun _ => nofun⟩) fun b => by simp [Core.put]⟩
    rw [iteration_fr, izFr]; rw [latched_core_same]; rfl
  · intro s h x y hi hok hend
    have hdo : s.iteration h (.fr .mtsw x y) =
        .done (izSwPut h.core 2 2 ((s.core h.core).reg y.toNat).toNat true (s.latched h)) := by
      rw [iteration_fr, izFr]
      rw [latched_core_same]
      exact if_pos hok
    have hstep : ∀ j, ((izSwPut h.core 2 2 ((s.core h.core).reg y.toNat).toNat true (s.latched h)).core j).stepAsked =
        (s.core j).stepAsked := fun j => by rw [izSwPut_stepAsked, latched_stepAsked]
    have hloop : ((izSwPut h.core 2 2 ((s.core h.core).reg y.toNat).toNat true (s.latched h)).core h.core).tick.atLoopEnd
        (s.core h.core).pc.toNat = false := by
      rw [izSwPut_atLoopEnd, atLoopEnd_regs (latched_tick_regs s h)]
      simpa using hend
    obtain ⟨hie, hldepth, hmflt, haov⟩ := will_izSwPut h.core 2 2 ((s.core h.core).reg y.toNat).toNat true (s.latched h)
    refine ⟨_, rfl, ?_, ?_, ?_, ?_⟩
    · exact settled_of_will views_ie hi hdo hstep (.inl hloop) hie
    · exact settled_of_will views_ldepth hi hdo hstep (.inl hloop) hldepth
    · exact settled_of_will views_mflt hi hdo hstep (.inl hloop) hmflt
    · rw [List.all_eq_true]
      intro j hj
      have hv := settled_of_will (views_aov j) hi hdo hstep (.inl hloop) (haov j (List.mem_range.mp hj))
      rw [beq_iff_eq]
      exact hv
  · exact fun s h hi => ⟨_, rfl, settled_ie hi rfl⟩
  · exact fun s h hi => ⟨_, rfl, settled_ie hi rfl⟩
  · intro s h hi hstraight
    refine ⟨_, rfl, ?_⟩
    simp only [State.straight, Bool.and_eq_true, Option.isNone_iff_eq_none, Bool.not_eq_true'] at hstraight
    obtain ⟨⟨⟨hdelay, hrep⟩, hend⟩, hhalt⟩ := hstraight
    have hdo : s.iteration h (.f0 .nop) = .done (s.latched h) := rfl
    have hacted := acted_done hdo
    rw [izIssue_eq hi (by intro j; rw [hacted, izOn_stepAsked, latched_stepAsked]), hacted]
    rw [haltTry_no_halt (by simp [izOn, izSlot, State.latched, hhalt])]
    have hleft : s.left h = 0 := by simp [State.left, hrep]
    have hafter : s.afterOp h (.f0 .nop) = (s.core h.core).pc.toNat + preLen h.pre + 1 := (Nat.add_assoc ..).symm
    unfold izOn izSlot State.latched
    dsimp only
    rw [core_setCore_same, core_setCore_same, setCore_setCore, setCore_setCore, hleft, hrep, hafter, if_neg (by omega)]
    rw [tick_issuing, Core.finish]
    dsimp only
    rw [tick_delay, hdelay]
    dsimp only
    rw [Core.loopCheck, if_neg]
    rw [Bool.not_eq_true]
    exact hend
  · intro s h x y hi hok hmid
    refine ⟨_, rfl, settled_izW (π := fun c => c.desc y.toNat) (q := .sd y.toNat) (d := 2) (v := ((s.core h.core).reg x.toNat).toNat +
      2 ^ 24 * ((s.core h.core).reg (x.toNat + 1)).toNat + 2 ^ 48 * ((s.core h.core).reg (x.toNat + 2)).toNat)
      (views_desc y.toNat) hi ?_ nofun (.inr ⟨nofun, fun _ => nofun⟩) fun b => by simp [Core.put, Core.desc]⟩
    rw [iteration_fr, izFr]
    unfold izSetsd
    rw [latched_core_same]
    refine if_neg ?_
    simp only [decide_eq_true_eq] at hmid
    simp only [Bool.or_eq_true, decide_eq_true_eq, Bool.not_eq_true', not_or]
    refine ⟨Nat.not_le.mpr hmid, ?_⟩
    rw [Bool.not_eq_false]
    exact hok
  · intro s h x y hi
    obtain ⟨h1, h2, h0⟩ := settled_getsd hi
    refine ⟨_, rfl, by rw [h1]; simp, by rw [h2]; simp, fun hx => ?_⟩
    rw [h0 (by intro h0; exact hx (BitVec.eq_of_toNat_eq (by simpa using h0)))]
    simp

/-- Settles O7. -/
theorem izhamMapOne : Obligations.IzhamMapOne := by
  unfold Obligations.IzhamMapOne
  refine ⟨?_, ?_, ?_, ?_, ?_, ?_, ?_, ?_, ?_, ?_⟩
  · exact fun s h d x hi => ⟨_, rfl, settled_izW_value hi (by rw [iteration_fx, izFxDo]; rw [latched_core_same])⟩
  · exact fun s h d x hi => ⟨_, rfl, settled_izW_value hi (by rw [iteration_fx, izFxDo]; rw [latched_core_same])⟩
  · exact fun s h d x hi => ⟨_, rfl, settled_izW_value hi (by rw [iteration_fx, izFxDo]; rw [latched_core_same])⟩
  · exact fun s h d x hi => ⟨_, rfl, settled_izW_reg rfl hi (by rw [iteration_fx, izFxDo]; rw [latched_core_same]; rfl)⟩
  · exact fun s h d x hi => ⟨_, rfl, settled_izW_reg rfl hi (by rw [iteration_fx, izFxDo]; rw [latched_core_same]; rfl)⟩
  · exact fun s h d x hi => ⟨_, rfl, settled_izW_reg rfl hi (by rw [iteration_fx, izFxDo])⟩
  · intro s h d x hi
    refine ⟨_, rfl, settled_izW (π := fun c => sget zero24 c.ls x.toNat) (q := .ls x.toNat) (d := 2) (v := ((s.core h.core).reg d.toNat).toNat) (views_ls x.toNat) hi ?_
      nofun (.inr ⟨nofun, fun _ => nofun⟩) fun b => by simp [Core.put]⟩
    rw [iteration_fx, izFxDo]; rw [latched_core_same]; rfl
  · intro s h d x hi
    refine ⟨_, rfl, settled_izW (π := fun c => sget zero24 c.le x.toNat) (q := .le x.toNat) (d := 2) (v := ((s.core h.core).reg d.toNat).toNat) (views_le x.toNat) hi ?_
      nofun (.inr ⟨nofun, fun _ => nofun⟩) fun b => by simp [Core.put]⟩
    rw [iteration_fx, izFxDo]; rw [latched_core_same]; rfl
  · intro s h d x hi hend
    refine ⟨_, rfl, settled_izW (π := fun c => sget zero24 c.lc x.toNat) (q := .lc x.toNat) (d := 2) (v := ((s.core h.core).reg d.toNat).toNat) (views_lc x.toNat) hi ?_
      nofun (.inl ⟨le_refl 2, by simpa using hend⟩) fun b => by simp [Core.put]⟩
    rw [iteration_fx, izFxDo]; rw [latched_core_same]; rfl
  · intro s h d x hi hord
    have hdo : s.iteration h (.fx .mta d x) = .done (izW h.core (.aPart (x.toNat % 4) (x.toNat / 4)) 3
        ((s.core h.core).reg d.toNat).toNat (s.latched h)) := by
      rw [iteration_fx, izFxDo]; rw [latched_core_same]; rfl
    have hfixed := fixed_later (c := s.core h.core) (q := .aPart (x.toNat % 4) (x.toNat / 4)) 3
      ((s.core h.core).reg d.toNat).toNat false nofun (views_acc (x.toNat % 4)) (ordered_onReg hord _) (determined_acc _)
    have hstays := fixed_stays (views_acc (x.toNat % 4)) (determined_acc _)
      ((Core.put (.aPart (x.toNat % 4) (x.toNat / 4)) ((s.core h.core).reg d.toNat).toNat (s.core h.core).complete).acc
        (x.toNat % 4))
    refine ⟨_, rfl, (izIssue_stays hstays hi hdo (by simp) (.inr ⟨nofun, fun _ => nofun⟩) ?_).2.trans ?_⟩
    · rw [izW_core]
      have hlatched := fixed_of_same (c' := ((s.latched h).core h.core).later (.aPart (x.toNat % 4) (x.toNat / 4)) 3
        ((s.core h.core).reg d.toNat).toNat false) (views_acc (x.toNat % 4)) (determined_acc _) ?_ ?_ hfixed
      · exact hlatched
      · rw [latched_core_same]; rfl
      · refine (later_regs ..).symm.trans (Core.SameRegs.trans ?_ (later_regs ..))
        rw [latched_core_same]
        exact ⟨rfl, rfl, rfl, rfl, rfl, rfl, rfl, rfl, rfl, rfl, rfl, rfl, rfl⟩
    · simp [Core.put, Core.acc, State.settled]

end Sys2Proof.Machine
end

section
/-! SUPPORT. Stacks in the local data RAM and the entry of a handler (R414, R421, R431 to R433): what pushes and loads there
move, and what a trap or an interrupt leaves of its core and its registers. -/

set_option Elab.async false

namespace Sys2Proof.Machine

/-! ## Words of the local data RAM -/

theorem inRam_iff {d : SegDesc} {w : Nat} : d.inRam w = true ↔ izWindow (d.addr w) = some 1 := by
  simp [SegDesc.inRam]

/-- A word of the local data RAM lies at or above its base (R414). -/
theorem ramBase_le_of_inRam {d : SegDesc} {w : Nat} (h : d.inRam w = true) : ramBase ≤ d.addr w := by
  rw [inRam_iff] at h
  unfold izWindow at h
  split at h
  · cases h
  · split at h
    next hr =>
      simp only [Bool.and_eq_true, decide_eq_true_eq] at hr
      exact hr.1
    next => split at h <;> cases h

/-- The place of word w of a segment in the local data RAM. -/
def SegDesc.ramIndex (d : SegDesc) (w : Nat) : Nat := (d.addr w - ramBase) / 4

/-- Words of a W32 segment in the local data RAM lie one after the other (R414). -/
theorem ramIndex_add {d : SegDesc} {w : Nat} (j : Nat) (hmode : d.mode = 0) (h : d.inRam w = true) :
    d.ramIndex (w + j) = d.ramIndex w + j := by
  have hle := ramBase_le_of_inRam h
  unfold SegDesc.ramIndex
  have hfour : modeBytes 0 = 4 := rfl
  simp only [SegDesc.addr, hmode, hfour] at hle ⊢
  omega

theorem ramIndex_inj {d : SegDesc} {w v : Nat} (hmode : d.mode = 0) (hw : d.inRam w = true) (hv : d.inRam v = true)
    (hne : w ≠ v) : d.ramIndex w ≠ d.ramIndex v := by
  rcases Nat.le_total w v with hle | hle
  · obtain ⟨j, rfl⟩ := Nat.exists_eq_add_of_le hle
    rw [ramIndex_add j hmode hw]
    omega
  · obtain ⟨j, rfl⟩ := Nat.exists_eq_add_of_le hle
    rw [ramIndex_add j hmode hv]
    omega

theorem ramWord_eq (c : Core) (d : SegDesc) (w : Nat) : c.ramWord d w = sget zero24 c.ram (d.ramIndex w) := rfl

/-- A store of a word to the local data RAM (R416). -/
theorem izStore_ram {k w v : Nat} {d : SegDesc} {x : IzAcc} (h : d.inRam w = true) : izStore k d w [v] x =
    { x with s := x.s.setCore k { x.s.core k with ram := sset zero24 (d.ramIndex w) (BitVec.ofNat 24 v) (x.s.core k).ram } } := by
  rw [inRam_iff] at h
  simp only [izStore, h]
  rfl

/-- A load of words of the local data RAM (R416). -/
theorem izLoad_ram {k w n : Nat} {d : SegDesc} {x : IzAcc} (h : d.inRam w = true) :
    izLoad k d w n x = ((List.range n).map fun j => (sget zero24 (x.s.core k).ram (d.ramIndex w + j)).toNat, x) := by
  rw [inRam_iff] at h
  simp only [izLoad, h]
  rfl

theorem izLoad_ram_one {k w : Nat} {d : SegDesc} {x : IzAcc} (h : d.inRam w = true) :
    izLoad k d w 1 x = ([((x.s.core k).ramWord d w).toNat], x) := by
  rw [izLoad_ram h]
  simp [ramWord_eq]

/-- The local data RAM after words have been pushed below sp, in order (R421). -/
def pushedRam (d : SegDesc) : List Nat → Nat → List (Nat × BitVec 24) → List (Nat × BitVec 24)
  | [], _, r => r
  | v :: t, sp, r => pushedRam d t (sp - 1) (sset zero24 (d.ramIndex (sp - 1)) (BitVec.ofNat 24 v) r)

/-- Pushes onto a stack in the local data RAM with room for them (R421). -/
theorem izPush_ram {k : Nat} (rep : List Nat) (flt v : Nat) (t : List Nat) (sp : Nat) (s : State)
    (h : ∀ i, i < t.length + 1 → ((s.core k).desc 15).inRam (sp - 1 - i) = true ∧ sp - 1 - i < ((s.core k).desc 15).limit) :
    izPush k (v :: t) sp ⟨s, rep, flt⟩ =
      ⟨s.setCore k { s.core k with ram := pushedRam ((s.core k).desc 15) (v :: t) sp (s.core k).ram }, rep, flt⟩ := by
  have hone : ∀ (v sp : Nat) (s : State) (t : List Nat), ((s.core k).desc 15).inRam (sp - 1) = true →
      sp - 1 < ((s.core k).desc 15).limit → izPush k (v :: t) sp ⟨s, rep, flt⟩ = izPush k t (sp - 1) ⟨s.setCore k
        { s.core k with ram := sset zero24 (((s.core k).desc 15).ramIndex (sp - 1)) (BitVec.ofNat 24 v) (s.core k).ram },
        rep, flt⟩ := by
    intro v sp s t hram hlimit
    rw [izPush]
    dsimp only
    rw [if_pos hlimit, izStore_ram hram]
  induction t generalizing v sp s with
  | nil =>
    obtain ⟨hram, hlimit⟩ := h 0 (by simp)
    rw [hone v sp s [] hram hlimit]
    rfl
  | cons w t ih =>
    obtain ⟨hram, hlimit⟩ := h 0 (by simp)
    rw [hone v sp s _ hram hlimit, ih, core_setCore_same, setCore_setCore]
    · rfl
    · intro i hi
      rw [core_setCore_same]
      have := h (i + 1) (by simpa using hi)
      rwa [show sp - 1 - (i + 1) = sp - 1 - 1 - i by omega] at this

/-! ## Entering a handler -/

/-- The state in which a handler is entered: the words pushed, in flight nothing. -/
def entryState (k : Nat) (words : List Nat) (s : State) : State :=
  s.setCore k { (s.core k).complete with
    issuing := false, ram := pushedRam ((s.core k).complete.desc 15) words (s.core k).complete.sp.toNat (s.core k).ram }

/-- An entry onto a stack in the local data RAM (R431 to R433). -/
theorem izEnter_ram {k n : Nat} (trap : Option (Nat × Option (Nat × Nat))) (rep : List Nat) {s : State}
    (hdelay : (s.core k).delay = none) (hrep : (s.core k).rep = none) (hok : (s.core k).complete.entryOk = true) :
    izEnter k n trap rep s =
      let c := (s.core k).complete
      let s1 := entryState k [c.pc.toNat, c.sw] s
      let s2 := match trap with
        | some (cause, at_) => izTrapRecord k cause c.pc.toNat c.sw at_ s1
        | none => s1.bump (SEQk_TRAPCNT_INTS k)
      s2.setCore k { s2.core k with
        sp := BitVec.ofNat 24 (c.sp.toNat - 2), ie := false, ldepth := 0, rep := none, delay := none
        pc := BitVec.ofNat 24 (s.getF (SEQk_CTL_VBASE k) * 256 + 16 * n) } := by
  have hdelay' : (s.core k).complete.delay = none := (complete_delay _).trans hdelay
  have hrep' : (s.core k).complete.rep = none := (complete_rep _).trans hrep
  unfold izEnter entryState
  rw [← complete_ram (s.core k)]
  generalize (s.core k).complete = c at hok hdelay' hrep' ⊢
  simp only [Core.entryOk, Bool.and_eq_true, decide_eq_true_eq, beq_iff_eq] at hok
  obtain ⟨⟨⟨⟨⟨hthree, hlimit⟩, hmode⟩, hram1⟩, hram2⟩, hram3⟩ := hok
  have hwords : Core.entryWords { c with issuing := false } = [c.pc.toNat, c.sw] := by
    unfold Core.entryWords
    dsimp only
    rw [hdelay', hrep']
    exact congrArg (fun n => [c.pc.toNat, n]) (Nat.add_zero c.sw)
  have hpush : izPush k [c.pc.toNat, c.sw] c.sp.toNat ⟨s.setCore k { c with issuing := false }, rep, 0⟩ =
      ⟨s.setCore k { c with issuing := false, ram := pushedRam (c.desc 15) [c.pc.toNat, c.sw] c.sp.toNat c.ram }, rep, 0⟩ := by
    rw [izPush_ram, core_setCore_same, setCore_setCore]
    · rfl
    · rw [core_setCore_same]
      intro i hi
      have : i = 0 ∨ i = 1 := by simp at hi; omega
      rcases this with rfl | rfl
      · exact ⟨hram1, by change c.sp.toNat - 1 - 0 < (c.desc 15).limit; omega⟩
      · exact ⟨hram2, by change c.sp.toNat - 1 - 1 < (c.desc 15).limit; omega⟩
  dsimp only
  rw [hwords]
  dsimp only [List.length]
  rw [if_neg (by omega), hpush]
  rfl

/-- The registers that record an entry leave every core. -/
theorem izTrapRecord_core (k cause pc sw : Nat) (at_ : Option (Nat × Nat)) (s : State) (j : Nat) :
    (izTrapRecord k cause pc sw at_ s).core j = s.core j := by
  unfold izTrapRecord
  cases at_ with
  | none => simp [State.bump, State.bumpBy]
  | some x => simp [State.bump, State.bumpBy]

/-- A handler has been entered: from the settled core, over a stack in the local data RAM (R431 to R433). -/
theorem izEnter_entered {k n : Nat} (trap : Option (Nat × Option (Nat × Nat))) (rep : List Nat) {s : State}
    (hdelay : (s.core k).delay = none) (hrep : (s.core k).rep = none) (hok : (s.core k).complete.entryOk = true) :
    Entered (s.core k).complete n k s (izEnter k n trap rep s) := by
  rw [izEnter_ram trap rep hdelay hrep hok]
  simp only [Core.entryOk, Bool.and_eq_true, decide_eq_true_eq, beq_iff_eq] at hok
  obtain ⟨⟨⟨⟨⟨hthree, hlimit⟩, hmode⟩, hram1⟩, hram2⟩, hram3⟩ := hok
  have hcore : ∀ s1 : State, (match trap with
        | some (cause, at_) => izTrapRecord k cause (s.core k).complete.pc.toNat (s.core k).complete.sw at_ s1
        | none => s1.bump (SEQk_TRAPCNT_INTS k)).core k = s1.core k := by
    intro s1
    cases trap with
    | none => rfl
    | some x => exact izTrapRecord_core ..
  have hne := ramIndex_inj hmode hram1 hram2 (by omega)
  have hsub : (s.core k).complete.sp.toNat - 1 - 1 = (s.core k).complete.sp.toNat - 2 := by omega
  dsimp only
  unfold Entered
  rw [core_setCore_same]
  dsimp only
  refine ⟨rfl, ?_, rfl, rfl, rfl, rfl, ?_, ?_⟩
  · apply BitVec.eq_of_toNat_eq
    have := (s.core k).complete.sp.isLt
    have htwo : (2 : BitVec 24).toNat = 2 := rfl
    simp only [BitVec.toNat_ofNat, BitVec.toNat_sub, htwo]
    omega
  · rw [ramWord_eq]
    dsimp only
    rw [hcore]
    simp [entryState, pushedRam, hsub, sget_sset, hne]
  · rw [ramWord_eq]
    dsimp only
    rw [hcore]
    simp [entryState, pushedRam, hsub]

/-- The records of a trap other than the offset that a segment violation adds (R431). -/
def trapRecorded (k cause pc sw : Nat) (s : State) : State :=
  ((((s.setF (SEQk_PC_PC k) pc).setF (SEQk_SW_SW k) sw).setF (SEQk_STAT_LCAUSE k) cause).setF (SEQk_STAT_TVALID k) 1).bump
    (SEQk_TRAPCNT_TRAPS k)

/-- Only FADDR of the core holds the address of a segment violation (R416). -/
theorem izTrapRecord_getF {k cause pc sw : Nat} {f : Fld} (at_ : Option (Nat × Nat)) (s : State) (hf : f.reg ≠ SEQk_FADDR k) :
    (izTrapRecord k cause pc sw at_ s).getF f = (trapRecorded k cause pc sw s).getF f := by
  cases at_ with
  | none => rfl
  | some x => exact (getF_setF_reg _ _ _ _ hf).trans (getF_setF_reg _ _ _ _ hf)

/-- The records of a trap (R416, R431). -/
theorem izTrapRecord_trapped {k cause pc sw : Nat} (at_ : Option (Nat × Nat)) (s : State) (hcause : cause < 8)
    (hpc : pc < 2 ^ 24) :
    (izTrapRecord k cause pc sw at_ s).getF (SEQk_STAT_LCAUSE k) = cause ∧
      (izTrapRecord k cause pc sw at_ s).getF (SEQk_STAT_TVALID k) = 1 ∧
      (izTrapRecord k cause pc sw at_ s).getF (SEQk_PC_PC k) = pc ∧
      Counted (SEQk_TRAPCNT_TRAPS k) s (izTrapRecord k cause pc sw at_ s) := by
  refine ⟨(izTrapRecord_getF _ _ ?_).trans ?_, (izTrapRecord_getF _ _ ?_).trans ?_, (izTrapRecord_getF _ _ ?_).trans ?_, ?_⟩
  · simp [SEQk_STAT_LCAUSE, SEQk_STAT, SEQk_FADDR]
  · unfold trapRecorded
    rw [getF_bump_apart _ _ _ (.inl (by simp [SEQk_STAT_LCAUSE, SEQk_TRAPCNT_TRAPS, SEQk_STAT, SEQk_TRAPCNT])),
      getF_setF_apart _ _ _ _ (.inr (by simp [SEQk_STAT_LCAUSE, SEQk_STAT_TVALID])),
      getF_setF_fits _ _ _ (by simp [SEQk_STAT_LCAUSE]) (by simpa [SEQk_STAT_LCAUSE] using hcause)]
  · simp [SEQk_STAT_TVALID, SEQk_STAT, SEQk_FADDR]
  · unfold trapRecorded
    rw [getF_bump_apart _ _ _ (.inl (by simp [SEQk_STAT_TVALID, SEQk_TRAPCNT_TRAPS, SEQk_STAT, SEQk_TRAPCNT])),
      getF_setF_fits _ _ _ (by simp [SEQk_STAT_TVALID]) (by simp [SEQk_STAT_TVALID])]
  · simp [SEQk_PC_PC, SEQk_PC, SEQk_FADDR]
  · unfold trapRecorded
    rw [getF_bump_apart _ _ _ (.inl (by simp [SEQk_PC_PC, SEQk_TRAPCNT_TRAPS, SEQk_PC, SEQk_TRAPCNT])),
      getF_setF_apart _ _ _ _ (.inl (by simp [SEQk_PC_PC, SEQk_STAT_TVALID, SEQk_PC, SEQk_STAT])),
      getF_setF_apart _ _ _ _ (.inl (by simp [SEQk_PC_PC, SEQk_STAT_LCAUSE, SEQk_PC, SEQk_STAT])),
      getF_setF_apart _ _ _ _ (.inl (by simp [SEQk_PC_PC, SEQk_SW_SW, SEQk_PC, SEQk_SW])),
      getF_setF_fits _ _ _ (by simp [SEQk_PC_PC]) (by simpa [SEQk_PC_PC] using hpc)]
  · have hcount := counted_bump ((((s.setF (SEQk_PC_PC k) pc).setF (SEQk_SW_SW k) sw).setF (SEQk_STAT_LCAUSE k) cause).setF
      (SEQk_STAT_TVALID k) 1) (SEQk_TRAPCNT_TRAPS k) (by simp [SEQk_TRAPCNT_TRAPS]) (by simp [SEQk_TRAPCNT_TRAPS])
    unfold Counted at hcount ⊢
    rw [izTrapRecord_getF _ _ (by simp [SEQk_TRAPCNT_TRAPS, SEQk_TRAPCNT, SEQk_FADDR]), trapRecorded, hcount,
      getF_setF_apart _ _ _ _ (.inl (by simp [SEQk_TRAPCNT_TRAPS, SEQk_STAT_TVALID, SEQk_TRAPCNT, SEQk_STAT])),
      getF_setF_apart _ _ _ _ (.inl (by simp [SEQk_TRAPCNT_TRAPS, SEQk_STAT_LCAUSE, SEQk_TRAPCNT, SEQk_STAT])),
      getF_setF_apart _ _ _ _ (.inl (by simp [SEQk_TRAPCNT_TRAPS, SEQk_SW_SW, SEQk_TRAPCNT, SEQk_SW])),
      getF_setF_apart _ _ _ _ (.inl (by simp [SEQk_TRAPCNT_TRAPS, SEQk_PC_PC, SEQk_TRAPCNT, SEQk_PC]))]

/-- The registers that record a trap lie apart from the control register. -/
theorem izTrapRecord_ctl {k cause pc sw : Nat} (at_ : Option (Nat × Nat)) (s : State) :
    (izTrapRecord k cause pc sw at_ s).flag (SEQk_CTL_HALT k) = s.flag (SEQk_CTL_HALT k) := by
  have hne : ∀ f : Fld, f.reg ≠ SEQk_CTL k → ∀ (u : State) (v : Nat), (u.setF f v).getF (SEQk_CTL_HALT k) = u.getF (SEQk_CTL_HALT k) :=
    fun f hf u v => getF_setF_reg _ _ _ _ (Ne.symm hf)
  unfold State.flag izTrapRecord State.bump State.bumpBy
  cases at_ with
  | none =>
    dsimp only
    iterate 5 rw [hne _ (by simp [SEQk_PC_PC, SEQk_SW_SW, SEQk_STAT_LCAUSE, SEQk_STAT_TVALID, SEQk_TRAPCNT_TRAPS, SEQk_PC, SEQk_SW,
      SEQk_STAT, SEQk_TRAPCNT, SEQk_CTL])]
  | some x =>
    dsimp only
    iterate 7 rw [hne _ (by simp [SEQk_PC_PC, SEQk_SW_SW, SEQk_STAT_LCAUSE, SEQk_STAT_TVALID, SEQk_TRAPCNT_TRAPS, SEQk_PC, SEQk_SW,
      SEQk_STAT, SEQk_TRAPCNT, SEQk_CTL, SEQk_FADDR, SEQk_FADDR_SD, SEQk_FADDR_OFFSET])]

/-- A trap onto a stack in the local data RAM: its handler is entered, it is recorded, and no core is asked anything. -/
theorem izTrap_shows {k cause : Nat} (at_ : Option (Nat × Nat)) (rep : List Nat) {s : State} (hcause : cause < 8)
    (hdelay : (s.core k).delay = none) (hrep : (s.core k).rep = none) (hok : (s.core k).complete.entryOk = true) :
    Entered (s.core k).complete cause k s (izTrap k cause at_ rep s) ∧ Trapped (s.core k).complete cause k s (izTrap k cause at_ rep s) ∧
      (izTrap k cause at_ rep s).flag (SEQk_CTL_HALT k) = s.flag (SEQk_CTL_HALT k) ∧
      (∀ j, ((izTrap k cause at_ rep s).core j).stepAsked = (s.core j).stepAsked) ∧
      (∀ j w, at_ = some (j, w) → (izTrap k cause at_ rep s).getF (SEQk_FADDR_SD k) = j % 16 ∧
        (izTrap k cause at_ rep s).getF (SEQk_FADDR_OFFSET k) = w % 2 ^ 24) := by
  refine ⟨izEnter_entered _ rep hdelay hrep hok, ?_⟩
  have heq := izEnter_ram (n := cause) (some (cause, at_)) rep hdelay hrep hok
  unfold izTrap
  rw [heq]
  dsimp only
  obtain ⟨hlcause, htvalid, hpc, hcount⟩ := izTrapRecord_trapped (k := k) (sw := (s.core k).complete.sw) at_
    (entryState k [(s.core k).complete.pc.toNat, (s.core k).complete.sw] s) hcause (s.core k).complete.pc.isLt
  refine ⟨⟨?_, ?_, ?_, ?_⟩, ?_, ?_, ?_⟩
  · rw [setCore_getF]; exact hlcause
  · rw [setCore_getF]; exact htvalid
  · rw [setCore_getF]; exact hpc
  · unfold Counted
    rw [setCore_getF]
    exact hcount
  · rw [setCore_flag, izTrapRecord_ctl]
    rfl
  · intro j
    refine (setCore_stepAsked _ k j _ ?_).trans ?_
    · rfl
    · rw [izTrapRecord_core]
      exact setCore_stepAsked _ _ _ _ (complete_stepAsked _)
  · rintro j w rfl
    rw [setCore_getF, setCore_getF]
    unfold izTrapRecord
    dsimp only
    have hsd := fun u : State => getF_setF_same u (SEQk_FADDR_SD k) j (by simp [SEQk_FADDR_SD]) (by simp [SEQk_FADDR_SD])
    have hoffset := fun u : State =>
      getF_setF_same u (SEQk_FADDR_OFFSET k) w (by simp [SEQk_FADDR_OFFSET]) (by simp [SEQk_FADDR_OFFSET])
    exact ⟨(getF_setF_apart _ _ _ _ (.inr (by simp [SEQk_FADDR_SD, SEQk_FADDR_OFFSET]))).trans (hsd _), hoffset _⟩

end Sys2Proof.Machine
end

section
/-! SUPPORT. Marrow's requests by class (R281, R282, R285, R297, R298): what each is answered or where it waits, what admission
leaves of the windows, and the two statements on them. -/

set_option Elab.async false

namespace Sys2Proof.Machine

section
variable {s u : State} {q : MReq} {p : MPend} {n : Nat}

/-! ## A request arrives -/

/-- What does not read the clock is the same when time passes. -/
theorem advance_same {α : Type} (f : State → α) (n : Nat) (s : State) (h : ∀ c, f { s with syscnt := c } = f s) :
    f (s.advance n) = f s := by
  unfold State.advance
  split
  · exact h _
  · rfl

/-- A request takes the next number. -/
def numbered (s : State) : State := { s with mrw := { s.mrw with nextId := s.mrw.nextId + 1 } }

/-- The request that arrives. -/
def arrival (q : MReq) (s : State) : MPend := { id := s.mrw.nextId, req := q, cls := s.classOf q, arrived := s.now }

/-- The state in which a request waits behind those that wait already. -/
def enqueued (q : MReq) (s : State) : State :=
  { numbered s with mrw := { (numbered s).mrw with queue := s.mrw.queue ++ [arrival q s] } }

/-- What becomes of a request that its class admits at once, refuses at once with a code, or lets wait (R297). -/
def decided (q : MReq) (s : State) : Option Nat → State
  | some 0 => mrwAdmit (arrival q s) (numbered s)
  | some x => mrwSay s.mrw.nextId q.who x [] (numbered s)
  | none => mrwServe (stackOf q.addr) (s.mrw.queue.length + 1) (enqueued q s)

/-- A request is answered before Marrow is ready or where it is not proper, and its class decides of it otherwise (R298). -/
theorem mrwRequest_eq (q : MReq) (s : State) : mrwRequest q s =
    if !s.flag MRW_STAT_INIT_DONE then mrwSay s.mrw.nextId q.who 2 [] (numbered s)
    else if !mreqOk q || !s.permits q then
      mrwSay s.mrw.nextId q.who 4 (if q.write then [] else List.replicate q.len 0) (numbered s)
    else decided q s (s.atOnce (stackOf q.addr) (s.classOf q) q.len) := rfl

/-- The request as the obligations meet it: of a requester that there is, out of reset, of a pod that is ACTIVE. -/
theorem marrowRequest_state (hwho : q.who < 270) (hup : s.pwr.inReset = false) (hpod : s.podDead q.who = false) :
    exec (.marrowRequest q n) s = .next (mrwRequest q (s.advance n)) := by
  have h : exec (.marrowRequest q n) s = execMarrowRequest q n s := rfl
  rw [h, execMarrowRequest, if_pos (by simp [hwho, hup, hpod])]

/-- What a state has of a request that comes: all of it but the time, which passes. -/
structure SameOffer (q : MReq) (s u : State) : Prop where
  mrw : u.mrw = s.mrw
  mem : u.mem = s.mem
  regs : u.regs = s.regs
  permits : u.permits q = s.permits q

theorem advance_sameOffer (q : MReq) (n : Nat) (s : State) : SameOffer q s (s.advance n) :=
  ⟨advance_mrw s n, advance_mem s n, advance_regs s n, advance_same (·.permits q) n s fun _ => rfl⟩

namespace SameOffer

theorem getF (h : SameOffer q s u) (f : Fld) : u.getF f = s.getF f := getF_of_rd (rd_of_regs h.regs f.reg)

theorem flag (h : SameOffer q s u) (f : Fld) : u.flag f = s.flag f := congrArg (· != 0) (h.getF f)

theorem classOf (h : SameOffer q s u) : u.classOf q = s.classOf q := by
  unfold State.classOf
  rw [h.getF]

theorem tagFree (h : SameOffer q s u) (c : Nat) : u.tagFree c = s.tagFree c := by
  unfold State.tagFree
  rw [h.mrw]

theorem window (h : SameOffer q s u) (k : Nat) : u.window k = s.window k := by
  unfold State.window
  rw [h.mrw]

theorem owed (h : SameOffer q s u) (w i : Nat) : u.owed w i = s.owed w i := by
  unfold State.owed
  rw [h.mrw, h.flag]

theorem atOnce (h : SameOffer q s u) (k c len : Nat) : u.atOnce k c len = s.atOnce k c len := by
  unfold State.atOnce State.headOf
  rw [h.getF, h.window, h.tagFree, h.tagFree, h.mrw]

end SameOffer

/-! ## Answers given at once -/

/-- An answer that the order of replies allows is given at once. -/
theorem mrwSay_unowed {id who : Nat} (code : Nat) (data : List Byte) (ho : s.owed who id = false) :
    mrwSay id who code data s = mrwAnswer id who code data s := by
  unfold mrwSay
  rw [ho, if_neg (by decide)]

theorem mrwAnswer_refusedClass (id who : Nat) (data : List Byte) (s : State) :
    Counted (MRW_RQr_CNT1_REFCLS who) s (mrwAnswer id who 3 data s) := by
  rw [mrwAnswer_eq]
  unfold obsReply answerCounted
  rw [if_neg (by decide), if_neg (by decide), if_pos rfl, Counted, getF_of_rd (obsCount_rd _ _ _),
    counted_bump _ _ (by decide : 16 ≤ 31) (by decide : 31 < 32)]
  rw [getF_of_rd (f := MRW_RQr_CNT1_REFCLS who) (rd_of_regs (by dsimp only) _)]

/-- An answer at the arrival of a request: the reply alone is new, and the number that the next request takes. -/
theorem mrwSay_arrival {code : Nat} {data : List Byte} (h : SameOffer q s u) (ho : s.owed q.who s.mrw.nextId = false) :
    Answered s.mrw.nextId code data (numbered u) (mrwSay u.mrw.nextId q.who code data (numbered u)) := by
  have hnot : (numbered u).owed q.who u.mrw.nextId = false := by
    rw [h.mrw]
    exact (h.owed _ _).trans ho
  rw [mrwSay_unowed _ _ hnot, h.mrw]
  exact mrwAnswer_answered _ _ _ _ _

/-- What an answer at a request's arrival shows. -/
theorem mrwSay_arrival_shows {code : Nat} {data : List Byte} (h : SameOffer q s u) (ho : s.owed q.who s.mrw.nextId = false) :
    let t := mrwSay u.mrw.nextId q.who code data (numbered u)
    t.mrw.reply = some (s.mrw.nextId, code, data) ∧ t.mem = s.mem ∧ t.mrw.nextId = s.mrw.nextId + 1 ∧ t.mrw.out = s.mrw.out ∧
      t.mrw.queue = s.mrw.queue := by
  have hanswer := mrwSay_arrival (code := code) (data := data) h ho
  refine ⟨hanswer.reply, hanswer.mem.trans h.mem, (congrArg Marrow.nextId hanswer.mrw).trans ?_, hanswer.out.trans ?_,
    hanswer.queue.trans ?_⟩
  · exact congrArg (·.nextId + 1) h.mrw
  · exact (congrArg Marrow.out h.mrw :)
  · exact (congrArg Marrow.queue h.mrw :)

/-- Before its initialisation Marrow refuses every request (R298). -/
theorem marrowRequest_early (hwho : q.who < 270) (hup : s.pwr.inReset = false) (hpod : s.podDead q.who = false)
    (hinit : s.flag MRW_STAT_INIT_DONE = false) (ho : s.owed q.who s.mrw.nextId = false) :
    Gives (.marrowRequest q n) s fun t => t.mrw.reply = some (s.mrw.nextId, 2, []) ∧ t.mem = s.mem ∧
      t.mrw.nextId = s.mrw.nextId + 1 := by
  have hoffer := advance_sameOffer q n s
  refine ⟨_, marrowRequest_state hwho hup hpod, ?_⟩
  have hearly : (!(s.advance n).flag MRW_STAT_INIT_DONE) = true := by rw [hoffer.flag, hinit]; rfl
  rw [mrwRequest_eq, if_pos hearly]
  obtain ⟨hreply, hmem, hnext, -⟩ := mrwSay_arrival_shows (code := 2) (data := []) hoffer ho
  exact ⟨hreply, hmem, hnext⟩

/-- A request that is not formed or not permitted is answered VOID (R282, R285). -/
theorem marrowRequest_barred (hwho : q.who < 270) (hup : s.pwr.inReset = false) (hpod : s.podDead q.who = false)
    (hinit : s.flag MRW_STAT_INIT_DONE = true) (hbad : (!mreqOk q || !s.permits q) = true)
    (ho : s.owed q.who s.mrw.nextId = false) :
    Gives (.marrowRequest q n) s fun t =>
      t.mrw.reply = some (s.mrw.nextId, 4, if q.write then [] else List.replicate q.len 0) ∧ t.mem = s.mem := by
  have hoffer := advance_sameOffer q n s
  refine ⟨_, marrowRequest_state hwho hup hpod, ?_⟩
  have hready : ¬(!(s.advance n).flag MRW_STAT_INIT_DONE) = true := by rw [hoffer.flag, hinit]; decide
  have hbarred : (!mreqOk q || !(s.advance n).permits q) = true := by rw [hoffer.permits]; exact hbad
  rw [mrwRequest_eq, if_neg hready, if_pos hbarred]
  obtain ⟨hreply, hmem, -⟩ :=
    mrwSay_arrival_shows (code := 4) (data := if q.write then [] else List.replicate q.len 0) hoffer ho
  exact ⟨hreply, hmem⟩

/-! ## Requests that a class decides -/

/-- A request that is formed and permitted is what its class makes of it. -/
theorem marrowRequest_proper (hwho : q.who < 270) (hup : s.pwr.inReset = false) (hpod : s.podDead q.who = false)
    (hinit : s.flag MRW_STAT_INIT_DONE = true) (hok : mreqOk q = true) (hmay : s.permits q = true) :
    exec (.marrowRequest q n) s = .next (decided q (s.advance n) (s.atOnce (stackOf q.addr) (s.classOf q) q.len)) := by
  have hoffer := advance_sameOffer q n s
  have hready : ¬(!(s.advance n).flag MRW_STAT_INIT_DONE) = true := by rw [hoffer.flag, hinit]; decide
  have hproper : ¬(!mreqOk q || !(s.advance n).permits q) = true := by rw [hoffer.permits, hok, hmay]; decide
  rw [marrowRequest_state hwho hup hpod, mrwRequest_eq, if_neg hready, if_neg hproper, hoffer.classOf, hoffer.atOnce]

/-- A request refused at once: its answer, and the same bytes and requests as before. -/
theorem marrowRequest_refused {x : Nat} (hwho : q.who < 270) (hup : s.pwr.inReset = false) (hpod : s.podDead q.who = false)
    (hinit : s.flag MRW_STAT_INIT_DONE = true) (hok : mreqOk q = true) (hmay : s.permits q = true)
    (hat : s.atOnce (stackOf q.addr) (s.classOf q) q.len = some (x + 1)) (ho : s.owed q.who s.mrw.nextId = false) :
    Gives (.marrowRequest q n) s fun t =>
      t = mrwAnswer s.mrw.nextId q.who (x + 1) [] (numbered (s.advance n)) ∧
      t.mrw.reply = some (s.mrw.nextId, x + 1, []) ∧ t.mem = s.mem ∧ t.mrw.out = s.mrw.out ∧ t.mrw.queue = s.mrw.queue := by
  have hoffer := advance_sameOffer q n s
  have hstate := marrowRequest_proper (n := n) hwho hup hpod hinit hok hmay
  rw [hat] at hstate
  refine ⟨_, hstate, ?_⟩
  obtain ⟨hreply, hmem, -, hout, hqueue⟩ := mrwSay_arrival_shows (code := x + 1) (data := []) hoffer ho
  refine ⟨?_, hreply, hmem, hout, hqueue⟩
  have hnot : (numbered (s.advance n)).owed q.who (s.advance n).mrw.nextId = false := by
    rw [hoffer.mrw]
    exact (hoffer.owed _ _).trans ho
  exact (mrwSay_unowed _ _ hnot).trans (by rw [hoffer.mrw])

/-- A field of a requester's counters is the same when a request takes a number. -/
theorem numbered_getF (n : Nat) (s : State) (f : Fld) : (numbered (s.advance n)).getF f = s.getF f :=
  (getF_of_rd (rd_of_regs rfl _)).trans (getF_of_rd (rd_of_regs (advance_regs s n) _))

/-- An admitted write's bytes are Marrow's. -/
theorem mrwAdmit_window (p : MPend) (s : State) :
    (mrwAdmit p s).window (stackOf p.req.addr) = (s.window (stackOf p.req.addr)).account p.cls p.req.len := by
  unfold mrwAdmit
  extract_lets k late found p1 s1 src
  have hstored : (if p.req.write then s.store p.req.addr p.req.data else s).window k = s.window k := by
    unfold State.window
    rw [stored_mrw]
  unfold State.window at hstored ⊢
  rw [outShow_mrw]
  unfold src s1 winAdmit State.window
  dsimp only
  rw [sget_sset_same, hstored]

/-- A request admitted at once: among those that await their completion, its bytes written, and its window charged (R297). -/
theorem marrowRequest_admitted (hwho : q.who < 270) (hup : s.pwr.inReset = false) (hpod : s.podDead q.who = false)
    (hinit : s.flag MRW_STAT_INIT_DONE = true) (hok : mreqOk q = true) (hmay : s.permits q = true)
    (hat : s.atOnce (stackOf q.addr) (s.classOf q) q.len = some 0) :
    Gives (.marrowRequest q n) s fun t => (t.mrw.out.any fun p => p.id == s.mrw.nextId) = true ∧
      t.mem = (if q.write then memPut q.addr q.data s.mem else s.mem) ∧
      t.window (stackOf q.addr) = (s.window (stackOf q.addr)).account (s.classOf q) q.len ∧
      (s.mrw.queue = [] → t.mrw.queue = []) := by
  have hoffer := advance_sameOffer q n s
  have hstate := marrowRequest_proper (n := n) hwho hup hpod hinit hok hmay
  rw [hat, decided] at hstate
  refine ⟨_, hstate, ?_⟩
  obtain ⟨-, ⟨r, hid, -, hout⟩, hqueue, hmem, -⟩ := mrwAdmit_admitted (arrival q (s.advance n)) (numbered (s.advance n))
  refine ⟨?_, hmem.trans ?_, (mrwAdmit_window _ _).trans ?_, fun hnone => ?_⟩
  · have hnumber : (arrival q (s.advance n)).id = s.mrw.nextId := congrArg Marrow.nextId hoffer.mrw
    rw [hout, List.any_append]
    simp [hid, hnumber]
  · rw [show (numbered (s.advance n)).mem = s.mem from hoffer.mem]
    rfl
  · show ((s.advance n).window (stackOf q.addr)).account ((s.advance n).classOf q) q.len = _
    rw [hoffer.window, hoffer.classOf]
  · rw [hqueue, show (numbered (s.advance n)).mrw.queue = [] from (congrArg Marrow.queue hoffer.mrw).trans hnone]
    exact ite_self _

theorem atOnce_zero (s : State) (k len : Nat) : s.atOnce k 0 len =
    some (if s.getF MRW_CLS_RES0 * windowBytes < ((s.window k).used0 + len) * 100 then 3 else if s.tagFree 0 then 0 else 2) := rfl

theorem atOnce_three (s : State) (k len : Nat) : s.atOnce k 3 len =
    some (if (s.headOf k 1).isNone && (s.headOf k 2).isNone && decide ((s.window k).used + len ≤ windowBytes) && s.tagFree 3
      then 0 else 3) := rfl

/-- Nothing waits at a stack where nothing waits. -/
theorem headOf_of_queue {k c : Nat} (h : s.mrw.queue = []) : s.headOf k c = none := by
  unfold State.headOf
  rw [h]
  rfl

/-! ## Requests that wait -/

/-- A request that waits alone without a free tag is not served (R282, R297). -/
theorem nextServed_untagged {k : Nat} (hqueue : s.mrw.queue = [p]) (htag : s.tagFree p.cls = false) :
    s.nextServed k = none := by
  have hhead (c : Nat) (hc : p.cls ≠ c) : s.headOf k c = none := by
    unfold State.headOf
    rw [hqueue, List.find?_singleton]
    simp [hc]
  have hfree (c : Nat) : (if s.tagFree c then (s.headOf k c).filter fun p => !s.behind p else none) = none := by
    by_cases hc : p.cls = c
    · rw [← hc, htag]
      rfl
    · rw [hhead c hc]
      exact ite_self _
  unfold State.nextServed
  dsimp only
  rw [hfree 1, hfree 2]
  exact ite_self _

/-- It waits alone where nothing waits. -/
theorem enqueued_queue (n : Nat) (h : s.mrw.queue = []) : (enqueued q (s.advance n)).mrw.queue = [arrival q (s.advance n)] := by
  unfold enqueued
  dsimp only
  rw [advance_mrw, h]
  rfl

/-- A request of class 1 or 2 waits, and its stack serves what it can (R297). -/
theorem marrowRequest_waits (hwho : q.who < 270) (hup : s.pwr.inReset = false) (hpod : s.podDead q.who = false)
    (hinit : s.flag MRW_STAT_INIT_DONE = true) (hok : mreqOk q = true) (hmay : s.permits q = true)
    (hcls : s.classOf q = 1 ∨ s.classOf q = 2) (hqueue : s.mrw.queue = []) :
    exec (.marrowRequest q n) s = .next (serveThen (stackOf q.addr) (mrwServe (stackOf q.addr) 0) (enqueued q (s.advance n))
      ((enqueued q (s.advance n)).nextServed (stackOf q.addr))) := by
  have hoffer := advance_sameOffer q n s
  have hat : s.atOnce (stackOf q.addr) (s.classOf q) q.len = none := by
    rcases hcls with h | h
    · rw [h]
      rfl
    · rw [h]
      rfl
  have hempty : (s.advance n).mrw.queue = [] := (congrArg Marrow.queue hoffer.mrw).trans hqueue
  rw [marrowRequest_proper hwho hup hpod hinit hok hmay, hat, decided, hempty, List.length_nil, mrwServe_succ]

/-- A request that its window takes leaves the queue and is admitted. -/
theorem serveThen_fits {k : Nat} {rest : State → State} {e : State} (hfits : (e.window k).used + p.req.len ≤ windowBytes) :
    serveThen k rest e (some p) = rest (mrwAdmit p (dequeued p.id e)) := by
  rw [serveThen, if_neg (Nat.not_lt.mpr hfits)]
  rfl

/-- A request that waits alone and is admitted leaves the queue empty. -/
theorem dequeued_alone {e : State} (h : e.mrw.queue = [p]) : (dequeued p.id e).mrw.queue = [] := by
  unfold dequeued
  dsimp only
  rw [h]
  simp

/-- The request that waits alone, once it is admitted (R297). -/
theorem mrwAdmit_alone {e : State} {k : Nat} (h : e.mrw.queue = [p]) (hnumber : p.id = k) :
    ((mrwAdmit p (dequeued p.id e)).mrw.out.any fun r => r.id == k) = true ∧ (mrwAdmit p (dequeued p.id e)).mrw.queue = [] ∧
      (mrwAdmit p (dequeued p.id e)).mem = if p.req.write then memPut p.req.addr p.req.data e.mem else e.mem := by
  obtain ⟨-, ⟨r, hid, -, hout⟩, hleft, hbytes, -⟩ := mrwAdmit_admitted p (dequeued p.id e)
  refine ⟨?_, ?_, hbytes⟩
  · rw [hout, List.any_append]
    simp [hid, hnumber]
  · rw [hleft, dequeued_alone h]
    exact ite_self _

theorem arrival_req (q : MReq) (s : State) : (arrival q s).req = q := rfl

theorem enqueued_window (q : MReq) (s : State) (k : Nat) : (enqueued q s).window k = s.window k := rfl

theorem enqueued_tagFree (q : MReq) (s : State) (c : Nat) : (enqueued q s).tagFree c = s.tagFree c := rfl

theorem enqueued_mem (q : MReq) (s : State) : (enqueued q s).mem = s.mem := rfl

theorem mrwServe_zero (k : Nat) (s : State) : mrwServe k 0 s = s := rfl

/-- It is admitted where its window and its tags have room for it. -/
theorem marrowRequest_served (hwho : q.who < 270) (hup : s.pwr.inReset = false) (hpod : s.podDead q.who = false)
    (hinit : s.flag MRW_STAT_INIT_DONE = true) (hok : mreqOk q = true) (hmay : s.permits q = true)
    (hcls : s.classOf q = 1 ∨ s.classOf q = 2) (hqueue : s.mrw.queue = [])
    (hfits : (s.window (stackOf q.addr)).used + q.len ≤ windowBytes) (htag : s.tagFree (s.classOf q) = true) :
    Gives (.marrowRequest q n) s fun t => (t.mrw.out.any fun p => p.id == s.mrw.nextId) = true ∧ t.mrw.queue = [] ∧
      t.mem = if q.write then memPut q.addr q.data s.mem else s.mem := by
  have hoffer := advance_sameOffer q n s
  have hcls' : (arrival q (s.advance n)).cls = s.classOf q := hoffer.classOf
  have htag' : (enqueued q (s.advance n)).tagFree (arrival q (s.advance n)).cls = true := by
    rw [hcls', enqueued_tagFree, hoffer.tagFree, htag]
  have hwaits := enqueued_queue (q := q) n hqueue
  have hwindow : ((enqueued q (s.advance n)).window (stackOf q.addr)).used + (arrival q (s.advance n)).req.len ≤ windowBytes := by
    rw [enqueued_window, hoffer.window, arrival_req]
    exact hfits
  have hnumber : (arrival q (s.advance n)).id = s.mrw.nextId := congrArg Marrow.nextId hoffer.mrw
  have hstate := marrowRequest_waits (n := n) hwho hup hpod hinit hok hmay hcls hqueue
  rw [nextServed_single (k := stackOf q.addr) hwaits rfl (hcls'.symm ▸ hcls) htag', serveThen_fits hwindow, mrwServe_zero] at hstate
  obtain ⟨hout, hempty, hbytes⟩ := mrwAdmit_alone hwaits hnumber
  rw [arrival_req, enqueued_mem, hoffer.mem] at hbytes
  exact ⟨_, hstate, hout, hempty, hbytes⟩

/-- It stays in the queue where they do not. -/
theorem marrowRequest_left (hwho : q.who < 270) (hup : s.pwr.inReset = false) (hpod : s.podDead q.who = false)
    (hinit : s.flag MRW_STAT_INIT_DONE = true) (hok : mreqOk q = true) (hmay : s.permits q = true)
    (hcls : s.classOf q = 1 ∨ s.classOf q = 2) (hqueue : s.mrw.queue = [])
    (hnot : (s.window (stackOf q.addr)).used + q.len ≤ windowBytes → s.tagFree (s.classOf q) = false) :
    Gives (.marrowRequest q n) s fun t =>
      t.mrw.queue.map (fun p => (p.id, p.req, p.cls, p.arrived)) = [(s.mrw.nextId, q, s.classOf q, (s.advance n).now)] ∧
      t.mem = s.mem ∧ t.mrw.reply = s.mrw.reply ∧ t.mrw.out = s.mrw.out := by
  have hoffer := advance_sameOffer q n s
  have hcls' : (arrival q (s.advance n)).cls = s.classOf q := hoffer.classOf
  have hwaits := enqueued_queue (q := q) n hqueue
  have hwindow : (enqueued q (s.advance n)).window (stackOf q.addr) = s.window (stackOf q.addr) := hoffer.window _
  have htag' : (enqueued q (s.advance n)).tagFree (arrival q (s.advance n)).cls = s.tagFree (s.classOf q) := by
    rw [hcls']
    exact hoffer.tagFree _
  have hstays : serveThen (stackOf q.addr) (mrwServe (stackOf q.addr) 0) (enqueued q (s.advance n))
      ((enqueued q (s.advance n)).nextServed (stackOf q.addr)) = enqueued q (s.advance n) := by
    cases htag : s.tagFree (s.classOf q) with
    | false => rw [nextServed_untagged hwaits (htag'.trans htag), serveThen]
    | true =>
      have hfull : windowBytes < (s.window (stackOf q.addr)).used + q.len := by
        by_contra hfits
        rw [htag] at hnot
        exact Bool.noConfusion (hnot (Nat.le_of_not_lt hfits))
      rw [nextServed_single (k := stackOf q.addr) hwaits rfl (hcls'.symm ▸ hcls) (htag'.trans htag), serveThen, hwindow,
        if_pos (show windowBytes < (s.window (stackOf q.addr)).used + (arrival q (s.advance n)).req.len from hfull)]
  have hstate := marrowRequest_waits (n := n) hwho hup hpod hinit hok hmay hcls hqueue
  rw [hstays] at hstate
  refine ⟨_, hstate, ?_, hoffer.mem, (congrArg Marrow.reply hoffer.mrw :), (congrArg Marrow.out hoffer.mrw :)⟩
  rw [hwaits]
  show [((s.advance n).mrw.nextId, q, (s.advance n).classOf q, (s.advance n).now)] = _
  rw [hoffer.mrw, hoffer.classOf]

end

/-! ## The statement on the classes -/

/-- Settles O50: each class decides its request as R297 says, shown above for the class. -/
theorem marrowClasses : Obligations.MarrowClasses := by
  unfold Obligations.MarrowClasses
  have off {b : Bool} (h : (!b) = true) : b = false := (Bool.not_eq_true' _).mp h
  refine ⟨?_, ?_, ?_, ?_, ?_⟩
  · intro s q n hwho hup hpod hinit hok hmay hcls hover ho
    have hat : s.atOnce (stackOf q.addr) (s.classOf q) q.len = some (2 + 1) := by
      rw [eq_of_beq hcls, atOnce_zero, if_pos (of_decide_eq_true hover)]
    obtain ⟨t, hexec, ht, hreply, hmem, hout, -⟩ :=
      marrowRequest_refused (n := n) (of_decide_eq_true hwho) (off hup) (off hpod) hinit hok hmay hat (off ho)
    exact ⟨t, hexec, hreply, hmem, hout, ht ▸ (mrwAnswer_refusedClass _ _ _ _).of_getF (numbered_getF n s _)⟩
  · intro s q n hwho hup hpod hinit hok hmay hcls hwithin htag ho
    have hat : s.atOnce (stackOf q.addr) (s.classOf q) q.len = some (1 + 1) := by
      rw [eq_of_beq hcls, atOnce_zero, if_neg (Nat.not_lt.mpr (of_decide_eq_true hwithin)), off htag]
      rfl
    obtain ⟨t, hexec, ht, hreply, hmem, hout, -⟩ :=
      marrowRequest_refused (n := n) (of_decide_eq_true hwho) (off hup) (off hpod) hinit hok hmay hat (off ho)
    exact ⟨t, hexec, hreply, hmem, hout, ht ▸ (mrwAnswer_refused _ _ _ _).of_getF (numbered_getF n s _)⟩
  · intro s q n hwho hup hpod hinit hok hmay hcls hqueue hnot
    refine marrowRequest_left (of_decide_eq_true hwho) (off hup) (off hpod) hinit hok hmay (by simpa using hcls)
      (List.isEmpty_iff.mp hqueue) fun hfits => ?_
    simpa [hfits] using hnot
  · intro s q n hwho hup hpod hinit hok hmay hcls hqueue hfree
    have hnone := List.isEmpty_iff.mp hqueue
    have hcls := eq_of_beq hcls
    rw [hcls] at hfree
    obtain ⟨hfits, htag⟩ := Bool.and_eq_true_iff.mp hfree
    have hat : s.atOnce (stackOf q.addr) (s.classOf q) q.len = some 0 := by
      rw [hcls, atOnce_three, headOf_of_queue hnone, headOf_of_queue hnone, hfits, htag]
      rfl
    obtain ⟨t, hexec, hout, hmem, -, hleft⟩ :=
      marrowRequest_admitted (n := n) (of_decide_eq_true hwho) (off hup) (off hpod) hinit hok hmay hat
    exact ⟨t, hexec, hout, hleft hnone, hmem⟩
  · intro s q n hwho hup hpod hinit hok hmay hcls hbusy ho
    have hcls := eq_of_beq hcls
    have hat : s.atOnce (stackOf q.addr) (s.classOf q) q.len = some (2 + 1) := by
      rw [hcls] at hbusy ⊢
      rw [atOnce_three, if_neg]
      simp only [Bool.or_eq_true, Option.isSome_iff_ne_none, Bool.not_eq_true', Bool.and_eq_false_iff] at hbusy
      simp only [Bool.and_eq_true, Option.isNone_iff_eq_none]
      rintro ⟨⟨⟨hone, htwo⟩, hfits⟩, htag⟩
      rw [hfits, htag] at hbusy
      simp [hone, htwo] at hbusy
    obtain ⟨t, hexec, -, hreply, hmem, hout, hqueue⟩ :=
      marrowRequest_refused (n := n) (of_decide_eq_true hwho) (off hup) (off hpod) hinit hok hmay hat (off ho)
    exact ⟨t, hexec, hreply, hmem, hout, hqueue⟩

/-! ## Completions -/

section
variable {s u v : State} {id : Nat} {p : MPend}

/-- The completion of a request, whatever is queued. -/
theorem marrowReply_plain (hqueue : ∀ r ∈ s.mrw.queue, r.id ≠ id) (hfind : s.mrw.out.find? (fun r => r.id == id) = some p)
    (hpod : s.podDead p.req.who = false) (howed : s.owed p.req.who id = false) (hheld : s.mrw.held = []) :
    Gives (.marrowReply id []) s fun t => t.mrw.reply = some (id, if p.late then 1 else 0, p.data) ∧
      (t.mrw.out.any fun r => r.id == id) = false := by
  obtain rfl := find_id hfind
  refine ⟨_, marrowReply_state [] hfind hpod howed (.inr rfl), ?_⟩
  have hserved := mrwRelease_served p s
  rw [List.filter_nil, eccLines, List.foldl_nil, ite_self, mrwReplyTo_unheld _ _ (hserved.owed howed) (hserved.held.trans hheld)]
  have hanswer := mrwAnswer_answered p.id p.req.who (if p.late then 1 else 0) p.data (mrwRelease p s)
  exact ⟨hanswer.reply, by rw [hanswer.out]; exact mrwRelease_unlisted hqueue⟩

/-- A read whose first line is uncorrectable is answered VOID, the line counted and its address shown (R294). -/
theorem marrowReply_void (hfind : s.mrw.out.find? (fun r => r.id == id) = some p)
    (hpod : s.podDead p.req.who = false) (howed : s.owed p.req.who id = false) (hheld : s.mrw.held = [])
    (hread : p.req.write = false) (hlen : 0 < p.req.len) :
    Gives (.marrowReply id [(0, .uncorrectable)]) s fun t => t.mrw.reply = some (id, 4, List.replicate p.req.len 0) ∧
      Counted (MRW_ECC_UE (stackOf p.req.addr)) s t ∧ t.get64 MRW_ECC_ADDR_LO MRW_ECC_ADDR_HI = p.req.addr % 2 ^ 64 := by
  obtain rfl := find_id hfind
  have hline : [(0, Ecc.uncorrectable)].filter (fun q => decide (64 * q.1 < p.req.len)) = [(0, .uncorrectable)] := by
    simp [hlen]
  have hexec : exec (.marrowReply p.id [(0, .uncorrectable)]) s = .next
      (mrwReplyTo p.id p.req.who 4 (List.replicate p.req.len 0) (eccDead p.req.addr (mrwRelease p s))) := by
    have h : exec (.marrowReply p.id [(0, .uncorrectable)]) s = execMarrowReply p.id [(0, .uncorrectable)] s := rfl
    rw [h, execMarrowReply, hfind]
    dsimp only
    rw [hpod, howed, hread, if_neg (by decide), hline]
    rfl
  refine ⟨_, hexec, ?_⟩
  have hserved := mrwRelease_served p s
  obtain ⟨hleft, hcounted, haddr⟩ := eccDead_shows p.req.addr (mrwRelease p s)
  have hreg := ecc_reg_lt (k := stackOf p.req.addr) (Nat.mod_lt _ (by decide))
  generalize eccDead p.req.addr (mrwRelease p s) = u at hleft hcounted haddr ⊢
  have howes : u.owed p.req.who p.id = false := by
    refine owed_of_listed (hleft.rd _ ?_ ?_) ?_ (hserved.owed howed)
    · unfold MRW_RQr_CFG
      omega
    · unfold MRW_RQr_CFG OBS_TWP OBS_TLOST
      omega
    · rw [hleft.out, hleft.queue]
      exact fun r hr => ⟨r, hr, rfl, rfl⟩
  rw [mrwReplyTo_unheld _ _ howes (hleft.held.trans (hserved.held.trans hheld))]
  have hanswer := mrwAnswer_answered p.id p.req.who 4 (List.replicate p.req.len 0) u
  refine ⟨hanswer.reply, ?_, ?_⟩
  · have hbefore : (mrwRelease p s).getF (MRW_ECC_UE (stackOf p.req.addr)) = s.getF (MRW_ECC_UE (stackOf p.req.addr)) :=
      getF_of_rd (hserved.rd _ (ne_cnt2_of_lt (hreg.trans (by decide))))
    have hafter := getF_of_rd (f := MRW_ECC_UE (stackOf p.req.addr)) (hanswer.rd _ (hreg.trans (by decide)))
    exact hafter.trans (hcounted.of_getF hbefore)
  · rw [State.get64, hanswer.rd _ (by decide), hanswer.rd _ (by decide)]
    exact haddr

/-- What serving leaves of the reply last given and of the completions discarded. -/
structure Unanswered (s u : State) : Prop where
  reply : u.mrw.reply = s.mrw.reply
  discarded : ∀ w, u.getF (MRW_RQr_CNT2_MDISC w) = s.getF (MRW_RQr_CNT2_MDISC w)

theorem Unanswered.refl (s : State) : Unanswered s s := ⟨rfl, fun _ => rfl⟩

theorem Unanswered.trans (h : Unanswered s u) (hv : Unanswered u v) : Unanswered s v :=
  ⟨hv.reply.trans h.reply, fun w => (hv.discarded w).trans (h.discarded w)⟩

theorem outShow_unanswered (w : Nat) (h : Unanswered s u) : Unanswered s (outShow w u) where
  reply := (congrArg Marrow.reply (outShow_mrw w u)).trans h.reply
  discarded v := by
    refine Eq.trans ?_ (h.discarded v)
    exact getF_setF_apart _ _ _ _ (.inr (by simp [MRW_RQr_CNT2_MDISC, MRW_RQr_CNT2_OUT]))

theorem mrwAdmit_unanswered (p : MPend) (s : State) : Unanswered s (mrwAdmit p s) := by
  unfold mrwAdmit
  extract_lets k late found p1 s1 src
  have hmrw : s1.mrw = { s.mrw with windows := s1.mrw.windows } := by
    unfold s1 winAdmit
    dsimp only
    rw [stored_mrw]
  have hregs : s1.regs = s.regs := stored_regs _ _ _ _
  refine outShow_unanswered _ ⟨(congrArg Marrow.reply hmrw :), fun w => getF_of_rd (rd_of_regs ?_ _)⟩
  exact hregs

theorem mrwServe_unanswered (k n : Nat) (s : State) : Unanswered s (mrwServe k n s) := by
  induction n generalizing s with
  | zero => exact .refl s
  | succ n ih =>
    rw [mrwServe_succ]
    cases s.nextServed k with
    | none => exact .refl s
    | some p =>
      rw [serveThen]
      split
      · exact .refl s
      · have hdequeued : Unanswered s (dequeued p.id s) := ⟨rfl, fun w => getF_of_rd (rd_of_regs rfl _)⟩
        exact (hdequeued.trans (mrwAdmit_unanswered p _)).trans (ih _)

theorem mrwRelease_unanswered (p : MPend) (s : State) : Unanswered s (mrwRelease p s) := by
  have hreleased : Unanswered s (released p s) := outShow_unanswered _ ⟨rfl, fun w => getF_of_rd (rd_of_regs rfl _)⟩
  rw [mrwRelease_eq]
  exact hreleased.trans (forEach_rel Unanswered.refl Unanswered.trans (fun k _ x => mrwServe_unanswered k _ x) _)

/-- A completion for a pod that is not ACTIVE is discarded, and what is queued may take its tag (R153). -/
theorem marrowCompletionDiscard_frees (hqueue : ∀ r ∈ s.mrw.queue, r.id ≠ id)
    (hfind : s.mrw.out.find? (fun r => r.id == id) = some p) (hpod : s.podDead p.req.who = true) :
    Gives (.marrowCompletionDiscard id) s fun t => (t.mrw.out.any fun r => r.id == id) = false ∧
      Counted (MRW_RQr_CNT2_MDISC p.req.who) s t ∧ Counted (FAB_LPp_CNT1_MDISC p.req.who) s t ∧ t.mrw.reply = s.mrw.reply := by
  obtain rfl := find_id hfind
  have hexec : exec (.marrowCompletionDiscard p.id) s = .next
      (((mrwRelease p s).bump (FAB_LPp_CNT1_MDISC p.req.who)).bump (MRW_RQr_CNT2_MDISC p.req.who)) := by
    have h : exec (.marrowCompletionDiscard p.id) s = execMarrowCompletionDiscard p.id s := rfl
    rw [h, execMarrowCompletionDiscard, hfind]
    dsimp only
    rw [if_pos hpod]
  refine ⟨_, hexec, ?_⟩
  have hlt : FAB_LPp_CNT1 p.req.who < 0x31000 := by
    have hwho := podDead_lt hpod
    unfold FAB_LPp_CNT1
    omega
  have hfab : (FAB_LPp_CNT1_MDISC p.req.who).reg ≠ (MRW_RQr_CNT2_MDISC p.req.who).reg := ne_cnt2_of_lt hlt _
  have hkept := mrwRelease_unanswered p s
  beta_reduce
  rw [bump_mrw, bump_mrw]
  refine ⟨mrwRelease_unlisted hqueue, ?_, ?_, hkept.reply⟩
  · refine (counted_bump _ (MRW_RQr_CNT2_MDISC p.req.who) (by decide : 16 ≤ 31) (by decide : 31 < 32)).of_getF ?_
    exact (getF_bump_apart _ _ _ (.inl hfab.symm)).trans (hkept.discarded _)
  · have hlast := getF_bump_apart ((mrwRelease p s).bump (FAB_LPp_CNT1_MDISC p.req.who)) (MRW_RQr_CNT2_MDISC p.req.who)
      (FAB_LPp_CNT1_MDISC p.req.who) (.inl hfab)
    refine hlast.trans ((counted_bump _ (FAB_LPp_CNT1_MDISC p.req.who) (by decide : 0 ≤ 15) (by decide : 15 < 32)).of_getF ?_)
    exact getF_of_rd ((mrwRelease_served p s).rd _ (ne_cnt2_of_lt hlt))

/-! ## Windows and the patrol -/

/-- A window begins afresh where nothing is queued. -/
theorem marrowAdmissionWindow_empty {k n : Nat} (hk : k < 4) (hn : n % 4096 = 0) (hup : s.pwr.inReset = false)
    (hqueue : s.mrw.queue = []) : Gives (.marrowAdmissionWindow k n) s fun t => t.window k = {} := by
  have hexec : exec (.marrowAdmissionWindow k n) s = .next (windowOpened k (s.advance n)) := by
    have h : exec (.marrowAdmissionWindow k n) s = execMarrowAdmissionWindow k n s := rfl
    rw [h]
    unfold execMarrowAdmissionWindow
    rw [if_pos (by simp [hk, hn, hup])]
    dsimp only
    rw [show (s.advance n).mrw.queue.length = 0 by rw [advance_mrw, hqueue]; rfl]
    rfl
  exact ⟨_, hexec, windowOpened_window k _⟩

end

/-! ## The statement on requests and regions -/

/-- Settles O24: a request is decided at its arrival by what Marrow is ready for, by its form and by its class; completions,
waits, windows, the patrol and APPLY leave what is shown above and for O51. -/
theorem marrowRequestsAndRegions : Obligations.MarrowRequestsAndRegions := by
  unfold Obligations.MarrowRequestsAndRegions
  have off {b : Bool} (h : (!b) = true) : b = false := (Bool.not_eq_true' _).mp h
  have unqueued {l : List MPend} {id : Nat} (h : (!(l.any fun r => r.id == id)) = true) : ∀ r ∈ l, r.id ≠ id := by simpa using h
  refine ⟨?_, ?_, ?_, ?_, ?_, ?_, ?_, ?_, ?_, ?_, ?_, ?_⟩
  · intro s q n hwho hup hpod hinit ho
    exact marrowRequest_early (of_decide_eq_true hwho) (off hup) (off hpod) (off hinit) (off ho)
  · intro s q n hwho hup hpod hinit hbad ho
    exact marrowRequest_barred (of_decide_eq_true hwho) (off hup) (off hpod) hinit hbad (off ho)
  · intro s q n hwho hup hpod hinit hok hmay hcls hwithin htag
    have hcls := eq_of_beq hcls
    have hat : s.atOnce (stackOf q.addr) (s.classOf q) q.len = some 0 := by
      rw [hcls, atOnce_zero, if_neg (Nat.not_lt.mpr (of_decide_eq_true hwithin)), if_pos htag]
    obtain ⟨t, hexec, hout, hmem, hwindow, -⟩ :=
      marrowRequest_admitted (n := n) (of_decide_eq_true hwho) (off hup) (off hpod) hinit hok hmay hat
    refine ⟨t, hexec, hout, hmem, ?_⟩
    rw [hwindow, hcls]
    rfl
  · intro s q n hwho hup hpod hinit hok hmay hcls hqueue hfits htag
    exact marrowRequest_served (of_decide_eq_true hwho) (off hup) (off hpod) hinit hok hmay (by simpa using hcls)
      (List.isEmpty_iff.mp hqueue) (of_decide_eq_true hfits) htag
  · intro s id p hqueue hfind hpod howed hheld
    exact marrowReply_plain (unqueued hqueue) (eq_of_beq hfind) (off hpod) (off howed) (List.isEmpty_iff.mp hheld)
  · intro s id p _ hfind hpod howed hheld hread hlen
    exact marrowReply_void (eq_of_beq hfind) (off hpod) (off howed) (List.isEmpty_iff.mp hheld) (off hread)
      (of_decide_eq_true hlen)
  · intro s id n p hfind hdue howed hheld
    obtain ⟨t, hexec, hreply, hqueue, -⟩ :=
      marrowWaitTimeout_refuses (eq_of_beq hfind) (of_decide_eq_true hdue) (off howed) (List.isEmpty_iff.mp hheld)
    refine ⟨t, hexec, hreply, ?_⟩
    rw [hqueue]
    simp
  · intro s k n hk hn hup hqueue
    exact marrowAdmissionWindow_empty (of_decide_eq_true hk) (eq_of_beq hn) (off hup) (List.isEmpty_iff.mp hqueue)
  · intro s k n p hk hn hup hqueue hstack hcls htag hfits
    obtain ⟨t, hexec, hleft, hout, -⟩ := marrowAdmissionWindow_admits (of_decide_eq_true hk) (eq_of_beq hn) (off hup)
      (eq_of_beq hqueue) (eq_of_beq hstack) (by simpa using hcls) htag (of_decide_eq_true hfits)
    exact ⟨t, hexec, hleft, hout⟩
  · intro s id p hqueue hfind hpod
    exact marrowCompletionDiscard_frees (unqueued hqueue) (eq_of_beq hfind) hpod
  · intro s pr fixes dead hen hdone hpr hreached hfixes
    have hpr := of_decide_eq_true hpr
    refine ⟨_, scrubStep_state hen hdone hpr hreached fixes dead (by simpa using hfixes), ?_⟩
    have hbits : 2 ^ (MRW_SCRUB_PROGRESS.hi + 1 - MRW_SCRUB_PROGRESS.lo) = 256 := rfl
    exact getF_setF_fits _ _ _ (by decide) (by omega)
  · intro s m hr hfixed hok
    obtain ⟨t, hexec, hmatch, hact, hchans, -⟩ := mrwApply_takes hr (off hfixed) hok
    exact ⟨t, hexec, hmatch, hact, hchans⟩

end Sys2Proof.Machine
end

section
/-! SUPPORT. Numbers as bytes, windows, and the calibration image that a save writes (R525 to R528). -/

set_option Elab.async false

namespace Sys2Proof.Machine

/-! ## Numbers as bytes -/

@[simp] theorem length_bytesOf (n v : Nat) : (bytesOf n v).length = n := by simp [bytesOf]

theorem bytesOf_succ (n v : Nat) : bytesOf (n + 1) v = BitVec.ofNat 8 v :: bytesOf n (v / 256) := by
  simp only [bytesOf, List.range_succ_eq_map, List.map_cons, List.map_map, Nat.mul_zero, Nat.shiftRight_zero]
  congr 1
  refine List.map_congr_left fun i _ => ?_
  show BitVec.ofNat 8 (v >>> (8 * (i + 1))) = BitVec.ofNat 8 ((v / 256) >>> (8 * i))
  rw [Nat.mul_add, Nat.add_comm (8 * i), Nat.shiftRight_add, Nat.shiftRight_eq_div_pow v (8 * 1)]

/-- The bytes of a number spell it. -/
theorem natOf_bytesOf (n v : Nat) : natOf (bytesOf n v) = v % 256 ^ n := by
  induction n generalizing v with
  | zero => rw [Nat.pow_zero, Nat.mod_one]; rfl
  | succ n ih =>
    rw [bytesOf_succ, natOf, ih]
    show v % 256 + 256 * (v / 256 % 256 ^ n) = v % 256 ^ (n + 1)
    rw [Nat.pow_succ' (m := 256), Nat.mod_mul]

theorem natOf_lt (l : List Byte) : natOf l < 256 ^ l.length := by
  induction l with
  | nil => decide
  | cons b t ih =>
    have hb : b.toNat < 256 := b.isLt
    rw [natOf, List.length_cons, Nat.pow_succ']
    omega

/-- A number read behind the first of two lists. -/
theorem leAt_append_right (a b : List Byte) (o n : Nat) : leAt (a ++ b) (a.length + o) n = leAt b o n := by
  unfold leAt
  rw [List.drop_append, List.drop_eq_nil_of_le (by omega), List.nil_append, Nat.add_sub_cancel_left]

/-- The same, the length of the first list known. -/
theorem leAt_skip {a b : List Byte} {k : Nat} (h : a.length = k) (o n : Nat) : leAt (a ++ b) (k + o) n = leAt b o n := by
  rw [← h, leAt_append_right]

/-- The bytes at the head of a list are the number they spell. -/
theorem leAt_head (a b : List Byte) : leAt (a ++ b) 0 a.length = natOf a := by
  unfold leAt
  rw [List.drop_zero, List.take_left]

/-- A list cut or padded to its place. -/
@[simp] theorem length_fit (n : Nat) (l : List Byte) : (fit n l).length = n := by
  simp [fit]
  omega

theorem fit_of_le {n : Nat} {l : List Byte} (h : l.length ≤ n) : fit n l = l ++ List.replicate (n - l.length) 0 := by
  rw [fit, List.take_of_length_le h]

theorem crcStep_lt (k : Nat) {c : Nat} (h : c < 2 ^ 32) : crcStep k c < 2 ^ 32 := by
  induction k generalizing c with
  | zero => exact h
  | succ k ih =>
    refine ih ?_
    split
    · exact Nat.xor_lt_two_pow (by omega) (by decide)
    · omega

theorem crcRun_lt (l : List Byte) {c : Nat} (h : c < 2 ^ 32) : crcRun l c < 2 ^ 32 := by
  induction l generalizing c with
  | nil => exact h
  | cons b t ih => exact ih (crcStep_lt 8 (Nat.xor_lt_two_pow h (b.isLt.trans (by decide))))

theorem crc32_lt (l : List Byte) : crc32 l < 2 ^ 32 := Nat.xor_lt_two_pow (crcRun_lt l (by decide)) (by decide)

/-! ## Windows -/

/-- Bytes placed from an address on, in order, leave those before it. -/
theorem putFrom_lt (a k : Nat) : ∀ (l : List Byte) (i : Nat) (m : List (Nat × Byte)), k < a + i →
    sget winDefault ((l.zipIdx i).foldl (fun m p => sset winDefault (a + p.2) p.1 m) m) k = sget winDefault m k
  | [], _, _, _ => rfl
  | b :: t, i, m, h => by
    rw [List.zipIdx_cons, List.foldl_cons, putFrom_lt a k t (i + 1) _ (by omega), sget_sset_other _ _ _ _ _ (by simp; omega)]

/-- Each byte of a list placed from an address on stands at its place. -/
theorem putFrom_get (a : Nat) : ∀ (l : List Byte) (i : Nat) (m : List (Nat × Byte)) (j : Nat) (hj : j < l.length),
    sget winDefault ((l.zipIdx i).foldl (fun m p => sset winDefault (a + p.2) p.1 m) m) (a + i + j) = l[j]
  | b :: t, i, m, 0, _ => by
    rw [List.zipIdx_cons, List.foldl_cons, putFrom_lt a (a + i + 0) t (i + 1) _ (by omega)]
    exact sget_sset_same _ _ _ _
  | b :: t, i, m, j + 1, hj => by
    rw [List.zipIdx_cons, List.foldl_cons, show a + i + (j + 1) = a + (i + 1) + j by omega]
    exact putFrom_get a t (i + 1) _ j (by simpa using hj)

theorem winBytes_of_win {s t : State} (h : t.win = s.win) (a n : Nat) : t.winBytes a n = s.winBytes a n := by
  unfold State.winBytes State.winGet
  rw [h]

/-- A window holds the bytes last placed in it. -/
theorem winBytes_winPut (a : Nat) (l : List Byte) (s : State) : (winPut a l s).winBytes a l.length = l := by
  refine List.ext_getElem (by simp [State.winBytes]) fun j hj hj' => ?_
  have hget := putFrom_get a l 0 s.win j hj'
  simpa [State.winBytes, State.winGet, winPut] using hget

/-! ## The image -/

section
variable (s : State) (gen : Nat)

@[simp] theorem length_slSectionBytes : s.slSectionBytes.length = 2048 := by
  unfold State.slSectionBytes
  rw [List.length_flatten, List.map_map, List.map_congr_left (g := fun _ => 16)]
  · simp
  · intro c _
    show (if (s.slEntry c).filled then _ else _ : List Byte).length = 16
    split <;> simp

theorem length_calSection {n : Nat} : (s.calSection n).length = 8 + calLen n := by
  unfold State.calSection
  dsimp only
  generalize (if n = 5 then s.slk.entries.any (fun p => p.2.filled) else (s.cal n).firstAt.isSome) = valid
  have hdata : (if (!valid) = true then List.replicate (calLen n) 0
      else if n = 5 then s.slSectionBytes else fit (calLen n) (s.cal n).trims).length = calLen n := by
    split
    · exact List.length_replicate
    · split
      next h => rw [h, length_slSectionBytes]; rfl
      next => exact length_fit _ _
  rw [List.length_append, List.length_append, length_bytesOf, hdata]
  rfl

/-- A section's header is the one that its place asks for (R525). -/
theorem calSection_head {n : Nat} (h : n < 6) (rest : List Byte) :
    leAt (s.calSection n ++ rest) 0 1 = n ∧ leAt (s.calSection n ++ rest) 1 1 = 1 ∧ leAt (s.calSection n ++ rest) 3 1 = 0 ∧
      leAt (s.calSection n ++ rest) 4 4 = calLen n := by
  unfold State.calSection
  dsimp only
  generalize (if n = 5 then s.slk.entries.any (fun p => p.2.filled) else (s.cal n).firstAt.isSome) = valid
  generalize (if (!valid) = true then List.replicate (calLen n) 0
    else if n = 5 then s.slSectionBytes else fit (calLen n) (s.cal n).trims) = data
  have hlen : calLen n < 2 ^ 32 := by
    unfold calLen
    split
    · decide
    · split <;> decide
  have hfour : leAt ([BitVec.ofNat 8 n, 1, if valid then 1 else 0, 0] ++ bytesOf 4 (calLen n) ++ data ++ rest) 4 4 = calLen n := by
    rw [List.append_assoc, List.append_assoc]
    refine (leAt_append_right [BitVec.ofNat 8 n, 1, if valid then 1 else 0, 0] _ 0 4).trans ?_
    refine (leAt_head (bytesOf 4 (calLen n)) _).trans ?_
    rw [natOf_bytesOf]
    exact Nat.mod_eq_of_lt hlen
  refine ⟨?_, rfl, rfl, hfour⟩
  show (BitVec.ofNat 8 n).toNat + 256 * 0 = n
  rw [BitVec.toNat_ofNat]
  omega

/-- The sections before number n, one after the other. -/
def calSections (n : Nat) : List Byte := ((List.range n).map s.calSection).flatten

theorem calSections_succ (n : Nat) : calSections s (n + 1) = calSections s n ++ s.calSection n := by
  simp [calSections, List.range_succ]

theorem length_calSections {n : Nat} (h : n < 6) : 64 + (calSections s n).length = calOff n := by
  have hsum : (calSections s n).length = ((List.range n).map fun k => 8 + calLen k).sum := by
    simp [calSections, List.length_flatten, Function.comp_def, length_calSection]
  rw [hsum]
  interval_cases n <;> rfl

/-- Every section stands at its offset, something after it. -/
theorem calSections_six {n : Nat} (h : n < 6) : ∃ rest, calSections s 6 = calSections s n ++ (s.calSection n ++ rest) := by
  have hstep (m : Nat) : ∀ k, ∃ rest, calSections s (m + k) = calSections s m ++ rest := by
    intro k
    induction k with
    | zero => exact ⟨[], (List.append_nil _).symm⟩
    | succ k ih =>
      obtain ⟨rest, hrest⟩ := ih
      exact ⟨rest ++ s.calSection (m + k), by rw [← Nat.add_assoc, calSections_succ, hrest, List.append_assoc]⟩
  obtain ⟨rest, hrest⟩ := hstep (n + 1) (5 - n)
  refine ⟨rest, ?_⟩
  rw [show 6 = n + 1 + (5 - n) by omega, hrest, calSections_succ, List.append_assoc]

/-- The head of the image up to the padding: MAGIC, the format, the number of sections, the size, the generation, the device
and its step, and the sensors (R525). -/
def calHead : List Byte :=
  bytesOf 4 0x43414C49 ++ ([1, 6] ++ (bytesOf 2 8192 ++ (bytesOf 4 gen ++ (bytesOf 8 s.sec.otp.devId ++ (bytesOf 1 Config.step ++
    ([0, 0, 0] ++ ((List.range 8).map fun k => bytesOf 2 (unsignedOf 16 (s.ts k))).flatten))))))

theorem length_calHead : (calHead s gen).length = 40 := by
  simp [calHead, List.length_flatten, Function.comp_def]

/-- What the CRC of the image is over: the head, the sections and zeros to 8,188 bytes. -/
def calBody : List Byte :=
  (calHead s gen ++ List.replicate 24 0) ++ (calSections s 6 ++ List.replicate 2444 0)

theorem length_calBody : (calBody s gen).length = 8188 := by
  have hfive : 64 + (calSections s 5).length = 3688 := length_calSections s (by decide)
  have hlast : (s.calSection 5).length = 2056 := length_calSection s
  simp only [calBody, List.length_append, length_calHead, List.length_replicate, calSections_succ s 5]
  omega

theorem calImage_eq : s.calImage gen = calBody s gen ++ bytesOf 4 (crc32 (calBody s gen)) := by
  have hhead : fit 64 (calHead s gen) = calHead s gen ++ List.replicate 24 0 := by
    rw [fit_of_le (by rw [length_calHead]; decide), length_calHead]
  have hsections : (calSections s 6).length = 5680 := by
    have hfive : 64 + (calSections s 5).length = 3688 := length_calSections s (by decide)
    have hlast : (s.calSection 5).length = 2056 := length_calSection s
    simp only [calSections_succ s 5, List.length_append]
    omega
  have hbody : fit 8188 (fit 64 (calHead s gen) ++ calSections s 6) = calBody s gen := by
    have hlength : (fit 64 (calHead s gen) ++ calSections s 6).length = 5744 := by
      rw [List.length_append, length_fit, hsections]
    rw [fit_of_le (by rw [hlength]; decide), hlength, hhead, calBody, List.append_assoc _ (calSections s 6)]
  rw [← hbody]
  unfold State.calImage calHead calSections
  simp only [List.append_assoc]

theorem length_calImage : (s.calImage gen).length = 8192 := by
  rw [calImage_eq, List.length_append, length_calBody, length_bytesOf]

/-- A number in the head of the image. -/
theorem leAt_calImage_head {o n : Nat} (h : o + n ≤ 40) : leAt (s.calImage gen) o n = leAt (calHead s gen) o n := by
  rw [calImage_eq, calBody, List.append_assoc, List.append_assoc]
  exact Laws.leAt_append _ _ (by rw [length_calHead]; exact h)

/-- A number in or behind the header of a section. -/
theorem leAt_calImage_section {n : Nat} (hn : n < 6) : ∃ rest, ∀ o k,
    leAt (s.calImage gen) (calOff n + o) k = leAt (s.calSection n ++ rest) o k := by
  obtain ⟨rest, hrest⟩ := calSections_six s hn
  have hlen : ((calHead s gen ++ List.replicate 24 0) ++ calSections s n).length = calOff n := by
    rw [← length_calSections s hn, List.length_append, List.length_append, length_calHead, List.length_replicate]
  have himage (zeros crc : List Byte) : (calHead s gen ++ List.replicate 24 0) ++ (calSections s 6 ++ zeros) ++ crc =
      ((calHead s gen ++ List.replicate 24 0) ++ calSections s n) ++ (s.calSection n ++ (rest ++ (zeros ++ crc))) := by
    rw [hrest]
    simp only [List.append_assoc]
  refine ⟨rest ++ (List.replicate 2444 0 ++ bytesOf 4 (crc32 (calBody s gen))), fun o k => ?_⟩
  rw [calImage_eq, calBody, himage]
  exact leAt_skip hlen o k

theorem calImage_secHeadOk {n : Nat} (hn : n < 6) : secHeadOk (s.calImage gen) n = true := by
  obtain ⟨rest, hat⟩ := leAt_calImage_section s gen hn
  obtain ⟨hnum, hver, hzero, hlen⟩ := calSection_head s hn rest
  unfold secHeadOk
  dsimp only
  rw [← Nat.add_zero (calOff n), hat, hnum]
  simp [hat, hver, hzero, hlen]

/-- The image of the corrections in force is valid for the part that holds them (R525, R528). -/
theorem calBad_calImage : s.calBad (s.calImage gen) = 0 := by
  have hhead {o n : Nat} (h : o + n ≤ 40) := leAt_calImage_head s gen h
  have hmagic : leAt (s.calImage gen) 0 4 = 0x43414C49 :=
    (hhead (by decide)).trans ((leAt_head (bytesOf 4 0x43414C49) _).trans (by decide))
  have hafter (o n : Nat) (h : 4 + o + n ≤ 40) := (hhead h).trans (leAt_skip (length_bytesOf 4 0x43414C49) o n)
  have hformat : leAt (s.calImage gen) 4 1 = 1 := hafter 0 1 (by decide)
  have hcount : leAt (s.calImage gen) 5 1 = 6 := hafter 1 1 (by decide)
  have hsize : leAt (s.calImage gen) 6 2 = 8192 :=
    (hafter 2 2 (by decide)).trans (((leAt_skip rfl 0 2).trans (leAt_head (bytesOf 2 8192) _)).trans (by decide))
  have hdevice (o n : Nat) (h : 4 + (2 + (2 + (4 + o))) + n ≤ 40) := (hafter (2 + (2 + (4 + o))) n h).trans
    ((leAt_skip rfl _ _).trans ((leAt_skip (length_bytesOf 2 8192) _ _).trans (leAt_skip (length_bytesOf 4 gen) _ _)))
  have hdev : leAt (s.calImage gen) 12 8 = s.sec.otp.devId := by
    refine (hdevice 0 8 (by decide)).trans ((leAt_head (bytesOf 8 s.sec.otp.devId) _).trans ?_)
    rw [natOf_bytesOf]
    refine Nat.mod_eq_of_lt ?_
    simpa [Otp.devId, Otp.list] using natOf_lt (s.sec.otp.list 32 8)
  have hstep : leAt (s.calImage gen) 20 1 = Config.step :=
    (hdevice (8 + 0) 1 (by decide)).trans ((leAt_skip (length_bytesOf 8 s.sec.otp.devId) _ _).trans
      ((leAt_head (bytesOf 1 Config.step) _).trans (by decide)))
  have hsections : (List.range 6).all (secHeadOk (s.calImage gen)) = true :=
    List.all_eq_true.mpr fun n hn => calImage_secHeadOk s gen (List.mem_range.mp hn)
  have hcrc : crc32 ((s.calImage gen).take 8188) = leAt (s.calImage gen) 8188 4 := by
    rw [calImage_eq, ← length_calBody s gen, List.take_left]
    refine ((leAt_append_right (calBody s gen) _ 0 4).trans ?_).symm
    have hall := leAt_head (bytesOf 4 (crc32 (calBody s gen))) []
    rw [List.append_nil, length_bytesOf, natOf_bytesOf] at hall
    rw [hall]
    exact Nat.mod_eq_of_lt (crc32_lt _)
  unfold State.calBad
  rw [hmagic, hformat, hcount, hsize, hsections, hcrc, hdev, hstep]
  simp

end

/-! ## A save -/

/-- A save by a master that reaches the command, with no other command in progress (R527). -/
theorem calImgSave_state {s : State} {m : Master} (hr : s.reaches m CAL_IMG_CMD = true) (hbusy : s.flag CAL_IMG_STAT_BUSY = false) :
    exec (.calImgSave m) s = .next (calSave (traceRegWrite m CAL_IMG_CMD 1 s)) := by
  have h : exec (.calImgSave m) s = execCalImgSave m s := rfl
  have hflag : (traceRegWrite m CAL_IMG_CMD 1 s).flag CAL_IMG_STAT_BUSY = false :=
    (congrArg (· != 0) ((traceRegWrite_within m CAL_IMG_CMD 1 s).getF_below_obs (f := CAL_IMG_STAT_BUSY) (by decide))).trans hbusy
  rw [h, execCalImgSave, gated_reaches _ _ _ _ _ hr]
  unfold calImgWrite
  rw [if_neg (by decide), hflag, if_neg (by decide), if_pos (by decide)]

/-- A save leaves its image in copy 0. -/
theorem calSave_winBytes (s : State) :
    (calSave s).winBytes 0x80000 8192 = s.calImage ((s.getF CAL_IMG_GEN_GEN + 1) % 2 ^ 32) := by
  unfold calSave
  dsimp only
  have hwindow := winBytes_winPut (calCopy 0) (s.calImage ((s.getF CAL_IMG_GEN_GEN + 1) % 2 ^ 32)) s
  rw [length_calImage] at hwindow
  refine Eq.trans (winBytes_of_win ?_ _ _) hwindow
  rw [setF_win, setF_win]

/-- The checks of a copy read nothing but the part's identity beside it (R528). -/
theorem calBad_of_sec {s t : State} (h : t.sec = s.sec) (l : List Byte) : t.calBad l = s.calBad l := by
  unfold State.calBad
  rw [h]

/-- Settles O39: the image in the window is the one of the corrections in force, which is valid for its part. -/
theorem imageRoundTrip : Obligations.ImageRoundTrip := by
  unfold Obligations.ImageRoundTrip
  intro s m hr hbusy
  refine ⟨_, calImgSave_state hr ((Bool.not_eq_true' _).mp hbusy), ?_⟩
  generalize traceRegWrite m CAL_IMG_CMD 1 s = u
  have hwindow := calSave_winBytes u
  show (calSave u).calBad ((calSave u).winBytes 0x80000 8192) = 0
  rw [hwindow, calBad_of_sec (s := u) (by simp [calSave, winPut])]
  exact calBad_calImage u _

end Sys2Proof.Machine
end

section
/-! SUPPORT. A restore from an image that holds a service-link entry (R515, R525, R528), which shows it in the register of its
channel. -/

namespace Sys2Proof.Machine

/-- The bytes that are not zero, before the CRC, of an image with section 0 and, in section 5, the entry of channel 0 at 863,000 kHz,
by their offset (R525). -/
def entryImage : List (Nat × Byte) :=
  [(0, 73), (1, 76), (2, 65), (3, 67), (4, 1), (5, 6), (7, 32), (20, 1), (65, 1), (66, 1), (69, 2), (584, 1), (585, 1),
    (589, 2), (1104, 2), (1105, 1), (1109, 4), (2136, 3), (2137, 1), (2141, 4), (3168, 4), (3169, 1), (3173, 2),
    (3688, 5), (3689, 1), (3690, 1), (3693, 8), (3696, 24), (3697, 43), (3698, 13)]

/-- That image in copy 0. -/
def entryWindow : List (Nat × Byte) := entryImage.map fun p => (0x80000 + p.1, p.2)

/-- The CRC of that image. -/
def entryCrc : Nat := crc32 ((List.range 8188).map fun i => sget winDefault entryWindow (0x80000 + i))

/-- The bytes of the CRC at their places. -/
def entryCrcBytes : List (Nat × Byte) := (List.range 4).map fun i => (532476 + i, BitVec.ofNat 8 (entryCrc >>> (8 * i)))

/-- A part in RUN with the whole image in copy 0 and channel 0 set to 863,000 kHz, whose entry is empty. -/
def entryPart : State :=
  { regs := [(SYS_BOOT, 0x80000000), (FEAT_ACTIVE 0, 1), (SLK_CH 0, 863000)], pwr := { inReset := false }
    boot := { bs := some { slch := 128 } }, win := entryWindow ++ entryCrcBytes }

/-- A key that the second of two lists does not hold is looked up in the first. -/
theorem sget_append_left {α : Type} (d : Nat → α) (l r : List (Nat × α)) (k : Nat) (h : ∀ p ∈ r, p.1 ≠ k) :
    sget d (l ++ r) k = sget d l k := by
  induction l with
  | nil =>
    induction r with
    | nil => rfl
    | cons p r ih =>
      obtain ⟨j, v⟩ := p
      exact (if_neg (h (j, v) List.mem_cons_self)).trans (ih fun q hq => h q (List.mem_cons_of_mem _ hq))
  | cons p l ih =>
    obtain ⟨j, v⟩ := p
    rw [List.cons_append, sget, sget, ih]

/-- A key that the first of two lists does not hold is looked up in the second. -/
theorem sget_append_right {α : Type} (d : Nat → α) (l r : List (Nat × α)) (k : Nat) (h : ∀ p ∈ l, p.1 ≠ k) :
    sget d (l ++ r) k = sget d r k := by
  induction l with
  | nil => rfl
  | cons p l ih =>
    obtain ⟨j, v⟩ := p
    exact (if_neg (h (j, v) List.mem_cons_self)).trans (ih fun q hq => h q (List.mem_cons_of_mem _ hq))

theorem entryWindow_below : ∀ p ∈ entryWindow, p.1 < 532476 := by decide +kernel

/-- The values listed at the keys from a on. -/
theorem sget_listed {α : Type} (d : Nat → α) (f : Nat → α) (a n i : Nat) (h : i < n) :
    sget d ((List.range n).map fun i => (a + i, f i)) (a + i) = f i := by
  induction n generalizing a f i with
  | zero => exact absurd h (Nat.not_lt_zero i)
  | succ n ih =>
    rw [List.range_succ_eq_map, List.map_cons, List.map_map]
    cases i with
    | zero => exact if_pos rfl
    | succ i =>
      refine (if_neg (by omega)).trans ?_
      have hshift := ih (fun i => f (i + 1)) (a + 1) i (by omega)
      simpa only [Function.comp_def, Nat.succ_eq_add_one, Nat.add_assoc, Nat.add_comm 1] using hshift

theorem entryPart_winGet (i : Nat) (h : i < 4) : entryPart.winGet (532476 + i) = BitVec.ofNat 8 (entryCrc >>> (8 * i)) := by
  refine (sget_append_right winDefault entryWindow entryCrcBytes _ fun p hp => ?_).trans (sget_listed _ _ _ _ _ h)
  have := entryWindow_below p hp
  omega

theorem entryPart_body : (entryPart.winBytes 0x80000 8192).take 8188 =
    (List.range 8188).map fun i => sget winDefault entryWindow (0x80000 + i) := by
  rw [State.winBytes, ← List.map_take, List.take_range]
  refine List.map_congr_left fun i hi => sget_append_left _ _ _ _ fun p hp => ?_
  obtain ⟨j, -, rfl⟩ := List.mem_map.mp hp
  have hi : i < min 8188 8192 := List.mem_range.mp hi
  show 532476 + j ≠ 0x80000 + i
  omega

theorem entryPart_tail : (entryPart.winBytes 0x80000 8192).drop 8188 = bytesOf 4 entryCrc := by
  have hrange : (List.range 8192).drop 8188 = (List.range 4).map (8188 + ·) := by decide +kernel
  rw [State.winBytes, ← List.map_drop, hrange, List.map_map, bytesOf]
  refine List.map_congr_left fun i hi => ?_
  rw [← entryPart_winGet i (List.mem_range.mp hi)]
  exact congrArg entryPart.winGet (show 0x80000 + (8188 + i) = 532476 + i by omega)

theorem entryPart_crc : leAt (entryPart.winBytes 0x80000 8192) 8188 4 = entryCrc := by
  unfold leAt
  rw [entryPart_tail]
  refine (congrArg natOf (List.take_of_length_le (length_bytesOf 4 entryCrc).le)).trans ((natOf_bytesOf 4 entryCrc).trans ?_)
  exact Nat.mod_eq_of_lt (crc32_lt _)

/-- A list with the right head, sections, CRC, device and step is a good image (R528). -/
theorem calBad_eq_zero {s : State} {l : List Byte}
    (hhead : (leAt l 0 4 != 0x43414C49 || leAt l 4 1 != 1 || leAt l 5 1 != 6 || leAt l 6 2 != 8192
      || !((List.range 6).all (secHeadOk l))) = false)
    (hcrc : crc32 (l.take 8188) = leAt l 8188 4) (hdev : leAt l 12 8 = s.sec.otp.devId) (hstep : leAt l 20 1 = Config.step) :
    s.calBad l = 0 := by
  unfold State.calBad
  rw [hhead, hcrc, hdev, hstep]
  simp

theorem entryPart_good : entryPart.calBad (entryPart.winBytes 0x80000 8192) = 0 := by
  have hcrc : crc32 ((entryPart.winBytes 0x80000 8192).take 8188) = leAt (entryPart.winBytes 0x80000 8192) 8188 4 := by
    rw [entryPart_crc, entryPart_body, entryCrc]
  exact calBad_eq_zero (by decide +kernel) hcrc (by decide +kernel) (by decide +kernel)

/-- The restore of that part's image, with the copies found good and absent. -/
theorem entryPart_restored : exec (.calImgRestore .pcie [true, true, true, true, true, true]) entryPart = .next
    (calRestore [true, true, true, true, true, true] entryPart) := by
  have h : exec (.calImgRestore .pcie [true, true, true, true, true, true]) entryPart =
      .next (gated .pcie CAL_IMG_CMD 2 (calImgWrite 2 [true, true, true, true, true, true]) entryPart) := rfl
  rw [h, gated_reaches _ _ _ _ _ (by decide +kernel)]
  unfold calImgWrite
  rw [if_neg (by decide), if_neg (by decide +kernel), if_neg (by decide), if_pos (by decide)]
  rfl

/-- Filling further entries leaves the CAL bit of one that is filled. -/
theorem forEach_keeps_cal {f : Nat → State → State} (hf : ∀ c x, f c x = x ∨ ∃ e, f c x = (x.setSlEntry c e).setF (SLK_CH_CAL c) 1)
    (l : List Nat) (s : State) (h : s.flag (SLK_CH_CAL 0) = true) : (forEach l f s).flag (SLK_CH_CAL 0) = true := by
  refine forEach_rel (R := fun s u => s.flag (SLK_CH_CAL 0) = true → u.flag (SLK_CH_CAL 0) = true) (fun _ => id)
    (fun h hv => hv ∘ h) (fun c _ x hx => ?_) s h
  obtain hsame | ⟨e, hfilled⟩ := hf c x
  · rw [hsame, hx]
  · rw [hfilled]
    by_cases hc : c = 0
    · subst hc
      exact flag_of_getF (b := true) (getF_setF_fits _ _ _ ⟨Nat.le_refl 31, by decide⟩ (by decide))
    · refine (congrArg (· != 0) (getF_setF_reg _ _ _ _ fun hreg => hc ?_)).trans hx
      have : 0x4c100 + 4 * 0 = 0x4c100 + 4 * c := hreg
      omega

theorem cal5Refresh_cal (s : State) : (cal5Refresh s).getF (SLK_CH_CAL 0) = s.getF (SLK_CH_CAL 0) := by
  have hdue : (SLK_CH_CAL 0).reg ≠ (CALn_STAT_DUE 5).reg := by decide
  have hcurrent : (SLK_CH_CAL 0).reg ≠ (CALn_STAT_CURRENT 5).reg := by decide
  exact (getF_setF_reg _ _ _ _ hcurrent).trans (getF_setF_reg _ _ _ _ hdue)

/-- What a restore does with channel c of a section 5 that holds (R528). -/
def restoreChannel (l : List Byte) (c : Nat) (s : State) : State :=
  let o := calOff 5 + 8 + 16 * c
  let k := leAt l o 4
  let tuning := s.slk.cal = some c || (s.slState = 1 && s.slk.cal.isNone && s.getF SLK_STAT_CH = c)
  if k != 0 && k = s.getF (SLK_CH_KHZ c) && !s.slGood c && !tuning then
    (s.setSlEntry c ⟨true, false, k, signedOf 16 (leAt l (o + 4) 2), (l.drop (o + 6)).take 10⟩).setF (SLK_CH_CAL c) 1
  else s

theorem calRestoreSl_eq {l : List Byte} {s : State} (ht : s.slTable = true) :
    calRestoreSl l true s = slStale ((forEach (List.range 128) (restoreChannel l) s).setF ⟨CAL_IMG_STAT, 5, 5⟩ 1) := by
  unfold calRestoreSl
  rw [if_neg (by simp [ht]), if_neg (by decide)]
  rfl

theorem forEach_cons (n : Nat) (l : List Nat) (f : Nat → State → State) (s : State) : forEach (n :: l) f s = forEach l f (f n s) := rfl

/-- A restored section 5 shows CAL of channel 0 where the section holds its entry and the part has none (R528). -/
theorem calRestoreSl_shows {l : List Byte} {s : State} (ht : s.slTable = true)
    (hfill : (restoreChannel l 0 s).flag (SLK_CH_CAL 0) = true) : (calRestoreSl l true s).flag (SLK_CH_CAL 0) = true := by
  have hother : (SLK_CH_CAL 0).reg ≠ (⟨CAL_IMG_STAT, 5, 5⟩ : Fld).reg := by decide
  have hchannels : (forEach (List.range 128) (restoreChannel l) s).flag (SLK_CH_CAL 0) = true := by
    rw [show List.range 128 = 0 :: (List.range 127).map Nat.succ from List.range_succ_eq_map, forEach_cons]
    refine forEach_keeps_cal (fun c x => ?_) _ _ hfill
    unfold restoreChannel
    dsimp only
    split
    · exact .inr ⟨_, rfl⟩
    · exact .inl rfl
  have hstale (x : State) : (slStale x).getF (SLK_CH_CAL 0) = x.getF (SLK_CH_CAL 0) := cal5Refresh_cal _
  rw [calRestoreSl_eq ht, State.flag, hstale, getF_setF_reg _ _ _ _ hother]
  exact hchannels

/-- What a restore does with section n of an image (R528). -/
def restoreSection (ok : List Bool) (l : List Byte) (n : Nat) (s : State) : State :=
  if leAt l (calOff n + 2) 1 = 1 then
    (if n = 5 then calRestoreSl l (ok.getD 5 false) s else calRestoreOne l n (ok.getD n false) s)
  else s

theorem restoreSection_empty {l : List Byte} {n : Nat} (h : leAt l (calOff n + 2) 1 ≠ 1) (ok : List Bool) (s : State) :
    restoreSection ok l n s = s := if_neg h

theorem restoreSection_zero {l : List Byte} (h : leAt l (calOff 0 + 2) 1 = 1) (ok : List Bool) (s : State) :
    restoreSection ok l 0 s = calRestoreOne l 0 (ok.getD 0 false) s := if_pos h

theorem restoreSection_five {l : List Byte} (h : leAt l (calOff 5 + 2) 1 = 1) (ok : List Bool) (s : State) :
    restoreSection ok l 5 s = calRestoreSl l (ok.getD 5 false) s := if_pos h

theorem calRestore_eq {s : State} (ok : List Bool) (h0 : s.calBad (s.winBytes (calCopy 0) 8192) = 0)
    (h1 : s.calBad (s.winBytes (calCopy 1) 8192) = 1) :
    calRestore ok s = forEach (List.range 6) (restoreSection ok (s.winBytes (calCopy 0) 8192))
      (((((((s.setF CAL_IMG_STAT_BAD0 0).setF CAL_IMG_STAT_BAD1 1).setF CAL_IMG_STAT_APPLIED 0).setF CAL_IMG_STAT_SKIPPED 0).setF
        CAL_IMG_STAT_RESULT 1).setB CAL_IMG_STAT_USED false).setF CAL_IMG_GEN_GEN (leAt (s.winBytes (calCopy 0) 8192) 8 4)) := by
  unfold calRestore
  simp only [h0, h1]
  rfl

/-- Of an image with sections 0 and 5 only those two are restored. -/
theorem restoreSections {l : List Byte} (h : ∀ n ∈ [1, 2, 3, 4], leAt l (calOff n + 2) 1 ≠ 1) (ok : List Bool) (s : State) :
    forEach (List.range 6) (restoreSection ok l) s = restoreSection ok l 5 (restoreSection ok l 0 s) := by
  show restoreSection ok l 5 (restoreSection ok l 4 (restoreSection ok l 3 (restoreSection ok l 2
    (restoreSection ok l 1 (restoreSection ok l 0 s))))) = _
  rw [restoreSection_empty (h 4 (by simp)), restoreSection_empty (h 3 (by simp)), restoreSection_empty (h 2 (by simp)),
    restoreSection_empty (h 1 (by simp))]

/-- The image in copy 0 of that part. -/
def entryBytes : List Byte := entryPart.winBytes 0x80000 8192

/-- That part with section 0 restored. -/
def entryFirst : State :=
  calRestoreOne entryBytes 0 true
    (((((((entryPart.setF CAL_IMG_STAT_BAD0 0).setF CAL_IMG_STAT_BAD1 1).setF CAL_IMG_STAT_APPLIED 0).setF
      CAL_IMG_STAT_SKIPPED 0).setF CAL_IMG_STAT_RESULT 1).setB CAL_IMG_STAT_USED false).setF CAL_IMG_GEN_GEN (leAt entryBytes 8 4))

theorem calRestore_entryPart : calRestore [true, true, true, true, true, true] entryPart = calRestoreSl entryBytes true entryFirst := by
  have hempty : ∀ n ∈ [1, 2, 3, 4], leAt entryBytes (calOff n + 2) 1 ≠ 1 := by decide +kernel
  have hfirst : leAt entryBytes (calOff 0 + 2) 1 = 1 := by decide +kernel
  have hlast : leAt entryBytes (calOff 5 + 2) 1 = 1 := by decide +kernel
  have hcopy : entryPart.winBytes (calCopy 0) 8192 = entryBytes := rfl
  have hother : entryPart.calBad (entryPart.winBytes (calCopy 1) 8192) = 1 := by decide +kernel
  have hgood : entryPart.calBad (entryPart.winBytes (calCopy 0) 8192) = 0 := entryPart_good
  rw [calRestore_eq _ hgood hother, hcopy, restoreSections hempty, restoreSection_five hlast, restoreSection_zero hfirst,
    entryFirst]
  rfl

/-- Refutes O38: a restore that fills the entry of a service-link channel shows it in SLK_CHc (R515, R528), which lies outside
the blocks that the statement on the restore of a section lets change. -/
theorem not_calibration : ¬ Obligations.Calibration := by
  unfold Obligations.Calibration
  rintro ⟨-, -, -, -, -, -, -, -, -, -, -, -, -, hrestore⟩
  obtain ⟨t, hexec, -, hwithin⟩ := hrestore entryPart .pcie [true, true, true, true, true, true] 0 (by decide +kernel)
    (by decide +kernel) (beq_iff_eq.mpr entryPart_good) (by decide +kernel) (by decide) (by decide +kernel) rfl (by decide +kernel)
  obtain rfl := Host.Outcome.next.inj (entryPart_restored.symm.trans hexec)
  have hfilled : (calRestoreSl entryBytes true entryFirst).flag (SLK_CH_CAL 0) = true :=
    calRestoreSl_shows (by decide +kernel) (by decide +kernel)
  rw [calRestore_entryPart] at hwithin
  have hsame : (calRestoreSl entryBytes true entryFirst).flag (SLK_CH_CAL 0) = entryPart.flag (SLK_CH_CAL 0) :=
    congrArg (· != 0) (getF_of_rd (hwithin (SLK_CH 0) (by decide)))
  exact absurd (hfilled.symm.trans hsame) (by decide +kernel)

end Sys2Proof.Machine
end

section
/-! SUPPORT. Statements that a state refutes: for each a part in that state, what the model makes of it, and the refutation. -/

namespace Sys2Proof.Machine

/-! ## Izham cores -/

/-- Core 1 of a part in RUN, with a segment on a line of the host region. -/
def hostLine : State :=
  { regs := [(SYS_BOOT, 0x80000000), (MRW_STAT, 0x80000000)], pwr := { inReset := false }
    cores := [(1, { sd := [(0, { base := 503316480, limit := 16 })] })] }

theorem hostLine_raises : (izIssue ⟨1, [], [4]⟩ (.fm .ld 1 0 0 0) hostLine).rd (EVT_Gg_STAT 7) = 4 := by decide +kernel

/-- Refutes O17: a load that meets an uncorrectable line raises the event of R294, whose registers lie outside Marrow's.
Core 1 loads from a line of the host region that is answered VOID. -/
theorem not_izhamFrame : ¬ Obligations.IzhamFrame := by
  unfold Obligations.IzhamFrame
  intro hframe
  let h : IzHead := ⟨1, [], [4]⟩
  let o : IzOp := .fm .ld 1 0 0 0
  obtain ⟨t, hexec, -, -, -, -, hwithin⟩ := hframe (.izLd h 1 0 0 0) h o hostLine rfl (by decide +kernel) (by decide +kernel) rfl
    (by decide +kernel) (by decide +kernel)
  obtain rfl : izIssue h o hostLine = t := Host.Outcome.next.inj hexec
  have hquiet : hostLine.rd (EVT_Gg_STAT 7) = 0 := by decide +kernel
  exact absurd (hostLine_raises.symm.trans ((hwithin (EVT_Gg_STAT 7) (by decide)).trans hquiet)) (by decide)

/-- Core 1 in a REP sequence with one iteration left, as an RTI leaves it (R432). -/
def repLeft : State :=
  { regs := [(SYS_BOOT, 0x80000000), (SEQk_STAT 1, 0x20000000)], pwr := { inReset := false }
    cores := [(1, { rep := some 2, pc := 0x40 })] }

theorem repLeft_stays : ((izIssue ⟨1, [], []⟩ (.loop 3 8) repLeft).core 1).pc = 0x40 := by decide +kernel

/-- Refutes O12: a core that an RTI has put into a REP sequence at a LOOP (R432) sets the loop up and stays at it for the
iteration that is left, where the statement has it go on to the body. -/
theorem not_loopSetUp : ¬ Obligations.LoopSetUp := by
  unfold Obligations.LoopSetUp
  rintro ⟨hset, -⟩
  let h : IzHead := ⟨1, [], []⟩
  obtain ⟨t, hexec, -, -, -, -, hnext⟩ :=
    hset repLeft h 3 8 (by decide +kernel) (by decide +kernel) rfl (by decide +kernel) (by decide +kernel)
  obtain rfl : izIssue h (.loop 3 8) repLeft = t := Host.Outcome.next.inj hexec
  exact absurd (repLeft_stays.symm.trans (hnext rfl)) (by decide +kernel)

/-- Core 1 with class 3 at its requester, beside a stack whose window is full (R296, R297). -/
def fullWindow (c : Core) : State :=
  { regs := [(SYS_BOOT, 0x80000000), (MRW_STAT, 0x80000000), (MRW_RQr_CFG 257, 3), (SEQk_STAT 1, 0x20000000)]
    pwr := { inReset := false }
    mrw := { act := [(0, 128), (128, 128), (256, 192), (448, 32), (480, 32)], windows := [(0, { used := windowBytes })] }
    mem := [(32212254720, 5)], cores := [(1, c)] }

/-- A core with a segment on the word that holds 5. -/
def onFive : Core := { sd := [(0, { base := 503316480, limit := 16 })] }

/-- A core with a line still to be written. -/
def lineHeld : Core := { wc := [⟨32212254720, [(3, 7)], 0⟩] }

theorem fullWindow_delivers : ((izIssue ⟨1, [], []⟩ (.fm .ld 1 0 0 0) (fullWindow onFive)).settled 1).reg 1 = 0 := by decide +kernel

/-- Refutes O10: a load from Marrow by a core whose requester is set to class 3 is refused with REFUSED_CLASS where the window
of its stack is full (R297), and delivers zeros, not the word that Marrow holds. -/
theorem not_izhamLoadsAndStores : ¬ Obligations.IzhamLoadsAndStores := by
  unfold Obligations.IzhamLoadsAndStores
  rintro ⟨-, hload, -⟩
  let h : IzHead := ⟨1, [], []⟩
  obtain ⟨t, hexec, hword, -⟩ :=
    hload (fullWindow onFive) h 1 0 0 0 (by decide +kernel) (by decide +kernel) (by decide +kernel) (by decide +kernel)
      (by decide +kernel) rfl (by decide +kernel)
  obtain rfl : izIssue h (.fm .ld 1 0 0 0) (fullWindow onFive) = t := Host.Outcome.next.inj hexec
  exact absurd (fullWindow_delivers.symm.trans hword) (by decide +kernel)

theorem fullWindow_loses {t : State} (ht : execWcLineFlush 1 32212254720 0 0 (fullWindow lineHeld) = .next t) :
    memGet t.mem (32212254720 + 3) = 0 := by
  obtain rfl := Host.Outcome.next.inj ht
  decide +kernel

/-- Refutes O21: the line of a core whose requester is set to class 3 is refused with REFUSED_CLASS where the window of its
stack is full (R297), and does not come to lie in Marrow. -/
theorem not_coreControl : ¬ Obligations.CoreControl := by
  unfold Obligations.CoreControl
  rintro ⟨-, -, -, -, -, -, -, -, -, -, hflush, -⟩
  obtain ⟨t, hexec, -, hstored, -⟩ :=
    hflush (fullWindow lineHeld) 1 32212254720 0 ⟨32212254720, [(3, 7)], 0⟩ (by decide) (by decide +kernel) (by decide +kernel)
      (by decide +kernel) (by decide)
  simp [fullWindow_loses hexec] at hstored

/-- A core that has two results for g1 in flight, the later one readable first. -/
def outOfOrder : Core := { pend := [⟨.g 1, 0, 5, false⟩, ⟨.g 1, 0, 2, false⟩] }

/-- The reference returns after a holdover while the table of cores lists core 0 twice: the entry in front, which is the one
that is read, has nothing in flight. -/
def listedTwice : State :=
  { pending := [.refQualify 0], pwr := { inReset := false }, regs := [(CLK_CTL, 0), (CLK_STAT, 0x05000000)]
    clk := { refMs := 2 ^ 32, refDet := 1 }
    cores := [(0, {}), (0, outOfOrder)] }

theorem listedTwice_ordered (k : Nat) : (listedTwice.core k).ordered = true := by
  by_cases hk : 0 = k
  · subst hk
    decide
  · simp [listedTwice, State.core, sget, hk, coreNone, Core.ordered]

theorem listedTwice_unordered {t : State} (ht : step listedTwice = .next t) : (t.core 0).ordered = false := by
  obtain rfl := Host.Outcome.next.inj ht
  decide +kernel

/-- Refutes O18: where the table of cores lists a core twice, the STEP of SYSCNT of a returning reference (R107) writes every
entry again, the last one over the first, and its results in flight were in no order. -/
theorem not_pendingResultsStayInOrder : ¬ Obligations.PendingResultsStayInOrder := by
  unfold Obligations.PendingResultsStayInOrder
  intro h
  obtain ⟨t, ht⟩ : ∃ t, step listedTwice = .next t := ⟨_, rfl⟩
  exact Bool.false_ne_true ((listedTwice_unordered ht).symm.trans (h listedTwice t listedTwice_ordered ht 0))

/-! ## The service link and the serial audio ports -/

/-- A service link that is OFF with its synthesiser shown in lock on channel 0 (R489). -/
def offInLock : State :=
  { regs := [(SYS_BOOT, 0x80000000), (FEAT_ACTIVE 0, 0x401), (SLK_STAT, 0x08000000), (SLK_CH 0, 863000)]
    pwr := { inReset := false }, boot := { bs := some { slch := 128 } }, slk := { entries := [(0, { filled := true })] } }

theorem offInLock_listens {t : State} (ht : execSlRx .pcie false 0 offInLock = .next t) : t.slState = 3 := by
  obtain rfl := Host.Outcome.next.inj ht
  decide +kernel

/-- Refutes O36: an SL_RX in OFF on a channel that SLK_STAT shows as locked enters LISTEN at once (R492), where the statement has
it go through SETTLE. -/
theorem not_serviceLink : ¬ Obligations.ServiceLink := by
  unfold Obligations.ServiceLink
  rintro ⟨-, hrx, -⟩
  obtain ⟨t, hexec, ⟨hstate, -⟩, -⟩ :=
    hrx offInLock .pcie 0 (by decide +kernel) (by decide) (by decide +kernel) (by decide +kernel) (by decide +kernel) rfl
  exact absurd ((offInLock_listens hexec).symm.trans hstate) (by decide)

/-- Port 0 at 44.1 kHz with a pair whose resampler is far behind (R190). -/
def behindPort : State :=
  { regs := [(SYS_BOOT, 0x80000000), (SAPk_CTL 0, 0x04000000), (SAPk_STAT 0, 0x80000000), (SAPk_MAP 0 0, 0x40000000)]
    pwr := { inReset := false }, rel := [(1024, { at_ := some 0 })], saps := [(0, { pairs := [(0, { rsFrom := 1000 })] })] }

theorem behindPort_raises {t : State} (ht : execSapBlockHandoff 0 0 0 behindPort = .next t) : t.rd (EVT_Gg_STAT 3) = 4 := by
  obtain rfl := Host.Outcome.next.inj ht
  decide +kernel

/-- Refutes O44: a block that was dropped, at a port of 44.1 kHz whose resampler is behind, overfills the queue of its pair, so
SAP_XRUN is raised (R312), which the statement does not let change. -/
theorem not_serialAudioPorts : ¬ Obligations.SerialAudioPorts := by
  unfold Obligations.SerialAudioPorts
  rintro ⟨-, -, -, -, -, -, -, -, -, hdropped, -⟩
  obtain ⟨t, hexec, -, hwithin⟩ :=
    hdropped behindPort 0 0 0 (by decide) (by decide) rfl (by decide +kernel) (by decide +kernel) (by decide +kernel)
      (by decide +kernel) (by decide +kernel)
  exact absurd ((behindPort_raises hexec).symm.trans (hwithin (EVT_Gg_STAT 3) (by decide))) (by decide +kernel)

/-! ## Ethernet, register reads and Marrow's audio channels -/

/-- A block of no samples. -/
def emptyBlock : Block := ⟨0, 0, []⟩

/-- Port 0 with side data of class 3 that still waits beside a packet of class 1 (R350). -/
def sharedPort : State :=
  { regs := [(NET_PORTm_STAT 0, 0x80000000), (NET_IQi_CTL 0, 0x80000000)]
    net := {
      iq := [(0, { buf := [emptyBlock, emptyBlock, emptyBlock, emptyBlock] })]
      egr := [(0, { queue := [{ cls := 1, bytes := 100, at_ := 10, type := 1 }, { cls := 3, bytes := 106, at_ := 10, type := 7 }]
                    free := 10 })] } }

theorem sharedPort_discards {t : State} (ht : execVitaPacketTx 0 0 sharedPort = .next t) : t.getF EVT_RECLOST_CNT = 1 := by
  obtain rfl := Host.Outcome.next.inj ht
  decide +kernel

/-- Refutes O45: a VITA 49.2 packet that joins a port at which event records of class 3 still wait beside a packet of class 1
discards them and counts them in EVT_RECLOST (R350, R374), a register outside the block that the statement lets change. -/
theorem not_ethernet : ¬ Obligations.Ethernet := by
  unfold Obligations.Ethernet
  rintro ⟨-, -, -, -, -, -, -, -, -, -, -, -, hvita, -⟩
  obtain ⟨t, hexec, -, hwithin⟩ :=
    hvita sharedPort 0 0 emptyBlock (by decide) (by decide +kernel) (by decide +kernel) (by decide +kernel)
  have hsame : t.getF EVT_RECLOST_CNT = sharedPort.getF EVT_RECLOST_CNT := getF_of_rd (hwithin EVT_RECLOST (by decide))
  exact absurd ((sharedPort_discards hexec).symm.trans hsame) (by decide +kernel)

/-- A part strapped to KT-440 that has refused five writes. -/
def strappedKt : State := { regs := [(SYS_REFUSE, 5)], pwr := { inReset := false }, boot := { straps := ⟨true, 0, 0⟩ } }

/-- Refutes O46: under the KT-440 strap the host bus reads no native register (R34), so its read leaves the count of SYS_REFUSE,
which the statement has it clear. -/
theorem not_hostAccess : ¬ Obligations.HostAccess := by
  unfold Obligations.HostAccess
  rintro ⟨-, -, -, -, -, -, -, -, -, -, -, -, hread, -⟩
  obtain ⟨t, hexec, ⟨hclear, -⟩, -⟩ := hread strappedKt .hostBus (by decide)
  obtain rfl : readEffect .hostBus SYS_REFUSE strappedKt = t := Host.Outcome.next.inj hexec
  exact absurd hclear (by decide +kernel)

/-- Path 9 belongs to running programme 1 by a linkage set alone, that of a slot number 1216; the place of its state is
register 4 of the audio channels, which a source that has ceased still holds. -/
def linkedByChannel : State :=
  { Tests.fs Tests.run [(SEQk_STAT_STATE 1, 1), (FOLp_STAT_STATE 1, 3), (FOLp_ID_SID 1, 0xC3A1), (FOLp_ID_PI 1, 0xC202),
      (PTHn_STAT_STATE 9, 2), (PTHn_CTL_TYPE 9, 1), (DEMn_PI_PI 9, 0xC201), (DEMn_STAT_PI_CONF 9, 1), (MRW_ACH_VALID 4, 1)] with
    mrw := { Tests.run.mrw with chans := 8 }
    slots := [(1216, { lockedDefer := true })]
    fol := { info := [(1216, { links := [{ hard := true, sids := [0xC3A1], pis := [0xC201] }] })] } }

theorem linkedByChannel_unheld {t : State} (ht : execAudioChannelAssign 1 9 linkedByChannel = .next t) :
    (t.chanOf 1 9).isSome = false := by
  obtain rfl := Host.Outcome.next.inj ht
  decide +kernel

/-- Refutes O25: a source that qualifies only by the linkage of a slot past the 48 loses it when the review of the channels
frees the register that such a slot's state lies in, and then gets no channel (R244, R255, R288). -/
theorem not_ringsAndSnapshots : ¬ Obligations.RingsAndSnapshots := by
  unfold Obligations.RingsAndSnapshots
  rintro ⟨-, -, -, -, hassign, -⟩
  obtain ⟨t, hexec, hheld, -⟩ :=
    hassign linkedByChannel 1 9 (by decide +kernel) (by decide) (by decide +kernel) (by decide +kernel) (by decide +kernel)
      (by decide +kernel)
  exact absurd ((linkedByChannel_unheld hexec).symm.trans hheld) (by decide)

end Sys2Proof.Machine
end

section
/-! SUPPORT. Packets of the service link: what whitening twice gives back, the checks that a sent packet passes at its receiver,
and what storing it and ending its reception leave (R497, R498, R502, R503). -/

set_option Elab.async false

namespace Sys2Proof.Machine

/-! ## Whitening -/

theorem whiteBits_lt (k r : Nat) : (whiteBits k r).1 < 2 ^ k := by
  induction k generalizing r with
  | zero => exact Nat.one_pos
  | succ k ih =>
    have hrest := ih (whiteStep r)
    show r % 2 + 2 * (whiteBits k (whiteStep r)).1 < 2 ^ (k + 1)
    rw [Nat.pow_succ]
    omega

/-- Whitened twice from the same register, bytes are back. -/
theorem whiten_whiten (l : List Nat) (r : Nat) : whiten (whiten l r) r = l.map (· % 256) := by
  induction l generalizing r with
  | nil => rfl
  | cons b t ih =>
    have hlow : (b % 256 ^^^ (whiteBits 8 r).1) < 2 ^ 8 := Nat.xor_lt_two_pow (Nat.mod_lt _ (by decide)) (whiteBits_lt 8 r)
    show ((b % 256 ^^^ (whiteBits 8 r).1) % 256 ^^^ (whiteBits 8 r).1) :: whiten (whiten t (whiteBits 8 r).2) (whiteBits 8 r).2 = _
    rw [Nat.mod_eq_of_lt (b := 256) hlow, Nat.xor_assoc, Nat.xor_self, Nat.xor_zero, ih, List.map_cons]

theorem whiten_take (n : Nat) (l : List Nat) (r : Nat) : (whiten l r).take n = whiten (l.take n) r := by
  induction l generalizing n r with
  | nil => rw [List.take_nil, whiten, List.take_nil]
  | cons b t ih =>
    cases n with
    | zero => rw [List.take_zero, List.take_zero, whiten]
    | succ n => rw [whiten, List.take_succ_cons, List.take_succ_cons, whiten, ih]

theorem whiten_drop (n : Nat) (l : List Nat) (r : Nat) : (whiten l r).drop n = whiten (l.drop n) (whiteAfter n r) := by
  induction l generalizing n r with
  | nil => rw [List.drop_nil, whiten, List.drop_nil, whiten]
  | cons b t ih =>
    cases n with
    | zero => rw [List.drop_zero, List.drop_zero, whiteAfter]
    | succ n => rw [whiten, List.drop_succ_cons, List.drop_succ_cons, whiteAfter, ih]

/-! ## The checks -/

theorem crcShift_lt (w p k : Nat) (hp : p < 2 ^ w) {c : Nat} (h : c < 2 ^ w) : crcShift w p k c < 2 ^ w := by
  induction k generalizing c with
  | zero => exact h
  | succ k ih =>
    refine ih ?_
    have hcut : 2 * c % 2 ^ w < 2 ^ w := Nat.mod_lt _ (Nat.two_pow_pos w)
    split
    · exact Nat.xor_lt_two_pow hcut hp
    · exact hcut

theorem crcBytes_lt (w p : Nat) (hw : 8 ≤ w) (hp : p < 2 ^ w) (l : List Nat) {c : Nat} (h : c < 2 ^ w) : crcBytes w p l c < 2 ^ w := by
  induction l generalizing c with
  | nil => exact h
  | cons b t ih =>
    refine ih (crcShift_lt w p 8 hp (Nat.xor_lt_two_pow h ?_))
    calc (b % 256) * 2 ^ (w - 8) < 2 ^ 8 * 2 ^ (w - 8) :=
          Nat.mul_lt_mul_of_pos_right (Nat.mod_lt _ (by decide)) (Nat.two_pow_pos _)
      _ = 2 ^ w := by rw [← Nat.pow_add, Nat.add_sub_cancel' hw]

theorem slHcrc_lt (len cfg : Nat) : slHcrc len cfg < 256 := crcBytes_lt 8 0x07 (by decide) (by decide) _ (by decide)

theorem slCrc_lt (l : List Nat) : slCrc l < 65536 := crcBytes_lt 16 0x1021 (by decide) (by decide) _ (by decide)

section
variable {g : Nat} {pay : List Nat} (hlen : pay.length ≤ 255) (hpay : ∀ x ∈ pay, x < 256) (hg : g = 0 ∨ g = 0x80)
include hlen hg

/-- The header of a packet as sent reads at a receiver as it was made (R497). -/
theorem whiten_slPacket_head : whiten ((slPacket g pay).take 3) 0x1FF = [pay.length, g, slHcrc pay.length g] := by
  have hhcrc := slHcrc_lt pay.length g
  have hbyte : g < 256 := by omega
  unfold slPacket
  dsimp only
  rw [whiten_take, whiten_whiten]
  show [pay.length % 256, g % 256, slHcrc pay.length g % 256] = _
  rw [Nat.mod_eq_of_lt hbyte, Nat.mod_eq_of_lt hhcrc, Nat.mod_eq_of_lt (by omega)]

omit hlen hg
include hpay

/-- The payload and the CRC of a packet as sent read at a receiver as they were made (R497, R498). -/
theorem whiten_slPacket_body : whiten ((slPacket g pay).drop 3) (whiteAfter 3 0x1FF) =
    pay ++ [slCrc ([pay.length, g, slHcrc pay.length g] ++ pay) / 256, slCrc ([pay.length, g, slHcrc pay.length g] ++ pay) % 256] := by
  have hcrc := slCrc_lt ([pay.length, g, slHcrc pay.length g] ++ pay)
  unfold slPacket
  dsimp only
  rw [whiten_drop, whiten_whiten]
  generalize slCrc ([pay.length, g, slHcrc pay.length g] ++ pay) = c at hcrc ⊢
  show (pay ++ [c / 256, c % 256]).map (· % 256) = _
  have hsame : pay.map (· % 256) = pay := by
    conv_rhs => rw [← List.map_id pay]
    exact List.map_congr_left fun x hx => Nat.mod_eq_of_lt (hpay x hx)
  have hhigh : c / 256 < 256 := by omega
  rw [List.map_append, hsame, List.map_cons, List.map_cons, List.map_nil, Nat.mod_mod, Nat.mod_eq_of_lt hhigh]

end

/-- The first entries of a list, read one by one. -/
theorem map_getD_append (a b : List Nat) : ((List.range a.length).map fun k => (a ++ b).getD k 0) = a := by
  refine List.ext_getElem (by simp) fun k hk hk' => ?_
  simp [List.getD_eq_getElem?_getD, List.getElem?_append_left hk', List.getElem?_eq_getElem hk']

/-! ## The end of a reception -/

section
variable (s : State)

theorem rd_with_slk (v : Slk) (a : Nat) : ({ s with slk := v } : State).rd a = s.rd a := rfl

theorem rd_with_pins (v : Pins) (a : Nat) : ({ s with pins := v } : State).rd a = s.rd a := rfl

theorem getF_with_slk (v : Slk) (f : Fld) : ({ s with slk := v } : State).getF f = s.getF f := rfl

theorem slEnter_rd {a : Nat} (h : a ≠ SLK_STAT) (st : Nat) : (slEnter st s).rd a = s.rd a := by
  unfold slEnter
  exact (rd_with_pins _ _ a).trans (rd_setF_other s SLK_STAT_STATE st a h)

theorem slEnter_slk (st : Nat) : (slEnter st s).slk = s.slk := by
  unfold slEnter
  simp only [setF_slk]

theorem slRetune_rd {a : Nat} (h : a ≠ SLK_STAT) (hclk : a ≠ CLK_DOM) (c : Nat) : (slRetune c s).rd a = s.rd a := by
  unfold slRetune slUnlock
  exact (rd_with_slk _ _ a).trans ((rd_setF_other _ CLK_DOM_SLK _ a hclk).trans
    ((rd_setF_other _ SLK_STAT_LOCK _ a h).trans (rd_setF_other s SLK_STAT_CH c a h)))

theorem slUnlock_slk (s : State) : (slUnlock s).slk = s.slk := by
  unfold slUnlock
  rw [setF_slk, setF_slk]

theorem rx_with_lockBy (u : State) (n : Nat) : ({ u with slk := { u.slk with lockBy := n } } : State).slk.rx = u.slk.rx := rfl

theorem slRetune_rx (c : Nat) : (slRetune c s).slk.rx = s.slk.rx :=
  (rx_with_lockBy (slUnlock (s.setF SLK_STAT_CH c)) _).trans (by rw [slUnlock_slk, setF_slk])

/-- A change of channel or state writes SLK_STAT and CLK_DOM alone, and no reception is left. -/
theorem slTune_rd {a : Nat} (h : a ≠ SLK_STAT) (hclk : a ≠ CLK_DOM) (goal c : Nat) : (slTune goal c s).rd a = s.rd a := by
  unfold slTune
  dsimp only
  split
  · exact slEnter_rd _ h _
  split
  · rfl
  · refine (slEnter_rd _ h _).trans ((slRetune_rd _ h hclk _).trans ?_)
    split <;> rfl

theorem slTune_rx (goal c : Nat) : (slTune goal c s).slk.rx = none := by
  unfold slTune
  dsimp only
  split
  · rw [slEnter_slk]
  split
  · rfl
  · rw [slEnter_slk, slRetune_rx]
    split <;> rfl

theorem slReturn_rd {a : Nat} (h : a ≠ SLK_STAT) (hclk : a ≠ CLK_DOM) (ret c : Nat) : (slReturn ret c s).rd a = s.rd a := by
  unfold slReturn
  split
  · exact slTune_rd s h hclk _ _
  split <;> exact slTune_rd s h hclk _ _

theorem slReturn_rx (ret c : Nat) : (slReturn ret c s).slk.rx = none := by
  unfold slReturn
  split
  · exact slTune_rx s _ _
  split <;> exact slTune_rx s _ _

theorem slRxOver_rd {a : Nat} (h : a ≠ SLK_HOPCTL) : (slRxOver s).rd a = s.rd a := by
  have hhop : (if s.slk.rxHop then slHopNext s else s).rd a = s.rd a := by
    split
    · exact rd_setF_other s SLK_HOPCTL_IDX _ a h
    · rfl
  unfold slRxOver
  exact (rd_with_slk _ _ a).trans hhop

/-- The end of a reception in RX, no transmission waiting, ends it and leaves what lies outside SLK_STAT, SLK_HOPCTL and
CLK_DOM. -/
theorem slRxEnd_left (hst : s.slState = 4) :
    (slRxEnd s).slk.rx = none ∧ ∀ a, a ≠ SLK_STAT → a ≠ SLK_HOPCTL → a ≠ CLK_DOM → (slRxEnd s).rd a = s.rd a := by
  rw [slRxEnd_eq (by omega)]
  exact ⟨slReturn_rx _ _ _, fun a h hhop hclk => (slReturn_rd _ h hclk _ _).trans (slRxOver_rd s hhop)⟩

/-! ## The ring -/

/-- A packet that is stored writes its slot, SLK_RXPTR and what an event writes. -/
theorem slStore_rd (r : SlRx) (good : Bool) (pay : List Nat) {a : Nat} (h : 0x4C000 ≤ a ∧ a < 0x4E000) (hptr : a ≠ SLK_RXPTR) :
    (slStore r good pay s).rd a = s.rd a := by
  have hslot (f : Nat → Word) (x : State) :
      (forEach (List.range 72) (fun w s => s.wr (SLK_RX (x.getF SLK_RXPTR_WR) w) (f w)) x).rd a = x.rd a := by
    refine forEach_rel (R := fun s u => u.rd a = s.rd a) (fun _ => rfl) (fun h hv => hv.trans h) (fun w _ y => ?_) x
    refine rd_wr_other y _ a _ fun heq => ?_
    have hplace : a = 0x4e000 + 0x200 * x.getF SLK_RXPTR_WR + 4 * w := heq
    omega
  unfold slStore
  split
  · exact rd_bump_other _ _ _ hptr
  · refine (raise_rd _ _ _ a (by omega) (by omega) (by omega)).trans ((rd_with_slk _ _ a).trans ?_)
    exact (rd_setF_other _ SLK_RXPTR_UNREAD _ a hptr).trans ((rd_setF_other _ SLK_RXPTR_WR _ a hptr).trans (hslot _ s.free.2))

/-- Where a slot is free, one more is unread. -/
theorem slStore_unread (r : SlRx) (good : Bool) (pay : List Nat) (h : s.getF SLK_RXPTR_UNREAD < 8) :
    (slStore r good pay s).getF SLK_RXPTR_UNREAD = s.getF SLK_RXPTR_UNREAD + 1 := by
  unfold slStore
  rw [if_neg (by omega)]
  refine (getF_of_rd (raise_rd _ _ _ SLK_RXPTR (by decide) (by decide) (by decide))).trans ((getF_with_slk _ _ _).trans ?_)
  exact getF_setF_fits _ SLK_RXPTR_UNREAD _ (by decide) (by show _ < 16; omega)

end

/-! ## The statements -/

section
variable {s : State} {g n : Nat} {pay : List Nat} {r : SlRx}

/-- The header that a packet sends is taken by a reception that has found its sync word (R497, R502). -/
theorem slHeader_slPacket (hrx : s.slk.rx = some r) (hts : r.ts.isSome = true) (hhdr : r.hdr.isNone = true)
    (hpos : 1 ≤ pay.length) (hlen : pay.length ≤ 255) (hg : g = 0 ∨ g = 0x80) :
    execSlHeader ((slPacket g pay).take 3) n s = .next { s.advance n with
      slk := { (s.advance n).slk with rx := some { r with hdr := some (pay.length, g) } } } := by
  have hsome : r.hdr.isSome = false := by rw [Option.isNone_iff_eq_none] at hhdr; rw [hhdr]; rfl
  have hnone : r.ts.isNone = false := by rw [← Option.not_isSome, hts]; rfl
  have hcfg : g % 128 = 0 := by omega
  unfold execSlHeader
  rw [hrx]
  dsimp only
  rw [whiten_slPacket_head hlen hg, hsome, hnone]
  have hne : pay.length ≠ 0 := by omega
  simp [hcfg, hne]

/-- The payload and CRC that a packet sends pass the check of a reception with its header (R497, R502, R503). -/
theorem slRxDone_slPacket (hrx : s.slk.rx = some r) (hhdr : r.hdr = some (pay.length, g)) (hpay : ∀ x ∈ pay, x < 256) :
    execSlRxDone ((slPacket g pay).drop 3) n s =
      .next (slRxEnd (slStore r true pay ((s.advance n).bump SLK_CNT0_RXOK))) := by
  have hcrc := slCrc_lt ([pay.length, g, slHcrc pay.length g] ++ pay)
  unfold execSlRxDone
  rw [hrx]
  dsimp only
  rw [hhdr]
  dsimp only
  rw [whiten_slPacket_body hpay]
  generalize hc : slCrc ([pay.length, g, slHcrc pay.length g] ++ pay) = c at hcrc ⊢
  have hfirst : (pay ++ [c / 256, c % 256]).getD pay.length 0 = c / 256 := by simp [List.getD_eq_getElem?_getD]
  have hsecond : (pay ++ [c / 256, c % 256]).getD (pay.length + 1) 0 = c % 256 := by simp [List.getD_eq_getElem?_getD]
  rw [map_getD_append, hc, hfirst, hsecond, if_pos (by rw [beq_iff_eq]; omega)]

/-- A packet that was sent is counted as received, not as an error, and ends its reception in a slot where one is free. -/
theorem slPacket_received (hrx : s.slk.rx = some r) (hhdr : r.hdr = some (pay.length, g)) (hst : s.slState = 4)
    (hpay : ∀ x ∈ pay, x < 256) :
    Gives (.slRxDone ((slPacket g pay).drop 3) n) s fun t =>
      Counted SLK_CNT0_RXOK s t ∧ t.getF SLK_CNT0_CRCERR = s.getF SLK_CNT0_CRCERR ∧ t.slk.rx = none ∧
        (s.getF SLK_RXPTR_UNREAD < 8 → t.getF SLK_RXPTR_UNREAD = s.getF SLK_RXPTR_UNREAD + 1) := by
  let v := (s.advance n).bump SLK_CNT0_RXOK
  have hcount : Counted SLK_CNT0_RXOK s v :=
    (counted_bump (s.advance n) SLK_CNT0_RXOK (by decide) (by decide)).of_getF (advance_getF s n _)
  have hcrc : v.getF SLK_CNT0_CRCERR = s.getF SLK_CNT0_CRCERR :=
    (getF_bump_apart _ _ _ (by decide)).trans (advance_getF s n _)
  have hunread : v.getF SLK_RXPTR_UNREAD = s.getF SLK_RXPTR_UNREAD :=
    (getF_bump_apart _ _ _ (by decide)).trans (advance_getF s n _)
  have hstate : (slStore r true pay v).slState = 4 :=
    (getF_of_rd (slStore_rd v r true pay (by decide) (by decide))).trans
      (((getF_bump_apart _ SLK_CNT0_RXOK SLK_STAT_STATE (by decide)).trans (advance_getF s n _)).trans hst)
  obtain ⟨hnone, hkept⟩ := slRxEnd_left _ hstate
  have hcnt : (slRxEnd (slStore r true pay v)).rd SLK_CNT0 = v.rd SLK_CNT0 :=
    (hkept SLK_CNT0 (by decide) (by decide) (by decide)).trans (slStore_rd v r true pay (by decide) (by decide))
  refine ⟨_, slRxDone_slPacket hrx hhdr hpay, ?_, ?_, hnone, fun hfree => ?_⟩
  · exact (getF_of_rd (f := SLK_CNT0_RXOK) hcnt).trans hcount
  · exact (getF_of_rd (f := SLK_CNT0_CRCERR) hcnt).trans hcrc
  · refine (getF_of_rd (hkept SLK_RXPTR (by decide) (by decide) (by decide))).trans ?_
    rw [slStore_unread v r true pay (by rw [hunread]; exact hfree), hunread]

end

/-- Settles O37: whitening twice gives the bytes back, so header, payload and CRC pass the receiver's checks. -/
theorem packetsRoundTrip : Obligations.PacketsRoundTrip := by
  unfold Obligations.PacketsRoundTrip
  constructor
  · intro s g n pay r hrx hts hhdr hpos hlen _ hg
    refine ⟨_, slHeader_slPacket (beq_iff_eq.mp hrx) hts hhdr (of_decide_eq_true hpos) (of_decide_eq_true hlen) (by simpa using hg),
      rfl, advance_getF s n _⟩
  · intro s g n pay r hrx hhdr hst _ _ hpay _
    exact slPacket_received (beq_iff_eq.mp hrx) (beq_iff_eq.mp hhdr) (beq_iff_eq.mp hst) (by simpa using hpay)

end Sys2Proof.Machine
end

section
/-! SUPPORT. The statements on traps and interrupts (R416, R430 to R434, R442 to R448): an iteration that traps, a form that
a check refuses and an interrupt that is due each enter their handler over a stack in the local data RAM. -/

set_option Elab.async false

namespace Sys2Proof.Machine

/-! ## Traps of an iteration -/

/-- The results in flight take their place whatever the REP count and the issue in progress. -/
theorem complete_with_issue (c : Core) (rep : Option Nat) (issuing : Bool) :
    ({ c with rep := rep, issuing := issuing } : Core).complete = { c.complete with rep := rep, issuing := issuing } := by
  have hcommit : ∀ (l : List IzPend) (d : Core), commitDue l { d with rep := rep, issuing := issuing } =
      { commitDue l d with rep := rep, issuing := issuing } := by
    intro l
    induction l with
    | nil => exact fun _ => rfl
    | cons p t ih =>
      intro d
      have hput : Core.put p.reg p.val { d with rep := rep, issuing := issuing } =
          { d.put p.reg p.val with rep := rep, issuing := issuing } := by
        cases p.reg with
        | g n => by_cases hn : n = 0 <;> simp [Core.put, hn]
        | _ => rfl
      unfold commitDue
      split
      · rw [hput, ih]
      · exact ih d
  unfold Core.complete
  dsimp only
  rw [hcommit]

section
variable {s : State} {h : IzHead} {o : IzOp} {cause : Nat} {at_ : Option (Nat × Nat)}

/-- What a straight instruction finds: no delay slot, no REP sequence, no loop's end and no HALT. -/
theorem straight_iff {k : Nat} {pre : List IzPre} : s.straight k pre = true ↔ (s.core k).delay = none ∧
    (s.core k).repCount pre = none ∧ (s.core k).tick.atLoopEnd (s.core k).pc.toNat = false ∧
    s.flag (SEQk_CTL_HALT k) = false := by
  unfold State.straight
  simp [and_assoc]

/-- A core that is not to halt stays in the handler that it has entered. -/
theorem runSteps_haltTry_trap {s0 : State} (rep : List Nat) {k : Nat} (hcause : cause < 8) (hdelay : (s0.core k).delay = none)
    (hrep : (s0.core k).rep = none) (hok : (s0.core k).complete.entryOk = true) (hhalt : s0.flag (SEQk_CTL_HALT k) = false)
    (hidle : ∀ j, j < 8 → (s0.core j).stepAsked = false) :
    runSteps stepBound (haltTry k (izTrap k cause at_ rep s0)) = izTrap k cause at_ rep s0 := by
  obtain ⟨-, -, hflag, hstep, -⟩ := izTrap_shows at_ rep hcause hdelay hrep hok
  rw [haltTry_no_halt (hflag.trans hhalt), runSteps_idle]
  intro j hj
  rw [hstep, hidle j hj]

/-- An iteration that traps enters the handler of its cause, and the trap is recorded (R430, R431). -/
theorem izIssue_trap (hi : s.issues h o = true) (hdo : s.iteration h o = .trap cause at_) (hcause : cause < 8)
    (hst : s.straight h.core h.pre = true) (hok : (s.settled h.core).entryOk = true) :
    Entered (s.settled h.core) cause h.core s (izIssue h o s) ∧ Trapped (s.settled h.core) cause h.core s (izIssue h o s) ∧
      ∀ j w, at_ = some (j, w) → (izIssue h o s).getF (SEQk_FADDR_SD h.core) = j % 16 ∧
        (izIssue h o s).getF (SEQk_FADDR_OFFSET h.core) = w % 2 ^ 24 := by
  obtain ⟨-, -, -, -, hidle⟩ := issues_iff.mp hi
  obtain ⟨hdelay, hrep, -, hhalt⟩ := straight_iff.mp hst
  have hcomplete : ((s.latched h).core h.core).complete =
      { s.settled h.core with rep := (s.core h.core).repCount h.pre, issuing := true } := by
    rw [latched_core_same, complete_with_issue]
    rfl
  have hdelay' : ((s.latched h).core h.core).delay = none := by rw [latched_core_same]; exact hdelay
  have hrep' : ((s.latched h).core h.core).rep = none := by rw [latched_core_same]; exact hrep
  have hok' : ((s.latched h).core h.core).complete.entryOk = true := by rw [hcomplete]; exact hok
  have hissue : izIssue h o s = izTrap h.core cause at_ h.replies (s.latched h) := by
    rw [izIssue_acts hi]
    have hacted : s.acted h o = izTrap h.core cause at_ h.replies (s.latched h) := by
      unfold State.acted
      rw [hdo]
      rfl
    rw [hacted, runSteps_haltTry_trap h.replies hcause hdelay' hrep' hok' (by simpa [State.latched] using hhalt)]
    intro j hj
    rw [latched_stepAsked, hidle j hj]
  obtain ⟨hentered, htrapped, -, -, hfaddr⟩ := izTrap_shows at_ h.replies hcause hdelay' hrep' hok'
  rw [hissue]
  rw [hcomplete] at hentered htrapped
  unfold Entered at hentered ⊢
  unfold Trapped Counted at htrapped ⊢
  have hgetF : ∀ f, (s.latched h).getF f = s.getF f := fun f => setCore_getF ..
  rw [hgetF] at hentered htrapped
  exact ⟨hentered, htrapped, hfaddr⟩

/-- What a core issues that a check of its form refuses enters the handler of the check's cause (R430, R442). -/
theorem izIssueFetch_refused {f : IzFetch} (hlive : s.coreLive h.core = true) (hrun : s.seqState h.core = 1)
    (hstatic : izStatic (s.core h.core) f = some cause) (hcause : cause < 8) (hrep : (s.core h.core).rep = none)
    (hdelay : (s.core h.core).delay = none) (hhalt : s.flag (SEQk_CTL_HALT h.core) = false)
    (hidle : ∀ j, j < 8 → (s.core j).stepAsked = false) (hok : (s.settled h.core).entryOk = true) :
    Entered (s.settled h.core) cause h.core s (izIssueFetch h f s) ∧
      Trapped (s.settled h.core) cause h.core s (izIssueFetch h f s) := by
  have hissue : izIssueFetch h f s = izTrap h.core cause none h.replies s := by
    have hizRun : izRun h.core f h.replies s = izTrap h.core cause none h.replies s := by
      unfold izRun
      simp only [hstatic]
    unfold izIssueFetch
    dsimp only
    rw [if_pos (by simp [hlive, hrun]), hizRun, runSteps_haltTry_trap h.replies hcause hdelay hrep hok hhalt hidle]
  obtain ⟨hentered, htrapped, -⟩ := izTrap_shows (none : Option (Nat × Nat)) h.replies hcause hdelay hrep hok
  rw [hissue]
  exact ⟨hentered, htrapped⟩

/-- The check that refuses an undefined opcode (R442, R445). -/
theorem izStatic_undef (c : Core) (pre : List IzPre) (op op1 : BitVec 8) (hpc : c.pc.toNat < codeEnd) :
    izStatic c (.undef pre op op1) = some (if 4 ≤ pre.length ∨ 8 < undefLen pre op then 6 else 0) := by
  unfold izStatic
  dsimp only
  rw [if_neg (by omega)]
  by_cases hlen : 4 ≤ pre.length ∨ 8 < undefLen pre op
  · rw [if_pos hlen, if_pos (by simpa using hlen)]
  · rw [if_neg hlen, if_neg (by simpa using hlen)]

/-- UNDEFINED_OPCODE traps (R442, R445). -/
theorem undefinedOpcode_traps {op op1 : BitVec 8} (hlive : s.coreLive h.core = true) (hrun : s.seqState h.core = 1)
    (hop : opUndefined op op1 = true) (hpc : (s.core h.core).pc.toNat < codeEnd) (hrep : (s.core h.core).rep = none)
    (hdelay : (s.core h.core).delay = none) (hhalt : s.flag (SEQk_CTL_HALT h.core) = false)
    (hidle : ((List.range 8).all fun j => !(s.core j).stepAsked) = true) (hok : (s.settled h.core).entryOk = true) :
    Gives (.undefinedOpcode h op op1) s (fun t =>
      Entered (s.settled h.core) (if 4 ≤ h.pre.length ∨ 8 < undefLen h.pre op then 6 else 0) h.core s t ∧
        Trapped (s.settled h.core) (if 4 ≤ h.pre.length ∨ 8 < undefLen h.pre op then 6 else 0) h.core s t) := by
  refine ⟨_, congrArg Host.Outcome.next (if_pos (by simp [hop])), ?_⟩
  refine izIssueFetch_refused hlive hrun (izStatic_undef _ _ _ op1 hpc) ?_ hrep hdelay hhalt ?_ hok
  · split <;> omega
  · intro j hj
    simpa using List.all_eq_true.mp hidle j (List.mem_range.mpr hj)

/-! ## Division by zero and segment violations -/

/-- A divisor of zero traps DIV0 (R448). -/
theorem iteration_divZero (hdiv : divZero (s.core h.core) o = true) : s.iteration h o = .trap 7 none := by
  unfold State.iteration izDo
  rw [latched_core_same]
  exact if_pos hdiv

/-- The word and descriptor of an access through pointer n (R416, R455). -/
def accessDesc (c : Core) (pre : List IzPre) (n : Nat) : Nat := (segoOf pre).getD (c.bind n)

def accessWord (c : Core) (pre : List IzPre) (m : BitVec 1) (n : Nat) (x : BitVec 8) : Nat :=
  if m = 1 then (c.ptr n).toNat else (c.ptr n + immOf pre x).toNat

/-- A one-word access that its segment does not hold or permit traps SEGV (R416). -/
theorem izAccess_segv {k g n : Nat} {write : Bool} {m : BitVec 1} {x : BitVec 8} {pre : List IzPre} (rep : List Nat)
    (hw : ((s.core k).desc (accessDesc (s.core k) pre n)).limit ≤ accessWord (s.core k) pre m n x ∨
      (write = true ∧ ((s.core k).desc (accessDesc (s.core k) pre n)).wp = true)) :
    izAccess k write 1 g (m == 1) n (immOf pre x) (segoOf pre) rep s =
      .trap 2 (some (accessDesc (s.core k) pre n, accessWord (s.core k) pre m n x)) := by
  have hword : (if (m == 1) = true then ((s.core k).ptr n).toNat else ((s.core k).ptr n + immOf pre x).toNat) =
      accessWord (s.core k) pre m n x := by simp [accessWord]
  have hcheck : izCheck (s.core k) (accessDesc (s.core k) pre n) (accessWord (s.core k) pre m n x) 1 write =
      some (.trap 2 (some (accessDesc (s.core k) pre n, accessWord (s.core k) pre m n x))) := by
    unfold izCheck
    dsimp only
    rw [if_neg (by simp), if_pos]
    rcases hw with hlimit | ⟨hwrite, hwp⟩
    · exact Bool.or_eq_true_iff.mpr (.inl (by simpa using Nat.lt_succ_of_le hlimit))
    · exact Bool.or_eq_true_iff.mpr (.inr (by simp [hwrite, hwp]))
  unfold izAccess
  dsimp only
  rw [hword]
  rw [show (segoOf pre).getD ((s.core k).bind n) = accessDesc (s.core k) pre n from rfl, hcheck]

theorem accessWord_lt (c : Core) (pre : List IzPre) (m : BitVec 1) (n : Nat) (x : BitVec 8) :
    accessWord c pre m n x % 2 ^ 24 = accessWord c pre m n x := by
  refine Nat.mod_eq_of_lt ?_
  unfold accessWord
  split <;> exact BitVec.isLt _

/-- The rule of LD and ST: a segment violation is recorded with its descriptor and offset (R416). -/
theorem izIssue_segv {k : Nat} {m : BitVec 1} {n : BitVec 3} {x : BitVec 8} (hk : h.core = k)
    (hi : s.issues h o = true)
    (hdo : s.iteration h o = .trap 2 (some (accessDesc (s.core k) h.pre n.toNat, accessWord (s.core k) h.pre m n.toNat x)))
    (hok : (s.settled k).entryOk = true) (hst : s.straight k h.pre = true) :
    Entered (s.settled k) 2 k s (izIssue h o s) ∧ Trapped (s.settled k) 2 k s (izIssue h o s) ∧
      (izIssue h o s).getF (SEQk_FADDR_SD k) = (segoOf h.pre).getD ((s.core k).bind n.toNat) % 16 ∧
      (izIssue h o s).getF (SEQk_FADDR_OFFSET k) =
        (if m = 1 then ((s.core k).ptr n.toNat).toNat else ((s.core k).ptr n.toNat + immOf h.pre x).toNat) := by
  subst hk
  obtain ⟨hentered, htrapped, hfaddr⟩ := izIssue_trap hi hdo (by omega) hst hok
  obtain ⟨hsd, hoffset⟩ := hfaddr _ _ rfl
  exact ⟨hentered, htrapped, hsd, hoffset.trans (accessWord_lt _ _ _ _ _)⟩

end

/-! ## Interrupts -/

/-- An interrupt that is due enters the handler of its group and is counted (R434). -/
theorem interruptEntry_enters {s : State} {k g : Nat} (rep : List Nat) (hlive : s.coreLive k = true)
    (hrun : (s.seqState k == 1) = true) (hboundary : (s.core k).boundary = true) (hie : (s.core k).ieNow = true)
    (hgroup : (s.intGroup k == some g) = true) (hrep : (s.core k).rep.isNone = true)
    (hok : (s.settled k).entryOk = true) (hhalt : (!s.flag (SEQk_CTL_HALT k)) = true) :
    Gives (.interruptEntry k rep) s (fun t =>
      Entered (s.settled k) (8 + g) k s t ∧ Counted (SEQk_TRAPCNT_INTS k) s t) := by
  have hdelay : (s.core k).delay = none := by
    have := (Bool.and_eq_true _ _ ▸ hboundary).2
    simpa using this
  have hrep' : (s.core k).rep = none := by simpa using hrep
  have heq := izEnter_ram (n := 8 + g) none rep hdelay hrep' hok
  have hnohalt : (izEnter k (8 + g) none rep s).flag (SEQk_CTL_HALT k) = false := by
    rw [heq, setCore_flag]
    have : ∀ u : State, (u.bump (SEQk_TRAPCNT_INTS k)).flag (SEQk_CTL_HALT k) = u.flag (SEQk_CTL_HALT k) := by
      intro u
      unfold State.flag
      rw [getF_bump_apart _ _ _ (.inl (by simp [SEQk_CTL_HALT, SEQk_TRAPCNT_INTS, SEQk_CTL, SEQk_TRAPCNT]))]
    rw [this]
    simpa [entryState] using hhalt
  refine ⟨_, rfl, ?_⟩
  rw [if_pos (by simp [hlive, hrun, hboundary, hie]), beq_iff_eq.mp hgroup]
  dsimp only
  rw [haltTry_no_halt hnohalt]
  refine ⟨izEnter_entered none rep hdelay hrep' hok, ?_⟩
  have hcount := counted_bump (entryState k [(s.core k).complete.pc.toNat, (s.core k).complete.sw] s) (SEQk_TRAPCNT_INTS k)
    (by simp [SEQk_TRAPCNT_INTS]) (by simp [SEQk_TRAPCNT_INTS])
  rw [heq]
  unfold Counted at hcount ⊢
  rw [setCore_getF]
  exact hcount

/-! ## The statements -/

/-- Settles O14. -/
theorem trapsAndInterrupts : Obligations.TrapsAndInterrupts := by
  unfold Obligations.TrapsAndInterrupts
  refine ⟨?_, ?_, ?_, ?_, ?_, ?_, ?_⟩
  · intro s h op op1 hlive hrun hop hpc hrep hdelay hhalt hidle hok
    exact undefinedOpcode_traps hlive (by simpa using hrun) hop (by simpa using hpc) (by simpa using hrep)
      (by simpa using hdelay) (by simpa using hhalt) hidle hok
  · intro s h d a b z hi hb hok hst
    obtain ⟨hentered, htrapped, -⟩ := izIssue_trap hi (iteration_divZero hb) (by omega) hst hok
    exact ⟨_, rfl, hentered, htrapped⟩
  · intro s h d a b z hi hb hok hst
    obtain ⟨hentered, htrapped, -⟩ := izIssue_trap hi (iteration_divZero hb) (by omega) hst hok
    exact ⟨_, rfl, hentered, htrapped⟩
  · intro s h d a b z hi hb hok hst
    obtain ⟨hentered, htrapped, -⟩ := izIssue_trap hi (iteration_divZero hb) (by omega) hst hok
    exact ⟨_, rfl, hentered, htrapped⟩
  · intro s h g m n x hi hlimit hok hst
    refine ⟨_, rfl, izIssue_segv rfl hi ?_ hok hst⟩
    have hsegv := izAccess_segv (s := s.latched h) (k := h.core) (g := g.toNat) (n := n.toNat) (write := false) (m := m)
      (x := x) (pre := h.pre) h.replies (.inl (by rw [latched_core_same]; exact of_decide_eq_true hlimit))
    rw [latched_core_same] at hsegv
    exact hsegv
  · intro s h g m n x hi hlimit hok hst
    refine ⟨_, rfl, izIssue_segv rfl hi ?_ hok hst⟩
    have hsegv := izAccess_segv (s := s.latched h) (k := h.core) (g := g.toNat) (n := n.toNat) (write := true) (m := m)
      (x := x) (pre := h.pre) h.replies (by
        rw [latched_core_same]
        exact (Bool.or_eq_true_iff.mp hlimit).imp of_decide_eq_true fun hwp => ⟨rfl, hwp⟩)
    rw [latched_core_same] at hsegv
    exact hsegv
  · exact fun s k rep g hlive hrun hboundary hie hgroup hrep hok hhalt =>
      interruptEntry_enters rep hlive hrun hboundary hie hgroup hrep hok hhalt

/-- Settles O15: the ten entries by evaluation of the map, the trap by the check of an undefined opcode. -/
theorem undefinedMapOneEntriesTrap : Obligations.UndefinedMapOneEntriesTrap := by
  unfold Obligations.UndefinedMapOneEntriesTrap
  refine ⟨?_, ?_⟩
  · intro n _
    unfold izMap1
    split <;> simp_all
  intro s k op1 hmap hlive hrun hpc hrep hdelay hhalt hidle hok
  exact undefinedOpcode_traps (h := ⟨k, [], []⟩) (op := 0xFF) hlive hrun hmap hpc hrep hdelay hhalt hidle hok

end Sys2Proof.Machine
end

section
/-! SUPPORT. The end of a loop and LEXIT (R424, R454): what the loop check after an instruction and the instruction LEXIT
decide about the loop registers. -/

set_option Elab.async false

namespace Sys2Proof.Machine

/-! ## Writes between two instructions -/

/-- A write between two instructions leaves nothing due in flight. -/
theorem now_due {c : Core} (q : IzReg) (v : Nat) (hdue : ∀ p ∈ c.pend, p.left ≠ 0) : ∀ p ∈ (c.now q v).pend, p.left ≠ 0 := by
  unfold Core.now
  split
  · rw [put_pend]
    exact hdue
  next hleft =>
    unfold Core.later
    split
    · exact hdue
    · intro p hp
      rcases List.mem_append.mp hp with hp | hp
      · exact hdue p hp
      · rw [List.mem_singleton.mp hp]
        simpa using hleft

@[simp] theorem now_pc (q : IzReg) (v : Nat) (c : Core) : (c.now q v).pc = c.pc := by
  unfold Core.now Core.later
  repeat' split
  · exact (put_rest q v c).pc
  · rfl
  · rfl

/-- A register that a result of another one does not touch reads alike after the instruction. -/
theorem view_tick_later_other {α : Type} {π : Core → α} {r q : IzReg} (hπ : Views π r) (d v : Nat) (e : Bool) (c : Core)
    (hq : homeReg q ≠ r) : π (c.later q d v e).tick = π c.tick := by
  have hview : ∀ d : Core, π d.tick = π (commitDue (d.pend.map fun p => { p with left := p.left - 1 }) d) :=
    fun d => hπ.regs _ _ (tick_regs d)
  rw [hview, hview]
  unfold Core.later
  split
  · rfl
  · dsimp only
    rw [List.map_append, commitDue_append]
    have hregs : Core.SameRegs (commitDue (c.pend.map fun p => { p with left := p.left - 1 }) c)
        (commitDue (c.pend.map fun p => { p with left := p.left - 1 })
          { c with pend := c.pend ++ [⟨q, v, max d (c.pendLeft q), e⟩] }) :=
      commitDue_sameRegs _ ⟨rfl, rfl, rfl, rfl, rfl, rfl, rfl, rfl, rfl, rfl, rfl, rfl, rfl⟩
    rw [← hπ.regs _ _ hregs]
    refine commitDue_other hπ _ _ fun p hp _ => ?_
    rw [List.mem_singleton.mp hp]
    exact hq

/-- A register decided, on which nothing in flight reaches beyond the next instruction, reads as decided there. -/
theorem view_tick_of_will {α : Type} {π : Core → α} {r : IzReg} {x : α} {c : Core} (hπ : Views π r) (hwill : c.Will r π x)
    (hshort : ∀ p ∈ c.pend, homeReg p.reg = r → p.left ≤ 1) : π c.tick = x := by
  rcases will_tick hπ hwill with ⟨-, hx⟩ | ⟨l, e, hlast, -, -⟩
  · exact hx
  · exfalso
    have he : e ∈ onReg r c.tick.pend := by rw [hlast]; simp
    obtain ⟨hmem, hreg⟩ := List.mem_filter.mp he
    obtain ⟨hmap, hleft⟩ := List.mem_filter.mp hmem
    obtain ⟨p, hp, rfl⟩ := List.mem_map.mp hmap
    have := hshort p hp (by simpa using hreg)
    simp only [bne_iff_ne] at hleft
    omega

/-- Nothing in flight on a register reaches further than what pends on it. -/
theorem left_le_of_later {c : Core} {q : IzReg} {d v n : Nat} {e : Bool} (hpend : c.pendLeft q ≤ n) (hd : d ≤ n) :
    ∀ p ∈ (c.later q d v e).pend, homeReg p.reg = homeReg q → p.left ≤ n := by
  intro p hp hreg
  unfold Core.later at hp
  split at hp
  · exact le_trans (le_pendLeft hp hreg) hpend
  · rcases List.mem_append.mp hp with hp | hp
    · exact le_trans (le_pendLeft hp hreg) hpend
    · rw [List.mem_singleton.mp hp]
      exact max_le hd hpend

theorem pendLeft_later_other {c : Core} {q r : IzReg} (d v : Nat) (e : Bool) (hq : homeReg q ≠ homeReg r) :
    (c.later q d v e).pendLeft r = c.pendLeft r := by
  unfold Core.later
  split
  · rfl
  · unfold Core.pendLeft
    rw [List.foldl_append]
    simp [hq]

/-! ## The loop check -/

/-- The core that the loop check after an instruction finds. -/
def Core.checked (c : Core) : Core := { c.tick with issuing := false, delay := none, rep := none }

section
variable {s : State} {h : IzHead}

/-- A NOP that issues where nothing but the loop check acts: the core after it, before a HALT that waits. -/
theorem acted_nop (hdelay : (s.core h.core).delay = none) (hrep : (s.core h.core).repCount h.pre = none) :
    (s.acted h (.f0 .nop)).core h.core =
      (s.core h.core).checked.loopCheck (s.core h.core).pc.toNat (s.afterOp h (.f0 .nop)) := by
  have hleft : s.left h = 0 := by simp [State.left, hrep]
  rw [acted_done (u := s.latched h) rfl, izOn_core, hleft, if_neg (by omega), latched_core_same, tick_issuing]
  unfold Core.finish
  dsimp only
  rw [tick_delay, hdelay]
  rfl

/-- What the loop check leaves of a core after a NOP, a HALT that waits keeps: its PC, and what its registers are to read. -/
theorem izIssue_nop (hi : s.issues h (.f0 .nop) = true) (hdelay : (s.core h.core).delay = none)
    (hrep : (s.core h.core).repCount h.pre = none) :
    ((izIssue h (.f0 .nop) s).core h.core).pc =
        ((s.core h.core).checked.loopCheck (s.core h.core).pc.toNat (s.afterOp h (.f0 .nop))).pc ∧
      ∀ {α : Type} {π : Core → α} {r : IzReg} {x : α}, Views π r →
        ((s.core h.core).checked.loopCheck (s.core h.core).pc.toNat (s.afterOp h (.f0 .nop))).Will r π x →
        π ((izIssue h (.f0 .nop) s).settled h.core) = x := by
  rw [izIssue_eq hi]
  · refine ⟨?_, fun hπ hwill => complete_will hπ ?_⟩
    · refine haltTry_keeps (P := fun c => c.pc = _) (fun c hc => (complete_pc c).trans hc) ?_
      rw [acted_nop hdelay hrep]
    · refine haltTry_keeps (P := fun c => c.Will _ _ _) (fun c hc => will_complete hπ hc) ?_
      rw [acted_nop hdelay hrep]
      exact hwill
  · intro j
    rw [acted_done (u := s.latched h) rfl, izOn_stepAsked, latched_stepAsked]

end

/-- At the end of a loop with more iterations the count falls and the body follows again (R424). -/
theorem loopCheck_repeat {c : Core} {pc an : Nat} (hend : c.atLoopEnd pc = true)
    (hcount : 1 < (sget zero24 c.lc (c.ldepth - 1)).toNat) : c.loopCheck pc an =
      { c.now (.lc (c.ldepth - 1)) ((sget zero24 c.lc (c.ldepth - 1)).toNat - 1) with pc := sget zero24 c.ls (c.ldepth - 1) } := by
  unfold Core.loopCheck
  rw [if_pos hend]
  exact if_pos hcount

/-- At the end of a loop's last iteration the loop is left (R424). -/
theorem loopCheck_end {c : Core} {pc an : Nat} (hend : c.atLoopEnd pc = true)
    (hcount : (sget zero24 c.lc (c.ldepth - 1)).toNat = 1) : c.loopCheck pc an =
      { (c.now (.lc (c.ldepth - 1)) 0).now .ldepth (c.ldepth - 1) with pc := BitVec.ofNat 24 an } := by
  unfold Core.loopCheck
  rw [if_pos hend]
  dsimp only
  rw [if_neg (by omega), if_pos hcount]

/-- Only the PC of a core moves. -/
theorem will_pc {α : Type} {π : Core → α} {r : IzReg} {x : α} {c : Core} (hπ : Views π r) (pc : BitVec 24)
    (hc : c.Will r π x) : ({ c with pc := pc } : Core).Will r π x :=
  will_of_same (c := c) hπ rfl ⟨rfl, rfl, rfl, rfl, rfl, rfl, rfl, rfl, rfl, rfl, rfl, rfl, rfl⟩ hc

theorem put_lc (j v : Nat) (c : Core) : sget zero24 (Core.put (.lc j) v c).lc j = BitVec.ofNat 24 v := by simp [Core.put]

/-- What the loop check decides about the count of a loop that goes on. -/
theorem loopCheck_repeat_will {c : Core} {pc an : Nat} (hdue : ∀ p ∈ c.pend, p.left ≠ 0) (hend : c.atLoopEnd pc = true)
    (hcount : 1 < (sget zero24 c.lc (c.ldepth - 1)).toNat) :
    (c.loopCheck pc an).pc = sget zero24 c.ls (c.ldepth - 1) ∧
      (c.loopCheck pc an).Will (.lc (c.ldepth - 1)) (fun d => sget zero24 d.lc (c.ldepth - 1))
        (BitVec.ofNat 24 ((sget zero24 c.lc (c.ldepth - 1)).toNat - 1)) := by
  rw [loopCheck_repeat hend hcount]
  exact ⟨rfl, will_pc (views_lc _) _ (will_now (q := .lc _) _ nofun hdue (put_lc _ _))⟩

/-- What the loop check decides about the registers of a loop that ends. -/
theorem loopCheck_end_will {c : Core} {pc an : Nat} (hdue : ∀ p ∈ c.pend, p.left ≠ 0) (hend : c.atLoopEnd pc = true)
    (hcount : (sget zero24 c.lc (c.ldepth - 1)).toNat = 1) :
    (c.loopCheck pc an).pc = BitVec.ofNat 24 an ∧
      (c.loopCheck pc an).Will (.lc (c.ldepth - 1)) (fun d => sget zero24 d.lc (c.ldepth - 1)) 0 ∧
      (c.loopCheck pc an).Will .ldepth Core.ldepth (c.ldepth - 1) := by
  rw [loopCheck_end hend hcount]
  exact ⟨rfl, will_pc (views_lc _) _ (will_now_other _ (by simp [homeReg]) (views_lc _)
      (will_now (q := .lc _) _ nofun hdue (put_lc _ _))),
    will_pc views_ldepth _ (will_now (q := .ldepth) _ nofun (now_due _ _ hdue) fun _ => rfl)⟩

/-! ## LEXIT -/

section
variable {s : State} {h : IzHead}

/-- What LEXIT inside a loop writes (R454). -/
theorem iteration_lexit (hdepth : (s.core h.core).ldepth ≠ 0) : s.iteration h (.f0 .lexit) =
    .done (izW h.core .ldepth 1 ((s.core h.core).ldepth - 1)
      (izW h.core (.lc ((s.core h.core).ldepth - 1)) 1 0 (s.latched h))) := by
  change izLexitDo h.core (s.latched h) = _
  unfold izLexitDo
  rw [latched_core_same]
  exact if_neg hdepth

/-- The core after what LEXIT writes. -/
def Core.lexited (c : Core) : Core := (c.later (.lc (c.ldepth - 1)) 1 0 false).later .ldepth 1 (c.ldepth - 1) false

/-- LEXIT leaves the loop at once: the loop check that follows is that of the loop around it, whose body does not end here. -/
theorem lexited_atLoopEnd {c : Core} {pc : BitVec 24} (hpend : c.pendLeft .ldepth = 0)
    (hend : c.ldepth < 2 ∨ sget zero24 c.tick.le (c.ldepth - 2) ≠ pc) : c.lexited.tick.atLoopEnd pc.toNat = false := by
  have hldepth : c.lexited.tick.ldepth = c.ldepth - 1 := by
    refine view_tick_of_will views_ldepth (will_later (q := .ldepth) 1 _ false nofun fun _ => rfl) ?_
    refine left_le_of_later (q := .ldepth) ?_ (le_refl 1)
    rw [pendLeft_later_other (q := .lc _) (r := .ldepth) _ _ _ (by simp [homeReg]), hpend]
    omega
  have hle : sget zero24 c.lexited.tick.le (c.ldepth - 2) = sget zero24 c.tick.le (c.ldepth - 2) := by
    unfold Core.lexited
    rw [view_tick_later_other (views_le (c.ldepth - 2)) (q := .ldepth) _ _ _ _ nofun,
      view_tick_later_other (views_le (c.ldepth - 2)) (q := .lc _) _ _ _ _ nofun]
  unfold Core.atLoopEnd
  rw [hldepth]
  rcases hend with hone | hne
  · simp [show c.ldepth - 1 = 0 by omega]
  · rw [show c.ldepth - 1 - 1 = c.ldepth - 2 by omega, hle]
    have : (sget zero24 c.tick.le (c.ldepth - 2)).toNat ≠ pc.toNat := fun heq => hne (BitVec.eq_of_toNat_eq heq)
    simp [this]

/-- LEXIT inside a loop clears its count and leaves it (R454). -/
theorem izLexit_leaves (hi : s.issues h (.f0 .lexit) = true) (hdepth : ((s.core h.core).ldepth != 0) = true)
    (hpend : ((s.core h.core).pendLeft .ldepth == 0) = true)
    (hend : (decide ((s.core h.core).ldepth < 2) ||
      sget zero24 (s.core h.core).tick.le ((s.core h.core).ldepth - 2) != (s.core h.core).pc) = true) :
    Gives (.izLexit h) s (fun t => (t.settled h.core).ldepth = (s.core h.core).ldepth - 1 ∧
      sget zero24 (t.settled h.core).lc ((s.core h.core).ldepth - 1) = 0) := by
  have hdo := iteration_lexit (s := s) (h := h) (by simpa using hdepth)
  have hcore : ((izW h.core .ldepth 1 ((s.core h.core).ldepth - 1)
      (izW h.core (.lc ((s.core h.core).ldepth - 1)) 1 0 (s.latched h))).core h.core) =
      ((s.latched h).core h.core).lexited := by
    rw [izW_core, izW_core, latched_core_same]
    rfl
  have hloop : ((s.latched h).core h.core).lexited.tick.atLoopEnd (s.core h.core).pc.toNat = false := by
    refine lexited_atLoopEnd ?_ ?_
    · rw [latched_core_same]
      exact beq_iff_eq.mp hpend
    · rw [latched_core_same, tick_issuing]
      simpa using hend
  refine ⟨_, rfl, ?_, ?_⟩
  · refine settled_of_will views_ldepth hi hdo (by simp) (.inl (by rw [hcore]; exact hloop)) ?_
    rw [izW_core]
    exact will_later (q := .ldepth) _ _ _ nofun fun _ => rfl
  · refine settled_of_will (views_lc ((s.core h.core).ldepth - 1)) hi hdo (by simp) (.inl (by rw [hcore]; exact hloop)) ?_
    rw [izW_core, izW_core]
    refine will_later_other _ _ _ nofun (views_lc _) (will_later (q := .lc _) _ _ _ nofun fun b => ?_)
    simp [Core.put]

end

/-! ## The statement -/

/-- Settles O13. -/
theorem loopEndAndExit : Obligations.LoopEndAndExit := by
  unfold Obligations.LoopEndAndExit
  refine ⟨?_, ?_, fun s h => izLexit_leaves, ?_⟩
  · intro s h hi hend hdelay hrep hcount
    simp only [decide_eq_true_eq, Option.isNone_iff_eq_none] at hdelay hrep hcount
    obtain ⟨hpc, hlc⟩ := loopCheck_repeat_will (c := (s.core h.core).checked) (an := s.afterOp h (.f0 .nop))
      (tick_due (s.core h.core)) hend hcount
    obtain ⟨hpc', hread⟩ := izIssue_nop hi hdelay hrep
    refine ⟨_, rfl, hpc'.trans hpc, ?_⟩
    refine (congrArg BitVec.toNat (hread (views_lc _) hlc)).trans ?_
    have := (sget zero24 (s.core h.core).checked.lc ((s.core h.core).checked.ldepth - 1)).isLt
    rw [BitVec.toNat_ofNat, Nat.mod_eq_of_lt (by omega)]
    rfl
  · intro s h hi hend hdelay hrep hcount
    simp only [beq_iff_eq, Option.isNone_iff_eq_none] at hdelay hrep hcount
    obtain ⟨hpc, hlc, hldepth⟩ := loopCheck_end_will (c := (s.core h.core).checked) (an := s.afterOp h (.f0 .nop))
      (tick_due (s.core h.core)) hend hcount
    obtain ⟨hpc', hread⟩ := izIssue_nop hi hdelay hrep
    refine ⟨_, rfl, hpc'.trans (hpc.trans ?_), congrArg BitVec.toNat (hread (views_lc _) hlc), hread views_ldepth hldepth⟩
    exact congrArg (BitVec.ofNat 24) (Nat.add_assoc _ _ _).symm
  · intro s h hi hdepth hok hst
    have hdo : s.iteration h (.f0 .lexit) = .trap 4 none := by
      change izLexitDo h.core (s.latched h) = _
      unfold izLexitDo
      rw [latched_core_same]
      exact if_pos (beq_iff_eq.mp hdepth)
    obtain ⟨hentered, htrapped, -⟩ := izIssue_trap hi hdo (by omega) hst hok
    exact ⟨_, rfl, hentered, htrapped⟩

end Sys2Proof.Machine
end

section
/-! SUPPORT. The stack instructions and those that push or pop an address (R416, R421, R422, R431 to R433, R450): what an
iteration leaves of sp and of a stack in the local data RAM, and the core that stops where an entry finds no room. -/

set_option Elab.async false

namespace Sys2Proof.Machine

/-! ## Pushes and loads of an iteration -/

/-- The state of an iteration after its pushes onto a stack in the local data RAM. -/
def State.pushed (s : State) (h : IzHead) (words : List Nat) : State :=
  (s.latched h).setCore h.core { (s.latched h).core h.core with
    ram := pushedRam ((s.core h.core).desc 15) words (s.core h.core).sp.toNat (s.core h.core).ram }

section
variable {s u : State} {h : IzHead} {o : IzOp}

@[simp] theorem pushed_core (s : State) (h : IzHead) (words : List Nat) : (s.pushed h words).core h.core =
    { (s.latched h).core h.core with
      ram := pushedRam ((s.core h.core).desc 15) words (s.core h.core).sp.toNat (s.core h.core).ram } := core_setCore_same ..

@[simp] theorem pushed_stepAsked (s : State) (h : IzHead) (words : List Nat) (j : Nat) :
    ((s.pushed h words).core j).stepAsked = (s.core j).stepAsked := by
  unfold State.pushed
  rw [setCore_stepAsked]
  · exact latched_stepAsked s h j
  · rfl

/-- Pushes with room for them (R421). -/
theorem izPush_pushed {v : Nat} {t : List Nat} (hroom : ∀ i, i < t.length + 1 →
      ((s.core h.core).desc 15).inRam ((s.core h.core).sp.toNat - 1 - i) = true ∧
        (s.core h.core).sp.toNat - 1 - i < ((s.core h.core).desc 15).limit) :
    izAccEnd h.core (izPush h.core (v :: t) (s.core h.core).sp.toNat ⟨s.latched h, h.replies, 0⟩) = s.pushed h (v :: t) := by
  have hdesc : ((s.latched h).core h.core).desc 15 = (s.core h.core).desc 15 := by rw [latched_core_same]; rfl
  rw [izPush_ram _ _ _ _ _ _ (by rw [hdesc]; exact hroom), hdesc]
  unfold State.pushed
  rw [latched_core_same]
  rfl

theorem izPush_pushed_one {v : Nat} (hlimit : (s.core h.core).sp.toNat - 1 < ((s.core h.core).desc 15).limit)
    (hram : ((s.core h.core).desc 15).inRam ((s.core h.core).sp.toNat - 1) = true) :
    izAccEnd h.core (izPush h.core [v] (s.core h.core).sp.toNat ⟨s.latched h, h.replies, 0⟩) = s.pushed h [v] := by
  refine izPush_pushed fun i hi => ?_
  rw [show i = 0 by simpa using hi]
  exact ⟨hram, hlimit⟩

/-- A load of one word from the stack of a core that issues (R416). -/
theorem izLoad_latched {w : Nat} (hram : ((s.core h.core).desc 15).inRam w = true) :
    izLoad h.core ((s.core h.core).desc 15) w 1 ⟨s.latched h, h.replies, 0⟩ =
      ([((s.core h.core).ramWord ((s.core h.core).desc 15) w).toNat], ⟨s.latched h, h.replies, 0⟩) := by
  rw [izLoad_ram_one hram, latched_core_same]
  rfl

/-- The word pushed last stands at the new sp, and the words before it above. -/
theorem pushedRam_one (d : SegDesc) (v sp : Nat) (r : List (Nat × BitVec 24)) :
    sget zero24 (pushedRam d [v] sp r) (d.ramIndex (sp - 1)) = BitVec.ofNat 24 v := by simp [pushedRam]

theorem pushedRam_three {d : SegDesc} {sp : Nat} (v w x : Nat) (r : List (Nat × BitVec 24)) (hmode : d.mode = 0)
    (hsp : 3 ≤ sp) (h1 : d.inRam (sp - 1) = true) (h2 : d.inRam (sp - 2) = true) (h3 : d.inRam (sp - 3) = true) :
    sget zero24 (pushedRam d [v, w, x] sp r) (d.ramIndex (sp - 1)) = BitVec.ofNat 24 v ∧
      sget zero24 (pushedRam d [v, w, x] sp r) (d.ramIndex (sp - 2)) = BitVec.ofNat 24 w ∧
      sget zero24 (pushedRam d [v, w, x] sp r) (d.ramIndex (sp - 3)) = BitVec.ofNat 24 x := by
  have h12 := ramIndex_inj hmode h1 h2 (by omega)
  have h13 := ramIndex_inj hmode h1 h3 (by omega)
  have h23 := ramIndex_inj hmode h2 h3 (by omega)
  have hsub2 : sp - 1 - 1 = sp - 2 := by omega
  have hsub3 : sp - 2 - 1 = sp - 3 := by omega
  simp [pushedRam, hsub2, hsub3, sget_sset, h12, h13, h23]

/-- The value that a decrement or an increment of sp gives. -/
theorem sp_sub {sp : BitVec 24} {n : Nat} (hn : n ≤ sp.toNat) : BitVec.ofNat 24 (sp.toNat - n) = sp - BitVec.ofNat 24 n := by
  apply BitVec.eq_of_toNat_eq
  have := sp.isLt
  simp only [BitVec.toNat_ofNat, BitVec.toNat_sub]
  omega

theorem sp_add (sp : BitVec 24) (n : Nat) : BitVec.ofNat 24 (sp.toNat + n) = sp + BitVec.ofNat 24 n := by
  rw [BitVec.ofNat_add, BitVec.ofNat_toNat, BitVec.setWidth_eq]

/-- sp once an instruction that moves it as its last act has issued. -/
theorem settled_sp {n : Nat} (hi : s.issues h o = true) (hdo : s.iteration h o = .done (izW h.core .sp 1 n u))
    (hstep : ∀ j, (u.core j).stepAsked = (s.core j).stepAsked) :
    ((izIssue h o s).settled h.core).sp = BitVec.ofNat 24 n :=
  settled_of_will views_sp hi hdo (by simpa using hstep) (.inr ⟨nofun, fun _ => nofun⟩)
    (will_izW (q := .sp) _ _ _ _ nofun fun _ => rfl)

/-- The stack once an instruction that pushes has issued. -/
theorem settled_ram {n : Nat} {words : List Nat} (hi : s.issues h o = true)
    (hdo : s.iteration h o = .done (izW h.core .sp 1 n (s.pushed h words))) :
    ((izIssue h o s).settled h.core).ram =
      pushedRam ((s.core h.core).desc 15) words (s.core h.core).sp.toNat (s.core h.core).ram := by
  refine (complete_ram _).trans ((izIssue_ram hi hdo (by simp)).trans ?_)
  rw [izW_core, pushed_core]
  rfl

/-! ## A push that an entry cannot follow -/

/-- A core whose entry finds no room on the stack stops (R433). -/
theorem izEnter_double {k n : Nat} {trap : Option (Nat × Option (Nat × Nat))} {rep : List Nat}
    (hsp : (s.core k).complete.sp.toNat = 0) : izEnter k n trap rep s =
      izDouble k (s.setCore k { (s.core k).complete with issuing := false }) := by
  have hwords : 0 < (Core.entryWords { (s.core k).complete with issuing := false }).length := by
    unfold Core.entryWords
    dsimp only
    split <;> simp
  unfold izEnter
  dsimp only
  rw [hsp, if_pos hwords]

theorem izDouble_shows (k : Nat) (s : State) :
    (izDouble k s).getF (SEQk_STAT_STATE k) = 2 ∧ (izDouble k s).getF (SEQk_STAT_DBL k) = 1 := by
  unfold izDouble
  refine ⟨?_, ?_⟩
  · rw [getF_setF_apart _ _ _ _ (.inl (by simp [SEQk_STAT_STATE, SEQk_PC_PC, SEQk_STAT, SEQk_PC])),
      getF_setF_apart _ _ _ _ (.inr (by simp [SEQk_STAT_STATE, SEQk_STAT_DBL])),
      getF_setF_fits _ _ _ (by simp [SEQk_STAT_STATE]) (by simp [SEQk_STAT_STATE])]
  · rw [getF_setF_apart _ _ _ _ (.inl (by simp [SEQk_STAT_DBL, SEQk_PC_PC, SEQk_STAT, SEQk_PC])),
      getF_setF_fits _ _ _ (by simp [SEQk_STAT_DBL]) (by simp [SEQk_STAT_DBL])]

/-- A trap without room to enter its handler stops the core with DBL (R433). -/
theorem izIssue_double {cause : Nat} {at_ : Option (Nat × Nat)} (hi : s.issues h o = true)
    (hdo : s.iteration h o = .trap cause at_) (hsp : ((s.settled h.core).sp.toNat == 0) = true) :
    (izIssue h o s).getF (SEQk_STAT_STATE h.core) = 2 ∧ (izIssue h o s).getF (SEQk_STAT_DBL h.core) = 1 := by
  obtain ⟨-, -, -, -, hidle⟩ := issues_iff.mp hi
  have hzero : ((s.latched h).core h.core).complete.sp.toNat = 0 := by
    rw [latched_core_same, complete_with_issue]
    exact beq_iff_eq.mp hsp
  have hacted : s.acted h o =
      izDouble h.core ((s.latched h).setCore h.core { ((s.latched h).core h.core).complete with issuing := false }) := by
    have htrap : s.acted h o = izTrap h.core cause at_ h.replies (s.latched h) := by
      unfold State.acted
      rw [hdo]
      rfl
    rw [htrap, izTrap, izEnter_double hzero]
  have hstate := izDouble_shows h.core
    ((s.latched h).setCore h.core { ((s.latched h).core h.core).complete with issuing := false })
  rw [izIssue_acts hi, hacted]
  have hhalt : ∀ v : State, v.getF (SEQk_STAT_STATE h.core) = 2 → haltTry h.core v = v := by
    intro v hv
    unfold haltTry State.seqState
    rw [hv]
    simp
  rw [hhalt _ hstate.1, runSteps_idle]
  · exact hstate
  · intro j hj
    have hasked : ((izDouble h.core ((s.latched h).setCore h.core
        { ((s.latched h).core h.core).complete with issuing := false })).core j).stepAsked = (s.core j).stepAsked := by
      unfold izDouble
      rw [setF_core, setF_core, setF_core, setCore_stepAsked _ _ _ _ (by simp), latched_stepAsked]
    rw [hasked, hidle j hj]

end

/-! ## The statements -/

/-- Settles O9. -/
theorem izhamStack : Obligations.IzhamStack := by
  unfold Obligations.IzhamStack
  refine ⟨?_, ?_, ?_, ?_, ?_, ?_, ?_, ?_⟩
  · intro s h x y hi hsp hlimit hram
    simp only [decide_eq_true_eq] at hsp hlimit
    have hdo : s.iteration h (.fr .push x y) = .done (izW h.core .sp 1 ((s.core h.core).sp.toNat - 1)
        (s.pushed h [((s.core h.core).reg y.toNat).toNat])) := by
      rw [iteration_fr, izFr, latched_core_same]
      refine (if_neg (Nat.ne_of_gt hsp)).trans ?_
      rw [← izPush_pushed_one hlimit hram]
      rfl
    refine ⟨_, rfl, (settled_sp hi hdo (by simp)).trans (sp_sub hsp), ?_⟩
    rw [ramWord_eq, settled_ram hi hdo, pushedRam_one, BitVec.ofNat_toNat, BitVec.setWidth_eq]
  · intro s h x y hi hlimit hram
    simp only [decide_eq_true_eq] at hlimit
    have hdo : s.iteration h (.fr .pop x y) = .done (izW h.core .sp 1 ((s.core h.core).sp.toNat + 1) (izW h.core (.g x.toNat) 4
        ((s.core h.core).ramWord ((s.core h.core).desc 15) (s.core h.core).sp.toNat).toNat (s.latched h))) := by
      have hload := izLoad_latched (s := s) (h := h) hram
      rw [iteration_fr, izFr, latched_core_same]
      refine (if_neg (Nat.not_le.mpr hlimit)).trans ?_
      exact congrArg (fun r : List Nat × IzAcc => IzRes.done (izW h.core .sp 1 ((s.core h.core).sp.toNat + 1)
        (izW h.core (.g x.toNat) 4 (r.1.headD 0) (izAccEnd h.core r.2)))) hload
    refine ⟨_, rfl, (settled_sp hi hdo (by simp)).trans (sp_add _ 1), ?_⟩
    have hreg := settled_reg (n := x.toNat) hi hdo (by simp) fun hx => by
      rw [izW_core]
      exact will_later_other _ _ _ nofun (views_reg _) (will_izW_reg _ _ _ _ _ hx)
    rw [hreg, BitVec.ofNat_toNat, BitVec.setWidth_eq]
    by_cases hx : x = 0
    · simp [hx]
    · rw [if_neg hx, if_neg (fun h0 : x.toNat = 0 => hx (BitVec.eq_of_toNat_eq h0))]
  · intro s h x y hi hthree hlimit h1 h2 h3 hmode
    simp only [decide_eq_true_eq, beq_iff_eq] at hthree hlimit hmode
    have hdo : s.iteration h (.fr .pusha x y) = .done (izW h.core .sp 1 ((s.core h.core).sp.toNat - 3)
        (s.pushed h [accWord ((s.core h.core).acc y.toNat) 2, accWord ((s.core h.core).acc y.toNat) 1,
          accWord ((s.core h.core).acc y.toNat) 0])) := by
      have hroom : ∀ i, i < [accWord ((s.core h.core).acc y.toNat) 1, accWord ((s.core h.core).acc y.toNat) 0].length + 1 →
          ((s.core h.core).desc 15).inRam ((s.core h.core).sp.toNat - 1 - i) = true ∧
            (s.core h.core).sp.toNat - 1 - i < ((s.core h.core).desc 15).limit := by
        intro i hi
        have hthree' : i = 0 ∨ i = 1 ∨ i = 2 := by simp at hi; omega
        refine ⟨?_, by omega⟩
        rcases hthree' with rfl | rfl | rfl
        · exact h1
        · exact h2
        · exact h3
      rw [iteration_fr, izFr, latched_core_same]
      refine (if_neg (Nat.not_lt.mpr hthree)).trans ?_
      rw [← izPush_pushed hroom]
      rfl
    obtain ⟨hw2, hw1, hw0⟩ := pushedRam_three (accWord ((s.core h.core).acc y.toNat) 2) (accWord ((s.core h.core).acc y.toNat) 1)
      (accWord ((s.core h.core).acc y.toNat) 0) (s.core h.core).ram hmode hthree h1 h2 h3
    refine ⟨_, rfl, (settled_sp hi hdo (by simp)).trans (sp_sub hthree), ?_, ?_, ?_⟩
    · rw [ramWord_eq, settled_ram hi hdo, hw2]
    · rw [ramWord_eq, settled_ram hi hdo, hw1]
    · rw [ramWord_eq, settled_ram hi hdo, hw0]
  · intro s h x y hi hlimit h0 h1 h2 hmode
    simp only [decide_eq_true_eq] at hlimit
    have hdo : s.iteration h (.fr .popa x y) = .done (izW h.core .sp 1 ((s.core h.core).sp.toNat + 3) (izW h.core (.a y.toNat) 3
        (((s.core h.core).ramWord ((s.core h.core).desc 15) (s.core h.core).sp.toNat).toNat
          + 2 ^ 24 * ((s.core h.core).ramWord ((s.core h.core).desc 15) ((s.core h.core).sp.toNat + 1)).toNat
          + 2 ^ 48 * (((s.core h.core).ramWord ((s.core h.core).desc 15) ((s.core h.core).sp.toNat + 2)).toNat % 256))
        (s.latched h))) := by
      have hload0 := izLoad_latched (s := s) (h := h) h0
      have hload1 := izLoad_latched (s := s) (h := h) h1
      have hload2 := izLoad_latched (s := s) (h := h) h2
      rw [iteration_fr, izFr, latched_core_same]
      refine (if_neg (Nat.not_lt.mpr hlimit)).trans ?_
      change IzRes.done (izW h.core .sp 1 _ (izW h.core (.a y.toNat) 3
        ((izLoad h.core ((s.core h.core).desc 15) (s.core h.core).sp.toNat 1 ⟨s.latched h, h.replies, 0⟩).1.headD 0
          + 2 ^ 24 * (izLoad h.core ((s.core h.core).desc 15) ((s.core h.core).sp.toNat + 1) 1
            (izLoad h.core ((s.core h.core).desc 15) (s.core h.core).sp.toNat 1 ⟨s.latched h, h.replies, 0⟩).2).1.headD 0
          + 2 ^ 48 * ((izLoad h.core ((s.core h.core).desc 15) ((s.core h.core).sp.toNat + 2) 1
            (izLoad h.core ((s.core h.core).desc 15) ((s.core h.core).sp.toNat + 1) 1
              (izLoad h.core ((s.core h.core).desc 15) (s.core h.core).sp.toNat 1 ⟨s.latched h, h.replies, 0⟩).2).2).1.headD 0
            % 256))
        (izAccEnd h.core (izLoad h.core ((s.core h.core).desc 15) ((s.core h.core).sp.toNat + 2) 1
            (izLoad h.core ((s.core h.core).desc 15) ((s.core h.core).sp.toNat + 1) 1
              (izLoad h.core ((s.core h.core).desc 15) (s.core h.core).sp.toNat 1 ⟨s.latched h, h.replies, 0⟩).2).2).2))) = _
      rw [hload0]
      dsimp only
      rw [hload1]
      dsimp only
      rw [hload2]
      rfl
    refine ⟨_, rfl, (settled_sp hi hdo (by simp)).trans (sp_add _ 3), ?_⟩
    refine settled_of_will (views_acc y.toNat) hi hdo (by simp) (.inr ⟨nofun, fun _ => nofun⟩) ?_
    rw [izW_core]
    refine will_later_other _ _ _ nofun (views_acc _) (will_izW (q := .a y.toNat) _ _ _ _ nofun fun b => ?_)
    simp [Core.put, Core.acc]
  · intro s h x y hi hlimit hok hst
    have hdo : s.iteration h (.fr .pop x y) = .trap 4 none := by
      rw [iteration_fr, izFr, latched_core_same]
      exact if_pos (of_decide_eq_true hlimit)
    obtain ⟨hentered, htrapped, -⟩ := izIssue_trap hi hdo (by omega) hst hok
    exact ⟨_, rfl, hentered, htrapped⟩
  · intro s h x y hi hlimit hok hst
    have hdo : s.iteration h (.fr .popa x y) = .trap 4 none := by
      rw [iteration_fr, izFr, latched_core_same]
      exact if_pos (of_decide_eq_true hlimit)
    obtain ⟨hentered, htrapped, -⟩ := izIssue_trap hi hdo (by omega) hst hok
    exact ⟨_, rfl, hentered, htrapped⟩
  · intro s h x y hi hzero hsettled
    have hdo : s.iteration h (.fr .push x y) = .trap 4 none := by
      rw [iteration_fr, izFr, latched_core_same]
      exact if_pos (beq_iff_eq.mp hzero)
    exact ⟨_, rfl, izIssue_double hi hdo hsettled⟩
  · intro s h x y hi hzero hsettled
    have hdo : s.iteration h (.fr .pusha x y) = .trap 4 none := by
      rw [iteration_fr, izFr, latched_core_same]
      exact if_pos (by have := beq_iff_eq.mp hzero; change (s.core h.core).sp.toNat < 3; omega)
    exact ⟨_, rfl, izIssue_double hi hdo hsettled⟩

/-- Settles O54. -/
theorem entriesAndEnds : Obligations.EntriesAndEnds := by
  unfold Obligations.EntriesAndEnds
  refine ⟨?_, fun s h => izLexit_leaves, ?_⟩
  · exact fun s k rep g hlive hrun hboundary hie hgroup hrep hok hhalt =>
      interruptEntry_enters rep hlive hrun hboundary hie hgroup hrep hok hhalt
  · intro s g n pay r hrx hhdr hst _ _ hpay _
    exact slPacket_received (beq_iff_eq.mp hrx) (beq_iff_eq.mp hhdr) (beq_iff_eq.mp hst) (by simpa using hpay)

end Sys2Proof.Machine
end

section
/-! SUPPORT. Branches, calls and returns (R421, R422, R429, R432, R450): the target that waits for its delay slot, the
address that a call pushes, and what RTI takes from its frame. -/

set_option Elab.async false

namespace Sys2Proof.Machine

/-! ## Branches -/

section
variable {s u : State} {h : IzHead} {o : IzOp}

theorem stays_true (r : IzReg) : Stays r fun _ => True := ⟨fun _ _ => trivial, fun _ _ => trivial, fun _ _ _ _ _ => trivial,
  fun _ _ _ _ _ _ _ => trivial, fun _ _ _ _ _ => trivial⟩

/-- A branch that pushes nothing leaves its target for the delay slot, which follows (R422). -/
theorem izIssue_branch {target : Option Nat} (hi : s.issues h o = true)
    (hdo : s.iteration h o = .branch target (s.latched h)) :
    ((izIssue h o s).core h.core).delay = some (target.map fun t => BitVec.ofNat 24 t) ∧
      ((izIssue h o s).core h.core).pc = BitVec.ofNat 24 (s.afterOp h o) := by
  obtain ⟨-, hdelay, hpc, -⟩ := izIssue_branch_stays (stays_true .sp) hi hdo (by simp) trivial
  exact ⟨hdelay, hpc⟩

/-- The address after an instruction of n bytes. -/
theorem afterOp_of_opLen {n : Nat} (hlen : opLen o = n) : s.afterOp h o = (s.core h.core).pc.toNat + preLen h.pre + n := by
  rw [State.afterOp, hlen, Nat.add_assoc]

/-- The target of a displacement is counted modulo 2^24 (R450). -/
theorem ofNat_dispTarget (an : Nat) (disp : BitVec 16) :
    BitVec.ofNat 24 (dispTarget an disp) = BitVec.ofInt 24 ((an : Int) + disp.toInt) := by
  apply BitVec.eq_of_toNat_eq
  unfold dispTarget
  rw [BitVec.toNat_ofNat, BitVec.toNat_ofInt]
  have hpos : 0 ≤ ((an : Int) + disp.toInt) % 2 ^ 24 := Int.emod_nonneg _ (by norm_num)
  have hlt : ((an : Int) + disp.toInt) % 2 ^ 24 < 2 ^ 24 := Int.emod_lt_of_pos _ (by norm_num)
  norm_num at hpos hlt ⊢
  omega

/-- The target of a conditional branch, by its condition (R450). -/
theorem branchTarget_eq {cond : Bool} {P : Prop} [Decidable P] (an : Nat) (disp : BitVec 16) (hcond : cond = true ↔ P) :
    ((if cond = true then some (dispTarget an disp) else none).map fun t => BitVec.ofNat 24 t) =
      if P then some (BitVec.ofInt 24 ((an : Int) + disp.toInt)) else none := by
  by_cases hP : P
  · rw [if_pos hP, if_pos (hcond.mpr hP), Option.map_some, ofNat_dispTarget]
  · rw [if_neg hP, if_neg fun hc => hP (hcond.mp hc), Option.map_none]

/-- A branch on two registers (R450). -/
theorem izIssue_fb {cc : IzCc} {a b : BitVec 4} {disp : BitVec 16} {P : Prop} [Decidable P]
    (hi : s.issues h (.fb cc a b disp) = true)
    (hcond : izCond cc ((s.core h.core).reg a.toNat) ((s.core h.core).reg b.toNat) = true ↔ P) :
    ((izIssue h (.fb cc a b disp) s).core h.core).delay =
        some (if P then some (BitVec.ofInt 24 (((s.core h.core).pc.toNat + preLen h.pre + 4) + disp.toInt)) else none) ∧
      ((izIssue h (.fb cc a b disp) s).core h.core).pc = BitVec.ofNat 24 ((s.core h.core).pc.toNat + preLen h.pre + 4) := by
  have hlen : s.afterOp h (.fb cc a b disp) = (s.core h.core).pc.toNat + preLen h.pre + 4 := afterOp_of_opLen rfl
  have hdo : s.iteration h (.fb cc a b disp) = .branch (if izCond cc ((s.core h.core).reg a.toNat)
      ((s.core h.core).reg b.toNat) then some (dispTarget (s.afterOp h (.fb cc a b disp)) disp) else none) (s.latched h) := by
    unfold State.iteration izDo
    rw [latched_core_same]
    rfl
  obtain ⟨hdelay, hpc⟩ := izIssue_branch hi hdo
  rw [branchTarget_eq _ _ hcond, hlen] at hdelay
  rw [hlen] at hpc
  exact ⟨by push_cast at hdelay; exact hdelay, hpc⟩

/-- A branch on a register and an immediate (R450). -/
theorem izIssue_fbi {cc : IzCc} {a z : BitVec 4} {imm : BitVec 8} {disp : BitVec 16} {P : Prop} [Decidable P]
    (hi : s.issues h (.fbi cc a z imm disp) = true)
    (hcond : izCond cc ((s.core h.core).reg a.toNat) (immOf h.pre imm) = true ↔ P) :
    ((izIssue h (.fbi cc a z imm disp) s).core h.core).delay =
        some (if P then some (BitVec.ofInt 24 (((s.core h.core).pc.toNat + preLen h.pre + 5) + disp.toInt)) else none) ∧
      ((izIssue h (.fbi cc a z imm disp) s).core h.core).pc = BitVec.ofNat 24 ((s.core h.core).pc.toNat + preLen h.pre + 5) := by
  have hlen : s.afterOp h (.fbi cc a z imm disp) = (s.core h.core).pc.toNat + preLen h.pre + 5 := afterOp_of_opLen rfl
  have hdo : s.iteration h (.fbi cc a z imm disp) = .branch (if izCond cc ((s.core h.core).reg a.toNat) (immOf h.pre imm)
      then some (dispTarget (s.afterOp h (.fbi cc a z imm disp)) disp) else none) (s.latched h) := by
    unfold State.iteration izDo
    rw [latched_core_same]
    rfl
  obtain ⟨hdelay, hpc⟩ := izIssue_branch hi hdo
  rw [branchTarget_eq _ _ hcond, hlen] at hdelay
  rw [hlen] at hpc
  exact ⟨by push_cast at hdelay; exact hdelay, hpc⟩

/-! ## Calls and returns -/

/-- A branch that moves sp as its last act. -/
theorem izIssue_branch_sp {target n : Nat} (hi : s.issues h o = true)
    (hdo : s.iteration h o = .branch (some target) (izW h.core .sp 1 n u))
    (hstep : ∀ j, (u.core j).stepAsked = (s.core j).stepAsked) :
    ((izIssue h o s).core h.core).delay = some (some (BitVec.ofNat 24 target)) ∧
      ((izIssue h o s).settled h.core).sp = BitVec.ofNat 24 n ∧
      ((izIssue h o s).settled h.core).ram = (u.core h.core).ram := by
  obtain ⟨hwill, hdelay, -, hram⟩ := izIssue_branch_stays (will_stays views_sp (BitVec.ofNat 24 n)) hi hdo
    (by simpa using hstep) (will_izW (q := .sp) _ _ _ _ nofun fun _ => rfl)
  refine ⟨hdelay, complete_will views_sp hwill, (complete_ram _).trans (hram.trans ?_)⟩
  rw [izW_core]
  unfold Core.later
  split <;> rfl

/-- CALL and CALLR push the return address and branch (R421, R422). -/
theorem izIssue_call {target : Nat} (hi : s.issues h o = true)
    (hdo : s.iteration h o = izCall h.core target ((s.core h.core).after (s.afterOp h o)) h.replies (s.latched h))
    (hsp : 0 < (s.core h.core).sp.toNat) (hlimit : (s.core h.core).sp.toNat - 1 < ((s.core h.core).desc 15).limit)
    (hram : ((s.core h.core).desc 15).inRam ((s.core h.core).sp.toNat - 1) = true) :
    ((izIssue h o s).core h.core).delay = some (some (BitVec.ofNat 24 target)) ∧
      ((izIssue h o s).settled h.core).sp = (s.core h.core).sp - 1 ∧
      ((izIssue h o s).settled h.core).ramWord ((s.core h.core).desc 15) ((s.core h.core).sp.toNat - 1) =
        BitVec.ofNat 24 ((s.core h.core).after (s.afterOp h o)) := by
  have hcall : s.iteration h o = .branch (some target) (izW h.core .sp 1 ((s.core h.core).sp.toNat - 1)
      (s.pushed h [(s.core h.core).after (s.afterOp h o)])) := by
    rw [hdo, izCall, latched_core_same]
    refine (if_neg (Nat.ne_of_gt hsp)).trans ?_
    rw [← izPush_pushed_one hlimit hram]
  obtain ⟨hdelay, hsettled, hstack⟩ := izIssue_branch_sp hi hcall (by simp)
  refine ⟨hdelay, hsettled.trans (sp_sub hsp), ?_⟩
  rw [ramWord_eq, hstack, pushed_core, pushedRam_one]

/-! ## RTI -/

/-- A value for SW leaves what the other registers are to read. -/
theorem will_izSwPut_other {α : Type} {π : Core → α} {r : IzReg} {x : α} (k d e v : Nat) (early : Bool) (s : State)
    (hπ : Views π r) (hr : r ≠ .ie ∧ r ≠ .ldepth ∧ r ≠ .mflt ∧ ∀ n, r ≠ .aov n) (hwill : (s.core k).Will r π x) :
    ((izSwPut k d e v early s).core k).Will r π x := by
  obtain ⟨hie, hldepth, hmflt, haov⟩ := hr
  rw [izSwPut_core]
  have skip : ∀ {q : IzReg} {c : Core} (d w : Nat) (b : Bool), homeReg q ≠ r → c.Will r π x → (c.later q d w b).Will r π x :=
    fun d w b hq hc => will_later_other d w b hq hπ hc
  have hsw := skip (q := .mflt) e (bitsOf v 9 7) false hmflt.symm (skip (q := .ldepth) e (bitsOf v 12 10) false hldepth.symm
    (skip (q := .ie) d (v / 2 ^ 23 % 2) early hie.symm hwill))
  exact skip (q := .aov 3) _ _ _ (haov 3).symm (skip (q := .aov 2) _ _ _ (haov 2).symm
    (skip (q := .aov 1) _ _ _ (haov 1).symm (skip (q := .aov 0) _ _ _ (haov 0).symm hsw)))

/-- RTI continues at its PC word x: a REP sequence that the SW word w interrupted goes on, and so does a delay slot, of the
target word y (R422, R429, R432). -/
def Core.returned (w x y : BitVec 24) (c : Core) : Core :=
  { c with
    pc := x
    rep := if w.getLsbD 21 then some (bitsOf w.toNat 20 13 + 1) else none
    delay := if w.getLsbD 22 then some (some y) else none }

/-- The state in which RTI has taken the SW word w of its frame. -/
def State.swTaken (s : State) (h : IzHead) (w : BitVec 24) : State :=
  izSwPut h.core 2 1 w.toNat false (izW h.core .sp 1 ((s.core h.core).sp.toNat + if w.getLsbD 22 then 3 else 2) (s.latched h))

/-- The state that RTI leaves. -/
def State.returned (s : State) (h : IzHead) (w x y : BitVec 24) : State :=
  (s.swTaken h w).setCore h.core (((s.swTaken h w).core h.core).returned w x y)

@[simp] theorem returned_pc (w x y : BitVec 24) (c : Core) : (c.returned w x y).pc = x := rfl
@[simp] theorem returned_rep (w x y : BitVec 24) (c : Core) :
    (c.returned w x y).rep = if w.getLsbD 21 then some (bitsOf w.toNat 20 13 + 1) else none := rfl
@[simp] theorem returned_delay (w x y : BitVec 24) (c : Core) :
    (c.returned w x y).delay = if w.getLsbD 22 then some (some y) else none := rfl

@[simp] theorem returned_asked (w x y : BitVec 24) (c : Core) : (c.returned w x y).stepAsked = c.stepAsked := rfl
@[simp] theorem returned_pend (w x y : BitVec 24) (c : Core) : (c.returned w x y).pend = c.pend := rfl

theorem returned_same (w x y : BitVec 24) (c : Core) : c.SameRegs (c.returned w x y) :=
  ⟨rfl, rfl, rfl, rfl, rfl, rfl, rfl, rfl, rfl, rfl, rfl, rfl, rfl⟩

theorem returned_core (s : State) (h : IzHead) (w x y : BitVec 24) :
    (s.returned h w x y).core h.core = ((s.swTaken h w).core h.core).returned w x y := core_setCore_same ..

theorem returned_stepAsked (s : State) (h : IzHead) (w x y : BitVec 24) (j : Nat) :
    ((s.returned h w x y).core j).stepAsked = (s.core j).stepAsked := by
  refine (setCore_stepAsked (s.swTaken h w) h.core j (((s.swTaken h w).core h.core).returned w x y)
    (returned_asked ..)).trans ?_
  unfold State.swTaken
  rw [izSwPut_stepAsked, izW_stepAsked, latched_stepAsked]

/-- RTI whose frame loads as the words w, x and y (R432). -/
theorem izRtiDo_loaded {k : Nat} {rep : List Nat} {sp w x y : BitVec 24} {sd : SegDesc}
    (hload0 : izLoad k sd sp.toNat 1 ⟨s, rep, 0⟩ = ([w.toNat], ⟨s, rep, 0⟩))
    (hload1 : izLoad k sd (sp.toNat + 1) 1 ⟨s, rep, 0⟩ = ([x.toNat], ⟨s, rep, 0⟩))
    (hload2 : izLoad k sd (sp.toNat + 2) 1 ⟨s, rep, 0⟩ = ([y.toNat], ⟨s, rep, 0⟩)) (hsw : swOk w.toNat = true)
    (hlimit : sp.toNat + (if w.getLsbD 22 then 3 else 2) ≤ sd.limit) (hsp : (s.core k).sp = sp)
    (hdesc : (s.core k).desc 15 = sd) :
    izRtiDo k rep s = .rti ((izSwPut k 2 1 w.toNat false (izW k .sp 1 (sp.toNat + if w.getLsbD 22 then 3 else 2) s)).setCore k
      (((izSwPut k 2 1 w.toNat false (izW k .sp 1 (sp.toNat + if w.getLsbD 22 then 3 else 2) s)).core k).returned w x y)) := by
  have hw : w.toNat.testBit 22 = w.getLsbD 22 := rfl
  have hfirst : ¬sd.limit ≤ sp.toNat := by split at hlimit <;> omega
  unfold izRtiDo
  extract_lets c sp' sd' r0 v n r1 r2 s1
  have hsp' : sp' = sp.toNat := congrArg BitVec.toNat hsp
  have hsd' : sd' = sd := hdesc
  clear_value sp' sd'
  subst hsp' hsd'
  rw [if_neg hfirst]
  have hr0 : r0 = ([w.toNat], ⟨s, rep, 0⟩) := hload0
  have hv : v = w.toNat := congrArg (fun r : List Nat × IzAcc => r.1.headD 0) hr0
  have hn : n = if w.getLsbD 22 then 3 else 2 := by rw [← hw, ← hv]
  clear_value r0 v n
  subst hr0 hv
  rw [if_neg (by simp [hsw]), if_neg (by rw [hn]; exact Nat.not_lt.mpr hlimit)]
  have hr1 : r1 = ([x.toNat], ⟨s, rep, 0⟩) := hload1
  have hr2 : r2 = if n = 3 then ([y.toNat], ⟨s, rep, 0⟩) else ([], ⟨s, rep, 0⟩) := by
    rw [← hload2, show r2 = if n = 3 then izLoad k sd' (sp.toNat + 2) 1 r1.2 else ([], r1.2) from rfl, hr1]
  have hs1 : s1 = izSwPut k 2 1 w.toNat false (izW k .sp 1 (sp.toNat + if w.getLsbD 22 then 3 else 2) s) := by
    have hacc : r2.2 = ⟨s, rep, 0⟩ := by rw [hr2]; split <;> rfl
    rw [show s1 = izSwPut k 2 1 w.toNat false (izW k .sp 1 (sp.toNat + n) (izAccEnd k r2.2)) from rfl, hacc, hn]
    rfl
  rw [← hs1]
  clear_value r1 r2 s1
  subst hr1 hr2 hn
  by_cases htaken : w.getLsbD 22 = true
  · simp only [htaken, if_true, List.headD_cons, BitVec.ofNat_toNat, BitVec.setWidth_eq, Core.returned]
    rfl
  · simp only [htaken, Bool.false_eq_true, if_false, Nat.reduceEqDiff, List.headD_cons, BitVec.ofNat_toNat,
      BitVec.setWidth_eq, Core.returned]
    rfl

/-- RTI from a frame in the local data RAM that its segment holds (R432). -/
theorem iteration_rti (hsw : swOk ((s.core h.core).ramWord ((s.core h.core).desc 15) (s.core h.core).sp.toNat).toNat = true)
    (hlimit : (s.core h.core).sp.toNat + (if ((s.core h.core).ramWord ((s.core h.core).desc 15)
      (s.core h.core).sp.toNat).getLsbD 22 then 3 else 2) ≤ ((s.core h.core).desc 15).limit)
    (h0 : ((s.core h.core).desc 15).inRam (s.core h.core).sp.toNat = true)
    (h1 : ((s.core h.core).desc 15).inRam ((s.core h.core).sp.toNat + 1) = true)
    (h2 : ((s.core h.core).desc 15).inRam ((s.core h.core).sp.toNat + 2) = true) :
    s.iteration h (.f0 .rti) = .rti (s.returned h
      ((s.core h.core).ramWord ((s.core h.core).desc 15) (s.core h.core).sp.toNat)
      ((s.core h.core).ramWord ((s.core h.core).desc 15) ((s.core h.core).sp.toNat + 1))
      ((s.core h.core).ramWord ((s.core h.core).desc 15) ((s.core h.core).sp.toNat + 2))) := by
  have hsp : ((s.latched h).core h.core).sp = (s.core h.core).sp := by rw [latched_core_same]
  have hdesc : ((s.latched h).core h.core).desc 15 = (s.core h.core).desc 15 := by rw [latched_core_same]; rfl
  refine (izRtiDo_loaded (izLoad_latched h0) (izLoad_latched h1) (izLoad_latched h2) hsw hlimit hsp hdesc).trans ?_
  rfl

/-- What RTI does to a core that issues it. -/
theorem izIssue_rti {w x y : BitVec 24} (hi : s.issues h (.f0 .rti) = true)
    (hdo : s.iteration h (.f0 .rti) = .rti (s.returned h w x y)) :
    ((izIssue h (.f0 .rti) s).core h.core).pc = x ∧
      ((izIssue h (.f0 .rti) s).settled h.core).sp =
        BitVec.ofNat 24 ((s.core h.core).sp.toNat + if w.getLsbD 22 then 3 else 2) ∧
      ((izIssue h (.f0 .rti) s).settled h.core).ie = w.getLsbD 23 ∧
      ((izIssue h (.f0 .rti) s).settled h.core).ldepth = bitsOf w.toNat 12 10 ∧
      ((izIssue h (.f0 .rti) s).core h.core).rep = (if w.getLsbD 21 then some (bitsOf w.toNat 20 13 + 1) else none) ∧
      ((izIssue h (.f0 .rti) s).core h.core).delay = (if w.getLsbD 22 then some (some y) else none) := by
  have hacted : s.acted h (.f0 .rti) = izSlot h.core (s.returned h w x y) := by
    unfold State.acted
    rw [hdo]
    rfl
  have hissue : izIssue h (.f0 .rti) s = haltTry h.core (izSlot h.core (s.returned h w x y)) := by
    rw [izIssue_eq hi, hacted]
    intro j
    rw [hacted, izSlot_stepAsked, returned_stepAsked]
  have hcore : (izSlot h.core (s.returned h w x y)).core h.core =
      { (((s.swTaken h w).core h.core).returned w x y).tick with issuing := false } := by
    rw [izSlot_core, returned_core]
  obtain ⟨hie, hldepth, -, -⟩ := will_izSwPut h.core 2 1 w.toNat false (izW h.core .sp 1
    ((s.core h.core).sp.toNat + if w.getLsbD 22 then 3 else 2) (s.latched h))
  have hsp := will_izSwPut_other h.core 2 1 w.toNat false _ views_sp (by simp) (will_izW (q := .sp) h.core 1
    ((s.core h.core).sp.toNat + if w.getLsbD 22 then 3 else 2) (s.latched h) nofun fun _ => rfl)
  rw [hissue]
  have hread : ∀ {α : Type} {π : Core → α} {r : IzReg} {v : α}, Views π r → ((s.swTaken h w).core h.core).Will r π v →
      π ((haltTry h.core (izSlot h.core (s.returned h w x y))).settled h.core) = v := by
    intro α π r v hπ hwill
    refine complete_will hπ ?_
    refine haltTry_keeps (P := fun c => c.Will r π v) (fun c hc => will_complete hπ hc) ?_
    rw [hcore]
    have htick := will_tick hπ (will_of_same hπ (returned_pend w x y _) (returned_same w x y _) hwill)
    generalize (((s.swTaken h w).core h.core).returned w x y).tick = c at htick
    exact will_of_same (c := c) hπ rfl ⟨rfl, rfl, rfl, rfl, rfl, rfl, rfl, rfl, rfl, rfl, rfl, rfl, rfl⟩ htick
  refine ⟨?_, hread views_sp hsp, hread views_ie hie, hread views_ldepth hldepth, ?_, ?_⟩
  · refine haltTry_keeps (P := fun c => c.pc = x) (fun c hc => (complete_pc c).trans hc) ?_
    rw [hcore]
    simp
  · refine haltTry_keeps (P := fun c => c.rep = _) (fun c hc => (complete_rep c).trans hc) ?_
    rw [hcore]
    simp
  · refine haltTry_keeps (P := fun c => c.delay = _) (fun c hc => (complete_delay c).trans hc) ?_
    rw [hcore]
    simp

end

/-! ## The statement -/

/-- Settles O8. -/
theorem izhamBranches : Obligations.IzhamBranches := by
  unfold Obligations.IzhamBranches
  refine ⟨?_, ?_, ?_, ?_, ?_, ?_, ?_, ?_, ?_, ?_, ?_, ?_, ?_, ?_, ?_, ?_, ?_, ?_, ?_⟩
  · exact fun s h a b disp hi => ⟨_, rfl, izIssue_fb hi beq_iff_eq⟩
  · exact fun s h a z imm disp hi => ⟨_, rfl, izIssue_fbi hi beq_iff_eq⟩
  · exact fun s h a b disp hi => ⟨_, rfl, izIssue_fb hi bne_iff_ne⟩
  · exact fun s h a z imm disp hi => ⟨_, rfl, izIssue_fbi hi bne_iff_ne⟩
  · exact fun s h a b disp hi => ⟨_, rfl, izIssue_fb hi decide_eq_true_iff⟩
  · exact fun s h a z imm disp hi => ⟨_, rfl, izIssue_fbi hi decide_eq_true_iff⟩
  · exact fun s h a b disp hi => ⟨_, rfl, izIssue_fb hi decide_eq_true_iff⟩
  · exact fun s h a z imm disp hi => ⟨_, rfl, izIssue_fbi hi decide_eq_true_iff⟩
  · exact fun s h a b disp hi => ⟨_, rfl, izIssue_fb hi decide_eq_true_iff⟩
  · exact fun s h a z imm disp hi => ⟨_, rfl, izIssue_fbi hi decide_eq_true_iff⟩
  · exact fun s h a b disp hi => ⟨_, rfl, izIssue_fb hi decide_eq_true_iff⟩
  · exact fun s h a z imm disp hi => ⟨_, rfl, izIssue_fbi hi decide_eq_true_iff⟩
  · intro s h z0 z1 disp hi
    have hlen : s.afterOp h (.br z0 z1 disp) = (s.core h.core).pc.toNat + preLen h.pre + 4 := afterOp_of_opLen rfl
    obtain ⟨hdelay, hpc⟩ := izIssue_branch (target := some (dispTarget (s.afterOp h (.br z0 z1 disp)) disp)) hi rfl
    rw [Option.map_some, ofNat_dispTarget, hlen] at hdelay
    rw [hlen] at hpc
    exact ⟨_, rfl, by push_cast at hdelay; exact hdelay, hpc⟩
  · intro s h dest hi
    have hlen : s.afterOp h (.fj false dest) = (s.core h.core).pc.toNat + preLen h.pre + 4 := afterOp_of_opLen rfl
    obtain ⟨hdelay, hpc⟩ := izIssue_branch (target := some dest.toNat) hi rfl
    rw [Option.map_some, BitVec.ofNat_toNat, BitVec.setWidth_eq] at hdelay
    rw [hlen] at hpc
    exact ⟨_, rfl, hdelay, hpc⟩
  · intro s h x y hi
    have hlen : s.afterOp h (.fr .jmpr x y) = (s.core h.core).pc.toNat + preLen h.pre + 2 := afterOp_of_opLen rfl
    obtain ⟨hdelay, hpc⟩ := izIssue_branch (target := some ((s.core h.core).reg y.toNat).toNat) hi
      (by rw [iteration_fr, izFr, latched_core_same]; rfl)
    rw [Option.map_some, BitVec.ofNat_toNat, BitVec.setWidth_eq] at hdelay
    rw [hlen] at hpc
    exact ⟨_, rfl, hdelay, hpc⟩
  · intro s h dest hi hsp hlimit hram
    have hlen : s.afterOp h (.fj true dest) = (s.core h.core).pc.toNat + preLen h.pre + 4 := afterOp_of_opLen rfl
    obtain ⟨hdelay, hsettled, hword⟩ := izIssue_call (target := dest.toNat) hi rfl (of_decide_eq_true hsp)
      (of_decide_eq_true hlimit) hram
    rw [BitVec.ofNat_toNat, BitVec.setWidth_eq] at hdelay
    rw [hlen] at hword
    exact ⟨_, rfl, hdelay, hsettled, hword⟩
  · intro s h x y hi hsp hlimit hram
    have hlen : s.afterOp h (.fr .callr x y) = (s.core h.core).pc.toNat + preLen h.pre + 2 := afterOp_of_opLen rfl
    obtain ⟨hdelay, hsettled, hword⟩ := izIssue_call (target := ((s.core h.core).reg y.toNat).toNat) hi
      (by rw [iteration_fr, izFr]; rw [latched_core_same]; rfl) (of_decide_eq_true hsp) (of_decide_eq_true hlimit) hram
    rw [BitVec.ofNat_toNat, BitVec.setWidth_eq] at hdelay
    rw [hlen] at hword
    exact ⟨_, rfl, hdelay, hsettled, hword⟩
  · intro s h hi hlimit hram
    have hdo : s.iteration h (.f0 .ret) = .branch
        (some ((s.core h.core).ramWord ((s.core h.core).desc 15) (s.core h.core).sp.toNat).toNat)
        (izW h.core .sp 1 ((s.core h.core).sp.toNat + 1) (s.latched h)) := by
      change izRetDo h.core h.replies (s.latched h) = _
      unfold izRetDo
      rw [latched_core_same]
      refine (if_neg (Nat.not_le.mpr (of_decide_eq_true hlimit))).trans ?_
      exact congrArg (fun r : List Nat × IzAcc => IzRes.branch (some (r.1.headD 0))
        (izW h.core .sp 1 ((s.core h.core).sp.toNat + 1) (izAccEnd h.core r.2))) (izLoad_latched hram)
    obtain ⟨hdelay, hsettled, -⟩ := izIssue_branch_sp hi hdo (by simp)
    rw [BitVec.ofNat_toNat, BitVec.setWidth_eq] at hdelay
    exact ⟨_, rfl, hdelay, hsettled.trans (sp_add _ 1)⟩
  · exact fun s h hi hsw hlimit h0 h1 h2 _ =>
      ⟨_, rfl, izIssue_rti hi (iteration_rti hsw (of_decide_eq_true hlimit) h0 h1 h2)⟩

end Sys2Proof.Machine
end

section
/-! SUPPORT. The accumulator instructions (R409, R428, R448, R452, R453): what an accumulator takes and when its overflow
shows, and the words at two pointers with their steps. -/

set_option Elab.async false

namespace Sys2Proof.Machine

/-! ## Writes of an accumulator -/

section
variable {s u : State} {h : IzHead} {o : IzOp}

/-- The core once an accumulator has taken a result (R452). -/
theorem izAccPut_core (k n : Nat) (sat : Bool) (x : Int) (s : State) : (izAccPut k n sat x s).core k =
    if sat56 x = x then (s.core k).later (.a n) 3 (BitVec.ofInt 56 (if sat then sat56 x else x)).toNat true
    else ((s.core k).later (.a n) 3 (BitVec.ofInt 56 (if sat then sat56 x else x)).toNat true).later (.aov n) 3 1 false := by
  unfold izAccPut
  dsimp only
  split
  · rw [izWE_core]
  · rw [izW_core, izWE_core]

theorem izAccPut_stepAsked (k n j : Nat) (sat : Bool) (x : Int) (s : State) :
    ((izAccPut k n sat x s).core j).stepAsked = (s.core j).stepAsked := by
  unfold izAccPut
  dsimp only
  split
  · rw [izWE_stepAsked]
  · rw [izW_stepAsked, izWE_stepAsked]

/-- A result of an accumulator in flight leaves what the registers read. -/
theorem izAccPut_regs (k n : Nat) (sat : Bool) (x : Int) (s : State) :
    Core.SameRegs (s.core k) ((izAccPut k n sat x s).core k) := by
  rw [izAccPut_core]
  split
  · exact later_regs ..
  · exact (later_regs ..).trans (later_regs ..)

theorem put_acc (n : Nat) (v : BitVec 56) (c : Core) : (Core.put (.a n) v.toNat c).acc n = v := by
  simp [Core.put, Core.acc]

/-- An accumulator takes an exact result, wrapped or saturated (R409). -/
theorem will_izAccPut (k n : Nat) (sat : Bool) (x : Int) (s : State) :
    ((izAccPut k n sat x s).core k).Will (.a n) (fun c => c.acc n)
      (BitVec.ofInt 56 (if sat = true then clampInt (-(2 ^ 55)) (2 ^ 55 - 1) x else x)) := by
  rw [izAccPut_core]
  have htaken := will_later (c := s.core k) (q := .a n) (π := fun c => c.acc n) 3
    (BitVec.ofInt 56 (if sat = true then sat56 x else x)).toNat true nofun fun b => put_acc n _ b
  split
  · exact htaken
  · exact will_later_other _ _ _ nofun (views_acc n) htaken

/-- A result out of range is not its own saturation (R409). -/
theorem sat56_ne {x : Int} (h : x < -(2 ^ 55) ∨ 2 ^ 55 ≤ x) : sat56 x ≠ x := by
  unfold sat56 clampInt
  omega

/-- A result out of range sets AOV (R452). -/
theorem will_izAccPut_aov (k n : Nat) (sat : Bool) {x : Int} (s : State) (hx : x < -(2 ^ 55) ∨ 2 ^ 55 ≤ x) :
    ((izAccPut k n sat x s).core k).Will (.aov n) (fun c => sget noBit c.aov n) true := by
  rw [izAccPut_core, if_neg (sat56_ne hx)]
  exact will_later (q := .aov n) _ _ _ nofun fun b => put_aov n 1 b

/-- An accumulator's result leaves what the other registers are to read. -/
theorem will_izAccPut_other {α : Type} {π : Core → α} {r : IzReg} {v : α} (k n : Nat) (sat : Bool) (x : Int) {s : State}
    (hπ : Views π r) (ha : r ≠ .a n) (haov : r ≠ .aov n) (hs : (s.core k).Will r π v) :
    ((izAccPut k n sat x s).core k).Will r π v := by
  rw [izAccPut_core]
  have hkept := will_later_other (q := .a n) 3 (BitVec.ofInt 56 (if sat = true then sat56 x else x)).toNat true
    (Ne.symm ha) hπ hs
  split
  · exact hkept
  · exact will_later_other _ _ _ (Ne.symm haov) hπ hkept

/-- An instruction whose whole effect is a result of an accumulator. -/
theorem settled_acc {n : Nat} {sat : Bool} {x : Int} (hi : s.issues h o = true)
    (hdo : s.iteration h o = .done (izAccPut h.core n sat x (s.latched h))) :
    ((izIssue h o s).settled h.core).acc n =
        BitVec.ofInt 56 (if sat = true then clampInt (-(2 ^ 55)) (2 ^ 55 - 1) x else x) ∧
      (x < -(2 ^ 55) ∨ 2 ^ 55 ≤ x → sget noBit ((izIssue h o s).settled h.core).aov n = true) := by
  have hstep : ∀ j, ((izAccPut h.core n sat x (s.latched h)).core j).stepAsked = (s.core j).stepAsked := fun j => by
    rw [izAccPut_stepAsked, latched_stepAsked]
  exact ⟨settled_of_will (views_acc n) hi hdo hstep (.inr ⟨nofun, fun _ => nofun⟩) (will_izAccPut ..),
    fun hx => settled_of_will (views_aov n) hi hdo hstep (.inr ⟨nofun, fun _ => nofun⟩) (will_izAccPut_aov _ _ _ _ hx)⟩

/-- The iteration of an accumulator instruction. -/
theorem iteration_fa (op : IzFa) (b1 : BitVec 8) (k : BitVec 2) (x : BitVec 6) : s.iteration h (.fa op b1 k x) =
    izFa h.core op b1 k.toNat x (h.pre.contains .sat) h.replies (s.latched h) := rfl

/-! ## Two pointers -/

/-- A pointer that steps counts modulo 2^24 (R455). -/
theorem ofNat_step (p : BitVec 24) (n : Nat) : BitVec.ofNat 24 ((p.toNat + n) % 2 ^ 24) = p + BitVec.ofNat 24 n := by
  apply BitVec.eq_of_toNat_eq
  simp only [BitVec.toNat_ofNat, BitVec.toNat_add]
  omega

theorem put_ptr (n v : Nat) (c : Core) : (Core.put (.p n) v c).ptr n = BitVec.ofNat 24 v := by simp [Core.put, Core.ptr]

/-- Two pointers step (R455). -/
theorem will_izStep {k m n : Nat} (cnt : Nat) (s : State) (hmn : m ≠ n) :
    ((izStep k m n cnt s).core k).Will (.p m) (fun c => c.ptr m) ((s.core k).ptr m + BitVec.ofNat 24 cnt) ∧
      ((izStep k m n cnt s).core k).Will (.p n) (fun c => c.ptr n) ((s.core k).ptr n + BitVec.ofNat 24 cnt) ∧
      (∀ j, ((izStep k m n cnt s).core j).stepAsked = (s.core j).stepAsked) := by
  unfold izStep
  dsimp only
  rw [if_neg hmn]
  refine ⟨?_, ?_, fun j => by simp⟩
  · rw [izW_core]
    refine will_later_other _ _ _ (by simpa [homeReg] using Ne.symm hmn) (views_ptr m) (will_izW (q := .p m) _ _ _ _ nofun fun b => ?_)
    rw [put_ptr, ofNat_step]
  · refine will_izW (q := .p n) _ _ _ _ nofun fun b => ?_
    rw [put_ptr, ofNat_step]

theorem will_izStep_other {α : Type} {π : Core → α} {r : IzReg} {v : α} {k m n : Nat} (cnt : Nat) {s : State}
    (hπ : Views π r) (hr : ∀ j, r ≠ .p j) (hs : (s.core k).Will r π v) :
    ((izStep k m n cnt s).core k).Will r π v := by
  unfold izStep
  dsimp only
  split
  · rw [izW_core]
    exact will_later_other _ _ _ (hr _).symm hπ hs
  · rw [izW_core, izW_core]
    exact will_later_other _ _ _ (hr _).symm hπ (will_later_other _ _ _ (hr _).symm hπ hs)

/-- An access within LIMIT, aligned where it takes two words, raises nothing (R416). -/
theorem izCheck_none {c : Core} {j w cnt : Nat} (halign : cnt = 2 → w % 2 = 0) (hlimit : w + cnt ≤ (c.desc j).limit) :
    izCheck c j w cnt false = none := by
  unfold izCheck
  dsimp only
  rw [if_neg (by simp only [Bool.and_eq_true, decide_eq_true_eq, not_and]; intro hc; have := halign hc; omega), if_neg]
  simp only [Bool.false_and, Bool.or_false, decide_eq_true_eq]
  omega

/-- The words at two pointers that may be loaded (R453). -/
theorem izPairLoad_may {k m n cnt : Nat} {rep : List Nat}
    (hm : izCheck (s.core k) ((s.core k).bind m) ((s.core k).ptr m).toNat cnt false = none)
    (hn : izCheck (s.core k) ((s.core k).bind n) ((s.core k).ptr n).toNat cnt false = none) :
    izPairLoad k m n cnt s rep =
      .inr ((izLoad k ((s.core k).desc ((s.core k).bind m)) ((s.core k).ptr m).toNat cnt ⟨s, rep, 0⟩).1,
        izLoad k ((s.core k).desc ((s.core k).bind n)) ((s.core k).ptr n).toNat cnt
          (izLoad k ((s.core k).desc ((s.core k).bind m)) ((s.core k).ptr m).toNat cnt ⟨s, rep, 0⟩).2) := by
  unfold izPairLoad
  dsimp only
  rw [hm, hn]
  rfl

/-- The words at two pointers, both in the local data RAM (R453). -/
theorem izPairLoad_latched {m n cnt : Nat} {xs ys : List Nat}
    (hm : izCheck (s.core h.core) ((s.core h.core).bind m) ((s.core h.core).ptr m).toNat cnt false = none)
    (hn : izCheck (s.core h.core) ((s.core h.core).bind n) ((s.core h.core).ptr n).toNat cnt false = none)
    (hx : izLoad h.core ((s.core h.core).desc ((s.core h.core).bind m)) ((s.core h.core).ptr m).toNat cnt
      ⟨s.latched h, h.replies, 0⟩ = (xs, ⟨s.latched h, h.replies, 0⟩))
    (hy : izLoad h.core ((s.core h.core).desc ((s.core h.core).bind n)) ((s.core h.core).ptr n).toNat cnt
      ⟨s.latched h, h.replies, 0⟩ = (ys, ⟨s.latched h, h.replies, 0⟩)) :
    izPairLoad h.core m n cnt (s.latched h) h.replies = .inr (xs, ys, ⟨s.latched h, h.replies, 0⟩) := by
  have hload := izPairLoad_may (s := s.latched h) (k := h.core) (rep := h.replies) (m := m) (n := n) (cnt := cnt)
    (by rw [latched_core_same]; exact hm) (by rw [latched_core_same]; exact hn)
  rw [latched_core_same] at hload
  refine hload.trans ?_
  change Sum.inr ((izLoad h.core ((s.core h.core).desc ((s.core h.core).bind m)) ((s.core h.core).ptr m).toNat cnt
      ⟨s.latched h, h.replies, 0⟩).1,
    izLoad h.core ((s.core h.core).desc ((s.core h.core).bind n)) ((s.core h.core).ptr n).toNat cnt
      (izLoad h.core ((s.core h.core).desc ((s.core h.core).bind m)) ((s.core h.core).ptr m).toNat cnt
        ⟨s.latched h, h.replies, 0⟩).2) = _
  rw [hx]
  dsimp only
  rw [hy]

/-- A load of one word by an iteration. -/
theorem izLoad_latched_one {d : SegDesc} {w : Nat} (hram : d.inRam w = true) :
    izLoad h.core d w 1 ⟨s.latched h, h.replies, 0⟩ = ([((s.core h.core).ramWord d w).toNat], ⟨s.latched h, h.replies, 0⟩) := by
  rw [izLoad_ram_one hram, latched_core_same]
  rfl

/-- A load of two words by an iteration. -/
theorem izLoad_latched_two {d : SegDesc} {w : Nat} (hmode : d.mode = 0) (hram : d.inRam w = true) :
    izLoad h.core d w 2 ⟨s.latched h, h.replies, 0⟩ =
      ([((s.core h.core).ramWord d w).toNat, ((s.core h.core).ramWord d (w + 1)).toNat], ⟨s.latched h, h.replies, 0⟩) := by
  have hcore : ((s.latched h).core h.core).ram = (s.core h.core).ram := by rw [latched_core_same]
  have htwo : List.range 2 = [0, 1] := by decide
  rw [izLoad_ram hram, hcore, ramWord_eq, ramWord_eq, ramIndex_add 1 hmode hram, htwo, List.map_cons, List.map_cons,
    List.map_nil, Nat.add_zero]

/-! ## Multiply-accumulate at two pointers -/

/-- The word at a pointer, n words further. -/
def Core.wordAt (c : Core) (m n : Nat) : BitVec 24 := c.ramWord (c.desc (c.bind m)) ((c.ptr m).toNat + n)

/-- A pointer that names words of the local data RAM which an access of cnt words may load (R416). -/
structure Core.MayLoad (c : Core) (m cnt : Nat) : Prop where
  limit : (c.ptr m).toNat + cnt ≤ (c.desc (c.bind m)).limit
  inRam : (c.desc (c.bind m)).inRam (c.ptr m).toNat = true
  aligned : cnt = 2 → (c.ptr m).toNat % 2 = 0
  mode : cnt = 2 → (c.desc (c.bind m)).mode = 0

/-- MACP (R453): the accumulation, and both pointers a word further. -/
theorem settled_macp {m n acc : Nat} {sat : Bool} (hi : s.issues h o = true)
    (hdo : s.iteration h o = izMacpDo h.core m n acc sat h.replies (s.latched h))
    (hm : (s.core h.core).MayLoad m 1) (hn : (s.core h.core).MayLoad n 1) (hmn : m ≠ n) :
    let x := ((s.core h.core).accNow acc).toInt + fixProd ((s.core h.core).wordAt m 0) ((s.core h.core).wordAt n 0)
    ((izIssue h o s).settled h.core).acc acc =
        BitVec.ofInt 56 (if sat = true then clampInt (-(2 ^ 55)) (2 ^ 55 - 1) x else x) ∧
      ((izIssue h o s).settled h.core).ptr m = (s.core h.core).ptr m + 1 ∧
      ((izIssue h o s).settled h.core).ptr n = (s.core h.core).ptr n + 1 := by
  intro x
  have hload := izPairLoad_latched (izCheck_none hm.aligned hm.limit) (izCheck_none hn.aligned hn.limit)
    (izLoad_latched_one hm.inRam) (izLoad_latched_one hn.inRam)
  have hdone : s.iteration h o = .done (izStep h.core m n 1 (izAccPut h.core acc sat x (s.latched h))) := by
    rw [hdo, izMacpDo, hload, latched_core_same]
    dsimp only [List.headD]
    rw [BitVec.ofNat_toNat, BitVec.ofNat_toNat, BitVec.setWidth_eq, BitVec.setWidth_eq]
    rfl
  obtain ⟨hpm, hpn, hstep⟩ := will_izStep 1 (izAccPut h.core acc sat x (s.latched h)) hmn (k := h.core)
  have hptr : ∀ j, ((izAccPut h.core acc sat x (s.latched h)).core h.core).ptr j = (s.core h.core).ptr j := fun j => by
    rw [(views_ptr j).regs _ _ (izAccPut_regs h.core acc sat x (s.latched h)), latched_core_same]
    rfl
  rw [hptr] at hpm hpn
  have hasked : ∀ j, ((izStep h.core m n 1 (izAccPut h.core acc sat x (s.latched h))).core j).stepAsked =
      (s.core j).stepAsked := fun j => by rw [hstep, izAccPut_stepAsked, latched_stepAsked]
  exact ⟨settled_of_will (views_acc acc) hi hdone hasked (.inr ⟨nofun, fun _ => nofun⟩)
      (will_izStep_other 1 (views_acc acc) (fun _ => nofun) (will_izAccPut ..)),
    settled_of_will (views_ptr m) hi hdone hasked (.inr ⟨nofun, fun _ => nofun⟩) hpm,
    settled_of_will (views_ptr n) hi hdone hasked (.inr ⟨nofun, fun _ => nofun⟩) hpn⟩

/-- The real and the imaginary part of the product of the words at two pointers, of the second conjugated (R453). -/
def Core.prodRe (c : Core) (m n : Nat) (conj : Bool) : Int :=
  if conj then fixProd (c.wordAt m 0) (c.wordAt n 0) + fixProd (c.wordAt m 1) (c.wordAt n 1)
  else fixProd (c.wordAt m 0) (c.wordAt n 0) - fixProd (c.wordAt m 1) (c.wordAt n 1)

def Core.prodIm (c : Core) (m n : Nat) (conj : Bool) : Int :=
  if conj then fixProd (c.wordAt m 1) (c.wordAt n 0) - fixProd (c.wordAt m 0) (c.wordAt n 1)
  else fixProd (c.wordAt m 0) (c.wordAt n 1) + fixProd (c.wordAt m 1) (c.wordAt n 0)

/-- CMAC and CMACJ (R453): both accumulations, and both pointers two words further. -/
theorem settled_cmac {m n acc : Nat} {conj sat : Bool} (hi : s.issues h o = true)
    (hdo : s.iteration h o = izCmacDo h.core m n acc conj sat h.replies (s.latched h))
    (hm : (s.core h.core).MayLoad m 2) (hn : (s.core h.core).MayLoad n 2) (hmn : m ≠ n) :
    let x := ((s.core h.core).accNow acc).toInt + (s.core h.core).prodRe m n conj
    let y := ((s.core h.core).accNow (acc + 1)).toInt + (s.core h.core).prodIm m n conj
    ((izIssue h o s).settled h.core).acc acc =
        BitVec.ofInt 56 (if sat = true then clampInt (-(2 ^ 55)) (2 ^ 55 - 1) x else x) ∧
      ((izIssue h o s).settled h.core).acc (acc + 1) =
        BitVec.ofInt 56 (if sat = true then clampInt (-(2 ^ 55)) (2 ^ 55 - 1) y else y) ∧
      ((izIssue h o s).settled h.core).ptr m = (s.core h.core).ptr m + 2 ∧
      ((izIssue h o s).settled h.core).ptr n = (s.core h.core).ptr n + 2 := by
  intro x y
  have hload := izPairLoad_latched (izCheck_none hm.aligned hm.limit) (izCheck_none hn.aligned hn.limit)
    (izLoad_latched_two (hm.mode rfl) hm.inRam) (izLoad_latched_two (hn.mode rfl) hn.inRam)
  have hdone : s.iteration h o = .done (izStep h.core m n 2
      (izAccPut h.core (acc + 1) sat y (izAccPut h.core acc sat x (s.latched h)))) := by
    rw [hdo, izCmacDo, hload, latched_core_same]
    dsimp only [List.headD, List.tail]
    simp only [BitVec.ofNat_toNat, BitVec.setWidth_eq]
    rfl
  generalize hv : izAccPut h.core acc sat x (s.latched h) = v at hdone
  have hvregs : Core.SameRegs ((s.latched h).core h.core) (v.core h.core) := hv ▸ izAccPut_regs ..
  have hvacc : (v.core h.core).Will (.a acc) (fun c => c.acc acc) _ := hv ▸ will_izAccPut ..
  have hvstep : ∀ j, (v.core j).stepAsked = (s.core j).stepAsked := fun j => by
    rw [← hv, izAccPut_stepAsked, latched_stepAsked]
  obtain ⟨hpm, hpn, hstep⟩ := will_izStep 2 (izAccPut h.core (acc + 1) sat y v) hmn (k := h.core)
  have hptr : ∀ j, ((izAccPut h.core (acc + 1) sat y v).core h.core).ptr j = (s.core h.core).ptr j := fun j => by
    rw [(views_ptr j).regs _ _ (izAccPut_regs h.core (acc + 1) sat y v), (views_ptr j).regs _ _ hvregs, latched_core_same]
    rfl
  rw [hptr] at hpm hpn
  have hasked : ∀ j, ((izStep h.core m n 2 (izAccPut h.core (acc + 1) sat y v)).core j).stepAsked = (s.core j).stepAsked :=
    fun j => by rw [hstep, izAccPut_stepAsked, hvstep]
  refine ⟨?_, ?_, ?_, ?_⟩
  · exact settled_of_will (views_acc acc) hi hdone hasked (.inr ⟨nofun, fun _ => nofun⟩)
      (will_izStep_other 2 (views_acc acc) (fun _ => nofun)
        (will_izAccPut_other _ _ _ _ (views_acc acc) (by simp) nofun hvacc))
  · exact settled_of_will (views_acc (acc + 1)) hi hdone hasked (.inr ⟨nofun, fun _ => nofun⟩)
      (will_izStep_other 2 (views_acc (acc + 1)) (fun _ => nofun) (will_izAccPut ..))
  · exact settled_of_will (views_ptr m) hi hdone hasked (.inr ⟨nofun, fun _ => nofun⟩) hpm
  · exact settled_of_will (views_ptr n) hi hdone hasked (.inr ⟨nofun, fun _ => nofun⟩) hpn

end

/-! ## The statement -/

/-- Settles O11. -/
theorem izhamAccumulators : Obligations.IzhamAccumulators := by
  unfold Obligations.IzhamAccumulators
  refine ⟨?_, ?_, ?_, ?_, ?_, ?_, ?_, ?_, ?_, ?_, ?_⟩
  · intro s h b1 k x hi
    have hdo : s.iteration h (.fa .mpy b1 k x) = .done (izAccPut h.core k.toNat false
        (fixProd ((s.core h.core).reg (nibHi b1).toNat) ((s.core h.core).reg (nibLo b1).toNat)) (s.latched h)) := by
      rw [iteration_fa, izFa, latched_core_same]
      rfl
    exact ⟨_, rfl, settled_acc hi hdo⟩
  · exact fun s h b1 k x hi => ⟨_, rfl, settled_acc hi (by rw [iteration_fa, izFa]; rw [latched_core_same]; rfl)⟩
  · exact fun s h b1 k x hi => ⟨_, rfl, settled_acc hi (by rw [iteration_fa, izFa]; rw [latched_core_same]; rfl)⟩
  · exact fun s h b1 k x hi => ⟨_, rfl, settled_acc hi (by rw [iteration_fa, izFa])⟩
  · intro s h b1 k x hi
    have hdo : s.iteration h (.fa .mova b1 k x) = .done (izAccPut h.core k.toNat false
        (((s.core h.core).reg (nibHi b1).toNat).toInt * 2 ^ 24) (s.latched h)) := by
      rw [iteration_fa, izFa, latched_core_same]
      rfl
    exact ⟨_, rfl, settled_acc hi hdo⟩
  · exact fun s h b1 k x hi => ⟨_, rfl, settled_acc hi (by rw [iteration_fa, izFa]; rw [latched_core_same]; rfl)⟩
  · exact fun s h b1 k x hi => ⟨_, rfl, settled_acc hi (by rw [iteration_fa, izFa]; rw [latched_core_same]; rfl)⟩
  · intro s h b1 k x hi
    have hdo : s.iteration h (.fa .ext b1 k x) = .done (if h.pre.contains .sat &&
          sat24 (izExt ((s.core h.core).acc k.toNat) (x.extractLsb' 0 5).toInt) !=
            izExt ((s.core h.core).acc k.toNat) (x.extractLsb' 0 5).toInt
        then izW h.core (.aov k.toNat) 3 1 (izW h.core (.g (nibHi b1).toNat) 3 (wrap24 (h.pre.contains .sat)
          (izExt ((s.core h.core).acc k.toNat) (x.extractLsb' 0 5).toInt)).toNat (s.latched h))
        else izW h.core (.g (nibHi b1).toNat) 3 (wrap24 (h.pre.contains .sat)
          (izExt ((s.core h.core).acc k.toNat) (x.extractLsb' 0 5).toInt)).toNat (s.latched h)) := by
      rw [iteration_fa, izFa]
      rw [latched_core_same]
      rfl
    refine ⟨_, rfl, (settled_reg (v := (wrap24 (h.pre.contains .sat)
      (izExt ((s.core h.core).acc k.toNat) (x.extractLsb' 0 5).toInt)).toNat) hi hdo (fun j => by split <;> simp) fun hn => ?_).trans ?_⟩
    · split
      · rw [izW_core]
        exact will_later_other _ _ _ nofun (views_reg _) (will_izW_reg _ _ _ _ _ hn)
      · exact will_izW_reg _ _ _ _ _ hn
    · rw [BitVec.ofNat_toNat, BitVec.setWidth_eq]
      cases h.pre.contains .sat <;> rfl
  · intro s h b1 k x hi hlm hrm hln hrn hmn
    simp only [decide_eq_true_eq, bne_iff_ne] at hlm hln hmn
    exact ⟨_, rfl, settled_macp hi rfl ⟨hlm, hrm, nofun, nofun⟩ ⟨hln, hrn, nofun, nofun⟩ hmn⟩
  · intro s h b1 k x hi hlm hrm ham hmm hln hrn han hmn' hmn
    simp only [decide_eq_true_eq, bne_iff_ne, beq_iff_eq] at hlm ham hmm hln han hmn' hmn
    exact ⟨_, rfl, settled_cmac (conj := false) hi rfl ⟨hlm, hrm, fun _ => ham, fun _ => hmm⟩
      ⟨hln, hrn, fun _ => han, fun _ => hmn'⟩ hmn⟩
  · intro s h b1 k x hi hlm hrm ham hmm hln hrn han hmn' hmn
    simp only [decide_eq_true_eq, bne_iff_ne, beq_iff_eq] at hlm ham hmm hln han hmn' hmn
    exact ⟨_, rfl, settled_cmac (conj := true) hi rfl ⟨hlm, hrm, fun _ => ham, fun _ => hmm⟩
      ⟨hln, hrn, fun _ => han, fun _ => hmn'⟩ hmn⟩

end Sys2Proof.Machine
end

section
/-! SUPPORT. The PTP port (R331 to R335): what an entry of a port state leaves in the port's registers, and the statement on
its commands. -/

set_option Elab.async false

namespace Sys2Proof.Machine

/-! ## The registers of the port -/

/-- The areas of CLK, EVT, the snapshot, the exciter, the calibrations and OBS, where the loss of a PTP reference writes. -/
abbrev ptpLossAreas : List (Nat × Nat) :=
  [(0x1000, 0x3000), (0x30000, 0x34000), (0x48000, 0x4C000), (0x50000, 0x58000), (0x68000, 0x70000)]

theorem bufSuspect_within (tf : Nat) (s : State) : Within ptpLossAreas s (bufSuspect tf s) := by
  refine forEach_rel (R := Within ptpLossAreas) (Within.refl _) (fun h hv => h.step hv (by decide)) (fun a _ x => ?_) s
  split
  · exact .refl _ x
  · exact fun b _ => setInput_rd x a _ b

theorem calAbandon_within (s : State) : Within ptpLossAreas s (calAbandon s) := by
  unfold calAbandon
  split
  · exact (calReject_four_within 3 s).mono (by decide)
  · exact .refl _ s

theorem spllFrozen_within (s : State) : Within ptpLossAreas s (spllFrozen s) := by
  unfold spllFrozen
  split
  · exact ((Within.refl _ s).of_regs (learned_regs s)).setF SPLL_DCO_ADJ _ (by decide)
  · exact .refl _ s

theorem spllDropped_within (tf : Nat) (s : State) : Within ptpLossAreas s (spllDropped tf s) := by
  have henter : ∀ st, Within ptpLossAreas s (spllEnter st (spllFollow false (spllFrozen s))) := fun st =>
    ((spllFrozen_within s).of_regs (spllFollow_regs _ _)).step (spllEnter_frame st _).within (by decide)
  unfold spllDropped
  extract_lets s1 s3
  have h3 : Within ptpLossAreas s s3 := ((henter _).setF CLK_STAT_REF_OK _ (by decide)).setF CLK_CNT_LOSSES _ (by decide)
  clear_value s3
  exact h3.of_regs rfl

/-- A loss of lock leaves the registers of the PTP port. -/
theorem spllLose_within (tf : Nat) (s : State) : Within ptpLossAreas s (spllLose tf s) := by
  cases hlock : s.inLock
  · rw [spllLose, hlock, if_neg Bool.false_ne_true]
    exact .refl _ s
  · have heq : spllLose tf s =
        raise evSpllLoss noInst (calAbandon (excHold causeSpll (bufSuspect tf (spllDropped tf s)))) := by
      unfold spllLose spllDropped spllFrozen
      simp only [hlock, if_true, decide_eq_true_eq]
    rw [heq]
    exact ((((spllDropped_within tf s).step (bufSuspect_within tf _) (by decide)).step (excHold_frame _ _).within
      (by decide)).step (calAbandon_within _) (by decide)).step (raise_within _ _ _) (by decide)

/-! ## Port states -/

section
variable {st : Nat} {s : State}

/-- The departure from SLAVE (R94, R100, R332), from the state in which the new port state stands. -/
def ptpLeave (port : Nat) (s : State) : State :=
  let s2 := raise evPtpState port (s.bump NET_PTP_STAT_EXITS)
  let s3 := s2.setPtp { s2.net.ptp with run := 0, off := 0, syncs := [] }
  if s3.getF CLK_CTL_SRC = 1 then (if s3.clk.follows then spllLoseNow s3 else s3).setF CLK_STAT_REF_OK 0 else s3

theorem ptpLeave_within (port : Nat) (s : State) :
    Within ptpLossAreas (s.bump NET_PTP_STAT_EXITS) (ptpLeave port s) := by
  unfold ptpLeave
  extract_lets s2 p s3
  have h3 : Within ptpLossAreas (s.bump NET_PTP_STAT_EXITS) s3 :=
    ((Within.refl _ _).step (raise_within evPtpState port _) (by decide)).of_regs (setPtp_regs _ _)
  clear_value s3
  split
  · refine Within.setF ?_ CLK_STAT_REF_OK 0 (by decide)
    split
    · exact h3.step (spllLose_within _ s3) (by decide)
    · exact h3
  · exact h3

/-- The state in which the new port state stands. -/
def ptpEntered (st : Nat) (s : State) : State :=
  let s0 := s.setF NET_PTP_STAT_STATE st
  if st = 9 && s.ptpState != 9 then s0.setPtp { s0.net.ptp with slaveAt := s.now } else s0

theorem ptpEnter_eq (st : Nat) (s : State) : ptpEnter st s =
    if s.ptpState = 9 && st != 9 then ptpLeave s.ptpPort (ptpEntered st s) else ptpEntered st s := rfl

theorem ptpEntered_getF (st : Nat) (s : State) (f : Fld) :
    (ptpEntered st s).getF f = (s.setF NET_PTP_STAT_STATE st).getF f := by
  have hregs : (ptpEntered st s).regs = (s.setF NET_PTP_STAT_STATE st).regs := by
    unfold ptpEntered
    dsimp only
    split
    · exact setPtp_regs _ _
    · rfl
  exact getF_of_rd (rd_of_regs hregs _)

/-- The port is in the state entered. -/
theorem ptpEnter_state (hst : st < 16) : (ptpEnter st s).getF NET_PTP_STAT_STATE = st := by
  have hentered : (ptpEntered st s).getF NET_PTP_STAT_STATE = st := by
    rw [ptpEntered_getF]
    exact getF_setF_fits _ _ _ (by decide) hst
  rw [ptpEnter_eq]
  split
  · rw [(ptpLeave_within _ _).getF NET_PTP_STAT_STATE (by decide), getF_bump_apart _ _ _ (by decide)]
    exact hentered
  · exact hentered

/-- A departure from SLAVE is counted (R332). -/
theorem ptpEnter_exits (hslave : s.ptpState = 9) (hst : st ≠ 9) : Counted NET_PTP_STAT_EXITS s (ptpEnter st s) := by
  rw [ptpEnter_eq, if_pos (by simp [hslave, hst])]
  have hcount := counted_bump (ptpEntered st s) NET_PTP_STAT_EXITS (by decide) (by decide)
  unfold Counted at hcount ⊢
  rw [(ptpLeave_within _ _).getF NET_PTP_STAT_EXITS (by decide), hcount, ptpEntered_getF,
    getF_setF_apart _ _ _ _ (by decide)]

end

/-! ## Messages -/

section
variable {s : State}

@[simp] theorem ptpState_advance (s : State) (n : Nat) : (s.advance n).ptpState = s.ptpState := advance_getF ..

@[simp] theorem ptpPort_advance (s : State) (n : Nat) : (s.advance n).ptpPort = s.ptpPort := advance_getF ..

/-- A complete Sync that no delay measurement goes with is kept, and nothing is accepted (R332). -/
theorem ptpComplete_unmeasured (o : Int) (c : Nat) (hdelays : s.net.ptp.delays = []) :
    (ptpComplete o c s).net.ptp.last = some (o, c) ∧ (ptpComplete o c s).net.ptp.sync = none := by
  unfold ptpComplete
  dsimp only
  rw [if_pos (by simp [hdelays])]
  split <;> exact ⟨rfl, rfl⟩

/-- The first Announce makes its sender the parent, and the port UNCALIBRATED (R332). -/
theorem ptpAnnounce_first {p : PtpAnn} (hen : s.flag NET_PTP_CTL_EN = true) (hdomain : p.domain = s.getF NET_PTP_CTL_DOMAIN)
    (hrole : s.flag NET_PTP_CTL_ROLE = false) (hparent : s.net.ptp.parent = none) : ptpAnnounce p s = ptpFollow p s := by
  unfold ptpAnnounce
  dsimp only
  rw [if_neg (by simp [hen, hdomain]), hparent, hrole]
  simp

end

/-! ## The statement -/

/-- Settles O2. -/
theorem ptpPort : Obligations.PtpPort := by
  unfold Obligations.PtpPort
  simp only [decide_eq_true_eq, beq_iff_eq, Bool.not_eq_true', Option.isNone_iff_eq_none, List.isEmpty_iff, bne_iff_ne,
    Bool.or_eq_true]
  refine ⟨?_, ?_, ?_, ?_, ?_, ?_, ?_, ?_, ?_, ?_, ?_, ?_⟩
  · intro s p hfrom htwo
    refine ⟨_, rfl, ?_⟩
    rw [if_neg (by simp [hfrom]), if_pos htwo]
    rfl
  · intro s p hfrom htwo hdelays
    refine ⟨_, rfl, ?_⟩
    rw [if_neg (by simp [hfrom]), if_neg (by simp [htwo])]
    refine ptpComplete_unmeasured _ _ ?_
    show (ite _ _ _ : Ptp).delays = []
    split <;> simpa using hdelays
  · intro s p m hfrom hsync hseq hstamp hdelays
    refine ⟨_, rfl, ?_⟩
    rw [advance_net, hsync]
    dsimp only
    rw [if_pos (by simp [hfrom, hseq, hstamp])]
    exact ptpComplete_unmeasured _ _ (by simpa using hdelays)
  · intro s p t3 t2 o hreq hlast hparent
    refine ⟨_, rfl, ?_⟩
    rw [advance_net, hreq, hlast]
    dsimp only
    rw [if_pos (by simp [hparent])]
    exact ⟨rfl, rfl⟩
  · intro s p hen hdomain hrole hparent
    refine ⟨_, rfl, ?_⟩
    rw [ptpAnnounce_first (by simpa using hen) (by simpa using hdomain) (by simpa using hrole) (by simpa using hparent)]
    exact ⟨ptpEnter_state (by decide), rfl⟩
  · intro s n a hen hstate hparent hdue
    refine ⟨_, rfl, ?_⟩
    rw [hparent]
    dsimp only
    rw [if_pos (by simp [hen, hstate, hdue])]
    refine ⟨(ptpEnter_state ?_).trans ?_, rfl⟩
    · split <;> decide
    · rw [advance_flag]
  · intro s n hstate hdue
    refine ⟨_, rfl, ?_⟩
    rw [if_pos (by simp [hstate, hdue])]
    exact ⟨ptpEnter_state (by decide), (ptpEnter_exits (by simpa using hstate) (by decide)).of_getF (advance_getF ..)⟩
  · intro s n hstate
    refine ⟨_, rfl, ?_⟩
    rw [if_pos (by simpa using hstate)]
    simp [State.setPtp]
  · intro s n hen hstate hlink hdue
    refine ⟨_, rfl, ?_⟩
    rw [if_neg (by simp [hen, hstate, hlink]), if_neg (by decide), if_pos rfl, if_pos (by simpa [State.getI] using hdue)]
    simp [State.setPtp]
  · intro s n hen hstate hlink hdue
    refine ⟨_, rfl, ?_⟩
    rw [if_neg (by simp [hen, hstate, hlink]), if_pos rfl, if_pos (by simpa [State.getI] using hdue)]
    simp [State.setPtp]
  · intro s n hpps hvalid hcount
    refine ⟨_, rfl, ?_⟩
    have hcount' : (s.advance n).ptpCount (((s.advance n).ptpTime n + 500000000) / 1000000000 * 1000000000) = n := by
      simpa [State.ptpCount, State.ptpTime, State.getI, State.get64] using hcount
    rw [if_pos (by simp [hpps, hvalid, hcount'])]
    exact ⟨rfl, rfl⟩
  · intro s n hdue
    refine ⟨_, rfl, ?_⟩
    rw [if_pos (by simpa using hdue)]

end Sys2Proof.Machine
end

section
/-! SUPPORT. A restore of the calibration image (R528): the sections leave what it has shown of the copy it took, and the
statement on switches, frames and restores. -/

set_option Elab.async false

namespace Sys2Proof.Machine

/-! ## What a restored section writes -/

/-- The registers of the calibrations, the channels of the service link, and where raising an event writes. -/
abbrev calAreas : List (Nat × Nat) :=
  [(0x50100, 0x501C0), (0x4C100, 0x4C300), (0x1000, 0x2000), (0x30000, 0x34000), (0x68000, 0x70000)]

/-- The registers of calibration n lie in the area of the calibrations. -/
theorem calArea_mem {n a : Nat} (hn : n < 6) (hlo : 0x50100 + 0x20 * n ≤ a) (hhi : a < 0x50120 + 0x20 * n) :
    InAreas calAreas a := ⟨_, .head _, by omega, by omega⟩

section
variable {n : Nat} {s u : State}

theorem Within.calStat (h : Within calAreas s u) (hn : n < 6) (hi lo v : Nat) :
    Within calAreas s (u.setF ⟨CALn_STAT n, hi, lo⟩ v) :=
  h.setF _ _ (calArea_mem hn (Nat.le_refl _) (by show 0x50100 + 0x20 * n < _; omega))

theorem Within.calCnt (h : Within calAreas s u) (hn : n < 6) (hi lo v : Nat) :
    Within calAreas s (u.setF ⟨CALn_CNT n, hi, lo⟩ v) :=
  h.setF _ _ (calArea_mem hn (by show _ ≤ 0x50104 + 0x20 * n; omega) (by show 0x50104 + 0x20 * n < _; omega))

theorem Within.calRaise (h : Within calAreas s u) (e i : Nat) : Within calAreas s (raise e i u) :=
  h.step (raise_within e i u) (by decide)

theorem Within.cal (h : Within calAreas s u) (i : Nat) (c : Cal) : Within calAreas s (u.setCal i c) :=
  h.of_regs (setCal_regs _ _ _)

theorem calRequest_within (hn : n < 6) (h : Within calAreas s u) (src : Nat) : Within calAreas s (calRequest n src u) := by
  unfold calRequest
  extract_lets c s1 s2
  have h2 : Within calAreas s s2 := by
    unfold s2
    split
    · exact (h.cal n _).calStat hn _ _ _
    · exact h.cal n _
  split
  · exact (h2.cal n _).calStat hn _ _ _
  · exact (h2.calStat hn _ _ _).calRaise _ _

theorem calFollow_within (hn : n < 6) (h : Within calAreas s u) : Within calAreas s (calFollow n u) := by
  unfold calFollow
  dsimp only
  refine Within.calStat ?_ hn _ _ _
  split
  · exact h.calStat hn _ _ _
  · exact h

theorem calTake_within (hn : n < 6) (h : Within calAreas s u) (res ta : Nat) (temp : Int) (trims : List Byte) :
    Within calAreas s (calTake n res ta temp trims u) := by
  have hlo : InAreas calAreas (CALn_TS_LO n) :=
    calArea_mem hn (by show _ ≤ 0x50108 + 0x20 * n; omega) (by show 0x50108 + 0x20 * n < _; omega)
  have hhi : InAreas calAreas (CALn_TS_HI n) :=
    calArea_mem hn (by show _ ≤ 0x5010c + 0x20 * n; omega) (by show 0x5010c + 0x20 * n < _; omega)
  have hstat := ((h.calStat hn 27 26 res).calStat hn 25 23 0).calStat hn 9 0 (unsignedOf 10 temp)
  unfold calTake
  extract_lets c s1 s2 s3
  have h3 : Within calAreas s s3 := (((hstat.wr _ hlo).wr _ hhi).calCnt hn _ _ _).cal n _
  clear_value s3
  refine Within.step (m := eventAreas) ((h3.calStat hn _ _ _).calStat hn _ _ _ : Within calAreas s
    ((s3.setF (CALn_STAT_DUE n) 0).setF (CALn_STAT_CURRENT n) 1)) (fun b hb => ?_) (by decide)
  simp only [eventAreas, List.forall_mem_cons] at hb
  obtain ⟨hevt, hmrw, hobs, -⟩ := hb
  exact raiseAt_rd _ _ _ _ b hevt hmrw hobs

end

/-- From s to u the result of the image and its generation stand. -/
structure ImgKept (s u : State) : Prop where
  result : u.getF CAL_IMG_STAT_RESULT = s.getF CAL_IMG_STAT_RESULT
  gen : u.getF CAL_IMG_GEN_GEN = s.getF CAL_IMG_GEN_GEN

section
variable {s u v : State}

theorem ImgKept.refl (s : State) : ImgKept s s := ⟨rfl, rfl⟩

theorem ImgKept.trans (h : ImgKept s u) (hv : ImgKept u v) : ImgKept s v :=
  ⟨hv.result.trans h.result, hv.gen.trans h.gen⟩

theorem ImgKept.of_within (h : Within calAreas s u) : ImgKept s u :=
  ⟨h.getF CAL_IMG_STAT_RESULT (by decide), h.getF CAL_IMG_GEN_GEN (by decide)⟩

/-- A section is shown as applied or skipped below the result. -/
theorem ImgKept.mark (s : State) {i : Nat} (hi : i < 29) (v : Nat) : ImgKept s (s.setF ⟨CAL_IMG_STAT, i, i⟩ v) :=
  ⟨getF_setF_apart _ _ _ _ (.inr ⟨⟨Nat.le_refl i, by show i < 32; omega⟩, .inr (by show i < 29; omega)⟩),
    getF_setF_reg _ _ _ _ (show CAL_IMG_GEN ≠ CAL_IMG_STAT by decide)⟩

end

/-- A restored section of a calibration keeps the image's result. -/
theorem calRestoreOne_kept {n : Nat} (hn : n < 6) (l : List Byte) (ok : Bool) (s : State) :
    ImgKept s (calRestoreOne l n ok s) := by
  unfold calRestoreOne
  split
  · exact .mark s (by omega) 1
  split
  · refine (ImgKept.mark s (i := 8 + n) (by omega) 1).trans (.of_within ?_)
    exact (((Within.refl _ _).calCnt hn _ _ _).calStat hn _ _ _).calStat hn _ _ _ |>.calRaise _ _
  · extract_lets temp s1 s2
    have h1 : ImgKept s s1 := .of_within (calTake_within hn (.refl _ s) _ _ _ _)
    have h2 : ImgKept s s2 :=
      (h1.trans (.mark s1 (by omega) 1)).trans (.of_within (calFollow_within hn (.refl _ _)))
    split
    · exact h2.trans (.of_within (calRequest_within hn (.refl _ _) 2))
    · exact h2

theorem slStale_within (s : State) : Within calAreas s (slStale s) := by
  unfold slStale cal5Refresh
  exact (((Within.refl _ s).of_regs rfl).calStat (n := 5) (by decide) _ _ _).calStat (n := 5) (by decide) _ _ _

/-- The restored section of the service link keeps the image's result. -/
theorem calRestoreSl_kept (l : List Byte) (ok : Bool) (s : State) : ImgKept s (calRestoreSl l ok s) := by
  unfold calRestoreSl
  split
  · exact .mark s (by decide) 1
  split
  · exact (ImgKept.mark s (by decide) 1).trans (.of_within
      (((Within.refl _ _).calCnt (n := 5) (by decide) _ _ _).calRaise _ _))
  · have hchannels : Within calAreas s (forEach (List.range 128) (restoreChannel l) s) := by
      refine forEach_rel (R := Within calAreas) (Within.refl _) (fun h hv => h.step hv (by decide)) (fun c hc x => ?_) s
      have hlt := List.mem_range.mp hc
      unfold restoreChannel
      dsimp only
      split
      · exact ((Within.refl _ x).of_regs rfl).setF _ _
          ⟨_, .tail _ (.head _), by show 0x4C100 ≤ 0x4c100 + 4 * c; omega, by show 0x4c100 + 4 * c < 0x4C300; omega⟩
      · exact .refl _ x
    exact ((ImgKept.of_within hchannels).trans (.mark _ (by decide) 1)).trans (.of_within (slStale_within _))

/-- The sections that a restore takes up keep the image's result. -/
theorem restoreSections_kept (ok : List Bool) (l : List Byte) (s : State) :
    ImgKept s (forEach (List.range 6) (restoreSection ok l) s) := by
  refine forEach_rel ImgKept.refl ImgKept.trans (fun n hn x => ?_) s
  unfold restoreSection
  split
  · split
    · exact calRestoreSl_kept ..
    · exact calRestoreOne_kept (List.mem_range.mp hn) ..
  · exact .refl x

/-- Four bytes hold a number of 32 bits. -/
theorem leAt_four_lt (l : List Byte) (o : Nat) : leAt l o 4 < 2 ^ 32 :=
  Nat.lt_of_lt_of_le (natOf_lt _) (Nat.pow_le_pow_right (by decide : 256 > 0) (by simp : ((l.drop o).take 4).length ≤ 4))

/-- A restore that finds copy 0 good and not older takes it and shows its generation (R528). -/
theorem calRestore_first {s : State} (ok : List Bool) (h0 : s.calBad (s.winBytes (calCopy 0) 8192) = 0)
    (h1 : s.calBad (s.winBytes (calCopy 1) 8192) ≠ 0 ∨
      newerGen (leAt (s.winBytes (calCopy 1) 8192) 8 4) (leAt (s.winBytes (calCopy 0) 8192) 8 4) = false) :
    (calRestore ok s).getF CAL_IMG_STAT_RESULT = 1 ∧
      (calRestore ok s).getF CAL_IMG_GEN_GEN = leAt (s.winBytes (calCopy 0) 8192) 8 4 := by
  unfold calRestore
  extract_lets l0 l1 b0 b1 s1 one l s2
  have hb0 : b0 = 0 := h0
  have hone : one = false := by
    unfold one
    rw [hb0]
    rcases h1 with hbad | hold
    · have hb1 : b1 ≠ 0 := hbad
      simp [hb1]
    · simp [show newerGen (leAt l1 8 4) (leAt l0 8 4) = false from hold]
  rw [if_neg (by simp [hb0])]
  have hl : l = l0 := by
    unfold l
    rw [hone]
    rfl
  have hkept := restoreSections_kept ok l s2
  have hgen : leAt l0 8 4 < 2 ^ 32 := leAt_four_lt _ _
  refine ⟨hkept.result.trans ?_, hkept.gen.trans ?_⟩
  · refine (getF_setF_reg _ _ _ _ (by decide)).trans ((getF_setF_apart _ _ _ _ (by decide)).trans ?_)
    exact getF_setF_fits _ _ _ (by decide) (by decide)
  · show ((s1.setF CAL_IMG_STAT_RESULT 1).setB CAL_IMG_STAT_USED one |>.setF CAL_IMG_GEN_GEN (leAt l 8 4)).getF CAL_IMG_GEN_GEN = _
    rw [hl]
    exact getF_setF_fits _ _ _ (by decide) hgen

/-! ## The statement -/

/-- Settles O60. -/
theorem switchesFramesAndRestores : Obligations.SwitchesFramesAndRestores := by
  unfold Obligations.SwitchesFramesAndRestores
  refine ⟨fun s p b c hp hfw hmay hlast hbest => ?_, fun s p b u c hp hfw hmay hsound hbad hbest => ?_,
    fun s p b u c hp hfw hmay hbad hnone hbest => ?_, fun s p f hp hfade hleft => ?_,
    fun s p n f hp hup hlen hvlan haddr hfrag hproto => ?_, fun s m ok hreach hbusy h0 h1 => ?_⟩
  · obtain ⟨t, hexec, hfade, hshown⟩ := discretionarySwitch_fades (of_decide_eq_true hp) hfw hmay hlast (eq_of_beq hbest)
    exact ⟨t, hexec, by rw [hfade]; rfl, hshown.kind⟩
  · obtain ⟨t, hexec, hfade, hshown⟩ := forcedSwitch_fades (of_decide_eq_true hp) hfw hmay ((Bool.not_eq_true' _).mp hsound)
      (eq_of_beq hbad) (eq_of_beq hbest)
    exact ⟨t, hexec, by rw [hfade]; split <;> rfl, hshown.kind⟩
  · obtain ⟨t, hexec, hhard, hshown⟩ := hardSwitch_stands (of_decide_eq_true hp) hfw hmay (eq_of_beq hbad) hnone
      (eq_of_beq hbest)
    exact ⟨t, hexec, by rw [hhard]; rfl, hshown.kind⟩
  · obtain ⟨t, hexec, ⟨hended, -⟩, -⟩ := xfadeEnd_survives (of_decide_eq_true hp) (eq_of_beq hfade) (eq_of_beq hleft)
    exact ⟨t, hexec, hended⟩
  · simp only [decide_eq_true_eq, beq_iff_eq, Bool.not_eq_true'] at hp hlen hvlan hfrag hproto
    obtain ⟨c, hc⟩ := advance_eq n s
    have hup' : ({ s with syscnt := c } : State).linkUp p = true := hup
    have haddr' : ({ s with syscnt := c } : State).addressed p f = true := haddr
    have hexec : exec (.ethFrameRx p f n) s = .next (s.advance n) := by
      have h : exec (.ethFrameRx p f n) s = execEthFrameRx p f n s := rfl
      rw [h, hc]
      unfold execEthFrameRx
      simp [hc, hp, hup', hvlan, haddr', hfrag, hproto]
    exact ⟨_, hexec, advance_net .., advance_getF ..⟩
  · let v := traceRegWrite m CAL_IMG_CMD 2 s
    have hexec : exec (.calImgRestore m ok) s = .next (calRestore ok v) := by
      show Host.Outcome.next (gated m CAL_IMG_CMD 2 (calImgWrite 2 ok) s) = _
      have hfree : v.flag CAL_IMG_STAT_BUSY = false := by
        unfold State.flag
        rw [(traceRegWrite_within m CAL_IMG_CMD 2 s).getF_below_obs (f := CAL_IMG_STAT_BUSY) (by decide)]
        exact (Bool.not_eq_true' _).mp hbusy
      rw [gated_reaches _ _ _ _ _ hreach]
      show Host.Outcome.next (calImgWrite 2 ok v) = _
      unfold calImgWrite
      rw [if_neg (by decide), if_neg (by simp [hfree]), if_neg (by decide), if_pos (by decide)]
    have hstep := traceRegWrite_step m CAL_IMG_CMD 2 s
    have hwin : v.win = s.win := (congrArg State.win hstep.eq :)
    have hsec : v.sec = s.sec := (congrArg State.sec hstep.eq :)
    have hbytes : ∀ a n, v.winBytes a n = s.winBytes a n := fun a n => by
      unfold State.winBytes State.winGet
      rw [hwin]
    have hbadEq : ∀ l, v.calBad l = s.calBad l := fun l => by
      unfold State.calBad
      rw [hsec]
    obtain ⟨hresult, hgen⟩ := calRestore_first (s := v) ok (by rw [hbytes, hbadEq]; exact beq_iff_eq.mp h0)
      (by
        rw [hbytes, hbytes, hbadEq]
        exact (Bool.or_eq_true_iff.mp h1).imp bne_iff_ne.mp (Bool.not_eq_true' _).mp)
    rw [hbytes] at hgen
    exact ⟨_, hexec, hresult, hgen⟩

end Sys2Proof.Machine
end

section
/-! SUPPORT. The PCIe endpoint (R353 to R358): what becomes of a record, of a descriptor of one line, of a BAR2 access in one
line and of a signal, and the statement on them. -/

set_option Elab.async false

namespace Sys2Proof.Machine

section
variable {s u : State} {q n : Nat}

/-! ## STREAM queues -/

/-- A STREAM queue that is enabled on a link that is up takes its oldest record. -/
theorem dmaStreamRecord_next (hq : q < 64) (hup : s.flag PCI_STAT_UP = true) (hen : s.flag (PCI_Qq_CTL_EN q) = true)
    (hkind : s.getF (PCI_Qq_CTL_KIND q) = 1) : exec (.dmaStreamRecord q n) s = .next (streamRecord q (s.advance n)) := by
  have h : exec (.dmaStreamRecord q n) s = execDmaStreamRecord q n s := rfl
  simp [h, execDmaStreamRecord, hq, hup, hen, hkind]

variable {k x : Nat} {r : Rec}

/-- The state in which the oldest record of queue q waits no more. -/
def recTaken (q : Nat) (s : State) : State := { s with recs := dropFirst (1 + q) s.recs }

/-- Bytes of a record with its tag (R354). -/
def tagged (v : Dma) (r : Rec) : List Nat := [r.type, 0] ++ leNat 2 r.bytes.length ++ if v.dropNext then recDrop r.bytes else r.bytes

/-- DEV of queue q behind a record. -/
def devBehind (q : Nat) (r : Rec) (s : State) : Nat := (s.getF (PCI_Qq_DEV_PTR q) + (4 + r.bytes.length)) % 2 ^ 32

/-- Bytes of a queue's ring that hold records the host has not taken. -/
def ringUsed (q : Nat) (s : State) : Nat := (s.getF (PCI_Qq_DEV_PTR q) + 2 ^ 32 - s.getF (PCI_Qq_HOST_PTR q)) % 2 ^ 32

/-- A record that fits goes into the ring, and DEV is written back. -/
theorem streamRecord_placed (hw : s.waitsFor q = some (k, x, r)) (hclass : s.getF (PCI_Qq_CTL_CLASS q) ≠ 3)
    (hrank : s.outranked q = false) (hfits : ringUsed q s + (4 + r.bytes.length) ≤ 2 ^ s.getF (PCI_Qq_CTL_SIZE q)) :
    streamRecord q s = ((hostPut
      (ringWrites (s.ringBase q) (2 ^ s.getF (PCI_Qq_CTL_SIZE q)) (s.getF (PCI_Qq_DEV_PTR q)) (tagged (s.dma q) r)
        ++ if s.wbAddr q = 0 then [] else [(s.wbAddr q, leNat 4 (devBehind q r s))]) (recTaken q s)).setF
        (PCI_Qq_DEV_PTR q) (devBehind q r s)).setDma q
      { s.dma q with
        dropNext := false, since := (s.dma q).since + (4 + r.bytes.length), first := some ((s.dma q).first.getD s.now) } := by
  unfold streamRecord
  rw [hw]
  dsimp only
  unfold ringUsed at hfits
  rw [if_neg (by simp [hclass]), if_neg (by simp [hrank]), if_neg (Nat.not_lt.mpr hfits)]
  rfl

theorem setDma_toHost (q : Nat) (v : Dma) (s : State) : (s.setDma q v).pci.toHost = s.pci.toHost := rfl

/-- What a record in the ring leaves of the queue. -/
theorem placed_shows (l : List (Nat × List Nat)) (a : Nat) (v : Dma) (hregs : u.regs = s.regs) :
    (((((hostPut l u).setF (PCI_Qq_DEV_PTR q) a).setDma q v).getF (PCI_Qq_DEV_PTR q) = a % 2 ^ 32 ∧
      (((hostPut l u).setF (PCI_Qq_DEV_PTR q) a).setDma q v).pci.toHost = l ∧
      (((hostPut l u).setF (PCI_Qq_DEV_PTR q) a).setDma q v).recs = u.recs) ∧
      (((hostPut l u).setF (PCI_Qq_DEV_PTR q) a).setDma q v).dma q = v ∧
      (((hostPut l u).setF (PCI_Qq_DEV_PTR q) a).setDma q v).mem = u.mem) ∧
      Within [(PCI_Qq_DEV q, PCI_Qq_DEV q + 4)] s (((hostPut l u).setF (PCI_Qq_DEV_PTR q) a).setDma q v) := by
  refine ⟨⟨⟨?_, ?_, ?_⟩, dma_setDma_same _ _ _, ?_⟩, ?_⟩
  · rw [setDma_getF]
    exact getF_setF_same _ (PCI_Qq_DEV_PTR q) _ (Nat.zero_le 31) (Nat.lt_succ_self 31)
  · rw [setDma_toHost, setF_pci]
    rfl
  · rw [setDma_recs, setF_recs]
    rfl
  · rw [setDma_mem, setF_mem]
    rfl
  · refine Within.of_regs (Within.setF (Within.of_regs (Within.refl _ s) hregs) (PCI_Qq_DEV_PTR q) _ ?_) (setDma_regs _ _ _)
    exact ⟨_, List.mem_singleton_self _, Nat.le_refl _, Nat.lt_add_of_pos_right (by decide)⟩

/-- A record that does not fit is discarded. -/
theorem streamRecord_full (hw : s.waitsFor q = some (k, x, r)) (hclass : s.getF (PCI_Qq_CTL_CLASS q) ≠ 3)
    (hrank : s.outranked q = false) (hfull : 2 ^ s.getF (PCI_Qq_CTL_SIZE q) < ringUsed q s + (4 + r.bytes.length)) :
    streamRecord q s = ((recTaken q s).bump (PCI_Qq_CNT_DROP q)).setDma q { s.dma q with dropNext := true } := by
  unfold streamRecord
  rw [hw]
  dsimp only
  unfold ringUsed at hfull
  rw [if_neg (by simp [hclass]), if_neg (by simp [hrank]), if_pos hfull]
  rfl

/-- A record of class 3 gives way to what waits of another class. -/
theorem streamRecord_yields (hw : s.waitsFor q = some (k, x, r)) (hclass : s.getF (PCI_Qq_CTL_CLASS q) = 3)
    (hother : (recTaken q s).otherWaits = true) (htype : r.type ≠ 7) :
    streamRecord q s = ((recTaken q s).bump (PCI_Qq_CNT_REFCAP q)).setDma q { s.dma q with dropNext := true } := by
  unfold streamRecord
  rw [hw]
  dsimp only
  rw [if_pos (by simp only [hclass, decide_true, Bool.true_and]; exact hother), if_neg htype]
  rfl

/-- A discarded record is counted, and the next one carries DROP. -/
theorem discarded_shows {f : Fld} (hf : f.lo ≤ f.hi ∧ f.hi < 32) (hreg : f.reg = PCI_Qq_CNT q) (hregs : u.regs = s.regs)
    (hpci : u.pci = s.pci) (v : Dma) (hv : v.dropNext = true) :
    (Counted f s ((u.bump f).setDma q v) ∧ ((u.bump f).setDma q v).recs = u.recs ∧ (((u.bump f).setDma q v).dma q).dropNext = true
      ∧ ((u.bump f).setDma q v).pci.toHost = s.pci.toHost) ∧ Within [(PCI_Qq_CNT q, PCI_Qq_CNT q + 4)] s ((u.bump f).setDma q v) := by
  have hread : u.getF f = s.getF f := getF_of_rd (rd_of_regs hregs _)
  have hin : InAreas [(PCI_Qq_CNT q, PCI_Qq_CNT q + 4)] f.reg := ⟨_, List.mem_singleton_self _, by simp [hreg]⟩
  refine ⟨⟨?_, by simp, by simpa using hv, by simp [State.setDma, hpci]⟩, ?_⟩
  · exact ((counted_bump u f hf.1 hf.2).of_getF hread :)
  · exact ((((Within.refl _ s).of_regs hregs).setF f _ hin).of_regs (setDma_regs _ _ _))

/-! ## Replies of Marrow -/

/-- Sprout's counters alone step. -/
theorem obsCount_eq (p : Nat → Bool) (s : State) : ∃ o, obsCount p s = { s with obs := o } := by
  unfold obsCount
  generalize s.obsConfigs.filter (fun c => p c.2) = l
  induction l generalizing s with
  | nil => exact ⟨s.obs, rfl⟩
  | cons c t ih =>
    obtain ⟨o, ho⟩ := ih (obsBump c.1 s)
    exact ⟨o, ho⟩

/-- A line answered OK is accounted for by its stack, and by Sprout. -/
theorem mrwLine_ok (who cls a len : Nat) (w ok : Bool) (s : State) :
    ∃ m o, mrwLine who cls w ok a len 0 s = { s with mrw := m, obs := o } := by
  cases ok with
  | false =>
    obtain ⟨o, ho⟩ := obsCount_eq (fun w => bitsOf w 31 30 == 3 && bitsOf w 9 0 == who && (bitsOf w 29 22).testBit 0) s
    exact ⟨s.mrw, o, ho⟩
  | true =>
    obtain ⟨o, ho⟩ := obsCount_eq (fun w => bitsOf w 31 30 == 3 && bitsOf w 9 0 == who && (bitsOf w 29 22).testBit 0)
      (winAdmit (stackOf a) cls len s)
    have hline : mrwLine who cls w true a len 0 s =
      obsCount (fun w => bitsOf w 31 30 == 3 && bitsOf w 9 0 == who && (bitsOf w 29 22).testBit 0)
        (winAdmit (stackOf a) cls len s) := by
      simp [mrwLine, mrwCount, obsReply]
    exact ⟨_, o, hline.trans ho⟩

/-- A refusal for want of capacity is counted for its requester, and by Sprout. -/
theorem mrwCount_refused (who : Nat) (s : State) :
    ∃ o, mrwCount who 2 s = { s.bump (MRW_RQr_CNT0_REFCAP who) with obs := o } := by
  unfold mrwCount obsReply
  exact obsCount_eq _ _

/-! ## COPY queues -/

/-- A descriptor that the host has posted is executed. -/
theorem dmaCopyDescriptor_next {d host : List Byte} {codes : List Nat} (hq : q < 64) (hup : s.flag PCI_STAT_UP = true)
    (hd : d.length = 32) (hen : s.flag (PCI_Qq_CTL_EN q) = true) (hkind : s.getF (PCI_Qq_CTL_KIND q) = 2)
    (hposted : s.getF (PCI_Qq_HOST_PTR q) ≠ s.getF (PCI_Qq_DEV_PTR q)) :
    exec (.dmaCopyDescriptor q d host codes n) s = .next (copyDescriptor q d host codes (s.advance n)) := by
  have h : exec (.dmaCopyDescriptor q d host codes n) s = execDmaCopyDescriptor q d host codes n s := rfl
  simp [h, execDmaCopyDescriptor, hq, hup, hd, hen, hkind, hposted]

/-- Where the status of the descriptor at DEV lies in the host's memory (R356). -/
def statusPlace (q : Nat) (s : State) : Nat :=
  s.ringBase q + s.getF (PCI_Qq_DEV_PTR q) % (2 ^ s.getF (PCI_Qq_CTL_SIZE q) / 32) * 32 + 24

/-- The end of a descriptor's transfer from s that left u and came to r: what goes to the host, and DEV. -/
def copied (q : Nat) (toHost : List (Nat × List Nat)) (s u : State) : State :=
  (hostPut toHost u).setF (PCI_Qq_DEV_PTR q) (s.getF (PCI_Qq_DEV_PTR q) + 1)

/-- What a descriptor leaves, of which the transfer changed no register. -/
theorem copied_shows {toHost : List (Nat × List Nat)} (hregs : u.regs = s.regs) :
    ((copied q toHost s u).getF (PCI_Qq_DEV_PTR q) = (s.getF (PCI_Qq_DEV_PTR q) + 1) % 2 ^ 32
      ∧ (copied q toHost s u).pci.toHost = toHost ∧ (copied q toHost s u).mem = u.mem)
    ∧ Within [(PCI_Qq_DEV q, PCI_Qq_DEV q + 4)] s (copied q toHost s u) := by
  refine ⟨⟨?_, ?_, ?_⟩, ?_⟩
  · exact getF_setF_same _ (PCI_Qq_DEV_PTR q) _ (Nat.zero_le 31) (Nat.lt_succ_self 31)
  · exact congrArg Pcie.toHost (setF_pci _ _ _)
  · exact setF_mem _ _ _
  · exact ((Within.refl _ s).of_regs hregs).setF _ _ ⟨_, List.mem_singleton_self _, Nat.le_refl _, Nat.lt_add_of_pos_right (by decide)⟩

variable {d host : List Byte} {codes : List Nat}

/-- An invalid descriptor moves nothing (R356). -/
theorem copyDescriptor_invalid (hok : descOk d = false) (hquiet : (leAt d 20 1).testBit 1 = false) :
    copyDescriptor q d host codes s =
      copied q [(statusPlace q s, leNat 4 (2 ^ 31 + 3 * 2 ^ 28) ++ leNat 4 0)] s s := by
  unfold copyDescriptor
  simp [hok, hquiet, copied, statusPlace]

/-- A line that is answered at the first try. -/
theorem lineReply_ok {f : Nat → Nat} {m : Nat} {l : List Nat} (h : f (l.headD 0) = 0) : lineReply f (m + 1) l = ([], 0, l.tail) := by
  rw [lineReply, h]
  rfl

/-- What a transfer of one line out of Marrow, or into it, has read. -/
def lineOut (w : Bool) (a : Nat) (s : State) : List Nat := if w then [] else (memTake s.mem a 64).map BitVec.toNat

/-- The memory after a transfer of one line. -/
def lineMem (w : Bool) (a : Nat) (host : List Byte) (s : State) : List Host.Cell :=
  if w then memPut a (host.take 64) s.mem else s.mem

/-- A line that Marrow answers OK is transferred. -/
theorem copyLines_one {w : Bool} {a : Nat} (hcode : s.codeOf (stackOf a) (s.getF (MRW_RQr_CFG_CLASS 265)) 64 (codes.headD 0) = 0)
    (hperm : s.permits ⟨265, 0, w, a, 64, []⟩ = true) :
    ∃ m o, copyLines w 1 a host codes {} s =
      ({ lines := 1, out := lineOut w a s }, { s with mrw := m, obs := o, mem := lineMem w a host s }) := by
  obtain ⟨m, o, hline⟩ := mrwLine_ok 265 (s.getF (MRW_RQr_CFG_CLASS 265)) a 64 w true s
  refine ⟨m, o, ?_⟩
  rw [copyLines]
  dsimp only
  rw [hperm, if_pos rfl, lineReply_ok hcode]
  dsimp only
  rw [if_neg (by decide)]
  simp only [List.foldl_nil, hline]
  cases w with
  | false => rfl
  | true => rfl

/-- A valid descriptor of one line that Marrow answers OK. -/
theorem copyDescriptor_one {w : Bool} (hok : descOk d = true) (hquiet : (leAt d 20 1).testBit 1 = false)
    (hw : (leAt d 20 1).testBit 0 = w) (hlen : leAt d 16 4 = 64)
    (hcode : s.codeOf (stackOf (leAt d 8 8)) (s.getF (MRW_RQr_CFG_CLASS 265)) 64 (codes.headD 0) = 0)
    (hperm : s.permits ⟨265, 0, w, leAt d 8 8, 64, []⟩ = true) :
    ∃ m o, copyDescriptor q d host codes s = copied q
      ((if w then [] else [(leAt d 0 8, lineOut w (leAt d 8 8) s)]) ++ [(statusPlace q s, leNat 4 (2 ^ 31) ++ leNat 4 1)]) s
      { s with mrw := m, obs := o, mem := lineMem w (leAt d 8 8) host s } := by
  obtain ⟨m, o, hlines⟩ := copyLines_one (host := host) hcode hperm
  refine ⟨m, o, ?_⟩
  unfold copyDescriptor
  dsimp only
  rw [hok, hw, hlen, if_pos rfl, hlines, hquiet]
  cases w with
  | false => simp [copied, statusPlace, lineOut, memTake]
  | true => simp [copied, statusPlace, lineOut]

/-! ## BAR2 -/

/-- An access on a link that is up goes line by line. -/
theorem bar2Access_next {w : Bool} {o c : Nat} {l : List (Option Byte)} (hr : s.pwr.inReset = false) (hup : s.flag PCI_STAT_UP = true) :
    exec (.bar2Access w o l c n) s = .next ((lineParts l.length o l).foldl (bar2Line w c) (bar2Clear w (s.advance n))) := by
  have h : exec (.bar2Access w o l c n) s = execBar2Access w o l c n s := rfl
  simp [h, execBar2Access, hr, hup]

theorem lineParts_nil (m o : Nat) : lineParts m o [] = [] := by
  cases m with
  | zero => rfl
  | succ m => rfl

/-- An access that lies in one line has one part. -/
theorem lineParts_one {o : Nat} {l : List (Option Byte)} (hl : l ≠ []) (hfits : o % 64 + l.length ≤ 64) :
    lineParts l.length o l = [(o, l)] := by
  cases l with
  | nil => exact absurd rfl hl
  | cons b t =>
    rw [List.length_cons, lineParts, if_neg (by simp), List.take_of_length_le (by omega), List.drop_of_length_le (by omega),
      lineParts_nil]

/-- What a BAR2 read of Marrow returns. -/
def bar2Bytes (a len : Nat) (s : State) : List Nat := (memTake s.mem a len).map BitVec.toNat

/-- A part whose line is answered OK is done. -/
theorem bar2Line_ok {w : Bool} {o c a : Nat} {l : List (Option Byte)} (ha : s.bar2Addr o = some a)
    (hcode : s.bar2Code w a l.length c = 0) : bar2Line w c s (o, l) = bar2Done w a l 0 s := by
  simp [bar2Line, ha, hcode]

/-- The state in which a line that was refused waits. -/
def lineWaits (b : Bar2Line) (o : Obs) (s : State) : State :=
  { s.bump (MRW_RQr_CNT0_REFCAP 264) with obs := o, pci := { s.pci with lines := s.pci.lines ++ [b] } }

theorem lineWaits_shows (b : Bar2Line) (o : Obs) (s : State) :
    ((lineWaits b o s).pci.lines = s.pci.lines ++ [b] ∧ (lineWaits b o s).mem = s.mem ∧
      Counted (MRW_RQr_CNT0_REFCAP 264) s (lineWaits b o s)) ∧
      Within [(MRW_RQr_CNT0 264, MRW_RQr_CNT0 264 + 4)] s (lineWaits b o s) := by
  have hregs : (lineWaits b o s).regs = (s.bump (MRW_RQr_CNT0_REFCAP 264)).regs := rfl
  refine ⟨⟨rfl, ?_, ?_⟩, ?_⟩
  · dsimp only [lineWaits]
    rw [bump_mem]
  · have hcount := counted_bump s (MRW_RQr_CNT0_REFCAP 264) (by decide) (by decide)
    unfold Counted at hcount ⊢
    rw [getF_of_rd (rd_of_regs hregs _), hcount]
  · exact ((Within.refl _ s).setF (MRW_RQr_CNT0_REFCAP 264) _ (by decide)).of_regs hregs

/-- A part whose line is refused waits to be re-issued after 10 µs. -/
theorem bar2Line_refused {w : Bool} {o c a : Nat} {l : List (Option Byte)} (ha : s.bar2Addr o = some a)
    (hcode : s.bar2Code w a l.length c = 2) : ∃ p, bar2Line w c s (o, l) =
      lineWaits ⟨a, w, l, s.now + Config.ticksOfUs 10, s.now⟩ p s := by
  obtain ⟨p, hp⟩ := mrwCount_refused 264 s
  refine ⟨p, ?_⟩
  simp [bar2Line, ha, hcode, hp, lineWaits]

/-- A read that is answered OK returns the bytes of Marrow. -/
theorem bar2Done_read {a : Nat} {l : List (Option Byte)} : ∃ m o, bar2Done false a l 0 s =
    { s with mrw := m, obs := o, pci := { s.pci with rdata := s.pci.rdata ++ bar2Bytes a l.length s } } := by
  obtain ⟨m, o, hline⟩ := mrwLine_ok 264 (s.getF (MRW_RQr_CFG_CLASS 264)) a l.length false (s.bar2Ok false a l.length) s
  refine ⟨m, o, ?_⟩
  unfold bar2Done
  rw [hline]
  rfl

/-- A write that is answered OK stores its enabled bytes. -/
theorem bar2Done_write {a : Nat} {l : List (Option Byte)} : ∃ m o, bar2Done true a l 0 s = storeSome a l { s with mrw := m, obs := o } := by
  obtain ⟨m, o, hline⟩ := mrwLine_ok 264 (s.getF (MRW_RQr_CFG_CLASS 264)) a l.length true (s.bar2Ok true a l.length) s
  refine ⟨m, o, ?_⟩
  unfold bar2Done
  rw [hline]
  rfl

/-- A partial store changes Marrow alone. -/
theorem storeSome_eq (a : Nat) (l : List (Option Byte)) (s : State) : ∃ m, storeSome a l s = { s with mem := m } := by
  induction l generalizing a s with
  | nil => exact ⟨s.mem, rfl⟩
  | cons b t ih =>
    cases b with
    | none => exact ih _ _
    | some b =>
      obtain ⟨m, hm⟩ := ih (a + 1) (s.store a [b])
      exact ⟨m, hm⟩

/-- A partial store leaves every byte outside it. -/
theorem memGet_storeSome_out (l : List (Option Byte)) (a x : Nat) (s : State) (h : x < a ∨ a + l.length ≤ x) :
    memGet (storeSome a l s).mem x = memGet s.mem x := by
  induction l generalizing a s with
  | nil => rfl
  | cons b t ih =>
    rw [List.length_cons] at h
    have hrest := ih (a + 1)
    cases b with
    | none => exact hrest s (by omega)
    | some b => exact (hrest _ (by omega)).trans (memGet_memPut_out [b] _ _ _ (by simp only [List.length_singleton]; omega))

/-- A partial store writes the bytes that are enabled. -/
theorem memGet_storeSome_in (l : List (Option Byte)) (a i : Nat) (s : State) (h : i < l.length) :
    memGet (storeSome a l s).mem (a + i) = (l[i]?.getD none).getD (memGet s.mem (a + i)) := by
  induction l generalizing a i s with
  | nil => exact absurd h (Nat.not_lt_zero _)
  | cons b t ih =>
    cases i with
    | zero =>
      cases b with
      | none => exact memGet_storeSome_out t (a + 1) a s (by omega)
      | some b => exact (memGet_storeSome_out t (a + 1) a _ (by omega)).trans (memGet_memPut_in [b] _ a 0 (by simp))
    | succ i =>
      have ht : i < t.length := by simpa using h
      have hi : a + (i + 1) = a + 1 + i := by omega
      rw [hi]
      cases b with
      | none => exact ih (a + 1) i s ht
      | some b =>
        refine (ih (a + 1) i _ ht).trans ?_
        rw [State.store, memGet_memPut_out [b] _ _ _ (by simp only [List.length_singleton]; omega)]
        rfl

variable {c : Nat} {l : Bar2Line} {rest : List Bar2Line}

/-- A line whose time has come is re-issued. -/
theorem bar2Retry_next (hl : s.pci.lines = l :: rest) (htime : l.again ≤ (s.advance n).now) :
    exec (.bar2Retry c n) s = .next (
      let s1 := s.advance n
      let c := s1.bar2Code l.write l.addr l.data.length c
      if c != 2 && c != 3 then bar2Done l.write l.addr l.data c (bar2Clear l.write { s1 with pci := { s1.pci with lines := rest } })
      else if l.first + 20 * Config.ticksPerMs ≤ s1.now then
        ({ s1 with pci := { s1.pci with lines := rest, rdata := if l.write then s1.pci.rdata else List.replicate l.data.length 0 } }).bump PCI_CNT_TMO
      else mrwCount 264 c { s1 with pci := { s1.pci with lines := { l with again := l.again + Config.ticksOfUs 10 } :: rest } }) := by
  have h : exec (.bar2Retry c n) s = execBar2Retry c n s := rfl
  have hl' : (s.advance n).pci.lines = l :: rest := by rw [advance_pci, hl]
  rw [h, execBar2Retry]
  dsimp only
  rw [hl']
  dsimp only
  rw [if_neg (Nat.not_lt.mpr htime)]

/-! ## MSI-X -/

variable {v : Nat}

/-- The message of vector v (R358). -/
def msixMessage (v : Nat) (s : State) : Nat × List Nat :=
  ((s.rd (PCI_MSIX v 0)).toNat + 2 ^ 32 * (s.rd (PCI_MSIX v 1)).toNat, leNat 4 (s.rd (PCI_MSIX v 2)).toNat)

theorem msixSend_open (hmask : (s.rd (PCI_MSIX v 3)).toNat.testBit 0 = false) :
    msixSend v s = hostPut (s.pci.toHost ++ [msixMessage v s]) s := by
  unfold msixSend
  rw [if_neg (by simp [hmask])]
  rfl

theorem msixSend_masked (hmask : (s.rd (PCI_MSIX v 3)).toNat.testBit 0 = true) :
    msixSend v s = s.setF ⟨PCI_PBA (v / 32), v % 32, v % 32⟩ 1 := by
  unfold msixSend
  rw [if_pos hmask]

/-- Queue q starts to count anew after its signal. -/
def signalled (q : Nat) (s : State) : State := (hostPut [] s).setDma q { s.dma q with since := 0, first := none }

/-- A queue that is due signals its vector, where no event message waits. -/
theorem msixSignal_due (hq : q < 64) (hup : s.flag PCI_STAT_UP = true) (hen : s.flag (PCI_Qq_CTL_EN q) = true)
    (hkind : s.getF (PCI_Qq_CTL_KIND q) = 1) (hdue : (s.advance n).signalDue q (s.advance n).now = true) (hmsgs : s.msiQueue = []) :
    exec (.msixSignal q n) s = .next (msixSend (s.getF (PCI_Qq_CTL_VEC q)) (signalled q { s.advance n with msiQueue := [] })) := by
  have h : exec (.msixSignal q n) s = execMsixSignal q n s := rfl
  obtain ⟨t, ht⟩ := advance_eq n s
  have hup' : ({ s with syscnt := t } : State).flag PCI_STAT_UP = true := hup
  rw [ht] at hdue
  rw [h, execMsixSignal, ht]
  dsimp only
  rw [hup', hmsgs, List.foldl_nil, if_neg (by decide), if_pos]
  · rfl
  · simp only [Bool.and_eq_true, decide_eq_true_eq, beq_iff_eq]
    exact ⟨⟨⟨hq, hen⟩, hkind⟩, hdue⟩

/-- The event message that waits is sent, and a queue that is not enabled sends none. -/
theorem msixSignal_event (hup : s.flag PCI_STAT_UP = true) (hen : s.flag (PCI_Qq_CTL_EN q) = false) (hmsgs : s.msiQueue = [v])
    (hmask : (s.rd (PCI_MSIX v 3)).toNat.testBit 0 = false) :
    exec (.msixSignal q n) s = .next (hostPut [msixMessage v s] { s.advance n with msiQueue := [] }) := by
  have h : exec (.msixSignal q n) s = execMsixSignal q n s := rfl
  obtain ⟨t, ht⟩ := advance_eq n s
  have hup' : ({ s with syscnt := t } : State).flag PCI_STAT_UP = true := hup
  have hopen := msixSend_open (s := hostPut [] { s with syscnt := t, msiQueue := [] }) hmask
  rw [h, execMsixSignal, ht]
  dsimp only
  rw [hup', hmsgs, List.foldl_cons, List.foldl_nil, if_neg (by decide), hopen, if_neg]
  · rfl
  · intro hall
    simp only [Bool.and_eq_true] at hall
    exact absurd ((show s.flag (PCI_Qq_CTL_EN q) = true from hall.1.1.2).symm.trans hen) (by decide)

end

/-! ## The statement -/

/-- A vector's pending bit lies in the PBA. -/
theorem pba_inAreas {v : Nat} (hv : v < 64) : InAreas [(PCI_PBA 0, PCI_PBA 0 + 8)] (PCI_PBA (v / 32)) :=
  ⟨_, List.mem_singleton_self _, by unfold PCI_PBA; omega, by unfold PCI_PBA; omega⟩

/-- A pending bit that is set reads 1. -/
theorem testBit_setF_one (s : State) (r b : Nat) (hb : b < 32) : ((s.setF ⟨r, b, b⟩ 1).rd r).toNat.testBit b = true := by
  have hget : (s.setF ⟨r, b, b⟩ 1).getF ⟨r, b, b⟩ = 1 := getF_setF_fits s ⟨r, b, b⟩ 1 ⟨Nat.le_refl _, hb⟩ (by simp)
  have hbit := testBit_bitsOf ((s.setF ⟨r, b, b⟩ 1).rd r).toNat b b 0
  rw [show bitsOf ((s.setF ⟨r, b, b⟩ 1).rd r).toNat b b = 1 from hget] at hbit
  simpa using hbit.symm

/-- Settles O47. -/
theorem hostDma : Obligations.HostDma := by
  unfold Obligations.HostDma
  refine ⟨?_, ?_, ?_, ?_, ?_, ?_, ?_, ?_, ?_, ?_, ?_, ?_, ?_, ?_, ?_, ?_, ?_⟩
  · intro s q n k x r hq hup hen hkind hw hclass hrank hfits
    simp only [decide_eq_true_eq, beq_iff_eq, bne_iff_ne, Bool.not_eq_true'] at hq hkind hw hclass hrank hfits
    refine ⟨_, dmaStreamRecord_next hq hup hen hkind, ?_⟩
    obtain ⟨c, hc⟩ := advance_eq n s
    rw [hc, streamRecord_placed (s := { s with syscnt := c }) hw hclass hrank hfits]
    obtain ⟨⟨⟨hdev, hhost, hrecs⟩, hdma, hmem⟩, hin⟩ := placed_shows (s := s) (u := recTaken q { s with syscnt := c })
      (q := q) (ringWrites (s.ringBase q) (2 ^ s.getF (PCI_Qq_CTL_SIZE q)) (s.getF (PCI_Qq_DEV_PTR q)) (tagged (s.dma q) r)
        ++ if s.wbAddr q = 0 then [] else [(s.wbAddr q, leNat 4 (devBehind q r s))]) (devBehind q r s)
      { s.dma q with
        dropNext := false, since := (s.dma q).since + (4 + r.bytes.length)
        first := some ((s.dma q).first.getD ({ s with syscnt := c } : State).now) } rfl
    exact ⟨⟨hdev.trans (Nat.mod_mod _ _), hhost, hrecs, congrArg Dma.dropNext hdma, congrArg Dma.since hdma, hmem⟩, hin⟩
  · intro s q n k x r hq hup hen hkind hw hclass hrank hfull
    simp only [decide_eq_true_eq, beq_iff_eq, bne_iff_ne, Bool.not_eq_true'] at hq hkind hw hclass hrank hfull
    refine ⟨_, dmaStreamRecord_next hq hup hen hkind, ?_⟩
    obtain ⟨c, hc⟩ := advance_eq n s
    rw [hc, streamRecord_full (s := { s with syscnt := c }) hw hclass hrank hfull]
    obtain ⟨⟨hcount, hrecs, hdrop, hhost⟩, hin⟩ := discarded_shows (s := s) (u := recTaken q { s with syscnt := c })
      (q := q) (f := PCI_Qq_CNT_DROP q) (by simp [PCI_Qq_CNT_DROP]) rfl rfl rfl { s.dma q with dropNext := true } rfl
    refine ⟨⟨?_, hcount, hrecs, hdrop, hhost⟩, hin⟩
    exact hin.getF (PCI_Qq_DEV_PTR q) (by simp [PCI_Qq_DEV_PTR, PCI_Qq_DEV, PCI_Qq_CNT])
  · intro s q n k x r hq hup hen hkind hw hclass htype hother
    simp only [decide_eq_true_eq, beq_iff_eq, bne_iff_ne] at hq hkind hw hclass htype
    refine ⟨_, dmaStreamRecord_next hq hup hen hkind, ?_⟩
    obtain ⟨c, hc⟩ := advance_eq n s
    rw [hc, streamRecord_yields (s := { s with syscnt := c }) hw hclass hother htype]
    exact discarded_shows (s := s) (u := recTaken q { s with syscnt := c })
      (q := q) (f := PCI_Qq_CNT_REFCAP q) (by simp [PCI_Qq_CNT_REFCAP]) rfl rfl rfl { s.dma q with dropNext := true } rfl
  · intro s q n hdown
    refine ⟨_, rfl, if_neg ?_⟩
    simp only [Bool.or_eq_true, Bool.not_eq_true'] at hdown
    rw [advance_flag, advance_flag]
    obtain h | h := hdown
    · simp [h]
    · simp [h]
  · intro s q n k x r hq hclass hw htime
    simp only [decide_eq_true_eq, beq_iff_eq] at hq hclass hw htime
    obtain ⟨c, hc⟩ := advance_eq n s
    rw [hc] at htime
    have hexec : exec (.dmaClass1WaitTimeout q n) s =
        .next (((recTaken q (s.advance n)).bump (PCI_Qq_CNT_REFCAP q)).setDma q { (s.advance n).dma q with dropNext := true }) := by
      have h : exec (.dmaClass1WaitTimeout q n) s = execDmaClass1WaitTimeout q n s := rfl
      have hw' : ({ s with syscnt := c } : State).waitsFor q = some (k, x, r) := hw
      rw [h, execDmaClass1WaitTimeout, hc]
      dsimp only
      rw [hw']
      dsimp only
      rw [if_pos]
      · rfl
      · simp only [Bool.and_eq_true, decide_eq_true_eq, beq_iff_eq]
        exact ⟨⟨hq, hclass⟩, htime⟩
    rw [hc] at hexec
    refine ⟨_, hexec, ?_⟩
    obtain ⟨⟨hcount, hrecs, hdrop, -⟩, hin⟩ := discarded_shows (s := s) (u := recTaken q { s with syscnt := c })
      (q := q) (f := PCI_Qq_CNT_REFCAP q) (by simp [PCI_Qq_CNT_REFCAP]) rfl rfl rfl { s.dma q with dropNext := true } rfl
    exact ⟨⟨hcount, hrecs, hdrop⟩, hin⟩
  · intro s q n k x r hclass hw htime
    simp only [decide_eq_true_eq, beq_iff_eq] at hclass hw htime
    refine ⟨_, rfl, ?_⟩
    obtain ⟨c, hc⟩ := advance_eq n s
    rw [hc] at htime ⊢
    have hw' : ({ s with syscnt := c } : State).waitsFor q = some (k, x, r) := hw
    rw [hw']
    dsimp only
    rw [if_neg]
    simp only [Bool.and_eq_true, decide_eq_true_eq, not_and, Nat.not_le]
    exact fun _ => htime
  · intro s q n d host codes hq hup hd hen hkind hposted hquiet hbad
    simp only [decide_eq_true_eq, beq_iff_eq, bne_iff_ne, Bool.not_eq_true'] at hq hd hkind hposted hquiet hbad
    refine ⟨_, dmaCopyDescriptor_next hq hup hd hen hkind hposted, ?_⟩
    obtain ⟨c, hc⟩ := advance_eq n s
    rw [hc, copyDescriptor_invalid hbad hquiet]
    exact copied_shows (s := { s with syscnt := c }) (u := { s with syscnt := c }) rfl
  · intro s q n d host codes hq hup hd hen hkind hposted hquiet hok hread hlen hcode hperm
    simp only [decide_eq_true_eq, beq_iff_eq, bne_iff_ne, Bool.not_eq_true'] at hq hd hkind hposted hquiet hread hlen hcode
    refine ⟨_, dmaCopyDescriptor_next hq hup hd hen hkind hposted, ?_⟩
    obtain ⟨c, hc⟩ := advance_eq n s
    rw [hc] at hcode hperm
    obtain ⟨m, o, hdo⟩ := copyDescriptor_one (q := q) (host := host) hok hquiet hread hlen hcode hperm
    rw [hc, hdo]
    exact copied_shows (s := { s with syscnt := c }) (u := { s with syscnt := c, mrw := m, obs := o }) rfl
  · intro s q n d host codes hq hup hd hen hkind hposted hquiet hok hwrite hlen hhost hcode hperm
    simp only [decide_eq_true_eq, beq_iff_eq, bne_iff_ne, Bool.not_eq_true'] at hq hd hkind hposted hquiet hlen hhost hcode
    refine ⟨_, dmaCopyDescriptor_next hq hup hd hen hkind hposted, ?_⟩
    obtain ⟨c, hc⟩ := advance_eq n s
    rw [hc] at hcode hperm
    obtain ⟨m, o, hdo⟩ := copyDescriptor_one (q := q) (host := host) hok hquiet hwrite hlen hcode hperm
    rw [hc, hdo]
    have htake : host.take 64 = host := List.take_of_length_le (Nat.le_of_eq hhost)
    obtain ⟨⟨hdev, hto, hmem⟩, hin⟩ := copied_shows (q := q)
      (toHost := (if true then [] else [(leAt d 0 8, lineOut true (leAt d 8 8) ({ s with syscnt := c } : State))]) ++
        [(statusPlace q { s with syscnt := c }, leNat 4 (2 ^ 31) ++ leNat 4 1)])
      (s := { s with syscnt := c })
      (u := { s with syscnt := c, mrw := m, obs := o, mem := lineMem true (leAt d 8 8) host { s with syscnt := c } }) rfl
    refine ⟨⟨hdev, hto, ?_, fun a ha => ?_⟩, hin⟩
    · rw [hmem]
      dsimp only [lineMem]
      rw [if_pos rfl, htake, ← hhost]
      exact memTake_memPut host s.mem _
    · rw [hmem]
      dsimp only [lineMem]
      rw [if_pos rfl, htake]
      exact memGet_memPut_out _ _ _ _ (by rw [hhost]; exact ha)
  · intro s o c n a l hr hup ha hfits hl hcode
    simp only [decide_eq_true_eq, beq_iff_eq, Bool.not_eq_true', List.isEmpty_eq_false_iff] at hr ha hfits hl hcode
    refine ⟨_, bar2Access_next hr hup, ?_⟩
    obtain ⟨t, ht⟩ := advance_eq n s
    rw [ht] at ha hcode
    rw [ht, lineParts_one hl hfits, List.foldl_cons, List.foldl_nil,
      bar2Line_ok (s := bar2Clear false { s with syscnt := t }) ha hcode]
    obtain ⟨m, p, hdone⟩ := bar2Done_read (s := bar2Clear false { s with syscnt := t }) (a := a) (l := l)
    rw [hdone]
    exact ⟨⟨rfl, rfl, rfl⟩, (Within.refl _ s).of_regs rfl⟩
  · intro s o c n a l hr hup ha hfits hl hcode
    simp only [decide_eq_true_eq, beq_iff_eq, Bool.not_eq_true', List.isEmpty_eq_false_iff] at hr ha hfits hl hcode
    refine ⟨_, bar2Access_next hr hup, ?_⟩
    obtain ⟨t, ht⟩ := advance_eq n s
    rw [ht] at ha hcode
    rw [ht, lineParts_one hl hfits, List.foldl_cons, List.foldl_nil,
      bar2Line_ok (s := bar2Clear true { s with syscnt := t }) ha hcode]
    obtain ⟨m, p, hdone⟩ := bar2Done_write (s := bar2Clear true { s with syscnt := t }) (a := a) (l := l)
    rw [hdone]
    have hin := fun i hi => memGet_storeSome_in l a i { bar2Clear true { s with syscnt := t } with mrw := m, obs := p } hi
    have hout := fun i hi => memGet_storeSome_out l a i { bar2Clear true { s with syscnt := t } with mrw := m, obs := p } hi
    obtain ⟨mem, hstore⟩ := storeSome_eq a l { bar2Clear true { s with syscnt := t } with mrw := m, obs := p }
    rw [hstore] at hin hout ⊢
    exact ⟨⟨hin, hout, rfl⟩, (Within.refl _ s).of_regs rfl⟩
  · intro s w o c n a l hr hup ha hfits hl hcode
    simp only [decide_eq_true_eq, beq_iff_eq, Bool.not_eq_true', List.isEmpty_eq_false_iff] at hr ha hfits hl hcode
    refine ⟨_, bar2Access_next hr hup, ?_⟩
    obtain ⟨t, ht⟩ := advance_eq n s
    obtain ⟨p, hp⟩ : ∃ p, bar2Clear w ({ s with syscnt := t } : State) =
        { s with syscnt := t, pci := { s.pci with rdata := p } } := by
      cases w
      · exact ⟨[], rfl⟩
      · exact ⟨s.pci.rdata, rfl⟩
    rw [ht] at ha hcode
    obtain ⟨obs, hline⟩ := bar2Line_refused (s := { s with syscnt := t, pci := { s.pci with rdata := p } }) ha hcode
    rw [ht, lineParts_one hl hfits, List.foldl_cons, List.foldl_nil, hp, hline]
    exact lineWaits_shows _ obs { s with syscnt := t, pci := { s.pci with rdata := p } }
  · intro s c n l rest hl hagain hcode hgone
    simp only [decide_eq_true_eq, beq_iff_eq] at hl hagain hcode hgone
    refine ⟨_, bar2Retry_next hl hagain, ?_⟩
    dsimp only
    rw [hcode, if_neg (by decide), if_pos hgone]
    obtain ⟨t, ht⟩ := advance_eq n s
    rw [ht]
    refine ⟨⟨?_, ?_, ?_, fun hread => ?_⟩, ?_⟩
    · rw [bump_pci]
    · exact (counted_bump _ PCI_CNT_TMO (by decide) (by decide)).of_getF rfl
    · rw [bump_mem]
    · rw [bump_pci, hread]
      rfl
    · exact Within.setF ((Within.refl _ s).of_regs rfl) PCI_CNT_TMO _ (by decide)
  · intro s c n l rest hl hagain hread hcode
    simp only [decide_eq_true_eq, beq_iff_eq, Bool.not_eq_true'] at hl hagain hread hcode
    refine ⟨_, bar2Retry_next hl hagain, ?_⟩
    dsimp only
    rw [hcode, if_pos (by decide), hread]
    obtain ⟨t, ht⟩ := advance_eq n s
    rw [ht]
    obtain ⟨m, p, hdone⟩ := bar2Done_read (a := l.addr) (l := l.data)
      (s := bar2Clear false { s with syscnt := t, pci := { s.pci with lines := rest } })
    rw [hdone]
    exact ⟨⟨rfl, rfl, rfl⟩, (Within.refl _ s).of_regs rfl⟩
  · intro s q n hq hup hen hkind hdue hmsgs hmask
    simp only [decide_eq_true_eq, beq_iff_eq, Bool.not_eq_true', List.isEmpty_iff] at hq hkind hmsgs hmask
    refine ⟨_, msixSignal_due hq hup hen hkind hdue hmsgs, ?_⟩
    obtain ⟨c, hc⟩ := advance_eq n s
    rw [hc, msixSend_open (s := signalled q { s with syscnt := c, msiQueue := [] }) hmask]
    have hq : ((hostPut ([] ++ [msixMessage (s.getF (PCI_Qq_CTL_VEC q)) s])
        (signalled q { s with syscnt := c, msiQueue := [] })).dma q) = { s.dma q with since := 0, first := none } :=
      dma_setDma_same _ _ _
    exact ⟨⟨rfl, congrArg Dma.since hq, congrArg Dma.first hq⟩, (Within.refl _ s).of_regs rfl⟩
  · intro s q n hq hup hen hkind hdue hmsgs hmask
    simp only [decide_eq_true_eq, beq_iff_eq, List.isEmpty_iff] at hq hkind hmsgs
    refine ⟨_, msixSignal_due hq hup hen hkind hdue hmsgs, ?_⟩
    obtain ⟨c, hc⟩ := advance_eq n s
    rw [hc, msixSend_masked (s := signalled q { s with syscnt := c, msiQueue := [] }) hmask]
    have hvec : s.getF (PCI_Qq_CTL_VEC q) < 64 := Nat.mod_lt _ (Nat.two_pow_pos 6)
    generalize s.getF (PCI_Qq_CTL_VEC q) = v at hvec
    refine ⟨⟨?_, testBit_setF_one _ _ _ (Nat.mod_lt _ (by decide)), ?_⟩, ?_⟩
    · rw [setF_pci]
      rfl
    · have hdma : ((signalled q { s with syscnt := c, msiQueue := [] }).setF ⟨PCI_PBA (v / 32), v % 32, v % 32⟩ 1).dma q =
          (signalled q { s with syscnt := c, msiQueue := [] }).dma q := by rw [State.dma, setF_pci]; rfl
      rw [hdma]
      exact congrArg Dma.since (dma_setDma_same _ _ _)
    · exact Within.setF ((Within.refl _ s).of_regs rfl) _ _ (pba_inAreas hvec)
  · intro s q n v hup hen hmsgs hmask
    simp only [beq_iff_eq, Bool.not_eq_true'] at hen hmsgs hmask
    refine ⟨_, msixSignal_event hup hen hmsgs hmask, ?_⟩
    obtain ⟨c, hc⟩ := advance_eq n s
    rw [hc]
    exact ⟨⟨rfl, rfl⟩, (Within.refl _ s).of_regs rfl⟩

end Sys2Proof.Machine
end

section
/-! SUPPORT. The security block (R541 to R553): what its records, its fuses and its licence keep through a command, and the
statement on its commands. -/

set_option Elab.async false

namespace Sys2Proof.Machine

theorem EventStep.sec {s u : State} (h : EventStep s u) : u.sec = s.sec := (congrArg State.sec h.eq :)
theorem EventStep.win {s u : State} (h : EventStep s u) : u.win = s.win := (congrArg State.win h.eq :)
theorem LaneStep.sec {s u : State} (h : LaneStep s u) : u.sec = s.sec := (congrArg State.sec h.eq :)
theorem LaneStep.lic {s u : State} (h : LaneStep s u) : u.exc.lic = s.exc.lic := (congrArg (·.exc.lic) h.eq :)
theorem paBalls_sec (a b c d : Bool) (s : State) : (paBalls a b c d s).sec = s.sec := rfl
theorem getF_withExc (x : Exciter) (s : State) (f : Fld) : ({ s with exc := x } : State).getF f = s.getF f := rfl
theorem sec_withExc (x : Exciter) (s : State) : ({ s with exc := x } : State).sec = s.sec := rfl

/-! ## What the licence's followers keep -/

/-- From s to u the records and fuses, the licence in force and its shown state stand. -/
structure LicKept (s u : State) : Prop where
  sec : u.sec = s.sec
  lic : u.exc.lic = s.exc.lic
  stat : u.getF EXC_LIC_STAT_STATE = s.getF EXC_LIC_STAT_STATE

namespace LicKept
variable {s u v : State}

theorem refl (s : State) : LicKept s s := ⟨rfl, rfl, rfl⟩

theorem trans (h : LicKept s u) (hv : LicKept u v) : LicKept s v :=
  ⟨hv.sec.trans h.sec, hv.lic.trans h.lic, hv.stat.trans h.stat⟩

theorem setF (h : LicKept s u) (f : Fld) (n : Nat) (hf : f.reg ≠ EXC_LIC_STAT) : LicKept s (u.setF f n) :=
  ⟨(setF_sec _ _ _).trans h.sec, (congrArg Exciter.lic (setF_exc _ _ _)).trans h.lic,
    (getF_setF_reg _ _ _ _ (Ne.symm hf)).trans h.stat⟩

theorem raise (h : LicKept s u) (e i : Nat) : LicKept s (Machine.raise e i u) :=
  have hstep := raise_step e i u
  ⟨hstep.sec.trans h.sec,
    (congrArg Exciter.lic hstep.exc).trans h.lic, ((raise_within e i u).getF _ (by decide)).trans h.stat⟩

theorem slk (h : LicKept s u) (x : Slk) : LicKept s { u with slk := x } := ⟨h.sec, h.lic, h.stat⟩

theorem pins (h : LicKept s u) (x : Pins) : LicKept s { u with pins := x } := ⟨h.sec, h.lic, h.stat⟩

/-- A change of lanes follows. -/
theorem lanes (h : LicKept s u) (hstep : LaneStep u v) (hw : Within laneArea u v) : LicKept s v :=
  ⟨hstep.sec.trans h.sec, hstep.lic.trans h.lic,
    (hw.getF _ (laneArea_below (by decide))).trans h.stat⟩

end LicKept

/-! ## The service link -/

section
variable {s u : State}

theorem LicKept.slEnter (h : LicKept s u) (st : Nat) : LicKept s (slEnter st u) := by
  unfold Machine.slEnter
  exact (h.setF SLK_STAT_STATE st (by decide)).pins _

theorem LicKept.slRetune (h : LicKept s u) (c : Nat) : LicKept s (slRetune c u) := by
  unfold Machine.slRetune
  exact (((h.setF SLK_STAT_CH c (by decide)).setF SLK_STAT_LOCK 0 (by decide)).setF CLK_DOM_SLK 0 (by decide)).slk _

theorem LicKept.slTune (h : LicKept s u) (goal c : Nat) : LicKept s (slTune goal c u) := by
  have hgoal := h.slk { u.slk with goal := goal, rx := none }
  unfold Machine.slTune
  dsimp only
  split
  · exact hgoal.slEnter _
  split
  · exact hgoal
  · refine LicKept.slEnter (LicKept.slRetune ?_ c) 1
    split
    · exact hgoal.slk _
    · exact hgoal

theorem LicKept.slReturn (h : LicKept s u) (ret c : Nat) : LicKept s (slReturn ret c u) := by
  unfold Machine.slReturn
  split
  · exact h.slTune _ _
  split
  · exact h.slTune _ _
  · exact h.slTune _ _

theorem LicKept.slTxEnd (h : LicKept s u) : LicKept s (slTxEnd u) := by
  have hhop : LicKept s (if u.slk.txHop then slHopNext u else u) := by
    split
    · exact h.setF SLK_HOPCTL_IDX _ (by decide)
    · exact h
  have hover : LicKept s (slTxOver u) := by
    unfold slTxOver slReqLow
    exact (hhop.slk _).pins _
  exact hover.slReturn _ _

theorem LicKept.slDutyShow (h : LicKept s u) : LicKept s (slDutyShow u) := by
  refine h.trans (forEach_rel LicKept.refl LicKept.trans (fun b _ x => (LicKept.refl x).setF _ _ ?_) u)
  simp only [SLK_DUTY_MS, SLK_DUTY, EXC_LIC_STAT]
  omega

theorem LicKept.slTxAbort (h : LicKept s u) (cause : Nat) : LicKept s (slTxAbort cause u) := by
  have hcount := (h.setF SLK_TXSTAT_ACAUSE cause (by decide)).setF SLK_CNT4_TXABORT
    (min ((u.setF SLK_TXSTAT_ACAUSE cause).getF SLK_CNT4_TXABORT + 1) (2 ^ (15 + 1 - 0) - 1)) (by decide)
  have hcut {x : State} (hx : LicKept s x) : LicKept s (slCut x) := by
    unfold slCut slDutyAdd
    dsimp only
    have hair := hx.setF SLK_TXSTAT_AIR_US ((x.now - x.slk.txAt) * 100 / 196608 / 2) (by decide)
    split
    · exact hair
    · exact (hair.slk _).slDutyShow
  unfold Machine.slTxAbort
  dsimp only
  split
  · exact (hcut hcount).raise _ _
  · exact hcount

theorem LicKept.slLicence (h : LicKept s u) (st : Nat) (bands : List SlBand) : LicKept s (slLicence st bands u) := by
  unfold Machine.slLicence
  extract_lets old bins s1 link s2
  have hs1 : LicKept s s1 := (h.setF SLK_LIC_STATE st (by decide)).setF SLK_LIC_NBAND bands.length (by decide)
  have hs2 : LicKept s s2 := by
    unfold s2
    split
    · exact (hs1.slk _).slDutyShow
    · exact hs1
  split
  · exact (hs2.slTxAbort 6).slTxEnd
  · exact hs2

end

/-! ## The exciter -/

theorem laneMute_licKept {i : Nat} (hi : i < 8) (c : Nat) (s : State) : LicKept s (laneMute i c s) := by
  have hreg : (XLi_STAT_MCAUSE i).reg ≠ EXC_LIC_STAT := by
    show XLi_STAT i ≠ EXC_LIC_STAT
    simp only [XLi_STAT, EXC_LIC_STAT]
    omega
  unfold laneMute
  exact (((((LicKept.refl s).lanes (laneSilent_step i s 3) (laneSilent_within s 3 hi)).setF (XLi_STAT_MCAUSE i) c hreg).setF
    EXC_STAT_MCAUSE c (by decide)).raise _ _)

/-- Checking the lanes against a record that has become VALID keeps the record (R478). -/
theorem licRecheck_licKept (s : State) : LicKept s (licRecheck s) := by
  unfold licRecheck
  refine (forEach_rel LicKept.refl LicKept.trans (fun i hi x => ?_) s).raise _ _
  have hi := List.mem_range.mp hi
  have hpwr {y : State} (hy : LicKept x y) (hi' lo : Nat) (n : Nat) : LicKept x (y.setF ⟨XLi_PWR i, hi', lo⟩ n) := by
    refine hy.setF _ _ ?_
    show XLi_PWR i ≠ EXC_LIC_STAT
    simp only [XLi_PWR, EXC_LIC_STAT]
    omega
  have hlane {y : State} (hy : LicKept x y) (l : Lane) : LicKept x (y.setLane i l) := ⟨hy.sec, hy.lic, hy.stat⟩
  split
  · exact .refl x
  extract_lets s0
  have h0 : LicKept x s0 := by
    unfold s0
    split
    · split
      · extract_lets cut s2
        have h2 : LicKept x s2 := hpwr (.refl x) _ _ _
        split
        · extract_lets s3
          have h3 : LicKept x s3 := hlane h2 _
          split
          · exact h3
          · exact hpwr h3 _ _ _
        · exact h2
      · exact .refl x
    · exact .refl x
  split
  · split
    · exact h0
    · exact h0.trans (laneMute_licKept hi _ _)
  split
  · exact h0.lanes (laneUnmute_step i _) (laneUnmute_within _ hi)
  · exact h0

theorem excHold_sec (c : Nat) (s : State) : (excHold c s).sec = s.sec := by
  obtain ⟨x, hx⟩ := excHold_eq c s
  have henter : (excEnter 6 s).sec = s.sec := by
    rw [excEnter_eq, (lanesFollow_lanes 6 _).1.sec, excBalls, paBalls_sec, setF_sec, excReady_of_ne (by decide)]
  rw [hx]
  split
  · rw [sec_withExc, (excMuted_step c _).sec, henter]
  · rfl

theorem licLost_sec (s : State) : (licLost s).sec = s.sec := by rw [licLost, excHold_sec, sec_withExc]

/-! ## The licence record -/

theorem licTake_sec (l : List Byte) (s : State) : (licTake l s).sec = s.sec := by
  unfold licTake
  extract_lets r s1 slOff slLen bands sl s2
  clear_value bands
  have hs1 : s1.sec = s.sec := (setF_sec _ _ _).trans (setF_sec _ _ _)
  have hsl (x : State) : (sl x).sec = x.sec := by
    unfold sl
    split
    · exact ((LicKept.refl x).slLicence _ _).sec
    split
    · exact ((LicKept.refl x).slLicence _ _).sec
    · exact ((LicKept.refl x).slLicence _ _).sec
  have hs2 : s2.sec = s.sec := (setF_sec _ _ _).trans ((setF_sec _ _ _).trans hs1)
  clear_value s2
  split
  · rw [hsl, (licRecheck_licKept _).sec, sec_withExc, hs2]
  · rw [hsl, licLost_sec, setF_sec, setF_sec, hs1]

/-- State s with another licence in force. -/
def State.withLic (x : Option Licence) (s : State) : State := { s with exc := { s.exc with lic := x } }

theorem withLic_lic (x : Option Licence) (s : State) : (s.withLic x).exc.lic = x := rfl
theorem withLic_getF (x : Option Licence) (s : State) (f : Fld) : (s.withLic x).getF f = s.getF f := rfl

/-- The service-link section of a record with its verdict takes effect (R506). -/
def licLink (l : List Byte) (r : Nat × Licence) (s : State) : State :=
  if leAt l 22 2 = 0 then slLicence 0 [] s
  else match (if r.1 = 0 && leAt l 20 2 + leAt l 22 2 ≤ l.length then slSection r.2.sl else none) with
    | some bs => slLicence 2 bs s
    | none => slLicence 1 [] s

theorem licLink_licKept (l : List Byte) (r : Nat × Licence) (s : State) : LicKept s (licLink l r s) := by
  unfold licLink
  split
  · exact (LicKept.refl s).slLicence _ _
  split
  · exact (LicKept.refl s).slLicence _ _
  · exact (LicKept.refl s).slLicence _ _

/-- The registers of a record that is VALID. -/
def licShown (l : List Byte) (r : Nat × Licence) (s : State) : State :=
  (((s.setF EXC_LIC_SEQ_RECSEQ (leAt l 8 4)).setF EXC_LIC_STAT_REASON r.1).setF EXC_LIC_STAT_STATE 2).setF
    EXC_LIC_STAT_NENT r.2.entries.length

theorem licShown_state (l : List Byte) (r : Nat × Licence) (s : State) : (licShown l r s).getF EXC_LIC_STAT_STATE = 2 :=
  (getF_setF_apart _ _ _ _ (by decide)).trans (getF_setF_fits _ _ _ (by decide) (by decide))

theorem licTake_eq {l : List Byte} {s : State} (h : (s.licJudge l).1 = 0) : licTake l s =
    licLink l (s.licJudge l) (licRecheck ((licShown l (s.licJudge l) s).withLic (some (s.licJudge l).2))) := by
  unfold licTake
  dsimp only
  rw [if_pos h]
  rfl

/-- A record that passes R477 is in force and VALID. -/
theorem licTake_valid {l : List Byte} {s : State} (h : (s.licJudge l).1 = 0) :
    (licTake l s).getF EXC_LIC_STAT_STATE = 2 ∧ (licTake l s).exc.lic = some (s.licJudge l).2 := by
  rw [licTake_eq h]
  have hkept := (licRecheck_licKept ((licShown l (s.licJudge l) s).withLic (some (s.licJudge l).2))).trans
    (licLink_licKept l (s.licJudge l) _)
  exact ⟨by rw [hkept.stat, withLic_getF, licShown_state], by rw [hkept.lic, withLic_lic]⟩

theorem nvRead_sec (id : Nat) (s : State) : (nvRead id s).2.sec = s.sec := by
  unfold nvRead
  dsimp only
  split
  · rw [(raise_step _ _ _).sec, bump_sec]
  · rfl

theorem licAbsent_sec (s : State) : (licAbsent s).sec = s.sec := by
  rw [licAbsent, ((LicKept.refl _).slLicence _ _).sec, licLost_sec, setF_sec, setF_sec, setF_sec]

/-- Verifying the record in force keeps the records (R545). -/
theorem licVerify_sec (s : State) : (licVerify s).sec = s.sec := by
  unfold licVerify
  dsimp only
  split
  · rw [licAbsent_sec, nvRead_sec]
  split
  · rw [licTake_sec, nvRead_sec]
  · rw [(raise_step _ _ _).sec, licAbsent_sec, nvRead_sec]

/-! ## Records -/

section
variable {s u : State}

theorem nvRec_of_sec (h : u.sec = s.sec) (id : Nat) : u.nvRec id = s.nvRec id := by rw [State.nvRec, h]; rfl

theorem lkey_of_sec (h : u.sec = s.sec) : u.lkey = s.lkey := by
  unfold State.lkey
  rw [nvRec_of_sec h]

theorem newerGen_next (g : Nat) : newerGen ((g + 1) % 2 ^ 32) g = true := by
  simp only [newerGen, Bool.and_eq_true, decide_eq_true_eq]
  omega

theorem newerGen_before (g : Nat) : newerGen g ((g + 1) % 2 ^ 32) = false := by
  simp only [newerGen, Bool.and_eq_false_iff, decide_eq_false_iff_not]
  omega

/-- A written record holds what was written (R547). -/
theorem nvPut_data (id : Nat) (data : List Byte) (s : State) : ((nvPut id data true s).nvRec id).data = some data := by
  have hrec : (nvPut id data true s).nvRec id =
      (let r := s.nvRec id
       let gen := if r.useB then (r.b.gen + 1) % 2 ^ 32 else if r.a.valid then (r.a.gen + 1) % 2 ^ 32 else 1
       if r.a.valid && !r.useB then { r with b := ⟨true, true, gen, data⟩ } else { r with a := ⟨true, true, gen, data⟩ }) := by
    unfold nvPut State.nvRec
    simp only [if_true, bump_sec]
    exact sget_sset_same _ _ _ _
  rw [hrec]
  obtain ⟨a, b⟩ := s.nvRec id
  dsimp only
  cases hb : NvRec.useB ⟨a, b⟩ with
  | true =>
    simp [-Nat.reducePow, NvRec.data, NvRec.useB, newerGen_before]
  | false =>
    cases ha : a.valid with
    | true => simp [-Nat.reducePow, NvRec.data, NvRec.useB, newerGen_next, ha]
    | false =>
      have hvalid : b.valid = false := by simpa [NvRec.useB, ha] using hb
      simp [NvRec.data, NvRec.useB, hvalid]

end

/-! ## Results -/

section
variable {s u : State} {op res : Nat}

theorem secDone_sec (op res : Nat) (s : State) : (secDone op res s).sec = s.sec := by
  unfold secDone
  exact (setF_sec _ _ _).trans ((setF_sec _ _ _).trans (setF_sec _ _ _))

theorem secDone_exc (op res : Nat) (s : State) : (secDone op res s).exc = s.exc := by
  unfold secDone
  rw [setF_exc, setF_exc, setF_exc]

theorem secDone_result (s : State) (hres : res < 16) : (secDone op res s).getF SEC_RES_RESULT = res := by
  unfold secDone
  exact (getF_setF_apart _ _ _ _ (by decide)).trans (getF_setF_fits _ _ _ (by decide) hres)

theorem secDone_lastop (s : State) (hop : op < 8) : (secDone op res s).getF SEC_RES_LASTOP = op := by
  unfold secDone
  exact (getF_setF_apart _ _ _ _ (by decide)).trans
    ((getF_setF_apart _ _ _ _ (by decide)).trans (getF_setF_fits _ _ _ (by decide) hop))

theorem secDone_getF (s : State) {f : Fld} (hf : f.reg ≠ SEC_RES) : (secDone op res s).getF f = s.getF f := by
  unfold secDone
  exact (getF_setF_reg _ _ _ _ hf).trans ((getF_setF_reg _ _ _ _ hf).trans (getF_setF_reg _ _ _ _ hf))

/-- The block of the security unit and that of traces. -/
abbrev secAreas : List (Nat × Nat) := [(0x58000, 0x60000), (0x68000, 0x70000)]

theorem Within.secDone {l : List (Nat × Nat)} (h : Within l s u) (hl : InAreas l SEC_RES) : Within l s (secDone op res u) :=
  ((h.setF SEC_RES_LASTOP _ hl).setF SEC_RES_RESULT _ hl).setF SEC_RES_BUSY _ hl

/-- The areas of a command whose failure raises an event. -/
abbrev secEventAreas : List (Nat × Nat) := [(0x58000, 0x60000), (0x1000, 0x2000), (0x30000, 0x34000), (0x68000, 0x70000)]

theorem secSigDone_one (op key : Nat) (s : State) : secSigDone op 1 key s = secDone op 1 s := rfl

theorem secSigDone_keeps (op res key : Nat) (s : State) :
    EventStep (secDone op res s) (secSigDone op res key s) ∧ Within eventAreas (secDone op res s) (secSigDone op res key s) := by
  unfold secSigDone
  dsimp only
  split
  · exact ⟨raise_step _ _ _, raise_within _ _ _⟩
  · exact ⟨.refl _, .refl _ _⟩

end

/-! ## Fuses -/

/-- A bit that is not set is added by its weight. -/
theorem testBit_add_two_pow {x k : Nat} (h : x.testBit k = false) (j : Nat) :
    (x + 2 ^ k).testBit j = (x.testBit j || decide (j = k)) := by
  have hlow : x % 2 ^ (k + 1) < 2 ^ k := Nat.lt_pow_two_of_testBit _ fun i hi => by
    rw [Nat.testBit_mod_two_pow]
    rcases Nat.lt_or_ge i (k + 1) with hlt | hge
    · rw [show i = k by omega, h, Bool.and_false]
    · simp [Nat.not_lt.mpr hge]
  have hor : x + 2 ^ k = x ||| 2 ^ k := by
    have hx := Nat.div_add_mod x (2 ^ (k + 1))
    have hpow : 2 ^ (k + 1) = 2 * 2 ^ k := Nat.pow_succ'
    have hsplit := Nat.two_pow_add_eq_or_of_lt (b := x % 2 ^ (k + 1)) (i := k + 1) (by omega) (x / 2 ^ (k + 1))
    have hsum := Nat.two_pow_add_eq_or_of_lt (b := 2 ^ k * 1 + x % 2 ^ (k + 1)) (i := k + 1) (by omega) (x / 2 ^ (k + 1))
    have hbit := Nat.two_pow_add_eq_or_of_lt (b := x % 2 ^ (k + 1)) (i := k) hlow 1
    calc x + 2 ^ k = 2 ^ (k + 1) * (x / 2 ^ (k + 1)) + (2 ^ k * 1 + x % 2 ^ (k + 1)) := by omega
      _ = 2 ^ (k + 1) * (x / 2 ^ (k + 1)) ||| (x % 2 ^ (k + 1) ||| 2 ^ k) := by
        rw [hsum, hbit, Nat.mul_one, Nat.or_comm (2 ^ k)]
      _ = x ||| 2 ^ k := by rw [← Nat.or_assoc, ← hsplit, hx]
  rw [hor, Nat.testBit_or, Nat.testBit_two_pow]
  simp [eq_comm]

theorem fuses_eq_card (n : Nat) : fuses n = ((Finset.range 64).filter fun i => n.testBit i = true).card := by
  rw [fuses, List.countP_eq_length_filter]
  show _ = (List.filter (fun i => decide (n.testBit i = true)) (List.range 64)).length
  simp

theorem fuses_le (n : Nat) : fuses n ≤ 64 := by
  rw [fuses_eq_card]
  exact (Finset.card_filter_le _ _).trans (by simp)

theorem fuses_mono {m n : Nat} (h : ∀ i, m.testBit i = true → n.testBit i = true) : fuses m ≤ fuses n := by
  rw [fuses_eq_card, fuses_eq_card]
  exact Finset.card_le_card (Finset.monotone_filter_right _ fun i _ hi => h i hi)

theorem fuses_full {n : Nat} (h : ∀ i < 64, n.testBit i = true) : fuses n = 64 := by
  rw [fuses_eq_card, Finset.filter_true_of_mem fun i hi => h i (Finset.mem_range.mp hi), Finset.card_range]

/-- A fuse that is blown is at most one more. -/
theorem fuses_blow {x k : Nat} (h : x.testBit k = false) : fuses (x + 2 ^ k) ≤ fuses x + 1 := by
  rw [fuses_eq_card, fuses_eq_card]
  refine (Finset.card_le_card fun i hi => ?_).trans (Finset.card_insert_le k _)
  rw [Finset.mem_filter, testBit_add_two_pow h, Bool.or_eq_true, decide_eq_true_eq] at hi
  rw [Finset.mem_insert, Finset.mem_filter]
  exact hi.2.symm.imp id fun hx => ⟨hi.1, hx⟩

/-- What blowing the fuses below k has reached: no fuse is lost, no more than v are blown beside those that were, and all
below k are blown unless v are. -/
structure Blown (v n k x : Nat) : Prop where
  keeps : fuses n ≤ fuses x
  atMost : fuses x ≤ max (fuses n) v
  below : fuses x < v → ∀ i < k, x.testBit i = true

theorem blown_all (v n : Nat) (k : Nat) :
    Blown v n k ((List.range k).foldl (fun x i => if fuses x < v && !x.testBit i then x + 2 ^ i else x) n) := by
  induction k with
  | zero => exact ⟨Nat.le_refl _, Nat.le_max_left _ _, fun _ i hi => absurd hi (Nat.not_lt_zero i)⟩
  | succ k ih =>
    rw [List.range_succ, List.foldl_append, List.foldl_cons, List.foldl_nil]
    generalize (List.range k).foldl _ n = x at ih
    by_cases hblow : (fuses x < v && !x.testBit k) = true
    · rw [if_pos hblow]
      simp only [Bool.and_eq_true, decide_eq_true_eq, Bool.not_eq_true'] at hblow
      obtain ⟨hless, hbit⟩ := hblow
      have hmore := fuses_blow hbit
      have hsub : fuses x ≤ fuses (x + 2 ^ k) := fuses_mono fun i hi => by simp [testBit_add_two_pow hbit, hi]
      refine ⟨ih.keeps.trans hsub, by omega, fun _ i hi => ?_⟩
      rw [testBit_add_two_pow hbit]
      rcases Nat.lt_succ_iff_lt_or_eq.mp hi with hlt | heq
      · simp [ih.below hless i hlt]
      · simp [heq]
    · rw [if_neg hblow]
      simp only [Bool.and_eq_true, decide_eq_true_eq, Bool.not_eq_true', not_and, Bool.not_eq_false] at hblow
      refine ⟨ih.keeps, ih.atMost, fun hless i hi => ?_⟩
      rcases Nat.lt_succ_iff_lt_or_eq.mp hi with hlt | heq
      · exact ih.below hless i hlt
      · exact heq ▸ hblow hless

/-- Fuses are blown until v of 64 are (R541). -/
theorem fuses_blowTo (v n : Nat) : fuses (blowTo v n) = max (fuses n) (min 64 v) := by
  have hall := blown_all v n 64
  rw [← blowTo] at hall
  have hle := fuses_le (blowTo v n)
  have hkeeps := hall.keeps
  have hmost := hall.atMost
  by_cases hless : fuses (blowTo v n) < v
  · have hfull := fuses_full (hall.below hless)
    omega
  · omega

theorem fuses_mod (n : Nat) : fuses (n % 2 ^ 64) = fuses n := by
  rw [fuses_eq_card, fuses_eq_card]
  congr 1
  refine Finset.filter_congr fun i hi => ?_
  rw [Nat.testBit_mod_two_pow]
  simp [Finset.mem_range.mp hi]

section
variable {α : Type} [DecidableEq α] (d : Nat → α)

/-- Bytes placed from an address on leave what lies before it. -/
theorem sget_placed_before (a k : Nat) (l : List α) (i : Nat) (m : List (Nat × α)) (h : k < a + i) :
    sget d ((l.zipIdx i).foldl (fun m p => sset d (a + p.2) p.1 m) m) k = sget d m k := by
  induction l generalizing i m with
  | nil => rfl
  | cons b t ih =>
    rw [List.zipIdx_cons, List.foldl_cons, ih (i + 1) _ (by omega)]
    exact sget_sset_other _ _ _ _ _ (by dsimp only; omega)

/-- Bytes placed from an address on stand at their places. -/
theorem sget_placed (a : Nat) (l : List α) (i : Nat) (m : List (Nat × α)) (j : Nat) (hj : j < l.length) :
    sget d ((l.zipIdx i).foldl (fun m p => sset d (a + p.2) p.1 m) m) (a + i + j) = l[j] := by
  induction l generalizing i m j with
  | nil => exact absurd hj (Nat.not_lt_zero _)
  | cons b t ih =>
    rw [List.zipIdx_cons, List.foldl_cons]
    cases j with
    | zero =>
      rw [sget_placed_before d a _ t (i + 1) _ (by omega)]
      exact sget_sset_same _ _ _ _
    | succ j =>
      have hj' : j < t.length := by simpa using hj
      rw [show a + i + (j + 1) = a + (i + 1) + j by omega]
      exact ih (i + 1) _ j hj'

end

/-- Programmed bytes of OTP read back. -/
theorem otpList_put (o : Otp) (a : Nat) (l : List Byte) : (o.put a l).list a l.length = l := by
  refine List.ext_getElem (by simp [Otp.list]) fun j hj hj' => ?_
  have hget := sget_placed otpNone a l 0 o.bytes j hj'
  simpa [Otp.list, Otp.put] using hget

/-- The fuses of a minimum after they are raised. -/
theorem fuses_otpRaise (a v : Nat) (s : State) :
    fuses (natOf ((otpRaise a v s).sec.otp.list a 8)) = max (fuses (natOf (s.sec.otp.list a 8))) (min 64 v) := by
  have hlist : (otpRaise a v s).sec.otp.list a 8 = bytesOf 8 (blowTo v (natOf (s.sec.otp.list a 8))) := by
    have h := otpList_put s.sec.otp a (bytesOf 8 (blowTo v (natOf (s.sec.otp.list a 8))))
    rwa [length_bytesOf] at h
  have hnat := natOf_bytesOf 8 (blowTo v (natOf (s.sec.otp.list a 8)))
  rw [hlist, hnat, show (256 : Nat) ^ 8 = 2 ^ 64 by norm_num, fuses_mod, fuses_blowTo]

/-! ## Commands -/

section
variable {s u : State} {m : Master}

namespace Traced
variable (h : Traced s u)
include h

theorem sec : u.sec = s.sec := (congrArg State.sec h.step.eq :)
theorem win : u.win = s.win := (congrArg State.win h.step.eq :)
theorem exc : u.exc = s.exc := (congrArg State.exc h.step.eq :)
theorem boot : u.boot = s.boot := (congrArg State.boot h.step.eq :)

theorem rd {a : Nat} (ha : a < 0x68000) : u.rd a = s.rd a := h.within a (by simpa using .inl ha)

theorem feat {n : Nat} (hn : n < 32) : u.feat n = s.feat n := by
  unfold State.feat
  rw [h.rd]
  simp only [FEAT_ACTIVE]
  omega

theorem recBuf (n : Nat) : u.recBuf n = s.recBuf n := winBytes_of_win h.win _ _

/-- The record buffer as the command finds it. -/
theorem record : u.recBuf (u.getF SEC_NVLEN_LEN) = s.recBuf (s.getF SEC_NVLEN_LEN) := by
  rw [h.getF (by decide), h.recBuf]

theorem tokenResult (l : List Byte) (g : SigBlock) : u.tokenResult l g = s.tokenResult l g := by
  unfold State.tokenResult State.keyGood State.slotKey State.nvRec
  rw [h.sec]

theorem licResult (l : List Byte) (g : SigBlock) : u.licResult l g = s.licResult l g := by
  unfold State.licResult
  rw [lkey_of_sec h.sec, h.getF (by decide), h.getF (by decide)]

theorem report (leaf : Nat) : u.report leaf = s.report leaf := by
  have hfeat : (List.range 4).map (fun k => bytesOf 4 (u.rd (FEAT_ACTIVE k)).toNat) =
      (List.range 4).map fun k => bytesOf 4 (s.rd (FEAT_ACTIVE k)).toNat :=
    List.map_congr_left fun k hk => by
      have hk := List.mem_range.mp hk
      rw [h.rd (by simp only [FEAT_ACTIVE]; omega)]
  unfold State.report State.hdr
  rw [hfeat, h.sec, h.boot, h.now, winBytes_of_win h.win, h.getF (f := SEC_STAT_FW_KEY) (by decide),
    h.getF (f := SEC_STAT_BS_KEY) (by decide), h.getF (f := SEC_SV_FW_SV) (by decide), h.getF (f := SEC_SV_BS_SV) (by decide),
    h.getF (f := EXC_LIC_STAT_STATE) (by decide), h.getF (f := EXC_LIC_SEQ_RECSEQ) (by decide),
    h.getF (f := SEC_SLOT_STATE) (by decide)]

end Traced

/-- A command of SEC_CMD that is not busy is carried out on the traced state. -/
theorem sec_reaches (hr : s.reaches m SEC_CMD = true) (w : Nat) (f : State → State) :
    ∃ u, Traced s u ∧ gated m SEC_CMD w f s = f u :=
  ⟨_, traceRegWrite_traced m SEC_CMD w s, gated_reaches m SEC_CMD w f s hr⟩

theorem Traced.busy (h : Traced s u) : u.flag SEC_RES_BUSY = s.flag SEC_RES_BUSY := h.flag (by decide)

theorem Traced.secWithin (h : Traced s u) : Within secAreas s u := h.within.mono (by decide)

theorem Traced.eventWithin (h : Traced s u) : Within secEventAreas s u := h.within.mono (by decide)

/-- What a completed command leaves. -/
theorem secRoll_fw (u : State) : (secRoll true u).sec.otp.fwMin = max u.sec.otp.fwMin (min 64 (u.getF SEC_SV_FW_SV)) ∧
    (secRoll true u).getF SEC_SV_FW_MIN = (secRoll true u).sec.otp.fwMin ∧ (secRoll true u).getF SEC_RES_RESULT = 1 ∧
    (secRoll true u).getF SEC_RES_LASTOP = 1 := by
  have hsec : (secRoll true u).sec = (otpRaise 52 (u.getF SEC_SV_FW_SV) u).sec := (secDone_sec _ _ _).trans (setF_sec _ _ _)
  refine ⟨?_, ?_, secDone_result _ (by decide), secDone_lastop _ (by decide)⟩
  · rw [hsec]
    exact fuses_otpRaise _ _ _
  · rw [hsec]
    exact (secDone_getF _ (by decide)).trans (getF_setF_fits _ _ _ (by decide) (Nat.lt_of_le_of_lt (fuses_le _) (by decide)))

theorem secRoll_bs (u : State) : (secRoll false u).sec.otp.bsMin = max u.sec.otp.bsMin (min 64 (u.getF SEC_SV_BS_SV)) ∧
    (secRoll false u).getF SEC_SV_BS_MIN = (secRoll false u).sec.otp.bsMin ∧ (secRoll false u).getF SEC_RES_RESULT = 1 ∧
    (secRoll false u).getF SEC_RES_LASTOP = 2 := by
  have hsec : (secRoll false u).sec = (otpRaise 60 (u.getF SEC_SV_BS_SV) u).sec := (secDone_sec _ _ _).trans (setF_sec _ _ _)
  refine ⟨?_, ?_, secDone_result _ (by decide), secDone_lastop _ (by decide)⟩
  · rw [hsec]
    exact fuses_otpRaise _ _ _
  · rw [hsec]
    exact (secDone_getF _ (by decide)).trans (getF_setF_fits _ _ _ (by decide) (Nat.lt_of_le_of_lt (fuses_le _) (by decide)))

theorem secRoll_within {l : List (Nat × Nat)} (h : Within l s u) (hsv : InAreas l SEC_SV) (hres : InAreas l SEC_RES) (fw : Bool) :
    Within l s (secRoll fw u) := by
  have hotp (a v : Nat) : Within l s (otpRaise a v u) := h.of_regs rfl
  cases fw with
  | true => exact ((hotp _ _).setF SEC_SV_FW_MIN _ hsv).secDone hres
  | false => exact ((hotp _ _).setF SEC_SV_BS_MIN _ hsv).secDone hres

/-- A record that an operator key's token leaves shows the key and its sequence (R543, R554). -/
theorem secShow_lkey {d : List Byte} (h : (u.nvRec idLkey).data = some d) (hlen : d.length = 64) :
    (secShow u).lkey = some (leAt d 0 60) ∧ (secShow u).getF SEC_TSEQ_TSEQ = leAt d 60 4 ∧ (secShow u).flag SEC_SLOT_LKEY = true := by
  have hsec : (secShow u).sec = u.sec := (setF_sec _ _ _).trans ((setB_sec _ _ _).trans (setF_sec _ _ _))
  have hlkey : u.lkey = some (leAt d 0 60) := by
    unfold State.lkey
    rw [h]
    cases d with
    | nil => exact absurd hlen (by decide)
    | cons b t => rfl
  refine ⟨(lkey_of_sec hsec).trans hlkey, ?_, ?_⟩
  · unfold secShow
    rw [h]
    exact getF_setF_fits _ _ _ (by decide) (leAt_four_lt _ _)
  · refine flag_of_getF ?_
    unfold secShow
    rw [hlkey]
    exact (getF_setF_reg _ _ _ _ (by decide)).trans (getF_setF_fits _ _ _ (by decide)
      (Nat.lt_of_le_of_lt (Bool.toNat_le _) (by decide)))

theorem tokenResult_lt (l : List Byte) (g : SigBlock) (s : State) : s.tokenResult l g < 16 := by
  unfold State.tokenResult
  dsimp only
  repeat' split
  all_goals decide

theorem licResult_lt (l : List Byte) (g : SigBlock) (s : State) : s.licResult l g < 16 := by
  unfold State.licResult
  repeat' split
  all_goals decide

/-- A command with a signature that fails changes nothing but its result. -/
theorem secSigDone_fails (ht : Traced s u) {op res : Nat} (key : Nat) (hres : res < 16) :
    (secSigDone op res key u).getF SEC_RES_RESULT = res ∧ (secSigDone op res key u).sec = s.sec ∧
      (secSigDone op res key u).exc = s.exc ∧ (secSigDone op res key u).getF SEC_TSEQ_TSEQ = s.getF SEC_TSEQ_TSEQ ∧
      Within secEventAreas s (secSigDone op res key u) := by
  obtain ⟨hstep, hin⟩ := secSigDone_keeps op res key u
  refine ⟨(hin.getF _ (by decide)).trans (secDone_result _ hres), ?_, ?_, ?_, ?_⟩
  · rw [hstep.sec, secDone_sec, ht.sec]
  · rw [hstep.exc, secDone_exc, ht.exc]
  · exact (hin.getF _ (by decide)).trans ((secDone_getF _ (by decide)).trans (ht.getF (by decide)))
  · exact (ht.eventWithin.secDone (by decide)).step hin (by decide)

/-- The token that an operator licence key comes with is 88 bytes and a signature. -/
theorem length_of_tokenResult {l : List Byte} {g : SigBlock} (h : s.tokenResult l g = 1) : l.length = 88 + sigLen := by
  by_contra hne
  unfold State.tokenResult at h
  dsimp only at h
  rw [if_pos (by simp [hne])] at h
  exact absurd h (by decide)

theorem nvPut_otp (id : Nat) (d : List Byte) (ok : Bool) (s : State) : (nvPut id d ok s).sec.otp = s.sec.otp := by
  unfold nvPut
  dsimp only
  split
  · rw [bump_sec]
  · rfl

theorem nvPut_getF (id : Nat) (d : List Byte) (ok : Bool) (s : State) {f : Fld} (hf : f.reg ≠ SEC_NV) :
    (nvPut id d ok s).getF f = s.getF f := by
  unfold nvPut
  dsimp only
  split
  · exact getF_setF_reg _ _ _ _ hf
  · rfl

theorem nvPut_counts (id : Nat) (d : List Byte) (s : State) : Counted SEC_NV_WRITES s (nvPut id d true s) := by
  unfold nvPut
  dsimp only
  exact counted_bump _ SEC_NV_WRITES (by decide) (by decide)

theorem Within.nvPut {l : List (Nat × Nat)} (h : Within l s u) (hl : InAreas l SEC_NV) (id : Nat) (d : List Byte) (ok : Bool) :
    Within l s (nvPut id d ok u) := by
  unfold Machine.nvPut
  dsimp only
  split
  · exact (h.of_regs rfl).setF SEC_NV_WRITES _ hl
  · exact h.of_regs rfl

theorem licJudge_of_otp {s u : State} (h : u.sec.otp = s.sec.otp) (l : List Byte) : u.licJudge l = s.licJudge l := by
  unfold State.licJudge
  rw [h]

/-- A record read leaves the windows (R548). -/
theorem nvRead_win (id : Nat) (s : State) : (nvRead id s).2.win = s.win := by
  unfold nvRead
  dsimp only
  split
  · rw [(raise_step _ _ _).win, bump_win]
  · rfl

theorem nvRead_within (id : Nat) (s : State) : Within secEventAreas s (nvRead id s).2 := by
  unfold nvRead
  dsimp only
  split
  · exact ((Within.refl _ s).setF SEC_NV_ERRS _ (by decide)).step (raise_within _ _ _) (by decide)
  · exact .refl _ s

theorem secDone_win (op res : Nat) (s : State) : (secDone op res s).win = s.win := by
  unfold secDone
  exact (setF_win _ _ _).trans ((setF_win _ _ _).trans (setF_win _ _ _))

end

end Sys2Proof.Machine
end

section
/-! SUPPORT. The commands of the security block (R541 to R553): tokens, licence objects, records and attestation, and the
statement on them. -/

set_option Elab.async false

namespace Sys2Proof.Machine

section
variable {s u : State} {m : Master}

/-! ## Tokens -/

/-- The data of the operator key's record that a token leaves (R543). -/
def keyRecord (l : List Byte) : List Byte := (l.drop 24).take 60 ++ (l.drop 16).take 4

theorem keyRecord_length {l : List Byte} (h : l.length = 88 + sigLen) : (keyRecord l).length = 64 := by
  simp only [keyRecord, List.length_append, List.length_take, List.length_drop, h]
  decide

theorem keyRecord_key {l : List Byte} (h : l.length = 88 + sigLen) : leAt (keyRecord l) 0 60 = leAt l 24 60 := by
  have hlen : ((l.drop 24).take 60).length = 60 := by
    simp only [List.length_take, List.length_drop, h]
    decide
  have hhead := leAt_head ((l.drop 24).take 60) ((l.drop 16).take 4)
  rwa [hlen] at hhead

theorem keyRecord_sequence {l : List Byte} (h : l.length = 88 + sigLen) : leAt (keyRecord l) 60 4 = leAt l 16 4 := by
  have hlen : ((l.drop 24).take 60).length = 60 := by
    simp only [List.length_take, List.length_drop, h]
    decide
  refine (leAt_skip hlen 0 4).trans ?_
  simp [leAt, List.take_take]

/-- An operator licence key's token that passes. -/
theorem secTokenRun_key {v : SigVerdict} (hact : leAt (u.recBuf (u.getF SEC_NVLEN_LEN)) 5 1 = 3)
    (hok : u.tokenResult (u.recBuf (u.getF SEC_NVLEN_LEN)) (sigOf (u.recBuf (u.getF SEC_NVLEN_LEN)) 88 v) = 1) :
    secTokenRun v true u = secDone 3 1 (secShow (licVerify (nvPut idLkey (keyRecord (u.recBuf (u.getF SEC_NVLEN_LEN))) true u))) := by
  unfold secTokenRun tokenAct
  simp only [hact, hok]
  rfl

theorem secTokenRun_fails {v : SigVerdict} {w : Bool}
    (hmay : leAt (u.recBuf (u.getF SEC_NVLEN_LEN)) 5 1 = 3 ∨ u.feat 21 = true)
    (hbad : u.tokenResult (u.recBuf (u.getF SEC_NVLEN_LEN)) (sigOf (u.recBuf (u.getF SEC_NVLEN_LEN)) 88 v) ≠ 1) :
    secTokenRun v w u = secSigDone 3
      (u.tokenResult (u.recBuf (u.getF SEC_NVLEN_LEN)) (sigOf (u.recBuf (u.getF SEC_NVLEN_LEN)) 88 v))
      (sigOf (u.recBuf (u.getF SEC_NVLEN_LEN)) 88 v).keySel u := by
  unfold secTokenRun
  dsimp only
  rw [if_neg, if_pos (by simpa using hbad)]
  obtain hact | hfeat := hmay
  · simp [hact]
  · simp [hfeat]

/-! ## Records -/

/-- The state in which a licence object's signature holds. -/
def State.licSigned (s : State) : State := { s with sec := { s.sec with licSig := true } }

/-- A licence object that passes. -/
theorem secNvWriteRun_licence {v : SigVerdict}
    (hok : u.licResult (u.recBuf (u.getF SEC_NVLEN_LEN)) (sigOf (u.recBuf (u.getF SEC_NVLEN_LEN))
      ((u.recBuf (u.getF SEC_NVLEN_LEN)).length - 5480) v) = 1) :
    secNvWriteRun 1 v true u = secDone 4 1 (licTake (licPayload (u.recBuf (u.getF SEC_NVLEN_LEN)))
      (nvPut idLicence (u.recBuf (u.getF SEC_NVLEN_LEN)) true u).licSigned) := by
  unfold secNvWriteRun
  dsimp only
  rw [if_pos (show 1 = idLicence from rfl), show sigLen = 5480 from rfl, hok, if_neg (by decide), if_pos rfl]
  rfl

theorem secNvWriteRun_fails {v : SigVerdict} {w : Bool}
    (hbad : u.licResult (u.recBuf (u.getF SEC_NVLEN_LEN)) (sigOf (u.recBuf (u.getF SEC_NVLEN_LEN))
      ((u.recBuf (u.getF SEC_NVLEN_LEN)).length - 5480) v) ≠ 1) :
    secNvWriteRun 1 v w u = secSigDone 4 (u.licResult (u.recBuf (u.getF SEC_NVLEN_LEN)) (sigOf (u.recBuf (u.getF SEC_NVLEN_LEN))
        ((u.recBuf (u.getF SEC_NVLEN_LEN)).length - 5480) v))
      (sigOf (u.recBuf (u.getF SEC_NVLEN_LEN)) ((u.recBuf (u.getF SEC_NVLEN_LEN)).length - 5480) v).keySel u := by
  unfold secNvWriteRun
  dsimp only
  rw [if_pos (show 1 = idLicence from rfl), show sigLen = 5480 from rfl, if_pos (by simpa using hbad)]

theorem recBuf_length (n : Nat) : (u.recBuf n).length = n := by simp [State.recBuf, State.winBytes]

/-- A record of the host (R546, R553). -/
theorem secNvWriteRun_host {n : Nat} {v : SigVerdict} {w : Bool} (hlo : 0x40 ≤ n) (hhi : n ≤ 0x4F)
    (hlen : u.getF SEC_NVLEN_LEN ≤ 4064) :
    secNvWriteRun n v w u = secDone 4 (if w then 1 else 9) (nvPut n (u.recBuf (u.getF SEC_NVLEN_LEN)) w u) := by
  have hid : n ≠ idLicence := by
    unfold idLicence
    omega
  unfold secNvWriteRun
  dsimp only
  rw [if_neg hid, if_pos (by simp [hlo, hhi]), if_neg (by rw [recBuf_length]; omega)]

/-- A record that is read is placed in the buffer (R553). -/
theorem secNvReadRun_some {n : Nat} {l : List Byte} (hid : nvId n = true) (hdata : (u.nvRec n).data = some l) :
    secNvReadRun n u = secDone 5 1 ((winPut 0xC0000 l (nvRead n u).2).setF SEC_NVLEN_LEN l.length) := by
  have hread : (nvRead n u).1 = some l := hdata
  unfold secNvReadRun
  rw [if_neg (by simp [hid])]
  dsimp only
  rw [hread]

theorem secNvReadRun_none {n : Nat} (hid : nvId n = true) (hdata : (u.nvRec n).data = none) :
    secNvReadRun n u = secDone 5 10 (nvRead n u).2 := by
  have hread : (nvRead n u).1 = none := hdata
  unfold secNvReadRun
  rw [if_neg (by simp [hid])]
  dsimp only
  rw [hread]

/-! ## Attestation -/

/-- LEAF is committed and a token is spent. -/
def leafCommitted (s : State) : State :=
  (nvPut idLeaf (bytesOf 4 (s.getF SEC_LEAF_NEXT + 1)) true (s.setF SEC_ATT_TOKENS (s.getF SEC_ATT_TOKENS - 1))).setF
    SEC_LEAF_NEXT (s.getF SEC_LEAF_NEXT + 1)

/-- An attestation with a leaf and a token left (R550, R551). -/
theorem secAttestRun_signs {sig : List Byte} (hfeat : u.feat 19 = true) (hleaf : u.getF SEC_LEAF_NEXT < 2 ^ 30)
    (htoken : u.getF SEC_ATT_TOKENS ≠ 0) : secAttestRun sig true u =
      secDone 6 1 (winPut 0xD0000 (u.report (u.getF SEC_LEAF_NEXT) ++ fit 7640 sig) (leafCommitted u)) := by
  unfold secAttestRun
  dsimp only
  rw [if_neg (by simp [hfeat]), if_neg (Nat.not_le.mpr hleaf), if_neg htoken, if_pos rfl]
  rfl

theorem leafCommitted_shows (hleaf : u.getF SEC_LEAF_NEXT < 2 ^ 30) :
    (leafCommitted u).getF SEC_LEAF_NEXT = u.getF SEC_LEAF_NEXT + 1 ∧
      (leafCommitted u).getF SEC_ATT_TOKENS = u.getF SEC_ATT_TOKENS - 1 ∧
      ((leafCommitted u).nvRec idLeaf).data = some (bytesOf 4 (u.getF SEC_LEAF_NEXT + 1)) := by
  have htokens : u.getF SEC_ATT_TOKENS < 32 := Nat.mod_lt _ (Nat.two_pow_pos 5)
  refine ⟨?_, ?_, ?_⟩
  · exact getF_setF_fits _ SEC_LEAF_NEXT _ (by decide) (show _ < 2 ^ 31 by omega)
  · refine (getF_setF_reg _ _ _ _ (by decide)).trans ((nvPut_getF _ _ _ _ (by decide)).trans ?_)
    exact getF_setF_fits _ SEC_ATT_TOKENS _ (by decide) (show _ < 2 ^ 5 by omega)
  · rw [leafCommitted, nvRec_of_sec (setF_sec _ _ _), nvPut_data]

theorem Within.leafCommitted {l : List (Nat × Nat)} (h : Within l s u) (hatt : InAreas l SEC_ATT) (hnv : InAreas l SEC_NV)
    (hleaf : InAreas l SEC_LEAF) : Within l s (leafCommitted u) :=
  ((h.setF SEC_ATT_TOKENS _ hatt).nvPut hnv _ _ _).setF SEC_LEAF_NEXT _ hleaf

/-- Without a token an attestation is refused and counted, with an event where a leaf is left (R551). -/
theorem secAttestRun_limited {sig : List Byte} {w : Bool} (hfeat : u.feat 19 = true) (htoken : u.getF SEC_ATT_TOKENS = 0) :
    EventStep (secDone 6 8 (u.bump SEC_ATT_LIMITED)) (secAttestRun sig w u) ∧
      Within eventAreas (secDone 6 8 (u.bump SEC_ATT_LIMITED)) (secAttestRun sig w u) := by
  unfold secAttestRun
  dsimp only
  rw [if_neg (by simp [hfeat])]
  split
  · exact ⟨.refl _, .refl _ _⟩
  · exact ⟨raise_step _ _ _, raise_within _ _ _⟩

theorem winPut_getF (a : Nat) (l : List Byte) (s : State) (f : Fld) : (winPut a l s).getF f = s.getF f := rfl
theorem winPut_regs (a : Nat) (l : List Byte) (s : State) : (winPut a l s).regs = s.regs := rfl
theorem winPut_sec (a : Nat) (l : List Byte) (s : State) : (winPut a l s).sec = s.sec := rfl

theorem report_length (s : State) (leaf : Nat) : (s.report leaf).length = 256 := length_fit _ _

end

section
variable {s : State} {m : Master}

/-- An operator licence key's token that passes gives the key and its sequence (R543). -/
theorem secToken_key {v : SigVerdict} {l : List Byte} (hr : s.reaches m SEC_CMD = true) (hbusy : s.flag SEC_RES_BUSY = false)
    (hl : s.recBuf (s.getF SEC_NVLEN_LEN) = l) (hact : leAt l 5 1 = 3) (hok : s.tokenResult l (sigOf l 88 v) = 1) :
    Gives (.secToken m v true) s fun t => t.getF SEC_RES_RESULT = 1 ∧ t.lkey = some (leAt l 24 60) ∧
      t.getF SEC_TSEQ_TSEQ = leAt l 16 4 ∧ t.flag SEC_SLOT_LKEY = true := by
  obtain ⟨u, ht, hdo⟩ := sec_reaches hr 0x30000000 (secCommand 3 0 v [] true)
  have hlen := length_of_tokenResult hok
  have hl' := ht.record.trans hl
  have hrun : secCommand 3 0 v [] true u = secDone 3 1 (secShow (licVerify (nvPut idLkey (keyRecord l) true u))) := by
    have hkey := secTokenRun_key (u := u) (v := v) (by rw [hl', hact]) (by rw [hl', ht.tokenResult, hok])
    rw [hl'] at hkey
    simpa [secCommand, ht.busy, hbusy] using hkey
  have hdata : ((licVerify (nvPut idLkey (keyRecord l) true u)).nvRec idLkey).data = some (keyRecord l) := by
    rw [nvRec_of_sec (licVerify_sec _), nvPut_data]
  obtain ⟨hlkey, htseq, hslot⟩ := secShow_lkey hdata (keyRecord_length hlen)
  refine ⟨_, congrArg Host.Outcome.next (hdo.trans hrun), secDone_result _ (by decide), ?_, ?_, ?_⟩
  · rw [lkey_of_sec (secDone_sec _ _ _), hlkey, keyRecord_key hlen]
  · rw [secDone_getF _ (by decide), htseq, keyRecord_sequence hlen]
  · rw [State.flag, secDone_getF _ (by decide)]
    exact hslot

/-- A licence object that passes with a record that passes is in force (R477, R544). -/
theorem secNvWrite_licence {v : SigVerdict} {l : List Byte} (hr : s.reaches m SEC_CMD = true) (hbusy : s.flag SEC_RES_BUSY = false)
    (hl : s.recBuf (s.getF SEC_NVLEN_LEN) = l) (hok : s.licResult l (sigOf l (l.length - 5480) v) = 1)
    (hjudge : (s.licJudge (licPayload l)).1 = 0) :
    Gives (.secNvWrite m 1 v true) s fun t => t.getF SEC_RES_RESULT = 1 ∧ t.getF EXC_LIC_STAT_STATE = 2 ∧
      t.exc.lic = some (s.licJudge (licPayload l)).2 ∧ (t.nvRec 1).data = some l := by
  obtain ⟨u, ht, hdo⟩ := sec_reaches hr (0x40000000 + 1 % 256) (secCommand 4 (1 % 256) v [] true)
  have hl' := ht.record.trans hl
  have hrun : secCommand 4 (1 % 256) v [] true u = secDone 4 1 (licTake (licPayload l) (nvPut idLicence l true u).licSigned) := by
    have hlic := secNvWriteRun_licence (u := u) (v := v) (by rw [hl', ht.licResult, hok])
    rw [hl'] at hlic
    simpa [secCommand, ht.busy, hbusy] using hlic
  have hotp : (nvPut idLicence l true u).licSigned.sec.otp = s.sec.otp :=
    (nvPut_otp idLicence l true u).trans (congrArg Sec.otp ht.sec)
  have hsame := licJudge_of_otp hotp (licPayload l)
  obtain ⟨hstate, hlic⟩ := licTake_valid (l := licPayload l) (s := (nvPut idLicence l true u).licSigned)
    (by rw [hsame, hjudge])
  refine ⟨_, congrArg Host.Outcome.next (hdo.trans hrun), secDone_result _ (by decide), ?_, ?_, ?_⟩
  · rw [secDone_getF _ (by decide), hstate]
  · rw [secDone_exc, hlic, hsame]
  · rw [nvRec_of_sec (secDone_sec _ _ _), nvRec_of_sec (licTake_sec _ _)]
    exact nvPut_data idLicence l u

/-- An attestation commits its leaf, spends a token and leaves the report (R550, R551). -/
theorem secAttest_signs {sig : List Byte} (hr : s.reaches m SEC_CMD = true) (hbusy : s.flag SEC_RES_BUSY = false)
    (hfeat : s.feat 19 = true) (hleaf : s.getF SEC_LEAF_NEXT < 2 ^ 30) (htoken : s.getF SEC_ATT_TOKENS ≠ 0) :
    Gives (.secAttest m sig true) s fun t =>
      (t.getF SEC_RES_RESULT = 1 ∧ t.getF SEC_LEAF_NEXT = s.getF SEC_LEAF_NEXT + 1 ∧
        t.getF SEC_ATT_TOKENS = s.getF SEC_ATT_TOKENS - 1 ∧
        t.winBytes 0xD0000 7896 = s.report (s.getF SEC_LEAF_NEXT) ++ fit 7640 sig ∧
        (t.nvRec 0x20).data = some (bytesOf 4 (s.getF SEC_LEAF_NEXT + 1))) ∧ Within secAreas s t := by
  obtain ⟨u, ht, hdo⟩ := sec_reaches hr 0x60000000 (secCommand 6 0 noVerdict sig true)
  have hleafEq : u.getF SEC_LEAF_NEXT = s.getF SEC_LEAF_NEXT := ht.getF (by decide)
  have htokenEq : u.getF SEC_ATT_TOKENS = s.getF SEC_ATT_TOKENS := ht.getF (by decide)
  have hrun : secCommand 6 0 noVerdict sig true u =
      secDone 6 1 (winPut 0xD0000 (s.report (s.getF SEC_LEAF_NEXT) ++ fit 7640 sig) (leafCommitted u)) := by
    have hsign := secAttestRun_signs (u := u) (sig := sig) (by rwa [ht.feat (by decide)]) (by rwa [hleafEq])
      (by rwa [htokenEq])
    rw [hleafEq, ht.report] at hsign
    simpa [secCommand, ht.busy, hbusy] using hsign
  obtain ⟨hnext, hspent, hrec⟩ := leafCommitted_shows (u := u) (by rwa [hleafEq])
  have hlen : (s.report (s.getF SEC_LEAF_NEXT) ++ fit 7640 sig).length = 7896 := by
    rw [List.length_append, report_length, length_fit]
  refine ⟨_, congrArg Host.Outcome.next (hdo.trans hrun), ⟨secDone_result _ (by decide), ?_, ?_, ?_, ?_⟩, ?_⟩
  · rw [secDone_getF _ (by decide), winPut_getF, hnext, hleafEq]
  · rw [secDone_getF _ (by decide), winPut_getF, hspent, htokenEq]
  · rw [winBytes_of_win (secDone_win _ _ _), ← hlen]
    exact winBytes_winPut _ _ _
  · rw [nvRec_of_sec (secDone_sec _ _ _), nvRec_of_sec (winPut_sec _ _ _), ← hleafEq]
    exact hrec
  · exact ((ht.secWithin.leafCommitted (by decide) (by decide) (by decide)).of_regs (winPut_regs _ _ _)).secDone (by decide)

end

/-! ## The statement -/

/-- Settles O40. -/
theorem security : Obligations.Security := by
  unfold Obligations.Security
  simp only [Bool.not_eq_true', beq_iff_eq, bne_iff_ne, decide_eq_true_eq, Bool.or_eq_true]
  refine ⟨fun s m hr hbusy => ?_, fun s m hr hbusy => ?_, fun s m hr hbusy => ?_, fun s m v l hr hbusy hl hact hok => ?_,
    fun s m v w l hr hbusy hl hmay hbad => ?_, fun s m n v w hr hbusy hlo hhi hlen => ?_,
    fun s m v l hr hbusy hl hok hjudge => ?_, fun s m v w l hr hbusy hl hbad => ?_,
    fun s m n l hr hbusy hid hn hdata hlen => ?_, fun s m n hr hbusy hid hn hdata => ?_,
    fun s m sig hr hbusy hfeat hleaf htoken => ?_, fun s m sig w hr hbusy hfeat htoken => ?_, fun s n hdue => ?_⟩
  · obtain ⟨u, ht, hdo⟩ := sec_reaches hr 0x10000000 (secCommand 1 0 noVerdict [] true)
    have hrun : secCommand 1 0 noVerdict [] true u = secRoll true u := by simp [secCommand, ht.busy, hbusy]
    refine ⟨_, congrArg Host.Outcome.next (hdo.trans hrun), ?_, secRoll_within ht.secWithin (by decide) (by decide) true⟩
    have hroll := secRoll_fw u
    rwa [ht.sec, ht.getF (by decide)] at hroll
  · obtain ⟨u, ht, hdo⟩ := sec_reaches hr 0x20000000 (secCommand 2 0 noVerdict [] true)
    have hrun : secCommand 2 0 noVerdict [] true u = secRoll false u := by simp [secCommand, ht.busy, hbusy]
    refine ⟨_, congrArg Host.Outcome.next (hdo.trans hrun), ?_, secRoll_within ht.secWithin (by decide) (by decide) false⟩
    have hroll := secRoll_bs u
    rwa [ht.sec, ht.getF (by decide)] at hroll
  · obtain ⟨u, ht, hdo⟩ := sec_reaches hr 0x10000000 (secCommand 1 0 noVerdict [] true)
    have hrun : secCommand 1 0 noVerdict [] true u = refuse SEC_REFUSE codeBusy u := by simp [secCommand, ht.busy, hbusy]
    refine ⟨_, congrArg Host.Outcome.next (hdo.trans hrun), ⟨getF_refuse_code _ _ _ (by decide), ?_, ?_⟩, ?_⟩
    · exact (counted_refuse u SEC_REFUSE codeBusy).of_getF (ht.getF (f := ⟨SEC_REFUSE, 15, 0⟩) (by decide))
    · rw [refuse_sec, ht.sec]
    · exact (ht.secWithin.setF ⟨SEC_REFUSE, 31, 28⟩ _ (by decide)).setF ⟨SEC_REFUSE, 15, 0⟩ _ (by decide)
  · exact secToken_key hr hbusy hl hact hok
  · obtain ⟨u, ht, hdo⟩ := sec_reaches hr 0x30000000 (secCommand 3 0 v [] w)
    have hl' := ht.record.trans hl
    have hrun : secCommand 3 0 v [] w u = secSigDone 3 (s.tokenResult l (sigOf l 88 v)) (sigOf l 88 v).keySel u := by
      have hfail := secTokenRun_fails (u := u) (v := v) (w := w) (by rwa [hl', ht.feat (by decide)])
        (by rwa [hl', ht.tokenResult])
      rw [hl', ht.tokenResult] at hfail
      simpa [secCommand, ht.busy, hbusy] using hfail
    obtain ⟨hres, hsec, -, htseq, hin⟩ := secSigDone_fails ht (op := 3) (sigOf l 88 v).keySel (tokenResult_lt l (sigOf l 88 v) s)
    exact ⟨_, congrArg Host.Outcome.next (hdo.trans hrun), ⟨hres, hsec, htseq⟩, hin⟩
  · have hn : n % 256 = n := Nat.mod_eq_of_lt (by omega)
    obtain ⟨u, ht, hdo⟩ := sec_reaches hr (0x40000000 + n % 256) (secCommand 4 (n % 256) v [] w)
    have hrun : secCommand 4 (n % 256) v [] w u =
        secDone 4 (if w then 1 else 9) (nvPut n (s.recBuf (s.getF SEC_NVLEN_LEN)) w u) := by
      have hhost := secNvWriteRun_host (u := u) (v := v) (w := w) hlo hhi (by rwa [ht.getF (by decide)])
      rw [ht.record] at hhost
      rw [hn]
      simpa [secCommand, ht.busy, hbusy] using hhost
    refine ⟨_, congrArg Host.Outcome.next (hdo.trans hrun), ⟨?_, fun hw => ?_⟩, ?_⟩
    · exact secDone_result _ (by split <;> decide)
    · subst hw
      have hcount := (nvPut_counts n (s.recBuf (s.getF SEC_NVLEN_LEN)) u).of_getF (ht.getF (f := SEC_NV_WRITES) (by decide))
      refine ⟨?_, ?_⟩
      · rw [nvRec_of_sec (secDone_sec _ _ _), nvPut_data]
      · unfold Counted at hcount ⊢
        rw [secDone_getF _ (by decide), hcount]
    · exact (ht.secWithin.nvPut (by decide) _ _ _).secDone (by decide)
  · exact secNvWrite_licence hr hbusy hl hok hjudge
  · obtain ⟨u, ht, hdo⟩ := sec_reaches hr (0x40000000 + 1 % 256) (secCommand 4 (1 % 256) v [] w)
    have hl' := ht.record.trans hl
    have hrun : secCommand 4 (1 % 256) v [] w u =
        secSigDone 4 (s.licResult l (sigOf l (l.length - 5480) v)) (sigOf l (l.length - 5480) v).keySel u := by
      have hfail := secNvWriteRun_fails (u := u) (v := v) (w := w) (by rwa [hl', ht.licResult])
      rw [hl', ht.licResult] at hfail
      simpa [secCommand, ht.busy, hbusy] using hfail
    obtain ⟨hres, hsec, hexc, -, hin⟩ := secSigDone_fails ht (op := 4) (sigOf l (l.length - 5480) v).keySel
      (licResult_lt l (sigOf l (l.length - 5480) v) s)
    exact ⟨_, congrArg Host.Outcome.next (hdo.trans hrun), ⟨hres, hsec, hexc⟩, hin⟩
  · have hmod : n % 256 = n := Nat.mod_eq_of_lt hn
    obtain ⟨u, ht, hdo⟩ := sec_reaches hr (0x50000000 + n % 256) (secCommand 5 (n % 256) noVerdict [] true)
    have hrun : secCommand 5 (n % 256) noVerdict [] true u =
        secDone 5 1 ((winPut 0xC0000 l (nvRead n u).2).setF SEC_NVLEN_LEN l.length) := by
      have hread := secNvReadRun_some (u := u) hid (by rw [nvRec_of_sec ht.sec, hdata])
      rw [hmod]
      simpa [secCommand, ht.busy, hbusy] using hread
    refine ⟨_, congrArg Host.Outcome.next (hdo.trans hrun), ⟨secDone_result _ (by decide), ?_, ?_⟩, ?_⟩
    · exact (secDone_getF _ (by decide)).trans
        (getF_setF_fits _ SEC_NVLEN_LEN _ (by decide) (show l.length < 2 ^ 17 by omega))
    · rw [winBytes_of_win (secDone_win _ _ _), winBytes_of_win (setF_win _ _ _), winBytes_winPut]
    · refine Within.secDone (Within.setF (Within.of_regs (ht.eventWithin.step (nvRead_within n u) ?_) rfl) SEC_NVLEN_LEN _ ?_) ?_
      all_goals decide
  · have hmod : n % 256 = n := Nat.mod_eq_of_lt hn
    obtain ⟨u, ht, hdo⟩ := sec_reaches hr (0x50000000 + n % 256) (secCommand 5 (n % 256) noVerdict [] true)
    have hrun : secCommand 5 (n % 256) noVerdict [] true u = secDone 5 10 (nvRead n u).2 := by
      have hread := secNvReadRun_none (u := u) hid (by rw [nvRec_of_sec ht.sec, hdata])
      rw [hmod]
      simpa [secCommand, ht.busy, hbusy] using hread
    refine ⟨_, congrArg Host.Outcome.next (hdo.trans hrun), ⟨secDone_result _ (by decide), ?_⟩, ?_⟩
    · rw [secDone_win, nvRead_win, ht.win]
    · exact (ht.eventWithin.step (nvRead_within n u) (by decide)).secDone (by decide)
  · exact secAttest_signs hr hbusy hfeat hleaf htoken
  · obtain ⟨u, ht, hdo⟩ := sec_reaches hr 0x60000000 (secCommand 6 0 noVerdict sig w)
    have hrun : secCommand 6 0 noVerdict sig w u = secAttestRun sig w u := by simp [secCommand, ht.busy, hbusy]
    obtain ⟨hstep, hin⟩ := secAttestRun_limited (u := u) (sig := sig) (w := w) (by rwa [ht.feat (by decide)])
      (by rwa [ht.getF (by decide)])
    have hcount := (counted_bump u SEC_ATT_LIMITED (by decide) (by decide)).of_getF (ht.getF (f := SEC_ATT_LIMITED) (by decide))
    refine ⟨_, congrArg Host.Outcome.next (hdo.trans hrun), ⟨?_, ?_, ?_, ?_⟩, ?_⟩
    · rw [hin.getF _ (by decide), secDone_result _ (by decide)]
    · unfold Counted at hcount ⊢
      rw [hin.getF _ (by decide), secDone_getF _ (by decide), hcount]
    · rw [hin.getF _ (by decide), secDone_getF _ (by decide), getF_bump_apart _ _ _ (by decide), ht.getF (by decide)]
    · rw [hstep.win, secDone_win, bump_win, ht.win]
    · exact ((ht.eventWithin.setF SEC_ATT_LIMITED _ (by decide)).secDone (by decide)).step hin (by decide)
  · have hticks : 2 * Config.ticksPerSecond = 7864320000 := by decide
    have hrun : exec (.attestTokenRefill n) s = .next
        (let s1 := (s.advance n).setF SEC_ATT_TOKENS (min 16 (s.getF SEC_ATT_TOKENS + 1))
         { s1 with sec := { s1.sec with refillAt := s.sec.refillAt + 2 * Config.ticksPerSecond } }) := by
      have h : exec (.attestTokenRefill n) s = execAttestTokenRefill n s := rfl
      rw [h, execAttestTokenRefill, if_neg (by omega)]
    refine ⟨_, hrun, ⟨?_, ?_⟩, ?_⟩
    · exact getF_setF_fits (s.advance n) SEC_ATT_TOKENS _ (by decide) (show _ < 2 ^ 5 by omega)
    · dsimp only
      rw [hticks]
    · exact ((advance_within n s).mono (by decide)).setF SEC_ATT_TOKENS _ (by decide)

end Sys2Proof.Machine
end

section
/-! SUPPORT. The KT-440 personality (R383 to R400): what a mirror register reads, what the tuners hold, and what the path of a
tuner leaves of them. -/

set_option Elab.async false

namespace Sys2Proof.Machine

theorem EventStep.kt {s u : State} (h : EventStep s u) : u.kt = s.kt := (congrArg State.kt h.eq :)
theorem EventStep.hb {s u : State} (h : EventStep s u) : u.hb = s.hb := (congrArg State.hb h.eq :)

/-! ## Mirror registers -/

section
variable {s u : State} {i j t : Nat}

theorem ktReg_ne (h : j ≠ i) : CMP_KT j ≠ CMP_KT i := by
  simp only [CMP_KT]
  omega

@[simp] theorem ktGet_ktSet_same (s : State) (i v : Nat) : (s.ktSet i v).ktGet i = v % 256 :=
  getF_setF_same _ _ _ (by simp [CMP_KT_VALUE]) (by simp [CMP_KT_VALUE])

theorem ktGet_ktSet_other (s : State) (v : Nat) (h : j ≠ i) : (s.ktSet i v).ktGet j = s.ktGet j :=
  getF_setF_reg _ _ _ _ (ktReg_ne h)

theorem getF_ktSet (s : State) (v : Nat) {f : Fld} (hi : i < 256) (hf : f.reg < 0x70000 ∨ 0x70400 ≤ f.reg) :
    (s.ktSet i v).getF f = s.getF f := getF_setF_reg _ _ _ _ (by simp only [CMP_KT_VALUE, CMP_KT]; omega)

theorem ktGet_setF (s : State) {f : Fld} (v : Nat) (hi : i < 256) (hf : f.reg < 0x70000 ∨ 0x70400 ≤ f.reg) :
    (s.setF f v).ktGet i = s.ktGet i := getF_setF_reg _ _ _ _ (by simp only [CMP_KT_VALUE, CMP_KT]; omega)

theorem tuner_of_kt (h : u.kt = s.kt) (t : Nat) : u.tuner t = s.tuner t := by rw [State.tuner, h]; rfl

@[simp] theorem ktSet_kt (s : State) (i v : Nat) : (s.ktSet i v).kt = s.kt := setF_kt _ _ _
@[simp] theorem ktSet_tuner (s : State) (i v t : Nat) : (s.ktSet i v).tuner t = s.tuner t := tuner_of_kt (ktSet_kt s i v) t
@[simp] theorem ktBits_kt (s : State) (i hi lo v : Nat) : (s.ktBits i hi lo v).kt = s.kt := ktSet_kt _ _ _
@[simp] theorem ktBits_tuner (s : State) (i hi lo v t : Nat) : (s.ktBits i hi lo v).tuner t = s.tuner t := ktSet_tuner _ _ _ _

/-- A register lies in the area of its own word. -/
theorem inAreas_word (a : Nat) (l : List (Nat × Nat)) : InAreas ((a, a + 4) :: l) a := ⟨_, .head _, le_rfl, by simp⟩

theorem InAreas.tail {l : List (Nat × Nat)} {a : Nat} (h : InAreas l a) (p : Nat × Nat) : InAreas (p :: l) a :=
  let ⟨q, hq, hin⟩ := h
  ⟨q, .tail _ hq, hin⟩

theorem ktGet_ktBits_other (s : State) (hi lo v : Nat) (h : j ≠ i) : (s.ktBits i hi lo v).ktGet j = s.ktGet j :=
  ktGet_ktSet_other s _ h

theorem ktGet_lt (s : State) (i : Nat) : s.ktGet i < 256 := bitsOf_lt _ _ _

/-- A bit of a mirror register in which a field has been replaced. -/
theorem testBit_ktBits (s : State) (i hi lo v b : Nat) (h : lo ≤ hi) (hb : b < 8) :
    ((s.ktBits i hi lo v).ktGet i).testBit b = if lo ≤ b ∧ b ≤ hi then v.testBit (b - lo) else (s.ktGet i).testBit b := by
  rw [State.ktBits, ktGet_ktSet_same, show (256 : Nat) = 2 ^ 8 from rfl, Nat.testBit_mod_two_pow, testBit_putBits _ _ _ _ _ h]
  simp [hb]

/-- Registers read alike where the change lies outside a mirror register. -/
theorem Within.ktGet {l : List (Nat × Nat)} (h : Within l s u) (i : Nat) (hi : ∀ p ∈ l, CMP_KT i < p.1 ∨ p.2 ≤ CMP_KT i) :
    u.ktGet i = s.ktGet i := h.getF _ hi

theorem Within.ktSet {l : List (Nat × Nat)} (h : Within l s u) (i v : Nat) (hi : InAreas l (CMP_KT i)) :
    Within l s (u.ktSet i v) := h.setF _ _ hi

theorem Within.ktBits {l : List (Nat × Nat)} (h : Within l s u) (i hi lo v : Nat) (hin : InAreas l (CMP_KT i)) :
    Within l s (u.ktBits i hi lo v) := h.ktSet _ _ hin

theorem irqRefresh_within (s : State) : Within [(0x1000, 0x2000)] s (irqRefresh s) :=
  fun a ha => irqRefresh_rd s a (by have h := ha _ (List.mem_singleton_self _); rintro rfl; simp [EVT_PEND_IRQ, EVT_PEND] at h)

theorem irqRefresh_kt (s : State) : (irqRefresh s).kt = s.kt := (irqRefresh_step s).kt
theorem irqRefresh_hb (s : State) : (irqRefresh s).hb = s.hb := (irqRefresh_step s).hb

/-- An interrupt moves INTSTAT and the event registers alone (R388). -/
theorem ktInt_within (bits : Nat) (s : State) : Within [(CMP_KT 2, CMP_KT 2 + 4), (0x1000, 0x2000)] s (ktInt bits s) :=
  (Within.ktSet (.refl _ _) _ _ (inAreas_word _ _)).step (irqRefresh_within _) (by decide)

theorem ktInt_kt (bits : Nat) (s : State) : (ktInt bits s).kt = s.kt := irqRefresh_kt _
theorem ktInt_hb (bits : Nat) (s : State) : (ktInt bits s).hb = s.hb := irqRefresh_hb _

theorem ktInt_stat (bits : Nat) (s : State) : (ktInt bits s).ktGet 2 = (s.ktGet 2 ||| bits) % 256 :=
  ((irqRefresh_within _).ktGet 2 (by decide)).trans (ktGet_ktSet_same _ _ _)

/-! ## Tuners -/

/-- The readings of a tuner's mirror (R389). -/
def ktShownAreas (t : Nat) : List (Nat × Nat) :=
  [(CMP_KT (ktIdx t 6), CMP_KT (ktIdx t 14)), (CMP_KT (ktIdx t 18), CMP_KT (ktIdx t 19))]

theorem ktMirror_within (t : Nat) (s : State) : Within (ktShownAreas t) s (ktMirror t s) := by
  unfold ktMirror
  have hin (o : Nat) (ho : 6 ≤ o ∧ o < 14 ∨ o = 18) : InAreas (ktShownAreas t) (CMP_KT (ktIdx t o)) := by
    simp only [InAreas, ktShownAreas, List.mem_cons, List.not_mem_nil, or_false, exists_eq_or_imp, exists_eq_left, CMP_KT, ktIdx]
    omega
  split
  · exact .refl _ _
  · exact (((((((((Within.refl _ s).ktBits _ _ _ _ (hin _ (by simp))).ktBits _ _ _ _ (hin _ (by simp))).ktSet _ _ (hin _ (by simp))).ktSet
      _ _ (hin _ (by simp))).ktSet _ _ (hin _ (by simp))).ktSet _ _ (hin _ (by simp))).ktSet _ _ (hin _ (by simp))).ktSet
      _ _ (hin _ (by simp))).ktSet _ _ (hin _ (by simp)) |>.ktSet _ _ (hin _ (by simp))

theorem ktMirror_kt (t : Nat) (s : State) : (ktMirror t s).kt = s.kt := by
  unfold ktMirror
  split
  · rfl
  · simp only [ktSet_kt, ktBits_kt]

theorem ktMirror_tuner (t k : Nat) (s : State) : (ktMirror t s).tuner k = s.tuner k := tuner_of_kt (ktMirror_kt t s) k

/-- BUSY, SEEKFAIL and ERR of STATUS are no readings (R389). -/
theorem ktMirror_status (t b : Nat) (s : State) (hb : b = 0 ∨ b = 3 ∨ b = 4) :
    ((ktMirror t s).ktGet (ktIdx t 6)).testBit b = (s.ktGet (ktIdx t 6)).testBit b := by
  have hne (o : Nat) (ho : o ≠ 6) : ktIdx t 6 ≠ ktIdx t o := by simp only [ktIdx]; omega
  unfold ktMirror
  split
  · rfl
  · simp only [ktGet_ktSet_other _ _ (hne _ (by decide : 7 ≠ 6)), ktGet_ktSet_other _ _ (hne _ (by decide : 8 ≠ 6)),
      ktGet_ktSet_other _ _ (hne _ (by decide : 9 ≠ 6)), ktGet_ktSet_other _ _ (hne _ (by decide : 10 ≠ 6)),
      ktGet_ktSet_other _ _ (hne _ (by decide : 11 ≠ 6)), ktGet_ktSet_other _ _ (hne _ (by decide : 12 ≠ 6)),
      ktGet_ktSet_other _ _ (hne _ (by decide : 13 ≠ 6)), ktGet_ktSet_other _ _ (hne _ (by decide : 18 ≠ 6))]
    rw [testBit_ktBits _ _ _ _ _ _ (by decide) (by omega), if_neg (by omega), testBit_ktBits _ _ _ _ _ _ (by decide) (by omega),
      if_neg (by omega)]

/-- RDSCNT and RDSDATA of a tuner (R399). -/
def ktFifoAreas (t : Nat) : List (Nat × Nat) :=
  [(CMP_KT (ktIdx t 14), CMP_KT (ktIdx t 15)), (CMP_KT (ktIdx t 16), CMP_KT (ktIdx t 17))]

theorem ktFifoRefresh_within (t : Nat) (s : State) : Within (ktFifoAreas t) s (ktFifoRefresh t s) := by
  have hin (o : Nat) (ho : o = 14 ∨ o = 16) : InAreas (ktFifoAreas t) (CMP_KT (ktIdx t o)) := by
    simp only [InAreas, ktFifoAreas, List.mem_cons, List.not_mem_nil, or_false, exists_eq_or_imp, exists_eq_left, CMP_KT, ktIdx]
    omega
  exact ((Within.refl _ s).ktSet _ _ (hin _ (.inl rfl))).ktSet _ _ (hin _ (.inr rfl))

theorem ktFifoRefresh_kt (t : Nat) (s : State) : (ktFifoRefresh t s).kt = s.kt := by
  simp only [ktFifoRefresh, ktSet_kt]

theorem ktFlush_within (t : Nat) (s : State) : Within (ktFifoAreas t) s (ktFlush t s) :=
  fun a ha => (ktFifoRefresh_within t _ a ha).trans (setTuner_rd _ _ _ _)

theorem ktFlush_tuner (t : Nat) (s : State) : (ktFlush t s).tuner t = { s.tuner t with fifo := [], last := 0 } :=
  (tuner_of_kt (ktFifoRefresh_kt _ _) _).trans (tuner_setTuner_same _ _ _)

theorem ktFlush_count (t : Nat) (s : State) : (ktFlush t s).ktGet (ktIdx t 14) = 0 := by
  unfold ktFlush ktFifoRefresh
  rw [ktGet_ktSet_other _ _ (by simp [ktIdx]), ktGet_ktSet_same, tuner_setTuner_same]
  rfl

end

/-! ## BUSY -/

/-- Where BUSY of tuner t stands (R389). -/
def ktBusyAreas (t : Nat) : List (Nat × Nat) := [(CMP_KT (ktIdx t 6), CMP_KT (ktIdx t 6) + 4), (CMP_STAT, CMP_STAT + 4)]

theorem ktSetBusy_within (t : Nat) (b : Bool) (s : State) : Within (ktBusyAreas t) s (ktSetBusy t b s) :=
  (Within.ktBits (.refl _ _) _ _ _ _ (inAreas_word _ _)).setF _ _ ((inAreas_word _ _).tail _)

@[simp] theorem ktSetBusy_kt (t : Nat) (b : Bool) (s : State) : (ktSetBusy t b s).kt = s.kt :=
  (setB_kt _ _ _).trans (ktBits_kt _ _ _ _ _)
@[simp] theorem ktSetBusy_tuner (t : Nat) (b : Bool) (s : State) (k : Nat) : (ktSetBusy t b s).tuner k = s.tuner k :=
  tuner_of_kt (ktSetBusy_kt t b s) k

theorem ktIdx_lt {t o : Nat} (ht : t < 4) (ho : o < 32) : ktIdx t o < 256 := by simp only [ktIdx]; omega

theorem ktSetBusy_status {t : Nat} (ht : t < 4) (b : Bool) (s : State) (k : Nat) (hk : k < 8) :
    ((ktSetBusy t b s).ktGet (ktIdx t 6)).testBit k = if k = 0 then b else (s.ktGet (ktIdx t 6)).testBit k := by
  rw [ktSetBusy, State.setB, ktGet_setF _ _ (ktIdx_lt ht (by decide)) (by simp [CMP_STAT]), testBit_ktBits _ _ _ _ _ _ le_rfl hk]
  obtain rfl | h := eq_or_ne k 0
  · cases b <;> rfl
  · rw [if_neg (by omega), if_neg h]

theorem ktSetBusy_busy {t : Nat} (ht : t < 4) (b : Bool) (s : State) : (ktSetBusy t b s).ktBusy t = b :=
  ktSetBusy_status ht b s 0 (by decide)

theorem ktSetBusy_stat {t : Nat} (ht : t < 4) (b : Bool) (s : State) : (ktSetBusy t b s).flag ⟨CMP_STAT, t, t⟩ = b :=
  flag_of_getF (getF_setF_fits _ _ _ ⟨le_rfl, by show t < 32; omega⟩ (by
    show b.toNat < 2 ^ (t + 1 - t)
    rw [Nat.add_sub_cancel_left]
    exact b.toNat_lt))

/-! ## The path of a tuner -/

/-- What the path of a tuner leaves of the personality: the tuners, the capture buffers and the mirror (R391, R394). -/
structure KtKept (s u : State) : Prop where
  kt : u.kt = s.kt
  rd : ∀ a, 0x70000 ≤ a → u.rd a = s.rd a

namespace KtKept
variable {s u v : State}

theorem refl (s : State) : KtKept s s := ⟨rfl, fun _ _ => rfl⟩

theorem trans (h : KtKept s u) (hv : KtKept u v) : KtKept s v :=
  ⟨hv.kt.trans h.kt, fun a ha => (hv.rd a ha).trans (h.rd a ha)⟩

theorem wr (h : KtKept s u) {a : Nat} (w : Word) (ha : a < 0x70000) : KtKept s (u.wr a w) :=
  h.trans ⟨rfl, fun _ hb => rd_wr_other _ _ _ _ (by omega)⟩

theorem setF (h : KtKept s u) (f : Fld) (n : Nat) (hf : f.reg < 0x70000) : KtKept s (u.setF f n) := h.wr _ hf

theorem refuseInst (h : KtKept s u) (r c : Nat) (hr : r < 0x70000) : KtKept s (refuseInst r c u) :=
  (h.setF _ _ hr).setF _ _ hr

theorem of_eq (h : KtKept s u) (hk : v.kt = u.kt) (hr : v.regs = u.regs) : KtKept s v :=
  h.trans ⟨hk, fun _ _ => rd_of_regs hr _⟩

theorem bankRefresh (h : KtKept s u) : KtKept s (bankRefresh u) :=
  ((((h.setF _ _ (by decide)).setF _ _ (by decide)).setF _ _ (by decide)).setF _ _ (by decide)).setF _ _ (by decide)

theorem raise (h : KtKept s u) (e i : Nat) : KtKept s (Machine.raise e i u) :=
  h.trans ⟨(raise_step e i u).kt, fun a ha => raise_within e i u a (by
    have hbelow : ∀ p ∈ eventAreas, p.2 ≤ 0x70000 := by decide
    exact fun p hp => .inr ((hbelow p hp).trans ha))⟩

end KtKept

end Sys2Proof.Machine
end

section
/-! SUPPORT. Commands of the KT-440 tuners (R394, R396, R397): how they begin, and how the path of a tuner follows. -/

set_option Elab.async false

namespace Sys2Proof.Machine

section
variable {s u : State} {t n : Nat}

/-! ## The path of a tuner -/

theorem KtKept.pathStopped (h : KtKept s u) (hn : n < 512) : KtKept s (pathStopped n u) := by
  have hreg : ∀ hi lo, (⟨PTHn_STAT n, hi, lo⟩ : Fld).reg < 0x70000 := fun _ _ => by show PTHn_STAT n < _; simp only [PTHn_STAT]; omega
  have hw : (PTHn_STAT_WARMUP n).reg < 0x70000 := by simp only [PTHn_STAT_WARMUP]; exact hreg 0 0
  have hs : (PTHn_STAT_STATE n).reg < 0x70000 := by simp only [PTHn_STAT_STATE]; exact hreg 0 0
  have hr : (PTHn_STAT_RS_ACT n).reg < 0x70000 := by simp only [PTHn_STAT_RS_ACT]; exact hreg 0 0
  exact ((((h.setF _ _ hs).setF _ _ hw).setF _ _ hr).of_eq (setPath_kt _ _ _) (setPath_regs _ _ _)).bankRefresh

theorem KtKept.deferMark (h : KtKept s u) (kind k : Nat) : KtKept s (deferMark kind k u) := by
  refine h.trans (forEach_rel KtKept.refl KtKept.trans (fun p hp x => ?_) _)
  have hp256 : p < 256 := lt_of_mem_touched (List.mem_of_mem_filter hp)
  exact ((KtKept.refl x).setF _ _ (by simp only [FOLp_STAT_DEFER, FOLp_STAT]; omega)).raise _ _

theorem KtKept.setPath (h : KtKept s u) (n : Nat) (p : Path) : KtKept s (u.setPath n p) :=
  h.of_eq (setPath_kt _ _ _) (setPath_regs _ _ _)

theorem KtKept.pathAsk (h : KtKept s u) (n : Nat) (c : Change) : KtKept s (pathAsk n c u) := by
  unfold Machine.pathAsk
  dsimp only
  split
  · exact h.setPath _ _
  split
  · exact h
  split
  · exact h.setPath _ _
  split
  · exact h
  · exact h.setPath _ _

theorem KtKept.pathStop (h : KtKept s u) (hn : n < 512) : KtKept s (pathStop n u) := by
  unfold Machine.pathStop
  dsimp only
  split
  · exact h.pathStopped hn
  split
  · split
    · exact (h.setF _ _ (by simp only [PTHn_STAT_STATE, PTHn_STAT]; omega)).deferMark _ _
    · exact h.pathAsk _ _
  · exact h

theorem KtKept.pathStart (h : KtKept s u) (hn : n < 512) : KtKept s (pathStart n u) := by
  have hreg : PTHn_STAT n < 0x70000 := by simp only [PTHn_STAT]; omega
  unfold Machine.pathStart
  dsimp only
  split
  · exact h.refuseInst _ _ hreg
  split
  · exact h.refuseInst _ _ hreg
  split
  · exact h.refuseInst _ _ hreg
  · exact (((h.setF _ _ hreg).setF (PTHn_STAT_RS_ACT n) _ hreg).setPath _ _).bankRefresh

theorem KtKept.pathRefresh (h : KtKept s u) (hn : n < 512) : KtKept s (pathRefresh n u) := by
  have hticks : (PTHn_DLY_TICKS n).reg < 0x70000 := by simp only [PTHn_DLY_TICKS, PTHn_DLY]; omega
  have hsmp : (PTHn_DSMP_SAMPLES n).reg < 0x70000 := by simp only [PTHn_DSMP_SAMPLES, PTHn_DSMP]; omega
  unfold Machine.pathRefresh
  dsimp only
  split <;> exact (h.setF _ _ hticks).setF _ _ hsmp

/-- The settings of a tuner in the registers of its path (R391). -/
theorem ktPathStart_kept (ht : t < 4) (s : State) :
    ∃ x, KtKept s x ∧ KtKept (x.setTuner t { x.tuner t with retune := false }) (ktPathStart t s) := by
  unfold ktPathStart
  extract_lets u am preset hz deemph s1 s2 s3 s4 s5 d s6 v
  have h1 : KtKept s s1 := (KtKept.refl s).wr _ (by simp only [PTHn_CTL]; omega)
  have h2 : KtKept s s2 := ((h1.setF _ _ (by simp only [PTHn_BIN_BIN, PTHn_BIN]; omega)).setF _ _ (by
    simp only [PTHn_NCO_FREQ, PTHn_NCO]; omega)).setF _ _ (by simp only [PTHn_RS_NUM, PTHn_RS]; omega)
  have h3 : KtKept s s3 := h2.wr _ (by simp only [PTHn_SHIFT]; omega)
  have hdem : DEMn_CTL t < 0x70000 := by simp only [DEMn_CTL]; omega
  have h4 : KtKept s s4 := (((h3.setF (DEMn_CTL_DEEMPH t) _ hdem).setF (DEMn_CTL_STEREO t) _ hdem).setF (DEMn_CTL_DELIV t) _ hdem).setF
    (DEMn_CTL_AMDET t) _ hdem
  have h5 : KtKept s s5 := by
    simp only [s5]
    split
    · exact h4
    · exact h4.setF (DEMn_CTL_RDS t) _ hdem
  have h6 : KtKept s s6 := h5.of_eq (setDem_kt _ _ _) (setDem_regs _ _ _)
  clear_value s6
  exact ⟨s6, h6, ((KtKept.refl _).pathRefresh (by omega)).pathStart (by omega)⟩

theorem KtKept.tuner (h : KtKept s u) (k : Nat) : u.tuner k = s.tuner k := tuner_of_kt h.kt k

theorem ktPathStart_tuner (ht : t < 4) (s : State) : (ktPathStart t s).tuner t = { s.tuner t with retune := false } := by
  obtain ⟨x, hx, hu⟩ := ktPathStart_kept ht s
  rw [hu.tuner, tuner_setTuner_same, hx.tuner]

theorem ktPathStart_rd (ht : t < 4) (s : State) {a : Nat} (ha : 0x70000 ≤ a) : (ktPathStart t s).rd a = s.rd a := by
  obtain ⟨x, hx, hu⟩ := ktPathStart_kept ht s
  rw [hu.rd a ha, setTuner_rd, hx.rd a ha]

/-- The path of a tuner is stopped and starts again, at once or once it has stopped (R394). -/
theorem ktRetune_tuner (ht : t < 4) (s : State) :
    ∃ r, (ktRetune t s).tuner t = { s.tuner t with meas := none, retune := r } := by
  have hstop : KtKept (s.setTuner t { s.tuner t with meas := none }) (pathStop t (s.setTuner t { s.tuner t with meas := none })) :=
    (KtKept.refl _).pathStop (by omega)
  unfold ktRetune
  dsimp only
  split
  · exact ⟨false, by rw [ktPathStart_tuner ht, hstop.tuner, tuner_setTuner_same]⟩
  · exact ⟨true, by rw [tuner_setTuner_same, hstop.tuner, tuner_setTuner_same]⟩

theorem ktRetune_rd (ht : t < 4) (s : State) {a : Nat} (ha : 0x70000 ≤ a) : (ktRetune t s).rd a = s.rd a := by
  have hstop : KtKept (s.setTuner t { s.tuner t with meas := none }) (pathStop t (s.setTuner t { s.tuner t with meas := none })) :=
    (KtKept.refl _).pathStop (by omega)
  unfold ktRetune
  dsimp only
  split
  · rw [ktPathStart_rd ht _ ha, hstop.rd a ha, setTuner_rd]
  · rw [setTuner_rd, hstop.rd a ha, setTuner_rd]

theorem ktRetune_getF (ht : t < 4) (s : State) {f : Fld} (hf : 0x70000 ≤ f.reg) : (ktRetune t s).getF f = s.getF f :=
  getF_of_rd (ktRetune_rd ht s hf)

theorem ktRetune_ktGet (ht : t < 4) (s : State) (i : Nat) : (ktRetune t s).ktGet i = s.ktGet i :=
  ktRetune_getF ht s (by simp only [CMP_KT_VALUE, CMP_KT]; omega)

/-! ## A command begins -/

/-- The registers of a tuner from STATUS to FACT, and CMP_STAT. -/
def ktTunerAreas (t : Nat) : List (Nat × Nat) := [(CMP_KT (ktIdx t 6), CMP_KT (ktIdx t 21)), (CMP_STAT, CMP_STAT + 4)]

theorem ktTunerAreas_covers {l : List (Nat × Nat)}
    (h : ∀ p ∈ l, p = (CMP_STAT, CMP_STAT + 4) ∨ CMP_KT (ktIdx t 6) ≤ p.1 ∧ p.2 ≤ CMP_KT (ktIdx t 21)) : Covers (ktTunerAreas t) l := by
  intro p hp
  obtain rfl | hin := h p hp
  · exact ⟨_, .tail _ (.head _), le_rfl, le_rfl⟩
  · exact ⟨_, .head _, hin⟩

theorem factShow_within (t : Nat) (s : State) : Within [(CMP_KT (ktIdx t 19), CMP_KT (ktIdx t 21))] s (factShow t s) := by
  have hin (o : Nat) (ho : o = 19 ∨ o = 20) : InAreas [(CMP_KT (ktIdx t 19), CMP_KT (ktIdx t 21))] (CMP_KT (ktIdx t o)) := by
    simp only [InAreas, List.mem_singleton, exists_eq_left, CMP_KT, ktIdx]
    omega
  exact ((Within.refl _ s).ktSet _ _ (hin _ (.inl rfl))).ktSet _ _ (hin _ (.inr rfl))

theorem factShow_kt (t : Nat) (s : State) : (factShow t s).kt = s.kt := by simp only [factShow, ktSet_kt]

/-- BUSY rises, the FIFO is emptied and the readings follow (R395, R399). -/
def ktRises (t : Nat) (s : State) : State := ktMirror t (factShow t (ktFlush t (ktSetBusy t true s)))

theorem ktRises_within (t : Nat) (s : State) : Within (ktTunerAreas t) s (ktRises t s) := by
  have hbusy : Covers (ktTunerAreas t) (ktBusyAreas t) :=
    ktTunerAreas_covers (by simp [ktBusyAreas, CMP_KT, ktIdx]; omega)
  have hfifo : Covers (ktTunerAreas t) (ktFifoAreas t) :=
    ktTunerAreas_covers (by simp [ktFifoAreas, CMP_KT, ktIdx])
  have hfact : Covers (ktTunerAreas t) [(CMP_KT (ktIdx t 19), CMP_KT (ktIdx t 21))] :=
    ktTunerAreas_covers (by simp [CMP_KT, ktIdx])
  have hshown : Covers (ktTunerAreas t) (ktShownAreas t) :=
    ktTunerAreas_covers (by simp [ktShownAreas, CMP_KT, ktIdx])
  exact ((((ktSetBusy_within t true s).mono hbusy).step (ktFlush_within t _) hfifo).step (factShow_within t _) hfact).step
    (ktMirror_within t _) hshown

theorem ktRises_tuner (t : Nat) (s : State) : (ktRises t s).tuner t = { s.tuner t with fifo := [], last := 0 } := by
  rw [ktRises, ktMirror_tuner, tuner_of_kt (factShow_kt _ _), ktFlush_tuner, ktSetBusy_tuner]

theorem ktRises_busy (ht : t < 4) (s : State) : (ktRises t s).ktBusy t = true := by
  have hfact := (factShow_within t (ktFlush t (ktSetBusy t true s))).ktGet (ktIdx t 6) (by simp [CMP_KT, ktIdx])
  have hflush := (ktFlush_within t (ktSetBusy t true s)).ktGet (ktIdx t 6) (by simp [ktFifoAreas, CMP_KT, ktIdx])
  rw [State.ktBusy, ktRises, ktMirror_status _ _ _ (.inl rfl), hfact, hflush]
  exact ktSetBusy_busy ht true s

/-- RDSOVF of a tuner is no reading (R399). -/
theorem ktRises_missed (t : Nat) (s : State) : (ktRises t s).ktGet (ktIdx t 15) = s.ktGet (ktIdx t 15) := by
  have hfact := (factShow_within t (ktFlush t (ktSetBusy t true s))).ktGet (ktIdx t 15) (by simp [CMP_KT, ktIdx])
  have hbusy := (ktSetBusy_within t true s).ktGet (ktIdx t 15) (by
    simp only [ktBusyAreas, List.forall_mem_cons, CMP_KT, ktIdx, CMP_STAT]
    refine ⟨by omega, by omega, by simp⟩)
  have hflush := (ktFlush_within t (ktSetBusy t true s)).ktGet (ktIdx t 15) (by simp [ktFifoAreas, CMP_KT, ktIdx])
  have hmirror := (ktMirror_within t (factShow t (ktFlush t (ktSetBusy t true s)))).ktGet (ktIdx t 15) (by
    simp [ktShownAreas, CMP_KT, ktIdx])
  rw [ktRises, hmirror, hfact, hflush, hbusy]

end

end Sys2Proof.Machine
end

section
/-! SUPPORT. The KT-440 tuner commands as their statement has them (R390, R394 to R397). -/

set_option Elab.async false

namespace Sys2Proof.Machine

section
variable {s u : State} {t f : Nat} {c : KtCmd}

/-- An accepted code stands in CMD, clears ERR and is counted (R390, R394). -/
def ktTaken (t code : Nat) (s : State) : State := ((s.ktSet (ktIdx t 0) code).ktBits (ktIdx t 6) 4 4 0).bump CMP_CMDCNT_ACCEPTED

theorem ktTaken_kt (t code : Nat) (s : State) : (ktTaken t code s).kt = s.kt := by rw [ktTaken, bump_kt, ktBits_kt, ktSet_kt]

theorem ktTaken_tuner (t code k : Nat) (s : State) : (ktTaken t code s).tuner k = s.tuner k := tuner_of_kt (ktTaken_kt t code s) k

theorem ktIdx_ne {o p : Nat} (h : o ≠ p) (t : Nat) : ktIdx t o ≠ ktIdx t p := by simp only [ktIdx]; omega

theorem ktGet_bump (s : State) {f : Fld} {i : Nat} (hi : i < 256) (hf : f.reg < 0x70000 ∨ 0x70400 ≤ f.reg) :
    (s.bump f).ktGet i = s.ktGet i := ktGet_setF s _ hi hf

theorem ktTaken_ktGet (ht : t < 4) (code : Nat) (s : State) {o : Nat} (ho : o < 32) (h0 : o ≠ 0) (h6 : o ≠ 6) :
    (ktTaken t code s).ktGet (ktIdx t o) = s.ktGet (ktIdx t o) := by
  rw [ktTaken, ktGet_bump _ (ktIdx_lt ht ho) (by simp [CMP_CMDCNT_ACCEPTED, CMP_CMDCNT]),
    ktGet_ktBits_other _ _ _ _ (ktIdx_ne h6 t), ktGet_ktSet_other _ _ (ktIdx_ne h0 t)]

theorem ktTaken_counts (ht : t < 4) (code : Nat) (s : State) : Counted CMP_CMDCNT_ACCEPTED s (ktTaken t code s) := by
  have hfar : CMP_CMDCNT_ACCEPTED.reg < 0x70000 ∨ 0x70400 ≤ CMP_CMDCNT_ACCEPTED.reg := by simp [CMP_CMDCNT_ACCEPTED, CMP_CMDCNT]
  exact (counted_bump _ _ (by decide) (by decide)).of_getF
    ((getF_ktSet _ _ (ktIdx_lt ht (by decide)) hfar).trans (getF_ktSet _ _ (ktIdx_lt ht (by decide)) hfar))

/-! ## Beginning -/

/-- A tuner at the beginning of a command (R394 to R397). -/
def Tuner.begin (u : Tuner) (at_ : Nat × Bool) (c : KtCmd) (mode freq cfg : Nat) : Tuner :=
  { u with cmd := c, seek := if c == .powerDown then u.seek else cfg, t0 := at_.1, accel := at_.2, mode := mode, freq := freq,
           cancel := false, steps := 0, seekFrom := u.freq, powered := !(c == .powerDown) }

/-- The state in which BUSY rises for a command. -/
def ktBegun (t : Nat) (at_ : Nat × Bool) (c : KtCmd) (mode freq : Nat) (s : State) : State :=
  let s1 := if (s.tuner t).cmd = .none then s else s.bump CMP_CMDCNT_RESTART
  (if c == .powerDown then s1.ktSet (ktIdx t 15) 0 else s1).setTuner t
    ((s.tuner t).begin at_ c mode freq (s.ktGet (ktIdx t 5)))

theorem ktBegin_eq (t : Nat) (at_ : Nat × Bool) (c : KtCmd) (mode freq : Nat) (s : State) :
    ktBegin t at_ c mode freq s = ktRises t (ktBegun t at_ c mode freq s) := rfl

theorem ktBegin_tuner (t : Nat) (at_ : Nat × Bool) (c : KtCmd) (mode freq : Nat) (s : State) :
    (ktBegin t at_ c mode freq s).tuner t =
      { (s.tuner t).begin at_ c mode freq (s.ktGet (ktIdx t 5)) with fifo := [], last := 0 } := by
  rw [ktBegin_eq, ktRises_tuner, ktBegun, tuner_setTuner_same]

theorem ktBegin_busy (ht : t < 4) (at_ : Nat × Bool) (c : KtCmd) (mode freq : Nat) (s : State) :
    (ktBegin t at_ c mode freq s).ktBusy t = true := ktRises_busy ht _

theorem ktRestart_accepted (u : Tuner) (s : State) :
    (if u.cmd = .none then s else s.bump CMP_CMDCNT_RESTART).getF CMP_CMDCNT_ACCEPTED = s.getF CMP_CMDCNT_ACCEPTED := by
  split
  · rfl
  · exact getF_bump_apart _ _ _ (by decide)

theorem ktBegun_accepted (ht : t < 4) (at_ : Nat × Bool) (c : KtCmd) (mode freq : Nat) (s : State) :
    (ktBegun t at_ c mode freq s).getF CMP_CMDCNT_ACCEPTED = s.getF CMP_CMDCNT_ACCEPTED := by
  unfold ktBegun
  extract_lets s1
  have h1 : s1.getF CMP_CMDCNT_ACCEPTED = s.getF CMP_CMDCNT_ACCEPTED := ktRestart_accepted _ s
  clear_value s1
  rw [setTuner_getF]
  split
  · rw [getF_ktSet _ _ (ktIdx_lt ht (by decide)) (by simp [CMP_CMDCNT_ACCEPTED, CMP_CMDCNT]), h1]
  · exact h1

theorem ktBegin_accepted (ht : t < 4) (at_ : Nat × Bool) (c : KtCmd) (mode freq : Nat) (s : State) :
    (ktBegin t at_ c mode freq s).getF CMP_CMDCNT_ACCEPTED = s.getF CMP_CMDCNT_ACCEPTED := by
  have hrises := (ktRises_within t (ktBegun t at_ c mode freq s)).getF CMP_CMDCNT_ACCEPTED (by
    simp only [ktTunerAreas, List.forall_mem_cons, CMP_KT, ktIdx, CMP_STAT, CMP_CMDCNT_ACCEPTED, CMP_CMDCNT]
    exact ⟨by omega, by omega, by simp⟩)
  rw [ktBegin_eq, hrises, ktBegun_accepted ht]

theorem ktBegin_missed (t : Nat) (at_ : Nat × Bool) (mode freq : Nat) (s : State) :
    (ktBegin t at_ .powerDown mode freq s).ktGet (ktIdx t 15) = 0 := by
  rw [ktBegin_eq, ktRises_missed]
  unfold ktBegun
  extract_lets s1
  clear_value s1
  rw [if_pos (by rfl)]
  exact (setTuner_getF _ _ _ _).trans (ktGet_ktSet_same s1 _ _)

/-! ## TUNE, POWER_UP and POWER_DOWN -/

theorem ktIssue_runs (ht : t < 4) (hr : s.ktRuns = true) (code : Nat) : ktIssue t code s = ktCommand t code s.ktNow s := by
  rw [ktIssue, if_pos (by simp [ht, hr])]

/-- An accepted command that tunes (R394, R397). -/
theorem ktIssue_tune {code : Nat} (ht : t < 4) (hr : s.ktRuns = true) (hcode : code = 1 ∨ code = 6)
    (ha : s.ktAccepts t code = true) :
    ktIssue t code s = ktRetune t (ktBegin t s.ktNow .tune (s.ktGet (ktIdx t 1)) (s.ktFreq t) (ktTaken t code s)) := by
  rw [ktIssue_runs ht hr, ktCommand, if_neg (by simp [ha])]
  obtain rfl | rfl := hcode <;> rfl

/-- What an accepted command that tunes shows. -/
theorem ktTuned_shows {code : Nat} (ht : t < 4) (s : State) (at_ : Nat × Bool) (mode freq : Nat) :
    let u := ktRetune t (ktBegin t at_ .tune mode freq (ktTaken t code s))
    (u.tuner t).cmd = .tune ∧ (u.tuner t).freq = freq ∧ (u.tuner t).t0 = at_.1 ∧ (u.tuner t).powered = true ∧
      (u.tuner t).fifo = [] ∧ u.ktBusy t = true ∧ Counted CMP_CMDCNT_ACCEPTED s u := by
  intro u
  obtain ⟨r, hu⟩ := ktRetune_tuner ht (ktBegin t at_ .tune mode freq (ktTaken t code s))
  rw [ktBegin_tuner] at hu
  have hcount : u.getF CMP_CMDCNT_ACCEPTED = (ktTaken t code s).getF CMP_CMDCNT_ACCEPTED :=
    (ktRetune_getF ht _ (by decide)).trans (ktBegin_accepted ht _ _ _ _ _)
  refine ⟨congrArg Tuner.cmd hu, congrArg Tuner.freq hu, congrArg Tuner.t0 hu, congrArg Tuner.powered hu, congrArg Tuner.fifo hu,
    ?_, hcount.trans (ktTaken_counts ht code s)⟩
  rw [State.ktBusy, ktRetune_ktGet ht]
  exact ktBegin_busy ht _ _ _ _ _

/-- POWER_DOWN stops the path of the tuner (R394). -/
theorem ktIssue_powerDown (ht : t < 4) (hr : s.ktRuns = true) : ∃ x, ktIssue t 5 s = x.setTuner t { x.tuner t with retune := false } ∧
    KtKept (ktBegin t s.ktNow .powerDown (s.tuner t).mode (s.tuner t).freq (ktTaken t 5 s)) x := by
  refine ⟨_, ?_, (KtKept.refl _).pathStop (n := t) (by omega)⟩
  rw [ktIssue_runs ht hr, ktCommand, if_neg (by simp [State.ktAccepts])]
  rfl

theorem ktPowerDown_shows (ht : t < 4) (hr : s.ktRuns = true) :
    let u := ktIssue t 5 s
    (u.tuner t).cmd = .powerDown ∧ (u.tuner t).powered = false ∧ (u.tuner t).retune = false ∧ u.ktGet (ktIdx t 15) = 0 ∧
      u.ktBusy t = true ∧ Counted CMP_CMDCNT_ACCEPTED s u := by
  obtain ⟨x, hu, hx⟩ := ktIssue_powerDown ht hr
  have htuner := hx.tuner t
  rw [ktBegin_tuner] at htuner
  have hget (i : Nat) : x.ktGet i = (ktBegin t s.ktNow .powerDown (s.tuner t).mode (s.tuner t).freq (ktTaken t 5 s)).ktGet i :=
    getF_of_rd (hx.rd _ (by simp only [CMP_KT_VALUE, CMP_KT]; omega))
  have hcount : x.getF CMP_CMDCNT_ACCEPTED = (ktTaken t 5 s).getF CMP_CMDCNT_ACCEPTED :=
    (getF_of_rd (hx.rd _ (by decide))).trans (ktBegin_accepted ht _ _ _ _ _)
  rw [hu]
  dsimp only
  rw [tuner_setTuner_same, htuner]
  refine ⟨rfl, rfl, rfl, (hget _).trans (ktBegin_missed _ _ _ _ _), ?_, hcount.trans (ktTaken_counts ht 5 s)⟩
  exact (congrArg (·.testBit 0) (hget _)).trans (ktBegin_busy ht _ _ _ _ _)

/-! ## Seeking -/

theorem seekTune_tuner (ht : t < 4) (f : Nat) (s : State) : ∃ r, (seekTune t f s).tuner t =
    { s.tuner t with freq := f, steps := (s.tuner t).steps + 1, t0 := s.now, meas := none, retune := r } := by
  obtain ⟨r, hu⟩ := ktRetune_tuner ht (factShow t
    (s.setTuner t { s.tuner t with freq := f, steps := (s.tuner t).steps + 1, t0 := s.now }))
  exact ⟨r, by rw [seekTune, hu, tuner_of_kt (factShow_kt _ _), tuner_setTuner_same]⟩

theorem seekTune_busy (ht : t < 4) (f : Nat) (s : State) : (seekTune t f s).ktBusy t = s.ktBusy t := by
  have hfact := (factShow_within t (s.setTuner t { s.tuner t with freq := f, steps := (s.tuner t).steps + 1, t0 := s.now })).ktGet
    (ktIdx t 6) (by simp [CMP_KT, ktIdx])
  rw [State.ktBusy, seekTune, ktRetune_ktGet ht, hfact]
  rfl

/-- A seek that has begun tunes to its first raster point, where there is one. -/
def seekFirst (t : Nat) (s : State) : State :=
  match s.seekNext t with
  | some f => seekTune t f s
  | none => s

theorem seekFirst_some (h : s.seekNext t = some f) : seekFirst t s = seekTune t f s := by rw [seekFirst, h]

/-- SEEK_UP and SEEK_DOWN begin at the next raster point (R396). -/
theorem ktIssue_seek {code : Nat} {c : KtCmd} (ht : t < 4) (hr : s.ktRuns = true)
    (hcode : code = 2 ∧ c = .seekUp ∨ code = 3 ∧ c = .seekDown) (hok : s.seekOk t = true)
    (hnext : rasterNext ((s.ktGet (ktIdx t 1)).testBit 0) (bitsOf (s.ktGet (ktIdx t 5)) 5 4) (c == .seekUp) (s.tuner t).freq = some f) :
    ktIssue t code s = seekTune t f (ktBegin t s.ktNow c (s.ktGet (ktIdx t 1)) (s.tuner t).freq (ktTaken t code s)) := by
  have ha : s.ktAccepts t code = true := by obtain ⟨rfl, -⟩ | ⟨rfl, -⟩ := hcode <;> exact hok
  have hpoint : (ktBegin t s.ktNow c (s.ktGet (ktIdx t 1)) (s.tuner t).freq (ktTaken t code s)).seekNext t = some f := by
    have hcfg : (ktTaken t code s).ktGet (ktIdx t 5) = s.ktGet (ktIdx t 5) := ktTaken_ktGet ht _ _ (by decide) (by decide) (by decide)
    have hoff : (c == .powerDown) = false := by obtain ⟨-, rfl⟩ | ⟨-, rfl⟩ := hcode <;> rfl
    rw [State.seekNext, ktBegin_tuner, hcfg]
    simp only [Tuner.begin, hoff, hnext, Bool.false_eq_true, if_false]
  rw [ktIssue_runs ht hr, ktCommand, if_neg (by simp [ha])]
  obtain ⟨rfl, rfl⟩ | ⟨rfl, rfl⟩ := hcode
  · exact seekFirst_some hpoint
  · exact seekFirst_some hpoint

/-- What a seek shows at its first raster point. -/
theorem ktSeek_shows {code : Nat} {c : KtCmd} (ht : t < 4) (hr : s.ktRuns = true)
    (hcode : code = 2 ∧ c = .seekUp ∨ code = 3 ∧ c = .seekDown) (hok : s.seekOk t = true)
    (hnext : rasterNext ((s.ktGet (ktIdx t 1)).testBit 0) (bitsOf (s.ktGet (ktIdx t 5)) 5 4) (c == .seekUp) (s.tuner t).freq = some f) :
    let u := ktIssue t code s
    (u.tuner t).cmd = c ∧ (u.tuner t).freq = f ∧ (u.tuner t).steps = 1 ∧ (u.tuner t).seekFrom = (s.tuner t).freq ∧
      (u.tuner t).seek = s.ktGet (ktIdx t 5) ∧ (u.tuner t).meas = none ∧ u.ktBusy t = true := by
  have hcfg : (ktTaken t code s).ktGet (ktIdx t 5) = s.ktGet (ktIdx t 5) := ktTaken_ktGet ht _ _ (by decide) (by decide) (by decide)
  have hoff : (c == .powerDown) = false := by obtain ⟨-, rfl⟩ | ⟨-, rfl⟩ := hcode <;> rfl
  have hbusy := seekTune_busy ht f (ktBegin t s.ktNow c (s.ktGet (ktIdx t 1)) (s.tuner t).freq (ktTaken t code s))
  obtain ⟨r, hu⟩ := seekTune_tuner ht f (ktBegin t s.ktNow c (s.ktGet (ktIdx t 1)) (s.tuner t).freq (ktTaken t code s))
  rw [ktBegin_tuner, ktTaken_tuner, hcfg] at hu
  rw [ktIssue_seek ht hr hcode hok hnext]
  dsimp only
  rw [hu, hbusy]
  exact ⟨rfl, rfl, rfl, rfl, by simp only [Tuner.begin, hoff, Bool.false_eq_true, if_false], rfl, ktBegin_busy ht _ _ _ _ _⟩

end

end Sys2Proof.Machine
end

section
/-! SUPPORT. How the commands of the KT-440 tuners end, are refused and are cancelled (R390, R394 to R396, R399). -/

set_option Elab.async false

namespace Sys2Proof.Machine

section
variable {s u : State} {t n : Nat}

/-! ## Refusals -/

theorem ktRefuse_tuner (ht : t < 4) (s : State) :
    ktRefuse (ktIdx t 0) s = (refuse CMP_REFUSE codeReserved s).ktBits (ktIdx t 6) 4 4 1 := by
  have hdiv : ktIdx t 0 / 0x20 - 1 = t := by simp only [ktIdx]; omega
  have hin : 0x20 ≤ ktIdx t 0 ∧ ktIdx t 0 < 0xA0 := by simp only [ktIdx]; omega
  rw [ktRefuse, if_pos (by simpa using hin), hdiv]

theorem ktRefuse_plain {i : Nat} (hi : i < 0x20) (s : State) : ktRefuse i s = refuse CMP_REFUSE codeReserved s := by
  rw [ktRefuse, if_neg (by simp; omega)]

/-- The state of a tuner whose command is refused, before the refusal: BUSY falls where nothing is in progress. -/
def ktUnasked (t : Nat) (s : State) : State :=
  if (s.tuner t).cmd = .none && decide ((s.tuner t).asked.length ≤ 1) then ktSetBusy t false s else s

theorem ktUnasked_kt (t : Nat) (s : State) : (ktUnasked t s).kt = s.kt := by
  unfold ktUnasked
  split
  · exact ktSetBusy_kt _ _ _
  · rfl

theorem ktUnasked_within (t : Nat) (s : State) : Within (ktBusyAreas t) s (ktUnasked t s) := by
  unfold ktUnasked
  split
  · exact ktSetBusy_within _ _ _
  · exact .refl _ _

theorem ktIssue_refused {code : Nat} (ht : t < 4) (hr : s.ktRuns = true) (ha : s.ktAccepts t code = false) :
    ktIssue t code s = (refuse CMP_REFUSE codeReserved (ktUnasked t s)).ktBits (ktIdx t 6) 4 4 1 := by
  rw [ktIssue_runs ht hr, ktCommand, if_pos (by simp [ha]), ktCommandRefused, ktRefuse_tuner ht]
  rfl

/-- What a refused command shows (R390). -/
theorem ktRefused_shows (ht : t < 4) (s : State) :
    let u := (refuse CMP_REFUSE codeReserved (ktUnasked t s)).ktBits (ktIdx t 6) 4 4 1
    (u.getF ⟨CMP_REFUSE, 31, 28⟩ = codeReserved ∧ Counted ⟨CMP_REFUSE, 15, 0⟩ s u ∧ (u.ktGet (ktIdx t 6)).testBit 4 = true ∧
      u.kt = s.kt) ∧
      Within [(CMP_REFUSE, CMP_REFUSE + 4), (CMP_STAT, CMP_STAT + 4), (CMP_KT (ktIdx t 6), CMP_KT (ktIdx t 6) + 4)] s u := by
  intro u
  have hin : InAreas [(CMP_REFUSE, CMP_REFUSE + 4), (CMP_STAT, CMP_STAT + 4), (CMP_KT (ktIdx t 6), CMP_KT (ktIdx t 6) + 4)]
      (CMP_KT (ktIdx t 6)) := ((inAreas_word _ _).tail _).tail _
  have hbusy : Covers [(CMP_REFUSE, CMP_REFUSE + 4), (CMP_STAT, CMP_STAT + 4), (CMP_KT (ktIdx t 6), CMP_KT (ktIdx t 6) + 4)]
      (ktBusyAreas t) := by
    intro p hp
    exact ⟨p, by simp only [ktBusyAreas, List.mem_cons, List.not_mem_nil, or_false] at hp ⊢; tauto, le_rfl, le_rfl⟩
  have happart (f : Fld) (hf : f.reg = CMP_REFUSE) : u.getF f = (refuse CMP_REFUSE codeReserved (ktUnasked t s)).getF f :=
    getF_ktSet _ _ (ktIdx_lt ht (by decide)) (by simp [hf, CMP_REFUSE])
  have hbefore : (ktUnasked t s).getF ⟨CMP_REFUSE, 15, 0⟩ = s.getF ⟨CMP_REFUSE, 15, 0⟩ :=
    (ktUnasked_within t s).getF _ (by simp [ktBusyAreas, CMP_KT, ktIdx, CMP_STAT, CMP_REFUSE]; omega)
  refine ⟨⟨(happart _ rfl).trans (getF_refuse_code _ _ _ (by decide)), ?_, ?_, ?_⟩, ?_⟩
  · exact (happart _ rfl).trans ((counted_refuse _ _ _).of_getF hbefore)
  · exact (testBit_ktBits _ _ _ _ _ _ le_rfl (by decide)).trans (by simp)
  · rw [show u.kt = _ from ktBits_kt _ _ _ _ _, refuse_kt, ktUnasked_kt]
  · exact ((((ktUnasked_within t s).mono hbusy).setF _ _ (inAreas_word _ _)).setF _ _ (inAreas_word _ _)).ktBits _ _ _ _ hin

/-! ## CANCEL -/

theorem ktIssue_cancel (ht : t < 4) (hr : s.ktRuns = true)
    (hseek : (s.tuner t).cmd = .seekUp ∨ (s.tuner t).cmd = .seekDown) :
    ktIssue t 4 s = (ktTaken t 4 s).setTuner t { s.tuner t with cancel := true } := by
  rw [ktIssue_runs ht hr, ktCommand, if_neg (by simp [State.ktAccepts])]
  exact if_pos (c := (decide ((s.tuner t).cmd = .seekUp) || decide ((s.tuner t).cmd = .seekDown)) = true) (by simpa using hseek)

theorem ktTaken_busy (ht : t < 4) (code : Nat) (s : State) : (ktTaken t code s).ktBusy t = s.ktBusy t := by
  have hcmd : ((s.ktSet (ktIdx t 0) code)).ktGet (ktIdx t 6) = s.ktGet (ktIdx t 6) := ktGet_ktSet_other _ _ (ktIdx_ne (by decide) t)
  rw [State.ktBusy, ktTaken, ktGet_bump _ (ktIdx_lt ht (by decide)) (by simp [CMP_CMDCNT_ACCEPTED, CMP_CMDCNT]),
    testBit_ktBits _ _ _ _ _ _ le_rfl (by decide), if_neg (by decide), hcmd]
  rfl

theorem ktTaken_within (t code : Nat) (s : State) :
    Within [(CMP_KT (ktIdx t 0), CMP_KT (ktIdx t 7)), (CMP_CMDCNT, CMP_CMDCNT + 4)] s (ktTaken t code s) := by
  have hin (o : Nat) (ho : o < 7) : InAreas [(CMP_KT (ktIdx t 0), CMP_KT (ktIdx t 7)), (CMP_CMDCNT, CMP_CMDCNT + 4)]
      (CMP_KT (ktIdx t o)) := ⟨_, .head _, by simp only [CMP_KT, ktIdx]; omega⟩
  exact (((Within.refl _ s).ktSet _ _ (hin 0 (by decide))).ktBits _ _ _ _ (hin 6 (by decide))).setF _ _ ((inAreas_word _ _).tail _)

/-! ## The end of a command -/

/-- All that the personality shows, and the event registers. -/
def ktAreas : List (Nat × Nat) := [(0x70000, 0x80000), (0x1000, 0x2000)]

theorem ktAreas_covers {l : List (Nat × Nat)} (h : ∀ p ∈ l, 0x70000 ≤ p.1 ∧ p.2 ≤ 0x80000) : Covers ktAreas l :=
  fun p hp => ⟨_, .head _, h p hp⟩

theorem ktBusyAreas_covered (ht : t < 4) : Covers ktAreas (ktBusyAreas t) :=
  ktAreas_covers (by simp [ktBusyAreas, CMP_KT, ktIdx, CMP_STAT]; omega)

theorem ktShownAreas_covered (ht : t < 4) : Covers ktAreas (ktShownAreas t) :=
  ktAreas_covers (by simp [ktShownAreas, CMP_KT, ktIdx]; omega)

/-- BUSY of a tuner has fallen; INTSTAT has yet to show it. -/
def ktFell (t : Nat) (s : State) : State :=
  ktMirror t (ktSetBusy t false (s.setTuner t { s.tuner t with cmd := .none, cancel := false }))

theorem ktDone_eq (t : Nat) (s : State) : ktDone t s = ktInt (2 ^ t) (ktFell t s) := rfl

theorem ktFell_within (ht : t < 4) (s : State) : Within ktAreas s (ktFell t s) :=
  (((Within.refl _ s).of_regs (setTuner_regs _ _ _)).step (ktSetBusy_within _ _ _) (ktBusyAreas_covered ht)).step
    (ktMirror_within _ _) (ktShownAreas_covered ht)

theorem ktFell_status (ht : t < 4) (s : State) {b : Nat} (hb : b = 0 ∨ b = 3 ∨ b = 4) :
    ((ktFell t s).ktGet (ktIdx t 6)).testBit b = if b = 0 then false else (s.ktGet (ktIdx t 6)).testBit b := by
  rw [ktFell, ktMirror_status _ _ _ hb, ktSetBusy_status ht _ _ _ (by omega)]
  rfl

/-- What the end of a command shows (R394). -/
theorem ktDone_shows (ht : t < 4) (s : State) :
    ((ktDone t s).tuner t = { s.tuner t with cmd := .none, cancel := false } ∧ (ktDone t s).ktBusy t = false ∧
      ((ktDone t s).ktGet (ktIdx t 6)).testBit 3 = (s.ktGet (ktIdx t 6)).testBit 3 ∧ ((ktDone t s).ktGet 2).testBit t = true ∧
      (ktDone t s).flag ⟨CMP_STAT, t, t⟩ = false) ∧ Within ktAreas s (ktDone t s) := by
  have hstatus : (ktDone t s).ktGet (ktIdx t 6) = (ktFell t s).ktGet (ktIdx t 6) :=
    (ktInt_within _ _).ktGet _ (by simp [CMP_KT, ktIdx]; omega)
  have hstat : (ktDone t s).getF ⟨CMP_STAT, t, t⟩ = Bool.toNat false := by
    have hint := (ktInt_within (2 ^ t) (ktFell t s)).getF ⟨CMP_STAT, t, t⟩ (by simp [CMP_STAT, CMP_KT])
    have hmirror := (ktMirror_within t (ktSetBusy t false (s.setTuner t { s.tuner t with cmd := .none, cancel := false }))).getF
      ⟨CMP_STAT, t, t⟩ (by simp [ktShownAreas, CMP_KT, ktIdx, CMP_STAT]; omega)
    have hbusy : (ktSetBusy t false (s.setTuner t { s.tuner t with cmd := .none, cancel := false })).getF ⟨CMP_STAT, t, t⟩ =
        Bool.toNat false := getF_setF_fits _ _ _ ⟨le_rfl, by show t < 32; omega⟩ (by simp)
    exact hint.trans (hmirror.trans hbusy)
  refine ⟨⟨?_, ?_, ?_, ?_, flag_of_getF hstat⟩, ?_⟩
  · rw [ktDone_eq, tuner_of_kt (ktInt_kt _ _), ktFell, ktMirror_tuner, ktSetBusy_tuner, tuner_setTuner_same]
  · rw [State.ktBusy, hstatus, ktFell_status ht s (.inl rfl)]
    rfl
  · rw [hstatus, ktFell_status ht s (.inr (.inl rfl))]
    rfl
  · rw [ktDone_eq, ktInt_stat, show (256 : Nat) = 2 ^ 8 from rfl, Nat.testBit_mod_two_pow, Nat.testBit_or, Nat.testBit_two_pow_self]
    simp
    omega
  · exact (ktFell_within ht s).step (ktInt_within _ _) (by decide)

/-- What the end of a seek shows (R396). -/
theorem seekEnd_shows (ht : t < 4) (fail : Bool) (s : State) :
    (((seekEnd t fail s).tuner t).cmd = .none ∧ ((seekEnd t fail s).tuner t).freq = (s.tuner t).freq ∧
      (seekEnd t fail s).ktBusy t = false ∧ ((seekEnd t fail s).ktGet (ktIdx t 6)).testBit 3 = fail ∧
      ((seekEnd t fail s).ktGet 2).testBit t = true) ∧ Within ktAreas s (seekEnd t fail s) := by
  obtain ⟨⟨htuner, hbusy, hfail, hdone, -⟩, hin⟩ := ktDone_shows ht (s.ktBits (ktIdx t 6) 3 3 fail.toNat)
  rw [ktBits_tuner] at htuner
  have hstatus : InAreas ktAreas (CMP_KT (ktIdx t 6)) := ⟨_, .head _, by simp only [CMP_KT, ktIdx]; omega⟩
  have hcmd := congrArg Tuner.cmd htuner
  have hfreq := congrArg Tuner.freq htuner
  refine ⟨⟨hcmd, hfreq, hbusy, hfail.trans ?_, hdone⟩,
    ((Within.refl _ s).ktBits _ _ _ _ hstatus).step hin (fun p hp => ⟨p, hp, le_rfl, le_rfl⟩)⟩
  rw [testBit_ktBits _ _ _ _ _ _ le_rfl (by decide)]
  cases fail <;> rfl

/-! ## FLUSH -/

/-- RDSCTL of a tuner written with FLUSH and the bits that stand (R399). -/
theorem ktFlush_taken (ht : t < 4) (hr : s.ktRuns = true) (hdeliv : bitsOf (s.ktGet (ktIdx t 0x11)) 2 1 ≠ 3) :
    ∃ x, ktRegWrite (ktIdx t 0x11) (s.ktGet (ktIdx t 0x11) ||| 1) s = ktFlush t x ∧ x.kt = s.kt := by
  have hdiv : ktIdx t 0x11 / 0x20 - 1 = t := by simp only [ktIdx]; omega
  have hmod : ktIdx t 0x11 % 0x20 = 0x11 := by simp only [ktIdx]; omega
  have hin : 0x20 ≤ ktIdx t 0x11 ∧ ktIdx t 0x11 < 0xA0 := by simp only [ktIdx]; omega
  have hbits : bitsOf (s.ktGet (ktIdx t 0x11) ||| 1) 2 1 = bitsOf (s.ktGet (ktIdx t 0x11)) 2 1 := by
    apply Nat.eq_of_testBit_eq
    intro i
    have hone : Nat.testBit 1 (1 + i) = false := Nat.testBit_lt_two_pow (Nat.one_lt_two_pow (by omega))
    simp only [testBit_bitsOf, Nat.testBit_or, hone, Bool.or_false]
  have hset : (s.ktGet (ktIdx t 0x11) ||| 1).testBit 0 = true := by simp
  refine ⟨((s.ktSet (ktIdx t 0x11) ((s.ktGet (ktIdx t 0x11) ||| 1) &&& 0x86)).setF (DEMn_CTL_DELIV t)
    (bitsOf (s.ktGet (ktIdx t 0x11) ||| 1) 2 1)), ?_, (setF_kt _ _ _).trans (ktSet_kt _ _ _)⟩
  rw [ktRegWrite, if_neg (by simp [hr]), if_pos (by simpa using hin), hdiv, hmod]
  show ktRdsctl t _ s = _
  rw [ktRdsctl, if_neg (by rw [hbits]; exact hdeliv)]
  exact if_pos hset

end

end Sys2Proof.Machine
end

section
/-! SUPPORT. The 8-bit bus of the KT-440 personality and the registers behind it (R383 to R393, R399, R400). -/

set_option Elab.async false

namespace Sys2Proof.Machine

section
variable {s u : State} {k v : Nat}

/-! ## AUDCFG and AUDSEL -/

theorem KtKept.ktGet (h : KtKept s u) (i : Nat) : u.ktGet i = s.ktGet i :=
  getF_of_rd (h.rd _ (by simp only [CMP_KT_VALUE, CMP_KT]; omega))

theorem KtKept.sapStates (h : KtKept s u) (hk : k < 8) (st : Nat) : KtKept s (sapStates k st u) := by
  have hreg : SAPk_STAT k < 0x70000 := by simp only [SAPk_STAT]; omega
  exact (h.setF (SAPk_STAT_OSTATE k) _ hreg).setF (SAPk_STAT_ISTATE k) _ hreg

theorem KtKept.ktSapSet (h : KtKept s u) (hk : k < 8) (cfg sel : Nat) : KtKept s (ktSapSet k cfg sel u) := by
  have hstat : SAPk_STAT k < 0x70000 := by simp only [SAPk_STAT]; omega
  unfold Machine.ktSapSet
  extract_lets tdm fmt en w src s1 s2 v s3
  have h1 : KtKept s s1 := (h.wr _ (by simp only [SAPk_CTL]; omega)).wr _ (by simp only [SAPk_MAP]; omega)
  have h2 : KtKept s s2 := h1.wr _ (by simp only [SAPk_MAP]; omega)
  have h3 : KtKept s s3 := h2.of_eq (setSap_kt _ _ _) (setSap_regs _ _ _)
  clear_value s3
  split
  · exact (h3.sapStates hk _).setF (SAPk_STAT_MUTED k) _ hstat
  · exact (h3.sapStates hk _).setF (SAPk_STAT_MUTED k) _ hstat

theorem ktAudcfg_takes (hv : bitsOf v 7 6 < 2) (s : State) : (ktAudcfg v s).ktGet 4 = v % 256 := by
  rw [ktAudcfg, if_neg (by omega)]
  refine (KtKept.ktGet (s := s.ktSet 4 v) ?_ 4).trans (ktGet_ktSet_same _ _ _)
  refine forEach_rel KtKept.refl KtKept.trans (fun k hk x => ?_) _
  have hk8 : k < 8 := by simp only [List.mem_cons, List.not_mem_nil, or_false] at hk; omega
  split
  · exact (KtKept.refl x).ktSapSet hk8 _ _
  · exact .refl x

theorem ktRegWrite_runs {i : Nat} (hr : s.ktRuns = true) (hi : i < 0x20) (hne : i ≠ 3) (h4 : i = 4 ∨ i = 5 ∨ i = 6) (v : Nat) :
    ktRegWrite i v s = if i = 4 then ktAudcfg v s else if i = 5 then ktAudsel v s else ktCapctl v s := by
  rw [ktRegWrite, if_neg (by simp [hr]), if_neg (by simp; omega), if_neg hne]
  obtain rfl | rfl | rfl := h4 <;> rfl

/-- The source that AUDSEL gives slot i of port k (R393). -/
def audselSrc (v k i : Nat) : Word := BitVec.ofNat 32 (2 ^ 30 + bitsOf v (4 * k + 2 * i + 1) (4 * k + 2 * i))

/-- The MAP registers of port k after a write of AUDSEL (R393). -/
def audselPort (k v : Nat) (s : State) : State :=
  let s2 := s.wr (SAPk_MAP k 0) (audselSrc v k 0)
  if (s.ktGet 4).testBit (2 + k) then s2.wr (SAPk_MAP k 1) (audselSrc v k 1) else s2

theorem ktAudsel_eq (v : Nat) (s : State) : ktAudsel v s = audselPort 1 v (audselPort 0 v (s.ktSet 5 v)) := rfl

theorem audselPort_within (k v : Nat) (s : State) : Within [(SAPk_MAP k 0, SAPk_MAP k 2)] s (audselPort k v s) := by
  have hin (i : Nat) (hi : i < 2) : InAreas [(SAPk_MAP k 0, SAPk_MAP k 2)] (SAPk_MAP k i) :=
    ⟨_, .head _, by simp only [SAPk_MAP]; omega⟩
  have h0 := (Within.refl [(SAPk_MAP k 0, SAPk_MAP k 2)] s).wr (audselSrc v k 0) (hin 0 (by decide))
  unfold audselPort
  dsimp only
  split
  · exact h0.wr _ (hin 1 (by decide))
  · exact h0

theorem audselPort_rd (k v : Nat) (s : State) : (audselPort k v s).rd (SAPk_MAP k 0) = audselSrc v k 0 := by
  unfold audselPort
  dsimp only
  split
  · rw [rd_wr_other _ _ _ _ (by simp [SAPk_MAP]), rd_wr_same]
  · rw [rd_wr_same]

theorem audselSrc_fields (v k i : Nat) :
    bitsOf (audselSrc v k i).toNat 31 30 = 1 ∧
      bitsOf (audselSrc v k i).toNat 9 0 = bitsOf v (4 * k + 2 * i + 1) (4 * k + 2 * i) := by
  have hlt : bitsOf v (4 * k + 2 * i + 1) (4 * k + 2 * i) < 4 := by
    have h := bitsOf_lt v (4 * k + 2 * i + 1) (4 * k + 2 * i)
    rwa [show 4 * k + 2 * i + 1 + 1 - (4 * k + 2 * i) = 2 by omega] at h
  rw [audselSrc]
  generalize bitsOf v (4 * k + 2 * i + 1) (4 * k + 2 * i) = x at hlt ⊢
  rw [BitVec.toNat_ofNat, Nat.mod_eq_of_lt (by omega)]
  simp only [bitsOf, Nat.shiftRight_eq_div_pow]
  omega

/-- What AUDSEL shows (R310, R393). -/
theorem ktAudsel_shows (v : Nat) (s : State) :
    ((ktAudsel v s).ktGet 5 = v % 256 ∧ (ktAudsel v s).getF (SAPk_MAP_KIND 0 0) = 1 ∧
      (ktAudsel v s).getF (SAPk_MAP_NUM 0 0) = bitsOf v 1 0 ∧ (ktAudsel v s).getF (SAPk_MAP_KIND 1 0) = 1 ∧
      (ktAudsel v s).getF (SAPk_MAP_NUM 1 0) = bitsOf v 5 4) ∧
      Within [(CMP_KT 5, CMP_KT 5 + 4), (SAPk_MAP 0 0, SAPk_MAP 0 2), (SAPk_MAP 1 0, SAPk_MAP 1 2)] s (ktAudsel v s) := by
  have hset : Within [(CMP_KT 5, CMP_KT 5 + 4)] s (s.ktSet 5 v) := Within.ktSet (.refl _ s) _ _ (inAreas_word _ _)
  have hvalue : (s.ktSet 5 v).ktGet 5 = v % 256 := ktGet_ktSet_same _ _ _
  rw [ktAudsel_eq]
  generalize s.ktSet 5 v = x at *
  have h0 := audselPort_within 0 v x
  have hmap0 := audselPort_rd 0 v x
  generalize audselPort 0 v x = y at *
  have h1 := audselPort_within 1 v y
  have hmap1 := audselPort_rd 1 v y
  generalize audselPort 1 v y = z at *
  have hkeep0 : z.rd (SAPk_MAP 0 0) = audselSrc v 0 0 := (h1 _ (by decide)).trans hmap0
  refine ⟨⟨(h1.ktGet 5 (by decide)).trans ((h0.ktGet 5 (by decide)).trans hvalue), ?_, ?_, ?_, ?_⟩,
    (hset.mono (by decide)).step h0 (by decide) |>.step h1 (by decide)⟩
  · exact (congrArg (fun w : Word => bitsOf w.toNat 31 30) hkeep0).trans (audselSrc_fields v 0 0).1
  · exact (congrArg (fun w : Word => bitsOf w.toNat 9 0) hkeep0).trans (audselSrc_fields v 0 0).2
  · exact (congrArg (fun w : Word => bitsOf w.toNat 31 30) hmap1).trans (audselSrc_fields v 1 0).1
  · exact (congrArg (fun w : Word => bitsOf w.toNat 9 0) hmap1).trans (audselSrc_fields v 1 0).2

/-! ## CAPCTL -/

/-- What one change of a list establishes and every change keeps holds after the whole. -/
theorem forEach_holds {P : State → Prop} {l : List Nat} {f : Nat → State → State} {n : Nat} (hn : n ∈ l)
    (hmade : ∀ x, P (f n x)) (hkept : ∀ m x, P x → P (f m x)) (s : State) : P (forEach l f s) := by
  have hstays : ∀ (l : List Nat) (x : State), P x → P (forEach l f x) := fun l => by
    induction l with
    | nil => exact fun _ h => h
    | cons m l ih => exact fun x h => ih _ (hkept m x h)
  induction l generalizing s with
  | nil => cases hn
  | cons m l ih =>
    obtain rfl | hl := List.mem_cons.mp hn
    · exact hstays l _ (hmade s)
    · exact ih hl _

theorem ktCapRefresh_kt (s : State) : (ktCapRefresh s).kt = s.kt := by simp only [ktCapRefresh, ktSet_kt]

theorem ktCapRefresh_within (s : State) : Within [(CMP_KT 8, CMP_KT 13)] s (ktCapRefresh s) := by
  have hin (i : Nat) (hi : 8 ≤ i ∧ i < 13) : InAreas [(CMP_KT 8, CMP_KT 13)] (CMP_KT i) :=
    ⟨_, .head _, by simp only [CMP_KT]; omega⟩
  exact (((((Within.refl _ s).ktSet _ _ (hin _ (by decide))).ktSet _ _ (hin _ (by decide))).ktSet _ _ (hin _ (by decide))).ktSet _ _
    (hin _ (by decide))).ktSet _ _ (hin _ (by decide))

theorem cap_of_kt (h : u.kt = s.kt) (j : Nat) : u.cap j = s.cap j := by rw [State.cap, h]; rfl

theorem cap_setCap (s : State) (k j : Nat) (c : Capture) : (s.setCap k c).cap j = if j = k then c else s.cap j :=
  (cap_of_kt (ktCapRefresh_kt _) j).trans (sget_sset _ _ _ _ _)

theorem setCap_within (k : Nat) (c : Capture) (s : State) : Within [(CMP_KT 8, CMP_KT 13)] s (s.setCap k c) :=
  fun a ha => (ktCapRefresh_within _ a ha).trans (rd_of_regs rfl a)

theorem setCap_ktGet (k : Nat) (c : Capture) (s : State) : (s.setCap k c).ktGet 6 = s.ktGet 6 := (setCap_within k c s).ktGet 6 (by decide)

/-- What the changes that follow a write of CAPCTL leave: CAPCTL itself and the bytes of the buffers (R400). -/
structure CapKept (s u : State) : Prop where
  ctl : u.ktGet 6 = s.ktGet 6
  buf : ∀ j, (u.cap j).buf = (s.cap j).buf

theorem CapKept.refl (s : State) : CapKept s s := ⟨rfl, fun _ => rfl⟩

theorem CapKept.trans {w : State} (h : CapKept s u) (hw : CapKept u w) : CapKept s w :=
  ⟨hw.ctl.trans h.ctl, fun j => (hw.buf j).trans (h.buf j)⟩

theorem CapKept.setCap (s : State) (k : Nat) {c : Capture} (hc : c.buf = (s.cap k).buf) : CapKept s (s.setCap k c) where
  ctl := setCap_ktGet k c s
  buf j := by
    rw [cap_setCap]
    split
    · next h => rw [hc, h]
    · rfl

theorem CapKept.packed (k v : Nat) (s : State) (hk : k < 8) {c : Capture} (hc : c.buf = (s.cap k).buf) :
    CapKept s ((s.setCap k c).setF (SAPk_ICAP_PACK k) v) :=
  (CapKept.setCap s k hc).trans ⟨ktGet_setF _ _ (by decide) (by simp only [SAPk_ICAP_PACK, SAPk_ICAP]; omega),
    fun j => congrArg Capture.buf (cap_of_kt (setF_kt _ _ _) j)⟩

/-- A buffer that has just started (R400). -/
def Capture.fresh (c : Capture) (pack4 : Bool) : Prop := c.wp = 0 ∧ c.rp = 0 ∧ c.pack4 = pack4

theorem ktCapStart_kept (k : Nat) (s : State) : CapKept s (ktCapStart k s) := .setCap s k rfl

theorem ktCapStart_fresh (k : Nat) (s : State) : ((ktCapStart k s).cap k).fresh (((ktCapStart k s).ktGet 6).testBit 3) := by
  rw [(ktCapStart_kept k s).ctl, ktCapStart, cap_setCap, if_pos rfl]
  exact ⟨rfl, rfl, rfl⟩

theorem ktCapStart_stays (k j : Nat) (s : State) (h : (s.cap k).fresh ((s.ktGet 6).testBit 3)) :
    ((ktCapStart j s).cap k).fresh (((ktCapStart j s).ktGet 6).testBit 3) := by
  obtain rfl | hne := eq_or_ne k j
  · exact ktCapStart_fresh k s
  · rw [(ktCapStart_kept j s).ctl, ktCapStart, cap_setCap, if_neg hne]
    exact h

/-- A rising EN starts its buffer (R400). -/
theorem ktCapctl_starts (hk : k < 2) (hnew : (v % 32).testBit k = true) (hold : (s.ktGet 6).testBit k = false) :
    (ktCapctl v s).ktGet 6 = v % 32 ∧ ((ktCapctl v s).cap k).fresh ((v % 32).testBit 3) ∧
      ((ktCapctl v s).cap k).buf = (s.cap k).buf := by
  unfold ktCapctl
  extract_lets old new s1 rise s2
  have h1 : s1.ktGet 6 = new := (ktGet_ktSet_same _ _ _).trans (Nat.mod_eq_of_lt (by omega))
  have hrise : k ∈ rise := by
    refine List.mem_filter.mpr ⟨by simp only [List.mem_cons, List.not_mem_nil, or_false]; omega, ?_⟩
    rw [show new.testBit k = true from hnew, show old.testBit k = false from hold]
    rfl
  have h2 : CapKept s1 s2 := by
    simp only [s2]
    split
    · exact .refl _
    · refine forEach_rel CapKept.refl CapKept.trans (fun j hj x => ?_) _
      have hj8 : j < 8 := by simp only [List.mem_cons, List.not_mem_nil, or_false] at hj; omega
      exact CapKept.packed j _ x hj8 rfl
  have hbuf1 (j : Nat) : (s1.cap j).buf = (s.cap j).buf := congrArg Capture.buf (cap_of_kt (ktSet_kt _ _ _) j)
  have hvalue : new = v % 32 := rfl
  clear_value s1 s2 rise new old
  have h3 : CapKept s1 (forEach rise ktCapStart s2) :=
    h2.trans (forEach_rel CapKept.refl CapKept.trans (fun j _ x => ktCapStart_kept j x) _)
  have hfresh := forEach_holds (P := fun x => (x.cap k).fresh ((x.ktGet 6).testBit 3)) hrise (ktCapStart_fresh k)
    (fun j x => ktCapStart_stays k j x) s2
  have hctl : (ktCapRefresh (forEach rise ktCapStart s2)).ktGet 6 = (forEach rise ktCapStart s2).ktGet 6 :=
    (ktCapRefresh_within _).ktGet 6 (by decide)
  have hcap := cap_of_kt (ktCapRefresh_kt (forEach rise ktCapStart s2)) k
  rw [hctl, hcap, h3.ctl, h1, h3.buf, hbuf1]
  rw [h3.ctl, h1] at hfresh
  exact ⟨hvalue, hvalue ▸ hfresh, rfl⟩

end

end Sys2Proof.Machine
end

section
/-! SUPPORT. The 8-bit bus of the KT-440 personality (R383 to R387), and the statement on the personality. -/

set_option Elab.async false

namespace Sys2Proof.Machine

section
variable {s u : State} {k t v : Nat}

/-! ## Reads -/

/-- A read through DATA or DATAI drives a byte, and DATAI moves INDEX on (R385, R386). -/
def ktAnswer (port i : Nat) (r : Nat × State) : State :=
  let s1 : State := { r.2 with hb := { r.2.hb with rdata := r.1 } }
  if port = 2 then { s1 with kt := { s1.kt with index := ktAdvance i } } else s1

theorem ktDataRead_next {port : Nat} (hb : s.ktBus = true) (hport : port = 1 ∨ port = 2) :
    execKtDataRead port s = .next (ktAnswer port s.kt.index (ktRead s.kt.index s)) := by
  rw [execKtDataRead, if_neg (by simp [hb])]
  obtain rfl | rfl := hport <;> rfl

theorem ktAnswer_rdata (port i : Nat) (r : Nat × State) : (ktAnswer port i r).hb.rdata = r.1 := by
  unfold ktAnswer
  dsimp only
  split <;> rfl

theorem ktAnswer_regs (port i : Nat) (r : Nat × State) : (ktAnswer port i r).regs = r.2.regs := by
  unfold ktAnswer
  dsimp only
  split <;> rfl

theorem ktAnswer_tuner (port i : Nat) (r : Nat × State) (j : Nat) : (ktAnswer port i r).tuner j = r.2.tuner j := by
  unfold ktAnswer
  dsimp only
  split <;> rfl

theorem ktAnswer_cap (port i : Nat) (r : Nat × State) (j : Nat) : (ktAnswer port i r).cap j = r.2.cap j := by
  unfold ktAnswer
  dsimp only
  split <;> rfl

theorem ktAnswer_index (i : Nat) (r : Nat × State) : (ktAnswer 2 i r).kt.index = ktAdvance i := rfl

theorem ktAnswer_kt (i : Nat) (r : Nat × State) : (ktAnswer 1 i r).kt = r.2.kt := rfl

theorem ktAnswer_ktGet (port i : Nat) (r : Nat × State) (j : Nat) : (ktAnswer port i r).ktGet j = r.2.ktGet j :=
  getF_of_rd (rd_of_regs (ktAnswer_regs port i r) _)

theorem Within.ktAnswer {l : List (Nat × Nat)} {r : Nat × State} (h : Within l s r.2) (port i : Nat) :
    Within l s (ktAnswer port i r) := h.of_regs (ktAnswer_regs port i r)

theorem ktRead_stat (hr : s.ktReady = true) : ktRead 2 s = (s.ktGet 2, ktInt 0 (s.ktSet 2 0)) := by
  rw [ktRead, if_neg (by simp [hr]), if_pos rfl]

theorem ktRead_capture (hr : s.ktReady = true) : ktRead 0x0C s = ktCapData s := by
  rw [ktRead, if_neg (by simp [hr])]
  rfl

theorem ktRead_rds (hr : s.ktReady = true) (ht : t < 4) : ktRead (ktIdx t 0x10) s = ktRdsData t s := by
  have hdiv : ktIdx t 0x10 / 0x20 - 1 = t := by simp only [ktIdx]; omega
  have hmod : ktIdx t 0x10 % 0x20 = 0x10 := by simp only [ktIdx]; omega
  have hin : 0x20 ≤ ktIdx t 0x10 ∧ ktIdx t 0x10 < 0xA0 := by simp only [ktIdx]; omega
  rw [ktRead, if_neg (by simp [hr]), if_neg (by omega), if_neg (by omega), if_neg (by omega), if_neg (by omega), if_neg (by omega),
    if_pos (by simpa using hin), hdiv, hmod, if_pos rfl]

/-- A read of RDSDATA inside an entry (R399). -/
theorem ktRdsData_inside {b : Nat} {r : List Nat} {rest : List (List Nat)} (hfifo : (s.tuner t).fifo = (b :: r) :: rest)
    (hr : r.isEmpty = false) : ktRdsData t s =
      (b, ktFifoRefresh t (s.setTuner t { s.tuner t with fifo := r :: rest, last := b })) := by
  unfold ktRdsData
  dsimp only
  rw [hfifo]
  simp only [hr, Bool.false_eq_true, if_false]

/-! ## Writes -/

/-- A write cycle enters the posted-write queue (R367, R385, R386). -/
def ktPosted (auto : Bool) (v : Nat) (s : State) : State :=
  let s0 : State := if auto then { s with kt := { s.kt with index := ktAdvance s.kt.index } } else s
  let s1 : State := { s0 with hb := { s0.hb with queue := s0.hb.queue ++ [(ktAddr s.kt.index, BitVec.ofNat 32 (v % 256))] } }
  let n := s1.hb.queue.length
  (s1.setF SYS_HB_STAT_QFILL n).setF SYS_HB_STAT_QMAX (max (s1.getF SYS_HB_STAT_QMAX) n)

theorem ktPosted_queue (auto : Bool) (v : Nat) (s : State) :
    (ktPosted auto v s).hb.queue = s.hb.queue ++ [(CMP_KT s.kt.index, BitVec.ofNat 32 (v % 256))] := by
  unfold ktPosted
  extract_lets s0 s1 n
  rw [setF_hb, setF_hb]
  cases auto <;> rfl

theorem ktPosted_index (auto : Bool) (v : Nat) (s : State) :
    (ktPosted auto v s).kt.index = if auto then ktAdvance s.kt.index else s.kt.index := by
  unfold ktPosted
  extract_lets s0 s1 n
  rw [setF_kt, setF_kt]
  cases auto <;> rfl

theorem ktDataWrite_next (auto : Bool) (v : Nat) (hb : s.ktBus = true) (hr : s.ktReady = true) (hq : s.hb.queue.length < 64) :
    execKtDataWrite auto v s = .next (
      let i := s.kt.index
      let t := i / 0x20 - 1
      let s2 := ktPosted auto v s
      if 0x20 ≤ i && i < 0xA0 && i % 0x20 = 0 then
        let s3 := s2.setTuner t { s2.tuner t with asked := (s2.tuner t).asked ++ [s.ktNow] }
        if v % 256 != 4 && (s.ktSeen t).ktAccepts t (v % 256) then ktSetBusy t true s3 else s3
      else s2) := by
  rw [execKtDataWrite, if_neg (by simp [hb]), if_neg (by simp [hr])]
  exact congrArg Host.Outcome.next (if_neg (Nat.not_le.mpr hq))

theorem ktSetBusy_hb (t : Nat) (b : Bool) (s : State) : (ktSetBusy t b s).hb = s.hb :=
  (setB_hb _ _ _).trans ((setF_hb _ _ _))

/-- A write cycle leaves INDEX and the queue as posted, whatever it asks of a tuner. -/
theorem ktDataWrite_posts (auto : Bool) (v : Nat) (hb : s.ktBus = true) (hr : s.ktReady = true) (hq : s.hb.queue.length < 64) :
    Gives (.ktDataWrite auto v) s fun t =>
      t.hb.queue = s.hb.queue ++ [(CMP_KT s.kt.index, BitVec.ofNat 32 (v % 256))] ∧
        t.kt.index = (if auto then ktAdvance s.kt.index else s.kt.index) := by
  refine ⟨_, ktDataWrite_next auto v hb hr hq, ?_⟩
  have hqueue := ktPosted_queue auto v s
  have hindex := ktPosted_index auto v s
  generalize ktPosted auto v s = x at *
  dsimp only
  split
  · split
    · exact ⟨by rw [ktSetBusy_hb, setTuner_hb, hqueue], by rw [ktSetBusy_kt]; exact hindex⟩
    · exact ⟨by rw [setTuner_hb, hqueue], hindex⟩
  · exact ⟨hqueue, hindex⟩

/-- An accepted command raises BUSY as it is committed (R394). -/
theorem ktDataWrite_raises (auto : Bool) (hb : s.ktBus = true) (hr : s.ktReady = true) (hq : s.hb.queue.length < 64) (ht : t < 4)
    (hidx : s.kt.index = ktIdx t 0) (hcode : v % 256 ≠ 4) (ha : (s.ktSeen t).ktAccepts t (v % 256) = true) :
    Gives (.ktDataWrite auto v) s fun u => u.ktBusy t = true ∧ u.flag ⟨CMP_STAT, t, t⟩ = true := by
  have hdiv : s.kt.index / 0x20 - 1 = t := by simp only [hidx, ktIdx]; omega
  have hin : 0x20 ≤ s.kt.index ∧ s.kt.index < 0xA0 ∧ s.kt.index % 0x20 = 0 := by simp only [hidx, ktIdx]; omega
  refine ⟨_, ktDataWrite_next auto v hb hr hq, ?_⟩
  generalize ktPosted auto v s = x
  dsimp only
  rw [hdiv, if_pos (by simpa [and_assoc] using hin), if_pos (by simp [hcode, ha])]
  exact ⟨ktSetBusy_busy ht _ _, ktSetBusy_stat ht _ _⟩

/-- What a write before readiness shows (R387). -/
theorem ktEarly_shows (s : State) : ((ktEarly s).getF ⟨CMP_REFUSE, 31, 28⟩ = codeWrongState ∧
    Counted ⟨CMP_REFUSE, 15, 0⟩ s (ktEarly s) ∧ (ktEarly s).hb = s.hb ∧ (ktEarly s).kt = s.kt) ∧
    Within [(CMP_REFUSE, CMP_REFUSE + 4)] s (ktEarly s) :=
  ⟨⟨getF_refuse_code _ _ _ (by decide), counted_refuse _ _ _, refuse_hb _ _ _, refuse_kt _ _ _⟩,
    ((Within.refl _ s).setF ⟨CMP_REFUSE, 31, 28⟩ _ (inAreas_word _ _)).setF ⟨CMP_REFUSE, 15, 0⟩ _ (inAreas_word _ _)⟩

/-- The queue's oldest entry reaches FREQ of a tuner (R367, R385, R389). -/
theorem hbQueueDeliver_freq {w : Word} {q : List (Nat × Word)} (hmode : s.boot.straps.hbMode = true) (hr : s.ktRuns = true) (hk : k < 4)
    (hq : s.hb.queue = (CMP_KT (ktIdx k 2), w) :: q) :
    execHbQueueDeliver s = .next (hbShow (({ s with hb := { s.hb with queue := q } } : State).ktSet (ktIdx k 2) w.toNat)) := by
  have hidx : (CMP_KT (ktIdx k 2) - CMP_KT 0) / 4 = ktIdx k 2 := by simp only [CMP_KT]; omega
  have hdiv : ktIdx k 2 / 0x20 - 1 = k := by simp only [ktIdx]; omega
  have hmod : ktIdx k 2 % 0x20 = 2 := by simp only [ktIdx]; omega
  have hin : 0x20 ≤ ktIdx k 2 ∧ ktIdx k 2 < 0xA0 := by simp only [ktIdx]; omega
  have hwrite (x : State) (hx : x.ktRuns = true) : ktRegWrite (ktIdx k 2) w.toNat x = x.ktSet (ktIdx k 2) w.toNat := by
    rw [ktRegWrite, if_neg (by simp [hx]), if_pos (by simpa using hin), hdiv, hmod]
    rfl
  unfold execHbQueueDeliver
  rw [hq]
  dsimp only
  rw [if_neg (by simp [hr]), if_pos hmode, hidx,
    hwrite { s with hb := { s.hb with queue := q } } hr]

theorem hbShow_kt (s : State) : (hbShow s).kt = s.kt := by
  unfold hbShow
  extract_lets n s1
  rw [setF_kt, setF_kt, setB_kt]

theorem hbShow_hb (s : State) : (hbShow s).hb = s.hb := by
  unfold hbShow
  extract_lets n s1
  rw [setF_hb, setF_hb, setB_hb]

theorem hbShow_within (s : State) : Within [(SYS_HB_STAT, SYS_HB_STAT + 4)] s (hbShow s) :=
  (((Within.refl _ s).setF SYS_HB_STAT_HELD _ (inAreas_word _ _)).setF SYS_HB_STAT_QFILL _ (inAreas_word _ _)).setF SYS_HB_STAT_QMAX _
    (inAreas_word _ _)

end

end Sys2Proof.Machine
end

section
/-! SUPPORT. The commands of a tuner at their times (R394 to R396), and the statement on the personality. -/

set_option Elab.async false

namespace Sys2Proof.Machine

section
variable {s u : State} {k t v n : Nat}

theorem advance_tuner (n : Nat) (s : State) (t : Nat) : (s.advance n).tuner t = s.tuner t := by
  obtain ⟨c, h⟩ := advance_eq n s
  rw [h]
  rfl

theorem advance_ktRuns (n : Nat) (s : State) : (s.advance n).ktRuns = s.ktRuns := by
  obtain ⟨c, h⟩ := advance_eq n s
  rw [h]
  rfl

theorem advance_ktSettled (n : Nat) (s : State) (t : Nat) : (s.advance n).ktSettled t = s.ktSettled t := by
  obtain ⟨c, h⟩ := advance_eq n s
  rw [h]
  rfl

theorem advance_ktFound (n : Nat) (s : State) (t : Nat) : (s.advance n).ktFound t = s.ktFound t := by
  obtain ⟨c, h⟩ := advance_eq n s
  rw [h]
  rfl

theorem advance_regs_eq (n : Nat) (s : State) : (s.advance n).regs = s.regs := by
  obtain ⟨c, h⟩ := advance_eq n s
  rw [h]

theorem Within.advanced {l : List (Nat × Nat)} (h : Within l (s.advance n) u) : Within l s u :=
  fun a ha => (h a ha).trans (rd_of_regs (advance_regs_eq n s) a)

/-- A seek whose point has been measured ends where it is a channel, or where it was cancelled or has come round (R396). -/
theorem ktSeekStep_ends (ht : t < 4) (hr : s.ktRuns = true) (hseek : (s.tuner t).cmd = .seekUp ∨ (s.tuner t).cmd = .seekDown)
    (htime : ktTimeOk (s.tuner t) n = true) (hsteps : (s.tuner t).steps ≠ 0) (hset : s.ktSettled t = true) {fail : Bool}
    (hend : ((s.tuner t).cancel || decide ((s.tuner t).freq = (s.tuner t).seekFrom)) = fail) (hfound : fail = false → s.ktFound t = true) :
    execKtSeekStep t n s = .next (seekEnd t fail (s.advance n)) := by
  unfold execKtSeekStep
  dsimp only
  have hopen : (decide (t < 4) && s.ktRuns && (decide ((s.tuner t).cmd = .seekUp) || decide ((s.tuner t).cmd = .seekDown)) &&
      ktTimeOk (s.tuner t) n) = true := by simp [ht, hr, hseek, htime]
  rw [advance_tuner, advance_ktRuns, advance_ktSettled, advance_ktFound, hopen, if_neg (by decide), if_neg hsteps, hset, if_neg (by decide)]
  cases fail with
  | true => rw [if_pos hend]
  | false => rw [if_neg (by rw [hend]; decide), if_pos (hfound rfl)]

/-- BUSY falls on a tuner whose TUNE has settled (R395). -/
theorem ktBusyFall_tuned (ht : t < 4) (hr : s.ktRuns = true) (hcmd : (s.tuner t).cmd = .tune)
    (htime : ktTimeOk (s.tuner t) n = true) (hset : s.ktSettled t = true) :
    execKtBusyFall t n s = .next (ktDone t (s.advance n)) := by
  unfold execKtBusyFall
  dsimp only
  rw [advance_tuner, advance_ktRuns, advance_ktSettled, if_neg (by simp [ht, hr, htime]), if_pos (by simp [hcmd, hset])]

theorem ktBusyFall_early (htime : ktTimeOk (s.tuner t) n = false) : execKtBusyFall t n s = .next (s.advance n) := by
  unfold execKtBusyFall
  dsimp only
  rw [advance_tuner, if_pos (by simp [htime])]

end

theorem freqDelivered_shows {i : Nat} (x : State) (n : Nat) (hi : 0x20 ≤ i) :
    (hbShow (x.ktSet i n)).hb = x.hb ∧ (hbShow (x.ktSet i n)).ktGet i = n % 256 ∧ (hbShow (x.ktSet i n)).kt = x.kt ∧
      Within [(CMP_KT i, CMP_KT i + 4), (SYS_HB_STAT, SYS_HB_STAT + 4)] x (hbShow (x.ktSet i n)) := by
  have hset : Within [(CMP_KT i, CMP_KT i + 4), (SYS_HB_STAT, SYS_HB_STAT + 4)] x (x.ktSet i n) :=
    Within.ktSet (.refl _ x) _ _ (inAreas_word _ _)
  have hvalue : (x.ktSet i n).ktGet i = n % 256 := ktGet_ktSet_same _ _ _
  have hkt : (x.ktSet i n).kt = x.kt := ktSet_kt _ _ _
  have hhb : (x.ktSet i n).hb = x.hb := setF_hb _ _ _
  generalize x.ktSet i n = y at *
  refine ⟨(hbShow_hb y).trans hhb, ?_, (hbShow_kt y).trans hkt, hset.step (hbShow_within y) fun p hp => ⟨p, .tail _ hp, le_rfl, le_rfl⟩⟩
  exact ((hbShow_within y).ktGet i (by simp [SYS_HB_STAT, CMP_KT]; omega)).trans hvalue

theorem ktIndexWrite_moves : ∀ (s : State) (v : Nat),
    s.ktBus = true →
    Gives (.ktIndexWrite v) s (fun t =>
      (t.kt.index = v % 256 ∧ t.kt.tuners = s.kt.tuners) ∧ Within [] s t) := by
  intro s v hb
  refine ⟨{ s with kt := { s.kt with index := v % 256 } }, ?_, ⟨rfl, rfl⟩, Within.of_regs (.refl _ s) rfl⟩
  exact congrArg Host.Outcome.next (if_pos hb)

theorem ktDataRead_index : ∀ (s : State),
    s.ktBus = true →
    Gives (.ktDataRead 0) s (fun t =>
      (t.hb.rdata = s.kt.index ∧ t.kt = s.kt) ∧ Within [] s t) := by
  intro s hb
  refine ⟨{ s with hb := { s.hb with rdata := s.kt.index } }, ?_, ⟨rfl, rfl⟩, Within.of_regs (.refl _ s) rfl⟩
  exact congrArg Host.Outcome.next (if_neg (by simp [hb]))

theorem ktDataRead_port : ∀ (s : State),
    s.ktBus = true →
    Gives (.ktDataRead 3) s (fun t =>
      (t.hb.rdata = (if s.pins.irqLow then 128 else 0) + (if s.ktReady then 64 else 0) + s.getF CMP_STAT_BUSY ∧ t.kt = s.kt) ∧ Within [] s t) := by
  intro s hb
  refine ⟨{ s with hb := { s.hb with rdata := s.ktStat } }, ?_, ⟨rfl, rfl⟩, Within.of_regs (.refl _ s) rfl⟩
  exact congrArg Host.Outcome.next (if_neg (by simp [hb]))

theorem ktDataRead_intstat : ∀ (s : State),
    s.ktBus = true →
    s.ktReady = true →
    (s.kt.index == 2) = true →
    Gives (.ktDataRead 2) s (fun t =>
      (t.hb.rdata = s.ktGet 2 ∧ t.ktGet 2 = 0 ∧ t.kt.index = 3) ∧ Within [(CMP_KT 2, CMP_KT 2 + 4), (0x1000, 0x2000)] s t) := by
  intro s hb hr hidx
  have hidx : s.kt.index = 2 := by simpa using hidx
  refine ⟨_, ktDataRead_next hb (.inr rfl), ?_⟩
  rw [hidx, ktRead_stat hr]
  refine ⟨⟨ktAnswer_rdata _ _ _, ?_, rfl⟩, Within.ktAnswer ?_ _ _⟩
  · rw [ktAnswer_ktGet, ktInt_stat, ktGet_ktSet_same]
    rfl
  · exact (Within.ktSet (.refl _ s) _ _ (inAreas_word _ _)).step (ktInt_within _ _) (by decide)

theorem ktDataRead_capture : ∀ (s : State) (k : Nat),
    s.ktBus = true →
    s.ktReady = true →
    (s.kt.index == 0x0C) = true →
    (k == bitsOf (s.ktGet 6) 4 4) = true →
    Gives (.ktDataRead 2) s (fun t =>
      (t.hb.rdata = (sget memDefault (s.cap k).buf (s.cap k).rp).toNat ∧ (t.cap k).rp = ((s.cap k).rp + 1) % 49152 ∧ (t.cap k).buf = (s.cap k).buf ∧ t.kt.index = 0x0C) ∧ Within [(CMP_KT 8, CMP_KT 13)] s t) := by
  intro s k hb hr hidx hk
  have hidx : s.kt.index = 0x0C := by simpa using hidx
  obtain rfl : k = bitsOf (s.ktGet 6) 4 4 := by simpa using hk
  refine ⟨_, ktDataRead_next hb (.inr rfl), ?_⟩
  rw [hidx, ktRead_capture hr, ktCapData]
  refine ⟨⟨ktAnswer_rdata _ _ _, ?_, ?_, rfl⟩, Within.ktAnswer (setCap_within _ _ _) _ _⟩
  · rw [ktAnswer_cap, cap_setCap, if_pos rfl]
    rfl
  · rw [ktAnswer_cap, cap_setCap, if_pos rfl]

theorem ktDataRead_rds : ∀ (s : State) (k b : Nat) (r : List Nat) (rest : List (List Nat)),
    s.ktBus = true →
    s.ktReady = true →
    (decide (k < 4)) = true →
    (s.kt.index == ktIdx k 0x10) = true →
    ((s.tuner k).fifo == (b :: r) :: rest) = true →
    (!r.isEmpty) = true →
    Gives (.ktDataRead 1) s (fun t =>
      (t.hb.rdata = b ∧ (t.tuner k).fifo = r :: rest ∧ (t.tuner k).last = b ∧ t.kt.index = s.kt.index) ∧ Within [(CMP_KT (ktIdx k 0x0E), CMP_KT (ktIdx k 0x11))] s t) := by
  intro s k b r rest hb hr hk hidx hfifo hmore
  have hidx : s.kt.index = ktIdx k 0x10 := by simpa using hidx
  refine ⟨_, ktDataRead_next hb (.inl rfl), ?_⟩
  rw [hidx, ktRead_rds hr (by simpa using hk), ktRdsData_inside (by simpa using hfifo) (by simpa using hmore)]
  have htuner : (ktFifoRefresh k (s.setTuner k { s.tuner k with fifo := r :: rest, last := b })).tuner k =
      { s.tuner k with fifo := r :: rest, last := b } := (tuner_of_kt (ktFifoRefresh_kt _ _) _).trans (tuner_setTuner_same _ _ _)
  refine ⟨⟨ktAnswer_rdata _ _ _, ?_, ?_, ?_⟩, Within.ktAnswer ?_ _ _⟩
  · rw [ktAnswer_tuner, htuner]
  · rw [ktAnswer_tuner, htuner]
  · rw [ktAnswer_kt, ktFifoRefresh_kt, ← hidx]
    rfl
  · refine fun a ha => (ktFifoRefresh_within k _ a fun p hp => ?_).trans (setTuner_rd _ _ _ _)
    have hout := ha _ (List.mem_singleton_self _)
    simp only [ktFifoAreas, List.mem_cons, List.not_mem_nil, or_false] at hp
    simp only [CMP_KT, ktIdx] at hout hp
    obtain rfl | rfl := hp <;> dsimp only at hout ⊢ <;> omega

theorem ktDataWrite_early : ∀ (s : State) (auto : Bool) (v : Nat),
    s.ktBus = true →
    (!s.ktReady) = true →
    Gives (.ktDataWrite auto v) s (fun t =>
      (t.getF ⟨CMP_REFUSE, 31, 28⟩ = codeWrongState ∧ Counted ⟨CMP_REFUSE, 15, 0⟩ s t ∧ t.hb = s.hb ∧ t.kt = s.kt) ∧ Within [(CMP_REFUSE, CMP_REFUSE + 4)] s t) := by
  intro s auto v hb hr
  refine ⟨ktEarly s, ?_, ktEarly_shows s⟩
  exact congrArg Host.Outcome.next ((if_neg (by simp [hb])).trans (if_pos hr))

theorem hbQueueDeliver_shows : ∀ (s : State) (k : Nat) (v : Word) (q : List (Nat × Word)),
    s.boot.straps.hbMode = true →
    s.ktRuns = true →
    (decide (k < 4)) = true →
    (s.hb.queue == (CMP_KT (ktIdx k 2), v) :: q) = true →
    Gives (.hbQueueDeliver) s (fun t =>
      (t.hb.queue = q ∧ t.ktGet (ktIdx k 2) = v.toNat % 256 ∧ t.kt = s.kt) ∧ Within [(CMP_KT (ktIdx k 2), CMP_KT (ktIdx k 2) + 4), (SYS_HB_STAT, SYS_HB_STAT + 4)] s t) := by
  intro s k v q hmode hr hk hq
  have hk : k < 4 := by simpa using hk
  obtain ⟨hhb, hget, hkt, hin⟩ := freqDelivered_shows { s with hb := { s.hb with queue := q } } v.toNat
    (show 0x20 ≤ ktIdx k 2 by simp only [ktIdx]; omega)
  exact ⟨_, hbQueueDeliver_freq hmode hr hk (by simpa using hq), ⟨congrArg HostBus.queue hhb, hget, hkt⟩, fun a ha => hin a ha⟩

theorem ktStatWrite_clears : ∀ (s : State) (v : Nat),
    s.ktBus = true →
    s.ktReady = true →
    Gives (.ktStatWrite v) s (fun t =>
      (t.ktGet 2 = s.ktGet 2 - (s.ktGet 2 &&& (v % 256))) ∧ Within [(CMP_KT 2, CMP_KT 2 + 4), (0x1000, 0x2000)] s t) := by
  intro s v hb hr
  refine ⟨ktInt 0 (s.ktSet 2 (s.ktGet 2 - (s.ktGet 2 &&& (v % 256)))), ?_, ?_, ?_⟩
  · exact congrArg Host.Outcome.next ((if_neg (by simp [hb])).trans (if_neg (by simp [hr])))
  · have hlt := ktGet_lt s 2
    rw [ktInt_stat, ktGet_ktSet_same, Nat.or_zero, Nat.mod_mod, Nat.mod_eq_of_lt (by omega)]
  · exact (Within.ktSet (.refl _ s) _ _ (inAreas_word _ _)).step (ktInt_within _ _) (by decide)

theorem ktTune_takes : ∀ (s : State) (tn : Nat),
    (decide (tn < 4)) = true →
    s.ktRuns = true →
    s.ktAccepts tn 1 = true →
    Gives (.ktTune tn) s (fun t =>
      (t.tuner tn).cmd = .tune ∧ (t.tuner tn).freq = s.ktFreq tn ∧ (t.tuner tn).t0 = s.now ∧ t.ktBusy tn = true ∧ (t.tuner tn).fifo = [] ∧ Counted CMP_CMDCNT_ACCEPTED s t) := by
  intro s tn ht hr ha
  obtain ⟨hcmd, hfreq, ht0, -, hfifo, hbusy, hcount⟩ :=
    ktTuned_shows (code := 1) (by simpa using ht) s s.ktNow (s.ktGet (ktIdx tn 1)) (s.ktFreq tn)
  exact ⟨_, congrArg Host.Outcome.next (ktIssue_tune (by simpa using ht) hr (.inl rfl) ha), hcmd, hfreq, ht0, hbusy, hfifo, hcount⟩

theorem ktPowerUp_takes : ∀ (s : State) (tn : Nat),
    (decide (tn < 4)) = true →
    s.ktRuns = true →
    s.ktAccepts tn 6 = true →
    Gives (.ktPowerUp tn) s (fun t =>
      (t.tuner tn).cmd = .tune ∧ (t.tuner tn).freq = s.ktFreq tn ∧ (t.tuner tn).powered = true ∧ t.ktBusy tn = true ∧ Counted CMP_CMDCNT_ACCEPTED s t) := by
  intro s tn ht hr ha
  obtain ⟨hcmd, hfreq, -, hpower, -, hbusy, hcount⟩ :=
    ktTuned_shows (code := 6) (by simpa using ht) s s.ktNow (s.ktGet (ktIdx tn 1)) (s.ktFreq tn)
  exact ⟨_, congrArg Host.Outcome.next (ktIssue_tune (by simpa using ht) hr (.inr rfl) ha), hcmd, hfreq, hpower, hbusy, hcount⟩

theorem ktTune_refused : ∀ (s : State) (tn : Nat),
    (decide (tn < 4)) = true →
    s.ktRuns = true →
    (!s.ktAccepts tn 1) = true →
    Gives (.ktTune tn) s (fun t =>
      (t.getF ⟨CMP_REFUSE, 31, 28⟩ = codeReserved ∧ Counted ⟨CMP_REFUSE, 15, 0⟩ s t ∧ (t.ktGet (ktIdx tn 6)).testBit 4 = true ∧ t.kt = s.kt) ∧ Within [(CMP_REFUSE, CMP_REFUSE + 4), (CMP_STAT, CMP_STAT + 4), (CMP_KT (ktIdx tn 6), CMP_KT (ktIdx tn 6) + 4)] s t) := by
  intro s tn ht hr ha
  exact ⟨_, congrArg Host.Outcome.next (ktIssue_refused (by simpa using ht) hr (by simpa using ha)), ktRefused_shows (by simpa using ht) s⟩

theorem ktCancel_marks : ∀ (s : State) (tn : Nat),
    (decide (tn < 4)) = true →
    s.ktRuns = true →
    ((s.tuner tn).cmd == .seekUp || (s.tuner tn).cmd == .seekDown) = true →
    Gives (.ktCancel tn) s (fun t =>
      ((t.tuner tn).cmd = (s.tuner tn).cmd ∧ (t.tuner tn).cancel = true ∧ (t.tuner tn).freq = (s.tuner tn).freq ∧ t.ktBusy tn = s.ktBusy tn) ∧ Within [(CMP_KT (ktIdx tn 0), CMP_KT (ktIdx tn 7)), (CMP_CMDCNT, CMP_CMDCNT + 4)] s t) := by
  intro s tn ht hr hseek
  have ht : tn < 4 := by simpa using ht
  refine ⟨_, congrArg Host.Outcome.next (ktIssue_cancel ht hr (by simpa using hseek)), ?_⟩
  have hbusy := ktTaken_busy ht 4 s
  have hin := ktTaken_within tn 4 s
  generalize ktTaken tn 4 s = x at *
  refine ⟨⟨?_, ?_, ?_, (congrArg (·.testBit 0) (setTuner_getF _ _ _ _)).trans hbusy⟩, hin.of_regs (setTuner_regs _ _ _)⟩
  · rw [tuner_setTuner_same]
  · rw [tuner_setTuner_same]
  · rw [tuner_setTuner_same]

theorem ktSeekStep_found : ∀ (s : State) (tn n : Nat),
    (decide (tn < 4)) = true →
    s.ktRuns = true →
    ((s.tuner tn).cmd == .seekUp || (s.tuner tn).cmd == .seekDown) = true →
    ktTimeOk (s.tuner tn) n = true →
    ((s.tuner tn).steps != 0) = true →
    s.ktSettled tn = true →
    (!(s.tuner tn).cancel) = true →
    ((s.tuner tn).freq != (s.tuner tn).seekFrom) = true →
    s.ktFound tn = true →
    Gives (.ktSeekStep tn n) s (fun t =>
      ((t.tuner tn).cmd = .none ∧ (t.tuner tn).freq = (s.tuner tn).freq ∧ t.ktBusy tn = false ∧ (t.ktGet (ktIdx tn 6)).testBit 3 = false ∧ (t.ktGet 2).testBit tn = true) ∧ Within [(0x70000, 0x80000), (0x1000, 0x2000)] s t) := by
  intro s tn n ht hr hseek htime hsteps hset hcancel hfar hfound
  have ht : tn < 4 := by simpa using ht
  obtain ⟨⟨hcmd, hfreq, hbusy, hfail, hdone⟩, hin⟩ := seekEnd_shows ht false (s.advance n)
  rw [advance_tuner] at hfreq
  exact ⟨_, ktSeekStep_ends ht hr (by simpa using hseek) htime (by simpa using hsteps) hset
    (by simpa using And.intro (by simpa using hcancel : (s.tuner tn).cancel = false) (by simpa using hfar)) (fun _ => hfound),
    ⟨hcmd, hfreq, hbusy, hfail, hdone⟩, hin.advanced⟩

theorem ktSeekStep_fails : ∀ (s : State) (tn n : Nat),
    (decide (tn < 4)) = true →
    s.ktRuns = true →
    ((s.tuner tn).cmd == .seekUp || (s.tuner tn).cmd == .seekDown) = true →
    ktTimeOk (s.tuner tn) n = true →
    ((s.tuner tn).steps != 0) = true →
    s.ktSettled tn = true →
    ((s.tuner tn).cancel || (s.tuner tn).freq == (s.tuner tn).seekFrom) = true →
    Gives (.ktSeekStep tn n) s (fun t =>
      ((t.tuner tn).cmd = .none ∧ t.ktBusy tn = false ∧ (t.ktGet (ktIdx tn 6)).testBit 3 = true ∧ (t.ktGet 2).testBit tn = true) ∧ Within [(0x70000, 0x80000), (0x1000, 0x2000)] s t) := by
  intro s tn n ht hr hseek htime hsteps hset hcancel
  have ht : tn < 4 := by simpa using ht
  obtain ⟨⟨hcmd, -, hbusy, hfail, hdone⟩, hin⟩ := seekEnd_shows ht true (s.advance n)
  exact ⟨_, ktSeekStep_ends ht hr (by simpa using hseek) htime (by simpa using hsteps) hset (by simpa using hcancel) (fun h => by cases h),
    ⟨hcmd, hbusy, hfail, hdone⟩, hin.advanced⟩

theorem ktBusyFall_ends : ∀ (s : State) (tn n : Nat),
    (decide (tn < 4)) = true →
    s.ktRuns = true →
    ((s.tuner tn).cmd == .tune) = true →
    ktTimeOk (s.tuner tn) n = true →
    s.ktSettled tn = true →
    Gives (.ktBusyFall tn n) s (fun t =>
      ((t.tuner tn).cmd = .none ∧ t.ktBusy tn = false ∧ (t.ktGet 2).testBit tn = true ∧ t.flag ⟨CMP_STAT, tn, tn⟩ = false) ∧ Within [(0x70000, 0x80000), (0x1000, 0x2000)] s t) := by
  intro s tn n ht hr hcmd htime hset
  have ht : tn < 4 := by simpa using ht
  obtain ⟨⟨htuner, hbusy, -, hdone, hstat⟩, hin⟩ := ktDone_shows ht (s.advance n)
  exact ⟨_, ktBusyFall_tuned ht hr (by simpa using hcmd) htime hset, ⟨congrArg Tuner.cmd htuner, hbusy, hdone, hstat⟩, hin.advanced⟩

theorem ktFlush_empties : ∀ (s : State) (tn : Nat),
    (decide (tn < 4)) = true →
    s.ktRuns = true →
    (bitsOf (s.ktGet (ktIdx tn 0x11)) 2 1 != 3) = true →
    Gives (.ktFlush tn) s (fun t =>
      (t.tuner tn).fifo = [] ∧ t.ktGet (ktIdx tn 0x0E) = 0 ∧ (t.tuner tn).cmd = (s.tuner tn).cmd) := by
  intro s tn ht hr hdeliv
  have ht : tn < 4 := by simpa using ht
  obtain ⟨x, hx, hkt⟩ := ktFlush_taken ht hr (by simpa using hdeliv)
  refine ⟨ktFlush tn x, congrArg Host.Outcome.next ((if_pos ht).trans hx), ?_, ktFlush_count _ _, ?_⟩
  · rw [ktFlush_tuner]
  · rw [ktFlush_tuner, tuner_of_kt hkt]

theorem ktAudcfgWrite_takes : ∀ (s : State) (v : Nat),
    s.ktRuns = true →
    (decide (bitsOf (v % 256) 7 6 < 2)) = true →
    Gives (.ktAudcfgWrite v) s (fun t =>
      t.ktGet 4 = v % 256) := by
  intro s v hr hv
  refine ⟨_, congrArg Host.Outcome.next (ktRegWrite_runs hr (by decide) (by decide) (.inl rfl) _), ?_⟩
  exact (ktAudcfg_takes (by simpa using hv) s).trans (Nat.mod_mod _ _)

theorem ktAudcfgWrite_refused : ∀ (s : State) (v : Nat),
    s.ktRuns = true →
    (decide (2 ≤ bitsOf (v % 256) 7 6)) = true →
    Gives (.ktAudcfgWrite v) s (fun t =>
      (Counted ⟨CMP_REFUSE, 15, 0⟩ s t ∧ t.getF ⟨CMP_REFUSE, 31, 28⟩ = codeReserved) ∧ Within [(CMP_REFUSE, CMP_REFUSE + 4)] s t) := by
  intro s v hr hv
  refine ⟨refuse CMP_REFUSE codeReserved s, congrArg Host.Outcome.next ?_, ⟨counted_refuse _ _ _, getF_refuse_code _ _ _ (by decide)⟩, ?_⟩
  · rw [ktRegWrite_runs hr (by decide) (by decide) (.inl rfl), if_pos rfl, ktAudcfg, if_pos (by simpa using hv), ktRefuse_plain (by decide)]
  · exact ((Within.refl _ s).setF ⟨CMP_REFUSE, 31, 28⟩ _ (inAreas_word _ _)).setF ⟨CMP_REFUSE, 15, 0⟩ _ (inAreas_word _ _)

theorem ktAudselWrite_maps : ∀ (s : State) (v : Nat),
    s.ktRuns = true →
    Gives (.ktAudselWrite v) s (fun t =>
      (t.ktGet 5 = v % 256 ∧ t.getF (SAPk_MAP_KIND 0 0) = 1 ∧ t.getF (SAPk_MAP_NUM 0 0) = bitsOf (v % 256) 1 0 ∧ t.getF (SAPk_MAP_KIND 1 0) = 1 ∧ t.getF (SAPk_MAP_NUM 1 0) = bitsOf (v % 256) 5 4) ∧ Within [(CMP_KT 5, CMP_KT 5 + 4), (SAPk_MAP 0 0, SAPk_MAP 0 2), (SAPk_MAP 1 0, SAPk_MAP 1 2)] s t) := by
  intro s v hr
  refine ⟨ktAudsel (v % 256) s, congrArg Host.Outcome.next (ktRegWrite_runs hr (by decide) (by decide) (.inr (.inl rfl)) _), ?_⟩
  have h := ktAudsel_shows (v % 256) s
  rwa [Nat.mod_mod] at h

theorem ktCaptureEnable_starts : ∀ (s : State) (v k : Nat),
    s.ktRuns = true →
    (decide (k < 2)) = true →
    (v % 32).testBit k = true →
    (!(s.ktGet 6).testBit k) = true →
    Gives (.ktCaptureEnable v) s (fun t =>
      t.ktGet 6 = v % 32 ∧ (t.cap k).wp = 0 ∧ (t.cap k).rp = 0 ∧ (t.cap k).pack4 = (v % 32).testBit 3 ∧ (t.cap k).buf = (s.cap k).buf) := by
  intro s v k hr hk hnew hold
  have hmod : v % 256 % 32 = v % 32 := Nat.mod_mod_of_dvd v (by decide)
  obtain ⟨hctl, ⟨hwp, hrp, hpack⟩, hbuf⟩ := ktCapctl_starts (s := s) (v := v % 256) (by simpa using hk) (by rw [hmod]; exact hnew) (by simpa using hold)
  rw [hmod] at hctl hpack
  exact ⟨_, congrArg Host.Outcome.next (ktRegWrite_runs hr (by decide) (by decide) (.inr (.inr rfl)) _), hctl, hwp, hrp, hpack, hbuf⟩


/-- Settles O48. -/
theorem kt440 : Obligations.Kt440 := by
  unfold Obligations.Kt440
  refine ⟨ktIndexWrite_moves, ktDataRead_index, ktDataRead_port, ktDataRead_intstat, ktDataRead_capture, ktDataRead_rds, ?_,
    ?_, ktDataWrite_early, hbQueueDeliver_shows, ktStatWrite_clears, ktTune_takes, ktPowerUp_takes, ktTune_refused, ?_, ?_,
    ktCancel_marks, ?_, ktSeekStep_found, ktSeekStep_fails, ktBusyFall_ends, ?_, ktFlush_empties, ktAudcfgWrite_takes,
    ktAudcfgWrite_refused, ktAudselWrite_maps, ktCaptureEnable_starts⟩
  · intro s auto v hb hr hq
    exact ktDataWrite_posts auto v hb hr (by simpa using hq)
  · intro s auto v k hb hr hq hk hidx hcode ha
    exact ktDataWrite_raises auto hb hr (by simpa using hq) (by simpa using hk) (by simpa using hidx) (by simpa using hcode) ha
  · intro s tn f ht hr hok hnext
    exact ⟨_, rfl, ktSeek_shows (by simpa using ht) hr (.inl ⟨rfl, rfl⟩) hok (eq_of_beq hnext)⟩
  · intro s tn f ht hr hok hnext
    exact ⟨_, rfl, ktSeek_shows (by simpa using ht) hr (.inr ⟨rfl, rfl⟩) hok (eq_of_beq hnext)⟩
  · intro s tn ht hr
    exact ⟨_, rfl, ktPowerDown_shows (by simpa using ht) hr⟩
  · intro s tn n htime
    exact ⟨_, ktBusyFall_early (by simpa using htime), rfl⟩

end Sys2Proof.Machine
end

section
/-! SUPPORT. A raise, its record and the release of its group (R374, R376 to R379). -/

set_option Elab.async false

namespace Sys2Proof.Machine

section
variable {s u : State} {e i j g n : Nat}

/-! ## The registers of a raise -/

/-- A raise is heard: the part is out of reset and past LOADED, and the source has that number (R374, R375, R382). -/
structure Heard (s : State) (e i : Nat) : Prop where
  reset : s.pwr.inReset = false
  stage : 3 ≤ s.stage
  source : isSource e = true
  fits : ∀ j, summaryOf e = some j → i < s.summaryCap j

theorem Heard.lt (h : Heard s e i) : e < 256 := isSource_lt e h.source

theorem Heard.raise_eq (h : Heard s e i) :
    raise e i s = irqRefresh (coalRaise (e / 32) (e % 32) 1 s.now (coalRaise (e / 32) (e % 32) 0 s.now (raisedTraced e i s.now s))) := by
  have hstage : ¬ s.stage < 3 := by have := h.stage; omega
  have hfits : (summaryOf e).any (fun j => decide (s.summaryCap j ≤ i)) = false := by
    cases hs : summaryOf e with
    | none => rfl
    | some j => simpa using h.fits j hs
  unfold raise raiseAt
  rw [if_neg (by simp [h.reset, hstage, h.source, hfits])]
  rfl

theorem raisedTraced_rd {b : Nat} (hb : b < 0x30000) : (raisedTraced e i n s).rd b = (raiseStamp e i n (raiseBit e i s)).rd b := by
  have hraised : (raised e i n s).rd b = (raiseStamp e i n (raiseBit e i s)).rd b := by
    rw [raised, raiseSnap_rd _ _ _ _ (.inl hb), obsEvent, obsCount_rd, raiseRec_rd]
  unfold raisedTraced
  split
  · rw [trace_rd _ _ _ _ _ _ _ (.inl (by omega)), hraised]
  · exact hraised

/-- What a raise shows in the event block is its bit, its stamp and the place of it. -/
theorem Heard.rd (h : Heard s e i) {b : Nat} (hb : b < 0x30000) (hpend : b ≠ EVT_PEND) :
    (raise e i s).rd b = (raiseStamp e i s.now (raiseBit e i s)).rd b := by
  rw [h.raise_eq, irqRefresh_rd _ _ hpend, coalRaise_rd, coalRaise_rd, raisedTraced_rd hb]

/-- The STAT and MERGE registers follow the bit alone. -/
theorem Heard.getF_bit (h : Heard s e i) {f : Fld} (hf : 0x1100 ≤ f.reg ∧ f.reg < 0x1200) : (raise e i s).getF f = (raiseBit e i s).getF f := by
  have hpend : f.reg ≠ EVT_PEND := by unfold EVT_PEND; omega
  exact getF_of_rd ((h.rd (by omega) hpend).trans (raiseStamp_rd_stat _ _ _ _ (by omega)))

theorem statReg_area (he : e < 256) : 0x1100 ≤ EVT_Gg_STAT (e / 32) ∧ EVT_Gg_STAT (e / 32) < 0x1200 := by
  unfold EVT_Gg_STAT
  omega

theorem mergeReg_area (he : e < 256) : 0x1100 ≤ EVT_Gg_MERGE (e / 32) ∧ EVT_Gg_MERGE (e / 32) < 0x1200 := by
  unfold EVT_Gg_MERGE
  omega

/-- The field of source e in STAT. -/
def statFld (e : Nat) : Fld := ⟨EVT_Gg_STAT (e / 32), e % 32, e % 32⟩

theorem merge_ne_stat (e : Nat) : EVT_Gg_MERGE (e / 32) ≠ EVT_Gg_STAT (e / 32) := by
  unfold EVT_Gg_MERGE EVT_Gg_STAT
  omega

/-- A count of a merge that a flag asks for. -/
theorem bumpIf_getF (b : Bool) (s : State) (f : Fld) (hf : f.lo ≤ f.hi ∧ f.hi < 32) :
    (b = true → Counted f s (if b then s.bump f else s)) ∧ (b = false → (if b then s.bump f else s).getF f = s.getF f) := by
  cases b
  · exact ⟨nofun, fun _ => rfl⟩
  · exact ⟨fun _ => counted_bump _ _ hf.1 hf.2, nofun⟩

theorem raiseBit_plain (hs : summaryOf e = none) (s : State) :
    raiseBit e i s = (if s.flag (statFld e) then s.bump (EVT_Gg_MERGE_CNT (e / 32)) else s).setF (statFld e) 1 := by
  unfold raiseBit
  dsimp only
  split
  next j hj => rw [hs] at hj; cases hj
  next => rfl

/-- The field of one number in the bitmap of a summary. -/
def sumFld (j i : Nat) : Fld := ⟨EVT_SUM j (i / 32), i % 32, i % 32⟩

theorem raiseBit_summary (hs : summaryOf e = some j) (s : State) :
    raiseBit e i s = ((if s.flag (sumFld j i) then s.bump (EVT_Gg_MERGE_CNT (e / 32)) else s).setF (sumFld j i) 1).setF (statFld e) 1 := by
  unfold raiseBit
  dsimp only
  split
  next k hk =>
    obtain rfl : k = j := Option.some.inj (hk.symm.trans hs)
    rfl
  next hnone => rw [hnone] at hs; cases hs

theorem flag_setF_one (s : State) (r b : Nat) (hb : b < 32) : (s.setF ⟨r, b, b⟩ 1).flag ⟨r, b, b⟩ = true :=
  flag_of_getF (b := true) (getF_setF_bits_fit s r b b 1 ⟨le_rfl, hb⟩ (by simp))

/-- A raise sets its STAT bit (R374). -/
theorem Heard.stat (h : Heard s e i) : (raise e i s).flag (statFld e) = true := by
  have hbit : (raise e i s).flag (statFld e) = (raiseBit e i s).flag (statFld e) :=
    congrArg (· != 0) (h.getF_bit (statReg_area h.lt))
  rw [hbit]
  cases hs : summaryOf e with
  | none => rw [raiseBit_plain hs]; exact flag_setF_one _ _ _ (Nat.mod_lt _ (by decide))
  | some j => rw [raiseBit_summary hs]; exact flag_setF_one _ _ _ (Nat.mod_lt _ (by decide))

/-- The bit that a raise of source e finds set where it merges (R374, R376). -/
def mergeFld (e i : Nat) : Fld :=
  match summaryOf e with
  | some j => sumFld j i
  | none => statFld e

theorem sumReg_above (j w : Nat) : 0x1400 ≤ EVT_SUM j w := by
  unfold EVT_SUM
  omega

/-- A raise whose bit stands is counted as merged, and no other one (R374). -/
theorem Heard.merge (h : Heard s e i) :
    (s.flag (mergeFld e i) = true → Counted (EVT_Gg_MERGE_CNT (e / 32)) s (raise e i s)) ∧
      (s.flag (mergeFld e i) = false → (raise e i s).getF (EVT_Gg_MERGE_CNT (e / 32)) = s.getF (EVT_Gg_MERGE_CNT (e / 32))) := by
  have hcnt : (EVT_Gg_MERGE_CNT (e / 32)).reg ≠ (statFld e).reg := merge_ne_stat e
  have hread : (raise e i s).getF (EVT_Gg_MERGE_CNT (e / 32)) =
      (if s.flag (mergeFld e i) then s.bump (EVT_Gg_MERGE_CNT (e / 32)) else s).getF (EVT_Gg_MERGE_CNT (e / 32)) := by
    rw [h.getF_bit (mergeReg_area h.lt), mergeFld]
    cases hs : summaryOf e with
    | none => rw [raiseBit_plain hs, getF_setF_reg _ _ _ _ hcnt]
    | some j =>
      have hsum : (EVT_Gg_MERGE_CNT (e / 32)).reg ≠ (sumFld j i).reg := by
        have hlo := sumReg_above j (i / 32)
        have hhi := (mergeReg_area h.lt).2
        show EVT_Gg_MERGE (e / 32) ≠ EVT_SUM j (i / 32)
        omega
      rw [raiseBit_summary hs, getF_setF_reg _ _ _ _ hcnt, getF_setF_reg _ _ _ _ hsum]
  obtain ⟨hset, hclear⟩ := bumpIf_getF (s.flag (mergeFld e i)) s (EVT_Gg_MERGE_CNT (e / 32)) ⟨by simp [EVT_Gg_MERGE_CNT], by simp [EVT_Gg_MERGE_CNT]⟩
  exact ⟨fun hb => hread.trans (hset hb), fun hb => hread.trans (hclear hb)⟩

/-- A raise sets the bit of its number in the bitmap of its source (R376). -/
theorem Heard.summary (h : Heard s e i) (hs : summaryOf e = some j) : (raise e i s).flag (sumFld j i) = true := by
  have hj : j < 16 := by
    unfold summaryOf at hs
    split at hs
    · next hr => cases hs; simp at hr; omega
    · split at hs
      · next hr => cases hs; simp at hr; omega
      · cases hs
  have hi : i < 512 := (h.fits j hs).trans_le (summaryCap_le s j)
  have hreg : 0x1400 ≤ EVT_SUM j (i / 32) ∧ EVT_SUM j (i / 32) < 0x1800 := by unfold EVT_SUM; omega
  have hpend : (sumFld j i).reg ≠ EVT_PEND := by show EVT_SUM j (i / 32) ≠ 0x1004; omega
  have hstamp : (raiseStamp e i s.now (raiseBit e i s)).rd (EVT_SUM j (i / 32)) = (raiseBit e i s).rd (EVT_SUM j (i / 32)) := by
    have he := h.lt
    have hinst : EVT_SUM j (i / 32) ≠ EVT_INST (e / 2) := by unfold EVT_INST; omega
    have hset : ((raiseBit e i s).set64 (EVT_STAMP_LO e) (EVT_STAMP_HI e) s.now).rd (EVT_SUM j (i / 32)) = (raiseBit e i s).rd (EVT_SUM j (i / 32)) :=
      rd_set64_other _ _ _ _ _ (by unfold EVT_STAMP_LO; omega) (by unfold EVT_STAMP_HI; omega)
    unfold raiseStamp
    dsimp only
    split
    · exact (rd_setF_other _ (EVT_INST_INST0 (e / 2)) _ _ hinst).trans hset
    · exact (rd_setF_other _ (EVT_INST_INST1 (e / 2)) _ _ hinst).trans hset
  have hread : (raise e i s).getF (sumFld j i) = (raiseBit e i s).getF (sumFld j i) :=
    getF_of_rd ((h.rd (show EVT_SUM j (i / 32) < 0x30000 by omega) hpend).trans hstamp)
  have hstat : (sumFld j i).reg ≠ (statFld e).reg := by
    have hhi := (statReg_area h.lt).2
    show EVT_SUM j (i / 32) ≠ EVT_Gg_STAT (e / 32)
    omega
  refine (congrArg (· != 0) hread).trans ?_
  rw [raiseBit_summary hs, getF_setF_reg _ _ _ _ hstat]
  exact flag_setF_one _ _ _ (Nat.mod_lt _ (by decide))

/-- A raise is stamped (R374, R380). -/
theorem Heard.stamp (h : Heard s e i) : (raise e i s).get64 (EVT_STAMP_LO e) (EVT_STAMP_HI e) = s.now ∧
    (raise e i s).getF (if e % 2 = 0 then EVT_INST_INST0 (e / 2) else EVT_INST_INST1 (e / 2)) = i % 65536 := by
  have he := h.lt
  have hlo : EVT_STAMP_LO e < 0x30000 ∧ EVT_STAMP_LO e ≠ EVT_PEND := by unfold EVT_STAMP_LO EVT_PEND; omega
  have hhi : EVT_STAMP_HI e < 0x30000 ∧ EVT_STAMP_HI e ≠ EVT_PEND := by unfold EVT_STAMP_HI EVT_PEND; omega
  have hinst : EVT_INST (e / 2) < 0x30000 ∧ EVT_INST (e / 2) ≠ EVT_PEND := by unfold EVT_INST EVT_PEND; omega
  have hloInst : EVT_STAMP_LO e ≠ EVT_INST (e / 2) := by unfold EVT_STAMP_LO EVT_INST; omega
  have hhiInst : EVT_STAMP_HI e ≠ EVT_INST (e / 2) := by unfold EVT_STAMP_HI EVT_INST; omega
  have hne : EVT_STAMP_LO e ≠ EVT_STAMP_HI e := by unfold EVT_STAMP_LO EVT_STAMP_HI; omega
  have hnow : s.now % 2 ^ 64 = s.now := Nat.mod_eq_of_lt s.syscnt.isLt
  have hstamped (x : State) (f : Fld) (hf : f.reg = EVT_INST (e / 2)) (v : Nat) :
      ((x.set64 (EVT_STAMP_LO e) (EVT_STAMP_HI e) s.now).setF f v).get64 (EVT_STAMP_LO e) (EVT_STAMP_HI e) = s.now := by
    rw [State.get64, rd_setF_other _ _ _ _ (by rw [hf]; exact hloInst), rd_setF_other _ _ _ _ (by rw [hf]; exact hhiInst)]
    exact (get64_set64 x s.now hne).trans hnow
  have hpair : (raise e i s).get64 (EVT_STAMP_LO e) (EVT_STAMP_HI e) =
      (raiseStamp e i s.now (raiseBit e i s)).get64 (EVT_STAMP_LO e) (EVT_STAMP_HI e) := by
    rw [State.get64, h.rd hlo.1 hlo.2, h.rd hhi.1 hhi.2]
    rfl
  have hfield (f : Fld) (hf : f.reg = EVT_INST (e / 2)) : (raise e i s).getF f = (raiseStamp e i s.now (raiseBit e i s)).getF f :=
    getF_of_rd (h.rd (by rw [hf]; exact hinst.1) (by rw [hf]; exact hinst.2))
  rw [hpair]
  by_cases heven : e % 2 = 0
  · rw [if_pos heven, hfield _ rfl, raiseStamp, if_pos heven]
    exact ⟨hstamped _ _ rfl _, getF_setF_same _ _ _ (by simp [EVT_INST_INST0]) (by simp [EVT_INST_INST0])⟩
  · rw [if_neg heven, hfield _ rfl, raiseStamp, if_neg heven]
    exact ⟨hstamped _ _ rfl _, getF_setF_same _ _ _ (by simp [EVT_INST_INST1]) (by simp [EVT_INST_INST1])⟩

end

end Sys2Proof.Machine
end

section
/-! SUPPORT. The record of a raise, the release of a group and a clearing write (R344, R374, R376 to R379). -/

set_option Elab.async false

namespace Sys2Proof.Machine

section
variable {s u : State} {e i j g n : Nat}

/-! ## The record of a raise -/

theorem obsCount_recs (q : Nat → Bool) (s : State) : (obsCount q s).recs = s.recs := by
  obtain ⟨o, h⟩ := obsCount_eq q s
  rw [h]

theorem snapTrigger_recs (n : Nat) (s : State) : (snapTrigger n s).recs = s.recs := by
  unfold snapTrigger
  split
  · dsimp only
    rw [setF_recs, set64_recs]
  · rfl

theorem release_recs (g r : Nat) (s : State) : (release g r s).recs = s.recs := by
  unfold release
  dsimp only
  split
  · split <;> rfl
  · rfl

theorem releaseDue_recs (g r n : Nat) (s : State) : (releaseDue g r n s).recs = s.recs := by
  unfold releaseDue
  dsimp only
  split
  · exact release_recs _ _ _
  · rfl

theorem coalRefresh_recs (g r n : Nat) (s : State) : (coalRefresh g r n s).recs = s.recs := by
  unfold coalRefresh
  dsimp only
  split
  · rw [releaseDue_recs]
    split
    · rfl
    · exact setCoal_recs _ _ _ _
  · exact setCoal_recs _ _ _ _

theorem coalRaise_recs (g b r n : Nat) (s : State) : (coalRaise g b r n s).recs = s.recs := by
  unfold coalRaise
  dsimp only
  split
  · split
    · rw [releaseDue_recs, setCoal_recs]
    · exact coalRefresh_recs _ _ _ _
  · rfl

theorem irqRefresh_recs (s : State) : (irqRefresh s).recs = s.recs := by
  unfold irqRefresh
  dsimp only
  rw [setF_recs, setF_recs, setF_recs]

theorem trace_off {k x src d : Nat} (h : s.flag OBS_CTL_TRACE_EN = false) : trace k x src d n s = s := by
  rw [trace, if_pos (by simp [h])]

/-- Untraced, a raise adds to the records what its source's record adds (R374). -/
theorem Heard.recs (h : Heard s e i) (hs : summaryOf e = none) (htrace : s.flag OBS_CTL_TRACE_EN = false) :
    (raise e i s).recs = (raiseRec e i s.now (raiseStamp e i s.now (raiseBit e i s))).recs := by
  have hflag : (raised e i s.now s).flag OBS_CTL_TRACE_EN = false :=
    (congrArg (· != 0) (getF_of_rd (raised_rd_other i s.now h.lt hs (by decide) (by decide)))).trans htrace
  have htraced : (raisedTraced e i s.now s).recs = (raised e i s.now s).recs := by
    unfold raisedTraced
    split
    · rw [trace_off hflag]
    · rfl
  rw [h.raise_eq, irqRefresh_recs, coalRaise_recs, coalRaise_recs, htraced, raised, raiseSnap]
  split
  · rw [snapTrigger_recs]
    exact obsCount_recs _ _
  · exact obsCount_recs _ _

/-- The event record of a raise (R344, R374). -/
def raiseRecord (e i n : Nat) : Rec :=
  ⟨7, n, 0, e, leNat 8 n ++ leNat 2 0 ++ [e, 0] ++ leNat 4 (if i = noInst then 0xFFFFFFFF else i)⟩

theorem raiseRec_joins (hmask : (s.rd (EVT_Gg_MASK_REC (e / 32))).toNat.testBit (e % 32) = true) (hside : s.flag NET_CAS_CTL_SIDE = true)
    (htype : (s.getF NET_CAS_CTL_TYPES).testBit 6 = true) : ∃ q, q ∈ (raiseRec e i n s).recs ∧ q.1 = 0 ∧ q.2.2 = raiseRecord e i n := by
  refine ⟨(0, s.now, raiseRecord e i n), ?_, rfl, rfl⟩
  rw [raiseRec, if_pos hmask]
  unfold emitRec emitRecIf
  have htake : (true && s.flag NET_CAS_CTL_SIDE && decide (1 ≤ (raiseRecord e i n).type) &&
      (s.getF NET_CAS_CTL_TYPES).testBit ((raiseRecord e i n).type - 1)) = true := by
    simp [hside, raiseRecord, htype]
  exact List.mem_append_left _ (List.mem_append_right _ (by rw [if_pos (by exact htake)]; exact List.mem_singleton_self _))

/-! ## Coalescing -/

theorem coalOf_setCoal (s : State) (g r g' r' : Nat) (c : Coal) (hr : r < 2) (hr' : r' < 2) :
    (s.setCoal g r c).coalOf g' r' = if g' = g ∧ r' = r then c else s.coalOf g' r' := by
  rw [State.coalOf, State.setCoal, sget_sset]
  by_cases h : 2 * g' + r' = 2 * g + r
  · rw [if_pos h, if_pos (by omega)]
  · rw [if_neg h, if_neg (by omega)]
    rfl

theorem irqRefresh_coal (s : State) : (irqRefresh s).coal = s.coal := by
  unfold irqRefresh
  dsimp only
  rw [setF_coal, setF_coal, setF_coal]

theorem irqRefresh_coalOf (s : State) (g r : Nat) : (irqRefresh s).coalOf g r = s.coalOf g r := by
  rw [State.coalOf, irqRefresh_coal]
  rfl

theorem irqRefresh_msiQueue (s : State) : (irqRefresh s).msiQueue = s.msiQueue := by
  unfold irqRefresh
  dsimp only
  rw [setF_msiQueue, setF_msiQueue, setF_msiQueue]

/-- The command on a group that is pending on a route (R378). -/
theorem coalesceRelease_next {r : Nat} (hg : g < 8) (hr : r < 2) (hp : (s.coalOf g r).pending = true) :
    execEventCoalesceRelease g r n s = .next (irqRefresh (releaseDue g r (s.advance n).now (s.advance n))) := by
  have hcoal : (s.advance n).coalOf g r = s.coalOf g r := by
    obtain ⟨c, h⟩ := advance_eq n s
    rw [h]
    rfl
  unfold execEventCoalesceRelease
  dsimp only
  rw [hcoal, if_pos (by simp [hg, hr, hp])]

/-- The condition of R378 for a release at an instant. -/
def State.coalDue (s : State) (g r n : Nat) : Bool :=
  decide (s.getF (EVT_Gg_COAL_COUNT g) ≤ (s.coalOf g r).count)
    || decide ((s.coalOf g r).since + Config.ticksOfUs (s.getF (EVT_Gg_COAL_HOLD_US g)) ≤ n)

theorem releaseDue_eq (g r n : Nat) (s : State) : releaseDue g r n s = if s.coalDue g r n then release g r s else s := rfl

theorem advance_coalDue (g r m n : Nat) (s : State) : (s.advance m).coalDue g r n = s.coalDue g r n := by
  obtain ⟨c, h⟩ := advance_eq m s
  rw [h]
  rfl

/-- A release on the MSI-X route (R377, R378). -/
theorem release_msix (hp : (s.coalOf g 1).pending = true) (hnew : (s.coalOf g 1).released = false) :
    (release g 1 s).msiQueue = s.msiQueue ++ [s.getF (EVT_Gg_ROUTE_VEC g)] ∧ ((release g 1 s).coalOf g 1).released = true ∧
      (release g 1 s).coalOf g 0 = s.coalOf g 0 := by
  have hcoal (r : Nat) (hr : r < 2) : (release g 1 s).coalOf g r =
      (s.setCoal g 1 { s.coalOf g 1 with released := true }).coalOf g r := by
    unfold release
    dsimp only
    rw [if_pos (by simp [hp, hnew]), if_pos rfl]
    rfl
  refine ⟨?_, ?_, ?_⟩
  · unfold release
    dsimp only
    rw [if_pos (by simp [hp, hnew]), if_pos rfl]
    rfl
  · rw [hcoal 1 (by decide), coalOf_setCoal _ _ _ _ _ _ (by decide) (by decide), if_pos ⟨rfl, rfl⟩]
  · rw [hcoal 0 (by decide), coalOf_setCoal _ _ _ _ _ _ (by decide) (by decide), if_neg (by simp)]

/-- A release on the IRQ_N route leaves the group pending and released (R377, R378). -/
theorem release_irq (hp : (s.coalOf g 0).pending = true) :
    ((release g 0 s).coalOf g 0).pending = true ∧ ((release g 0 s).coalOf g 0).released = true ∧ (release g 0 s).msiQueue = s.msiQueue := by
  unfold release
  dsimp only
  split
  · rw [if_neg (by decide), coalOf_setCoal _ _ _ _ _ _ (by decide) (by decide), if_pos ⟨rfl, rfl⟩]
    exact ⟨hp, rfl, rfl⟩
  · next h => exact ⟨hp, by simpa [hp] using h, rfl⟩

theorem packBits_ne_zero {l : List Bool} (h : true ∈ l) : packBits l ≠ 0 := by
  obtain ⟨i, hi, hget⟩ := List.mem_iff_getElem.mp h
  intro hz
  have hbit := testBit_packBits l i
  rw [hz, Nat.zero_testBit, List.getD_eq_getElem _ _ hi, hget] at hbit
  cases hbit

/-- A released group holds IRQ_N low (R377, R379). -/
theorem irqRefresh_low (hg : g < 8) (hp : (s.coalOf g 0).pending = true) (hr : (s.coalOf g 0).released = true)
    (hen : s.flag EVT_CTL_IRQ_EN = true) (hkt : s.ktOwned = false) : (irqRefresh s).pins.irqLow = true := by
  have hmem : true ∈ (List.range 8).map fun g => (s.coalOf g 0).pending && (s.coalOf g 0).released :=
    List.mem_map.mpr ⟨g, List.mem_range.mpr hg, by rw [hp, hr]; rfl⟩
  have hne := packBits_ne_zero hmem
  unfold irqRefresh
  dsimp only
  rw [if_neg (by simp [hkt]), hen, Bool.true_and, bne_iff_ne]
  exact hne

end

end Sys2Proof.Machine
end

section
/-! SUPPORT. Clearing writes of the event block (R8, R376, R377). -/

set_option Elab.async false

namespace Sys2Proof.Machine

/-! ## Words -/

theorem and_add_and_not (x w : Word) : (x &&& w) + (x &&& ~~~w) = x := by
  have hdisjoint : (x &&& w) &&& (x &&& ~~~w) = 0#32 := by
    ext i hi
    cases hw : w[i] <;> simp [hw]
  rw [BitVec.add_eq_or_of_and_eq_zero _ _ hdisjoint]
  ext i hi
  cases hw : w[i] <;> simp [hw]

theorem toNat_and_not (x w : Word) : (x &&& ~~~w).toNat = x.toNat - (x.toNat &&& w.toNat) := by
  have hle : x &&& w ≤ x := by
    rw [BitVec.le_def, BitVec.toNat_and]
    exact Nat.and_le_left
  rw [← BitVec.toNat_and, ← BitVec.toNat_sub_of_le hle]
  exact congrArg BitVec.toNat (sub_eq_of_eq_add' (and_add_and_not x w).symm).symm

/-- The written 1s are cleared. -/
theorem clearedWord (x w : Word) : BitVec.ofNat 32 (x.toNat - (x.toNat &&& w.toNat)) = x &&& ~~~w := by
  rw [← toNat_and_not, BitVec.ofNat_toNat, BitVec.setWidth_eq]

/-- The written 1s are cleared, those of a mask apart. -/
theorem clearedWord_masked (x w : Word) (ro b : Nat) (hro : ro.testBit b = false) (hb : b < 32) :
    (BitVec.ofNat 32 (x.toNat - (x.toNat &&& w.toNat) + ((x.toNat &&& w.toNat) &&& ro))).getLsbD b =
      (x.getLsbD b && !w.getLsbD b) := by
  have hsum : BitVec.ofNat 32 (x.toNat - (x.toNat &&& w.toNat) + ((x.toNat &&& w.toNat) &&& ro)) =
      (x &&& ~~~w) + (x &&& w &&& BitVec.ofNat 32 ro) := by
    apply BitVec.eq_of_toNat_eq
    rw [BitVec.toNat_ofNat, BitVec.toNat_add, toNat_and_not, BitVec.toNat_and, BitVec.toNat_and, BitVec.toNat_ofNat]
    congr 2
    have hlt : x.toNat &&& w.toNat < 2 ^ 32 := Nat.lt_of_le_of_lt Nat.and_le_left x.isLt
    apply Nat.eq_of_testBit_eq
    intro i
    rw [Nat.testBit_and, Nat.testBit_and (x.toNat &&& w.toNat) (ro % 2 ^ 32), Nat.testBit_mod_two_pow]
    by_cases hi : i < 32
    · simp [hi]
    · rw [Nat.testBit_lt_two_pow (hlt.trans_le (Nat.pow_le_pow_right (by decide) (by omega))), Bool.false_and, Bool.false_and]
  have hdisjoint : (x &&& ~~~w) &&& (x &&& w &&& BitVec.ofNat 32 ro) = 0#32 := by
    ext i hi
    cases hw : w[i] <;> simp [hw]
  rw [hsum, BitVec.add_eq_or_of_and_eq_zero _ _ hdisjoint]
  have hmask : (BitVec.ofNat 32 ro).getLsbD b = false := by rw [BitVec.getLsbD_ofNat, hro, Bool.and_false]
  rw [BitVec.getLsbD_or, BitVec.getLsbD_and, BitVec.getLsbD_and, BitVec.getLsbD_and, hmask, BitVec.getLsbD_not]
  simp [hb]

/-! ## Summaries -/

section
variable {s u : State} {g j k b : Nat}

/-- A search of a list that no entry under a key satisfies does not see what is stored there. -/
theorem any_sset_skip {β : Type} [DecidableEq β] {k : Nat} {p : Nat × β → Bool} (h : ∀ w, p (k, w) = false) (d : Nat → β) (v : β)
    (l : List (Nat × β)) : (sset d k v l).any p = l.any p := by
  have hmap (l : List (Nat × β)) : l.any p = !(l.filterMap fun q => if p q then some q else none).isEmpty := by
    induction l with
    | nil => rfl
    | cons q t ih => cases hq : p q <;> simp [hq, ih]
  rw [hmap, hmap, filterMap_sset_skip (fun w => by simp [h w])]

theorem summaryAny_setF (s : State) (f : Fld) (v : Nat) (hf : f.reg < 0x1400) : (s.setF f v).summaryAny j = s.summaryAny j :=
  any_sset_skip (fun w => by simp only [EVT_SUM]; simp; omega) _ _ _

/-- STAT bits of group g follow bitmaps, pair by pair. -/
def statFollow (g : Nat) (l : List (Nat × Nat)) (s : State) : State :=
  l.foldl (fun s p => s.setB ⟨EVT_Gg_STAT g, p.1, p.1⟩ (s.summaryAny p.2)) s

theorem summaryRefresh_eq (g : Nat) (s : State) : summaryRefresh g s = statFollow g (summaryBits g) s := rfl

theorem statFollow_rd {l : List (Nat × Nat)} {a : Nat} (ha : a ≠ EVT_Gg_STAT g) (s : State) : (statFollow g l s).rd a = s.rd a := by
  induction l generalizing s with
  | nil => rfl
  | cons p t ih => exact (ih _).trans (rd_setF_other _ _ _ _ ha)

theorem statFollow_other {l : List (Nat × Nat)} (hl : ∀ p ∈ l, p.1 < 32 ∧ p.1 ≠ b) (s : State) :
    (statFollow g l s).getF ⟨EVT_Gg_STAT g, b, b⟩ = s.getF ⟨EVT_Gg_STAT g, b, b⟩ := by
  induction l generalizing s with
  | nil => rfl
  | cons p t ih =>
    obtain ⟨hlt, hne⟩ := hl p (List.mem_cons_self ..)
    exact (ih (fun q hq => hl q (List.mem_cons_of_mem _ hq)) _).trans (getF_setF_beside _ _ _ _ _ _ _ (by omega))

theorem statFollow_summary {l : List (Nat × Nat)} (hg : g < 8) (s : State) : (statFollow g l s).summaryAny j = s.summaryAny j := by
  induction l generalizing s with
  | nil => rfl
  | cons p t ih => exact (ih _).trans (summaryAny_setF _ _ _ (by simp only [EVT_Gg_STAT]; omega))

/-- Each STAT bit of a pair reads whether its bitmap holds a bit (R376). -/
theorem statFollow_shows {l : List (Nat × Nat)} (hg : g < 8) (hnodup : (l.map (·.1)).Nodup) (hl : ∀ p ∈ l, p.1 < 32)
    {p : Nat × Nat} (hp : p ∈ l) (s : State) : (statFollow g l s).flag ⟨EVT_Gg_STAT g, p.1, p.1⟩ = s.summaryAny p.2 := by
  induction l generalizing s with
  | nil => cases hp
  | cons q t ih =>
    obtain ⟨hq, ht⟩ := List.nodup_cons.mp hnodup
    have hlt := hl q (List.mem_cons_self ..)
    obtain rfl | hmem := List.mem_cons.mp hp
    · have hrest : ∀ r ∈ t, r.1 < 32 ∧ r.1 ≠ p.1 := fun r hr =>
        ⟨hl r (List.mem_cons_of_mem _ hr), fun h => hq (List.mem_map.mpr ⟨r, hr, h⟩)⟩
      exact flag_of_getF ((statFollow_other hrest _).trans (getF_setF_bits_fit _ _ _ _ _ ⟨le_rfl, hlt⟩ (by rw [Nat.add_sub_cancel_left]; exact Bool.toNat_lt _)))
    · exact (ih ht (fun r hr => hl r (List.mem_cons_of_mem _ hr)) hmem _).trans
        (summaryAny_setF _ _ _ (by simp only [EVT_Gg_STAT]; omega))

/-! ## After a clearing write -/

theorem routesRefresh_rd (n : Nat) (s : State) {a : Nat} (ha : a ≠ EVT_PEND) : (routesRefresh n s).rd a = s.rd a := by
  rw [routesRefresh, irqRefresh_rd _ _ ha, rd_forEach]
  exact fun g _ x => by rw [coalRefresh_rd, coalRefresh_rd]

theorem summaryAny_of_regs (h : u.regs = s.regs) : u.summaryAny j = s.summaryAny j := by rw [State.summaryAny, h]; rfl

theorem irqRefresh_summary (s : State) : (irqRefresh s).summaryAny j = s.summaryAny j := by
  unfold irqRefresh
  extract_lets irq msi core s1 low
  have hregs : s1.summaryAny j = s.summaryAny j := by
    unfold s1
    rw [summaryAny_setF _ _ _ (by decide), summaryAny_setF _ _ _ (by decide), summaryAny_setF _ _ _ (by decide)]
  clear_value s1 low
  exact (summaryAny_of_regs rfl).trans hregs

theorem release_regs (g r : Nat) (s : State) : (release g r s).regs = s.regs := by
  unfold release
  dsimp only
  split
  · split <;> rfl
  · rfl

theorem coalRefresh_regs (g r n : Nat) (s : State) : (coalRefresh g r n s).regs = s.regs := by
  have hdue (x : State) : (releaseDue g r n x).regs = x.regs := by
    rw [releaseDue_eq]
    split
    · exact release_regs _ _ _
    · rfl
  unfold coalRefresh
  dsimp only
  split
  · rw [hdue]
    split
    · rfl
    · exact setCoal_regs _ _ _ _
  · exact setCoal_regs _ _ _ _

theorem routesRefresh_summary (n : Nat) (s : State) : (routesRefresh n s).summaryAny j = s.summaryAny j := by
  rw [routesRefresh, irqRefresh_summary]
  refine summaryAny_of_regs ?_
  refine forEach_rel (R := fun s u => u.regs = s.regs) (fun _ => rfl) (fun h hv => hv.trans h) (fun g _ x => ?_) s
  rw [coalRefresh_regs, coalRefresh_regs]

/-- The groups whose routes a clearing write re-examines: its own group, where it is pending on a route (R377). -/
theorem afterClear_eq (g n : Nat) (s : State) : ∃ u, u.regs = (statFollow g (summaryBits g) s).regs ∧ afterClear g n s = routesRefresh n u := by
  unfold afterClear
  rw [summaryRefresh_eq]
  generalize statFollow g (summaryBits g) s = u
  dsimp only
  split
  · exact ⟨_, setCoal_regs _ _ _ _, rfl⟩
  · exact ⟨_, rfl, rfl⟩

/-- The registers after a clearing write: the STAT bits of bitmaps follow, and the groups that are pending (R376, R377). -/
theorem afterClear_rd (g n : Nat) (s : State) {a : Nat} (ha : a ≠ EVT_PEND) :
    (afterClear g n s).rd a = (statFollow g (summaryBits g) s).rd a := by
  obtain ⟨u, hregs, h⟩ := afterClear_eq g n s
  rw [h, routesRefresh_rd n _ ha, rd_of_regs hregs]

theorem afterClear_summary (hg : g < 8) (n : Nat) (s : State) : (afterClear g n s).summaryAny j = s.summaryAny j := by
  obtain ⟨u, hregs, h⟩ := afterClear_eq g n s
  rw [h, routesRefresh_summary, summaryAny_of_regs hregs, statFollow_summary hg]

theorem statReg_ne_pend (g : Nat) : EVT_Gg_STAT g ≠ EVT_PEND := by unfold EVT_Gg_STAT EVT_PEND; omega

theorem sumReg_ne_pend (j k : Nat) : EVT_SUM j k ≠ EVT_PEND := by unfold EVT_SUM EVT_PEND; omega

theorem afterClear_within (hg : g < 8) (n : Nat) (s : State) : Within [(0x1000, 0x2000)] s (afterClear g n s) := by
  intro a ha
  have hout := ha _ (List.mem_singleton_self _)
  have hpend : a ≠ EVT_PEND := by rintro rfl; simp [EVT_PEND] at hout
  have hstat : a ≠ EVT_Gg_STAT g := by rintro rfl; simp [EVT_Gg_STAT] at hout; omega
  rw [afterClear_rd _ _ _ hpend, statFollow_rd hstat]

end

end Sys2Proof.Machine
end

section
/-! SUPPORT. The clearing writes of STAT and of the bitmaps (R8, R376, R377). -/

set_option Elab.async false

namespace Sys2Proof.Machine

/-- A one-bit field is its bit. -/
theorem flag_bit (s : State) (r b : Nat) : s.flag ⟨r, b, b⟩ = (s.rd r).getLsbD b := by
  rw [BitVec.getLsbD, Nat.testBit_eq_decide_div_mod_eq, State.flag, State.getF, bitsOf, Nat.add_sub_cancel_left,
    Nat.shiftRight_eq_div_pow, pow_one]
  rcases Nat.mod_two_eq_zero_or_one ((s.rd r).toNat / 2 ^ b) with h | h <;> rw [h] <;> rfl

section
variable {s u : State} {m : Master} {g j k : Nat} {v : Word}

theorem exec_evtClearWrite {a : Nat} (ha : isEvtClear a = true) (hr : s.reaches m a = true) :
    exec (.evtClearWrite m a v) s = .next (evtClear a v (traceRegWrite m a v.toNat s)) := by
  show execEvtClearWrite m a v s = _
  rw [execEvtClearWrite, if_pos ha, gated_reaches _ _ _ _ _ hr]

/-! ## STAT -/

theorem isEvtClear_stat (hg : g < 8) : isEvtClear (EVT_Gg_STAT g) = true := by
  have hcopy : (EVT_Gg_STAT g - EVT_Gg_STAT 0) % 0x20 = 0 := by simp only [EVT_Gg_STAT]; omega
  have hlo : EVT_Gg_STAT 0 ≤ EVT_Gg_STAT g := by simp only [EVT_Gg_STAT]; omega
  have hhi : EVT_Gg_STAT g < EVT_Gg_STAT 8 := by simp only [EVT_Gg_STAT]; omega
  simp [isEvtClear, hcopy, hlo, hhi]

theorem evtClear_stat (hg : g < 8) : evtClear (EVT_Gg_STAT g) v s = clearStat g v.toNat s := by
  have hgroup : (EVT_Gg_STAT g - EVT_Gg_STAT 0) / 0x20 = g := by simp only [EVT_Gg_STAT]; omega
  rw [evtClear, if_pos (by simp only [EVT_Gg_STAT, EVT_SUM]; omega), hgroup]

/-- The bits of STAT that a clearing write leaves (R376). -/
def readOnlyStat (g : Nat) : Nat := packBits ((List.range 32).map fun b => (summaryBits g).any fun p => p.1 == b)

/-- What a clearing write leaves in STAT before the bits of bitmaps follow them. -/
def clearedStat (g : Nat) (w x : Word) : Word :=
  BitVec.ofNat 32 (x.toNat - (x.toNat &&& w.toNat) + ((x.toNat &&& w.toNat) &&& readOnlyStat g))

theorem clearStat_eq (g : Nat) (w : Word) (s : State) :
    clearStat g w.toNat s = afterClear g s.now (s.wr (EVT_Gg_STAT g) (clearedStat g w (s.rd (EVT_Gg_STAT g)))) := rfl

theorem clearStat_within (hg : g < 8) (w : Word) (s : State) : Within [(0x1000, 0x2000)] s (clearStat g w.toNat s) := by
  rw [clearStat_eq]
  exact ((Within.refl _ s).wr _ ⟨_, .head _, by simp only [EVT_Gg_STAT]; omega⟩).step (afterClear_within hg _ _)
    (by decide)

theorem summaryBits_plain (h1 : g ≠ 1) (h2 : g ≠ 2) : summaryBits g = [] := by rw [summaryBits, if_neg h1, if_neg h2]

theorem readOnlyStat_plain (h1 : g ≠ 1) (h2 : g ≠ 2) : readOnlyStat g = 0 := by
  rw [readOnlyStat, summaryBits_plain h1 h2]
  rfl

/-- STAT of a group without bitmaps loses the written bits. -/
theorem clearStat_rd (h1 : g ≠ 1) (h2 : g ≠ 2) (w : Word) (s : State) :
    (clearStat g w.toNat s).rd (EVT_Gg_STAT g) = s.rd (EVT_Gg_STAT g) &&& ~~~w := by
  rw [clearStat_eq, afterClear_rd _ _ _ (statReg_ne_pend g), summaryBits_plain h1 h2]
  refine (rd_wr_same _ _ _).trans ?_
  rw [clearedStat, readOnlyStat_plain h1 h2, Nat.and_zero, Nat.add_zero, clearedWord]

theorem readOnlyStat_one {b : Nat} (hb : 12 ≤ b) : (readOnlyStat 1).testBit b = false := by
  have hro : readOnlyStat 1 = 2 ^ 12 - 1 := by decide
  rw [hro, Nat.testBit_two_pow_sub_one, decide_eq_false (by omega)]

theorem summaryBits_one {b : Nat} (hb : 12 ≤ b) : ∀ p ∈ summaryBits 1, p.1 < 32 ∧ p.1 ≠ b := by
  have hlow : ∀ p ∈ summaryBits 1, p.1 < 12 := by decide
  intro p hp
  have := hlow p hp
  omega

/-- The bits of STAT of group 1 that no bitmap has lose the written ones. -/
theorem clearStat_flag {b : Nat} (hlo : 12 ≤ b) (hhi : b < 32) (w : Word) (s : State) :
    (clearStat 1 w.toNat s).flag ⟨EVT_Gg_STAT 1, b, b⟩ = (s.flag ⟨EVT_Gg_STAT 1, b, b⟩ && !w.getLsbD b) := by
  have hread : (clearStat 1 w.toNat s).getF ⟨EVT_Gg_STAT 1, b, b⟩ =
      (s.wr (EVT_Gg_STAT 1) (clearedStat 1 w (s.rd (EVT_Gg_STAT 1)))).getF ⟨EVT_Gg_STAT 1, b, b⟩ := by
    rw [clearStat_eq]
    exact (getF_of_rd (afterClear_rd _ _ _ (statReg_ne_pend 1))).trans (statFollow_other (summaryBits_one hlo) _)
  refine (congrArg (· != 0) hread).trans ((flag_bit _ _ _).trans ?_)
  rw [rd_wr_same, flag_bit]
  exact clearedWord_masked _ _ _ _ (readOnlyStat_one hlo) hhi

/-! ## Bitmaps -/

theorem isEvtClear_sum (hj : j < 16) (hk : k < 16) : isEvtClear (EVT_SUM j k) = true := by
  simp [isEvtClear, EVT_Gg_STAT, EVT_SUM]
  omega

theorem evtClear_sum (hj : j < 16) (hk : k < 16) : evtClear (EVT_SUM j k) v s = clearSum j k v.toNat s := by
  have hbitmap : (EVT_SUM j k - EVT_SUM 0 0) / 0x40 = j := by simp only [EVT_SUM]; omega
  have hword : (EVT_SUM j k - EVT_SUM 0 0) % 0x40 / 4 = k := by simp only [EVT_SUM]; omega
  rw [evtClear, if_neg (by simp only [EVT_SUM]; omega), hbitmap, hword]

/-- The group of a bitmap. -/
def sumGroup (j : Nat) : Nat := if j < 12 then 1 else 2

theorem sumGroup_lt (j : Nat) : sumGroup j < 8 := by
  unfold sumGroup
  split <;> decide

theorem clearSum_eq (j k : Nat) (w : Word) (s : State) :
    clearSum j k w.toNat s = afterClear (sumGroup j) s.now (s.wr (EVT_SUM j k) (s.rd (EVT_SUM j k) &&& ~~~w)) := by
  rw [← clearedWord]
  rfl

theorem sumReg_ne_stat (hg : g < 8) : EVT_SUM j k ≠ EVT_Gg_STAT g := by
  unfold EVT_SUM EVT_Gg_STAT
  omega

theorem clearSum_within (hj : j < 16) (hk : k < 16) (w : Word) (s : State) : Within [(0x1000, 0x2000)] s (clearSum j k w.toNat s) := by
  rw [clearSum_eq]
  exact ((Within.refl _ s).wr _ ⟨_, .head _, by simp only [EVT_SUM]; omega⟩).step (afterClear_within (sumGroup_lt j) _ _)
    (by decide)

/-- A word of a bitmap loses the written bits. -/
theorem clearSum_rd (w : Word) (s : State) : (clearSum j k w.toNat s).rd (EVT_SUM j k) = s.rd (EVT_SUM j k) &&& ~~~w := by
  rw [clearSum_eq, afterClear_rd _ _ _ (sumReg_ne_pend j k), statFollow_rd (sumReg_ne_stat (sumGroup_lt j)), rd_wr_same]

/-- The bit of STAT that shows a bitmap. -/
theorem summaryBits_has (hj : j < 16) : ((if j < 12 then j else j - 12), j) ∈ summaryBits (sumGroup j) := by
  unfold sumGroup summaryBits
  by_cases h : j < 12
  · simp [h]
  · simp [h]
    omega

theorem summaryBits_nodup (g : Nat) : ((summaryBits g).map (·.1)).Nodup ∧ ∀ p ∈ summaryBits g, p.1 < 32 := by
  unfold summaryBits
  split
  · decide
  · split <;> decide

/-- The bit of STAT of a bitmap follows the bitmap (R376). -/
theorem clearSum_shows (hj : j < 16) (w : Word) (s : State) :
    (clearSum j k w.toNat s).flag (if j < 12 then ⟨EVT_Gg_STAT 1, j, j⟩ else ⟨EVT_Gg_STAT 2, j - 12, j - 12⟩) =
      (clearSum j k w.toNat s).summaryAny j := by
  have hfld : (if j < 12 then (⟨EVT_Gg_STAT 1, j, j⟩ : Fld) else ⟨EVT_Gg_STAT 2, j - 12, j - 12⟩) =
      ⟨EVT_Gg_STAT (sumGroup j), if j < 12 then j else j - 12, if j < 12 then j else j - 12⟩ := by
    unfold sumGroup
    split <;> rfl
  obtain ⟨hnodup, hlt⟩ := summaryBits_nodup (sumGroup j)
  rw [hfld, clearSum_eq, afterClear_summary (sumGroup_lt j)]
  exact (congrArg (· != 0) (getF_of_rd (afterClear_rd _ _ _ (statReg_ne_pend _)))).trans
    (statFollow_shows (sumGroup_lt j) hnodup hlt (summaryBits_has hj) _)

/-! ## What the commands give -/

theorem traced_clear_within (ht : Traced s u) {t : State} (h : Within [(0x1000, 0x2000)] u t) :
    Within [(0x1000, 0x2000), (0x68000, 0x70000)] s t :=
  ((Within.refl _ s).step ht.within (by decide)).step h (by decide)

theorem gives_clearStat (hg : g < 8) (h1 : g ≠ 1) (h2 : g ≠ 2) (hr : s.reaches m (EVT_Gg_STAT g) = true) :
    Gives (.evtClearWrite m (EVT_Gg_STAT g) v) s fun t =>
      t.rd (EVT_Gg_STAT g) = s.rd (EVT_Gg_STAT g) &&& ~~~v ∧ Within [(0x1000, 0x2000), (0x68000, 0x70000)] s t := by
  have ht := traceRegWrite_traced m (EVT_Gg_STAT g) v.toNat s
  refine ⟨_, exec_evtClearWrite (isEvtClear_stat hg) hr, ?_⟩
  rw [evtClear_stat hg]
  refine ⟨?_, traced_clear_within ht (clearStat_within hg _ _)⟩
  rw [clearStat_rd h1 h2, ht.within _ (by simp only [List.forall_mem_singleton, EVT_Gg_STAT]; omega)]

theorem gives_clearStat_one (hr : s.reaches m (EVT_Gg_STAT 1) = true) :
    Gives (.evtClearWrite m (EVT_Gg_STAT 1) v) s fun t =>
      (∀ b, 12 ≤ b → b < 32 → t.flag ⟨EVT_Gg_STAT 1, b, b⟩ = (s.flag ⟨EVT_Gg_STAT 1, b, b⟩ && !v.getLsbD b)) ∧
        Within [(0x1000, 0x2000), (0x68000, 0x70000)] s t := by
  have ht := traceRegWrite_traced m (EVT_Gg_STAT 1) v.toNat s
  refine ⟨_, exec_evtClearWrite (isEvtClear_stat (by decide)) hr, ?_⟩
  rw [evtClear_stat (by decide)]
  refine ⟨fun b hlo hhi => ?_, traced_clear_within ht (clearStat_within (by decide) _ _)⟩
  rw [clearStat_flag hlo hhi, ht.flag (show EVT_Gg_STAT 1 < 0x68000 by decide)]

theorem gives_clearSum (hj : j < 16) (hk : k < 16) (hr : s.reaches m (EVT_SUM j k) = true) :
    Gives (.evtClearWrite m (EVT_SUM j k) v) s fun t =>
      (t.rd (EVT_SUM j k) = s.rd (EVT_SUM j k) &&& ~~~v ∧
        t.flag (if j < 12 then ⟨EVT_Gg_STAT 1, j, j⟩ else ⟨EVT_Gg_STAT 2, j - 12, j - 12⟩) = t.summaryAny j) ∧
        Within [(0x1000, 0x2000), (0x68000, 0x70000)] s t := by
  have ht := traceRegWrite_traced m (EVT_SUM j k) v.toNat s
  refine ⟨_, exec_evtClearWrite (isEvtClear_sum hj hk) hr, ?_⟩
  rw [evtClear_sum hj hk]
  refine ⟨⟨?_, clearSum_shows hj _ _⟩, traced_clear_within ht (clearSum_within hj hk _ _)⟩
  rw [clearSum_rd, ht.within _ (by simp only [List.forall_mem_singleton, EVT_SUM]; omega)]

end

end Sys2Proof.Machine
end

section
/-! SUPPORT. The commands of raises, coalescing, checkpoints, wear and Sprout's counters (R374 to R378, R558, R563, R565). -/

set_option Elab.async false

namespace Sys2Proof.Machine

section
variable {s u : State} {m : Master} {e i j g n : Nat}

/-! ## Raises -/

theorem Heard.plain (hreset : (!s.pwr.inReset) = true) (hstage : decide (3 ≤ s.stage) = true) (hsource : isSource e = true)
    (hs : summaryOf e = none) : Heard s e i where
  reset := by simpa using hreset
  stage := of_decide_eq_true hstage
  source := hsource
  fits j hj := by rw [hs] at hj; cases hj

theorem gives_raise (h : Heard s e i) (hs : summaryOf e = none) :
    Gives (.eventRaise e i) s fun t =>
      (t.flag ⟨EVT_Gg_STAT (e / 32), e % 32, e % 32⟩ = true ∧ t.get64 (EVT_STAMP_LO e) (EVT_STAMP_HI e) = s.now ∧ t.getF (if e % 2 = 0 then EVT_INST_INST0 (e / 2) else EVT_INST_INST1 (e / 2)) = i % 65536 ∧ (s.flag ⟨EVT_Gg_STAT (e / 32), e % 32, e % 32⟩ = true → Counted (EVT_Gg_MERGE_CNT (e / 32)) s t) ∧ (s.flag ⟨EVT_Gg_STAT (e / 32), e % 32, e % 32⟩ = false → t.getF (EVT_Gg_MERGE_CNT (e / 32)) = s.getF (EVT_Gg_MERGE_CNT (e / 32)))) ∧ Within eventAreas s t := by
  obtain ⟨hstamp, hinst⟩ := h.stamp
  have hmerge := h.merge
  rw [show mergeFld e i = statFld e by rw [mergeFld, hs]] at hmerge
  exact ⟨_, rfl, ⟨h.stat, hstamp, hinst, hmerge⟩, raise_within e i s⟩

theorem gives_raise_summary (h : Heard s e i) (hs : summaryOf e = some j) :
    Gives (.eventRaise e i) s fun t =>
      (t.flag ⟨EVT_SUM j (i / 32), i % 32, i % 32⟩ = true ∧ t.flag ⟨EVT_Gg_STAT (e / 32), e % 32, e % 32⟩ = true ∧ (s.flag ⟨EVT_SUM j (i / 32), i % 32, i % 32⟩ = true → Counted (EVT_Gg_MERGE_CNT (e / 32)) s t)) ∧ Within eventAreas s t := by
  have hmerge := h.merge.1
  rw [show mergeFld e i = sumFld j i by rw [mergeFld, hs]] at hmerge
  exact ⟨_, rfl, ⟨h.summary hs, h.stat, hmerge⟩, raise_within e i s⟩

/-- Before NEGOTIATE nothing is raised (R382). -/
theorem gives_raise_early (hstage : s.stage < 3) : Gives (.eventRaise e i) s fun t => t = s :=
  ⟨_, rfl, by unfold raise raiseAt; rw [if_pos (by simp [hstage])]⟩

/-- What a raise has written before its record leaves the masks and the record sinks. -/
theorem raiseMarked_rd (he : e < 256) (hs : summaryOf e = none) {b : Nat} (hb : b = EVT_Gg_MASK_REC (e / 32) ∨ 0x2000 ≤ b) :
    (raiseStamp e i n (raiseBit e i s)).rd b = s.rd b := by
  obtain rfl | hhi := hb
  · have hmask : EVT_Gg_MASK_REC (e / 32) < 0x1200 ∧ EVT_Gg_MASK_REC (e / 32) ≠ EVT_Gg_STAT (e / 32) ∧
        EVT_Gg_MASK_REC (e / 32) ≠ EVT_Gg_MERGE (e / 32) := by
      unfold EVT_Gg_MASK_REC EVT_Gg_STAT EVT_Gg_MERGE
      omega
    obtain ⟨hlt, hstat, hmerge⟩ := hmask
    rw [raiseStamp_rd_stat _ _ _ _ hlt, raiseBit_plain hs]
    refine (rd_setF_other _ (statFld e) _ _ hstat).trans ?_
    split
    · exact rd_setF_other _ (EVT_Gg_MERGE_CNT (e / 32)) _ _ hmerge
    · rfl
  · rw [raiseStamp_rd _ _ _ _ _ he (.inr hhi), raiseBit_rd _ _ _ _ he (.inr hs) (.inr hhi)]

theorem gives_raise_record (h : Heard s e i) (hs : summaryOf e = none)
    (hmask : (s.rd (EVT_Gg_MASK_REC (e / 32))).toNat.testBit (e % 32) = true) (hside : s.flag NET_CAS_CTL_SIDE = true)
    (htype : (s.getF NET_CAS_CTL_TYPES).testBit 6 = true) (htrace : s.flag OBS_CTL_TRACE_EN = false) :
    Gives (.eventRaise e i) s fun t =>
      (t.recs.any fun r => r.1 == 0 && r.2.2 == ⟨7, s.now, 0, e, leNat 8 s.now ++ leNat 2 0 ++ [e, 0] ++ leNat 4 (if i = noInst then 0xFFFFFFFF else i)⟩) = true := by
  have hrd {b : Nat} (hb : b = EVT_Gg_MASK_REC (e / 32) ∨ 0x2000 ≤ b) := raiseMarked_rd (s := s) (i := i) (n := s.now) h.lt hs hb
  have hget {f : Fld} (hf : 0x2000 ≤ f.reg) : (raiseStamp e i s.now (raiseBit e i s)).getF f = s.getF f := getF_of_rd (hrd (.inr hf))
  obtain ⟨q, hq, hkind, hrec⟩ := raiseRec_joins (i := i) (n := s.now) ((congrArg (fun w => w.toNat.testBit (e % 32)) (hrd (.inl rfl))).trans hmask)
    ((congrArg (· != 0) (hget (f := NET_CAS_CTL_SIDE) (by decide))).trans hside)
    ((congrArg (·.testBit 6) (hget (f := NET_CAS_CTL_TYPES) (by decide))).trans htype)
  refine ⟨_, rfl, List.any_eq_true.mpr ⟨q, (h.recs hs htrace).symm ▸ hq, ?_⟩⟩
  rw [hkind, hrec]
  exact Bool.and_eq_true_iff.mpr ⟨rfl, beq_self_eq_true _⟩

/-! ## Coalescing -/

theorem advance_coalOf (n g r : Nat) (s : State) : (s.advance n).coalOf g r = s.coalOf g r := by
  rw [State.coalOf, advance_coal]
  rfl

theorem coalesced_within (g r n k : Nat) (s : State) : Within [(0x1000, 0x2000)] s (irqRefresh (releaseDue g r n (s.advance k))) := by
  intro a ha
  have hout := ha _ (List.mem_singleton_self _)
  have hpend : a ≠ EVT_PEND_IRQ.reg := by rintro rfl; simp [EVT_PEND_IRQ, EVT_PEND] at hout
  rw [irqRefresh_rd _ _ hpend, releaseDue_rd, advance_rd]

theorem gives_coalesce_msix (hg : g < 8) (hp : (s.coalOf g 1).pending = true) (hnew : (s.coalOf g 1).released = false)
    (hdue : s.coalDue g 1 (s.advance n).now = true) :
    Gives (.eventCoalesceRelease g 1 n) s fun t =>
      (t.msiQueue = s.msiQueue ++ [s.getF (EVT_Gg_ROUTE_VEC g)] ∧ (t.coalOf g 1).released = true ∧ t.coalOf g 0 = s.coalOf g 0) ∧
        Within [(0x1000, 0x2000)] s t := by
  refine ⟨_, coalesceRelease_next hg (by decide) hp, ⟨?_, coalesced_within _ _ _ _ _⟩⟩
  obtain ⟨hqueue, hreleased, hother⟩ := release_msix (s := s.advance n) (by rw [advance_coalOf]; exact hp) (by rw [advance_coalOf]; exact hnew)
  rw [releaseDue_eq, advance_coalDue, if_pos hdue, irqRefresh_msiQueue, irqRefresh_coalOf, irqRefresh_coalOf, hqueue, hother,
    advance_msiQueue, advance_getF, advance_coalOf]
  exact ⟨rfl, hreleased, rfl⟩

theorem release_flag (g r : Nat) (s : State) (f : Fld) : (release g r s).flag f = s.flag f :=
  congrArg (· != 0) (getF_of_rd (release_rd _ _ _ _))

theorem ktOwned_of_regs (h : u.regs = s.regs) : u.ktOwned = s.ktOwned := by
  unfold State.ktOwned State.feat
  rw [rd_of_regs h]

theorem gives_coalesce_irq (hg : g < 8) (hp : (s.coalOf g 0).pending = true) (hdue : s.coalDue g 0 (s.advance n).now = true)
    (hen : s.flag EVT_CTL_IRQ_EN = true) (hkt : s.ktOwned = false) :
    Gives (.eventCoalesceRelease g 0 n) s fun t =>
      ((t.coalOf g 0).released = true ∧ t.pins.irqLow = true ∧ t.msiQueue = s.msiQueue) ∧ Within [(0x1000, 0x2000)] s t := by
  refine ⟨_, coalesceRelease_next hg (by decide) hp, ⟨?_, coalesced_within _ _ _ _ _⟩⟩
  obtain ⟨hpend, hreleased, hqueue⟩ := release_irq (s := s.advance n) (by rw [advance_coalOf]; exact hp)
  have hregs : (release g 0 (s.advance n)).regs = s.regs := (release_regs _ _ _).trans (advance_regs _ _)
  rw [releaseDue_eq, advance_coalDue, if_pos hdue, irqRefresh_msiQueue, irqRefresh_coalOf, hqueue, advance_msiQueue]
  refine ⟨hreleased, irqRefresh_low hg hpend hreleased ?_ ((ktOwned_of_regs hregs).trans hkt), rfl⟩
  rw [release_flag, advance_flag, hen]

theorem gives_coalesce_waits {r : Nat} (hg : g < 8) (hr : r < 2) (hp : (s.coalOf g r).pending = true)
    (hdue : s.coalDue g r (s.advance n).now = false) :
    Gives (.eventCoalesceRelease g r n) s fun t => (t.coal = s.coal ∧ t.msiQueue = s.msiQueue) ∧ Within [(0x1000, 0x2000)] s t := by
  refine ⟨_, coalesceRelease_next hg hr hp, ⟨?_, coalesced_within _ _ _ _ _⟩⟩
  rw [releaseDue_eq, advance_coalDue, if_neg (by simp [hdue]), irqRefresh_coal, irqRefresh_msiQueue]
  exact ⟨advance_coal _ _, advance_msiQueue _ _⟩

/-! ## Checkpoints and wear -/

/-- The release instant of the last checkpoint. -/
def withCkpt (n : Nat) (u : State) : State := { u with fab := { u.fab with ckptAt := n } }

theorem withCkpt_rd (n : Nat) (u : State) (a : Nat) : (withCkpt n u).rd a = u.rd a := rfl

theorem withCkpt_mem (n : Nat) (u : State) : (withCkpt n u).mem = u.mem := rfl

/-- A checkpoint of every pod, this many of them refused (R558). -/
def checkpointed (x n : Nat) (u : State) : State := withCkpt n ((u.setF REL_JRN_ON 1).bumpBy REL_JRN_LOST x)

theorem exec_checkpointWrite {x : Nat} (hfeat : s.feat 18 = true) (hn : (n % Config.releasePeriod == 0) = true) :
    exec (.checkpointWrite x n) s = .next (checkpointed x n (s.advance n)) := by
  show execCheckpointWrite x n s = _
  rw [execCheckpointWrite, if_neg (by simp [hfeat, beq_iff_eq.mp hn])]
  rfl

theorem checkpointed_getF (x n : Nat) (u : State) (f : Fld) :
    (checkpointed x n u).getF f = ((u.setF REL_JRN_ON 1).bumpBy REL_JRN_LOST x).getF f := getF_of_rd (withCkpt_rd _ _ _)

theorem checkpointed_counts (x n : Nat) (u : State) :
    (checkpointed x n u).flag REL_JRN_ON = true ∧ (checkpointed x n u).getF REL_JRN_LOST = min (u.getF REL_JRN_LOST + x) 65535 := by
  have hon : (checkpointed x n u).getF REL_JRN_ON = 1 :=
    (checkpointed_getF _ _ _ _).trans
      ((getF_setF_apart _ _ _ _ (.inr ⟨by decide, by decide⟩)).trans (getF_setF_same _ _ _ (by decide) (by decide)))
  refine ⟨by rw [State.flag, hon]; rfl, ?_⟩
  rw [checkpointed_getF, getF_bumpBy_same _ _ _ (by decide), getF_setF_apart _ _ _ _ (.inr ⟨by decide, by decide⟩)]
  rfl

theorem checkpointed_mem (x n : Nat) (u : State) : (checkpointed x n u).mem = u.mem :=
  (withCkpt_mem _ _).trans ((bumpBy_mem _ _ _).trans (setF_mem _ _ _))

theorem checkpointed_within (x n : Nat) (u : State) : Within [(REL_JRN, REL_JRN + 4)] u (checkpointed x n u) := by
  intro a ha
  have hout := ha _ (List.mem_singleton_self _)
  have hne : a ≠ REL_JRN := by rintro rfl; simp at hout
  exact (withCkpt_rd _ _ _).trans ((rd_setF_other _ REL_JRN_LOST _ _ hne).trans (rd_setF_other _ REL_JRN_ON _ _ hne))

theorem gives_checkpoint {x : Nat} (hfeat : s.feat 18 = true) (hn : (n % Config.releasePeriod == 0) = true) :
    Gives (.checkpointWrite x n) s fun t =>
      (t.flag REL_JRN_ON = true ∧ t.getF REL_JRN_LOST = min (s.getF REL_JRN_LOST + x) 65535 ∧ t.fab.ckptAt = n ∧ t.mem = s.mem) ∧
        Within [(REL_JRN, REL_JRN + 4)] s t := by
  refine ⟨_, exec_checkpointWrite hfeat hn, ?_⟩
  obtain ⟨hon, hlost⟩ := checkpointed_counts x n (s.advance n)
  refine ⟨⟨hon, hlost.trans (by rw [advance_getF]), rfl, (checkpointed_mem _ _ _).trans (advance_mem _ _)⟩, fun a ha => ?_⟩
  rw [checkpointed_within x n _ a ha, advance_rd]

theorem gives_wear (hreset : s.pwr.inReset = false) :
    Gives (.wearSecond n) s fun t =>
      (t.fab.wear = s.fab.wear + wearOf (s.getI SYS_THERM_TMAX) ∧ t.get64 REL_WEAR_LO REL_WEAR_HI = (t.fab.wear / 2 ^ 32) % 2 ^ 64) ∧
        Within [(REL_WEAR_LO, REL_WEAR_LO + 4), (REL_WEAR_HI, REL_WEAR_HI + 4)] s t := by
  have hnext : exec (.wearSecond n) s =
      .next (let w := (s.advance n).fab.wear + wearOf ((s.advance n).getI SYS_THERM_TMAX)
        { (s.advance n).set64 REL_WEAR_LO REL_WEAR_HI (w / 4294967296) with fab := { (s.advance n).fab with wear := w } }) := by
    show execWearSecond n s = _
    rw [execWearSecond, if_neg (by simp [hreset])]
  refine ⟨_, hnext, ⟨?_, get64_set64 _ _ (by decide)⟩, ?_⟩
  · show (s.advance n).fab.wear + wearOf ((s.advance n).getI SYS_THERM_TMAX) = _
    rw [advance_fab, State.getI, State.getI, advance_getF]
  · intro a ha
    have hlo := ha (REL_WEAR_LO, REL_WEAR_LO + 4) (by decide)
    have hhi := ha (REL_WEAR_HI, REL_WEAR_HI + 4) (by decide)
    have hneLo : a ≠ REL_WEAR_LO := by rintro rfl; simp at hlo
    have hneHi : a ≠ REL_WEAR_HI := by rintro rfl; simp at hhi
    exact (rd_set64_other _ _ _ _ _ hneLo hneHi).trans (advance_rd _ _ _)

/-! ## Sprout's counters -/

theorem with_spillWp_cnt (x : State) (o : Obs) (n : Nat) : ({ x with obs := { o with spillWp := n } } : State).obs.cnt = o.cnt := rfl

theorem spillWrite_cnt (r : TraceRec) (s : State) : (spillWrite r s).obs.cnt = s.obs.cnt := by
  unfold spillWrite
  dsimp only
  split
  · rfl
  split
  · exact with_spillWp_cnt _ _ _
  · rw [bump_obs]

theorem traceWrite_cnt (r : TraceRec) (s : State) : (traceWrite r s).obs.cnt = s.obs.cnt := by
  unfold traceWrite
  dsimp only
  rw [spillWrite_cnt, setF_obs]

theorem trace_cnt (k x src d n : Nat) (s : State) : (trace k x src d n s).obs.cnt = s.obs.cnt := by
  unfold trace
  dsimp only
  split
  · rfl
  split
  · have hobs := bump_obs s OBS_TLOST_CNT
    generalize s.bump OBS_TLOST_CNT = u at hobs ⊢
    show u.obs.cnt = s.obs.cnt
    rw [hobs]
  · rw [traceWrite_cnt]
    split
    · exact traceWrite_cnt _ _
    · rfl

theorem traceRegWrite_cnt (a w : Nat) (s : State) : (traceRegWrite m a w s).obs.cnt = s.obs.cnt := by
  unfold traceRegWrite
  split
  · exact trace_cnt _ _ _ _ _ _
  · rfl

/-- The counter reads show values of the state. -/
def showCounts (v : State → Nat → Nat) (s : State) : State :=
  forEach (List.range 1024) (fun c s => s.set64 (OBS_CNT_LO c) (OBS_CNT_HI c) (v s c)) s

theorem obsSnapDo_eq (s : State) :
    obsSnapDo s = showCounts (fun s c => sget cntNone s.obs.cnt c) (s.set64 OBS_SNAP_TS_LO OBS_SNAP_TS_HI s.now) := rfl

theorem obsClearDo_eq (s : State) : obsClearDo s = showCounts (fun _ _ => 0) { s with obs := { s.obs with cnt := [] } } := rfl

variable {v : State → Nat → Nat}

theorem showCounts_obs (s : State) : (showCounts v s).obs = s.obs :=
  forEach_rel (R := fun s u => u.obs = s.obs) (fun _ => rfl) (fun h hv => hv.trans h) (fun _ _ _ => set64_obs _ _ _ _) s

theorem showCounts_within (s : State) : Within [(0x6a000, 0x6c000)] s (showCounts v s) := by
  refine forEach_rel (Within.refl _) (fun h hv => h.step hv (by decide)) (fun c hc x a ha => ?_) s
  have hout := ha _ (List.mem_singleton_self _)
  have hlt := List.mem_range.mp hc
  exact rd_set64_other _ _ _ _ _ (by unfold OBS_CNT_LO; omega) (by unfold OBS_CNT_HI; omega)

theorem showCounts_get64 {w : Obs → Nat → Nat} {c : Nat} (hc : c < 1024) (s : State) :
    (showCounts (fun s c => w s.obs c) s).get64 (OBS_CNT_LO c) (OBS_CNT_HI c) = w s.obs c % 2 ^ 64 := by
  have hne (c : Nat) : OBS_CNT_LO c ≠ OBS_CNT_HI c := by unfold OBS_CNT_LO OBS_CNT_HI; omega
  have hmade (x : State) : (x.set64 (OBS_CNT_LO c) (OBS_CNT_HI c) (w x.obs c)).get64 (OBS_CNT_LO c) (OBS_CNT_HI c) = w x.obs c % 2 ^ 64 :=
    get64_set64 _ _ (hne c)
  have hshown := forEach_holds (P := fun x => x.get64 (OBS_CNT_LO c) (OBS_CNT_HI c) = w x.obs c % 2 ^ 64)
    (f := fun c s => s.set64 (OBS_CNT_LO c) (OBS_CNT_HI c) (w s.obs c)) (List.mem_range.mpr hc)
    (fun x => by rw [hmade, set64_obs])
    (fun k x hx => by
      rw [set64_obs]
      by_cases hk : k = c
      · rw [hk]
        exact hmade x
      · rw [← hx, State.get64, rd_set64_other _ _ _ _ _ (by unfold OBS_CNT_LO; omega) (by unfold OBS_CNT_LO OBS_CNT_HI; omega),
          rd_set64_other _ _ _ _ _ (by unfold OBS_CNT_LO OBS_CNT_HI; omega) (by unfold OBS_CNT_HI; omega)]
        rfl) s
  rw [← showCounts_obs (v := fun s c => w s.obs c) s]
  exact hshown

theorem gives_snap (hr : s.reaches m OBS_SNAP = true) :
    Gives (.obsSnap m) s fun t =>
      (t.get64 OBS_SNAP_TS_LO OBS_SNAP_TS_HI = s.now ∧ t.obs.cnt = s.obs.cnt ∧ (∀ c, c < 1024 → t.get64 (OBS_CNT_LO c) (OBS_CNT_HI c) = sget cntNone s.obs.cnt c % 2 ^ 64)) ∧
        Within [(0x68000, 0x70000)] s t := by
  have ht := traceRegWrite_traced m OBS_SNAP 1 s
  have hcnt := traceRegWrite_cnt (m := m) OBS_SNAP 1 s
  have hnext : exec (.obsSnap m) s = .next (obsSnapDo (traceRegWrite m OBS_SNAP 1 s)) :=
    congrArg Host.Outcome.next (gated_reaches _ _ _ _ _ hr)
  refine ⟨_, hnext, ?_⟩
  generalize traceRegWrite m OBS_SNAP 1 s = u at ht hcnt ⊢
  rw [obsSnapDo_eq]
  refine ⟨⟨?_, ?_, fun c hc => ?_⟩, ?_⟩
  · rw [State.get64, showCounts_within _ _ (by decide), showCounts_within _ _ (by decide)]
    exact (get64_set64 u u.now (by decide)).trans ((Nat.mod_eq_of_lt u.syscnt.isLt).trans ht.now)
  · rw [showCounts_obs, set64_obs, hcnt]
  · rw [showCounts_get64 (w := fun o c => sget cntNone o.cnt c) hc, set64_obs, hcnt]
  · have hstamp : Within [(0x68000, 0x70000)] u (u.set64 OBS_SNAP_TS_LO OBS_SNAP_TS_HI u.now) := by
      intro a ha
      have hout := ha _ (List.mem_singleton_self _)
      exact rd_set64_other _ _ _ _ _ (by unfold OBS_SNAP_TS_LO; omega) (by unfold OBS_SNAP_TS_HI; omega)
    exact (ht.within.step hstamp (by decide)).step (showCounts_within _) (by decide)

theorem gives_clear (hr : s.reaches m OBS_SNAP = true) :
    Gives (.obsClear m) s fun t =>
      (t.obs.cnt = [] ∧ (∀ c, c < 1024 → t.get64 (OBS_CNT_LO c) (OBS_CNT_HI c) = 0)) ∧ Within [(0x68000, 0x70000)] s t := by
  have ht := traceRegWrite_traced m OBS_SNAP 2 s
  have hnext : exec (.obsClear m) s = .next (obsClearDo (traceRegWrite m OBS_SNAP 2 s)) :=
    congrArg Host.Outcome.next (gated_reaches _ _ _ _ _ hr)
  refine ⟨_, hnext, ?_⟩
  rw [obsClearDo_eq]
  refine ⟨⟨?_, fun c hc => ?_⟩, ?_⟩
  · rw [showCounts_obs]
  · exact showCounts_get64 (w := fun _ _ => 0) hc _
  · have hzero : Within [(0x68000, 0x70000)] s { traceRegWrite m OBS_SNAP 2 s with obs := { (traceRegWrite m OBS_SNAP 2 s).obs with cnt := [] } } :=
      ht.within.of_regs rfl
    exact hzero.step (showCounts_within _) (by decide)

end

end Sys2Proof.Machine
end

section
/-! SUPPORT. A released block on its way to its sinks (R24, R26, R355, R464). -/

set_option Elab.async false

namespace Sys2Proof.Machine

/-- From s to u blocks are handed to sinks: registers, Marrow and the producers of streams stay. -/
structure Handed (s u : State) : Prop where
  regs : u.regs = s.regs
  mem : u.mem = s.mem
  paths : u.paths = s.paths
  decs : u.decs = s.decs
  fol : u.fol = s.fol
  recs : ∃ l, u.recs = s.recs ++ l

section
variable {s u v : State} {p n k m : Nat}

theorem Handed.refl (s : State) : Handed s s := ⟨rfl, rfl, rfl, rfl, rfl, [], (List.append_nil _).symm⟩

theorem Handed.trans (h : Handed s u) (hv : Handed u v) : Handed s v := by
  obtain ⟨l, hl⟩ := h.recs
  obtain ⟨l', hl'⟩ := hv.recs
  exact ⟨hv.regs.trans h.regs, hv.mem.trans h.mem, hv.paths.trans h.paths, hv.decs.trans h.decs, hv.fol.trans h.fol, l ++ l',
    by rw [hl', hl, List.append_assoc]⟩

theorem Handed.setTx (h : Handed s u) (x : NetTx) : Handed s (u.setTx k x) := h.trans ⟨rfl, rfl, rfl, rfl, rfl, (Handed.refl u).recs⟩

theorem Handed.setIq (h : Handed s u) (x : NetIq) : Handed s (u.setIq k x) := h.trans ⟨rfl, rfl, rfl, rfl, rfl, (Handed.refl u).recs⟩

theorem Handed.setDma (h : Handed s u) (x : Dma) : Handed s (u.setDma k x) := h.trans ⟨rfl, rfl, rfl, rfl, rfl, (Handed.refl u).recs⟩

theorem Handed.setLane (h : Handed s u) (x : Lane) : Handed s (u.setLane k x) := h.trans ⟨rfl, rfl, rfl, rfl, rfl, (Handed.refl u).recs⟩

theorem Handed.forEach {l : List Nat} {f : Nat → State → State} (hf : ∀ k x, Handed x (f k x)) (s : State) :
    Handed s (Machine.forEach l f s) := forEach_rel .refl .trans (fun k _ => hf k) s

theorem dmaBlock_handed (sel i ts : Nat) (bytes : Option (List Nat)) (s : State) : Handed s (dmaBlock sel i ts bytes s) := by
  unfold dmaBlock
  dsimp only
  split
  · exact ⟨rfl, rfl, rfl, rfl, rfl, _, rfl⟩
  · exact Handed.forEach (fun k x => (Handed.refl x).setDma _) s

theorem netHandoff_handed (i t : Nat) (b : Option Block) (s : State) : Handed s (netHandoff i t b s) := by
  unfold netHandoff
  refine Handed.forEach (fun k x => ?_) s
  dsimp only
  split
  · exact (Handed.refl x).setTx _
  · exact (Handed.refl x).setTx _

theorem iqFeed_handed (i : Nat) (b : Block) (s : State) : Handed s (iqFeed i b s) := by
  unfold iqFeed
  refine Handed.forEach (fun k x => ?_) s
  dsimp only
  split
  · exact .refl x
  · exact (Handed.refl x).setIq _

theorem laneFeed_handed (kind i : Nat) (b : Block) (s : State) : Handed s (laneFeed kind i b s) :=
  Handed.forEach (fun _ x => (Handed.refl x).setLane _) s

theorem obsBlock_handed (kind i flags : Nat) (s : State) : Handed s (obsBlock kind i flags s) := by
  obtain ⟨o, h⟩ := obsCount_eq (fun w => bitsOf w 31 30 == 2 && bitsOf w 21 20 == kind && bitsOf w 9 0 == i
    && (bitsOf w 29 22 == 0 || (bitsOf w 29 22 &&& flags) != 0)) s
  rw [obsBlock, h]
  exact ⟨rfl, rfl, rfl, rfl, rfl, (Handed.refl s).recs⟩

theorem streamNote_handed (kind i : Nat) (b : Block) (s : State) : Handed s (streamNote kind i b s) :=
  ⟨rfl, rfl, rfl, rfl, rfl, (Handed.refl s).recs⟩

theorem releaseNote_handed (kind i t : Nat) (b : Option Block) (s : State) : Handed s (releaseNote kind i t b s) :=
  ⟨rfl, rfl, rfl, rfl, rfl, (Handed.refl s).recs⟩

theorem releaseNote_released (kind i t : Nat) (b : Option Block) (s : State) :
    (releaseNote kind i t b s).released kind i = ⟨some t, b⟩ := by
  rw [State.released, releaseNote, sget_sset_same]

theorem Handed.getF (h : Handed s u) (f : Fld) : u.getF f = s.getF f := getF_of_rd (rd_of_regs h.regs _)

theorem Handed.prog (h : Handed s u) (p : Nat) : u.prog p = s.prog p := by rw [State.prog, h.fol]; rfl

theorem Handed.path (h : Handed s u) (n : Nat) : u.path n = s.path n := by rw [State.path, h.paths]; rfl

theorem Handed.decoder (h : Handed s u) (n : Nat) : u.decoder n = s.decoder n := by rw [State.decoder, h.decs]; rfl

/-! ## Blocks that are late -/

/-- Where no block of a queue is late, none is dropped (R26). -/
theorem dropWhere_none {gone : Nat → Bool} {l : List (Nat × Option Block)} (h : ∀ q ∈ l, gone q.1 = false) :
    dropWhere gone l = (l, false, 0) := by
  have hcount : (l.countP fun b => gone b.1 && b.2.isSome) = 0 := List.countP_eq_zero.mpr fun q hq => by simp [h q hq]
  have hmap : (l.map fun b => if gone b.1 then (b.1, none) else b) = l :=
    (List.map_congr_left fun q hq => by rw [h q hq]; rfl).trans (List.map_id _)
  unfold dropWhere
  dsimp only
  rw [if_pos hcount, hmap]

theorem filter_late {gone : Nat → Bool} {l : List (Nat × Option Block)} (h : ∀ q ∈ l, gone q.1 = false) :
    (l.filter fun b => !gone b.1) = l ∧ (l.filter fun b => gone b.1) = [] :=
  ⟨List.filter_eq_self.mpr fun q hq => by rw [h q hq]; rfl, List.filter_eq_nil_iff.mpr fun q hq => by simp [h q hq]⟩

theorem progLate_none (h : ∀ q ∈ (s.prog p).formed, n ≤ q.1 + s.pgDelay p) :
    progLate p n s = (s.setProg p (s.prog p)).bumpBy (FOLp_CNT2_DROP p) 0 := by
  have hlate : ∀ q ∈ (s.prog p).formed, decide (q.1 + s.pgDelay p < n) = false := fun q hq => by
    have := h q hq
    exact decide_eq_false (by omega)
  obtain ⟨hkeep, hgone⟩ := filter_late (gone := fun x => decide (x + s.pgDelay p < n)) hlate
  unfold progLate
  dsimp only
  rw [dropWhere_none (gone := fun x => decide (x + s.pgDelay p < n)) hlate]
  dsimp only
  rw [hkeep, hgone, Bool.or_false]
  rfl

/-- Where no block of programme p is late, the release of one finds it as it was. -/
structure ProgAsBefore (p : Nat) (s u : State) : Prop where
  prog : u.prog p = s.prog p
  mem : u.mem = s.mem
  rd : ∀ a, a ≠ FOLp_CNT2 p → u.rd a = s.rd a
  drops : u.getF (FOLp_CNT2_DROP p) = s.getF (FOLp_CNT2_DROP p)

theorem getF_le_max (s : State) (f : Fld) : s.getF f ≤ 2 ^ (f.hi + 1 - f.lo) - 1 := by
  have h : s.getF f < 2 ^ (f.hi + 1 - f.lo) := bitsOf_lt _ _ _
  omega

theorem progLate_same (h : ∀ q ∈ (s.prog p).formed, n ≤ q.1 + s.pgDelay p) : ProgAsBefore p s (progLate p n s) := by
  rw [progLate_none h]
  refine ⟨?_, ?_, fun a ha => ?_, ?_⟩
  · rw [State.prog, bumpBy_fol]
    exact prog_setProg_same _ _ _
  · rw [bumpBy_mem]
    rfl
  · rw [State.bumpBy, rd_setF_other _ _ _ _ (show a ≠ (FOLp_CNT2_DROP p).reg from ha)]
    rfl
  · rw [getF_bumpBy_same _ _ _ ⟨by simp [FOLp_CNT2_DROP], by simp [FOLp_CNT2_DROP]⟩, setProg_getF, Nat.add_zero]
    exact Nat.min_eq_left (getF_le_max _ _)

theorem ProgAsBefore.getF (h : ProgAsBefore p s u) {f : Fld} (hf : f.reg ≠ FOLp_CNT2 p) : u.getF f = s.getF f := getF_of_rd (h.rd _ hf)

theorem ProgAsBefore.pgDelay (h : ProgAsBefore p s u) : u.pgDelay p = s.pgDelay p := by
  rw [State.pgDelay, h.getF (show FOLp_DELAY p ≠ FOLp_CNT2 p by unfold FOLp_DELAY FOLp_CNT2; omega)]
  rfl

theorem ProgAsBefore.folState (h : ProgAsBefore p s u) : u.folState p = s.folState p :=
  h.getF (show FOLp_STAT p ≠ FOLp_CNT2 p by unfold FOLp_STAT FOLp_CNT2; omega)

/-! ## A programme's block -/

/-- The bridge of R104 changes, of a programme, its own ramps. -/
theorem bridgeBlock_keeps (p : Nat) (b : Block) (s : State) :
    ((bridgeBlock p b s).2.prog p).formed = (s.prog p).formed ∧ ((bridgeBlock p b s).2.prog p).active = (s.prog p).active ∧
      (bridgeBlock p b s).2.mem = s.mem := by
  have hset {w : Prog} (hf : w.formed = (s.prog p).formed) (ha : w.active = (s.prog p).active) :
      ((s.setProg p w).prog p).formed = (s.prog p).formed ∧ ((s.setProg p w).prog p).active = (s.prog p).active ∧
        (s.setProg p w).mem = s.mem := by
    rw [prog_setProg_same]
    exact ⟨hf, ha, rfl⟩
  unfold bridgeBlock
  extract_lets w ch sus since ended left
  split
  · exact hset rfl rfl
  split
  · exact hset rfl rfl
  split
  · exact hset rfl rfl
  · exact hset rfl rfl

/-- A programme's block reaches its sinks, and is noted. -/
theorem progDeliver_gives (p t : Nat) (b : Option Block) (s : State) :
    ((progDeliver p t b s).prog p).formed = (s.prog p).formed ∧ ((progDeliver p t b s).prog p).active = (s.prog p).active ∧
      (progDeliver p t b s).mem = s.mem ∧ ((progDeliver p t b s).released 1 p).at_ = some t ∧
      ((progDeliver p t b s).released 1 p).blk.map (fun x => (x.ts, x.flags)) = b.map fun x => (x.ts, x.flags) := by
  cases b with
  | none =>
    have h : Handed s (progDeliver p t none s) :=
      ((netHandoff_handed _ _ _ s).trans (dmaBlock_handed _ _ _ _ _)).trans (releaseNote_handed _ _ _ _ _)
    have hreleased : (progDeliver p t none s).released 1 p = ⟨some t, none⟩ := releaseNote_released _ _ _ _ _
    rw [h.prog, h.mem, hreleased]
    exact ⟨rfl, rfl, rfl, rfl, rfl⟩
  | some b =>
    obtain ⟨hformed, hactive, hmem⟩ := bridgeBlock_keeps p b s
    have hreleased : (progDeliver p t (some b) s).released 1 p = ⟨some t, some ⟨b.ts, b.flags, (bridgeBlock p b s).1⟩⟩ :=
      releaseNote_released _ _ _ _ _
    have h : Handed (bridgeBlock p b s).2 (progDeliver p t (some b) s) :=
      ((((obsBlock_handed _ _ _ _).trans (netHandoff_handed _ _ _ _)).trans (dmaBlock_handed _ _ _ _ _)).trans
        (laneFeed_handed _ _ _ _)).trans (releaseNote_handed _ _ _ _ _)
    rw [h.prog, h.mem, hreleased]
    exact ⟨hformed, hactive, hmem, rfl, rfl⟩

theorem progDeliver_none_handed (p t : Nat) (s : State) : Handed s (progDeliver p t none s) :=
  ((netHandoff_handed _ _ _ s).trans (dmaBlock_handed _ _ _ _ _)).trans (releaseNote_handed _ _ _ _ _)

/-- The release of the oldest block of a programme (R24, R26). -/
theorem progRelease_front {ts : Nat} {b : Option Block} {rest : List (Nat × Option Block)} (hnow : s.now ≤ n)
    (hformed : (s.prog p).formed = (ts, b) :: rest) (hdue : ts + s.pgDelay p = n)
    (hrest : ∀ q ∈ rest, n ≤ q.1 + s.pgDelay p) :
    ∃ u, (u.prog p).formed = rest ∧ (u.prog p).active = (s.prog p).active ∧ u.mem = s.mem ∧
      progRelease p n s = progDeliver p n b u := by
  have hlate : ∀ q ∈ (s.prog p).formed, n ≤ q.1 + s.pgDelay p := by
    rw [hformed]
    exact List.forall_mem_cons.mpr ⟨hdue.ge, hrest⟩
  have hsame := progLate_same hlate
  have hfront : ((progLate p n s).prog p).formed = (ts, b) :: rest := by rw [hsame.prog, hformed]
  have hat : ts + (progLate p n s).pgDelay p = n := by rw [hsame.pgDelay, hdue]
  refine ⟨(progLate p n s).setProg p { (progLate p n s).prog p with formed := rest }, ?_, ?_, hsame.mem, ?_⟩
  · rw [prog_setProg_same]
  · rw [prog_setProg_same, hsame.prog]
  · unfold progRelease
    rw [max_eq_left hnow]
    generalize progLate p n s = u at hfront hat ⊢
    dsimp only
    rw [hfront]
    simp only [List.isEmpty_cons, Bool.and_false, Bool.false_and, Bool.false_eq_true, if_false]
    rw [hfront]
    dsimp only
    rw [if_pos hat]

/-- A programme whose block due now has not been formed drops it (R26, R252). -/
theorem progRelease_due (hnow : s.now ≤ n) (hstate : 2 ≤ s.folState p) (hstop : ((s.prog p).stopping != some 0) = true)
    (hformed : (s.prog p).formed = []) (hdue : (s.prog p).nextTs + s.pgDelay p = n) :
    ∃ u, ProgAsBefore p s u ∧ progRelease p n s =
      match ((formBlock p false u).prog p).formed with
      | b :: rest => if b.1 + (formBlock p false u).pgDelay p = n then
          progDeliver p n b.2 ((formBlock p false u).setProg p { (formBlock p false u).prog p with formed := rest })
        else formBlock p false u
      | [] => formBlock p false u := by
  have hsame := progLate_same (s := s) (p := p) (n := n) (by rw [hformed]; exact List.forall_mem_nil _)
  refine ⟨_, hsame, ?_⟩
  have hv : (decide (2 ≤ (progLate p n s).folState p) && (((progLate p n s).prog p).stopping != some 0) &&
      ((progLate p n s).prog p).formed.isEmpty && decide (((progLate p n s).prog p).nextTs + (progLate p n s).pgDelay p = n)) = true := by
    rw [hsame.folState, hsame.prog, hsame.pgDelay, hstop, hformed, decide_eq_true hstate, decide_eq_true hdue]
    rfl
  unfold progRelease
  rw [max_eq_left hnow]
  generalize progLate p n s = u at hv ⊢
  dsimp only
  rw [if_pos hv] <;> rfl

end

end Sys2Proof.Machine
end

section
/-! SUPPORT. The release of a programme's and of a path's block (R23, R24, R26, R252, R355). -/

set_option Elab.async false

namespace Sys2Proof.Machine

section
variable {s u v : State} {p n k q i : Nat}

/-! ## A programme's block that was not formed -/

/-- From s to u programme p's blocks, their delay and the count of dropped ones stay. -/
structure BlocksKept (p : Nat) (s u : State) : Prop where
  formed : (u.prog p).formed = (s.prog p).formed
  nextTs : (u.prog p).nextTs = (s.prog p).nextTs
  drops : u.getF (FOLp_CNT2_DROP p) = s.getF (FOLp_CNT2_DROP p)
  delay : u.pgDelay p = s.pgDelay p

theorem BlocksKept.refl (p : Nat) (s : State) : BlocksKept p s s := ⟨rfl, rfl, rfl, rfl⟩

theorem BlocksKept.trans (h : BlocksKept p s u) (hv : BlocksKept p u v) : BlocksKept p s v :=
  ⟨hv.formed.trans h.formed, hv.nextTs.trans h.nextTs, hv.drops.trans h.drops, hv.delay.trans h.delay⟩

/-- The count of dropped blocks and the delay lie in registers of their own. -/
theorem BlocksKept.of_rd (hformed : (u.prog p).formed = (s.prog p).formed) (hnext : (u.prog p).nextTs = (s.prog p).nextTs)
    (hrd : ∀ a, a = FOLp_CNT2 p ∨ a = FOLp_DELAY p → u.rd a = s.rd a) : BlocksKept p s u :=
  ⟨hformed, hnext, getF_of_rd (hrd _ (.inl rfl)),
    congrArg (· * 81920) (getF_of_rd (f := FOLp_DELAY_SMP p) (hrd _ (.inr rfl)))⟩

theorem OutputTaken.blocksKept (h : OutputTaken p s u) : BlocksKept p s u :=
  .of_rd h.formed h.nextTs fun a ha => h.rd a (by unfold FOLp_STAT FOLp_CNT2 FOLp_DELAY at *; omega)

theorem ProgAsBefore.blocksKept (h : ProgAsBefore p s u) : BlocksKept p s u :=
  ⟨by rw [h.prog], by rw [h.prog], h.drops, h.pgDelay⟩

theorem hardTake_blocksKept (hp : p < 256) (s : State) : BlocksKept p s (hardTake p s) := by
  unfold hardTake
  extract_lets w
  split
  · exact .refl p s
  next t b x _ =>
    split
    next hdue =>
      have hset (y : Prog) (hy : y.formed = w.formed) (hn : y.nextTs = w.nextTs) :
          BlocksKept p s ((s.setProg p y).setF (FOLp_STAT_SILENT p) 0) := by
        have hprog : ((s.setProg p y).setF (FOLp_STAT_SILENT p) 0).prog p = y := by
          rw [State.prog, setF_fol]
          exact prog_setProg_same _ _ _
        refine .of_rd (by rw [hprog, hy]) (by rw [hprog, hn]) fun a ha => ?_
        exact rd_setF_other (s.setProg p y) (FOLp_STAT_SILENT p) _ _ (show a ≠ FOLp_STAT p by unfold FOLp_STAT FOLp_CNT2 FOLp_DELAY at *; omega)
      have hleft (x : State) : BlocksKept p x (dropReplaced p x) := by
        have h := dropReplaced_entries p x
        obtain ⟨l, hl⟩ := h.prog
        refine .of_rd (by rw [hl]) (by rw [hl]) fun a ha => h.within a ?_
        simp only [List.forall_mem_singleton]
        unfold FOLp_CNT2 FOLp_DELAY at ha
        omega
      exact (hset _ (by simp) (by simp)).trans (hleft _)
    next => exact .refl p s

theorem outputTaken_blocksKept (hp : p < 256) (s : State) : BlocksKept p s (outputTaken p s) := by
  have hlost : BlocksKept p s (if s.flag (FOLp_STAT_ALLLOST p) then lostShow p s else s) := by
    split
    case isTrue h => exact (lostShow_output h).blocksKept
    case isFalse => exact .refl p s
  exact (hlost.trans (hardTake_blocksKept hp _)).trans (muteTake_output p _).blocksKept

/-- A block that is not complete is dropped and counted, whatever has become of the output (R252). -/
theorem formBlock_dropped (hp : p < 256) (s : State) :
    ((formBlock p false s).prog p).formed = (s.prog p).formed ++ [((s.prog p).nextTs, none)] ∧
      ((formBlock p false s).prog p).dropNext = true ∧ Counted (FOLp_CNT2_DROP p) s (formBlock p false s) ∧
      (formBlock p false s).pgDelay p = s.pgDelay p := by
  have htaken := outputTaken_blocksKept hp s
  have hprog : (formBlock p false s).prog p = ((outputTaken p s).prog p).passed none true := by
    rw [formBlock_eq_dropped, folShow_prog, State.prog, bump_fol]
    exact prog_setProg_same _ _ _
  have hcounted : Counted (FOLp_CNT2_DROP p) s (formBlock p false s) :=
    folShow_counted hp (.inr rfl) ((counted_bump _ (FOLp_CNT2_DROP p) (by simp [FOLp_CNT2_DROP])
      (by simp [FOLp_CNT2_DROP])).of_getF ((setProg_getF _ _ _ _).trans htaken.drops))
  have hdelay : (formBlock p false s).pgDelay p = (outputTaken p s).pgDelay p := by
    have hreg : (FOLp_DELAY_SMP p).reg = 0x28008 + 0x40 * p := rfl
    have hcnt : (FOLp_CNT2_DROP p).reg = 0x2803c + 0x40 * p := rfl
    have hstat : FOLp_STAT p = 0x28014 + 0x40 * p := rfl
    have hinfo : FOL_CINFO0 = 0x2c014 := rfl
    have hget : (formBlock p false s).getF (FOLp_DELAY_SMP p) = (outputTaken p s).getF (FOLp_DELAY_SMP p) := by
      rw [formBlock_eq_dropped, (folShow_within p _).getF _ (List.forall_mem_cons.mpr ⟨.inl (by omega), List.forall_mem_singleton.mpr (.inl (by omega))⟩),
        getF_bump_apart _ _ _ (.inl (by omega)), setProg_getF]
    exact congrArg (· * 81920) hget
  rw [hprog, ← htaken.formed, ← htaken.nextTs]
  exact ⟨rfl, rfl, hcounted, hdelay.trans htaken.delay⟩

theorem now_advance_le (h : s.now ≤ n) : (s.advance n).now ≤ n := by
  unfold State.advance
  split
  · exact (BitVec.toNat_ofNat n 64).trans_le (Nat.mod_le _ _)
  · exact h

theorem exec_blockRelease {kind : Nat} {au : Option (List (Int × Int))} (hstage : (s.stage == 4) = true) :
    exec (.blockRelease kind i n au) s = .next (if kind = 1 && i < 512 then pathRelease i n (s.advance n)
      else if kind = 2 && i < 128 then decRelease i n au (s.advance n)
      else if kind = 3 && i < 256 then progRelease i n (s.advance n) else s) := by
  show execBlockRelease kind i n au s = _
  unfold execBlockRelease
  dsimp only
  rw [if_neg (by simp [beq_iff_eq.mp hstage])]

theorem advance_prog (p n : Nat) (s : State) : (s.advance n).prog p = s.prog p := by rw [State.prog, advance_fol]; rfl

theorem advance_pgDelay (p n : Nat) (s : State) : (s.advance n).pgDelay p = s.pgDelay p := by rw [State.pgDelay, advance_getF]; rfl

theorem advance_folState (p n : Nat) (s : State) : (s.advance n).folState p = s.folState p := advance_getF _ _ _

theorem exec_progRelease {au : Option (List (Int × Int))} (hstage : (s.stage == 4) = true) (hp : p < 256) :
    exec (.blockRelease 3 p n au) s = .next (progRelease p n (s.advance n)) := by
  rw [exec_blockRelease hstage, if_neg (by simp), if_neg (by simp), if_pos (by simp [hp])]

theorem gives_progRelease {ts : Nat} {au : Option (List (Int × Int))} {b : Option Block} {rest : List (Nat × Option Block)}
    (hstage : (s.stage == 4) = true) (hp : p < 256) (hformed : (s.prog p).formed = (ts, b) :: rest) (hdue : ts + s.pgDelay p = n)
    (hnow : s.now ≤ n) (hrest : ∀ q ∈ rest, n ≤ q.1 + s.pgDelay p) :
    Gives (.blockRelease 3 p n au) s fun t =>
      (t.prog p).formed = rest ∧ (t.released 1 p).at_ = some n ∧ (t.released 1 p).blk.map (fun x => (x.ts, x.flags)) = b.map (fun x => (x.ts, x.flags)) ∧ (t.prog p).active = (s.prog p).active ∧ t.mem = s.mem := by
  obtain ⟨u, hf, ha, hm, heq⟩ := progRelease_front (s := s.advance n) (n := n) (now_advance_le hnow)
    (by rw [advance_prog]; exact hformed) (by rw [advance_pgDelay]; exact hdue) (by rw [advance_pgDelay]; exact hrest)
  rw [advance_prog] at ha
  rw [advance_mem] at hm
  obtain ⟨hformed', hactive', hmem', hat, hblk⟩ := progDeliver_gives p n b u
  refine ⟨_, exec_progRelease hstage hp, ?_⟩
  rw [heq]
  exact ⟨hformed'.trans hf, hat, hblk, hactive'.trans ha, hmem'.trans hm⟩

theorem gives_progDrop {au : Option (List (Int × Int))} (hstage : (s.stage == 4) = true) (hp : p < 256) (hstate : 2 ≤ s.folState p)
    (hstop : ((s.prog p).stopping != some 0) = true) (hformed : (s.prog p).formed = []) (hdue : (s.prog p).nextTs + s.pgDelay p = n)
    (hnow : s.now ≤ n) :
    Gives (.blockRelease 3 p n au) s fun t =>
      Counted (FOLp_CNT2_DROP p) s t ∧ (t.prog p).dropNext = true ∧ (t.prog p).formed = [] ∧ t.released 1 p = ⟨some n, none⟩ := by
  obtain ⟨u, hsame, heq⟩ := progRelease_due (s := s.advance n) (n := n) (p := p) (now_advance_le hnow)
    (by rw [advance_folState]; exact hstate) (by rw [advance_prog]; exact hstop) (by rw [advance_prog]; exact hformed)
    (by rw [advance_prog, advance_pgDelay]; exact hdue)
  obtain ⟨hline, hdrop, hcount, hdelay⟩ := formBlock_dropped hp u
  have hblocks := hsame.blocksKept
  rw [hblocks.formed, hblocks.nextTs, advance_prog, hformed, List.nil_append] at hline
  have hat : (s.prog p).nextTs + (formBlock p false u).pgDelay p = n := by rw [hdelay, hblocks.delay, advance_pgDelay, hdue]
  have hdrops : u.getF (FOLp_CNT2_DROP p) = s.getF (FOLp_CNT2_DROP p) := hblocks.drops.trans (advance_getF _ _ _)
  refine ⟨_, exec_progRelease hstage hp, ?_⟩
  rw [heq]
  have hcount' := hcount.of_getF hdrops
  generalize formBlock p false u = x at hline hdrop hcount' hat ⊢
  rw [hline]
  dsimp only
  rw [if_pos hat]
  have hgiven := progDeliver_none_handed p n (x.setProg p { x.prog p with formed := [] })
  refine ⟨(hgiven.getF _).trans hcount', ?_, ?_, releaseNote_released _ _ _ _ _⟩
  · rw [hgiven.prog, prog_setProg_same]
    exact hdrop
  · rw [hgiven.prog, prog_setProg_same]

/-! ## A path's block -/

theorem queueReset (hq : q < 64) : bitsOf (regReset (PCI_Qq_CTL q)).toNat (PCI_Qq_CTL_EN q).hi (PCI_Qq_CTL_EN q).lo = 0 := by
  have hall : ∀ q < 64, bitsOf (regReset (PCI_Qq_CTL q)).toNat (PCI_Qq_CTL_EN q).hi (PCI_Qq_CTL_EN q).lo = 0 := by decide +kernel
  exact hall q hq

/-- An enabled queue is among those whose registers were written. -/
theorem enabled_touched (hq : q < 64) (hen : s.flag (PCI_Qq_CTL_EN q) = true) : q ∈ s.touchedQueues := by
  refine List.mem_filter.mpr ⟨List.mem_range.mpr hq, List.any_eq_true.mpr ?_⟩
  obtain hmem | hreset := sget_mem_or regReset s.regs (PCI_Qq_CTL q)
  · exact ⟨_, hmem, beq_self_eq_true _⟩
  · have hzero : s.getF (PCI_Qq_CTL_EN q) = 0 := by
      show bitsOf (sget regReset s.regs (PCI_Qq_CTL q)).toNat _ _ = 0
      rw [hreset]
      exact queueReset hq
    rw [State.flag, hzero] at hen
    cases hen

/-- Queue q takes the blocks of number i of a stream (R355). -/
structure Takes (s : State) (q sel i : Nat) : Prop where
  lt : q < 64
  enabled : s.flag (PCI_Qq_CTL_EN q) = true
  kind : s.getF (PCI_Qq_CTL_KIND q) = 1
  sel : s.getF (PCI_Qq_SRC_SEL q) = sel
  first : s.getF (PCI_Qq_SRC_FIRST q) ≤ i
  last : i < s.getF (PCI_Qq_SRC_FIRST q) + s.getF (PCI_Qq_SRC_COUNT q)

theorem Takes.of_rd {sel : Nat} (h : Takes s q sel i) (hrd : ∀ a, 0x3d000 ≤ a → u.rd a = s.rd a) : Takes u q sel i := by
  have hget {f : Fld} (hf : 0x3d000 ≤ f.reg) : u.getF f = s.getF f := getF_of_rd (hrd _ hf)
  have hctl : 0x3d000 ≤ PCI_Qq_CTL q := by unfold PCI_Qq_CTL; omega
  have hsrc : 0x3d000 ≤ PCI_Qq_SRC q := by unfold PCI_Qq_SRC; omega
  exact ⟨h.lt, (congrArg (· != 0) (hget (f := PCI_Qq_CTL_EN q) hctl)).trans h.enabled, (hget hctl).trans h.kind, (hget hsrc).trans h.sel,
    (hget (f := PCI_Qq_SRC_FIRST q) hsrc).trans_le h.first,
    h.last.trans_eq (by rw [hget (f := PCI_Qq_SRC_FIRST q) hsrc, hget (f := PCI_Qq_SRC_COUNT q) hsrc])⟩

theorem Takes.record {sel : Nat} (h : Takes s q sel i) (ts : Nat) (l : List Nat) :
    (1 + q, s.now, (⟨0x21, ts, l.getD 8 0, i, l⟩ : Rec)) ∈ (dmaBlock sel i ts (some l) s).recs := by
  unfold dmaBlock
  refine List.mem_append_right _ (List.mem_map.mpr ⟨q, List.mem_filter.mpr ⟨enabled_touched h.lt h.enabled, ?_⟩, rfl⟩)
  rw [h.enabled, h.kind, h.sel, decide_eq_true h.first, decide_eq_true h.last]
  simp

theorem pathLate_none (h : ∀ q ∈ (s.path k).formed, n ≤ q.1) :
    pathLate k n s = (s.setPath k (s.path k)).bumpBy (PTHn_DROP_CNT k) 0 := by
  have hlate : ∀ q ∈ (s.path k).formed, decide (q.1 < n) = false := fun q hq => by
    have := h q hq
    exact decide_eq_false (by omega)
  obtain ⟨hkeep, hgone⟩ := filter_late (gone := fun x => decide (x < n)) hlate
  unfold pathLate
  dsimp only
  rw [dropWhere_none (gone := fun x => decide (x < n)) hlate]
  dsimp only
  rw [hkeep, hgone, Bool.or_false]
  rfl

/-- Where no block of a path is late, its release finds its blocks, Marrow and the queues as they were. -/
theorem pathLate_same (hk : k < 512) (h : ∀ q ∈ (s.path k).formed, n ≤ q.1) :
    (pathLate k n s).path k = s.path k ∧ (pathLate k n s).mem = s.mem ∧ ∀ a, 0x3d000 ≤ a → (pathLate k n s).rd a = s.rd a := by
  rw [pathLate_none h]
  refine ⟨?_, ?_, fun a ha => ?_⟩
  · rw [State.path, bumpBy_paths]
    exact path_setPath_same _ _ _
  · rw [bumpBy_mem]
    rfl
  · rw [State.bumpBy, rd_setF_other _ _ _ _ (show a ≠ PTHn_DROP k by unfold PTHn_DROP; omega)]
    rfl

theorem runHead_formed (k : Nat) (s : State) : ((runHead k s).path k).formed = (s.path k).formed := by
  unfold runHead
  dsimp only
  rw [path_setPath_same]

theorem runHead_mem (k : Nat) (s : State) : (runHead k s).mem = s.mem := rfl

theorem runHead_rd (k : Nat) (s : State) (a : Nat) : (runHead k s).rd a = s.rd a := rfl

theorem pathRelease_front (hk : k < 512) {b : Option Block} {rest : List (Nat × Option Block)} (hnow : s.now ≤ n)
    (hformed : (s.path k).formed = (n, b) :: rest) (hrest : ∀ q ∈ rest, n ≤ q.1) :
    ∃ u, (u.path k).formed = rest ∧ u.mem = s.mem ∧ (∀ a, 0x3d000 ≤ a → u.rd a = s.rd a) ∧ pathRelease k n s = pathDeliver k n b u := by
  obtain ⟨hpath, hmem, hrd⟩ := pathLate_same (n := n) hk (by rw [hformed]; exact List.forall_mem_cons.mpr ⟨le_rfl, hrest⟩)
  have hfront : ((runHead k (pathLate k n s)).path k).formed = (n, b) :: rest := by rw [runHead_formed, hpath, hformed]
  have hmem' := (runHead_mem k (pathLate k n s)).trans hmem
  have hrd' (a : Nat) (ha : 0x3d000 ≤ a) := (runHead_rd k (pathLate k n s) a).trans (hrd a ha)
  unfold pathRelease
  rw [max_eq_left hnow]
  generalize runHead k (pathLate k n s) = u at hfront hmem' hrd' ⊢
  refine ⟨u.setPath k { u.path k with formed := rest }, ?_, hmem', hrd', ?_⟩
  · rw [path_setPath_same]
  · dsimp only
    rw [hfront]
    dsimp only
    rw [hfront]
    dsimp only
    rw [if_pos rfl]

theorem pathDeliver_some (k t : Nat) (b : Block) (s : State) : ∃ (ps : Path) (bytes : List Nat), ps.formed = (s.path k).formed ∧
    pathDeliver k t (some b) s =
      releaseNote 2 k t (some b) (iqFeed k b (dmaBlock 9 k b.ts (some bytes) (s.setPath k ps))) := by
  refine ⟨{ s.path k with ramps := (s.path k).ramps.filter fun q => decide (t < q.1) }, ?_, rfl, ?_⟩
  rotate_left
  · unfold pathDeliver
    rfl

theorem setPath_handed (k : Nat) (ps : Path) (s : State) :
    (s.setPath k ps).mem = s.mem ∧ ∀ a, (s.setPath k ps).rd a = s.rd a := ⟨rfl, fun _ => rfl⟩

/-- A path's block reaches its sinks, and is noted. -/
theorem pathDeliver_gives (hq : Takes s q 9 k) (t : Nat) (b : Block) :
    ((pathDeliver k t (some b) s).recs.any fun r => r.1 == 1 + q && r.2.2.inst == k && r.2.2.ts == b.ts) = true ∧
      ((pathDeliver k t (some b) s).path k).formed = (s.path k).formed ∧
      (pathDeliver k t (some b) s).released 2 k = ⟨some t, some b⟩ ∧ (pathDeliver k t (some b) s).mem = s.mem := by
  obtain ⟨ps, bytes, hformed, heq⟩ := pathDeliver_some k t b s
  obtain ⟨hmem, hrd⟩ := setPath_handed k ps s
  have hx := hq.of_rd fun a _ => hrd a
  have hpath : (s.setPath k ps).path k = ps := path_setPath_same _ _ _
  rw [heq]
  generalize s.setPath k ps = x at hx hpath hmem ⊢
  have hrecord := hx.record b.ts bytes
  have hd := dmaBlock_handed 9 k b.ts (some bytes) x
  have hafter := (iqFeed_handed k b (dmaBlock 9 k b.ts (some bytes) x)).trans (releaseNote_handed 2 k t (some b) _)
  obtain ⟨l, hl⟩ := hafter.recs
  refine ⟨List.any_eq_true.mpr ⟨_, hl ▸ List.mem_append_left l hrecord, by simp⟩, ?_, releaseNote_released _ _ _ _ _, ?_⟩
  · rw [hafter.path, hd.path, hpath, hformed]
  · rw [hafter.mem, hd.mem, hmem]

theorem gives_pathRelease {au : Option (List (Int × Int))} {b : Block} {rest : List (Nat × Option Block)}
    (hstage : (s.stage == 4) = true) (hk : k < 512) (hformed : (s.path k).formed = (n, some b) :: rest) (hnow : s.now ≤ n)
    (hrest : ∀ x ∈ rest, n ≤ x.1) (hq : Takes s q 9 k) :
    Gives (.blockRelease 1 k n au) s fun t =>
      (t.recs.any fun r => r.1 == 1 + q && r.2.2.inst == k && r.2.2.ts == b.ts) = true ∧ (t.path k).formed = rest ∧ t.released 2 k = ⟨some n, some b⟩ ∧ t.mem = s.mem := by
  have hpath : (s.advance n).path k = s.path k := by rw [State.path, advance_paths]; rfl
  obtain ⟨u, hf, hm, hrd, heq⟩ := pathRelease_front (s := s.advance n) hk (now_advance_le hnow) (by rw [hpath]; exact hformed) hrest
  have hnext : exec (.blockRelease 1 k n au) s = .next (pathRelease k n (s.advance n)) := by
    rw [exec_blockRelease hstage, if_pos (by simp [hk])]
  refine ⟨_, hnext, ?_⟩
  obtain ⟨hrec, hformed', hreleased, hmem⟩ := pathDeliver_gives (hq.of_rd fun a ha => (hrd a ha).trans (advance_rd _ _ _)) n b
  rw [heq]
  exact ⟨hrec, hformed'.trans hf, hreleased, hmem.trans (hm.trans (advance_mem _ _))⟩

end

end Sys2Proof.Machine
end

section
/-! SUPPORT. The release of a decoder's block (R26, R238 to R242), and the statement on events and observation. -/

set_option Elab.async false

namespace Sys2Proof.Machine

section
variable {s u v : State} {d n ts : Nat} {x : List (Int × Int)}

/-! ## After the release -/

/-- From s to u a decoder's windows of good frames and what Fennel is told change, and nothing else that its release shows. -/
structure WindowsMoved (d : Nat) (s u : State) : Prop where
  warmLeft : (u.decoder d).warmLeft = (s.decoder d).warmLeft
  lastGood : (u.decoder d).lastGood = (s.decoder d).lastGood
  dropNext : (u.decoder d).dropNext = (s.decoder d).dropNext
  rel : u.rel = s.rel
  rd : ∀ a, a ≠ DECd_QUAL d → u.rd a = s.rd a

theorem WindowsMoved.refl (d : Nat) (s : State) : WindowsMoved d s s := ⟨rfl, rfl, rfl, rfl, fun _ _ => rfl⟩

theorem WindowsMoved.trans (h : WindowsMoved d s u) (hv : WindowsMoved d u v) : WindowsMoved d s v :=
  ⟨hv.warmLeft.trans h.warmLeft, hv.lastGood.trans h.lastGood, hv.dropNext.trans h.dropNext, hv.rel.trans h.rel,
    fun a ha => (hv.rd a ha).trans (h.rd a ha)⟩

theorem WindowsMoved.setDecoder (w : Decoder) (hleft : w.warmLeft = (s.decoder d).warmLeft) (hgood : w.lastGood = (s.decoder d).lastGood)
    (hdrop : w.dropNext = (s.decoder d).dropNext) : WindowsMoved d s (s.setDecoder d w) := by
  have hw : (s.setDecoder d w).decoder d = w := decoder_setDecoder_same _ _ _
  exact ⟨by rw [hw, hleft], by rw [hw, hgood], by rw [hw, hdrop], rfl, fun _ _ => rfl⟩

theorem WindowsMoved.setF (s : State) {f : Fld} (hf : f.reg = DECd_QUAL d) (m : Nat) : WindowsMoved d s (s.setF f m) := by
  have hdec : (s.setF f m).decoder d = s.decoder d := by rw [State.decoder, setF_decs]; rfl
  exact ⟨by rw [hdec], by rw [hdec], by rw [hdec], setF_rel _ _ _, fun a ha => rd_setF_other _ _ _ _ (hf ▸ ha)⟩

theorem WindowsMoved.ite {c : Prop} [Decidable c] (h : WindowsMoved d s u) (hv : WindowsMoved d s v) :
    WindowsMoved d s (if c then u else v) := by
  split
  · exact h
  · exact hv

/-- A window of good audio frames after one more. -/
theorem errsPut_moved (d : Nat) (bal : Int) (l : List Bool) (s : State) :
    WindowsMoved d s (decReport d false 0 ((s.setDecoder d { s.decoder d with errs := l, errBal := bal }).setF (DECd_QUAL_ERR d) (l.count true))) := by
  have hset := WindowsMoved.setDecoder (s := s) (d := d) { s.decoder d with errs := l, errBal := bal } rfl rfl rfl
  refine (hset.trans (WindowsMoved.setF _ (f := DECd_QUAL_ERR d) rfl (l.count true))).trans ?_
  unfold decReport
  exact WindowsMoved.setDecoder _ rfl rfl rfl

/-- A window of good superframes after one more. -/
theorem sfsPut_moved (d : Nat) (bal : Int) (l : List Bool) (s : State) :
    WindowsMoved d s ((s.setDecoder d { s.decoder d with sfs := l, sfBal := bal }).setF (DECd_QUAL_SFFAIL d) (l.count true)) :=
  (WindowsMoved.setDecoder { s.decoder d with sfs := l, sfBal := bal } rfl rfl rfl).trans (.setF _ (f := DECd_QUAL_SFFAIL d) rfl _)

theorem decGood_moved (d ts : Nat) (s : State) : WindowsMoved d s (decGood d ts s) :=
  have h1 := WindowsMoved.ite (errsPut_moved d _ _ s) (.refl d s)
  WindowsMoved.ite (h1.trans (sfsPut_moved d _ _ _)) h1

/-! ## The release -/

/-- The decoder is due to release the block of the instant n (R238, R240, R241). -/
structure DecDue (s : State) (d n : Nat) : Prop where
  lt : d < 128
  state : (s.decState d == 2 || s.decState d == 3) = true
  runs : ((s.decoder d).change != .stop) = true
  begun : (s.decoder d).runAt + s.decLat d ≤ n
  grid : ((n - s.decLat d) % 5242880 == 0) = true
  new : (!(s.released 3 d).at_.any (fun u => decide (n ≤ u))) = true

/-- The decoded samples, mono on both channels (R239). -/
def State.decStereo (s : State) (d : Nat) (x : List (Int × Int)) : List (Int × Int) :=
  if s.flag (DECd_STAT_STEREO d) then x else x.map fun q => (q.1, q.1)

/-- The samples of a decoder's block, and the last good one after them (R239, R242). -/
def State.decPlayed (s : State) (d ts : Nat) (x : List (Int × Int)) : List (Int × Int) × (Int × Int) :=
  if s.decVoid d ts then (List.replicate 64 (0, 0), (0, 0))
  else concealAll (s.decoder d).fails ts (s.decoder d).lastGood (s.decInterpolate d ts (s.decStereo d x))

/-- The block of a decoder. -/
def State.decBlock (s : State) (d ts : Nat) (x : List (Int × Int)) : Block :=
  ⟨ts, s.decFlags d ts, (s.decPlayed d ts x).1.flatMap fun p => [p.1, p.2]⟩

/-- The decoder after its block. -/
def State.decAfter (s : State) (d ts : Nat) (x : List (Int × Int)) : Decoder :=
  { s.decoder d with
    warmLeft := (s.decoder d).warmLeft - 64, dropNext := false, lastGood := (s.decPlayed d ts x).2
    fails := (s.decoder d).fails.filter fun r => decide (ts ≤ r.2 + Config.ticksPerSecond) }

/-- The state in which a decoder's block is handed on. -/
def decPlay (d ts : Nat) (x : List (Int × Int)) (s : State) : State :=
  (s.setDecoder d (s.decAfter d ts x)).setB (DECd_STAT_WARMUP d) ((s.decoder d).warmLeft - 64 != 0)

/-- A decoder's block is handed on and noted. -/
def decGiven (d n ts : Nat) (x : List (Int × Int)) (s : State) : State :=
  let b := s.decBlock d ts x
  let l := warmRamp 2 1152 (1152 - (s.decoder d).warmLeft) (s.decoder d).warmLeft b.samples
  releaseNote 3 d n (some b) (streamNote 3 d b
    (dmaBlock 10 d ts (some (dmaBytes (decPlay d ts x s) 2 d ts (s.decFlags d ts) l)) (obsBlock 2 d (s.decFlags d ts) (decPlay d ts x s))))

/-- The audio that decRelease has for a block that is due. -/
def State.decAudio (s : State) (d n : Nat) (au : Option (List (Int × Int))) : Option (List (Int × Int)) :=
  if decide (s.now ≤ n) && (s.frameBefore (s.getF (DECd_CTL_SLOT d)) (n - s.decLat d)).isSome && !s.abandoned 3 d n then au else none

/-- What a decoder does with its block. -/
def decTurn (d n : Nat) (s : State) : Option (List (Int × Int)) → State
  | none => releaseNote 3 d n none (dmaBlock 10 d n none (s.setDecoder d { s.decoder d with dropNext := true }))
  | some x => decGood d (n - s.decLat d) (decGiven d n (n - s.decLat d) x s)

theorem DecDue.goes_on (h : DecDue s d n) (au : Option (List (Int × Int))) :
    decRelease d n au s = decTurn d n s (s.decAudio d n au) := by
  have hrun : (s.decState d != 0 && decide ((s.decoder d).change = .stop) && decide ((s.decoder d).due ≤ n)) = false := by
    have hne : (s.decoder d).change ≠ .stop := by simpa using h.runs
    rw [decide_eq_false hne, Bool.and_false, Bool.false_and]
  have hgo : (!(decide (s.decState d = 2) || decide (s.decState d = 3)) || decide (n < (s.decoder d).runAt + s.decLat d) ||
      (n - s.decLat d) % Config.audioBlock != 0 || (s.released 3 d).at_.any (fun x => decide (n ≤ x))) = false := by
    have hstate : (decide (s.decState d = 2) || decide (s.decState d = 3)) = true := by simpa using h.state
    have hbegun := h.begun
    have hgrid : (n - s.decLat d) % 5242880 = 0 := by simpa using h.grid
    have hnew : (s.released 3 d).at_.any (fun x => decide (n ≤ x)) = false := by simpa using h.new
    rw [hstate, decide_eq_false (by omega), hnew, Config.audioBlock, hgrid]
    rfl
  unfold decRelease
  dsimp only
  rw [if_neg (by rw [hrun]; decide), if_neg (by rw [hgo]; decide), ← State.decAudio]
  cases s.decAudio d n au <;> rfl

/-- A decoder whose block is not complete drops it (R26). -/
theorem decRelease_none (h : DecDue s d n) :
    ((decRelease d n none s).decoder d).dropNext = true ∧ (decRelease d n none s).released 3 d = ⟨some n, none⟩ ∧
      ((decRelease d n none s).decoder d).warmLeft = (s.decoder d).warmLeft := by
  have hnone : s.decAudio d n none = none := ite_self _
  rw [h.goes_on, hnone]
  have hgiven := (dmaBlock_handed 10 d n none (s.setDecoder d { s.decoder d with dropNext := true })).trans
    (releaseNote_handed 3 d n none _)
  have hdec : ((decTurn d n s none).decoder d) = { s.decoder d with dropNext := true } :=
    (hgiven.decoder d).trans (decoder_setDecoder_same s d _)
  exact ⟨congrArg Decoder.dropNext hdec, releaseNote_released _ _ _ _ _, (congrArg Decoder.warmLeft hdec :)⟩

theorem decPlay_decoder (d ts : Nat) (x : List (Int × Int)) (s : State) : (decPlay d ts x s).decoder d = s.decAfter d ts x := by
  rw [decPlay, State.decoder, setB_decs]
  exact decoder_setDecoder_same _ _ _

theorem decPlay_warmup (d ts : Nat) (x : List (Int × Int)) (s : State) :
    (decPlay d ts x s).flag (DECd_STAT_WARMUP d) = decide ((s.decAfter d ts x).warmLeft ≠ 0) := by
  have hget := getF_setF_fits (s.setDecoder d (s.decAfter d ts x)) (DECd_STAT_WARMUP d) ((s.decoder d).warmLeft - 64 != 0).toNat
    ⟨by simp [DECd_STAT_WARMUP], by simp [DECd_STAT_WARMUP]⟩ (by simp [DECd_STAT_WARMUP]; exact Bool.toNat_le _)
  refine (flag_of_getF hget).trans ?_
  show ((s.decoder d).warmLeft - 64 != 0) = decide ((s.decoder d).warmLeft - 64 ≠ 0)
  by_cases hz : (s.decoder d).warmLeft - 64 = 0 <;> simp [hz]

/-- A handed-on block leaves the decoder as its release has set it. -/
theorem decGiven_gives (d n ts : Nat) (x : List (Int × Int)) (s : State) :
    Handed (decPlay d ts x s) (decGiven d n ts x s) ∧ (decGiven d n ts x s).released 3 d = ⟨some n, some (s.decBlock d ts x)⟩ :=
  ⟨((obsBlock_handed _ _ _ _).trans (dmaBlock_handed _ _ _ _ _)).trans ((streamNote_handed _ _ _ _).trans (releaseNote_handed _ _ _ _ _)),
    releaseNote_released _ _ _ _ _⟩

/-- A complete block of a decoder (R239 to R242). -/
theorem decRelease_some (h : DecDue s d n) (hnow : s.now ≤ n)
    (hframe : (s.frameBefore (s.getF (DECd_CTL_SLOT d)) (n - s.decLat d)).isSome = true) (hkept : (!s.abandoned 3 d n) = true) :
    ((decRelease d n (some x) s).decoder d).warmLeft = (s.decoder d).warmLeft - 64 ∧
      ((decRelease d n (some x) s).decoder d).lastGood = (s.decPlayed d (n - s.decLat d) x).2 ∧
      ((decRelease d n (some x) s).decoder d).dropNext = false ∧
      (decRelease d n (some x) s).flag (DECd_STAT_WARMUP d) = decide (((decRelease d n (some x) s).decoder d).warmLeft ≠ 0) ∧
      (decRelease d n (some x) s).released 3 d = ⟨some n, some (s.decBlock d (n - s.decLat d) x)⟩ := by
  have haudio : s.decAudio d n (some x) = some x := if_pos (by rw [decide_eq_true hnow, hframe, hkept]; rfl)
  have hturn : decRelease d n (some x) s = decGood d (n - s.decLat d) (decGiven d n (n - s.decLat d) x s) := by
    rw [h.goes_on, haudio, decTurn]
  rw [hturn]
  generalize n - s.decLat d = ts
  obtain ⟨hgiven, hreleased⟩ := decGiven_gives d n ts x s
  have hmoved := decGood_moved d ts (decGiven d n ts x s)
  have hdec : (decGiven d n ts x s).decoder d = s.decAfter d ts x := (hgiven.decoder d).trans (decPlay_decoder d ts x s)
  have hflag : (decGood d ts (decGiven d n ts x s)).flag (DECd_STAT_WARMUP d) = decide ((s.decAfter d ts x).warmLeft ≠ 0) :=
    (congrArg (· != 0) ((getF_of_rd (hmoved.rd _ (show DECd_STAT d ≠ DECd_QUAL d by unfold DECd_STAT DECd_QUAL; omega))).trans
      (hgiven.getF _))).trans (decPlay_warmup d ts x s)
  have hrel : (decGood d ts (decGiven d n ts x s)).released 3 d = (decGiven d n ts x s).released 3 d := by
    rw [State.released, hmoved.rel]
    rfl
  rw [hmoved.warmLeft, hmoved.lastGood, hmoved.dropNext, hflag, hrel, hdec, hreleased]
  exact ⟨rfl, rfl, rfl, rfl, rfl⟩

theorem exec_decRelease {au : Option (List (Int × Int))} (hstage : (s.stage == 4) = true) (hd : d < 128) :
    exec (.blockRelease 2 d n au) s = .next (decRelease d n au (s.advance n)) := by
  rw [exec_blockRelease hstage, if_neg (by simp), if_pos (by simp [hd])]

/-- The time that passes until a release changes nothing that the release of a decoder's block draws on. -/
theorem DecDue.advance (h : DecDue s d n) : DecDue (s.advance n) d n := by
  obtain ⟨c, hc⟩ := advance_eq n s
  rw [hc]
  exact ⟨h.lt, h.state, h.runs, h.begun, h.grid, h.new⟩

theorem gives_decDrop (hstage : (s.stage == 4) = true) (h : DecDue s d n) :
    Gives (.blockRelease 2 d n none) s fun t =>
      (t.decoder d).dropNext = true ∧ t.released 3 d = ⟨some n, none⟩ ∧ (t.decoder d).warmLeft = (s.decoder d).warmLeft := by
  obtain ⟨hdrop, hreleased, hleft⟩ := decRelease_none h.advance
  have hdec : (s.advance n).decoder d = s.decoder d := by rw [State.decoder, advance_decs]; rfl
  exact ⟨_, exec_decRelease hstage h.lt, hdrop, hreleased, hleft.trans (by rw [hdec])⟩

/-- A VOID block holds zeros. -/
theorem decBlock_samples (s : State) (d ts : Nat) (x : List (Int × Int)) :
    s.decBlock d ts x = ⟨ts, s.decFlags d ts, if s.decVoid d ts then List.replicate 128 0 else (concealAll (s.decoder d).fails ts (s.decoder d).lastGood (s.decInterpolate d ts (s.decStereo d x))).1.flatMap fun p => [p.1, p.2]⟩ := by
  have hzeros : (List.replicate 64 ((0 : Int), (0 : Int))).flatMap (fun p => [p.1, p.2]) = List.replicate 128 0 := by decide +kernel
  unfold State.decBlock State.decPlayed
  by_cases hvoid : s.decVoid d ts = true
  · rw [if_pos hvoid, if_pos hvoid, hzeros]
  · rw [if_neg hvoid, if_neg hvoid]

theorem decPlayed_last (s : State) (d ts : Nat) (x : List (Int × Int)) :
    (s.decPlayed d ts x).2 = if s.decVoid d ts then (0, 0) else (concealAll (s.decoder d).fails ts (s.decoder d).lastGood (s.decInterpolate d ts (s.decStereo d x))).2 := by
  unfold State.decPlayed
  split <;> rfl

theorem gives_decRelease (hstage : (s.stage == 4) = true) (h : DecDue s d n) (hnow : s.now ≤ n)
    (hframe : (s.frameBefore (s.getF (DECd_CTL_SLOT d)) (n - s.decLat d)).isSome = true) (hkept : (!s.abandoned 3 d n) = true) :
    Gives (.blockRelease 2 d n (some x)) s fun t =>
      (t.decoder d).warmLeft = (s.decoder d).warmLeft - 64 ∧ (t.decoder d).lastGood = (s.decPlayed d (n - s.decLat d) x).2 ∧
        (t.decoder d).dropNext = false ∧ t.flag (DECd_STAT_WARMUP d) = decide ((t.decoder d).warmLeft ≠ 0) ∧
        t.released 3 d = ⟨some n, some (s.decBlock d (n - s.decLat d) x)⟩ := by
  have hlast := now_advance_le hnow
  have hdue := h.advance
  refine ⟨_, exec_decRelease hstage h.lt, ?_⟩
  obtain ⟨c, hc⟩ := advance_eq n s
  rw [hc] at hlast hdue ⊢
  exact decRelease_some (s := { s with syscnt := c }) hdue hlast hframe hkept

/-! ## The end of a decoder -/

theorem ownedShow_rd {a : Nat} (ha : a ≠ FOL_USE) (s : State) : (ownedShow s).rd a = s.rd a := rd_setF_other _ FOL_USE_DEC_OWNED _ _ ha

theorem dabUse_rd {a : Nat} (ha : a ≠ DAB_USE) (s : State) : (dabUse s).rd a = s.rd a :=
  (rd_setF_other _ DAB_USE_DEC_RUN _ _ ha).trans (rd_setF_other _ DAB_USE_ENS_LOCK _ _ ha)

/-- A decoder that has stopped shows its state, no reason to wait and no owner, and holds nothing (R238, R246). -/
theorem decStopped_shows (hd : d < 128) (s : State) :
    (decStopped d s).decState d = 0 ∧ (decStopped d s).getF (DECd_STAT_WAIT d) = 0 ∧ (decStopped d s).getF (DECd_CTL_OWNER d) = 0 ∧
      (decStopped d s).decoder d = {} := by
  have hstat : DECd_STAT d = 0x22008 + 0x20 * d := rfl
  have hctl : DECd_CTL d = 0x22000 + 0x20 * d := rfl
  have hfol : FOL_USE = 0x2c028 := rfl
  have hdab : DAB_USE = 0x21004 := rfl
  obtain ⟨y, hy⟩ : ∃ y, decFields d (s.setF (DECd_STAT_STATE d) 0) = y := ⟨_, rfl⟩
  have hstate : y.getF (DECd_STAT_STATE d) = 0 := by
    rw [← hy]
    exact (decFields_state d _).trans (getF_setF_fits _ _ _ (by simp [DECd_STAT_STATE]) (by simp))
  have hout {f : Fld} (hf : f.reg ≠ FOL_USE ∧ f.reg ≠ DAB_USE) :
      (decStopped d s).getF f = (((y.setF (DECd_STAT_WAIT d) 0).setDecoder d {}).setF (DECd_CTL_OWNER d) 0).getF f := by
    unfold decStopped
    rw [hy]
    exact getF_of_rd ((ownedShow_rd hf.1 _).trans (dabUse_rd hf.2 _))
  have hkept {f : Fld} (hf : f.reg = DECd_STAT d) : (decStopped d s).getF f = (y.setF (DECd_STAT_WAIT d) 0).getF f := by
    rw [hout (by omega), getF_setF_reg _ _ _ _ (show f.reg ≠ DECd_CTL d by omega), setDecoder_getF]
  refine ⟨?_, ?_, ?_, ?_⟩
  · exact (hkept rfl).trans ((getF_setF_apart _ _ _ _ (.inr ⟨by simp [DECd_STAT_WAIT], by simp [DECd_STAT_WAIT, DECd_STAT_STATE]⟩)).trans hstate)
  · exact (hkept rfl).trans (getF_setF_fits _ _ _ (by simp [DECd_STAT_WAIT]) (by simp))
  · exact (hout (show DECd_CTL d ≠ FOL_USE ∧ DECd_CTL d ≠ DAB_USE by omega)).trans (getF_setF_fits _ _ _ (by simp [DECd_CTL_OWNER]) (by simp))
  · have hdecs : (decStopped d s).decs = ((y.setF (DECd_STAT_WAIT d) 0).setDecoder d {}).decs := by
      unfold decStopped
      rw [hy, ownedShow, setF_decs, dabUse, setF_decs, setF_decs, setF_decs]
    rw [State.decoder, hdecs]
    exact decoder_setDecoder_same _ _ _

theorem gives_decStop {au : Option (List (Int × Int))} (hstage : (s.stage == 4) = true) (hd : d < 128) (hstate : (s.decState d != 0) = true)
    (hstop : (s.decoder d).change = .stop) (hdue : (s.decoder d).due ≤ n) :
    Gives (.blockRelease 2 d n au) s fun t =>
      t.decState d = 0 ∧ t.getF (DECd_STAT_WAIT d) = 0 ∧ t.getF (DECd_CTL_OWNER d) = 0 ∧ t.decoder d = {} := by
  have hdec : (s.advance n).decoder d = s.decoder d := by rw [State.decoder, advance_decs]; rfl
  have hst : (s.advance n).decState d = s.decState d := advance_getF _ _ _
  have hends : decRelease d n au (s.advance n) = decStopped d (s.advance n) := by
    unfold decRelease
    dsimp only
    rw [hdec, hst, if_pos (by rw [hstate, hstop, decide_eq_true hdue]; decide)]
  exact ⟨_, exec_decRelease hstage hd, hends ▸ decStopped_shows hd (s.advance n)⟩

end

/-- Settles O49, clause by clause: raises, releases of groups, clearing writes, checkpoints and wear, Sprout's counters, and
the release of a programme's, a path's and a decoder's block. -/
theorem eventsAndObservation : Obligations.EventsAndObservation := by
  unfold Obligations.EventsAndObservation
  refine ⟨?_, ?_, ?_, ?_, ?_, ?_, ?_, ?_, ?_, ?_, ?_, ?_, ?_, ?_, ?_, ?_, ?_, ?_, ?_, ?_⟩
  · intro s e i hreset hstage hsource hnone
    have hs := Option.isNone_iff_eq_none.mp hnone
    exact gives_raise (.plain hreset hstage hsource hs) hs
  · intro s e i j hreset hstage hsource hsum hfits
    have hs := beq_iff_eq.mp hsum
    refine gives_raise_summary ⟨by simpa using hreset, of_decide_eq_true hstage, hsource, fun k hk => ?_⟩ hs
    obtain rfl : j = k := Option.some.inj (hs.symm.trans hk)
    exact of_decide_eq_true hfits
  · intro s e i hstage
    exact gives_raise_early (of_decide_eq_true hstage)
  · intro s e i hreset hstage hsource hmask hnone hside htype htrace
    have hs := Option.isNone_iff_eq_none.mp hnone
    exact gives_raise_record (.plain hreset hstage hsource hs) hs hmask hside htype (by simpa using htrace)
  · intro s g n hg hp hnew hdue
    exact gives_coalesce_msix (of_decide_eq_true hg) hp (by simpa using hnew) hdue
  · intro s g n hg hp hcount hen hkt
    exact gives_coalesce_irq (of_decide_eq_true hg) hp (by rw [State.coalDue, hcount, Bool.true_or]) hen (by simpa using hkt)
  · intro s g r n hg hr hp hcount hhold
    have hdue : s.coalDue g r (s.advance n).now = false := by
      have hlow := of_decide_eq_true hcount
      have hearly := of_decide_eq_true hhold
      rw [State.coalDue, decide_eq_false (by omega), decide_eq_false (by omega), Bool.or_false]
    exact gives_coalesce_waits (of_decide_eq_true hg) (of_decide_eq_true hr) hp hdue
  · intro s m g v hg h1 h2 hr
    exact gives_clearStat (of_decide_eq_true hg) (by simpa using h1) (by simpa using h2) hr
  · intro s m v hr
    exact gives_clearStat_one hr
  · intro s m j k v hj hk hr
    exact gives_clearSum (of_decide_eq_true hj) (of_decide_eq_true hk) hr
  · intro s x n hfeat hn
    exact gives_checkpoint hfeat hn
  · intro s n hreset
    exact gives_wear (by simpa using hreset)
  · intro s m hr
    exact gives_snap hr
  · intro s m hr
    exact gives_clear hr
  · intro s p n ts au b rest hstage hp hformed hdue hnow hrest
    exact gives_progRelease hstage (of_decide_eq_true hp) (beq_iff_eq.mp hformed) (beq_iff_eq.mp hdue) (of_decide_eq_true hnow)
      fun q hq => of_decide_eq_true (List.all_eq_true.mp hrest q hq)
  · intro s p n au hstage hp hstate hstop hformed hdue hnow
    exact gives_progDrop hstage (of_decide_eq_true hp) (of_decide_eq_true hstate) hstop (List.isEmpty_iff.mp hformed) (beq_iff_eq.mp hdue)
      (of_decide_eq_true hnow)
  · intro s i n q au b rest hstage hi hformed hnow hrest hq hen hkind hsel hfirst hlast
    exact gives_pathRelease hstage (of_decide_eq_true hi) (beq_iff_eq.mp hformed) (of_decide_eq_true hnow)
      (fun x hx => of_decide_eq_true (List.all_eq_true.mp hrest x hx))
      ⟨of_decide_eq_true hq, hen, beq_iff_eq.mp hkind, beq_iff_eq.mp hsel, of_decide_eq_true hfirst, of_decide_eq_true hlast⟩
  · intro s d n x hstage hd hstate hruns hbegun hgrid hnew hnow hframe hkept
    have h := gives_decRelease (x := x) hstage ⟨of_decide_eq_true hd, hstate, hruns, of_decide_eq_true hbegun, hgrid, hnew⟩
      (of_decide_eq_true hnow) hframe hkept
    rw [decPlayed_last, decBlock_samples] at h
    exact h
  · intro s d n hstage hd hstate hruns hbegun hgrid hnew _
    exact gives_decDrop hstage ⟨of_decide_eq_true hd, hstate, hruns, of_decide_eq_true hbegun, hgrid, hnew⟩
  · intro s d n au hstage hd hstate hstop hdue
    exact gives_decStop hstage (of_decide_eq_true hd) hstate (beq_iff_eq.mp hstop) (of_decide_eq_true hdue)

end Sys2Proof.Machine
end

section
/-! SUPPORT. The canonical form of the register table and of Marrow, kept by every operation of the model. -/

set_option Elab.async false

namespace Sys2Proof.Machine

/-- The register table and Marrow are in canonical form. -/
structure Tidy (s : State) : Prop where
  canonical : s.canonical = true

/-- So they are in the state that a command answers. -/
def Ends (o : Host.Outcome State Fault Refusal) : Prop := ∀ t, o = .next t → Tidy t

section
variable {u v : State}

/-- The form is about the register table and Marrow alone. -/
theorem Tidy.same (h : Tidy u) (hr : v.regs = u.regs) (hm : v.mem = u.mem) : Tidy v := ⟨canonical_of hr hm h.canonical⟩

/-- So a change of any other part keeps it. -/
theorem Tidy.beside {pending : List Instr} {hiLatch : List (Nat × Word)} {syscnt : BitVec 64} {counting : Bool}
    {freeCtr : Nat} {pins : Pins} {pwr : Power} {boot : Boot} {hb : HostBus} {coal : List (Nat × Coal)} {msiQueue : List Nat}
    {recs : List (Nat × Nat × Rec)} {obs : Obs} {snp : Snapshot} {exc : Exciter} {cals : List (Nat × Cal)} {clk : Clock}
    {inputs : List (Nat × Input)} {mrw : Marrow} {banks : List (Nat × Bank)} {paths : List (Nat × Path)} {kt : Kt}
    {dems : List (Nat × Dem)} {slots : List (Nat × Slot)} {decs : List (Nat × Decoder)} {fol : Fennel}
    {saps : List (Nat × Sap)} {rel : List (Nat × Released)} {streams : List (Nat × List Block)} {net : Net} {pci : Pcie}
    {slk : Slk} {sec : Sec} {fab : Fabric} {cores : List (Nat × Core)} {win : List (Nat × Byte)} (h : Tidy u) :
    Tidy ⟨pending, u.regs, hiLatch, syscnt, counting, freeCtr, pins, pwr, boot, hb, coal, msiQueue, recs, obs, u.mem, snp,
      exc, cals, clk, inputs, mrw, banks, paths, kt, dems, slots, decs, fol, saps, rel, streams, net, pci, slk, sec, fab,
      cores, win⟩ := h.same rfl rfl

protected theorem Tidy.ite {c : Prop} [Decidable c] (h : Tidy u) (hv : Tidy v) : Tidy (if c then u else v) := by
  split
  · exact h
  · exact hv

protected theorem Tidy.iteSnd {α : Type} {c : Prop} [Decidable c] {p q : α × State} (h : Tidy p.2) (hq : Tidy q.2) :
    Tidy (if c then p else q).2 := by
  split
  · exact h
  · exact hq

protected theorem Tidy.iteAcc {c : Prop} [Decidable c] {x y : IzAcc} (h : Tidy x.s) (hy : Tidy y.s) :
    Tidy (if c then x else y).s := by
  split
  · exact h
  · exact hy

theorem Tidy.pair {α : Type} {a : α} (h : Tidy u) : Tidy (a, u).2 := h

theorem Tidy.pairFst {α : Type} {a : α} (h : Tidy u) : Tidy (u, a).1 := h

theorem Tidy.acc {l : List Nat} {n : Nat} (h : Tidy u) : Tidy (⟨u, l, n⟩ : IzAcc).s := h

theorem Tidy.pairAcc {α : Type} {a : α} {x : IzAcc} (h : Tidy x.s) : Tidy (a, x).2.s := h

protected theorem Tidy.foldl {α : Type} {l : List α} {f : State → α → State} (h : Tidy u) (hf : ∀ x a, Tidy x → Tidy (f x a)) :
    Tidy (l.foldl f u) := by
  induction l generalizing u with
  | nil => exact h
  | cons a t ih => exact ih (hf _ a h)

protected theorem Tidy.foldlSnd {α β : Type} {l : List β} {f : α × State → β → α × State} {x : α × State} (h : Tidy x.2)
    (hf : ∀ x b, Tidy x.2 → Tidy (f x b).2) : Tidy (l.foldl f x).2 := by
  induction l generalizing x with
  | nil => exact h
  | cons b t ih => exact ih (hf x b h)

protected theorem Tidy.forEach {l : List Nat} {f : Nat → State → State} (h : Tidy u) (hf : ∀ n x, Tidy x → Tidy (f n x)) :
    Tidy (forEach l f u) := h.foldl fun x n hx => hf n x hx

theorem Ends.next (h : Tidy u) : Ends (.next u) := fun _ ht => Host.Outcome.next.inj ht ▸ h

theorem Ends.refused {r : Refusal} : Ends (.refused r) := fun _ ht => nomatch ht

theorem Ends.fault {r : Fault} : Ends (.fault r) := fun _ ht => nomatch ht

protected theorem Ends.ite {c : Prop} [Decidable c] {o o' : Host.Outcome State Fault Refusal} (h : Ends o) (h' : Ends o') :
    Ends (if c then o else o') := by
  split
  · exact h
  · exact h'

/-- So they are in the state that an instruction's action leaves, where it does not trap. -/
def Leaves (r : IzRes) : Prop :=
  match r with
  | .trap _ _ => True
  | .done s | .branch _ s | .skip _ s | .rti s => Tidy s

theorem Leaves.trap {cause : Nat} {a : Option (Nat × Nat)} : Leaves (.trap cause a) := True.intro

protected theorem Leaves.ite {c : Prop} [Decidable c] {r q : IzRes} (h : Leaves r) (hq : Leaves q) :
    Leaves (if c then r else q) := by
  split
  · exact h
  · exact hq

theorem Tidy.done (h : Tidy u) : Leaves (.done u) := h

theorem Tidy.branch {a : Option Nat} (h : Tidy u) : Leaves (.branch a u) := h

theorem Tidy.skip {le : Nat} (h : Tidy u) : Leaves (.skip le u) := h

theorem Tidy.rti (h : Tidy u) : Leaves (.rti u) := h

/-! ## Where the tables are written -/

protected theorem Tidy.wr {a : Nat} {w : Word} (h : Tidy u) : Tidy (u.wr a w) := ⟨canonical_wr a w h.canonical⟩

protected theorem Tidy.resetRange {lo hi : Nat} (h : Tidy u) : Tidy (u.resetRange lo hi) :=
  ⟨canonical_resetRange lo hi h.canonical⟩

protected theorem Tidy.store {a : Nat} {l : List Byte} (h : Tidy u) : Tidy (u.store a l) := ⟨canonical_store a l h.canonical⟩

end

end Sys2Proof.Machine
end

section
/-! SUPPORT. The register operations, events, clock and front end keep the canonical form. -/

set_option Elab.async false

namespace Sys2Proof.Machine

section
variable {u : State}

/-! ## Register operations -/

protected theorem Tidy.setF {f : Fld} {v : ℕ} (h : Tidy u) : Tidy (u.setF f v) := by
  unfold State.setF
  exact h.wr

protected theorem Tidy.setI {f : Fld} {i : ℤ} (h : Tidy u) : Tidy (u.setI f i) := by
  unfold State.setI
  exact h.setF

protected theorem Tidy.setB {f : Fld} {b : Bool} (h : Tidy u) : Tidy (u.setB f b) := by
  unfold State.setB
  exact h.setF

protected theorem Tidy.bumpBy {f : Fld} {n : ℕ} (h : Tidy u) : Tidy (u.bumpBy f n) := by
  unfold State.bumpBy
  exact h.setF

protected theorem Tidy.bump {f : Fld} (h : Tidy u) : Tidy (u.bump f) := by
  unfold State.bump
  exact h.bumpBy

protected theorem Tidy.set64 {lo hi v : ℕ} (h : Tidy u) : Tidy (u.set64 lo hi v) := by
  unfold State.set64
  exact h.wr.wr

protected theorem Tidy.refuse {reg code : ℕ} (h : Tidy u) : Tidy (refuse reg code u) := by
  unfold refuse
  exact h.setF.bump

protected theorem Tidy.refuseInst {reg code : ℕ} (h : Tidy u) : Tidy (refuseInst reg code u) := by
  unfold refuseInst
  exact h.setF.bump

protected theorem Tidy.advance {t : ℕ} (h : Tidy u) : Tidy (u.advance t) := by
  unfold State.advance
  exact .ite h.beside h

protected theorem Tidy.clockTick (h : Tidy u) : Tidy (u.clockTick) := by
  unfold State.clockTick
  exact .ite h.beside h

protected theorem Tidy.free (h : Tidy u) : Tidy (u.free).2 := by
  unfold State.free
  exact h.beside.pair

/-! ## The admission of a write -/

protected theorem Tidy.winAdmit {k c len : ℕ} (h : Tidy u) : Tidy (winAdmit k c len u) := by
  unfold winAdmit
  exact h.beside

/-! ## Events -/

protected theorem Tidy.emitRecIf {casrum : Bool} {r : Rec} (h : Tidy u) : Tidy (emitRecIf casrum r u) := by
  unfold emitRecIf
  exact h.beside

protected theorem Tidy.emitRec {r : Rec} (h : Tidy u) : Tidy (emitRec r u) := by
  unfold emitRec
  exact h.emitRecIf

protected theorem Tidy.spillWrite {r : TraceRec} (h : Tidy u) : Tidy (spillWrite r u) := by
  unfold spillWrite
  exact .ite h (.ite h.store.beside h.bump)

protected theorem Tidy.traceWrite {r : TraceRec} (h : Tidy u) : Tidy (traceWrite r u) := by
  unfold traceWrite
  exact h.beside.setF.spillWrite

protected theorem Tidy.trace {kind info src data t : ℕ} (h : Tidy u) : Tidy (trace kind info src data t u) := by
  unfold trace
  exact .ite h (.ite h.bump.beside (.traceWrite (.ite h.traceWrite.beside h)))

protected theorem Tidy.obsBump {c : ℕ} (h : Tidy u) : Tidy (obsBump c u) := by
  unfold obsBump
  exact h.beside

protected theorem Tidy.obsCount {test : ℕ → Bool} (h : Tidy u) : Tidy (obsCount test u) := by
  unfold obsCount
  exact h.foldl fun _ _ h => h.obsBump

protected theorem Tidy.obsEvent {e : ℕ} (h : Tidy u) : Tidy (obsEvent e u) := by
  unfold obsEvent
  exact h.obsCount

protected theorem Tidy.obsBlock {k n flags : ℕ} (h : Tidy u) : Tidy (obsBlock k n flags u) := by
  unfold obsBlock
  exact h.obsCount

protected theorem Tidy.obsReply {r code : ℕ} (h : Tidy u) : Tidy (obsReply r code u) := by
  unfold obsReply
  exact h.obsCount

protected theorem Tidy.snapTrigger {t : ℕ} (h : Tidy u) : Tidy (snapTrigger t u) := by
  unfold snapTrigger
  exact .ite h.set64.setF.beside h

protected theorem Tidy.setCoal {g route : ℕ} {c : Coal} (h : Tidy u) : Tidy (u.setCoal g route c) := by
  unfold State.setCoal
  exact h.beside

protected theorem Tidy.release {g route : ℕ} (h : Tidy u) : Tidy (release g route u) := by
  unfold release
  exact .ite (.ite h.setCoal.beside h.setCoal) h

protected theorem Tidy.releaseDue {g route t : ℕ} (h : Tidy u) : Tidy (releaseDue g route t u) := by
  unfold releaseDue
  exact .ite h.release h

protected theorem Tidy.coalRefresh {g route t : ℕ} (h : Tidy u) : Tidy (coalRefresh g route t u) := by
  unfold coalRefresh
  exact .ite (.releaseDue (.ite h h.setCoal)) h.setCoal

protected theorem Tidy.coalRaise {g b route t : ℕ} (h : Tidy u) : Tidy (coalRaise g b route t u) := by
  unfold coalRaise
  exact .ite (.ite h.setCoal.releaseDue h.coalRefresh) h

protected theorem Tidy.irqRefresh (h : Tidy u) : Tidy (irqRefresh u) := by
  unfold irqRefresh
  exact h.setF.setF.setF.beside

protected theorem Tidy.routesRefresh {t : ℕ} (h : Tidy u) : Tidy (routesRefresh t u) := by
  unfold routesRefresh
  exact .irqRefresh (h.forEach fun _ _ h => h.coalRefresh.coalRefresh)

protected theorem Tidy.raiseBit {e inst : ℕ} (h : Tidy u) : Tidy (raiseBit e inst u) := by
  unfold raiseBit
  extract_lets
  split
  · exact .setF (.setF (.ite h.bump h))
  · exact .setF (.ite h.bump h)

protected theorem Tidy.raiseStamp {e inst t : ℕ} (h : Tidy u) : Tidy (raiseStamp e inst t u) := by
  unfold raiseStamp
  exact .ite h.set64.setF h.set64.setF

protected theorem Tidy.raiseRec {e inst t : ℕ} (h : Tidy u) : Tidy (raiseRec e inst t u) := by
  unfold raiseRec
  exact .ite h.emitRec h

protected theorem Tidy.raiseSnap {e t : ℕ} (h : Tidy u) : Tidy (raiseSnap e t u) := by
  unfold raiseSnap
  exact .ite h.snapTrigger h

protected theorem Tidy.raiseAt {e inst t : ℕ} (h : Tidy u) : Tidy (raiseAt e inst t u) := by
  unfold raiseAt
  exact .ite
      h
      (.irqRefresh (.coalRaise (.coalRaise (.ite
        h.raiseBit.raiseStamp.raiseRec.obsEvent.raiseSnap.trace
        h.raiseBit.raiseStamp.raiseRec.obsEvent.raiseSnap))))

protected theorem Tidy.raise {e inst : ℕ} (h : Tidy u) : Tidy (raise e inst u) := by
  unfold raise
  exact h.raiseAt

protected theorem Tidy.execEventRaise {e inst : ℕ} (h : Tidy u) : Ends (execEventRaise e inst u) := by
  unfold execEventRaise
  exact .next h.raise

protected theorem Tidy.execEventCoalesceRelease {g route t : ℕ} (h : Tidy u) : Ends (execEventCoalesceRelease g route t u) := by
  unfold execEventCoalesceRelease
  exact .next (.ite h.advance.releaseDue.irqRefresh h)

protected theorem Tidy.summaryRefresh {g : ℕ} (h : Tidy u) : Tidy (summaryRefresh g u) := by
  unfold summaryRefresh
  exact h.foldl fun _ _ h => h.setB

protected theorem Tidy.afterClear {g t : ℕ} (h : Tidy u) : Tidy (afterClear g t u) := by
  unfold afterClear
  exact .routesRefresh (.ite h.summaryRefresh.setCoal h.summaryRefresh)

protected theorem Tidy.clearStat {g w : ℕ} (h : Tidy u) : Tidy (clearStat g w u) := by
  unfold clearStat
  exact h.wr.afterClear

protected theorem Tidy.clearSum {j k w : ℕ} (h : Tidy u) : Tidy (clearSum j k w u) := by
  unfold clearSum
  exact h.wr.afterClear

/-! ## Guarded writes -/

protected theorem Tidy.refuseIn {p : RefTo} {code : ℕ} (h : Tidy u) : Tidy (refuseIn p code u) := by
  unfold refuseIn
  split
  · exact h.refuse
  · exact h.refuseInst

protected theorem Tidy.refuseAt {a code : ℕ} (h : Tidy u) : Tidy (refuseAt a code u) := by
  unfold refuseAt
  exact .ite h.refuseIn.refuse h.refuseIn

protected theorem Tidy.refuseDead {a : ℕ} (h : Tidy u) : Tidy (refuseDead a u) := by
  unfold refuseDead
  exact .ite h.refuseAt h.refuse

protected theorem Tidy.traceRegWrite {m : Master} {a w : ℕ} (h : Tidy u) : Tidy (traceRegWrite m a w u) := by
  unfold traceRegWrite
  exact .ite h.trace h

protected theorem Tidy.gated {m : Master} {a w : ℕ} {f : State → State} (h : Tidy u) (hf : ∀ x, Tidy x → Tidy (f x)) :
    Tidy (gated m a w f u) := by
  unfold gated
  exact .ite h (.ite (hf _ h.traceRegWrite) h.traceRegWrite.refuseDead)

protected theorem Tidy.regPut {a : ℕ} {w : Word} (h : Tidy u) : Tidy (regPut a w u) := by
  unfold regPut
  exact h.wr

protected theorem Tidy.plainWrite {a : ℕ} {w : Word} (h : Tidy u) : Tidy (plainWrite a w u) := by
  unfold plainWrite
  exact .ite h.regPut h.refuseAt

protected theorem Tidy.evtClear {a : ℕ} {w : Word} (h : Tidy u) : Tidy (evtClear a w u) := by
  unfold evtClear
  exact .ite h.clearStat h.clearSum

protected theorem Tidy.execEvtClearWrite {m : Master} {a : ℕ} {v : Word} (h : Tidy u) : Ends (execEvtClearWrite m a v u) := by
  unfold execEvtClearWrite
  exact .next (.ite (h.gated (fun _ h => h.evtClear)) h)

/-! ## The exciter's shared operations -/

protected theorem Tidy.paBalls {vdd bias rf mute : Bool} (h : Tidy u) : Tidy (paBalls vdd bias rf mute u) := by
  unfold paBalls
  exact h.beside

protected theorem Tidy.setLane {i : ℕ} {v : Lane} (h : Tidy u) : Tidy (u.setLane i v) := by
  unfold State.setLane
  exact h.beside

protected theorem Tidy.laneFeed {kind num : ℕ} {b : Block} (h : Tidy u) : Tidy (laneFeed kind num b u) := by
  unfold laneFeed
  exact h.forEach fun _ _ h => h.setLane

protected theorem Tidy.setCal {n : ℕ} {v : Cal} (h : Tidy u) : Tidy (u.setCal n v) := by
  unfold State.setCal
  exact h.beside

protected theorem Tidy.calReject {n reason : ℕ} (h : Tidy u) : Tidy (calReject n reason u) := by
  unfold calReject
  exact h.setF.setF.setF.setCal.bump.raise

protected theorem Tidy.laneFall {i : ℕ} (h : Tidy u) : Tidy (laneFall i u) := by
  unfold laneFall
  exact h.setLane

protected theorem Tidy.calAbandon (h : Tidy u) : Tidy (calAbandon u) := by
  unfold calAbandon
  exact .ite h.calReject h

protected theorem Tidy.laneGain {i : ℕ} (h : Tidy u) : Tidy (laneGain i u).2 := by
  unfold laneGain
  split
  · exact h.pair
  · exact h.free.setLane.pair

protected theorem Tidy.laneRise {i : ℕ} (h : Tidy u) : Tidy (laneRise i u) := by
  unfold laneRise
  exact h.laneGain.setLane.setF.setI.setB

protected theorem Tidy.laneSilent {i st : ℕ} (h : Tidy u) : Tidy (laneSilent i st u) := by
  unfold laneSilent
  exact h.setLane.setF.setF

protected theorem Tidy.lanesFollow {st : ℕ} (h : Tidy u) : Tidy (lanesFollow st u) := by
  unfold lanesFollow
  exact h.forEach fun _ _ h => .ite h <| .ite (.ite h.laneRise h) <| .ite (.ite h.setF h) <| .ite h <| .ite h.laneFall h.laneSilent

protected theorem Tidy.excEnter {st : ℕ} (h : Tidy u) : Tidy (excEnter st u) := by
  unfold excEnter
  exact .lanesFollow (.paBalls (.setF (.ite h.calAbandon.beside h)))

protected theorem Tidy.excMuted {cause : ℕ} (h : Tidy u) : Tidy (excMuted cause u) := by
  unfold excMuted
  exact h.setF.bump.raise

protected theorem Tidy.excHold {cause : ℕ} (h : Tidy u) : Tidy (excHold cause u) := by
  unfold excHold
  exact .ite h.excEnter.excMuted.beside h

protected theorem Tidy.excRelease {cause : ℕ} (h : Tidy u) : Tidy (excRelease cause u) := by
  unfold excRelease
  exact .ite h.paBalls h.excEnter.excMuted.beside

protected theorem Tidy.excRdsPush {n : ℕ} {words : List ℕ} (h : Tidy u) : Tidy (excRdsPush n words u) := by
  unfold excRdsPush
  exact h.forEach fun _ _ h => .ite h.setLane h

/-! ## A STEP of SYSCNT -/

protected theorem Tidy.moveInstants {d : ℤ} (h : Tidy u) : Tidy (moveInstants d u) := by
  unfold moveInstants
  exact h.beside

protected theorem Tidy.progSkip {old p : ℕ} (h : Tidy u) : Tidy (progSkip old p u) := by
  unfold progSkip
  exact .ite h h.bumpBy.beside

protected theorem Tidy.pathSkip {old n : ℕ} (h : Tidy u) : Tidy (pathSkip old n u) := by
  unfold pathSkip
  exact .ite h h.bumpBy.beside

protected theorem Tidy.decSkip {old d : ℕ} (h : Tidy u) : Tidy (decSkip old d u) := by
  unfold decSkip
  exact .ite h.beside h

protected theorem Tidy.dropSkipped {old : ℕ} (h : Tidy u) : Tidy (dropSkipped old u) := by
  unfold dropSkipped
  exact .forEach (.forEach (h.forEach fun _ _ h => h.progSkip) fun _ _ h => h.pathSkip) fun _ _ h => h.decSkip

/-! ## The clock -/

protected theorem Tidy.loadDivider {n : ℕ} (h : Tidy u) : Tidy (loadDivider n u) := by
  unfold loadDivider
  exact h.setF.setF.setF.beside

protected theorem Tidy.lfsrSettle (h : Tidy u) : Tidy (lfsrSettle u) := by
  unfold lfsrSettle
  exact .ite h.beside h

protected theorem Tidy.spllFollow {b : Bool} (h : Tidy u) : Tidy (spllFollow b u) := by
  unfold spllFollow
  exact .ite h h.lfsrSettle.beside

protected theorem Tidy.commitWrite (h : Tidy u) : Tidy (commitWrite u) := by
  unfold commitWrite
  exact .ite h.refuse (.ite h.refuse (.ite h.refuse h.setF.beside))

protected theorem Tidy.execSpllCommit {m : Master} (h : Tidy u) : Ends (execSpllCommit m u) := by
  unfold execSpllCommit
  exact .next (h.gated (fun _ h => h.commitWrite))

protected theorem Tidy.spllEnter {st : ℕ} (h : Tidy u) : Tidy (spllEnter st u) := by
  unfold spllEnter
  exact h.setF.setB.setB.setF.setB.setB

protected theorem Tidy.startCount (h : Tidy u) : Tidy (startCount u) := by
  unfold startCount
  exact .ite h h.beside

protected theorem Tidy.setInput {a : ℕ} {i : Input} (h : Tidy u) : Tidy (u.setInput a i) := by
  unfold State.setInput
  exact h.beside

protected theorem Tidy.learned (h : Tidy u) : Tidy (u.learned).2 := by
  unfold State.learned
  split
  · exact h.pair
  · exact h.free.pair

protected theorem Tidy.bufSuspect {tf : ℕ} (h : Tidy u) : Tidy (bufSuspect tf u) := by
  unfold bufSuspect
  exact h.forEach fun _ _ h => .ite h h.setInput

protected theorem Tidy.spllLose {tf : ℕ} (h : Tidy u) : Tidy (spllLose tf u) := by
  unfold spllLose
  exact .ite
      (.raise (.calAbandon (.excHold (.bufSuspect (.beside (.bump (.setF (.spllEnter (.spllFollow (.ite h.learned.setI h))))))))))
      h

protected theorem Tidy.spllLoseNow (h : Tidy u) : Tidy (spllLoseNow u) := by
  unfold spllLoseNow
  exact h.spllLose

protected theorem Tidy.execSpllLoss {tf : ℕ} (h : Tidy u) : Ends (execSpllLoss tf u) := by
  unfold execSpllLoss
  exact .next h.spllLose

protected theorem Tidy.commitTake {v : ℕ × ℕ × ℕ × ℕ × Bool} (h : Tidy u) : Tidy (commitTake v u) := by
  unfold commitTake
  exact h.beside.setF.raise

protected theorem Tidy.execDivCommit (h : Tidy u) : Ends (execDivCommit u) := by
  unfold execDivCommit
  exact .next
      (by
        split
        · exact .ite h.spllLoseNow.commitTake.setF.spllEnter.spllFollow h.commitTake
        · exact h)

protected theorem Tidy.srcWrite {src : ℕ} (h : Tidy u) : Tidy (srcWrite src u) := by
  unfold srcWrite
  exact .ite
      h.refuse
      (.ite
        h
        (.ite
          h.spllLoseNow.spllFollow.setF.setF.spllEnter
          (.ite h.spllLoseNow.spllFollow.setF.setF.spllEnter h.spllLoseNow.spllFollow.setF.setF)))

protected theorem Tidy.execClkSrcChange {m : Master} {src : ℕ} (h : Tidy u) : Ends (execClkSrcChange m src u) := by
  unfold execClkSrcChange
  exact .next (h.gated (fun _ h => h.srcWrite))

protected theorem Tidy.execRefWindow {freq : ℕ} (h : Tidy u) : Ends (execRefWindow freq u) := by
  unfold execRefWindow
  exact .next (.ite h (.setF (.beside (.ite (.setF (.ite h.spllLoseNow h)) (.ite h.spllLoseNow h)))))

protected theorem Tidy.stepSyscnt {delta : ℤ} (h : Tidy u) : Tidy (stepSyscnt delta u) := by
  unfold stepSyscnt
  exact h.beside.moveInstants.beside.dropSkipped.raise

protected theorem Tidy.moveAnchor {delta : ℤ} (h : Tidy u) : Tidy (moveAnchor delta u) := by
  unfold moveAnchor
  exact h.setF.setF.setF.setF.beside

protected theorem Tidy.execRefQualify {phase : ℤ} (h : Tidy u) : Ends (execRefQualify phase u) := by
  unfold execRefQualify
  extract_lets +onlyGivenNames delta
  refine .next (.ite h ?_)
  extract_lets s0 back s1 _ s2 s3
  have h3 : Tidy s3 := .raise (.bump (.setI (.beside (.spllFollow (.spllEnter (.setF (.ite h.loadDivider h)))))))
  exact .ite h3.setB <| .ite h3.setB.stepSyscnt <| .ite h3.setB.beside (.ite h3.setB.raise.moveAnchor h3.setB.raise)

protected theorem Tidy.execSpllLock (h : Tidy u) : Ends (execSpllLock u) := by
  unfold execSpllLock
  exact .next (.ite h.spllEnter.startCount.beside h)

protected theorem Tidy.execSpllFail (h : Tidy u) : Ends (execSpllFail u) := by
  unfold execSpllFail
  exact .next (.ite h.spllEnter.spllFollow.beside.raise h)

protected theorem Tidy.execHoldSecond (h : Tidy u) : Ends (execHoldSecond u) := by
  unfold execHoldSecond
  exact .next (.ite h.bump h)

protected theorem Tidy.execSlewDone (h : Tidy u) : Ends (execSlewDone u) := by
  unfold execSlewDone
  exact .next (.ite h.advance.spllEnter.beside.raise h)

protected theorem Tidy.execProgrammeClockFade {p : ℕ} (h : Tidy u) : Ends (execProgrammeClockFade p u) := by
  unfold execProgrammeClockFade
  exact .next (.ite h.beside h)

protected theorem Tidy.readSyscnt (h : Tidy u) : Tidy (readSyscnt u) := by
  unfold readSyscnt
  exact h.wr.wr

protected theorem Tidy.execSyscntRead (h : Tidy u) : Ends (execSyscntRead u) := by
  unfold execSyscntRead
  exact .next (.ite h.readSyscnt h)

/-! ## Streams -/

protected theorem Tidy.gainSet {a t : ℕ} {g : Gain} (h : Tidy u) : Tidy (gainSet a t g u) := by
  unfold gainSet
  exact .ite h.setInput h.setInput

protected theorem Tidy.setPod {p : ℕ} {v : Pod} (h : Tidy u) : Tidy (u.setPod p v) := by
  unfold State.setPod
  exact h.beside

protected theorem Tidy.releaseNote {kind num t : ℕ} {b : Option Block} (h : Tidy u) : Tidy (releaseNote kind num t b u) := by
  unfold releaseNote
  exact h.beside

protected theorem Tidy.streamNote {kind num : ℕ} {b : Block} (h : Tidy u) : Tidy (streamNote kind num b u) := by
  unfold streamNote
  exact h.beside

protected theorem Tidy.leekHeal {a : ℕ} (h : Tidy u) : Tidy (leekHeal a u) := by
  unfold leekHeal
  exact h.setInput

protected theorem Tidy.leekEmpty {a : ℕ} (h : Tidy u) : Tidy (leekEmpty a u) := by
  unfold leekEmpty
  exact h.setInput

protected theorem Tidy.binLose {a rel : ℕ} (h : Tidy u) : Tidy (binLose a rel u) := by
  unfold binLose
  exact h.setInput

protected theorem Tidy.leekMiss {a ts : ℕ} (h : Tidy u) : Tidy (leekMiss a ts u) := by
  unfold leekMiss
  exact h.bumpBy.setInput

protected theorem Tidy.leekVoid {a : ℕ} {b : Bool} (h : Tidy u) : Tidy (leekVoid a b u) := by
  unfold leekVoid
  exact .ite h.setInput (.ite h.setInput h)

/-! ## The front end -/

protected theorem Tidy.gainTake {a t : ℕ} (h : Tidy u) : Tidy (gainTake a t u) := by
  unfold gainTake
  exact h.setF.setF.setF.set64.gainSet.raiseAt

protected theorem Tidy.gainApplyOne {a boundary : ℕ} (h : Tidy u) : Tidy (gainApplyOne a boundary u) := by
  unfold gainApplyOne
  exact .ite h.refuse <| .ite h.refuse <| .ite h.gainTake <| .ite h h.setF.setInput

protected theorem Tidy.gainApply {inA inB : Bool} (h : Tidy u) : Tidy (gainApply inA inB u) := by
  unfold gainApply
  exact .ite (.gainApplyOne (.ite h.free.gainApplyOne h.free)) (.ite h.free.gainApplyOne h.free)

protected theorem Tidy.execGainApply {m : Master} {inA inB : Bool} (h : Tidy u) : Ends (execGainApply m inA inB u) := by
  unfold execGainApply
  exact .next (h.gated (fun _ h => h.gainApply))

protected theorem Tidy.execGainApplied {a t : ℕ} (h : Tidy u) : Ends (execGainApplied a t u) := by
  unfold execGainApplied
  exact .next (.ite h.advance.gainTake h)

protected theorem Tidy.execOvlWindowEnd {a t clipped : ℕ} {peak avg : ℤ} (h : Tidy u) :
    Ends (execOvlWindowEnd a t clipped peak avg u) := by
  unfold execOvlWindowEnd
  refine .next (.ite h ?_)
  extract_lets i isClip isPeak s1 s2 s3 s4 s5 _ s5' s6
  have h2 : Tidy s2 := .ite h.advance.bumpBy.bump h.advance.bumpBy
  have h5 : Tidy s5 := .setInput (.setI (.setI (.ite h2.bump h2)))
  have h5' : Tidy s5' := .ite h5.setCal h5
  have h6 : Tidy s6 := .ite h5'.raiseAt h5'
  exact .ite h6.raiseAt h6

protected theorem Tidy.execLnaProtect {a : ℕ} (h : Tidy u) : Ends (execLnaProtect a u) := by
  unfold execLnaProtect
  exact .next (.ite h (.ite h.setF.bump.raise.setF.setF.gainSet h.setF.bump.raise))

protected theorem Tidy.snapTap {b : AdcBlock} {refused : Bool} (h : Tidy u) : Tidy (snapTap b refused u) := by
  unfold snapTap
  exact .ite
      (.ite
        (.ite h.snapTrigger h)
        (.beside (.set64 (.ite
          (.setF (.setF (.ite (.store (.bump (.ite h.snapTrigger h))) (.store (.winAdmit (.ite h.snapTrigger h))))))
          (.setF (.ite (.store (.bump (.ite h.snapTrigger h))) (.store (.winAdmit (.ite h.snapTrigger h)))))))))
      (.ite h.snapTrigger h)

protected theorem Tidy.ebufRead {a n : ℕ} (h : Tidy u) : Tidy (ebufRead a n u) := by
  unfold ebufRead
  extract_lets
  split
  · exact h
  · exact h.setInput

protected theorem Tidy.ebufPush {a : ℕ} {b : AdcBlock} (h : Tidy u) : Tidy (ebufPush a b u) := by
  unfold ebufPush
  exact .setF (.setF (by
      split
      · exact .ite (.ite h.bump.setInput.leekMiss.raise h.bump.setInput.leekMiss) h.setInput
      · exact h.setInput))

protected theorem Tidy.ebufClear {a : ℕ} {new : List AdcBlock} (h : Tidy u) : Tidy (ebufClear a new u) := by
  unfold ebufClear
  exact h.setInput.setF

protected theorem Tidy.orxNote {b : AdcBlock} (h : Tidy u) : Tidy (orxNote b u) := by
  unfold orxNote
  exact h.beside

protected theorem Tidy.execAdcBlockArrival {a ts : ℕ} {samples : List ℕ} {leekReads : ℕ} {snapRefused : Bool} (h : Tidy u) :
    Ends (execAdcBlockArrival a ts samples leekReads snapRefused u) := by
  unfold execAdcBlockArrival
  exact .next
      (.ite
        h
        (.ite
          h.advance.setInput.snapTap.ebufRead.ebufPush
          (.ite h.advance.setInput.snapTap.ebufClear h.advance.setInput.snapTap.orxNote)))

end

end Sys2Proof.Machine
end

section
/-! SUPPORT. The service link and calibration keep the canonical form. -/

set_option Elab.async false

namespace Sys2Proof.Machine

section
variable {u : State}

/-! ## The service link -/

protected theorem Tidy.setSlEntry {c : ℕ} {e : SlEntry} (h : Tidy u) : Tidy (u.setSlEntry c e) := by
  unfold State.setSlEntry
  exact h.beside

protected theorem Tidy.cal5Refresh (h : Tidy u) : Tidy (cal5Refresh u) := by
  unfold cal5Refresh
  exact h.setB.setB

protected theorem Tidy.slFill {c : ℕ} {trims : List Byte} (h : Tidy u) : Tidy (slFill c trims u) := by
  unfold slFill
  exact .ite h.beside.bump.setI.setF.set64.setSlEntry.setF.raise.cal5Refresh h.beside.bump.setI.setF.set64

protected theorem Tidy.slEmpty {c : ℕ} (h : Tidy u) : Tidy (slEmpty c u) := by
  unfold slEmpty
  exact h.setSlEntry.setF.cal5Refresh

protected theorem Tidy.slStale (h : Tidy u) : Tidy (slStale u) := by
  unfold slStale
  exact h.beside.cal5Refresh

protected theorem Tidy.slDutyShow (h : Tidy u) : Tidy (slDutyShow u) := by
  unfold slDutyShow
  exact h.forEach fun _ _ h => h.setF

protected theorem Tidy.slDutyAdd {c h' : ℕ} (h : Tidy u) : Tidy (slDutyAdd c h' u) := by
  unfold slDutyAdd
  split
  · exact h
  · exact h.beside.slDutyShow

protected theorem Tidy.slEnter {st : ℕ} (h : Tidy u) : Tidy (slEnter st u) := by
  unfold slEnter
  exact h.setF.beside

protected theorem Tidy.slUnlock (h : Tidy u) : Tidy (slUnlock u) := by
  unfold slUnlock
  exact h.setF.setF

protected theorem Tidy.slRetune {c : ℕ} (h : Tidy u) : Tidy (slRetune c u) := by
  unfold slRetune
  exact h.setF.slUnlock.beside

protected theorem Tidy.slTune {goal c : ℕ} (h : Tidy u) : Tidy (slTune goal c u) := by
  unfold slTune
  exact .ite h.beside.slEnter (.ite h.beside (.slEnter (.slRetune (.ite h.beside.beside h.beside))))

protected theorem Tidy.slReturn {ret c : ℕ} (h : Tidy u) : Tidy (slReturn ret c u) := by
  unfold slReturn
  exact .ite h.slTune (.ite h.slTune h.slTune)

protected theorem Tidy.slHopNext (h : Tidy u) : Tidy (slHopNext u) := by
  unfold slHopNext
  exact h.setF

protected theorem Tidy.slReqLow (h : Tidy u) : Tidy (slReqLow u) := by
  unfold slReqLow
  exact h.beside

protected theorem Tidy.slTxOver (h : Tidy u) : Tidy (slTxOver u) := by
  unfold slTxOver
  exact .slReqLow (.beside (.ite h.slHopNext h))

protected theorem Tidy.slTxEnd (h : Tidy u) : Tidy (slTxEnd u) := by
  unfold slTxEnd
  exact h.slTxOver.slReturn

protected theorem Tidy.slCut (h : Tidy u) : Tidy (slCut u) := by
  unfold slCut
  exact h.setF.slDutyAdd

protected theorem Tidy.slTxAbort {cause : ℕ} (h : Tidy u) : Tidy (slTxAbort cause u) := by
  unfold slTxAbort
  exact .ite h.setF.bump.slCut.raise h.setF.bump

protected theorem Tidy.slTxRefuse {reason c : ℕ} (h : Tidy u) : Tidy (slTxRefuse reason c u) := by
  unfold slTxRefuse
  exact .ite h.setF.bump.raise.refuseAt (.ite h.setF.bump.raise.refuseAt h.setF.bump.raise)

protected theorem Tidy.slDown (h : Tidy u) : Tidy (slDown u) := by
  unfold slDown
  exact h.slUnlock.slEnter.slReqLow.beside

protected theorem Tidy.slSend (h : Tidy u) : Tidy (slSend u) := by
  unfold slSend
  exact h.slEnter.beside

protected theorem Tidy.slAskGrant (h : Tidy u) : Tidy (slAskGrant u) := by
  unfold slAskGrant
  exact .ite h.beside h.slSend

protected theorem Tidy.slProceed (h : Tidy u) : Tidy (slProceed u) := by
  unfold slProceed
  split
  · exact .ite h.slAskGrant h.beside
  · exact h.slAskGrant

protected theorem Tidy.slStartLock (h : Tidy u) : Tidy (slStartLock u) := by
  unfold slStartLock
  exact .ite h (.ite h.slProceed (.ite h h.slRetune))

protected theorem Tidy.slTxCmd {c : ℕ} {hop : Bool} (h : Tidy u) : Tidy (slTxCmd c hop u) := by
  unfold slTxCmd
  exact .ite (.ite h.slTxRefuse.slHopNext h.slTxRefuse) h.beside.slEnter.slStartLock

protected theorem Tidy.slCalCmd {c : ℕ} (h : Tidy u) : Tidy (slCalCmd c u) := by
  unfold slCalCmd
  exact .ite h.beside h.slUnlock.slEnter.beside

protected theorem Tidy.slRun {op c : ℕ} {hop : Bool} (h : Tidy u) : Tidy (slRun op c hop u) := by
  unfold slRun
  exact .ite h.slCalCmd h.beside.slTune

protected theorem Tidy.slAbortCmd (h : Tidy u) : Tidy (slAbortCmd u) := by
  unfold slAbortCmd
  exact .ite h.slTxAbort.slTxEnd (.ite (.slReturn (.beside (.ite h.setF.bump.slHopNext h.setF.bump))) h)

protected theorem Tidy.slOffCmd (h : Tidy u) : Tidy (slOffCmd u) := by
  unfold slOffCmd
  exact .ite h.slTxAbort.slTxOver.slDown (.ite (.slDown (.ite h.setF.bump.slHopNext h.setF.bump)) h.slDown)

protected theorem Tidy.slCommand {op : ℕ} {hop : Bool} {ch : ℕ} (h : Tidy u) : Tidy (slCommand op hop ch u) := by
  unfold slCommand
  exact .ite h.slOffCmd <| .ite h.slAbortCmd <| .ite h.refuseAt <|
      .ite h.refuseAt (.ite h.refuseAt <| .ite h.refuseAt <| .ite h.slTxCmd <| .ite h.beside h.slRun)

protected theorem Tidy.execSlStandby {m : Master} {hop : Bool} {ch : ℕ} (h : Tidy u) : Ends (execSlStandby m hop ch u) := by
  unfold execSlStandby
  exact .next (h.gated (fun _ h => h.slCommand))

protected theorem Tidy.execSlRx {m : Master} {hop : Bool} {ch : ℕ} (h : Tidy u) : Ends (execSlRx m hop ch u) := by
  unfold execSlRx
  exact .next (h.gated (fun _ h => h.slCommand))

protected theorem Tidy.execSlTx {m : Master} {hop : Bool} {ch : ℕ} (h : Tidy u) : Ends (execSlTx m hop ch u) := by
  unfold execSlTx
  exact .next (h.gated (fun _ h => h.slCommand))

protected theorem Tidy.execSlOff {m : Master} (h : Tidy u) : Ends (execSlOff m u) := by
  unfold execSlOff
  exact .next (h.gated (fun _ h => h.slCommand))

protected theorem Tidy.execSlCal {m : Master} {hop : Bool} {ch : ℕ} (h : Tidy u) : Ends (execSlCal m hop ch u) := by
  unfold execSlCal
  exact .next (h.gated (fun _ h => h.slCommand))

protected theorem Tidy.execSlAbort {m : Master} (h : Tidy u) : Ends (execSlAbort m u) := by
  unfold execSlAbort
  exact .next (h.gated (fun _ h => h.slCommand))

protected theorem Tidy.slCalFail {c : ℕ} (h : Tidy u) : Tidy (slCalFail c u) := by
  unfold slCalFail
  exact .ite (.slDown (.ite h.calReject.beside.beside.slTxRefuse.slTxOver h.calReject.beside.beside)) h.calReject.beside.beside

protected theorem Tidy.slCalEnd {c : ℕ} {trims : List Byte} {ok : Bool} (h : Tidy u) : Tidy (slCalEnd c trims ok u) := by
  unfold slCalEnd
  exact .ite
      h.slCalFail
      (by
        extract_lets
        split
        · exact .ite
            (.ite h.slFill.beside.slStartLock (.ite h.slFill.beside.slDown h.slFill.beside.slRetune.slEnter))
            (.slRun (.ite h.slFill.beside.slStartLock (.ite h.slFill.beside.slDown h.slFill.beside.slRetune.slEnter)))
        · exact .ite h.slFill.beside.slStartLock (.ite h.slFill.beside.slDown h.slFill.beside.slRetune.slEnter))

protected theorem Tidy.slLocked (h : Tidy u) : Tidy (slLocked u) := by
  unfold slLocked
  exact .ite h.setF.setF.beside.slProceed h.setF.setF.beside.slEnter

protected theorem Tidy.execSlLock {t : ℕ} {trims : List Byte} {ok : Bool} (h : Tidy u) : Ends (execSlLock t trims ok u) := by
  unfold execSlLock
  exact .next
      (.ite
        h
        (by
          split
          · exact h.advance.slCalEnd
          · exact .ite (.ite h.advance.slLocked (.ite h.advance.slFill.slLocked h.advance.slCalFail)) h))

protected theorem Tidy.slLoseLock (h : Tidy u) : Tidy (slLoseLock u) := by
  unfold slLoseLock
  refine .ite h ?_
  extract_lets c lost synced rxGone
  have hlost : ∀ {x}, Tidy x → Tidy (lost x) := fun h => h.slRetune
  have hgone : ∀ {x}, Tidy x → Tidy (rxGone x) := fun h =>
    .ite (.beside (.ite h.setF.bump.slHopNext h.setF.bump)) (.ite h.setF.beside h)
  exact .ite (hlost h.slTxAbort).slTxEnd <|
    .ite (.ite (hlost (hgone h)).slEnter.slReturn (hlost (hgone h.beside)).slEnter) <|
    .ite (hgone h).beside.slRetune (hlost h).slEnter

protected theorem Tidy.execSlLockLoss {t : ℕ} (h : Tidy u) : Ends (execSlLockLoss t u) := by
  unfold execSlLockLoss
  exact .next h.advance.slLoseLock

protected theorem Tidy.execHkStop (h : Tidy u) : Ends (execHkStop u) := by
  unfold execHkStop
  exact .next (.ite h h.setF.setF.excRelease.slLoseLock)

protected theorem Tidy.execHkRestore (h : Tidy u) : Ends (execHkRestore u) := by
  unfold execHkRestore
  exact .next (.ite h h.setF.setF)

protected theorem Tidy.slRxStart {captured : Bool} {p : SlDetect} (h : Tidy u) : Tidy (slRxStart captured p u) := by
  unfold slRxStart
  exact h.slEnter.beside

protected theorem Tidy.execSlPreambleDetect {chips : ℕ} {db : ℤ} {p : SlDetect} (h : Tidy u) :
    Ends (execSlPreambleDetect chips db p u) := by
  unfold execSlPreambleDetect
  exact .next
      (.ite
        h
        (.ite
          h.slRxStart
          (by
            split
            · exact .ite h.bump.slRxStart h
            · exact h)))

protected theorem Tidy.execSlCapture {db : ℤ} {p : SlDetect} (h : Tidy u) : Ends (execSlCapture db p u) := by
  unfold execSlCapture
  exact .next
      (by
        split
        · exact .ite h (.ite h.setF.bump.raise.slRxStart h.bump)
        · exact h)

protected theorem Tidy.slRxDrop (h : Tidy u) : Tidy (slRxDrop u) := by
  unfold slRxDrop
  exact .ite h.beside.slStartLock h.beside.slEnter

protected theorem Tidy.slRxEnd (h : Tidy u) : Tidy (slRxEnd u) := by
  unfold slRxEnd
  exact .ite (.slStartLock (.beside (.ite h.slHopNext h))) (.slReturn (.beside (.ite h.slHopNext h)))

protected theorem Tidy.execSlSyncFound {word rho ts : ℕ} {foff : ℤ} (h : Tidy u) : Ends (execSlSyncFound word rho ts foff u) := by
  unfold execSlSyncFound
  exact .next
      (by
        split
        · exact .ite h h.beside
        · exact h)

protected theorem Tidy.execSlSyncTimeout {t : ℕ} (h : Tidy u) : Ends (execSlSyncTimeout t u) := by
  unfold execSlSyncTimeout
  exact .next
      (by
        split
        · exact .ite h.advance.bump.slRxDrop h
        · exact h)

protected theorem Tidy.execSlHeader {raw : List ℕ} {t : ℕ} (h : Tidy u) : Ends (execSlHeader raw t u) := by
  unfold execSlHeader
  exact .next
      (by
        split
        · exact .ite h (.ite h.advance.bump.slRxDrop h.advance.beside)
        · exact h)

protected theorem Tidy.slStore {r : SlRx} {good : Bool} {pay : List ℕ} (h : Tidy u) : Tidy (slStore r good pay u) := by
  unfold slStore
  exact .ite h.bump (.raise (.beside (.setF (.setF (h.free.forEach fun _ _ h => h.wr)))))

protected theorem Tidy.execSlRxDone {raw : List ℕ} {t : ℕ} (h : Tidy u) : Ends (execSlRxDone raw t u) := by
  unfold execSlRxDone
  exact .next
      (by
        split
        · split
          · exact .ite h.advance.bump.slStore.slRxEnd (.slRxEnd (.ite h.advance.bump.slStore h.advance.bump))
          · exact h
        · exact h)

protected theorem Tidy.slFree {w : Word} (h : Tidy u) : Tidy (slFree w u) := by
  unfold slFree
  exact h.setF.setF

protected theorem Tidy.execSlRxFree {m : Master} {v : Word} (h : Tidy u) : Ends (execSlRxFree m v u) := by
  unfold execSlRxFree
  exact .next (h.gated (fun _ h => h.slFree))

protected theorem Tidy.execSlLbtEnd {rssi : ℤ} {t : ℕ} (h : Tidy u) : Ends (execSlLbtEnd rssi t u) := by
  unfold execSlLbtEnd
  exact .next
      (.ite
        (by
          extract_lets
          split
          · exact .ite h.advance.slTxRefuse.slTxEnd h.advance.slAskGrant
          · exact h.advance.slAskGrant) h)

protected theorem Tidy.execSlGrant {t : ℕ} (h : Tidy u) : Ends (execSlGrant t u) := by
  unfold execSlGrant
  exact .next (.ite h.advance.beside.slSend h.advance.beside)

protected theorem Tidy.execSlGrantTimeout {t : ℕ} (h : Tidy u) : Ends (execSlGrantTimeout t u) := by
  unfold execSlGrantTimeout
  exact .next (.ite h.advance.slTxRefuse.slTxEnd h)

protected theorem Tidy.execSlTxDone {t : ℕ} (h : Tidy u) : Ends (execSlTxDone t u) := by
  unfold execSlTxDone
  exact .next (.ite h.advance.setF.bump.slDutyAdd.raise.slTxEnd h)

protected theorem Tidy.execSlGntLost {t : ℕ} (h : Tidy u) : Ends (execSlGntLost t u) := by
  unfold execSlGntLost
  exact .next (.ite h.advance.beside.bump.raise.slTxAbort.slTxEnd h.advance.beside)

protected theorem Tidy.execSlDutyBin {t : ℕ} (h : Tidy u) : Ends (execSlDutyBin t u) := by
  unfold execSlDutyBin
  exact .next h.advance.beside.slDutyShow

protected theorem Tidy.execSlBgcal {c t : ℕ} {trims : List Byte} {ok : Bool} (h : Tidy u) :
    Ends (execSlBgcal c t trims ok u) := by
  unfold execSlBgcal
  exact .next
      (.ite
        (by
          split
          · exact h.advance.slCalEnd
          · exact h) (.ite h.advance.slUnlock.slEnter.beside h))

protected theorem Tidy.slRemap (h : Tidy u) : Tidy (slRemap u) := by
  unfold slRemap
  exact .ite h.slTxAbort.slTxEnd (.ite h.setF.bump.slRxEnd h)

protected theorem Tidy.slLicence {st : ℕ} {bands : List SlBand} (h : Tidy u) : Tidy (slLicence st bands u) := by
  unfold slLicence
  exact .ite
      (.slTxEnd (.slTxAbort (.ite h.setF.setF.beside.slDutyShow h.setF.setF)))
      (.ite h.setF.setF.beside.slDutyShow h.setF.setF)

protected theorem Tidy.slkRegWrite {a : ℕ} {w : Word} (h : Tidy u) : Tidy (slkRegWrite a w u) := by
  unfold slkRegWrite
  exact .ite h.slCommand <| .ite h.slFree <| .ite h.refuseAt <| .ite h.refuseAt <| .ite h.refuseAt <|
      .ite (.ite h.refuseAt (.ite h.refuseAt h.regPut.slEmpty)) h.plainWrite

/-! ## Calibration -/

protected theorem Tidy.calEnter {n : ℕ} (h : Tidy u) : Tidy (calEnter n u) := by
  unfold calEnter
  exact h.setCal.setF

protected theorem Tidy.calRequest {n src : ℕ} (h : Tidy u) : Tidy (calRequest n src u) := by
  unfold calRequest
  exact .ite (.calEnter (.ite h.setCal.setF h.setCal)) (.raise (.setF (.ite h.setCal.setF h.setCal)))

protected theorem Tidy.calStartUp (h : Tidy u) : Tidy (calStartUp u) := by
  unfold calStartUp
  exact h.forEach fun _ _ h => h.calRequest

protected theorem Tidy.calFollow {n : ℕ} (h : Tidy u) : Tidy (calFollow n u) := by
  unfold calFollow
  exact .setB (.ite h.setF h)

protected theorem Tidy.calCmdWrite {op n : ℕ} (h : Tidy u) : Tidy (calCmdWrite op n u) := by
  unfold calCmdWrite
  exact .ite h.refuse <| .ite (.ite h.refuse h.calRequest) <| .ite h.refuse <| .ite h.refuse h.calReject

protected theorem Tidy.execCalRun {m : Master} {n : ℕ} (h : Tidy u) : Ends (execCalRun m n u) := by
  unfold execCalRun
  exact .next (h.gated (fun _ h => h.calCmdWrite))

protected theorem Tidy.execCalCancel {m : Master} {n : ℕ} (h : Tidy u) : Ends (execCalCancel m n u) := by
  unfold execCalCancel
  exact .next (h.gated (fun _ h => h.calCmdWrite))

protected theorem Tidy.execCalTempCheck {t : ℕ} (h : Tidy u) : Ends (execCalTempCheck t u) := by
  unfold execCalTempCheck
  exact .next
      (.ite
        h
        (.ite
          (h.advance.slStale.forEach fun _ _ h => h.calFollow)
          (.forEach (h.advance.slStale.forEach fun _ _ h => h.calFollow) fun _ _ h => .ite h.calRequest h)))

protected theorem Tidy.execCalCondMet {n t : ℕ} (h : Tidy u) : Ends (execCalCondMet n t u) := by
  unfold execCalCondMet
  exact .next (.ite h (.ite h.advance.calEnter (.ite h.advance.calRequest h)))

protected theorem Tidy.execCalWait {n t : ℕ} (h : Tidy u) : Ends (execCalWait n t u) := by
  unfold execCalWait
  exact .next (.ite h.advance.calFollow.calRequest h)

protected theorem Tidy.execCalWaitTimeout {n t : ℕ} (h : Tidy u) : Ends (execCalWaitTimeout n t u) := by
  unfold execCalWaitTimeout
  exact .next (.ite h.advance.calReject h)

protected theorem Tidy.execCalMeasureDone {n : ℕ} {q : CalMeas} {t : ℕ} (h : Tidy u) : Ends (execCalMeasureDone n q t u) := by
  unfold execCalMeasureDone
  exact .next (.ite h (.ite h.advance.setCal h.advance.calReject))

protected theorem Tidy.calTake {n res ta : ℕ} {temp : ℤ} {trims : List Byte} (h : Tidy u) :
    Tidy (calTake n res ta temp trims u) := by
  unfold calTake
  exact h.setF.setF.setI.set64.bump.setCal.setF.setF.raiseAt

protected theorem Tidy.execCalDone {n t : ℕ} (h : Tidy u) : Ends (execCalDone n t u) := by
  unfold execCalDone
  exact .next
      (by
        split
        · exact .ite h.advance.setF.setCal.calTake h
        · exact h)

protected theorem Tidy.execCalAbandon {t : ℕ} (h : Tidy u) : Ends (execCalAbandon t u) := by
  unfold execCalAbandon
  exact .next (.ite h.advance.calAbandon h)

protected theorem Tidy.winPut {a : ℕ} {l : List Byte} (h : Tidy u) : Tidy (winPut a l u) := by
  unfold winPut
  exact h.beside

protected theorem Tidy.calSave (h : Tidy u) : Tidy (calSave u) := by
  unfold calSave
  exact h.winPut.setF.setF

protected theorem Tidy.calRestoreOne {l : List Byte} {n : ℕ} {ok : Bool} (h : Tidy u) : Tidy (calRestoreOne l n ok u) := by
  unfold calRestoreOne
  exact .ite h.setF (.ite h.setF.bump.setF.setF.raise (.ite h.calTake.setF.calFollow.calRequest h.calTake.setF.calFollow))

protected theorem Tidy.calRestoreSl {l : List Byte} {ok : Bool} (h : Tidy u) : Tidy (calRestoreSl l ok u) := by
  unfold calRestoreSl
  exact .ite h.setF (.ite h.setF.bump.raise (.slStale (.setF (h.forEach fun _ _ h => .ite h.setSlEntry.setF h))))

protected theorem Tidy.calRestore {ok : List Bool} (h : Tidy u) : Tidy (calRestore ok u) := by
  unfold calRestore
  exact .ite
      h.setF.setF.setF.setF.setF
      (h.setF.setF.setF.setF.setF.setB.setF.forEach fun _ _ h => .ite (.ite h.calRestoreSl h.calRestoreOne) h)

protected theorem Tidy.calImgWrite {w : ℕ} {ok : List Bool} (h : Tidy u) : Tidy (calImgWrite w ok u) := by
  unfold calImgWrite
  exact .ite h.refuse <| .ite h.refuse <| .ite h.calSave <| .ite h.calRestore h

protected theorem Tidy.execCalImgSave {m : Master} (h : Tidy u) : Ends (execCalImgSave m u) := by
  unfold execCalImgSave
  exact .next (h.gated (fun _ h => h.calImgWrite))

protected theorem Tidy.execCalImgRestore {m : Master} {ok : List Bool} (h : Tidy u) : Ends (execCalImgRestore m ok u) := by
  unfold execCalImgRestore
  exact .next (h.gated (fun _ h => h.calImgWrite))

protected theorem Tidy.calRegWrite {a : ℕ} {w : Word} (h : Tidy u) : Tidy (calRegWrite a w u) := by
  unfold calRegWrite
  exact .ite h.calCmdWrite (.ite h.free.calImgWrite (.ite h.refuse h.plainWrite))

protected theorem Tidy.calWinWrite {a : ℕ} {w : Word} (h : Tidy u) : Tidy (calWinWrite a w u) := by
  unfold calWinWrite
  exact .ite h.refuse (.ite h.winPut h)

end

end Sys2Proof.Machine
end

section
/-! SUPPORT. Paths, demodulators and the DAB slots keep the canonical form. -/

set_option Elab.async false

namespace Sys2Proof.Machine

section
variable {u : State}

/-! ## Paths -/

protected theorem Tidy.setBank {b : ℕ} {v : Bank} (h : Tidy u) : Tidy (u.setBank b v) := by
  unfold State.setBank
  exact h.beside

protected theorem Tidy.bankRefresh (h : Tidy u) : Tidy (bankRefresh u) := by
  unfold bankRefresh
  exact h.setF.setF.setF.setB.setF

protected theorem Tidy.bankDataWrite {w : Word} (h : Tidy u) : Tidy (bankDataWrite w u) := by
  unfold bankDataWrite
  exact .ite h.refuse (.ite h.refuse h.setBank.setF.bankRefresh)

protected theorem Tidy.bankOpen (h : Tidy u) : Tidy (bankOpen u) := by
  unfold bankOpen
  exact .ite h.refuse h.setBank.bankRefresh

protected theorem Tidy.bankSeal (h : Tidy u) : Tidy (bankSeal u) := by
  unfold bankSeal
  exact .ite h.setBank.bankRefresh h.refuse

protected theorem Tidy.bankCmdWrite {w : ℕ} (h : Tidy u) : Tidy (bankCmdWrite w u) := by
  unfold bankCmdWrite
  exact .ite h.refuse (.ite h.bankOpen (.ite h.bankSeal h))

protected theorem Tidy.execBankDataWrite {m : Master} {v : Word} (h : Tidy u) : Ends (execBankDataWrite m v u) := by
  unfold execBankDataWrite
  exact .next (h.gated (fun _ h => h.bankDataWrite))

protected theorem Tidy.execBankOpen {m : Master} (h : Tidy u) : Ends (execBankOpen m u) := by
  unfold execBankOpen
  exact .next (h.gated (fun _ h => h.bankCmdWrite))

protected theorem Tidy.execBankSeal {m : Master} (h : Tidy u) : Ends (execBankSeal m u) := by
  unfold execBankSeal
  exact .next (h.gated (fun _ h => h.bankCmdWrite))

protected theorem Tidy.pathRefresh {n : ℕ} (h : Tidy u) : Tidy (pathRefresh n u) := by
  unfold pathRefresh
  exact .ite h.setF.setF h.setF.setF

protected theorem Tidy.bankHdrWrite {w : Word} (h : Tidy u) : Tidy (bankHdrWrite w u) := by
  unfold bankHdrWrite
  exact .ite h.refuse (.ite h.refuse (h.setBank.bankRefresh.forEach fun _ _ h => h.pathRefresh))

protected theorem Tidy.setPath {n : ℕ} {p : Path} (h : Tidy u) : Tidy (u.setPath n p) := by
  unfold State.setPath
  exact h.beside

protected theorem Tidy.deferMark {kind n : ℕ} (h : Tidy u) : Tidy (deferMark kind n u) := by
  unfold deferMark
  exact h.forEach fun _ _ h => h.setF.raise

protected theorem Tidy.pathStart {n : ℕ} (h : Tidy u) : Tidy (pathStart n u) := by
  unfold pathStart
  exact .ite h.refuseInst (.ite h.refuseInst (.ite h.refuseInst h.setF.setB.setPath.bankRefresh))

protected theorem Tidy.poolShow (h : Tidy u) : Tidy (poolShow u) := by
  unfold poolShow
  exact h.setF

protected theorem Tidy.pathStopped {n : ℕ} (h : Tidy u) : Tidy (pathStopped n u) := by
  unfold pathStopped
  exact h.setF.setF.setF.setPath.bankRefresh

protected theorem Tidy.pathAsk {n : ℕ} {c : Change} (h : Tidy u) : Tidy (pathAsk n c u) := by
  unfold pathAsk
  exact .ite h.setPath <| .ite h <| .ite h.setPath <| .ite h h.setPath

protected theorem Tidy.pathStop {n : ℕ} (h : Tidy u) : Tidy (pathStop n u) := by
  unfold pathStop
  exact .ite h.pathStopped (.ite (.ite h.setF.deferMark h.pathAsk) h)

protected theorem Tidy.pathSync {n : ℕ} (h : Tidy u) : Tidy (pathSync n u) := by
  unfold pathSync
  exact .ite h.pathAsk h.refuseInst

protected theorem Tidy.pathGuard {m : Master} {n : ℕ} {f : State → State} (h : Tidy u) (hf : ∀ x, Tidy x → Tidy (f x)) :
    Tidy (pathGuard m n f u) := by
  unfold pathGuard
  exact .ite h.refuse (.ite h.refuseInst (.ite h.refuseInst (hf _ h)))

protected theorem Tidy.pathCmd {n w : ℕ} (h : Tidy u) : Tidy (pathCmd n w u) := by
  unfold pathCmd
  exact .ite h <| .ite h.pathStart <| .ite h.pathStop <| .ite h.pathSync h.refuseInst

protected theorem Tidy.pathCmdWrite {m : Master} {n w : ℕ} (h : Tidy u) : Tidy (pathCmdWrite m n w u) := by
  unfold pathCmdWrite
  exact h.gated (fun _ h => h.pathGuard (fun _ h => h.pathCmd))

protected theorem Tidy.execPathStart {m : Master} {n : ℕ} (h : Tidy u) : Ends (execPathStart m n u) := by
  unfold execPathStart
  exact .next (.ite h.pathCmdWrite h)

protected theorem Tidy.execPathStop {m : Master} {n : ℕ} (h : Tidy u) : Ends (execPathStop m n u) := by
  unfold execPathStop
  exact .next (.ite h.pathCmdWrite h)

protected theorem Tidy.execPathSync {m : Master} {n : ℕ} (h : Tidy u) : Ends (execPathSync m n u) := by
  unfold execPathSync
  exact .next (.ite h.pathCmdWrite h)

protected theorem Tidy.shiftWrite {n w : ℕ} (h : Tidy u) : Tidy (shiftWrite n w u) := by
  unfold shiftWrite
  exact .ite (.ite h.wr.setPath h.wr.setPath) h.refuseInst

protected theorem Tidy.execShiftWrite {m : Master} {n : ℕ} {v : Word} (h : Tidy u) : Ends (execShiftWrite m n v u) := by
  unfold execShiftWrite
  exact .next (.ite (h.gated (fun _ h => h.pathGuard (fun _ h => h.shiftWrite))) h)

protected theorem Tidy.satCount {n cnt slot : ℕ} (h : Tidy u) : Tidy (satCount n cnt slot u) := by
  unfold satCount
  exact .ite h (.ite h.bumpBy.setF.raise h.bumpBy.setF)

protected theorem Tidy.levelMeasure {n flags : ℕ} {level : ℤ} (h : Tidy u) : Tidy (levelMeasure n flags level u) := by
  unfold levelMeasure
  exact .ite h (.ite h.setI.setF.raise (.ite h.setI.setF.raise h.setI))

protected theorem Tidy.setDem {n : ℕ} {d : Dem} (h : Tidy u) : Tidy (u.setDem n d) := by
  unfold State.setDem
  exact h.beside

/-! ## The tuners of KT-440 -/

protected theorem Tidy.setTuner {t : ℕ} {v : Tuner} (h : Tidy u) : Tidy (u.setTuner t v) := by
  unfold State.setTuner
  exact h.beside

protected theorem Tidy.ktSet {i v : ℕ} (h : Tidy u) : Tidy (u.ktSet i v) := by
  unfold State.ktSet
  exact h.setF

protected theorem Tidy.ktInt {bits : ℕ} (h : Tidy u) : Tidy (ktInt bits u) := by
  unfold ktInt
  exact h.ktSet.irqRefresh

protected theorem Tidy.ktBits {i hi lo v : ℕ} (h : Tidy u) : Tidy (u.ktBits i hi lo v) := by
  unfold State.ktBits
  exact h.ktSet

protected theorem Tidy.ktSetBusy {t : ℕ} {b : Bool} (h : Tidy u) : Tidy (ktSetBusy t b u) := by
  unfold ktSetBusy
  exact h.ktBits.setB

protected theorem Tidy.ktMirror {t : ℕ} (h : Tidy u) : Tidy (ktMirror t u) := by
  unfold ktMirror
  exact .ite h h.ktBits.ktBits.ktSet.ktSet.ktSet.ktSet.ktSet.ktSet.ktSet.ktSet

protected theorem Tidy.ktFifoRefresh {t : ℕ} (h : Tidy u) : Tidy (ktFifoRefresh t u) := by
  unfold ktFifoRefresh
  exact h.ktSet.ktSet

protected theorem Tidy.ktFlush {t : ℕ} (h : Tidy u) : Tidy (ktFlush t u) := by
  unfold ktFlush
  exact h.setTuner.ktFifoRefresh

protected theorem Tidy.ktRdsEntry {t : ℕ} {words : List ℕ} {err : ℕ} {cPrime piConf : Bool} (h : Tidy u) :
    Tidy (ktRdsEntry t words err cPrime piConf u) := by
  unfold ktRdsEntry
  exact .ite h (.ite h (.ite h.ktSet.bump.ktInt (.ite h.setTuner.ktFifoRefresh.ktInt h.setTuner.ktFifoRefresh)))

protected theorem Tidy.ktRdsData {t : ℕ} (h : Tidy u) : Tidy (ktRdsData t u).2 := by
  unfold ktRdsData
  extract_lets
  split
  · exact h.setTuner.ktFifoRefresh.pair
  · exact h.pair

protected theorem Tidy.ktCapRefresh (h : Tidy u) : Tidy (ktCapRefresh u) := by
  unfold ktCapRefresh
  exact h.ktSet.ktSet.ktSet.ktSet.ktSet

protected theorem Tidy.setCap {k : ℕ} {c : Capture} (h : Tidy u) : Tidy (u.setCap k c) := by
  unfold State.setCap
  exact h.beside.ktCapRefresh

protected theorem Tidy.ktCapStore {k : ℕ} {bytes : List Byte} (h : Tidy u) : Tidy (ktCapStore k bytes u) := by
  unfold ktCapStore
  exact .ite h (.ite (.ite h.setCap.ktBits.ktInt (.ite h.setCap.ktInt h.setCap)) (.ite h.setCap.ktBits.ktBits.ktInt h.setCap))

protected theorem Tidy.ktCapStart {k : ℕ} (h : Tidy u) : Tidy (ktCapStart k u) := by
  unfold ktCapStart
  exact h.setCap

protected theorem Tidy.ktCapData (h : Tidy u) : Tidy (ktCapData u).2 := by
  unfold ktCapData
  exact h.setCap.pair

/-! ## Demodulators -/

protected theorem Tidy.demClear {n : ℕ} (h : Tidy u) : Tidy (demClear n u) := by
  unfold demClear
  exact .setDem (h.forEach fun _ _ h => h.wr)

protected theorem Tidy.demRestart {n t : ℕ} (h : Tidy u) : Tidy (demRestart n t u) := by
  unfold demRestart
  exact .ite h.demClear.setF.setDem h.demClear.setF.setDem.setF

protected theorem Tidy.demNote {n : ℕ} (h : Tidy u) : Tidy (demNote n u) := by
  unfold demNote
  exact h.setDem

protected theorem Tidy.demWrite {n r : ℕ} {w : Word} (h : Tidy u) : Tidy (demWrite n r w u) := by
  unfold demWrite
  exact .ite h.refuseInst (.ite h.refuseInst (.ite h.demNote.regPut.setDem h.demNote.regPut))

protected theorem Tidy.execDemConfigWrite {m : Master} {n r : ℕ} {v : Word} (h : Tidy u) :
    Ends (execDemConfigWrite m n r v u) := by
  unfold execDemConfigWrite
  exact .next (.ite (h.gated (fun _ h => h.pathGuard (fun _ h => h.demWrite))) h)

protected theorem Tidy.lostStep {n start : ℕ} {cnr : ℤ} (h : Tidy u) : Tidy (lostStep n start cnr u) := by
  unfold lostStep
  exact .ite h.setDem (.ite h.setB.setDem.raise (.ite h.setB.setDem.raise.ktInt h.setB.setDem.raise))

protected theorem Tidy.pilotSet {n : ℕ} {b : Bool} (h : Tidy u) : Tidy (pilotSet n b u) := by
  unfold pilotSet
  exact .ite h h.setB.setDem.raise

protected theorem Tidy.pilotStep {n pilot : ℕ} (h : Tidy u) : Tidy (pilotStep n pilot u) := by
  unfold pilotStep
  exact .ite h.setDem.pilotSet (.ite h.setDem h.pilotSet)

protected theorem Tidy.sepRamp {n at_ : ℕ} {x : ℚ} (h : Tidy u) : Tidy (sepRamp n at_ x u) := by
  unfold sepRamp
  exact h.setDem

protected theorem Tidy.muteRamp {n at_ : ℕ} {x : ℚ} (h : Tidy u) : Tidy (muteRamp n at_ x u) := by
  unfold muteRamp
  exact h.setDem

protected theorem Tidy.windowStates {n : ℕ} {m : Metrics} (h : Tidy u) : Tidy (windowStates n m u) := by
  unfold windowStates
  exact .ite
      h.setDem.setF
      (.ite (.setF (.muteRamp (.ite
          (.setF (.sepRamp (.ite h.setDem.lostStep.pilotStep h.setDem.lostStep)))
          (.ite h.setDem.setF h.setDem)))) <|
        .ite (.setF (.muteRamp (.ite
          (.setF (.sepRamp (.ite h.setDem.lostStep.pilotStep h.setDem.lostStep)))
          (.ite h.setDem.setF h.setDem)))) <|
        .ite (.setF (.sepRamp (.ite h.setDem.lostStep.pilotStep h.setDem.lostStep))) <| .ite h.setDem.setF h.setDem)

protected theorem Tidy.metricEnd {n start : ℕ} {q : Meas} (h : Tidy u) : Tidy (metricEnd n start q u) := by
  unfold metricEnd
  exact .ite (.ite h.setDem.setB.setB h.setDem.setB) (.windowStates (.ite h.setDem.setB.setB h.setDem.setB))

protected theorem Tidy.metricFields {n : ℕ} {m : Metrics} (h : Tidy u) : Tidy (metricFields n m u) := by
  unfold metricFields
  exact h.setI.setI.setF.setI.setI.setF.setF.setI.setI.set64

protected theorem Tidy.ktMeasure {t : ℕ} {valid warm : Bool} (h : Tidy u) : Tidy (ktMeasure t valid warm u) := by
  unfold ktMeasure
  exact .ite h.setTuner h

protected theorem Tidy.metricPublish {n : ℕ} (h : Tidy u) : Tidy (metricPublish n u) := by
  unfold metricPublish
  split
  · exact h
  · exact .ite
      (.ktMirror (.ktMeasure (.emitRecIf (.ite
        (.ite h.setDem.metricFields h.setDem)
        (.setF (.ite h.setDem.metricFields h.setDem))))))
      (.emitRecIf (.ite (.ite h.setDem.metricFields h.setDem) (.setF (.ite h.setDem.metricFields h.setDem))))

protected theorem Tidy.execMetricPublish {n : ℕ} (h : Tidy u) : Ends (execMetricPublish n u) := by
  unfold execMetricPublish
  exact .next (.ite h.metricPublish h)

protected theorem Tidy.pathRestart {n t : ℕ} (h : Tidy u) : Tidy (pathRestart n t u) := by
  unfold pathRestart
  exact h.setF.set64.setB.setPath.demRestart

protected theorem Tidy.ktPathStart {t : ℕ} (h : Tidy u) : Tidy (ktPathStart t u) := by
  unfold ktPathStart
  exact .pathStart (.pathRefresh (.setTuner (.setDem (.ite
      h.wr.setF.setI.setF.wr.setF.setF.setF.setF
      h.wr.setF.setI.setF.wr.setF.setF.setF.setF.setF))))

protected theorem Tidy.ktRetune {t : ℕ} (h : Tidy u) : Tidy (ktRetune t u) := by
  unfold ktRetune
  exact .ite h.setTuner.pathStop.ktPathStart h.setTuner.pathStop.setTuner

protected theorem Tidy.pathInstant {n t : ℕ} (h : Tidy u) : Tidy (pathInstant n t u) := by
  unfold pathInstant
  exact .ite
      h
      (by
        split
        · exact h
        · exact h.pathRestart
        · extract_lets
          split
          · exact h.pathRestart.setPath
          · exact h.pathRestart
        · exact .ite h.pathStopped.demClear.ktPathStart h.pathStopped.demClear)

protected theorem Tidy.execPathChangeInstant {n t : ℕ} (h : Tidy u) : Ends (execPathChangeInstant n t u) := by
  unfold execPathChangeInstant
  exact .next (.ite h.advance.pathInstant h)

protected theorem Tidy.pathHistoryLost {n : ℕ} (h : Tidy u) : Tidy (pathHistoryLost n u) := by
  unfold pathHistoryLost
  exact .ite h (.ite h.setPath h.setPath)

/-! ## The output of a path -/

protected theorem Tidy.chanStep {n : ℕ} {x : Run × State} (h : Tidy x.2) : Tidy (chanStep n x).2 := by
  unfold chanStep
  extract_lets
  split
  · exact h.satCount
  · exact .ite h.satCount.levelMeasure.setB h.satCount.levelMeasure

protected theorem Tidy.chanTo {n t : ℕ} {x : Run × State} (h : Tidy x.2) : Tidy (chanTo n t x).2 :=
  h.foldlSnd fun _ _ h => h.chanStep

protected theorem Tidy.chanForm {n t : ℕ} (h : Tidy u) : Tidy (chanForm n t u) := by
  unfold chanForm
  split
  · exact .setPath (Tidy.chanTo h)
  · exact h

protected theorem Tidy.warmupPass {n : ℕ} (h : Tidy u) : Tidy (warmupPass n u) := by
  unfold warmupPass
  exact h.setPath.setB

protected theorem Tidy.runPut {n : ℕ} {r : Run} (h : Tidy u) : Tidy (runPut n r u) := by
  unfold runPut
  exact .ite h.setPath.warmupPass h.setPath

protected theorem Tidy.outDrop {n : ℕ} {r : Run} (h : Tidy u) : Tidy (outDrop n r u) := by
  unfold outDrop
  exact h.bump.runPut.setPath

protected theorem Tidy.outDeliver {n flags : ℕ} {samples : List ℤ} {later : Option (ℕ × List ℤ)} {r : Run} (h : Tidy u) :
    Tidy (outDeliver n flags samples later r u) := by
  unfold outDeliver
  exact h.runPut.setPath.obsBlock.streamNote

protected theorem Tidy.runHead {n : ℕ} (h : Tidy u) : Tidy (runHead n u) := by
  unfold runHead
  exact h.setPath

protected theorem Tidy.preStep {n : ℕ} {x : Run × State} (h : Tidy x.2) : Tidy (preStep n x).2 :=
  have hc : ∀ t, Tidy (chanTo n t x).2 := fun _ => Tidy.chanTo h
  .iteSnd (hc _).pair (.iteSnd (hc _).satCount.pair (.iteSnd (hc _).pair (hc _).pair))

protected theorem Tidy.pathOutput {n : ℕ} (h : Tidy u) : Tidy (pathOutput n u) := by
  unfold pathOutput
  extract_lets s
  split
  · exact h.runHead
  · next r0 _ _ =>
    refine .ite h ?_
    extract_lets x
    have hx : Tidy x.2 := Tidy.foldlSnd (x := (r0, s)) h.runHead fun _ _ h => h.preStep
    refine .ite ?_ (.ite hx.outDrop hx.outDeliver)
    split
    · exact hx.outDeliver
    · exact hx.outDeliver

protected theorem Tidy.execPathOutputBlock {n : ℕ} (h : Tidy u) : Ends (execPathOutputBlock n u) := by
  unfold execPathOutputBlock
  exact .next (.ite h.pathOutput h)

protected theorem Tidy.metricWindowEnd {n start : ℕ} (h : Tidy u) : Tidy (metricWindowEnd n start u) := by
  unfold metricWindowEnd
  extract_lets
  split
  · exact h
  · exact .ite h h.advance.chanForm.metricEnd

protected theorem Tidy.execMetricWindow {n start : ℕ} (h : Tidy u) : Ends (execMetricWindow n start u) := by
  unfold execMetricWindow
  exact .next (.ite h.metricWindowEnd h)

/-! ## RDS -/

protected theorem Tidy.rdsSyncSet {n : ℕ} {b : Bool} (h : Tidy u) : Tidy (rdsSyncSet n b u) := by
  unfold rdsSyncSet
  exact h.setB.raise

protected theorem Tidy.piReading {n pi : ℕ} (h : Tidy u) : Tidy (piReading n pi u) := by
  unfold piReading
  exact .ite h.setF.setF (.ite h.setF.setF.setF.setF (.ite h.setF.setF h.setF.setF.setF.raise))

protected theorem Tidy.afTake {n : ℕ} {g : List RdsBlock} (h : Tidy u) : Tidy (afTake n g u) := by
  unfold afTake
  split
  · exact .ite h (.ite h.setDem (.ite h.setDem h))
  · exact h

protected theorem Tidy.rdsText {n : ℕ} {g : List RdsBlock} {ts flags : ℕ} (h : Tidy u) : Tidy (rdsText n g ts flags u) := by
  unfold rdsText
  split
  · exact .ite
      h
      (.ite
        (.ite h.setDem.emitRecIf h.setDem)
        (.ite
          (by
            extract_lets
            split
            · exact .ite h.setDem.emitRecIf h.setDem
            · exact h.setDem) h))
  · exact h

protected theorem Tidy.rdsGroup {n : ℕ} {g : List RdsBlock} (h : Tidy u) : Tidy (rdsGroup n g u) := by
  unfold rdsGroup
  exact .ite h.setDem.afTake.bump.emitRecIf.rdsText.excRdsPush.ktRdsEntry h.setDem.bump

protected theorem Tidy.groupStep {n : ℕ} {b : RdsBlock} (h : Tidy u) : Tidy (groupStep n b u) := by
  unfold groupStep
  exact .ite (.ite h.setDem.setDem.piReading h.setDem.setDem) (.ite (.ite h.setDem.rdsGroup h.setDem.setDem) h.setDem.setDem)

protected theorem Tidy.rdsLose {n : ℕ} (h : Tidy u) : Tidy (rdsLose n u) := by
  unfold rdsLose
  exact h.bump.setDem.rdsSyncSet

protected theorem Tidy.rdsInSync {n bit w t : ℕ} (h : Tidy u) : Tidy (rdsInSync n bit w t u) := by
  unfold rdsInSync
  exact .ite
      h.bump.setDem
      (.ite
        (.rdsLose (.groupStep (.ite h.setDem.setF.bump (.ite h.setDem.setF.bump h.setDem.setF))))
        (.groupStep (.ite h.setDem.setF.bump (.ite h.setDem.setF.bump h.setDem.setF))))

protected theorem Tidy.rdsAcquire {n bit w t : ℕ} (h : Tidy u) : Tidy (rdsAcquire n bit w t u) := by
  unfold rdsAcquire
  split
  · exact h
  · extract_lets
    split
    · exact h.setDem.setF.rdsSyncSet.groupStep.groupStep
    · exact h.setDem

protected theorem Tidy.rdsBlock {n bit w t : ℕ} (h : Tidy u) : Tidy (rdsBlock n bit w t u) := by
  unfold rdsBlock
  exact .ite
      h
      (.ite
        (.ktMirror (.ite
          (.setDem (.ite h.chanForm.rdsInSync h.chanForm.rdsAcquire))
          (.ite h.chanForm.rdsInSync h.chanForm.rdsAcquire)))
        (.ite (.setDem (.ite h.chanForm.rdsInSync h.chanForm.rdsAcquire)) (.ite h.chanForm.rdsInSync h.chanForm.rdsAcquire)))

protected theorem Tidy.execRdsBlock {n bit word t : ℕ} (h : Tidy u) : Ends (execRdsBlock n bit word t u) := by
  unfold execRdsBlock
  exact .next (.ite h.rdsBlock h)

protected theorem Tidy.execPiTimeout {n t : ℕ} (h : Tidy u) : Ends (execPiTimeout n t u) := by
  unfold execPiTimeout
  exact .next (.ite (.ite h.advance.setF.setF.raise.ktMirror h.advance.setF.setF.raise) h)

/-! ## DAB -/

protected theorem Tidy.setSlot {n : ℕ} {v : Slot} (h : Tidy u) : Tidy (u.setSlot n v) := by
  unfold State.setSlot
  exact h.beside

protected theorem Tidy.setDecoder {d : ℕ} {v : Decoder} (h : Tidy u) : Tidy (u.setDecoder d v) := by
  unfold State.setDecoder
  exact h.beside

protected theorem Tidy.dabUse (h : Tidy u) : Tidy (dabUse u) := by
  unfold dabUse
  exact h.setF.setF

protected theorem Tidy.decShow {d : ℕ} (h : Tidy u) : Tidy (decShow d u) := by
  unfold decShow
  exact .ite h.setF h

protected theorem Tidy.decShowOn {n : ℕ} (h : Tidy u) : Tidy (decShowOn n u) := by
  unfold decShowOn
  exact h.forEach fun _ _ h => h.decShow

protected theorem Tidy.decFields {d : ℕ} (h : Tidy u) : Tidy (decFields d u) := by
  unfold decFields
  exact h.setF.setF.wr.wr

protected theorem Tidy.decToWait {d : ℕ} (h : Tidy u) : Tidy (decToWait d u) := by
  unfold decToWait
  exact .ite h.setF.decFields.setDecoder.decShow.raise.dabUse h.decShow

protected theorem Tidy.ownedShow (h : Tidy u) : Tidy (ownedShow u) := by
  unfold ownedShow
  exact h.setF

protected theorem Tidy.decStopped {d : ℕ} (h : Tidy u) : Tidy (decStopped d u) := by
  unfold decStopped
  exact h.setF.decFields.setF.setDecoder.setF.dabUse.ownedShow

protected theorem Tidy.decGuard {m : Master} {d : ℕ} {f : State → State} (h : Tidy u) (hf : ∀ x, Tidy x → Tidy (f x)) :
    Tidy (decGuard m d f u) := by
  unfold decGuard
  exact .ite h.refuse (.ite h.refuseInst (hf _ h))

protected theorem Tidy.decStart {m : Master} {d : ℕ} (h : Tidy u) : Tidy (decStart m d u) := by
  unfold decStart
  exact .ite h.refuseInst h.setF.setB.wr.setDecoder.decShow

protected theorem Tidy.decStop {d : ℕ} (h : Tidy u) : Tidy (decStop d u) := by
  unfold decStop
  exact .ite h.setF.wr.deferMark (.ite h.setDecoder h)

protected theorem Tidy.decCmd {m : Master} {d w : ℕ} (h : Tidy u) : Tidy (decCmd m d w u) := by
  unfold decCmd
  exact .ite h (.ite h.decStart (.ite h.decStop h.refuseInst))

protected theorem Tidy.decCtlWrite {d : ℕ} {w : Word} (h : Tidy u) : Tidy (decCtlWrite d w u) := by
  unfold decCtlWrite
  exact .ite h.refuseInst (.ite h.refuseInst h.regPut)

protected theorem Tidy.execDecStart {m : Master} {d : ℕ} (h : Tidy u) : Ends (execDecStart m d u) := by
  unfold execDecStart
  exact .next (.ite (h.gated (fun _ h => h.decGuard (fun _ h => h.decCmd))) h)

protected theorem Tidy.execDecStop {m : Master} {d : ℕ} (h : Tidy u) : Ends (execDecStop m d u) := by
  unfold execDecStop
  exact .next (.ite (h.gated (fun _ h => h.decGuard (fun _ h => h.decCmd))) h)

protected theorem Tidy.eraseNote {n ts : ℕ} (h : Tidy u) : Tidy (eraseNote n ts u) := by
  unfold eraseNote
  exact h.setSlot

protected theorem Tidy.decRun {d cif : ℕ} {stereo sbr ps : Bool} {core : ℕ} (h : Tidy u) :
    Tidy (decRun d cif stereo sbr ps core u) := by
  unfold decRun
  split
  · exact .ite h.advance.setF.setF.setF.setB.setF.setB.setB.setF.setF.setF.setF.setDecoder.raise.dabUse h
  · exact h

protected theorem Tidy.execDecWait {d : ℕ} (h : Tidy u) : Ends (execDecWait d u) := by
  unfold execDecWait
  exact .next (.ite h.decToWait h)

protected theorem Tidy.decReport {d : ℕ} {concealed : Bool} {rs : ℕ} (h : Tidy u) : Tidy (decReport d concealed rs u) := by
  unfold decReport
  exact h.setDecoder

protected theorem Tidy.decConceal {d : ℕ} {sf : Bool} {cif au good rs : ℕ} (h : Tidy u) :
    Tidy (decConceal d sf cif au good rs u) := by
  unfold decConceal
  exact .ite h (.ite h.bumpBy.decReport.setDecoder.setF (.setF (.setDecoder (.ite h.bumpBy.decReport.bump h.bumpBy.decReport))))

protected theorem Tidy.decGood {d ts : ℕ} (h : Tidy u) : Tidy (decGood d ts u) := by
  unfold decGood
  exact .ite (.setF (.setDecoder (.ite h.setDecoder.setF.decReport h))) (.ite h.setDecoder.setF.decReport h)

protected theorem Tidy.execDecConceal {d : ℕ} {superframe : Bool} {cif au good rs : ℕ} (h : Tidy u) :
    Ends (execDecConceal d superframe cif au good rs u) := by
  unfold execDecConceal
  exact .next (.ite h.decConceal h)

protected theorem Tidy.ensGuard {n : ℕ} {f : State → State} (h : Tidy u) (hf : ∀ x, Tidy x → Tidy (f x)) :
    Tidy (ensGuard n f u) := by
  unfold ensGuard
  exact .ite h.refuse (hf _ h)

protected theorem Tidy.ensStart {n : ℕ} (h : Tidy u) : Tidy (ensStart n u) := by
  unfold ensStart
  exact .ite h.refuseInst h.setF.setSlot

protected theorem Tidy.slotAsk {n : ℕ} {c : Change} (h : Tidy u) : Tidy (slotAsk n c u) := by
  unfold slotAsk
  exact .ite h.setSlot <| .ite h <| .ite h.setSlot <| .ite h h.setSlot

protected theorem Tidy.ensStop {n : ℕ} (h : Tidy u) : Tidy (ensStop n u) := by
  unfold ensStop
  exact .ite h.setF.setSlot (.ite (.ite (h.setF.setSlot.forEach fun _ _ h => h.deferMark) h.slotAsk) h)

protected theorem Tidy.ensResync {n : ℕ} (h : Tidy u) : Tidy (ensResync n u) := by
  unfold ensResync
  exact .ite h.slotAsk h.refuseInst

protected theorem Tidy.ensCmd {n w : ℕ} (h : Tidy u) : Tidy (ensCmd n w u) := by
  unfold ensCmd
  exact .ite h <| .ite h.ensStart <| .ite h.ensStop <| .ite h.ensResync h.refuseInst

protected theorem Tidy.ensCmdWrite {m : Master} {n w : ℕ} (h : Tidy u) : Tidy (ensCmdWrite m n w u) := by
  unfold ensCmdWrite
  exact h.gated (fun _ h => h.ensGuard (fun _ h => h.ensCmd))

protected theorem Tidy.ensCfgWrite {n a : ℕ} {w : Word} (h : Tidy u) : Tidy (ensCfgWrite n a w u) := by
  unfold ensCfgWrite
  exact .ite h.refuseInst (.ite h.refuseInst (.ite h.refuseInst h.regPut))

protected theorem Tidy.execEnsStart {m : Master} {n : ℕ} (h : Tidy u) : Ends (execEnsStart m n u) := by
  unfold execEnsStart
  exact .next (.ite h.ensCmdWrite h)

protected theorem Tidy.execEnsStop {m : Master} {n : ℕ} (h : Tidy u) : Ends (execEnsStop m n u) := by
  unfold execEnsStop
  exact .next (.ite h.ensCmdWrite h)

protected theorem Tidy.execEnsResync {m : Master} {n : ℕ} (h : Tidy u) : Ends (execEnsResync m n u) := by
  unfold execEnsResync
  exact .next (.ite h.ensCmdWrite h)

protected theorem Tidy.slotUnlock {n : ℕ} (h : Tidy u) : Tidy (slotUnlock n u) := by
  unfold slotUnlock
  exact h.setF.setF.setSlot.beside

protected theorem Tidy.slotInstant {n t : ℕ} (h : Tidy u) : Tidy (slotInstant n t u) := by
  unfold slotInstant
  exact .ite
      h
      (by
        split
        · exact h
        · exact h.setF.setSlot
        · exact .dabUse (h.slotUnlock.setF.setSlot.forEach fun _ _ h => h.decToWait)
        · exact .dabUse (h.slotUnlock.setF.setSlot.forEach fun _ _ h => h.decToWait))

protected theorem Tidy.execSlotReleaseInstant {n t : ℕ} (h : Tidy u) : Ends (execSlotReleaseInstant n t u) := by
  unfold execSlotReleaseInstant
  exact .next (.ite h.advance.slotInstant h)

protected theorem Tidy.execEnsLock {n : ℕ} {nulls : List ℕ} {prs : Bool} {foff : ℤ} {err : ℕ} (h : Tidy u) :
    Ends (execEnsLock n nulls prs foff err u) := by
  unfold execEnsLock
  exact .next (.ite h.setSlot.setF.raise.decShowOn.dabUse h)

protected theorem Tidy.execEnsLost {n t period : ℕ} (h : Tidy u) : Ends (execEnsLost n t period u) := by
  unfold execEnsLost
  exact .next (.ite h.advance.slotUnlock.setSlot.setF.bump.raise.decShowOn.dabUse h)

protected theorem Tidy.fibLabels {n flags ts : ℕ} {b : List ℕ} (h : Tidy u) : Tidy (fibLabels n flags ts b u) := by
  unfold fibLabels
  exact .ite h (h.foldl fun _ _ h => h.emitRec)

protected theorem Tidy.fibStep {n cif flags ts : ℕ} {b : List ℕ} {k : ℕ} (h : Tidy u) : Tidy (fibStep n cif flags ts b k u) := by
  unfold fibStep
  exact .ite
      (.fibLabels (.emitRec (.obsBlock (.bump (.ite h.setSlot.setF h.setSlot.setF.bump)))))
      (.bump (.ite h.setSlot.setF h.setSlot.setF.bump))

protected theorem Tidy.fibSteps {n cif flags ts : ℕ} {l : List (List ℕ)} {k : ℕ} (h : Tidy u) :
    Tidy (fibSteps n cif flags ts l k u) := by
  induction l generalizing k u with
  | nil => exact h
  | cons b t ih => exact ih h.fibStep

protected theorem Tidy.slotNote {n ts cif : ℕ} (h : Tidy u) : Tidy (slotNote n ts cif u) := by
  unfold slotNote
  exact h.setSlot

protected theorem Tidy.slotLose {n : ℕ} (h : Tidy u) : Tidy (slotLose n u) := by
  unfold slotLose
  exact h.setSlot

protected theorem Tidy.decReconfig {d : ℕ} (h : Tidy u) : Tidy (decReconfig d u) := by
  unfold decReconfig
  exact .ite
      (by
        split
        · exact h.decToWait
        · exact .ite h.decToWait h.setF.setF) h.decShow

protected theorem Tidy.ensFrame {n : ℕ} {f : Sys2Proof.Frame} (h : Tidy u) : Tidy (ensFrame n f u) := by
  unfold ensFrame
  extract_lets +onlyGivenNames s0
  have h0 : Tidy s0 := .ite h.bumpBy.eraseNote h
  refine .ite h0 ?_
  extract_lets cif s1 s2 _ s3 flags s3' s4 mer s5 s6 s7 s8
  have h1 : Tidy s1 := by
    unfold s1
    split
    · exact h0.setF.setF.setF
    · exact h0
  have h3 : Tidy s3 := .setSlot (.ite h1.setF h1)
  have h3' : Tidy s3' := .ite (h3.forEach fun _ _ h => h.decReconfig) h3
  have h7 : Tidy s7 := .set64 (.setF (.setI (.setI (.setI (.ite h3'.slotNote.slotLose h3'.slotNote.fibSteps)))))
  have h8 : Tidy s8 := by
    unfold s8
    split
    · exact h7.forEach fun _ _ h => h.setI
    · exact h7
  exact h8.decShowOn.emitRec

protected theorem Tidy.execEnsFrame {n : ℕ} {f : Sys2Proof.Frame} (h : Tidy u) : Ends (execEnsFrame n f u) := by
  unfold execEnsFrame
  exact .next (.ite h.ensFrame h)

protected theorem Tidy.decPad {n sub cif ts flags : ℕ} {bytes : List ℕ} {d : ℕ} (h : Tidy u) :
    Tidy (decPad n sub cif ts flags bytes d u) := by
  unfold decPad
  exact .ite h (.ite h.setDecoder.emitRec h.setDecoder)

protected theorem Tidy.subchRecord {n sub cif : ℕ} {bytes : List ℕ} (h : Tidy u) : Tidy (subchRecord n sub cif bytes u) := by
  unfold subchRecord
  split
  · exact h
  · exact .ite
      (.ite
        (.slotLose (.setSlot (h.forEach fun _ _ h => h.decPad)))
        (.emitRec (.obsBlock (.setSlot (.setSlot (h.forEach fun _ _ h => h.decPad))))))
      (.setSlot (h.forEach fun _ _ h => h.decPad))

protected theorem Tidy.execSubchRecord {n sub cif : ℕ} {bytes : List ℕ} (h : Tidy u) :
    Ends (execSubchRecord n sub cif bytes u) := by
  unfold execSubchRecord
  exact .next (.ite h.subchRecord h)

protected theorem Tidy.execMultiplexReconfig {n : ℕ} {org : List SubCh} (h : Tidy u) : Ends (execMultiplexReconfig n org u) := by
  unfold execMultiplexReconfig
  exact .next (.ite (h.setSlot.forEach fun _ _ h => h.decReconfig) h)

protected theorem Tidy.decProceed {d : ℕ} (h : Tidy u) : Tidy (decProceed d u) := by
  unfold decProceed
  exact h.setDecoder

protected theorem Tidy.pathProceed {n : ℕ} (h : Tidy u) : Tidy (pathProceed n u) := by
  unfold pathProceed
  exact h.setPath

protected theorem Tidy.slotProceed {n : ℕ} (h : Tidy u) : Tidy (slotProceed n u) := by
  unfold slotProceed
  exact .ite h.setSlot h

protected theorem Tidy.execPathDeferredStop {dec : Bool} {n : ℕ} (h : Tidy u) : Ends (execPathDeferredStop dec n u) := by
  unfold execPathDeferredStop
  exact .next (.ite (.ite (.slotProceed (.ite h.decProceed h)) h) (.ite h.pathProceed h))

end

end Sys2Proof.Machine
end

section
/-! SUPPORT. Programme following keeps the canonical form. -/

set_option Elab.async false

namespace Sys2Proof.Machine

section
variable {u : State}

/-! ## Programmes and candidates -/

protected theorem Tidy.setProg {p : ℕ} {v : Prog} (h : Tidy u) : Tidy (u.setProg p v) := by
  unfold State.setProg
  exact h.beside

protected theorem Tidy.setCand {p i : ℕ} {c : Cand} (h : Tidy u) : Tidy (u.setCand p i c) := by
  unfold State.setCand
  exact h.setProg

protected theorem Tidy.progShow {p : ℕ} (h : Tidy u) : Tidy (progShow p u) := by
  unfold progShow
  exact h.wr.setB.setF.setF.setF.setF.setI.setI.setF

protected theorem Tidy.candShow (h : Tidy u) : Tidy (candShow u) := by
  unfold candShow
  extract_lets v i s1
  have h1 : Tidy s1 := by
    unfold s1
    split
    · exact h.wr.wr.wr.wr
    · exact h.wr.wr.wr.wr
  split
  · exact h1.wr
  · exact h1.wr

protected theorem Tidy.chanUse (h : Tidy u) : Tidy (chanUse u) := by
  unfold chanUse
  exact h.setF

protected theorem Tidy.chanFree {kind num : ℕ} (h : Tidy u) : Tidy (chanFree kind num u) := by
  unfold chanFree
  split
  · exact h.wr.chanUse
  · exact h

protected theorem Tidy.chanTake {kind num : ℕ} (h : Tidy u) : Tidy (chanTake kind num u) := by
  unfold chanTake
  exact .ite
      h
      (by
        split
        · exact h.wr.chanUse
        · exact h)

protected theorem Tidy.dropCand {p i : ℕ} (h : Tidy u) : Tidy (u.dropCand p i) := by
  unfold State.dropCand
  extract_lets
  split
  · exact .ite h.setProg h.setProg.chanFree
  · exact h.setProg

protected theorem Tidy.idleRefresh (h : Tidy u) : Tidy (idleRefresh u) := by
  unfold idleRefresh
  exact h.beside

protected theorem Tidy.useShow (h : Tidy u) : Tidy (useShow u) := by
  unfold useShow
  exact h.poolShow.setF.ownedShow

protected theorem Tidy.folShow {p : ℕ} (h : Tidy u) : Tidy (folShow p u) := by
  unfold folShow
  exact h.idleRefresh.progShow.candShow.useShow

protected theorem Tidy.lostShow {p : ℕ} (h : Tidy u) : Tidy (lostShow p u) := by
  unfold lostShow
  exact .ite
      h
      (.ite
        h.setF
        (by
          extract_lets
          split
          · exact .ite (.ite h h.setF.raise) (.setProg (.ite h h.setF.raise))
          · exact .setF (.ite h h.setF.raise)))

protected theorem Tidy.ineligStep {p i : ℕ} (h : Tidy u) : Tidy (ineligStep p i u) := by
  unfold ineligStep
  split
  · exact h
  · exact .ite (.ite h.setCand h) (.ite h h.setCand.bump.raise)

protected theorem Tidy.sourceJudge {kind num : ℕ} (h : Tidy u) : Tidy (sourceJudge kind num u) := by
  unfold sourceJudge
  exact h.forEach
      fun _ _ h => by
        split
        · exact h.ineligStep.folShow
        · exact h

protected theorem Tidy.execDecRun {d cif : ℕ} {stereo sbr ps : Bool} {core : ℕ} (h : Tidy u) :
    Ends (execDecRun d cif stereo sbr ps core u) := by
  unfold execDecRun
  exact .next (.ite h.decRun.sourceJudge h)

/-! ## Fennel -/

protected theorem Tidy.folGuard {m : Master} {p : ℕ} {f : State → State} (h : Tidy u) (hf : ∀ x, Tidy x → Tidy (f x)) :
    Tidy (folGuard m p f u) := by
  unfold folGuard
  exact .ite h.refuse (.ite h.refuse (.ite h.refuseInst (hf _ h)))

protected theorem Tidy.folStart {p : ℕ} (h : Tidy u) : Tidy (folStart p u) := by
  unfold folStart
  exact .ite h.refuseInst (.ite h.refuseInst h.setF.setProg.folShow)

protected theorem Tidy.folStopped {p : ℕ} (h : Tidy u) : Tidy (folStopped p u) := by
  unfold folStopped
  exact .folShow (.setF (.setF (.setProg (h.setF.forEach fun _ _ h => h.dropCand))))

protected theorem Tidy.folStop {p : ℕ} (h : Tidy u) : Tidy (folStop p u) := by
  unfold folStop
  exact .ite h.refuseInst (.ite h.folStopped (.ite h h.setProg.folShow))

protected theorem Tidy.folAbort {p : ℕ} (h : Tidy u) : Tidy (folAbort p u) := by
  unfold folAbort
  exact .ite h.refuseInst h.setProg.folShow

protected theorem Tidy.fadeStart {p b kind n tx : ℕ} (h : Tidy u) : Tidy (fadeStart p b kind n tx u) := by
  unfold fadeStart
  exact .folShow (.raise (.ite h.setProg.set64.setF.bump h.setProg.set64.setF.bump))

protected theorem Tidy.folSwitch {p i : ℕ} (h : Tidy u) : Tidy (folSwitch p i u) := by
  unfold folSwitch
  extract_lets
  split
  · exact .ite h.fadeStart h.refuseInst
  · exact h.refuseInst

protected theorem Tidy.folRealign {p : ℕ} (h : Tidy u) : Tidy (folRealign p u) := by
  unfold folRealign
  exact .ite h.refuseInst h.setProg.folShow

protected theorem Tidy.folCmd {m : Master} {w : ℕ} (h : Tidy u) : Tidy (folCmd m w u) := by
  unfold folCmd
  exact h.folGuard
      (fun _ h => .ite h.folStart <| .ite h.refuseInst <| .ite h.folStop <| .ite h.folAbort <| .ite h.folSwitch <|
        .ite h.folRealign h.refuseInst)

protected theorem Tidy.execFolStart {m : Master} {p : ℕ} (h : Tidy u) : Ends (execFolStart m p u) := by
  unfold execFolStart
  exact .next (.ite (h.gated (fun _ h => h.folCmd)) h)

protected theorem Tidy.execFolStop {m : Master} {p : ℕ} (h : Tidy u) : Ends (execFolStop m p u) := by
  unfold execFolStop
  exact .next (.ite (h.gated (fun _ h => h.folCmd)) h)

protected theorem Tidy.execAbortXfade {m : Master} {p : ℕ} (h : Tidy u) : Ends (execAbortXfade m p u) := by
  unfold execAbortXfade
  exact .next (.ite (h.gated (fun _ h => h.folCmd)) h)

protected theorem Tidy.execFolSwitch {m : Master} {p idx : ℕ} (h : Tidy u) : Ends (execFolSwitch m p idx u) := by
  unfold execFolSwitch
  exact .next (.ite (h.gated (fun _ h => h.folCmd)) h)

protected theorem Tidy.execFolRealign {m : Master} {p : ℕ} (h : Tidy u) : Ends (execFolRealign m p u) := by
  unfold execFolRealign
  exact .next (.ite (h.gated (fun _ h => h.folCmd)) h)

protected theorem Tidy.folRegWrite {m : Master} {p a : ℕ} {w : Word} (h : Tidy u) : Tidy (folRegWrite m p a w u) := by
  unfold folRegWrite
  exact h.folGuard (fun _ h => .ite h.refuseInst (.ite h.refuseInst h.regPut))

protected theorem Tidy.folPoolWrite {a : ℕ} {w : Word} (h : Tidy u) : Tidy (folPoolWrite a w u) := by
  unfold folPoolWrite
  exact .ite h.refuse (.ite h.refuse h.regPut)

protected theorem Tidy.execProgSearchStart {p t : ℕ} (h : Tidy u) : Ends (execProgSearchStart p t u) := by
  unfold execProgSearchStart
  exact .next (.ite h.advance.setF.setF.setProg.folShow h)

protected theorem Tidy.execProgOrigin {p idx tu : ℕ} (h : Tidy u) : Ends (execProgOrigin p idx tu u) := by
  unfold execProgOrigin
  exact .next
      (by
        split
        · exact .ite h.advance.setF.setF.setF.setProg.folShow h.advance
        · exact h.advance)

protected theorem Tidy.execProgStopped {p : ℕ} (h : Tidy u) : Ends (execProgStopped p u) := by
  unfold execProgStopped
  exact .next (.ite h.folStopped h)

protected theorem Tidy.poolStop {n : ℕ} (h : Tidy u) : Tidy (poolStop n u) := by
  unfold poolStop
  exact h.pathStop.beside.useShow

protected theorem Tidy.execPoolIdleStop {t : ℕ} (h : Tidy u) : Ends (execPoolIdleStop t u) := by
  unfold execPoolIdleStop
  exact .next (.ite (.useShow (.forEach (h.advance.idleRefresh.forEach fun _ _ h => h.poolStop) fun _ _ h => h.decStop)) h)

protected theorem Tidy.candEnter {p i : ℕ} {c : Cand} (h : Tidy u) : Tidy (candEnter p i c u) := by
  unfold candEnter
  exact h.dropCand.setCand.ineligStep.folShow

protected theorem Tidy.execCandidateAdd {p origin kind num idx : ℕ} (h : Tidy u) :
    Ends (execCandidateAdd p origin kind num idx u) := by
  unfold execCandidateAdd
  exact .next
      (.ite
        (by
          split
          · exact h.candEnter
          · exact h) h)

protected theorem Tidy.execCandidateRemove {p idx t : ℕ} (h : Tidy u) : Ends (execCandidateRemove p idx t u) := by
  unfold execCandidateRemove
  exact .next
      (by
        split
        · exact .ite h.advance.dropCand.folShow h
        · exact h)

protected theorem Tidy.candBad {p i : ℕ} (h : Tidy u) : Tidy (candBad p i u) := by
  unfold candBad
  split
  · exact h
  · exact .folShow (.lostShow (.ite h.setCand.setProg (.ite h.setCand.setProg h.setCand)))

protected theorem Tidy.candLost {p i : ℕ} {c : Cand} (h : Tidy u) : Tidy (candLost p i c u) := by
  unfold candLost
  exact h.setCand.folShow

protected theorem Tidy.execCandidateUnusable {p idx : ℕ} (h : Tidy u) : Ends (execCandidateUnusable p idx u) := by
  unfold execCandidateUnusable
  exact .next
      (by
        split
        · exact .ite h.candBad (.ite h.candLost h)
        · exact h)

protected theorem Tidy.execCandidateUsable {p idx : ℕ} (h : Tidy u) : Ends (execCandidateUsable p idx u) := by
  unfold execCandidateUsable
  exact .next
      (by
        split
        · exact .ite h.setCand.ineligStep.lostShow.folShow (.ite h.setCand.folShow h)
        · exact h)

protected theorem Tidy.execFolInelig {p idx : ℕ} (h : Tidy u) : Ends (execFolInelig p idx u) := by
  unfold execFolInelig
  exact .next (.ite h.ineligStep.folShow h)

protected theorem Tidy.hostRemove {p i : ℕ} (h : Tidy u) : Tidy (hostRemove p i u) := by
  unfold hostRemove
  extract_lets
  split
  · exact h
  · exact .ite h.setCand.candBad h.dropCand

protected theorem Tidy.hostReplace {p i : ℕ} (h : Tidy u) : Tidy (hostReplace p i u) := by
  unfold hostReplace
  exact .ite h.setProg.hostRemove h.hostRemove

protected theorem Tidy.dropReplaced {p : ℕ} (h : Tidy u) : Tidy (dropReplaced p u) := by
  unfold dropReplaced
  exact h.forEach fun _ _ h => h.dropCand

protected theorem Tidy.clistWrite {m : Master} {w : ℕ} (h : Tidy u) : Tidy (clistWrite m w u) := by
  unfold clistWrite
  exact h.folGuard
      (fun _ h => .ite
        h.refuseInst
        (.folShow (.setProg (.ite
          (by
            split
            · exact .ite h.setCand h
            · exact h) (.ite h.hostReplace h.hostRemove)))))

protected theorem Tidy.execClistWrite {m : Master} {v : Word} (h : Tidy u) : Ends (execClistWrite m v u) := by
  unfold execClistWrite
  exact .next (h.gated (fun _ h => h.clistWrite))

protected theorem Tidy.execFennelInfoUpdate {n : ℕ} {v : DabInfo} (h : Tidy u) : Ends (execFennelInfoUpdate n v u) := by
  unfold execFennelInfoUpdate
  exact .next (.ite h.beside h)

protected theorem Tidy.poolConfig {n hz : ℕ} (h : Tidy u) : Tidy (poolConfig n hz u) := by
  unfold poolConfig
  exact h.wr.setF.setI.setF.pathRefresh

protected theorem Tidy.poolPathStart {p hz : ℕ} (h : Tidy u) : Tidy (poolPathStart p hz u) := by
  unfold poolPathStart
  split
  · exact .ite h h.beside.idleRefresh
  · extract_lets base free
    cases free with
    | none => exact h
    | some i => exact .ite h.poolConfig.pathStart h.poolConfig.pathStart.setPath.beside.useShow

protected theorem Tidy.execPoolPathStart {p hz : ℕ} {fig : Bool} (h : Tidy u) : Ends (execPoolPathStart p hz fig u) := by
  unfold execPoolPathStart
  exact .next (.ite h.poolPathStart h)

protected theorem Tidy.execPoolPathTimeout {n t : ℕ} (h : Tidy u) : Ends (execPoolPathTimeout n t u) := by
  unfold execPoolPathTimeout
  exact .next
      (by
        split
        · exact .ite h.advance.beside.poolStop h
        · exact h)

protected theorem Tidy.decoderGive {p j : ℕ} (h : Tidy u) : Tidy (decoderGive p j u) := by
  unfold decoderGive
  split
  · exact .ite h.candEnter h.candEnter.decStop.useShow
  · exact h

protected theorem Tidy.decoderStart {p i : ℕ} {c : Cand} (h : Tidy u) : Tidy (decoderStart p i c u) := by
  unfold decoderStart
  extract_lets
  split
  · exact .ite h.chanTake.candEnter h
  · exact .ite
      h
      (.ite
        (h.forEach fun _ _ h => h.decoderGive)
        (by
          split
          · exact h.forEach fun _ _ h => h.decoderGive
          · extract_lets
            split
            · exact .folShow (.setCand (.candEnter (.chanTake (.decStart (.wr (h.forEach fun _ _ h => h.decoderGive))))))
            · exact .candEnter (.chanTake (.decStart (.wr (h.forEach fun _ _ h => h.decoderGive))))))

protected theorem Tidy.execFennelDecoderStart {p idx : ℕ} (h : Tidy u) : Ends (execFennelDecoderStart p idx u) := by
  unfold execFennelDecoderStart
  exact .next
      (by
        split
        · exact .ite h.decoderStart h
        · exact h)

protected theorem Tidy.execFennelDecoderStop {d t : ℕ} (h : Tidy u) : Ends (execFennelDecoderStop d t u) := by
  unfold execFennelDecoderStop
  exact .next
      (by
        split
        · exact .ite h.advance.idleRefresh.decStop.useShow h
        · exact h)

protected theorem Tidy.scoreUpdate {p i : ℕ} {c : Cand} (h : Tidy u) : Tidy (scoreUpdate p i c u) := by
  unfold scoreUpdate
  exact h.setCand.setProg.ineligStep.folShow

protected theorem Tidy.execScoreUpdate {p idx : ℕ} (h : Tidy u) : Ends (execScoreUpdate p idx u) := by
  unfold execScoreUpdate
  exact .next
      (by
        split
        · exact .ite (.ite h.scoreUpdate h.setCand) h
        · exact h)

protected theorem Tidy.execDiscretionarySwitch {p : ℕ} (h : Tidy u) : Ends (execDiscretionarySwitch p u) := by
  unfold execDiscretionarySwitch
  exact .next
      (.ite
        (by
          split
          · exact h.fadeStart
          · exact h) h)

protected theorem Tidy.execForcedSwitch {p : ℕ} (h : Tidy u) : Ends (execForcedSwitch p u) := by
  unfold execForcedSwitch
  exact .next
      (by
        split
        · exact .ite
            (by
              split
              · exact .ite h.fadeStart h.fadeStart
              · exact h) h
        · exact h)

protected theorem Tidy.hardStart {p b tb : ℕ} {c : Cand} (h : Tidy u) : Tidy (hardStart p b tb c u) := by
  unfold hardStart
  exact h.setProg.set64.setF.bump.raise.folShow

protected theorem Tidy.execHardSwitch {p : ℕ} (h : Tidy u) : Ends (execHardSwitch p u) := by
  unfold execHardSwitch
  exact .next
      (by
        split
        · exact .ite
            (by
              split
              · exact h.hardStart
              · exact h) h
        · exact h)

protected theorem Tidy.fadeEnd {p : ℕ} {f : Fade} (h : Tidy u) : Tidy (fadeEnd p f u) := by
  unfold fadeEnd
  exact h.setProg.setF.dropReplaced.folShow

protected theorem Tidy.execXfadeEnd {p : ℕ} (h : Tidy u) : Ends (execXfadeEnd p u) := by
  unfold execXfadeEnd
  exact .next
      (by
        split
        · exact .ite h.fadeEnd h
        · exact h)

protected theorem Tidy.execAlignMeasure {p idx u' : ℕ} (h : Tidy u) : Ends (execAlignMeasure p idx u' u) := by
  unfold execAlignMeasure
  exact .next
      (by
        split
        · exact .ite
            (by
              split
              · exact h
              · exact h.setCand.ineligStep.folShow) h
        · exact h)

protected theorem Tidy.execLoudnessUpdate {p idx t : ℕ} (h : Tidy u) : Ends (execLoudnessUpdate p idx t u) := by
  unfold execLoudnessUpdate
  exact .next
      (by
        split
        · exact .ite
            (by
              split
              · exact h
              · exact h.setCand.folShow) h
        · exact h)

protected theorem Tidy.hardTake {p : ℕ} (h : Tidy u) : Tidy (hardTake p u) := by
  unfold hardTake
  extract_lets
  split
  · exact h
  · exact .ite h.setProg.setF.dropReplaced h

protected theorem Tidy.muteTake {p : ℕ} (h : Tidy u) : Tidy (muteTake p u) := by
  unfold muteTake
  extract_lets
  split
  · exact .ite h.setProg.setF h
  · exact h

protected theorem Tidy.formBlock {p : ℕ} {complete : Bool} (h : Tidy u) : Tidy (formBlock p complete u) := by
  unfold formBlock
  exact .ite
      (.folShow (.bump (.setProg (.muteTake (.hardTake (.ite h.lostShow h))))))
      (.folShow (.streamNote (.setProg (.ite
        (.bump (.muteTake (.hardTake (.ite h.lostShow h))))
        (.muteTake (.hardTake (.ite h.lostShow h)))))))

protected theorem Tidy.execProgBlockForm {p : ℕ} {complete : Bool} (h : Tidy u) : Ends (execProgBlockForm p complete u) := by
  unfold execProgBlockForm
  exact .next (.ite h.advance.formBlock h)

end

end Sys2Proof.Machine
end

section
/-! SUPPORT. Marrow and the serial ports keep the canonical form. -/

set_option Elab.async false

namespace Sys2Proof.Machine

section
variable {u : State}

/-! ## Marrow -/

protected theorem Tidy.regCmdWrite {w : ℕ} (h : Tidy u) : Tidy (regCmdWrite w u) := by
  unfold regCmdWrite
  exact .ite h (.ite h.refuse (.ite h.refuse h.setF.beside))

protected theorem Tidy.shadowWrite {a : ℕ} {w : Word} (h : Tidy u) : Tidy (shadowWrite a w u) := by
  unfold shadowWrite
  exact .ite h.regPut.setF h.refuse

protected theorem Tidy.execMrwApply {m : Master} (h : Tidy u) : Ends (execMrwApply m u) := by
  unfold execMrwApply
  exact .next (h.gated (fun _ h => h.regCmdWrite))

protected theorem Tidy.regionsFix (h : Tidy u) : Tidy (regionsFix u) := by
  unfold regionsFix
  exact .ite h (.setF (.setF (.setF (h.forEach fun _ _ h => h.setF.setF))))

protected theorem Tidy.ringsStart {t : ℕ} (h : Tidy u) : Tidy (ringsStart t u) := by
  unfold ringsStart
  exact h.set64.setB.setF.setF.setF

protected theorem Tidy.outShow {who : ℕ} (h : Tidy u) : Tidy (outShow who u) := by
  unfold outShow
  exact h.setF

protected theorem Tidy.mrwAnswer {id who code : ℕ} {data : List Byte} (h : Tidy u) : Tidy (mrwAnswer id who code data u) := by
  unfold mrwAnswer
  exact .obsReply (.ite h.beside.bump <| .ite h.beside.bump <| .ite h.beside.bump <| .ite h.beside.bump h.beside)

protected theorem Tidy.mrwAdmit {p : MPend} (h : Tidy u) : Tidy (mrwAdmit p u) := by
  unfold mrwAdmit
  exact .outShow (.beside (.winAdmit (.ite h.store h)))

protected theorem Tidy.mrwSay {id who code : ℕ} {data : List Byte} (h : Tidy u) : Tidy (mrwSay id who code data u) := by
  unfold mrwSay
  exact .ite h.beside h.mrwAnswer

protected theorem Tidy.mrwFlush {who n : ℕ} (h : Tidy u) : Tidy (mrwFlush who n u) := by
  induction n generalizing u with
  | zero => exact h
  | succ n ih =>
    unfold mrwFlush
    split
    · exact .ite h (ih h.beside.mrwAnswer)
    · exact h

protected theorem Tidy.mrwReplyTo {id who code : ℕ} {data : List Byte} (h : Tidy u) : Tidy (mrwReplyTo id who code data u) := by
  unfold mrwReplyTo
  exact h.mrwSay.mrwFlush

protected theorem Tidy.mrwServe {k n : ℕ} (h : Tidy u) : Tidy (mrwServe k n u) := by
  induction n generalizing u with
  | zero => exact h
  | succ n ih =>
    rw [mrwServe_succ]
    cases u.nextServed k with
    | none => exact h
    | some p => exact .ite h (ih h.beside.mrwAdmit)

protected theorem Tidy.mrwRequest {q : MReq} (h : Tidy u) : Tidy (mrwRequest q u) := by
  unfold mrwRequest
  exact .ite
      h.beside.mrwSay
      (.ite
        h.beside.mrwSay
        (by
          split
          · exact h.beside.mrwAdmit
          · exact h.beside.mrwSay
          · exact h.beside.beside.mrwServe))

protected theorem Tidy.execMarrowRequest {q : MReq} {t : ℕ} (h : Tidy u) : Ends (execMarrowRequest q t u) := by
  unfold execMarrowRequest
  exact .next (.ite h.advance.mrwRequest h)

protected theorem Tidy.execMarrowAdmissionWindow {k t : ℕ} (h : Tidy u) : Ends (execMarrowAdmissionWindow k t u) := by
  unfold execMarrowAdmissionWindow
  exact .next (.ite h.advance.beside.mrwServe h)

protected theorem Tidy.execMarrowWaitTimeout {id t : ℕ} (h : Tidy u) : Ends (execMarrowWaitTimeout id t u) := by
  unfold execMarrowWaitTimeout
  exact .next
      (by
        split
        · exact .ite h.advance.beside.mrwReplyTo h
        · exact h)

protected theorem Tidy.eccFix {k dev : ℕ} (h : Tidy u) : Tidy (eccFix k dev u) := by
  unfold eccFix
  exact .ite h.bump.beside.setF.raise h.bump.beside

protected theorem Tidy.eccDead {a : ℕ} (h : Tidy u) : Tidy (eccDead a u) := by
  unfold eccDead
  exact h.bump.set64.raise

protected theorem Tidy.eccStep {a : ℕ} {e : Ecc} (h : Tidy u) : Tidy (eccStep a e u) := by
  unfold eccStep
  split
  · exact h.eccFix
  · exact h.eccDead

protected theorem Tidy.eccLines {a : ℕ} {l : List (ℕ × Ecc)} (h : Tidy u) : Tidy (eccLines a l u) := by
  unfold eccLines
  exact h.foldl fun _ _ h => h.eccStep

protected theorem Tidy.mrwRelease {p : MPend} (h : Tidy u) : Tidy (mrwRelease p u) := by
  unfold mrwRelease
  exact h.beside.outShow.forEach fun _ _ h => h.mrwServe

protected theorem Tidy.execMarrowReply {id : ℕ} {e : List (ℕ × Ecc)} (h : Tidy u) : Ends (execMarrowReply id e u) := by
  unfold execMarrowReply
  exact .next
      (by
        split
        · exact .ite
            h
            (.ite (.mrwReplyTo (.ite h.mrwRelease h.mrwRelease.eccLines)) (.mrwReplyTo (.ite h.mrwRelease h.mrwRelease.eccLines)))
        · exact h)

protected theorem Tidy.execMarrowCompletionDiscard {id : ℕ} (h : Tidy u) : Ends (execMarrowCompletionDiscard id u) := by
  unfold execMarrowCompletionDiscard
  exact .next
      (by
        split
        · exact .ite h.mrwRelease.bump.bump h
        · exact h)

protected theorem Tidy.execScrubStep {progress : ℕ} {fixes : List (ℕ × ℕ)} {dead : List ℕ} (h : Tidy u) :
    Ends (execScrubStep progress fixes dead u) := by
  unfold execScrubStep
  exact .next (.ite (.setF (.forEach (h.beside.foldl fun _ _ h => h.eccFix) fun _ _ h => h.eccDead)) h)

protected theorem Tidy.ringRefused {kind inst : ℕ} (h : Tidy u) : Tidy (ringRefused kind inst u) := by
  unfold ringRefused
  split
  · exact h.bump
  · exact h

protected theorem Tidy.bbRecord {n ts : ℕ} {ok : Bool} (h : Tidy u) : Tidy (bbRecord n ts ok u) := by
  unfold bbRecord
  split
  · exact h
  · exact .ite h (.ite h.setPath.winAdmit.store h.setPath.bump.ringRefused)

protected theorem Tidy.setProduced {kind num : ℕ} {q : Produced} (h : Tidy u) : Tidy (u.setProduced kind num q) := by
  unfold State.setProduced
  exact .ite h.setPath (.ite h.setDecoder h.setProg)

protected theorem Tidy.audRecord {kind num ts : ℕ} {ok : Bool} (h : Tidy u) : Tidy (audRecord kind num ts ok u) := by
  unfold audRecord
  split
  · exact .ite h.setProduced.winAdmit.store h.setProduced.bump.ringRefused
  · exact h

protected theorem Tidy.execRingRecordWrite {kind num ts : ℕ} {accepted : Bool} (h : Tidy u) :
    Ends (execRingRecordWrite kind num ts accepted u) := by
  unfold execRingRecordWrite
  exact .next (.ite (.ite h.bbRecord h.audRecord) h)

protected theorem Tidy.chanReview (h : Tidy u) : Tidy (chanReview u) := by
  unfold chanReview
  exact .beside (h.forEach fun _ _ h => h.chanFree)

protected theorem Tidy.execAudioChannelAssign {kind num : ℕ} (h : Tidy u) : Ends (execAudioChannelAssign kind num u) := by
  unfold execAudioChannelAssign
  exact .next
      (.ite
        (.ite h.chanReview h)
        (.ite
          (.beside (.chanTake (.ite h.chanReview h)))
          (.ite (.ite h.chanReview h) (.raise (.beside (.bump (.ite h.chanReview h)))))))

protected theorem Tidy.tshWrite {i w : ℕ} (h : Tidy u) : Tidy (tshWrite i w u) := by
  unfold tshWrite
  exact .ite h.refuse (.ite h.refuse (.forEach (h.wr.forEach fun _ _ h => h.chanFree) fun _ _ h => h.chanTake))

protected theorem Tidy.execTimeshiftWrite {m : Master} {i : ℕ} {v : Word} (h : Tidy u) : Ends (execTimeshiftWrite m i v u) := by
  unfold execTimeshiftWrite
  exact .next (.ite (h.gated (fun _ h => h.tshWrite)) h)

protected theorem Tidy.snapArm (h : Tidy u) : Tidy (snapArm u) := by
  unfold snapArm
  exact .ite h.refuse (.ite h.refuse h.setF.setF.setF.beside)

protected theorem Tidy.snapTrig (h : Tidy u) : Tidy (snapTrig u) := by
  unfold snapTrig
  exact .ite h.snapTrigger h.bump

protected theorem Tidy.snapStop (h : Tidy u) : Tidy (snapStop u) := by
  unfold snapStop
  exact .ite h.setF (.ite h.setF h)

protected theorem Tidy.snapCmdWrite {w : ℕ} (h : Tidy u) : Tidy (snapCmdWrite w u) := by
  unfold snapCmdWrite
  exact .ite h.refuse <| .ite h <| .ite h.snapArm <| .ite h.snapTrig <| .ite h.snapStop h.refuse

protected theorem Tidy.snapRegWrite {a : ℕ} {w : Word} (h : Tidy u) : Tidy (snapRegWrite a w u) := by
  unfold snapRegWrite
  exact .ite h.refuse (.ite h.refuse (.ite h.refuse h.regPut.setF))

protected theorem Tidy.execSnpArm {m : Master} (h : Tidy u) : Ends (execSnpArm m u) := by
  unfold execSnpArm
  exact .next (h.gated (fun _ h => h.snapCmdWrite))

protected theorem Tidy.execSnpTrig {m : Master} (h : Tidy u) : Ends (execSnpTrig m u) := by
  unfold execSnpTrig
  exact .next (h.gated (fun _ h => h.snapCmdWrite))

protected theorem Tidy.execSnapStop {m : Master} (h : Tidy u) : Ends (execSnapStop m u) := by
  unfold execSnapStop
  exact .next (h.gated (fun _ h => h.snapCmdWrite))

protected theorem Tidy.execSnapMatchTrigger {ts : ℕ} (h : Tidy u) : Ends (execSnapMatchTrigger ts u) := by
  unfold execSnapMatchTrigger
  exact .next (.ite h.snapTrigger h)

protected theorem Tidy.execSnapDone {t : ℕ} (h : Tidy u) : Ends (execSnapDone t u) := by
  unfold execSnapDone
  exact .next (.ite h.advance.setF.raise h)

/-! ## Serial audio ports -/

protected theorem Tidy.setSap {k : ℕ} {v : Sap} (h : Tidy u) : Tidy (u.setSap k v) := by
  unfold State.setSap
  exact h.beside

protected theorem Tidy.audShow (h : Tidy u) : Tidy (audShow u) := by
  unfold audShow
  exact h.setB

protected theorem Tidy.sapGuard {m : Master} {k : ℕ} {f : State → State} (h : Tidy u) (hf : ∀ x, Tidy x → Tidy (f x)) :
    Tidy (sapGuard m k f u) := by
  unfold sapGuard
  exact .ite h.refuse (hf _ h)

protected theorem Tidy.sapStates {k st : ℕ} (h : Tidy u) : Tidy (sapStates k st u) := by
  unfold sapStates
  exact h.setF.setF

protected theorem Tidy.capEmit {k ts flags : ℕ} {bytes : List ℕ} (h : Tidy u) : Tidy (capEmit k ts flags bytes u) := by
  unfold capEmit
  exact h.beside

protected theorem Tidy.capClose {k : ℕ} (h : Tidy u) : Tidy (capClose k u) := by
  unfold capClose
  split
  · exact h
  · exact .ite h.setSap h.setSap.capEmit

protected theorem Tidy.sapCtl {k : ℕ} {w : Word} (h : Tidy u) : Tidy (sapCtl k w u) := by
  unfold sapCtl
  exact .ite
      h.refuseInst
      (.ite
        h.refuseInst
        (.ite
          h.regPut.setB
          (.ite
            (.setF (.sapStates (.setSap (.ite h.regPut.setB h.regPut.setB.capClose))))
            (.setF (.sapStates (.setSap (.ite h.regPut.setB h.regPut.setB.capClose)))))))

protected theorem Tidy.execSapCtlWrite {m : Master} {k : ℕ} {v : Word} (h : Tidy u) : Ends (execSapCtlWrite m k v u) := by
  unfold execSapCtlWrite
  exact .next (.ite (h.gated (fun _ h => h.sapGuard (fun _ h => h.sapCtl.audShow))) h)

protected theorem Tidy.sapMap {k i : ℕ} {w : Word} (h : Tidy u) : Tidy (sapMap k i w u) := by
  unfold sapMap
  exact .ite h.refuseInst (.ite h.refuseInst h.regPut)

protected theorem Tidy.execSapMapWrite {m : Master} {k i : ℕ} {v : Word} (h : Tidy u) : Ends (execSapMapWrite m k i v u) := by
  unfold execSapMapWrite
  exact .next (.ite (h.gated (fun _ h => h.sapGuard (fun _ h => h.sapMap))) h)

protected theorem Tidy.execSapMute {m : Master} {k : ℕ} {on : Bool} (h : Tidy u) : Ends (execSapMute m k on u) := by
  unfold execSapMute
  exact .next (.ite (h.gated (fun _ h => h.sapGuard (fun _ h => h.setB))) h)

protected theorem Tidy.sapIcap {m : Master} {k : ℕ} {w : Word} (h : Tidy u) : Tidy (sapIcap m k w u) := by
  unfold sapIcap
  exact .ite h.refuseInst (.ite h.refuseInst (.ite (.setF (.regPut (.ite h.capClose h))) (.regPut (.ite h.capClose h))))

protected theorem Tidy.execMaskCommit {m : Master} {k : ℕ} (h : Tidy u) : Ends (execMaskCommit m k u) := by
  unfold execMaskCommit
  exact .next (.ite (h.gated (fun _ h => h.sapGuard (fun _ h => h.sapIcap))) h)

protected theorem Tidy.sapTcsCtl {k : ℕ} {w : Word} (h : Tidy u) : Tidy (sapTcsCtl k w u) := by
  unfold sapTcsCtl
  exact .ite h.regPut.setSap h.regPut

protected theorem Tidy.execTcsApply {m : Master} {k : ℕ} (h : Tidy u) : Ends (execTcsApply m k u) := by
  unfold execTcsApply
  exact .next (.ite (h.gated (fun _ h => h.sapGuard (fun _ h => h.sapTcsCtl))) h)

protected theorem Tidy.sapHandoff {k i h' : ℕ} (h : Tidy u) : Tidy (sapHandoff k i h' u) := by
  unfold sapHandoff
  extract_lets
  split
  · exact h
  · exact .ite
      (.ite h.bump h)
      (.ite h (.ite (.setSap (.ite (.raise (.bump (.ite h.bump h))) (.bump (.ite h.bump h)))) (.setSap (.ite h.bump h))))

protected theorem Tidy.execSapBlockHandoff {k pair h' : ℕ} (h : Tidy u) : Ends (execSapBlockHandoff k pair h' u) := by
  unfold execSapBlockHandoff
  exact .next (.ite h.advance.sapHandoff h)

protected theorem Tidy.pairsStep {k stamp n i : ℕ} {acc : List OutSamp} (h : Tidy u) : Tidy (pairsStep k stamp n i u acc).1 := by
  induction n generalizing i u acc with
  | zero => exact h
  | succ n ih =>
    unfold pairsStep
    extract_lets r s1 s3 s2 s4
    have h1 : Tidy s1 := h.setSap.bumpBy.bumpBy
    have h2 : Tidy s2 := .ite h1 (.ite h1.bump.raise h1.bump)
    exact ih (.ite h2.set64.setF h2)

protected theorem Tidy.sapSend {k : ℕ} {l : List (ℕ × Bool)} (h : Tidy u) : Tidy (sapSend k l u) := by
  unfold sapSend
  exact h.setSap

protected theorem Tidy.sapOutSeek {k : ℕ} (h : Tidy u) : Tidy (sapOutSeek k u) := by
  unfold sapOutSeek
  exact h.sapSend

protected theorem Tidy.sapOutRun {k stamp : ℕ} (h : Tidy u) : Tidy (sapOutRun k stamp u) := by
  unfold sapOutRun
  exact h.pairsStep.setSap.sapSend.setB

protected theorem Tidy.maskApply {k stamp flags : ℕ} (h : Tidy u) : Tidy (maskApply k stamp flags u) := by
  unfold maskApply
  exact .ite h (.raise (.ite (.capEmit (.setF (.setF (.ite h.capClose h)))) (.setF (.setF (.ite h.capClose h)))))

protected theorem Tidy.capFrame {k stamp flags : ℕ} {words : List ℕ} (h : Tidy u) : Tidy (capFrame k stamp flags words u) := by
  unfold capFrame
  exact .ite h (.ite h.setSap.capClose h.setSap)

protected theorem Tidy.capLost {k stamp : ℕ} (h : Tidy u) : Tidy (capLost k stamp u) := by
  unfold capLost
  exact .ite h.setSap h

protected theorem Tidy.sapInRun {k : ℕ} {f : SapFrame} {glitch : Bool} (h : Tidy u) : Tidy (sapInRun k f glitch u) := by
  unfold sapInRun
  exact .ite
      (.ktCapStore (.capFrame (.maskApply (.bumpBy (.ite (.setF (.ite h.setSap.bump h.setSap)) (.ite h.setSap.bump h.setSap))))))
      (.capFrame (.maskApply (.bumpBy (.ite (.setF (.ite h.setSap.bump h.setSap)) (.ite h.setSap.bump h.setSap)))))

protected theorem Tidy.sapLeave {k d st : ℕ} (h : Tidy u) : Tidy (sapLeave k d st u) := by
  unfold sapLeave
  exact .ite h.setF.setSap.setF (.setSap (.ite h.setF.capClose h.setF))

protected theorem Tidy.sapEnterRun {k d ticks : ℕ} (h : Tidy u) : Tidy (sapEnterRun k d ticks u) := by
  unfold sapEnterRun
  exact .ite (.ite h.setF.setI h.setF.setI) (.raise (.ite h.setF.setI h.setF.setI))

protected theorem Tidy.sapClock {k d stamp : ℕ} {glitch : Bool} (h : Tidy u) : Tidy (sapClock k d stamp glitch u) := by
  unfold sapClock
  exact .ite
      h.sapLeave.setSap
      (.ite
        (.setSap (.ite h.bump h.bump))
        (.ite
          (.ite (.ite h.sapEnterRun.setSap h.setSap) h.setSap)
          (.ite
            h.setSap
            (.ite (.setSap (.sapLeave (.ite (.ite h.bump h.bump) (.raise (.ite h.bump h.bump))))) (.setSap (.ite h.setI h.setI))))))

protected theorem Tidy.sapDirFrame {k d : ℕ} {f : SapFrame} (h : Tidy u) : Tidy (sapDirFrame k d f u) := by
  unfold sapDirFrame
  exact .ite h.sapClock.sapOutSeek <| .ite h.sapClock <| .ite (.ite h.sapClock h.sapClock.sapOutRun) <|
      .ite h.sapClock.capLost h.sapClock.sapInRun

protected theorem Tidy.execSapFrame {k : ℕ} {f : SapFrame} (h : Tidy u) : Ends (execSapFrame k f u) := by
  unfold execSapFrame
  exact .next (.ite (.audShow (.ite h.advance.sapDirFrame.sapDirFrame h.advance.sapDirFrame)) h)

protected theorem Tidy.sapStop {k d : ℕ} (h : Tidy u) : Tidy (sapStop k d u) := by
  unfold sapStop
  exact .sapLeave (.ite (.ite h.bump h.bump) (.raise (.ite h.bump h.bump)))

protected theorem Tidy.execSapClockStop {k dir t : ℕ} (h : Tidy u) : Ends (execSapClockStop k dir t u) := by
  unfold execSapClockStop
  exact .next (.ite (.audShow (.ite h.advance.sapStop.sapStop h.advance.sapStop)) h)

protected theorem Tidy.sapTap {k ts : ℕ} (h : Tidy u) : Tidy (sapTap k ts u) := by
  unfold sapTap
  exact .ite
      (.bump (.ite
        (.bump (.setSap (h.forEach fun _ _ h => h.laneFeed)))
        (.ite (.bump (.setSap (h.forEach fun _ _ h => h.laneFeed))) (.setSap (h.forEach fun _ _ h => h.laneFeed)))))
      (.ite
        (.bump (.setSap (h.forEach fun _ _ h => h.laneFeed)))
        (.ite (.bump (.setSap (h.forEach fun _ _ h => h.laneFeed))) (.setSap (h.forEach fun _ _ h => h.laneFeed))))

protected theorem Tidy.execSapTapBlock {k ts : ℕ} (h : Tidy u) : Ends (execSapTapBlock k ts u) := by
  unfold execSapTapBlock
  exact .next (.ite h.advance.sapTap h)

protected theorem Tidy.execAes3CsBlock {k : ℕ} (h : Tidy u) : Ends (execAes3CsBlock k u) := by
  unfold execAes3CsBlock
  exact .next
      (by
        split
        · exact h
        · exact .ite h (.ite h.setSap.bump (.ite h.setSap (.raise (h.setSap.forEach fun _ _ h => h.wr)))))

end

end Sys2Proof.Machine
end

section
/-! SUPPORT. The PTP port, Ethernet and PCIe keep the canonical form. -/

set_option Elab.async false

namespace Sys2Proof.Machine

section
variable {u : State}

/-! ## PTP -/

protected theorem Tidy.setPtp {p : Ptp} (h : Tidy u) : Tidy (u.setPtp p) := by
  unfold State.setPtp
  exact h.beside

protected theorem Tidy.ptpEnter {st : ℕ} (h : Tidy u) : Tidy (ptpEnter st u) := by
  unfold ptpEnter
  exact .ite
      (.ite
        (.setF (.ite
          (.spllLoseNow (.setPtp (.raise (.bump (.ite h.setF.setPtp h.setF)))))
          (.setPtp (.raise (.bump (.ite h.setF.setPtp h.setF))))))
        (.setPtp (.raise (.bump (.ite h.setF.setPtp h.setF)))))
      (.ite h.setF.setPtp h.setF)

protected theorem Tidy.ptpFollow {a : PtpAnn} (h : Tidy u) : Tidy (ptpFollow a u) := by
  unfold ptpFollow
  exact h.ptpEnter.setPtp

protected theorem Tidy.ptpAnnounce {a : PtpAnn} (h : Tidy u) : Tidy (ptpAnnounce a u) := by
  unfold ptpAnnounce
  exact .ite h (.ite h.ptpEnter.setPtp <| .ite h.ptpEnter.setPtp <| .ite h.setPtp <| .ite h.ptpFollow h)

protected theorem Tidy.execPtpAnnounce {p : PtpAnn} (h : Tidy u) : Ends (execPtpAnnounce p u) := by
  unfold execPtpAnnounce
  exact .next h.advance.ptpAnnounce

protected theorem Tidy.ptpAlone (h : Tidy u) : Tidy (ptpAlone u) := by
  unfold ptpAlone
  exact h.ptpEnter.setPtp

protected theorem Tidy.execPtpAnnounceTimeout {t : ℕ} (h : Tidy u) : Ends (execPtpAnnounceTimeout t u) := by
  unfold execPtpAnnounceTimeout
  exact .next (.ite h.advance.ptpAlone h.advance)

protected theorem Tidy.execPtpSyncTimeout {t : ℕ} (h : Tidy u) : Ends (execPtpSyncTimeout t u) := by
  unfold execPtpSyncTimeout
  exact .next (.ite h.advance.ptpEnter h.advance)

protected theorem Tidy.execPtpDelayReqSend {t : ℕ} (h : Tidy u) : Ends (execPtpDelayReqSend t u) := by
  unfold execPtpDelayReqSend
  exact .next (.ite h.advance.setPtp h.advance)

protected theorem Tidy.execPtpDelayResp {p : PtpMsg} (h : Tidy u) : Ends (execPtpDelayResp p u) := by
  unfold execPtpDelayResp
  exact .next
      (by
        split
        · exact .ite h.advance.setPtp.setI h.advance
        · exact h.advance)

protected theorem Tidy.mapUpdate {c : ℕ} {y rate : ℤ} (h : Tidy u) : Tidy (mapUpdate c y rate u) := by
  unfold mapUpdate
  exact .setF (.ite h.set64.setF.setF.setF.setI.setF h.set64.setF.setF.setF.setI.setF.beside)

protected theorem Tidy.servo {rate : ℤ} {ticks : ℕ} (h : Tidy u) : Tidy (servo rate ticks u) := by
  unfold servo
  exact .ite h.setI.beside h

protected theorem Tidy.ptpSteer {c : ℕ} {y rate : ℤ} {ticks : ℕ} (h : Tidy u) : Tidy (ptpSteer c y rate ticks u) := by
  unfold ptpSteer
  exact .ite h.mapUpdate.servo h

protected theorem Tidy.ptpAccept {c : ℕ} {y : ℤ} (h : Tidy u) : Tidy (ptpAccept c y u) := by
  unfold ptpAccept
  exact .ite (.ite h.setPtp.ptpEnter h.setPtp.ptpSteer) (.ite h.setPtp.ptpEnter.ptpSteer h.setPtp)

protected theorem Tidy.ptpComplete {o : ℤ} {c : ℕ} (h : Tidy u) : Tidy (ptpComplete o c u) := by
  unfold ptpComplete
  exact .ite (.ite h.setPtp.setPtp h.setPtp) h.setPtp.ptpAccept

protected theorem Tidy.execPtpSync {p : PtpMsg} (h : Tidy u) : Ends (execPtpSync p u) := by
  unfold execPtpSync
  exact .next (.ite h.advance (.ite h.advance.setPtp.setPtp h.advance.setPtp.ptpComplete))

protected theorem Tidy.execPtpFollowUp {p : PtpMsg} (h : Tidy u) : Ends (execPtpFollowUp p u) := by
  unfold execPtpFollowUp
  exact .next
      (by
        split
        · exact .ite h.advance.ptpComplete h.advance
        · exact h.advance)

protected theorem Tidy.execPtpMasterSend {kind t : ℕ} (h : Tidy u) : Ends (execPtpMasterSend kind t u) := by
  unfold execPtpMasterSend
  exact .next
      (.ite
        h.advance
        (.ite
          (.ite h.advance.setPtp h.advance)
          (.ite
            (.ite h.advance.setPtp h.advance)
            (by
              split
              · exact h.advance.setPtp
              · exact h.advance))))

protected theorem Tidy.execPpsPulse {t : ℕ} (h : Tidy u) : Ends (execPpsPulse t u) := by
  unfold execPpsPulse
  exact .next (.ite h.advance.setPtp.beside h.advance)

protected theorem Tidy.execPpsEnd {t : ℕ} (h : Tidy u) : Ends (execPpsEnd t u) := by
  unfold execPpsEnd
  exact .next (.ite h.advance.beside h.advance)

protected theorem Tidy.ptpCtlWrite {w : Word} (h : Tidy u) : Tidy (ptpCtlWrite w u) := by
  unfold ptpCtlWrite
  exact .ite
      h.refuse
      (.ite
        h.refuse
        (.ite
          (.setPtp (.ptpEnter (.ite h.regPut h.regPut.beside)))
          (.ite (.setPtp (.ptpEnter (.ite h.regPut h.regPut.beside))) (.ite h.regPut h.regPut.beside))))

/-! ## Ethernet -/

protected theorem Tidy.setEgr {m : ℕ} {e : Egress} (h : Tidy u) : Tidy (u.setEgr m e) := by
  unfold State.setEgr
  exact h.beside

protected theorem Tidy.egrServe {m t n : ℕ} (h : Tidy u) : Tidy (egrServe m t n u) := by
  induction n generalizing u with
  | zero => exact h
  | succ n ih =>
    unfold egrServe
    refine .ite h ?_
    split
    · exact ih h.setEgr
    · exact h

protected theorem Tidy.egrRun {m t : ℕ} (h : Tidy u) : Tidy (egrRun m t u) := by
  unfold egrRun
  exact h.egrServe

protected theorem Tidy.egrDrop {m c : ℕ} {cls : Bool} (h : Tidy u) : Tidy (egrDrop m c cls u) := by
  unfold egrDrop
  exact h.bump

protected theorem Tidy.casLost {p : EgrPkt} (h : Tidy u) : Tidy (casLost p u) := by
  unfold casLost
  exact .ite h (.ite (.bumpBy (.ite h h.beside)) (.ite h h.beside))

protected theorem Tidy.egrLose {m : ℕ} {p : EgrPkt} (h : Tidy u) : Tidy (egrLose m p u) := by
  unfold egrLose
  exact h.egrDrop.casLost

protected theorem Tidy.egrYield {m : ℕ} (h : Tidy u) : Tidy (egrYield m u) := by
  unfold egrYield
  exact .ite (h.setEgr.foldl fun _ _ h => h.egrLose) h

protected theorem Tidy.egrPut {m : ℕ} {p : EgrPkt} (h : Tidy u) : Tidy (egrPut m p u).2 := by
  unfold egrPut
  exact .iteSnd h.egrRun.setEgr.egrRun.egrYield.pair h.egrRun.egrLose.pair

protected theorem Tidy.egrMark {m c bytes t dscp : ℕ} (h : Tidy u) : Tidy (egrMark m c bytes t dscp u).2 := by
  unfold egrMark
  exact h.egrPut

protected theorem Tidy.egrSend {m c bytes t : ℕ} (h : Tidy u) : Tidy (egrSend m c bytes t u).2 := by
  unfold egrSend
  exact h.egrMark

protected theorem Tidy.execEgressTimeout {port cls t : ℕ} (h : Tidy u) : Ends (execEgressTimeout port cls t u) := by
  unfold execEgressTimeout
  exact .next
      (.ite
        h
        (by
          split
          · exact h.advance.egrRun.setEgr.egrLose
          · exact h.advance.egrRun))

protected theorem Tidy.rateShow (h : Tidy u) : Tidy (rateShow u) := by
  unfold rateShow
  exact h.forEach fun _ _ h => h.setF

protected theorem Tidy.portDown {m : ℕ} (h : Tidy u) : Tidy (portDown m u) := by
  unfold portDown
  exact .ite h.setF (.ite h.setF.setF.raise.ptpEnter.setPtp h.setF.setF.raise)

protected theorem Tidy.execEthLinkChange {port : ℕ} {up block : Bool} (h : Tidy u) :
    Ends (execEthLinkChange port up block u) := by
  unfold execEthLinkChange
  exact .next (.ite h (.ite h.portDown.setB (.ite h.setB h.setB.setF.raise)))

protected theorem Tidy.netPortWrite {m : ℕ} {w : Word} (h : Tidy u) : Tidy (netPortWrite m w u) := by
  unfold netPortWrite
  exact .ite h.refuse (.rateShow (.ite h.regPut h.regPut.portDown))

protected theorem Tidy.execEthFrameRx {port : ℕ} {f : EthFrame} {t : ℕ} (h : Tidy u) : Ends (execEthFrameRx port f t u) := by
  unfold execEthFrameRx
  exact .next
      (.ite h.advance <| .ite h.advance.bump <| .ite (.ite h.advance.bump h.advance) <| .ite (.ite h.advance.egrSend h.advance) <|
        .ite h.advance.egrSend h.advance)

protected theorem Tidy.setTx {k : ℕ} {v : NetTx} (h : Tidy u) : Tidy (u.setTx k v) := by
  unfold State.setTx
  exact h.beside

protected theorem Tidy.netTxWrite {k : ℕ} {w : Word} (h : Tidy u) : Tidy (netTxWrite k w u) := by
  unfold netTxWrite
  exact .ite (.ite h.refuse (.ite h h.regPut.setTx.rateShow)) <| .ite h.plainWrite <| .ite h.refuse <| .ite h.refuse <|
      .ite h.refuse h.regPut.setTx.rateShow

protected theorem Tidy.execAes67SenderEnable {m : Master} {k : ℕ} {v : Word} (h : Tidy u) :
    Ends (execAes67SenderEnable m k v u) := by
  unfold execAes67SenderEnable
  exact .next (.ite (h.gated (fun _ h => h.netTxWrite)) h)

protected theorem Tidy.netHandoff {prog h' : ℕ} {b : Option Block} (h : Tidy u) : Tidy (netHandoff prog h' b u) := by
  unfold netHandoff
  exact h.forEach
      fun _ _ h => by
        extract_lets
        split
        · exact h.setTx
        · exact h.setTx

protected theorem Tidy.txPacket {k t : ℕ} (h : Tidy u) : Tidy (txPacket k t u) := by
  unfold txPacket
  exact .ite h (.ite h.setTx.bump (.egrMark (.ite h.setTx h.setTx.bump)))

protected theorem Tidy.execAes67PacketTx {k t : ℕ} (h : Tidy u) : Ends (execAes67PacketTx k t u) := by
  unfold execAes67PacketTx
  exact .next (.ite h.advance.txPacket h)

protected theorem Tidy.setRx {r : ℕ} {v : NetRx} (h : Tidy u) : Tidy (u.setRx r v) := by
  unfold State.setRx
  exact h.beside

protected theorem Tidy.rxEnter {r st : ℕ} (h : Tidy u) : Tidy (rxEnter r st u) := by
  unfold rxEnter
  exact .ite h h.setF.raise

protected theorem Tidy.netRxWrite {r : ℕ} {w : Word} (h : Tidy u) : Tidy (netRxWrite r w u) := by
  unfold netRxWrite
  exact .ite (.ite h.refuse (.ite h h.regPut.setRx.rxEnter)) (.ite h.refuse (.ite h.refuse (.ite h.regPut.setRx.rxEnter h.regPut)))

protected theorem Tidy.rxPacket {r : ℕ} {p : RtpPacket} {t : ℕ} (h : Tidy u) : Tidy (rxPacket r p t u) := by
  unfold rxPacket
  exact .ite h.setRx.rxEnter (.ite (.ite h.bump.setRx h.bump) h.setRx.bumpBy.rxEnter)

protected theorem Tidy.execAes67PacketRx {port r : ℕ} {p : RtpPacket} {t : ℕ} (h : Tidy u) :
    Ends (execAes67PacketRx port r p t u) := by
  unfold execAes67PacketRx
  exact .next (.ite h.advance.rxPacket h)

protected theorem Tidy.rxBlock {r ts : ℕ} (h : Tidy u) : Tidy (rxBlock r ts u) := by
  unfold rxBlock
  exact .ite h.setRx.laneFeed.bump (.ite h.setRx.laneFeed.bump h.setRx.laneFeed)

protected theorem Tidy.execAes67ReceiverBlock {r ts : ℕ} (h : Tidy u) : Ends (execAes67ReceiverBlock r ts u) := by
  unfold execAes67ReceiverBlock
  exact .next (.ite h.advance.rxBlock h)

protected theorem Tidy.setIq {i : ℕ} {v : NetIq} (h : Tidy u) : Tidy (u.setIq i v) := by
  unfold State.setIq
  exact h.beside

protected theorem Tidy.netIqWrite {i : ℕ} {w : Word} (h : Tidy u) : Tidy (netIqWrite i w u) := by
  unfold netIqWrite
  exact .ite (.rateShow (.ite h.plainWrite.setIq h.plainWrite)) <| .ite h.refuse <| .ite h.refuse <|
      .ite h.refuse (.rateShow (.regPut (.ite h h.setIq)))

protected theorem Tidy.iqFeed {n : ℕ} {b : Block} (h : Tidy u) : Tidy (iqFeed n b u) := by
  unfold iqFeed
  exact h.forEach fun _ _ h => .ite h h.setIq

protected theorem Tidy.execVitaPacketTx {k t : ℕ} (h : Tidy u) : Ends (execVitaPacketTx k t u) := by
  unfold execVitaPacketTx
  exact .next
      (by
        split
        · exact h
        · exact .ite h (.ite h.advance.setIq.bump h.advance.setIq.egrMark))

protected theorem Tidy.execVitaContextTx {k t : ℕ} (h : Tidy u) : Ends (execVitaContextTx k t u) := by
  unfold execVitaContextTx
  exact .next (.ite h (.ite h.advance.setIq.egrSend.bump h.advance.setIq.egrSend))

protected theorem Tidy.casSend {ty t : ℕ} {rs : List (List ℕ)} (h : Tidy u) : Tidy (casSend ty t rs u) := by
  unfold casSend
  exact .ite h.beside.egrPut.beside h.beside.egrPut

protected theorem Tidy.execCasrumSideSend {type t : ℕ} (h : Tidy u) : Ends (execCasrumSideSend type t u) := by
  unfold execCasrumSideSend
  exact .next (.ite h (h.advance.beside.foldl fun _ _ h => h.casSend))

protected theorem Tidy.netRegWrite {a : ℕ} {w : Word} (h : Tidy u) : Tidy (netRegWrite a w u) := by
  unfold netRegWrite
  exact .ite h.ptpCtlWrite <| .ite h.netPortWrite <| .ite h.netPortWrite <| .ite (.ite h.netTxWrite (.ite h.refuse h.plainWrite)) <|
      .ite (.ite h.netRxWrite (.ite h.refuse h.plainWrite)) <| .ite h.netIqWrite h.plainWrite

/-! ## PCIe -/

protected theorem Tidy.setDma {q : ℕ} {v : Dma} (h : Tidy u) : Tidy (u.setDma q v) := by
  unfold State.setDma
  exact h.beside

protected theorem Tidy.hostPut {l : List (ℕ × List ℕ)} (h : Tidy u) : Tidy (hostPut l u) := by
  unfold hostPut
  exact h.beside

protected theorem Tidy.msixSend {v : ℕ} (h : Tidy u) : Tidy (msixSend v u) := by
  unfold msixSend
  exact .ite h.setF h.beside

protected theorem Tidy.msixWrite {a : ℕ} {w : Word} (h : Tidy u) : Tidy (msixWrite a w u) := by
  unfold msixWrite
  exact .ite h.plainWrite.setF.msixSend h.plainWrite

protected theorem Tidy.execMsixSignal {q t : ℕ} (h : Tidy u) : Ends (execMsixSignal q t u) := by
  unfold execMsixSignal
  exact .next
      (.ite
        h.advance
        (.ite
          (.msixSend (.setDma (h.advance.beside.hostPut.foldl fun _ _ h => h.msixSend)))
          (h.advance.beside.hostPut.foldl fun _ _ h => h.msixSend)))

protected theorem Tidy.streamRecord {q : ℕ} (h : Tidy u) : Tidy (streamRecord q u) := by
  unfold streamRecord
  split
  · exact h
  · exact .ite
      (.ite h.beside.bump.setDma.bump h.beside.bump.setDma)
      (.ite h (.ite h.beside.bump.setDma h.beside.hostPut.setF.setDma))

protected theorem Tidy.execDmaStreamRecord {q t : ℕ} (h : Tidy u) : Ends (execDmaStreamRecord q t u) := by
  unfold execDmaStreamRecord
  exact .next (.ite h.advance.streamRecord h.advance)

protected theorem Tidy.execDmaClass1WaitTimeout {q t : ℕ} (h : Tidy u) : Ends (execDmaClass1WaitTimeout q t u) := by
  unfold execDmaClass1WaitTimeout
  exact .next
      (by
        split
        · exact .ite h.advance.beside.bump.setDma h.advance
        · exact h.advance)

protected theorem Tidy.dmaBlock {sel inst ts : ℕ} {bytes : Option (List ℕ)} (h : Tidy u) :
    Tidy (dmaBlock sel inst ts bytes u) := by
  unfold dmaBlock
  extract_lets
  split
  · exact h.beside
  · exact h.forEach fun _ _ h => h.setDma

protected theorem Tidy.mrwCount {who code : ℕ} (h : Tidy u) : Tidy (mrwCount who code u) := by
  unfold mrwCount
  exact .obsReply (.ite h.bump <| .ite h.bump <| .ite h.bump <| .ite h.bump h)

protected theorem Tidy.mrwLine {who cls : ℕ} {write ok : Bool} {a n code : ℕ} (h : Tidy u) :
    Tidy (mrwLine who cls write ok a n code u) := by
  unfold mrwLine
  exact .ite (.eccDead (.mrwCount (.ite h.winAdmit h))) (.mrwCount (.ite h.winAdmit h))

/-- What a function that answers a pair leaves. -/
def Trails {α : Type} (p : α × State) : Prop := Tidy p.2

theorem Tidy.trails {α : Type} {a : α} (h : Tidy u) : Trails (a, u) := h

protected theorem Trails.ite {α : Type} {c : Prop} [Decidable c] {p q : α × State} (h : Trails p) (hq : Trails q) :
    Trails (if c then p else q) := by
  split
  · exact h
  · exact hq

theorem copyLines_trails {write : Bool} {n a : ℕ} {host : List Byte} {codes : List ℕ} {r : CopyRun} (h : Tidy u) :
    Trails (copyLines write n a host codes r u) := by
  induction n generalizing a host codes r u with
  | zero => exact h.trails
  | succ n ih =>
    unfold copyLines
    extract_lets ok cls y c s0 s1 s2 data
    have h0 : Tidy s0 := h.foldl fun _ _ h => h.mrwCount
    exact .ite h0.trails (ih (.ite h0.mrwLine.store h0.mrwLine))

protected theorem Tidy.copyLines {write : Bool} {n a : ℕ} {host : List Byte} {codes : List ℕ} {r : CopyRun} (h : Tidy u) :
    Tidy (copyLines write n a host codes r u).2 := copyLines_trails h

protected theorem Tidy.copyDescriptor {q : ℕ} {d host : List Byte} {codes : List ℕ} (h : Tidy u) :
    Tidy (copyDescriptor q d host codes u) := by
  unfold copyDescriptor
  extract_lets dev slots place write r code status data s1 s2
  have hr : Tidy r.2 := .iteSnd h.copyLines h.pair
  have h2 : Tidy s2 := hr.hostPut.setF
  exact .ite h2.msixSend h2

protected theorem Tidy.execDmaCopyDescriptor {q : ℕ} {desc host : List Byte} {codes : List ℕ} {t : ℕ} (h : Tidy u) :
    Ends (execDmaCopyDescriptor q desc host codes t u) := by
  unfold execDmaCopyDescriptor
  exact .next (.ite h.advance.copyDescriptor h.advance)

protected theorem Tidy.storeSome {a : ℕ} {l : List (Option Byte)} (h : Tidy u) : Tidy (storeSome a l u) := by
  induction l generalizing a u with
  | nil => exact h
  | cons b t ih =>
    cases b with
    | none => exact ih h
    | some b => exact ih h.store

protected theorem Tidy.bar2Done {write : Bool} {a : ℕ} {data : List (Option Byte)} {code : ℕ} (h : Tidy u) :
    Tidy (bar2Done write a data code u) := by
  unfold bar2Done
  exact .ite (.ite h.mrwLine h.mrwLine.storeSome) h.mrwLine.beside

protected theorem Tidy.bar2Clear {write : Bool} (h : Tidy u) : Tidy (bar2Clear write u) := by
  unfold bar2Clear
  exact .ite h h.beside

protected theorem Tidy.bar2Line {write : Bool} {code : ℕ} {p : ℕ × List (Option Byte)} (h : Tidy u) :
    Tidy (bar2Line write code u p) := by
  unfold bar2Line
  split
  · exact .ite h h.beside
  · exact .ite h.mrwCount.beside h.bar2Done

protected theorem Tidy.execBar2Access {write : Bool} {o : ℕ} {data : List (Option Byte)} {code t : ℕ} (h : Tidy u) :
    Ends (execBar2Access write o data code t u) := by
  unfold execBar2Access
  exact .next (.ite h.advance (h.advance.bar2Clear.foldl fun _ _ h => h.bar2Line))

protected theorem Tidy.execBar2Retry {code t : ℕ} (h : Tidy u) : Ends (execBar2Retry code t u) := by
  unfold execBar2Retry
  exact .next
      (by
        split
        · exact h.advance
        · exact .ite h.advance (.ite h.advance.beside.bar2Clear.bar2Done (.ite h.advance.beside.bump h.advance.beside.mrwCount)))

protected theorem Tidy.pciReset (h : Tidy u) : Tidy (pciReset u) := by
  unfold pciReset
  exact h.resetRange.beside

protected theorem Tidy.pciCtlWrite {q : ℕ} {w : Word} (h : Tidy u) : Tidy (pciCtlWrite q w u) := by
  unfold pciCtlWrite
  exact .ite (.ite h.refuse (.ite h h.regPut.beside.setDma)) (.ite h.refuse h.regPut)

protected theorem Tidy.pciRegWrite {a : ℕ} {w : Word} (h : Tidy u) : Tidy (pciRegWrite a w u) := by
  unfold pciRegWrite
  exact .ite
      h.msixWrite
      (.ite (.ite h.pciCtlWrite <| .ite h.plainWrite <| .ite h.refuse <| .ite h.refuse <| .ite h.refuse h.plainWrite) h.plainWrite)

end

end Sys2Proof.Machine
end

section
/-! SUPPORT. The KT-440 personality, the exciter and the security block keep the canonical form. -/

set_option Elab.async false

namespace Sys2Proof.Machine

section
variable {u : State}

/-! ## KT-440 -/

protected theorem Tidy.ktSapSet {k cfg sel : ℕ} (h : Tidy u) : Tidy (ktSapSet k cfg sel u) := by
  unfold ktSapSet
  exact .ite h.wr.wr.wr.setSap.sapStates.setF h.wr.wr.wr.setSap.sapStates.setF

protected theorem Tidy.ktProgStart {t : ℕ} (h : Tidy u) : Tidy (ktProgStart t u) := by
  unfold ktProgStart
  exact h.setF.setF.setF.setF.setProg.folStart

protected theorem Tidy.ktBringUp (h : Tidy u) : Tidy (ktBringUp u) := by
  unfold ktBringUp
  exact .forEach (h.forEach fun _ _ h => h.setTuner.ktPathStart.ktProgStart) fun _ _ h => h.ktSapSet.setF.setF

protected theorem Tidy.execPersonalityReady (h : Tidy u) : Ends (execPersonalityReady u) := by
  unfold execPersonalityReady
  exact .next (.ite h (.ktInt (.forEach (.setF (.setF (h.forEach fun _ _ h => h.ktSet))) fun _ _ h => h.ktMirror)))

protected theorem Tidy.ktRefuse {i : ℕ} (h : Tidy u) : Tidy (ktRefuse i u) := by
  unfold ktRefuse
  exact .ite h.refuse.ktBits h.refuse

protected theorem Tidy.factShow {t : ℕ} (h : Tidy u) : Tidy (factShow t u) := by
  unfold factShow
  exact h.ktSet.ktSet

protected theorem Tidy.ktBegin {t : ℕ} {at_ : ℕ × Bool} {c : KtCmd} {mode freq : ℕ} (h : Tidy u) :
    Tidy (ktBegin t at_ c mode freq u) := by
  unfold ktBegin
  exact .ktMirror (.factShow (.ktFlush (.ktSetBusy (.setTuner (.ite (.ktSet (.ite h h.bump)) (.ite h h.bump))))))

protected theorem Tidy.seekTune {t f : ℕ} (h : Tidy u) : Tidy (seekTune t f u) := by
  unfold seekTune
  exact h.setTuner.factShow.ktRetune

protected theorem Tidy.ktDone {t : ℕ} (h : Tidy u) : Tidy (ktDone t u) := by
  unfold ktDone
  exact h.setTuner.ktSetBusy.ktMirror.ktInt

protected theorem Tidy.seekEnd {t : ℕ} {fail : Bool} (h : Tidy u) : Tidy (seekEnd t fail u) := by
  unfold seekEnd
  exact h.ktBits.ktDone

protected theorem Tidy.ktCommandRefused {t : ℕ} (h : Tidy u) : Tidy (ktCommandRefused t u) := by
  unfold ktCommandRefused
  exact .ktRefuse (.ite h.ktSetBusy h)

protected theorem Tidy.ktCommand {t code : ℕ} {at_ : ℕ × Bool} (h : Tidy u) : Tidy (ktCommand t code at_ u) := by
  unfold ktCommand
  exact .ite
      h.ktCommandRefused
      (.ite
        (.ite h.ktSet.ktBits.bump.setTuner h.ktSet.ktBits.bump)
        (.ite
          h.ktSet.ktBits.bump.ktBegin.pathStop.setTuner
          (.ite
            h.ktSet.ktBits.bump.ktBegin.ktRetune
            (by
              extract_lets
              split
              · exact h.ktSet.ktBits.bump.ktBegin.seekTune
              · exact h.ktSet.ktBits.bump.ktBegin))))

protected theorem Tidy.ktIssue {t code : ℕ} (h : Tidy u) : Tidy (ktIssue t code u) := by
  unfold ktIssue
  exact .ite h.ktCommand h

protected theorem Tidy.execKtTune {tn : ℕ} (h : Tidy u) : Ends (execKtTune tn u) := by
  unfold execKtTune
  exact .next h.ktIssue

protected theorem Tidy.execKtSeekUp {tn : ℕ} (h : Tidy u) : Ends (execKtSeekUp tn u) := by
  unfold execKtSeekUp
  exact .next h.ktIssue

protected theorem Tidy.execKtSeekDown {tn : ℕ} (h : Tidy u) : Ends (execKtSeekDown tn u) := by
  unfold execKtSeekDown
  exact .next h.ktIssue

protected theorem Tidy.execKtCancel {tn : ℕ} (h : Tidy u) : Ends (execKtCancel tn u) := by
  unfold execKtCancel
  exact .next h.ktIssue

protected theorem Tidy.execKtPowerDown {tn : ℕ} (h : Tidy u) : Ends (execKtPowerDown tn u) := by
  unfold execKtPowerDown
  exact .next h.ktIssue

protected theorem Tidy.execKtPowerUp {tn : ℕ} (h : Tidy u) : Ends (execKtPowerUp tn u) := by
  unfold execKtPowerUp
  exact .next h.ktIssue

protected theorem Tidy.execKtBusyFall {tn t : ℕ} (h : Tidy u) : Ends (execKtBusyFall tn t u) := by
  unfold execKtBusyFall
  exact .next (.ite h.advance (.ite h.advance.ktDone h.advance))

protected theorem Tidy.execKtSeekStep {tn t : ℕ} (h : Tidy u) : Ends (execKtSeekStep tn t u) := by
  unfold execKtSeekStep
  exact .next
      (.ite h.advance <| .ite h.advance.seekEnd <| .ite h.advance <| .ite h.advance.seekEnd <| .ite h.advance.seekEnd <|
        .ite h.advance.seekEnd (by
          split
          · exact h.advance.seekTune
          · exact h.advance.seekEnd))

protected theorem Tidy.ktAudcfg {v : ℕ} (h : Tidy u) : Tidy (ktAudcfg v u) := by
  unfold ktAudcfg
  exact .ite h.ktRefuse (h.ktSet.forEach fun _ _ h => .ite h.ktSapSet h)

protected theorem Tidy.ktAudsel {v : ℕ} (h : Tidy u) : Tidy (ktAudsel v u) := by
  unfold ktAudsel
  exact h.ktSet.forEach fun _ _ h => .ite h.wr.wr h.wr

protected theorem Tidy.ktCapctl {v : ℕ} (h : Tidy u) : Tidy (ktCapctl v u) := by
  unfold ktCapctl
  exact .ktCapRefresh (.forEach (.ite h.ktSet (h.ktSet.forEach fun _ _ h => h.setCap.setF)) fun _ _ h => h.ktCapStart)

protected theorem Tidy.ktRdsctl {t v : ℕ} (h : Tidy u) : Tidy (ktRdsctl t v u) := by
  unfold ktRdsctl
  exact .ite h.ktRefuse (.ite h.ktSet.setF.ktFlush h.ktSet.setF)

protected theorem Tidy.ktTunerWrite {t o v : ℕ} (h : Tidy u) : Tidy (ktTunerWrite t o v u) := by
  unfold ktTunerWrite
  exact .ite h.ktCommand.setTuner <| .ite (.ite h.ktRefuse h.ktSet) <| .ite h.ktSet <| .ite h.ktSet.shiftWrite <|
      .ite (.ite h.ktRefuse h.ktSet) <| .ite h.ktRdsctl h

protected theorem Tidy.ktRegWrite {i v : ℕ} (h : Tidy u) : Tidy (ktRegWrite i v u) := by
  unfold ktRegWrite
  exact .ite h <| .ite h.ktTunerWrite <| .ite h.ktSet.ktInt <| .ite h.ktAudcfg <| .ite h.ktAudsel <| .ite h.ktCapctl <|
      .ite h.beside <| .ite (.ite h.ktRefuse h.setCap) <| .ite (h.ktSet.forEach fun _ _ h => h.setF.setF) <|
      .ite (.ite h.ktRefuse h.ktSet) <| .ite h.ktSet h

protected theorem Tidy.execKtAudcfgWrite {v : ℕ} (h : Tidy u) : Ends (execKtAudcfgWrite v u) := by
  unfold execKtAudcfgWrite
  exact .next h.ktRegWrite

protected theorem Tidy.execKtAudselWrite {v : ℕ} (h : Tidy u) : Ends (execKtAudselWrite v u) := by
  unfold execKtAudselWrite
  exact .next h.ktRegWrite

protected theorem Tidy.execKtCaptureEnable {v : ℕ} (h : Tidy u) : Ends (execKtCaptureEnable v u) := by
  unfold execKtCaptureEnable
  exact .next h.ktRegWrite

protected theorem Tidy.execKtFlush {tn : ℕ} (h : Tidy u) : Ends (execKtFlush tn u) := by
  unfold execKtFlush
  exact .next (.ite h.ktRegWrite h)

protected theorem Tidy.ktEarly (h : Tidy u) : Tidy (ktEarly u) := by
  unfold ktEarly
  exact h.refuse

protected theorem Tidy.execKtIndexWrite {v : ℕ} (h : Tidy u) : Ends (execKtIndexWrite v u) := by
  unfold execKtIndexWrite
  exact .next (.ite h.beside h)

protected theorem Tidy.execKtStatWrite {v : ℕ} (h : Tidy u) : Ends (execKtStatWrite v u) := by
  unfold execKtStatWrite
  exact .next (.ite h (.ite h.ktEarly h.ktSet.ktInt))

protected theorem Tidy.ktRead {i : ℕ} (h : Tidy u) : Tidy (ktRead i u).2 := by
  unfold ktRead
  exact .iteSnd
      h.pair
      (.iteSnd
        h.ktSet.ktInt.pair
        (.iteSnd
          h.ktSet.pair
          (.iteSnd
            h.beside.pair
            (.iteSnd h.pair (.iteSnd h.ktCapData (.iteSnd (.iteSnd h.ktRdsData (.iteSnd h.ktSet.pair h.pair)) h.pair))))))

protected theorem Tidy.execKtDataRead {port : ℕ} (h : Tidy u) : Ends (execKtDataRead port u) := by
  unfold execKtDataRead
  exact .next (.ite h (.ite h.beside (.ite h.beside (.ite h.ktRead.beside.beside h.ktRead.beside))))

protected theorem Tidy.execKtDataWrite {auto : Bool} {v : ℕ} (h : Tidy u) : Ends (execKtDataWrite auto v u) := by
  unfold execKtDataWrite
  exact .next
      (.ite
        h
        (.ite
          h.ktEarly
          (.ite
            (.raise (.bump (.ite h.beside h)))
            (.ite
              (.ite
                (.ktSetBusy (.setTuner (.setF (.setF (.beside (.ite h.beside h))))))
                (.setTuner (.setF (.setF (.beside (.ite h.beside h))))))
              (.setF (.setF (.beside (.ite h.beside h))))))))

/-! ## Packets and frames sent -/

protected theorem Tidy.fmSend {i send : ℕ} {out : List (ℤ × ℤ)} (h : Tidy u) : Tidy (fmSend i send out u) := by
  unfold fmSend
  exact h.setLane.bumpBy

protected theorem Tidy.excSettle {t : ℕ} (h : Tidy u) : Tidy (excSettle t u) := by
  unfold excSettle
  exact h.beside.bumpBy

/-! ## The exciter -/

protected theorem Tidy.laneMute {i cause : ℕ} (h : Tidy u) : Tidy (laneMute i cause u) := by
  unfold laneMute
  exact h.laneSilent.setF.setF.raise

protected theorem Tidy.laneUnmute {i : ℕ} (h : Tidy u) : Tidy (laneUnmute i u) := by
  unfold laneUnmute
  exact .ite h.laneRise h.setF

/-- The lane's target power falls to what the licence gives. -/
theorem Tidy.licCut {i : ℕ} (h : Tidy u) : Tidy (match u.licEntry (u.getF (XLi_FREQ_HZ i)) with
    | some e =>
      if e.maxp < u.getI (XLi_PWR_TGT i) then
        let cut := u.getI (XLi_PWR_TGT i) - e.maxp
        let s2 := u.setI (XLi_PWR_TGT i) e.maxp
        match (s2.lane i).gain with
        | some g =>
          let s3 := s2.setLane i { s2.lane i with gain := some (g - cut) }
          if s3.getF (XLi_PWR_GAIN i) = 0x8000 then s3 else s3.setI (XLi_PWR_GAIN i) (g - cut)
        | none => s2
      else u
    | none => u) := by
  split
  · refine .ite ?_ h
    extract_lets cut s2
    split
    · exact .ite h.setI.setLane h.setI.setLane.setI
    · exact h.setI
  · exact h

protected theorem Tidy.licRecheck (h : Tidy u) : Tidy (licRecheck u) := by
  unfold licRecheck
  refine .raise (h.forEach fun i x h => .ite h ?_)
  extract_lets s0 ls
  have h0 : Tidy s0 := h.licCut
  exact .ite (.ite h0 h0.laneMute) (.ite h0.laneUnmute h0)

protected theorem Tidy.licLost (h : Tidy u) : Tidy (licLost u) := by
  unfold licLost
  exact h.beside.excHold

protected theorem Tidy.excNext {st : ExcStep} {wait : ℕ} (h : Tidy u) : Tidy (excNext st wait u) := by
  unfold excNext
  exact h.beside

protected theorem Tidy.excKeyUp (h : Tidy u) : Tidy (excKeyUp u) := by
  unfold excKeyUp
  exact .ite h.beside.excEnter.excNext h.beside.excEnter.excNext

protected theorem Tidy.excKey (h : Tidy u) : Tidy (excKey u) := by
  unfold excKey
  exact .ite h.excKeyUp h.refuseInst

protected theorem Tidy.excUnkey (h : Tidy u) : Tidy (excUnkey u) := by
  unfold excUnkey
  exact .ite h (.ite h.beside.setF.excEnter.excNext (.ite h.beside.setF.excNext h.beside.setF.excEnter.excNext))

protected theorem Tidy.excClear (h : Tidy u) : Tidy (excClear u) := by
  unfold excClear
  exact .forEach (.ite (.ite h.excEnter.beside h.beside) h) fun _ _ h => .ite h.laneUnmute h

protected theorem Tidy.dpdShow (h : Tidy u) : Tidy (dpdShow u) := by
  unfold dpdShow
  exact h.setF.setF

protected theorem Tidy.dpdIdentity (h : Tidy u) : Tidy (dpdIdentity u) := by
  unfold dpdIdentity
  exact h.beside.dpdShow

protected theorem Tidy.dpdReset (h : Tidy u) : Tidy (dpdReset u) := by
  unfold dpdReset
  exact .ite h.dpdIdentity h.refuseInst

protected theorem Tidy.excCmdWrite {w : ℕ} (h : Tidy u) : Tidy (excCmdWrite w u) := by
  unfold excCmdWrite
  exact .ite h <| .ite h.excKey <| .ite h.excUnkey <| .ite h.excClear <| .ite h.dpdReset h.refuseInst

protected theorem Tidy.execExcKey {m : Master} (h : Tidy u) : Ends (execExcKey m u) := by
  unfold execExcKey
  exact .next (h.gated (fun _ h => h.excCmdWrite))

protected theorem Tidy.execExcUnkey {m : Master} (h : Tidy u) : Ends (execExcUnkey m u) := by
  unfold execExcUnkey
  exact .next (h.gated (fun _ h => h.excCmdWrite))

protected theorem Tidy.execExcClear {m : Master} (h : Tidy u) : Ends (execExcClear m u) := by
  unfold execExcClear
  exact .next (h.gated (fun _ h => h.excCmdWrite))

protected theorem Tidy.execDpdReset {m : Master} (h : Tidy u) : Ends (execDpdReset m u) := by
  unfold execDpdReset
  exact .next (h.gated (fun _ h => h.excCmdWrite))

protected theorem Tidy.excTimer (h : Tidy u) : Tidy (excTimer u) := by
  unfold excTimer
  split
  · exact h
  · exact h.excEnter.excNext
  · exact h.excEnter.excNext
  · exact h.excEnter.excNext
  · exact h.excEnter.excNext
  · exact h.excEnter.excNext.beside
  · exact h.paBalls.excNext
  · exact .ite h.paBalls.excNext.excEnter.beside h.paBalls.excNext.beside

protected theorem Tidy.execExcSequenceTimer {t : ℕ} (h : Tidy u) : Ends (execExcSequenceTimer t u) := by
  unfold execExcSequenceTimer
  exact .next (.ite h.advance.excTimer h.advance)

protected theorem Tidy.execExcRampEnd {i t : ℕ} (h : Tidy u) : Ends (execExcRampEnd i t u) := by
  unfold execExcRampEnd
  exact .next
      (.ite (.ite (.ite h.advance.laneSilent h.advance.setF) h.advance) <| .ite h.advance <| .ite h.advance.excEnter <|
        .ite h.advance.excEnter.excNext h.advance)

protected theorem Tidy.paFault (h : Tidy u) : Tidy (paFault u) := by
  unfold paFault
  exact .ite
      h.beside.setF.bump
      (.ite h.beside.setF.bump.excMuted.raise h.beside.setF.bump.excMuted.raise.setF.lanesFollow.paBalls.excNext.beside)

protected theorem Tidy.execPaFault {low : Bool} {ns : ℕ} {took : Bool} (h : Tidy u) : Ends (execPaFault low ns took u) := by
  unfold execPaFault
  exact .next (.ite h.beside (.ite (.ite h.beside h.paFault) h))

protected theorem Tidy.execAutokey {t : ℕ} (h : Tidy u) : Ends (execAutokey t u) := by
  unfold execAutokey
  exact .next (.ite h.advance.excKeyUp h.advance)

protected theorem Tidy.laneCtlWrite {i : ℕ} {w : Word} (h : Tidy u) : Tidy (laneCtlWrite i w u) := by
  unfold laneCtlWrite
  exact .ite h.refuseInst <| .ite h.refuseInst <| .ite h <| .ite (.ite h.regPut.setF.setLane.laneFall h.regPut.setF) <|
      .ite h.refuseInst <| .ite h.refuseInst <| .ite h.setF.refuseInst <| .ite (.ite h.regPut.laneMute h.regPut.laneRise) h.regPut

protected theorem Tidy.execLaneEnableWrite {m : Master} {i : ℕ} {v : Word} (h : Tidy u) : Ends (execLaneEnableWrite m i v u) := by
  unfold execLaneEnableWrite
  exact .next (.ite (h.gated (fun _ h => h.laneCtlWrite)) h)

protected theorem Tidy.grpWrite {g : ℕ} {w : Word} (h : Tidy u) : Tidy (grpWrite g w u) := by
  unfold grpWrite
  exact .ite h.refuseInst (.ite h.refuseInst h.regPut)

protected theorem Tidy.execPowerLoopUpdate {i : ℕ} {orx : ℤ} (h : Tidy u) : Ends (execPowerLoopUpdate i orx u) := by
  unfold execPowerLoopUpdate
  exact .next
      (.ite
        h
        (by
          extract_lets
          split
          · exact h.setI.setB.setLane.setI
          · exact h.setI.setB))

protected theorem Tidy.execOverpowerCheck {i : ℕ} {orx : ℤ} (h : Tidy u) : Ends (execOverpowerCheck i orx u) := by
  unfold execOverpowerCheck
  exact .next
      (.ite
        h
        (by
          split
          · exact .ite h.laneMute.raise h
          · exact h))

protected theorem Tidy.execTemplateCheck {i : ℕ} {spectrum : List (ℕ × ℤ)} {valid : Bool} (h : Tidy u) :
    Ends (execTemplateCheck i spectrum valid u) := by
  unfold execTemplateCheck
  exact .next (.ite h (.ite h.setLane.laneMute.raise h.setLane))

protected theorem Tidy.holdLift (h : Tidy u) : Tidy (holdLift u) := by
  unfold holdLift
  exact h.forEach
      fun _ _ h => .ite
        h
        (by
          split
          · exact h.setLane.setI.setF
          · exact h.setF)

protected theorem Tidy.execDpdSuspend {orxBad : Bool} (h : Tidy u) : Ends (execDpdSuspend orxBad u) := by
  unfold execDpdSuspend
  exact .next (.ite h.beside.dpdShow.raise h)

protected theorem Tidy.dpdUpdate {nmse : ℤ} {coefs : List (ℤ × ℤ)} (h : Tidy u) : Tidy (dpdUpdate nmse coefs u) := by
  unfold dpdUpdate
  exact .ite h.setI.beside.bump.dpdShow (.ite h.setI.beside.dpdShow.raise.holdLift h.setI.beside.dpdShow)

protected theorem Tidy.execDpdUpdate {nmse : ℤ} {coefs : List (ℤ × ℤ)} (h : Tidy u) : Ends (execDpdUpdate nmse coefs u) := by
  unfold execDpdUpdate
  exact .next (.ite h.dpdUpdate h)

protected theorem Tidy.couplerCommit (h : Tidy u) : Tidy (couplerCommit u) := by
  unfold couplerCommit
  exact .ite h.setF h.refuseInst

protected theorem Tidy.execCouplerCommit {m : Master} (h : Tidy u) : Ends (execCouplerCommit m u) := by
  unfold execCouplerCommit
  exact .next (h.gated (fun _ h => h.couplerCommit))

protected theorem Tidy.execExcRdsGroupSend {i t : ℕ} (h : Tidy u) : Ends (execExcRdsGroupSend i t u) := by
  unfold execExcRdsGroupSend
  exact .next
      (.ite
        h.advance
        (by
          split
          · exact h.advance.setLane
          · exact h.advance.setLane))

protected theorem Tidy.execExcDabFrame {g ts : ℕ} {msc : List (ℕ × List (List ℕ))} (h : Tidy u) :
    Ends (execExcDabFrame g ts msc u) := by
  unfold execExcDabFrame
  exact .next (.ite h (.ite (.ite h.laneMute h) (.ite (.setLane (.excSettle (.ite h.laneUnmute h))) (.ite h.laneUnmute h))))

protected theorem Tidy.execExcContentSend {i ts : ℕ} (h : Tidy u) : Ends (execExcContentSend i ts u) := by
  unfold execExcContentSend
  exact .next (.ite h (.ite h.advance.setLane.fmSend.excSettle h.advance.setLane.fmSend.excSettle.bump))

protected theorem Tidy.excRemap {i : ℕ} (h : Tidy u) : Tidy (excRemap i u) := by
  unfold excRemap
  exact h.bump.raise

protected theorem Tidy.excCtlWrite {w : Word} (h : Tidy u) : Tidy (excCtlWrite w u) := by
  unfold excCtlWrite
  exact .ite h.refuseInst (.ite h.refuseInst (.ite h.regPut.dpdIdentity h.regPut))

protected theorem Tidy.centreWrite {w : Word} (h : Tidy u) : Tidy (centreWrite w u) := by
  unfold centreWrite
  exact .ite h.refuseInst (.ite h.refuseInst (.ite h h.regPut.dpdIdentity))

protected theorem Tidy.laneRegWrite {i a : ℕ} {w : Word} (h : Tidy u) : Tidy (laneRegWrite i a w u) := by
  unfold laneRegWrite
  exact .ite h.regPut <| .ite h.refuseInst <| .ite h <| .ite h.refuseInst <| .ite h.refuseInst <|
      .ite (.ite h.regPut.setLane h.refuseInst) h.plainWrite

protected theorem Tidy.excRegWrite {a : ℕ} {w : Word} (h : Tidy u) : Tidy (excRegWrite a w u) := by
  unfold excRegWrite
  exact .ite h.excCtlWrite <| .ite h.excCmdWrite <| .ite h.refuseInst <| .ite h.centreWrite <|
      .ite (.ite h.refuseInst h.regPut.dpdShow) <| .ite h.refuseInst <| .ite (.ite h.plainWrite h.plainWrite.gainSet) <|
      .ite (.ite h.regPut.setF h.refuseInst) <| .ite (.ite h.couplerCommit h) <| .ite h.grpWrite <| .ite h.grpWrite <|
      .ite (.ite h.laneCtlWrite (.ite h.refuseInst h.laneRegWrite)) h.plainWrite

/-! ## Security -/

protected theorem Tidy.nvPut {id : ℕ} {data : List Byte} {ok : Bool} (h : Tidy u) : Tidy (nvPut id data ok u) := by
  unfold nvPut
  exact .ite h.beside.bump h.beside

protected theorem Tidy.nvRead {id : ℕ} (h : Tidy u) : Tidy (nvRead id u).2 := by
  unfold nvRead
  exact .pair (.ite h.bump.raise h)

protected theorem Tidy.secShow (h : Tidy u) : Tidy (secShow u) := by
  unfold secShow
  exact h.setF.setB.setF

protected theorem Tidy.licTake {l : List Byte} (h : Tidy u) : Tidy (licTake l u) := by
  unfold licTake
  exact .ite
      (.ite
        h.setF.setF.setF.setF.beside.licRecheck.slLicence
        (by
          split
          · exact h.setF.setF.setF.setF.beside.licRecheck.slLicence
          · exact h.setF.setF.setF.setF.beside.licRecheck.slLicence))
      (.ite
        h.setF.setF.setF.setF.licLost.slLicence
        (by
          split
          · exact h.setF.setF.setF.setF.licLost.slLicence
          · exact h.setF.setF.setF.setF.licLost.slLicence))

protected theorem Tidy.licAbsent (h : Tidy u) : Tidy (licAbsent u) := by
  unfold licAbsent
  exact h.setF.setF.setF.licLost.slLicence

protected theorem Tidy.licVerify (h : Tidy u) : Tidy (licVerify u) := by
  unfold licVerify
  extract_lets
  split
  · exact h.nvRead.licAbsent
  · exact .ite h.nvRead.licTake h.nvRead.licAbsent.raise

protected theorem Tidy.secBoot (h : Tidy u) : Tidy (secBoot u) := by
  unfold secBoot
  exact .licVerify (.secShow (.setF (h.setB.set64.setF.setF.setF.setF.setF.setF.forEach fun _ _ h => .ite h.nvPut h)))

protected theorem Tidy.secDone {op res : ℕ} (h : Tidy u) : Tidy (secDone op res u) := by
  unfold secDone
  exact h.setF.setF.setF

protected theorem Tidy.secSigDone {op res key : ℕ} (h : Tidy u) : Tidy (secSigDone op res key u) := by
  unfold secSigDone
  exact .ite h.secDone.raise h.secDone

protected theorem Tidy.otpRaise {a v : ℕ} (h : Tidy u) : Tidy (otpRaise a v u) := by
  unfold otpRaise
  exact h.beside

protected theorem Tidy.secRoll {fw : Bool} (h : Tidy u) : Tidy (secRoll fw u) := by
  unfold secRoll
  exact .ite h.otpRaise.setF.secDone h.otpRaise.setF.secDone

protected theorem Tidy.tokenAct {l : List Byte} {nvOk : Bool} (h : Tidy u) : Tidy (tokenAct l nvOk u) := by
  unfold tokenAct
  exact .ite h.nvPut (.ite h.beside.nvPut (.ite h.nvPut.licVerify h.nvPut))

protected theorem Tidy.secTokenRun {v : SigVerdict} {nvOk : Bool} (h : Tidy u) : Tidy (secTokenRun v nvOk u) := by
  unfold secTokenRun
  exact .ite h.refuse (.ite h.secSigDone h.tokenAct.secShow.secSigDone)

protected theorem Tidy.secNvWriteRun {id : ℕ} {v : SigVerdict} {nvOk : Bool} (h : Tidy u) : Tidy (secNvWriteRun id v nvOk u) := by
  unfold secNvWriteRun
  exact .ite
      (.ite h.secSigDone (.ite h.nvPut.beside.licTake.secSigDone h.nvPut.secSigDone))
      (.ite (.ite h.secDone h.nvPut.secDone) h.refuse)

protected theorem Tidy.secNvReadRun {id : ℕ} (h : Tidy u) : Tidy (secNvReadRun id u) := by
  unfold secNvReadRun
  exact .ite
      h.refuse
      (by
        extract_lets
        split
        · exact h.nvRead.winPut.setF.secDone
        · exact h.nvRead.secDone)

protected theorem Tidy.secAttestRun {sig : List Byte} {nvOk : Bool} (h : Tidy u) : Tidy (secAttestRun sig nvOk u) := by
  unfold secAttestRun
  exact .ite h.refuse (.ite h.bump.secDone (.ite h.bump.secDone.raise (.ite h.setF.nvPut.setF.winPut.secDone h.setF.nvPut.secDone)))

protected theorem Tidy.secCommand {op id : ℕ} {v : SigVerdict} {sig : List Byte} {nvOk : Bool} (h : Tidy u) :
    Tidy (secCommand op id v sig nvOk u) := by
  unfold secCommand
  exact .ite h.refuse <| .ite h.refuse <| .ite h.secRoll <| .ite h.secRoll <| .ite h.secTokenRun <| .ite h.secNvWriteRun <|
      .ite h.secNvReadRun h.secAttestRun

protected theorem Tidy.execSecRollFw {m : Master} (h : Tidy u) : Ends (execSecRollFw m u) := by
  unfold execSecRollFw
  exact .next (h.gated (fun _ h => h.secCommand))

protected theorem Tidy.execSecRollBs {m : Master} (h : Tidy u) : Ends (execSecRollBs m u) := by
  unfold execSecRollBs
  exact .next (h.gated (fun _ h => h.secCommand))

protected theorem Tidy.execSecToken {m : Master} {v : SigVerdict} {nvOk : Bool} (h : Tidy u) :
    Ends (execSecToken m v nvOk u) := by
  unfold execSecToken
  exact .next (h.gated (fun _ h => h.secCommand))

protected theorem Tidy.execSecNvWrite {m : Master} {id : ℕ} {v : SigVerdict} {nvOk : Bool} (h : Tidy u) :
    Ends (execSecNvWrite m id v nvOk u) := by
  unfold execSecNvWrite
  exact .next (h.gated (fun _ h => h.secCommand))

protected theorem Tidy.execSecNvRead {m : Master} {id : ℕ} (h : Tidy u) : Ends (execSecNvRead m id u) := by
  unfold execSecNvRead
  exact .next (h.gated (fun _ h => h.secCommand))

protected theorem Tidy.execSecAttest {m : Master} {sig : List Byte} {nvOk : Bool} (h : Tidy u) :
    Ends (execSecAttest m sig nvOk u) := by
  unfold execSecAttest
  exact .next (h.gated (fun _ h => h.secCommand))

protected theorem Tidy.execAttestTokenRefill {t : ℕ} (h : Tidy u) : Ends (execAttestTokenRefill t u) := by
  unfold execAttestTokenRefill
  exact .next (.ite h h.advance.setF.beside)

protected theorem Tidy.secRegWrite {a : ℕ} {w : Word} (h : Tidy u) : Tidy (secRegWrite a w u) := by
  unfold secRegWrite
  exact .ite h.free.secCommand h.plainWrite

protected theorem Tidy.secWinWrite {a : ℕ} {w : Word} (h : Tidy u) : Tidy (secWinWrite a w u) := by
  unfold secWinWrite
  exact .ite (.ite h.refuse h.winPut) h

end

end Sys2Proof.Machine
end

section
/-! SUPPORT. The fabric, reliability, core control, boot and register writes keep the canonical form. -/

set_option Elab.async false

namespace Sys2Proof.Machine

section
variable {u : State}

/-! ## Pods and banks -/

protected theorem Tidy.remapShow (h : Tidy u) : Tidy (remapShow u) := by
  unfold remapShow
  exact h.setB

protected theorem Tidy.fabShow (h : Tidy u) : Tidy (fabShow u) := by
  unfold fabShow
  exact h.setF.setF.setF.setF.remapShow.forEach fun _ _ h => h.setB

protected theorem Tidy.podLeeks {p : ℕ} (h : Tidy u) : Tidy (podLeeks p u) := by
  unfold podLeeks
  exact h.forEach fun _ _ h => .ite h.leekVoid h.leekVoid.ebufClear

protected theorem Tidy.podEnter {p st : ℕ} (h : Tidy u) : Tidy (podEnter p st u) := by
  unfold podEnter
  exact .fabShow (.podLeeks (.ite h.trace.setF.raise (.ite h.trace.setF.setPod.raise (.ite h.trace.setF.setPod h.trace.setF))))

protected theorem Tidy.decEmpty {d : ℕ} (h : Tidy u) : Tidy (decEmpty d u) := by
  unfold decEmpty
  exact .ite h.setF.setDecoder h

protected theorem Tidy.slotEmpty {n : ℕ} (h : Tidy u) : Tidy (slotEmpty n u) := by
  unfold slotEmpty
  exact .ite (.dabUse (.forEach (.ite h.slotUnlock.setSlot h.slotUnlock.setSlot.setF) fun _ _ h => .ite h.decEmpty h.decToWait)) h

protected theorem Tidy.progEmpty {p : ℕ} (h : Tidy u) : Tidy (progEmpty p u) := by
  unfold progEmpty
  exact h.setProg

protected theorem Tidy.laneEmpty {i : ℕ} (h : Tidy u) : Tidy (laneEmpty i u) := by
  unfold laneEmpty
  exact h.setLane

protected theorem Tidy.engineEmpty {k : ℕ} (h : Tidy u) : Tidy (engineEmpty k u) := by
  unfold engineEmpty
  exact .ite h.beside h.beside

protected theorem Tidy.portEmpty {k : ℕ} (h : Tidy u) : Tidy (portEmpty k u) := by
  unfold portEmpty
  exact h.setSap

protected theorem Tidy.podRestart {p : ℕ} {replayed : Bool} (h : Tidy u) : Tidy (podRestart p replayed u) := by
  unfold podRestart
  exact h.foldl
      fun _ _ h => .ite h.laneEmpty <| .ite h.slRemap <| .ite h.engineEmpty <| .ite h.portEmpty <| .ite h.leekHeal <| .ite h <|
        .ite h.leekEmpty <| .ite h.pathHistoryLost <| .ite h.slotEmpty <| .ite h.decEmpty <| .ite h.progEmpty h

protected theorem Tidy.podMarks (h : Tidy u) : Tidy (podMarks u) := by
  unfold podMarks
  exact h.forEach fun _ _ h => h.setB.setB.setB

protected theorem Tidy.fabConfigure {h0 : BsHdr} (h : Tidy u) : Tidy (fabConfigure h0 u) := by
  unfold fabConfigure
  exact .fabShow (.podMarks (.forEach (.setF (.setF (.setF (.forEach (h.beside.forEach
      fun _ _ h => .ite h.wr.setF.setF.setPod.trace.wr h.wr) fun _ _ h => h.setF)))) fun _ _ h => h.setB))

protected theorem Tidy.voidTake {kind inst ts period : ℕ} (h : Tidy u) : Tidy (voidTake kind inst ts period u) := by
  unfold voidTake
  exact .ite h.setPath h.beside

protected theorem Tidy.execGuardAbsorb {p : ℕ} (h : Tidy u) : Ends (execGuardAbsorb p u) := by
  unfold execGuardAbsorb
  exact .next (.ite h.bump h)

protected theorem Tidy.execGuardVoidSupply {p kind inst ts period : ℕ} (h : Tidy u) :
    Ends (execGuardVoidSupply p kind inst ts period u) := by
  unfold execGuardVoidSupply
  exact .next (.ite h.bump.voidTake h)

protected theorem Tidy.streamDrop {kind inst rel : ℕ} (h : Tidy u) : Tidy (streamDrop kind inst rel u) := by
  unfold streamDrop
  exact .ite
      (.ite h.binLose h)
      (.ite
        (by
          split
          · exact .ite h.outDrop h
          · exact h) h.beside)

protected theorem Tidy.execBlockDrop {p kind inst rel : ℕ} (h : Tidy u) : Ends (execBlockDrop p kind inst rel u) := by
  unfold execBlockDrop
  exact .next (.ite h (.streamDrop (.ite h.advance.bump.bump h.advance.bump.bump.setPod.raise)))

protected theorem Tidy.execVoidToken {kind inst ts period : ℕ} (h : Tidy u) : Ends (execVoidToken kind inst ts period u) := by
  unfold execVoidToken
  exact .next (.ite h h.voidTake)

protected theorem Tidy.avsStep {m : Option ℕ} (h : Tidy u) : Tidy (avsStep m u) := by
  unfold avsStep
  exact .ite
      h.setF.beside
      (by
        split
        · exact h
        · exact .ite h.setF.beside (.ite (.ite h.setF.beside h.setF.beside) h.setF.beside))

protected theorem Tidy.podPace {p pea b t : ℕ} (h : Tidy u) : Tidy (podPace p pea b t u) := by
  unfold podPace
  exact .ite h.setF.setF.setPod h

protected theorem Tidy.execPaceWindowEnd {t : ℕ} {busy : List (ℕ × ℕ × ℕ)} (h : Tidy u) : Ends (execPaceWindowEnd t busy u) := by
  unfold execPaceWindowEnd
  exact .next
      (.ite
        h
        (.beside (.avsStep (by
          split
          · exact .ite
              (.raise (.beside (.setF (.setF (h.advance.foldl fun _ _ h => h.podPace)))))
              (.beside (.setF (.setF (h.advance.foldl fun _ _ h => h.podPace))))
          · exact h.advance.foldl fun _ _ h => h.podPace))))

protected theorem Tidy.podLoad {p : ℕ} (h : Tidy u) : Tidy (podLoad p u) := by
  unfold podLoad
  extract_lets
  split
  · exact h.wr.wr.setPod.podEnter
  · exact h.wr.setPod.podEnter

protected theorem Tidy.recoverNext (h : Tidy u) : Tidy (recoverNext u) := by
  unfold recoverNext
  exact .ite
      h.fabShow
      (by
        split
        · exact .ite h.podLoad h.setPod.fabShow
        · exact h.fabShow)

protected theorem Tidy.podLeft {p : ℕ} (h : Tidy u) : Tidy (podLeft p u) := by
  unfold podLeft
  exact h.setPod.bump.recoverNext

protected theorem Tidy.podRecover {p : ℕ} (h : Tidy u) : Tidy (podRecover p u) := by
  unfold podRecover
  exact .ite h.setPod h.setPod

protected theorem Tidy.podRecord {p cause ppod : ℕ} (h : Tidy u) : Tidy (podRecord p cause ppod u) := by
  unfold podRecord
  exact h.setF.setF.setF.bump.setF.raise

protected theorem Tidy.prEnd {res : ℕ} (h : Tidy u) : Tidy (prEnd res u) := by
  unfold prEnd
  exact h.setF.setF.bump.beside.raise

protected theorem Tidy.prRollback {p : ℕ} {r : Partial} (h : Tidy u) : Tidy (prRollback p r u) := by
  unfold prRollback
  extract_lets back s1 s2 _ s4 _ s5 s6 _ s7
  have h1 : Tidy s1 := h.forEach fun _ _ h => .ite h.setPod.podEnter h
  have h2 : Tidy s2 := h1.forEach fun _ _ h => .ite h.setPod h.setPod.podEnter
  have h6 : Tidy s6 := h2.setF.setPod.beside.setF
  have h7 : Tidy s7 := .ite (.ite h6.podRecover h6.podRecover.podLoad) h6
  exact .ite h7.prEnd h7

protected theorem Tidy.prLoad (h : Tidy u) : Tidy (prLoad u) := by
  unfold prLoad
  split
  · exact .ite
      (by
        split
        · exact h.prRollback
        · exact h.setF.forEach fun _ _ h => h.setPod.podEnter) h
  · exact h

protected theorem Tidy.podFault {p cause : ℕ} (h : Tidy u) : Tidy (podFault p cause u) := by
  unfold podFault
  exact .ite h <|
      .ite (.podEnter (.ite
        (.bump (.setPod (.ite h.podRecord.setPod.podRecover.slRemap h.podRecord.setPod.podRecover)))
        (.ite h.podRecord.setPod.podRecover.slRemap h.podRecord.setPod.podRecover))) <|
      .ite (by
        extract_lets
        split
        · exact .ite h.setF.beside h.setF
        · exact h.setF) <| .ite (by
        split
        · exact .ite h.setF.beside h.podEnter.prRollback
        · exact h) <| .ite h.setF <| .ite h.wr.podRecord.podEnter.podLoad <| .ite h.setF.podEnter.podLeft <|
      .ite h.setF.setPod.podEnter.podLeft h.setF.setPod.podEnter

protected theorem Tidy.execPodFault {p cause t : ℕ} (h : Tidy u) : Ends (execPodFault p cause t u) := by
  unfold execPodFault
  exact .next (.ite h.advance.podFault h)

protected theorem Tidy.execPodWatchdog {p t : ℕ} (h : Tidy u) : Ends (execPodWatchdog p t u) := by
  unfold execPodWatchdog
  exact .next (.ite h.advance.podFault h)

protected theorem Tidy.execPodDrainEnd {p late t : ℕ} (h : Tidy u) : Ends (execPodDrainEnd p late t u) := by
  unfold execPodDrainEnd
  exact .next (.ite h (.ite h.advance.bumpBy.podEnter.podLoad (.ite h.advance.bumpBy.podEnter.prLoad h.advance.bumpBy.podEnter)))

protected theorem Tidy.execPodLoadDone {p t : ℕ} {replayed : Bool} (h : Tidy u) : Ends (execPodLoadDone p t replayed u) := by
  unfold execPodLoadDone
  exact .next
      (.ite
        h
        (by
          extract_lets
          split
          · exact .ite h.advance.setPod.setF h.advance.setPod
          · exact h.advance.setPod))

protected theorem Tidy.execReloadErr {p t : ℕ} (h : Tidy u) : Ends (execReloadErr p t u) := by
  unfold execReloadErr
  exact .next
      (.ite
        h
        (.ite
          (by
            split
            · exact h.advance.podEnter.prRollback
            · exact h)
          (.ite
            (.podLeft (.podEnter (.setPod (by
              split
              · exact h.advance.bump.raise.wr.wr
              · exact h.advance.bump.raise))))
            (.podEnter (.setPod (by
              split
              · exact h.advance.bump.raise.wr.wr
              · exact h.advance.bump.raise))))))

protected theorem Tidy.podActive {p t : ℕ} (h : Tidy u) : Tidy (podActive p t u) := by
  unfold podActive
  exact .ite
      (.podRestart (.foldl (.raise (.bump (.setF (.set64 (.podEnter (.setPod (by
        split
        · exact h.setF
        · exact h))))))) fun _ _ h => h.excRemap))
      (.podRestart (.podEnter (.setPod (by
        split
        · exact h.setF
        · exact h))))

protected theorem Tidy.execPodRelease {t : ℕ} (h : Tidy u) : Ends (execPodRelease t u) := by
  unfold execPodRelease
  refine .next (.ite h ?_)
  extract_lets s0 singles s1 _ s2
  have h1 : Tidy s1 := h.advance.forEach fun _ _ h => h.podActive
  suffices h2 : Tidy s2 from h2.recoverNext
  unfold s2
  split
  · exact .ite (.prEnd (h1.beside.setF.podMarks.forEach fun _ _ h => h.setPod.podActive))
      (.ite (.ite (.prEnd (h1.forEach fun _ _ h => h.podActive)) h1) h1)
  · exact h1

protected theorem Tidy.fabCommand {op p : ℕ} (h : Tidy u) : Tidy (fabCommand op p u) := by
  unfold fabCommand
  exact .ite h.refuse <| .ite h.refuse <| .ite h.refuse <| .ite h.refuse <| .ite h.refuse <|
      .ite h.setF.setPod.podEnter h.setPod.podEnter

protected theorem Tidy.execFabIsolate {m : Master} {p : ℕ} (h : Tidy u) : Ends (execFabIsolate m p u) := by
  unfold execFabIsolate
  exact .next (h.gated (fun _ h => h.fabCommand))

protected theorem Tidy.execFabRestore {m : Master} {p : ℕ} (h : Tidy u) : Ends (execFabRestore m p u) := by
  unfold execFabRestore
  exact .next (h.gated (fun _ h => h.fabCommand))

protected theorem Tidy.loadPort {w : Word} (h : Tidy u) : Tidy (loadPort w u) := by
  unfold loadPort
  exact .ite h.refuse h.setF.beside

protected theorem Tidy.execLoadPortWrite {m : Master} {a : ℕ} {v : Word} (h : Tidy u) : Ends (execLoadPortWrite m a v u) := by
  unfold execLoadPortWrite
  exact .next (.ite (h.gated (fun _ h => h.loadPort)) h)

protected theorem Tidy.prCommand {w : ℕ} (h : Tidy u) : Tidy (prCommand w u) := by
  unfold prCommand
  exact .ite h.refuse (.ite (.setF (.setF (.ite h.setF.beside h))) (.ite h.setF.beside h))

protected theorem Tidy.execPrResetPort {m : Master} (h : Tidy u) : Ends (execPrResetPort m u) := by
  unfold execPrResetPort
  exact .next (h.gated (fun _ h => h.prCommand))

protected theorem Tidy.execPrStart {m : Master} (h : Tidy u) : Ends (execPrStart m u) := by
  unfold execPrStart
  exact .next (h.gated (fun _ h => h.prCommand))

protected theorem Tidy.execPrVerifyDone {v : SigVerdict} {hash t : ℕ} (h : Tidy u) : Ends (execPrVerifyDone v hash t u) := by
  unfold execPrVerifyDone
  exact .next
      (.ite
        h
        (.ite
          h.advance.prEnd.raise
          (.ite
            h.advance.prEnd
            (.ite
              h.advance.prEnd
              (by
                extract_lets
                split
                · exact h.advance.prEnd
                · exact .prLoad (h.advance.setF.beside.forEach fun _ _ h => h.setF.setPod.podEnter))))))

protected theorem Tidy.fabRegWrite {a : ℕ} {w : Word} (h : Tidy u) : Tidy (fabRegWrite a w u) := by
  unfold fabRegWrite
  exact .ite h.fabCommand (.ite h.prCommand (.ite h.refuse h.plainWrite))

/-! ## Reliability -/

protected theorem Tidy.bridgeBlock {p : ℕ} {b : Block} (h : Tidy u) : Tidy (bridgeBlock p b u).2 := by
  unfold bridgeBlock
  exact .iteSnd h.setProg.pair (.iteSnd h.setProg.pair (.iteSnd h.setProg.pair h.setProg.pair))

protected theorem Tidy.progDeliver {p t : ℕ} {b : Option Block} (h : Tidy u) : Tidy (progDeliver p t b u) := by
  unfold progDeliver
  split
  · exact h.netHandoff.dmaBlock.releaseNote
  · exact h.bridgeBlock.obsBlock.netHandoff.dmaBlock.laneFeed.releaseNote

protected theorem Tidy.progLate {p t : ℕ} (h : Tidy u) : Tidy (progLate p t u) := by
  unfold progLate
  exact h.setProg.bumpBy.foldl fun _ _ h => h.progDeliver

protected theorem Tidy.progRelease {p t : ℕ} (h : Tidy u) : Tidy (progRelease p t u) := by
  unfold progRelease
  extract_lets
  split
  · exact .ite (.progDeliver (.setProg (.ite h.progLate.formBlock h.progLate))) (.ite h.progLate.formBlock h.progLate)
  · exact .ite h.progLate.formBlock h.progLate

protected theorem Tidy.pathDeliver {n t : ℕ} {b : Option Block} (h : Tidy u) : Tidy (pathDeliver n t b u) := by
  unfold pathDeliver
  split
  · exact h.dmaBlock.releaseNote
  · exact h.setPath.dmaBlock.iqFeed.releaseNote

protected theorem Tidy.pathLate {n t : ℕ} (h : Tidy u) : Tidy (pathLate n t u) := by
  unfold pathLate
  exact h.setPath.bumpBy.foldl fun _ _ h => h.pathDeliver

protected theorem Tidy.pathRelease {n t : ℕ} (h : Tidy u) : Tidy (pathRelease n t u) := by
  unfold pathRelease
  extract_lets s1 s
  have h1 : Tidy s1 := h.pathLate.runHead
  have hs : Tidy s := by
    unfold s
    split
    · exact .ite h1.outDrop h1
    · exact h1
  split
  · exact .ite hs.setPath.pathDeliver hs
  · exact hs

protected theorem Tidy.decRelease {d t : ℕ} {audio : Option (List (ℤ × ℤ))} (h : Tidy u) : Tidy (decRelease d t audio u) := by
  unfold decRelease
  exact .ite
      h.decStopped
      (.ite
        h
        (by
          split
          · exact h.setDecoder.dmaBlock.releaseNote
          · exact h.setDecoder.setB.obsBlock.dmaBlock.streamNote.releaseNote.decGood))

protected theorem Tidy.execBlockRelease {kind inst t : ℕ} {audio : Option (List (ℤ × ℤ))} (h : Tidy u) :
    Ends (execBlockRelease kind inst t audio u) := by
  unfold execBlockRelease
  exact .next (.ite h <| .ite h.advance.pathRelease <| .ite h.advance.decRelease <| .ite h.advance.progRelease h)

protected theorem Tidy.execCheckpointWrite {refused t : ℕ} (h : Tidy u) : Ends (execCheckpointWrite refused t u) := by
  unfold execCheckpointWrite
  exact .next (.ite h h.advance.setF.bumpBy.beside)

protected theorem Tidy.execWearSecond {t : ℕ} (h : Tidy u) : Ends (execWearSecond t u) := by
  unfold execWearSecond
  exact .next (.ite h h.advance.set64.beside)

protected theorem Tidy.obsSnapDo (h : Tidy u) : Tidy (obsSnapDo u) := by
  unfold obsSnapDo
  exact h.set64.forEach fun _ _ h => h.set64

protected theorem Tidy.obsClearDo (h : Tidy u) : Tidy (obsClearDo u) := by
  unfold obsClearDo
  exact h.beside.forEach fun _ _ h => h.set64

protected theorem Tidy.obsSnapWrite {w : ℕ} (h : Tidy u) : Tidy (obsSnapWrite w u) := by
  unfold obsSnapWrite
  exact .ite h.refuse (.ite h.obsSnapDo (.ite h.obsClearDo h))

protected theorem Tidy.execObsSnap {m : Master} (h : Tidy u) : Ends (execObsSnap m u) := by
  unfold execObsSnap
  exact .next (h.gated (fun _ h => h.obsSnapWrite))

protected theorem Tidy.execObsClear {m : Master} (h : Tidy u) : Ends (execObsClear m u) := by
  unfold execObsClear
  exact .next (h.gated (fun _ h => h.obsSnapWrite))

protected theorem Tidy.obsRegWrite {a : ℕ} {w : Word} (h : Tidy u) : Tidy (obsRegWrite a w u) := by
  unfold obsRegWrite
  exact .ite h.obsSnapWrite (.ite h.refuse (.ite (.ite h (.ite h.refuse (.ite h.refuse h.regPut.beside))) h.plainWrite))

/-! ## Core control -/

protected theorem Tidy.setCore {k : ℕ} {c : Core} (h : Tidy u) : Tidy (u.setCore k c) := by
  unfold State.setCore
  exact h.beside

protected theorem Tidy.coreStop {k : ℕ} (h : Tidy u) : Tidy (coreStop k u) := by
  unfold coreStop
  exact h.setCore.setF.setF

protected theorem Tidy.haltTry {k : ℕ} (h : Tidy u) : Tidy (haltTry k u) := by
  unfold haltTry
  exact .ite h.coreStop h

protected theorem Tidy.coreResume {k : ℕ} (h : Tidy u) : Tidy (coreResume k u) := by
  unfold coreResume
  exact .ite h.setF.setF.setCore h

protected theorem Tidy.seqCtlWrite {k w : ℕ} (h : Tidy u) : Tidy (seqCtlWrite k w u) := by
  unfold seqCtlWrite
  exact .ite h.refuseInst (.ite h.refuseInst (.ite (.ite h.regPut.setCore h.regPut.haltTry) h.regPut.coreResume))

protected theorem Tidy.wdogRestart {k : ℕ} (h : Tidy u) : Tidy (wdogRestart k u) := by
  unfold wdogRestart
  exact h.setCore

protected theorem Tidy.seqWdogWrite {k w : ℕ} (h : Tidy u) : Tidy (seqWdogWrite k w u) := by
  unfold seqWdogWrite
  exact .ite h.refuseInst (.ite h.regPut.wdogRestart h.regPut)

protected theorem Tidy.seqGuard {m : Master} {k : ℕ} {f : State → State} (h : Tidy u) (hf : ∀ x, Tidy x → Tidy (f x)) :
    Tidy (seqGuard m k f u) := by
  unfold seqGuard
  exact .ite h.refuseInst (hf _ h)

protected theorem Tidy.seqRegWrite {m : Master} {a : ℕ} {w : Word} (h : Tidy u) : Tidy (seqRegWrite m a w u) := by
  unfold seqRegWrite
  exact .ite
      h
      (.ite (h.seqGuard (fun _ h => h.seqCtlWrite)) (.ite (h.seqGuard (fun _ h => h.seqWdogWrite)) (h.seqGuard (fun _ h => h))))

protected theorem Tidy.execCoreHalt {m : Master} {k : ℕ} {on : Bool} (h : Tidy u) : Ends (execCoreHalt m k on u) := by
  unfold execCoreHalt
  exact .next (.ite (h.gated (fun _ h => h.seqGuard (fun _ h => h.seqCtlWrite))) h)

protected theorem Tidy.execCoreKick {m : Master} {k : ℕ} (h : Tidy u) : Ends (execCoreKick m k u) := by
  unfold execCoreKick
  exact .next (.ite (h.gated (fun _ h => h.seqGuard (fun _ h => h.seqWdogWrite))) h)

protected theorem Tidy.execCoreWdog {k t : ℕ} (h : Tidy u) : Ends (execCoreWdog k t u) := by
  unfold execCoreWdog
  exact .next (.ite h.advance.setB.haltTry.raise.wdogRestart h)

protected theorem Tidy.coreFail {k : ℕ} (h : Tidy u) : Tidy (coreFail k u) := by
  unfold coreFail
  exact h.setF.setCore.remapShow

protected theorem Tidy.pairFault {j : ℕ} (h : Tidy u) : Tidy (pairFault j u) := by
  unfold pairFault
  exact .ite
      h
      (by
        extract_lets
        split
        · exact .ite h.setF.bump.raise.setF h.setF.bump.raise
        · exact .ite
            (.remapShow (.setCore (.setF (.ite h.setF.bump.raise.setF h.setF.bump.raise))))
            (.coreFail (.ite h.setF.bump.raise.setF h.setF.bump.raise)))

protected theorem Tidy.execPairFault {j t : ℕ} (h : Tidy u) : Ends (execPairFault j t u) := by
  unfold execPairFault
  exact .next (.ite h h.advance.pairFault)

protected theorem Tidy.pairMoved {t : ℕ} (h : Tidy u) : Tidy (pairMoved t u) := by
  unfold pairMoved
  split
  · exact h.advance.setCore.remapShow.setF.setF.raise.haltTry
  · exact h

protected theorem Tidy.coreStart {k : ℕ} {code : List Byte} {len entry : ℕ} (h : Tidy u) :
    Tidy (coreStart k code len entry u) := by
  unfold coreStart
  exact h.setCore.setF.setF

/-! ## Boot and supplies -/

protected theorem Tidy.enterReset : Tidy (enterReset u) :=
  have h : Tidy { pending := u.pending, freeCtr := u.freeCtr } := ⟨rfl⟩
  .setF (.wr h.beside)

protected theorem Tidy.execResetNAssert {ns : ℕ} {took : Bool} (h : Tidy u) : Ends (execResetNAssert ns took u) := by
  unfold execResetNAssert
  exact .next (.ite h Tidy.enterReset.setF.beside)

protected theorem Tidy.execRailsAboveBrownoutThreshold (h : Tidy u) : Ends (execRailsAboveBrownoutThreshold u) := by
  unfold execRailsAboveBrownoutThreshold
  exact .next h.beside

protected theorem Tidy.execPowerOnTimingDone (h : Tidy u) : Ends (execPowerOnTimingDone u) := by
  unfold execPowerOnTimingDone
  exact .next (.ite h.beside h)

protected theorem Tidy.execBrownout {rails : ℕ} {nvLost : Bool} (h : Tidy u) : Ends (execBrownout rails nvLost u) := by
  unfold execBrownout
  exact .next (.ite h (.ite Tidy.enterReset.beside.wr.setF.setF Tidy.enterReset.beside.wr))

protected theorem Tidy.thermShow {q : Temps} (h : Tidy u) : Tidy (thermShow q u) := by
  unfold thermShow
  exact h.setF.setI.setI.beside

protected theorem Tidy.thermJudge {q : Temps} (h : Tidy u) : Tidy (thermJudge q u) := by
  unfold thermJudge
  exact .ite (.ite h.thermShow h.thermShow.setF.raise) (.ite h.thermShow.setF h.thermShow)

protected theorem Tidy.thermTrip : Tidy (thermTrip u) := by
  unfold thermTrip
  exact Tidy.enterReset.setF.setF.beside

protected theorem Tidy.execThermWarn {temps : Temps} (h : Tidy u) : Ends (execThermWarn temps u) := by
  unfold execThermWarn
  exact .next (.ite h (.ite Tidy.thermTrip (.ite h h.thermJudge)))

protected theorem Tidy.execThermalTrip {temps : Temps} (h : Tidy u) : Ends (execThermalTrip temps u) := by
  unfold execThermalTrip
  exact .next (.ite Tidy.thermTrip h)

protected theorem Tidy.bootFail {err img : ℕ} (h : Tidy u) : Tidy (bootFail err img u) := by
  unfold bootFail
  exact h.setF.setF.bump

protected theorem Tidy.bootRecover (h : Tidy u) : Tidy (bootRecover u) := by
  unfold bootRecover
  exact h.setF.setF.beside

protected theorem Tidy.execInternalResetEnd {straps : Straps} {early : Bool} {temps : Temps} {licVerifies : Bool} (h : Tidy u) :
    Ends (execInternalResetEnd straps early temps licVerifies u) := by
  unfold execInternalResetEnd
  exact .next
      (.ite
        h
        (.ite
          Tidy.thermTrip
          (.ite
            h
            (.ite
              h.beside.setB.setF.setF.setB.thermJudge.secBoot.spllEnter.setF.bootRecover
              (.ite
                h.beside.setB.setF.setF.setB.thermJudge.secBoot.spllEnter.setF
                h.beside.setB.setF.setF.setB.thermJudge.secBoot.spllEnter)))))

protected theorem Tidy.execMarrowInitDone {trained : ℕ} (h : Tidy u) : Ends (execMarrowInitDone trained u) := by
  unfold execMarrowInitDone
  refine .next (.ite h ?_)
  extract_lets _ s1
  have h1 : Tidy s1 := ⟨(canonical_iff _).mpr ⟨((canonical_iff _).mp h.setF.canonical).1, rfl⟩⟩
  exact .ite h1.setF h1.setF.setF

protected theorem Tidy.execRefMeasureDone {hz : ℕ} (h : Tidy u) : Ends (execRefMeasureDone hz u) := by
  unfold execRefMeasureDone
  exact .next (.ite h (.ite h.beside.setF.spllEnter h.beside.loadDivider.setF.setF.setF.spllEnter.beside.spllFollow))

protected theorem Tidy.dirUse {l : List Byte} (h : Tidy u) : Tidy (dirUse l u) := by
  unfold dirUse
  exact .ite h.setF.beside.setF.setF.bootRecover (.ite h.setF.beside.setF.setF.bootRecover h.setF.beside)

protected theorem Tidy.dirFail {code : ℕ} {blank late : Bool} (h : Tidy u) : Tidy (dirFail code blank late u) := by
  unfold dirFail
  exact .ite h.bootFail.bootRecover h.bootFail.beside

protected theorem Tidy.execDirectoryRead {copy : ℕ} {bytes : List Byte} (h : Tidy u) : Ends (execDirectoryRead copy bytes u) := by
  unfold execDirectoryRead
  exact .next (.ite h (.ite h.dirUse h.dirFail))

protected theorem Tidy.execDirectoryReadTimeout {copy : ℕ} (h : Tidy u) : Ends (execDirectoryReadTimeout copy u) := by
  unfold execDirectoryReadTimeout
  exact .next (.ite h.dirFail h)

protected theorem Tidy.imageFail {err img key : ℕ} (h : Tidy u) : Tidy (imageFail err img key u) := by
  unfold imageFail
  exact .ite
      (.beside (.setF (.ite h.bootFail.raise h.bootFail)))
      (.ite
        (.beside (.ite h.bootFail.raise h.bootFail))
        (.ite (.beside (.ite h.bootFail.raise h.bootFail)) (.bootRecover (.ite h.bootFail.raise h.bootFail))))

protected theorem Tidy.fwVerify {l : List Byte} {v : SigVerdict} {hash : ℕ} (h : Tidy u) : Tidy (fwVerify l v hash u) := by
  unfold fwVerify
  exact .ite h.imageFail h.setB.beside

protected theorem Tidy.bsVerify {fam : List ℕ} {f : BsFile} {v : SigVerdict} {hash : ℕ} (h : Tidy u) :
    Tidy (bsVerify fam f v hash u) := by
  unfold bsVerify
  exact .ite (.imageFail (.ite h h.store)) (.beside (.setB (.ite h h.store)))

protected theorem Tidy.execImageVerify {img : Image} (h : Tidy u) : Ends (execImageVerify img u) := by
  unfold execImageVerify
  exact .next
      (.ite
        h
        (by
          split
          · exact h.fwVerify
          · exact .ite h h.bsVerify
          · exact h))

protected theorem Tidy.coresStart {f : FwHdr} (h : Tidy u) : Tidy (coresStart f u) := by
  unfold coresStart
  exact h.forEach fun _ _ h => h.coreStart

protected theorem Tidy.execFabricConfigured {t : ℕ} (h : Tidy u) : Ends (execFabricConfigured t u) := by
  unfold execFabricConfigured
  exact .next
      (by
        split
        · exact .ite h h.startCount.advance.advance.beside.fabConfigure.setF.setF.setF.setF.setF.coresStart.calStartUp
        · exact h)

protected theorem Tidy.execFirmwareReady (h : Tidy u) : Ends (execFirmwareReady u) := by
  unfold execFirmwareReady
  exact .next (.ite h.setF.wr h)

protected theorem Tidy.bootCmdWrite {w : ℕ} (h : Tidy u) : Tidy (bootCmdWrite w u) := by
  unfold bootCmdWrite
  exact .ite h (.ite h.refuse h.setF.beside)

protected theorem Tidy.execBootLoad {m : Master} (h : Tidy u) : Ends (execBootLoad m u) := by
  unfold execBootLoad
  exact .next (h.gated (fun _ h => h.bootCmdWrite))

protected theorem Tidy.setFeat128 {reg : ℕ → ℕ} {v : ℕ} (h : Tidy u) : Tidy (setFeat128 reg v u) := by
  unfold setFeat128
  exact h.forEach fun _ _ h => h.wr

protected theorem Tidy.featAcceptWrite {i : ℕ} {v : Word} (h : Tidy u) : Tidy (featAcceptWrite i v u) := by
  unfold featAcceptWrite
  exact .ite h.wr h.wr.refuse

protected theorem Tidy.execFeatAcceptWrite {m : Master} {w : ℕ} {v : Word} (h : Tidy u) : Ends (execFeatAcceptWrite m w v u) := by
  unfold execFeatAcceptWrite
  exact .next (.ite (h.gated (fun _ h => h.featAcceptWrite)) h)

protected theorem Tidy.featLockWrite {w : ℕ} (h : Tidy u) : Tidy (featLockWrite w u) := by
  unfold featLockWrite
  exact .ite h (.ite h.refuse (.ite h.refuse h.regionsFix.setF.beside))

protected theorem Tidy.execFeatLock {m : Master} (h : Tidy u) : Ends (execFeatLock m u) := by
  unfold execFeatLock
  exact .next (h.gated (fun _ h => h.featLockWrite))

protected theorem Tidy.featOn {old : State} (h : Tidy u) : Tidy (featOn old u) := .irqRefresh (.ite h.ktBringUp h)

protected theorem Tidy.execLockComplete (h : Tidy u) : Ends (execLockComplete u) := by
  unfold execLockComplete
  refine .next ?_
  split
  · exact h
  · refine .featOn (.ite (.beside (.setF (.setF (.ite (.ringsStart (.setF ?_)) ?_)))) (.ite (.ringsStart (.setF ?_)) ?_))
    all_goals exact .beside (.bump (.setF (.setF h.setFeat128.setFeat128)))

protected theorem Tidy.execKt440AutoLock (h : Tidy u) : Ends (execKt440AutoLock u) := by
  unfold execKt440AutoLock
  exact .next (.ite h (.gated (h.gated (fun _ h => h.featAcceptWrite)) (fun _ h => h.featLockWrite)))

protected theorem Tidy.sysRegWrite {a : ℕ} {w : Word} (h : Tidy u) : Tidy (sysRegWrite a w u) := by
  unfold sysRegWrite
  exact .ite h.bootCmdWrite (.ite h.featAcceptWrite (.ite h.featLockWrite h.plainWrite))

protected theorem Tidy.linkSet {up : Bool} {gen lanes : ℕ} (h : Tidy u) : Tidy (linkSet up gen lanes u) := by
  unfold linkSet
  exact .ite (.ite h.setF.setF.setF h.pciReset) (.raise (.ite h.setF.setF.setF h.pciReset))

protected theorem Tidy.execPerstAssert (h : Tidy u) : Ends (execPerstAssert u) := by
  unfold execPerstAssert
  exact .next (.ite h.beside.setF h.beside.setF.linkSet)

protected theorem Tidy.execPerstRelease (h : Tidy u) : Ends (execPerstRelease u) := by
  unfold execPerstRelease
  exact .next h.beside

protected theorem Tidy.execPcieLinkChange {up : Bool} {gen lanes : ℕ} (h : Tidy u) :
    Ends (execPcieLinkChange up gen lanes u) := by
  unfold execPcieLinkChange
  exact .next (.ite h h.beside.linkSet)

protected theorem Tidy.execRefclkPresenceChange {eth present : Bool} (h : Tidy u) :
    Ends (execRefclkPresenceChange eth present u) := by
  unfold execRefclkPresenceChange
  exact .next (.ite h (.ite h.setB (.ite h.setB.portDown.portDown h.setB.beside.linkSet)))

/-! ## Register writes -/

protected theorem Tidy.evtRegWrite {m : Master} {a : ℕ} {w : Word} (h : Tidy u) : Tidy (evtRegWrite m a w u) := by
  unfold evtRegWrite
  exact .ite h.evtClear <| .ite (.ite h.refuse h.plainWrite.irqRefresh) <| .ite h.plainWrite <| .ite h.refuse <| .ite h.refuse <|
      .ite h.refuse h.plainWrite.routesRefresh

protected theorem Tidy.clkRegWrite {a : ℕ} {w : Word} (h : Tidy u) : Tidy (clkRegWrite a w u) := by
  unfold clkRegWrite
  exact .ite (.ite h.commitWrite h) (.ite (.ite h.srcWrite.regPut h.refuse) (.ite h.refuse h.plainWrite))

protected theorem Tidy.rfeRegWrite {a : ℕ} {w : Word} (h : Tidy u) : Tidy (rfeRegWrite a w u) := by
  unfold rfeRegWrite
  exact .ite h.gainApply h.plainWrite

protected theorem Tidy.fabAllWrite {a : ℕ} {w : Word} (h : Tidy u) : Tidy (fabAllWrite a w u) := by
  unfold fabAllWrite
  exact .ite h.bankDataWrite <| .ite h.bankHdrWrite <| .ite h.bankCmdWrite <| .ite h.plainWrite.bankRefresh h.fabRegWrite

protected theorem Tidy.pthRegWrite {n a : ℕ} {w : Word} (h : Tidy u) : Tidy (pthRegWrite n a w u) := by
  unfold pthRegWrite
  exact .ite h.pathCmd <| .ite h.shiftWrite <| .ite (.ite h.regPut h.refuseInst) <| .ite h.refuseInst <| .ite h.refuseInst <|
      .ite h.refuseInst <| .ite h.refuseInst h.regPut.pathRefresh

protected theorem Tidy.demRegWrite {n a : ℕ} {w : Word} (h : Tidy u) : Tidy (demRegWrite n a w u) := by
  unfold demRegWrite
  exact .ite h.demWrite h

protected theorem Tidy.dabRegWrite {m : Master} {a : ℕ} {w : Word} (h : Tidy u) : Tidy (dabRegWrite m a w u) := by
  unfold dabRegWrite
  exact .ite
      (h.ensGuard (fun _ h => .ite h.ensCmd (.ite h.ensCfgWrite h.regPut)))
      (.ite h (h.decGuard (fun _ h => .ite h.decCtlWrite (.ite h.decCmd h))))

protected theorem Tidy.folAllWrite {m : Master} {a : ℕ} {w : Word} (h : Tidy u) : Tidy (folAllWrite m a w u) := by
  unfold folAllWrite
  exact .ite h.folRegWrite <| .ite h.folCmd <| .ite h.folPoolWrite <| .ite h.clistWrite <| .ite h.plainWrite.candShow h.plainWrite

protected theorem Tidy.mrwRegWrite {a : ℕ} {w : Word} (h : Tidy u) : Tidy (mrwRegWrite a w u) := by
  unfold mrwRegWrite
  exact .ite h.regCmdWrite <| .ite (.ite h h.shadowWrite) <| .ite h.tshWrite <| .ite h.snapCmdWrite <|
      .ite h.snapRegWrite h.plainWrite

protected theorem Tidy.sapRegWrite {m : Master} {k a : ℕ} {w : Word} (h : Tidy u) : Tidy (sapRegWrite m k a w u) := by
  unfold sapRegWrite
  exact .ite h.sapCtl.audShow <| .ite h.sapMap <| .ite h.sapIcap <| .ite h.sapTcsCtl <| .ite h.regPut h.refuseInst

protected theorem Tidy.relInject {w : ℕ} (h : Tidy u) : Tidy (relInject w u) := by
  unfold relInject
  exact .ite h.refuse <| .ite h.refuse <| .ite h.refuse <| .ite h.refuse <| .ite h.refuse <| .ite h.podFault h.pairFault

protected theorem Tidy.relRegWrite {a : ℕ} {w : Word} (h : Tidy u) : Tidy (relRegWrite a w u) := by
  unfold relRegWrite
  exact .ite h.relInject h.plainWrite

protected theorem Tidy.execInjectPod {m : Master} {p : ℕ} (h : Tidy u) : Ends (execInjectPod m p u) := by
  unfold execInjectPod
  exact .next (.ite (h.gated (fun _ h => h.relInject)) h)

protected theorem Tidy.execInjectPair {m : Master} {k : ℕ} (h : Tidy u) : Ends (execInjectPair m k u) := by
  unfold execInjectPair
  exact .next (.ite (h.gated (fun _ h => h.relInject)) h)

protected theorem Tidy.blockWrite {m : Master} {a : ℕ} {w : Word} (h : Tidy u) : Tidy (blockWrite m a w u) := by
  unfold blockWrite
  exact .ite h.sysRegWrite <| .ite h.evtRegWrite <| .ite h.clkRegWrite <| .ite h.rfeRegWrite <| .ite h.fabAllWrite <|
      .ite (h.pathGuard (fun _ h => h.pthRegWrite)) <| .ite (h.pathGuard (fun _ h => h.demRegWrite)) <| .ite h.dabRegWrite <|
      .ite h.folAllWrite <| .ite h.mrwRegWrite <| .ite h.plainWrite <| .ite (h.sapGuard (fun _ h => h.sapRegWrite)) <|
      .ite h.netRegWrite <| .ite h.pciRegWrite <| .ite h.seqRegWrite <| .ite h.excRegWrite <| .ite h.slkRegWrite <|
      .ite h.calRegWrite <| .ite h.secRegWrite <| .ite h.relRegWrite <| .ite h.obsRegWrite <| .ite h.plainWrite <|
      .ite h.calWinWrite <| .ite h.loadPort <| .ite h.secWinWrite h

protected theorem Tidy.regWrite {m : Master} {a w : ℕ} (h : Tidy u) : Tidy (regWrite m a w u) := by
  unfold regWrite
  exact h.gated (fun _ h => h.blockWrite)

protected theorem Tidy.readEffect {m : Master} {a : ℕ} (h : Tidy u) : Tidy (readEffect m a u) := by
  unfold readEffect
  exact .ite h (.ite h.readSyscnt (.ite (.setF (.wr (.ite h.beside h))) (.wr (.ite h.beside h))))

protected theorem Tidy.regRead {m : Master} {a : ℕ} (h : Tidy u) : Tidy (regRead m a u).2 := by
  unfold regRead
  exact h.readEffect.pair

protected theorem Tidy.execRcRegisterRead {m : Master} {a : ℕ} (h : Tidy u) : Ends (execRcRegisterRead m a u) := by
  unfold execRcRegisterRead
  exact .next h.readEffect

end

end Sys2Proof.Machine
end

section
/-! SUPPORT. The instructions of Izham and the host bus keep the canonical form. -/

set_option Elab.async false

namespace Sys2Proof.Machine

section
variable {u : State}

/-! ## The memory of a core -/

protected theorem Tidy.izReply {k : ℕ} {write : Bool} {line : ℕ} {x : IzAcc} (h : Tidy x.s) :
    Tidy (izReply k write line x).2.s := by
  unfold izReply
  exact .pairAcc (.acc (.ite h.mrwCount h.mrwLine))

protected theorem Tidy.wcWrite {k : ℕ} {l : WcLine} {x : IzAcc} (h : Tidy x.s) : Tidy (wcWrite k l x).s := by
  unfold wcWrite
  exact .iteAcc h.izReply (.acc (h.izReply.foldl fun _ _ h => h.store))

protected theorem Tidy.wcFlushOne {k : ℕ} {x : IzAcc} (h : Tidy x.s) : Tidy (wcFlushOne k x).s := by
  unfold wcFlushOne
  split
  · exact h
  · exact h.setCore.acc.wcWrite

protected theorem Tidy.wcFlushAll {k n : ℕ} {x : IzAcc} (h : Tidy x.s) : Tidy (wcFlushAll k n x).s := by
  induction n generalizing x with
  | zero => exact h
  | succ n ih => exact ih h.wcFlushOne

protected theorem Tidy.wcByte {k a : ℕ} {b : Byte} {x : IzAcc} (h : Tidy x.s) : Tidy (wcByte k a b x).s := by
  unfold wcByte
  exact .iteAcc h.setCore.acc (.acc (.setCore (.iteAcc h.wcFlushOne h)))

protected theorem Tidy.wcStore {k a : ℕ} {l : List Byte} {x : IzAcc} (h : Tidy x.s) : Tidy (wcStore k a l x).s := by
  induction l generalizing a x with
  | nil => exact h
  | cons b t ih => exact ih h.wcByte

protected theorem Tidy.izLines {k n line : ℕ} {x : IzAcc} (h : Tidy x.s) : Tidy (izLines k n line x).2.s := by
  induction n generalizing line x with
  | zero => exact h
  | succ n ih => exact ih h.izReply

protected theorem Tidy.marrowLoad {k a n : ℕ} {x : IzAcc} (h : Tidy x.s) : Tidy (marrowLoad k a n x).2.s := by
  unfold marrowLoad
  exact h.izLines.pairAcc

protected theorem Tidy.regStore {k a h' v : ℕ} (h : Tidy u) : Tidy (regStore k a h' v u) := by
  unfold regStore
  exact .ite h.setCore h.setCore.regWrite

protected theorem Tidy.regLoad {k a h' : ℕ} (h : Tidy u) : Tidy (regLoad k a h' u).2 := by
  unfold regLoad
  exact .iteSnd
      h.regRead.setCore.pair
      (by
        extract_lets
        split
        · exact .iteSnd h.setCore.pair h.setCore.pair
        · exact h.setCore.pair)

/-- Words loaded from the register space, each with the effects of its read (R370). -/
theorem Tidy.regLoads {k a : ℕ} {l : List ℕ} {r : List ℕ × IzAcc} (h : Tidy r.2.s) :
    Tidy (l.foldl (fun (r : List ℕ × IzAcc) (j : ℕ) =>
      let b := a - regBase + 2 * j
      let q := regLoad k (b / 4 * 4) (b / 2 % 2) r.2.s
      (r.1 ++ [q.1], { r.2 with s := q.2 })) r).2.s := by
  induction l generalizing r with
  | nil => exact h
  | cons j t ih => exact ih h.regLoad.acc.pairAcc

protected theorem Tidy.izLoad {k : ℕ} {d : SegDesc} {w n : ℕ} {x : IzAcc} (h : Tidy x.s) : Tidy (izLoad k d w n x).2.s := by
  unfold izLoad
  extract_lets
  split
  · exact h.marrowLoad
  · exact h
  · exact Tidy.regLoads (r := ([], x)) h
  · exact h

protected theorem Tidy.izStore {k : ℕ} {d : SegDesc} {w : ℕ} {l : List ℕ} {x : IzAcc} (h : Tidy x.s) :
    Tidy (izStore k d w l x).s := by
  induction l generalizing w x with
  | nil => exact h
  | cons v t ih =>
    unfold izStore
    refine ih ?_
    extract_lets
    split
    · exact h.wcStore
    · exact h.setCore
    · exact h.regStore
    · exact h

protected theorem Tidy.izAccEnd {k : ℕ} {x : IzAcc} (h : Tidy x.s) : Tidy (izAccEnd k x) := by
  unfold izAccEnd
  exact .ite h h.setCore

protected theorem Tidy.execWcLineFlush {k line code t : ℕ} (h : Tidy u) : Ends (execWcLineFlush k line code t u) := by
  unfold execWcLineFlush
  exact .next
      (by
        split
        · exact .ite (.ite h.advance.setCore.acc.wcWrite h.advance.setCore.acc.wcWrite.setCore) h
        · exact h)

/-! ## What an instruction does -/

protected theorem Tidy.izW {k : ℕ} {r : IzReg} {d v : ℕ} (h : Tidy u) : Tidy (izW k r d v u) := by
  unfold izW
  exact h.setCore

protected theorem Tidy.izWE {k : ℕ} {r : IzReg} {d v : ℕ} (h : Tidy u) : Tidy (izWE k r d v u) := by
  unfold izWE
  exact h.setCore

protected theorem Tidy.izPush {k : ℕ} {l : List ℕ} {sp : ℕ} {x : IzAcc} (h : Tidy x.s) : Tidy (izPush k l sp x).s := by
  induction l generalizing sp x with
  | nil => exact h
  | cons v t ih =>
    unfold izPush
    refine ih ?_
    split
    · exact h.izStore
    · exact h

protected theorem Tidy.izAccPut {k n : ℕ} {sat : Bool} {x : ℤ} (h : Tidy u) : Tidy (izAccPut k n sat x u) := by
  unfold izAccPut
  exact .ite h.izWE h.izWE.izW

protected theorem Tidy.izStep {k m n cnt : ℕ} (h : Tidy u) : Tidy (izStep k m n cnt u) := by
  unfold izStep
  exact .ite h.izW h.izW.izW

theorem izCheck_leaves {c : Core} {j w n : ℕ} {write : Bool} {r : IzRes} (hr : izCheck c j w n write = some r) : Leaves r := by
  unfold izCheck at hr
  extract_lets at hr
  split at hr
  · exact Option.some.inj hr ▸ .trap
  · split at hr
    · exact Option.some.inj hr ▸ .trap
    · exact nomatch hr

/-- What the two loads of a pair leave: a trap, or the access as it stands. -/
theorem Tidy.izPairLoad {k m n cnt : ℕ} {rep : List ℕ} (h : Tidy u) : match izPairLoad k m n cnt u rep with
    | .inl t => Leaves t
    | .inr (_, _, r) => Tidy r.s := by
  unfold Machine.izPairLoad
  extract_lets c jm jn wm wn
  cases hm : izCheck c jm wm cnt false with
  | some t => exact izCheck_leaves hm
  | none =>
    cases hn : izCheck c jn wn cnt false with
    | some t => exact izCheck_leaves hn
    | none => exact Tidy.izLoad (Tidy.izLoad (x := ⟨u, rep, 0⟩) h)

protected theorem Tidy.izMacpDo {k m n acc : ℕ} {sat : Bool} {rep : List ℕ} (h : Tidy u) :
    Leaves (izMacpDo k m n acc sat rep u) := by
  have hp := h.izPairLoad (k := k) (m := m) (n := n) (cnt := 1) (rep := rep)
  unfold Machine.izMacpDo
  split
  · next t ht =>
    rw [ht] at hp
    exact hp
  · next x y r hr =>
    rw [hr] at hp
    exact .done (.izStep (.izAccPut (Tidy.izAccEnd hp)))

protected theorem Tidy.izCmacDo {k m n acc : ℕ} {conj sat : Bool} {rep : List ℕ} (h : Tidy u) :
    Leaves (izCmacDo k m n acc conj sat rep u) := by
  have hp := h.izPairLoad (k := k) (m := m) (n := n) (cnt := 2) (rep := rep)
  unfold Machine.izCmacDo
  split
  · next t ht =>
    rw [ht] at hp
    exact hp
  · next x y r hr =>
    rw [hr] at hp
    exact .done (.izStep (.izAccPut (.izAccPut (Tidy.izAccEnd hp))))

protected theorem Tidy.izFa {k : ℕ} {o : IzFa} {b1 : BitVec 8} {n : ℕ} {x : BitVec 6} {sat : Bool} {rep : List ℕ} (h : Tidy u) :
    Leaves (izFa k o b1 n x sat rep u) := by
  unfold izFa
  extract_lets
  split
  · exact h.izAccPut.done
  · exact h.izAccPut.done
  · exact h.izAccPut.done
  · exact h.izAccPut.done
  · exact .done (.ite h.izW.izW h.izW)
  · exact h.izAccPut.done
  · exact h.izAccPut.done
  · exact h.izAccPut.done
  · exact h.izMacpDo
  · exact h.izCmacDo
  · exact h.izCmacDo

protected theorem Tidy.izLoaded {k g : ℕ} {l : List ℕ} (h : Tidy u) : Tidy (izLoaded k g l u) := by
  induction l generalizing g u with
  | nil => exact h
  | cons v t ih => exact ih h.izW

protected theorem Tidy.izAccess {k : ℕ} {write : Bool} {cnt g : ℕ} {post : Bool} {n : ℕ} {add : BitVec 24} {sego : Option ℕ}
    {rep : List ℕ} (h : Tidy u) : Leaves (izAccess k write cnt g post n add sego rep u) := by
  unfold izAccess
  extract_lets +onlyGivenNames c j sum w
  split
  · next t ht => exact izCheck_leaves ht
  · extract_lets x _ s1
    have hx : Tidy x.s := h
    have h1 : Tidy s1 := .ite hx.izStore.izAccEnd hx.izLoad.izAccEnd.izLoaded
    exact .done (.ite h1.izW h1)

protected theorem Tidy.izFm {k : ℕ} {o : IzFm} {g : ℕ} {post : Bool} {n : ℕ} {x : BitVec 8} {pre : List IzPre}
    {rep : List ℕ} (h : Tidy u) :
    Leaves (izFm k o g post n x pre rep u) := by
  unfold izFm
  extract_lets
  split
  · exact h.izAccess
  · exact h.izAccess
  · exact h.izAccess
  · exact h.izAccess
  · exact h.izAccess
  · exact h.izAccess
  · exact h.izW.izW.done
  · exact h.izW.done

protected theorem Tidy.izCall {k target ret : ℕ} {rep : List ℕ} (h : Tidy u) : Leaves (izCall k target ret rep u) := by
  unfold izCall
  exact .ite .trap h.acc.izPush.izAccEnd.izW.branch

protected theorem Tidy.izSetsd {k a j : ℕ} (h : Tidy u) : Leaves (izSetsd k a j u) := by
  unfold izSetsd
  exact .ite .trap h.izW.done

protected theorem Tidy.izGetsd {k a j : ℕ} (h : Tidy u) : Tidy (izGetsd k a j u) := by
  unfold izGetsd
  exact h.izW.izW.izW

protected theorem Tidy.izSwPut {k d e v : ℕ} {early : Bool} (h : Tidy u) : Tidy (izSwPut k d e v early u) := by
  unfold izSwPut
  exact .forEach (.izW (.izW (.ite h.izWE h.izW))) fun _ _ h => h.izW

protected theorem Tidy.izFr {k : ℕ} {o : IzFr} {x y ret : ℕ} {sat : Bool} {rep : List ℕ} (h : Tidy u) :
    Leaves (izFr k o x y ret sat rep u) := by
  unfold izFr
  extract_lets
  split
  · exact h.izW.done
  · exact h.izW.done
  · exact h.izW.done
  · exact h.izW.done
  · exact h.izW.done
  · exact h.izW.done
  · exact h.izW.done
  · exact h.izW.done
  · exact .ite h.izSwPut.done .trap
  · exact h.izW.done
  · exact h.izW.done
  · exact .ite .trap h.acc.izPush.izAccEnd.izW.done
  · exact .ite .trap h.acc.izLoad.izAccEnd.izW.izW.done
  · exact .ite .trap h.acc.izPush.izAccEnd.izW.done
  · exact .ite .trap h.acc.izLoad.izLoad.izLoad.izAccEnd.izW.izW.done
  · exact h.branch
  · exact h.izCall
  · exact h.izW.done
  · exact h.izSetsd
  · exact h.izGetsd.done

protected theorem Tidy.izRtiDo {k : ℕ} {rep : List ℕ} (h : Tidy u) : Leaves (izRtiDo k rep u) := by
  unfold izRtiDo
  refine .ite .trap ?_
  extract_lets +onlyGivenNames r0 w n
  refine .ite .trap (.ite .trap ?_)
  extract_lets r1 r2 s1
  have h1 : Tidy r1.2.s := .izLoad (Tidy.izLoad (x := ⟨u, rep, 0⟩) h)
  have h2 : Tidy r2.2.s := by
    unfold r2
    split
    · exact h1.izLoad
    · exact h1
  exact .rti h2.izAccEnd.izW.izSwPut.setCore

protected theorem Tidy.izRetDo {k : ℕ} {rep : List ℕ} (h : Tidy u) : Leaves (izRetDo k rep u) := by
  unfold izRetDo
  exact .ite .trap h.acc.izLoad.izAccEnd.izW.branch

protected theorem Tidy.izSyncDo {k : ℕ} {rep : List ℕ} (h : Tidy u) : Tidy (izSyncDo k rep u) := by
  unfold izSyncDo
  exact h.acc.wcFlushAll.izAccEnd

protected theorem Tidy.izLexitDo {k : ℕ} (h : Tidy u) : Leaves (izLexitDo k u) := by
  unfold izLexitDo
  exact .ite .trap h.izW.izW.done

protected theorem Tidy.izF0Do {k : ℕ} {o : IzF0} {rep : List ℕ} (h : Tidy u) : Leaves (izF0Do k o rep u) := by
  unfold izF0Do
  split
  · exact h.done
  · exact h.izSyncDo.done
  · exact h.izRetDo
  · exact h.izRtiDo
  · exact h.izLexitDo
  · exact h.izWE.done
  · exact h.izWE.done

protected theorem Tidy.izLoopDo {k count an disp : ℕ} (h : Tidy u) : Leaves (izLoopDo k count an disp u) := by
  unfold izLoopDo
  exact .ite .trap (.ite h.izW.izW.izW.skip h.izW.izW.izW.izW.done)

protected theorem Tidy.izFxDo {k : ℕ} {o : IzFx} {d x : ℕ} (h : Tidy u) : Tidy (izFxDo k o d x u) := by
  unfold izFxDo
  extract_lets
  split <;> exact h.izW

protected theorem Tidy.izDo {k : ℕ} {pre : List IzPre} {o : IzOp} {an ret : ℕ} {rep : List ℕ} (h : Tidy u) :
    Leaves (izDo k pre o an ret rep u) := by
  unfold izDo
  exact .ite
      .trap
      (by
        split
        · exact h.izF0Do
        · exact h.izFr
        · exact h.izW.done
        · exact h.izW.done
        · exact h.branch
        · exact h.branch
        · exact h.branch
        · exact .ite h.izCall h.branch
        · exact h.izFm
        · exact h.izFa
        · exact h.izLoopDo
        · exact h.izLoopDo
        · exact h.izFxDo.done)

/-! ## Issue, traps and steps -/

protected theorem Tidy.izAccNow {k : ℕ} {x : IzAcc} (h : Tidy x.s) : Tidy (izAccNow k x) := by
  unfold izAccNow
  exact .ite h h.setCore

protected theorem Tidy.izDouble {k : ℕ} (h : Tidy u) : Tidy (izDouble k u) := by
  unfold izDouble
  exact h.setF.setF.setF

protected theorem Tidy.izTrapRecord {k cause pc sw : ℕ} {at_ : Option (ℕ × ℕ)} (h : Tidy u) :
    Tidy (izTrapRecord k cause pc sw at_ u) := by
  unfold izTrapRecord
  extract_lets
  split
  · exact h.setF.setF.setF.setF.bump.setF.setF
  · exact h.setF.setF.setF.setF.bump

protected theorem Tidy.izEnter {k n : ℕ} {trap : Option (ℕ × Option (ℕ × ℕ))} {rep : List ℕ} (h : Tidy u) :
    Tidy (izEnter k n trap rep u) := by
  unfold izEnter
  exact .ite
      h.setCore.izDouble
      (.setCore (by
        split
        · exact h.setCore.acc.izPush.izAccNow.izTrapRecord
        · exact h.setCore.acc.izPush.izAccNow.bump))

protected theorem Tidy.izTrap {k cause : ℕ} {at_ : Option (ℕ × ℕ)} {rep : List ℕ} (h : Tidy u) :
    Tidy (izTrap k cause at_ rep u) := by
  unfold izTrap
  exact h.izEnter

protected theorem Tidy.izSlot {k : ℕ} (h : Tidy u) : Tidy (izSlot k u) := by
  unfold izSlot
  exact h.setCore

protected theorem Tidy.izOn {k pc an left : ℕ} (h : Tidy u) : Tidy (izOn k pc an left u) := by
  unfold izOn
  exact h.izSlot.setCore

protected theorem Tidy.izAct {k pc an left : ℕ} {rep : List ℕ} {r : IzRes} (h : Tidy u) (hr : Leaves r) :
    Tidy (izAct k pc an left rep u r) := by
  cases r with
  | trap cause a => exact h.izTrap
  | done s => exact Tidy.izOn hr
  | branch target s => exact .setCore (Tidy.izSlot hr)
  | skip le s => exact .setCore (Tidy.izSlot hr)
  | rti s => exact Tidy.izSlot hr

protected theorem Tidy.izRun {k : ℕ} {f : IzFetch} {rep : List ℕ} (h : Tidy u) : Tidy (izRun k f rep u) := by
  unfold izRun
  extract_lets
  split
  · exact .ite h.setCore.izOn (h.setCore.izAct h.setCore.izDo)
  · exact h.izTrap
  · exact h.izTrap

protected theorem Tidy.stepHalt {k : ℕ} (h : Tidy u) : Tidy (stepHalt k u) := by
  unfold stepHalt
  exact h.setCore.setF

protected theorem Tidy.stepRun {k : ℕ} {rep : List ℕ} (h : Tidy u) : Tidy (stepRun k rep u) := by
  unfold stepRun
  exact .ite h.setCore.izRun.stepHalt h.setCore

protected theorem Tidy.runSteps {n : ℕ} (h : Tidy u) : Tidy (runSteps n u) := by
  induction n generalizing u with
  | zero => exact h
  | succ n ih =>
    unfold runSteps
    split
    · exact ih h.stepRun
    · exact h

protected theorem Tidy.regWriteFull {m : Master} {a w : ℕ} (h : Tidy u) : Tidy (regWriteFull m a w u) := by
  unfold regWriteFull
  exact h.regWrite.runSteps

protected theorem Tidy.izIssueFetch {h' : IzHead} {f : IzFetch} (h : Tidy u) : Tidy (izIssueFetch h' f u) := by
  unfold izIssueFetch
  exact .ite h.izRun.haltTry.runSteps h

protected theorem Tidy.izIssue {h' : IzHead} {o : IzOp} (h : Tidy u) : Tidy (izIssue h' o u) := by
  unfold izIssue
  exact h.izIssueFetch

protected theorem Tidy.execInterruptEntry {k : ℕ} {replies : List ℕ} (h : Tidy u) : Ends (execInterruptEntry k replies u) := by
  unfold execInterruptEntry
  exact .next
      (.ite
        (by
          split
          · exact h.izEnter.haltTry
          · exact h) h)

protected theorem Tidy.execCoreStep {m : Master} {k : ℕ} {replies : List ℕ} (h : Tidy u) : Ends (execCoreStep m k replies u) := by
  unfold execCoreStep
  exact .next
      (.ite
        (.runSteps (.ite
          (.stepRun (h.gated (fun _ h => h.seqGuard (fun _ h => h.seqCtlWrite))))
          (h.gated (fun _ h => h.seqGuard (fun _ h => h.seqCtlWrite)))))
        h)

protected theorem Tidy.execPairRemap {t : ℕ} (h : Tidy u) : Ends (execPairRemap t u) := by
  unfold execPairRemap
  exact .next h.pairMoved.runSteps

protected theorem Tidy.execUndefinedOpcode {h' : IzHead} {op op1 : BitVec 8} (h : Tidy u) :
    Ends (execUndefinedOpcode h' op op1 u) := by
  unfold execUndefinedOpcode
  exact .next (.ite h.izIssueFetch h)

/-! ## The host bus -/

protected theorem Tidy.hbShow (h : Tidy u) : Tidy (hbShow u) := by
  unfold hbShow
  exact h.setB.setF.setF

protected theorem Tidy.hbAnswer {v : ℕ} {latch : Option (ℕ × ℕ)} (h : Tidy u) : Tidy (hbAnswer v latch u) := by
  unfold hbAnswer
  exact h.beside

protected theorem Tidy.execHbRead {a _be : ℕ} (h : Tidy u) : Ends (execHbRead a _be u) := by
  unfold execHbRead
  exact .next
      (.ite
        h
        (.ite
          h.hbAnswer
          (.ite
            h.readEffect.hbAnswer
            (by
              split
              · exact .ite h.hbAnswer h.bump.hbAnswer
              · exact h.bump.hbAnswer))))

protected theorem Tidy.hbPageSet {be d : ℕ} (h : Tidy u) : Tidy (hbPageSet be d u) := by
  unfold hbPageSet
  exact .ite h.setF h

protected theorem Tidy.execHbWriteLow {a be d : ℕ} (h : Tidy u) : Ends (execHbWriteLow a be d u) := by
  unfold execHbWriteLow
  exact .next (.ite h (.ite h.hbPageSet h.beside.hbShow))

protected theorem Tidy.hbCommit {reg w : ℕ} (h : Tidy u) : Tidy (hbCommit reg w u) := by
  unfold hbCommit
  exact .ite h.beside.bump.raise.hbShow h.beside.beside.hbShow

protected theorem Tidy.execHbWriteHigh {a be d : ℕ} (h : Tidy u) : Ends (execHbWriteHigh a be d u) := by
  unfold execHbWriteHigh
  exact .next (.ite h h.hbCommit)

protected theorem Tidy.execHbBadCycle (h : Tidy u) : Ends (execHbBadCycle u) := by
  unfold execHbBadCycle
  exact .next (.ite h.bump h)

protected theorem Tidy.execHbPageWrite {d : ℕ} (h : Tidy u) : Ends (execHbPageWrite d u) := by
  unfold execHbPageWrite
  exact .next (.ite h.hbPageSet h)

protected theorem Tidy.execHbQueueDeliver (h : Tidy u) : Ends (execHbQueueDeliver u) := by
  unfold execHbQueueDeliver
  exact .next
      (by
        split
        · exact h
        · exact .ite h (.hbShow (.ite h.beside.ktRegWrite h.beside.regWriteFull)))

protected theorem Tidy.execRegisterWrite {m : Master} {a : ℕ} {v : Word} (h : Tidy u) : Ends (execRegisterWrite m a v u) := by
  unfold execRegisterWrite
  exact .next (.ite h.regWriteFull h)

protected theorem Tidy.bar0Writes {a : ℕ} {l : List Word} (h : Tidy u) : Tidy (bar0Writes a l u) := by
  induction l generalizing a u with
  | nil => exact h
  | cons w t ih => exact ih h.regWriteFull

protected theorem Tidy.bar0Reads {n a : ℕ} (h : Tidy u) : Tidy (bar0Reads n a u).2 := by
  induction n generalizing a u with
  | zero => exact h
  | succ n ih => exact ih h.regRead

protected theorem Tidy.execBar0Access {write : Bool} {o size : ℕ} {data : List Word} (h : Tidy u) :
    Ends (execBar0Access write o size data u) := by
  unfold execBar0Access
  exact .next (.ite h (.ite (.ite h.bar0Writes h.bar0Reads.beside) (.ite h.bump h.bump.beside)))

protected theorem Tidy.casExec {q : CasReq} (h : Tidy u) : Tidy (casExec q u).2 := by
  unfold casExec
  exact .iteSnd h.pair (.iteSnd h.pair (.iteSnd h.regRead.pair h.regWriteFull.pair))

protected theorem Tidy.casRun {l : List CasReq} (h : Tidy u) : Tidy (casRun l u).2 := by
  induction l generalizing u with
  | nil => exact h
  | cons q t ih => exact ih h.casExec

protected theorem Tidy.execCasrumControlRx {p : CasPacket} {t : ℕ} (h : Tidy u) : Ends (execCasrumControlRx p t u) := by
  unfold execCasrumControlRx
  exact .next
      (.ite h <| .ite h.advance.bump <| .ite h.advance <|
        .ite h.advance.bump (.ite h.advance.casRun.egrSend.beside h.advance.casRun.egrSend))

end

end Sys2Proof.Machine
end

section
/-! SUPPORT. Every step keeps the register table and Marrow canonical. -/

set_option Elab.async false

namespace Sys2Proof.Machine

section
variable {u : State}

protected theorem Tidy.exec {i : Instr} (h : Tidy u) : Ends (exec i u) := by
  cases i
  · exact h.execResetNAssert
  · exact h.execPowerOnTimingDone
  · exact h.execInternalResetEnd
  · exact h.execBrownout
  · exact h.execThermWarn
  · exact h.execThermalTrip
  · exact h.execHkStop
  · exact h.execHkRestore
  · exact h.execPerstAssert
  · exact h.execPerstRelease
  · exact h.execPcieLinkChange
  · exact h.execMarrowInitDone
  · exact h.execRefMeasureDone
  · exact h.execDirectoryRead
  · exact h.execDirectoryReadTimeout
  · exact h.execImageVerify
  · exact h.execFabricConfigured
  · exact h.execFirmwareReady
  · exact h.execBootLoad
  · exact h.execFeatAcceptWrite
  · exact h.execFeatLock
  · exact h.execLockComplete
  · exact h.execKt440AutoLock
  · exact h.execPersonalityReady
  · exact h.execSpllCommit
  · exact h.execDivCommit
  · exact h.execClkSrcChange
  · exact h.execRefWindow
  · exact h.execRefQualify
  · exact h.execSpllLock
  · exact h.execSpllFail
  · exact h.execSpllLoss
  · exact h.execHoldSecond
  · exact h.execSlewDone
  · exact h.execProgrammeClockFade
  · exact h.execSyscntRead
  · exact h.execPtpSync
  · exact h.execPtpFollowUp
  · exact h.execPtpDelayResp
  · exact h.execPtpAnnounce
  · exact h.execPtpAnnounceTimeout
  · exact h.execPtpSyncTimeout
  · exact h.execPtpMasterSend
  · exact h.execPpsPulse
  · exact h.execPpsEnd
  · exact h.execGainApply
  · exact h.execGainApplied
  · exact h.execOvlWindowEnd
  · exact h.execLnaProtect
  · exact h.execAdcBlockArrival
  · exact h.execBlockRelease
  · exact h.execBlockDrop
  · exact h.execVoidToken
  · exact h.execGuardAbsorb
  · exact h.execGuardVoidSupply
  · exact h.execPaceWindowEnd
  · exact h.execFabIsolate
  · exact h.execFabRestore
  · exact h.execPodDrainEnd
  · exact h.execPodLoadDone
  · exact h.execReloadErr
  · exact h.execPodRelease
  · exact h.execMarrowCompletionDiscard
  · exact h.execLoadPortWrite
  · exact h.execPrResetPort
  · exact h.execPrStart
  · exact h.execPrVerifyDone
  · exact h.execBankDataWrite
  · exact h.execBankOpen
  · exact h.execBankSeal
  · exact h.execPathStart
  · exact h.execPathStop
  · exact h.execPathSync
  · exact h.execPathChangeInstant
  · exact h.execPathDeferredStop
  · exact h.execShiftWrite
  · exact h.execPathOutputBlock
  · exact h.execMetricWindow
  · exact h.execMetricPublish
  · exact h.execDemConfigWrite
  · exact h.execRdsBlock
  · exact h.execPiTimeout
  · exact h.execEnsStart
  · exact h.execEnsStop
  · exact h.execEnsResync
  · exact h.execSlotReleaseInstant
  · exact h.execEnsLock
  · exact h.execEnsLost
  · exact h.execEnsFrame
  · exact h.execSubchRecord
  · exact h.execDecStart
  · exact h.execDecStop
  · exact h.execDecRun
  · exact h.execDecWait
  · exact h.execDecConceal
  · exact h.execMultiplexReconfig
  · exact h.execFennelInfoUpdate
  · exact h.execFolStart
  · exact h.execFolStop
  · exact h.execAbortXfade
  · exact h.execFolSwitch
  · exact h.execFolRealign
  · exact h.execProgSearchStart
  · exact h.execProgOrigin
  · exact h.execProgStopped
  · exact h.execPoolIdleStop
  · exact h.execProgBlockForm
  · exact h.execCandidateAdd
  · exact h.execCandidateRemove
  · exact h.execCandidateUnusable
  · exact h.execCandidateUsable
  · exact h.execFolInelig
  · exact h.execPoolPathStart
  · exact h.execPoolPathTimeout
  · exact h.execFennelDecoderStart
  · exact h.execFennelDecoderStop
  · exact h.execScoreUpdate
  · exact h.execDiscretionarySwitch
  · exact h.execForcedSwitch
  · exact h.execHardSwitch
  · exact h.execXfadeEnd
  · exact h.execAlignMeasure
  · exact h.execLoudnessUpdate
  · exact h.execClistWrite
  · exact h.execMrwApply
  · exact h.execMarrowRequest
  · exact h.execMarrowReply
  · exact h.execMarrowWaitTimeout
  · exact h.execScrubStep
  · exact h.execRingRecordWrite
  · exact h.execAudioChannelAssign
  · exact h.execTimeshiftWrite
  · exact h.execSnpArm
  · exact h.execSnpTrig
  · exact h.execSnapStop
  · exact h.execSnapMatchTrigger
  · exact h.execSnapDone
  · exact h.execSapCtlWrite
  · exact h.execSapFrame
  · exact h.execSapClockStop
  · exact h.execSapBlockHandoff
  · exact h.execSapMapWrite
  · exact h.execSapMute
  · exact h.execSapTapBlock
  · exact h.execMaskCommit
  · exact h.execTcsApply
  · exact h.execAes3CsBlock
  · exact h.execEthLinkChange
  · exact h.execEthFrameRx
  · exact h.execAes67SenderEnable
  · exact h.execAes67PacketTx
  · exact h.execAes67PacketRx
  · exact h.execAes67ReceiverBlock
  · exact h.execVitaPacketTx
  · exact h.execVitaContextTx
  · exact h.execCasrumSideSend
  · exact h.execCasrumControlRx
  · exact h.execEgressTimeout
  · exact h.execBar0Access
  · exact h.execBar2Access
  · exact h.execBar2Retry
  · exact h.execDmaStreamRecord
  · exact h.execDmaCopyDescriptor
  · exact h.execMsixSignal
  · next _ be => exact h.execHbRead (_be := be)
  · exact h.execHbWriteLow
  · exact h.execHbWriteHigh
  · exact h.execHbBadCycle
  · exact h.execHbPageWrite
  · exact h.execHbQueueDeliver
  · exact h.execRegisterWrite
  · exact h.execRcRegisterRead
  · exact h.execEventRaise
  · exact h.execEventCoalesceRelease
  · exact h.execEvtClearWrite
  · exact h.execKtIndexWrite
  · exact h.execKtDataRead
  · exact h.execKtDataWrite
  · exact h.execKtStatWrite
  · exact h.execKtTune
  · exact h.execKtSeekUp
  · exact h.execKtSeekDown
  · exact h.execKtCancel
  · exact h.execKtPowerDown
  · exact h.execKtPowerUp
  · exact h.execKtSeekStep
  · exact h.execKtBusyFall
  · exact h.execKtFlush
  · exact h.execKtAudcfgWrite
  · exact h.execKtAudselWrite
  · exact h.execKtCaptureEnable
  · exact h.execPairFault
  · exact h.execPairRemap
  · exact h.execInterruptEntry
  · exact h.execCoreHalt
  · exact h.execCoreStep
  · exact h.execCoreKick
  · exact h.execCoreWdog
  · exact h.execWcLineFlush
  · exact .next h.izIssue
  · exact .next h.izIssue
  · exact .next h.izIssue
  · exact .next h.izIssue
  · exact .next h.izIssue
  · exact .next h.izIssue
  · exact .next h.izIssue
  · exact .next h.izIssue
  · exact .next h.izIssue
  · exact .next h.izIssue
  · exact .next h.izIssue
  · exact .next h.izIssue
  · exact .next h.izIssue
  · exact .next h.izIssue
  · exact .next h.izIssue
  · exact .next h.izIssue
  · exact .next h.izIssue
  · exact .next h.izIssue
  · exact .next h.izIssue
  · exact .next h.izIssue
  · exact .next h.izIssue
  · exact .next h.izIssue
  · exact .next h.izIssue
  · exact .next h.izIssue
  · exact .next h.izIssue
  · exact .next h.izIssue
  · exact .next h.izIssue
  · exact .next h.izIssue
  · exact .next h.izIssue
  · exact .next h.izIssue
  · exact .next h.izIssue
  · exact .next h.izIssue
  · exact .next h.izIssue
  · exact .next h.izIssue
  · exact .next h.izIssue
  · exact .next h.izIssue
  · exact .next h.izIssue
  · exact .next h.izIssue
  · exact .next h.izIssue
  · exact .next h.izIssue
  · exact .next h.izIssue
  · exact .next h.izIssue
  · exact .next h.izIssue
  · exact .next h.izIssue
  · exact .next h.izIssue
  · exact .next h.izIssue
  · exact .next h.izIssue
  · exact .next h.izIssue
  · exact .next h.izIssue
  · exact .next h.izIssue
  · exact .next h.izIssue
  · exact .next h.izIssue
  · exact .next h.izIssue
  · exact .next h.izIssue
  · exact .next h.izIssue
  · exact .next h.izIssue
  · exact .next h.izIssue
  · exact .next h.izIssue
  · exact .next h.izIssue
  · exact .next h.izIssue
  · exact .next h.izIssue
  · exact .next h.izIssue
  · exact .next h.izIssue
  · exact .next h.izIssue
  · exact .next h.izIssue
  · exact .next h.izIssue
  · exact .next h.izIssue
  · exact .next h.izIssue
  · exact .next h.izIssue
  · exact .next h.izIssue
  · exact .next h.izIssue
  · exact .next h.izIssue
  · exact .next h.izIssue
  · exact .next h.izIssue
  · exact .next h.izIssue
  · exact .next h.izIssue
  · exact .next h.izIssue
  · exact .next h.izIssue
  · exact .next h.izIssue
  · exact .next h.izIssue
  · exact .next h.izIssue
  · exact .next h.izIssue
  · exact .next h.izIssue
  · exact .next h.izIssue
  · exact .next h.izIssue
  · exact .next h.izIssue
  · exact .next h.izIssue
  · exact .next h.izIssue
  · exact .next h.izIssue
  · exact .next h.izIssue
  · exact .next h.izIssue
  · exact .next h.izIssue
  · exact .next h.izIssue
  · exact .next h.izIssue
  · exact .next h.izIssue
  · exact .next h.izIssue
  · exact .next h.izIssue
  · exact h.execExcKey
  · exact h.execExcUnkey
  · exact h.execExcClear
  · exact h.execDpdReset
  · exact h.execExcSequenceTimer
  · exact h.execExcRampEnd
  · exact h.execPaFault
  · exact h.execAutokey
  · exact h.execLaneEnableWrite
  · exact h.execPowerLoopUpdate
  · exact h.execOverpowerCheck
  · exact h.execTemplateCheck
  · exact h.execDpdUpdate
  · exact h.execDpdSuspend
  · exact h.execCouplerCommit
  · exact h.execExcRdsGroupSend
  · exact h.execExcDabFrame
  · exact h.execExcContentSend
  · exact h.execSlStandby
  · exact h.execSlRx
  · exact h.execSlTx
  · exact h.execSlOff
  · exact h.execSlCal
  · exact h.execSlAbort
  · exact h.execSlLock
  · exact h.execSlLockLoss
  · exact h.execSlPreambleDetect
  · exact h.execSlCapture
  · exact h.execSlSyncFound
  · exact h.execSlSyncTimeout
  · exact h.execSlHeader
  · exact h.execSlRxDone
  · exact h.execSlRxFree
  · exact h.execSlLbtEnd
  · exact h.execSlGrant
  · exact h.execSlGrantTimeout
  · exact h.execSlTxDone
  · exact h.execSlGntLost
  · exact h.execSlDutyBin
  · exact h.execSlBgcal
  · exact h.execCalRun
  · exact h.execCalCancel
  · exact h.execCalTempCheck
  · exact h.execCalCondMet
  · exact h.execCalWait
  · exact h.execCalWaitTimeout
  · exact h.execCalMeasureDone
  · exact h.execCalDone
  · exact h.execCalAbandon
  · exact h.execCalImgSave
  · exact h.execCalImgRestore
  · exact h.execSecRollFw
  · exact h.execSecRollBs
  · exact h.execSecToken
  · exact h.execSecNvWrite
  · exact h.execSecNvRead
  · exact h.execSecAttest
  · exact h.execAttestTokenRefill
  · exact h.execPodFault
  · exact h.execPodWatchdog
  · exact h.execInjectPod
  · exact h.execInjectPair
  · exact h.execCheckpointWrite
  · exact h.execWearSecond
  · exact h.execObsSnap
  · exact h.execObsClear
  · exact h.execRailsAboveBrownoutThreshold
  · exact h.execRefclkPresenceChange
  · exact h.execPtpDelayReqSend
  · exact h.execMarrowAdmissionWindow
  · exact h.execDmaClass1WaitTimeout
  · exact h.execUndefinedOpcode

theorem Tidy.step (h : Tidy u) : Ends (step u) := by
  unfold Machine.step
  split
  · exact .next h.clockTick
  · exact h.beside.exec

end

/-- Settles O57: every function of the model keeps the canonical form, and so does the command that a step takes. -/
theorem tablesStayCanonical : Obligations.TablesStayCanonical := by
  unfold Obligations.TablesStayCanonical
  intro s t hs ht
  exact (Tidy.step ⟨hs⟩ t ht).canonical

end Sys2Proof.Machine
end
